-- ==== Sys2Proof/Word.lean ====
section
/-! DEFINITION. The word types of the model: a byte as Umzin, the Store and the images carry it. -/

namespace Sys2Proof

/-- One byte of a message, an image or the Store. -/
abbrev Byte := BitVec 8

end Sys2Proof
end

