-- ==== Sys2Proof/Syntax.lean ====
section
/-! DEFINITION. The commands the block takes: one constructor per row of spec/opcode_table.json, with the operands that
the event or the operation brings from outside. Instants are in units of 2^-16 ns of the device clock. -/

namespace Sys2Proof

/-- An Umzin request (R51): the instant at which it leaves the queue of R64 to be carried out, port, source on a UDP port (address
and port as one number), the header's fields, the body, the instant at which it arrived on its port, and the UDP port that it was
sent to (R54). A dedicated write row overrides index, subindex and type with its own object. -/
structure Req where
  at_ : Nat
  port : Nat
  src : Nat
  version : Nat
  seq : Nat
  index : Nat
  sub : Nat
  ty : Nat
  transfer : Nat
  body : List Byte
  came : Nat
  dport : Nat
  deriving DecidableEq, Repr

/-- The Umzin operations a requester may send (R53, table of operations). -/
inductive Op where
  | read | write | rmw | readMeta | blockOpen | blockSegment | blockClose | blockAbort | subscribe | unsubscribe | replay
  deriving DecidableEq, Repr

/-- Why a message is dropped unanswered or answered with FORMAT (R50, R52, R54 to R56, R59). -/
inductive Drop where
  | framing | crc | portClosed | notReady | responseFlag | format
  deriving DecidableEq, Repr

/-- What a switch client asks a port for (R272): the unit whose transfer it moves. -/
inductive Access where
  | ingest (tile : Nat)
  | slotRead (ctx : Nat)
  | slotWrite (ctx : Nat)
  | laneRead (ctx : Nat)
  | peerWrite (ctx : Nat)
  | cellRead (ctx : Nat)
  | cellWrite (ctx : Nat)
  | dacRead (output : Nat)
  | service
  deriving DecidableEq, Repr

/-- A request that waits at a switch port (R273): client, time waited in ns,
what it moves, and the address of the transfer where it reads (DESIGN CHOICE, log entry 7). -/
structure Want where
  client : Nat
  waitNs : Nat
  access : Access
  addr : Nat
  deriving DecidableEq, Repr

/-- One grant of a switch port (R273): the port, the requests waiting, how long the grant lasts in ns, whether it activates
a row (R254), errors that the code and the stack correct in it, and whether its read fails the code twice (R260). -/
structure Grant where
  port : Nat
  wants : List Want
  held : Nat
  activates : Bool
  corrected : Nat
  uncorrectable : Bool
  deriving DecidableEq, Repr

/-- What the cadence monitors read in a 1 ms window (R268): engines in words/s by engine, ports in fs per transfer, clients
in B/s, records per s, forwarding in fs, and the Q resolutions over 0.3 ns (R271). -/
structure Cadence where
  engines : List Nat
  ports : List Nat
  ingest : Nat
  lane : Nat
  group : Nat
  sector : Nat
  records : Nat
  forward : Nat
  slow : Nat
  deriving DecidableEq, Repr

/-- A bus whose switch latches an upset has disturbed (R124): the bus of a pad, the test bus of a column pair, or the
selector of a tile with the pads whose buses it joined. -/
inductive Bus where
  | pad (n : Nat)
  | test (k : Nat)
  | selector (tile half : Nat) (pads : List Nat)
  deriving DecidableEq, Repr

/-- What one run of internal calibration measures on a tile (R334). Offsets in 1/1,000 LSB and gains in ppm, one for each
gain setting or half; linearity segments in 1/1,000 LSB; f0 in Hz for each half; sample phase and D_ana in fs; interleave
offset (1/1,000 LSB), gain (ppm) and skew (fs) of a pair; comparator offsets in µV; N_meas in V and J_ap in fs as F32
(DESIGN CHOICE, log entry 7). -/
structure CalRun where
  offsets : List Int
  gains : List Int
  linearity : List Int
  f0 : List Nat
  phase : Int
  dana : List Int
  ilv : Option (Int × Int × Int)
  monitors : List Int
  nMeas : Nat
  jAp : Nat
  deriving DecidableEq, Repr

/-- What a refresh of the limit ratios measures (R146 to R151): R_eq of the setting in force, J_ref and J_syn of the quadrant; all
F32 (DESIGN CHOICE, log entry 7). -/
structure LimitMeas where
  req : Nat
  jRef : Nat
  jSyn : Nat
  deriving DecidableEq, Repr

/-- What the interleave estimator sees (R145): output words since its last report, whether the input power in its band lies
below -40 dBFS, and the corrections it estimates (offset in word LSB, gain F32, skew in 8 fs steps). -/
structure IlvFacts where
  words : Nat
  quiet : Bool
  offset : Int
  gain : Nat
  skew : Int
  deriving DecidableEq, Repr

/-- What a received IEEE 1588 message tells the counter (R158 to R160): an Announce of a master in a domain, whether the
best-master algorithm selects it, and TAI - UTC; or a completed exchange with the selected master: the offset of the
counter from it in 2^-16 ns and the mean path delay in ps. -/
inductive Ptp where
  | announce (transport domain master : Nat) (selected : Bool) (utc : Int)
  | sync (transport domain : Nat) (offset : Int) (delay : Int)
  deriving DecidableEq, Repr

/-- A Rally fragment as it arrives: the 64 bits of its header, most significant first, and its payload (R180, R181). -/
structure Frag where
  header : Nat
  payload : List Byte
  deriving DecidableEq, Repr

/-- What CONTROL tells of a member (R179, R184, R188, R190, R193): its id, the identity of the device that bears it, whether a trunk lane of
it is up, whether it is aligned, whether it is in RUN or HOLD, the generators that it sources and backs up, the members at the far ends
of its lanes that are up, the one from which it takes its time (255: none) and the delay d_rx from that one in ps. -/
structure RallyMember where
  id : Nat
  device : Nat
  trunk : Bool
  aligned : Bool
  running : Bool
  sources : Nat
  backups : Nat
  links : List Nat
  up : Nat
  delay : Nat
  deriving DecidableEq, Repr

/-- The content of a CONTROL message (R181), whose bytes the spec does not lay out: a join with the versions offered as
ranges; what has changed at a member; the version chosen; a captaincy; a leave. -/
inductive Control where
  | join (m : RallyMember) (offer : List (Nat × Nat))
  | topology (m : RallyMember)
  | version (v : Nat)
  | captain (member : Nat) (lead : Bool)
  | leave (member : Nat)
  deriving DecidableEq, Repr

/-- What the first fragment of a peer stream's line tells (R196): the sender's line number, stamps, flags and gap count. -/
structure PeerHead where
  line : Nat
  stamp : Nat
  position : Nat
  fraction : Nat
  flags : Nat
  gap : Nat
  deriving DecidableEq, Repr

/-- A STREAM fragment (R196): its stream id, the line's head on its first fragment, samples, whether it is the line's last. -/
structure Peer where
  stream : Nat
  head : Option PeerHead
  data : List Byte
  last : Bool
  deriving DecidableEq, Repr

/-- What comes with an edge of a pace wire: the levels of the probed nets that lie in the clock network and the switch (bit m for probe
m; R293), and the WRITE cells, by sector and number, that could not take a word at the next edge (R290) (DESIGN CHOICE, log entry 7). -/
structure PaceFacts where
  taps : Nat
  full : List (Nat × Nat)
  deriving DecidableEq, Repr

/-- The wires that fabric logic drives out of sector q (R295, R349, R360, R391). -/
inductive FabricWire where
  | backstop (q i : Nat)
  | strobe (q i : Nat)
  | blank (q i : Nat)
  | pin (q i : Nat)
  | pinEnable (q i : Nat)
  deriving DecidableEq, Repr

/-- What the scrubber finds in a frame (R320 to R326): wrong configuration bits (0 none), whether the code corrects them, whether a
selector is not one-hot, whether a restore reads soundly and holds, latch copies that differ from the majority, whether the
map segment and the placement table fail their CRC twice (DESIGN CHOICE, log entry 7). -/
structure Finding where
  bits : List Nat
  correctable : Bool
  onehot : Bool
  restorable : Bool
  votes : Nat
  mapBad : Bool
  tableBad : Bool
  deriving DecidableEq, Repr

/-- What the end of a step of PREPARE brings: whether the step succeeded, and the sectors whose frames failed their readback
twice (R314). -/
structure StepFacts where
  ok : Bool
  lost : List Nat
  deriving DecidableEq, Repr

/-- The units that follow the enable rule (R101). -/
inductive UnitName where
  | tile (n : Nat)
  | synth (q : Nat)
  | enc (e : Nat)
  | pitch (p : Nat)
  | engine (n : Nat)
  | dac (n : Nat)
  | lane (n : Nat)
  | dacClock (d : Nat)
  | scrub
  deriving DecidableEq, Repr

/-- The commands, one per row of spec/opcode_table.json. -/
inductive Instr where
  /-- READ (R60): Umzin READ returns the atomic value of one object after the checks of R59. -/
  | read (q : Req)
  /-- WRITE (R60): Umzin WRITE stores a value atomically into any object that has no row of its own, staged objects included. -/
  | write (q : Req)
  /-- RMW (R60): Umzin RMW computes (old AND NOT mask) OR (value AND mask) and stores it with no access in between. -/
  | rmw (q : Req)
  /-- READ_META (R58): Umzin READ_META returns the type, access, attributes, last writer and limits of an object. -/
  | readMeta (q : Req)
  /-- BLOCK_OPEN (R65): Opens a segmented block transfer, grants a segment size and, for a read, snapshots the value. -/
  | blockOpen (q : Req)
  /-- BLOCK_SEGMENT (R65): Carries or requests one numbered segment of an open block transfer. -/
  | blockSegment (q : Req)
  /-- BLOCK_CLOSE (R66): Checks length, CRC and the object's own checks, then commits a block write atomically. -/
  | blockClose (q : Req)
  /-- BLOCK_ABORT (R66): Ends an open block transfer with no change. -/
  | blockAbort (q : Req)
  /-- BLOCK_TRANSFER_SILENCE (R66): A block transfer without a message for 2 s ends with no change and later answers TIMEOUT. -/
  | blockTransferSilence (t : Nat) (id : Nat)
  /-- SUBSCRIBE (R68): Creates or renews a subscription to an object or event node with its lease. -/
  | subscribe (q : Req)
  /-- UNSUBSCRIBE (R68): Ends a subscription held by the arrival port. -/
  | unsubscribe (q : Req)
  /-- SUBSCRIPTION_LEASE_EXPIRY (R68): A UDP subscription ends when its lease expires. -/
  | subscriptionLeaseExpiry (t : Nat) (id : Nat)
  /-- PERIODIC_NOTICE (R68): At each minimum interval a periodic subscription sends a notice whether or not anything changed. -/
  | periodicNotice (t : Nat) (id : Nat)
  /-- REPLAY (R70): Checks and accepts a request to resend retained lines of a context on a lane. -/
  | replay (q : Req)
  /-- REQUEST_QUEUE_TIMEOUT (R64): A request waiting more than 10 ms at the access point is answered TIMEOUT and not carried out. -/
  | requestQueueTimeout (q : Req) (op : Op)
  /-- SPI_STATUS (R55): The quad-SPI STATUS command returns the status byte and clears its sticky bits. -/
  | spiStatus (t : Nat)
  /-- SPI_RESPONSE (R55): The quad-SPI RESPONSE command returns the oldest waiting response. -/
  | spiResponse (t : Nat)
  /-- SPI_NOTIFICATION (R55): The quad-SPI NOTIFICATION command returns the oldest queued notification. -/
  | spiNotification (t : Nat)
  /-- PARALLEL_STATUS_READ (R56): A read of the parallel STATUS register returns the status byte and clears its sticky bits. -/
  | parallelStatusRead (t : Nat) (levels : Bool)
  /-- PARALLEL_RESPONSE_READ (R56): A read of the parallel RESPONSE FIFO takes out a response. -/
  | parallelResponseRead (t : Nat)
  /-- PARALLEL_NOTIFICATION_READ (R56): A read of the parallel NOTIFICATION FIFO takes out a notification. -/
  | parallelNotificationRead (t : Nat)
  /-- UMZIN_RSP (R56): The JTAG UMZIN_RSP instruction shifts out the oldest response or notification. -/
  | umzinRsp (t : Nat)
  /-- MODE_REQUEST_STANDBY (R76): A write of STANDBY to device.mode.request starts a shutdown to STANDBY. -/
  | modeRequestStandby (q : Req)
  /-- MODE_REQUEST_PREPARE (R77): A write of PREPARE to device.mode.request starts or retargets PREPARE. -/
  | modeRequestPrepare (q : Req)
  /-- MODE_REQUEST_RUN (R77): A write of RUN starts PREPARE with target RUN, or enters RUN from HOLD or PREPARE. -/
  | modeRequestRun (q : Req)
  /-- MODE_REQUEST_HOLD (R87): A write of HOLD requests HOLD from RUN, or PREPARE with target HOLD. -/
  | modeRequestHold (q : Req)
  /-- MODE_REQUEST_SAFE (R93): A write of SAFE latches cause COMMAND and enters SAFE. -/
  | modeRequestSafe (q : Req)
  /-- MODE_REQUEST_CANCEL (R76): A write of 0x00 cancels any pending mode request. -/
  | modeRequestCancel (q : Req)
  /-- MODE_LOAD (R76): A BENCH write of 1 to device.mode.load requests LOAD. -/
  | modeLoad (q : Req)
  /-- PREPARE_STEP_END (R84): The completion of a timed step of PREPARE starts the next step or ends PREPARE in its target mode. -/
  | prepareStepEnd (t : Nat) (f : StepFacts)
  /-- ALIGN_LIMIT_EXPIRY (R86): The alignment budget expires: the alignment event is raised and a device without its first exchange starts step 6 and slews. -/
  | alignLimitExpiry (t : Nat)
  /-- RUN_ENTRY_TRIGGER (R77): The device enters RUN at the next line trigger of a pitch generator used by a placed context. -/
  | runEntryTrigger (t : Nat) (p : Nat)
  /-- HOLD_TAKES_EFFECT (R87): HOLD takes effect once every used generator has triggered or 10 µs have passed. -/
  | holdTakesEffect (t : Nat)
  /-- AUTO_RESUME (R88): After a standstill HOLD with auto_resume set, the device re-enters RUN at the first trigger once the rate check passes. -/
  | autoResume (t : Nat) (p : Nat)
  /-- DRAIN_COMPLETE (R90): The drain from RUN or HOLD completes and contexts become DEFINED in LOAD. -/
  | drainComplete (t : Nat)
  /-- SHUTDOWN_STEP_END (R91): A timed step of the shutdown to STANDBY completes. -/
  | shutdownStepEnd (t : Nat)
  /-- WAKE_STEP_END (R92): A step of the wake from STANDBY completes, restoring the fabric or falling back to LOAD. -/
  | wakeStepEnd (t : Nat) (ok : Bool)
  /-- SAFE_RINGS_FREEZE (R93): Rings freeze at the next line or block boundary after SAFE entry and contexts become PRIMED. -/
  | safeRingsFreeze (t : Nat)
  /-- SAFE_CLEAR (R96): A write to device.safe.clear clears each named cause whose condition no longer holds. -/
  | safeClear (q : Req)
  /-- DEVICE_RESET (R102): A write of 0xA55A to device.reset resets the device with pins held by the pad latches. -/
  | deviceReset (q : Req)
  /-- WATCHDOG_EXPIRY (R93): Management firmware silent for 500 ms latches SAFE cause WATCHDOG. -/
  | watchdogExpiry (t : Nat)
  /-- WATCHDOG_RESET (R95): 100 ms after a WATCHDOG SAFE entry the device resets and boots to LOAD. -/
  | watchdogReset (t : Nat)
  /-- SHADOW_COPY_COMPLETE (R91): The shadow copy of a commit completes and device.standby.shadow reads 1. -/
  | shadowCopyComplete (t : Nat)
  /-- POR_N_LOW (R401): A qualified low on POR_N resets every unit in full. -/
  | porNLow (t : Nat)
  /-- POR_N_RELEASE (R80): Release of POR_N starts the power-on sequence and the boot ROM. -/
  | porNRelease (t : Nat)
  /-- BACKSTOP_LIVE (R80): Step 1 of power-on completes: strap sampled, Backstop image loaded and pins driven to defaults. -/
  | backstopLive (t : Nat) (strap : Bool) (bad : Nat)
  /-- STORE_TRAINING_END (R82): HBM3 PHY training ends; a failure latches SAFE cause STORE. -/
  | storeTrainingEnd (t : Nat) (ok : Bool) (repaired : Nat)
  /-- REFCLK_DETECTED (R153): REFCLK frequency measurement completes; no valid frequency latches SAFE cause REFCLK. -/
  | refclkDetected (t : Nat) (hz : Nat)
  /-- BOOT_HEADER_READ (R39): The boot ROM reads both slot headers and rejects an invalid selected slot. -/
  | bootHeaderRead (t : Nat) (board : Bool)
  /-- BOOT_IMAGE_READ (R39): The selected image has been read and its CRC checked; a failure falls back to the other slot. -/
  | bootImageRead (t : Nat) (ok : Bool)
  /-- FIRMWARE_CONFIRMED (R80): The management firmware confirms itself and the device enters LOAD. -/
  | firmwareConfirmed (t : Nat)
  /-- CONFIRM_TIMEOUT (R39): An image not confirmed by the maximum time causes fallback to the other slot or RESCUE. -/
  | confirmTimeout (t : Nat)
  /-- RAIL_EXCURSION (R416): A rail outside its RAIL window for 10 µs latches SAFE cause RAIL. -/
  | railExcursion (t : Nat) (rail : Nat) (mv : Int)
  /-- RAIL_BELOW_RESET (R412): VCORE or VIOC below its reset threshold for 1 µs resets the device with reset cause 3. -/
  | railBelowReset (t : Nat) (rail : Nat) (mv : Int)
  /-- DAC_SUPPLY_LOSS (R416): VP12, VN12 or VANA18 falling below its limit sends every DAC output to its OFF clamp at once. -/
  | dacSupplyLoss (t : Nat) (rail : Nat) (mv : Int)
  /-- TEMP_SENSOR_READ (R425): The 1 ms temperature read compares device.temp.max with tj_limit and may latch THERMAL. -/
  | tempSensorRead (t : Nat) (digital : Int) (ana0 : Int) (ana1 : Int)
  /-- SAFE_N_LOW (R400): A qualified low on SAFE_N latches SAFE cause PIN. -/
  | safeNLow (t : Nat)
  /-- VERSIONS_ACCEPT_WRITE (R36): A BENCH write of versions.accept; from 0 to 1 it rechecks FACTORY dies and accepts untested pairs. -/
  | versionsAcceptWrite (q : Req)
  /-- MGMT_SELECT_WRITE (R48): A write of versions.mgmt.select stores the slot in boot flash and takes effect at the next reset. -/
  | mgmtSelectWrite (q : Req)
  /-- FIRMWARE_SLOT_PROGRAMMED (R41): Programming of a firmware slot completes with read-back and header write, or ends FAULT. -/
  | firmwareSlotProgrammed (t : Nat) (slot : Nat) (ok : Bool)
  /-- REFCLK_LOSS (R156): A missing REFCLK edge or frequency fault puts every clock into holdover. -/
  | refclkLoss (t : Nat)
  /-- REFCLK_RETURN (R156): REFCLK back in tolerance for 1 ms: synthesisers re-lock and the state returns to OK. -/
  | refclkReturn (t : Nat)
  /-- HOLDOVER_LIMIT_EXPIRY (R156): Holdover lasting time.refclk.holdover_limit latches SAFE cause REFCLK. -/
  | holdoverLimitExpiry (t : Nat)
  /-- SYNTH_LOCKED (R155): A quadrant synthesiser ends STARTING and its phase against REFCLK is measured. -/
  | synthLocked (t : Nat) (n : Nat) (phase : Int)
  /-- TIME_SET (R159): A write of time.set sets the TIME96 counter when the source is FREE and a step is permitted. -/
  | timeSet (q : Req)
  /-- PTP_MESSAGE (R158): A received IEEE 1588 message disciplines the counter by slewing or stepping. -/
  | ptpMessage (t : Nat) (m : Ptp)
  /-- PTP_ANNOUNCE_TIMEOUT (R158): Missing Announce messages lose the master and the counter enters holdover. -/
  | ptpAnnounceTimeout (t : Nat)
  /-- ENCODER_EDGE (R161): A filtered encoder edge is counted and time-stamped, and pitch generators re-predict. -/
  | encoderEdge (t : Nat) (e : Nat) (a : Bool) (b : Bool) (held : Nat)
  /-- ENCODER_Z_EDGE (R164): A qualified Z edge latches or loads the position per z_mode. -/
  | encoderZEdge (t : Nat) (e : Nat)
  /-- ENCODER_WINDOW (R163): Every 1 ms the encoder measures rate and acceleration and updates RANGE and the rate check. -/
  | encoderWindow (t : Nat) (e : Nat)
  /-- ENCODER_STANDSTILL (R163): No counted edge for enc.standstill sets STANDSTILL. -/
  | encoderStandstill (t : Nat) (e : Nat)
  /-- ENCODER_SIGNAL_LOSS (R163): A differential input below 200 mV for more than 1 µs sets SIGNAL. -/
  | encoderSignalLoss (t : Nat) (e : Nat)
  /-- ENC_PRESET_WRITE (R164): A write of enc.preset loads the position and sets REFERENCED outside RUN. -/
  | encPresetWrite (q : Req) (e : Nat)
  /-- ENC_FILTER_WRITE (R162): A write of enc.glitch or enc.rate_max is checked against the other value in force. -/
  | encFilterWrite (q : Req) (e : Nat) (rateMax : Bool)
  /-- ENC_ENABLE (R166): A write of enc.enable starts or stops the encoder under the enable rule. -/
  | encEnable (q : Req) (e : Nat)
  /-- LINE_TRIGGER (R169): At the predicted crossing instant the pitch generator issues a trigger and advances its line number. -/
  | lineTrigger (t : Nat) (p : Nat)
  /-- CDS_LINE_END (R115): At the end of a CDS line the black clamp updates its offset from the black pixels. -/
  | cdsLineEnd (t : Nat) (n : Nat)
  /-- RALLY_TIME_SEND (R182): Every 2 µs a lane sends a TIME fragment. -/
  | rallyTimeSend (t : Nat) (lane : Nat)
  /-- RALLY_TIME_FRAGMENT (R182): A received TIME fragment updates offset and steers the timebase loop. -/
  | rallyTimeFragment (t : Nat) (lane : Nat) (f : Frag)
  /-- SHARED_TRIGGER_ANNOUNCE (R187): A shared-source generator floods a TRIGGER fragment for the first target at least H ahead. -/
  | sharedTriggerAnnounce (t : Nat) (p : Nat)
  /-- TRIGGER_HEARTBEAT (R187): With no line due, the source sends a heartbeat TRIGGER every 100 µs. -/
  | triggerHeartbeat (t : Nat) (p : Nat)
  /-- RALLY_TRIGGER_FRAGMENT (R189): A received TRIGGER fragment schedules the announced line at its instant. -/
  | rallyTriggerFragment (t : Nat) (lane : Nat) (f : Frag)
  /-- TRIGGER_TIMEOUT (R189): No line or heartbeat for rally.trigger_timeout is treated as standstill. -/
  | triggerTimeout (t : Nat) (p : Nat)
  /-- RALLY_TRACK_FRAGMENT (R189): A received TRACK fragment extends the replica position track. -/
  | rallyTrackFragment (t : Nat) (lane : Nat) (f : Frag)
  /-- RALLY_CONTROL_FRAGMENT (R194): A received CONTROL fragment carries topology, join, leave, negotiation or captaincy. -/
  | rallyControlFragment (t : Nat) (lane : Nat) (hop : Nat) (c : Control)
  /-- WHISTLE_FRAGMENT (R191): A received whistle is acted on once and forwarded in hardware. -/
  | whistleFragment (t : Nat) (lane : Nat) (f : Frag)
  /-- UMZIN_FRAGMENT (R181): An UMZIN fragment is forwarded toward its destination member and arrives as a FORMATION access. -/
  | umzinFragment (t : Nat) (lane : Nat) (hop : Nat) (dest : Nat) (origin : Nat) (bytes : List Byte)
  /-- STREAM_FRAGMENT (R196): A received STREAM fragment writes peer-stream lines into the receiving context's ring. -/
  | streamFragment (t : Nat) (lane : Nat) (f : Peer)
  /-- RALLY_LANE_LOST (R194): Loss of signal or four missing TIME fragments loses the lane and starts healing and succession. -/
  | rallyLaneLost (t : Nat) (lane : Nat)
  /-- HEALING_TIMEOUT (R186): No new upstream aligned within 5 ms makes the member ISLAND or STANDALONE_LOST. -/
  | healingTimeout (t : Nat)
  /-- NEGOTIATION_WINDOW (R193): The lead captain chooses v* once offers are in or 200 ms have passed. -/
  | negotiationWindow (t : Nat)
  /-- BACKSTOP_WHISTLE (R297): A rising edge of a Backstop whistle output raises a whistle. -/
  | backstopWhistle (t : Nat) (j : Nat)
  /-- FE_BATCH (R199): Engine n serves the next slot's turn with the words available in its raw ring. -/
  | feBatch (t : Nat) (n : Nat)
  /-- PRIMING_COMPLETE (R212): A slot finishes priming and catching up and resumes RUNNING. -/
  | primingComplete (t : Nat) (n : Nat) (s : Nat)
  /-- FE_ENABLE (R218): A write of fe.enable starts or stops the engine, refused while a slot holds a context. -/
  | feEnable (q : Req) (n : Nat)
  /-- COEF_SET_WRITE (R205): A write of a coefficient set is checked and refused while the set is in use. -/
  | coefSetWrite (q : Req) (c : Nat)
  /-- BOARD_COMMIT (R220): A write of 1 to board.commit starts programming the written facts into the store. -/
  | boardCommit (q : Req)
  /-- BOARD_PROGRAMMED (R220): Programming of the board store completes and the new copy comes into force. -/
  | boardProgrammed (t : Nat)
  /-- GRAPH_COMMIT (R223): A write of 1 to graph.commit checks and replaces the whole channel graph. -/
  | graphCommit (q : Req)
  /-- PLACER_TRIAL (R238): A write of placer.trial runs a placement on the inputs in force without changing anything. -/
  | placerTrial (q : Req)
  /-- TRIAL_COMPLETE (R238): A trial placement ends and its result and digest appear. -/
  | trialComplete (t : Nat)
  /-- DEFECT_ADD (R226): A write of placer.defect_add adds a BENCH entry to the defect list. -/
  | defectAdd (q : Req)
  /-- DEFECT_CLEAR (R226): A write of placer.defect_clear removes every defect entry not of cause BOARD. -/
  | defectClear (q : Req)
  /-- CTX_RETRY (R236): A write of ctx.retry starts a new substitution attempt for a context. -/
  | ctxRetry (q : Req) (c : Nat)
  /-- CTX_SWAP (R236): A write of ctx.swap substitutes the context onto the named tile. -/
  | ctxSwap (q : Req) (c : Nat)
  /-- SUBSTITUTION_STEP_END (R233): A timed step of a substitution completes and the next begins. -/
  | substitutionStepEnd (t : Nat) (tile : Nat) (ok : Bool)
  /-- SUBSTITUTION_SWITCH (R233): At the switch boundary the context takes its words from the substitute. -/
  | substitutionSwitch (t : Nat) (tile : Nat)
  /-- SWAPPED_COUNT_EXPIRY (R233): After swap_lines lines SWAPPED clears and the substitution is counted. -/
  | swappedCountExpiry (t : Nat) (c : Nat)
  /-- PIECE_MOVE_STEP_END (R235): A step of a piece move after an essential upset completes. -/
  | pieceMoveStepEnd (t : Nat) (j : Nat)
  /-- CTX_RING_RESUME (R248): A write of ctx.ring.resume resumes a ring STOPPED by its policy. -/
  | ctxRingResume (q : Req) (c : Nat)
  /-- ARB_GRANT (R273): A switch port grants one 64-byte transfer to a requesting client. -/
  | arbGrant (t : Nat) (g : Grant)
  /-- GRANT_HOLD_LIMIT (R275): A grant still incomplete at arb.hold_limit is cut off and its client red-carded. -/
  | grantHoldLimit (t : Nat) (p : Nat) (client : Nat)
  /-- ARB_CLIENT_CLEAR (R276): A write of arb.client.clear readmits a RED client and clears wait_max. -/
  | arbClientClear (q : Req) (i : Nat)
  /-- ARB_CLEAR_ALL (R276): A write of arb.clear_all readmits every client. -/
  | arbClearAll (q : Req)
  /-- ARB_LIBERO_WRITE (R273): A write of arb.libero_n takes effect at every port, which restarts its grant count. -/
  | arbLiberoWrite (q : Req)
  /-- ARB_SYNC_CLEAR (R271): A write of arb.sync.clear clears the slow-resolution counter. -/
  | arbSyncClear (q : Req)
  /-- CADENCE_REFRESH (R269): Each 1 ms cadence refresh compares monitors with their slow-corner figures. -/
  | cadenceRefresh (t : Nat) (m : Cadence)
  /-- WRITE_DRAIN_START (R252): A write drain starts on watermark, ingest write age or an idle read queue. -/
  | writeDrainStart (t : Nat) (p : Nat)
  /-- WRITE_DRAIN_END (R252): A drain ends at the low watermark with no ingest write left. -/
  | writeDrainEnd (t : Nat) (p : Nat)
  /-- REFRESH_INTERVAL (R253): Each tREFI adds refresh debt and per-bank refreshes repay it. -/
  | refreshInterval (t : Nat) (p : Nat) (blocked : Bool)
  /-- STACK_TEMP_READ (R239): The stack temperature is read every 1 ms and sets tREFI. -/
  | stackTempRead (t : Nat) (temp : Int)
  /-- TAIL_FLUSH_TIMEOUT (R245): A ring's tail transfer is written when its oldest word has waited 4 µs. -/
  | tailFlushTimeout (t : Nat) (c : Nat)
  /-- RT_WAIT_EXCEEDED (R257): A real-time request waiting longer than 16 µs raises the TIMING source. -/
  | rtWaitExceeded (t : Nat) (p : Nat) (wait : Nat)
  /-- STORE_PC_CLEAR (R257): A write of store.pc.clear clears debt_max and rt_wait_max. -/
  | storePcClear (q : Req) (p : Nat)
  /-- REGION_COPY_COMPLETE (R260): A retired region's copy completes and the map switches to the spare. -/
  | regionCopyComplete (t : Nat)
  /-- PARITY_RETRY (R263): A parity error is retried after 100 ns, becoming fatal after three retries. -/
  | parityRetry (t : Nat) (p : Nat) (ok : Bool)
  /-- SHADOW_PATROL (R265): Every 10 s the whole shadow is read and corrected transfers written back. -/
  | shadowPatrol (t : Nat) (addrs : List Nat) (bad : List Nat)
  /-- PROBE_ARM (R294): A write of probe.arm starts or restarts capture. -/
  | probeArm (q : Req)
  /-- PROBE_TRIGGER (R294): The selected edge of the trigger net sets TRIGGERED and records time and index. -/
  | probeTrigger (t : Nat)
  /-- PROBE_DONE (R294): After the post-trigger share of the ring the capture reads DONE. -/
  | probeDone (t : Nat)
  /-- BACKSTOP_PROGRAMMED (R302): Programming of the inactive Backstop bank completes and the pointer moves. -/
  | backstopProgrammed (t : Nat) (ok : Bool)
  /-- BACKSTOP_ACTIVATE (R303): A write of backstop.activate reloads the macrocells with the new image. -/
  | backstopActivate (q : Req)
  /-- BACKSTOP_LATCH_CHECK (R298): Every 100 ms the voted latches are compared with the image and corrected. -/
  | backstopLatchCheck (t : Nat) (upsets : Nat)
  /-- CONFIG_SECTOR_RELOAD (R315): A write of config.sector.reload starts rewriting one sector from the staged image. -/
  | configSectorReload (q : Req) (k : Nat)
  /-- RELOAD_STEP_END (R317): A timed step of a sector reload completes. -/
  | reloadStepEnd (t : Nat) (ok : Bool)
  /-- SCRUB_FRAME (R320): The scrubber reads one frame and acts on any error it finds. -/
  | scrubFrame (t : Nat) (f : Finding)
  /-- SCRUB_ENABLE (R324): A write of scrub.enable starts or stops the scrubber. -/
  | scrubEnable (q : Req)
  /-- SCRUB_WATCHDOG (R327): No frame completed for 10 µs resets the scrubber sequencer. -/
  | scrubWatchdog (t : Nat)
  /-- CAL_INTERNAL (R334): A cal.command of kind INTERNAL queues internal calibration of the tiles in scope. -/
  | calInternal (q : Req)
  /-- CAL_DARK (R344): A cal.command of kind DARK queues a dark scene calibration. -/
  | calDark (q : Req)
  /-- CAL_FLAT (R344): A cal.command of kind FLAT queues a flat scene calibration. -/
  | calFlat (q : Req)
  /-- LADDER_TRACE_END (R332): The ladder trace ends with PASS or FAIL before tiles are calibrated. -/
  | ladderTraceEnd (t : Nat) (ok : Bool)
  /-- CAL_RUN_END (R336): A calibration run of a tile completes; after run 2 the runs are compared. -/
  | calRunEnd (t : Nat) (n : Nat) (r : CalRun)
  /-- SCENE_RUN_END (R343): A scene calibration run completes; after run 2 the table is judged. -/
  | sceneRunEnd (t : Nat) (n : Nat) (held : List (Int × Nat))
  /-- INVAR_CHECK (R331): Every 100 ms the check reference is compared with the ladder mid tap. -/
  | invarCheck (t : Nat) (ppm : Int)
  /-- LIMIT_REFRESH (R148): Every 100 ms the noise and timing ratios are refreshed and alarms judged. -/
  | limitRefresh (t : Nat) (n : Nat) (m : LimitMeas)
  /-- ILV_WORD_COUNT (R145): The interleave estimator counts output words and changes state at its counts. -/
  | ilvWordCount (t : Nat) (n : Nat) (f : IlvFacts)
  /-- ILV_RESET (R145): A write of tile.ilv.reset returns the estimator to ACQUIRING. -/
  | ilvReset (q : Req) (n : Nat)
  /-- TILE_FAULT (R339): A tile's hardware check finds a fault, latches it and lists the tile as a defect. -/
  | tileFault (t : Nat) (n : Nat) (bit : Nat)
  /-- MONITOR_TRIP (R348): The majority filter reaches k of n decisions and the monitor changes state. -/
  | monitorTrip (t : Nat) (n : Nat) (i : Nat) (inputs : List (Int × Int))
  /-- MONITOR_WRITE (R353): A write of a monitor object takes effect from the first tick 1 µs after its response. -/
  | monitorWrite (q : Req) (n : Nat) (i : Nat) (sub : Nat)
  /-- SCENE_ENABLE_WRITE (R345): A write of scene.enable applies the scene table from the next line through a ramp. -/
  | sceneEnableWrite (q : Req) (n : Nat)
  /-- BUS_CONTENTION (R124): A second driver or non-one-hot selector opens the bus and marks it CONTENDED. -/
  | busContention (t : Nat) (bus : Bus)
  /-- CONTENTION_RECOVERY (R124): Firmware rewrites the switch latches and the bus reads DRIVEN again. -/
  | contentionRecovery (t : Nat) (bus : Bus)
  /-- PAD_OVERLOAD (R129): A clamp current above 0.2 mA sets the latched overload flag. -/
  | padOverload (t : Nat) (n : Nat)
  /-- PAD_CLEAR (R129): A write of tile.pad.clear clears the latched overload flag. -/
  | padClear (q : Req) (n : Nat)
  /-- PAD_TERM_WRITE (R127): A write of tile.pad.term changes the termination within 1 µs. -/
  | padTermWrite (q : Req) (n : Nat)
  /-- PAD_TEST_WRITE (R123): A BENCH write of tile.pad.test closes the test bridge while the entry switch is open. -/
  | padTestWrite (q : Req) (n : Nat)
  /-- BUF_PEAK_CLEAR (R120): A write of tile.buf.peak_clear clears the peak fill. -/
  | bufPeakClear (q : Req) (n : Nat)
  /-- DAC_ENABLE (R366): A write of dac.enable starts or stops an output. -/
  | dacEnable (q : Req) (n : Nat)
  /-- DAC_STROBE (R361): At each strobe an output takes its next word from the feed buffer. -/
  | dacStrobe (t : Nat) (g : Nat)
  /-- DEGLITCH_HOLD_END (R365): A deglitch hold ends and the waiting code enters. -/
  | deglitchHoldEnd (t : Nat) (n : Nat)
  /-- SAFE_MOVE_END (R367): The safe move of an output reaches its safe code. -/
  | safeMoveEnd (t : Nat) (n : Nat)
  /-- DAC_CURRENT_LIMIT (R369): Current limiting for more than 1 µs sets SHORT. -/
  | dacCurrentLimit (t : Nat) (n : Nat)
  /-- DAC_SHORT_TIMEOUT (R369): Limiting persisting for short_ms disables the output and sets SHORT_OFF. -/
  | dacShortTimeout (t : Nat) (n : Nat)
  /-- DAC_CLEAR (R369): A write of dac.clear clears the latched flags. -/
  | dacClear (q : Req) (n : Nat)
  /-- LANE_ENABLE (R372): A write of lane.enable starts or stops a lane, moving its streams. -/
  | laneEnable (q : Req) (n : Nat)
  /-- LANE_LINK_UP (R374): A lane's link comes up after negotiation and training. -/
  | laneLinkUp (t : Nat) (n : Nat)
  /-- LANE_LINK_DOWN (R374): Loss of signal or codeword alignment takes the link DOWN. -/
  | laneLinkDown (t : Nat) (n : Nat)
  /-- FEC_UNCORRECTABLE (R385): A codeword that cannot be corrected drops its contents and raises FEC. -/
  | fecUncorrectable (t : Nat) (n : Nat)
  /-- FEC_SER_CHECK (R384): Each second the symbol error ratio is compared with fec_limit. -/
  | fecSerCheck (t : Nat) (n : Nat) (symbols : Nat) (errors : Nat)
  /-- PAUSE_FRAME (R378): A received PAUSE frame holds transmission for its quanta. -/
  | pauseFrame (t : Nat) (n : Nat) (quanta : Nat)
  /-- PAUSE_EXPIRY (R378): PAUSE quanta run out and transmission resumes. -/
  | pauseExpiry (t : Nat) (n : Nat)
  /-- FLOW_LIMIT_EXPIRY (R378): A hold lasting flow_limit raises the FLOW source. -/
  | flowLimitExpiry (t : Nat) (n : Nat)
  /-- ARP_REQUEST (R375): An ARP request or neighbour solicitation for an own address is answered. -/
  | arpRequest (t : Nat) (port : Nat) (target : Nat) (v6 : Bool) (sender : Nat) (mac : Nat)
  /-- ICMP_ECHO (R375): An ICMP echo request is answered. -/
  | icmpEcho (t : Nat) (port : Nat) (src : Nat) (data : List Byte)
  /-- ARP_REPLY (R377): An ARP reply or neighbour advertisement resolves the destination MAC. -/
  | arpReply (t : Nat) (n : Nat) (addr : Nat) (mac : Nat)
  /-- RESOLUTION_RETRY (R377): Every 100 ms an unresolved destination is resolved again. -/
  | resolutionRetry (t : Nat) (n : Nat)
  /-- RESOLUTION_REFRESH (R377): Every 60 s a resolved destination is refreshed. -/
  | resolutionRefresh (t : Nat) (n : Nat)
  /-- STREAM_PACKET_SEND (R382): At each frame boundary the lane sends the first waiting answer, live packet or replay packet. -/
  | streamPacketSend (t : Nat) (n : Nat)
  /-- LANE_CLEAR (R385): A write of lane.clear zeroes the lane counters. -/
  | laneClear (q : Req) (n : Nat)
  /-- MGMT_CLEAR (R386): A write of ports.mgmt.clear zeroes the management port counters. -/
  | mgmtClear (q : Req)
  /-- GPIO_BANK_WRITE (R392): A masked write of gpio.bank.write merges levels inside the device and changes pins. -/
  | gpioBankWrite (q : Req) (b : Nat)
  /-- GPIO_OUT_WRITE (R392): A write of gpio.bank.out replaces all sixteen output levels. -/
  | gpioOutWrite (q : Req) (b : Nat)
  /-- GPIO_FUNC_WRITE (R391): A write of gpio.pin.func stores a function or starts a switch. -/
  | gpioFuncWrite (q : Req) (k : Nat)
  /-- PIN_LATCH_CAPTURE (R395): The pad latch captures and holds the pin level during a switch. -/
  | pinLatchCapture (t : Nat) (k : Nat)
  /-- FUNC_FIRST_HANDSHAKE (R395): The new function's level equals the latched level and the latch releases. -/
  | funcFirstHandshake (t : Nat) (k : Nat)
  /-- PIN_INPUT_CHANGE (R394): A filtered pin input change is accepted after holding for the filter time. -/
  | pinInputChange (t : Nat) (k : Nat) (level : Bool) (held : Nat)
  /-- BANK_VIO_CHECK (R388): Each 1 ms the bank rail is measured and a fault sets high impedance. -/
  | bankVioCheck (t : Nat) (b : Nat) (mv : Nat)
  /-- PATTERN_WRITE (R398): A write of a pattern unit object takes effect after 1 µs and restarts the hold. -/
  | patternWrite (q : Req) (u : Nat) (sub : Nat)
  /-- PATTERN_MATCH (R397): A qualified match or mismatch activates the pattern unit per its mode. -/
  | patternMatch (t : Nat) (u : Nat)
  /-- EVENT_CLEAR (R409): A write of event.clear clears a latched status when the count matches. -/
  | eventClear (q : Req) (n : Nat)
  /-- CLEAR_NODE (R409): A write of device.events.clear_node clears every latched source below a node. -/
  | clearNode (q : Req)
  /-- EVENT_TEST (R411): A write of device.events.test raises source 767. -/
  | eventTest (q : Req)
  /-- EVENT_ENABLE_WRITE (R406): A write of enable, severity or irq re-evaluates delivery at once. -/
  | eventEnableWrite (q : Req) (n : Nat) (sub : Nat)
  /-- EVENT_LATCH_WRITE (R405): A write of event.latch changes latching at once. -/
  | eventLatchWrite (q : Req) (n : Nat)
  /-- SAMPLE_INSTANT (R120): At each sample instant a tile converts a word into its ingest buffer, counting overrange and clips and ending blocks and scan slots by word count. -/
  | sampleInstant (t : Nat) (n : Nat) (half : Nat) (codes : List Int) (far : Bool)
  /-- PORT_CELL_WORD (R292): Fabric logic offers or takes a word at a port cell, with EOL closing an output line, and a word offered while READY is low is dropped. -/
  | portCellWord (t : Nat) (q : Nat) (k : Nat)
  /-- FABRIC_WIRE_CHANGE (R295): A fabric-to-Backstop, strobe, blanking or pin wire driven by fabric logic changes level and acts on the Backstop, a DAC group, a monitor or a pin. -/
  | fabricWireChange (t : Nat) (w : FabricWire)
  /-- PACE_WIRE_EDGE (R288): An edge of a pace wire clocks PACED port cells, Backstop PACE macrocells and probe capture samples. -/
  | paceWireEdge (t : Nat) (i : Nat) (w : PaceFacts)
  /-- BACKSTOP_OSC_EDGE (R296): An edge of the Backstop's own 40 MHz oscillator clocks its OSC-registered macrocells and SYNC input flip-flops. -/
  | backstopOscEdge (t : Nat)
  /-- ENABLE_TRANSITION_END (R99): A unit's STARTING or STOPPING ends and it reads ON or OFF, honouring any pending enable. -/
  | enableTransitionEnd (t : Nat) (u : UnitName)
  /-- MACROCELLS_RELOADED (R303): After an activation the macrocells finish reloading, the pins go to the new defaults and versions.backstop, backstop.crc and pending change. -/
  | macrocellsReloaded (t : Nat)
  /-- MESSAGE_DROPPED (R54): An Umzin message that fails its framing, CRC, checksum, port enable or header checks is dropped and counted or answered with FORMAT. -/
  | messageDropped (t : Nat) (port : Nat) (src : Nat) (reason : Drop) (bytes : List Byte)
  /-- FRAME_DROPPED (R375): A received Ethernet frame that is not accepted, or that carries a bad FCS, is dropped and counted. -/
  | frameDropped (t : Nat) (port : Nat) (fcs : Bool)
  /-- FRAGMENT_DROPPED (R180): A Rally fragment with a reserved type or a failed CRC is dropped and counted in rally.lane.dropped. -/
  | fragmentDropped (t : Nat) (lane : Nat)
  /-- FRAGMENT_BOUNDARY (R181): At each fragment boundary a Rally lane sends the waiting fragment of highest priority, including STREAM, TRACK and UMZIN fragments. -/
  | fragmentBoundary (t : Nat) (lane : Nat)
  /-- FAULT_ORDERED_SETS (R374): Receipt of remote-fault or local-fault ordered sets starts or ends, and the link reads or leaves FAULT. -/
  | faultOrderedSets (t : Nat) (lane : Nat) (on : Bool)
  /-- MGMT_LINK_UP (R386): The management port's link comes up in the interface chosen or found. -/
  | mgmtLinkUp (t : Nat) (mode : Nat) (speed : Nat)
  /-- MGMT_LINK_DOWN (R386): The management port's link is lost and PTP loses its master. -/
  | mgmtLinkDown (t : Nat)
  /-- RAIL_RETURN (R412): A rail returns to its window or above its reset threshold, the rail state reads OK and a rail-caused reset is released. -/
  | railReturn (t : Nat) (rail : Nat) (mv : Int)
  /-- SAFE_N_RELEASE (R400): SAFE_N returns high, and gpio.safe_n and Backstop pool input 0x478 fall to 0. -/
  | safeNRelease (t : Nat)
  deriving DecidableEq, Repr

end Sys2Proof
end

