-- ==== Sys2Proof/Decode.lean ====
section
/-! DEFINITION. Words of the opcode table: spec/opcode_table.json gives its rows no bits. -/

namespace Sys2Proof

/-- The command that a word spells by the table's bits: none, since no row has any (DESIGN CHOICE, log entry 1). -/
def decodeTableWord (nbits w : Nat) : Option Instr :=
  match nbits, w with
  | _, _ => none

end Sys2Proof
end

