-- ==== Sys2Proof/Logic.lean ====
section
/-! DEFINITION. What the configuration of the fabric says, as plain data (13_fabric_backstop.md, R281 to R291; 14_configuration_scrubbing.md,
R305, R307): the spec gives the parts and no layout of their bits, which Config decodes (DESIGN CHOICE, log entry 2).
Sources of a cluster are numbered as R284 lists them: cell outputs 0 to 255 (4c + 0 for A, 1 for B, 2 and 3 for the flip-flops of cell c),
cluster inputs 256 to 319, outputs of memory, multiplier and port cells 320 to 351. Sources of a sector: cluster outputs 0 to 4,095, bridge
wires 4,096 to 5,119, macrocells 5,120 to 5,375, clock lines 5,376 to 5,391. -/

namespace Sys2Proof

/-- A crossbar selector: the sources whose bit is set, one unless an upset has disturbed it (R286). -/
abbrev Selector := List Nat

/-- Where a clock comes from (R287, R289): a clock line of the sector, or a routed wire of the cluster. -/
inductive ClockPin where
  | line (k : Nat)
  | wire (x : Selector)
  deriving DecidableEq, Repr, Inhabited

/-- A flip-flop (R281): D from A (0), B (1) or cell input 6 (2); its clock; the cell inputs, counted from 0, of its clock enable and of its
synchronous set or reset; whether that one sets; its initial value. -/
structure FlipFlop where
  d : Nat
  clock : ClockPin
  enable : Option Nat
  setReset : Option Nat
  sets : Bool
  initial : Bool
  deriving DecidableEq, Repr, Inhabited

/-- A logic cell (R281): the 64 bits of its table; whether it serves as two tables of five inputs; the selectors of its six inputs; those
of the F7, F8 and F9 levels that end at it, lowest first; its two flip-flops. -/
structure LogicCell where
  table : Nat
  split : Bool
  inputs : List Selector
  wide : List Selector
  ffs : List FlipFlop
  deriving DecidableEq, Repr, Inhabited

/-- A port of a block memory (R282): its clock, the width of its shape, enable, write enable, address and data. -/
structure MemoryPort where
  clock : ClockPin
  width : Nat
  enable : Selector
  write : Selector
  addr : List Selector
  data : List Selector
  deriving DecidableEq, Repr, Inhabited

/-- A block memory (R282): ports A and B, and ECC. -/
structure BlockMemory where
  a : MemoryPort
  b : MemoryPort
  ecc : Bool
  deriving DecidableEq, Repr, Inhabited

/-- A multiply-accumulate block (R283): operands of 27 and 18 bits, its clock, which stages have a register, whether it adds to the cascade
input in place of its accumulator. -/
structure Multiplier where
  a : List Selector
  b : List Selector
  clock : ClockPin
  inputReg : Bool
  productReg : Bool
  sumReg : Bool
  cascade : Bool
  deriving DecidableEq, Repr, Inhabited

/-- What logic drives at a port cell (R290, R291). -/
structure PortPins where
  data : List Selector
  valid : Selector
  eol : Selector
  own : List Selector
  req : Selector
  ack : Selector
  deriving DecidableEq, Repr, Inhabited

/-- A cluster (R284): its cells; the sector's sources of its 64 inputs; the cluster's sources of its 32 outputs; the signals on the 32 wires
of its block memory, multiplier and port cells (0 to 71 port A, 72 to 143 port B, 144 to 191 the multiplier's sum, 192 + 96k + b signal b of
port cell k); those blocks. -/
structure ClusterLogic where
  cells : List LogicCell
  inputs : List Selector
  outputs : List Selector
  block : List Nat
  memory : BlockMemory
  mac : Multiplier
  ports : List PortPins
  deriving DecidableEq, Repr, Inhabited

/-- A piece's descriptor (R307): port roles and clock-line sources in the encodings of R304, and the Backstop pool codes it names, each with
its offset in the descriptor; drivers of its bridge wires (256 to + i) and of the wires out of its sector; the net of each probe tap
(352 cluster + source); the bit pairs of the sector frames that it uses (512 frame + pair). Numbers are relative to the piece. -/
structure Descriptor where
  roles : List (Nat × Nat)
  clocks : List (Nat × Nat)
  pools : List (Nat × Nat)
  bridges : List (Nat × Selector)
  border : List (Nat × Selector)
  taps : List Nat
  pairs : List Nat
  deriving DecidableEq, Repr, Inhabited

end Sys2Proof
end

