-- ==== Sys2Proof/Config.lean ====
section
/-! DEFINITION. What an implementation fixes and the spec does not state: free values, constants without a body, so that
nothing can evaluate them (DESIGN CHOICE, log entry 2). -/

namespace Sys2Proof.Config

/-- The n-th free value of a kind: a value that the spec leaves open where the machine goes on. -/
opaque free (tag n : Nat) : Nat

/-- What a programmed firmware image holds beyond its first word (R31, R32, R429): the spec gives it no byte layout.
Selector 0: the bytes of versions.majors, 1 and 2: lowest and highest Rally version, 3: placer.algorithm. -/
opaque imageFact (image : List Byte) (selector : Nat) : Nat

/-- The tested-combination list of a programmed firmware image: eight words to an entry (R32). -/
opaque imageCombos (image : List Byte) : List (List Nat)

/-- The codes of the factory coefficient sets 0 to 7, fixed by the running image (R206). -/
opaque factorySet (word c : Nat) : Nat

/-- What the 220 configuration frames of a cluster say (R305). -/
opaque clusterLogic (frames : List Byte) : ClusterLogic

/-- What the descriptor of a piece says (R307). -/
opaque descriptor (bytes : List Byte) : Descriptor

end Sys2Proof.Config
end

