-- ==== Sys2Proof/Machine/Bits.lean ====
section
/-! DEFINITION. Bit fields, byte order, checksums and number formats that the spec's encodings use: little-endian values
(R44), two's complement, IEEE 754 binary32 (R44), CRC-32 (R25), CRC-8 (R180), rounding half to even (R200, R345, R364). -/

namespace Sys2Proof.Machine

/-- Bits [hi:lo] of a value. -/
def bitsOf (v hi lo : Nat) : Nat := (v >>> lo) % 2 ^ (hi + 1 - lo)

/-- The value with bits [hi:lo] replaced by x. -/
def withBits (v hi lo x : Nat) : Nat :=
  (v >>> (hi + 1)) <<< (hi + 1) + (x % 2 ^ (hi + 1 - lo)) <<< lo + v % 2 ^ lo

/-- A flag as a bit. -/
def ofBool (b : Bool) : Nat := if b then 1 else 0

/-- The value with bit i set to b. -/
def withBit (v i : Nat) (b : Bool) : Nat := withBits v i i (ofBool b)

/-- The little-endian number of a byte list (R44). -/
def ofLE : List Byte → Nat
  | [] => 0
  | b :: bs => b.toNat + 256 * ofLE bs

/-- The n little-endian bytes of a number (R44). -/
def toLE : Nat → Nat → List Byte
  | 0, _ => []
  | n + 1, v => BitVec.ofNat 8 v :: toLE n (v / 256)

/-- Byte i of a little-endian value. -/
def byteAt (v i : Nat) : Nat := (v >>> (8 * i)) % 256

/-- The U16 at byte i of a little-endian value. -/
def u16At (v i : Nat) : Nat := (v >>> (8 * i)) % 65536

/-- The U32 at byte i of a little-endian value. -/
def u32At (v i : Nat) : Nat := (v >>> (8 * i)) % 4294967296

/-- The value with byte i replaced. -/
def withByte (v i x : Nat) : Nat := withBits v (8 * i + 7) (8 * i) x

/-- The value with the U16 at byte i replaced. -/
def withU16 (v i x : Nat) : Nat := withBits v (8 * i + 15) (8 * i) x

/-- The n bytes of a byte list from offset o, zeros beyond its end. -/
def slice (bs : List Byte) (o n : Nat) : List Byte :=
  let xs := (bs.drop o).take n
  xs ++ List.replicate (n - xs.length) 0

/-- The little-endian number at offset o of a byte list. -/
def leAt (bs : List Byte) (o n : Nat) : Nat := ofLE (slice bs o n)

/-- The signed number that a w-bit two's complement value spells (R44). -/
def signed (w v : Nat) : Int := if v % 2 ^ w < 2 ^ (w - 1) then (v % 2 ^ w : Nat) else (v % 2 ^ w : Nat) - (2 ^ w : Nat)

/-- The w-bit two's complement value of a number, wrapping. -/
def unsigned (w : Nat) (i : Int) : Nat := (i % (2 ^ w : Nat)).toNat

/-- The w-bit two's complement value of a number, saturating at the ends of the range. -/
def satSigned (w : Nat) (i : Int) : Nat :=
  unsigned w (max (-(2 ^ (w - 1) : Nat)) (min ((2 ^ (w - 1) : Nat) - 1) i))

/-- A w-bit counter that saturates (the objects marked saturating). -/
def satAdd (w v n : Nat) : Nat := min (v + n) (2 ^ w - 1)

/-- A w-bit counter that wraps. -/
def wrapAdd (w v n : Nat) : Nat := (v + n) % 2 ^ w

/-- a ÷ b rounded up; 0 for b = 0. -/
def ceilDiv (a b : Nat) : Nat := if b = 0 then 0 else (a + b - 1) / b

/-- num ÷ den rounded to the nearest integer, halves to even. -/
def roundHalfEven (num : Int) (den : Nat) : Int :=
  let q := num / (den : Int)
  let r := num % (den : Int)
  if 2 * r < den then q else if 2 * r > den then q + 1 else if q % 2 = 0 then q else q + 1

/-- num ÷ den rounded to the nearest integer, halves away from zero. -/
def roundNearest (num : Int) (den : Nat) : Int :=
  if num < 0 then -((2 * (-num) + den) / (2 * (den : Int))) else (2 * num + den) / (2 * (den : Int))

/-- One bit step of the integer square root: bit i stays set when the square does not pass v. -/
def isqrtStep (v acc i : Nat) : Nat := if (acc + 2 ^ i) * (acc + 2 ^ i) ≤ v then acc + 2 ^ i else acc

/-- The bits of the square root from bit n - 1 down. -/
def isqrtFrom (v : Nat) : Nat → Nat → Nat
  | 0, acc => acc
  | n + 1, acc => isqrtFrom v n (isqrtStep v acc n)

/-- The integer square root of v. -/
def isqrt (v : Nat) : Nat := isqrtFrom v (Nat.log2 v / 2 + 1) 0

/-- One bit of CRC-32, reflected polynomial of IEEE 802.3 (R25). -/
def crc32Bit (c : Nat) : Nat := if c % 2 = 1 then (c / 2) ^^^ 0xEDB88320 else c / 2

/-- One byte of CRC-32. -/
def crc32Byte (c : Nat) (b : Byte) : Nat :=
  crc32Bit (crc32Bit (crc32Bit (crc32Bit (crc32Bit (crc32Bit (crc32Bit (crc32Bit (c ^^^ b.toNat))))))))

/-- The CRC-32 of a byte list, IEEE 802.3 polynomial (R25, R55, R66). -/
def crc32 (bs : List Byte) : Nat := (bs.foldl crc32Byte 0xFFFFFFFF) ^^^ 0xFFFFFFFF

/-- CRC-8 with polynomial 0x07 over the n low bits of v, most significant bit first (R180). -/
def crc8 : Nat → Nat → Nat → Nat
  | 0, _, c => c
  | n + 1, v, c =>
    let b := bitsOf v n n
    let t := bitsOf c 7 7
    crc8 n v (if (b + t) % 2 = 1 then ((c * 2) % 256) ^^^ 7 else (c * 2) % 256)

/-- The exponent e with 2^e ≤ num ÷ den < 2^(e + 1). -/
def ratExp (num den : Nat) : Int :=
  let e : Int := (Nat.log2 num : Int) - (Nat.log2 den : Int)
  if e ≥ 0 then (if num < den * 2 ^ e.toNat then e - 1 else e)
  else (if num * 2 ^ (-e).toNat < den then e - 1 else e)

/-- num × 2^s ÷ den rounded half to even. -/
def scaledRound (num den : Nat) (s : Int) : Nat :=
  if s ≥ 0 then (roundHalfEven (num * 2 ^ s.toNat : Nat) den).toNat
  else (roundHalfEven (num : Nat) (den * 2 ^ (-s).toNat)).toNat

/-- The binary32 bits of a non-negative fraction, rounded to nearest, ties to even (PRESUMED, log entry 8). -/
def f32OfRat (num den : Nat) : Nat :=
  if num = 0 ∨ den = 0 then 0 else
  let e := ratExp num den
  if e < -126 then scaledRound num den 149
  else
    let q := scaledRound num den (23 - e)
    let x := ((e + 127).toNat - 1) * 2 ^ 23 + q
    if x ≥ 0x7F800000 then 0x7F800000 else x

/-- The binary32 bits of a natural number (PRESUMED, log entry 8). -/
def f32OfNat (n : Nat) : Nat := f32OfRat n 1

/-- The binary32 bits of a signed fraction (PRESUMED, log entry 8). -/
def f32OfIntRat (num : Int) (den : Nat) : Nat :=
  if num < 0 then 0x80000000 + f32OfRat (-num).toNat den else f32OfRat num.toNat den

/-- Whether binary32 bits are a NaN (out of range for every object, R44). -/
def f32IsNaN (x : Nat) : Bool := bitsOf x 30 23 == 255 && bitsOf x 22 0 != 0

/-- The numerator over 2^149 of the magnitude of finite binary32 bits: every finite value is an exact multiple. -/
def f32Mag (x : Nat) : Nat :=
  let e := bitsOf x 30 23
  let m := bitsOf x 22 0
  if e = 0 then m else (m + 2 ^ 23) * 2 ^ (e - 1)

/-- The denominator that `f32Mag` counts in. -/
def f32Den : Nat := 2 ^ 149

/-- A number that orders binary32 bits other than NaN as their values. -/
def f32Key (x : Nat) : Int := if x ≥ 0x80000000 then -((x - 0x80000000 : Nat) : Int) else (x : Int)

/-- TIME96 in the encoding of R44 from a count of 2^-16 ns: fraction [15:0], nanoseconds [47:16], seconds [95:48]. -/
def time96 (t : Nat) : Nat :=
  let ns := t / 65536
  (ns / 1000000000) % 2 ^ 48 * 2 ^ 48 + (ns % 1000000000) * 65536 + t % 65536

/-- The count of 2^-16 ns that a TIME96 encoding spells. -/
def ofTime96 (v : Nat) : Nat :=
  (bitsOf v 95 48 * 1000000000 + bitsOf v 47 16) * 65536 + bitsOf v 15 0

/-- Device time units (2^-16 ns) in one nanosecond, microsecond, millisecond and second. -/
def perNs : Nat := 65536
def perUs : Nat := 65536000
def perMs : Nat := 65536000000
def perS : Nat := 65536000000000

end Sys2Proof.Machine
end

