-- ==== Sys2Proof/Machine/Catalog.lean ====
section
/-! DEFINITION. The shape of the object catalogue: data types (R44), access bytes (R45), the forms by which a row of an
object table spreads over units (R27, R28, R43), variants and presence (R1, R2, R30). The rows themselves are in Objects. -/

namespace Sys2Proof.Machine

/-- The data types of R44. -/
inductive Ty where
  | bool | u8 | u16 | u32 | u64 | s16 | s32 | f32 | time96 | pos48 | octets | text
  deriving DecidableEq, Repr

/-- The type code of R44. -/
def Ty.code : Ty → Nat
  | .bool => 1 | .u8 => 2 | .u16 => 3 | .u32 => 4 | .u64 => 5 | .s16 => 6 | .s32 => 7 | .f32 => 8 | .time96 => 9
  | .pos48 => 10 | .octets => 11 | .text => 12

/-- The three variants of R1. -/
inductive Variant where
  | sv4x256 | sv4x128 | sv4x256n
  deriving DecidableEq, Repr

/-- How the row of an object table spreads over units. -/
inductive Form where
  | single | layoutClass | combo | seqDie | port | tile | testBus | mon | synth | encoder | pitch | rallyLane | engine | slot
  | coefSet | node | piece | context | pseudo | client | sector | pace | probe | dac | group | wave | clockDie | lane | pin
  | bank | pattern | event | tempDie | rail
  deriving DecidableEq, Repr

/-- The strides of a form: units every `stride` indices, `icount` neighbouring indices per unit, and `scount` copies of
the subindex `sstride` apart. -/
structure Spread where
  stride : Nat
  count : Nat
  icount : Nat
  sstride : Nat
  scount : Nat
  cls : Nat
  deriving DecidableEq, Repr

/-- The spread of each form, with the Layout Table class code (R28) of its units, 0 where it has none. -/
def Form.spread : Form → Spread
  | .single => ⟨0, 1, 1, 0, 1, 0⟩
  | .layoutClass => ⟨1, 18, 1, 0, 1, 0⟩
  | .combo => ⟨1, 128, 1, 0, 1, 0⟩
  | .seqDie => ⟨0, 1, 1, 1, 2, 1⟩
  | .port => ⟨1, 33, 1, 0, 1, 0⟩
  | .tile => ⟨16, 256, 1, 0, 1, 4⟩
  | .testBus => ⟨512, 8, 1, 0, 1, 4⟩
  | .mon => ⟨16, 256, 2, 0, 1, 4⟩
  | .synth => ⟨1, 4, 1, 0, 1, 2⟩
  | .encoder => ⟨16, 8, 1, 0, 1, 0xB⟩
  | .pitch => ⟨8, 16, 1, 0, 1, 0xC⟩
  | .rallyLane => ⟨1, 16, 1, 0, 1, 8⟩
  | .engine => ⟨2, 64, 1, 0, 1, 5⟩
  | .slot => ⟨2, 64, 1, 8, 16, 5⟩
  | .coefSet => ⟨1, 128, 1, 0, 1, 0⟩
  | .node => ⟨1, 1024, 1, 0, 1, 0xA⟩
  | .piece => ⟨1, 256, 1, 0, 1, 0⟩
  | .context => ⟨1, 1024, 1, 0, 1, 0xA⟩
  | .pseudo => ⟨1, 32, 1, 0, 1, 0⟩
  | .client => ⟨1, 48, 1, 0, 1, 0⟩
  | .sector => ⟨1, 4, 1, 0, 1, 6⟩
  | .pace => ⟨1, 8, 1, 0, 1, 0⟩
  | .probe => ⟨1, 16, 1, 0, 1, 0x10⟩
  | .dac => ⟨4, 32, 1, 0, 1, 7⟩
  | .group => ⟨1, 4, 1, 0, 1, 0⟩
  | .wave => ⟨1, 16, 1, 0, 1, 0⟩
  | .clockDie => ⟨0, 1, 1, 1, 2, 1⟩
  | .lane => ⟨64, 16, 1, 0, 1, 8⟩
  | .pin => ⟨1, 96, 1, 0, 1, 0⟩
  | .bank => ⟨1, 6, 1, 0, 1, 0xE⟩
  | .pattern => ⟨1, 16, 1, 0, 1, 0xF⟩
  | .event => ⟨1, 768, 1, 0, 1, 0x11⟩
  | .tempDie => ⟨0, 1, 1, 1, 2, 1⟩
  | .rail => ⟨1, 10, 1, 0, 1, 0⟩

/-- Whether event source n has its unit in the variant (R403). -/
def eventPresent (v : Variant) (n : Nat) : Bool :=
  n < 768 && (v != .sv4x128 ||
    !((128 ≤ n && n < 256) || (384 ≤ n && n < 512) || (544 ≤ n && n < 576) || (672 ≤ n && n < 704)))

/-- Whether switch client i is present (R272). -/
def clientPresent (v : Variant) (i : Nat) : Bool :=
  i < 48 && match v with
    | .sv4x256 => true
    | .sv4x128 => !((8 ≤ i && i < 16) || i == 17 || (26 ≤ i && i < 34) || (38 ≤ i && i < 42) || i == 44 || i == 45)
    | .sv4x256n => !(i == 16 || i == 17)

/-- Tiles, lanes, engines, sectors, DAC outputs and dies of a variant (R1). -/
def tileCount (v : Variant) : Nat := if v = .sv4x128 then 128 else 256
def laneCount (v : Variant) : Nat := if v = .sv4x128 then 8 else 16
def engineCount (v : Variant) : Nat := if v = .sv4x128 then 32 else 64
def quadCount (v : Variant) : Nat := if v = .sv4x128 then 2 else 4
def dacCount (v : Variant) : Nat := match v with | .sv4x256 => 32 | .sv4x128 => 16 | .sv4x256n => 0
def dieCount (v : Variant) : Nat := if v = .sv4x128 then 1 else 2

/-- Whether a port id names a port of the variant (03, table of arrival ports). -/
def portPresent (v : Variant) (p : Nat) : Bool :=
  p < 4 || (16 ≤ p && p < 16 + laneCount v) || p == 32

/-- Whether unit u of a form is present in the variant (R1, R2, R272, R370, R403, R428). -/
def Form.present (v : Variant) (f : Form) (u : Nat) : Bool :=
  match f with
  | .tile | .mon => u < tileCount v
  | .testBus => 32 * u < tileCount v
  | .synth | .sector => u < quadCount v
  | .engine | .slot => u < engineCount v
  | .dac => u < dacCount v
  | .group | .wave => v != .sv4x256n
  | .lane | .rallyLane => u < laneCount v
  | .event => eventPresent v u
  | .client => clientPresent v u
  | .port => portPresent v u
  | .clockDie => v != .sv4x256n && u < dieCount v
  | .seqDie | .tempDie => u < dieCount v
  | .rail => !(v == .sv4x256n && (u == 7 || u == 8))
  | _ => true

/-- One row of an object table: place, type, size in bytes, access byte (R45), default, range of the values as signed
numbers (F32 by the order of its bits), codes between them that are not listed, and the attributes of R58. -/
structure Row where
  idx : Nat
  sub : Nat
  form : Form
  ty : Ty
  size : Nat
  acc : Nat
  dflt : Nat
  lo : Int
  hi : Int
  gaps : List (Int × Int)
  attr : Nat
  deriving DecidableEq, Repr

/-- A row together with the unit and the inner number at which an address names it. -/
structure Loc where
  row : Row
  unit : Nat
  inner : Nat
  deriving DecidableEq, Repr

/-- Where an address falls in a row, if it does: unit and inner number. -/
def Row.place (r : Row) (index sub : Nat) : Option (Nat × Nat) :=
  let p := r.form.spread
  if index < r.idx || sub < r.sub then none else
  let d := index - r.idx
  let e := sub - r.sub
  let unit := if p.stride = 0 then 0 else d / p.stride
  let inner := if p.stride = 0 then d else d % p.stride
  let su := if p.sstride = 0 then 0 else e / p.sstride
  let sr := if p.sstride = 0 then e else e % p.sstride
  if unit < p.count && inner < p.icount && su < p.scount && sr == 0 then
    if p.scount = 1 then some (unit, inner)
    else if p.count = 1 then some (su, 0)
    else some (unit, su)
  else none

/-- The first row of a list that an address names. -/
def locateIn (index sub : Nat) : List Row → Option Loc
  | [] => none
  | r :: rs => match r.place index sub with
    | some (u, i) => some ⟨r, u, i⟩
    | none => locateIn index sub rs

/-- The key of an object in the dictionary's map: index × 256 + subindex. -/
def key (index sub : Nat) : Nat := index * 256 + sub

/-- The number that orders the values of a type: two's complement for signed types, binary32 order for F32. -/
def Ty.order (t : Ty) (v : Nat) : Int :=
  match t with
  | .s16 => signed 16 v
  | .s32 => signed 32 v
  | .pos48 => signed 48 v
  | .f32 => f32Key v
  | _ => v

/-- The stored value that an ordering number stands for. -/
def Ty.encode (t : Ty) (i : Int) : Nat :=
  match t with
  | .s16 => unsigned 16 i
  | .s32 => unsigned 32 i
  | .pos48 => unsigned 48 i
  | .f32 => if i < 0 then 0x80000000 + (-i).toNat else i.toNat
  | _ => i.toNat

/-- Whether a value lies within a row's permitted range (R44, R58, R59 check 6). -/
def Row.inRange (r : Row) (v : Nat) : Bool :=
  match r.ty with
  | .octets | .text => true
  | .time96 => bitsOf v 47 16 < 1000000000
  | t =>
    let o := t.order v
    !(t == .f32 && f32IsNaN v) && decide (r.lo ≤ o) && decide (o ≤ r.hi) &&
      r.gaps.all (fun g => decide (o < g.1) || decide (g.2 < o))

/-- The permitted value nearest to a number: the detail word of RANGE (R72). -/
def Row.nearest (r : Row) (v : Nat) : Nat :=
  match r.ty with
  | .octets | .text | .time96 => 0
  | t =>
    if t == .f32 && f32IsNaN v then 0 else
    let o := t.order v
    let n := if o < r.lo then r.lo else if r.hi < o then r.hi else
      match r.gaps.find? (fun g => decide (g.1 ≤ o) && decide (o ≤ g.2)) with
      | some g => if o - g.1 ≤ g.2 - o then g.1 - 1 else g.2 + 1
      | none => o
    t.encode n % 4294967296

end Sys2Proof.Machine
end

