-- ==== Sys2Proof/Machine/Objects.lean ====
section
/-! DEFINITION. The key of every object of the object tables, by its path. -/

namespace Sys2Proof.Machine

/-! Objects of R26 (02_layout_table.md). -/

/-- `device.layout.signature` (R26). -/
def K.deviceLayoutSignature : Nat := key 0x0000 0x01
/-- `device.layout.format` (R26). -/
def K.deviceLayoutFormat : Nat := key 0x0000 0x02
/-- `device.layout.variant` (R26). -/
def K.deviceLayoutVariant : Nat := key 0x0000 0x03
/-- `device.layout.classes` (R26). -/
def K.deviceLayoutClasses : Nat := key 0x0000 0x04
/-- `device.layout.combos` (R26). -/
def K.deviceLayoutCombos : Nat := key 0x0000 0x05
/-- `device.layout.stepping` (R26). -/
def K.deviceLayoutStepping : Nat := key 0x0000 0x06
/-- `device.layout.crc` (R26). -/
def K.deviceLayoutCrc : Nat := key 0x0000 0x07
/-- `device.layout.class[k].code` (R26). -/
def K.deviceLayoutClassCode (k : Nat) : Nat := key (0x0010 + k) 0x01
/-- `device.layout.class[k].presence` (R26). -/
def K.deviceLayoutClassPresence (k : Nat) : Nat := key (0x0010 + k) 0x02
/-- `device.layout.class[k].count` (R26). -/
def K.deviceLayoutClassCount (k : Nat) : Nat := key (0x0010 + k) 0x03
/-- `device.layout.class[k].span` (R26). -/
def K.deviceLayoutClassSpan (k : Nat) : Nat := key (0x0010 + k) 0x04
/-- `device.layout.class[k].first` (R26). -/
def K.deviceLayoutClassFirst (k : Nat) : Nat := key (0x0010 + k) 0x05
/-- `device.layout.class[k].stride` (R26). -/
def K.deviceLayoutClassStride (k : Nat) : Nat := key (0x0010 + k) 0x06
/-- `device.layout.class[k].mask` (R26). -/
def K.deviceLayoutClassMask (k : Nat) : Nat := key (0x0010 + k) 0x07
/-- `device.layout.class[k].parent` (R26). -/
def K.deviceLayoutClassParent (k : Nat) : Nat := key (0x0010 + k) 0x08
/-- `device.layout.class[k].hw` (R26). -/
def K.deviceLayoutClassHw (k : Nat) : Nat := key (0x0010 + k) 0x09
/-- `device.layout.class[k].events` (R26). -/
def K.deviceLayoutClassEvents (k : Nat) : Nat := key (0x0010 + k) 0x0A
/-- `device.layout.class[k].attr` (R26). -/
def K.deviceLayoutClassAttr (k : Nat) : Nat := key (0x0010 + k) 0x0B
/-! Objects of R31 (02_layout_table.md). -/

/-- `versions.mgmt.running` (R31). -/
def K.versionsMgmtRunning : Nat := key 0x1200 0x01
/-- `versions.mgmt.slot` (R31). -/
def K.versionsMgmtSlot : Nat := key 0x1200 0x02
/-- `versions.mgmt.word_a` (R31). -/
def K.versionsMgmtWordA : Nat := key 0x1200 0x03
/-- `versions.mgmt.word_b` (R31). -/
def K.versionsMgmtWordB : Nat := key 0x1200 0x04
/-- `versions.mgmt.select` (R31). -/
def K.versionsMgmtSelect : Nat := key 0x1200 0x05
/-- `versions.mgmt.boot` (R31). -/
def K.versionsMgmtBoot : Nat := key 0x1200 0x06
/-- `versions.seq[d].word` (R31). -/
def K.versionsSeqWord (d : Nat) : Nat := key 0x1201 (0x01 + d)
/-- `versions.seq[d].state` (R31). -/
def K.versionsSeqState (d : Nat) : Nat := key 0x1201 (0x03 + d)
/-- `versions.program` (R31). -/
def K.versionsProgram : Nat := key 0x1202 0x01
/-- `versions.backstop` (R31). -/
def K.versionsBackstop : Nat := key 0x1202 0x02
/-- `versions.rally_min` (R31). -/
def K.versionsRallyMin : Nat := key 0x1202 0x03
/-- `versions.rally_max` (R31). -/
def K.versionsRallyMax : Nat := key 0x1202 0x04
/-- `versions.accept` (R31). -/
def K.versionsAccept : Nat := key 0x1203 0x01
/-- `versions.restricted` (R31). -/
def K.versionsRestricted : Nat := key 0x1203 0x02
/-- `versions.last_refusal` (R31). -/
def K.versionsLastRefusal : Nat := key 0x1203 0x03
/-- `versions.majors` (R31). -/
def K.versionsMajors : Nat := key 0x1203 0x04
/-! Objects of R73 (03_object_dictionary.md). -/

/-- `ports.udp_port` (R73). -/
def K.portsUdpPort : Nat := key 0x1100 0x01
/-- `ports.enable` (R73). -/
def K.portsEnable : Nat := key 0x1100 0x02
/-- `ports.debug_strap` (R73). -/
def K.portsDebugStrap : Nat := key 0x1100 0x03
/-- `ports.lease_default` (R73). -/
def K.portsLeaseDefault : Nat := key 0x1100 0x04
/-- `ports.queue` (R73). -/
def K.portsQueue : Nat := key 0x1100 0x05
/-- `ports.trace` (R73). -/
def K.portsTrace : Nat := key 0x1110 0x01
/-- `ports.whoami` (R73). -/
def K.portsWhoami : Nat := key 0x1111 0x01
/-- `ports.port[p].class` (R73). -/
def K.portsPortClass (p : Nat) : Nat := key (0x1120 + p) 0x01
/-- `ports.port[p].requests` (R73). -/
def K.portsPortRequests (p : Nat) : Nat := key (0x1120 + p) 0x02
/-- `ports.port[p].aborts` (R73). -/
def K.portsPortAborts (p : Nat) : Nat := key (0x1120 + p) 0x03
/-- `ports.port[p].dropped` (R73). -/
def K.portsPortDropped (p : Nat) : Nat := key (0x1120 + p) 0x04
/-- `ports.port[p].last_abort` (R73). -/
def K.portsPortLastAbort (p : Nat) : Nat := key (0x1120 + p) 0x05
/-- `ports.port[p].subs` (R73). -/
def K.portsPortSubs (p : Nat) : Nat := key (0x1120 + p) 0x06
/-- `ports.port[p].blocks` (R73). -/
def K.portsPortBlocks (p : Nat) : Nat := key (0x1120 + p) 0x07
/-! Objects of R103 (04_modes_startup.md). -/

/-- `device.mode` (R103). -/
def K.deviceMode : Nat := key 0x1000 0x01
/-- `device.mode.request` (R103). -/
def K.deviceModeRequest : Nat := key 0x1000 0x02
/-- `device.mode.load` (R103). -/
def K.deviceModeLoad : Nat := key 0x1000 0x03
/-- `device.mode.target` (R103). -/
def K.deviceModeTarget : Nat := key 0x1000 0x04
/-- `device.mode.pending` (R103). -/
def K.deviceModePending : Nat := key 0x1000 0x05
/-- `device.mode.step` (R103). -/
def K.deviceModeStep : Nat := key 0x1000 0x06
/-- `device.mode.since` (R103). -/
def K.deviceModeSince : Nat := key 0x1000 0x07
/-- `device.mode.last_fail` (R103). -/
def K.deviceModeLastFail : Nat := key 0x1000 0x08
/-- `device.safe.cause` (R103). -/
def K.deviceSafeCause : Nat := key 0x1001 0x01
/-- `device.safe.first` (R103). -/
def K.deviceSafeFirst : Nat := key 0x1001 0x02
/-- `device.safe.clear` (R103). -/
def K.deviceSafeClear : Nat := key 0x1001 0x03
/-- `device.safe.on_whistle` (R103). -/
def K.deviceSafeOnWhistle : Nat := key 0x1001 0x04
/-- `device.safe.raise_whistle` (R103). -/
def K.deviceSafeRaiseWhistle : Nat := key 0x1001 0x05
/-- `device.safe.tj_limit` (R103). -/
def K.deviceSafeTjLimit : Nat := key 0x1001 0x06
/-- `device.safe.count` (R103). -/
def K.deviceSafeCount : Nat := key 0x1001 0x07
/-- `device.hold.auto_resume` (R103). -/
def K.deviceHoldAutoResume : Nat := key 0x1002 0x01
/-- `device.hold.cause` (R103). -/
def K.deviceHoldCause : Nat := key 0x1002 0x02
/-- `device.hold.encoder` (R103). -/
def K.deviceHoldEncoder : Nat := key 0x1002 0x03
/-- `device.standby.shadow` (R103). -/
def K.deviceStandbyShadow : Nat := key 0x1003 0x01
/-- `device.standby.shadow_crc` (R103). -/
def K.deviceStandbyShadowCrc : Nat := key 0x1003 0x02
/-- `device.reset` (R103). -/
def K.deviceReset : Nat := key 0x1004 0x01
/-- `device.reset.cause` (R103). -/
def K.deviceResetCause : Nat := key 0x1004 0x02
/-- `device.boot.ms` (R103). -/
def K.deviceBootMs : Nat := key 0x1004 0x03
/-- `device.prepare.calibrate` (R103). -/
def K.devicePrepareCalibrate : Nat := key 0x1005 0x01
/-- `device.prepare.align_limit` (R103). -/
def K.devicePrepareAlignLimit : Nat := key 0x1005 0x02
/-! Objects of R133 (05_analogue_tiles.md). -/

/-- `tile[n].fe.form` (R133). -/
def K.tileFeForm (n : Nat) : Nat := key (0x3000 + 16 * n) 0x01
/-- `tile[n].fe.gain` (R133). -/
def K.tileFeGain (n : Nat) : Nat := key (0x3000 + 16 * n) 0x02
/-- `tile[n].fe.rf` (R133). -/
def K.tileFeRf (n : Nat) : Nat := key (0x3000 + 16 * n) 0x03
/-- `tile[n].fe.offset` (R133). -/
def K.tileFeOffset (n : Nat) : Nat := key (0x3000 + 16 * n) 0x04
/-- `tile[n].fe.polarity` (R133). -/
def K.tileFePolarity (n : Nat) : Nat := key (0x3000 + 16 * n) 0x05
/-- `tile[n].fe.pd_bias` (R133). -/
def K.tileFePdBias (n : Nat) : Nat := key (0x3000 + 16 * n) 0x06
/-- `tile[n].fe.over` (R133). -/
def K.tileFeOver (n : Nat) : Nat := key (0x3000 + 16 * n) 0x07
/-- `tile[n].fe.over_last` (R133). -/
def K.tileFeOverLast (n : Nat) : Nat := key (0x3000 + 16 * n) 0x08
/-- `tile[n].fe.over_event` (R133). -/
def K.tileFeOverEvent (n : Nat) : Nat := key (0x3000 + 16 * n) 0x09
/-- `tile[n].fe.gain_b` (R133). -/
def K.tileFeGainB (n : Nat) : Nat := key (0x3000 + 16 * n) 0x0A
/-- `tile[n].fe.rf_b` (R133). -/
def K.tileFeRfB (n : Nat) : Nat := key (0x3000 + 16 * n) 0x0B
/-- `tile[n].fe.offset_b` (R133). -/
def K.tileFeOffsetB (n : Nat) : Nat := key (0x3000 + 16 * n) 0x0C
/-- `tile[n].cds.reset_phase` (R133). -/
def K.tileCdsResetPhase (n : Nat) : Nat := key (0x3001 + 16 * n) 0x01
/-- `tile[n].cds.video_phase` (R133). -/
def K.tileCdsVideoPhase (n : Nat) : Nat := key (0x3001 + 16 * n) 0x02
/-- `tile[n].cds.pixels` (R133). -/
def K.tileCdsPixels (n : Nat) : Nat := key (0x3001 + 16 * n) 0x03
/-- `tile[n].cds.lead` (R133). -/
def K.tileCdsLead (n : Nat) : Nat := key (0x3001 + 16 * n) 0x04
/-- `tile[n].cds.black_first` (R133). -/
def K.tileCdsBlackFirst (n : Nat) : Nat := key (0x3001 + 16 * n) 0x05
/-- `tile[n].cds.black_count` (R133). -/
def K.tileCdsBlackCount (n : Nat) : Nat := key (0x3001 + 16 * n) 0x06
/-- `tile[n].cds.black_target` (R133). -/
def K.tileCdsBlackTarget (n : Nat) : Nat := key (0x3001 + 16 * n) 0x07
/-- `tile[n].cds.clamp_shift` (R133). -/
def K.tileCdsClampShift (n : Nat) : Nat := key (0x3001 + 16 * n) 0x08
/-- `tile[n].cds.overrun` (R133). -/
def K.tileCdsOverrun (n : Nat) : Nat := key (0x3001 + 16 * n) 0x09
/-- `tile[n].cds.black_level` (R133). -/
def K.tileCdsBlackLevel (n : Nat) : Nat := key (0x3001 + 16 * n) 0x0A
/-- `tile[n].bq.type` (R133). -/
def K.tileBqType (n : Nat) : Nat := key (0x3002 + 16 * n) 0x01
/-- `tile[n].bq.f0` (R133). -/
def K.tileBqF0 (n : Nat) : Nat := key (0x3002 + 16 * n) 0x02
/-- `tile[n].bq.q` (R133). -/
def K.tileBqQ (n : Nat) : Nat := key (0x3002 + 16 * n) 0x03
/-- `tile[n].bq.f0_real` (R133). -/
def K.tileBqF0Real (n : Nat) : Nat := key (0x3002 + 16 * n) 0x04
/-- `tile[n].bq.delay` (R133). -/
def K.tileBqDelay (n : Nat) : Nat := key (0x3002 + 16 * n) 0x05
/-- `tile[n].bq.f0_b` (R133). -/
def K.tileBqF0B (n : Nat) : Nat := key (0x3002 + 16 * n) 0x06
/-- `tile[n].route.sel` (R133). -/
def K.tileRouteSel (n : Nat) : Nat := key (0x3003 + 16 * n) 0x01
/-- `tile[n].route.sel_b` (R133). -/
def K.tileRouteSelB (n : Nat) : Nat := key (0x3003 + 16 * n) 0x02
/-- `tile[n].route.partner` (R133). -/
def K.tileRoutePartner (n : Nat) : Nat := key (0x3003 + 16 * n) 0x03
/-- `tile[n].route.contexts` (R133). -/
def K.tileRouteContexts (n : Nat) : Nat := key (0x3003 + 16 * n) 0x04
/-- `tile[n].scan.table` (R133). -/
def K.tileScanTable (n : Nat) : Nat := key (0x3004 + 16 * n) 0x01
/-- `tile[n].scan.slots` (R133). -/
def K.tileScanSlots (n : Nat) : Nat := key (0x3004 + 16 * n) 0x02
/-- `tile[n].scan.start` (R133). -/
def K.tileScanStart (n : Nat) : Nat := key (0x3004 + 16 * n) 0x03
/-- `tile[n].scan.cycle` (R133). -/
def K.tileScanCycle (n : Nat) : Nat := key (0x3004 + 16 * n) 0x04
/-- `tile[n].scan.gain` (R133). -/
def K.tileScanGain (n : Nat) : Nat := key (0x3004 + 16 * n) 0x05
/-- `tile[n].buf.fill` (R133). -/
def K.tileBufFill (n : Nat) : Nat := key (0x3005 + 16 * n) 0x01
/-- `tile[n].buf.peak` (R133). -/
def K.tileBufPeak (n : Nat) : Nat := key (0x3005 + 16 * n) 0x02
/-- `tile[n].buf.peak_clear` (R133). -/
def K.tileBufPeakClear (n : Nat) : Nat := key (0x3005 + 16 * n) 0x03
/-- `tile[n].buf.words` (R133). -/
def K.tileBufWords (n : Nat) : Nat := key (0x3005 + 16 * n) 0x04
/-- `tile[n].status` (R133). -/
def K.tileStatus (n : Nat) : Nat := key (0x3006 + 16 * n) 0x01
/-- `tile[n].pad.entry` (R133). -/
def K.tilePadEntry (n : Nat) : Nat := key (0x3007 + 16 * n) 0x01
/-- `tile[n].pad.term` (R133). -/
def K.tilePadTerm (n : Nat) : Nat := key (0x3007 + 16 * n) 0x02
/-- `tile[n].pad.test` (R133). -/
def K.tilePadTest (n : Nat) : Nat := key (0x3007 + 16 * n) 0x03
/-- `tile[n].pad.bus` (R133). -/
def K.tilePadBus (n : Nat) : Nat := key (0x3007 + 16 * n) 0x04
/-- `tile[n].pad.contentions` (R133). -/
def K.tilePadContentions (n : Nat) : Nat := key (0x3007 + 16 * n) 0x05
/-- `tile[n].pad.overload` (R133). -/
def K.tilePadOverload (n : Nat) : Nat := key (0x3007 + 16 * n) 0x06
/-- `tile[n].pad.overload_count` (R133). -/
def K.tilePadOverloadCount (n : Nat) : Nat := key (0x3007 + 16 * n) 0x07
/-- `tile[n].pad.clear` (R133). -/
def K.tilePadClear (n : Nat) : Nat := key (0x3007 + 16 * n) 0x08
/-- `tile[32k].tbus.src` (R133). -/
def K.testBusSrc (k : Nat) : Nat := key (0x3007 + 512 * k) 0x10
/-- `tile[32k].tbus.level` (R133). -/
def K.testBusLevel (k : Nat) : Nat := key (0x3007 + 512 * k) 0x11
/-- `tile[32k].tbus.dac` (R133). -/
def K.testBusDac (k : Nat) : Nat := key (0x3007 + 512 * k) 0x12
/-- `tile[32k].tbus.state` (R133). -/
def K.testBusState (k : Nat) : Nat := key (0x3007 + 512 * k) 0x13
/-! Objects of R152 (06_converters_limits.md). -/

/-- `tile[n].adc.mode` (R152). -/
def K.tileAdcMode (n : Nat) : Nat := key (0x3008 + 16 * n) 0x01
/-- `tile[n].adc.div` (R152). -/
def K.tileAdcDiv (n : Nat) : Nat := key (0x3008 + 16 * n) 0x02
/-- `tile[n].adc.fs` (R152). -/
def K.tileAdcFs (n : Nat) : Nat := key (0x3008 + 16 * n) 0x03
/-- `tile[n].adc.osr` (R152). -/
def K.tileAdcOsr (n : Nat) : Nat := key (0x3008 + 16 * n) 0x04
/-- `tile[n].adc.cs` (R152). -/
def K.tileAdcCs (n : Nat) : Nat := key (0x3008 + 16 * n) 0x05
/-- `tile[n].adc.phase` (R152). -/
def K.tileAdcPhase (n : Nat) : Nat := key (0x3008 + 16 * n) 0x06
/-- `tile[n].adc.clip` (R152). -/
def K.tileAdcClip (n : Nat) : Nat := key (0x3008 + 16 * n) 0x07
/-- `tile[n].adc.clip_last` (R152). -/
def K.tileAdcClipLast (n : Nat) : Nat := key (0x3008 + 16 * n) 0x08
/-- `tile[n].adc.clip_event` (R152). -/
def K.tileAdcClipEvent (n : Nat) : Nat := key (0x3008 + 16 * n) 0x09
/-- `tile[n].adc.latency` (R152). -/
def K.tileAdcLatency (n : Nat) : Nat := key (0x3008 + 16 * n) 0x0A
/-- `tile[n].ilv.state` (R152). -/
def K.tileIlvState (n : Nat) : Nat := key (0x3009 + 16 * n) 0x01
/-- `tile[n].ilv.offset` (R152). -/
def K.tileIlvOffset (n : Nat) : Nat := key (0x3009 + 16 * n) 0x02
/-- `tile[n].ilv.gain` (R152). -/
def K.tileIlvGain (n : Nat) : Nat := key (0x3009 + 16 * n) 0x03
/-- `tile[n].ilv.skew` (R152). -/
def K.tileIlvSkew (n : Nat) : Nat := key (0x3009 + 16 * n) 0x04
/-- `tile[n].ilv.flags` (R152). -/
def K.tileIlvFlags (n : Nat) : Nat := key (0x3009 + 16 * n) 0x05
/-- `tile[n].ilv.reset` (R152). -/
def K.tileIlvReset (n : Nat) : Nat := key (0x3009 + 16 * n) 0x06
/-- `tile[n].lim.noise` (R152). -/
def K.tileLimNoise (n : Nat) : Nat := key (0x300A + 16 * n) 0x01
/-- `tile[n].lim.n_meas` (R152). -/
def K.tileLimNMeas (n : Nat) : Nat := key (0x300A + 16 * n) 0x02
/-- `tile[n].lim.n_ref` (R152). -/
def K.tileLimNRef (n : Nat) : Nat := key (0x300A + 16 * n) 0x03
/-- `tile[n].lim.req` (R152). -/
def K.tileLimReq (n : Nat) : Nat := key (0x300A + 16 * n) 0x04
/-- `tile[n].lim.bn` (R152). -/
def K.tileLimBn (n : Nat) : Nat := key (0x300A + 16 * n) 0x05
/-- `tile[n].lim.source` (R152). -/
def K.tileLimSource (n : Nat) : Nat := key (0x300A + 16 * n) 0x06
/-- `tile[n].lim.updated` (R152). -/
def K.tileLimUpdated (n : Nat) : Nat := key (0x300A + 16 * n) 0x07
/-- `tile[n].lim.noise_alarm` (R152). -/
def K.tileLimNoiseAlarm (n : Nat) : Nat := key (0x300A + 16 * n) 0x08
/-- `tile[n].lim.flags` (R152). -/
def K.tileLimFlags (n : Nat) : Nat := key (0x300A + 16 * n) 0x09
/-- `tile[n].lim.timing` (R152). -/
def K.tileLimTiming (n : Nat) : Nat := key (0x300B + 16 * n) 0x01
/-- `tile[n].lim.jitter` (R152). -/
def K.tileLimJitter (n : Nat) : Nat := key (0x300B + 16 * n) 0x02
/-- `tile[n].lim.j_ref` (R152). -/
def K.tileLimJRef (n : Nat) : Nat := key (0x300B + 16 * n) 0x03
/-- `tile[n].lim.j_syn` (R152). -/
def K.tileLimJSyn (n : Nat) : Nat := key (0x300B + 16 * n) 0x04
/-- `tile[n].lim.j_ap` (R152). -/
def K.tileLimJAp (n : Nat) : Nat := key (0x300B + 16 * n) 0x05
/-- `tile[n].lim.jitter_alarm` (R152). -/
def K.tileLimJitterAlarm (n : Nat) : Nat := key (0x300B + 16 * n) 0x06
/-! Objects of R176 (07_timebase_triggers.md). -/

/-- `time.now` (R176). -/
def K.timeNow : Nat := key 0x1400 0x01
/-- `time.state` (R176). -/
def K.timeState : Nat := key 0x1400 0x02
/-- `time.source` (R176). -/
def K.timeSource : Nat := key 0x1400 0x03
/-- `time.set` (R176). -/
def K.timeSet : Nat := key 0x1400 0x04
/-- `time.slew_max` (R176). -/
def K.timeSlewMax : Nat := key 0x1400 0x05
/-- `time.step_limit` (R176). -/
def K.timeStepLimit : Nat := key 0x1400 0x06
/-- `time.offset` (R176). -/
def K.timeOffset : Nat := key 0x1400 0x07
/-- `time.rate` (R176). -/
def K.timeRate : Nat := key 0x1400 0x08
/-- `time.utc_offset` (R176). -/
def K.timeUtcOffset : Nat := key 0x1400 0x09
/-- `time.ptp.enable` (R176). -/
def K.timePtpEnable : Nat := key 0x1401 0x01
/-- `time.ptp.domain` (R176). -/
def K.timePtpDomain : Nat := key 0x1401 0x02
/-- `time.ptp.transport` (R176). -/
def K.timePtpTransport : Nat := key 0x1401 0x03
/-- `time.ptp.announce_timeout` (R176). -/
def K.timePtpAnnounceTimeout : Nat := key 0x1401 0x04
/-- `time.ptp.port_state` (R176). -/
def K.timePtpPortState : Nat := key 0x1401 0x05
/-- `time.ptp.master` (R176). -/
def K.timePtpMaster : Nat := key 0x1401 0x06
/-- `time.ptp.path_delay` (R176). -/
def K.timePtpPathDelay : Nat := key 0x1401 0x07
/-- `time.refclk.freq` (R176). -/
def K.timeRefclkFreq : Nat := key 0x1402 0x01
/-- `time.refclk.state` (R176). -/
def K.timeRefclkState : Nat := key 0x1402 0x02
/-- `time.refclk.holdover_limit` (R176). -/
def K.timeRefclkHoldoverLimit : Nat := key 0x1402 0x03
/-- `time.refclk.losses` (R176). -/
def K.timeRefclkLosses : Nat := key 0x1402 0x04
/-- `time.refclk.holdover_ms` (R176). -/
def K.timeRefclkHoldoverMs : Nat := key 0x1402 0x05
/-- `time.syn[q].status` (R176). -/
def K.timeSynStatus (q : Nat) : Nat := key (0x1410 + q) 0x01
/-- `time.syn[q].freq` (R176). -/
def K.timeSynFreq (q : Nat) : Nat := key (0x1410 + q) 0x02
/-- `time.syn[q].phase` (R176). -/
def K.timeSynPhase (q : Nat) : Nat := key (0x1410 + q) 0x03
/-- `time.syn[q].locks` (R176). -/
def K.timeSynLocks (q : Nat) : Nat := key (0x1410 + q) 0x04
/-- `enc[e].mode` (R176). -/
def K.encMode (e : Nat) : Nat := key (0x1500 + 16 * e) 0x01
/-- `enc[e].enable` (R176). -/
def K.encEnable (e : Nat) : Nat := key (0x1500 + 16 * e) 0x02
/-- `enc[e].glitch` (R176). -/
def K.encGlitch (e : Nat) : Nat := key (0x1500 + 16 * e) 0x03
/-- `enc[e].invert` (R176). -/
def K.encInvert (e : Nat) : Nat := key (0x1500 + 16 * e) 0x04
/-- `enc[e].rate_max` (R176). -/
def K.encRateMax (e : Nat) : Nat := key (0x1500 + 16 * e) 0x05
/-- `enc[e].rate_min` (R176). -/
def K.encRateMin (e : Nat) : Nat := key (0x1500 + 16 * e) 0x06
/-- `enc[e].accel_max` (R176). -/
def K.encAccelMax (e : Nat) : Nat := key (0x1500 + 16 * e) 0x07
/-- `enc[e].standstill` (R176). -/
def K.encStandstill (e : Nat) : Nat := key (0x1500 + 16 * e) 0x08
/-- `enc[e].z_mode` (R176). -/
def K.encZMode (e : Nat) : Nat := key (0x1500 + 16 * e) 0x09
/-- `enc[e].preset` (R176). -/
def K.encPreset (e : Nat) : Nat := key (0x1500 + 16 * e) 0x0A
/-- `enc[e].wake` (R176). -/
def K.encWake (e : Nat) : Nat := key (0x1500 + 16 * e) 0x0B
/-- `enc[e].track_ns` (R176). -/
def K.encTrackNs (e : Nat) : Nat := key (0x1500 + 16 * e) 0x0C
/-- `enc[e].status` (R176). -/
def K.encStatus (e : Nat) : Nat := key (0x1501 + 16 * e) 0x01
/-- `enc[e].position` (R176). -/
def K.encPosition (e : Nat) : Nat := key (0x1501 + 16 * e) 0x02
/-- `enc[e].rate` (R176). -/
def K.encRate (e : Nat) : Nat := key (0x1501 + 16 * e) 0x03
/-- `enc[e].accel` (R176). -/
def K.encAccel (e : Nat) : Nat := key (0x1501 + 16 * e) 0x04
/-- `enc[e].z_pos` (R176). -/
def K.encZPos (e : Nat) : Nat := key (0x1501 + 16 * e) 0x05
/-- `enc[e].flags` (R176). -/
def K.encFlags (e : Nat) : Nat := key (0x1501 + 16 * e) 0x06
/-- `enc[e].illegal` (R176). -/
def K.encIllegal (e : Nat) : Nat := key (0x1501 + 16 * e) 0x07
/-- `enc[e].glitches` (R176). -/
def K.encGlitches (e : Nat) : Nat := key (0x1501 + 16 * e) 0x08
/-- `enc[e].track_span` (R176). -/
def K.encTrackSpan (e : Nat) : Nat := key (0x1501 + 16 * e) 0x09
/-- `enc[e].stale_stamps` (R176). -/
def K.encStaleStamps (e : Nat) : Nat := key (0x1501 + 16 * e) 0x0A
/-- `pitch[p].status` (R176). -/
def K.pitchStatus (p : Nat) : Nat := key (0x1580 + 8 * p) 0x01
/-- `pitch[p].encoder` (R176). -/
def K.pitchEncoder (p : Nat) : Nat := key (0x1580 + 8 * p) 0x02
/-- `pitch[p].pitch` (R176). -/
def K.pitchPitch (p : Nat) : Nat := key (0x1580 + 8 * p) 0x03
/-- `pitch[p].direction` (R176). -/
def K.pitchDirection (p : Nat) : Nat := key (0x1580 + 8 * p) 0x04
/-- `pitch[p].window` (R176). -/
def K.pitchWindow (p : Nat) : Nat := key (0x1580 + 8 * p) 0x05
/-- `pitch[p].min_period` (R176). -/
def K.pitchMinPeriod (p : Nat) : Nat := key (0x1580 + 8 * p) 0x06
/-- `pitch[p].grid_q` (R176). -/
def K.pitchGridQ (p : Nat) : Nat := key (0x1581 + 8 * p) 0x01
/-- `pitch[p].grid_div` (R176). -/
def K.pitchGridDiv (p : Nat) : Nat := key (0x1581 + 8 * p) 0x02
/-- `pitch[p].quantum` (R176). -/
def K.pitchQuantum (p : Nat) : Nat := key (0x1581 + 8 * p) 0x03
/-- `pitch[p].out_delay` (R176). -/
def K.pitchOutDelay (p : Nat) : Nat := key (0x1581 + 8 * p) 0x04
/-- `pitch[p].width` (R176). -/
def K.pitchWidth (p : Nat) : Nat := key (0x1581 + 8 * p) 0x05
/-- `pitch[p].source` (R176). -/
def K.pitchSource (p : Nat) : Nat := key (0x1581 + 8 * p) 0x06
/-- `pitch[p].line` (R176). -/
def K.pitchLine (p : Nat) : Nat := key (0x1582 + 8 * p) 0x01
/-- `pitch[p].line_start` (R176). -/
def K.pitchLineStart (p : Nat) : Nat := key (0x1582 + 8 * p) 0x02
/-- `pitch[p].last_time` (R176). -/
def K.pitchLastTime (p : Nat) : Nat := key (0x1582 + 8 * p) 0x03
/-- `pitch[p].last_pos` (R176). -/
def K.pitchLastPos (p : Nat) : Nat := key (0x1582 + 8 * p) 0x04
/-- `pitch[p].late` (R176). -/
def K.pitchLate (p : Nat) : Nat := key (0x1582 + 8 * p) 0x05
/-- `pitch[p].skipped` (R176). -/
def K.pitchSkipped (p : Nat) : Nat := key (0x1582 + 8 * p) 0x06
/-- `pitch[p].error` (R176). -/
def K.pitchError (p : Nat) : Nat := key (0x1582 + 8 * p) 0x07
/-! Objects of R197 (08_formation.md). -/

/-- `rally.state` (R197). -/
def K.rallyState : Nat := key 0x1600 0x01
/-- `rally.role` (R197). -/
def K.rallyRole : Nat := key 0x1600 0x02
/-- `rally.member` (R197). -/
def K.rallyMember : Nat := key 0x1600 0x03
/-- `rally.captain` (R197). -/
def K.rallyCaptain : Nat := key 0x1600 0x04
/-- `rally.lead` (R197). -/
def K.rallyLead : Nat := key 0x1600 0x05
/-- `rally.hops` (R197). -/
def K.rallyHops : Nat := key 0x1600 0x06
/-- `rally.upstream` (R197). -/
def K.rallyUpstream : Nat := key 0x1600 0x07
/-- `rally.offset` (R197). -/
def K.rallyOffset : Nat := key 0x1600 0x08
/-- `rally.wander` (R197). -/
def K.rallyWander : Nat := key 0x1600 0x09
/-- `rally.static` (R197). -/
def K.rallyStatic : Nat := key 0x1600 0x0A
/-- `rally.version` (R197). -/
def K.rallyVersion : Nat := key 0x1600 0x0B
/-- `rally.flags` (R197). -/
def K.rallyFlags : Nat := key 0x1600 0x0C
/-- `rally.last_fail` (R197). -/
def K.rallyLastFail : Nat := key 0x1600 0x0D
/-- `rally.members` (R197). -/
def K.rallyMembers : Nat := key 0x1600 0x0E
/-- `rally.loop_bw` (R197). -/
def K.rallyLoopBw : Nat := key 0x1601 0x01
/-- `rally.whistle_hops` (R197). -/
def K.rallyWhistleHops : Nat := key 0x1601 0x02
/-- `rally.share_source` (R197). -/
def K.rallyShareSource : Nat := key 0x1602 0x01
/-- `rally.share_backup` (R197). -/
def K.rallyShareBackup : Nat := key 0x1602 0x02
/-- `rally.trigger_horizon` (R197). -/
def K.rallyTriggerHorizon : Nat := key 0x1602 0x03
/-- `rally.trigger_timeout` (R197). -/
def K.rallyTriggerTimeout : Nat := key 0x1602 0x04
/-- `rally.d_max` (R197). -/
def K.rallyDMax : Nat := key 0x1602 0x05
/-- `rally.takeovers` (R197). -/
def K.rallyTakeovers : Nat := key 0x1602 0x06
/-- `rally.takeover_lines` (R197). -/
def K.rallyTakeoverLines : Nat := key 0x1602 0x07
/-- `rally.whistle.sent` (R197). -/
def K.rallyWhistleSent : Nat := key 0x1603 0x01
/-- `rally.whistle.received` (R197). -/
def K.rallyWhistleReceived : Nat := key 0x1603 0x02
/-- `rally.whistle.last` (R197). -/
def K.rallyWhistleLast : Nat := key 0x1603 0x03
/-- `rally.lane[i].state` (R197). -/
def K.rallyLaneState (i : Nat) : Nat := key (0x1610 + i) 0x01
/-- `rally.lane[i].peer` (R197). -/
def K.rallyLanePeer (i : Nat) : Nat := key (0x1610 + i) 0x02
/-- `rally.lane[i].delay` (R197). -/
def K.rallyLaneDelay (i : Nat) : Nat := key (0x1610 + i) 0x03
/-- `rally.lane[i].asym` (R197). -/
def K.rallyLaneAsym (i : Nat) : Nat := key (0x1610 + i) 0x04
/-- `rally.lane[i].dropped` (R197). -/
def K.rallyLaneDropped (i : Nat) : Nat := key (0x1610 + i) 0x05
/-- `rally.lane[i].fragments` (R197). -/
def K.rallyLaneFragments (i : Nat) : Nat := key (0x1610 + i) 0x06
/-! Objects of R219 (09_filter_chain.md). -/

/-- `fe[n].enable` (R219). -/
def K.feEnable (n : Nat) : Nat := key (0x4800 + 2 * n) 0x01
/-- `fe[n].status` (R219). -/
def K.feStatus (n : Nat) : Nat := key (0x4800 + 2 * n) 0x02
/-- `fe[n].load` (R219). -/
def K.feLoad (n : Nat) : Nat := key (0x4800 + 2 * n) 0x03
/-- `fe[n].cadence` (R219). -/
def K.feCadence (n : Nat) : Nat := key (0x4800 + 2 * n) 0x04
/-- `fe[n].slots` (R219). -/
def K.feSlots (n : Nat) : Nat := key (0x4800 + 2 * n) 0x05
/-- `fe[n].lag` (R219). -/
def K.feLag (n : Nat) : Nat := key (0x4800 + 2 * n) 0x06
/-- `fe[n].lost` (R219). -/
def K.feLost (n : Nat) : Nat := key (0x4800 + 2 * n) 0x07
/-- `fe[n].primes` (R219). -/
def K.fePrimes (n : Nat) : Nat := key (0x4800 + 2 * n) 0x08
/-- `fe[n].sat` (R219). -/
def K.feSat (n : Nat) : Nat := key (0x4800 + 2 * n) 0x09
/-- `fe[n].slot[s].ctx` (R219). -/
def K.feSlotCtx (n s : Nat) : Nat := key (0x4801 + 2 * n) (0x10 + 8 * s)
/-- `fe[n].slot[s].state` (R219). -/
def K.feSlotState (n s : Nat) : Nat := key (0x4801 + 2 * n) (0x11 + 8 * s)
/-- `fe[n].slot[s].sets` (R219). -/
def K.feSlotSets (n s : Nat) : Nat := key (0x4801 + 2 * n) (0x12 + 8 * s)
/-- `fe[n].slot[s].mode` (R219). -/
def K.feSlotMode (n s : Nat) : Nat := key (0x4801 + 2 * n) (0x13 + 8 * s)
/-- `fe[n].slot[s].nco_freq` (R219). -/
def K.feSlotNcoFreq (n s : Nat) : Nat := key (0x4801 + 2 * n) (0x14 + 8 * s)
/-- `fe[n].slot[s].nco_phase` (R219). -/
def K.feSlotNcoPhase (n s : Nat) : Nat := key (0x4801 + 2 * n) (0x15 + 8 * s)
/-- `fe[n].slot[s].settle` (R219). -/
def K.feSlotSettle (n s : Nat) : Nat := key (0x4801 + 2 * n) (0x16 + 8 * s)
/-- `fe[n].slot[s].delay` (R219). -/
def K.feSlotDelay (n s : Nat) : Nat := key (0x4801 + 2 * n) (0x17 + 8 * s)
/-- `fe.set[c].coef` (R219). -/
def K.feSetCoef (c : Nat) : Nat := key (0x4880 + c) 0x01
/-- `fe.set[c].users` (R219). -/
def K.feSetUsers (c : Nat) : Nat := key (0x4880 + c) 0x02
/-! Objects of R222 (10_placer_contexts.md). -/

/-- `board.span` (R222). -/
def K.boardSpan : Nat := key 0x1800 0x01
/-- `board.position` (R222). -/
def K.boardPosition : Nat := key 0x1800 0x02
/-- `board.spans` (R222). -/
def K.boardSpans : Nat := key 0x1800 0x03
/-- `board.commit` (R222). -/
def K.boardCommit : Nat := key 0x1800 0x04
/-- `board.state` (R222). -/
def K.boardState : Nat := key 0x1800 0x05
/-- `board.crc` (R222). -/
def K.boardCrc : Nat := key 0x1800 0x06
/-- `board.commits` (R222). -/
def K.boardCommits : Nat := key 0x1800 0x07
/-- `board.pads` (R222). -/
def K.boardPads : Nat := key 0x1801 0x01
/-- `board.lanes` (R222). -/
def K.boardLanes : Nat := key 0x1802 0x01
/-- `board.pins` (R222). -/
def K.boardPins : Nat := key 0x1803 0x01
/-- `board.defects` (R222). -/
def K.boardDefects : Nat := key 0x1804 0x01
/-- `board.name` (R222). -/
def K.boardName : Nat := key 0x1805 0x01
/-- `board.user` (R222). -/
def K.boardUser : Nat := key 0x1806 0x01
/-! Objects of R224 (10_placer_contexts.md). -/

/-- `graph.program` (R224). -/
def K.graphProgram : Nat := key 0x2100 0x01
/-- `graph.commit` (R224). -/
def K.graphCommit : Nat := key 0x2100 0x02
/-- `graph.state` (R224). -/
def K.graphState : Nat := key 0x2100 0x03
/-- `graph.crc` (R224). -/
def K.graphCrc : Nat := key 0x2100 0x04
/-- `graph.contexts` (R224). -/
def K.graphContexts : Nat := key 0x2100 0x05
/-- `graph.pieces` (R224). -/
def K.graphPieces : Nat := key 0x2100 0x06
/-- `graph.encoders` (R224). -/
def K.graphEncoders : Nat := key 0x2100 0x07
/-- `graph.node[c].source` (R224). -/
def K.graphNodeSource (c : Nat) : Nat := key (0x2400 + c) 0x01
/-- `graph.node[c].input` (R224). -/
def K.graphNodeInput (c : Nat) : Nat := key (0x2400 + c) 0x02
/-- `graph.node[c].input2` (R224). -/
def K.graphNodeInput2 (c : Nat) : Nat := key (0x2400 + c) 0x03
/-- `graph.node[c].scan` (R224). -/
def K.graphNodeScan (c : Nat) : Nat := key (0x2400 + c) 0x04
/-- `graph.node[c].form` (R224). -/
def K.graphNodeForm (c : Nat) : Nat := key (0x2400 + c) 0x05
/-- `graph.node[c].fe` (R224). -/
def K.graphNodeFe (c : Nat) : Nat := key (0x2400 + c) 0x06
/-- `graph.node[c].adc_mode` (R224). -/
def K.graphNodeAdcMode (c : Nat) : Nat := key (0x2400 + c) 0x07
/-- `graph.node[c].cs` (R224). -/
def K.graphNodeCs (c : Nat) : Nat := key (0x2400 + c) 0x08
/-- `graph.node[c].rate` (R224). -/
def K.graphNodeRate (c : Nat) : Nat := key (0x2400 + c) 0x09
/-- `graph.node[c].phase` (R224). -/
def K.graphNodePhase (c : Nat) : Nat := key (0x2400 + c) 0x0A
/-- `graph.node[c].chain` (R224). -/
def K.graphNodeChain (c : Nat) : Nat := key (0x2400 + c) 0x0B
/-- `graph.node[c].pitch` (R224). -/
def K.graphNodePitch (c : Nat) : Nat := key (0x2400 + c) 0x0C
/-- `graph.node[c].block` (R224). -/
def K.graphNodeBlock (c : Nat) : Nat := key (0x2400 + c) 0x0D
/-- `graph.node[c].retention` (R224). -/
def K.graphNodeRetention (c : Nat) : Nat := key (0x2400 + c) 0x0E
/-- `graph.node[c].policy` (R224). -/
def K.graphNodePolicy (c : Nat) : Nat := key (0x2400 + c) 0x0F
/-- `graph.node[c].dest` (R224). -/
def K.graphNodeDest (c : Nat) : Nat := key (0x2400 + c) 0x10
/-- `graph.node[c].group` (R224). -/
def K.graphNodeGroup (c : Nat) : Nat := key (0x2400 + c) 0x11
/-- `graph.node[c].peer` (R224). -/
def K.graphNodePeer (c : Nat) : Nat := key (0x2400 + c) 0x12
/-- `graph.node[c].dac` (R224). -/
def K.graphNodeDac (c : Nat) : Nat := key (0x2400 + c) 0x13
/-- `graph.node[c].replay_lane` (R224). -/
def K.graphNodeReplayLane (c : Nat) : Nat := key (0x2400 + c) 0x14
/-- `graph.node[c].out_rate` (R224). -/
def K.graphNodeOutRate (c : Nat) : Nat := key (0x2400 + c) 0x15
/-- `graph.node[c].line_bytes` (R224). -/
def K.graphNodeLineBytes (c : Nat) : Nat := key (0x2400 + c) 0x16
/-- `graph.node[c].pins` (R224). -/
def K.graphNodePins (c : Nat) : Nat := key (0x2400 + c) 0x17
/-- `graph.node[c].raw_retention` (R224). -/
def K.graphNodeRawRetention (c : Nat) : Nat := key (0x2400 + c) 0x18
/-- `graph.node[c].dwell` (R224). -/
def K.graphNodeDwell (c : Nat) : Nat := key (0x2400 + c) 0x19
/-- `graph.node[c].blank` (R224). -/
def K.graphNodeBlank (c : Nat) : Nat := key (0x2400 + c) 0x1A
/-- `graph.piece[j].clusters` (R224). -/
def K.graphPieceClusters (j : Nat) : Nat := key (0x2200 + j) 0x01
/-- `graph.piece[j].ports` (R224). -/
def K.graphPiecePorts (j : Nat) : Nat := key (0x2200 + j) 0x02
/-- `graph.piece[j].sector` (R224). -/
def K.graphPieceSector (j : Nat) : Nat := key (0x2200 + j) 0x03
/-- `graph.piece[j].delay` (R224). -/
def K.graphPieceDelay (j : Nat) : Nat := key (0x2200 + j) 0x04
/-- `graph.piece[j].warmup` (R224). -/
def K.graphPieceWarmup (j : Nat) : Nat := key (0x2200 + j) 0x05
/-- `graph.piece[j].inputs` (R224). -/
def K.graphPieceInputs (j : Nat) : Nat := key (0x2200 + j) 0x06
/-- `graph.piece[j].placed_sector` (R224). -/
def K.graphPiecePlacedSector (j : Nat) : Nat := key (0x2200 + j) 0x07
/-- `graph.piece[j].placed_clusters` (R224). -/
def K.graphPiecePlacedClusters (j : Nat) : Nat := key (0x2200 + j) 0x08
/-- `graph.piece[j].placed_ports` (R224). -/
def K.graphPiecePlacedPorts (j : Nat) : Nat := key (0x2200 + j) 0x09
/-- `graph.piece[j].moves` (R224). -/
def K.graphPieceMoves (j : Nat) : Nat := key (0x2200 + j) 0x0A
/-! Objects of R227 (10_placer_contexts.md). -/

/-- `ctx[c].state` (R227). -/
def K.ctxState (c : Nat) : Nat := key (0x4000 + c) 0x01
/-- `ctx[c].tile` (R227). -/
def K.ctxTile (c : Nat) : Nat := key (0x4000 + c) 0x02
/-- `ctx[c].half` (R227). -/
def K.ctxHalf (c : Nat) : Nat := key (0x4000 + c) 0x03
/-- `ctx[c].engine` (R227). -/
def K.ctxEngine (c : Nat) : Nat := key (0x4000 + c) 0x04
/-- `ctx[c].piece` (R227). -/
def K.ctxPiece (c : Nat) : Nat := key (0x4000 + c) 0x05
/-- `ctx[c].lane` (R227). -/
def K.ctxLane (c : Nat) : Nat := key (0x4000 + c) 0x06
/-- `ctx[c].replay_lane` (R227). -/
def K.ctxReplayLane (c : Nat) : Nat := key (0x4000 + c) 0x07
/-- `ctx[c].ring.base` (R227). -/
def K.ctxRingBase (c : Nat) : Nat := key (0x4000 + c) 0x08
/-- `ctx[c].ring.bytes` (R227). -/
def K.ctxRingBytes (c : Nat) : Nat := key (0x4000 + c) 0x09
/-- `ctx[c].ring.lines` (R227). -/
def K.ctxRingLines (c : Nat) : Nat := key (0x4000 + c) 0x0A
/-- `ctx[c].raw.base` (R227). -/
def K.ctxRawBase (c : Nat) : Nat := key (0x4000 + c) 0x0B
/-- `ctx[c].raw.bytes` (R227). -/
def K.ctxRawBytes (c : Nat) : Nat := key (0x4000 + c) 0x0C
/-- `ctx[c].ring.pc` (R227). -/
def K.ctxRingPc (c : Nat) : Nat := key (0x4000 + c) 0x0D
/-- `ctx[c].line` (R227). -/
def K.ctxLine (c : Nat) : Nat := key (0x4000 + c) 0x0E
/-- `ctx[c].oldest` (R227). -/
def K.ctxOldest (c : Nat) : Nat := key (0x4000 + c) 0x0F
/-- `ctx[c].flags` (R227). -/
def K.ctxFlags (c : Nat) : Nat := key (0x4000 + c) 0x10
/-- `ctx[c].gap` (R227). -/
def K.ctxGap (c : Nat) : Nat := key (0x4000 + c) 0x11
/-- `ctx[c].lost` (R227). -/
def K.ctxLost (c : Nat) : Nat := key (0x4000 + c) 0x12
/-- `ctx[c].cause` (R227). -/
def K.ctxCause (c : Nat) : Nat := key (0x4000 + c) 0x13
/-- `ctx[c].degraded_line` (R227). -/
def K.ctxDegradedLine (c : Nat) : Nat := key (0x4000 + c) 0x14
/-- `ctx[c].swap.state` (R227). -/
def K.ctxSwapState (c : Nat) : Nat := key (0x4000 + c) 0x15
/-- `ctx[c].swap.tile` (R227). -/
def K.ctxSwapTile (c : Nat) : Nat := key (0x4000 + c) 0x16
/-- `ctx[c].swap.from` (R227). -/
def K.ctxSwapFrom (c : Nat) : Nat := key (0x4000 + c) 0x17
/-- `ctx[c].swap.line` (R227). -/
def K.ctxSwapLine (c : Nat) : Nat := key (0x4000 + c) 0x18
/-- `ctx[c].swap.ms` (R227). -/
def K.ctxSwapMs (c : Nat) : Nat := key (0x4000 + c) 0x19
/-- `ctx[c].swaps` (R227). -/
def K.ctxSwaps (c : Nat) : Nat := key (0x4000 + c) 0x1A
/-- `ctx[c].moves` (R227). -/
def K.ctxMoves (c : Nat) : Nat := key (0x4000 + c) 0x1B
/-- `ctx[c].upset_line` (R227). -/
def K.ctxUpsetLine (c : Nat) : Nat := key (0x4000 + c) 0x1C
/-- `ctx[c].delay` (R227). -/
def K.ctxDelay (c : Nat) : Nat := key (0x4000 + c) 0x1D
/-- `ctx[c].swap` (R227). -/
def K.ctxSwap (c : Nat) : Nat := key (0x4000 + c) 0x1E
/-- `ctx[c].retry` (R227). -/
def K.ctxRetry (c : Nat) : Nat := key (0x4000 + c) 0x1F
/-! Objects of R238 (10_placer_contexts.md). -/

/-- `placer.state` (R238). -/
def K.placerState : Nat := key 0x2000 0x01
/-- `placer.result` (R238). -/
def K.placerResult : Nat := key 0x2000 0x02
/-- `placer.conflict` (R238). -/
def K.placerConflict : Nat := key 0x2000 0x03
/-- `placer.digest` (R238). -/
def K.placerDigest : Nat := key 0x2000 0x04
/-- `placer.algorithm` (R238). -/
def K.placerAlgorithm : Nat := key 0x2000 0x05
/-- `placer.ms` (R238). -/
def K.placerMs : Nat := key 0x2000 0x06
/-- `placer.trial` (R238). -/
def K.placerTrial : Nat := key 0x2000 0x07
/-- `placer.trial_result` (R238). -/
def K.placerTrialResult : Nat := key 0x2000 0x08
/-- `placer.trial_digest` (R238). -/
def K.placerTrialDigest : Nat := key 0x2000 0x09
/-- `placer.auto_swap` (R238). -/
def K.placerAutoSwap : Nat := key 0x2000 0x0A
/-- `placer.swap_attempts` (R238). -/
def K.placerSwapAttempts : Nat := key 0x2000 0x0B
/-- `placer.swap_lines` (R238). -/
def K.placerSwapLines : Nat := key 0x2000 0x0C
/-- `placer.store_bw` (R238). -/
def K.placerStoreBw : Nat := key 0x2000 0x0D
/-- `placer.store_bytes` (R238). -/
def K.placerStoreBytes : Nat := key 0x2000 0x0E
/-- `placer.quadrants` (R238). -/
def K.placerQuadrants : Nat := key 0x2000 0x0F
/-- `placer.swaps_active` (R238). -/
def K.placerSwapsActive : Nat := key 0x2000 0x10
/-- `placer.defects` (R238). -/
def K.placerDefects : Nat := key 0x2001 0x01
/-- `placer.defect_count` (R238). -/
def K.placerDefectCount : Nat := key 0x2001 0x02
/-- `placer.defect_add` (R238). -/
def K.placerDefectAdd : Nat := key 0x2001 0x03
/-- `placer.defect_clear` (R238). -/
def K.placerDefectClear : Nat := key 0x2001 0x04
/-! Objects of R266 (11_store.md). -/

/-- `store.state` (R266). -/
def K.storeState : Nat := key 0x5800 0x01
/-- `store.capacity` (R266). -/
def K.storeCapacity : Nat := key 0x5800 0x02
/-- `store.ring_space` (R266). -/
def K.storeRingSpace : Nat := key 0x5800 0x03
/-- `store.temp` (R266). -/
def K.storeTemp : Nat := key 0x5800 0x04
/-- `store.trefi` (R266). -/
def K.storeTrefi : Nat := key 0x5800 0x05
/-- `store.repaired` (R266). -/
def K.storeRepaired : Nat := key 0x5800 0x06
/-- `store.bw_read` (R266). -/
def K.storeBwRead : Nat := key 0x5800 0x07
/-- `store.bw_write` (R266). -/
def K.storeBwWrite : Nat := key 0x5800 0x08
/-- `store.wq_high` (R266). -/
def K.storeWqHigh : Nat := key 0x5801 0x01
/-- `store.wq_low` (R266). -/
def K.storeWqLow : Nat := key 0x5801 0x02
/-- `store.wq_age` (R266). -/
def K.storeWqAge : Nat := key 0x5801 0x03
/-- `store.refresh.postpone` (R266). -/
def K.storeRefreshPostpone : Nat := key 0x5802 0x01
/-- `store.refresh.ab_event` (R266). -/
def K.storeRefreshAbEvent : Nat := key 0x5802 0x02
/-- `store.nrr.k` (R266). -/
def K.storeNrrK : Nat := key 0x5803 0x01
/-- `store.nrr.enable` (R266). -/
def K.storeNrrEnable : Nat := key 0x5803 0x02
/-- `store.map.select` (R266). -/
def K.storeMapSelect : Nat := key 0x5804 0x01
/-- `store.map.scheme` (R266). -/
def K.storeMapScheme : Nat := key 0x5804 0x02
/-- `store.map.masks` (R266). -/
def K.storeMapMasks : Nat := key 0x5804 0x03
/-- `store.retired` (R266). -/
def K.storeRetired : Nat := key 0x5805 0x01
/-- `store.retired_count` (R266). -/
def K.storeRetiredCount : Nat := key 0x5805 0x02
/-- `store.unusable` (R266). -/
def K.storeUnusable : Nat := key 0x5805 0x03
/-- `store.unusable_count` (R266). -/
def K.storeUnusableCount : Nat := key 0x5805 0x04
/-- `store.pc[p].state` (R266). -/
def K.storePcState (p : Nat) : Nat := key (0x5820 + p) 0x01
/-- `store.pc[p].reads` (R266). -/
def K.storePcReads (p : Nat) : Nat := key (0x5820 + p) 0x02
/-- `store.pc[p].writes` (R266). -/
def K.storePcWrites (p : Nat) : Nat := key (0x5820 + p) 0x03
/-- `store.pc[p].drains` (R266). -/
def K.storePcDrains (p : Nat) : Nat := key (0x5820 + p) 0x04
/-- `store.pc[p].debt_max` (R266). -/
def K.storePcDebtMax (p : Nat) : Nat := key (0x5820 + p) 0x05
/-- `store.pc[p].ab_refreshes` (R266). -/
def K.storePcAbRefreshes (p : Nat) : Nat := key (0x5820 + p) 0x06
/-- `store.pc[p].rfm` (R266). -/
def K.storePcRfm (p : Nat) : Nat := key (0x5820 + p) 0x07
/-- `store.pc[p].corrected` (R266). -/
def K.storePcCorrected (p : Nat) : Nat := key (0x5820 + p) 0x08
/-- `store.pc[p].uncorrected` (R266). -/
def K.storePcUncorrected (p : Nat) : Nat := key (0x5820 + p) 0x09
/-- `store.pc[p].parity` (R266). -/
def K.storePcParity (p : Nat) : Nat := key (0x5820 + p) 0x0A
/-- `store.pc[p].rt_wait_max` (R266). -/
def K.storePcRtWaitMax (p : Nat) : Nat := key (0x5820 + p) 0x0B
/-- `store.pc[p].clear` (R266). -/
def K.storePcClear (p : Nat) : Nat := key (0x5820 + p) 0x0C
/-- `ctx[c].ring.policy_state` (R266). -/
def K.ctxRingPolicyState (c : Nat) : Nat := key (0x4000 + c) 0x20
/-- `ctx[c].ring.unwritten` (R266). -/
def K.ctxRingUnwritten (c : Nat) : Nat := key (0x4000 + c) 0x21
/-- `ctx[c].ring.skipped` (R266). -/
def K.ctxRingSkipped (c : Nat) : Nat := key (0x4000 + c) 0x22
/-- `ctx[c].ring.resume` (R266). -/
def K.ctxRingResume (c : Nat) : Nat := key (0x4000 + c) 0x23
/-- `ctx[c].ring.records` (R266). -/
def K.ctxRingRecords (c : Nat) : Nat := key (0x4000 + c) 0x24
/-! Objects of R280 (12_selftimed_arbitration.md). -/

/-- `arb.libero_n` (R280). -/
def K.arbLiberoN : Nat := key 0x5900 0x01
/-- `arb.hold_limit` (R280). -/
def K.arbHoldLimit : Nat := key 0x5900 0x02
/-- `arb.red_count` (R280). -/
def K.arbRedCount : Nat := key 0x5900 0x03
/-- `arb.red_last` (R280). -/
def K.arbRedLast : Nat := key 0x5900 0x04
/-- `arb.clear_all` (R280). -/
def K.arbClearAll : Nat := key 0x5900 0x05
/-- `arb.cadence.factor` (R280). -/
def K.arbCadenceFactor : Nat := key 0x5901 0x01
/-- `arb.cadence.flags` (R280). -/
def K.arbCadenceFlags : Nat := key 0x5901 0x02
/-- `arb.cadence.ingest` (R280). -/
def K.arbCadenceIngest : Nat := key 0x5901 0x03
/-- `arb.cadence.lane` (R280). -/
def K.arbCadenceLane : Nat := key 0x5901 0x04
/-- `arb.cadence.engines` (R280). -/
def K.arbCadenceEngines : Nat := key 0x5901 0x05
/-- `arb.cadence.sector` (R280). -/
def K.arbCadenceSector : Nat := key 0x5901 0x06
/-- `arb.cadence.records` (R280). -/
def K.arbCadenceRecords : Nat := key 0x5901 0x07
/-- `arb.cadence.forward` (R280). -/
def K.arbCadenceForward : Nat := key 0x5901 0x08
/-- `arb.sync.slow` (R280). -/
def K.arbSyncSlow : Nat := key 0x5902 0x01
/-- `arb.sync.clear` (R280). -/
def K.arbSyncClear : Nat := key 0x5902 0x02
/-- `arb.client[i].rank` (R280). -/
def K.arbClientRank (i : Nat) : Nat := key (0x5910 + i) 0x01
/-- `arb.client[i].state` (R280). -/
def K.arbClientState (i : Nat) : Nat := key (0x5910 + i) 0x02
/-- `arb.client[i].cards` (R280). -/
def K.arbClientCards (i : Nat) : Nat := key (0x5910 + i) 0x03
/-- `arb.client[i].grants` (R280). -/
def K.arbClientGrants (i : Nat) : Nat := key (0x5910 + i) 0x04
/-- `arb.client[i].libero` (R280). -/
def K.arbClientLibero (i : Nat) : Nat := key (0x5910 + i) 0x05
/-- `arb.client[i].wait_max` (R280). -/
def K.arbClientWaitMax (i : Nat) : Nat := key (0x5910 + i) 0x06
/-- `arb.client[i].clear` (R280). -/
def K.arbClientClear (i : Nat) : Nat := key (0x5910 + i) 0x07
/-- `arb.port[p].cadence` (R280). -/
def K.arbPortCadence (p : Nat) : Nat := key (0x5940 + p) 0x01
/-- `arb.port[p].grants` (R280). -/
def K.arbPortGrants (p : Nat) : Nat := key (0x5940 + p) 0x02
/-- `arb.port[p].hold_max` (R280). -/
def K.arbPortHoldMax (p : Nat) : Nat := key (0x5940 + p) 0x03
/-! Objects of R304 (13_fabric_backstop.md). -/

/-- `fabric.sector[q].clusters_used` (R304). -/
def K.fabricSectorClustersUsed (q : Nat) : Nat := key (0x6010 + q) 0x01
/-- `fabric.sector[q].ports_used` (R304). -/
def K.fabricSectorPortsUsed (q : Nat) : Nat := key (0x6010 + q) 0x02
/-- `fabric.sector[q].clock_src` (R304). -/
def K.fabricSectorClockSrc (q : Nat) : Nat := key (0x6010 + q) 0x03
/-- `fabric.sector[q].port_roles` (R304). -/
def K.fabricSectorPortRoles (q : Nat) : Nat := key (0x6010 + q) 0x04
/-- `fabric.sector[q].bram_collisions` (R304). -/
def K.fabricSectorBramCollisions (q : Nat) : Nat := key (0x6010 + q) 0x05
/-- `fabric.sector[q].dropped` (R304). -/
def K.fabricSectorDropped (q : Nat) : Nat := key (0x6010 + q) 0x06
/-- `fabric.sector[q].coarse_dropped` (R304). -/
def K.fabricSectorCoarseDropped (q : Nat) : Nat := key (0x6010 + q) 0x07
/-- `fabric.pace[i].quadrant` (R304). -/
def K.fabricPaceQuadrant (i : Nat) : Nat := key (0x6020 + i) 0x01
/-- `fabric.pace[i].div` (R304). -/
def K.fabricPaceDiv (i : Nat) : Nat := key (0x6020 + i) 0x02
/-- `fabric.pace[i].freq` (R304). -/
def K.fabricPaceFreq (i : Nat) : Nat := key (0x6020 + i) 0x03
/-- `fabric.pace[i].offset` (R304). -/
def K.fabricPaceOffset (i : Nat) : Nat := key (0x6020 + i) 0x04
/-- `fabric.pace[i].status` (R304). -/
def K.fabricPaceStatus (i : Nat) : Nat := key (0x6020 + i) 0x05
/-- `backstop.image` (R304). -/
def K.backstopImage : Nat := key 0x6100 0x01
/-- `backstop.state` (R304). -/
def K.backstopState : Nat := key 0x6100 0x02
/-- `backstop.bank` (R304). -/
def K.backstopBank : Nat := key 0x6100 0x03
/-- `backstop.running_bank` (R304). -/
def K.backstopRunningBank : Nat := key 0x6100 0x04
/-- `backstop.pending` (R304). -/
def K.backstopPending : Nat := key 0x6100 0x05
/-- `backstop.activate` (R304). -/
def K.backstopActivate : Nat := key 0x6100 0x06
/-- `backstop.cycles` (R304). -/
def K.backstopCycles : Nat := key 0x6100 0x07
/-- `backstop.worn` (R304). -/
def K.backstopWorn : Nat := key 0x6100 0x08
/-- `backstop.crc` (R304). -/
def K.backstopCrc : Nat := key 0x6100 0x09
/-- `backstop.upsets` (R304). -/
def K.backstopUpsets : Nat := key 0x6100 0x0A
/-- `backstop.outputs` (R304). -/
def K.backstopOutputs : Nat := key 0x6101 0x01
/-- `backstop.inputs` (R304). -/
def K.backstopInputs : Nat := key 0x6101 0x02
/-- `backstop.osc` (R304). -/
def K.backstopOsc : Nat := key 0x6101 0x03
/-- `backstop.whistles` (R304). -/
def K.backstopWhistles : Nat := key 0x6102 0x01
/-- `backstop.whistles_ignored` (R304). -/
def K.backstopWhistlesIgnored : Nat := key 0x6102 0x02
/-- `probe[m].net` (R304). -/
def K.probeNet (m : Nat) : Nat := key (0x7C00 + m) 0x01
/-- `probe[m].dest` (R304). -/
def K.probeDest (m : Nat) : Nat := key (0x7C00 + m) 0x02
/-- `probe[m].pin` (R304). -/
def K.probePin (m : Nat) : Nat := key (0x7C00 + m) 0x03
/-- `probe.pace` (R304). -/
def K.probePace : Nat := key 0x7C10 0x01
/-- `probe.depth` (R304). -/
def K.probeDepth : Nat := key 0x7C10 0x02
/-- `probe.trigger` (R304). -/
def K.probeTrigger : Nat := key 0x7C10 0x03
/-- `probe.edge` (R304). -/
def K.probeEdge : Nat := key 0x7C10 0x04
/-- `probe.pre` (R304). -/
def K.probePre : Nat := key 0x7C10 0x05
/-- `probe.arm` (R304). -/
def K.probeArm : Nat := key 0x7C10 0x06
/-- `probe.state` (R304). -/
def K.probeState : Nat := key 0x7C10 0x07
/-- `probe.trigger_index` (R304). -/
def K.probeTriggerIndex : Nat := key 0x7C10 0x08
/-- `probe.trigger_time` (R304). -/
def K.probeTriggerTime : Nat := key 0x7C10 0x09
/-- `probe.data` (R304). -/
def K.probeData : Nat := key 0x7C11 0x01
/-! Objects of R329 (14_configuration_scrubbing.md). -/

/-- `config.image` (R329). -/
def K.configImage : Nat := key 0x6040 0x01
/-- `config.state` (R329). -/
def K.configState : Nat := key 0x6040 0x02
/-- `config.crc` (R329). -/
def K.configCrc : Nat := key 0x6040 0x03
/-- `config.word` (R329). -/
def K.configWord : Nat := key 0x6040 0x04
/-- `config.pieces` (R329). -/
def K.configPieces : Nat := key 0x6040 0x05
/-- `config.staged` (R329). -/
def K.configStaged : Nat := key 0x6040 0x06
/-- `config.commits` (R329). -/
def K.configCommits : Nat := key 0x6040 0x07
/-- `config.last_abort` (R329). -/
def K.configLastAbort : Nat := key 0x6040 0x08
/-- `config.last_offset` (R329). -/
def K.configLastOffset : Nat := key 0x6040 0x09
/-- `config.sector[q].state` (R329). -/
def K.configSectorState (q : Nat) : Nat := key (0x6048 + q) 0x01
/-- `config.sector[q].reload` (R329). -/
def K.configSectorReload (q : Nat) : Nat := key (0x6048 + q) 0x02
/-- `config.sector[q].frozen_from` (R329). -/
def K.configSectorFrozenFrom (q : Nat) : Nat := key (0x6048 + q) 0x03
/-- `config.sector[q].released` (R329). -/
def K.configSectorReleased (q : Nat) : Nat := key (0x6048 + q) 0x04
/-- `config.sector[q].reloads` (R329). -/
def K.configSectorReloads (q : Nat) : Nat := key (0x6048 + q) 0x05
/-- `config.sector[q].clusters_left` (R329). -/
def K.configSectorClustersLeft (q : Nat) : Nat := key (0x6048 + q) 0x06
/-- `scrub.enable` (R329). -/
def K.scrubEnable : Nat := key 0x6080 0x01
/-- `scrub.status` (R329). -/
def K.scrubStatus : Nat := key 0x6080 0x02
/-- `scrub.position` (R329). -/
def K.scrubPosition : Nat := key 0x6080 0x03
/-- `scrub.pass_ms` (R329). -/
def K.scrubPassMs : Nat := key 0x6080 0x04
/-- `scrub.passes` (R329). -/
def K.scrubPasses : Nat := key 0x6080 0x05
/-- `scrub.map_ptr` (R329). -/
def K.scrubMapPtr : Nat := key 0x6080 0x06
/-- `scrub.flags` (R329). -/
def K.scrubFlags : Nat := key 0x6080 0x07
/-- `scrub.corrected` (R329). -/
def K.scrubCorrected : Nat := key 0x6081 0x01
/-- `scrub.essential` (R329). -/
def K.scrubEssential : Nat := key 0x6081 0x02
/-- `scrub.restored` (R329). -/
def K.scrubRestored : Nat := key 0x6081 0x03
/-- `scrub.lost` (R329). -/
def K.scrubLost : Nat := key 0x6081 0x04
/-- `scrub.onehot` (R329). -/
def K.scrubOnehot : Nat := key 0x6081 0x05
/-- `scrub.vote_fixes` (R329). -/
def K.scrubVoteFixes : Nat := key 0x6081 0x06
/-- `scrub.restarts` (R329). -/
def K.scrubRestarts : Nat := key 0x6081 0x07
/-- `scrub.map_bad` (R329). -/
def K.scrubMapBad : Nat := key 0x6081 0x08
/-- `scrub.log` (R329). -/
def K.scrubLog : Nat := key 0x6082 0x01
/-! Objects of R355 (15_calibration_monitors.md). -/

/-- `tile[n].mon[i].enable` (R355). -/
def K.tileMonEnable (n i : Nat) : Nat := key (0x300C + 16 * n + i) 0x01
/-- `tile[n].mon[i].tap` (R355). -/
def K.tileMonTap (n i : Nat) : Nat := key (0x300C + 16 * n + i) 0x02
/-- `tile[n].mon[i].direction` (R355). -/
def K.tileMonDirection (n i : Nat) : Nat := key (0x300C + 16 * n + i) 0x03
/-- `tile[n].mon[i].threshold` (R355). -/
def K.tileMonThreshold (n i : Nat) : Nat := key (0x300C + 16 * n + i) 0x04
/-- `tile[n].mon[i].hyst` (R355). -/
def K.tileMonHyst (n i : Nat) : Nat := key (0x300C + 16 * n + i) 0x05
/-- `tile[n].mon[i].tick` (R355). -/
def K.tileMonTick (n i : Nat) : Nat := key (0x300C + 16 * n + i) 0x06
/-- `tile[n].mon[i].tick_real` (R355). -/
def K.tileMonTickReal (n i : Nat) : Nat := key (0x300C + 16 * n + i) 0x07
/-- `tile[n].mon[i].filter` (R355). -/
def K.tileMonFilter (n i : Nat) : Nat := key (0x300C + 16 * n + i) 0x08
/-- `tile[n].mon[i].blank_src` (R355). -/
def K.tileMonBlankSrc (n i : Nat) : Nat := key (0x300C + 16 * n + i) 0x09
/-- `tile[n].mon[i].blank_ticks` (R355). -/
def K.tileMonBlankTicks (n i : Nat) : Nat := key (0x300C + 16 * n + i) 0x0A
/-- `tile[n].mon[i].slot` (R355). -/
def K.tileMonSlot (n i : Nat) : Nat := key (0x300C + 16 * n + i) 0x0B
/-- `tile[n].mon[i].state` (R355). -/
def K.tileMonState (n i : Nat) : Nat := key (0x300C + 16 * n + i) 0x0C
/-- `tile[n].mon[i].unresolved` (R355). -/
def K.tileMonUnresolved (n i : Nat) : Nat := key (0x300C + 16 * n + i) 0x0D
/-- `tile[n].mon[i].pool` (R355). -/
def K.tileMonPool (n i : Nat) : Nat := key (0x300C + 16 * n + i) 0x0E
/-- `tile[n].mon[i].trips` (R355). -/
def K.tileMonTrips (n i : Nat) : Nat := key (0x300C + 16 * n + i) 0x0F
/-- `tile[n].mon[i].last_trip` (R355). -/
def K.tileMonLastTrip (n i : Nat) : Nat := key (0x300C + 16 * n + i) 0x10
/-- `tile[n].cal.result` (R355). -/
def K.tileCalResult (n : Nat) : Nat := key (0x300E + 16 * n) 0x01
/-- `tile[n].cal.valid` (R355). -/
def K.tileCalValid (n : Nat) : Nat := key (0x300E + 16 * n) 0x02
/-- `tile[n].cal.last` (R355). -/
def K.tileCalLast (n : Nat) : Nat := key (0x300E + 16 * n) 0x03
/-- `tile[n].cal.passes` (R355). -/
def K.tileCalPasses (n : Nat) : Nat := key (0x300E + 16 * n) 0x04
/-- `tile[n].cal.fails` (R355). -/
def K.tileCalFails (n : Nat) : Nat := key (0x300E + 16 * n) 0x05
/-- `tile[n].cal.ramp_lines` (R355). -/
def K.tileCalRampLines (n : Nat) : Nat := key (0x300E + 16 * n) 0x06
/-- `tile[n].cal.ramp_us` (R355). -/
def K.tileCalRampUs (n : Nat) : Nat := key (0x300E + 16 * n) 0x07
/-- `tile[n].cal.ramp_left` (R355). -/
def K.tileCalRampLeft (n : Nat) : Nat := key (0x300E + 16 * n) 0x08
/-- `tile[n].cal.fault` (R355). -/
def K.tileCalFault (n : Nat) : Nat := key (0x300E + 16 * n) 0x09
/-- `tile[n].scene.result` (R355). -/
def K.tileSceneResult (n : Nat) : Nat := key (0x300F + 16 * n) 0x01
/-- `tile[n].scene.enable` (R355). -/
def K.tileSceneEnable (n : Nat) : Nat := key (0x300F + 16 * n) 0x02
/-- `tile[n].scene.lines` (R355). -/
def K.tileSceneLines (n : Nat) : Nat := key (0x300F + 16 * n) 0x03
/-- `tile[n].scene.dark_low` (R355). -/
def K.tileSceneDarkLow (n : Nat) : Nat := key (0x300F + 16 * n) 0x04
/-- `tile[n].scene.dark_high` (R355). -/
def K.tileSceneDarkHigh (n : Nat) : Nat := key (0x300F + 16 * n) 0x05
/-- `tile[n].scene.flat_low` (R355). -/
def K.tileSceneFlatLow (n : Nat) : Nat := key (0x300F + 16 * n) 0x06
/-- `tile[n].scene.flat_high` (R355). -/
def K.tileSceneFlatHigh (n : Nat) : Nat := key (0x300F + 16 * n) 0x07
/-- `tile[n].scene.flat_target` (R355). -/
def K.tileSceneFlatTarget (n : Nat) : Nat := key (0x300F + 16 * n) 0x08
/-- `tile[n].scene.bad_max` (R355). -/
def K.tileSceneBadMax (n : Nat) : Nat := key (0x300F + 16 * n) 0x09
/-- `tile[n].scene.tol_dark` (R355). -/
def K.tileSceneTolDark (n : Nat) : Nat := key (0x300F + 16 * n) 0x0A
/-- `tile[n].scene.tol_flat` (R355). -/
def K.tileSceneTolFlat (n : Nat) : Nat := key (0x300F + 16 * n) 0x0B
/-- `tile[n].scene.bad` (R355). -/
def K.tileSceneBad (n : Nat) : Nat := key (0x300F + 16 * n) 0x0C
/-- `tile[n].scene.table` (R355). -/
def K.tileSceneTable (n : Nat) : Nat := key (0x300F + 16 * n) 0x0D
/-- `tile[n].scene.last` (R355). -/
def K.tileSceneLast (n : Nat) : Nat := key (0x300F + 16 * n) 0x0E
/-- `cal.command` (R355). -/
def K.calCommand : Nat := key 0x7800 0x01
/-- `cal.state` (R355). -/
def K.calState : Nat := key 0x7800 0x02
/-- `cal.queued` (R355). -/
def K.calQueued : Nat := key 0x7800 0x03
/-- `cal.running` (R355). -/
def K.calRunning : Nat := key 0x7800 0x04
/-- `cal.last_command` (R355). -/
def K.calLastCommand : Nat := key 0x7800 0x05
/-- `cal.last_pass` (R355). -/
def K.calLastPass : Nat := key 0x7800 0x06
/-- `cal.last_fail` (R355). -/
def K.calLastFail : Nat := key 0x7800 0x07
/-- `cal.tol_offset` (R355). -/
def K.calTolOffset : Nat := key 0x7800 0x08
/-- `cal.tol_gain` (R355). -/
def K.calTolGain : Nat := key 0x7800 0x09
/-- `cal.scene_ready` (R355). -/
def K.calSceneReady : Nat := key 0x7800 0x0A
/-- `cal.scene_pin` (R355). -/
def K.calScenePin : Nat := key 0x7800 0x0B
/-- `cal.scene_level` (R355). -/
def K.calSceneLevel : Nat := key 0x7800 0x0C
/-- `cal.scene_period` (R355). -/
def K.calScenePeriod : Nat := key 0x7800 0x0D
/-- `cal.ladder` (R355). -/
def K.calLadder : Nat := key 0x7800 0x0E
/-- `cal.ladder_last` (R355). -/
def K.calLadderLast : Nat := key 0x7800 0x0F
/-- `cal.unresolved_map` (R355). -/
def K.calUnresolvedMap : Nat := key 0x7801 0x01
/-- `cal.invar.state` (R355). -/
def K.calInvarState : Nat := key 0x7802 0x01
/-- `cal.invar.deviation` (R355). -/
def K.calInvarDeviation : Nat := key 0x7802 0x02
/-- `cal.invar.limit` (R355). -/
def K.calInvarLimit : Nat := key 0x7802 0x03
/-- `cal.invar.checks` (R355). -/
def K.calInvarChecks : Nat := key 0x7802 0x04
/-! Objects of R370 (16_dac_outputs.md). -/

/-- `dac[n].enable` (R370). -/
def K.dacEnable (n : Nat) : Nat := key (0x6400 + 4 * n) 0x01
/-- `dac[n].status` (R370). -/
def K.dacStatus (n : Nat) : Nat := key (0x6400 + 4 * n) 0x02
/-- `dac[n].group` (R370). -/
def K.dacGroup (n : Nat) : Nat := key (0x6400 + 4 * n) 0x03
/-- `dac[n].span` (R370). -/
def K.dacSpan (n : Nat) : Nat := key (0x6400 + 4 * n) 0x04
/-- `dac[n].safe` (R370). -/
def K.dacSafe (n : Nat) : Nat := key (0x6400 + 4 * n) 0x05
/-- `dac[n].safe_ramp` (R370). -/
def K.dacSafeRamp (n : Nat) : Nat := key (0x6400 + 4 * n) 0x06
/-- `dac[n].scale` (R370). -/
def K.dacScale (n : Nat) : Nat := key (0x6400 + 4 * n) 0x07
/-- `dac[n].glitch_step` (R370). -/
def K.dacGlitchStep (n : Nat) : Nat := key (0x6401 + 4 * n) 0x01
/-- `dac[n].glitch_hold` (R370). -/
def K.dacGlitchHold (n : Nat) : Nat := key (0x6401 + 4 * n) 0x02
/-- `dac[n].slew_enable` (R370). -/
def K.dacSlewEnable (n : Nat) : Nat := key (0x6401 + 4 * n) 0x03
/-- `dac[n].slew_step` (R370). -/
def K.dacSlewStep (n : Nat) : Nat := key (0x6401 + 4 * n) 0x04
/-- `dac[n].slew_period` (R370). -/
def K.dacSlewPeriod (n : Nat) : Nat := key (0x6401 + 4 * n) 0x05
/-- `dac[n].code` (R370). -/
def K.dacCode (n : Nat) : Nat := key (0x6402 + 4 * n) 0x01
/-- `dac[n].flags` (R370). -/
def K.dacFlags (n : Nat) : Nat := key (0x6402 + 4 * n) 0x02
/-- `dac[n].clear` (R370). -/
def K.dacClear (n : Nat) : Nat := key (0x6402 + 4 * n) 0x03
/-- `dac[n].holds` (R370). -/
def K.dacHolds (n : Nat) : Nat := key (0x6402 + 4 * n) 0x04
/-- `dac[n].merged` (R370). -/
def K.dacMerged (n : Nat) : Nat := key (0x6402 + 4 * n) 0x05
/-- `dac[n].underruns` (R370). -/
def K.dacUnderruns (n : Nat) : Nat := key (0x6402 + 4 * n) 0x06
/-- `dac[n].current` (R370). -/
def K.dacCurrent (n : Nat) : Nat := key (0x6402 + 4 * n) 0x07
/-- `dac[n].ctx` (R370). -/
def K.dacCtx (n : Nat) : Nat := key (0x6403 + 4 * n) 0x01
/-- `dac[n].fill` (R370). -/
def K.dacFill (n : Nat) : Nat := key (0x6403 + 4 * n) 0x02
/-- `dac[n].delay` (R370). -/
def K.dacDelay (n : Nat) : Nat := key (0x6403 + 4 * n) 0x03
/-- `dac[n].short_ms` (R370). -/
def K.dacShortMs (n : Nat) : Nat := key (0x6403 + 4 * n) 0x04
/-- `dac.group[g].source` (R370). -/
def K.dacGroupSource (g : Nat) : Nat := key (0x6480 + g) 0x01
/-- `dac.group[g].rate` (R370). -/
def K.dacGroupRate (g : Nat) : Nat := key (0x6480 + g) 0x02
/-- `dac.group[g].epoch` (R370). -/
def K.dacGroupEpoch (g : Nat) : Nat := key (0x6480 + g) 0x03
/-- `dac.group[g].strobes` (R370). -/
def K.dacGroupStrobes (g : Nat) : Nat := key (0x6480 + g) 0x04
/-- `dac.group[g].missed` (R370). -/
def K.dacGroupMissed (g : Nat) : Nat := key (0x6480 + g) 0x05
/-- `dac.wave[w].data` (R370). -/
def K.dacWaveData (w : Nat) : Nat := key (0x6490 + w) 0x01
/-- `dac.wave[w].length` (R370). -/
def K.dacWaveLength (w : Nat) : Nat := key (0x6490 + w) 0x02
/-- `dac.wave[w].format` (R370). -/
def K.dacWaveFormat (w : Nat) : Nat := key (0x6490 + w) 0x03
/-- `dac.wave[w].users` (R370). -/
def K.dacWaveUsers (w : Nat) : Nat := key (0x6490 + w) 0x04
/-- `dac.clock[d].status` (R370). -/
def K.dacClockStatus (d : Nat) : Nat := key 0x64A0 (0x01 + d)
/-- `dac.clock[d].phase` (R370). -/
def K.dacClockPhase (d : Nat) : Nat := key 0x64A0 (0x03 + d)
/-! Objects of R387 (17_lanes_streams.md). -/

/-- `lane[n].enable` (R387). -/
def K.laneEnable (n : Nat) : Nat := key (0x5000 + 64 * n) 0x01
/-- `lane[n].status` (R387). -/
def K.laneStatus (n : Nat) : Nat := key (0x5000 + 64 * n) 0x02
/-- `lane[n].role` (R387). -/
def K.laneRole (n : Nat) : Nat := key (0x5000 + 64 * n) 0x03
/-- `lane[n].link` (R387). -/
def K.laneLink (n : Nat) : Nat := key (0x5000 + 64 * n) 0x04
/-- `lane[n].pmd` (R387). -/
def K.lanePmd (n : Nat) : Nat := key (0x5000 + 64 * n) 0x05
/-- `lane[n].pause_honour` (R387). -/
def K.lanePauseHonour (n : Nat) : Nat := key (0x5000 + 64 * n) 0x06
/-- `lane[n].resume` (R387). -/
def K.laneResume (n : Nat) : Nat := key (0x5000 + 64 * n) 0x07
/-- `lane[n].flow_limit` (R387). -/
def K.laneFlowLimit (n : Nat) : Nat := key (0x5000 + 64 * n) 0x08
/-- `lane[n].fec_limit` (R387). -/
def K.laneFecLimit (n : Nat) : Nat := key (0x5000 + 64 * n) 0x09
/-- `lane[n].mac` (R387). -/
def K.laneMac (n : Nat) : Nat := key (0x5001 + 64 * n) 0x01
/-- `lane[n].ipv4` (R387). -/
def K.laneIpv4 (n : Nat) : Nat := key (0x5001 + 64 * n) 0x02
/-- `lane[n].ipv4_prefix` (R387). -/
def K.laneIpv4Prefix (n : Nat) : Nat := key (0x5001 + 64 * n) 0x03
/-- `lane[n].ipv4_gateway` (R387). -/
def K.laneIpv4Gateway (n : Nat) : Nat := key (0x5001 + 64 * n) 0x04
/-- `lane[n].ipv6` (R387). -/
def K.laneIpv6 (n : Nat) : Nat := key (0x5001 + 64 * n) 0x05
/-- `lane[n].ipv6_prefix` (R387). -/
def K.laneIpv6Prefix (n : Nat) : Nat := key (0x5001 + 64 * n) 0x06
/-- `lane[n].ipv6_gateway` (R387). -/
def K.laneIpv6Gateway (n : Nat) : Nat := key (0x5001 + 64 * n) 0x07
/-- `lane[n].link_local` (R387). -/
def K.laneLinkLocal (n : Nat) : Nat := key (0x5001 + 64 * n) 0x08
/-- `lane[n].hop_limit` (R387). -/
def K.laneHopLimit (n : Nat) : Nat := key (0x5001 + 64 * n) 0x09
/-- `lane[n].dscp` (R387). -/
def K.laneDscp (n : Nat) : Nat := key (0x5001 + 64 * n) 0x0A
/-- `lane[n].dst_ip` (R387). -/
def K.laneDstIp (n : Nat) : Nat := key (0x5002 + 64 * n) 0x01
/-- `lane[n].dst_port` (R387). -/
def K.laneDstPort (n : Nat) : Nat := key (0x5002 + 64 * n) 0x02
/-- `lane[n].src_port` (R387). -/
def K.laneSrcPort (n : Nat) : Nat := key (0x5002 + 64 * n) 0x03
/-- `lane[n].dst_mac` (R387). -/
def K.laneDstMac (n : Nat) : Nat := key (0x5002 + 64 * n) 0x04
/-- `lane[n].dst_state` (R387). -/
def K.laneDstState (n : Nat) : Nat := key (0x5002 + 64 * n) 0x05
/-- `lane[n].dst_resolved` (R387). -/
def K.laneDstResolved (n : Nat) : Nat := key (0x5002 + 64 * n) 0x06
/-- `lane[n].committed` (R387). -/
def K.laneCommitted (n : Nat) : Nat := key (0x5003 + 64 * n) 0x01
/-- `lane[n].wire` (R387). -/
def K.laneWire (n : Nat) : Nat := key (0x5003 + 64 * n) 0x02
/-- `lane[n].contexts` (R387). -/
def K.laneContexts (n : Nat) : Nat := key (0x5003 + 64 * n) 0x03
/-- `lane[n].replays` (R387). -/
def K.laneReplays (n : Nat) : Nat := key (0x5003 + 64 * n) 0x04
/-- `lane[n].hold_cause` (R387). -/
def K.laneHoldCause (n : Nat) : Nat := key (0x5003 + 64 * n) 0x05
/-- `lane[n].held_us` (R387). -/
def K.laneHeldUs (n : Nat) : Nat := key (0x5003 + 64 * n) 0x06
/-- `lane[n].tx_frames` (R387). -/
def K.laneTxFrames (n : Nat) : Nat := key (0x5004 + 64 * n) 0x01
/-- `lane[n].tx_bytes` (R387). -/
def K.laneTxBytes (n : Nat) : Nat := key (0x5004 + 64 * n) 0x02
/-- `lane[n].rx_frames` (R387). -/
def K.laneRxFrames (n : Nat) : Nat := key (0x5004 + 64 * n) 0x03
/-- `lane[n].rx_bytes` (R387). -/
def K.laneRxBytes (n : Nat) : Nat := key (0x5004 + 64 * n) 0x04
/-- `lane[n].rx_fcs` (R387). -/
def K.laneRxFcs (n : Nat) : Nat := key (0x5004 + 64 * n) 0x05
/-- `lane[n].rx_dropped` (R387). -/
def K.laneRxDropped (n : Nat) : Nat := key (0x5004 + 64 * n) 0x06
/-- `lane[n].pause_rx` (R387). -/
def K.lanePauseRx (n : Nat) : Nat := key (0x5004 + 64 * n) 0x07
/-- `lane[n].paused_us` (R387). -/
def K.lanePausedUs (n : Nat) : Nat := key (0x5004 + 64 * n) 0x08
/-- `lane[n].fec_corrected` (R387). -/
def K.laneFecCorrected (n : Nat) : Nat := key (0x5004 + 64 * n) 0x09
/-- `lane[n].fec_uncorrected` (R387). -/
def K.laneFecUncorrected (n : Nat) : Nat := key (0x5004 + 64 * n) 0x0A
/-- `lane[n].fec_ser` (R387). -/
def K.laneFecSer (n : Nat) : Nat := key (0x5004 + 64 * n) 0x0B
/-- `lane[n].poisoned` (R387). -/
def K.lanePoisoned (n : Nat) : Nat := key (0x5004 + 64 * n) 0x0C
/-- `lane[n].cut_lines` (R387). -/
def K.laneCutLines (n : Nat) : Nat := key (0x5004 + 64 * n) 0x0D
/-- `lane[n].link_downs` (R387). -/
def K.laneLinkDowns (n : Nat) : Nat := key (0x5004 + 64 * n) 0x0E
/-- `lane[n].clear` (R387). -/
def K.laneClear (n : Nat) : Nat := key (0x5004 + 64 * n) 0x0F
/-- `ports.mgmt.mode` (R387). -/
def K.portsMgmtMode : Nat := key 0x1150 0x01
/-- `ports.mgmt.in_force` (R387). -/
def K.portsMgmtInForce : Nat := key 0x1150 0x02
/-- `ports.mgmt.link` (R387). -/
def K.portsMgmtLink : Nat := key 0x1150 0x03
/-- `ports.mgmt.speed` (R387). -/
def K.portsMgmtSpeed : Nat := key 0x1150 0x04
/-- `ports.mgmt.mac` (R387). -/
def K.portsMgmtMac : Nat := key 0x1151 0x01
/-- `ports.mgmt.ipv4` (R387). -/
def K.portsMgmtIpv4 : Nat := key 0x1151 0x02
/-- `ports.mgmt.ipv4_prefix` (R387). -/
def K.portsMgmtIpv4Prefix : Nat := key 0x1151 0x03
/-- `ports.mgmt.ipv4_gateway` (R387). -/
def K.portsMgmtIpv4Gateway : Nat := key 0x1151 0x04
/-- `ports.mgmt.ipv6` (R387). -/
def K.portsMgmtIpv6 : Nat := key 0x1151 0x05
/-- `ports.mgmt.ipv6_prefix` (R387). -/
def K.portsMgmtIpv6Prefix : Nat := key 0x1151 0x06
/-- `ports.mgmt.ipv6_gateway` (R387). -/
def K.portsMgmtIpv6Gateway : Nat := key 0x1151 0x07
/-- `ports.mgmt.link_local` (R387). -/
def K.portsMgmtLinkLocal : Nat := key 0x1151 0x08
/-- `ports.mgmt.tx_frames` (R387). -/
def K.portsMgmtTxFrames : Nat := key 0x1152 0x01
/-- `ports.mgmt.rx_frames` (R387). -/
def K.portsMgmtRxFrames : Nat := key 0x1152 0x02
/-- `ports.mgmt.rx_fcs` (R387). -/
def K.portsMgmtRxFcs : Nat := key 0x1152 0x03
/-- `ports.mgmt.rx_dropped` (R387). -/
def K.portsMgmtRxDropped : Nat := key 0x1152 0x04
/-- `ports.mgmt.link_downs` (R387). -/
def K.portsMgmtLinkDowns : Nat := key 0x1152 0x05
/-- `ports.mgmt.clear` (R387). -/
def K.portsMgmtClear : Nat := key 0x1152 0x06
/-! Objects of R402 (18_pins.md). -/

/-- `gpio.pin[k].func` (R402). -/
def K.gpioPinFunc (k : Nat) : Nat := key (0x6800 + k) 0x01
/-- `gpio.pin[k].cfg` (R402). -/
def K.gpioPinCfg (k : Nat) : Nat := key (0x6800 + k) 0x02
/-- `gpio.pin[k].filter` (R402). -/
def K.gpioPinFilter (k : Nat) : Nat := key (0x6800 + k) 0x03
/-- `gpio.pin[k].owner` (R402). -/
def K.gpioPinOwner (k : Nat) : Nat := key (0x6800 + k) 0x04
/-- `gpio.pin[k].pending` (R402). -/
def K.gpioPinPending (k : Nat) : Nat := key (0x6800 + k) 0x05
/-- `gpio.pin[k].switches` (R402). -/
def K.gpioPinSwitches (k : Nat) : Nat := key (0x6800 + k) 0x06
/-- `gpio.pin[k].glitches` (R402). -/
def K.gpioPinGlitches (k : Nat) : Nat := key (0x6800 + k) 0x07
/-- `gpio.bank[b].vio` (R402). -/
def K.gpioBankVio (b : Nat) : Nat := key (0x6860 + b) 0x01
/-- `gpio.bank[b].out` (R402). -/
def K.gpioBankOut (b : Nat) : Nat := key (0x6860 + b) 0x02
/-- `gpio.bank[b].write` (R402). -/
def K.gpioBankWrite (b : Nat) : Nat := key (0x6860 + b) 0x03
/-- `gpio.bank[b].in` (R402). -/
def K.gpioBankIn (b : Nat) : Nat := key (0x6860 + b) 0x04
/-- `gpio.bank[b].vio_fault` (R402). -/
def K.gpioBankVioFault (b : Nat) : Nat := key (0x6860 + b) 0x05
/-- `gpio.irq` (R402). -/
def K.gpioIrq : Nat := key 0x6870 0x01
/-- `gpio.safe_n` (R402). -/
def K.gpioSafeN : Nat := key 0x6870 0x02
/-- `pattern[u].bank` (R402). -/
def K.patternBank (u : Nat) : Nat := key (0x6900 + u) 0x01
/-- `pattern[u].mask` (R402). -/
def K.patternMask (u : Nat) : Nat := key (0x6900 + u) 0x02
/-- `pattern[u].value` (R402). -/
def K.patternValue (u : Nat) : Nat := key (0x6900 + u) 0x03
/-- `pattern[u].mode` (R402). -/
def K.patternMode (u : Nat) : Nat := key (0x6900 + u) 0x04
/-- `pattern[u].hold` (R402). -/
def K.patternHold (u : Nat) : Nat := key (0x6900 + u) 0x05
/-- `pattern[u].match` (R402). -/
def K.patternMatch (u : Nat) : Nat := key (0x6900 + u) 0x06
/-- `pattern[u].count` (R402). -/
def K.patternCount (u : Nat) : Nat := key (0x6900 + u) 0x07
/-- `pattern[u].last_word` (R402). -/
def K.patternLastWord (u : Nat) : Nat := key (0x6900 + u) 0x08
/-! Objects of R411 (19_events.md). -/

/-- `event[n].status` (R411). -/
def K.eventStatus (n : Nat) : Nat := key (0x7000 + n) 0x01
/-- `event[n].enable` (R411). -/
def K.eventEnable (n : Nat) : Nat := key (0x7000 + n) 0x02
/-- `event[n].latch` (R411). -/
def K.eventLatch (n : Nat) : Nat := key (0x7000 + n) 0x03
/-- `event[n].severity` (R411). -/
def K.eventSeverity (n : Nat) : Nat := key (0x7000 + n) 0x04
/-- `event[n].count` (R411). -/
def K.eventCount (n : Nat) : Nat := key (0x7000 + n) 0x05
/-- `event[n].irq` (R411). -/
def K.eventIrq (n : Nat) : Nat := key (0x7000 + n) 0x06
/-- `event[n].clear` (R411). -/
def K.eventClear (n : Nat) : Nat := key (0x7000 + n) 0x07
/-- `event[n].time` (R411). -/
def K.eventTime (n : Nat) : Nat := key (0x7000 + n) 0x08
/-- `event[n].detail` (R411). -/
def K.eventDetail (n : Nat) : Nat := key (0x7000 + n) 0x09
/-- `device.events.active` (R411). -/
def K.deviceEventsActive : Nat := key 0x1010 0x01
/-- `device.events.groups` (R411). -/
def K.deviceEventsGroups : Nat := key 0x1010 0x02
/-- `device.events.classes` (R411). -/
def K.deviceEventsClasses : Nat := key 0x1010 0x03
/-- `device.events.summary` (R411). -/
def K.deviceEventsSummary : Nat := key 0x1010 0x04
/-- `device.events.backstop` (R411). -/
def K.deviceEventsBackstop : Nat := key 0x1011 0x01
/-- `device.events.clear_node` (R411). -/
def K.deviceEventsClearNode : Nat := key 0x1011 0x02
/-- `device.events.test` (R411). -/
def K.deviceEventsTest : Nat := key 0x1011 0x03
/-! Objects of R428 (20_electrical_package.md). -/

/-- `device.temp.digital` (R428). -/
def K.deviceTempDigital : Nat := key 0x1020 0x01
/-- `device.temp.ana[d]` (R428). -/
def K.deviceTempAna (d : Nat) : Nat := key 0x1020 (0x02 + d)
/-- `device.temp.max` (R428). -/
def K.deviceTempMax : Nat := key 0x1020 0x04
/-- `device.temp.max_seen` (R428). -/
def K.deviceTempMaxSeen : Nat := key 0x1020 0x05
/-- `device.rail[r].volts` (R428). -/
def K.deviceRailVolts (r : Nat) : Nat := key (0x1030 + r) 0x01
/-- `device.rail[r].amps` (R428). -/
def K.deviceRailAmps (r : Nat) : Nat := key (0x1030 + r) 0x02
/-- `device.rail[r].state` (R428). -/
def K.deviceRailState (r : Nat) : Nat := key (0x1030 + r) 0x03
/-- `device.rail[r].excursions` (R428). -/
def K.deviceRailExcursions (r : Nat) : Nat := key (0x1030 + r) 0x04

end Sys2Proof.Machine
end

