-- ==== Sys2Proof/Machine/Rows.lean ====
section
/-! DEFINITION. The object tables of the spec, row by row: index, subindex, form, type, size, access byte, default, lowest and
highest value, codes not listed between them, attributes (bit 0 staged, bit 2 non-volatile source, bit 3 action entry). -/

namespace Sys2Proof.Machine

/-- The rows of R26 and R32. -/
def rowsLayout : List Row := [
  ⟨0x0000, 0x01, .single, .octets, 4, 0x51, 0x52565559, 0, 0, [], 0⟩,
  ⟨0x0000, 0x02, .single, .u16, 2, 0x51, 0x100, 0, 65535, [], 0⟩,
  ⟨0x0000, 0x03, .single, .u8, 1, 0x51, 0, 1, 3, [], 0⟩,
  ⟨0x0000, 0x04, .single, .u8, 1, 0x51, 18, 1, 32, [], 0⟩,
  ⟨0x0000, 0x05, .single, .u8, 1, 0x51, 0, 0, 128, [], 0⟩,
  ⟨0x0000, 0x06, .single, .u16, 2, 0x51, 0, 0, 65535, [], 0⟩,
  ⟨0x0000, 0x07, .single, .u32, 4, 0x51, 0, 0, 4294967295, [], 0⟩,
  ⟨0x0010, 0x01, .layoutClass, .u16, 2, 0x51, 0, 0, 65535, [], 0⟩,
  ⟨0x0010, 0x02, .layoutClass, .u8, 1, 0x51, 0, 0, 2, [], 0⟩,
  ⟨0x0010, 0x03, .layoutClass, .u16, 2, 0x51, 0, 0, 65535, [], 0⟩,
  ⟨0x0010, 0x04, .layoutClass, .u16, 2, 0x51, 0, 1, 1024, [], 0⟩,
  ⟨0x0010, 0x05, .layoutClass, .u16, 2, 0x51, 0, 0, 65535, [], 0⟩,
  ⟨0x0010, 0x06, .layoutClass, .u16, 2, 0x51, 0, 0, 64, [], 0⟩,
  ⟨0x0010, 0x07, .layoutClass, .octets, 128, 0x51, 0, 0, 0, [], 0⟩,
  ⟨0x0010, 0x08, .layoutClass, .u32, 4, 0x51, 0, 0, 4294967295, [], 0⟩,
  ⟨0x0010, 0x09, .layoutClass, .u16, 2, 0x51, 0, 0, 65535, [], 0⟩,
  ⟨0x0010, 0x0A, .layoutClass, .u16, 2, 0x51, 0, 0, 65535, [(768, 65534)], 0⟩,
  ⟨0x0010, 0x0B, .layoutClass, .u32, 4, 0x51, 0, 0, 4294967295, [], 0⟩,
  ⟨0x0080, 0x01, .combo, .u32, 4, 0x51, 0, 0, 4294967295, [], 0⟩,
  ⟨0x0080, 0x02, .combo, .u32, 4, 0x51, 0, 0, 4294967295, [], 0⟩,
  ⟨0x0080, 0x03, .combo, .u32, 4, 0x51, 0, 0, 4294967295, [], 0⟩,
  ⟨0x0080, 0x04, .combo, .u32, 4, 0x51, 0, 0, 4294967295, [], 0⟩,
  ⟨0x0080, 0x05, .combo, .u32, 4, 0x51, 0, 0, 4294967295, [], 0⟩,
  ⟨0x0080, 0x06, .combo, .u32, 4, 0x51, 0, 0, 4294967295, [], 0⟩,
  ⟨0x0080, 0x07, .combo, .u32, 4, 0x51, 0, 0, 4294967295, [], 0⟩,
  ⟨0x0080, 0x08, .combo, .u32, 4, 0x51, 0, 0, 4294967295, [], 0⟩]

/-- The rows of R31. -/
def rowsVersions : List Row := [
  ⟨0x1200, 0x01, .single, .u32, 4, 0x55, 0, 0, 4294967295, [], 0⟩,
  ⟨0x1200, 0x02, .single, .u8, 1, 0x51, 0, 0, 1, [], 0⟩,
  ⟨0x1200, 0x03, .single, .u32, 4, 0x51, 0, 0, 4294967295, [], 4⟩,
  ⟨0x1200, 0x04, .single, .u32, 4, 0x51, 0, 0, 4294967295, [], 4⟩,
  ⟨0x1200, 0x05, .single, .u8, 1, 0xD1, 0, 0, 1, [], 5⟩,
  ⟨0x1200, 0x06, .single, .u8, 1, 0x51, 0, 0, 2, [], 0⟩,
  ⟨0x1201, 0x01, .seqDie, .u32, 4, 0x51, 0, 0, 4294967295, [], 0⟩,
  ⟨0x1201, 0x03, .seqDie, .u8, 1, 0x51, 0, 0, 2, [], 0⟩,
  ⟨0x1202, 0x01, .single, .u32, 4, 0x51, 0, 0, 4294967295, [], 0⟩,
  ⟨0x1202, 0x02, .single, .u32, 4, 0x51, 0, 0, 4294967295, [], 4⟩,
  ⟨0x1202, 0x03, .single, .u32, 4, 0x55, 0, 0, 4294967295, [], 0⟩,
  ⟨0x1202, 0x04, .single, .u32, 4, 0x55, 0, 0, 4294967295, [], 0⟩,
  ⟨0x1203, 0x01, .single, .bool, 1, 0xD1, 0, 0, 1, [], 0⟩,
  ⟨0x1203, 0x02, .single, .bool, 1, 0x55, 0, 0, 1, [], 0⟩,
  ⟨0x1203, 0x03, .single, .u32, 4, 0x51, 0, 0, 4294967295, [], 0⟩,
  ⟨0x1203, 0x04, .single, .octets, 4, 0x51, 0, 0, 0, [], 0⟩]

/-- The rows of R73 and R387. -/
def rowsPorts : List Row := [
  ⟨0x1100, 0x01, .single, .u16, 2, 0xD1, 0xb7a8, 1024, 65535, [], 0⟩,
  ⟨0x1100, 0x02, .single, .u32, 4, 0xD1, 0xffff0001, 0, 4294967295, [], 0⟩,
  ⟨0x1100, 0x03, .single, .bool, 1, 0x51, 0, 0, 1, [], 0⟩,
  ⟨0x1100, 0x04, .single, .u16, 2, 0xF1, 60, 10, 3600, [], 0⟩,
  ⟨0x1100, 0x05, .single, .u8, 1, 0x51, 0, 0, 64, [], 0⟩,
  ⟨0x1110, 0x01, .single, .octets, 65536, 0x51, 0, 0, 0, [], 0⟩,
  ⟨0x1111, 0x01, .single, .u16, 2, 0x55, 0, 0, 65535, [], 0⟩,
  ⟨0x1120, 0x01, .port, .u8, 1, 0x51, 0, 1, 4, [], 0⟩,
  ⟨0x1120, 0x02, .port, .u64, 8, 0x51, 0, 0, 18446744073709551615, [], 0⟩,
  ⟨0x1120, 0x03, .port, .u64, 8, 0x51, 0, 0, 18446744073709551615, [], 0⟩,
  ⟨0x1120, 0x04, .port, .u32, 4, 0x51, 0, 0, 4294967295, [], 0⟩,
  ⟨0x1120, 0x05, .port, .u16, 2, 0x51, 0, 0, 65535, [], 0⟩,
  ⟨0x1120, 0x06, .port, .u8, 1, 0x51, 0, 0, 32, [], 0⟩,
  ⟨0x1120, 0x07, .port, .u8, 1, 0x51, 0, 0, 4, [], 0⟩,
  ⟨0x1150, 0x01, .single, .u8, 1, 0xD1, 0, 0, 2, [], 0⟩,
  ⟨0x1150, 0x02, .single, .u8, 1, 0x51, 0, 0, 2, [], 0⟩,
  ⟨0x1150, 0x03, .single, .u8, 1, 0x51, 0, 0, 3, [(2, 2)], 0⟩,
  ⟨0x1150, 0x04, .single, .u16, 2, 0x51, 0, 0, 1000, [(1, 9), (11, 99), (101, 999)], 0⟩,
  ⟨0x1151, 0x01, .single, .octets, 6, 0x51, 0, 0, 0, [], 0⟩,
  ⟨0x1151, 0x02, .single, .octets, 4, 0xD1, 0, 0, 0, [], 0⟩,
  ⟨0x1151, 0x03, .single, .u8, 1, 0xD1, 24, 8, 30, [], 0⟩,
  ⟨0x1151, 0x04, .single, .octets, 4, 0xD1, 0, 0, 0, [], 0⟩,
  ⟨0x1151, 0x05, .single, .octets, 16, 0xD1, 0, 0, 0, [], 0⟩,
  ⟨0x1151, 0x06, .single, .u8, 1, 0xD1, 64, 16, 127, [], 0⟩,
  ⟨0x1151, 0x07, .single, .octets, 16, 0xD1, 0, 0, 0, [], 0⟩,
  ⟨0x1151, 0x08, .single, .octets, 16, 0x51, 0, 0, 0, [], 0⟩,
  ⟨0x1152, 0x01, .single, .u64, 8, 0x51, 0, 0, 18446744073709551615, [], 0⟩,
  ⟨0x1152, 0x02, .single, .u64, 8, 0x51, 0, 0, 18446744073709551615, [], 0⟩,
  ⟨0x1152, 0x03, .single, .u32, 4, 0x51, 0, 0, 4294967295, [], 0⟩,
  ⟨0x1152, 0x04, .single, .u32, 4, 0x51, 0, 0, 4294967295, [], 0⟩,
  ⟨0x1152, 0x05, .single, .u32, 4, 0x51, 0, 0, 4294967295, [], 0⟩,
  ⟨0x1152, 0x06, .single, .bool, 1, 0xA0, 0, 1, 1, [], 8⟩]

/-- The rows of R103, R411 and R428. -/
def rowsDevice : List Row := [
  ⟨0x1000, 0x01, .single, .u8, 1, 0x55, 0, 0, 7, [], 0⟩,
  ⟨0x1000, 0x02, .single, .u8, 1, 0xF1, 0, 0, 6, [(2, 2)], 0⟩,
  ⟨0x1000, 0x03, .single, .u8, 1, 0x80, 0, 1, 1, [], 8⟩,
  ⟨0x1000, 0x04, .single, .u8, 1, 0x55, 2, 0, 7, [], 0⟩,
  ⟨0x1000, 0x05, .single, .u8, 1, 0x51, 0, 0, 7, [], 0⟩,
  ⟨0x1000, 0x06, .single, .u8, 1, 0x51, 0, 0, 7, [], 0⟩,
  ⟨0x1000, 0x07, .single, .time96, 12, 0x55, 0, 0, 79228162514264337593543950335, [], 0⟩,
  ⟨0x1000, 0x08, .single, .u32, 4, 0x51, 0, 0, 4294967295, [], 0⟩,
  ⟨0x1001, 0x01, .single, .u16, 2, 0x55, 0, 0, 255, [], 0⟩,
  ⟨0x1001, 0x02, .single, .u8, 1, 0x51, 255, 0, 255, [(8, 254)], 0⟩,
  ⟨0x1001, 0x03, .single, .u16, 2, 0xA0, 0, 0, 65535, [], 8⟩,
  ⟨0x1001, 0x04, .single, .bool, 1, 0xD1, 1, 0, 1, [], 0⟩,
  ⟨0x1001, 0x05, .single, .bool, 1, 0xD1, 1, 0, 1, [], 0⟩,
  ⟨0x1001, 0x06, .single, .s16, 2, 0xD1, 110, 100, 115, [], 0⟩,
  ⟨0x1001, 0x07, .single, .u32, 4, 0x51, 0, 0, 4294967295, [], 0⟩,
  ⟨0x1002, 0x01, .single, .bool, 1, 0xF1, 0, 0, 1, [], 0⟩,
  ⟨0x1002, 0x02, .single, .u8, 1, 0x51, 0, 0, 2, [], 0⟩,
  ⟨0x1002, 0x03, .single, .u8, 1, 0x51, 255, 0, 255, [(8, 254)], 0⟩,
  ⟨0x1003, 0x01, .single, .bool, 1, 0x51, 0, 0, 1, [], 0⟩,
  ⟨0x1003, 0x02, .single, .u32, 4, 0x51, 0, 0, 4294967295, [], 0⟩,
  ⟨0x1004, 0x01, .single, .u16, 2, 0x80, 0, 42330, 42330, [], 8⟩,
  ⟨0x1004, 0x02, .single, .u8, 1, 0x51, 0, 0, 3, [], 0⟩,
  ⟨0x1004, 0x03, .single, .u32, 4, 0x51, 0, 0, 4294967295, [], 0⟩,
  ⟨0x1005, 0x01, .single, .u8, 1, 0xF1, 0, 0, 1, [], 0⟩,
  ⟨0x1005, 0x02, .single, .u16, 2, 0xD1, 0x2710, 1000, 60000, [], 0⟩,
  ⟨0x1010, 0x01, .single, .octets, 96, 0x51, 0, 0, 0, [], 0⟩,
  ⟨0x1010, 0x02, .single, .u64, 8, 0x51, 0, 0, 18446744073709551615, [], 0⟩,
  ⟨0x1010, 0x03, .single, .u8, 1, 0x51, 0, 0, 255, [], 0⟩,
  ⟨0x1010, 0x04, .single, .u8, 1, 0x55, 0, 0, 255, [], 0⟩,
  ⟨0x1011, 0x01, .single, .octets, 64, 0xD1, 0xffffffffffffffffffffffffffffffffffffffffffffffffffffffffffffffffffffffffffffffffffffffffffffffffffffffffffffffffffffffffffffffff, 0, 0, [], 0⟩,
  ⟨0x1011, 0x02, .single, .u16, 2, 0xA0, 0, 0, 840, [], 8⟩,
  ⟨0x1011, 0x03, .single, .bool, 1, 0xA0, 0, 1, 1, [], 8⟩,
  ⟨0x1020, 0x01, .single, .s16, 2, 0x51, 0, -32768, 32767, [], 0⟩,
  ⟨0x1020, 0x02, .tempDie, .s16, 2, 0x51, 0, -32768, 32767, [], 0⟩,
  ⟨0x1020, 0x04, .single, .s16, 2, 0x55, 0, -32768, 32767, [], 0⟩,
  ⟨0x1020, 0x05, .single, .s16, 2, 0x51, 0xffd8, -32768, 32767, [], 0⟩,
  ⟨0x1030, 0x01, .rail, .f32, 4, 0x51, 0, -2139095040, 2139095040, [], 0⟩,
  ⟨0x1030, 0x02, .rail, .f32, 4, 0x51, 0, -2139095040, 2139095040, [], 0⟩,
  ⟨0x1030, 0x03, .rail, .u8, 1, 0x51, 0, 0, 2, [], 0⟩,
  ⟨0x1030, 0x04, .rail, .u32, 4, 0x51, 0, 0, 4294967295, [], 0⟩]

/-- Rows of R133, part 1. -/
def rowsTileA1 : List Row := [
  ⟨0x3000, 0x01, .tile, .u8, 1, 0x51, 0, 0, 4, [], 0⟩,
  ⟨0x3000, 0x02, .tile, .u8, 1, 0xF1, 24, 0, 184, [], 1⟩,
  ⟨0x3000, 0x03, .tile, .u8, 1, 0xF1, 4, 0, 6, [], 1⟩,
  ⟨0x3000, 0x04, .tile, .s16, 2, 0xF1, 0, -8192, 8191, [], 1⟩,
  ⟨0x3000, 0x05, .tile, .u8, 1, 0xD1, 0, 0, 2, [], 1⟩,
  ⟨0x3000, 0x06, .tile, .u8, 1, 0xD1, 0, 0, 16, [], 1⟩,
  ⟨0x3000, 0x07, .tile, .u32, 4, 0x51, 0, 0, 4294967295, [], 0⟩,
  ⟨0x3000, 0x08, .tile, .u64, 8, 0x51, 0, 0, 18446744073709551615, [], 0⟩,
  ⟨0x3000, 0x09, .tile, .bool, 1, 0xF1, 0, 0, 1, [], 0⟩,
  ⟨0x3000, 0x0A, .tile, .u8, 1, 0xF1, 24, 0, 184, [], 1⟩,
  ⟨0x3000, 0x0B, .tile, .u8, 1, 0xF1, 4, 0, 6, [], 1⟩,
  ⟨0x3000, 0x0C, .tile, .s16, 2, 0xF1, 0, -8192, 8191, [], 1⟩,
  ⟨0x3001, 0x01, .tile, .u16, 2, 0xD1, 0x100, 0, 1023, [], 1⟩,
  ⟨0x3001, 0x02, .tile, .u16, 2, 0xD1, 0x300, 1, 1023, [], 1⟩,
  ⟨0x3001, 0x03, .tile, .u16, 2, 0xD1, 0x800, 1, 16384, [], 1⟩,
  ⟨0x3001, 0x04, .tile, .u16, 2, 0xD1, 0, 0, 4095, [], 1⟩,
  ⟨0x3001, 0x05, .tile, .u16, 2, 0xD1, 0, 0, 16383, [], 1⟩,
  ⟨0x3001, 0x06, .tile, .u8, 1, 0xD1, 0, 0, 64, [], 1⟩,
  ⟨0x3001, 0x07, .tile, .u16, 2, 0xF1, 0x100, 0, 4095, [], 1⟩,
  ⟨0x3001, 0x08, .tile, .u8, 1, 0xF1, 3, 0, 7, [], 1⟩,
  ⟨0x3001, 0x09, .tile, .u32, 4, 0x51, 0, 0, 4294967295, [], 0⟩,
  ⟨0x3001, 0x0A, .tile, .s16, 2, 0x51, 0, -32768, 32767, [], 0⟩,
  ⟨0x3002, 0x01, .tile, .u8, 1, 0xF1, 4, 0, 4, [], 1⟩,
  ⟨0x3002, 0x02, .tile, .f32, 4, 0xF1, 0x4cbebc20, 1176256512, 1288818416, [], 1⟩,
  ⟨0x3002, 0x03, .tile, .f32, 4, 0xF1, 0x3f350481, 1056964608, 1101004800, [], 1⟩,
  ⟨0x3002, 0x04, .tile, .f32, 4, 0x51, 0x4cbebc20, -2139095040, 2139095040, [], 0⟩,
  ⟨0x3002, 0x05, .tile, .f32, 4, 0x51, 0x40100000, -2139095040, 2139095040, [], 0⟩,
  ⟨0x3002, 0x06, .tile, .f32, 4, 0xF1, 0x4c51cef0, 1176256512, 1280429808, [], 1⟩,
  ⟨0x3003, 0x01, .tile, .u8, 1, 0x51, 255, 0, 255, [(32, 253)], 0⟩,
  ⟨0x3003, 0x02, .tile, .u8, 1, 0x51, 255, 0, 255, [(32, 253)], 0⟩,
  ⟨0x3003, 0x03, .tile, .u8, 1, 0x51, 255, 0, 255, [], 0⟩,
  ⟨0x3003, 0x04, .tile, .u8, 1, 0x51, 0, 0, 16, [], 0⟩,
  ⟨0x3004, 0x01, .tile, .octets, 128, 0x51, 0, 0, 0, [], 0⟩,
  ⟨0x3004, 0x02, .tile, .u8, 1, 0x51, 0, 0, 16, [], 0⟩,
  ⟨0x3004, 0x03, .tile, .u8, 1, 0x51, 0, 0, 1, [], 0⟩,
  ⟨0x3004, 0x04, .tile, .u32, 4, 0x51, 0, 0, 4294967295, [], 0⟩,
  ⟨0x3004, 0x05, .tile, .octets, 16, 0xF1, 0x18181818181818181818181818181818, 0, 0, [], 1⟩,
  ⟨0x3005, 0x01, .tile, .u16, 2, 0x51, 0, 0, 8192, [], 0⟩,
  ⟨0x3005, 0x02, .tile, .u16, 2, 0x51, 0, 0, 8192, [], 0⟩,
  ⟨0x3005, 0x03, .tile, .bool, 1, 0xA0, 0, 1, 1, [], 8⟩]

/-- Rows of R133, part 2. -/
def rowsTileA2 : List Row := [
  ⟨0x3005, 0x04, .tile, .u64, 8, 0x51, 0, 0, 18446744073709551615, [], 0⟩,
  ⟨0x3006, 0x01, .tile, .u8, 1, 0x51, 0, 0, 255, [], 0⟩,
  ⟨0x3007, 0x01, .tile, .bool, 1, 0x51, 0, 0, 1, [], 0⟩,
  ⟨0x3007, 0x02, .tile, .u8, 1, 0xD1, 0, 0, 2, [], 0⟩,
  ⟨0x3007, 0x03, .tile, .bool, 1, 0xC1, 0, 0, 1, [], 0⟩,
  ⟨0x3007, 0x04, .tile, .u8, 1, 0x51, 0, 0, 3, [], 0⟩,
  ⟨0x3007, 0x05, .tile, .u32, 4, 0x51, 0, 0, 4294967295, [], 0⟩,
  ⟨0x3007, 0x06, .tile, .bool, 1, 0x51, 0, 0, 1, [], 0⟩,
  ⟨0x3007, 0x07, .tile, .u32, 4, 0x51, 0, 0, 4294967295, [], 0⟩,
  ⟨0x3007, 0x08, .tile, .bool, 1, 0xA0, 0, 1, 1, [], 8⟩,
  ⟨0x3007, 0x10, .testBus, .u8, 1, 0xC1, 0, 0, 2, [], 0⟩,
  ⟨0x3007, 0x11, .testBus, .u8, 1, 0xC1, 0, 0, 63, [], 0⟩,
  ⟨0x3007, 0x12, .testBus, .u8, 1, 0xC1, 0, 0, 7, [], 0⟩,
  ⟨0x3007, 0x13, .testBus, .u8, 1, 0x51, 0, 0, 3, [(2, 2)], 0⟩]

/-- The rows of R133. -/
def rowsTileA : List Row := rowsTileA1 ++ rowsTileA2

/-- Rows of R152 and R355, part 1. -/
def rowsTileB1 : List Row := [
  ⟨0x3008, 0x01, .tile, .u8, 1, 0x51, 0, 0, 4, [], 0⟩,
  ⟨0x3008, 0x02, .tile, .u16, 2, 0x51, 0, 0, 4096, [(1, 3)], 0⟩,
  ⟨0x3008, 0x03, .tile, .f32, 4, 0x51, 0, 0, 1299082024, [], 0⟩,
  ⟨0x3008, 0x04, .tile, .u16, 2, 0x51, 1, 1, 256, [], 0⟩,
  ⟨0x3008, 0x05, .tile, .u8, 1, 0x51, 0, 0, 2, [], 0⟩,
  ⟨0x3008, 0x06, .tile, .u16, 2, 0xF1, 0, 0, 1023, [], 1⟩,
  ⟨0x3008, 0x07, .tile, .u32, 4, 0x51, 0, 0, 4294967295, [], 0⟩,
  ⟨0x3008, 0x08, .tile, .u64, 8, 0x51, 0, 0, 18446744073709551615, [], 0⟩,
  ⟨0x3008, 0x09, .tile, .bool, 1, 0xF1, 0, 0, 1, [], 0⟩,
  ⟨0x3008, 0x0A, .tile, .f32, 4, 0x51, 0, -2139095040, 2139095040, [], 0⟩,
  ⟨0x3009, 0x01, .tile, .u8, 1, 0x51, 0, 0, 3, [], 0⟩,
  ⟨0x3009, 0x02, .tile, .s16, 2, 0x51, 0, -32768, 32767, [], 0⟩,
  ⟨0x3009, 0x03, .tile, .f32, 4, 0x51, 0x3f800000, 1065017672, 1065520988, [], 0⟩,
  ⟨0x3009, 0x04, .tile, .s16, 2, 0x51, 0, -512, 512, [], 0⟩,
  ⟨0x3009, 0x05, .tile, .u8, 1, 0x51, 0, 0, 1, [], 0⟩,
  ⟨0x3009, 0x06, .tile, .bool, 1, 0x80, 0, 1, 1, [], 8⟩,
  ⟨0x300A, 0x01, .tile, .f32, 4, 0x51, 0, -2139095040, 2139095040, [], 0⟩,
  ⟨0x300A, 0x02, .tile, .f32, 4, 0x51, 0, -2139095040, 2139095040, [], 0⟩,
  ⟨0x300A, 0x03, .tile, .f32, 4, 0x51, 0, -2139095040, 2139095040, [], 0⟩,
  ⟨0x300A, 0x04, .tile, .f32, 4, 0x51, 0, -2139095040, 2139095040, [], 0⟩,
  ⟨0x300A, 0x05, .tile, .f32, 4, 0x51, 0, -2139095040, 2139095040, [], 0⟩,
  ⟨0x300A, 0x06, .tile, .u8, 1, 0x51, 0, 0, 2, [], 0⟩,
  ⟨0x300A, 0x07, .tile, .time96, 12, 0x51, 0, 0, 79228162514264337593543950335, [], 0⟩,
  ⟨0x300A, 0x08, .tile, .f32, 4, 0xF1, 0x3fc00000, 1065353216, 1092616192, [], 0⟩,
  ⟨0x300A, 0x09, .tile, .u8, 1, 0x51, 0, 0, 3, [], 0⟩,
  ⟨0x300B, 0x01, .tile, .f32, 4, 0x51, 0, -2139095040, 2139095040, [], 0⟩,
  ⟨0x300B, 0x02, .tile, .f32, 4, 0x51, 0, -2139095040, 2139095040, [], 0⟩,
  ⟨0x300B, 0x03, .tile, .f32, 4, 0x51, 0, -2139095040, 2139095040, [], 0⟩,
  ⟨0x300B, 0x04, .tile, .f32, 4, 0x51, 0, -2139095040, 2139095040, [], 0⟩,
  ⟨0x300B, 0x05, .tile, .f32, 4, 0x51, 0, -2139095040, 2139095040, [], 0⟩,
  ⟨0x300B, 0x06, .tile, .f32, 4, 0xF1, 0x43160000, 1112014848, 1148846080, [], 0⟩,
  ⟨0x300C, 0x01, .mon, .bool, 1, 0xF1, 1, 0, 1, [], 0⟩,
  ⟨0x300C, 0x02, .mon, .u8, 1, 0xF1, 0, 0, 1, [], 0⟩,
  ⟨0x300C, 0x03, .mon, .u8, 1, 0xF1, 0, 0, 1, [], 0⟩,
  ⟨0x300C, 0x04, .mon, .u16, 2, 0xF1, 0x3ff, 0, 1023, [], 0⟩,
  ⟨0x300C, 0x05, .mon, .u8, 1, 0xF1, 8, 0, 64, [], 0⟩,
  ⟨0x300C, 0x06, .mon, .u32, 4, 0xF1, 0xf4240, 1000, 200000000, [], 0⟩,
  ⟨0x300C, 0x07, .mon, .f32, 4, 0x51, 0, -2139095040, 2139095040, [], 0⟩,
  ⟨0x300C, 0x08, .mon, .u8, 1, 0xF1, 17, 0, 255, [], 0⟩,
  ⟨0x300C, 0x09, .mon, .u16, 2, 0xF1, 0, 0, 65535, [], 0⟩]

/-- Rows of R152 and R355, part 2. -/
def rowsTileB2 : List Row := [
  ⟨0x300C, 0x0A, .mon, .u16, 2, 0xF1, 0, 0, 65535, [], 0⟩,
  ⟨0x300C, 0x0B, .mon, .u8, 1, 0xF1, 255, 0, 255, [(16, 254)], 0⟩,
  ⟨0x300C, 0x0C, .mon, .u8, 1, 0x51, 0, 0, 255, [], 0⟩,
  ⟨0x300C, 0x0D, .mon, .bool, 1, 0x51, 0, 0, 1, [], 0⟩,
  ⟨0x300C, 0x0E, .mon, .u16, 2, 0x51, 0, 96, 607, [], 0⟩,
  ⟨0x300C, 0x0F, .mon, .u32, 4, 0x51, 0, 0, 4294967295, [], 0⟩,
  ⟨0x300C, 0x10, .mon, .time96, 12, 0x51, 0, 0, 79228162514264337593543950335, [], 0⟩,
  ⟨0x300E, 0x01, .tile, .u8, 1, 0x51, 0, 0, 6, [], 0⟩,
  ⟨0x300E, 0x02, .tile, .bool, 1, 0x51, 0, 0, 1, [], 0⟩,
  ⟨0x300E, 0x03, .tile, .time96, 12, 0x51, 0, 0, 79228162514264337593543950335, [], 0⟩,
  ⟨0x300E, 0x04, .tile, .u32, 4, 0x51, 0, 0, 4294967295, [], 0⟩,
  ⟨0x300E, 0x05, .tile, .u32, 4, 0x51, 0, 0, 4294967295, [], 0⟩,
  ⟨0x300E, 0x06, .tile, .u16, 2, 0xF1, 64, 1, 4096, [], 0⟩,
  ⟨0x300E, 0x07, .tile, .u32, 4, 0xF1, 0x3e8, 1, 1000000, [], 0⟩,
  ⟨0x300E, 0x08, .tile, .u16, 2, 0x51, 0, 0, 4096, [], 0⟩,
  ⟨0x300E, 0x09, .tile, .u8, 1, 0x51, 0, 0, 7, [], 0⟩,
  ⟨0x300F, 0x01, .tile, .u8, 1, 0x51, 0, 0, 6, [], 0⟩,
  ⟨0x300F, 0x02, .tile, .bool, 1, 0xF1, 0, 0, 1, [], 0⟩,
  ⟨0x300F, 0x03, .tile, .u16, 2, 0xF1, 0x100, 16, 4096, [], 0⟩,
  ⟨0x300F, 0x04, .tile, .s16, 2, 0xF1, 0x8000, -32768, 32767, [], 0⟩,
  ⟨0x300F, 0x05, .tile, .s16, 2, 0xF1, 0x7fff, -32768, 32767, [], 0⟩,
  ⟨0x300F, 0x06, .tile, .s16, 2, 0xF1, 0x8000, -32768, 32767, [], 0⟩,
  ⟨0x300F, 0x07, .tile, .s16, 2, 0xF1, 0x7fff, -32768, 32767, [], 0⟩,
  ⟨0x300F, 0x08, .tile, .s16, 2, 0xF1, 0x4000, 1, 32767, [], 0⟩,
  ⟨0x300F, 0x09, .tile, .u16, 2, 0xF1, 0, 0, 16384, [], 0⟩,
  ⟨0x300F, 0x0A, .tile, .f32, 4, 0xF1, 0x40000000, 1036831949, 1115684864, [], 0⟩,
  ⟨0x300F, 0x0B, .tile, .f32, 4, 0xF1, 0x3e4ccccd, 1008981770, 1084227584, [], 0⟩,
  ⟨0x300F, 0x0C, .tile, .u16, 2, 0x51, 0, 0, 16384, [], 0⟩,
  ⟨0x300F, 0x0D, .tile, .octets, 65536, 0xD1, 0, 0, 0, [], 0⟩,
  ⟨0x300F, 0x0E, .tile, .time96, 12, 0x51, 0, 0, 79228162514264337593543950335, [], 0⟩]

/-- The rows of R152 and R355. -/
def rowsTileB : List Row := rowsTileB1 ++ rowsTileB2

/-- The rows of R176. -/
def rowsTime : List Row := [
  ⟨0x1400, 0x01, .single, .time96, 12, 0x55, 0, 0, 79228162514264337593543950335, [], 0⟩,
  ⟨0x1400, 0x02, .single, .u8, 1, 0x55, 0, 0, 3, [], 0⟩,
  ⟨0x1400, 0x03, .single, .u8, 1, 0x55, 0, 0, 2, [], 0⟩,
  ⟨0x1400, 0x04, .single, .time96, 12, 0x80, 0, 0, 79228162514264337593543950335, [], 8⟩,
  ⟨0x1400, 0x05, .single, .u32, 4, 0xD1, 0x186a0, 1000, 500000, [], 0⟩,
  ⟨0x1400, 0x06, .single, .u32, 4, 0xD1, 0xf4240, 1000, 1000000000, [], 0⟩,
  ⟨0x1400, 0x07, .single, .s32, 4, 0x55, 0, -2147483648, 2147483647, [], 0⟩,
  ⟨0x1400, 0x08, .single, .s32, 4, 0x55, 0, -2147483648, 2147483647, [], 0⟩,
  ⟨0x1400, 0x09, .single, .s16, 2, 0x55, 37, -32768, 32767, [], 0⟩,
  ⟨0x1401, 0x01, .single, .bool, 1, 0xD1, 1, 0, 1, [], 0⟩,
  ⟨0x1401, 0x02, .single, .u8, 1, 0xD1, 0, 0, 127, [], 0⟩,
  ⟨0x1401, 0x03, .single, .u8, 1, 0xD1, 0, 0, 2, [], 0⟩,
  ⟨0x1401, 0x04, .single, .u8, 1, 0xD1, 3, 2, 10, [], 0⟩,
  ⟨0x1401, 0x05, .single, .u8, 1, 0x51, 1, 1, 9, [(2, 2), (6, 7)], 0⟩,
  ⟨0x1401, 0x06, .single, .octets, 10, 0x51, 0, 0, 0, [], 0⟩,
  ⟨0x1401, 0x07, .single, .s32, 4, 0x51, 0, -2147483648, 2147483647, [], 0⟩,
  ⟨0x1402, 0x01, .single, .u32, 4, 0x55, 0, 0, 156250000, [(1, 99999999), (100000001, 156249999)], 0⟩,
  ⟨0x1402, 0x02, .single, .u8, 1, 0x55, 0, 0, 1, [], 0⟩,
  ⟨0x1402, 0x03, .single, .u32, 4, 0xD1, 100, 1, 10000, [], 0⟩,
  ⟨0x1402, 0x04, .single, .u32, 4, 0x51, 0, 0, 4294967295, [], 0⟩,
  ⟨0x1402, 0x05, .single, .u32, 4, 0x51, 0, 0, 4294967295, [], 0⟩,
  ⟨0x1410, 0x01, .synth, .u8, 1, 0x51, 0, 0, 255, [], 0⟩,
  ⟨0x1410, 0x02, .synth, .f32, 4, 0x55, 0, 0, 1324247848, [], 0⟩,
  ⟨0x1410, 0x03, .synth, .s32, 4, 0x51, 0, -2147483648, 2147483647, [], 0⟩,
  ⟨0x1410, 0x04, .synth, .u32, 4, 0x51, 0, 0, 4294967295, [], 0⟩]

/-- The rows of R176. -/
def rowsEncoder : List Row := [
  ⟨0x1500, 0x01, .encoder, .u8, 1, 0xD1, 0, 0, 2, [], 0⟩,
  ⟨0x1500, 0x02, .encoder, .bool, 1, 0xF1, 0, 0, 1, [], 0⟩,
  ⟨0x1500, 0x03, .encoder, .u8, 1, 0xD1, 2, 1, 255, [], 0⟩,
  ⟨0x1500, 0x04, .encoder, .bool, 1, 0xD1, 0, 0, 1, [], 0⟩,
  ⟨0x1500, 0x05, .encoder, .u32, 4, 0xD1, 0x2625a00, 1000, 40000000, [], 0⟩,
  ⟨0x1500, 0x06, .encoder, .u32, 4, 0xD1, 0x3e8, 1, 1000000, [], 0⟩,
  ⟨0x1500, 0x07, .encoder, .u32, 4, 0xD1, 0x989680, 1000, 4000000000, [], 0⟩,
  ⟨0x1500, 0x08, .encoder, .u16, 2, 0xD1, 20, 1, 60000, [], 0⟩,
  ⟨0x1500, 0x09, .encoder, .u8, 1, 0xD1, 0, 0, 2, [], 0⟩,
  ⟨0x1500, 0x0A, .encoder, .pos48, 6, 0xD1, 0, -140737488355328, 140737488355327, [], 0⟩,
  ⟨0x1500, 0x0B, .encoder, .u8, 1, 0xD1, 0, 0, 2, [], 0⟩,
  ⟨0x1500, 0x0C, .encoder, .u16, 2, 0xD1, 0x400, 64, 65535, [], 0⟩,
  ⟨0x1501, 0x01, .encoder, .u8, 1, 0x51, 0, 0, 15, [], 0⟩,
  ⟨0x1501, 0x02, .encoder, .pos48, 6, 0x55, 0, -140737488355328, 140737488355327, [], 0⟩,
  ⟨0x1501, 0x03, .encoder, .s32, 4, 0x55, 0, -2147483648, 2147483647, [], 0⟩,
  ⟨0x1501, 0x04, .encoder, .s32, 4, 0x51, 0, -2147483648, 2147483647, [], 0⟩,
  ⟨0x1501, 0x05, .encoder, .pos48, 6, 0x51, 0, -140737488355328, 140737488355327, [], 0⟩,
  ⟨0x1501, 0x06, .encoder, .u8, 1, 0x55, 0, 0, 31, [], 0⟩,
  ⟨0x1501, 0x07, .encoder, .u32, 4, 0x51, 0, 0, 4294967295, [], 0⟩,
  ⟨0x1501, 0x08, .encoder, .u32, 4, 0x51, 0, 0, 4294967295, [], 0⟩,
  ⟨0x1501, 0x09, .encoder, .f32, 4, 0x51, 0x43063333, -2139095040, 2139095040, [], 0⟩,
  ⟨0x1501, 0x0A, .encoder, .u32, 4, 0x51, 0, 0, 4294967295, [], 0⟩]

/-- The rows of R176. -/
def rowsPitch : List Row := [
  ⟨0x1580, 0x01, .pitch, .u8, 1, 0x55, 0, 0, 255, [], 0⟩,
  ⟨0x1580, 0x02, .pitch, .u8, 1, 0x51, 255, 0, 255, [(8, 254)], 0⟩,
  ⟨0x1580, 0x03, .pitch, .u32, 4, 0xF1, 0x10000, 65536, 4294967295, [], 1⟩,
  ⟨0x1580, 0x04, .pitch, .u8, 1, 0xD1, 0, 0, 2, [], 0⟩,
  ⟨0x1580, 0x05, .pitch, .u8, 1, 0xD1, 16, 1, 64, [(3, 3), (5, 7), (9, 15), (17, 31), (33, 63)], 0⟩,
  ⟨0x1580, 0x06, .pitch, .u32, 4, 0xF1, 0x186a0, 100000, 4294967295, [], 0⟩,
  ⟨0x1581, 0x01, .pitch, .u8, 1, 0x51, 0, 0, 3, [], 0⟩,
  ⟨0x1581, 0x02, .pitch, .u16, 2, 0x51, 4, 4, 4096, [], 0⟩,
  ⟨0x1581, 0x03, .pitch, .f32, 4, 0x55, 0, -2139095040, 2139095040, [], 0⟩,
  ⟨0x1581, 0x04, .pitch, .s32, 4, 0xD1, 0, -1000000, 1000000, [], 0⟩,
  ⟨0x1581, 0x05, .pitch, .u16, 2, 0xD1, 100, 10, 65535, [], 0⟩,
  ⟨0x1581, 0x06, .pitch, .u8, 1, 0xD1, 0, 0, 1, [], 0⟩,
  ⟨0x1582, 0x01, .pitch, .u64, 8, 0x55, 0, 0, 18446744073709551615, [], 0⟩,
  ⟨0x1582, 0x02, .pitch, .u64, 8, 0xD1, 0, 0, 18446744073709551615, [], 0⟩,
  ⟨0x1582, 0x03, .pitch, .time96, 12, 0x55, 0, 0, 79228162514264337593543950335, [], 0⟩,
  ⟨0x1582, 0x04, .pitch, .pos48, 6, 0x55, 0, -140737488355328, 140737488355327, [], 0⟩,
  ⟨0x1582, 0x05, .pitch, .u32, 4, 0x51, 0, 0, 4294967295, [], 0⟩,
  ⟨0x1582, 0x06, .pitch, .u32, 4, 0x51, 0, 0, 4294967295, [], 0⟩,
  ⟨0x1582, 0x07, .pitch, .f32, 4, 0x51, 0, -2139095040, 2139095040, [], 0⟩]

/-- The rows of R197. -/
def rowsRally : List Row := [
  ⟨0x1600, 0x01, .single, .u8, 1, 0x55, 0, 0, 8, [], 0⟩,
  ⟨0x1600, 0x02, .single, .u8, 1, 0x55, 0, 0, 2, [], 0⟩,
  ⟨0x1600, 0x03, .single, .u8, 1, 0x55, 0, 0, 63, [], 0⟩,
  ⟨0x1600, 0x04, .single, .u8, 1, 0x55, 255, 0, 255, [(64, 254)], 0⟩,
  ⟨0x1600, 0x05, .single, .u8, 1, 0x55, 255, 0, 255, [(64, 254)], 0⟩,
  ⟨0x1600, 0x06, .single, .u8, 1, 0x55, 0, 0, 15, [], 0⟩,
  ⟨0x1600, 0x07, .single, .u8, 1, 0x55, 255, 0, 255, [(16, 254)], 0⟩,
  ⟨0x1600, 0x08, .single, .s32, 4, 0x55, 0, -2147483648, 2147483647, [], 0⟩,
  ⟨0x1600, 0x09, .single, .f32, 4, 0x55, 0, -2139095040, 2139095040, [], 0⟩,
  ⟨0x1600, 0x0A, .single, .f32, 4, 0x55, 0, -2139095040, 2139095040, [], 0⟩,
  ⟨0x1600, 0x0B, .single, .u32, 4, 0x55, 0, 0, 4294967295, [], 0⟩,
  ⟨0x1600, 0x0C, .single, .u16, 2, 0x55, 0, 0, 31, [], 0⟩,
  ⟨0x1600, 0x0D, .single, .u32, 4, 0x51, 0, 0, 4294967295, [], 0⟩,
  ⟨0x1600, 0x0E, .single, .octets, 8, 0x55, 0, 0, 0, [], 0⟩,
  ⟨0x1601, 0x01, .single, .u16, 2, 0xD1, 100, 10, 1000, [], 0⟩,
  ⟨0x1601, 0x02, .single, .u8, 1, 0xD1, 15, 2, 15, [], 0⟩,
  ⟨0x1602, 0x01, .single, .u16, 2, 0xD1, 0, 0, 65535, [], 0⟩,
  ⟨0x1602, 0x02, .single, .u16, 2, 0xD1, 0, 0, 65535, [], 0⟩,
  ⟨0x1602, 0x03, .single, .u32, 4, 0xD1, 0xfa0, 1000, 64000, [], 0⟩,
  ⟨0x1602, 0x04, .single, .u16, 2, 0xD1, 0x1f4, 200, 60000, [], 0⟩,
  ⟨0x1602, 0x05, .single, .u32, 4, 0x55, 0, 0, 4294967295, [], 0⟩,
  ⟨0x1602, 0x06, .single, .u32, 4, 0x51, 0, 0, 4294967295, [], 0⟩,
  ⟨0x1602, 0x07, .single, .u32, 4, 0x51, 0, 0, 4294967295, [], 0⟩,
  ⟨0x1603, 0x01, .single, .u32, 4, 0x55, 0, 0, 4294967295, [], 0⟩,
  ⟨0x1603, 0x02, .single, .u32, 4, 0x55, 0, 0, 4294967295, [], 0⟩,
  ⟨0x1603, 0x03, .single, .octets, 16, 0x55, 0, 0, 0, [], 0⟩,
  ⟨0x1610, 0x01, .rallyLane, .u8, 1, 0x55, 0, 0, 4, [], 0⟩,
  ⟨0x1610, 0x02, .rallyLane, .u8, 1, 0x55, 255, 0, 255, [(64, 254)], 0⟩,
  ⟨0x1610, 0x03, .rallyLane, .f32, 4, 0x55, 0, -2139095040, 2139095040, [], 0⟩,
  ⟨0x1610, 0x04, .rallyLane, .s16, 2, 0xD1, 0, -1000, 1000, [], 0⟩,
  ⟨0x1610, 0x05, .rallyLane, .u32, 4, 0x51, 0, 0, 4294967295, [], 0⟩,
  ⟨0x1610, 0x06, .rallyLane, .u64, 8, 0x51, 0, 0, 18446744073709551615, [], 0⟩]

/-- The rows of R219. -/
def rowsEngine : List Row := [
  ⟨0x4800, 0x01, .engine, .bool, 1, 0xF1, 1, 0, 1, [], 0⟩,
  ⟨0x4800, 0x02, .engine, .u8, 1, 0x51, 0, 0, 255, [], 0⟩,
  ⟨0x4800, 0x03, .engine, .f32, 4, 0x51, 0, 0, 1065353216, [], 0⟩,
  ⟨0x4800, 0x04, .engine, .f32, 4, 0x51, 0, -2139095040, 2139095040, [], 0⟩,
  ⟨0x4800, 0x05, .engine, .u8, 1, 0x51, 0, 0, 16, [], 0⟩,
  ⟨0x4800, 0x06, .engine, .u32, 4, 0x51, 0, 0, 4294967295, [], 0⟩,
  ⟨0x4800, 0x07, .engine, .u32, 4, 0x51, 0, 0, 4294967295, [], 0⟩,
  ⟨0x4800, 0x08, .engine, .u32, 4, 0x51, 0, 0, 4294967295, [], 0⟩,
  ⟨0x4800, 0x09, .engine, .u32, 4, 0x51, 0, 0, 4294967295, [], 0⟩,
  ⟨0x4801, 0x10, .slot, .u16, 2, 0x51, 0xffff, 0, 65535, [(1024, 65534)], 0⟩,
  ⟨0x4801, 0x11, .slot, .u8, 1, 0x51, 0, 0, 5, [], 0⟩,
  ⟨0x4801, 0x12, .slot, .octets, 8, 0xF1, 0xffffffffffffffff, 0, 0, [], 1⟩,
  ⟨0x4801, 0x13, .slot, .u8, 1, 0x51, 0, 0, 255, [], 0⟩,
  ⟨0x4801, 0x14, .slot, .u32, 4, 0xF1, 0, 0, 4294967295, [], 1⟩,
  ⟨0x4801, 0x15, .slot, .u32, 4, 0xF1, 0, 0, 4294967295, [], 1⟩,
  ⟨0x4801, 0x16, .slot, .u32, 4, 0x51, 0, 0, 4294967295, [], 0⟩,
  ⟨0x4801, 0x17, .slot, .f32, 4, 0x51, 0, -2139095040, 2139095040, [], 0⟩,
  ⟨0x4880, 0x01, .coefSet, .octets, 52, 0xD1, 0, 0, 0, [], 0⟩,
  ⟨0x4880, 0x02, .coefSet, .u16, 2, 0x51, 0, 0, 1024, [], 0⟩]

/-- The rows of R222. -/
def rowsBoard : List Row := [
  ⟨0x1800, 0x01, .single, .u8, 1, 0xD5, 0, 0, 7, [], 5⟩,
  ⟨0x1800, 0x02, .single, .u8, 1, 0xD5, 0, 0, 7, [], 5⟩,
  ⟨0x1800, 0x03, .single, .u8, 1, 0xD5, 0, 0, 8, [], 5⟩,
  ⟨0x1800, 0x04, .single, .u8, 1, 0x80, 0, 1, 1, [], 8⟩,
  ⟨0x1800, 0x05, .single, .u8, 1, 0x51, 0, 0, 3, [], 4⟩,
  ⟨0x1800, 0x06, .single, .u32, 4, 0x51, 0, 0, 4294967295, [], 4⟩,
  ⟨0x1800, 0x07, .single, .u32, 4, 0x51, 0, 0, 4294967295, [], 4⟩,
  ⟨0x1801, 0x01, .single, .octets, 256, 0xD1, 0, 0, 0, [], 5⟩,
  ⟨0x1802, 0x01, .single, .octets, 16, 0xD5, 0, 0, 0, [], 5⟩,
  ⟨0x1803, 0x01, .single, .octets, 96, 0xD1, 0, 0, 0, [], 5⟩,
  ⟨0x1804, 0x01, .single, .octets, 512, 0xD1, 0, 0, 0, [], 5⟩,
  ⟨0x1805, 0x01, .single, .text, 64, 0xD1, 0, 0, 0, [], 5⟩,
  ⟨0x1806, 0x01, .single, .octets, 65536, 0xD1, 0, 0, 0, [], 5⟩]

/-- Rows of R224, part 1. -/
def rowsGraph1 : List Row := [
  ⟨0x2100, 0x01, .single, .octets, 4194304, 0xD1, 0, 0, 0, [], 0⟩,
  ⟨0x2100, 0x02, .single, .u8, 1, 0x80, 0, 1, 1, [], 8⟩,
  ⟨0x2100, 0x03, .single, .u8, 1, 0x51, 0, 0, 2, [], 0⟩,
  ⟨0x2100, 0x04, .single, .u32, 4, 0x51, 0, 0, 4294967295, [], 0⟩,
  ⟨0x2100, 0x05, .single, .u16, 2, 0x51, 0, 0, 1024, [], 0⟩,
  ⟨0x2100, 0x06, .single, .u16, 2, 0x51, 0, 0, 256, [], 0⟩,
  ⟨0x2100, 0x07, .single, .octets, 16, 0xD1, 0xffffffffffffffffffffffffffffffff, 0, 0, [], 0⟩,
  ⟨0x2400, 0x01, .node, .u8, 1, 0xD1, 0, 0, 4, [], 0⟩,
  ⟨0x2400, 0x02, .node, .u16, 2, 0xD1, 0, 0, 65535, [], 0⟩,
  ⟨0x2400, 0x03, .node, .u8, 1, 0xD1, 0, 0, 4, [], 0⟩,
  ⟨0x2400, 0x04, .node, .u16, 2, 0xD1, 0xffff, 0, 65535, [], 0⟩,
  ⟨0x2400, 0x05, .node, .u8, 1, 0xD1, 0, 0, 4, [], 0⟩,
  ⟨0x2400, 0x06, .node, .octets, 32, 0xD1, 0x1000300000000000800030001003f3504814cbebc200004000000000418, 0, 0, [], 0⟩,
  ⟨0x2400, 0x07, .node, .u8, 1, 0xD1, 0, 0, 4, [], 0⟩,
  ⟨0x2400, 0x08, .node, .u8, 1, 0xD1, 0, 0, 2, [], 0⟩,
  ⟨0x2400, 0x09, .node, .f32, 4, 0xD1, 0, -2139095040, 2139095040, [], 0⟩,
  ⟨0x2400, 0x0A, .node, .u16, 2, 0xD1, 0, 0, 1023, [], 0⟩,
  ⟨0x2400, 0x0B, .node, .octets, 20, 0xD1, 0xffffffffffffffff, 0, 0, [], 0⟩,
  ⟨0x2400, 0x0C, .node, .u8, 1, 0xD1, 255, 0, 255, [(16, 254)], 0⟩,
  ⟨0x2400, 0x0D, .node, .u32, 4, 0xD1, 0x2000, 64, 1048576, [], 0⟩,
  ⟨0x2400, 0x0E, .node, .u32, 4, 0xD1, 0, 0, 4294967295, [], 0⟩,
  ⟨0x2400, 0x0F, .node, .u8, 1, 0xD1, 0, 0, 2, [], 0⟩,
  ⟨0x2400, 0x10, .node, .u8, 1, 0xD1, 0, 0, 15, [], 0⟩,
  ⟨0x2400, 0x11, .node, .u8, 1, 0xD1, 255, 0, 255, [(64, 254)], 0⟩,
  ⟨0x2400, 0x12, .node, .u16, 2, 0xD1, 0, 0, 65535, [], 0⟩,
  ⟨0x2400, 0x13, .node, .u8, 1, 0xD1, 255, 0, 255, [(32, 254)], 0⟩,
  ⟨0x2400, 0x14, .node, .u8, 1, 0xD1, 255, 0, 255, [(16, 254)], 0⟩,
  ⟨0x2400, 0x15, .node, .f32, 4, 0xD1, 0, -2139095040, 2139095040, [], 0⟩,
  ⟨0x2400, 0x16, .node, .u32, 4, 0xD1, 0, 0, 1048576, [], 0⟩,
  ⟨0x2400, 0x17, .node, .octets, 8, 0xD1, 0xffffffff, 0, 0, [], 0⟩,
  ⟨0x2400, 0x18, .node, .u32, 4, 0xD1, 0, 0, 4294967295, [], 0⟩,
  ⟨0x2400, 0x19, .node, .u16, 2, 0xD1, 0, 0, 65535, [], 0⟩,
  ⟨0x2400, 0x1A, .node, .u16, 2, 0xD1, 0, 0, 4095, [], 0⟩,
  ⟨0x2200, 0x01, .piece, .u8, 1, 0xD1, 0, 0, 128, [], 0⟩,
  ⟨0x2200, 0x02, .piece, .u16, 2, 0xD1, 0, 1, 256, [], 0⟩,
  ⟨0x2200, 0x03, .piece, .u8, 1, 0xD1, 255, 0, 255, [(4, 254)], 0⟩,
  ⟨0x2200, 0x04, .piece, .u32, 4, 0xD1, 0, 0, 4294967295, [], 0⟩,
  ⟨0x2200, 0x05, .piece, .u16, 2, 0xD1, 0xffff, 0, 65535, [], 0⟩,
  ⟨0x2200, 0x06, .piece, .octets, 256, 0xD1, 0xffffffffffffffffffffffffffffffffffffffffffffffffffffffffffffffffffffffffffffffffffffffffffffffffffffffffffffffffffffffffffffffffffffffffffffffffffffffffffffffffffffffffffffffffffffffffffffffffffffffffffffffffffffffffffffffffffffffffffffffffffffffffffffffffffffffffffffffffffffffffffffffffffffffffffffffffffffffffffffffffffffffffffffffffffffffffffffffffffffffffffffffffffffffffffffffffffffffffffffffffffffffffffffffffffffffffffffffffffffffffffffffffffffffffffffffffffffffffffffffffffffffffffffffffffffffffffffffff, 0, 0, [], 0⟩,
  ⟨0x2200, 0x07, .piece, .u8, 1, 0x51, 255, 0, 255, [(4, 254)], 0⟩]

/-- Rows of R224, part 2. -/
def rowsGraph2 : List Row := [
  ⟨0x2200, 0x08, .piece, .octets, 16, 0x51, 0, 0, 0, [], 0⟩,
  ⟨0x2200, 0x09, .piece, .u16, 2, 0x51, 0xffff, 0, 65535, [(256, 65534)], 0⟩,
  ⟨0x2200, 0x0A, .piece, .u32, 4, 0x51, 0, 0, 4294967295, [], 0⟩]

/-- The rows of R224. -/
def rowsGraph : List Row := rowsGraph1 ++ rowsGraph2

/-- The rows of R227 and R266. -/
def rowsContext : List Row := [
  ⟨0x4000, 0x01, .context, .u8, 1, 0x55, 0, 0, 7, [], 0⟩,
  ⟨0x4000, 0x02, .context, .u16, 2, 0x51, 0xffff, 0, 65535, [], 0⟩,
  ⟨0x4000, 0x03, .context, .u8, 1, 0x51, 255, 0, 255, [(2, 254)], 0⟩,
  ⟨0x4000, 0x04, .context, .u16, 2, 0x51, 0xffff, 0, 65535, [], 0⟩,
  ⟨0x4000, 0x05, .context, .u16, 2, 0x51, 0xffff, 0, 65535, [], 0⟩,
  ⟨0x4000, 0x06, .context, .u8, 1, 0x51, 255, 0, 15, [], 0⟩,
  ⟨0x4000, 0x07, .context, .u8, 1, 0x51, 255, 0, 15, [], 0⟩,
  ⟨0x4000, 0x08, .context, .u64, 8, 0x51, 0, 0, 18446744073709551615, [], 0⟩,
  ⟨0x4000, 0x09, .context, .u64, 8, 0x51, 0, 0, 18446744073709551615, [], 0⟩,
  ⟨0x4000, 0x0A, .context, .u32, 4, 0x51, 0, 0, 4294967295, [], 0⟩,
  ⟨0x4000, 0x0B, .context, .u64, 8, 0x51, 0, 0, 18446744073709551615, [], 0⟩,
  ⟨0x4000, 0x0C, .context, .u64, 8, 0x51, 0, 0, 18446744073709551615, [], 0⟩,
  ⟨0x4000, 0x0D, .context, .u32, 4, 0x51, 0, 0, 4294967295, [], 0⟩,
  ⟨0x4000, 0x0E, .context, .u64, 8, 0x55, 0, 0, 18446744073709551615, [], 0⟩,
  ⟨0x4000, 0x0F, .context, .u64, 8, 0x51, 0, 0, 18446744073709551615, [], 0⟩,
  ⟨0x4000, 0x10, .context, .u8, 1, 0x55, 0, 0, 255, [], 0⟩,
  ⟨0x4000, 0x11, .context, .u32, 4, 0x55, 0, 0, 4294967295, [], 0⟩,
  ⟨0x4000, 0x12, .context, .u64, 8, 0x51, 0, 0, 18446744073709551615, [], 0⟩,
  ⟨0x4000, 0x13, .context, .u8, 1, 0x51, 0, 0, 18, [(9, 15)], 0⟩,
  ⟨0x4000, 0x14, .context, .u64, 8, 0x51, 0, 0, 18446744073709551615, [], 0⟩,
  ⟨0x4000, 0x15, .context, .u8, 1, 0x51, 0, 0, 7, [], 0⟩,
  ⟨0x4000, 0x16, .context, .u16, 2, 0x51, 0xffff, 0, 65535, [], 0⟩,
  ⟨0x4000, 0x17, .context, .u64, 8, 0x51, 0, 0, 18446744073709551615, [], 0⟩,
  ⟨0x4000, 0x18, .context, .u64, 8, 0x51, 0, 0, 18446744073709551615, [], 0⟩,
  ⟨0x4000, 0x19, .context, .f32, 4, 0x51, 0, -2139095040, 2139095040, [], 0⟩,
  ⟨0x4000, 0x1A, .context, .u32, 4, 0x51, 0, 0, 4294967295, [], 0⟩,
  ⟨0x4000, 0x1B, .context, .u32, 4, 0x51, 0, 0, 4294967295, [], 0⟩,
  ⟨0x4000, 0x1C, .context, .u64, 8, 0x51, 0, 0, 18446744073709551615, [], 0⟩,
  ⟨0x4000, 0x1D, .context, .f32, 4, 0x51, 0, -2139095040, 2139095040, [], 0⟩,
  ⟨0x4000, 0x1E, .context, .u16, 2, 0xA0, 0, 0, 255, [], 8⟩,
  ⟨0x4000, 0x1F, .context, .bool, 1, 0xA0, 0, 1, 1, [], 8⟩,
  ⟨0x4000, 0x20, .context, .u8, 1, 0x51, 0, 0, 2, [], 0⟩,
  ⟨0x4000, 0x21, .context, .u64, 8, 0x51, 0, 0, 18446744073709551615, [], 0⟩,
  ⟨0x4000, 0x22, .context, .u64, 8, 0x51, 0, 0, 18446744073709551615, [], 0⟩,
  ⟨0x4000, 0x23, .context, .bool, 1, 0xA0, 0, 1, 1, [], 8⟩,
  ⟨0x4000, 0x24, .context, .u64, 8, 0x51, 0, 0, 18446744073709551615, [], 0⟩]

/-- The rows of R238. -/
def rowsPlacer : List Row := [
  ⟨0x2000, 0x01, .single, .u8, 1, 0x51, 0, 0, 255, [], 0⟩,
  ⟨0x2000, 0x02, .single, .u16, 2, 0x51, 0, 0, 65535, [], 0⟩,
  ⟨0x2000, 0x03, .single, .octets, 16, 0x51, 0, 0, 0, [], 0⟩,
  ⟨0x2000, 0x04, .single, .u32, 4, 0x51, 0, 0, 4294967295, [], 0⟩,
  ⟨0x2000, 0x05, .single, .u16, 2, 0x51, 0, 0, 65535, [], 0⟩,
  ⟨0x2000, 0x06, .single, .u32, 4, 0x51, 0, 0, 4294967295, [], 0⟩,
  ⟨0x2000, 0x07, .single, .u8, 1, 0xA0, 0, 1, 1, [], 8⟩,
  ⟨0x2000, 0x08, .single, .u16, 2, 0x51, 0, 0, 65535, [], 0⟩,
  ⟨0x2000, 0x09, .single, .u32, 4, 0x51, 0, 0, 4294967295, [], 0⟩,
  ⟨0x2000, 0x0A, .single, .bool, 1, 0xF1, 1, 0, 1, [], 0⟩,
  ⟨0x2000, 0x0B, .single, .u8, 1, 0xD1, 1, 1, 4, [], 0⟩,
  ⟨0x2000, 0x0C, .single, .u16, 2, 0xF1, 64, 1, 65535, [], 0⟩,
  ⟨0x2000, 0x0D, .single, .f32, 4, 0x51, 0, -2139095040, 2139095040, [], 0⟩,
  ⟨0x2000, 0x0E, .single, .u64, 8, 0x51, 0, 0, 18446744073709551615, [], 0⟩,
  ⟨0x2000, 0x0F, .single, .u8, 1, 0x51, 0, 0, 15, [], 0⟩,
  ⟨0x2000, 0x10, .single, .u8, 1, 0x51, 0, 0, 64, [], 0⟩,
  ⟨0x2001, 0x01, .single, .octets, 4096, 0x51, 0, 0, 0, [], 0⟩,
  ⟨0x2001, 0x02, .single, .u16, 2, 0x51, 0, 0, 512, [], 0⟩,
  ⟨0x2001, 0x03, .single, .u32, 4, 0x80, 0, 0, 4294967295, [], 8⟩,
  ⟨0x2001, 0x04, .single, .u8, 1, 0x80, 0, 1, 1, [], 8⟩]

/-- The rows of R266. -/
def rowsStore : List Row := [
  ⟨0x5800, 0x01, .single, .u8, 1, 0x51, 0, 0, 4, [], 0⟩,
  ⟨0x5800, 0x02, .single, .u64, 8, 0x51, 0, 0, 18446744073709551615, [], 0⟩,
  ⟨0x5800, 0x03, .single, .u64, 8, 0x51, 0, 0, 18446744073709551615, [], 0⟩,
  ⟨0x5800, 0x04, .single, .s16, 2, 0x51, 0, -32768, 32767, [], 0⟩,
  ⟨0x5800, 0x05, .single, .f32, 4, 0x51, 0x4573c000, 1156825088, 1165213696, [], 0⟩,
  ⟨0x5800, 0x06, .single, .u16, 2, 0x51, 0, 0, 64, [], 0⟩,
  ⟨0x5800, 0x07, .single, .f32, 4, 0x51, 0, -2139095040, 2139095040, [], 0⟩,
  ⟨0x5800, 0x08, .single, .f32, 4, 0x51, 0, -2139095040, 2139095040, [], 0⟩,
  ⟨0x5801, 0x01, .single, .u8, 1, 0xD1, 48, 16, 63, [], 0⟩,
  ⟨0x5801, 0x02, .single, .u8, 1, 0xD1, 16, 0, 55, [], 0⟩,
  ⟨0x5801, 0x03, .single, .u16, 2, 0xD1, 0x7d0, 500, 4000, [], 0⟩,
  ⟨0x5802, 0x01, .single, .u8, 1, 0xD1, 8, 1, 8, [], 0⟩,
  ⟨0x5802, 0x02, .single, .bool, 1, 0xF1, 0, 0, 1, [], 0⟩,
  ⟨0x5803, 0x01, .single, .u8, 1, 0xD1, 9, 4, 16, [], 0⟩,
  ⟨0x5803, 0x02, .single, .bool, 1, 0xD1, 1, 0, 1, [], 0⟩,
  ⟨0x5804, 0x01, .single, .u8, 1, 0xD1, 0, 0, 4, [], 0⟩,
  ⟨0x5804, 0x02, .single, .u8, 1, 0x51, 1, 1, 4, [], 0⟩,
  ⟨0x5804, 0x03, .single, .octets, 36, 0xD1, 0x10000000080000000400000002000000001000000008000000040000000200000001, 0, 0, [], 0⟩,
  ⟨0x5805, 0x01, .single, .octets, 256, 0x51, 0, 0, 0, [], 0⟩,
  ⟨0x5805, 0x02, .single, .u8, 1, 0x51, 0, 0, 64, [], 0⟩,
  ⟨0x5805, 0x03, .single, .octets, 64, 0x51, 0, 0, 0, [], 0⟩,
  ⟨0x5805, 0x04, .single, .u8, 1, 0x51, 0, 0, 16, [], 0⟩,
  ⟨0x5820, 0x01, .pseudo, .u8, 1, 0x51, 0, 0, 2, [], 0⟩,
  ⟨0x5820, 0x02, .pseudo, .u64, 8, 0x51, 0, 0, 18446744073709551615, [], 0⟩,
  ⟨0x5820, 0x03, .pseudo, .u64, 8, 0x51, 0, 0, 18446744073709551615, [], 0⟩,
  ⟨0x5820, 0x04, .pseudo, .u32, 4, 0x51, 0, 0, 4294967295, [], 0⟩,
  ⟨0x5820, 0x05, .pseudo, .u16, 2, 0x51, 0, 0, 65535, [], 0⟩,
  ⟨0x5820, 0x06, .pseudo, .u32, 4, 0x51, 0, 0, 4294967295, [], 0⟩,
  ⟨0x5820, 0x07, .pseudo, .u32, 4, 0x51, 0, 0, 4294967295, [], 0⟩,
  ⟨0x5820, 0x08, .pseudo, .u32, 4, 0x51, 0, 0, 4294967295, [], 0⟩,
  ⟨0x5820, 0x09, .pseudo, .u32, 4, 0x51, 0, 0, 4294967295, [], 0⟩,
  ⟨0x5820, 0x0A, .pseudo, .u32, 4, 0x51, 0, 0, 4294967295, [], 0⟩,
  ⟨0x5820, 0x0B, .pseudo, .f32, 4, 0x51, 0, -2139095040, 2139095040, [], 0⟩,
  ⟨0x5820, 0x0C, .pseudo, .bool, 1, 0xA0, 0, 1, 1, [], 8⟩]

/-- The rows of R280. -/
def rowsArb : List Row := [
  ⟨0x5900, 0x01, .single, .u8, 1, 0xD1, 16, 4, 64, [], 0⟩,
  ⟨0x5900, 0x02, .single, .u16, 2, 0xD1, 200, 50, 1000, [], 0⟩,
  ⟨0x5900, 0x03, .single, .u32, 4, 0x51, 0, 0, 4294967295, [], 0⟩,
  ⟨0x5900, 0x04, .single, .u32, 4, 0x51, 0, 0, 4294967295, [], 0⟩,
  ⟨0x5900, 0x05, .single, .bool, 1, 0xA0, 0, 1, 1, [], 8⟩,
  ⟨0x5901, 0x01, .single, .f32, 4, 0x51, 0x3f800000, 1056964608, 1073741824, [], 0⟩,
  ⟨0x5901, 0x02, .single, .u16, 2, 0x51, 0, 0, 255, [], 0⟩,
  ⟨0x5901, 0x03, .single, .f32, 4, 0x51, 0, -2139095040, 2139095040, [], 0⟩,
  ⟨0x5901, 0x04, .single, .f32, 4, 0x51, 0, -2139095040, 2139095040, [], 0⟩,
  ⟨0x5901, 0x05, .single, .f32, 4, 0x51, 0, -2139095040, 2139095040, [], 0⟩,
  ⟨0x5901, 0x06, .single, .f32, 4, 0x51, 0, -2139095040, 2139095040, [], 0⟩,
  ⟨0x5901, 0x07, .single, .f32, 4, 0x51, 0, -2139095040, 2139095040, [], 0⟩,
  ⟨0x5901, 0x08, .single, .f32, 4, 0x51, 0, -2139095040, 2139095040, [], 0⟩,
  ⟨0x5902, 0x01, .single, .u64, 8, 0x51, 0, 0, 18446744073709551615, [], 0⟩,
  ⟨0x5902, 0x02, .single, .bool, 1, 0xA0, 0, 1, 1, [], 8⟩,
  ⟨0x5910, 0x01, .client, .u8, 1, 0x51, 0, 0, 3, [], 0⟩,
  ⟨0x5910, 0x02, .client, .u8, 1, 0x51, 0, 0, 1, [], 0⟩,
  ⟨0x5910, 0x03, .client, .u32, 4, 0x51, 0, 0, 4294967295, [], 0⟩,
  ⟨0x5910, 0x04, .client, .u64, 8, 0x51, 0, 0, 18446744073709551615, [], 0⟩,
  ⟨0x5910, 0x05, .client, .u64, 8, 0x51, 0, 0, 18446744073709551615, [], 0⟩,
  ⟨0x5910, 0x06, .client, .f32, 4, 0x51, 0, -2139095040, 2139095040, [], 0⟩,
  ⟨0x5910, 0x07, .client, .bool, 1, 0xA0, 0, 1, 1, [], 8⟩,
  ⟨0x5940, 0x01, .pseudo, .f32, 4, 0x51, 0, -2139095040, 2139095040, [], 0⟩,
  ⟨0x5940, 0x02, .pseudo, .u64, 8, 0x51, 0, 0, 18446744073709551615, [], 0⟩,
  ⟨0x5940, 0x03, .pseudo, .f32, 4, 0x51, 0, -2139095040, 2139095040, [], 0⟩]

/-- The rows of R304 and R329. -/
def rowsFabric : List Row := [
  ⟨0x6010, 0x01, .sector, .u8, 1, 0x51, 0, 0, 128, [], 0⟩,
  ⟨0x6010, 0x02, .sector, .u16, 2, 0x51, 0, 0, 256, [], 0⟩,
  ⟨0x6010, 0x03, .sector, .octets, 32, 0x51, 0, 0, 0, [], 0⟩,
  ⟨0x6010, 0x04, .sector, .octets, 256, 0x51, 0, 0, 0, [], 0⟩,
  ⟨0x6010, 0x05, .sector, .u32, 4, 0x51, 0, 0, 4294967295, [], 0⟩,
  ⟨0x6010, 0x06, .sector, .u32, 4, 0x51, 0, 0, 4294967295, [], 0⟩,
  ⟨0x6010, 0x07, .sector, .u32, 4, 0x51, 0, 0, 4294967295, [], 0⟩,
  ⟨0x6020, 0x01, .pace, .u8, 1, 0xD1, 0, 0, 3, [], 0⟩,
  ⟨0x6020, 0x02, .pace, .u16, 2, 0xD1, 4, 2, 65535, [], 0⟩,
  ⟨0x6020, 0x03, .pace, .f32, 4, 0x51, 0, -2139095040, 2139095040, [], 0⟩,
  ⟨0x6020, 0x04, .pace, .s32, 4, 0x51, 0, -2147483648, 2147483647, [], 0⟩,
  ⟨0x6020, 0x05, .pace, .u8, 1, 0x51, 0, 0, 255, [], 0⟩,
  ⟨0x6040, 0x01, .single, .octets, 27262976, 0xD1, 0, 0, 0, [], 0⟩,
  ⟨0x6040, 0x02, .single, .u8, 1, 0x51, 0, 0, 3, [], 0⟩,
  ⟨0x6040, 0x03, .single, .u32, 4, 0x51, 0, 0, 4294967295, [], 0⟩,
  ⟨0x6040, 0x04, .single, .u32, 4, 0x51, 0, 0, 4294967295, [], 0⟩,
  ⟨0x6040, 0x05, .single, .octets, 32, 0x51, 0, 0, 0, [], 0⟩,
  ⟨0x6040, 0x06, .single, .u8, 1, 0x51, 255, 0, 255, [(4, 254)], 0⟩,
  ⟨0x6040, 0x07, .single, .u32, 4, 0x51, 0, 0, 4294967295, [], 0⟩,
  ⟨0x6040, 0x08, .single, .u16, 2, 0x51, 0, 0, 65535, [], 0⟩,
  ⟨0x6040, 0x09, .single, .u32, 4, 0x51, 0, 0, 4294967295, [], 0⟩,
  ⟨0x6048, 0x01, .sector, .u8, 1, 0x55, 0, 0, 4, [], 0⟩,
  ⟨0x6048, 0x02, .sector, .u8, 1, 0x80, 0, 1, 1, [], 8⟩,
  ⟨0x6048, 0x03, .sector, .time96, 12, 0x51, 0, 0, 79228162514264337593543950335, [], 0⟩,
  ⟨0x6048, 0x04, .sector, .time96, 12, 0x51, 0, 0, 79228162514264337593543950335, [], 0⟩,
  ⟨0x6048, 0x05, .sector, .u32, 4, 0x51, 0, 0, 4294967295, [], 0⟩,
  ⟨0x6048, 0x06, .sector, .u8, 1, 0x51, 0, 0, 128, [], 0⟩]

/-- The rows of R304. -/
def rowsBackstop : List Row := [
  ⟨0x6100, 0x01, .single, .octets, 44292, 0xD1, 0, 0, 0, [], 4⟩,
  ⟨0x6100, 0x02, .single, .u8, 1, 0x51, 0, 0, 3, [], 0⟩,
  ⟨0x6100, 0x03, .single, .u8, 1, 0x51, 0, 0, 1, [], 4⟩,
  ⟨0x6100, 0x04, .single, .u8, 1, 0x51, 0, 0, 1, [], 0⟩,
  ⟨0x6100, 0x05, .single, .bool, 1, 0x51, 0, 0, 1, [], 0⟩,
  ⟨0x6100, 0x06, .single, .u8, 1, 0x80, 0, 1, 1, [], 8⟩,
  ⟨0x6100, 0x07, .single, .u32, 4, 0x51, 0, 0, 4294967295, [], 4⟩,
  ⟨0x6100, 0x08, .single, .bool, 1, 0x51, 0, 0, 1, [], 4⟩,
  ⟨0x6100, 0x09, .single, .u32, 4, 0x51, 0, 0, 4294967295, [], 0⟩,
  ⟨0x6100, 0x0A, .single, .u32, 4, 0x51, 0, 0, 4294967295, [], 0⟩,
  ⟨0x6101, 0x01, .single, .octets, 32, 0x51, 0, 0, 0, [], 0⟩,
  ⟨0x6101, 0x02, .single, .octets, 148, 0x51, 0, 0, 0, [], 0⟩,
  ⟨0x6101, 0x03, .single, .f32, 4, 0x51, 0, -2139095040, 2139095040, [], 0⟩,
  ⟨0x6102, 0x01, .single, .u32, 4, 0x51, 0, 0, 4294967295, [], 0⟩,
  ⟨0x6102, 0x02, .single, .u32, 4, 0x51, 0, 0, 4294967295, [], 0⟩]

/-- The rows of R304. -/
def rowsProbe : List Row := [
  ⟨0x7C00, 0x01, .probe, .u16, 2, 0xD3, 0xfff, 0, 4095, [], 0⟩,
  ⟨0x7C00, 0x02, .probe, .u8, 1, 0xD3, 0, 0, 3, [], 0⟩,
  ⟨0x7C00, 0x03, .probe, .u8, 1, 0xD3, 255, 0, 255, [(96, 254)], 0⟩,
  ⟨0x7C10, 0x01, .single, .u8, 1, 0xD3, 0, 0, 7, [], 0⟩,
  ⟨0x7C10, 0x02, .single, .u32, 4, 0xD3, 0, 0, 4194304, [(1, 65535)], 0⟩,
  ⟨0x7C10, 0x03, .single, .u16, 2, 0xD3, 0, 0, 4095, [], 0⟩,
  ⟨0x7C10, 0x04, .single, .u8, 1, 0xD3, 0, 0, 2, [], 0⟩,
  ⟨0x7C10, 0x05, .single, .u8, 1, 0xD3, 8, 0, 16, [], 0⟩,
  ⟨0x7C10, 0x06, .single, .u8, 1, 0xA2, 0, 1, 1, [], 8⟩,
  ⟨0x7C10, 0x07, .single, .u8, 1, 0x51, 0, 0, 3, [], 0⟩,
  ⟨0x7C10, 0x08, .single, .u32, 4, 0x51, 0, 0, 4294967295, [], 0⟩,
  ⟨0x7C10, 0x09, .single, .time96, 12, 0x51, 0, 0, 79228162514264337593543950335, [], 0⟩,
  ⟨0x7C11, 0x01, .single, .octets, 4194304, 0x51, 0, 0, 0, [], 0⟩]

/-- The rows of R329. -/
def rowsScrub : List Row := [
  ⟨0x6080, 0x01, .single, .bool, 1, 0xD1, 1, 0, 1, [], 0⟩,
  ⟨0x6080, 0x02, .single, .u8, 1, 0x51, 0, 0, 255, [], 0⟩,
  ⟨0x6080, 0x03, .single, .u32, 4, 0x51, 0, 0, 4294967295, [], 0⟩,
  ⟨0x6080, 0x04, .single, .f32, 4, 0x51, 0, -2139095040, 2139095040, [], 0⟩,
  ⟨0x6080, 0x05, .single, .u64, 8, 0x51, 0, 0, 18446744073709551615, [], 0⟩,
  ⟨0x6080, 0x06, .single, .u32, 4, 0x51, 0x400000, 0, 4294967295, [], 0⟩,
  ⟨0x6080, 0x07, .single, .u8, 1, 0x51, 0, 0, 7, [], 0⟩,
  ⟨0x6081, 0x01, .single, .u32, 4, 0x51, 0, 0, 4294967295, [], 0⟩,
  ⟨0x6081, 0x02, .single, .u32, 4, 0x51, 0, 0, 4294967295, [], 0⟩,
  ⟨0x6081, 0x03, .single, .u32, 4, 0x51, 0, 0, 4294967295, [], 0⟩,
  ⟨0x6081, 0x04, .single, .u32, 4, 0x51, 0, 0, 4294967295, [], 0⟩,
  ⟨0x6081, 0x05, .single, .u32, 4, 0x51, 0, 0, 4294967295, [], 0⟩,
  ⟨0x6081, 0x06, .single, .u32, 4, 0x51, 0, 0, 4294967295, [], 0⟩,
  ⟨0x6081, 0x07, .single, .u32, 4, 0x51, 0, 0, 4294967295, [], 0⟩,
  ⟨0x6081, 0x08, .single, .u32, 4, 0x51, 0, 0, 4294967295, [], 0⟩,
  ⟨0x6082, 0x01, .single, .octets, 1024, 0x51, 0, 0, 0, [], 0⟩]

/-- The rows of R355. -/
def rowsCal : List Row := [
  ⟨0x7800, 0x01, .single, .u32, 4, 0xA0, 0, 0, 4294967295, [], 8⟩,
  ⟨0x7800, 0x02, .single, .u8, 1, 0x51, 0, 0, 2, [], 0⟩,
  ⟨0x7800, 0x03, .single, .u16, 2, 0x51, 0, 0, 256, [], 0⟩,
  ⟨0x7800, 0x04, .single, .u8, 1, 0x51, 0, 0, 64, [], 0⟩,
  ⟨0x7800, 0x05, .single, .u32, 4, 0x51, 0, 0, 4294967295, [], 0⟩,
  ⟨0x7800, 0x06, .single, .u16, 2, 0x51, 0, 0, 256, [], 0⟩,
  ⟨0x7800, 0x07, .single, .u16, 2, 0x51, 0, 0, 256, [], 0⟩,
  ⟨0x7800, 0x08, .single, .f32, 4, 0xD1, 0x3dcccccd, 1017370378, 1065353216, [], 0⟩,
  ⟨0x7800, 0x09, .single, .f32, 4, 0xD1, 0x3ca3d70a, 1000593162, 1056964608, [], 0⟩,
  ⟨0x7800, 0x0A, .single, .bool, 1, 0xF1, 0, 0, 1, [], 0⟩,
  ⟨0x7800, 0x0B, .single, .u8, 1, 0xD1, 255, 0, 255, [(96, 254)], 0⟩,
  ⟨0x7800, 0x0C, .single, .bool, 1, 0xD1, 1, 0, 1, [], 0⟩,
  ⟨0x7800, 0x0D, .single, .u32, 4, 0xF1, 100, 10, 100000, [], 0⟩,
  ⟨0x7800, 0x0E, .single, .u8, 1, 0x51, 0, 0, 2, [], 0⟩,
  ⟨0x7800, 0x0F, .single, .time96, 12, 0x51, 0, 0, 79228162514264337593543950335, [], 0⟩,
  ⟨0x7801, 0x01, .single, .octets, 64, 0xD1, 0xffffffffffffffffffffffffffffffffffffffffffffffffffffffffffffffffffffffffffffffffffffffffffffffffffffffffffffffffffffffffffffffff, 0, 0, [], 5⟩,
  ⟨0x7802, 0x01, .single, .u8, 1, 0x51, 0, 0, 1, [], 0⟩,
  ⟨0x7802, 0x02, .single, .f32, 4, 0x51, 0, -2139095040, 2139095040, [], 0⟩,
  ⟨0x7802, 0x03, .single, .u32, 4, 0xD1, 0x2710, 6000, 20000, [], 0⟩,
  ⟨0x7802, 0x04, .single, .u32, 4, 0x51, 0, 0, 4294967295, [], 0⟩]

/-- The rows of R370. -/
def rowsDac : List Row := [
  ⟨0x6400, 0x01, .dac, .bool, 1, 0xF1, 0, 0, 1, [], 0⟩,
  ⟨0x6400, 0x02, .dac, .u8, 1, 0x51, 0, 0, 255, [], 0⟩,
  ⟨0x6400, 0x03, .dac, .u8, 1, 0xD1, 0, 0, 3, [], 0⟩,
  ⟨0x6400, 0x04, .dac, .u8, 1, 0xD1, 2, 0, 3, [], 0⟩,
  ⟨0x6400, 0x05, .dac, .s32, 4, 0xD1, 0, -8388607, 8388607, [], 0⟩,
  ⟨0x6400, 0x06, .dac, .u16, 2, 0xD1, 0, 0, 900, [], 0⟩,
  ⟨0x6400, 0x07, .dac, .u16, 2, 0xF1, 0x4000, 0, 32767, [], 1⟩,
  ⟨0x6401, 0x01, .dac, .u32, 4, 0xD1, 0x100000, 65536, 16777215, [], 0⟩,
  ⟨0x6401, 0x02, .dac, .u8, 1, 0xD1, 20, 10, 80, [], 0⟩,
  ⟨0x6401, 0x03, .dac, .bool, 1, 0xD1, 0, 0, 1, [], 0⟩,
  ⟨0x6401, 0x04, .dac, .u32, 4, 0xD1, 0x100, 1, 16777215, [], 0⟩,
  ⟨0x6401, 0x05, .dac, .u16, 2, 0xD1, 64, 1, 65535, [], 0⟩,
  ⟨0x6402, 0x01, .dac, .s32, 4, 0x51, 0, -8388607, 8388607, [], 0⟩,
  ⟨0x6402, 0x02, .dac, .u8, 1, 0x51, 0, 0, 15, [], 0⟩,
  ⟨0x6402, 0x03, .dac, .bool, 1, 0xA0, 0, 1, 1, [], 8⟩,
  ⟨0x6402, 0x04, .dac, .u32, 4, 0x51, 0, 0, 4294967295, [], 0⟩,
  ⟨0x6402, 0x05, .dac, .u32, 4, 0x51, 0, 0, 4294967295, [], 0⟩,
  ⟨0x6402, 0x06, .dac, .u32, 4, 0x51, 0, 0, 4294967295, [], 0⟩,
  ⟨0x6402, 0x07, .dac, .f32, 4, 0x51, 0, -2139095040, 2139095040, [], 0⟩,
  ⟨0x6403, 0x01, .dac, .u16, 2, 0x51, 0xffff, 0, 65535, [(1024, 65534)], 0⟩,
  ⟨0x6403, 0x02, .dac, .u16, 2, 0x51, 0, 0, 2048, [], 0⟩,
  ⟨0x6403, 0x03, .dac, .f32, 4, 0x51, 0, -2139095040, 2139095040, [], 0⟩,
  ⟨0x6403, 0x04, .dac, .u16, 2, 0xD1, 10, 1, 1000, [], 0⟩,
  ⟨0x6480, 0x01, .group, .u16, 2, 0xD1, 0, 0, 65535, [], 0⟩,
  ⟨0x6480, 0x02, .group, .f32, 4, 0x55, 0, -2139095040, 2139095040, [], 0⟩,
  ⟨0x6480, 0x03, .group, .time96, 12, 0x55, 0, 0, 79228162514264337593543950335, [], 0⟩,
  ⟨0x6480, 0x04, .group, .u64, 8, 0x55, 0, 0, 18446744073709551615, [], 0⟩,
  ⟨0x6480, 0x05, .group, .u32, 4, 0x51, 0, 0, 4294967295, [], 0⟩,
  ⟨0x6490, 0x01, .wave, .octets, 1048576, 0xD1, 0, 0, 0, [], 0⟩,
  ⟨0x6490, 0x02, .wave, .u32, 4, 0xD1, 0, 0, 524288, [], 0⟩,
  ⟨0x6490, 0x03, .wave, .u8, 1, 0xD1, 0, 0, 1, [], 0⟩,
  ⟨0x6490, 0x04, .wave, .u16, 2, 0x51, 0, 0, 32, [], 0⟩,
  ⟨0x64A0, 0x01, .clockDie, .u8, 1, 0x51, 0, 0, 255, [], 0⟩,
  ⟨0x64A0, 0x03, .clockDie, .s32, 4, 0x51, 0, -2147483648, 2147483647, [], 0⟩]

/-- Rows of R387, part 1. -/
def rowsLane1 : List Row := [
  ⟨0x5000, 0x01, .lane, .bool, 1, 0xF1, 1, 0, 1, [], 0⟩,
  ⟨0x5000, 0x02, .lane, .u8, 1, 0x51, 0, 0, 255, [], 0⟩,
  ⟨0x5000, 0x03, .lane, .u8, 1, 0x55, 0, 0, 4, [], 0⟩,
  ⟨0x5000, 0x04, .lane, .u8, 1, 0x55, 0, 0, 4, [], 0⟩,
  ⟨0x5000, 0x05, .lane, .u8, 1, 0xD1, 0, 0, 1, [], 0⟩,
  ⟨0x5000, 0x06, .lane, .bool, 1, 0xD1, 1, 0, 1, [], 0⟩,
  ⟨0x5000, 0x07, .lane, .u8, 1, 0xF1, 0, 0, 1, [], 0⟩,
  ⟨0x5000, 0x08, .lane, .u32, 4, 0xF1, 0x3e8, 10, 1000000, [], 0⟩,
  ⟨0x5000, 0x09, .lane, .f32, 4, 0xD1, 0x3727c5ac, 841731191, 981668463, [], 0⟩,
  ⟨0x5001, 0x01, .lane, .octets, 6, 0x51, 0, 0, 0, [], 0⟩,
  ⟨0x5001, 0x02, .lane, .octets, 4, 0xD1, 0, 0, 0, [], 0⟩,
  ⟨0x5001, 0x03, .lane, .u8, 1, 0xD1, 24, 8, 30, [], 0⟩,
  ⟨0x5001, 0x04, .lane, .octets, 4, 0xD1, 0, 0, 0, [], 0⟩,
  ⟨0x5001, 0x05, .lane, .octets, 16, 0xD1, 0, 0, 0, [], 0⟩,
  ⟨0x5001, 0x06, .lane, .u8, 1, 0xD1, 64, 16, 127, [], 0⟩,
  ⟨0x5001, 0x07, .lane, .octets, 16, 0xD1, 0, 0, 0, [], 0⟩,
  ⟨0x5001, 0x08, .lane, .octets, 16, 0x51, 0, 0, 0, [], 0⟩,
  ⟨0x5001, 0x09, .lane, .u8, 1, 0xD1, 64, 1, 255, [], 0⟩,
  ⟨0x5001, 0x0A, .lane, .u8, 1, 0xD1, 0, 0, 63, [], 0⟩,
  ⟨0x5002, 0x01, .lane, .octets, 16, 0xF1, 0, 0, 0, [], 0⟩,
  ⟨0x5002, 0x02, .lane, .u16, 2, 0xF1, 0xb7a9, 1024, 65535, [], 0⟩,
  ⟨0x5002, 0x03, .lane, .u16, 2, 0xD1, 0xc000, 1024, 65472, [], 0⟩,
  ⟨0x5002, 0x04, .lane, .octets, 6, 0xF1, 0, 0, 0, [], 0⟩,
  ⟨0x5002, 0x05, .lane, .u8, 1, 0x51, 0, 0, 4, [], 0⟩,
  ⟨0x5002, 0x06, .lane, .octets, 6, 0x51, 0, 0, 0, [], 0⟩,
  ⟨0x5003, 0x01, .lane, .f32, 4, 0x51, 0, -2139095040, 2139095040, [], 0⟩,
  ⟨0x5003, 0x02, .lane, .f32, 4, 0x51, 0, -2139095040, 2139095040, [], 0⟩,
  ⟨0x5003, 0x03, .lane, .u16, 2, 0x51, 0, 0, 1024, [], 0⟩,
  ⟨0x5003, 0x04, .lane, .u8, 1, 0x51, 0, 0, 64, [], 0⟩,
  ⟨0x5003, 0x05, .lane, .u8, 1, 0x51, 0, 0, 3, [], 0⟩,
  ⟨0x5003, 0x06, .lane, .u32, 4, 0x51, 0, 0, 4294967295, [], 0⟩,
  ⟨0x5004, 0x01, .lane, .u64, 8, 0x51, 0, 0, 18446744073709551615, [], 0⟩,
  ⟨0x5004, 0x02, .lane, .u64, 8, 0x51, 0, 0, 18446744073709551615, [], 0⟩,
  ⟨0x5004, 0x03, .lane, .u64, 8, 0x51, 0, 0, 18446744073709551615, [], 0⟩,
  ⟨0x5004, 0x04, .lane, .u64, 8, 0x51, 0, 0, 18446744073709551615, [], 0⟩,
  ⟨0x5004, 0x05, .lane, .u32, 4, 0x51, 0, 0, 4294967295, [], 0⟩,
  ⟨0x5004, 0x06, .lane, .u32, 4, 0x51, 0, 0, 4294967295, [], 0⟩,
  ⟨0x5004, 0x07, .lane, .u32, 4, 0x51, 0, 0, 4294967295, [], 0⟩,
  ⟨0x5004, 0x08, .lane, .u64, 8, 0x51, 0, 0, 18446744073709551615, [], 0⟩,
  ⟨0x5004, 0x09, .lane, .u64, 8, 0x51, 0, 0, 18446744073709551615, [], 0⟩]

/-- Rows of R387, part 2. -/
def rowsLane2 : List Row := [
  ⟨0x5004, 0x0A, .lane, .u32, 4, 0x51, 0, 0, 4294967295, [], 0⟩,
  ⟨0x5004, 0x0B, .lane, .f32, 4, 0x51, 0, -2139095040, 2139095040, [], 0⟩,
  ⟨0x5004, 0x0C, .lane, .u32, 4, 0x51, 0, 0, 4294967295, [], 0⟩,
  ⟨0x5004, 0x0D, .lane, .u32, 4, 0x51, 0, 0, 4294967295, [], 0⟩,
  ⟨0x5004, 0x0E, .lane, .u32, 4, 0x51, 0, 0, 4294967295, [], 0⟩,
  ⟨0x5004, 0x0F, .lane, .bool, 1, 0xA0, 0, 1, 1, [], 8⟩]

/-- The rows of R387. -/
def rowsLane : List Row := rowsLane1 ++ rowsLane2

/-- The rows of R402. -/
def rowsPins : List Row := [
  ⟨0x6800, 0x01, .pin, .u16, 2, 0xD1, 0, 0, 65535, [], 0⟩,
  ⟨0x6800, 0x02, .pin, .u8, 1, 0xF1, 0, 0, 21, [(6, 7), (14, 15)], 0⟩,
  ⟨0x6800, 0x03, .pin, .u8, 1, 0xD1, 0, 0, 255, [], 0⟩,
  ⟨0x6800, 0x04, .pin, .u8, 1, 0x51, 1, 0, 5, [], 0⟩,
  ⟨0x6800, 0x05, .pin, .u16, 2, 0x51, 0xffff, 0, 65535, [], 0⟩,
  ⟨0x6800, 0x06, .pin, .u32, 4, 0x51, 0, 0, 4294967295, [], 0⟩,
  ⟨0x6800, 0x07, .pin, .u32, 4, 0x51, 0, 0, 4294967295, [], 0⟩,
  ⟨0x6860, 0x01, .bank, .u16, 2, 0x51, 0, 0, 3300, [(1, 1799), (1801, 2499), (2501, 3299)], 0⟩,
  ⟨0x6860, 0x02, .bank, .u16, 2, 0xF1, 0, 0, 65535, [], 0⟩,
  ⟨0x6860, 0x03, .bank, .u32, 4, 0xA0, 0, 0, 4294967295, [], 8⟩,
  ⟨0x6860, 0x04, .bank, .u16, 2, 0x55, 0, 0, 65535, [], 0⟩,
  ⟨0x6860, 0x05, .bank, .bool, 1, 0x51, 0, 0, 1, [], 0⟩,
  ⟨0x6870, 0x01, .single, .u8, 1, 0x51, 0, 0, 15, [], 0⟩,
  ⟨0x6870, 0x02, .single, .bool, 1, 0x55, 0, 1, 1, [], 0⟩,
  ⟨0x6900, 0x01, .pattern, .u8, 1, 0xF1, 0, 0, 5, [], 0⟩,
  ⟨0x6900, 0x02, .pattern, .u16, 2, 0xF1, 0, 0, 65535, [], 0⟩,
  ⟨0x6900, 0x03, .pattern, .u16, 2, 0xF1, 0, 0, 65535, [], 0⟩,
  ⟨0x6900, 0x04, .pattern, .u8, 1, 0xF1, 0, 0, 4, [], 0⟩,
  ⟨0x6900, 0x05, .pattern, .u8, 1, 0xF1, 0, 0, 255, [], 0⟩,
  ⟨0x6900, 0x06, .pattern, .bool, 1, 0x51, 0, 0, 1, [], 0⟩,
  ⟨0x6900, 0x07, .pattern, .u32, 4, 0x51, 0, 0, 4294967295, [], 0⟩,
  ⟨0x6900, 0x08, .pattern, .u16, 2, 0x51, 0, 0, 65535, [], 0⟩]

/-- The rows of R411. -/
def rowsEvents : List Row := [
  ⟨0x7000, 0x01, .event, .bool, 1, 0x51, 0, 0, 1, [], 0⟩,
  ⟨0x7000, 0x02, .event, .bool, 1, 0xF1, 1, 0, 1, [], 0⟩,
  ⟨0x7000, 0x03, .event, .u8, 1, 0xF1, 0, 0, 1, [], 0⟩,
  ⟨0x7000, 0x04, .event, .u8, 1, 0xF1, 0, 0, 3, [], 0⟩,
  ⟨0x7000, 0x05, .event, .u32, 4, 0x51, 0, 0, 4294967295, [], 0⟩,
  ⟨0x7000, 0x06, .event, .u8, 1, 0xF1, 255, 0, 255, [(16, 254)], 0⟩,
  ⟨0x7000, 0x07, .event, .u32, 4, 0xA0, 0, 0, 4294967295, [], 8⟩,
  ⟨0x7000, 0x08, .event, .time96, 12, 0x51, 0, 0, 79228162514264337593543950335, [], 0⟩,
  ⟨0x7000, 0x09, .event, .u32, 4, 0x51, 0, 0, 4294967295, [], 0⟩]

/-- The rows that can hold an index (the index range map, R43). -/
def rowsAt (index : Nat) : List Row :=
  if index < 0x3000 then
    if index < 0x1400 then
      if index < 0x0100 then rowsLayout
      else if index < 0x1000 then []
      else if index < 0x1100 then rowsDevice
      else if index < 0x1200 then rowsPorts
      else if index < 0x1300 then rowsVersions
      else []
    else if index < 0x1800 then
      if index < 0x1500 then rowsTime
      else if index < 0x1580 then rowsEncoder
      else if index < 0x1600 then rowsPitch
      else if index < 0x1700 then rowsRally
      else []
    else
      if index < 0x1900 then rowsBoard
      else if index < 0x2000 then []
      else if index < 0x2100 then rowsPlacer
      else if index < 0x2800 then rowsGraph
      else []
  else if index < 0x5800 then
    if index < 0x4000 then (if index % 16 < 8 then rowsTileA else rowsTileB)
    else if index < 0x4400 then rowsContext
    else if index < 0x4800 then []
    else if index < 0x4900 then rowsEngine
    else if index < 0x5000 then []
    else if index < 0x5400 then rowsLane
    else []
  else if index < 0x6400 then
    if index < 0x5900 then rowsStore
    else if index < 0x5A00 then rowsArb
    else if index < 0x6000 then []
    else if index < 0x6080 then rowsFabric
    else if index < 0x6100 then rowsScrub
    else if index < 0x6200 then rowsBackstop
    else []
  else
    if index < 0x6500 then rowsDac
    else if index < 0x6800 then []
    else if index < 0x6A00 then rowsPins
    else if index < 0x7000 then []
    else if index < 0x7300 then rowsEvents
    else if index < 0x7800 then []
    else if index < 0x7900 then rowsCal
    else if index < 0x7C00 then []
    else if index < 0x7D00 then rowsProbe
    else []

/-- The row, unit and inner number that an index and a subindex name. -/
def locate (index sub : Nat) : Option Loc := locateIn index sub (rowsAt index)

/-- The row that a key names. -/
def locateKey (k : Nat) : Option Loc := locate (k / 256) (k % 256)

/-- The highest subindex defined at an index in a list of rows (R42). -/
def highestIn (index : Nat) : List Row → Nat
  | [] => 0
  | r :: rs =>
    let p := r.form.spread
    let top := r.sub + p.sstride * (p.scount - 1)
    let here := if (r.place index r.sub).isSome then top else 0
    max here (highestIn index rs)

/-- The value of subindex 0x00 of an index; 0 where the index is not defined (R42). -/
def highestSub (index : Nat) : Nat := highestIn index (rowsAt index)

/-- The default that the tables give a key, where it does not depend on the variant or the unit (R47). -/
def tableDefault (k : Nat) : Nat := match locateKey k with
  | some l => l.row.dflt
  | none => 0

end Sys2Proof.Machine
end

