-- ==== Sys2Proof/Machine/Sparse.lean ====
section
/-! DEFINITION. Sparse maps as lists of key and value in one canonical form: keys strictly rising and no entry equal to
what an unlisted key reads as. The object dictionary, the Store's bytes and the tables of per-unit state are such maps. -/

namespace Sys2Proof.Machine

/-- The entry of a key, if one is listed. -/
def Sp.find {α : Type} : List (Nat × α) → Nat → Option α
  | [], _ => none
  | (k, v) :: m, q => if k = q then some v else Sp.find m q

/-- What a key reads as: its entry, or the default of the key. -/
def Sp.get {α : Type} (dflt : Nat → α) (m : List (Nat × α)) (q : Nat) : α := (Sp.find m q).getD (dflt q)

/-- The map without a key. -/
def Sp.erase {α : Type} : List (Nat × α) → Nat → List (Nat × α)
  | [], _ => []
  | (k, v) :: m, q => if k = q then Sp.erase m q else (k, v) :: Sp.erase m q

/-- The map with an entry put in its place. -/
def Sp.insert {α : Type} : List (Nat × α) → Nat → α → List (Nat × α)
  | [], q, x => [(q, x)]
  | (k, v) :: m, q, x => if q < k then (q, x) :: (k, v) :: m else if k = q then (q, x) :: m else (k, v) :: Sp.insert m q x

/-- Write a key: an entry equal to the default is not listed. -/
def Sp.put {α : Type} [DecidableEq α] (dflt : Nat → α) (m : List (Nat × α)) (q : Nat) (x : α) : List (Nat × α) :=
  if x = dflt q then Sp.erase m q else Sp.insert m q x

/-- The map with the keys from `a` to `a + n` replaced by the values of a list, those equal to the default not listed. -/
def Sp.splice {α : Type} [DecidableEq α] (dflt : Nat → α) (m : List (Nat × α)) (a n : Nat) (xs : List α) : List (Nat × α) :=
  m.filter (fun e => e.1 < a) ++
    ((((List.range (xs.take n).length).map (a + ·)).zip (xs.take n)).filter (fun e => decide (e.2 ≠ dflt e.1))) ++
    m.filter (fun e => a + n ≤ e.1)

/-- Keys strictly rising. -/
def Sp.rising {α : Type} : List (Nat × α) → Bool
  | [] => true
  | [_] => true
  | (a, _) :: (b, y) :: m => decide (a < b) && Sp.rising ((b, y) :: m)

/-- The canonical form of a sparse map. -/
def Sp.wf {α : Type} [DecidableEq α] (dflt : Nat → α) (m : List (Nat × α)) : Bool :=
  Sp.rising m && m.all (fun e => decide (e.2 ≠ dflt e.1))

end Sys2Proof.Machine
end

