-- ==== Sys2Proof/Machine/Types.lean ====
section
/-! DEFINITION. The structures that State is made of: ports and transfers, boot, modes, and the state of each unit that no
dictionary object shows. -/

namespace Sys2Proof.Machine

/-- The last-writer record of an entry (R58): class code (0 none), port, time, count. -/
structure Writer where
  cls : Nat
  port : Nat
  time : Nat
  count : Nat
  deriving DecidableEq, Repr

/-- An answer kept for a repeated UDP request (R63). -/
structure CachedReply where
  src : Nat
  seq : Nat
  op : Nat
  index : Nat
  sub : Nat
  time : Nat
  bytes : List Byte
  deriving DecidableEq, Repr

/-- What a port holds: responses not yet read, queued notifications, the sticky status bits (R55, R57), the duplicate cache (R63),
the order in which what is queued came (true for a response; R56), and the instants of the last 10 ms at which a response was
read (R57, R64). -/
structure PortState where
  responses : List (List Byte)
  notices : List (List Byte)
  crcErr : Bool
  ovf : Bool
  reject : Bool
  cache : List CachedReply
  order : List Bool
  taken : List Nat
  deriving DecidableEq, Repr

def PortState.idle : PortState := ⟨[], [], false, false, false, [], [], []⟩

/-- A request that has left the queue of the access point (R64): its port, when it came and when it was carried out. -/
structure Served where
  port : Nat
  came : Nat
  left : Nat
  deriving DecidableEq, Repr

/-- An open block transfer (R65 to R67). `waiting` marks a close whose programming still runs (R61); `arrived` is the TIME96 of its
arrival in 2^-16 ns (R72). -/
structure Transfer where
  id : Nat
  port : Nat
  src : Nat
  seq : Nat
  obj : Nat
  writing : Bool
  segment : Nat
  total : Nat
  crc : Nat
  data : List Byte
  next : Nat
  last : Nat
  waiting : Bool
  arrived : Nat
  deriving DecidableEq, Repr

/-- A subscription (R68, R69): node or object, lease end in device clock units (0: none), sequence, changes coalesced; the transfer
whose held answer must leave before its notice (R62). -/
structure Subscription where
  id : Nat
  port : Nat
  src : Nat
  isNode : Bool
  target : Nat
  onChange : Bool
  periodic : Bool
  interval : Nat
  lease : Nat
  leaseEnd : Nat
  seq : Nat
  coalesced : Nat
  dirty : Bool
  lastSent : Option Nat
  changeTime : Nat
  behind : Option Nat
  deriving DecidableEq, Repr

/-- A replay outstanding (R70, R71): lines still to send, the next one with the bytes of it sent, packets so far. -/
structure Replay where
  id : Nat
  ctx : Nat
  lane : Nat
  next : Nat
  off : Nat
  seq : Nat
  left : Nat
  sent : Nat
  skipped : Nat
  port : Nat
  src : Nat
  deriving DecidableEq, Repr

/-- What leaves the device's pins while a command is carried out (DESIGN CHOICE, log entry 10). -/
inductive Emission where
  /-- An Umzin message, to a UDP source or shifted out on a slave port. -/
  | message (port dest : Nat) (bytes : List Byte)
  /-- The status byte of a slave port (R55). -/
  | status (port value : Nat)
  /-- The register LEVELS of the parallel port (R56). -/
  | levels (value : Nat)
  /-- A stream packet on a lane, from its Ethernet header to its last sample (R379). -/
  | packet (lane : Nat) (bytes : List Byte)
  /-- A STREAM fragment on a lane (R196). -/
  | stream (lane header : Nat) (f : Peer)
  /-- A Rally fragment on a lane: header and payload (R180). -/
  | fragment (lane header : Nat) (payload : List Byte)
  /-- A CONTROL message on a lane (R181). -/
  | control (lane header : Nat) (c : Control)
  /-- Another Ethernet frame on a port: what it is and for which address. -/
  | frame (port kind addr : Nat) (bytes : List Byte)
  deriving DecidableEq, Repr

/-- A change of an event source as its record in a notice gives it (R407). -/
structure EventChange where
  source : Nat
  cleared : Bool
  severity : Nat
  count : Nat
  detail : Nat
  flags : Nat
  time : Nat
  ord : Nat
  deriving DecidableEq, Repr

/-- A boot flash slot (R39, R41): the header is valid or erased; word and image as stored; whether the image's CRC-32
holds; the tested list, majors, Rally range and Placer version the image carries (DESIGN CHOICE, log entry 4). -/
structure Slot where
  headerValid : Bool
  word : Nat
  crcGood : Bool
  image : List Byte
  combos : List (List Nat)
  majors : Nat
  rallyMin : Nat
  rallyMax : Nat
  algorithm : Nat
  deriving DecidableEq, Repr

def Slot.erased : Slot := ⟨false, 0, false, [], [], 0, 0, 0, 0⟩

/-- Where the boot ROM stands (R39, R80). -/
inductive BootStep where
  | held | headers | image | confirming | done | rescue
  deriving DecidableEq, Repr

/-- Boot progress: step, slot in hand, whether it is the other slot, instant of POR_N release or reset, whether steps 1 and 2 of R80
have ended, whether the DEBUG strap is not sampled again (R102). -/
structure Boot where
  step : BootStep
  slot : Nat
  fallback : Bool
  start : Nat
  live : Bool
  trained : Bool
  warm : Bool
  deriving DecidableEq, Repr

/-- The mode transition in progress (R77, R78, R84, R87, R90 to R92). -/
inductive Motion where
  | none
  | prepare
  | toRun
  | toHold
  | drain
  | shutdown
  | wake
  deriving DecidableEq, Repr

/-- Details of a transition: its kind; the mode it began in; a mode that a request made PREPARE abort to (0xFF none; R78); whether R85's repeat has been used; whether step 6 still waits for a first TIME exchange (R185) and whether
the align limit has passed (R86); cause and encoder of the HOLD to come (R88); `device.standby.shadow` as STANDBY was entered
(R92); whether the placement of step 2 keeps the frozen rings (R97); the instant of the request or of the step's begin. -/
structure Transition where
  motion : Motion
  origin : Nat
  abortTo : Nat
  repeated : Bool
  linkWait : Bool
  alignExpired : Bool
  holdCause : Nat
  holdEncoder : Nat
  shadow : Bool
  keep : Bool
  since : Nat
  deriving DecidableEq, Repr

def Transition.idle : Transition := ⟨.none, 2, 0xFF, false, false, false, 0, 0xFF, false, false, 0⟩

/-- A line record (R246). -/
structure LineRec where
  line : Nat
  stamp : Nat
  position : Nat
  fraction : Nat
  flags : Nat
  length : Nat
  gap : Nat
  deriving DecidableEq, Repr

def LineRec.zero : LineRec := ⟨0, 0, 0, 0, 0, 0, 0⟩

/-- What a ring's writer has ready for the Store switch, in order: a word of a context's line, or the end of a
line or block with its record, dropped when it lost words (R120), and, where the record's position waits for its entry in the track
(R167), the pitch generator and the instant of the device clock that it is for. -/
inductive Item where
  | word (ctx : Nat) (raw : Bool) (line width value : Nat)
  | mark (ctx : Nat) (raw : Bool) (rec : LineRec) (drop : Bool) (owed : Option (Nat × Nat))
  deriving DecidableEq, Repr

/-- The kinds of live reader of a ring (R248). -/
inductive ReaderKind where
  | slot | cell | lane | peer | dac
  deriving DecidableEq, Repr

/-- A live reader: kind, unit, next line it will read. -/
structure Reader where
  kind : ReaderKind
  unit : Nat
  next : Nat
  deriving DecidableEq, Repr

/-- A ring: its run of units, lines held, line bytes, base of its record ring, pseudo-channel mask (R245 to R251), the
policy of R248, the first line written, the line being written with the bytes of it moved so far, whether its first
transfer has moved, whether it is not written under a policy, whether the tail is due (R245), lines whose last transfer
still waits in a write queue, readers, and the newest 1,024 records (R246). -/
structure RingSt where
  base : Nat
  bytes : Nat
  lines : Nat
  lineBytes : Nat
  recBase : Nat
  mask : Nat
  policy : Nat
  first : Option Nat
  latest : Option Nat
  cur : Nat
  fill : Nat
  begun : Bool
  skip : Bool
  flush : Bool
  closing : List LineRec
  readers : List Reader
  recs : List LineRec
  deriving DecidableEq, Repr

def RingSt.none_ : RingSt := ⟨0, 0, 0, 0, 0, 0, 0, none, none, 0, 0, false, false, false, [], [], []⟩

/-- A write waiting in a pseudo-channel's write queue (R252): the line it belongs to, the address and the bytes. -/
structure WqEntry where
  ctx : Nat
  raw : Bool
  line : Nat
  addr : Nat
  bytes : List Byte
  ingest : Bool
  time : Nat
  deriving DecidableEq, Repr

/-- A write drain (R252): none, or in progress with its low watermark, and whether an empty read queue started it. -/
inductive Drain where
  | none
  | watermark (low : Nat)
  | idle
  deriving DecidableEq, Repr

/-- A pseudo-channel and its switch port: write queue, drain, refresh debt (R253), parity retries of the access in hand
(R263), grants since the count restarted, the last grant of each rank and the grants that each waiting request has waited (R273), transfers
in the present millisecond. -/
structure Pc where
  wq : List WqEntry
  drain : Drain
  debt : Nat
  retries : Nat
  grants : Nat
  last : List Nat
  waits : List (Nat × Nat)
  reads : Nat
  writes : Nat
  deriving DecidableEq, Repr

def Pc.idle : Pc := ⟨[], .none, 0, 0, 0, [47, 47, 47, 47], [], 0, 0⟩

/-- The line or block that a context is writing: its number, stamp, position and fraction (R173, R174), the instant it
began, the words it has taken, whether it is discarded (R124, R236), and the flags its inputs carried (R196, R227). -/
structure Cur where
  line : Nat
  stamp : Nat
  position : Nat
  fraction : Nat
  start : Nat
  words : Nat
  stale : Bool
  swapped : Bool
  gap : Nat
  empty : Bool
  lossy : Bool
  inFlags : Nat
  deriving DecidableEq, Repr

/-- What the record of a stream context does not show (R225 to R237): its output ring (the raw ring of a tile context
without a chain) and, with a chain, its raw ring; the words ready for the output ring from a slot, a piece or a peer
lane; the line in progress; the next block number; empty lines so far; a loss, a recovery or a failure that waits for
the next boundary (cause codes, 0 none); a loss met in HOLD or SAFE; lines still to be marked SWAPPED; whether the ring
freezes at the next boundary; whether lines are STALE; the last line ready that was neither STALE nor empty, and what the line
in progress holds so far, newest byte first (R10); the tiles that served the lines below a number, in order (R380). -/
structure Ctx where
  out : RingSt
  raw : RingSt
  outQ : List Item
  cur : Option Cur
  block : Nat
  empties : Nat
  lossDue : Nat
  failDue : Nat
  recover : Bool
  lostSrc : Nat
  swapped : Nat
  freeze : Bool
  stale : Bool
  lastGood : List Byte
  filling : List Byte
  served : List (Nat × Nat)
  deriving DecidableEq, Repr

def Ctx.none_ : Ctx := ⟨.none_, .none_, [], none, 0, 0, 0, 0, false, 0, 0, false, false, [], [], []⟩

/-- A calibration of a tile (R336, R343): kind (1 INTERNAL, 2 DARK, 3 FLAT, 0 none), what it serves (0 a command, 1
PREPARE, 2 a substitution), its step (0 QUEUED, 1 waiting for the boundary of step 3, 2 in run 1, 3 in run 2), what run 1
measured; of a scene run the sum and the number of words by entry in run 1 and in the run in hand, and the lines that each context has
given to it; whether the tile faulted or the scene was not ready. -/
structure Cal where
  kind : Nat
  purpose : Nat
  step : Nat
  first : Option CalRun
  run1 : List (Nat × Int × Nat)
  sums : List (Nat × Int × Nat)
  lines : List (Nat × Nat)
  spoiled : Bool
  deriving DecidableEq, Repr

def Cal.none_ : Cal := ⟨0, 0, 0, none, [], [], [], false⟩

/-- A ramp of R340: whether it runs, the instant of its first word, the lines that each context has written in it, and the contexts
whose line in progress comes before it. -/
structure Ramp where
  on : Bool
  start : Option Nat
  lines : List (Nat × Nat)
  waits : List Nat
  deriving DecidableEq, Repr

def Ramp.none_ : Ramp := ⟨false, none, [], []⟩

/-- A tile's hidden state: ingest buffer (R120); count, sum and sum of squares of the black pixels of the line, and of the last 64
lines (R115, R148), clamp offset in 2^-16 of a
14-bit LSB (R115); pixels or words taken since the trigger or block began; the latest line of each context counted by over and clip,
and whether their sources were raised since the last read (R128, R141); selectors held at ISOLATE, by half after a contention, bit 2 by a reload (R124, R317); scan slot and samples since its start (R130);
calibration; D_ana of each half as last measured in 2^-16 ns; the corrections before and after the ramp of R340, and that ramp;
whether a line was written since placement (R341); N_meas and temperature (K × 1,000) at calibration and refreshes in a
row above the alarms (R148 to R151); interleave words, quiet words, temperature at the last update and calibrated values
(R145); instants of contention on the pad's bus (R125); the mode, capacitance and divider of the passing calibration (R139); the scene
table that a scene ramp leaves, and that ramp (R345). -/
structure Tile where
  buf : List Item
  black : Int
  blackN : Nat
  blackSq : Nat
  blackLines : List (Nat × Int × Nat)
  clamp : Int
  taken : Nat
  overLines : List (Nat × Nat)
  clipLines : List (Nat × Nat)
  overTold : Bool
  clipTold : Bool
  slot : Nat
  pos : Nat
  cal : Cal
  danaNew : List Int
  corr : Option (CalRun × CalRun)
  calRamp : Ramp
  wrote : Bool
  nCal : Nat
  tCal : Nat
  jAp : Nat
  noiseBad : Nat
  jitterBad : Nat
  ilvWords : Nat
  ilvQuiet : Nat
  ilvTemp : Int
  ilvCal : Int × Nat × Int
  contended : List Nat
  isolated : Nat
  calFor : Nat × Nat × Nat
  sceneOld : Option (List Byte)
  sceneRamp : Ramp
  deriving DecidableEq, Repr

def Tile.none_ : Tile :=
  ⟨[], 0, 0, 0, [], 0, 0, [], [], false, false, 0, 0, .none_, [], none, .none_, false, 0, 0, 0, 0, 0, 0, 0, 0, (0, 0, 0), [], 0, (0, 0, 0),
   none, .none_⟩

/-- A window monitor's hidden state: the latest event of its blanking source (R349), the resolved state that its pool input keeps for
an unresolved substitute (R354), its decisions, newest first (R348), and the writes that take effect later: from which instant, the
subindex, the value before (R353). -/
structure Mon where
  blankAt : Option Nat
  kept : Option Bool
  past : List Bool
  writes : List (Nat × Nat × Nat)
  deriving DecidableEq, Repr

def Mon.none_ : Mon := ⟨none, none, [], []⟩

/-- A chain slot's hidden state (R198 to R215): input words since the restart; whether the next word restarts; delay line of
each stage (I and Q, newest first); newest raw words and newest mixed words; input steps as first input and settling
words (R208); NCO phase; raw line and word in it that the slot reads next; outputs of the derived line, its marks and the
place in the raw line of the newest input of its first output, and whether that is a coarse value; the line from which a
staged change applies (R212); steps that begin with a word not yet read: its line, its place there, settling words; staged values captured at a boundary: the line from
which each applies, the object, the value (R212, R213). Raw words in `past` stand with their sample numbers (R201). -/
structure Chain where
  count : Nat
  restart : Bool
  stages : List (List (Int × Int))
  past : List (Int × Int)
  mixed : List (Int × Int)
  steps : List (Nat × Nat)
  phase : Nat
  line : Option Nat
  off : Nat
  outs : Nat
  marks : Nat
  firstAt : Option Nat
  coarseFirst : Bool
  changeAt : Option Nat
  stepsDue : List (Nat × Nat × Nat)
  loads : List (Nat × Nat × Nat)
  deriving DecidableEq, Repr

def Chain.none_ : Chain := ⟨0, true, [], [], [], [], 0, none, 0, 0, 0, none, false, none, [], []⟩

/-- An encoder's hidden state (R161 to R167): levels of A and B; whether the next Z edge references; edges with their
instants, newest first, and the place where the encoder started; the newest 64 edges since the start, with the counts moved since then
(R169); position at the start of the 1 ms window, counts moved in it, whether it saw a SIGNAL condition;
whether a first rate is known; windows in a row without RANGE, without SIGNAL and passing the rate check; the instant it
stopped; whether the next Z edge after a wake with INDEX references; the position before a reference load (R165). -/
structure Enc where
  a : Bool
  b : Bool
  armed : Bool
  edges : List (Nat × Int)
  recent : List (Nat × Int)
  moved : Int
  signal : Bool
  rated : Bool
  calm : Nat
  quiet : Nat
  passing : Nat
  stopped : Option Nat
  index : Bool
  jumped : Option Int
  deriving DecidableEq, Repr

def Enc.none_ : Enc := ⟨false, false, true, [], [], 0, false, false, 0, 0, 0, none, false, none⟩

/-- A line announced for a shared generator (R187, R189): its number, target and fraction, the instant of the device clock at
which it is issued, whether it came too late. -/
structure Due where
  line : Nat
  target : Nat
  fraction : Nat
  at_ : Nat
  late : Bool
  deriving DecidableEq, Repr

/-- A pitch generator's hidden state (R168 to R171): counts moved since ON in 2^-16, next targets above and below, the instant at which
the next trigger comes, and whether it is late (R169, R170), instant of the latest trigger, whether a trigger was issued since ON, triggers whose crossing has not yet been seen, squared errors
of the last triggers in (2^-16 ns)²; for a shared generator (R187 to R190) the lines announced and not yet issued, the latest
announced line, the instant of the latest heartbeat heard, whether this backup has taken over, and the newest TRACK
fragments: TIME96 of the first entry in 2^-16 ns, entries in 2^-16 counts. -/
structure Pitch where
  moved : Int
  up : Int
  down : Int
  aim : Option (Nat × Bool)
  lastAt : Option Nat
  begun : Bool
  watch : List (Int × Nat)
  errors : List Nat
  due : List Due
  announced : Option Nat
  heard : Nat
  took : Bool
  replica : List (Nat × List Int)
  deriving DecidableEq, Repr

def Pitch.none_ : Pitch := ⟨0, 0, 0, none, none, false, [], [], [], none, 0, false, []⟩

/-- A coarse value that a slot has sent to the port cells (R215): context, output index, I and Q. -/
structure Coarse where
  ctx : Nat
  index : Nat
  i : Int
  q : Int
  deriving DecidableEq, Repr

/-- A fragment that waits for a fragment boundary (R180, R181): type, whether it is the first and the last of its message, hops travelled,
channel, payload, or the message of a CONTROL fragment. -/
structure Waiting where
  type : Nat
  first : Bool
  last : Bool
  hop : Nat
  channel : Nat
  payload : List Byte
  control : Option Control
  deriving DecidableEq, Repr

/-- What a lane in Rally role keeps (R180, R182, R183): the peer's latest t_tx and when it arrived in 2^-16 ns of TIME96, the hops
to the lead and the lead that the peer reported, next sequence number of each type from WHISTLE to STREAM; next run of 32 track entries to send by shared generator; whether a
fragment is in flight, and those that wait for a fragment boundary (R181). -/
structure RallyLane where
  peerTx : Nat
  arrival : Nat
  hops : Nat
  lead : Nat
  seqs : List Nat
  tracks : List (Nat × Nat)
  busy : Bool
  waiting : List Waiting
  deriving DecidableEq, Repr

def RallyLane.none_ : RallyLane := ⟨0, 0, 15, 0xFF, [0, 0, 0, 0, 0, 0, 0], [], false, []⟩

/-- The formation as this member knows it (R177 to R194): the members reachable, the offers collected, whistles seen with their
instants, the next whistle number, exchanges of the alignment count with the sum and the sum of squares of their offsets in
ps, the same over the present second with its start, lanes; whether the version was announced since LINKING began (R186); the sum of the
timing loop in ps × 2^-16 ns and the instant of its latest exchange (R183). -/
structure Rally where
  members : List RallyMember
  offers : List (Nat × List (Nat × Nat))
  seen : List (Nat × Nat × Nat)
  number : Nat
  runs : Nat
  sum : Int
  squares : Nat
  secRuns : Nat
  secSum : Int
  secSquares : Nat
  secStart : Nat
  lanes : List (Nat × RallyLane)
  agreed : Bool
  loopSum : Int
  loopAt : Option Nat
  deriving DecidableEq, Repr

def Rally.none_ : Rally := ⟨[], [], [], 0, 0, 0, 0, 0, 0, 0, 0, [], false, 0, none⟩

/-- The rings of a context in a placement (R231, R246, R250, R251): its output ring and, with a chain, its raw ring. -/
structure RingPlan where
  ctx : Nat
  mask : Nat
  base : Nat
  bytes : Nat
  recBase : Nat
  lines : Nat
  lineBytes : Nat
  rawBase : Nat
  rawBytes : Nat
  rawRec : Nat
  rawLines : Nat
  rawLineBytes : Nat
  deriving DecidableEq, Repr

/-- A placement (R228): contexts with tile and half, quadrant clocks in Hz as fractions, dividers by tile, contexts with their
engine slots, pieces with sector, clusters and first port cell, grids by generator, rings, live and replay lanes by
context, loads by engine and committed rates by lane as binary32 bits, powered quadrants, Store traffic in GB/s as
binary32 bits, bytes of ring space, mapping scheme (R244). -/
structure Plan where
  tiles : List (Nat × Nat × Nat)
  fq : List (Nat × Nat × Nat)
  divs : List (Nat × Nat)
  slots : List (Nat × Nat)
  pieces : List (Nat × Nat × List Nat × Nat)
  grids : List (Nat × Nat × Nat)
  rings : List RingPlan
  lanes : List (Nat × Nat)
  replay : List (Nat × Nat)
  loads : List (Nat × Nat)
  committed : List (Nat × Nat)
  quads : Nat
  bw : Nat
  bytes : Nat
  scheme : Nat
  deriving DecidableEq, Repr

def Plan.none_ : Plan := ⟨[], [], [], [], [], [], [], [], [], [], [], 0, 0, 0, 1⟩

/-- Why a placement or a trial ends (R230): abort code, reason, class and unit of the resource, the two nodes. -/
structure Conflict where
  code : Nat
  reason : Nat
  cls : Nat
  unit : Nat
  first : Nat
  second : Nat
  deriving DecidableEq, Repr

/-- An entry of the defect list (R226): class, unit, cause, successor. -/
structure Defect where
  cls : Nat
  unit : Nat
  cause : Nat
  succ : Nat
  deriving DecidableEq, Repr

/-- A substitution in progress (R233): the tile it replaces (the even one of a pair), the substitute (0xFFFF while none is
chosen), its step (0 waits at step 2, then 2 to 8 as in R233), attempts begun, the instant of the failure, the tile asked
for by `ctx.swap` (0xFFFF none). -/
structure Swap where
  old : Nat
  spare : Nat
  step : Nat
  tries : Nat
  start : Nat
  asked : Nat
  deriving DecidableEq, Repr

/-- A move of a piece (R235): the piece, its new clusters and first port cell, its step (0 waits for the sector, then 1 to 3),
whether it was restarted. -/
structure Move where
  piece : Nat
  clusters : List Nat
  ports : Nat
  step : Nat
  again : Bool
  deriving DecidableEq, Repr

/-- An input of a product term (R295): pool code, SYNC, inverted. -/
structure BsLit where
  code : Nat
  sync : Bool
  inv : Bool
  deriving DecidableEq, Repr

/-- A macrocell that an image uses (R295, R296, R300), with its terms written out. -/
structure BsCell where
  id : Nat
  terms : List (List BsLit)
  mode : Nat
  initial : Bool
  clock : Nat
  clkTerm : Option (List BsLit)
  rstTerm : Option (List BsLit)
  oeTerm : Option (List BsLit)
  deriving DecidableEq, Repr

/-- A pin record of an image (R299, R300). -/
structure BsPin where
  dflt : Nat
  safe : Nat
  cell : Nat
  keep : Bool
  deriving DecidableEq, Repr

/-- A bank of the Backstop's non-volatile array (R302): the image as written (empty for the one in place from the factory, log
entry 4), whether its CRC holds, its CRC and word, whether it was accepted as untested, and what it says. -/
structure Bank where
  bytes : List Byte
  good : Bool
  crc : Nat
  word : Nat
  untested : Bool
  cells : List BsCell
  pins : List (Nat × BsPin)
  whistles : List Nat
  deriving DecidableEq, Repr

/-- The image in place from the factory: every pin PULL_DOWN, no macrocell (DESIGN CHOICE, log entry 4). -/
def Bank.factory : Bank := ⟨[], true, 0x4A15AF4C, 0x04010000, false, [], [], [0xFF, 0xFF, 0xFF, 0xFF]⟩

def Bank.erased : Bank := ⟨[], false, 0, 0, false, [], [], [0xFF, 0xFF, 0xFF, 0xFF]⟩

/-- The Backstop array (R295 to R303): banks; whether the macrocells are loaded; whether the latest load
found no sound bank (R81); macrocell outputs, and those whose rise no whistle has answered (R297); the flip-flop pairs of the
inputs with SYNC by pool code; levels of the clock terms by macrocell; instants of the latest whistle of each output. -/
structure Array256 where
  banks : List Bank
  live : Bool
  dead : Bool
  out : Nat
  rose : Nat
  sync : List (Nat × Nat)
  clk : Nat
  whistled : List (Option Nat)
  deriving DecidableEq, Repr

def Array256.reset : Array256 := ⟨[.factory, .factory], false, false, 0, 0, [], 0, [none, none, none, none]⟩

/-- Levels of the wires that fabric logic drives, 64, 16, 16, 32 and 32 of each sector. -/
structure Wires where
  backstop : Nat
  strobe : Nat
  blank : Nat
  pin : Nat
  enable : Nat
  deriving DecidableEq, Repr

def Wires.low : Wires := ⟨0, 0, 0, 0, 0⟩

/-- What a piece has of its inputs' open lines (R290, R292): the record of the first input's, the flags of each, by context the
READ cells' line and byte in it, the output contexts whose line is open, and the contexts whose coarse value has given its I word. -/
structure Fab where
  head : LineRec
  flags : List (Nat × Nat)
  reads : List (Nat × Nat × Nat)
  writes : List Nat
  iq : List Nat
  deriving DecidableEq, Repr

def Fab.none_ : Fab := ⟨.zero, [], [], [], []⟩

/-- A multiply-accumulate block (R283): its operand, product and sum registers, and the 48 bits it drives. -/
structure MacState where
  a : Int
  b : Int
  product : Int
  acc : Int
  out : Nat
  deriving DecidableEq, Repr

def MacState.none_ : MacState := ⟨0, 0, 0, 0, 0⟩

/-- The logic of a sector (R281 to R287): by cluster its 128 flip-flops (bit 2c + f) and the levels of its 352 sources; the 4,096 cluster
outputs; the 1,024 bridge wires that arrive; the 16 clock lines; by cluster the 36 Kbit of its block memory, by 2 × cluster + port the data
last read and the instant and places of the last write; multiply-accumulate blocks; by port cell the signals it shows (R290). -/
structure Net where
  ffs : List (Nat × Nat)
  sigs : List (Nat × Nat)
  outs : Nat
  bridge : Nat
  lines : Nat
  mems : List (Nat × Nat)
  reads : List (Nat × Nat)
  wrote : List (Nat × Nat × List Nat)
  macs : List (Nat × MacState)
  cells : List (Nat × Nat)
  deriving DecidableEq, Repr

def Net.none_ : Net := ⟨[], [], 0, 0, 0, [], [], [], [], []⟩
/-- A sector reload in progress (R317): its sector and its step, 1 to 8. -/
structure Reload where
  sector : Nat
  step : Nat
  deriving DecidableEq, Repr

/-- The scrubber (R320 to R327): segments held ALL_ESSENTIAL as 128 × sector + cluster; whether the placement table failed; whether
this pass is completed in ALL_ESSENTIAL; resets in this pass; the instant it began; findings, newest first. -/
structure Scrub where
  bad : List Nat
  table : Bool
  forced : Bool
  resets : Nat
  passStart : Nat
  log : List (List Byte)
  deriving DecidableEq, Repr

def Scrub.none_ : Scrub := ⟨[], false, false, 0, 0, []⟩
/-- A word in a feed buffer (R361, R362): the strobe for which it is due (waveforms), whether it is the first of a line or of a
wrap, its 24-bit code; `none` from a poisoned transfer. -/
structure FeedWord where
  due : Nat
  first : Bool
  code : Option Int
  deriving DecidableEq, Repr

/-- An output's hidden state (R361 to R369): feed buffer; whether it holds its waveform whole; due strobe or byte in the line of the
next transfer; whether a strobe in RUN has come since it went ON; the code that a hold keeps waiting; the slew limiter: where it stands, the
earliest instant of its next step, its target; the safe move in progress: code and instant at its start; a safe move that waits for a
hold; since when the stage limits current. -/
structure Dac where
  feed : List FeedWord
  whole : Bool
  next : Nat
  fed : Bool
  waiting : Option Int
  slew : Option (Int × Nat × Int)
  move : Option (Int × Nat)
  moveWaits : Bool
  limitAt : Option Nat
  deriving DecidableEq, Repr

def Dac.none_ : Dac := ⟨[], false, 0, false, none, none, none, false, none⟩

/-- A strobe group's hidden state (R359, R360): instant of the latest strobe; start of the window of `rate` and strobes in it; the
epoch; triggers or edges that have no strobe yet. -/
structure Strobe where
  last : Option Nat
  start : Nat
  seen : Nat
  epoch : Nat
  owed : Nat
  deriving DecidableEq, Repr

def Strobe.none_ : Strobe := ⟨none, 0, 0, 0, 0⟩

/-- A lane's hidden state (R372 to R385): whether fault ordered sets arrive; the instants a PAUSE in force began and ends; the instant the hold
in force began and whether FLOW told of it; the context last served; answers that a PAUSE holds; the latest INTEGRITY raise;
start of the window of `wire` and bytes in it. -/
structure Lane where
  faults : Bool
  paused : Option (Nat × Nat)
  held : Option Nat
  told : Bool
  served : Nat
  answers : List Emission
  integrity : Option Nat
  start : Nat
  sent : Nat
  deriving DecidableEq, Repr

def Lane.none_ : Lane := ⟨false, none, none, false, 1023, [], none, 0, 0⟩

/-- The live export of a context (R379 to R381): next sequence number, line in progress and bytes of it sent; the line from which it
leaves on another lane (R372). -/
structure Export where
  seq : Nat
  line : Nat
  off : Nat
  moveAt : Option (Nat × Nat)
  deriving DecidableEq, Repr

def Export.none_ : Export := ⟨0, 0, 0, none⟩

/-- What a pin is driven with: a level, nothing (with or without a pull), the signal of a pace wire or of a probe. -/
inductive Drive where
  | low | high | open_ | up | down
  | pace (i : Nat)
  | probe (m : Nat)
  deriving DecidableEq, Repr

/-- A pin's hidden state (R299, R395): step of its switch (0 none, 1 written, 2 latched, 3 the return of a reloaded sector), the
function that goes, what the pad latch holds, what it held at SAFE entry. -/
structure Pin where
  stage : Nat
  old : Nat
  latched : Drive
  safe : Drive
  deriving DecidableEq, Repr

def Pin.none_ : Pin := ⟨0, 0, .down, .down⟩

/-- A pattern unit's hidden state (R397, R398): the instant from which the present comparison counts, the comparison at the latest
evaluation, the masked inputs there. -/
structure Pat where
  since : Nat
  base : Bool
  seen : Nat
  deriving DecidableEq, Repr

def Pat.none_ : Pat := ⟨0, false, 0⟩

end Sys2Proof.Machine
end

