-- ==== Sys2Proof/Machine/State.lean ====
section
/-! DEFINITION. The state of the block as plain data, what stops it, and the state right after reset (POR_N low, step 0 of
R80). -/

namespace Sys2Proof.Machine

/-- What stops the machine. -/
inductive Fault where
  /-- Raised by the meanings of events that name a unit, port, source or step which the variant does not have (R1, R2):
  no such event can happen (DESIGN CHOICE, log entry 9). Safe: the machine stops where the hardware could not be. -/
  | noUnit
  deriving DecidableEq, Repr

/-- What the model refuses. -/
inductive Refusal where
  /-- A command without a meaning in this model, by mnemonic; raised by Dispatch alone. Safe: nothing can be proved of it. -/
  | notModelled (mnemonic : String)
  deriving DecidableEq, Repr

/-- The block's whole state. -/
structure State where
  /-- The variant (R1); no command writes it. -/
  variant : Variant
  /-- The device clock: instant of the latest command, in 2^-16 ns. -/
  clock : Nat
  /-- The TIME96 counter in 2^-16 ns (R158), and the part of the rate correction not yet a whole unit. -/
  time : Nat
  timeRem : Int
  /-- The object dictionary: values that differ from their defaults, by key (R42, R47). -/
  dict : List (Nat × Nat)
  /-- Staged objects with a pending value: the value still in force (R8, R48). -/
  inForce : List (Nat × Nat)
  /-- Objects held as bytes: TEXT and OCTETS over 1,024 bytes. -/
  blobs : List (Nat × List Byte)
  /-- Last-writer records (R58). -/
  writers : List (Nat × Writer)
  /-- What each port holds (R55, R57, R63). -/
  ports : List (Nat × PortState)
  /-- Open block transfers, and ids ended by silence with their ports (R65 to R67). -/
  transfers : List Transfer
  silenced : List (Nat × Nat × Nat)
  /-- Subscriptions and replays (R68, R70). -/
  subs : List Subscription
  replays : List Replay
  /-- Completion notices of replays that the present command ended, with port and destination: they leave after its answer (R62);
  always empty between commands. -/
  ended : List (Nat × Nat × List Byte)
  /-- Requests carried out in the last 10 ms, by which the number that waited at an instant is known (R64). -/
  served : List Served
  /-- The identity of this device among those that bear the same member id (R193). -/
  identity : Nat
  /-- An instant of an edge of each quadrant's clock, from which grids are counted (R155, R169). -/
  quadEdge : List (Nat × Nat)
  /-- The access trace, oldest record first (R72). -/
  trace : List (List Byte)
  /-- Latest change of each source since reset and the number of changes so far (R69, R407). -/
  evLast : List (Nat × EventChange)
  evOrd : Nat
  /-- Changes of sources and emissions of the latest command. -/
  changes : List EventChange
  emitted : List Emission
  /-- POR_N held low (R401), SAFE_N low for its qualifying time (R400), the DEBUG strap as sampled (R80). -/
  porLow : Bool
  safeLow : Bool
  strap : Bool
  /-- Boot flash (R39, R41), slot selected there, sequencer words of dies A0 and A1, boot progress. -/
  slotA : Slot
  slotB : Slot
  flashSelect : Nat
  seqWords : List Nat
  boot : Boot
  /-- The mode transition in progress; whether management firmware is silent (R93). -/
  trans : Transition
  /-- The transition that SAFE entry stopped, until the step that was in progress ends (R94). -/
  halted : Option Transition
  silent : Bool
  /-- The Store (R239 to R263): bytes that differ from zero, poisoned transfers, corrected errors of the last second by
  region, regions queued for retirement with their pseudo-channel, masks written for CUSTOM (DESIGN CHOICE, log entry 40),
  pseudo-channels. -/
  mem : List (Nat × Byte)
  poison : List (Nat × Bool)
  corrections : List (Nat × Nat)
  retireQ : List (Nat × Nat)
  customMasks : Nat
  pcs : List (Nat × Pc)
  /-- SAFE causes asked for within the present command, by bit (R93); always 0 between commands. -/
  safeAsk : Nat
  /-- Stream contexts (R225). -/
  ctxs : List (Nat × Ctx)
  /-- Tiles, window monitors (by 2n + i), chain slots (by 16n + s), encoders and pitch generators. -/
  tiles : List (Nat × Tile)
  mons : List (Nat × Mon)
  chains : List (Nat × Chain)
  encs : List (Nat × Enc)
  pitches : List (Nat × Pitch)
  /-- The slot that each engine serves next in its round, 0 where none is listed (R199). -/
  feTurn : List (Nat × Nat)
  /-- Coarse values queued at port cells, oldest first (R215, R292). -/
  coarse : List Coarse
  /-- Synchronisations in a row within 1 µs (R158); the instant REFCLK was lost (R156). -/
  lockRuns : Nat
  refLost : Nat
  /-- Untested items accepted and in force (R33): bit 0 the channel program, 1 and 2 the sequencers of A0 and A1, 3 the
  Backstop image, 4 the Rally version, 5 the pieces' image. -/
  untested : Nat
  /-- Board facts that the commit in progress programs (R220). -/
  boardNext : List (Nat × Nat)
  /-- `board.state` as it read before the commit in progress (R220). -/
  boardWas : Nat
  /-- The placement in force (R228); whether graph, board facts or defects changed since SAFE entry (R97); the result and
  digest of a trial that still runs (R238). -/
  plan : Plan
  placeDirty : Bool
  trial : Option (Nat × Nat)
  /-- The defect list (R226), in the order of its entries. -/
  defects : List Defect
  /-- Substitutions and piece moves in progress, in the order in which they began (R233, R235). -/
  swaps : List Swap
  moves : List Move
  /-- Comparisons of the check reference in a row beyond and within the limit (R331). -/
  invarBad : Nat
  invarGood : Nat
  /-- Input levels of the pins after their filters, bit k for GPk (R390). -/
  pinLevels : Nat
  /-- Refreshes in a row at which each of the eight cadence paths read worse than its floor (R269). -/
  cadenceBad : List Nat
  /-- The formation (R177 to R196); until when the whistle input of the Backstop is high (R295). -/
  rally : Rally
  whistleUntil : Nat
  /-- The Backstop array, the fabric's wires, pieces, and the probe capture ring, newest sample first (R281 to R303). -/
  bs : Array256
  wires : Wires
  fabs : List (Nat × Fab)
  /-- The logic of the fabric by sector (R281 to R291). -/
  nets : List (Nat × Net)
  samples : List Nat
  /-- The frames in force: piece, sector, clusters, first port cell (R313); a reload; the scrubber. -/
  frames : List (Nat × Nat × List Nat × Nat)
  reload : Option Reload
  scrub : Scrub
  /-- DAC outputs and strobe groups (R356 to R369). -/
  dacs : List (Nat × Dac)
  strobes : List (Nat × Strobe)
  /-- Lanes, live exports by context, and peer exports by context (R196). -/
  lanes : List (Nat × Lane)
  exports : List (Nat × Export)
  peers : List (Nat × Export)
  /-- Pins and pattern units (R388 to R398). -/
  pins : List (Nat × Pin)
  pats : List (Nat × Pat)
  /-- Whether a shadow copy runs (R91); rails 0 and 9 below their reset thresholds, by bit (R412). -/
  copying : Bool
  railsLow : Nat
  /-- The model's own counter of free values drawn (DESIGN CHOICE, log entry 2). -/
  freeCount : Nat
  /-- The commands that wait, first in, first out. -/
  pending : List Instr
  deriving DecidableEq, Repr

/-- The state right after reset: POR_N low, every unit in reset (R80 step 0, R401)
(DESIGN CHOICE, log entry 3; DESIGN CHOICE, log entry 4). -/
def State.reset : State where
  variant := .sv4x256
  clock := 0
  time := 0
  timeRem := 0
  dict := []
  inForce := []
  blobs := []
  writers := []
  ports := []
  transfers := []
  silenced := []
  subs := []
  replays := []
  ended := []
  served := []
  identity := 0
  quadEdge := []
  trace := []
  evLast := []
  evOrd := 0
  changes := []
  emitted := []
  porLow := true
  safeLow := false
  strap := false
  slotA := ⟨true, 0x01030200, true, [], [[0x01030200, 0x02010000, 0x03010000, 0x03010000, 0x04010000, 0x04010000,
    0x05010000, 0x05010000]], 0x01010101, 0x05010000, 0x05010000, 0x0100⟩
  slotB := .erased
  flashSelect := 0
  seqWords := [0x02010000, 0x02010000]
  boot := ⟨.held, 0, false, 0, false, false, false⟩
  trans := .idle
  halted := none
  silent := false
  mem := []
  poison := []
  corrections := []
  retireQ := []
  customMasks := 0x10000000080000000400000002000000001000000008000000040000000200000001
  pcs := []
  safeAsk := 0
  ctxs := []
  tiles := []
  mons := []
  chains := []
  encs := []
  pitches := []
  feTurn := []
  coarse := []
  lockRuns := 0
  refLost := 0
  untested := 0
  boardNext := []
  boardWas := 0
  plan := .none_
  placeDirty := false
  trial := none
  defects := []
  swaps := []
  moves := []
  invarBad := 0
  invarGood := 0
  pinLevels := 0
  cadenceBad := [0, 0, 0, 0, 0, 0, 0, 0]
  rally := .none_
  whistleUntil := 0
  bs := .reset
  wires := .low
  fabs := []
  nets := []
  samples := []
  frames := []
  reload := none
  scrub := .none_
  dacs := []
  strobes := []
  lanes := []
  exports := []
  peers := []
  pins := []
  pats := []
  copying := false
  railsLow := 0
  freeCount := 0
  pending := []

end Sys2Proof.Machine
end

