-- ==== Sys2Proof/Machine/Queue.lean ====
section
/-! DEFINITION. The queue of the access point (R64): which waiting commands are requests, and how many of them wait at an instant. -/

namespace Sys2Proof.Machine

/-- The request that a command is, if it is one. -/
def reqOf : Instr → Option Req
  | .read q | .write q | .rmw q | .readMeta q | .blockOpen q | .blockSegment q | .blockClose q | .blockAbort q | .subscribe q
  | .unsubscribe q | .replay q | .requestQueueTimeout q _ | .modeRequestStandby q | .modeRequestPrepare q | .modeRequestRun q
  | .modeRequestHold q | .modeRequestSafe q | .modeRequestCancel q | .modeLoad q | .safeClear q | .deviceReset q
  | .versionsAcceptWrite q | .mgmtSelectWrite q | .timeSet q | .encPresetWrite q _ | .encFilterWrite q _ _ | .encEnable q _
  | .feEnable q _ | .coefSetWrite q _ | .boardCommit q | .graphCommit q | .placerTrial q | .defectAdd q | .defectClear q
  | .ctxRetry q _ | .ctxSwap q _ | .ctxRingResume q _ | .arbClientClear q _ | .arbClearAll q | .arbLiberoWrite q
  | .arbSyncClear q | .storePcClear q _ | .probeArm q | .backstopActivate q | .configSectorReload q _ | .scrubEnable q
  | .calInternal q | .calDark q | .calFlat q | .ilvReset q _ | .monitorWrite q _ _ _ | .sceneEnableWrite q _ | .padClear q _
  | .padTermWrite q _ | .padTestWrite q _ | .bufPeakClear q _ | .dacEnable q _ | .dacClear q _ | .laneEnable q _
  | .laneClear q _ | .mgmtClear q | .gpioBankWrite q _ | .gpioOutWrite q _ | .gpioFuncWrite q _ | .patternWrite q _ _
  | .eventClear q _ | .clearNode q | .eventTest q | .eventEnableWrite q _ _ | .eventLatchWrite q _ => some q
  | .blockTransferSilence _ _ | .subscriptionLeaseExpiry _ _ | .periodicNotice _ _ | .spiStatus _ | .spiResponse _
  | .spiNotification _ | .parallelStatusRead _ _ | .parallelResponseRead _ | .parallelNotificationRead _ | .umzinRsp _
  | .prepareStepEnd _ _ | .alignLimitExpiry _ | .runEntryTrigger _ _ | .holdTakesEffect _ | .autoResume _ _
  | .drainComplete _ | .shutdownStepEnd _ | .wakeStepEnd _ _ | .safeRingsFreeze _ | .watchdogExpiry _ | .watchdogReset _
  | .shadowCopyComplete _ | .porNLow _ | .porNRelease _ | .backstopLive _ _ _ | .storeTrainingEnd _ _ _ | .refclkDetected _ _
  | .bootHeaderRead _ _ | .bootImageRead _ _ | .firmwareConfirmed _ | .confirmTimeout _ | .railExcursion _ _ _
  | .railBelowReset _ _ _ | .dacSupplyLoss _ _ _ | .tempSensorRead _ _ _ _ | .safeNLow _ | .firmwareSlotProgrammed _ _ _
  | .refclkLoss _ | .refclkReturn _ | .holdoverLimitExpiry _ | .synthLocked _ _ _ | .ptpMessage _ _ | .ptpAnnounceTimeout _
  | .encoderEdge _ _ _ _ _ | .encoderZEdge _ _ | .encoderWindow _ _ | .encoderStandstill _ _ | .encoderSignalLoss _ _
  | .lineTrigger _ _ | .cdsLineEnd _ _ | .rallyTimeSend _ _ | .rallyTimeFragment _ _ _ | .sharedTriggerAnnounce _ _
  | .triggerHeartbeat _ _ | .rallyTriggerFragment _ _ _ | .triggerTimeout _ _ | .rallyTrackFragment _ _ _
  | .rallyControlFragment _ _ _ _ | .whistleFragment _ _ _ | .umzinFragment _ _ _ _ _ _ | .streamFragment _ _ _
  | .rallyLaneLost _ _ | .healingTimeout _ | .negotiationWindow _ | .backstopWhistle _ _ | .feBatch _ _
  | .primingComplete _ _ _ | .boardProgrammed _ | .trialComplete _ | .substitutionStepEnd _ _ _ | .substitutionSwitch _ _
  | .swappedCountExpiry _ _ | .pieceMoveStepEnd _ _ | .arbGrant _ _ | .grantHoldLimit _ _ _ | .cadenceRefresh _ _
  | .writeDrainStart _ _ | .writeDrainEnd _ _ | .refreshInterval _ _ _ | .stackTempRead _ _ | .tailFlushTimeout _ _
  | .rtWaitExceeded _ _ _ | .regionCopyComplete _ | .parityRetry _ _ _ | .shadowPatrol _ _ _ | .probeTrigger _ | .probeDone _
  | .backstopProgrammed _ _ | .backstopLatchCheck _ _ | .reloadStepEnd _ _ | .scrubFrame _ _ | .scrubWatchdog _
  | .ladderTraceEnd _ _ | .calRunEnd _ _ _ | .sceneRunEnd _ _ _ | .invarCheck _ _ | .limitRefresh _ _ _ | .ilvWordCount _ _ _
  | .tileFault _ _ _ | .monitorTrip _ _ _ _ | .busContention _ _ | .contentionRecovery _ _ | .padOverload _ _
  | .dacStrobe _ _ | .deglitchHoldEnd _ _ | .safeMoveEnd _ _ | .dacCurrentLimit _ _ | .dacShortTimeout _ _ | .laneLinkUp _ _
  | .laneLinkDown _ _ | .fecUncorrectable _ _ | .fecSerCheck _ _ _ _ | .pauseFrame _ _ _ | .pauseExpiry _ _
  | .flowLimitExpiry _ _ | .arpRequest _ _ _ _ _ _ | .icmpEcho _ _ _ _ | .arpReply _ _ _ _ | .resolutionRetry _ _
  | .resolutionRefresh _ _ | .streamPacketSend _ _ | .pinLatchCapture _ _ | .funcFirstHandshake _ _ | .pinInputChange _ _ _ _
  | .bankVioCheck _ _ _ | .patternMatch _ _ | .sampleInstant _ _ _ _ _ | .portCellWord _ _ _ | .fabricWireChange _ _
  | .paceWireEdge _ _ _ | .backstopOscEdge _ | .enableTransitionEnd _ _ | .macrocellsReloaded _ | .messageDropped _ _ _ _ _
  | .frameDropped _ _ _ | .fragmentDropped _ _ | .fragmentBoundary _ _ | .faultOrderedSets _ _ _ | .mgmtLinkUp _ _ _
  | .mgmtLinkDown _ | .railReturn _ _ _ | .safeNRelease _ => none

/-- The requests that have come by an instant and wait in the queue of commands. -/
def State.waitingAt (s : State) (t : Nat) : List Req :=
  (s.pending.filterMap reqOf).filter (fun r => decide (r.came ≤ t) && decide (t < r.at_))

/-- The requests that were waiting when another one came (R64): those carried out since then, and those that still wait. Of a port
alone where one is named. -/
def State.aheadOf (s : State) (q : Req) (own : Bool) : Nat :=
  (s.served.filter (fun e => decide (e.came ≤ q.came) && decide (q.came < e.left) && (!own || e.port == q.port))).length +
    ((s.waitingAt q.came).filter (fun r => !own || r.port == q.port)).length

/-- A request leaves the queue to be carried out; what left it more than 10 ms ago no longer counts. -/
def State.leaveQueue (s : State) (q : Req) : State :=
  { s with served := (s.served.filter (fun e => decide (q.at_ ≤ e.left + 10 * 65536000000))) ++ [⟨q.port, q.came, q.at_⟩] }

end Sys2Proof.Machine
end

