-- ==== Sys2Proof/Machine/Ops.lean ====
section
/-! DEFINITION. The named operations over the state: reading and writing objects, staged values, byte objects, counters,
time, raising events, sending messages. -/

namespace Sys2Proof.Machine

/-! ## Variants and defaults -/

/-- What a key reads as when nothing has been written: the table's default, or what the table calls per variant, per unit
or per client (R26, R47, R73, R280, R355, R403; R206 for factory sets) (DESIGN CHOICE, log entry 3; DESIGN CHOICE, log entry 14). -/
def defaultOf (v : Variant) (k : Nat) : Nat :=
  let index := k / 256
  let sub := k % 256
  if k = K.portsEnable then (if v = .sv4x128 then 0x00FF0001 else 0xFFFF0001)
  else if k = K.storeCapacity then (if v = .sv4x128 then 16 else 24) * 1073741824
  else if k = K.storeRingSpace then (if v = .sv4x128 then 16256 else 24448) * 1048576
  else if 0x7000 ≤ index && index < 0x7300 && sub = 3 then
    (let n := index - 0x7000
     if 704 ≤ n && n < 744 then 0 else 1)
  else if 0x7000 ≤ index && index < 0x7300 && sub = 4 then
    (let n := index - 0x7000
     if n < 256 then 1
     else if n < 512 then 2
     else if n < 576 then (if n % 4 = 0 then 2 else 1)
     else if n < 640 then (if n % 2 = 0 then 1 else 2)
     else if n < 704 then 2
     else if n < 720 then 0
     else if n < 744 then (if n % 3 = 0 then 0 else 1)
     else if n = 744 || n = 762 then 3
     else if n = 745 || n = 747 || n = 748 || n = 749 || n = 753 || n = 754 || n = 756 || n = 757 || n = 758 || n = 761 then 2
     else if n = 763 || n = 765 || n = 767 then 0
     else 1)
  else if 0x300C ≤ index && index < 0x4000 && sub = 0x0E && (index % 16 = 12 || index % 16 = 13) then
    0x060 + 2 * ((index - 0x3000) / 16) + (index % 16 - 12)
  else if 0x5910 ≤ index && index < 0x5940 && sub = 1 then
    (let i := index - 0x5910
     if i < 18 then 0 else if i < 42 then 1 else if i < 46 then 2 else 3)
  else tableDefault k

/-! ## Objects -/

/-- The value of an object in the dictionary; for a staged object the pending value (R48). -/
def State.obj (s : State) (k : Nat) : Nat := Sp.get (defaultOf s.variant) s.dict k

/-- The value of an object with its writer left as it is. -/
def State.poke (s : State) (k v : Nat) : State := { s with dict := Sp.put (defaultOf s.variant) s.dict k v }

/-- The last-writer record of an entry (R58). -/
def State.writer (s : State) (k : Nat) : Writer := Sp.get (fun _ => ⟨0, 0xFF, 0, 0⟩) s.writers k

/-- Record a write of an entry by a class and a port (R58). -/
def State.record (s : State) (k cls port : Nat) : State :=
  { s with writers := Sp.put (fun _ => ⟨0, 0xFF, 0, 0⟩) s.writers k ⟨cls, port, s.time, satAdd 32 (s.writer k).count 1⟩ }

/-- A write that the device makes itself (R58, R61): class DEVICE (DESIGN CHOICE, log entry 18). -/
def State.set (s : State) (k v : Nat) : State := (s.poke k v).record k 5 0xFF

/-- Add to a counter of w bits that saturates. -/
def State.count (s : State) (k w n : Nat) : State := s.set k (satAdd w (s.obj k) n)

/-- Add to a counter of w bits that wraps. -/
def State.tally (s : State) (k w n : Nat) : State := s.set k (wrapAdd w (s.obj k) n)

/-- Whether a staged object has a pending value (R48, R58). -/
def State.isPending (s : State) (k : Nat) : Bool := (Sp.find s.inForce k).isSome

/-- The value in force of an object: for a staged object with a pending value, the one before it (R8). -/
def State.force (s : State) (k : Nat) : Nat := (Sp.find s.inForce k).getD (s.obj k)

/-- Hold the present value in force while a written one waits for its boundary (R48). -/
def State.hold (s : State) (k : Nat) : State :=
  if s.isPending k then s else { s with inForce := Sp.insert s.inForce k (s.obj k) }

/-- A pending value takes effect (R8). -/
def State.settle (s : State) (k : Nat) : State := { s with inForce := Sp.erase s.inForce k }

/-- A captured value takes effect; a value written after it stays pending (R8, R213). -/
def State.settleTo (s : State) (k v : Nat) : State :=
  if s.obj k = v then s.settle k else { s with inForce := Sp.insert s.inForce k v }

/-- Whether a client of the Store switch is red-carded (R275). -/
def State.clientRed (s : State) (i : Nat) : Bool := s.obj (K.arbClientState i) == 1

/-- The bytes of an object held as bytes. -/
def State.blob (s : State) (k : Nat) : Option (List Byte) := Sp.find s.blobs k

/-- Store the bytes of an object held as bytes. -/
def State.setBlob (s : State) (k : Nat) (bs : List Byte) : State := { s with blobs := Sp.insert s.blobs k bs }

/-- Where the bytes of a staged byte object wait: written, and being programmed. -/
def stagedBlob (k : Nat) : Nat := k + 0x100000000
def programmedBlob (k : Nat) : Nat := k + 0x200000000

/-- Byte j of an OCTETS object held as a number. -/
def State.octet (s : State) (k j : Nat) : Nat := byteAt (s.obj k) j

/-- A fresh free value of a kind, and the state that has drawn it (DESIGN CHOICE, log entry 2). -/
def State.draw (s : State) (tag : Nat) : Nat × State :=
  (Config.free tag s.freeCount, { s with freeCount := s.freeCount + 1 })

/-- The first id from a start on, in the cycle of 1 to 65,535, that is not in use. -/
def freshId (start : Nat) (used : List Nat) : Nat :=
  (((List.range (used.length + 1)).map (fun i => (start + i) % 65535 + 1)).find? (fun i => !used.contains i)).getD 1

/-- A new id of a transfer, a subscription or a replay (R65, R68, R70): the spec says that it is none in use, and not which;
the choice is free (DESIGN CHOICE, log entry 2). -/
def State.newId (s : State) (used : List Nat) : Nat × State :=
  let d := s.draw 62
  (freshId d.1 used, d.2)

/-! ## Time -/

/-- The TIME96 units that pass on the counter while d units pass on the device clock, with the remainder kept (R158):
`time.rate` is in parts per billion. -/
def rateStep (rate : Int) (rem : Int) (d : Nat) : Int × Int :=
  let x := (d : Int) * rate + rem
  (x / 1000000000, x % 1000000000)

/-- Move the clock to an instant that is not in the past (DESIGN CHOICE, log entry 6). -/
def State.advance (s : State) (t : Nat) : State :=
  let d := t - s.clock
  let r := rateStep (signed 32 (s.obj K.timeRate)) s.timeRem d
  { s with clock := max s.clock t, time := ((s.time : Int) + d + r.1).toNat, timeRem := r.2 }

/-- What every command does first: the clock moves, and what the last command emitted is gone (DESIGN CHOICE, log entry 6). -/
def State.begin_ (s : State) (t : Nat) : State := { s.advance t with emitted := [], changes := [] }

/-- The TIME96 encoding of the counter (R44). -/
def State.now (s : State) : Nat := time96 s.time

/-- The counter at another instant of the device clock, at the present rate (R158), in 2^-16 ns. -/
def State.timeAt (s : State) (t : Nat) : Nat :=
  let d : Int := (t : Int) - s.clock
  ((s.time : Int) + d + d * signed 32 (s.obj K.timeRate) / 1000000000).toNat

/-- Add something to what leaves the device (DESIGN CHOICE, log entry 10). -/
def State.emit (s : State) (e : Emission) : State := { s with emitted := s.emitted ++ [e] }

/-! ## Events -/

/-- Whether source n has its unit (R2, R403). -/
def State.hasSource (s : State) (n : Nat) : Bool := eventPresent s.variant n

/-! ## Conditions of held sources -/

/-- The device mode in force (R74). -/
def State.mode (s : State) : Nat := s.obj K.deviceMode

def mBoot : Nat := 0
def mStandby : Nat := 1
def mLoad : Nat := 2
def mPrepare : Nat := 3
def mRun : Nat := 4
def mHold : Nat := 5
def mSafe : Nat := 6
def mRescue : Nat := 7

/-- Whether a die's junction lies within 5 °C of the limit (R403 source 760). -/
def State.hot (s : State) : Bool :=
  decide (signed 16 (s.obj K.deviceTempMax) + 5 ≥ signed 16 (s.obj K.deviceSafeTjLimit))

/-- Whether any rail or bank supply is outside its window (R403 source 761). -/
def State.railOut (s : State) : Bool :=
  (List.range 10).any (fun r => s.obj (K.deviceRailState r) != 0) ||
  (List.range 6).any (fun b => s.obj (K.gpioBankVioFault b) != 0)

/-- The condition of a held source; `none` for a pulse source (R403, R405). The tile calibration-or-fault source is held while
a fault is latched, and until its latest raise is no TILE_FAULT (DESIGN CHOICE, log entry 58). -/
def State.condition (s : State) (n : Nat) : Option Bool :=
  if n < 256 then
    some ((List.range 2).any (fun i => bitsOf (s.obj (K.tileMonState n i)) 1 0 == 2))
  else if n < 512 then
    if s.obj (K.tileCalFault (n - 256)) ≠ 0 then some true else if s.obj (K.eventDetail n) % 256 = 3 then some false else none
  else if n < 704 then none
  else if n < 720 then
    if s.obj (K.patternMode (n - 704)) = 1 then some (s.obj (K.patternMatch (n - 704)) == 1) else none
  else if n < 744 then
    some (bitsOf (s.obj (K.encFlags ((n - 720) / 3))) (1 + (n - 720) % 3) (1 + (n - 720) % 3) == 1)
  else if n = 744 then some (s.mode == mSafe)
  else if n = 749 then some (s.obj K.timeRefclkState == 1)
  else if n = 754 then some (s.obj K.arbCadenceFlags != 0)
  else if n = 760 then some s.hot
  else if n = 761 then some s.railOut
  else if n = 762 then some (s.obj K.storeState == 4)
  else none

/-- Whether source n now follows its condition: a held source with latch LEVEL (R405). -/
def State.follows (s : State) (n : Nat) : Bool := (s.condition n).isSome && s.obj (K.eventLatch n) == 0

/-- Whether source n is active: status 1 and enabled (R404). -/
def State.active (s : State) (n : Nat) : Bool :=
  s.hasSource n && s.obj (K.eventStatus n) == 1 && s.obj (K.eventEnable n) == 1

/-- The record of a change of source n as of now (R407): a pulse source is always LATCHED (R405). -/
def State.changeOf (s : State) (n : Nat) (cleared : Bool) : EventChange :=
  { source := n, cleared := cleared, severity := s.obj (K.eventSeverity n), count := s.obj (K.eventCount n),
    detail := s.obj (K.eventDetail n),
    flags := s.obj K.versionsRestricted + 2 * ofBool (!s.follows n), time := s.time, ord := s.evOrd }

/-- Deliver a change of an enabled source to the nodes above it (R406, R407) (DESIGN CHOICE, log entry 17). -/
def State.notify (s : State) (n : Nat) (cleared : Bool) : State :=
  if s.obj (K.eventEnable n) = 1 then
    { s with changes := s.changes ++ [s.changeOf n cleared], evLast := Sp.insert s.evLast n (s.changeOf n cleared),
             evOrd := s.evOrd + 1 }
  else s

/-- A raise of source n (R405): status, count, time and detail, then delivery. -/
def State.raise (s : State) (n detail : Nat) : State :=
  if s.hasSource n then
    ((((s.set (K.eventStatus n) 1).count (K.eventCount n) 32 1).set (K.eventTime n) s.now).set (K.eventDetail n)
      (detail % 4294967296)).notify n false
  else s

/-- The status of source n falls to 0 and is delivered as cleared (R405, R409). -/
def State.lower (s : State) (n : Nat) : State :=
  if s.obj (K.eventStatus n) = 1 then (s.set (K.eventStatus n) 0).notify n true else s

/-- Raise the tile calibration-or-fault source with a cause (R403). -/
def State.raiseTile (s : State) (n cause : Nat) : State :=
  s.raise (256 + n) (cause + 256 * s.obj (K.tileCalFault n))

/-! ## Ports -/

/-- What a port holds. -/
def State.portState (s : State) (p : Nat) : PortState := Sp.get (fun _ => PortState.idle) s.ports p

/-- Change what a port holds. -/
def State.setPort (s : State) (p : Nat) (x : PortState) : State :=
  { s with ports := Sp.put (fun _ => PortState.idle) s.ports p x }

/-- Whether a port answers over UDP: the management port and the lanes (03, table of arrival ports). -/
def isUdp (p : Nat) : Bool := p == 3 || (16 ≤ p && p < 32)

/-- Whether a port queues its responses and notifications until the host reads them: SPI, parallel and JTAG (R57). The local port's
go to the management processor at once. -/
def isQueued (p : Nat) : Bool := p == 0 || p == 1 || p == 32

/-- Send a message on a port: at once on UDP, into the queue of responses on a slave port (R54, R57). -/
def State.respond (s : State) (p src : Nat) (bytes : List Byte) : State :=
  if !isQueued p then s.emit (.message p src bytes)
  else let x := s.portState p
       s.setPort p { x with responses := x.responses ++ [bytes], order := x.order ++ [true] }

/-- Send a notification on a port: at once on UDP; elsewhere into the queue of 64, which drops the newest and sets OVF when
full (R57). -/
def State.sendNotice (s : State) (p src : Nat) (bytes : List Byte) : State :=
  if !isQueued p then s.emit (.message p src bytes)
  else
    let x := s.portState p
    if x.notices.length < 64 then s.setPort p { x with notices := x.notices ++ [bytes], order := x.order ++ [false] }
    else (s.setPort p { x with ovf := true }).raise 766 p

/-- Count a dropped message of a port and raise PORTS (R50, R54, R403). -/
def State.dropped (s : State) (p : Nat) : State := (s.count (K.portsPortDropped p) 32 1).raise 763 p

/-! ## Modes -/

/-- Whether PREPARE has come to step k or has ended and rests. -/
def State.prepAt (s : State) (k : Nat) : Bool :=
  s.mode == mPrepare && (decide (s.obj K.deviceModeStep ≥ k) || s.trans.motion != .prepare)

/-- Whether STANDBY, or the shutdown to it from step k on, holds units off (R75, R91). -/
def State.sleeps (s : State) (k : Nat) : Bool :=
  s.mode == mStandby || (s.trans.motion == .shutdown && decide (k ≤ s.obj K.deviceModeStep))

/-- A commit of an image, a program or a waveform starts a shadow copy (R91). -/
def State.startCopy (s : State) : State := { s.set K.deviceStandbyShadow 0 with copying := true }

/-- Enter a mode: its code and the time of the change (R74, R103). -/
def State.enterMode (s : State) (m : Nat) : State := (s.set K.deviceMode m).set K.deviceModeSince s.now

/-- Record a failed transition and raise MODE (R84, R403). -/
def State.failMode (s : State) (abort mode step : Nat) : State :=
  (s.set K.deviceModeLastFail (abort * 65536 + mode * 256 + step)).raise 745 0

end Sys2Proof.Machine
end

