-- ==== Sys2Proof/Machine/Flags.lean ====
section
/-! DEFINITION. Status bytes and the enable rule (R98, R99), stream flags (R10), event nodes and conditions (R403 to R406),
and the pins and objects that are functions of the event sources. -/

namespace Sys2Proof.Machine

/-! ## The enable rule -/

/-- The four enable states of R9 as R98 codes them. -/
def eOff : Nat := 0
def eStarting : Nat := 1
def eOn : Nat := 2
def eStopping : Nat := 3

/-- The state and pending fields of a status byte (R98). -/
def enState (b : Nat) : Nat := bitsOf b 1 0
def enPending (b : Nat) : Nat := bitsOf b 3 2

/-- A status byte with state and pending replaced, [7:4] kept (R98). -/
def enByte (b state pend : Nat) : Nat := withBits b 3 0 (state + 4 * pend)

/-- The status byte after a write of 1 or 0 to the enable (R99). -/
def enWrite (b v : Nat) : Nat :=
  match enState b, v with
  | 0, 0 => enByte b eOff 0
  | 0, _ => enByte b eStarting 0
  | 1, 0 => enByte b eStarting 2
  | 1, _ => enByte b eStarting 0
  | 2, 0 => enByte b eStopping 0
  | 2, _ => b
  | _, 0 => enByte b eStopping 0
  | _, _ => enByte b eStopping 1

/-- The status byte at the end of STARTING or STOPPING, with what is pending honoured (R99). -/
def enEnd (b : Nat) : Nat :=
  match enState b with
  | 1 => if enPending b = 2 then enByte b eStopping 0 else enByte b eOn 0
  | 3 => if enPending b = 1 then enByte b eStarting 0 else enByte b eOff 0
  | _ => b

/-- What SAFE entry does to a status byte: a pending enable is cancelled, a pending disable carried out (R94). -/
def enSafe (b : Nat) : Nat :=
  match enPending b with
  | 1 => enByte b (enState b) 0
  | 2 => enByte b eStopping 0
  | _ => b

/-- Whether a status byte reads ON. -/
def isOn (b : Nat) : Bool := enState b == eOn

/-! ## Stream flags (R10, in the order of the stream header, R380) -/

def fStale : Nat := 1
def fSettling : Nat := 2
def fCoarse : Nat := 4
def fSwapped : Nat := 8
def fRestricted : Nat := 16
def fDegraded : Nat := 32

/-! ## Event nodes -/

/-- The group of a source (R404). -/
def groupOf (n : Nat) : Nat :=
  if n < 256 then n / 16
  else if n < 512 then 16 + (n - 256) / 16
  else if n < 576 then 32 + (n - 512) / 4
  else if n < 640 then 48 + (n - 576) / 8
  else if n < 704 then 56 + (n - 640) / 16
  else if n < 720 then 60
  else if n < 744 then 61
  else if n < 756 then 62
  else 63

/-- The class of a group (R404). -/
def classOfGroup (g : Nat) : Nat :=
  if g < 16 then 0 else if g < 32 then 1 else if g < 48 then 2 else if g < 56 then 3
  else if g < 60 then 4 else if g = 60 then 5 else if g = 61 then 6 else 7

/-- Whether source n lies at or below a node (R404). -/
def below (node n : Nat) : Bool :=
  if node < 0x300 then node == n
  else if node < 0x340 then groupOf n == node - 0x300
  else if node < 0x348 then classOfGroup (groupOf n) == node - 0x340
  else node == 0x348

/-- The sources whose status is 1, in ascending order: the dictionary lists no status that is 0. -/
def State.raised (s : State) : List Nat :=
  (s.dict.filter (fun e => 0x700000 ≤ e.1 && e.1 < 0x730000 && e.1 % 256 == 1 && e.2 == 1)).map
    (fun e => e.1 / 256 - 0x7000)

/-- The active sources (R404). -/
def State.activeSources (s : State) : List Nat := s.raised.filter s.active

/-- Whether a node is active (R404). -/
def State.nodeActive (s : State) (node : Nat) : Bool := s.activeSources.any (below node)

/-- `device.events.active` (R411). -/
def State.eventsActive (s : State) : Nat := s.activeSources.foldl (fun a n => a ||| 2 ^ n) 0

/-- `device.events.groups` (R411). -/
def State.eventsGroups (s : State) : Nat := s.activeSources.foldl (fun a n => a ||| 2 ^ groupOf n) 0

/-- `device.events.classes` (R411). -/
def State.eventsClasses (s : State) : Nat :=
  s.activeSources.foldl (fun a n => a ||| 2 ^ classOfGroup (groupOf n)) 0

/-- `device.events.summary` (R411). -/
def State.eventsSummary (s : State) : Nat :=
  s.activeSources.foldl (fun a n => a ||| 2 ^ s.obj (K.eventSeverity n) ||| 128) 0

/-- The interrupt pins that an active source asserts (R406) (DESIGN CHOICE, log entry 58). -/
def irqMask (irq severity : Nat) : Nat :=
  if irq = 0xFF then (match severity with | 3 => 1 | 2 => 2 | 1 => 4 | _ => 0) else irq % 16

/-- `gpio.irq`: bit i is 1 while IRQi_N is asserted (R399, R406). -/
def State.irqPins (s : State) : Nat :=
  s.activeSources.foldl (fun a n => a ||| irqMask (s.obj (K.eventIrq n)) (s.obj (K.eventSeverity n))) 0

/-! ## Pins -/

/-- The input of a pin after its filter (R390, R394): 0 while its bank's supply lies outside every window (R388). -/
def State.padIn (s : State) (k : Nat) : Bool := s.pinLevels.testBit k && s.obj (K.gpioBankVioFault (k / 16)) == 0

/-- The sixteen inputs of a bank. -/
def State.bankIn (s : State) (b : Nat) : Nat :=
  (List.range 16).foldl (fun a i => if s.padIn (16 * b + i) then a + 2 ^ i else a) 0

/-! ## Sources that follow their conditions -/

/-- Sources that follow a condition which has ended fall to 0 (R405) (DESIGN CHOICE, log entry 58). -/
def State.settleEvents (s : State) : State :=
  s.raised.foldl (fun st n => if st.follows n && st.condition n == some false then st.lower n else st) s

/-- Carry a held source's condition over a change: a rising condition raises it (R405). -/
def State.riseIf (before after : State) (n detail : Nat) : State :=
  if before.condition n != some true && after.condition n == some true then after.raise n detail else after

/-! ## Clearing (R409) -/

/-- The effect of a clear on source n when it is asked for: not with latch LEVEL on a held source, not while the condition
of a held source holds. -/
def State.clearSource (s : State) (n : Nat) : State :=
  if s.follows n || s.condition n == some true then s else s.lower n

/-- A write of C to `event[n].clear` (R409). -/
def State.clearCount (s : State) (n c : Nat) : State :=
  if c = s.obj (K.eventCount n) || c = 0xFFFFFFFF then s.clearSource n else s

/-- A write of `device.events.clear_node` (R409) (DESIGN CHOICE, log entry 58). -/
def State.clearNode (s : State) (node : Nat) : State :=
  s.raised.foldl (fun st n => if below node n then st.clearSource n else st) s

end Sys2Proof.Machine
end

