-- ==== Sys2Proof/Machine/Operands.lean ====
section
/-! DEFINITION. The operands of Umzin requests: arrival class, the object an address names, rights, type, length and range
(R42 to R46, R59), and the messages that answer (R51 to R53). -/

namespace Sys2Proof.Machine

/-- Why a request ends: abort code and detail word (R72). -/
structure Abort where
  code : Nat
  detail : Nat
  deriving DecidableEq, Repr

def aAbsent : Nat := 0x0101
def aDenied : Nat := 0x0102
def aType : Nat := 0x0103
def aRange : Nat := 0x0104
def aLength : Nat := 0x0105
def aFormat : Nat := 0x0106
def aMode : Nat := 0x0201
def aBusy : Nat := 0x0202
def aConflict : Nat := 0x0203
def aTimeout : Nat := 0x0204
def aFull : Nat := 0x0205
def aSequence : Nat := 0x0206
def aGone : Nat := 0x0207
def aStale : Nat := 0x0301
def aUntested : Nat := 0x0302
def aFault : Nat := 0x0401

/-- Success with a value, or an abort. -/
abbrev Res := Except Abort

/-- Go on where a condition holds, else abort. -/
def need (b : Bool) (code detail : Nat) : Res Unit := if b then .ok () else .error ⟨code, detail⟩

/-- Refuse with NOT_IN_MODE, detail the mode, outside the given modes (R59 check 7, R72). -/
def needMode (s : State) (ms : List Nat) : Res Unit := need (ms.contains s.mode) aMode s.mode

/-- A range failure with no nearest value. -/
def badRange {α : Type} : Res α := .error ⟨aRange, 0⟩

/-! ## Ports -/

/-- The class that the arrival port confers: 1 BENCH, 2 LINE, 3 FORMATION, 4 DEBUG, 0 for a lane without a role (R6, R49). -/
def State.classOf (s : State) (p : Nat) : Nat :=
  if p < 3 then 1
  else if p = 3 then 2
  else if p = 32 then 4
  else if s.obj (K.laneRole (p - 16)) = 1 then 2
  else if s.obj (K.laneRole (p - 16)) = 0 then 0
  else 3

/-- The two access bits of a class in an access byte (R45). -/
def rightOf (acc cls : Nat) : Nat := (acc >>> (8 - 2 * cls)) % 4

/-- Read and write rights (R45, R46). -/
def mayRead (acc cls : Nat) : Bool := rightOf acc cls % 2 == 1
def mayWrite (acc cls : Nat) : Bool := rightOf acc cls ≥ 2
def mayBoth (acc cls : Nat) : Bool := rightOf acc cls == 3

/-- Whether Umzin is closed on a port: its bit of `ports.enable` for the management port and the lanes (R50), the DEBUG
strap for JTAG. -/
def State.portClosed (s : State) (p : Nat) : Bool :=
  if p = 3 then bitsOf (s.obj K.portsEnable) 0 0 == 0
  else if 16 ≤ p && p < 32 then bitsOf (s.obj K.portsEnable) p p == 0
  else p == 32 && s.obj K.portsDebugStrap == 0

/-- Whether the device answers Umzin on a port now: nothing before the image is started, BENCH ports alone in RESCUE (R40),
management and BENCH alone in STANDBY (R75), no lane without a role or a link (DESIGN CHOICE, log entry 15). -/
def State.answers (s : State) (p : Nat) : Bool :=
  !s.porLow && (s.boot.step == .confirming || s.boot.step == .done || s.boot.step == .rescue) &&
  (p < 3 || (s.mode != mRescue && (p == 3 || (s.mode != mStandby && (p == 32 || s.classOf p != 0)))))

/-- Requests that a slave port holds: waiting, in progress, or answered and not yet read (R57). -/
def State.portHeld (s : State) (p : Nat) : Nat :=
  (s.portState p).responses.length + ((s.waitingAt s.clock).filter (fun r => r.port == p)).length

/-- Requests that a slave port held when a request came: what it has now, what was read since, and what still waits (R57). -/
def State.heldAt (s : State) (q : Req) : Nat :=
  let x := s.portState q.port
  x.responses.length + (x.taken.filter (fun t => decide (q.came < t))).length +
    ((s.waitingAt q.came).filter (fun r => r.port == q.port)).length

/-- The READY bit of a slave port (R55, R57). -/
def State.ready (s : State) (p : Nat) : Bool := s.portHeld p < 16

/-- The status byte of a slave port (R55). An empty answer in the queue marks a request whose completion still runs. -/
def State.statusByte (s : State) (p : Nat) : Nat :=
  let x := s.portState p
  ofBool (s.ready p) + 2 * ofBool ((x.responses.head?.getD []) != []) + 4 * ofBool (x.notices != []) + 8 * ofBool x.crcErr +
    16 * ofBool x.ovf + 32 * ofBool x.reject

/-! ## Objects that an address names -/

/-- The words of a message in a FIFO of the parallel port: length, message, CRC-32 (R56). -/
def fifoWords (m : List Byte) : Nat := 2 + (m.length + 3) / 4

/-- The register LEVELS of the parallel port (R56): free request words, whose number the spec leaves open (DESIGN CHOICE, log entries
2 and 16), and the response words that wait. -/
def State.levels (s : State) : Nat :=
  Config.free 64 0 % 65536 +
    65536 * (min 65535 (((s.portState 1).responses.takeWhile (fun m => !m.isEmpty)).foldl (fun a m => a + fifoWords m) 0))

/-- The firmware slot that runs (R39): slot A for 0. -/
def State.bootSlot (s : State) (n : Nat) : Slot := if n = 0 then s.slotA else s.slotB
def State.running (s : State) : Slot := s.bootSlot s.boot.slot

/-- The row that stands for subindex 0x00 of an index (R42). -/
def zeroRow (index : Nat) : Row :=
  ⟨index, 0, .single, .u8, 1, 0x55, highestSub index, highestSub index, highestSub index, [], 0⟩

/-- Whether a located unit is present: by the variant, and for a list entry of the tested combinations by the running
image (R26, R30). -/
def State.hasUnit (s : State) (l : Loc) : Bool :=
  l.row.form.present s.variant l.unit && (l.row.form != .combo || l.unit < s.running.combos.length) &&
    (l.row.form != .layoutClass || l.unit < 18)

/-- The detail word of ABSENT: class and unit, or 0 (R72); the port objects of a lane name the lane (DEDUCED, log entry 12). -/
def absentDetail (l : Loc) : Nat :=
  let c := l.row.form.spread.cls
  if l.row.form = .port && 16 ≤ l.unit && l.unit < 32 then 0x80000 + (l.unit - 16)
  else if c = 0 then 0 else c * 65536 + l.unit % 65536

/-- The first row at an index, whatever the subindex. -/
def anyRow (index : Nat) : List Row → Option Loc
  | [] => none
  | r :: rs => match r.place index r.sub with
    | some (u, i) => some ⟨r, u, i⟩
    | none => anyRow index rs

/-- The object at an index and subindex, or ABSENT (R42, R43, R30; check 2 of R59). -/
def State.find (s : State) (index sub : Nat) : Res Loc :=
  if sub = 0 then
    match anyRow index (rowsAt index) with
    | none => .error ⟨aAbsent, 0⟩
    | some l => if s.hasUnit l then .ok ⟨zeroRow index, 0, 0⟩ else .error ⟨aAbsent, absentDetail l⟩
  else
    match locate index sub with
    | none => .error ⟨aAbsent, 0⟩
    | some l => if s.hasUnit l then .ok l else .error ⟨aAbsent, absentDetail l⟩

/-- The access byte of an object: factory coefficient sets are constants (R206, R219). -/
def accessOf (l : Loc) : Nat :=
  if l.row.form = .coefSet && l.row.sub = 1 && l.unit < 8 then 0x51 else l.row.acc

/-- Whether an object is held as bytes and not as a number. -/
def isBlob (r : Row) : Bool := r.ty == .text || r.size > 1024

/-! ## Messages -/

/-- The sixteen bytes of a header (R51). -/
def header (opcode flags seq len index sub ty abort transfer : Nat) : List Byte :=
  toLE 1 0x55 ++ toLE 1 0x10 ++ toLE 1 opcode ++ toLE 1 flags ++ toLE 2 seq ++ toLE 2 len ++ toLE 2 index ++ toLE 1 sub ++
    toLE 1 ty ++ toLE 2 abort ++ toLE 2 transfer

/-- The opcode of an operation (R53, table of operations). -/
def opcode : Op → Nat
  | .read => 1 | .write => 2 | .rmw => 3 | .readMeta => 4 | .blockOpen => 5 | .blockSegment => 6 | .blockClose => 7
  | .blockAbort => 8 | .subscribe => 9 | .unsubscribe => 10 | .replay => 12

/-- The RESPONSE flag, with RESTRICTED while an untested item is in force (R52). -/
def State.answerFlags (s : State) : Nat := 1 + 2 * s.obj K.versionsRestricted

/-- The text that follows the detail word of an abort: its wording is the firmware's (R53), a free value. -/
def abortText (code : Nat) : List Byte :=
  (List.range (Config.free 0 code % 121)).map (fun i => BitVec.ofNat 8 (Config.free 1 (code * 128 + i)))

/-- What an operation answers: body, type code and transfer id, or an abort. -/
structure Answer where
  body : List Byte
  ty : Nat
  transfer : Nat
  deriving DecidableEq, Repr

/-- The response message of a request (R51 to R53). -/
def State.response (s : State) (q : Req) (op : Op) (r : Res Answer) : List Byte :=
  match r with
  | .ok a => header (opcode op + 128) s.answerFlags q.seq a.body.length q.index q.sub a.ty 0 a.transfer ++ a.body
  | .error e =>
    let body := toLE 4 e.detail ++ abortText e.code
    header (opcode op + 128) s.answerFlags q.seq body.length q.index q.sub q.ty e.code q.transfer ++ body

/-! ## Checks of a single access (R59) -/

/-- Checks 2 to 4 of a request on an object: presence, rights, type. Type 0x00 stands for the object's own where the
operation allows it. -/
def State.checkObject (s : State) (q : Req) (right : Nat → Nat → Bool) (zeroOk : Bool) (allowed : Row → Bool) : Res Loc := do
  let l ← s.find q.index q.sub
  need (right (accessOf l) (s.classOf q.port)) aDenied (accessOf l)
  need ((q.ty == l.row.ty.code || (zeroOk && q.ty == 0)) && allowed l.row) aType l.row.ty.code
  .ok l

/-- Check 5: the body of a write (R44, R59). -/
def checkLength (r : Row) (n : Nat) : Res Unit :=
  if r.ty = .text then need (n ≤ r.size && n ≤ 1024) aLength r.size
  else need (n == r.size && n ≤ 1024) aLength r.size

/-- Check 6: the range that the object's table gives (R59). The gain objects' range is that of the form, with its own nearest
code (R108), checked with the object's own checks. -/
def checkRange (r : Row) (v : Nat) : Res Unit :=
  if r.idx = 0x3000 ∧ (r.sub = 0x02 ∨ r.sub = 0x0A) then .ok () else need (r.inRange v) aRange (r.nearest v)

/-- Whether an RMW is allowed on a row (R60). -/
def rmwAllowed (r : Row) : Bool :=
  match r.ty with
  | .bool | .u8 | .u16 | .u32 | .u64 => true
  | .octets => r.size ≤ 128
  | _ => false

/-- The RMW of R60 on values of n bytes. -/
def rmwValue (n old mask value : Nat) : Nat :=
  (old &&& (2 ^ (8 * n) - 1 - mask)) ||| (value &&& mask)

end Sys2Proof.Machine
end

