-- ==== Sys2Proof/Machine/Track.lean ====
section
/-! DEFINITION. The position track (07_timebase_triggers.md, R165, R167, R174, R189): what an encoder or a replica holds of the strip's
position, and the stamps taken from it. -/

namespace Sys2Proof.Machine

def State.enc (s : State) (e : Nat) : Enc := Sp.get (fun _ => Enc.none_) s.encs e
def State.setEnc (s : State) (e : Nat) (x : Enc) : State := { s with encs := Sp.put (fun _ => Enc.none_) s.encs e x }

def State.pitchOf (s : State) (p : Nat) : Pitch := Sp.get (fun _ => Pitch.none_) s.pitches p
def State.setPitch (s : State) (p : Nat) (x : Pitch) : State := { s with pitches := Sp.put (fun _ => Pitch.none_) s.pitches p x }

/-- Position of an encoder as a signed count. -/
def State.position (s : State) (e : Nat) : Int := signed 48 (s.obj (K.encPosition e))

/-- Whether an encoder counts: ON, or STOPPING up to its safe point, and not in STANDBY (R92, R166). -/
def State.encRuns (s : State) (e : Nat) : Bool :=
  (isOn (s.obj (K.encStatus e)) || enState (s.obj (K.encStatus e)) == eStopping) && s.mode != mStandby

/-- The position that stamps still go by: a reference load counts from the next count on (R165). -/
def State.stampedPosition (s : State) (e : Nat) : Int := ((s.enc e).jumped).getD (s.position e)

/-- The position of the edge record at an instant in 2^-16 counts, between the two edges on either side. -/
def edgePos (now : Int) : List (Nat × Int) → Nat → Int
  | [], _ => now * 65536
  | [(_, p)], _ => p * 65536
  | (t1, p1) :: (t0, p0) :: rest, g =>
    if t1 ≤ g then p1 * 65536
    else if t0 ≤ g then p0 * 65536 + (p1 - p0) * 65536 * ((g : Int) - t0) / ((t1 : Int) - t0)
    else edgePos now ((t0, p0) :: rest) g

/-- What a track has for an instant: a position in 2^-16 counts, none for good, or an entry still to come. -/
inductive Place where
  | found (v : Int)
  | stale
  | waits
  deriving DecidableEq, Repr

/-- The edge record of an encoder reaches an instant. -/
def Enc.reaches (x : Enc) (t : Nat) : Bool := match x.edges with | (z, _) :: _ => decide (t ≤ z) | [] => false

/-- The instant of the oldest edge that is kept. -/
def Enc.oldest (x : Enc) : Nat := match x.edges.getLast? with | some w => w.1 | none => 0

/-- The position of an encoder at an instant of the device clock: between the two entries of the track on either side, each between the
two edges on either side of it. The entry after an instant is waited for until `track_ns` + 1 µs later; a running encoder whose next
edge has then not come holds its position (R167, DESIGN CHOICE, log entry 30). -/
def State.trackAt (s : State) (e t : Nat) : Place :=
  let x := s.enc e
  let step := s.obj (K.encTrackNs e) * perNs
  let ended := match x.stopped with | some z => decide (z < t) | none => !s.encRuns e
  if t + 131072 * step < s.clock || (t < x.oldest) then .stale
  else
    let g := t / step * step
    let next := if t = g then g else g + step
    if !x.reaches next && !ended && s.clock ≤ t + step + perUs then .waits
    else if !x.reaches next && ended then .stale
    else
      let p0 := edgePos (s.stampedPosition e) x.edges g
      let p1 := edgePos (s.stampedPosition e) x.edges (g + step)
      .found (p0 + (p1 - p0) * ((t : Int) - g) / step)

/-- The entries of a replica track with their instants (R189): the spacing of a fragment's entries is a 32nd of the time to
the next fragment; the newest takes the spacing before it (DESIGN CHOICE, log entry 50). -/
def replicaEntries : List (Nat × List Int) → List (Nat × Int)
  | (t1, e1) :: (t0, e0) :: rest =>
    (e1.zipIdx.map (fun e => (t1 + e.2 * ((t1 - t0) / 32), e.1))).reverse ++
      replicaEntries ((t0, e0) :: rest)
  | _ => []

/-- The two entries of a replica around an instant, newest first. -/
def replicaBetween : List (Nat × Int) → Nat → Option Int
  | (t1, p1) :: (t0, p0) :: rest, t =>
    if t1 < t then none
    else if t0 ≤ t && t0 < t1 then some (p0 + (p1 - p0) * ((t : Int) - t0) / ((t1 : Int) - t0))
    else replicaBetween ((t0, p0) :: rest) t
  | _, _ => none

/-- The position of an instant of the device clock on the replica track of a generator, whose entries are waited for up to 40 µs
(R189). -/
def State.replicaAt (s : State) (p t : Nat) : Place :=
  let es := replicaEntries (s.pitchOf p).replica
  let i := s.timeAt t
  match replicaBetween es i with
  | some v => .found v
  | none => if (match es with | (z, _) :: _ => decide (z < i) | [] => true) && s.clock ≤ t + 40 * perUs then .waits else .stale

/-- The position that a pitch generator's lines have at an instant: of its encoder, or of the replica of a shared generator (R174, R189);
lines without either have none. -/
def State.placeOf (s : State) (p t : Nat) : Place :=
  if p < 16 && s.obj (K.pitchEncoder p) < 8 then s.trackAt (s.obj (K.pitchEncoder p)) t
  else if p < 16 && s.obj (K.pitchSource p) = 1 then s.replicaAt p t
  else .stale

/-- POS48 and fraction of a position in 2^-16 counts. -/
def posWords (v : Int) : Nat × Nat := (unsigned 48 (v / 65536), (v % 65536).toNat)

/-- The stamp of an instant that has no position, counted where an encoder's track lacks it (R167). -/
def State.noPlace (s : State) (p : Nat) : (Nat × Nat) × State :=
  ((0x800000000000, 0),
    if p < 16 && s.obj (K.pitchEncoder p) < 8 then s.count (K.encStaleStamps (s.obj (K.pitchEncoder p))) 32 1 else s)

/-- A record takes the position of an instant, or owes it until its entry comes (R167). -/
def State.stamped (s : State) (p t : Nat) (rec : LineRec) : (LineRec × Option (Nat × Nat)) × State :=
  match s.placeOf p t with
  | .found v => (({ rec with position := (posWords v).1, fraction := (posWords v).2 }, none), s)
  | .stale => let r := s.noPlace p; (({ rec with position := r.1.1, fraction := r.1.2 }, none), r.2)
  | .waits => ((rec, some (p, t)), s)

/-- The pitch generator by which a context's lines are stamped: its own, or for a piece's output that of the piece's first input (R174). -/
def State.stampPitch (s : State) : Nat → Nat → Nat
  | 0, c => s.force (K.graphNodePitch c)
  | n + 1, c =>
    let p := s.force (K.graphNodePitch c)
    if p < 16 || s.force (K.graphNodeSource c) ≠ 2 then p
    else s.stampPitch n (u16At (s.force (K.graphPieceInputs (s.force (K.graphNodeInput c) / 256))) 0)

/-- The device clock at a value of the counter, at the present rate (R158). -/
def State.clockOf (s : State) (units : Nat) : Nat :=
  let k : Int := 1000000000 + signed 32 (s.obj K.timeRate)
  ((s.clock : Int) + ((units : Int) - s.time) * 1000000000 / k).toNat

end Sys2Proof.Machine
end

