-- ==== Sys2Proof/Machine/Store.lean ====
section
/-! DEFINITION. The Store and its DRAM controller (11_store.md): address map, rings and line records, ring policies, write
queues and drains, refresh, errors, retirement. -/

namespace Sys2Proof.Machine

/-! ## Contexts, rings and pseudo-channels -/

/-- A context's hidden state. -/
def State.ctx (s : State) (c : Nat) : Ctx := Sp.get (fun _ => Ctx.none_) s.ctxs c
def State.setCtx (s : State) (c : Nat) (x : Ctx) : State := { s with ctxs := Sp.put (fun _ => Ctx.none_) s.ctxs c x }
def State.modCtx (s : State) (c : Nat) (f : Ctx → Ctx) : State := s.setCtx c (f (s.ctx c))

/-- The ring of a context: its output ring, or its raw ring. -/
def State.ring (s : State) (c : Nat) (raw : Bool) : RingSt := if raw then (s.ctx c).raw else (s.ctx c).out
def State.setRing (s : State) (c : Nat) (raw : Bool) (r : RingSt) : State :=
  s.modCtx c (fun x => if raw then { x with raw := r } else { x with out := r })

/-- A pseudo-channel's hidden state. -/
def State.pc (s : State) (p : Nat) : Pc := Sp.get (fun _ => Pc.idle) s.pcs p
def State.setPc (s : State) (p : Nat) (x : Pc) : State := { s with pcs := Sp.put (fun _ => Pc.idle) s.pcs p x }

/-! ## Bytes -/

/-- What an unlisted byte of the Store reads as (DESIGN CHOICE, log entry 5). -/
def blankByte (_ : Nat) : Byte := 0

/-- The canonical form of the Store's bytes: addresses strictly rising, no entry equal to what an unlisted one reads as
(DESIGN CHOICE, log entry 5). -/
def Memory.wf (m : List (Nat × Byte)) : Bool := Sp.wf blankByte m

/-- A byte of the Store (DESIGN CHOICE, log entry 5; DESIGN CHOICE, log entry 40). -/
def State.byte (s : State) (a : Nat) : Byte := Sp.get blankByte s.mem a
def State.putByte (s : State) (a : Nat) (b : Byte) : State := { s with mem := Sp.put blankByte s.mem a b }

/-- The n bytes from an address. -/
def State.bytesAt (s : State) (a n : Nat) : List Byte := (List.range n).map (fun i => s.byte (a + i))

/-- Write bytes from an address upward. -/
def State.putBytes (s : State) : Nat → List Byte → State
  | _, [] => s
  | a, b :: bs => (s.putByte a b).putBytes (a + 1) bs

/-- Whether the transfer that holds an address is poisoned (R260). -/
def State.poisoned (s : State) (a : Nat) : Bool := Sp.get (fun _ => false) s.poison (a / 64)
def State.setPoison (s : State) (a : Nat) (b : Bool) : State := { s with poison := Sp.put (fun _ => false) s.poison (a / 64) b }

/-! ## The shadow (R91, R241, R311) -/

def shadowBytes : Nat := 67108864

/-- The shadow's base: the upper 64 MiB of the address space. -/
def State.shadowBase (s : State) : Nat := s.obj K.storeCapacity - shadowBytes

/-- An area of the shadow, its offset and its size, comes to hold some bytes: sound transfers, zero beyond them. -/
def State.fillShadow (s : State) (off size : Nat) (bs : List Byte) : State :=
  let a := s.shadowBase + off
  { s with mem := Sp.splice blankByte s.mem a size bs,
           poison := s.poison.filter (fun e => !(a / 64 ≤ e.1 && e.1 < (a + size) / 64)) }

/-- The areas of the shadow (R311): offset and size. -/
def areaProgram : Nat × Nat := (0x0000000, 0x400000)
def areaImage : Nat × Nat := (0x0400000, 0x1A00000)
def areaTable : Nat × Nat := (0x1E00000, 0x100000)
def areaMap : Nat × Nat := (0x1F00000, 0x100000)
def areaStaging : Nat × Nat := (0x2000000, 0x800000)
def areaWave (w : Nat) : Nat × Nat := (0x2800000 + 0x100000 * w, 0x100000)

/-- The CRC-32 of the shadow: a function of what stands in its areas; how what stands in its reserved and unused parts, and the order
of reading, enter it is open (R311, DESIGN CHOICE, log entry 2) (DESIGN CHOICE, log entry 26). -/
def State.shadowCrc (s : State) : Nat :=
  let part := fun (bs : List Byte) => toLE 4 bs.length ++ toLE 4 (crc32 bs)
  let waves := (List.range 16).flatMap (fun w => part ((s.blob (K.dacWaveData w)).getD []))
  let tables := s.frames.flatMap (fun f => toLE 2 f.1 ++ toLE 1 f.2.1 ++ f.2.2.1.flatMap (fun x => toLE 1 x) ++ toLE 2 f.2.2.2)
  Config.free 55 (ofLE (part ((s.blob K.graphProgram).getD []) ++ part ((s.blob K.configImage).getD []) ++
    part ((s.blob (stagedBlob K.configImage)).getD []) ++ waves ++ tables)) % 4294967296

/-- What was committed stands in the shadow: channel program, image, waveforms, each at its offset (R91, R311). -/
def State.copyShadow (s : State) : State :=
  let put := fun (st : State) (area : Nat × Nat) (k : Nat) => st.fillShadow area.1 area.2 ((st.blob k).getD [])
  (List.range 16).foldl (fun st w => put st (areaWave w) (K.dacWaveData w))
    (put (put s areaProgram K.graphProgram) areaImage K.configImage)

/-- `device.standby.shadow_crc` follows a valid shadow. -/
def State.showShadow (s : State) : State :=
  if s.obj K.deviceStandbyShadow = 1 then s.set K.deviceStandbyShadowCrc s.shadowCrc else s

/-- A running copy is complete: the shadow matches what is committed (R91). While the management client is RED it waits (R275). -/
def State.endCopy (s : State) : State :=
  if s.copying && !s.clientRed 46 then (({ s with copying := false } : State).copyShadow.set K.deviceStandbyShadow 1).showShadow else s

/-- Whether a read of the shadow meets an uncorrectable error (R260, R264). -/
def State.shadowPoisoned (s : State) : Bool :=
  s.poison.any (fun e => e.2 && decide (s.shadowBase / 64 ≤ e.1) && decide (e.1 < (s.shadowBase + shadowBytes) / 64))

/-! ## Self-refresh (R264, R266) -/

/-- Every pseudo-channel whose state is one code takes another. -/
def State.movePcs (s : State) (a b : Nat) : State :=
  (List.range 32).foldl (fun st p => if st.obj (K.storePcState p) = a then st.set (K.storePcState p) b else st) s

/-- Step 5 of the shutdown, and the end of self-refresh. -/
def State.sleepStore (s : State) : State := (s.set K.storeState 2).movePcs 0 1
def State.wakeStore (s : State) : State := (s.set K.storeState 1).movePcs 1 0

/-! ## Address map (R241 to R244) -/

def unitBytes : Nat := 65536
def regionBytes : Nat := 1048576

/-- The 27-bit transfer address within its stack id. -/
def transferOf (a : Nat) : Nat := (a / 64) % 2 ^ 27

/-- The exclusive-or of the bits of a number. -/
def parity (x : Nat) : Nat := (List.range 32).foldl (fun p i => (p + bitsOf x i i) % 2) 0

/-- Field bit i of a transfer address under nine packed masks (R242). -/
def mapBit (masks i t : Nat) : Nat := parity (u32At masks (4 * i) &&& t)

/-- The pseudo-channel of a transfer address (R242). -/
def pcOf (masks t : Nat) : Nat := (List.range 5).foldl (fun a i => a + mapBit masks i t * 2 ^ i) 0

/-- The bank, column and row of a transfer address (R242). -/
def bankOf (masks t : Nat) : Nat := (List.range 4).foldl (fun a i => a + mapBit masks (5 + i) t * 2 ^ i) 0
def columnOf (t : Nat) : Nat := bitsOf t 8 5
def rowOf (t : Nat) : Nat := bitsOf t 26 13

/-- Pack nine masks. -/
def packMasks (f : Nat → Nat) : Nat := (List.range 9).foldl (fun a i => a + f i * 2 ^ (32 * i)) 0

/-- The masks of the schemes LINEAR, ROW_FOLD and WIDE_FOLD (R244). -/
def schemeMasks (scheme custom : Nat) : Nat :=
  match scheme with
  | 2 => packMasks (fun i => if i < 5 then 2 ^ i + 2 ^ (13 + i) else 2 ^ (9 + (i - 5)) + 2 ^ (18 + (i - 5)))
  | 3 => packMasks (fun i => if i < 5 then 2 ^ i + 2 ^ (13 + i) + 2 ^ (18 + i)
      else 2 ^ (9 + (i - 5)) + 2 ^ (13 + (i - 5)) + 2 ^ (22 + (i - 5)))
  | 4 => custom
  | _ => packMasks (fun i => if i < 5 then 2 ^ i else 2 ^ (9 + (i - 5)))

/-- Whether mask i obeys R243. -/
def maskOk (i m : Nat) : Bool :=
  m < 2 ^ 27 && (if i < 5 then m % 2 ^ 5 == 2 ^ i else m % 2 ^ 13 == 2 ^ (9 + (i - 5)))

/-- The first mask that breaks R243. -/
def badMask (masks : Nat) : Option Nat := (List.range 9).find? (fun i => !maskOk i (u32At masks (4 * i)))

/-- The masks in force. -/
def State.masks (s : State) : Nat := s.obj K.storeMapMasks

/-- How many pseudo-channels a mask names. -/
def bitCount (m : Nat) : Nat := (List.range 32).foldl (fun a i => a + bitsOf m i i) 0

/-- The j-th transfer from t (a multiple of 32) whose pseudo-channel is in a mask, among the next 32 (R251). -/
def pickTransfer (masks mask t j : Nat) : Nat :=
  ((List.range 32).filter (fun i => bitsOf mask (pcOf masks (t + i)) (pcOf masks (t + i)) == 1)).getD j 0 + t

/-- The address of byte `off` of a run that starts at a base and passes over the transfers outside a mask (R251). -/
def spread (masks mask base off : Nat) : Nat :=
  if bitCount mask = 32 || mask = 0 then base + off
  else
    let n := bitCount mask
    let t := pickTransfer masks mask (base / 64 + 32 * (off / 64 / n)) (off / 64 % n)
    t * 64 + off % 64

/-- The address of byte `off` of line k of a ring (R245: lines packed end to end). -/
def State.lineAddr (s : State) (r : RingSt) (k off : Nat) : Nat :=
  spread s.masks r.mask r.base (k % max 1 r.lines * r.lineBytes + off)

/-- The address of byte `off` of the record of line k (R246). -/
def State.recAddr (s : State) (r : RingSt) (k off : Nat) : Nat :=
  spread s.masks r.mask r.recBase (k % max 1 r.lines * 32 + off)

/-! ## Line records (R246) -/

/-- The 32 bytes of a line record. -/
def LineRec.bytes (r : LineRec) : List Byte :=
  toLE 5 r.line ++ toLE 12 r.stamp ++ toLE 6 r.position ++ toLE 2 r.fraction ++ toLE 1 r.flags ++ toLE 3 r.length ++
    toLE 3 (min r.gap 0xFFFFFF)

/-- The record that 32 bytes spell; its line number holds bits [39:0]. -/
def LineRec.ofBytes (bs : List Byte) : LineRec :=
  ⟨leAt bs 0 5, leAt bs 5 12, leAt bs 17 6, leAt bs 23 2, leAt bs 25 1, leAt bs 26 3, leAt bs 29 3⟩

/-- The record in the stack at the place of line k. -/
def State.recordAt (s : State) (r : RingSt) (k : Nat) : LineRec :=
  LineRec.ofBytes ((List.range 32).map (fun i => s.byte (s.recAddr r k i)))

/-- The oldest line that a ring retains (R247). -/
def RingSt.oldest (r : RingSt) : Nat :=
  match r.latest, r.first with
  | some l, some f => max f (if r.begun && !r.skip then r.cur + 1 - r.lines else l + 1 - r.lines)
  | _, _ => 0

/-- Whether line k is retained and written. -/
def State.holdsLine (s : State) (r : RingSt) (k : Nat) : Bool :=
  match r.latest with
  | none => false
  | some l => r.oldest ≤ k && k ≤ l && (s.recordAt r k).line == k % 2 ^ 40

/-- The first retained line from k upward, looking at most n lines ahead. -/
def State.lineFrom (s : State) (r : RingSt) : Nat → Nat → Nat
  | 0, k => k
  | n + 1, k => if s.holdsLine r k then k else s.lineFrom r n (k + 1)

/-- The next line that a reader standing at k will read: the first written line from k, or k when none is left. -/
def State.nextLine (s : State) (r : RingSt) (k : Nat) : Nat :=
  match r.latest with
  | none => k
  | some l => if l < k then k else s.lineFrom r (l + 1 - max k r.oldest) (max k r.oldest)

/-- Whether any transfer of line k, or of its record, is poisoned (R261). -/
def State.linePoisoned (s : State) (r : RingSt) (k length : Nat) : Bool :=
  (List.range (ceilDiv length 64 + 1)).any (fun i => s.poisoned (s.lineAddr r k (min (64 * i) (length - 1)))) ||
    s.poisoned (s.recAddr r k 0)

/-! ## Ring policies (R248, R249) -/

/-- Whether a reader would lag when line k is written: an unread written line at or below k − N. -/
def RingSt.lags (r : RingSt) (k : Nat) (x : Reader) : Bool :=
  match r.latest with
  | none => false
  | some l => x.next ≤ l && x.next + r.lines ≤ k

/-- The first transfer of line k arrives: the policy decides, and line k − N is no longer retained (R247, R248). A lane whose reader skips
lines raises its FLOW source (R385). -/
def State.beginLine (s : State) (c : Nat) (raw : Bool) (k : Nat) : State :=
  let r := s.ring c raw
  let lag := r.readers.any (r.lags k)
  let kst := K.ctxRingPolicyState c
  let overwrite := raw || r.policy == 0
  if !overwrite && s.obj kst = 1 then
    (s.count (K.ctxRingUnwritten c) 64 1).setRing c raw { r with cur := k, fill := 0, begun := true, skip := true }
  else if !overwrite && lag && r.policy = 1 then
    (((s.set kst 1).raise 759 c).count (K.ctxRingUnwritten c) 64 1).setRing c raw
      { r with cur := k, fill := 0, begun := true, skip := true }
  else if !overwrite && lag then
    ((s.set kst 2).count (K.ctxRingUnwritten c) 64 1).setRing c raw
      { r with cur := k, fill := 0, begun := true, skip := true }
  else
    let s := if !raw && s.obj kst = 2 then s.set kst 0 else s
    let to_ := k + 1 - r.lines
    let skipped := r.readers.foldl (fun a x => if r.lags k x && x.kind != .slot then a + (to_ - x.next) else a) 0
    let s := if skipped = 0 then s else s.count (K.ctxRingSkipped c) 64 skipped
    let readers := r.readers.map (fun x => if r.lags k x && x.kind != .slot then { x with next := to_ } else x)
    let flow := r.readers.any (fun x => r.lags k x && x.kind == .lane)
    let r := { r with cur := k, fill := 0, begun := true, skip := false, readers := readers }
    let s := s.setRing c raw r
    let s := if flow then s.raise (514 + 4 * s.obj (K.ctxLane c)) 0 else s
    if raw then s else if r.latest.isSome then s.set (K.ctxOldest c) r.oldest else s

/-- A line's last transfer and its record are in the stack (R247): readers see it, and the context's record shows it. -/
def State.commitLine (s : State) (c : Nat) (raw : Bool) (rec : LineRec) : State :=
  let r := s.ring c raw
  let k := rec.line
  let caught := fun (x : Reader) => match r.latest with | none => true | some l => decide (l < x.next)
  let r := { r with
    latest := some k
    first := some (r.first.getD k)
    readers := r.readers.map (fun x => if caught x then { x with next := max x.next k } else x)
    recs := rec :: r.recs.take 1023 }
  let s := (List.range 32).foldl (fun st i => st.putByte (st.recAddr r k i) (rec.bytes.getD i 0)) s
  let s := s.setRing c raw r
  if raw then s
  else
    let s := ((s.set (K.ctxLine c) k).set (K.ctxOldest c) r.oldest).set (K.ctxFlags c) rec.flags
    s.set (K.ctxGap c) rec.gap

/-- Whether a line still has a transfer in a write queue. -/
def State.inFlight (s : State) (c : Nat) (raw : Bool) (k : Nat) : Bool :=
  s.pcs.any (fun e => e.2.wq.any (fun w => w.ctx == c && w.raw == raw && w.line == k))

/-- Commit the closed lines of a ring whose transfers are all in the stack, in order (DESIGN CHOICE, log entry 40). -/
def State.commitClosed (s : State) (c : Nat) (raw : Bool) : List LineRec → State
  | [] => s.setRing c raw { s.ring c raw with closing := [] }
  | rec :: rest =>
    if s.inFlight c raw rec.line then s.setRing c raw { s.ring c raw with closing := rec :: rest }
    else (s.commitLine c raw rec).commitClosed c raw rest

/-- Commit what can be committed on a ring. -/
def State.settleRing (s : State) (c : Nat) (raw : Bool) : State := s.commitClosed c raw (s.ring c raw).closing

/-- The end of a line reaches the switch: it waits for its transfers, or was never written. -/
def State.closeLine (s : State) (c : Nat) (raw : Bool) (rec : LineRec) (drop : Bool) : State :=
  let s := if (s.ring c raw).begun then s else s.beginLine c raw rec.line
  let r := s.ring c raw
  let done := { r with fill := 0, begun := false, skip := false, flush := false }
  if r.skip || drop then s.setRing c raw done
  else
    (s.setRing c raw { done with closing := r.closing ++ [{ rec with length := min r.fill 1048576 }] }).settleRing c raw

/-! ## Transfers through the switch (R245) -/

/-- The bytes of the leading words of one ring's line that fit in a room, and the items that remain. -/
def gather (c : Nat) (raw : Bool) (line : Nat) : Nat → List Item → List Byte × List Item
  | room, .word c' raw' l w v :: rest =>
    if c' = c && raw' = raw && l = line && w ≤ room && 0 < w then
      let g := gather c raw line (room - w) rest
      (toLE w v ++ g.1, g.2)
    else ([], .word c' raw' l w v :: rest)
  | _, items => ([], items)

/-- Whether the item after a transfer ends the line. -/
def endsLine (c : Nat) (raw : Bool) : List Item → Bool
  | .mark c' raw' _ _ _ :: _ => c' = c && raw' = raw
  | _ => false

/-- Take the end of a line off the front of the items, when it stands there; one whose position is still to come stays (R167). -/
def State.takeMark (s : State) (c : Nat) (raw : Bool) : List Item → State × List Item
  | .mark c' raw' rec drop owed :: rest =>
    if c' ≠ c || raw' ≠ raw then (s, .mark c' raw' rec drop owed :: rest)
    else match owed with
      | none => (s.closeLine c raw rec drop, rest)
      | some o =>
        let r := s.stamped o.1 o.2 rec
        if r.1.2.isSome && !drop then (s, .mark c' raw' rec drop owed :: rest) else (r.2.closeLine c raw r.1.1 drop, rest)
  | items => (s, items)

/-- Put a write in a pseudo-channel's write queue (R252). -/
def State.enqueue (s : State) (p : Nat) (e : WqEntry) : State :=
  s.setPc p { s.pc p with wq := (s.pc p).wq ++ [e] }

/-- Move one transfer from the front of a writer's items through port p: a full transfer, one that ends a line, or the tail
that is due. Words of a line beyond the ring's line bytes are dropped (DESIGN CHOICE, log entry 34). `none` where no whole transfer is ready for this port (R245, R252, R273). -/
def State.moveTransfer (s : State) (p : Nat) (ingest : Bool) (items : List Item) : Option (State × List Item) :=
  match items with
  | [] => none
  | .mark c raw _ _ _ :: _ =>
    let r := s.takeMark c raw items
    if r.2.length = items.length then none else some r
  | .word c raw k _ _ :: _ =>
    let s := if (s.ring c raw).begun then s else s.beginLine c raw k
    let r := s.ring c raw
    let room := 64 - (k % max 1 r.lines * r.lineBytes + r.fill) % 64
    let g := gather c raw k room items
    let a := s.lineAddr r k r.fill
    let fits := r.lineBytes - r.fill
    let due := g.1.length ≥ room || endsLine c raw g.2 || r.flush
    if r.skip || fits = 0 then
      some ((s.setRing c raw { r with flush := false }).takeMark c raw g.2)
    else if !due || pcOf s.masks (transferOf a) != p || (s.pc p).wq.length ≥ 64 then none
    else
      let bs := g.1.take fits
      let s := s.enqueue p ⟨c, raw, k, a, bs, ingest, s.clock⟩
      some ((s.setRing c raw { r with fill := r.fill + bs.length, flush := false }).takeMark c raw g.2)

/-- A write of the queue reaches the stack: a poisoned transfer becomes sound (R260). -/
def State.issueWrite (s : State) (p : Nat) (e : WqEntry) : State :=
  let s := (s.putBytes e.addr e.bytes).setPoison e.addr false
  let s := s.tally (K.storePcWrites p) 64 1
  s.setPc p { s.pc p with writes := (s.pc p).writes + 1 }

/-- The writes of a drain in its order: those of tile ingest first, then the oldest (R252). -/
def drainOrder (q : List WqEntry) : List WqEntry := q.filter (·.ingest) ++ q.filter (fun e => !e.ingest)

/-- How many writes a drain issues: all of ingest, and the rest down to the low watermark; all when an empty read queue
started it. -/
def drainCount (q : List WqEntry) : Drain → Nat
  | .none => 0
  | .watermark low => max (q.filter (·.ingest)).length (q.length - low)
  | .idle => q.length

/-- Issue writes one after another. -/
def State.issueAll (s : State) (p : Nat) : List WqEntry → State
  | [] => s
  | e :: es => (s.issueWrite p e).issueAll p es

/-- Commit what can be committed on the rings that a list of writes touched. -/
def State.settleRings (s : State) : List WqEntry → State
  | [] => s
  | e :: es => (s.settleRing e.ctx e.raw).settleRings es

/-- WRITE_DRAIN_START (R252): by the high watermark, by the age of an ingest write, or by an idle read queue. -/
def xWriteDrainStart (p : Nat) (s : State) : State :=
  let x := s.pc p
  let aged := x.wq.any (fun e => e.ingest && s.clock ≥ e.time + s.obj K.storeWqAge * perNs)
  if x.drain != .none || x.wq.isEmpty then s
  else
    let d := if x.wq.length ≥ s.obj K.storeWqHigh || aged then Drain.watermark (s.obj K.storeWqLow) else .idle
    (s.setPc p { x with drain := d }).count (K.storePcDrains p) 32 1

/-- WRITE_DRAIN_END (R252): the writes of the drain have been issued in its order (DESIGN CHOICE, log entry 40). -/
def xWriteDrainEnd (p : Nat) (s : State) : State :=
  let x := s.pc p
  let n := drainCount x.wq x.drain
  let out := (drainOrder x.wq).take n
  let s := s.setPc p { x with wq := (drainOrder x.wq).drop n, drain := .none }
  (s.issueAll p out).settleRings out

/-- TAIL_FLUSH_TIMEOUT (R245): the tail transfer of a context's rings is due. -/
def xTailFlush (c : Nat) (s : State) : State :=
  let items := (s.ctx c).outQ ++ s.tiles.flatMap (fun e => e.2.buf)
  let waits := fun (raw : Bool) => items.any (fun i => match i with | .word d r _ _ _ => d == c && r == raw | .mark .. => false)
  s.modCtx c (fun x => { x with out := { x.out with flush := x.out.flush || waits false }, raw := { x.raw with flush := x.raw.flush || waits true } })

/-! ## Refresh (R239, R253) -/

/-- Banks of a pseudo-channel (R239). -/
def bankCount (v : Variant) : Nat := if v = .sv4x128 then 32 else 48

/-- An all-bank refresh interposes: it repays one interval and is counted (R253) (DESIGN CHOICE, log entry 42). -/
def State.allBank (s : State) (p : Nat) : State :=
  let s := s.setPc p { s.pc p with debt := (s.pc p).debt - bankCount s.variant }
  let s := s.count (K.storePcAbRefreshes p) 32 1
  if s.obj K.storeRefreshAbEvent = 1 then s.raise (576 + 2 * p) 0 else s

/-- REFRESH_INTERVAL (R253): a tREFI adds the number of banks to the debt; per-bank refreshes repay it unless real-time
requests keep the banks busy, and at the postponement limit an all-bank refresh interposes (DESIGN CHOICE, log entry 42). -/
def xRefreshInterval (p : Nat) (blocked : Bool) (s : State) : State :=
  let banks := bankCount s.variant
  let debt := (s.pc p).debt + banks
  let s := s.setPc p { s.pc p with debt := debt }
  let s := if debt > s.obj (K.storePcDebtMax p) then s.set (K.storePcDebtMax p) debt else s
  if debt ≥ s.obj K.storeRefreshPostpone * banks then s.allBank p
  else if blocked then s else s.setPc p { s.pc p with debt := 0 }

/-- STACK_TEMP_READ (R239, R266): temperature and tREFI; the bandwidth of the last millisecond. -/
def xStackTemp (temp : Int) (s : State) : State :=
  let reads := s.pcs.foldl (fun a e => a + e.2.reads) 0
  let writes := s.pcs.foldl (fun a e => a + e.2.writes) 0
  let s := s.set K.storeTemp (satSigned 16 temp)
  let s := s.set K.storeTrefi (f32OfNat (if temp > 85 then 1950 else 3900))
  let s := (s.set K.storeBwRead (f32OfRat (reads * 64) 1000000)).set K.storeBwWrite (f32OfRat (writes * 64) 1000000)
  s.pcs.foldl (fun st e => st.setPc e.1 { st.pc e.1 with reads := 0, writes := 0 }) s

/-- RT_WAIT_EXCEEDED (R257): the longest real-time wait, and the TIMING source beyond 16 µs. -/
def xRtWait (p wait : Nat) (s : State) : State :=
  let f := f32OfNat wait
  let s := if f32Key (s.obj (K.storePcRtWaitMax p)) < f32Key f then s.set (K.storePcRtWaitMax p) f else s
  if wait > 16000 then s.raise (576 + 2 * p) 0 else s

/-! ## Errors (R260 to R263) -/

/-- Ask for SAFE with a cause bit (R93). -/
def State.askSafe (s : State) (bit : Nat) : State := { s with safeAsk := s.safeAsk ||| 2 ^ bit }

/-- A fatal Store error (R263). -/
def State.storeFatal (s : State) : State :=
  let t := s.set K.storeState 4
  (State.riseIf s t 762 0).askSafe 6

/-- The retired and unusable regions in use. -/
def State.retiredList (s : State) : List Nat :=
  (List.range (s.obj K.storeRetiredCount)).map (fun i => u32At (s.obj K.storeRetired) (4 * i))
def State.unusableList (s : State) : List Nat :=
  (List.range (s.obj K.storeUnusableCount)).map (fun i => u32At (s.obj K.storeUnusable) (4 * i))

/-- Whether a ring or its record ring includes a region. -/
def RingSt.includes (r : RingSt) (region : Nat) : Bool :=
  0 < r.bytes &&
  ((r.base / regionBytes ≤ region && region ≤ (r.base + r.bytes - 1) / regionBytes) ||
   (r.recBase / regionBytes ≤ region &&
    region ≤ (r.recBase + max 1 (ceilDiv (ceilDiv (r.lines * 1024) (max 1 (bitCount r.mask))) unitBytes) * unitBytes - 1) / regionBytes))

/-- Contexts whose rings include an unusable region fail at their next boundary, in every placement until a reset (R262). -/
def State.failUnusable (s : State) : State :=
  s.ctxs.foldl (fun st e => if s.unusableList.any (fun r => e.2.out.includes r || e.2.raw.includes r) then
    st.modCtx e.1 (fun x => { x with failDue := 18 }) else st) s

/-- A region becomes unusable (R262): listed, reported, and its contexts fail at their next boundary with cause STORE. A
seventeenth is fatal (R263) (DEDUCED, log entry 43). -/
def State.makeUnusable (s : State) (region p : Nat) : State :=
  if s.unusableList.contains region then s
  else
    let n := s.obj K.storeUnusableCount
    let s := s.ctxs.foldl (fun st e => if e.2.out.includes region || e.2.raw.includes region then
      st.modCtx e.1 (fun x => { x with failDue := 18 }) else st) s
    if n ≥ 16 then (s.raise (577 + 2 * p) region).storeFatal
    else
      let s := s.set K.storeUnusable (withBits (s.obj K.storeUnusable) (32 * n + 31) (32 * n) region)
      (s.set K.storeUnusableCount (n + 1)).raise (577 + 2 * p) region

/-- Queue a region for retirement (R260): at most 4 wait. A region already dealt with counts no further (DEDUCED, log entry 43). -/
def State.retireRegion (s : State) (region p : Nat) : State :=
  if s.retiredList.contains region || s.unusableList.contains region || s.retireQ.any (fun e => e.1 == region) then s
  else if s.retireQ.length ≥ 4 || s.obj K.storeRetiredCount + s.retireQ.length ≥ 64 then s.makeUnusable region p
  else { s with retireQ := s.retireQ ++ [(region, p)] }

/-- Corrected errors of a read (R260): counted; a region that gathers 16 within 1 s is retired (DEDUCED, log entry 43). -/
def State.corrected (s : State) (p addr n : Nat) : State :=
  if n = 0 then s
  else
    let region := addr / regionBytes
    let s := s.count (K.storePcCorrected p) 32 n
    let recent := s.corrections.filter (fun e => s.clock < e.2 + perS) ++ List.replicate n (region, s.clock)
    let s := { s with corrections := recent }
    if (recent.filter (fun e => e.1 == region)).length ≥ 16 then s.retireRegion region p else s

/-- An uncorrectable read whose retry fails (R260): the transfer is poisoned, its region retired. -/
def State.uncorrected (s : State) (p addr : Nat) : State :=
  ((s.setPoison addr true).count (K.storePcUncorrected p) 32 1).retireRegion (addr / regionBytes) p

/-- REGION_COPY_COMPLETE (R260 steps 3 to 5): the map switches to the lowest free spare region. Region copies wait while the
Placer and scrubber client is RED (R275). -/
def xRegionCopy (s : State) : State :=
  match s.retireQ with
  | [] => s
  | (region, p) :: rest =>
    if s.clientRed 47 then s
    else
      let n := s.obj K.storeRetiredCount
      let s := { s with retireQ := rest }
      let s := s.set K.storeRetired (withBits (s.obj K.storeRetired) (32 * n + 31) (32 * n) region)
      (s.set K.storeRetiredCount (n + 1)).raise (577 + 2 * p) region

/-- PARITY_RETRY (R263): each retry counts; the third failure is fatal (DEDUCED, log entry 43). -/
def xParityRetry (p : Nat) (ok : Bool) (s : State) : State :=
  let n := (s.pc p).retries + 1
  let s := s.count (K.storePcParity p) 32 1
  if ok then s.setPc p { s.pc p with retries := 0 }
  else if n ≥ 3 then ((s.setPc p { s.pc p with retries := 0 }).set (K.storePcState p) 2).storeFatal
  else s.setPc p { s.pc p with retries := n }

/-- STORE_PC_CLEAR (R257): clears debt_max and rt_wait_max. -/
def xStorePcClear (p : Nat) (s : State) : State := (s.set (K.storePcDebtMax p) 0).set (K.storePcRtWaitMax p) 0

/-! ## Writes of this chapter's objects -/

/-- CTX_RING_RESUME (R248, R249): a STOPPED ring resumes; otherwise nothing changes. -/
def xRingResume (c : Nat) (s : State) : State :=
  if s.obj (K.ctxRingPolicyState c) = 1 then s.set (K.ctxRingPolicyState c) 0 else s

/-- Checks of the watermarks (R252). -/
def guardWatermarks (high low : Nat) : Res Unit := need (low + 8 ≤ high) aRange (low + 8)

/-- Checks of `store.map.masks` (R59, R243, R266): every mask well formed, and LOAD only (DEDUCED, log entry 11). -/
def guardMasks (s : State) (v : Nat) : Res Unit :=
  match badMask v with
  | none => needMode s [mLoad]
  | some i => .error ⟨aRange, i⟩

end Sys2Proof.Machine
end

