-- ==== Sys2Proof/Machine/Units.lean ====
section
/-! DEFINITION. Access to the hidden state of tiles, monitors, chain slots, encoders and pitch generators, and exact
arithmetic on rates and times shared by their chapters. -/

namespace Sys2Proof.Machine

/-! ## Hidden state by unit -/

def State.tile (s : State) (n : Nat) : Tile := Sp.get (fun _ => Tile.none_) s.tiles n
def State.setTile (s : State) (n : Nat) (x : Tile) : State := { s with tiles := Sp.put (fun _ => Tile.none_) s.tiles n x }
def State.modTile (s : State) (n : Nat) (f : Tile → Tile) : State := s.setTile n (f (s.tile n))

def State.mon (s : State) (w : Nat) : Mon := Sp.get (fun _ => Mon.none_) s.mons w
def State.setMon (s : State) (w : Nat) (x : Mon) : State := { s with mons := Sp.put (fun _ => Mon.none_) s.mons w x }

def State.chain (s : State) (i : Nat) : Chain := Sp.get (fun _ => Chain.none_) s.chains i
def State.setChain (s : State) (i : Nat) (x : Chain) : State := { s with chains := Sp.put (fun _ => Chain.none_) s.chains i x }
def State.modChain (s : State) (i : Nat) (f : Chain → Chain) : State := s.setChain i (f (s.chain i))

/-! ## Exact rates and times -/

/-- A non-negative fraction. -/
structure Frac where
  num : Nat
  den : Nat
  deriving DecidableEq, Repr

/-- The fraction of non-negative binary32 bits. -/
def fracOfF32 (x : Nat) : Frac := ⟨f32Mag x, f32Den⟩

/-- The binary32 bits of a fraction (PRESUMED, log entry 8). -/
def Frac.f32 (q : Frac) : Nat := f32OfRat q.num q.den

def Frac.mul (a b : Frac) : Frac := ⟨a.num * b.num, a.den * b.den⟩
def Frac.div (a b : Frac) : Frac := ⟨a.num * b.den, a.den * b.num⟩
def Frac.add (a b : Frac) : Frac := ⟨a.num * b.den + b.num * a.den, a.den * b.den⟩
def Frac.lt (a b : Frac) : Bool := a.num * b.den < b.num * a.den

/-- The least integer at or above a fraction. -/
def Frac.ceil (a : Frac) : Nat := ceilDiv a.num a.den

/-- A time given in seconds as units of 2^-16 ns, rounded half to even; 0 for a zero divisor. -/
def Frac.units (a : Frac) : Nat := if a.den = 0 then 0 else (roundHalfEven ((a.num * perS : Nat) : Int) a.den).toNat

/-- The square root of a fraction to 64 more binary places than its size needs, as binary32 bits. -/
def Frac.sqrtF32 (a : Frac) : Nat :=
  if a.num = 0 || a.den = 0 then 0
  else
    let k := 64 + Nat.log2 a.den
    f32OfRat (isqrt (a.num * 2 ^ (2 * k) / a.den)) (2 ^ k)

/-- 2π, to fifteen places. -/
def twoPi : Frac := ⟨6283185307179586, 1000000000000000⟩

/-- The time constant of a first-order bandwidth in Hz: 1 ÷ (2π × f). -/
def tauOf (f : Frac) : Frac := Frac.div ⟨1, 1⟩ (Frac.mul twoPi f)

/-- A count of nanoseconds over a thousand, as a fraction of a second. -/
def picos (n : Nat) : Frac := ⟨n, 1000000000000⟩

/-- Round an integer quotient half to even into a signed object of w bits. -/
def roundSigned (w : Nat) (num : Int) (den : Nat) : Nat := satSigned w (roundHalfEven num den)

/-! ## Contexts and their nodes -/

/-- A committed field of a graph node (R223): what was in force before any written value. -/
def State.node (s : State) (k : Nat) : Nat := s.force k

/-- Context states (R225). -/
def cFree : Nat := 0
def cDefined : Nat := 1
def cPlaced : Nat := 2
def cPrimed : Nat := 3
def cFlowing : Nat := 4
def cDraining : Nat := 5
def cDegraded : Nat := 6
def cFailed : Nat := 7

/-- The lifecycle state of a context. -/
def State.ctxState (s : State) (c : Nat) : Nat := s.obj (K.ctxState c)

/-- The contexts that hold a ring, in ascending order. -/
def State.ringed (s : State) : List Nat := s.ctxs.map (fun e => e.1)

/-- Whether a context is placed on a tile. -/
def State.onTile (s : State) (n c : Nat) : Bool := s.obj (K.ctxTile c) == n && s.ctxState c ≥ cPlaced

/-- The contexts that a tile serves (R105). -/
def State.tileCtxs (s : State) (n : Nat) : List Nat := s.ringed.filter (s.onTile n)

/-- The contexts of a committed graph: nodes whose source is not NONE. -/
def State.isNode (s : State) (c : Nat) : Bool := s.node (K.graphNodeSource c) != 0

/-- The pad that a tile context reads. -/
def State.padOf (s : State) (c : Nat) : Nat := s.node (K.graphNodeInput c)

/-- Whether a context scans (R130). -/
def State.scans (s : State) (c : Nat) : Bool := s.node (K.graphNodeScan c) != 0xFFFF

/-- The scan slot of a context. -/
def State.scanSlot (s : State) (c : Nat) : Nat := s.node (K.graphNodeScan c) % 256

/-- The engine slot that holds a context's chain: engine × 16 + slot. -/
def State.slotOf (s : State) (c : Nat) : Option Nat :=
  let e := s.obj (K.ctxEngine c)
  if e = 0xFFFF then none else some (e / 256 * 16 + e % 256)

/-- Whether a context has a chain. -/
def State.chained (s : State) (c : Nat) : Bool := (s.slotOf c).isSome

/-- The line or block in progress of a context. -/
def State.curOf (s : State) (c : Nat) : Option Cur := (s.ctx c).cur

/-- The line number that a context has in progress, or its latest. -/
def State.lineNow (s : State) (c : Nat) : Nat :=
  match s.curOf c with
  | some l => l.line
  | none => s.obj (K.ctxLine c)

/-- Keys in a range of indices with a subindex, in rising order without repeats, of what is stored or in force. -/
def State.keysAt (s : State) (lo hi sub : Nat) : List Nat :=
  let hit := fun (k : Nat) => decide (lo ≤ k / 256) && decide (k / 256 < hi) && k % 256 == sub
  let ks := (s.dict.map (·.1)).filter hit ++ (s.inForce.map (·.1)).filter hit
  (ks.foldl (fun m k => Sp.insert m k ()) []).map (·.1)

end Sys2Proof.Machine
end

