-- ==== Sys2Proof/Machine/Tiles.lean ====
section
/-! DEFINITION. Analogue tiles and routing switches (05_analogue_tiles.md) and converters and limit ratios
(06_converters_limits.md): settings in force, checks of writes, pads and buses, ingest buffer, word format, limit ratios,
interleave estimator. -/

namespace Sys2Proof.Machine

/-! ## Settings in force -/

def State.formOf (s : State) (n : Nat) : Nat := s.obj (K.tileFeForm n)
def State.adcMode (s : State) (n : Nat) : Nat := s.obj (K.tileAdcMode n)

/-- The word rate of a tile. -/
def State.fsOf (s : State) (n : Nat) : Frac := fracOfF32 (s.obj (K.tileAdcFs n))

/-- The gain codes that a form accepts (R108). -/
def gainRange (form : Nat) : Nat × Nat :=
  match form with
  | 1 => (0, 184)
  | 2 => (24, 24)
  | 3 => (0, 104)
  | 4 => (24, 184)
  | _ => (0, 184)

/-- Check of a gain code against the form, detail the nearest permitted code (R108). -/
def guardGain (form v : Nat) : Res Unit :=
  let r := gainRange form
  need (r.1 ≤ v && v ≤ r.2) aRange (max r.1 (min v r.2))

/-- The −3 dB bandwidth of a TIA feedback step in Hz (R110). -/
def tiaBandwidth (rf : Nat) : Nat :=
  match rf with
  | 0 => 110000000
  | 1 => 60000000
  | 2 => 25000000
  | 3 => 9000000
  | 4 => 3200000
  | 5 => 1000000
  | _ => 320000

/-- The feedback resistance of a step in ohms × 100 (R110). -/
def tiaOhms (rf : Nat) : Frac :=
  match rf with
  | 0 => ⟨1000, 1⟩
  | 1 => ⟨3160, 1⟩
  | 2 => ⟨10000, 1⟩
  | 3 => ⟨31600, 1⟩
  | 4 => ⟨100000, 1⟩
  | 5 => ⟨316000, 1⟩
  | _ => ⟨1000000, 1⟩

/-- τ of a feedback step (R118). -/
def tiaTau (rf : Nat) : Frac := tauOf ⟨tiaBandwidth rf, 1⟩

/-- The biquad type in force: in CDS form the biquad is bypassed whatever the object holds (05, Correlated double sampling). -/
def State.bqType (s : State) (n : Nat) : Nat := if s.formOf n = 3 then 0 else s.force (K.tileBqType n)

/-- The natural frequency of a half's biquad as the hardware uses it: ANTIALIAS sets 0.40 × the sample rate (R119). -/
def State.biquadF0 (s : State) (n half : Nat) : Frac :=
  if s.force (K.tileBqType n) = 4 then Frac.mul ⟨2, 5⟩ (s.fsOf n)
  else fracOfF32 (s.force (if half = 1 then K.tileBqF0B n else K.tileBqF0 n))

/-- The nominal group delay of a biquad in seconds (R119). -/
def biquadDelay (type : Nat) (f0 q : Frac) : Frac :=
  match type with
  | 1 => Frac.div ⟨2251, 10000⟩ f0
  | 2 => Frac.div ⟨2757, 10000⟩ f0
  | 3 => Frac.div (Frac.mul ⟨2, 1⟩ q) (Frac.mul twoPi f0)
  | 4 => Frac.div ⟨2251, 10000⟩ f0
  | _ => ⟨0, 1⟩

/-- The nominal delay of the front end and biquad in seconds (R118, R173). -/
def State.nominalDana (s : State) (n half : Nat) : Frac :=
  let front := match s.formOf n with
    | 1 => picos 800
    | 2 => tiaTau (s.force (if half = 1 then K.tileFeRfB n else K.tileFeRf n))
    | 4 => picos 3000
    | _ => ⟨0, 1⟩
  Frac.add front (biquadDelay (s.bqType n) (s.biquadF0 n half) (fracOfF32 (s.force (K.tileBqQ n))))

/-- The converter latency in seconds (R142): 9 periods of fs, with half B, PAIRED and LOWNOISE as their rows give. -/
def State.latency (s : State) (n half : Nat) : Frac :=
  let t := Frac.div ⟨1, 1⟩ (s.fsOf n)
  match s.adcMode n with
  | 2 => if half = 1 then Frac.mul ⟨19, 2⟩ t else Frac.mul ⟨9, 1⟩ t
  | 3 => Frac.mul ⟨19, 2⟩ t
  | 4 =>
    let m := max 1 (s.obj (K.tileAdcOsr n))
    Frac.mul ⟨18 + (m - 1), 2 * m⟩ t
  | _ => Frac.mul ⟨9, 1⟩ t

/-- A value that the device realises within 0.5 % of what was written, the rest left open (R119, DESIGN CHOICE, log entry 2)
(DEDUCED, log entry 32). -/
def State.realise (s : State) (v : Nat) : Nat × State :=
  let d := s.draw 2
  ((Frac.mul (fracOfF32 v) ⟨99500 + d.1 % 1001, 100000⟩).f32, d.2)

/-- The front end's reports follow the setting in force: f0 realised and nominal delay (R119). -/
def State.reportBiquad (s : State) (n : Nat) : State :=
  let f := s.biquadF0 n 0
  let r := s.realise f.f32
  let s := r.2.set (K.tileBqF0Real n) r.1
  s.set (K.tileBqDelay n)
    (Frac.mul ⟨1000000000, 1⟩ (biquadDelay (s.bqType n) f (fracOfF32 (s.force (K.tileBqQ n))))).f32

/-! ## Settling (R118) -/

/-- The settings of a tile that settle, as they are in force. -/
structure FrontEnd where
  gain : Nat
  rf : Nat
  offset : Nat
  polarity : Nat
  bias : Nat
  type : Nat
  f0 : Nat
  q : Nat
  cds : List Nat
  deriving DecidableEq, Repr

/-- The front-end settings in force of one half. -/
def State.frontEnd (s : State) (n half : Nat) : FrontEnd :=
  let pick := fun (a b : Nat) => s.force (if half = 1 then b else a)
  ⟨pick (K.tileFeGain n) (K.tileFeGainB n), pick (K.tileFeRf n) (K.tileFeRfB n), pick (K.tileFeOffset n) (K.tileFeOffsetB n),
   s.force (K.tileFePolarity n), s.force (K.tileFePdBias n), s.force (K.tileBqType n),
   pick (K.tileBqF0 n) (K.tileBqF0B n), s.force (K.tileBqQ n),
   [K.tileCdsResetPhase n, K.tileCdsVideoPhase n, K.tileCdsPixels n, K.tileCdsLead n, K.tileCdsBlackFirst n, K.tileCdsBlackCount n,
    K.tileCdsBlackTarget n, K.tileCdsClampShift n].map s.force⟩

/-- What of a biquad's settings takes effect: BYPASS and ANTIALIAS use no written f0, and only BANDPASS has a Q (R119). -/
def FrontEnd.biquad (a : FrontEnd) : Nat × Nat × Nat :=
  (a.type, if a.type = 0 || a.type = 4 then 0 else a.f0, if a.type = 3 then a.q else 0)

/-- The maximum settling times of the changes between two settings, in seconds; none where nothing in use changes, 0 for a change of
the CDS timing alone (R118). -/
def settleTimes (form : Nat) (fs f0 : Frac) (a b : FrontEnd) : List Frac :=
  let tau12 := Frac.mul ⟨12, 1⟩ (tiaTau b.rf)
  let gain := if a.gain = b.gain then [] else match form with
    | 1 => [picos 40000]
    | 4 => [picos 400000]
    | 3 => [Frac.div ⟨1, 1⟩ fs]
    | _ => []
  let rf := if a.rf ≠ b.rf && form = 2 then [tau12] else []
  let offset := if a.offset = b.offset then [] else match form with
    | 1 | 3 => [picos 40000]
    | 4 => [picos 400000]
    | 2 => [tau12]
    | _ => []
  let pol := if (a.polarity ≠ b.polarity || a.bias ≠ b.bias) && form = 2 then [tau12] else []
  let bq := if a.biquad ≠ b.biquad && form ≠ 3 then [Frac.mul ⟨12, 1⟩ (tauOf f0)] else []
  let cds := if a.cds ≠ b.cds && form = 3 then [⟨0, 1⟩] else []
  gain ++ rf ++ offset ++ pol ++ bq ++ cds

/-- The most of a list of times in words of a rate, rounded up (R208: A). -/
def wordsOf (fs : Frac) (ts : List Frac) : Nat := (ts.map (fun t => (Frac.mul t fs).ceil)).foldl max 0

/-- The maximum settling time of the selector in a form (R118, R132). -/
def selectorTime (form rf : Nat) : Frac :=
  match form with
  | 4 => picos 1200000
  | 2 => Frac.mul ⟨12, 1⟩ (tiaTau rf)
  | _ => picos 60000

/-- The maximum settling time of a gain change in a form (R118, R132). -/
def gainTime (form : Nat) : Frac :=
  match form with
  | 4 => picos 400000
  | 1 => picos 40000
  | _ => ⟨0, 1⟩

/-! ## Staged values (R105) -/

/-- The keys of a tile's sixteen indices that wait with a pending value. -/
def State.stagedOf (s : State) (n : Nat) : List Nat :=
  (s.inForce.map (fun e => e.1)).filter (fun k => 0x3000 + 16 * n ≤ k / 256 && k / 256 < 0x3010 + 16 * n)

/-- Whether a staged key of a tile waits for the boundary of one half's context: in split mode each half has its own gain, feedback
step, offset and f0 (R105, R116). -/
def State.ofHalf (s : State) (n half k : Nat) : Bool :=
  s.adcMode n != 2 || !(if half = 1 then [K.tileFeGain n, K.tileFeRf n, K.tileFeOffset n, K.tileBqF0 n]
    else [K.tileFeGainB n, K.tileFeRfB n, K.tileFeOffsetB n, K.tileBqF0B n]).contains k

/-- Put byte j of every slot of a scan table. -/
def slotBytes (slots j v table : Nat) : Nat := (List.range slots).foldl (fun a i => withByte a (8 * i + j) v) table

/-- A gain or a feedback step written for a scanning tile is that of each of its slots, as it goes into the node of each of its
contexts (R105, R130) (DESIGN CHOICE, log entry 33). -/
def State.scanFollows (s : State) (n : Nat) (ks : List Nat) : State :=
  let m := s.obj (K.tileScanSlots n)
  if m ≤ 1 then s
  else
    let s := if ks.contains (K.tileFeGain n) then
        let g := s.force (K.tileFeGain n)
        let s := s.set (K.tileScanTable n) (slotBytes m 1 g (s.obj (K.tileScanTable n)))
        if s.isPending (K.tileScanGain n) then s
        else s.set (K.tileScanGain n) ((List.range m).foldl (fun a i => withByte a i g) (s.obj (K.tileScanGain n)))
      else s
    if ks.contains (K.tileFeRf n) && s.formOf n = 2 then
      s.set (K.tileScanTable n) (slotBytes m 2 (s.force (K.tileFeRf n)) (s.obj (K.tileScanTable n)))
    else s

/-- The staged values of a tile that wait for the boundary of one half take effect, but for the gains of its scan slots (R105, R130)
(DESIGN CHOICE, log entry 33). -/
def State.settleTile (s : State) (n half : Nat) : State :=
  let ks := (s.stagedOf n).filter (fun k => k != K.tileScanGain n && s.ofHalf n half k)
  if ks.isEmpty then s else ((ks.foldl (fun st k => st.settle k) s).scanFollows n ks).reportBiquad n

/-- Put a value into force and leave a pending one waiting. -/
def State.inUse (s : State) (k v : Nat) : State :=
  if s.isPending k then { s with inForce := Sp.insert s.inForce k v } else if s.obj k = v then s else s.set k v

/-- The gain of a scan slot takes effect at the start of its next visit (R130); the table shows the slots in force. -/
def State.settleScanGain (s : State) (n slot : Nat) : State :=
  let k := K.tileScanGain n
  if s.isPending k then
    let g := byteAt (s.obj k) slot
    let f := withByte (s.force k) slot g
    let s := { s with inForce := if f = s.obj k then Sp.erase s.inForce k else Sp.insert s.inForce k f }
    s.set (K.tileScanTable n) (withByte (s.obj (K.tileScanTable n)) (8 * slot + 1) g)
  else s

/-- The places that a front-end object of a tile takes in `graph.node[c].fe`: offset and bytes, for half A, half B or both
(R223, R430). -/
def nodePlace (index sub : Nat) : Option (Nat × Nat × Nat) :=
  match index % 16, sub with
  | 0, 2 => some (0, 1, 1)
  | 0, 3 => some (1, 1, 1)
  | 0, 4 => some (2, 2, 1)
  | 0, 5 => some (4, 1, 0)
  | 0, 6 => some (5, 1, 0)
  | 0, 10 => some (0, 1, 2)
  | 0, 11 => some (1, 1, 2)
  | 0, 12 => some (2, 2, 2)
  | 1, 1 => some (16, 2, 0)
  | 1, 2 => some (18, 2, 0)
  | 1, 3 => some (20, 2, 0)
  | 1, 4 => some (22, 2, 0)
  | 1, 5 => some (24, 2, 0)
  | 1, 6 => some (26, 1, 0)
  | 1, 7 => some (28, 2, 0)
  | 1, 8 => some (27, 1, 0)
  | 2, 1 => some (6, 1, 0)
  | 2, 2 => some (8, 4, 1)
  | 2, 3 => some (12, 4, 0)
  | 2, 6 => some (8, 4, 2)
  | _, _ => none

/-- The device's own copy of a value into a node object, as a write of class DEVICE (R105, R223): into the value in force, and into
the one that a written node object keeps for the next commit. -/
def State.copyField (s : State) (k : Nat) (f : Nat → Nat) : State :=
  let s := if s.isPending k then { s with inForce := Sp.insert s.inForce k (f (s.force k)) } else s
  s.set k (f (s.obj k))

/-- Copy a value into bytes of a context's node (R105) (DESIGN CHOICE, log entry 33). -/
def State.copyToNode (s : State) (c off len v : Nat) : State :=
  s.copyField (K.graphNodeFe c) (fun x => withBits x (8 * (off + len) - 1) (8 * off) v)

/-- The device's own copies of a staged tile value into the nodes of the contexts that the tile serves (R105)
(DESIGN CHOICE, log entry 33). -/
def State.copyStaged (s : State) (n index sub v : Nat) : State :=
  match nodePlace index sub with
  | some (off, len, half) =>
    (s.tileCtxs n).foldl (fun st c =>
      let h := st.obj (K.ctxHalf c)
      if half = 0 || (half = 1 && h ≠ 1) || (half = 2 && h = 1) then st.copyToNode c off len v else st) s
  | none =>
    if index % 16 = 8 && sub = 6 then
      (s.tileCtxs n).foldl (fun st c => st.copyField (K.graphNodePhase c) (fun _ => v)) s
    else if index % 16 = 4 && sub = 5 then
      (s.tileCtxs n).foldl (fun st c => st.copyToNode c 0 1 (byteAt v (st.scanSlot c))) s
    else s

/-- The other tile of a pair in force (R117): partner of a tile, if it has one. -/
def State.partner (s : State) (n : Nat) : Option Nat :=
  let p := s.obj (K.tileRoutePartner n)
  if p = 0xFF && s.adcMode n ≠ 3 then none else some p

/-- After a staged tile value has been written: it holds for both tiles of a pair, whose odd tile samples half a period later (R117,
R137), and goes into the nodes. -/
def actTileStaged (n index sub v : Nat) (s : State) : State :=
  let s := match s.partner n with
    | some m =>
      let k := key (0x3000 + 16 * m + index % 16) sub
      (s.hold k).poke k (if index % 16 = 8 && sub = 6 then (v + 512) % 1024 else v)
    | none => s
  let even := match s.partner n with | some m => min m n | none => n
  s.copyStaged even index sub v

/-! ## Checks of tile writes -/

/-- Outside split mode, a write of a half-B object ends with NOT_IN_MODE (R116) (DEDUCED, log entry 32). -/
def guardHalfB (s : State) (n : Nat) : Res Unit := need (s.adcMode n == 2) aMode (s.adcMode n)

/-- In BIPOLAR the detector bias must be 0 (R111). What a write of polarity BIPOLAR does while the bias is not 0 is left open: it
succeeds, and the bias stays as written (DESIGN CHOICE, log entry 33). -/
def guardBias (s : State) (n v : Nat) : Res Unit := need (v == 0 || s.obj (K.tileFePolarity n) != 0) aRange 0

/-- The two sample instants of CDS (R113): video after reset, and both spacings at least 3.0 ns. A tile without a rate is
checked for the order alone; outside CDS form the pixel period is 1 ÷ `adc.fs` all the same (DESIGN CHOICE, log entry 33). -/
def guardCdsPhases (s : State) (n reset video : Nat) : Res Unit :=
  let fs := s.obj (K.tileAdcFs n)
  if video ≤ reset then badRange
  else if fs = 0 then .ok ()
  else
    let t := Frac.div ⟨1, 1⟩ (fracOfF32 fs)
    let d := Frac.mul ⟨video - reset, 1024⟩ t
    let e := Frac.mul ⟨1024 - (video - reset), 1024⟩ t
    need (!Frac.lt d (picos 3000) && !Frac.lt e (picos 3000)) aRange 0

/-- A write to the odd tile's phase of a pair ends with NOT_IN_MODE (R137). -/
def guardPhase (s : State) (n : Nat) : Res Unit := need (!(s.adcMode n == 3 && n % 2 == 1)) aMode (s.adcMode n)

/-- Every byte of the scan gains is a gain code of the form (R108, R130, R133). -/
def guardScanGain (s : State) (n v : Nat) : Res Unit :=
  let r := gainRange (s.formOf n)
  match (List.range 16).find? (fun i => !(decide (r.1 ≤ byteAt v i) && decide (byteAt v i ≤ r.2))) with
  | some i => .error ⟨aRange, max r.1 (min (byteAt v i) r.2)⟩
  | none => .ok ()

/-- The DAC source of a test bus is absent on the SV4-256N (R123). -/
def guardTbusSrc (s : State) (v : Nat) : Res Unit := need (!(v == 2 && s.variant == .sv4x256n)) aAbsent 0x00070000

/-! ## Pads and buses (R121 to R129) -/

/-- The state that a pad bus shows when no contention holds: DRIVEN by its entry switch, TEST by its bridge, IDLE
(DEDUCED, log entry 35). -/
def State.busState (s : State) (n : Nat) : Nat :=
  if s.obj (K.tilePadEntry n) = 1 then 1 else if s.obj (K.tilePadTest n) = 1 then 2 else 0

/-- Show the state of a pad bus after its switches moved; a contended bus stays so. -/
def State.showBus (s : State) (n : Nat) : State :=
  if s.obj (K.tilePadBus n) = 3 then s else s.set (K.tilePadBus n) (s.busState n)

/-- After a write of a test bridge (R123). -/
def actPadTest (n : Nat) (s : State) : State := s.showBus n

/-- After a write of a test-bus source (R123). -/
def actTbusSrc (k v : Nat) (s : State) : State :=
  if s.obj (K.testBusState k) = 3 then s else s.set (K.testBusState k) (if v = 0 then 0 else 1)

/-- PAD_OVERLOAD (R129): each onset latches, counts and raises. -/
def xPadOverload (n : Nat) (s : State) : State :=
  ((s.set (K.tilePadOverload n) 1).count (K.tilePadOverloadCount n) 32 1).raiseTile n 7

/-- PAD_CLEAR (R129). -/
def xPadClear (n : Nat) (s : State) : State := s.set (K.tilePadOverload n) 0

/-- BUF_PEAK_CLEAR (R120): the peak restarts from the fill. -/
def xBufPeakClear (n : Nat) (s : State) : State := s.set (K.tileBufPeak n) (s.obj (K.tileBufFill n))

/-- The contexts that take samples from a pad. -/
def State.padCtxs (s : State) (n : Nat) : List Nat :=
  s.ringed.filter (fun c => s.ctxState c ≥ cPlaced && s.node (K.graphNodeSource c) == 1 && s.padOf c == n)

/-- The position of a pad on its pair's buses (R121). -/
def busOf (pad : Nat) : Nat := pad % 32

/-! ## Word format (R136, R140) -/

/-- Bits of the converter's code in a mode. -/
def codeBits (mode : Nat) : Nat := match mode with | 2 => 12 | 3 => 13 | _ => 14

/-- The largest in-range code of a mode. -/
def codeMax (mode : Nat) : Int := ((2 ^ (codeBits mode - 1) - 1 : Nat) : Int)

/-- The shift of code into word. -/
def codeShift (mode : Nat) : Nat := 16 - codeBits mode

/-- Whether a sample clips, and to which side: any of its core conversions beyond the range. -/
def clipSide (mode : Nat) (codes : List Int) : Option Bool :=
  (codes.find? (fun c => c > codeMax mode || c < -(codeMax mode))).map (fun c => c > 0)

/-- The 16-bit word of a sample's core conversions (R136, R140), as a signed number: the clip codes beyond full scale; in
LOWNOISE four times the mean of the conversions, rounded; else the code, left-aligned. -/
def wordOf (mode : Nat) (codes : List Int) : Int :=
  match clipSide mode codes with
  | some true => 32767
  | some false => -32768
  | none =>
    if mode = 4 then roundHalfEven (4 * codes.foldl (· + ·) 0) (max 1 codes.length)
    else codes.headD 0 * 2 ^ codeShift mode

/-- The largest in-range word of a mode (R140). -/
def wordMax (mode : Nat) : Int := codeMax mode * 2 ^ codeShift mode

/-! ## Ingest buffer (R120) -/

/-- Words held in an ingest buffer: the bytes that a STALE context repeats (R10) take no place there. -/
def heldWords (items : List Item) : Nat :=
  items.foldl (fun a i => match i with | .word _ _ _ width _ => (if width = 1 then a else a + 1) | .mark .. => a) 0

/-- Show the fill of a buffer, and the peak. -/
def State.showFill (s : State) (n : Nat) : State :=
  let f := heldWords (s.tile n).buf
  let s := s.set (K.tileBufFill n) f
  if f > s.obj (K.tileBufPeak n) then s.set (K.tileBufPeak n) f else s

/-- A word enters the ingest buffer. When the buffer is full, the line loses the word, the tile's source is raised and SAFE
is entered with cause STORE (R120, R263). -/
def State.pushWord (s : State) (n c : Nat) (raw : Bool) (line w : Nat) : State :=
  let x := s.tile n
  if heldWords x.buf ≥ 8192 then
    let s := s.modCtx c (fun y => { y with cur := y.cur.map (fun l => { l with lossy := true }) })
    (s.raiseTile n 12).storeFatal
  else
    ((s.setTile n { x with buf := x.buf ++ [.word c raw line 2 w] }).tally (K.tileBufWords n) 64 1).showFill n

/-- The end of a line enters the ingest buffer. -/
def State.pushMark (s : State) (n c : Nat) (raw : Bool) (rec : LineRec × Option (Nat × Nat)) (drop : Bool) : State :=
  s.modTile n (fun x => { x with buf := x.buf ++ [.mark c raw rec.1 drop rec.2] })

/-! ## Overrange and clipping (R128, R141) -/

/-- What a conversion shows beside its word: the tile that converts, whether the sample is in overrange, whether the word clips. -/
structure Mark where
  tile : Nat
  far : Bool
  clip : Bool
  deriving DecidableEq, Repr

def Mark.none_ : Mark := ⟨0, false, false⟩

/-- A sample in overrange on a line of a context: counted once a line, and raised when asked, once since the last read. -/
def State.noteOver (s : State) (n c line : Nat) : State :=
  let x := s.tile n
  let s := s.set (K.tileFeOverLast n) line
  if Sp.find x.overLines c = some line then s
  else
    let told := x.overTold || s.obj (K.tileFeOverEvent n) == 1
    let s := (s.setTile n { x with overLines := Sp.insert x.overLines c line, overTold := told }).count (K.tileFeOver n) 32 1
    if s.obj (K.tileFeOverEvent n) = 1 && !x.overTold then s.raiseTile n 5 else s

/-- A clipped word on a line of a context. -/
def State.noteClip (s : State) (n c line : Nat) : State :=
  let x := s.tile n
  let s := s.set (K.tileAdcClipLast n) line
  if Sp.find x.clipLines c = some line then s
  else
    let told := x.clipTold || s.obj (K.tileAdcClipEvent n) == 1
    let s := (s.setTile n { x with clipLines := Sp.insert x.clipLines c line, clipTold := told }).count (K.tileAdcClip n) 32 1
    if s.obj (K.tileAdcClipEvent n) = 1 && !x.clipTold then s.raiseTile n 6 else s

/-- What a word that enters a line shows (R128, R141). -/
def State.noteMark (s : State) (c line : Nat) (m : Mark) : State :=
  let s := if m.far then s.noteOver m.tile c line else s
  if m.clip then s.noteClip m.tile c line else s

/-- Reading `fe.over` or `adc.clip` re-arms its source (R128, R141). -/
def afterReadOver (n : Nat) (s : State) : State := s.modTile n (fun x => { x with overTold := false })
def afterReadClip (n : Nat) (s : State) : State := s.modTile n (fun x => { x with clipTold := false })

/-! ## Limit ratios (R146 to R151) -/

/-- The quadrant of a tile. -/
def quadOf (n : Nat) : Nat := n / 64

/-- The junction temperature of the analogue die of a tile in K × 1,000: die A0 for tiles 0 to 127, A1 above. -/
def State.kelvin (s : State) (n : Nat) : Nat :=
  ((signed 16 (s.obj (K.deviceTempAna (n / 128)))) * 1000 + 273150).toNat

/-- The square of the linear voltage gain of a code, 10^((code − 24) ÷ 40), as the 40th root of a power of ten to twelve
places (R108, R146). -/
def root40From (x : Nat) : Nat → Nat → Nat
  | 0, acc => acc
  | i + 1, acc => root40From x i (if (acc + 2 ^ i) ^ 40 ≤ x then acc + 2 ^ i else acc)

def gainSquared (code : Nat) : Frac :=
  if code ≥ 24 then ⟨root40From (10 ^ (code - 24) * 10 ^ 480) 60 0, 10 ^ 12⟩
  else ⟨10 ^ 12, root40From (10 ^ (24 - code) * 10 ^ 480) 60 0⟩

/-- Boltzmann's constant (R146). -/
def boltzmann : Frac := ⟨1380649, 10 ^ 29⟩

/-- The sampling capacitance in F (R138). -/
def capacitance (cs : Nat) : Frac := ⟨match cs with | 0 => 2 | 1 => 4 | _ => 8, 10 ^ 12⟩

/-- The lower of two bandwidths. -/
def narrower (a b : Frac) : Frac := if Frac.lt b a then b else a

/-- The noise bandwidth of a tile's biquad, where it bounds one: 1.11 × f0 for the second-order Butterworth. That of a BESSEL or
BANDPASS setting is not stated (R146, DESIGN CHOICE, log entry 2). -/
def State.biquadNoise (s : State) (n : Nat) : Option Frac :=
  let f := s.biquadF0 n 0
  match s.bqType n with
  | 0 => none
  | 1 => some (Frac.mul ⟨111, 100⟩ f)
  | 4 => some (Frac.mul ⟨111, 100⟩ f)
  | t => some ⟨Config.free 68 ((t * 2 ^ 32 + f.f32) * 2 ^ 32 + s.force (K.tileBqQ n)), 1⟩

/-- B_n: the narrowest of the biquad, the TIA step and the front amplifier, whose own noise bandwidths are not stated (R146,
DESIGN CHOICE, log entry 2). -/
def State.noiseBandwidth (s : State) (n : Nat) : Frac :=
  let amp : Frac := ⟨Config.free 69 (s.formOf n * 256 + s.force (K.tileFeGain n)), 1⟩
  let a := match s.biquadNoise n with | some b => narrower amp b | none => amp
  if s.formOf n = 2 then narrower a ⟨Config.free 70 (s.force (K.tileFeRf n)), 1⟩ else a

/-- The square of the rms of the black pixels of the last 64 lines in V² (R148): their variance, in word LSB of 2.0 V ÷ 65,536
(DEDUCED, log entry 32). -/
def State.blackNoise (s : State) (n : Nat) : Option Frac :=
  let ls := (s.tile n).blackLines
  let m := ls.foldl (fun a l => a + l.1) 0
  let sum := ls.foldl (fun a l => a + l.2.1) 0
  let sq := ls.foldl (fun a l => a + l.2.2) 0
  if m = 0 then none else some ⟨m * sq - sum.natAbs ^ 2, m ^ 2 * 2 ^ 30⟩

/-- N_ref² at the converter input (R146). -/
def State.noiseRef (s : State) (n : Nat) (m : LimitMeas) : Frac :=
  let kT := Frac.mul boltzmann ⟨s.kelvin n, 1000⟩
  let c := if s.formOf n = 3 then 4 else 2
  let osr := if s.adcMode n = 4 then max 1 (s.obj (K.tileAdcOsr n)) else 1
  let first := Frac.div (Frac.mul ⟨c, 1⟩ kT) (Frac.mul ⟨osr, 1⟩ (capacitance (s.obj (K.tileAdcCs n))))
  let bn := s.noiseBandwidth n
  let second := if s.formOf n = 2 then Frac.mul (Frac.mul ⟨4, 1⟩ kT) (Frac.mul (tiaOhms (s.force (K.tileFeRf n))) bn)
    else Frac.mul (Frac.mul (gainSquared (s.force (K.tileFeGain n))) (Frac.mul ⟨4, 1⟩ kT))
      (Frac.mul (fracOfF32 m.req) bn)
  Frac.add first second

/-- Whether the LIVE source applies: CDS with at least 16 black pixels (R148), of which a line has been taken
(DEDUCED, log entry 32). -/
def State.liveNoise (s : State) (n : Nat) : Bool :=
  s.formOf n == 3 && s.force (K.tileCdsBlackCount n) ≥ 16 && (s.blackNoise n).isSome

/-- The noise part of a refresh (R147 to R149). Before the first calibration the ratio reads 0 with source NONE; while the tile
calibrates it keeps its value and the source reads CAL. -/
def State.refreshNoise (s : State) (n : Nat) (m : LimitMeas) : State :=
  let x := s.tile n
  if x.nCal = 0 then s
  else if x.cal.step ≥ 2 then s.set (K.tileLimSource n) 1
  else
    let live := s.liveNoise n
    let ref2 := s.noiseRef n m
    let meas2 := if live then (s.blackNoise n).getD ⟨0, 1⟩
      else Frac.mul (Frac.mul (fracOfF32 x.nCal) (fracOfF32 x.nCal)) ⟨s.kelvin n, max 1 x.tCal⟩
    let s := (s.set (K.tileLimReq n) m.req).set (K.tileLimBn n) (s.noiseBandwidth n).f32
    let s := (s.set (K.tileLimNMeas n) meas2.sqrtF32).set (K.tileLimNRef n) ref2.sqrtF32
    let s := (s.set (K.tileLimNoise n) (Frac.div meas2 ref2).sqrtF32).set (K.tileLimSource n) (if live then 2 else 1)
    let bad := f32Key (s.obj (K.tileLimNoiseAlarm n)) < f32Key (s.obj (K.tileLimNoise n))
    let runs := if bad then x.noiseBad + 1 else 0
    let s := s.modTile n (fun y => { y with noiseBad := runs })
    if !bad then s.set (K.tileLimFlags n) (withBit (s.obj (K.tileLimFlags n)) 0 false)
    else if runs = 3 then (s.set (K.tileLimFlags n) (withBit (s.obj (K.tileLimFlags n)) 0 true)).raiseTile n 9
    else s

/-- Whether the synthesiser of a tile's quadrant is locked: ON, outside holdover (R151, R155). -/
def State.locked (s : State) (q : Nat) : Bool :=
  isOn (s.obj (K.timeSynStatus q)) && bitsOf (s.obj (K.timeSynStatus q)) 4 4 == 0

/-- Without lock the timing figures read 0 and the TIMING bit is set (R151, R156). -/
def State.unlockTiming (s : State) (n : Nat) : State :=
  let s := (s.set (K.tileLimTiming n) 0).set (K.tileLimJitter n) 0
  s.set (K.tileLimFlags n) (withBit (s.obj (K.tileLimFlags n)) 1 true)

/-- The terms of a quadrant are shared by its tiles (R151). -/
def State.shareJitter (s : State) (q : Nat) (m : LimitMeas) : State :=
  ((List.range 64).filter (fun i => isOn (s.obj (K.tileStatus (64 * q + i))))).foldl (fun st i =>
    (st.set (K.tileLimJRef (64 * q + i)) m.jRef).set (K.tileLimJSyn (64 * q + i)) m.jSyn) s

/-- The timing part of a refresh (R150, R151). One without lock ends a row of refreshes above the threshold. -/
def State.refreshTiming (s : State) (n : Nat) (m : LimitMeas) : State :=
  let x := s.tile n
  if !s.locked (quadOf n) then (s.unlockTiming n).modTile n (fun y => { y with jitterBad := 0 })
  else
    let sq := fun v => Frac.mul (fracOfF32 v) (fracOfF32 v)
    let j2 := Frac.add (Frac.add (sq m.jRef) (sq m.jSyn)) (sq x.jAp)
    let s := (s.shareJitter (quadOf n) m).set (K.tileLimJAp n) x.jAp
    let s := (s.set (K.tileLimJitter n) j2.sqrtF32).set (K.tileLimTiming n) (Frac.div j2 (sq m.jRef)).sqrtF32
    let bad := f32Key (s.obj (K.tileLimJitterAlarm n)) < f32Key (s.obj (K.tileLimJitter n))
    let runs := if bad then x.jitterBad + 1 else 0
    let s := s.modTile n (fun y => { y with jitterBad := runs })
    if !bad then s.set (K.tileLimFlags n) (withBit (s.obj (K.tileLimFlags n)) 1 false)
    else if runs = 3 then (s.set (K.tileLimFlags n) (withBit (s.obj (K.tileLimFlags n)) 1 true)).raiseTile n 10
    else s

/-- LIMIT_REFRESH (R148 to R151): in RUN, HOLD and SAFE. -/
def xLimitRefresh (n : Nat) (m : LimitMeas) (s : State) : State :=
  if [mRun, mHold, mSafe].contains s.mode && isOn (s.obj (K.tileStatus n)) then
    ((s.refreshNoise n m).refreshTiming n m).set (K.tileLimUpdated n) s.now
  else s

/-! ## Interleave estimator (R145) -/

/-- A binary32 gain held to the 0.98 to 1.02 of `ilv.gain`, and a skew to ±512 steps (R145, R152) (DEDUCED, log entry 45). -/
def ilvGain (g : Nat) : Nat :=
  if f32Key g < f32Key (f32OfRat 98 100) then f32OfRat 98 100 else if f32Key (f32OfRat 102 100) < f32Key g then f32OfRat 102 100 else g
def ilvSkew (k : Int) : Int := max (-512) (min 512 k)

/-- Put interleave corrections into force. -/
def State.setIlv (s : State) (n : Nat) (offset : Int) (gain : Nat) (skew : Int) : State :=
  ((s.set (K.tileIlvOffset n) (satSigned 16 offset)).set (K.tileIlvGain n) (ilvGain gain)).set (K.tileIlvSkew n)
    (satSigned 16 (ilvSkew skew))

/-- A TRACKING update: corrections, the temperature it was made at, and the DRIFT bit clears. -/
def State.ilvUpdate (s : State) (n : Nat) (f : IlvFacts) : State :=
  let s := (s.setIlv n f.offset f.gain f.skew).set (K.tileIlvFlags n) 0
  s.modTile n (fun x => { x with ilvTemp := signed 16 (s.obj (K.deviceTempAna (n / 128))) })

/-- ILV_WORD_COUNT: the estimator of a pair counts output words and changes state at its counts. -/
def xIlvWords (n : Nat) (f : IlvFacts) (s : State) : State :=
  let x := s.tile n
  let words := x.ilvWords + f.words
  let quiet := if f.quiet then x.ilvQuiet + f.words else 0
  match s.obj (K.tileIlvState n) with
  | 1 =>
    let s := s.setTile n { x with ilvWords := words, ilvQuiet := quiet }
    if words ≥ 2097152 then ((s.modTile n (fun y => { y with ilvWords := 0 })).set (K.tileIlvState n) 2).ilvUpdate n f else s
  | 2 =>
    if quiet ≥ 262144 then (s.setTile n { x with ilvWords := 0, ilvQuiet := quiet }).set (K.tileIlvState n) 3
    else if words ≥ 65536 then (s.setTile n { x with ilvWords := words % 65536, ilvQuiet := quiet }).ilvUpdate n f
    else s.setTile n { x with ilvWords := words, ilvQuiet := quiet }
  | 3 =>
    if f.quiet then s else (s.setTile n { x with ilvWords := 0, ilvQuiet := 0 }).set (K.tileIlvState n) 2
  | _ => s

/-- ILV_RESET: back to ACQUIRING from the last calibrated values; nothing on a tile that is not paired or calibrates. -/
def xIlvReset (n : Nat) (s : State) : State :=
  if s.obj (K.tileIlvState n) = 0 then s
  else
    let c := (s.tile n).ilvCal
    ((s.modTile n (fun x => { x with ilvWords := 0, ilvQuiet := 0 })).setIlv n c.1 c.2.1 c.2.2).set (K.tileIlvState n) 1

/-- A placed pair whose calibration holds has its estimator ACQUIRING (R145): as it comes into use, and after a calibration that did not
pass (DEDUCED, log entry 45). -/
def State.acquire (s : State) (n : Nat) : State :=
  if s.adcMode n = 3 && n % 2 = 0 && s.obj (K.tileCalValid n) = 1 && s.obj (K.tileIlvState n) = 0 then
    (s.modTile n (fun x => { x with ilvWords := 0, ilvQuiet := 0 })).set (K.tileIlvState n) 1
  else s

/-- At a temperature read, a HELD estimator more than 10 °C from its last update drifts, once. -/
def State.ilvDrift (s : State) (n : Nat) : State :=
  let t := signed 16 (s.obj (K.deviceTempAna (n / 128)))
  let d := t - (s.tile n).ilvTemp
  if s.obj (K.tileIlvState n) = 3 && s.obj (K.tileIlvFlags n) = 0 && (d > 10 || d < -10) then
    (s.set (K.tileIlvFlags n) 1).raiseTile n 11
  else s

/-! ## Black clamp (R115) -/

/-- A pixel of a CDS line: the black pixels are summed in 14-bit LSB × 4, the word's own unit. -/
def State.notePixel (s : State) (n : Nat) (pixel : Nat) (word : Int) : State :=
  let first := s.force (K.tileCdsBlackFirst n)
  if first ≤ pixel && pixel < first + s.force (K.tileCdsBlackCount n) then
    s.modTile n (fun x => { x with black := x.black + word, blackN := x.blackN + 1, blackSq := x.blackSq + word.natAbs ^ 2 })
  else s

/-- CDS_LINE_END: the clamp offset moves by (target − mean) ÷ 2^s and the mean is shown (DEDUCED, log entry 32). -/
def xCdsLineEnd (n : Nat) (s : State) : State :=
  let x := s.tile n
  if s.force (K.tileCdsBlackCount n) = 0 || x.blackN = 0 then s.setTile n { x with black := 0, blackN := 0, blackSq := 0 }
  else
    let target : Int := s.force (K.tileCdsBlackTarget n)
    let move := (target * 4 * x.blackN - x.black) * 65536 / (4 * x.blackN * 2 ^ s.force (K.tileCdsClampShift n) : Nat)
    let s := s.setTile n { x with black := 0, blackN := 0, blackSq := 0, clamp := x.clamp + move,
                                  blackLines := ((x.blackN, x.black, x.blackSq) :: x.blackLines).take 64 }
    s.set (K.tileCdsBlackLevel n) (roundSigned 16 x.black (4 * x.blackN))

end Sys2Proof.Machine
end

