-- ==== Sys2Proof/Machine/Engines.lean ====
section
/-! DEFINITION. The filter and decimation chain (09_filter_chain.md): coefficient sets, stages, slots, batches, SETTLING and
COARSE marks, restarts, staged changes and priming, engine enables. -/

namespace Sys2Proof.Machine

/-! ## Coefficient sets (R204 to R206) -/

/-- Taps of the factory sets (R206). -/
def factoryTaps (c : Nat) : Nat := [7, 11, 19, 23, 31, 47, 47, 35].getD c 0

/-- The codes of a factory set: those of the running image, each within 18 bits, their sum 32,768; which codes of the bounded ones
the image holds is open (R204, R206, DESIGN CHOICE, log entry 2). -/
def factoryCode (word c i : Nat) : Int :=
  let u := (factoryTaps c + 1) / 4
  let other := fun (j : Nat) => ((Config.factorySet word (c * 16 + j) % (2 * (40000 / j) + 1) : Nat) : Int) - (40000 / j : Nat)
  if i = 1 then 32768 - ((List.range (u - 1)).map (fun j => other (j + 2))).foldl (· + ·) 0
  else if i ≤ u then other i else 0

/-- The 52 bytes of a coefficient set, as a number. -/
def State.coef (s : State) (c : Nat) : Nat :=
  if c < 8 then
    (List.range 12).foldl (fun a j => a + unsigned 32 (factoryCode (s.obj K.versionsMgmtRunning) c (j + 1)) * 2 ^ (32 * (j + 1)))
      (factoryTaps c)
  else s.obj (K.feSetCoef c)

/-- Taps and codes of a set. -/
def State.taps (s : State) (c : Nat) : Nat := byteAt (s.coef c) 0
def coefCode (coef i : Nat) : Int := signed 32 (u32At coef (4 * i))

/-- The checks of a set write (R204). -/
def guardCoef (v : Nat) : Res Unit :=
  let taps := byteAt v 0
  let u := (taps + 1) / 4
  let codes := (List.range 12).map (fun j => coefCode v (j + 1))
  let sum := (codes.take u).foldl (· + ·) 0
  need ((taps == 0 || (taps % 4 == 3 && 2 ≤ u && u ≤ 12)) && bitsOf v 31 8 == 0 &&
    codes.all (fun h => decide (-131072 ≤ h) && decide (h ≤ 131071)) &&
    (codes.drop (if taps = 0 then 0 else u)).all (fun h => h == 0) && (taps == 0 || sum == 32768)) aRange 0

/-- The stage sets named by `sets`: the bytes before the first 0xFF (R202). -/
def stageSets (sets : Nat) : List Nat := ((List.range 8).map (byteAt sets)).takeWhile (fun b => b != 0xFF)

/-- Stages that name a set: in force, and pending. -/
def State.setUsers (s : State) (c : Nat) (pendingToo : Bool) : Nat :=
  ((List.range 16).flatMap (fun j => s.keysAt 0x4801 0x4880 (0x12 + 8 * j))).foldl (fun a k =>
    let f := (stageSets (s.force k)).count c
    let p := if pendingToo && s.isPending k then (stageSets (s.obj k)).count c else 0
    a + f + p) 0

/-- A write to a set in use ends with BUSY, detail 0xFF (R205). -/
def guardSetFree (s : State) (c : Nat) : Res Unit := need (s.setUsers c true == 0) aBusy 0xFF

/-- A write of a slot's sets: nothing but 0xFF after the first 0xFF, and no empty set (R202, R205). -/
def guardSets (s : State) (v : Nat) : Res Unit :=
  let st := stageSets v
  need (((List.range 8).drop st.length).all (fun i => byteAt v i == 0xFF) &&
    st.all (fun c => c < 128 && s.taps c != 0)) aRange 0

/-- A write of a COHERENT slot's frequency: num < den, den at least 2 (R201). -/
def guardNco (mode v : Nat) : Res Unit :=
  need (mode % 4 != 2 || (v / 65536 < v % 65536 && 2 ≤ v % 65536)) aRange 0

/-! ## Figures of a chain (R202, R207, R210) -/

/-- S_in − 1 of a list of taps. -/
def spanOf : List Nat → Nat → Nat
  | [], _ => 0
  | n :: ns, w => (n - 1) * w + spanOf ns (2 * w)

/-- The span in input words, S_in. -/
def State.span (s : State) (sets : List Nat) : Nat := 1 + spanOf (sets.map s.taps) 1

/-- Bytes of an output word by format code (R203). -/
def formatBytes (mode : Nat) : Nat := match bitsOf mode 3 2 with | 0 => 2 | 1 => 4 | 2 => 4 | _ => 8

/-- The word rate that feeds a slot (R198): the tile's, twice that of each in a pair, whose words merge (R137), or half the declared byte
rate of a piece. -/
def State.chainRate (s : State) (c : Nat) : Frac :=
  let t := s.obj (K.ctxTile c)
  if t = 0xFFFF then Frac.div (fracOfF32 (s.node (K.graphNodeOutRate c))) ⟨2, 1⟩
  else if s.adcMode t = 3 then Frac.mul ⟨2, 1⟩ (s.fsOf t)
  else s.fsOf t

/-- D_chain of a context in seconds (R207). -/
def State.chainDelay (s : State) (c sin : Nat) : Frac := Frac.div ⟨sin - 1, 2⟩ (s.chainRate c)

/-- The keys of a slot's objects. -/
def slotKey (f : Nat → Nat → Nat) (i : Nat) : Nat := f (i / 16) (i % 16)

/-- Sets and mode in force of a slot. -/
def State.slotSets (s : State) (i : Nat) : List Nat := stageSets (s.force (slotKey K.feSlotSets i))
def State.slotMode (s : State) (i : Nat) : Nat := s.obj (slotKey K.feSlotMode i)
def State.slotState (s : State) (i : Nat) : Nat := s.obj (slotKey K.feSlotState i)
def State.slotCtx (s : State) (i : Nat) : Nat := s.obj (slotKey K.feSlotCtx i)

/-- Whether a slot joins its blocks by BLOCK_TRIM (R211). -/
def trims (mode : Nat) : Bool := bitsOf mode 6 6 == 1

/-! ## Arithmetic of a stage (R200) -/

/-- Saturate to 24 bits, with a count of 1 where it saturates. The 40 bits of a stage are these 24 and 16 below, so no sum that fits
the 24 has left the 40 (DEDUCED, log entry 36). -/
def sat24 (v : Int) : Int × Nat :=
  if v > 8388607 then (8388607, 1) else if v < -8388608 then (-8388608, 1) else (v, 0)

/-- One part (I or Q) of a stage's output from its delay line, newest first: centre tap 0.5, codes in 2^-17. -/
def stageOut (coef : Nat) (taps : Nat) (dl : List Int) : Int × Nat :=
  let u := (taps + 1) / 4
  let c := 2 * u - 1
  let acc := (List.range u).foldl (fun a j =>
    a + coefCode coef (j + 1) * (dl.getD (c - (2 * j + 1)) 0 + dl.getD (c + (2 * j + 1)) 0)) (65536 * dl.getD c 0)
  sat24 (roundHalfEven acc 131072)

/-- Push a word with index i through the stages; digit k of the phase r selects which inputs complete an output of stage
k + 1 (R210). The answer is the new delay lines, the output where one completes, and the saturations
(DESIGN CHOICE, log entry 36). -/
def runStages (s : State) : List Nat → List (List (Int × Int)) → Nat → Nat → Int × Int →
    List (List (Int × Int)) × Option (Int × Int) × Nat
  | [], _, _, _, x => ([], some x, 0)
  | c :: cs, lines, r, i, x =>
    let n := s.taps c
    let dl := (x :: lines.headD []).take n
    if i % 2 = r % 2 && r % 2 ≤ i then
      let coef := s.coef c
      let a := stageOut coef n (dl.map (·.1))
      let b := stageOut coef n (dl.map (·.2))
      let rest := runStages s cs lines.tail (r / 2) ((i - r % 2) / 2) (a.1, b.1)
      (dl :: rest.1, rest.2.1, a.2 + b.2 + rest.2.2)
    else (dl :: lines.tail, none, 0)

/-! ## Mixer (R201) -/

/-- 2π in units of 2^-60. -/
def turn60 : Nat := 7244019458077122842

/-- The terms of a cosine or sine series in units of 2^-60 from its first term on: each is the one before times −x² over the
product of the next two factors. -/
def seriesFrom (x2 : Int) : Nat → Nat → Int → Int
  | 0, _, t => t
  | fuel + 1, k, t => t + seriesFrom x2 fuel (k + 2) (-(t * x2 / 2 ^ 60) / ((k + 1 : Nat) * (k + 2 : Nat) : Int))

/-- Cosine of a phase in 2^-48 turns, in units of 2^-60: the first quarter by its series, the others by symmetry. -/
def cosine (p : Nat) : Int :=
  let q := p % 2 ^ 48 / 2 ^ 46
  let r := p % 2 ^ 46
  let first := fun (y : Nat) =>
    let x : Int := (y * turn60 / 2 ^ 48 : Nat)
    seriesFrom (x * x / 2 ^ 60) 13 0 (2 ^ 60)
  match q with
  | 0 => first r
  | 1 => -first (2 ^ 46 - r)
  | 2 => -first r
  | _ => first (2 ^ 46 - r)

/-- An entry of the 18-bit cosine (0) or sine (1) table at a phase in 2^-48 turns: the nearest code with 1.0 at 131,071, but for a last
place that is open (DESIGN CHOICE, log entry 36). -/
def mixTable (which p : Nat) : Int :=
  let v := cosine (if which = 0 then p else p + 3 * 2 ^ 46)
  max (-131072) (min 131071 (roundHalfEven (131071 * v) (2 ^ 60) + (Config.free (10 + which) (p % 2 ^ 48) % 3 : Nat) - 1))

/-- Whether a node of this source and output is one that excites: its output belongs to a TIMEBASE group (R201, R359). -/
def State.excites (s : State) (source dac : Nat) : Bool :=
  source == 4 && dac != 0xFF && s.obj (K.dacGroupSource (s.obj (K.dacGroup dac))) / 4096 == 1

/-- t_ref: the epoch of the strobe group of the excitation node that the committed graph names (R201, R360). -/
def State.gridEpoch (s : State) : Nat :=
  match ((s.keysAt 0x2400 0x2800 1).map (fun k => k / 256 - 0x2400)).find? (fun c =>
      s.excites (s.force (K.graphNodeSource c)) (s.force (K.graphNodeDac c))) with
  | some c => ofTime96 (s.obj (K.dacGroupEpoch (s.obj (K.dacGroup (s.force (K.graphNodeDac c))))))
  | none => 0

/-- D_ana of a half in 2^-16 ns: as measured at the last calibration, else nominal (R173). -/
def State.danaOf (s : State) (n half : Nat) : Int :=
  let x := s.tile n
  if s.obj (K.tileCalValid n) = 1 && half < x.danaNew.length then x.danaNew.getD half 0 else ((s.nominalDana n half).units : Nat)

/-- The sample number of word `off` of a raw line: periods of the tile's grid from t_ref to the instant at which it was sampled, its
stamp and the analogue delay that the stamp leaves out; a CDS line's stamp leaves none out (R173, R201). -/
def State.sampleNumber (s : State) (i : Nat) (rec : LineRec) (off : Nat) : Int :=
  let c := s.slotCtx i
  let n := s.obj (K.ctxTile c)
  let dana : Int := if n = 0xFFFF || s.formOf n = 3 then 0 else s.danaOf n (s.obj (K.ctxHalf c))
  let r := s.chainRate c
  roundHalfEven (((ofTime96 rec.stamp : Int) + dana - s.gridEpoch) * r.num) (perS * r.den) + off

/-- The phase of a word in 2^-48 turns: FREE from the accumulator, COHERENT from the sample number. -/
def State.mixPhase (s : State) (i : Nat) (m : Int) (acc : Nat) : Nat :=
  let f := s.force (slotKey K.feSlotNcoFreq i)
  let p := s.force (slotKey K.feSlotNcoPhase i)
  if s.slotMode i % 4 = 2 then
    let den := max 2 (f % 65536)
    (((((f / 65536 : Nat) : Int) * m) % (den : Int)).toNat * 2 ^ 48 / den + p * 65536) % 2 ^ 48
  else ((acc + p) % 4294967296) * 65536

/-- A word after scaling and mixing, with the saturations (DESIGN CHOICE, log entry 36). -/
def State.mix (s : State) (i : Nat) (m : Int) (acc : Nat) (w : Int) : (Int × Int) × Nat :=
  let v := w * 64
  if s.slotMode i % 4 = 0 then ((v, 0), 0)
  else
    let ph := s.mixPhase i m acc
    let a := sat24 (roundHalfEven (2 * v * mixTable 0 ph) 131072)
    let b := sat24 (roundHalfEven (-2 * v * mixTable 1 ph) 131072)
    ((a.1, b.1), a.2 + b.2)

/-! ## Output formatting (R203) -/

/-- One part of an output word: S16 rounds and saturates, S24 sign-extends. -/
def formatPart (mode : Nat) (v : Int) : Nat × Nat :=
  if bitsOf mode 2 2 = 0 then
    let r := roundHalfEven v 64
    (satSigned 16 r, if r > 32767 || r < -32768 then 1 else 0)
  else (unsigned 32 v, 0)

/-- An output word and its saturations. -/
def formatWord (mode : Nat) (x : Int × Int) : Nat × Nat :=
  let a := formatPart mode x.1
  if bitsOf mode 3 3 = 0 then a
  else
    let b := formatPart mode x.2
    (a.1 + b.1 * 2 ^ (if bitsOf mode 2 2 = 0 then 16 else 32), a.2 + b.2)

/-- The coarse value: the mean of the newest D mixed words, of those since the restart (R215). -/
def coarseValue (d : Nat) (mixed : List (Int × Int)) : Int × Int :=
  let xs := mixed.take d
  let n := max 1 xs.length
  (roundHalfEven (xs.foldl (fun a p => a + p.1) 0) n, roundHalfEven (xs.foldl (fun a p => a + p.2) 0) n)

/-! ## Marks (R208, R210) -/

/-- Whether an output with newest input n holds inputs i_s − 1 and i_s + A − 1 of a step. -/
def stepMarks (sin n : Nat) (st : Nat × Nat) : Bool := st.1 + st.2 ≤ n + 1 && n + 1 ≤ st.1 - 1 + sin && 0 < st.1

/-- How many outputs have their newest input, d × j + r, at lo or later and before hi. -/
def outputsIn (r d lo hi : Nat) : Nat := (hi + d - 1 - r) / d - (lo + d - 1 - r) / d

/-- The outputs in ranges of inputs that stand in descending order of their ends, each counted once. -/
def outputsOf (r d : Nat) : List (Nat × Nat) → Nat → Nat
  | [], _ => 0
  | (lo, hi) :: rest, low => outputsIn r d lo (max lo (min hi low)) + outputsOf r d rest (min lo low)

/-- Outputs with a mark whose newest input lies from `count` on and before an end: those of the restart, and those of the steps. -/
def settleLeft (sin d count upTo : Nat) (steps : List (Nat × Nat)) : Nat :=
  let r := (sin - 1) % d
  let ranges := (0, d * ((sin - 1) / d) + r) :: steps.map (fun st => (st.1 + st.2 - 1, st.1 + sin - 1))
  outputsOf r d ((ranges.map (fun e => (max count e.1, min upTo e.2))).reverse) upTo

/-- In place of settling words: the slot restarts with the word (R210). -/
def restartMark : Nat := 4294967296

/-- Marked outputs to come, with the steps and restarts that begin at inputs not yet read, counted from input `base`. -/
def settleAhead (sin d : Nat) : Nat → Nat → List (Nat × Nat) → List (Nat × Nat) → Nat
  | _, count, steps, [] => settleLeft sin d count (2 ^ 64) steps
  | base, count, steps, (at_, w) :: due =>
    if w = restartMark then settleLeft sin d count (at_ - base) steps + settleAhead sin d at_ 0 [] due
    else settleAhead sin d base count (if at_ = base then steps else steps ++ [(at_ - base, w)]) due

/-! ## Reading a raw ring (R199, R217, R261) -/

/-- A 16-bit word of a line in the stack. -/
def State.ringWord (s : State) (r : RingSt) (k off : Nat) : Int :=
  signed 16 (ofLE [s.byte (s.lineAddr r k (2 * off)), s.byte (s.lineAddr r k (2 * off + 1))])

/-- Words of a raw line: from its record in the context store, else from the stack. -/
def State.recOf (s : State) (r : RingSt) (k : Nat) : LineRec :=
  (r.recs.find? (fun x => x.line == k)).getD (s.recordAt r k)

/-- The next line that a ring keeps for the slot that reads it. -/
def RingSt.slotNext (r : RingSt) : Nat := ((r.readers.find? (fun x => x.kind == .slot)).map (·.next)).getD r.oldest

/-- The raw line that a slot reads next: the one in hand, else the first that is written from its reader's place on (R199, R210). -/
def State.slotLine (s : State) (i : Nat) : Nat :=
  let r := (s.ctx (s.slotCtx i)).raw
  (s.chain i).line.getD (s.nextLine r r.slotNext)

/-- Words of the written lines of a raw ring from line k on and before line m. -/
def State.wordsFrom (s : State) (r : RingSt) (k m : Nat) : Nat :=
  (List.range (m - k)).foldl (fun a j => if s.holdsLine r (k + j) then a + (s.recOf r (k + j)).length / 2 else a) 0

/-- Words that a slot has not yet read: of its line in hand and of every later line written. -/
def State.unread (s : State) (i : Nat) : Nat :=
  let r := (s.ctx (s.slotCtx i)).raw
  match r.latest with
  | none => 0
  | some l =>
    let k := s.slotLine i
    s.wordsFrom r (max k r.oldest) (l + 1) - (if r.oldest ≤ k then (s.chain i).off else 0)

/-- The input index, counted on from the last restart, of word `off` of raw line k, by the lines that are written. -/
def State.inputAt (s : State) (i k off : Nat) : Nat :=
  let r := (s.ctx (s.slotCtx i)).raw
  let x := s.chain i
  let l := s.slotLine i
  x.count + ((s.wordsFrom r (max l r.oldest) (min k (r.latest.elim 0 (· + 1))) + off) - x.off)

/-- `fe[n].slot[s].settle` (R210, R219): of the restart that is due, of the steps in hand, and of what begins with words that the slot has
still to read. A BLOCK_TRIM slot writes no marked word (R211). -/
def State.settleNow (s : State) (i : Nat) : Nat :=
  let x := s.chain i
  let sets := s.slotSets i
  if s.slotCtx i = 0xFFFF || trims (s.slotMode i) then 0
  else
    let due := x.stepsDue.map (fun t => (s.inputAt i t.1 t.2.1, t.2.2))
    if x.restart then settleAhead (s.span sets) (2 ^ sets.length) x.count 0 [] due
    else settleAhead (s.span sets) (2 ^ sets.length) 0 x.count x.steps due

/-- Show the lag of an engine, and act where it passes half of a raw ring (R217). -/
def State.showLag (s : State) (n : Nat) : State :=
  let held := (List.range 16).filter (fun j => s.slotCtx (16 * n + j) != 0xFFFF)
  let lag := held.foldl (fun a j => max a (s.unread (16 * n + j))) 0
  let far := held.any (fun j => s.unread (16 * n + j) > (s.ctx (s.slotCtx (16 * n + j))).raw.bytes / 4)
  let k := K.feStatus n
  let was := bitsOf (s.obj k) 4 4
  let s := (s.set (K.feLag n) lag).set k (withBit (s.obj k) 4 far)
  if far && was = 0 then s.raise (640 + n) 0 else s

/-- The lag of every engine that the plan uses, as lines reach their rings. -/
def State.showLags (s : State) : State := s.plan.slots.foldl (fun st e => st.showLag (e.2 / 16)) s

/-- The staged objects of a slot. -/
def slotStagedKeys (i : Nat) : List Nat := [slotKey K.feSlotSets i, slotKey K.feSlotNcoFreq i, slotKey K.feSlotNcoPhase i]

/-- The values that wait are captured, to apply from line k on; one captured already is not captured again (R212, R213). -/
def State.captureStaged (s : State) (i k : Nat) : State :=
  (slotStagedKeys i).foldl (fun st key =>
    let last := ((st.chain i).loads.filter (fun l => l.2.1 == key)).getLast?
    if st.isPending key && last.map (·.2.2) != some (st.obj key) then
      st.modChain i (fun x => { x with loads := x.loads ++ [(k, key, st.obj key)] })
    else st) s

/-- The captured values that apply at line k come into force (R212, R213); a value written since still waits. -/
def State.applyLoads (s : State) (i k : Nat) : State :=
  let s := ((s.chain i).loads.filter (fun l => decide (l.1 ≤ k))).foldl (fun st l => st.settleTo l.2.1 l.2.2) s
  let s := s.modChain i (fun x => { x with loads := x.loads.filter (fun l => decide (k < l.1)) })
  s.set (slotKey K.feSlotDelay i)
    (Frac.mul ⟨1000000000, 1⟩ (s.chainDelay (s.slotCtx i) (s.span (s.slotSets i)))).f32

/-- Words lost under R217 and R261: counted, raised, and the slot restarts, with the values that wait (R213)
(DESIGN CHOICE, log entry 36). -/
def State.loseWords (s : State) (i n : Nat) : State :=
  let s := (s.count (K.feLost (i / 16)) 32 n).raise (640 + i / 16) (min n 4294967295)
  (s.captureStaged i 0).modChain i (fun x => { x with restart := true })

/-- The reader of a slot on its raw ring now stands at line k. -/
def State.slotAt (s : State) (i k : Nat) : State :=
  let c := s.slotCtx i
  let r := (s.ctx c).raw
  s.setRing c true { r with readers := r.readers.map (fun x => if x.kind == .slot then { x with next := k } else x) }

/-! ## Restart, HELD, priming (R210 to R214) -/

/-- A restart at line k, with the values that wait for it, and without priming (R210, R213). -/
def State.restartSlot (s : State) (i k : Nat) : State :=
  (s.applyLoads i k).modChain i (fun x => { x with count := 0, restart := false, stages := [], mixed := [], steps := [] })

/-- The PRIMING bit of an engine follows its slots (R214). -/
def State.showPriming (s : State) (n : Nat) : State :=
  let any := (List.range 16).any (fun j => s.slotState (16 * n + j) == 3)
  s.set (K.feStatus n) (withBit (s.obj (K.feStatus n)) 5 any)

/-- The lowest queued slot of an engine primes, when none does (R213). -/
def State.primeNext (s : State) (n : Nat) : State :=
  if (List.range 16).any (fun j => s.slotState (16 * n + j) == 3) then s
  else match (List.range 16).find? (fun j => s.slotState (16 * n + j) == 4) with
    | some j => ((s.set (K.feSlotState n j) 3).count (K.fePrimes n) 32 1).showPriming n
    | none => s.showPriming n

/-- A slot becomes HELD at once: a priming is abandoned, a queued slot leaves the queue (R210, R213). Words of its source from before
the hold are still read, so that no line is lost; those behind an abandoned priming restart (DESIGN CHOICE, log entry 36). -/
def State.holdSlot (s : State) (i : Nat) : State :=
  let st := s.slotState i
  let s := s.set (slotKey K.feSlotState i) 5
  (s.modChain i (fun x => { x with restart := x.restart || st == 3 || st == 4, changeAt := none })).primeNext (i / 16)

/-- HELD ends: the slot runs. -/
def State.releaseSlot (s : State) (i : Nat) : State :=
  if s.slotState i = 5 then s.set (slotKey K.feSlotState i) 1 else s

/-- The slot of a context runs, and restarts with the first word of a line (R210) (DESIGN CHOICE, log entry 34). -/
def State.restartAt (s : State) (c line : Nat) : State :=
  match s.slotOf c with
  | some i => (s.releaseSlot i).modChain i (fun x => { x with stepsDue := x.stepsDue ++ [(line, 0, restartMark)] })
  | none => s

/-- The values of step 3 of R212, captured at the boundary at line k, are loaded, and the slot primes or waits its turn. -/
def State.loadChange (s : State) (i k : Nat) : State :=
  let s := (s.applyLoads i k).modChain i (fun x => { x with changeAt := none })
  (s.set (slotKey K.feSlotState i) 4).primeNext (i / 16)

/-- Whether a slot has a staged value waiting. -/
def State.slotStaged (s : State) (i : Nat) : Bool := (slotStagedKeys i).any s.isPending

/-- A boundary of the context of a slot at which line k begins (R212, R213): staged values of a BLOCK_TRIM slot apply with that block,
those of a slot that restarts at its restart, those of a CONTINUOUS slot after the words before the line; a slot in a change takes
none. -/
def State.slotBoundary (s : State) (i k : Nat) : State :=
  let st := s.slotState i
  let x := s.chain i
  if !s.slotStaged i || (st ≠ 1 && st ≠ 5) then s
  else if trims (s.slotMode i) || st = 5 then s.captureStaged i k
  else if x.restart then s.captureStaged i 0
  else if x.stepsDue.any (fun t => t.2.2 == restartMark && k ≤ t.1) then s.captureStaged i k
  else
    let s := ((s.captureStaged i k).set (slotKey K.feSlotState i) 2).modChain i (fun y => { y with changeAt := some k })
    if x.off = 0 && k ≤ s.slotLine i then s.loadChange i k else s

/-- A step in input with word `off` of line k (R208), noted until that word is read. -/
def State.stepSlot (s : State) (i k off words : Nat) : State :=
  if trims (s.slotMode i) then s
  else s.modChain i (fun x => { x with stepsDue := x.stepsDue ++ [(k, off, words)] })

/-- Whether what is noted for a place in a raw ring is due at word `off` of line k. -/
def dueBy (k off : Nat) (t : Nat × Nat × Nat) : Bool := t.1 < k || (t.1 == k && t.2.1 ≤ off)

/-- Before the word read next, of line k: a restart that is due, then the steps that begin with the word or before it; a restart leaves
none (R208, R210). -/
def State.takeSteps (s : State) (i k : Nat) : State :=
  let x := s.chain i
  let here := x.stepsDue.filter (dueBy k x.off)
  let again := x.restart || here.any (fun t => t.2.2 == restartMark)
  let s := if again then s.restartSlot i k else s
  if here.isEmpty then s
  else
    let y := s.chain i
    let now := if again || y.count = 0 then [] else here.map (fun t => (y.count, t.2.2))
    s.setChain i { y with steps := y.steps ++ now, stepsDue := y.stepsDue.filter (fun t => !dueBy k x.off t) }

/-- Replay words, oldest first, through a chain from index i on: the delay lines of a primed slot (R212). -/
def replayStages (s : State) (sets : List Nat) (r : Nat) : List (Int × Int) → Nat → List (List (Int × Int)) →
    List (List (Int × Int))
  | [], _, lines => lines
  | x :: xs, i, lines => replayStages s sets r xs (i + 1) (runStages s sets lines r i x).1

/-- The words before the boundary, oldest first, mixed by the new law: COHERENT by their own sample numbers, FREE by the new increment back
from the phase in force (R212). -/
def State.remix (s : State) (i acc : Nat) : List (Int × Int) → List (Int × Int)
  | [] => []
  | w :: older =>
    let f := s.force (slotKey K.feSlotNcoFreq i) % 4294967296
    let back := (acc + 4294967296 - f) % 4294967296
    s.remix i back older ++ [(s.mix i w.2 back w.1).1]

/-- PRIMING_COMPLETE (R212 steps 4 and 5, R213). -/
def xPrimingComplete (n j : Nat) (s : State) : State :=
  let i := 16 * n + j
  if s.slotState i ≠ 3 then s
  else
    let sets := s.slotSets i
    let sin := s.span sets
    let d := 2 ^ sets.length
    let x := s.chain i
    let hist := x.past.take (min (sin - 1) x.count)
    let mixed := s.remix i x.phase hist
    let lines := replayStages s sets ((sin - 1) % d) mixed (x.count - hist.length) []
    let s := (s.setChain i { x with stages := lines, mixed := mixed.reverse }).set (slotKey K.feSlotState i) 1
    s.primeNext n

/-! ## A batch (R199) -/

/-- The sector whose port cell takes a context's coarse values: of the first placed piece that it feeds, else its quadrant's. -/
def State.coarseSector (s : State) (c : Nat) : Nat :=
  match s.plan.pieces.find? (fun e => (List.range 128).any (fun i => u16At (s.force (K.graphPieceInputs e.1)) (2 * i) == c)) with
  | some e => e.2.1
  | none => s.obj (K.ctxEngine c) / 4096

/-- A coarse value reaches its port cell (R292, R317): the queue holds 16; what finds it full, or its sector frozen, is dropped
(DESIGN CHOICE, log entry 36). -/
def State.pushCoarse (s : State) (c : Nat) (v : Coarse) : State :=
  let q := s.coarseSector c
  if s.obj (K.configSectorState q) ≠ 2 || (s.coarse.filter (fun e => e.ctx == c)).length ≥ 16 then
    s.count (K.fabricSectorCoarseDropped q) 32 1
  else { s with coarse := s.coarse ++ [v] }

/-- One input word of a slot: its output word where one completes, with the marks and saturations. -/
def State.chainWord (s : State) (i : Nat) (m : Int) (w : Int) : State :=
  let x := s.chain i
  let c := s.slotCtx i
  let mode := s.slotMode i
  let sets := s.slotSets i
  let sin := s.span sets
  let d := 2 ^ sets.length
  let r := (sin - 1) % d
  let mx := s.mix i m x.phase w
  let idx := x.count
  let st := runStages s sets x.stages r idx mx.1
  let mixed := (mx.1 :: x.mixed).take d
  let x := { x with count := idx + 1, stages := st.1, mixed := mixed, past := ((w, m) :: x.past).take 11731,
                    phase := (x.phase + s.force (slotKey K.feSlotNcoFreq i)) % 4294967296 }
  let sats := mx.2 + st.2.2
  match st.2.1 with
  | none => (s.setChain i x).count (K.feSat (i / 16)) 32 sats
  | some y =>
    let j := (idx - r) / d
    let early := j < (sin - 1) / d
    let coarse := coarseValue d mixed
    let useCoarse := early && bitsOf mode 5 4 == 1
    let s := if bitsOf mode 7 7 = 1 then s.pushCoarse c ⟨c, j, coarse.1, coarse.2⟩ else s
    if early && trims mode then (s.setChain i x).count (K.feSat (i / 16)) 32 sats
    else
      let f := formatWord mode (if useCoarse then coarse else y)
      let mark := if early then (if useCoarse then fCoarse else fSettling)
        else if !trims mode && x.steps.any (stepMarks sin idx) then fSettling else 0
      let bs := toLE (formatBytes mode) f.1
      let s := s.modCtx c (fun t => { t with outQ := t.outQ ++ [.word c false (x.line.getD 0) bs.length f.1],
                                             filling := bs.reverse ++ t.filling })
      let x := { x with outs := x.outs + 1, marks := x.marks ||| mark, firstAt := some (x.firstAt.getD x.off),
                        coarseFirst := if x.firstAt.isSome then x.coarseFirst else useCoarse,
                        steps := x.steps.filter (fun t => idx + 1 < t.1 + sin) }
      (s.setChain i x).count (K.feSat (i / 16)) 32 (sats + f.2)

/-- The slot has read a raw line: it goes on with the next one; a BLOCK_TRIM slot restarts with it (R211). -/
def State.chainNext (s : State) (i line : Nat) : State :=
  let k := s.nextLine (s.ctx (s.slotCtx i)).raw (line + 1)
  let s := s.modChain i (fun x =>
    { x with outs := 0, marks := 0, firstAt := none, coarseFirst := false, line := some k, off := 0,
             restart := x.restart || trims (s.slotMode i) })
  s.slotAt i k

/-- A line that the context wrote without samples of its source passes through the slot to the derived ring in its place: an empty one as
it is (R236), a STALE one with the last output words repeated (R10, R210). -/
def State.chainPass (s : State) (i : Nat) (rec : LineRec) : State :=
  let c := s.slotCtx i
  let words := if rec.flags &&& fDegraded ≠ 0 then []
    else (s.ctx c).lastGood.map (fun b => Item.word c false rec.line 1 b.toNat)
  (s.modCtx c (fun t => { t with outQ := t.outQ ++ words ++ [.mark c false rec false none] })).chainNext i rec.line

/-- The end of a raw line: the derived line ends, with the record of its first word (R207, R227): its stamps are the chain's delay
before those of the newest input word, the position among them (R173, R174). -/
def State.chainLineEnd (s : State) (i : Nat) (rec : LineRec) : State :=
  let x := s.chain i
  let c := s.slotCtx i
  let sets := s.slotSets i
  let sin := s.span sets
  let rate := s.chainRate c
  let delay := if x.coarseFirst then Frac.div ⟨2 ^ sets.length - 1, 2⟩ rate else s.chainDelay c sin
  let stamp := match x.firstAt with
    | some a => ofTime96 rec.stamp + (Frac.div ⟨a, 1⟩ rate).units - delay.units
    | none => ofTime96 rec.stamp
  let out := { rec with flags := rec.flags ||| x.marks, stamp := time96 stamp, length := x.outs * formatBytes (s.slotMode i) }
  let pos := if stamp = ofTime96 rec.stamp then ((out, none), s)
    else s.stamped (s.stampPitch 16 c) (s.clockOf stamp) { out with position := 0x800000000000, fraction := 0 }
  let s := pos.2.modCtx c (fun t =>
    { t with outQ := t.outQ ++ [.mark c false pos.1.1 false pos.1.2], filling := [],
             lastGood := if t.filling.isEmpty then t.lastGood else t.filling.reverse })
  s.chainNext i rec.line

/-- Read up to n words of the line in hand. -/
def State.chainRead (s : State) (i : Nat) (rec : LineRec) : Nat → State
  | 0 => s
  | n + 1 =>
    let s := s.takeSteps i rec.line
    let off := (s.chain i).off
    let s := s.chainWord i (s.sampleNumber i rec off) (s.ringWord (s.ctx (s.slotCtx i)).raw rec.line off)
    (s.modChain i (fun y => { y with off := y.off + 1 })).chainRead i rec n

/-- Take up the line that a slot reads next: skip to the oldest retained line where it was overtaken (R217). -/
def State.chainTakeUp (s : State) (i : Nat) : State :=
  let r := (s.ctx (s.slotCtx i)).raw
  let x := s.chain i
  let k := s.slotLine i
  if r.latest.isNone then s
  else if k < r.oldest then
    let lost := (List.range (r.oldest - k)).foldl (fun a j =>
      a + ((r.recs.find? (fun e => e.line == k + j)).map (·.length)).getD r.lineBytes / 2) 0 - x.off
    ((s.setChain i { x with line := some r.oldest, off := 0 }).loseWords i lost).slotAt i r.oldest
  else s.setChain i { x with line := some k }

/-- Whether a slot has something to do in its turn: a word available, a line to end, or a change to load (R199, R212). A slot that primes
or waits to has not (R212). -/
def State.slotReady (s : State) (i : Nat) : Bool :=
  let r := (s.ctx (s.slotCtx i)).raw
  let k := s.slotLine i
  s.slotCtx i != 0xFFFF && (s.slotState i == 1 || s.slotState i == 2 || s.slotState i == 5) &&
    (k < r.oldest || s.holdsLine r k || (s.chain i).changeAt.any (fun b => decide (b ≤ k)))

/-- A slot's turn: words of its lines in order, through at most so many transfers, line ends and changes, until the batch is full, none is
available, or the boundary of a change is reached. A poisoned transfer's words are lost (R261). -/
def State.chainBatch (s : State) (i : Nat) : Nat → Nat → State
  | 0, _ => s
  | fuel + 1, left =>
    if !s.slotReady i then s
    else
      let s := s.chainTakeUp i
      let x := s.chain i
      let r := (s.ctx (s.slotCtx i)).raw
      let k := s.slotLine i
      match x.changeAt.filter (fun b => decide (b ≤ k)) with
      | some b => s.loadChange i b
      | none =>
        let lr := s.recOf r k
        if lr.length = 0 && lr.flags &&& (fDegraded ||| fStale) ≠ 0 then (s.chainPass i lr).chainBatch i fuel left
        else
          let a := s.lineAddr r k (2 * x.off)
          let n := min (min left ((64 - a % 64) / 2)) (lr.length / 2 - x.off)
          let s := if s.poisoned a && 0 < n then (s.loseWords i n).modChain i (fun y => { y with off := y.off + n })
            else s.chainRead i lr n
          if 2 * (s.chain i).off ≥ lr.length then (s.chainLineEnd i lr).chainBatch i fuel (left - n)
          else if left ≤ n then s
          else s.chainBatch i fuel (left - n)

/-- The slots of an engine in the order of its round, from the one whose turn it is. -/
def State.turnOrder (s : State) (n : Nat) : List Nat :=
  (List.range 16).map (fun j => 16 * n + (Sp.get (fun _ => 0) s.feTurn n + j) % 16)

/-- FE_BATCH (R199): the next slot in the round that has words takes those available in its raw ring, at most 32; the turn passes on. A
HELD slot reads only what its source gave before; one that primes or waits reads nothing; a STOPPING one reads up to its boundary. While
the engine's group is red-carded its slots lag (R275). -/
def xFeBatch (n : Nat) (s : State) : State :=
  if !isOn (s.obj (K.feStatus n)) then s
  else if s.clientRed (34 + n / 8) then s.showLag n
  else match (s.turnOrder n).find? s.slotReady with
    | none => s.showLag n
    | some i =>
      (({ s with feTurn := Sp.put (fun _ => 0) s.feTurn n ((i + 1) % 16) } : State).chainBatch i 96 32).showLag n

/-! ## Enable (R218) -/

/-- The lowest context that a slot of an engine holds. -/
def State.engineHolds (s : State) (n : Nat) : Option Nat :=
  (((List.range 16).map (fun j => s.slotCtx (16 * n + j))).filter (fun c => c != 0xFFFF)).min?

/-- Whether a quadrant is powered (`placer.quadrants`, R228). -/
def State.powered (s : State) (q : Nat) : Bool := bitsOf (s.obj K.placerQuadrants) q q == 1

/-- An enable write while a SAFE cause is set ends with NOT_IN_MODE, detail 6; disables are carried out (R94). -/
def guardSafeEnable (s : State) (v : Nat) : Res Unit := need (v == 0 || s.obj K.deviceSafeCause == 0) aMode mSafe

/-- Checks of an engine's enable (R218). -/
def guardFeEnable (s : State) (n v : Nat) : Res Unit := do
  guardSafeEnable s v
  match s.engineHolds n with
  | some c => need (v != 0) aConflict (0x000A0000 + c)
  | none => .ok ()

/-- FE_ENABLE (R218, R101): in an unpowered quadrant the engine reads OFF and the written enable waits. -/
def xFeEnable (n v : Nat) (s : State) : State :=
  if s.powered (n / 16) then s.set (K.feStatus n) (enWrite (s.obj (K.feStatus n)) v) else s

/-- After a slot write the device copies the value into the context's node (09, Changing a running chain). -/
def actSlotStaged (n j off len v : Nat) (s : State) : State :=
  let c := s.slotCtx (16 * n + j)
  if c = 0xFFFF then s
  else s.copyField (K.graphNodeChain c) (fun x => withBits x (8 * (off + len) - 1) (8 * off) v)

end Sys2Proof.Machine
end

