-- ==== Sys2Proof/Machine/Time.lean ====
section
/-! DEFINITION. Timebase, encoders and line triggers (07_timebase_triggers.md): REFCLK, synthesisers, TIME96 and its sources,
encoders, position track, pitch generators. -/

namespace Sys2Proof.Machine

/-! ## REFCLK and synthesisers (R153 to R157) -/

/-- The tiles of a variant. -/
def allTiles (v : Variant) : List Nat := List.range (tileCount v)
def allQuads (v : Variant) : List Nat := List.range (quadCount v)

/-- The HOLDOVER bit of every synthesiser. -/
def State.holdoverBits (s : State) (b : Bool) : State :=
  (allQuads s.variant).foldl (fun st q => st.set (K.timeSynStatus q) (withBit (st.obj (K.timeSynStatus q)) 4 b)) s

/-- REFCLK_LOSS (R156 steps 2 and 3): holdover, HOLDOVER bits, the TIMEBASE source, and the timing ratios at 0. -/
def xRefclkLoss (s : State) : State :=
  if s.obj K.timeRefclkState = 1 then s
  else
    let t := s.set K.timeRefclkState 1
    let t := (State.riseIf s t 749 0).count K.timeRefclkLosses 32 1
    let t := { t with refLost := t.clock }
    (allTiles t.variant).foldl (fun st n => st.unlockTiming n) (t.holdoverBits true)

/-- REFCLK_RETURN (R156 step 4a). -/
def xRefclkReturn (s : State) : State :=
  if s.obj K.timeRefclkState = 0 then s
  else
    let s := (s.set K.timeRefclkState 0).set K.timeRefclkHoldoverMs ((s.clock - s.refLost) / perMs)
    s.holdoverBits false

/-- HOLDOVER_LIMIT_EXPIRY (R156 step 4b). -/
def xHoldoverLimit (s : State) : State := if s.obj K.timeRefclkState = 1 then s.askSafe 7 else s

/-- REFCLK_DETECTED (R153): one of the two frequencies within 100 ppm, else SAFE cause REFCLK. -/
def xRefclkDetected (hz : Nat) (s : State) : State :=
  if 99990000 ≤ hz && hz ≤ 100010000 then s.set K.timeRefclkFreq 100000000
  else if 156234375 ≤ hz && hz ≤ 156265625 then s.set K.timeRefclkFreq 156250000
  else s.askSafe 7

/-- The tick rate of a monitor from the quadrant clock (R347). -/
def State.tickReal (s : State) (n i : Nat) : Nat :=
  let f := fracOfF32 (s.obj (K.timeSynFreq (quadOf n)))
  let t := s.obj (K.tileMonTick n i)
  if f.num = 0 then 0 else (Frac.div f ⟨(Frac.div f ⟨t, 1⟩).ceil, 1⟩).f32

/-- SYNTH_LOCKED (R155): STARTING ends, and the phase against REFCLK is measured: it lies within one period of f_Q. An edge of the
quadrant's clock comes that much after a REFCLK edge, which is taken at this instant (DESIGN CHOICE, log entry 31). -/
def xSynthLocked (q : Nat) (phase : Int) (s : State) : State :=
  if enState (s.obj (K.timeSynStatus q)) ≠ 1 then s
  else
    let b := enEnd (s.obj (K.timeSynStatus q))
    let s := s.set (K.timeSynStatus q) b
    if !isOn b then s
    else
      let ps := phase.toNat % max 1 (Frac.div ⟨1000000000000, 1⟩ (fracOfF32 (s.obj (K.timeSynFreq q)))).ceil
      let s := { s with quadEdge := Sp.put (fun _ => 0) s.quadEdge q (s.clock + ps * 65536 / 1000) }
      (s.set (K.timeSynPhase q) ps).count (K.timeSynLocks q) 32 1

/-! ## TIME96 (R158, R159) -/

/-- Whether the mode permits a step of the counter: STANDBY, LOAD, or PREPARE before step 6 (R159). -/
def State.mayStep (s : State) : Bool :=
  s.mode == mStandby || s.mode == mLoad || (s.mode == mPrepare && !s.prepAt 6)

/-- Change the time state; leaving LOCKED raises TIME (R403). -/
def State.setTimeState (s : State) (v : Nat) : State :=
  let old := s.obj K.timeState
  let s := s.set K.timeState v
  if old = 2 && v ≠ 2 then s.raise 750 0 else s

/-- An offset in ps, saturating. -/
def offsetPs (units : Int) : Nat := satSigned 32 (units * 1000 / 65536)

/-- A synchronisation from a source: the counter steps where the offset passes `time.step_limit` and the mode permits one,
else it slews at a rate in ppb (R159). LOCKED after 16 within 1 µs (R158)
(DEDUCED, log entry 29). -/
def State.synchronise (s : State) (offset rate : Int) : State :=
  let s := s.set K.timeOffset (offsetPs offset)
  let near := offset.natAbs ≤ perUs
  let runs := if near then s.lockRuns + 1 else 0
  let s := { s with lockRuns := runs }
  let s : State :=
    if offset.natAbs > s.obj K.timeStepLimit * perNs && s.mayStep then
      { s.set K.timeRate 0 with time := ((s.time : Int) - offset).toNat, timeRem := 0 }
    else
      s.set K.timeRate (satSigned 32 rate)
  if runs ≥ 16 then (if s.obj K.timeState = 2 then s else s.setTimeState 2)
  else if s.obj K.timeState = 2 && near then s
  else s.setTimeState 1

/-- Whether the device takes its time from Rally, whatever `time.ptp.enable`: a member other than the lead captain (R158). A device that
stands alone, is excluded or has lost every Rally lane keeps its own time (R186, R193, R194). -/
def State.timeByRally (s : State) : Bool := (s.obj K.rallyState - 1 < 6 && s.obj K.rallyState != 0) && s.obj K.rallyRole != 2

/-- The source RALLY is lost, or this device is no longer steered by it: HOLDOVER after LOCKED, else FREERUN (R158). -/
def State.loseRally (s : State) : State :=
  if s.obj K.timeSource ≠ 2 then s
  else
    let locked := s.obj K.timeState = 2 || s.obj K.timeState = 3
    ({ s.set K.timeSource 0 with lockRuns := 0 } : State).setTimeState (if locked then 3 else 0)

/-- PTP_MESSAGE (R158 to R160): on the transport chosen; the best master of the port's domain. The rate of a slew within `time.slew_max` is
open (R159, DESIGN CHOICE, log entry 2). -/
def xPtpMessage (m : Ptp) (s : State) : State :=
  if s.obj K.timePtpEnable = 0 || s.obj K.portsMgmtLink ≠ 3 || s.timeByRally then s
  else match m with
    | .announce transport domain master selected utc =>
      if transport ≠ s.obj K.timePtpTransport || domain ≠ s.obj K.timePtpDomain || !selected then s
      else
        let changed := s.obj K.timePtpMaster ≠ master
        let s := (s.set K.timePtpMaster master).set K.timeUtcOffset (satSigned 16 utc)
        let s := if changed then s.raise 750 0 else s
        if s.obj K.timeSource = 1 && !changed then s
        else
          let s := { s with lockRuns := 0 }
          ((s.set K.timeSource 1).set K.timePtpPortState 8).setTimeState 1
    | .sync transport domain offset delay =>
      if transport ≠ s.obj K.timePtpTransport || domain ≠ s.obj K.timePtpDomain || s.obj K.timeSource ≠ 1 then s
      else
        let d := s.draw 4
        let m : Int := (d.1 % (s.obj K.timeSlewMax + 1) : Nat)
        let s := (d.2.set K.timePtpPathDelay (satSigned 32 delay)).synchronise offset (if offset > 0 then -m else if offset < 0 then m else 0)
        s.set K.timePtpPortState (if s.obj K.timeState = 2 then 9 else 8)

/-- The PTP source is lost: HOLDOVER after LOCKED, the counter keeping its last rate word; else FREERUN (R158)
(DEDUCED, log entry 29). -/
def State.losePtp (s : State) : State :=
  if s.obj K.timeSource ≠ 1 then s
  else
    let locked := s.obj K.timeState = 2
    let s := (s.set K.timeSource 0).set K.timePtpMaster 0
    let s := { s.set K.timePtpPortState 5 with lockRuns := 0 }
    s.setTimeState (if locked then 3 else 0)

/-- PTP_ANNOUNCE_TIMEOUT (R158) (DEDUCED, log entry 29). -/
def xPtpAnnounceTimeout (s : State) : State := if s.obj K.timeSource = 1 then (s.losePtp).raise 750 0 else s

/-- After a write of `time.ptp.enable` (R158). -/
def actPtpEnable (v : Nat) (s : State) : State :=
  if v = 0 then (s.losePtp).set K.timePtpPortState 4 else s.set K.timePtpPortState 5

/-- TIME_SET (R159): the source must be FREE and the mode permit a step. -/
def guardTimeSet (s : State) : Res Unit := need (s.obj K.timeSource == 0 && s.mayStep) aMode s.mode
/-- DEDUCED, log entry 29. -/
def xTimeSet (v : Nat) (s : State) : State := { s with time := ofTime96 v, timeRem := 0 }

/-! ## Encoders (R161 to R166) -/

/-- Set or clear a bit of an encoder's flags. -/
def State.encFlag (s : State) (e bit : Nat) (b : Bool) : State :=
  s.set (K.encFlags e) (withBit (s.obj (K.encFlags e)) bit b)

/-- Set a condition bit of an encoder (1 STANDSTILL, 2 RANGE, 3 SIGNAL) and raise its source. -/
def State.encAlarm (s : State) (e bit detail : Nat) : State :=
  (s.encFlag e bit true).raise (720 + 3 * e + (bit - 1)) detail

/-- The counts of a transition from levels a, b to a', b' by mode (R161): `none` where it is illegal. QUAD1 counts the edges of A
while B is low (DEDUCED, log entry 30). -/
def decodeStep (mode : Nat) (a b a' b' : Bool) : Option Int :=
  if mode = 2 then some (if !a && a' then (if b' then 1 else -1) else 0)
  else if a ≠ a' && b ≠ b' then none
  else
    let dir : Int := if a ≠ a' then (if a' ≠ b' then 1 else -1) else if b ≠ b' then (if a' = b' then 1 else -1) else 0
    if mode = 0 then some dir else some (if a ≠ a' && !b' then dir else 0)

/-- The pitch generators bound to an encoder that are ON. -/
def State.pitchesOf (s : State) (e : Nat) : List Nat :=
  (List.range 16).filter (fun p => s.obj (K.pitchEncoder p) == e && isOn (s.obj (K.pitchStatus p)))

/-- The quantum of a grid: div ÷ (1,024 × f_Q), in seconds (R169). -/
def quantum (div : Nat) (fq : Frac) : Frac := Frac.div ⟨div, 1024⟩ fq

/-- An instant, as a fraction of 2^-16 ns, rounded to the nearest point of a generator's grid, which is counted from the edges of its
quadrant's clock (R169). While that has no clock there is no grid. -/
def State.onGrid (s : State) (p : Nat) (num den : Nat) : Nat :=
  let q := s.obj (K.pitchGridQ p)
  let f := fracOfF32 (s.obj (K.timeSynFreq q))
  let origin := Sp.get (fun _ => 0) s.quadEdge q
  if f.num = 0 || den = 0 then num / max 1 den
  else
    let step := Frac.mul ⟨perS, 1⟩ (quantum (s.obj (K.pitchGridDiv p)) f)
    let n : Int := (2 * ((num : Int) - (origin * den : Nat)) * step.den + (step.num * den : Nat)) / ((2 * step.num * den : Nat) : Int)
    ((origin : Int) + roundHalfEven (n * step.num) step.den).toNat

/-- The instant, as a fraction of 2^-16 ns, at which the strip is to reach a place that lies `far` 2^-16 counts on, from the velocity over
the newest w edges, or all of them while there are fewer, at least two; none while it does not move that way (R169, DEDUCED, log
entry 30). -/
def predicted (edges : List (Nat × Int)) (w : Nat) (far : Int) : Option (Nat × Nat) :=
  let used := edges.take (max 2 w)
  match used.head?, used.getLast? with
  | some a, some z =>
    let moved := a.2 - z.2
    let num := far * ((a.1 : Int) - z.1)
    if used.length < 2 || a.1 = z.1 || num * moved ≤ 0 then none
    else let den := moved.natAbs * 65536; some (a.1 * den + num.natAbs, den)
  | _, _ => none

/-- The instant at which a record of edges crosses a target between its two newest edges, and what it differs from the
trigger issued for it (R170). -/
def crossing (target : Int) (t0 : Nat) (m0 : Int) (t1 : Nat) (m1 : Int) : Option Nat :=
  if (m0 < target && target ≤ m1) || (m1 ≤ target && target < m0) then
    some (t0 + (((t1 : Int) - t0) * (target - m0) / (m1 - m0)).toNat)
  else none

/-- Square root of the mean of a list of squares in (2^-16 ns)², as ps. -/
def rmsPs (es : List Nat) : Nat :=
  if es.isEmpty then 0
  else (Frac.sqrtF32 ⟨es.foldl (· + ·) 0 * 1000000, es.length * 65536 * 65536⟩)

/-- The target that a trigger is for: above or below, by direction and the way the strip moves. -/
def State.targetOf (s : State) (p : Nat) : Int × Bool :=
  let x := s.pitchOf p
  match s.obj (K.pitchDirection p) with
  | 0 => (x.up, true)
  | 1 => (x.down, false)
  | _ => if bitsOf (s.obj (K.encFlags (s.obj (K.pitchEncoder p)))) 4 4 = 1 then (x.down, false) else (x.up, true)

/-- The edge time after which a target crossed without a prediction has its trigger: 16 ns (R169, R170). -/
def lateBy : Nat := 16 * perNs

/-- What a generator aims at after a counted edge, or once a trigger has moved its target on (R169, R170): an instant that has come stands;
a target that an edge has reached gives a late trigger 16 ns after that edge; else the latest prediction, on the grid. -/
def State.aimOf (s : State) (p t : Nat) : Option (Nat × Bool) :=
  let x := s.pitchOf p
  let tg := s.targetOf p
  let old := match x.aim with | some a => decide (a.1 ≤ t) || a.2 | none => false
  if old then x.aim
  else if (if tg.2 then decide (tg.1 ≤ x.moved) else decide (x.moved ≤ tg.1)) then some (t + lateBy, true)
  else (predicted (s.enc (s.obj (K.pitchEncoder p))).recent (s.obj (K.pitchWindow p)) (tg.1 - x.moved)).map
    (fun f => (s.onGrid p f.1 f.2, false))

/-- A generator aims anew, at the edge of an instant. -/
def State.takeAim (s : State) (p t : Nat) : State := s.setPitch p { s.pitchOf p with aim := s.aimOf p t }

/-- A counted edge at an instant moves a pitch generator bound to the encoder, and settles the error of triggers whose crossing it
shows. -/
def State.movePitch (s : State) (p t : Nat) (d : Int) (before : Option Nat) : State :=
  let x := s.pitchOf p
  let m := x.moved + d * 65536
  match before with
  | none => (s.setPitch p { x with moved := m }).takeAim p t
  | some t0 =>
    let seen := x.watch.filterMap (fun w => (crossing w.1 t0 x.moved t m).map (fun z =>
      (((z : Int) - w.2) * ((z : Int) - w.2)).toNat))
    let left := x.watch.filter (fun w => (crossing w.1 t0 x.moved t m).isNone)
    let errs := (seen ++ x.errors).take 1024
    let s := s.setPitch p { x with moved := m, watch := left, errors := errs }
    (if seen.isEmpty then s else s.set (K.pitchError p) (rmsPs errs)).takeAim p t

/-- The resolution of edge times, 62.5 ps, in 2^-16 ns (R162). -/
def edgeTick : Nat := 4096

/-- Whether a level held for some ps passes the glitch filter: at least 5 ns × `enc.glitch` (R162). -/
def State.passesFilter (s : State) (e held : Nat) : Bool := decide (5000 * s.obj (K.encGlitch e) ≤ held)

/-- ENCODER_EDGE (R161 to R163): levels that held for `held` ps, at the instant of their first transition; the glitch filter rejects
shorter ones. -/
def xEncoderEdge (e : Nat) (a b : Bool) (held : Nat) (s : State) : State :=
  let x := s.enc e
  if !s.encRuns e then s.setEnc e { x with a := a, b := b }
  else if x.a = a && x.b = b then s
  else if !s.passesFilter e held then s.count (K.encGlitches e) 32 1
  else match decodeStep (s.obj (K.encMode e)) x.a x.b a b with
    | none =>
      let s := s.setEnc e { x with a := a, b := b, signal := true, quiet := 0 }
      (s.count (K.encIllegal e) 32 1).encAlarm e 3 0xFF
    | some d0 =>
      let d := if s.obj (K.encInvert e) = 1 then -d0 else d0
      if d = 0 then s.setEnc e { x with a := a, b := b }
      else
        let t := s.clock / edgeTick * edgeTick
        let pos := s.position e + d
        let last := match x.jumped with | some p => [(t, p)] | none => []
        let span := 131072 * s.obj (K.encTrackNs e) * perNs
        let older := x.edges.take ((x.edges.takeWhile (fun w => decide (s.clock < w.1 + span + perMs))).length + 1)
        let ps := s.pitchesOf e
        let before := x.recent.head?.map (·.1)
        let total := match x.recent with | w :: _ => w.2 + d | [] => d
        let s := s.setEnc e { x with a := a, b := b, edges := (t, pos) :: last ++ older, recent := (t, total) :: x.recent.take 63,
                                     moved := x.moved + d, jumped := none, stopped := none }
        let s := s.set (K.encPosition e) (unsigned 48 pos)
        let s := (s.encFlag e 1 false).encFlag e 4 (decide (d < 0))
        ps.foldl (fun st p => st.movePitch p t d before) s

/-- Load a position and set REFERENCED (R164): stamps change from the next count on (R165). -/
def State.loadPosition (s : State) (e v : Nat) : State :=
  let s := s.setEnc e { s.enc e with jumped := some (((s.enc e).jumped).getD (s.position e)) }
  (s.set (K.encPosition e) v).encFlag e 0 true

/-- ENCODER_Z_EDGE (R164). -/
def xEncoderZ (e : Nat) (s : State) : State :=
  let x := s.enc e
  let z := s.obj (K.encZMode e)
  if !s.encRuns e then s
  else if x.index || (z = 2 && x.armed) then
    (s.setEnc e { x with armed := false, index := false }).loadPosition e (s.obj (K.encPreset e))
  else if z = 0 then s
  else s.set (K.encZPos e) (s.obj (K.encPosition e))

/-- ENCODER_WINDOW (R163): rate and acceleration of the last 1 ms, RANGE, SIGNAL and the rate check of R88. It is the safe point of an
encoder that stops (R166). -/
def xEncoderWindow (e : Nat) (s : State) : State :=
  let x := s.enc e
  if !s.encRuns e then s
  else
    let rate := x.moved * 1000
    let accel := if x.rated then (rate - signed 32 (s.obj (K.encRate e))) * 1000 else 0
    let fast := rate.natAbs > s.obj (K.encRateMax e) || accel.natAbs > s.obj (K.encAccelMax e)
    let good := s.obj (K.encRateMin e) ≤ rate.natAbs && !fast
    let calm := if fast then 0 else x.calm + 1
    let quiet := if x.signal then 0 else x.quiet + 1
    let s := (s.set (K.encRate e) (satSigned 32 rate)).set (K.encAccel e) (satSigned 32 accel)
    let s := s.setEnc e { x with moved := 0, rated := true, signal := false, calm := calm, quiet := quiet,
                                 passing := if good then x.passing + 1 else 0 }
    let was := bitsOf (s.obj (K.encFlags e)) 2 2
    let s := if fast then (if was = 0 then s.encAlarm e 2 0xFF else s)
      else if calm ≥ 8 then s.encFlag e 2 false else s
    let s := if quiet ≥ 8 then s.encFlag e 3 false else s
    if enState (s.obj (K.encStatus e)) = eStopping then s.set (K.encStatus e) (enEnd (s.obj (K.encStatus e))) else s

/-- ENCODER_SIGNAL_LOSS (R163, R423). -/
def xEncoderSignalLoss (e : Nat) (s : State) : State :=
  if !s.encRuns e then s
  else (s.setEnc e { s.enc e with signal := true, quiet := 0 }).encAlarm e 3 0xFF

/-- The rate check of R88: 8 windows in a row. -/
def State.rateCheck (s : State) (e : Nat) : Bool := (s.enc e).passing ≥ 8

/-- Checks of the glitch filter against the rate limit (R162): 5 ns × glitch × rate_max ≤ 0.5 × 10⁹. -/
def guardGlitch (s : State) (e v : Nat) : Res Unit :=
  let r := s.obj (K.encRateMax e)
  need (10 * v * r ≤ 1000000000) aRange (max 1 (100000000 / r))
def guardRateMax (s : State) (e v : Nat) : Res Unit :=
  let g := s.obj (K.encGlitch e)
  need (10 * g * v ≤ 1000000000) aRange (100000000 / g)

/-- `enc.preset` may not be written in RUN, `enc.track_ns` only in LOAD (R164, R167). -/
def guardPreset (s : State) : Res Unit := need (s.mode != mRun) aMode s.mode
def guardTrackNs (s : State) : Res Unit := needMode s [mLoad]
def actPreset (e v : Nat) (s : State) : State := s.loadPosition e v

/-- The contexts whose node names a pitch generator. -/
def State.pitchCtxs (s : State) (p : Nat) : List Nat :=
  s.ringed.filter (fun c => s.node (K.graphNodePitch c) == p && s.node (K.graphNodeSource c) == 1)

/-- Whether a FLOWING context uses a pitch generator bound to an encoder (R166, R88). -/
def State.encUsed (s : State) (e : Nat) : Bool :=
  (List.range 16).any (fun p => s.obj (K.pitchEncoder p) == e && (s.pitchCtxs p).any (fun c => s.ctxState c == cFlowing))

/-- Whether an encoder drives a generator that a FLOWING context uses (R88): one whose triggers come from the formation has it only for
position stamps. -/
def State.encDrives (s : State) (e : Nat) : Bool :=
  (List.range 16).any (fun p => s.obj (K.pitchEncoder p) == e && s.obj (K.pitchSource p) != 1 &&
    (s.pitchCtxs p).any (fun c => s.ctxState c == cFlowing))

/-- Checks of an encoder's enable (R166, R94). -/
def guardEncEnable (s : State) (e v : Nat) : Res Unit := do
  guardSafeEnable s v
  need (v != 0 || !s.encUsed e) aConflict (0x000B0000 + e)

/-- ENC_ENABLE (R99, R166). -/
def xEncEnable (e v : Nat) (s : State) : State := s.set (K.encStatus e) (enWrite (s.obj (K.encStatus e)) v)

/-- An encoder reads ON: its first window opens, edges are counted from now (R166, R169). -/
def State.encStart (s : State) (e : Nat) : State :=
  s.setEnc e { s.enc e with edges := [(s.clock, s.stampedPosition e)], recent := [], moved := 0, rated := false, signal := false,
                            passing := 0, stopped := none }

/-! ## Pitch generators (R168 to R172) -/

/-- The encoder bound to a pitch generator. -/
def State.encOf (s : State) (p : Nat) : Nat := s.obj (K.pitchEncoder p)

/-- A pitch generator reads ON: its targets differ from the position now by whole, non-zero numbers of pitches (R171), and a
pitch written before holds from the first target. -/
def State.pitchStart (s : State) (p : Nat) : State :=
  let s := s.settle (K.pitchPitch p)
  let w : Int := s.obj (K.pitchPitch p)
  s.setPitch p { Pitch.none_ with up := w, down := -w }

/-- The next target a pitch on: none lies where the generator came ON (R171). -/
def beyond (target w : Int) : Int := if target + w = 0 then target + 2 * w else target + w

/-- The targets after one has been crossed: a pitch further on; BOTH keeps the crossed target on the other side
(DEDUCED, log entry 30). -/
def nextTargets (direction : Nat) (up : Bool) (target w : Int) (x : Pitch) : Int × Int :=
  if direction = 2 then (if up then (beyond target w, target) else (target, beyond target (-w)))
  else if up then (target + w, x.down) else (x.up, target - w)

/-- The line number that the next trigger carries. -/
def State.nextTriggerLine (s : State) (p : Nat) : Nat :=
  if (s.pitchOf p).begun then (s.obj (K.pitchLine p) + 1) % 2 ^ 64 else s.obj (K.pitchLineStart p)

/-- A pitch generator issues a trigger with a line number at an instant: what its record shows (R171, R176). -/
def State.issueTrigger (s : State) (p line pos at_ : Nat) : State :=
  let s := (s.set (K.pitchLine p) line).set (K.pitchLastTime p) (time96 (s.timeAt at_))
  let s := s.set (K.pitchLastPos p) pos
  s.setPitch p { s.pitchOf p with lastAt := some at_, begun := true }

/-- Whether a trigger at an instant would come less than `min_period` after the previous one (R170). -/
def State.tooSoon (s : State) (p at_ : Nat) : Bool :=
  match (s.pitchOf p).lastAt with
  | some t => decide ((at_ - t) * 1000 < s.obj (K.pitchMinPeriod p) * 65536)
  | none => false

/-- The instant that a generator aims at comes (R168 to R170): the target moves on, and the generator aims at the next; a trigger too soon
after the previous one is skipped, with its encoder's RANGE; otherwise its line number is given. While RANGE is set a trigger is
late too (DEDUCED, log entry 30). -/
def State.firePitch (s : State) (p at_ : Nat) (late0 : Bool) : State × Option Nat :=
  let x := s.pitchOf p
  let e := s.encOf p
  let tg := s.targetOf p
  let soon := s.tooSoon p at_
  let late := late0 || bitsOf (s.obj (K.encFlags e)) 2 2 == 1
  let pos := unsigned 48 (s.stampedPosition e + (tg.1 - x.moved) / 65536)
  let s := s.settle (K.pitchPitch p)
  let nx := nextTargets (s.obj (K.pitchDirection p)) tg.2 tg.1 (s.obj (K.pitchPitch p)) x
  let newest := match (s.enc e).recent with | w :: _ => w.1 | [] => at_
  if soon then
    let s := (s.setPitch p { x with up := nx.1, down := nx.2, aim := none }).takeAim p newest
    let s := s.setEnc e { s.enc e with calm := 0 }
    ((s.count (K.pitchSkipped p) 32 1).encAlarm e 2 p, none)
  else
    let line := s.nextTriggerLine p
    let s := s.setPitch p { x with up := nx.1, down := nx.2, aim := none,
                                   watch := if late0 then x.watch else (tg.1, at_) :: x.watch }
    let s := (s.takeAim p newest).issueTrigger p line pos at_
    let s := s.set (K.pitchStatus p) (withBit (s.obj (K.pitchStatus p)) 4 late)
    (if late then s.count (K.pitchLate p) 32 1 else s, some line)

/-- Whether a generator may fire on its own: ON, and its source is LOCAL (R171). -/
def State.firesLocally (s : State) (p : Nat) : Bool :=
  isOn (s.obj (K.pitchStatus p)) && s.obj (K.pitchSource p) == 0 && s.encOf p < 8 && s.encRuns (s.encOf p)

/-- The quantum of a grid in ps; 0 while the quadrant has no clock (R169). -/
def quantumPs (div : Nat) (fq : Frac) : Nat := if fq.num = 0 then 0 else (Frac.mul ⟨1000000000000, 1⟩ (quantum div fq)).f32

end Sys2Proof.Machine
end

