-- ==== Sys2Proof/Machine/Versions.lean ====
section
/-! DEFINITION. Versions and the board store (02_layout_table.md, 10_placer_contexts.md): compatibility words, tested
combinations, acceptance, firmware slots; board facts and their commit. -/

namespace Sys2Proof.Machine

/-! ## Compatibility words (R31 to R34, R429) -/

/-- Whether two words are the same version: kind, major and minor agree (R31). -/
def sameVersion (a b : Nat) : Bool := a / 256 == b / 256

/-- Kind and major of a word. -/
def wordKind (w : Nat) : Nat := bitsOf w 31 24
def wordMajor (w : Nat) : Nat := bitsOf w 23 16

/-- The classes of R33. -/
inductive Tested where
  | tested | untestable | untested
  deriving DecidableEq, Repr

/-- The current entries of the tested list (R32). -/
def State.currentCombos (s : State) : List (List Nat) :=
  s.running.combos.filter (fun e => sameVersion (e.getD 0 0) (s.obj K.versionsMgmtRunning))

/-- Whether an entry holds a word of a kind (R33). -/
def comboHolds (kind w : Nat) (e : List Nat) : Bool :=
  if kind = 2 then sameVersion (e.getD 1 0) w
  else
    let i := 2 * (kind - 2)
    decide (e.getD i 0 / 256 ≤ w / 256) && decide (w / 256 ≤ e.getD (i + 1) 0 / 256)

/-- The highest major that the running image implements for a kind (R429). -/
def State.majorOf (s : State) (kind : Nat) : Nat := byteAt (s.obj K.versionsMajors) (kind - 2)

/-- The class of a word (R33). -/
def State.classify (s : State) (kind w : Nat) : Tested :=
  if s.currentCombos.any (comboHolds kind w) then .tested
  else if wordMajor w > s.majorOf kind then .untestable
  else .untested

/-- The abort code with which an item is refused, if it is (R33). -/
def State.refusalOf (s : State) (kind w : Nat) : Option Nat :=
  match s.classify kind w with
  | .tested => none
  | .untestable => some aStale
  | .untested => if s.obj K.versionsAccept = 1 then none else some aUntested

/-- Record a refused check (R33) (DESIGN CHOICE, log entry 28). -/
def State.noteRefusal (s : State) (kind code : Nat) : State := s.set K.versionsLastRefusal (code * 65536 + kind)

/-- The version check of an item: refused with its record, or passed. The detail word is the refused word. -/
def State.checkVersion (s : State) (kind w : Nat) : State × Res Unit :=
  match s.refusalOf kind w with
  | some code => (s.noteRefusal kind code, .error ⟨code, w⟩)
  | none => (s, .ok ())

/-- An item comes into force: `versions.restricted` follows the untested ones, and a change raises VERSION (R33, R37)
(DESIGN CHOICE, log entry 28). -/
def State.setUntested (s : State) (bit : Nat) (b : Bool) : State :=
  let s := { s with untested := withBit s.untested bit b }
  let r := if s.untested = 0 then 0 else 1
  if s.obj K.versionsRestricted = r then s else (s.set K.versionsRestricted r).raise 746 0

/-- An item of a kind comes into force with a word, as its check classed it. -/
def State.inForceWord (s : State) (bit kind w : Nat) : State := s.setUntested bit (s.classify kind w != .tested)

/-- The check of a die's sequencer (R35, R36). -/
def State.checkDie (s : State) (d : Nat) : State :=
  let w := s.seqWords.getD d 0
  match s.classify 2 w with
  | .tested => (s.set (K.versionsSeqState d) 0).setUntested (1 + d) false
  | .untestable => ((s.set (K.versionsSeqState d) 2).noteRefusal 2 aStale).setUntested (1 + d) false
  | .untested =>
    if s.obj K.versionsAccept = 1 then (s.set (K.versionsSeqState d) 1).setUntested (1 + d) true
    else ((s.set (K.versionsSeqState d) 2).noteRefusal 2 aUntested).setUntested (1 + d) false

/-- The dies of the variant. -/
def State.dies (s : State) : List Nat := List.range (dieCount s.variant)

/-- After a write of `versions.accept` (R36): from 0 to 1 every die in FACTORY is checked again. -/
def actAccept (old v : Nat) (s : State) : State :=
  if old = 0 && v = 1 then
    s.dies.foldl (fun st d => if st.obj (K.versionsSeqState d) = 2 then st.checkDie d else st) s
  else s

/-- After a write of `versions.mgmt.select`: it goes to boot flash at once and holds from the next reset (R48). -/
def actSelect (v : Nat) (s : State) : State := { s with flashSelect := v }

/-- Whether a die is in FACTORY (R35). -/
def State.factoryDie (s : State) (d : Nat) : Bool := s.obj (K.versionsSeqState d) == 2

/-- A sequencer image is written to a die (R31, R36): the pair is checked. -/
def xSequencerWritten (d w : Nat) (s : State) : State :=
  let s := { s with seqWords := s.seqWords.set d w }
  (s.set (K.versionsSeqWord d) w).checkDie d

/-! ## Firmware slots (R39 to R41) -/

/-- The bytes of an image's first word. -/
def imageWord (bs : List Byte) : Nat := leAt bs 0 4

/-- The slot that an image makes when its programming passes (DESIGN CHOICE, log entry 4). -/
def slotOfImage (bs : List Byte) : Slot where
  headerValid := true
  word := imageWord bs
  crcGood := true
  image := bs
  combos := Config.imageCombos bs
  majors := Config.imageFact bs 0 % 4294967296
  rallyMin := Config.imageFact bs 1 % 4294967296
  rallyMax := Config.imageFact bs 2 % 4294967296
  algorithm := Config.imageFact bs 3 % 65536

def State.setSlot (s : State) (n : Nat) (x : Slot) : State := if n = 0 then { s with slotA := x } else { s with slotB := x }

/-- The object that shows a slot's word. -/
def slotWordKey (n : Nat) : Nat := if n = 0 then K.versionsMgmtWordA else K.versionsMgmtWordB

/-- Step 1 of R41: the slot with its header erased. -/
def State.eraseSlot (s : State) (n : Nat) : State :=
  (s.setSlot n { s.bootSlot n with headerValid := false, word := 0, crcGood := false, image := [] }).set (slotWordKey n) 0

/-- The end of step 3 of R41: the header is written when the read-back has passed; otherwise the slot stays invalid. -/
def State.finishSlot (s : State) (n : Nat) (bs : List Byte) (ok : Bool) : State :=
  if ok then (s.setSlot n (slotOfImage bs)).set (slotWordKey n) (imageWord bs)
  else s.raise 747 0

/-! ## Board facts (R220, R221) -/

/-- Whether a key is a board fact, or the map of R351 that is committed with them. -/
def isBoardKey (k : Nat) : Bool :=
  (k / 256 = 0x1800 && k % 256 < 4) || (0x1801 ≤ k / 256 && k / 256 ≤ 0x1806) || k == K.calUnresolvedMap

/-- Board facts are written only in LOAD (R220). -/
def guardBoard (s : State) : Res Unit := needMode s [mLoad]

/-- A commit of board facts while one runs ends with BUSY, detail its port (R220). -/
def guardBoardCommit (s : State) : Res Unit := do
  needMode s [mLoad]
  need (s.obj K.boardState != 2) aBusy (s.writer K.boardCommit).port

/-- BOARD_COMMIT (R220): the written facts go to the copy not in force. -/
def xBoardCommit (s : State) : State :=
  let keys := (s.inForce.map (·.1)).filter isBoardKey
  let s := { s with boardNext := keys.map (fun k => (k, s.obj k)), boardWas := s.obj K.boardState }
  let move := fun (b : List (Nat × List Byte)) (k : Nat) =>
    match Sp.find b (stagedBlob k) with
    | some x => Sp.insert b (programmedBlob k) x
    | none => Sp.erase b (programmedBlob k)
  { s with blobs := move (move s.blobs K.boardName) K.boardUser }.set K.boardState 2

/-- A programmed byte object comes into force. -/
def State.commitBlob (s : State) (k : Nat) : State :=
  match s.blob (programmedBlob k) with
  | some x =>
    let staged := if s.blob (stagedBlob k) = some x then Sp.erase s.blobs (stagedBlob k) else s.blobs
    { s with blobs := Sp.insert (Sp.erase staged (programmedBlob k)) k x }
  | none => s

/-- The CRC-32 of the committed facts; their order in the store is not stated (DESIGN CHOICE, log entry 2)
(DESIGN CHOICE, log entry 26). -/
def State.boardCrc (s : State) : Nat :=
  Config.free 20 (ofLE ((s.dict.filter (fun e => isBoardKey e.1)).flatMap (fun e => toLE 8 e.1 ++ toLE 512 (s.force e.1)))) % 4294967296

/-- BOARD_PROGRAMMED (R220): the new copy is in force. -/
def xBoardProgrammed (s : State) : State :=
  if s.obj K.boardState ≠ 2 then s
  else
    let s := s.boardNext.foldl (fun st e => st.settleTo e.1 e.2) s
    let s := { (s.commitBlob K.boardName).commitBlob K.boardUser with boardNext := [], placeDirty := true }
    (((s.set K.boardState 1).set K.boardCrc s.boardCrc).count K.boardCommits 32 1).raise 764 0

/-- Uses and roles in force. -/
def State.padUse (s : State) (n : Nat) : Nat := byteAt (s.force K.boardPads) n
def State.laneRoleOf (s : State) (n : Nat) : Nat := byteAt (s.force K.boardLanes) n
def State.pinUse (s : State) (k : Nat) : Nat := byteAt (s.force K.boardPins) k

/-- The values that a byte of a board object may take (R220 table). -/
def bytesUpTo (v n m : Nat) : Bool := (List.range n).all (fun i => byteAt v i ≤ m)

/-- The ranges of board objects held as bytes. -/
def guardBoardBytes (k v : Nat) : Res Unit :=
  need (if k = K.boardPads then bytesUpTo v 256 5
    else if k = K.boardLanes then bytesUpTo v 16 4
    else if k = K.boardPins then bytesUpTo v 96 3 else true) aRange 0

end Sys2Proof.Machine
end

