-- ==== Sys2Proof/Machine/Images.lean ====
section
/-! DEFINITION. Chapter 14: images of the fabric and their pieces (R305, R307), and what the frames in force say of each cluster and sector
once the writer has translated them (R313). -/

namespace Sys2Proof.Machine

/-! ## Images (R307) -/

/-- A piece record of an image. -/
structure PieceRec where
  at_ : Nat
  id : Nat
  clusters : Nat
  ports : Nat
  taps : Nat
  data : Nat
  desc : Nat
  descLen : Nat
  crc : Nat
  deriving DecidableEq, Repr

def blockBytes : Nat := 49152
def imageMax : Nat := 27262976

def imageRecord (bs : List Byte) (i : Nat) : PieceRec :=
  let o := 0x100 + 32 * i
  ⟨o, leAt bs o 2, leAt bs (o + 2) 1, leAt bs (o + 4) 2, leAt bs (o + 6) 2, leAt bs (o + 8) 4, leAt bs (o + 12) 4, leAt bs (o + 16) 4,
   leAt bs (o + 20) 4⟩

def imageCount (bs : List Byte) : Nat := leAt bs 0xA 2
def imageRecords (bs : List Byte) : List PieceRec := (List.range (imageCount bs)).map (imageRecord bs)

def PieceRec.dataLen (r : PieceRec) : Nat := blockBytes * r.clusters
def PieceRec.dataOf (r : PieceRec) (bs : List Byte) : List Byte := slice bs r.data r.dataLen
def PieceRec.descOf (r : PieceRec) (bs : List Byte) : List Byte := slice bs r.desc r.descLen

/-- Target and sector of an image. -/
def imageFull (bs : List Byte) : Bool := leAt bs 8 1 == 0
def imageSector (bs : List Byte) : Nat := leAt bs 9 1

/-- The offset of the map segment of relative cluster r of a piece. -/
def PieceRec.segment (p : PieceRec) (r : Nat) : Nat := p.data + blockBytes * r + 32768

/-- Whether a map segment's CRC holds. -/
def segmentGood (bs : List Byte) (o : Nat) : Bool := crc32 (slice bs o 16380) == leAt bs (o + 16380) 4

/-- Whether two bits of a frame are essential by the map (R307, R321). -/
def mapBitOf (bs : List Byte) (p : PieceRec) (r frame bit : Nat) : Bool :=
  (leAt bs (p.segment r + 64 * frame + bit / 2 / 8) 1).testBit (bit / 2 % 8)

/-- The committed image. -/
def State.committed (s : State) : List Byte := (s.blob K.configImage).getD []

/-! ## What an image says of a piece (DESIGN CHOICE, log entry 2) -/

/-- The record of a piece in the committed image. -/
def State.pieceRec (s : State) (j : Nat) : Option PieceRec := (imageRecords s.committed).find? (fun p => p.id == j)

/-- What a piece's descriptor says. -/
def State.descriptor (s : State) (j : Nat) : Descriptor :=
  match s.pieceRec j with | some p => Config.descriptor (p.descOf s.committed) | none => default

/-- What the frames of relative cluster r of a piece say, and the initial contents of its block memory, frames 220 to 255. -/
def State.clusterLogic (s : State) (j r : Nat) : ClusterLogic :=
  match s.pieceRec j with
  | some p => Config.clusterLogic (slice s.committed (p.data + blockBytes * r) 28160)
  | none => default
def State.initialMemory (s : State) (j r : Nat) : Nat :=
  match s.pieceRec j with
  | some p => leAt s.committed (p.data + blockBytes * r + 28160) 4608
  | none => 0

/-! ## Translation (R313) -/

/-- A piece as its frames stand: piece, sector, clusters, first port cell. -/
abbrev Placed := Nat × Nat × List Nat × Nat

/-- The pieces whose frames are in force in a sector, in the order in which they were written. -/
def State.framesIn (s : State) (q : Nat) : List Placed := s.frames.filter (fun f => f.2.1 == q)

/-- The first clock line of a piece: its lines follow those of the pieces written before it (DESIGN CHOICE, log entry 53). -/
def State.clockBase (s : State) (f : Placed) : Nat :=
  (((s.framesIn f.2.1).takeWhile (fun e => e != f)).map (fun e => (s.descriptor e.1).clocks.length)).foldl (· + ·) 0

/-- A source of the sector, from its number relative to the piece. -/
def State.place_ (s : State) (f : Placed) (k : Nat) : Nat :=
  if k < 4096 then 32 * f.2.2.1.getD (k / 32) 0 + k % 32
  else if 5376 ≤ k then 5376 + (s.clockBase f + (k - 5376)) % 16
  else k

/-- A clock pin of a piece. -/
def State.placePin (s : State) (f : Placed) : ClockPin → ClockPin
  | .line k => .line ((s.clockBase f + k) % 16)
  | p => p

/-- A cluster of a piece as the writer writes it: cluster outputs, port cells and clock lines take their physical numbers, and nothing else
changes. -/
def State.placeCluster (s : State) (f : Placed) (r : Nat) : ClusterLogic :=
  let c := s.clusterLogic f.1 r
  let port := fun (p : MemoryPort) => { p with clock := s.placePin f p.clock }
  { c with
    cells := c.cells.map (fun x => { x with ffs := x.ffs.map (fun y => { y with clock := s.placePin f y.clock }) })
    inputs := c.inputs.map (fun x => x.map (s.place_ f))
    block := c.block.map (fun k => if k < 192 then k else 192 + 96 * (f.2.2.2 + (k - 192) / 96) + (k - 192) % 96)
    memory := { c.memory with a := port c.memory.a, b := port c.memory.b }
    mac := { c.mac with clock := s.placePin f c.mac.clock } }

/-- The clusters of a sector that hold logic, by number. -/
def State.sectorLogic (s : State) (q : Nat) : List (Nat × ClusterLogic) :=
  (s.framesIn q).flatMap (fun f => (List.range f.2.2.1.length).map (fun r => (f.2.2.1.getD r 0, s.placeCluster f r)))

/-- The drivers of the bridge wires that leave a sector, and of its wires to the Backstop, groups, monitors and pins. -/
def State.bridgeDrivers (s : State) (q : Nat) : List (Nat × Selector) :=
  (s.framesIn q).flatMap (fun f => (s.descriptor f.1).bridges.map (fun e => (e.1, e.2.map (s.place_ f))))
def State.borderDrivers (s : State) (q : Nat) : List (Nat × Selector) :=
  (s.framesIn q).flatMap (fun f => (s.descriptor f.1).border.map (fun e => (e.1, e.2.map (s.place_ f))))

/-- A clock-line source of a piece with its physical numbers (R287). -/
def placeClock (f : Placed) (w : Nat) : Nat :=
  let n := w % 4096
  match w / 4096 with
  | 3 => 0x3000 + (f.2.2.2 + n) % 256
  | 4 => 0x4000 + (32 * f.2.2.1.getD (n / 32) 0 + n % 32) % 4096
  | _ => w

/-- `fabric.sector[q].clock_src` as the frames in force set it (R287, R313). -/
def State.clockSources (s : State) (q : Nat) : Nat :=
  ofLE ((((s.framesIn q).flatMap (fun f => (s.descriptor f.1).clocks.map (fun e => placeClock f e.1))).take 16).flatMap (toLE 2))

/-- `fabric.sector[q].port_roles` (R290): only assigned port cells have a role. -/
def State.portRoles (s : State) (q : Nat) : Nat :=
  (s.framesIn q).foldl (fun a f =>
    ((s.descriptor f.1).roles.zipIdx.take (s.force (K.graphPiecePorts f.1))).foldl (fun b e => withByte b (f.2.2.2 + e.2) e.1.1) a) 0

/-- The net of a probe tap: sector, cluster and source (R293). Taps of the pieces of a sector follow one another (DESIGN CHOICE, log entry
53). -/
def State.tapNet (s : State) (q t : Nat) : Option (Nat × Nat) :=
  ((s.framesIn q).flatMap (fun f => (s.descriptor f.1).taps.map (fun k => (f.2.2.1.getD (k / 352) 0, k % 352))))[t]?

/-- Whether a bit pair of a sector frame is one that a piece in force uses (R307, R321). -/
def State.pairUsed (s : State) (q frame pair : Nat) : Bool :=
  (s.framesIn q).any (fun f => (s.descriptor f.1).pairs.contains (512 * frame + pair))

/-- Whether the channel program's pieces use a pace wire: for a port cell or a clock line (R288). -/
def State.paceUsed (s : State) (ps : List Nat) (i : Nat) : Bool :=
  ps.any (fun j =>
    (s.descriptor j).clocks.any (fun e => e.1 == 0x1000 + i) ||
      (s.descriptor j).roles.any (fun e => bitsOf e.1 1 0 != 0 && bitsOf e.1 3 2 == 0 && bitsOf e.1 6 4 == i))

end Sys2Proof.Machine
end

