-- ==== Sys2Proof/Machine/Graph.lean ====
section
/-! DEFINITION. The channel graph (10_placer_contexts.md, R223, R224, R430): nodes, the checks of a commit, channel programs. -/

namespace Sys2Proof.Machine

/-! ## Nodes -/

/-- A context node, read as written or as committed. -/
structure Node where
  ctx : Nat
  source : Nat
  input : Nat
  input2 : Nat
  scan : Nat
  form : Nat
  fe : Nat
  adc : Nat
  cs : Nat
  rate : Nat
  phase : Nat
  chain : Nat
  pitch : Nat
  block : Nat
  retention : Nat
  policy : Nat
  dest : Nat
  group : Nat
  peer : Nat
  dac : Nat
  replay : Nat
  outRate : Nat
  lineBytes : Nat
  pins : Nat
  rawRetention : Nat
  dwell : Nat
  blank : Nat
  deriving DecidableEq, Repr

/-- The node of context c through a reading of objects. -/
def nodeBy (f : Nat → Nat) (c : Nat) : Node where
  ctx := c
  source := f (K.graphNodeSource c)
  input := f (K.graphNodeInput c)
  input2 := f (K.graphNodeInput2 c)
  scan := f (K.graphNodeScan c)
  form := f (K.graphNodeForm c)
  fe := f (K.graphNodeFe c)
  adc := f (K.graphNodeAdcMode c)
  cs := f (K.graphNodeCs c)
  rate := f (K.graphNodeRate c)
  phase := f (K.graphNodePhase c)
  chain := f (K.graphNodeChain c)
  pitch := f (K.graphNodePitch c)
  block := f (K.graphNodeBlock c)
  retention := f (K.graphNodeRetention c)
  policy := f (K.graphNodePolicy c)
  dest := f (K.graphNodeDest c)
  group := f (K.graphNodeGroup c)
  peer := f (K.graphNodePeer c)
  dac := f (K.graphNodeDac c)
  replay := f (K.graphNodeReplayLane c)
  outRate := f (K.graphNodeOutRate c)
  lineBytes := f (K.graphNodeLineBytes c)
  pins := f (K.graphNodePins c)
  rawRetention := f (K.graphNodeRawRetention c)
  dwell := f (K.graphNodeDwell c)
  blank := f (K.graphNodeBlank c)

/-- A fabric piece node. -/
structure Piece where
  id : Nat
  clusters : Nat
  ports : Nat
  sector : Nat
  delay : Nat
  warmup : Nat
  inputs : List Nat
  deriving DecidableEq, Repr

/-- The context numbers before the first 0xFFFF of a piece's inputs. -/
def inputList (v : Nat) : List Nat := ((List.range 128).map (fun i => u16At v (2 * i))).takeWhile (fun c => c != 0xFFFF)

def pieceBy (f : Nat → Nat) (j : Nat) : Piece where
  id := j
  clusters := f (K.graphPieceClusters j)
  ports := f (K.graphPiecePorts j)
  sector := f (K.graphPieceSector j)
  delay := f (K.graphPieceDelay j)
  warmup := f (K.graphPieceWarmup j)
  inputs := inputList (f (K.graphPieceInputs j))

/-- The contexts and pieces that a reading of objects names, ascending. -/
def State.nodesBy (s : State) (f : Nat → Nat) : List Node :=
  (((s.keysAt 0x2400 0x2800 1).map (fun k => k / 256 - 0x2400)).filter (fun c => f (K.graphNodeSource c) != 0)).map (nodeBy f)
def State.piecesBy (s : State) (f : Nat → Nat) : List Piece :=
  (((s.keysAt 0x2200 0x2300 1).map (fun k => k / 256 - 0x2200)).filter (fun j => f (K.graphPieceClusters j) != 0)).map (pieceBy f)

/-- The committed graph. -/
def State.graphNodes (s : State) : List Node := s.nodesBy s.force
def State.graphPieces (s : State) : List Piece := s.piecesBy s.force

/-- Fields of a node's pins. -/
def Node.pinTile (n : Node) : Nat := u16At n.pins 0
def Node.pinEngine (n : Node) : Nat := byteAt n.pins 2
def Node.pinLane (n : Node) : Nat := byteAt n.pins 3
def Node.pcMask (n : Node) : Nat := if u32At n.pins 4 = 0 then 0xFFFFFFFF else u32At n.pins 4

/-- Fields of a node's chain. -/
def Node.sets (n : Node) : List Nat := stageSets n.chain
def Node.chained (n : Node) : Bool := n.chain % 2 ^ 64 != 2 ^ 64 - 1
def Node.mode (n : Node) : Nat := byteAt n.chain 8
def Node.ncoFreq (n : Node) : Nat := u32At n.chain 12
def Node.ncoPhase (n : Node) : Nat := u32At n.chain 16

/-- Whether a node is a scan slot, of which group and slot. -/
def Node.scans (n : Node) : Bool := n.scan != 0xFFFF
def Node.scanGroup (n : Node) : Nat := n.scan / 256
def Node.scanSlot (n : Node) : Nat := n.scan % 256

/-- Whether a node is half B of a split tile. -/
def Node.halfB (n : Node) : Bool := n.source == 1 && n.adc == 2 && n.input2 == 1

/-- The word rate of a node. -/
def Node.rateFrac (n : Node) : Frac := fracOfF32 n.rate

/-- The least common multiple of two times. -/
def Frac.common (a b : Frac) : Frac :=
  let g := Nat.gcd a.num a.den
  let h := Nat.gcd b.num b.den
  ⟨Nat.lcm (a.num / g) (b.num / h), Nat.gcd (a.den / g) (b.den / h)⟩

/-- The excitation node that a graph names (R201): its first waveform for an output of a TIMEBASE group. No field of a chain names one
(DEDUCED, log entry 48). -/
def State.excitation (s : State) (ns : List Node) : Option Node :=
  ns.find? (fun n => s.excites n.source n.dac)

/-- Whether a tile's chain counts its phase from the epoch of an excitation node, and the period of the tile's grid (R201, R135). -/
def Node.coherent (n : Node) : Bool := n.source == 1 && n.chained && n.mode % 4 == 2
def Node.grid (n : Node) : Frac := ⟨n.rateFrac.den * (if n.adc = 3 then 2 else 1), n.rateFrac.num⟩

/-- The period of the strobe of a TIMEBASE group (R359). -/
def strobePeriod (source : Nat) : Frac := ⟨source % 4096, 1600000000⟩

/-! ## The checks of a commit (R223) -/

/-- A condition of a node that ends a commit with RANGE, detail 0. -/
def inRange (b : Bool) : Res Unit := need b aRange 0

/-- Whether a value is in the range of a tile object's row. -/
def tileRange (index sub v : Nat) : Res Unit :=
  match locate (0x3000 + index) sub with
  | some l => checkRange l.row v
  | none => .ok ()

/-- The fields of `graph.node[c].fe`: index, subindex of the tile object, offset, bytes. -/
def feFields : List (Nat × Nat × Nat × Nat) :=
  [(0, 2, 0, 1), (0, 3, 1, 1), (0, 4, 2, 2), (0, 5, 4, 1), (0, 6, 5, 1), (2, 1, 6, 1), (2, 2, 8, 4), (2, 3, 12, 4), (1, 1, 16, 2),
   (1, 2, 18, 2), (1, 3, 20, 2), (1, 4, 22, 2), (1, 5, 24, 2), (1, 6, 26, 1), (1, 8, 27, 1), (1, 7, 28, 2)]

/-- A field of the front-end bytes. -/
def feField (fe off len : Nat) : Nat := (fe >>> (8 * off)) % 2 ^ (8 * len)

/-- Every field in its range, and the bytes that hold nothing 0. -/
def checkFe (fe : Nat) : Res Unit := do
  feFields.forM (fun (i, sub, off, len) => tileRange i sub (feField fe off len))
  inRange (byteAt fe 7 == 0 && u16At fe 30 == 0)

/-- A rate in a range of thousandths of S/s. -/
def rateIn (r : Frac) (lo hi : Nat) : Bool := lo * r.den ≤ r.num * 1000 && r.num * 1000 ≤ hi * r.den

/-- The word rates that a mode and form allow (R134). The lowest of LOWNOISE is 1.000 GHz ÷ 1,024. -/
def rateAllowed (form adc : Nat) (r : Frac) : Bool :=
  match adc with
  | 1 => rateIn r 10000000000 (if form = 3 then 125000000000 else 250000000000)
  | 2 => rateIn r 10000000000 125000000000
  | 3 => rateIn r 20000000000 500000000000
  | 4 => rateIn r 976562500 62500000000
  | _ => false

/-- The capacitances that a mode and rate allow (R134, R138). -/
def csAllowed (adc cs : Nat) (r : Frac) : Bool :=
  match adc with
  | 3 => cs == 0
  | 4 => cs ≤ 2 && (cs != 2 || rateIn r 0 62500000000)
  | _ => cs ≤ 1

/-- Front end, converter and CDS combinations of a tile node (R108, R111, R113, R116, R134, R138). -/
def checkTileNode (n : Node) : Res Unit := do
  inRange (n.form != 0 && n.adc != 0)
  inRange (n.input < 256 && n.input2 ≤ 1)
  checkFe n.fe
  guardGain n.form (feField n.fe 0 1)
  inRange (feField n.fe 4 1 != 0 || feField n.fe 5 1 == 0)
  inRange (n.form != 3 || n.adc == 1)
  inRange (rateAllowed n.form n.adc n.rateFrac && csAllowed n.adc n.cs n.rateFrac)
  inRange (n.adc != 2 || ((n.form == 1 || n.form == 2) && feField n.fe 6 1 ≤ 2 && f32Key (feField n.fe 8 4) ≤ f32Key (f32OfNat 55000000)))
  inRange (n.input2 == 0 || n.adc == 2)
  if n.form = 3 then
    let t := Frac.div ⟨1, 1⟩ n.rateFrac
    let reset := feField n.fe 16 2
    let video := feField n.fe 18 2
    inRange (reset < video && !Frac.lt (Frac.mul ⟨video - reset, 1024⟩ t) (picos 3000) &&
      !Frac.lt (Frac.mul ⟨1024 + reset - video, 1024⟩ t) (picos 3000))
  else .ok ()

/-- The chain of a node (R201, R202, R203, R205). -/
def checkChain (s : State) (n : Node) : Res Unit := do
  guardSets s n.chain
  inRange (feField n.chain 9 3 == 0)
  if n.chained then
    let m := n.mode
    inRange (m % 4 ≤ 2 && (m % 4 != 0) == (bitsOf m 3 3 == 1) && bitsOf m 5 4 ≤ 1)
    guardNco m n.ncoFreq
  else .ok ()

/-- The least blank of a scan slot in samples (R132): the selector, and the gain where it differs from that of the slot before. -/
def leastBlank (n : Node) (gainBefore : Nat) : Nat :=
  let sel := selectorTime n.form (feField n.fe 1 1)
  let t := if feField n.fe 0 1 = gainBefore then sel else Frac.add sel (gainTime n.form)
  (Frac.mul t n.rateFrac).ceil

/-- The scan slots of a group, in slot order. -/
def scanOf (ns : List Node) (group : Nat) : List Node :=
  (List.range 16).filterMap (fun i => ns.find? (fun m => m.source == 1 && m.scans && m.scanGroup == group && m.scanSlot == i))

/-- The slot that a scan runs before a node's. -/
def slotBefore (ns : List Node) (n : Node) : Node :=
  let g := scanOf ns n.scanGroup
  let i := g.findIdx (fun m => m.ctx == n.ctx)
  if i = 0 then g.getLastD n else g.getD (i - 1) n

/-- Scan membership, dwell, blank and join (R130, R132, R211, R224). -/
def checkScan (s : State) (ns : List Node) (n : Node) : Res Unit :=
  if n.scans then do
    inRange (n.source == 1 && n.scanGroup < 64 && n.scanSlot < 16)
    inRange ([1, 2, 4].contains n.form && (n.adc == 1 || n.adc == 4))
    inRange (1 ≤ n.dwell)
    let least := leastBlank n (feField (slotBefore ns n).fe 0 1)
    need (least ≤ n.blank) aRange least
    if n.chained then
      inRange (trims n.mode)
      need (s.span n.sets ≤ n.dwell) aRange (s.span n.sets)
    else .ok ()
  else inRange (n.dwell == 0 && n.blank == 0)

/-- Source, destinations and pins of a node. -/
def checkNodeFields (n : Node) : Res Unit := do
  inRange (match n.source with
    | 2 => n.input2 == 0
    | 3 => n.input < 4096 && 2 ≤ n.input2 && n.input2 ≤ 4
    | 4 => n.input < 16
    | _ => true)
  inRange (n.dest < 16)
  inRange (bitsOf n.dest 1 1 == 0 || (2 ≤ n.peer / 4096 && n.peer / 4096 ≤ 4))
  inRange ((n.pinTile < 256 || n.pinTile == 0xFFFF) && (n.pinEngine < 64 || n.pinEngine == 0xFF) &&
    (n.pinLane < 16 || n.pinLane == 0xFF))

/-- The check of one node on its own (R122, R223). -/
def checkNode (s : State) (ns : List Node) (n : Node) : Res Unit := do
  checkNodeFields n
  if n.source = 1 then checkTileNode n else .ok ()
  checkChain s n
  checkScan s ns n
  need (n.source != 1 || s.obj (K.tilePadTest n.input) == 0) aConflict (0x00040000 + n.input)

/-- The checks of a commit: every context node, then every piece node (R223). -/
def State.checkGraph (s : State) : Res Unit := do
  let ns := s.nodesBy s.obj
  ns.forM (checkNode s ns)
  (s.piecesBy s.obj).forM (fun p => inRange (p.inputs.all (fun c => c < 1024)))

/-! ## The commit -/

/-- Whether a key belongs to the graph: its encoders, pieces and nodes (R430). -/
def isGraphKey (k : Nat) : Bool :=
  k == K.graphEncoders || (0x2200 ≤ k / 256 && k / 256 < 0x2300 && k % 256 ≤ 6) || (0x2400 ≤ k / 256 && k / 256 < 0x2800)

/-- A graph object is written only in LOAD (R223). -/
def guardGraph (s : State) : Res Unit := needMode s [mLoad]
def guardGraphCommit (s : State) : Res Unit := do
  needMode s [mLoad]
  s.checkGraph

/-- After a write of a node: EDITING while writes wait (R223). -/
def actGraph (s : State) : State := s.set K.graphState 2

/-- The CRC-32 of the committed graph; the order of its bytes is not stated (DESIGN CHOICE, log entry 2)
(DESIGN CHOICE, log entry 26). -/
def State.graphCrcNow (s : State) : Nat :=
  Config.free 21 (ofLE ((s.dict.filter (fun e => isGraphKey e.1)).flatMap (fun e => toLE 4 e.1 ++ toLE 256 (s.force e.1)))) % 4294967296

/-- GRAPH_COMMIT (R223): the whole graph is replaced; contexts that it names become DEFINED, the rest FREE. -/
def xGraphCommit (s : State) : State :=
  let old := s.graphNodes
  let s := { s with inForce := s.inForce.filter (fun e => !isGraphKey e.1), placeDirty := true }
  let ns := s.graphNodes
  let s := old.foldl (fun st n => st.set (K.ctxState n.ctx) cFree) s
  let s := ns.foldl (fun st n => st.set (K.ctxState n.ctx) cDefined) s
  let s := (s.set K.graphContexts ns.length).set K.graphPieces (s.graphPieces).length
  let s := s.startCopy
  (s.set K.graphState (if ns.isEmpty && (s.graphPieces).isEmpty then 0 else 1)).set K.graphCrc s.graphCrcNow

/-! ## Channel programs (R430) -/

/-- An entry of a channel program: its offset, index, subindex and value. -/
structure Entry where
  off : Nat
  index : Nat
  sub : Nat
  len : Nat
  value : Nat
  deriving DecidableEq, Repr

/-- Read n entries from an offset: what ends beyond the list of bytes refuses the program at that entry. -/
def readEntries (bs : List Byte) : Nat → Nat → Res (List Entry)
  | 0, o => need (o + 4 == bs.length) aRange o >>= fun _ => .ok []
  | n + 1, o => do
    let len := leAt bs (o + 4) 4
    let next := o + 8 + (len + 3) / 4 * 4
    need (next + 4 ≤ bs.length && leAt bs (o + 3) 1 == 0 && leAt bs (o + 8 + len) ((4 - len % 4) % 4) == 0) aRange o
    let rest ← readEntries bs n next
    .ok (⟨o, leAt bs o 2, leAt bs (o + 2) 1, len, leAt bs (o + 8) len⟩ :: rest)

/-- Whether an entry may name an object (R430). -/
def entryAllowed (index sub : Nat) : Bool :=
  (index == 0x2100 && sub == 7) || (0x2200 ≤ index && index < 0x2300 && 1 ≤ sub && sub ≤ 6) ||
  (0x2400 ≤ index && index < 0x2800 && 1 ≤ sub && sub ≤ 0x1A) || (0x4888 ≤ index && index < 0x4900 && sub == 1)

/-- The written encoders: each byte an encoder or none (DEDUCED, log entry 11). -/
def guardEncoders (v : Nat) : Res Unit := inRange ((List.range 16).all (fun i => byteAt v i < 8 || byteAt v i == 0xFF))

/-- The checks of one entry as a write of its object. -/
def checkEntry (s : State) (e : Entry) : Res Unit :=
  match locate e.index e.sub with
  | none => .error ⟨aRange, e.off⟩
  | some l => do
    need (entryAllowed e.index e.sub && e.len == l.row.size && l.row.inRange e.value) aRange e.off
    let own : Res Unit := if e.index = 0x2100 then guardEncoders e.value
      else if e.index ≥ 0x4888 then (do guardSetFree s (e.index - 0x4880); guardCoef e.value)
      else .ok ()
    match own with
    | .ok () => .ok ()
    | .error _ => .error ⟨aRange, e.off⟩

/-- Apply entries in order as writes of their objects. -/
def applyEntries (cls port : Nat) : List Entry → State → Res State
  | [], s => .ok s
  | e :: es, s => do
    checkEntry s e
    let k := key e.index e.sub
    let s := if e.index ≥ 0x4888 then s else s.hold k
    applyEntries cls port es ((s.poke k e.value).record k cls port)

/-- Every graph object at its table default, as written values. -/
def State.clearGraph (s : State) : State :=
  let ks := (s.dict.map (·.1)).filter isGraphKey
  ks.foldl (fun st k => (st.hold k).poke k (defaultOf st.variant k)) s

/-- The header of a channel program: kind of its word, length, CRC (R430). -/
def checkProgram (bs : List Byte) : Res Unit := do
  need (wordKind (imageWord bs) == 3) aRange 0
  need (leAt bs 4 4 == bs.length && 20 ≤ bs.length) aRange 4
  need (leAt bs 12 4 == 0) aRange 12
  need (crc32 (bs.take (bs.length - 4)) == leAt bs (bs.length - 4) 4) aRange (bs.length - 4)

/-- A channel program at BLOCK_CLOSE (R223, R430): version check, entries, commit. A refusal changes no object but the record
of a refused version. -/
def closeProgram (cls port : Nat) (bs : List Byte) (s : State) : State × Res Unit :=
  match needMode s [mLoad] >>= fun _ => checkProgram bs with
  | .error e => (s, .error e)
  | .ok () =>
    let v := s.checkVersion 3 (imageWord bs)
    match v.2 with
    | .error e => (v.1, .error e)
    | .ok () =>
      match (do
        let es ← readEntries bs (leAt bs 8 4) 16
        let s1 ← applyEntries cls port es s.clearGraph
        s1.checkGraph
        .ok s1) with
      | .error e => (s, .error e)
      | .ok s1 =>
        let s1 := (xGraphCommit s1).setBlob K.graphProgram bs
        ((s1.set K.versionsProgram (imageWord bs)).inForceWord 0 3 (imageWord bs), .ok ())

end Sys2Proof.Machine
end

