-- ==== Sys2Proof/Machine/Placer.lean ====
section
/-! DEFINITION. The Placer (10_placer_contexts.md, R226 to R232, R238): the defect list, the passes of a placement, the digest,
the preference order of spares. -/

namespace Sys2Proof.Machine

/-! ## Defect list (R226) -/

/-- Whether two entries name the same unit: an entry of cause PAD_CONTENTION names a pad and its bus. -/
def Defect.names (d : Defect) (cls unit : Nat) (pad : Bool) : Bool := d.cls == cls && d.unit == unit && (d.cause == 3) == pad

/-- Whether a unit is on the defect list. -/
def State.defective (s : State) (cls unit : Nat) : Bool := s.defects.any (fun d => d.names cls unit false)

/-- The successor recorded against a unit. -/
def State.successor (s : State) (cls unit : Nat) : Option Nat :=
  match s.defects.find? (fun d => d.names cls unit false) with
  | some d => if d.succ = 0xFFFF then none else some d.succ
  | none => none

/-- Show the DEFECT bit of a tile and the number of entries. -/
def State.showDefects (s : State) (cls unit : Nat) : State :=
  let s := s.set K.placerDefectCount s.defects.length
  if cls = 4 && unit < tileCount s.variant then
    s.set (K.tileStatus unit) (withBit (s.obj (K.tileStatus unit)) 4 (s.defective 4 unit))
  else s

/-- Add a unit to the defect list with a cause: a listed unit takes the newer cause, but for BOARD (R226)
(DESIGN CHOICE, log entry 39). -/
def State.addDefect (s : State) (cls unit cause : Nat) : State :=
  let pad := cause == 3
  if s.defects.any (fun d => d.names cls unit pad) then
    { s with defects := s.defects.map (fun d => if d.names cls unit pad && d.cause != 7 then { d with cause := cause } else d) }
  else if s.defects.length ≥ 512 then s.set K.placerState (withBit (s.obj K.placerState) 7 true)
  else
    let s := { s with defects := s.defects ++ [(⟨cls, unit, cause, 0xFFFF⟩ : Defect)], placeDirty := true }
    (s.showDefects cls unit).raise 759 unit

/-- Record the successor of a listed unit. -/
def State.setSuccessor (s : State) (cls unit succ : Nat) : State :=
  { s with defects := s.defects.map (fun d => if d.names cls unit false then { d with succ := succ } else d) }

/-- DEFECT_ADD (R226): class in [31:16], unit in [15:0], cause BENCH. -/
def xDefectAdd (v : Nat) (s : State) : State := s.addDefect (v / 65536) (v % 65536) 6

/-- DEFECT_CLEAR (R226): every entry not of cause BOARD goes. -/
def xDefectClear (s : State) : State :=
  let gone := s.defects.filter (fun d => d.cause != 7)
  let s := { s with defects := s.defects.filter (fun d => d.cause == 7), placeDirty := s.placeDirty || !gone.isEmpty }
  gone.foldl (fun st d => st.showDefects d.cls d.unit) (s.set K.placerDefectCount s.defects.length)

/-- The bytes of the list (R226). -/
def State.defectBytes (s : State) : List Byte :=
  s.defects.flatMap (fun d => toLE 2 d.cls ++ toLE 2 d.unit ++ toLE 1 d.cause ++ toLE 1 0 ++ toLE 2 d.succ)

/-- The defects loaded at reset from `board.defects`, with cause BOARD: entries whose class is not 0. -/
def boardDefects (v : Nat) : List Defect :=
  ((List.range 64).map (fun i => (⟨u16At v (8 * i), u16At v (8 * i + 2), 7, u16At v (8 * i + 6)⟩ : Defect))).filter (fun d => d.cls != 0)

/-! ## Refusals (R230) -/

/-- Success, or the conflict that ends a placement. -/
abbrev Placing := Except Conflict

def refuse {α : Type} (reason cls unit first second : Nat) : Placing α := .error ⟨aConflict, reason, cls, unit, first, second⟩
def absentUnit {α : Type} (cls unit first : Nat) : Placing α := .error ⟨aAbsent, 0, cls, unit, first, 0xFFFF⟩
/-- A refusal with RANGE: bytes 4 to 7 of the record carry the detail word. -/
def outOfRange {α : Type} (detail first second : Nat) : Placing α :=
  .error ⟨aRange, 0, detail / 65536 % 65536, detail % 65536, first, second⟩
def allow (b : Bool) (no : Placing Unit) : Placing Unit := if b then .ok () else no

/-- The 16 bytes of `placer.conflict`, as a number. -/
def Conflict.record (c : Conflict) : Nat :=
  c.code + c.reason * 2 ^ 16 + c.cls * 2 ^ 32 + c.unit * 2 ^ 48 + c.first * 2 ^ 64 + c.second * 2 ^ 80

/-! ## Pass 1: board and graph fit (R222) -/

/-- Whether a form matches a pad's use. -/
def useFits (form use : Nat) : Bool :=
  match form with
  | 1 => use == 1 || use == 4 || use == 5
  | 2 => use == 2
  | 3 => use == 3
  | 4 => use == 4 || use == 1
  | _ => false

/-- A lane that a node names must be present and a HOST lane. -/
def hostLane (s : State) (c n : Nat) : Placing Unit :=
  if n = 0xFF then .ok ()
  else do
    allow (decide (n < laneCount s.variant)) (absentUnit 8 n c)
    allow (s.laneRoleOf n == 1) (refuse 4 8 n c 0xFFFF)

/-- A placement that would give a pad's bus a second driver beside its test bridge is refused (R122): none of the reasons of R230 names
it (DEDUCED, log entry 37). -/
def fitNode (s : State) (n : Node) : Placing Unit := do
  if n.source = 1 then
    allow (decide (n.input < tileCount s.variant)) (absentUnit 4 n.input n.ctx)
    allow (useFits n.form (s.padUse n.input)) (refuse 4 4 n.input n.ctx 0xFFFF)
    allow (s.obj (K.tilePadTest n.input) == 0) (refuse 0 4 n.input n.ctx 0xFFFF)
  else .ok ()
  allow (n.dac == 0xFF || n.dac < dacCount s.variant) (absentUnit 7 n.dac n.ctx)
  hostLane s n.ctx n.pinLane
  hostLane s n.ctx n.replay

/-- Bytes of a word that a node feeds to an output: S24 of a waveform or a chain, else S16 (R361). -/
def feedWidth (s : State) (n : Node) : Nat :=
  if n.source = 4 then (if s.obj (K.dacWaveFormat n.input) = 1 then 4 else 2)
  else if n.chained && bitsOf n.mode 3 2 = 1 then 4 else 2

/-- Words per second of a node's output. -/
def feedRate (s : State) (n : Node) : Frac :=
  if n.source = 1 then Frac.div n.rateFrac ⟨if n.chained then 2 ^ n.sets.length else 1, 1⟩
  else Frac.div (fracOfF32 n.outRate) ⟨feedWidth s n, 1⟩

/-- The refusals of a DAC feed (R361): a second context for its output, a rate other than the strobe's, S24 beyond 12.5 MHz
(DEDUCED, log entry 37). -/
def feedNode (s : State) (ns : List Node) (n : Node) : Placing Unit :=
  if n.dac = 0xFF then .ok ()
  else do
    match ns.find? (fun m => m.dac == n.dac && m.ctx < n.ctx) with
    | some m => refuse 1 7 n.dac m.ctx n.ctx
    | none => .ok ()
    let src := s.obj (K.dacGroupSource (s.obj (K.dacGroup n.dac)))
    if src / 4096 = 1 then do
      let r := feedRate s n
      allow (n.source == 4 || r.num * (src % 4096) == 1600000000 * r.den) (outOfRange 0 n.ctx 0xFFFF)
      allow (feedWidth s n == 2 || 128 ≤ src % 4096) (outOfRange 0 n.ctx 0xFFFF)
    else .ok ()

/-! ## Pass 2: tiles -/

/-- Tiles taken so far: context, tile, half. -/
abbrev Taken := List (Nat × Nat × Nat)
def Taken.uses (ts : Taken) (t : Nat) : Option Nat := (ts.find? (fun e => e.2.1 == t)).map (·.1)

/-- The successors recorded from a tile on, each followed while it failed in its turn (R228, R229) (DEDUCED, log entry 37). -/
def successors (s : State) : Nat → Nat → List Nat
  | 0, _ => []
  | n + 1, t => match s.successor 4 t with
    | some u => u :: successors s n u
    | none => []

/-- The preference list of a pad after its own tile and successors: tile n XOR 16, the pad's column, the partner column. -/
def preference (pad : Nat) : List Nat :=
  (pad ^^^ 16) :: (List.range 16).map (fun i => pad / 16 * 16 + i) ++ (List.range 16).map (fun i => (pad ^^^ 16) / 16 * 16 + i)

/-- Whether a tile can be chosen: present, free, not a defect; as a substitute, not on a FACTORY die (R2, R35). -/
def State.eligible (s : State) (taken : Nat → Bool) (substitute : Bool) (t : Nat) : Bool :=
  t < tileCount s.variant && !taken t && !s.defective 4 t && !(substitute && s.factoryDie (t / 128))

/-- The same for a pair of tiles, named by its even tile. -/
def State.eligiblePair (s : State) (taken : Nat → Bool) (substitute : Bool) (t : Nat) : Bool :=
  s.eligible taken substitute t && s.eligible taken substitute (t + 1)

/-- The tile, or the even tile of a pair, that a pad's contexts take, in the pad's column pair (R5, R228) (DEDUCED, log entry 37). -/
def State.chooseTile (s : State) (taken : Nat → Bool) (pad : Nat) (paired : Bool) : Option Nat :=
  let near := fun (t : Nat) => t / 32 == pad / 32
  if paired then
    let even := fun t => t / 2 * 2
    ((even pad :: (successors s 32 pad ++ successors s 32 (even pad) ++ successors s 32 (even pad + 1)).map even) ++
      (preference pad).map even).find? (fun t => near t && s.eligiblePair taken (t != even pad) t)
  else (pad :: successors s 32 pad ++ preference pad).find? (fun t => near t && s.eligible taken (t != pad) t)

/-- The subjects of pass 2: each context, a scan group as one, pinned first, then ascending. -/
def subjects (ns : List Node) : List (List Node) :=
  let tn := ns.filter (fun n => n.source == 1 && !n.halfB)
  let groups := tn.filterMap (fun n =>
    if n.scans then
      let g := tn.filter (fun m => m.scans && m.scanGroup == n.scanGroup)
      if (g.headD n).ctx = n.ctx then some g else none
    else some [n])
  let pinned := fun (g : List Node) => g.any (fun n => n.pinTile != 0xFFFF)
  groups.filter pinned ++ groups.filter (fun g => !pinned g)

/-- The tile of a pinned subject (R5, R230). -/
def pinnedTile (s : State) (ts : Taken) (g : List Node) (paired : Bool) (first : Node) : Placing Nat := do
  let t := first.pinTile
  let c := first.ctx
  match g.find? (fun n => n.pinTile != 0xFFFF && n.pinTile != t) with
  | some m => refuse 1 4 t c m.ctx
  | none => .ok ()
  match ts.uses t with
  | some d => refuse 1 4 t d c
  | none => .ok ()
  allow (decide (t < tileCount s.variant)) (absentUnit 4 t c)
  allow (g.all (fun m => t / 32 == m.input / 32) && !(paired && t % 2 == 1)) (refuse 2 4 t c 0xFFFF)
  allow (!s.defective 4 t && !(paired && s.defective 4 (t + 1))) (refuse 3 4 t c 0xFFFF)
  if paired then
    match ts.uses (t + 1) with
    | some d => refuse 1 4 (t + 1) d c
    | none => .ok t
  else .ok t

/-- Place one subject. A pair's odd tile is taken with it. -/
def placeSubject (s : State) (ts : Taken) (g : List Node) : Placing Taken :=
  match g with
  | [] => .ok ts
  | n :: _ => do
    match g.find? (fun m => m.pitch != n.pitch) with
    | some m => outOfRange 0 n.ctx m.ctx
    | none => .ok ()
    let pad := g.foldl (fun a m => min a m.input) n.input
    let paired := n.adc == 3
    let busy := fun t => (ts.uses t).isSome
    let t ← match g.find? (fun m => m.pinTile != 0xFFFF) with
      | some m => pinnedTile s ts g paired m
      | none => match (if g.all (fun m => m.input / 32 == pad / 32) then s.chooseTile busy pad paired else none) with
        | some t => .ok t
        | none => refuse 5 4 pad n.ctx 0xFFFF
    .ok (ts ++ g.map (fun m => (m.ctx, t, 0)) ++ if paired then [(n.ctx, t + 1, 2)] else [])

/-- A half-B context takes the tile of its half-A partner, the context below it. -/
def placeHalfB (s : State) (ns : List Node) (ts : Taken) (n : Node) : Placing Taken :=
  match ns.find? (fun m => m.ctx + 1 == n.ctx && m.source == 1 && m.adc == 2 && m.input2 == 0) with
  | none => refuse 5 4 n.input n.ctx 0xFFFF
  | some a =>
    match ts.find? (fun e => e.1 == a.ctx) with
    | none => refuse 5 4 n.input n.ctx a.ctx
    | some (_, t, _) => do
      allow (a.pitch == n.pitch && a.rate == n.rate && a.form == n.form && a.cs == n.cs && feField a.fe 6 1 == feField n.fe 6 1)
        (outOfRange 0 a.ctx n.ctx)
      allow (n.pinTile == 0xFFFF || n.pinTile == t) (refuse 1 4 t a.ctx n.ctx)
      allow (n.input / 32 == t / 32) (refuse 2 4 t n.ctx 0xFFFF)
      allow (t < tileCount s.variant) (absentUnit 4 t n.ctx)
      .ok (ts ++ [(n.ctx, t, 1)])

def pass2 (s : State) (ns : List Node) : Placing Taken := do
  let ts ← (subjects ns).foldlM (placeSubject s) []
  (ns.filter (fun n => n.source == 1 && n.halfB)).foldlM (placeHalfB s ns) ts

/-- The tile of a context. -/
def Taken.tileOf (ts : Taken) (c : Nat) : Option Nat := (ts.find? (fun e => e.1 == c)).map (fun e => e.2.1)

/-! ## Pass 3: quadrant clocks and dividers (R135, R136, R154) -/

/-- M of LOWNOISE: the largest power of two from 4 to 256 with M × fs at most 250 MS/s (R136). -/
def osrOf (r : Frac) : Nat :=
  ([256, 128, 64, 32, 16, 8].find? (fun m => m * r.num ≤ 250000000 * r.den)).getD 4

/-- Rates in pass 3 are counted in Hz ÷ 2^150. -/
def rateDen : Nat := 2 ^ 150

/-- The word rate of a tile for a node: half of the combined rate in PAIRED (R134, R137). -/
def tileRate (n : Node) : Nat := if n.adc = 3 then f32Mag n.rate else 2 * f32Mag n.rate

/-- The rate that must divide the quadrant clock: M × fs in LOWNOISE, fs otherwise. -/
def clockUnit (n : Node) : Nat := if n.adc = 4 then osrOf n.rateFrac * tileRate n else tileRate n

/-- The lowest multiple of a unit from 1.000 GHz up, if it is at most 2.000 GHz. -/
def clockFor (unit : Nat) : Option Nat :=
  let f := ceilDiv (1000000000 * rateDen) unit * unit
  if unit ≠ 0 && f ≤ 2000000000 * rateDen then some f else none

/-- Whether a node could have the rate that a clock gives with a divider (R134 to R136, R138): the word rate, combined in PAIRED. -/
def rateFits (n : Node) (f d : Nat) : Bool :=
  let r : Frac := ⟨if n.adc = 3 then 2 * f else f, d * rateDen⟩
  4 ≤ d && d ≤ 4096 && rateAllowed n.form n.adc r && csAllowed n.adc n.cs r && (n.adc != 4 || d % osrOf r == 0)

/-- The dividers of a clock on either side of a node's rate. -/
def nearDivs (n : Node) (f : Nat) : List Nat :=
  let ms := if n.adc = 4 then (let m := osrOf n.rateFrac; [m, m / 2, 2 * m]) else [1]
  ms.flatMap (fun m => let d := f / max 1 (m * tileRate n); [m * d, m * (d + 1)])

/-- The rates that the clocks which the earlier tiles allow, the multiples of l, realise around a node's. -/
def nearRates (l : Nat) (n : Node) : List (Nat × Nat) :=
  let low := ceilDiv (1000000000 * rateDen) (max 1 l)
  let high := 2000000000 * rateDen / max 1 l
  (List.range (min 4096 (high + 1 - low))).flatMap (fun i =>
    let f := l * (low + i)
    ((nearDivs n f).filter (rateFits n f)).map (fun d => (f, d)))

/-- The nearest rate that can be realised beside the earlier tiles' in kS/s, the combined one of a pair (R135). -/
def nearestRate (l : Nat) (n : Node) : Nat :=
  let far := fun (x : Nat × Nat) => (⟨((x.1 : Int) - x.2 * tileRate n).natAbs, x.2⟩ : Frac)
  let best := (nearRates l n).foldl (fun (b : Option (Nat × Nat)) x => match b with
    | none => some x
    | some y => if Frac.lt (far x) (far y) then some x else some y) none
  match best with
  | none => 0
  | some (f, d) => (2 * (if n.adc = 3 then 2 * f else f) + d * rateDen * 1000) / (2 * d * rateDen * 1000)

/-- The clock of a quadrant from its tiles' nodes, one after another. -/
def quadClock : List Node → Nat → Placing Nat
  | [], l => .ok ((clockFor l).getD (1000000000 * rateDen))
  | n :: ns, l =>
    let l' := Nat.lcm l (clockUnit n)
    match clockFor l' with
    | some _ => quadClock ns l'
    | none => outOfRange (nearestRate l n) n.ctx 0xFFFF

/-- The nodes of a quadrant's tiles, by tile number. -/
def quadNodes (ns : List Node) (ts : Taken) (q : Nat) : List Node :=
  (List.range 64).filterMap (fun i =>
    match ts.find? (fun e => e.2.1 == 64 * q + i) with
    | some e => ns.find? (fun n => n.ctx == e.1)
    | none => none)

def clockOfQuad (ns : List Node) (ts : Taken) (q : Nat) : Placing (List (Nat × Nat × Nat)) :=
  match quadNodes ns ts q with
  | [] => .ok []
  | n :: rest => do
    let f ← quadClock (n :: rest) 1
    .ok [(q, f, rateDen)]

def pass3 (s : State) (ns : List Node) (ts : Taken) (ps : List Piece) : Placing (List (Nat × Nat × Nat)) := do
  let fs ← (allQuads s.variant).foldlM (fun a q => do let f ← clockOfQuad ns ts q; .ok (a ++ f)) []
  match (List.range 8).find? (fun i => s.paceUsed (ps.map (·.id)) i && !fs.any (fun e => e.1 == s.obj (K.fabricPaceQuadrant i))) with
  | some _ => outOfRange 0 0xFFFF 0xFFFF
  | none => .ok fs

/-- The divider of each placed tile. -/
def dividers (ns : List Node) (ts : Taken) (fq : List (Nat × Nat × Nat)) : List (Nat × Nat) :=
  ts.filterMap (fun e =>
    match ns.find? (fun n => n.ctx == e.1), fq.find? (fun f => f.1 == e.2.1 / 64) with
    | some n, some f => some (e.2.1, f.2.1 / max 1 (tileRate n))
    | _, _ => none)

/-- A tile whose COHERENT chain names a strobe group has a grid that meets the strobe at least once in 1 µs (R360). -/
def meetsStrobe (s : State) (ns : List Node) (n : Node) : Placing Unit :=
  match s.excitation ns with
  | some e =>
    if n.coherent then
      let m := Frac.common (strobePeriod (s.obj (K.dacGroupSource (s.obj (K.dacGroup e.dac))))) n.grid
      allow (m.num * 1000000 ≤ m.den) (outOfRange 0 n.ctx e.ctx)
    else .ok ()
  | none => .ok ()

/-! ## Pass 4: engine slots (R198) -/

/-- Words in a cycle of a scan group (R131). -/
def scanCycle (ns : List Node) (n : Node) : Nat := ((scanOf ns n.scanGroup).map (fun m => m.dwell + m.blank)).foldl (· + ·) 0

/-- The input word rate of a node's chain in words/s (R131, R137, R198). -/
def inputRate (ns : List Node) (n : Node) : Frac :=
  if n.source = 1 then
    if n.scans then Frac.mul n.rateFrac ⟨n.dwell, max 1 (scanCycle ns n)⟩ else n.rateFrac
  else Frac.div (fracOfF32 n.outRate) ⟨2, 1⟩

def sumRates (rs : List Frac) : Frac := rs.foldl Frac.add ⟨0, 1⟩

/-- Slots taken so far: context and engine × 16 + slot. -/
def loadOf (ns : List Node) (sl : List (Nat × Nat)) (e : Nat) : Frac :=
  sumRates ((sl.filter (fun x => x.2 / 16 == e)).filterMap (fun x => (ns.find? (fun n => n.ctx == x.1)).map (inputRate ns)))

def slotsFree (sl : List (Nat × Nat)) (e : Nat) : List Nat :=
  (List.range 16).filter (fun j => !sl.any (fun x => x.2 == 16 * e + j))

/-- Whether an engine has room for a group. -/
def State.engineFits (s : State) (ns : List Node) (sl : List (Nat × Nat)) (g : List Node) (e : Nat) : Bool :=
  e < engineCount s.variant && s.obj (K.feEnable e) == 1 && !s.defective 5 e && g.length ≤ (slotsFree sl e).length &&
    !Frac.lt ⟨1000000000, 1⟩ (Frac.add (loadOf ns sl e) (sumRates (g.map (inputRate ns))))

/-- Contexts take the lowest free slots of an engine in ascending order. -/
def putSlots (sl : List (Nat × Nat)) (g : List Node) (e : Nat) : List (Nat × Nat) :=
  sl ++ (g.zip (slotsFree sl e)).map (fun x => (x.1.ctx, 16 * e + x.2))

/-- The engine of lowest load among those that fit, lowest number first. -/
def leastLoaded (ns : List Node) (sl : List (Nat × Nat)) (es : List Nat) : Option Nat :=
  es.foldl (fun best e => match best with
    | none => some e
    | some b => if Frac.lt (loadOf ns sl e) (loadOf ns sl b) then some e else some b) none

/-- Put the first element that a list has by an order into its place. -/
def insertBy {α : Type} (before : α → α → Bool) (x : α) : List α → List α
  | [] => [x]
  | y :: ys => if before x y then x :: y :: ys else y :: insertBy before x ys

/-- A stable sort. -/
def sortBy {α : Type} (before : α → α → Bool) (xs : List α) : List α := xs.foldl (fun a x => insertBy before x a) []

/-- Groups of unpinned chained contexts that share a source tile, by descending load. -/
def chainGroups (ns : List Node) (ts : Taken) : List (List Node) :=
  let un := ns.filter (fun n => n.chained && n.pinEngine == 0xFF)
  let gs := un.filterMap (fun n =>
    match ts.tileOf n.ctx with
    | none => some [n]
    | some t =>
      let g := un.filter (fun m => ts.tileOf m.ctx == some t)
      if (g.headD n).ctx = n.ctx then some g else none)
  sortBy (fun a b => Frac.lt (sumRates (b.map (inputRate ns))) (sumRates (a.map (inputRate ns)))) gs

def placePinnedChain (s : State) (ns : List Node) (sl : List (Nat × Nat)) (n : Node) : Placing (List (Nat × Nat)) := do
  let e := n.pinEngine
  allow (decide (e < engineCount s.variant)) (absentUnit 5 e n.ctx)
  allow (!s.defective 5 e) (refuse 3 5 e n.ctx 0xFFFF)
  allow (s.engineFits ns sl [n] e) (refuse 1 5 e n.ctx 0xFFFF)
  .ok (putSlots sl [n] e)

def placeChainGroup (s : State) (ns : List Node) (ts : Taken) (sl : List (Nat × Nat)) (g : List Node) : Placing (List (Nat × Nat)) :=
  match g with
  | [] => .ok sl
  | n :: _ =>
    let powered := (allQuads s.variant).filter (fun q => ts.any (fun e => e.2.1 / 64 == q) || sl.any (fun x => x.2 / 256 == q))
    let q0 := match ts.tileOf n.ctx with | some t => t / 64 | none => powered.headD 0
    let order := q0 :: powered.filter (fun q => q != q0) ++ (allQuads s.variant).filter (fun q => q != q0 && !powered.contains q)
    let pick := fun q => leastLoaded ns sl (((List.range 16).map (fun i => 16 * q + i)).filter (s.engineFits ns sl g))
    match order.findSome? pick with
    | some e => .ok (putSlots sl g e)
    | none => refuse 6 5 (16 * q0) n.ctx 0xFFFF

def pass4 (s : State) (ns : List Node) (ts : Taken) : Placing (List (Nat × Nat)) := do
  let sl ← (ns.filter (fun n => n.chained && n.pinEngine != 0xFF)).foldlM (placePinnedChain s ns) []
  (chainGroups ns ts).foldlM (placeChainGroup s ns ts) sl

/-! ## Line figures (R231) -/

/-- Triggers per second of a generator at its encoder's `rate_max`. -/
def State.triggerRate (s : State) (p : Nat) : Frac :=
  let e := byteAt (s.force K.graphEncoders) p
  if e < 8 then ⟨s.obj (K.encRateMax e) * 65536, max 1 (s.force (K.pitchPitch p))⟩ else ⟨0, 1⟩

/-- The line or block rate of a node; a piece's lines follow those of its first input (R292). -/
def lineRate (s : State) (ns : List Node) (ps : List Piece) : Nat → Node → Frac
  | 0, _ => ⟨0, 1⟩
  | fuel + 1, n =>
    match n.source with
    | 1 =>
      if n.scans then Frac.div n.rateFrac ⟨max 1 (scanCycle ns n), 1⟩
      else if n.pitch ≠ 0xFF && (s.triggerRate n.pitch).num ≠ 0 then s.triggerRate n.pitch
      else Frac.div n.rateFrac ⟨n.block, 1⟩
    | 2 =>
      match ps.find? (fun p => p.id == n.input / 256) with
      | some p => match ns.find? (fun m => p.inputs.headD 0xFFFF == m.ctx) with
        | some m => lineRate s ns ps fuel m
        | none => ⟨0, 1⟩
      | none => ⟨0, 1⟩
    | _ => if n.lineBytes = 0 then ⟨0, 1⟩ else Frac.div (fracOfF32 n.outRate) ⟨n.lineBytes, 1⟩

/-- The line bytes of a node's raw words: at `rate_max` (R231); a generator without an encoder has no such rate, and its lines take the
room of a block (DESIGN CHOICE, log entry 34). -/
def rawLineBytes (s : State) (n : Node) : Nat :=
  if n.source = 4 then s.obj (K.dacWaveLength n.input) * (if s.obj (K.dacWaveFormat n.input) = 1 then 4 else 2)
  else if n.source ≠ 1 then n.lineBytes
  else if n.form = 3 then 2 * feField n.fe 20 2
  else if n.scans then 2 * n.dwell
  else if n.pitch ≠ 0xFF then
    let r := s.triggerRate n.pitch
    if r.num = 0 then 2 * n.block else 2 * (Frac.div n.rateFrac r).ceil
  else 2 * n.block

/-- The output words of a line through a chain (R202, R211). -/
def outWords (sin d words mode : Nat) : Nat :=
  if trims mode then (if words < sin then 0 else (words - sin) / d + 1) else ceilDiv words d

/-- The line bytes of a node's output ring. -/
def lineBytesOf (s : State) (n : Node) : Nat :=
  if n.chained then outWords (s.span n.sets) (2 ^ n.sets.length) (rawLineBytes s n / 2) n.mode * formatBytes n.mode
  else rawLineBytes s n

/-- The bytes per second that a node declares for its output ring: its lines at their highest rate, or its declared rate. -/
def declaredRate (s : State) (ns : List Node) (ps : List Piece) (n : Node) : Frac :=
  if n.source = 1 || n.chained then Frac.mul (lineRate s ns ps 8 n) ⟨lineBytesOf s n, 1⟩ else fracOfF32 n.outRate

/-! ## Pass 5: fabric pieces -/

/-- Whether a cluster is on the defect list. -/
def State.badCluster (s : State) (q x : Nat) : Bool := s.defective 6 (128 * q + x)

abbrev PiecePlaces := List (Nat × Nat × List Nat × Nat)

def clustersFree (pl : PiecePlaces) (q : Nat) : List Nat :=
  (List.range 128).filter (fun x => !pl.any (fun e => e.2.1 == q && e.2.2.1.contains x))

/-- The clusters that a piece takes: the lowest free ones, or those from the successor on that its damaged ones name (R228). -/
def chooseClusters (s : State) (pl : PiecePlaces) (q n : Nat) : Option (List Nat) :=
  let free := clustersFree pl q
  let sound := free.filter (fun x => !s.badCluster q x)
  let moved := (free.take n).findSome? (fun x => s.successor 6 (128 * q + x))
  let pick := match moved with
    | some y => (sound.filter (fun x => y % 128 ≤ x)).take n
    | none => sound.take n
  if pick.length = n then some pick else if sound.length ≥ n then some (sound.take n) else none

/-- Port cells taken in a sector. -/
def portBusy (ps : List Piece) (pl : PiecePlaces) (q x : Nat) : Bool :=
  pl.any (fun e => e.2.1 == q && e.2.2.2 ≤ x && x < e.2.2.2 + ((ps.find? (fun p => p.id == e.1)).map (·.ports)).getD 0)

/-- The lowest contiguous run of free port cells. -/
def choosePorts (ps : List Piece) (pl : PiecePlaces) (q n : Nat) : Option Nat :=
  (List.range (257 - n)).find? (fun a => (List.range n).all (fun i => !portBusy ps pl q (a + i)))

/-- The contexts that a piece reads and writes, with their declared rates (R290). -/
def pieceFlows (s : State) (ns : List Node) (ps : List Piece) (p : Piece) : List (Nat × Frac) :=
  (ns.filter (fun n => p.inputs.contains n.ctx || (n.source == 2 && n.input / 256 == p.id))).map (fun n =>
    (n.ctx, if n.source = 2 && n.input / 256 = p.id then fracOfF32 n.outRate else declaredRate s ns ps n))

def sectorRate (s : State) (ns : List Node) (ps : List Piece) (pl : PiecePlaces) (q : Nat) : Frac :=
  sumRates ((pl.filter (fun e => e.2.1 == q)).flatMap (fun e =>
    match ps.find? (fun p => p.id == e.1) with
    | some p => (pieceFlows s ns ps p).map (·.2)
    | none => []))

/-- The sectors of a piece in order: its pin, or the sector of most input tiles and then the others. -/
def sectorOrder (s : State) (ts : Taken) (p : Piece) : List Nat :=
  if p.sector ≠ 0xFF then [p.sector]
  else
    let count := fun q => (p.inputs.filter (fun c => match ts.tileOf c with | some t => t / 64 == q | none => false)).length
    let best := (allQuads s.variant).foldl (fun b q => if count q > count b then q else b) 0
    best :: (allQuads s.variant).filter (fun q => q != best)

def placePiece (s : State) (ns : List Node) (ts : Taken) (ps : List Piece) (pl : PiecePlaces) (p : Piece) : Placing PiecePlaces := do
  let node := 0x8000 + p.id
  allow (p.sector == 0xFF || p.sector < quadCount s.variant) (absentUnit 6 p.sector node)
  let flows := pieceFlows s ns ps p
  match flows.find? (fun f => Frac.lt ⟨16000000000, 1⟩ f.2) with
  | some f => refuse 10 0xA f.1 f.1 0xFFFF
  | none => .ok ()
  let order := sectorOrder s ts p
  let fast := fun q => Frac.lt ⟨64000000000, 1⟩ (Frac.add (sectorRate s ns ps pl q) (sumRates (flows.map (·.2))))
  let try_ := fun q =>
    if fast q then none
    else match chooseClusters s pl q p.clusters, choosePorts ps pl q p.ports with
      | some cl, some a => some (q, cl, a)
      | _, _ => none
  match order.findSome? try_ with
  | some (q, cl, a) => .ok (pl ++ [(p.id, q, cl, a)])
  | none => if fast (order.headD 0) then refuse 10 6 (order.headD 0) node 0xFFFF else refuse 7 6 (order.headD 0) node 0xFFFF

def pass5 (s : State) (ns : List Node) (ts : Taken) (ps : List Piece) : Placing PiecePlaces :=
  let pinned := ps.filter (fun p => p.sector != 0xFF)
  let free := sortBy (fun a b => decide (b.clusters < a.clusters)) (ps.filter (fun p => p.sector == 0xFF))
  (pinned ++ free).foldlM (placePiece s ns ts ps) []

/-! ## Pass 6: pitch grids (R167, R169) -/

/-- The stamp delay of a tile node in seconds, with the nominal delays (R118, R119, R142, R175, R207). -/
def nodeDelay (s : State) (n : Node) : Frac :=
  let r := n.rateFrac
  let t := Frac.div ⟨1, 1⟩ r
  let lat := match n.adc with
    | 2 => Frac.mul ⟨if n.input2 = 1 then 19 else 18, 2⟩ t
    | 3 => Frac.mul ⟨19, 1⟩ t
    | 4 => Frac.mul ⟨18 + (osrOf r - 1), 2 * osrOf r⟩ t
    | _ => Frac.mul ⟨9, 1⟩ t
  let f0 := if feField n.fe 6 1 = 4 then Frac.mul ⟨2, 5⟩ r else fracOfF32 (feField n.fe 8 4)
  let ana := if n.form = 3 then ⟨0, 1⟩
    else Frac.add (match n.form with | 1 => picos 800 | 2 => tiaTau (feField n.fe 1 1) | _ => picos 3000)
      (biquadDelay (feField n.fe 6 1) f0 (fracOfF32 (feField n.fe 12 4)))
  Frac.add (Frac.add lat ana) (Frac.mul ⟨s.span n.sets - 1, 2⟩ t)

/-- Whether a delay passes 90 % of the span of an encoder's track. -/
def State.beyondTrack (s : State) (e : Nat) (d : Frac) : Bool :=
  Frac.lt (picos (117964800 * s.obj (K.encTrackNs e))) d

/-- The words per second that feed a node's chain: the tile's, or half the declared byte rate (R198). -/
def Node.fedRate (n : Node) : Frac := if n.source = 2 then Frac.div (fracOfF32 n.outRate) ⟨2, 1⟩ else n.rateFrac

/-- The pitch generator by which a node's lines are stamped, and their stamp delay: a tile's, or that of a piece's first input with the
piece's delay in samples of it, and the node's own chain (R174, R175). -/
def nodeStamp (s : State) (ns : List Node) (ps : List Piece) : Nat → Node → Nat × Frac
  | 0, n => (n.pitch, ⟨0, 1⟩)
  | fuel + 1, n =>
    if n.source = 1 then (n.pitch, nodeDelay s n)
    else match (ps.find? (fun p => n.source == 2 && p.id == n.input / 256)).bind (fun p =>
        (ns.find? (fun m => p.inputs.headD 0xFFFF == m.ctx)).map (fun m => (p, m))) with
      | some (p, m) =>
        let r := nodeStamp s ns ps fuel m
        let piece := Frac.div ⟨p.delay * 2 ^ m.sets.length, 1⟩ m.fedRate
        let own := Frac.div ⟨s.span n.sets - 1, 2⟩ n.fedRate
        (if n.pitch < 16 then n.pitch else r.1, Frac.add (Frac.add r.2 piece) (if n.sets.isEmpty then ⟨0, 1⟩ else own))
      | none => (n.pitch, ⟨0, 1⟩)

def gridOf (s : State) (ns : List Node) (ps : List Piece) (ts : Taken) (dv : List (Nat × Nat)) (p : Nat) :
    Placing (List (Nat × Nat × Nat)) :=
  let mine := ns.filter (fun n => n.source == 1 && n.pitch == p)
  let tiles := mine.filterMap (fun n => ts.tileOf n.ctx)
  do
    let e := byteAt (s.force K.graphEncoders) p
    if e < 8 then
      match ns.find? (fun n => let d := nodeStamp s ns ps 16 n; d.1 == p && s.beyondTrack e d.2) with
      | some n => outOfRange 0 n.ctx 0xFFFF
      | none => .ok ()
    else .ok ()
    match tiles with
    | [] => .ok []
    | t :: _ => do
      let low := tiles.foldl min t
      let q := low / 64
      let div := ((tiles.filter (fun x => x / 64 == q)).filterMap (fun x => (dv.find? (fun d => d.1 == x)).map (·.2))).foldl Nat.gcd 0
      allow (4 ≤ div && div ≤ 4096) (outOfRange 4 (mine.headD (nodeBy s.force 0)).ctx 0xFFFF)
      .ok [(p, q, div)]

def pass6 (s : State) (ns : List Node) (ps : List Piece) (ts : Taken) (dv : List (Nat × Nat)) : Placing (List (Nat × Nat × Nat)) :=
  (List.range 16).foldlM (fun a p => do let g ← gridOf s ns ps ts dv p; .ok (a ++ g)) []

/-! ## Pass 7: rings (R20, R231, R246, R250, R251, R258, R259) -/

/-- Whole 64 KiB units, at least one. -/
def wholeUnits (n : Nat) : Nat := max 1 (ceilDiv n unitBytes) * unitBytes

/-- Lines that a retention asks for at a line rate; 0 stands for one line (DESIGN CHOICE, log entry 34). -/
def retainedLines (v : Nat) (rate : Frac) : Nat :=
  if v / 2 ^ 31 = 1 then max 1 (Frac.mul rate ⟨v % 2 ^ 31, 1000⟩).ceil else max 1 v

/-- Bytes of a ring before rounding: its lines, and for a retention in ms at least rate × ms. -/
def retainedBytes (v lines bytes : Nat) (rate : Frac) : Nat :=
  if v / 2 ^ 31 = 1 then max (lines * bytes) (Frac.mul rate ⟨v % 2 ^ 31, 1000⟩).ceil else lines * bytes

/-- The words that a raw ring must hold (R250). -/
def rawWords (s : State) (ns : List Node) (sl : List (Nat × Nat)) (n : Node) : Nat :=
  match sl.find? (fun x => x.1 == n.ctx) with
  | none => 0
  | some x =>
    let e := x.2 / 16
    let load := loadOf ns sl e
    let spare : Frac := ⟨1020000000 * load.den - load.num, load.den⟩
    let others := (sl.filter (fun y => y.2 / 16 == e)).filterMap (fun y => ns.find? (fun m => m.ctx == y.1))
    let sum := (others.map (fun m => s.span m.sets - 1)).foldl (· + ·) 0
    let fs := if n.source = 1 then n.rateFrac else inputRate ns n
    (Frac.mul ⟨2, 1⟩ (Frac.add ⟨s.span n.sets - 1, 1⟩ (Frac.mul fs (Frac.div ⟨sum, 1⟩ spare)))).ceil

/-- A ring's size over its mask, in whole units (R251). -/
def masked (mask n : Nat) : Nat := wholeUnits (ceilDiv (n * 32) (max 1 (bitCount mask)))

/-- The rings of a node, without addresses. -/
def sizeRings (s : State) (ns : List Node) (ps : List Piece) (sl : List (Nat × Nat)) (n : Node) : RingPlan :=
  let rate := lineRate s ns ps 8 n
  let lb := lineBytesOf s n
  let lines := if n.source = 4 then 1 else retainedLines n.retention rate
  let bytes := masked n.pcMask (if n.source = 4 then lb else retainedBytes n.retention lines lb (declaredRate s ns ps n))
  let rb := rawLineBytes s n
  if n.chained then
    let need := 2 * rawWords s ns sl n
    let asked := if n.rawRetention = 0 then 0
      else retainedBytes n.rawRetention (retainedLines n.rawRetention rate) rb (Frac.mul rate ⟨rb, 1⟩)
    let rl := max 2 (max (ceilDiv need (max 1 rb)) (if n.rawRetention = 0 then 0 else retainedLines n.rawRetention rate))
    ⟨n.ctx, n.pcMask, 0, bytes, 0, lines, lb, 0, masked n.pcMask (max (max need asked) (rl * rb)), 0, rl, rb⟩
  else ⟨n.ctx, n.pcMask, 0, bytes, 0, lines, lb, 0, 0, 0, 0, 0⟩

/-- Bytes of the record ring of N lines. -/
def recordBytes (mask lines : Nat) : Nat := masked mask (lines * 32)

/-- The rings of a placement as (bytes, context, raw), by descending bytes, ties by ascending context. -/
def ringOrder (rs : List RingPlan) : List (Nat × Nat × Bool) :=
  sortBy (fun a b => decide (b.1 < a.1)) (rs.flatMap (fun r =>
    (r.bytes, r.ctx, false) :: if r.rawBytes = 0 then [] else [(r.rawBytes, r.ctx, true)]))

/-- Give rings their addresses one after another; the answer is the end of the space used. -/
def giveAddresses : List (Nat × Nat × Bool) → Nat → List RingPlan → List RingPlan × Nat
  | [], a, rs => (rs, a)
  | (bytes, c, raw) :: es, a, rs =>
    let rec_ := a + bytes
    let set := fun (r : RingPlan) => if r.ctx ≠ c then r
      else if raw then { r with rawBase := a, rawRec := rec_ } else { r with base := a, recBase := rec_ }
    let lines := match rs.find? (fun r => r.ctx == c) with | some r => if raw then r.rawLines else r.lines | none => 0
    let mask := match rs.find? (fun r => r.ctx == c) with | some r => r.mask | none => 0
    giveAddresses es (rec_ + recordBytes mask lines) (rs.map set)

/-- Live readers of a node's output ring, as declared (R248); an output is fed by the context that names it (R361). -/
def readerCount (ps : List Piece) (n : Node) : Nat :=
  (ps.filter (fun p => p.inputs.contains n.ctx)).length + bitsOf n.dest 0 0 + bitsOf n.dest 1 1 + (if n.dac = 0xFF then 0 else 1)

/-- The Store traffic of a node in B/s (R20). -/
def trafficOf (s : State) (ns : List Node) (ps : List Piece) (n : Node) : Frac :=
  let out := Frac.mul (declaredRate s ns ps n) ⟨1 + readerCount ps n, 1⟩
  if n.chained then Frac.add out (Frac.mul ⟨2, 1⟩ (if n.source = 1 then Frac.mul (lineRate s ns ps 8 n) ⟨rawLineBytes s n, 1⟩
    else fracOfF32 n.outRate)) else out

/-- The traffic of one pseudo-channel (R258). -/
def pcTraffic (s : State) (ns : List Node) (ps : List Piece) (p : Nat) : Frac :=
  sumRates (ns.map (fun n => if bitsOf n.pcMask p p = 1 then Frac.div (trafficOf s ns ps n) ⟨bitCount n.pcMask, 1⟩ else ⟨0, 1⟩))

def pass7 (s : State) (ns : List Node) (ps : List Piece) (sl : List (Nat × Nat)) : Placing (List RingPlan × Nat × Frac) := do
  let rs := ns.map (sizeRings s ns ps sl)
  let placed := giveAddresses (ringOrder rs) 0 rs
  let capture := s.obj K.probeDepth
  allow (placed.2 + capture ≤ s.obj K.storeRingSpace) (refuse 9 9 0 ((ringOrder rs).getLastD (0, 0xFFFF, false)).2.1 0xFFFF)
  let bw := sumRates (ns.map (trafficOf s ns ps))
  allow (!Frac.lt ⟨620000000000, 1⟩ bw) (refuse 10 9 0 0xFFFF 0xFFFF)
  match (List.range 32).find? (fun p => Frac.lt ⟨19375000000, 1⟩ (pcTraffic s ns ps p)) with
  | some p => refuse 10 9 p 0xFFFF 0xFFFF
  | none => .ok ()
  let recs := sumRates (ns.map (fun n => Frac.mul (lineRate s ns ps 8 n) ⟨if n.chained then 2 else 1, 1⟩))
  allow (!Frac.lt ⟨30000000, 1⟩ recs) (refuse 11 9 0 0xFFFF 0xFFFF)
  .ok (placed.1, placed.2 + capture, bw)

/-- The first transfer addresses of the real-time rings under a scheme: rings that tile ingest writes, rings that DAC feeds read
(R244). -/
def realTimeStarts (ns : List Node) (rs : List RingPlan) (scheme : Nat) : List Nat :=
  let at_ := fun (mask base : Nat) => transferOf (spread (schemeMasks scheme 0) mask base 0)
  ns.flatMap (fun n => match rs.find? (fun r => r.ctx == n.ctx) with
    | none => []
    | some r =>
      (if n.source = 1 && n.chained then [at_ r.mask r.rawBase] else []) ++
        (if (n.source = 1 && !n.chained) || n.dac ≠ 0xFF then [at_ r.mask r.base] else []))

/-- Pairs in one pseudo-channel and bank but in different rows. -/
def rowConflicts (masks : Nat) : List Nat → Nat
  | [] => 0
  | a :: ts => (ts.filter (fun b => pcOf masks a == pcOf masks b && bankOf masks a == bankOf masks b && rowOf a != rowOf b)).length +
      rowConflicts masks ts

/-- The mapping scheme that a placement takes (R244) (DEDUCED, log entry 37). -/
def mapScheme (s : State) (ns : List Node) (rs : List RingPlan) : Nat :=
  let v := s.obj K.storeMapSelect
  if v ≠ 0 then v
  else
    let n := fun (k : Nat) => rowConflicts (schemeMasks k 0) (realTimeStarts ns rs k)
    if n 1 ≤ n 2 && n 1 ≤ n 3 then 1 else if n 2 ≤ n 3 then 2 else 3

/-! ## Pass 8: lanes (R21, R196, R371, R383) -/

/-- Bytes of a stream word (R380): of the format for a chain, of a port word for a piece, of a sample otherwise. -/
def wordBytes (n : Node) : Nat := if n.chained then formatBytes n.mode else if n.source = 2 then 4 else 2

/-- Whether a lane sends over IPv4: its destination is an IPv4-mapped address. -/
def State.laneV4 (s : State) (l : Nat) : Bool := s.obj (K.laneDstIp l) % 2 ^ 96 == 0xFFFF * 2 ^ 80

/-- The payload limit of a lane for a word size (R379). -/
def payloadLimit (v4 : Bool) (w : Nat) : Nat := (if v4 then 8908 else 8888) / w * w

/-- The committed rate of a node on a lane in B/s (R383). -/
def committedRate (s : State) (ns : List Node) (ps : List Piece) (v4 : Bool) (n : Node) : Frac :=
  let b := lineBytesOf s n
  let h := if v4 then 130 else 150
  Frac.mul (lineRate s ns ps 8 n) ⟨(b + h * ceilDiv b (payloadLimit v4 (wordBytes n))) * 8888, 9038⟩

def laneLoad (s : State) (ns : List Node) (ps : List Piece) (ls : List (Nat × Nat)) (l : Nat) : Frac :=
  sumRates ((ls.filter (fun e => e.2 == l)).filterMap (fun e =>
    (ns.find? (fun n => n.ctx == e.1)).map (committedRate s ns ps (s.laneV4 l))))

/-- HOST lanes that may carry streams. -/
def State.hostLanes (s : State) : List Nat :=
  (List.range (laneCount s.variant)).filter (fun l => s.laneRoleOf l == 1 && s.obj (K.laneEnable l) == 1 && !s.defective 8 l)

/-- The lane of a board role (R177, R196). -/
def State.laneOfRole (s : State) (role : Nat) : Option Nat :=
  (List.range (laneCount s.variant)).find? (fun l => s.laneRoleOf l == role && s.obj (K.laneEnable l) == 1 && !s.defective 8 l)

def hostFits (s : State) (ns : List Node) (ps : List Piece) (ls : List (Nat × Nat)) (g : List Node) (l : Nat) : Bool :=
  !Frac.lt ⟨12290000000, 1⟩ (Frac.add (laneLoad s ns ps ls l) (sumRates (g.map (committedRate s ns ps (s.laneV4 l)))))

/-- The lane of least committed rate among some, lowest number first. -/
def leastCommitted (s : State) (ns : List Node) (ps : List Piece) (ls : List (Nat × Nat)) (cand : List Nat) : Option Nat :=
  cand.foldl (fun best l => match best with
    | none => some l
    | some b => if Frac.lt (laneLoad s ns ps ls l) (laneLoad s ns ps ls b) then some l else some b) none

/-- Groups of unpinned exporting contexts, by descending committed rate. -/
def laneGroups (s : State) (ns : List Node) (ps : List Piece) : List (List Node) :=
  let un := ns.filter (fun n => bitsOf n.dest 0 0 == 1 && n.pinLane == 0xFF)
  let gs := un.filterMap (fun n =>
    if n.group = 0xFF then some [n]
    else
      let g := un.filter (fun m => m.group == n.group)
      if (g.headD n).ctx = n.ctx then some g else none)
  let rate := fun (g : List Node) => sumRates (g.map (committedRate s ns ps false))
  sortBy (fun a b => Frac.lt (rate b) (rate a)) gs

/-- Peer streams of a lane role, sent or received, within its capacity (R181, R196). -/
def peerFits (s : State) (ns : List Node) (ps : List Piece) (n : Node) (role : Nat) (sent : Bool) : Placing Unit :=
  match s.laneOfRole role with
  | none => refuse 8 8 0xFFFF n.ctx 0xFFFF
  | some l =>
    let all := ns.filter (fun m => if sent then bitsOf m.dest 1 1 == 1 && m.peer / 4096 == role else m.source == 3 && m.input2 == role)
    allow (!Frac.lt ⟨13060000000, 1⟩ (sumRates (all.map (declaredRate s ns ps)))) (refuse 8 8 l n.ctx 0xFFFF)

def pass8 (s : State) (ns : List Node) (ps : List Piece) : Placing (List (Nat × Nat) × List (Nat × Nat)) := do
  ns.forM (fun n => do
    if bitsOf n.dest 1 1 = 1 then peerFits s ns ps n (n.peer / 4096) true else .ok ()
    if n.source = 3 then peerFits s ns ps n n.input2 false else .ok ())
  let pinned := ns.filter (fun n => bitsOf n.dest 0 0 == 1 && n.pinLane != 0xFF)
  let ls ← pinned.foldlM (fun (ls : List (Nat × Nat)) n => do
    allow (s.hostLanes.contains n.pinLane && hostFits s ns ps ls [n] n.pinLane) (refuse 1 8 n.pinLane n.ctx 0xFFFF)
    .ok (ls ++ [(n.ctx, n.pinLane)])) []
  let ls ← (laneGroups s ns ps).foldlM (fun (ls : List (Nat × Nat)) g =>
    match leastCommitted s ns ps ls (s.hostLanes.filter (hostFits s ns ps ls g)) with
    | some l => .ok (ls ++ g.map (fun n => (n.ctx, l)))
    | none => refuse 8 8 ((leastCommitted s ns ps ls s.hostLanes).getD 0xFFFF) ((g.map (·.ctx)).headD 0xFFFF) 0xFFFF) ls
  let free := (leastCommitted s ns ps ls s.hostLanes).getD 0xFF
  let peers := (ns.filter (fun n => bitsOf n.dest 0 0 == 0 && bitsOf n.dest 1 1 == 1)).filterMap (fun n =>
    (s.laneOfRole (n.peer / 4096)).map (fun l => (n.ctx, l)))
  .ok (ls ++ peers, ns.map (fun n => (n.ctx, if n.replay = 0xFF then free else n.replay)))

/-! ## A placement -/

/-- The passes of R228 on the committed graph, after the checks of stored pin functions, which pass 1 makes
(DEDUCED, log entry 37). -/
def State.place (s : State) (pins : Option Conflict) : Placing Plan := do
  let ns := s.graphNodes
  let ps := s.graphPieces
  ns.forM (fitNode s)
  ns.forM (feedNode s ns)
  match pins with
  | some c => .error c
  | none => .ok ()
  let ts ← pass2 s ns
  let fq ← pass3 s ns ts ps
  let dv := dividers ns ts fq
  ns.forM (meetsStrobe s ns)
  let sl ← pass4 s ns ts
  let pl ← pass5 s ns ts ps
  let gr ← pass6 s ns ps ts dv
  let rg ← pass7 s ns ps sl
  let ln ← pass8 s ns ps
  let quads := (allQuads s.variant).foldl (fun a q =>
    if ts.any (fun e => e.2.1 / 64 == q) || sl.any (fun x => x.2 / 256 == q) || pl.any (fun e => e.2.1 == q) then a + 2 ^ q else a) 0
  .ok { tiles := ts, fq := fq, divs := dv, slots := sl, pieces := pl, grids := gr, rings := rg.1, lanes := ln.1, replay := ln.2,
        loads := (List.range 64).filterMap (fun e => if sl.any (fun x => x.2 / 16 == e)
          then some (e, (Frac.div (loadOf ns sl e) ⟨1000000000, 1⟩).f32) else none)
        committed := (List.range 16).filterMap (fun l => if ln.1.any (fun x => x.2 == l)
          then some (l, (Frac.div (laneLoad s ns ps ln.1 l) ⟨1000000000, 1⟩).f32) else none)
        quads := quads, bw := (Frac.div rg.2.2 ⟨1000000000, 1⟩).f32, bytes := rg.2.1, scheme := mapScheme s ns rg.1 }

/-- Numbers as one number, in which each keeps its place. -/
def packNats (xs : List Nat) : Nat := ofLE (xs.flatMap (toLE 16)) * 65536 + xs.length

/-- The digest of a placement: a CRC-32 over a record whose layout is not stated (R229, DESIGN CHOICE, log entry 2)
(DESIGN CHOICE, log entry 26). -/
def State.digestOf (s : State) (p : Plan) : Nat :=
  let xs := p.tiles.flatMap (fun e => [e.1, e.2.1, e.2.2]) ++ p.fq.flatMap (fun e => [e.1, e.2.1 / 2 ^ 100, e.2.2 / 2 ^ 100]) ++
    p.divs.flatMap (fun e => [e.1, e.2]) ++ p.slots.flatMap (fun e => [e.1, e.2]) ++
    p.pieces.flatMap (fun e => [e.1, e.2.1, e.2.2.2] ++ e.2.2.1) ++ p.grids.flatMap (fun e => [e.1, e.2.1, e.2.2]) ++
    p.rings.flatMap (fun r => [r.ctx, r.mask, r.base, r.bytes, r.lines, r.rawBase, r.rawBytes, r.rawLines]) ++
    p.lanes.flatMap (fun e => [e.1, e.2]) ++ p.replay.flatMap (fun e => [e.1, e.2]) ++
    [p.quads, p.bytes, p.scheme, s.obj K.placerAlgorithm] ++ (if p.scheme = 4 then [s.customMasks] else [])
  Config.free 22 (packNats xs) % 4294967296

/-- Show the state field of `placer.state`, with OVERFLOW kept. -/
def State.placerShow (s : State) (v : Nat) : State := s.set K.placerState (withBits (s.obj K.placerState) 1 0 v)

/-- Without a placement in force the Placer is IDLE; a refusal stays shown until the next placement (R230). -/
def State.placerIdle (s : State) : State := if s.obj K.placerState % 4 = 3 then s else s.placerShow 0

/-! ## Trials (R238) -/

/-- A trial while one runs, or while step 2 of PREPARE runs, ends with BUSY. -/
def guardTrial (s : State) : Res Unit :=
  need (s.trial.isNone && !(s.mode == mPrepare && s.obj K.deviceModeStep == 2)) aBusy 0xFF

/-- PLACER_TRIAL (R238): a placement on the inputs in force that changes nothing. -/
def xPlacerTrial (pins : Option Conflict) (s : State) : State :=
  match s.place pins with
  | .ok p => { s with trial := some (0, s.digestOf p) }
  | .error c => { s with trial := some (c.code, 0) }

/-- TRIAL_COMPLETE (R238). -/
def xTrialComplete (s : State) : State :=
  match s.trial with
  | some (code, digest) => { (s.set K.placerTrialResult code).set K.placerTrialDigest digest with trial := none }
  | none => s

end Sys2Proof.Machine
end

