-- ==== Sys2Proof/Machine/Contexts.lean ====
section
/-! DEFINITION. Stream contexts (10_placer_contexts.md, R225, R233, R236, R237; R87 to R89, R105, R114, R130): tiles taken into
use, lines and blocks opened and closed, losses and recoveries, sample instants and line triggers. -/

namespace Sys2Proof.Machine

/-! ## Tiles in use (R105 to R107) -/

/-- A selector joins the bus of a pad. -/
def State.setSel (s : State) (n half bus : Nat) : State := s.set (if half = 1 then K.tileRouteSelB n else K.tileRouteSel n) bus

/-- Write one object of a tile from its node: a DEVICE write in force at once. -/
def State.force1 (s : State) (k v : Nat) : State := (s.settle k).set k v

/-- The front-end and CDS objects that both halves share, and those of one half, from the bytes of a node (R105, R223). -/
def State.writeFe (s : State) (n half fe : Nat) : State :=
  let f := feField fe
  let s := if half = 1 then
      ((((s.force1 (K.tileFeGainB n) (f 0 1)).force1 (K.tileFeRfB n) (f 1 1)).force1 (K.tileFeOffsetB n) (f 2 2)).force1
        (K.tileBqF0B n) (f 8 4))
    else
      ((((s.force1 (K.tileFeGain n) (f 0 1)).force1 (K.tileFeRf n) (f 1 1)).force1 (K.tileFeOffset n) (f 2 2)).force1
        (K.tileBqF0 n) (f 8 4))
  let s := ((s.force1 (K.tileFePolarity n) (f 4 1)).force1 (K.tileFePdBias n) (f 5 1)).force1 (K.tileBqType n) (f 6 1)
  let s := (s.force1 (K.tileBqQ n) (f 12 4)).force1 (K.tileCdsResetPhase n) (f 16 2)
  let s := ((s.force1 (K.tileCdsVideoPhase n) (f 18 2)).force1 (K.tileCdsPixels n) (f 20 2)).force1 (K.tileCdsLead n) (f 22 2)
  let s := ((s.force1 (K.tileCdsBlackFirst n) (f 24 2)).force1 (K.tileCdsBlackCount n) (f 26 1)).force1 (K.tileCdsClampShift n) (f 27 1)
  s.force1 (K.tileCdsBlackTarget n) (f 28 2)

/-- The converter's settings from a node, with the divider of its quadrant's clock (R134 to R138, R142); a calibration holds
only for the mode, capacitance and divider it was run with (R139). -/
def State.writeAdc (s : State) (n : Nat) (d : Node) (div phase : Nat) : State :=
  let osr := if d.adc = 4 then osrOf d.rateFrac else 1
  let fs := (Frac.div ⟨tileRate d, 1⟩ ⟨rateDen, 1⟩).f32
  let s := if (s.tile n).calFor = (d.adc, d.cs, div) then s else s.set (K.tileCalValid n) 0
  let s := ((s.set (K.tileAdcMode n) d.adc).set (K.tileAdcDiv n) div).set (K.tileAdcFs n) fs
  let s := ((s.set (K.tileAdcOsr n) osr).set (K.tileAdcCs n) d.cs).force1 (K.tileAdcPhase n) (phase % 1024)
  s.set (K.tileAdcLatency n) (Frac.mul ⟨1000000000, 1⟩ (s.latency n 0)).f32

/-- The entries of a scan table (R130): bus, gain, feedback step in TIA form, VALID, dwell and blank of each slot
(DEDUCED, log entry 32). -/
def scanTable (g : List Node) : Nat :=
  ofLE (g.flatMap (fun n => toLE 1 (busOf n.input) ++ toLE 1 (feField n.fe 0 1) ++ toLE 1 (if n.form = 2 then feField n.fe 1 1 else 0) ++
    toLE 1 1 ++
    toLE 2 n.dwell ++ toLE 2 n.blank))

/-- The gains of a scan table, one to a slot. -/
def scanGains (g : List Node) : Nat := ofLE (((List.range 16).map (fun i => match g[i]? with
  | some n => BitVec.ofNat 8 (feField n.fe 0 1) | none => 24)))

/-- A tile's scan objects from the nodes of its group. -/
def State.writeScan (s : State) (n : Nat) (g : List Node) : State :=
  let s := ((s.set (K.tileScanTable n) (scanTable g)).set (K.tileScanSlots n) g.length).force1 (K.tileScanGain n) (scanGains g)
  let s := s.set (K.tileScanStart n) (if (g.map (·.pitch)).headD 0xFF = 0xFF then 0 else 1)
  let s := s.set (K.tileScanCycle n) ((g.map (fun m => m.dwell + m.blank)).foldl (· + ·) 0)
  s.set (K.tileStatus n) (withBit (s.obj (K.tileStatus n)) 6 (decide (1 < g.length)))

/-- The committed node of a context. -/
def State.nodeOf (s : State) (c : Nat) : Node := nodeBy s.force c

/-- The tile objects that the Placer writes for a context on a tile (R105): front end, converter, routing and, on its first
slot, the scan. A pair's odd tile samples half a period later (R137). -/
def State.writeTile (s : State) (n half c div phase : Nat) : State :=
  let d := s.nodeOf c
  let s := s.set (K.tileFeForm n) d.form
  let s := s.writeFe n half d.fe
  let s := if half = 1 then s else s.writeAdc n d div phase
  let s := s.reportBiquad n
  if d.scans then
    let g := scanOf s.graphNodes d.scanGroup
    if (g.map (·.ctx)).headD c = c then s.writeScan n g else s
  else s.set (K.tileRoutePartner n) (if d.adc = 3 then (if n % 2 = 0 then n + 1 else n - 1) else 0xFF)

/-- A tile starts under the enable rule (R106). -/
def State.startTile (s : State) (n : Nat) : State := s.set (K.tileStatus n) (enWrite (s.obj (K.tileStatus n)) 1)
def State.stopTile (s : State) (n : Nat) : State := s.set (K.tileStatus n) (enWrite (s.obj (K.tileStatus n)) 0)

/-- A tile's monitors change state with it (R351): UNRESOLVED while it is OFF; one that is not enabled reads CLEAR when it
is ON. -/
def State.monitorsOf (s : State) (n : Nat) (on : Bool) : State :=
  (List.range 2).foldl (fun st i =>
    (st.set (K.tileMonState n i) (if on && st.obj (K.tileMonEnable n i) = 0 then 1 else 0)).setMon (2 * n + i)
      { st.mon (2 * n + i) with past := [] }) s

/-- A tile reads ON: its buffer is clear and its clamp restarts from zero (R106, R115); the estimator of a pair whose calibration holds
starts from the calibrated corrections (R145). -/
def State.tileOn (s : State) (n : Nat) : State :=
  let s := s.monitorsOf n true
  let s := (s.modTile n (fun x => { x with buf := [], black := 0, blackN := 0, blackSq := 0, blackLines := [], clamp := 0, taken := 0,
                                           slot := 0, pos := 0 })).showFill n
  let c := (s.tile n).ilvCal
  let held := s.adcMode n == 3 && n % 2 == 0 && s.obj (K.tileCalValid n) == 1 && s.obj (K.tileIlvState n) == 0
  if held then (s.setIlv n c.1 c.2.1 c.2.2).acquire n else s

/-- Half B's own objects read their defaults (R116). -/
def State.clearHalfB (s : State) (n : Nat) : State :=
  [K.tileFeGainB n, K.tileFeRfB n, K.tileFeOffsetB n, K.tileBqF0B n].foldl (fun st k => st.force1 k (defaultOf st.variant k)) s

/-- A tile reads OFF: selectors at ISOLATE, it is in no split mode, and it serves no context (R106, R107, R116). -/
def State.tileOff (s : State) (n : Nat) : State :=
  let s := (((s.monitorsOf n false).setSel n 0 0xFF).setSel n 1 0xFF).set (K.tileFeForm n) 0
  let s := ((s.set (K.tileAdcMode n) 0).set (K.tileRoutePartner n) 0xFF).set (K.tileRouteContexts n) 0
  let s := ((s.set (K.tileScanSlots n) 0).set (K.tileScanTable n) 0).set (K.tileIlvState n) 0
  let b := s.obj (K.tileStatus n)
  (s.set (K.tileStatus n) (withBits b 7 5 0)).clearHalfB n

/-- Close a pad's entry switch, or open it, and show its bus (R121). -/
def State.setEntry (s : State) (n v : Nat) : State := (s.set (K.tilePadEntry n) v).showBus n

/-- Whether a pad is listed for contention: its drivers stay open (R125, R226). -/
def State.padListed (s : State) (n : Nat) : Bool := s.defects.any (fun d => d.names 4 n true)

/-- The pads from which placed contexts take samples (R121), but for those listed for contention. -/
def State.usedPads (s : State) : List Nat :=
  ((s.graphNodes.filter (fun m => m.source == 1 && decide (cPlaced ≤ s.ctxState m.ctx))).map (·.input)).filter (fun n => !s.padListed n)

/-- Whether a pad's entry switch belongs closed. -/
def State.padUsed (s : State) (n : Nat) : Bool := s.usedPads.contains n

/-- Every entry switch is closed exactly while at least one placed context takes its pad's samples (R121); a contended bus keeps its
drivers open (R124). -/
def State.syncEntries (s : State) : State :=
  let used := s.usedPads
  (allTiles s.variant).foldl (fun st n =>
    let v := ofBool (used.contains n && st.obj (K.tilePadBus n) != 3 && !(st.tile n).isolated.testBit 2)
    if st.obj (K.tilePadEntry n) = v then st else st.setEntry n v) s

/-- A write of a test bridge succeeds only while the pad's entry switch is open (R123), and where no placed context needs the bus: the
switches of a contended one close again (R122). -/
def guardPadTest (s : State) (n : Nat) : Res Unit :=
  need (s.obj (K.tilePadEntry n) == 0 && !s.padUsed n) aConflict (0x00040000 + n)

/-- The tiles that a context's words come from: its tile, and the odd one of a pair. -/
def State.tilesOf (s : State) (c : Nat) : List Nat :=
  let t := s.obj (K.ctxTile c)
  if t = 0xFFFF then [] else if s.node (K.graphNodeAdcMode c) = 3 then [t, t + 1] else [t]

/-- The objects of chapters 05 and 06 that return to their defaults in STANDBY and LOAD (R107, R152): all but the enable state and the
pads' termination. -/
def isTileReset (k : Nat) : Bool :=
  let i := k / 256
  0x3000 ≤ i && i < 0x4000 && i % 16 < 12 && i % 16 != 6 && !(i % 16 == 7 && k % 256 == 2)

/-! ## What a context shows -/

/-- Change of lifecycle state. -/
def State.setCtxState (s : State) (c v : Nat) : State := s.set (K.ctxState c) v

/-- A context fails (R237): nothing written, its slot HELD, the PLACER source raised. -/
def State.failCtx (s : State) (c cause : Nat) : State :=
  let s := (s.setCtxState c cFailed).set (K.ctxCause c) cause
  let s := match s.slotOf c with | some i => s.holdSlot i | none => s
  (s.modCtx c (fun x => { x with cur := none, failDue := 0, lossDue := 0 })).raise 759 c

/-- A context loses its source at its next boundary with a cause; in HOLD and SAFE the loss waits for RUN (R225, R236). -/
def State.loseSource (s : State) (c cause : Nat) : State :=
  let st := s.ctxState c
  if st = cFlowing then s.modCtx c (fun x => { x with lossDue := cause, recover := false })
  else if st = cPrimed || st = cPlaced then
    (s.modCtx c (fun x => { x with lostSrc := cause })).set (K.ctxCause c) cause
  else if st = cDegraded then (s.modCtx c (fun x => { x with recover := false })).set (K.ctxCause c) cause
  else s

/-- The line in progress is lost (R124, R339). -/
def State.loseLine (s : State) (c : Nat) : State :=
  s.modCtx c (fun x => { x with cur := x.cur.map (fun l => { l with lossy := true }) })

/-- A working source returns at the context's next boundary (R236), where a loss that still waits takes its line first. -/
def State.returnSource (s : State) (c : Nat) : State :=
  s.modCtx c (fun x => { x with recover := true, lostSrc := 0 })

/-- Whether a context has lost its source for a cause, or is about to. -/
def State.lostFor (s : State) (c cause : Nat) : Bool :=
  (s.ctx c).lossDue == cause || (s.ctx c).lostSrc == cause || (s.ctxState c == cDegraded && s.obj (K.ctxCause c) == cause)

/-! ## Lines and blocks -/

/-- The RESTRICTED flag (R10, R37). -/
def State.restrictedFlag (s : State) : Nat := if s.obj K.versionsRestricted = 1 then fRestricted else 0

/-- Items for a context's first ring, the raw ring of one with a chain: through the ingest buffer of its tile, or from its piece or peer
lane. -/
def State.toOut (s : State) (c : Nat) (items : List Item) : State :=
  let t := s.obj (K.ctxTile c)
  if t = 0xFFFF then s.modCtx c (fun x => { x with outQ := x.outQ ++ items })
  else s.modTile t (fun x => { x with buf := x.buf ++ items })

/-- A record of a context takes the position of an instant of the device clock: of the encoder bound to its pitch generator; a context
without one has no position (R174). -/
def State.stampRec (s : State) (c t : Nat) (rec : LineRec) : (LineRec × Option (Nat × Nat)) × State :=
  s.stamped (s.stampPitch 16 c) t rec

/-- Whether lines of a context advance the ramps of its tile: half A, and the first slot of a scan. -/
def State.countsRamp (s : State) (c : Nat) : Bool := s.obj (K.ctxHalf c) != 1 && (!s.scans c || s.scanSlot c == 0)

/-- Whether a ramp goes by time in a context: one with no line source, but for a scanning tile's, which counts its blocks (R340). -/
def State.rampTimed (s : State) (c : Nat) : Bool := s.node (K.graphNodePitch c) == 0xFF && !s.scans c

/-- The time T and the length G of the ramps of a tile. -/
def State.rampTime (s : State) (n : Nat) : Nat := max 1 (s.obj (K.tileCalRampUs n) * perUs)
def State.rampLength (s : State) (n : Nat) : Nat := max 1 (s.obj (K.tileCalRampLines n))

/-- How far a ramp of a tile has come for a context: i of G in its line in progress, or t of T (R340). -/
def State.rampShare (s : State) (n c : Nat) (r : Ramp) : Nat × Nat :=
  if !r.on then (1, 1)
  else if r.waits.contains c then (0, 1)
  else if s.rampTimed c then (min (s.rampTime n) (s.clock - r.start.getD s.clock), s.rampTime n)
  else (min (Sp.get (fun _ => 0) r.lines c + 1) (s.rampLength n), s.rampLength n)

/-- Whether a ramp is over for a context. -/
def State.rampOver (s : State) (n c : Nat) (r : Ramp) : Bool :=
  !r.waits.contains c &&
    (if s.rampTimed c then (match r.start with | some t => decide (t + s.rampTime n ≤ s.clock) | none => false)
     else decide (s.rampLength n ≤ Sp.get (fun _ => 0) r.lines c))

/-- A ramp after a written line of a context (R340): it ends when it is over for every context of the tile. -/
def State.rampStep (s : State) (n c : Nat) (r : Ramp) : Ramp :=
  if !r.on then r
  else
    let r := if r.waits.contains c then { r with waits := r.waits.filter (fun d => d != c) }
      else { r with lines := Sp.put (fun _ => 0) r.lines c (Sp.get (fun _ => 0) r.lines c + 1) }
    if (s.tileCtxs n).all (fun d => s.rampOver n d r) then .none_ else r

/-- A ramp that begins: with the next line where one is open (DESIGN CHOICE, log entry 46). -/
def State.newRamp (s : State) (n : Nat) : Ramp :=
  ⟨true, none, [], (s.tileCtxs n).filter (fun c => (s.ctx c).cur.isSome)⟩

/-- A written line moves the ramps of a tile on (R340, R345) (DESIGN CHOICE, log entry 46). -/
def State.rampLine (s : State) (n c : Nat) : State :=
  let x := s.tile n
  let a := s.rampStep n c x.calRamp
  let s := if x.calRamp.on && s.countsRamp c then
      s.set (K.tileCalRampLeft n) (if a.on then s.obj (K.tileCalRampLines n) - Sp.get (fun _ => 0) a.lines c else 0) else s
  s.modTile n (fun y => { y with wrote := true, calRamp := a, sceneRamp := s.rampStep n c y.sceneRamp })

/-- A line of a context ends that a scene run has measured (R343). -/
def State.sceneLine (s : State) (c : Nat) : State :=
  let l := s.obj (K.ctxTile c)
  if 2 ≤ (s.tile l).cal.kind && 2 ≤ (s.tile l).cal.step then
    s.modTile l (fun t => { t with cal := { t.cal with lines := Sp.put (fun _ => 0) t.cal.lines c (Sp.get (fun _ => 0) t.cal.lines c + 1) } })
  else s

/-- The line or block in progress ends: its samples are delivered with its record (R10, R173, R233, R246). A lossy one is
discarded. -/
def State.closeLineOf (s : State) (c : Nat) : State :=
  let x := s.ctx c
  match x.cur with
  | none => s
  | some l =>
    let s := s.setCtx c { x with cur := none, swapped := if l.swapped then x.swapped - 1 else x.swapped }
    if l.empty then s
    else
      let n := s.obj (K.ctxTile c)
      let flags := (s.restrictedFlag + (if l.swapped then fSwapped else 0) + (if l.stale then fStale else 0)) ||| l.inFlags
      let plain : LineRec := ⟨l.line, time96 l.stamp, l.position, l.fraction, flags, 0, l.gap⟩
      let pos := if n = 0xFFFF then ((plain, none), s) else s.stampRec c l.start plain
      let s := pos.2
      let rec_ := pos.1
      if n = 0xFFFF then s.toOut c [.mark c (s.chained c) rec_.1 l.lossy none]
      else if l.stale then
        let s := s.sceneLine c
        let words := if s.chained c then [] else x.lastGood.map (fun b => Item.word c false l.line 1 b.toNat)
        s.toOut c (words ++ [.mark c (s.chained c) rec_.1 l.lossy rec_.2])
      else
        let s := if s.chained c then s
          else s.modCtx c (fun y => { y with filling := [], lastGood := if l.lossy then y.lastGood else y.filling.reverse })
        let s := s.pushMark n c (s.chained c) rec_ l.lossy
        if l.lossy then s else (s.tilesOf c).foldl (fun st m => st.rampLine m c) s

/-- The record of a line without samples (R236); the flags are independent (R10). -/
def State.emptyLine (s : State) (c line stamp start gap : Nat) : State :=
  let flags := fDegraded + s.restrictedFlag + (if (s.ctx c).stale then fStale else 0)
  let pos := s.stampRec c start ⟨line, time96 stamp, 0x800000000000, 0, flags, 0, gap⟩
  pos.2.toOut c [.mark c (pos.2.chained c) pos.1.1 false pos.1.2]

/-- A line or block opens (R225, R236): PRIMED contexts become FLOWING, or DEGRADED where their source is lost. -/
def State.openLine (s : State) (c line stamp start : Nat) : State :=
  let s := if s.ctxState c = cPrimed then
      let lost := (s.ctx c).lostSrc
      if lost = 0 then
        let s := s.setCtxState c cFlowing
        if (s.ctx c).stale then s else s.restartAt c line
      else
        let s := ((s.setCtxState c cDegraded).set (K.ctxCause c) lost).set (K.ctxDegradedLine c) line
        let s := match s.slotOf c with | some i => s.holdSlot i | none => s
        (s.modCtx c (fun x => { x with lostSrc := 0, empties := 0 })).raise 759 c
    else s
  let x := s.ctx c
  let cur : Cur := ⟨line, stamp, 0, 0, start, 0, x.stale, decide (0 < x.swapped), 0, false, false, 0⟩
  if s.ctxState c = cDegraded then
    let n := x.empties + 1
    (s.setCtx c { x with empties := n, cur := some { cur with empty := true } }).emptyLine c line stamp start n
  else if s.ctxState c = cFlowing then
    s.setCtx c { x with cur := some { cur with gap := x.empties }, empties := 0 }
  else s

/-- FLOWING becomes DEGRADED at a boundary (R236): a line that lost samples counts as the first empty one
(DESIGN CHOICE, log entry 34). -/
def State.degrade (s : State) (c line : Nat) (lossy : Option Cur) : State :=
  let x := s.ctx c
  let s := (s.setCtxState c cDegraded).set (K.ctxCause c) x.lossDue
  let s := match s.slotOf c with | some i => s.holdSlot i | none => s
  let first := match lossy with | some l => l.line | none => line
  let s := (s.setCtx c { x with lossDue := 0, empties := if lossy.isSome then 1 else 0 }).set (K.ctxDegradedLine c) first
  let s := match lossy with
    | some l => s.emptyLine c l.line l.stamp l.start 1
    | none => s
  s.raise 759 c

/-- DEGRADED becomes FLOWING at a boundary (R236): `ctx.lost` adds the empty lines, which the first line carries. -/
def State.recoverCtx (s : State) (c line : Nat) : State :=
  let x := s.ctx c
  let s := (s.setCtxState c cFlowing).count (K.ctxLost c) 64 x.empties
  (s.setCtx c { x with recover := false }).restartAt c line

/-- Whether a context's boundaries come from its pitch generator (R224). -/
def State.triggered (s : State) (c : Nat) : Bool := s.node (K.graphNodePitch c) != 0xFF && !s.scans c

/-- Where a context's next line will begin: the next trigger's number, or its next block. -/
def State.nextNumber (s : State) (c : Nat) : Nat :=
  if s.triggered c then s.nextTriggerLine (s.node (K.graphNodePitch c)) else (s.ctx c).block

/-- The step in input that a change of a tile's front end makes for the chain of one of its contexts (R118, R208): with the line that
begins at the context's own boundary, with the next word of its line in progress at another's. -/
def State.stepChange (s : State) (d : Nat) (a : FrontEnd) (own : Option Nat) : State :=
  match s.slotOf d with
  | none => s
  | some i =>
    let n := s.obj (K.ctxTile d)
    let half := s.obj (K.ctxHalf d)
    let ts := settleTimes (s.formOf n) (s.fsOf n) (s.biquadF0 n half) a (s.frontEnd n half)
    if ts.isEmpty then s
    else
      let w := wordsOf (s.chainRate d) ts
      match own, (s.ctx d).cur with
      | some line, _ => s.stepSlot i line 0 w
      | none, some l => s.stepSlot i l.line l.words w
      | none, none => s.stepSlot i (s.nextNumber d) 0 w

/-- Staged values of a context's tile take effect at a boundary, unless the tile calibrates; the chains of the tile's contexts take the
step (R105, R118, R208, R338). -/
def State.settleAt (s : State) (c line : Nat) : State :=
  let n := s.obj (K.ctxTile c)
  if n = 0xFFFF then s
  else
    let s := if (s.tile n).cal.step ≥ 2 then s
      else
        let before := fun (d : Nat) => s.frontEnd n (s.obj (K.ctxHalf d))
        let t := (s.tilesOf c).foldl (fun st m => st.settleTile m (s.obj (K.ctxHalf c))) s
        (t.tileCtxs n).foldl (fun st d => st.stepChange d (before d) (if d = c then some line else none)) t
    match s.slotOf c with | some i => s.slotBoundary i line | none => s

/-- Step 4 of R336 for one context: STALE from this boundary; its slot is HELD. -/
def State.staleFrom (s : State) (c : Nat) : State :=
  let s := s.modCtx c (fun x => { x with stale := true })
  match s.slotOf c with | some i => s.holdSlot i | none => s

/-- Step 9 of R336 for one context: STALE ends with this line, and the slot restarts (R210). -/
def State.staleEnds (s : State) (c line : Nat) : State :=
  (s.modCtx c (fun x => { x with stale := false })).restartAt c line

/-- The tiles that calibrate with a tile: itself, or both of its pair. -/
def State.calMembers (s : State) (n : Nat) : List Nat := if s.adcMode n = 3 then [n / 2 * 2, n / 2 * 2 + 1] else [n]

/-- Where a tile's calibration is kept: at the even tile of a pair. -/
def State.calLeader (s : State) (n : Nat) : Nat := if s.adcMode n = 3 then n / 2 * 2 else n

/-- The object that shows the result of a calibration of a kind. -/
def calResultKey (kind n : Nat) : Nat := if kind = 1 then K.tileCalResult n else K.tileSceneResult n

def State.setCal (s : State) (n : Nat) (x : Cal) : State := s.modTile n (fun t => { t with cal := x })
def State.modCal (s : State) (n : Nat) (f : Cal → Cal) : State := s.modTile n (fun t => { t with cal := f t.cal })

/-- The tiles with a calibration queued or running, in ascending order. -/
def State.calTiles (s : State) : List Nat := (s.tiles.filter (fun e => e.2.cal.kind != 0)).map (·.1)

/-- Show how many tiles are QUEUED and RUNNING, and the activity in force. -/
def State.showCal (s : State) : State :=
  let ns := s.calTiles
  let s := s.set K.calQueued (ns.filter (fun n => (s.tile n).cal.step < 2)).length
  let s := s.set K.calRunning (ns.filter (fun n => (s.tile n).cal.step ≥ 2)).length
  if s.obj K.calState = 1 then s else s.set K.calState (if ns.isEmpty then 0 else 2)

/-- Set or clear the HOLDING bit of a tile's monitors (R352). -/
def State.holdMonitors (s : State) (n : Nat) (b : Bool) : State :=
  (List.range 2).foldl (fun st i => st.set (K.tileMonState n i) (withBit (st.obj (K.tileMonState n i)) 7 b)) s

/-- Step 4 of R336 for one tile: an internal calibration puts the selectors to INTERNAL and holds the monitors; the
interleave estimator stops (R145). -/
def State.beginRuns (s : State) (n : Nat) : State :=
  let k := (s.tile n).cal.kind
  let s := s.set (calResultKey k n) 2
  let s := s.set (K.tileStatus n) (withBit (s.obj (K.tileStatus n)) 5 true)
  let s := s.modCal n (fun x => { x with step := 2 })
  if k ≠ 1 then s
  else
    let s := if (s.tile n).isolated.testBit 0 then s else s.setSel n 0 0xFE
    let s := (if s.adcMode n = 2 && !(s.tile n).isolated.testBit 1 then s.setSel n 1 0xFE else s).holdMonitors n true
    (s.set (K.tileIlvState n) 0).set (K.tileIlvFlags n) 0

/-- Step 3 of R336 has passed when every FLOWING context of the tile is STALE: the runs begin, and the engine slots of its
contexts are HELD (R210). -/
def State.tryBegin (s : State) (n : Nat) : State :=
  let l := s.calLeader n
  let cs := s.tileCtxs l
  if (s.tile l).cal.step = 1 && cs.all (fun c => s.ctxState c != cFlowing || (s.ctx c).stale) then
    let s := (s.calMembers l).foldl (fun st m => st.beginRuns m) s
    (cs.foldl (fun st c => match st.slotOf c with | some i => st.holdSlot i | none => st) s).showCal
  else s

/-- The two instants of a calibration that fall on boundaries: contexts of a tile from step 3 on turn STALE, those of a tile
that has finished deliver again. -/
def State.staleAt (s : State) (c line : Nat) : State :=
  let n := s.obj (K.ctxTile c)
  if n = 0xFFFF then s
  else
    let k := (s.tile n).cal.step
    if (s.ctx c).stale then (if k = 0 then s.staleEnds c line else s)
    else if k = 0 then s else (s.staleFrom c).tryBegin n

/-- A boundary that an affected context passes while a reload freezes it (R316, R319): the line is not written and is counted;
a PRIMED context becomes FLOWING. -/
def State.frozenLine (s : State) (c line stamp start : Nat) : State :=
  let s := s.count (K.ctxRingUnwritten c) 64 1
  let s := if s.mode = mRun && s.ctxState c = cPrimed && (s.ctx c).lostSrc = 0 then s.setCtxState c cFlowing else s
  s.modCtx c (fun x => { x with cur := some ⟨line, stamp, 0, 0, start, 0, false, false, 0, true, false, 0⟩ })

/-- HOLD and SAFE (R225): FLOWING and DEGRADED become PRIMED. A loss waits for RUN; empty lines so far are lost (R236). -/
def State.primeCtx (s : State) (c : Nat) : State :=
  let x := s.ctx c
  if s.ctxState c = cFlowing then
    let s := (s.setCtxState c cPrimed).setCtx c { x with recover := false, lossDue := 0, lostSrc := if x.recover then 0 else x.lossDue }
    if x.lossDue = 0 then s else s.set (K.ctxCause c) x.lossDue
  else if s.ctxState c = cDegraded then
    let s := (s.setCtxState c cPrimed).count (K.ctxLost c) 64 x.empties
    s.setCtx c { x with recover := false, lossDue := 0, lostSrc := if x.recover then 0 else s.obj (K.ctxCause c) }
  else s

/-- A line or block boundary of a context at which line `line` begins, at an instant (R225, R233, R236, R237). -/
def State.boundary1 (s : State) (c line stamp start : Nat) : State :=
  let before := (s.ctx c).cur
  let s := s.closeLineOf c
  if s.mode ≠ mRun then
    if s.mode = mSafe then s.primeCtx c else s
  else if (s.ctx c).failDue ≠ 0 && [cFlowing, cDegraded, cPrimed].contains (s.ctxState c) then s.failCtx c (s.ctx c).failDue
  else if (s.ctx c).freeze then s.frozenLine c line stamp start
  else
    let lossy := match before with | some l => if l.lossy then some l else none | none => none
    let s := if (s.ctx c).lossDue ≠ 0 && s.ctxState c = cFlowing then s.degrade c line lossy else s
    let s := if (s.ctx c).recover && s.ctxState c = cDegraded then s.recoverCtx c line else s
    let s := (s.settleAt c line).staleAt c line
    s.openLine c line stamp start

/-- The outputs of the pieces in sectors whose border is held that take their lines from a context. -/
def State.heldOutputs (s : State) (c : Nat) : List Nat :=
  (s.plan.pieces.filter (fun e => s.obj (K.configSectorState e.2.1) ≥ 3 && u16At (s.force (K.graphPieceInputs e.1)) 0 == c)).flatMap
    (fun e => s.ringed.filter (fun o => s.node (K.graphNodeSource o) == 2 && s.node (K.graphNodeInput o) / 256 == e.1))

/-- Their boundaries come with those of the first input: a frozen piece's lines are counted unwritten (R316), a lost one's
contexts fail (R328). -/
def State.boundaryHeld (s : State) (line stamp start : Nat) : List Nat → State
  | [] => s
  | o :: os =>
    let s := if (s.ctx o).failDue ≠ 0 || (s.ctx o).freeze then s.boundary1 o line stamp start else s
    s.boundaryHeld line stamp start os

/-- A boundary of a context, and of the pieces' outputs that wait for it. -/
def State.boundary (s : State) (c line stamp start : Nat) : State :=
  (s.boundary1 c line stamp start).boundaryHeld line stamp start (s.heldOutputs c)

/-! ## Sample instants (R114, R120, R130, R136, R345) -/

/-- The scene table in force at the end of a ramp: the stored one while enabled, else none (R345). -/
def State.sceneTable (s : State) (n : Nat) : List Byte :=
  if s.obj (K.tileSceneEnable n) = 1 then (s.blob (K.tileSceneTable n)).getD [] else []

/-- Dark value and gain of an entry of a table; beyond its end 0 and 1.0 (R344) (DESIGN CHOICE, log entry 46). -/
def sceneEntry (bs : List Byte) (e : Nat) : Int × Int :=
  if bs.length < 4 * e + 4 then (0, 16384) else (signed 16 (leAt bs (4 * e) 2), (leAt bs (4 * e + 2) 2 : Nat))

/-- A scene run takes a word of a context, with the scene table not applied, over `scene.lines` of its lines (R343, R344). -/
def State.sceneTake (s : State) (n c entry : Nat) (w : Int) : State :=
  let x := (s.tile n).cal
  if x.kind < 2 || x.step < 2 || !(s.ctx c).cur.isSome || s.obj (K.tileSceneLines n) ≤ Sp.get (fun _ => 0) x.lines c then s
  else
    let a := Sp.get (fun _ => ((0, 0) : Int × Nat)) x.sums entry
    s.modTile n (fun t => { t with cal := { t.cal with sums := Sp.put (fun _ => (0, 0)) t.cal.sums entry (a.1 + w, a.2 + 1) } })

/-- A word after scene correction (R345); clip codes pass unchanged. -/
def State.sceneWord (s : State) (n c entry : Nat) (w : Int) : Int :=
  let x := s.tile n
  if w = 32767 || w = -32768 then w
  else
    let b := sceneEntry (s.sceneTable n) entry
    let top := wordMax (s.adcMode n)
    let v :=
      if x.sceneRamp.on then
        let a := sceneEntry (x.sceneOld.getD []) entry
        let (i, g) := s.rampShare n c x.sceneRamp
        roundHalfEven ((w * g - (a.1 * g + (b.1 - a.1) * i)) * (a.2 * g + (b.2 - a.2) * i)) (16384 * g * g)
      else roundHalfEven ((w - b.1) * b.2) 16384
    max (-top) (min top v)

/-- One word of a context goes into its line in progress; the first one gives the line its stamp (R173). Overrange and clips count
as a word that the line holds is converted (R128, R141). -/
def State.putWord (s : State) (n half c : Nat) (word : Int) (m : Mark) : State :=
  let x := s.ctx c
  match x.cur with
  | none => s
  | some l =>
    let cds := s.formOf n == 3
    let dana := s.danaOf n half
    let l := if l.words = 0 && !cds then
        { l with stamp := ((s.time : Int) - dana).toNat, start := ((s.clock : Int) - dana).toNat } else l
    let s := s.setCtx c { x with cur := some { l with words := l.words + 1 } }
    if l.stale || l.empty then s
    else
      let s := if s.chained c then s
        else s.modCtx c (fun y => { y with filling := (toLE 2 (unsigned 16 word)).reverse ++ y.filling })
      (s.noteMark c l.line m).pushWord n c (s.chained c) l.line (unsigned 16 word)

/-- The next block of a continuous or scanning context opens (R224). -/
def State.openBlock (s : State) (c : Nat) : State :=
  let k := (s.ctx c).block
  let s := s.modCtx c (fun x => { x with block := x.block + 1 })
  s.boundary c k s.time s.clock

/-- A context whose tile words now fill: whether its line may still take words. -/
def State.inProgress (s : State) (c : Nat) : Bool := (s.ctx c).cur.isSome

/-- A word for a line that a trigger opened: scene correction comes first (R345). -/
def State.lineWord (s : State) (n half c : Nat) (word : Int) (m : Mark) : State :=
  (s.sceneTake n c half word).putWord n half c (s.sceneWord n c half word) m

/-- A word for a continuous context: it opens a block in RUN, and ends it at its length. -/
def State.blockWord (s : State) (n half c : Nat) (word : Int) (m : Mark) : State :=
  let s := if s.inProgress c then s
    else if s.mode = mRun && [cPrimed, cFlowing, cDegraded].contains (s.ctxState c) then s.openBlock c else s
  if !s.inProgress c then s
  else
    let s := s.lineWord n half c word m
    match (s.ctx c).cur with
    | some l => if l.words ≥ s.node (K.graphNodeBlock c) then s.closeLineOf c else s
    | none => s

/-- Whether a tile's selector stands at INTERNAL for a calibration (R336, R338). -/
def State.internal (s : State) (n : Nat) : Bool := (s.tile n).cal.kind == 1 && decide (2 ≤ (s.tile n).cal.step)

/-- A pixel of a CDS line (R114): after `lead` pixel periods, `pixels` pixels, and the line ends with the last. -/
def State.cdsWord (s : State) (n c : Nat) (word : Int) (m : Mark) : State :=
  let x := s.tile n
  if !s.inProgress c then s
  else
    let lead := s.force (K.tileCdsLead n)
    let pixels := s.force (K.tileCdsPixels n)
    let s := s.modTile n (fun y => { y with taken := x.taken + 1 })
    if x.taken < lead || lead + pixels ≤ x.taken then s
    else
      let p := x.taken - lead
      let w := s.sceneWord n c p word
      let s := ((if s.internal n then s else s.notePixel n p word).sceneTake n c p word).putWord n 0 c w m
      if p + 1 = pixels then s.closeLineOf c else s

/-- The context of a scan slot on a tile. -/
def State.scanCtx (s : State) (n slot : Nat) : Option Nat := (s.tileCtxs n).find? (fun c => s.scans c && s.scanSlot c == slot)

/-- A selector joins a bus, but for one that a contention or a reload holds at ISOLATE, or a calibration at INTERNAL (R121, R124, R317,
R336). -/
def State.joinSel (s : State) (n half bus : Nat) : State :=
  if s.internal n || (s.tile n).isolated.testBit half || (s.tile n).isolated.testBit 2 then s else s.setSel n half bus

/-- A scan slot's settings come into force: its gain code, its feedback step in TIA form, its bus (R130). -/
def State.enterSlot (s : State) (n slot : Nat) : State :=
  match s.scanCtx n slot with
  | none => s
  | some c =>
    let t := s.obj (K.tileScanTable n)
    let s := s.inUse (K.tileFeGain n) (byteAt t (8 * slot + 1))
    let s := if s.formOf n = 2 then s.inUse (K.tileFeRf n) (byteAt t (8 * slot + 2)) else s
    s.joinSel n 0 (busOf (s.padOf c))

/-- A visit of a scan slot begins: its staged gain and its settings are in force (R130). While the tile calibrates no staged value takes
effect (R105), and at INTERNAL no slot is entered (R121). -/
def State.visitSlot (s : State) (n slot : Nat) : State :=
  let s := s.modTile n (fun x => { x with slot := slot, pos := 0 })
  let s := if (s.tile n).cal.step ≥ 2 then s else s.settleScanGain n slot
  if s.internal n then s else s.enterSlot n slot

/-- A sample of a scanning tile (R130): `blank` samples are discarded, `dwell` samples form a block, and the next slot follows.
A slot that a line trigger restarts begins again. -/
def State.scanWord (s : State) (n : Nat) (word : Int) (m : Mark) : State :=
  let x := s.tile n
  match s.scanCtx n x.slot with
  | none => s
  | some c =>
    let blank := s.node (K.graphNodeBlank c)
    let dwell := s.node (K.graphNodeDwell c)
    let s := s.modTile n (fun y => { y with pos := x.pos + 1 })
    let s := if x.pos < blank then s
      else
        let s := if x.pos = blank && s.mode = mRun && [cPrimed, cFlowing, cDegraded].contains (s.ctxState c) then s.openBlock c else s
        (s.sceneTake n c x.slot word).putWord n 0 c (s.sceneWord n c x.slot word) m
    if x.pos + 1 < blank + dwell then s
    else
      let s := s.closeLineOf c
      let next := if x.taken = 1 || x.slot + 1 ≥ s.obj (K.tileScanSlots n) then 0 else x.slot + 1
      (s.modTile n (fun y => { y with taken := 0 })).visitSlot n next

/-- Whether a tile converts: ON or STOPPING. -/
def State.converts (s : State) (n : Nat) : Bool :=
  enState (s.obj (K.tileStatus n)) == 2 || enState (s.obj (K.tileStatus n)) == 3

/-- The context of a tile's half; the odd tile of a pair serves the pair's context. -/
def State.halfCtx (s : State) (n half : Nat) : Option Nat :=
  let t := if s.adcMode n = 3 then n / 2 * 2 else n
  (s.tileCtxs t).find? (fun c => s.obj (K.ctxHalf c) == half)

/-- A ramp with the instant of its first word in RUN (R338, R340). -/
def Ramp.begun (r : Ramp) (c t : Nat) : Ramp :=
  if r.on && r.start.isNone && !r.waits.contains c then { r with start := some t } else r

/-- The first word of a ramp in time (R340). -/
def State.markRamps (s : State) (n c : Nat) : State :=
  if s.mode = mRun && ((s.tile n).calRamp.on || (s.tile n).sceneRamp.on) then
    s.modTile n (fun x => { x with calRamp := x.calRamp.begun c s.clock, sceneRamp := x.sceneRamp.begun c s.clock })
  else s

/-- Core conversions of a word: M in LOWNOISE, 1 in the other modes (R136). -/
def State.cores (s : State) (n : Nat) : Nat := if s.adcMode n = 4 then s.obj (K.tileAdcOsr n) else 1

/-- SAMPLE_INSTANT (R114, R120, R128, R130, R136, R140, R141): a tile converts a word from its core conversions; overrange and clips
are counted as it is converted; the word enters the ingest buffer with the tags of its line. A group of another size is no word of
this tile (DESIGN CHOICE, log entry 7). -/
def xSampleInstant (n half : Nat) (codes : List Int) (far : Bool) (s : State) : State :=
  if !s.converts n || codes.length ≠ s.cores n then s
  else
    let mode := s.adcMode n
    let word := wordOf mode codes
    let owner := if s.obj (K.tileScanSlots n) > 1 then s.scanCtx n (s.tile n).slot else s.halfCtx n half
    match owner with
    | none => s
    | some c =>
      let even := if mode = 3 then n / 2 * 2 else n
      let s := s.markRamps n c
      let m : Mark := ⟨n, far, (clipSide mode codes).isSome⟩
      if s.obj (K.tileScanSlots n) > 1 then s.scanWord n word m
      else if s.formOf n = 3 then s.cdsWord n c word m
      else if s.triggered c then
        if s.inProgress c then s.lineWord even half c word m else s
      else s.blockWord even half c word m

/-! ## Line triggers (R114, R130, R169 to R171) -/

/-- Words of value 0 that fill a truncated CDS line (R114). -/
def State.padZeros (s : State) (n c : Nat) : Nat → State
  | 0 => s
  | m + 1 => (s.putWord n 0 c 0 .none_).padZeros n c m

/-- A trigger meets a CDS line that has not ended: it is truncated, filled with zeros, counted and raised (R114). -/
def State.truncateCds (s : State) (n c : Nat) : State :=
  match (s.ctx c).cur with
  | none => s
  | some l =>
    if l.empty then s
    else
      let left := s.force (K.tileCdsPixels n) - l.words
      ((s.padZeros n c left).count (K.tileCdsOverrun n) 32 1).raiseTile n 8

/-- A trigger reaches a scanning tile with start LINE (R130): slot 0 restarts at once, another slot completes first. -/
def State.scanTrigger (s : State) (n : Nat) : State :=
  if s.obj (K.tileScanStart n) = 0 then s
  else if (s.tile n).slot = 0 then
    let s := match s.scanCtx n 0 with
      | some c => (match (s.ctx c).cur with
        | some l => ((s.loseLine c).closeLineOf c).modCtx c (fun x => { x with block := l.line })
        | none => s)
      | none => s
    s.visitSlot n 0
  else s.modTile n (fun x => { x with taken := 1 })

/-- A trigger with a line number, issued at an instant, reaches a context (R224): a boundary, and for CDS the start of the pixel count. A
CDS line is stamped at the trigger plus `out_delay` (R173). -/
def State.triggerCtx (s : State) (p line at_ c : Nat) : State :=
  if s.scans c then s
  else
    let n := s.obj (K.ctxTile c)
    let cds := n != 0xFFFF && s.formOf n == 3
    let s := if cds then s.truncateCds n c else s
    let d := if cds then roundHalfEven (signed 32 (s.obj (K.pitchOutDelay p)) * 65536) 1000 else 0
    let s := s.boundary c line ((s.timeAt at_ : Int) + d).toNat ((at_ : Int) + d).toNat
    if cds then s.modTile n (fun x => { x with taken := 0 }) else s

/-- The contexts whose lines a generator's triggers bound: those of its tiles, and peer contexts without a source. -/
def State.triggeredBy (s : State) (p : Nat) : List Nat :=
  s.ringed.filter (fun c => s.node (K.graphNodePitch c) == p &&
    (s.node (K.graphNodeSource c) == 1 || (s.node (K.graphNodeSource c) == 3 && s.ctxState c == cDegraded)))

/-- The scanning tiles that a generator restarts. -/
def State.scannedBy (s : State) (p : Nat) : List Nat :=
  (s.ringed.filter (fun c => s.node (K.graphNodePitch c) == p && s.scans c && s.scanSlot c == 0)).map (fun c => s.obj (K.ctxTile c))

/-- RUN is entered (R74, R77, R88): the transition ends, and the HOLD that was in force is over. -/
def State.enterRun (s : State) : State :=
  let s := ((s.enterMode mRun).set K.deviceModeTarget mRun).set K.deviceModeStep 0
  { (s.set K.deviceHoldCause 0).set K.deviceHoldEncoder 0xFF with trans := .idle }

/-- Whether a placed context uses a generator. -/
def State.placedPitch (s : State) (p : Nat) : Bool :=
  s.ringed.any (fun c => s.node (K.graphNodePitch c) == p && cPlaced ≤ s.ctxState c)

/-- Whether a trigger of a generator takes the device into RUN: the entry waits for one (R77), or a standstill HOLD resumes (R88). -/
def State.runsWith (s : State) (p : Nat) : Bool :=
  (s.trans.motion == .toRun && s.placedPitch p) ||
    (s.mode == mHold && s.trans.motion == .none && s.obj K.deviceHoldCause == 2 && s.obj K.deviceHoldAutoResume == 1 && s.placedPitch p &&
      (if s.obj K.deviceHoldEncoder = 0xFF then s.obj (K.pitchSource p) == 1
       else s.obj (K.pitchEncoder p) == s.obj K.deviceHoldEncoder && s.rateCheck (s.obj K.deviceHoldEncoder)))

/-- A trigger with a line number, issued at an instant, reaches a generator's contexts and the scanning tiles that it restarts. -/
def State.reachLines (s : State) (p line at_ : Nat) : State :=
  let s := (s.triggeredBy p).foldl (fun st c => st.triggerCtx p line at_ c) s
  (s.scannedBy p).foldl (fun st n => if n = 0xFFFF then st else st.scanTrigger n) s

end Sys2Proof.Machine
end

