-- ==== Sys2Proof/Machine/Calib.lean ====
section
/-! DEFINITION. Calibration (15_calibration_monitors.md, R331 to R346) and tile substitution (10_placer_contexts.md, R232 to
R236): commands, runs and their judgement, faults, scene tables; the steps of a substitution. -/

namespace Sys2Proof.Machine

/-! ## Commands (R333) -/

def calKind (v : Nat) : Nat := bitsOf v 31 28
def calScope (v : Nat) : Nat := bitsOf v 27 24

/-- The tiles in the scope of a command. -/
def State.calTargets (s : State) (v : Nat) : List Nat :=
  let u := v % 65536
  match calScope v with
  | 0 => [u]
  | 1 => (List.range 16).map (fun i => 16 * u + i)
  | 2 => (List.range 64).map (fun i => 64 * u + i)
  | _ => allTiles s.variant

/-- Whether the fields of a command lie in their ranges (check 1). -/
def calFields (v : Nat) : Bool :=
  let u := v % 65536
  (1 ≤ calKind v && calKind v ≤ 3) && calScope v ≤ 3 && bitsOf v 23 16 == 0 &&
    (match calScope v with | 0 => u < 256 | 1 => u < 16 | 2 => u < 4 | _ => u == 0)

/-- The class code of a scope's unit (R28). -/
def scopeClass (scope : Nat) : Nat := match scope with | 0 => 4 | 1 => 3 | _ => 2

/-- Whether a tile takes part in a substitution, as the one replaced or as the substitute. -/
def State.swapping (s : State) (n : Nat) : Bool := s.swaps.any (fun w =>
  w.step < 7 && ((s.calMembers w.old).contains n || (w.spare != 0xFFFF && (s.calMembers w.spare).contains n)))

/-- Whether a reload runs in the sector of a quadrant, up to its release (R317, R319). -/
def State.reloading (s : State) (q : Nat) : Bool :=
  match s.reload with | some r => r.sector == q && r.step ≤ 7 | none => false

/-- The checks of a calibration command, in order (R333). -/
def guardCal (s : State) (v : Nat) : Res Unit := do
  need (calFields v) aRange 0
  need ((s.calTargets v).all (fun n => n < tileCount s.variant)) aAbsent (scopeClass (calScope v) * 65536 + v % 65536)
  needMode s [mRun, mHold]
  let ns := (s.calTargets v).flatMap s.calMembers
  need (!(ns.any (fun n => (s.tile n).cal.kind != 0 || s.swapping n || s.reloading (n / 64)))) aBusy 0xFF
  match ns.find? (fun n => s.factoryDie (n / 128)) with
  | some n => .error ⟨aUntested, s.seqWords.getD (n / 128) 0⟩
  | none => .ok ()
  need (s.obj K.calInvarState == 0) aFault 757
  need (s.obj K.timeRefclkState != 1) aFault 749

/-- Whether a tile takes part in a command of a kind. -/
def State.calTakesPart (s : State) (kind n : Nat) : Bool :=
  if kind = 1 then isOn (s.obj (K.tileStatus n))
  else (s.tileCtxs (s.calLeader n)).any (fun c => s.ctxState c == cFlowing || s.ctxState c == cPrimed)

/-- A tile joins the queue (step 1 of R336). -/
def State.queueCal (s : State) (n kind purpose : Nat) : State :=
  (s.setCal n { Cal.none_ with kind := kind, purpose := purpose }).set (calResultKey kind n) 1

/-! ## Places and runs (R336, R337) -/

/-- Places of a quadrant that are taken. -/
def State.placesTaken (s : State) (q : Nat) : Nat :=
  (s.calTiles.filter (fun n => n / 64 == q && (s.tile n).cal.step ≥ 1)).length

/-- Whether the scene is ready (R343). -/
def State.sceneReady (s : State) : Bool :=
  s.obj K.calSceneReady == 1 ||
    (s.obj K.calScenePin < 96 && ofBool (s.padIn (s.obj K.calScenePin)) == s.obj K.calSceneLevel)

/-- Take up a place: step 2, and step 3 at once where no context is FLOWING. -/
def State.takePlace (s : State) (n : Nat) : State :=
  ((s.calMembers n).foldl (fun st m => st.modCal m (fun x => { x with step := 1 })) s).tryBegin n

/-- Queued tiles take free places in ascending order; internal ones not before the ladder trace of their command ends. -/
def State.fillPlaces (s : State) : List Nat → State
  | [] => s
  | n :: ns =>
    let x := (s.tile n).cal
    let size := (s.calMembers n).length
    if x.kind ≠ 0 && x.step = 0 && s.calLeader n = n && !(s.obj K.calState = 1 && x.purpose = 0 && x.kind = 1) &&
        s.placesTaken (n / 64) + size ≤ 16 then (s.takePlace n).fillPlaces ns
    else s.fillPlaces ns

/-- Fill the places, and show it. -/
def State.pumpCal (s : State) : State := (s.fillPlaces s.calTiles).showCal

/-- CAL_INTERNAL, CAL_DARK, CAL_FLAT (R333): an accepted command. -/
def xCalCommand (v : Nat) (s : State) : State :=
  let ns := (s.calTargets v).flatMap s.calMembers
  let s := ((s.set K.calLastCommand v).set K.calLastPass 0).set K.calLastFail 0
  let s := ns.foldl (fun st n =>
    if st.calTakesPart (calKind v) n then (if (st.tile n).cal.kind = 0 then st.queueCal n (calKind v) 0 else st)
    else st.set (calResultKey (calKind v) n) 5) s
  let s := if calKind v = 1 && calScope v = 3 then s.set K.calState 1 else s
  s.pumpCal

/-- LADDER_TRACE_END (R332). -/
def xLadderEnd (ok : Bool) (s : State) : State :=
  if s.obj K.calState ≠ 1 then s
  else
    let s := ((s.set K.calLadder (if ok then 1 else 2)).set K.calLadderLast s.now).set K.calState 0
    if ok then s.pumpCal
    else
      let ns := s.calTiles.filter (fun n => (s.tile n).cal.kind == 1 && (s.tile n).cal.step == 0 && (s.tile n).cal.purpose == 0)
      ((ns.foldl (fun st n => (st.setCal n .none_).set (K.tileCalResult n) 5) s).raise 757 0).pumpCal

/-! ## Judgement of internal calibration (R334) -/

/-- |a − b| ≤ t × k, with a tolerance t given as binary32 bits. -/
def within (a b : Int) (tol k : Nat) : Bool := (a - b).natAbs * f32Den ≤ f32Mag tol * k

/-- Every pair of two lists lies within a distance, and the lists are equally long. -/
def allClose (a b : List Int) (d : Nat) : Bool :=
  a.length == b.length && (a.zip b).all (fun p => (p.1 - p.2).natAbs ≤ d)

/-- Whether two runs agree (R334): offsets and linearity in 1/1,000 LSB, gains in ppm, phase and D_ana in fs, comparators in
µV (DESIGN CHOICE, log entry 45). -/
def State.runsAgree (s : State) (a b : CalRun) : Bool :=
  (a.offsets.length == b.offsets.length && (a.offsets.zip b.offsets).all (fun p => within p.1 p.2 (s.obj K.calTolOffset) 1000)) &&
  (a.gains.length == b.gains.length && (a.gains.zip b.gains).all (fun p => within p.1 p.2 (s.obj K.calTolGain) 10000)) &&
  allClose a.linearity b.linearity 250 &&
  (a.f0.length == b.f0.length && (a.f0.zip b.f0).all (fun p => ((p.1 : Int) - p.2).natAbs * 1000 ≤ 5 * p.1)) &&
  (a.phase - b.phase).natAbs ≤ 1000 && allClose a.dana b.dana 5000 &&
  (match a.ilv, b.ilv with
   | some x, some y => (x.1 - y.1).natAbs ≤ 100 && (x.2.1 - y.2.1).natAbs ≤ 200 && (x.2.2 - y.2.2).natAbs ≤ 16
   | none, none => true
   | _, _ => false) &&
  allClose a.monitors b.monitors 1000

/-- Every number of a list is at most a bound in magnitude. -/
def allWithin (a : List Int) (d : Nat) : Bool := a.all (fun x => x.natAbs ≤ d)

/-- Whether a run's corrections lie within the limits of R334 (DESIGN CHOICE, log entry 45). -/
def State.runHolds (s : State) (n : Nat) (r : CalRun) : Bool :=
  let fs := s.fsOf n
  let f0 := fracOfF32 (s.obj (K.tileBqF0Real n))
  allWithin r.offsets (20 * 2 ^ codeBits (s.adcMode n)) && allWithin r.gains 30000 && allWithin r.linearity 8000 &&
  (s.bqType n == 0 || r.f0.all (fun f => 9 * f0.num ≤ 10 * f * f0.den && 10 * f * f0.den ≤ 11 * f0.num)) &&
  r.phase.natAbs * 1024 * fs.num ≤ 64 * 10 ^ 15 * fs.den &&
  (r.dana.zipIdx.all (fun d =>
    let m := s.nominalDana n d.2
    d.1 ≥ 0 && 7 * m.num * 10 ^ 15 ≤ 10 * d.1.toNat * m.den && 10 * d.1.toNat * m.den ≤ 13 * m.num * 10 ^ 15)) &&
  (match r.ilv with | some x => x.2.2.natAbs ≤ 4096 | none => true) && allWithin r.monitors 15000

/-- The mean of the D_ana of two runs in 2^-16 ns. -/
def meanDana (a b : List Int) : List Int := (a.zip b).map (fun p => roundHalfEven ((p.1 + p.2) * 65536) 2000000)

/-- The mean of two non-negative binary32 values. -/
def meanF32 (a b : Nat) : Nat := (Frac.div (Frac.add (fracOfF32 a) (fracOfF32 b)) ⟨2, 1⟩).f32

/-- The interleave corrections of a pair from two runs: offset in word LSB, gain, skew in 8 fs steps (R145). -/
def ilvOf (a b : Int × Int × Int) : Int × Nat × Int :=
  (roundHalfEven ((a.1 + b.1) * 8) 2000, f32OfIntRat (2000000 + a.2.1 + b.2.1) 2000000, roundHalfEven (a.2.2 + b.2.2) 16)

/-- The sample-phase correction of a time in fs: units of 1/1024 of the sample period (R334). -/
def State.phaseUnits (s : State) (n : Nat) (fs : Int) : Int :=
  roundHalfEven (fs * 1024 * (s.fsOf n).num) (1000000000000000 * (s.fsOf n).den)

/-- The means of two lists of integers, element by element. -/
def meanInts (a b : List Int) : List Int := (a.zip b).map (fun p => roundHalfEven (p.1 + p.2) 2)

/-- The corrections that two runs put into force: their means (R334), the phase in units of 1/1024 of the sample period. -/
def State.meanRun (s : State) (n : Nat) (a b : CalRun) : CalRun :=
  { offsets := meanInts a.offsets b.offsets, gains := meanInts a.gains b.gains, linearity := meanInts a.linearity b.linearity
    f0 := (a.f0.zip b.f0).map (fun p => (p.1 + p.2) / 2), phase := s.phaseUnits n (roundHalfEven (a.phase + b.phase) 2)
    dana := meanInts a.dana b.dana, ilv := b.ilv, monitors := meanInts a.monitors b.monitors
    nMeas := meanF32 a.nMeas b.nMeas, jAp := meanF32 a.jAp b.jAp }

/-- x_old + (x_new − x_old) × i ÷ g (R340) (DESIGN CHOICE, log entry 46). -/
def rampTo (i g : Nat) (a b : Int) : Int := a + roundHalfEven ((b - a) * i) g
def rampList (i g : Nat) (a b : List Int) : List Int := b.zipIdx.map (fun p => rampTo i g (a.getD p.2 p.1) p.1)

/-- The corrections in force on a tile for a context (R340): D_ana and the comparators' offsets have no ramp (R340, R352), nor have
the pair's (R145). -/
def State.tileCorrections (s : State) (n c : Nat) : Option CalRun := (s.tile n).corr.map (fun p =>
  let g := s.rampShare n c (s.tile n).calRamp
  { p.2 with offsets := rampList g.1 g.2 p.1.offsets p.2.offsets, gains := rampList g.1 g.2 p.1.gains p.2.gains
             linearity := rampList g.1 g.2 p.1.linearity p.2.linearity, phase := rampTo g.1 g.2 p.1.phase p.2.phase
             f0 := (rampList g.1 g.2 (p.1.f0.map Int.ofNat) (p.2.f0.map Int.ofNat)).map Int.toNat })

/-- The corrections of a PASS come into force for one tile (R340, R341): in full in PREPARE, on a substitute, and on a tile
that has written no line since it was placed; else by a ramp from the values in force (R338). -/
def State.passTile (s : State) (n : Nat) (a b : CalRun) : State :=
  let x := s.tile n
  let g := s.obj (K.tileCalRampLines n)
  let ramp := x.cal.purpose == 0 && x.wrote
  let new := s.meanRun n a b
  let old := (s.tileCorrections n ((s.tileCtxs (s.calLeader n)).headD 0xFFFF)).getD new
  let s := s.modTile n (fun t => { t with
    danaNew := meanDana a.dana b.dana, corr := some (old, new), calRamp := if ramp then s.newRamp n else .none_, nCal := meanF32 a.nMeas b.nMeas, tCal := s.kelvin n,
    jAp := meanF32 a.jAp b.jAp, calFor := (s.adcMode n, s.obj (K.tileAdcCs n), s.obj (K.tileAdcDiv n)) })
  ((s.set (K.tileCalRampLeft n) (if ramp then g else 0)).set (K.tileCalValid n) 1).count (K.tileCalPasses n) 32 1

/-- A pair's estimator starts from the calibrated corrections (R145) (DESIGN CHOICE, log entry 45). -/
def State.passPair (s : State) (l : Nat) (a b : CalRun) : State :=
  match a.ilv, b.ilv with
  | some x, some y =>
    let v := ilvOf x y
    ((s.modTile l (fun t => { t with ilvWords := 0, ilvQuiet := 0, ilvCal := v })).setIlv l v.1 v.2.1 v.2.2).set (K.tileIlvState l) 1
  | _, _ => s

/-- The selectors of a tile go to the buses of its contexts (R126); a scanning tile enters its present slot (R130). -/
def State.joinBuses (s : State) (n : Nat) (cs : List Nat) : State :=
  cs.foldl (fun st c =>
    if st.scans c then
      (if st.scanSlot c ≠ (st.tile n).slot then st
       else if st.onTile n c then st.enterSlot n (st.scanSlot c) else st.joinSel n 0 (busOf (st.padOf c)))
    else st.joinSel n (if st.obj (K.ctxHalf c) = 1 then 1 else 0) (busOf (st.padOf c))) s

/-- Step 8 of R336 for one tile: its calibration is over; after an internal one the selectors go back, the monitors resume, and the
estimator of a pair whose corrections hold goes on (R145). -/
def State.endRuns (s : State) (n : Nat) (cs : List Nat) (inner : Bool) : State :=
  let s := s.setCal n .none_
  if inner then ((s.joinBuses n cs).holdMonitors n false).acquire n else s

/-- Whether a pad's bus that contexts read is CONTENDED. -/
def State.busesContended (s : State) (cs : List Nat) : Bool := cs.any (fun c => s.obj (K.tilePadBus (s.padOf c)) == 3)

/-- The contexts that a calibrating tile reads for: its own, or those of the tile that it is to replace. -/
def State.calCtxs (s : State) (n : Nat) : List Nat :=
  match s.swaps.find? (fun w => w.spare == n) with
  | some w => if w.step < 7 then s.tileCtxs w.old else s.tileCtxs n
  | none => s.tileCtxs n

/-- Steps 7 and 8 of R336: the result is recorded, and the calibration of the tile ends. Step 8 waits while a bus is
CONTENDED (R338), in step 4 of the record. -/
def State.endCal (s : State) (l result : Nat) : State :=
  let k := (s.tile l).cal.kind
  let cs := s.calCtxs l
  let wait := k == 1 && s.busesContended cs
  let s := (s.calMembers l).foldl (fun st m =>
    let st := st.set (calResultKey k m) result
    let st := st.set (K.tileStatus m) (withBit (st.obj (K.tileStatus m)) 5 false)
    if wait then st.modCal m (fun x => { x with step := 4 })
    else st.endRuns m cs (k == 1)) s
  s.pumpCal

/-- Step 8 for a tile that waited for its bus. -/
def State.resumeCal (s : State) (l : Nat) : State :=
  if (s.tile l).cal.step = 4 && !s.busesContended (s.calCtxs l) then
    let cs := s.calCtxs l
    ((s.calMembers l).foldl (fun st m => st.endRuns m cs true) s).pumpCal
  else s

/-- RUNNING and QUEUED tiles read ABORTED, with selectors back on their buses and corrections unchanged (R338). -/
def State.abortCal (s : State) (p : Nat → Bool) : State :=
  let ns := s.calTiles.filter (fun n => p n && (s.tile n).cal.step < 4)
  let s := ns.foldl (fun st n =>
    let x := (st.tile n).cal
    let st := st.set (calResultKey x.kind n) 6
    let st := st.set (K.tileStatus n) (withBit (st.obj (K.tileStatus n)) 5 false)
    st.endRuns n (st.calCtxs (st.calLeader n)) (x.kind == 1 && decide (2 ≤ x.step))) s
  s.pumpCal

/-! ## Substitution (R232 to R236) -/

/-- Whether contexts of a list are pinned to their tile. -/
def State.pinned (s : State) (cs : List Nat) : Bool := cs.any (fun c => (s.nodeOf c).pinTile != 0xFFFF)

/-- Whether a tile holds a context, is taken by a substitution, or has still to stop after one. -/
def State.tileTaken (s : State) (t : Nat) : Bool :=
  s.ringed.any (fun c => s.ctxState c ≥ cPlaced && (s.tilesOf c).contains t) ||
    s.swaps.any (fun w => (s.calMembers w.old).contains t || (w.spare != 0xFFFF && (s.calMembers w.spare).contains t)) ||
    enState (s.obj (K.tileStatus t)) == 3

/-- The first eligible spare of a pad in the preference order of R228, within its column pair, or of a pair its even tile (R5, R232)
(DEDUCED, log entry 38). -/
def State.chooseSpare (s : State) (pad : Nat) (paired : Bool) : Option Nat :=
  let order := (pad :: successors s 32 pad ++ preference pad).filter (fun t => t / 32 == pad / 32)
  if paired then
    (order.map (fun t => t / 2 * 2)).find? (fun t => s.eligiblePair s.tileTaken true t)
  else order.find? (fun t => s.eligible s.tileTaken true t)

/-- Whether a named tile may be the substitute of a pad's contexts (R232, R236). -/
def State.spareFits (s : State) (pad t : Nat) (paired : Bool) : Bool :=
  t / 32 == pad / 32 &&
    (if paired then t % 2 == 0 && s.eligiblePair s.tileTaken true t else s.eligible s.tileTaken true t)

/-- How many substitutions run. -/
def State.showSwaps (s : State) : State := s.set K.placerSwapsActive (min 64 s.swaps.length)

def State.setSwap (s : State) (old : Nat) (f : Swap → Swap) : State :=
  { s with swaps := s.swaps.map (fun w => if w.old = old then f w else w) }

def State.putSwaps (s : State) (ws : List Swap) : State := { s with swaps := ws }
def State.dropSwap (s : State) (old : Nat) : State := (s.putSwaps (s.swaps.filter (fun w => w.old != old))).showSwaps

def State.swapOf (s : State) (old : Nat) : Option Swap := s.swaps.find? (fun w => w.old == old)

def State.setSwapState (s : State) (cs : List Nat) (v : Nat) : State := cs.foldl (fun st c => st.set (K.ctxSwapState c) v) s

/-- The monitor objects and the scene table that a substitute takes over (R345, R354). -/
def State.copyMonitors (s : State) (old new : Nat) : State :=
  let move := fun (st : State) (a b : Nat) => st.set b (st.obj a)
  let s := (List.range 2).foldl (fun st i =>
    [0x01, 0x02, 0x03, 0x04, 0x05, 0x06, 0x08, 0x09, 0x0A, 0x0B].foldl
      (fun st sub => move st (key (0x300C + 16 * old + i) sub) (key (0x300C + 16 * new + i) sub)) st) s
  let s := match s.blob (K.tileSceneTable old) with
    | some bs => s.setBlob (K.tileSceneTable new) bs
    | none => { s with blobs := Sp.erase s.blobs (K.tileSceneTable new) }
  move s (K.tileSceneEnable old) (K.tileSceneEnable new)

/-- The substitute's tile objects from the nodes of the contexts (step 2 of R233). -/
def State.writeSpare (s : State) (old spare : Nat) : State :=
  let cs := s.tileCtxs old
  let div := s.obj (K.tileAdcDiv old)
  let paired := s.adcMode old == 3
  cs.foldl (fun st c =>
    let ph := st.node (K.graphNodePhase c)
    let st := st.writeTile spare (st.obj (K.ctxHalf c)) c div ph
    if paired then st.writeTile (spare + 1) 0 c div (ph + 512) else st) s

/-- A substitution comes to its step 2: a spare is chosen and reserved. Without one the contexts are DEGRADED at their next
boundary, NO_SPARE at the first attempt and SPARE_FAILED after it. -/
def State.reserveSpare (s : State) (w : Swap) : State :=
  let cs := s.tileCtxs w.old
  let pad := cs.foldl (fun a c => min a (s.padOf c)) 255
  let paired := s.adcMode w.old == 3
  let pick := if w.asked ≠ 0xFFFF && w.tries = 0 then (if s.spareFits pad w.asked paired then some w.asked else none)
    else s.chooseSpare pad paired
  match pick with
  | some t =>
    let s := s.setSwap w.old (fun x => { x with spare := t, step := 2, tries := w.tries + 1 })
    let s := (cs.foldl (fun st c => st.set (K.ctxSwapTile c) t) s).setSwapState cs 1
    let s := s.writeSpare w.old t
    let ms := if paired then [(w.old, t), (w.old + 1, t + 1)] else [(w.old, t)]
    ms.foldl (fun st m => st.copyMonitors m.1 m.2) s
  | none =>
    let s := (s.dropSwap w.old).setSwapState cs 6
    let s := cs.foldl (fun st c => st.loseSource c (if w.tries = 0 then 1 else 2)) s
    s.raise 759 (cs.headD 0)

/-- Whether a substitution waits at step 2: sixteen run in its quadrant, or the quadrant's sector reloads (R233, R319). -/
def State.swapWaits (s : State) (old : Nat) : Bool :=
  decide ((s.swaps.filter (fun w => w.old / 64 == old / 64 && 0 < w.step && w.step < 7)).length ≥ 16) || s.reloading (old / 64)

/-- Substitutions that wait go on in the order of their failures. -/
def State.pumpSwapsFrom (s : State) : List Swap → State
  | [] => s
  | w :: ws => if w.step = 0 && !s.swapWaits w.old then (s.reserveSpare w).pumpSwapsFrom ws else s.pumpSwapsFrom ws

def State.pumpSwaps (s : State) : State := s.pumpSwapsFrom s.swaps

/-- A substitution begins for the contexts of a tile (step 1 of R233). -/
def State.beginSwap (s : State) (old asked : Nat) : State :=
  let cs := s.tileCtxs old
  let s := s.putSwaps (s.swaps ++ [⟨old, 0xFFFF, 0, 0, s.clock, asked⟩])
  let s := cs.foldl (fun st c => st.set (K.ctxSwapFrom c) (st.nextNumber c)) s
  ((s.setSwapState cs 1).showSwaps).pumpSwaps

/-- A spare stops and is released. -/
def State.releaseSpare (s : State) (t : Nat) : State :=
  if t = 0xFFFF then s
  else
    let ms := s.calMembers t
    let s := ms.foldl (fun st m => if (st.tile m).cal.kind = 0 then st else
      ((st.setCal m .none_).set (K.tileCalResult m) (if st.obj (K.tileCalResult m) < 3 then 6 else st.obj (K.tileCalResult m))).set
        (K.tileStatus m) (withBit (st.obj (K.tileStatus m)) 5 false)) s
    (ms.foldl (fun st m => if enState (st.obj (K.tileStatus m)) = 0 then st.tileOff m else st.stopTile m) s).pumpCal

/-- The spare of a substitution fails (R234): it is listed, and a further attempt begins where `placer.swap_attempts` allows. -/
def State.spareFails (s : State) (w : Swap) : State :=
  let ms := s.calMembers w.spare
  let s := (s.releaseSpare w.spare)
  let s := ms.foldl (fun st m => st.addDefect 4 m 5) s
  let s := s.setSwap w.old (fun x => { x with spare := 0xFFFF, step := 0 })
  if w.tries < s.obj K.placerSwapAttempts then s.pumpSwaps
  else
    let cs := s.tileCtxs w.old
    let s := (s.dropSwap w.old).setSwapState cs 6
    ((cs.foldl (fun st c => st.loseSource c 2) s).raise 759 (cs.headD 0)).pumpSwaps

/-- A substitution before its switch is abandoned (R234). -/
def State.abandonSwap (s : State) (w : Swap) : State :=
  if w.step ≥ 7 then s
  else ((s.releaseSpare w.spare).setSwapState (s.tileCtxs w.old) 7).dropSwap w.old

/-- SAFE, LOAD and STANDBY abandon every substitution. -/
def State.abandonSwaps (s : State) : State := s.swaps.foldl (fun st w => st.abandonSwap w) s

/-- A tile of contexts has failed (R232): substituted where the conditions hold, else its contexts lose their source. -/
def State.substitute (s : State) (l : Nat) : State :=
  let cs := (s.tileCtxs l)
  if cs.isEmpty || !([mRun, mHold].contains s.mode) || (s.swapOf l).isSome then s
  else if s.obj K.placerAutoSwap = 0 then cs.foldl (fun st c => st.loseSource c 4) s
  else if s.pinned cs then cs.foldl (fun st c => st.loseSource c 3) s
  else if (s.chooseSpare (cs.foldl (fun a c => min a (s.padOf c)) 255) (s.adcMode l == 3)).isNone then
    cs.foldl (fun st c => st.loseSource c 1) s
  else s.beginSwap l 0xFFFF

/-- A failed internal calibration of a working tile (R336, R232). -/
def State.calFails (s : State) (l : Nat) : State :=
  ((s.calMembers l).foldl (fun st m => st.addDefect 4 m 1) s).substitute l

/-! ## Events of an internal calibration -/

/-- After run 2: PASS or FAIL (R336 step 7) (DESIGN CHOICE, log entry 45). -/
def State.judgeCal (s : State) (l : Nat) (a b : CalRun) : State :=
  let x := (s.tile l).cal
  let ms := s.calMembers l
  let ok := !ms.any (fun m => (s.tile m).cal.spoiled) && s.runHolds l a && s.runHolds l b && s.runsAgree a b
  let s := ms.foldl (fun st m => st.set (K.tileCalLast m) st.now) s
  let tally := fun (st : State) (k : Nat) => if x.purpose = 0 then st.set k (min 256 (st.obj k + ms.length)) else st
  if ok then
    let s := tally ((ms.foldl (fun st m => st.passTile m a b) s).passPair l a b) K.calLastPass
    let s := s.endCal l 3
    match s.swaps.find? (fun w => w.spare == l && w.step == 4) with
    | some w => (s.setSwap w.old (fun y => { y with step := 5 })).setSwapState (s.tileCtxs w.old) 3
    | none => s
  else
    let s := tally (ms.foldl (fun st m => (st.count (K.tileCalFails m) 32 1).raiseTile m 1) s) K.calLastFail
    let s := s.endCal l 4
    match s.swaps.find? (fun w => w.spare == l && w.step == 4) with
    | some w => s.spareFails w
    | none => if x.purpose = 1 then ms.foldl (fun st m => st.addDefect 4 m 1) s else s.calFails l

/-- CAL_RUN_END (R336): the end of run 1 or of run 2 on a tile, or on the pair that it belongs to. -/
def xCalRunEnd (n : Nat) (r : CalRun) (s : State) : State :=
  let l := s.calLeader n
  let x := (s.tile l).cal
  if x.kind ≠ 1 then s
  else if x.step = 2 then (s.calMembers l).foldl (fun st m => st.modCal m (fun y => { y with step := 3, first := some r })) s
  else if x.step = 3 then
    match x.first with
    | some a => s.judgeCal l a r
    | none => s
  else s

/-- INVAR_CHECK (R331, R338). -/
def xInvarCheck (ppm : Int) (s : State) : State :=
  let s := (s.set K.calInvarDeviation (f32OfIntRat ppm 1)).count K.calInvarChecks 32 1
  let bad := decide (ppm.natAbs > s.obj K.calInvarLimit)
  let s := { s with invarBad := if bad then s.invarBad + 1 else 0, invarGood := if bad then 0 else s.invarGood + 1 }
  if bad && s.invarBad ≥ 3 && s.obj K.calInvarState = 0 then ((s.set K.calInvarState 1).raise 757 0).abortCal (fun n => (s.tile n).cal.kind == 1)
  else if !bad && s.invarGood ≥ 3 && s.obj K.calInvarState = 1 then s.set K.calInvarState 0
  else s

/-- TILE_FAULT (R339): latched, raised, listed; the line in which it fell is lost and the contexts lose their source; a
substitute takes over where one may. -/
def xTileFault (n bit : Nat) (s : State) : State :=
  let s := s.set (K.tileCalFault n) (withBit (s.obj (K.tileCalFault n)) bit true)
  let s := s.raiseTile n 3
  let l := s.calLeader n
  match s.swaps.find? (fun w => w.step < 7 && w.spare != 0xFFFF && (s.calMembers w.spare).contains n) with
  | some w => s.spareFails w
  | none =>
    let s := s.addDefect 4 n 2
    let s := if (s.tile l).cal.kind = 1 then s.modCal l (fun x => { x with spoiled := true }) else s
    let s := (s.tileCtxs l).foldl (fun st c => (st.loseLine c).loseSource c 5) s
    s.substitute l

/-- DEFECT_CLEAR also clears the latched faults of the tiles whose entries it removes (R226, R339). -/
def xDefectClearAll (s : State) : State :=
  let ts := s.defects.filter (fun d => d.cls == 4 && d.cause != 7 && d.cause != 3)
  xDefectClear (ts.foldl (fun st d => st.set (K.tileCalFault d.unit) 0) s)

/-! ## Steps of a substitution -/

/-- The spare starts its internal calibration (step 4 of R233) (DEDUCED, log entry 38). -/
def State.calibrateSpare (s : State) (t : Nat) : State :=
  let s := (s.calMembers t).foldl (fun st m => (st.queueCal m 1 2).beginRuns m) s
  s.showCal

/-- SUBSTITUTION_STEP_END (R233): the end of step 2, 3, 5 or 8 of the substitution of a tile; a step that the spare does not
pass counts as its failure (DEDUCED, log entry 38). -/
def xSubstStep (old : Nat) (ok : Bool) (s : State) : State :=
  match s.swapOf old with
  | none => s
  | some w =>
    let cs := s.tileCtxs old
    let next := fun (st : State) (k : Nat) => st.setSwap old (fun x => { x with step := k })
    if w.step = 0 || w.step = 4 || w.step = 6 then s
    else if !ok && w.step < 7 then s.spareFails w
    else match w.step with
      | 2 => next ((s.calMembers w.spare).foldl (fun st m => st.startTile m) s) 3
      | 3 =>
        let s := (s.calMembers w.spare).foldl (fun st m =>
          ((st.set (K.tileStatus m) (enEnd (st.obj (K.tileStatus m)))).tileOn m).joinBuses m cs) s
        (next (s.setSwapState cs 2) 4).calibrateSpare w.spare
      | 5 => next (s.setSwapState cs 4) 6
      | _ =>
        let ms := if s.adcMode w.spare = 3 then [old, old + 1] else [old]
        let s := ms.foldl (fun st m => (st.set (K.tileStatus m) (enByte (st.obj (K.tileStatus m)) eOff 0)).tileOff m) s
        (s.dropSwap old).pumpSwaps

/-- The exchange of pool codes between the monitors of two tiles; an unresolved substitute keeps the state that the old
monitor last resolved (R354). -/
def State.exchangePools (s : State) (old new : Nat) : State :=
  (List.range 2).foldl (fun st i =>
    let a := st.obj (K.tileMonPool old i)
    let b := st.obj (K.tileMonPool new i)
    let o := st.obj (K.tileMonState old i) % 4
    let kept := if o = 0 then (st.mon (2 * old + i)).kept else some (o == 2)
    let st := (st.set (K.tileMonPool old i) b).set (K.tileMonPool new i) a
    st.setMon (2 * new + i) { st.mon (2 * new + i) with kept := kept }) s

/-- SUBSTITUTION_SWITCH (R233 step 7): at the boundary, the contexts take their words from the substitute. It waits while the
pad's bus is CONTENDED and outside RUN (R234). -/
def xSubstSwitch (old : Nat) (s : State) : State :=
  match s.swapOf old with
  | none => s
  | some w =>
    let cs := s.tileCtxs old
    if w.step ≠ 6 || s.mode ≠ mRun || s.busesContended cs then s
    else
      let new := w.spare
      let paired := s.adcMode old == 3
      let s := cs.foldl (fun st c =>
        let before := (st.ctx c).cur
        let st := st.closeLineOf c
        match before with
        | some l => if l.lossy && (st.ctx c).lossDue ≠ 0 && st.ctxState c = cFlowing then st.degrade c l.line (some l) else st
        | none => st) s
      let s := s.writeSpare old new
      let ms := if paired then [(old, new), (old + 1, new + 1)] else [(old, new)]
      let s := ms.foldl (fun st m => (st.exchangePools m.1 m.2).setSuccessor 4 m.1 m.2) s
      let s := ms.foldl (fun st m =>
        let st := ((st.setSel m.1 0 0xFF).setSel m.1 1 0xFF).stopTile m.1
        let st := st.set (K.tileStatus m.2) (withBit (st.obj (K.tileStatus m.2)) 7 true)
        (st.modTile m.2 (fun x => { x with wrote := true })).set (K.tileRouteContexts m.2) (st.obj (K.tileRouteContexts m.1))) s
      let ms_ := (Frac.div ⟨s.clock - w.start, 1⟩ ⟨perMs, 1⟩).f32
      let s := cs.foldl (fun st c =>
        let st := ((st.set (K.ctxTile c) new).set (K.ctxSwapLine c) (st.nextNumber c)).set (K.ctxSwapMs c) ms_
        let st := st.set (K.ctxSwapState c) 5
        let st := st.modCtx c (fun x =>
          { x with swapped := st.obj K.placerSwapLines, served := x.served ++ [(st.nextNumber c, old)] })
        if st.ctxState c = cDegraded || (st.ctx c).lossDue ≠ 0 || (st.ctx c).lostSrc ≠ 0 then st.returnSource c else st) s
      let plan := s.plan.tiles.map (fun e => if cs.contains e.1 then (e.1, new, e.2.2) else e)
      let s := { s with plan := { s.plan with tiles := plan } }
      s.setSwap old (fun x => { x with step := 8 })

/-- SWAPPED_COUNT_EXPIRY (R233 step 9). -/
def xSwappedExpiry (c : Nat) (s : State) : State :=
  if s.obj (K.ctxSwapState c) = 5 && (s.ctx c).swapped = 0 then
    ((s.set (K.ctxSwapState c) 0).count (K.ctxSwaps c) 32 1).raise 759 c
  else s

/-- The checks of `ctx[c].retry` and `ctx[c].swap` (R236) (DEDUCED, log entry 38). -/
def guardSwap (s : State) (c : Nat) (tile : Option Nat) : Res Unit := do
  needMode s [mRun, mHold]
  let st := s.ctxState c
  let l := s.obj (K.ctxTile c)
  let lost := st == cDegraded || (st == cPrimed && (s.ctx c).lostSrc != 0)
  need (l != 0xFFFF && (lost || (tile.isSome && st == cFlowing))) aMode st
  let cs := s.tileCtxs l
  need (!s.pinned cs) aConflict (0xA * 65536 + c)
  need ((s.swapOf l).isNone) aBusy 0xFF
  let pad := cs.foldl (fun a d => min a (s.padOf d)) 255
  match tile with
  | some t => need (s.spareFits pad t (s.adcMode l == 3)) aConflict (4 * 65536 + t)
  | none => need (s.chooseSpare pad (s.adcMode l == 3)).isSome aConflict (4 * 65536 + l)

/-- CTX_RETRY and CTX_SWAP (R236): steps 2 to 9 of R233 with a fresh attempt count. -/
def xCtxSwap (c asked : Nat) (s : State) : State := s.beginSwap (s.obj (K.ctxTile c)) asked

/-! ## Piece moves (R235) -/

def State.putMoves (s : State) (ms : List Move) : State := { s with moves := ms }

/-- The sector that holds a piece, and the contexts it reads. -/
def State.sectorOf (s : State) (j : Nat) : Nat := s.obj (K.graphPiecePlacedSector j)
def State.pieceInputs (s : State) (j : Nat) : List Nat := inputList (s.force (K.graphPieceInputs j))

/-- Readers of a unit leave the rings that a piece reads. -/
def State.leaveRings (s : State) (j u : Nat) : State :=
  (s.pieceInputs j).foldl (fun t c =>
    let r := t.ring c false
    t.setRing c false { r with readers := r.readers.filter (fun x => !(x.kind == .cell && x.unit == u)) }) s

/-- Readers of a unit join them at the next line. -/
def State.joinRings (s : State) (j u : Nat) : State :=
  (s.pieceInputs j).foldl (fun t c =>
    let r := t.ring c false
    let next := match r.latest with | some k => k + 1 | none => 0
    t.setRing c false { r with readers := r.readers ++ [⟨.cell, u, next⟩] }) (s.leaveRings j u)

/-- The copy of a piece that moves is given up: its frames, its readers (R235). -/
def State.dropCopy (s : State) (m : Move) : State :=
  if m.step < 2 then s
  else
    { s.leaveRings m.piece (256 + m.piece) with
      fabs := Sp.erase s.fabs (256 + m.piece)
      frames := s.frames.filter (fun f => !(f.1 == m.piece && f.2.2.1 == m.clusters && f.2.2.2 == m.ports)) }

/-- Every move ends. -/
def State.dropMoves (s : State) : State := (s.moves.foldl (fun st m => st.dropCopy m) s).putMoves []

/-- Whether another move runs in the sector of a piece. -/
def State.sectorMoving (s : State) (q : Nat) : Bool :=
  s.moves.any (fun m => 0 < m.step && s.obj (K.graphPiecePlacedSector m.piece) == q)

/-- The pieces as they stand in the placement. -/
def State.piecePlaces (s : State) : List (Nat × Nat × List Nat × Nat) :=
  s.plan.pieces ++ s.moves.filterMap (fun m =>
    if m.step = 0 then none else some (m.piece, s.obj (K.graphPiecePlacedSector m.piece), m.clusters, m.ports))

/-- New places for a piece in its own sector, where free clusters and port cells are enough. -/
def State.movePlaces (s : State) (j : Nat) : Option (List Nat × Nat) :=
  let ps := s.graphPieces
  let p := pieceBy s.force j
  let q := s.obj (K.graphPiecePlacedSector j)
  let free := (clustersFree s.piecePlaces q).filter (fun x => !s.badCluster q x)
  match choosePorts ps s.piecePlaces q p.ports with
  | some a => if free.length ≥ p.clusters then some (free.take p.clusters, a) else none
  | none => none

/-- Moves that wait begin, one at a time in a sector. -/
def State.pumpMovesFrom (s : State) : List Move → State
  | [] => s
  | m :: ms =>
    if m.step = 0 && s.reload.isNone && !s.sectorMoving (s.obj (K.graphPiecePlacedSector m.piece)) then
      match s.movePlaces m.piece with
      | some (cl, a) =>
        (s.putMoves (s.moves.map (fun x => if x.piece = m.piece then { x with clusters := cl, ports := a, step := 1 } else x))).pumpMovesFrom ms
      | none => (s.putMoves (s.moves.filter (fun x => x.piece != m.piece))).pumpMovesFrom ms
    else s.pumpMovesFrom ms

def State.pumpMoves (s : State) : State := s.pumpMovesFrom s.moves

/-- The contexts that a piece writes. -/
def State.pieceOutputs (s : State) (j : Nat) : List Nat :=
  s.ringed.filter (fun c => s.node (K.graphNodeSource c) == 2 && s.obj (K.ctxPiece c) / 256 == j)

/-- Whether a piece may move (R235): not pinned, a warmup below 0xFFFF, moves allowed, room in its sector, none under way. -/
def State.mayMove (s : State) (j : Nat) : Bool :=
  let p := pieceBy s.force j
  [mRun, mHold].contains s.mode && p.sector == 0xFF && p.warmup != 0xFFFF && s.obj K.placerAutoSwap == 1 &&
    (s.movePlaces j).isSome && !s.moves.any (fun m => m.piece == j)
/-- DESIGN CHOICE, log entry 39. -/
def State.queueMove (s : State) (j : Nat) : State := (s.putMoves (s.moves ++ [⟨j, [], 0, 0, false⟩])).pumpMoves

/-- An essential upset of a cluster of a sector has been corrected (R235, R324): the cluster is listed, the contexts fed by the
piece record the line, and the piece moves where it may. An upset in a copy restarts its move once. -/
def State.essentialUpset (s : State) (q x : Nat) : State :=
  let s := s.addDefect 6 (128 * q + x) 4
  match s.plan.pieces.find? (fun e => e.2.1 == q && e.2.2.1.contains x) with
  | none =>
    match s.moves.find? (fun m => m.step ≥ 1 && s.obj (K.graphPiecePlacedSector m.piece) == q && m.clusters.contains x) with
    | none => s
    | some m =>
      let s := s.dropCopy m
      if m.again then (s.putMoves (s.moves.filter (fun y => y.piece != m.piece))).pumpMoves
      else (s.putMoves (s.moves.map (fun y => if y.piece = m.piece then { y with step := 0, again := true } else y))).pumpMoves
  | some e =>
    let j := e.1
    let s := (s.pieceOutputs j).foldl (fun st c => st.set (K.ctxUpsetLine c) (st.nextNumber c)) s
    if s.mayMove j then s.queueMove j else s

/-! ## Scene calibration (R343 to R345) -/

/-- The stored scene table of a tile. -/
def State.storedTable (s : State) (n : Nat) : List Byte := (s.blob (K.tileSceneTable n)).getD []

/-- A table as the ramp in progress gives it (R338, R340); rounded where it falls between codes. -/
def State.tableNow (s : State) (n : Nat) : List Byte :=
  let x := s.tile n
  let new := s.sceneTable n
  if !x.sceneRamp.on then new
  else
    let old := x.sceneOld.getD []
    let (i, g) := s.rampShare n ((s.tileCtxs n).headD 0xFFFF) x.sceneRamp
    (List.range (max old.length new.length / 4)).flatMap (fun e =>
      let a := sceneEntry old e
      let b := sceneEntry new e
      toLE 2 (unsigned 16 (roundHalfEven (a.1 * g + (b.1 - a.1) * i) g)) ++
        toLE 2 (roundHalfEven (a.2 * g + (b.2 - a.2) * i) g).toNat)

/-- A scene ramp begins from a table (R345). -/
def State.beginSceneRamp (s : State) (n : Nat) (old : List Byte) : State :=
  s.modTile n (fun x => { x with sceneOld := some old, sceneRamp := s.newRamp n })

/-- SCENE_ENABLE_WRITE (R345). -/
def xSceneEnable (n v : Nat) (s : State) : State :=
  if s.obj (K.tileSceneEnable n) = v then s
  else
    let old := s.tableNow n
    (s.poke (K.tileSceneEnable n) v).beginSceneRamp n old

/-- The scene table is replaced (R345). -/
def State.putTable (s : State) (n : Nat) (bs : List Byte) : State :=
  let old := s.tableNow n
  let s := s.setBlob (K.tileSceneTable n) bs
  if s.obj (K.tileSceneEnable n) = 1 then s.beginSceneRamp n old else s

/-- A block write of the table while a scene calibration runs ends with BUSY (R345). -/
def guardTable (s : State) (n : Nat) : Res Unit :=
  need (!((s.tile n).cal.kind ≥ 2)) aBusy 0xFF

/-- The entry of the table that number i of a run's means belongs to (R344): pixels in order, halves, or scan slots. -/
def sceneWindow (s : State) (n kind : Nat) : Int × Int :=
  if kind = 2 then (signed 16 (s.obj (K.tileSceneDarkLow n)), signed 16 (s.obj (K.tileSceneDarkHigh n)))
  else (signed 16 (s.obj (K.tileSceneFlatLow n)), signed 16 (s.obj (K.tileSceneFlatHigh n)))

/-- round(target × 16,384 ÷ (m − dark)) with m as a sum of words and their number; `none` where it is not positive or too large. -/
def flatGain (target : Nat) (m : Int × Nat) (dark : Int) : Option Nat :=
  let d := m.1 - m.2 * dark
  if d ≤ 0 then none
  else
    let g := (roundNearest (target * 16384 * m.2 : Nat) d.toNat).toNat
    if g > 65535 then none else some g

/-- The new value of one entry from the words of two runs, or `none` where the entry is bad (R344); one that a run gave no word is
(DESIGN CHOICE, log entry 46). -/
def State.sceneValue (s : State) (n kind e : Nat) (m1 m2 : Int × Nat) : Option (Int × Int) :=
  let w := sceneWindow s n kind
  let old := sceneEntry (s.storedTable n) e
  let inside := fun (m : Int × Nat) => decide (0 < m.2) && decide (w.1 * m.2 ≤ m.1) && decide (m.1 ≤ w.2 * m.2)
  if !(inside m1 && inside m2) then none
  else if kind = 2 then
    if within (m1.1 * m2.2) (m2.1 * m1.2) (s.obj (K.tileSceneTolDark n)) (m1.2 * m2.2) then
      some (roundHalfEven (m1.1 * m2.2 + m2.1 * m1.2) (2 * m1.2 * m2.2), old.2) else none
  else
    let t := s.obj (K.tileSceneFlatTarget n)
    match flatGain t m1 old.1, flatGain t m2 old.1 with
    | some a, some b =>
      if ((a : Int) - b).natAbs * 100 * f32Den ≤ f32Mag (s.obj (K.tileSceneTolFlat n)) * a then
        some (old.1, roundHalfEven (a + b : Nat) 2)
      else none
    | _, _ => none

/-- The entries of two runs, judged. -/
def State.sceneValues (s : State) (n kind : Nat) (a b : List (Nat × Int × Nat)) : List (Nat × Option (Int × Int)) :=
  ((a.map (·.1) ++ b.map (·.1)).eraseDups).map (fun e =>
    (e, s.sceneValue n kind e (Sp.get (fun _ => (0, 0)) a e) (Sp.get (fun _ => (0, 0)) b e)))

/-- A table with the good entries replaced. -/
def mergeTable (old : List Byte) (vs : List (Nat × Option (Int × Int))) : List Byte :=
  let n := vs.foldl (fun a v => max a (v.1 + 1)) (old.length / 4)
  (List.range n).flatMap (fun e =>
    let x := match vs.find? (fun v => v.1 == e) with
      | some (_, some v) => v
      | _ => sceneEntry old e
    toLE 2 (unsigned 16 x.1) ++ toLE 2 x.2.toNat)

/-- The words of a run: those of the lines in RUN, and what the lines that it took by itself in HOLD gave, by entry (R343). -/
def Cal.words (x : Cal) (held : List (Int × Nat)) : List (Nat × Int × Nat) :=
  held.zipIdx.foldl (fun m h =>
    let a := Sp.get (fun _ => ((0, 0) : Int × Nat)) m h.2
    Sp.put (fun _ => (0, 0)) m h.2 (a.1 + h.1.1, a.2 + h.1.2)) x.sums

/-- A scene calibration of a tile ends with its result, counted for the command (step 7 of R336, R343, R344). -/
def State.endScene (s : State) (l : Nat) (pass : Bool) : State :=
  let ms := s.calMembers l
  let s := ms.foldl (fun st m => st.set (K.tileSceneLast m) st.now) s
  let tally := fun (st : State) (k : Nat) => st.set k (min 256 (st.obj k + ms.length))
  if pass then (tally s K.calLastPass).endCal l 3
  else (tally (ms.foldl (fun st m => st.raiseTile m 2) s) K.calLastFail).endCal l 4

/-- SCENE_RUN_END (R343, R344): the end of a run; after run 2 the table is judged. -/
def xSceneRunEnd (n : Nat) (held : List (Int × Nat)) (s : State) : State :=
  let l := s.calLeader n
  let x := (s.tile l).cal
  if x.kind < 2 then s
  else if x.step = 2 then
    (s.calMembers l).foldl (fun st m => st.modCal m (fun y => { y with step := 3, run1 := x.words held, sums := [], lines := [] })) s
  else if x.step = 3 then
    let vs := s.sceneValues l x.kind x.run1 (x.words held)
    let bad := (vs.filter (fun v => v.2.isNone)).length
    let ms := s.calMembers l
    let s := ms.foldl (fun st m => st.set (K.tileSceneBad m) (min 16384 bad)) s
    if !x.spoiled && bad ≤ s.obj (K.tileSceneBadMax l) then
      (ms.foldl (fun st m => st.putTable m (mergeTable (st.storedTable m) vs)) s).endScene l true
    else s.endScene l false
  else s

/-- A scene that is not ready at the start of run 1, or stops being ready before run 2 ends, fails the tiles that measure it (R343): FAIL is
recorded in step 7 (DESIGN CHOICE, log entry 46). -/
def State.watchScene (s : State) : State :=
  if s.sceneReady then s
  else s.calTiles.foldl (fun st n => if (st.tile n).cal.kind ≥ 2 && (st.tile n).cal.step ≥ 2 && !(st.tile n).cal.spoiled then
    st.modCal n (fun x => { x with spoiled := true }) else st) s

/-! ## Bus contention (R124, R125) -/

/-- The contexts whose samples a selector takes: those of its half. -/
def State.selCtxs (s : State) (t half : Nat) : List Nat :=
  (s.tileCtxs t).filter (fun c => (s.obj (K.ctxHalf c) == 1) == (half == 1))

/-- The pads whose buses a disturbed bus affects: of a selector those it joined and the one that it serves (R124). -/
def State.busPads (s : State) : Bus → List Nat
  | .pad n => [n]
  | .test _ => []
  | .selector t half pads =>
    let own := ((s.selCtxs t half).filter (fun c => !s.scans c || s.scanSlot c == (s.tile t).slot)).map s.padOf
    (own ++ pads).eraseDups

/-- The third contention of a pad within 1 s: its drivers stay open and the pad is listed (R125) (DEDUCED, log entry 35). -/
def State.contendPad (s : State) (n : Nat) : State :=
  let recent := (s.tile n).contended.filter (fun t => s.clock < t + perS) ++ [s.clock]
  let s := s.modTile n (fun x => { x with contended := recent })
  let s := ((s.set (K.tilePadBus n) 3).count (K.tilePadContentions n) 32 1).raiseTile n 4
  let s := (s.set (K.tilePadEntry n) 0).set (K.tilePadTest n) 0
  let third := decide (recent.length ≥ 3)
  let cs := s.padCtxs n
  let s := if third then s.addDefect 4 n 3 else s
  let s := cs.foldl (fun st c => (st.loseLine c).loseSource c (if third then 7 else 6)) s
  if third then s.swaps.foldl (fun st w => if (st.tileCtxs w.old).any (fun c => st.padOf c == n) then st.abandonSwap w else st) s
  else s

/-- A selector that is not one-hot is set to ISOLATE, and the contexts that it serves lose their source (R124). -/
def State.isolateSel (s : State) (t half : Nat) : State :=
  let s := (s.setSel t half 0xFF).modTile t (fun x => { x with isolated := withBit x.isolated half true })
  (s.selCtxs t half).foldl (fun st c => (st.loseLine c).loseSource c 6) s

/-- BUS_CONTENTION (R124). -/
def xBusContention (bus : Bus) (s : State) : State :=
  match bus with
  | .pad n => s.contendPad n
  | .test k => (s.set (K.testBusState k) 3).set (K.testBusSrc k) 0
  | .selector t half pads => (s.busPads (.selector t half pads)).foldl (fun st n => st.contendPad n) (s.isolateSel t half)

/-- A context whose contention is over is on its bus again, and returns at its next boundary (R124 step 6). -/
def State.rejoinCtx (s : State) (c : Nat) : State :=
  let s := s.joinBuses (s.obj (K.ctxTile c)) [c]
  if s.lostFor c 6 then s.returnSource c else s

/-- A pad's bus is DRIVEN again: its switches are as placed, and its contexts return at their next boundary. A pad that is
listed stays open. -/
def State.recoverPad (s : State) (n : Nat) : State :=
  if s.obj (K.tilePadBus n) ≠ 3 || s.padListed n then s
  else
    let s := s.set (K.tilePadEntry n) (ofBool (s.padUsed n))
    let s := s.set (K.tilePadBus n) (s.busState n)
    let cs := s.padCtxs n
    let s := cs.foldl (fun st c => st.rejoinCtx c) s
    (cs.map (fun c => s.obj (K.ctxTile c))).foldl (fun st l => st.resumeCal l) s

/-- A selector is rewritten to its place: at INTERNAL while its tile calibrates. -/
def State.rejoinSel (s : State) (t half : Nat) : State :=
  let s := s.modTile t (fun x => { x with isolated := withBit x.isolated half false })
  let s := if s.internal t then s.setSel t half 0xFE else s
  ((s.selCtxs t half).filter (fun c => !s.padListed (s.padOf c) && s.obj (K.tilePadBus (s.padOf c)) != 3)).foldl (fun st c => st.rejoinCtx c) s

/-- CONTENTION_RECOVERY (R124 steps 5 and 6) (DEDUCED, log entry 35). -/
def xContentionRecovery (bus : Bus) (s : State) : State :=
  let t := (s.busPads bus).foldl (fun st n => st.recoverPad n) s
  match bus with
  | .test k => if s.obj (K.testBusState k) = 3 then s.set (K.testBusState k) 0 else s
  | .selector n half _ => t.rejoinSel n half
  | .pad _ => t

/-! ## Window monitors (R347 to R354) -/

/-- The value of a monitor object at an instant: a write acts from the first tick 1 µs or more after it (R353). -/
def State.monValue (s : State) (n i sub t : Nat) : Nat :=
  match (s.mon (2 * n + i)).writes.find? (fun e => e.2.1 == sub && decide (t < e.1)) with
  | some e => e.2.2
  | none => s.obj (key (0x300C + 16 * n + i) sub)

/-- The tick rate of a monitor in Hz. -/
def State.tickRate (s : State) (n i : Nat) : Frac := fracOfF32 (s.tickReal n i)

/-- The instant of the tick that lies j ticks before now. -/
def State.tickAt (s : State) (n i j : Nat) : Nat :=
  let f := s.tickRate n i
  if f.num = 0 then s.clock else s.clock - (Frac.div ⟨j, 1⟩ f).units

/-- Whether the tick that lies j ticks before now falls into a blanking window (R349): the first `blank_ticks` ticks after the latest
event of the source. -/
def State.blankedAt (s : State) (n i j : Nat) : Bool :=
  match (s.mon (2 * n + i)).blankAt with
  | none => false
  | some e =>
    let f := s.tickRate n i
    let k := (Frac.mul ⟨s.clock - e, 65536000000000⟩ f).ceil
    decide (j < k) && decide (k - j ≤ s.monValue n i 0x0A (s.tickAt n i j))

/-- Whether a scanning tile's slot lets a monitor decide (R350): within the dwell samples of the slot it watches. -/
def State.slotDecides (s : State) (n slot : Nat) : Bool :=
  s.obj (K.tileScanSlots n) ≤ 1 || slot == 0xFF ||
    (slot == (s.tile n).slot && (match s.scanCtx n slot with
      | some c => decide (s.node (K.graphNodeBlank c) ≤ (s.tile n).pos)
      | none => false))

/-- Whether a monitor records a decision at the tick j ticks before now: its tile ON, enabled, not HOLDING, outside its blanking window
(R349 to R352). -/
def State.decides (s : State) (n i j : Nat) : Bool :=
  let t := s.tickAt n i j
  s.converts n && s.obj (K.tileMonEnable n i) == 1 && s.monValue n i 1 t == 1 && !(s.obj (K.tileMonState n i)).testBit 7 &&
    !s.blankedAt n i j && s.slotDecides n (s.monValue n i 0x0B t)

/-- The decision of a monitor whose present state is `now` on an input in µV (R347, R348): ABOVE or BELOW a threshold code with a
hysteresis in mV; inside the band it repeats the state, and an UNRESOLVED one records nothing. -/
def monDecision (below : Bool) (code hyst : Nat) (v : Int) (now : Option Bool) : Option Bool :=
  let th : Int := ((code : Int) - 512) * 15625
  let h : Int := 8000 * hyst
  if below then (if 8 * v < th then some true else if 8 * v > th + h then some false else now)
  else (if 8 * v > th then some true else if 8 * v < th - h then some false else now)

/-- What the filter of n in [7:4] and k in [3:0] says of the decisions, newest first (R348). -/
def monMajority (filter : Nat) (past : List Bool) : Option Bool :=
  let w := past.take (filter / 16)
  if (w.filter (fun b => b)).length ≥ filter % 16 then some true
  else if (w.filter (fun b => !b)).length ≥ filter % 16 then some false
  else none

/-- The state of a monitor: TRIPPED, CLEAR, or `none` for UNRESOLVED. -/
def State.monNow (s : State) (n i : Nat) : Option Bool :=
  match s.obj (K.tileMonState n i) % 4 with | 2 => some true | 1 => some false | _ => none

/-- A monitor changes its state at a tick (R348, R354): a change to TRIPPED counts, is stamped with the tick and raised. -/
def State.monTurn (s : State) (n i : Nat) (trip : Bool) (tick : Nat) : State :=
  let st := s.obj (K.tileMonState n i)
  let s := (s.set (K.tileMonState n i) (withBits st 1 0 (if trip then 2 else 1))).setMon (2 * n + i) { s.mon (2 * n + i) with kept := none }
  if trip then
    ((s.count (K.tileMonTrips n i) 32 1).set (K.tileMonLastTrip n i) (time96 (s.time - (s.clock - tick)))).raise n i
  else s

/-- A monitor's tap (R347): the front amplifier, or the biquad, which passes the same signal in BYPASS and in CDS form. -/
def State.tapInput (s : State) (n tap : Nat) (v : Int × Int) : Int :=
  if tap = 1 && s.bqType n != 0 && s.formOf n != 3 then v.2 else v.1

/-- One tick of a monitor, j ticks before now, with the inputs at its FE and BQ taps (R348). -/
def State.monTick (s : State) (n i j : Nat) (v : Int × Int) : State :=
  let t := s.tickAt n i j
  if !s.decides n i j then s
  else
    let m := s.mon (2 * n + i)
    match monDecision (s.monValue n i 3 t == 1) (s.monValue n i 4 t) (s.monValue n i 5 t) (s.tapInput n (s.monValue n i 2 t) v)
        (s.monNow n i) with
    | none => s
    | some d =>
      let past := (d :: m.past).take 15
      let s := s.setMon (2 * n + i) { m with past := past }
      match monMajority (s.monValue n i 8 t) past with
      | some b => if s.monNow n i = some b then s else s.monTurn n i b t
      | none => s

/-- MONITOR_TRIP (R348, R354): the inputs of a monitor at its last ticks in µV, oldest first and the last one now; a majority of its
decisions changes the state (DEDUCED, log entry 47). -/
def xMonitorTrip (n i : Nat) (inputs : List (Int × Int)) (s : State) : State :=
  inputs.zipIdx.foldl (fun st v => st.monTick n i (inputs.length - 1 - v.2) v.1) s

/-- Checks of the filter and of the blanking source (R348, R349) (DEDUCED, log entry 47). -/
def guardMonitor (s : State) (n i sub v : Nat) : Res Unit :=
  if sub = 0x08 then
    let a := v / 16
    let k := v % 16
    need (k ≤ a && a ≤ 15 && a < 2 * k && (s.obj (K.tileMonBlankSrc n i) / 4096 == 0 || v == 0x11)) aRange 0x11
  else if sub = 0x09 then
    let m := v % 4096
    need ((match v / 4096 with | 0 => m == 0 | 1 => m < 16 | 2 => m == 0 | 3 => m < 4 | 4 => m < 16 | _ => false) &&
      (v / 4096 == 0 || s.obj (K.tileMonFilter n i) == 0x11)) aRange 0
  else .ok ()

/-- After MONITOR_WRITE (R351, R353): it acts 1 µs later; the filter refills the history with the present state. An enable from 0 to 1
leaves the monitor UNRESOLVED; at 0 it reads CLEAR (DEDUCED, log entry 47). -/
def actMonitor (n i sub old v : Nat) (s : State) : State :=
  let w := 2 * n + i
  let m := s.mon w
  let s := s.setMon w { m with writes := m.writes.filter (fun e => decide (s.clock < e.1)) ++ [(s.clock + perUs, sub, old)] }
  if sub = 8 then
    s.setMon w { s.mon w with past := match s.monNow n i with | some b => List.replicate 15 b | none => [] }
  else if sub ≠ 1 || old = v then s
  else
    let st := s.obj (K.tileMonState n i)
    (s.set (K.tileMonState n i) (withBits st 1 0 (if v = 1 then 0 else if s.converts n then 1 else 0))).setMon w { s.mon w with past := [] }

/-- The monitors with a blanking source, by 2n + i. -/
def State.blanked (s : State) (src : Nat) : List Nat :=
  (s.dict.filter (fun e => 0x300C00 ≤ e.1 && e.1 < 0x400000 && e.1 % 256 == 9 &&
    (e.1 / 256 % 16 == 12 || e.1 / 256 % 16 == 13) && e.2 == src)).map
    (fun e => 2 * ((e.1 / 256 - 0x3000) / 16) + (e.1 / 256 % 16 - 12))

/-- An event of a blanking source opens a window of ticks on a monitor, or restarts it (R349). -/
def State.blank (s : State) (w : Nat) : State := s.setMon w { s.mon w with blankAt := some s.clock }

/-- The events of a source (R349): 1 PITCH p, 3 STROBE g, 4 FABRIC wire. -/
def State.blankBy (s : State) (code num : Nat) : State := (s.blanked (code * 4096 + num)).foldl (fun st w => st.blank w) s

/-- A line trigger of generator p blanks its own monitors, and those that follow the line of a context it bounds. -/
def State.blankLines (s : State) (p : Nat) : State :=
  let tiles := (s.triggeredBy p).map (fun c => s.obj (K.ctxTile c))
  ((s.blanked 0x2000).filter (fun w => tiles.contains (w / 2))).foldl (fun st w => st.blank w) (s.blankBy 1 p)

/-- The fabric's blanking wires of a quadrant's sector. -/
def State.blankWire (s : State) (q wire : Nat) : State :=
  ((s.blanked (0x4000 + wire)).filter (fun w => w / 2 / 64 == q)).foldl (fun st w => st.blank w) s

/-- The state of a monitor as trip logic and its pool input see it (R351, R354). -/
def State.monitorSeen (s : State) (n i : Nat) : Bool :=
  match s.obj (K.tileMonState n i) % 4 with
  | 2 => true
  | 1 => false
  | _ => match (s.mon (2 * n + i)).kept with
    | some b => b
    | none => bitsOf (s.force K.calUnresolvedMap) (2 * n + i) (2 * n + i) == 1

end Sys2Proof.Machine
end

