-- ==== Sys2Proof/Machine/Dac.lean ====
section
/-! DEFINITION. Chapter 16: excitation and bias outputs (R356 to R369). -/

namespace Sys2Proof.Machine

def State.dac (s : State) (n : Nat) : Dac := Sp.get (fun _ => Dac.none_) s.dacs n
def State.setDac (s : State) (n : Nat) (x : Dac) : State := { s with dacs := Sp.put (fun _ => Dac.none_) s.dacs n x }
def State.modDac (s : State) (n : Nat) (f : Dac → Dac) : State := s.setDac n (f (s.dac n))
def State.strobe (s : State) (g : Nat) : Strobe := Sp.get (fun _ => Strobe.none_) s.strobes g
def State.setStrobe (s : State) (g : Nat) (x : Strobe) : State := { s with strobes := Sp.put (fun _ => Strobe.none_) s.strobes g x }

def State.allDacs (s : State) : List Nat := List.range (dacCount s.variant)
def State.dacOn (s : State) (n : Nat) : Bool := isOn (s.obj (K.dacStatus n))

/-! ## Conditions -/

def State.dacFlag (s : State) (n bit : Nat) (b : Bool) : State := s.set (K.dacFlags n) (withBit (s.obj (K.dacFlags n)) bit b)
def State.dacBit (s : State) (n bit : Nat) (b : Bool) : State := s.set (K.dacStatus n) (withBit (s.obj (K.dacStatus n)) bit b)
def State.holding (s : State) (n : Nat) : Bool := (s.obj (K.dacStatus n)).testBit 6

/-- The safe code as the pin takes it, and whether the clamp of a unipolar span changed it (R358). -/
def State.safeCode (s : State) (n : Nat) : Int × Bool :=
  let v := signed 32 (s.obj (K.dacSafe n))
  if v < 0 && s.obj (K.dacSpan n) < 2 then (0, true) else (v, false)

/-! ## From word to pin (R364, R365) -/

/-- A code meets a hold: it waits for its end, and replaces one that waits (R365). -/
def State.waitCode (s : State) (n : Nat) (code : Int) : State :=
  let s := if (s.dac n).waiting.isSome then s.count (K.dacMerged n) 32 1 else s
  s.modDac n (fun x => { x with waiting := some code })

/-- Stage 4: a step beyond `glitch_step` opens the track switch for a hold; a code that meets a hold waits (R364, R365). -/
def State.enterCode (s : State) (n : Nat) (code : Int) : State :=
  if s.holding n then s.waitCode n code
  else
    let jump := (code - signed 32 (s.obj (K.dacCode n))).natAbs
    let s := s.set (K.dacCode n) (unsigned 32 code)
    if jump > s.obj (K.dacGlitchStep n) then (s.count (K.dacHolds n) 32 1).dacBit n 6 true else s

/-- A code that waits or enters, whichever holds now. -/
def State.waitOr (s : State) (n : Nat) (code : Int) : State := if s.holding n then s.waitCode n code else s.enterCode n code

/-- From a code toward a target by j steps of the limiter. -/
def slewBy (pos target : Int) (step j : Nat) : Int :=
  if pos ≤ target then min target (pos + ((j * step : Nat) : Int)) else max target (pos - ((j * step : Nat) : Int))

/-- Stage 3: the steps that the limiter has taken since it was last brought up to the present, one every `slew_period` modulator periods
of 0.625 ns. Each is a code that enters stage 4: those that no hold can meet at once, else the first one and then the last one, the
others being replaced (R364, R365). -/
def State.slewOn (s : State) (n : Nat) : State :=
  match (s.dac n).slew with
  | none => s
  | some (pos, t, target) =>
    let step := s.obj (K.dacSlewStep n)
    let period := 40960 * max 1 (s.obj (K.dacSlewPeriod n))
    let far := (target - pos).natAbs
    let m := if s.clock < t then 0 else min ((s.clock - t) / period + 1) ((far + step - 1) / max 1 step)
    if m = 0 then s
    else
      let last := slewBy pos target step m
      let s := s.modDac n (fun x => { x with slew := some (last, t + m * period, target) })
      if !s.holding n && step ≤ s.obj (K.dacGlitchStep n) then s.enterCode n last
      else
        let s := s.enterCode n (slewBy pos target step 1)
        if m = 1 then s else (s.count (K.dacMerged n) 32 (m - 2)).waitOr n last

/-- Stages 1 and 2: scale and unipolar clamp (R358, R364). -/
def State.scaled (s : State) (n : Nat) (code : Int) : Int × Bool :=
  let v := roundHalfEven (code * ((s.force (K.dacScale n) : Nat) : Int)) 16384
  let v := max (-8388607) (min 8388607 v)
  if v < 0 && s.obj (K.dacSpan n) < 2 then (0, true) else (v, false)

/-- Stage 3: a new target replaces the old one at once; the next step comes no sooner than `slew_period` after the last one
(DESIGN CHOICE, log entry 48). -/
def State.slewTo (s : State) (n : Nat) (target : Int) : State :=
  let s := s.slewOn n
  if s.obj (K.dacSlewEnable n) = 0 then (s.modDac n (fun x => { x with slew := none })).enterCode n target
  else
    let from_ := match (s.dac n).slew with
      | some (pos, t, _) => (pos, max t s.clock)
      | none => (signed 32 (s.obj (K.dacCode n)), s.clock)
    (s.modDac n (fun x => { x with slew := some (from_.1, from_.2, target) })).slewOn n

/-- A word passes from the feed to the pin; while a safe move runs it has no effect (DESIGN CHOICE, log entry 48). -/
def State.putCode (s : State) (n : Nat) (code : Int) : State :=
  if (s.dac n).move.isSome || (s.dac n).moveWaits then s
  else
    let v := s.scaled n code
    let s := if v.2 then s.dacFlag n 3 true else s
    s.slewTo n v.1

/-- The code in force: the limiter's steps, or a ramp under way, have moved it on since (R364, R367). -/
def State.codeNow (s : State) (n : Nat) : Int :=
  match (s.dac n).move with
  | some (from_, t) =>
    let ramp := s.obj (K.dacSafeRamp n) * perUs
    let safe := (s.safeCode n).1
    if ramp = 0 || s.clock ≥ t + ramp then safe
    else from_ + roundHalfEven ((safe - from_) * ((s.clock - t : Nat) : Int)) ramp
  | none => signed 32 ((s.slewOn n).obj (K.dacCode n))

/-! ## Safe moves and enables (R366, R367) -/

/-- A safe move begins, at the end of a hold in progress; one in progress goes on. -/
def State.safeMove (s : State) (n : Nat) : State :=
  if (s.dac n).move.isSome || (s.dac n).moveWaits then s
  else
    let s := (s.slewOn n).modDac n (fun x => { x with waiting := none, slew := none })
    if s.holding n then s.modDac n (fun x => { x with moveWaits := true })
    else
      let v := s.safeCode n
      let s := if v.2 then s.dacFlag n 3 true else s
      if s.obj (K.dacSafeRamp n) = 0 then s.enterCode n v.1
      else s.modDac n (fun x => { x with move := some (signed 32 (s.obj (K.dacCode n)), s.clock) })

/-- The safe move of every output that is ON (R367). -/
def State.safeMoves (s : State) : State :=
  (s.allDacs.filter s.dacOn).foldl (fun st n => (st.safeMove n).modDac n (fun x => { x with fed := false })) s

/-- DEGLITCH_HOLD_END (R365). -/
def xHoldEnd (n : Nat) (s : State) : State :=
  let s := s.slewOn n
  if !s.holding n then s
  else
    let x := s.dac n
    let s := (s.dacBit n 6 false).modDac n (fun y => { y with waiting := none, moveWaits := false })
    if x.moveWaits then s.safeMove n
    else match x.waiting with
      | some c => s.enterCode n c
      | none => s

/-- SAFE_MOVE_END (R367). -/
def xSafeMoveEnd (n : Nat) (s : State) : State :=
  if (s.dac n).move.isSome then
    (s.set (K.dacCode n) (unsigned 32 (s.safeCode n).1)).modDac n (fun x => { x with move := none })
  else s

/-- Nothing moves in an output. -/
def State.restDac (s : State) (n : Nat) : State :=
  s.modDac n (fun x => { x with fed := false, waiting := none, slew := none, move := none, moveWaits := false, limitAt := none })

/-- An output reads ON: it drives its safe code (R366). -/
def State.dacStart (s : State) (n : Nat) : State :=
  let v := s.safeCode n
  ((if v.2 then s.dacFlag n 3 true else s).set (K.dacCode n) (unsigned 32 v.1)).restDac n

/-- An output reads OFF: HOLDING ends with the stage. -/
def State.dacStop (s : State) (n : Nat) : State := (s.dacBit n 6 false).restDac n

/-- Checks of an enable (R94, R366, R369): STANDBY holds every output OFF (DESIGN CHOICE, log entry 48). -/
def guardDacEnable (s : State) (n v : Nat) : Res Unit := do
  guardSafeEnable s v
  need (v == 0 || !s.sleeps 3) aMode s.mode
  need (v == 0 || !(s.obj (K.dacFlags n)).testBit 1) aFault 0

/-- DAC_ENABLE (R99, R366): a stop begins with the safe move. -/
def xDacEnable (n v : Nat) (s : State) : State :=
  let was := s.dacOn n
  let s := s.set (K.dacStatus n) (enWrite (s.obj (K.dacStatus n)) v)
  if was && v = 0 then s.safeMove n else s

/-- The output stops at once behind its clamp (R416). -/
def State.dacClamp (s : State) (n : Nat) : State :=
  (s.set (K.dacStatus n) (enByte (s.obj (K.dacStatus n)) eOff 0)).dacStop n

/-- DAC_CURRENT_LIMIT (R369). -/
def xCurrentLimit (n : Nat) (s : State) : State :=
  if enState (s.obj (K.dacStatus n)) = 0 then s
  else (((s.modDac n (fun x => { x with limitAt := some s.clock })).dacFlag n 0 true).dacBit n 4 true).raise 758 n

/-- Whether the stage has limited current for `short_ms`, the first µs included (R369). -/
def State.limitedLong (s : State) (n : Nat) : Bool :=
  match (s.dac n).limitAt with
  | some t => decide (t + s.obj (K.dacShortMs n) * perMs ≤ s.clock + perUs)
  | none => false

/-- DAC_SHORT_TIMEOUT (R369): the device writes the enable to 0. -/
def xShortTimeout (n : Nat) (s : State) : State :=
  if enState (s.obj (K.dacStatus n)) = 0 || !s.limitedLong n then s
  else xDacEnable n 0 (((s.set (K.dacEnable n) 0).dacFlag n 1 true).dacBit n 7 true)

/-- DAC_CLEAR: the latched flags (R369). -/
def xDacClear (n : Nat) (s : State) : State :=
  ((s.set (K.dacFlags n) (s.obj (K.dacFlags n) &&& 4)).dacBit n 4 false).dacBit n 7 false

/-- Span, group and safe code: only in LOAD while the output reads OFF (R358). -/
def guardDacSetup (s : State) (n : Nat) : Res Unit := do
  need (s.mode == mLoad) aMode s.mode
  need (enState (s.obj (K.dacStatus n)) == 0) aMode (enState (s.obj (K.dacStatus n)))

/-! ## Waveforms (R363) -/

/-- Bytes of a word of a waveform. -/
def State.waveBytes (s : State) (w : Nat) : Nat := if s.obj (K.dacWaveFormat w) = 1 then 4 else 2

/-- Whether a context names a waveform. -/
def State.waveNamed (s : State) (w : Nat) : Bool :=
  s.graphNodes.any (fun n => n.source == 4 && n.input == w)

/-- Checks of a write of waveform data: LOAD, and no context names it. -/
def guardWave (s : State) (w : Nat) : Res Unit := do
  needMode s [mLoad]
  need (!s.waveNamed w) aBusy 0xFF

/-- A waveform is kept, and goes to the shadow (R91, R363). -/
def actWave (w : Nat) (bs : List Byte) (s : State) : State :=
  (s.setBlob (K.dacWaveData w) bs).startCopy

/-- The length in words, by the format (R363). -/
def guardWaveLength (s : State) (w v : Nat) : Res Unit :=
  let m := if s.obj (K.dacWaveFormat w) = 1 then 262144 else 524288
  need (v ≤ m) aRange m
def guardWaveFormat (s : State) (w v : Nat) : Res Unit :=
  need (v == 0 || s.obj (K.dacWaveLength w) ≤ 262144) aRange 0

/-- A code of a word: S16 shifted left by 8 bits, S24 as it is (R361). -/
def wordCode (bytes v : Nat) : Int := if bytes = 2 then signed 16 v * 256 else signed 24 v

/-! ## Feeds (R361, R362) -/

/-- The feeding context, its node's words. -/
def State.feedCtx (s : State) (n : Nat) : Nat := s.obj (K.dacCtx n)
def State.isWave (s : State) (c : Nat) : Bool := s.node (K.graphNodeSource c) == 4
def State.feedBytes (s : State) (c : Nat) : Nat :=
  if s.isWave c then s.waveBytes (s.node (K.graphNodeInput c))
  else if s.chained c && bitsOf (u32At (s.node (K.graphNodeChain c)) 8) 3 2 = 1 then 4 else 2

def State.showFeed (s : State) (n : Nat) : State :=
  s.set (K.dacFill n) (min 2048 ((s.dac n).feed.length * s.feedBytes (s.feedCtx n)))

/-- The word at byte `off` of line k of a context's ring. -/
def State.feedWord (s : State) (c k off bytes due : Nat) (first : Bool) : FeedWord :=
  let r := s.ring c false
  let a := s.lineAddr r k off
  ⟨due, first, if s.poisoned a then none else some (wordCode bytes (ofLE ((List.range bytes).map (fun i => s.byte (s.lineAddr r k (off + i))))))⟩

/-- One transfer of a waveform: words from the next one due to the end of its 64 bytes. -/
def State.feedWave (s : State) (n c : Nat) : State :=
  let b := s.feedBytes c
  let l := s.obj (K.dacWaveLength (s.node (K.graphNodeInput c)))
  if l = 0 then s
  else
    let due := max (s.dac n).next (s.obj (K.dacGroupStrobes (s.obj (K.dacGroup n))))
    let i := due % l
    let m := min (64 / b - i % (64 / b)) (l - i)
    let ws := (List.range m).map (fun j => s.feedWord c 0 ((i + j) * b) b (due + j) (i + j == 0))
    (s.modDac n (fun x => { x with feed := x.feed ++ ws, next := due + m })).showFeed n

/-- One transfer of a line: up to 64 bytes; the last one of a line moves the reader on. -/
def State.feedLine (s : State) (n c : Nat) : State :=
  let b := s.feedBytes c
  let r := s.ring c false
  let at_ := match r.readers.find? (fun x => x.kind == .dac && x.unit == n) with | some x => x.next | none => 0
  let k := s.nextLine r at_
  if !s.holdsLine r k then s
  else
    let off := if k = at_ then (s.dac n).next else 0
    let len := (s.recOf r k).length
    let m := min (64 / b) ((len - off) / b)
    let ws := (List.range m).map (fun j => s.feedWord c k (off + j * b) b 0 (off + j == 0))
    let done := off + m * b + b > len
    let s := s.modDac n (fun x => { x with feed := x.feed ++ ws, next := if done then 0 else off + m * b })
    let r := s.ring c false
    let line := if done then k + 1 else k
    (s.setRing c false { r with readers := r.readers.map (fun x => if x.kind = .dac ∧ x.unit = n then { x with next := line } else x) }).showFeed n

/-- A granted read of a DAC feed, whenever 64 bytes are free. -/
def State.feedDac (s : State) (n : Nat) : State :=
  let c := s.feedCtx n
  if c = 0xFFFF || (s.dac n).whole || s.obj (K.dacFill n) + 64 > 2048 then s
  else if s.isWave c then s.feedWave n c else s.feedLine n c

/-- The entry of the feed for strobe k, and the feed that is left. -/
def State.takeFeed (s : State) (n k : Nat) : Option FeedWord × List FeedWord :=
  let x := s.dac n
  let c := s.feedCtx n
  if x.whole then
    let l := s.obj (K.dacWaveLength (s.node (K.graphNodeInput c)))
    (if l = 0 then none else x.feed[k % l]?, x.feed)
  else
    let feed := if s.isWave c then x.feed.dropWhile (fun w => w.due < k) else x.feed
    match feed with
    | [] => (none, [])
    | w :: ws => if s.isWave c && w.due ≠ k then (none, feed) else (some w, ws)

/-- An output takes the word of strobe k: an empty buffer repeats the code in force and is counted, a poisoned word repeats it
(R362). A pending scale takes effect with the first word of a wrap or line (R364). -/
def State.takeWord_ (s : State) (n k : Nat) : State :=
  if s.feedCtx n = 0xFFFF then s
  else
    let r := s.takeFeed n k
    let s := (s.modDac n (fun x => { x with feed := r.2, fed := true })).showFeed n
    match r.1 with
    | none => ((((s.dacFlag n 2 true).dacBit n 5 true).count (K.dacUnderruns n) 32 1)).raise 758 n
    | some w =>
      let s := (s.dacFlag n 2 false).dacBit n 5 false
      let s := if w.first then s.settle (K.dacScale n) else s
      match w.code with
      | none => s
      | some c => s.putCode n c

/-! ## Strobes (R359, R360) -/

def strobeKind (v : Nat) : Nat := bitsOf v 15 12
def strobeNumber (v : Nat) : Nat := bitsOf v 11 0

/-- A source that R359 lists. -/
def strobeOk (v : Nat) : Bool :=
  match strobeKind v with
  | 0 => true
  | 1 => 64 ≤ strobeNumber v && strobeNumber v ≤ 4095
  | 2 => strobeNumber v ≤ 15
  | 3 => strobeNumber v ≤ 15
  | _ => false

/-- DEDUCED, log entry 11. -/
def guardStrobe (s : State) (v : Nat) : Res Unit := do
  need (strobeOk v) aRange 0
  needMode s [mLoad]

/-- Strobes run from step 7 of PREPARE until LOAD or STANDBY. -/
def State.strobesRun (s : State) : Bool :=
  s.mode == mRun || s.mode == mHold || s.mode == mSafe || s.prepAt 7

/-- The window of `dac.group[g].rate`. -/
def State.countStrobe (s : State) (g : Nat) : State :=
  let x := s.strobe g
  if s.clock < x.start + perMs then s.setStrobe g { x with last := some s.clock, seen := x.seen + 1 }
  else (s.setStrobe g { x with last := some s.clock, start := s.clock, seen := 1 }).set (K.dacGroupRate g) (f32OfNat (if s.clock < x.start + 2 * perMs then 1000 * x.seen else 0))

/-- A group's strobe is asked for by a trigger or an edge of its source (R359). -/
def State.oweStrobes (s : State) (p : Nat → Bool) : State :=
  ((List.range 4).filter p).foldl (fun st g => st.setStrobe g { st.strobe g with owed := (st.strobe g).owed + 1 }) s

/-- A trigger of pitch generator p. -/
def State.pitchStrobes (s : State) (p : Nat) : State := s.oweStrobes (fun g => s.obj (K.dacGroupSource g) == 0x2000 + p)

/-- A rising edge of a strobe wire of a sector: of a group's own sector, that of its lowest output's quadrant. -/
def State.wireStrobes (s : State) (q wire : Nat) : State :=
  s.oweStrobes (fun g => s.obj (K.dacGroupSource g) == 0x3000 + wire &&
    (s.allDacs.find? (fun n => s.obj (K.dacGroup n) == g)).map (· / 8) == some q)

/-- Whether a strobe of a group is due: from the epoch on, or with a trigger or an edge that has had none (R359, R360). -/
def State.strobeDue (s : State) (g : Nat) : Bool :=
  match strobeKind (s.obj (K.dacGroupSource g)) with
  | 0 => false
  | 1 => decide ((s.strobe g).epoch ≤ s.clock)
  | _ => decide (0 < (s.strobe g).owed)

/-- DAC_STROBE, at an edge of the modulators' clock: counted; in RUN every ON output of the group takes its next word
(DESIGN CHOICE, log entry 48). -/
def xDacStrobe (g : Nat) (s : State) : State :=
  if g ≥ 4 || !s.strobesRun || !s.strobeDue g then s
  else
    let timed := strobeKind (s.obj (K.dacGroupSource g)) == 1
    let s := s.setStrobe g { s.strobe g with owed := (s.strobe g).owed - 1 }
    if !timed && (match (s.strobe g).last with | some t => decide (s.clock < t + 40 * perNs) | none => false) then
      s.count (K.dacGroupMissed g) 32 1
    else
      let k := s.obj (K.dacGroupStrobes g)
      let s := ((s.countStrobe g).tally (K.dacGroupStrobes g) 64 1).blankBy 3 g
      if s.mode = mRun then
        (s.allDacs.filter (fun n => s.obj (K.dacGroup n) == g && s.dacOn n)).foldl (fun st n => st.takeWord_ n k) s
      else s

/-! ## Placement of outputs -/

/-- Step 4 of PREPARE: a waveform's ring is filled from the shadow (R363) (DESIGN CHOICE, log entry 48). -/
def State.fillWave (s : State) (c : Nat) : State :=
  let w := s.node (K.graphNodeInput c)
  let bs := slice ((s.blob (K.dacWaveData w)).getD []) 0 (s.obj (K.dacWaveLength w) * s.waveBytes w)
  let r := s.ring c false
  ((List.range bs.length).zip bs).foldl (fun st e => st.putByte (st.lineAddr r 0 e.1) e.2) s

/-- Step 7 of PREPARE: feeds begin; a waveform of at most 2 KiB is read once (R361). -/
def State.primeDac (s : State) (n : Nat) : State :=
  let c := s.feedCtx n
  let s := s.setDac n { s.dac n with feed := [], whole := false, next := 0, fed := false }
  if c = 0xFFFF || !s.isWave c then s.showFeed n
  else
    let b := s.feedBytes c
    let l := s.obj (K.dacWaveLength (s.node (K.graphNodeInput c)))
    if l * b ≤ 2048 then
      let ws := (List.range l).map (fun i => s.feedWord c 0 (i * b) b i (i == 0))
      (s.modDac n (fun x => { x with feed := ws, whole := true })).showFeed n
    else s.showFeed n

/-- Step 7 of PREPARE: the epoch of a TIMEBASE group, the first edge of the strobe, and of the grids of the tiles whose chains name the
group; the phases of both are open (R360, DESIGN CHOICE, log entry 2). Strobes are counted from it (DESIGN CHOICE, log entry 48). -/
def State.startGroup (s : State) (g : Nat) : State :=
  let src := s.obj (K.dacGroupSource g)
  let s := (s.set (K.dacGroupStrobes g) 0).setStrobe g ⟨none, s.clock, 0, s.clock, 0⟩
  if strobeKind src = 1 then
    let d := s.draw 49
    let named := match s.excitation s.graphNodes with | some e => s.obj (K.dacGroup e.dac) == g | none => false
    let period := if named then (s.graphNodes.filter (·.coherent)).foldl (fun a n => Frac.common a n.grid) (strobePeriod src)
      else strobePeriod src
    let late := d.1 % max 1 period.units
    (d.2.setStrobe g { d.2.strobe g with epoch := s.clock + late }).set (K.dacGroupEpoch g) (time96 (d.2.time + late))
  else s

end Sys2Proof.Machine
end

