-- ==== Sys2Proof/Machine/Arb.lean ====
section
/-! DEFINITION. Arbitration of the Store switch, red cards, cadence (12_selftimed_arbitration.md, R268 to R276, R254). -/

namespace Sys2Proof.Machine

/-- Whether a client may be granted: present and not RED (R272, R275). -/
def State.admitted (s : State) (i : Nat) : Bool := clientPresent s.variant i && !s.clientRed i

/-- How many grants a port has made since a client's request there was raised (R273). -/
def Pc.waited (x : Pc) (i : Nat) : Nat := (Sp.find x.waits i).getD 0

/-- After a grant the requests that go on waiting have waited one grant more; a client without a request waits no longer. -/
def Pc.wait (x : Pc) (wants : List Want) (winner : Nat) : Pc :=
  { x with waits := (wants.filter (fun w => w.client != winner)).foldl (fun m w => Sp.insert m w.client (x.waited w.client + 1)) [] }

/-- The rank of a client (R272). -/
def rankOf (i : Nat) : Nat := if i < 18 then 0 else if i < 42 then 1 else if i < 46 then 2 else 3

/-- The requester that has waited longest; among equal waits the lower index (R273). -/
def longest (p : Pc) : List Want → Option Want
  | [] => none
  | w :: ws => match longest p ws with
    | none => some w
    | some x =>
      if p.waited x.client > p.waited w.client || (p.waited x.client = p.waited w.client && x.client < w.client) then some x else some w

/-- How far a client stands after the rank's last grant in index order. -/
def turn (last i : Nat) : Nat := (i + 47 - last) % 48

/-- The next requester in index order after a grant. -/
def nextInTurn (last : Nat) : List Want → Option Want
  | [] => none
  | w :: ws => match nextInTurn last ws with
    | none => some w
    | some x => if turn last x.client < turn last w.client then some x else some w

/-- The grant of a port whose grants number `n` so far (R273): whether it is the Libero slot, and who gets it
(DESIGN CHOICE, log entry 41). -/
def State.choose (s : State) (p : Nat) (wants : List Want) : Option (Bool × Want) :=
  let ws := wants.filter (fun w => s.admitted w.client)
  let x := s.pc p
  if (x.grants + 1) % s.obj K.arbLiberoN = 0 then (longest x ws).map (fun w => (true, w))
  else
    let r := ws.foldl (fun a w => min a (rankOf w.client)) 4
    (nextInTurn (x.last.getD r 47) (ws.filter (fun w => rankOf w.client == r))).map (fun w => (false, w))

/-- Raise an F32 maximum. -/
def State.maxF32 (s : State) (k v : Nat) : State := if f32Key (s.obj k) < f32Key v then s.set k v else s

/-- A grant is counted at its port and at its client (DESIGN CHOICE, log entry 41). -/
def State.countGrant (s : State) (p : Nat) (libero : Bool) (i : Nat) : State :=
  let x := s.pc p
  let s := s.setPc p { x with grants := x.grants + 1, last := x.last.set (rankOf i) i }
  let s := (s.tally (K.arbPortGrants p) 64 1).tally (K.arbClientGrants i) 64 1
  if libero then s.tally (K.arbClientLibero i) 64 1 else s

/-- A substitute's words wait until those that the old tile still holds of the same contexts have left (R233). -/
def State.ingestWaits (s : State) (t : Nat) : Bool :=
  s.swaps.any (fun w => w.step == 8 && w.spare == t && !(s.tile w.old).buf.isEmpty)

/-- A granted write moves one transfer of its writer (R245, R273). -/
def State.moveWrite (s : State) (p : Nat) (a : Access) : State :=
  match a with
  | .ingest t =>
    if s.ingestWaits t then s
    else match s.moveTransfer p true (s.tile t).buf with
      | some (st, items) => (st.modTile t (fun x => { x with buf := items })).showFill t
      | none => s
  | .slotWrite c | .peerWrite c | .cellWrite c =>
    match s.moveTransfer p false (s.ctx c).outQ with
    | some (st, items) => st.modCtx c (fun x => { x with outQ := items })
    | none => s
  | _ => s

/-- Whether an access reads. -/
def isRead : Access → Bool
  | .slotRead _ | .laneRead _ | .cellRead _ | .dacRead _ | .service => true
  | _ => false

/-- A granted read: counted, with the errors that the code finds in it (R260). -/
def State.moveRead (s : State) (p : Nat) (g : Grant) (addr : Nat) : State :=
  let s := s.tally (K.storePcReads p) 64 1
  let s := s.setPc p { s.pc p with reads := (s.pc p).reads + 1 }
  let s := s.corrected p addr g.corrected
  if g.uncorrectable then s.uncorrected p addr else s

/-- An activate (R254): a neighbour refresh with probability 2^-k. -/
def State.activate (s : State) (p : Nat) : State :=
  if s.obj K.storeNrrEnable = 0 then s
  else
    let d := s.draw 3
    if d.1 % 2 ^ s.obj K.storeNrrK = 0 then d.2.tally (K.storePcRfm p) 64 1 else d.2

/-- ARB_GRANT (R273): one 64-byte transfer at a port. -/
def xArbGrant (g : Grant) (s : State) : State :=
  match s.choose g.port g.wants with
  | none => s
  | some (libero, w) =>
    let s := s.countGrant g.port libero w.client
    let s := s.setPc g.port ((s.pc g.port).wait g.wants w.client)
    let s := (s.maxF32 (K.arbClientWaitMax w.client) (f32OfNat w.waitNs)).maxF32 (K.arbPortHoldMax g.port) (f32OfNat g.held)
    let s := if g.activates then s.activate g.port else s
    if isRead w.access then
      let s := s.moveRead g.port g w.addr
      match w.access with
      | .dacRead n => s.feedDac n
      | _ => s
    else (s.moveWrite g.port w.access).showLags

/-- GRANT_HOLD_LIMIT (R275): the grant is cut off with no effect, and its client gets a red card (DESIGN CHOICE, log entry 41). -/
def xGrantHoldLimit (p i : Nat) (s : State) : State :=
  if !s.admitted i then s
  else
    let s := (s.countGrant p false i).maxF32 (K.arbPortHoldMax p) (f32OfNat (s.obj K.arbHoldLimit))
    let s := ((s.set (K.arbClientState i) 1).count (K.arbClientCards i) 32 1).count K.arbRedCount 32 1
    (s.set K.arbRedLast (i * 256 + p)).raise (577 + 2 * p) (i * 256)

/-- ARB_CLIENT_CLEAR (R276): of a client that is not RED it changes nothing (DESIGN CHOICE, log entry 41). -/
def xClientClear (i : Nat) (s : State) : State :=
  if s.obj (K.arbClientState i) = 1 then (s.set (K.arbClientState i) 0).set (K.arbClientWaitMax i) 0 else s

/-- ARB_CLEAR_ALL (R276). -/
def xClearAll (s : State) : State :=
  (List.range 48).foldl (fun st i => if st.obj (K.arbClientState i) = 0 then st else st.set (K.arbClientState i) 0) s

/-- ARB_LIBERO_WRITE (R273): in force at once, and each port restarts its count. -/
def xLiberoWrite (v : Nat) (s : State) : State :=
  s.pcs.foldl (fun st e => st.setPc e.1 { st.pc e.1 with grants := 0 }) (s.poke K.arbLiberoN v)

/-- ARB_SYNC_CLEAR. -/
def xSyncClear (s : State) : State := s.set K.arbSyncSlow 0

/-- The paths of R268 that read worse than their slow-corner figure, in the order of `arb.cadence.flags`. -/
def cadenceWorse (v : Variant) (m : Cadence) : List Bool :=
  [(m.engines.take (engineCount v)).any (fun x => x < 1020000000), m.ports.any (fun x => x > 2110000), m.ingest < 20200000000,
   m.lane < 20200000000, m.group < 40400000000, m.sector < 80800000000, m.records < 90900000, m.forward > 1600000]

/-- `arb.cadence.flags` after a refresh (R269). -/
def cadenceFlags (old : Nat) (bad : List Nat) : Nat :=
  (List.range 8).foldl (fun a i => a + (if bad.getD i 0 = 0 then 0 else if bad.getD i 0 ≥ 3 then 1 else bitsOf old i i) * 2 ^ i) 0

/-- CADENCE_REFRESH (R268, R269, R271). -/
def xCadence (m : Cadence) (s : State) : State :=
  let before := s
  let s := (m.engines.take (engineCount s.variant)).zipIdx.foldl (fun st e => st.set (K.feCadence e.2) (f32OfRat e.1 1000000000)) s
  let s := (m.ports.take 32).zipIdx.foldl (fun st e => st.set (K.arbPortCadence e.2) (f32OfRat e.1 1000000)) s
  let s := s.set K.arbCadenceFactor (f32OfRat (m.ports.take 32).sum (32 * 1600000))
  let s := (s.set K.arbCadenceIngest (f32OfRat m.ingest 1000000000)).set K.arbCadenceLane (f32OfRat m.lane 1000000000)
  let s := (s.set K.arbCadenceEngines (f32OfRat m.group 1000000000)).set K.arbCadenceSector (f32OfRat m.sector 1000000000)
  let s := (s.set K.arbCadenceRecords (f32OfRat m.records 1000000)).set K.arbCadenceForward (f32OfRat m.forward 1000000)
  let s := s.tally K.arbSyncSlow 64 m.slow
  let bad := ((cadenceWorse s.variant m).zip s.cadenceBad).map (fun e => if e.1 then e.2 + 1 else 0)
  let s := { s with cadenceBad := bad }
  let flags := cadenceFlags (s.obj K.arbCadenceFlags) bad
  State.riseIf before (s.set K.arbCadenceFlags flags) 754 0

end Sys2Proof.Machine
end

