-- ==== Sys2Proof/Machine/Rally.lean ====
section
/-! DEFINITION. The formation (08_formation.md, R177 to R196): Rally fragments, time distribution, roles, negotiation, shared
line triggers, whistles, loss of lanes and members, peer streams. -/

namespace Sys2Proof.Machine

def rStandalone : Nat := 0
def rLinking : Nat := 1
def rNegotiating : Nat := 2
def rAligning : Nat := 3
def rAligned : Nat := 4
def rHealing : Nat := 5
def rIsland : Nat := 6
def rExcluded : Nat := 7
def rLost : Nat := 8

/-! ## Lanes and fragments (R178, R180, R181) -/

def State.rallyState (s : State) : Nat := s.obj K.rallyState
def State.memberId (s : State) : Nat := s.obj K.rallyMember
def State.modRally (s : State) (f : Rally → Rally) : State := { s with rally := f s.rally }

/-- The role of a lane in force: 1 HOST, 2 LEFT, 3 RIGHT, 4 TRUNK. -/
def State.roleOfLane (s : State) (i : Nat) : Nat := s.obj (K.laneRole i)

/-- The lanes in Rally role. -/
def State.rallyLanes (s : State) : List Nat := (List.range (laneCount s.variant)).filter (fun i => s.roleOfLane i ≥ 2)

/-- Whether a Rally lane is up. -/
def State.rallyUp (s : State) (i : Nat) : Bool := s.obj (K.rallyLaneState i) == 2

/-- The Rally lanes that are up. -/
def State.upLanes (s : State) : List Nat := s.rallyLanes.filter s.rallyUp

/-- A trunk lane on a member that is not captain: TIME, CONTROL and WHISTLE fragments only (R178). -/
def State.standby (s : State) (i : Nat) : Bool := s.roleOfLane i == 4 && s.obj K.rallyRole == 0

/-- What a lane keeps. -/
def State.rallyLane (s : State) (i : Nat) : RallyLane := Sp.get (fun _ => RallyLane.none_) s.rally.lanes i
def State.setRallyLane (s : State) (i : Nat) (x : RallyLane) : State :=
  s.modRally (fun r => { r with lanes := Sp.put (fun _ => RallyLane.none_) r.lanes i x })

def fWhistle : Nat := 1
def fTime : Nat := 2
def fTrigger : Nat := 3
def fTrack : Nat := 4
def fControl : Nat := 5
def fUmzin : Nat := 6
def fStream : Nat := 7

/-- A fragment header (R180) (DESIGN CHOICE, log entry 50). -/
def fragHeader (type : Nat) (first last : Bool) (hop channel seq length : Nat) : Nat :=
  let ends := 2 * ofBool first + ofBool last
  let v := (((((type * 4 + ends) * 16 + hop % 16) * 65536 + channel % 65536) * 65536 + seq % 65536) * 1024 + length % 1024) * 16
  v * 256 + crc8 56 v 0

def fragType (f : Frag) : Nat := bitsOf f.header 63 60
def fragHop (f : Frag) : Nat := bitsOf f.header 57 54
def fragChannel (f : Frag) : Nat := bitsOf f.header 53 38

/-- Whether a fragment is of a type, with a good CRC. -/
def fragGood (f : Frag) (type : Nat) : Bool := fragType f == type && crc8 56 (bitsOf f.header 63 8) 0 == f.header % 256

/-- The types that a lane may carry: TIME, CONTROL and WHISTLE on a standby trunk (R178), in LOAD UMZIN too (R185). -/
def State.mayCarry (s : State) (lane type : Nat) : Bool :=
  type < 3 || type == fControl || (!s.standby lane && (s.mode != mLoad || type == fUmzin))

/-- The next sequence number of a type on a lane, and the state after it is used (R180). -/
def State.nextSeq (s : State) (lane type : Nat) : Nat × State :=
  let x := s.rallyLane lane
  let n := x.seqs.getD (type - 1) 0
  (n, s.setRallyLane lane { x with seqs := x.seqs.set (type - 1) ((n + 1) % 65536), busy := true })

/-- A fragment leaves on a lane, which is then in flight: TIME bears the instant at which it leaves (R182); the length of a CONTROL message
is open (DESIGN CHOICE, log entry 50). -/
def State.launch (s : State) (lane : Nat) (w : Waiting) : State :=
  let r := s.nextSeq lane w.type
  let s := r.2
  match w.control with
  | some c =>
    let d := s.draw 71
    d.2.emit (.control lane (fragHeader w.type w.first w.last w.hop w.channel r.1 (8 + d.1 % 505)) c)
  | none =>
    let payload := if w.type = fTime then toLE 12 s.now ++ w.payload.drop 12 else w.payload
    s.emit (.fragment lane (fragHeader w.type w.first w.last w.hop w.channel r.1 payload.length) payload)

/-- A fragment arises for a lane: it leaves at once, or waits for the fragment boundary of one in flight (R181). -/
def State.offerFragment (s : State) (lane : Nat) (w : Waiting) : State :=
  if !s.mayCarry lane w.type then s
  else
    let x := s.rallyLane lane
    if x.busy then s.setRallyLane lane { x with waiting := x.waiting ++ [w] } else s.launch lane w

/-- Send a message of one fragment on a lane. -/
def State.sendFragment (s : State) (lane type hop channel : Nat) (payload : List Byte) : State :=
  s.offerFragment lane ⟨type, true, true, hop, channel, payload, none⟩

/-- Send a fragment on every lane that is up but one. -/
def State.flood (s : State) (but type hop channel : Nat) (payload : List Byte) : State :=
  (s.upLanes.filter (fun i => i != but)).foldl (fun st i => st.sendFragment i type hop channel payload) s

/-- Send a CONTROL message on a lane, and on every lane that is up but one. -/
def State.sendControl (s : State) (lane hop : Nat) (c : Control) : State :=
  s.offerFragment lane ⟨fControl, true, true, hop, 0, [], some c⟩
def State.floodControl (s : State) (but hop : Nat) (c : Control) : State :=
  (s.upLanes.filter (fun i => i != but)).foldl (fun st i => st.sendControl i hop c) s

/-- An UMZIN message goes toward a member in fragments of at most 512 bytes (R180, R181). -/
def State.sendUmzin (s : State) (lane hop dest : Nat) (bytes : List Byte) : State :=
  let n := ceilDiv bytes.length 512
  (List.range n).foldl (fun st k => st.offerFragment lane
    ⟨fUmzin, k == 0, k + 1 == n, hop, dest, (bytes.drop (512 * k)).take 512, none⟩) s

/-- A fragment arrives on a lane in Rally role: counted, or dropped (R180). A STANDALONE device accepts none (R177). -/
def State.receive (s : State) (lane type : Nat) (f : Frag) : State × Bool :=
  if s.roleOfLane lane < 2 || s.rallyState = rStandalone then (s, false)
  else if fragGood f type then (s.tally (K.rallyLaneFragments lane) 64 1, true)
  else (s.count (K.rallyLaneDropped lane) 32 1, false)

/-! ## Roles and membership (R179, R183, R186) -/

/-- The members at the far ends of the lanes that are up. -/
def State.links (s : State) : List Nat := (s.upLanes.map (fun i => s.obj (K.rallyLanePeer i))).filter (fun m => m != 0xFF)

/-- The delay d_rx of the upstream lane in ps. -/
def State.upDelay (s : State) : Nat :=
  if s.obj K.rallyUpstream = 0xFF then 0
  else (roundHalfEven (f32Mag (s.obj (K.rallyLaneDelay (s.obj K.rallyUpstream)))) f32Den).toNat

/-- This member as CONTROL tells of it. -/
def State.selfMember (s : State) : RallyMember :=
  ⟨s.memberId, s.identity, s.upLanes.any (fun i => s.roleOfLane i == 4), s.rallyState == rAligned, s.mode == mRun || s.mode == mHold,
   s.obj K.rallyShareSource, s.obj K.rallyShareBackup, s.links,
   if s.obj K.rallyUpstream = 0xFF then 0xFF else s.obj (K.rallyLanePeer (s.obj K.rallyUpstream)), s.upDelay⟩

/-- The members that are reached over links that the ones before them report. -/
def reach (ms : List RallyMember) : Nat → List Nat → List Nat
  | 0, ids => ids
  | n + 1, ids => reach ms n ((ids ++ (ms.filter (fun m => ids.contains m.id)).flatMap (·.links)).eraseDups)

/-- The members known and reachable (R179), this one among them. -/
def State.known (s : State) : List RallyMember :=
  let others := s.rally.members.filter (fun m => m.id != s.memberId)
  let ids := if others.isEmpty then [] else reach others others.length s.links
  s.selfMember :: others.filter (fun m => ids.contains m.id)

/-- A member that is no longer reached is lost, and its offer with it (R193, R194). -/
def State.pruneMembers (s : State) : State :=
  let ids := s.known.map (·.id)
  let gone := s.rally.members.filter (fun m => !ids.contains m.id)
  let s := s.modRally (fun r => { r with members := r.members.filter (fun m => ids.contains m.id),
                                         offers := r.offers.filter (fun o => ids.contains o.1) })
  gone.foldl (fun st m => st.raise 752 m.id) s

/-- The timing ancestors of a member, itself first, with the delay in ps from each to it (R183, R184). -/
def ancestors (ms : List RallyMember) : Nat → Nat → Nat → List (Nat × Nat)
  | 0, _, _ => []
  | n + 1, id, ps => (id, ps) :: (match ms.find? (fun m => m.id == id) with
    | some m => if m.up = 0xFF then [] else ancestors ms n m.up (ps + m.delay)
    | none => [])

/-- Hops, and delay in ps, between two members through their nearest common timing ancestor (R184). -/
def treePath (ms : List RallyMember) (a b : Nat) : Option (Nat × Nat) :=
  let up := ancestors ms ms.length a 0
  let down := ancestors ms ms.length b 0
  (up.zipIdx.find? (fun e => down.any (fun d => d.1 == e.1.1))).bind (fun e =>
    (down.zipIdx.find? (fun d => d.1.1 == e.1.1)).map (fun d => (e.2 + d.2, e.1.2 + d.1.2)))

/-- The longest timing path between aligned members, in hops (R184). -/
def longestPath (ms : List RallyMember) : Nat :=
  let ok := ms.filter (·.aligned)
  ok.foldl (fun a m => ok.foldl (fun b k => match treePath ms m.id k.id with | some p => max b p.1 | none => b) a) 0

/-- The largest distribution delay from a member to another in ns: 192 ns a hop, and the cables (R187, R188)
(DESIGN CHOICE, log entry 51). -/
def largestDelay (ms : List RallyMember) (id : Nat) : Nat :=
  ms.foldl (fun a m => match treePath ms id m.id with | some p => max a (ceilDiv (192000 * p.1 + p.2) 1000) | none => a) 0

/-- The lowest position among members. -/
def lowest (ms : List RallyMember) : Option Nat := (ms.map (·.id)).min?

/-- The members of a span that may be captain: all where there is one span, else those with a trunk lane up. -/
def State.candidates (s : State) (span : Nat) : List RallyMember :=
  (s.known.filter (fun m => m.id / 8 == span)).filter (fun m => s.force K.boardSpans ≤ 1 || m.trunk)

/-- The captain of this span: the one in office stays while a member of the span runs; else the lowest candidate; the lowest
member where the span is an island. -/
def State.captainNow (s : State) : Nat :=
  let span := s.memberId / 8
  let mine := s.known.filter (fun m => m.id / 8 == span)
  let cs := s.candidates span
  let old := s.obj K.rallyCaptain
  if mine.any (fun m => m.running) && cs.any (fun m => m.id == old) then old
  else (lowest (if cs.isEmpty then mine else cs)).getD s.memberId

/-- Whether no member of this span has a trunk lane up though there are more spans (R179). -/
def State.isIsland (s : State) : Bool := 1 < s.force K.boardSpans && (s.candidates (s.memberId / 8)).isEmpty

/-- The lead captain: of the lowest-numbered span with a captain; of an island its own captain (DESIGN CHOICE, log entry 51). -/
def State.leadNow (s : State) (captain : Nat) : Nat :=
  if s.isIsland then captain
  else match (List.range 8).find? (fun k => !(s.candidates k).isEmpty) with
    | some k => if k = s.memberId / 8 then captain else (lowest (s.candidates k)).getD captain
    | none => captain

/-- A change of member state. LINKING begins the settling of the version anew (R186). -/
def State.setRally (s : State) (v : Nat) : State :=
  let s := (s.set K.rallyState v).set K.rallyFlags (withBit (s.obj K.rallyFlags) 3 (v == rIsland))
  if v = rLinking then s.modRally (fun r => { r with agreed := false }) else s

/-- Whether this span is a chain: some member of it is without two neighbours in it (R178, R194). -/
def State.isChain (s : State) : Bool :=
  let mine := s.known.filter (fun m => m.id / 8 == s.memberId / 8)
  1 < mine.length && mine.any (fun m => decide ((m.links.filter (fun k => k / 8 == m.id / 8)).length < 2))

/-- The generators that this member and another both source, bit p for generator p (R190). -/
def State.contested (s : State) : Nat :=
  (s.known.tail).foldl (fun a m => a ||| (m.sources &&& s.obj K.rallyShareSource)) 0

/-- `rally.members` with the aligned members known, `rally.d_max`, and the flags PATH, SHARE_CONFLICT and CHAIN (R184, R188, R190, R194). -/
def State.showMembers (s : State) : State :=
  let ms := s.known
  let s := s.set K.rallyMembers ((ms.filter (·.aligned)).foldl (fun a m => a ||| 2 ^ m.id) 0)
  let s := s.set K.rallyDMax (largestDelay ms s.memberId)
  let fl := withBit (withBit (s.obj K.rallyFlags) 0 (decide (12 < longestPath ms))) 2 (s.contested != 0)
  s.set K.rallyFlags (withBit fl 4 s.isChain)

/-- This member's time follows its role (R158): the lead captain and a device that stands alone leave RALLY, a member leaves PTP
(DESIGN CHOICE, log entry 51). -/
def State.timeOfRole (s : State) : State :=
  if s.timeByRally then
    if s.obj K.timeSource = 1 then (s.losePtp).set K.timeSource 2 else s
  else s.loseRally

/-- The Rally versions that this member offers: its range while `versions.accept` is 1, else what current tested entries hold
of it. -/
def State.ownOffer (s : State) : List (Nat × Nat) :=
  let lo := s.obj K.versionsRallyMin
  let hi := s.obj K.versionsRallyMax
  if s.obj K.versionsAccept = 1 then [(lo, hi)]
  else (s.currentCombos.map (fun e => (max lo (e.getD 6 0), min hi (e.getD 7 0)))).filter (fun p => p.1 / 256 ≤ p.2 / 256)

/-- The roles follow from the members known (R179, R194); a captaincy that falls to this member is declared, and a span that has its trunk
again links anew (R194) (DESIGN CHOICE, log entry 51). -/
def State.updateRoles (s : State) : State :=
  let s := s.pruneMembers
  let cap := s.captainNow
  let lead := s.leadNow cap
  let role := if lead = s.memberId then 2 else if cap = s.memberId then 1 else 0
  let rises := s.obj K.rallyRole < role
  let s := ((s.set K.rallyCaptain cap).set K.rallyLead lead).set K.rallyRole role
  let s := if role = 2 then ((s.set K.rallyUpstream 0xFF).set K.rallyHops 0).set K.rallyStatic 0 else s
  let s := if s.isIsland && [rAligning, rAligned, rHealing].contains s.rallyState then s.setRally rIsland
    else if !s.isIsland && s.rallyState = rIsland then
      let s := s.setRally rLinking
      s.floodControl 0xFF 0 (.join s.selfMember s.ownOffer)
    else s
  let s := if role = 2 && !s.isIsland && (s.rallyState = rAligning || s.rallyState = rHealing) then s.setRally rAligned else s
  let s := s.timeOfRole.showMembers
  if rises && s.rallyState ≠ rStandalone then s.floodControl 0xFF 0 (.captain s.memberId (role == 2)) else s

/-- The upstream lane (R183): of the lanes allowed, the peer with the fewest hops to the lead, ties to the lower lane. -/
def State.chooseUpstream (s : State) : Option Nat :=
  if s.obj K.rallyRole = 2 then none
  else
    let cap := s.obj K.rallyRole = 1
    let ls := s.upLanes.filter (fun i => (s.roleOfLane i == 4) == cap && (s.rallyLane i).hops < 15)
    ls.foldl (fun b i => match b with
      | none => some i
      | some j => if (s.rallyLane i).hops < (s.rallyLane j).hops then some i else some j) none

/-- Take up an upstream: a new one begins the alignment count again. -/
def State.takeUpstream (s : State) : State :=
  match s.chooseUpstream with
  | none => s
  | some i =>
    let h := min 15 ((s.rallyLane i).hops + 1)
    let s := if s.obj K.rallyUpstream = i then s
      else (s.set K.rallyUpstream i).modRally (fun r => { r with runs := 0, sum := 0, squares := 0 })
    (s.set K.rallyHops h).set K.rallyStatic (f32OfNat (5 * h))

/-! ## Time (R182 to R186) -/

/-- Picoseconds of a count of 2^-16 ns. -/
def psOf (units : Int) : Int := roundHalfEven (units * 1000) 65536

/-- One exchange enters the alignment count and the second of `rally.wander`. -/
def State.countExchange (s : State) (ps : Int) : State :=
  let s := s.modRally (fun r => { r with
    runs := r.runs + 1, sum := r.sum + ps, squares := r.squares + ps.natAbs ^ 2,
    secRuns := r.secRuns + 1, secSum := r.secSum + ps, secSquares := r.secSquares + ps.natAbs ^ 2 })
  if s.clock < s.rally.secStart + perS then s
  else
    let r := s.rally
    let n := max 1 r.secRuns
    let var := r.secSquares * n - r.secSum.natAbs ^ 2
    (s.set K.rallyWander (Frac.sqrtF32 ⟨var, n * n⟩)).modRally (fun x =>
      { x with secRuns := 0, secSum := 0, secSquares := 0, secStart := s.clock })

/-- After 1,000 exchanges: ALIGNED where the mean lies within 10 ps and the wander within 25 ps rms (R186), and the others are told; the
members of an island stay ISLAND (R179) (DESIGN CHOICE, log entry 51). -/
def State.judgeAlign (s : State) : State :=
  let r := s.rally
  if r.runs < 1000 then s
  else
    let good := r.sum.natAbs ≤ 10 * r.runs && r.squares * r.runs - r.sum.natAbs ^ 2 ≤ 625 * r.runs * r.runs
    let s := s.modRally (fun x => { x with runs := 0, sum := 0, squares := 0 })
    if good && [rAligning, rHealing].contains s.rallyState then
      let s := s.setRally rAligned
      (s.floodControl 0xFF 0 (.topology s.selfMember)).showMembers
    else s

/-- RALLY_TIME_SEND (R182): a lane that is up sends its TIME fragment. The epoch byte is open (DESIGN CHOICE, log entry 2). -/
def xTimeSend (lane : Nat) (s : State) : State :=
  if s.roleOfLane lane < 2 || !s.rallyUp lane || s.rallyState = rStandalone then s
  else
    let x := s.rallyLane lane
    let hops := if s.obj K.rallyRole = 2 then 0 else if s.obj K.rallyUpstream = 0xFF then 15 else s.obj K.rallyHops
    let epoch := s.draw 30
    epoch.2.sendFragment lane fTime 0 0 (toLE 12 s.now ++ toLE 12 (time96 x.peerTx) ++ toLE 12 (time96 x.arrival) ++
      toLE 1 hops ++ toLE 1 (s.obj K.rallyLead) ++ toLE 1 (s.obj K.timeSource) ++ toLE 1 (epoch.1 % 256))

/-- 2π in units of 10^-9. -/
def twoPiNano : Nat := 6283185307

/-- The rate in ppb to which the second-order loop of bandwidth f steers: −(2ζω × offset + ω² × its sum over time), with ω = 2πf, within
`time.slew_max`; the loop's damping ζ is open (R159, R183, DESIGN CHOICE, log entry 2). -/
def loopRate (f zeta slew : Nat) (ps sum : Int) : Int :=
  let w := twoPiNano * f
  let fast := 2 * (zeta : Int) * w * ps * (1000000000 * perS : Nat)
  let slow := (w * w : Nat) * sum * 1000
  let r := roundHalfEven (-(fast + slow)) (1000 * 1000 * 1000000000 * 1000000000 * perS)
  max (-(slew : Int)) (min slew r)

/-- An exchange with the upstream steers the counter by the loop of `rally.loop_bw` (R182, R183, R185). -/
def State.steer (s : State) (offset : Int) : State :=
  let ps := psOf offset
  let s := s.set K.rallyOffset (satSigned 32 ps)
  let s := if s.obj K.timeSource = 2 then s else { s.set K.timeSource 2 with lockRuns := 0 }
  let dt := match s.rally.loopAt with | some t => s.clock - t | none => 0
  let sum := s.rally.loopSum + ps * dt
  let s := s.modRally (fun r => { r with loopSum := sum, loopAt := some s.clock })
  let rate := loopRate (s.obj K.rallyLoopBw) (Config.free 72 0) (s.obj K.timeSlewMax) ps sum
  let t := s.synchronise offset rate
  let t := if t.time = s.time then t else t.modRally (fun r => { r with loopSum := 0 })
  (t.countExchange ps).judgeAlign

/-- RALLY_TIME_FRAGMENT (R182). -/
def xTimeFragment (lane : Nat) (f : Frag) (s : State) : State :=
  let r := s.receive lane fTime f
  let s := r.1
  if !r.2 || s.rallyState = rExcluded then s
  else
    let t1 := ofTime96 (leAt f.payload 0 12)
    let t3 := ofTime96 (leAt f.payload 12 12)
    let t4 := ofTime96 (leAt f.payload 24 12)
    let t2 := s.time
    let s := s.setRallyLane lane { s.rallyLane lane with
      peerTx := t1, arrival := t2, hops := leAt f.payload 36 1, lead := leAt f.payload 37 1 }
    if leAt f.payload 12 12 = 0 then s
    else
      let asym := signed 16 (s.obj (K.rallyLaneAsym lane)) * 65536 / 1000
      let rtt : Int := ((t4 : Int) - t1) - ((t3 : Int) - t2)
      let drx := (rtt + asym) / 2
      let offset := (t2 : Int) - t1 - drx
      let s := s.set (K.rallyLaneDelay lane) (f32OfIntRat (drx * 1000) 65536)
      let s := if s.rallyState = rLinking then (s.setRally (if s.rally.agreed then rAligning else rNegotiating)).updateRoles else s
      let s := s.takeUpstream
      if s.obj K.rallyUpstream = lane then s.steer offset else s

/-! ## Negotiation (R193) -/

/-- Whether an offer holds a version. -/
def offers (o : List (Nat × Nat)) (v : Nat) : Bool := o.any (fun p => p.1 / 256 ≤ v / 256 && v / 256 ≤ p.2 / 256)

/-- The version contained in the most offers, among equals the highest: it is the upper end of some range. -/
def chooseVersion (os : List (List (Nat × Nat))) : Option Nat :=
  let score := fun v => (os.filter (fun o => offers o v)).length
  (os.flatMap (fun o => o.map (·.2))).foldl (fun b v => match b with
    | none => some v
    | some w => if score v > score w || (score v = score w && v > w) then some v else some w) none

/-- Exclusion, with an abort code and its detail (R193): the device runs on its own time (DESIGN CHOICE, log entry 51). -/
def State.exclude (s : State) (code detail : Nat) : State :=
  (((s.setRally rExcluded).set K.rallyLastFail (code * 65536 + detail % 65536)).raise 752 s.memberId).loseRally

/-- v* is announced: a member whose offer holds it aligns, any other is excluded. -/
def State.adoptVersion (s : State) (v : Nat) : State :=
  if s.rallyState = rExcluded || s.rallyState = rStandalone then s
  else if offers s.ownOffer v then
    let s := ((s.set K.rallyVersion v).inForceWord 4 5 v).modRally (fun r => { r with agreed := true })
    (if s.rallyState = rNegotiating then s.setRally rAligning else s).updateRoles
  else
    let code := match s.classify 5 v with | .untestable => aStale | _ => aUntested
    (s.noteRefusal 5 code).exclude code 0

/-- NEGOTIATION_WINDOW (R193): the lead captain chooses, unless a member is in RUN or HOLD. -/
def xNegotiationWindow (s : State) : State :=
  let s := s.updateRoles
  if s.obj K.rallyRole ≠ 2 || s.known.any (·.running) || s.rallyState = rStandalone || s.rallyState = rExcluded then s
  else match chooseVersion (s.ownOffer :: (s.rally.offers.filter (fun o => o.1 != s.memberId)).map (·.2)) with
    | some v => (s.floodControl 0xFF 0 (.version v)).adoptVersion v
    | none => s

/-! ## CONTROL, loss and return (R194, R195) -/

/-- What a member reports replaces what was known of it. -/
def State.takeMember (s : State) (m : RallyMember) : State :=
  s.modRally (fun r => { r with members := r.members.filter (fun x => x.id != m.id) ++ [m] })

/-- What a CONTROL message may change of this member's view. -/
def State.view (s : State) : List RallyMember × List (Nat × List (Nat × Nat)) × Nat × Nat × Nat × Bool :=
  (s.rally.members, s.rally.offers, s.obj K.rallyVersion, s.obj K.rallyCaptain, s.obj K.rallyLead, s.rally.agreed)

/-- RALLY_CONTROL_FRAGMENT: what changes this member's view is passed on (R193, R194) (DESIGN CHOICE, log entry 50). -/
def xControl (lane hop : Nat) (c : Control) (s : State) : State :=
  if s.roleOfLane lane < 2 || s.rallyState = rStandalone then s
  else
    let s := s.tally (K.rallyLaneFragments lane) 64 1
    let t := match c with
      | .join m offer =>
        if m.id = s.memberId then
          if m.device = s.identity || s.rallyState = rExcluded then s else s.exclude aConflict (0x1200 + m.id)
        else
          let s := if s.obj (K.rallyLanePeer lane) = 0xFF then s.set (K.rallyLanePeer lane) m.id else s
          let s := s.takeMember m
          let s := s.modRally (fun r => { r with offers := r.offers.filter (fun x => x.1 != m.id) ++ [(m.id, offer)] })
          let s := s.updateRoles
          if s.obj K.rallyRole = 2 && s.obj K.rallyVersion ≠ 0 && s.known.any (·.running) then
            s.floodControl 0xFF 0 (.version (s.obj K.rallyVersion)) else s
      | .topology m => if m.id = s.memberId then s else ((s.takeMember m).updateRoles).takeUpstream
      | .version v => if v = s.obj K.rallyVersion && s.rally.agreed then s else s.adoptVersion v
      | .captain m lead =>
        let s := if m / 8 = s.memberId / 8 then s.set K.rallyCaptain m else s
        ((if lead then s.set K.rallyLead m else s).updateRoles).takeUpstream
      | .leave m =>
        let s := s.modRally (fun r => { r with members := r.members.filter (fun x => x.id != m), offers := r.offers.filter (fun x => x.1 != m) })
        let s := if s.obj (K.rallyLanePeer lane) = m then (s.set (K.rallyLaneState lane) 4).set (K.rallyLanePeer lane) 0xFF else s
        (s.updateRoles).takeUpstream
    if t.view != s.view && t.rallyState ≠ rExcluded && hop < 15 then t.floodControl lane (hop + 1) c else t

/-- The lane that a peer context names by role (R196). -/
def State.peerLane (s : State) (c : Nat) : Option Nat :=
  s.rallyLanes.find? (fun i => s.roleOfLane i == s.node (K.graphNodeInput2 c))

/-- The contexts that receive a peer stream on a lane. -/
def State.peerCtxs (s : State) (lane : Nat) : List Nat :=
  s.ringed.filter (fun c => s.node (K.graphNodeSource c) == 3 && s.peerLane c == some lane)

/-- A lane in Rally role comes up: this member joins over it, one that was lost or an island whose trunk is back links anew, and its peer
contexts return (R186, R194). -/
def State.rallyLaneUp (s : State) (lane : Nat) : State :=
  if s.roleOfLane lane < 2 || s.rallyState = rStandalone then s
  else
    let s := (s.set (K.rallyLaneState lane) 2).setRallyLane lane .none_
    let s := if s.rallyState = rLost || (s.rallyState = rIsland && s.roleOfLane lane = 4) then s.setRally rLinking else s
    let s := (s.updateRoles).sendControl lane 0 (.join s.selfMember s.ownOffer)
    (s.peerCtxs lane).foldl (fun st c => if st.obj (K.ctxCause c) = 8 then st.returnSource c else st) s

/-- A lane in Rally role goes down, to a state of `rally.lane[i].state`: its peer contexts lose their source, the others learn of it; a
member whose upstream it was heals, but for one that leaves; one without a lane is alone on its own time (R194 to R196). -/
def State.rallyLaneDown (s : State) (lane state : Nat) : State :=
  let s := (s.set (K.rallyLaneState lane) state).set (K.rallyLanePeer lane) 0xFF
  let s := s.setRallyLane lane .none_
  let s := (s.peerCtxs lane).foldl (fun st c => st.loseSource c 8) s
  let was := s.obj K.rallyUpstream = lane
  let s := s.floodControl lane 0 (.topology s.selfMember)
  let s := s.updateRoles
  let s := if was && s.obj K.rallyRole ≠ 2 then
      let s := (s.set K.rallyUpstream 0xFF).modRally (fun r => { r with runs := 0, sum := 0, squares := 0 })
      let s := if s.obj K.timeState = 2 && s.obj K.timeSource = 2 then s.setTimeState 3 else s
      let s := if state ≠ 4 && (s.rallyState = rAligned || s.rallyState = rAligning) then s.setRally rHealing else s
      s.takeUpstream
    else s
  let s := if s.upLanes.isEmpty && s.rallyState ≠ rStandalone && s.rallyState ≠ rExcluded then (s.setRally rLost).loseRally else s
  s.showMembers

/-- RALLY_LANE_LOST (R194). -/
def xRallyLaneLost (lane : Nat) (s : State) : State :=
  if s.roleOfLane lane < 2 || !s.rallyUp lane then s
  else s.rallyLaneDown lane 3

/-- HEALING_TIMEOUT (R186). -/
def xHealingTimeout (s : State) : State :=
  if s.rallyState ≠ rHealing then s
  else if s.upLanes.isEmpty then (s.setRally rLost).loseRally else s.setRally rIsland

/-- The leave procedure of a lane (R195). -/
def State.leaveLane (s : State) (lane : Nat) : State :=
  let s := s.floodControl 0xFF 0 (.leave s.memberId)
  s.rallyLaneDown lane 4

/-- Board facts name the lanes and the member (R177, R186). -/
def State.rallyFromBoard (s : State) : State :=
  let s := s.set K.rallyMember (8 * s.force K.boardSpan + s.force K.boardPosition)
  let s := s.rallyLanes.foldl (fun st i => if st.obj (K.rallyLaneState i) = 0 then st.set (K.rallyLaneState i) 1 else st) s
  let s := ((List.range (laneCount s.variant)).filter (fun i => s.roleOfLane i < 2)).foldl
    (fun st i => if st.obj (K.rallyLaneState i) = 0 then st else st.set (K.rallyLaneState i) 0) s
  if s.rallyLanes.isEmpty then if s.rallyState = rStandalone then s else (s.setRally rStandalone).loseRally
  else if s.rallyState = rStandalone then (s.setRally rLinking).updateRoles else s

/-! ## Shared line triggers (R187 to R190) -/

/-- Whether this member takes part in shared generators. -/
def State.sharing (s : State) : Bool := [rNegotiating, rAligning, rAligned, rHealing, rIsland].contains s.rallyState

/-- Another member that is known sources a generator. -/
def State.otherSource (s : State) (p : Nat) : Option Nat :=
  lowest ((s.known.tail).filter (fun m => bitsOf m.sources p p == 1))

/-- Whether this member announces a generator: as its source, but for one that a source of a lower member id announces too, or as its
backup once no source is known (R187, R190) (DESIGN CHOICE, log entry 51). -/
def State.announces (s : State) (p : Nat) : Bool :=
  s.sharing && ((bitsOf (s.obj K.rallyShareSource) p p == 1 &&
      (match s.otherSource p with | some m => decide (s.memberId < m) | none => true)) ||
    (bitsOf (s.obj K.rallyShareBackup) p p == 1 && bitsOf (s.obj K.rallyShareSource) p p == 0 && (s.otherSource p).isNone))

/-- Whether a generator's lines come from announcements: FORMATION, shared as source, or shadowed as backup. -/
def State.followsDue (s : State) (p : Nat) : Bool :=
  s.obj (K.pitchSource p) == 1 ||
    (s.sharing && (bitsOf (s.obj K.rallyShareSource) p p == 1 || bitsOf (s.obj K.rallyShareBackup) p p == 1))

/-- The check of the horizon by a member that announces generators (R188). -/
def State.checkHorizon (s : State) : State :=
  let s := s.showMembers
  let short := (List.range 16).any s.announces && decide (s.obj K.rallyTriggerHorizon < s.obj K.rallyDMax + 500)
  let was := bitsOf (s.obj K.rallyFlags) 1 1 == 1
  let s := s.set K.rallyFlags (withBit (s.obj K.rallyFlags) 1 short)
  if short && !was then s.raise 751 0 else s

/-- The payload of a TRIGGER fragment (R181). -/
def triggerPayload (line target fraction instant flags : Nat) : List Byte :=
  toLE 8 line ++ toLE 6 target ++ toLE 2 fraction ++ toLE 12 (time96 instant) ++ toLE 1 flags ++ [0, 0, 0]


/-- The number that the next announced line carries. -/
def State.nextAnnounced (s : State) (p : Nat) : Nat :=
  match (s.pitchOf p).announced with
  | some k => (k + 1) % 2 ^ 64
  | none => s.nextTriggerLine p

/-- The first target of a generator from a place on that the strip is to cross at or after an instant, how many targets come before it,
and the instant of its crossing as a fraction of 2^-16 ns (R187). -/
def firstFrom (edges : List (Nat × Int)) (w : Nat) (moved target pitch : Int) (least : Nat) : Option (Int × Nat × Nat × Nat) :=
  (predicted edges w (target - moved)).bind (fun f =>
    (predicted edges w pitch).map (fun g =>
      let t0 := match edges with | e :: _ => e.1 | [] => 0
      let each := g.1 - t0 * g.2
      let short := least * f.2 - f.1
      let k := if each = 0 then 0 else ceilDiv (short * g.2) (each * f.2)
      let k := if target + k * pitch = 0 then k + 1 else k
      (target + k * pitch, k, f.1 * g.2 + k * each * f.2, f.2 * g.2)))

/-- SHARED_TRIGGER_ANNOUNCE (R187, R188, R190): the line of the first target that is crossed at least `rally.trigger_horizon` from now, at
the predicted instant; a backup's first announcement is its takeover, with the targets that passed without a line. -/
def xSharedAnnounce (p : Nat) (s : State) : State :=
  if !s.announces p || !isOn (s.obj (K.pitchStatus p)) || s.obj (K.pitchSource p) ≠ 0 || s.encOf p ≥ 8 then s
  else
    let s := s.checkHorizon
    let x := s.pitchOf p
    let tg := s.targetOf p
    let w : Int := s.obj (K.pitchPitch p)
    let w := if tg.2 then w else -w
    match firstFrom (s.enc (s.encOf p)).recent (s.obj (K.pitchWindow p)) x.moved tg.1 w
        (s.clock + s.obj K.rallyTriggerHorizon * perNs) with
    | none => s
    | some (target, passed, num, den) =>
      let backup := bitsOf (s.obj K.rallyShareSource) p p == 0
      let s := if backup && !x.took then
          ((s.count K.rallyTakeovers 32 1).count K.rallyTakeoverLines 32 passed).raise 752 s.memberId
        else s
      let instant := s.onGrid p num den
      let s := s.settle (K.pitchPitch p)
      let nx := nextTargets (s.obj (K.pitchDirection p)) tg.2 target (s.obj (K.pitchPitch p)) x
      let pos := s.stampedPosition (s.encOf p) * 65536 + target - x.moved
      let line := s.nextAnnounced p
      let d : Due := ⟨line, (posWords pos).1, (posWords pos).2, instant, false⟩
      let s := s.setPitch p { x with up := nx.1, down := nx.2, due := x.due ++ [d], announced := some line, took := x.took || backup }
      s.flood 0xFF fTrigger 0 p (triggerPayload line d.target d.fraction (s.timeAt instant) 0)

/-- TRIGGER_HEARTBEAT (R187): with no line due. -/
def xHeartbeat (p : Nat) (s : State) : State :=
  if !s.announces p || !isOn (s.obj (K.pitchStatus p)) || !(s.pitchOf p).due.isEmpty then s
  else (s.setPitch p { s.pitchOf p with heard := max (s.pitchOf p).heard s.time }).flood 0xFF fTrigger 0 p
    (triggerPayload (s.obj (K.pitchLine p)) (s.obj (K.pitchLastPos p)) 0 s.time 1)

/-- RALLY_TRIGGER_FRAGMENT (R187 to R190): passed on once; a line is scheduled at its instant on the generator's own grid, 16 ns after
arrival where that has gone by. The lines of a source of a higher member id are ignored by one of a lower id. -/
def xTriggerFragment (lane : Nat) (f : Frag) (s : State) : State :=
  let r := s.receive lane fTrigger f
  let s := r.1
  let p := fragChannel f
  if !r.2 || !s.sharing || p ≥ 16 then s
  else
    let x := s.pitchOf p
    let line := leAt f.payload 0 8
    let at_ := ofTime96 (leAt f.payload 16 12)
    let beat := leAt f.payload 28 1 % 2 == 1
    let new := if beat then decide (x.heard < at_) else (match x.announced with | some k => decide (k < line) | none => true)
    if !new then s
    else
      let s := s.flood lane fTrigger ((fragHop f + 1) % 16) p f.payload
      if bitsOf (s.obj K.rallyShareSource) p p == 1 && s.announces p && (s.otherSource p).isSome then s
      else if beat then s.setPitch p { x with heard := at_ }
      else
        let late := decide (at_ ≤ s.time)
        let go := if late then s.clock + lateBy else s.onGrid p (s.clockOf at_) 1
        let n := match x.announced with | some k => line - k | none => 1
        let w : Int := s.force (K.pitchPitch p)
        let d : Due := ⟨line, leAt f.payload 8 6, leAt f.payload 14 2, go, late⟩
        let due := if s.followsDue p then x.due ++ [d] else x.due
        let tg := s.targetOf p
        let nx := nextTargets (s.obj (K.pitchDirection p)) tg.2 (if tg.2 then tg.1 + w * (n - 1) else tg.1 - w * (n - 1)) w x
        s.setPitch p { x with due := due, announced := some line, heard := max x.heard s.time, up := nx.1, down := nx.2 }

/-- RALLY_TRACK_FRAGMENT (R189): the newest four stay in the replica track. -/
def xTrackFragment (lane : Nat) (f : Frag) (s : State) : State :=
  let r := s.receive lane fTrack f
  let s := r.1
  let p := fragChannel f
  if !r.2 || !s.sharing || p ≥ 16 then s
  else
    let x := s.pitchOf p
    let t := ofTime96 (leAt f.payload 0 12)
    if x.replica.any (fun e => t ≤ e.1) then s
    else
      let es := (List.range 32).map (fun i => signed 48 (leAt f.payload (12 + 8 * i) 6) * 65536 + leAt f.payload (18 + 8 * i) 2)
      (s.flood lane fTrack ((fragHop f + 1) % 16) p f.payload).setPitch p { x with replica := (t, es) :: x.replica.take 3 }

/-- A trigger that a generator has issued takes effect: RUN is entered where it waits for the trigger (R77, R88), and lines, blanking
windows and strobe groups follow (R224, R349, R359). -/
def State.spreadTrigger (s : State) (p line at_ : Nat) : State :=
  (((if s.runsWith p then s.enterRun else s).reachLines p line at_).blankLines p).pitchStrobes p

/-- LINE_TRIGGER (R169 to R171): the generator's own trigger at the instant that it aims at, and what it bounds; a generator that aims at
none issues none (DESIGN CHOICE, log entry 31). -/
def xLineTrigger (p : Nat) (s : State) : State :=
  if !s.firesLocally p then s
  else match (s.pitchOf p).aim with
    | none => s
    | some (at_, late) =>
      let f := (s.advance at_).firePitch p at_ late
      match f.2 with
      | some line => f.1.spreadTrigger p line at_
      | none => f.1

/-- A generator issues the announced line whose instant has come (R187, R189). -/
def State.issueDue (s : State) (p : Nat) : State :=
  let x := s.pitchOf p
  match x.due with
  | [] => s
  | d :: rest =>
    if !isOn (s.obj (K.pitchStatus p)) then s
    else
      let s := (s.advance d.at_).settle (K.pitchPitch p)
      let s := (s.setPitch p { x with due := rest }).issueTrigger p d.line d.target d.at_
      let s := s.set (K.pitchStatus p) (withBit (s.obj (K.pitchStatus p)) 4 d.late)
      let s := if d.late then s.count (K.pitchLate p) 32 1 else s
      s.spreadTrigger p d.line d.at_

/-- LINE_TRIGGER of any generator (R169 to R171, R187, R189): a shared one issues what was announced, an excluded member's shared one is
idle (R193). -/
def xLineTriggerAll (p : Nat) (s : State) : State :=
  if s.rallyState = rExcluded && bitsOf (s.obj K.rallyShareSource) p p = 1 then s
  else if s.followsDue p then s.issueDue p
  else xLineTrigger p s

/-! ## Whistles (R191, R192) -/

/-- Raise a whistle with a cause byte, flooded on every Rally lane (DESIGN CHOICE, log entry 23). -/
def State.raiseWhistle (s : State) (cause : Nat) : State :=
  if s.rallyState = rStandalone || s.rallyState = rExcluded then s
  else
    let n := s.rally.number
    let s := s.modRally (fun r => { r with number := (n + 1) % 65536, seen := r.seen ++ [(s.memberId, n, s.clock)] })
    let s := s.count K.rallyWhistleSent 32 1
    s.flood 0xFF fWhistle 0 0 (toLE 1 s.memberId ++ toLE 1 cause ++ toLE 2 n ++ toLE 12 s.now)

/-- A whistle is acted on: counted, shown, the cause of R93, the input of the Backstop for 1 µs (R295). -/
def State.actWhistle (s : State) (payload : List Byte) : State :=
  let s := (s.count K.rallyWhistleReceived 32 1).set K.rallyWhistleLast (ofLE (slice payload 0 16))
  let s := { s with whistleUntil := s.clock + perUs }.raise 753 (leAt payload 0 1)
  if s.obj K.deviceSafeOnWhistle = 1 then s.askSafe 2 else s

/-- WHISTLE_FRAGMENT (R191): forwarded in hardware on the other lanes, and acted on, once. -/
def xWhistleFragment (lane : Nat) (f : Frag) (s : State) : State :=
  let r := s.receive lane fWhistle f
  let s := r.1
  let origin := leAt f.payload 0 1
  let number := leAt f.payload 2 2
  let seen := s.rally.seen.filter (fun e => s.clock < e.2.2 + 10 * perMs)
  if !r.2 || !([rAligning, rAligned, rHealing, rIsland].contains s.rallyState) then s
  else if seen.any (fun e => e.1 == origin && e.2.1 == number) || fragHop f ≥ s.obj K.rallyWhistleHops then s
  else
    let s := s.modRally (fun r => { r with seen := seen ++ [(origin, number, s.clock)] })
    (s.flood lane fWhistle (fragHop f + 1) 0 f.payload).actWhistle f.payload

/-! ## Umzin and peer streams (R181, R196) -/

/-- The lane on which an UMZIN fragment goes on toward a member (DESIGN CHOICE, log entry 51). -/
def State.nextHop (s : State) (lane dest : Nat) : Option Nat :=
  let ls := s.upLanes.filter (fun i => i != lane)
  let trunk := ls.find? (fun i => s.roleOfLane i == 4 && !s.standby i)
  let ring := ls.find? (fun i => s.roleOfLane i != 4)
  if dest / 8 = s.memberId / 8 then ring else match trunk with | some i => some i | none => ring

/-- An UMZIN message for another member is passed on, as long as its hop count lasts. -/
def State.forwardUmzin (s : State) (lane hop dest : Nat) (bytes : List Byte) : State :=
  match s.nextHop lane dest with
  | some i => if hop < 15 then s.sendUmzin i (hop + 1) dest bytes else s
  | none => s

/-- STREAM_FRAGMENT (R196): a line keeps the sender's number, stamps and flags. -/
def xStreamFragment (lane : Nat) (f : Peer) (s : State) : State :=
  if s.roleOfLane lane < 2 || s.rallyState = rStandalone then s
  else
    let s := s.tally (K.rallyLaneFragments lane) 64 1
    match (s.peerCtxs lane).find? (fun c => s.node (K.graphNodeInput c) == f.stream) with
    | none => s
    | some c =>
      let s := match f.head with
        | none => s
        | some h =>
          let s := s.boundary c h.line (ofTime96 h.stamp) s.clock
          s.modCtx c (fun x => { x with cur := x.cur.map (fun (l : Cur) =>
            ({ l with position := h.position, fraction := h.fraction, inFlags := h.flags, gap := l.gap + h.gap } : Cur)) })
      match (s.ctx c).cur with
      | none => s
      | some l =>
        let s := if l.empty || f.data.isEmpty then s
          else
            let items := f.data.map (fun (b : Byte) => Item.word c (s.chained c) l.line 1 b.toNat)
            (s.modCtx c (fun x => { x with cur := some { l with words := l.words + f.data.length } })).toOut c items
        if f.last then s.closeLineOf c else s

end Sys2Proof.Machine
end

