-- ==== Sys2Proof/Machine/Backstop.lean ====
section
/-! DEFINITION. Chapter 13: the Backstop array, its image, programming and activation (R295 to R303). -/

namespace Sys2Proof.Machine

def State.modBs (s : State) (f : Array256 → Array256) : State := { s with bs := f s.bs }

/-- The macrocell outputs, with those that rise noted. -/
def Array256.drive (b : Array256) (next : Nat) : Array256 := { b with out := next, rose := b.rose ||| (next ^^^ (next &&& b.out)) }

/-- The bank in force: none while the macrocells are not loaded. -/
def State.bank (s : State) : Bank :=
  if s.bs.live then s.bs.banks.getD (s.obj K.backstopRunningBank) .erased else .erased

/-- Macrocell outputs; while an activation reloads them they are open (DESIGN CHOICE, log entry 2). -/
def State.macroOut (s : State) : Nat :=
  if s.bs.live then s.bs.out
  else if s.boot.live && s.obj K.backstopState = 0 then Config.free 45 s.clock % 2 ^ 256 else 0

/-! ## The input pool (R295) -/

/-- The node that Backstop input i watches (R408). -/
def State.bsNode (s : State) (i : Nat) : Nat := u16At (s.obj K.deviceEventsBackstop) (2 * i)

/-- A pool input, with macrocell outputs m and the line-trigger pulses p that are high. -/
def State.pool (s : State) (m p code : Nat) : Bool :=
  if code < 0x60 then s.padIn code
  else if code < 0x260 then (code - 0x60) / 2 < tileCount s.variant && s.monitorSeen ((code - 0x60) / 2) (code % 2)
  else if code < 0x360 then m.testBit (code - 0x260)
  else if code < 0x460 then s.wires.backstop.testBit (code - 0x360)
  else if code < 0x470 then p.testBit (code - 0x460)
  else if code < 0x478 then (s.obj (K.encFlags (code - 0x470))).testBit 1
  else if code = 0x478 then s.safeLow
  else if code = 0x479 then s.clock < s.whistleUntil
  else if code < 0x480 then s.mode == [mRun, mHold, mSafe, mLoad, mPrepare, mStandby].getD (code - 0x47A) 0
  else if code < 0x4A0 then s.bsNode (code - 0x480) != 0xFFFF && s.nodeActive (s.bsNode (code - 0x480))
  else false

/-- `backstop.inputs`: bit = pool code. -/
def State.poolBits (s : State) : Nat :=
  (List.range 0x4A0).foldl (fun a c => if s.pool s.macroOut 0 c then a + 2 ^ c else a) 0

/-! ## Terms and macrocells (R295, R296) -/

/-- The level at which a term input enters: through two flip-flops with SYNC. -/
def State.litOn (s : State) (m p : Nat) (l : BsLit) : Bool :=
  (if l.sync then (Sp.get (fun _ => 0) s.bs.sync l.code).testBit 1 else s.pool m p l.code) != l.inv

/-- A product term; one with no input reads 0. -/
def State.termOn (s : State) (m p : Nat) (t : List BsLit) : Bool := !t.isEmpty && t.all (s.litOn m p)
def State.sumOn (s : State) (m p : Nat) (c : BsCell) : Bool := c.terms.any (s.termOn m p)

/-- The COMB macrocells follow their sums: one pass for each of them reaches the last, as no loop is accepted (R301). -/
def State.combPass (s : State) (p : Nat) (cells : List BsCell) (m : Nat) : Nat :=
  cells.foldl (fun a c => if c.mode = 0 then withBit a c.id (s.sumOn a p c) else a) m
def State.combSettle (s : State) (p : Nat) (cells : List BsCell) : Nat → Nat → Nat
  | 0, m => m
  | n + 1, m => let m' := s.combPass p cells m; if m' = m then m else s.combSettle p cells n m'

/-- What a registered macrocell holds after a clock event at a sum d. -/
def clocked (c : BsCell) (old d : Bool) : Bool := if c.mode = 2 then old != d else d

/-- A registered macrocell at settled terms: the reset term acts at once; a product-term clock acts on its rising edge, and
holds a latch open while it is 1 (DESIGN CHOICE, log entry 52). -/
def State.cellNext (s : State) (m p : Nat) (c : BsCell) : Bool :=
  let old := m.testBit c.id
  let clk := match c.clkTerm with | some t => s.termOn m p t | none => false
  if (match c.rstTerm with | some t => s.termOn m p t | none => false) then c.initial
  else if c.clock ≠ 9 then old
  else if c.mode = 3 then (if clk then s.sumOn m p c else old)
  else if clk && !s.bs.clk.testBit c.id then clocked c old (s.sumOn m p c) else old

/-- Clock term levels of the registered macrocells. -/
def State.clkLevels (s : State) (m p : Nat) (cells : List BsCell) : Nat :=
  cells.foldl (fun a c => match c.clkTerm with | some t => withBit a c.id (s.termOn m p t) | none => a) s.bs.clk

/-- The array settles: terms, then registers, until nothing changes or as many rounds as macrocells twice have passed. -/
def State.bsRounds (p : Nat) (cells : List BsCell) : Nat → State → State
  | 0, s => s
  | n + 1, s =>
    let m := s.combSettle p cells (cells.length + 1) s.bs.out
    let next := cells.foldl (fun a c => if c.mode = 0 then a else withBit a c.id (s.cellNext m p c)) m
    let s := s.modBs (fun b => { b.drive next with clk := s.clkLevels m p cells })
    if next = m then s else State.bsRounds p cells n s

def State.bsSettle (s : State) (p : Nat) : State :=
  let cells := s.bank.cells
  if cells.isEmpty then s else State.bsRounds p cells (2 * cells.length + 2) s

/-- An edge of a clock source: the registered macrocells that take it. -/
def State.bsEdge (s : State) (clock : Nat) : State :=
  let m := s.bs.out
  let cells := s.bank.cells
  let next := cells.foldl (fun a c =>
    if c.mode ≠ 0 && c.clock = clock && !(match c.rstTerm with | some t => s.termOn m 0 t | none => false)
    then withBit a c.id (clocked c (m.testBit c.id) (s.sumOn m 0 c)) else a) m
  s.modBs (fun b => b.drive next)

/-- The pool codes that a bank takes through SYNC. -/
def Bank.syncs (b : Bank) : List Nat :=
  (b.cells.flatMap (fun c => (c.terms ++ c.clkTerm.toList ++ c.rstTerm.toList ++ c.oeTerm.toList).flatten)).filterMap
    (fun l => if l.sync then some l.code else none)

/-- BACKSTOP_OSC_EDGE (R296): macrocells on OSC, then the SYNC flip-flops shift. -/
def xOscEdge (s : State) : State :=
  let t := s.bsEdge 0
  let sync := s.bank.syncs.foldl (fun m c =>
    Sp.insert m c (ofBool (s.pool s.bs.out 0 c) + 2 * (Sp.get (fun _ => 0) s.bs.sync c % 2))) s.bs.sync
  t.modBs (fun b => { b with sync := sync })

/-- An edge of pace wire i at the array (R296). -/
def State.bsPace (s : State) (i : Nat) : State := s.bsEdge (i + 1)

/-! ## Whistle outputs (R297) and the latch check (R298) -/

/-- BACKSTOP_WHISTLE: whistle output j answers a rise of its macrocell. -/
def xBackstopWhistle (j : Nat) (s : State) : State :=
  let cell := s.bank.whistles.getD j 0xFF
  if cell = 0xFF || !s.bs.rose.testBit cell then s
  else
    let s := s.modBs (fun b => { b with rose := withBit b.rose cell false })
    if (match (s.bs.whistled.getD j none) with | some t => decide (s.clock < t + 10 * perUs) | none => false) then
      s.count K.backstopWhistlesIgnored 32 1
    else
      let s := s.modBs (fun b => { b with whistled := b.whistled.set j (some s.clock) })
      (s.count K.backstopWhistles 32 1).raiseWhistle (0x80 + j)

/-- BACKSTOP_LATCH_CHECK: latches that differ from the image in force are rewritten. -/
def xLatchCheck (upsets : Nat) (s : State) : State := if s.bs.live then s.count K.backstopUpsets 32 upsets else s

/-! ## The image (R300, R301) -/

def bsLength : Nat := 44292
def bsBlock (b : Nat) : Nat := 0x40 + 0x2AC0 * b

/-- The image in place from the factory, as bytes. -/
def factoryImage : List Byte :=
  toLE 4 0x04010000 ++ toLE 4 bsLength ++ List.replicate 56 0 ++
    (List.replicate 4 (List.replicate 0x28C0 0 ++ (List.replicate 64 [0, 0, 0xFF, 0xFF, 0xFF, 0xFF, 0xFF, 0xFF]).flatten)).flatten ++
    (List.range 96).flatMap (fun _ => [4, 4, 0xFF, 0]) ++ [0xFF, 0xFF, 0xFF, 0xFF] ++ List.replicate 60 0 ++ toLE 4 0x4A15AF4C

/-- The bytes of a bank. -/
def Bank.image (b : Bank) : List Byte :=
  if b.bytes.isEmpty then (if b.good then factoryImage else List.replicate bsLength 0) else b.bytes

/-- The 96 selection words of a block, and the literals of a 24-byte term over them. -/
def selections (bs : List Byte) (b : Nat) : List Nat := (List.range 96).map (fun i => leAt bs (bsBlock b + 2 * i) 2)
def literals (sel : List Nat) (term : Nat) : List BsLit :=
  (List.range 192).filterMap (fun j =>
    if term.testBit j then
      let w := sel.getD (j / 2) 0
      some ⟨w % 2048, w.testBit 15, j % 2 == 1⟩
    else none)
def termOf (bs : List Byte) (b : Nat) (sel : List Nat) (t : Nat) : List BsLit :=
  literals sel (leAt bs (bsBlock b + 0xC0 + 24 * t) 24)

/-- The sum and the record of macrocell j of block b. -/
def sumBits (bs : List Byte) (b j : Nat) : Nat := leAt bs (bsBlock b + 0x1EC0 + 40 * j) 40
def cellRecord (bs : List Byte) (b j : Nat) : Nat := leAt bs (bsBlock b + 0x28C0 + 8 * j) 8
def sumTerms (sum : Nat) : List Nat := (List.range 320).filter (fun t => sum.testBit t)

/-- Macrocell j of block b, when the image uses it. -/
def cellOf (bs : List Byte) (b : Nat) (sel : List Nat) (j : Nat) : Option BsCell :=
  let r := cellRecord bs b j
  let sum := sumBits bs b j
  let opt := fun (t : Nat) => if t = 0xFFFF then none else some (termOf bs b sel t)
  if sum = 0 && r % 4 = 0 && u16At r 6 = 0xFFFF then none
  else some ⟨64 * b + j, (sumTerms sum).map (termOf bs b sel), r % 4, r.testBit 2, byteAt r 1, opt (u16At r 2), opt (u16At r 4),
    opt (u16At r 6)⟩

/-- What an image says. -/
def decodeBank (bs : List Byte) (untested : Bool) : Bank where
  bytes := bs
  good := true
  crc := leAt bs 0xAD00 4
  word := imageWord bs
  untested := untested
  cells := (List.range 4).flatMap (fun b => let sel := selections bs b; (List.range 64).filterMap (cellOf bs b sel))
  pins := (List.range 96).map (fun k =>
    (k, ⟨leAt bs (0xAB40 + 4 * k) 1, leAt bs (0xAB41 + 4 * k) 1, leAt bs (0xAB42 + 4 * k) 1, (leAt bs (0xAB43 + 4 * k) 1).testBit 0⟩))
  whistles := (List.range 4).map (fun j => leAt bs (0xACC0 + j) 1)

/-- The record of a pin in a bank: without an image, high impedance with the weak pull-down (R81). -/
def Bank.pin (b : Bank) (k : Nat) : BsPin :=
  match b.pins.find? (fun e => e.1 == k) with | some e => e.2 | none => ⟨4, 4, 0xFF, false⟩

def refuseAt {α : Type} (off : Nat) : Res α := .error ⟨aRange, off⟩

/-- A condition on an image, with the offset of what breaks it. -/
def imageNeed (b : Bool) (off : Nat) : Res Unit := if b then .ok () else refuseAt off

/-- The COMB macrocells of a bank with those they feed on. -/
def Bank.feeds (b : Bank) : List (Nat × List Nat) :=
  (b.cells.filter (fun c => c.mode == 0)).map (fun c =>
    (c.id, c.terms.flatten.filterMap (fun l => if 0x260 ≤ l.code && l.code < 0x360 then some (l.code - 0x260) else none)))

/-- Take away the macrocells that feed on none that is left; what stays lies on a loop or behind one. -/
def pruneLoops : Nat → List (Nat × List Nat) → List (Nat × List Nat)
  | 0, es => es
  | n + 1, es => pruneLoops n (es.filter (fun e => e.2.any (fun d => es.any (fun f => f.1 == d))))

/-- The refusals of R301, block by block, then the pins, then the loops (DESIGN CHOICE, log entry 52). -/
def checkBsImage (bs : List Byte) : Res Unit := do
  imageNeed (leAt bs 4 4 == bsLength) 4
  imageNeed (crc32 (bs.take 0xAD00) == leAt bs 0xAD00 4) 0xAD00
  (List.range 4).forM (fun b => do
    (List.range 96).forM (fun i =>
      let w := leAt bs (bsBlock b + 2 * i) 2
      imageNeed (bitsOf w 14 11 == 0 && w % 2048 < 0x4A0) (bsBlock b + 2 * i))
    (List.range 64).forM (fun j => do
      imageNeed ((sumTerms (sumBits bs b j)).length ≤ 32) (bsBlock b + 0x1EC0 + 40 * j)
      let r := cellRecord bs b j
      let off := bsBlock b + 0x28C0 + 8 * j
      imageNeed (byteAt r 1 ≤ 9) (off + 1)
      [2, 4, 6].forM (fun o => imageNeed (u16At r o < 320 || u16At r o == 0xFFFF) (off + o))))
  (List.range 96).forM (fun k => do
    let p := (decodeBank bs false).pin k
    let off := 0xAB40 + 4 * k
    imageNeed (p.dflt ≤ 5) off
    imageNeed (p.safe ≤ 6) (off + 1)
    imageNeed (!((p.dflt == 5 || p.safe == 5) && p.cell == 0xFF)) (off + 2))
  match pruneLoops 256 (decodeBank bs false).feeds with
  | [] => .ok ()
  | e :: _ => refuseAt (bsBlock (e.1 / 64) + 0x1EC0 + 40 * (e.1 % 64))

/-! ## Programming (R302) -/

/-- A write of the image only in LOAD, one at a time. -/
def guardBsImage (s : State) : Res Unit := do
  needMode s [mLoad]
  need (s.obj K.backstopState != 1 && (s.bs.live || s.obj K.backstopState == 3)) aBusy 0xFF

/-- BLOCK_CLOSE of an image: its checks, then the bank that is not in force is erased and programmed
(DESIGN CHOICE, log entry 52). -/
def closeBsImage (bs : List Byte) (s : State) : State × Res Unit :=
  match guardBsImage s with
  | .error e => (s, .error e)
  | .ok _ =>
    match s.checkVersion 4 (imageWord bs) with
    | (s, .error e) => (s, .error e)
    | (s, .ok _) =>
      match checkBsImage bs with
      | .error e => (s, .error e)
      | .ok _ =>
        let other := 1 - s.obj K.backstopRunningBank
        let s := s.modBs (fun b => { b with banks := b.banks.set other .erased })
        let s := (s.setBlob (programmedBlob K.backstopImage) bs).count K.backstopCycles 32 1
        let s := if 1000 < s.obj K.backstopCycles then s.set K.backstopWorn 1 else s
        (s.set K.backstopState 1, .ok ())

/-- The state that the array has when it is not being programmed. -/
def State.bsRest (s : State) : Nat :=
  if !s.bs.live then 3 else if s.obj K.backstopRunningBank = s.obj K.backstopBank || s.obj K.backstopPending = 1 then 0 else 2

/-- BACKSTOP_PROGRAMMED: the read-back passed and the pointer moves; or it failed, and the pointer stays
(DESIGN CHOICE, log entry 52). -/
def xBackstopProgrammed (ok : Bool) (s : State) : State :=
  if s.obj K.backstopState ≠ 1 then s
  else
    let bytes := (s.blob (programmedBlob K.backstopImage)).getD []
    let other := 1 - s.obj K.backstopRunningBank
    let s := { s with blobs := Sp.erase s.blobs (programmedBlob K.backstopImage) }
    let s := if ok then
        let bank := decodeBank bytes (s.classify 4 (imageWord bytes) != .tested)
        ((s.modBs (fun b => { b with banks := b.banks.set other bank })).set K.backstopBank other).set K.backstopPending 1
      else s
    s.set K.backstopState s.bsRest

/-! ## Loading and activation (R80 step 1, R303) -/

/-- The macrocells are loaded from the bank that the pointer names, or from the other (R303, R81). -/
def State.loadBackstop (s : State) : State :=
  let p := s.obj K.backstopBank
  let good := fun (i : Nat) => (s.bs.banks.getD i .erased).good
  if !good p && !good (1 - p) then
    ((s.modBs (fun b => { b with live := false, dead := true, out := 0, rose := 0, sync := [], clk := 0 })).set K.backstopState 3).raise 748 0
  else
    let i := if good p then p else 1 - p
    let b := s.bs.banks.getD i .erased
    let out := b.cells.foldl (fun a c => withBit a c.id (c.mode != 0 && c.initial)) 0
    let s := s.modBs (fun x => { x with live := true, dead := false, out := out, rose := 0, sync := [], clk := 0 })
    let s := ((s.set K.backstopRunningBank i).set K.backstopCrc b.crc).set K.versionsBackstop b.word
    let s := s.setUntested 3 b.untested
    if good p then (s.set K.backstopState 0).set K.backstopPending 0
    else (s.set K.backstopState 2).raise 748 0

/-- Checks of an activation (R303): LOAD, and no programming or activation in progress (DESIGN CHOICE, log entry 52). -/
def guardActivate (s : State) : Res Unit := do
  needMode s [mLoad]
  need (s.obj K.backstopState != 1 && (s.bs.live || s.obj K.backstopState == 3)) aBusy 0xFF

/-- BACKSTOP_ACTIVATE: the macrocells leave service until they are reloaded; the pad latches hold the pins. -/
def xActivate (s : State) : State :=
  (s.modBs (fun b => { b with live := false })).set K.backstopState 0

/-- MACROCELLS_RELOADED: while an activation runs. -/
def xMacrocellsReloaded (s : State) : State :=
  if s.bs.live || !s.boot.live || s.obj K.backstopState ≠ 0 then s else s.loadBackstop

end Sys2Proof.Machine
end

