-- ==== Sys2Proof/Machine/Nets.lean ====
section
/-! DEFINITION. Chapter 13: the logic of the fabric (R281 to R289): cells, block memories, multiply-accumulate blocks, crossbars, bridges
and clocks. Every change settles before the next event: the delays of R284 are left out (log entry 6), and what two clocks
that one wire drives would race for follows the order of the events (DESIGN CHOICE, log entry 53). -/

namespace Sys2Proof.Machine

def State.net (s : State) (q : Nat) : Net := Sp.get (fun _ => Net.none_) s.nets q
def State.setNet (s : State) (q : Nat) (x : Net) : State := { s with nets := Sp.put (fun _ => Net.none_) s.nets q x }
def State.modNet (s : State) (q : Nat) (f : Net → Net) : State := s.setNet q (f (s.net q))

/-- The levels of a cluster's sources, the bits of its flip-flops, the signals of a port cell. -/
def Net.sig (n : Net) (x : Nat) : Nat := Sp.get (fun _ => 0) n.sigs x
def Net.flops (n : Net) (x : Nat) : Nat := Sp.get (fun _ => 0) n.ffs x
def Net.cell (n : Net) (k : Nat) : Nat := Sp.get (fun _ => 0) n.cells k
def Net.memory (n : Net) (x : Nat) : Nat := Sp.get (fun _ => 0) n.mems x
def Net.mac (n : Net) (m : Nat) : MacState := Sp.get (fun _ => MacState.none_) n.macs m

/-- Whether user logic of a sector runs: released at step 7 of PREPARE, its border not held (R317, R328). -/
def State.sectorRuns (s : State) (q : Nat) : Bool :=
  (s.mode == mRun || s.mode == mHold || s.mode == mSafe || s.prepAt 7) && q < quadCount s.variant && s.obj (K.configSectorState q) == 2

/-- The sectors in which logic runs. -/
def State.logicSectors (s : State) : List Nat :=
  if s.frames.isEmpty then [] else (allQuads s.variant).filter (fun q => s.sectorRuns q && !(s.framesIn q).isEmpty)

/-! ## Selectors and cells (R281, R284, R286) -/

/-- What a selector passes: of the sources it has set the one with the lowest number; none reads 0. -/
def passes (level : Nat → Bool) (x : Selector) : Bool := match x.min? with | some k => level k | none => false

/-- The bits that selectors pass, the first the least significant. -/
def selected (level : Nat → Bool) (xs : List Selector) : Nat := xs.foldr (fun x a => ofBool (passes level x) + 2 * a) 0

/-- The six inputs of a cell; tables A and B at them. Input 1 is the least significant, and table B stands in the upper half (DESIGN CHOICE,
log entry 53). -/
def cellInputs (level : Nat → Bool) (c : LogicCell) : Nat := selected level (c.inputs.take 6)
def tableA (c : LogicCell) (x : Nat) : Bool := c.table.testBit (if c.split then x % 32 else x % 64)
def tableB (c : LogicCell) (x : Nat) : Bool := c.split && c.table.testBit (32 + x % 32)

/-- Output B of cell i: of a cell at which F7, F8 or F9 ends, the table A that they select among the 2, 4 or 8 cells of its group (DESIGN
CHOICE, log entry 53). -/
def outB (level : Nat → Bool) (cells : List LogicCell) (i : Nat) (c : LogicCell) : Bool :=
  if c.wide.isEmpty then tableB c (cellInputs level c)
  else
    let d := cells.getD (i / 2 ^ c.wide.length * 2 ^ c.wide.length + selected level c.wide) default
    tableA d (cellInputs level d)

/-- The levels of a cluster's sources at those they stood at, with its flip-flops, its inputs and the wires of its blocks. -/
def clusterLevels (c : ClusterLogic) (now flops ins block : Nat) : Nat :=
  let level := now.testBit
  (c.cells.take 64).zipIdx.foldl (fun a e =>
    a + 2 ^ (4 * e.2) * (ofBool (tableA e.1 (cellInputs level e.1)) + 2 * ofBool (outB level c.cells e.2 e.1) +
      4 * bitsOf flops (2 * e.2 + 1) (2 * e.2))) (2 ^ 256 * (ins % 2 ^ 64) + 2 ^ 320 * (block % 2 ^ 32))

/-- A flip-flop after an edge of its clock: set or reset wins over the clock enable (DESIGN CHOICE, log entry 53). -/
def flopNext (level : Nat → Bool) (cells : List LogicCell) (i : Nat) (c : LogicCell) (f : FlipFlop) (old : Bool) : Bool :=
  let pin := fun (k : Nat) => passes level (c.inputs.getD k [])
  if f.setReset.any pin then f.sets
  else if !f.enable.all pin then old
  else match f.d with
    | 0 => tableA c (cellInputs level c)
    | 1 => outB level cells i c
    | _ => pin 5

/-! ## Block memories (R282) -/

/-- The places, among the 512 × 72 bits, of the word at an address in a shape: data bits, then one parity bit to a byte (DESIGN CHOICE, log
entry 53). -/
def memoryBits (width addr : Nat) : List Nat :=
  if width < 9 then
    (List.range width).map (fun i => let d := (addr * width + i) % 32768; 72 * (d / 64) + d % 64)
  else
    let bytes := (List.range (width / 9)).map (fun i => (addr * (width / 9) + i) % 4096)
    bytes.flatMap (fun b => (List.range 8).map (fun i => 72 * (b / 8) + 8 * (b % 8) + i)) ++ bytes.map (fun b => 72 * (b / 8) + 64 + b % 8)

def memoryRead (m : Nat) (places : List Nat) : Nat := places.foldr (fun p a => ofBool (m.testBit p) + 2 * a) 0
def memoryWrite (m : Nat) (v : Nat) (places : List (Nat × Nat)) : Nat := places.foldl (fun a e => withBit a e.1 (v.testBit e.2)) m

/-- A word as it is stored: with ECC its 64 data bits and their code, which the spec does not give (DESIGN CHOICE, log entry 2). -/
def memoryWord (ecc : Bool) (width v : Nat) : Nat :=
  if ecc && width = 72 then v % 2 ^ 64 + 2 ^ 64 * (Config.free 73 (v % 2 ^ 64) % 256) else v

/-- An edge at one port of a memory, with the levels of its cluster: a read takes the data that stood there before (`old`); a write stands,
but for what port A writes to the same address less than 0.5 ns apart, which is counted. The answer has the collisions. -/
def portEdge (now : Nat) (level : Nat → Bool) (old : Nat) (x side : Nat) (ecc : Bool) (p : MemoryPort) (n : Net) : Net × Nat :=
  if !passes level p.enable then (n, 0)
  else
    let places := memoryBits p.width (selected level p.addr)
    if !passes level p.write then ({ n with reads := Sp.put (fun _ => 0) n.reads (2 * x + side) (memoryRead old places) }, 0)
    else
      let other := match Sp.find n.wrote (2 * x + (1 - side)) with
        | some e => if now < e.1 + 32768 then e.2 else []
        | none => []
      let met := places.any other.contains
      let mine := places.zipIdx.filter (fun e => side = 0 || !other.contains e.1)
      ({ n with mems := Sp.put (fun _ => 0) n.mems x (memoryWrite (n.memory x) (memoryWord ecc p.width (selected level p.data)) mine),
                wrote := Sp.insert n.wrote (2 * x + side) (now, places) }, ofBool met)

/-! ## Multiply-accumulate blocks (R283) -/

def macA (level : Nat → Bool) (m : Multiplier) : Int := signed 27 (selected level (m.a.take 27))
def macB (level : Nat → Bool) (m : Multiplier) : Int := signed 18 (selected level (m.b.take 18))

/-- The product that reaches the adder, with the operands a and b at the inputs. -/
def macProduct (m : Multiplier) (r : MacState) (a b : Int) : Int :=
  if m.productReg then r.product else if m.inputReg then r.a * r.b else a * b

/-- The sum, of 48 bits: to the accumulator, or to the cascade input; without a sum register nothing has accumulated (DESIGN CHOICE, log
entry 53). -/
def macSum (m : Multiplier) (r : MacState) (a b cascade : Int) : Int :=
  signed 48 (unsigned 48 (macProduct m r a b + (if m.cascade then cascade else if m.sumReg then r.acc else 0)))

/-- The registers after an edge. -/
def macEdge (m : Multiplier) (r : MacState) (a b cascade : Int) : MacState :=
  { r with a := a, b := b, product := if m.inputReg then r.a * r.b else a * b, acc := macSum m r a b cascade }

/-- What the block drives. -/
def macOut (m : Multiplier) (r : MacState) (a b cascade : Int) : Nat := unsigned 48 (if m.sumReg then r.acc else macSum m r a b cascade)

/-- The cascade input of block i: what the previous one of the sector drives. -/
def Net.cascade (n : Net) (i : Nat) : Int := if i = 0 then 0 else signed 48 (n.mac (i - 1)).out

/-! ## A sector (R284, R285) -/

/-- The level of a source of the sector, with the macrocell outputs. -/
def Net.level (n : Net) (macros k : Nat) : Bool :=
  if k < 4096 then n.outs.testBit k
  else if k < 5120 then n.bridge.testBit (k - 4096)
  else if k < 5376 then macros.testBit (k - 5120)
  else n.lines.testBit (k - 5376)

/-- The wires of a cluster's blocks: data last read, sums, signals of port cells. -/
def Net.blockWires (n : Net) (x : Nat) (c : ClusterLogic) : Nat :=
  (c.block.take 32).foldr (fun k a => 2 * a + ofBool (
    if k < 144 then (Sp.get (fun _ => 0) n.reads (2 * x + k / 72)).testBit (k % 72)
    else if k < 192 then (n.mac (x / 2)).out.testBit (k - 144)
    else (n.cell ((k - 192) / 96)).testBit ((k - 192) % 96))) 0

/-- The clock source of a line of a sector (R287). -/
def State.clockSource (s : State) (q k : Nat) : Nat := u16At (s.obj (K.fabricSectorClockSrc q)) (2 * k)

/-- The lines of a sector that a source drives. -/
def State.linesOf (s : State) (q src : Nat) : Nat :=
  (List.range 16).foldl (fun a k => if s.clockSource q k = src then a + 2 ^ k else a) 0

/-- The clock lines with those that a cluster output drives. -/
def State.routedLines (s : State) (q : Nat) (n : Net) : Nat :=
  (List.range 16).foldl (fun a k =>
    if s.clockSource q k / 4096 = 4 then withBit a k (n.outs.testBit (s.clockSource q k % 4096)) else a) n.lines

/-- One pass of a sector's levels: each wire follows its driver. Bridge wires into a sector that does not run are ignored (R317). -/
def State.passSector (s : State) (q : Nat) : State :=
  let n := s.net q
  let level := n.level s.macroOut
  let cl := s.sectorLogic q
  let sigs := cl.foldl (fun m e => Sp.put (fun _ => 0) m e.1
    (clusterLevels e.2 (n.sig e.1) (n.flops e.1) (selected level (e.2.inputs.take 64)) (n.blockWires e.1 e.2))) n.sigs
  let outs := cl.foldl (fun o e => withBits o (32 * e.1 + 31) (32 * e.1) (selected (n.sig e.1).testBit (e.2.outputs.take 32))) n.outs
  let macs := cl.foldl (fun m e => if e.1 % 2 = 1 then m else
    let r := n.mac (e.1 / 2)
    let out := macOut e.2.mac r (macA (n.sig e.1).testBit e.2.mac) (macB (n.sig e.1).testBit e.2.mac) (n.cascade (e.1 / 2))
    Sp.put (fun _ => MacState.none_) m (e.1 / 2) { r with out := out }) n.macs
  let s := s.setNet q { n with sigs := sigs, outs := outs, macs := macs, lines := s.routedLines q n }
  (s.bridgeDrivers q).foldl (fun st e =>
    if st.sectorRuns (e.1 / 256) then
      st.modNet (e.1 / 256) (fun m => { m with bridge := withBit m.bridge (256 * q + e.1 % 256) (passes level e.2) })
    else st) s

/-- The levels of wires that a loop of tables never lets settle are open (DESIGN CHOICE, log entry 2). -/
def State.looseNets (s : State) : State :=
  s.logicSectors.foldl (fun st q => (st.net q).sigs.foldl (fun t e =>
    let d := t.draw 74
    d.2.modNet q (fun n => { n with sigs := Sp.put (fun _ => 0) n.sigs e.1 (d.1 % 2 ^ 352) })) st) s

/-- Wires follow their drivers until none changes. -/
def State.settleNets : Nat → State → State
  | 0, s => s.looseNets
  | n + 1, s =>
    let t := s.logicSectors.foldl (fun st q => st.passSector q) s
    if t.nets = s.nets then s else State.settleNets n t

/-! ## Clocks (R287, R289) -/

/-- Whether a clock rises between two states of a sector's nets, for an element of cluster x. -/
def rises (b n : Net) (x : Nat) : ClockPin → Bool
  | .line k => n.lines.testBit k && !b.lines.testBit k
  | .wire w => passes (n.sig x).testBit w && !passes (b.sig x).testBit w

/-- The flip-flops of a cluster after the clocks that rise. -/
def flopsAfter (b n : Net) (x : Nat) (c : ClusterLogic) : Nat :=
  let level := (n.sig x).testBit
  (c.cells.take 64).zipIdx.foldl (fun a e => (e.1.ffs.take 2).zipIdx.foldl (fun a f =>
    if rises b n x f.1.clock then
      withBit a (2 * e.2 + f.2) (flopNext level c.cells e.2 e.1 f.1 ((n.flops x).testBit (2 * e.2 + f.2)))
    else a) a) (n.flops x)

/-- The ports of a cluster's memory whose clocks rise: port B, then A, whose data stands. The answer has the collisions. -/
def memoryAfter (now : Nat) (b n : Net) (x : Nat) (c : ClusterLogic) (m : Net) : Net × Nat :=
  let level := (n.sig x).testBit
  let edge := fun (side : Nat) (p : MemoryPort) (r : Net × Nat) =>
    if rises b n x p.clock then
      (let t := portEdge now level (n.memory x) x side c.memory.ecc p r.1
       (t.1, r.2 + t.2))
    else r
  edge 0 c.memory.a (edge 1 c.memory.b (m, 0))

/-- Every element of a sector whose clock rises takes what stands at its inputs. -/
def State.clockSector (s : State) (q : Nat) (b n : Net) : State :=
  (s.sectorLogic q).foldl (fun st e =>
    let x := e.1
    let st := st.modNet q (fun m => { m with ffs := Sp.put (fun _ => 0) m.ffs x (flopsAfter b n x e.2) })
    let r := memoryAfter st.clock b n x e.2 (st.net q)
    let st := (st.setNet q r.1).count (K.fabricSectorBramCollisions q) 32 r.2
    if x % 2 = 0 && rises b n x e.2.mac.clock then
      let level := (n.sig x).testBit
      let after := fun (m : Net) => macEdge e.2.mac (m.mac (x / 2)) (macA level e.2.mac) (macB level e.2.mac) (n.cascade (x / 2))
      st.modNet q (fun m => { m with macs := Sp.put (fun _ => MacState.none_) m.macs (x / 2) (after m) })
    else st) s

/-- The levels settle, the clocks that rose meanwhile act, and so on until none rises. -/
def State.propagate : Nat → List (Nat × Net) → State → State
  | 0, _, s => s
  | k + 1, b, s =>
    let s := s.settleNets 65536
    let t := s.logicSectors.foldl (fun st q => st.clockSector q (Sp.get (fun _ => Net.none_) b q) (s.net q)) s
    if t.nets = s.nets then t else State.propagate k s.nets t

/-- Logic follows what has changed at its border. -/
def State.settleLogic (s : State) : State := if s.logicSectors.isEmpty then s else s.propagate 4096 s.nets

/-- A pulse on the clock lines that a source drives; what else changes comes after the edge. -/
def State.pulse (s : State) (src : Nat → Nat → Bool) (f : State → State) : State :=
  if s.logicSectors.isEmpty then f s
  else
    let lines := fun (q : Nat) => (List.range 16).foldl (fun a k => if src q (s.clockSource q k) then a + 2 ^ k else a) 0
    let up := s.logicSectors.foldl (fun st q => st.modNet q (fun n => { n with lines := n.lines ||| lines q })) s
    let s := up.propagate 4096 s.nets
    let s := (f s).propagate 4096 s.nets
    let down := s.logicSectors.foldl (fun st q => st.modNet q (fun n => { n with lines := (n.lines ||| lines q) ^^^ lines q })) s
    down.propagate 4096 s.nets

/-- The lines of a trigger (R169, R287): p has bit g for each generator g whose trigger came. -/
def State.triggerLines (s : State) (p : Nat) : State :=
  if p = 0 then s else s.pulse (fun _ w => w / 4096 == 2 && p.testBit (w % 4096)) id

/-! ## Release and reset (R281, R317) -/

/-- The initial values of a cluster's flip-flops. -/
def initialFlops (c : ClusterLogic) : Nat :=
  (c.cells.take 64).zipIdx.foldl (fun a e => (e.1.ffs.take 2).zipIdx.foldl (fun a f => withBit a (2 * e.2 + f.2) f.1.initial) a) 0

/-- The clusters and port cells of a piece leave reset: flip-flops at their initial values, the blocks' registers at 0 (DESIGN CHOICE, log
entry 53). -/
def State.startLogic (s : State) (f : Placed) : State :=
  let ports := s.force (K.graphPiecePorts f.1)
  (List.range f.2.2.1.length).foldl (fun st r =>
    let x := f.2.2.1.getD r 0
    st.modNet f.2.1 (fun n => { n with
      ffs := Sp.put (fun _ => 0) n.ffs x (initialFlops (st.placeCluster f r))
      sigs := Sp.erase n.sigs x
      outs := withBits n.outs (32 * x + 31) (32 * x) 0
      reads := n.reads.filter (fun e => e.1 / 2 != x)
      wrote := n.wrote.filter (fun e => e.1 / 2 != x)
      macs := if x % 2 = 0 then Sp.erase n.macs (x / 2) else n.macs
      cells := n.cells.filter (fun e => !(f.2.2.2 ≤ e.1 && e.1 < f.2.2.2 + ports)) })) s

/-- The frames of a piece have been written: its block memories hold their initial contents (R305, R306). -/
def State.loadMemories (s : State) (f : Placed) : State :=
  (List.range f.2.2.1.length).foldl (fun st r =>
    st.modNet f.2.1 (fun n => { n with mems := Sp.put (fun _ => 0) n.mems (f.2.2.1.getD r 0) (st.initialMemory f.1 r) })) s

end Sys2Proof.Machine
end

