-- ==== Sys2Proof/Machine/Fabric.lean ====
section
/-! DEFINITION. Chapter 13: port cells, the wires that fabric logic drives, pace wires and the probe multiplexers (R287 to R294). -/

namespace Sys2Proof.Machine

def State.fab (s : State) (j : Nat) : Fab := Sp.get (fun _ => Fab.none_) s.fabs j
def State.setFab (s : State) (j : Nat) (x : Fab) : State := { s with fabs := Sp.put (fun _ => Fab.none_) s.fabs j x }
def State.modFab (s : State) (j : Nat) (f : Fab → Fab) : State := s.setFab j (f (s.fab j))

/-! ## What the port cells of a piece serve (R290) -/

/-- A port cell in use: its number in the sector, role, context, place in its run and length of the run. -/
structure CellUse where
  cell : Nat
  role : Nat
  ctx : Nat
  place : Nat
  run : Nat
  deriving DecidableEq, Repr

/-- Role, mode and pace wire of a port cell (R304). -/
def State.cellByte (s : State) (q k : Nat) : Nat := byteAt (s.obj (K.fabricSectorPortRoles q)) k
def State.cellRole (s : State) (q k : Nat) : Nat := bitsOf (s.cellByte q k) 1 0
def State.cellMode (s : State) (q k : Nat) : Nat := bitsOf (s.cellByte q k) 3 2
def State.cellWire (s : State) (q k : Nat) : Nat := bitsOf (s.cellByte q k) 6 4

/-- The rate that a context declares, in bytes a second. -/
def State.portRate (s : State) (c : Nat) : Frac :=
  if s.node (K.graphNodeSource c) = 2 then fracOfF32 (s.node (K.graphNodeOutRate c))
  else declaredRate s s.graphNodes s.graphPieces (s.nodeOf c)

/-- Port cells of a context's run: one to each 2.0 GB/s, at most 8. -/
def State.runLength (s : State) (c : Nat) : Nat :=
  let r := s.portRate c
  max 1 (min 8 (ceilDiv r.num (2000000000 * max 1 r.den)))

/-- Each context with the places of its run. -/
def State.runs (s : State) (cs : List Nat) : List (Nat × Nat × Nat) :=
  cs.flatMap (fun c => (List.range (s.runLength c)).map (fun i => (c, i, s.runLength c)))

/-- The outputs of a piece in the order of their numbers. -/
def State.outputsInOrder (s : State) (j : Nat) : List Nat :=
  (List.range 256).filterMap (fun o => (s.pieceOutputs j).find? (fun c => s.node (K.graphNodeInput c) == 256 * j + o))

/-- What the port cells of a piece serve: READ cells its inputs, COARSE cells those of them whose slots send coarse values, WRITE cells its
outputs, each in order (DESIGN CHOICE, log entry 53). -/
def State.cellsOf (s : State) (f : Placed) : List CellUse :=
  let ks := (List.range (s.force (K.graphPiecePorts f.1))).map (fun k => f.2.2.2 + k)
  let serve := fun (role : Nat) (rs : List (Nat × Nat × Nat)) =>
    ((ks.filter (fun k => s.cellRole f.2.1 k == role)).zip rs).map (fun e => (⟨e.1, role, e.2.1, e.2.2.1, e.2.2.2⟩ : CellUse))
  let ins := s.pieceInputs f.1
  serve 1 (s.runs ins) ++ serve 3 ((ins.filter (fun c => (s.nodeOf c).mode.testBit 7)).map (fun c => (c, 0, 1))) ++
    serve 2 (s.runs (s.outputsInOrder f.1))

/-- The unit under which the cells of a piece read: the piece, or its copy while it moves (R235). -/
def State.cellUnit (s : State) (f : Placed) : Nat := if s.plan.pieces.contains f then f.1 else 256 + f.1

/-- The port cells of the running sectors. -/
def State.liveCells (s : State) : List (Placed × CellUse) :=
  s.logicSectors.flatMap (fun q => (s.framesIn q).flatMap (fun f => (s.cellsOf f).map (fun x => (f, x))))

/-! ## Reading (R290, R292) -/

/-- A reader of a ring moves on. -/
def State.moveReader (s : State) (c : Nat) (kind : ReaderKind) (unit next : Nat) : State :=
  let r := s.ring c false
  s.setRing c false { r with readers := r.readers.map (fun x => if x.kind = kind ∧ x.unit = unit then { x with next := next } else x) }

/-- The line at which a unit's READ cells stand on a context. -/
def State.cellNext_ (s : State) (u c : Nat) : Nat :=
  match (s.ring c false).readers.find? (fun x => x.kind == .cell && x.unit == u) with | some x => x.next | none => 0

/-- The flags that pass through a piece (R227). -/
def passedFlags : Nat := fStale + fSwapped + fRestricted + fDegraded

/-- The flags that an output line inherits of the input lines now open (R227). -/
def Fab.inherited (f : Fab) : Nat := f.flags.foldl (fun a e => a ||| (e.2 &&& passedFlags)) 0

/-- A line opens at the READ cells: its flags, and of the first input its record; output lines in progress inherit its flags, since it
contributes to them (R227, R290, R292). -/
def State.openRead (s : State) (u c : Nat) (rec : LineRec) : State :=
  let s := (s.fab u).writes.foldl (fun st o => st.modCtx o (fun x => { x with cur := x.cur.map (fun (l : Cur) =>
    ({ l with inFlags := l.inFlags ||| (rec.flags &&& passedFlags) } : Cur)) })) s
  s.modFab u (fun f => { f with
    flags := Sp.insert f.flags c rec.flags
    head := if (s.pieceInputs (u % 256)).headD 0xFFFF = c then rec else f.head })

/-- Whether a unit's READ cells have a line of a context in hand. -/
def State.lineHand (s : State) (u c : Nat) : Option (Nat × Nat × Nat) :=
  (s.fab u).reads.find? (fun e => e.1 == c && s.holdsLine (s.ring c false) e.2.1)

/-- A unit's READ cells take up the next line of a context; lines without samples open and pass. -/
def State.takeLine (s : State) (u c : Nat) : Nat → State
  | 0 => s
  | n + 1 =>
    if (s.lineHand u c).isSome then s
    else
      let r := s.ring c false
      let k := s.nextLine r (s.cellNext_ u c)
      if !s.holdsLine r k then s
      else
        let lr := s.recOf r k
        let t := (s.openRead u c lr).modFab u (fun f => { f with reads := f.reads.filter (fun e => e.1 != c) })
        if lr.length = 0 then (t.moveReader c .cell u (k + 1)).takeLine u c n
        else t.modFab u (fun f => { f with reads := (c, k, 0) :: f.reads })

/-- The reader's place after a word of the line in hand. -/
def State.wordTaken (s : State) (u c k off length : Nat) : State :=
  if off + 4 ≥ length then
    (s.modFab u (fun f => { f with reads := f.reads.filter (fun e => e.1 != c) })).moveReader c .cell u (k + 1)
  else s.modFab u (fun f => { f with reads := (c, k, off + 4) :: f.reads.filter (fun e => e.1 != c) })

/-- Port-cell signals by bit: DATA from 0, VALID 32, READY 33, SOL 34, EOL 35, LINE from 36, FLAGS from 52, POISON 58, CTX from 59, INDEX
from 69, IQ 85, STB 86, REQ 87, ACK 88 (R290). -/
def readSignals (word : Nat) (sol eol : Bool) (line flags : Nat) (poison : Bool) : Nat :=
  word % 2 ^ 32 + 2 ^ 32 + 2 ^ 34 * ofBool sol + 2 ^ 35 * ofBool eol + 2 ^ 36 * (line % 65536) + 2 ^ 52 * (flags % 64) +
    2 ^ 58 * ofBool poison
def coarseSignals (word ctx index : Nat) (q : Bool) : Nat :=
  word % 2 ^ 32 + 2 ^ 32 + 2 ^ 59 * (ctx % 1024) + 2 ^ 69 * (index % 65536) + 2 ^ 85 * ofBool q

/-- The next word of a context at a READ cell, when it is the cell's turn in its run: the signals that show it, 0 for none. SOL, LINE and
FLAGS appear on the run's first cell. -/
def State.readWord (s : State) (u : Nat) (x : CellUse) : Nat × State :=
  let s := if x.place = 0 then s.takeLine u x.ctx 1025 else s
  match s.lineHand u x.ctx with
  | none => (0, s)
  | some (_, k, off) =>
    if off / 4 % x.run ≠ x.place then (0, s)
    else
      let r := s.ring x.ctx false
      let lr := s.recOf r k
      let word := ofLE ((List.range (min 4 (lr.length - off))).map (fun i => s.byte (s.lineAddr r k (off + i))))
      let first := x.place = 0
      (readSignals word (off = 0) (off + 4 ≥ lr.length) (if off = 0 then k else 0) (if first then lr.flags else 0)
        (s.poisoned (s.lineAddr r k off)), s.wordTaken u x.ctx k off lr.length)

/-- The next coarse word of a context: I, then Q, of the oldest value queued (R215, R292). -/
def State.coarseWord (s : State) (u c : Nat) : Nat × State :=
  match s.coarse.find? (fun e => e.ctx == c) with
  | none => (0, s)
  | some v =>
    if (s.fab u).iq.contains c then
      (coarseSignals (unsigned 32 v.q) c v.index true,
        ({ s with coarse := s.coarse.erase v } : State).modFab u (fun f => { f with iq := f.iq.filter (fun e => e != c) }))
    else (coarseSignals (unsigned 32 v.i) c v.index false, s.modFab u (fun f => { f with iq := c :: f.iq }))

/-- What a READ or COARSE cell shows next. The requests of a red-carded client stay unanswered (R275); only the piece itself takes coarse
values while a copy of it runs. -/
def State.nextWord (s : State) (f : Placed) (x : CellUse) : Nat × State :=
  let u := s.cellUnit f
  if x.role = 1 then (if s.clientRed (42 + f.2.1) then (0, s) else s.readWord u x)
  else if x.role = 3 then (if u < 256 then s.coarseWord u x.ctx else (0, s))
  else (0, s)

/-! ## Writing (R290, R292) -/

/-- The samples per second of a context: what feeds it, after the stages of its chain (R198, R202). -/
def State.sampleRate (s : State) (c : Nat) : Frac :=
  match s.slotOf c with
  | some i => Frac.div (s.chainRate c) ⟨2 ^ (s.slotSets i).length, 1⟩
  | none => s.chainRate c

/-- A piece's declared delay in seconds: whole samples of its first input (R173) (DESIGN CHOICE, log entry 53). -/
def State.pieceTime (s : State) (j : Nat) : Frac :=
  Frac.div ⟨s.force (K.graphPieceDelay j), 1⟩ (s.sampleRate ((s.pieceInputs j).headD 0xFFFF))

/-- The first word of an output line: its number, stamps and position are those of the first input's line, moved by the
piece's delay (R173, R292). -/
def State.openWrite (s : State) (j c : Nat) : State :=
  let f := s.fab j
  let d := (s.pieceTime j).units
  let stamp := ofTime96 f.head.stamp - d
  let at_ := s.clockOf stamp
  let p := if d = 0 then (f.head, s)
    else let r := s.stampRec c at_ { f.head with position := 0x800000000000, fraction := 0 }; (r.1.1, r.2)
  let s := p.2.boundary c f.head.line stamp at_
  let s := s.modCtx c (fun x => { x with cur := x.cur.map (fun (l : Cur) =>
    ({ l with position := p.1.position, fraction := p.1.fraction, inFlags := f.inherited } : Cur)) })
  s.modFab j (fun f => { f with writes := c :: f.writes })

/-- The line of an output context ends. While the sector's client is red-carded it is not written, and counted (R275). -/
def State.endWrite (s : State) (j c : Nat) : State :=
  let s := if s.clientRed (42 + s.sectorOf j) && (s.curOf c).isSome then
      (s.modCtx c (fun x => { x with cur := x.cur.map (fun (l : Cur) => ({ l with lossy := true } : Cur)) })).count (K.ctxRingUnwritten c) 64 1
    else s
  (s.closeLineOf c).modFab j (fun f => { f with writes := f.writes.filter (fun x => x != c) })

/-- A word that logic offers with READY high (R292). -/
def State.offerWord (s : State) (j c word : Nat) (eol : Bool) (own : Nat) : State :=
  let s := if (s.fab j).writes.contains c then s else s.openWrite j c
  let s := match (s.ctx c).cur with
    | none => s
    | some l =>
      if l.empty then s
      else (s.modCtx c (fun x => { x with cur := some { l with words := l.words + 1, inFlags := if eol then l.inFlags ||| own % 64 else l.inFlags } })).toOut
        c [.word c (s.chained c) l.line 4 word]
  if eol then s.endWrite j c else s

/-- What logic drives at a WRITE cell: word, EOL, OWN, and whether VALID and REQ are high. -/
structure Offer where
  word : Nat
  eol : Bool
  own : Nat
  valid : Bool
  req : Bool
  ack : Bool
  deriving DecidableEq, Repr

/-- What logic of a piece drives at one of its port cells (DESIGN CHOICE, log entry 2). -/
def State.pinsAt (s : State) (f : Placed) (k : Nat) : Offer :=
  let r := (k - f.2.2.2) / 2
  let p := (s.clusterLogic f.1 r).ports.getD ((k - f.2.2.2) % 2) default
  let level := ((s.net f.2.1).sig (f.2.2.1.getD r 0)).testBit
  ⟨selected level (p.data.take 32), passes level p.eol, selected level (p.own.take 6), passes level p.valid, passes level p.req, passes level p.ack⟩

/-- A word that a WRITE cell takes; what a copy of a moving piece writes is discarded (R235). -/
def State.acceptOffer (s : State) (f : Placed) (x : CellUse) (o : Offer) : State :=
  if s.cellUnit f < 256 then s.offerWord f.1 x.ctx o.word o.eol o.own else s

/-! ## The three modes (R291) -/

def State.showCell (s : State) (q k v : Nat) : State := s.modNet q (fun n => { n with cells := Sp.put (fun _ => 0) n.cells k v })

/-- A PACED cell after its edge: the next word, or READY for the next one. -/
def State.stepPaced (s : State) (full : List (Nat × Nat)) (f : Placed) (x : CellUse) : State :=
  if x.role = 2 then s.showCell f.2.1 x.cell (if full.contains (f.2.1, x.cell) then 0 else 2 ^ 33)
  else
    let w := s.nextWord f x
    w.2.showCell f.2.1 x.cell w.1

/-- An edge of pace wire i at the fabric: WRITE cells sample what logic drives, the clocked elements of its lines take what stands at their
inputs, and then the cells' outputs change (R287, R291). A word offered while READY is low is dropped (R292). -/
def State.paceLogic (s : State) (i : Nat) (full : List (Nat × Nat)) : State :=
  let mine := s.liveCells.filter (fun e => s.cellMode e.1.2.1 e.2.cell == 0 && s.cellWire e.1.2.1 e.2.cell == i)
  let offers := (mine.filter (fun e => e.2.role == 2 && (s.pinsAt e.1 e.2.cell).valid)).map (fun e =>
    (e, s.pinsAt e.1 e.2.cell, ((s.net e.1.2.1).cell e.2.cell).testBit 33))
  let s := s.pulse (fun _ w => w == 0x1000 + i) (fun st => mine.foldl (fun u e => u.stepPaced full e.1 e.2) st)
  offers.foldl (fun st e =>
    if e.2.2 then st.acceptOffer e.1.1 e.1.2 e.2.1 else st.count (K.fabricSectorDropped e.1.1.2.1) 32 1) s

/-- A STROBE cell gives a word: data and side-band first, then the strobe (R291). -/
def State.strobeCell (s : State) (f : Placed) (x : CellUse) : State :=
  let q := f.2.1
  let w := s.nextWord f x
  if w.1 = 0 then w.2
  else
    let s := (w.2.showCell q x.cell w.1).settleLogic
    let s := ((s.showCell q x.cell (w.1 + 2 ^ 86)).pulse (fun r v => r == q && v == 0x3000 + x.cell) id)
    s.showCell q x.cell w.1

/-- The next phase of the handshake at a cell (R267, R291): as the sender it raises REQ with a word, and lowers it once logic has raised
ACK; as the receiver it captures the word of a REQ and raises ACK, and lowers it once REQ is low. -/
def State.shakeCell (s : State) (f : Placed) (x : CellUse) : State :=
  let q := f.2.1
  let v := (s.net q).cell x.cell
  let o := s.pinsAt f x.cell
  if x.role = 2 then
    if !v.testBit 88 && o.req then (s.acceptOffer f x o).showCell q x.cell (2 ^ 88)
    else if v.testBit 88 && !o.req then s.showCell q x.cell 0
    else s
  else if !v.testBit 87 && !o.ack then
    (let w := s.nextWord f x
     if w.1 = 0 then w.2 else w.2.showCell q x.cell (w.1 + 2 ^ 87))
  else if v.testBit 87 && o.ack then s.showCell q x.cell (withBit v 87 false)
  else s

/-- PORT_CELL_WORD (R290 to R292): cell k of sector q gives or takes a word, or goes on with its handshake. A PACED cell moves its words at
the edges of its pace wire (DESIGN CHOICE, log entry 53). -/
def xPortCell (q k : Nat) (s : State) : State :=
  match s.liveCells.find? (fun e => e.1.2.1 == q && e.2.cell == k) with
  | none => s
  | some (f, x) =>
    match s.cellMode q k with
    | 1 => s.strobeCell f x
    | 2 => s.shakeCell f x
    | _ => s

/-! ## Wires out of the fabric -/

/-- The level that logic drives on a wire out of sector q: 0 to 63 to the Backstop, 64 to 79 strobes, 80 to 95 blanking, 96 to 127 pins,
128 to 159 their enables. -/
def State.borderLevel (s : State) (q w : Nat) : Bool :=
  match (s.borderDrivers q).find? (fun e => e.1 == w) with
  | some e => passes ((s.net q).level s.macroOut) e.2
  | none => false

/-- FABRIC_WIRE_CHANGE (R295, R349, R360, R391): a wire takes the level that logic drives on it; the border latch holds the wires of a
sector that does not run. A rising blanking wire opens the windows of its monitors. A strobe that a rising wire asks for comes at a
modulator edge, as DAC_STROBE (DESIGN CHOICE, log entry 53). -/
def xFabricWire (w : FabricWire) (s : State) : State :=
  match w with
  | .backstop q i =>
    if s.sectorRuns q && i < 64 then
      { s with wires := { s.wires with backstop := withBit s.wires.backstop (64 * q + i) (s.borderLevel q i) } } else s
  | .strobe q i =>
    if s.sectorRuns q && i < 16 then
      let level := s.borderLevel q (64 + i)
      let rises := level && !s.wires.strobe.testBit (16 * q + i)
      let s := { s with wires := { s.wires with strobe := withBit s.wires.strobe (16 * q + i) level } }
      if rises then s.wireStrobes q i else s
    else s
  | .blank q i =>
    if s.sectorRuns q && i < 16 then
      let level := s.borderLevel q (80 + i)
      let rises := level && !s.wires.blank.testBit (16 * q + i)
      let s := { s with wires := { s.wires with blank := withBit s.wires.blank (16 * q + i) level } }
      if rises then s.blankWire q i else s
    else s
  | .pin q i =>
    if s.sectorRuns q && i < 32 then
      { s with wires := { s.wires with pin := withBit s.wires.pin (32 * q + i) (s.borderLevel q (96 + i)) } } else s
  | .pinEnable q i =>
    if s.sectorRuns q && i < 32 then
      { s with wires := { s.wires with enable := withBit s.wires.enable (32 * q + i) (s.borderLevel q (128 + i)) } } else s

/-! ## Pace wires (R288) -/

/-- Whether pace wire i runs: its quadrant's synthesiser is ON. -/
def State.paceOn (s : State) (i : Nat) : Bool :=
  s.obj (K.fabricPaceQuadrant i) < quadCount s.variant && isOn (s.obj (K.timeSynStatus (s.obj (K.fabricPaceQuadrant i))))

/-- The frequency of a pace wire at a quadrant and divider. -/
def State.paceFrac (s : State) (q div : Nat) : Frac := Frac.div (fracOfF32 (s.obj (K.timeSynFreq q))) ⟨div, 1⟩
def State.paceFreq (s : State) (i : Nat) : Nat :=
  if s.paceOn i then (s.paceFrac (s.obj (K.fabricPaceQuadrant i)) (s.obj (K.fabricPaceDiv i))).f32 else 0

/-- `fabric.pace[i].status` follows the synthesiser. -/
def State.paceStatus (s : State) (i : Nat) : Nat :=
  let q := s.obj (K.fabricPaceQuadrant i)
  if q < quadCount s.variant then bitsOf (s.obj (K.timeSynStatus q)) 1 0 else 0

/-- Checks of a pace wire's objects: LOAD only, a quadrant that is present, at most 500 MHz; the least divider is named
(DEDUCED, log entry 11). -/
def guardPace (s : State) (q div : Nat) : Res Unit := do
  need (q < quadCount s.variant) aAbsent (0x00020000 + q)
  let f := s.paceFrac q 1
  need (f.num ≤ 500000000 * div * f.den) aRange (ceilDiv f.num (500000000 * f.den))
  needMode s [mLoad]

/-- The timebase measures the offsets of the pace wires of a synthesiser that starts (DESIGN CHOICE, log entry 2). -/
def State.measurePace (s : State) (q : Nat) : State :=
  (List.range 8).foldl (fun st i =>
    if st.obj (K.fabricPaceQuadrant i) = q then
      let d := st.draw 46
      d.2.set (K.fabricPaceOffset i) (d.1 % 4294967296)
    else st) s

/-! ## Probes (R293, R294) -/

/-- The level of a fabric probe tap (R293). -/
def State.tapLevel (s : State) (net : Nat) : Bool :=
  match s.tapNet (net / 256) (net % 256) with
  | some e => ((s.net (net / 256)).sig e.1).testBit e.2
  | none => false

/-- The level of probe m's net: held by the model, or brought by the command for the nets of the clock network and the switch. Reserved
codes read 0. -/
def State.probeLevel (s : State) (taps m : Nat) : Bool :=
  let net := s.obj (K.probeNet m)
  if net < 0x400 then s.tapLevel net
  else if net < 0x500 then s.macroOut.testBit (net - 0x400)
  else if net < 0x9A0 then s.pool s.macroOut 0 (net - 0x500)
  else if 0xA00 ≤ net && net < 0xA48 then taps.testBit m
  else if 0xB00 ≤ net && net < 0xB20 then taps.testBit m
  else if 0xB20 ≤ net && net < 0xB50 then clientPresent s.variant (net - 0xB20) && s.obj (K.arbClientState (net - 0xB20)) != 0
  else false

/-- Samples that the capture ring holds. -/
def State.ringSamples (s : State) : Nat := s.obj K.probeDepth / 2

/-- One sample of all probes enters the ring; once it is full the snapshot's start moves on (DESIGN CHOICE, log entry 53). -/
def State.sampleProbes (s : State) (taps : Nat) : State :=
  let v := (List.range 16).foldl (fun a m => if s.probeLevel taps m then a + 2 ^ m else a) 0
  let full := s.samples.length ≥ s.ringSamples
  let s := { s with samples := (v :: s.samples).take s.ringSamples }
  if full && s.obj K.probeState = 2 then s.set K.probeTriggerIndex (s.obj K.probeTriggerIndex - 1) else s

/-- Whether the share of the ring after the trigger has been taken (R294). -/
def State.shareTaken (s : State) : Bool :=
  (16 - s.obj K.probePre) * s.ringSamples ≤ 16 * (s.samples.length - s.obj K.probeTriggerIndex)

/-- Whether the capture takes samples. -/
def State.captures (s : State) : Bool := s.obj K.probeState = 1 || (s.obj K.probeState = 2 && !s.shareTaken)

/-- PACE_WIRE_EDGE (R288, R291, R294, R296): while the wire runs, the probes are sampled and the fabric and the Backstop are clocked. -/
def xPaceEdge (i : Nat) (w : PaceFacts) (s : State) : State :=
  if i ≥ 8 || !s.paceOn i then s
  else
    let s := if s.obj K.probePace = i && s.captures then s.sampleProbes w.taps else s
    (s.paceLogic i w.full).bsPace i

/-- The pin of a probe must be FREE in the board facts (R293). -/
def guardProbePin (s : State) (v : Nat) : Res Unit := need (v ≥ 96 || s.pinUse v == 0) aConflict (0x000E0000 + v)

/-- The capture clock runs at most at 250 MHz (R294). -/
def guardProbePace (s : State) (v : Nat) : Res Unit :=
  let f := s.paceFrac (s.obj (K.fabricPaceQuadrant v)) (s.obj (K.fabricPaceDiv v))
  need (f.num ≤ 250000000 * f.den) aRange 0

/-- `probe.depth`: LOAD only, in steps of 65,536. -/
def guardProbeDepth (s : State) (v : Nat) : Res Unit := do
  need (v % 65536 == 0) aRange (v / 65536 * 65536)
  needMode s [mLoad]

/-- Whether the capture ring exists (R294). -/
def State.hasCapture (s : State) : Bool :=
  s.mode == mRun || s.mode == mHold || s.mode == mSafe || s.prepAt 4

def guardArm (s : State) : Res Unit := do
  need s.hasCapture aMode s.mode
  need (s.obj K.probeState != 2) aBusy 0xFF

/-- PROBE_ARM: the capture starts, or starts again. -/
def xProbeArm (s : State) : State := { s.set K.probeState 1 with samples := [] }

/-- PROBE_TRIGGER: the selected edge while ARMED. -/
def xProbeTrigger (s : State) : State :=
  if s.obj K.probeState ≠ 1 then s
  else ((s.set K.probeState 2).set K.probeTriggerTime s.now).set K.probeTriggerIndex s.samples.length

/-- PROBE_DONE: the share after the trigger has been taken. -/
def xProbeDone (s : State) : State := if s.obj K.probeState = 2 && s.shareTaken then s.set K.probeState 3 else s

/-- `probe.data`: oldest sample first, zeros beyond. -/
def State.probeBytes (s : State) : List Byte :=
  s.samples.reverse.flatMap (toLE 2) ++ List.replicate (4194304 - 2 * s.samples.length) 0

/-- LOAD and STANDBY hold no capture ring. -/
def State.dropCapture (s : State) : State :=
  ({ s with samples := [] }.set K.probeState 0).set K.probeTriggerIndex 0

end Sys2Proof.Machine
end

