-- ==== Sys2Proof/Machine/Loading.lean ====
section
/-! DEFINITION. Chapter 14: images, their checks and commits, frame writing, and the reload of one sector (R305 to R319, R328). -/

namespace Sys2Proof.Machine

/-- The header (R307): length, target and sector, the count, the image's own CRC. -/
def checkImageHeader (bs : List Byte) : Res Unit := do
  let n := bs.length
  imageNeed (leAt bs 4 4 == n && n ≤ imageMax && 0x104 ≤ n) 4
  imageNeed (leAt bs 8 1 ≤ 1) 8
  imageNeed (if imageFull bs then imageSector bs == 0xFF else imageSector bs ≤ 3) 9
  imageNeed (1 ≤ imageCount bs && imageCount bs ≤ 256 && 0x104 + 32 * imageCount bs ≤ n) 0xA
  imageNeed (crc32 (bs.take (n - 4)) == leAt bs (n - 4) 4) (n - 4)

/-- A record within its bounds, with its CRC and those of its segments (R307, R308 check 2). -/
def checkPieceCrc (bs : List Byte) (p : PieceRec) : Res Unit := do
  imageNeed (p.id ≤ 255 && 1 ≤ p.clusters && p.clusters ≤ 128 && 1 ≤ p.ports && p.ports ≤ 256 && p.taps ≤ 256 && p.descLen ≤ 4096 &&
    p.data + p.dataLen + 4 ≤ bs.length && p.desc + p.descLen + 4 ≤ bs.length) p.at_
  imageNeed (crc32 (p.dataOf bs ++ p.descOf bs) == p.crc) p.at_
  (List.range p.clusters).forM (fun r => imageNeed (segmentGood bs (p.segment r)) (p.segment r))

/-- The clusters and ports of the committed graph (R308 check 3). -/
def checkPieceGraph (s : State) (p : PieceRec) : Res Unit :=
  imageNeed (s.force (K.graphPieceClusters p.id) == p.clusters && s.force (K.graphPiecePorts p.id) == p.ports) p.at_

/-- A clock-line source that R287 allows a piece: its own port cells in STROBE mode and its own cluster outputs. -/
def clockAllowed (p : PieceRec) (d : Descriptor) (w : Nat) : Bool :=
  let n := w % 4096
  match w / 4096 with
  | 0 => true
  | 1 => n < 8
  | 2 => n < 16
  | 3 => n < p.ports && bitsOf ((d.roles.map (·.1)).getD n 0) 3 2 == 1
  | 4 => n < 32 * p.clusters
  | _ => false

/-- A port role that R290 and R291 allow: STROBE only for READ and COARSE. -/
def roleAllowed (v : Nat) : Bool :=
  v < 128 && bitsOf v 3 2 != 3 && (bitsOf v 3 2 != 1 || bitsOf v 1 0 == 1 || bitsOf v 1 0 == 3)

/-- Clock-line sources, pool codes and port roles (R308 check 5); the offset of the one at fault (DESIGN CHOICE, log entry 28). -/
def checkDescriptor (bs : List Byte) (p : PieceRec) : Res Unit :=
  let d := Config.descriptor (p.descOf bs)
  let wrong := ((d.clocks.filter (fun e => !clockAllowed p d e.1)) ++ (d.pools.filter (fun e => decide (0x4A0 ≤ e.1))) ++
    (d.roles.filter (fun e => !roleAllowed e.1))).map (·.2)
  match wrong.min? with
  | some o => refuseAt (p.desc + o)
  | none => .ok ()

/-- The checks of R308 after that of the word, in their order (DESIGN CHOICE, log entry 54). -/
def checkImage (s : State) (bs : List Byte) : Res Unit := do
  checkImageHeader bs
  (imageRecords bs).forM (checkPieceCrc bs)
  (imageRecords bs).forM (checkPieceGraph s)
  need (imageFull bs || imageSector bs < quadCount s.variant) aAbsent (0x00060000 + imageSector bs)
  (imageRecords bs).forM (checkDescriptor bs)

/-- An image rebuilt from pieces, each with the image that holds it: header, records, descriptors and data in turn. -/
def buildImage (word build : Nat) (ps : List (PieceRec × List Byte)) : List Byte :=
  let base := 0x100 + 32 * ps.length
  let put := fun (a : List Byte × List Byte × Nat) (e : PieceRec × List Byte) =>
    let p := e.1
    let body := p.descOf e.2 ++ p.dataOf e.2
    let rec_ := toLE 2 p.id ++ toLE 2 p.clusters ++ toLE 2 p.ports ++ toLE 2 p.taps ++ toLE 4 (a.2.2 + p.descLen) ++ toLE 4 a.2.2 ++
      toLE 4 p.descLen ++ toLE 4 p.crc ++ toLE 8 0
    (a.1 ++ rec_, a.2.1 ++ body, a.2.2 + body.length)
  let r := ps.foldl put ([], [], base)
  let all := toLE 4 word ++ toLE 4 (r.2.2 + 4) ++ [0, 0xFF] ++ toLE 2 ps.length ++ toLE 4 build ++ List.replicate 240 0 ++ r.1 ++ r.2.1
  all ++ toLE 4 (crc32 all)

/-- A SECTOR image's pieces replace those of the committed image, or join them (R310) (DESIGN CHOICE, log entry 54). -/
def mergeImage (old new : List Byte) : List Byte :=
  let ids := (imageRecords new).map (·.id)
  let kept := if old.isEmpty then [] else ((imageRecords old).filter (fun p => !ids.contains p.id)).map (fun p => (p, old))
  let all := kept ++ (imageRecords new).map (fun p => (p, new))
  buildImage (imageWord new) (leAt new 0xC 4) (sortBy (fun a b => a.1.id < b.1.id) all)

/-! ## Commits (R308 to R310) -/

def State.stagedImage (s : State) : List Byte := (s.blob (stagedBlob K.configImage)).getD []

/-- A sector's frames are no longer in force. -/
def State.unconfigure (s : State) (q : Nat) : State :=
  { s.set (K.configSectorState q) 0 with frames := s.frames.filter (fun f => f.2.1 != q), nets := Sp.erase s.nets q }

/-- An image comes to be the committed one: the map is rewritten (R326), and the shadow is copied (R91). -/
def State.commitImage (s : State) (bs : List Byte) : State :=
  let s := (s.setBlob K.configImage bs).set K.configCrc (leAt bs (bs.length - 4) 4)
  let s := s.set K.configWord (imageWord bs)
  let s := s.set K.configPieces ((imageRecords bs).foldl (fun a p => a ||| 2 ^ p.id) 0)
  let s := (s.count K.configCommits 32 1).startCopy
  let s := { s with scrub := { s.scrub with bad := [], table := false } }
  s.set K.scrubStatus (withBit (s.obj K.scrubStatus) 4 s.scrub.forced)

/-- The image to commit in LOAD: sectors read UNCONFIGURED (R310). -/
def State.commitInLoad (s : State) (bs : List Byte) : State :=
  let s := s.commitImage (if imageFull bs then bs else mergeImage s.committed bs)
  let qs := if imageFull bs then allQuads s.variant else [imageSector bs]
  let s := qs.foldl (fun st q => st.unconfigure q) s
  (s.set K.configState 1).setUntested 5 (s.classify 3 (imageWord bs) != .tested)

/-- A refusal is recorded: the abort, and the offset where it names one (R308). -/
def State.noteImage (s : State) (e : Abort) : State :=
  (s.set K.configLastAbort e.code).set K.configLastOffset (if e.code = aRange then e.detail else 0)

/-- Where an image may be written (R310). -/
def guardImage (s : State) : Res Unit := needMode s [mLoad, mRun, mHold]

/-- BLOCK_CLOSE of an image: R33, R308, then committed in LOAD, staged in RUN and HOLD (DESIGN CHOICE, log entry 54). -/
def closeImage (bs : List Byte) (s : State) : State × Res Unit :=
  match guardImage s with
  | .error e => (s, .error e)
  | .ok _ =>
    let v := s.checkVersion 3 (imageWord bs)
    match v.2 with
    | .error e => (v.1.noteImage e, .error e)
    | .ok _ =>
      match checkImage s bs >>= fun _ => need (s.mode == mLoad || !imageFull bs) aMode s.mode with
      | .error e => (s.noteImage e, .error e)
      | .ok _ =>
        if s.mode = mLoad then (s.commitInLoad bs, .ok ())
        else
          let s := (s.setBlob (stagedBlob K.configImage) bs).set K.configStaged (imageSector bs)
          ((s.fillShadow areaStaging.1 areaStaging.2 bs).showShadow, .ok ())

/-- LOAD and STANDBY hold no staged image (R310). -/
def State.dropStaged (s : State) : State :=
  { s.set K.configStaged 0xFF with blobs := Sp.erase s.blobs (stagedBlob K.configImage) }

/-- After a graph commit: pieces whose clusters or ports it changed have no frames (R309). -/
def State.dropPieces (s old : State) : State :=
  let changed := (List.range 256).filter (fun j => s.force (K.graphPieceClusters j) != old.force (K.graphPieceClusters j) ||
    s.force (K.graphPiecePorts j) != old.force (K.graphPiecePorts j))
  if changed.isEmpty then s else s.set K.configPieces (changed.foldl (fun a j => withBit a j false) (s.obj K.configPieces))

/-- Step 1 of PREPARE: every piece of the graph has its bit (R309). -/
def State.missingPiece (s : State) : Option Nat :=
  (s.graphPieces.find? (fun p => !(s.obj K.configPieces).testBit p.id)).map (·.id)

/-! ## Writing frames at placement (R313, R314) -/

/-- The pieces that the placement puts in a sector. -/
def State.placedIn (s : State) (q : Nat) : List (Nat × Nat × List Nat × Nat) := s.plan.pieces.filter (fun e => e.2.1 == q)

/-- Whether a sector must be written: its pieces are not already in force where they are placed. -/
def State.mustWrite (s : State) (q : Nat) : Bool :=
  !(s.placedIn q).isEmpty && (s.obj (K.configSectorState q) != 2 || !(s.placedIn q).all (fun e => s.frames.contains e))

/-- The frame writer starts at the end of step 2. -/
def State.startFrames (s : State) : State :=
  let qs := (allQuads s.variant).filter s.mustWrite
  let s := qs.foldl (fun st q => (st.set (K.configSectorState q) 1).set (K.configSectorClustersLeft q)
    (min 128 (((st.placedIn q).map (fun e => e.2.2.1.length)).foldl (· + ·) 0))) s
  if qs.isEmpty then s else s.set K.configState 2

/-- Clock lines and port roles as the frames in force set them (R287, R290, R304). -/
def State.showFrames (s : State) (q : Nat) : State :=
  (s.set (K.fabricSectorClockSrc q) (s.clockSources q)).set (K.fabricSectorPortRoles q) (s.portRoles q)

/-- What the frame writer records in the shadow (R311, R313): the translation of each piece in the placement table, 32 bytes of a layout not
given (DESIGN CHOICE, log entry 2), closed by its CRC-32; and the map of the sector frames, 64 KiB to a sector, 64 bytes to a frame
(DESIGN CHOICE, log entry 26). -/
def State.recordFrames (s : State) : State :=
  let table := s.frames.flatMap (fun f =>
    toLE 32 (Config.free 66 (ofLE (toLE 2 f.1 ++ toLE 1 f.2.1 ++ toLE 2 f.2.2.2 ++ f.2.2.1.flatMap (fun x => toLE 1 x)))))
  let entry := fun (q frame byte : Nat) =>
    BitVec.ofNat 8 ((List.range 8).foldl (fun a i => if s.pairUsed q frame (8 * byte + i) then a + 2 ^ i else a) 0)
  let map_ := (List.range 4).flatMap (fun q =>
    if (s.framesIn q).isEmpty then List.replicate 65536 0
    else (List.range 1024).flatMap (fun frame => (List.range 64).map (entry q frame)))
  ((s.fillShadow areaTable.1 areaTable.2 (table ++ toLE 4 (crc32 table))).fillShadow areaMap.1 areaMap.2 map_).showShadow

/-! ## LOST sectors (R328) -/

/-- A sector becomes LOST: pieces that may move do (R235), the output contexts of the others fail at their next boundary
(DESIGN CHOICE, log entry 39). -/
def State.loseSector (s : State) (q : Nat) : State :=
  let s := (s.set (K.configSectorState q) 4).set (K.configSectorClustersLeft q) 0
  let s := (s.placedIn q).foldl (fun st e =>
    if st.mayMove e.1 && st.obj K.deviceStandbyShadow = 1 then st.queueMove e.1
    else (st.pieceOutputs e.1).foldl (fun t c => t.modCtx c (fun x => { x with failDue := 17 })) st) s
  s.raise 756 q

/-- The writer has finished: sectors it could not read back twice are LOST. -/
def State.finishFrames (s : State) (lost : List Nat) : State :=
  let qs := (allQuads s.variant).filter (fun q => s.obj (K.configSectorState q) == 1)
  let s := qs.foldl (fun (st : State) q =>
    let st : State := { st with frames := (st.frames.filter (fun (f : Nat × Nat × List Nat × Nat) => f.2.1 != q)) ++ st.placedIn q }
    let st := (((st.set (K.configSectorState q) 2).set (K.configSectorClustersLeft q) 0).showFrames q)
    let st := (st.framesIn q).foldl (fun u f => u.loadMemories f) st
    if lost.contains q then st.loseSector q else st) s
  let s := if qs.isEmpty then s else s.recordFrames
  if (allQuads s.variant).any (fun q => s.obj (K.configSectorState q) == 2) then s.set K.configState 3 else s

/-- User flip-flops of the configured sectors leave reset (R281, R314). -/
def State.releaseLogic (s : State) : State :=
  s.frames.foldl (fun st f => if st.obj (K.configSectorState f.2.1) = 2 then st.startLogic f else st) s

/-- The writer is stopped: sectors it was writing hold no design. -/
def State.abortFrames (s : State) : State :=
  let qs := (allQuads s.variant).filter (fun q => s.obj (K.configSectorState q) == 1)
  let s := qs.foldl (fun st q => (st.unconfigure q).set (K.configSectorClustersLeft q) 0) s
  if s.obj K.configState = 2 then
    s.set K.configState (if (allQuads s.variant).any (fun q => s.obj (K.configSectorState q) == 2) then 3 else 1)
  else s

/-! ## Reloading one sector (R315 to R319) -/

/-- Checks of `config.sector[q].reload`, in the order of R315. -/
def guardReload (s : State) (q : Nat) : Res Unit := do
  needMode s [mRun, mHold]
  need (s.obj K.configStaged == q && s.obj (K.configSectorState q) != 4) aMode (s.obj (K.configSectorState q))
  need (s.reload.isNone && !s.sectorMoving q && !s.swaps.any (fun w => w.old / 64 == q || (w.spare != 0xFFFF && w.spare / 64 == q)) &&
    !s.calTiles.any (fun n => n / 64 == q)) aBusy 0xFF

/-- CONFIG_SECTOR_RELOAD: step 1 begins. -/
def xSectorReload (q : Nat) (s : State) : State := { s with reload := some ⟨q, 1⟩ }

/-- The contexts that a reload of sector q affects (R316). -/
def State.affected (s : State) (q : Nat) : List Nat :=
  s.ringed.filter (fun c =>
    (s.obj (K.ctxTile c) != 0xFFFF && s.obj (K.ctxTile c) / 64 == q) ||
    (s.chained c && s.obj (K.ctxEngine c) / 4096 == q) ||
    (s.node (K.graphNodeSource c) == 2 && s.sectorOf (s.node (K.graphNodeInput c) / 256) == q))

/-- The readers of a sector's pieces leave their rings, or rejoin them at the newest line (R316). -/
def State.setCellReaders (s : State) (q : Nat) (live : Bool) : State :=
  (s.placedIn q).foldl (fun st e => if live then st.joinRings e.1 e.1 else st.leaveRings e.1 e.1) s

/-- Selectors to ISOLATE and entry switches open, or back as the placement has them (R317 steps 3 and 7, R126). -/
def State.isolate (s : State) (q : Nat) : State :=
  (List.range 64).foldl (fun st i =>
    let n := 64 * q + i
    (((st.setSel n 0 0xFF).setSel n 1 0xFF).setEntry n 0).modTile n (fun x => { x with isolated := withBit x.isolated 2 true })) s
def State.rejoin (s : State) (q : Nat) : State :=
  ((List.range 64).foldl (fun st i =>
    let n := 64 * q + i
    (st.modTile n (fun x => { x with isolated := withBit x.isolated 2 false })).joinBuses n (st.tileCtxs n)) s).syncEntries

/-- An open line that the freeze meets is discarded and counted unwritten (step 2) (DESIGN CHOICE, log entry 44). -/
def State.cutLine (s : State) (c : Nat) : State :=
  match (s.ctx c).cur with
  | none => s
  | some l => if l.empty then s else
      ((s.modCtx c (fun x => { x with cur := x.cur.map (fun (y : Cur) => { y with lossy := true }) })).closeLineOf c).count (K.ctxRingUnwritten c) 64 1

/-- Step 3: the freeze. -/
def State.freezeSector (s : State) (q : Nat) : State :=
  let cs := s.affected q
  let s := cs.foldl (fun st c => (st.cutLine c).modCtx c (fun x => { x with freeze := true })) s
  let s := (s.set (K.configSectorState q) 3).set (K.configSectorFrozenFrom q) s.now
  let s := (s.setCellReaders q false).isolate q
  cs.foldl (fun st c => match st.slotOf c with
    | some i => if i / 256 = q then st.holdSlot i else st
    | none => st) s

/-- The line with which a slot restarts after a freeze: the context's next, or, of a piece's words, the next that its raw ring takes. -/
def State.rejoinLine (s : State) (c : Nat) : Nat :=
  if s.obj (K.ctxTile c) = 0xFFFF then (s.ctx c).raw.latest.elim 0 (· + 1) else s.nextNumber c

/-- Step 7: the release. User logic starts again with its initial values; slots restart with the next line (R318). -/
def State.releaseSector (s : State) (q : Nat) : State :=
  let cs := s.affected q
  let s := (s.set (K.configSectorState q) 2).set (K.configSectorReleased q) s.now
  let s := (s.setCellReaders q true).rejoin q
  let s := cs.foldl (fun st c =>
    let st := st.modCtx c (fun x => { x with freeze := false, cur := match x.cur with
      | some l => if l.empty then none else some l
      | none => none })
    match st.slotOf c with
    | some i => if i / 256 = q then st.restartAt c (st.rejoinLine c) else
        let n := st.obj (K.ctxTile c)
        if n = 0xFFFF then st else st.stepSlot i (st.nextNumber c) 0
          (wordsOf (st.chainRate c) [selectorTime (st.formOf n) (st.frontEnd n (st.obj (K.ctxHalf c))).rf])
    | none => st) s
  (s.placedIn q).foldl (fun st e => st.setFab e.1 .none_) s

/-- The staged image becomes the committed one for its pieces (step 8) (DESIGN CHOICE, log entry 54). -/
def State.commitStaged (s : State) : State :=
  let bs := s.stagedImage
  ((s.commitImage (mergeImage s.committed bs)).setUntested 5 (s.classify 3 (imageWord bs) != .tested)).dropStaged

/-- The new frames are in force: block memories hold their initial contents, flip-flops their initial values (R281, R306). -/
def State.restartLogic (s : State) (q : Nat) : State :=
  ((s.framesIn q).foldl (fun st f => (st.loadMemories f).startLogic f) (s.showFrames q)).recordFrames

/-- What a reload's end lets begin. -/
def State.endReload (s : State) : State := (({ s with reload := none } : State).pumpMoves).pumpSwaps

/-- RELOAD_STEP_END (R317, R319): `ok` is false where a frame failed its readback twice. In SAFE step 6 waits. -/
def xReloadStep (ok : Bool) (s : State) : State :=
  match s.reload with
  | none => s
  | some r =>
    let q := r.sector
    let next := fun (st : State) (k : Nat) => { st with reload := some ⟨q, k⟩ }
    match r.step with
    | 1 => next ((s.affected q).foldl (fun st c => st.modCtx c (fun x => { x with freeze := true })) s) 2
    | 2 => next (s.freezeSector q) 3
    | 3 => next (s.set (K.configSectorClustersLeft q) (min 128 (((imageRecords s.stagedImage).map (·.clusters)).foldl (· + ·) 0))) 4
    | 4 => if ok then next (s.set (K.configSectorClustersLeft q) 0) 5
        else (s.loseSector q).endReload
    | 5 => if ok then next s 6 else (s.loseSector q).endReload
    | 6 => if s.mode = mRun || s.mode = mHold then next s 7 else s
    | 7 => next (((s.releaseSector q).commitStaged).restartLogic q) 8
    | _ => ((s.count (K.configSectorReloads q) 32 1).endCopy).endReload

/-! ## Piece moves (R235) -/

/-- The copy of a piece takes over: its port cells, its place, its readers; the old clusters are cleared and freed. -/
def State.takeCopy (s : State) (m : Move) : State :=
  let j := m.piece
  let q := s.sectorOf j
  let copy := s.fab (256 + j)
  let new : Placed := (j, q, m.clusters, m.ports)
  let s := s.leaveRings j j
  let s := (s.pieceInputs j).foldl (fun t c =>
    let r := t.ring c false
    t.setRing c false { r with readers := r.readers.map (fun x => if x.kind == .cell && x.unit == 256 + j then { x with unit := j } else x) }) s
  let s := (s.setFab (256 + j) .none_).setFab j { copy with writes := (s.fab j).writes }
  let kept := s.frames.filter (fun (f : Placed) => f.1 != j || f == new)
  let places := s.plan.pieces.map (fun (e : Placed) => if e.1 = j then new else e)
  let s : State := { s with frames := kept, plan := { s.plan with pieces := places } }
  let s := (s.set (K.graphPiecePlacedClusters j) (ofLE ((List.range 16).map (fun i =>
      BitVec.ofNat 8 (m.clusters.foldl (fun a x => if x / 8 = i then a + 2 ^ (x % 8) else a) 0))))).set
    (K.graphPiecePlacedPorts j) m.ports
  (s.showFrames q).recordFrames

/-- PIECE_MOVE_STEP_END (R235): the relocated frames are written; the copy is released at a line boundary and reads the same rings; after
its warmup its output is taken, and the old clusters are freed. -/
def xPieceMoveStep (j : Nat) (s : State) : State :=
  match s.moves.find? (fun m => m.piece == j) with
  | none => s
  | some m =>
    let next := fun (st : State) (k : Nat) => st.putMoves (st.moves.map (fun x => if x.piece = j then { x with step := k } else x))
    let f : Placed := (j, s.sectorOf j, m.clusters, m.ports)
    match m.step with
    | 0 => s
    | 1 => next (((({ s with frames := s.frames ++ [f] } : State).loadMemories f).showFrames (s.sectorOf j)).recordFrames) 2
    | 2 => next ((s.startLogic f).joinRings j (256 + j)) 3
    | _ =>
      let old := ((s.plan.pieces.find? (fun e => e.1 == j)).map (fun e => e.2.2.1)).getD []
      let s := (s.takeCopy m).putMoves (s.moves.filter (fun x => x.piece != j))
      let s := s.count (K.graphPieceMoves j) 32 1
      let s := (s.pieceOutputs j).foldl (fun st c => st.count (K.ctxMoves c) 32 1) s
      let s := old.foldl (fun st x => st.setSuccessor 6 (128 * s.sectorOf j + x) (128 * s.sectorOf j + m.clusters.headD 0)) s
      (s.raise 759 j).pumpMoves

/-- A request for LOAD or STANDBY stops a reload: the sector reads UNCONFIGURED (R319). -/
def State.abortReload (s : State) : State :=
  match s.reload with
  | none => s
  | some r =>
    let s := if r.step ≤ 7 then s.unconfigure r.sector else s
    let s := (s.affected r.sector).foldl (fun st c => st.modCtx c (fun x => { x with freeze := false })) s
    { s.dropStaged with reload := none }

end Sys2Proof.Machine
end

