-- ==== Sys2Proof/Machine/Scrubber.lean ====
section
/-! DEFINITION. Chapter 14: the scrubber (R320 to R328). -/

namespace Sys2Proof.Machine

def State.modScrub (s : State) (f : Scrub → Scrub) : State := { s with scrub := f s.scrub }

/-! ## Frame addresses (R305) and the order of a pass (R320) -/

def clusterFrame (q x f : Nat) : Nat := q * 32768 + x * 256 + f
def sectorFrame (q f : Nat) : Nat := 131072 + q * 32768 + f
def frameSector (a : Nat) : Nat := bitsOf a 16 15
def isSectorFrame (a : Nat) : Bool := a.testBit 17
def frameCluster (a : Nat) : Nat := bitsOf a 14 8
def frameNumber (a : Nat) : Nat := if isSectorFrame a then bitsOf a 9 0 else bitsOf a 7 0

/-- Whether a move is writing a cluster (R235). -/
def State.clusterMoving (s : State) (q x : Nat) : Bool :=
  s.moves.any (fun m => m.step == 1 && s.sectorOf m.piece == q && m.clusters.contains x)

/-- The first frames of the runs that a pass reads, in ascending order: clusters of CONFIGURED sectors, then sector frames. -/
def State.scrubRuns (s : State) : List Nat :=
  let qs := (allQuads s.variant).filter (fun q => s.obj (K.configSectorState q) == 2)
  qs.flatMap (fun q => ((List.range 128).filter (fun x => !s.clusterMoving q x)).map (fun x => clusterFrame q x 0)) ++
    qs.map (fun q => sectorFrame q 0)

/-- Whether a frame is one that the scrubber reads. -/
def State.scrubs (s : State) (a : Nat) : Bool :=
  s.obj (K.configSectorState (frameSector a)) == 2 &&
    (isSectorFrame a || (frameNumber a < 220 && !s.clusterMoving (frameSector a) (frameCluster a)))

/-- The frame after one: in its run, or the first of the next run; `none` at the end of a pass (DESIGN CHOICE, log entry 55). -/
def State.frameAfter (s : State) (a : Nat) : Option Nat :=
  let last := if isSectorFrame a then 1023 else 219
  if frameNumber a < last && s.scrubs a then some (a + 1) else s.scrubRuns.find? (fun b => a < b)

/-! ## Essential bits (R321) -/

/-- The piece and relative cluster in force at a cluster. -/
def State.frameOwner (s : State) (q x : Nat) : Option (Nat × Nat) :=
  (s.frames.find? (fun e => e.2.1 == q && e.2.2.1.contains x)).map (fun e => (e.1, e.2.2.1.idxOf x))

/-- Whether the map calls a wrong bit of a frame essential: for the sector frames, what the descriptors of the pieces in force say. -/
def State.bitEssential (s : State) (a bit : Nat) : Bool :=
  let q := frameSector a
  if isSectorFrame a then s.pairUsed q (frameNumber a) (bit / 2)
  else match s.frameOwner q (frameCluster a) with
    | none => false
    | some (j, r) =>
      match (imageRecords s.committed).find? (fun p => p.id == j) with
      | some p => mapBitOf s.committed p r (frameNumber a) bit
      | none => false

/-- Whether every bit of a frame is held essential (R326, R327). -/
def State.allEssential (s : State) (a : Nat) : Bool :=
  s.scrub.table || s.scrub.forced || (!isSectorFrame a && s.scrub.bad.contains (128 * frameSector a + frameCluster a))

def State.showAll (s : State) : State :=
  s.set K.scrubStatus (withBit (s.obj K.scrubStatus) 4 (s.scrub.table || s.scrub.forced || !s.scrub.bad.isEmpty))

/-! ## Findings (R321, R322) -/

/-- A record of the log: TIME96, frame, finding with MAP and ALL. -/
def State.logFinding (s : State) (a kind : Nat) (map all : Bool) : State :=
  s.modScrub (fun x => { x with log := ((toLE 12 s.now ++ toLE 3 a ++ toLE 1 (kind + 8 * ofBool map + 16 * ofBool all)) :: x.log).take 64 })

/-- The 1,024 bytes of `scrub.log`, oldest first. -/
def State.scrubLog (s : State) : List Byte :=
  s.scrub.log.reverse.flatten ++ List.replicate (1024 - 16 * s.scrub.log.length) 0

/-- An essential finding reaches the Placer: the cluster is listed and its piece may move (R235, R321). -/
def State.tellPlacer (s : State) (a : Nat) : State :=
  if isSectorFrame a then s
  else s.essentialUpset (frameSector a) (frameCluster a)

/-- What the scrubber does about an error in a frame (R321, R323, R328) (DESIGN CHOICE, log entry 55). -/
def State.actOn (s : State) (a : Nat) (f : Finding) : State :=
  let owned := isSectorFrame a || (s.frameOwner (frameSector a) (frameCluster a)).isSome
  let all := s.allEssential a
  let hit := f.onehot || (if all then true else f.bits.any (s.bitEssential a))
  let s := if f.onehot then s.count K.scrubOnehot 32 1 else s
  if f.correctable then
    if hit then
      (((s.count K.scrubEssential 32 1).logFinding a (if f.onehot then 4 else 2) owned all).raise 755 a).tellPlacer a
    else (s.count K.scrubCorrected 32 1).logFinding a 1 owned all
  else if f.restorable && s.obj K.deviceStandbyShadow = 1 then
    ((((s.count K.scrubRestored 32 1).count K.scrubEssential 32 1).logFinding a (if f.onehot then 4 else 3) owned all).raise 755 a).tellPlacer a
  else ((s.count K.scrubLost 32 1).logFinding a 5 owned all).loseSector (frameSector a)

/-- Latch copies that differ from the majority are rewritten (R325). -/
def State.voteFix (s : State) (n : Nat) : State :=
  if n = 0 then s else (s.count K.scrubVoteFixes 32 n).set K.scrubStatus (withBit (s.obj K.scrubStatus) 5 true)

/-- Map segments and the placement table that fail their CRC twice (R326). -/
def State.mapFaults (s : State) (a : Nat) (f : Finding) : State :=
  let seg := 128 * frameSector a + frameCluster a
  let newSeg := f.mapBad && !isSectorFrame a && !s.scrub.bad.contains seg
  let newTab := f.tableBad && !s.scrub.table
  if newSeg || newTab then
    let s := s.modScrub (fun x => { x with bad := if newSeg then seg :: x.bad else x.bad, table := x.table || newTab })
    let s := (s.set K.scrubFlags (withBit (s.obj K.scrubFlags) 0 true)).count K.scrubMapBad 32 (ofBool newSeg + ofBool newTab)
    s.showAll.raise 755 a
  else s

/-- A pass ends: counted and timed; VOTE and what was forced for it end. -/
def State.endPass (s : State) : State :=
  let ms := f32OfRat (s.clock - s.scrub.passStart) perMs
  let s := (s.tally K.scrubPasses 64 1).set K.scrubPassMs ms
  let s := s.modScrub (fun x => { x with forced := false, resets := 0, passStart := s.clock })
  (s.set K.scrubStatus (withBit (s.obj K.scrubStatus) 5 false)).showAll

/-- On to the next frame. -/
def State.nextFrame (s : State) (a : Nat) : State :=
  match s.frameAfter a with
  | some b => s.set K.scrubPosition b
  | none => s.endPass.set K.scrubPosition (s.scrubRuns.headD 0)

/-- SCRUB_FRAME (R320 to R326): the frame in hand is read; one that a move or a reload has taken away is passed over
(DESIGN CHOICE, log entry 55). -/
def xScrubFrame (f : Finding) (s : State) : State :=
  if !isOn (s.obj K.scrubStatus) || s.scrubRuns.isEmpty then s
  else
    let s := if s.scrubs (s.obj K.scrubPosition) then s else s.nextFrame (s.obj K.scrubPosition)
    let a := s.obj K.scrubPosition
    let s := (s.voteFix f.votes).mapFaults a f
    let s := if f.bits.isEmpty && !f.onehot then s else s.actOn a f
    s.nextFrame a

/-- SCRUB_WATCHDOG (R327): the sequencer resumes at the next frame. -/
def xScrubWatchdog (s : State) : State :=
  if !isOn (s.obj K.scrubStatus) then s
  else
    let again := 1 ≤ s.scrub.resets
    let s := s.modScrub (fun x => { x with resets := x.resets + 1, forced := x.forced || decide (1 ≤ x.resets) })
    let s := s.count K.scrubRestarts 32 1
    let flags := withBit (s.obj K.scrubFlags) 2 true
    let s := (s.set K.scrubFlags (if again then withBit flags 1 true else flags)).showAll
    (s.raise 755 (s.obj K.scrubPosition)).nextFrame (s.obj K.scrubPosition)

/-- SCRUB_ENABLE (R324, R99). -/
def xScrubEnable (v : Nat) (s : State) : State := s.set K.scrubStatus (enWrite (s.obj K.scrubStatus) v)

/-- The scrubber reads ON: a pass begins. -/
def State.scrubStart (s : State) : State :=
  (s.modScrub (fun x => { x with passStart := s.clock, resets := 0 })).set K.scrubPosition (s.scrubRuns.headD 0)

/-- A placement rewrites the map and the table (R326). -/
def State.scrubPlaced (s : State) : State := (s.modScrub (fun x => { x with bad := [], table := false })).showAll

end Sys2Proof.Machine
end

