-- ==== Sys2Proof/Machine/Lanes.lean ====
section
/-! DEFINITION. Chapter 17: lanes, stream packets, the management port, replays (R70, R71, R371 to R386). -/

namespace Sys2Proof.Machine

def State.lane (s : State) (n : Nat) : Lane := Sp.get (fun _ => Lane.none_) s.lanes n
def State.setLane (s : State) (n : Nat) (x : Lane) : State := { s with lanes := Sp.put (fun _ => Lane.none_) s.lanes n x }
def State.modLane (s : State) (n : Nat) (f : Lane → Lane) : State := s.setLane n (f (s.lane n))
def State.live_ (s : State) (c : Nat) : Export := Sp.get (fun _ => Export.none_) s.exports c
def State.setLive (s : State) (c : Nat) (x : Export) : State := { s with exports := Sp.put (fun _ => Export.none_) s.exports c x }
def State.peer_ (s : State) (c : Nat) : Export := Sp.get (fun _ => Export.none_) s.peers c
def State.setPeer (s : State) (c : Nat) (x : Export) : State := { s with peers := Sp.put (fun _ => Export.none_) s.peers c x }

def State.allLanes (s : State) : List Nat := List.range (laneCount s.variant)

/-- Event sources of a lane (R385, R403). -/
def sLink (n : Nat) : Nat := 512 + 4 * n
def sFec (n : Nat) : Nat := 513 + 4 * n
def sFlow (n : Nat) : Nat := 514 + 4 * n
def sIntegrity (n : Nat) : Nat := 515 + 4 * n

def State.ethernet (s : State) (n : Nat) : Bool := s.roleOfLane n == 1
def State.linkUp (s : State) (n : Nat) : Bool := s.obj (K.laneLink n) == 3
def State.laneOn (s : State) (n : Nat) : Bool := isOn (s.obj (K.laneStatus n))
/-- Whether a lane sends: ON, or STOPPING until its streams have left it (R372). -/
def State.laneSends (s : State) (n : Nat) : Bool := s.laneOn n || enState (s.obj (K.laneStatus n)) == 3

/-- INTEGRITY is raised at most once in 1 ms. -/
def State.integrity (s : State) (n : Nat) : State :=
  match (s.lane n).integrity with
  | some t => if s.clock < t + perMs then s else (s.modLane n (fun x => { x with integrity := some s.clock })).raise (sIntegrity n) 0
  | none => (s.modLane n (fun x => { x with integrity := some s.clock })).raise (sIntegrity n) 0

/-! ## Addresses (R376, R377): objects hold bytes in network order, the first lowest -/

/-- n bytes, most significant first, and the number that such bytes of an object spell. -/
def toBE (n v : Nat) : List Byte := (toLE n v).reverse
def ofBE (n v : Nat) : Nat := ofLE (toLE n v).reverse

/-- The factory MAC of lane n, or of the management port for 16 (DESIGN CHOICE, log entry 4): an individual address. -/
def factoryMac (n : Nat) : Nat := withBits (Config.free 50 n % 2 ^ 48) 0 0 0

/-- The IPv6 link-local address of a MAC: fe80::/64 with the modified EUI-64 identifier. -/
def linkLocal (mac : Nat) : Nat :=
  let b := fun (i : Nat) => byteAt mac i
  ofLE ([0xFE, 0x80, 0, 0, 0, 0, 0, 0, BitVec.ofNat 8 (b 0 ^^^ 2)] ++ [b 1, b 2, 0xFF, 0xFE, b 3, b 4, b 5].map (BitVec.ofNat 8))

def isV4 (ip : Nat) : Bool := ip % 2 ^ 96 == 0xFFFF * 2 ^ 80
def v4Of (ip : Nat) : Nat := ip / 2 ^ 96
def isMulticast (ip : Nat) : Bool := if isV4 ip then 224 ≤ byteAt ip 12 && byteAt ip 12 < 240 else byteAt ip 0 == 255
def groupMac (ip : Nat) : Nat :=
  if isV4 ip then ofLE [0x01, 0x00, 0x5E, BitVec.ofNat 8 (byteAt ip 13 % 128), BitVec.ofNat 8 (byteAt ip 14), BitVec.ofNat 8 (byteAt ip 15)]
  else ofLE ([0x33, 0x33] ++ (List.range 4).map (fun i => BitVec.ofNat 8 (byteAt ip (12 + i))))

/-- Whether two addresses of n bytes share a prefix. -/
def samePrefix (n bits a b : Nat) : Bool := ofBE n a / 2 ^ (8 * n - bits) == ofBE n b / 2 ^ (8 * n - bits)

/-- The address that a lane resolves: its destination, or the gateway outside the lane's prefix. -/
def State.nextHopIp (s : State) (n : Nat) : Nat :=
  let ip := s.obj (K.laneDstIp n)
  if isV4 ip then
    let g := s.obj (K.laneIpv4Gateway n)
    if samePrefix 4 (s.obj (K.laneIpv4Prefix n)) (v4Of ip) (s.obj (K.laneIpv4 n)) || g = 0 then ip else 0xFFFF * 2 ^ 80 + g * 2 ^ 96
  else
    let g := s.obj (K.laneIpv6Gateway n)
    if samePrefix 16 (s.obj (K.laneIpv6Prefix n)) ip (s.obj (K.laneIpv6 n)) || samePrefix 16 64 ip (linkLocal (factoryMac n)) || g = 0
    then ip else g

/-- Whether an address is one of a port's own. -/
def State.ownAddress (s : State) (port ip : Nat) : Bool :=
  let mac := factoryMac (if port = 3 then 16 else port - 16)
  let v4 := s.obj (if port = 3 then K.portsMgmtIpv4 else K.laneIpv4 (port - 16))
  let v6 := s.obj (if port = 3 then K.portsMgmtIpv6 else K.laneIpv6 (port - 16))
  if isV4 ip then v4 != 0 && v4Of ip == v4 else ip == linkLocal mac || (v6 != 0 && ip == v6)

/-! ## Links and holds (R374, R378) -/

/-- The cause for which a lane in Ethernet role holds its streams. -/
def State.holdCause (s : State) (n : Nat) : Nat :=
  if !s.ethernet n then 0
  else if !s.linkUp n then 1
  else if (s.lane n).paused.isSome then 2
  else if s.obj (K.laneDstState n) ≤ 1 then 3
  else 0

/-- Show the hold in force; each hold has its own length. -/
def State.showHold (s : State) (n : Nat) : State :=
  let c := s.holdCause n
  let s := if s.obj (K.laneHoldCause n) = c then s else s.set (K.laneHoldCause n) c
  let bit := (s.obj (K.laneStatus n)).testBit 5
  if (c != 0) = bit then s
  else
    let s := s.set (K.laneStatus n) (withBit (s.obj (K.laneStatus n)) 5 (c != 0))
    s.modLane n (fun x => { x with held := if c = 0 then none else some s.clock, told := false })

def State.heldUs (s : State) (n : Nat) : Nat :=
  match (s.lane n).held with | some t => min ((s.clock - t) / perUs) 4294967295 | none => 0

/-- FLOW_LIMIT_EXPIRY (R378): a hold has lasted `flow_limit`; once for each hold. -/
def xFlowLimit (n : Nat) (s : State) : State :=
  if s.obj (K.laneHoldCause n) = 0 || (s.lane n).told || s.heldUs n < s.obj (K.laneFlowLimit n) then s
  else (s.modLane n (fun x => { x with told := true })).raise (sFlow n) 0

/-- Ask for the MAC of the destination: an ARP request (1) or a neighbour solicitation (2). -/
def State.solicit (s : State) (n : Nat) : State :=
  let ip := s.nextHopIp n
  s.emit (.frame (16 + n) (if isV4 ip then 1 else 2) ip [])

/-- The state of the destination after its address, its MAC, a gateway or a prefix was written, or at link-up (R377). -/
def State.judgeDst (s : State) (n : Nat) : State :=
  let ip := s.obj (K.laneDstIp n)
  let mac := s.obj (K.laneDstMac n)
  let v := if ip = 0 then 0 else if mac ≠ 0 then 3 else if isMulticast ip then 4 else 1
  let use := if v = 3 then mac else if v = 4 then groupMac ip else 0
  let s := (s.set (K.laneDstState n) v).set (K.laneDstResolved n) use
  let s := if v = 1 && s.linkUp n && s.ethernet n then s.solicit n else s
  s.showHold n

/-- RESOLUTION_RETRY and RESOLUTION_REFRESH (R377). -/
def xResolutionRetry (n : Nat) (s : State) : State :=
  if s.ethernet n && s.linkUp n && s.obj (K.laneDstState n) = 1 then s.solicit n else s
def xResolutionRefresh (n : Nat) (s : State) : State :=
  if s.ethernet n && s.linkUp n && s.obj (K.laneDstState n) = 2 then s.solicit n else s

/-- A received frame counts. -/
def State.rxFrame (s : State) (port bytes : Nat) : State :=
  if port = 3 then s.tally K.portsMgmtRxFrames 64 1
  else (s.tally (K.laneRxFrames (port - 16)) 64 1).tally (K.laneRxBytes (port - 16)) 64 bytes

/-- Whether a port takes Ethernet frames now. -/
def State.portUp (s : State) (port : Nat) : Bool :=
  if port = 3 then s.obj K.portsMgmtLink == 3 else s.ethernet (port - 16) && s.linkUp (port - 16)

/-- FRAME_DROPPED (R375, R386). -/
def xFrameDropped (port : Nat) (fcs : Bool) (s : State) : State :=
  if !s.portUp port then s
  else if port = 3 then s.count (if fcs then K.portsMgmtRxFcs else K.portsMgmtRxDropped) 32 1
  else if fcs then (s.count (K.laneRxFcs (port - 16)) 32 1).integrity (port - 16)
  else s.count (K.laneRxDropped (port - 16)) 32 1

/-- ARP_REPLY (R377): resolves a destination that is to be resolved. -/
def xArpReply (n addr mac : Nat) (s : State) : State :=
  if !s.portUp (16 + n) then s
  else
    let s := s.rxFrame (16 + n) 64
    let st := s.obj (K.laneDstState n)
    if (st = 1 || st = 2) && addr = s.nextHopIp n then
      ((s.set (K.laneDstState n) 2).set (K.laneDstResolved n) (mac % 2 ^ 48)).showHold n
    else s

/-- ARP_REQUEST (R375): an ARP reply (3) or a neighbour advertisement (4) for an own address; others are dropped. -/
def xArpRequest (port target : Nat) (v6 : Bool) (sender mac : Nat) (s : State) : State :=
  if !s.portUp port then s
  else
    let ip := if v6 then target else 0xFFFF * 2 ^ 80 + target % 2 ^ 32 * 2 ^ 96
    if s.ownAddress port ip then
      (s.rxFrame port 64).emit (.frame port (if v6 then 4 else 3) sender (toLE 6 mac ++ toLE 6 (factoryMac (if port = 3 then 16 else port - 16)) ++ toLE 16 ip))
    else xFrameDropped port false s

/-- ICMP_ECHO (R375): answered with its data, up to 1,472 bytes (5). -/
def xIcmpEcho (port src : Nat) (data : List Byte) (s : State) : State :=
  if !s.portUp port then s
  else if data.length ≤ 1472 then (s.rxFrame port (46 + data.length)).emit (.frame port 5 src data)
  else xFrameDropped port false s

/-- PAUSE_FRAME (R378): honoured quanta of 512 bit times hold transmission; zero quanta end the hold. -/
def State.endPause (s : State) (n : Nat) : State :=
  match (s.lane n).paused with
  | none => s
  | some t => ((s.modLane n (fun x => { x with paused := none })).tally (K.lanePausedUs n) 64 ((s.clock - t.1) / perUs)).showHold n

/-- The time of PAUSE quanta at 100 Gbit/s: 512 bits each. -/
def quantaTime (quanta : Nat) : Nat := quanta * 33554432 / 100

def xPauseFrame (n quanta : Nat) (s : State) : State :=
  if !s.portUp (16 + n) then s
  else
    let s := (s.rxFrame (16 + n) 64).count (K.lanePauseRx n) 32 1
    if s.obj (K.lanePauseHonour n) = 0 then s
    else if quanta = 0 then s.endPause n
    else (s.modLane n (fun x => { x with paused := some ((x.paused.map (·.1)).getD s.clock, s.clock + quantaTime quanta) })).showHold n

/-- PAUSE_EXPIRY: the quanta of the latest PAUSE frame have run. -/
def xPauseExpiry (n : Nat) (s : State) : State :=
  match (s.lane n).paused with
  | some t => if s.clock < t.2 then s else s.endPause n
  | none => s

/-! ## Readers of rings for export -/

/-- The next line of an export's reader, and the reader moved. -/
def State.exportNext (s : State) (c : Nat) (kind : ReaderKind) : Nat :=
  match (s.ring c false).readers.find? (fun x => x.kind == kind) with | some x => x.next | none => 0
def State.exportTo (s : State) (c : Nat) (kind : ReaderKind) (k : Nat) : State :=
  let r := s.ring c false
  s.setRing c false { r with readers := r.readers.map (fun x => if x.kind = kind then { x with next := k } else x) }

/-- Contexts that export live on a lane. -/
def State.exporting (s : State) (n : Nat) : List Nat :=
  s.ringed.filter (fun c => s.obj (K.ctxLane c) == n && bitsOf (s.node (K.graphNodeDest c)) 0 0 == 1)

/-- A line in progress on a lane goes back to its start (link loss); it counts as cut. -/
def State.restartLines (s : State) (n : Nat) : State :=
  (s.exporting n).foldl (fun st c =>
    let x := st.live_ c
    if x.off = 0 then st else ((st.setLive c { x with off := 0 }).count (K.laneCutLines n) 32 1).integrity n) s

/-- The readers of a lane whose link returns with `resume` at NEWEST: lines passed over are counted. -/
def State.toNewest (s : State) (n : Nat) : State :=
  (s.exporting n).foldl (fun st c =>
    let r := st.ring c false
    match r.latest with
    | some k =>
      let at_ := st.nextLine r (st.exportNext c .lane)
      if at_ < k then ((st.exportTo c .lane k).count (K.ctxRingSkipped c) 64 (k - at_)) else st
    | none => st) s

/-- A change of a link (R374, R385) (DESIGN CHOICE, log entry 49). -/
def State.setLink (s : State) (n v : Nat) : State :=
  let old := s.obj (K.laneLink n)
  if old = v then s
  else
    let s := s.set (K.laneLink n) v
    let s := s.set (K.laneStatus n) (withBit (s.obj (K.laneStatus n)) 4 (v == 3))
    let s := if old = 3 then (s.count (K.laneLinkDowns n) 32 1).restartLines n else s
    let s := if v = 3 && s.ethernet n then
        let s := if s.obj (K.laneResume n) = 1 then s.toNewest n else s
        if s.obj (K.laneDstState n) = 1 || s.obj (K.laneDstState n) = 2 then s.solicit n else s
      else s
    (s.raise (sLink n) v).showHold n

/-- LANE_LINK_UP: after negotiation and training, in the lane's role. -/
def xLinkUp (n : Nat) (s : State) : State :=
  if !s.laneOn n || s.roleOfLane n = 0 || s.linkUp n then s
  else
    let s := s.setLink n (if (s.lane n).faults then 4 else 3)
    if s.roleOfLane n ≥ 2 then s.rallyLaneUp n else s

/-- LANE_LINK_DOWN: in Rally role the loss of R194. -/
def xLinkDown (n : Nat) (s : State) : State :=
  if s.obj (K.laneLink n) = 0 then s
  else
    let s := (s.modLane n (fun x => { x with faults := false })).setLink n 0
    xRallyLaneLost n s

/-- FAULT_ORDERED_SETS (R374): while they arrive the link reads FAULT. -/
def xFaultSets (n : Nat) (on : Bool) (s : State) : State :=
  if !s.laneOn n || !s.ethernet n then s
  else
    let s := s.modLane n (fun x => { x with faults := on })
    if on then (if s.obj (K.laneLink n) = 0 then s else s.setLink n 4)
    else if s.obj (K.laneLink n) = 4 then s.setLink n 3 else s

/-! ## FEC (R384, R385) -/

def xFecUncorrectable (n : Nat) (s : State) : State :=
  if s.linkUp n then (s.count (K.laneFecUncorrected n) 32 1).raise (sFec n) 0 else s

/-- FEC_SER_CHECK: the ratio over the last second, FEC_DEGRADED and the source as it begins. How many codewords the symbols that
were corrected lay in is open (DESIGN CHOICE, log entry 2) (DESIGN CHOICE, log entry 49). -/
def xFecSer (n symbols errors : Nat) (s : State) : State :=
  let f := f32OfRat errors symbols
  let bad := decide (f32Key (s.obj (K.laneFecLimit n)) < f32Key f)
  let was := (s.obj (K.laneStatus n)).testBit 6
  let d := s.draw 51
  let s := (d.2.tally (K.laneFecCorrected n) 64 (d.1 % (errors + 1))).set (K.laneFecSer n) f
  let s := s.set (K.laneStatus n) (withBit (s.obj (K.laneStatus n)) 6 bad)
  if bad && !was then s.raise (sFec n) 0 else s

/-! ## Stream packets (R379, R380) -/

/-- One's complement sum of 16-bit words, most significant byte first. -/
def onesSum : List Byte → Nat → Nat
  | a :: b :: r, x => onesSum r (x + 256 * a.toNat + b.toNat)
  | [a], x => x + 256 * a.toNat
  | [], x => x
def checksum (bs : List Byte) : Nat :=
  let x := onesSum bs 0
  let y := x % 65536 + x / 65536
  65535 - (y % 65536 + y / 65536) % 65536

/-- The format code of a context's words (R380). -/
def State.formatOf (s : State) (c : Nat) : Nat :=
  if s.chained c then bitsOf (byteAt (s.node (K.graphNodeChain c)) 8) 3 2
  else match s.node (K.graphNodeSource c) with
    | 2 => 4
    | 4 => if s.obj (K.dacWaveFormat (s.node (K.graphNodeInput c))) = 1 then 1 else 0
    | _ => 0
def formatWidth (f : Nat) : Nat := match f with | 0 => 2 | 1 => 4 | 2 => 4 | 3 => 8 | _ => 4

/-- The tile that served a line of a context (R380): before a substitution's switch, the one it replaced. -/
def State.servedBy (s : State) (c line : Nat) : Nat :=
  match (s.ctx c).served.find? (fun e => line < e.1) with
  | some e => e.2
  | none => s.obj (K.ctxTile c)

/-- The stream header (R380). -/
def State.streamHeader (s : State) (c kind id seq : Nat) (r : LineRec) (line off bytes : Nat) : List Byte :=
  let f := s.formatOf c
  let tile := if s.node (K.graphNodeSource c) = 1 then s.servedBy c line else 0xFFFF
  [0x53, 0x34, 0x10] ++ toLE 1 kind ++ toLE 2 c ++ toLE 2 id ++ toLE 4 seq ++ toLE 8 line ++ toLE 4 off ++ toLE 12 r.stamp ++
    toLE 6 r.position ++ toLE 2 r.fraction ++ toLE 1 f ++ toLE 1 r.flags ++ toLE 2 tile ++ toLE 4 (bytes / formatWidth f) ++
    toLE 4 r.gap ++ toLE 4 r.length ++ toLE 4 (s.obj K.placerDigest)

/-- The UDP datagram with its checksum over a pseudo-header. -/
def udp (pseudo : List Byte) (sport dport : Nat) (body : List Byte) : List Byte :=
  let n := 8 + body.length
  let head := toBE 2 sport ++ toBE 2 dport ++ toBE 2 n
  let c := checksum (pseudo ++ head ++ [0, 0] ++ body)
  head ++ toBE 2 (if c = 0 then 0xFFFF else c) ++ body

/-- The frame of a stream packet, from its Ethernet header on (R377, R379). -/
def State.streamFrame (s : State) (n c : Nat) (body : List Byte) : List Byte :=
  let dst := s.obj (K.laneDstIp n)
  let mac := factoryMac n
  let eth := fun (t : Nat) => toLE 6 (s.obj (K.laneDstResolved n)) ++ toLE 6 mac ++ toBE 2 t
  let sport := s.obj (K.laneSrcPort n) + c % 64
  let dport := s.obj (K.laneDstPort n)
  let hop := toBE 1 (s.obj (K.laneHopLimit n))
  let dscp := s.obj (K.laneDscp n)
  let len := 8 + body.length
  if isV4 dst then
    let a := toLE 4 (s.obj (K.laneIpv4 n)) ++ toLE 4 (v4Of dst)
    let h1 := toBE 1 0x45 ++ toBE 1 (4 * dscp) ++ toBE 2 (20 + len) ++ toBE 2 0 ++ toBE 2 0x4000 ++ hop ++ [17]
    eth 0x0800 ++ h1 ++ toBE 2 (checksum (h1 ++ [0, 0] ++ a)) ++ a ++ udp (a ++ [0, 17] ++ toBE 2 len) sport dport body
  else
    let own := if s.obj (K.laneIpv6 n) ≠ 0 then s.obj (K.laneIpv6 n) else linkLocal mac
    let a := toLE 16 own ++ toLE 16 dst
    eth 0x86DD ++ toBE 4 (6 * 2 ^ 28 + 4 * dscp * 2 ^ 20 + c) ++ toBE 2 len ++ [17] ++ hop ++ a ++
      udp (a ++ toBE 4 len ++ [0, 0, 0, 17]) sport dport body

/-- A frame leaves a lane: counted with its FCS; the window of `wire` has preamble and gap too (DESIGN CHOICE, log entry 49). -/
def State.txFrame (s : State) (n bytes : Nat) : State :=
  let b := max 64 (bytes + 4)
  let x := s.lane n
  let s := (s.tally (K.laneTxFrames n) 64 1).tally (K.laneTxBytes n) 64 b
  if s.clock < x.start + perMs then s.setLane n { x with sent := x.sent + b + 20 }
  else
    (s.setLane n { x with start := s.clock, sent := b + 20 }).set (K.laneWire n)
      (if s.clock < x.start + 2 * perMs then f32OfRat x.sent 1000000 else 0)

/-- Whether any transfer of some bytes of a line, or its record, is poisoned (R261). -/
def State.packetPoisoned (s : State) (r : RingSt) (k off bytes : Nat) : Bool :=
  s.poisoned (s.recAddr r k 0) || (0 < bytes && ((List.range (bytes / 64 + 1)).any (fun i => s.poisoned (s.lineAddr r k (off + 64 * i))) ||
    s.poisoned (s.lineAddr r k (off + bytes - 1))))

/-- One packet of line k from a byte on: sent, or withheld where it holds a poisoned transfer. The answer is the bytes it took and
whether the line is done. -/
def State.sendPacket (s : State) (n c kind id seq k off : Nat) : State × Nat × Bool :=
  let r := s.ring c false
  let lr := s.recOf r k
  let p := payloadLimit (isV4 (s.obj (K.laneDstIp n))) (formatWidth (s.formatOf c))
  let m := min p (lr.length - off)
  let last := off + m ≥ lr.length
  if s.packetPoisoned r k off m then (((s.count (K.lanePoisoned n) 32 1).integrity n), m, last)
  else
    let data := (List.range m).map (fun i => s.byte (s.lineAddr r k (off + i)))
    let head := s.streamHeader c (kind + 4 * ofBool (off == 0) + 8 * ofBool last) id seq lr k off m
    let f := s.streamFrame n c (head ++ data)
    ((s.emit (.packet n f)).txFrame n f.length, m, last)

/-- Show the contexts of each lane and its committed rate as they stand (R383). -/
def State.showStreams (s : State) : State :=
  let ns := s.graphNodes
  let ps := s.graphPieces
  (s.allLanes).foldl (fun st n =>
    (st.set (K.laneContexts n) (st.exporting n).length).set (K.laneCommitted n)
      (Frac.div (laneLoad st ns ps st.plan.lanes n) ⟨1000000000, 1⟩).f32) s

/-- A context that moves to another lane does so once its reader stands at the line (R372). -/
def State.moveExport (s : State) (c : Nat) : State :=
  match (s.live_ c).moveAt with
  | some (k, l) =>
    if s.exportNext c .lane < k then s
    else
      let s := (s.setLive c { s.live_ c with moveAt := none }).set (K.ctxLane c) l
      let lanes := s.plan.lanes.map (fun e => if e.1 = c then (c, l) else e)
      ({ s with plan := { s.plan with lanes := lanes } } : State).showStreams
  | none => s

/-- Whether a context has a written line for a lane's live export. -/
def State.liveReady (s : State) (c : Nat) : Bool :=
  let r := s.ring c false
  s.holdsLine r (s.nextLine r (s.exportNext c .lane))

/-- The next context in turn: by ascending number after the one last served (R382). -/
def nextInRound (served : Nat) (cs : List Nat) : Option Nat :=
  match cs.find? (fun c => served < c) with
  | some c => some c
  | none => cs.head?

/-- One live packet (R381). -/
def State.sendLive (s : State) (n c : Nat) : State :=
  let r := s.ring c false
  let k := s.nextLine r (s.exportNext c .lane)
  let x := s.live_ c
  let off := if x.line = k then x.off else 0
  let p := s.sendPacket n c 0 0 x.seq k off
  let s := p.1.setLive c { x with seq := (x.seq + 1) % 4294967296, line := k, off := if p.2.2 then 0 else off + p.2.1 }
  let s := s.modLane n (fun y => { y with served := c })
  if p.2.2 then (s.exportTo c .lane (k + 1)).moveExport c else s

/-! ## Replays (R70, R71) -/

/-- The completion notice of a replay, to the port that asked (R52, R71). -/
def State.endReplay (s : State) (x : Replay) : State :=
  let s := { s with replays := s.replays.filter (fun y => y.id != x.id) }
  let body := toLE 4 x.sent ++ toLE 4 x.skipped
  let m := header 0x0B (5 + 2 * s.obj K.versionsRestricted) 0 body.length 0 0 0 0 x.id ++ body
  let s := { s with ended := s.ended ++ [(x.port, x.src, m)] }
  if 0 < x.skipped then s.raise 765 x.ctx else s

/-- Put a replay's progress in place, or end it. -/
def State.putReplay (s : State) (x : Replay) : State :=
  if x.left = 0 then s.endReplay x
  else { s with replays := s.replays.map (fun y => if y.id = x.id then x else y) }

/-- Lines of a replay that are gone, or that the ring's policy never wrote, are skipped: up to n. -/
def skipGone (s : State) (r : RingSt) : Nat → Replay → Replay
  | 0, x => x
  | n + 1, x =>
    if x.left = 0 || (s.holdsLine r x.next && (x.off = 0 || x.next ≥ r.oldest)) then x
    else skipGone s r n { x with next := x.next + 1, left := x.left - 1, skipped := x.skipped + 1, off := 0 }

/-- One packet of a replay. -/
def State.sendReplay (s : State) (x : Replay) : State :=
  let x := skipGone s (s.ring x.ctx false) 65536 x
  if x.left = 0 then s.endReplay x
  else
    let p := s.sendPacket x.lane x.ctx 1 x.id x.seq x.next x.off
    let y := { x with seq := (x.seq + 1) % 4294967296, off := if p.2.2 then 0 else x.off + p.2.1 }
    let y := if p.2.2 then { y with next := y.next + 1, left := y.left - 1, sent := y.sent + 1 } else y
    p.1.putReplay y

/-- Replays of a lane, or all: what is unsent counts as skipped (R372). -/
def State.cutReplays (s : State) (f : Replay → Bool) : State :=
  (s.replays.filter f).foldl (fun st x => st.endReplay { x with skipped := x.skipped + x.left, left := 0 }) s

/-- The lines that a REPLAY body asks for: context, lane, first line, count. -/
def replayBody (bs : List Byte) : Nat × Nat × Nat × Nat := (leAt bs 0 2, leAt bs 2 1, leAt bs 4 8, leAt bs 12 4)

/-- The lane to which a replay goes. -/
def State.replayLane (s : State) (c l : Nat) : Nat := if l = 0xFF then s.obj (K.ctxReplayLane c) else l

/-- The checks of R70, in their order: count; SAFE, no ring, PREPARE (R75, R97); lane, 64 outstanding; too late, too old. The answer is first line and
count after the trims (DEDUCED, log entry 12). -/
def checkReplay (s : State) (bs : List Byte) : Res (Nat × Nat) := do
  let (c, l, first, n) := replayBody bs
  need (1 ≤ n && n ≤ 65536) aRange (max 1 (min n 65536))
  need (c < 1024) aRange 1023
  need (s.mode != mSafe) aMode s.mode
  need (cPrimed ≤ s.ctxState c && s.ctxState c ≤ cDegraded) aMode (s.ctxState c)
  need (s.mode == mRun || s.mode == mHold) aMode s.mode
  let lane := s.replayLane c l
  need (lane < laneCount s.variant && s.ethernet lane) aConflict (0x00080000 + lane)
  need (s.replays.length < 64) aFull 64
  let r := s.ring c false
  match r.latest with
  | none => badRange
  | some k => do
    need (first ≤ k) aRange (k % 4294967296)
    let old := r.oldest
    let last := min k (first + n - 1)
    need (old ≤ last) aGone (old % 4294967296)
    .ok (max first old, last + 1 - max first old)

/-- REPLAY accepted: its id. -/
def State.startReplay (s : State) (bs : List Byte) (first n port src : Nat) : State × Nat :=
  let (c, l, _, _) := replayBody bs
  let (id, s) := s.newId (s.replays.map (·.id))
  ({ s with replays := s.replays ++ [⟨id, c, s.replayLane c l, first, 0, 0, n, 0, 0, port, src⟩] }, id)

/-! ## Frame boundaries (R382) -/

/-- Live export runs in RUN and HOLD (R87, R93); replays not in SAFE. -/
def State.exports_ (s : State) : Bool := s.mode == mRun || s.mode == mHold

/-- STREAM_PACKET_SEND: answers that a PAUSE held, then live packets in turn, then replays in the order accepted; a red-carded lane reads
no line (R275). -/
def xStreamSend (n : Nat) (s : State) : State :=
  if !s.laneSends n || !s.ethernet n || !s.linkUp n || (s.lane n).paused.isSome then s
  else match (s.lane n).answers with
    | a :: rest => ((s.modLane n (fun x => { x with answers := rest })).emit a)
    | [] =>
      if s.holdCause n ≠ 0 || s.clientRed (18 + n) then s
      else
        let ready := if s.exports_ then (s.exporting n).filter s.liveReady else []
        match nextInRound (s.lane n).served ready with
        | some c => s.sendLive n c
        | none => match s.replays.find? (fun x => x.lane == n) with
          | some x => s.sendReplay x
          | none => s

/-- SAFE entry (R383): lines in progress are cut, replays end. -/
def State.cutStreams (s : State) : State :=
  let s := (s.allLanes).foldl (fun st n => (st.exporting n).foldl (fun t c =>
    let x := t.live_ c
    if x.off = 0 then t
    else (((t.setLive c { x with off := 0 }).exportTo c .lane (x.line + 1)).count (K.laneCutLines n) 32 1).integrity n) st) s
  s.cutReplays (fun _ => true)

/-! ## Fragment boundaries in Rally role (R181, R187, R196) -/

/-- A run of 32 entries of a shared generator's track, once it is complete (DESIGN CHOICE, log entry 50). -/
def State.trackRun (s : State) (e k : Nat) : Option (List Byte) :=
  let step := s.obj (K.encTrackNs e) * perNs
  let t0 := 32 * k * step
  if step = 0 || s.time < t0 + 31 * step then none
  else
    let at_ := fun (i : Nat) => match s.trackAt e (s.clockOf (t0 + i * step)) with | .found v => some v | _ => none
    if (List.range 32).all (fun i => (at_ i).isSome) then
      some (toLE 12 (time96 t0) ++ (List.range 32).flatMap (fun i =>
        let p := (at_ i).getD 0
        toLE 6 (unsigned 48 (p / 65536)) ++ toLE 2 (p % 65536).toNat))
    else none

/-- A TRACK fragment of the lowest shared generator that has a run to send on a lane. -/
def State.sendTrack (s : State) (lane : Nat) : Option State :=
  let x := s.rallyLane lane
  (List.range 16).findSome? (fun p =>
    let e := s.encOf p
    let step := s.obj (K.encTrackNs e) * perNs
    if !s.announces p || e ≥ 8 || step = 0 || !s.mayCarry lane fTrack then none
    else
      let newest := s.time / (32 * step) - 1
      let k := match x.tracks.find? (fun t => t.1 == p) with | some t => t.2 | none => newest
      match s.trackRun e k with
      | some bs => some ((s.setRallyLane lane { x with tracks := (p, max (k + 1) newest) :: x.tracks.filter (fun t => t.1 != p) }).sendFragment lane fTrack 0 p bs)
      | none => none)

/-- The contexts that a lane sends as peer streams. -/
def State.peerSends (s : State) (lane : Nat) : List Nat :=
  s.ringed.filter (fun c => bitsOf (s.node (K.graphNodeDest c)) 1 1 == 1 && s.laneOfRole (s.node (K.graphNodePeer c) / 4096) == some lane)

/-- A STREAM fragment of a context: its head on the first of a line, at most 512 bytes; a poisoned line is not sent (R261). The length of a
head is open (DESIGN CHOICE, log entry 50). -/
def State.sendPeer (s : State) (lane c : Nat) : State :=
  let r := s.ring c false
  let k := s.nextLine r (s.exportNext c .peer)
  let x := s.peer_ c
  let off := if x.line = k then x.off else 0
  let lr := s.recOf r k
  if off = 0 && s.linePoisoned r k lr.length then s.exportTo c .peer (k + 1)
  else
    let m := min 512 (lr.length - off)
    let last := off + m ≥ lr.length
    let head := if off = 0 then some (⟨k, lr.stamp, lr.position, lr.fraction, lr.flags, lr.gap⟩ : PeerHead) else none
    let data := (List.range m).map (fun i => s.byte (s.lineAddr r k (off + i)))
    let n := s.nextSeq lane fStream
    let d := n.2.draw 71
    let length := if head.isSome then 1 + d.1 % 512 else m
    let id := s.node (K.graphNodePeer c) % 4096
    let s := d.2.emit (.stream lane (fragHeader fStream (off == 0) last 0 id n.1 length) ⟨id, head, data, last⟩)
    let s := s.setPeer c { x with line := k, off := if last then 0 else off + m }
    if last then s.exportTo c .peer (k + 1) else s

/-- The first waiting fragment of the types up to one, by priority. -/
def RallyLane.next (x : RallyLane) (most : Nat) : Option Waiting :=
  (List.range most).findSome? (fun k => x.waiting.find? (fun w => w.type == k + 1))

/-- A waiting fragment leaves. -/
def State.launchWaiting (s : State) (lane : Nat) (w : Waiting) : State :=
  (s.setRallyLane lane { s.rallyLane lane with waiting := (s.rallyLane lane).waiting.erase w }).launch lane w

/-- FRAGMENT_BOUNDARY (R181): the fragment in flight has ended, and the waiting one of highest priority leaves: WHISTLE, TIME, TRIGGER,
TRACK with the runs that this member has to send, CONTROL, UMZIN, STREAM. -/
def xFragmentBoundary (lane : Nat) (s : State) : State :=
  if s.roleOfLane lane < 2 || !s.rallyUp lane || s.rallyState = rStandalone then s
  else
    let s := s.setRallyLane lane { s.rallyLane lane with busy := false }
    match (s.rallyLane lane).next fTrack, s.sendTrack lane, (s.rallyLane lane).next fUmzin with
    | some w, _, _ => s.launchWaiting lane w
    | none, some t, _ => t
    | none, none, some w => s.launchWaiting lane w
    | none, none, none =>
      if !s.exports_ || !s.mayCarry lane fStream || s.clientRed (18 + lane) then s
      else
        let ready := (s.peerSends lane).filter (fun c => let r := s.ring c false; s.holdsLine r (s.nextLine r (s.exportNext c .peer)))
        match nextInRound (s.lane lane).served ready with
        | some c => (s.sendPeer lane c).modLane lane (fun x => { x with served := c })
        | none => s

/-- FRAGMENT_DROPPED (R180). -/
def xFragmentDropped (lane : Nat) (s : State) : State :=
  if s.roleOfLane lane < 2 then s else s.count (K.rallyLaneDropped lane) 32 1

/-! ## Enables and roles (R371, R372) -/

/-- Where the stream groups of a lane would go (R372): each, in the order of pass 8, to the ON HOST lane of least committed rate
that keeps it within its figure; none where a stream is pinned or a group fits nowhere. -/
def State.moveStreams (s : State) (n : Nat) : Option (List (Nat × Nat)) :=
  let ns := s.graphNodes
  let ps := s.graphPieces
  let here := s.exporting n
  if here.any (fun c => (s.nodeOf c).pinLane == n) then none
  else
    let others := s.plan.lanes.filter (fun e => !here.contains e.1)
    let cand := s.hostLanes.filter (fun l => l != n && s.laneOn l)
    let groups := (laneGroups s ns ps).filter (fun g => g.any (fun m => here.contains m.ctx))
    (groups.foldl (fun (a : Option (List (Nat × Nat))) g => match a with
      | none => none
      | some ls => match leastCommitted s ns ps ls (cand.filter (hostFits s ns ps ls g)) with
        | some l => some (ls ++ g.map (fun m => (m.ctx, l)))
        | none => none) (some others)).map (fun ls => ls.filter (fun e => here.contains e.1))

/-- Checks of a lane's enable (R94, R372): STANDBY holds every lane off (R75, R100); a disable that cannot move the streams ends with CONFLICT. -/
def guardLaneEnable (s : State) (n v : Nat) : Res Unit := do
  guardSafeEnable s v
  need (v == 0 || !s.sleeps 4) aMode s.mode
  need (v == 1 || !s.ethernet n || !s.laneOn n || (s.exporting n).isEmpty || (s.moveStreams n).isSome) aConflict (0x00080000 + n)

/-- LANE_ENABLE: a lane without a role stays OFF; a disable moves the streams, ends replays, or leaves the formation. -/
def xLaneEnable (n v : Nat) (s : State) : State :=
  if s.roleOfLane n = 0 then s
  else
    let was := s.laneOn n
    let s := s.set (K.laneStatus n) (enWrite (s.obj (K.laneStatus n)) v)
    if !was || v = 1 then s
    else if s.ethernet n then
      let s := ((s.moveStreams n).getD []).foldl (fun st e =>
        (st.setLive e.1 { st.live_ e.1 with moveAt := some (st.nextNumber e.1, e.2) }).moveExport e.1) s
      s.cutReplays (fun x => x.lane == n)
    else if s.rallyState ≠ rStandalone then s.leaveLane n else s

/-- A lane reads ON: its link is to come up (R374, R384); in Rally role it trains (R197). -/
def State.laneStart (s : State) (n : Nat) : State :=
  let s := s.setLink n (if s.ethernet n then 1 else 2)
  if s.roleOfLane n < 2 then s else s.set (K.rallyLaneState n) 1

/-- The Ethernet frame counters of a lane: they read 0 in Rally role (R384). -/
def State.clearFrames (s : State) (n : Nat) : State :=
  if s.roleOfLane n < 2 then s
  else [K.laneTxFrames n, K.laneTxBytes n, K.laneRxFrames n, K.laneRxBytes n, K.laneRxFcs n, K.laneRxDropped n, K.lanePauseRx n].foldl
    (fun st k => if st.obj k = 0 then st else st.set k 0) s

/-- A lane reads OFF; a role that a board commit gave it is in force from now, and with its enable at 1 it starts (R371). -/
def State.laneStop (s : State) (n : Nat) : State :=
  let s := s.setLink n 0
  let s := if s.roleOfLane n ≥ 2 && s.rallyUp n then s.rallyLaneDown n 4 else s
  (((s.setLane n .none_).set (K.laneRole n) (s.laneRoleOf n)).clearFrames n).rallyFromBoard

/-- Whether the streams of a STOPPING lane have left it. -/
def State.laneEmpty (s : State) (n : Nat) : Bool := !(s.exporting n).any (fun c => (s.live_ c).moveAt.isSome)

/-- A start of a lane that has a role and whose enable holds 1. -/
def State.laneWake (s : State) (n : Nat) : State :=
  if s.roleOfLane n ≠ 0 && s.obj (K.laneEnable n) = 1 then s.set (K.laneStatus n) (enWrite (s.obj (K.laneStatus n)) 1) else s

/-- Roles after a board commit (R371): a lane whose role changes stops and starts again. -/
def State.takeRole (s : State) (n : Nat) : State :=
  let role := s.laneRoleOf n
  if role = s.roleOfLane n then s
  else if enState (s.obj (K.laneStatus n)) = 0 then (((s.set (K.laneRole n) role).clearFrames n).laneWake n).showHold n
  else
    let b := enWrite (s.obj (K.laneStatus n)) 0
    let s := s.cutReplays (fun x => x.lane == n)
    s.set (K.laneStatus n) (if role ≠ 0 && s.obj (K.laneEnable n) = 1 then enWrite b 1 else b)
def State.takeRoles (s : State) : State := (s.allLanes.foldl (fun st n => st.takeRole n) s).rallyFromBoard

/-- LANE_CLEAR (R385). -/
def xLaneClear (n : Nat) (s : State) : State :=
  [K.laneTxFrames n, K.laneTxBytes n, K.laneRxFrames n, K.laneRxBytes n, K.laneRxFcs n, K.laneRxDropped n, K.lanePauseRx n, K.lanePausedUs n,
   K.laneFecCorrected n, K.laneFecUncorrected n, K.lanePoisoned n, K.laneCutLines n, K.laneLinkDowns n].foldl
    (fun st k => if st.obj k = 0 then st else st.set k 0) s

/-! ## The management port (R386) -/

/-- MGMT_LINK_UP: in the interface chosen, or found where the choice is AUTO. -/
def xMgmtUp (mode speed : Nat) (s : State) : State :=
  let chosen := s.obj K.portsMgmtMode
  if !(mode == 1 || mode == 2) || (chosen ≠ 0 && chosen ≠ mode) || !(speed == 1000 || (mode == 1 && (speed == 10 || speed == 100))) then s
  else ((s.set K.portsMgmtInForce mode).set K.portsMgmtLink 3).set K.portsMgmtSpeed speed

/-- MGMT_LINK_DOWN: PTP is left without a master (R158). -/
def xMgmtDown (s : State) : State :=
  if s.obj K.portsMgmtLink ≠ 3 then s
  else
    let s := (((s.set K.portsMgmtLink 0).set K.portsMgmtSpeed 0).set K.portsMgmtInForce 0).count K.portsMgmtLinkDowns 32 1
    if s.obj K.timeSource = 1 then s.losePtp.raise 750 0 else s

/-- MGMT_CLEAR. -/
def xMgmtClear (s : State) : State :=
  [K.portsMgmtTxFrames, K.portsMgmtRxFrames, K.portsMgmtRxFcs, K.portsMgmtRxDropped, K.portsMgmtLinkDowns].foldl
    (fun st k => if st.obj k = 0 then st else st.set k 0) s

end Sys2Proof.Machine
end

