-- ==== Sys2Proof/Machine/Pins.lean ====
section
/-! DEFINITION. Chapter 18: pins, banks, function switches and pattern units (R388 to R400), and who drives a pin (R299). -/

namespace Sys2Proof.Machine

def State.pin (s : State) (k : Nat) : Pin := Sp.get (fun _ => Pin.none_) s.pins k
def State.setPin (s : State) (k : Nat) (x : Pin) : State := { s with pins := Sp.put (fun _ => Pin.none_) s.pins k x }
def State.modPin (s : State) (k : Nat) (f : Pin → Pin) : State := s.setPin k (f (s.pin k))

def State.pat (s : State) (u : Nat) : Pat := Sp.get (fun _ => Pat.none_) s.pats u
def State.setPat (s : State) (u : Nat) (x : Pat) : State := { s with pats := Sp.put (fun _ => Pat.none_) s.pats u x }

/-! ## What drives a pin (R299, R389, R390) -/

def funcKind (f : Nat) : Nat := bitsOf f 15 12
def funcNumber (f : Nat) : Nat := bitsOf f 11 0

/-- Whether a function can drive its pin. -/
def drives (f : Nat) : Bool := funcKind f ≥ 2 || (funcKind f == 1 && f.testBit 0)

/-- A macrocell's output at a pin: open while its output-enable term is 0 (R296). -/
def State.macroDrive (s : State) (cell : Nat) : Drive :=
  match s.bank.cells.find? (fun c => c.id == cell) with
  | none => .low
  | some c =>
    if (match c.oeTerm with | some t => s.termOn s.macroOut 0 t | none => true) then
      (if s.macroOut.testBit cell then .high else .low)
    else .open_

/-- A pin state code; HOLD takes the level at SAFE entry. -/
def State.codeDrive (s : State) (code cell : Nat) (held : Drive) : Drive :=
  match code with
  | 0 => .low
  | 1 => .high
  | 2 => .open_
  | 3 => .up
  | 4 => .down
  | 5 => s.macroDrive cell
  | _ => held

/-- The pull that `cfg` selects (R389). -/
def pullOf (cfg : Nat) : Drive := match bitsOf cfg 4 3 with | 1 => .up | 2 => .down | _ => .open_

/-- A level through the output type of `cfg`. -/
def levelDrive (cfg : Nat) (b : Bool) : Drive := if b then (if cfg.testBit 0 then pullOf cfg else .high) else .low

/-- Whether the pulse of a generator's latest trigger lasts (R172). -/
def State.pulseHigh (s : State) (p : Nat) : Bool :=
  match (s.pitchOf p).lastAt with
  | some t => decide (s.clock < t + s.obj (K.pitchWidth p) * perNs)
  | none => false

/-- A pin's default state. -/
def State.defaultDrive (s : State) (k : Nat) : Drive :=
  let r := s.bank.pin k
  s.codeDrive r.dflt r.cell .open_

/-- Whether a FABRIC function's sector drives it: configured and released. -/
def State.fabricDrives (s : State) (f : Nat) : Bool :=
  funcNumber f / 32 < quadCount s.variant && s.obj (K.configSectorState (funcNumber f / 32)) == 2

/-- What a function drives its pin with (R390). -/
def State.funcDrive (s : State) (k f : Nat) : Drive :=
  let cfg := s.obj (K.gpioPinCfg k)
  let n := funcNumber f
  match funcKind f with
  | 0 => s.defaultDrive k
  | 1 => if n.testBit 0 then levelDrive cfg ((s.obj (K.gpioBankOut (k / 16))).testBit (k % 16)) else pullOf cfg
  | 2 => levelDrive cfg (s.pulseHigh n)
  | 3 => .pace n
  | 4 => .probe n
  | _ =>
    if !s.fabricDrives f then s.defaultDrive k
    else if s.wires.enable.testBit n then levelDrive cfg (s.wires.pin.testBit n)
    else pullOf cfg

/-- Whether functions own their pins: from step 7 of PREPARE through RUN and HOLD. -/
def State.pinsReleased (s : State) : Bool :=
  s.mode == mRun || s.mode == mHold || s.prepAt 7

/-- Whether the pad latches hold every pin: in reset until step 1 of R80, in STANDBY, while macrocells are reloaded (R303). -/
def State.padHeld (s : State) : Bool :=
  !s.boot.live || s.mode == mStandby || (s.trans.motion == .shutdown && s.obj K.deviceModeStep ≥ 4) || (!s.bs.live && s.obj K.backstopState == 0)

/-- The owner code of a pin and what drives it (R299) (DESIGN CHOICE, log entry 56). -/
def State.pinNow (s : State) (k : Nat) : Nat × Drive :=
  let r := s.bank.pin k
  let x := s.pin k
  let f := if x.stage = 1 then x.old else s.obj (K.gpioPinFunc k)
  let w := if s.padHeld then (0, x.latched)
    else if s.mode = mSafe then (4, s.codeDrive r.safe r.cell x.safe)
    else if !s.pinsReleased then (1, s.defaultDrive k)
    else if r.keep && r.cell != 0xFF then (2, s.macroDrive r.cell)
    else if funcKind f = 5 && !s.fabricDrives f then (1, s.defaultDrive k)
    else if x.stage ≥ 2 then (5, x.latched)
    else (if funcKind f = 0 then 1 else 3, s.funcDrive k f)
  if s.obj (K.gpioBankVioFault (k / 16)) = 1 then (w.1, .open_) else w

def State.pinDrive (s : State) (k : Nat) : Drive := (s.pinNow k).2

/-! ## Function writes (R391) -/

/-- Whether the channel program uses a pitch generator. -/
def State.pitchUsed (s : State) (p : Nat) : Bool := s.graphNodes.any (fun n => n.pitch == p)

/-- Functions that the table of R390 gives and that the channel program and the sectors have. -/
def State.funcOk (s : State) (f : Nat) : Bool :=
  let n := funcNumber f
  match funcKind f with
  | 0 => n == 0
  | 1 => n ≤ 1
  | 2 => n ≤ 15 && s.pitchUsed n
  | 3 =>
    let q := s.paceFrac (s.obj (K.fabricPaceQuadrant n)) (s.obj (K.fabricPaceDiv n))
    n ≤ 7 && decide (q.num ≤ 250000000 * q.den) && s.paceUsed (s.graphPieces.map (·.id)) n
  | 5 => n / 32 < quadCount s.variant
  | _ => false

/-- A driving function on an INPUT or a KEEP pin. -/
def State.pinBarred (s : State) (k f : Nat) : Bool := drives f && (s.pinUse k == 1 || (s.bank.pin k).keep)

/-- Checks 2 to 4 of R391 (DEDUCED, log entry 11). -/
def guardFunc (s : State) (k f : Nat) : Res Unit := do
  need (s.mode != mStandby && s.mode != mBoot && s.mode != mRescue) aMode s.mode
  need (s.funcOk f) aRange 0
  need (!s.pinBarred k f) aConflict (0x000E0000 + k)

/-- Pass 1 of a placement checks every stored function again (R391). -/
def State.pinConflict (s : State) : Option Conflict :=
  match (List.range 96).find? (fun k => s.pinBarred k (s.obj (K.gpioPinFunc k))) with
  | some k => some ⟨aConflict, 4, 0x000E, k, 0xFFFF, 0xFFFF⟩
  | none => none

/-! ## Switches (R395, R396) -/

/-- A function that waits takes the place of the one written. -/
def State.takePending (s : State) (k : Nat) : State :=
  let v := s.obj (K.gpioPinPending k)
  if v = 0xFFFF then s else (s.set (K.gpioPinPending k) 0xFFFF).poke (K.gpioPinFunc k) v

/-- GPIO_FUNC_WRITE: stored, or a switch that begins, or one that waits for the switch in progress. -/
def xFuncWrite (k f : Nat) (s : State) : State :=
  if !s.pinsReleased then s.poke (K.gpioPinFunc k) f
  else if (s.pin k).stage ≠ 0 then s.set (K.gpioPinPending k) f
  else (s.modPin k (fun x => { x with stage := 1, old := s.obj (K.gpioPinFunc k) })).poke (K.gpioPinFunc k) f

/-- A pad latch can hold a level, not a signal: of a clock or a probe it holds the level at that instant (DESIGN CHOICE, log entry 2). -/
def State.latchable (s : State) : Drive → Drive
  | .pace i => if Config.free 52 (s.clock * 8 + i) % 2 = 0 then .low else .high
  | .probe m => if Config.free 53 (s.clock * 16 + m) % 2 = 0 then .low else .high
  | d => d

/-- PIN_LATCH_CAPTURE: steps 2 and 3 (DESIGN CHOICE, log entry 56). -/
def xLatchCapture (k : Nat) (s : State) : State :=
  if (s.pin k).stage = 1 then s.modPin k (fun x => { x with stage := 2, latched := s.latchable (s.pinDrive k) }) else s

/-- The level of a drive, where it has one. -/
def Drive.level : Drive → Option Bool
  | .low => some false
  | .down => some false
  | .high => some true
  | .up => some true
  | _ => none

/-- Whether a function's level equals what the latch holds; a steady function, a signal and an open pin meet it
(DESIGN CHOICE, log entry 56). -/
def State.agrees (s : State) (k : Nat) : Bool :=
  let f := s.obj (K.gpioPinFunc k)
  funcKind f ≤ 1 ||
    match (s.funcDrive k f).level, (s.pin k).latched.level with
    | some a, some b => a == b
    | _, _ => true

/-- FUNC_FIRST_HANDSHAKE: step 4, and the switch that waited begins (DESIGN CHOICE, log entry 56). -/
def xHandshake (k : Nat) (s : State) : State :=
  let x := s.pin k
  if x.stage < 2 || !s.agrees k then s
  else
    let s := if x.stage = 2 then s.count (K.gpioPinSwitches k) 32 1 else s
    let f := s.obj (K.gpioPinFunc k)
    if s.obj (K.gpioPinPending k) = 0xFFFF then s.modPin k (fun x => { x with stage := 0 })
    else (s.modPin k (fun x => { x with stage := 1, old := f })).takePending k

/-- The functions no longer own their pins: every switch ends, and the function written last stands (R396)
(DESIGN CHOICE, log entry 22). -/
def State.endSwitches (s : State) : State :=
  (s.pins.filter (fun e => e.1 < 96)).foldl (fun st e => (st.modPin e.1 (fun x => { x with stage := 0 })).takePending e.1) s

/-- The pad latches take every pin as it was before. -/
def State.latchPins (s before : State) : State :=
  (List.range 96).foldl (fun st k => st.modPin k (fun x => { x with latched := before.latchable (before.pinDrive k) })) s

/-- The pad latches capture as they come to hold the pads (R299). -/
def State.capturePads (s before : State) : State :=
  if s.boot.live && s.padHeld && !before.padHeld then s.latchPins before else s

/-- At SAFE entry a pin whose safe level is KEEP keeps the one that it shows (R299). -/
def State.keepPads (s before : State) : State :=
  if s.mode = mSafe && before.mode ≠ mSafe then
    (List.range 96).foldl (fun st k =>
      if (st.bank.pin k).safe = 6 then st.modPin k (fun x => { x with safe := before.latchable (before.pinDrive k) }) else st) s
  else s

/-- The pins of the sectors that are released again wait for their first handshake (R396). -/
def State.awaitPins (s before : State) (back : List Nat) : State :=
  (List.range 96).foldl (fun st k =>
    if funcKind (st.obj (K.gpioPinFunc k)) = 5 && back.contains (funcNumber (st.obj (K.gpioPinFunc k)) / 32) &&
        (st.pin k).stage = 0 then
      st.modPin k (fun x => { x with stage := 3, latched := before.latchable (before.pinDrive k) })
    else st) s

/-- The sectors that have come to be released. -/
def State.backSectors (s before : State) : List Nat :=
  (allQuads s.variant).filter (fun q => before.obj (K.configSectorState q) != 2 && s.obj (K.configSectorState q) == 2)

/-- Switches end once the functions own the pins no longer (R396). -/
def State.moveSwitches (s before : State) : State :=
  if before.pinsReleased && !s.pinsReleased then s.endSwitches
  else if before.pinsReleased && s.pinsReleased && !(s.backSectors before).isEmpty then s.awaitPins before (s.backSectors before)
  else s

/-- What changes of ownership do to pads and switches. -/
def State.movePins (s before : State) : State := ((s.capturePads before).keepPads before).moveSwitches before

/-! ## Banks (R388, R392, R393) -/

/-- The merge of a masked write. -/
def merged (old v : Nat) : Nat := (old &&& (0xFFFF - v / 65536 % 65536)) ||| (v % 65536 &&& v / 65536 % 65536)

def guardBank (s : State) : Res Unit := need (s.mode != mBoot && s.mode != mRescue) aMode s.mode

/-- GPIO_BANK_WRITE. -/
def xBankWrite (b v : Nat) (s : State) : State := s.set (K.gpioBankOut b) (merged (s.obj (K.gpioBankOut b)) v)

/-- The nominal value of a bank rail, in mV (R412). -/
def nominalOf (mv : Nat) : Nat :=
  if 1620 ≤ mv && mv ≤ 1980 then 1800 else if 2250 ≤ mv && mv ≤ 2750 then 2500 else if 2970 ≤ mv && mv ≤ 3630 then 3300 else 0

/-! ## Pattern units (R397, R398) -/

def State.patIn (s : State) (u : Nat) : Nat := s.bankIn (s.obj (K.patternBank u)) &&& s.obj (K.patternMask u)

/-- The comparison; a mask of 0 never matches. -/
def State.patRaw (s : State) (u : Nat) : Bool :=
  s.obj (K.patternMask u) != 0 && s.patIn u == (s.obj (K.patternValue u) &&& s.obj (K.patternMask u))

/-- After inputs have changed, the comparisons that changed with them hold from now on. -/
def State.touchPats (s before : State) : State :=
  (List.range 16).foldl (fun st u =>
    if st.obj (K.patternMode u) ≠ 0 && (st.patRaw u != before.patRaw u || (st.obj (K.patternMode u) == 4 && st.patIn u != before.patIn u))
    then st.setPat u { st.pat u with since := max st.clock (st.pat u).since } else st) s

/-- PIN_INPUT_CHANGE (R394): a pad input has held a level for `held` ps. It is accepted where it has held for 5 ns × f; a shorter pulse is
rejected and counted (DESIGN CHOICE, log entry 56). -/
def xPinInput (k : Nat) (level : Bool) (held : Nat) (s : State) : State :=
  if level = s.pinLevels.testBit k then s
  else if held < 5000 * s.obj (K.gpioPinFilter k) then s.count (K.gpioPinGlitches k) 32 1
  else ({ s with pinLevels := withBit s.pinLevels k level } : State).touchPats s

/-- BANK_VIO_CHECK (R388): the rail's value, and its departure as of any rail (R93, source 761) (DESIGN CHOICE, log entry 14). -/
def xVioCheck (b mv : Nat) (s : State) : State :=
  let v := nominalOf mv
  let t := (s.set (K.gpioBankVio b) v).set (K.gpioBankVioFault b) (if v = 0 then 1 else 0)
  let t := t.touchPats s
  let t := State.riseIf s t 761 (10 + b)
  if v = 0 then t.askSafe 4 else t

/-- The status of a unit's source follows a change of its mode at once (R405). -/
def State.patFollows (s before : State) (u : Nat) : State :=
  if before.follows (704 + u) && before.condition (704 + u) == some true && !(s.follows (704 + u) && s.condition (704 + u) == some true)
  then s.lower (704 + u) else s

/-- PATTERN_WRITE (R398): the new values are in force from 1 µs on, the hold begins again, and the comparison they make now is no
change. A unit that is OFF holds no state (DESIGN CHOICE, log entry 57). -/
def xPatternWrite (u sub v : Nat) (s : State) : State :=
  let t := s.poke (key (0x6900 + u) sub) v
  let m := t.obj (K.patternMode u)
  let level := m == 1 && s.obj (K.patternMode u) == 1 && (s.pat u).base
  let t := if m = 0 then (t.set (K.patternMatch u) 0).setPat u .none_
    else t.setPat u ⟨s.clock + perUs, if m = 1 then level else t.patRaw u, t.patIn u⟩
  t.patFollows s u

/-- PATTERN_MATCH (R397): a comparison that has held for the qualifying time (DESIGN CHOICE, log entry 57). -/
def xPatternMatch (u : Nat) (s : State) : State :=
  let m := s.obj (K.patternMode u)
  if m = 0 || s.mode = mStandby || s.clock < (s.pat u).since + 5 * perNs * s.obj (K.patternHold u) then s
  else
    let x := s.pat u
    let raw := s.patRaw u
    let inp := s.patIn u
    let act := match m with
      | 1 => raw && !x.base
      | 2 => raw && !x.base
      | 3 => !raw && x.base
      | _ => inp != x.seen
    let s := (s.set (K.patternMatch u) (ofBool raw)).setPat u { x with base := raw, seen := inp }
    if act then
      let w := s.bankIn (s.obj (K.patternBank u))
      ((s.count (K.patternCount u) 32 1).set (K.patternLastWord u) w).raise (704 + u) w
    else s

/-- The units go on after STANDBY, without activations. -/
def State.wakePats (s : State) : State :=
  (List.range 16).foldl (fun st u =>
    if st.obj (K.patternMode u) = 0 then st
    else (st.set (K.patternMatch u) (ofBool (st.patRaw u))).setPat u ⟨st.clock, st.patRaw u, st.patIn u⟩) s

/-! ## SAFE_N (R400) -/

/-- SAFE_N_LOW: a qualified low. -/
def xSafeNLow (s : State) : State := { s with safeLow := true }.askSafe 1

/-- SAFE_N_RELEASE. -/
def xSafeNRelease (s : State) : State := { s with safeLow := false }

end Sys2Proof.Machine
end

