-- ==== Sys2Proof/Machine/Events.lean ====
section
/-! DEFINITION. Writes to the objects of event sources (R405, R406, R408, R409, R411). -/

namespace Sys2Proof.Machine

/-- EVENT_CLEAR (R409). -/
def xEventClear (n c : Nat) (s : State) : State := s.clearCount n c

/-- CLEAR_NODE (R409). -/
def xClearNode (node : Nat) (s : State) : State := s.clearNode node

/-- EVENT_TEST (R411). -/
def xEventTest (s : State) : State := s.raise 767 0

/-- EVENT_ENABLE_WRITE (R406): enable, severity or irq. Enabling a source whose status is 1 delivers a raise, disabling an active one
delivers it as cleared; neither counts. -/
def xEventRoute (n sub v : Nat) (s : State) : State :=
  let old := s.obj (K.eventEnable n)
  let raised := s.obj (K.eventStatus n) == 1
  let s := if sub = 2 && raised && old == 1 && v == 0 then s.notify n true else s
  let s := s.poke (key (0x7000 + n) sub) v
  if sub = 2 && raised && old == 0 && v == 1 then s.notify n false else s

/-- EVENT_LATCH_WRITE (R405): a held source written to LEVEL takes the status of its condition, without count or time. -/
def xEventLatch (n v : Nat) (s : State) : State :=
  let s := s.poke (K.eventLatch n) v
  if v ≠ 0 then s
  else match s.condition n with
    | some true => if s.obj (K.eventStatus n) = 1 then s else (s.set (K.eventStatus n) 1).notify n false
    | some false => s.lower n
    | none => s

/-- Entries of `device.events.backstop` are node numbers, or 0xFFFF (R408). -/
def guardEventNodes (v : Nat) : Res Unit :=
  need ((List.range 32).all (fun i => u16At v (2 * i) ≤ 0x348 || u16At v (2 * i) == 0xFFFF)) aRange 0

end Sys2Proof.Machine
end

