-- ==== Sys2Proof/Machine/Power.lean ====
section
/-! DEFINITION. Reset, power-on and boot (02_layout_table.md R39, R40; 04_modes_startup.md R80 to R82, R102), rails and
temperatures (20_electrical_package.md). -/

namespace Sys2Proof.Machine

/-! ## Reset (R80 step 0, R102, R401, R410, R412) -/

/-- What a reset leaves of the dictionary: the objects kept in flash and in the board store, at the values in force (R220, R302); the
selected slot holds from here on (R48). -/
def State.kept (s : State) : List (Nat × Nat) :=
  let keys := (s.dict.map (·.1) ++ s.inForce.map (·.1)).filter (fun k =>
    match locateKey k with | some l => l.row.attr.testBit 2 | none => false)
  let m := keys.foldl (fun m k => Sp.put (defaultOf s.variant) m k (s.force k)) []
  let m := Sp.put (defaultOf s.variant) m K.versionsMgmtSelect s.flashSelect
  let old := Sp.get (defaultOf s.variant) m K.boardState
  Sp.put (defaultOf s.variant) m K.boardState (if old = 2 then s.boardWas else old)

/-- The state after a reset: everything as at power-on but what flash, the board store, the Backstop's array and the Store hold, and
what comes from outside. The shadow is empty (R91). A cold reset leaves the pins to their pull-downs, a warm one to their latches (R80, R102). -/
def State.restarted (s : State) (cause : Nat) (cold : Bool) : State :=
  let s := s.fillShadow 0 shadowBytes []
  let n : State := { State.reset with
    variant := s.variant, identity := s.identity, clock := s.clock, dict := s.kept,
    blobs := s.blobs.filter (fun e => e.1 == K.boardName || e.1 == K.boardUser),
    emitted := s.emitted, porLow := s.porLow, safeLow := s.safeLow, strap := s.strap && !cold,
    slotA := s.slotA, slotB := s.slotB, flashSelect := s.flashSelect, seqWords := s.seqWords,
    boot := ⟨.held, s.flashSelect, false, s.clock, false, false, !cold⟩,
    mem := s.mem, poison := s.poison, railsLow := s.railsLow, pinLevels := s.pinLevels,
    encs := s.encs.foldl (fun m e => Sp.put (fun _ => Enc.none_) m e.1 { Enc.none_ with a := e.2.a, b := e.2.b }) [],
    bs := { Array256.reset with banks := s.bs.banks }, freeCount := s.freeCount, pending := s.pending }
  let n := n.set K.deviceResetCause cause
  if cold then n else n.latchPins s

/-- The boot ROM starts (R39 step 1). -/
def State.beginBoot (s : State) : State :=
  { s with boot := { s.boot with step := .headers, slot := s.flashSelect, fallback := false, start := s.clock } }

/-- Whether every unit is in reset (DESIGN CHOICE, log entry 15). -/
def State.held (s : State) : Bool := s.boot.step == .held

/-- POR_N_LOW (R401). -/
def xPorLow (s : State) : State := ({ s with porLow := true } : State).restarted 0 true

/-- POR_N_RELEASE (R80): the boot starts, unless a rail holds the reset (R412). -/
def xPorRelease (s : State) : State :=
  if !s.porLow then s
  else
    let s := { s with porLow := false }
    if s.railsLow = 0 then s.beginBoot else s

/-- The reset of DEVICE_RESET (cause 1) and of WATCHDOG_RESET (cause 2) (R95, R102). -/
def State.warmReset (s : State) (cause : Nat) : State := (s.restarted cause false).beginBoot

/-! ## Boot (R39, R40) -/

/-- Whether a slot's header is accepted at step 1. -/
def Slot.bootable (x : Slot) : Bool := x.headerValid && wordKind x.word == 1

/-- Both slots have failed. -/
def State.rescue (s : State) : State :=
  (({ s with boot := { s.boot with step := .rescue } } : State).set K.versionsMgmtBoot 2).enterMode mRescue

/-- Step 4: the other slot once, or RESCUE. -/
def State.failSlot (s : State) : State :=
  let other := 1 - s.boot.slot
  if s.boot.fallback || !(s.bootSlot other).bootable then s.rescue
  else { s with boot := { s.boot with step := .image, slot := other, fallback := true } }

/-- A board store whose copy in force fails its CRC: every board object reads its default (R221) (DESIGN CHOICE, log entry 26). -/
def State.corruptBoard (s : State) : State :=
  let s := { s with dict := s.dict.filter (fun e => !isBoardKey e.1),
                    blobs := s.blobs.filter (fun e => e.1 != K.boardName && e.1 != K.boardUser) }
  (s.set K.boardState 3).raise 764 0

/-- The defect list as a reset loads it (R226). -/
def State.loadDefects (s : State) : State :=
  let s := { s with defects := boardDefects (s.force K.boardDefects) }
  s.defects.foldl (fun st d => st.showDefects d.cls d.unit) s

/-- BOOT_HEADER_READ (R39 step 1); `board` says whether the CRC of the board store's copy in force holds. -/
def xHeaderRead (board : Bool) (s : State) : State :=
  if s.boot.step != .headers then s
  else
    let shown := fun (x : Slot) => if x.headerValid then x.word else 0
    let s := (s.set K.versionsMgmtWordA (shown s.slotA)).set K.versionsMgmtWordB (shown s.slotB)
    let s := (if board then s else s.corruptBoard).loadDefects
    if (s.bootSlot s.boot.slot).bootable then { s with boot := { s.boot with step := .image } } else s.failSlot

/-- An image is started: what the dictionary reads of it (R31, R429). -/
def State.startImage (s : State) : State :=
  let x := s.bootSlot s.boot.slot
  let s := { s with boot := { s.boot with step := .confirming } }
  let s := ((s.set K.versionsMgmtRunning x.word).set K.versionsMgmtSlot s.boot.slot).set K.versionsMajors x.majors
  ((s.set K.versionsRallyMin x.rallyMin).set K.versionsRallyMax x.rallyMax).set K.placerAlgorithm x.algorithm

/-- BOOT_IMAGE_READ (R39 step 2): `ok` is false where the read fails although the image in flash is sound. -/
def xImageRead (ok : Bool) (s : State) : State :=
  if s.boot.step != .image then s
  else if ok && (s.bootSlot s.boot.slot).crcGood then s.startImage else s.failSlot

/-- CONFIRM_TIMEOUT (R39 step 3). -/
def xConfirmTimeout (s : State) : State := if s.boot.step == .confirming then s.failSlot else s

/-- The SAFE causes whose condition holds now (R93, R96): with `clear`, THERMAL asks for 10 °C below the limit. -/
def State.standingCauses (s : State) (clear : Bool) : Nat :=
  let max_ := signed 16 (s.obj K.deviceTempMax)
  let lim := signed 16 (s.obj K.deviceSafeTjLimit)
  (if s.safeLow then 2 else 0) + (if (if clear then decide (lim - 10 < max_) else decide (lim < max_)) then 8 else 0) +
    (if s.railOut then 16 else 0) + (if s.silent then 32 else 0) + (if s.obj K.storeState = 4 then 64 else 0) +
    (if s.obj K.timeRefclkState = 1 || s.obj K.timeRefclkFreq = 0 then 128 else 0)

/-- Units that run outside STANDBY start with their enables at 1: lanes with a role (R371), the scrubber (R324). -/
def State.wakeUnits (s : State) : State :=
  let s := s.allLanes.foldl (fun st n => st.laneWake n) s
  if s.obj K.scrubEnable = 1 then s.set K.scrubStatus (enWrite (s.obj K.scrubStatus) 1) else s

/-- FIRMWARE_CONFIRMED (R80 step 4): LOAD, once the Backstop is live and training has ended; causes latched or standing lead to SAFE
at once (R82, R153) (DEDUCED, log entry 19; DESIGN CHOICE, log entry 25). -/
def xConfirmed (s : State) : State :=
  if s.boot.step != .confirming || !s.boot.live || !s.boot.trained then s
  else
    let s := { s with boot := { s.boot with step := .done } }
    let s := (s.set K.deviceBootMs (min ((s.clock - s.boot.start) / perMs) 4294967295)).set K.versionsMgmtBoot (ofBool s.boot.fallback)
    let s := if s.boot.fallback then s.raise 747 0 else s
    let s := s.dies.foldl (fun st d => (st.set (K.versionsSeqWord d) (st.seqWords.getD d 0)).checkDie d) s
    let s := (s.enterMode mLoad).takeRoles.wakeUnits
    { s with safeAsk := s.safeAsk ||| s.obj K.deviceSafeCause ||| (s.standingCauses false &&& 0x7F) |||
                        (if s.obj K.timeRefclkFreq = 0 then 128 else 0) }

/-- BACKSTOP_LIVE (R80 step 1): the strap is sampled, unless the reset is warm; TIME96 restarts from 0 (R158); the macrocells are
loaded. `bad` has bit b set where bank b's CRC fails. -/
def xBackstopLive (strap : Bool) (bad : Nat) (s : State) : State :=
  if s.held || s.boot.live then s
  else
    let strap := if s.boot.warm then s.strap else strap
    let s := { s with time := 0, timeRem := 0, strap := strap, boot := { s.boot with live := true } }
    let spoil := fun (bs : List Bank) (i : Nat) => if bad.testBit i then bs.set i { bs.getD i .erased with good := false } else bs
    let s := s.modBs (fun b => { b with banks := spoil (spoil b.banks 0) 1 })
    (s.set K.portsDebugStrap (ofBool strap)).loadBackstop

/-- STORE_TRAINING_END (R80 step 2, R82, R264). -/
def xTrainingEnd (ok : Bool) (repaired : Nat) (s : State) : State :=
  if s.held || s.boot.trained then s
  else
    let s := ({ s with boot := { s.boot with trained := true } } : State).set K.storeRepaired (min repaired 64)
    if ok then s.set K.storeState 1 else s.storeFatal

/-! ## Rails (R412, R416, R428) -/

/-- The RAIL window of a rail in mV (R412). -/
def railWindow (r : Nat) : Int × Int :=
  [(710, 790), (850, 950), (1140, 1260), (1710, 1890), (1040, 1160), (380, 420), (1660, 1940), (11000, 13000), (-13000, -11000),
   (1620, 1980)].getD r (0, 0)

/-- The reset threshold of a rail in mV, where it has one. -/
def railReset (r : Nat) : Int := if r = 0 then 650 else if r = 9 then 1500 else -100000

/-- 0 within the window, 1 LOW, 2 HIGH. -/
def railState (r : Nat) (mv : Int) : Nat := if mv < (railWindow r).1 then 1 else if (railWindow r).2 < mv then 2 else 0

/-- DESIGN CHOICE, log entry 14. -/
def State.setVolts (s : State) (r : Nat) (mv : Int) : State := s.set (K.deviceRailVolts r) (f32OfIntRat mv 1000)

/-- RAIL_EXCURSION (R93, R416): a rail outside its window for 10 µs. -/
def xRailExcursion (r : Nat) (mv : Int) (s : State) : State :=
  let t := s.setVolts r mv
  if railState r mv = 0 then t
  else
    let t := if s.obj (K.deviceRailState r) = 0 then t.count (K.deviceRailExcursions r) 32 1 else t
    (State.riseIf s (t.set (K.deviceRailState r) (railState r mv)) 761 r).askSafe 4

/-- RAIL_BELOW_RESET (R412, R416): VCORE or VIOC below its threshold for 1 µs. The reset decides over a RAIL cause. -/
def xRailBelowReset (r : Nat) (mv : Int) (s : State) : State :=
  if mv < railReset r then
    let s := ({ s with railsLow := withBit s.railsLow r true } : State).restarted 3 true
    (s.setVolts r mv).set (K.deviceRailState r) 1
  else s

/-- RAIL_RETURN (R412): OK again within the window; a reset that the rail alone held is released. -/
def xRailReturn (r : Nat) (mv : Int) (s : State) : State :=
  let s := s.setVolts r mv
  let s := if railState r mv = 0 then s.set (K.deviceRailState r) 0 else s
  if s.railsLow.testBit r && railReset r ≤ mv then
    let s := { s with railsLow := withBit s.railsLow r false }
    if s.railsLow = 0 && !s.porLow && s.held then s.beginBoot else s
  else s

/-- Whether the supply of the DAC outputs fails (R416): VP12 or VN12 below 9 V in magnitude, or VANA18 below 1.5 V. -/
def dacSupplyLost (r : Nat) (mv : Int) : Bool :=
  if r = 3 then decide (mv < 1500) else (r == 7 || r == 8) && decide (mv.natAbs < 9000)

/-- DAC_SUPPLY_LOSS (R416): every output goes to its OFF clamp. -/
def xDacSupplyLoss (r : Nat) (mv : Int) (s : State) : State :=
  let s := s.setVolts r mv
  if dacSupplyLost r mv then s.allDacs.foldl (fun st n => st.dacClamp n) s else s

/-! ## Temperatures (R93, R425) -/

/-- `device.temp.max` and what follows from it: the THERMAL source and the THERMAL cause. -/
def State.thermal (s before : State) : State :=
  let ts := [s.obj K.deviceTempDigital, s.obj (K.deviceTempAna 0), s.obj K.storeTemp] ++
    (if dieCount s.variant = 2 then [s.obj (K.deviceTempAna 1)] else [])
  let m := (ts.map (signed 16)).foldl max (signed 16 (s.obj K.deviceTempDigital))
  let t := s.set K.deviceTempMax (unsigned 16 m)
  let t := if signed 16 (t.obj K.deviceTempMaxSeen) < m then t.set K.deviceTempMaxSeen (unsigned 16 m) else t
  let t := State.riseIf before t 760 0
  if signed 16 (t.obj K.deviceSafeTjLimit) < m then t.askSafe 3 else t

/-- TEMP_SENSOR_READ: the sensors of the digital die and of the analogue dies. -/
def xTempRead (digital ana0 ana1 : Int) (s : State) : State :=
  let t := (s.set K.deviceTempDigital (satSigned 16 digital)).set (K.deviceTempAna 0) (satSigned 16 ana0)
  let t := if dieCount s.variant = 2 then t.set (K.deviceTempAna 1) (satSigned 16 ana1) else t
  (allTiles s.variant).foldl (fun st n => st.ilvDrift n) (t.thermal s)

/-- STACK_TEMP_READ: the stack is one of the dies (R240, R425). -/
def xStackTempRead (temp : Int) (s : State) : State := (xStackTemp temp s).thermal s

/-- After a write of `device.safe.tj_limit`: both comparisons are made with the new limit. -/
def actTjLimit (before s : State) : State :=
  let t := State.riseIf before s 760 0
  if signed 16 (t.obj K.deviceSafeTjLimit) < signed 16 (t.obj K.deviceTempMax) then t.askSafe 3 else t

/-! ## The watchdog (R93, R95) -/

/-- WATCHDOG_EXPIRY: management firmware silent for 500 ms. -/
def xWatchdogExpiry (s : State) : State := ({ s with silent := true } : State).askSafe 5

/-- WATCHDOG_RESET: 100 ms after a SAFE entry with cause WATCHDOG. -/
def xWatchdogReset (s : State) : State :=
  if s.mode = mSafe && (s.obj K.deviceSafeCause).testBit 5 then s.warmReset 2 else s

end Sys2Proof.Machine
end

