-- ==== Sys2Proof/Machine/Modes.lean ====
section
/-! DEFINITION. Mode transitions (04_modes_startup.md, R76 to R102): requests, PREPARE, HOLD, drain, shutdown and wake, SAFE; the ends of
unit enables (R99). -/

namespace Sys2Proof.Machine

/-! ## Bulk changes of objects -/

/-- Every object of a set that is not at its default returns to it. -/
def State.resetWhere (s : State) (p : Nat → Bool) : State :=
  ((s.dict.map (·.1) ++ s.inForce.map (·.1)).filter p).foldl (fun st k => (st.settle k).set k (defaultOf st.variant k)) s

/-- Whether a key is that of an object with one of some subindices in a range of indices. -/
def keyIn (lo n : Nat) (subs : List Nat) (k : Nat) : Bool := lo ≤ k / 256 && k / 256 < lo + n && subs.contains (k % 256)

/-- A stop or a start written to a status byte by the device. -/
def State.enDrive (s : State) (k v : Nat) : State :=
  let b := s.obj k
  if enWrite b v = b then s else s.set k (enWrite b v)

/-- A unit reads OFF with no transition in progress. -/
def State.enCut (s : State) (k : Nat) : State :=
  let b := s.obj k
  if enByte b eOff 0 = b then s else s.set k (enByte b eOff 0)

/-! ## Releasing a placement (R75, R90, R107, R225) -/

/-- The objects that a placement writes: of contexts, pieces, sectors, slots, engines, lanes, outputs, waveforms, generators. -/
def isPlacementKey (k : Nat) : Bool :=
  keyIn 0x4000 1024 [2, 3, 4, 5, 6, 7] k || keyIn 0x2200 256 [7, 8, 9] k || keyIn 0x6010 4 [1, 2] k ||
    (0x4800 ≤ k / 256 && k / 256 < 0x4880 && (k / 256 % 2 = 1 || [3, 5, 6].contains (k % 256))) ||
    (keyIn 0x5003 961 [1, 3] k && (k / 256 - 0x5003) % 64 = 0) || (keyIn 0x6403 125 [1, 2] k && (k / 256 - 0x6403) % 4 = 0) ||
    keyIn 0x6490 16 [4] k || (keyIn 0x1580 128 [2] k && k / 256 % 8 = 0) || (keyIn 0x1581 121 [1, 2, 3] k && k / 256 % 8 = 1) ||
    [K.placerStoreBw, K.placerStoreBytes, K.placerDigest].contains k

/-- The objects that show rings. -/
def isRingKey (k : Nat) : Bool := keyIn 0x4000 1024 [8, 9, 10, 11, 12, 13, 15, 32, 36] k

/-- Tiles stop at once, with their selectors (R106). -/
def State.stopTiles (s : State) : State :=
  let on := (allTiles s.variant).filter (fun n => enState (s.obj (K.tileStatus n)) != 0)
  let s := on.foldl (fun st n => (st.enCut (K.tileStatus n)).tileOff n) s
  let keep := fun (x : Tile) => ({ Tile.none_ with danaNew := x.danaNew, corr := x.corr.map (fun p => (p.2, p.2)), nCal := x.nCal, tCal := x.tCal, jAp := x.jAp, ilvCal := x.ilvCal,
                                                   calFor := x.calFor, contended := x.contended } : Tile)
  { s with tiles := s.tiles.foldl (fun m e => Sp.put (fun _ => Tile.none_) m e.1 (keep e.2)) [], mons := [] }

/-- The units that served the placement are free: tiles, slots, generators, and what waited between them. -/
def State.unplaceUnits (s : State) : State :=
  let s := s.stopTiles
  let s := (List.range 16).foldl (fun st p => st.enDrive (K.pitchStatus p) 0) s
  let s := s.resetWhere isPlacementKey
  { s with chains := [], fabs := [], coarse := [], wires := .low, exports := [], peers := [], pitches := [] }

/-- The rings are released: what still waited for them is gone (R75) (DESIGN CHOICE, log entry 22). -/
def State.releaseRings (s : State) : State :=
  let s := s.resetWhere isRingKey
  { s with ctxs := [], pcs := s.pcs.foldl (fun m e => Sp.put (fun _ => Pc.idle) m e.1 { e.2 with wq := [], drain := .none }) [] }

/-- Quadrants lose their power, with synthesisers, engines and DAC clocks (R101, R155, R356). -/
def State.gateQuads (s : State) (p : Nat → Bool) : State :=
  let s := ((allQuads s.variant).filter p).foldl (fun st q =>
    let st := st.enDrive (K.timeSynStatus q) 0
    (List.range 16).foldl (fun t i => (t.enCut (K.feStatus (16 * q + i))).set (K.feStatus (16 * q + i)) 0) st) s
  s.set K.placerQuadrants ((allQuads s.variant).foldl (fun a q => if p q then withBit a q false else a) (s.obj K.placerQuadrants))

def State.gateDacClocks (s : State) : State := s.dies.foldl (fun st d => st.enCut (K.dacClockStatus d)) s

/-- Placed, primed and working contexts are DEFINED again, and their pads' entry switches open. -/
def State.undoContexts (s : State) : State :=
  (s.graphNodes.foldl (fun st n => if st.ctxState n.ctx ≥ cPlaced then st.setCtxState n.ctx cDefined else st) s).syncEntries

/-- A request for LOAD or STANDBY ends work in progress on the placement (R234, R319, R338). -/
def State.dropJobs (s : State) : State :=
  let s := (s.abortCal (fun _ => true)).abandonSwaps
  (({ s.dropMoves with swaps := [] } : State).abortReload).showSwaps

/-- LOAD and STANDBY hold no staged image and no capture (R310); streams and the frame writer stop. -/
def State.dropWork (s : State) : State := ((s.dropJobs.dropStaged).dropCapture).abortFrames.cutStreams

/-- Everything that a placement holds is released (DESIGN CHOICE, log entry 22). -/
def State.unplaceAll (s : State) : State :=
  let s := (((s.dropWork.undoContexts).unplaceUnits).resetWhere isTileReset).releaseRings
  let s := (s.gateQuads (fun _ => true)).gateDacClocks
  { s.placerIdle with plan := .none_ }

/-! ## HOLD (R87 to R89) -/

/-- The mode of a HOLD in force, or none. -/
def State.showHold_ (s : State) (cause enc : Nat) : State := (s.set K.deviceHoldCause cause).set K.deviceHoldEncoder enc

/-- The lines of triggered contexts that no trigger has ended are ended, with the samples they hold; one that the instant itself would
open is not opened. A CDS line ends at its last pixel (DESIGN CHOICE, log entry 44). -/
def State.endLines (s : State) : State :=
  s.ringed.foldl (fun st c =>
    match st.curOf c with
    | none => st
    | some l =>
      let cds := st.obj (K.ctxTile c) != 0xFFFF && st.formOf (st.obj (K.ctxTile c)) == 3
      if !st.triggered c then st
      else if l.words = 0 && l.start = st.clock then st.modCtx c (fun x => { x with cur := none })
      else if cds && !l.empty then st
      else st.closeLineOf c) s

/-- HOLD takes effect. -/
def State.enterHold (s : State) (cause enc : Nat) : State :=
  let s := s.endLines
  let s := s.ringed.foldl (fun st c => st.primeCtx c) s
  let s := (((s.enterMode mHold).set K.deviceModeTarget mHold).set K.deviceModeStep 0).showHold_ cause enc
  { s with trans := .idle }

/-- The generators that a FLOWING context uses. -/
def State.flowingPitches (s : State) : List Nat :=
  (List.range 16).filter (fun p => s.ringed.any (fun c => s.ctxState c == cFlowing && s.node (K.graphNodePitch c) == p))

/-- RUN to HOLD begins: with no generator in use, it is done. -/
def State.beginHold (s : State) (cause enc : Nat) : State :=
  if s.flowingPitches.isEmpty then s.enterHold cause enc
  else
    { s.set K.deviceModeTarget mHold with
      trans := { Transition.idle with motion := .toHold, holdCause := cause, holdEncoder := enc, since := s.clock } }

/-- HOLD_TAKES_EFFECT (R87). -/
def xHoldTakesEffect (s : State) : State :=
  if s.trans.motion != .toHold then s
  else if s.clock ≥ s.trans.since + 10 * perUs ||
      s.flowingPitches.all (fun p => match (s.pitchOf p).lastAt with | some t => decide (s.trans.since ≤ t) | none => false) then
    s.enterHold s.trans.holdCause s.trans.holdEncoder
  else s

/-- Whether a standstill begins a HOLD: in RUN, also after a request for HOLD that still waits for its instant, as of the two the later
one stands (R79). -/
def State.mayStand (s : State) : Bool := s.mode == mRun && (s.trans.motion == .none || s.trans.motion == .toHold)

/-- ENCODER_STANDSTILL (R88, R163). -/
def xEncoderStandstill (e : Nat) (s : State) : State :=
  if !s.encRuns e then s
  else
    let s := s.encAlarm e 1 0xFF
    let s := s.setEnc e { s.enc e with stopped := some s.clock }
    if s.mayStand && s.encDrives e then s.beginHold 2 e else s

/-- TRIGGER_TIMEOUT (R189): the loss of a shared generator is a standstill without an encoder of this member
(DESIGN CHOICE, log entry 31). -/
def xTriggerTimeout (p : Nat) (s : State) : State :=
  if s.mayStand && s.obj (K.pitchSource p) = 1 && isOn (s.obj (K.pitchStatus p)) &&
      s.flowingPitches.contains p then s.beginHold 2 0xFF
  else s

/-- RUN_ENTRY_TRIGGER (R77): the trigger that a waiting entry into RUN takes (DESIGN CHOICE, log entry 31). -/
def xRunEntry (p : Nat) (s : State) : State :=
  if s.trans.motion == .toRun && s.placedPitch p then xLineTriggerAll p s else s

/-- AUTO_RESUME (R88): the trigger that ends a standstill HOLD (DESIGN CHOICE, log entry 31). -/
def xAutoResume (p : Nat) (s : State) : State := if s.mode = mHold && s.runsWith p then xLineTriggerAll p s else s

/-! ## Leaving RUN, HOLD and PREPARE -/

/-- What every end of a transition shows. -/
def State.rest (s : State) (m : Nat) : State :=
  let s := if s.mode = m then s else s.enterMode m
  let s := ((s.set K.deviceModeTarget m).set K.deviceModeStep 0).showHold_ 0 0xFF
  { s with trans := .idle }

/-- The drain of R90 begins: FLOWING and DEGRADED contexts pass through DRAINING. -/
def State.beginDrain (s : State) : State :=
  let s := s.dropJobs
  let s := s.graphNodes.foldl (fun st n =>
    let k := st.ctxState n.ctx
    if k = cFlowing || k = cDegraded then st.setCtxState n.ctx cDraining
    else if k = cPrimed || k = cFailed || k = cPlaced then st.setCtxState n.ctx cDefined else st) s
  let s := s.syncEntries
  { s.set K.deviceModeTarget mLoad with trans := { Transition.idle with motion := .drain, origin := s.mode, since := s.clock } }

/-- The shutdown of R91 begins with its step 1. -/
def State.beginShutdown (s : State) : State :=
  let s := if s.mode = mRun || s.mode = mHold then s.beginDrain else s.dropJobs
  { (s.set K.deviceModeTarget mStandby).set K.deviceModeStep 1 with
    trans := { Transition.idle with motion := .shutdown, origin := s.mode, since := s.clock } }

/-- LOAD with nothing placed, before a pending request is looked at: the outputs go to their safe codes (R75, R367). -/
def State.toLoad (s : State) : State := ((s.unplaceAll).safeMoves).rest mLoad

/-! ## PREPARE (R84 to R86) -/

def State.setStep (s : State) (k : Nat) : State := s.set K.deviceModeStep k

/-- PREPARE begins (DESIGN CHOICE, log entry 21). -/
def State.beginPrepare (s : State) (origin target : Nat) : State :=
  let s := if s.rallyState = rExcluded && !s.upLanes.isEmpty then
      let s := (s.setRally rLinking).updateRoles
      s.floodControl 0xFF 0 (.join s.selfMember s.ownOffer)
    else s
  let s := ((s.enterMode mPrepare).set K.deviceModeTarget target).setStep 1
  { s.showHold_ 0 0xFF with trans := { Transition.idle with motion := .prepare, origin := origin, since := s.clock } }

/-- A step fails (R84): LOAD, or STANDBY where PREPARE came from there and the shadow is valid (DESIGN CHOICE, log entry 21). -/
def State.failPrepare (s : State) (code step : Nat) : State :=
  let s := s.failMode code mPrepare step
  if s.trans.origin = mStandby && s.obj K.deviceStandbyShadow = 1 then s.beginShutdown else s.toLoad

/-- The items that step 1 checks again: the channel program and the image in force (R33, R84); then the pieces (R309). -/
def State.checkStep1 (s : State) : State × Option Nat :=
  let a := if s.obj K.graphState = 0 || s.obj K.versionsProgram = 0 then (s, (.ok () : Res Unit)) else s.checkVersion 3 (s.obj K.versionsProgram)
  match a.2 with
  | .error e => (a.1, some e.code)
  | .ok _ =>
    let b := if s.obj K.configState = 0 then (a.1, (.ok () : Res Unit)) else a.1.checkVersion 3 (s.obj K.configWord)
    match b.2 with
    | .error e => (b.1, some e.code)
    | .ok _ => (b.1, if b.1.missingPiece.isSome then some aAbsent else none)

/-- What a placement shows of a context (R225, R228). -/
def State.showPlaced (s : State) (p : Plan) (n : Node) : State :=
  let c := n.ctx
  let s := match p.tiles.find? (fun e => e.1 == c) with
    | some e => (s.set (K.ctxTile c) e.2.1).set (K.ctxHalf c) e.2.2
    | none => s
  let s := match p.slots.find? (fun e => e.1 == c) with
    | some e => s.set (K.ctxEngine c) (e.2 / 16 * 256 + e.2 % 16)
    | none => s
  let s := if n.source = 2 then s.set (K.ctxPiece c) n.input else s
  let s := match p.lanes.find? (fun e => e.1 == c) with | some e => s.set (K.ctxLane c) e.2 | none => s
  let s := match p.replay.find? (fun e => e.1 == c) with | some e => s.set (K.ctxReplayLane c) e.2 | none => s
  let s := if n.dac = 0xFF then s else s.set (K.dacCtx n.dac) c
  if s.ctxState c = cPrimed then s else s.setCtxState c cPlaced

/-- What it shows of pieces and sectors. -/
def State.showPieces (s : State) (p : Plan) : State :=
  let s := p.pieces.foldl (fun st e =>
    ((st.set (K.graphPiecePlacedSector e.1) e.2.1).set (K.graphPiecePlacedClusters e.1) (e.2.2.1.foldl (fun a x => a ||| 2 ^ x) 0)).set
      (K.graphPiecePlacedPorts e.1) e.2.2.2) s
  (allQuads s.variant).foldl (fun st q =>
    let here := p.pieces.filter (fun e => e.2.1 == q)
    (st.set (K.fabricSectorClustersUsed q) (min 128 ((here.map (fun e => e.2.2.1.length)).foldl (· + ·) 0))).set
      (K.fabricSectorPortsUsed q) (min 256 ((here.map (fun e => st.force (K.graphPiecePorts e.1))).foldl (· + ·) 0))) s

/-- What it shows of generators: encoder and grid (R169, R223). -/
def State.showGrids (s : State) (p : Plan) : State :=
  let s := (List.range 16).foldl (fun st i =>
    if st.pitchUsed i then st.set (K.pitchEncoder i) (byteAt (st.force K.graphEncoders) i) else st) s
  p.grids.foldl (fun st g => (st.set (K.pitchGridQ g.1) g.2.1).set (K.pitchGridDiv g.1) g.2.2) s

/-- What it shows of engines, lanes and waveforms. -/
def State.showLoads (s : State) (p : Plan) : State :=
  let s := p.loads.foldl (fun st e => (st.set (K.feLoad e.1) e.2).set (K.feSlots e.1) (min 16 (p.slots.filter (fun x => x.2 / 16 == e.1)).length)) s
  let s := s.allLanes.foldl (fun st l =>
    st.set (K.laneContexts l) (min 1024 (p.lanes.filter (fun e => e.2 == l && bitsOf (st.node (K.graphNodeDest e.1)) 0 0 == 1)).length)) s
  let s := p.committed.foldl (fun st e => st.set (K.laneCommitted e.1) e.2) s
  (List.range 16).foldl (fun st w =>
    st.set (K.dacWaveUsers w) (min 32 (st.graphNodes.filter (fun n => n.source == 4 && n.input == w && n.dac != 0xFF)).length)) s

/-- Whether the frozen rings of a SAFE are kept (R97) (DESIGN CHOICE, log entry 24). -/
def State.keepsRings (s : State) (p : Plan) : Bool :=
  s.trans.origin == mSafe && !s.placeDirty && !s.ctxs.isEmpty && p.rings == s.plan.rings && p.scheme == s.plan.scheme

/-- Step 2 ends with a placement. Rings of another placement stand until step 4 (R97) (DESIGN CHOICE, log entry 24). -/
def State.takePlacement (s : State) (p : Plan) : State :=
  let keep := s.keepsRings p
  let s := if keep then s.resetWhere (fun k => isPlacementKey k && !(0x4800 ≤ k / 256 && k / 256 < 0x4880 && k / 256 % 2 = 1))
    else (s.undoContexts).unplaceUnits
  let s : State := { s with plan := p, trans := { s.trans with keep := keep }, placeDirty := s.placeDirty || !keep }
  let s := (s.graphNodes.foldl (fun st n => st.showPlaced p n) s).syncEntries
  let s := ((s.showPieces p).showGrids p).showLoads p
  let s := ((s.placerShow 2).set K.placerResult 0).set K.placerDigest (s.digestOf p)
  let s := (s.set K.placerStoreBw p.bw).set K.placerStoreBytes p.bytes
  (s.startFrames).scrubPlaced

/-- The Placer has ended: `placer.ms` takes the time of the step. -/
def State.showMs (s : State) (since : Nat) : State := s.set K.placerMs (min ((s.clock - since) / perMs) 4294967295)

/-- What a refused placement shows (R230). -/
def State.showConflict (s : State) (c : Conflict) : State :=
  ((s.placerShow 3).set K.placerResult c.code).set K.placerConflict c.record

/-- Step 2 (R228, R230). After a tile's failure in step 5 a refusal says that no spare is in reach. -/
def State.endStep2 (s : State) : State × Bool :=
  let s := s.showMs s.trans.since
  match s.place s.pinConflict with
  | .ok p => (s.takePlacement p, true)
  | .error c =>
    let s := s.showConflict c
    (if s.trans.repeated then s.failPrepare aFault 5 else s.failPrepare c.code 2, false)

/-- Step 3 begins: quadrants that the placement uses are powered, the others gated (R101, R154, R155, R356). -/
def State.beginStep3 (s : State) : State :=
  let s := s.gateQuads (fun q => !s.plan.quads.testBit q && (s.obj K.placerQuadrants).testBit q)
  let s := s.set K.placerQuadrants s.plan.quads
  let s := ((allQuads s.variant).filter s.powered).foldl (fun st q =>
    let f := match st.plan.fq.find? (fun f => f.1 == q) with | some f => f32OfRat f.2.1 f.2.2 | none => f32OfNat 1000000000
    let st := if st.obj (K.timeSynFreq q) = f then st else (st.enDrive (K.timeSynStatus q) 0).set (K.timeSynFreq q) f
    let st := st.enDrive (K.timeSynStatus q) 1
    (List.range 16).foldl (fun t i =>
      if t.obj (K.feEnable (16 * q + i)) = 1 then t.enDrive (K.feStatus (16 * q + i)) 1 else t) st) s
  let used := s.graphNodes.filterMap (fun n => if n.dac = 0xFF then none else some (n.dac / 16))
  s.dies.foldl (fun st d => if used.contains d then st.enDrive (K.dacClockStatus d) 1 else st.enCut (K.dacClockStatus d)) s

/-- Whether every unit that step 3 started reads ON. -/
def State.powerUp (s : State) : Bool :=
  ((allQuads s.variant).filter s.powered).all (fun q => isOn (s.obj (K.timeSynStatus q))) &&
    s.dies.all (fun d => enState (s.obj (K.dacClockStatus d)) != 1)

/-- The chain of a context is written into its slot, HELD until step 7 (R105, R210). -/
def State.writeSlot (s : State) (i : Nat) (n : Node) : State :=
  let k := fun (f : Nat → Nat → Nat) => slotKey f i
  if s.slotCtx i = n.ctx && s.slotState i = 5 then s.modChain i (fun x => { x with line := none, off := 0, restart := true })
  else
    let s := ((s.set (k K.feSlotCtx) n.ctx).force1 (k K.feSlotSets) (n.chain % 2 ^ 64)).set (k K.feSlotMode) n.mode
    let s := ((s.force1 (k K.feSlotNcoFreq) n.ncoFreq).force1 (k K.feSlotNcoPhase) n.ncoPhase).set (k K.feSlotState) 5
    let s := s.setChain i { Chain.none_ with restart := true }
    s.set (k K.feSlotDelay) (Frac.mul ⟨1000000000, 1⟩ (s.chainDelay n.ctx (s.span (s.slotSets i)))).f32

/-- The tile objects of a placed context, and its tiles started and joined (R105, R106, R137). -/
def State.bringTile (s : State) (c n half : Nat) : State :=
  let div := (s.plan.divs.find? (fun e => e.1 == n)).elim 0 (·.2)
  let d := s.nodeOf c
  let one := fun (st : State) (m phase : Nat) =>
    let st := (st.writeTile m half c div phase).startTile m
    let st := st.joinBuses m [c]
    st.set (K.tileRouteContexts m) (min 16 ((s.plan.tiles.filter (fun e => e.2.1 == n)).length))
  let s := one s n d.phase
  if d.adc = 3 then one s (n + 1) (d.phase + 512) else s

/-- Step 4 begins: tiles and slots (DESIGN CHOICE, log entry 21). A pair's odd tile comes with its even one. -/
def State.beginStep4 (s : State) : State :=
  let s := (s.plan.tiles.filter (fun e => e.2.2 != 2)).foldl (fun st e => st.bringTile e.1 e.2.1 e.2.2) s
  s.plan.slots.foldl (fun st e => st.writeSlot e.2 (st.nodeOf e.1)) s

/-- The readers of a context's output ring (R248): pieces, lanes, peer lanes, outputs. -/
def State.readersOf (s : State) (n : Node) : List Reader :=
  let cells := (s.graphPieces.filter (fun p => p.inputs.contains n.ctx)).map (fun p => (⟨.cell, p.id, 0⟩ : Reader))
  cells ++ (if bitsOf n.dest 0 0 = 1 then [⟨.lane, s.obj (K.ctxLane n.ctx), 0⟩] else []) ++
    (if bitsOf n.dest 1 1 = 1 then [⟨.peer, n.ctx, 0⟩] else []) ++ (if n.dac = 0xFF then [] else [⟨.dac, n.dac, 0⟩])

/-- The rings of one context, and what shows them. -/
def State.allocate (s : State) (r : RingPlan) : State :=
  let n := s.nodeOf r.ctx
  let out : RingSt := { RingSt.none_ with base := r.base, bytes := r.bytes, lines := r.lines, lineBytes := r.lineBytes, recBase := r.recBase,
                                          mask := r.mask, policy := n.policy, readers := s.readersOf n }
  let raw : RingSt := if r.rawBytes = 0 then .none_
    else { RingSt.none_ with base := r.rawBase, bytes := r.rawBytes, lines := r.rawLines, lineBytes := r.rawLineBytes, recBase := r.rawRec,
                             mask := r.mask, readers := match s.slotOf r.ctx with | some i => [⟨.slot, i, 0⟩] | none => [] }
  let s := s.setCtx r.ctx { Ctx.none_ with out := out, raw := raw }
  let s := ((s.set (K.ctxRingBase r.ctx) r.base).set (K.ctxRingBytes r.ctx) r.bytes).set (K.ctxRingLines r.ctx) r.lines
  let s := ((s.set (K.ctxRawBase r.ctx) r.rawBase).set (K.ctxRawBytes r.ctx) r.rawBytes).set (K.ctxRingPc r.ctx) r.mask
  ((s.set (K.ctxRingRecords r.ctx) r.recBase).set (K.ctxRingPolicyState r.ctx) 0)

/-- Step 4 ends: rings and masks, unless the rings are kept; those of another placement are released; waveforms are loaded
(R97, R244, R363). -/
def State.endStep4 (s : State) (keep : Bool) : State :=
  if keep then s.failUnusable
  else
    let s := ({ s with placeDirty := false } : State).releaseRings
    let s := s.plan.rings.foldl (fun st r => st.allocate r) s
    let s := (s.set K.storeMapScheme s.plan.scheme).set K.storeMapMasks (schemeMasks s.plan.scheme s.customMasks)
    ((s.graphNodes.filter (fun n => n.source == 4)).foldl (fun st n => st.fillWave n.ctx) s).failUnusable

/-- Whether the placed tiles have started. -/
def State.tilesUp (s : State) : Bool :=
  s.plan.tiles.all (fun e => (s.tilesOf e.1).all (fun n => enState (s.obj (K.tileStatus n)) != 1))

/-- The placed tiles. -/
def State.placedTiles (s : State) : List Nat := (s.plan.tiles.flatMap (fun e => s.tilesOf e.1)).eraseDups

/-- Step 5 begins: calibration of the placed tiles as chosen (R35, R85). -/
def State.beginStep5 (s : State) : State :=
  let leaders := ((s.placedTiles).map s.calLeader).eraseDups
  let want := leaders.filter (fun n => !s.factoryDie (n / 128) &&
    (s.obj K.devicePrepareCalibrate = 1 || (s.calMembers n).any (fun m => s.obj (K.tileCalValid m) == 0)))
  (want.foldl (fun st n => (st.calMembers n).foldl (fun t m => t.queueCal m 1 1) st) s).pumpCal

/-- Whether step 5 still calibrates. -/
def State.calibrates (s : State) : Bool := s.calTiles.any (fun n => (s.tile n).cal.purpose == 1)

/-- A tile context is primed on a pad without a driver: its source is lost from the first boundary on (R124, R125). -/
def State.primeSource (s : State) (n : Node) : State :=
  if n.source ≠ 1 then s
  else
    let lost := if s.padListed n.input then 7 else if s.obj (K.tilePadBus n.input) = 3 then 6 else 0
    let was := (s.ctx n.ctx).lostSrc
    if lost ≠ 0 then (s.modCtx n.ctx (fun x => { x with lostSrc := lost })).set (K.ctxCause n.ctx) lost
    else if was = 6 || was = 7 then s.modCtx n.ctx (fun x => { x with lostSrc := 0 }) else s

/-- Step 7 takes effect as it begins: frames, contexts, generators, slots, outputs, strobe groups. -/
def State.beginStep7 (s : State) (lost : List Nat) : State :=
  let s := (s.finishFrames lost).releaseLogic
  let s := s.graphNodes.foldl (fun st n =>
    (if st.ctxState n.ctx = cPlaced then st.setCtxState n.ctx cPrimed else st).primeSource n) s
  let s := ((List.range 16).filter s.pitchUsed).foldl (fun st p => st.enDrive (K.pitchStatus p) 1) s
  let s := s.plan.slots.foldl (fun st e => st.releaseSlot e.2) s
  let s := (List.range 4).foldl (fun st g => st.startGroup g) s
  s.allDacs.foldl (fun st n => st.primeDac n) s

/-- The kept rings are open again (R97, R249) (DESIGN CHOICE, log entry 24). -/
def State.reopenRings (s : State) : State := s.ringed.foldl (fun st c => xRingResume c st) s

/-- The entry from PREPARE into its target (R77, R88). -/
def State.endPrepare (s : State) : State :=
  let s := s.setStep 0
  let target := s.obj K.deviceModeTarget
  if target = mHold then s.enterHold 1 0xFF
  else if target = mRun then
    if (List.range 16).any s.placedPitch then { s with trans := { Transition.idle with motion := .toRun, since := s.clock } }
    else s.enterRun
  else { s with trans := .idle }

/-- Whether SAFE entry stopped a transition of a kind whose step still runs. -/
def State.haltedIn (s : State) (m : Motion) : Bool := match s.halted with | some t => t.motion == m | none => false

/-- PREPARE stops at the end of a step for a request of LOAD or STANDBY (R78). -/
def State.abortPrepare (s : State) : State :=
  let dest := s.trans.abortTo
  let s := s.set K.deviceModePending 0
  if dest = mStandby then s.beginShutdown else s.toLoad

/-- What follows step 5 (R86, R185): step 7 for a device alone, a wait at step 5 without a first exchange, else step 6. -/
def State.afterCal (s : State) (lost : List Nat) : State :=
  if s.rallyState = rStandalone then (s.setStep 7).beginStep7 lost
  else if s.rallyState = rLinking && !s.trans.alignExpired then { s with trans := { s.trans with linkWait := true } }
  else s.setStep 6

/-- The step after step k of PREPARE, whose end the facts tell (DESIGN CHOICE, log entry 21). -/
def State.nextStep (s : State) (k : Nat) (f : StepFacts) : State :=
  match k with
  | 1 =>
    let c := s.checkStep1
    (match c.2 with
    | some code => c.1.failPrepare code 1
    | none => { (c.1.placerShow 1).setStep 2 with trans := { c.1.trans with since := c.1.clock } })
  | 2 => let r := s.endStep2; if r.2 then (r.1.setStep 3).beginStep3 else r.1
  | 3 => if !f.ok then s.failPrepare aFault 3 else (s.setStep 4).beginStep4
  | 4 => if !f.ok then s.failPrepare aConflict 4 else ((s.endStep4 s.trans.keep).setStep 5).beginStep5
  | 5 =>
    if s.placedTiles.any (s.defective 4) then
      if s.trans.repeated then s.failPrepare aFault 5
      else
        let s : State := { s with trans := { s.trans with repeated := true, since := s.clock } }
        (s.placerShow 1).setStep 2
    else s.afterCal f.lost
  | 6 => (s.setStep 7).beginStep7 f.lost
  | _ => (if s.trans.origin = mSafe then s.reopenRings else s).endPrepare

/-- Whether a step's own end has come: its units have followed (DESIGN CHOICE, log entry 21). -/
def State.stepDone (s : State) (f : StepFacts) : Bool :=
  match s.obj K.deviceModeStep with
  | 3 => !f.ok || s.powerUp
  | 4 => !f.ok || s.tilesUp
  | 5 => !s.calibrates && !s.trans.linkWait
  | 6 => s.rallyState == rAligned
  | _ => true

/-- Step 6 starts once the first exchange has come. -/
def State.linkReady (s : State) : State :=
  if s.trans.linkWait && s.rallyState ≠ rLinking then { s.setStep 6 with trans := { s.trans with linkWait := false } } else s

/-- ALIGN_LIMIT_EXPIRY (R86). -/
def xAlignExpiry (s : State) : State :=
  if s.mode ≠ mPrepare || s.trans.motion != .prepare || s.trans.alignExpired || s.rallyState = rAligned ||
      !(s.trans.linkWait || s.obj K.deviceModeStep = 6) then s
  else
    let s := s.raise 751 0
    let s : State := { s with trans := { s.trans with alignExpired := true } }
    if s.trans.linkWait then { s.setStep 6 with trans := { s.trans with linkWait := false } } else s

/-! ## STANDBY and wake (R91, R92) -/

/-- Step 3 of the shutdown: tiles, synthesisers, engines, sectors. -/
def State.powerDown (s : State) : State :=
  let s := ((s.dropWork.undoContexts).unplaceUnits).resetWhere isTileReset
  let s := (s.gateQuads (fun _ => true)).gateDacClocks
  let s := (allQuads s.variant).foldl (fun st q => st.set (K.configSectorState q) 0) s
  { s.placerIdle with plan := .none_ }

/-- Step 4: links first, so that no LEAVE is sent; then the lanes are OFF. -/
def State.lanesDown (s : State) : State :=
  let s := s.allLanes.foldl (fun st n => if st.obj (K.laneLink n) = 0 then st else (st.setLink n 0)) s
  let s := s.rallyLanes.foldl (fun st n => if st.rallyUp n then st.rallyLaneDown n 3 else st) s
  let s := s.allLanes.foldl (fun st n => if enState (st.obj (K.laneStatus n)) = 0 then st
    else (st.enCut (K.laneStatus n)).laneStop n) s
  s.enCut K.scrubStatus

/-- Step 2 ends: outputs OFF, with their enables written 0 (DESIGN CHOICE, log entry 22). -/
def State.dacsDown (s : State) : State :=
  s.allDacs.foldl (fun st n => if enState (st.obj (K.dacStatus n)) = 0 then st
    else ((st.enCut (K.dacStatus n)).dacStop n).set (K.dacEnable n) 0) s

/-- SHADOW_COPY_COMPLETE (R91). -/
def xShadowCopy (s : State) : State := s.endCopy

/-- What a step of the shutdown has done at its end (R91). -/
def State.shutdownEffect (s : State) (step : Nat) : State :=
  match step with
  | 1 => (((s.cutReplays (fun _ => true)).undoContexts).releaseRings).endCopy
  | 2 => s.dacsDown
  | 3 => s.powerDown
  | 4 => s.lanesDown
  | _ => s.sleepStore

/-- The end of a step of the shutdown. -/
def State.shutdownEnd (s : State) : State :=
  let k := s.obj K.deviceModeStep
  let s := s.shutdownEffect k
  match k with
  | 1 => (s.setStep 2).safeMoves
  | 2 => s.setStep 3
  | 3 => s.setStep 4
  | 4 => s.setStep 5
  | _ =>
    let s := s.rest mStandby
    { s with trans := { Transition.idle with shadow := s.obj K.deviceStandbyShadow == 1 } }

/-- A wake begins (R92): the Store leaves self-refresh. -/
def State.beginWake (s : State) (target : Nat) : State :=
  let sh := s.trans.shadow
  { ((s.set K.deviceModeTarget target).setStep 1).set K.storeState 3 with
    trans := { Transition.idle with motion := .wake, origin := mStandby, shadow := sh, since := s.clock } }

/-- What a wake starts again: lanes, scrubber, pattern units, encoders by `enc.wake` (R164, R166, R371). -/
def State.leaveStandby (s : State) : State :=
  let s := s.wakeUnits.wakePats
  (List.range 8).foldl (fun st e =>
    let x := st.enc e
    let st := st.setEnc e { x with edges := [], recent := [], moved := 0, rated := false, signal := false, passing := 0, stopped := none,
                                   jumped := none, armed := true, index := st.obj (K.encWake e) == 2 }
    let st := if st.obj (K.encWake e) = 1 then (st.set (K.encPosition e) (st.obj (K.encPreset e))).encFlag e 0 true
      else if (st.obj (K.encFlags e)).testBit 0 then st.encFlag e 0 false else st
    if st.encRuns e then st.setEnc e { st.enc e with edges := [(st.clock, st.position e)] } else st) s

/-- The wake ends in LOAD (R92): the mode that `device.mode.last_fail` names is open (DESIGN CHOICE, log entry 2)
(DESIGN CHOICE, log entry 25). -/
def State.wakeToLoad (s : State) (why : Bool) : State :=
  let s := if why then (let d := s.draw 65; d.2.failMode aMode (d.1 % 256) 0) else s
  (s.leaveStandby).rest mLoad

/-- The frames that the shadow restores are in force again. -/
def State.restoreFrames (s : State) : State :=
  let s := (allQuads s.variant).foldl (fun st q =>
    if st.frames.any (fun f => f.2.1 == q) then st.set (K.configSectorState q) 2 else st) s
  if s.frames.isEmpty then s else s.set K.configState 3

/-- The frames of a wake without a valid shadow are gone (R310). -/
def State.loseFrames (s : State) : State :=
  let s : State := { s with frames := [], nets := [] }
  if s.obj K.configState = 3 then s.set K.configState 1 else s

/-- The end of a step of the wake: `ok` is false where the Store does not re-lock or the shadow's CRC-32 differs; an uncorrectable read
fails the check too (R264) (DESIGN CHOICE, log entry 25). -/
def State.wakeEnd (s : State) (ok : Bool) : State :=
  if s.obj K.deviceModeStep = 1 then
    if !ok then (s.loseFrames.wakeToLoad true).storeFatal
    else
      let s := s.wakeStore
      if s.trans.shadow then s.setStep 2 else s.loseFrames.wakeToLoad true
  else if ok && !s.shadowPoisoned then
    let s := s.restoreFrames
    let s := s.frames.foldl (fun st f => st.loadMemories f) s
    let target := s.obj K.deviceModeTarget
    if target = mLoad then s.wakeToLoad false else (s.leaveStandby).beginPrepare mStandby target
  else (s.set K.deviceStandbyShadow 0).loseFrames.wakeToLoad true

/-! ## Requests (R76 to R78, R81, R94) -/

/-- Whether the Backstop has no image, as both banks failed their CRC when it was last loaded (R81, R303): programming a bank does not
change that. -/
def State.backstopFailed (s : State) : Bool := s.bs.dead

/-- The transitions that make every request wait (R78) (DEDUCED, log entry 20). -/
def State.waits (s : State) : Bool := s.trans.motion == .drain || s.trans.motion == .shutdown || s.trans.motion == .wake

/-- The table of R76. -/
def requestAllowed (from_ dest : Nat) : Bool := from_ == dest || !((from_ == mRun || from_ == mHold) && dest == mPrepare)

/-- Checks of a request that is not held back by a transition. -/
def State.checkRequest (s : State) (code : Nat) : Res Unit := do
  need (s.obj K.deviceSafeCause == 0) aMode mSafe
  need (requestAllowed s.mode code) aMode s.mode
  need (code == s.mode || code == mLoad || code == mStandby || !s.backstopFailed) aFault 748

/-- Checks of a request as it is written; 0x02 stands for `device.mode.load` (DEDUCED, log entry 20). -/
def guardRequest (s : State) (code : Nat) : Res Unit := do
  need (s.mode != mBoot && s.mode != mRescue) aMode s.mode
  if code = 0 then .ok ()
  else if code = mSafe then need (!s.backstopFailed) aFault 748
  else if s.obj K.deviceSafeCause ≠ 0 then .error ⟨aMode, mSafe⟩
  else if s.waits || s.trans.motion == .prepare then .ok ()
  else s.checkRequest code

/-- A request for the current mode changes nothing (R76). After PREPARE, while the entry into RUN still waits for its trigger, a request
for PREPARE replaces the target (R78) (DEDUCED, log entry 20). -/
def State.stay (s : State) : State :=
  if s.trans.motion == .toRun then { s.set K.deviceModeTarget mPrepare with trans := .idle } else s

/-- What the step in progress has done at its end although SAFE entry stopped its transition (R94): the Placer shows its result and places
nothing, rings are allocated; a step of the shutdown or of the wake has its effect, and the units that SAFE needs are awake
(DESIGN CHOICE, log entry 23). -/
def State.haltedStep (s : State) (t : Transition) (ok : Bool) : State :=
  let k := s.obj K.deviceModeStep
  match t.motion with
  | .prepare =>
    if k = 2 then
      let s := s.showMs t.since
      match s.place s.pinConflict with
      | .ok p => ((s.placerShow 2).set K.placerResult 0).set K.placerDigest (s.digestOf p)
      | .error c => s.showConflict c
    else if k = 4 && ok then s.endStep4 t.keep else s
  | .shutdown =>
    let s := s.shutdownEffect k
    let s := if k = 5 then s.wakeStore else s
    if k ≥ 4 then s.wakeUnits else s
  | .wake =>
    let s := if k = 1 then (if ok then s.wakeStore else s.storeFatal).loseFrames
      else if ok && !s.shadowPoisoned then s.restoreFrames
      else (s.set K.deviceStandbyShadow 0).loseFrames
    s.leaveStandby
  | _ => s

/-- The end of the step that SAFE entry met; a transition that begins first ends it (R94). -/
def State.endHalted (s : State) (f : StepFacts) : State :=
  match s.halted with
  | none => s
  | some t => ({ s.haltedStep t f.ok with halted := none } : State).setStep 0

/-- A request that the mode in force allows is carried out. -/
def State.carryOut (s : State) (code : Nat) : State :=
  let m := s.mode
  if code = m then s.stay
  else
  let s := s.endHalted ⟨true, []⟩
  if code = mStandby then s.beginShutdown
  else if m = mStandby then s.beginWake code
  else if code = mLoad then (if m = mRun || m = mHold then s.beginDrain else s.toLoad)
  else if m = mLoad || m = mSafe then s.beginPrepare m code
  else if m = mPrepare then (s.set K.deviceModeTarget code).endPrepare
  else if m = mRun then s.beginHold 1 0xFF
  else s.enterRun

/-- A request during PREPARE (R78) (DEDUCED, log entry 20). -/
def State.retarget (s : State) (code : Nat) : State :=
  if code = mLoad || code = mStandby then
    let t : State := { s.set K.deviceModePending code with trans := { s.trans with abortTo := code } }
    if s.obj K.deviceModeStep = 6 || s.trans.linkWait then t.abortPrepare else t
  else { (s.set K.deviceModeTarget code).set K.deviceModePending 0 with trans := { s.trans with abortTo := 0xFF } }

/-- MODE_REQUEST_*, MODE_LOAD: an accepted request (DEDUCED, log entry 20). -/
def xRequest (code : Nat) (s : State) : State :=
  if code = 0 then
    { s.set K.deviceModePending 0 with trans := if s.trans.motion == .prepare then { s.trans with abortTo := 0xFF } else s.trans }
  else if code = mSafe then s.askSafe 0
  else if s.waits then s.set K.deviceModePending code
  else if s.trans.motion == .prepare then s.retarget code
  else s.carryOut code

/-- A request that waited is carried out once the transition has completed, or refused there (R78). -/
def State.carryCode (s : State) (code : Nat) : State :=
  if code = 0 || s.waits || s.trans.motion == .prepare then s
  else
    let s := s.set K.deviceModePending 0
    match s.checkRequest code with
    | .ok _ => s.carryOut code
    | .error e => s.failMode e.code code 0

/-- PREPARE_STEP_END (R84). -/
def xPrepareStepEnd (f : StepFacts) (s : State) : State :=
  if s.haltedIn .prepare then s.endHalted f
  else if s.mode ≠ mPrepare || s.trans.motion != .prepare || !s.stepDone f then s
  else if s.trans.abortTo ≠ 0xFF then s.abortPrepare
  else s.nextStep (s.obj K.deviceModeStep) f

/-- DRAIN_COMPLETE (R90). In SAFE the drain that it cut short ends for its contexts (DESIGN CHOICE, log entry 22). -/
def xDrainComplete (s : State) : State :=
  if s.trans.motion == .drain then s.toLoad.carryCode (s.obj K.deviceModePending)
  else if s.mode = mSafe && s.graphNodes.any (fun n => s.ctxState n.ctx == cDraining) then
    s.graphNodes.foldl (fun st n => if st.ctxState n.ctx = cDraining then st.setCtxState n.ctx cDefined else st) s
  else s

/-- SHUTDOWN_STEP_END (R91). -/
def xShutdownStepEnd (s : State) : State :=
  if s.haltedIn .shutdown then s.endHalted ⟨true, []⟩
  else if s.trans.motion != .shutdown then s
  else
    let t := s.shutdownEnd
    if t.mode = mStandby then t.carryCode (s.obj K.deviceModePending) else t

/-- WAKE_STEP_END (R92). A request that waited is looked at once the wake has ended. -/
def xWakeStepEnd (ok : Bool) (s : State) : State :=
  if s.haltedIn .wake then s.endHalted ⟨ok, []⟩
  else if s.trans.motion != .wake then s
  else
    let code := s.obj K.deviceModePending
    let t := s.wakeEnd ok
    if t.trans.motion == .prepare then
      if code = 0 then t else (t.set K.deviceModePending 0).retarget code
    else t.carryCode code

/-! ## SAFE (R93 to R97) -/

/-- The status bytes of the units that follow the enable rule (R98). -/
def isStatusKey (k : Nat) : Bool :=
  let i := k / 256
  let b := k % 256
  (0x3000 ≤ i && i < 0x4000 && i % 16 = 6 && b = 1) || keyIn 0x1410 4 [1] k || (0x1501 ≤ i && i < 0x1580 && i % 16 = 1 && b = 1) ||
    (0x1580 ≤ i && i < 0x1600 && i % 8 = 0 && b = 1) || (0x4800 ≤ i && i < 0x4880 && i % 2 = 0 && b = 2) ||
    (0x6400 ≤ i && i < 0x6480 && i % 4 = 0 && b = 2) || (0x5000 ≤ i && i < 0x5400 && i % 64 = 0 && b = 2) || keyIn 0x64A0 1 [1, 2] k ||
    k == K.scrubStatus

/-- Pending enables are cancelled, pending disables carried out (R94). -/
def State.settleEnables (s : State) : State :=
  (((s.dict.map (·.1)).filter isStatusKey).filter (fun k => enPending (s.obj k) != 0)).foldl (fun st k => st.set k (enSafe (st.obj k))) s

/-- The contexts that PREPARE had placed without rings are DEFINED again. -/
def State.undoPlaced (s : State) : State :=
  (s.graphNodes.foldl (fun st n =>
    if st.ctxState n.ctx = cPlaced || (st.ctxState n.ctx ≥ cPlaced && !st.ringed.contains n.ctx && st.ctxState n.ctx ≠ cDraining)
    then st.setCtxState n.ctx cDefined else st) s).syncEntries

/-- What SAFE entry does to the units (R93 steps 2 to 4, R94). -/
def State.safeUnits (s : State) : State :=
  let s := ((s.settleEnables.abandonSwaps).abortCal (fun _ => true)).cutStreams
  (s.safeMoves).abortFrames

/-- What SAFE entry shows (R93): mode and target, no pending request, the causes, the one that began it, the count. -/
def State.showSafe (s : State) (causes bit : Nat) : State :=
  let s := ((s.enterMode mSafe).set K.deviceModeTarget mSafe).setStep 0
  let s := (s.set K.deviceModePending 0).showHold_ 0 0xFF
  ((s.set K.deviceSafeCause causes).set K.deviceSafeFirst bit).count K.deviceSafeCount 32 1

/-- SAFE entry out of STANDBY: the units and the Store are awake (R94) (DESIGN CHOICE, log entry 23). -/
def State.wakeForSafe (s : State) : State :=
  (if s.obj K.storeState = 4 then s else s.wakeStore).leaveStandby

/-- The step that goes on to its end after SAFE entry (R94): calibration and the wait for alignment end with it (R86, R338). -/
def State.haltNow (s : State) : Option Transition :=
  let k := s.obj K.deviceModeStep
  match s.trans.motion with
  | .prepare => if k = 5 || k = 6 then none else some s.trans
  | .shutdown => some s.trans
  | .wake => some s.trans
  | _ => none

/-- The lowest cause of a mask. -/
def firstCause (mask : Nat) : Nat := ((List.range 16).find? (fun i => mask.testBit i)).getD 0

/-- SAFE entry with the causes in a mask (R93). A cause met in SAFE, BOOT or RESCUE is latched
(DEDUCED, log entry 19; DESIGN CHOICE, log entry 23). -/
def State.enterSafe (s : State) (mask : Nat) : State :=
  let causes := (s.obj K.deviceSafeCause ||| mask) % 65536
  if s.mode = mBoot || s.mode = mRescue || s.mode = mSafe then s.set K.deviceSafeCause causes
  else
    let t := if s.mode = mStandby && s.trans.motion != .wake then s.safeUnits.wakeForSafe else s.safeUnits
    let t : State := { t.undoPlaced with trans := .idle, halted := s.haltNow,
                                         placeDirty := if s.mode = mPrepare then t.placeDirty else false }
    let t := (t.showSafe causes (firstCause mask)).raise 744 0
    let t := if s.haltNow.isSome then t.setStep (s.obj K.deviceModeStep) else t
    if t.obj K.deviceSafeRaiseWhistle = 1 then t.raiseWhistle (firstCause mask) else t

/-- SAFE_RINGS_FREEZE (R93 step 5): contexts whose boundary has not come are frozen now (DESIGN CHOICE, log entry 44). -/
def xSafeFreeze (s : State) : State :=
  if s.mode ≠ mSafe then s
  else
    let s := s.ringed.foldl (fun st c => if (st.curOf c).isSome then st.closeLineOf c else st) s
    s.ringed.foldl (fun st c => st.primeCtx c) s

/-- SAFE_CLEAR (R96): bits whose condition still holds stay. -/
def xSafeClear (mask : Nat) (s : State) : State :=
  let keep := s.standingCauses true
  let old := s.obj K.deviceSafeCause
  s.set K.deviceSafeCause (old - (old &&& mask &&& (0xFFFF - keep % 65536)))

/-- Outside SAFE no cause began one (DEDUCED, log entry 19). -/
def State.settleFirst (s : State) : State :=
  if s.mode = mSafe || s.obj K.deviceSafeFirst = 0xFF || s.mode = mBoot then s else s.set K.deviceSafeFirst 0xFF

/-! ## ENABLE_TRANSITION_END (R99, R101) -/

/-- The object of a unit's status byte. -/
def statusKey : UnitName → Nat
  | .tile n => K.tileStatus n
  | .synth q => K.timeSynStatus q
  | .enc e => K.encStatus e
  | .pitch p => K.pitchStatus p
  | .engine n => K.feStatus n
  | .dac n => K.dacStatus n
  | .lane n => K.laneStatus n
  | .dacClock d => K.dacClockStatus d
  | .scrub => K.scrubStatus

/-- Whether a variant has a unit. -/
def unitPresent (v : Variant) : UnitName → Bool
  | .tile n => n < tileCount v
  | .synth q => q < quadCount v
  | .enc e => e < 8
  | .pitch p => p < 16
  | .engine n => n < engineCount v
  | .dac n => n < dacCount v
  | .lane n => n < laneCount v
  | .dacClock d => d < dieCount v
  | .scrub => true

/-- What a unit does as it comes to read ON. -/
def State.unitOn (s : State) : UnitName → State
  | .tile n => s.tileOn n
  | .enc e => s.encStart e
  | .pitch p => s.pitchStart p
  | .dac n => s.dacStart n
  | .lane n => s.laneStart n
  | .dacClock d => let f := s.draw 54; f.2.set (K.dacClockPhase d) (f.1 % 625)
  | .scrub => s.scrubStart
  | _ => s

/-- What a start that a disable aborts does as it comes to read STOPPING: an output ramps to its safe code once a hold in progress has
ended (R101). -/
def State.unitAbort (s : State) : UnitName → State
  | .dac n => s.safeMove n
  | _ => s

/-- What it does as it comes to read OFF. -/
def State.unitOff (s : State) : UnitName → State
  | .tile n => s.tileOff n
  | .synth q => if s.powered q then s else s.set (K.timeSynFreq q) 0
  | .dac n => s.dacStop n
  | .lane n => s.laneStop n
  | _ => s

/-- Whether a STOPPING unit may end: a lane waits for its streams (R372), an output for its move and its hold (R366), a synthesiser for
its quadrant's tiles (R155). -/
def State.mayStop (s : State) : UnitName → Bool
  | .lane n => s.laneEmpty n
  | .synth q => (allTiles s.variant).all (fun n => quadOf n != q || enState (s.obj (K.tileStatus n)) == 0)
  | .dac n => !s.holding n && (s.dac n).move.isNone && !(s.dac n).moveWaits
  | _ => true

/-- ENABLE_TRANSITION_END. A synthesiser ends STARTING with SYNTH_LOCKED. -/
def xEnableEnd (u : UnitName) (s : State) : State :=
  let k := statusKey u
  let b := s.obj k
  let locked := match u with | .synth _ => enState b == 1 | _ => false
  if locked || (enState b ≠ 1 && enState b ≠ 3) || (enState b = 3 && !s.mayStop u) then s
  else
    let t := s.set k (enEnd b)
    if enState b = 1 then
      (if enState (enEnd b) = 2 then t.unitOn u else t.unitAbort u)
    else t.unitOff u

end Sys2Proof.Machine
end

