-- ==== Sys2Proof/Machine/Derived.lean ====
section
/-! DEFINITION. Objects whose value is a function of the rest of the state: the Layout Table (02_layout_table.md, R25 to R32),
the port objects (R73), event nodes (R411), and what units compute when they are read. -/

namespace Sys2Proof.Machine

/-! ## The Layout Table (R25 to R30) -/

/-- `device.layout.variant` (R1, R26). -/
def Variant.code : Variant → Nat
  | .sv4x256 => 1 | .sv4x128 => 2 | .sv4x256n => 3

/-- The numbering span of class record k (R28), and the index of its unit 0 and its stride. -/
def classSpan (k : Nat) : Nat := [2, 4, 16, 256, 64, 4, 32, 16, 1, 1024, 8, 16, 4, 6, 16, 16, 768, 8].getD k 0
/-- DESIGN CHOICE, log entry 27. -/
def classFirst (k : Nat) : Nat :=
  [0x1200, 0, 0, 0x3000, 0x4800, 0x6010, 0x6400, 0x5000, 0x5800, 0x4000, 0x1500, 0x1580, 0x6100, 0x6860, 0x6900, 0x7C00,
   0x7000, 0x1600].getD k 0
def classStride (k : Nat) : Nat := [0, 0, 0, 16, 2, 1, 4, 64, 0, 1, 16, 8, 0, 1, 1, 1, 1, 0].getD k 0

/-- Parent class code (0 where the parent is no class) and units per parent (R28) (DESIGN CHOICE, log entry 27). -/
def classParent (k : Nat) : Nat × Nat :=
  [(0, 2), (1, 2), (2, 4), (3, 16), (2, 16), (2, 1), (2, 8), (0, 16), (0, 1), (0, 1024), (0, 8), (0, 16), (0, 4), (0, 6),
   (0, 16), (0, 16), (0, 768), (0, 8)].getD k (0, 0)

/-- The event number of unit 0's first source, 0xFFFF for a class without (R26, R403). -/
def classEvents (k : Nat) : Nat :=
  match k with | 3 => 0 | 4 => 640 | 7 => 512 | 10 => 720 | 14 => 704 | 16 => 0 | _ => 0xFFFF

/-- The attribute word (R28). -/
def classAttr (v : Variant) (k : Nat) : Nat :=
  match k with
  | 0 => if v = .sv4x256n then 0 else 1
  | 5 => 128
  | 6 => 3
  | 8 => if v = .sv4x128 then 8 * 256 + 16 else 12 * 256 + 24
  | 12 => 64
  | 13 => 16
  | 15 => 4096
  | 17 => 64
  | _ => 0

/-- Whether unit n of class record k is present (R2, R27, R28). -/
def classPresent (v : Variant) (k n : Nat) : Bool :=
  n < classSpan k && match k with
    | 0 => n < dieCount v
    | 1 => n < quadCount v
    | 2 => n < 4 * quadCount v
    | 3 => n < tileCount v
    | 4 => n < engineCount v
    | 5 => n < quadCount v
    | 6 => n < dacCount v
    | 7 => n < laneCount v
    | 16 => eventPresent v n
    | _ => true

/-- Units present, and the mask with bit n for unit n (R27). -/
def classCount (v : Variant) (k : Nat) : Nat := ((List.range (classSpan k)).filter (classPresent v k)).length
def classMask (v : Variant) (k : Nat) : Nat :=
  (List.range (classSpan k)).foldl (fun a n => if classPresent v k n then a + 2 ^ n else a) 0

/-- Presence: 1 all, 2 some, 0 none (R28). -/
def classPresence (v : Variant) (k : Nat) : Nat :=
  let n := classCount v k
  if n = 0 then 0 else if n = classSpan k then 1 else 2

/-- Subindex j of class record k (R26); the hardware design version is the device's (DESIGN CHOICE, log entry 2). -/
def classField (v : Variant) (k j : Nat) : Nat :=
  match j with
  | 1 => k + 1
  | 2 => classPresence v k
  | 3 => classCount v k
  | 4 => classSpan k
  | 5 => classFirst k
  | 6 => classStride k
  | 7 => classMask v k
  | 8 => (classParent k).1 * 65536 + (classParent k).2
  | 9 => Config.free 56 (k + 1) % 65536
  | 10 => classEvents k
  | 11 => classAttr v k
  | _ => 0

/-- Bytes of subindices 1 to 11 of a record (R26). -/
def classSizes : List (Nat × Nat) :=
  [(1, 2), (2, 1), (3, 2), (4, 2), (5, 2), (6, 2), (7, 128), (8, 4), (9, 2), (10, 2), (11, 4)]

/-- `device.layout.crc` (R25). -/
def State.layoutCrc (s : State) : Nat :=
  crc32 ((List.range 18).flatMap (fun k => classSizes.flatMap (fun f => toLE f.2 (classField s.variant k f.1))) ++
    s.running.combos.flatMap (fun e => (List.range 8).flatMap (fun i => toLE 4 (e.getD i 0))))

/-- An object of the range 0x0000 to 0x00FF (DESIGN CHOICE, log entry 27). -/
def State.layoutValue (s : State) (index sub : Nat) : Nat :=
  if index = 0 then
    match sub with
    | 3 => s.variant.code
    | 5 => s.running.combos.length
    | 6 => Config.free 56 0 % 65536
    | 7 => s.layoutCrc
    | _ => s.obj (key 0 sub)
  else if index < 0x80 then classField s.variant (index - 0x10) sub
  else (s.running.combos.getD (index - 0x80) []).getD (sub - 1) 0

/-! ## Ports (R73) -/

/-- The port objects that are counted or asked for when read. The class of a lane that holds no role is free (DESIGN CHOICE, log entry 2). -/
def State.portValue (s : State) (index sub : Nat) : Nat :=
  if 0x1120 ≤ index then
    let p := index - 0x1120
    match sub with
    | 1 => if s.classOf p = 0 then 1 + Config.free 63 p % 4 else s.classOf p
    | 6 => (s.subs.filter (fun x => x.port == p)).length
    | 7 => (s.transfers.filter (fun x => x.port == p)).length
    | _ => s.obj (key index sub)
  else s.obj (key index sub)

/-! ## Stamp delay (R175) -/

/-- L_adc + D_ana of a tile's half, in seconds. -/
def State.tileDelay (s : State) (c : Nat) : Frac :=
  let n := s.obj (K.ctxTile c)
  let half := if s.obj (K.ctxHalf c) = 1 then 1 else 0
  if n ≥ 256 then ⟨0, 1⟩ else Frac.add (s.latency n half) ⟨(s.danaOf n half).toNat, perS⟩

/-- The delay of the pieces and chains through which a context's words come, and its own chain's: what a tile's words had, and at each
piece its delay in samples of its first input (R173, R175). No chain of pieces is longer than `fuel` (R222). -/
def State.delayThrough (s : State) : Nat → Nat → Frac
  | 0, _ => ⟨0, 1⟩
  | fuel + 1, c =>
    let before := match s.node (K.graphNodeSource c) with
      | 1 => s.tileDelay c
      | 2 =>
        let m := (s.pieceInputs (s.node (K.graphNodeInput c) / 256)).headD 0xFFFF
        if m ≥ 1024 then ⟨0, 1⟩ else Frac.add (s.delayThrough fuel m) (s.pieceTime (s.node (K.graphNodeInput c) / 256))
      | _ => ⟨0, 1⟩
    match s.slotOf c with
    | some i => Frac.add before (s.chainDelay c (s.span (s.slotSets i)))
    | none => before

/-- `ctx[c].delay` in seconds (R175). -/
def State.ctxDelay (s : State) (c : Nat) : Frac := if s.ctxState c < cPlaced then ⟨0, 1⟩ else s.delayThrough 16 c

/-- Whether a tile's timing figures are those of a synthesiser without lock (R151), in the modes in which tiles are powered
(DESIGN CHOICE, log entry 31). -/
def State.untimed (s : State) (n : Nat) : Bool := [mPrepare, mRun, mHold, mSafe].contains s.mode && !s.locked (quadOf n)

/-- A pitch generator's status: UNBOUNDED while it works on an encoder with RANGE set, SHARED while its source is FORMATION
(R170, R171). -/
def State.pitchStatusNow (s : State) (p : Nat) : Nat :=
  let b := s.obj (K.pitchStatus p)
  let e := s.encOf p
  withBit (withBit b 5 (enState b != eOff && decide (e < 8) && bitsOf (s.obj (K.encFlags e)) 2 2 == 1)) 6
    (s.obj (K.pitchSource p) == 1)

/-! ## Reads -/

/-- What units compute when they are read: 0x1400 to 0x6870. -/
def State.unitValue (s : State) (index sub : Nat) : Nat :=
  let k := key index sub
  if k = K.timeNow then s.now
  else if 0x3000 ≤ index && index < 0x4000 then
    let n := (index - 0x3000) / 16
    let i := index % 16
    if (i = 12 || i = 13) && sub = 7 then s.tickReal n (i - 12)
    else if (i = 12 || i = 13) && sub = 0x0D then
      bitsOf (s.force K.calUnresolvedMap) (2 * n + (i - 12)) (2 * n + (i - 12))
    else if i = 11 && (sub = 1 || sub = 2) then if s.untimed n then 0 else s.obj k
    else if i = 10 && sub = 9 then if s.untimed n then withBit (s.obj k) 1 true else s.obj k
    else s.obj k
  else if 0x1500 ≤ index && index < 0x1580 && index % 16 = 1 && sub = 9 then
    f32OfRat (131072 * s.obj (K.encTrackNs ((index - 0x1500) / 16))) 1000000
  else if 0x1580 ≤ index && index < 0x1600 && index % 8 = 0 && sub = 1 then s.pitchStatusNow ((index - 0x1580) / 8)
  else if 0x1580 ≤ index && index < 0x1600 && index % 8 = 1 && sub = 3 then
    let p := (index - 0x1580) / 8
    quantumPs (s.obj (K.pitchGridDiv p)) (fracOfF32 (s.obj (K.timeSynFreq (s.obj (K.pitchGridQ p)))))
  else if 0x4000 ≤ index && index < 0x4400 && sub = 0x1D then
    (Frac.mul (s.ctxDelay (index - 0x4000)) ⟨1000000000, 1⟩).f32
  else if 0x4800 ≤ index && index < 0x4880 && index % 2 = 1 && 0x16 ≤ sub && (sub - 0x16) % 8 = 0 then
    s.settleNow (8 * (index - 0x4801) + (sub - 0x16) / 8)
  else if 0x4880 ≤ index && index < 0x4900 then
    let c := index - 0x4880
    if sub = 1 then s.coef c else if sub = 2 then s.setUsers c false else s.obj k
  else if 0x5000 ≤ index && index < 0x5400 then
    let n := (index - 0x5000) / 64
    let i := index % 64
    if i = 1 && sub = 1 then factoryMac n
    else if i = 1 && sub = 8 then linkLocal (factoryMac n)
    else if i = 3 && sub = 4 then (s.replays.filter (fun x => x.lane == n)).length
    else if i = 3 && sub = 6 then s.heldUs n
    else s.obj k
  else if 0x6020 ≤ index && index < 0x6028 then
    if sub = 3 then s.paceFreq (index - 0x6020) else if sub = 5 then s.paceStatus (index - 0x6020) else s.obj k
  else if k = K.scrubLog then ofLE s.scrubLog
  else if k = K.backstopOutputs then s.macroOut
  else if k = K.backstopInputs then s.poolBits
  else if k = K.backstopOsc then Config.free 57 s.clock % 4294967296
  else if 0x6400 ≤ index && index < 0x6480 then
    let n := (index - 0x6400) / 4
    let i := index % 4
    if i = 2 && sub = 1 then unsigned 32 (s.codeNow n)
    else if (i = 0 && sub = 2) || (i = 2 && (sub = 4 || sub = 5)) then (s.slewOn n).obj k
    else if i = 2 && sub = 7 then Config.free 47 (n + 32 * s.clock) % 4294967296
    else if i = 3 && sub = 3 then f32OfRat (65000 + Config.free 48 n % 13001) 1000
    else s.obj k
  else if 0x6480 ≤ index && index < 0x6484 && sub = 2 then
    if s.clock ≥ (s.strobe (index - 0x6480)).start + 2 * perMs then 0 else s.obj k
  else if 0x6800 ≤ index && index < 0x6860 && sub = 4 then (s.pinNow (index - 0x6800)).1
  else if 0x6860 ≤ index && index < 0x6866 && sub = 4 then s.bankIn (index - 0x6860)
  else if k = K.gpioIrq then s.irqPins
  else if k = K.gpioSafeN then ofBool s.safeLow
  else s.obj k

/-- The value that a READ of a numeric object returns on a port (R60, R73)
(DESIGN CHOICE, log entry 14). -/
def State.value (s : State) (port index sub : Nat) : Nat :=
  if index < 0x100 then s.layoutValue index sub
  else if index < 0x1100 then
    let k := key index sub
    if k = K.deviceEventsActive then s.eventsActive
    else if k = K.deviceEventsGroups then s.eventsGroups
    else if k = K.deviceEventsClasses then s.eventsClasses
    else if k = K.deviceEventsSummary then s.eventsSummary
    else if 0x1030 ≤ index && index < 0x103A && sub = 2 then
      Config.free 58 (index - 0x1030 + 16 * s.clock) % 4294967296
    else s.obj k
  else if index < 0x1200 then
    let k := key index sub
    if k = K.portsWhoami then s.classOf port * 256 + port
    else if k = K.portsMgmtMac then factoryMac 16
    else if k = K.portsMgmtLinkLocal then linkLocal (factoryMac 16)
    else s.portValue index sub
  else s.unitValue index sub

/-- The bytes that an object held as bytes reads as (R65, R66): a staged one shows the pending bytes (R48). -/
def State.bytesOf (s : State) (r : Row) (index sub : Nat) : List Byte :=
  let k := key index sub
  if k = K.portsTrace then s.trace.flatten ++ List.replicate (65536 - 32 * s.trace.length) 0
  else if k = K.placerDefects then s.defectBytes
  else if k = K.backstopImage then s.bank.image
  else if k = K.probeData then s.probeBytes
  else
    let stored := match s.blob (stagedBlob k) with
      | some bs => if k = K.configImage then none else some bs
      | none => none
    let bs := (stored.orElse (fun _ => s.blob k)).getD []
    if r.ty == .text || k = K.graphProgram || k = K.configImage || 0x6490 ≤ index && index < 0x64A0 then bs
    else if index % 16 = 15 && 0x3000 ≤ index && index < 0x4000 then
      let t := s.storedTable ((index - 0x3000) / 16)
      t ++ (List.replicate ((65536 - t.length) / 4) [0, 0, 0x00, 0x40]).flatten
    else bs ++ List.replicate (r.size - bs.length) 0

/-- The bytes of any object, as a READ or a block read returns them (R44, R60, R66). -/
def State.readBytes (s : State) (l : Loc) (port index sub : Nat) : List Byte :=
  if sub = 0 then toLE 1 l.row.dflt
  else if isBlob l.row then s.bytesOf l.row index sub
  else toLE l.row.size (s.value port index sub)

end Sys2Proof.Machine
end

