-- ==== Sys2Proof/Machine/Finish.lean ====
section
/-! DEFINITION. What follows every command: SAFE entry that it asked for, conditions that ended, holds of the lanes, pins and the
Backstop, notices to subscribers (R68, R69, R407), and what leaves the ports. -/

namespace Sys2Proof.Machine

/-! ## Notices (R68, R69) -/

/-- The latest change of an enabled source at or below a node. -/
def State.newestBelow (s : State) (node : Nat) : Option EventChange :=
  (s.evLast.filter (fun e => below node e.1)).foldl
    (fun best e => match best with
      | some b => if b.ord < e.2.ord then some e.2 else some b
      | none => some e.2) none

/-- The 32 bytes of an event record (R407); a node without a change carries 0xFFFF and zeros (R69). -/
def eventRecord : Option EventChange → List Byte
  | none => toLE 2 0xFFFF ++ List.replicate 30 0
  | some c => toLE 2 c.source ++ toLE 1 (ofBool c.cleared) ++ toLE 1 c.severity ++ toLE 4 c.count ++ toLE 4 c.detail ++
      toLE 1 c.flags ++ List.replicate 3 0 ++ toLE 12 (time96 c.time) ++ List.replicate 4 0

/-- The object of a subscription. -/
def State.subLoc (s : State) (x : Subscription) : Option Loc :=
  match s.find (x.target / 256) (x.target % 256) with
  | .ok l => some l
  | .error _ => none

/-- What a notice carries after its head: the time of the latest change, and the value or the record. -/
def State.noticeValue (s : State) (x : Subscription) : Nat × Nat × List Byte :=
  if x.isNode then
    let c := s.newestBelow x.target
    ((c.map (·.time)).getD 0, 0, eventRecord c)
  else match s.subLoc x with
    | some l => (x.changeTime, l.row.ty.code, s.readBytes l x.port (x.target / 256) (x.target % 256))
    | none => (x.changeTime, 0, [])

/-- The NOTIFY message of a subscription with a number of further changes (R51, R52, R69). -/
def State.notice (s : State) (x : Subscription) (further : Nat) : List Byte :=
  let v := s.noticeValue x
  let body := toLE 4 x.seq ++ toLE 2 (min 65535 further) ++ toLE 2 0 ++ toLE 12 (time96 v.1) ++ v.2.2
  header 0x0B s.answerFlags (x.seq % 65536) body.length (if x.isNode then 0 else x.target / 256)
    (if x.isNode then 0 else x.target % 256) v.2.1 0 x.id ++ body

/-- Put a subscription in place of the one with its id. -/
def State.putSub (s : State) (x : Subscription) : State :=
  { s with subs := s.subs.map (fun y => if y.id = x.id then x else y) }

/-- Send a notice of a subscription now: the next sequence number, nothing coalesced any more (DESIGN CHOICE, log entry 17). -/
def State.sendSub (s : State) (x : Subscription) (further : Nat) : State :=
  let x : Subscription := { x with seq := (x.seq + 1) % 4294967296 }
  let m := s.notice x further
  (s.putSub { x with coalesced := 0, dirty := false, behind := none, lastSent := some s.clock }).sendNotice x.port x.src m

/-- The least time between two notices of a subscription: a node takes 0 as 10 µs (R407). -/
def Subscription.gap (x : Subscription) : Nat :=
  if x.isNode && x.interval = 0 then 10 * perUs else x.interval * perMs

/-- Count the changes that a subscription has met since `before`: each change below its node, or one where its object's bytes
differ. A change by a request whose answer is held waits behind that answer on its port (R62). -/
def State.markSub (s before : State) (changes : List EventChange) (x : Subscription) : Subscription :=
  let n :=
    if x.isNode then (changes.filter (fun c => below x.target c.source)).length
    else match s.subLoc x with
      | some l => ofBool (s.readBytes l x.port (x.target / 256) (x.target % 256) !=
          before.readBytes l x.port (x.target / 256) (x.target % 256))
      | none => 0
  if n = 0 then x
  else
    let held := s.transfers.find? (fun y => y.waiting && y.port == x.port && !(before.transfers.any (fun z => z.id == y.id && z.waiting)))
    { x with coalesced := x.coalesced + n, dirty := x.onChange, changeTime := s.time,
             behind := match held with | some y => some y.id | none => x.behind }

/-- Whether a notice may leave: the answer that must leave before it is no longer held (R62). -/
def State.subFree (s : State) (x : Subscription) : Bool :=
  match x.behind with
  | some id => !(s.transfers.any (fun y => y.id == id && y.waiting))
  | none => true

/-- Whether a notice of a change is due. -/
def State.subDue (s : State) (x : Subscription) : Bool :=
  x.dirty && s.subFree x && match x.lastSent with | some t => decide (t + x.gap ≤ s.clock) | none => true

/-- Every subscription counts what the command changed. -/
def State.markAll (s before : State) : State := { s with subs := s.subs.map (fun x => s.markSub before s.changes x) }

/-- The notices that are due leave in the order in which their subscriptions were made. -/
def State.sendDue (s : State) : State := (s.subs.filter s.subDue).foldl (fun st x => st.sendSub x (x.coalesced - 1)) s

/-- What the sending itself changed (an overflow), after the first n changes, counts toward the next notices
(DESIGN CHOICE, log entry 17). -/
def State.markLate (s before : State) (n : Nat) : State :=
  if (s.changes.drop n).isEmpty then s
  else { s with subs := s.subs.map (fun x => if x.isNode then s.markSub before (s.changes.drop n) x else x) }

/-- The completion notices of the replays that the command ended (R62, R71). -/
def State.sendEnded (s : State) : State :=
  s.ended.foldl (fun st e => st.sendNotice e.1 e.2.1 e.2.2) { s with ended := [] }

/-- Notices of what a command changed (DESIGN CHOICE, log entry 17). -/
def State.notices (s before : State) : State :=
  let s := s.sendEnded
  if s.subs.isEmpty then s else ((s.markAll before).sendDue).markLate before s.changes.length

/-! ## What leaves the ports -/

/-- Bytes of a frame of Umzin, ARP, neighbour discovery or ICMP on the wire before its FCS (DESIGN CHOICE, log entry 49). -/
def frameBytes : Emission → Nat
  | .message _ dest bytes => (if dest / 65536 < 4294967296 then 42 else 62) + bytes.length
  | .frame _ kind addr bytes =>
    if kind = 1 || kind = 3 then 42 else if kind = 2 || kind = 4 then 86
    else (if addr < 4294967296 then 42 else 62) + bytes.length
  | _ => 0

/-- An answer on a port: the management port's link and a lane's must be up; a PAUSE holds the answers of a lane (R378). A lane in
Rally role carries Umzin once it is up. -/
def State.route (s : State) (port : Nat) (e : Emission) : State :=
  if port = 3 then (if s.portUp 3 then (s.emit e).tally K.portsMgmtTxFrames 64 1 else s)
  else if 16 ≤ port && port < 32 then
    let n := port - 16
    if !s.ethernet n then
      (match e with
      | .message _ dest bytes => if s.rallyUp n then s.sendUmzin n 0 dest bytes else s
      | _ => s)
    else if !s.linkUp n then s
    else if (s.lane n).paused.isSome then s.modLane n (fun x => { x with answers := x.answers ++ [e] })
    else (s.emit e).txFrame n (frameBytes e)
  else s.emit e

/-- Everything that a command emitted leaves in order. -/
def State.routeAll (s : State) : State :=
  s.emitted.foldl (fun st e => match e with
    | .message p _ _ => st.route p e
    | .frame p _ _ _ => st.route p e
    | _ => st.emit e) { s with emitted := [] }

/-! ## After every command -/

/-- SAFE entry for the causes that the command asked for (R93); a device in reset latches none. -/
def State.answerSafe (s : State) : State :=
  if s.safeAsk = 0 then s
  else
    let t := if s.held then s else s.enterSafe s.safeAsk
    { t with safeAsk := 0 }

/-- Lanes show the hold in force, and contexts that change lanes do so once their readers have come that far (R372, R378). -/
def State.settleLanes (s : State) : State :=
  let s := (s.exports.filter (fun e => e.1 < 1024 && e.2.moveAt.isSome)).foldl (fun st e => st.moveExport e.1) s
  s.allLanes.foldl (fun st n => st.showHold n) s

/-- The trigger pulses that began, bit p for generator p (R172). -/
def State.newPulses (s before : State) : Nat :=
  (List.range 16).foldl (fun a p =>
    if (s.pitchOf p).lastAt.isSome && (s.pitchOf p).lastAt != (before.pitchOf p).lastAt then a + 2 ^ p else a) 0

/-- The Backstop sees the pulses that began, then the levels that stand (R295). -/
def State.settleBackstop (s before : State) : State :=
  if s.bs.live then
    let p := s.newPulses before
    let s := if p = 0 then s else s.bsSettle p
    s.bsSettle 0
  else s

/-- Fabric logic sees the triggers that came, and follows what changed at its border (R284, R287). -/
def State.settleFabric (s before : State) : State := (s.triggerLines (s.newPulses before)).settleLogic

/-- The units' part of what follows a command. -/
def State.settleUnits (s before : State) : State :=
  if s.held then s
  else ((((((s.linkReady).watchScene).settleEvents).settleLanes).movePins before).settleBackstop before).settleFabric before

/-- `ports.queue` shows the requests that wait at the access point (R64, R73). -/
def State.showQueue (s : State) : State := s.poke K.portsQueue (min 64 (s.waitingAt s.clock).length)

/-- What follows every command, from the state before it. -/
def State.finish (before s : State) : State :=
  let s := (((((s.showQueue).settleFirst).answerSafe).settleUnits before).notices before).routeAll
  { s with variant := before.variant, pending := before.pending, safeAsk := 0 }

end Sys2Proof.Machine
end

