-- ==== Sys2Proof/Machine/Hooks.lean ====
section
/-! DEFINITION. What each writable object adds to a write: its own checks of mode, state and value (checks 6 to 8 of R59), and what
the device does at once when the value stands. The operations themselves are in Umzin. -/

namespace Sys2Proof.Machine

/-- A value that a request of a class and a port brings to an object. -/
structure Put where
  l : Loc
  index : Nat
  sub : Nat
  v : Nat
  cls : Nat
  port : Nat
  deriving DecidableEq, Repr

/-- The key of the object. -/
def Put.key_ (p : Put) : Nat := key p.index p.sub

/-- The bits of `ports.enable` that name a port of the variant (R73). -/
def enableBits (v : Variant) : Nat := if v = .sv4x128 then 0x00FF0001 else 0xFFFF0001

/-! ## Checks -/

/-- Checks of the device's, the ports' and the versions' objects. -/
def guardDevice (s : State) (k v : Nat) : Res Unit :=
  if k = K.deviceModeRequest then guardRequest s v
  else if k = K.deviceModeLoad then guardRequest s mLoad
  else if k = K.deviceEventsBackstop then guardEventNodes v
  else if k = K.deviceEventsClearNode then need (v ≤ 0x348) aRange 0x348
  else if k = K.portsEnable then need (v &&& enableBits s.variant == v) aRange (v &&& enableBits s.variant)
  else .ok ()

/-- Checks of the timebase, the encoders and the formation. -/
def guardTiming (s : State) (p : Put) : Res Unit :=
  let e := p.l.unit
  if p.key_ = K.timeSet then guardTimeSet s
  else if p.l.row.form = .encoder && p.index % 16 = 0 then
    match p.sub with
    | 2 => guardEncEnable s e p.v
    | 3 => guardGlitch s e p.v
    | 5 => guardRateMax s e p.v
    | 10 => guardPreset s
    | 12 => guardTrackNs s
    | _ => .ok ()
  else .ok ()

/-- Checks of the board facts, the Placer and the graph. -/
def guardPlan (s : State) (p : Put) : Res Unit :=
  let k := p.key_
  if k = K.boardCommit then guardBoardCommit s
  else if isBoardKey k then (do guardBoardBytes k p.v; guardBoard s)
  else if k = K.placerTrial then guardTrial s
  else if k = K.placerDefectAdd then need (p.v / 65536 ≤ 17 && 0 < p.v / 65536) aRange 0
  else if k = K.graphCommit then guardGraphCommit s
  else if k = K.graphEncoders then (do guardEncoders p.v; guardGraph s)
  else if isGraphKey k then guardGraph s
  else .ok ()

/-- Checks of a tile's objects. -/
def guardTile (s : State) (p : Put) : Res Unit :=
  let n := p.l.unit
  match p.index % 16, p.sub with
  | 0, 2 => guardGain (s.formOf n) p.v
  | 0, 6 => guardBias s n p.v
  | 0, 10 => (do guardGain (s.formOf n) p.v; guardHalfB s n)
  | 0, 11 => guardHalfB s n
  | 0, 12 => guardHalfB s n
  | 1, 1 => guardCdsPhases s n p.v (s.obj (K.tileCdsVideoPhase n))
  | 1, 2 => guardCdsPhases s n (s.obj (K.tileCdsResetPhase n)) p.v
  | 2, 6 => guardHalfB s n
  | 4, 5 => guardScanGain s n p.v
  | 7, 3 => guardPadTest s n
  | 7, 16 => guardTbusSrc s p.v
  | 8, 6 => guardPhase s n
  | 12, _ => guardMonitor s n 0 p.sub p.v
  | 13, _ => guardMonitor s n 1 p.sub p.v
  | _, _ => .ok ()

/-- Checks of the contexts, the engines and the coefficient sets. -/
def guardStream (s : State) (p : Put) : Res Unit :=
  if p.l.row.form = .context then
    match p.sub with
    | 0x1E => guardSwap s p.l.unit (some p.v)
    | 0x1F => guardSwap s p.l.unit none
    | _ => .ok ()
  else if p.l.row.form = .engine then guardFeEnable s p.l.unit p.v
  else if p.l.row.form = .slot then
    match p.l.row.sub with
    | 0x12 => guardSets s p.v
    | 0x14 => guardNco (s.slotMode (16 * p.l.unit + p.l.inner)) p.v
    | _ => .ok ()
  else if p.l.row.form = .coefSet then (do guardCoef p.v; guardSetFree s p.l.unit)
  else .ok ()

/-- Checks of the lanes, the Store and the arbitration. -/
def guardFlow (s : State) (p : Put) : Res Unit :=
  let k := p.key_
  if p.l.row.form = .lane && p.index % 64 = 0 && p.sub = 1 then guardLaneEnable s p.l.unit p.v
  else if k = K.storeWqHigh then guardWatermarks p.v (s.obj K.storeWqLow)
  else if k = K.storeWqLow then guardWatermarks (s.obj K.storeWqHigh) p.v
  else if k = K.storeMapMasks then guardMasks s p.v
  else if k = K.arbHoldLimit then need (p.v % 10 == 0) aRange (p.v / 10 * 10)
  else .ok ()

/-- Checks of the fabric, the configuration, the scrubber and the Backstop. -/
def guardLogic (s : State) (p : Put) : Res Unit :=
  let k := p.key_
  if p.l.row.form = .pace then
    (if p.sub = 1 then guardPace s p.v (s.obj (K.fabricPaceDiv p.l.unit))
     else if p.sub = 2 then guardPace s (s.obj (K.fabricPaceQuadrant p.l.unit)) p.v else .ok ())
  else if p.l.row.form = .sector && p.sub = 2 then guardReload s p.l.unit
  else if k = K.scrubEnable then guardSafeEnable s p.v
  else if k = K.backstopActivate then guardActivate s
  else .ok ()

/-- Checks of the outputs, the pins, calibration and the probes. -/
def guardOutput (s : State) (p : Put) : Res Unit :=
  let k := p.key_
  let n := p.l.unit
  match p.l.row.form with
  | .dac =>
    if p.index % 4 = 0 then
      (if p.sub = 1 then guardDacEnable s n p.v
       else if p.sub = 3 || p.sub = 4 || p.sub = 5 then guardDacSetup s n else .ok ())
    else .ok ()
  | .group => if p.sub = 1 then guardStrobe s p.v else .ok ()
  | .wave => (do
      if p.sub = 2 then guardWaveLength s n p.v else if p.sub = 3 then guardWaveFormat s n p.v else .ok ()
      guardWave s n)
  | .pin => if p.sub = 1 then guardFunc s n p.v else .ok ()
  | .bank => if p.sub = 2 || p.sub = 3 then guardBank s else .ok ()
  | .probe => if p.sub = 3 then guardProbePin s p.v else .ok ()
  | _ =>
    if k = K.probePace then guardProbePace s p.v
    else if k = K.probeDepth then guardProbeDepth s p.v
    else if k = K.probeArm then guardArm s
    else if k = K.calCommand then guardCal s p.v
    else if k = K.calUnresolvedMap then guardBoard s
    else .ok ()

/-- A lane's formation objects answer only while the lane is in Rally role (R197). -/
def guardRallyLane (s : State) (l : Loc) : Res Unit :=
  if l.row.form = .rallyLane then need (s.roleOfLane l.unit ≥ 2) aMode (s.roleOfLane l.unit) else .ok ()

/-- The object's own checks of a value that is to be written (DEDUCED, log entry 11). -/
def State.guardPut (s : State) (p : Put) : Res Unit := do
  guardRallyLane s p.l
  if p.index < 0x1400 then guardDevice s p.key_ p.v
  else if p.index < 0x1800 then guardTiming s p
  else if p.index < 0x2800 then guardPlan s p
  else if p.index < 0x4000 && 0x3000 ≤ p.index then guardTile s p
  else if p.index < 0x5000 then (if p.l.row.form = .context && p.sub = 0x23 then .ok () else guardStream s p)
  else if p.index < 0x6000 then guardFlow s p
  else if p.index < 0x6400 then guardLogic s p
  else guardOutput s p

/-! ## Effects -/

/-- The value stands: a staged object keeps the one in force until its boundary (R48), an action entry keeps none. -/
def State.putValue (s : State) (p : Put) : State :=
  if p.l.row.attr.testBit 3 then s
  else if p.l.row.attr.testBit 0 then (s.hold p.key_).poke p.key_ p.v
  else s.poke p.key_ p.v

/-- Effects of the device's, the ports' and the versions' objects; `device.reset` acts once its answer has left. -/
def putDevice (s : State) (p : Put) : State :=
  let k := p.key_
  let t := s.putValue p
  if k = K.deviceModeRequest then xRequest p.v t
  else if k = K.deviceModeLoad then xRequest mLoad t
  else if k = K.deviceSafeClear then xSafeClear p.v t
  else if k = K.deviceSafeTjLimit then actTjLimit s t
  else if k = K.deviceEventsClearNode then xClearNode p.v t
  else if k = K.deviceEventsTest then xEventTest t
  else if k = K.portsMgmtClear then xMgmtClear t
  else if k = K.versionsMgmtSelect then actSelect p.v t
  else if k = K.versionsAccept then actAccept (s.obj k) p.v t
  else t

/-- Effects of the timebase, the encoders and the formation. -/
def putTiming (s : State) (p : Put) : State :=
  let k := p.key_
  let e := p.l.unit
  let t := s.putValue p
  if k = K.timeSet then xTimeSet p.v t
  else if k = K.timePtpEnable then actPtpEnable p.v t
  else if p.l.row.form = .encoder && p.index % 16 = 0 then
    match p.sub with
    | 2 => xEncEnable e p.v t
    | 10 => actPreset e p.v t
    | _ => t
  else if k = K.rallyShareSource || k = K.rallyShareBackup then (t.checkHorizon).floodControl 0xFF 0 (.topology t.selfMember)
  else if k = K.rallyTriggerHorizon then t.checkHorizon
  else t

/-- Effects of the board facts, the Placer and the graph. -/
def putPlan (s : State) (p : Put) : State :=
  let k := p.key_
  let t := s.putValue p
  if k = K.boardCommit then xBoardCommit t
  else if k = K.placerTrial then xPlacerTrial t.pinConflict t
  else if k = K.placerDefectAdd then xDefectAdd p.v t
  else if k = K.placerDefectClear then xDefectClearAll t
  else if k = K.graphCommit then (xGraphCommit t).dropPieces s
  else if isGraphKey k then actGraph ((s.hold k).poke k p.v)
  else t

/-- Effects of a tile's objects. -/
def putTile (s : State) (p : Put) : State :=
  let n := p.l.unit
  let t := s.putValue p
  if p.l.row.attr.testBit 0 then actTileStaged n p.index p.sub p.v t
  else match p.index % 16, p.sub with
    | 5, 3 => xBufPeakClear n t
    | 7, 3 => actPadTest n t
    | 7, 8 => xPadClear n t
    | 7, 16 => actTbusSrc (n / 32) p.v t
    | 9, 6 => xIlvReset n t
    | 12, _ => actMonitor n 0 p.sub (s.obj p.key_) p.v t
    | 13, _ => actMonitor n 1 p.sub (s.obj p.key_) p.v t
    | 15, 2 => xSceneEnable n p.v s
    | _, _ => t

/-- Effects of the contexts, the engines and the coefficient sets. -/
def putStream (s : State) (p : Put) : State :=
  let t := s.putValue p
  let u := p.l.unit
  if p.l.row.form = .context then
    match p.sub with
    | 0x1E => xCtxSwap u p.v t
    | 0x1F => xCtxSwap u 0xFFFF t
    | 0x23 => xRingResume u t
    | _ => t
  else if p.l.row.form = .engine then xFeEnable u p.v t
  else if p.l.row.form = .slot then
    match p.l.row.sub with
    | 0x12 => actSlotStaged u p.l.inner 0 8 p.v t
    | 0x14 => actSlotStaged u p.l.inner 12 4 p.v t
    | 0x15 => actSlotStaged u p.l.inner 16 4 p.v t
    | _ => t
  else t

/-- Effects of the lanes, the Store and the arbitration. -/
def putFlow (s : State) (p : Put) : State :=
  let k := p.key_
  let n := p.l.unit
  let t := s.putValue p
  if p.l.row.form = .lane then
    match p.index % 64, p.sub with
    | 0, 1 => xLaneEnable n p.v t
    | 1, 2 => t.judgeDst n
    | 1, 3 => t.judgeDst n
    | 1, 4 => t.judgeDst n
    | 1, 5 => t.judgeDst n
    | 1, 6 => t.judgeDst n
    | 1, 7 => t.judgeDst n
    | 2, 1 => t.judgeDst n
    | 2, 4 => t.judgeDst n
    | 4, 15 => xLaneClear n t
    | _, _ => t
  else if k = K.storeMapMasks then { s with customMasks := p.v }
  else if p.l.row.form = .pseudo && 0x5820 ≤ p.index && p.index < 0x5840 && p.sub = 0x0C then xStorePcClear n t
  else if k = K.arbLiberoN then xLiberoWrite p.v s
  else if k = K.arbClearAll then xClearAll t
  else if k = K.arbSyncClear then xSyncClear t
  else if p.l.row.form = .client && p.sub = 7 then xClientClear n t
  else t

/-- Effects of the configuration, the scrubber and the Backstop. -/
def putLogic (s : State) (p : Put) : State :=
  let k := p.key_
  let t := s.putValue p
  if p.l.row.form = .sector && p.sub = 2 then xSectorReload p.l.unit t
  else if k = K.scrubEnable then xScrubEnable p.v t
  else if k = K.backstopActivate then xActivate t
  else t

/-- Effects of the outputs, the pins, calibration, the probes and the event sources. -/
def putOutput (s : State) (p : Put) : State :=
  let k := p.key_
  let n := p.l.unit
  let t := s.putValue p
  match p.l.row.form with
  | .dac =>
    if p.index % 4 = 0 && p.sub = 1 then xDacEnable n p.v t
    else if p.index % 4 = 2 && p.sub = 3 then xDacClear n t
    else t
  | .pin => if p.sub = 1 then xFuncWrite n p.v s else t
  | .bank => if p.sub = 3 then xBankWrite n p.v t else t
  | .pattern => xPatternWrite n p.sub p.v s
  | .event =>
    (match p.sub with
     | 3 => xEventLatch n p.v s
     | 7 => xEventClear n p.v t
     | _ => xEventRoute n p.sub p.v s)
  | _ =>
    if k = K.probeArm then xProbeArm t
    else if k = K.calCommand then xCalCommand p.v t
    else if k = K.calUnresolvedMap then (s.hold k).poke k p.v
    else t

/-- The write takes effect, and is recorded (R58). -/
def State.put (s : State) (p : Put) : State :=
  let t :=
    if p.index < 0x1400 then putDevice s p
    else if p.index < 0x1800 then putTiming s p
    else if p.index < 0x2800 then putPlan s p
    else if p.index < 0x4000 && 0x3000 ≤ p.index then putTile s p
    else if p.index < 0x5000 then putStream s p
    else if p.index < 0x6000 then putFlow s p
    else if p.index < 0x6400 then putLogic s p
    else putOutput s p
  t.record p.key_ p.cls p.port

/-! ## Byte objects (R66) -/

/-- Whether bytes are UTF-8 (R44), with n continuation bytes still due: the least and the largest value of the next one
(DESIGN CHOICE, log entry 18). -/
def utf8From : List Byte → Nat → Nat → Nat → Bool
  | [], n, _, _ => n == 0
  | b :: bs, 0, _, _ =>
    let x := b.toNat
    if x < 0x80 then utf8From bs 0 0x80 0xBF
    else if x < 0xC2 then false
    else if x < 0xE0 then utf8From bs 1 0x80 0xBF
    else if x < 0xF0 then utf8From bs 2 (if x = 0xE0 then 0xA0 else 0x80) (if x = 0xED then 0x9F else 0xBF)
    else if x < 0xF5 then utf8From bs 3 (if x = 0xF0 then 0x90 else 0x80) (if x = 0xF4 then 0x8F else 0xBF)
    else false
  | b :: bs, n + 1, lo, hi => lo ≤ b.toNat && b.toNat ≤ hi && utf8From bs n 0x80 0xBF

/-- Whether a block write goes to a firmware slot: `versions.mgmt.word_a` or `word_b` (R41). -/
def slotOfKey (k : Nat) : Option Nat :=
  if k = K.versionsMgmtWordA then some 0 else if k = K.versionsMgmtWordB then some 1 else none

/-- Whether it goes to a sequencer (R31, R36). -/
def seqOfKey (k : Nat) : Option Nat :=
  if k = K.versionsSeqWord 0 then some 0 else if k = K.versionsSeqWord 1 then some 1 else none

/-- The longest firmware or sequencer image: 8 MiB (R41) (DESIGN CHOICE, log entry 13). -/
def slotMax : Nat := 8388608

/-- What a block write to an object must meet as it is opened: mode and state (checks 7 and 8 of R59). -/
def State.guardBlock (s : State) (l : Loc) (index sub : Nat) : Res Unit :=
  let k := key index sub
  match slotOfKey k, seqOfKey k with
  | some n, _ => need (n != s.boot.slot || s.mode == mRescue) aBusy 0xFF
  | _, some _ => needMode s [mLoad]
  | _, _ =>
    if k = K.graphProgram then guardGraph s
    else if k = K.configImage then guardImage s
    else if k = K.backstopImage then guardBsImage s
    else if k = K.boardName || k = K.boardUser then guardBoard s
    else if l.row.form = .wave then guardWave s l.unit
    else if l.row.form = .tile && index % 16 = 15 then guardTable s l.unit
    else .ok ()

/-- A block write that has passed its length and CRC is carried out: the object's own checks, then the commit. `true` says that
its completion takes longer and the answer waits for it (R61). A number is written as by WRITE (DESIGN CHOICE, log entry 13). -/
def State.closeBlock (s : State) (l : Loc) (index sub cls port : Nat) (bs : List Byte) : State × Res Bool :=
  let k := key index sub
  let done := fun (r : State × Res Unit) => match r.2 with
    | .ok _ => (r.1.record k cls port, (.ok false : Res Bool))
    | .error e => (r.1, .error e)
  match slotOfKey k, seqOfKey k with
  | some n, _ =>
    (match (do s.guardBlock l index sub; need (wordKind (imageWord bs) == 1) aRange 0) with
     | .ok _ => (s.eraseSlot n, .ok true)
     | .error e => (s, .error e))
  | _, some d =>
    (match (do needMode s [mLoad]; need (wordKind (imageWord bs) == 2) aRange 0) with
     | .ok _ => done (xSequencerWritten d (imageWord bs) s, .ok ())
     | .error e => (s, .error e))
  | _, _ =>
    if k = K.graphProgram then
      (let r := closeProgram cls port bs s
       done (match r.2 with | .ok _ => r.1.dropPieces s | .error _ => r.1, r.2))
    else if k = K.configImage then done (closeImage bs s)
    else if k = K.backstopImage then
      (let r := closeBsImage bs s
       match r.2 with
       | .ok _ => (r.1.record k cls port, .ok true)
       | .error e => (r.1, .error e))
    else if k = K.boardName then
      done (match (do need (utf8From bs 0 0x80 0xBF) aRange 0; guardBoard s) with
        | .ok _ => (s.setBlob (stagedBlob k) bs, .ok ())
        | .error e => (s, .error e))
    else if k = K.boardUser then
      done (match guardBoard s with
        | .ok _ => (s.setBlob (stagedBlob k) bs, .ok ())
        | .error e => (s, .error e))
    else if l.row.form = .wave && isBlob l.row then
      done (match guardWave s l.unit with
        | .ok _ => (actWave l.unit bs s, .ok ())
        | .error e => (s, .error e))
    else if l.row.form = .tile && isBlob l.row then
      done (match guardTable s l.unit with
        | .ok _ => (s.putTable l.unit bs, .ok ())
        | .error e => (s, .error e))
    else
      let p : Put := ⟨l, index, sub, ofLE bs, cls, port⟩
      match (do checkRange l.row p.v; s.guardPut p) with
      | .ok _ => (s.put p, .ok false)
      | .error e => (s, .error e)

end Sys2Proof.Machine
end

