-- ==== Sys2Proof/Machine/Umzin.lean ====
section
/-! DEFINITION. Umzin at the access point (03_object_dictionary.md, R42 to R73): what happens to a request on its way there, the
operations, and how ports give responses and notifications to their hosts. -/

namespace Sys2Proof.Machine

/-! ## The trace and the counters (R72, R73) -/

/-- The transfer that a message names on its port (R65). -/
def State.transferNamed (s : State) (q : Req) : Option Transfer :=
  s.transfers.find? (fun x => x.id == q.transfer && x.port == q.port)

/-- Whether a request reads the trace itself, by READ or by a block read (R72) (DESIGN CHOICE, log entry 16). -/
def State.readsTrace (s : State) (q : Req) (op : Op) : Bool :=
  match op with
  | .read => q.index == 0x1110
  | .blockOpen => q.index == 0x1110 && leAt q.body 0 1 == 0
  | .blockSegment | .blockClose | .blockAbort =>
    (match s.transferNamed q with | some x => x.obj == K.portsTrace && !x.writing | none => false)
  | _ => false

/-- The 32 bytes of an access record (R72). -/
def traceRecord (t port cls op index sub seq abort : Nat) : List Byte :=
  toLE 12 t ++ toLE 1 port ++ toLE 1 cls ++ toLE 1 op ++ toLE 1 sub ++ toLE 2 index ++ toLE 2 abort ++ toLE 2 seq ++
    List.replicate 10 0

/-- The newest 2,048 records, with a request that arrived at TIME96 t, in 2^-16 ns. -/
def State.traced (s : State) (t : Nat) (q : Req) (op : Op) (abort : Nat) : State :=
  let xs := s.trace ++ [traceRecord (time96 t) q.port (s.classOf q.port) (opcode op) q.index q.sub q.seq abort]
  { s with trace := xs.drop (xs.length - 2048) }

/-- A response with an abort code counts (R73). -/
def State.tallyAbort (s : State) (port code : Nat) : State :=
  if code = 0 then s else (s.tally (K.portsPortAborts port) 64 1).set (K.portsPortLastAbort port) code

/-! ## The duplicate cache (R63) -/

/-- Whether a port keeps a duplicate cache now: the management port and lanes in Ethernet role. -/
def State.caches (s : State) (p : Nat) : Bool := p == 3 || (16 ≤ p && p < 32 && s.ethernet (p - 16))

/-- Keep a response: the last 16 of each source. -/
def State.remember (s : State) (q : Req) (op : Op) (bytes : List Byte) : State :=
  if !s.caches q.port then s
  else
    let x := s.portState q.port
    let same := x.cache.filter (fun e => e.src == q.src && e.seq != q.seq)
    let rest := x.cache.filter (fun e => e.src != q.src)
    s.setPort q.port { x with cache := rest ++ same.drop (same.length - 15) ++
      [⟨q.src, q.seq, opcode op, q.index, q.sub, s.clock, bytes⟩] }

/-- The kept response that a request repeats: same source, sequence, opcode, index and subindex within 1 s. -/
def State.repeats (s : State) (q : Req) (op : Op) : Option CachedReply :=
  if !s.caches q.port then none
  else (s.portState q.port).cache.find? (fun e => e.src == q.src && e.seq == q.seq && e.op == opcode op &&
    e.index == q.index && e.sub == q.sub && decide (s.clock ≤ e.time + perS))

/-- A message with DUPLICATE set (R52). -/
def withDuplicate (bs : List Byte) : List Byte := bs.set 3 ((bs.getD 3 0) ||| 8)

/-! ## Answering -/

/-- Send the response of a request, with its trace record, its counters and its place in the cache. -/
def State.conclude (s : State) (q : Req) (op : Op) (r : Res Answer) (quiet : Bool) : State :=
  let code := match r with | .ok _ => 0 | .error e => e.code
  let m := s.response q op r
  let s := if quiet then s else s.traced (s.timeAt q.came) q op code
  ((s.tallyAbort q.port code).remember q op m).respond q.port q.src m

/-- A request whose completion takes longer keeps its place among the responses of its port (R57, R61). -/
def State.keepPlace (s : State) (q : Req) (op : Op) : State :=
  if isQueued q.port then
    let x := s.portState q.port
    s.setPort q.port { x with responses := x.responses ++ [[]], order := x.order ++ [true] }
  else s.remember q op []

/-- Put bytes in the place of empty answer r of a list. -/
def fillPlace (bytes : List Byte) : Nat → List (List Byte) → List (List Byte)
  | _, [] => []
  | 0, [] :: xs => bytes :: xs
  | n + 1, [] :: xs => [] :: fillPlace bytes n xs
  | n, x :: xs => x :: fillPlace bytes n xs

/-- The request that closed a waiting transfer: its header stands in `next` (index and subindex) and `crc` (type). -/
def Transfer.close (x : Transfer) (t : Nat) : Req :=
  ⟨t, x.port, x.src, 0x10, x.seq, x.next / 256, x.next % 256, x.crc, x.id, [], t, 0⟩

/-- The completion of a BLOCK_CLOSE that waited: its response leaves, and the transfer is no longer open (R61). -/
def State.answerHeld (s : State) (x : Transfer) (r : Res Unit) : State :=
  let q := x.close s.clock
  let res : Res Answer := match r with | .ok _ => .ok ⟨[], q.ty, x.id⟩ | .error e => .error e
  let code := match r with | .ok _ => 0 | .error e => e.code
  let m := s.response q .blockClose res
  let rank := ((s.transfers.filter (fun y => y.waiting && y.port == x.port)).takeWhile (fun y => y.id != x.id)).length
  let s : State := { s with transfers := s.transfers.filter (fun y => y.id != x.id) }
  let s := (s.traced x.arrived q .blockClose code).tallyAbort x.port code
  if isQueued x.port then
    let y := s.portState x.port
    s.setPort x.port { y with responses := fillPlace m rank y.responses }
  else (s.remember q .blockClose m).respond x.port x.src m

/-! ## READ, WRITE, RMW, READ_META (R58 to R60) -/

/-- The outcome of an operation: `none` where the answer waits for a completion. -/
abbrev Outcome_ := State × Option (Res Answer)

/-- An operation that failed a check leaves every object as it was (R59). -/
def failed (s : State) (e : Abort) : Outcome_ := (s, some (.error e))

/-- An operation that is answered at once. -/
def done (s : State) (body : List Byte) (ty transfer : Nat) : Outcome_ := (s, some (.ok ⟨body, ty, transfer⟩))

/-- Reads that also act: the sources for overrange and clipping may be raised again (R128, R141). -/
def State.afterRead (s : State) (l : Loc) (index sub : Nat) : State :=
  if l.row.form = .tile && l.row.sub = sub then
    (match index % 16, sub with
     | 0, 8 => afterReadOver l.unit s
     | 8, 8 => afterReadClip l.unit s
     | _, _ => s)
  else s

/-- The checks of a READ. -/
def checkRead (s : State) (q : Req) : Res Loc := do
  let l ← s.checkObject q mayRead true (fun _ => true)
  need (q.body.isEmpty && (l.row.size ≤ 1024 || l.row.ty == .text)) aLength l.row.size
  guardRallyLane s l
  .ok l

/-- READ (R60). -/
def opRead (q : Req) (s : State) : Outcome_ :=
  match checkRead s q with
  | .error e => failed s e
  | .ok l => done (s.afterRead l q.index q.sub) (s.readBytes l q.port q.index q.sub) l.row.ty.code 0

/-- BUSY while a block write is open on an object, with its port (R67). -/
def State.noWriter (s : State) (k : Nat) : Res Unit :=
  match s.transfers.find? (fun x => x.writing && x.obj == k) with
  | some x => .error ⟨aBusy, x.port⟩
  | none => .ok ()

/-- The value that a WRITE brings. -/
def State.putOf (s : State) (q : Req) (l : Loc) (v : Nat) : Put := ⟨l, q.index, q.sub, v, s.classOf q.port, q.port⟩

/-- Quadrant power is the Placer's alone: writes end with NOT_IN_MODE (R101), whatever the class (DEDUCED, log entry 11). -/
def guardQuadrants (s : State) (q : Req) : Res Unit := need (key q.index q.sub != K.placerQuadrants) aMode s.mode

/-- The checks of a WRITE, in the order of R59 (DESIGN CHOICE, log entry 18). -/
def checkWrite (s : State) (q : Req) : Res Loc := do
  guardQuadrants s q
  let l ← s.checkObject q mayWrite false (fun _ => true)
  checkLength l.row q.body.length
  if l.row.ty = .text then
    need (utf8From q.body 0 0x80 0xBF) aRange 0
    guardBoard s
  else
    checkRange l.row (ofLE q.body)
    s.guardPut (s.putOf q l (ofLE q.body))
  s.noWriter (key q.index q.sub)
  .ok l

/-- WRITE (R60). -/
def opWrite (q : Req) (s : State) : Outcome_ :=
  match checkWrite s q with
  | .error e => failed s e
  | .ok l =>
    let k := key q.index q.sub
    let t := if l.row.ty = .text then (s.setBlob (stagedBlob k) q.body).record k (s.classOf q.port) q.port
      else s.put (s.putOf q l (ofLE q.body))
    done t [] l.row.ty.code 0

/-- The old and the new value of an RMW on n bytes (R60). -/
def State.rmwValues (s : State) (q : Req) (l : Loc) : Nat × Nat :=
  let n := l.row.size
  let old := ofLE (s.readBytes l q.port q.index q.sub)
  (old, rmwValue n old (leAt q.body 0 n) (leAt q.body n n))

/-- The checks of an RMW. -/
def checkRmw (s : State) (q : Req) : Res Loc := do
  guardQuadrants s q
  let l ← s.checkObject q mayBoth false rmwAllowed
  need (q.body.length == 2 * l.row.size) aLength l.row.size
  let v := (s.rmwValues q l).2
  checkRange l.row v
  s.guardPut (s.putOf q l v)
  s.noWriter (key q.index q.sub)
  .ok l

/-- RMW (R60): old value, then new value. -/
def opRmw (q : Req) (s : State) : Outcome_ :=
  match checkRmw s q with
  | .error e => failed s e
  | .ok l =>
    let v := s.rmwValues q l
    done (s.put (s.putOf q l v.2)) (toLE l.row.size v.1 ++ toLE l.row.size v.2) l.row.ty.code 0

/-- Whether a type's metadata give default, minimum and maximum (R58). -/
def Ty.bounded : Ty → Bool
  | .octets | .text => false
  | _ => true

/-- Whether the table names a source in place of a number as an object's default: the variant, the image, the boot, the die, the board
store, the factory or a measurement; what stands there is its default (DEDUCED, log entry 12). -/
def sourced (k : Nat) : Bool :=
  k / 256 < 0x100 || (k / 256 = 0x1200 && k % 256 ≠ 5) || k / 256 = 0x1201 || (k / 256 = 0x1202 && k % 256 ≠ 1) ||
  k == K.versionsMajors || k == K.portsDebugStrap || k == K.portsWhoami || (0x1120 ≤ k / 256 && k / 256 ≤ 0x1140 && k % 256 = 1) ||
  k == K.deviceResetCause || k == K.deviceBootMs || k == K.timeRefclkFreq || k == K.rallyMember || k == K.placerAlgorithm ||
  k == K.placerDefectCount || k == K.storeTemp || k == K.storeRepaired || k / 256 = 0x6100 || k / 256 = 0x6101 ||
  keyIn 0x7000 768 [3, 4] k || (0x5000 ≤ k / 256 && k / 256 < 0x5400 && k / 256 % 64 = 1 && (k % 256 = 1 || k % 256 = 8)) ||
  k == K.portsMgmtMac || k == K.portsMgmtLinkLocal || (0x6400 ≤ k / 256 && k / 256 < 0x6480 && k / 256 % 4 = 3 && k % 256 = 3)

/-- The metadata of an entry (R58). -/
def State.metadata (s : State) (l : Loc) (port index sub : Nat) : List Byte :=
  let k := key index sub
  let w := s.writer k
  let r := l.row
  let pend := s.isPending k || (s.blob (stagedBlob k)).isSome
  let attr := r.attr % 2 + (if r.attr % 2 = 1 && pend then 2 else 0) + (r.attr / 4 % 4) * 4
  let dflt := if sub = 0 then r.dflt else if k = K.deviceMode then mLoad
    else if sourced k && !(keyIn 0x7000 768 [3, 4] k) then s.value port index sub else defaultOf s.variant k
  let top := if r.ty = .time96 then withBits (2 ^ 96 - 1) 47 16 999999999 else r.ty.encode r.hi
  toLE 1 r.ty.code ++ toLE 1 (accessOf l) ++ toLE 1 attr ++ toLE 1 w.cls ++ toLE 1 w.port ++ toLE 3 0 ++
    toLE 12 (if w.cls = 0 then 0 else time96 w.time) ++ toLE 4 w.count ++ toLE 4 r.size ++
    (if r.ty.bounded then toLE r.size dflt ++ toLE r.size (r.ty.encode r.lo) ++ toLE r.size top else [])

/-- The checks of a READ_META: any right of the class (R53). -/
def checkMeta (s : State) (q : Req) : Res Loc := do
  let l ← s.checkObject q (fun acc cls => rightOf acc cls != 0) true (fun _ => true)
  need q.body.isEmpty aLength l.row.size
  .ok l

/-- READ_META (R58). -/
def opReadMeta (q : Req) (s : State) : Outcome_ :=
  match checkMeta s q with
  | .error e => failed s e
  | .ok l => done s (s.metadata l q.port q.index q.sub) l.row.ty.code 0

/-! ## Block transfers (R65 to R67) -/

/-- The largest segment of a port: 1,024 bytes on the management port, JTAG and peer lanes, 8,192 elsewhere (R65). -/
def State.segmentLimit (s : State) (p : Nat) : Nat :=
  if p = 3 || p = 32 || (16 ≤ p && p < 32 && !s.ethernet (p - 16)) then 1024 else 8192

/-- Whether a total length suits an object that is written (R65). -/
def totalFits (r : Row) (k total : Nat) : Bool :=
  if (slotOfKey k).isSome || (seqOfKey k).isSome then 0 < total && total ≤ slotMax
  else if k = K.graphProgram || k = K.configImage || (r.form = .wave && isBlob r) then 0 < total && total ≤ r.size
  else if r.ty = .text then total ≤ r.size
  else total == r.size

/-- The declared size that the detail word of LENGTH names. -/
def declared (r : Row) (k : Nat) : Nat := if (slotOfKey k).isSome || (seqOfKey k).isSome then slotMax else r.size

/-- Whether an access needs the management client of the Store switch (R275): programs, images, waveforms and captures. -/
def usesStore (k : Nat) : Bool :=
  k == K.configImage || k == K.graphProgram || k == K.probeData || (0x6490 ≤ k / 256 && k / 256 < 0x64A0 && k % 256 == 1)

/-- A RED management client carries out nothing: FAULT, with the source that reported its card (R275). -/
def State.storeAnswers (s : State) : Res Unit :=
  need (!s.clientRed 46) aFault (577 + 2 * (s.obj K.arbRedLast % 256))

/-- The rights of a BLOCK_OPEN: a firmware or sequencer image is written by BENCH alone (R31, R41). -/
def blockRight (k dir : Nat) (acc cls : Nat) : Bool :=
  if dir = 1 then (if (slotOfKey k).isSome || (seqOfKey k).isSome then cls == 1 else mayWrite acc cls) else mayRead acc cls

/-- The checks of a BLOCK_OPEN, in the order of R59 (DEDUCED, log entry 12). -/
def checkOpen (s : State) (q : Req) : Res Loc := do
  let dir := leAt q.body 0 1
  let seg := leAt q.body 2 2
  let k := key q.index q.sub
  let l ← s.checkObject q (blockRight k dir) true (fun _ => true)
  need (q.body.length == 12) aLength 12
  need (dir != 1 || totalFits l.row k (leAt q.body 4 4)) aLength (declared l.row k)
  need (dir ≤ 1) aRange 1
  need (64 ≤ seg && seg ≤ 8192 && seg % 64 == 0) aRange (max 64 (min 8192 (seg / 64 * 64)))
  guardRallyLane s l
  if dir = 1 then
    s.guardBlock l q.index q.sub
    s.noWriter k
  else .ok ()
  need ((s.transfers.filter (fun x => x.port == q.port)).length < 4) aFull 4
  need (s.transfers.length < 16) aFull 16
  if usesStore k then s.storeAnswers else .ok ()
  .ok l

/-- BLOCK_OPEN (R65). -/
def opBlockOpen (q : Req) (s : State) : Outcome_ :=
  match checkOpen s q with
  | .error e => failed s e
  | .ok l =>
    let writing := leAt q.body 0 1 == 1
    let granted := min (leAt q.body 2 2) (s.segmentLimit q.port)
    let snap := if writing then [] else s.readBytes l q.port q.index q.sub
    let total := if writing then leAt q.body 4 4 else snap.length
    let crc := if writing then leAt q.body 8 4 else crc32 snap
    let (id, s) := s.newId (s.transfers.map (·.id))
    let x : Transfer := ⟨id, q.port, q.src, q.seq, key q.index q.sub, writing, granted, total, crc, snap, 0, s.clock, false, 0⟩
    let t : State := { s with transfers := s.transfers ++ [x], silenced := s.silenced.filter (fun e => e.1 != id) }
    done (if writing then t else t.afterRead l q.index q.sub)
      (toLE 2 id ++ toLE 2 granted ++ toLE 4 total ++ toLE 4 (if writing then 0 else crc)) l.row.ty.code id

/-- The transfer of a BLOCK_SEGMENT, BLOCK_CLOSE or BLOCK_ABORT (R65, R66). A transfer whose close still runs is BUSY. -/
def State.openTransfer (s : State) (q : Req) : Res Transfer :=
  match s.transferNamed q with
  | some x => if x.waiting then .error ⟨aBusy, x.port⟩ else .ok x
  | none =>
    match s.silenced.find? (fun e => e.1 == q.transfer && e.2.1 == q.port) with
    | some e => .error ⟨aTimeout, min 4294967295 ((s.clock - e.2.2) / perUs)⟩
    | none => badRange

/-- Put a transfer in place of the one with its id; end one. -/
def State.putTransfer (s : State) (x : Transfer) : State :=
  { s with transfers := s.transfers.map (fun y => if y.id = x.id then x else y) }
def State.endTransfer (s : State) (id : Nat) : State :=
  { s with transfers := s.transfers.filter (fun y => y.id != id) }

/-- An open transfer over the Store ends with FAULT once the management client is RED (R275). -/
def State.storeCut (s : State) (x : Transfer) : Option Abort :=
  if usesStore x.obj then (match s.storeAnswers with | .error e => some e | .ok _ => none) else none

/-- The checks of a request on the transfer that it names, before the transfer itself is looked at: rights of the arrival class as it
stands and type (R6, R59). A firmware or sequencer image is BENCH's (R31, R41). -/
def checkTransfer (s : State) (q : Req) (x : Transfer) : Res Unit :=
  match s.find (x.obj / 256) (x.obj % 256) with
  | .error e => .error e
  | .ok l => do
    need (blockRight x.obj (ofBool x.writing) (accessOf l) (s.classOf q.port)) aDenied (accessOf l)
    need (q.ty == l.row.ty.code || q.ty == 0) aType l.row.ty.code

/-- The transfer of a BLOCK_SEGMENT, BLOCK_CLOSE or BLOCK_ABORT, after the checks of R59 in their order: rights and type, the length of
the body, the transfer (R65, R66). A transfer whose close still runs is BUSY (DESIGN CHOICE, log entry 13). -/
def State.blockTarget (s : State) (q : Req) (len : Transfer → Res Unit) (least : Res Unit) : Res Transfer := do
  match s.transferNamed q with
  | some x => (do checkTransfer s q x; len x)
  | none => least
  s.openTransfer q

/-- A segment of a write: the next number expected, at most the granted size. -/
def segmentWrite (q : Req) (x : Transfer) (s : State) : Outcome_ :=
  let s := s.putTransfer { x with last := s.clock }
  let n := leAt q.body 0 4
  if n ≠ x.next then failed s ⟨aSequence, x.next⟩
  else done (s.putTransfer { x with last := s.clock, next := x.next + 1, data := x.data ++ q.body.drop 4 }) [] q.ty x.id

/-- A segment of a read: the number asked for, and its data. -/
def segmentRead (q : Req) (x : Transfer) (s : State) : Outcome_ :=
  let s := s.putTransfer { x with last := s.clock }
  let n := leAt q.body 0 4
  let top := (x.total - 1) / x.segment
  if top < n then failed s ⟨aRange, top⟩
  else done s (toLE 4 n ++ (x.data.drop (n * x.segment)).take x.segment) q.ty x.id

/-- The length of a BLOCK_SEGMENT body: a number alone in a read, a number and at most the granted size in a write (R65). -/
def segmentLength (q : Req) (x : Transfer) : Res Unit :=
  if x.writing then (do
    need (4 ≤ q.body.length) aLength 4
    need (q.body.length - 4 ≤ x.segment) aLength x.segment)
  else need (q.body.length == 4) aLength 4

/-- BLOCK_SEGMENT (R65) (DESIGN CHOICE, log entry 13). -/
def opBlockSegment (q : Req) (s : State) : Outcome_ :=
  match s.blockTarget q (segmentLength q) (need (4 ≤ q.body.length) aLength 4) with
  | .error e => failed s e
  | .ok x =>
    match s.storeCut x with
    | some e => failed (s.endTransfer x.id) e
    | none => if x.writing then segmentWrite q x s else segmentRead q x s

/-- The checks of a BLOCK_CLOSE on the bytes received: length, then CRC-32 (R66). -/
def checkBytes (x : Transfer) : Res Unit := do
  need (x.data.length == x.total) aLength x.data.length
  need (crc32 x.data == x.crc) aRange (crc32 x.data)

/-- The close of a write (R66): a failed check leaves the object unchanged and ends the transfer. -/
def closeWrite (q : Req) (x : Transfer) (s : State) : Outcome_ :=
  let t := s.endTransfer x.id
  match checkBytes x with
  | .error e => failed t e
  | .ok _ =>
    match t.find (x.obj / 256) (x.obj % 256) with
    | .error e => failed t e
    | .ok l =>
      match t.closeBlock l (x.obj / 256) (x.obj % 256) (s.classOf x.port) x.port x.data with
      | (u, .error e) => failed u e
      | (u, .ok false) => done u [] q.ty x.id
      | (u, .ok true) =>
        let y : Transfer := { x with waiting := true, seq := q.seq, src := q.src, next := key q.index q.sub, crc := q.ty,
                                     arrived := s.timeAt q.came }
        ({ u with transfers := u.transfers ++ [y] }, none)

/-- BLOCK_CLOSE (R66) (DESIGN CHOICE, log entry 13). -/
def opBlockClose (q : Req) (s : State) : Outcome_ :=
  match s.blockTarget q (fun _ => need q.body.isEmpty aLength 0) (need q.body.isEmpty aLength 0) with
  | .error e => failed s e
  | .ok x =>
    match s.storeCut x with
    | some e => failed (s.endTransfer x.id) e
    | none => if x.writing then closeWrite q x s else done (s.endTransfer x.id) [] q.ty x.id

/-- BLOCK_ABORT (R66) (DESIGN CHOICE, log entry 13). -/
def opBlockAbort (q : Req) (s : State) : Outcome_ :=
  match s.blockTarget q (fun _ => need q.body.isEmpty aLength 0) (need q.body.isEmpty aLength 0) with
  | .error e => failed s e
  | .ok x => done (s.endTransfer x.id) [] q.ty x.id

/-- BLOCK_TRANSFER_SILENCE (R66): 2 s without a message (DEDUCED, log entry 12). -/
def xTransferSilence (id : Nat) (s : State) : State :=
  match s.transfers.find? (fun x => x.id == id && !x.waiting) with
  | none => s
  | some x =>
    if s.clock < x.last + 2 * perS then s
    else { s.endTransfer id with silenced := s.silenced ++ [(id, x.port, x.last)] }

/-- FIRMWARE_SLOT_PROGRAMMED (R41): the transfer that programs the slot is answered. -/
def xSlotProgrammed (slot : Nat) (ok : Bool) (s : State) : State :=
  match s.transfers.find? (fun x => x.waiting && x.obj == slotWordKey slot) with
  | none => s
  | some x =>
    let t := s.finishSlot slot x.data ok
    (if ok then t.record x.obj (s.classOf x.port) x.port else t).answerHeld x (if ok then .ok () else .error ⟨aFault, 747⟩)

/-- BACKSTOP_PROGRAMMED (R302): the transfer that programs the array is answered. A read-back that fails ends it with FAULT. -/
def xArrayProgrammed (ok : Bool) (s : State) : State :=
  let t := xBackstopProgrammed ok s
  match t.transfers.find? (fun x => x.waiting && x.obj == K.backstopImage) with
  | none => t
  | some x => t.answerHeld x (if ok then .ok () else .error ⟨aFault, 748⟩)

/-! ## Subscriptions (R68) -/

/-- The lease in s of a SUBSCRIBE body. -/
def State.leaseOf (s : State) (v : Nat) : Nat := if v = 0 then s.obj K.portsLeaseDefault else v

/-- Whether an event node's units are present: a source by its variant (R404). -/
def State.hasNode (s : State) (n : Nat) : Bool := 0x300 ≤ n || s.hasSource n

/-- The checks of a SUBSCRIBE, in the order of R59: what it subscribes to (DEDUCED, log entry 12). -/
def checkSubscribe (s : State) (q : Req) : Res Nat := do
  let kind := leAt q.body 0 1
  let node := leAt q.body 4 2
  let lease := leAt q.body 8 2
  let target ← (if kind = 1 then (do
      need (0x300 ≤ node || s.hasNode node) aAbsent (0x110000 + node)
      need (mayRead 0x51 (s.classOf q.port)) aDenied 0x51
      .ok node)
    else (do
      let l ← s.checkObject q mayRead false (fun _ => true)
      need (l.row.size ≤ 8176) aLength l.row.size
      guardRallyLane s l
      .ok (key q.index q.sub)) : Res Nat)
  need (q.body.length == 10) aLength 10
  need (kind ≤ 1) aRange 1
  need (leAt q.body 1 1 ≤ 3) aRange 3
  need (kind == 0 || node ≤ 0x348) aRange 0x348
  need (lease == 0 || (10 ≤ lease && lease ≤ 3600)) aRange (max 10 (min 3600 lease))
  .ok target

/-- The subscription that a SUBSCRIBE repeats (R68). -/
def State.sameSub (s : State) (q : Req) (target : Nat) : Option Subscription :=
  s.subs.find? (fun x => x.port == q.port && x.src == q.src && x.isNode == (leAt q.body 0 1 == 1) && x.target == target &&
    ofBool x.onChange + 2 * ofBool x.periodic == leAt q.body 1 1 && x.interval == leAt q.body 2 2)

/-- SUBSCRIBE (R68): a repeat restarts the lease; leases hold on UDP alone. -/
def opSubscribe (q : Req) (s : State) : Outcome_ :=
  match checkSubscribe s q with
  | .error e => failed s e
  | .ok target =>
    let ends := if isUdp q.port then s.clock + s.leaseOf (leAt q.body 8 2) * perS else 0
    match s.sameSub q target with
    | some x => done (s.putSub { x with lease := leAt q.body 8 2, leaseEnd := ends }) (toLE 2 x.id) q.ty x.id
    | none =>
      if 32 ≤ (s.subs.filter (fun x => x.port == q.port)).length then failed s ⟨aFull, 32⟩
      else if 256 ≤ s.subs.length then failed s ⟨aFull, 256⟩
      else
        let node := leAt q.body 0 1 == 1
        let flags := leAt q.body 1 1
        let (id, s) := s.newId (s.subs.map (·.id))
        let x : Subscription := ⟨id, q.port, q.src, node, target, flags % 2 == 1, 2 ≤ flags, leAt q.body 2 2,
          leAt q.body 8 2, ends, 0, 0, false, none, if node then 0 else (s.writer target).time, none⟩
        done ({ s with subs := s.subs ++ [x] } : State) (toLE 2 id) q.ty id

/-- UNSUBSCRIBE (R68). -/
def opUnsubscribe (q : Req) (s : State) : Outcome_ :=
  if !q.body.isEmpty then failed s ⟨aLength, 0⟩
  else if s.subs.any (fun x => x.id == q.transfer && x.port == q.port) then
    done { s with subs := s.subs.filter (fun x => x.id != q.transfer) } [] q.ty q.transfer
  else failed s ⟨aRange, 0⟩

/-- SUBSCRIPTION_LEASE_EXPIRY (R68): subscriptions on UDP end with their lease. -/
def xLeaseExpiry (id : Nat) (s : State) : State :=
  { s with subs := s.subs.filter (fun x => !(x.id == id && isUdp x.port && x.leaseEnd ≤ s.clock)) }

/-- PERIODIC_NOTICE (R68, R69): whether or not anything has changed; an object's notice takes along the changes coalesced so
far, an event node's repeats the latest record with a count of 0. -/
def xPeriodicNotice (id : Nat) (s : State) : State :=
  match s.subs.find? (fun x => x.id == id && x.periodic) with
  | none => s
  | some x =>
    let due := match x.lastSent with | some t => decide (t + max 1 x.interval * perMs ≤ s.clock) | none => true
    if !due || !s.subFree x then s
    else if x.isNode then
      let y : Subscription := { x with seq := (x.seq + 1) % 4294967296 }
      (s.putSub { y with lastSent := some s.clock }).sendNotice x.port x.src (s.notice y 0)
    else s.sendSub x (x.coalesced - 1)

/-! ## REPLAY (R70) -/

/-- The checks of a REPLAY: classes, length, those of R70, and the Store's client. -/
def checkReplayRequest (s : State) (q : Req) : Res (Nat × Nat) := do
  need (s.classOf q.port == 1 || s.classOf q.port == 2) aDenied 0
  need (q.body.length == 16) aLength 16
  let r ← checkReplay s q.body
  s.storeAnswers
  .ok r

/-- REPLAY (R70). -/
def opReplay (q : Req) (s : State) : Outcome_ :=
  match checkReplayRequest s q with
  | .error e => failed s e
  | .ok r =>
    let t := s.startReplay q.body r.1 r.2 q.port q.src
    done t.1 (toLE 8 r.1 ++ toLE 4 r.2) 0 t.2

/-! ## The way to the access point (R49, R50, R57, R63, R64) -/

/-- What an operation does. -/
def carry (op : Op) (q : Req) (s : State) : Outcome_ :=
  match op with
  | .read => opRead q s
  | .write => opWrite q s
  | .rmw => opRmw q s
  | .readMeta => opReadMeta q s
  | .blockOpen => opBlockOpen q s
  | .blockSegment => opBlockSegment q s
  | .blockClose => opBlockClose q s
  | .blockAbort => opBlockAbort q s
  | .subscribe => opSubscribe q s
  | .unsubscribe => opUnsubscribe q s
  | .replay => opReplay q s

/-- The indices reached in RESCUE: the Layout Table header and the version objects (R40). -/
def rescueReach (index : Nat) : Bool := index == 0 || (0x1200 ≤ index && index ≤ 0x1203)

/-- In RESCUE only the Layout Table header, the version objects and slot writing are reached (R40). -/
def State.rescueBars (s : State) (q : Req) (op : Op) : Bool :=
  s.mode == mRescue && match op with
    | .blockSegment | .blockClose | .blockAbort => false
    | .read | .write | .rmw | .readMeta | .blockOpen => !rescueReach q.index
    | .subscribe => leAt q.body 0 1 == 1 || !rescueReach q.index
    | .unsubscribe => !(s.subs.any (fun x => x.id == q.transfer && x.port == q.port && !x.isNode && rescueReach (x.target / 256)))
    | .replay => true

/-- A slave port discards what it cannot take (R55, R57). -/
def State.reject (s : State) (p : Nat) : State := (s.setPort p { s.portState p with reject := true }).dropped p

/-- A received request as a frame on an Ethernet port. -/
def State.arrive (s : State) (q : Req) : State :=
  if s.caches q.port && s.portUp q.port then
    s.rxFrame q.port ((if q.src / 65536 < 4294967296 then 62 else 82) + q.body.length)
  else s

/-- The abort with which a request ends in the queue (R64): BUSY when it comes while 64 wait, or 16 from its own port; TIMEOUT, with the
time waited in µs, when it has waited more than 10 ms. -/
def State.queueAbort (s : State) (q : Req) : Option Abort :=
  if 64 ≤ s.aheadOf q false || 16 ≤ s.aheadOf q true then some ⟨aBusy, 0xFF⟩
  else if 10 * perMs < q.at_ - q.came then some ⟨aTimeout, min ((q.at_ - q.came) / perUs) 4294967295⟩
  else none

/-- What becomes of a request that never reaches the access point: no port that answers, or another UDP port (nothing), a closed
port (dropped), a full slave port (REJECT), a repeat within 1 s (the kept response again), a full queue (BUSY), a wait of more than
10 ms (TIMEOUT). `none`: it goes on. -/
def State.turnedAway (s : State) (q : Req) (op : Op) : Option State :=
  if !s.answers q.port || (s.caches q.port && q.dport != s.obj K.portsUdpPort) then some s
  else if s.portClosed q.port then some (if q.port = 32 then s else s.dropped q.port)
  else if isQueued q.port && 16 ≤ s.heldAt q then some (s.reject q.port)
  else match s.repeats q op with
    | some e => some (if e.bytes.isEmpty then s
        else (if s.readsTrace q op || leAt e.bytes 12 2 = aFormat then s
            else s.traced (s.timeAt q.came) q op (leAt e.bytes 12 2)).respond q.port q.src (withDuplicate e.bytes))
    | none =>
      match s.queueAbort q with
      | some e => some ((s.conclude q op (.error e) (s.readsTrace q op)).raise 763 q.port)
      | none => none

/-- Whether an accepted operation resets the device (R102): a write of `device.reset`. -/
def State.resets (s : State) (q : Req) (op : Op) : Bool :=
  match op with
  | .write => key q.index q.sub == K.deviceReset
  | .blockClose => (match s.transferNamed q with | some x => x.writing && x.obj == K.deviceReset | none => false)
  | _ => false

/-- A request at the access point (R59, R61): carried out and answered. -/
def State.serve (s : State) (q : Req) (op : Op) : State :=
  let s := s.leaveQueue q
  let quiet := s.readsTrace q op
  if q.version / 16 ≠ 1 then s.conclude q op (.error ⟨aFormat, 0x10⟩) true
  else
    let s := s.tally (K.portsPortRequests q.port) 64 1
    if s.rescueBars q op then s.conclude q op (.error ⟨aMode, mRescue⟩) quiet
    else
      let again := s.resets q op
      match carry op q s with
      | (t, none) => t.keepPlace q op
      | (t, some r) =>
        let u := t.conclude q op r quiet
        if again && r.toBool then u.warmReset 1 else u

/-- A request from its arrival on. -/
def State.request (s : State) (q : Req) (op : Op) : State :=
  let s := s.showQueue.arrive q
  match s.turnedAway q op with
  | some t => t
  | none => s.serve q op

/-- REQUEST_QUEUE_TIMEOUT (R64): a request that has waited more than 10 ms is answered as it is turned away; one that has waited less
goes on waiting. -/
def xQueueTimeout (q : Req) (op : Op) (s : State) : State :=
  if q.at_ ≤ q.came + 10 * perMs then s
  else
    let s := s.showQueue.arrive q
    match s.turnedAway q op with
    | some t => t
    | none => s

/-! ## Messages that are dropped (R50, R52, R54 to R56, R59) -/

/-- A field of n bytes at a place in a message, or a free value where the message ends before it (DESIGN CHOICE, log entries 2 and 16). -/
def fieldOr (bytes : List Byte) (i n other : Nat) : Nat := if i + n ≤ bytes.length then leAt bytes i n else other % 2 ^ (8 * n)

/-- A message that is not well formed on a port that answers: FORMAT, with the sequence, index, subindex, type and transfer that its
header holds and its opcode with bit 7 set (R51, R59) (DESIGN CHOICE, log entry 16). -/
def State.answerFormat (s : State) (port src : Nat) (bytes : List Byte) : State :=
  let a := s.draw 60
  let b := a.2.draw 61
  let body := toLE 4 0x10 ++ abortText aFormat
  let m := header (128 + fieldOr bytes 2 1 a.1 % 128) s.answerFlags (fieldOr bytes 4 2 b.1) body.length
    (fieldOr bytes 8 2 (b.1 / 65536)) (fieldOr bytes 10 1 (b.1 / 4294967296)) (fieldOr bytes 11 1 (b.1 / 1099511627776)) aFormat
    (fieldOr bytes 14 2 (b.1 / 281474976710656)) ++ body
  (b.2.tallyAbort port aFormat).respond port src m

/-- MESSAGE_DROPPED (DESIGN CHOICE, log entry 16). -/
def xMessageDropped (port src : Nat) (reason : Drop) (bytes : List Byte) (s : State) : State :=
  if !s.answers port then s
  else if s.portClosed port then (if port = 32 then s else s.dropped port)
  else if isQueued port && !s.ready port then s.reject port
  else match reason with
    | .portClosed | .notReady => s
    | .framing => if isQueued port then s.answerFormat port src bytes else s.dropped port
    | .crc => if isQueued port then (s.setPort port { s.portState port with crcErr := true }).dropped port else s.dropped port
    | .responseFlag => s.dropped port
    | .format => s.answerFormat port src bytes

/-! ## What hosts read of the slave ports (R55 to R57) -/

/-- The status byte, whose sticky bits the read clears. -/
def xStatusRead (p : Nat) (s : State) : State :=
  if !s.answers p then s
  else
    let t := s.emit (.status p (s.statusByte p))
    t.setPort p { t.portState p with crcErr := false, ovf := false, reject := false }

/-- PARALLEL_STATUS_READ (R56): STATUS, whose sticky bits the read clears, or LEVELS (DESIGN CHOICE, log entry 16). -/
def xParallelRead (levels : Bool) (s : State) : State :=
  if !levels then xStatusRead 1 s else if !s.answers 1 then s else s.emit (.levels s.levels)

/-- A message as the quad-SPI port shifts it out: U16 length, message, CRC-32; length 0 where none waits. -/
def spiFrame (m : List Byte) : List Byte := if m.isEmpty then toLE 2 0 else toLE 2 m.length ++ m ++ toLE 4 (crc32 m)

/-- A message as the parallel FIFOs hold it: U32 length, message padded to words, CRC-32. -/
def parallelFrame (m : List Byte) : List Byte :=
  if m.isEmpty then toLE 4 0
  else toLE 4 m.length ++ m ++ List.replicate ((4 - m.length % 4) % 4) 0 ++ toLE 4 (crc32 m)

/-- The oldest response of a port, if it is complete; the port without it. -/
def State.takeResponse (s : State) (p : Nat) : List Byte × State :=
  let x := s.portState p
  match x.responses with
  | m :: rest =>
    if m.isEmpty then ([], s)
    else (m, s.setPort p { x with responses := rest, order := x.order.erase true,
                                  taken := (x.taken.filter (fun t => decide (s.clock ≤ t + 10 * perMs))) ++ [s.clock] })
  | [] => ([], s)

/-- The oldest notification of a port; the port without it. -/
def State.takeNotice (s : State) (p : Nat) : List Byte × State :=
  let x := s.portState p
  match x.notices with
  | m :: rest => (m, s.setPort p { x with notices := rest, order := x.order.erase false })
  | [] => ([], s)

/-- SPI_RESPONSE, SPI_NOTIFICATION, PARALLEL_RESPONSE_READ, PARALLEL_NOTIFICATION_READ: the message in the port's framing. -/
def State.handOut (s : State) (p : Nat) (frame : List Byte → List Byte) (take : State → Nat → List Byte × State) : State :=
  if !s.answers p then s else (take s p).2.emit (.message p 0 (frame (take s p).1))

/-- UMZIN_RSP (R56): status byte, U16 length, and the oldest of the responses and notifications; a response whose completion still runs
lets notifications pass (DESIGN CHOICE, log entry 16). -/
def xUmzinRsp (s : State) : State :=
  if !s.answers 32 || s.portClosed 32 then s
  else
    let st := s.statusByte 32
    let r := if (s.portState 32).order.headD true then s.takeResponse 32 else s.takeNotice 32
    let m := if r.1.isEmpty then s.takeNotice 32 else r
    let t := m.2.emit (.message 32 0 (toLE 1 st ++ toLE 2 m.1.length ++ m.1))
    t.setPort 32 { t.portState 32 with crcErr := false, ovf := false, reject := false }

/-! ## UMZIN fragments of the formation (R49, R181) -/

/-- The operation of an opcode (R53). -/
def opOfCode : Nat → Option Op
  | 1 => some .read | 2 => some .write | 3 => some .rmw | 4 => some .readMeta | 5 => some .blockOpen | 6 => some .blockSegment
  | 7 => some .blockClose | 8 => some .blockAbort | 9 => some .subscribe | 10 => some .unsubscribe | 12 => some .replay
  | _ => none

/-- UMZIN_FRAGMENT: a message for this member is a FORMATION access on the lane it came by; one for another goes on. -/
def xUmzinFragment (lane hop dest origin : Nat) (bytes : List Byte) (s : State) : State :=
  if s.roleOfLane lane < 2 || s.rallyState = rStandalone then s
  else
    let s := s.tally (K.rallyLaneFragments lane) 64 1
    if dest ≠ s.memberId then s.forwardUmzin lane hop dest bytes
    else if bytes.length < 16 || leAt bytes 0 1 ≠ 0x55 || leAt bytes 6 2 + 16 ≠ bytes.length then
      xMessageDropped (16 + lane) origin .framing bytes s
    else if leAt bytes 3 1 % 2 = 1 then xMessageDropped (16 + lane) origin .responseFlag bytes s
    else
      let q : Req := ⟨s.clock, 16 + lane, origin, leAt bytes 1 1, leAt bytes 4 2, leAt bytes 8 2, leAt bytes 10 1,
        leAt bytes 11 1, leAt bytes 14 2, bytes.drop 16, s.clock, 0⟩
      match opOfCode (leAt bytes 2 1) with
      | some op => s.request q op
      | none => xMessageDropped (16 + lane) origin .format bytes s

end Sys2Proof.Machine
end

