-- ==== Sys2Proof/Machine/Run.lean ====
section
/-! DEFINITION. How a command runs: the clock moves to its instant, its effect takes place, and what follows every command. An event
of a unit that the variant does not have cannot happen; in reset the units do nothing. -/

namespace Sys2Proof.Machine

/-- Carry out an effect at an instant. -/
def State.run (s : State) (t : Nat) (f : State → State) : Host.Outcome State Fault Refusal :=
  .next (s.finish (f (s.begin_ t)))

/-- An effect of a unit that must be present. -/
def State.runOf (s : State) (present : Bool) (t : Nat) (f : State → State) : Host.Outcome State Fault Refusal :=
  if present then s.run t f else .fault .noUnit

/-- An event that a device in reset does not have (R80, R401) (DESIGN CHOICE, log entry 15). -/
def State.event (s : State) (t : Nat) (f : State → State) : Host.Outcome State Fault Refusal :=
  s.run t (fun u => if u.held then u else f u)

/-- An event of a unit that must be present. -/
def State.eventOf (s : State) (present : Bool) (t : Nat) (f : State → State) : Host.Outcome State Fault Refusal :=
  if present then s.event t f else .fault .noUnit

/-- An Umzin request, on a port of the variant (R6, R49). -/
def State.asks (s : State) (q : Req) (op : Op) : Host.Outcome State Fault Refusal :=
  s.runOf (portPresent s.variant q.port) q.at_ (fun u => u.request q op)

/-- The request with the object of a dedicated row in place of its own: index, subindex and type. -/
def onObject (q : Req) (k : Nat) : Req :=
  { q with index := k / 256, sub := k % 256, ty := match locateKey k with | some l => l.row.ty.code | none => 0 }

/-- The request with a body in place of its own. -/
def withBody (q : Req) (bs : List Byte) : Req := { q with body := bs }

/-- A WRITE of one object. -/
def State.writes (s : State) (q : Req) (k : Nat) : Host.Outcome State Fault Refusal := s.asks (onObject q k) .write

/-- A WRITE of an object of a unit within its numbering span. -/
def State.writesOf (s : State) (present : Bool) (q : Req) (k : Nat) : Host.Outcome State Fault Refusal :=
  if present then s.writes q k else .fault .noUnit

/-- The four bytes of a `cal.command` with another kind in [31:28] (R333). -/
def withKind (kind : Nat) (bs : List Byte) : List Byte := toLE bs.length (withBits (ofLE bs) 31 28 kind)

/-- Whether a variant has a rail. -/
def railPresent (v : Variant) (r : Nat) : Bool := r < 10 && Form.rail.present v r

/-- Whether a port takes Ethernet frames: the management port or a lane. -/
def etherPort (v : Variant) (p : Nat) : Bool := p == 3 || (16 ≤ p && p < 16 + laneCount v)

/-- Whether a variant has the pads or the column pair of a disturbed bus. -/
def busPresent (v : Variant) : Bus → Bool
  | .pad n => n < tileCount v
  | .test k => 32 * k < tileCount v
  | .selector n half pads => n < tileCount v && half < 2 && pads.all (fun p => p < tileCount v)

/-- Whether a variant has the sector of a wire. -/
def wirePresent (v : Variant) : FabricWire → Bool
  | .backstop q i => q < quadCount v && i < 64
  | .strobe q i => q < quadCount v && i < 16
  | .blank q i => q < quadCount v && i < 16
  | .pin q i => q < quadCount v && i < 32
  | .pinEnable q i => q < quadCount v && i < 32

/-- The writable objects of a monitor (R355). -/
def monitorSub (sub : Nat) : Bool := (1 ≤ sub && sub ≤ 6) || (8 ≤ sub && sub ≤ 11)

/-- REFCLK_LOSS (R156, R331): calibrations end with the loss. -/
def lossOfRefclk (s : State) : State := (xRefclkLoss s).abortCal (fun _ => true)

/-- SYNTH_LOCKED (R155, R288): the pace wires of the quadrant are measured too. -/
def synthLocks (n : Nat) (phase : Int) (s : State) : State := (xSynthLocked n phase s).measurePace n

/-- BOARD_PROGRAMMED (R220, R371): lane roles come into force with the new facts. -/
def boardProgrammed (s : State) : State := (xBoardProgrammed s).takeRoles

/-- SHADOW_PATROL (R265): the whole shadow is read; `addrs` are the transfers in which the code corrected an error, each written back
and counted at its pseudo-channel, `bad` those whose read and its retry fail, which are poisoned; a poisoned transfer leaves the shadow
invalid until the next copy (R260, R261). -/
def xShadowPatrol (addrs bad : List Nat) (s : State) : State :=
  if s.mode = mStandby then s
  else
    let s := addrs.foldl (fun st a => st.corrected (pcOf st.masks (transferOf a)) a 1) s
    let s := bad.foldl (fun st a => st.uncorrected (pcOf st.masks (transferOf a)) a) s
    if s.shadowPoisoned then s.set K.deviceStandbyShadow 0 else s

end Sys2Proof.Machine
end

