-- ==== Sys2Proof/Machine/CmdUmzin.lean ====
section
/-! DEFINITION. The meanings of the commands on Umzin operations and what hosts read of the slave ports (03_object_dictionary.md). -/

namespace Sys2Proof.Machine

/-- READ (R60). -/
def execRead (q : Req) (s : State) : Host.Outcome State Fault Refusal :=
  s.asks q .read

/-- WRITE (R60). -/
def execWrite (q : Req) (s : State) : Host.Outcome State Fault Refusal :=
  s.asks q .write

/-- RMW (R60). -/
def execRmw (q : Req) (s : State) : Host.Outcome State Fault Refusal :=
  s.asks q .rmw

/-- READ_META (R58). -/
def execReadMeta (q : Req) (s : State) : Host.Outcome State Fault Refusal :=
  s.asks q .readMeta

/-- BLOCK_OPEN (R65). -/
def execBlockOpen (q : Req) (s : State) : Host.Outcome State Fault Refusal :=
  s.asks q .blockOpen

/-- BLOCK_SEGMENT (R65). -/
def execBlockSegment (q : Req) (s : State) : Host.Outcome State Fault Refusal :=
  s.asks q .blockSegment

/-- BLOCK_CLOSE (R66). -/
def execBlockClose (q : Req) (s : State) : Host.Outcome State Fault Refusal :=
  s.asks q .blockClose

/-- BLOCK_ABORT (R66). -/
def execBlockAbort (q : Req) (s : State) : Host.Outcome State Fault Refusal :=
  s.asks q .blockAbort

/-- BLOCK_TRANSFER_SILENCE (R66). -/
def execBlockTransferSilence (t : Nat) (id : Nat) (s : State) : Host.Outcome State Fault Refusal :=
  s.event t (xTransferSilence id)

/-- SUBSCRIBE (R68). -/
def execSubscribe (q : Req) (s : State) : Host.Outcome State Fault Refusal :=
  s.asks q .subscribe

/-- UNSUBSCRIBE (R68). -/
def execUnsubscribe (q : Req) (s : State) : Host.Outcome State Fault Refusal :=
  s.asks q .unsubscribe

/-- SUBSCRIPTION_LEASE_EXPIRY (R68). -/
def execSubscriptionLeaseExpiry (t : Nat) (id : Nat) (s : State) : Host.Outcome State Fault Refusal :=
  s.event t (xLeaseExpiry id)

/-- PERIODIC_NOTICE (R68). -/
def execPeriodicNotice (t : Nat) (id : Nat) (s : State) : Host.Outcome State Fault Refusal :=
  s.event t (xPeriodicNotice id)

/-- REPLAY (R70). -/
def execReplay (q : Req) (s : State) : Host.Outcome State Fault Refusal :=
  s.asks q .replay

/-- REQUEST_QUEUE_TIMEOUT (R64). -/
def execRequestQueueTimeout (q : Req) (op : Op) (s : State) : Host.Outcome State Fault Refusal :=
  s.runOf (portPresent s.variant q.port) q.at_ (xQueueTimeout q op)

/-- SPI_STATUS (R55). -/
def execSpiStatus (t : Nat) (s : State) : Host.Outcome State Fault Refusal :=
  s.event t (xStatusRead 0)

/-- SPI_RESPONSE (R55). -/
def execSpiResponse (t : Nat) (s : State) : Host.Outcome State Fault Refusal :=
  s.event t (fun s => s.handOut 0 spiFrame State.takeResponse)

/-- SPI_NOTIFICATION (R55). -/
def execSpiNotification (t : Nat) (s : State) : Host.Outcome State Fault Refusal :=
  s.event t (fun s => s.handOut 0 spiFrame State.takeNotice)

/-- PARALLEL_STATUS_READ (R56). -/
def execParallelStatusRead (t : Nat) (levels : Bool) (s : State) : Host.Outcome State Fault Refusal :=
  s.event t (xParallelRead levels)

/-- PARALLEL_RESPONSE_READ (R56). -/
def execParallelResponseRead (t : Nat) (s : State) : Host.Outcome State Fault Refusal :=
  s.event t (fun s => s.handOut 1 parallelFrame State.takeResponse)

/-- PARALLEL_NOTIFICATION_READ (R56). -/
def execParallelNotificationRead (t : Nat) (s : State) : Host.Outcome State Fault Refusal :=
  s.event t (fun s => s.handOut 1 parallelFrame State.takeNotice)

/-- UMZIN_RSP (R56). -/
def execUmzinRsp (t : Nat) (s : State) : Host.Outcome State Fault Refusal :=
  s.event t (xUmzinRsp)

/-- MESSAGE_DROPPED (R54). -/
def execMessageDropped (t : Nat) (port src : Nat) (reason : Drop) (bytes : List Byte) (s : State) :
    Host.Outcome State Fault Refusal :=
  s.eventOf (portPresent s.variant port) t (xMessageDropped port src reason bytes)

end Sys2Proof.Machine
end

