-- ==== Sys2Proof/Machine/CmdModes.lean ====
section
/-! DEFINITION. The meanings of the commands on modes, SAFE and the steps between modes (04_modes_startup.md). -/

namespace Sys2Proof.Machine

/-- MODE_REQUEST_STANDBY (R76). -/
def execModeRequestStandby (q : Req) (s : State) : Host.Outcome State Fault Refusal :=
  s.writes (withBody q (toLE 1 mStandby)) K.deviceModeRequest

/-- MODE_REQUEST_PREPARE (R77). -/
def execModeRequestPrepare (q : Req) (s : State) : Host.Outcome State Fault Refusal :=
  s.writes (withBody q (toLE 1 mPrepare)) K.deviceModeRequest

/-- MODE_REQUEST_RUN (R77). -/
def execModeRequestRun (q : Req) (s : State) : Host.Outcome State Fault Refusal :=
  s.writes (withBody q (toLE 1 mRun)) K.deviceModeRequest

/-- MODE_REQUEST_HOLD (R87). -/
def execModeRequestHold (q : Req) (s : State) : Host.Outcome State Fault Refusal :=
  s.writes (withBody q (toLE 1 mHold)) K.deviceModeRequest

/-- MODE_REQUEST_SAFE (R93). -/
def execModeRequestSafe (q : Req) (s : State) : Host.Outcome State Fault Refusal :=
  s.writes (withBody q (toLE 1 mSafe)) K.deviceModeRequest

/-- MODE_REQUEST_CANCEL (R76). -/
def execModeRequestCancel (q : Req) (s : State) : Host.Outcome State Fault Refusal :=
  s.writes (withBody q (toLE 1 0)) K.deviceModeRequest

/-- MODE_LOAD (R76). -/
def execModeLoad (q : Req) (s : State) : Host.Outcome State Fault Refusal :=
  s.writes (withBody q (toLE 1 1)) K.deviceModeLoad

/-- PREPARE_STEP_END (R84). -/
def execPrepareStepEnd (t : Nat) (f : StepFacts) (s : State) : Host.Outcome State Fault Refusal :=
  s.event t (xPrepareStepEnd f)

/-- ALIGN_LIMIT_EXPIRY (R86). -/
def execAlignLimitExpiry (t : Nat) (s : State) : Host.Outcome State Fault Refusal :=
  s.event t (xAlignExpiry)

/-- RUN_ENTRY_TRIGGER (R77). -/
def execRunEntryTrigger (t : Nat) (p : Nat) (s : State) : Host.Outcome State Fault Refusal :=
  s.eventOf (p < 16) t (xRunEntry p)

/-- HOLD_TAKES_EFFECT (R87). -/
def execHoldTakesEffect (t : Nat) (s : State) : Host.Outcome State Fault Refusal :=
  s.event t (xHoldTakesEffect)

/-- AUTO_RESUME (R88). -/
def execAutoResume (t : Nat) (p : Nat) (s : State) : Host.Outcome State Fault Refusal :=
  s.eventOf (p < 16) t (xAutoResume p)

/-- DRAIN_COMPLETE (R90). -/
def execDrainComplete (t : Nat) (s : State) : Host.Outcome State Fault Refusal :=
  s.event t (xDrainComplete)

/-- SHUTDOWN_STEP_END (R91). -/
def execShutdownStepEnd (t : Nat) (s : State) : Host.Outcome State Fault Refusal :=
  s.event t (xShutdownStepEnd)

/-- WAKE_STEP_END (R92). -/
def execWakeStepEnd (t : Nat) (ok : Bool) (s : State) : Host.Outcome State Fault Refusal :=
  s.event t (xWakeStepEnd ok)

/-- SAFE_RINGS_FREEZE (R93). -/
def execSafeRingsFreeze (t : Nat) (s : State) : Host.Outcome State Fault Refusal :=
  s.event t (xSafeFreeze)

/-- SAFE_CLEAR (R96). -/
def execSafeClear (q : Req) (s : State) : Host.Outcome State Fault Refusal :=
  s.writes q (K.deviceSafeClear)

/-- SHADOW_COPY_COMPLETE (R91). -/
def execShadowCopyComplete (t : Nat) (s : State) : Host.Outcome State Fault Refusal :=
  s.event t (xShadowCopy)

/-- ENABLE_TRANSITION_END (R99). -/
def execEnableTransitionEnd (t : Nat) (u : UnitName) (s : State) : Host.Outcome State Fault Refusal :=
  s.eventOf (unitPresent s.variant u) t (xEnableEnd u)

end Sys2Proof.Machine
end

