-- ==== Sys2Proof/Machine/CmdPower.lean ====
section
/-! DEFINITION. The meanings of the commands on reset, boot, rails and temperatures (02_layout_table.md, 04_modes_startup.md, 20_electrical_package.md). -/

namespace Sys2Proof.Machine

/-- DEVICE_RESET (R102). -/
def execDeviceReset (q : Req) (s : State) : Host.Outcome State Fault Refusal :=
  s.writes (withBody q (toLE 2 0xA55A)) K.deviceReset

/-- WATCHDOG_EXPIRY (R93). -/
def execWatchdogExpiry (t : Nat) (s : State) : Host.Outcome State Fault Refusal :=
  s.event t (xWatchdogExpiry)

/-- WATCHDOG_RESET (R95). -/
def execWatchdogReset (t : Nat) (s : State) : Host.Outcome State Fault Refusal :=
  s.event t (xWatchdogReset)

/-- POR_N_LOW (R401). -/
def execPorNLow (t : Nat) (s : State) : Host.Outcome State Fault Refusal :=
  s.run t xPorLow

/-- POR_N_RELEASE (R80). -/
def execPorNRelease (t : Nat) (s : State) : Host.Outcome State Fault Refusal :=
  s.run t xPorRelease

/-- BACKSTOP_LIVE (R80). -/
def execBackstopLive (t : Nat) (strap : Bool) (bad : Nat) (s : State) : Host.Outcome State Fault Refusal :=
  s.event t (xBackstopLive strap bad)

/-- STORE_TRAINING_END (R82). -/
def execStoreTrainingEnd (t : Nat) (ok : Bool) (repaired : Nat) (s : State) : Host.Outcome State Fault Refusal :=
  s.event t (xTrainingEnd ok repaired)

/-- REFCLK_DETECTED (R153). -/
def execRefclkDetected (t : Nat) (hz : Nat) (s : State) : Host.Outcome State Fault Refusal :=
  s.event t (xRefclkDetected hz)

/-- BOOT_HEADER_READ (R39). -/
def execBootHeaderRead (t : Nat) (board : Bool) (s : State) : Host.Outcome State Fault Refusal :=
  s.event t (xHeaderRead board)

/-- BOOT_IMAGE_READ (R39). -/
def execBootImageRead (t : Nat) (ok : Bool) (s : State) : Host.Outcome State Fault Refusal :=
  s.event t (xImageRead ok)

/-- FIRMWARE_CONFIRMED (R80). -/
def execFirmwareConfirmed (t : Nat) (s : State) : Host.Outcome State Fault Refusal :=
  s.event t (xConfirmed)

/-- CONFIRM_TIMEOUT (R39). -/
def execConfirmTimeout (t : Nat) (s : State) : Host.Outcome State Fault Refusal :=
  s.event t (xConfirmTimeout)

/-- RAIL_EXCURSION (R416). -/
def execRailExcursion (t : Nat) (rail : Nat) (mv : Int) (s : State) : Host.Outcome State Fault Refusal :=
  s.runOf (railPresent s.variant rail) t (xRailExcursion rail mv)

/-- RAIL_BELOW_RESET (R412). -/
def execRailBelowReset (t : Nat) (rail : Nat) (mv : Int) (s : State) : Host.Outcome State Fault Refusal :=
  s.runOf (railPresent s.variant rail) t (xRailBelowReset rail mv)

/-- RAIL_RETURN (R412). -/
def execRailReturn (t : Nat) (rail : Nat) (mv : Int) (s : State) : Host.Outcome State Fault Refusal :=
  s.runOf (railPresent s.variant rail) t (xRailReturn rail mv)

/-- DAC_SUPPLY_LOSS (R416). -/
def execDacSupplyLoss (t : Nat) (rail : Nat) (mv : Int) (s : State) : Host.Outcome State Fault Refusal :=
  s.runOf (railPresent s.variant rail) t (xDacSupplyLoss rail mv)

/-- TEMP_SENSOR_READ (R425). -/
def execTempSensorRead (t : Nat) (digital : Int) (ana0 : Int) (ana1 : Int) (s : State) : Host.Outcome State Fault Refusal :=
  s.event t (xTempRead digital ana0 ana1)

/-- SAFE_N_LOW (R400). -/
def execSafeNLow (t : Nat) (s : State) : Host.Outcome State Fault Refusal :=
  s.run t xSafeNLow

/-- SAFE_N_RELEASE (R400). -/
def execSafeNRelease (t : Nat) (s : State) : Host.Outcome State Fault Refusal :=
  s.run t xSafeNRelease

/-- VERSIONS_ACCEPT_WRITE (R36). -/
def execVersionsAcceptWrite (q : Req) (s : State) : Host.Outcome State Fault Refusal :=
  s.writes q (K.versionsAccept)

/-- MGMT_SELECT_WRITE (R48). -/
def execMgmtSelectWrite (q : Req) (s : State) : Host.Outcome State Fault Refusal :=
  s.writes q (K.versionsMgmtSelect)

/-- FIRMWARE_SLOT_PROGRAMMED (R41). -/
def execFirmwareSlotProgrammed (t : Nat) (slot : Nat) (ok : Bool) (s : State) : Host.Outcome State Fault Refusal :=
  s.eventOf (slot < 2) t (xSlotProgrammed slot ok)

end Sys2Proof.Machine
end

