-- ==== Sys2Proof/Machine/CmdTime.lean ====
section
/-! DEFINITION. The meanings of the commands on the timebase, encoders and line triggers (07_timebase_triggers.md). -/

namespace Sys2Proof.Machine

/-- REFCLK_LOSS (R156). -/
def execRefclkLoss (t : Nat) (s : State) : Host.Outcome State Fault Refusal :=
  s.event t (lossOfRefclk)

/-- REFCLK_RETURN (R156). -/
def execRefclkReturn (t : Nat) (s : State) : Host.Outcome State Fault Refusal :=
  s.event t (xRefclkReturn)

/-- HOLDOVER_LIMIT_EXPIRY (R156). -/
def execHoldoverLimitExpiry (t : Nat) (s : State) : Host.Outcome State Fault Refusal :=
  s.event t (xHoldoverLimit)

/-- SYNTH_LOCKED (R155). -/
def execSynthLocked (t : Nat) (n : Nat) (phase : Int) (s : State) : Host.Outcome State Fault Refusal :=
  s.eventOf (n < quadCount s.variant) t (synthLocks n phase)

/-- TIME_SET (R159). -/
def execTimeSet (q : Req) (s : State) : Host.Outcome State Fault Refusal :=
  s.writes q (K.timeSet)

/-- PTP_MESSAGE (R158). -/
def execPtpMessage (t : Nat) (m : Ptp) (s : State) : Host.Outcome State Fault Refusal :=
  s.event t (xPtpMessage m)

/-- PTP_ANNOUNCE_TIMEOUT (R158). -/
def execPtpAnnounceTimeout (t : Nat) (s : State) : Host.Outcome State Fault Refusal :=
  s.event t (xPtpAnnounceTimeout)

/-- ENCODER_EDGE (R161). -/
def execEncoderEdge (t : Nat) (e : Nat) (a : Bool) (b : Bool) (held : Nat) (s : State) : Host.Outcome State Fault Refusal :=
  s.runOf (e < 8) t (xEncoderEdge e a b held)

/-- ENCODER_Z_EDGE (R164). -/
def execEncoderZEdge (t : Nat) (e : Nat) (s : State) : Host.Outcome State Fault Refusal :=
  s.eventOf (e < 8) t (xEncoderZ e)

/-- ENCODER_WINDOW (R163). -/
def execEncoderWindow (t : Nat) (e : Nat) (s : State) : Host.Outcome State Fault Refusal :=
  s.eventOf (e < 8) t (xEncoderWindow e)

/-- ENCODER_STANDSTILL (R163). -/
def execEncoderStandstill (t : Nat) (e : Nat) (s : State) : Host.Outcome State Fault Refusal :=
  s.eventOf (e < 8) t (xEncoderStandstill e)

/-- ENCODER_SIGNAL_LOSS (R163). -/
def execEncoderSignalLoss (t : Nat) (e : Nat) (s : State) : Host.Outcome State Fault Refusal :=
  s.eventOf (e < 8) t (xEncoderSignalLoss e)

/-- ENC_PRESET_WRITE (R164). -/
def execEncPresetWrite (q : Req) (e : Nat) (s : State) : Host.Outcome State Fault Refusal :=
  s.writesOf (e < 8) q (K.encPreset e)

/-- ENC_FILTER_WRITE (R162). -/
def execEncFilterWrite (q : Req) (e : Nat) (rateMax : Bool) (s : State) : Host.Outcome State Fault Refusal :=
  s.writesOf (e < 8) q (if rateMax then K.encRateMax e else K.encGlitch e)

/-- ENC_ENABLE (R166). -/
def execEncEnable (q : Req) (e : Nat) (s : State) : Host.Outcome State Fault Refusal :=
  s.writesOf (e < 8) q (K.encEnable e)

/-- LINE_TRIGGER (R169). -/
def execLineTrigger (t : Nat) (p : Nat) (s : State) : Host.Outcome State Fault Refusal :=
  s.eventOf (p < 16) t (xLineTriggerAll p)

end Sys2Proof.Machine
end

