-- ==== Sys2Proof/Machine/CmdRally.lean ====
section
/-! DEFINITION. The meanings of the commands on the formation (08_formation.md). -/

namespace Sys2Proof.Machine

/-- RALLY_TIME_SEND (R182). -/
def execRallyTimeSend (t : Nat) (lane : Nat) (s : State) : Host.Outcome State Fault Refusal :=
  s.eventOf (lane < laneCount s.variant) t (xTimeSend lane)

/-- RALLY_TIME_FRAGMENT (R182). -/
def execRallyTimeFragment (t : Nat) (lane : Nat) (f : Frag) (s : State) : Host.Outcome State Fault Refusal :=
  s.eventOf (lane < laneCount s.variant) t (xTimeFragment lane f)

/-- SHARED_TRIGGER_ANNOUNCE (R187). -/
def execSharedTriggerAnnounce (t : Nat) (p : Nat) (s : State) : Host.Outcome State Fault Refusal :=
  s.eventOf (p < 16) t (xSharedAnnounce p)

/-- TRIGGER_HEARTBEAT (R187). -/
def execTriggerHeartbeat (t : Nat) (p : Nat) (s : State) : Host.Outcome State Fault Refusal :=
  s.eventOf (p < 16) t (xHeartbeat p)

/-- RALLY_TRIGGER_FRAGMENT (R189). -/
def execRallyTriggerFragment (t : Nat) (lane : Nat) (f : Frag) (s : State) : Host.Outcome State Fault Refusal :=
  s.eventOf (lane < laneCount s.variant) t (xTriggerFragment lane f)

/-- TRIGGER_TIMEOUT (R189). -/
def execTriggerTimeout (t : Nat) (p : Nat) (s : State) : Host.Outcome State Fault Refusal :=
  s.eventOf (p < 16) t (xTriggerTimeout p)

/-- RALLY_TRACK_FRAGMENT (R189). -/
def execRallyTrackFragment (t : Nat) (lane : Nat) (f : Frag) (s : State) : Host.Outcome State Fault Refusal :=
  s.eventOf (lane < laneCount s.variant) t (xTrackFragment lane f)

/-- RALLY_CONTROL_FRAGMENT (R194). -/
def execRallyControlFragment (t : Nat) (lane : Nat) (hop : Nat) (c : Control) (s : State) : Host.Outcome State Fault Refusal :=
  s.eventOf (lane < laneCount s.variant) t (xControl lane hop c)

/-- WHISTLE_FRAGMENT (R191). -/
def execWhistleFragment (t : Nat) (lane : Nat) (f : Frag) (s : State) : Host.Outcome State Fault Refusal :=
  s.eventOf (lane < laneCount s.variant) t (xWhistleFragment lane f)

/-- UMZIN_FRAGMENT (R181). -/
def execUmzinFragment (t : Nat) (lane : Nat) (hop : Nat) (dest : Nat) (origin : Nat) (bytes : List Byte) (s : State) : Host.Outcome State Fault Refusal :=
  s.eventOf (lane < laneCount s.variant) t (xUmzinFragment lane hop dest origin bytes)

/-- STREAM_FRAGMENT (R196). -/
def execStreamFragment (t : Nat) (lane : Nat) (f : Peer) (s : State) : Host.Outcome State Fault Refusal :=
  s.eventOf (lane < laneCount s.variant) t (xStreamFragment lane f)

/-- RALLY_LANE_LOST (R194). -/
def execRallyLaneLost (t : Nat) (lane : Nat) (s : State) : Host.Outcome State Fault Refusal :=
  s.eventOf (lane < laneCount s.variant) t (xRallyLaneLost lane)

/-- HEALING_TIMEOUT (R186). -/
def execHealingTimeout (t : Nat) (s : State) : Host.Outcome State Fault Refusal :=
  s.event t (xHealingTimeout)

/-- NEGOTIATION_WINDOW (R193). -/
def execNegotiationWindow (t : Nat) (s : State) : Host.Outcome State Fault Refusal :=
  s.event t (xNegotiationWindow)

/-- FRAGMENT_DROPPED (R180). -/
def execFragmentDropped (t : Nat) (lane : Nat) (s : State) : Host.Outcome State Fault Refusal :=
  s.eventOf (lane < laneCount s.variant) t (xFragmentDropped lane)

/-- FRAGMENT_BOUNDARY (R181). -/
def execFragmentBoundary (t : Nat) (lane : Nat) (s : State) : Host.Outcome State Fault Refusal :=
  s.eventOf (lane < laneCount s.variant) t (xFragmentBoundary lane)

end Sys2Proof.Machine
end

