-- ==== Sys2Proof/Machine/CmdChain.lean ====
section
/-! DEFINITION. The meanings of the commands on tiles, engines and coefficient sets (05, 06 and 09). -/

namespace Sys2Proof.Machine

/-- CDS_LINE_END (R115). -/
def execCdsLineEnd (t : Nat) (n : Nat) (s : State) : Host.Outcome State Fault Refusal :=
  s.eventOf (n < tileCount s.variant) t (xCdsLineEnd n)

/-- FE_BATCH (R199). -/
def execFeBatch (t : Nat) (n : Nat) (s : State) : Host.Outcome State Fault Refusal :=
  s.eventOf (n < engineCount s.variant) t (xFeBatch n)

/-- PRIMING_COMPLETE (R212). -/
def execPrimingComplete (t : Nat) (n : Nat) (j : Nat) (s : State) : Host.Outcome State Fault Refusal :=
  s.eventOf (n < engineCount s.variant && j < 16) t (xPrimingComplete n j)

/-- FE_ENABLE (R218). -/
def execFeEnable (q : Req) (n : Nat) (s : State) : Host.Outcome State Fault Refusal :=
  s.writesOf (n < 64) q (K.feEnable n)

/-- COEF_SET_WRITE (R205). -/
def execCoefSetWrite (q : Req) (c : Nat) (s : State) : Host.Outcome State Fault Refusal :=
  s.writesOf (c < 128) q (K.feSetCoef c)

/-- SAMPLE_INSTANT (R120). -/
def execSampleInstant (t : Nat) (n : Nat) (half : Nat) (codes : List Int) (far : Bool) (s : State) : Host.Outcome State Fault Refusal :=
  s.eventOf (n < tileCount s.variant && half < 2) t (xSampleInstant n half codes far)

/-- BUS_CONTENTION (R124). -/
def execBusContention (t : Nat) (bus : Bus) (s : State) : Host.Outcome State Fault Refusal :=
  s.eventOf (busPresent s.variant bus) t (xBusContention bus)

/-- CONTENTION_RECOVERY (R124). -/
def execContentionRecovery (t : Nat) (bus : Bus) (s : State) : Host.Outcome State Fault Refusal :=
  s.eventOf (busPresent s.variant bus) t (xContentionRecovery bus)

/-- PAD_OVERLOAD (R129). -/
def execPadOverload (t : Nat) (n : Nat) (s : State) : Host.Outcome State Fault Refusal :=
  s.eventOf (n < tileCount s.variant) t (xPadOverload n)

/-- PAD_CLEAR (R129). -/
def execPadClear (q : Req) (n : Nat) (s : State) : Host.Outcome State Fault Refusal :=
  s.writesOf (n < 256) q (K.tilePadClear n)

/-- PAD_TERM_WRITE (R127). -/
def execPadTermWrite (q : Req) (n : Nat) (s : State) : Host.Outcome State Fault Refusal :=
  s.writesOf (n < 256) q (K.tilePadTerm n)

/-- PAD_TEST_WRITE (R123). -/
def execPadTestWrite (q : Req) (n : Nat) (s : State) : Host.Outcome State Fault Refusal :=
  s.writesOf (n < 256) q (K.tilePadTest n)

/-- BUF_PEAK_CLEAR (R120). -/
def execBufPeakClear (q : Req) (n : Nat) (s : State) : Host.Outcome State Fault Refusal :=
  s.writesOf (n < 256) q (K.tileBufPeakClear n)

end Sys2Proof.Machine
end

