-- ==== Sys2Proof/Machine/CmdPlacer.lean ====
section
/-! DEFINITION. The meanings of the commands on board facts, the graph, the Placer and contexts (10_placer_contexts.md). -/

namespace Sys2Proof.Machine

/-- BOARD_COMMIT (R220). -/
def execBoardCommit (q : Req) (s : State) : Host.Outcome State Fault Refusal :=
  s.writes (withBody q (toLE 1 1)) K.boardCommit

/-- BOARD_PROGRAMMED (R220). -/
def execBoardProgrammed (t : Nat) (s : State) : Host.Outcome State Fault Refusal :=
  s.event t (boardProgrammed)

/-- GRAPH_COMMIT (R223). -/
def execGraphCommit (q : Req) (s : State) : Host.Outcome State Fault Refusal :=
  s.writes (withBody q (toLE 1 1)) K.graphCommit

/-- PLACER_TRIAL (R238). -/
def execPlacerTrial (q : Req) (s : State) : Host.Outcome State Fault Refusal :=
  s.writes q (K.placerTrial)

/-- TRIAL_COMPLETE (R238). -/
def execTrialComplete (t : Nat) (s : State) : Host.Outcome State Fault Refusal :=
  s.event t (xTrialComplete)

/-- DEFECT_ADD (R226). -/
def execDefectAdd (q : Req) (s : State) : Host.Outcome State Fault Refusal :=
  s.writes q (K.placerDefectAdd)

/-- DEFECT_CLEAR (R226). -/
def execDefectClear (q : Req) (s : State) : Host.Outcome State Fault Refusal :=
  s.writes q (K.placerDefectClear)

/-- CTX_RETRY (R236). -/
def execCtxRetry (q : Req) (c : Nat) (s : State) : Host.Outcome State Fault Refusal :=
  s.writesOf (c < 1024) q (K.ctxRetry c)

/-- CTX_SWAP (R236). -/
def execCtxSwap (q : Req) (c : Nat) (s : State) : Host.Outcome State Fault Refusal :=
  s.writesOf (c < 1024) q (K.ctxSwap c)

/-- SUBSTITUTION_STEP_END (R233). -/
def execSubstitutionStepEnd (t : Nat) (tile : Nat) (ok : Bool) (s : State) : Host.Outcome State Fault Refusal :=
  s.eventOf (tile < tileCount s.variant) t (xSubstStep tile ok)

/-- SUBSTITUTION_SWITCH (R233). -/
def execSubstitutionSwitch (t : Nat) (tile : Nat) (s : State) : Host.Outcome State Fault Refusal :=
  s.eventOf (tile < tileCount s.variant) t (xSubstSwitch tile)

/-- SWAPPED_COUNT_EXPIRY (R233). -/
def execSwappedCountExpiry (t : Nat) (c : Nat) (s : State) : Host.Outcome State Fault Refusal :=
  s.eventOf (c < 1024) t (xSwappedExpiry c)

/-- PIECE_MOVE_STEP_END (R235). -/
def execPieceMoveStepEnd (t : Nat) (j : Nat) (s : State) : Host.Outcome State Fault Refusal :=
  s.eventOf (j < 256) t (xPieceMoveStep j)

end Sys2Proof.Machine
end

