-- ==== Sys2Proof/Machine/CmdStore.lean ====
section
/-! DEFINITION. The meanings of the commands on the Store and arbitration (11_store.md, 12_selftimed_arbitration.md). -/

namespace Sys2Proof.Machine

/-- CTX_RING_RESUME (R248). -/
def execCtxRingResume (q : Req) (c : Nat) (s : State) : Host.Outcome State Fault Refusal :=
  s.writesOf (c < 1024) q (K.ctxRingResume c)

/-- ARB_GRANT (R273). -/
def execArbGrant (t : Nat) (g : Grant) (s : State) : Host.Outcome State Fault Refusal :=
  s.eventOf (g.port < 32 && g.wants.all (fun w => clientPresent s.variant w.client)) t (xArbGrant g)

/-- GRANT_HOLD_LIMIT (R275). -/
def execGrantHoldLimit (t : Nat) (p : Nat) (client : Nat) (s : State) : Host.Outcome State Fault Refusal :=
  s.eventOf (p < 32 && clientPresent s.variant client) t (xGrantHoldLimit p client)

/-- ARB_CLIENT_CLEAR (R276). -/
def execArbClientClear (q : Req) (i : Nat) (s : State) : Host.Outcome State Fault Refusal :=
  s.writesOf (i < 48) q (K.arbClientClear i)

/-- ARB_CLEAR_ALL (R276). -/
def execArbClearAll (q : Req) (s : State) : Host.Outcome State Fault Refusal :=
  s.writes q (K.arbClearAll)

/-- ARB_LIBERO_WRITE (R273). -/
def execArbLiberoWrite (q : Req) (s : State) : Host.Outcome State Fault Refusal :=
  s.writes q (K.arbLiberoN)

/-- ARB_SYNC_CLEAR (R271). -/
def execArbSyncClear (q : Req) (s : State) : Host.Outcome State Fault Refusal :=
  s.writes q (K.arbSyncClear)

/-- CADENCE_REFRESH (R269). -/
def execCadenceRefresh (t : Nat) (m : Cadence) (s : State) : Host.Outcome State Fault Refusal :=
  s.event t (xCadence m)

/-- WRITE_DRAIN_START (R252). -/
def execWriteDrainStart (t : Nat) (p : Nat) (s : State) : Host.Outcome State Fault Refusal :=
  s.eventOf (p < 32) t (xWriteDrainStart p)

/-- WRITE_DRAIN_END (R252). -/
def execWriteDrainEnd (t : Nat) (p : Nat) (s : State) : Host.Outcome State Fault Refusal :=
  s.eventOf (p < 32) t (fun st => (xWriteDrainEnd p st).showLags)

/-- REFRESH_INTERVAL (R253). -/
def execRefreshInterval (t : Nat) (p : Nat) (blocked : Bool) (s : State) : Host.Outcome State Fault Refusal :=
  s.eventOf (p < 32) t (xRefreshInterval p blocked)

/-- STACK_TEMP_READ (R239). -/
def execStackTempRead (t : Nat) (temp : Int) (s : State) : Host.Outcome State Fault Refusal :=
  s.event t (xStackTempRead temp)

/-- TAIL_FLUSH_TIMEOUT (R245). -/
def execTailFlushTimeout (t : Nat) (c : Nat) (s : State) : Host.Outcome State Fault Refusal :=
  s.eventOf (c < 1024) t (xTailFlush c)

/-- RT_WAIT_EXCEEDED (R257). -/
def execRtWaitExceeded (t : Nat) (p : Nat) (wait : Nat) (s : State) : Host.Outcome State Fault Refusal :=
  s.eventOf (p < 32) t (xRtWait p wait)

/-- STORE_PC_CLEAR (R257). -/
def execStorePcClear (q : Req) (p : Nat) (s : State) : Host.Outcome State Fault Refusal :=
  s.writesOf (p < 32) q (K.storePcClear p)

/-- REGION_COPY_COMPLETE (R260). -/
def execRegionCopyComplete (t : Nat) (s : State) : Host.Outcome State Fault Refusal :=
  s.event t (xRegionCopy)

/-- PARITY_RETRY (R263). -/
def execParityRetry (t : Nat) (p : Nat) (ok : Bool) (s : State) : Host.Outcome State Fault Refusal :=
  s.eventOf (p < 32) t (xParityRetry p ok)

/-- SHADOW_PATROL (R265). -/
def execShadowPatrol (t : Nat) (addrs : List Nat) (bad : List Nat) (s : State) : Host.Outcome State Fault Refusal :=
  s.event t (xShadowPatrol addrs bad)

end Sys2Proof.Machine
end

