-- ==== Sys2Proof/Machine/CmdLogic.lean ====
section
/-! DEFINITION. The meanings of the commands on the fabric, probes, the Backstop, loading and scrubbing (13_fabric_backstop.md, 14_configuration.md). -/

namespace Sys2Proof.Machine

/-- PROBE_ARM (R294). -/
def execProbeArm (q : Req) (s : State) : Host.Outcome State Fault Refusal :=
  s.writes q (K.probeArm)

/-- PROBE_TRIGGER (R294). -/
def execProbeTrigger (t : Nat) (s : State) : Host.Outcome State Fault Refusal :=
  s.event t (xProbeTrigger)

/-- PROBE_DONE (R294). -/
def execProbeDone (t : Nat) (s : State) : Host.Outcome State Fault Refusal :=
  s.event t (xProbeDone)

/-- BACKSTOP_WHISTLE (R297). -/
def execBackstopWhistle (t : Nat) (j : Nat) (s : State) : Host.Outcome State Fault Refusal :=
  s.eventOf (j < 4) t (xBackstopWhistle j)

/-- BACKSTOP_PROGRAMMED (R302). -/
def execBackstopProgrammed (t : Nat) (ok : Bool) (s : State) : Host.Outcome State Fault Refusal :=
  s.event t (xArrayProgrammed ok)

/-- BACKSTOP_ACTIVATE (R303). -/
def execBackstopActivate (q : Req) (s : State) : Host.Outcome State Fault Refusal :=
  s.writes q (K.backstopActivate)

/-- BACKSTOP_LATCH_CHECK (R298). -/
def execBackstopLatchCheck (t : Nat) (upsets : Nat) (s : State) : Host.Outcome State Fault Refusal :=
  s.event t (xLatchCheck upsets)

/-- BACKSTOP_OSC_EDGE (R296). -/
def execBackstopOscEdge (t : Nat) (s : State) : Host.Outcome State Fault Refusal :=
  s.event t (xOscEdge)

/-- MACROCELLS_RELOADED (R303). -/
def execMacrocellsReloaded (t : Nat) (s : State) : Host.Outcome State Fault Refusal :=
  s.event t (xMacrocellsReloaded)

/-- CONFIG_SECTOR_RELOAD (R315). -/
def execConfigSectorReload (q : Req) (k : Nat) (s : State) : Host.Outcome State Fault Refusal :=
  s.writesOf (k < 4) q (K.configSectorReload k)

/-- RELOAD_STEP_END (R317). -/
def execReloadStepEnd (t : Nat) (ok : Bool) (s : State) : Host.Outcome State Fault Refusal :=
  s.event t (xReloadStep ok)

/-- SCRUB_FRAME (R320). -/
def execScrubFrame (t : Nat) (f : Finding) (s : State) : Host.Outcome State Fault Refusal :=
  s.event t (xScrubFrame f)

/-- SCRUB_ENABLE (R324). -/
def execScrubEnable (q : Req) (s : State) : Host.Outcome State Fault Refusal :=
  s.writes q (K.scrubEnable)

/-- SCRUB_WATCHDOG (R327). -/
def execScrubWatchdog (t : Nat) (s : State) : Host.Outcome State Fault Refusal :=
  s.event t (xScrubWatchdog)

/-- PORT_CELL_WORD (R292). -/
def execPortCellWord (t : Nat) (q : Nat) (k : Nat) (s : State) : Host.Outcome State Fault Refusal :=
  s.eventOf (q < quadCount s.variant && k < 256) t (xPortCell q k)

/-- FABRIC_WIRE_CHANGE (R295). -/
def execFabricWireChange (t : Nat) (w : FabricWire) (s : State) : Host.Outcome State Fault Refusal :=
  s.eventOf (wirePresent s.variant w) t (xFabricWire w)

/-- PACE_WIRE_EDGE (R288). -/
def execPaceWireEdge (t : Nat) (i : Nat) (w : PaceFacts) (s : State) : Host.Outcome State Fault Refusal :=
  s.eventOf (i < 8) t (xPaceEdge i w)

end Sys2Proof.Machine
end

