-- ==== Sys2Proof/Machine/CmdCal.lean ====
section
/-! DEFINITION. The meanings of the commands on calibration and window monitors (15_calibration_monitors.md). -/

namespace Sys2Proof.Machine

/-- CAL_INTERNAL (R334). -/
def execCalInternal (q : Req) (s : State) : Host.Outcome State Fault Refusal :=
  s.writes (withBody q (withKind 1 q.body)) K.calCommand

/-- CAL_DARK (R344). -/
def execCalDark (q : Req) (s : State) : Host.Outcome State Fault Refusal :=
  s.writes (withBody q (withKind 2 q.body)) K.calCommand

/-- CAL_FLAT (R344). -/
def execCalFlat (q : Req) (s : State) : Host.Outcome State Fault Refusal :=
  s.writes (withBody q (withKind 3 q.body)) K.calCommand

/-- LADDER_TRACE_END (R332). -/
def execLadderTraceEnd (t : Nat) (ok : Bool) (s : State) : Host.Outcome State Fault Refusal :=
  s.event t (xLadderEnd ok)

/-- CAL_RUN_END (R336). -/
def execCalRunEnd (t : Nat) (n : Nat) (r : CalRun) (s : State) : Host.Outcome State Fault Refusal :=
  s.eventOf (n < tileCount s.variant) t (xCalRunEnd n r)

/-- SCENE_RUN_END (R343). -/
def execSceneRunEnd (t : Nat) (n : Nat) (held : List (Int × Nat)) (s : State) : Host.Outcome State Fault Refusal :=
  s.eventOf (n < tileCount s.variant) t (xSceneRunEnd n held)

/-- INVAR_CHECK (R331). -/
def execInvarCheck (t : Nat) (ppm : Int) (s : State) : Host.Outcome State Fault Refusal :=
  s.event t (xInvarCheck ppm)

/-- LIMIT_REFRESH (R148). -/
def execLimitRefresh (t : Nat) (n : Nat) (m : LimitMeas) (s : State) : Host.Outcome State Fault Refusal :=
  s.eventOf (n < tileCount s.variant) t (xLimitRefresh n m)

/-- ILV_WORD_COUNT (R145). -/
def execIlvWordCount (t : Nat) (n : Nat) (f : IlvFacts) (s : State) : Host.Outcome State Fault Refusal :=
  s.eventOf (n < tileCount s.variant) t (xIlvWords n f)

/-- ILV_RESET (R145). -/
def execIlvReset (q : Req) (n : Nat) (s : State) : Host.Outcome State Fault Refusal :=
  s.writesOf (n < 256) q (K.tileIlvReset n)

/-- TILE_FAULT (R339). -/
def execTileFault (t : Nat) (n : Nat) (bit : Nat) (s : State) : Host.Outcome State Fault Refusal :=
  s.eventOf (n < tileCount s.variant && bit < 8) t (xTileFault n bit)

/-- MONITOR_TRIP (R348). -/
def execMonitorTrip (t : Nat) (n : Nat) (i : Nat) (inputs : List (Int × Int)) (s : State) : Host.Outcome State Fault Refusal :=
  s.eventOf (n < tileCount s.variant && i < 2) t (xMonitorTrip n i inputs)

/-- MONITOR_WRITE (R353). -/
def execMonitorWrite (q : Req) (n : Nat) (i : Nat) (sub : Nat) (s : State) : Host.Outcome State Fault Refusal :=
  s.writesOf (n < 256 && i < 2 && monitorSub sub) q (key (0x300C + 16 * n + i) sub)

/-- SCENE_ENABLE_WRITE (R345). -/
def execSceneEnableWrite (q : Req) (n : Nat) (s : State) : Host.Outcome State Fault Refusal :=
  s.writesOf (n < 256) q (K.tileSceneEnable n)

end Sys2Proof.Machine
end

