-- ==== Sys2Proof/Machine/CmdDac.lean ====
section
/-! DEFINITION. The meanings of the commands on excitation and bias outputs (16_dac_outputs.md). -/

namespace Sys2Proof.Machine

/-- DAC_ENABLE (R366). -/
def execDacEnable (q : Req) (n : Nat) (s : State) : Host.Outcome State Fault Refusal :=
  s.writesOf (n < 32) q (K.dacEnable n)

/-- DAC_STROBE (R361). -/
def execDacStrobe (t : Nat) (g : Nat) (s : State) : Host.Outcome State Fault Refusal :=
  s.eventOf (g < 4) t (xDacStrobe g)

/-- DEGLITCH_HOLD_END (R365). -/
def execDeglitchHoldEnd (t : Nat) (n : Nat) (s : State) : Host.Outcome State Fault Refusal :=
  s.eventOf (n < dacCount s.variant) t (xHoldEnd n)

/-- SAFE_MOVE_END (R367). -/
def execSafeMoveEnd (t : Nat) (n : Nat) (s : State) : Host.Outcome State Fault Refusal :=
  s.eventOf (n < dacCount s.variant) t (xSafeMoveEnd n)

/-- DAC_CURRENT_LIMIT (R369). -/
def execDacCurrentLimit (t : Nat) (n : Nat) (s : State) : Host.Outcome State Fault Refusal :=
  s.eventOf (n < dacCount s.variant) t (xCurrentLimit n)

/-- DAC_SHORT_TIMEOUT (R369). -/
def execDacShortTimeout (t : Nat) (n : Nat) (s : State) : Host.Outcome State Fault Refusal :=
  s.eventOf (n < dacCount s.variant) t (xShortTimeout n)

/-- DAC_CLEAR (R369). -/
def execDacClear (q : Req) (n : Nat) (s : State) : Host.Outcome State Fault Refusal :=
  s.writesOf (n < 32) q (K.dacClear n)

end Sys2Proof.Machine
end

