-- ==== Sys2Proof/Machine/CmdLanes.lean ====
section
/-! DEFINITION. The meanings of the commands on lanes, stream packets and the management port (17_lanes_packets.md). -/

namespace Sys2Proof.Machine

/-- LANE_ENABLE (R372). -/
def execLaneEnable (q : Req) (n : Nat) (s : State) : Host.Outcome State Fault Refusal :=
  s.writesOf (n < 16) q (K.laneEnable n)

/-- LANE_LINK_UP (R374). -/
def execLaneLinkUp (t : Nat) (n : Nat) (s : State) : Host.Outcome State Fault Refusal :=
  s.eventOf (n < laneCount s.variant) t (xLinkUp n)

/-- LANE_LINK_DOWN (R374). -/
def execLaneLinkDown (t : Nat) (n : Nat) (s : State) : Host.Outcome State Fault Refusal :=
  s.eventOf (n < laneCount s.variant) t (xLinkDown n)

/-- FEC_UNCORRECTABLE (R385). -/
def execFecUncorrectable (t : Nat) (n : Nat) (s : State) : Host.Outcome State Fault Refusal :=
  s.eventOf (n < laneCount s.variant) t (xFecUncorrectable n)

/-- FEC_SER_CHECK (R384). -/
def execFecSerCheck (t : Nat) (n : Nat) (symbols : Nat) (errors : Nat) (s : State) : Host.Outcome State Fault Refusal :=
  s.eventOf (n < laneCount s.variant) t (xFecSer n symbols errors)

/-- PAUSE_FRAME (R378). -/
def execPauseFrame (t : Nat) (n : Nat) (quanta : Nat) (s : State) : Host.Outcome State Fault Refusal :=
  s.eventOf (n < laneCount s.variant) t (xPauseFrame n quanta)

/-- PAUSE_EXPIRY (R378). -/
def execPauseExpiry (t : Nat) (n : Nat) (s : State) : Host.Outcome State Fault Refusal :=
  s.eventOf (n < laneCount s.variant) t (xPauseExpiry n)

/-- FLOW_LIMIT_EXPIRY (R378). -/
def execFlowLimitExpiry (t : Nat) (n : Nat) (s : State) : Host.Outcome State Fault Refusal :=
  s.eventOf (n < laneCount s.variant) t (xFlowLimit n)

/-- ARP_REQUEST (R375). -/
def execArpRequest (t : Nat) (port : Nat) (target : Nat) (v6 : Bool) (sender : Nat) (mac : Nat) (s : State) : Host.Outcome State Fault Refusal :=
  s.eventOf (etherPort s.variant port) t (xArpRequest port target v6 sender mac)

/-- ICMP_ECHO (R375). -/
def execIcmpEcho (t : Nat) (port : Nat) (src : Nat) (data : List Byte) (s : State) : Host.Outcome State Fault Refusal :=
  s.eventOf (etherPort s.variant port) t (xIcmpEcho port src data)

/-- ARP_REPLY (R377). -/
def execArpReply (t : Nat) (n : Nat) (addr : Nat) (mac : Nat) (s : State) : Host.Outcome State Fault Refusal :=
  s.eventOf (n < laneCount s.variant) t (xArpReply n addr mac)

/-- RESOLUTION_RETRY (R377). -/
def execResolutionRetry (t : Nat) (n : Nat) (s : State) : Host.Outcome State Fault Refusal :=
  s.eventOf (n < laneCount s.variant) t (xResolutionRetry n)

/-- RESOLUTION_REFRESH (R377). -/
def execResolutionRefresh (t : Nat) (n : Nat) (s : State) : Host.Outcome State Fault Refusal :=
  s.eventOf (n < laneCount s.variant) t (xResolutionRefresh n)

/-- STREAM_PACKET_SEND (R382). -/
def execStreamPacketSend (t : Nat) (n : Nat) (s : State) : Host.Outcome State Fault Refusal :=
  s.eventOf (n < laneCount s.variant) t (xStreamSend n)

/-- LANE_CLEAR (R385). -/
def execLaneClear (q : Req) (n : Nat) (s : State) : Host.Outcome State Fault Refusal :=
  s.writesOf (n < 16) q (K.laneClear n)

/-- MGMT_CLEAR (R386). -/
def execMgmtClear (q : Req) (s : State) : Host.Outcome State Fault Refusal :=
  s.writes q (K.portsMgmtClear)

/-- FRAME_DROPPED (R375). -/
def execFrameDropped (t : Nat) (port : Nat) (fcs : Bool) (s : State) : Host.Outcome State Fault Refusal :=
  s.eventOf (etherPort s.variant port) t (xFrameDropped port fcs)

/-- FAULT_ORDERED_SETS (R374). -/
def execFaultOrderedSets (t : Nat) (lane : Nat) (on : Bool) (s : State) : Host.Outcome State Fault Refusal :=
  s.eventOf (lane < laneCount s.variant) t (xFaultSets lane on)

/-- MGMT_LINK_UP (R386). -/
def execMgmtLinkUp (t : Nat) (mode : Nat) (speed : Nat) (s : State) : Host.Outcome State Fault Refusal :=
  s.event t (xMgmtUp mode speed)

/-- MGMT_LINK_DOWN (R386). -/
def execMgmtLinkDown (t : Nat) (s : State) : Host.Outcome State Fault Refusal :=
  s.event t (xMgmtDown)

end Sys2Proof.Machine
end

