-- ==== Sys2Proof/Machine/CmdPins.lean ====
section
/-! DEFINITION. The meanings of the commands on pins, pattern units and event sources (18_pins.md, 19_events.md). -/

namespace Sys2Proof.Machine

/-- GPIO_BANK_WRITE (R392). -/
def execGpioBankWrite (q : Req) (b : Nat) (s : State) : Host.Outcome State Fault Refusal :=
  s.writesOf (b < 6) q (K.gpioBankWrite b)

/-- GPIO_OUT_WRITE (R392). -/
def execGpioOutWrite (q : Req) (b : Nat) (s : State) : Host.Outcome State Fault Refusal :=
  s.writesOf (b < 6) q (K.gpioBankOut b)

/-- GPIO_FUNC_WRITE (R391). -/
def execGpioFuncWrite (q : Req) (k : Nat) (s : State) : Host.Outcome State Fault Refusal :=
  s.writesOf (k < 96) q (K.gpioPinFunc k)

/-- PIN_LATCH_CAPTURE (R395). -/
def execPinLatchCapture (t : Nat) (k : Nat) (s : State) : Host.Outcome State Fault Refusal :=
  s.eventOf (k < 96) t (xLatchCapture k)

/-- FUNC_FIRST_HANDSHAKE (R395). -/
def execFuncFirstHandshake (t : Nat) (k : Nat) (s : State) : Host.Outcome State Fault Refusal :=
  s.eventOf (k < 96) t (xHandshake k)

/-- PIN_INPUT_CHANGE (R394). -/
def execPinInputChange (t : Nat) (k : Nat) (level : Bool) (held : Nat) (s : State) : Host.Outcome State Fault Refusal :=
  s.runOf (k < 96) t (xPinInput k level held)

/-- BANK_VIO_CHECK (R388). -/
def execBankVioCheck (t : Nat) (b : Nat) (mv : Nat) (s : State) : Host.Outcome State Fault Refusal :=
  s.eventOf (b < 6) t (xVioCheck b mv)

/-- PATTERN_WRITE (R398). -/
def execPatternWrite (q : Req) (u : Nat) (sub : Nat) (s : State) : Host.Outcome State Fault Refusal :=
  s.writesOf (u < 16 && 1 ≤ sub && sub ≤ 5) q (key (0x6900 + u) sub)

/-- PATTERN_MATCH (R397). -/
def execPatternMatch (t : Nat) (u : Nat) (s : State) : Host.Outcome State Fault Refusal :=
  s.eventOf (u < 16) t (xPatternMatch u)

/-- EVENT_CLEAR (R409). -/
def execEventClear (q : Req) (n : Nat) (s : State) : Host.Outcome State Fault Refusal :=
  s.writesOf (n < 768) q (K.eventClear n)

/-- CLEAR_NODE (R409). -/
def execClearNode (q : Req) (s : State) : Host.Outcome State Fault Refusal :=
  s.writes q (K.deviceEventsClearNode)

/-- EVENT_TEST (R411). -/
def execEventTest (q : Req) (s : State) : Host.Outcome State Fault Refusal :=
  s.writes q (K.deviceEventsTest)

/-- EVENT_ENABLE_WRITE (R406). -/
def execEventEnableWrite (q : Req) (n : Nat) (sub : Nat) (s : State) : Host.Outcome State Fault Refusal :=
  s.writesOf (n < 768 && (sub == 2 || sub == 4 || sub == 6)) q (key (0x7000 + n) sub)

/-- EVENT_LATCH_WRITE (R405). -/
def execEventLatchWrite (q : Req) (n : Nat) (s : State) : Host.Outcome State Fault Refusal :=
  s.writesOf (n < 768) q (K.eventLatch n)

end Sys2Proof.Machine
end

