-- ==== Sys2Proof/Machine/Dispatch.lean ====
section
/-! DEFINITION. One arm per command. -/

namespace Sys2Proof.Machine


def exec (i : Instr) (s : State) : Host.Outcome State Fault Refusal :=
  match i with
  | .read q => Sys2Proof.Machine.execRead q s
  | .write q => Sys2Proof.Machine.execWrite q s
  | .rmw q => Sys2Proof.Machine.execRmw q s
  | .readMeta q => Sys2Proof.Machine.execReadMeta q s
  | .blockOpen q => Sys2Proof.Machine.execBlockOpen q s
  | .blockSegment q => Sys2Proof.Machine.execBlockSegment q s
  | .blockClose q => Sys2Proof.Machine.execBlockClose q s
  | .blockAbort q => Sys2Proof.Machine.execBlockAbort q s
  | .blockTransferSilence t id => Sys2Proof.Machine.execBlockTransferSilence t id s
  | .subscribe q => Sys2Proof.Machine.execSubscribe q s
  | .unsubscribe q => Sys2Proof.Machine.execUnsubscribe q s
  | .subscriptionLeaseExpiry t id => Sys2Proof.Machine.execSubscriptionLeaseExpiry t id s
  | .periodicNotice t id => Sys2Proof.Machine.execPeriodicNotice t id s
  | .replay q => Sys2Proof.Machine.execReplay q s
  | .requestQueueTimeout q op => Sys2Proof.Machine.execRequestQueueTimeout q op s
  | .spiStatus t => Sys2Proof.Machine.execSpiStatus t s
  | .spiResponse t => Sys2Proof.Machine.execSpiResponse t s
  | .spiNotification t => Sys2Proof.Machine.execSpiNotification t s
  | .parallelStatusRead t levels => Sys2Proof.Machine.execParallelStatusRead t levels s
  | .parallelResponseRead t => Sys2Proof.Machine.execParallelResponseRead t s
  | .parallelNotificationRead t => Sys2Proof.Machine.execParallelNotificationRead t s
  | .umzinRsp t => Sys2Proof.Machine.execUmzinRsp t s
  | .modeRequestStandby q => Sys2Proof.Machine.execModeRequestStandby q s
  | .modeRequestPrepare q => Sys2Proof.Machine.execModeRequestPrepare q s
  | .modeRequestRun q => Sys2Proof.Machine.execModeRequestRun q s
  | .modeRequestHold q => Sys2Proof.Machine.execModeRequestHold q s
  | .modeRequestSafe q => Sys2Proof.Machine.execModeRequestSafe q s
  | .modeRequestCancel q => Sys2Proof.Machine.execModeRequestCancel q s
  | .modeLoad q => Sys2Proof.Machine.execModeLoad q s
  | .prepareStepEnd t f => Sys2Proof.Machine.execPrepareStepEnd t f s
  | .alignLimitExpiry t => Sys2Proof.Machine.execAlignLimitExpiry t s
  | .runEntryTrigger t p => Sys2Proof.Machine.execRunEntryTrigger t p s
  | .holdTakesEffect t => Sys2Proof.Machine.execHoldTakesEffect t s
  | .autoResume t p => Sys2Proof.Machine.execAutoResume t p s
  | .drainComplete t => Sys2Proof.Machine.execDrainComplete t s
  | .shutdownStepEnd t => Sys2Proof.Machine.execShutdownStepEnd t s
  | .wakeStepEnd t ok => Sys2Proof.Machine.execWakeStepEnd t ok s
  | .safeRingsFreeze t => Sys2Proof.Machine.execSafeRingsFreeze t s
  | .safeClear q => Sys2Proof.Machine.execSafeClear q s
  | .deviceReset q => Sys2Proof.Machine.execDeviceReset q s
  | .watchdogExpiry t => Sys2Proof.Machine.execWatchdogExpiry t s
  | .watchdogReset t => Sys2Proof.Machine.execWatchdogReset t s
  | .shadowCopyComplete t => Sys2Proof.Machine.execShadowCopyComplete t s
  | .porNLow t => Sys2Proof.Machine.execPorNLow t s
  | .porNRelease t => Sys2Proof.Machine.execPorNRelease t s
  | .backstopLive t strap bad => Sys2Proof.Machine.execBackstopLive t strap bad s
  | .storeTrainingEnd t ok repaired => Sys2Proof.Machine.execStoreTrainingEnd t ok repaired s
  | .refclkDetected t hz => Sys2Proof.Machine.execRefclkDetected t hz s
  | .bootHeaderRead t board => Sys2Proof.Machine.execBootHeaderRead t board s
  | .bootImageRead t ok => Sys2Proof.Machine.execBootImageRead t ok s
  | .firmwareConfirmed t => Sys2Proof.Machine.execFirmwareConfirmed t s
  | .confirmTimeout t => Sys2Proof.Machine.execConfirmTimeout t s
  | .railExcursion t rail mv => Sys2Proof.Machine.execRailExcursion t rail mv s
  | .railBelowReset t rail mv => Sys2Proof.Machine.execRailBelowReset t rail mv s
  | .dacSupplyLoss t rail mv => Sys2Proof.Machine.execDacSupplyLoss t rail mv s
  | .tempSensorRead t digital ana0 ana1 => Sys2Proof.Machine.execTempSensorRead t digital ana0 ana1 s
  | .safeNLow t => Sys2Proof.Machine.execSafeNLow t s
  | .versionsAcceptWrite q => Sys2Proof.Machine.execVersionsAcceptWrite q s
  | .mgmtSelectWrite q => Sys2Proof.Machine.execMgmtSelectWrite q s
  | .firmwareSlotProgrammed t slot ok => Sys2Proof.Machine.execFirmwareSlotProgrammed t slot ok s
  | .refclkLoss t => Sys2Proof.Machine.execRefclkLoss t s
  | .refclkReturn t => Sys2Proof.Machine.execRefclkReturn t s
  | .holdoverLimitExpiry t => Sys2Proof.Machine.execHoldoverLimitExpiry t s
  | .synthLocked t n phase => Sys2Proof.Machine.execSynthLocked t n phase s
  | .timeSet q => Sys2Proof.Machine.execTimeSet q s
  | .ptpMessage t m => Sys2Proof.Machine.execPtpMessage t m s
  | .ptpAnnounceTimeout t => Sys2Proof.Machine.execPtpAnnounceTimeout t s
  | .encoderEdge t e a b h => Sys2Proof.Machine.execEncoderEdge t e a b h s
  | .encoderZEdge t e => Sys2Proof.Machine.execEncoderZEdge t e s
  | .encoderWindow t e => Sys2Proof.Machine.execEncoderWindow t e s
  | .encoderStandstill t e => Sys2Proof.Machine.execEncoderStandstill t e s
  | .encoderSignalLoss t e => Sys2Proof.Machine.execEncoderSignalLoss t e s
  | .encPresetWrite q e => Sys2Proof.Machine.execEncPresetWrite q e s
  | .encFilterWrite q e rateMax => Sys2Proof.Machine.execEncFilterWrite q e rateMax s
  | .encEnable q e => Sys2Proof.Machine.execEncEnable q e s
  | .lineTrigger t p => Sys2Proof.Machine.execLineTrigger t p s
  | .cdsLineEnd t n => Sys2Proof.Machine.execCdsLineEnd t n s
  | .rallyTimeSend t lane => Sys2Proof.Machine.execRallyTimeSend t lane s
  | .rallyTimeFragment t lane f => Sys2Proof.Machine.execRallyTimeFragment t lane f s
  | .sharedTriggerAnnounce t p => Sys2Proof.Machine.execSharedTriggerAnnounce t p s
  | .triggerHeartbeat t p => Sys2Proof.Machine.execTriggerHeartbeat t p s
  | .rallyTriggerFragment t lane f => Sys2Proof.Machine.execRallyTriggerFragment t lane f s
  | .triggerTimeout t p => Sys2Proof.Machine.execTriggerTimeout t p s
  | .rallyTrackFragment t lane f => Sys2Proof.Machine.execRallyTrackFragment t lane f s
  | .rallyControlFragment t lane hop c => Sys2Proof.Machine.execRallyControlFragment t lane hop c s
  | .whistleFragment t lane f => Sys2Proof.Machine.execWhistleFragment t lane f s
  | .umzinFragment t lane hop dest origin bytes => Sys2Proof.Machine.execUmzinFragment t lane hop dest origin bytes s
  | .streamFragment t lane f => Sys2Proof.Machine.execStreamFragment t lane f s
  | .rallyLaneLost t lane => Sys2Proof.Machine.execRallyLaneLost t lane s
  | .healingTimeout t => Sys2Proof.Machine.execHealingTimeout t s
  | .negotiationWindow t => Sys2Proof.Machine.execNegotiationWindow t s
  | .backstopWhistle t j => Sys2Proof.Machine.execBackstopWhistle t j s
  | .feBatch t n => Sys2Proof.Machine.execFeBatch t n s
  | .primingComplete t n j => Sys2Proof.Machine.execPrimingComplete t n j s
  | .feEnable q n => Sys2Proof.Machine.execFeEnable q n s
  | .coefSetWrite q c => Sys2Proof.Machine.execCoefSetWrite q c s
  | .boardCommit q => Sys2Proof.Machine.execBoardCommit q s
  | .boardProgrammed t => Sys2Proof.Machine.execBoardProgrammed t s
  | .graphCommit q => Sys2Proof.Machine.execGraphCommit q s
  | .placerTrial q => Sys2Proof.Machine.execPlacerTrial q s
  | .trialComplete t => Sys2Proof.Machine.execTrialComplete t s
  | .defectAdd q => Sys2Proof.Machine.execDefectAdd q s
  | .defectClear q => Sys2Proof.Machine.execDefectClear q s
  | .ctxRetry q c => Sys2Proof.Machine.execCtxRetry q c s
  | .ctxSwap q c => Sys2Proof.Machine.execCtxSwap q c s
  | .substitutionStepEnd t tile ok => Sys2Proof.Machine.execSubstitutionStepEnd t tile ok s
  | .substitutionSwitch t tile => Sys2Proof.Machine.execSubstitutionSwitch t tile s
  | .swappedCountExpiry t c => Sys2Proof.Machine.execSwappedCountExpiry t c s
  | .pieceMoveStepEnd t j => Sys2Proof.Machine.execPieceMoveStepEnd t j s
  | .ctxRingResume q c => Sys2Proof.Machine.execCtxRingResume q c s
  | .arbGrant t g => Sys2Proof.Machine.execArbGrant t g s
  | .grantHoldLimit t p client => Sys2Proof.Machine.execGrantHoldLimit t p client s
  | .arbClientClear q k => Sys2Proof.Machine.execArbClientClear q k s
  | .arbClearAll q => Sys2Proof.Machine.execArbClearAll q s
  | .arbLiberoWrite q => Sys2Proof.Machine.execArbLiberoWrite q s
  | .arbSyncClear q => Sys2Proof.Machine.execArbSyncClear q s
  | .cadenceRefresh t m => Sys2Proof.Machine.execCadenceRefresh t m s
  | .writeDrainStart t p => Sys2Proof.Machine.execWriteDrainStart t p s
  | .writeDrainEnd t p => Sys2Proof.Machine.execWriteDrainEnd t p s
  | .refreshInterval t p blocked => Sys2Proof.Machine.execRefreshInterval t p blocked s
  | .stackTempRead t temp => Sys2Proof.Machine.execStackTempRead t temp s
  | .tailFlushTimeout t c => Sys2Proof.Machine.execTailFlushTimeout t c s
  | .rtWaitExceeded t p wait => Sys2Proof.Machine.execRtWaitExceeded t p wait s
  | .storePcClear q p => Sys2Proof.Machine.execStorePcClear q p s
  | .regionCopyComplete t => Sys2Proof.Machine.execRegionCopyComplete t s
  | .parityRetry t p ok => Sys2Proof.Machine.execParityRetry t p ok s
  | .shadowPatrol t addrs bad => Sys2Proof.Machine.execShadowPatrol t addrs bad s
  | .probeArm q => Sys2Proof.Machine.execProbeArm q s
  | .probeTrigger t => Sys2Proof.Machine.execProbeTrigger t s
  | .probeDone t => Sys2Proof.Machine.execProbeDone t s
  | .backstopProgrammed t ok => Sys2Proof.Machine.execBackstopProgrammed t ok s
  | .backstopActivate q => Sys2Proof.Machine.execBackstopActivate q s
  | .backstopLatchCheck t upsets => Sys2Proof.Machine.execBackstopLatchCheck t upsets s
  | .configSectorReload q k => Sys2Proof.Machine.execConfigSectorReload q k s
  | .reloadStepEnd t ok => Sys2Proof.Machine.execReloadStepEnd t ok s
  | .scrubFrame t f => Sys2Proof.Machine.execScrubFrame t f s
  | .scrubEnable q => Sys2Proof.Machine.execScrubEnable q s
  | .scrubWatchdog t => Sys2Proof.Machine.execScrubWatchdog t s
  | .calInternal q => Sys2Proof.Machine.execCalInternal q s
  | .calDark q => Sys2Proof.Machine.execCalDark q s
  | .calFlat q => Sys2Proof.Machine.execCalFlat q s
  | .ladderTraceEnd t ok => Sys2Proof.Machine.execLadderTraceEnd t ok s
  | .calRunEnd t n r => Sys2Proof.Machine.execCalRunEnd t n r s
  | .sceneRunEnd t n held => Sys2Proof.Machine.execSceneRunEnd t n held s
  | .invarCheck t ppm => Sys2Proof.Machine.execInvarCheck t ppm s
  | .limitRefresh t n m => Sys2Proof.Machine.execLimitRefresh t n m s
  | .ilvWordCount t n f => Sys2Proof.Machine.execIlvWordCount t n f s
  | .ilvReset q n => Sys2Proof.Machine.execIlvReset q n s
  | .tileFault t n bit => Sys2Proof.Machine.execTileFault t n bit s
  | .monitorTrip t n m inputs => Sys2Proof.Machine.execMonitorTrip t n m inputs s
  | .monitorWrite q n m sub => Sys2Proof.Machine.execMonitorWrite q n m sub s
  | .sceneEnableWrite q n => Sys2Proof.Machine.execSceneEnableWrite q n s
  | .busContention t bus => Sys2Proof.Machine.execBusContention t bus s
  | .contentionRecovery t bus => Sys2Proof.Machine.execContentionRecovery t bus s
  | .padOverload t n => Sys2Proof.Machine.execPadOverload t n s
  | .padClear q n => Sys2Proof.Machine.execPadClear q n s
  | .padTermWrite q n => Sys2Proof.Machine.execPadTermWrite q n s
  | .padTestWrite q n => Sys2Proof.Machine.execPadTestWrite q n s
  | .bufPeakClear q n => Sys2Proof.Machine.execBufPeakClear q n s
  | .dacEnable q n => Sys2Proof.Machine.execDacEnable q n s
  | .dacStrobe t g => Sys2Proof.Machine.execDacStrobe t g s
  | .deglitchHoldEnd t n => Sys2Proof.Machine.execDeglitchHoldEnd t n s
  | .safeMoveEnd t n => Sys2Proof.Machine.execSafeMoveEnd t n s
  | .dacCurrentLimit t n => Sys2Proof.Machine.execDacCurrentLimit t n s
  | .dacShortTimeout t n => Sys2Proof.Machine.execDacShortTimeout t n s
  | .dacClear q n => Sys2Proof.Machine.execDacClear q n s
  | .laneEnable q n => Sys2Proof.Machine.execLaneEnable q n s
  | .laneLinkUp t n => Sys2Proof.Machine.execLaneLinkUp t n s
  | .laneLinkDown t n => Sys2Proof.Machine.execLaneLinkDown t n s
  | .fecUncorrectable t n => Sys2Proof.Machine.execFecUncorrectable t n s
  | .fecSerCheck t n symbols errors => Sys2Proof.Machine.execFecSerCheck t n symbols errors s
  | .pauseFrame t n quanta => Sys2Proof.Machine.execPauseFrame t n quanta s
  | .pauseExpiry t n => Sys2Proof.Machine.execPauseExpiry t n s
  | .flowLimitExpiry t n => Sys2Proof.Machine.execFlowLimitExpiry t n s
  | .arpRequest t port target v6 sender mac => Sys2Proof.Machine.execArpRequest t port target v6 sender mac s
  | .icmpEcho t port src data => Sys2Proof.Machine.execIcmpEcho t port src data s
  | .arpReply t n addr mac => Sys2Proof.Machine.execArpReply t n addr mac s
  | .resolutionRetry t n => Sys2Proof.Machine.execResolutionRetry t n s
  | .resolutionRefresh t n => Sys2Proof.Machine.execResolutionRefresh t n s
  | .streamPacketSend t n => Sys2Proof.Machine.execStreamPacketSend t n s
  | .laneClear q n => Sys2Proof.Machine.execLaneClear q n s
  | .mgmtClear q => Sys2Proof.Machine.execMgmtClear q s
  | .gpioBankWrite q b => Sys2Proof.Machine.execGpioBankWrite q b s
  | .gpioOutWrite q b => Sys2Proof.Machine.execGpioOutWrite q b s
  | .gpioFuncWrite q k => Sys2Proof.Machine.execGpioFuncWrite q k s
  | .pinLatchCapture t k => Sys2Proof.Machine.execPinLatchCapture t k s
  | .funcFirstHandshake t k => Sys2Proof.Machine.execFuncFirstHandshake t k s
  | .pinInputChange t k level held => Sys2Proof.Machine.execPinInputChange t k level held s
  | .bankVioCheck t b mv => Sys2Proof.Machine.execBankVioCheck t b mv s
  | .patternWrite q u sub => Sys2Proof.Machine.execPatternWrite q u sub s
  | .patternMatch t u => Sys2Proof.Machine.execPatternMatch t u s
  | .eventClear q n => Sys2Proof.Machine.execEventClear q n s
  | .clearNode q => Sys2Proof.Machine.execClearNode q s
  | .eventTest q => Sys2Proof.Machine.execEventTest q s
  | .eventEnableWrite q n sub => Sys2Proof.Machine.execEventEnableWrite q n sub s
  | .eventLatchWrite q n => Sys2Proof.Machine.execEventLatchWrite q n s
  | .sampleInstant t n half codes far => Sys2Proof.Machine.execSampleInstant t n half codes far s
  | .portCellWord t q k => Sys2Proof.Machine.execPortCellWord t q k s
  | .fabricWireChange t w => Sys2Proof.Machine.execFabricWireChange t w s
  | .paceWireEdge t k w => Sys2Proof.Machine.execPaceWireEdge t k w s
  | .backstopOscEdge t => Sys2Proof.Machine.execBackstopOscEdge t s
  | .enableTransitionEnd t u => Sys2Proof.Machine.execEnableTransitionEnd t u s
  | .macrocellsReloaded t => Sys2Proof.Machine.execMacrocellsReloaded t s
  | .messageDropped t port src reason bytes => Sys2Proof.Machine.execMessageDropped t port src reason bytes s
  | .frameDropped t port fcs => Sys2Proof.Machine.execFrameDropped t port fcs s
  | .fragmentDropped t lane => Sys2Proof.Machine.execFragmentDropped t lane s
  | .fragmentBoundary t lane => Sys2Proof.Machine.execFragmentBoundary t lane s
  | .faultOrderedSets t lane on => Sys2Proof.Machine.execFaultOrderedSets t lane on s
  | .mgmtLinkUp t mode speed => Sys2Proof.Machine.execMgmtLinkUp t mode speed s
  | .mgmtLinkDown t => Sys2Proof.Machine.execMgmtLinkDown t s
  | .railReturn t rail mv => Sys2Proof.Machine.execRailReturn t rail mv s
  | .safeNRelease t => Sys2Proof.Machine.execSafeNRelease t s

end Sys2Proof.Machine
end

