-- ==== Sys2Proof/WellFormed.lean ====
section
/-! DEFINITION. Which commands are well formed: the units that they name lie within the numbering spans and the variant (R1, R2, R27),
and their fields within the widths that the spec gives them (R44, R51, R180). -/

namespace Sys2Proof

open Machine

/-- Whether the units, ports and sources that a command names are there for it: a request names a port of the variant and a unit within
its numbering span (an absent one within it answers ABSENT, R2), an event a unit that the variant has
(DESIGN CHOICE, log entry 9). -/
def unitsPresent (v : Variant) : Instr → Bool
  | .read q => portPresent v q.port
  | .write q => portPresent v q.port
  | .rmw q => portPresent v q.port
  | .readMeta q => portPresent v q.port
  | .blockOpen q => portPresent v q.port
  | .blockSegment q => portPresent v q.port
  | .blockClose q => portPresent v q.port
  | .blockAbort q => portPresent v q.port
  | .blockTransferSilence _ _ => true
  | .subscribe q => portPresent v q.port
  | .unsubscribe q => portPresent v q.port
  | .subscriptionLeaseExpiry _ _ => true
  | .periodicNotice _ _ => true
  | .replay q => portPresent v q.port
  | .requestQueueTimeout q _ => portPresent v q.port
  | .spiStatus _ => true
  | .spiResponse _ => true
  | .spiNotification _ => true
  | .parallelStatusRead _ _ => true
  | .parallelResponseRead _ => true
  | .parallelNotificationRead _ => true
  | .umzinRsp _ => true
  | .modeRequestStandby q => portPresent v q.port
  | .modeRequestPrepare q => portPresent v q.port
  | .modeRequestRun q => portPresent v q.port
  | .modeRequestHold q => portPresent v q.port
  | .modeRequestSafe q => portPresent v q.port
  | .modeRequestCancel q => portPresent v q.port
  | .modeLoad q => portPresent v q.port
  | .prepareStepEnd _ _ => true
  | .alignLimitExpiry _ => true
  | .runEntryTrigger _ p => p < 16
  | .holdTakesEffect _ => true
  | .autoResume _ p => p < 16
  | .drainComplete _ => true
  | .shutdownStepEnd _ => true
  | .wakeStepEnd _ _ => true
  | .safeRingsFreeze _ => true
  | .safeClear q => portPresent v q.port
  | .deviceReset q => portPresent v q.port
  | .watchdogExpiry _ => true
  | .watchdogReset _ => true
  | .shadowCopyComplete _ => true
  | .porNLow _ => true
  | .porNRelease _ => true
  | .backstopLive _ _ _ => true
  | .storeTrainingEnd _ _ _ => true
  | .refclkDetected _ _ => true
  | .bootHeaderRead _ _ => true
  | .bootImageRead _ _ => true
  | .firmwareConfirmed _ => true
  | .confirmTimeout _ => true
  | .railExcursion _ rail _ => railPresent v rail
  | .railBelowReset _ rail _ => railPresent v rail
  | .dacSupplyLoss _ rail _ => railPresent v rail
  | .tempSensorRead _ _ _ _ => true
  | .safeNLow _ => true
  | .versionsAcceptWrite q => portPresent v q.port
  | .mgmtSelectWrite q => portPresent v q.port
  | .firmwareSlotProgrammed _ slot _ => slot < 2
  | .refclkLoss _ => true
  | .refclkReturn _ => true
  | .holdoverLimitExpiry _ => true
  | .synthLocked _ n _ => n < quadCount v
  | .timeSet q => portPresent v q.port
  | .ptpMessage _ _ => true
  | .ptpAnnounceTimeout _ => true
  | .encoderEdge _ e _ _ _ => e < 8
  | .encoderZEdge _ e => e < 8
  | .encoderWindow _ e => e < 8
  | .encoderStandstill _ e => e < 8
  | .encoderSignalLoss _ e => e < 8
  | .encPresetWrite q e => e < 8 && portPresent v q.port
  | .encFilterWrite q e _ => e < 8 && portPresent v q.port
  | .encEnable q e => e < 8 && portPresent v q.port
  | .lineTrigger _ p => p < 16
  | .cdsLineEnd _ n => n < tileCount v
  | .rallyTimeSend _ lane => lane < laneCount v
  | .rallyTimeFragment _ lane _ => lane < laneCount v
  | .sharedTriggerAnnounce _ p => p < 16
  | .triggerHeartbeat _ p => p < 16
  | .rallyTriggerFragment _ lane _ => lane < laneCount v
  | .triggerTimeout _ p => p < 16
  | .rallyTrackFragment _ lane _ => lane < laneCount v
  | .rallyControlFragment _ lane _ _ => lane < laneCount v
  | .whistleFragment _ lane _ => lane < laneCount v
  | .umzinFragment _ lane _ _ _ _ => lane < laneCount v
  | .streamFragment _ lane _ => lane < laneCount v
  | .rallyLaneLost _ lane => lane < laneCount v
  | .healingTimeout _ => true
  | .negotiationWindow _ => true
  | .backstopWhistle _ j => j < 4
  | .feBatch _ n => n < engineCount v
  | .primingComplete _ n j => n < engineCount v && j < 16
  | .feEnable q n => n < 64 && portPresent v q.port
  | .coefSetWrite q c => c < 128 && portPresent v q.port
  | .boardCommit q => portPresent v q.port
  | .boardProgrammed _ => true
  | .graphCommit q => portPresent v q.port
  | .placerTrial q => portPresent v q.port
  | .trialComplete _ => true
  | .defectAdd q => portPresent v q.port
  | .defectClear q => portPresent v q.port
  | .ctxRetry q c => c < 1024 && portPresent v q.port
  | .ctxSwap q c => c < 1024 && portPresent v q.port
  | .substitutionStepEnd _ tile _ => tile < tileCount v
  | .substitutionSwitch _ tile => tile < tileCount v
  | .swappedCountExpiry _ c => c < 1024
  | .pieceMoveStepEnd _ j => j < 256
  | .ctxRingResume q c => c < 1024 && portPresent v q.port
  | .arbGrant _ g => g.port < 32 && g.wants.all (fun w => clientPresent v w.client)
  | .grantHoldLimit _ p client => p < 32 && clientPresent v client
  | .arbClientClear q i => i < 48 && portPresent v q.port
  | .arbClearAll q => portPresent v q.port
  | .arbLiberoWrite q => portPresent v q.port
  | .arbSyncClear q => portPresent v q.port
  | .cadenceRefresh _ _ => true
  | .writeDrainStart _ p => p < 32
  | .writeDrainEnd _ p => p < 32
  | .refreshInterval _ p _ => p < 32
  | .stackTempRead _ _ => true
  | .tailFlushTimeout _ c => c < 1024
  | .rtWaitExceeded _ p _ => p < 32
  | .storePcClear q p => p < 32 && portPresent v q.port
  | .regionCopyComplete _ => true
  | .parityRetry _ p _ => p < 32
  | .shadowPatrol _ _ _ => true
  | .probeArm q => portPresent v q.port
  | .probeTrigger _ => true
  | .probeDone _ => true
  | .backstopProgrammed _ _ => true
  | .backstopActivate q => portPresent v q.port
  | .backstopLatchCheck _ _ => true
  | .configSectorReload q k => k < 4 && portPresent v q.port
  | .reloadStepEnd _ _ => true
  | .scrubFrame _ _ => true
  | .scrubEnable q => portPresent v q.port
  | .scrubWatchdog _ => true
  | .calInternal q => portPresent v q.port
  | .calDark q => portPresent v q.port
  | .calFlat q => portPresent v q.port
  | .ladderTraceEnd _ _ => true
  | .calRunEnd _ n _ => n < tileCount v
  | .sceneRunEnd _ n _ => n < tileCount v
  | .invarCheck _ _ => true
  | .limitRefresh _ n _ => n < tileCount v
  | .ilvWordCount _ n _ => n < tileCount v
  | .ilvReset q n => n < 256 && portPresent v q.port
  | .tileFault _ n bit => n < tileCount v && bit < 8
  | .monitorTrip _ n i _ => n < tileCount v && i < 2
  | .monitorWrite q n i sub => n < 256 && i < 2 && monitorSub sub && portPresent v q.port
  | .sceneEnableWrite q n => n < 256 && portPresent v q.port
  | .busContention _ bus => busPresent v bus
  | .contentionRecovery _ bus => busPresent v bus
  | .padOverload _ n => n < tileCount v
  | .padClear q n => n < 256 && portPresent v q.port
  | .padTermWrite q n => n < 256 && portPresent v q.port
  | .padTestWrite q n => n < 256 && portPresent v q.port
  | .bufPeakClear q n => n < 256 && portPresent v q.port
  | .dacEnable q n => n < 32 && portPresent v q.port
  | .dacStrobe _ g => g < 4
  | .deglitchHoldEnd _ n => n < dacCount v
  | .safeMoveEnd _ n => n < dacCount v
  | .dacCurrentLimit _ n => n < dacCount v
  | .dacShortTimeout _ n => n < dacCount v
  | .dacClear q n => n < 32 && portPresent v q.port
  | .laneEnable q n => n < 16 && portPresent v q.port
  | .laneLinkUp _ n => n < laneCount v
  | .laneLinkDown _ n => n < laneCount v
  | .fecUncorrectable _ n => n < laneCount v
  | .fecSerCheck _ n _ _ => n < laneCount v
  | .pauseFrame _ n _ => n < laneCount v
  | .pauseExpiry _ n => n < laneCount v
  | .flowLimitExpiry _ n => n < laneCount v
  | .arpRequest _ port _ _ _ _ => etherPort v port
  | .icmpEcho _ port _ _ => etherPort v port
  | .arpReply _ n _ _ => n < laneCount v
  | .resolutionRetry _ n => n < laneCount v
  | .resolutionRefresh _ n => n < laneCount v
  | .streamPacketSend _ n => n < laneCount v
  | .laneClear q n => n < 16 && portPresent v q.port
  | .mgmtClear q => portPresent v q.port
  | .gpioBankWrite q b => b < 6 && portPresent v q.port
  | .gpioOutWrite q b => b < 6 && portPresent v q.port
  | .gpioFuncWrite q k => k < 96 && portPresent v q.port
  | .pinLatchCapture _ k => k < 96
  | .funcFirstHandshake _ k => k < 96
  | .pinInputChange _ k _ _ => k < 96
  | .bankVioCheck _ b _ => b < 6
  | .patternWrite q u sub => u < 16 && 1 ≤ sub && sub ≤ 5 && portPresent v q.port
  | .patternMatch _ u => u < 16
  | .eventClear q n => n < 768 && portPresent v q.port
  | .clearNode q => portPresent v q.port
  | .eventTest q => portPresent v q.port
  | .eventEnableWrite q n sub => n < 768 && (sub == 2 || sub == 4 || sub == 6) && portPresent v q.port
  | .eventLatchWrite q n => n < 768 && portPresent v q.port
  | .sampleInstant _ n half _ _ => n < tileCount v && half < 2
  | .portCellWord _ q k => q < quadCount v && k < 256
  | .fabricWireChange _ w => wirePresent v w
  | .paceWireEdge _ i _ => i < 8
  | .backstopOscEdge _ => true
  | .enableTransitionEnd _ u => unitPresent v u
  | .macrocellsReloaded _ => true
  | .messageDropped _ port _ _ _ => portPresent v port
  | .frameDropped _ port _ => etherPort v port
  | .fragmentDropped _ lane => lane < laneCount v
  | .fragmentBoundary _ lane => lane < laneCount v
  | .faultOrderedSets _ lane _ => lane < laneCount v
  | .mgmtLinkUp _ _ _ => true
  | .mgmtLinkDown _ => true
  | .railReturn _ rail _ => railPresent v rail
  | .safeNRelease _ => true

/-- Whether the fields of a request fit the header of R51 and its body the length field. -/
def requestFits (q : Req) : Bool :=
  q.version < 256 && q.seq < 65536 && q.index < 65536 && q.sub < 256 && q.ty < 256 && q.transfer < 65536 && q.body.length < 65536

/-- Whether a fragment has the header of 64 bits (R180). -/
def fragmentFits (f : Frag) : Bool := f.header < 2 ^ 64

/-- Whether the fields that a command carries fit their widths. -/
def fieldsFit : Instr → Bool
  | .read q => requestFits q
  | .write q => requestFits q
  | .rmw q => requestFits q
  | .readMeta q => requestFits q
  | .blockOpen q => requestFits q
  | .blockSegment q => requestFits q
  | .blockClose q => requestFits q
  | .blockAbort q => requestFits q
  | .blockTransferSilence _ _ => true
  | .subscribe q => requestFits q
  | .unsubscribe q => requestFits q
  | .subscriptionLeaseExpiry _ _ => true
  | .periodicNotice _ _ => true
  | .replay q => requestFits q
  | .requestQueueTimeout q _ => requestFits q
  | .spiStatus _ => true
  | .spiResponse _ => true
  | .spiNotification _ => true
  | .parallelStatusRead _ _ => true
  | .parallelResponseRead _ => true
  | .parallelNotificationRead _ => true
  | .umzinRsp _ => true
  | .modeRequestStandby q => requestFits q
  | .modeRequestPrepare q => requestFits q
  | .modeRequestRun q => requestFits q
  | .modeRequestHold q => requestFits q
  | .modeRequestSafe q => requestFits q
  | .modeRequestCancel q => requestFits q
  | .modeLoad q => requestFits q
  | .prepareStepEnd _ _ => true
  | .alignLimitExpiry _ => true
  | .runEntryTrigger _ _ => true
  | .holdTakesEffect _ => true
  | .autoResume _ _ => true
  | .drainComplete _ => true
  | .shutdownStepEnd _ => true
  | .wakeStepEnd _ _ => true
  | .safeRingsFreeze _ => true
  | .safeClear q => requestFits q
  | .deviceReset q => requestFits q
  | .watchdogExpiry _ => true
  | .watchdogReset _ => true
  | .shadowCopyComplete _ => true
  | .porNLow _ => true
  | .porNRelease _ => true
  | .backstopLive _ _ _ => true
  | .storeTrainingEnd _ _ _ => true
  | .refclkDetected _ _ => true
  | .bootHeaderRead _ _ => true
  | .bootImageRead _ _ => true
  | .firmwareConfirmed _ => true
  | .confirmTimeout _ => true
  | .railExcursion _ _ _ => true
  | .railBelowReset _ _ _ => true
  | .dacSupplyLoss _ _ _ => true
  | .tempSensorRead _ _ _ _ => true
  | .safeNLow _ => true
  | .versionsAcceptWrite q => requestFits q
  | .mgmtSelectWrite q => requestFits q
  | .firmwareSlotProgrammed _ _ _ => true
  | .refclkLoss _ => true
  | .refclkReturn _ => true
  | .holdoverLimitExpiry _ => true
  | .synthLocked _ _ _ => true
  | .timeSet q => requestFits q
  | .ptpMessage _ _ => true
  | .ptpAnnounceTimeout _ => true
  | .encoderEdge _ _ _ _ _ => true
  | .encoderZEdge _ _ => true
  | .encoderWindow _ _ => true
  | .encoderStandstill _ _ => true
  | .encoderSignalLoss _ _ => true
  | .encPresetWrite q _ => requestFits q
  | .encFilterWrite q _ _ => requestFits q
  | .encEnable q _ => requestFits q
  | .lineTrigger _ _ => true
  | .cdsLineEnd _ _ => true
  | .rallyTimeSend _ _ => true
  | .rallyTimeFragment _ _ f => fragmentFits f
  | .sharedTriggerAnnounce _ _ => true
  | .triggerHeartbeat _ _ => true
  | .rallyTriggerFragment _ _ f => fragmentFits f
  | .triggerTimeout _ _ => true
  | .rallyTrackFragment _ _ f => fragmentFits f
  | .rallyControlFragment _ _ _ _ => true
  | .whistleFragment _ _ f => fragmentFits f
  | .umzinFragment _ _ _ _ _ _ => true
  | .streamFragment _ _ _ => true
  | .rallyLaneLost _ _ => true
  | .healingTimeout _ => true
  | .negotiationWindow _ => true
  | .backstopWhistle _ _ => true
  | .feBatch _ _ => true
  | .primingComplete _ _ _ => true
  | .feEnable q _ => requestFits q
  | .coefSetWrite q _ => requestFits q
  | .boardCommit q => requestFits q
  | .boardProgrammed _ => true
  | .graphCommit q => requestFits q
  | .placerTrial q => requestFits q
  | .trialComplete _ => true
  | .defectAdd q => requestFits q
  | .defectClear q => requestFits q
  | .ctxRetry q _ => requestFits q
  | .ctxSwap q _ => requestFits q
  | .substitutionStepEnd _ _ _ => true
  | .substitutionSwitch _ _ => true
  | .swappedCountExpiry _ _ => true
  | .pieceMoveStepEnd _ _ => true
  | .ctxRingResume q _ => requestFits q
  | .arbGrant _ _ => true
  | .grantHoldLimit _ _ _ => true
  | .arbClientClear q _ => requestFits q
  | .arbClearAll q => requestFits q
  | .arbLiberoWrite q => requestFits q
  | .arbSyncClear q => requestFits q
  | .cadenceRefresh _ _ => true
  | .writeDrainStart _ _ => true
  | .writeDrainEnd _ _ => true
  | .refreshInterval _ _ _ => true
  | .stackTempRead _ _ => true
  | .tailFlushTimeout _ _ => true
  | .rtWaitExceeded _ _ _ => true
  | .storePcClear q _ => requestFits q
  | .regionCopyComplete _ => true
  | .parityRetry _ _ _ => true
  | .shadowPatrol _ _ _ => true
  | .probeArm q => requestFits q
  | .probeTrigger _ => true
  | .probeDone _ => true
  | .backstopProgrammed _ _ => true
  | .backstopActivate q => requestFits q
  | .backstopLatchCheck _ _ => true
  | .configSectorReload q _ => requestFits q
  | .reloadStepEnd _ _ => true
  | .scrubFrame _ _ => true
  | .scrubEnable q => requestFits q
  | .scrubWatchdog _ => true
  | .calInternal q => requestFits q
  | .calDark q => requestFits q
  | .calFlat q => requestFits q
  | .ladderTraceEnd _ _ => true
  | .calRunEnd _ _ _ => true
  | .sceneRunEnd _ _ _ => true
  | .invarCheck _ _ => true
  | .limitRefresh _ _ _ => true
  | .ilvWordCount _ _ _ => true
  | .ilvReset q _ => requestFits q
  | .tileFault _ _ _ => true
  | .monitorTrip _ _ _ _ => true
  | .monitorWrite q _ _ _ => requestFits q
  | .sceneEnableWrite q _ => requestFits q
  | .busContention _ _ => true
  | .contentionRecovery _ _ => true
  | .padOverload _ _ => true
  | .padClear q _ => requestFits q
  | .padTermWrite q _ => requestFits q
  | .padTestWrite q _ => requestFits q
  | .bufPeakClear q _ => requestFits q
  | .dacEnable q _ => requestFits q
  | .dacStrobe _ _ => true
  | .deglitchHoldEnd _ _ => true
  | .safeMoveEnd _ _ => true
  | .dacCurrentLimit _ _ => true
  | .dacShortTimeout _ _ => true
  | .dacClear q _ => requestFits q
  | .laneEnable q _ => requestFits q
  | .laneLinkUp _ _ => true
  | .laneLinkDown _ _ => true
  | .fecUncorrectable _ _ => true
  | .fecSerCheck _ _ symbols errors => errors ≤ symbols
  | .pauseFrame _ _ quanta => quanta < 65536
  | .pauseExpiry _ _ => true
  | .flowLimitExpiry _ _ => true
  | .arpRequest _ _ _ _ _ mac => mac < 2 ^ 48
  | .icmpEcho _ _ _ _ => true
  | .arpReply _ _ _ mac => mac < 2 ^ 48
  | .resolutionRetry _ _ => true
  | .resolutionRefresh _ _ => true
  | .streamPacketSend _ _ => true
  | .laneClear q _ => requestFits q
  | .mgmtClear q => requestFits q
  | .gpioBankWrite q _ => requestFits q
  | .gpioOutWrite q _ => requestFits q
  | .gpioFuncWrite q _ => requestFits q
  | .pinLatchCapture _ _ => true
  | .funcFirstHandshake _ _ => true
  | .pinInputChange _ _ _ _ => true
  | .bankVioCheck _ _ _ => true
  | .patternWrite q _ _ => requestFits q
  | .patternMatch _ _ => true
  | .eventClear q _ => requestFits q
  | .clearNode q => requestFits q
  | .eventTest q => requestFits q
  | .eventEnableWrite q _ _ => requestFits q
  | .eventLatchWrite q _ => requestFits q
  | .sampleInstant _ _ _ codes _ => codes.all (fun x => decide (-32768 ≤ x) && decide (x ≤ 32767))
  | .portCellWord _ _ _ => true
  | .fabricWireChange _ _ => true
  | .paceWireEdge _ _ _ => true
  | .backstopOscEdge _ => true
  | .enableTransitionEnd _ _ => true
  | .macrocellsReloaded _ => true
  | .messageDropped _ _ _ _ _ => true
  | .frameDropped _ _ _ => true
  | .fragmentDropped _ _ => true
  | .fragmentBoundary _ _ => true
  | .faultOrderedSets _ _ _ => true
  | .mgmtLinkUp _ _ _ => true
  | .mgmtLinkDown _ => true
  | .railReturn _ _ _ => true
  | .safeNRelease _ => true

/-- A well-formed command of a variant. -/
def wellFormed (v : Variant) (c : Instr) : Bool := unitsPresent v c && fieldsFit c

end Sys2Proof
end

