-- ==== Sys2Proof/Safety.lean ====
section
/-! DEFINITION. The terms in which claims about the block are made: how a command ends, which objects the closing of every command
may still move, what holds after every step, and when a request is carried out. -/

namespace Sys2Proof.Machine

/-- The command completes in a next state: what it has done itself meets `own`, and the state after what follows every command meets
`after`. -/
def Completes (c : Instr) (s : State) (own after : State → Prop) : Prop :=
  ∃ u, exec c s = .next (s.finish u) ∧ own u ∧ after (s.finish u)

/-- Neither in reset nor owing a SAFE entry. -/
def Awake (s : State) : Prop := s.held = false ∧ s.safeAsk = 0

/-! ## What follows every command -/

/-- The objects that may still move after a command's own effect: `device.safe.first`, the step of PREPARE, a context's lane, a
lane's status, counters, contexts and hold, `ports.queue`, the collisions that fabric logic makes in its memories, a pin's function
and pending function, event statuses, and all of event 766, which notices may raise. -/
def settledKey (k : Nat) : Bool :=
  k == K.deviceSafeFirst || k == K.deviceModeStep || k == K.portsMgmtTxFrames || k == K.portsQueue || keyIn 0x4000 1024 [6] k ||
  keyIn 0x6010 4 [5] k ||
  (0x5000 ≤ k / 256 && k / 256 < 0x5400 && [0, 3, 4].contains (k / 256 % 64) && [1, 2, 3, 5].contains (k % 256)) ||
  keyIn 0x6800 96 [1, 5] k || keyIn 0x7000 768 [1] k || keyIn 0x72FE 1 [5, 8, 9] k

/-- The frame of an event: every object outside a list and outside `settledKey` keeps its value, and so do every byte of the Store, the
contexts and the values in force of staged objects. -/
def Frame (s t : State) (ks : List Nat) : Prop :=
  (∀ k, settledKey k = false → k ∉ ks → t.obj k = s.obj k) ∧ (∀ a, t.byte a = s.byte a) ∧ t.ctxs = s.ctxs ∧ t.inForce = s.inForce

/-- The objects of a source that a raise writes (R405, R407). -/
def evKeys (n : Nat) : List Nat := [K.eventStatus n, K.eventCount n, K.eventTime n, K.eventDetail n]

/-- The values that a raise of source n gives them at the instant of a state (R405, R407). -/
def raisedBy (s : State) (n detail : Nat) : List (Nat × Nat) :=
  [(K.eventStatus n, 1), (K.eventCount n, satAdd 32 (s.obj (K.eventCount n)) 1), (K.eventTime n, s.now),
   (K.eventDetail n, detail % 4294967296)]

/-- The objects of a list have the values of the list. -/
def Holds (s : State) (vs : List (Nat × Nat)) : Prop := ∀ e ∈ vs, s.obj e.1 = e.2

/-- The event completes: it gives the objects of a list their values and has an effect of its own on what no object shows; apart from
what follows every command, nothing else changes in the dictionary, the Store or the contexts. -/
def Sets (c : Instr) (s : State) (vs : List (Nat × Nat)) (own : State → Prop) : Prop :=
  Completes c s (fun u => Holds u vs ∧ own u)
    (fun t => Holds t (vs.filter (fun e => !settledKey e.1)) ∧ Frame s t (vs.map (·.1)))

/-- A reset has taken place (R80 step 0, R102): its cause is shown, the mode is BOOT, nothing of requests, contexts and staged values is
left, and every object reads its default that is neither kept in flash or the board store nor in a list. -/
def Restarted (s u : State) (cause : Nat) (ks : List Nat) : Prop :=
  u.obj K.deviceResetCause = cause ∧ u.mode = mBoot ∧ u.transfers = [] ∧ u.subs = [] ∧ u.replays = [] ∧ u.trace = [] ∧ u.ctxs = [] ∧
    u.inForce = [] ∧ u.trans = .idle ∧
    ∀ k, k ∉ [K.deviceResetCause, K.versionsMgmtSelect, K.boardState] ++ ks →
      (∀ l, locateKey k = some l → l.row.attr.testBit 2 = false) → u.obj k = defaultOf s.variant k

/-- What holds after every step: no SAFE entry is owed, and no source that follows a condition stays raised once the condition has
ended, while the device is not in reset (R93, R405). -/
def Settled (s : State) : Prop :=
  s.safeAsk = 0 ∧ (s.held = false → ∀ n < 768, s.follows n = true → s.condition n = some false → s.obj (K.eventStatus n) ≠ 1)

/-! ## Requests -/

/-- The objects that a request's way to the access point counts in: requests of a port, those that wait, received frames and bytes. -/
def accessKey (k : Nat) : Bool :=
  keyIn 0x1120 33 [2] k || k == K.portsQueue || k == K.portsMgmtRxFrames ||
  (0x5000 ≤ k / 256 && k / 256 < 0x5400 && k / 256 % 64 == 4 && [3, 4].contains (k % 256))

/-- The state in which a request meets the access point: the clock has moved to its instant, its frame and it are counted, and it waits no
longer (R64). -/
def State.access (s : State) (q : Req) : State :=
  (((s.begin_ q.at_).showQueue.arrive q).leaveQueue q).tally (K.portsPortRequests q.port) 64 1

/-- The frame of a request: that of an event, but for what the way to the access point counts. -/
def RequestFrame (s t : State) (ks : List Nat) : Prop :=
  (∀ k, settledKey k = false → accessKey k = false → k ∉ ks → t.obj k = s.obj k) ∧ (∀ a, t.byte a = s.byte a) ∧ t.ctxs = s.ctxs ∧
    t.inForce = s.inForce

/-- A message has been given to the port that a request came by: on a slave port behind the responses that wait there, elsewhere among
what leaves (R54, R57). -/
def Responds (s u : State) (q : Req) (m : List Byte) : Prop :=
  if isQueued q.port then (u.portState q.port).responses = (s.portState q.port).responses ++ [m]
  else Emission.message q.port q.src m ∈ u.emitted

/-- The message that answers a request with success (R51 to R53). -/
def okMessage (u : State) (q : Req) (op : Op) (body : List Byte) (ty transfer : Nat) : List Byte :=
  header (opcode op + 128) (1 + 2 * u.obj K.versionsRestricted) q.seq body.length q.index q.sub ty 0 transfer ++ body

/-- The objects of the device, the ports and the versions whose write does nothing but store the value (R60, R103, R73, R31). -/
def plainDevice (l : Loc) (k : Nat) : Bool :=
  k < 0x140000 && !l.row.attr.testBit 0 && !l.row.attr.testBit 3 &&
  !([K.deviceModeRequest, K.deviceModeLoad, K.deviceSafeClear, K.deviceSafeTjLimit, K.deviceEventsClearNode, K.deviceEventsTest,
    K.portsMgmtClear, K.versionsMgmtSelect, K.versionsAccept].contains k)

/-- A request is carried out: its port is there and answers, it is neither turned away nor a repeat, its version is 1.x, and the
mode is not RESCUE or lets it through (R6, R40, R49, R50, R57, R59, R63, R64). -/
def Admitted (s : State) (q : Req) (op : Op) : Prop :=
  portPresent s.variant q.port = true ∧ ((s.begin_ q.at_).showQueue.arrive q).turnedAway q op = none ∧ q.version / 16 = 1 ∧
    (s.access q).rescueBars q op = false

/-- What a request leaves that is answered with success: the operation's state with its trace record, its place in the cache and
its response. -/
def State.answered (t : State) (q : Req) (op : Op) (quiet : Bool) (body : List Byte) (ty transfer : Nat) : State :=
  t.conclude q op (.ok ⟨body, ty, transfer⟩) quiet

/-- The state in which an accepted WRITE has taken effect, before its answer. -/
def State.written (s : State) (q : Req) (l : Loc) : State := (s.access q).put ((s.access q).putOf q l (ofLE q.body))

/-- A WRITE that passes every check of R59 on the object at a key. -/
def Accepts (s : State) (q : Req) (l : Loc) : Prop :=
  Admitted s q .write ∧ checkWrite (s.access q) q = .ok l ∧ l.row.ty ≠ .text ∧ key q.index q.sub ≠ K.deviceReset

/-- The write command completes: it is answered with success and recorded, gives the objects of a list their values and has an effect
of its own; otherwise only what the request's way to the access point counts changes. -/
def Writes (c : Instr) (s : State) (q : Req) (l : Loc) (vs : List (Nat × Nat)) (own : State → Prop) : Prop :=
  Completes c s
    (fun u => Responds (s.written q l) u q (okMessage u q .write [] l.row.ty.code 0) ∧
      (u.writer (key q.index q.sub)).cls = s.classOf q.port ∧ (u.writer (key q.index q.sub)).port = q.port ∧ Holds u vs ∧ own u)
    (fun t => Holds t (vs.filter (fun e => !settledKey e.1)) ∧ RequestFrame s t (vs.map (·.1)))

end Sys2Proof.Machine
end

