-- ==== Sys2Proof/Certificates/Slice0/Obligations.lean ====
section
/-! DEFINITION. The statements about the block, from the numbered rules of spec/. -/

open Sys2Proof Sys2Proof.Machine

/-! ## Steps and commands -/

/-- A step carries out the command at the front of the queue, with the rest of the queue; on an empty queue the block idles (the model's
choice, log entry 1). -/
def Obligations.StepTakesTheFrontCommand : Prop :=
  ∀ s : State, (∀ c rest, s.pending = c :: rest → step s = exec c { s with pending := rest }) ∧
    (s.pending = [] → step s = .next s)

/-- A command completes exactly where the ports, units and sources that it names are there (R1, R2, R27); elsewhere it stops with the fault
noUnit. It rests on the model's own choices: log entry 9. -/
def Obligations.CompletesWherePresent : Prop :=
  ∀ (c : Instr) (s : State), (unitsPresent s.variant c = true → ∃ t, exec c s = .next t) ∧
    (unitsPresent s.variant c = false → exec c s = .fault .noUnit)

/-- No command changes the variant or the queue that waits behind it, and none leaves a SAFE entry owing (R1, R93). -/
def Obligations.VariantAndQueueStand : Prop :=
  ∀ (c : Instr) (s t : State), exec c s = .next t → t.variant = s.variant ∧ t.pending = s.pending ∧ t.safeAsk = 0

/-- Every step keeps `Settled`: no SAFE entry is owed, and a source with latch LEVEL falls with its condition (R93, R405).
It rests on the model's own choices: log entry 58. -/
def Obligations.StepKeepsSettled : Prop := ∀ s t : State, Settled s → step s = .next t → Settled t

/-- `Settled` holds right after reset. -/
def Obligations.ResetIsSettled : Prop := Settled State.reset

/-! ## Umzin requests -/

/-- READ and READ_META (R58, R60): the response carries the object's bytes, or its metadata, with the object's type; no object changes but
what counts the request. It rests on the model's own choices: log entries 14, 27. -/
def Obligations.ReadAnswersWithTheValue : Prop :=
  (∀ (s : State) (q : Req) (l : Loc), s.safeAsk = 0 → Admitted s q .read → checkRead (s.access q) q = .ok l →
    Completes (.read q) s
      (fun u => Responds s u q (okMessage u q .read ((s.access q).readBytes l q.port q.index q.sub) l.row.ty.code 0))
      (fun t => RequestFrame s t [])) ∧
  (∀ (s : State) (q : Req) (l : Loc), s.safeAsk = 0 → Admitted s q .readMeta → checkMeta (s.access q) q = .ok l →
    Completes (.readMeta q) s
      (fun u => Responds s u q (okMessage u q .readMeta ((s.access q).metadata l q.port q.index q.sub) l.row.ty.code 0))
      (fun t => RequestFrame s t []))

/-- WRITE (R58, R60, R61): an accepted write is answered with success and recorded with the class and the port of its writer; an object of
the device, the ports or the versions that only stores its value reads it from then on and nothing else changes; a staged object of a pitch
generator shows the value as pending and keeps the one in force. It rests on the model's own choices: log entry 18. -/
def Obligations.WriteStoresTheValue : Prop :=
  ∀ (s : State) (q : Req) (l : Loc), s.safeAsk = 0 → Accepts s q l →
    Completes (.write q) s
      (fun u => Responds (s.written q l) u q (okMessage u q .write [] l.row.ty.code 0) ∧
        (u.writer (key q.index q.sub)).cls = s.classOf q.port ∧ (u.writer (key q.index q.sub)).port = q.port ∧
        (l.row.form = .pitch → l.row.attr.testBit 0 = true → 0x1580 ≤ q.index → q.index < 0x1600 →
          u.obj (key q.index q.sub) = ofLE q.body ∧ u.force (key q.index q.sub) = s.force (key q.index q.sub) ∧
            u.isPending (key q.index q.sub) = true))
      (fun t => plainDevice l (key q.index q.sub) = true → settledKey (key q.index q.sub) = false →
        t.obj (key q.index q.sub) = ofLE q.body ∧ RequestFrame s t [key q.index q.sub])

/-- RMW (R60): the object takes (old AND NOT mask) OR (value AND mask), and the response carries the old value and then the new one. -/
def Obligations.RmwMergesUnderTheMask : Prop :=
  ∀ (s : State) (q : Req) (l : Loc), s.safeAsk = 0 → Admitted s q .rmw → checkRmw (s.access q) q = .ok l →
    plainDevice l (key q.index q.sub) = true → settledKey (key q.index q.sub) = false →
    let n := l.row.size
    let old := ofLE ((s.access q).readBytes l q.port q.index q.sub)
    let new := (old &&& (2 ^ (8 * n) - 1 - leAt q.body 0 n)) ||| (leAt q.body n n &&& leAt q.body 0 n)
    Completes (.rmw q) s
      (fun u => Responds s u q (okMessage u q .rmw (toLE n old ++ toLE n new) l.row.ty.code 0))
      (fun t => t.obj (key q.index q.sub) = new ∧ RequestFrame s t [key q.index q.sub])

/-- BLOCK_OPEN (R65): a transfer under an id that none has, of 1 to 65,535, is open on the port, with the granted segment size; a read holds
the object's bytes as of the open, and the answer says id, granted size, total length and CRC-32.
It rests on the model's own choices: log entries 2, 12. -/
def Obligations.BlockOpenStartsATransfer : Prop :=
  ∀ (s : State) (q : Req) (l : Loc), s.safeAsk = 0 → Admitted s q .blockOpen → checkOpen (s.access q) q = .ok l →
    let writing := leAt q.body 0 1 == 1
    let granted := min (leAt q.body 2 2) ((s.access q).segmentLimit q.port)
    let data := if writing then [] else (s.access q).readBytes l q.port q.index q.sub
    let total := if writing then leAt q.body 4 4 else data.length
    let crc := if writing then leAt q.body 8 4 else crc32 data
    ∃ id, 1 ≤ id ∧ id ≤ 65535 ∧ id ∉ s.transfers.map (·.id) ∧
      Completes (.blockOpen q) s
        (fun u => u.transfers = s.transfers ++ [⟨id, q.port, q.src, q.seq, key q.index q.sub, writing, granted, total, crc, data, 0,
            (s.access q).clock, false, 0⟩] ∧
          Responds s u q (okMessage u q .blockOpen (toLE 2 id ++ toLE 2 granted ++ toLE 4 total ++
            toLE 4 (if writing then 0 else crc)) l.row.ty.code id))
        (fun t => RequestFrame s t [])

/-- BLOCK_SEGMENT (R65, R66): the next segment of a write adds its data and is answered without a body; a segment of a read answers its
number and the bytes it has of those held since the open. It rests on the model's own choices: log entry 13. -/
def Obligations.BlockSegmentsCarryTheBytes : Prop :=
  ∀ (s : State) (q : Req) (x : Transfer), s.safeAsk = 0 → Admitted s q .blockSegment → s.transferNamed q = some x →
    x.waiting = false → checkTransfer (s.access q) q x = .ok () → (usesStore x.obj = true → s.obj (K.arbClientState 46) = 0) →
    let n := leAt q.body 0 4
    (x.writing = true → 4 ≤ q.body.length → q.body.length ≤ x.segment + 4 → n = x.next →
      let y : Transfer := { x with last := (s.access q).clock, next := n + 1, data := x.data ++ q.body.drop 4 }
      Completes (.blockSegment q) s
        (fun u => u.transfers = s.transfers.map (fun z => if z.id = x.id then y else z) ∧
          Responds s u q (okMessage u q .blockSegment [] q.ty x.id))
        (fun t => RequestFrame s t [])) ∧
    (x.writing = false → q.body.length = 4 → n ≤ (x.total - 1) / x.segment →
      let y : Transfer := { x with last := (s.access q).clock }
      Completes (.blockSegment q) s
        (fun u => u.transfers = s.transfers.map (fun z => if z.id = x.id then y else z) ∧
          Responds s u q (okMessage u q .blockSegment (toLE 4 n ++ (x.data.drop (n * x.segment)).take x.segment) q.ty x.id))
        (fun t => RequestFrame s t []))

/-- BLOCK_CLOSE of a read, BLOCK_ABORT and 2 s of silence end a transfer; the close of a write of `board.user` in LOAD, with the length and
CRC-32 given at its open, puts the bytes beside those in force (R65, R66). It rests on the model's own choices: log entries 12, 13. -/
def Obligations.TransfersEnd : Prop :=
  (∀ (s : State) (q : Req) (x : Transfer), s.safeAsk = 0 → s.transferNamed q = some x → x.waiting = false → q.body = [] →
    checkTransfer (s.access q) q x = .ok () →
    (Admitted s q .blockAbort → Completes (.blockAbort q) s
      (fun u => u.transfers = s.transfers.filter (fun y => y.id != x.id) ∧
        Responds s u q (okMessage u q .blockAbort [] q.ty x.id)) (fun t => RequestFrame s t [])) ∧
    (Admitted s q .blockClose → x.writing = false → (usesStore x.obj = true → s.obj (K.arbClientState 46) = 0) →
      Completes (.blockClose q) s
        (fun u => u.transfers = s.transfers.filter (fun y => y.id != x.id) ∧
          Responds s u q (okMessage u q .blockClose [] q.ty x.id)) (fun t => RequestFrame s t [])) ∧
    (Admitted s q .blockClose → x.writing = true → x.obj = K.boardUser → s.mode = mLoad → x.data.length = x.total →
      crc32 x.data = x.crc → Completes (.blockClose q) s
        (fun u => u.transfers = s.transfers.filter (fun y => y.id != x.id) ∧ u.blob (stagedBlob K.boardUser) = some x.data ∧
          u.blob K.boardUser = s.blob K.boardUser ∧ (u.writer K.boardUser).cls = s.classOf x.port ∧
          Responds s u q (okMessage u q .blockClose [] q.ty x.id)) (fun t => RequestFrame s t []))) ∧
  (∀ (s : State) (t id : Nat) (x : Transfer), Awake s → s.transfers.find? (fun y => y.id == id && !y.waiting) = some x →
    x.last + 2 * perS ≤ t → s.clock ≤ t →
    Sets (.blockTransferSilence t id) s []
      (fun u => u.transfers = s.transfers.filter (fun y => y.id != id) ∧ u.silenced = s.silenced ++ [(id, x.port, x.last)]))

/-- Subscriptions (R68, R69): a new subscription stands under an id that none has, a repeated one keeps its id and restarts its lease, and
an ended one is gone; subscriptions on UDP end with their lease, others stay; a periodic notice of an event node has the next sequence
number and goes to the subscriber. It rests on the model's own choices: log entries 2, 12, 17. -/
def Obligations.SubscriptionsAreServed : Prop :=
  (∀ (s : State) (q : Req) (target : Nat), s.safeAsk = 0 → Admitted s q .subscribe → checkSubscribe (s.access q) q = .ok target →
    let node := leAt q.body 0 1 == 1
    let flags := leAt q.body 1 1
    let lease := leAt q.body 8 2
    let ends := if isUdp q.port then (s.access q).clock + (if lease = 0 then s.obj K.portsLeaseDefault else lease) * perS else 0
    (s.sameSub q target = none → (s.subs.filter (fun x => x.port == q.port)).length < 32 → s.subs.length < 256 →
      ∃ id, 1 ≤ id ∧ id ≤ 65535 ∧ id ∉ s.subs.map (·.id) ∧ Completes (.subscribe q) s
        (fun u => u.subs = s.subs ++ [⟨id, q.port, q.src, node, target, flags % 2 == 1, 2 ≤ flags, leAt q.body 2 2, lease, ends, 0, 0,
            false, none, if node then 0 else ((s.access q).writer target).time, none⟩] ∧
          Responds s u q (okMessage u q .subscribe (toLE 2 id) q.ty id)) (fun t => RequestFrame s t [])) ∧
    (∀ x, s.sameSub q target = some x → Completes (.subscribe q) s
      (fun u => u.subs = s.subs.map (fun y => if y.id = x.id then { x with lease := lease, leaseEnd := ends } else y) ∧
        Responds s u q (okMessage u q .subscribe (toLE 2 x.id) q.ty x.id)) (fun t => RequestFrame s t []))) ∧
  (∀ (s : State) (q : Req), s.safeAsk = 0 → Admitted s q .unsubscribe → q.body = [] →
    (∃ x ∈ s.subs, x.id = q.transfer ∧ x.port = q.port) → Completes (.unsubscribe q) s
      (fun u => u.subs = s.subs.filter (fun x => x.id != q.transfer) ∧
        Responds s u q (okMessage u q .unsubscribe [] q.ty q.transfer)) (fun t => RequestFrame s t [])) ∧
  (∀ (s : State) (t id : Nat), Awake s → Sets (.subscriptionLeaseExpiry t id) s []
    (fun u => ∀ x, x ∈ u.subs ↔ x ∈ s.subs ∧ ¬(x.id = id ∧ isUdp x.port = true ∧ x.leaseEnd ≤ max s.clock t))) ∧
  (∀ (s : State) (t id : Nat) (x : Subscription), Awake s → s.subs.find? (fun y => y.id == id && y.periodic) = some x →
    x.isNode = true → isQueued x.port = false → x.behind = none → s.clock ≤ t →
    (∀ b, x.lastSent = some b → b + max 1 x.interval * perMs ≤ t) →
    Sets (.periodicNotice t id) s []
      (fun u => ∃ m, u.emitted = [.message x.port x.src m] ∧ m.take 3 = toLE 3 0x0B1055 ∧ (m.drop 16).take 4 = toLE 4 (x.seq + 1) ∧
        ∀ y ∈ u.subs, y.id = id → y.seq = (x.seq + 1) % 4294967296 ∧ y.lastSent = some t))

/-- REPLAY (R70): the lines still in the ring are queued for the lane under a new id, and the answer gives the first line and how many there
are. It rests on the model's own choices: log entries 2, 12. -/
def Obligations.ReplayQueuesTheLines : Prop :=
  ∀ (s : State) (q : Req) (r : Nat × Nat), s.safeAsk = 0 → Admitted s q .replay → checkReplayRequest (s.access q) q = .ok r →
    let b := replayBody q.body
    ∃ id, 1 ≤ id ∧ id ≤ 65535 ∧ id ∉ s.replays.map (·.id) ∧ Completes (.replay q) s
      (fun u => u.replays = s.replays ++ [⟨id, b.1, (s.access q).replayLane b.1 b.2.1, r.1, 0, 0, r.2, 0, 0, q.port, q.src⟩] ∧
        Responds s u q (okMessage u q .replay (toLE 8 r.1 ++ toLE 4 r.2) 0 id)) (fun t => RequestFrame s t [])

/-- Absent units (R30): whatever the operation and the port class, an access to an object of an absent unit is answered ABSENT with the
class and the unit (R72), before any check of rights, type or range, and nothing changes but what counts the request and its abort. -/
def Obligations.AbsentUnitsAnswerAbsent : Prop :=
  ∀ (s : State) (q : Req) (c : Instr) (op : Op) (l : Loc), s.safeAsk = 0 → Admitted s q op →
    (c = .read q ∧ op = .read) ∨ (c = .readMeta q ∧ op = .readMeta) ∨ (c = .write q ∧ op = .write) ∨ (c = .rmw q ∧ op = .rmw) ∨
      (c = .blockOpen q ∧ op = .blockOpen) ∨ (c = .subscribe q ∧ op = .subscribe ∧ leAt q.body 0 1 ≠ 1) →
    q.sub ≠ 0 → locate q.index q.sub = some l → (s.access q).hasUnit l = false →
    ∃ d, (l.row.form ≠ .port → d = absentDetail l) ∧
      Completes c s (fun u => Responds (s.access q) u q ((s.access q).response q op (.error ⟨aAbsent, d⟩)))
        (fun t => RequestFrame s t [K.portsPortAborts q.port, K.portsPortLastAbort q.port])

/-- Subindex 0x00 (R42): it holds the highest subindex defined at its index, as a U8 that every class may read and none may write (the byte
0x55, r/r/r/r); for an absent unit a read of it ends with ABSENT. -/
def Obligations.SubindexZeroNamesTheHighest : Prop :=
  (∀ (index sub : Nat) (l : Loc), locate index sub = some l → sub ≤ highestSub index ∧ (locate index (highestSub index)).isSome = true ∧
    0 < sub) ∧
  (∀ (s : State) (q : Req), s.safeAsk = 0 → q.sub = 0 → q.ty = 0 ∨ q.ty = Ty.u8.code →
    (∀ (sub : Nat) (l : Loc), locate q.index sub = some l → (s.access q).hasUnit l = true →
      (Admitted s q .read → q.body = [] → Completes (.read q) s
        (fun u => Responds s u q (okMessage u q .read (toLE 1 (highestSub q.index)) Ty.u8.code 0)) (fun t => RequestFrame s t [])) ∧
      (Admitted s q .write → Completes (.write q) s
        (fun u => Responds (s.access q) u q ((s.access q).response q .write (.error ⟨aDenied, 0x55⟩)))
        (fun t => RequestFrame s t [K.portsPortAborts q.port, K.portsPortLastAbort q.port]))) ∧
    ((∀ sub l, locate q.index sub = some l → (s.access q).hasUnit l = false) → (∃ sub l, locate q.index sub = some l) →
      Admitted s q .read → Completes (.read q) s
        (fun u => ∃ d, Responds (s.access q) u q ((s.access q).response q .read (.error ⟨aAbsent, d⟩)))
        (fun t => RequestFrame s t [K.portsPortAborts q.port, K.portsPortLastAbort q.port])))

/-- Ports (R50, R51, R52, R54 to R57, R64, R73, R403): a request that has waited more than 10 ms is answered TIMEOUT with the wait in µs,
counts as an abort of its port, and raises PORTS; one that has waited less goes on waiting. The status reads of the SPI and parallel ports give
the status byte and clear its sticky bits, and LEVELS the levels; their reads of a response or a notification, and UMZIN_RSP, give the
oldest message and take it from its queue. A message dropped on a port leaves a count at the port and a raise of PORTS, with the CRC_ERR or
REJECT bit on a slave port; one that is not well formed is answered FORMAT under the sequence number of its header.
It rests on the model's own choices: log entries 16, 17. -/
def Obligations.PortsAnswerAndCount : Prop :=
  (∀ (s : State) (q : Req) (op : Op), s.safeAsk = 0 → portPresent s.variant q.port = true →
     (q.at_ ≤ q.came + 10 * perMs →
       Completes (.requestQueueTimeout q op) s (fun u => u = s.begin_ q.at_) (fun t => RequestFrame s t [])) ∧
     (10 * perMs < q.at_ - q.came → isQueued q.port = true → s.answers q.port = true → s.portClosed q.port = false →
       (s.begin_ q.at_).heldAt q < 16 → s.aheadOf q false < 64 → s.aheadOf q true < 16 →
       Completes (.requestQueueTimeout q op) s
         (fun u => (∃ m, (u.portState q.port).responses = (s.portState q.port).responses ++ [m] ∧
             (m.drop 12).take 2 = toLE 2 aTimeout ∧ (m.drop 16).take 4 = toLE 4 (min ((q.at_ - q.came) / perUs) 4294967295)) ∧
           Holds u ((K.portsPortAborts q.port, wrapAdd 64 (s.obj (K.portsPortAborts q.port)) 1) ::
             (K.portsPortLastAbort q.port, aTimeout) :: raisedBy (s.begin_ q.at_) 763 q.port))
         (fun t => RequestFrame s t ([K.portsPortAborts q.port, K.portsPortLastAbort q.port] ++ evKeys 763)))) ∧
  (∀ (s : State) (t p : Nat) (c : Instr), Awake s → s.answers p = true →
    (p = 0 ∧ c = .spiStatus t) ∨ (p = 1 ∧ c = .parallelStatusRead t false) →
    Sets c s [] (fun u => u.emitted = [.status p ((s.begin_ t).statusByte p)] ∧
      u.portState p = { s.portState p with crcErr := false, ovf := false, reject := false })) ∧
  (∀ (s : State) (t : Nat), Awake s → s.answers 1 = true →
    Sets (.parallelStatusRead t true) s [] (fun u => u.emitted = [.levels (s.begin_ t).levels] ∧ u.portState 1 = s.portState 1)) ∧
  (∀ (s : State) (t p : Nat) (c : Instr) (m : List Byte) (rest : List (List Byte)), Awake s → s.answers p = true →
    (s.portState p).responses = m :: rest → m ≠ [] → (p = 0 ∧ c = .spiResponse t) ∨ (p = 1 ∧ c = .parallelResponseRead t) →
    Sets c s [] (fun u => u.emitted = [.message p 0 (if p = 0 then spiFrame m else parallelFrame m)] ∧
      (u.portState p).responses = rest ∧ (u.portState p).notices = (s.portState p).notices ∧
      (u.portState p).order = (s.portState p).order.erase true)) ∧
  (∀ (s : State) (t p : Nat) (c : Instr) (m : List Byte) (rest : List (List Byte)), Awake s → s.answers p = true →
    (s.portState p).notices = m :: rest → (p = 0 ∧ c = .spiNotification t) ∨ (p = 1 ∧ c = .parallelNotificationRead t) →
    Sets c s [] (fun u => u.emitted = [.message p 0 (if p = 0 then spiFrame m else parallelFrame m)] ∧
      u.portState p = { s.portState p with notices := rest, order := (s.portState p).order.erase false })) ∧
  (∀ (s : State) (t : Nat) (m : List Byte) (rest : List (List Byte)) (response : Bool), Awake s → s.answers 32 = true →
    s.portClosed 32 = false → m ≠ [] → (s.portState 32).order.head? = some response →
    (if response then (s.portState 32).responses else (s.portState 32).notices) = m :: rest →
    Sets (.umzinRsp t) s [] (fun u => u.emitted = [.message 32 0 (toLE 1 ((s.begin_ t).statusByte 32) ++ toLE 2 m.length ++ m)] ∧
      (u.portState 32).responses = (if response then rest else (s.portState 32).responses) ∧
      (u.portState 32).notices = (if response then (s.portState 32).notices else rest) ∧
      (u.portState 32).order = (s.portState 32).order.tail ∧ (u.portState 32).crcErr = false ∧ (u.portState 32).ovf = false ∧
      (u.portState 32).reject = false)) ∧
  (∀ (s : State) (t p src : Nat) (r : Drop) (bytes : List Byte), Awake s → portPresent s.variant p = true → s.answers p = true →
     let shut := s.portClosed p
     let full := !shut && isQueued p && !(s.begin_ t).ready p
     (shut = true ∧ p ≠ 32) ∨ full = true ∨ (shut = false ∧ full = false ∧
       (r = .crc ∨ r = .responseFlag ∨ (r = .framing ∧ isQueued p = false))) →
     Sets (.messageDropped t p src r bytes) s
       ((K.portsPortDropped p, satAdd 32 (s.obj (K.portsPortDropped p)) 1) :: raisedBy (s.begin_ t) 763 p)
       (fun u => u.portState p = { s.portState p with
         crcErr := (s.portState p).crcErr || (!shut && !full && isQueued p && r == .crc), reject := (s.portState p).reject || full })) ∧
  (∀ (s : State) (t p src : Nat) (r : Drop) (bytes : List Byte), Awake s → portPresent s.variant p = true → s.answers p = true →
     s.portClosed p = false → isQueued p = true → (s.begin_ t).ready p = true → r = .format ∨ r = .framing → 6 ≤ bytes.length →
     Sets (.messageDropped t p src r bytes) s
       [(K.portsPortAborts p, wrapAdd 64 (s.obj (K.portsPortAborts p)) 1), (K.portsPortLastAbort p, aFormat)]
       (fun u => ∃ m, (u.portState p).responses = (s.portState p).responses ++ [m] ∧ (m.drop 12).take 2 = toLE 2 aFormat ∧
         (m.drop 4).take 2 = (bytes.drop 4).take 2 ∧ (m.drop 2).take 1 = toLE 1 (128 + leAt bytes 2 1 % 128)))

/-! ## Modes -/

/-- MODE_REQUEST_PREPARE, MODE_REQUEST_RUN and MODE_REQUEST_HOLD in LOAD (R76, R77, R84): PREPARE begins with its step 1, and the mode asked
for is its target. MODE_LOAD (R76, R78): a write of `device.mode.load` asks for LOAD: it waits while a drain, a shutdown or a wake runs, and
stops PREPARE at the end of its step. It rests on the model's own choices: log entries 20 to 22. -/
def Obligations.RequestsFromLoadAndForLoad : Prop :=
  (∀ (s : State) (q : Req) (l : Loc) (c : Instr) (m : Nat), s.safeAsk = 0 → s.mode = mLoad → s.trans.motion = .none →
     s.rallyState ≠ rExcluded → s.halted = none →
     (m = mPrepare ∧ c = .modeRequestPrepare q) ∨ (m = mRun ∧ c = .modeRequestRun q) ∨ (m = mHold ∧ c = .modeRequestHold q) →
     let w := onObject (withBody q (toLE 1 m)) K.deviceModeRequest
     Accepts s w l →
     Writes c s w l
       [(K.deviceModeRequest, m), (K.deviceMode, mPrepare), (K.deviceModeSince, (s.access w).now), (K.deviceModeTarget, m),
        (K.deviceModeStep, 1), (K.deviceHoldCause, 0), (K.deviceHoldEncoder, 0xFF)]
       (fun u => u.trans = { Transition.idle with motion := .prepare, origin := mLoad, since := (s.access w).clock })) ∧
  (∀ (s : State) (q : Req) (l : Loc), s.safeAsk = 0 →
     let w := onObject (withBody q (toLE 1 1)) K.deviceModeLoad
     Accepts s w l →
     (s.trans.motion = .drain ∨ s.trans.motion = .shutdown ∨ s.trans.motion = .wake →
       Writes (.modeLoad q) s w l [(K.deviceModePending, mLoad)] (fun u => u.trans = s.trans)) ∧
     (s.trans.motion = .prepare → s.obj K.deviceModeStep ≠ 6 → s.trans.linkWait = false →
       Writes (.modeLoad q) s w l [(K.deviceModePending, mLoad)] (fun u => u.trans = { s.trans with abortTo := mLoad })))

/-- Requests that do not end in a transition at once (R76, R78, R87): while a drain, a shutdown or a wake runs a request waits in
`device.mode.pending`; during PREPARE another target replaces the one in hand, and STANDBY waits for the end of the step; HOLD in RUN waits
for the generators in use; 0x00 cancels what waits. It rests on the model's own choices: log entry 20. -/
def Obligations.RequestsWaitTheirTurn : Prop :=
  ∀ (s : State) (q : Req) (l : Loc) (c : Instr) (m : Nat), s.safeAsk = 0 →
    (m = mStandby ∧ c = .modeRequestStandby q) ∨ (m = mPrepare ∧ c = .modeRequestPrepare q) ∨ (m = mRun ∧ c = .modeRequestRun q) ∨
      (m = mHold ∧ c = .modeRequestHold q) ∨ (m = 0 ∧ c = .modeRequestCancel q) →
    let w := onObject (withBody q (toLE 1 m)) K.deviceModeRequest
    Accepts s w l →
    (m ≠ 0 → s.trans.motion = .drain ∨ s.trans.motion = .shutdown ∨ s.trans.motion = .wake →
      Writes c s w l [(K.deviceModeRequest, m), (K.deviceModePending, m)] (fun u => u.trans = s.trans)) ∧
    (s.trans.motion = .prepare → m = mPrepare ∨ m = mRun ∨ m = mHold →
      Writes c s w l [(K.deviceModeRequest, m), (K.deviceModeTarget, m), (K.deviceModePending, 0)]
        (fun u => u.trans = { s.trans with abortTo := 0xFF })) ∧
    (s.trans.motion = .prepare → m = mStandby → s.obj K.deviceModeStep ≠ 6 → s.trans.linkWait = false →
      Writes c s w l [(K.deviceModeRequest, m), (K.deviceModePending, m)] (fun u => u.trans = { s.trans with abortTo := m })) ∧
    (s.trans.motion = .none → s.mode = mRun → s.halted = none → m = mHold → (s.access w).flowingPitches ≠ [] →
      Writes c s w l [(K.deviceModeRequest, m), (K.deviceModeTarget, mHold)] (fun u => u.trans.motion = .toHold ∧
        u.trans.holdCause = 1 ∧ u.trans.holdEncoder = 0xFF ∧ u.trans.since = (s.access w).clock)) ∧
    (m = 0 → Writes c s w l [(K.deviceModeRequest, 0), (K.deviceModePending, 0)]
      (fun u => u.trans = if s.trans.motion = .prepare then { s.trans with abortTo := 0xFF } else s.trans))

/-- A SAFE entry (R93): whatever the units do, the state afterwards reads SAFE as mode and target, with nothing pending, and the causes are
those latched before and the new ones; in BOOT, RESCUE and SAFE the cause is only latched. SAFE_RINGS_FREEZE: the contexts that are FLOWING
or DEGRADED without a line in progress rest at PRIMED, and the others of the rings keep their state.
It rests on the model's own choices: log entries 22, 23, 44. -/
def Obligations.SafeIsEnteredAndFreezes : Prop :=
  (∀ (s : State) (mask : Nat),
     (s.mode ≠ mBoot → s.mode ≠ mRescue → s.mode ≠ mSafe →
       (s.enterSafe mask).mode = mSafe ∧ (s.enterSafe mask).obj K.deviceModeTarget = mSafe ∧
       (s.enterSafe mask).obj K.deviceModePending = 0 ∧ (s.enterSafe mask).obj K.deviceHoldCause = 0 ∧
       (s.enterSafe mask).obj K.deviceSafeFirst = firstCause mask) ∧
     (s.enterSafe mask).obj K.deviceSafeCause = (s.obj K.deviceSafeCause ||| mask) % 65536 ∧
     (s.mode = mBoot ∨ s.mode = mRescue ∨ s.mode = mSafe →
       ∀ k, k ≠ K.deviceSafeCause → (s.enterSafe mask).obj k = s.obj k)) ∧
  (∀ (s : State) (t c : Nat) (x : Ctx), Awake s → s.mode = mSafe → s.ctxs = [(c, x)] → c < 1024 → x.cur = none → x.lossDue = 0 →
     Completes (.safeRingsFreeze t) s
       (fun u => u.ctxState c = if s.ctxState c = cFlowing ∨ s.ctxState c = cDegraded then cPrimed else s.ctxState c)
       (fun _ => True))

/-- Commands that bring the device into SAFE (R93, R76, R153, R156, R388, R400, R416), each with its cause bit: the request, SAFE_N, a rail
or a bank's supply out of its window, the watchdog and the holdover limit. SAFE_CLEAR (R96): a cause bit falls where the mask has it and its
condition holds no longer, and every other bit stays. It rests on the model's own choices: log entries 19, 26. -/
def Obligations.CausesLeadToSafeAndClear : Prop :=
  (∀ (s : State) (t : Nat) (c : Instr) (mask : Nat), Awake s → s.mode ≠ mBoot → s.mode ≠ mRescue → s.mode ≠ mSafe →
     (∃ q l, c = .modeRequestSafe q ∧ mask = 1 ∧ Accepts s (onObject (withBody q (toLE 1 mSafe)) K.deviceModeRequest) l) ∨
       (c = .safeNLow t ∧ mask = 2) ∨
       (∃ r mv, railPresent s.variant r = true ∧ railState r mv ≠ 0 ∧ c = .railExcursion t r mv ∧ mask = 16) ∨
       (∃ b mv, b < 6 ∧ nominalOf mv = 0 ∧ c = .bankVioCheck t b mv ∧ mask = 16) ∨
       (c = .watchdogExpiry t ∧ mask = 32) ∨
       (s.obj K.timeRefclkState = 1 ∧ c = .holdoverLimitExpiry t ∧ mask = 128) →
     ∃ u, exec c s = .next u ∧ u.mode = mSafe ∧ u.obj K.deviceModeTarget = mSafe ∧ u.obj K.deviceModePending = 0 ∧
       u.obj K.deviceSafeCause = (s.obj K.deviceSafeCause ||| mask) % 65536) ∧
  (∀ (s : State) (q : Req) (l : Loc), s.safeAsk = 0 → s.obj K.deviceSafeCause < 65536 →
     let w := onObject q K.deviceSafeClear
     Accepts s w l →
     ∃ v, (∀ i < 16, v.testBit i =
         ((s.obj K.deviceSafeCause).testBit i && (!(ofLE q.body).testBit i || ((s.access w).standingCauses true).testBit i))) ∧
       v < 65536 ∧ Writes (.safeClear q) s w l [(K.deviceSafeCause, v)] (fun u => u.trans = s.trans))

/-- PREPARE (R84): step 1 ends in step 2 where its checks pass, steps 3, 4 and 6 in the next one once the units that they started are up and
the member is aligned; a failed check or unit ends in LOAD with the step recorded; step 7 ends where PREPARE itself was asked for; an align
limit that passes in step 6 raises TIMING once and the step goes on (R86). It rests on the model's own choices: log entries 21, 24. -/
def Obligations.PrepareGoesOn : Prop :=
  (∀ (s : State) (t k : Nat) (f : StepFacts), s.held = false → s.mode = mPrepare → s.trans.motion = .prepare → s.trans.abortTo = 0xFF →
    s.obj K.deviceModeStep = k → s.halted = none →
    let check := (s.begin_ t).checkStep1.2
    (k = 1 → check = none →
      Completes (.prepareStepEnd t f) s (fun u => u.obj K.deviceModeStep = 2 ∧ u.mode = mPrepare ∧ u.obj K.placerState = 1 ∧
        u.trans = { s.trans with since := max s.clock t }) (fun _ => True)) ∧
    ((k = 3 ∧ f.ok = true ∧ s.powerUp = true) ∨ (k = 4 ∧ f.ok = true ∧ s.tilesUp = true) ∨ (k = 6 ∧ s.rallyState = rAligned) →
      Completes (.prepareStepEnd t f) s (fun u => u.obj K.deviceModeStep = k + 1 ∧ u.mode = mPrepare) (fun _ => True)) ∧
    (∀ code, (k = 1 ∧ check = some code) ∨ (k = 3 ∧ f.ok = false ∧ code = aFault) ∨ (k = 4 ∧ f.ok = false ∧ code = aConflict) →
      s.trans.origin ≠ mStandby →
      Completes (.prepareStepEnd t f) s
        (fun u => u.mode = mLoad ∧ u.obj K.deviceModeLastFail = code * 65536 + mPrepare * 256 + k) (fun _ => True))) ∧
  (∀ (s : State) (t : Nat) (f : StepFacts), Awake s → s.mode = mPrepare → s.trans.motion = .prepare → s.trans.abortTo = 0xFF →
    s.obj K.deviceModeStep = 7 → s.halted = none → s.trans.origin ≠ mSafe → s.obj K.deviceModeTarget = mPrepare →
    Sets (.prepareStepEnd t f) s [(K.deviceModeStep, 0)] (fun u => u.trans = .idle)) ∧
  (∀ (s : State) (t : Nat), Awake s → s.mode = mPrepare → s.trans.motion = .prepare → s.trans.alignExpired = false →
    s.rallyState ≠ rAligned → s.obj K.deviceModeStep = 6 → s.trans.linkWait = false →
    Sets (.alignLimitExpiry t) s (raisedBy (s.begin_ t) 751 0) (fun u => u.trans = { s.trans with alignExpired := true }))

/-- The ends of transitions: HOLD takes effect 10 µs after its request at the latest (R87, R88); the drain ends in LOAD with the rings
released (R90); the shutdown goes from its step 2 to its step 5 and into STANDBY (R91); the wake goes from its step 1 to step 2 where the
shadow was valid (R92). SHADOW_COPY_COMPLETE (R91): the shadow is valid and its copy over. ENABLE_TRANSITION_END of every kind of unit
(R98, R99): STARTING ends in ON, or in STOPPING where a stop is pending, and STOPPING ends in OFF, or in STARTING where a start is pending; of
an engine nothing else changes. Of the image's frames the copy puts every byte into the shadow (R311).
It rests on the model's own choices: log entries 22, 25, 44. -/
def Obligations.TransitionsEndTheirSteps : Prop :=
  (∀ (s : State) (t : Nat), s.held = false → s.trans.motion = .toHold → s.trans.since + 10 * perUs ≤ t →
    Completes (.holdTakesEffect t) s (fun u => u.mode = mHold ∧ u.obj K.deviceModeTarget = mHold ∧ u.obj K.deviceModeStep = 0 ∧
      u.obj K.deviceHoldCause = s.trans.holdCause ∧ u.obj K.deviceHoldEncoder = s.trans.holdEncoder ∧ u.trans = .idle)
      (fun _ => True)) ∧
  (∀ (s : State) (t : Nat), s.held = false → s.trans.motion = .drain → s.obj K.deviceModePending = 0 →
    Completes (.drainComplete t) s (fun u => u.mode = mLoad ∧ u.obj K.deviceModeTarget = mLoad ∧ u.obj K.deviceModeStep = 0 ∧
      u.ctxs = [] ∧ u.chains = [] ∧ u.trans = .idle) (fun _ => True)) ∧
  (∀ (s : State) (t k : Nat), s.held = false → s.trans.motion = .shutdown → s.obj K.deviceModeStep = k → 2 ≤ k → k ≤ 4 →
    s.halted = none → s.obj K.deviceModePending = 0 →
    Completes (.shutdownStepEnd t) s (fun u => u.obj K.deviceModeStep = k + 1) (fun _ => True)) ∧
  (∀ (s : State) (t : Nat), Awake s → s.trans.motion = .shutdown → s.obj K.deviceModeStep = 5 → s.obj K.deviceModePending = 0 →
    s.mode ≠ mStandby → s.halted = none →
    Sets (.shutdownStepEnd t) s ([(K.storeState, 2), (K.deviceMode, mStandby), (K.deviceModeSince, (s.begin_ t).now),
        (K.deviceModeTarget, mStandby), (K.deviceModeStep, 0), (K.deviceHoldCause, 0), (K.deviceHoldEncoder, 0xFF)] ++
        (List.range 32).map (fun p => (K.storePcState p, if s.obj (K.storePcState p) = 0 then 1 else s.obj (K.storePcState p))))
      (fun u => u.trans.motion = .none ∧ u.trans.shadow = (s.obj K.deviceStandbyShadow == 1))) ∧
  (∀ (s : State) (t : Nat), Awake s → s.trans.motion = .wake → s.obj K.deviceModeStep = 1 → s.trans.shadow = true → s.halted = none →
    Sets (.wakeStepEnd t true) s ([(K.storeState, 1), (K.deviceModeStep, 2)] ++
        (List.range 32).map (fun p => (K.storePcState p, if s.obj (K.storePcState p) = 1 then 0 else s.obj (K.storePcState p))))
      (fun u => u.trans = s.trans)) ∧
  (∀ (s : State) (t : Nat), Awake s → s.copying = true → s.obj (K.arbClientState 46) ≠ 1 → Completes (.shadowCopyComplete t) s
    (fun u => u.obj K.deviceStandbyShadow = 1 ∧ u.copying = false)
    (fun v => (∀ k, settledKey k = false → k ∉ [K.deviceStandbyShadow, K.deviceStandbyShadowCrc] → v.obj k = s.obj k) ∧
      (∀ a < s.shadowBase, v.byte a = s.byte a) ∧
      (∀ i < 0x400000, v.byte (s.shadowBase + i) = ((s.blob K.graphProgram).getD []).getD i 0) ∧
      ∀ i < 0x1A00000, v.byte (s.shadowBase + 0x400000 + i) = ((s.blob K.configImage).getD []).getD i 0)) ∧
  (∀ (s : State) (t n : Nat), Awake s → n < engineCount s.variant →
    let b := s.obj (K.feStatus n)
    enState b = 1 ∨ enState b = 3 →
    Sets (.enableTransitionEnd t (.engine n)) s
      [(K.feStatus n, b - b % 16 +
        (if enState b = 1 then (if enPending b = 2 then 3 else 2) else if enPending b = 1 then 1 else 0))] (fun _ => True)) ∧
  (∀ (s : State) (t : Nat) (unit : UnitName), s.held = false → unitPresent s.variant unit = true →
    let b := s.obj (statusKey unit)
    (enState b = 1 ∧ statusKey unit ∉ (List.range 4).map K.timeSynStatus) ∨ (enState b = 3 ∧ s.mayStop unit = true) →
    Completes (.enableTransitionEnd t unit) s
      (fun u => enState (u.obj (statusKey unit)) =
        (if enState b = 1 then (if enPending b = 2 then 3 else 2) else if enPending b = 1 then 1 else 0)) (fun _ => True))

/-! ## Reset, boot, rails, versions -/

/-- Resets (R80, R95, R102, R401, R412): POR_N low holds the device in reset, VCORE or VIOC below its threshold does so with cause 3, 100 ms
of SAFE with cause WATCHDOG resets with cause 2 and starts the boot, and so does a write of 0xA55A to `device.reset` with cause 1.
It rests on the model's own choices: log entries 4, 15. -/
def Obligations.ResetsRestart : Prop :=
  (∀ (s : State) (t : Nat), s.safeAsk = 0 →
    Completes (.porNLow t) s (fun u => Restarted s u 0 [] ∧ u.porLow = true ∧ u.boot.step = .held) (fun _ => True)) ∧
  (∀ (s : State) (t r : Nat) (mv : Int), s.safeAsk = 0 → railPresent s.variant r = true → mv < railReset r →
    Completes (.railBelowReset t r mv) s (fun u => Restarted s u 3 [K.deviceRailVolts r, K.deviceRailState r] ∧ u.boot.step = .held ∧ u.railsLow.testBit r = true ∧
      u.obj (K.deviceRailState r) = 1) (fun _ => True)) ∧
  (∀ (s : State) (t : Nat), Awake s → s.mode = mSafe → (s.obj K.deviceSafeCause).testBit 5 = true →
    Completes (.watchdogReset t) s (fun u => Restarted s u 2 [] ∧ u.boot.step = .headers) (fun _ => True)) ∧
  (∀ (s : State) (q : Req) (l : Loc), s.safeAsk = 0 →
    let w := onObject (withBody q (toLE 2 0xA55A)) K.deviceReset
    Admitted s w .write → checkWrite (s.access w) w = .ok l →
    Completes (.deviceReset q) s (fun u => Restarted s u 1 [] ∧ u.boot.step = .headers) (fun _ => True))

/-- The boot (R39, R80, R82, R153): POR_N released starts it at the slot selected; each step that succeeds leads to the next; an image that
cannot be read, or is not confirmed, leads to the other slot once and to RESCUE the second time; a confirmed image leads to LOAD. The strap,
the Store's training, the reference clock and the headers show what they found.
It rests on the model's own choices: log entries 4, 15, 26. -/
def Obligations.BootFollowsItsSteps : Prop :=
  (∀ (s : State) (t : Nat), s.safeAsk = 0 → s.porLow = true → s.railsLow = 0 →
    Completes (.porNRelease t) s (fun u => u.porLow = false ∧ u.boot.step = .headers ∧ u.boot.slot = s.flashSelect ∧
      u.boot.fallback = false) (fun _ => True)) ∧
  (∀ (s : State) (t bad : Nat) (strap : Bool), s.held = false → s.boot.live = false → s.boot.warm = false →
    Completes (.backstopLive t strap bad) s (fun u => u.boot.live = true ∧ u.time = 0 ∧ u.strap = strap ∧
      u.obj K.portsDebugStrap = ofBool strap) (fun _ => True)) ∧
  (∀ (s : State) (t repaired : Nat), Awake s → s.boot.trained = false →
    Completes (.storeTrainingEnd t true repaired) s
      (fun u => u.obj K.storeRepaired = min repaired 64 ∧ u.obj K.storeState = 1 ∧ u.boot = { s.boot with trained := true })
      (fun v => Frame s v [K.storeRepaired, K.storeState])) ∧
  (∀ (s : State) (t hz : Nat), Awake s →
    (99990000 ≤ hz ∧ hz ≤ 100010000 → Sets (.refclkDetected t hz) s [(K.timeRefclkFreq, 100000000)] (fun _ => True)) ∧
    (156234375 ≤ hz ∧ hz ≤ 156265625 → Sets (.refclkDetected t hz) s [(K.timeRefclkFreq, 156250000)] (fun _ => True))) ∧
  (∀ (s : State) (t : Nat), Awake s → s.boot.step = .headers → (s.bootSlot s.boot.slot).bootable = true →
    boardDefects (s.force K.boardDefects) = [] →
    Sets (.bootHeaderRead t true) s
      [(K.versionsMgmtWordA, if s.slotA.headerValid then s.slotA.word else 0),
       (K.versionsMgmtWordB, if s.slotB.headerValid then s.slotB.word else 0)]
      (fun u => u.boot = { s.boot with step := .image } ∧ u.defects = [])) ∧
  (∀ (s : State) (t : Nat), Awake s → s.boot.step = .image → (s.bootSlot s.boot.slot).crcGood = true →
    let x := s.bootSlot s.boot.slot
    Sets (.bootImageRead t true) s
      [(K.versionsMgmtRunning, x.word), (K.versionsMgmtSlot, s.boot.slot), (K.versionsMajors, x.majors),
       (K.versionsRallyMin, x.rallyMin), (K.versionsRallyMax, x.rallyMax), (K.placerAlgorithm, x.algorithm)]
      (fun u => u.boot = { s.boot with step := .confirming })) ∧
  (∀ (s : State) (t : Nat) (c : Instr), Awake s →
    (s.boot.step = .image ∧ c = .bootImageRead t false) ∨ (s.boot.step = .confirming ∧ c = .confirmTimeout t) →
    (s.boot.fallback = false → (s.bootSlot (1 - s.boot.slot)).bootable = true →
      Sets c s [] (fun u => u.boot = { s.boot with step := .image, slot := 1 - s.boot.slot, fallback := true })) ∧
    (s.boot.fallback = true →
      Sets c s [(K.versionsMgmtBoot, 2), (K.deviceMode, mRescue), (K.deviceModeSince, (s.begin_ t).now)]
        (fun u => u.boot = { s.boot with step := .rescue }))) ∧
  (∀ (s : State) (t : Nat), s.held = false → s.boot.step = .confirming → s.boot.live = true → s.boot.trained = true →
    Completes (.firmwareConfirmed t) s (fun u => u.mode = mLoad ∧ u.boot = { s.boot with step := .done }) (fun _ => True))

/-- Rails, temperatures and SAFE_N (R400, R412, R416, R425, R428): the voltage is shown, a rail back in its window reads OK, a loss of VP12,
VN12 or VANA18 puts every output to OFF, the sensors and the highest of them are shown, and SAFE_N released is no cause any longer.
It rests on the model's own choices: log entries 8, 14. -/
def Obligations.SuppliesAndTemperaturesShow : Prop :=
  (∀ (s : State) (t r : Nat) (mv : Int), Awake s → railPresent s.variant r = true → railState r mv = 0 → s.railsLow.testBit r = false →
    Sets (.railReturn t r mv) s [(K.deviceRailVolts r, f32OfIntRat mv 1000), (K.deviceRailState r, 0)]
      (fun u => u.railsLow = s.railsLow)) ∧
  (∀ (s : State) (t r : Nat) (mv : Int), Awake s → railPresent s.variant r = true →
    (r = 3 ∧ mv < 1500) ∨ ((r = 7 ∨ r = 8) ∧ mv.natAbs < 9000) →
    Completes (.dacSupplyLoss t r mv) s
      (fun u => u.obj (K.deviceRailVolts r) = f32OfIntRat mv 1000 ∧
        ∀ n < dacCount s.variant, enState (u.obj (K.dacStatus n)) = 0 ∧ enPending (u.obj (K.dacStatus n)) = 0 ∧
          (u.obj (K.dacStatus n)).testBit 6 = false ∧ (u.dac n).fed = false ∧ (u.dac n).move = none ∧ (u.dac n).slew = none)
      (fun v => Frame s v (K.deviceRailVolts r :: (List.range (dacCount s.variant)).map K.dacStatus))) ∧
  (∀ (s : State) (t : Nat) (d a0 a1 : Int), Awake s →
    let ts := [satSigned 16 d, satSigned 16 a0, s.obj K.storeTemp] ++ (if dieCount s.variant = 2 then [satSigned 16 a1] else [])
    Completes (.tempSensorRead t d a0 a1) s
      (fun u => u.obj K.deviceTempDigital = satSigned 16 d ∧ u.obj (K.deviceTempAna 0) = satSigned 16 a0 ∧
        (dieCount s.variant = 2 → u.obj (K.deviceTempAna 1) = satSigned 16 a1) ∧
        (∀ x ∈ ts, signed 16 x ≤ signed 16 (u.obj K.deviceTempMax)) ∧ (∃ x ∈ ts, signed 16 (u.obj K.deviceTempMax) = signed 16 x) ∧
        (u.safeAsk.testBit 3 = true ↔ signed 16 (s.obj K.deviceSafeTjLimit) < signed 16 (u.obj K.deviceTempMax)))
      (fun v => (∀ x ∈ ts, signed 16 x ≤ signed 16 (s.obj K.deviceSafeTjLimit)) →
        Frame s v ([K.deviceTempDigital, K.deviceTempAna 0, K.deviceTempAna 1, K.deviceTempMax, K.deviceTempMaxSeen] ++ evKeys 760 ++
          (allTiles s.variant).flatMap (fun n => K.tileIlvFlags n :: evKeys (256 + n))))) ∧
  (∀ (s : State) (t : Nat), Awake s → Sets (.safeNRelease t) s [] (fun u => u.safeLow = false))

/-- Version objects (R33, R36, R41, R48): `versions.accept` is stored, and from 0 to 1 it has every die in FACTORY checked again, the slot for the next boot is pending until a reset, and a slot that has
been programmed shows its word and ends the transfer that brought it. It rests on the model's own choices: log entries 13, 28. -/
def Obligations.VersionsAreWritten : Prop :=
  (∀ (s : State) (q : Req) (l : Loc), s.safeAsk = 0 →
    let w := onObject q K.versionsAccept
    Accepts s w l →
    Completes (.versionsAcceptWrite q) s
      (fun u => Responds (s.written w l) u w (okMessage u w .write [] l.row.ty.code 0) ∧ u.obj K.versionsAccept = ofLE q.body ∧
        ∀ d ∈ s.dies, u.obj (K.versionsSeqState d) =
          if s.obj K.versionsAccept = 0 ∧ ofLE q.body = 1 ∧ s.obj (K.versionsSeqState d) = 2 then
            (match s.classify 2 (s.seqWords.getD d 0) with | .tested => 0 | .untested => 1 | .untestable => 2)
          else s.obj (K.versionsSeqState d))
      (fun v => RequestFrame s v ([K.versionsAccept, K.versionsRestricted, K.versionsLastRefusal, K.versionsSeqState 0,
        K.versionsSeqState 1] ++ evKeys 746)) ∧
    ((∀ d ∈ s.dies, s.obj (K.versionsSeqState d) ≠ 2) ∨ ofLE q.body = 0 →
      Writes (.versionsAcceptWrite q) s w l [(K.versionsAccept, ofLE q.body)] (fun u => u.untested = s.untested))) ∧
  (∀ (s : State) (q : Req) (l : Loc), s.safeAsk = 0 →
    let w := onObject q K.versionsMgmtSelect
    Accepts s w l →
    Completes (.mgmtSelectWrite q) s
      (fun u => u.flashSelect = ofLE q.body ∧ u.obj K.versionsMgmtSelect = ofLE q.body ∧
        u.force K.versionsMgmtSelect = s.force K.versionsMgmtSelect ∧ u.isPending K.versionsMgmtSelect = true)
      (fun v => ∀ k, settledKey k = false → accessKey k = false → k ≠ K.versionsMgmtSelect → v.obj k = s.obj k)) ∧
  (∀ (s : State) (t slot : Nat) (x : Transfer), Awake s → slot < 2 →
    s.transfers.find? (fun y => y.waiting && y.obj == slotWordKey slot) = some x → x.port = 3 →
    Sets (.firmwareSlotProgrammed t slot true) s [(slotWordKey slot, imageWord x.data)]
      (fun u => u.bootSlot slot = slotOfImage x.data ∧ u.transfers = s.transfers.filter (fun y => y.id != x.id)))

/-! ## Timebase, encoders, triggers -/

/-- REFCLK (R155, R156): its loss enters HOLDOVER with the counters kept and every synthesiser flagged, its return ends it and shows how
long it lasted, and a synthesiser that locks ends STARTING and shows its phase. It rests on the model's own choices: log entry 8. -/
def Obligations.ReferenceClockIsFollowed : Prop :=
  (∀ (s : State) (t : Nat), s.held = false → s.obj K.timeRefclkState = 0 → s.calTiles = [] →
    Completes (.refclkLoss t) s
      (fun u => u.obj K.timeRefclkState = 1 ∧ u.obj K.timeRefclkLosses = satAdd 32 (s.obj K.timeRefclkLosses) 1 ∧
        u.refLost = max s.clock t ∧ ∀ q < quadCount s.variant, (u.obj (K.timeSynStatus q)).testBit 4 = true) (fun _ => True)) ∧
  (∀ (s : State) (t : Nat), Awake s → s.obj K.timeRefclkState = 1 →
    Sets (.refclkReturn t) s
      ([(K.timeRefclkState, 0), (K.timeRefclkHoldoverMs, (max s.clock t - s.refLost) / perMs)] ++
        (allQuads s.variant).map (fun q => (K.timeSynStatus q, withBit (s.obj (K.timeSynStatus q)) 4 false))) (fun _ => True)) ∧
  (∀ (s : State) (t q : Nat) (phase : Int), Awake s → q < quadCount s.variant → enState (s.obj (K.timeSynStatus q)) = 1 →
    isOn (enEnd (s.obj (K.timeSynStatus q))) = true → 0 ≤ phase →
    phase < (Frac.div ⟨1000000000000, 1⟩ (fracOfF32 (s.obj (K.timeSynFreq q)))).ceil →
    Completes (.synthLocked t q phase) s
      (fun u => u.obj (K.timeSynStatus q) = enEnd (s.obj (K.timeSynStatus q)) ∧ u.obj (K.timeSynPhase q) = phase.toNat ∧
        u.obj (K.timeSynLocks q) = satAdd 32 (s.obj (K.timeSynLocks q)) 1)
      (fun v => Frame s v ([K.timeSynStatus q, K.timeSynPhase q, K.timeSynLocks q] ++ (List.range 8).map K.fabricPaceOffset)))

/-- TIME96 (R158 to R160): TIME_SET loads the counter; the Announce of a new master begins SYNCING; in LOAD a Sync beyond `time.step_limit`
steps the counter by the offset; the master's silence ends in HOLDOVER after LOCKED and in FREERUN otherwise.
It rests on the model's own choices: log entries 2, 29. -/
def Obligations.TimeIsSetAndFollowed : Prop :=
  (∀ (s : State) (q : Req) (l : Loc), s.safeAsk = 0 →
    let w := onObject q K.timeSet
    Accepts s w l → Writes (.timeSet q) s w l [] (fun u => u.time = ofTime96 (ofLE q.body) ∧ u.timeRem = 0)) ∧
  (∀ (s : State) (t domain master : Nat) (utc : Int), Awake s → s.obj K.timePtpEnable = 1 → s.obj K.portsMgmtLink = 3 →
    s.timeByRally = false → s.obj K.timeSource = 0 → s.obj K.timeState ≠ 2 → domain = s.obj K.timePtpDomain → master ≠ s.obj K.timePtpMaster →
    Sets (.ptpMessage t (.announce (s.obj K.timePtpTransport) domain master true utc)) s
      ([(K.timePtpMaster, master), (K.timeUtcOffset, satSigned 16 utc), (K.timeSource, 1), (K.timePtpPortState, 8), (K.timeState, 1)] ++
        raisedBy (s.begin_ t) 750 0) (fun u => u.lockRuns = 0)) ∧
  (∀ (s : State) (t domain : Nat) (offset delay : Int), Awake s → s.obj K.timePtpEnable = 1 → s.obj K.portsMgmtLink = 3 →
    s.timeByRally = false → s.obj K.timeSource = 1 → s.obj K.timeState = 1 → domain = s.obj K.timePtpDomain → s.mode = mLoad →
    offset.natAbs > s.obj K.timeStepLimit * perNs → offset.natAbs > perUs →
    Sets (.ptpMessage t (.sync (s.obj K.timePtpTransport) domain offset delay)) s
      [(K.timePtpPathDelay, satSigned 32 delay), (K.timeOffset, offsetPs offset), (K.timeRate, 0), (K.timeState, 1), (K.timePtpPortState, 8)]
      (fun u => u.time = (((s.begin_ t).time : Int) - offset).toNat ∧ u.lockRuns = 0)) ∧
  (∀ (s : State) (t : Nat), s.held = false → s.obj K.timeSource = 1 →
    Completes (.ptpAnnounceTimeout t) s
      (fun u => u.obj K.timeSource = 0 ∧ u.obj K.timePtpMaster = 0 ∧ u.obj K.timePtpPortState = 5 ∧
        u.obj K.timeState = (if s.obj K.timeState = 2 then 3 else 0) ∧ u.obj (K.eventStatus 750) = 1)
      (fun _ => True))

/-- The edges of an encoder (R161 to R163): levels held for as long as the glitch filter asks are taken, and shorter ones only counted;
a single change of one level in QUAD4 counts one up or down by the phase of A and B, and inversion turns the count round; a change of both
levels counts none and raises SIGNAL. It rests on the model's own choices: log entries 15, 30. -/
def Obligations.EncoderEdgesCount : Prop :=
  (∀ (s : State) (t e held : Nat) (a b : Bool), Awake s → e < 8 → s.encRuns e = true → s.obj (K.encMode e) = 0 →
    5000 * s.obj (K.encGlitch e) ≤ held → (((s.enc e).a ≠ a ∧ (s.enc e).b = b) ∨ ((s.enc e).a = a ∧ (s.enc e).b ≠ b)) →
    let up : Bool := if (s.enc e).a ≠ a then a != b else a == b
    let d : Int := if up != (s.obj (K.encInvert e) == 1) then 1 else -1
    let vs := [(K.encPosition e, unsigned 48 (s.position e + d)),
      (K.encFlags e, withBit (withBit (s.obj (K.encFlags e)) 1 false) 4 (decide (d < 0)))]
    Completes (.encoderEdge t e a b held) s
      (fun u => Holds u vs ∧ (u.enc e).a = a ∧ (u.enc e).b = b ∧ (u.enc e).moved = (s.enc e).moved + d ∧
        (u.enc e).edges.head? = some (max s.clock t / edgeTick * edgeTick, s.position e + d) ∧
        (∀ p ∈ s.pitchesOf e, (u.pitchOf p).moved = (s.pitchOf p).moved + d * 65536))
      (fun v => Holds v vs ∧ Frame s v (vs.map (·.1) ++ (s.pitchesOf e).map K.pitchError))) ∧
  (∀ (s : State) (t e held : Nat), Awake s → e < 8 → s.encRuns e = true → s.obj (K.encMode e) = 0 →
    5000 * s.obj (K.encGlitch e) ≤ held →
    Sets (.encoderEdge t e (!(s.enc e).a) (!(s.enc e).b) held) s
      ([(K.encIllegal e, satAdd 32 (s.obj (K.encIllegal e)) 1), (K.encFlags e, withBit (s.obj (K.encFlags e)) 3 true)] ++
        raisedBy (s.begin_ t) (722 + 3 * e) 0xFF) (fun u => (u.enc e).a = !(s.enc e).a ∧ (u.enc e).b = !(s.enc e).b)) ∧
  (∀ (s : State) (t e held : Nat) (a b : Bool), Awake s → e < 8 → s.encRuns e = true → (s.enc e).a ≠ a ∨ (s.enc e).b ≠ b →
    held < 5000 * s.obj (K.encGlitch e) →
    Sets (.encoderEdge t e a b held) s [(K.encGlitches e, satAdd 32 (s.obj (K.encGlitches e)) 1)]
      (fun u => u.enc e = s.enc e ∧ u.pitches = s.pitches))

/-- What else befalls an encoder (R88, R163, R164): the index mark captures or presets the position by `enc.z_mode`; each 1 ms window shows
rate and acceleration; standstill and the loss of its signal set their flags and raise their sources. Writes of encoder objects (R99, R162,
R164, R166): a preset is the position at once and sets REFERENCED, the filter and the rate limit are stored, and an enable moves the status
byte by the enable rule. It rests on the model's own choices: log entry 30. -/
def Obligations.EncodersAreWatchedAndWritten : Prop :=
  (∀ (s : State) (t e : Nat), Awake s → e < 8 → s.encRuns e = true → (s.enc e).index = false →
    (s.obj (K.encZMode e) = 1 → Sets (.encoderZEdge t e) s [(K.encZPos e, s.obj (K.encPosition e))] (fun _ => True)) ∧
    (s.obj (K.encZMode e) = 2 → (s.enc e).armed = true →
      Sets (.encoderZEdge t e) s
        [(K.encPosition e, s.obj (K.encPreset e)), (K.encFlags e, withBit (s.obj (K.encFlags e)) 0 true)]
        (fun u => (u.enc e).armed = false))) ∧
  (∀ (s : State) (t e : Nat), s.held = false → e < 8 → s.encRuns e = true →
    Completes (.encoderWindow t e) s
      (fun u => u.obj (K.encRate e) = satSigned 32 ((s.enc e).moved * 1000) ∧
        u.obj (K.encAccel e) = satSigned 32 (if (s.enc e).rated then ((s.enc e).moved * 1000 - signed 32 (s.obj (K.encRate e))) * 1000
          else 0) ∧
        (u.enc e).moved = 0 ∧ (u.enc e).rated = true) (fun _ => True)) ∧
  (∀ (s : State) (t e : Nat), Awake s → e < 8 → s.encRuns e = true → s.mode ≠ mRun →
    Sets (.encoderStandstill t e) s
      ((K.encFlags e, withBit (s.obj (K.encFlags e)) 1 true) :: raisedBy (s.begin_ t) (720 + 3 * e) 0xFF)
      (fun u => (u.enc e).stopped = some (max s.clock t))) ∧
  (∀ (s : State) (t e : Nat), Awake s → e < 8 → s.encRuns e = true →
    Sets (.encoderSignalLoss t e) s
      ((K.encFlags e, withBit (s.obj (K.encFlags e)) 3 true) :: raisedBy (s.begin_ t) (722 + 3 * e) 0xFF)
      (fun u => (u.enc e).quiet = 0)) ∧
  (∀ (s : State) (q : Req) (l : Loc) (e : Nat), s.safeAsk = 0 → e < 8 →
     (Accepts s (onObject q (K.encPreset e)) l → Writes (.encPresetWrite q e) s (onObject q (K.encPreset e)) l
       [(K.encPreset e, ofLE q.body), (K.encPosition e, ofLE q.body), (K.encFlags e, withBit (s.obj (K.encFlags e)) 0 true)]
       (fun _ => True)) ∧
     (Accepts s (onObject q (K.encGlitch e)) l → Writes (.encFilterWrite q e false) s (onObject q (K.encGlitch e)) l
       [(K.encGlitch e, ofLE q.body)] (fun _ => True)) ∧
     (Accepts s (onObject q (K.encRateMax e)) l → Writes (.encFilterWrite q e true) s (onObject q (K.encRateMax e)) l
       [(K.encRateMax e, ofLE q.body)] (fun _ => True)) ∧
     (Accepts s (onObject q (K.encEnable e)) l → Writes (.encEnable q e) s (onObject q (K.encEnable e)) l
       [(K.encEnable e, ofLE q.body), (K.encStatus e, enWrite (s.obj (K.encStatus e)) (ofLE q.body))] (fun _ => True)))

/-- Line triggers (R77, R88, R169 to R171): a generator that fires gives its trigger, at the instant that it aims at, the next line number
with instant and position, and no other object changes until the trigger reaches what hangs on the generator; one sooner than the minimum
period is skipped with RANGE. The trigger takes the device from a waiting PREPARE, or from a standstill HOLD with automatic resume, into RUN.
It rests on the model's own choices: log entries 30, 31. -/
def Obligations.LineTriggersFire : Prop :=
  ∀ (s : State) (t p at_ : Nat) (late0 : Bool) (c : Instr), Awake s → p < 16 → s.firesLocally p = true → s.followsDue p = false →
    s.rallyState ≠ rExcluded ∨ bitsOf (s.obj K.rallyShareSource) p p = 0 → (s.pitchOf p).aim = some (at_, late0) →
    let e := s.encOf p
    let x := s.pitchOf p
    let tg := s.targetOf p
    let A := (s.begin_ t).advance at_
    let late := late0 || (s.obj (K.encFlags e)).testBit 2
    let line := if x.begun then (s.obj (K.pitchLine p) + 1) % 2 ^ 64 else s.obj (K.pitchLineStart p)
    let vs := [(K.pitchLine p, line), (K.pitchLastTime p, time96 (A.timeAt at_)),
      (K.pitchLastPos p, unsigned 48 (s.stampedPosition e + (tg.1 - x.moved) / 65536)),
      (K.pitchStatus p, withBit (s.obj (K.pitchStatus p)) 4 late),
      (K.pitchLate p, if late then satAdd 32 (s.obj (K.pitchLate p)) 1 else s.obj (K.pitchLate p))]
    let entered := [(K.deviceMode, mRun), (K.deviceModeSince, A.now), (K.deviceModeTarget, mRun), (K.deviceModeStep, 0),
      (K.deviceHoldCause, 0), (K.deviceHoldEncoder, 0xFF)]
    let fires := fun (ws : List (Nat × Nat)) (own : State → Prop) =>
      Completes c s (fun u => ∃ v : State, u = ((v.reachLines p line at_).blankLines p).pitchStrobes p ∧ Holds v ws ∧
        (∀ k, k ∉ ws.map (·.1) → v.obj k = s.obj k) ∧ (v.pitchOf p).lastAt = some at_ ∧ v.ctxs = s.ctxs ∧ v.mem = s.mem ∧ own v)
        (fun _ => True)
    (s.tooSoon p at_ = false →
      (c = .lineTrigger t p → s.runsWith p = false → fires vs (fun v => v.trans = s.trans)) ∧
      ((c = .lineTrigger t p ∧ s.runsWith p = true) ∨ (c = .runEntryTrigger t p ∧ s.trans.motion = .toRun ∧ s.placedPitch p = true) ∨
          (c = .autoResume t p ∧ s.mode = mHold ∧ s.runsWith p = true) →
        fires (vs ++ entered) (fun v => v.trans = .idle)) ∧
      (c = .lineTrigger t p → s.runsWith p = false → s.triggeredBy p = [] → s.scannedBy p = [] →
        Sets c s vs (fun u => (u.pitchOf p).lastAt = some at_))) ∧
    (s.tooSoon p at_ = true → c = .lineTrigger t p →
      Sets c s ([(K.pitchSkipped p, satAdd 32 (s.obj (K.pitchSkipped p)) 1), (K.encFlags e, withBit (s.obj (K.encFlags e)) 2 true)] ++
        raisedBy A (721 + 3 * e) p) (fun u => (u.pitchOf p).lastAt = x.lastAt ∧ u.trans = s.trans))

/-! ## Board facts, graph, Placer -/

/-- Board facts (R220): BOARD_COMMIT takes the facts that wait and shows PROGRAMMING, and once they are programmed the copy is in force: the
fact reads its programmed value, the commit is counted, and BOARD is raised. The defect list (R226): DEFECT_ADD lists a unit with cause
BENCH and raises PLACER, and shows the bit of a tile; DEFECT_CLEAR keeps the entries of cause BOARD alone.
It rests on the model's own choices: log entries 2, 26, 39. -/
def Obligations.BoardFactsAndDefects : Prop :=
  (∀ (s : State) (q : Req) (l : Loc), s.safeAsk = 0 →
    let w := onObject (withBody q (toLE 1 1)) K.boardCommit
    Accepts s w l →
    Writes (.boardCommit q) s w l [(K.boardState, 2)]
      (fun u => ∀ k v, (k, v) ∈ u.boardNext ↔ k ∈ s.inForce.map (·.1) ∧ isBoardKey k = true ∧ v = s.obj k)) ∧
  (∀ (s : State) (t : Nat), s.held = false → s.obj K.boardState = 2 → (s.boardNext.map (·.1)).Nodup →
    (∀ e ∈ s.boardNext, isBoardKey e.1 = true) →
    Completes (.boardProgrammed t) s
      (fun u => (∀ e ∈ s.boardNext, u.force e.1 = e.2) ∧ u.obj K.boardState = 1 ∧ u.obj K.boardCommits = satAdd 32 (s.obj K.boardCommits) 1 ∧
        u.boardNext = [] ∧ u.obj (K.eventCount 764) = satAdd 32 (s.obj (K.eventCount 764)) 1) (fun _ => True)) ∧
  (∀ (s : State) (q : Req) (l : Loc), s.safeAsk = 0 →
    let w := onObject q K.placerDefectAdd
    let cls := ofLE q.body / 65536
    let unit := ofLE q.body % 65536
    Accepts s w l → s.defects.any (fun d => d.names cls unit false) = false → s.defects.length < 512 →
    Writes (.defectAdd q) s w l
      ([(K.placerDefectCount, s.defects.length + 1)] ++
        (if cls = 4 ∧ unit < tileCount s.variant then [(K.tileStatus unit, withBit (s.obj (K.tileStatus unit)) 4 true)] else []) ++
        raisedBy (s.access w) 759 unit)
      (fun u => u.defects = s.defects ++ [⟨cls, unit, 6, 0xFFFF⟩])) ∧
  (∀ (s : State) (q : Req) (l : Loc), s.safeAsk = 0 →
    let w := onObject q K.placerDefectClear
    Accepts s w l →
    Completes (.defectClear q) s
      (fun u => u.defects = s.defects.filter (fun d => d.cause == 7) ∧ u.obj K.placerDefectCount = u.defects.length)
      (fun _ => True))

/-- GRAPH_COMMIT (R223, R91): every written value of the graph is in force, the contexts that nodes name are DEFINED, and a shadow copy
starts. Trials (R238): PLACER_TRIAL computes a placement and changes nothing; TRIAL_COMPLETE shows its result and its digest.
It rests on the model's own choices: log entries 2, 33. -/
def Obligations.GraphsAreCommittedAndTried : Prop :=
  (∀ (s : State) (q : Req) (l : Loc), s.safeAsk = 0 →
     let w := onObject (withBody q (toLE 1 1)) K.graphCommit
     Accepts s w l →
     Completes (.graphCommit q) s
       (fun u => (∀ k, isGraphKey k = true → u.force k = s.obj k ∧ u.isPending k = false) ∧
         (∀ n ∈ u.graphNodes, u.ctxState n.ctx = cDefined) ∧ u.obj K.deviceStandbyShadow = 0 ∧ u.copying = true ∧
         u.placeDirty = true) (fun _ => True)) ∧
  (∀ (s : State) (q : Req) (l : Loc), s.safeAsk = 0 →
    let w := onObject q K.placerTrial
    Accepts s w l →
    Writes (.placerTrial q) s w l []
      (fun u => u.plan = s.plan ∧ ∃ r, u.trial = some r ∧
        (r.1 = 0 ↔ ∃ p, ((s.access w).place (s.access w).pinConflict) = .ok p ∧ r.2 = (s.access w).digestOf p))) ∧
  (∀ (s : State) (t code digest : Nat), Awake s → s.trial = some (code, digest) →
    Sets (.trialComplete t) s [(K.placerTrialResult, code), (K.placerTrialDigest, digest)] (fun u => u.trial = none))

/-- Substitutions (R233, R236): CTX_RETRY and CTX_SWAP begin one with a fresh attempt count, which takes the spare asked for, or the first
eligible one, or waits at its step 2 where the quadrant is full or its sector reloads; steps 2, 3 and 5 end in the next, and step 8 in the end
of the substitution; the switch gives the contexts the substitute; the count of SWAPPED lines over, the substitution is counted and raised. A
piece's move (R235) goes from step to step, and its last ends it, counted and raised. It rests on the model's own choices: log entry 38. -/
def Obligations.SubstitutionsGoOn : Prop :=
  (∀ (s : State) (q : Req) (l : Loc) (c asked : Nat) (i : Instr) (k : Nat), s.safeAsk = 0 → c < 1024 →
    (i = .ctxRetry q c ∧ k = K.ctxRetry c ∧ asked = 0xFFFF) ∨ (i = .ctxSwap q c ∧ k = K.ctxSwap c ∧ asked = ofLE q.body) →
    let w := onObject q k
    let a := s.access w
    let old := s.obj (K.ctxTile c)
    let cs := a.tileCtxs old
    Accepts s w l → (∀ x ∈ s.swaps, x.step ≠ 0) → (∀ m ∈ s.calMembers old, s.tileTaken m = true) →
    Completes i s
      (fun u => Responds (s.written w l) u w (okMessage u w .write [] l.row.ty.code 0) ∧
        (∀ d ∈ cs, u.obj (K.ctxSwapState d) = 1 ∧ u.obj (K.ctxSwapFrom d) = a.nextNumber d) ∧
        u.obj K.placerSwapsActive = min 64 (s.swaps.length + 1) ∧
        (s.swapWaits old = true → u.swaps = s.swaps ++ [⟨old, 0xFFFF, 0, 0, a.clock, asked⟩]) ∧
        (s.swapWaits old = false → ∃ t, u.swaps = s.swaps ++ [⟨old, t, 2, 1, a.clock, asked⟩] ∧ (asked ≠ 0xFFFF → t = asked) ∧
          (asked = 0xFFFF → a.chooseSpare (cs.foldl (fun b d => min b (a.padOf d)) 255) (a.adcMode old == 3) = some t) ∧
          ∀ d ∈ cs, u.obj (K.ctxSwapTile d) = t)) (fun _ => True)) ∧
  (∀ (s : State) (t old : Nat) (x : Swap), Awake s → old < tileCount s.variant → s.swapOf old = some x →
    (x.step = 2 ∨ x.step = 3 ∨ x.step = 5 →
      Completes (.substitutionStepEnd t old true) s
        (fun u => u.swapOf old = some { x with step := x.step + 1 } ∧ ∀ c ∈ s.tileCtxs old, u.obj (K.ctxSwapState c) =
          if x.step = 3 then 2 else if x.step = 5 then 4 else s.obj (K.ctxSwapState c)) (fun _ => True)) ∧
    (x.step = 5 → Sets (.substitutionStepEnd t old true) s ((s.tileCtxs old).map (fun c => (K.ctxSwapState c, 4)))
      (fun u => u.swapOf old = some { x with step := 6 })) ∧
    (x.step = 8 → Completes (.substitutionStepEnd t old true) s
      (fun u => u.swapOf old = none ∧ enState (u.obj (K.tileStatus old)) = 0) (fun _ => True))) ∧
  (∀ (s : State) (t old : Nat) (x : Swap), s.held = false → old < tileCount s.variant → s.swapOf old = some x → x.step = 6 →
    s.mode = mRun → (s.begin_ t).busesContended (s.tileCtxs old) = false →
    Completes (.substitutionSwitch t old) s
      (fun u => (∃ y, u.swapOf old = some y ∧ y.step = 8 ∧ y.spare = x.spare) ∧
        ∀ c ∈ s.tileCtxs old, u.obj (K.ctxTile c) = x.spare) (fun _ => True)) ∧
  (∀ (s : State) (t c : Nat), Awake s → c < 1024 → s.obj (K.ctxSwapState c) = 5 → (s.ctx c).swapped = 0 →
    Sets (.swappedCountExpiry t c) s
      ([(K.ctxSwapState c, 0), (K.ctxSwaps c, satAdd 32 (s.obj (K.ctxSwaps c)) 1)] ++ raisedBy (s.begin_ t) 759 c) (fun _ => True)) ∧
  (∀ (s : State) (t j : Nat) (m : Move), Awake s → j < 256 → s.moves.find? (fun x => x.piece == j) = some m →
    (m.step = 1 ∨ m.step = 2 →
      Completes (.pieceMoveStepEnd t j) s
        (fun u => u.moves = s.moves.map (fun x => if x.piece = j then { x with step := m.step + 1 } else x) ∧
          u.frames = if m.step = 1 then s.frames ++ [(j, s.sectorOf j, m.clusters, m.ports)] else s.frames) (fun _ => True)) ∧
    (m.step = 3 →
      Completes (.pieceMoveStepEnd t j) s
        (fun u => u.moves.find? (fun x => x.piece == j) = none ∧ u.obj (K.graphPieceMoves j) = satAdd 32 (s.obj (K.graphPieceMoves j)) 1 ∧
          u.obj (K.graphPiecePlacedPorts j) = m.ports ∧ u.obj (K.eventStatus 759) = 1) (fun _ => True)))

/-! ## Tiles, pads and the filter chain -/

/-- Tiles and pads (R115, R120, R124, R129): a word enters the ingest buffer and is counted; a CDS line's end moves the clamp and shows the
black level; an overload latches, counts and is raised; a contended bus shows so with its switches open; a test bus and a pad that is not
listed recover. It rests on the model's own choices: log entries 32, 35. -/
def Obligations.TilesAndPadsReact : Prop :=
  (∀ (s : State) (t n half c : Nat) (l : Cur) (codes : List Int) (far : Bool), s.held = false → n < tileCount s.variant → half < 2 →
    s.converts n = true → codes.length = s.cores n → s.obj (K.tileScanSlots n) ≤ 1 → s.formOf n ≠ 3 → s.halfCtx n half = some c →
    s.triggered c = true → (s.ctx c).cur = some l → l.stale = false → l.empty = false →
    let even := if s.adcMode n = 3 then n / 2 * 2 else n
    heldWords (s.tile even).buf < 8192 →
    Completes (.sampleInstant t n half codes far) s
      (fun u => ∃ v : Int, (u.tile even).buf = (s.tile even).buf ++ [.word c (s.chained c) l.line 2 (unsigned 16 v)] ∧
        ((s.tile even).sceneRamp.on = false → v = s.sceneWord even c half (wordOf (s.adcMode n) codes)) ∧
        ((u.ctx c).cur.map (fun y => (y.line, y.words))) = some (l.line, l.words + 1) ∧
        u.obj (K.tileBufWords even) = wrapAdd 64 (s.obj (K.tileBufWords even)) 1 ∧
        u.obj (K.tileBufFill even) = heldWords (s.tile even).buf + 1) (fun _ => True)) ∧
  (∀ (s : State) (t n : Nat), Awake s → n < tileCount s.variant → s.force (K.tileCdsBlackCount n) ≠ 0 → (s.tile n).blackN ≠ 0 →
    Sets (.cdsLineEnd t n) s [(K.tileCdsBlackLevel n, roundSigned 16 (s.tile n).black (4 * (s.tile n).blackN))]
      (fun u => (u.tile n).black = 0 ∧ (u.tile n).blackN = 0 ∧
        (u.tile n).clamp = (s.tile n).clamp + ((s.force (K.tileCdsBlackTarget n) : Int) * 4 * (s.tile n).blackN - (s.tile n).black) *
          65536 / (4 * (s.tile n).blackN * 2 ^ s.force (K.tileCdsClampShift n) : Nat))) ∧
  (∀ (s : State) (t n : Nat), Awake s → n < tileCount s.variant →
    Sets (.padOverload t n) s
      ([(K.tilePadOverload n, 1), (K.tilePadOverloadCount n, satAdd 32 (s.obj (K.tilePadOverloadCount n)) 1)] ++
        raisedBy (s.begin_ t) (256 + n) (7 + 256 * s.obj (K.tileCalFault n))) (fun _ => True)) ∧
  (∀ (s : State) (t n : Nat), s.held = false → n < tileCount s.variant →
    Completes (.busContention t (.pad n)) s
      (fun u => u.obj (K.tilePadBus n) = 3 ∧ u.obj (K.tilePadContentions n) = satAdd 32 (s.obj (K.tilePadContentions n)) 1 ∧
        u.obj (K.tilePadEntry n) = 0 ∧ u.obj (K.tilePadTest n) = 0 ∧ u.obj (K.eventStatus (256 + n)) = 1) (fun _ => True)) ∧
  (∀ (s : State) (t n : Nat), Awake s → n < tileCount s.variant → s.padCtxs n = [] → (s.tile n).contended = [] →
    Sets (.busContention t (.pad n)) s
      ([(K.tilePadBus n, 3), (K.tilePadContentions n, satAdd 32 (s.obj (K.tilePadContentions n)) 1), (K.tilePadEntry n, 0),
        (K.tilePadTest n, 0)] ++ raisedBy (s.begin_ t) (256 + n) (4 + 256 * s.obj (K.tileCalFault n)))
      (fun u => (u.tile n).contended = [max s.clock t])) ∧
  (∀ (s : State) (t n : Nat), s.held = false → n < tileCount s.variant → s.obj (K.tilePadBus n) = 3 → s.padListed n = false →
    Completes (.contentionRecovery t (.pad n)) s
      (fun u => u.obj (K.tilePadEntry n) = ofBool (s.padUsed n) ∧
        u.obj (K.tilePadBus n) = if s.padUsed n then 1 else if s.obj (K.tilePadTest n) = 1 then 2 else 0) (fun _ => True)) ∧
  (∀ (s : State) (t k : Nat), Awake s → 32 * k < tileCount s.variant →
    Sets (.busContention t (.test k)) s [(K.testBusState k, 3), (K.testBusSrc k, 0)] (fun _ => True) ∧
    (s.obj (K.testBusState k) = 3 → Sets (.contentionRecovery t (.test k)) s [(K.testBusState k, 0)] (fun _ => True))) ∧
  (∀ (s : State) (t n half : Nat) (ps : List Nat), s.held = false → n < tileCount s.variant → half < 2 →
    (∀ p ∈ ps, p < tileCount s.variant) →
    Completes (.busContention t (.selector n half ps)) s
      (fun u => ∀ p ∈ s.busPads (.selector n half ps), u.obj (K.tilePadBus p) = 3 ∧ u.obj (K.tilePadEntry p) = 0 ∧
        u.obj (K.tilePadContentions p) = satAdd 32 (s.obj (K.tilePadContentions p)) 1) (fun _ => True) ∧
    Completes (.contentionRecovery t (.selector n half ps)) s (fun u => (u.tile n).isolated.testBit half = false) (fun _ => True))

/-- The engines (R199, R212, R213): the next slot of the round that has words has its turn, and the turn passes on; in it the slot reads the
words that its line has left, at most 32; a slot that has primed runs, and the lowest slot that waits primes next.
It rests on the model's own choices: log entry 36. -/
def Obligations.EnginesReadAndPrime : Prop :=
  (∀ (s : State) (t n i : Nat), s.held = false → n < engineCount s.variant → isOn (s.obj (K.feStatus n)) = true →
    s.clientRed (34 + n / 8) = false → (s.turnOrder n).find? s.slotReady = some i →
    let r := (s.ctx (s.slotCtx i)).raw
    let x := s.chain i
    Completes (.feBatch t n) s (fun u => Sp.get (fun _ => 0) u.feTurn n = (i + 1) % 16 ∧ isOn (u.obj (K.feStatus n)) = true) (fun _ => True) ∧
    ∀ k, x.line = some k → s.holdsLine r k = true → x.restart = false → x.changeAt = none → x.stepsDue = [] →
      (∀ j < 32, s.lineAddr r k (2 * (x.off + j)) % 2 = 0 ∧ s.poisoned (s.lineAddr r k (2 * (x.off + j))) = false) →
      x.off + 32 < (s.recOf r k).length / 2 →
      Completes (.feBatch t n) s
        (fun u => (u.chain i).off = x.off + 32 ∧ (u.chain i).count = x.count + 32 ∧ (u.chain i).line = some k) (fun _ => True)) ∧
  (∀ (s : State) (t n j : Nat), s.held = false → n < engineCount s.variant → j < 16 → s.slotState (16 * n + j) = 3 →
    (∀ m < 16, m ≠ j → s.slotState (16 * n + m) ≠ 3) →
    Completes (.primingComplete t n j) s
      (fun u => u.obj (K.feSlotState n j) = 1 ∧
        (∀ m < 16, m ≠ j → s.slotState (16 * n + m) = 4 → (∀ i < m, s.slotState (16 * n + i) ≠ 4) →
          u.obj (K.feSlotState n m) = 3 ∧ u.obj (K.fePrimes n) = satAdd 32 (s.obj (K.fePrimes n)) 1))
      (fun v => Frame s v (K.feStatus n :: K.fePrimes n :: (List.range 16).map (K.feSlotState n))))

/-- Writes to tiles, engines and coefficient sets (R101, R120, R123, R127, R129, R205, R218): the value is stored, an engine's status moves
by the enable rule where its quadrant is powered, a closed test bridge shows at its bus, and the two clears act.
It rests on the model's own choices: log entry 33. -/
def Obligations.TileAndEngineObjectsAreWritten : Prop :=
  ∀ (s : State) (q : Req) (l : Loc) (n : Nat), s.safeAsk = 0 →
    (n < 64 → Accepts s (onObject q (K.feEnable n)) l → Writes (.feEnable q n) s (onObject q (K.feEnable n)) l
      ((K.feEnable n, ofLE q.body) ::
        (if s.powered (n / 16) = true then [(K.feStatus n, enWrite (s.obj (K.feStatus n)) (ofLE q.body))] else []))
      (fun _ => True)) ∧
    (n < 128 → Accepts s (onObject q (K.feSetCoef n)) l → Writes (.coefSetWrite q n) s (onObject q (K.feSetCoef n)) l
      [(K.feSetCoef n, ofLE q.body)] (fun _ => True)) ∧
    (n < 256 → Accepts s (onObject q (K.tilePadTerm n)) l → Writes (.padTermWrite q n) s (onObject q (K.tilePadTerm n)) l
      [(K.tilePadTerm n, ofLE q.body)] (fun _ => True)) ∧
    (n < 256 → Accepts s (onObject q (K.tilePadTest n)) l → Writes (.padTestWrite q n) s (onObject q (K.tilePadTest n)) l
      [(K.tilePadTest n, ofLE q.body),
       (K.tilePadBus n, if s.obj (K.tilePadBus n) = 3 then 3 else if s.obj (K.tilePadEntry n) = 1 then 1
         else if ofLE q.body = 1 then 2 else 0)] (fun _ => True)) ∧
    (n < 256 → Accepts s (onObject q (K.tilePadClear n)) l → Writes (.padClear q n) s (onObject q (K.tilePadClear n)) l
      [(K.tilePadOverload n, 0)] (fun _ => True)) ∧
    (n < 256 → Accepts s (onObject q (K.tileBufPeakClear n)) l → Writes (.bufPeakClear q n) s (onObject q (K.tileBufPeakClear n)) l
      [(K.tileBufPeak n, s.obj (K.tileBufFill n))] (fun _ => True))

/-! ## The Store and its arbitration -/

/-- The map (R242, R243): pseudo-channel and bank bits are exclusive-ors of the bits that their masks select; masks that keep to R243 map
transfer addresses to locations one to one; a write that breaks the rules ends with RANGE and the first offending mask's number. -/
def Obligations.StoreMapIsOneToOne : Prop :=
  (∀ (masks t i : Nat), (∀ j < 9, u32At masks (4 * j) < 2 ^ 27) →
    let odd := fun m => ((List.range 27).filter (fun j => m.testBit j && t.testBit j)).length % 2 == 1
    (i < 5 → (pcOf masks t).testBit i = odd (u32At masks (4 * i))) ∧
    (i < 4 → (bankOf masks t).testBit i = odd (u32At masks (20 + 4 * i))) ∧
    columnOf t = t / 32 % 16 ∧ rowOf t = t / 8192 % 16384 ∧
    pcOf (schemeMasks 1 0) t = t % 32 ∧ bankOf (schemeMasks 1 0) t = t / 512 % 16) ∧
  (∀ (masks t u : Nat), badMask masks = none → t < 2 ^ 27 → u < 2 ^ 27 → pcOf masks t = pcOf masks u →
    bankOf masks t = bankOf masks u → columnOf t = columnOf u → rowOf t = rowOf u → t = u) ∧
  (∀ (masks : Nat),
    let keeps := fun (i : Nat) =>
      let m := u32At masks (4 * i)
      let own := if i < 5 then i else i + 4
      m < 2 ^ 27 ∧ m.testBit own = true ∧ ∀ j < (if i < 5 then 5 else 13), j ≠ own → m.testBit j = false
    (badMask masks = none ↔ ∀ i < 9, keeps i) ∧
      ∀ i, badMask masks = some i ↔ i < 9 ∧ ¬keeps i ∧ ∀ j < i, keeps j) ∧
  (∀ (s : State) (q : Req) (l : Loc) (i : Nat), s.safeAsk = 0 → q.index = 0x5804 → q.sub = 3 → Admitted s q .write →
    (s.access q).checkObject q mayWrite true (fun _ => true) = .ok l → q.body.length = 36 →
    badMask (ofLE q.body) = some i →
    Completes (.write q) s (fun u => Responds (s.access q) u q ((s.access q).response q .write (.error ⟨aRange, i⟩)))
      (fun t => RequestFrame s t [K.portsPortAborts q.port, K.portsPortLastAbort q.port])) 

/-- Grants (R254, R260, R273): at every N-th grant the Libero slot goes to the requester that has waited longest, else the lowest rank that
asks is served; a port counts the grant it makes, the Libero slot at the client too; a read is counted at its pseudo-channel and raises the
waits shown; a full transfer of an ingest buffer leaves it for the write queue; a grant held to its limit is counted, cards the client and is
raised (R275). It rests on the model's own choices: log entries 2, 41. -/
def Obligations.ArbitrationGrants : Prop :=
  ∀ (s : State) (t p held : Nat) (ws : List Want) (w : Want) (libero : Bool), p < 32 →
    (∀ x ∈ ws, clientPresent s.variant x.client = true) → s.choose p ws = some (libero, w) →
    let most := fun k v => if f32Key (s.obj k) < f32Key v then v else s.obj k
    (libero = decide (((s.pc p).grants + 1) % s.obj K.arbLiberoN = 0) ∧ w ∈ ws ∧ s.admitted w.client = true ∧
      ∀ x ∈ ws, s.admitted x.client = true → if libero then (s.pc p).waited x.client ≤ (s.pc p).waited w.client
        else rankOf w.client ≤ rankOf x.client) ∧
    (Awake s → (w.access = .service ∨ (∃ c, w.access = .slotRead c ∨ w.access = .laneRead c ∨ w.access = .cellRead c)) →
      Sets (.arbGrant t ⟨p, ws, held, false, 0, false⟩) s
        ([(K.arbPortGrants p, wrapAdd 64 (s.obj (K.arbPortGrants p)) 1),
          (K.arbClientGrants w.client, wrapAdd 64 (s.obj (K.arbClientGrants w.client)) 1),
          (K.arbClientWaitMax w.client, most (K.arbClientWaitMax w.client) (f32OfNat w.waitNs)),
          (K.arbPortHoldMax p, most (K.arbPortHoldMax p) (f32OfNat held)),
          (K.storePcReads p, wrapAdd 64 (s.obj (K.storePcReads p)) 1)] ++
          (if libero then [(K.arbClientLibero w.client, wrapAdd 64 (s.obj (K.arbClientLibero w.client)) 1)] else []))
        (fun u => (u.pc p).grants = (s.pc p).grants + 1 ∧ (u.pc p).reads = (s.pc p).reads + 1 ∧ (u.pc p).waited w.client = 0)) ∧
    (∀ (n c k v : Nat) (raw : Bool) (rest : List Item), s.held = false → w.access = .ingest n → s.ingestWaits n = false →
      (s.tile n).buf = .word c raw k 2 v :: rest → (s.ring c raw).begun = true → (s.ring c raw).skip = false →
      let r := s.ring c raw
      let room := 64 - (k % max 1 r.lines * r.lineBytes + r.fill) % 64
      let g := gather c raw k room (s.tile n).buf
      let a := s.lineAddr r k r.fill
      g.1.length = room → r.fill + room ≤ r.lineBytes → endsLine c raw g.2 = false → pcOf s.masks (transferOf a) = p →
      (s.pc p).wq.length < 64 →
      Completes (.arbGrant t ⟨p, ws, held, false, 0, false⟩) s
        (fun u => (u.tile n).buf = g.2 ∧ (u.pc p).wq = (s.pc p).wq ++ [⟨c, raw, k, a, g.1, true, max s.clock t⟩] ∧
          (u.ring c raw).fill = r.fill + room) (fun _ => True)) ∧
    (Awake s →
      Sets (.grantHoldLimit t p w.client) s
        ([(K.arbPortGrants p, wrapAdd 64 (s.obj (K.arbPortGrants p)) 1),
          (K.arbClientGrants w.client, wrapAdd 64 (s.obj (K.arbClientGrants w.client)) 1),
          (K.arbPortHoldMax p, most (K.arbPortHoldMax p) (f32OfNat (s.obj K.arbHoldLimit))),
          (K.arbClientState w.client, 1), (K.arbClientCards w.client, satAdd 32 (s.obj (K.arbClientCards w.client)) 1),
          (K.arbRedCount, satAdd 32 (s.obj K.arbRedCount) 1), (K.arbRedLast, w.client * 256 + p)] ++
          raisedBy (s.begin_ t) (577 + 2 * p) (w.client * 256))
        (fun u => u.admitted w.client = false))

/-- Clears of arbitration, the Libero slot and the cadence (R269, R271, R273, R276), the clears of a pseudo-channel and the resume of a ring
(R249, R257). It rests on the model's own choices: log entry 41. -/
def Obligations.StoreObjectsAreWritten : Prop :=
  (∀ (s : State) (q : Req) (l : Loc) (i : Nat), s.safeAsk = 0 →
    (i < 48 → Accepts s (onObject q (K.arbClientClear i)) l → Writes (.arbClientClear q i) s (onObject q (K.arbClientClear i)) l
      (if s.obj (K.arbClientState i) = 1 then [(K.arbClientState i, 0), (K.arbClientWaitMax i, 0)] else []) (fun _ => True)) ∧
    (Accepts s (onObject q K.arbClearAll) l → Writes (.arbClearAll q) s (onObject q K.arbClearAll) l
      ((List.range 48).map (fun j => (K.arbClientState j, 0))) (fun _ => True)) ∧
    (Accepts s (onObject q K.arbLiberoN) l → Writes (.arbLiberoWrite q) s (onObject q K.arbLiberoN) l
      [(K.arbLiberoN, ofLE q.body)] (fun u => ∀ e ∈ u.pcs, (u.pc e.1).grants = 0)) ∧
    (Accepts s (onObject q K.arbSyncClear) l → Writes (.arbSyncClear q) s (onObject q K.arbSyncClear) l
      [(K.arbSyncSlow, 0)] (fun _ => True)) ∧
    (i < 32 → Accepts s (onObject q (K.storePcClear i)) l → Writes (.storePcClear q i) s (onObject q (K.storePcClear i)) l
      [(K.storePcDebtMax i, 0), (K.storePcRtWaitMax i, 0)] (fun _ => True)) ∧
    (i < 1024 → Accepts s (onObject q (K.ctxRingResume i)) l → Writes (.ctxRingResume q i) s (onObject q (K.ctxRingResume i)) l
      (if s.obj (K.ctxRingPolicyState i) = 1 then [(K.ctxRingPolicyState i, 0)] else []) (fun _ => True))) ∧
  (∀ (s : State) (t : Nat) (m : Cadence), s.held = false →
    Completes (.cadenceRefresh t m) s
      (fun u => u.cadenceBad = ((cadenceWorse s.variant m).zip s.cadenceBad).map (fun e => if e.1 then e.2 + 1 else 0) ∧
        u.obj K.arbCadenceFlags = cadenceFlags (s.obj K.arbCadenceFlags) u.cadenceBad ∧
        u.obj K.arbCadenceIngest = f32OfRat m.ingest 1000000000 ∧
        u.obj K.arbSyncSlow = wrapAdd 64 (s.obj K.arbSyncSlow) m.slow) (fun _ => True))

/-- Real-time waits (R257): `rt_wait_max` reads the longest wait, the clear resets it, and a wait beyond 16 µs raises the pseudo-channel's
TIMING source. It rests on the model's own choices: log entry 8. -/
def Obligations.RealTimeWaitsAreShown : Prop :=
  (∀ (s : State) (t p wait : Nat), Awake s → p < 32 →
    Sets (.rtWaitExceeded t p wait) s
      ((K.storePcRtWaitMax p, if f32Key (s.obj (K.storePcRtWaitMax p)) < f32Key (f32OfNat wait) then f32OfNat wait
          else s.obj (K.storePcRtWaitMax p)) ::
        (if 16000 < wait then raisedBy (s.begin_ t) (576 + 2 * p) 0 else [])) (fun _ => True)) ∧
  (∀ (s : State) (q : Req) (l : Loc) (p : Nat), s.safeAsk = 0 → p < 32 → Accepts s (onObject q (K.storePcClear p)) l →
    Completes (.storePcClear q p) s (fun u => u.obj (K.storePcRtWaitMax p) = 0) (fun _ => True))

/-- Write queues, refresh and temperature (R239, R245, R252, R253): a drain begins and is counted; its end puts the bytes of its writes into
the stack and no others; the last write of a line closes its record (R246, R247); refresh debt grows by the banks, is repaid or met by one
all-bank refresh; the temperature is shown with the refresh interval; an old tail is flushed.
It rests on the model's own choices: log entries 5, 40, 42. -/
def Obligations.StoreDrainsAndRefreshes : Prop :=
  (∀ (s : State) (t p : Nat), Awake s → p < 32 → (s.pc p).drain = .none → (s.pc p).wq ≠ [] →
    Sets (.writeDrainStart t p) s [(K.storePcDrains p, satAdd 32 (s.obj (K.storePcDrains p)) 1)]
      (fun u => (u.pc p).wq = (s.pc p).wq ∧
        (s.obj K.storeWqHigh ≤ (s.pc p).wq.length → (u.pc p).drain = .watermark (s.obj K.storeWqLow)))) ∧
  (∀ (s : State) (t p : Nat), s.held = false → p < 32 →
    let x := s.pc p
    let n := drainCount x.wq x.drain
    let out := (drainOrder x.wq).take n
    Completes (.writeDrainEnd t p) s
      (fun u => (u.pc p).wq = (drainOrder x.wq).drop n ∧ (u.pc p).drain = .none ∧ (u.pc p).writes = x.writes + out.length)
      (fun v => (∀ c raw, (s.ring c raw).closing = []) →
        (∀ a, (∀ e ∈ out, ¬(e.addr ≤ a ∧ a < e.addr + e.bytes.length)) → v.byte a = s.byte a) ∧
        ∀ e, out.getLast? = some e → v.poisoned e.addr = false ∧ ∀ i < e.bytes.length, some (v.byte (e.addr + i)) = e.bytes[i]?)) ∧
  (∀ (s : State) (t p : Nat) (lr : LineRec) (e : WqEntry), s.held = false → p < 32 → s.pcs = [(p, s.pc p)] → (s.pc p).wq = [e] →
    (s.pc p).drain = .idle → e.line = lr.line → (s.ring e.ctx e.raw).closing = [lr] →
    Completes (.writeDrainEnd t p) s
      (fun u => (u.ring e.ctx e.raw).latest = some lr.line ∧ (u.ring e.ctx e.raw).closing = [] ∧
        (e.raw = false → u.obj (K.ctxLine e.ctx) = lr.line ∧ u.obj (K.ctxFlags e.ctx) = lr.flags)) (fun _ => True)) ∧
  (∀ (s : State) (t p : Nat) (blocked : Bool), Awake s → p < 32 →
    let debt := (s.pc p).debt + bankCount s.variant
    let shown := (K.storePcDebtMax p, max (s.obj (K.storePcDebtMax p)) debt)
    (debt < s.obj K.storeRefreshPostpone * bankCount s.variant →
      Sets (.refreshInterval t p blocked) s [shown] (fun u => (u.pc p).debt = if blocked then debt else 0)) ∧
    (s.obj K.storeRefreshPostpone * bankCount s.variant ≤ debt →
      Sets (.refreshInterval t p blocked) s
        (shown :: (K.storePcAbRefreshes p, satAdd 32 (s.obj (K.storePcAbRefreshes p)) 1) ::
          (if s.obj K.storeRefreshAbEvent = 1 then raisedBy (s.begin_ t) (576 + 2 * p) 0 else []))
        (fun u => (u.pc p).debt = (s.pc p).debt))) ∧
  (∀ (s : State) (t : Nat) (temp : Int), s.held = false →
    Completes (.stackTempRead t temp) s
      (fun u => u.obj K.storeTemp = satSigned 16 temp ∧ u.obj K.storeTrefi = f32OfNat (if 85 < temp then 1950 else 3900))
      (fun _ => True)) ∧
  (∀ (s : State) (t c : Nat), Awake s → c < 1024 →
    let waits := fun (raw : Bool) => ((s.ctx c).outQ ++ s.tiles.flatMap (fun e => e.2.buf)).any
      (fun i => match i with | .word d r _ _ _ => d == c && r == raw | .mark .. => false)
    Completes (.tailFlushTimeout t c) s
      (fun u => (u.ctx c).out = { (s.ctx c).out with flush := (s.ctx c).out.flush || waits false } ∧
        (u.ctx c).raw = { (s.ctx c).raw with flush := (s.ctx c).raw.flush || waits true })
      (fun v => ∀ k, settledKey k = false → v.obj k = s.obj k))

/-- Errors of the Store (R260, R263, R265): a region's copy retires it; a parity retry counts, and the third in a row that fails takes the
pseudo-channel and asks for SAFE; the patrol corrects what it reads. It rests on the model's own choices: log entry 43. -/
def Obligations.StoreErrorsAreHandled : Prop :=
  (∀ (s : State) (t region p : Nat) (rest : List (Nat × Nat)), Awake s → p < 32 → s.retireQ = (region, p) :: rest →
    s.obj (K.arbClientState 47) ≠ 1 →
    let n := s.obj K.storeRetiredCount
    Sets (.regionCopyComplete t) s
      ([(K.storeRetired, withBits (s.obj K.storeRetired) (32 * n + 31) (32 * n) region), (K.storeRetiredCount, n + 1)] ++
        raisedBy (s.begin_ t) (577 + 2 * p) region) (fun u => u.retireQ = rest)) ∧
  (∀ (s : State) (t p : Nat) (ok : Bool), Awake s → p < 32 → ok = true ∨ (s.pc p).retries < 2 →
    Sets (.parityRetry t p ok) s [(K.storePcParity p, satAdd 32 (s.obj (K.storePcParity p)) 1)]
      (fun u => (u.pc p).retries = if ok then 0 else (s.pc p).retries + 1)) ∧
  (∀ (s : State) (t p : Nat), s.held = false → p < 32 → 2 ≤ (s.pc p).retries →
    Completes (.parityRetry t p false) s
      (fun u => u.obj (K.storePcParity p) = satAdd 32 (s.obj (K.storePcParity p)) 1 ∧ u.obj (K.storePcState p) = 2 ∧
        u.obj K.storeState = 4 ∧ u.safeAsk.testBit 6 = true) (fun _ => True)) ∧
  (∀ (s : State) (t : Nat) (addrs bad : List Nat), s.held = false → s.mode ≠ mStandby →
    Completes (.shadowPatrol t addrs bad) s
      (fun u => (∀ a ∈ bad, u.poisoned a = true) ∧
        u.obj K.deviceStandbyShadow = if u.shadowPoisoned then 0 else s.obj K.deviceStandbyShadow) (fun _ => True)) ∧
  (∀ (s : State) (t a : Nat), Awake s → s.mode ≠ mStandby → s.corrections = [] → s.shadowPoisoned = false →
    let p := pcOf s.masks (transferOf a)
    Sets (.shadowPatrol t [a] []) s [(K.storePcCorrected p, satAdd 32 (s.obj (K.storePcCorrected p)) 1)]
      (fun u => u.corrections = [(a / 1048576, max s.clock t)]))

/-! ## Calibration, limits and monitors -/

/-- Calibration (R332 to R336): a command records itself, queues the tiles that take part and skips the others; a failed ladder trace drops
those that waited for it; run 1 ends in run 2, and after run 2 the tile reads PASS or FAIL with its corrections in force or its failure
listed; what each tile shows is stated for tiles outside pairs. It rests on the model's own choices: log entries 38, 45. -/
def Obligations.CalibrationsRun : Prop :=
  (∀ (s : State) (q : Req) (l : Loc) (kind : Nat) (i : Instr), s.safeAsk = 0 →
    (i = .calInternal q ∧ kind = 1) ∨ (i = .calDark q ∧ kind = 2) ∨ (i = .calFlat q ∧ kind = 3) →
    let w := onObject (withBody q (withKind kind q.body)) K.calCommand
    Accepts s w l →
    Completes i s
      (fun u => Responds (s.written w l) u w (okMessage u w .write [] l.row.ty.code 0) ∧ u.obj K.calLastCommand = ofLE w.body ∧ u.obj K.calLastPass = 0 ∧ u.obj K.calLastFail = 0 ∧
        ∀ n ∈ s.calTargets (ofLE w.body), s.adcMode (n / 2 * 2) ≠ 3 → s.adcMode (n / 2 * 2 + 1) ≠ 3 →
          if s.calTakesPart kind n = true then
            (u.tile n).cal.kind = kind ∧ (u.obj (calResultKey kind n) = 1 ∨ u.obj (calResultKey kind n) = 2)
          else u.obj (calResultKey kind n) = 5) (fun _ => True)) ∧
  (∀ (s : State) (t : Nat) (ok : Bool), s.held = false → s.obj K.calState = 1 →
    Completes (.ladderTraceEnd t ok) s (fun u => u.obj K.calLadder = (if ok then 1 else 2) ∧ u.obj K.calLadderLast = (s.begin_ t).now ∧
      u.obj K.calState ≠ 1) (fun _ => True)) ∧
  (∀ (s : State) (t : Nat) (ok : Bool), Awake s → s.obj K.calState = 1 → s.calTiles = [] →
    Sets (.ladderTraceEnd t ok) s
      ([(K.calLadder, if ok then 1 else 2), (K.calLadderLast, (s.begin_ t).now), (K.calState, 0), (K.calQueued, 0), (K.calRunning, 0)] ++
        (if ok then [] else raisedBy (s.begin_ t) 757 0)) (fun _ => True)) ∧
  (∀ (s : State) (t : Nat), s.held = false → s.obj K.calState = 1 →
    (∀ n ∈ s.calTiles, n < 256 ∧ (s.tile n).cal.kind = 1 ∧ (s.tile n).cal.step = 0 ∧ (s.tile n).cal.purpose = 0) →
    Completes (.ladderTraceEnd t false) s
      (fun u => u.obj K.calLadder = 2 ∧ u.obj K.calState ≠ 1 ∧
        ∀ n ∈ s.calTiles, (u.tile n).cal.kind = 0 ∧ u.obj (K.tileCalResult n) = 5) (fun _ => True)) ∧
  (∀ (s : State) (t n : Nat) (r : CalRun), Awake s → n < tileCount s.variant → s.adcMode n ≠ 3 → (s.tile n).cal.kind = 1 →
    (s.tile n).cal.step = 2 →
    Sets (.calRunEnd t n r) s [] (fun u => (u.tile n).cal = { (s.tile n).cal with step := 3, first := some r })) ∧
  (∀ (s : State) (t n : Nat) (a b : CalRun), s.held = false → n < tileCount s.variant → s.adcMode n ≠ 3 → (s.tile n).cal.kind = 1 →
    (s.tile n).cal.step = 3 → (s.tile n).cal.first = some a → (s.tile n).cal.purpose = 0 → s.calTiles = [n] → s.swaps = [] →
    s.tileCtxs n = [] →
    let ok := !(s.tile n).cal.spoiled && s.runHolds n a && s.runHolds n b && s.runsAgree a b
    Completes (.calRunEnd t n b) s
      (fun u => (u.tile n).cal.kind = 0 ∧ u.obj (K.tileCalResult n) = (if ok then 3 else 4) ∧ u.obj (K.tileCalLast n) = (s.begin_ t).now ∧
        (if ok then u.obj (K.tileCalValid n) = 1 ∧ u.obj (K.tileCalPasses n) = satAdd 32 (s.obj (K.tileCalPasses n)) 1 ∧
            (u.tile n).danaNew = meanDana a.dana b.dana ∧ u.obj K.calLastPass = min 256 (s.obj K.calLastPass + 1)
          else u.obj (K.tileCalFails n) = satAdd 32 (s.obj (K.tileCalFails n)) 1 ∧
            u.obj (K.eventCount (256 + n)) = satAdd 32 (s.obj (K.eventCount (256 + n))) 1 ∧
            u.obj K.calLastFail = min 256 (s.obj K.calLastFail + 1)))
      (fun _ => True))

/-- Scene correction (R343 to R345): run 1 ends in run 2, after which the table is merged from the good entries or the tile fails; a written
enable ramps from the table in force. It rests on the model's own choices: log entries 45, 46. -/
def Obligations.ScenesAreMeasured : Prop :=
  (∀ (s : State) (t n : Nat) (held : List (Int × Nat)), Awake s → n < tileCount s.variant → s.adcMode n ≠ 3 → 2 ≤ (s.tile n).cal.kind →
    (s.tile n).cal.step = 2 →
    Sets (.sceneRunEnd t n held) s []
      (fun u => (u.tile n).cal = { (s.tile n).cal with step := 3, run1 := (s.tile n).cal.words held, sums := [], lines := [] })) ∧
  (∀ (s : State) (t n : Nat) (held : List (Int × Nat)), s.held = false → n < tileCount s.variant → s.adcMode n ≠ 3 →
    2 ≤ (s.tile n).cal.kind → (s.tile n).cal.step = 3 → s.calTiles = [n] →
    let x := (s.tile n).cal
    let vs := s.sceneValues n x.kind x.run1 (x.words held)
    let bad := (vs.filter (fun v => v.2.isNone)).length
    let ok := !x.spoiled && decide (bad ≤ s.obj (K.tileSceneBadMax n))
    Completes (.sceneRunEnd t n held) s
      (fun u => (u.tile n).cal.kind = 0 ∧ u.obj (K.tileSceneResult n) = (if ok then 3 else 4) ∧
        u.obj (K.tileSceneBad n) = min 16384 bad ∧
        u.blob (K.tileSceneTable n) = if ok then some (mergeTable (s.storedTable n) vs) else s.blob (K.tileSceneTable n))
      (fun _ => True)) ∧
  (∀ (s : State) (q : Req) (l : Loc) (n : Nat), s.safeAsk = 0 → n < 256 →
    let w := onObject q (K.tileSceneEnable n)
    Accepts s w l →
    Writes (.sceneEnableWrite q n) s w l [(K.tileSceneEnable n, ofLE q.body)]
      (fun u => s.obj (K.tileSceneEnable n) ≠ ofLE q.body →
        (u.tile n).sceneRamp.on = true ∧ (u.tile n).sceneOld = some ((s.access w).tableNow n)))

/-- The check reference (R331): a third deviation in a row latches DRIFT and is raised, and a third check within the limit ends it. The
limit ratios (R148 to R151): without a lock timing and jitter read 0 and TIMING is flagged; otherwise the measured terms are shown. The
interleave estimator (R145) goes from ACQUIRING to TRACKING to HELD and back by words and quiet, and a reset returns it to ACQUIRING with
the calibrated values. It rests on the model's own choices: log entries 8, 45. -/
def Obligations.LimitsAndEstimatorsFollow : Prop :=
  (∀ (s : State) (t : Nat) (ppm : Int), Awake s →
    let bad := decide (s.obj K.calInvarLimit < ppm.natAbs)
    let shown := [(K.calInvarDeviation, f32OfIntRat ppm 1), (K.calInvarChecks, satAdd 32 (s.obj K.calInvarChecks) 1)]
    (bad = true → s.invarBad < 2 → Sets (.invarCheck t ppm) s shown (fun u => u.invarBad = s.invarBad + 1 ∧ u.invarGood = 0)) ∧
    (bad = false → s.invarGood < 2 → Sets (.invarCheck t ppm) s shown (fun u => u.invarGood = s.invarGood + 1 ∧ u.invarBad = 0)) ∧
    (bad = true → 2 ≤ s.invarBad → s.obj K.calInvarState = 0 → s.calTiles = [] → s.obj K.calState ≠ 1 →
      Sets (.invarCheck t ppm) s
        (shown ++ [(K.calInvarState, 1), (K.calQueued, 0), (K.calRunning, 0), (K.calState, 0)] ++ raisedBy (s.begin_ t) 757 0)
        (fun _ => True)) ∧
    (bad = false → 2 ≤ s.invarGood → s.obj K.calInvarState = 1 →
      Sets (.invarCheck t ppm) s (shown ++ [(K.calInvarState, 0)]) (fun _ => True))) ∧
  (∀ (s : State) (t n : Nat) (m : LimitMeas), Awake s → n < tileCount s.variant → [mRun, mHold, mSafe].contains s.mode = true →
    isOn (s.obj (K.tileStatus n)) = true → (s.tile n).nCal = 0 → s.locked (quadOf n) = false →
    Sets (.limitRefresh t n m) s
      [(K.tileLimTiming n, 0), (K.tileLimJitter n, 0), (K.tileLimFlags n, withBit (s.obj (K.tileLimFlags n)) 1 true),
       (K.tileLimUpdated n, (s.begin_ t).now)] (fun _ => True)) ∧
  (∀ (s : State) (t n : Nat) (m : LimitMeas), s.held = false → n < tileCount s.variant → [mRun, mHold, mSafe].contains s.mode = true →
    isOn (s.obj (K.tileStatus n)) = true → (s.tile n).nCal ≠ 0 → (s.tile n).cal.step < 2 → s.locked (quadOf n) = true →
    Completes (.limitRefresh t n m) s
      (fun u => u.obj (K.tileLimReq n) = m.req ∧ u.obj (K.tileLimBn n) = (s.noiseBandwidth n).f32 ∧ u.obj (K.tileLimJRef n) = m.jRef ∧
        u.obj (K.tileLimJSyn n) = m.jSyn ∧ u.obj (K.tileLimNRef n) = (s.noiseRef n m).sqrtF32 ∧
        u.obj (K.tileLimSource n) = (if s.liveNoise n then 2 else 1) ∧ u.obj (K.tileLimUpdated n) = (s.begin_ t).now)
      (fun _ => True)) ∧
  (∀ (s : State) (t n : Nat) (f : IlvFacts), Awake s → n < tileCount s.variant →
    let x := s.tile n
    let shown := [(K.tileIlvOffset n, satSigned 16 f.offset), (K.tileIlvGain n, ilvGain f.gain),
      (K.tileIlvSkew n, satSigned 16 (ilvSkew f.skew)), (K.tileIlvFlags n, 0)]
    (s.obj (K.tileIlvState n) = 1 → x.ilvWords + f.words < 2097152 →
      Sets (.ilvWordCount t n f) s [] (fun u => (u.tile n).ilvWords = x.ilvWords + f.words)) ∧
    (s.obj (K.tileIlvState n) = 1 → 2097152 ≤ x.ilvWords + f.words →
      Sets (.ilvWordCount t n f) s ((K.tileIlvState n, 2) :: shown) (fun u => (u.tile n).ilvWords = 0)) ∧
    (s.obj (K.tileIlvState n) = 2 → f.quiet = true → 262144 ≤ x.ilvQuiet + f.words →
      Sets (.ilvWordCount t n f) s [(K.tileIlvState n, 3)] (fun _ => True)) ∧
    (s.obj (K.tileIlvState n) = 2 → f.quiet = false → 65536 ≤ x.ilvWords + f.words →
      Sets (.ilvWordCount t n f) s shown (fun u => (u.tile n).ilvQuiet = 0)) ∧
    (s.obj (K.tileIlvState n) = 3 → f.quiet = false →
      Sets (.ilvWordCount t n f) s [(K.tileIlvState n, 2)] (fun u => (u.tile n).ilvWords = 0))) ∧
  (∀ (s : State) (q : Req) (l : Loc) (n : Nat), s.safeAsk = 0 → n < 256 → Accepts s (onObject q (K.tileIlvReset n)) l →
    Writes (.ilvReset q n) s (onObject q (K.tileIlvReset n)) l
      (if s.obj (K.tileIlvState n) = 0 then [] else
        [(K.tileIlvOffset n, satSigned 16 (s.tile n).ilvCal.1), (K.tileIlvGain n, ilvGain (s.tile n).ilvCal.2.1),
         (K.tileIlvSkew n, satSigned 16 (ilvSkew (s.tile n).ilvCal.2.2)), (K.tileIlvState n, 1)]) (fun _ => True))

/-- Monitors and faults (R339, R348, R351, R353, R354): a tick whose input decides enters the history, and a majority of it that differs from
a monitor's state changes that state; a trip counts and is raised; a written object of a monitor is stored, and a changed enable sets its
state; a fault latches, is raised and lists the tile. It rests on the model's own choices: log entry 47. -/
def Obligations.MonitorsTripAndTilesFail : Prop :=
  (∀ (s : State) (t n i : Nat) (v : Int × Int) (d : Bool), Awake s → n < tileCount s.variant → i < 2 →
    let a := s.begin_ t
    let at_ := a.tickAt n i 0
    let past := (d :: (s.mon (2 * n + i)).past).take 15
    let b := monMajority (a.monValue n i 8 at_) past
    let st := s.obj (K.tileMonState n i)
    a.decides n i 0 = true →
    monDecision (a.monValue n i 3 at_ == 1) (a.monValue n i 4 at_) (a.monValue n i 5 at_) (a.tapInput n (a.monValue n i 2 at_) v)
      (s.monNow n i) = some d →
    (b = some true → st % 4 ≠ 2 → Sets (.monitorTrip t n i [v]) s
      ([(K.tileMonState n i, withBits st 1 0 2), (K.tileMonTrips n i, satAdd 32 (s.obj (K.tileMonTrips n i)) 1),
        (K.tileMonLastTrip n i, a.now)] ++ raisedBy a n i) (fun u => (u.mon (2 * n + i)).kept = none)) ∧
    (b = some false → st % 4 ≠ 1 → Sets (.monitorTrip t n i [v]) s [(K.tileMonState n i, withBits st 1 0 1)]
      (fun u => (u.mon (2 * n + i)).kept = none)) ∧
    (b = none ∨ b = s.monNow n i → Sets (.monitorTrip t n i [v]) s [] (fun u => (u.mon (2 * n + i)).past = past))) ∧
  (∀ (s : State) (q : Req) (l : Loc) (n i sub : Nat), s.safeAsk = 0 → n < 256 → i < 2 → monitorSub sub = true →
    let k := key (0x300C + 16 * n + i) sub
    Accepts s (onObject q k) l →
    Writes (.monitorWrite q n i sub) s (onObject q k) l
      ((k, ofLE q.body) ::
        (if sub = 1 ∧ s.obj k ≠ ofLE q.body then
          [(K.tileMonState n i, withBits (s.obj (K.tileMonState n i)) 1 0 (if ofLE q.body = 1 then 0 else if s.converts n then 1 else 0))]
         else []))
      (fun u => (u.mon (2 * n + i)).writes.getLast? = some ((s.access (onObject q k)).clock + perUs, sub, s.obj k))) ∧
  (∀ (s : State) (t n bit : Nat), s.held = false → n < tileCount s.variant → bit < 8 →
    let fault := withBit (s.obj (K.tileCalFault n)) bit true
    Completes (.tileFault t n bit) s
      (fun u => u.obj (K.tileCalFault n) = fault ∧ u.obj (K.eventDetail (256 + n)) = (3 + 256 * fault) % 4294967296 ∧
        u.obj (K.eventCount (256 + n)) = satAdd 32 (s.obj (K.eventCount (256 + n))) 1 ∧
        (s.defects.length < 511 → ∃ d ∈ u.defects, d.names 4 n false = true)) (fun _ => True))

/-! ## Excitation and bias outputs -/

/-- Outputs (R361, R362, R365 to R367, R369): an enable moves the status by the enable rule, and a stop begins with the safe move; the ends
of a hold and of a safe move act; a current limit is latched and raised, a short stops the output, the clear keeps UNDERRUN alone.
It rests on the model's own choices: log entry 48. -/
def Obligations.OutputsStartStopAndProtect : Prop :=
  (∀ (s : State) (q : Req) (l : Loc) (n : Nat), s.safeAsk = 0 → n < 32 →
    let w := onObject q (K.dacEnable n)
    let v := ofLE q.body
    let vs := [(K.dacEnable n, v), (K.dacStatus n, enWrite (s.obj (K.dacStatus n)) v)]
    (Accepts s w l → Completes (.dacEnable q n) s
      (fun u => Responds (s.written w l) u w (okMessage u w .write [] l.row.ty.code 0) ∧ u.obj (K.dacEnable n) = v ∧
        enState (u.obj (K.dacStatus n)) = enState (enWrite (s.obj (K.dacStatus n)) v)) (fun _ => True)) ∧
    (Accepts s w l → (v ≠ 0 ∨ s.dacOn n = false) → Writes (.dacEnable q n) s w l vs (fun u => u.dac n = s.dac n)) ∧
    (Accepts s w l → v = 0 → s.dacOn n = true → s.holding n = false → (s.dac n).move = none → (s.dac n).moveWaits = false →
      (s.dac n).slew = none → s.obj (K.dacSafeRamp n) ≠ 0 →
      Writes (.dacEnable q n) s w l
        (vs ++ [(K.dacFlags n, if (s.safeCode n).2 then withBit (s.obj (K.dacFlags n)) 3 true else s.obj (K.dacFlags n))])
        (fun u => (u.dac n).move = some (signed 32 (s.obj (K.dacCode n)), max s.clock q.at_)))) ∧
  (∀ (s : State) (t n : Nat), Awake s → n < dacCount s.variant → s.holding n = true →
    ((s.dac n).moveWaits = true →
      Completes (.deglitchHoldEnd t n) s
        (fun u => (u.dac n).moveWaits = false ∧ (s.obj (K.dacSafeRamp n) ≠ 0 → (u.dac n).move.isSome = true)) (fun _ => True)) ∧
    ((s.dac n).moveWaits = false → (s.dac n).slew = none → (s.dac n).waiting = none →
      Sets (.deglitchHoldEnd t n) s [(K.dacStatus n, withBit (s.obj (K.dacStatus n)) 6 false)] (fun _ => True)) ∧
    (∀ c, (s.dac n).moveWaits = false → (s.dac n).slew = none → (s.dac n).waiting = some c →
      Completes (.deglitchHoldEnd t n) s (fun u => u.obj (K.dacCode n) = unsigned 32 c ∧ (u.dac n).waiting = none)
        (fun v => Frame s v [K.dacStatus n, K.dacCode n, K.dacHolds n]))) ∧
  (∀ (s : State) (t n : Nat), Awake s → n < dacCount s.variant → (s.dac n).move.isSome = true →
    Sets (.safeMoveEnd t n) s [(K.dacCode n, unsigned 32 (s.safeCode n).1)] (fun u => (u.dac n).move = none)) ∧
  (∀ (s : State) (t n : Nat), Awake s → n < dacCount s.variant → enState (s.obj (K.dacStatus n)) ≠ 0 →
    Sets (.dacCurrentLimit t n) s
      ([(K.dacFlags n, withBit (s.obj (K.dacFlags n)) 0 true), (K.dacStatus n, withBit (s.obj (K.dacStatus n)) 4 true)] ++
        raisedBy (s.begin_ t) 758 n) (fun u => (u.dac n).limitAt = some (max s.clock t))) ∧
  (∀ (s : State) (t n : Nat), s.held = false → n < dacCount s.variant → enState (s.obj (K.dacStatus n)) ≠ 0 →
    (s.begin_ t).limitedLong n = true →
    Completes (.dacShortTimeout t n) s
      (fun u => u.obj (K.dacEnable n) = 0 ∧ (u.obj (K.dacFlags n)).testBit 1 = true ∧
        enState (u.obj (K.dacStatus n)) = enState (enWrite (s.obj (K.dacStatus n)) 0) ∧ (u.obj (K.dacStatus n)).testBit 7 = true)
      (fun v => s.safeAsk = 0 → Frame s v [K.dacEnable n, K.dacFlags n, K.dacStatus n, K.dacCode n, K.dacHolds n, K.dacMerged n])) ∧
  (∀ (s : State) (q : Req) (l : Loc) (n : Nat), s.safeAsk = 0 → n < 32 → Accepts s (onObject q (K.dacClear n)) l →
    Writes (.dacClear q n) s (onObject q (K.dacClear n)) l
      [(K.dacFlags n, s.obj (K.dacFlags n) &&& 4), (K.dacStatus n, withBit (withBit (s.obj (K.dacStatus n)) 4 false) 7 false)]
      (fun _ => True))

/-- Strobes (R359, R361, R362, R364): a strobe that is due is counted, one of a trigger too close to the last is counted as missed, and in RUN
an output of the group takes its next word, scaled, or is counted as underrun where none waits.
It rests on the model's own choices: log entries 6, 48. -/
def Obligations.StrobesTakeWords : Prop :=
  (∀ (s : State) (t g : Nat), s.held = false → g < 4 → s.strobesRun = true → (s.begin_ t).strobeDue g = true →
    let timed := strobeKind (s.obj (K.dacGroupSource g)) == 1
    let near := (s.strobe g).last.any (fun z => decide (max s.clock t < z + 40 * perNs))
    (timed = true ∨ near = false →
      Completes (.dacStrobe t g) s
        (fun u => u.obj (K.dacGroupStrobes g) = wrapAdd 64 (s.obj (K.dacGroupStrobes g)) 1 ∧ (u.strobe g).last = some (max s.clock t) ∧
          (u.strobe g).owed = (s.strobe g).owed - 1) (fun _ => True)) ∧
    (timed = true ∨ near = false → s.safeAsk = 0 → s.mode ≠ mRun → max s.clock t < (s.strobe g).start + perMs →
      Sets (.dacStrobe t g) s [(K.dacGroupStrobes g, wrapAdd 64 (s.obj (K.dacGroupStrobes g)) 1)]
        (fun u => (u.strobe g).seen = (s.strobe g).seen + 1)) ∧
    (timed = false → near = true → s.safeAsk = 0 →
      Sets (.dacStrobe t g) s [(K.dacGroupMissed g, satAdd 32 (s.obj (K.dacGroupMissed g)) 1)]
        (fun u => (u.strobe g).owed = (s.strobe g).owed - 1))) ∧
  (∀ (s : State) (t g n : Nat), s.held = false → g < 4 → n < 32 → strobeKind (s.obj (K.dacGroupSource g)) = 1 → s.mode = mRun →
    (s.begin_ t).strobeDue g = true → s.allDacs.filter (fun i => s.obj (K.dacGroup i) == g && s.dacOn i) = [n] → s.feedCtx n ≠ 0xFFFF →
    s.isWave (s.feedCtx n) = false → (s.dac n).whole = false →
    ((s.dac n).feed = [] →
      Completes (.dacStrobe t g) s
        (fun u => u.obj (K.dacUnderruns n) = satAdd 32 (s.obj (K.dacUnderruns n)) 1 ∧ u.obj (K.dacCode n) = s.obj (K.dacCode n) ∧
          (u.obj (K.dacFlags n)).testBit 2 = true ∧ u.obj (K.dacGroupStrobes g) = wrapAdd 64 (s.obj (K.dacGroupStrobes g)) 1)
        (fun _ => True)) ∧
    (∀ due c ws, (s.dac n).feed = ⟨due, false, some c⟩ :: ws → s.obj (K.dacSlewEnable n) = 0 → s.holding n = false →
      (s.dac n).slew = none → (s.dac n).move = none → (s.dac n).moveWaits = false →
      Completes (.dacStrobe t g) s
        (fun u => u.obj (K.dacCode n) = unsigned 32 (s.scaled n c).1 ∧ (u.dac n).feed = ws ∧
          u.obj (K.dacGroupStrobes g) = wrapAdd 64 (s.obj (K.dacGroupStrobes g)) 1) (fun _ => True)))

/-! ## Lanes and the management port -/

/-- Links, pauses and errors of a lane (R374, R378, R384 to R386): a link's changes are shown, counted and raised; PAUSE quanta hold a lane in
Ethernet role, and their end or zero quanta release it; FEC and dropped frames are counted; the management port's link leads. It rests on the model's own choices: log entries 2, 49. -/
def Obligations.LanesFollowTheirLinks : Prop :=
  (∀ (s : State) (t n : Nat), Awake s → n < laneCount s.variant → s.ethernet n = true → s.laneOn n = true → s.obj (K.laneResume n) ≠ 1 →
    (s.obj (K.laneLink n) ≠ 3 → (s.lane n).faults = false →
      Sets (.laneLinkUp t n) s ((K.laneLink n, 3) :: raisedBy (s.begin_ t) (512 + 4 * n) 3)
        (fun u => (u.obj (K.laneStatus n)).testBit 4 = true)) ∧
    (s.obj (K.laneLink n) = 4 →
      Sets (.faultOrderedSets t n false) s ((K.laneLink n, 3) :: raisedBy (s.begin_ t) (512 + 4 * n) 3)
        (fun u => (u.lane n).faults = false))) ∧
  (∀ (s : State) (t n : Nat), s.held = false → n < laneCount s.variant →
    (s.laneOn n = true → s.roleOfLane n ≠ 0 → s.obj (K.laneLink n) ≠ 3 →
      Completes (.laneLinkUp t n) s (fun u => u.obj (K.laneLink n) = if (s.lane n).faults then 4 else 3) (fun _ => True)) ∧
    (s.obj (K.laneLink n) ≠ 0 →
      Completes (.laneLinkDown t n) s (fun u => u.obj (K.laneLink n) = 0 ∧ (u.lane n).faults = false ∧
        (u.obj (K.laneStatus n)).testBit 4 = false) (fun _ => True)) ∧
    (s.laneOn n = true → s.ethernet n = true → s.obj (K.laneLink n) ≠ 0 →
      Completes (.faultOrderedSets t n true) s (fun u => u.obj (K.laneLink n) = 4 ∧ (u.lane n).faults = true) (fun _ => True))) ∧
  (∀ (s : State) (t n : Nat), Awake s → n < laneCount s.variant → s.ethernet n = true → s.laneOn n = true →
    s.obj (K.laneLink n) = 3 → (∀ c ∈ s.exporting n, (s.live_ c).off = 0) →
    let down := (K.laneLinkDowns n, satAdd 32 (s.obj (K.laneLinkDowns n)) 1)
    Sets (.laneLinkDown t n) s ((K.laneLink n, 0) :: down :: raisedBy (s.begin_ t) (512 + 4 * n) 0)
      (fun u => (u.obj (K.laneStatus n)).testBit 4 = false) ∧
    Sets (.faultOrderedSets t n true) s ((K.laneLink n, 4) :: down :: raisedBy (s.begin_ t) (512 + 4 * n) 4)
      (fun u => (u.lane n).faults = true)) ∧
  (∀ (s : State) (t n symbols errors : Nat), Awake s → n < laneCount s.variant →
    let f := f32OfRat errors symbols
    let bad := decide (f32Key (s.obj (K.laneFecLimit n)) < f32Key f)
    (s.linkUp n = true → Sets (.fecUncorrectable t n) s
      ((K.laneFecUncorrected n, satAdd 32 (s.obj (K.laneFecUncorrected n)) 1) :: raisedBy (s.begin_ t) (513 + 4 * n) 0)
      (fun _ => True)) ∧
    Sets (.fecSerCheck t n symbols errors) s
      ([(K.laneFecSer n, f), (K.laneStatus n, withBit (s.obj (K.laneStatus n)) 6 bad),
        (K.laneFecCorrected n, wrapAdd 64 (s.obj (K.laneFecCorrected n)) (Config.free 51 s.freeCount % (errors + 1)))] ++
        (if bad = true ∧ (s.obj (K.laneStatus n)).testBit 6 = false then raisedBy (s.begin_ t) (513 + 4 * n) 0 else []))
      (fun _ => True)) ∧
  (∀ (s : State) (t n quanta : Nat), Awake s → n < laneCount s.variant →
    let heard := [(K.laneRxFrames n, wrapAdd 64 (s.obj (K.laneRxFrames n)) 1), (K.laneRxBytes n, wrapAdd 64 (s.obj (K.laneRxBytes n)) 64),
      (K.lanePauseRx n, satAdd 32 (s.obj (K.lanePauseRx n)) 1)]
    let now := max s.clock t
    (s.portUp (16 + n) = true → quanta ≠ 0 → s.obj (K.lanePauseHonour n) ≠ 0 →
      Sets (.pauseFrame t n quanta) s heard
        (fun u => (u.lane n).paused = some (((s.lane n).paused.map (·.1)).getD now, now + quanta * 33554432 / 100))) ∧
    (s.portUp (16 + n) = true → s.obj (K.lanePauseHonour n) = 0 →
      Sets (.pauseFrame t n quanta) s heard (fun u => (u.lane n).paused = (s.lane n).paused)) ∧
    (∀ since till, (s.lane n).paused = some (since, till) →
      let ended := (K.lanePausedUs n, wrapAdd 64 (s.obj (K.lanePausedUs n)) ((now - since) / perUs))
      (s.portUp (16 + n) = true → s.obj (K.lanePauseHonour n) ≠ 0 →
        Sets (.pauseFrame t n 0) s (heard ++ [ended]) (fun u => (u.lane n).paused = none)) ∧
      (till ≤ now → Sets (.pauseExpiry t n) s [ended] (fun u => (u.lane n).paused = none))) ∧
    (s.obj (K.laneHoldCause n) ≠ 0 → (s.lane n).told = false → s.obj (K.laneFlowLimit n) ≤ (s.begin_ t).heldUs n →
      Sets (.flowLimitExpiry t n) s (raisedBy (s.begin_ t) (514 + 4 * n) 0) (fun u => (u.lane n).told = true))) ∧
  (∀ (s : State) (t n : Nat), Awake s →
    (s.portUp 3 = true →
      Sets (.frameDropped t 3 true) s [(K.portsMgmtRxFcs, satAdd 32 (s.obj K.portsMgmtRxFcs) 1)] (fun _ => True) ∧
      Sets (.frameDropped t 3 false) s [(K.portsMgmtRxDropped, satAdd 32 (s.obj K.portsMgmtRxDropped) 1)] (fun _ => True)) ∧
    (n < laneCount s.variant → s.portUp (16 + n) = true →
      Sets (.frameDropped t (16 + n) false) s [(K.laneRxDropped n, satAdd 32 (s.obj (K.laneRxDropped n)) 1)] (fun _ => True) ∧
      ((s.lane n).integrity.all (fun z => decide (z + perMs ≤ max s.clock t)) = true →
        Sets (.frameDropped t (16 + n) true) s
          ((K.laneRxFcs n, satAdd 32 (s.obj (K.laneRxFcs n)) 1) :: raisedBy (s.begin_ t) (515 + 4 * n) 0) (fun _ => True)) ∧
      ((s.lane n).integrity.any (fun z => decide (max s.clock t < z + perMs)) = true →
        Sets (.frameDropped t (16 + n) true) s [(K.laneRxFcs n, satAdd 32 (s.obj (K.laneRxFcs n)) 1)] (fun _ => True)))) ∧
  (∀ (s : State) (t mode speed : Nat), Awake s →
    (mode = 1 ∧ (speed = 10 ∨ speed = 100 ∨ speed = 1000)) ∨ (mode = 2 ∧ speed = 1000) →
    (s.obj K.portsMgmtMode = 0 ∨ s.obj K.portsMgmtMode = mode →
      Sets (.mgmtLinkUp t mode speed) s [(K.portsMgmtInForce, mode), (K.portsMgmtLink, 3), (K.portsMgmtSpeed, speed)] (fun _ => True)) ∧
    (s.obj K.portsMgmtLink = 3 →
      let vs := [(K.portsMgmtInForce, 0), (K.portsMgmtLink, 0), (K.portsMgmtSpeed, 0),
        (K.portsMgmtLinkDowns, satAdd 32 (s.obj K.portsMgmtLinkDowns) 1)]
      (s.obj K.timeSource ≠ 1 → Sets (.mgmtLinkDown t) s vs (fun _ => True)) ∧
      (s.obj K.timeSource = 1 →
        Completes (.mgmtLinkDown t) s
          (fun u => Holds u (vs ++ [(K.timeSource, 0), (K.timePtpMaster, 0), (K.timePtpPortState, 5),
            (K.timeState, if s.obj K.timeState = 2 then 3 else 0)])) (fun _ => True))))

/-- Answers on the network and stream packets (R375, R377, R379 to R382): requests for an own address and echoes are answered, a reply
resolves the destination, an unresolved or a resolved one is asked for, and a lane sends an answer that waited before the next stream
packet. It rests on the model's own choices: log entries 2, 49. -/
def Obligations.LanesAnswerAndSend : Prop :=
  (∀ (s : State) (t port target sender mac src : Nat) (v6 : Bool) (data : List Byte), s.held = false →
    etherPort s.variant port = true → s.portUp port = true →
    let ip := if v6 then target else 0xFFFF * 2 ^ 80 + target % 2 ^ 32 * 2 ^ 96
    (s.ownAddress port ip = true →
      Completes (.arpRequest t port target v6 sender mac) s
        (fun u => u.emitted = [.frame port (if v6 then 4 else 3) sender
          (toLE 6 mac ++ toLE 6 (factoryMac (if port = 3 then 16 else port - 16)) ++ toLE 16 ip)]) (fun _ => True)) ∧
    (data.length ≤ 1472 →
      Completes (.icmpEcho t port src data) s (fun u => u.emitted = [.frame port 5 src data]) (fun _ => True))) ∧
  (∀ (s : State) (t n mac : Nat), Awake s → n < laneCount s.variant → s.portUp (16 + n) = true →
    s.obj (K.laneDstState n) = 1 ∨ s.obj (K.laneDstState n) = 2 →
    Sets (.arpReply t n (s.nextHopIp n) mac) s
      [(K.laneDstState n, 2), (K.laneDstResolved n, mac % 2 ^ 48), (K.laneRxFrames n, wrapAdd 64 (s.obj (K.laneRxFrames n)) 1),
       (K.laneRxBytes n, wrapAdd 64 (s.obj (K.laneRxBytes n)) 64)] (fun _ => True)) ∧
  (∀ (s : State) (t n : Nat), Awake s → n < laneCount s.variant → s.ethernet n = true → s.linkUp n = true →
    let asked := fun (u : State) => u.emitted = [.frame (16 + n) (if isV4 (s.nextHopIp n) then 1 else 2) (s.nextHopIp n) []]
    (s.obj (K.laneDstState n) = 1 → Sets (.resolutionRetry t n) s [] asked) ∧
    (s.obj (K.laneDstState n) = 2 → Sets (.resolutionRefresh t n) s [] asked)) ∧
  (∀ (s : State) (t n : Nat), s.held = false → n < laneCount s.variant → s.laneSends n = true → s.ethernet n = true → s.linkUp n = true →
    (s.lane n).paused = none →
    (∀ a rest, (s.lane n).answers = a :: rest →
      Completes (.streamPacketSend t n) s (fun u => u.emitted = [a] ∧ (u.lane n).answers = rest) (fun _ => True)) ∧
    (∀ c, (s.lane n).answers = [] → s.holdCause n = 0 → s.clientRed (18 + n) = false → s.exports_ = true →
      nextInRound (s.lane n).served ((s.exporting n).filter s.liveReady) = some c → (s.live_ c).moveAt = none →
      let r := s.ring c false
      let k := s.nextLine r (s.exportNext c .lane)
      let x := s.live_ c
      let off := if x.line = k then x.off else 0
      let lr := s.recOf r k
      let m := min (payloadLimit (isV4 (s.obj (K.laneDstIp n))) (formatWidth (s.formatOf c))) (lr.length - off)
      let last := decide (lr.length ≤ off + m)
      s.packetPoisoned r k off m = false →
      Completes (.streamPacketSend t n) s
        (fun u => u.emitted = [.packet n (s.streamFrame n c
            (s.streamHeader c (4 * ofBool (off == 0) + 8 * ofBool last) 0 x.seq lr k off m ++
              (List.range m).map (fun i => s.byte (s.lineAddr r k (off + i)))))] ∧
          (u.live_ c).seq = (x.seq + 1) % 4294967296 ∧ (u.live_ c).off = (if last then 0 else off + m) ∧
          (u.lane n).served = c ∧ u.obj (K.laneTxFrames n) = wrapAdd 64 (s.obj (K.laneTxFrames n)) 1) (fun _ => True)))

/-- Writes of lane and port objects (R99, R371, R372, R385, R386): an enable moves the status of a lane with a role, and the two clears zero
the counters. Where a disable moves no stream and ends no replay, nothing else changes. It rests on the model's own choices: log entry 49. -/
def Obligations.LaneObjectsAreWritten : Prop :=
  ∀ (s : State) (q : Req) (l : Loc) (n : Nat), s.safeAsk = 0 →
    (n < 16 → Accepts s (onObject q (K.laneEnable n)) l →
      (s.roleOfLane n = 0 →
        Writes (.laneEnable q n) s (onObject q (K.laneEnable n)) l [(K.laneEnable n, ofLE q.body)] (fun _ => True)) ∧
      (s.roleOfLane n ≠ 0 →
        Completes (.laneEnable q n) s
          (fun u => Responds (s.written (onObject q (K.laneEnable n)) l) u (onObject q (K.laneEnable n))
              (okMessage u (onObject q (K.laneEnable n)) .write [] l.row.ty.code 0) ∧ u.obj (K.laneEnable n) = ofLE q.body ∧
            enState (u.obj (K.laneStatus n)) = enState (enWrite (s.obj (K.laneStatus n)) (ofLE q.body))) (fun _ => True)) ∧
      (s.roleOfLane n ≠ 0 → (s.laneOn n = false ∨ ofLE q.body = 1 ∨ (s.ethernet n = true ∧ s.exporting n = [] ∧ s.replays = [])) →
        Writes (.laneEnable q n) s (onObject q (K.laneEnable n)) l
          [(K.laneEnable n, ofLE q.body), (K.laneStatus n, enWrite (s.obj (K.laneStatus n)) (ofLE q.body))] (fun _ => True))) ∧
    (n < 16 → Accepts s (onObject q (K.laneClear n)) l →
      Writes (.laneClear q n) s (onObject q (K.laneClear n)) l
        ([K.laneTxFrames n, K.laneTxBytes n, K.laneRxFrames n, K.laneRxBytes n, K.laneRxFcs n, K.laneRxDropped n, K.lanePauseRx n,
          K.lanePausedUs n, K.laneFecCorrected n, K.laneFecUncorrected n, K.lanePoisoned n, K.laneCutLines n, K.laneLinkDowns n].map
          (fun k => (k, 0))) (fun _ => True)) ∧
    (Accepts s (onObject q K.portsMgmtClear) l →
      Writes (.mgmtClear q) s (onObject q K.portsMgmtClear) l
        ([K.portsMgmtTxFrames, K.portsMgmtRxFrames, K.portsMgmtRxFcs, K.portsMgmtRxDropped, K.portsMgmtLinkDowns].map (fun k => (k, 0)))
        (fun _ => True))

/-! ## Backstop, fabric, probes, reload and scrubbing -/

/-- The Backstop (R295 to R298, R302, R303): a whistle is counted, or ignored within 10 µs of the last; a programmed bank is the one that
the next activation loads; an activation takes the macrocells out of service, and the reload brings the bank into force, the other where it
fails its check, and none where both fail; latch upsets are counted; an oscillator edge clocks macrocells and shifts the synchronisers.
It rests on the model's own choices: log entries 2, 52. -/
def Obligations.BackstopIsLoadedAndClocked : Prop :=
  (∀ (s : State) (t j : Nat), s.held = false → j < 4 → s.bank.whistles.getD j 0xFF ≠ 0xFF →
    s.bs.rose.testBit (s.bank.whistles.getD j 0xFF) = true →
    let free := (s.bs.whistled.getD j none).all (fun z => decide (z + 10 * perUs ≤ max s.clock t))
    let taken := fun (u : State) => u.bs.rose = withBit s.bs.rose (s.bank.whistles.getD j 0xFF) false ∧
      u.bs.whistled = if free = true then s.bs.whistled.set j (some (max s.clock t)) else s.bs.whistled
    (free = true →
      Completes (.backstopWhistle t j) s
        (fun u => u.obj K.backstopWhistles = satAdd 32 (s.obj K.backstopWhistles) 1 ∧ taken u ∧
          (s.rallyState ≠ rStandalone → s.rallyState ≠ rExcluded →
            u.obj K.rallyWhistleSent = satAdd 32 (s.obj K.rallyWhistleSent) 1)) (fun _ => True)) ∧
    (free = true → s.safeAsk = 0 → s.rallyState = rStandalone →
      Sets (.backstopWhistle t j) s [(K.backstopWhistles, satAdd 32 (s.obj K.backstopWhistles) 1)] taken) ∧
    (free = false → s.safeAsk = 0 →
      Sets (.backstopWhistle t j) s [(K.backstopWhistlesIgnored, satAdd 32 (s.obj K.backstopWhistlesIgnored) 1)] taken)) ∧
  (∀ (s : State) (t : Nat) (ok : Bool), s.held = false → s.obj K.backstopState = 1 → s.bs.banks.length = 2 →
    s.obj K.backstopRunningBank < 2 →
    let other := 1 - s.obj K.backstopRunningBank
    let image := (s.blob (programmedBlob K.backstopImage)).getD []
    let bank := decodeBank image (s.classify 4 (imageWord image) != .tested)
    (ok = true → s.bs.live = true →
      Completes (.backstopProgrammed t ok) s
        (fun u => Holds u [(K.backstopBank, other), (K.backstopPending, 1), (K.backstopState, 0)] ∧ u.bs.banks[other]? = some bank)
        (fun _ => True) ∧
      (s.safeAsk = 0 → s.transfers = [] →
        Sets (.backstopProgrammed t ok) s [(K.backstopBank, other), (K.backstopPending, 1), (K.backstopState, 0)]
          (fun u => u.bs.banks[other]? = some bank))) ∧
    (ok = false →
      Completes (.backstopProgrammed t ok) s (fun u => u.obj K.backstopState = s.bsRest ∧ u.bs = s.bs) (fun _ => True) ∧
      (s.safeAsk = 0 → s.transfers = [] →
        Sets (.backstopProgrammed t ok) s [(K.backstopState, s.bsRest)] (fun u => u.bs = s.bs)))) ∧
  (∀ (s : State) (q : Req) (l : Loc), s.safeAsk = 0 → Accepts s (onObject q K.backstopActivate) l →
    Writes (.backstopActivate q) s (onObject q K.backstopActivate) l [(K.backstopState, 0)] (fun u => u.bs.live = false)) ∧
  (∀ (s : State) (t : Nat), s.held = false → s.bs.live = false → s.boot.live = true → s.obj K.backstopState = 0 →
    let p := s.obj K.backstopBank
    let b := s.bs.banks.getD p .erased
    let other := s.bs.banks.getD (1 - p) .erased
    (b.good = true →
      Completes (.macrocellsReloaded t) s
        (fun u => u.bs.live = true ∧ u.obj K.backstopRunningBank = p ∧ u.obj K.backstopCrc = b.crc ∧ u.obj K.versionsBackstop = b.word ∧
          u.obj K.backstopState = 0 ∧ u.obj K.backstopPending = 0) (fun _ => True)) ∧
    (b.good = false → other.good = true →
      Completes (.macrocellsReloaded t) s
        (fun u => u.bs.live = true ∧ u.obj K.backstopRunningBank = 1 - p ∧ u.obj K.backstopCrc = other.crc ∧
          u.obj K.versionsBackstop = other.word ∧ u.obj K.backstopState = 2) (fun _ => True)) ∧
    (b.good = false → other.good = false →
      Completes (.macrocellsReloaded t) s (fun u => u.bs.live = false ∧ u.obj K.backstopState = 3) (fun _ => True))) ∧
  (∀ (s : State) (t upsets : Nat), Awake s → s.bs.live = true →
    Sets (.backstopLatchCheck t upsets) s [(K.backstopUpsets, satAdd 32 (s.obj K.backstopUpsets) upsets)] (fun _ => True)) ∧
  (∀ (s : State) (t : Nat), Awake s →
    Sets (.backstopOscEdge t) s [] (fun u =>
      (∀ code ∈ s.bank.syncs, Sp.get (fun _ => 0) u.bs.sync code =
        ofBool ((s.begin_ t).pool s.bs.out 0 code) + 2 * (Sp.get (fun _ => 0) s.bs.sync code % 2)) ∧
      ∀ c, s.bank.cells = [c] → c.mode ≠ 0 → c.clock = 0 → c.rstTerm = none →
        u.bs.out.testBit c.id = clocked c (s.bs.out.testBit c.id) ((s.begin_ t).sumOn s.bs.out 0 c)))

/-- Fabric and probes (R282, R283, R288, R290 to R295, R349, R360): a word written to a block memory is read back and no other word changes;
a multiply-accumulate block holds the sum of the products; a probe is armed, triggered and done; port cells hand out and take words in
their modes; a wire of a sector that runs takes the level that logic drives; an edge of a pace wire samples the probes and moves PACED
words. It rests on the model's own choices: log entries 2, 53. -/
def Obligations.FabricAndProbesRun : Prop :=
  (∀ m v w a b : Nat, [1, 2, 4, 9, 18, 36, 72].contains w = true →
    let depth := if w < 9 then 32768 / w else 36864 / w
    let m' := memoryWrite m v (memoryBits w a).zipIdx
    memoryRead m' (memoryBits w a) = v % 2 ^ w ∧
      (b % depth ≠ a % depth → memoryRead m' (memoryBits w b) = memoryRead m (memoryBits w b))) ∧
  (∀ (m : Multiplier) (xs : List (Int × Int)), m.sumReg = true → m.inputReg = false → m.productReg = false → m.cascade = false →
    (xs.foldl (fun r e => macEdge m r e.1 e.2 0) .none_).acc =
      signed 48 (unsigned 48 ((xs.map (fun e => e.1 * e.2)).foldl (· + ·) 0))) ∧
  (∀ (s : State) (q : Req) (l : Loc) (t : Nat), s.safeAsk = 0 →
    (Accepts s (onObject q K.probeArm) l →
      Writes (.probeArm q) s (onObject q K.probeArm) l [(K.probeState, 1)] (fun u => u.samples = [])) ∧
    (s.held = false → s.obj K.probeState = 1 →
      Sets (.probeTrigger t) s
        [(K.probeState, 2), (K.probeTriggerTime, (s.begin_ t).now), (K.probeTriggerIndex, s.samples.length)] (fun _ => True)) ∧
    (s.held = false → s.obj K.probeState = 2 → s.shareTaken = true →
      Sets (.probeDone t) s [(K.probeState, 3)] (fun _ => True))) ∧
  (∀ (s : State) (t q k : Nat) (f : Placed) (x : CellUse), Awake s → q < quadCount s.variant → k < 256 →
    s.liveCells.find? (fun e => e.1.2.1 == q && e.2.cell == k) = some (f, x) →
    let unit := s.cellUnit f
    let shows := ((s.net q).cell k).testBit
    let o := s.pinsAt f k
    (s.cellMode q k ≠ 1 → s.cellMode q k ≠ 2 →
      Sets (.portCellWord t q k) s [] (fun u => u.nets = s.nets ∧ u.coarse = s.coarse ∧ u.fabs = s.fabs)) ∧
    (∀ v, s.cellMode q k = 1 → x.role = 3 → unit < 256 → s.coarse.find? (fun e => e.ctx == x.ctx) = some v →
      ((s.fab unit).iq.contains x.ctx = false →
        Sets (.portCellWord t q k) s [] (fun u => u.coarse = s.coarse ∧ (u.fab unit).iq = x.ctx :: (s.fab unit).iq)) ∧
      ((s.fab unit).iq.contains x.ctx = true →
        Sets (.portCellWord t q k) s [] (fun u => u.coarse = s.coarse.erase v ∧ (u.fab unit).iq.contains x.ctx = false))) ∧
    (∀ line off, s.cellMode q k = 1 → x.role = 1 → s.clientRed (42 + q) = false →
      s.lineHand unit x.ctx = some (x.ctx, line, off) → off / 4 % x.run = x.place →
      let length := (s.recOf (s.ring x.ctx false) line).length
      Completes (.portCellWord t q k) s
        (fun u => if off + 4 < length then (u.fab unit).reads.head? = some (x.ctx, line, off + 4)
          else (u.fab unit).reads = (s.fab unit).reads.filter (fun e => e.1 != x.ctx)) (fun _ => True)) ∧
    (∀ line, s.cellMode q k = 2 → x.role = 2 → unit < 256 → (s.fab f.1).writes.contains x.ctx = true → (s.ctx x.ctx).cur = some line →
      line.empty = false → s.obj (K.ctxTile x.ctx) = 0xFFFF →
      let takes := !shows 88 && o.req
      Completes (.portCellWord t q k) s
        (fun u => (u.net q).cell k = (if takes then 2 ^ 88 else if shows 88 && !o.req then 0 else (s.net q).cell k) ∧
          (takes = true → o.eol = false →
            (u.ctx x.ctx).outQ = (s.ctx x.ctx).outQ ++ [.word x.ctx (s.chained x.ctx) line.line 4 o.word] ∧
            (u.ctx x.ctx).cur = some { line with words := line.words + 1 }))
        (fun v => (takes = false → Frame s v []) ∧ (o.eol = false → ∀ k, settledKey k = false → v.obj k = s.obj k)))) ∧
  (∀ (s : State) (t q i : Nat), s.held = false → q < quadCount s.variant → s.sectorRuns q = true →
    let level := (s.begin_ t).borderLevel q
    (i < 64 → s.safeAsk = 0 →
      Sets (.fabricWireChange t (.backstop q i)) s [] (fun u => u.wires.backstop.testBit (64 * q + i) = level i)) ∧
    (i < 16 →
      Completes (.fabricWireChange t (.strobe q i)) s (fun u => u.wires.strobe.testBit (16 * q + i) = level (64 + i)) (fun _ => True) ∧
      Completes (.fabricWireChange t (.blank q i)) s (fun u => u.wires.blank.testBit (16 * q + i) = level (80 + i)) (fun _ => True)) ∧
    (i < 32 → s.safeAsk = 0 →
      Sets (.fabricWireChange t (.pin q i)) s [] (fun u => u.wires.pin.testBit (32 * q + i) = level (96 + i)) ∧
      Sets (.fabricWireChange t (.pinEnable q i)) s [] (fun u => u.wires.enable.testBit (32 * q + i) = level (128 + i)))) ∧
  (∀ (s : State) (t i taps : Nat) (full : List (Nat × Nat)), s.held = false → i < 8 → s.paceOn i = true →
    let w : PaceFacts := ⟨taps, full⟩
    (s.obj K.probePace = i → s.obj K.probeState = 1 →
      Completes (.paceWireEdge t i w) s
        (fun u => u.samples.length = min (s.samples.length + 1) s.ringSamples ∧
          ∀ v, u.samples.head? = some v → ∀ m < 16,
            let net := s.obj (K.probeNet m)
            (net < 0x400 → v.testBit m = (s.begin_ t).tapLevel net) ∧
            (0x400 ≤ net → net < 0x500 → v.testBit m = (s.begin_ t).macroOut.testBit (net - 0x400)) ∧
            ((0xA00 ≤ net ∧ net < 0xA48) ∨ (0xB00 ≤ net ∧ net < 0xB20) → v.testBit m = taps.testBit m)) (fun _ => True)) ∧
    (s.obj K.probePace ≠ i →
      Completes (.paceWireEdge t i w) s (fun u => u.samples = s.samples) (fun _ => True) ∧
      (s.logicSectors = [] → s.safeAsk = 0 → Sets (.paceWireEdge t i w) s [] (fun u => u.nets = s.nets))) ∧
    (∀ f x, s.liveCells = [(f, x)] → x.role = 2 → s.cellMode f.2.1 x.cell = 0 → s.cellWire f.2.1 x.cell = i →
      let lost := (s.pinsAt f x.cell).valid && !((s.net f.2.1).cell x.cell).testBit 33
      let dropped := K.fabricSectorDropped f.2.1
      Completes (.paceWireEdge t i w) s
        (fun u => (u.net f.2.1).cell x.cell = (if full.contains (f.2.1, x.cell) then 0 else 2 ^ 33) ∧
          u.obj dropped = if lost then satAdd 32 (s.obj dropped) 1 else s.obj dropped)
        (fun _ => True)))

/-- Reload and scrubbing (R315, R317, R320 to R324, R327): a reload goes through its steps, the sector's border held between freeze and
release, and a frame that fails twice loses the sector; a frame in order moves the scrubber on, a corrected or restored one is counted, one beyond repair loses its
sector; its watchdog restarts it.
It rests on the model's own choices: log entries 39, 54, 55. -/
def Obligations.SectorsReloadAndFramesAreScrubbed : Prop :=
  (∀ (s : State) (q : Req) (l : Loc) (k : Nat), s.safeAsk = 0 → k < 4 → Accepts s (onObject q (K.configSectorReload k)) l →
    Writes (.configSectorReload q k) s (onObject q (K.configSectorReload k)) l [] (fun u => u.reload = some ⟨k, 1⟩)) ∧
  (∀ (s : State) (t : Nat) (r : Reload), s.held = false → s.reload = some r → r.sector < quadCount s.variant →
    let q := r.sector
    let left := min 128 (((imageRecords s.stagedImage).map (·.clusters)).foldl (· + ·) 0)
    (r.step = 1 →
      Completes (.reloadStepEnd t true) s (fun u => u.reload = some ⟨q, 2⟩ ∧ ∀ c ∈ s.affected q, (u.ctx c).freeze = true) (fun _ => True)) ∧
    (r.step = 2 →
      Completes (.reloadStepEnd t true) s
        (fun u => u.reload = some ⟨q, 3⟩ ∧ u.obj (K.configSectorState q) = 3 ∧
          u.obj (K.configSectorFrozenFrom q) = (s.begin_ t).now ∧
          ∀ i < 64, u.obj (K.tileRouteSel (64 * q + i)) = 0xFF ∧ u.obj (K.tilePadEntry (64 * q + i)) = 0) (fun _ => True)) ∧
    (s.safeAsk = 0 → r.step = 3 →
      Sets (.reloadStepEnd t true) s [(K.configSectorClustersLeft q, left)] (fun u => u.reload = some ⟨q, 4⟩)) ∧
    (s.safeAsk = 0 → r.step = 4 →
      Sets (.reloadStepEnd t true) s [(K.configSectorClustersLeft q, 0)] (fun u => u.reload = some ⟨q, 5⟩)) ∧
    (s.safeAsk = 0 → r.step = 5 → Sets (.reloadStepEnd t true) s [] (fun u => u.reload = some ⟨q, 6⟩)) ∧
    (r.step = 4 ∨ r.step = 5 →
      Completes (.reloadStepEnd t false) s (fun u => u.reload = none ∧ u.obj (K.configSectorState q) = 4) (fun _ => True)) ∧
    (s.safeAsk = 0 → r.step = 6 → s.mode = mRun ∨ s.mode = mHold →
      Sets (.reloadStepEnd t true) s [] (fun u => u.reload = some ⟨q, 7⟩)) ∧
    (s.safeAsk = 0 → r.step = 6 → s.mode = mSafe → Sets (.reloadStepEnd t true) s [] (fun u => u.reload = some r)) ∧
    (r.step = 7 →
      Completes (.reloadStepEnd t true) s
        (fun u => u.reload = some ⟨q, 8⟩ ∧ u.obj (K.configSectorState q) = 2 ∧
          u.obj (K.configSectorReleased q) = (s.begin_ t).now ∧ u.obj K.configStaged = 0xFF ∧
          ∀ f, u.framesIn q = [f] → f.2.2.1.Nodup →
            ∀ n x, f.2.2.1[n]? = some x → (u.net q).flops x = initialFlops (u.placeCluster f n)) (fun _ => True)) ∧
    (r.step = 8 →
      Completes (.reloadStepEnd t true) s
        (fun u => u.reload = none ∧
          u.obj (K.configSectorReloads q) = satAdd 32 (s.obj (K.configSectorReloads q)) 1) (fun _ => True)) ∧
    (s.safeAsk = 0 → r.step = 8 → s.swaps = [] → s.copying = false → s.moves = [] →
      Sets (.reloadStepEnd t true) s [(K.configSectorReloads q, satAdd 32 (s.obj (K.configSectorReloads q)) 1)]
        (fun u => u.reload = none))) ∧
  (∀ (s : State) (t : Nat) (f : Finding), s.held = false → isOn (s.obj K.scrubStatus) = true → s.scrubRuns ≠ [] →
    s.scrubs (s.obj K.scrubPosition) = true → f.onehot = false → f.bits ≠ [] → f.correctable = false →
    (f.restorable = true → s.obj K.deviceStandbyShadow = 1 →
      Completes (.scrubFrame t f) s
        (fun u => u.obj K.scrubRestored = satAdd 32 (s.obj K.scrubRestored) 1 ∧
          u.obj K.scrubEssential = satAdd 32 (s.obj K.scrubEssential) 1) (fun _ => True)) ∧
    (f.restorable = false ∨ s.obj K.deviceStandbyShadow ≠ 1 →
      Completes (.scrubFrame t f) s
        (fun u => u.obj K.scrubLost = satAdd 32 (s.obj K.scrubLost) 1 ∧
          u.obj (K.configSectorState (frameSector (s.obj K.scrubPosition))) = 4) (fun _ => True))) ∧
  (∀ (s : State) (t b : Nat) (f : Finding), Awake s → isOn (s.obj K.scrubStatus) = true → s.scrubRuns ≠ [] →
    let a := s.obj K.scrubPosition
    s.scrubs a = true → s.frameAfter a = some b → f.onehot = false → f.votes = 0 → f.mapBad = false → f.tableBad = false →
    (f.bits = [] → Sets (.scrubFrame t f) s [(K.scrubPosition, b)] (fun u => u.scrub = s.scrub)) ∧
    (f.bits ≠ [] → f.correctable = true → s.allEssential a = false → f.bits.any (s.bitEssential a) = false →
      Sets (.scrubFrame t f) s [(K.scrubCorrected, satAdd 32 (s.obj K.scrubCorrected) 1), (K.scrubPosition, b)]
        (fun u => ∃ r, u.scrub.log.head? = some r ∧ r.take 15 = toLE 12 (s.begin_ t).now ++ toLE 3 a))) ∧
  (∀ (s : State) (q : Req) (l : Loc), s.safeAsk = 0 → Accepts s (onObject q K.scrubEnable) l →
    Writes (.scrubEnable q) s (onObject q K.scrubEnable) l
      [(K.scrubEnable, ofLE q.body), (K.scrubStatus, enWrite (s.obj K.scrubStatus) (ofLE q.body))] (fun _ => True)) ∧
  (∀ (s : State) (t : Nat), s.held = false → isOn (s.obj K.scrubStatus) = true →
    Completes (.scrubWatchdog t) s
      (fun u => u.obj K.scrubRestarts = satAdd 32 (s.obj K.scrubRestarts) 1 ∧ (u.obj K.scrubFlags).testBit 2 = true ∧
        (1 ≤ s.scrub.resets → (u.obj K.scrubFlags).testBit 1 = true) ∧
        u.obj (K.eventCount 755) = satAdd 32 (s.obj (K.eventCount 755)) 1) (fun _ => True))

/-! ## Pins, pattern units and event sources -/

/-- Pins (R388, R391 to R396): bank writes merge, a function is stored, begins a switch or waits for one, the switch goes through its latch
and its first handshake, an input takes a level that its filter lets through and counts a
glitch, and a bank's supply is shown, a departure asking for SAFE.
It rests on the model's own choices: log entries 2, 56. -/
def Obligations.PinsFollowTheirFunctions : Prop :=
  (∀ (s : State) (q : Req) (l : Loc) (b : Nat), s.safeAsk = 0 → b < 6 →
    (Accepts s (onObject q (K.gpioBankWrite b)) l → Writes (.gpioBankWrite q b) s (onObject q (K.gpioBankWrite b)) l
      [(K.gpioBankOut b, merged (s.obj (K.gpioBankOut b)) (ofLE q.body))] (fun _ => True)) ∧
    (Accepts s (onObject q (K.gpioBankOut b)) l → Writes (.gpioOutWrite q b) s (onObject q (K.gpioBankOut b)) l
      [(K.gpioBankOut b, ofLE q.body)] (fun _ => True))) ∧
  (∀ (s : State) (q : Req) (l : Loc) (k : Nat), s.safeAsk = 0 → k < 96 →
    let w := onObject q (K.gpioPinFunc k)
    let f := ofLE q.body
    (Accepts s w l → s.pinsReleased = false → Writes (.gpioFuncWrite q k) s w l [(K.gpioPinFunc k, f)] (fun _ => True)) ∧
    (Accepts s w l → s.pinsReleased = true → (s.pin k).stage = 0 →
      Writes (.gpioFuncWrite q k) s w l [(K.gpioPinFunc k, f)]
        (fun u => (u.pin k).stage = 1 ∧ (u.pin k).old = s.obj (K.gpioPinFunc k))) ∧
    (Accepts s w l → s.pinsReleased = true → (s.pin k).stage ≠ 0 →
      Writes (.gpioFuncWrite q k) s w l [(K.gpioPinPending k, f)] (fun u => (u.pin k) = s.pin k))) ∧
  (∀ (s : State) (t k : Nat), Awake s → k < 96 →
    ((s.pin k).stage = 1 →
      Sets (.pinLatchCapture t k) s []
        (fun u => (u.pin k).stage = 2 ∧ (u.pin k).latched = (s.begin_ t).latchable ((s.begin_ t).pinDrive k))) ∧
    ((s.pin k).stage = 3 → (s.begin_ t).agrees k = true → s.obj (K.gpioPinPending k) = 0xFFFF →
      Sets (.funcFirstHandshake t k) s [] (fun u => (u.pin k).stage = 0)) ∧
    ((s.pin k).stage = 2 → (s.begin_ t).agrees k = true → s.obj (K.gpioPinPending k) = 0xFFFF →
      Sets (.funcFirstHandshake t k) s [(K.gpioPinSwitches k, satAdd 32 (s.obj (K.gpioPinSwitches k)) 1)]
        (fun u => (u.pin k).stage = 0)) ∧
    ((s.pin k).stage = 2 → (s.begin_ t).agrees k = true → s.obj (K.gpioPinPending k) ≠ 0xFFFF →
      Sets (.funcFirstHandshake t k) s
        [(K.gpioPinSwitches k, satAdd 32 (s.obj (K.gpioPinSwitches k)) 1), (K.gpioPinPending k, 0xFFFF),
         (K.gpioPinFunc k, s.obj (K.gpioPinPending k))]
        (fun u => (u.pin k).stage = 1 ∧ (u.pin k).old = s.obj (K.gpioPinFunc k)))) ∧
  (∀ (s : State) (t k held : Nat) (level : Bool), Awake s → k < 96 → level ≠ s.pinLevels.testBit k →
    (5 * s.obj (K.gpioPinFilter k) * 1000 ≤ held →
      Sets (.pinInputChange t k level held) s [] (fun u => u.pinLevels = withBit s.pinLevels k level)) ∧
    (held < 5 * s.obj (K.gpioPinFilter k) * 1000 →
      Sets (.pinInputChange t k level held) s [(K.gpioPinGlitches k, satAdd 32 (s.obj (K.gpioPinGlitches k)) 1)]
        (fun u => u.pinLevels = s.pinLevels))) ∧
  (∀ (s : State) (t b mv : Nat), s.held = false → b < 6 →
    (nominalOf mv ≠ 0 → s.safeAsk = 0 →
      Sets (.bankVioCheck t b mv) s [(K.gpioBankVio b, nominalOf mv), (K.gpioBankVioFault b, 0)] (fun _ => True)) ∧
    (nominalOf mv = 0 →
      Completes (.bankVioCheck t b mv) s (fun u => u.obj (K.gpioBankVio b) = 0 ∧ u.obj (K.gpioBankVioFault b) = 1 ∧ u.safeAsk ≠ 0)
        (fun _ => True)))

/-- Pattern units (R397, R398): a write is in force from 1 µs on and a unit that is OFF shows no match; a comparison that has held is shown,
and an activation counts, shows the bank's word and is raised. It rests on the model's own choices: log entry 57. -/
def Obligations.PatternUnitsMatch : Prop :=
  (∀ (s : State) (q : Req) (l : Loc) (u sub : Nat), s.safeAsk = 0 → u < 16 → 1 ≤ sub → sub ≤ 5 →
    let k := key (0x6900 + u) sub
    let w := onObject q k
    let m := if k = K.patternMode u then ofLE q.body else s.obj (K.patternMode u)
    Accepts s w l →
    Writes (.patternWrite q u sub) s w l ((k, ofLE q.body) :: (if m = 0 then [(K.patternMatch u, 0)] else []))
      (fun v => if m = 0 then v.pat u = .none_ else (v.pat u).since = max s.clock q.at_ + perUs)) ∧
  (∀ (s : State) (t u : Nat), Awake s → u < 16 → s.obj (K.patternMode u) ≠ 0 → s.mode ≠ mStandby →
    (s.pat u).since + 5 * perNs * s.obj (K.patternHold u) ≤ max s.clock t →
    let raw := s.patRaw u
    let act := match s.obj (K.patternMode u) with
      | 1 => raw && !(s.pat u).base
      | 2 => raw && !(s.pat u).base
      | 3 => !raw && (s.pat u).base
      | _ => s.patIn u != (s.pat u).seen
    let word := s.bankIn (s.obj (K.patternBank u))
    Sets (.patternMatch t u) s
      ((K.patternMatch u, ofBool raw) ::
        (if act then [(K.patternCount u, satAdd 32 (s.obj (K.patternCount u)) 1), (K.patternLastWord u, word)] ++
          raisedBy (s.begin_ t) (704 + u) word else []))
      (fun v => (v.pat u).base = raw ∧ (v.pat u).seen = s.patIn u))

/-- Event sources (R405, R406, R409, R411): a clear lowers a source that may be cleared and no other, the test raises source 767, the
routing of a source is stored, and a source written to LEVEL takes the status of its condition.
It rests on the model's own choices: log entry 58. -/
def Obligations.EventSourcesAreWritten : Prop :=
  ∀ (s : State) (q : Req) (l : Loc) (n : Nat), s.safeAsk = 0 → n < 768 →
    let status := fun (u : State) (m : Nat) => u.obj (K.eventStatus m)
    let may := fun m => s.follows m = false ∧ s.condition m ≠ some true
    (Accepts s (onObject q (K.eventClear n)) l →
      Writes (.eventClear q n) s (onObject q (K.eventClear n)) l []
        (fun u => if (ofLE q.body = s.obj (K.eventCount n) ∨ ofLE q.body = 0xFFFFFFFF) ∧ may n then status u n ≠ 1
          else status u n = status s n)) ∧
    (Accepts s (onObject q K.deviceEventsClearNode) l →
      Writes (.clearNode q) s (onObject q K.deviceEventsClearNode) l []
        (fun u => if below (ofLE q.body) n = true ∧ may n then status u n ≠ 1 else status u n = status s n)) ∧
    (Accepts s (onObject q K.deviceEventsTest) l →
      Writes (.eventTest q) s (onObject q K.deviceEventsTest) l (raisedBy (s.access (onObject q K.deviceEventsTest)) 767 0)
        (fun _ => True)) ∧
    (∀ sub, (sub = 2 ∨ sub = 4 ∨ sub = 6) →
      let k := key (0x7000 + n) sub
      Accepts s (onObject q k) l →
      Writes (.eventEnableWrite q n sub) s (onObject q k) l [(k, ofLE q.body)] (fun _ => True)) ∧
    (Accepts s (onObject q (K.eventLatch n)) l →
      Writes (.eventLatchWrite q n) s (onObject q (K.eventLatch n)) l [(K.eventLatch n, ofLE q.body)]
        (fun u => ofLE q.body = 0 →
          (s.condition n = some true → status u n = 1) ∧ (s.condition n = some false → status u n ≠ 1)))

/-! ## The formation -/

/-- What a member sends (R180 to R182, R187, R190, R193, R196): its TIME fragment, the announcements and heartbeats of the generators that it
shares, the version it chooses as lead captain, and at a fragment boundary the waiting fragment of highest priority, a TRACK run or a peer
stream's fragment; while a fragment is in flight others wait. The epoch byte of a TIME fragment and the length of a CONTROL message are free
values. It rests on the model's own choices: log entries 2, 50, 51. -/
def Obligations.MembersSend : Prop :=
  (∀ (s : State) (t lane : Nat), Awake s → lane < laneCount s.variant → 2 ≤ s.roleOfLane lane → s.rallyUp lane = true →
    s.rallyState ≠ rStandalone →
    let x := s.rallyLane lane
    let hops := if s.obj K.rallyRole = 2 then 0 else if s.obj K.rallyUpstream = 0xFF then 15 else s.obj K.rallyHops
    let told := toLE 12 (s.begin_ t).now ++ toLE 12 (time96 x.peerTx) ++ toLE 12 (time96 x.arrival) ++ toLE 1 hops ++
      toLE 1 (s.obj K.rallyLead) ++ toLE 1 (s.obj K.timeSource) ++ toLE 1 (Config.free 30 s.freeCount % 256)
    (x.busy = false →
      Sets (.rallyTimeSend t lane) s []
        (fun u => u.emitted = [.fragment lane (fragHeader 2 true true 0 0 (x.seqs.getD 1 0) 40) told] ∧
          (u.rallyLane lane).seqs = x.seqs.set 1 ((x.seqs.getD 1 0 + 1) % 65536) ∧ (u.rallyLane lane).busy = true)) ∧
    (x.busy = true →
      Sets (.rallyTimeSend t lane) s []
        (fun u => u.emitted = [] ∧ (u.rallyLane lane).waiting = x.waiting ++ [⟨2, true, true, 0, 0, told, none⟩]))) ∧
  (∀ (s : State) (t p : Nat) (target : Int) (passed num den : Nat), s.held = false → p < 16 → s.announces p = true →
    isOn (s.obj (K.pitchStatus p)) = true → s.obj (K.pitchSource p) = 0 → s.encOf p < 8 →
    let x := s.pitchOf p
    let tg := s.targetOf p
    let w : Int := s.obj (K.pitchPitch p)
    firstFrom (s.enc (s.encOf p)).recent (s.obj (K.pitchWindow p)) x.moved tg.1 (if tg.2 then w else -w)
      (max s.clock t + s.obj K.rallyTriggerHorizon * perNs) = some (target, passed, num, den) →
    let backup := bitsOf (s.obj K.rallyShareSource) p p == 0 && !x.took
    Completes (.sharedTriggerAnnounce t p) s
      (fun u => (∃ d, (u.pitchOf p).due = x.due ++ [d] ∧ d.line = s.nextAnnounced p ∧ d.at_ = (s.begin_ t).onGrid p num den ∧
          d.late = false ∧
          ∀ i ∈ s.upLanes, i ≠ 0xFF → s.mayCarry i 3 = true → (s.rallyLane i).busy = false →
            ∃ h, .fragment i h (triggerPayload d.line d.target d.fraction ((s.begin_ t).timeAt d.at_) 0) ∈ u.emitted) ∧
        (u.pitchOf p).announced = some (s.nextAnnounced p) ∧
        u.obj K.rallyTakeovers = (if backup then satAdd 32 (s.obj K.rallyTakeovers) 1 else s.obj K.rallyTakeovers) ∧
        u.obj K.rallyTakeoverLines =
          (if backup then satAdd 32 (s.obj K.rallyTakeoverLines) passed else s.obj K.rallyTakeoverLines))
      (fun _ => True)) ∧
  (∀ (s : State) (t p : Nat), Awake s → p < 16 → s.announces p = true → isOn (s.obj (K.pitchStatus p)) = true → (s.pitchOf p).due = [] →
    let told := triggerPayload (s.obj (K.pitchLine p)) (s.obj (K.pitchLastPos p)) 0 (s.begin_ t).time 1
    Sets (.triggerHeartbeat t p) s []
      (fun u => (u.pitchOf p).heard = max (s.pitchOf p).heard (s.begin_ t).time ∧
        ∀ i ∈ s.upLanes, i ≠ 0xFF → s.mayCarry i 3 = true →
          ((s.rallyLane i).busy = false → ∃ h, .fragment i h told ∈ u.emitted) ∧
          ((s.rallyLane i).busy = true →
            (u.rallyLane i).waiting = (s.rallyLane i).waiting ++ [⟨3, true, true, 0, p, told, none⟩]))) ∧
  (∀ (s : State) (t v : Nat), s.held = false →
    let r := (s.begin_ t).updateRoles
    r.obj K.rallyRole = 2 → r.known.any (·.running) = false → r.rallyState ≠ rStandalone → r.rallyState ≠ rExcluded →
    chooseVersion (r.ownOffer :: (r.rally.offers.filter (fun o => o.1 != r.memberId)).map (·.2)) = some v → offers r.ownOffer v = true →
    Completes (.negotiationWindow t) s
      (fun u => u.obj K.rallyVersion = v ∧ u.rally.agreed = true ∧
        ∀ i ∈ r.upLanes, i ≠ 0xFF → (r.rallyLane i).busy = false → ∃ h, .control i h (.version v) ∈ u.emitted) (fun _ => True)) ∧
  (∀ (s : State) (t lane : Nat), s.held = false → lane < laneCount s.variant → 2 ≤ s.roleOfLane lane → s.rallyUp lane = true →
    s.rallyState ≠ rStandalone →
    let x := s.rallyLane lane
    let b := (s.begin_ t).setRallyLane lane { x with busy := false }
    let header := fun (w : Waiting) => fragHeader w.type w.first w.last w.hop w.channel (x.seqs.getD (w.type - 1) 0) w.payload.length
    let leaves := fun (w : Waiting) =>
      Completes (.fragmentBoundary t lane) s
        (fun u => u.emitted = [.fragment lane (header w) w.payload] ∧ (u.rallyLane lane).waiting = x.waiting.erase w ∧
          (u.rallyLane lane).busy = true) (fun _ => True)
    (∀ w, x.next 4 = some w → w.control = none → w.type ≠ 2 → leaves w) ∧
    (∀ w c, x.next 4 = some w → w.control = some c →
      Completes (.fragmentBoundary t lane) s
        (fun u => (∃ h, u.emitted = [.control lane h c]) ∧ (u.rallyLane lane).waiting = x.waiting.erase w) (fun _ => True)) ∧
    (x.next 4 = none → (b.sendTrack lane).isSome = true →
      Completes (.fragmentBoundary t lane) s (fun u => ∃ h bs, u.emitted = [.fragment lane h bs]) (fun _ => True)) ∧
    (∀ w, x.next 4 = none → b.sendTrack lane = none → x.next 6 = some w → w.control = none → w.type ≠ 2 → leaves w) ∧
    (∀ c, x.next 4 = none → b.sendTrack lane = none → x.next 6 = none → s.exports_ = true → s.mayCarry lane 7 = true →
      s.clientRed (18 + lane) = false →
      nextInRound (s.lane lane).served ((s.peerSends lane).filter (fun c =>
        s.holdsLine (s.ring c false) (s.nextLine (s.ring c false) (s.exportNext c .peer)))) = some c →
      let r := s.ring c false
      let k := s.nextLine r (s.exportNext c .peer)
      let y := s.peer_ c
      let off := if y.line = k then y.off else 0
      let lr := s.recOf r k
      let m := min 512 (lr.length - off)
      let last := decide (lr.length ≤ off + m)
      (off ≠ 0 ∨ s.linePoisoned r k lr.length = false) →
      Completes (.fragmentBoundary t lane) s
        (fun u => (∃ h, u.emitted = [.stream lane h ⟨s.node (K.graphNodePeer c) % 4096,
            if off = 0 then some ⟨k, lr.stamp, lr.position, lr.fraction, lr.flags, lr.gap⟩ else none,
            (List.range m).map (fun i => s.byte (s.lineAddr r k (off + i))), last⟩]) ∧
          (u.peer_ c).off = (if last then 0 else off + m) ∧ (u.lane lane).served = c) (fun _ => True)))

/-- What a member receives (R180 to R183, R186, R189, R191, R193 to R196): a fragment with a bad header is dropped and counted; TIME,
TRIGGER and TRACK fragments are kept and passed on; CONTROL changes the view of the formation; a whistle acts once; messages and streams go
on; a lost lane and the end of healing change the state; a trigger that stays away asks for HOLD. A fragment that goes on over a lane with
one in flight waits there. It rests on the model's own choices: log entries 50, 51. -/
def Obligations.MembersReceive : Prop :=
  (∀ (s : State) (t lane : Nat) (f : Frag) (type : Nat) (i : Instr), Awake s → lane < laneCount s.variant → 2 ≤ s.roleOfLane lane →
    s.rallyState ≠ rStandalone →
    (i = .rallyTimeFragment t lane f ∧ type = fTime) ∨ (i = .rallyTriggerFragment t lane f ∧ type = fTrigger) ∨
      (i = .rallyTrackFragment t lane f ∧ type = fTrack) ∨ (i = .whistleFragment t lane f ∧ type = fWhistle) →
    let dropped := [(K.rallyLaneDropped lane, satAdd 32 (s.obj (K.rallyLaneDropped lane)) 1)]
    (fragGood f type = false → Sets i s dropped (fun u => u.emitted = [])) ∧
    Sets (.fragmentDropped t lane) s dropped (fun _ => True)) ∧
  (∀ (s : State) (t lane : Nat) (f : Frag), s.held = false → lane < laneCount s.variant → 2 ≤ s.roleOfLane lane →
    s.rallyState ≠ rStandalone → s.rallyState ≠ rExcluded → fragGood f fTime = true →
    let t1 := ofTime96 (leAt f.payload 0 12)
    let t2 := (s.begin_ t).time
    let rtt : Int := ((ofTime96 (leAt f.payload 24 12) : Int) - t1) - ((ofTime96 (leAt f.payload 12 12) : Int) - t2)
    let drx := (rtt + signed 16 (s.obj (K.rallyLaneAsym lane)) * 65536 / 1000) / 2
    Completes (.rallyTimeFragment t lane f) s
      (fun u => (u.rallyLane lane).peerTx = t1 ∧ (u.rallyLane lane).arrival = t2 ∧ (u.rallyLane lane).hops = leAt f.payload 36 1 ∧
        u.obj (K.rallyLaneFragments lane) = wrapAdd 64 (s.obj (K.rallyLaneFragments lane)) 1 ∧
        (leAt f.payload 12 12 ≠ 0 → u.obj (K.rallyLaneDelay lane) = f32OfIntRat (drx * 1000) 65536)) (fun _ => True)) ∧
  (∀ (s : State) (t lane : Nat) (f : Frag), Awake s → lane < laneCount s.variant → 2 ≤ s.roleOfLane lane → s.sharing = true →
    let p := fragChannel f
    p < 16 →
    let x := s.pitchOf p
    let counted := [(K.rallyLaneFragments lane, wrapAdd 64 (s.obj (K.rallyLaneFragments lane)) 1)]
    let passed := fun (type : Nat) (u : State) =>
      ∀ i ∈ s.upLanes, i ≠ lane → s.mayCarry i type = true → (s.rallyLane i).busy = false → ∃ h, .fragment i h f.payload ∈ u.emitted
    let line := leAt f.payload 0 8
    let at_ := ofTime96 (leAt f.payload 16 12)
    let late := decide (at_ ≤ (s.begin_ t).time)
    let go := if late then max s.clock t + 16 * perNs else (s.begin_ t).onGrid p ((s.begin_ t).clockOf at_) 1
    (fragGood f fTrigger = true → x.announced.all (fun k => decide (k < line)) = true → leAt f.payload 28 1 % 2 = 0 →
      bitsOf (s.obj K.rallyShareSource) p p = 0 →
      Sets (.rallyTriggerFragment t lane f) s counted
        (fun u => passed 3 u ∧ (u.pitchOf p).announced = some line ∧
          (u.pitchOf p).due = x.due ++ (if s.followsDue p then [⟨line, leAt f.payload 8 6, leAt f.payload 14 2, go, late⟩] else []))) ∧
    (fragGood f fTrigger = true → x.heard < at_ → leAt f.payload 28 1 % 2 = 1 → bitsOf (s.obj K.rallyShareSource) p p = 0 →
      Sets (.rallyTriggerFragment t lane f) s counted
        (fun u => passed 3 u ∧ (u.pitchOf p).heard = at_ ∧ (u.pitchOf p).due = x.due)) ∧
    (fragGood f fTrack = true → x.replica.any (fun e => ofTime96 (leAt f.payload 0 12) ≤ e.1) = false →
      Sets (.rallyTrackFragment t lane f) s counted
        (fun u => passed 4 u ∧
          (u.pitchOf p).replica.map (·.1) = ofTime96 (leAt f.payload 0 12) :: (x.replica.take 3).map (·.1)))) ∧
  (∀ (s : State) (t lane hop : Nat), s.held = false → lane < laneCount s.variant → 2 ≤ s.roleOfLane lane → s.rallyState ≠ rStandalone →
    (∀ c, Completes (.rallyControlFragment t lane hop c) s
      (fun u => u.obj (K.rallyLaneFragments lane) = wrapAdd 64 (s.obj (K.rallyLaneFragments lane)) 1) (fun _ => True)) ∧
    (∀ m offer, m.id ≠ s.memberId → m.id ≠ 0xFF → s.rallyUp lane = true →
      s.obj (K.rallyLanePeer lane) = 0xFF ∨ s.obj (K.rallyLanePeer lane) = m.id →
      Completes (.rallyControlFragment t lane hop (.join m offer)) s
        (fun u => m ∈ u.rally.members ∧ (m.id, offer) ∈ u.rally.offers ∧ u.obj (K.rallyLanePeer lane) = m.id) (fun _ => True)) ∧
    (∀ m offer, m.id = s.memberId → m.device ≠ s.identity → s.rallyState ≠ rExcluded →
      Completes (.rallyControlFragment t lane hop (.join m offer)) s (fun u => u.rallyState = rExcluded) (fun _ => True)) ∧
    (∀ m, m.id ≠ s.memberId → m.id ∈ s.links →
      Completes (.rallyControlFragment t lane hop (.topology m)) s (fun u => m ∈ u.rally.members) (fun _ => True)) ∧
    (∀ m, Completes (.rallyControlFragment t lane hop (.leave m)) s
      (fun u => (∀ x ∈ u.rally.members, x.id ≠ m) ∧
        (s.obj (K.rallyLanePeer lane) = m → u.obj (K.rallyLaneState lane) = 4 ∧ u.obj (K.rallyLanePeer lane) = 0xFF)) (fun _ => True)) ∧
    (∀ v, s.rallyState ≠ rExcluded → v ≠ s.obj K.rallyVersion ∨ s.rally.agreed = false →
      (offers s.ownOffer v = true →
        Completes (.rallyControlFragment t lane hop (.version v)) s
          (fun u => u.obj K.rallyVersion = v ∧ u.rally.agreed = true) (fun _ => True)) ∧
      (offers s.ownOffer v = false →
        Completes (.rallyControlFragment t lane hop (.version v)) s (fun u => u.rallyState = rExcluded) (fun _ => True)))) ∧
  (∀ (s : State) (t lane : Nat) (f : Frag), s.held = false → lane < laneCount s.variant → 2 ≤ s.roleOfLane lane →
    [rAligning, rAligned, rHealing, rIsland].contains s.rallyState = true → fragGood f fWhistle = true →
    let seen := s.rally.seen.filter (fun e => decide (max s.clock t < e.2.2 + 10 * perMs))
    seen.any (fun e => e.1 == leAt f.payload 0 1 && e.2.1 == leAt f.payload 2 2) = false →
    fragHop f < s.obj K.rallyWhistleHops →
    let vs := [(K.rallyLaneFragments lane, wrapAdd 64 (s.obj (K.rallyLaneFragments lane)) 1),
        (K.rallyWhistleReceived, satAdd 32 (s.obj K.rallyWhistleReceived) 1), (K.rallyWhistleLast, ofLE (slice f.payload 0 16))] ++
        raisedBy (s.begin_ t) 753 (leAt f.payload 0 1)
    let acts := fun (u : State) =>
      (∀ i ∈ s.upLanes, i ≠ lane → (s.rallyLane i).busy = false → ∃ h, .fragment i h f.payload ∈ u.emitted) ∧
        u.whistleUntil = max s.clock t + perUs ∧ u.rally.seen = seen ++ [(leAt f.payload 0 1, leAt f.payload 2 2, max s.clock t)]
    (s.safeAsk = 0 → s.obj K.deviceSafeOnWhistle ≠ 1 → Sets (.whistleFragment t lane f) s vs acts) ∧
    (s.obj K.deviceSafeOnWhistle = 1 →
      Completes (.whistleFragment t lane f) s (fun u => Holds u vs ∧ acts u ∧ u.safeAsk.testBit 2 = true) (fun _ => True))) ∧
  (∀ (s : State) (t lane hop dest origin next : Nat) (bytes : List Byte), Awake s → lane < laneCount s.variant → 2 ≤ s.roleOfLane lane →
    s.rallyState ≠ rStandalone → dest ≠ s.memberId → s.nextHop lane dest = some next → bytes ≠ [] → hop < 15 →
    s.mayCarry next 6 = true → (s.rallyLane next).busy = false →
    let x := s.rallyLane next
    Sets (.umzinFragment t lane hop dest origin bytes) s
      [(K.rallyLaneFragments lane, wrapAdd 64 (s.obj (K.rallyLaneFragments lane)) 1)]
      (fun u => u.emitted = [.fragment next
          (fragHeader 6 true (decide (bytes.length ≤ 512)) (hop + 1) dest (x.seqs.getD 5 0) (min 512 bytes.length)) (bytes.take 512)] ∧
        ∃ ws, (u.rallyLane next).waiting = x.waiting ++ ws ∧ ws.flatMap (·.payload) = bytes.drop 512 ∧
          ∀ w ∈ ws, w.type = 6 ∧ w.hop = hop + 1 ∧ w.channel = dest ∧ w.payload.length ≤ 512)) ∧
  (∀ (s : State) (t lane c stream : Nat) (data : List Byte) (line : Cur), s.held = false → lane < laneCount s.variant →
    2 ≤ s.roleOfLane lane → s.rallyState ≠ rStandalone →
    (s.peerCtxs lane).find? (fun c => s.node (K.graphNodeInput c) == stream) = some c → (s.ctx c).cur = some line →
    line.empty = false → data ≠ [] → s.obj (K.ctxTile c) = 0xFFFF →
    Completes (.streamFragment t lane ⟨stream, none, data, false⟩) s
      (fun u => (u.ctx c).outQ = (s.ctx c).outQ ++ data.map (fun b => .word c (s.chained c) line.line 1 b.toNat) ∧
        (u.ctx c).cur = some { line with words := line.words + data.length }) (fun _ => True)) ∧
  (∀ (s : State) (t lane : Nat), s.held = false → lane < laneCount s.variant → 2 ≤ s.roleOfLane lane → s.rallyUp lane = true →
    Completes (.rallyLaneLost t lane) s
      (fun u => u.obj (K.rallyLaneState lane) = 3 ∧ u.obj (K.rallyLanePeer lane) = 0xFF ∧
        (s.upLanes = [lane] → s.rallyState ≠ rStandalone → s.rallyState ≠ rExcluded → u.rallyState = rLost)) (fun _ => True)) ∧
  (∀ (s : State) (t : Nat), s.held = false → s.rallyState = rHealing →
    let v := if s.upLanes = [] then rLost else rIsland
    Completes (.healingTimeout t) s (fun u => u.rallyState = v) (fun _ => True) ∧
    (s.safeAsk = 0 → s.upLanes ≠ [] ∨ s.obj K.timeSource ≠ 2 →
      Sets (.healingTimeout t) s [(K.rallyState, v), (K.rallyFlags, withBit (s.obj K.rallyFlags) 3 (v == rIsland))] (fun _ => True))) ∧
  (∀ (s : State) (t p : Nat), Awake s → p < 16 → s.mayStand = true → s.obj (K.pitchSource p) = 1 →
    isOn (s.obj (K.pitchStatus p)) = true → s.flowingPitches.contains p = true →
    Sets (.triggerTimeout t p) s [(K.deviceModeTarget, mHold)]
      (fun u => u.trans.motion = .toHold ∧ u.trans.holdCause = 2 ∧ u.trans.holdEncoder = 0xFF))
end

