-- ==== Sys2Proof/Laws/Sparse.lean ====
section
/-! SUPPORT. What a sparse map reads as after a write, and that writing keeps its canonical form. -/

set_option Elab.async false

namespace Sys2Proof.Laws

open Sys2Proof.Machine

variable {α : Type}

@[simp] theorem find_erase_self (m : List (Nat × α)) (q : Nat) : Sp.find (Sp.erase m q) q = none := by
  induction m with
  | nil => rfl
  | cons e m ih => obtain ⟨k, v⟩ := e; simp only [Sp.erase]; split <;> simp_all [Sp.find]

theorem find_erase_ne (m : List (Nat × α)) {p q : Nat} (h : p ≠ q) : Sp.find (Sp.erase m q) p = Sp.find m p := by
  induction m with
  | nil => rfl
  | cons e m ih =>
    obtain ⟨k, v⟩ := e
    simp only [Sp.erase, Sp.find]
    by_cases hk : k = q
    · subst hk; simp [ih, Ne.symm h]
    · simp [hk, Sp.find, ih]

@[simp] theorem find_insert_self (m : List (Nat × α)) (q : Nat) (x : α) : Sp.find (Sp.insert m q x) q = some x := by
  induction m with
  | nil => simp [Sp.insert, Sp.find]
  | cons e m ih =>
    obtain ⟨k, v⟩ := e
    simp only [Sp.insert]
    split
    · simp [Sp.find]
    · split
      · simp [Sp.find]
      · simp_all [Sp.find]

theorem find_insert_ne (m : List (Nat × α)) {p q : Nat} (x : α) (h : p ≠ q) :
    Sp.find (Sp.insert m q x) p = Sp.find m p := by
  induction m with
  | nil => simp [Sp.insert, Sp.find, Ne.symm h]
  | cons e m ih =>
    obtain ⟨k, v⟩ := e
    simp only [Sp.insert]
    split
    · simp [Sp.find, Ne.symm h]
    · split
      · rename_i hk; subst hk; simp [Sp.find, Ne.symm h]
      · simp [Sp.find, ih]

@[simp] theorem get_put_self [DecidableEq α] (d : Nat → α) (m : List (Nat × α)) (q : Nat) (x : α) : Sp.get d (Sp.put d m q x) q = x := by
  unfold Sp.get Sp.put; split <;> simp_all

theorem get_put_ne [DecidableEq α] (d : Nat → α) (m : List (Nat × α)) {p q : Nat} (x : α) (h : p ≠ q) :
    Sp.get d (Sp.put d m q x) p = Sp.get d m p := by
  unfold Sp.get Sp.put; split <;> simp [find_erase_ne, find_insert_ne, h]

/-- The first key of a map is above a bound. -/
def headAbove (b : Nat) (m : List (Nat × α)) : Prop := ∀ e ∈ m.head?, b < e.1

theorem rising_cons (k : Nat) (v : α) (m : List (Nat × α)) :
    Sp.rising ((k, v) :: m) = true ↔ headAbove k m ∧ Sp.rising m = true := by
  cases m with
  | nil => simp [Sp.rising, headAbove]
  | cons e m => obtain ⟨a, x⟩ := e; simp [Sp.rising, headAbove]

theorem head_erase (b : Nat) (m : List (Nat × α)) (q : Nat) (h : Sp.rising m = true) (hb : headAbove b m) :
    headAbove b (Sp.erase m q) := by
  induction m generalizing b with
  | nil => simp [Sp.erase, headAbove]
  | cons e m ih =>
    obtain ⟨k, v⟩ := e
    have hr := (rising_cons k v m).1 h
    have hk : b < k := hb (k, v) rfl
    simp only [Sp.erase]
    split
    · refine ih b hr.2 ?_
      intro e he; exact Nat.lt_trans hk (hr.1 e he)
    · simpa [headAbove] using hk

theorem rising_erase (m : List (Nat × α)) (q : Nat) (h : Sp.rising m = true) : Sp.rising (Sp.erase m q) = true := by
  induction m with
  | nil => rfl
  | cons e m ih =>
    obtain ⟨k, v⟩ := e
    have hr := (rising_cons k v m).1 h
    simp only [Sp.erase]
    split
    · exact ih hr.2
    · exact (rising_cons _ _ _).2 ⟨head_erase k m q hr.2 hr.1, ih hr.2⟩

theorem head_insert (b : Nat) (m : List (Nat × α)) (q : Nat) (x : α) (hq : b < q) (hb : headAbove b m) :
    headAbove b (Sp.insert m q x) := by
  cases m with
  | nil => simpa [Sp.insert, headAbove] using hq
  | cons e m =>
    obtain ⟨k, v⟩ := e
    have hk : b < k := hb (k, v) rfl
    simp only [Sp.insert]
    split
    · simpa [headAbove] using hq
    · split <;> simpa [headAbove]

theorem rising_insert (m : List (Nat × α)) (q : Nat) (x : α) (h : Sp.rising m = true) :
    Sp.rising (Sp.insert m q x) = true := by
  induction m with
  | nil => simp [Sp.insert, Sp.rising]
  | cons e m ih =>
    obtain ⟨k, v⟩ := e
    have hr := (rising_cons k v m).1 h
    simp only [Sp.insert]
    split
    · rename_i hlt
      exact (rising_cons _ _ _).2 ⟨by simpa [headAbove] using hlt, h⟩
    · split
      · rename_i hk; subst hk
        exact (rising_cons _ _ _).2 hr
      · exact (rising_cons _ _ _).2 ⟨head_insert k m q x (by omega) hr.1, ih hr.2⟩

theorem mem_erase (m : List (Nat × α)) (q : Nat) (e : Nat × α) (h : e ∈ Sp.erase m q) : e ∈ m := by
  induction m with
  | nil => simp [Sp.erase] at h
  | cons e' m ih =>
    obtain ⟨k, v⟩ := e'
    simp only [Sp.erase] at h
    split at h
    · exact List.mem_cons_of_mem _ (ih h)
    · rcases List.mem_cons.1 h with h | h
      · simp [h]
      · exact List.mem_cons_of_mem _ (ih h)

theorem mem_insert (m : List (Nat × α)) (q : Nat) (x : α) (e : Nat × α) (h : e ∈ Sp.insert m q x) : e = (q, x) ∨ e ∈ m := by
  induction m with
  | nil => simpa [Sp.insert] using h
  | cons e' m ih =>
    obtain ⟨k, v⟩ := e'
    simp only [Sp.insert] at h
    split at h
    · simpa using h
    · split at h
      · rcases List.mem_cons.1 h with h | h
        · exact .inl h
        · exact .inr (List.mem_cons_of_mem _ h)
      · rcases List.mem_cons.1 h with h | h
        · exact .inr (by simp [h])
        · rcases ih h with h | h
          · exact .inl h
          · exact .inr (List.mem_cons_of_mem _ h)

/-- A write keeps the canonical form. -/
theorem wf_put [DecidableEq α] (d : Nat → α) (m : List (Nat × α)) (q : Nat) (x : α) (h : Sp.wf d m = true) :
    Sp.wf d (Sp.put d m q x) = true := by
  simp only [Sp.wf, Bool.and_eq_true, List.all_eq_true, decide_eq_true_eq] at *
  unfold Sp.put
  split
  · exact ⟨rising_erase m q h.1, fun e he => h.2 e (mem_erase m q e he)⟩
  · rename_i hx
    refine ⟨rising_insert m q x h.1, fun e he => ?_⟩
    rcases mem_insert m q x e he with rfl | he
    · exact hx
    · exact h.2 e he

/-! ## A range replaced at once -/

theorem rising_iff (m : List (Nat × α)) : Sp.rising m = true ↔ m.Pairwise (fun x y => x.1 < y.1) := by
  induction m with
  | nil => simp [Sp.rising]
  | cons e m ih =>
    obtain ⟨k, v⟩ := e
    rw [rising_cons, ih, List.pairwise_cons]
    constructor
    · rintro ⟨h, g⟩
      refine ⟨fun e he => ?_, g⟩
      cases m with
      | nil => cases he
      | cons f m =>
        have hf := h f rfl
        rcases List.mem_cons.1 he with rfl | he
        · exact hf
        · exact Nat.lt_trans hf ((List.pairwise_cons.1 g).1 e he)
    · rintro ⟨h, g⟩
      exact ⟨fun e he => h e (List.mem_of_mem_head? he), g⟩

/-- The keys that a range replaced at once gives rise one by one. -/
theorem rising_zip (a : Nat) (xs : List α) : (((List.range xs.length).map (a + ·)).zip xs).Pairwise (fun x y => x.1 < y.1) := by
  rw [List.pairwise_iff_getElem]
  intro i j _ _ h
  simpa using h

theorem zip_key (a : Nat) (xs : List α) (e : Nat × α) (h : e ∈ ((List.range xs.length).map (a + ·)).zip xs) :
    a ≤ e.1 ∧ e.1 < a + xs.length := by
  have := (List.of_mem_zip h).1
  simp only [List.mem_map, List.mem_range] at this
  obtain ⟨i, hi, he⟩ := this
  omega

/-- Replacing a range keeps the canonical form. -/
theorem wf_splice [DecidableEq α] (d : Nat → α) (m : List (Nat × α)) (a n : Nat) (xs : List α) (h : Sp.wf d m = true) :
    Sp.wf d (Sp.splice d m a n xs) = true := by
  simp only [Sp.wf, Bool.and_eq_true, List.all_eq_true, decide_eq_true_eq, rising_iff] at *
  have hl : (xs.take n).length ≤ n := by simp only [List.length_take]; omega
  unfold Sp.splice
  refine ⟨?_, fun e he => ?_⟩
  · refine List.pairwise_append.2 ⟨List.pairwise_append.2 ⟨h.1.filter _, (rising_zip a _).filter _, ?_⟩, h.1.filter _, ?_⟩
    · intro x hx y hy
      have h1 := (List.mem_filter.1 hx).2
      have h2 := zip_key a _ y (List.mem_filter.1 hy).1
      simp only [decide_eq_true_eq] at h1
      omega
    · intro x hx y hy
      have h1 := (List.mem_filter.1 hy).2
      simp only [decide_eq_true_eq] at h1
      rcases List.mem_append.1 hx with hx | hx
      · have h2 := (List.mem_filter.1 hx).2
        simp only [decide_eq_true_eq] at h2
        omega
      · have h2 := zip_key a _ x (List.mem_filter.1 hx).1
        omega
  · simp only [List.mem_append, List.mem_filter, decide_eq_true_eq] at he
    rcases he with (he | he) | he
    · exact h.2 e he.1
    · exact he.2
    · exact h.2 e he.1

end Sys2Proof.Laws
end

