-- ==== Sys2Proof/Laws/State.lean ====
section
/-! SUPPORT. What each named update leaves alone: one lemma for each field of the state and each update, and the objects that updates
outside the dictionary keep. -/

namespace Sys2Proof.Laws

open Sys2Proof.Machine

/-! `poke` -/
@[simp] theorem poke_variant (s : State) (k v : Nat) : (s.poke k v).variant = s.variant := (rfl)
@[simp] theorem poke_clock (s : State) (k v : Nat) : (s.poke k v).clock = s.clock := (rfl)
@[simp] theorem poke_time (s : State) (k v : Nat) : (s.poke k v).time = s.time := (rfl)
@[simp] theorem poke_timeRem (s : State) (k v : Nat) : (s.poke k v).timeRem = s.timeRem := (rfl)
@[simp] theorem poke_inForce (s : State) (k v : Nat) : (s.poke k v).inForce = s.inForce := (rfl)
@[simp] theorem poke_blobs (s : State) (k v : Nat) : (s.poke k v).blobs = s.blobs := (rfl)
@[simp] theorem poke_writers (s : State) (k v : Nat) : (s.poke k v).writers = s.writers := (rfl)
@[simp] theorem poke_ports (s : State) (k v : Nat) : (s.poke k v).ports = s.ports := (rfl)
@[simp] theorem poke_transfers (s : State) (k v : Nat) : (s.poke k v).transfers = s.transfers := (rfl)
@[simp] theorem poke_silenced (s : State) (k v : Nat) : (s.poke k v).silenced = s.silenced := (rfl)
@[simp] theorem poke_subs (s : State) (k v : Nat) : (s.poke k v).subs = s.subs := (rfl)
@[simp] theorem poke_replays (s : State) (k v : Nat) : (s.poke k v).replays = s.replays := (rfl)
@[simp] theorem poke_ended (s : State) (k v : Nat) : (s.poke k v).ended = s.ended := (rfl)
@[simp] theorem poke_served (s : State) (k v : Nat) : (s.poke k v).served = s.served := (rfl)
@[simp] theorem poke_identity (s : State) (k v : Nat) : (s.poke k v).identity = s.identity := (rfl)
@[simp] theorem poke_quadEdge (s : State) (k v : Nat) : (s.poke k v).quadEdge = s.quadEdge := (rfl)
@[simp] theorem poke_trace (s : State) (k v : Nat) : (s.poke k v).trace = s.trace := (rfl)
@[simp] theorem poke_evLast (s : State) (k v : Nat) : (s.poke k v).evLast = s.evLast := (rfl)
@[simp] theorem poke_evOrd (s : State) (k v : Nat) : (s.poke k v).evOrd = s.evOrd := (rfl)
@[simp] theorem poke_changes (s : State) (k v : Nat) : (s.poke k v).changes = s.changes := (rfl)
@[simp] theorem poke_emitted (s : State) (k v : Nat) : (s.poke k v).emitted = s.emitted := (rfl)
@[simp] theorem poke_porLow (s : State) (k v : Nat) : (s.poke k v).porLow = s.porLow := (rfl)
@[simp] theorem poke_safeLow (s : State) (k v : Nat) : (s.poke k v).safeLow = s.safeLow := (rfl)
@[simp] theorem poke_strap (s : State) (k v : Nat) : (s.poke k v).strap = s.strap := (rfl)
@[simp] theorem poke_slotA (s : State) (k v : Nat) : (s.poke k v).slotA = s.slotA := (rfl)
@[simp] theorem poke_slotB (s : State) (k v : Nat) : (s.poke k v).slotB = s.slotB := (rfl)
@[simp] theorem poke_flashSelect (s : State) (k v : Nat) : (s.poke k v).flashSelect = s.flashSelect := (rfl)
@[simp] theorem poke_seqWords (s : State) (k v : Nat) : (s.poke k v).seqWords = s.seqWords := (rfl)
@[simp] theorem poke_boot (s : State) (k v : Nat) : (s.poke k v).boot = s.boot := (rfl)
@[simp] theorem poke_trans (s : State) (k v : Nat) : (s.poke k v).trans = s.trans := (rfl)
@[simp] theorem poke_halted (s : State) (k v : Nat) : (s.poke k v).halted = s.halted := (rfl)
@[simp] theorem poke_silent (s : State) (k v : Nat) : (s.poke k v).silent = s.silent := (rfl)
@[simp] theorem poke_mem (s : State) (k v : Nat) : (s.poke k v).mem = s.mem := (rfl)
@[simp] theorem poke_poison (s : State) (k v : Nat) : (s.poke k v).poison = s.poison := (rfl)
@[simp] theorem poke_corrections (s : State) (k v : Nat) : (s.poke k v).corrections = s.corrections := (rfl)
@[simp] theorem poke_retireQ (s : State) (k v : Nat) : (s.poke k v).retireQ = s.retireQ := (rfl)
@[simp] theorem poke_customMasks (s : State) (k v : Nat) : (s.poke k v).customMasks = s.customMasks := (rfl)
@[simp] theorem poke_pcs (s : State) (k v : Nat) : (s.poke k v).pcs = s.pcs := (rfl)
@[simp] theorem poke_safeAsk (s : State) (k v : Nat) : (s.poke k v).safeAsk = s.safeAsk := (rfl)
@[simp] theorem poke_ctxs (s : State) (k v : Nat) : (s.poke k v).ctxs = s.ctxs := (rfl)
@[simp] theorem poke_tiles (s : State) (k v : Nat) : (s.poke k v).tiles = s.tiles := (rfl)
@[simp] theorem poke_mons (s : State) (k v : Nat) : (s.poke k v).mons = s.mons := (rfl)
@[simp] theorem poke_chains (s : State) (k v : Nat) : (s.poke k v).chains = s.chains := (rfl)
@[simp] theorem poke_encs (s : State) (k v : Nat) : (s.poke k v).encs = s.encs := (rfl)
@[simp] theorem poke_pitches (s : State) (k v : Nat) : (s.poke k v).pitches = s.pitches := (rfl)
@[simp] theorem poke_feTurn (s : State) (k v : Nat) : (s.poke k v).feTurn = s.feTurn := (rfl)
@[simp] theorem poke_coarse (s : State) (k v : Nat) : (s.poke k v).coarse = s.coarse := (rfl)
@[simp] theorem poke_lockRuns (s : State) (k v : Nat) : (s.poke k v).lockRuns = s.lockRuns := (rfl)
@[simp] theorem poke_refLost (s : State) (k v : Nat) : (s.poke k v).refLost = s.refLost := (rfl)
@[simp] theorem poke_untested (s : State) (k v : Nat) : (s.poke k v).untested = s.untested := (rfl)
@[simp] theorem poke_boardNext (s : State) (k v : Nat) : (s.poke k v).boardNext = s.boardNext := (rfl)
@[simp] theorem poke_boardWas (s : State) (k v : Nat) : (s.poke k v).boardWas = s.boardWas := (rfl)
@[simp] theorem poke_plan (s : State) (k v : Nat) : (s.poke k v).plan = s.plan := (rfl)
@[simp] theorem poke_placeDirty (s : State) (k v : Nat) : (s.poke k v).placeDirty = s.placeDirty := (rfl)
@[simp] theorem poke_trial (s : State) (k v : Nat) : (s.poke k v).trial = s.trial := (rfl)
@[simp] theorem poke_defects (s : State) (k v : Nat) : (s.poke k v).defects = s.defects := (rfl)
@[simp] theorem poke_swaps (s : State) (k v : Nat) : (s.poke k v).swaps = s.swaps := (rfl)
@[simp] theorem poke_moves (s : State) (k v : Nat) : (s.poke k v).moves = s.moves := (rfl)
@[simp] theorem poke_invarBad (s : State) (k v : Nat) : (s.poke k v).invarBad = s.invarBad := (rfl)
@[simp] theorem poke_invarGood (s : State) (k v : Nat) : (s.poke k v).invarGood = s.invarGood := (rfl)
@[simp] theorem poke_pinLevels (s : State) (k v : Nat) : (s.poke k v).pinLevels = s.pinLevels := (rfl)
@[simp] theorem poke_cadenceBad (s : State) (k v : Nat) : (s.poke k v).cadenceBad = s.cadenceBad := (rfl)
@[simp] theorem poke_rally (s : State) (k v : Nat) : (s.poke k v).rally = s.rally := (rfl)
@[simp] theorem poke_whistleUntil (s : State) (k v : Nat) : (s.poke k v).whistleUntil = s.whistleUntil := (rfl)
@[simp] theorem poke_bs (s : State) (k v : Nat) : (s.poke k v).bs = s.bs := (rfl)
@[simp] theorem poke_wires (s : State) (k v : Nat) : (s.poke k v).wires = s.wires := (rfl)
@[simp] theorem poke_fabs (s : State) (k v : Nat) : (s.poke k v).fabs = s.fabs := (rfl)
@[simp] theorem poke_nets (s : State) (k v : Nat) : (s.poke k v).nets = s.nets := (rfl)
@[simp] theorem poke_samples (s : State) (k v : Nat) : (s.poke k v).samples = s.samples := (rfl)
@[simp] theorem poke_frames (s : State) (k v : Nat) : (s.poke k v).frames = s.frames := (rfl)
@[simp] theorem poke_reload (s : State) (k v : Nat) : (s.poke k v).reload = s.reload := (rfl)
@[simp] theorem poke_scrub (s : State) (k v : Nat) : (s.poke k v).scrub = s.scrub := (rfl)
@[simp] theorem poke_dacs (s : State) (k v : Nat) : (s.poke k v).dacs = s.dacs := (rfl)
@[simp] theorem poke_strobes (s : State) (k v : Nat) : (s.poke k v).strobes = s.strobes := (rfl)
@[simp] theorem poke_lanes (s : State) (k v : Nat) : (s.poke k v).lanes = s.lanes := (rfl)
@[simp] theorem poke_exports (s : State) (k v : Nat) : (s.poke k v).exports = s.exports := (rfl)
@[simp] theorem poke_peers (s : State) (k v : Nat) : (s.poke k v).peers = s.peers := (rfl)
@[simp] theorem poke_pins (s : State) (k v : Nat) : (s.poke k v).pins = s.pins := (rfl)
@[simp] theorem poke_pats (s : State) (k v : Nat) : (s.poke k v).pats = s.pats := (rfl)
@[simp] theorem poke_copying (s : State) (k v : Nat) : (s.poke k v).copying = s.copying := (rfl)
@[simp] theorem poke_railsLow (s : State) (k v : Nat) : (s.poke k v).railsLow = s.railsLow := (rfl)
@[simp] theorem poke_freeCount (s : State) (k v : Nat) : (s.poke k v).freeCount = s.freeCount := (rfl)
@[simp] theorem poke_pending (s : State) (k v : Nat) : (s.poke k v).pending = s.pending := (rfl)

/-! `record` -/
@[simp] theorem record_variant (s : State) (k c p : Nat) : (s.record k c p).variant = s.variant := (rfl)
@[simp] theorem record_clock (s : State) (k c p : Nat) : (s.record k c p).clock = s.clock := (rfl)
@[simp] theorem record_time (s : State) (k c p : Nat) : (s.record k c p).time = s.time := (rfl)
@[simp] theorem record_timeRem (s : State) (k c p : Nat) : (s.record k c p).timeRem = s.timeRem := (rfl)
@[simp] theorem record_dict (s : State) (k c p : Nat) : (s.record k c p).dict = s.dict := (rfl)
@[simp] theorem record_inForce (s : State) (k c p : Nat) : (s.record k c p).inForce = s.inForce := (rfl)
@[simp] theorem record_blobs (s : State) (k c p : Nat) : (s.record k c p).blobs = s.blobs := (rfl)
@[simp] theorem record_ports (s : State) (k c p : Nat) : (s.record k c p).ports = s.ports := (rfl)
@[simp] theorem record_transfers (s : State) (k c p : Nat) : (s.record k c p).transfers = s.transfers := (rfl)
@[simp] theorem record_silenced (s : State) (k c p : Nat) : (s.record k c p).silenced = s.silenced := (rfl)
@[simp] theorem record_subs (s : State) (k c p : Nat) : (s.record k c p).subs = s.subs := (rfl)
@[simp] theorem record_replays (s : State) (k c p : Nat) : (s.record k c p).replays = s.replays := (rfl)
@[simp] theorem record_ended (s : State) (k c p : Nat) : (s.record k c p).ended = s.ended := (rfl)
@[simp] theorem record_served (s : State) (k c p : Nat) : (s.record k c p).served = s.served := (rfl)
@[simp] theorem record_identity (s : State) (k c p : Nat) : (s.record k c p).identity = s.identity := (rfl)
@[simp] theorem record_quadEdge (s : State) (k c p : Nat) : (s.record k c p).quadEdge = s.quadEdge := (rfl)
@[simp] theorem record_trace (s : State) (k c p : Nat) : (s.record k c p).trace = s.trace := (rfl)
@[simp] theorem record_evLast (s : State) (k c p : Nat) : (s.record k c p).evLast = s.evLast := (rfl)
@[simp] theorem record_evOrd (s : State) (k c p : Nat) : (s.record k c p).evOrd = s.evOrd := (rfl)
@[simp] theorem record_changes (s : State) (k c p : Nat) : (s.record k c p).changes = s.changes := (rfl)
@[simp] theorem record_emitted (s : State) (k c p : Nat) : (s.record k c p).emitted = s.emitted := (rfl)
@[simp] theorem record_porLow (s : State) (k c p : Nat) : (s.record k c p).porLow = s.porLow := (rfl)
@[simp] theorem record_safeLow (s : State) (k c p : Nat) : (s.record k c p).safeLow = s.safeLow := (rfl)
@[simp] theorem record_strap (s : State) (k c p : Nat) : (s.record k c p).strap = s.strap := (rfl)
@[simp] theorem record_slotA (s : State) (k c p : Nat) : (s.record k c p).slotA = s.slotA := (rfl)
@[simp] theorem record_slotB (s : State) (k c p : Nat) : (s.record k c p).slotB = s.slotB := (rfl)
@[simp] theorem record_flashSelect (s : State) (k c p : Nat) : (s.record k c p).flashSelect = s.flashSelect := (rfl)
@[simp] theorem record_seqWords (s : State) (k c p : Nat) : (s.record k c p).seqWords = s.seqWords := (rfl)
@[simp] theorem record_boot (s : State) (k c p : Nat) : (s.record k c p).boot = s.boot := (rfl)
@[simp] theorem record_trans (s : State) (k c p : Nat) : (s.record k c p).trans = s.trans := (rfl)
@[simp] theorem record_halted (s : State) (k c p : Nat) : (s.record k c p).halted = s.halted := (rfl)
@[simp] theorem record_silent (s : State) (k c p : Nat) : (s.record k c p).silent = s.silent := (rfl)
@[simp] theorem record_mem (s : State) (k c p : Nat) : (s.record k c p).mem = s.mem := (rfl)
@[simp] theorem record_poison (s : State) (k c p : Nat) : (s.record k c p).poison = s.poison := (rfl)
@[simp] theorem record_corrections (s : State) (k c p : Nat) : (s.record k c p).corrections = s.corrections := (rfl)
@[simp] theorem record_retireQ (s : State) (k c p : Nat) : (s.record k c p).retireQ = s.retireQ := (rfl)
@[simp] theorem record_customMasks (s : State) (k c p : Nat) : (s.record k c p).customMasks = s.customMasks := (rfl)
@[simp] theorem record_pcs (s : State) (k c p : Nat) : (s.record k c p).pcs = s.pcs := (rfl)
@[simp] theorem record_safeAsk (s : State) (k c p : Nat) : (s.record k c p).safeAsk = s.safeAsk := (rfl)
@[simp] theorem record_ctxs (s : State) (k c p : Nat) : (s.record k c p).ctxs = s.ctxs := (rfl)
@[simp] theorem record_tiles (s : State) (k c p : Nat) : (s.record k c p).tiles = s.tiles := (rfl)
@[simp] theorem record_mons (s : State) (k c p : Nat) : (s.record k c p).mons = s.mons := (rfl)
@[simp] theorem record_chains (s : State) (k c p : Nat) : (s.record k c p).chains = s.chains := (rfl)
@[simp] theorem record_encs (s : State) (k c p : Nat) : (s.record k c p).encs = s.encs := (rfl)
@[simp] theorem record_pitches (s : State) (k c p : Nat) : (s.record k c p).pitches = s.pitches := (rfl)
@[simp] theorem record_feTurn (s : State) (k c p : Nat) : (s.record k c p).feTurn = s.feTurn := (rfl)
@[simp] theorem record_coarse (s : State) (k c p : Nat) : (s.record k c p).coarse = s.coarse := (rfl)
@[simp] theorem record_lockRuns (s : State) (k c p : Nat) : (s.record k c p).lockRuns = s.lockRuns := (rfl)
@[simp] theorem record_refLost (s : State) (k c p : Nat) : (s.record k c p).refLost = s.refLost := (rfl)
@[simp] theorem record_untested (s : State) (k c p : Nat) : (s.record k c p).untested = s.untested := (rfl)
@[simp] theorem record_boardNext (s : State) (k c p : Nat) : (s.record k c p).boardNext = s.boardNext := (rfl)
@[simp] theorem record_boardWas (s : State) (k c p : Nat) : (s.record k c p).boardWas = s.boardWas := (rfl)
@[simp] theorem record_plan (s : State) (k c p : Nat) : (s.record k c p).plan = s.plan := (rfl)
@[simp] theorem record_placeDirty (s : State) (k c p : Nat) : (s.record k c p).placeDirty = s.placeDirty := (rfl)
@[simp] theorem record_trial (s : State) (k c p : Nat) : (s.record k c p).trial = s.trial := (rfl)
@[simp] theorem record_defects (s : State) (k c p : Nat) : (s.record k c p).defects = s.defects := (rfl)
@[simp] theorem record_swaps (s : State) (k c p : Nat) : (s.record k c p).swaps = s.swaps := (rfl)
@[simp] theorem record_moves (s : State) (k c p : Nat) : (s.record k c p).moves = s.moves := (rfl)
@[simp] theorem record_invarBad (s : State) (k c p : Nat) : (s.record k c p).invarBad = s.invarBad := (rfl)
@[simp] theorem record_invarGood (s : State) (k c p : Nat) : (s.record k c p).invarGood = s.invarGood := (rfl)
@[simp] theorem record_pinLevels (s : State) (k c p : Nat) : (s.record k c p).pinLevels = s.pinLevels := (rfl)
@[simp] theorem record_cadenceBad (s : State) (k c p : Nat) : (s.record k c p).cadenceBad = s.cadenceBad := (rfl)
@[simp] theorem record_rally (s : State) (k c p : Nat) : (s.record k c p).rally = s.rally := (rfl)
@[simp] theorem record_whistleUntil (s : State) (k c p : Nat) : (s.record k c p).whistleUntil = s.whistleUntil := (rfl)
@[simp] theorem record_bs (s : State) (k c p : Nat) : (s.record k c p).bs = s.bs := (rfl)
@[simp] theorem record_wires (s : State) (k c p : Nat) : (s.record k c p).wires = s.wires := (rfl)
@[simp] theorem record_fabs (s : State) (k c p : Nat) : (s.record k c p).fabs = s.fabs := (rfl)
@[simp] theorem record_nets (s : State) (k c p : Nat) : (s.record k c p).nets = s.nets := (rfl)
@[simp] theorem record_samples (s : State) (k c p : Nat) : (s.record k c p).samples = s.samples := (rfl)
@[simp] theorem record_frames (s : State) (k c p : Nat) : (s.record k c p).frames = s.frames := (rfl)
@[simp] theorem record_reload (s : State) (k c p : Nat) : (s.record k c p).reload = s.reload := (rfl)
@[simp] theorem record_scrub (s : State) (k c p : Nat) : (s.record k c p).scrub = s.scrub := (rfl)
@[simp] theorem record_dacs (s : State) (k c p : Nat) : (s.record k c p).dacs = s.dacs := (rfl)
@[simp] theorem record_strobes (s : State) (k c p : Nat) : (s.record k c p).strobes = s.strobes := (rfl)
@[simp] theorem record_lanes (s : State) (k c p : Nat) : (s.record k c p).lanes = s.lanes := (rfl)
@[simp] theorem record_exports (s : State) (k c p : Nat) : (s.record k c p).exports = s.exports := (rfl)
@[simp] theorem record_peers (s : State) (k c p : Nat) : (s.record k c p).peers = s.peers := (rfl)
@[simp] theorem record_pins (s : State) (k c p : Nat) : (s.record k c p).pins = s.pins := (rfl)
@[simp] theorem record_pats (s : State) (k c p : Nat) : (s.record k c p).pats = s.pats := (rfl)
@[simp] theorem record_copying (s : State) (k c p : Nat) : (s.record k c p).copying = s.copying := (rfl)
@[simp] theorem record_railsLow (s : State) (k c p : Nat) : (s.record k c p).railsLow = s.railsLow := (rfl)
@[simp] theorem record_freeCount (s : State) (k c p : Nat) : (s.record k c p).freeCount = s.freeCount := (rfl)
@[simp] theorem record_pending (s : State) (k c p : Nat) : (s.record k c p).pending = s.pending := (rfl)
@[simp] theorem record_obj (s : State) (k c p : Nat) (i : Nat) : (s.record k c p).obj i = s.obj i := (rfl)

/-! `set` -/
@[simp] theorem set_variant (s : State) (k v : Nat) : (s.set k v).variant = s.variant := (rfl)
@[simp] theorem set_clock (s : State) (k v : Nat) : (s.set k v).clock = s.clock := (rfl)
@[simp] theorem set_time (s : State) (k v : Nat) : (s.set k v).time = s.time := (rfl)
@[simp] theorem set_timeRem (s : State) (k v : Nat) : (s.set k v).timeRem = s.timeRem := (rfl)
@[simp] theorem set_inForce (s : State) (k v : Nat) : (s.set k v).inForce = s.inForce := (rfl)
@[simp] theorem set_blobs (s : State) (k v : Nat) : (s.set k v).blobs = s.blobs := (rfl)
@[simp] theorem set_ports (s : State) (k v : Nat) : (s.set k v).ports = s.ports := (rfl)
@[simp] theorem set_transfers (s : State) (k v : Nat) : (s.set k v).transfers = s.transfers := (rfl)
@[simp] theorem set_silenced (s : State) (k v : Nat) : (s.set k v).silenced = s.silenced := (rfl)
@[simp] theorem set_subs (s : State) (k v : Nat) : (s.set k v).subs = s.subs := (rfl)
@[simp] theorem set_replays (s : State) (k v : Nat) : (s.set k v).replays = s.replays := (rfl)
@[simp] theorem set_ended (s : State) (k v : Nat) : (s.set k v).ended = s.ended := (rfl)
@[simp] theorem set_served (s : State) (k v : Nat) : (s.set k v).served = s.served := (rfl)
@[simp] theorem set_identity (s : State) (k v : Nat) : (s.set k v).identity = s.identity := (rfl)
@[simp] theorem set_quadEdge (s : State) (k v : Nat) : (s.set k v).quadEdge = s.quadEdge := (rfl)
@[simp] theorem set_trace (s : State) (k v : Nat) : (s.set k v).trace = s.trace := (rfl)
@[simp] theorem set_evLast (s : State) (k v : Nat) : (s.set k v).evLast = s.evLast := (rfl)
@[simp] theorem set_evOrd (s : State) (k v : Nat) : (s.set k v).evOrd = s.evOrd := (rfl)
@[simp] theorem set_changes (s : State) (k v : Nat) : (s.set k v).changes = s.changes := (rfl)
@[simp] theorem set_emitted (s : State) (k v : Nat) : (s.set k v).emitted = s.emitted := (rfl)
@[simp] theorem set_porLow (s : State) (k v : Nat) : (s.set k v).porLow = s.porLow := (rfl)
@[simp] theorem set_safeLow (s : State) (k v : Nat) : (s.set k v).safeLow = s.safeLow := (rfl)
@[simp] theorem set_strap (s : State) (k v : Nat) : (s.set k v).strap = s.strap := (rfl)
@[simp] theorem set_slotA (s : State) (k v : Nat) : (s.set k v).slotA = s.slotA := (rfl)
@[simp] theorem set_slotB (s : State) (k v : Nat) : (s.set k v).slotB = s.slotB := (rfl)
@[simp] theorem set_flashSelect (s : State) (k v : Nat) : (s.set k v).flashSelect = s.flashSelect := (rfl)
@[simp] theorem set_seqWords (s : State) (k v : Nat) : (s.set k v).seqWords = s.seqWords := (rfl)
@[simp] theorem set_boot (s : State) (k v : Nat) : (s.set k v).boot = s.boot := (rfl)
@[simp] theorem set_trans (s : State) (k v : Nat) : (s.set k v).trans = s.trans := (rfl)
@[simp] theorem set_halted (s : State) (k v : Nat) : (s.set k v).halted = s.halted := (rfl)
@[simp] theorem set_silent (s : State) (k v : Nat) : (s.set k v).silent = s.silent := (rfl)
@[simp] theorem set_mem (s : State) (k v : Nat) : (s.set k v).mem = s.mem := (rfl)
@[simp] theorem set_poison (s : State) (k v : Nat) : (s.set k v).poison = s.poison := (rfl)
@[simp] theorem set_corrections (s : State) (k v : Nat) : (s.set k v).corrections = s.corrections := (rfl)
@[simp] theorem set_retireQ (s : State) (k v : Nat) : (s.set k v).retireQ = s.retireQ := (rfl)
@[simp] theorem set_customMasks (s : State) (k v : Nat) : (s.set k v).customMasks = s.customMasks := (rfl)
@[simp] theorem set_pcs (s : State) (k v : Nat) : (s.set k v).pcs = s.pcs := (rfl)
@[simp] theorem set_safeAsk (s : State) (k v : Nat) : (s.set k v).safeAsk = s.safeAsk := (rfl)
@[simp] theorem set_ctxs (s : State) (k v : Nat) : (s.set k v).ctxs = s.ctxs := (rfl)
@[simp] theorem set_tiles (s : State) (k v : Nat) : (s.set k v).tiles = s.tiles := (rfl)
@[simp] theorem set_mons (s : State) (k v : Nat) : (s.set k v).mons = s.mons := (rfl)
@[simp] theorem set_chains (s : State) (k v : Nat) : (s.set k v).chains = s.chains := (rfl)
@[simp] theorem set_encs (s : State) (k v : Nat) : (s.set k v).encs = s.encs := (rfl)
@[simp] theorem set_pitches (s : State) (k v : Nat) : (s.set k v).pitches = s.pitches := (rfl)
@[simp] theorem set_feTurn (s : State) (k v : Nat) : (s.set k v).feTurn = s.feTurn := (rfl)
@[simp] theorem set_coarse (s : State) (k v : Nat) : (s.set k v).coarse = s.coarse := (rfl)
@[simp] theorem set_lockRuns (s : State) (k v : Nat) : (s.set k v).lockRuns = s.lockRuns := (rfl)
@[simp] theorem set_refLost (s : State) (k v : Nat) : (s.set k v).refLost = s.refLost := (rfl)
@[simp] theorem set_untested (s : State) (k v : Nat) : (s.set k v).untested = s.untested := (rfl)
@[simp] theorem set_boardNext (s : State) (k v : Nat) : (s.set k v).boardNext = s.boardNext := (rfl)
@[simp] theorem set_boardWas (s : State) (k v : Nat) : (s.set k v).boardWas = s.boardWas := (rfl)
@[simp] theorem set_plan (s : State) (k v : Nat) : (s.set k v).plan = s.plan := (rfl)
@[simp] theorem set_placeDirty (s : State) (k v : Nat) : (s.set k v).placeDirty = s.placeDirty := (rfl)
@[simp] theorem set_trial (s : State) (k v : Nat) : (s.set k v).trial = s.trial := (rfl)
@[simp] theorem set_defects (s : State) (k v : Nat) : (s.set k v).defects = s.defects := (rfl)
@[simp] theorem set_swaps (s : State) (k v : Nat) : (s.set k v).swaps = s.swaps := (rfl)
@[simp] theorem set_moves (s : State) (k v : Nat) : (s.set k v).moves = s.moves := (rfl)
@[simp] theorem set_invarBad (s : State) (k v : Nat) : (s.set k v).invarBad = s.invarBad := (rfl)
@[simp] theorem set_invarGood (s : State) (k v : Nat) : (s.set k v).invarGood = s.invarGood := (rfl)
@[simp] theorem set_pinLevels (s : State) (k v : Nat) : (s.set k v).pinLevels = s.pinLevels := (rfl)
@[simp] theorem set_cadenceBad (s : State) (k v : Nat) : (s.set k v).cadenceBad = s.cadenceBad := (rfl)
@[simp] theorem set_rally (s : State) (k v : Nat) : (s.set k v).rally = s.rally := (rfl)
@[simp] theorem set_whistleUntil (s : State) (k v : Nat) : (s.set k v).whistleUntil = s.whistleUntil := (rfl)
@[simp] theorem set_bs (s : State) (k v : Nat) : (s.set k v).bs = s.bs := (rfl)
@[simp] theorem set_wires (s : State) (k v : Nat) : (s.set k v).wires = s.wires := (rfl)
@[simp] theorem set_fabs (s : State) (k v : Nat) : (s.set k v).fabs = s.fabs := (rfl)
@[simp] theorem set_nets (s : State) (k v : Nat) : (s.set k v).nets = s.nets := (rfl)
@[simp] theorem set_samples (s : State) (k v : Nat) : (s.set k v).samples = s.samples := (rfl)
@[simp] theorem set_frames (s : State) (k v : Nat) : (s.set k v).frames = s.frames := (rfl)
@[simp] theorem set_reload (s : State) (k v : Nat) : (s.set k v).reload = s.reload := (rfl)
@[simp] theorem set_scrub (s : State) (k v : Nat) : (s.set k v).scrub = s.scrub := (rfl)
@[simp] theorem set_dacs (s : State) (k v : Nat) : (s.set k v).dacs = s.dacs := (rfl)
@[simp] theorem set_strobes (s : State) (k v : Nat) : (s.set k v).strobes = s.strobes := (rfl)
@[simp] theorem set_lanes (s : State) (k v : Nat) : (s.set k v).lanes = s.lanes := (rfl)
@[simp] theorem set_exports (s : State) (k v : Nat) : (s.set k v).exports = s.exports := (rfl)
@[simp] theorem set_peers (s : State) (k v : Nat) : (s.set k v).peers = s.peers := (rfl)
@[simp] theorem set_pins (s : State) (k v : Nat) : (s.set k v).pins = s.pins := (rfl)
@[simp] theorem set_pats (s : State) (k v : Nat) : (s.set k v).pats = s.pats := (rfl)
@[simp] theorem set_copying (s : State) (k v : Nat) : (s.set k v).copying = s.copying := (rfl)
@[simp] theorem set_railsLow (s : State) (k v : Nat) : (s.set k v).railsLow = s.railsLow := (rfl)
@[simp] theorem set_freeCount (s : State) (k v : Nat) : (s.set k v).freeCount = s.freeCount := (rfl)
@[simp] theorem set_pending (s : State) (k v : Nat) : (s.set k v).pending = s.pending := (rfl)

/-! `count` -/
@[simp] theorem count_variant (s : State) (k w n : Nat) : (s.count k w n).variant = s.variant := (rfl)
@[simp] theorem count_clock (s : State) (k w n : Nat) : (s.count k w n).clock = s.clock := (rfl)
@[simp] theorem count_time (s : State) (k w n : Nat) : (s.count k w n).time = s.time := (rfl)
@[simp] theorem count_timeRem (s : State) (k w n : Nat) : (s.count k w n).timeRem = s.timeRem := (rfl)
@[simp] theorem count_inForce (s : State) (k w n : Nat) : (s.count k w n).inForce = s.inForce := (rfl)
@[simp] theorem count_blobs (s : State) (k w n : Nat) : (s.count k w n).blobs = s.blobs := (rfl)
@[simp] theorem count_ports (s : State) (k w n : Nat) : (s.count k w n).ports = s.ports := (rfl)
@[simp] theorem count_transfers (s : State) (k w n : Nat) : (s.count k w n).transfers = s.transfers := (rfl)
@[simp] theorem count_silenced (s : State) (k w n : Nat) : (s.count k w n).silenced = s.silenced := (rfl)
@[simp] theorem count_subs (s : State) (k w n : Nat) : (s.count k w n).subs = s.subs := (rfl)
@[simp] theorem count_replays (s : State) (k w n : Nat) : (s.count k w n).replays = s.replays := (rfl)
@[simp] theorem count_ended (s : State) (k w n : Nat) : (s.count k w n).ended = s.ended := (rfl)
@[simp] theorem count_served (s : State) (k w n : Nat) : (s.count k w n).served = s.served := (rfl)
@[simp] theorem count_identity (s : State) (k w n : Nat) : (s.count k w n).identity = s.identity := (rfl)
@[simp] theorem count_quadEdge (s : State) (k w n : Nat) : (s.count k w n).quadEdge = s.quadEdge := (rfl)
@[simp] theorem count_trace (s : State) (k w n : Nat) : (s.count k w n).trace = s.trace := (rfl)
@[simp] theorem count_evLast (s : State) (k w n : Nat) : (s.count k w n).evLast = s.evLast := (rfl)
@[simp] theorem count_evOrd (s : State) (k w n : Nat) : (s.count k w n).evOrd = s.evOrd := (rfl)
@[simp] theorem count_changes (s : State) (k w n : Nat) : (s.count k w n).changes = s.changes := (rfl)
@[simp] theorem count_emitted (s : State) (k w n : Nat) : (s.count k w n).emitted = s.emitted := (rfl)
@[simp] theorem count_porLow (s : State) (k w n : Nat) : (s.count k w n).porLow = s.porLow := (rfl)
@[simp] theorem count_safeLow (s : State) (k w n : Nat) : (s.count k w n).safeLow = s.safeLow := (rfl)
@[simp] theorem count_strap (s : State) (k w n : Nat) : (s.count k w n).strap = s.strap := (rfl)
@[simp] theorem count_slotA (s : State) (k w n : Nat) : (s.count k w n).slotA = s.slotA := (rfl)
@[simp] theorem count_slotB (s : State) (k w n : Nat) : (s.count k w n).slotB = s.slotB := (rfl)
@[simp] theorem count_flashSelect (s : State) (k w n : Nat) : (s.count k w n).flashSelect = s.flashSelect := (rfl)
@[simp] theorem count_seqWords (s : State) (k w n : Nat) : (s.count k w n).seqWords = s.seqWords := (rfl)
@[simp] theorem count_boot (s : State) (k w n : Nat) : (s.count k w n).boot = s.boot := (rfl)
@[simp] theorem count_trans (s : State) (k w n : Nat) : (s.count k w n).trans = s.trans := (rfl)
@[simp] theorem count_halted (s : State) (k w n : Nat) : (s.count k w n).halted = s.halted := (rfl)
@[simp] theorem count_silent (s : State) (k w n : Nat) : (s.count k w n).silent = s.silent := (rfl)
@[simp] theorem count_mem (s : State) (k w n : Nat) : (s.count k w n).mem = s.mem := (rfl)
@[simp] theorem count_poison (s : State) (k w n : Nat) : (s.count k w n).poison = s.poison := (rfl)
@[simp] theorem count_corrections (s : State) (k w n : Nat) : (s.count k w n).corrections = s.corrections := (rfl)
@[simp] theorem count_retireQ (s : State) (k w n : Nat) : (s.count k w n).retireQ = s.retireQ := (rfl)
@[simp] theorem count_customMasks (s : State) (k w n : Nat) : (s.count k w n).customMasks = s.customMasks := (rfl)
@[simp] theorem count_pcs (s : State) (k w n : Nat) : (s.count k w n).pcs = s.pcs := (rfl)
@[simp] theorem count_safeAsk (s : State) (k w n : Nat) : (s.count k w n).safeAsk = s.safeAsk := (rfl)
@[simp] theorem count_ctxs (s : State) (k w n : Nat) : (s.count k w n).ctxs = s.ctxs := (rfl)
@[simp] theorem count_tiles (s : State) (k w n : Nat) : (s.count k w n).tiles = s.tiles := (rfl)
@[simp] theorem count_mons (s : State) (k w n : Nat) : (s.count k w n).mons = s.mons := (rfl)
@[simp] theorem count_chains (s : State) (k w n : Nat) : (s.count k w n).chains = s.chains := (rfl)
@[simp] theorem count_encs (s : State) (k w n : Nat) : (s.count k w n).encs = s.encs := (rfl)
@[simp] theorem count_pitches (s : State) (k w n : Nat) : (s.count k w n).pitches = s.pitches := (rfl)
@[simp] theorem count_feTurn (s : State) (k w n : Nat) : (s.count k w n).feTurn = s.feTurn := (rfl)
@[simp] theorem count_coarse (s : State) (k w n : Nat) : (s.count k w n).coarse = s.coarse := (rfl)
@[simp] theorem count_lockRuns (s : State) (k w n : Nat) : (s.count k w n).lockRuns = s.lockRuns := (rfl)
@[simp] theorem count_refLost (s : State) (k w n : Nat) : (s.count k w n).refLost = s.refLost := (rfl)
@[simp] theorem count_untested (s : State) (k w n : Nat) : (s.count k w n).untested = s.untested := (rfl)
@[simp] theorem count_boardNext (s : State) (k w n : Nat) : (s.count k w n).boardNext = s.boardNext := (rfl)
@[simp] theorem count_boardWas (s : State) (k w n : Nat) : (s.count k w n).boardWas = s.boardWas := (rfl)
@[simp] theorem count_plan (s : State) (k w n : Nat) : (s.count k w n).plan = s.plan := (rfl)
@[simp] theorem count_placeDirty (s : State) (k w n : Nat) : (s.count k w n).placeDirty = s.placeDirty := (rfl)
@[simp] theorem count_trial (s : State) (k w n : Nat) : (s.count k w n).trial = s.trial := (rfl)
@[simp] theorem count_defects (s : State) (k w n : Nat) : (s.count k w n).defects = s.defects := (rfl)
@[simp] theorem count_swaps (s : State) (k w n : Nat) : (s.count k w n).swaps = s.swaps := (rfl)
@[simp] theorem count_moves (s : State) (k w n : Nat) : (s.count k w n).moves = s.moves := (rfl)
@[simp] theorem count_invarBad (s : State) (k w n : Nat) : (s.count k w n).invarBad = s.invarBad := (rfl)
@[simp] theorem count_invarGood (s : State) (k w n : Nat) : (s.count k w n).invarGood = s.invarGood := (rfl)
@[simp] theorem count_pinLevels (s : State) (k w n : Nat) : (s.count k w n).pinLevels = s.pinLevels := (rfl)
@[simp] theorem count_cadenceBad (s : State) (k w n : Nat) : (s.count k w n).cadenceBad = s.cadenceBad := (rfl)
@[simp] theorem count_rally (s : State) (k w n : Nat) : (s.count k w n).rally = s.rally := (rfl)
@[simp] theorem count_whistleUntil (s : State) (k w n : Nat) : (s.count k w n).whistleUntil = s.whistleUntil := (rfl)
@[simp] theorem count_bs (s : State) (k w n : Nat) : (s.count k w n).bs = s.bs := (rfl)
@[simp] theorem count_wires (s : State) (k w n : Nat) : (s.count k w n).wires = s.wires := (rfl)
@[simp] theorem count_fabs (s : State) (k w n : Nat) : (s.count k w n).fabs = s.fabs := (rfl)
@[simp] theorem count_nets (s : State) (k w n : Nat) : (s.count k w n).nets = s.nets := (rfl)
@[simp] theorem count_samples (s : State) (k w n : Nat) : (s.count k w n).samples = s.samples := (rfl)
@[simp] theorem count_frames (s : State) (k w n : Nat) : (s.count k w n).frames = s.frames := (rfl)
@[simp] theorem count_reload (s : State) (k w n : Nat) : (s.count k w n).reload = s.reload := (rfl)
@[simp] theorem count_scrub (s : State) (k w n : Nat) : (s.count k w n).scrub = s.scrub := (rfl)
@[simp] theorem count_dacs (s : State) (k w n : Nat) : (s.count k w n).dacs = s.dacs := (rfl)
@[simp] theorem count_strobes (s : State) (k w n : Nat) : (s.count k w n).strobes = s.strobes := (rfl)
@[simp] theorem count_lanes (s : State) (k w n : Nat) : (s.count k w n).lanes = s.lanes := (rfl)
@[simp] theorem count_exports (s : State) (k w n : Nat) : (s.count k w n).exports = s.exports := (rfl)
@[simp] theorem count_peers (s : State) (k w n : Nat) : (s.count k w n).peers = s.peers := (rfl)
@[simp] theorem count_pins (s : State) (k w n : Nat) : (s.count k w n).pins = s.pins := (rfl)
@[simp] theorem count_pats (s : State) (k w n : Nat) : (s.count k w n).pats = s.pats := (rfl)
@[simp] theorem count_copying (s : State) (k w n : Nat) : (s.count k w n).copying = s.copying := (rfl)
@[simp] theorem count_railsLow (s : State) (k w n : Nat) : (s.count k w n).railsLow = s.railsLow := (rfl)
@[simp] theorem count_freeCount (s : State) (k w n : Nat) : (s.count k w n).freeCount = s.freeCount := (rfl)
@[simp] theorem count_pending (s : State) (k w n : Nat) : (s.count k w n).pending = s.pending := (rfl)

/-! `tally` -/
@[simp] theorem tally_variant (s : State) (k w n : Nat) : (s.tally k w n).variant = s.variant := (rfl)
@[simp] theorem tally_clock (s : State) (k w n : Nat) : (s.tally k w n).clock = s.clock := (rfl)
@[simp] theorem tally_time (s : State) (k w n : Nat) : (s.tally k w n).time = s.time := (rfl)
@[simp] theorem tally_timeRem (s : State) (k w n : Nat) : (s.tally k w n).timeRem = s.timeRem := (rfl)
@[simp] theorem tally_inForce (s : State) (k w n : Nat) : (s.tally k w n).inForce = s.inForce := (rfl)
@[simp] theorem tally_blobs (s : State) (k w n : Nat) : (s.tally k w n).blobs = s.blobs := (rfl)
@[simp] theorem tally_ports (s : State) (k w n : Nat) : (s.tally k w n).ports = s.ports := (rfl)
@[simp] theorem tally_transfers (s : State) (k w n : Nat) : (s.tally k w n).transfers = s.transfers := (rfl)
@[simp] theorem tally_silenced (s : State) (k w n : Nat) : (s.tally k w n).silenced = s.silenced := (rfl)
@[simp] theorem tally_subs (s : State) (k w n : Nat) : (s.tally k w n).subs = s.subs := (rfl)
@[simp] theorem tally_replays (s : State) (k w n : Nat) : (s.tally k w n).replays = s.replays := (rfl)
@[simp] theorem tally_ended (s : State) (k w n : Nat) : (s.tally k w n).ended = s.ended := (rfl)
@[simp] theorem tally_served (s : State) (k w n : Nat) : (s.tally k w n).served = s.served := (rfl)
@[simp] theorem tally_identity (s : State) (k w n : Nat) : (s.tally k w n).identity = s.identity := (rfl)
@[simp] theorem tally_quadEdge (s : State) (k w n : Nat) : (s.tally k w n).quadEdge = s.quadEdge := (rfl)
@[simp] theorem tally_trace (s : State) (k w n : Nat) : (s.tally k w n).trace = s.trace := (rfl)
@[simp] theorem tally_evLast (s : State) (k w n : Nat) : (s.tally k w n).evLast = s.evLast := (rfl)
@[simp] theorem tally_evOrd (s : State) (k w n : Nat) : (s.tally k w n).evOrd = s.evOrd := (rfl)
@[simp] theorem tally_changes (s : State) (k w n : Nat) : (s.tally k w n).changes = s.changes := (rfl)
@[simp] theorem tally_emitted (s : State) (k w n : Nat) : (s.tally k w n).emitted = s.emitted := (rfl)
@[simp] theorem tally_porLow (s : State) (k w n : Nat) : (s.tally k w n).porLow = s.porLow := (rfl)
@[simp] theorem tally_safeLow (s : State) (k w n : Nat) : (s.tally k w n).safeLow = s.safeLow := (rfl)
@[simp] theorem tally_strap (s : State) (k w n : Nat) : (s.tally k w n).strap = s.strap := (rfl)
@[simp] theorem tally_slotA (s : State) (k w n : Nat) : (s.tally k w n).slotA = s.slotA := (rfl)
@[simp] theorem tally_slotB (s : State) (k w n : Nat) : (s.tally k w n).slotB = s.slotB := (rfl)
@[simp] theorem tally_flashSelect (s : State) (k w n : Nat) : (s.tally k w n).flashSelect = s.flashSelect := (rfl)
@[simp] theorem tally_seqWords (s : State) (k w n : Nat) : (s.tally k w n).seqWords = s.seqWords := (rfl)
@[simp] theorem tally_boot (s : State) (k w n : Nat) : (s.tally k w n).boot = s.boot := (rfl)
@[simp] theorem tally_trans (s : State) (k w n : Nat) : (s.tally k w n).trans = s.trans := (rfl)
@[simp] theorem tally_halted (s : State) (k w n : Nat) : (s.tally k w n).halted = s.halted := (rfl)
@[simp] theorem tally_silent (s : State) (k w n : Nat) : (s.tally k w n).silent = s.silent := (rfl)
@[simp] theorem tally_mem (s : State) (k w n : Nat) : (s.tally k w n).mem = s.mem := (rfl)
@[simp] theorem tally_poison (s : State) (k w n : Nat) : (s.tally k w n).poison = s.poison := (rfl)
@[simp] theorem tally_corrections (s : State) (k w n : Nat) : (s.tally k w n).corrections = s.corrections := (rfl)
@[simp] theorem tally_retireQ (s : State) (k w n : Nat) : (s.tally k w n).retireQ = s.retireQ := (rfl)
@[simp] theorem tally_customMasks (s : State) (k w n : Nat) : (s.tally k w n).customMasks = s.customMasks := (rfl)
@[simp] theorem tally_pcs (s : State) (k w n : Nat) : (s.tally k w n).pcs = s.pcs := (rfl)
@[simp] theorem tally_safeAsk (s : State) (k w n : Nat) : (s.tally k w n).safeAsk = s.safeAsk := (rfl)
@[simp] theorem tally_ctxs (s : State) (k w n : Nat) : (s.tally k w n).ctxs = s.ctxs := (rfl)
@[simp] theorem tally_tiles (s : State) (k w n : Nat) : (s.tally k w n).tiles = s.tiles := (rfl)
@[simp] theorem tally_mons (s : State) (k w n : Nat) : (s.tally k w n).mons = s.mons := (rfl)
@[simp] theorem tally_chains (s : State) (k w n : Nat) : (s.tally k w n).chains = s.chains := (rfl)
@[simp] theorem tally_encs (s : State) (k w n : Nat) : (s.tally k w n).encs = s.encs := (rfl)
@[simp] theorem tally_pitches (s : State) (k w n : Nat) : (s.tally k w n).pitches = s.pitches := (rfl)
@[simp] theorem tally_feTurn (s : State) (k w n : Nat) : (s.tally k w n).feTurn = s.feTurn := (rfl)
@[simp] theorem tally_coarse (s : State) (k w n : Nat) : (s.tally k w n).coarse = s.coarse := (rfl)
@[simp] theorem tally_lockRuns (s : State) (k w n : Nat) : (s.tally k w n).lockRuns = s.lockRuns := (rfl)
@[simp] theorem tally_refLost (s : State) (k w n : Nat) : (s.tally k w n).refLost = s.refLost := (rfl)
@[simp] theorem tally_untested (s : State) (k w n : Nat) : (s.tally k w n).untested = s.untested := (rfl)
@[simp] theorem tally_boardNext (s : State) (k w n : Nat) : (s.tally k w n).boardNext = s.boardNext := (rfl)
@[simp] theorem tally_boardWas (s : State) (k w n : Nat) : (s.tally k w n).boardWas = s.boardWas := (rfl)
@[simp] theorem tally_plan (s : State) (k w n : Nat) : (s.tally k w n).plan = s.plan := (rfl)
@[simp] theorem tally_placeDirty (s : State) (k w n : Nat) : (s.tally k w n).placeDirty = s.placeDirty := (rfl)
@[simp] theorem tally_trial (s : State) (k w n : Nat) : (s.tally k w n).trial = s.trial := (rfl)
@[simp] theorem tally_defects (s : State) (k w n : Nat) : (s.tally k w n).defects = s.defects := (rfl)
@[simp] theorem tally_swaps (s : State) (k w n : Nat) : (s.tally k w n).swaps = s.swaps := (rfl)
@[simp] theorem tally_moves (s : State) (k w n : Nat) : (s.tally k w n).moves = s.moves := (rfl)
@[simp] theorem tally_invarBad (s : State) (k w n : Nat) : (s.tally k w n).invarBad = s.invarBad := (rfl)
@[simp] theorem tally_invarGood (s : State) (k w n : Nat) : (s.tally k w n).invarGood = s.invarGood := (rfl)
@[simp] theorem tally_pinLevels (s : State) (k w n : Nat) : (s.tally k w n).pinLevels = s.pinLevels := (rfl)
@[simp] theorem tally_cadenceBad (s : State) (k w n : Nat) : (s.tally k w n).cadenceBad = s.cadenceBad := (rfl)
@[simp] theorem tally_rally (s : State) (k w n : Nat) : (s.tally k w n).rally = s.rally := (rfl)
@[simp] theorem tally_whistleUntil (s : State) (k w n : Nat) : (s.tally k w n).whistleUntil = s.whistleUntil := (rfl)
@[simp] theorem tally_bs (s : State) (k w n : Nat) : (s.tally k w n).bs = s.bs := (rfl)
@[simp] theorem tally_wires (s : State) (k w n : Nat) : (s.tally k w n).wires = s.wires := (rfl)
@[simp] theorem tally_fabs (s : State) (k w n : Nat) : (s.tally k w n).fabs = s.fabs := (rfl)
@[simp] theorem tally_nets (s : State) (k w n : Nat) : (s.tally k w n).nets = s.nets := (rfl)
@[simp] theorem tally_samples (s : State) (k w n : Nat) : (s.tally k w n).samples = s.samples := (rfl)
@[simp] theorem tally_frames (s : State) (k w n : Nat) : (s.tally k w n).frames = s.frames := (rfl)
@[simp] theorem tally_reload (s : State) (k w n : Nat) : (s.tally k w n).reload = s.reload := (rfl)
@[simp] theorem tally_scrub (s : State) (k w n : Nat) : (s.tally k w n).scrub = s.scrub := (rfl)
@[simp] theorem tally_dacs (s : State) (k w n : Nat) : (s.tally k w n).dacs = s.dacs := (rfl)
@[simp] theorem tally_strobes (s : State) (k w n : Nat) : (s.tally k w n).strobes = s.strobes := (rfl)
@[simp] theorem tally_lanes (s : State) (k w n : Nat) : (s.tally k w n).lanes = s.lanes := (rfl)
@[simp] theorem tally_exports (s : State) (k w n : Nat) : (s.tally k w n).exports = s.exports := (rfl)
@[simp] theorem tally_peers (s : State) (k w n : Nat) : (s.tally k w n).peers = s.peers := (rfl)
@[simp] theorem tally_pins (s : State) (k w n : Nat) : (s.tally k w n).pins = s.pins := (rfl)
@[simp] theorem tally_pats (s : State) (k w n : Nat) : (s.tally k w n).pats = s.pats := (rfl)
@[simp] theorem tally_copying (s : State) (k w n : Nat) : (s.tally k w n).copying = s.copying := (rfl)
@[simp] theorem tally_railsLow (s : State) (k w n : Nat) : (s.tally k w n).railsLow = s.railsLow := (rfl)
@[simp] theorem tally_freeCount (s : State) (k w n : Nat) : (s.tally k w n).freeCount = s.freeCount := (rfl)
@[simp] theorem tally_pending (s : State) (k w n : Nat) : (s.tally k w n).pending = s.pending := (rfl)

/-! `settle` -/
@[simp] theorem settle_variant (s : State) (k : Nat) : (s.settle k).variant = s.variant := (rfl)
@[simp] theorem settle_clock (s : State) (k : Nat) : (s.settle k).clock = s.clock := (rfl)
@[simp] theorem settle_time (s : State) (k : Nat) : (s.settle k).time = s.time := (rfl)
@[simp] theorem settle_timeRem (s : State) (k : Nat) : (s.settle k).timeRem = s.timeRem := (rfl)
@[simp] theorem settle_dict (s : State) (k : Nat) : (s.settle k).dict = s.dict := (rfl)
@[simp] theorem settle_blobs (s : State) (k : Nat) : (s.settle k).blobs = s.blobs := (rfl)
@[simp] theorem settle_writers (s : State) (k : Nat) : (s.settle k).writers = s.writers := (rfl)
@[simp] theorem settle_ports (s : State) (k : Nat) : (s.settle k).ports = s.ports := (rfl)
@[simp] theorem settle_transfers (s : State) (k : Nat) : (s.settle k).transfers = s.transfers := (rfl)
@[simp] theorem settle_silenced (s : State) (k : Nat) : (s.settle k).silenced = s.silenced := (rfl)
@[simp] theorem settle_subs (s : State) (k : Nat) : (s.settle k).subs = s.subs := (rfl)
@[simp] theorem settle_replays (s : State) (k : Nat) : (s.settle k).replays = s.replays := (rfl)
@[simp] theorem settle_ended (s : State) (k : Nat) : (s.settle k).ended = s.ended := (rfl)
@[simp] theorem settle_served (s : State) (k : Nat) : (s.settle k).served = s.served := (rfl)
@[simp] theorem settle_identity (s : State) (k : Nat) : (s.settle k).identity = s.identity := (rfl)
@[simp] theorem settle_quadEdge (s : State) (k : Nat) : (s.settle k).quadEdge = s.quadEdge := (rfl)
@[simp] theorem settle_trace (s : State) (k : Nat) : (s.settle k).trace = s.trace := (rfl)
@[simp] theorem settle_evLast (s : State) (k : Nat) : (s.settle k).evLast = s.evLast := (rfl)
@[simp] theorem settle_evOrd (s : State) (k : Nat) : (s.settle k).evOrd = s.evOrd := (rfl)
@[simp] theorem settle_changes (s : State) (k : Nat) : (s.settle k).changes = s.changes := (rfl)
@[simp] theorem settle_emitted (s : State) (k : Nat) : (s.settle k).emitted = s.emitted := (rfl)
@[simp] theorem settle_porLow (s : State) (k : Nat) : (s.settle k).porLow = s.porLow := (rfl)
@[simp] theorem settle_safeLow (s : State) (k : Nat) : (s.settle k).safeLow = s.safeLow := (rfl)
@[simp] theorem settle_strap (s : State) (k : Nat) : (s.settle k).strap = s.strap := (rfl)
@[simp] theorem settle_slotA (s : State) (k : Nat) : (s.settle k).slotA = s.slotA := (rfl)
@[simp] theorem settle_slotB (s : State) (k : Nat) : (s.settle k).slotB = s.slotB := (rfl)
@[simp] theorem settle_flashSelect (s : State) (k : Nat) : (s.settle k).flashSelect = s.flashSelect := (rfl)
@[simp] theorem settle_seqWords (s : State) (k : Nat) : (s.settle k).seqWords = s.seqWords := (rfl)
@[simp] theorem settle_boot (s : State) (k : Nat) : (s.settle k).boot = s.boot := (rfl)
@[simp] theorem settle_trans (s : State) (k : Nat) : (s.settle k).trans = s.trans := (rfl)
@[simp] theorem settle_halted (s : State) (k : Nat) : (s.settle k).halted = s.halted := (rfl)
@[simp] theorem settle_silent (s : State) (k : Nat) : (s.settle k).silent = s.silent := (rfl)
@[simp] theorem settle_mem (s : State) (k : Nat) : (s.settle k).mem = s.mem := (rfl)
@[simp] theorem settle_poison (s : State) (k : Nat) : (s.settle k).poison = s.poison := (rfl)
@[simp] theorem settle_corrections (s : State) (k : Nat) : (s.settle k).corrections = s.corrections := (rfl)
@[simp] theorem settle_retireQ (s : State) (k : Nat) : (s.settle k).retireQ = s.retireQ := (rfl)
@[simp] theorem settle_customMasks (s : State) (k : Nat) : (s.settle k).customMasks = s.customMasks := (rfl)
@[simp] theorem settle_pcs (s : State) (k : Nat) : (s.settle k).pcs = s.pcs := (rfl)
@[simp] theorem settle_safeAsk (s : State) (k : Nat) : (s.settle k).safeAsk = s.safeAsk := (rfl)
@[simp] theorem settle_ctxs (s : State) (k : Nat) : (s.settle k).ctxs = s.ctxs := (rfl)
@[simp] theorem settle_tiles (s : State) (k : Nat) : (s.settle k).tiles = s.tiles := (rfl)
@[simp] theorem settle_mons (s : State) (k : Nat) : (s.settle k).mons = s.mons := (rfl)
@[simp] theorem settle_chains (s : State) (k : Nat) : (s.settle k).chains = s.chains := (rfl)
@[simp] theorem settle_encs (s : State) (k : Nat) : (s.settle k).encs = s.encs := (rfl)
@[simp] theorem settle_pitches (s : State) (k : Nat) : (s.settle k).pitches = s.pitches := (rfl)
@[simp] theorem settle_feTurn (s : State) (k : Nat) : (s.settle k).feTurn = s.feTurn := (rfl)
@[simp] theorem settle_coarse (s : State) (k : Nat) : (s.settle k).coarse = s.coarse := (rfl)
@[simp] theorem settle_lockRuns (s : State) (k : Nat) : (s.settle k).lockRuns = s.lockRuns := (rfl)
@[simp] theorem settle_refLost (s : State) (k : Nat) : (s.settle k).refLost = s.refLost := (rfl)
@[simp] theorem settle_untested (s : State) (k : Nat) : (s.settle k).untested = s.untested := (rfl)
@[simp] theorem settle_boardNext (s : State) (k : Nat) : (s.settle k).boardNext = s.boardNext := (rfl)
@[simp] theorem settle_boardWas (s : State) (k : Nat) : (s.settle k).boardWas = s.boardWas := (rfl)
@[simp] theorem settle_plan (s : State) (k : Nat) : (s.settle k).plan = s.plan := (rfl)
@[simp] theorem settle_placeDirty (s : State) (k : Nat) : (s.settle k).placeDirty = s.placeDirty := (rfl)
@[simp] theorem settle_trial (s : State) (k : Nat) : (s.settle k).trial = s.trial := (rfl)
@[simp] theorem settle_defects (s : State) (k : Nat) : (s.settle k).defects = s.defects := (rfl)
@[simp] theorem settle_swaps (s : State) (k : Nat) : (s.settle k).swaps = s.swaps := (rfl)
@[simp] theorem settle_moves (s : State) (k : Nat) : (s.settle k).moves = s.moves := (rfl)
@[simp] theorem settle_invarBad (s : State) (k : Nat) : (s.settle k).invarBad = s.invarBad := (rfl)
@[simp] theorem settle_invarGood (s : State) (k : Nat) : (s.settle k).invarGood = s.invarGood := (rfl)
@[simp] theorem settle_pinLevels (s : State) (k : Nat) : (s.settle k).pinLevels = s.pinLevels := (rfl)
@[simp] theorem settle_cadenceBad (s : State) (k : Nat) : (s.settle k).cadenceBad = s.cadenceBad := (rfl)
@[simp] theorem settle_rally (s : State) (k : Nat) : (s.settle k).rally = s.rally := (rfl)
@[simp] theorem settle_whistleUntil (s : State) (k : Nat) : (s.settle k).whistleUntil = s.whistleUntil := (rfl)
@[simp] theorem settle_bs (s : State) (k : Nat) : (s.settle k).bs = s.bs := (rfl)
@[simp] theorem settle_wires (s : State) (k : Nat) : (s.settle k).wires = s.wires := (rfl)
@[simp] theorem settle_fabs (s : State) (k : Nat) : (s.settle k).fabs = s.fabs := (rfl)
@[simp] theorem settle_nets (s : State) (k : Nat) : (s.settle k).nets = s.nets := (rfl)
@[simp] theorem settle_samples (s : State) (k : Nat) : (s.settle k).samples = s.samples := (rfl)
@[simp] theorem settle_frames (s : State) (k : Nat) : (s.settle k).frames = s.frames := (rfl)
@[simp] theorem settle_reload (s : State) (k : Nat) : (s.settle k).reload = s.reload := (rfl)
@[simp] theorem settle_scrub (s : State) (k : Nat) : (s.settle k).scrub = s.scrub := (rfl)
@[simp] theorem settle_dacs (s : State) (k : Nat) : (s.settle k).dacs = s.dacs := (rfl)
@[simp] theorem settle_strobes (s : State) (k : Nat) : (s.settle k).strobes = s.strobes := (rfl)
@[simp] theorem settle_lanes (s : State) (k : Nat) : (s.settle k).lanes = s.lanes := (rfl)
@[simp] theorem settle_exports (s : State) (k : Nat) : (s.settle k).exports = s.exports := (rfl)
@[simp] theorem settle_peers (s : State) (k : Nat) : (s.settle k).peers = s.peers := (rfl)
@[simp] theorem settle_pins (s : State) (k : Nat) : (s.settle k).pins = s.pins := (rfl)
@[simp] theorem settle_pats (s : State) (k : Nat) : (s.settle k).pats = s.pats := (rfl)
@[simp] theorem settle_copying (s : State) (k : Nat) : (s.settle k).copying = s.copying := (rfl)
@[simp] theorem settle_railsLow (s : State) (k : Nat) : (s.settle k).railsLow = s.railsLow := (rfl)
@[simp] theorem settle_freeCount (s : State) (k : Nat) : (s.settle k).freeCount = s.freeCount := (rfl)
@[simp] theorem settle_pending (s : State) (k : Nat) : (s.settle k).pending = s.pending := (rfl)
@[simp] theorem settle_obj (s : State) (k : Nat) (i : Nat) : (s.settle k).obj i = s.obj i := (rfl)

/-! `setBlob` -/
@[simp] theorem setBlob_variant (s : State) (k : Nat) (b : List Byte) : (s.setBlob k b).variant = s.variant := (rfl)
@[simp] theorem setBlob_clock (s : State) (k : Nat) (b : List Byte) : (s.setBlob k b).clock = s.clock := (rfl)
@[simp] theorem setBlob_time (s : State) (k : Nat) (b : List Byte) : (s.setBlob k b).time = s.time := (rfl)
@[simp] theorem setBlob_timeRem (s : State) (k : Nat) (b : List Byte) : (s.setBlob k b).timeRem = s.timeRem := (rfl)
@[simp] theorem setBlob_dict (s : State) (k : Nat) (b : List Byte) : (s.setBlob k b).dict = s.dict := (rfl)
@[simp] theorem setBlob_inForce (s : State) (k : Nat) (b : List Byte) : (s.setBlob k b).inForce = s.inForce := (rfl)
@[simp] theorem setBlob_writers (s : State) (k : Nat) (b : List Byte) : (s.setBlob k b).writers = s.writers := (rfl)
@[simp] theorem setBlob_ports (s : State) (k : Nat) (b : List Byte) : (s.setBlob k b).ports = s.ports := (rfl)
@[simp] theorem setBlob_transfers (s : State) (k : Nat) (b : List Byte) : (s.setBlob k b).transfers = s.transfers := (rfl)
@[simp] theorem setBlob_silenced (s : State) (k : Nat) (b : List Byte) : (s.setBlob k b).silenced = s.silenced := (rfl)
@[simp] theorem setBlob_subs (s : State) (k : Nat) (b : List Byte) : (s.setBlob k b).subs = s.subs := (rfl)
@[simp] theorem setBlob_replays (s : State) (k : Nat) (b : List Byte) : (s.setBlob k b).replays = s.replays := (rfl)
@[simp] theorem setBlob_ended (s : State) (k : Nat) (b : List Byte) : (s.setBlob k b).ended = s.ended := (rfl)
@[simp] theorem setBlob_served (s : State) (k : Nat) (b : List Byte) : (s.setBlob k b).served = s.served := (rfl)
@[simp] theorem setBlob_identity (s : State) (k : Nat) (b : List Byte) : (s.setBlob k b).identity = s.identity := (rfl)
@[simp] theorem setBlob_quadEdge (s : State) (k : Nat) (b : List Byte) : (s.setBlob k b).quadEdge = s.quadEdge := (rfl)
@[simp] theorem setBlob_trace (s : State) (k : Nat) (b : List Byte) : (s.setBlob k b).trace = s.trace := (rfl)
@[simp] theorem setBlob_evLast (s : State) (k : Nat) (b : List Byte) : (s.setBlob k b).evLast = s.evLast := (rfl)
@[simp] theorem setBlob_evOrd (s : State) (k : Nat) (b : List Byte) : (s.setBlob k b).evOrd = s.evOrd := (rfl)
@[simp] theorem setBlob_changes (s : State) (k : Nat) (b : List Byte) : (s.setBlob k b).changes = s.changes := (rfl)
@[simp] theorem setBlob_emitted (s : State) (k : Nat) (b : List Byte) : (s.setBlob k b).emitted = s.emitted := (rfl)
@[simp] theorem setBlob_porLow (s : State) (k : Nat) (b : List Byte) : (s.setBlob k b).porLow = s.porLow := (rfl)
@[simp] theorem setBlob_safeLow (s : State) (k : Nat) (b : List Byte) : (s.setBlob k b).safeLow = s.safeLow := (rfl)
@[simp] theorem setBlob_strap (s : State) (k : Nat) (b : List Byte) : (s.setBlob k b).strap = s.strap := (rfl)
@[simp] theorem setBlob_slotA (s : State) (k : Nat) (b : List Byte) : (s.setBlob k b).slotA = s.slotA := (rfl)
@[simp] theorem setBlob_slotB (s : State) (k : Nat) (b : List Byte) : (s.setBlob k b).slotB = s.slotB := (rfl)
@[simp] theorem setBlob_flashSelect (s : State) (k : Nat) (b : List Byte) : (s.setBlob k b).flashSelect = s.flashSelect := (rfl)
@[simp] theorem setBlob_seqWords (s : State) (k : Nat) (b : List Byte) : (s.setBlob k b).seqWords = s.seqWords := (rfl)
@[simp] theorem setBlob_boot (s : State) (k : Nat) (b : List Byte) : (s.setBlob k b).boot = s.boot := (rfl)
@[simp] theorem setBlob_trans (s : State) (k : Nat) (b : List Byte) : (s.setBlob k b).trans = s.trans := (rfl)
@[simp] theorem setBlob_halted (s : State) (k : Nat) (b : List Byte) : (s.setBlob k b).halted = s.halted := (rfl)
@[simp] theorem setBlob_silent (s : State) (k : Nat) (b : List Byte) : (s.setBlob k b).silent = s.silent := (rfl)
@[simp] theorem setBlob_mem (s : State) (k : Nat) (b : List Byte) : (s.setBlob k b).mem = s.mem := (rfl)
@[simp] theorem setBlob_poison (s : State) (k : Nat) (b : List Byte) : (s.setBlob k b).poison = s.poison := (rfl)
@[simp] theorem setBlob_corrections (s : State) (k : Nat) (b : List Byte) : (s.setBlob k b).corrections = s.corrections := (rfl)
@[simp] theorem setBlob_retireQ (s : State) (k : Nat) (b : List Byte) : (s.setBlob k b).retireQ = s.retireQ := (rfl)
@[simp] theorem setBlob_customMasks (s : State) (k : Nat) (b : List Byte) : (s.setBlob k b).customMasks = s.customMasks := (rfl)
@[simp] theorem setBlob_pcs (s : State) (k : Nat) (b : List Byte) : (s.setBlob k b).pcs = s.pcs := (rfl)
@[simp] theorem setBlob_safeAsk (s : State) (k : Nat) (b : List Byte) : (s.setBlob k b).safeAsk = s.safeAsk := (rfl)
@[simp] theorem setBlob_ctxs (s : State) (k : Nat) (b : List Byte) : (s.setBlob k b).ctxs = s.ctxs := (rfl)
@[simp] theorem setBlob_tiles (s : State) (k : Nat) (b : List Byte) : (s.setBlob k b).tiles = s.tiles := (rfl)
@[simp] theorem setBlob_mons (s : State) (k : Nat) (b : List Byte) : (s.setBlob k b).mons = s.mons := (rfl)
@[simp] theorem setBlob_chains (s : State) (k : Nat) (b : List Byte) : (s.setBlob k b).chains = s.chains := (rfl)
@[simp] theorem setBlob_encs (s : State) (k : Nat) (b : List Byte) : (s.setBlob k b).encs = s.encs := (rfl)
@[simp] theorem setBlob_pitches (s : State) (k : Nat) (b : List Byte) : (s.setBlob k b).pitches = s.pitches := (rfl)
@[simp] theorem setBlob_feTurn (s : State) (k : Nat) (b : List Byte) : (s.setBlob k b).feTurn = s.feTurn := (rfl)
@[simp] theorem setBlob_coarse (s : State) (k : Nat) (b : List Byte) : (s.setBlob k b).coarse = s.coarse := (rfl)
@[simp] theorem setBlob_lockRuns (s : State) (k : Nat) (b : List Byte) : (s.setBlob k b).lockRuns = s.lockRuns := (rfl)
@[simp] theorem setBlob_refLost (s : State) (k : Nat) (b : List Byte) : (s.setBlob k b).refLost = s.refLost := (rfl)
@[simp] theorem setBlob_untested (s : State) (k : Nat) (b : List Byte) : (s.setBlob k b).untested = s.untested := (rfl)
@[simp] theorem setBlob_boardNext (s : State) (k : Nat) (b : List Byte) : (s.setBlob k b).boardNext = s.boardNext := (rfl)
@[simp] theorem setBlob_boardWas (s : State) (k : Nat) (b : List Byte) : (s.setBlob k b).boardWas = s.boardWas := (rfl)
@[simp] theorem setBlob_plan (s : State) (k : Nat) (b : List Byte) : (s.setBlob k b).plan = s.plan := (rfl)
@[simp] theorem setBlob_placeDirty (s : State) (k : Nat) (b : List Byte) : (s.setBlob k b).placeDirty = s.placeDirty := (rfl)
@[simp] theorem setBlob_trial (s : State) (k : Nat) (b : List Byte) : (s.setBlob k b).trial = s.trial := (rfl)
@[simp] theorem setBlob_defects (s : State) (k : Nat) (b : List Byte) : (s.setBlob k b).defects = s.defects := (rfl)
@[simp] theorem setBlob_swaps (s : State) (k : Nat) (b : List Byte) : (s.setBlob k b).swaps = s.swaps := (rfl)
@[simp] theorem setBlob_moves (s : State) (k : Nat) (b : List Byte) : (s.setBlob k b).moves = s.moves := (rfl)
@[simp] theorem setBlob_invarBad (s : State) (k : Nat) (b : List Byte) : (s.setBlob k b).invarBad = s.invarBad := (rfl)
@[simp] theorem setBlob_invarGood (s : State) (k : Nat) (b : List Byte) : (s.setBlob k b).invarGood = s.invarGood := (rfl)
@[simp] theorem setBlob_pinLevels (s : State) (k : Nat) (b : List Byte) : (s.setBlob k b).pinLevels = s.pinLevels := (rfl)
@[simp] theorem setBlob_cadenceBad (s : State) (k : Nat) (b : List Byte) : (s.setBlob k b).cadenceBad = s.cadenceBad := (rfl)
@[simp] theorem setBlob_rally (s : State) (k : Nat) (b : List Byte) : (s.setBlob k b).rally = s.rally := (rfl)
@[simp] theorem setBlob_whistleUntil (s : State) (k : Nat) (b : List Byte) : (s.setBlob k b).whistleUntil = s.whistleUntil := (rfl)
@[simp] theorem setBlob_bs (s : State) (k : Nat) (b : List Byte) : (s.setBlob k b).bs = s.bs := (rfl)
@[simp] theorem setBlob_wires (s : State) (k : Nat) (b : List Byte) : (s.setBlob k b).wires = s.wires := (rfl)
@[simp] theorem setBlob_fabs (s : State) (k : Nat) (b : List Byte) : (s.setBlob k b).fabs = s.fabs := (rfl)
@[simp] theorem setBlob_nets (s : State) (k : Nat) (b : List Byte) : (s.setBlob k b).nets = s.nets := (rfl)
@[simp] theorem setBlob_samples (s : State) (k : Nat) (b : List Byte) : (s.setBlob k b).samples = s.samples := (rfl)
@[simp] theorem setBlob_frames (s : State) (k : Nat) (b : List Byte) : (s.setBlob k b).frames = s.frames := (rfl)
@[simp] theorem setBlob_reload (s : State) (k : Nat) (b : List Byte) : (s.setBlob k b).reload = s.reload := (rfl)
@[simp] theorem setBlob_scrub (s : State) (k : Nat) (b : List Byte) : (s.setBlob k b).scrub = s.scrub := (rfl)
@[simp] theorem setBlob_dacs (s : State) (k : Nat) (b : List Byte) : (s.setBlob k b).dacs = s.dacs := (rfl)
@[simp] theorem setBlob_strobes (s : State) (k : Nat) (b : List Byte) : (s.setBlob k b).strobes = s.strobes := (rfl)
@[simp] theorem setBlob_lanes (s : State) (k : Nat) (b : List Byte) : (s.setBlob k b).lanes = s.lanes := (rfl)
@[simp] theorem setBlob_exports (s : State) (k : Nat) (b : List Byte) : (s.setBlob k b).exports = s.exports := (rfl)
@[simp] theorem setBlob_peers (s : State) (k : Nat) (b : List Byte) : (s.setBlob k b).peers = s.peers := (rfl)
@[simp] theorem setBlob_pins (s : State) (k : Nat) (b : List Byte) : (s.setBlob k b).pins = s.pins := (rfl)
@[simp] theorem setBlob_pats (s : State) (k : Nat) (b : List Byte) : (s.setBlob k b).pats = s.pats := (rfl)
@[simp] theorem setBlob_copying (s : State) (k : Nat) (b : List Byte) : (s.setBlob k b).copying = s.copying := (rfl)
@[simp] theorem setBlob_railsLow (s : State) (k : Nat) (b : List Byte) : (s.setBlob k b).railsLow = s.railsLow := (rfl)
@[simp] theorem setBlob_freeCount (s : State) (k : Nat) (b : List Byte) : (s.setBlob k b).freeCount = s.freeCount := (rfl)
@[simp] theorem setBlob_pending (s : State) (k : Nat) (b : List Byte) : (s.setBlob k b).pending = s.pending := (rfl)
@[simp] theorem setBlob_obj (s : State) (k : Nat) (b : List Byte) (i : Nat) : (s.setBlob k b).obj i = s.obj i := (rfl)

/-! `emit` -/
@[simp] theorem emit_variant (s : State) (e : Emission) : (s.emit e).variant = s.variant := (rfl)
@[simp] theorem emit_clock (s : State) (e : Emission) : (s.emit e).clock = s.clock := (rfl)
@[simp] theorem emit_time (s : State) (e : Emission) : (s.emit e).time = s.time := (rfl)
@[simp] theorem emit_timeRem (s : State) (e : Emission) : (s.emit e).timeRem = s.timeRem := (rfl)
@[simp] theorem emit_dict (s : State) (e : Emission) : (s.emit e).dict = s.dict := (rfl)
@[simp] theorem emit_inForce (s : State) (e : Emission) : (s.emit e).inForce = s.inForce := (rfl)
@[simp] theorem emit_blobs (s : State) (e : Emission) : (s.emit e).blobs = s.blobs := (rfl)
@[simp] theorem emit_writers (s : State) (e : Emission) : (s.emit e).writers = s.writers := (rfl)
@[simp] theorem emit_ports (s : State) (e : Emission) : (s.emit e).ports = s.ports := (rfl)
@[simp] theorem emit_transfers (s : State) (e : Emission) : (s.emit e).transfers = s.transfers := (rfl)
@[simp] theorem emit_silenced (s : State) (e : Emission) : (s.emit e).silenced = s.silenced := (rfl)
@[simp] theorem emit_subs (s : State) (e : Emission) : (s.emit e).subs = s.subs := (rfl)
@[simp] theorem emit_replays (s : State) (e : Emission) : (s.emit e).replays = s.replays := (rfl)
@[simp] theorem emit_ended (s : State) (e : Emission) : (s.emit e).ended = s.ended := (rfl)
@[simp] theorem emit_served (s : State) (e : Emission) : (s.emit e).served = s.served := (rfl)
@[simp] theorem emit_identity (s : State) (e : Emission) : (s.emit e).identity = s.identity := (rfl)
@[simp] theorem emit_quadEdge (s : State) (e : Emission) : (s.emit e).quadEdge = s.quadEdge := (rfl)
@[simp] theorem emit_trace (s : State) (e : Emission) : (s.emit e).trace = s.trace := (rfl)
@[simp] theorem emit_evLast (s : State) (e : Emission) : (s.emit e).evLast = s.evLast := (rfl)
@[simp] theorem emit_evOrd (s : State) (e : Emission) : (s.emit e).evOrd = s.evOrd := (rfl)
@[simp] theorem emit_changes (s : State) (e : Emission) : (s.emit e).changes = s.changes := (rfl)
@[simp] theorem emit_porLow (s : State) (e : Emission) : (s.emit e).porLow = s.porLow := (rfl)
@[simp] theorem emit_safeLow (s : State) (e : Emission) : (s.emit e).safeLow = s.safeLow := (rfl)
@[simp] theorem emit_strap (s : State) (e : Emission) : (s.emit e).strap = s.strap := (rfl)
@[simp] theorem emit_slotA (s : State) (e : Emission) : (s.emit e).slotA = s.slotA := (rfl)
@[simp] theorem emit_slotB (s : State) (e : Emission) : (s.emit e).slotB = s.slotB := (rfl)
@[simp] theorem emit_flashSelect (s : State) (e : Emission) : (s.emit e).flashSelect = s.flashSelect := (rfl)
@[simp] theorem emit_seqWords (s : State) (e : Emission) : (s.emit e).seqWords = s.seqWords := (rfl)
@[simp] theorem emit_boot (s : State) (e : Emission) : (s.emit e).boot = s.boot := (rfl)
@[simp] theorem emit_trans (s : State) (e : Emission) : (s.emit e).trans = s.trans := (rfl)
@[simp] theorem emit_halted (s : State) (e : Emission) : (s.emit e).halted = s.halted := (rfl)
@[simp] theorem emit_silent (s : State) (e : Emission) : (s.emit e).silent = s.silent := (rfl)
@[simp] theorem emit_mem (s : State) (e : Emission) : (s.emit e).mem = s.mem := (rfl)
@[simp] theorem emit_poison (s : State) (e : Emission) : (s.emit e).poison = s.poison := (rfl)
@[simp] theorem emit_corrections (s : State) (e : Emission) : (s.emit e).corrections = s.corrections := (rfl)
@[simp] theorem emit_retireQ (s : State) (e : Emission) : (s.emit e).retireQ = s.retireQ := (rfl)
@[simp] theorem emit_customMasks (s : State) (e : Emission) : (s.emit e).customMasks = s.customMasks := (rfl)
@[simp] theorem emit_pcs (s : State) (e : Emission) : (s.emit e).pcs = s.pcs := (rfl)
@[simp] theorem emit_safeAsk (s : State) (e : Emission) : (s.emit e).safeAsk = s.safeAsk := (rfl)
@[simp] theorem emit_ctxs (s : State) (e : Emission) : (s.emit e).ctxs = s.ctxs := (rfl)
@[simp] theorem emit_tiles (s : State) (e : Emission) : (s.emit e).tiles = s.tiles := (rfl)
@[simp] theorem emit_mons (s : State) (e : Emission) : (s.emit e).mons = s.mons := (rfl)
@[simp] theorem emit_chains (s : State) (e : Emission) : (s.emit e).chains = s.chains := (rfl)
@[simp] theorem emit_encs (s : State) (e : Emission) : (s.emit e).encs = s.encs := (rfl)
@[simp] theorem emit_pitches (s : State) (e : Emission) : (s.emit e).pitches = s.pitches := (rfl)
@[simp] theorem emit_feTurn (s : State) (e : Emission) : (s.emit e).feTurn = s.feTurn := (rfl)
@[simp] theorem emit_coarse (s : State) (e : Emission) : (s.emit e).coarse = s.coarse := (rfl)
@[simp] theorem emit_lockRuns (s : State) (e : Emission) : (s.emit e).lockRuns = s.lockRuns := (rfl)
@[simp] theorem emit_refLost (s : State) (e : Emission) : (s.emit e).refLost = s.refLost := (rfl)
@[simp] theorem emit_untested (s : State) (e : Emission) : (s.emit e).untested = s.untested := (rfl)
@[simp] theorem emit_boardNext (s : State) (e : Emission) : (s.emit e).boardNext = s.boardNext := (rfl)
@[simp] theorem emit_boardWas (s : State) (e : Emission) : (s.emit e).boardWas = s.boardWas := (rfl)
@[simp] theorem emit_plan (s : State) (e : Emission) : (s.emit e).plan = s.plan := (rfl)
@[simp] theorem emit_placeDirty (s : State) (e : Emission) : (s.emit e).placeDirty = s.placeDirty := (rfl)
@[simp] theorem emit_trial (s : State) (e : Emission) : (s.emit e).trial = s.trial := (rfl)
@[simp] theorem emit_defects (s : State) (e : Emission) : (s.emit e).defects = s.defects := (rfl)
@[simp] theorem emit_swaps (s : State) (e : Emission) : (s.emit e).swaps = s.swaps := (rfl)
@[simp] theorem emit_moves (s : State) (e : Emission) : (s.emit e).moves = s.moves := (rfl)
@[simp] theorem emit_invarBad (s : State) (e : Emission) : (s.emit e).invarBad = s.invarBad := (rfl)
@[simp] theorem emit_invarGood (s : State) (e : Emission) : (s.emit e).invarGood = s.invarGood := (rfl)
@[simp] theorem emit_pinLevels (s : State) (e : Emission) : (s.emit e).pinLevels = s.pinLevels := (rfl)
@[simp] theorem emit_cadenceBad (s : State) (e : Emission) : (s.emit e).cadenceBad = s.cadenceBad := (rfl)
@[simp] theorem emit_rally (s : State) (e : Emission) : (s.emit e).rally = s.rally := (rfl)
@[simp] theorem emit_whistleUntil (s : State) (e : Emission) : (s.emit e).whistleUntil = s.whistleUntil := (rfl)
@[simp] theorem emit_bs (s : State) (e : Emission) : (s.emit e).bs = s.bs := (rfl)
@[simp] theorem emit_wires (s : State) (e : Emission) : (s.emit e).wires = s.wires := (rfl)
@[simp] theorem emit_fabs (s : State) (e : Emission) : (s.emit e).fabs = s.fabs := (rfl)
@[simp] theorem emit_nets (s : State) (e : Emission) : (s.emit e).nets = s.nets := (rfl)
@[simp] theorem emit_samples (s : State) (e : Emission) : (s.emit e).samples = s.samples := (rfl)
@[simp] theorem emit_frames (s : State) (e : Emission) : (s.emit e).frames = s.frames := (rfl)
@[simp] theorem emit_reload (s : State) (e : Emission) : (s.emit e).reload = s.reload := (rfl)
@[simp] theorem emit_scrub (s : State) (e : Emission) : (s.emit e).scrub = s.scrub := (rfl)
@[simp] theorem emit_dacs (s : State) (e : Emission) : (s.emit e).dacs = s.dacs := (rfl)
@[simp] theorem emit_strobes (s : State) (e : Emission) : (s.emit e).strobes = s.strobes := (rfl)
@[simp] theorem emit_lanes (s : State) (e : Emission) : (s.emit e).lanes = s.lanes := (rfl)
@[simp] theorem emit_exports (s : State) (e : Emission) : (s.emit e).exports = s.exports := (rfl)
@[simp] theorem emit_peers (s : State) (e : Emission) : (s.emit e).peers = s.peers := (rfl)
@[simp] theorem emit_pins (s : State) (e : Emission) : (s.emit e).pins = s.pins := (rfl)
@[simp] theorem emit_pats (s : State) (e : Emission) : (s.emit e).pats = s.pats := (rfl)
@[simp] theorem emit_copying (s : State) (e : Emission) : (s.emit e).copying = s.copying := (rfl)
@[simp] theorem emit_railsLow (s : State) (e : Emission) : (s.emit e).railsLow = s.railsLow := (rfl)
@[simp] theorem emit_freeCount (s : State) (e : Emission) : (s.emit e).freeCount = s.freeCount := (rfl)
@[simp] theorem emit_pending (s : State) (e : Emission) : (s.emit e).pending = s.pending := (rfl)
@[simp] theorem emit_obj (s : State) (e : Emission) (i : Nat) : (s.emit e).obj i = s.obj i := (rfl)

/-! `setPort` -/
@[simp] theorem setPort_variant (s : State) (p : Nat) (x : PortState) : (s.setPort p x).variant = s.variant := (rfl)
@[simp] theorem setPort_clock (s : State) (p : Nat) (x : PortState) : (s.setPort p x).clock = s.clock := (rfl)
@[simp] theorem setPort_time (s : State) (p : Nat) (x : PortState) : (s.setPort p x).time = s.time := (rfl)
@[simp] theorem setPort_timeRem (s : State) (p : Nat) (x : PortState) : (s.setPort p x).timeRem = s.timeRem := (rfl)
@[simp] theorem setPort_dict (s : State) (p : Nat) (x : PortState) : (s.setPort p x).dict = s.dict := (rfl)
@[simp] theorem setPort_inForce (s : State) (p : Nat) (x : PortState) : (s.setPort p x).inForce = s.inForce := (rfl)
@[simp] theorem setPort_blobs (s : State) (p : Nat) (x : PortState) : (s.setPort p x).blobs = s.blobs := (rfl)
@[simp] theorem setPort_writers (s : State) (p : Nat) (x : PortState) : (s.setPort p x).writers = s.writers := (rfl)
@[simp] theorem setPort_transfers (s : State) (p : Nat) (x : PortState) : (s.setPort p x).transfers = s.transfers := (rfl)
@[simp] theorem setPort_silenced (s : State) (p : Nat) (x : PortState) : (s.setPort p x).silenced = s.silenced := (rfl)
@[simp] theorem setPort_subs (s : State) (p : Nat) (x : PortState) : (s.setPort p x).subs = s.subs := (rfl)
@[simp] theorem setPort_replays (s : State) (p : Nat) (x : PortState) : (s.setPort p x).replays = s.replays := (rfl)
@[simp] theorem setPort_ended (s : State) (p : Nat) (x : PortState) : (s.setPort p x).ended = s.ended := (rfl)
@[simp] theorem setPort_served (s : State) (p : Nat) (x : PortState) : (s.setPort p x).served = s.served := (rfl)
@[simp] theorem setPort_identity (s : State) (p : Nat) (x : PortState) : (s.setPort p x).identity = s.identity := (rfl)
@[simp] theorem setPort_quadEdge (s : State) (p : Nat) (x : PortState) : (s.setPort p x).quadEdge = s.quadEdge := (rfl)
@[simp] theorem setPort_trace (s : State) (p : Nat) (x : PortState) : (s.setPort p x).trace = s.trace := (rfl)
@[simp] theorem setPort_evLast (s : State) (p : Nat) (x : PortState) : (s.setPort p x).evLast = s.evLast := (rfl)
@[simp] theorem setPort_evOrd (s : State) (p : Nat) (x : PortState) : (s.setPort p x).evOrd = s.evOrd := (rfl)
@[simp] theorem setPort_changes (s : State) (p : Nat) (x : PortState) : (s.setPort p x).changes = s.changes := (rfl)
@[simp] theorem setPort_emitted (s : State) (p : Nat) (x : PortState) : (s.setPort p x).emitted = s.emitted := (rfl)
@[simp] theorem setPort_porLow (s : State) (p : Nat) (x : PortState) : (s.setPort p x).porLow = s.porLow := (rfl)
@[simp] theorem setPort_safeLow (s : State) (p : Nat) (x : PortState) : (s.setPort p x).safeLow = s.safeLow := (rfl)
@[simp] theorem setPort_strap (s : State) (p : Nat) (x : PortState) : (s.setPort p x).strap = s.strap := (rfl)
@[simp] theorem setPort_slotA (s : State) (p : Nat) (x : PortState) : (s.setPort p x).slotA = s.slotA := (rfl)
@[simp] theorem setPort_slotB (s : State) (p : Nat) (x : PortState) : (s.setPort p x).slotB = s.slotB := (rfl)
@[simp] theorem setPort_flashSelect (s : State) (p : Nat) (x : PortState) : (s.setPort p x).flashSelect = s.flashSelect := (rfl)
@[simp] theorem setPort_seqWords (s : State) (p : Nat) (x : PortState) : (s.setPort p x).seqWords = s.seqWords := (rfl)
@[simp] theorem setPort_boot (s : State) (p : Nat) (x : PortState) : (s.setPort p x).boot = s.boot := (rfl)
@[simp] theorem setPort_trans (s : State) (p : Nat) (x : PortState) : (s.setPort p x).trans = s.trans := (rfl)
@[simp] theorem setPort_halted (s : State) (p : Nat) (x : PortState) : (s.setPort p x).halted = s.halted := (rfl)
@[simp] theorem setPort_silent (s : State) (p : Nat) (x : PortState) : (s.setPort p x).silent = s.silent := (rfl)
@[simp] theorem setPort_mem (s : State) (p : Nat) (x : PortState) : (s.setPort p x).mem = s.mem := (rfl)
@[simp] theorem setPort_poison (s : State) (p : Nat) (x : PortState) : (s.setPort p x).poison = s.poison := (rfl)
@[simp] theorem setPort_corrections (s : State) (p : Nat) (x : PortState) : (s.setPort p x).corrections = s.corrections := (rfl)
@[simp] theorem setPort_retireQ (s : State) (p : Nat) (x : PortState) : (s.setPort p x).retireQ = s.retireQ := (rfl)
@[simp] theorem setPort_customMasks (s : State) (p : Nat) (x : PortState) : (s.setPort p x).customMasks = s.customMasks := (rfl)
@[simp] theorem setPort_pcs (s : State) (p : Nat) (x : PortState) : (s.setPort p x).pcs = s.pcs := (rfl)
@[simp] theorem setPort_safeAsk (s : State) (p : Nat) (x : PortState) : (s.setPort p x).safeAsk = s.safeAsk := (rfl)
@[simp] theorem setPort_ctxs (s : State) (p : Nat) (x : PortState) : (s.setPort p x).ctxs = s.ctxs := (rfl)
@[simp] theorem setPort_tiles (s : State) (p : Nat) (x : PortState) : (s.setPort p x).tiles = s.tiles := (rfl)
@[simp] theorem setPort_mons (s : State) (p : Nat) (x : PortState) : (s.setPort p x).mons = s.mons := (rfl)
@[simp] theorem setPort_chains (s : State) (p : Nat) (x : PortState) : (s.setPort p x).chains = s.chains := (rfl)
@[simp] theorem setPort_encs (s : State) (p : Nat) (x : PortState) : (s.setPort p x).encs = s.encs := (rfl)
@[simp] theorem setPort_pitches (s : State) (p : Nat) (x : PortState) : (s.setPort p x).pitches = s.pitches := (rfl)
@[simp] theorem setPort_feTurn (s : State) (p : Nat) (x : PortState) : (s.setPort p x).feTurn = s.feTurn := (rfl)
@[simp] theorem setPort_coarse (s : State) (p : Nat) (x : PortState) : (s.setPort p x).coarse = s.coarse := (rfl)
@[simp] theorem setPort_lockRuns (s : State) (p : Nat) (x : PortState) : (s.setPort p x).lockRuns = s.lockRuns := (rfl)
@[simp] theorem setPort_refLost (s : State) (p : Nat) (x : PortState) : (s.setPort p x).refLost = s.refLost := (rfl)
@[simp] theorem setPort_untested (s : State) (p : Nat) (x : PortState) : (s.setPort p x).untested = s.untested := (rfl)
@[simp] theorem setPort_boardNext (s : State) (p : Nat) (x : PortState) : (s.setPort p x).boardNext = s.boardNext := (rfl)
@[simp] theorem setPort_boardWas (s : State) (p : Nat) (x : PortState) : (s.setPort p x).boardWas = s.boardWas := (rfl)
@[simp] theorem setPort_plan (s : State) (p : Nat) (x : PortState) : (s.setPort p x).plan = s.plan := (rfl)
@[simp] theorem setPort_placeDirty (s : State) (p : Nat) (x : PortState) : (s.setPort p x).placeDirty = s.placeDirty := (rfl)
@[simp] theorem setPort_trial (s : State) (p : Nat) (x : PortState) : (s.setPort p x).trial = s.trial := (rfl)
@[simp] theorem setPort_defects (s : State) (p : Nat) (x : PortState) : (s.setPort p x).defects = s.defects := (rfl)
@[simp] theorem setPort_swaps (s : State) (p : Nat) (x : PortState) : (s.setPort p x).swaps = s.swaps := (rfl)
@[simp] theorem setPort_moves (s : State) (p : Nat) (x : PortState) : (s.setPort p x).moves = s.moves := (rfl)
@[simp] theorem setPort_invarBad (s : State) (p : Nat) (x : PortState) : (s.setPort p x).invarBad = s.invarBad := (rfl)
@[simp] theorem setPort_invarGood (s : State) (p : Nat) (x : PortState) : (s.setPort p x).invarGood = s.invarGood := (rfl)
@[simp] theorem setPort_pinLevels (s : State) (p : Nat) (x : PortState) : (s.setPort p x).pinLevels = s.pinLevels := (rfl)
@[simp] theorem setPort_cadenceBad (s : State) (p : Nat) (x : PortState) : (s.setPort p x).cadenceBad = s.cadenceBad := (rfl)
@[simp] theorem setPort_rally (s : State) (p : Nat) (x : PortState) : (s.setPort p x).rally = s.rally := (rfl)
@[simp] theorem setPort_whistleUntil (s : State) (p : Nat) (x : PortState) : (s.setPort p x).whistleUntil = s.whistleUntil := (rfl)
@[simp] theorem setPort_bs (s : State) (p : Nat) (x : PortState) : (s.setPort p x).bs = s.bs := (rfl)
@[simp] theorem setPort_wires (s : State) (p : Nat) (x : PortState) : (s.setPort p x).wires = s.wires := (rfl)
@[simp] theorem setPort_fabs (s : State) (p : Nat) (x : PortState) : (s.setPort p x).fabs = s.fabs := (rfl)
@[simp] theorem setPort_nets (s : State) (p : Nat) (x : PortState) : (s.setPort p x).nets = s.nets := (rfl)
@[simp] theorem setPort_samples (s : State) (p : Nat) (x : PortState) : (s.setPort p x).samples = s.samples := (rfl)
@[simp] theorem setPort_frames (s : State) (p : Nat) (x : PortState) : (s.setPort p x).frames = s.frames := (rfl)
@[simp] theorem setPort_reload (s : State) (p : Nat) (x : PortState) : (s.setPort p x).reload = s.reload := (rfl)
@[simp] theorem setPort_scrub (s : State) (p : Nat) (x : PortState) : (s.setPort p x).scrub = s.scrub := (rfl)
@[simp] theorem setPort_dacs (s : State) (p : Nat) (x : PortState) : (s.setPort p x).dacs = s.dacs := (rfl)
@[simp] theorem setPort_strobes (s : State) (p : Nat) (x : PortState) : (s.setPort p x).strobes = s.strobes := (rfl)
@[simp] theorem setPort_lanes (s : State) (p : Nat) (x : PortState) : (s.setPort p x).lanes = s.lanes := (rfl)
@[simp] theorem setPort_exports (s : State) (p : Nat) (x : PortState) : (s.setPort p x).exports = s.exports := (rfl)
@[simp] theorem setPort_peers (s : State) (p : Nat) (x : PortState) : (s.setPort p x).peers = s.peers := (rfl)
@[simp] theorem setPort_pins (s : State) (p : Nat) (x : PortState) : (s.setPort p x).pins = s.pins := (rfl)
@[simp] theorem setPort_pats (s : State) (p : Nat) (x : PortState) : (s.setPort p x).pats = s.pats := (rfl)
@[simp] theorem setPort_copying (s : State) (p : Nat) (x : PortState) : (s.setPort p x).copying = s.copying := (rfl)
@[simp] theorem setPort_railsLow (s : State) (p : Nat) (x : PortState) : (s.setPort p x).railsLow = s.railsLow := (rfl)
@[simp] theorem setPort_freeCount (s : State) (p : Nat) (x : PortState) : (s.setPort p x).freeCount = s.freeCount := (rfl)
@[simp] theorem setPort_pending (s : State) (p : Nat) (x : PortState) : (s.setPort p x).pending = s.pending := (rfl)
@[simp] theorem setPort_obj (s : State) (p : Nat) (x : PortState) (i : Nat) : (s.setPort p x).obj i = s.obj i := (rfl)

/-! `advance` -/
@[simp] theorem advance_variant (s : State) (t : Nat) : (s.advance t).variant = s.variant := (rfl)
@[simp] theorem advance_dict (s : State) (t : Nat) : (s.advance t).dict = s.dict := (rfl)
@[simp] theorem advance_inForce (s : State) (t : Nat) : (s.advance t).inForce = s.inForce := (rfl)
@[simp] theorem advance_blobs (s : State) (t : Nat) : (s.advance t).blobs = s.blobs := (rfl)
@[simp] theorem advance_writers (s : State) (t : Nat) : (s.advance t).writers = s.writers := (rfl)
@[simp] theorem advance_ports (s : State) (t : Nat) : (s.advance t).ports = s.ports := (rfl)
@[simp] theorem advance_transfers (s : State) (t : Nat) : (s.advance t).transfers = s.transfers := (rfl)
@[simp] theorem advance_silenced (s : State) (t : Nat) : (s.advance t).silenced = s.silenced := (rfl)
@[simp] theorem advance_subs (s : State) (t : Nat) : (s.advance t).subs = s.subs := (rfl)
@[simp] theorem advance_replays (s : State) (t : Nat) : (s.advance t).replays = s.replays := (rfl)
@[simp] theorem advance_ended (s : State) (t : Nat) : (s.advance t).ended = s.ended := (rfl)
@[simp] theorem advance_served (s : State) (t : Nat) : (s.advance t).served = s.served := (rfl)
@[simp] theorem advance_identity (s : State) (t : Nat) : (s.advance t).identity = s.identity := (rfl)
@[simp] theorem advance_quadEdge (s : State) (t : Nat) : (s.advance t).quadEdge = s.quadEdge := (rfl)
@[simp] theorem advance_trace (s : State) (t : Nat) : (s.advance t).trace = s.trace := (rfl)
@[simp] theorem advance_evLast (s : State) (t : Nat) : (s.advance t).evLast = s.evLast := (rfl)
@[simp] theorem advance_evOrd (s : State) (t : Nat) : (s.advance t).evOrd = s.evOrd := (rfl)
@[simp] theorem advance_changes (s : State) (t : Nat) : (s.advance t).changes = s.changes := (rfl)
@[simp] theorem advance_emitted (s : State) (t : Nat) : (s.advance t).emitted = s.emitted := (rfl)
@[simp] theorem advance_porLow (s : State) (t : Nat) : (s.advance t).porLow = s.porLow := (rfl)
@[simp] theorem advance_safeLow (s : State) (t : Nat) : (s.advance t).safeLow = s.safeLow := (rfl)
@[simp] theorem advance_strap (s : State) (t : Nat) : (s.advance t).strap = s.strap := (rfl)
@[simp] theorem advance_slotA (s : State) (t : Nat) : (s.advance t).slotA = s.slotA := (rfl)
@[simp] theorem advance_slotB (s : State) (t : Nat) : (s.advance t).slotB = s.slotB := (rfl)
@[simp] theorem advance_flashSelect (s : State) (t : Nat) : (s.advance t).flashSelect = s.flashSelect := (rfl)
@[simp] theorem advance_seqWords (s : State) (t : Nat) : (s.advance t).seqWords = s.seqWords := (rfl)
@[simp] theorem advance_boot (s : State) (t : Nat) : (s.advance t).boot = s.boot := (rfl)
@[simp] theorem advance_trans (s : State) (t : Nat) : (s.advance t).trans = s.trans := (rfl)
@[simp] theorem advance_halted (s : State) (t : Nat) : (s.advance t).halted = s.halted := (rfl)
@[simp] theorem advance_silent (s : State) (t : Nat) : (s.advance t).silent = s.silent := (rfl)
@[simp] theorem advance_mem (s : State) (t : Nat) : (s.advance t).mem = s.mem := (rfl)
@[simp] theorem advance_poison (s : State) (t : Nat) : (s.advance t).poison = s.poison := (rfl)
@[simp] theorem advance_corrections (s : State) (t : Nat) : (s.advance t).corrections = s.corrections := (rfl)
@[simp] theorem advance_retireQ (s : State) (t : Nat) : (s.advance t).retireQ = s.retireQ := (rfl)
@[simp] theorem advance_customMasks (s : State) (t : Nat) : (s.advance t).customMasks = s.customMasks := (rfl)
@[simp] theorem advance_pcs (s : State) (t : Nat) : (s.advance t).pcs = s.pcs := (rfl)
@[simp] theorem advance_safeAsk (s : State) (t : Nat) : (s.advance t).safeAsk = s.safeAsk := (rfl)
@[simp] theorem advance_ctxs (s : State) (t : Nat) : (s.advance t).ctxs = s.ctxs := (rfl)
@[simp] theorem advance_tiles (s : State) (t : Nat) : (s.advance t).tiles = s.tiles := (rfl)
@[simp] theorem advance_mons (s : State) (t : Nat) : (s.advance t).mons = s.mons := (rfl)
@[simp] theorem advance_chains (s : State) (t : Nat) : (s.advance t).chains = s.chains := (rfl)
@[simp] theorem advance_encs (s : State) (t : Nat) : (s.advance t).encs = s.encs := (rfl)
@[simp] theorem advance_pitches (s : State) (t : Nat) : (s.advance t).pitches = s.pitches := (rfl)
@[simp] theorem advance_feTurn (s : State) (t : Nat) : (s.advance t).feTurn = s.feTurn := (rfl)
@[simp] theorem advance_coarse (s : State) (t : Nat) : (s.advance t).coarse = s.coarse := (rfl)
@[simp] theorem advance_lockRuns (s : State) (t : Nat) : (s.advance t).lockRuns = s.lockRuns := (rfl)
@[simp] theorem advance_refLost (s : State) (t : Nat) : (s.advance t).refLost = s.refLost := (rfl)
@[simp] theorem advance_untested (s : State) (t : Nat) : (s.advance t).untested = s.untested := (rfl)
@[simp] theorem advance_boardNext (s : State) (t : Nat) : (s.advance t).boardNext = s.boardNext := (rfl)
@[simp] theorem advance_boardWas (s : State) (t : Nat) : (s.advance t).boardWas = s.boardWas := (rfl)
@[simp] theorem advance_plan (s : State) (t : Nat) : (s.advance t).plan = s.plan := (rfl)
@[simp] theorem advance_placeDirty (s : State) (t : Nat) : (s.advance t).placeDirty = s.placeDirty := (rfl)
@[simp] theorem advance_trial (s : State) (t : Nat) : (s.advance t).trial = s.trial := (rfl)
@[simp] theorem advance_defects (s : State) (t : Nat) : (s.advance t).defects = s.defects := (rfl)
@[simp] theorem advance_swaps (s : State) (t : Nat) : (s.advance t).swaps = s.swaps := (rfl)
@[simp] theorem advance_moves (s : State) (t : Nat) : (s.advance t).moves = s.moves := (rfl)
@[simp] theorem advance_invarBad (s : State) (t : Nat) : (s.advance t).invarBad = s.invarBad := (rfl)
@[simp] theorem advance_invarGood (s : State) (t : Nat) : (s.advance t).invarGood = s.invarGood := (rfl)
@[simp] theorem advance_pinLevels (s : State) (t : Nat) : (s.advance t).pinLevels = s.pinLevels := (rfl)
@[simp] theorem advance_cadenceBad (s : State) (t : Nat) : (s.advance t).cadenceBad = s.cadenceBad := (rfl)
@[simp] theorem advance_rally (s : State) (t : Nat) : (s.advance t).rally = s.rally := (rfl)
@[simp] theorem advance_whistleUntil (s : State) (t : Nat) : (s.advance t).whistleUntil = s.whistleUntil := (rfl)
@[simp] theorem advance_bs (s : State) (t : Nat) : (s.advance t).bs = s.bs := (rfl)
@[simp] theorem advance_wires (s : State) (t : Nat) : (s.advance t).wires = s.wires := (rfl)
@[simp] theorem advance_fabs (s : State) (t : Nat) : (s.advance t).fabs = s.fabs := (rfl)
@[simp] theorem advance_nets (s : State) (t : Nat) : (s.advance t).nets = s.nets := (rfl)
@[simp] theorem advance_samples (s : State) (t : Nat) : (s.advance t).samples = s.samples := (rfl)
@[simp] theorem advance_frames (s : State) (t : Nat) : (s.advance t).frames = s.frames := (rfl)
@[simp] theorem advance_reload (s : State) (t : Nat) : (s.advance t).reload = s.reload := (rfl)
@[simp] theorem advance_scrub (s : State) (t : Nat) : (s.advance t).scrub = s.scrub := (rfl)
@[simp] theorem advance_dacs (s : State) (t : Nat) : (s.advance t).dacs = s.dacs := (rfl)
@[simp] theorem advance_strobes (s : State) (t : Nat) : (s.advance t).strobes = s.strobes := (rfl)
@[simp] theorem advance_lanes (s : State) (t : Nat) : (s.advance t).lanes = s.lanes := (rfl)
@[simp] theorem advance_exports (s : State) (t : Nat) : (s.advance t).exports = s.exports := (rfl)
@[simp] theorem advance_peers (s : State) (t : Nat) : (s.advance t).peers = s.peers := (rfl)
@[simp] theorem advance_pins (s : State) (t : Nat) : (s.advance t).pins = s.pins := (rfl)
@[simp] theorem advance_pats (s : State) (t : Nat) : (s.advance t).pats = s.pats := (rfl)
@[simp] theorem advance_copying (s : State) (t : Nat) : (s.advance t).copying = s.copying := (rfl)
@[simp] theorem advance_railsLow (s : State) (t : Nat) : (s.advance t).railsLow = s.railsLow := (rfl)
@[simp] theorem advance_freeCount (s : State) (t : Nat) : (s.advance t).freeCount = s.freeCount := (rfl)
@[simp] theorem advance_pending (s : State) (t : Nat) : (s.advance t).pending = s.pending := (rfl)
@[simp] theorem advance_obj (s : State) (t : Nat) (i : Nat) : (s.advance t).obj i = s.obj i := (rfl)

/-! `begin_` -/
@[simp] theorem begin_variant (s : State) (t : Nat) : (s.begin_ t).variant = s.variant := (rfl)
@[simp] theorem begin_dict (s : State) (t : Nat) : (s.begin_ t).dict = s.dict := (rfl)
@[simp] theorem begin_inForce (s : State) (t : Nat) : (s.begin_ t).inForce = s.inForce := (rfl)
@[simp] theorem begin_blobs (s : State) (t : Nat) : (s.begin_ t).blobs = s.blobs := (rfl)
@[simp] theorem begin_writers (s : State) (t : Nat) : (s.begin_ t).writers = s.writers := (rfl)
@[simp] theorem begin_ports (s : State) (t : Nat) : (s.begin_ t).ports = s.ports := (rfl)
@[simp] theorem begin_transfers (s : State) (t : Nat) : (s.begin_ t).transfers = s.transfers := (rfl)
@[simp] theorem begin_silenced (s : State) (t : Nat) : (s.begin_ t).silenced = s.silenced := (rfl)
@[simp] theorem begin_subs (s : State) (t : Nat) : (s.begin_ t).subs = s.subs := (rfl)
@[simp] theorem begin_replays (s : State) (t : Nat) : (s.begin_ t).replays = s.replays := (rfl)
@[simp] theorem begin_ended (s : State) (t : Nat) : (s.begin_ t).ended = s.ended := (rfl)
@[simp] theorem begin_served (s : State) (t : Nat) : (s.begin_ t).served = s.served := (rfl)
@[simp] theorem begin_identity (s : State) (t : Nat) : (s.begin_ t).identity = s.identity := (rfl)
@[simp] theorem begin_quadEdge (s : State) (t : Nat) : (s.begin_ t).quadEdge = s.quadEdge := (rfl)
@[simp] theorem begin_trace (s : State) (t : Nat) : (s.begin_ t).trace = s.trace := (rfl)
@[simp] theorem begin_evLast (s : State) (t : Nat) : (s.begin_ t).evLast = s.evLast := (rfl)
@[simp] theorem begin_evOrd (s : State) (t : Nat) : (s.begin_ t).evOrd = s.evOrd := (rfl)
@[simp] theorem begin_porLow (s : State) (t : Nat) : (s.begin_ t).porLow = s.porLow := (rfl)
@[simp] theorem begin_safeLow (s : State) (t : Nat) : (s.begin_ t).safeLow = s.safeLow := (rfl)
@[simp] theorem begin_strap (s : State) (t : Nat) : (s.begin_ t).strap = s.strap := (rfl)
@[simp] theorem begin_slotA (s : State) (t : Nat) : (s.begin_ t).slotA = s.slotA := (rfl)
@[simp] theorem begin_slotB (s : State) (t : Nat) : (s.begin_ t).slotB = s.slotB := (rfl)
@[simp] theorem begin_flashSelect (s : State) (t : Nat) : (s.begin_ t).flashSelect = s.flashSelect := (rfl)
@[simp] theorem begin_seqWords (s : State) (t : Nat) : (s.begin_ t).seqWords = s.seqWords := (rfl)
@[simp] theorem begin_boot (s : State) (t : Nat) : (s.begin_ t).boot = s.boot := (rfl)
@[simp] theorem begin_trans (s : State) (t : Nat) : (s.begin_ t).trans = s.trans := (rfl)
@[simp] theorem begin_halted (s : State) (t : Nat) : (s.begin_ t).halted = s.halted := (rfl)
@[simp] theorem begin_silent (s : State) (t : Nat) : (s.begin_ t).silent = s.silent := (rfl)
@[simp] theorem begin_mem (s : State) (t : Nat) : (s.begin_ t).mem = s.mem := (rfl)
@[simp] theorem begin_poison (s : State) (t : Nat) : (s.begin_ t).poison = s.poison := (rfl)
@[simp] theorem begin_corrections (s : State) (t : Nat) : (s.begin_ t).corrections = s.corrections := (rfl)
@[simp] theorem begin_retireQ (s : State) (t : Nat) : (s.begin_ t).retireQ = s.retireQ := (rfl)
@[simp] theorem begin_customMasks (s : State) (t : Nat) : (s.begin_ t).customMasks = s.customMasks := (rfl)
@[simp] theorem begin_pcs (s : State) (t : Nat) : (s.begin_ t).pcs = s.pcs := (rfl)
@[simp] theorem begin_safeAsk (s : State) (t : Nat) : (s.begin_ t).safeAsk = s.safeAsk := (rfl)
@[simp] theorem begin_ctxs (s : State) (t : Nat) : (s.begin_ t).ctxs = s.ctxs := (rfl)
@[simp] theorem begin_tiles (s : State) (t : Nat) : (s.begin_ t).tiles = s.tiles := (rfl)
@[simp] theorem begin_mons (s : State) (t : Nat) : (s.begin_ t).mons = s.mons := (rfl)
@[simp] theorem begin_chains (s : State) (t : Nat) : (s.begin_ t).chains = s.chains := (rfl)
@[simp] theorem begin_encs (s : State) (t : Nat) : (s.begin_ t).encs = s.encs := (rfl)
@[simp] theorem begin_pitches (s : State) (t : Nat) : (s.begin_ t).pitches = s.pitches := (rfl)
@[simp] theorem begin_feTurn (s : State) (t : Nat) : (s.begin_ t).feTurn = s.feTurn := (rfl)
@[simp] theorem begin_coarse (s : State) (t : Nat) : (s.begin_ t).coarse = s.coarse := (rfl)
@[simp] theorem begin_lockRuns (s : State) (t : Nat) : (s.begin_ t).lockRuns = s.lockRuns := (rfl)
@[simp] theorem begin_refLost (s : State) (t : Nat) : (s.begin_ t).refLost = s.refLost := (rfl)
@[simp] theorem begin_untested (s : State) (t : Nat) : (s.begin_ t).untested = s.untested := (rfl)
@[simp] theorem begin_boardNext (s : State) (t : Nat) : (s.begin_ t).boardNext = s.boardNext := (rfl)
@[simp] theorem begin_boardWas (s : State) (t : Nat) : (s.begin_ t).boardWas = s.boardWas := (rfl)
@[simp] theorem begin_plan (s : State) (t : Nat) : (s.begin_ t).plan = s.plan := (rfl)
@[simp] theorem begin_placeDirty (s : State) (t : Nat) : (s.begin_ t).placeDirty = s.placeDirty := (rfl)
@[simp] theorem begin_trial (s : State) (t : Nat) : (s.begin_ t).trial = s.trial := (rfl)
@[simp] theorem begin_defects (s : State) (t : Nat) : (s.begin_ t).defects = s.defects := (rfl)
@[simp] theorem begin_swaps (s : State) (t : Nat) : (s.begin_ t).swaps = s.swaps := (rfl)
@[simp] theorem begin_moves (s : State) (t : Nat) : (s.begin_ t).moves = s.moves := (rfl)
@[simp] theorem begin_invarBad (s : State) (t : Nat) : (s.begin_ t).invarBad = s.invarBad := (rfl)
@[simp] theorem begin_invarGood (s : State) (t : Nat) : (s.begin_ t).invarGood = s.invarGood := (rfl)
@[simp] theorem begin_pinLevels (s : State) (t : Nat) : (s.begin_ t).pinLevels = s.pinLevels := (rfl)
@[simp] theorem begin_cadenceBad (s : State) (t : Nat) : (s.begin_ t).cadenceBad = s.cadenceBad := (rfl)
@[simp] theorem begin_rally (s : State) (t : Nat) : (s.begin_ t).rally = s.rally := (rfl)
@[simp] theorem begin_whistleUntil (s : State) (t : Nat) : (s.begin_ t).whistleUntil = s.whistleUntil := (rfl)
@[simp] theorem begin_bs (s : State) (t : Nat) : (s.begin_ t).bs = s.bs := (rfl)
@[simp] theorem begin_wires (s : State) (t : Nat) : (s.begin_ t).wires = s.wires := (rfl)
@[simp] theorem begin_fabs (s : State) (t : Nat) : (s.begin_ t).fabs = s.fabs := (rfl)
@[simp] theorem begin_nets (s : State) (t : Nat) : (s.begin_ t).nets = s.nets := (rfl)
@[simp] theorem begin_samples (s : State) (t : Nat) : (s.begin_ t).samples = s.samples := (rfl)
@[simp] theorem begin_frames (s : State) (t : Nat) : (s.begin_ t).frames = s.frames := (rfl)
@[simp] theorem begin_reload (s : State) (t : Nat) : (s.begin_ t).reload = s.reload := (rfl)
@[simp] theorem begin_scrub (s : State) (t : Nat) : (s.begin_ t).scrub = s.scrub := (rfl)
@[simp] theorem begin_dacs (s : State) (t : Nat) : (s.begin_ t).dacs = s.dacs := (rfl)
@[simp] theorem begin_strobes (s : State) (t : Nat) : (s.begin_ t).strobes = s.strobes := (rfl)
@[simp] theorem begin_lanes (s : State) (t : Nat) : (s.begin_ t).lanes = s.lanes := (rfl)
@[simp] theorem begin_exports (s : State) (t : Nat) : (s.begin_ t).exports = s.exports := (rfl)
@[simp] theorem begin_peers (s : State) (t : Nat) : (s.begin_ t).peers = s.peers := (rfl)
@[simp] theorem begin_pins (s : State) (t : Nat) : (s.begin_ t).pins = s.pins := (rfl)
@[simp] theorem begin_pats (s : State) (t : Nat) : (s.begin_ t).pats = s.pats := (rfl)
@[simp] theorem begin_copying (s : State) (t : Nat) : (s.begin_ t).copying = s.copying := (rfl)
@[simp] theorem begin_railsLow (s : State) (t : Nat) : (s.begin_ t).railsLow = s.railsLow := (rfl)
@[simp] theorem begin_freeCount (s : State) (t : Nat) : (s.begin_ t).freeCount = s.freeCount := (rfl)
@[simp] theorem begin_pending (s : State) (t : Nat) : (s.begin_ t).pending = s.pending := (rfl)
@[simp] theorem begin_obj (s : State) (t : Nat) (i : Nat) : (s.begin_ t).obj i = s.obj i := (rfl)

/-! `askSafe` -/
@[simp] theorem askSafe_variant (s : State) (b : Nat) : (s.askSafe b).variant = s.variant := (rfl)
@[simp] theorem askSafe_clock (s : State) (b : Nat) : (s.askSafe b).clock = s.clock := (rfl)
@[simp] theorem askSafe_time (s : State) (b : Nat) : (s.askSafe b).time = s.time := (rfl)
@[simp] theorem askSafe_timeRem (s : State) (b : Nat) : (s.askSafe b).timeRem = s.timeRem := (rfl)
@[simp] theorem askSafe_dict (s : State) (b : Nat) : (s.askSafe b).dict = s.dict := (rfl)
@[simp] theorem askSafe_inForce (s : State) (b : Nat) : (s.askSafe b).inForce = s.inForce := (rfl)
@[simp] theorem askSafe_blobs (s : State) (b : Nat) : (s.askSafe b).blobs = s.blobs := (rfl)
@[simp] theorem askSafe_writers (s : State) (b : Nat) : (s.askSafe b).writers = s.writers := (rfl)
@[simp] theorem askSafe_ports (s : State) (b : Nat) : (s.askSafe b).ports = s.ports := (rfl)
@[simp] theorem askSafe_transfers (s : State) (b : Nat) : (s.askSafe b).transfers = s.transfers := (rfl)
@[simp] theorem askSafe_silenced (s : State) (b : Nat) : (s.askSafe b).silenced = s.silenced := (rfl)
@[simp] theorem askSafe_subs (s : State) (b : Nat) : (s.askSafe b).subs = s.subs := (rfl)
@[simp] theorem askSafe_replays (s : State) (b : Nat) : (s.askSafe b).replays = s.replays := (rfl)
@[simp] theorem askSafe_ended (s : State) (b : Nat) : (s.askSafe b).ended = s.ended := (rfl)
@[simp] theorem askSafe_served (s : State) (b : Nat) : (s.askSafe b).served = s.served := (rfl)
@[simp] theorem askSafe_identity (s : State) (b : Nat) : (s.askSafe b).identity = s.identity := (rfl)
@[simp] theorem askSafe_quadEdge (s : State) (b : Nat) : (s.askSafe b).quadEdge = s.quadEdge := (rfl)
@[simp] theorem askSafe_trace (s : State) (b : Nat) : (s.askSafe b).trace = s.trace := (rfl)
@[simp] theorem askSafe_evLast (s : State) (b : Nat) : (s.askSafe b).evLast = s.evLast := (rfl)
@[simp] theorem askSafe_evOrd (s : State) (b : Nat) : (s.askSafe b).evOrd = s.evOrd := (rfl)
@[simp] theorem askSafe_changes (s : State) (b : Nat) : (s.askSafe b).changes = s.changes := (rfl)
@[simp] theorem askSafe_emitted (s : State) (b : Nat) : (s.askSafe b).emitted = s.emitted := (rfl)
@[simp] theorem askSafe_porLow (s : State) (b : Nat) : (s.askSafe b).porLow = s.porLow := (rfl)
@[simp] theorem askSafe_safeLow (s : State) (b : Nat) : (s.askSafe b).safeLow = s.safeLow := (rfl)
@[simp] theorem askSafe_strap (s : State) (b : Nat) : (s.askSafe b).strap = s.strap := (rfl)
@[simp] theorem askSafe_slotA (s : State) (b : Nat) : (s.askSafe b).slotA = s.slotA := (rfl)
@[simp] theorem askSafe_slotB (s : State) (b : Nat) : (s.askSafe b).slotB = s.slotB := (rfl)
@[simp] theorem askSafe_flashSelect (s : State) (b : Nat) : (s.askSafe b).flashSelect = s.flashSelect := (rfl)
@[simp] theorem askSafe_seqWords (s : State) (b : Nat) : (s.askSafe b).seqWords = s.seqWords := (rfl)
@[simp] theorem askSafe_boot (s : State) (b : Nat) : (s.askSafe b).boot = s.boot := (rfl)
@[simp] theorem askSafe_trans (s : State) (b : Nat) : (s.askSafe b).trans = s.trans := (rfl)
@[simp] theorem askSafe_halted (s : State) (b : Nat) : (s.askSafe b).halted = s.halted := (rfl)
@[simp] theorem askSafe_silent (s : State) (b : Nat) : (s.askSafe b).silent = s.silent := (rfl)
@[simp] theorem askSafe_mem (s : State) (b : Nat) : (s.askSafe b).mem = s.mem := (rfl)
@[simp] theorem askSafe_poison (s : State) (b : Nat) : (s.askSafe b).poison = s.poison := (rfl)
@[simp] theorem askSafe_corrections (s : State) (b : Nat) : (s.askSafe b).corrections = s.corrections := (rfl)
@[simp] theorem askSafe_retireQ (s : State) (b : Nat) : (s.askSafe b).retireQ = s.retireQ := (rfl)
@[simp] theorem askSafe_customMasks (s : State) (b : Nat) : (s.askSafe b).customMasks = s.customMasks := (rfl)
@[simp] theorem askSafe_pcs (s : State) (b : Nat) : (s.askSafe b).pcs = s.pcs := (rfl)
@[simp] theorem askSafe_ctxs (s : State) (b : Nat) : (s.askSafe b).ctxs = s.ctxs := (rfl)
@[simp] theorem askSafe_tiles (s : State) (b : Nat) : (s.askSafe b).tiles = s.tiles := (rfl)
@[simp] theorem askSafe_mons (s : State) (b : Nat) : (s.askSafe b).mons = s.mons := (rfl)
@[simp] theorem askSafe_chains (s : State) (b : Nat) : (s.askSafe b).chains = s.chains := (rfl)
@[simp] theorem askSafe_encs (s : State) (b : Nat) : (s.askSafe b).encs = s.encs := (rfl)
@[simp] theorem askSafe_pitches (s : State) (b : Nat) : (s.askSafe b).pitches = s.pitches := (rfl)
@[simp] theorem askSafe_feTurn (s : State) (b : Nat) : (s.askSafe b).feTurn = s.feTurn := (rfl)
@[simp] theorem askSafe_coarse (s : State) (b : Nat) : (s.askSafe b).coarse = s.coarse := (rfl)
@[simp] theorem askSafe_lockRuns (s : State) (b : Nat) : (s.askSafe b).lockRuns = s.lockRuns := (rfl)
@[simp] theorem askSafe_refLost (s : State) (b : Nat) : (s.askSafe b).refLost = s.refLost := (rfl)
@[simp] theorem askSafe_untested (s : State) (b : Nat) : (s.askSafe b).untested = s.untested := (rfl)
@[simp] theorem askSafe_boardNext (s : State) (b : Nat) : (s.askSafe b).boardNext = s.boardNext := (rfl)
@[simp] theorem askSafe_boardWas (s : State) (b : Nat) : (s.askSafe b).boardWas = s.boardWas := (rfl)
@[simp] theorem askSafe_plan (s : State) (b : Nat) : (s.askSafe b).plan = s.plan := (rfl)
@[simp] theorem askSafe_placeDirty (s : State) (b : Nat) : (s.askSafe b).placeDirty = s.placeDirty := (rfl)
@[simp] theorem askSafe_trial (s : State) (b : Nat) : (s.askSafe b).trial = s.trial := (rfl)
@[simp] theorem askSafe_defects (s : State) (b : Nat) : (s.askSafe b).defects = s.defects := (rfl)
@[simp] theorem askSafe_swaps (s : State) (b : Nat) : (s.askSafe b).swaps = s.swaps := (rfl)
@[simp] theorem askSafe_moves (s : State) (b : Nat) : (s.askSafe b).moves = s.moves := (rfl)
@[simp] theorem askSafe_invarBad (s : State) (b : Nat) : (s.askSafe b).invarBad = s.invarBad := (rfl)
@[simp] theorem askSafe_invarGood (s : State) (b : Nat) : (s.askSafe b).invarGood = s.invarGood := (rfl)
@[simp] theorem askSafe_pinLevels (s : State) (b : Nat) : (s.askSafe b).pinLevels = s.pinLevels := (rfl)
@[simp] theorem askSafe_cadenceBad (s : State) (b : Nat) : (s.askSafe b).cadenceBad = s.cadenceBad := (rfl)
@[simp] theorem askSafe_rally (s : State) (b : Nat) : (s.askSafe b).rally = s.rally := (rfl)
@[simp] theorem askSafe_whistleUntil (s : State) (b : Nat) : (s.askSafe b).whistleUntil = s.whistleUntil := (rfl)
@[simp] theorem askSafe_bs (s : State) (b : Nat) : (s.askSafe b).bs = s.bs := (rfl)
@[simp] theorem askSafe_wires (s : State) (b : Nat) : (s.askSafe b).wires = s.wires := (rfl)
@[simp] theorem askSafe_fabs (s : State) (b : Nat) : (s.askSafe b).fabs = s.fabs := (rfl)
@[simp] theorem askSafe_nets (s : State) (b : Nat) : (s.askSafe b).nets = s.nets := (rfl)
@[simp] theorem askSafe_samples (s : State) (b : Nat) : (s.askSafe b).samples = s.samples := (rfl)
@[simp] theorem askSafe_frames (s : State) (b : Nat) : (s.askSafe b).frames = s.frames := (rfl)
@[simp] theorem askSafe_reload (s : State) (b : Nat) : (s.askSafe b).reload = s.reload := (rfl)
@[simp] theorem askSafe_scrub (s : State) (b : Nat) : (s.askSafe b).scrub = s.scrub := (rfl)
@[simp] theorem askSafe_dacs (s : State) (b : Nat) : (s.askSafe b).dacs = s.dacs := (rfl)
@[simp] theorem askSafe_strobes (s : State) (b : Nat) : (s.askSafe b).strobes = s.strobes := (rfl)
@[simp] theorem askSafe_lanes (s : State) (b : Nat) : (s.askSafe b).lanes = s.lanes := (rfl)
@[simp] theorem askSafe_exports (s : State) (b : Nat) : (s.askSafe b).exports = s.exports := (rfl)
@[simp] theorem askSafe_peers (s : State) (b : Nat) : (s.askSafe b).peers = s.peers := (rfl)
@[simp] theorem askSafe_pins (s : State) (b : Nat) : (s.askSafe b).pins = s.pins := (rfl)
@[simp] theorem askSafe_pats (s : State) (b : Nat) : (s.askSafe b).pats = s.pats := (rfl)
@[simp] theorem askSafe_copying (s : State) (b : Nat) : (s.askSafe b).copying = s.copying := (rfl)
@[simp] theorem askSafe_railsLow (s : State) (b : Nat) : (s.askSafe b).railsLow = s.railsLow := (rfl)
@[simp] theorem askSafe_freeCount (s : State) (b : Nat) : (s.askSafe b).freeCount = s.freeCount := (rfl)
@[simp] theorem askSafe_pending (s : State) (b : Nat) : (s.askSafe b).pending = s.pending := (rfl)
@[simp] theorem askSafe_obj (s : State) (b : Nat) (i : Nat) : (s.askSafe b).obj i = s.obj i := (rfl)

/-! `putByte` -/
@[simp] theorem putByte_variant (s : State) (a : Nat) (b : Byte) : (s.putByte a b).variant = s.variant := (rfl)
@[simp] theorem putByte_clock (s : State) (a : Nat) (b : Byte) : (s.putByte a b).clock = s.clock := (rfl)
@[simp] theorem putByte_time (s : State) (a : Nat) (b : Byte) : (s.putByte a b).time = s.time := (rfl)
@[simp] theorem putByte_timeRem (s : State) (a : Nat) (b : Byte) : (s.putByte a b).timeRem = s.timeRem := (rfl)
@[simp] theorem putByte_dict (s : State) (a : Nat) (b : Byte) : (s.putByte a b).dict = s.dict := (rfl)
@[simp] theorem putByte_inForce (s : State) (a : Nat) (b : Byte) : (s.putByte a b).inForce = s.inForce := (rfl)
@[simp] theorem putByte_blobs (s : State) (a : Nat) (b : Byte) : (s.putByte a b).blobs = s.blobs := (rfl)
@[simp] theorem putByte_writers (s : State) (a : Nat) (b : Byte) : (s.putByte a b).writers = s.writers := (rfl)
@[simp] theorem putByte_ports (s : State) (a : Nat) (b : Byte) : (s.putByte a b).ports = s.ports := (rfl)
@[simp] theorem putByte_transfers (s : State) (a : Nat) (b : Byte) : (s.putByte a b).transfers = s.transfers := (rfl)
@[simp] theorem putByte_silenced (s : State) (a : Nat) (b : Byte) : (s.putByte a b).silenced = s.silenced := (rfl)
@[simp] theorem putByte_subs (s : State) (a : Nat) (b : Byte) : (s.putByte a b).subs = s.subs := (rfl)
@[simp] theorem putByte_replays (s : State) (a : Nat) (b : Byte) : (s.putByte a b).replays = s.replays := (rfl)
@[simp] theorem putByte_ended (s : State) (a : Nat) (b : Byte) : (s.putByte a b).ended = s.ended := (rfl)
@[simp] theorem putByte_served (s : State) (a : Nat) (b : Byte) : (s.putByte a b).served = s.served := (rfl)
@[simp] theorem putByte_identity (s : State) (a : Nat) (b : Byte) : (s.putByte a b).identity = s.identity := (rfl)
@[simp] theorem putByte_quadEdge (s : State) (a : Nat) (b : Byte) : (s.putByte a b).quadEdge = s.quadEdge := (rfl)
@[simp] theorem putByte_trace (s : State) (a : Nat) (b : Byte) : (s.putByte a b).trace = s.trace := (rfl)
@[simp] theorem putByte_evLast (s : State) (a : Nat) (b : Byte) : (s.putByte a b).evLast = s.evLast := (rfl)
@[simp] theorem putByte_evOrd (s : State) (a : Nat) (b : Byte) : (s.putByte a b).evOrd = s.evOrd := (rfl)
@[simp] theorem putByte_changes (s : State) (a : Nat) (b : Byte) : (s.putByte a b).changes = s.changes := (rfl)
@[simp] theorem putByte_emitted (s : State) (a : Nat) (b : Byte) : (s.putByte a b).emitted = s.emitted := (rfl)
@[simp] theorem putByte_porLow (s : State) (a : Nat) (b : Byte) : (s.putByte a b).porLow = s.porLow := (rfl)
@[simp] theorem putByte_safeLow (s : State) (a : Nat) (b : Byte) : (s.putByte a b).safeLow = s.safeLow := (rfl)
@[simp] theorem putByte_strap (s : State) (a : Nat) (b : Byte) : (s.putByte a b).strap = s.strap := (rfl)
@[simp] theorem putByte_slotA (s : State) (a : Nat) (b : Byte) : (s.putByte a b).slotA = s.slotA := (rfl)
@[simp] theorem putByte_slotB (s : State) (a : Nat) (b : Byte) : (s.putByte a b).slotB = s.slotB := (rfl)
@[simp] theorem putByte_flashSelect (s : State) (a : Nat) (b : Byte) : (s.putByte a b).flashSelect = s.flashSelect := (rfl)
@[simp] theorem putByte_seqWords (s : State) (a : Nat) (b : Byte) : (s.putByte a b).seqWords = s.seqWords := (rfl)
@[simp] theorem putByte_boot (s : State) (a : Nat) (b : Byte) : (s.putByte a b).boot = s.boot := (rfl)
@[simp] theorem putByte_trans (s : State) (a : Nat) (b : Byte) : (s.putByte a b).trans = s.trans := (rfl)
@[simp] theorem putByte_halted (s : State) (a : Nat) (b : Byte) : (s.putByte a b).halted = s.halted := (rfl)
@[simp] theorem putByte_silent (s : State) (a : Nat) (b : Byte) : (s.putByte a b).silent = s.silent := (rfl)
@[simp] theorem putByte_poison (s : State) (a : Nat) (b : Byte) : (s.putByte a b).poison = s.poison := (rfl)
@[simp] theorem putByte_corrections (s : State) (a : Nat) (b : Byte) : (s.putByte a b).corrections = s.corrections := (rfl)
@[simp] theorem putByte_retireQ (s : State) (a : Nat) (b : Byte) : (s.putByte a b).retireQ = s.retireQ := (rfl)
@[simp] theorem putByte_customMasks (s : State) (a : Nat) (b : Byte) : (s.putByte a b).customMasks = s.customMasks := (rfl)
@[simp] theorem putByte_pcs (s : State) (a : Nat) (b : Byte) : (s.putByte a b).pcs = s.pcs := (rfl)
@[simp] theorem putByte_safeAsk (s : State) (a : Nat) (b : Byte) : (s.putByte a b).safeAsk = s.safeAsk := (rfl)
@[simp] theorem putByte_ctxs (s : State) (a : Nat) (b : Byte) : (s.putByte a b).ctxs = s.ctxs := (rfl)
@[simp] theorem putByte_tiles (s : State) (a : Nat) (b : Byte) : (s.putByte a b).tiles = s.tiles := (rfl)
@[simp] theorem putByte_mons (s : State) (a : Nat) (b : Byte) : (s.putByte a b).mons = s.mons := (rfl)
@[simp] theorem putByte_chains (s : State) (a : Nat) (b : Byte) : (s.putByte a b).chains = s.chains := (rfl)
@[simp] theorem putByte_encs (s : State) (a : Nat) (b : Byte) : (s.putByte a b).encs = s.encs := (rfl)
@[simp] theorem putByte_pitches (s : State) (a : Nat) (b : Byte) : (s.putByte a b).pitches = s.pitches := (rfl)
@[simp] theorem putByte_feTurn (s : State) (a : Nat) (b : Byte) : (s.putByte a b).feTurn = s.feTurn := (rfl)
@[simp] theorem putByte_coarse (s : State) (a : Nat) (b : Byte) : (s.putByte a b).coarse = s.coarse := (rfl)
@[simp] theorem putByte_lockRuns (s : State) (a : Nat) (b : Byte) : (s.putByte a b).lockRuns = s.lockRuns := (rfl)
@[simp] theorem putByte_refLost (s : State) (a : Nat) (b : Byte) : (s.putByte a b).refLost = s.refLost := (rfl)
@[simp] theorem putByte_untested (s : State) (a : Nat) (b : Byte) : (s.putByte a b).untested = s.untested := (rfl)
@[simp] theorem putByte_boardNext (s : State) (a : Nat) (b : Byte) : (s.putByte a b).boardNext = s.boardNext := (rfl)
@[simp] theorem putByte_boardWas (s : State) (a : Nat) (b : Byte) : (s.putByte a b).boardWas = s.boardWas := (rfl)
@[simp] theorem putByte_plan (s : State) (a : Nat) (b : Byte) : (s.putByte a b).plan = s.plan := (rfl)
@[simp] theorem putByte_placeDirty (s : State) (a : Nat) (b : Byte) : (s.putByte a b).placeDirty = s.placeDirty := (rfl)
@[simp] theorem putByte_trial (s : State) (a : Nat) (b : Byte) : (s.putByte a b).trial = s.trial := (rfl)
@[simp] theorem putByte_defects (s : State) (a : Nat) (b : Byte) : (s.putByte a b).defects = s.defects := (rfl)
@[simp] theorem putByte_swaps (s : State) (a : Nat) (b : Byte) : (s.putByte a b).swaps = s.swaps := (rfl)
@[simp] theorem putByte_moves (s : State) (a : Nat) (b : Byte) : (s.putByte a b).moves = s.moves := (rfl)
@[simp] theorem putByte_invarBad (s : State) (a : Nat) (b : Byte) : (s.putByte a b).invarBad = s.invarBad := (rfl)
@[simp] theorem putByte_invarGood (s : State) (a : Nat) (b : Byte) : (s.putByte a b).invarGood = s.invarGood := (rfl)
@[simp] theorem putByte_pinLevels (s : State) (a : Nat) (b : Byte) : (s.putByte a b).pinLevels = s.pinLevels := (rfl)
@[simp] theorem putByte_cadenceBad (s : State) (a : Nat) (b : Byte) : (s.putByte a b).cadenceBad = s.cadenceBad := (rfl)
@[simp] theorem putByte_rally (s : State) (a : Nat) (b : Byte) : (s.putByte a b).rally = s.rally := (rfl)
@[simp] theorem putByte_whistleUntil (s : State) (a : Nat) (b : Byte) : (s.putByte a b).whistleUntil = s.whistleUntil := (rfl)
@[simp] theorem putByte_bs (s : State) (a : Nat) (b : Byte) : (s.putByte a b).bs = s.bs := (rfl)
@[simp] theorem putByte_wires (s : State) (a : Nat) (b : Byte) : (s.putByte a b).wires = s.wires := (rfl)
@[simp] theorem putByte_fabs (s : State) (a : Nat) (b : Byte) : (s.putByte a b).fabs = s.fabs := (rfl)
@[simp] theorem putByte_nets (s : State) (a : Nat) (b : Byte) : (s.putByte a b).nets = s.nets := (rfl)
@[simp] theorem putByte_samples (s : State) (a : Nat) (b : Byte) : (s.putByte a b).samples = s.samples := (rfl)
@[simp] theorem putByte_frames (s : State) (a : Nat) (b : Byte) : (s.putByte a b).frames = s.frames := (rfl)
@[simp] theorem putByte_reload (s : State) (a : Nat) (b : Byte) : (s.putByte a b).reload = s.reload := (rfl)
@[simp] theorem putByte_scrub (s : State) (a : Nat) (b : Byte) : (s.putByte a b).scrub = s.scrub := (rfl)
@[simp] theorem putByte_dacs (s : State) (a : Nat) (b : Byte) : (s.putByte a b).dacs = s.dacs := (rfl)
@[simp] theorem putByte_strobes (s : State) (a : Nat) (b : Byte) : (s.putByte a b).strobes = s.strobes := (rfl)
@[simp] theorem putByte_lanes (s : State) (a : Nat) (b : Byte) : (s.putByte a b).lanes = s.lanes := (rfl)
@[simp] theorem putByte_exports (s : State) (a : Nat) (b : Byte) : (s.putByte a b).exports = s.exports := (rfl)
@[simp] theorem putByte_peers (s : State) (a : Nat) (b : Byte) : (s.putByte a b).peers = s.peers := (rfl)
@[simp] theorem putByte_pins (s : State) (a : Nat) (b : Byte) : (s.putByte a b).pins = s.pins := (rfl)
@[simp] theorem putByte_pats (s : State) (a : Nat) (b : Byte) : (s.putByte a b).pats = s.pats := (rfl)
@[simp] theorem putByte_copying (s : State) (a : Nat) (b : Byte) : (s.putByte a b).copying = s.copying := (rfl)
@[simp] theorem putByte_railsLow (s : State) (a : Nat) (b : Byte) : (s.putByte a b).railsLow = s.railsLow := (rfl)
@[simp] theorem putByte_freeCount (s : State) (a : Nat) (b : Byte) : (s.putByte a b).freeCount = s.freeCount := (rfl)
@[simp] theorem putByte_pending (s : State) (a : Nat) (b : Byte) : (s.putByte a b).pending = s.pending := (rfl)
@[simp] theorem putByte_obj (s : State) (a : Nat) (b : Byte) (i : Nat) : (s.putByte a b).obj i = s.obj i := (rfl)

/-! `hold` -/
@[simp] theorem hold_variant (s : State) (k : Nat) : (s.hold k).variant = s.variant := by unfold State.hold; split <;> rfl
@[simp] theorem hold_clock (s : State) (k : Nat) : (s.hold k).clock = s.clock := by unfold State.hold; split <;> rfl
@[simp] theorem hold_time (s : State) (k : Nat) : (s.hold k).time = s.time := by unfold State.hold; split <;> rfl
@[simp] theorem hold_timeRem (s : State) (k : Nat) : (s.hold k).timeRem = s.timeRem := by unfold State.hold; split <;> rfl
@[simp] theorem hold_dict (s : State) (k : Nat) : (s.hold k).dict = s.dict := by unfold State.hold; split <;> rfl
@[simp] theorem hold_blobs (s : State) (k : Nat) : (s.hold k).blobs = s.blobs := by unfold State.hold; split <;> rfl
@[simp] theorem hold_writers (s : State) (k : Nat) : (s.hold k).writers = s.writers := by unfold State.hold; split <;> rfl
@[simp] theorem hold_ports (s : State) (k : Nat) : (s.hold k).ports = s.ports := by unfold State.hold; split <;> rfl
@[simp] theorem hold_transfers (s : State) (k : Nat) : (s.hold k).transfers = s.transfers := by unfold State.hold; split <;> rfl
@[simp] theorem hold_silenced (s : State) (k : Nat) : (s.hold k).silenced = s.silenced := by unfold State.hold; split <;> rfl
@[simp] theorem hold_subs (s : State) (k : Nat) : (s.hold k).subs = s.subs := by unfold State.hold; split <;> rfl
@[simp] theorem hold_replays (s : State) (k : Nat) : (s.hold k).replays = s.replays := by unfold State.hold; split <;> rfl
@[simp] theorem hold_ended (s : State) (k : Nat) : (s.hold k).ended = s.ended := by unfold State.hold; split <;> rfl
@[simp] theorem hold_served (s : State) (k : Nat) : (s.hold k).served = s.served := by unfold State.hold; split <;> rfl
@[simp] theorem hold_identity (s : State) (k : Nat) : (s.hold k).identity = s.identity := by unfold State.hold; split <;> rfl
@[simp] theorem hold_quadEdge (s : State) (k : Nat) : (s.hold k).quadEdge = s.quadEdge := by unfold State.hold; split <;> rfl
@[simp] theorem hold_trace (s : State) (k : Nat) : (s.hold k).trace = s.trace := by unfold State.hold; split <;> rfl
@[simp] theorem hold_evLast (s : State) (k : Nat) : (s.hold k).evLast = s.evLast := by unfold State.hold; split <;> rfl
@[simp] theorem hold_evOrd (s : State) (k : Nat) : (s.hold k).evOrd = s.evOrd := by unfold State.hold; split <;> rfl
@[simp] theorem hold_changes (s : State) (k : Nat) : (s.hold k).changes = s.changes := by unfold State.hold; split <;> rfl
@[simp] theorem hold_emitted (s : State) (k : Nat) : (s.hold k).emitted = s.emitted := by unfold State.hold; split <;> rfl
@[simp] theorem hold_porLow (s : State) (k : Nat) : (s.hold k).porLow = s.porLow := by unfold State.hold; split <;> rfl
@[simp] theorem hold_safeLow (s : State) (k : Nat) : (s.hold k).safeLow = s.safeLow := by unfold State.hold; split <;> rfl
@[simp] theorem hold_strap (s : State) (k : Nat) : (s.hold k).strap = s.strap := by unfold State.hold; split <;> rfl
@[simp] theorem hold_slotA (s : State) (k : Nat) : (s.hold k).slotA = s.slotA := by unfold State.hold; split <;> rfl
@[simp] theorem hold_slotB (s : State) (k : Nat) : (s.hold k).slotB = s.slotB := by unfold State.hold; split <;> rfl
@[simp] theorem hold_flashSelect (s : State) (k : Nat) : (s.hold k).flashSelect = s.flashSelect := by unfold State.hold; split <;> rfl
@[simp] theorem hold_seqWords (s : State) (k : Nat) : (s.hold k).seqWords = s.seqWords := by unfold State.hold; split <;> rfl
@[simp] theorem hold_boot (s : State) (k : Nat) : (s.hold k).boot = s.boot := by unfold State.hold; split <;> rfl
@[simp] theorem hold_trans (s : State) (k : Nat) : (s.hold k).trans = s.trans := by unfold State.hold; split <;> rfl
@[simp] theorem hold_halted (s : State) (k : Nat) : (s.hold k).halted = s.halted := by unfold State.hold; split <;> rfl
@[simp] theorem hold_silent (s : State) (k : Nat) : (s.hold k).silent = s.silent := by unfold State.hold; split <;> rfl
@[simp] theorem hold_mem (s : State) (k : Nat) : (s.hold k).mem = s.mem := by unfold State.hold; split <;> rfl
@[simp] theorem hold_poison (s : State) (k : Nat) : (s.hold k).poison = s.poison := by unfold State.hold; split <;> rfl
@[simp] theorem hold_corrections (s : State) (k : Nat) : (s.hold k).corrections = s.corrections := by unfold State.hold; split <;> rfl
@[simp] theorem hold_retireQ (s : State) (k : Nat) : (s.hold k).retireQ = s.retireQ := by unfold State.hold; split <;> rfl
@[simp] theorem hold_customMasks (s : State) (k : Nat) : (s.hold k).customMasks = s.customMasks := by unfold State.hold; split <;> rfl
@[simp] theorem hold_pcs (s : State) (k : Nat) : (s.hold k).pcs = s.pcs := by unfold State.hold; split <;> rfl
@[simp] theorem hold_safeAsk (s : State) (k : Nat) : (s.hold k).safeAsk = s.safeAsk := by unfold State.hold; split <;> rfl
@[simp] theorem hold_ctxs (s : State) (k : Nat) : (s.hold k).ctxs = s.ctxs := by unfold State.hold; split <;> rfl
@[simp] theorem hold_tiles (s : State) (k : Nat) : (s.hold k).tiles = s.tiles := by unfold State.hold; split <;> rfl
@[simp] theorem hold_mons (s : State) (k : Nat) : (s.hold k).mons = s.mons := by unfold State.hold; split <;> rfl
@[simp] theorem hold_chains (s : State) (k : Nat) : (s.hold k).chains = s.chains := by unfold State.hold; split <;> rfl
@[simp] theorem hold_encs (s : State) (k : Nat) : (s.hold k).encs = s.encs := by unfold State.hold; split <;> rfl
@[simp] theorem hold_pitches (s : State) (k : Nat) : (s.hold k).pitches = s.pitches := by unfold State.hold; split <;> rfl
@[simp] theorem hold_feTurn (s : State) (k : Nat) : (s.hold k).feTurn = s.feTurn := by unfold State.hold; split <;> rfl
@[simp] theorem hold_coarse (s : State) (k : Nat) : (s.hold k).coarse = s.coarse := by unfold State.hold; split <;> rfl
@[simp] theorem hold_lockRuns (s : State) (k : Nat) : (s.hold k).lockRuns = s.lockRuns := by unfold State.hold; split <;> rfl
@[simp] theorem hold_refLost (s : State) (k : Nat) : (s.hold k).refLost = s.refLost := by unfold State.hold; split <;> rfl
@[simp] theorem hold_untested (s : State) (k : Nat) : (s.hold k).untested = s.untested := by unfold State.hold; split <;> rfl
@[simp] theorem hold_boardNext (s : State) (k : Nat) : (s.hold k).boardNext = s.boardNext := by unfold State.hold; split <;> rfl
@[simp] theorem hold_boardWas (s : State) (k : Nat) : (s.hold k).boardWas = s.boardWas := by unfold State.hold; split <;> rfl
@[simp] theorem hold_plan (s : State) (k : Nat) : (s.hold k).plan = s.plan := by unfold State.hold; split <;> rfl
@[simp] theorem hold_placeDirty (s : State) (k : Nat) : (s.hold k).placeDirty = s.placeDirty := by unfold State.hold; split <;> rfl
@[simp] theorem hold_trial (s : State) (k : Nat) : (s.hold k).trial = s.trial := by unfold State.hold; split <;> rfl
@[simp] theorem hold_defects (s : State) (k : Nat) : (s.hold k).defects = s.defects := by unfold State.hold; split <;> rfl
@[simp] theorem hold_swaps (s : State) (k : Nat) : (s.hold k).swaps = s.swaps := by unfold State.hold; split <;> rfl
@[simp] theorem hold_moves (s : State) (k : Nat) : (s.hold k).moves = s.moves := by unfold State.hold; split <;> rfl
@[simp] theorem hold_invarBad (s : State) (k : Nat) : (s.hold k).invarBad = s.invarBad := by unfold State.hold; split <;> rfl
@[simp] theorem hold_invarGood (s : State) (k : Nat) : (s.hold k).invarGood = s.invarGood := by unfold State.hold; split <;> rfl
@[simp] theorem hold_pinLevels (s : State) (k : Nat) : (s.hold k).pinLevels = s.pinLevels := by unfold State.hold; split <;> rfl
@[simp] theorem hold_cadenceBad (s : State) (k : Nat) : (s.hold k).cadenceBad = s.cadenceBad := by unfold State.hold; split <;> rfl
@[simp] theorem hold_rally (s : State) (k : Nat) : (s.hold k).rally = s.rally := by unfold State.hold; split <;> rfl
@[simp] theorem hold_whistleUntil (s : State) (k : Nat) : (s.hold k).whistleUntil = s.whistleUntil := by unfold State.hold; split <;> rfl
@[simp] theorem hold_bs (s : State) (k : Nat) : (s.hold k).bs = s.bs := by unfold State.hold; split <;> rfl
@[simp] theorem hold_wires (s : State) (k : Nat) : (s.hold k).wires = s.wires := by unfold State.hold; split <;> rfl
@[simp] theorem hold_fabs (s : State) (k : Nat) : (s.hold k).fabs = s.fabs := by unfold State.hold; split <;> rfl
@[simp] theorem hold_nets (s : State) (k : Nat) : (s.hold k).nets = s.nets := by unfold State.hold; split <;> rfl
@[simp] theorem hold_samples (s : State) (k : Nat) : (s.hold k).samples = s.samples := by unfold State.hold; split <;> rfl
@[simp] theorem hold_frames (s : State) (k : Nat) : (s.hold k).frames = s.frames := by unfold State.hold; split <;> rfl
@[simp] theorem hold_reload (s : State) (k : Nat) : (s.hold k).reload = s.reload := by unfold State.hold; split <;> rfl
@[simp] theorem hold_scrub (s : State) (k : Nat) : (s.hold k).scrub = s.scrub := by unfold State.hold; split <;> rfl
@[simp] theorem hold_dacs (s : State) (k : Nat) : (s.hold k).dacs = s.dacs := by unfold State.hold; split <;> rfl
@[simp] theorem hold_strobes (s : State) (k : Nat) : (s.hold k).strobes = s.strobes := by unfold State.hold; split <;> rfl
@[simp] theorem hold_lanes (s : State) (k : Nat) : (s.hold k).lanes = s.lanes := by unfold State.hold; split <;> rfl
@[simp] theorem hold_exports (s : State) (k : Nat) : (s.hold k).exports = s.exports := by unfold State.hold; split <;> rfl
@[simp] theorem hold_peers (s : State) (k : Nat) : (s.hold k).peers = s.peers := by unfold State.hold; split <;> rfl
@[simp] theorem hold_pins (s : State) (k : Nat) : (s.hold k).pins = s.pins := by unfold State.hold; split <;> rfl
@[simp] theorem hold_pats (s : State) (k : Nat) : (s.hold k).pats = s.pats := by unfold State.hold; split <;> rfl
@[simp] theorem hold_copying (s : State) (k : Nat) : (s.hold k).copying = s.copying := by unfold State.hold; split <;> rfl
@[simp] theorem hold_railsLow (s : State) (k : Nat) : (s.hold k).railsLow = s.railsLow := by unfold State.hold; split <;> rfl
@[simp] theorem hold_freeCount (s : State) (k : Nat) : (s.hold k).freeCount = s.freeCount := by unfold State.hold; split <;> rfl
@[simp] theorem hold_pending (s : State) (k : Nat) : (s.hold k).pending = s.pending := by unfold State.hold; split <;> rfl
@[simp] theorem hold_obj (s : State) (k : Nat) (i : Nat) : (s.hold k).obj i = s.obj i := by unfold State.hold; split <;> rfl

/-! `notify` -/
@[simp] theorem notify_variant (s : State) (n : Nat) (c : Bool) : (s.notify n c).variant = s.variant := by unfold State.notify; split <;> rfl
@[simp] theorem notify_clock (s : State) (n : Nat) (c : Bool) : (s.notify n c).clock = s.clock := by unfold State.notify; split <;> rfl
@[simp] theorem notify_time (s : State) (n : Nat) (c : Bool) : (s.notify n c).time = s.time := by unfold State.notify; split <;> rfl
@[simp] theorem notify_timeRem (s : State) (n : Nat) (c : Bool) : (s.notify n c).timeRem = s.timeRem := by unfold State.notify; split <;> rfl
@[simp] theorem notify_dict (s : State) (n : Nat) (c : Bool) : (s.notify n c).dict = s.dict := by unfold State.notify; split <;> rfl
@[simp] theorem notify_inForce (s : State) (n : Nat) (c : Bool) : (s.notify n c).inForce = s.inForce := by unfold State.notify; split <;> rfl
@[simp] theorem notify_blobs (s : State) (n : Nat) (c : Bool) : (s.notify n c).blobs = s.blobs := by unfold State.notify; split <;> rfl
@[simp] theorem notify_writers (s : State) (n : Nat) (c : Bool) : (s.notify n c).writers = s.writers := by unfold State.notify; split <;> rfl
@[simp] theorem notify_ports (s : State) (n : Nat) (c : Bool) : (s.notify n c).ports = s.ports := by unfold State.notify; split <;> rfl
@[simp] theorem notify_transfers (s : State) (n : Nat) (c : Bool) : (s.notify n c).transfers = s.transfers := by unfold State.notify; split <;> rfl
@[simp] theorem notify_silenced (s : State) (n : Nat) (c : Bool) : (s.notify n c).silenced = s.silenced := by unfold State.notify; split <;> rfl
@[simp] theorem notify_subs (s : State) (n : Nat) (c : Bool) : (s.notify n c).subs = s.subs := by unfold State.notify; split <;> rfl
@[simp] theorem notify_replays (s : State) (n : Nat) (c : Bool) : (s.notify n c).replays = s.replays := by unfold State.notify; split <;> rfl
@[simp] theorem notify_ended (s : State) (n : Nat) (c : Bool) : (s.notify n c).ended = s.ended := by unfold State.notify; split <;> rfl
@[simp] theorem notify_served (s : State) (n : Nat) (c : Bool) : (s.notify n c).served = s.served := by unfold State.notify; split <;> rfl
@[simp] theorem notify_identity (s : State) (n : Nat) (c : Bool) : (s.notify n c).identity = s.identity := by unfold State.notify; split <;> rfl
@[simp] theorem notify_quadEdge (s : State) (n : Nat) (c : Bool) : (s.notify n c).quadEdge = s.quadEdge := by unfold State.notify; split <;> rfl
@[simp] theorem notify_trace (s : State) (n : Nat) (c : Bool) : (s.notify n c).trace = s.trace := by unfold State.notify; split <;> rfl
@[simp] theorem notify_emitted (s : State) (n : Nat) (c : Bool) : (s.notify n c).emitted = s.emitted := by unfold State.notify; split <;> rfl
@[simp] theorem notify_porLow (s : State) (n : Nat) (c : Bool) : (s.notify n c).porLow = s.porLow := by unfold State.notify; split <;> rfl
@[simp] theorem notify_safeLow (s : State) (n : Nat) (c : Bool) : (s.notify n c).safeLow = s.safeLow := by unfold State.notify; split <;> rfl
@[simp] theorem notify_strap (s : State) (n : Nat) (c : Bool) : (s.notify n c).strap = s.strap := by unfold State.notify; split <;> rfl
@[simp] theorem notify_slotA (s : State) (n : Nat) (c : Bool) : (s.notify n c).slotA = s.slotA := by unfold State.notify; split <;> rfl
@[simp] theorem notify_slotB (s : State) (n : Nat) (c : Bool) : (s.notify n c).slotB = s.slotB := by unfold State.notify; split <;> rfl
@[simp] theorem notify_flashSelect (s : State) (n : Nat) (c : Bool) : (s.notify n c).flashSelect = s.flashSelect := by unfold State.notify; split <;> rfl
@[simp] theorem notify_seqWords (s : State) (n : Nat) (c : Bool) : (s.notify n c).seqWords = s.seqWords := by unfold State.notify; split <;> rfl
@[simp] theorem notify_boot (s : State) (n : Nat) (c : Bool) : (s.notify n c).boot = s.boot := by unfold State.notify; split <;> rfl
@[simp] theorem notify_trans (s : State) (n : Nat) (c : Bool) : (s.notify n c).trans = s.trans := by unfold State.notify; split <;> rfl
@[simp] theorem notify_halted (s : State) (n : Nat) (c : Bool) : (s.notify n c).halted = s.halted := by unfold State.notify; split <;> rfl
@[simp] theorem notify_silent (s : State) (n : Nat) (c : Bool) : (s.notify n c).silent = s.silent := by unfold State.notify; split <;> rfl
@[simp] theorem notify_mem (s : State) (n : Nat) (c : Bool) : (s.notify n c).mem = s.mem := by unfold State.notify; split <;> rfl
@[simp] theorem notify_poison (s : State) (n : Nat) (c : Bool) : (s.notify n c).poison = s.poison := by unfold State.notify; split <;> rfl
@[simp] theorem notify_corrections (s : State) (n : Nat) (c : Bool) : (s.notify n c).corrections = s.corrections := by unfold State.notify; split <;> rfl
@[simp] theorem notify_retireQ (s : State) (n : Nat) (c : Bool) : (s.notify n c).retireQ = s.retireQ := by unfold State.notify; split <;> rfl
@[simp] theorem notify_customMasks (s : State) (n : Nat) (c : Bool) : (s.notify n c).customMasks = s.customMasks := by unfold State.notify; split <;> rfl
@[simp] theorem notify_pcs (s : State) (n : Nat) (c : Bool) : (s.notify n c).pcs = s.pcs := by unfold State.notify; split <;> rfl
@[simp] theorem notify_safeAsk (s : State) (n : Nat) (c : Bool) : (s.notify n c).safeAsk = s.safeAsk := by unfold State.notify; split <;> rfl
@[simp] theorem notify_ctxs (s : State) (n : Nat) (c : Bool) : (s.notify n c).ctxs = s.ctxs := by unfold State.notify; split <;> rfl
@[simp] theorem notify_tiles (s : State) (n : Nat) (c : Bool) : (s.notify n c).tiles = s.tiles := by unfold State.notify; split <;> rfl
@[simp] theorem notify_mons (s : State) (n : Nat) (c : Bool) : (s.notify n c).mons = s.mons := by unfold State.notify; split <;> rfl
@[simp] theorem notify_chains (s : State) (n : Nat) (c : Bool) : (s.notify n c).chains = s.chains := by unfold State.notify; split <;> rfl
@[simp] theorem notify_encs (s : State) (n : Nat) (c : Bool) : (s.notify n c).encs = s.encs := by unfold State.notify; split <;> rfl
@[simp] theorem notify_pitches (s : State) (n : Nat) (c : Bool) : (s.notify n c).pitches = s.pitches := by unfold State.notify; split <;> rfl
@[simp] theorem notify_feTurn (s : State) (n : Nat) (c : Bool) : (s.notify n c).feTurn = s.feTurn := by unfold State.notify; split <;> rfl
@[simp] theorem notify_coarse (s : State) (n : Nat) (c : Bool) : (s.notify n c).coarse = s.coarse := by unfold State.notify; split <;> rfl
@[simp] theorem notify_lockRuns (s : State) (n : Nat) (c : Bool) : (s.notify n c).lockRuns = s.lockRuns := by unfold State.notify; split <;> rfl
@[simp] theorem notify_refLost (s : State) (n : Nat) (c : Bool) : (s.notify n c).refLost = s.refLost := by unfold State.notify; split <;> rfl
@[simp] theorem notify_untested (s : State) (n : Nat) (c : Bool) : (s.notify n c).untested = s.untested := by unfold State.notify; split <;> rfl
@[simp] theorem notify_boardNext (s : State) (n : Nat) (c : Bool) : (s.notify n c).boardNext = s.boardNext := by unfold State.notify; split <;> rfl
@[simp] theorem notify_boardWas (s : State) (n : Nat) (c : Bool) : (s.notify n c).boardWas = s.boardWas := by unfold State.notify; split <;> rfl
@[simp] theorem notify_plan (s : State) (n : Nat) (c : Bool) : (s.notify n c).plan = s.plan := by unfold State.notify; split <;> rfl
@[simp] theorem notify_placeDirty (s : State) (n : Nat) (c : Bool) : (s.notify n c).placeDirty = s.placeDirty := by unfold State.notify; split <;> rfl
@[simp] theorem notify_trial (s : State) (n : Nat) (c : Bool) : (s.notify n c).trial = s.trial := by unfold State.notify; split <;> rfl
@[simp] theorem notify_defects (s : State) (n : Nat) (c : Bool) : (s.notify n c).defects = s.defects := by unfold State.notify; split <;> rfl
@[simp] theorem notify_swaps (s : State) (n : Nat) (c : Bool) : (s.notify n c).swaps = s.swaps := by unfold State.notify; split <;> rfl
@[simp] theorem notify_moves (s : State) (n : Nat) (c : Bool) : (s.notify n c).moves = s.moves := by unfold State.notify; split <;> rfl
@[simp] theorem notify_invarBad (s : State) (n : Nat) (c : Bool) : (s.notify n c).invarBad = s.invarBad := by unfold State.notify; split <;> rfl
@[simp] theorem notify_invarGood (s : State) (n : Nat) (c : Bool) : (s.notify n c).invarGood = s.invarGood := by unfold State.notify; split <;> rfl
@[simp] theorem notify_pinLevels (s : State) (n : Nat) (c : Bool) : (s.notify n c).pinLevels = s.pinLevels := by unfold State.notify; split <;> rfl
@[simp] theorem notify_cadenceBad (s : State) (n : Nat) (c : Bool) : (s.notify n c).cadenceBad = s.cadenceBad := by unfold State.notify; split <;> rfl
@[simp] theorem notify_rally (s : State) (n : Nat) (c : Bool) : (s.notify n c).rally = s.rally := by unfold State.notify; split <;> rfl
@[simp] theorem notify_whistleUntil (s : State) (n : Nat) (c : Bool) : (s.notify n c).whistleUntil = s.whistleUntil := by unfold State.notify; split <;> rfl
@[simp] theorem notify_bs (s : State) (n : Nat) (c : Bool) : (s.notify n c).bs = s.bs := by unfold State.notify; split <;> rfl
@[simp] theorem notify_wires (s : State) (n : Nat) (c : Bool) : (s.notify n c).wires = s.wires := by unfold State.notify; split <;> rfl
@[simp] theorem notify_fabs (s : State) (n : Nat) (c : Bool) : (s.notify n c).fabs = s.fabs := by unfold State.notify; split <;> rfl
@[simp] theorem notify_nets (s : State) (n : Nat) (c : Bool) : (s.notify n c).nets = s.nets := by unfold State.notify; split <;> rfl
@[simp] theorem notify_samples (s : State) (n : Nat) (c : Bool) : (s.notify n c).samples = s.samples := by unfold State.notify; split <;> rfl
@[simp] theorem notify_frames (s : State) (n : Nat) (c : Bool) : (s.notify n c).frames = s.frames := by unfold State.notify; split <;> rfl
@[simp] theorem notify_reload (s : State) (n : Nat) (c : Bool) : (s.notify n c).reload = s.reload := by unfold State.notify; split <;> rfl
@[simp] theorem notify_scrub (s : State) (n : Nat) (c : Bool) : (s.notify n c).scrub = s.scrub := by unfold State.notify; split <;> rfl
@[simp] theorem notify_dacs (s : State) (n : Nat) (c : Bool) : (s.notify n c).dacs = s.dacs := by unfold State.notify; split <;> rfl
@[simp] theorem notify_strobes (s : State) (n : Nat) (c : Bool) : (s.notify n c).strobes = s.strobes := by unfold State.notify; split <;> rfl
@[simp] theorem notify_lanes (s : State) (n : Nat) (c : Bool) : (s.notify n c).lanes = s.lanes := by unfold State.notify; split <;> rfl
@[simp] theorem notify_exports (s : State) (n : Nat) (c : Bool) : (s.notify n c).exports = s.exports := by unfold State.notify; split <;> rfl
@[simp] theorem notify_peers (s : State) (n : Nat) (c : Bool) : (s.notify n c).peers = s.peers := by unfold State.notify; split <;> rfl
@[simp] theorem notify_pins (s : State) (n : Nat) (c : Bool) : (s.notify n c).pins = s.pins := by unfold State.notify; split <;> rfl
@[simp] theorem notify_pats (s : State) (n : Nat) (c : Bool) : (s.notify n c).pats = s.pats := by unfold State.notify; split <;> rfl
@[simp] theorem notify_copying (s : State) (n : Nat) (c : Bool) : (s.notify n c).copying = s.copying := by unfold State.notify; split <;> rfl
@[simp] theorem notify_railsLow (s : State) (n : Nat) (c : Bool) : (s.notify n c).railsLow = s.railsLow := by unfold State.notify; split <;> rfl
@[simp] theorem notify_freeCount (s : State) (n : Nat) (c : Bool) : (s.notify n c).freeCount = s.freeCount := by unfold State.notify; split <;> rfl
@[simp] theorem notify_pending (s : State) (n : Nat) (c : Bool) : (s.notify n c).pending = s.pending := by unfold State.notify; split <;> rfl
@[simp] theorem notify_obj (s : State) (n : Nat) (c : Bool) (i : Nat) : (s.notify n c).obj i = s.obj i := by unfold State.notify; split <;> rfl

/-! `raise` -/
@[simp] theorem raise_variant (s : State) (n d : Nat) : (s.raise n d).variant = s.variant := by simp only [State.raise, apply_ite State.variant, notify_variant, set_variant, count_variant, ite_self]
@[simp] theorem raise_clock (s : State) (n d : Nat) : (s.raise n d).clock = s.clock := by simp only [State.raise, apply_ite State.clock, notify_clock, set_clock, count_clock, ite_self]
@[simp] theorem raise_time (s : State) (n d : Nat) : (s.raise n d).time = s.time := by simp only [State.raise, apply_ite State.time, notify_time, set_time, count_time, ite_self]
@[simp] theorem raise_timeRem (s : State) (n d : Nat) : (s.raise n d).timeRem = s.timeRem := by simp only [State.raise, apply_ite State.timeRem, notify_timeRem, set_timeRem, count_timeRem, ite_self]
@[simp] theorem raise_inForce (s : State) (n d : Nat) : (s.raise n d).inForce = s.inForce := by simp only [State.raise, apply_ite State.inForce, notify_inForce, set_inForce, count_inForce, ite_self]
@[simp] theorem raise_blobs (s : State) (n d : Nat) : (s.raise n d).blobs = s.blobs := by simp only [State.raise, apply_ite State.blobs, notify_blobs, set_blobs, count_blobs, ite_self]
@[simp] theorem raise_ports (s : State) (n d : Nat) : (s.raise n d).ports = s.ports := by simp only [State.raise, apply_ite State.ports, notify_ports, set_ports, count_ports, ite_self]
@[simp] theorem raise_transfers (s : State) (n d : Nat) : (s.raise n d).transfers = s.transfers := by simp only [State.raise, apply_ite State.transfers, notify_transfers, set_transfers, count_transfers, ite_self]
@[simp] theorem raise_silenced (s : State) (n d : Nat) : (s.raise n d).silenced = s.silenced := by simp only [State.raise, apply_ite State.silenced, notify_silenced, set_silenced, count_silenced, ite_self]
@[simp] theorem raise_subs (s : State) (n d : Nat) : (s.raise n d).subs = s.subs := by simp only [State.raise, apply_ite State.subs, notify_subs, set_subs, count_subs, ite_self]
@[simp] theorem raise_replays (s : State) (n d : Nat) : (s.raise n d).replays = s.replays := by simp only [State.raise, apply_ite State.replays, notify_replays, set_replays, count_replays, ite_self]
@[simp] theorem raise_ended (s : State) (n d : Nat) : (s.raise n d).ended = s.ended := by simp only [State.raise, apply_ite State.ended, notify_ended, set_ended, count_ended, ite_self]
@[simp] theorem raise_served (s : State) (n d : Nat) : (s.raise n d).served = s.served := by simp only [State.raise, apply_ite State.served, notify_served, set_served, count_served, ite_self]
@[simp] theorem raise_identity (s : State) (n d : Nat) : (s.raise n d).identity = s.identity := by simp only [State.raise, apply_ite State.identity, notify_identity, set_identity, count_identity, ite_self]
@[simp] theorem raise_quadEdge (s : State) (n d : Nat) : (s.raise n d).quadEdge = s.quadEdge := by simp only [State.raise, apply_ite State.quadEdge, notify_quadEdge, set_quadEdge, count_quadEdge, ite_self]
@[simp] theorem raise_trace (s : State) (n d : Nat) : (s.raise n d).trace = s.trace := by simp only [State.raise, apply_ite State.trace, notify_trace, set_trace, count_trace, ite_self]
@[simp] theorem raise_emitted (s : State) (n d : Nat) : (s.raise n d).emitted = s.emitted := by simp only [State.raise, apply_ite State.emitted, notify_emitted, set_emitted, count_emitted, ite_self]
@[simp] theorem raise_porLow (s : State) (n d : Nat) : (s.raise n d).porLow = s.porLow := by simp only [State.raise, apply_ite State.porLow, notify_porLow, set_porLow, count_porLow, ite_self]
@[simp] theorem raise_safeLow (s : State) (n d : Nat) : (s.raise n d).safeLow = s.safeLow := by simp only [State.raise, apply_ite State.safeLow, notify_safeLow, set_safeLow, count_safeLow, ite_self]
@[simp] theorem raise_strap (s : State) (n d : Nat) : (s.raise n d).strap = s.strap := by simp only [State.raise, apply_ite State.strap, notify_strap, set_strap, count_strap, ite_self]
@[simp] theorem raise_slotA (s : State) (n d : Nat) : (s.raise n d).slotA = s.slotA := by simp only [State.raise, apply_ite State.slotA, notify_slotA, set_slotA, count_slotA, ite_self]
@[simp] theorem raise_slotB (s : State) (n d : Nat) : (s.raise n d).slotB = s.slotB := by simp only [State.raise, apply_ite State.slotB, notify_slotB, set_slotB, count_slotB, ite_self]
@[simp] theorem raise_flashSelect (s : State) (n d : Nat) : (s.raise n d).flashSelect = s.flashSelect := by simp only [State.raise, apply_ite State.flashSelect, notify_flashSelect, set_flashSelect, count_flashSelect, ite_self]
@[simp] theorem raise_seqWords (s : State) (n d : Nat) : (s.raise n d).seqWords = s.seqWords := by simp only [State.raise, apply_ite State.seqWords, notify_seqWords, set_seqWords, count_seqWords, ite_self]
@[simp] theorem raise_boot (s : State) (n d : Nat) : (s.raise n d).boot = s.boot := by simp only [State.raise, apply_ite State.boot, notify_boot, set_boot, count_boot, ite_self]
@[simp] theorem raise_trans (s : State) (n d : Nat) : (s.raise n d).trans = s.trans := by simp only [State.raise, apply_ite State.trans, notify_trans, set_trans, count_trans, ite_self]
@[simp] theorem raise_halted (s : State) (n d : Nat) : (s.raise n d).halted = s.halted := by simp only [State.raise, apply_ite State.halted, notify_halted, set_halted, count_halted, ite_self]
@[simp] theorem raise_silent (s : State) (n d : Nat) : (s.raise n d).silent = s.silent := by simp only [State.raise, apply_ite State.silent, notify_silent, set_silent, count_silent, ite_self]
@[simp] theorem raise_mem (s : State) (n d : Nat) : (s.raise n d).mem = s.mem := by simp only [State.raise, apply_ite State.mem, notify_mem, set_mem, count_mem, ite_self]
@[simp] theorem raise_poison (s : State) (n d : Nat) : (s.raise n d).poison = s.poison := by simp only [State.raise, apply_ite State.poison, notify_poison, set_poison, count_poison, ite_self]
@[simp] theorem raise_corrections (s : State) (n d : Nat) : (s.raise n d).corrections = s.corrections := by simp only [State.raise, apply_ite State.corrections, notify_corrections, set_corrections, count_corrections, ite_self]
@[simp] theorem raise_retireQ (s : State) (n d : Nat) : (s.raise n d).retireQ = s.retireQ := by simp only [State.raise, apply_ite State.retireQ, notify_retireQ, set_retireQ, count_retireQ, ite_self]
@[simp] theorem raise_customMasks (s : State) (n d : Nat) : (s.raise n d).customMasks = s.customMasks := by simp only [State.raise, apply_ite State.customMasks, notify_customMasks, set_customMasks, count_customMasks, ite_self]
@[simp] theorem raise_pcs (s : State) (n d : Nat) : (s.raise n d).pcs = s.pcs := by simp only [State.raise, apply_ite State.pcs, notify_pcs, set_pcs, count_pcs, ite_self]
@[simp] theorem raise_safeAsk (s : State) (n d : Nat) : (s.raise n d).safeAsk = s.safeAsk := by simp only [State.raise, apply_ite State.safeAsk, notify_safeAsk, set_safeAsk, count_safeAsk, ite_self]
@[simp] theorem raise_ctxs (s : State) (n d : Nat) : (s.raise n d).ctxs = s.ctxs := by simp only [State.raise, apply_ite State.ctxs, notify_ctxs, set_ctxs, count_ctxs, ite_self]
@[simp] theorem raise_tiles (s : State) (n d : Nat) : (s.raise n d).tiles = s.tiles := by simp only [State.raise, apply_ite State.tiles, notify_tiles, set_tiles, count_tiles, ite_self]
@[simp] theorem raise_mons (s : State) (n d : Nat) : (s.raise n d).mons = s.mons := by simp only [State.raise, apply_ite State.mons, notify_mons, set_mons, count_mons, ite_self]
@[simp] theorem raise_chains (s : State) (n d : Nat) : (s.raise n d).chains = s.chains := by simp only [State.raise, apply_ite State.chains, notify_chains, set_chains, count_chains, ite_self]
@[simp] theorem raise_encs (s : State) (n d : Nat) : (s.raise n d).encs = s.encs := by simp only [State.raise, apply_ite State.encs, notify_encs, set_encs, count_encs, ite_self]
@[simp] theorem raise_pitches (s : State) (n d : Nat) : (s.raise n d).pitches = s.pitches := by simp only [State.raise, apply_ite State.pitches, notify_pitches, set_pitches, count_pitches, ite_self]
@[simp] theorem raise_feTurn (s : State) (n d : Nat) : (s.raise n d).feTurn = s.feTurn := by simp only [State.raise, apply_ite State.feTurn, notify_feTurn, set_feTurn, count_feTurn, ite_self]
@[simp] theorem raise_coarse (s : State) (n d : Nat) : (s.raise n d).coarse = s.coarse := by simp only [State.raise, apply_ite State.coarse, notify_coarse, set_coarse, count_coarse, ite_self]
@[simp] theorem raise_lockRuns (s : State) (n d : Nat) : (s.raise n d).lockRuns = s.lockRuns := by simp only [State.raise, apply_ite State.lockRuns, notify_lockRuns, set_lockRuns, count_lockRuns, ite_self]
@[simp] theorem raise_refLost (s : State) (n d : Nat) : (s.raise n d).refLost = s.refLost := by simp only [State.raise, apply_ite State.refLost, notify_refLost, set_refLost, count_refLost, ite_self]
@[simp] theorem raise_untested (s : State) (n d : Nat) : (s.raise n d).untested = s.untested := by simp only [State.raise, apply_ite State.untested, notify_untested, set_untested, count_untested, ite_self]
@[simp] theorem raise_boardNext (s : State) (n d : Nat) : (s.raise n d).boardNext = s.boardNext := by simp only [State.raise, apply_ite State.boardNext, notify_boardNext, set_boardNext, count_boardNext, ite_self]
@[simp] theorem raise_boardWas (s : State) (n d : Nat) : (s.raise n d).boardWas = s.boardWas := by simp only [State.raise, apply_ite State.boardWas, notify_boardWas, set_boardWas, count_boardWas, ite_self]
@[simp] theorem raise_plan (s : State) (n d : Nat) : (s.raise n d).plan = s.plan := by simp only [State.raise, apply_ite State.plan, notify_plan, set_plan, count_plan, ite_self]
@[simp] theorem raise_placeDirty (s : State) (n d : Nat) : (s.raise n d).placeDirty = s.placeDirty := by simp only [State.raise, apply_ite State.placeDirty, notify_placeDirty, set_placeDirty, count_placeDirty, ite_self]
@[simp] theorem raise_trial (s : State) (n d : Nat) : (s.raise n d).trial = s.trial := by simp only [State.raise, apply_ite State.trial, notify_trial, set_trial, count_trial, ite_self]
@[simp] theorem raise_defects (s : State) (n d : Nat) : (s.raise n d).defects = s.defects := by simp only [State.raise, apply_ite State.defects, notify_defects, set_defects, count_defects, ite_self]
@[simp] theorem raise_swaps (s : State) (n d : Nat) : (s.raise n d).swaps = s.swaps := by simp only [State.raise, apply_ite State.swaps, notify_swaps, set_swaps, count_swaps, ite_self]
@[simp] theorem raise_moves (s : State) (n d : Nat) : (s.raise n d).moves = s.moves := by simp only [State.raise, apply_ite State.moves, notify_moves, set_moves, count_moves, ite_self]
@[simp] theorem raise_invarBad (s : State) (n d : Nat) : (s.raise n d).invarBad = s.invarBad := by simp only [State.raise, apply_ite State.invarBad, notify_invarBad, set_invarBad, count_invarBad, ite_self]
@[simp] theorem raise_invarGood (s : State) (n d : Nat) : (s.raise n d).invarGood = s.invarGood := by simp only [State.raise, apply_ite State.invarGood, notify_invarGood, set_invarGood, count_invarGood, ite_self]
@[simp] theorem raise_pinLevels (s : State) (n d : Nat) : (s.raise n d).pinLevels = s.pinLevels := by simp only [State.raise, apply_ite State.pinLevels, notify_pinLevels, set_pinLevels, count_pinLevels, ite_self]
@[simp] theorem raise_cadenceBad (s : State) (n d : Nat) : (s.raise n d).cadenceBad = s.cadenceBad := by simp only [State.raise, apply_ite State.cadenceBad, notify_cadenceBad, set_cadenceBad, count_cadenceBad, ite_self]
@[simp] theorem raise_rally (s : State) (n d : Nat) : (s.raise n d).rally = s.rally := by simp only [State.raise, apply_ite State.rally, notify_rally, set_rally, count_rally, ite_self]
@[simp] theorem raise_whistleUntil (s : State) (n d : Nat) : (s.raise n d).whistleUntil = s.whistleUntil := by simp only [State.raise, apply_ite State.whistleUntil, notify_whistleUntil, set_whistleUntil, count_whistleUntil, ite_self]
@[simp] theorem raise_bs (s : State) (n d : Nat) : (s.raise n d).bs = s.bs := by simp only [State.raise, apply_ite State.bs, notify_bs, set_bs, count_bs, ite_self]
@[simp] theorem raise_wires (s : State) (n d : Nat) : (s.raise n d).wires = s.wires := by simp only [State.raise, apply_ite State.wires, notify_wires, set_wires, count_wires, ite_self]
@[simp] theorem raise_fabs (s : State) (n d : Nat) : (s.raise n d).fabs = s.fabs := by simp only [State.raise, apply_ite State.fabs, notify_fabs, set_fabs, count_fabs, ite_self]
@[simp] theorem raise_nets (s : State) (n d : Nat) : (s.raise n d).nets = s.nets := by simp only [State.raise, apply_ite State.nets, notify_nets, set_nets, count_nets, ite_self]
@[simp] theorem raise_samples (s : State) (n d : Nat) : (s.raise n d).samples = s.samples := by simp only [State.raise, apply_ite State.samples, notify_samples, set_samples, count_samples, ite_self]
@[simp] theorem raise_frames (s : State) (n d : Nat) : (s.raise n d).frames = s.frames := by simp only [State.raise, apply_ite State.frames, notify_frames, set_frames, count_frames, ite_self]
@[simp] theorem raise_reload (s : State) (n d : Nat) : (s.raise n d).reload = s.reload := by simp only [State.raise, apply_ite State.reload, notify_reload, set_reload, count_reload, ite_self]
@[simp] theorem raise_scrub (s : State) (n d : Nat) : (s.raise n d).scrub = s.scrub := by simp only [State.raise, apply_ite State.scrub, notify_scrub, set_scrub, count_scrub, ite_self]
@[simp] theorem raise_dacs (s : State) (n d : Nat) : (s.raise n d).dacs = s.dacs := by simp only [State.raise, apply_ite State.dacs, notify_dacs, set_dacs, count_dacs, ite_self]
@[simp] theorem raise_strobes (s : State) (n d : Nat) : (s.raise n d).strobes = s.strobes := by simp only [State.raise, apply_ite State.strobes, notify_strobes, set_strobes, count_strobes, ite_self]
@[simp] theorem raise_lanes (s : State) (n d : Nat) : (s.raise n d).lanes = s.lanes := by simp only [State.raise, apply_ite State.lanes, notify_lanes, set_lanes, count_lanes, ite_self]
@[simp] theorem raise_exports (s : State) (n d : Nat) : (s.raise n d).exports = s.exports := by simp only [State.raise, apply_ite State.exports, notify_exports, set_exports, count_exports, ite_self]
@[simp] theorem raise_peers (s : State) (n d : Nat) : (s.raise n d).peers = s.peers := by simp only [State.raise, apply_ite State.peers, notify_peers, set_peers, count_peers, ite_self]
@[simp] theorem raise_pins (s : State) (n d : Nat) : (s.raise n d).pins = s.pins := by simp only [State.raise, apply_ite State.pins, notify_pins, set_pins, count_pins, ite_self]
@[simp] theorem raise_pats (s : State) (n d : Nat) : (s.raise n d).pats = s.pats := by simp only [State.raise, apply_ite State.pats, notify_pats, set_pats, count_pats, ite_self]
@[simp] theorem raise_copying (s : State) (n d : Nat) : (s.raise n d).copying = s.copying := by simp only [State.raise, apply_ite State.copying, notify_copying, set_copying, count_copying, ite_self]
@[simp] theorem raise_railsLow (s : State) (n d : Nat) : (s.raise n d).railsLow = s.railsLow := by simp only [State.raise, apply_ite State.railsLow, notify_railsLow, set_railsLow, count_railsLow, ite_self]
@[simp] theorem raise_freeCount (s : State) (n d : Nat) : (s.raise n d).freeCount = s.freeCount := by simp only [State.raise, apply_ite State.freeCount, notify_freeCount, set_freeCount, count_freeCount, ite_self]
@[simp] theorem raise_pending (s : State) (n d : Nat) : (s.raise n d).pending = s.pending := by simp only [State.raise, apply_ite State.pending, notify_pending, set_pending, count_pending, ite_self]

/-! `lower` -/
@[simp] theorem lower_variant (s : State) (n : Nat) : (s.lower n).variant = s.variant := by simp only [State.lower, apply_ite State.variant, notify_variant, set_variant, ite_self]
@[simp] theorem lower_clock (s : State) (n : Nat) : (s.lower n).clock = s.clock := by simp only [State.lower, apply_ite State.clock, notify_clock, set_clock, ite_self]
@[simp] theorem lower_time (s : State) (n : Nat) : (s.lower n).time = s.time := by simp only [State.lower, apply_ite State.time, notify_time, set_time, ite_self]
@[simp] theorem lower_timeRem (s : State) (n : Nat) : (s.lower n).timeRem = s.timeRem := by simp only [State.lower, apply_ite State.timeRem, notify_timeRem, set_timeRem, ite_self]
@[simp] theorem lower_inForce (s : State) (n : Nat) : (s.lower n).inForce = s.inForce := by simp only [State.lower, apply_ite State.inForce, notify_inForce, set_inForce, ite_self]
@[simp] theorem lower_blobs (s : State) (n : Nat) : (s.lower n).blobs = s.blobs := by simp only [State.lower, apply_ite State.blobs, notify_blobs, set_blobs, ite_self]
@[simp] theorem lower_ports (s : State) (n : Nat) : (s.lower n).ports = s.ports := by simp only [State.lower, apply_ite State.ports, notify_ports, set_ports, ite_self]
@[simp] theorem lower_transfers (s : State) (n : Nat) : (s.lower n).transfers = s.transfers := by simp only [State.lower, apply_ite State.transfers, notify_transfers, set_transfers, ite_self]
@[simp] theorem lower_silenced (s : State) (n : Nat) : (s.lower n).silenced = s.silenced := by simp only [State.lower, apply_ite State.silenced, notify_silenced, set_silenced, ite_self]
@[simp] theorem lower_subs (s : State) (n : Nat) : (s.lower n).subs = s.subs := by simp only [State.lower, apply_ite State.subs, notify_subs, set_subs, ite_self]
@[simp] theorem lower_replays (s : State) (n : Nat) : (s.lower n).replays = s.replays := by simp only [State.lower, apply_ite State.replays, notify_replays, set_replays, ite_self]
@[simp] theorem lower_ended (s : State) (n : Nat) : (s.lower n).ended = s.ended := by simp only [State.lower, apply_ite State.ended, notify_ended, set_ended, ite_self]
@[simp] theorem lower_served (s : State) (n : Nat) : (s.lower n).served = s.served := by simp only [State.lower, apply_ite State.served, notify_served, set_served, ite_self]
@[simp] theorem lower_identity (s : State) (n : Nat) : (s.lower n).identity = s.identity := by simp only [State.lower, apply_ite State.identity, notify_identity, set_identity, ite_self]
@[simp] theorem lower_quadEdge (s : State) (n : Nat) : (s.lower n).quadEdge = s.quadEdge := by simp only [State.lower, apply_ite State.quadEdge, notify_quadEdge, set_quadEdge, ite_self]
@[simp] theorem lower_trace (s : State) (n : Nat) : (s.lower n).trace = s.trace := by simp only [State.lower, apply_ite State.trace, notify_trace, set_trace, ite_self]
@[simp] theorem lower_emitted (s : State) (n : Nat) : (s.lower n).emitted = s.emitted := by simp only [State.lower, apply_ite State.emitted, notify_emitted, set_emitted, ite_self]
@[simp] theorem lower_porLow (s : State) (n : Nat) : (s.lower n).porLow = s.porLow := by simp only [State.lower, apply_ite State.porLow, notify_porLow, set_porLow, ite_self]
@[simp] theorem lower_safeLow (s : State) (n : Nat) : (s.lower n).safeLow = s.safeLow := by simp only [State.lower, apply_ite State.safeLow, notify_safeLow, set_safeLow, ite_self]
@[simp] theorem lower_strap (s : State) (n : Nat) : (s.lower n).strap = s.strap := by simp only [State.lower, apply_ite State.strap, notify_strap, set_strap, ite_self]
@[simp] theorem lower_slotA (s : State) (n : Nat) : (s.lower n).slotA = s.slotA := by simp only [State.lower, apply_ite State.slotA, notify_slotA, set_slotA, ite_self]
@[simp] theorem lower_slotB (s : State) (n : Nat) : (s.lower n).slotB = s.slotB := by simp only [State.lower, apply_ite State.slotB, notify_slotB, set_slotB, ite_self]
@[simp] theorem lower_flashSelect (s : State) (n : Nat) : (s.lower n).flashSelect = s.flashSelect := by simp only [State.lower, apply_ite State.flashSelect, notify_flashSelect, set_flashSelect, ite_self]
@[simp] theorem lower_seqWords (s : State) (n : Nat) : (s.lower n).seqWords = s.seqWords := by simp only [State.lower, apply_ite State.seqWords, notify_seqWords, set_seqWords, ite_self]
@[simp] theorem lower_boot (s : State) (n : Nat) : (s.lower n).boot = s.boot := by simp only [State.lower, apply_ite State.boot, notify_boot, set_boot, ite_self]
@[simp] theorem lower_trans (s : State) (n : Nat) : (s.lower n).trans = s.trans := by simp only [State.lower, apply_ite State.trans, notify_trans, set_trans, ite_self]
@[simp] theorem lower_halted (s : State) (n : Nat) : (s.lower n).halted = s.halted := by simp only [State.lower, apply_ite State.halted, notify_halted, set_halted, ite_self]
@[simp] theorem lower_silent (s : State) (n : Nat) : (s.lower n).silent = s.silent := by simp only [State.lower, apply_ite State.silent, notify_silent, set_silent, ite_self]
@[simp] theorem lower_mem (s : State) (n : Nat) : (s.lower n).mem = s.mem := by simp only [State.lower, apply_ite State.mem, notify_mem, set_mem, ite_self]
@[simp] theorem lower_poison (s : State) (n : Nat) : (s.lower n).poison = s.poison := by simp only [State.lower, apply_ite State.poison, notify_poison, set_poison, ite_self]
@[simp] theorem lower_corrections (s : State) (n : Nat) : (s.lower n).corrections = s.corrections := by simp only [State.lower, apply_ite State.corrections, notify_corrections, set_corrections, ite_self]
@[simp] theorem lower_retireQ (s : State) (n : Nat) : (s.lower n).retireQ = s.retireQ := by simp only [State.lower, apply_ite State.retireQ, notify_retireQ, set_retireQ, ite_self]
@[simp] theorem lower_customMasks (s : State) (n : Nat) : (s.lower n).customMasks = s.customMasks := by simp only [State.lower, apply_ite State.customMasks, notify_customMasks, set_customMasks, ite_self]
@[simp] theorem lower_pcs (s : State) (n : Nat) : (s.lower n).pcs = s.pcs := by simp only [State.lower, apply_ite State.pcs, notify_pcs, set_pcs, ite_self]
@[simp] theorem lower_safeAsk (s : State) (n : Nat) : (s.lower n).safeAsk = s.safeAsk := by simp only [State.lower, apply_ite State.safeAsk, notify_safeAsk, set_safeAsk, ite_self]
@[simp] theorem lower_ctxs (s : State) (n : Nat) : (s.lower n).ctxs = s.ctxs := by simp only [State.lower, apply_ite State.ctxs, notify_ctxs, set_ctxs, ite_self]
@[simp] theorem lower_tiles (s : State) (n : Nat) : (s.lower n).tiles = s.tiles := by simp only [State.lower, apply_ite State.tiles, notify_tiles, set_tiles, ite_self]
@[simp] theorem lower_mons (s : State) (n : Nat) : (s.lower n).mons = s.mons := by simp only [State.lower, apply_ite State.mons, notify_mons, set_mons, ite_self]
@[simp] theorem lower_chains (s : State) (n : Nat) : (s.lower n).chains = s.chains := by simp only [State.lower, apply_ite State.chains, notify_chains, set_chains, ite_self]
@[simp] theorem lower_encs (s : State) (n : Nat) : (s.lower n).encs = s.encs := by simp only [State.lower, apply_ite State.encs, notify_encs, set_encs, ite_self]
@[simp] theorem lower_pitches (s : State) (n : Nat) : (s.lower n).pitches = s.pitches := by simp only [State.lower, apply_ite State.pitches, notify_pitches, set_pitches, ite_self]
@[simp] theorem lower_feTurn (s : State) (n : Nat) : (s.lower n).feTurn = s.feTurn := by simp only [State.lower, apply_ite State.feTurn, notify_feTurn, set_feTurn, ite_self]
@[simp] theorem lower_coarse (s : State) (n : Nat) : (s.lower n).coarse = s.coarse := by simp only [State.lower, apply_ite State.coarse, notify_coarse, set_coarse, ite_self]
@[simp] theorem lower_lockRuns (s : State) (n : Nat) : (s.lower n).lockRuns = s.lockRuns := by simp only [State.lower, apply_ite State.lockRuns, notify_lockRuns, set_lockRuns, ite_self]
@[simp] theorem lower_refLost (s : State) (n : Nat) : (s.lower n).refLost = s.refLost := by simp only [State.lower, apply_ite State.refLost, notify_refLost, set_refLost, ite_self]
@[simp] theorem lower_untested (s : State) (n : Nat) : (s.lower n).untested = s.untested := by simp only [State.lower, apply_ite State.untested, notify_untested, set_untested, ite_self]
@[simp] theorem lower_boardNext (s : State) (n : Nat) : (s.lower n).boardNext = s.boardNext := by simp only [State.lower, apply_ite State.boardNext, notify_boardNext, set_boardNext, ite_self]
@[simp] theorem lower_boardWas (s : State) (n : Nat) : (s.lower n).boardWas = s.boardWas := by simp only [State.lower, apply_ite State.boardWas, notify_boardWas, set_boardWas, ite_self]
@[simp] theorem lower_plan (s : State) (n : Nat) : (s.lower n).plan = s.plan := by simp only [State.lower, apply_ite State.plan, notify_plan, set_plan, ite_self]
@[simp] theorem lower_placeDirty (s : State) (n : Nat) : (s.lower n).placeDirty = s.placeDirty := by simp only [State.lower, apply_ite State.placeDirty, notify_placeDirty, set_placeDirty, ite_self]
@[simp] theorem lower_trial (s : State) (n : Nat) : (s.lower n).trial = s.trial := by simp only [State.lower, apply_ite State.trial, notify_trial, set_trial, ite_self]
@[simp] theorem lower_defects (s : State) (n : Nat) : (s.lower n).defects = s.defects := by simp only [State.lower, apply_ite State.defects, notify_defects, set_defects, ite_self]
@[simp] theorem lower_swaps (s : State) (n : Nat) : (s.lower n).swaps = s.swaps := by simp only [State.lower, apply_ite State.swaps, notify_swaps, set_swaps, ite_self]
@[simp] theorem lower_moves (s : State) (n : Nat) : (s.lower n).moves = s.moves := by simp only [State.lower, apply_ite State.moves, notify_moves, set_moves, ite_self]
@[simp] theorem lower_invarBad (s : State) (n : Nat) : (s.lower n).invarBad = s.invarBad := by simp only [State.lower, apply_ite State.invarBad, notify_invarBad, set_invarBad, ite_self]
@[simp] theorem lower_invarGood (s : State) (n : Nat) : (s.lower n).invarGood = s.invarGood := by simp only [State.lower, apply_ite State.invarGood, notify_invarGood, set_invarGood, ite_self]
@[simp] theorem lower_pinLevels (s : State) (n : Nat) : (s.lower n).pinLevels = s.pinLevels := by simp only [State.lower, apply_ite State.pinLevels, notify_pinLevels, set_pinLevels, ite_self]
@[simp] theorem lower_cadenceBad (s : State) (n : Nat) : (s.lower n).cadenceBad = s.cadenceBad := by simp only [State.lower, apply_ite State.cadenceBad, notify_cadenceBad, set_cadenceBad, ite_self]
@[simp] theorem lower_rally (s : State) (n : Nat) : (s.lower n).rally = s.rally := by simp only [State.lower, apply_ite State.rally, notify_rally, set_rally, ite_self]
@[simp] theorem lower_whistleUntil (s : State) (n : Nat) : (s.lower n).whistleUntil = s.whistleUntil := by simp only [State.lower, apply_ite State.whistleUntil, notify_whistleUntil, set_whistleUntil, ite_self]
@[simp] theorem lower_bs (s : State) (n : Nat) : (s.lower n).bs = s.bs := by simp only [State.lower, apply_ite State.bs, notify_bs, set_bs, ite_self]
@[simp] theorem lower_wires (s : State) (n : Nat) : (s.lower n).wires = s.wires := by simp only [State.lower, apply_ite State.wires, notify_wires, set_wires, ite_self]
@[simp] theorem lower_fabs (s : State) (n : Nat) : (s.lower n).fabs = s.fabs := by simp only [State.lower, apply_ite State.fabs, notify_fabs, set_fabs, ite_self]
@[simp] theorem lower_nets (s : State) (n : Nat) : (s.lower n).nets = s.nets := by simp only [State.lower, apply_ite State.nets, notify_nets, set_nets, ite_self]
@[simp] theorem lower_samples (s : State) (n : Nat) : (s.lower n).samples = s.samples := by simp only [State.lower, apply_ite State.samples, notify_samples, set_samples, ite_self]
@[simp] theorem lower_frames (s : State) (n : Nat) : (s.lower n).frames = s.frames := by simp only [State.lower, apply_ite State.frames, notify_frames, set_frames, ite_self]
@[simp] theorem lower_reload (s : State) (n : Nat) : (s.lower n).reload = s.reload := by simp only [State.lower, apply_ite State.reload, notify_reload, set_reload, ite_self]
@[simp] theorem lower_scrub (s : State) (n : Nat) : (s.lower n).scrub = s.scrub := by simp only [State.lower, apply_ite State.scrub, notify_scrub, set_scrub, ite_self]
@[simp] theorem lower_dacs (s : State) (n : Nat) : (s.lower n).dacs = s.dacs := by simp only [State.lower, apply_ite State.dacs, notify_dacs, set_dacs, ite_self]
@[simp] theorem lower_strobes (s : State) (n : Nat) : (s.lower n).strobes = s.strobes := by simp only [State.lower, apply_ite State.strobes, notify_strobes, set_strobes, ite_self]
@[simp] theorem lower_lanes (s : State) (n : Nat) : (s.lower n).lanes = s.lanes := by simp only [State.lower, apply_ite State.lanes, notify_lanes, set_lanes, ite_self]
@[simp] theorem lower_exports (s : State) (n : Nat) : (s.lower n).exports = s.exports := by simp only [State.lower, apply_ite State.exports, notify_exports, set_exports, ite_self]
@[simp] theorem lower_peers (s : State) (n : Nat) : (s.lower n).peers = s.peers := by simp only [State.lower, apply_ite State.peers, notify_peers, set_peers, ite_self]
@[simp] theorem lower_pins (s : State) (n : Nat) : (s.lower n).pins = s.pins := by simp only [State.lower, apply_ite State.pins, notify_pins, set_pins, ite_self]
@[simp] theorem lower_pats (s : State) (n : Nat) : (s.lower n).pats = s.pats := by simp only [State.lower, apply_ite State.pats, notify_pats, set_pats, ite_self]
@[simp] theorem lower_copying (s : State) (n : Nat) : (s.lower n).copying = s.copying := by simp only [State.lower, apply_ite State.copying, notify_copying, set_copying, ite_self]
@[simp] theorem lower_railsLow (s : State) (n : Nat) : (s.lower n).railsLow = s.railsLow := by simp only [State.lower, apply_ite State.railsLow, notify_railsLow, set_railsLow, ite_self]
@[simp] theorem lower_freeCount (s : State) (n : Nat) : (s.lower n).freeCount = s.freeCount := by simp only [State.lower, apply_ite State.freeCount, notify_freeCount, set_freeCount, ite_self]
@[simp] theorem lower_pending (s : State) (n : Nat) : (s.lower n).pending = s.pending := by simp only [State.lower, apply_ite State.pending, notify_pending, set_pending, ite_self]

/-! `respond` -/
@[simp] theorem respond_variant (s : State) (p c : Nat) (b : List Byte) : (s.respond p c b).variant = s.variant := by unfold State.respond; split <;> rfl
@[simp] theorem respond_clock (s : State) (p c : Nat) (b : List Byte) : (s.respond p c b).clock = s.clock := by unfold State.respond; split <;> rfl
@[simp] theorem respond_time (s : State) (p c : Nat) (b : List Byte) : (s.respond p c b).time = s.time := by unfold State.respond; split <;> rfl
@[simp] theorem respond_timeRem (s : State) (p c : Nat) (b : List Byte) : (s.respond p c b).timeRem = s.timeRem := by unfold State.respond; split <;> rfl
@[simp] theorem respond_dict (s : State) (p c : Nat) (b : List Byte) : (s.respond p c b).dict = s.dict := by unfold State.respond; split <;> rfl
@[simp] theorem respond_inForce (s : State) (p c : Nat) (b : List Byte) : (s.respond p c b).inForce = s.inForce := by unfold State.respond; split <;> rfl
@[simp] theorem respond_blobs (s : State) (p c : Nat) (b : List Byte) : (s.respond p c b).blobs = s.blobs := by unfold State.respond; split <;> rfl
@[simp] theorem respond_writers (s : State) (p c : Nat) (b : List Byte) : (s.respond p c b).writers = s.writers := by unfold State.respond; split <;> rfl
@[simp] theorem respond_transfers (s : State) (p c : Nat) (b : List Byte) : (s.respond p c b).transfers = s.transfers := by unfold State.respond; split <;> rfl
@[simp] theorem respond_silenced (s : State) (p c : Nat) (b : List Byte) : (s.respond p c b).silenced = s.silenced := by unfold State.respond; split <;> rfl
@[simp] theorem respond_subs (s : State) (p c : Nat) (b : List Byte) : (s.respond p c b).subs = s.subs := by unfold State.respond; split <;> rfl
@[simp] theorem respond_replays (s : State) (p c : Nat) (b : List Byte) : (s.respond p c b).replays = s.replays := by unfold State.respond; split <;> rfl
@[simp] theorem respond_ended (s : State) (p c : Nat) (b : List Byte) : (s.respond p c b).ended = s.ended := by unfold State.respond; split <;> rfl
@[simp] theorem respond_served (s : State) (p c : Nat) (b : List Byte) : (s.respond p c b).served = s.served := by unfold State.respond; split <;> rfl
@[simp] theorem respond_identity (s : State) (p c : Nat) (b : List Byte) : (s.respond p c b).identity = s.identity := by unfold State.respond; split <;> rfl
@[simp] theorem respond_quadEdge (s : State) (p c : Nat) (b : List Byte) : (s.respond p c b).quadEdge = s.quadEdge := by unfold State.respond; split <;> rfl
@[simp] theorem respond_trace (s : State) (p c : Nat) (b : List Byte) : (s.respond p c b).trace = s.trace := by unfold State.respond; split <;> rfl
@[simp] theorem respond_evLast (s : State) (p c : Nat) (b : List Byte) : (s.respond p c b).evLast = s.evLast := by unfold State.respond; split <;> rfl
@[simp] theorem respond_evOrd (s : State) (p c : Nat) (b : List Byte) : (s.respond p c b).evOrd = s.evOrd := by unfold State.respond; split <;> rfl
@[simp] theorem respond_changes (s : State) (p c : Nat) (b : List Byte) : (s.respond p c b).changes = s.changes := by unfold State.respond; split <;> rfl
@[simp] theorem respond_porLow (s : State) (p c : Nat) (b : List Byte) : (s.respond p c b).porLow = s.porLow := by unfold State.respond; split <;> rfl
@[simp] theorem respond_safeLow (s : State) (p c : Nat) (b : List Byte) : (s.respond p c b).safeLow = s.safeLow := by unfold State.respond; split <;> rfl
@[simp] theorem respond_strap (s : State) (p c : Nat) (b : List Byte) : (s.respond p c b).strap = s.strap := by unfold State.respond; split <;> rfl
@[simp] theorem respond_slotA (s : State) (p c : Nat) (b : List Byte) : (s.respond p c b).slotA = s.slotA := by unfold State.respond; split <;> rfl
@[simp] theorem respond_slotB (s : State) (p c : Nat) (b : List Byte) : (s.respond p c b).slotB = s.slotB := by unfold State.respond; split <;> rfl
@[simp] theorem respond_flashSelect (s : State) (p c : Nat) (b : List Byte) : (s.respond p c b).flashSelect = s.flashSelect := by unfold State.respond; split <;> rfl
@[simp] theorem respond_seqWords (s : State) (p c : Nat) (b : List Byte) : (s.respond p c b).seqWords = s.seqWords := by unfold State.respond; split <;> rfl
@[simp] theorem respond_boot (s : State) (p c : Nat) (b : List Byte) : (s.respond p c b).boot = s.boot := by unfold State.respond; split <;> rfl
@[simp] theorem respond_trans (s : State) (p c : Nat) (b : List Byte) : (s.respond p c b).trans = s.trans := by unfold State.respond; split <;> rfl
@[simp] theorem respond_halted (s : State) (p c : Nat) (b : List Byte) : (s.respond p c b).halted = s.halted := by unfold State.respond; split <;> rfl
@[simp] theorem respond_silent (s : State) (p c : Nat) (b : List Byte) : (s.respond p c b).silent = s.silent := by unfold State.respond; split <;> rfl
@[simp] theorem respond_mem (s : State) (p c : Nat) (b : List Byte) : (s.respond p c b).mem = s.mem := by unfold State.respond; split <;> rfl
@[simp] theorem respond_poison (s : State) (p c : Nat) (b : List Byte) : (s.respond p c b).poison = s.poison := by unfold State.respond; split <;> rfl
@[simp] theorem respond_corrections (s : State) (p c : Nat) (b : List Byte) : (s.respond p c b).corrections = s.corrections := by unfold State.respond; split <;> rfl
@[simp] theorem respond_retireQ (s : State) (p c : Nat) (b : List Byte) : (s.respond p c b).retireQ = s.retireQ := by unfold State.respond; split <;> rfl
@[simp] theorem respond_customMasks (s : State) (p c : Nat) (b : List Byte) : (s.respond p c b).customMasks = s.customMasks := by unfold State.respond; split <;> rfl
@[simp] theorem respond_pcs (s : State) (p c : Nat) (b : List Byte) : (s.respond p c b).pcs = s.pcs := by unfold State.respond; split <;> rfl
@[simp] theorem respond_safeAsk (s : State) (p c : Nat) (b : List Byte) : (s.respond p c b).safeAsk = s.safeAsk := by unfold State.respond; split <;> rfl
@[simp] theorem respond_ctxs (s : State) (p c : Nat) (b : List Byte) : (s.respond p c b).ctxs = s.ctxs := by unfold State.respond; split <;> rfl
@[simp] theorem respond_tiles (s : State) (p c : Nat) (b : List Byte) : (s.respond p c b).tiles = s.tiles := by unfold State.respond; split <;> rfl
@[simp] theorem respond_mons (s : State) (p c : Nat) (b : List Byte) : (s.respond p c b).mons = s.mons := by unfold State.respond; split <;> rfl
@[simp] theorem respond_chains (s : State) (p c : Nat) (b : List Byte) : (s.respond p c b).chains = s.chains := by unfold State.respond; split <;> rfl
@[simp] theorem respond_encs (s : State) (p c : Nat) (b : List Byte) : (s.respond p c b).encs = s.encs := by unfold State.respond; split <;> rfl
@[simp] theorem respond_pitches (s : State) (p c : Nat) (b : List Byte) : (s.respond p c b).pitches = s.pitches := by unfold State.respond; split <;> rfl
@[simp] theorem respond_feTurn (s : State) (p c : Nat) (b : List Byte) : (s.respond p c b).feTurn = s.feTurn := by unfold State.respond; split <;> rfl
@[simp] theorem respond_coarse (s : State) (p c : Nat) (b : List Byte) : (s.respond p c b).coarse = s.coarse := by unfold State.respond; split <;> rfl
@[simp] theorem respond_lockRuns (s : State) (p c : Nat) (b : List Byte) : (s.respond p c b).lockRuns = s.lockRuns := by unfold State.respond; split <;> rfl
@[simp] theorem respond_refLost (s : State) (p c : Nat) (b : List Byte) : (s.respond p c b).refLost = s.refLost := by unfold State.respond; split <;> rfl
@[simp] theorem respond_untested (s : State) (p c : Nat) (b : List Byte) : (s.respond p c b).untested = s.untested := by unfold State.respond; split <;> rfl
@[simp] theorem respond_boardNext (s : State) (p c : Nat) (b : List Byte) : (s.respond p c b).boardNext = s.boardNext := by unfold State.respond; split <;> rfl
@[simp] theorem respond_boardWas (s : State) (p c : Nat) (b : List Byte) : (s.respond p c b).boardWas = s.boardWas := by unfold State.respond; split <;> rfl
@[simp] theorem respond_plan (s : State) (p c : Nat) (b : List Byte) : (s.respond p c b).plan = s.plan := by unfold State.respond; split <;> rfl
@[simp] theorem respond_placeDirty (s : State) (p c : Nat) (b : List Byte) : (s.respond p c b).placeDirty = s.placeDirty := by unfold State.respond; split <;> rfl
@[simp] theorem respond_trial (s : State) (p c : Nat) (b : List Byte) : (s.respond p c b).trial = s.trial := by unfold State.respond; split <;> rfl
@[simp] theorem respond_defects (s : State) (p c : Nat) (b : List Byte) : (s.respond p c b).defects = s.defects := by unfold State.respond; split <;> rfl
@[simp] theorem respond_swaps (s : State) (p c : Nat) (b : List Byte) : (s.respond p c b).swaps = s.swaps := by unfold State.respond; split <;> rfl
@[simp] theorem respond_moves (s : State) (p c : Nat) (b : List Byte) : (s.respond p c b).moves = s.moves := by unfold State.respond; split <;> rfl
@[simp] theorem respond_invarBad (s : State) (p c : Nat) (b : List Byte) : (s.respond p c b).invarBad = s.invarBad := by unfold State.respond; split <;> rfl
@[simp] theorem respond_invarGood (s : State) (p c : Nat) (b : List Byte) : (s.respond p c b).invarGood = s.invarGood := by unfold State.respond; split <;> rfl
@[simp] theorem respond_pinLevels (s : State) (p c : Nat) (b : List Byte) : (s.respond p c b).pinLevels = s.pinLevels := by unfold State.respond; split <;> rfl
@[simp] theorem respond_cadenceBad (s : State) (p c : Nat) (b : List Byte) : (s.respond p c b).cadenceBad = s.cadenceBad := by unfold State.respond; split <;> rfl
@[simp] theorem respond_rally (s : State) (p c : Nat) (b : List Byte) : (s.respond p c b).rally = s.rally := by unfold State.respond; split <;> rfl
@[simp] theorem respond_whistleUntil (s : State) (p c : Nat) (b : List Byte) : (s.respond p c b).whistleUntil = s.whistleUntil := by unfold State.respond; split <;> rfl
@[simp] theorem respond_bs (s : State) (p c : Nat) (b : List Byte) : (s.respond p c b).bs = s.bs := by unfold State.respond; split <;> rfl
@[simp] theorem respond_wires (s : State) (p c : Nat) (b : List Byte) : (s.respond p c b).wires = s.wires := by unfold State.respond; split <;> rfl
@[simp] theorem respond_fabs (s : State) (p c : Nat) (b : List Byte) : (s.respond p c b).fabs = s.fabs := by unfold State.respond; split <;> rfl
@[simp] theorem respond_nets (s : State) (p c : Nat) (b : List Byte) : (s.respond p c b).nets = s.nets := by unfold State.respond; split <;> rfl
@[simp] theorem respond_samples (s : State) (p c : Nat) (b : List Byte) : (s.respond p c b).samples = s.samples := by unfold State.respond; split <;> rfl
@[simp] theorem respond_frames (s : State) (p c : Nat) (b : List Byte) : (s.respond p c b).frames = s.frames := by unfold State.respond; split <;> rfl
@[simp] theorem respond_reload (s : State) (p c : Nat) (b : List Byte) : (s.respond p c b).reload = s.reload := by unfold State.respond; split <;> rfl
@[simp] theorem respond_scrub (s : State) (p c : Nat) (b : List Byte) : (s.respond p c b).scrub = s.scrub := by unfold State.respond; split <;> rfl
@[simp] theorem respond_dacs (s : State) (p c : Nat) (b : List Byte) : (s.respond p c b).dacs = s.dacs := by unfold State.respond; split <;> rfl
@[simp] theorem respond_strobes (s : State) (p c : Nat) (b : List Byte) : (s.respond p c b).strobes = s.strobes := by unfold State.respond; split <;> rfl
@[simp] theorem respond_lanes (s : State) (p c : Nat) (b : List Byte) : (s.respond p c b).lanes = s.lanes := by unfold State.respond; split <;> rfl
@[simp] theorem respond_exports (s : State) (p c : Nat) (b : List Byte) : (s.respond p c b).exports = s.exports := by unfold State.respond; split <;> rfl
@[simp] theorem respond_peers (s : State) (p c : Nat) (b : List Byte) : (s.respond p c b).peers = s.peers := by unfold State.respond; split <;> rfl
@[simp] theorem respond_pins (s : State) (p c : Nat) (b : List Byte) : (s.respond p c b).pins = s.pins := by unfold State.respond; split <;> rfl
@[simp] theorem respond_pats (s : State) (p c : Nat) (b : List Byte) : (s.respond p c b).pats = s.pats := by unfold State.respond; split <;> rfl
@[simp] theorem respond_copying (s : State) (p c : Nat) (b : List Byte) : (s.respond p c b).copying = s.copying := by unfold State.respond; split <;> rfl
@[simp] theorem respond_railsLow (s : State) (p c : Nat) (b : List Byte) : (s.respond p c b).railsLow = s.railsLow := by unfold State.respond; split <;> rfl
@[simp] theorem respond_freeCount (s : State) (p c : Nat) (b : List Byte) : (s.respond p c b).freeCount = s.freeCount := by unfold State.respond; split <;> rfl
@[simp] theorem respond_pending (s : State) (p c : Nat) (b : List Byte) : (s.respond p c b).pending = s.pending := by unfold State.respond; split <;> rfl
@[simp] theorem respond_obj (s : State) (p c : Nat) (b : List Byte) (i : Nat) : (s.respond p c b).obj i = s.obj i := by unfold State.respond; split <;> rfl

/-! `setTile` -/
@[simp] theorem setTile_variant (s : State) (n : Nat) (x : Tile) : (s.setTile n x).variant = s.variant := (rfl)
@[simp] theorem setTile_dict (s : State) (n : Nat) (x : Tile) : (s.setTile n x).dict = s.dict := (rfl)
@[simp] theorem setTile_inForce (s : State) (n : Nat) (x : Tile) : (s.setTile n x).inForce = s.inForce := (rfl)
@[simp] theorem setTile_clock (s : State) (n : Nat) (x : Tile) : (s.setTile n x).clock = s.clock := (rfl)
@[simp] theorem setTile_time (s : State) (n : Nat) (x : Tile) : (s.setTile n x).time = s.time := (rfl)
@[simp] theorem setTile_mem (s : State) (n : Nat) (x : Tile) : (s.setTile n x).mem = s.mem := (rfl)
@[simp] theorem setTile_safeAsk (s : State) (n : Nat) (x : Tile) : (s.setTile n x).safeAsk = s.safeAsk := (rfl)
@[simp] theorem setTile_pending (s : State) (n : Nat) (x : Tile) : (s.setTile n x).pending = s.pending := (rfl)
@[simp] theorem setTile_writers (s : State) (n : Nat) (x : Tile) : (s.setTile n x).writers = s.writers := (rfl)
@[simp] theorem setTile_emitted (s : State) (n : Nat) (x : Tile) : (s.setTile n x).emitted = s.emitted := (rfl)
@[simp] theorem setTile_evLast (s : State) (n : Nat) (x : Tile) : (s.setTile n x).evLast = s.evLast := (rfl)
@[simp] theorem setTile_ctxs (s : State) (n : Nat) (x : Tile) : (s.setTile n x).ctxs = s.ctxs := (rfl)
@[simp] theorem setTile_trans (s : State) (n : Nat) (x : Tile) : (s.setTile n x).trans = s.trans := (rfl)
@[simp] theorem setTile_boot (s : State) (n : Nat) (x : Tile) : (s.setTile n x).boot = s.boot := (rfl)
@[simp] theorem setTile_porLow (s : State) (n : Nat) (x : Tile) : (s.setTile n x).porLow = s.porLow := (rfl)
@[simp] theorem setTile_obj (s : State) (n : Nat) (x : Tile) (i : Nat) : (s.setTile n x).obj i = s.obj i := (rfl)

/-! `setMon` -/
@[simp] theorem setMon_variant (s : State) (n : Nat) (x : Mon) : (s.setMon n x).variant = s.variant := (rfl)
@[simp] theorem setMon_dict (s : State) (n : Nat) (x : Mon) : (s.setMon n x).dict = s.dict := (rfl)
@[simp] theorem setMon_inForce (s : State) (n : Nat) (x : Mon) : (s.setMon n x).inForce = s.inForce := (rfl)
@[simp] theorem setMon_clock (s : State) (n : Nat) (x : Mon) : (s.setMon n x).clock = s.clock := (rfl)
@[simp] theorem setMon_time (s : State) (n : Nat) (x : Mon) : (s.setMon n x).time = s.time := (rfl)
@[simp] theorem setMon_mem (s : State) (n : Nat) (x : Mon) : (s.setMon n x).mem = s.mem := (rfl)
@[simp] theorem setMon_safeAsk (s : State) (n : Nat) (x : Mon) : (s.setMon n x).safeAsk = s.safeAsk := (rfl)
@[simp] theorem setMon_pending (s : State) (n : Nat) (x : Mon) : (s.setMon n x).pending = s.pending := (rfl)
@[simp] theorem setMon_writers (s : State) (n : Nat) (x : Mon) : (s.setMon n x).writers = s.writers := (rfl)
@[simp] theorem setMon_emitted (s : State) (n : Nat) (x : Mon) : (s.setMon n x).emitted = s.emitted := (rfl)
@[simp] theorem setMon_evLast (s : State) (n : Nat) (x : Mon) : (s.setMon n x).evLast = s.evLast := (rfl)
@[simp] theorem setMon_ctxs (s : State) (n : Nat) (x : Mon) : (s.setMon n x).ctxs = s.ctxs := (rfl)
@[simp] theorem setMon_trans (s : State) (n : Nat) (x : Mon) : (s.setMon n x).trans = s.trans := (rfl)
@[simp] theorem setMon_boot (s : State) (n : Nat) (x : Mon) : (s.setMon n x).boot = s.boot := (rfl)
@[simp] theorem setMon_porLow (s : State) (n : Nat) (x : Mon) : (s.setMon n x).porLow = s.porLow := (rfl)
@[simp] theorem setMon_obj (s : State) (n : Nat) (x : Mon) (i : Nat) : (s.setMon n x).obj i = s.obj i := (rfl)

/-! `setChain` -/
@[simp] theorem setChain_variant (s : State) (n : Nat) (x : Chain) : (s.setChain n x).variant = s.variant := (rfl)
@[simp] theorem setChain_dict (s : State) (n : Nat) (x : Chain) : (s.setChain n x).dict = s.dict := (rfl)
@[simp] theorem setChain_inForce (s : State) (n : Nat) (x : Chain) : (s.setChain n x).inForce = s.inForce := (rfl)
@[simp] theorem setChain_clock (s : State) (n : Nat) (x : Chain) : (s.setChain n x).clock = s.clock := (rfl)
@[simp] theorem setChain_time (s : State) (n : Nat) (x : Chain) : (s.setChain n x).time = s.time := (rfl)
@[simp] theorem setChain_mem (s : State) (n : Nat) (x : Chain) : (s.setChain n x).mem = s.mem := (rfl)
@[simp] theorem setChain_safeAsk (s : State) (n : Nat) (x : Chain) : (s.setChain n x).safeAsk = s.safeAsk := (rfl)
@[simp] theorem setChain_pending (s : State) (n : Nat) (x : Chain) : (s.setChain n x).pending = s.pending := (rfl)
@[simp] theorem setChain_writers (s : State) (n : Nat) (x : Chain) : (s.setChain n x).writers = s.writers := (rfl)
@[simp] theorem setChain_emitted (s : State) (n : Nat) (x : Chain) : (s.setChain n x).emitted = s.emitted := (rfl)
@[simp] theorem setChain_evLast (s : State) (n : Nat) (x : Chain) : (s.setChain n x).evLast = s.evLast := (rfl)
@[simp] theorem setChain_ctxs (s : State) (n : Nat) (x : Chain) : (s.setChain n x).ctxs = s.ctxs := (rfl)
@[simp] theorem setChain_trans (s : State) (n : Nat) (x : Chain) : (s.setChain n x).trans = s.trans := (rfl)
@[simp] theorem setChain_boot (s : State) (n : Nat) (x : Chain) : (s.setChain n x).boot = s.boot := (rfl)
@[simp] theorem setChain_porLow (s : State) (n : Nat) (x : Chain) : (s.setChain n x).porLow = s.porLow := (rfl)
@[simp] theorem setChain_obj (s : State) (n : Nat) (x : Chain) (i : Nat) : (s.setChain n x).obj i = s.obj i := (rfl)

/-! `setEnc` -/
@[simp] theorem setEnc_variant (s : State) (n : Nat) (x : Enc) : (s.setEnc n x).variant = s.variant := (rfl)
@[simp] theorem setEnc_dict (s : State) (n : Nat) (x : Enc) : (s.setEnc n x).dict = s.dict := (rfl)
@[simp] theorem setEnc_inForce (s : State) (n : Nat) (x : Enc) : (s.setEnc n x).inForce = s.inForce := (rfl)
@[simp] theorem setEnc_clock (s : State) (n : Nat) (x : Enc) : (s.setEnc n x).clock = s.clock := (rfl)
@[simp] theorem setEnc_time (s : State) (n : Nat) (x : Enc) : (s.setEnc n x).time = s.time := (rfl)
@[simp] theorem setEnc_mem (s : State) (n : Nat) (x : Enc) : (s.setEnc n x).mem = s.mem := (rfl)
@[simp] theorem setEnc_safeAsk (s : State) (n : Nat) (x : Enc) : (s.setEnc n x).safeAsk = s.safeAsk := (rfl)
@[simp] theorem setEnc_pending (s : State) (n : Nat) (x : Enc) : (s.setEnc n x).pending = s.pending := (rfl)
@[simp] theorem setEnc_writers (s : State) (n : Nat) (x : Enc) : (s.setEnc n x).writers = s.writers := (rfl)
@[simp] theorem setEnc_emitted (s : State) (n : Nat) (x : Enc) : (s.setEnc n x).emitted = s.emitted := (rfl)
@[simp] theorem setEnc_evLast (s : State) (n : Nat) (x : Enc) : (s.setEnc n x).evLast = s.evLast := (rfl)
@[simp] theorem setEnc_ctxs (s : State) (n : Nat) (x : Enc) : (s.setEnc n x).ctxs = s.ctxs := (rfl)
@[simp] theorem setEnc_trans (s : State) (n : Nat) (x : Enc) : (s.setEnc n x).trans = s.trans := (rfl)
@[simp] theorem setEnc_boot (s : State) (n : Nat) (x : Enc) : (s.setEnc n x).boot = s.boot := (rfl)
@[simp] theorem setEnc_porLow (s : State) (n : Nat) (x : Enc) : (s.setEnc n x).porLow = s.porLow := (rfl)
@[simp] theorem setEnc_obj (s : State) (n : Nat) (x : Enc) (i : Nat) : (s.setEnc n x).obj i = s.obj i := (rfl)

/-! `setPitch` -/
@[simp] theorem setPitch_variant (s : State) (n : Nat) (x : Pitch) : (s.setPitch n x).variant = s.variant := (rfl)
@[simp] theorem setPitch_dict (s : State) (n : Nat) (x : Pitch) : (s.setPitch n x).dict = s.dict := (rfl)
@[simp] theorem setPitch_inForce (s : State) (n : Nat) (x : Pitch) : (s.setPitch n x).inForce = s.inForce := (rfl)
@[simp] theorem setPitch_clock (s : State) (n : Nat) (x : Pitch) : (s.setPitch n x).clock = s.clock := (rfl)
@[simp] theorem setPitch_time (s : State) (n : Nat) (x : Pitch) : (s.setPitch n x).time = s.time := (rfl)
@[simp] theorem setPitch_mem (s : State) (n : Nat) (x : Pitch) : (s.setPitch n x).mem = s.mem := (rfl)
@[simp] theorem setPitch_safeAsk (s : State) (n : Nat) (x : Pitch) : (s.setPitch n x).safeAsk = s.safeAsk := (rfl)
@[simp] theorem setPitch_pending (s : State) (n : Nat) (x : Pitch) : (s.setPitch n x).pending = s.pending := (rfl)
@[simp] theorem setPitch_writers (s : State) (n : Nat) (x : Pitch) : (s.setPitch n x).writers = s.writers := (rfl)
@[simp] theorem setPitch_emitted (s : State) (n : Nat) (x : Pitch) : (s.setPitch n x).emitted = s.emitted := (rfl)
@[simp] theorem setPitch_evLast (s : State) (n : Nat) (x : Pitch) : (s.setPitch n x).evLast = s.evLast := (rfl)
@[simp] theorem setPitch_ctxs (s : State) (n : Nat) (x : Pitch) : (s.setPitch n x).ctxs = s.ctxs := (rfl)
@[simp] theorem setPitch_trans (s : State) (n : Nat) (x : Pitch) : (s.setPitch n x).trans = s.trans := (rfl)
@[simp] theorem setPitch_boot (s : State) (n : Nat) (x : Pitch) : (s.setPitch n x).boot = s.boot := (rfl)
@[simp] theorem setPitch_porLow (s : State) (n : Nat) (x : Pitch) : (s.setPitch n x).porLow = s.porLow := (rfl)
@[simp] theorem setPitch_obj (s : State) (n : Nat) (x : Pitch) (i : Nat) : (s.setPitch n x).obj i = s.obj i := (rfl)

/-! `setCtx` -/
@[simp] theorem setCtx_variant (s : State) (n : Nat) (x : Ctx) : (s.setCtx n x).variant = s.variant := (rfl)
@[simp] theorem setCtx_dict (s : State) (n : Nat) (x : Ctx) : (s.setCtx n x).dict = s.dict := (rfl)
@[simp] theorem setCtx_inForce (s : State) (n : Nat) (x : Ctx) : (s.setCtx n x).inForce = s.inForce := (rfl)
@[simp] theorem setCtx_clock (s : State) (n : Nat) (x : Ctx) : (s.setCtx n x).clock = s.clock := (rfl)
@[simp] theorem setCtx_time (s : State) (n : Nat) (x : Ctx) : (s.setCtx n x).time = s.time := (rfl)
@[simp] theorem setCtx_mem (s : State) (n : Nat) (x : Ctx) : (s.setCtx n x).mem = s.mem := (rfl)
@[simp] theorem setCtx_safeAsk (s : State) (n : Nat) (x : Ctx) : (s.setCtx n x).safeAsk = s.safeAsk := (rfl)
@[simp] theorem setCtx_pending (s : State) (n : Nat) (x : Ctx) : (s.setCtx n x).pending = s.pending := (rfl)
@[simp] theorem setCtx_writers (s : State) (n : Nat) (x : Ctx) : (s.setCtx n x).writers = s.writers := (rfl)
@[simp] theorem setCtx_emitted (s : State) (n : Nat) (x : Ctx) : (s.setCtx n x).emitted = s.emitted := (rfl)
@[simp] theorem setCtx_evLast (s : State) (n : Nat) (x : Ctx) : (s.setCtx n x).evLast = s.evLast := (rfl)
@[simp] theorem setCtx_trans (s : State) (n : Nat) (x : Ctx) : (s.setCtx n x).trans = s.trans := (rfl)
@[simp] theorem setCtx_boot (s : State) (n : Nat) (x : Ctx) : (s.setCtx n x).boot = s.boot := (rfl)
@[simp] theorem setCtx_porLow (s : State) (n : Nat) (x : Ctx) : (s.setCtx n x).porLow = s.porLow := (rfl)
@[simp] theorem setCtx_obj (s : State) (n : Nat) (x : Ctx) (i : Nat) : (s.setCtx n x).obj i = s.obj i := (rfl)

/-! `setPc` -/
@[simp] theorem setPc_variant (s : State) (n : Nat) (x : Pc) : (s.setPc n x).variant = s.variant := (rfl)
@[simp] theorem setPc_dict (s : State) (n : Nat) (x : Pc) : (s.setPc n x).dict = s.dict := (rfl)
@[simp] theorem setPc_inForce (s : State) (n : Nat) (x : Pc) : (s.setPc n x).inForce = s.inForce := (rfl)
@[simp] theorem setPc_clock (s : State) (n : Nat) (x : Pc) : (s.setPc n x).clock = s.clock := (rfl)
@[simp] theorem setPc_time (s : State) (n : Nat) (x : Pc) : (s.setPc n x).time = s.time := (rfl)
@[simp] theorem setPc_mem (s : State) (n : Nat) (x : Pc) : (s.setPc n x).mem = s.mem := (rfl)
@[simp] theorem setPc_safeAsk (s : State) (n : Nat) (x : Pc) : (s.setPc n x).safeAsk = s.safeAsk := (rfl)
@[simp] theorem setPc_pending (s : State) (n : Nat) (x : Pc) : (s.setPc n x).pending = s.pending := (rfl)
@[simp] theorem setPc_writers (s : State) (n : Nat) (x : Pc) : (s.setPc n x).writers = s.writers := (rfl)
@[simp] theorem setPc_emitted (s : State) (n : Nat) (x : Pc) : (s.setPc n x).emitted = s.emitted := (rfl)
@[simp] theorem setPc_evLast (s : State) (n : Nat) (x : Pc) : (s.setPc n x).evLast = s.evLast := (rfl)
@[simp] theorem setPc_ctxs (s : State) (n : Nat) (x : Pc) : (s.setPc n x).ctxs = s.ctxs := (rfl)
@[simp] theorem setPc_trans (s : State) (n : Nat) (x : Pc) : (s.setPc n x).trans = s.trans := (rfl)
@[simp] theorem setPc_boot (s : State) (n : Nat) (x : Pc) : (s.setPc n x).boot = s.boot := (rfl)
@[simp] theorem setPc_porLow (s : State) (n : Nat) (x : Pc) : (s.setPc n x).porLow = s.porLow := (rfl)
@[simp] theorem setPc_obj (s : State) (n : Nat) (x : Pc) (i : Nat) : (s.setPc n x).obj i = s.obj i := (rfl)

/-! `setLane` -/
@[simp] theorem setLane_variant (s : State) (n : Nat) (x : Lane) : (s.setLane n x).variant = s.variant := (rfl)
@[simp] theorem setLane_dict (s : State) (n : Nat) (x : Lane) : (s.setLane n x).dict = s.dict := (rfl)
@[simp] theorem setLane_inForce (s : State) (n : Nat) (x : Lane) : (s.setLane n x).inForce = s.inForce := (rfl)
@[simp] theorem setLane_clock (s : State) (n : Nat) (x : Lane) : (s.setLane n x).clock = s.clock := (rfl)
@[simp] theorem setLane_time (s : State) (n : Nat) (x : Lane) : (s.setLane n x).time = s.time := (rfl)
@[simp] theorem setLane_mem (s : State) (n : Nat) (x : Lane) : (s.setLane n x).mem = s.mem := (rfl)
@[simp] theorem setLane_safeAsk (s : State) (n : Nat) (x : Lane) : (s.setLane n x).safeAsk = s.safeAsk := (rfl)
@[simp] theorem setLane_pending (s : State) (n : Nat) (x : Lane) : (s.setLane n x).pending = s.pending := (rfl)
@[simp] theorem setLane_writers (s : State) (n : Nat) (x : Lane) : (s.setLane n x).writers = s.writers := (rfl)
@[simp] theorem setLane_emitted (s : State) (n : Nat) (x : Lane) : (s.setLane n x).emitted = s.emitted := (rfl)
@[simp] theorem setLane_evLast (s : State) (n : Nat) (x : Lane) : (s.setLane n x).evLast = s.evLast := (rfl)
@[simp] theorem setLane_ctxs (s : State) (n : Nat) (x : Lane) : (s.setLane n x).ctxs = s.ctxs := (rfl)
@[simp] theorem setLane_trans (s : State) (n : Nat) (x : Lane) : (s.setLane n x).trans = s.trans := (rfl)
@[simp] theorem setLane_boot (s : State) (n : Nat) (x : Lane) : (s.setLane n x).boot = s.boot := (rfl)
@[simp] theorem setLane_porLow (s : State) (n : Nat) (x : Lane) : (s.setLane n x).porLow = s.porLow := (rfl)
@[simp] theorem setLane_obj (s : State) (n : Nat) (x : Lane) (i : Nat) : (s.setLane n x).obj i = s.obj i := (rfl)

/-! `setLive` -/
@[simp] theorem setLive_variant (s : State) (n : Nat) (x : Export) : (s.setLive n x).variant = s.variant := (rfl)
@[simp] theorem setLive_dict (s : State) (n : Nat) (x : Export) : (s.setLive n x).dict = s.dict := (rfl)
@[simp] theorem setLive_inForce (s : State) (n : Nat) (x : Export) : (s.setLive n x).inForce = s.inForce := (rfl)
@[simp] theorem setLive_clock (s : State) (n : Nat) (x : Export) : (s.setLive n x).clock = s.clock := (rfl)
@[simp] theorem setLive_time (s : State) (n : Nat) (x : Export) : (s.setLive n x).time = s.time := (rfl)
@[simp] theorem setLive_mem (s : State) (n : Nat) (x : Export) : (s.setLive n x).mem = s.mem := (rfl)
@[simp] theorem setLive_safeAsk (s : State) (n : Nat) (x : Export) : (s.setLive n x).safeAsk = s.safeAsk := (rfl)
@[simp] theorem setLive_pending (s : State) (n : Nat) (x : Export) : (s.setLive n x).pending = s.pending := (rfl)
@[simp] theorem setLive_writers (s : State) (n : Nat) (x : Export) : (s.setLive n x).writers = s.writers := (rfl)
@[simp] theorem setLive_emitted (s : State) (n : Nat) (x : Export) : (s.setLive n x).emitted = s.emitted := (rfl)
@[simp] theorem setLive_evLast (s : State) (n : Nat) (x : Export) : (s.setLive n x).evLast = s.evLast := (rfl)
@[simp] theorem setLive_ctxs (s : State) (n : Nat) (x : Export) : (s.setLive n x).ctxs = s.ctxs := (rfl)
@[simp] theorem setLive_trans (s : State) (n : Nat) (x : Export) : (s.setLive n x).trans = s.trans := (rfl)
@[simp] theorem setLive_boot (s : State) (n : Nat) (x : Export) : (s.setLive n x).boot = s.boot := (rfl)
@[simp] theorem setLive_porLow (s : State) (n : Nat) (x : Export) : (s.setLive n x).porLow = s.porLow := (rfl)
@[simp] theorem setLive_obj (s : State) (n : Nat) (x : Export) (i : Nat) : (s.setLive n x).obj i = s.obj i := (rfl)

/-! `setPeer` -/
@[simp] theorem setPeer_variant (s : State) (n : Nat) (x : Export) : (s.setPeer n x).variant = s.variant := (rfl)
@[simp] theorem setPeer_dict (s : State) (n : Nat) (x : Export) : (s.setPeer n x).dict = s.dict := (rfl)
@[simp] theorem setPeer_inForce (s : State) (n : Nat) (x : Export) : (s.setPeer n x).inForce = s.inForce := (rfl)
@[simp] theorem setPeer_clock (s : State) (n : Nat) (x : Export) : (s.setPeer n x).clock = s.clock := (rfl)
@[simp] theorem setPeer_time (s : State) (n : Nat) (x : Export) : (s.setPeer n x).time = s.time := (rfl)
@[simp] theorem setPeer_mem (s : State) (n : Nat) (x : Export) : (s.setPeer n x).mem = s.mem := (rfl)
@[simp] theorem setPeer_safeAsk (s : State) (n : Nat) (x : Export) : (s.setPeer n x).safeAsk = s.safeAsk := (rfl)
@[simp] theorem setPeer_pending (s : State) (n : Nat) (x : Export) : (s.setPeer n x).pending = s.pending := (rfl)
@[simp] theorem setPeer_writers (s : State) (n : Nat) (x : Export) : (s.setPeer n x).writers = s.writers := (rfl)
@[simp] theorem setPeer_emitted (s : State) (n : Nat) (x : Export) : (s.setPeer n x).emitted = s.emitted := (rfl)
@[simp] theorem setPeer_evLast (s : State) (n : Nat) (x : Export) : (s.setPeer n x).evLast = s.evLast := (rfl)
@[simp] theorem setPeer_ctxs (s : State) (n : Nat) (x : Export) : (s.setPeer n x).ctxs = s.ctxs := (rfl)
@[simp] theorem setPeer_trans (s : State) (n : Nat) (x : Export) : (s.setPeer n x).trans = s.trans := (rfl)
@[simp] theorem setPeer_boot (s : State) (n : Nat) (x : Export) : (s.setPeer n x).boot = s.boot := (rfl)
@[simp] theorem setPeer_porLow (s : State) (n : Nat) (x : Export) : (s.setPeer n x).porLow = s.porLow := (rfl)
@[simp] theorem setPeer_obj (s : State) (n : Nat) (x : Export) (i : Nat) : (s.setPeer n x).obj i = s.obj i := (rfl)

/-! `setDac` -/
@[simp] theorem setDac_variant (s : State) (n : Nat) (x : Dac) : (s.setDac n x).variant = s.variant := (rfl)
@[simp] theorem setDac_dict (s : State) (n : Nat) (x : Dac) : (s.setDac n x).dict = s.dict := (rfl)
@[simp] theorem setDac_inForce (s : State) (n : Nat) (x : Dac) : (s.setDac n x).inForce = s.inForce := (rfl)
@[simp] theorem setDac_clock (s : State) (n : Nat) (x : Dac) : (s.setDac n x).clock = s.clock := (rfl)
@[simp] theorem setDac_time (s : State) (n : Nat) (x : Dac) : (s.setDac n x).time = s.time := (rfl)
@[simp] theorem setDac_mem (s : State) (n : Nat) (x : Dac) : (s.setDac n x).mem = s.mem := (rfl)
@[simp] theorem setDac_safeAsk (s : State) (n : Nat) (x : Dac) : (s.setDac n x).safeAsk = s.safeAsk := (rfl)
@[simp] theorem setDac_pending (s : State) (n : Nat) (x : Dac) : (s.setDac n x).pending = s.pending := (rfl)
@[simp] theorem setDac_writers (s : State) (n : Nat) (x : Dac) : (s.setDac n x).writers = s.writers := (rfl)
@[simp] theorem setDac_emitted (s : State) (n : Nat) (x : Dac) : (s.setDac n x).emitted = s.emitted := (rfl)
@[simp] theorem setDac_evLast (s : State) (n : Nat) (x : Dac) : (s.setDac n x).evLast = s.evLast := (rfl)
@[simp] theorem setDac_ctxs (s : State) (n : Nat) (x : Dac) : (s.setDac n x).ctxs = s.ctxs := (rfl)
@[simp] theorem setDac_trans (s : State) (n : Nat) (x : Dac) : (s.setDac n x).trans = s.trans := (rfl)
@[simp] theorem setDac_boot (s : State) (n : Nat) (x : Dac) : (s.setDac n x).boot = s.boot := (rfl)
@[simp] theorem setDac_porLow (s : State) (n : Nat) (x : Dac) : (s.setDac n x).porLow = s.porLow := (rfl)
@[simp] theorem setDac_obj (s : State) (n : Nat) (x : Dac) (i : Nat) : (s.setDac n x).obj i = s.obj i := (rfl)

/-! `setStrobe` -/
@[simp] theorem setStrobe_variant (s : State) (n : Nat) (x : Strobe) : (s.setStrobe n x).variant = s.variant := (rfl)
@[simp] theorem setStrobe_dict (s : State) (n : Nat) (x : Strobe) : (s.setStrobe n x).dict = s.dict := (rfl)
@[simp] theorem setStrobe_inForce (s : State) (n : Nat) (x : Strobe) : (s.setStrobe n x).inForce = s.inForce := (rfl)
@[simp] theorem setStrobe_clock (s : State) (n : Nat) (x : Strobe) : (s.setStrobe n x).clock = s.clock := (rfl)
@[simp] theorem setStrobe_time (s : State) (n : Nat) (x : Strobe) : (s.setStrobe n x).time = s.time := (rfl)
@[simp] theorem setStrobe_mem (s : State) (n : Nat) (x : Strobe) : (s.setStrobe n x).mem = s.mem := (rfl)
@[simp] theorem setStrobe_safeAsk (s : State) (n : Nat) (x : Strobe) : (s.setStrobe n x).safeAsk = s.safeAsk := (rfl)
@[simp] theorem setStrobe_pending (s : State) (n : Nat) (x : Strobe) : (s.setStrobe n x).pending = s.pending := (rfl)
@[simp] theorem setStrobe_writers (s : State) (n : Nat) (x : Strobe) : (s.setStrobe n x).writers = s.writers := (rfl)
@[simp] theorem setStrobe_emitted (s : State) (n : Nat) (x : Strobe) : (s.setStrobe n x).emitted = s.emitted := (rfl)
@[simp] theorem setStrobe_evLast (s : State) (n : Nat) (x : Strobe) : (s.setStrobe n x).evLast = s.evLast := (rfl)
@[simp] theorem setStrobe_ctxs (s : State) (n : Nat) (x : Strobe) : (s.setStrobe n x).ctxs = s.ctxs := (rfl)
@[simp] theorem setStrobe_trans (s : State) (n : Nat) (x : Strobe) : (s.setStrobe n x).trans = s.trans := (rfl)
@[simp] theorem setStrobe_boot (s : State) (n : Nat) (x : Strobe) : (s.setStrobe n x).boot = s.boot := (rfl)
@[simp] theorem setStrobe_porLow (s : State) (n : Nat) (x : Strobe) : (s.setStrobe n x).porLow = s.porLow := (rfl)
@[simp] theorem setStrobe_obj (s : State) (n : Nat) (x : Strobe) (i : Nat) : (s.setStrobe n x).obj i = s.obj i := (rfl)

/-! `setFab` -/
@[simp] theorem setFab_variant (s : State) (n : Nat) (x : Fab) : (s.setFab n x).variant = s.variant := (rfl)
@[simp] theorem setFab_dict (s : State) (n : Nat) (x : Fab) : (s.setFab n x).dict = s.dict := (rfl)
@[simp] theorem setFab_inForce (s : State) (n : Nat) (x : Fab) : (s.setFab n x).inForce = s.inForce := (rfl)
@[simp] theorem setFab_clock (s : State) (n : Nat) (x : Fab) : (s.setFab n x).clock = s.clock := (rfl)
@[simp] theorem setFab_time (s : State) (n : Nat) (x : Fab) : (s.setFab n x).time = s.time := (rfl)
@[simp] theorem setFab_mem (s : State) (n : Nat) (x : Fab) : (s.setFab n x).mem = s.mem := (rfl)
@[simp] theorem setFab_safeAsk (s : State) (n : Nat) (x : Fab) : (s.setFab n x).safeAsk = s.safeAsk := (rfl)
@[simp] theorem setFab_pending (s : State) (n : Nat) (x : Fab) : (s.setFab n x).pending = s.pending := (rfl)
@[simp] theorem setFab_writers (s : State) (n : Nat) (x : Fab) : (s.setFab n x).writers = s.writers := (rfl)
@[simp] theorem setFab_emitted (s : State) (n : Nat) (x : Fab) : (s.setFab n x).emitted = s.emitted := (rfl)
@[simp] theorem setFab_evLast (s : State) (n : Nat) (x : Fab) : (s.setFab n x).evLast = s.evLast := (rfl)
@[simp] theorem setFab_ctxs (s : State) (n : Nat) (x : Fab) : (s.setFab n x).ctxs = s.ctxs := (rfl)
@[simp] theorem setFab_trans (s : State) (n : Nat) (x : Fab) : (s.setFab n x).trans = s.trans := (rfl)
@[simp] theorem setFab_boot (s : State) (n : Nat) (x : Fab) : (s.setFab n x).boot = s.boot := (rfl)
@[simp] theorem setFab_porLow (s : State) (n : Nat) (x : Fab) : (s.setFab n x).porLow = s.porLow := (rfl)
@[simp] theorem setFab_obj (s : State) (n : Nat) (x : Fab) (i : Nat) : (s.setFab n x).obj i = s.obj i := (rfl)

/-! `setPin` -/
@[simp] theorem setPin_variant (s : State) (n : Nat) (x : Pin) : (s.setPin n x).variant = s.variant := (rfl)
@[simp] theorem setPin_dict (s : State) (n : Nat) (x : Pin) : (s.setPin n x).dict = s.dict := (rfl)
@[simp] theorem setPin_inForce (s : State) (n : Nat) (x : Pin) : (s.setPin n x).inForce = s.inForce := (rfl)
@[simp] theorem setPin_clock (s : State) (n : Nat) (x : Pin) : (s.setPin n x).clock = s.clock := (rfl)
@[simp] theorem setPin_time (s : State) (n : Nat) (x : Pin) : (s.setPin n x).time = s.time := (rfl)
@[simp] theorem setPin_mem (s : State) (n : Nat) (x : Pin) : (s.setPin n x).mem = s.mem := (rfl)
@[simp] theorem setPin_safeAsk (s : State) (n : Nat) (x : Pin) : (s.setPin n x).safeAsk = s.safeAsk := (rfl)
@[simp] theorem setPin_pending (s : State) (n : Nat) (x : Pin) : (s.setPin n x).pending = s.pending := (rfl)
@[simp] theorem setPin_writers (s : State) (n : Nat) (x : Pin) : (s.setPin n x).writers = s.writers := (rfl)
@[simp] theorem setPin_emitted (s : State) (n : Nat) (x : Pin) : (s.setPin n x).emitted = s.emitted := (rfl)
@[simp] theorem setPin_evLast (s : State) (n : Nat) (x : Pin) : (s.setPin n x).evLast = s.evLast := (rfl)
@[simp] theorem setPin_ctxs (s : State) (n : Nat) (x : Pin) : (s.setPin n x).ctxs = s.ctxs := (rfl)
@[simp] theorem setPin_trans (s : State) (n : Nat) (x : Pin) : (s.setPin n x).trans = s.trans := (rfl)
@[simp] theorem setPin_boot (s : State) (n : Nat) (x : Pin) : (s.setPin n x).boot = s.boot := (rfl)
@[simp] theorem setPin_porLow (s : State) (n : Nat) (x : Pin) : (s.setPin n x).porLow = s.porLow := (rfl)
@[simp] theorem setPin_obj (s : State) (n : Nat) (x : Pin) (i : Nat) : (s.setPin n x).obj i = s.obj i := (rfl)

/-! `setPat` -/
@[simp] theorem setPat_variant (s : State) (n : Nat) (x : Pat) : (s.setPat n x).variant = s.variant := (rfl)
@[simp] theorem setPat_dict (s : State) (n : Nat) (x : Pat) : (s.setPat n x).dict = s.dict := (rfl)
@[simp] theorem setPat_inForce (s : State) (n : Nat) (x : Pat) : (s.setPat n x).inForce = s.inForce := (rfl)
@[simp] theorem setPat_clock (s : State) (n : Nat) (x : Pat) : (s.setPat n x).clock = s.clock := (rfl)
@[simp] theorem setPat_time (s : State) (n : Nat) (x : Pat) : (s.setPat n x).time = s.time := (rfl)
@[simp] theorem setPat_mem (s : State) (n : Nat) (x : Pat) : (s.setPat n x).mem = s.mem := (rfl)
@[simp] theorem setPat_safeAsk (s : State) (n : Nat) (x : Pat) : (s.setPat n x).safeAsk = s.safeAsk := (rfl)
@[simp] theorem setPat_pending (s : State) (n : Nat) (x : Pat) : (s.setPat n x).pending = s.pending := (rfl)
@[simp] theorem setPat_writers (s : State) (n : Nat) (x : Pat) : (s.setPat n x).writers = s.writers := (rfl)
@[simp] theorem setPat_emitted (s : State) (n : Nat) (x : Pat) : (s.setPat n x).emitted = s.emitted := (rfl)
@[simp] theorem setPat_evLast (s : State) (n : Nat) (x : Pat) : (s.setPat n x).evLast = s.evLast := (rfl)
@[simp] theorem setPat_ctxs (s : State) (n : Nat) (x : Pat) : (s.setPat n x).ctxs = s.ctxs := (rfl)
@[simp] theorem setPat_trans (s : State) (n : Nat) (x : Pat) : (s.setPat n x).trans = s.trans := (rfl)
@[simp] theorem setPat_boot (s : State) (n : Nat) (x : Pat) : (s.setPat n x).boot = s.boot := (rfl)
@[simp] theorem setPat_porLow (s : State) (n : Nat) (x : Pat) : (s.setPat n x).porLow = s.porLow := (rfl)
@[simp] theorem setPat_obj (s : State) (n : Nat) (x : Pat) (i : Nat) : (s.setPat n x).obj i = s.obj i := (rfl)

/-! `setNet` -/
@[simp] theorem setNet_variant (s : State) (n : Nat) (x : Net) : (s.setNet n x).variant = s.variant := (rfl)
@[simp] theorem setNet_dict (s : State) (n : Nat) (x : Net) : (s.setNet n x).dict = s.dict := (rfl)
@[simp] theorem setNet_inForce (s : State) (n : Nat) (x : Net) : (s.setNet n x).inForce = s.inForce := (rfl)
@[simp] theorem setNet_clock (s : State) (n : Nat) (x : Net) : (s.setNet n x).clock = s.clock := (rfl)
@[simp] theorem setNet_time (s : State) (n : Nat) (x : Net) : (s.setNet n x).time = s.time := (rfl)
@[simp] theorem setNet_mem (s : State) (n : Nat) (x : Net) : (s.setNet n x).mem = s.mem := (rfl)
@[simp] theorem setNet_safeAsk (s : State) (n : Nat) (x : Net) : (s.setNet n x).safeAsk = s.safeAsk := (rfl)
@[simp] theorem setNet_pending (s : State) (n : Nat) (x : Net) : (s.setNet n x).pending = s.pending := (rfl)
@[simp] theorem setNet_writers (s : State) (n : Nat) (x : Net) : (s.setNet n x).writers = s.writers := (rfl)
@[simp] theorem setNet_emitted (s : State) (n : Nat) (x : Net) : (s.setNet n x).emitted = s.emitted := (rfl)
@[simp] theorem setNet_evLast (s : State) (n : Nat) (x : Net) : (s.setNet n x).evLast = s.evLast := (rfl)
@[simp] theorem setNet_ctxs (s : State) (n : Nat) (x : Net) : (s.setNet n x).ctxs = s.ctxs := (rfl)
@[simp] theorem setNet_trans (s : State) (n : Nat) (x : Net) : (s.setNet n x).trans = s.trans := (rfl)
@[simp] theorem setNet_boot (s : State) (n : Nat) (x : Net) : (s.setNet n x).boot = s.boot := (rfl)
@[simp] theorem setNet_porLow (s : State) (n : Nat) (x : Net) : (s.setNet n x).porLow = s.porLow := (rfl)
@[simp] theorem setNet_obj (s : State) (n : Nat) (x : Net) (i : Nat) : (s.setNet n x).obj i = s.obj i := (rfl)

/-! `setRallyLane` -/
@[simp] theorem setRallyLane_variant (s : State) (n : Nat) (x : RallyLane) : (s.setRallyLane n x).variant = s.variant := (rfl)
@[simp] theorem setRallyLane_dict (s : State) (n : Nat) (x : RallyLane) : (s.setRallyLane n x).dict = s.dict := (rfl)
@[simp] theorem setRallyLane_inForce (s : State) (n : Nat) (x : RallyLane) : (s.setRallyLane n x).inForce = s.inForce := (rfl)
@[simp] theorem setRallyLane_clock (s : State) (n : Nat) (x : RallyLane) : (s.setRallyLane n x).clock = s.clock := (rfl)
@[simp] theorem setRallyLane_time (s : State) (n : Nat) (x : RallyLane) : (s.setRallyLane n x).time = s.time := (rfl)
@[simp] theorem setRallyLane_mem (s : State) (n : Nat) (x : RallyLane) : (s.setRallyLane n x).mem = s.mem := (rfl)
@[simp] theorem setRallyLane_safeAsk (s : State) (n : Nat) (x : RallyLane) : (s.setRallyLane n x).safeAsk = s.safeAsk := (rfl)
@[simp] theorem setRallyLane_pending (s : State) (n : Nat) (x : RallyLane) : (s.setRallyLane n x).pending = s.pending := (rfl)
@[simp] theorem setRallyLane_writers (s : State) (n : Nat) (x : RallyLane) : (s.setRallyLane n x).writers = s.writers := (rfl)
@[simp] theorem setRallyLane_emitted (s : State) (n : Nat) (x : RallyLane) : (s.setRallyLane n x).emitted = s.emitted := (rfl)
@[simp] theorem setRallyLane_evLast (s : State) (n : Nat) (x : RallyLane) : (s.setRallyLane n x).evLast = s.evLast := (rfl)
@[simp] theorem setRallyLane_ctxs (s : State) (n : Nat) (x : RallyLane) : (s.setRallyLane n x).ctxs = s.ctxs := (rfl)
@[simp] theorem setRallyLane_trans (s : State) (n : Nat) (x : RallyLane) : (s.setRallyLane n x).trans = s.trans := (rfl)
@[simp] theorem setRallyLane_boot (s : State) (n : Nat) (x : RallyLane) : (s.setRallyLane n x).boot = s.boot := (rfl)
@[simp] theorem setRallyLane_porLow (s : State) (n : Nat) (x : RallyLane) : (s.setRallyLane n x).porLow = s.porLow := (rfl)
@[simp] theorem setRallyLane_obj (s : State) (n : Nat) (x : RallyLane) (i : Nat) : (s.setRallyLane n x).obj i = s.obj i := (rfl)

end Sys2Proof.Laws
end

