-- ==== Sys2Proof/Laws/Objects.lean ====
section
/-! SUPPORT. What objects read as after the named operations of Ops and Flags: writes, counters, staged values, events. -/

set_option Elab.async false

namespace Sys2Proof.Laws

open Sys2Proof.Machine

/-! ## Writes -/

@[simp] theorem obj_poke_self (s : State) (k v : Nat) : (s.poke k v).obj k = v := by
  simp [State.obj, State.poke]

theorem obj_poke_ne (s : State) {i k : Nat} (v : Nat) (h : i ≠ k) : (s.poke k v).obj i = s.obj i := by
  simp only [State.obj, State.poke]
  exact get_put_ne _ _ _ h

@[simp] theorem obj_record (s : State) (k c p i : Nat) : (s.record k c p).obj i = s.obj i := (rfl)

@[simp] theorem obj_set_self (s : State) (k v : Nat) : (s.set k v).obj k = v := by
  simp [State.set]

theorem obj_set_ne (s : State) {i k : Nat} (v : Nat) (h : i ≠ k) : (s.set k v).obj i = s.obj i := by
  simp only [State.set, obj_record]
  exact obj_poke_ne s v h

/-- One entry changes: what any object reads as after a write of the device. -/
theorem obj_set (s : State) (k v i : Nat) : (s.set k v).obj i = if i = k then v else s.obj i := by
  by_cases h : i = k
  · subst h; simp
  · simp [h, obj_set_ne s v h]

theorem obj_poke (s : State) (k v i : Nat) : (s.poke k v).obj i = if i = k then v else s.obj i := by
  by_cases h : i = k
  · subst h; simp
  · simp [h, obj_poke_ne s v h]

@[simp] theorem obj_count_self (s : State) (k w n : Nat) : (s.count k w n).obj k = satAdd w (s.obj k) n := by
  simp [State.count]

theorem obj_count_ne (s : State) {i k : Nat} (w n : Nat) (h : i ≠ k) : (s.count k w n).obj i = s.obj i := by
  simp only [State.count]; exact obj_set_ne s _ h

@[simp] theorem obj_tally_self (s : State) (k w n : Nat) : (s.tally k w n).obj k = wrapAdd w (s.obj k) n := by
  simp [State.tally]

theorem obj_tally_ne (s : State) {i k : Nat} (w n : Nat) (h : i ≠ k) : (s.tally k w n).obj i = s.obj i := by
  simp only [State.tally]; exact obj_set_ne s _ h

@[simp] theorem hold_obj' (s : State) (k i : Nat) : (s.hold k).obj i = s.obj i := by
  unfold State.hold; split <;> rfl

/-- The objects of a state written out, as a record update leaves it; `obj_fold` goes back. -/
theorem obj_mk (a0 a1 a2 a3 a4 a5 a6 a7 a8 a9 a10 a11 a12 a13 a14 a15 a16 a17 a18 a19 a20 a21 a22 a23 a24 a25 a26 a27 a28 a29 a30
    a31 a32 a33 a34 a35 a36 a37 a38 a39 a40 a41 a42 a43 a44 a45 a46 a47 a48 a49 a50 a51 a52 a53 a54 a55 a56 a57 a58 a59 a60 a61
    a62 a63 a64 a65 a66 a67 a68 a69 a70 a71 a72 a73 a74 a75 a76 a77 a78 a79 a80 a81 a82 a83) (k : Nat) :
    (State.mk a0 a1 a2 a3 a4 a5 a6 a7 a8 a9 a10 a11 a12 a13 a14 a15 a16 a17 a18 a19 a20 a21 a22 a23 a24 a25 a26 a27 a28 a29 a30 a31
      a32 a33 a34 a35 a36 a37 a38 a39 a40 a41 a42 a43 a44 a45 a46 a47 a48 a49 a50 a51 a52 a53 a54 a55 a56 a57 a58 a59 a60 a61 a62 a63
      a64 a65 a66 a67 a68 a69 a70 a71 a72 a73 a74 a75 a76 a77 a78 a79 a80 a81 a82 a83).obj k = Sp.get (defaultOf a0) a4 k := rfl

theorem obj_fold (s : State) (k : Nat) : Sp.get (defaultOf s.variant) s.dict k = s.obj k := rfl

/-! ## Writers (R58) -/

theorem writer_record_self (s : State) (k c p : Nat) :
    (s.record k c p).writer k = ⟨c, p, s.time, satAdd 32 (s.writer k).count 1⟩ := by
  simp [State.writer, State.record]

theorem writer_record_ne (s : State) {i k : Nat} (c p : Nat) (h : i ≠ k) : (s.record k c p).writer i = s.writer i := by
  simp only [State.writer, State.record]
  exact get_put_ne _ _ _ h

/-! ## Staged values (R8, R48) -/

theorem force_hold (s : State) (k : Nat) : (s.hold k).force k = s.force k := by
  unfold State.hold State.force State.isPending
  split
  · rfl
  · rename_i h
    simp only [find_insert_self, Option.getD_some]
    cases hf : Sp.find s.inForce k <;> simp_all

/-- A write of a staged object leaves the value in force and shows the pending one. -/
theorem hold_poke (s : State) (k v : Nat) :
    ((s.hold k).poke k v).obj k = v ∧ ((s.hold k).poke k v).force k = s.force k ∧ ((s.hold k).poke k v).isPending k = true := by
  refine ⟨obj_poke_self _ _ _, ?_, ?_⟩
  · have h := force_hold s k
    simp only [State.force, poke_inForce] at h ⊢
    have hp : (Sp.find (s.hold k).inForce k).isSome = true := by
      unfold State.hold State.isPending
      split
      · assumption
      · simp
    cases hf : Sp.find (s.hold k).inForce k
    · simp [hf] at hp
    · simpa [hf] using h
  · simp only [State.isPending, poke_inForce]
    unfold State.hold State.isPending
    split
    · assumption
    · simp

theorem force_settle (s : State) (k : Nat) : (s.settle k).force k = s.obj k ∧ (s.settle k).isPending k = false := by
  simp [State.settle, State.force, State.isPending, State.obj]

/-! ## Events (R405, R407) -/

/-- The four objects of a source that a raise writes. -/
def eventKey (n k : Nat) : Prop := k = K.eventStatus n ∨ k = K.eventCount n ∨ k = K.eventTime n ∨ k = K.eventDetail n

theorem obj_raise_ne (s : State) (n d i : Nat) (h : ¬ eventKey n i) : (s.raise n d).obj i = s.obj i := by
  simp only [eventKey, not_or] at h
  simp only [State.raise]
  split
  · rw [notify_obj, obj_set_ne _ _ h.2.2.2, obj_set_ne _ _ h.2.2.1, obj_count_ne _ _ _ h.2.1, obj_set_ne _ _ h.1]
  · rfl

theorem raise_spec (s : State) (n d : Nat) (h : s.hasSource n = true) :
    (s.raise n d).obj (K.eventStatus n) = 1 ∧
    (s.raise n d).obj (K.eventCount n) = satAdd 32 (s.obj (K.eventCount n)) 1 ∧
    (s.raise n d).obj (K.eventTime n) = s.now ∧
    (s.raise n d).obj (K.eventDetail n) = d % 4294967296 := by
  simp only [State.raise, h, if_true, notify_obj]
  have h1 : K.eventStatus n ≠ K.eventCount n := by simp only [K.eventStatus, K.eventCount, key]; omega
  have h2 : K.eventStatus n ≠ K.eventTime n := by simp only [K.eventStatus, K.eventTime, key]; omega
  have h3 : K.eventStatus n ≠ K.eventDetail n := by simp only [K.eventStatus, K.eventDetail, key]; omega
  have h4 : K.eventCount n ≠ K.eventTime n := by simp only [K.eventCount, K.eventTime, key]; omega
  have h5 : K.eventCount n ≠ K.eventDetail n := by simp only [K.eventCount, K.eventDetail, key]; omega
  have h6 : K.eventTime n ≠ K.eventDetail n := by simp only [K.eventTime, K.eventDetail, key]; omega
  refine ⟨?_, ?_, ?_, ?_⟩
  · rw [obj_set_ne _ _ h3, obj_set_ne _ _ h2, obj_count_ne _ _ _ h1, obj_set_self]
  · rw [obj_set_ne _ _ h5, obj_set_ne _ _ h4, obj_count_self, obj_set_ne _ _ (Ne.symm h1)]
  · rw [obj_set_ne _ _ h6, obj_set_self]
  · rw [obj_set_self]

theorem obj_lower_ne (s : State) (n i : Nat) (h : i ≠ K.eventStatus n) : (s.lower n).obj i = s.obj i := by
  simp only [State.lower]
  split
  · rw [notify_obj, obj_set_ne _ _ h]
  · rfl

theorem lower_status (s : State) (n : Nat) : (s.lower n).obj (K.eventStatus n) ≠ 1 := by
  simp only [State.lower]
  split
  · rw [notify_obj, obj_set_self]; decide
  · assumption

/-! ## Ports -/

@[simp] theorem portState_setPort_self (s : State) (p : Nat) (x : PortState) : (s.setPort p x).portState p = x := by
  simp [State.portState, State.setPort]

theorem portState_setPort_ne (s : State) {p i : Nat} (x : PortState) (h : i ≠ p) : (s.setPort p x).portState i = s.portState i := by
  simp only [State.portState, State.setPort]
  exact get_put_ne _ _ _ h

end Sys2Proof.Laws
end

