-- ==== Sys2Proof/Laws/Finish.lean ====
section
/-! SUPPORT. What follows every command leaves alone: objects outside `settledKey`, the Store's bytes, the clock. -/

set_option Elab.async false

namespace Sys2Proof.Laws

open Sys2Proof.Machine

/-- Two states agree on what the closing of a command leaves alone. -/
structure Same (a b : State) : Prop where
  variant : a.variant = b.variant
  obj : ∀ k, settledKey k = false → a.obj k = b.obj k
  mem : a.mem = b.mem
  clock : a.clock = b.clock
  time : a.time = b.time
  inForce : a.inForce = b.inForce
  safeAsk : a.safeAsk = b.safeAsk
  ctxs : a.ctxs = b.ctxs
  boot : a.boot = b.boot
  porLow : a.porLow = b.porLow

theorem Same.refl (a : State) : Same a a := ⟨rfl, fun _ _ => rfl, rfl, rfl, rfl, rfl, rfl, rfl, rfl, rfl⟩

theorem Same.trans {a b c : State} (h : Same a b) (g : Same b c) : Same a c :=
  ⟨h.1.trans g.1, fun k hk => (h.2 k hk).trans (g.2 k hk), h.3.trans g.3, h.4.trans g.4, h.5.trans g.5, h.6.trans g.6,
   h.7.trans g.7, h.8.trans g.8, h.9.trans g.9, h.10.trans g.10⟩

theorem same_foldl {β : Type} (f : State → β → State) (xs : List β) (s : State) (h : ∀ s, ∀ x ∈ xs, Same (f s x) s) :
    Same (xs.foldl f s) s := by
  induction xs generalizing s with
  | nil => exact Same.refl s
  | cons x xs ih =>
    exact (ih (f s x) (fun s y hy => h s y (List.mem_cons_of_mem _ hy))).trans (h s x (List.mem_cons_self ..))

theorem same_set (s : State) (k v : Nat) (h : settledKey k = true) : Same (s.set k v) s where
  variant := set_variant ..
  obj i hi := obj_set_ne s v (fun e => by subst e; simp [h] at hi)
  mem := set_mem ..
  clock := set_clock ..
  time := set_time ..
  inForce := set_inForce ..
  safeAsk := set_safeAsk ..
  ctxs := set_ctxs ..
  boot := set_boot ..
  porLow := set_porLow ..

theorem same_poke (s : State) (k v : Nat) (h : settledKey k = true) : Same (s.poke k v) s where
  variant := poke_variant ..
  obj i hi := obj_poke_ne s v (fun e => by subst e; simp [h] at hi)
  mem := poke_mem ..
  clock := poke_clock ..
  time := poke_time ..
  inForce := poke_inForce ..
  safeAsk := poke_safeAsk ..
  ctxs := poke_ctxs ..
  boot := poke_boot ..
  porLow := poke_porLow ..

theorem same_notify (s : State) (n : Nat) (c : Bool) : Same (s.notify n c) s where
  variant := notify_variant ..
  obj _ _ := notify_obj ..
  mem := notify_mem ..
  clock := notify_clock ..
  time := notify_time ..
  inForce := notify_inForce ..
  safeAsk := notify_safeAsk ..
  ctxs := notify_ctxs ..
  boot := notify_boot ..
  porLow := notify_porLow ..

theorem settled_status {n : Nat} (h : n < 768) : settledKey (K.eventStatus n) = true := by
  have e1 : K.eventStatus n / 256 = 0x7000 + n := by simp only [K.eventStatus, key]; omega
  have e2 : K.eventStatus n % 256 = 1 := by simp only [K.eventStatus, key]; omega
  simp [settledKey, keyIn, e1, e2]; omega

theorem same_lower (s : State) {n : Nat} (h : n < 768) : Same (s.lower n) s := by
  unfold State.lower
  split
  · exact (same_notify _ _ _).trans (same_set _ _ _ (settled_status h))
  · exact Same.refl s

theorem same_raise766 (s : State) (d : Nat) : Same (s.raise 766 d) s where
  variant := raise_variant ..
  obj i hi := by
    apply obj_raise_ne
    rintro (h | h | h | h) <;> subst h <;> revert hi <;> decide
  mem := raise_mem ..
  clock := raise_clock ..
  time := raise_time ..
  inForce := raise_inForce ..
  safeAsk := raise_safeAsk ..
  ctxs := raise_ctxs ..
  boot := raise_boot ..
  porLow := raise_porLow ..

/-- A change of fields that none of these are. -/
theorem same_of (a b : State) (h1 : a.variant = b.variant) (h2 : a.dict = b.dict) (h3 : a.mem = b.mem) (h4 : a.clock = b.clock)
    (h5 : a.time = b.time) (h6 : a.inForce = b.inForce) (h7 : a.safeAsk = b.safeAsk) (h8 : a.ctxs = b.ctxs)
    (h9 : a.boot = b.boot) (h10 : a.porLow = b.porLow) : Same a b :=
  ⟨h1, fun k _ => by simp only [State.obj, h1, h2], h3, h4, h5, h6, h7, h8, h9, h10⟩

theorem same_settleFirst (s : State) : Same s.settleFirst s := by
  unfold State.settleFirst
  split
  · exact Same.refl s
  · exact same_set _ _ _ (by decide)

theorem same_linkReady (s : State) : Same s.linkReady s := by
  unfold State.linkReady
  split
  · exact (same_of ({ s.setStep 6 with trans := { s.trans with linkWait := false } } : State) (s.setStep 6)
      rfl rfl rfl rfl rfl rfl rfl rfl rfl rfl).trans (same_set _ _ _ (by decide))
  · exact Same.refl s

theorem same_setTile (s : State) (n : Nat) (x : Tile) : Same (s.setTile n x) s :=
  same_of _ _ rfl rfl rfl rfl rfl rfl rfl rfl rfl rfl

theorem same_setPin (s : State) (n : Nat) (x : Pin) : Same (s.setPin n x) s :=
  same_of _ _ rfl rfl rfl rfl rfl rfl rfl rfl rfl rfl

theorem same_setLane (s : State) (n : Nat) (x : Lane) : Same (s.setLane n x) s :=
  same_of _ _ rfl rfl rfl rfl rfl rfl rfl rfl rfl rfl

theorem same_setLive (s : State) (n : Nat) (x : Export) : Same (s.setLive n x) s :=
  same_of _ _ rfl rfl rfl rfl rfl rfl rfl rfl rfl rfl

theorem same_setPort (s : State) (n : Nat) (x : PortState) : Same (s.setPort n x) s :=
  same_of _ _ rfl rfl rfl rfl rfl rfl rfl rfl rfl rfl

theorem same_emit (s : State) (e : Emission) : Same (s.emit e) s :=
  same_of _ _ rfl rfl rfl rfl rfl rfl rfl rfl rfl rfl

theorem same_watchScene (s : State) : Same s.watchScene s := by
  unfold State.watchScene
  split
  · exact Same.refl s
  · apply same_foldl
    intro s n _
    split
    · exact same_setTile ..
    · exact Same.refl s

theorem raised_lt (s : State) (n : Nat) (h : n ∈ s.raised) : n < 768 := by
  simp only [State.raised, List.mem_map, List.mem_filter, Bool.and_eq_true, decide_eq_true_eq] at h
  obtain ⟨e, he, rfl⟩ := h
  omega

theorem same_settleEvents (s : State) : Same s.settleEvents s := by
  unfold State.settleEvents
  apply same_foldl
  intro t n hn
  split
  · exact same_lower t (raised_lt s n hn)
  · exact Same.refl t

theorem lane_key {n : Nat} (h : n < 16) (i b : Nat) (hi : i = 0 ∨ i = 3 ∨ i = 4) (hb : b = 1 ∨ b = 2 ∨ b = 3 ∨ b = 5) :
    settledKey (key (0x5000 + i + 64 * n) b) = true := by
  have e1 : key (0x5000 + i + 64 * n) b / 256 = 0x5000 + i + 64 * n := by unfold key; omega
  have e2 : key (0x5000 + i + 64 * n) b % 256 = b := by unfold key; omega
  have e3 : (0x5000 + i + 64 * n) % 64 = i := by omega
  have e4 : 0x5000 + i + 64 * n < 0x5400 := by omega
  simp only [settledKey, keyIn, e1, e2, e3]
  rcases hi with rfl | rfl | rfl <;> rcases hb with rfl | rfl | rfl | rfl <;> simp <;> omega

theorem allLanes_lt (s : State) (n : Nat) (h : n ∈ s.allLanes) : n < 16 := by
  simp only [State.allLanes, List.mem_range, laneCount] at h
  split at h <;> omega

theorem same_showHold (s : State) {n : Nat} (h : n < 16) : Same (s.showHold n) s := by
  have k1 : settledKey (K.laneHoldCause n) = true := lane_key h 3 5 (by simp) (by simp)
  have k2 : settledKey (K.laneStatus n) = true := lane_key h 0 2 (by simp) (by simp)
  unfold State.showHold
  simp only []
  generalize s.holdCause n = c
  have a : Same (if s.obj (K.laneHoldCause n) = c then s else s.set (K.laneHoldCause n) c) s := by
    split
    · exact Same.refl s
    · exact same_set _ _ _ k1
  generalize (if s.obj (K.laneHoldCause n) = c then s else s.set (K.laneHoldCause n) c) = t at *
  split
  · exact a
  · exact ((same_setLane ..).trans (same_set _ _ _ k2)).trans a

theorem same_showStreams (s : State) : Same s.showStreams s := by
  unfold State.showStreams
  apply same_foldl
  intro t n hn
  have hl := allLanes_lt _ n hn
  exact (same_set _ _ _ (lane_key hl 3 1 (by simp) (by simp))).trans (same_set _ _ _ (lane_key hl 3 3 (by simp) (by simp)))

theorem same_plan (s : State) (p : Plan) : Same { s with plan := p } s := same_of _ _ rfl rfl rfl rfl rfl rfl rfl rfl rfl rfl

theorem same_moveExport (s : State) {c : Nat} (h : c < 1024) : Same (s.moveExport c) s := by
  have k1 : settledKey (K.ctxLane c) = true := by
    have e1 : K.ctxLane c / 256 = 0x4000 + c := by simp only [K.ctxLane, key]; omega
    have e2 : K.ctxLane c % 256 = 6 := by simp only [K.ctxLane, key]; omega
    simp [settledKey, keyIn, e1, e2]; omega
  unfold State.moveExport
  split
  · split
    · exact Same.refl s
    · extract_lets x u lanes
      exact (same_showStreams _).trans ((same_plan u _).trans ((same_set _ _ _ k1).trans (same_setLive ..)))
  · exact Same.refl s

theorem same_settleLanes (s : State) : Same s.settleLanes s := by
  unfold State.settleLanes
  refine Same.trans (b := (s.exports.filter (fun e => e.1 < 1024 && e.2.moveAt.isSome)).foldl (fun st e => st.moveExport e.1) s) ?_ ?_
  · apply same_foldl
    intro t n hn
    exact same_showHold t (allLanes_lt _ n hn)
  · apply same_foldl
    intro t e he
    simp only [List.mem_filter, Bool.and_eq_true, decide_eq_true_eq] at he
    exact same_moveExport t he.2.1

theorem same_modPin (s : State) (k : Nat) (f : Pin → Pin) : Same (s.modPin k f) s := same_setPin ..

theorem same_takePending (s : State) {k : Nat} (h : k < 96) : Same (s.takePending k) s := by
  have k1 : settledKey (K.gpioPinPending k) = true := by
    have e1 : K.gpioPinPending k / 256 = 0x6800 + k := by simp only [K.gpioPinPending, key]; omega
    have e2 : K.gpioPinPending k % 256 = 5 := by simp only [K.gpioPinPending, key]; omega
    simp [settledKey, keyIn, e1, e2]; omega
  have k2 : settledKey (K.gpioPinFunc k) = true := by
    have e1 : K.gpioPinFunc k / 256 = 0x6800 + k := by simp only [K.gpioPinFunc, key]; omega
    have e2 : K.gpioPinFunc k % 256 = 1 := by simp only [K.gpioPinFunc, key]; omega
    simp [settledKey, keyIn, e1, e2]; omega
  unfold State.takePending
  simp only []
  split
  · exact Same.refl s
  · exact (same_poke _ _ _ k2).trans (same_set _ _ _ k1)

theorem same_endSwitches (s : State) : Same s.endSwitches s := by
  unfold State.endSwitches
  apply same_foldl
  intro t e he
  simp only [List.mem_filter, decide_eq_true_eq] at he
  exact (same_takePending _ he.2).trans (same_modPin ..)

theorem same_ite {c : Prop} [Decidable c] {a b s : State} (h : Same a s) (g : Same b s) : Same (if c then a else b) s := by
  split <;> assumption

theorem same_capturePads (s before : State) : Same (s.capturePads before) s := by
  unfold State.capturePads
  refine same_ite ?_ (Same.refl s)
  unfold State.latchPins; apply same_foldl; intro t k _; exact same_modPin ..

theorem same_keepPads (s before : State) : Same (s.keepPads before) s := by
  unfold State.keepPads
  refine same_ite ?_ (Same.refl s)
  apply same_foldl
  intro u k _
  exact same_ite (same_modPin ..) (Same.refl u)

theorem same_moveSwitches (s before : State) : Same (s.moveSwitches before) s := by
  unfold State.moveSwitches
  refine same_ite (same_endSwitches s) (same_ite ?_ (Same.refl s))
  unfold State.awaitPins
  apply same_foldl
  intro w k _
  exact same_ite (same_modPin ..) (Same.refl w)

theorem same_movePins (s before : State) : Same (s.movePins before) s :=
  (same_moveSwitches _ _).trans ((same_keepPads _ _).trans (same_capturePads _ _))

theorem same_modBs (s : State) (f : Array256 → Array256) : Same (s.modBs f) s := same_of _ _ rfl rfl rfl rfl rfl rfl rfl rfl rfl rfl

theorem same_bsRounds (p : Nat) (cells : List BsCell) (n : Nat) (s : State) : Same (State.bsRounds p cells n s) s := by
  induction n generalizing s with
  | zero => exact Same.refl s
  | succ n ih =>
    simp only [State.bsRounds]
    split
    · exact same_modBs ..
    · exact (ih _).trans (same_modBs ..)

theorem same_bsSettle (s : State) (p : Nat) : Same (s.bsSettle p) s := by
  unfold State.bsSettle
  simp only []
  split
  · exact Same.refl s
  · exact same_bsRounds ..

theorem same_settleBackstop (s before : State) : Same (s.settleBackstop before) s := by
  unfold State.settleBackstop
  simp only []
  split
  · refine (same_bsSettle _ _).trans ?_
    split
    · exact Same.refl s
    · exact same_bsSettle ..
  · exact Same.refl s

/-! ## Fabric logic -/

theorem same_setNet (s : State) (q : Nat) (x : Net) : Same (s.setNet q x) s := same_of _ _ rfl rfl rfl rfl rfl rfl rfl rfl rfl rfl

theorem same_modNet (s : State) (q : Nat) (f : Net → Net) : Same (s.modNet q f) s := same_setNet ..

theorem same_draw (s : State) (tag : Nat) : Same (s.draw tag).2 s := same_of _ _ rfl rfl rfl rfl rfl rfl rfl rfl rfl rfl

theorem sector_lt {s : State} {q : Nat} (h : q ∈ s.logicSectors) : q < 4 := by
  simp only [State.logicSectors, allQuads, quadCount] at h
  split at h
  · cases h
  · simp only [List.mem_filter, List.mem_range] at h
    have := h.1
    split at this <;> omega

theorem same_passSector (s : State) (q : Nat) : Same (s.passSector q) s := by
  unfold State.passSector
  extract_lets n level cl sigs outs macs u
  have a : Same u s := same_setNet ..
  refine Same.trans ?_ a
  apply same_foldl
  intro t e _
  exact same_ite (same_modNet ..) (Same.refl t)

theorem same_looseNets (s : State) : Same s.looseNets s := by
  unfold State.looseNets
  apply same_foldl
  intro t q _
  apply same_foldl
  intro u e _
  exact (same_modNet ..).trans (same_draw ..)

theorem same_settleNets (n : Nat) (s : State) : Same (State.settleNets n s) s := by
  induction n generalizing s with
  | zero => exact same_looseNets s
  | succ n ih =>
    simp only [State.settleNets]
    split
    · exact Same.refl s
    · exact (ih _).trans (same_foldl _ _ _ fun t q _ => same_passSector t q)

theorem same_clockSector (s : State) {q : Nat} (b n : Net) (h : q < 4) : Same (s.clockSector q b n) s := by
  have k1 : settledKey (K.fabricSectorBramCollisions q) = true := by
    have e1 : K.fabricSectorBramCollisions q / 256 = 0x6010 + q := by simp only [K.fabricSectorBramCollisions, key]; omega
    have e2 : K.fabricSectorBramCollisions q % 256 = 5 := by simp only [K.fabricSectorBramCollisions, key]; omega
    simp [settledKey, keyIn, e1, e2]; omega
  unfold State.clockSector
  apply same_foldl
  intro t e _
  exact same_ite ((same_modNet ..).trans ((same_set _ _ _ k1).trans ((same_setNet ..).trans (same_modNet ..))))
    ((same_set _ _ _ k1).trans ((same_setNet ..).trans (same_modNet ..)))

theorem same_propagate (n : Nat) (b : List (Nat × Net)) (s : State) : Same (State.propagate n b s) s := by
  induction n generalizing b s with
  | zero => exact Same.refl s
  | succ n ih =>
    simp only [State.propagate]
    have a : Same ((State.settleNets 65536 s).logicSectors.foldl (fun st q => st.clockSector q (Sp.get (fun _ => Net.none_) b q)
        ((State.settleNets 65536 s).net q)) (State.settleNets 65536 s)) s :=
      (same_foldl _ _ _ fun t q hq => same_clockSector t _ _ (sector_lt hq)).trans (same_settleNets _ _)
    split
    · exact a
    · exact (ih _ _).trans a

theorem same_settleLogic (s : State) : Same s.settleLogic s := by
  unfold State.settleLogic
  exact same_ite (Same.refl s) (same_propagate ..)

theorem same_modNets (s : State) (qs : List Nat) (f : Nat → Net → Net) : Same (qs.foldl (fun st q => st.modNet q (f q)) s) s :=
  same_foldl _ _ _ fun _ _ _ => same_modNet ..

theorem same_triggerLines (s : State) (p : Nat) : Same (s.triggerLines p) s := by
  unfold State.triggerLines
  refine same_ite (Same.refl s) ?_
  unfold State.pulse
  refine same_ite (Same.refl s) ?_
  exact (same_propagate ..).trans ((same_modNets ..).trans ((same_propagate ..).trans ((same_propagate ..).trans (same_modNets ..))))

theorem same_settleFabric (s before : State) : Same (s.settleFabric before) s :=
  (same_settleLogic _).trans (same_triggerLines ..)

theorem same_settleUnits (s before : State) : Same (s.settleUnits before) s := by
  unfold State.settleUnits
  split
  · exact Same.refl s
  · exact (same_settleFabric _ _).trans ((same_settleBackstop _ _).trans ((same_movePins _ _).trans ((same_settleLanes _).trans
      ((same_settleEvents _).trans ((same_watchScene _).trans (same_linkReady _))))))

/-! ## Notices and what leaves the ports -/

theorem same_sendNotice (s : State) (p src : Nat) (b : List Byte) : Same (s.sendNotice p src b) s := by
  unfold State.sendNotice
  simp only []
  split
  · exact same_emit ..
  · split
    · exact same_setPort ..
    · exact (same_raise766 _ _).trans (same_setPort ..)

theorem same_putSub (s : State) (x : Subscription) : Same (s.putSub x) s := same_of _ _ rfl rfl rfl rfl rfl rfl rfl rfl rfl rfl

theorem same_markAll (s before : State) : Same (s.markAll before) s := same_of _ _ rfl rfl rfl rfl rfl rfl rfl rfl rfl rfl

theorem same_sendDue (s : State) : Same s.sendDue s := by
  unfold State.sendDue
  apply same_foldl
  intro u x _
  exact (same_sendNotice ..).trans (same_putSub ..)

theorem same_markLate (s before : State) (n : Nat) : Same (s.markLate before n) s := by
  unfold State.markLate
  exact same_ite (Same.refl s) (same_of _ _ rfl rfl rfl rfl rfl rfl rfl rfl rfl rfl)

theorem same_sendEnded (s : State) : Same s.sendEnded s := by
  unfold State.sendEnded
  refine Same.trans (b := { s with ended := [] }) ?_ (same_of _ _ rfl rfl rfl rfl rfl rfl rfl rfl rfl rfl)
  apply same_foldl
  intro t e _
  exact same_sendNotice ..

theorem same_notices (s before : State) : Same (s.notices before) s := by
  unfold State.notices
  refine Same.trans ?_ (same_sendEnded s)
  exact same_ite (Same.refl _) ((same_markLate _ _ _).trans ((same_sendDue _).trans (same_markAll _ _)))

theorem same_setRallyLane (s : State) (i : Nat) (x : RallyLane) : Same (s.setRallyLane i x) s :=
  same_of _ _ rfl rfl rfl rfl rfl rfl rfl rfl rfl rfl

theorem same_launch (s : State) (lane : Nat) (w : Waiting) : Same (s.launch lane w) s := by
  unfold State.launch State.nextSeq
  simp only []
  split
  · exact (same_emit ..).trans ((same_draw ..).trans (same_setRallyLane ..))
  · exact (same_emit ..).trans (same_setRallyLane ..)

theorem same_offerFragment (s : State) (lane : Nat) (w : Waiting) : Same (s.offerFragment lane w) s := by
  unfold State.offerFragment
  exact same_ite (Same.refl s) (same_ite (same_setRallyLane ..) (same_launch ..))

theorem same_sendUmzin (s : State) (lane hop dest : Nat) (bytes : List Byte) : Same (s.sendUmzin lane hop dest bytes) s := by
  unfold State.sendUmzin
  apply same_foldl
  intro t k _
  exact same_offerFragment ..

theorem same_txFrame (s : State) {n : Nat} (h : n < 16) (b : Nat) : Same (s.txFrame n b) s := by
  have k1 : settledKey (K.laneTxFrames n) = true := lane_key h 4 1 (by simp) (by simp)
  have k2 : settledKey (K.laneTxBytes n) = true := lane_key h 4 2 (by simp) (by simp)
  have k3 : settledKey (K.laneWire n) = true := lane_key h 3 2 (by simp) (by simp)
  unfold State.txFrame
  simp only []
  split
  · exact (same_setLane ..).trans ((same_set _ _ _ k2).trans (same_set _ _ _ k1))
  · exact (same_set _ _ _ k3).trans ((same_setLane ..).trans ((same_set _ _ _ k2).trans (same_set _ _ _ k1)))

theorem same_route (s : State) (p : Nat) (e : Emission) : Same (s.route p e) s := by
  unfold State.route
  simp only []
  split
  · split
    · exact (same_set _ _ _ (by decide)).trans (same_emit ..)
    · exact Same.refl s
  · split
    · rename_i hp
      simp only [Bool.and_eq_true, decide_eq_true_eq] at hp
      split
      · split
        · exact same_ite (same_sendUmzin ..) (Same.refl s)
        · exact Same.refl s
      · split
        · exact Same.refl s
        · split
          · exact same_setLane ..
          · exact (same_txFrame _ (by omega) _).trans (same_emit ..)
    · exact same_emit ..

theorem same_routeAll (s : State) : Same s.routeAll s := by
  unfold State.routeAll
  refine Same.trans (b := { s with emitted := [] }) ?_ (same_of _ _ rfl rfl rfl rfl rfl rfl rfl rfl rfl rfl)
  apply same_foldl
  intro t e _
  split
  · exact same_route ..
  · exact same_route ..
  · exact same_emit ..

theorem same_showQueue (s : State) : Same s.showQueue s := same_poke _ _ _ (by decide)

/-- What follows a command that asks for no SAFE entry leaves every object outside `settledKey`, the Store's bytes, the contexts and
the clock as the command left them. -/
theorem same_finish (before s : State) (hv : s.variant = before.variant) (ha : s.safeAsk = 0) : Same (before.finish s) s := by
  unfold State.finish
  simp only []
  have a0 : Same s.showQueue.settleFirst s := (same_settleFirst _).trans (same_showQueue s)
  have a1 : s.showQueue.settleFirst.answerSafe = s.showQueue.settleFirst := by
    unfold State.answerSafe
    rw [if_pos (a0.safeAsk.trans ha)]
  rw [a1]
  have b := (same_routeAll ((s.showQueue.settleFirst.settleUnits before).notices before)).trans ((same_notices _ before).trans
    ((same_settleUnits _ before).trans a0))
  generalize ((s.showQueue.settleFirst.settleUnits before).notices before).routeAll = u at *
  refine ⟨?_, ?_, b.mem, b.clock, b.time, b.inForce, ?_, b.ctxs, b.boot, b.porLow⟩
  · exact hv.symm
  · intro k hk
    have : before.variant = u.variant := hv.symm.trans b.variant.symm
    rw [← b.obj k hk]
    simp only [State.obj, this]
  · exact ha.symm

theorem finish_variant (before s : State) : (before.finish s).variant = before.variant := by simp only [State.finish]
theorem finish_pending (before s : State) : (before.finish s).pending = before.pending := by simp only [State.finish]
theorem finish_safeAsk (before s : State) : (before.finish s).safeAsk = 0 := by simp only [State.finish]

end Sys2Proof.Laws
end

