-- ==== Sys2Proof/Laws/Requests.lean ====
section
/-! SUPPORT. How commands end: events and requests, the state at the access point, and what an answer leaves alone. -/

set_option Elab.async false

namespace Sys2Proof.Laws

open Sys2Proof.Machine

/-! ## Events -/

/-- An event of a device that is not in reset: its effect, then what follows every command. -/
theorem event_next (s : State) (t : Nat) (f : State → State) (h : s.held = false) :
    s.event t f = .next (s.finish (f (s.begin_ t))) := by
  have hb : (s.begin_ t).held = false := h
  simp only [State.event, State.run, hb, Bool.false_eq_true, if_false]

theorem eventOf_next (s : State) (b : Bool) (t : Nat) (f : State → State) (hb : b = true) (h : s.held = false) :
    s.eventOf b t f = .next (s.finish (f (s.begin_ t))) := by
  simp only [State.eventOf, hb, if_true]
  exact event_next s t f h

theorem runOf_next (s : State) (b : Bool) (t : Nat) (f : State → State) (hb : b = true) :
    s.runOf b t f = .next (s.finish (f (s.begin_ t))) := by
  simp only [State.runOf, hb, if_true, State.run]

/-- A command whose own effect asks for no SAFE entry: the next state agrees with the effect outside `settledKey`. -/
theorem completes_same {c : Instr} {s u : State} {own after : State → Prop} (he : exec c s = .next (s.finish u))
    (hv : u.variant = s.variant) (ha : u.safeAsk = 0) (ho : own u) (hP : ∀ t, Same t u → after t) : Completes c s own after :=
  ⟨_, he, ho, hP _ (same_finish s u hv ha)⟩

/-! ## The access point -/

theorem arrive_cases (s : State) (q : Req) : s.arrive q = s ∨ ∃ n, s.arrive q = s.rxFrame q.port n := by
  unfold State.arrive
  split
  · exact .inr ⟨_, rfl⟩
  · exact .inl rfl

/-- What the way to the access point leaves alone. -/
structure Reached (a s : State) : Prop where
  variant : a.variant = s.variant
  obj : ∀ k, accessKey k = false → a.obj k = s.obj k
  mem : a.mem = s.mem
  inForce : a.inForce = s.inForce
  safeAsk : a.safeAsk = s.safeAsk
  ctxs : a.ctxs = s.ctxs
  boot : a.boot = s.boot
  porLow : a.porLow = s.porLow
  transfers : a.transfers = s.transfers
  subs : a.subs = s.subs
  blobs : a.blobs = s.blobs

theorem reached_tally (s : State) (k w n : Nat) (h : accessKey k = true) : Reached (s.tally k w n) s where
  variant := tally_variant ..
  obj i hi := obj_tally_ne s w n (fun e => by subst e; simp [h] at hi)
  mem := tally_mem ..
  inForce := tally_inForce ..
  safeAsk := tally_safeAsk ..
  ctxs := tally_ctxs ..
  boot := tally_boot ..
  porLow := tally_porLow ..
  transfers := tally_transfers ..
  subs := tally_subs ..
  blobs := tally_blobs ..

theorem reached_poke (s : State) (k v : Nat) (h : accessKey k = true) : Reached (s.poke k v) s where
  variant := poke_variant ..
  obj i hi := obj_poke_ne s v (fun e => by subst e; simp [h] at hi)
  mem := poke_mem ..
  inForce := poke_inForce ..
  safeAsk := poke_safeAsk ..
  ctxs := poke_ctxs ..
  boot := poke_boot ..
  porLow := poke_porLow ..
  transfers := poke_transfers ..
  subs := poke_subs ..
  blobs := poke_blobs ..

theorem reached_leave (s : State) (q : Req) : Reached (s.leaveQueue q) s := ⟨rfl, fun _ _ => rfl, rfl, rfl, rfl, rfl, rfl, rfl, rfl, rfl, rfl⟩

theorem Reached.refl (s : State) : Reached s s := ⟨rfl, fun _ _ => rfl, rfl, rfl, rfl, rfl, rfl, rfl, rfl, rfl, rfl⟩

theorem Reached.trans {a b c : State} (h : Reached a b) (g : Reached b c) : Reached a c :=
  ⟨h.1.trans g.1, fun k hk => (h.2 k hk).trans (g.2 k hk), h.3.trans g.3, h.4.trans g.4, h.5.trans g.5, h.6.trans g.6,
   h.7.trans g.7, h.8.trans g.8, h.9.trans g.9, h.10.trans g.10, h.11.trans g.11⟩

theorem reached_begin (s : State) (t : Nat) : Reached (s.begin_ t) s :=
  ⟨begin_variant .., fun _ _ => rfl, begin_mem .., begin_inForce .., begin_safeAsk .., begin_ctxs .., begin_boot ..,
   begin_porLow .., begin_transfers .., begin_subs .., begin_blobs ..⟩

theorem port_lt {v : Variant} {p : Nat} (h : portPresent v p = true) : p < 33 := by
  have hl : laneCount v ≤ 16 := by unfold laneCount; split <;> omega
  simp only [portPresent, Bool.or_eq_true, Bool.and_eq_true, decide_eq_true_eq, beq_iff_eq] at h
  omega

theorem reached_arrive (s : State) (q : Req) (h : q.port < 33) : Reached (s.arrive q) s := by
  unfold State.arrive
  split
  · rename_i hc
    unfold State.rxFrame
    split
    · exact reached_tally _ _ _ _ (by decide)
    · rename_i hp
      simp only [Bool.and_eq_true] at hc
      have hl : q.port - 16 < 16 := by
        have h1 := hc.1
        simp only [State.caches, Bool.and_eq_true, Bool.or_eq_true, beq_iff_eq, decide_eq_true_eq] at h1
        omega
      have k1 : accessKey (K.laneRxFrames (q.port - 16)) = true := by
        generalize q.port - 16 = n at hl
        have e1 : K.laneRxFrames n / 256 = 0x5004 + 64 * n := by simp only [K.laneRxFrames, key]; omega
        have e2 : K.laneRxFrames n % 256 = 3 := by simp only [K.laneRxFrames, key]; omega
        have e3 : (0x5004 + 64 * n) % 64 = 4 := by omega
        simp only [accessKey, keyIn, e1, e2, e3]; simp; omega
      have k2 : accessKey (K.laneRxBytes (q.port - 16)) = true := by
        generalize q.port - 16 = n at hl
        have e1 : K.laneRxBytes n / 256 = 0x5004 + 64 * n := by simp only [K.laneRxBytes, key]; omega
        have e2 : K.laneRxBytes n % 256 = 4 := by simp only [K.laneRxBytes, key]; omega
        have e3 : (0x5004 + 64 * n) % 64 = 4 := by omega
        simp only [accessKey, keyIn, e1, e2, e3]; simp; omega
      exact (reached_tally _ _ _ _ k2).trans (reached_tally _ _ _ _ k1)
  · exact Reached.refl s

theorem reached_access (s : State) (q : Req) (h : portPresent s.variant q.port = true) : Reached (s.access q) s := by
  have hp := port_lt h
  have k1 : accessKey (K.portsPortRequests q.port) = true := by
    generalize q.port = n at hp
    have e1 : K.portsPortRequests n / 256 = 0x1120 + n := by simp only [K.portsPortRequests, key]; omega
    have e2 : K.portsPortRequests n % 256 = 2 := by simp only [K.portsPortRequests, key]; omega
    simp only [accessKey, keyIn, e1, e2]; simp; omega
  exact (reached_tally _ _ _ _ k1).trans ((reached_leave ..).trans ((reached_arrive _ _ hp).trans
    ((reached_poke _ _ _ (by decide)).trans (reached_begin ..))))

/-! ## Answers -/

theorem same_respond (s : State) (p c : Nat) (b : List Byte) : Same (s.respond p c b) s := by
  unfold State.respond
  simp only []
  split
  · exact same_emit ..
  · exact same_setPort ..

theorem same_remember (s : State) (q : Req) (op : Op) (b : List Byte) : Same (s.remember q op b) s := by
  unfold State.remember
  simp only []
  split
  · exact Same.refl s
  · exact same_setPort ..

theorem same_traced (s : State) (t : Nat) (q : Req) (op : Op) (n : Nat) : Same (s.traced t q op n) s := by
  unfold State.traced
  exact same_of _ _ rfl rfl rfl rfl rfl rfl rfl rfl rfl rfl

/-- A success leaves every object as the operation left it. -/
theorem same_answered (t : State) (q : Req) (op : Op) (quiet : Bool) (body : List Byte) (ty tr : Nat) :
    Same (t.answered q op quiet body ty tr) t := by
  unfold State.answered State.conclude
  extract_lets code m u
  have hu : Same u t := same_ite (Same.refl t) (same_traced ..)
  have hc : u.tallyAbort q.port code = u := rfl
  rw [hc]
  exact (same_respond ..).trans ((same_remember ..).trans hu)

/-- An admitted request whose operation is answered at once. -/
theorem asks_done (s t : State) (q : Req) (op : Op) (a : Answer) (h : Admitted s q op)
    (hc : carry op q (s.access q) = (t, some (.ok a))) (hr : (s.access q).resets q op = false) :
    s.asks q op = .next (s.finish (t.answered q op ((s.access q).readsTrace q op) a.body a.ty a.transfer)) := by
  obtain ⟨hp, ht, hv, hb⟩ := h
  have hq : (((s.begin_ q.at_).showQueue.arrive q).leaveQueue q).readsTrace q op = (s.access q).readsTrace q op := by
    unfold State.access State.readsTrace State.transferNamed
    simp only [tally_transfers]
  simp only [State.asks, State.runOf, hp, if_true, State.run, State.request, ht, State.serve, hv, ne_eq, not_true, if_false]
  rw [hq]
  unfold State.access at *
  simp only [hb, hc, hr, Bool.false_eq_true, if_false, Bool.false_and]
  rfl

/-- A WRITE that is accepted. -/
theorem write_done (s : State) (q : Req) (l : Loc) (h : Accepts s q l) :
    s.asks q .write = .next (s.finish ((s.written q l).answered q .write
      ((s.access q).readsTrace q .write) [] l.row.ty.code 0)) := by
  obtain ⟨ha, hc, ht, hr⟩ := h
  refine asks_done s _ q .write ⟨[], l.row.ty.code, 0⟩ ha ?_ ?_
  · simp only [carry, opWrite, hc, ht, if_false, done, State.written]
  · simp only [State.resets, beq_eq_false_iff_ne, ne_eq]
    exact hr

/-- The frame of a request, from what its operation leaves alone. -/
theorem requestFrame_of {s t u v : State} {q : Req} {ks : List Nat} (hp : portPresent s.variant q.port = true)
    (h1 : Same t u) (h2 : Same u v) (hd : ∀ k, accessKey k = false → k ∉ ks → settledKey k = false → v.obj k = (s.access q).obj k) (hm : v.mem = s.mem) (hc : v.ctxs = s.ctxs)
    (hi : v.inForce = s.inForce) : RequestFrame s t ks := by
  have r := reached_access s q hp
  have g := h1.trans h2
  refine ⟨fun k a b c => ?_, fun a => ?_, ?_, ?_⟩
  · rw [g.obj k a, hd k b c a, r.obj k b]
  · simp only [State.byte, g.mem, hm]
  · rw [g.ctxs, hc]
  · rw [g.inForce, hi]

/-! ## The access point and the answer, field by field -/

/-- What none of the steps of a request's way to the access point touches is as it was. -/
theorem access_keeps {α : Type} (f : State → α) (hb : ∀ s t, f (s.begin_ t) = f s) (hp : ∀ s k v, f (s.poke k v) = f s)
    (hc : ∀ s k w n, f (s.tally k w n) = f s) (hl : ∀ s q, f (s.leaveQueue q) = f s) (s : State) (q : Req) : f (s.access q) = f s := by
  unfold State.access
  rw [hc, hl]
  unfold State.arrive State.rxFrame State.showQueue
  split
  · split
    · rw [hc, hp, hb]
    · rw [hc, hc, hp, hb]
  · rw [hp, hb]

@[simp] theorem access_variant (s : State) (q : Req) : (s.access q).variant = s.variant :=
  access_keeps State.variant begin_variant poke_variant tally_variant (fun _ _ => rfl) s q
@[simp] theorem access_inForce (s : State) (q : Req) : (s.access q).inForce = s.inForce :=
  access_keeps State.inForce begin_inForce poke_inForce tally_inForce (fun _ _ => rfl) s q
@[simp] theorem access_blobs (s : State) (q : Req) : (s.access q).blobs = s.blobs :=
  access_keeps State.blobs begin_blobs poke_blobs tally_blobs (fun _ _ => rfl) s q
@[simp] theorem access_ports (s : State) (q : Req) : (s.access q).ports = s.ports :=
  access_keeps State.ports begin_ports poke_ports tally_ports (fun _ _ => rfl) s q
@[simp] theorem access_transfers (s : State) (q : Req) : (s.access q).transfers = s.transfers :=
  access_keeps State.transfers begin_transfers poke_transfers tally_transfers (fun _ _ => rfl) s q
@[simp] theorem access_silenced (s : State) (q : Req) : (s.access q).silenced = s.silenced :=
  access_keeps State.silenced begin_silenced poke_silenced tally_silenced (fun _ _ => rfl) s q
@[simp] theorem access_subs (s : State) (q : Req) : (s.access q).subs = s.subs :=
  access_keeps State.subs begin_subs poke_subs tally_subs (fun _ _ => rfl) s q
@[simp] theorem access_replays (s : State) (q : Req) : (s.access q).replays = s.replays :=
  access_keeps State.replays begin_replays poke_replays tally_replays (fun _ _ => rfl) s q
@[simp] theorem access_ended (s : State) (q : Req) : (s.access q).ended = s.ended :=
  access_keeps State.ended begin_ended poke_ended tally_ended (fun _ _ => rfl) s q
@[simp] theorem access_identity (s : State) (q : Req) : (s.access q).identity = s.identity :=
  access_keeps State.identity begin_identity poke_identity tally_identity (fun _ _ => rfl) s q
@[simp] theorem access_quadEdge (s : State) (q : Req) : (s.access q).quadEdge = s.quadEdge :=
  access_keeps State.quadEdge begin_quadEdge poke_quadEdge tally_quadEdge (fun _ _ => rfl) s q
@[simp] theorem access_trace (s : State) (q : Req) : (s.access q).trace = s.trace :=
  access_keeps State.trace begin_trace poke_trace tally_trace (fun _ _ => rfl) s q
@[simp] theorem access_evLast (s : State) (q : Req) : (s.access q).evLast = s.evLast :=
  access_keeps State.evLast begin_evLast poke_evLast tally_evLast (fun _ _ => rfl) s q
@[simp] theorem access_evOrd (s : State) (q : Req) : (s.access q).evOrd = s.evOrd :=
  access_keeps State.evOrd begin_evOrd poke_evOrd tally_evOrd (fun _ _ => rfl) s q
@[simp] theorem access_porLow (s : State) (q : Req) : (s.access q).porLow = s.porLow :=
  access_keeps State.porLow begin_porLow poke_porLow tally_porLow (fun _ _ => rfl) s q
@[simp] theorem access_safeLow (s : State) (q : Req) : (s.access q).safeLow = s.safeLow :=
  access_keeps State.safeLow begin_safeLow poke_safeLow tally_safeLow (fun _ _ => rfl) s q
@[simp] theorem access_strap (s : State) (q : Req) : (s.access q).strap = s.strap :=
  access_keeps State.strap begin_strap poke_strap tally_strap (fun _ _ => rfl) s q
@[simp] theorem access_slotA (s : State) (q : Req) : (s.access q).slotA = s.slotA :=
  access_keeps State.slotA begin_slotA poke_slotA tally_slotA (fun _ _ => rfl) s q
@[simp] theorem access_slotB (s : State) (q : Req) : (s.access q).slotB = s.slotB :=
  access_keeps State.slotB begin_slotB poke_slotB tally_slotB (fun _ _ => rfl) s q
@[simp] theorem access_flashSelect (s : State) (q : Req) : (s.access q).flashSelect = s.flashSelect :=
  access_keeps State.flashSelect begin_flashSelect poke_flashSelect tally_flashSelect (fun _ _ => rfl) s q
@[simp] theorem access_seqWords (s : State) (q : Req) : (s.access q).seqWords = s.seqWords :=
  access_keeps State.seqWords begin_seqWords poke_seqWords tally_seqWords (fun _ _ => rfl) s q
@[simp] theorem access_boot (s : State) (q : Req) : (s.access q).boot = s.boot :=
  access_keeps State.boot begin_boot poke_boot tally_boot (fun _ _ => rfl) s q
@[simp] theorem access_trans (s : State) (q : Req) : (s.access q).trans = s.trans :=
  access_keeps State.trans begin_trans poke_trans tally_trans (fun _ _ => rfl) s q
@[simp] theorem access_halted (s : State) (q : Req) : (s.access q).halted = s.halted :=
  access_keeps State.halted begin_halted poke_halted tally_halted (fun _ _ => rfl) s q
@[simp] theorem access_silent (s : State) (q : Req) : (s.access q).silent = s.silent :=
  access_keeps State.silent begin_silent poke_silent tally_silent (fun _ _ => rfl) s q
@[simp] theorem access_mem (s : State) (q : Req) : (s.access q).mem = s.mem :=
  access_keeps State.mem begin_mem poke_mem tally_mem (fun _ _ => rfl) s q
@[simp] theorem access_poison (s : State) (q : Req) : (s.access q).poison = s.poison :=
  access_keeps State.poison begin_poison poke_poison tally_poison (fun _ _ => rfl) s q
@[simp] theorem access_corrections (s : State) (q : Req) : (s.access q).corrections = s.corrections :=
  access_keeps State.corrections begin_corrections poke_corrections tally_corrections (fun _ _ => rfl) s q
@[simp] theorem access_retireQ (s : State) (q : Req) : (s.access q).retireQ = s.retireQ :=
  access_keeps State.retireQ begin_retireQ poke_retireQ tally_retireQ (fun _ _ => rfl) s q
@[simp] theorem access_customMasks (s : State) (q : Req) : (s.access q).customMasks = s.customMasks :=
  access_keeps State.customMasks begin_customMasks poke_customMasks tally_customMasks (fun _ _ => rfl) s q
@[simp] theorem access_pcs (s : State) (q : Req) : (s.access q).pcs = s.pcs :=
  access_keeps State.pcs begin_pcs poke_pcs tally_pcs (fun _ _ => rfl) s q
@[simp] theorem access_safeAsk (s : State) (q : Req) : (s.access q).safeAsk = s.safeAsk :=
  access_keeps State.safeAsk begin_safeAsk poke_safeAsk tally_safeAsk (fun _ _ => rfl) s q
@[simp] theorem access_ctxs (s : State) (q : Req) : (s.access q).ctxs = s.ctxs :=
  access_keeps State.ctxs begin_ctxs poke_ctxs tally_ctxs (fun _ _ => rfl) s q
@[simp] theorem access_tiles (s : State) (q : Req) : (s.access q).tiles = s.tiles :=
  access_keeps State.tiles begin_tiles poke_tiles tally_tiles (fun _ _ => rfl) s q
@[simp] theorem access_mons (s : State) (q : Req) : (s.access q).mons = s.mons :=
  access_keeps State.mons begin_mons poke_mons tally_mons (fun _ _ => rfl) s q
@[simp] theorem access_chains (s : State) (q : Req) : (s.access q).chains = s.chains :=
  access_keeps State.chains begin_chains poke_chains tally_chains (fun _ _ => rfl) s q
@[simp] theorem access_encs (s : State) (q : Req) : (s.access q).encs = s.encs :=
  access_keeps State.encs begin_encs poke_encs tally_encs (fun _ _ => rfl) s q
@[simp] theorem access_pitches (s : State) (q : Req) : (s.access q).pitches = s.pitches :=
  access_keeps State.pitches begin_pitches poke_pitches tally_pitches (fun _ _ => rfl) s q
@[simp] theorem access_feTurn (s : State) (q : Req) : (s.access q).feTurn = s.feTurn :=
  access_keeps State.feTurn begin_feTurn poke_feTurn tally_feTurn (fun _ _ => rfl) s q
@[simp] theorem access_coarse (s : State) (q : Req) : (s.access q).coarse = s.coarse :=
  access_keeps State.coarse begin_coarse poke_coarse tally_coarse (fun _ _ => rfl) s q
@[simp] theorem access_lockRuns (s : State) (q : Req) : (s.access q).lockRuns = s.lockRuns :=
  access_keeps State.lockRuns begin_lockRuns poke_lockRuns tally_lockRuns (fun _ _ => rfl) s q
@[simp] theorem access_refLost (s : State) (q : Req) : (s.access q).refLost = s.refLost :=
  access_keeps State.refLost begin_refLost poke_refLost tally_refLost (fun _ _ => rfl) s q
@[simp] theorem access_untested (s : State) (q : Req) : (s.access q).untested = s.untested :=
  access_keeps State.untested begin_untested poke_untested tally_untested (fun _ _ => rfl) s q
@[simp] theorem access_boardNext (s : State) (q : Req) : (s.access q).boardNext = s.boardNext :=
  access_keeps State.boardNext begin_boardNext poke_boardNext tally_boardNext (fun _ _ => rfl) s q
@[simp] theorem access_boardWas (s : State) (q : Req) : (s.access q).boardWas = s.boardWas :=
  access_keeps State.boardWas begin_boardWas poke_boardWas tally_boardWas (fun _ _ => rfl) s q
@[simp] theorem access_plan (s : State) (q : Req) : (s.access q).plan = s.plan :=
  access_keeps State.plan begin_plan poke_plan tally_plan (fun _ _ => rfl) s q
@[simp] theorem access_placeDirty (s : State) (q : Req) : (s.access q).placeDirty = s.placeDirty :=
  access_keeps State.placeDirty begin_placeDirty poke_placeDirty tally_placeDirty (fun _ _ => rfl) s q
@[simp] theorem access_trial (s : State) (q : Req) : (s.access q).trial = s.trial :=
  access_keeps State.trial begin_trial poke_trial tally_trial (fun _ _ => rfl) s q
@[simp] theorem access_defects (s : State) (q : Req) : (s.access q).defects = s.defects :=
  access_keeps State.defects begin_defects poke_defects tally_defects (fun _ _ => rfl) s q
@[simp] theorem access_swaps (s : State) (q : Req) : (s.access q).swaps = s.swaps :=
  access_keeps State.swaps begin_swaps poke_swaps tally_swaps (fun _ _ => rfl) s q
@[simp] theorem access_moves (s : State) (q : Req) : (s.access q).moves = s.moves :=
  access_keeps State.moves begin_moves poke_moves tally_moves (fun _ _ => rfl) s q
@[simp] theorem access_invarBad (s : State) (q : Req) : (s.access q).invarBad = s.invarBad :=
  access_keeps State.invarBad begin_invarBad poke_invarBad tally_invarBad (fun _ _ => rfl) s q
@[simp] theorem access_invarGood (s : State) (q : Req) : (s.access q).invarGood = s.invarGood :=
  access_keeps State.invarGood begin_invarGood poke_invarGood tally_invarGood (fun _ _ => rfl) s q
@[simp] theorem access_pinLevels (s : State) (q : Req) : (s.access q).pinLevels = s.pinLevels :=
  access_keeps State.pinLevels begin_pinLevels poke_pinLevels tally_pinLevels (fun _ _ => rfl) s q
@[simp] theorem access_cadenceBad (s : State) (q : Req) : (s.access q).cadenceBad = s.cadenceBad :=
  access_keeps State.cadenceBad begin_cadenceBad poke_cadenceBad tally_cadenceBad (fun _ _ => rfl) s q
@[simp] theorem access_rally (s : State) (q : Req) : (s.access q).rally = s.rally :=
  access_keeps State.rally begin_rally poke_rally tally_rally (fun _ _ => rfl) s q
@[simp] theorem access_whistleUntil (s : State) (q : Req) : (s.access q).whistleUntil = s.whistleUntil :=
  access_keeps State.whistleUntil begin_whistleUntil poke_whistleUntil tally_whistleUntil (fun _ _ => rfl) s q
@[simp] theorem access_bs (s : State) (q : Req) : (s.access q).bs = s.bs :=
  access_keeps State.bs begin_bs poke_bs tally_bs (fun _ _ => rfl) s q
@[simp] theorem access_wires (s : State) (q : Req) : (s.access q).wires = s.wires :=
  access_keeps State.wires begin_wires poke_wires tally_wires (fun _ _ => rfl) s q
@[simp] theorem access_fabs (s : State) (q : Req) : (s.access q).fabs = s.fabs :=
  access_keeps State.fabs begin_fabs poke_fabs tally_fabs (fun _ _ => rfl) s q
@[simp] theorem access_nets (s : State) (q : Req) : (s.access q).nets = s.nets :=
  access_keeps State.nets begin_nets poke_nets tally_nets (fun _ _ => rfl) s q
@[simp] theorem access_samples (s : State) (q : Req) : (s.access q).samples = s.samples :=
  access_keeps State.samples begin_samples poke_samples tally_samples (fun _ _ => rfl) s q
@[simp] theorem access_frames (s : State) (q : Req) : (s.access q).frames = s.frames :=
  access_keeps State.frames begin_frames poke_frames tally_frames (fun _ _ => rfl) s q
@[simp] theorem access_reload (s : State) (q : Req) : (s.access q).reload = s.reload :=
  access_keeps State.reload begin_reload poke_reload tally_reload (fun _ _ => rfl) s q
@[simp] theorem access_scrub (s : State) (q : Req) : (s.access q).scrub = s.scrub :=
  access_keeps State.scrub begin_scrub poke_scrub tally_scrub (fun _ _ => rfl) s q
@[simp] theorem access_dacs (s : State) (q : Req) : (s.access q).dacs = s.dacs :=
  access_keeps State.dacs begin_dacs poke_dacs tally_dacs (fun _ _ => rfl) s q
@[simp] theorem access_strobes (s : State) (q : Req) : (s.access q).strobes = s.strobes :=
  access_keeps State.strobes begin_strobes poke_strobes tally_strobes (fun _ _ => rfl) s q
@[simp] theorem access_lanes (s : State) (q : Req) : (s.access q).lanes = s.lanes :=
  access_keeps State.lanes begin_lanes poke_lanes tally_lanes (fun _ _ => rfl) s q
@[simp] theorem access_exports (s : State) (q : Req) : (s.access q).exports = s.exports :=
  access_keeps State.exports begin_exports poke_exports tally_exports (fun _ _ => rfl) s q
@[simp] theorem access_peers (s : State) (q : Req) : (s.access q).peers = s.peers :=
  access_keeps State.peers begin_peers poke_peers tally_peers (fun _ _ => rfl) s q
@[simp] theorem access_pins (s : State) (q : Req) : (s.access q).pins = s.pins :=
  access_keeps State.pins begin_pins poke_pins tally_pins (fun _ _ => rfl) s q
@[simp] theorem access_pats (s : State) (q : Req) : (s.access q).pats = s.pats :=
  access_keeps State.pats begin_pats poke_pats tally_pats (fun _ _ => rfl) s q
@[simp] theorem access_copying (s : State) (q : Req) : (s.access q).copying = s.copying :=
  access_keeps State.copying begin_copying poke_copying tally_copying (fun _ _ => rfl) s q
@[simp] theorem access_railsLow (s : State) (q : Req) : (s.access q).railsLow = s.railsLow :=
  access_keeps State.railsLow begin_railsLow poke_railsLow tally_railsLow (fun _ _ => rfl) s q
@[simp] theorem access_freeCount (s : State) (q : Req) : (s.access q).freeCount = s.freeCount :=
  access_keeps State.freeCount begin_freeCount poke_freeCount tally_freeCount (fun _ _ => rfl) s q
@[simp] theorem access_pending (s : State) (q : Req) : (s.access q).pending = s.pending :=
  access_keeps State.pending begin_pending poke_pending tally_pending (fun _ _ => rfl) s q
@[simp] theorem answered_variant (t : State) (q : Req) (op : Op) (b : Bool) (m : List Byte) (y r : Nat) :
    (t.answered q op b m y r).variant = t.variant := by
  simp only [State.answered, State.conclude, State.remember, State.traced, State.tallyAbort, if_true, respond_variant, apply_ite State.variant, setPort_variant, ite_self]
@[simp] theorem answered_clock (t : State) (q : Req) (op : Op) (b : Bool) (m : List Byte) (y r : Nat) :
    (t.answered q op b m y r).clock = t.clock := by
  simp only [State.answered, State.conclude, State.remember, State.traced, State.tallyAbort, if_true, respond_clock, apply_ite State.clock, setPort_clock, ite_self]
@[simp] theorem answered_time (t : State) (q : Req) (op : Op) (b : Bool) (m : List Byte) (y r : Nat) :
    (t.answered q op b m y r).time = t.time := by
  simp only [State.answered, State.conclude, State.remember, State.traced, State.tallyAbort, if_true, respond_time, apply_ite State.time, setPort_time, ite_self]
@[simp] theorem answered_timeRem (t : State) (q : Req) (op : Op) (b : Bool) (m : List Byte) (y r : Nat) :
    (t.answered q op b m y r).timeRem = t.timeRem := by
  simp only [State.answered, State.conclude, State.remember, State.traced, State.tallyAbort, if_true, respond_timeRem, apply_ite State.timeRem, setPort_timeRem, ite_self]
@[simp] theorem answered_dict (t : State) (q : Req) (op : Op) (b : Bool) (m : List Byte) (y r : Nat) :
    (t.answered q op b m y r).dict = t.dict := by
  simp only [State.answered, State.conclude, State.remember, State.traced, State.tallyAbort, if_true, respond_dict, apply_ite State.dict, setPort_dict, ite_self]
@[simp] theorem answered_inForce (t : State) (q : Req) (op : Op) (b : Bool) (m : List Byte) (y r : Nat) :
    (t.answered q op b m y r).inForce = t.inForce := by
  simp only [State.answered, State.conclude, State.remember, State.traced, State.tallyAbort, if_true, respond_inForce, apply_ite State.inForce, setPort_inForce, ite_self]
@[simp] theorem answered_blobs (t : State) (q : Req) (op : Op) (b : Bool) (m : List Byte) (y r : Nat) :
    (t.answered q op b m y r).blobs = t.blobs := by
  simp only [State.answered, State.conclude, State.remember, State.traced, State.tallyAbort, if_true, respond_blobs, apply_ite State.blobs, setPort_blobs, ite_self]
@[simp] theorem answered_writers (t : State) (q : Req) (op : Op) (b : Bool) (m : List Byte) (y r : Nat) :
    (t.answered q op b m y r).writers = t.writers := by
  simp only [State.answered, State.conclude, State.remember, State.traced, State.tallyAbort, if_true, respond_writers, apply_ite State.writers, setPort_writers, ite_self]
@[simp] theorem answered_transfers (t : State) (q : Req) (op : Op) (b : Bool) (m : List Byte) (y r : Nat) :
    (t.answered q op b m y r).transfers = t.transfers := by
  simp only [State.answered, State.conclude, State.remember, State.traced, State.tallyAbort, if_true, respond_transfers, apply_ite State.transfers, setPort_transfers, ite_self]
@[simp] theorem answered_silenced (t : State) (q : Req) (op : Op) (b : Bool) (m : List Byte) (y r : Nat) :
    (t.answered q op b m y r).silenced = t.silenced := by
  simp only [State.answered, State.conclude, State.remember, State.traced, State.tallyAbort, if_true, respond_silenced, apply_ite State.silenced, setPort_silenced, ite_self]
@[simp] theorem answered_subs (t : State) (q : Req) (op : Op) (b : Bool) (m : List Byte) (y r : Nat) :
    (t.answered q op b m y r).subs = t.subs := by
  simp only [State.answered, State.conclude, State.remember, State.traced, State.tallyAbort, if_true, respond_subs, apply_ite State.subs, setPort_subs, ite_self]
@[simp] theorem answered_replays (t : State) (q : Req) (op : Op) (b : Bool) (m : List Byte) (y r : Nat) :
    (t.answered q op b m y r).replays = t.replays := by
  simp only [State.answered, State.conclude, State.remember, State.traced, State.tallyAbort, if_true, respond_replays, apply_ite State.replays, setPort_replays, ite_self]
@[simp] theorem answered_ended (t : State) (q : Req) (op : Op) (b : Bool) (m : List Byte) (y r : Nat) :
    (t.answered q op b m y r).ended = t.ended := by
  simp only [State.answered, State.conclude, State.remember, State.traced, State.tallyAbort, if_true, respond_ended, apply_ite State.ended, setPort_ended, ite_self]
@[simp] theorem answered_served (t : State) (q : Req) (op : Op) (b : Bool) (m : List Byte) (y r : Nat) :
    (t.answered q op b m y r).served = t.served := by
  simp only [State.answered, State.conclude, State.remember, State.traced, State.tallyAbort, if_true, respond_served, apply_ite State.served, setPort_served, ite_self]
@[simp] theorem answered_identity (t : State) (q : Req) (op : Op) (b : Bool) (m : List Byte) (y r : Nat) :
    (t.answered q op b m y r).identity = t.identity := by
  simp only [State.answered, State.conclude, State.remember, State.traced, State.tallyAbort, if_true, respond_identity, apply_ite State.identity, setPort_identity, ite_self]
@[simp] theorem answered_quadEdge (t : State) (q : Req) (op : Op) (b : Bool) (m : List Byte) (y r : Nat) :
    (t.answered q op b m y r).quadEdge = t.quadEdge := by
  simp only [State.answered, State.conclude, State.remember, State.traced, State.tallyAbort, if_true, respond_quadEdge, apply_ite State.quadEdge, setPort_quadEdge, ite_self]
@[simp] theorem answered_evLast (t : State) (q : Req) (op : Op) (b : Bool) (m : List Byte) (y r : Nat) :
    (t.answered q op b m y r).evLast = t.evLast := by
  simp only [State.answered, State.conclude, State.remember, State.traced, State.tallyAbort, if_true, respond_evLast, apply_ite State.evLast, setPort_evLast, ite_self]
@[simp] theorem answered_evOrd (t : State) (q : Req) (op : Op) (b : Bool) (m : List Byte) (y r : Nat) :
    (t.answered q op b m y r).evOrd = t.evOrd := by
  simp only [State.answered, State.conclude, State.remember, State.traced, State.tallyAbort, if_true, respond_evOrd, apply_ite State.evOrd, setPort_evOrd, ite_self]
@[simp] theorem answered_changes (t : State) (q : Req) (op : Op) (b : Bool) (m : List Byte) (y r : Nat) :
    (t.answered q op b m y r).changes = t.changes := by
  simp only [State.answered, State.conclude, State.remember, State.traced, State.tallyAbort, if_true, respond_changes, apply_ite State.changes, setPort_changes, ite_self]
@[simp] theorem answered_porLow (t : State) (q : Req) (op : Op) (b : Bool) (m : List Byte) (y r : Nat) :
    (t.answered q op b m y r).porLow = t.porLow := by
  simp only [State.answered, State.conclude, State.remember, State.traced, State.tallyAbort, if_true, respond_porLow, apply_ite State.porLow, setPort_porLow, ite_self]
@[simp] theorem answered_safeLow (t : State) (q : Req) (op : Op) (b : Bool) (m : List Byte) (y r : Nat) :
    (t.answered q op b m y r).safeLow = t.safeLow := by
  simp only [State.answered, State.conclude, State.remember, State.traced, State.tallyAbort, if_true, respond_safeLow, apply_ite State.safeLow, setPort_safeLow, ite_self]
@[simp] theorem answered_strap (t : State) (q : Req) (op : Op) (b : Bool) (m : List Byte) (y r : Nat) :
    (t.answered q op b m y r).strap = t.strap := by
  simp only [State.answered, State.conclude, State.remember, State.traced, State.tallyAbort, if_true, respond_strap, apply_ite State.strap, setPort_strap, ite_self]
@[simp] theorem answered_slotA (t : State) (q : Req) (op : Op) (b : Bool) (m : List Byte) (y r : Nat) :
    (t.answered q op b m y r).slotA = t.slotA := by
  simp only [State.answered, State.conclude, State.remember, State.traced, State.tallyAbort, if_true, respond_slotA, apply_ite State.slotA, setPort_slotA, ite_self]
@[simp] theorem answered_slotB (t : State) (q : Req) (op : Op) (b : Bool) (m : List Byte) (y r : Nat) :
    (t.answered q op b m y r).slotB = t.slotB := by
  simp only [State.answered, State.conclude, State.remember, State.traced, State.tallyAbort, if_true, respond_slotB, apply_ite State.slotB, setPort_slotB, ite_self]
@[simp] theorem answered_flashSelect (t : State) (q : Req) (op : Op) (b : Bool) (m : List Byte) (y r : Nat) :
    (t.answered q op b m y r).flashSelect = t.flashSelect := by
  simp only [State.answered, State.conclude, State.remember, State.traced, State.tallyAbort, if_true, respond_flashSelect, apply_ite State.flashSelect, setPort_flashSelect, ite_self]
@[simp] theorem answered_seqWords (t : State) (q : Req) (op : Op) (b : Bool) (m : List Byte) (y r : Nat) :
    (t.answered q op b m y r).seqWords = t.seqWords := by
  simp only [State.answered, State.conclude, State.remember, State.traced, State.tallyAbort, if_true, respond_seqWords, apply_ite State.seqWords, setPort_seqWords, ite_self]
@[simp] theorem answered_boot (t : State) (q : Req) (op : Op) (b : Bool) (m : List Byte) (y r : Nat) :
    (t.answered q op b m y r).boot = t.boot := by
  simp only [State.answered, State.conclude, State.remember, State.traced, State.tallyAbort, if_true, respond_boot, apply_ite State.boot, setPort_boot, ite_self]
@[simp] theorem answered_trans (t : State) (q : Req) (op : Op) (b : Bool) (m : List Byte) (y r : Nat) :
    (t.answered q op b m y r).trans = t.trans := by
  simp only [State.answered, State.conclude, State.remember, State.traced, State.tallyAbort, if_true, respond_trans, apply_ite State.trans, setPort_trans, ite_self]
@[simp] theorem answered_halted (t : State) (q : Req) (op : Op) (b : Bool) (m : List Byte) (y r : Nat) :
    (t.answered q op b m y r).halted = t.halted := by
  simp only [State.answered, State.conclude, State.remember, State.traced, State.tallyAbort, if_true, respond_halted, apply_ite State.halted, setPort_halted, ite_self]
@[simp] theorem answered_silent (t : State) (q : Req) (op : Op) (b : Bool) (m : List Byte) (y r : Nat) :
    (t.answered q op b m y r).silent = t.silent := by
  simp only [State.answered, State.conclude, State.remember, State.traced, State.tallyAbort, if_true, respond_silent, apply_ite State.silent, setPort_silent, ite_self]
@[simp] theorem answered_mem (t : State) (q : Req) (op : Op) (b : Bool) (m : List Byte) (y r : Nat) :
    (t.answered q op b m y r).mem = t.mem := by
  simp only [State.answered, State.conclude, State.remember, State.traced, State.tallyAbort, if_true, respond_mem, apply_ite State.mem, setPort_mem, ite_self]
@[simp] theorem answered_poison (t : State) (q : Req) (op : Op) (b : Bool) (m : List Byte) (y r : Nat) :
    (t.answered q op b m y r).poison = t.poison := by
  simp only [State.answered, State.conclude, State.remember, State.traced, State.tallyAbort, if_true, respond_poison, apply_ite State.poison, setPort_poison, ite_self]
@[simp] theorem answered_corrections (t : State) (q : Req) (op : Op) (b : Bool) (m : List Byte) (y r : Nat) :
    (t.answered q op b m y r).corrections = t.corrections := by
  simp only [State.answered, State.conclude, State.remember, State.traced, State.tallyAbort, if_true, respond_corrections, apply_ite State.corrections, setPort_corrections, ite_self]
@[simp] theorem answered_retireQ (t : State) (q : Req) (op : Op) (b : Bool) (m : List Byte) (y r : Nat) :
    (t.answered q op b m y r).retireQ = t.retireQ := by
  simp only [State.answered, State.conclude, State.remember, State.traced, State.tallyAbort, if_true, respond_retireQ, apply_ite State.retireQ, setPort_retireQ, ite_self]
@[simp] theorem answered_customMasks (t : State) (q : Req) (op : Op) (b : Bool) (m : List Byte) (y r : Nat) :
    (t.answered q op b m y r).customMasks = t.customMasks := by
  simp only [State.answered, State.conclude, State.remember, State.traced, State.tallyAbort, if_true, respond_customMasks, apply_ite State.customMasks, setPort_customMasks, ite_self]
@[simp] theorem answered_pcs (t : State) (q : Req) (op : Op) (b : Bool) (m : List Byte) (y r : Nat) :
    (t.answered q op b m y r).pcs = t.pcs := by
  simp only [State.answered, State.conclude, State.remember, State.traced, State.tallyAbort, if_true, respond_pcs, apply_ite State.pcs, setPort_pcs, ite_self]
@[simp] theorem answered_safeAsk (t : State) (q : Req) (op : Op) (b : Bool) (m : List Byte) (y r : Nat) :
    (t.answered q op b m y r).safeAsk = t.safeAsk := by
  simp only [State.answered, State.conclude, State.remember, State.traced, State.tallyAbort, if_true, respond_safeAsk, apply_ite State.safeAsk, setPort_safeAsk, ite_self]
@[simp] theorem answered_ctxs (t : State) (q : Req) (op : Op) (b : Bool) (m : List Byte) (y r : Nat) :
    (t.answered q op b m y r).ctxs = t.ctxs := by
  simp only [State.answered, State.conclude, State.remember, State.traced, State.tallyAbort, if_true, respond_ctxs, apply_ite State.ctxs, setPort_ctxs, ite_self]
@[simp] theorem answered_tiles (t : State) (q : Req) (op : Op) (b : Bool) (m : List Byte) (y r : Nat) :
    (t.answered q op b m y r).tiles = t.tiles := by
  simp only [State.answered, State.conclude, State.remember, State.traced, State.tallyAbort, if_true, respond_tiles, apply_ite State.tiles, setPort_tiles, ite_self]
@[simp] theorem answered_mons (t : State) (q : Req) (op : Op) (b : Bool) (m : List Byte) (y r : Nat) :
    (t.answered q op b m y r).mons = t.mons := by
  simp only [State.answered, State.conclude, State.remember, State.traced, State.tallyAbort, if_true, respond_mons, apply_ite State.mons, setPort_mons, ite_self]
@[simp] theorem answered_chains (t : State) (q : Req) (op : Op) (b : Bool) (m : List Byte) (y r : Nat) :
    (t.answered q op b m y r).chains = t.chains := by
  simp only [State.answered, State.conclude, State.remember, State.traced, State.tallyAbort, if_true, respond_chains, apply_ite State.chains, setPort_chains, ite_self]
@[simp] theorem answered_encs (t : State) (q : Req) (op : Op) (b : Bool) (m : List Byte) (y r : Nat) :
    (t.answered q op b m y r).encs = t.encs := by
  simp only [State.answered, State.conclude, State.remember, State.traced, State.tallyAbort, if_true, respond_encs, apply_ite State.encs, setPort_encs, ite_self]
@[simp] theorem answered_pitches (t : State) (q : Req) (op : Op) (b : Bool) (m : List Byte) (y r : Nat) :
    (t.answered q op b m y r).pitches = t.pitches := by
  simp only [State.answered, State.conclude, State.remember, State.traced, State.tallyAbort, if_true, respond_pitches, apply_ite State.pitches, setPort_pitches, ite_self]
@[simp] theorem answered_feTurn (t : State) (q : Req) (op : Op) (b : Bool) (m : List Byte) (y r : Nat) :
    (t.answered q op b m y r).feTurn = t.feTurn := by
  simp only [State.answered, State.conclude, State.remember, State.traced, State.tallyAbort, if_true, respond_feTurn, apply_ite State.feTurn, setPort_feTurn, ite_self]
@[simp] theorem answered_coarse (t : State) (q : Req) (op : Op) (b : Bool) (m : List Byte) (y r : Nat) :
    (t.answered q op b m y r).coarse = t.coarse := by
  simp only [State.answered, State.conclude, State.remember, State.traced, State.tallyAbort, if_true, respond_coarse, apply_ite State.coarse, setPort_coarse, ite_self]
@[simp] theorem answered_lockRuns (t : State) (q : Req) (op : Op) (b : Bool) (m : List Byte) (y r : Nat) :
    (t.answered q op b m y r).lockRuns = t.lockRuns := by
  simp only [State.answered, State.conclude, State.remember, State.traced, State.tallyAbort, if_true, respond_lockRuns, apply_ite State.lockRuns, setPort_lockRuns, ite_self]
@[simp] theorem answered_refLost (t : State) (q : Req) (op : Op) (b : Bool) (m : List Byte) (y r : Nat) :
    (t.answered q op b m y r).refLost = t.refLost := by
  simp only [State.answered, State.conclude, State.remember, State.traced, State.tallyAbort, if_true, respond_refLost, apply_ite State.refLost, setPort_refLost, ite_self]
@[simp] theorem answered_untested (t : State) (q : Req) (op : Op) (b : Bool) (m : List Byte) (y r : Nat) :
    (t.answered q op b m y r).untested = t.untested := by
  simp only [State.answered, State.conclude, State.remember, State.traced, State.tallyAbort, if_true, respond_untested, apply_ite State.untested, setPort_untested, ite_self]
@[simp] theorem answered_boardNext (t : State) (q : Req) (op : Op) (b : Bool) (m : List Byte) (y r : Nat) :
    (t.answered q op b m y r).boardNext = t.boardNext := by
  simp only [State.answered, State.conclude, State.remember, State.traced, State.tallyAbort, if_true, respond_boardNext, apply_ite State.boardNext, setPort_boardNext, ite_self]
@[simp] theorem answered_boardWas (t : State) (q : Req) (op : Op) (b : Bool) (m : List Byte) (y r : Nat) :
    (t.answered q op b m y r).boardWas = t.boardWas := by
  simp only [State.answered, State.conclude, State.remember, State.traced, State.tallyAbort, if_true, respond_boardWas, apply_ite State.boardWas, setPort_boardWas, ite_self]
@[simp] theorem answered_plan (t : State) (q : Req) (op : Op) (b : Bool) (m : List Byte) (y r : Nat) :
    (t.answered q op b m y r).plan = t.plan := by
  simp only [State.answered, State.conclude, State.remember, State.traced, State.tallyAbort, if_true, respond_plan, apply_ite State.plan, setPort_plan, ite_self]
@[simp] theorem answered_placeDirty (t : State) (q : Req) (op : Op) (b : Bool) (m : List Byte) (y r : Nat) :
    (t.answered q op b m y r).placeDirty = t.placeDirty := by
  simp only [State.answered, State.conclude, State.remember, State.traced, State.tallyAbort, if_true, respond_placeDirty, apply_ite State.placeDirty, setPort_placeDirty, ite_self]
@[simp] theorem answered_trial (t : State) (q : Req) (op : Op) (b : Bool) (m : List Byte) (y r : Nat) :
    (t.answered q op b m y r).trial = t.trial := by
  simp only [State.answered, State.conclude, State.remember, State.traced, State.tallyAbort, if_true, respond_trial, apply_ite State.trial, setPort_trial, ite_self]
@[simp] theorem answered_defects (t : State) (q : Req) (op : Op) (b : Bool) (m : List Byte) (y r : Nat) :
    (t.answered q op b m y r).defects = t.defects := by
  simp only [State.answered, State.conclude, State.remember, State.traced, State.tallyAbort, if_true, respond_defects, apply_ite State.defects, setPort_defects, ite_self]
@[simp] theorem answered_swaps (t : State) (q : Req) (op : Op) (b : Bool) (m : List Byte) (y r : Nat) :
    (t.answered q op b m y r).swaps = t.swaps := by
  simp only [State.answered, State.conclude, State.remember, State.traced, State.tallyAbort, if_true, respond_swaps, apply_ite State.swaps, setPort_swaps, ite_self]
@[simp] theorem answered_moves (t : State) (q : Req) (op : Op) (b : Bool) (m : List Byte) (y r : Nat) :
    (t.answered q op b m y r).moves = t.moves := by
  simp only [State.answered, State.conclude, State.remember, State.traced, State.tallyAbort, if_true, respond_moves, apply_ite State.moves, setPort_moves, ite_self]
@[simp] theorem answered_invarBad (t : State) (q : Req) (op : Op) (b : Bool) (m : List Byte) (y r : Nat) :
    (t.answered q op b m y r).invarBad = t.invarBad := by
  simp only [State.answered, State.conclude, State.remember, State.traced, State.tallyAbort, if_true, respond_invarBad, apply_ite State.invarBad, setPort_invarBad, ite_self]
@[simp] theorem answered_invarGood (t : State) (q : Req) (op : Op) (b : Bool) (m : List Byte) (y r : Nat) :
    (t.answered q op b m y r).invarGood = t.invarGood := by
  simp only [State.answered, State.conclude, State.remember, State.traced, State.tallyAbort, if_true, respond_invarGood, apply_ite State.invarGood, setPort_invarGood, ite_self]
@[simp] theorem answered_pinLevels (t : State) (q : Req) (op : Op) (b : Bool) (m : List Byte) (y r : Nat) :
    (t.answered q op b m y r).pinLevels = t.pinLevels := by
  simp only [State.answered, State.conclude, State.remember, State.traced, State.tallyAbort, if_true, respond_pinLevels, apply_ite State.pinLevels, setPort_pinLevels, ite_self]
@[simp] theorem answered_cadenceBad (t : State) (q : Req) (op : Op) (b : Bool) (m : List Byte) (y r : Nat) :
    (t.answered q op b m y r).cadenceBad = t.cadenceBad := by
  simp only [State.answered, State.conclude, State.remember, State.traced, State.tallyAbort, if_true, respond_cadenceBad, apply_ite State.cadenceBad, setPort_cadenceBad, ite_self]
@[simp] theorem answered_rally (t : State) (q : Req) (op : Op) (b : Bool) (m : List Byte) (y r : Nat) :
    (t.answered q op b m y r).rally = t.rally := by
  simp only [State.answered, State.conclude, State.remember, State.traced, State.tallyAbort, if_true, respond_rally, apply_ite State.rally, setPort_rally, ite_self]
@[simp] theorem answered_whistleUntil (t : State) (q : Req) (op : Op) (b : Bool) (m : List Byte) (y r : Nat) :
    (t.answered q op b m y r).whistleUntil = t.whistleUntil := by
  simp only [State.answered, State.conclude, State.remember, State.traced, State.tallyAbort, if_true, respond_whistleUntil, apply_ite State.whistleUntil, setPort_whistleUntil, ite_self]
@[simp] theorem answered_bs (t : State) (q : Req) (op : Op) (b : Bool) (m : List Byte) (y r : Nat) :
    (t.answered q op b m y r).bs = t.bs := by
  simp only [State.answered, State.conclude, State.remember, State.traced, State.tallyAbort, if_true, respond_bs, apply_ite State.bs, setPort_bs, ite_self]
@[simp] theorem answered_wires (t : State) (q : Req) (op : Op) (b : Bool) (m : List Byte) (y r : Nat) :
    (t.answered q op b m y r).wires = t.wires := by
  simp only [State.answered, State.conclude, State.remember, State.traced, State.tallyAbort, if_true, respond_wires, apply_ite State.wires, setPort_wires, ite_self]
@[simp] theorem answered_fabs (t : State) (q : Req) (op : Op) (b : Bool) (m : List Byte) (y r : Nat) :
    (t.answered q op b m y r).fabs = t.fabs := by
  simp only [State.answered, State.conclude, State.remember, State.traced, State.tallyAbort, if_true, respond_fabs, apply_ite State.fabs, setPort_fabs, ite_self]
@[simp] theorem answered_nets (t : State) (q : Req) (op : Op) (b : Bool) (m : List Byte) (y r : Nat) :
    (t.answered q op b m y r).nets = t.nets := by
  simp only [State.answered, State.conclude, State.remember, State.traced, State.tallyAbort, if_true, respond_nets, apply_ite State.nets, setPort_nets, ite_self]
@[simp] theorem answered_samples (t : State) (q : Req) (op : Op) (b : Bool) (m : List Byte) (y r : Nat) :
    (t.answered q op b m y r).samples = t.samples := by
  simp only [State.answered, State.conclude, State.remember, State.traced, State.tallyAbort, if_true, respond_samples, apply_ite State.samples, setPort_samples, ite_self]
@[simp] theorem answered_frames (t : State) (q : Req) (op : Op) (b : Bool) (m : List Byte) (y r : Nat) :
    (t.answered q op b m y r).frames = t.frames := by
  simp only [State.answered, State.conclude, State.remember, State.traced, State.tallyAbort, if_true, respond_frames, apply_ite State.frames, setPort_frames, ite_self]
@[simp] theorem answered_reload (t : State) (q : Req) (op : Op) (b : Bool) (m : List Byte) (y r : Nat) :
    (t.answered q op b m y r).reload = t.reload := by
  simp only [State.answered, State.conclude, State.remember, State.traced, State.tallyAbort, if_true, respond_reload, apply_ite State.reload, setPort_reload, ite_self]
@[simp] theorem answered_scrub (t : State) (q : Req) (op : Op) (b : Bool) (m : List Byte) (y r : Nat) :
    (t.answered q op b m y r).scrub = t.scrub := by
  simp only [State.answered, State.conclude, State.remember, State.traced, State.tallyAbort, if_true, respond_scrub, apply_ite State.scrub, setPort_scrub, ite_self]
@[simp] theorem answered_dacs (t : State) (q : Req) (op : Op) (b : Bool) (m : List Byte) (y r : Nat) :
    (t.answered q op b m y r).dacs = t.dacs := by
  simp only [State.answered, State.conclude, State.remember, State.traced, State.tallyAbort, if_true, respond_dacs, apply_ite State.dacs, setPort_dacs, ite_self]
@[simp] theorem answered_strobes (t : State) (q : Req) (op : Op) (b : Bool) (m : List Byte) (y r : Nat) :
    (t.answered q op b m y r).strobes = t.strobes := by
  simp only [State.answered, State.conclude, State.remember, State.traced, State.tallyAbort, if_true, respond_strobes, apply_ite State.strobes, setPort_strobes, ite_self]
@[simp] theorem answered_lanes (t : State) (q : Req) (op : Op) (b : Bool) (m : List Byte) (y r : Nat) :
    (t.answered q op b m y r).lanes = t.lanes := by
  simp only [State.answered, State.conclude, State.remember, State.traced, State.tallyAbort, if_true, respond_lanes, apply_ite State.lanes, setPort_lanes, ite_self]
@[simp] theorem answered_exports (t : State) (q : Req) (op : Op) (b : Bool) (m : List Byte) (y r : Nat) :
    (t.answered q op b m y r).exports = t.exports := by
  simp only [State.answered, State.conclude, State.remember, State.traced, State.tallyAbort, if_true, respond_exports, apply_ite State.exports, setPort_exports, ite_self]
@[simp] theorem answered_peers (t : State) (q : Req) (op : Op) (b : Bool) (m : List Byte) (y r : Nat) :
    (t.answered q op b m y r).peers = t.peers := by
  simp only [State.answered, State.conclude, State.remember, State.traced, State.tallyAbort, if_true, respond_peers, apply_ite State.peers, setPort_peers, ite_self]
@[simp] theorem answered_pins (t : State) (q : Req) (op : Op) (b : Bool) (m : List Byte) (y r : Nat) :
    (t.answered q op b m y r).pins = t.pins := by
  simp only [State.answered, State.conclude, State.remember, State.traced, State.tallyAbort, if_true, respond_pins, apply_ite State.pins, setPort_pins, ite_self]
@[simp] theorem answered_pats (t : State) (q : Req) (op : Op) (b : Bool) (m : List Byte) (y r : Nat) :
    (t.answered q op b m y r).pats = t.pats := by
  simp only [State.answered, State.conclude, State.remember, State.traced, State.tallyAbort, if_true, respond_pats, apply_ite State.pats, setPort_pats, ite_self]
@[simp] theorem answered_copying (t : State) (q : Req) (op : Op) (b : Bool) (m : List Byte) (y r : Nat) :
    (t.answered q op b m y r).copying = t.copying := by
  simp only [State.answered, State.conclude, State.remember, State.traced, State.tallyAbort, if_true, respond_copying, apply_ite State.copying, setPort_copying, ite_self]
@[simp] theorem answered_railsLow (t : State) (q : Req) (op : Op) (b : Bool) (m : List Byte) (y r : Nat) :
    (t.answered q op b m y r).railsLow = t.railsLow := by
  simp only [State.answered, State.conclude, State.remember, State.traced, State.tallyAbort, if_true, respond_railsLow, apply_ite State.railsLow, setPort_railsLow, ite_self]
@[simp] theorem answered_freeCount (t : State) (q : Req) (op : Op) (b : Bool) (m : List Byte) (y r : Nat) :
    (t.answered q op b m y r).freeCount = t.freeCount := by
  simp only [State.answered, State.conclude, State.remember, State.traced, State.tallyAbort, if_true, respond_freeCount, apply_ite State.freeCount, setPort_freeCount, ite_self]
@[simp] theorem answered_pending (t : State) (q : Req) (op : Op) (b : Bool) (m : List Byte) (y r : Nat) :
    (t.answered q op b m y r).pending = t.pending := by
  simp only [State.answered, State.conclude, State.remember, State.traced, State.tallyAbort, if_true, respond_pending, apply_ite State.pending, setPort_pending, ite_self]

@[simp] theorem answered_obj (t : State) (q : Req) (op : Op) (b : Bool) (m : List Byte) (y r k : Nat) :
    (t.answered q op b m y r).obj k = t.obj k := by
  simp only [State.obj, answered_dict, answered_variant]

@[simp] theorem answered_writer (t : State) (q : Req) (op : Op) (b : Bool) (m : List Byte) (y r k : Nat) :
    (t.answered q op b m y r).writer k = t.writer k := by
  simp only [State.writer, answered_writers]

/-- An answered request has its response on its port. -/
theorem responds_answered (t : State) (q : Req) (op : Op) (quiet : Bool) (body : List Byte) (ty tr : Nat) :
    Responds t (t.answered q op quiet body ty tr) q (okMessage (t.answered q op quiet body ty tr) q op body ty tr) := by
  have ho : (t.answered q op quiet body ty tr).obj K.versionsRestricted = t.obj K.versionsRestricted :=
    (same_answered t q op quiet body ty tr).obj _ (by decide)
  unfold Responds okMessage
  rw [ho]
  unfold State.answered State.conclude
  extract_lets code m u
  have hu : u.ports = t.ports := by
    simp only [u]
    split
    · rfl
    · unfold State.traced; rfl
  have hc : u.tallyAbort q.port code = u := by simp only [State.tallyAbort, code, if_true]
  rw [hc]
  have hm : m = header (opcode op + 128) (1 + 2 * t.obj K.versionsRestricted) q.seq body.length q.index q.sub ty 0 tr ++ body := by
    simp only [m, State.response, State.answerFlags]
  rw [hm]
  have hr : ∀ b, ((u.remember q op b).portState q.port).responses = (t.portState q.port).responses := by
    intro b
    unfold State.remember
    split
    · simp only [State.portState, hu]
    · extract_lets x same rest
      rw [portState_setPort_self]
      simp only [x, State.portState, hu]
  split
  · rename_i h
    unfold State.respond
    simp only [h, Bool.not_true, Bool.false_eq_true, if_false, portState_setPort_self, hr]
  · rename_i h
    simp only [Bool.not_eq_true] at h
    unfold State.respond
    simp [h, State.emit]

theorem responds_congr {s s' u : State} {q : Req} {m : List Byte} (h : s.ports = s'.ports) (r : Responds s u q m) : Responds s' u q m := by
  unfold Responds State.portState at *
  rw [← h]; exact r



theorem same_afterRead (s : State) (l i b) : Same (s.afterRead l i b) s := by
  unfold State.afterRead
  split
  · split
    · exact same_setTile ..
    · exact same_setTile ..
    · exact Same.refl s
  · exact Same.refl s
theorem ports_afterRead (s : State) (l i b) : (s.afterRead l i b).ports = s.ports := by
  unfold State.afterRead
  split
  · split <;> rfl
  · rfl


/-! ## From an effect to a statement about the command -/

/-- An event whose effect asks for no SAFE entry. -/
theorem sets_of {c : Instr} {s u : State} {vs : List (Nat × Nat)} {own : State → Prop} (he : exec c s = .next (s.finish u))
    (hv : u.variant = s.variant) (ha : u.safeAsk = 0) (h1 : Holds u vs) (h2 : own u)
    (hf : ∀ k, k ∉ vs.map (·.1) → settledKey k = false → u.obj k = s.obj k) (hm : u.mem = s.mem) (hc : u.ctxs = s.ctxs)
    (hi : u.inForce = s.inForce) : Sets c s vs own := by
  refine completes_same he hv ha ⟨h1, h2⟩ (fun t ht => ⟨fun e he => ?_, fun k hk hn => ?_, fun a => ?_, ?_, ?_⟩)
  · simp only [List.mem_filter, Bool.not_eq_true'] at he
    rw [ht.obj _ he.2, h1 e he.1]
  · rw [ht.obj _ hk, hf k hn hk]
  · simp only [State.byte, ht.mem, hm]
  · rw [ht.ctxs, hc]
  · rw [ht.inForce, hi]

/-- A request that is answered with success, from the state that its operation leaves. -/
theorem asks_of {c : Instr} {s v : State} {q : Req} {op : Op} {a : Answer} {vs : List (Nat × Nat)} {own : State → Prop}
    (he : exec c s = s.asks q op) (h : Admitted s q op)
    (hc : carry op q (s.access q) = (v, some (.ok a))) (hr : (s.access q).resets q op = false) (hv : v.variant = s.variant)
    (ha : v.safeAsk = 0) (h1 : Holds v vs)
    (h2 : own (v.answered q op ((s.access q).readsTrace q op) a.body a.ty a.transfer))
    (hf : ∀ k, k ∉ vs.map (·.1) → settledKey k = false → accessKey k = false → v.obj k = (s.access q).obj k) (hm : v.mem = s.mem)
    (hx : v.ctxs = s.ctxs) (hi : v.inForce = s.inForce) :
    Completes c s (fun u => Holds u vs ∧ own u)
      (fun t => Holds t (vs.filter (fun e => !settledKey e.1)) ∧ RequestFrame s t (vs.map (·.1))) := by
  have sb := same_answered v q op ((s.access q).readsTrace q op) a.body a.ty a.transfer
  have ho : ∀ k, (v.answered q op ((s.access q).readsTrace q op) a.body a.ty a.transfer).obj k = v.obj k := answered_obj _ _ _ _ _ _ _
  refine completes_same (he.trans (asks_done s v q op a h hc hr)) (by simp [hv]) (by simp [ha]) ⟨fun e he => ?_, h2⟩ ?_
  · rw [ho, h1 e he]
  · intro t ht
    refine ⟨fun e he => ?_, requestFrame_of h.1 ht sb (fun k b c d => hf k c d b) hm hx hi⟩
    simp only [List.mem_filter, Bool.not_eq_true'] at he
    rw [ht.obj _ he.2, ho, h1 e he.1]

theorem access_role (n : Nat) : accessKey (K.laneRole n) = false := by
  have e1 : K.laneRole n / 256 = 0x5000 + 64 * n := by simp only [K.laneRole, key]; omega
  have e2 : K.laneRole n % 256 = 3 := by simp only [K.laneRole, key]; omega
  have e3 : (0x5000 + 64 * n) % 64 = 0 := by omega
  have e4 : K.laneRole n ≠ K.portsMgmtRxFrames := by
    intro e; have := congrArg (· / 256) e; simp only [e1, K.portsMgmtRxFrames, key] at this; omega
  have e5 : K.laneRole n ≠ K.portsQueue := by
    intro e; have := congrArg (· / 256) e; simp only [e1, K.portsQueue, key] at this; omega
  simp [accessKey, keyIn, e1, e2, e3, e4, e5]

theorem access_classOf (s : State) (q : Req) (h : portPresent s.variant q.port = true) (p : Nat) :
    (s.access q).classOf p = s.classOf p := by
  simp only [State.classOf, (reached_access s q h).obj _ (access_role _)]

theorem written_writer (s : State) (q : Req) (l : Loc) (h : portPresent s.variant q.port = true) :
    ((s.written q l).writer (key q.index q.sub)).cls = s.classOf q.port ∧ ((s.written q l).writer (key q.index q.sub)).port = q.port := by
  unfold State.written State.put State.putOf
  simp only [Put.key_, writer_record_self, access_classOf s q h]
  trivial

/-- A dedicated write that is accepted, from the state in which it has taken effect. -/
theorem writes_of {c : Instr} {s : State} {q : Req} {l : Loc} {vs : List (Nat × Nat)} {own : State → Prop}
    (he : exec c s = s.asks q .write) (h : Accepts s q l) (hv : (s.written q l).variant = s.variant)
    (ha : (s.written q l).safeAsk = 0) (h1 : Holds (s.written q l) vs)
    (h2 : own ((s.written q l).answered q .write ((s.access q).readsTrace q .write) [] l.row.ty.code 0))
    (hf : ∀ k, k ∉ vs.map (·.1) → settledKey k = false → accessKey k = false → (s.written q l).obj k = (s.access q).obj k)
    (hm : (s.written q l).mem = s.mem) (hx : (s.written q l).ctxs = s.ctxs) (hi : (s.written q l).inForce = s.inForce) :
    Writes c s q l vs own := by
  have hw := written_writer s q l h.1.1
  have sb := same_answered (s.written q l) q .write ((s.access q).readsTrace q .write) [] l.row.ty.code 0
  refine completes_same (he.trans (write_done s q l h)) (by simp [hv]) (by simp [ha])
    ⟨responds_answered .., by rw [answered_writer]; exact hw.1, by rw [answered_writer]; exact hw.2,
      fun e he => by rw [answered_obj, h1 e he], h2⟩ ?_
  intro t ht
  refine ⟨fun e he => ?_, requestFrame_of h.1.1 ht sb (fun k b c d => hf k c d b) hm hx hi⟩
  simp only [List.mem_filter, Bool.not_eq_true'] at he
  rw [ht.obj _ he.2, answered_obj, h1 e he.1]

end Sys2Proof.Laws
end

