-- ==== Sys2Proof/Laws/Exec.lean ====
section
/-! SUPPORT. What each command runs: its arm and its meaning, unfolded once. -/

set_option Elab.async false

namespace Sys2Proof.Laws

open Sys2Proof.Machine

theorem exec_read (q : Req) (s : State) : exec (.read q) s = s.asks q .read := rfl
theorem exec_write (q : Req) (s : State) : exec (.write q) s = s.asks q .write := rfl
theorem exec_rmw (q : Req) (s : State) : exec (.rmw q) s = s.asks q .rmw := rfl
theorem exec_readMeta (q : Req) (s : State) : exec (.readMeta q) s = s.asks q .readMeta := rfl
theorem exec_blockOpen (q : Req) (s : State) : exec (.blockOpen q) s = s.asks q .blockOpen := rfl
theorem exec_blockSegment (q : Req) (s : State) : exec (.blockSegment q) s = s.asks q .blockSegment := rfl
theorem exec_blockClose (q : Req) (s : State) : exec (.blockClose q) s = s.asks q .blockClose := rfl
theorem exec_blockAbort (q : Req) (s : State) : exec (.blockAbort q) s = s.asks q .blockAbort := rfl
theorem exec_blockTransferSilence (t : Nat) (id : Nat) (s : State) : exec (.blockTransferSilence t id) s = s.event t (xTransferSilence id) := rfl
theorem exec_subscribe (q : Req) (s : State) : exec (.subscribe q) s = s.asks q .subscribe := rfl
theorem exec_unsubscribe (q : Req) (s : State) : exec (.unsubscribe q) s = s.asks q .unsubscribe := rfl
theorem exec_subscriptionLeaseExpiry (t : Nat) (id : Nat) (s : State) : exec (.subscriptionLeaseExpiry t id) s = s.event t (xLeaseExpiry id) := rfl
theorem exec_periodicNotice (t : Nat) (id : Nat) (s : State) : exec (.periodicNotice t id) s = s.event t (xPeriodicNotice id) := rfl
theorem exec_replay (q : Req) (s : State) : exec (.replay q) s = s.asks q .replay := rfl
theorem exec_requestQueueTimeout (q : Req) (op : Op) (s : State) : exec (.requestQueueTimeout q op) s = s.runOf (portPresent s.variant q.port) q.at_ (xQueueTimeout q op) := rfl
theorem exec_spiStatus (t : Nat) (s : State) : exec (.spiStatus t) s = s.event t (xStatusRead 0) := rfl
theorem exec_spiResponse (t : Nat) (s : State) : exec (.spiResponse t) s = s.event t (fun s => s.handOut 0 spiFrame State.takeResponse) := rfl
theorem exec_spiNotification (t : Nat) (s : State) : exec (.spiNotification t) s = s.event t (fun s => s.handOut 0 spiFrame State.takeNotice) := rfl
theorem exec_parallelStatusRead (t : Nat) (levels : Bool) (s : State) : exec (.parallelStatusRead t levels) s = s.event t (xParallelRead levels) := rfl
theorem exec_parallelResponseRead (t : Nat) (s : State) : exec (.parallelResponseRead t) s = s.event t (fun s => s.handOut 1 parallelFrame State.takeResponse) := rfl
theorem exec_parallelNotificationRead (t : Nat) (s : State) : exec (.parallelNotificationRead t) s = s.event t (fun s => s.handOut 1 parallelFrame State.takeNotice) := rfl
theorem exec_umzinRsp (t : Nat) (s : State) : exec (.umzinRsp t) s = s.event t (xUmzinRsp) := rfl
theorem exec_modeRequestStandby (q : Req) (s : State) : exec (.modeRequestStandby q) s = s.writes (withBody q (toLE 1 mStandby)) K.deviceModeRequest := rfl
theorem exec_modeRequestPrepare (q : Req) (s : State) : exec (.modeRequestPrepare q) s = s.writes (withBody q (toLE 1 mPrepare)) K.deviceModeRequest := rfl
theorem exec_modeRequestRun (q : Req) (s : State) : exec (.modeRequestRun q) s = s.writes (withBody q (toLE 1 mRun)) K.deviceModeRequest := rfl
theorem exec_modeRequestHold (q : Req) (s : State) : exec (.modeRequestHold q) s = s.writes (withBody q (toLE 1 mHold)) K.deviceModeRequest := rfl
theorem exec_modeRequestSafe (q : Req) (s : State) : exec (.modeRequestSafe q) s = s.writes (withBody q (toLE 1 mSafe)) K.deviceModeRequest := rfl
theorem exec_modeRequestCancel (q : Req) (s : State) : exec (.modeRequestCancel q) s = s.writes (withBody q (toLE 1 0)) K.deviceModeRequest := rfl
theorem exec_modeLoad (q : Req) (s : State) : exec (.modeLoad q) s = s.writes (withBody q (toLE 1 1)) K.deviceModeLoad := rfl
theorem exec_prepareStepEnd (t : Nat) (f : StepFacts) (s : State) : exec (.prepareStepEnd t f) s = s.event t (xPrepareStepEnd f) := rfl
theorem exec_alignLimitExpiry (t : Nat) (s : State) : exec (.alignLimitExpiry t) s = s.event t (xAlignExpiry) := rfl
theorem exec_runEntryTrigger (t : Nat) (p : Nat) (s : State) : exec (.runEntryTrigger t p) s = s.eventOf (p < 16) t (xRunEntry p) := rfl
theorem exec_holdTakesEffect (t : Nat) (s : State) : exec (.holdTakesEffect t) s = s.event t (xHoldTakesEffect) := rfl
theorem exec_autoResume (t : Nat) (p : Nat) (s : State) : exec (.autoResume t p) s = s.eventOf (p < 16) t (xAutoResume p) := rfl
theorem exec_drainComplete (t : Nat) (s : State) : exec (.drainComplete t) s = s.event t (xDrainComplete) := rfl
theorem exec_shutdownStepEnd (t : Nat) (s : State) : exec (.shutdownStepEnd t) s = s.event t (xShutdownStepEnd) := rfl
theorem exec_wakeStepEnd (t : Nat) (ok : Bool) (s : State) : exec (.wakeStepEnd t ok) s = s.event t (xWakeStepEnd ok) := rfl
theorem exec_safeRingsFreeze (t : Nat) (s : State) : exec (.safeRingsFreeze t) s = s.event t (xSafeFreeze) := rfl
theorem exec_safeClear (q : Req) (s : State) : exec (.safeClear q) s = s.writes q (K.deviceSafeClear) := rfl
theorem exec_deviceReset (q : Req) (s : State) : exec (.deviceReset q) s = s.writes (withBody q (toLE 2 0xA55A)) K.deviceReset := rfl
theorem exec_watchdogExpiry (t : Nat) (s : State) : exec (.watchdogExpiry t) s = s.event t (xWatchdogExpiry) := rfl
theorem exec_watchdogReset (t : Nat) (s : State) : exec (.watchdogReset t) s = s.event t (xWatchdogReset) := rfl
theorem exec_shadowCopyComplete (t : Nat) (s : State) : exec (.shadowCopyComplete t) s = s.event t (xShadowCopy) := rfl
theorem exec_porNLow (t : Nat) (s : State) : exec (.porNLow t) s = s.run t xPorLow := rfl
theorem exec_porNRelease (t : Nat) (s : State) : exec (.porNRelease t) s = s.run t xPorRelease := rfl
theorem exec_backstopLive (t : Nat) (strap : Bool) (bad : Nat) (s : State) : exec (.backstopLive t strap bad) s = s.event t (xBackstopLive strap bad) := rfl
theorem exec_storeTrainingEnd (t : Nat) (ok : Bool) (repaired : Nat) (s : State) : exec (.storeTrainingEnd t ok repaired) s = s.event t (xTrainingEnd ok repaired) := rfl
theorem exec_refclkDetected (t : Nat) (hz : Nat) (s : State) : exec (.refclkDetected t hz) s = s.event t (xRefclkDetected hz) := rfl
theorem exec_bootHeaderRead (t : Nat) (board : Bool) (s : State) : exec (.bootHeaderRead t board) s = s.event t (xHeaderRead board) := rfl
theorem exec_bootImageRead (t : Nat) (ok : Bool) (s : State) : exec (.bootImageRead t ok) s = s.event t (xImageRead ok) := rfl
theorem exec_firmwareConfirmed (t : Nat) (s : State) : exec (.firmwareConfirmed t) s = s.event t (xConfirmed) := rfl
theorem exec_confirmTimeout (t : Nat) (s : State) : exec (.confirmTimeout t) s = s.event t (xConfirmTimeout) := rfl
theorem exec_railExcursion (t : Nat) (rail : Nat) (mv : Int) (s : State) : exec (.railExcursion t rail mv) s = s.runOf (railPresent s.variant rail) t (xRailExcursion rail mv) := rfl
theorem exec_railBelowReset (t : Nat) (rail : Nat) (mv : Int) (s : State) : exec (.railBelowReset t rail mv) s = s.runOf (railPresent s.variant rail) t (xRailBelowReset rail mv) := rfl
theorem exec_dacSupplyLoss (t : Nat) (rail : Nat) (mv : Int) (s : State) : exec (.dacSupplyLoss t rail mv) s = s.runOf (railPresent s.variant rail) t (xDacSupplyLoss rail mv) := rfl
theorem exec_tempSensorRead (t : Nat) (digital : Int) (ana0 : Int) (ana1 : Int) (s : State) : exec (.tempSensorRead t digital ana0 ana1) s = s.event t (xTempRead digital ana0 ana1) := rfl
theorem exec_safeNLow (t : Nat) (s : State) : exec (.safeNLow t) s = s.run t xSafeNLow := rfl
theorem exec_versionsAcceptWrite (q : Req) (s : State) : exec (.versionsAcceptWrite q) s = s.writes q (K.versionsAccept) := rfl
theorem exec_mgmtSelectWrite (q : Req) (s : State) : exec (.mgmtSelectWrite q) s = s.writes q (K.versionsMgmtSelect) := rfl
theorem exec_firmwareSlotProgrammed (t : Nat) (slot : Nat) (ok : Bool) (s : State) : exec (.firmwareSlotProgrammed t slot ok) s = s.eventOf (slot < 2) t (xSlotProgrammed slot ok) := rfl
theorem exec_refclkLoss (t : Nat) (s : State) : exec (.refclkLoss t) s = s.event t (lossOfRefclk) := rfl
theorem exec_refclkReturn (t : Nat) (s : State) : exec (.refclkReturn t) s = s.event t (xRefclkReturn) := rfl
theorem exec_holdoverLimitExpiry (t : Nat) (s : State) : exec (.holdoverLimitExpiry t) s = s.event t (xHoldoverLimit) := rfl
theorem exec_synthLocked (t : Nat) (n : Nat) (phase : Int) (s : State) : exec (.synthLocked t n phase) s = s.eventOf (n < quadCount s.variant) t (synthLocks n phase) := rfl
theorem exec_timeSet (q : Req) (s : State) : exec (.timeSet q) s = s.writes q (K.timeSet) := rfl
theorem exec_ptpMessage (t : Nat) (m : Ptp) (s : State) : exec (.ptpMessage t m) s = s.event t (xPtpMessage m) := rfl
theorem exec_ptpAnnounceTimeout (t : Nat) (s : State) : exec (.ptpAnnounceTimeout t) s = s.event t (xPtpAnnounceTimeout) := rfl
theorem exec_encoderEdge (t : Nat) (e : Nat) (a : Bool) (b : Bool) (held : Nat) (s : State) : exec (.encoderEdge t e a b held) s = s.runOf (e < 8) t (xEncoderEdge e a b held) := rfl
theorem exec_encoderZEdge (t : Nat) (e : Nat) (s : State) : exec (.encoderZEdge t e) s = s.eventOf (e < 8) t (xEncoderZ e) := rfl
theorem exec_encoderWindow (t : Nat) (e : Nat) (s : State) : exec (.encoderWindow t e) s = s.eventOf (e < 8) t (xEncoderWindow e) := rfl
theorem exec_encoderStandstill (t : Nat) (e : Nat) (s : State) : exec (.encoderStandstill t e) s = s.eventOf (e < 8) t (xEncoderStandstill e) := rfl
theorem exec_encoderSignalLoss (t : Nat) (e : Nat) (s : State) : exec (.encoderSignalLoss t e) s = s.eventOf (e < 8) t (xEncoderSignalLoss e) := rfl
theorem exec_encPresetWrite (q : Req) (e : Nat) (s : State) : exec (.encPresetWrite q e) s = s.writesOf (e < 8) q (K.encPreset e) := rfl
theorem exec_encFilterWrite (q : Req) (e : Nat) (rateMax : Bool) (s : State) : exec (.encFilterWrite q e rateMax) s = s.writesOf (e < 8) q (if rateMax then K.encRateMax e else K.encGlitch e) := rfl
theorem exec_encEnable (q : Req) (e : Nat) (s : State) : exec (.encEnable q e) s = s.writesOf (e < 8) q (K.encEnable e) := rfl
theorem exec_lineTrigger (t : Nat) (p : Nat) (s : State) : exec (.lineTrigger t p) s = s.eventOf (p < 16) t (xLineTriggerAll p) := rfl
theorem exec_cdsLineEnd (t : Nat) (n : Nat) (s : State) : exec (.cdsLineEnd t n) s = s.eventOf (n < tileCount s.variant) t (xCdsLineEnd n) := rfl
theorem exec_rallyTimeSend (t : Nat) (lane : Nat) (s : State) : exec (.rallyTimeSend t lane) s = s.eventOf (lane < laneCount s.variant) t (xTimeSend lane) := rfl
theorem exec_rallyTimeFragment (t : Nat) (lane : Nat) (f : Frag) (s : State) : exec (.rallyTimeFragment t lane f) s = s.eventOf (lane < laneCount s.variant) t (xTimeFragment lane f) := rfl
theorem exec_sharedTriggerAnnounce (t : Nat) (p : Nat) (s : State) : exec (.sharedTriggerAnnounce t p) s = s.eventOf (p < 16) t (xSharedAnnounce p) := rfl
theorem exec_triggerHeartbeat (t : Nat) (p : Nat) (s : State) : exec (.triggerHeartbeat t p) s = s.eventOf (p < 16) t (xHeartbeat p) := rfl
theorem exec_rallyTriggerFragment (t : Nat) (lane : Nat) (f : Frag) (s : State) : exec (.rallyTriggerFragment t lane f) s = s.eventOf (lane < laneCount s.variant) t (xTriggerFragment lane f) := rfl
theorem exec_triggerTimeout (t : Nat) (p : Nat) (s : State) : exec (.triggerTimeout t p) s = s.eventOf (p < 16) t (xTriggerTimeout p) := rfl
theorem exec_rallyTrackFragment (t : Nat) (lane : Nat) (f : Frag) (s : State) : exec (.rallyTrackFragment t lane f) s = s.eventOf (lane < laneCount s.variant) t (xTrackFragment lane f) := rfl
theorem exec_rallyControlFragment (t : Nat) (lane : Nat) (hop : Nat) (c : Control) (s : State) : exec (.rallyControlFragment t lane hop c) s = s.eventOf (lane < laneCount s.variant) t (xControl lane hop c) := rfl
theorem exec_whistleFragment (t : Nat) (lane : Nat) (f : Frag) (s : State) : exec (.whistleFragment t lane f) s = s.eventOf (lane < laneCount s.variant) t (xWhistleFragment lane f) := rfl
theorem exec_umzinFragment (t : Nat) (lane : Nat) (hop : Nat) (dest : Nat) (origin : Nat) (bytes : List Byte) (s : State) : exec (.umzinFragment t lane hop dest origin bytes) s = s.eventOf (lane < laneCount s.variant) t (xUmzinFragment lane hop dest origin bytes) := rfl
theorem exec_streamFragment (t : Nat) (lane : Nat) (f : Peer) (s : State) : exec (.streamFragment t lane f) s = s.eventOf (lane < laneCount s.variant) t (xStreamFragment lane f) := rfl
theorem exec_rallyLaneLost (t : Nat) (lane : Nat) (s : State) : exec (.rallyLaneLost t lane) s = s.eventOf (lane < laneCount s.variant) t (xRallyLaneLost lane) := rfl
theorem exec_healingTimeout (t : Nat) (s : State) : exec (.healingTimeout t) s = s.event t (xHealingTimeout) := rfl
theorem exec_negotiationWindow (t : Nat) (s : State) : exec (.negotiationWindow t) s = s.event t (xNegotiationWindow) := rfl
theorem exec_backstopWhistle (t : Nat) (j : Nat) (s : State) : exec (.backstopWhistle t j) s = s.eventOf (j < 4) t (xBackstopWhistle j) := rfl
theorem exec_feBatch (t : Nat) (n : Nat) (s : State) : exec (.feBatch t n) s = s.eventOf (n < engineCount s.variant) t (xFeBatch n) := rfl
theorem exec_primingComplete (t : Nat) (n : Nat) (j : Nat) (s : State) : exec (.primingComplete t n j) s = s.eventOf (n < engineCount s.variant && j < 16) t (xPrimingComplete n j) := rfl
theorem exec_feEnable (q : Req) (n : Nat) (s : State) : exec (.feEnable q n) s = s.writesOf (n < 64) q (K.feEnable n) := rfl
theorem exec_coefSetWrite (q : Req) (c : Nat) (s : State) : exec (.coefSetWrite q c) s = s.writesOf (c < 128) q (K.feSetCoef c) := rfl
theorem exec_boardCommit (q : Req) (s : State) : exec (.boardCommit q) s = s.writes (withBody q (toLE 1 1)) K.boardCommit := rfl
theorem exec_boardProgrammed (t : Nat) (s : State) : exec (.boardProgrammed t) s = s.event t (boardProgrammed) := rfl
theorem exec_graphCommit (q : Req) (s : State) : exec (.graphCommit q) s = s.writes (withBody q (toLE 1 1)) K.graphCommit := rfl
theorem exec_placerTrial (q : Req) (s : State) : exec (.placerTrial q) s = s.writes q (K.placerTrial) := rfl
theorem exec_trialComplete (t : Nat) (s : State) : exec (.trialComplete t) s = s.event t (xTrialComplete) := rfl
theorem exec_defectAdd (q : Req) (s : State) : exec (.defectAdd q) s = s.writes q (K.placerDefectAdd) := rfl
theorem exec_defectClear (q : Req) (s : State) : exec (.defectClear q) s = s.writes q (K.placerDefectClear) := rfl
theorem exec_ctxRetry (q : Req) (c : Nat) (s : State) : exec (.ctxRetry q c) s = s.writesOf (c < 1024) q (K.ctxRetry c) := rfl
theorem exec_ctxSwap (q : Req) (c : Nat) (s : State) : exec (.ctxSwap q c) s = s.writesOf (c < 1024) q (K.ctxSwap c) := rfl
theorem exec_substitutionStepEnd (t : Nat) (tile : Nat) (ok : Bool) (s : State) : exec (.substitutionStepEnd t tile ok) s = s.eventOf (tile < tileCount s.variant) t (xSubstStep tile ok) := rfl
theorem exec_substitutionSwitch (t : Nat) (tile : Nat) (s : State) : exec (.substitutionSwitch t tile) s = s.eventOf (tile < tileCount s.variant) t (xSubstSwitch tile) := rfl
theorem exec_swappedCountExpiry (t : Nat) (c : Nat) (s : State) : exec (.swappedCountExpiry t c) s = s.eventOf (c < 1024) t (xSwappedExpiry c) := rfl
theorem exec_pieceMoveStepEnd (t : Nat) (j : Nat) (s : State) : exec (.pieceMoveStepEnd t j) s = s.eventOf (j < 256) t (xPieceMoveStep j) := rfl
theorem exec_ctxRingResume (q : Req) (c : Nat) (s : State) : exec (.ctxRingResume q c) s = s.writesOf (c < 1024) q (K.ctxRingResume c) := rfl
theorem exec_arbGrant (t : Nat) (g : Grant) (s : State) : exec (.arbGrant t g) s = s.eventOf (g.port < 32 && g.wants.all (fun w => clientPresent s.variant w.client)) t (xArbGrant g) := rfl
theorem exec_grantHoldLimit (t : Nat) (p : Nat) (client : Nat) (s : State) : exec (.grantHoldLimit t p client) s = s.eventOf (p < 32 && clientPresent s.variant client) t (xGrantHoldLimit p client) := rfl
theorem exec_arbClientClear (q : Req) (i : Nat) (s : State) : exec (.arbClientClear q i) s = s.writesOf (i < 48) q (K.arbClientClear i) := rfl
theorem exec_arbClearAll (q : Req) (s : State) : exec (.arbClearAll q) s = s.writes q (K.arbClearAll) := rfl
theorem exec_arbLiberoWrite (q : Req) (s : State) : exec (.arbLiberoWrite q) s = s.writes q (K.arbLiberoN) := rfl
theorem exec_arbSyncClear (q : Req) (s : State) : exec (.arbSyncClear q) s = s.writes q (K.arbSyncClear) := rfl
theorem exec_cadenceRefresh (t : Nat) (m : Cadence) (s : State) : exec (.cadenceRefresh t m) s = s.event t (xCadence m) := rfl
theorem exec_writeDrainStart (t : Nat) (p : Nat) (s : State) : exec (.writeDrainStart t p) s = s.eventOf (p < 32) t (xWriteDrainStart p) := rfl
theorem exec_writeDrainEnd (t : Nat) (p : Nat) (s : State) : exec (.writeDrainEnd t p) s = s.eventOf (p < 32) t (fun st => (xWriteDrainEnd p st).showLags) := rfl
theorem exec_refreshInterval (t : Nat) (p : Nat) (blocked : Bool) (s : State) : exec (.refreshInterval t p blocked) s = s.eventOf (p < 32) t (xRefreshInterval p blocked) := rfl
theorem exec_stackTempRead (t : Nat) (temp : Int) (s : State) : exec (.stackTempRead t temp) s = s.event t (xStackTempRead temp) := rfl
theorem exec_tailFlushTimeout (t : Nat) (c : Nat) (s : State) : exec (.tailFlushTimeout t c) s = s.eventOf (c < 1024) t (xTailFlush c) := rfl
theorem exec_rtWaitExceeded (t : Nat) (p : Nat) (wait : Nat) (s : State) : exec (.rtWaitExceeded t p wait) s = s.eventOf (p < 32) t (xRtWait p wait) := rfl
theorem exec_storePcClear (q : Req) (p : Nat) (s : State) : exec (.storePcClear q p) s = s.writesOf (p < 32) q (K.storePcClear p) := rfl
theorem exec_regionCopyComplete (t : Nat) (s : State) : exec (.regionCopyComplete t) s = s.event t (xRegionCopy) := rfl
theorem exec_parityRetry (t : Nat) (p : Nat) (ok : Bool) (s : State) : exec (.parityRetry t p ok) s = s.eventOf (p < 32) t (xParityRetry p ok) := rfl
theorem exec_shadowPatrol (t : Nat) (addrs : List Nat) (bad : List Nat) (s : State) : exec (.shadowPatrol t addrs bad) s = s.event t (xShadowPatrol addrs bad) := rfl
theorem exec_probeArm (q : Req) (s : State) : exec (.probeArm q) s = s.writes q (K.probeArm) := rfl
theorem exec_probeTrigger (t : Nat) (s : State) : exec (.probeTrigger t) s = s.event t (xProbeTrigger) := rfl
theorem exec_probeDone (t : Nat) (s : State) : exec (.probeDone t) s = s.event t (xProbeDone) := rfl
theorem exec_backstopProgrammed (t : Nat) (ok : Bool) (s : State) : exec (.backstopProgrammed t ok) s = s.event t (xArrayProgrammed ok) := rfl
theorem exec_backstopActivate (q : Req) (s : State) : exec (.backstopActivate q) s = s.writes q (K.backstopActivate) := rfl
theorem exec_backstopLatchCheck (t : Nat) (upsets : Nat) (s : State) : exec (.backstopLatchCheck t upsets) s = s.event t (xLatchCheck upsets) := rfl
theorem exec_configSectorReload (q : Req) (k : Nat) (s : State) : exec (.configSectorReload q k) s = s.writesOf (k < 4) q (K.configSectorReload k) := rfl
theorem exec_reloadStepEnd (t : Nat) (ok : Bool) (s : State) : exec (.reloadStepEnd t ok) s = s.event t (xReloadStep ok) := rfl
theorem exec_scrubFrame (t : Nat) (f : Finding) (s : State) : exec (.scrubFrame t f) s = s.event t (xScrubFrame f) := rfl
theorem exec_scrubEnable (q : Req) (s : State) : exec (.scrubEnable q) s = s.writes q (K.scrubEnable) := rfl
theorem exec_scrubWatchdog (t : Nat) (s : State) : exec (.scrubWatchdog t) s = s.event t (xScrubWatchdog) := rfl
theorem exec_calInternal (q : Req) (s : State) : exec (.calInternal q) s = s.writes (withBody q (withKind 1 q.body)) K.calCommand := rfl
theorem exec_calDark (q : Req) (s : State) : exec (.calDark q) s = s.writes (withBody q (withKind 2 q.body)) K.calCommand := rfl
theorem exec_calFlat (q : Req) (s : State) : exec (.calFlat q) s = s.writes (withBody q (withKind 3 q.body)) K.calCommand := rfl
theorem exec_ladderTraceEnd (t : Nat) (ok : Bool) (s : State) : exec (.ladderTraceEnd t ok) s = s.event t (xLadderEnd ok) := rfl
theorem exec_calRunEnd (t : Nat) (n : Nat) (r : CalRun) (s : State) : exec (.calRunEnd t n r) s = s.eventOf (n < tileCount s.variant) t (xCalRunEnd n r) := rfl
theorem exec_sceneRunEnd (t : Nat) (n : Nat) (held : List (Int × Nat)) (s : State) : exec (.sceneRunEnd t n held) s = s.eventOf (n < tileCount s.variant) t (xSceneRunEnd n held) := rfl
theorem exec_invarCheck (t : Nat) (ppm : Int) (s : State) : exec (.invarCheck t ppm) s = s.event t (xInvarCheck ppm) := rfl
theorem exec_limitRefresh (t : Nat) (n : Nat) (m : LimitMeas) (s : State) : exec (.limitRefresh t n m) s = s.eventOf (n < tileCount s.variant) t (xLimitRefresh n m) := rfl
theorem exec_ilvWordCount (t : Nat) (n : Nat) (f : IlvFacts) (s : State) : exec (.ilvWordCount t n f) s = s.eventOf (n < tileCount s.variant) t (xIlvWords n f) := rfl
theorem exec_ilvReset (q : Req) (n : Nat) (s : State) : exec (.ilvReset q n) s = s.writesOf (n < 256) q (K.tileIlvReset n) := rfl
theorem exec_tileFault (t : Nat) (n : Nat) (bit : Nat) (s : State) : exec (.tileFault t n bit) s = s.eventOf (n < tileCount s.variant && bit < 8) t (xTileFault n bit) := rfl
theorem exec_monitorTrip (t : Nat) (n : Nat) (i : Nat) (inputs : List (Int × Int)) (s : State) : exec (.monitorTrip t n i inputs) s = s.eventOf (n < tileCount s.variant && i < 2) t (xMonitorTrip n i inputs) := rfl
theorem exec_monitorWrite (q : Req) (n : Nat) (i : Nat) (sub : Nat) (s : State) : exec (.monitorWrite q n i sub) s = s.writesOf (n < 256 && i < 2 && monitorSub sub) q (key (0x300C + 16 * n + i) sub) := rfl
theorem exec_sceneEnableWrite (q : Req) (n : Nat) (s : State) : exec (.sceneEnableWrite q n) s = s.writesOf (n < 256) q (K.tileSceneEnable n) := rfl
theorem exec_busContention (t : Nat) (bus : Bus) (s : State) : exec (.busContention t bus) s = s.eventOf (busPresent s.variant bus) t (xBusContention bus) := rfl
theorem exec_contentionRecovery (t : Nat) (bus : Bus) (s : State) : exec (.contentionRecovery t bus) s = s.eventOf (busPresent s.variant bus) t (xContentionRecovery bus) := rfl
theorem exec_padOverload (t : Nat) (n : Nat) (s : State) : exec (.padOverload t n) s = s.eventOf (n < tileCount s.variant) t (xPadOverload n) := rfl
theorem exec_padClear (q : Req) (n : Nat) (s : State) : exec (.padClear q n) s = s.writesOf (n < 256) q (K.tilePadClear n) := rfl
theorem exec_padTermWrite (q : Req) (n : Nat) (s : State) : exec (.padTermWrite q n) s = s.writesOf (n < 256) q (K.tilePadTerm n) := rfl
theorem exec_padTestWrite (q : Req) (n : Nat) (s : State) : exec (.padTestWrite q n) s = s.writesOf (n < 256) q (K.tilePadTest n) := rfl
theorem exec_bufPeakClear (q : Req) (n : Nat) (s : State) : exec (.bufPeakClear q n) s = s.writesOf (n < 256) q (K.tileBufPeakClear n) := rfl
theorem exec_dacEnable (q : Req) (n : Nat) (s : State) : exec (.dacEnable q n) s = s.writesOf (n < 32) q (K.dacEnable n) := rfl
theorem exec_dacStrobe (t : Nat) (g : Nat) (s : State) : exec (.dacStrobe t g) s = s.eventOf (g < 4) t (xDacStrobe g) := rfl
theorem exec_deglitchHoldEnd (t : Nat) (n : Nat) (s : State) : exec (.deglitchHoldEnd t n) s = s.eventOf (n < dacCount s.variant) t (xHoldEnd n) := rfl
theorem exec_safeMoveEnd (t : Nat) (n : Nat) (s : State) : exec (.safeMoveEnd t n) s = s.eventOf (n < dacCount s.variant) t (xSafeMoveEnd n) := rfl
theorem exec_dacCurrentLimit (t : Nat) (n : Nat) (s : State) : exec (.dacCurrentLimit t n) s = s.eventOf (n < dacCount s.variant) t (xCurrentLimit n) := rfl
theorem exec_dacShortTimeout (t : Nat) (n : Nat) (s : State) : exec (.dacShortTimeout t n) s = s.eventOf (n < dacCount s.variant) t (xShortTimeout n) := rfl
theorem exec_dacClear (q : Req) (n : Nat) (s : State) : exec (.dacClear q n) s = s.writesOf (n < 32) q (K.dacClear n) := rfl
theorem exec_laneEnable (q : Req) (n : Nat) (s : State) : exec (.laneEnable q n) s = s.writesOf (n < 16) q (K.laneEnable n) := rfl
theorem exec_laneLinkUp (t : Nat) (n : Nat) (s : State) : exec (.laneLinkUp t n) s = s.eventOf (n < laneCount s.variant) t (xLinkUp n) := rfl
theorem exec_laneLinkDown (t : Nat) (n : Nat) (s : State) : exec (.laneLinkDown t n) s = s.eventOf (n < laneCount s.variant) t (xLinkDown n) := rfl
theorem exec_fecUncorrectable (t : Nat) (n : Nat) (s : State) : exec (.fecUncorrectable t n) s = s.eventOf (n < laneCount s.variant) t (xFecUncorrectable n) := rfl
theorem exec_fecSerCheck (t : Nat) (n : Nat) (symbols : Nat) (errors : Nat) (s : State) : exec (.fecSerCheck t n symbols errors) s = s.eventOf (n < laneCount s.variant) t (xFecSer n symbols errors) := rfl
theorem exec_pauseFrame (t : Nat) (n : Nat) (quanta : Nat) (s : State) : exec (.pauseFrame t n quanta) s = s.eventOf (n < laneCount s.variant) t (xPauseFrame n quanta) := rfl
theorem exec_pauseExpiry (t : Nat) (n : Nat) (s : State) : exec (.pauseExpiry t n) s = s.eventOf (n < laneCount s.variant) t (xPauseExpiry n) := rfl
theorem exec_flowLimitExpiry (t : Nat) (n : Nat) (s : State) : exec (.flowLimitExpiry t n) s = s.eventOf (n < laneCount s.variant) t (xFlowLimit n) := rfl
theorem exec_arpRequest (t : Nat) (port : Nat) (target : Nat) (v6 : Bool) (sender : Nat) (mac : Nat) (s : State) : exec (.arpRequest t port target v6 sender mac) s = s.eventOf (etherPort s.variant port) t (xArpRequest port target v6 sender mac) := rfl
theorem exec_icmpEcho (t : Nat) (port : Nat) (src : Nat) (data : List Byte) (s : State) : exec (.icmpEcho t port src data) s = s.eventOf (etherPort s.variant port) t (xIcmpEcho port src data) := rfl
theorem exec_arpReply (t : Nat) (n : Nat) (addr : Nat) (mac : Nat) (s : State) : exec (.arpReply t n addr mac) s = s.eventOf (n < laneCount s.variant) t (xArpReply n addr mac) := rfl
theorem exec_resolutionRetry (t : Nat) (n : Nat) (s : State) : exec (.resolutionRetry t n) s = s.eventOf (n < laneCount s.variant) t (xResolutionRetry n) := rfl
theorem exec_resolutionRefresh (t : Nat) (n : Nat) (s : State) : exec (.resolutionRefresh t n) s = s.eventOf (n < laneCount s.variant) t (xResolutionRefresh n) := rfl
theorem exec_streamPacketSend (t : Nat) (n : Nat) (s : State) : exec (.streamPacketSend t n) s = s.eventOf (n < laneCount s.variant) t (xStreamSend n) := rfl
theorem exec_laneClear (q : Req) (n : Nat) (s : State) : exec (.laneClear q n) s = s.writesOf (n < 16) q (K.laneClear n) := rfl
theorem exec_mgmtClear (q : Req) (s : State) : exec (.mgmtClear q) s = s.writes q (K.portsMgmtClear) := rfl
theorem exec_gpioBankWrite (q : Req) (b : Nat) (s : State) : exec (.gpioBankWrite q b) s = s.writesOf (b < 6) q (K.gpioBankWrite b) := rfl
theorem exec_gpioOutWrite (q : Req) (b : Nat) (s : State) : exec (.gpioOutWrite q b) s = s.writesOf (b < 6) q (K.gpioBankOut b) := rfl
theorem exec_gpioFuncWrite (q : Req) (k : Nat) (s : State) : exec (.gpioFuncWrite q k) s = s.writesOf (k < 96) q (K.gpioPinFunc k) := rfl
theorem exec_pinLatchCapture (t : Nat) (k : Nat) (s : State) : exec (.pinLatchCapture t k) s = s.eventOf (k < 96) t (xLatchCapture k) := rfl
theorem exec_funcFirstHandshake (t : Nat) (k : Nat) (s : State) : exec (.funcFirstHandshake t k) s = s.eventOf (k < 96) t (xHandshake k) := rfl
theorem exec_pinInputChange (t : Nat) (k : Nat) (level : Bool) (held : Nat) (s : State) : exec (.pinInputChange t k level held) s = s.runOf (k < 96) t (xPinInput k level held) := rfl
theorem exec_bankVioCheck (t : Nat) (b : Nat) (mv : Nat) (s : State) : exec (.bankVioCheck t b mv) s = s.eventOf (b < 6) t (xVioCheck b mv) := rfl
theorem exec_patternWrite (q : Req) (u : Nat) (sub : Nat) (s : State) : exec (.patternWrite q u sub) s = s.writesOf (u < 16 && 1 ≤ sub && sub ≤ 5) q (key (0x6900 + u) sub) := rfl
theorem exec_patternMatch (t : Nat) (u : Nat) (s : State) : exec (.patternMatch t u) s = s.eventOf (u < 16) t (xPatternMatch u) := rfl
theorem exec_eventClear (q : Req) (n : Nat) (s : State) : exec (.eventClear q n) s = s.writesOf (n < 768) q (K.eventClear n) := rfl
theorem exec_clearNode (q : Req) (s : State) : exec (.clearNode q) s = s.writes q (K.deviceEventsClearNode) := rfl
theorem exec_eventTest (q : Req) (s : State) : exec (.eventTest q) s = s.writes q (K.deviceEventsTest) := rfl
theorem exec_eventEnableWrite (q : Req) (n : Nat) (sub : Nat) (s : State) : exec (.eventEnableWrite q n sub) s = s.writesOf (n < 768 && (sub == 2 || sub == 4 || sub == 6)) q (key (0x7000 + n) sub) := rfl
theorem exec_eventLatchWrite (q : Req) (n : Nat) (s : State) : exec (.eventLatchWrite q n) s = s.writesOf (n < 768) q (K.eventLatch n) := rfl
theorem exec_sampleInstant (t : Nat) (n : Nat) (half : Nat) (codes : List Int) (far : Bool) (s : State) : exec (.sampleInstant t n half codes far) s = s.eventOf (n < tileCount s.variant && half < 2) t (xSampleInstant n half codes far) := rfl
theorem exec_portCellWord (t : Nat) (q : Nat) (k : Nat) (s : State) : exec (.portCellWord t q k) s = s.eventOf (q < quadCount s.variant && k < 256) t (xPortCell q k) := rfl
theorem exec_fabricWireChange (t : Nat) (w : FabricWire) (s : State) : exec (.fabricWireChange t w) s = s.eventOf (wirePresent s.variant w) t (xFabricWire w) := rfl
theorem exec_paceWireEdge (t : Nat) (i : Nat) (w : PaceFacts) (s : State) : exec (.paceWireEdge t i w) s = s.eventOf (i < 8) t (xPaceEdge i w) := rfl
theorem exec_backstopOscEdge (t : Nat) (s : State) : exec (.backstopOscEdge t) s = s.event t (xOscEdge) := rfl
theorem exec_enableTransitionEnd (t : Nat) (u : UnitName) (s : State) : exec (.enableTransitionEnd t u) s = s.eventOf (unitPresent s.variant u) t (xEnableEnd u) := rfl
theorem exec_macrocellsReloaded (t : Nat) (s : State) : exec (.macrocellsReloaded t) s = s.event t (xMacrocellsReloaded) := rfl
theorem exec_messageDropped (t : Nat) (port src : Nat) (reason : Drop) (bytes : List Byte) (s : State) : exec (.messageDropped t port src reason bytes) s = s.eventOf (portPresent s.variant port) t (xMessageDropped port src reason bytes) := rfl
theorem exec_frameDropped (t : Nat) (port : Nat) (fcs : Bool) (s : State) : exec (.frameDropped t port fcs) s = s.eventOf (etherPort s.variant port) t (xFrameDropped port fcs) := rfl
theorem exec_fragmentDropped (t : Nat) (lane : Nat) (s : State) : exec (.fragmentDropped t lane) s = s.eventOf (lane < laneCount s.variant) t (xFragmentDropped lane) := rfl
theorem exec_fragmentBoundary (t : Nat) (lane : Nat) (s : State) : exec (.fragmentBoundary t lane) s = s.eventOf (lane < laneCount s.variant) t (xFragmentBoundary lane) := rfl
theorem exec_faultOrderedSets (t : Nat) (lane : Nat) (on : Bool) (s : State) : exec (.faultOrderedSets t lane on) s = s.eventOf (lane < laneCount s.variant) t (xFaultSets lane on) := rfl
theorem exec_mgmtLinkUp (t : Nat) (mode : Nat) (speed : Nat) (s : State) : exec (.mgmtLinkUp t mode speed) s = s.event t (xMgmtUp mode speed) := rfl
theorem exec_mgmtLinkDown (t : Nat) (s : State) : exec (.mgmtLinkDown t) s = s.event t (xMgmtDown) := rfl
theorem exec_railReturn (t : Nat) (rail : Nat) (mv : Int) (s : State) : exec (.railReturn t rail mv) s = s.runOf (railPresent s.variant rail) t (xRailReturn rail mv) := rfl
theorem exec_safeNRelease (t : Nat) (s : State) : exec (.safeNRelease t) s = s.run t xSafeNRelease := rfl

end Sys2Proof.Laws
end

