-- ==== Sys2Proof/Laws/Ids.lean ====
section
/-! SUPPORT. A new id is one of 1 to 65,535 that is not in use (R65, R68, R70). -/

set_option Elab.async false

namespace Sys2Proof.Laws

open Sys2Proof.Machine

theorem freshId_spec (start : Nat) (used : List Nat) (hl : used.length < 65535) :
    1 ≤ freshId start used ∧ freshId start used ≤ 65535 ∧ freshId start used ∉ used := by
  unfold freshId
  set xs := (List.range (used.length + 1)).map (fun i => (start + i) % 65535 + 1) with hx
  have hex : ∃ a ∈ xs, a ∉ used := by
    by_contra hc
    push Not at hc
    have hnd : xs.Nodup := by
      rw [hx, List.nodup_map_iff_inj_on List.nodup_range]
      intro a ha b hb e
      simp only [List.mem_range] at ha hb
      omega
    have := (hnd.subperm hc).length_le
    simp [hx] at this
  cases hf : xs.find? (fun i => !used.contains i) with
  | none =>
    obtain ⟨a, ha, hn⟩ := hex
    rw [List.find?_eq_none] at hf
    have := hf a ha
    simp [hn] at this
  | some a =>
    have h1 := List.mem_of_find?_eq_some hf
    have h2 := List.find?_some hf
    simp only [Option.getD_some]
    simp only [hx, List.mem_map, List.mem_range] at h1
    obtain ⟨i, _, rfl⟩ := h1
    simp at h2
    refine ⟨by omega, by omega, h2⟩

end Sys2Proof.Laws
end

