-- ==== Sys2Proof/Laws/Locate.lean ====
section
/-! SUPPORT. Where the objects of the dedicated write commands stand in the object tables: form, attributes and unit. -/

set_option Elab.async false

namespace Sys2Proof.Laws

open Sys2Proof.Machine

/-- What of a location a write of a dedicated object rests on. -/
def place (k : Nat) : Option (Form × Nat × Nat × Nat) := (locate (k / 256) (k % 256)).map (fun l => (l.row.form, l.row.attr, l.unit, l.row.sub))

theorem accepted_find {s : State} {q : Req} {l : Loc} (h : checkWrite s q = .ok l) (hs : q.sub ≠ 0) : locate q.index q.sub = some l := by
  have hf : s.find q.index q.sub = .ok l := by
    have ho : s.checkObject q mayWrite false (fun _ => true) = .ok l := by
      simp only [checkWrite, bind, Except.bind] at h
      cases hg : guardQuadrants s q with
      | error e => simp [hg] at h
      | ok _ =>
      simp only [hg] at h
      cases ho : s.checkObject q mayWrite false (fun _ => true) with
      | error e => simp [ho] at h
      | ok l' =>
        simp only [ho] at h
        repeat' split at h
        all_goals first | contradiction | exact h
    simp only [State.checkObject, bind, Except.bind] at ho
    cases hf : s.find q.index q.sub with
    | error e => simp [hf] at ho
    | ok l' =>
      simp only [hf] at ho
      repeat' split at ho
      all_goals first | contradiction | exact ho
  simp only [State.find, hs, if_false] at hf
  split at hf
  · contradiction
  · split at hf
    · simp_all
    · contradiction

/-- The location of an accepted write of a dedicated object. -/
theorem accepted_place {s : State} {q : Req} {l : Loc} {k : Nat} (h : Accepts s (onObject q k) l) (hk : k % 256 ≠ 0) :
    place k = some (l.row.form, l.row.attr, l.unit, l.row.sub) := by
  have := accepted_find h.2.1 (by simpa [onObject] using hk)
  simp only [onObject] at this
  simp [place, this]

theorem onObject_key (q : Req) (k : Nat) : key (onObject q k).index (onObject q k).sub = k := by
  simp only [onObject, key]; omega

theorem locateIn_uniform (rows : List Row) (index unit sub : Nat)
    (h : ∀ r ∈ rows, r.place index sub = if sub = r.sub then some (unit, 0) else none) :
    locateIn index sub rows = (rows.find? (fun r => sub == r.sub)).map (fun r => ⟨r, unit, 0⟩) := by
  induction rows with
  | nil => rfl
  | cons r rs ih =>
    have hr := h r (List.mem_cons_self ..)
    simp only [locateIn, hr, List.find?_cons]
    by_cases e : sub = r.sub
    · simp [e]
    · simp only [e, if_false, beq_eq_false_iff_ne.mpr e]
      exact ih (fun r' h' => h r' (List.mem_cons_of_mem _ h'))

/-- A row whose units stand at successive indices. -/
theorem place_step (r : Row) (i n sub N : Nat) (hi : r.idx = i) (hp : r.form.spread.stride = 1) (hc : r.form.spread.count = N)
    (h1 : r.form.spread.icount = 1) (h2 : r.form.spread.sstride = 0) (h3 : r.form.spread.scount = 1) (hn : n < N) :
    r.place (i + n) sub = if sub = r.sub then some (n, 0) else none := by
  have a1 : i + n - i = n := by omega
  simp only [Row.place, hi, hp, hc, h1, h2, h3, a1]
  by_cases e : sub = r.sub
  · subst e; simp [hn]; omega
  · simp only [e, if_false]
    by_cases l : sub < r.sub
    · simp [l]
    · simp; omega

theorem context_place (n sub : Nat) (hn : n < 1024) :
    locate (0x4000 + n) sub = (rowsContext.find? (fun r => sub == r.sub)).map (fun r => ⟨r, n, 0⟩) := by
  have hr : rowsAt (0x4000 + n) = rowsContext := by
    unfold rowsAt
    simp only [show ¬ (0x4000 + n < 0x3000) by omega, show (0x4000 + n < 0x5800) by omega, show ¬ (0x4000 + n < 0x4000) by omega,
      show (0x4000 + n < 0x4400) by omega, if_true, if_false]
  rw [locate, hr]
  apply locateIn_uniform
  have hall : ∀ r ∈ rowsContext, r.idx = 0x4000 ∧ r.form = .context := by decide +kernel
  intro r h
  obtain ⟨h1, h2⟩ := hall r h
  exact place_step r 0x4000 n sub 1024 h1 (by rw [h2]; rfl) (by rw [h2]; rfl) (by rw [h2]; rfl) (by rw [h2]; rfl) (by rw [h2]; rfl) hn

theorem event_place (n sub : Nat) (hn : n < 768) :
    locate (0x7000 + n) sub = (rowsEvents.find? (fun r => sub == r.sub)).map (fun r => ⟨r, n, 0⟩) := by
  have hr : rowsAt (0x7000 + n) = rowsEvents := by
    unfold rowsAt
    simp only [show ¬ (0x7000 + n < 0x3000) by omega, show ¬ (0x7000 + n < 0x5800) by omega, show ¬ (0x7000 + n < 0x6400) by omega,
      show ¬ (0x7000 + n < 0x6500) by omega, show ¬ (0x7000 + n < 0x6800) by omega, show ¬ (0x7000 + n < 0x6A00) by omega,
      show ¬ (0x7000 + n < 0x7000) by omega, show (0x7000 + n < 0x7300) by omega, if_true, if_false]
  rw [locate, hr]
  apply locateIn_uniform
  have hall : ∀ r ∈ rowsEvents, r.idx = 0x7000 ∧ r.form = .event := by decide +kernel
  intro r h
  obtain ⟨h1, h2⟩ := hall r h
  exact place_step r 0x7000 n sub 768 h1 (by rw [h2]; rfl) (by rw [h2]; rfl) (by rw [h2]; rfl) (by rw [h2]; rfl) (by rw [h2]; rfl) hn

theorem place_calCommand : place K.calCommand = some (.single, 8, 0, 1) := by decide +kernel

theorem place_tileIlvReset : ∀ n < 256, place (K.tileIlvReset n) = some (.tile, 8, n, 6) := by decide +kernel

theorem place_tileSceneEnable : ∀ n < 256, place (K.tileSceneEnable n) = some (.tile, 0, n, 2) := by decide +kernel

theorem place_feEnable : ∀ n < 64, place (K.feEnable n) = some (.engine, 0, n, 1) := by decide +kernel

theorem place_feSetCoef : ∀ n < 128, place (K.feSetCoef n) = some (.coefSet, 0, n, 1) := by decide +kernel

theorem place_tilePadClear : ∀ n < 256, place (K.tilePadClear n) = some (.tile, 8, n, 8) := by decide +kernel

theorem place_tilePadTerm : ∀ n < 256, place (K.tilePadTerm n) = some (.tile, 0, n, 2) := by decide +kernel

theorem place_tilePadTest : ∀ n < 256, place (K.tilePadTest n) = some (.tile, 0, n, 3) := by decide +kernel

theorem place_tileBufPeakClear : ∀ n < 256, place (K.tileBufPeakClear n) = some (.tile, 8, n, 3) := by decide +kernel

theorem place_dacEnable : ∀ n < 32, place (K.dacEnable n) = some (.dac, 0, n, 1) := by decide +kernel

theorem place_dacClear : ∀ n < 32, place (K.dacClear n) = some (.dac, 8, n, 3) := by decide +kernel

theorem place_laneEnable : ∀ n < 16, place (K.laneEnable n) = some (.lane, 0, n, 1) := by decide +kernel

theorem place_laneClear : ∀ n < 16, place (K.laneClear n) = some (.lane, 8, n, 15) := by decide +kernel

theorem place_portsMgmtClear : place K.portsMgmtClear = some (.single, 8, 0, 6) := by decide +kernel

theorem place_probeArm : place K.probeArm = some (.single, 8, 0, 6) := by decide +kernel

theorem place_backstopActivate : place K.backstopActivate = some (.single, 8, 0, 6) := by decide +kernel

theorem place_configSectorReload : ∀ n < 4, place (K.configSectorReload n) = some (.sector, 8, n, 2) := by decide +kernel

theorem place_scrubEnable : place K.scrubEnable = some (.single, 0, 0, 1) := by decide +kernel

theorem place_deviceModeRequest : place K.deviceModeRequest = some (.single, 0, 0, 2) := by decide +kernel

theorem place_deviceModeLoad : place K.deviceModeLoad = some (.single, 8, 0, 3) := by decide +kernel

theorem place_deviceSafeClear : place K.deviceSafeClear = some (.single, 8, 0, 3) := by decide +kernel

theorem place_gpioBankWrite : ∀ n < 6, place (K.gpioBankWrite n) = some (.bank, 8, n, 3) := by decide +kernel

theorem place_gpioBankOut : ∀ n < 6, place (K.gpioBankOut n) = some (.bank, 0, n, 2) := by decide +kernel

theorem place_gpioPinFunc : ∀ n < 96, place (K.gpioPinFunc n) = some (.pin, 0, n, 1) := by decide +kernel

theorem place_eventClear (n : Nat) (h : n < 768) : place (K.eventClear n) = some (.event, 8, n, 7) := by
  have e1 : K.eventClear n / 256 = 0x7000 + n := by simp only [K.eventClear, key]; omega
  have e2 : K.eventClear n % 256 = 7 := by simp only [K.eventClear, key]; omega
  simp only [place, e1, e2, event_place n _ h]
  rfl

theorem place_deviceEventsClearNode : place K.deviceEventsClearNode = some (.single, 8, 0, 2) := by decide +kernel

theorem place_deviceEventsTest : place K.deviceEventsTest = some (.single, 8, 0, 3) := by decide +kernel

theorem place_eventLatch (n : Nat) (h : n < 768) : place (K.eventLatch n) = some (.event, 0, n, 3) := by
  have e1 : K.eventLatch n / 256 = 0x7000 + n := by simp only [K.eventLatch, key]; omega
  have e2 : K.eventLatch n % 256 = 3 := by simp only [K.eventLatch, key]; omega
  simp only [place, e1, e2, event_place n _ h]
  rfl

theorem place_boardCommit : place K.boardCommit = some (.single, 8, 0, 4) := by decide +kernel

theorem place_graphCommit : place K.graphCommit = some (.single, 8, 0, 2) := by decide +kernel

theorem place_placerTrial : place K.placerTrial = some (.single, 8, 0, 7) := by decide +kernel

theorem place_placerDefectAdd : place K.placerDefectAdd = some (.single, 8, 0, 3) := by decide +kernel

theorem place_placerDefectClear : place K.placerDefectClear = some (.single, 8, 0, 4) := by decide +kernel

theorem place_ctxRetry (n : Nat) (h : n < 1024) : place (K.ctxRetry n) = some (.context, 8, n, 31) := by
  have e1 : K.ctxRetry n / 256 = 0x4000 + n := by simp only [K.ctxRetry, key]; omega
  have e2 : K.ctxRetry n % 256 = 31 := by simp only [K.ctxRetry, key]; omega
  simp only [place, e1, e2, context_place n _ h]
  rfl

theorem place_ctxSwap (n : Nat) (h : n < 1024) : place (K.ctxSwap n) = some (.context, 8, n, 30) := by
  have e1 : K.ctxSwap n / 256 = 0x4000 + n := by simp only [K.ctxSwap, key]; omega
  have e2 : K.ctxSwap n % 256 = 30 := by simp only [K.ctxSwap, key]; omega
  simp only [place, e1, e2, context_place n _ h]
  rfl

theorem place_deviceReset : place K.deviceReset = some (.single, 8, 0, 1) := by decide +kernel

theorem place_versionsAccept : place K.versionsAccept = some (.single, 0, 0, 1) := by decide +kernel

theorem place_versionsMgmtSelect : place K.versionsMgmtSelect = some (.single, 5, 0, 5) := by decide +kernel

theorem place_ctxRingResume (n : Nat) (h : n < 1024) : place (K.ctxRingResume n) = some (.context, 8, n, 35) := by
  have e1 : K.ctxRingResume n / 256 = 0x4000 + n := by simp only [K.ctxRingResume, key]; omega
  have e2 : K.ctxRingResume n % 256 = 35 := by simp only [K.ctxRingResume, key]; omega
  simp only [place, e1, e2, context_place n _ h]
  rfl

theorem place_arbClientClear : ∀ n < 48, place (K.arbClientClear n) = some (.client, 8, n, 7) := by decide +kernel

theorem place_arbClearAll : place K.arbClearAll = some (.single, 8, 0, 5) := by decide +kernel

theorem place_arbLiberoN : place K.arbLiberoN = some (.single, 0, 0, 1) := by decide +kernel

theorem place_arbSyncClear : place K.arbSyncClear = some (.single, 8, 0, 2) := by decide +kernel

theorem place_storePcClear : ∀ n < 32, place (K.storePcClear n) = some (.pseudo, 8, n, 12) := by decide +kernel

theorem place_timeSet : place K.timeSet = some (.single, 8, 0, 4) := by decide +kernel

theorem place_encPreset : ∀ n < 8, place (K.encPreset n) = some (.encoder, 0, n, 10) := by decide +kernel

theorem place_encRateMax : ∀ n < 8, place (K.encRateMax n) = some (.encoder, 0, n, 5) := by decide +kernel

theorem place_encGlitch : ∀ n < 8, place (K.encGlitch n) = some (.encoder, 0, n, 3) := by decide +kernel

theorem place_encEnable : ∀ n < 8, place (K.encEnable n) = some (.encoder, 0, n, 2) := by decide +kernel

theorem place_eventEnable (n : Nat) (h : n < 768) : place (K.eventEnable n) = some (.event, 0, n, 2) := by
  have e1 : K.eventEnable n / 256 = 0x7000 + n := by simp only [K.eventEnable, key]; omega
  have e2 : K.eventEnable n % 256 = 2 := by simp only [K.eventEnable, key]; omega
  simp only [place, e1, e2, event_place n _ h]
  rfl

theorem place_eventSeverity (n : Nat) (h : n < 768) : place (K.eventSeverity n) = some (.event, 0, n, 4) := by
  have e1 : K.eventSeverity n / 256 = 0x7000 + n := by simp only [K.eventSeverity, key]; omega
  have e2 : K.eventSeverity n % 256 = 4 := by simp only [K.eventSeverity, key]; omega
  simp only [place, e1, e2, event_place n _ h]
  rfl

theorem place_eventIrq (n : Nat) (h : n < 768) : place (K.eventIrq n) = some (.event, 0, n, 6) := by
  have e1 : K.eventIrq n / 256 = 0x7000 + n := by simp only [K.eventIrq, key]; omega
  have e2 : K.eventIrq n % 256 = 6 := by simp only [K.eventIrq, key]; omega
  simp only [place, e1, e2, event_place n _ h]
  rfl

end Sys2Proof.Laws
end

