-- ==== Sys2Proof/Laws/PerInstr.lean ====
section
/-! SUPPORT. A family of statements made for every command: whatever an SV4-128 has a unit for, an SV4-256 has it too (R1, R27: the spans
are common and the smaller variant lacks units of the larger). One lemma per constructor. -/

set_option Elab.async false

namespace Sys2Proof.Laws.Spans

open Sys2Proof Sys2Proof.Machine

/-- The units that a command names are present in an SV4-256 where they are present in an SV4-128. -/
def Statement (i : Instr) : Prop := unitsPresent .sv4x128 i = true → unitsPresent .sv4x256 i = true

theorem tileCount_span {n : Nat} : decide (n < tileCount .sv4x128) = true → decide (n < tileCount .sv4x256) = true := by
  rw [decide_eq_true_eq, decide_eq_true_eq]
  exact fun h => Nat.lt_of_lt_of_le h (by decide)

theorem laneCount_span {n : Nat} : decide (n < laneCount .sv4x128) = true → decide (n < laneCount .sv4x256) = true := by
  rw [decide_eq_true_eq, decide_eq_true_eq]
  exact fun h => Nat.lt_of_lt_of_le h (by decide)

theorem engineCount_span {n : Nat} : decide (n < engineCount .sv4x128) = true → decide (n < engineCount .sv4x256) = true := by
  rw [decide_eq_true_eq, decide_eq_true_eq]
  exact fun h => Nat.lt_of_lt_of_le h (by decide)

theorem quadCount_span {n : Nat} : decide (n < quadCount .sv4x128) = true → decide (n < quadCount .sv4x256) = true := by
  rw [decide_eq_true_eq, decide_eq_true_eq]
  exact fun h => Nat.lt_of_lt_of_le h (by decide)

theorem dacCount_span {n : Nat} : decide (n < dacCount .sv4x128) = true → decide (n < dacCount .sv4x256) = true := by
  rw [decide_eq_true_eq, decide_eq_true_eq]
  exact fun h => Nat.lt_of_lt_of_le h (by decide)

theorem dieCount_span {n : Nat} : decide (n < dieCount .sv4x128) = true → decide (n < dieCount .sv4x256) = true := by
  rw [decide_eq_true_eq, decide_eq_true_eq]
  exact fun h => Nat.lt_of_lt_of_le h (by decide)

theorem portPresent_span {p : Nat} : portPresent .sv4x128 p = true → portPresent .sv4x256 p = true := by
  simp [portPresent, laneCount]; omega

theorem etherPort_span {p : Nat} : etherPort .sv4x128 p = true → etherPort .sv4x256 p = true := by
  simp [etherPort, laneCount]; omega

theorem railPresent_span {r : Nat} : railPresent .sv4x128 r = true → railPresent .sv4x256 r = true := by
  simp [railPresent, Form.present]

theorem clientPresent_span {i : Nat} : clientPresent .sv4x128 i = true → clientPresent .sv4x256 i = true := by
  simp [clientPresent]; omega

theorem busPresent_span {b : Bus} : busPresent .sv4x128 b = true → busPresent .sv4x256 b = true := by
  cases b with
  | pad n => exact tileCount_span
  | test k => exact tileCount_span
  | selector n half ps =>
    simp only [busPresent, Bool.and_eq_true, List.all_eq_true]
    exact fun h => ⟨⟨tileCount_span h.1.1, h.1.2⟩, fun x hx => tileCount_span (h.2 x hx)⟩

theorem wirePresent_span {w : FabricWire} : wirePresent .sv4x128 w = true → wirePresent .sv4x256 w = true := by
  cases w <;> simp only [wirePresent, Bool.and_eq_true] <;> exact fun h => ⟨quadCount_span h.1, h.2⟩

theorem unitPresent_span {u : UnitName} : unitPresent .sv4x128 u = true → unitPresent .sv4x256 u = true := by
  cases u with
  | tile n => exact tileCount_span
  | synth q => exact quadCount_span
  | enc e => exact fun h => h
  | pitch p => exact fun h => h
  | engine n => exact engineCount_span
  | dac n => exact dacCount_span
  | lane n => exact laneCount_span
  | dacClock d => exact dieCount_span
  | scrub => exact fun h => h

theorem read : ∀ a0, Statement (.read a0) := fun _ => portPresent_span

theorem write : ∀ a0, Statement (.write a0) := fun _ => portPresent_span

theorem rmw : ∀ a0, Statement (.rmw a0) := fun _ => portPresent_span

theorem readMeta : ∀ a0, Statement (.readMeta a0) := fun _ => portPresent_span

theorem blockOpen : ∀ a0, Statement (.blockOpen a0) := fun _ => portPresent_span

theorem blockSegment : ∀ a0, Statement (.blockSegment a0) := fun _ => portPresent_span

theorem blockClose : ∀ a0, Statement (.blockClose a0) := fun _ => portPresent_span

theorem blockAbort : ∀ a0, Statement (.blockAbort a0) := fun _ => portPresent_span

theorem blockTransferSilence : ∀ a0 a1, Statement (.blockTransferSilence a0 a1) := fun _ _ => fun h => h

theorem subscribe : ∀ a0, Statement (.subscribe a0) := fun _ => portPresent_span

theorem unsubscribe : ∀ a0, Statement (.unsubscribe a0) := fun _ => portPresent_span

theorem subscriptionLeaseExpiry : ∀ a0 a1, Statement (.subscriptionLeaseExpiry a0 a1) := fun _ _ => fun h => h

theorem periodicNotice : ∀ a0 a1, Statement (.periodicNotice a0 a1) := fun _ _ => fun h => h

theorem replay : ∀ a0, Statement (.replay a0) := fun _ => portPresent_span

theorem requestQueueTimeout : ∀ a0 a1, Statement (.requestQueueTimeout a0 a1) := fun _ _ => portPresent_span

theorem spiStatus : ∀ a0, Statement (.spiStatus a0) := fun _ => fun h => h

theorem spiResponse : ∀ a0, Statement (.spiResponse a0) := fun _ => fun h => h

theorem spiNotification : ∀ a0, Statement (.spiNotification a0) := fun _ => fun h => h

theorem parallelStatusRead : ∀ a0 a1, Statement (.parallelStatusRead a0 a1) := fun _ _ => fun h => h

theorem parallelResponseRead : ∀ a0, Statement (.parallelResponseRead a0) := fun _ => fun h => h

theorem parallelNotificationRead : ∀ a0, Statement (.parallelNotificationRead a0) := fun _ => fun h => h

theorem umzinRsp : ∀ a0, Statement (.umzinRsp a0) := fun _ => fun h => h

theorem modeRequestStandby : ∀ a0, Statement (.modeRequestStandby a0) := fun _ => portPresent_span

theorem modeRequestPrepare : ∀ a0, Statement (.modeRequestPrepare a0) := fun _ => portPresent_span

theorem modeRequestRun : ∀ a0, Statement (.modeRequestRun a0) := fun _ => portPresent_span

theorem modeRequestHold : ∀ a0, Statement (.modeRequestHold a0) := fun _ => portPresent_span

theorem modeRequestSafe : ∀ a0, Statement (.modeRequestSafe a0) := fun _ => portPresent_span

theorem modeRequestCancel : ∀ a0, Statement (.modeRequestCancel a0) := fun _ => portPresent_span

theorem modeLoad : ∀ a0, Statement (.modeLoad a0) := fun _ => portPresent_span

theorem prepareStepEnd : ∀ a0 a1, Statement (.prepareStepEnd a0 a1) := fun _ _ => fun h => h

theorem alignLimitExpiry : ∀ a0, Statement (.alignLimitExpiry a0) := fun _ => fun h => h

theorem runEntryTrigger : ∀ a0 a1, Statement (.runEntryTrigger a0 a1) := fun _ _ => fun h => h

theorem holdTakesEffect : ∀ a0, Statement (.holdTakesEffect a0) := fun _ => fun h => h

theorem autoResume : ∀ a0 a1, Statement (.autoResume a0 a1) := fun _ _ => fun h => h

theorem drainComplete : ∀ a0, Statement (.drainComplete a0) := fun _ => fun h => h

theorem shutdownStepEnd : ∀ a0, Statement (.shutdownStepEnd a0) := fun _ => fun h => h

theorem wakeStepEnd : ∀ a0 a1, Statement (.wakeStepEnd a0 a1) := fun _ _ => fun h => h

theorem safeRingsFreeze : ∀ a0, Statement (.safeRingsFreeze a0) := fun _ => fun h => h

theorem safeClear : ∀ a0, Statement (.safeClear a0) := fun _ => portPresent_span

theorem deviceReset : ∀ a0, Statement (.deviceReset a0) := fun _ => portPresent_span

theorem watchdogExpiry : ∀ a0, Statement (.watchdogExpiry a0) := fun _ => fun h => h

theorem watchdogReset : ∀ a0, Statement (.watchdogReset a0) := fun _ => fun h => h

theorem shadowCopyComplete : ∀ a0, Statement (.shadowCopyComplete a0) := fun _ => fun h => h

theorem porNLow : ∀ a0, Statement (.porNLow a0) := fun _ => fun h => h

theorem porNRelease : ∀ a0, Statement (.porNRelease a0) := fun _ => fun h => h

theorem backstopLive : ∀ a0 a1 a2, Statement (.backstopLive a0 a1 a2) := fun _ _ _ => fun h => h

theorem storeTrainingEnd : ∀ a0 a1 a2, Statement (.storeTrainingEnd a0 a1 a2) := fun _ _ _ => fun h => h

theorem refclkDetected : ∀ a0 a1, Statement (.refclkDetected a0 a1) := fun _ _ => fun h => h

theorem bootHeaderRead : ∀ a0 a1, Statement (.bootHeaderRead a0 a1) := fun _ _ => fun h => h

theorem bootImageRead : ∀ a0 a1, Statement (.bootImageRead a0 a1) := fun _ _ => fun h => h

theorem firmwareConfirmed : ∀ a0, Statement (.firmwareConfirmed a0) := fun _ => fun h => h

theorem confirmTimeout : ∀ a0, Statement (.confirmTimeout a0) := fun _ => fun h => h

theorem railExcursion : ∀ a0 a1 a2, Statement (.railExcursion a0 a1 a2) := fun _ _ _ => railPresent_span

theorem railBelowReset : ∀ a0 a1 a2, Statement (.railBelowReset a0 a1 a2) := fun _ _ _ => railPresent_span

theorem dacSupplyLoss : ∀ a0 a1 a2, Statement (.dacSupplyLoss a0 a1 a2) := fun _ _ _ => railPresent_span

theorem tempSensorRead : ∀ a0 a1 a2 a3, Statement (.tempSensorRead a0 a1 a2 a3) := fun _ _ _ _ => fun h => h

theorem safeNLow : ∀ a0, Statement (.safeNLow a0) := fun _ => fun h => h

theorem versionsAcceptWrite : ∀ a0, Statement (.versionsAcceptWrite a0) := fun _ => portPresent_span

theorem mgmtSelectWrite : ∀ a0, Statement (.mgmtSelectWrite a0) := fun _ => portPresent_span

theorem firmwareSlotProgrammed : ∀ a0 a1 a2, Statement (.firmwareSlotProgrammed a0 a1 a2) := fun _ _ _ => fun h => h

theorem refclkLoss : ∀ a0, Statement (.refclkLoss a0) := fun _ => fun h => h

theorem refclkReturn : ∀ a0, Statement (.refclkReturn a0) := fun _ => fun h => h

theorem holdoverLimitExpiry : ∀ a0, Statement (.holdoverLimitExpiry a0) := fun _ => fun h => h

theorem synthLocked : ∀ a0 a1 a2, Statement (.synthLocked a0 a1 a2) := fun _ _ _ => quadCount_span

theorem timeSet : ∀ a0, Statement (.timeSet a0) := fun _ => portPresent_span

theorem ptpMessage : ∀ a0 a1, Statement (.ptpMessage a0 a1) := fun _ _ => fun h => h

theorem ptpAnnounceTimeout : ∀ a0, Statement (.ptpAnnounceTimeout a0) := fun _ => fun h => h

theorem encoderEdge : ∀ a0 a1 a2 a3 a4, Statement (.encoderEdge a0 a1 a2 a3 a4) := fun _ _ _ _ _ => fun h => h

theorem encoderZEdge : ∀ a0 a1, Statement (.encoderZEdge a0 a1) := fun _ _ => fun h => h

theorem encoderWindow : ∀ a0 a1, Statement (.encoderWindow a0 a1) := fun _ _ => fun h => h

theorem encoderStandstill : ∀ a0 a1, Statement (.encoderStandstill a0 a1) := fun _ _ => fun h => h

theorem encoderSignalLoss : ∀ a0 a1, Statement (.encoderSignalLoss a0 a1) := fun _ _ => fun h => h

theorem encPresetWrite : ∀ a0 a1, Statement (.encPresetWrite a0 a1) := fun _ _ => by
  simp only [Statement, unitsPresent, Bool.and_eq_true]
  exact fun h => ⟨h.1, portPresent_span h.2⟩

theorem encFilterWrite : ∀ a0 a1 a2, Statement (.encFilterWrite a0 a1 a2) := fun _ _ _ => by
  simp only [Statement, unitsPresent, Bool.and_eq_true]
  exact fun h => ⟨h.1, portPresent_span h.2⟩

theorem encEnable : ∀ a0 a1, Statement (.encEnable a0 a1) := fun _ _ => by
  simp only [Statement, unitsPresent, Bool.and_eq_true]
  exact fun h => ⟨h.1, portPresent_span h.2⟩

theorem lineTrigger : ∀ a0 a1, Statement (.lineTrigger a0 a1) := fun _ _ => fun h => h

theorem cdsLineEnd : ∀ a0 a1, Statement (.cdsLineEnd a0 a1) := fun _ _ => tileCount_span

theorem rallyTimeSend : ∀ a0 a1, Statement (.rallyTimeSend a0 a1) := fun _ _ => laneCount_span

theorem rallyTimeFragment : ∀ a0 a1 a2, Statement (.rallyTimeFragment a0 a1 a2) := fun _ _ _ => laneCount_span

theorem sharedTriggerAnnounce : ∀ a0 a1, Statement (.sharedTriggerAnnounce a0 a1) := fun _ _ => fun h => h

theorem triggerHeartbeat : ∀ a0 a1, Statement (.triggerHeartbeat a0 a1) := fun _ _ => fun h => h

theorem rallyTriggerFragment : ∀ a0 a1 a2, Statement (.rallyTriggerFragment a0 a1 a2) := fun _ _ _ => laneCount_span

theorem triggerTimeout : ∀ a0 a1, Statement (.triggerTimeout a0 a1) := fun _ _ => fun h => h

theorem rallyTrackFragment : ∀ a0 a1 a2, Statement (.rallyTrackFragment a0 a1 a2) := fun _ _ _ => laneCount_span

theorem rallyControlFragment : ∀ a0 a1 a2 a3, Statement (.rallyControlFragment a0 a1 a2 a3) := fun _ _ _ _ => laneCount_span

theorem whistleFragment : ∀ a0 a1 a2, Statement (.whistleFragment a0 a1 a2) := fun _ _ _ => laneCount_span

theorem umzinFragment : ∀ a0 a1 a2 a3 a4 a5, Statement (.umzinFragment a0 a1 a2 a3 a4 a5) := fun _ _ _ _ _ _ => laneCount_span

theorem streamFragment : ∀ a0 a1 a2, Statement (.streamFragment a0 a1 a2) := fun _ _ _ => laneCount_span

theorem rallyLaneLost : ∀ a0 a1, Statement (.rallyLaneLost a0 a1) := fun _ _ => laneCount_span

theorem healingTimeout : ∀ a0, Statement (.healingTimeout a0) := fun _ => fun h => h

theorem negotiationWindow : ∀ a0, Statement (.negotiationWindow a0) := fun _ => fun h => h

theorem backstopWhistle : ∀ a0 a1, Statement (.backstopWhistle a0 a1) := fun _ _ => fun h => h

theorem feBatch : ∀ a0 a1, Statement (.feBatch a0 a1) := fun _ _ => engineCount_span

theorem primingComplete : ∀ a0 a1 a2, Statement (.primingComplete a0 a1 a2) := fun _ _ _ => by
  simp only [Statement, unitsPresent, Bool.and_eq_true]
  exact fun h => ⟨engineCount_span h.1, h.2⟩

theorem feEnable : ∀ a0 a1, Statement (.feEnable a0 a1) := fun _ _ => by
  simp only [Statement, unitsPresent, Bool.and_eq_true]
  exact fun h => ⟨h.1, portPresent_span h.2⟩

theorem coefSetWrite : ∀ a0 a1, Statement (.coefSetWrite a0 a1) := fun _ _ => by
  simp only [Statement, unitsPresent, Bool.and_eq_true]
  exact fun h => ⟨h.1, portPresent_span h.2⟩

theorem boardCommit : ∀ a0, Statement (.boardCommit a0) := fun _ => portPresent_span

theorem boardProgrammed : ∀ a0, Statement (.boardProgrammed a0) := fun _ => fun h => h

theorem graphCommit : ∀ a0, Statement (.graphCommit a0) := fun _ => portPresent_span

theorem placerTrial : ∀ a0, Statement (.placerTrial a0) := fun _ => portPresent_span

theorem trialComplete : ∀ a0, Statement (.trialComplete a0) := fun _ => fun h => h

theorem defectAdd : ∀ a0, Statement (.defectAdd a0) := fun _ => portPresent_span

theorem defectClear : ∀ a0, Statement (.defectClear a0) := fun _ => portPresent_span

theorem ctxRetry : ∀ a0 a1, Statement (.ctxRetry a0 a1) := fun _ _ => by
  simp only [Statement, unitsPresent, Bool.and_eq_true]
  exact fun h => ⟨h.1, portPresent_span h.2⟩

theorem ctxSwap : ∀ a0 a1, Statement (.ctxSwap a0 a1) := fun _ _ => by
  simp only [Statement, unitsPresent, Bool.and_eq_true]
  exact fun h => ⟨h.1, portPresent_span h.2⟩

theorem substitutionStepEnd : ∀ a0 a1 a2, Statement (.substitutionStepEnd a0 a1 a2) := fun _ _ _ => tileCount_span

theorem substitutionSwitch : ∀ a0 a1, Statement (.substitutionSwitch a0 a1) := fun _ _ => tileCount_span

theorem swappedCountExpiry : ∀ a0 a1, Statement (.swappedCountExpiry a0 a1) := fun _ _ => fun h => h

theorem pieceMoveStepEnd : ∀ a0 a1, Statement (.pieceMoveStepEnd a0 a1) := fun _ _ => fun h => h

theorem ctxRingResume : ∀ a0 a1, Statement (.ctxRingResume a0 a1) := fun _ _ => by
  simp only [Statement, unitsPresent, Bool.and_eq_true]
  exact fun h => ⟨h.1, portPresent_span h.2⟩

theorem arbGrant : ∀ a0 a1, Statement (.arbGrant a0 a1) := fun _ _ => by
  simp only [Statement, unitsPresent, Bool.and_eq_true, List.all_eq_true]
  exact fun h => ⟨h.1, fun w hw => clientPresent_span (h.2 w hw)⟩

theorem grantHoldLimit : ∀ a0 a1 a2, Statement (.grantHoldLimit a0 a1 a2) := fun _ _ _ => by
  simp only [Statement, unitsPresent, Bool.and_eq_true]
  exact fun h => ⟨h.1, clientPresent_span h.2⟩

theorem arbClientClear : ∀ a0 a1, Statement (.arbClientClear a0 a1) := fun _ _ => by
  simp only [Statement, unitsPresent, Bool.and_eq_true]
  exact fun h => ⟨h.1, portPresent_span h.2⟩

theorem arbClearAll : ∀ a0, Statement (.arbClearAll a0) := fun _ => portPresent_span

theorem arbLiberoWrite : ∀ a0, Statement (.arbLiberoWrite a0) := fun _ => portPresent_span

theorem arbSyncClear : ∀ a0, Statement (.arbSyncClear a0) := fun _ => portPresent_span

theorem cadenceRefresh : ∀ a0 a1, Statement (.cadenceRefresh a0 a1) := fun _ _ => fun h => h

theorem writeDrainStart : ∀ a0 a1, Statement (.writeDrainStart a0 a1) := fun _ _ => fun h => h

theorem writeDrainEnd : ∀ a0 a1, Statement (.writeDrainEnd a0 a1) := fun _ _ => fun h => h

theorem refreshInterval : ∀ a0 a1 a2, Statement (.refreshInterval a0 a1 a2) := fun _ _ _ => fun h => h

theorem stackTempRead : ∀ a0 a1, Statement (.stackTempRead a0 a1) := fun _ _ => fun h => h

theorem tailFlushTimeout : ∀ a0 a1, Statement (.tailFlushTimeout a0 a1) := fun _ _ => fun h => h

theorem rtWaitExceeded : ∀ a0 a1 a2, Statement (.rtWaitExceeded a0 a1 a2) := fun _ _ _ => fun h => h

theorem storePcClear : ∀ a0 a1, Statement (.storePcClear a0 a1) := fun _ _ => by
  simp only [Statement, unitsPresent, Bool.and_eq_true]
  exact fun h => ⟨h.1, portPresent_span h.2⟩

theorem regionCopyComplete : ∀ a0, Statement (.regionCopyComplete a0) := fun _ => fun h => h

theorem parityRetry : ∀ a0 a1 a2, Statement (.parityRetry a0 a1 a2) := fun _ _ _ => fun h => h

theorem shadowPatrol : ∀ a0 a1 a2, Statement (.shadowPatrol a0 a1 a2) := fun _ _ _ => fun h => h

theorem probeArm : ∀ a0, Statement (.probeArm a0) := fun _ => portPresent_span

theorem probeTrigger : ∀ a0, Statement (.probeTrigger a0) := fun _ => fun h => h

theorem probeDone : ∀ a0, Statement (.probeDone a0) := fun _ => fun h => h

theorem backstopProgrammed : ∀ a0 a1, Statement (.backstopProgrammed a0 a1) := fun _ _ => fun h => h

theorem backstopActivate : ∀ a0, Statement (.backstopActivate a0) := fun _ => portPresent_span

theorem backstopLatchCheck : ∀ a0 a1, Statement (.backstopLatchCheck a0 a1) := fun _ _ => fun h => h

theorem configSectorReload : ∀ a0 a1, Statement (.configSectorReload a0 a1) := fun _ _ => by
  simp only [Statement, unitsPresent, Bool.and_eq_true]
  exact fun h => ⟨h.1, portPresent_span h.2⟩

theorem reloadStepEnd : ∀ a0 a1, Statement (.reloadStepEnd a0 a1) := fun _ _ => fun h => h

theorem scrubFrame : ∀ a0 a1, Statement (.scrubFrame a0 a1) := fun _ _ => fun h => h

theorem scrubEnable : ∀ a0, Statement (.scrubEnable a0) := fun _ => portPresent_span

theorem scrubWatchdog : ∀ a0, Statement (.scrubWatchdog a0) := fun _ => fun h => h

theorem calInternal : ∀ a0, Statement (.calInternal a0) := fun _ => portPresent_span

theorem calDark : ∀ a0, Statement (.calDark a0) := fun _ => portPresent_span

theorem calFlat : ∀ a0, Statement (.calFlat a0) := fun _ => portPresent_span

theorem ladderTraceEnd : ∀ a0 a1, Statement (.ladderTraceEnd a0 a1) := fun _ _ => fun h => h

theorem calRunEnd : ∀ a0 a1 a2, Statement (.calRunEnd a0 a1 a2) := fun _ _ _ => tileCount_span

theorem sceneRunEnd : ∀ a0 a1 a2, Statement (.sceneRunEnd a0 a1 a2) := fun _ _ _ => tileCount_span

theorem invarCheck : ∀ a0 a1, Statement (.invarCheck a0 a1) := fun _ _ => fun h => h

theorem limitRefresh : ∀ a0 a1 a2, Statement (.limitRefresh a0 a1 a2) := fun _ _ _ => tileCount_span

theorem ilvWordCount : ∀ a0 a1 a2, Statement (.ilvWordCount a0 a1 a2) := fun _ _ _ => tileCount_span

theorem ilvReset : ∀ a0 a1, Statement (.ilvReset a0 a1) := fun _ _ => by
  simp only [Statement, unitsPresent, Bool.and_eq_true]
  exact fun h => ⟨h.1, portPresent_span h.2⟩

theorem tileFault : ∀ a0 a1 a2, Statement (.tileFault a0 a1 a2) := fun _ _ _ => by
  simp only [Statement, unitsPresent, Bool.and_eq_true]
  exact fun h => ⟨tileCount_span h.1, h.2⟩

theorem monitorTrip : ∀ a0 a1 a2 a3, Statement (.monitorTrip a0 a1 a2 a3) := fun _ _ _ _ => by
  simp only [Statement, unitsPresent, Bool.and_eq_true]
  exact fun h => ⟨tileCount_span h.1, h.2⟩

theorem monitorWrite : ∀ a0 a1 a2 a3, Statement (.monitorWrite a0 a1 a2 a3) := fun _ _ _ _ => by
  simp only [Statement, unitsPresent, Bool.and_eq_true]
  exact fun h => ⟨⟨⟨h.1.1.1, h.1.1.2⟩, h.1.2⟩, portPresent_span h.2⟩

theorem sceneEnableWrite : ∀ a0 a1, Statement (.sceneEnableWrite a0 a1) := fun _ _ => by
  simp only [Statement, unitsPresent, Bool.and_eq_true]
  exact fun h => ⟨h.1, portPresent_span h.2⟩

theorem busContention : ∀ a0 a1, Statement (.busContention a0 a1) := fun _ _ => busPresent_span

theorem contentionRecovery : ∀ a0 a1, Statement (.contentionRecovery a0 a1) := fun _ _ => busPresent_span

theorem padOverload : ∀ a0 a1, Statement (.padOverload a0 a1) := fun _ _ => tileCount_span

theorem padClear : ∀ a0 a1, Statement (.padClear a0 a1) := fun _ _ => by
  simp only [Statement, unitsPresent, Bool.and_eq_true]
  exact fun h => ⟨h.1, portPresent_span h.2⟩

theorem padTermWrite : ∀ a0 a1, Statement (.padTermWrite a0 a1) := fun _ _ => by
  simp only [Statement, unitsPresent, Bool.and_eq_true]
  exact fun h => ⟨h.1, portPresent_span h.2⟩

theorem padTestWrite : ∀ a0 a1, Statement (.padTestWrite a0 a1) := fun _ _ => by
  simp only [Statement, unitsPresent, Bool.and_eq_true]
  exact fun h => ⟨h.1, portPresent_span h.2⟩

theorem bufPeakClear : ∀ a0 a1, Statement (.bufPeakClear a0 a1) := fun _ _ => by
  simp only [Statement, unitsPresent, Bool.and_eq_true]
  exact fun h => ⟨h.1, portPresent_span h.2⟩

theorem dacEnable : ∀ a0 a1, Statement (.dacEnable a0 a1) := fun _ _ => by
  simp only [Statement, unitsPresent, Bool.and_eq_true]
  exact fun h => ⟨h.1, portPresent_span h.2⟩

theorem dacStrobe : ∀ a0 a1, Statement (.dacStrobe a0 a1) := fun _ _ => fun h => h

theorem deglitchHoldEnd : ∀ a0 a1, Statement (.deglitchHoldEnd a0 a1) := fun _ _ => dacCount_span

theorem safeMoveEnd : ∀ a0 a1, Statement (.safeMoveEnd a0 a1) := fun _ _ => dacCount_span

theorem dacCurrentLimit : ∀ a0 a1, Statement (.dacCurrentLimit a0 a1) := fun _ _ => dacCount_span

theorem dacShortTimeout : ∀ a0 a1, Statement (.dacShortTimeout a0 a1) := fun _ _ => dacCount_span

theorem dacClear : ∀ a0 a1, Statement (.dacClear a0 a1) := fun _ _ => by
  simp only [Statement, unitsPresent, Bool.and_eq_true]
  exact fun h => ⟨h.1, portPresent_span h.2⟩

theorem laneEnable : ∀ a0 a1, Statement (.laneEnable a0 a1) := fun _ _ => by
  simp only [Statement, unitsPresent, Bool.and_eq_true]
  exact fun h => ⟨h.1, portPresent_span h.2⟩

theorem laneLinkUp : ∀ a0 a1, Statement (.laneLinkUp a0 a1) := fun _ _ => laneCount_span

theorem laneLinkDown : ∀ a0 a1, Statement (.laneLinkDown a0 a1) := fun _ _ => laneCount_span

theorem fecUncorrectable : ∀ a0 a1, Statement (.fecUncorrectable a0 a1) := fun _ _ => laneCount_span

theorem fecSerCheck : ∀ a0 a1 a2 a3, Statement (.fecSerCheck a0 a1 a2 a3) := fun _ _ _ _ => laneCount_span

theorem pauseFrame : ∀ a0 a1 a2, Statement (.pauseFrame a0 a1 a2) := fun _ _ _ => laneCount_span

theorem pauseExpiry : ∀ a0 a1, Statement (.pauseExpiry a0 a1) := fun _ _ => laneCount_span

theorem flowLimitExpiry : ∀ a0 a1, Statement (.flowLimitExpiry a0 a1) := fun _ _ => laneCount_span

theorem arpRequest : ∀ a0 a1 a2 a3 a4 a5, Statement (.arpRequest a0 a1 a2 a3 a4 a5) := fun _ _ _ _ _ _ => etherPort_span

theorem icmpEcho : ∀ a0 a1 a2 a3, Statement (.icmpEcho a0 a1 a2 a3) := fun _ _ _ _ => etherPort_span

theorem arpReply : ∀ a0 a1 a2 a3, Statement (.arpReply a0 a1 a2 a3) := fun _ _ _ _ => laneCount_span

theorem resolutionRetry : ∀ a0 a1, Statement (.resolutionRetry a0 a1) := fun _ _ => laneCount_span

theorem resolutionRefresh : ∀ a0 a1, Statement (.resolutionRefresh a0 a1) := fun _ _ => laneCount_span

theorem streamPacketSend : ∀ a0 a1, Statement (.streamPacketSend a0 a1) := fun _ _ => laneCount_span

theorem laneClear : ∀ a0 a1, Statement (.laneClear a0 a1) := fun _ _ => by
  simp only [Statement, unitsPresent, Bool.and_eq_true]
  exact fun h => ⟨h.1, portPresent_span h.2⟩

theorem mgmtClear : ∀ a0, Statement (.mgmtClear a0) := fun _ => portPresent_span

theorem gpioBankWrite : ∀ a0 a1, Statement (.gpioBankWrite a0 a1) := fun _ _ => by
  simp only [Statement, unitsPresent, Bool.and_eq_true]
  exact fun h => ⟨h.1, portPresent_span h.2⟩

theorem gpioOutWrite : ∀ a0 a1, Statement (.gpioOutWrite a0 a1) := fun _ _ => by
  simp only [Statement, unitsPresent, Bool.and_eq_true]
  exact fun h => ⟨h.1, portPresent_span h.2⟩

theorem gpioFuncWrite : ∀ a0 a1, Statement (.gpioFuncWrite a0 a1) := fun _ _ => by
  simp only [Statement, unitsPresent, Bool.and_eq_true]
  exact fun h => ⟨h.1, portPresent_span h.2⟩

theorem pinLatchCapture : ∀ a0 a1, Statement (.pinLatchCapture a0 a1) := fun _ _ => fun h => h

theorem funcFirstHandshake : ∀ a0 a1, Statement (.funcFirstHandshake a0 a1) := fun _ _ => fun h => h

theorem pinInputChange : ∀ a0 a1 a2 a3, Statement (.pinInputChange a0 a1 a2 a3) := fun _ _ _ _ => fun h => h

theorem bankVioCheck : ∀ a0 a1 a2, Statement (.bankVioCheck a0 a1 a2) := fun _ _ _ => fun h => h

theorem patternWrite : ∀ a0 a1 a2, Statement (.patternWrite a0 a1 a2) := fun _ _ _ => by
  simp only [Statement, unitsPresent, Bool.and_eq_true]
  exact fun h => ⟨⟨⟨h.1.1.1, h.1.1.2⟩, h.1.2⟩, portPresent_span h.2⟩

theorem patternMatch : ∀ a0 a1, Statement (.patternMatch a0 a1) := fun _ _ => fun h => h

theorem eventClear : ∀ a0 a1, Statement (.eventClear a0 a1) := fun _ _ => by
  simp only [Statement, unitsPresent, Bool.and_eq_true]
  exact fun h => ⟨h.1, portPresent_span h.2⟩

theorem clearNode : ∀ a0, Statement (.clearNode a0) := fun _ => portPresent_span

theorem eventTest : ∀ a0, Statement (.eventTest a0) := fun _ => portPresent_span

theorem eventEnableWrite : ∀ a0 a1 a2, Statement (.eventEnableWrite a0 a1 a2) := fun _ _ _ => by
  simp only [Statement, unitsPresent, Bool.and_eq_true]
  exact fun h => ⟨⟨h.1.1, h.1.2⟩, portPresent_span h.2⟩

theorem eventLatchWrite : ∀ a0 a1, Statement (.eventLatchWrite a0 a1) := fun _ _ => by
  simp only [Statement, unitsPresent, Bool.and_eq_true]
  exact fun h => ⟨h.1, portPresent_span h.2⟩

theorem sampleInstant : ∀ a0 a1 a2 a3 a4, Statement (.sampleInstant a0 a1 a2 a3 a4) := fun _ _ _ _ _ => by
  simp only [Statement, unitsPresent, Bool.and_eq_true]
  exact fun h => ⟨tileCount_span h.1, h.2⟩

theorem portCellWord : ∀ a0 a1 a2, Statement (.portCellWord a0 a1 a2) := fun _ _ _ => by
  simp only [Statement, unitsPresent, Bool.and_eq_true]
  exact fun h => ⟨quadCount_span h.1, h.2⟩

theorem fabricWireChange : ∀ a0 a1, Statement (.fabricWireChange a0 a1) := fun _ _ => wirePresent_span

theorem paceWireEdge : ∀ a0 a1 a2, Statement (.paceWireEdge a0 a1 a2) := fun _ _ _ => fun h => h

theorem backstopOscEdge : ∀ a0, Statement (.backstopOscEdge a0) := fun _ => fun h => h

theorem enableTransitionEnd : ∀ a0 a1, Statement (.enableTransitionEnd a0 a1) := fun _ _ => unitPresent_span

theorem macrocellsReloaded : ∀ a0, Statement (.macrocellsReloaded a0) := fun _ => fun h => h

theorem messageDropped : ∀ a0 a1 a2 a3 a4, Statement (.messageDropped a0 a1 a2 a3 a4) := fun _ _ _ _ _ => portPresent_span

theorem frameDropped : ∀ a0 a1 a2, Statement (.frameDropped a0 a1 a2) := fun _ _ _ => etherPort_span

theorem fragmentDropped : ∀ a0 a1, Statement (.fragmentDropped a0 a1) := fun _ _ => laneCount_span

theorem fragmentBoundary : ∀ a0 a1, Statement (.fragmentBoundary a0 a1) := fun _ _ => laneCount_span

theorem faultOrderedSets : ∀ a0 a1 a2, Statement (.faultOrderedSets a0 a1 a2) := fun _ _ _ => laneCount_span

theorem mgmtLinkUp : ∀ a0 a1 a2, Statement (.mgmtLinkUp a0 a1 a2) := fun _ _ _ => fun h => h

theorem mgmtLinkDown : ∀ a0, Statement (.mgmtLinkDown a0) := fun _ => fun h => h

theorem railReturn : ∀ a0 a1 a2, Statement (.railReturn a0 a1 a2) := fun _ _ _ => railPresent_span

theorem safeNRelease : ∀ a0, Statement (.safeNRelease a0) := fun _ => fun h => h

end Sys2Proof.Laws.Spans
end

