-- ==== Sys2Proof/Laws/Store.lean ====
section
/-! SUPPORT. The Store's bytes: a read after a write, bytes that a write leaves alone, and that every operation that writes bytes keeps
the canonical form of `Memory.wf` (R240, R252, R363). -/

set_option Elab.async false

namespace Sys2Proof.Laws

open Sys2Proof.Machine

/-- Nothing is listed right after reset, which is in canonical form. -/
theorem reset_mem_wf : Memory.wf State.reset.mem = true := rfl

theorem putByte_wf (s : State) (a : Nat) (b : Byte) (h : Memory.wf s.mem = true) : Memory.wf (s.putByte a b).mem = true :=
  wf_put blankByte s.mem a b h

theorem byte_putByte_self (s : State) (a : Nat) (b : Byte) : (s.putByte a b).byte a = b := by
  simp [State.byte, State.putByte]

theorem byte_putByte_ne (s : State) {a x : Nat} (b : Byte) (h : x ≠ a) : (s.putByte a b).byte x = s.byte x := by
  simp only [State.byte, State.putByte]
  exact get_put_ne blankByte s.mem b h

theorem putBytes_wf (s : State) (a : Nat) (bs : List Byte) (h : Memory.wf s.mem = true) : Memory.wf (s.putBytes a bs).mem = true := by
  induction bs generalizing s a with
  | nil => exact h
  | cons b bs ih => exact ih (s.putByte a b) (a + 1) (putByte_wf s a b h)

/-- Bytes outside the written ones read as before. -/
theorem byte_putBytes_out (s : State) (a x : Nat) (bs : List Byte) (h : x < a ∨ a + bs.length ≤ x) :
    (s.putBytes a bs).byte x = s.byte x := by
  induction bs generalizing s a with
  | nil => rfl
  | cons b bs ih =>
    simp only [List.length_cons] at h
    rw [State.putBytes, ih (s.putByte a b) (a + 1) (by omega), byte_putByte_ne s b (by omega)]

/-- A read after a write gives the bytes written. -/
theorem byte_putBytes_in (s : State) (a i : Nat) (bs : List Byte) (h : i < bs.length) :
    (s.putBytes a bs).byte (a + i) = bs[i] := by
  induction bs generalizing s a i with
  | nil => simp at h
  | cons b bs ih =>
    rw [State.putBytes]
    cases i with
    | zero => rw [byte_putBytes_out _ _ _ _ (by omega)]; simp [byte_putByte_self]
    | succ i =>
      have := ih (s.putByte a b) (a + 1) i (by simpa using h)
      rw [show a + (i + 1) = a + 1 + i by omega, this]
      simp

theorem bytesAt_putBytes (s : State) (a : Nat) (bs : List Byte) : (s.putBytes a bs).bytesAt a bs.length = bs := by
  apply List.ext_getElem
  · simp [State.bytesAt]
  · intro i h1 h2
    simpa [State.bytesAt] using byte_putBytes_in s a i bs h2

/-- Bytes put one at a time at any addresses keep the form. -/
theorem fold_putByte_wf {β : Type} (xs : List β) (f : State → β → State)
    (hf : ∀ s x, Memory.wf s.mem = true → Memory.wf (f s x).mem = true) (s : State) (h : Memory.wf s.mem = true) :
    Memory.wf (xs.foldl f s).mem = true := by
  induction xs generalizing s with
  | nil => exact h
  | cons x xs ih => exact ih (f s x) (hf s x h)

/-- A write of the queue that reaches the stack keeps the form. -/
theorem issueWrite_wf (s : State) (p : Nat) (e : WqEntry) (h : Memory.wf s.mem = true) : Memory.wf (s.issueWrite p e).mem = true := by
  simpa [State.issueWrite, State.setPoison] using putBytes_wf s e.addr e.bytes h

theorem issueAll_wf (s : State) (p : Nat) (es : List WqEntry) (h : Memory.wf s.mem = true) : Memory.wf (s.issueAll p es).mem = true := by
  induction es generalizing s with
  | nil => exact h
  | cons e es ih => exact ih (s.issueWrite p e) (issueWrite_wf s p e h)

/-- A write of the queue changes the bytes it carries alone. -/
theorem issueWrite_byte_out (s : State) (p x : Nat) (e : WqEntry) (h : x < e.addr ∨ e.addr + e.bytes.length ≤ x) :
    (s.issueWrite p e).byte x = s.byte x := by
  have := byte_putBytes_out s e.addr x e.bytes h
  simpa [State.issueWrite, State.setPoison, State.byte] using this

@[simp] theorem setRing_mem (s : State) (c : Nat) (raw : Bool) (r : RingSt) : (s.setRing c raw r).mem = s.mem := by
  simp [State.setRing, State.modCtx]

/-- A line's record put into the stack keeps the form. -/
theorem commitLine_wf (s : State) (c : Nat) (raw : Bool) (rec : LineRec) (h : Memory.wf s.mem = true) :
    Memory.wf (s.commitLine c raw rec).mem = true := by
  have k := fun r : RingSt => fold_putByte_wf (List.range 32)
    (fun st i => st.putByte (st.recAddr r rec.line i) (rec.bytes.getD i 0)) (fun s x hs => putByte_wf s _ _ hs) s h
  unfold State.commitLine
  cases raw
  · simp only [Bool.false_eq_true, if_false, set_mem, setRing_mem]; exact k _
  · simp only [if_true, setRing_mem]; exact k _

theorem commitClosed_wf (c : Nat) (raw : Bool) (rs : List LineRec) (s : State) (h : Memory.wf s.mem = true) :
    Memory.wf (s.commitClosed c raw rs).mem = true := by
  induction rs generalizing s with
  | nil => rw [State.commitClosed, setRing_mem]; exact h
  | cons r rs ih =>
    rw [State.commitClosed]
    split
    · rw [setRing_mem]; exact h
    · exact ih _ (commitLine_wf s c raw r h)

/-- An area of the shadow filled, a shadow copy, and tables of the placement recorded there keep the form (R91, R311). -/
theorem fillShadow_wf (s : State) (off size : Nat) (bs : List Byte) (h : Memory.wf s.mem = true) :
    Memory.wf (s.fillShadow off size bs).mem = true := wf_splice blankByte s.mem _ size bs h

theorem copyShadow_wf (s : State) (h : Memory.wf s.mem = true) : Memory.wf s.copyShadow.mem = true := by
  unfold State.copyShadow
  exact fold_putByte_wf _ _ (fun t _ ht => fillShadow_wf t _ _ _ ht) _ (fillShadow_wf _ _ _ _ (fillShadow_wf s _ _ _ h))

theorem showShadow_mem (s : State) : s.showShadow.mem = s.mem := by
  unfold State.showShadow; split <;> simp

theorem recordFrames_wf (s : State) (h : Memory.wf s.mem = true) : Memory.wf s.recordFrames.mem = true := by
  unfold State.recordFrames
  simp only [showShadow_mem]
  exact fillShadow_wf _ _ _ _ (fillShadow_wf s _ _ _ h)

/-- A waveform's ring filled from the shadow keeps the form. -/
theorem fillWave_wf (s : State) (c : Nat) (h : Memory.wf s.mem = true) : Memory.wf (s.fillWave c).mem = true := by
  simp only [State.fillWave]
  exact fold_putByte_wf _ _ (fun t x ht => putByte_wf t _ _ ht) s h

end Sys2Proof.Laws
end

