-- ==== Sys2Proof/Tests/Slice0.lean ====
section
/-! SUPPORT. The model's own tests: ill-formed commands that WellFormed refuses, states and operands that meet the hypotheses of every
clause of the statements, and small checks against the worked figures of the spec. -/

set_option Elab.async false

namespace Sys2Proof.Tests

open Sys2Proof Sys2Proof.Machine

/-! ## Helpers -/

/-- A device that has booted, with nothing else changed. -/
def w0 : State := { State.reset with porLow := false, boot := ⟨.done, 0, false, 0, true, true, false⟩ }

/-- Objects given values. -/
def pk (s : State) (vs : List (Nat × Nat)) : State := vs.foldl (fun s e => s.poke e.1 e.2) s

/-- A booted device in a mode. -/
def wm (m : Nat) (vs : List (Nat × Nat)) : State := pk w0 ((K.deviceMode, m) :: vs)

/-- A request to an object, by SPI. -/
def rq (k : Nat) (bs : List Byte) : Req := onObject ⟨0, 0, 0, 16, 7, 0, 0, 0, 0, bs, 0, State.reset.obj K.portsUdpPort⟩ k

/-- Where an accepted write falls. -/
def noLoc : Loc := ⟨zeroRow 0, 0, 0⟩
def lw (s : State) (q : Req) : Loc := match checkWrite (s.access q) q with | .ok l => l | .error _ => noLoc
def noTransfer : Transfer := ⟨0, 0, 0, 0, 0, false, 0, 0, 0, [], 0, 0, false, 0⟩

/-- Whether a check passes with a value. -/
def okB {α : Type} [DecidableEq α] (r : Res α) (x : α) : Bool :=
  match r with
  | .ok y => decide (y = x)
  | .error _ => false

theorem ok_eq {α : Type} [DecidableEq α] (r : Res α) (x : α) : (okB r x = true) = (r = .ok x) := by
  cases r <;> simp [okB]

/-- The hypotheses of the statements as computations. -/
def awakeB (s : State) : Bool := !s.held && s.safeAsk == 0
def admittedB (s : State) (q : Req) (op : Op) : Bool :=
  portPresent s.variant q.port && decide (((s.begin_ q.at_).showQueue.arrive q).turnedAway q op = none) && decide (q.version / 16 = 1) &&
    !(s.access q).rescueBars q op
def acceptsB (s : State) (q : Req) (l : Loc) : Bool :=
  admittedB s q .write && okB (checkWrite (s.access q) q) l && decide (l.row.ty ≠ .text) && decide (key q.index q.sub ≠ K.deviceReset)

theorem awake_eq (s : State) : (awakeB s = true) = Awake s := by simp [awakeB, Awake]
theorem admitted_eq (s : State) (q : Req) (op : Op) : (admittedB s q op = true) = Admitted s q op := by
  simp [admittedB, Admitted, and_assoc]
theorem accepts_eq (s : State) (q : Req) (l : Loc) : (acceptsB s q l = true) = Accepts s q l := by
  simp only [acceptsB, Accepts, Bool.and_eq_true, admitted_eq, ok_eq, decide_eq_true_eq, and_assoc]

theorem find_all {α : Type} (f : α → Bool) (m : List (Nat × α)) (c : Nat) (x : α) (h : m.all (fun e => f e.2) = true)
    (hx : Sp.find m c = some x) : f x = true := by
  induction m with
  | nil => simp [Sp.find] at hx
  | cons e m ih =>
    obtain ⟨k, v⟩ := e
    simp only [List.all_cons, Bool.and_eq_true] at h
    simp only [Sp.find] at hx
    split at hx
    · simp only [Option.some.injEq] at hx; exact hx ▸ h.1
    · exact ih h.2 hx

/-- Where no context that is listed has a line that waits to be closed, no ring has one. -/
theorem rings_closed (s : State) (h : s.ctxs.all (fun e => e.2.out.closing.isEmpty && e.2.raw.closing.isEmpty) = true) (c : Nat)
    (raw : Bool) : (s.ring c raw).closing = [] := by
  have k : (s.ctx c).out.closing = [] ∧ (s.ctx c).raw.closing = [] := by
    unfold State.ctx Sp.get
    cases hx : Sp.find s.ctxs c with
    | none => exact ⟨rfl, rfl⟩
    | some x =>
      have := find_all (fun x : Ctx => x.out.closing.isEmpty && x.raw.closing.isEmpty) s.ctxs c x h hx
      simpa using this
  cases raw
  · exact k.1
  · exact k.2

theorem none_sent (o : Option Nat) (p : Nat → Prop) (h : o = none) (b : Nat) (hb : o = some b) : p b := by simp [h] at hb

/-! ## Hypotheses of the statements -/

/-- States and operands that meet the hypotheses of ReadAnswersWithTheValue, clause by clause. -/
theorem witness_ReadAnswersWithTheValue :
    (let s : State := wm 3 []; let q : Req := rq K.deviceMode [];
     let l : Loc := match checkRead (s.access q) q with | .ok l => l | _ => noLoc; s.safeAsk = 0 ∧ Admitted s q .read ∧
     checkRead (s.access q) q = .ok l) ∧
    (let s : State := wm 3 []; let q : Req := rq K.deviceMode [];
     let l : Loc := match checkMeta (s.access q) q with | .ok l => l | _ => noLoc; s.safeAsk = 0 ∧ Admitted s q .readMeta ∧
     checkMeta (s.access q) q = .ok l) := by
  simp only [← admitted_eq, ← ok_eq]
  decide +kernel

/-- States and operands that meet the hypotheses of WriteStoresTheValue, clause by clause. -/
theorem witness_WriteStoresTheValue :
    (let s : State := wm 3 []; let q : Req := { rq K.deviceHoldAutoResume [1] with port := 0 }; let l : Loc := lw s q; s.safeAsk = 0 ∧
     Accepts s q l) := by
  simp only [← accepts_eq]
  decide +kernel

/-- States and operands that meet the hypotheses of RmwMergesUnderTheMask, clause by clause. -/
theorem witness_RmwMergesUnderTheMask :
    (let s : State := wm 3 []; let q : Req := rq K.portsLeaseDefault [3,0,61,0];
     let l : Loc := match checkRmw (s.access q) q with | .ok l => l | _ => noLoc; s.safeAsk = 0 ∧ Admitted s q .rmw ∧
     checkRmw (s.access q) q = .ok l ∧ plainDevice l (key q.index q.sub) = true ∧ settledKey (key q.index q.sub) = false) := by
  simp only [← admitted_eq, ← ok_eq]
  decide +kernel

/-- States and operands that meet the hypotheses of BlockOpenStartsATransfer, clause by clause. -/
theorem witness_BlockOpenStartsATransfer :
    (let s : State := wm 2 []; let q : Req := { rq K.boardUser [0,0,64,0,0,0,0,0,0,0,0,0] with port := 0 };
     let l : Loc := match checkOpen (s.access q) q with | .ok l => l | _ => noLoc; s.safeAsk = 0 ∧ Admitted s q .blockOpen ∧
     checkOpen (s.access q) q = .ok l) := by
  simp only [← admitted_eq, ← ok_eq]
  decide +kernel

/-- States and operands that meet the hypotheses of BlockSegmentsCarryTheBytes, clause by clause. -/
theorem witness_BlockSegmentsCarryTheBytes :
    (let s : State := { wm 2 [] with transfers := [⟨5,0,0,7,K.boardUser,true,64,8,0,[1,2],0,0,false,0⟩] };
     let q : Req := { rq K.boardUser [0,0,0,0,9,8] with port := 0, transfer := 5 };
     let x : Transfer := (s.transferNamed q).getD noTransfer; s.safeAsk = 0 ∧ Admitted s q .blockSegment ∧
     s.transferNamed q = some x ∧ x.waiting = false ∧ checkTransfer (s.access q) q x = .ok () ∧
     ((usesStore x.obj = true → s.obj (K.arbClientState 46) = 0)) ∧ (let n := leAt q.body 0 4; x.writing = true ∧ 4 ≤ q.body.length ∧
     q.body.length ≤ x.segment + 4 ∧ n = x.next)) ∧
    (let s : State := { wm 2 [] with transfers := [⟨5,0,0,7,K.boardUser,false,64,8,0,[1,2],0,0,false,0⟩] };
     let q : Req := { rq K.boardUser [0,0,0,0] with port := 0, transfer := 5 };
     let x : Transfer := (s.transferNamed q).getD noTransfer; s.safeAsk = 0 ∧ Admitted s q .blockSegment ∧
     s.transferNamed q = some x ∧ x.waiting = false ∧ checkTransfer (s.access q) q x = .ok () ∧
     ((usesStore x.obj = true → s.obj (K.arbClientState 46) = 0)) ∧ (let n := leAt q.body 0 4; x.writing = false ∧ q.body.length = 4 ∧
     n ≤ (x.total - 1) / x.segment)) := by
  simp only [← admitted_eq, ← ok_eq]
  decide +kernel

/-- States and operands that meet the hypotheses of TransfersEnd, clause by clause. -/
theorem witness_TransfersEnd :
    (let s : State := { wm 2 [] with transfers := [⟨5,0,0,7,K.boardUser,true,64,8,0,[1,2],0,0,false,0⟩] };
     let q : Req := { rq K.boardUser [] with port := 0, transfer := 5 }; let x : Transfer := (s.transferNamed q).getD noTransfer;
     s.safeAsk = 0 ∧ s.transferNamed q = some x ∧ x.waiting = false ∧ q.body = [] ∧ checkTransfer (s.access q) q x = .ok () ∧
     Admitted s q .blockAbort) ∧
    (let s : State := { wm 2 [] with transfers := [⟨5,0,0,7,K.boardUser,false,64,8,0,[1,2],0,0,false,0⟩] };
     let q : Req := { rq K.boardUser [] with port := 0, transfer := 5 }; let x : Transfer := (s.transferNamed q).getD noTransfer;
     s.safeAsk = 0 ∧ s.transferNamed q = some x ∧ x.waiting = false ∧ q.body = [] ∧ checkTransfer (s.access q) q x = .ok () ∧
     Admitted s q .blockClose ∧ x.writing = false ∧ ((usesStore x.obj = true → s.obj (K.arbClientState 46) = 0))) ∧
    (let s : State := { wm 2 [] with transfers := [⟨5,0,0,7,K.boardUser,true,64,8,crc32 [1,2,3,4,5,6,7,8],[1,2,3,4,5,6,7,8],0,0,false,0⟩] };
     let q : Req := { rq K.boardUser [] with port := 0, transfer := 5 }; let x : Transfer := (s.transferNamed q).getD noTransfer;
     s.safeAsk = 0 ∧ s.transferNamed q = some x ∧ x.waiting = false ∧ q.body = [] ∧ checkTransfer (s.access q) q x = .ok () ∧
     Admitted s q .blockClose ∧ x.writing = true ∧ x.obj = K.boardUser ∧ s.mode = mLoad ∧ x.data.length = x.total ∧
     crc32 x.data = x.crc) ∧
    (let s : State := { wm 2 [] with transfers := [⟨5,0,0,7,K.boardUser,true,64,8,crc32 [1,2,3,4,5,6,7,8],[1,2,3,4,5,6,7,8],0,0,false,0⟩] };
     let t : Nat := 5*perS; let id : Nat := 5;
     let x : Transfer := (s.transfers.find? (fun y => y.id == id && !y.waiting)).getD noTransfer; Awake s ∧
     (s.transfers.find? (fun y => y.id == id && !y.waiting) = some x) ∧ x.last + 2 * perS ≤ t ∧ s.clock ≤ t) := by
  simp only [← admitted_eq, ← awake_eq, ← ok_eq]
  decide +kernel

/-- States and operands that meet the hypotheses of SubscriptionsAreServed, clause by clause. -/
theorem witness_SubscriptionsAreServed :
    (let s : State := wm 3 []; let q : Req := { rq 0 (toLE 1 1 ++ toLE 1 1 ++ toLE 2 1 ++ toLE 4 0 ++ toLE 2 60) with port := 3 };
     let target : Nat := match checkSubscribe (s.access q) q with | .ok l => l | _ => 0; s.safeAsk = 0 ∧ Admitted s q .subscribe ∧
     checkSubscribe (s.access q) q = .ok target ∧ s.sameSub q target = none ∧
     ((s.subs.filter (fun x => x.port == q.port)).length < 32) ∧ s.subs.length < 256) ∧
    (let s : State := { wm 3 [] with subs := [⟨5,3,0,true,0,true,false,1,0,100*perS,3,0,false,none,0,none⟩] };
     let q : Req := { rq 0 (toLE 1 1 ++ toLE 1 1 ++ toLE 2 1 ++ toLE 4 0 ++ toLE 2 60) with port := 3 };
     let target : Nat := match checkSubscribe (s.access q) q with | .ok l => l | _ => 0; s.safeAsk = 0 ∧ Admitted s q .subscribe ∧
     checkSubscribe (s.access q) q = .ok target ∧
     (let x := (s.sameSub q target).getD ⟨0,0,0,false,0,false,false,0,0,0,0,0,false,none,0,none⟩; s.sameSub q target = some x)) ∧
    (let s : State := { wm 2 [] with subs := [⟨5,3,9,true,0,true,true,1,0,100*perS,3,0,false,none,0,none⟩] };
     let q : Req := { rq 0 [] with port := 3, transfer := 5 }; s.safeAsk = 0 ∧ Admitted s q .unsubscribe ∧ q.body = [] ∧
     ((∃ x ∈ s.subs, x.id = q.transfer ∧ x.port = q.port))) ∧
    (let s : State := { wm 2 [] with subs := [⟨5,3,9,true,0,true,true,1,0,100*perS,3,0,false,none,0,none⟩] }; Awake s) ∧
    (let s : State := { wm 2 [] with subs := [⟨5,3,9,true,0,true,true,1,0,100*perS,3,0,false,none,0,none⟩] }; let t : Nat := 5*perS;
     let id : Nat := 5;
     let x : Subscription := (s.subs.find? (fun y => y.id == id && y.periodic)).getD ⟨0,0,0,false,0,false,false,0,0,0,0,0,false,none,0,none⟩;
     Awake s ∧ (s.subs.find? (fun y => y.id == id && y.periodic) = some x) ∧ x.isNode = true ∧ isQueued x.port = false ∧
     x.behind = none ∧ s.clock ≤ t ∧ ((∀ b, x.lastSent = some b → b + max 1 x.interval * perMs ≤ t))) := by
  simp only [← admitted_eq, ← awake_eq, ← ok_eq]
  repeat' apply And.intro
  all_goals first | decide +kernel | exact none_sent _ _ (by decide +kernel)

/-- States and operands that meet the hypotheses of ReplayQueuesTheLines, clause by clause. -/
theorem witness_ReplayQueuesTheLines :
    (let s : State := { wm mRun [(K.ctxState 9, cFlowing), (K.laneRole 4, 1), (K.laneStatus 4, 2)] with ctxs := [(9, { Ctx.none_ with out := { RingSt.none_ with base := 4096, bytes := 65536, lines := 4, lineBytes := 128, recBase := 0, mask := 4294967295, first := some 1, latest := some 3, begun := true, recs := [⟨2, 5, 0, 0, 0, 128, 0⟩] } })] };
     let q : Req := { rq 0 (toLE 2 9 ++ [4,0] ++ toLE 8 2 ++ toLE 4 5) with port := 3 };
     let r : Nat × Nat := match checkReplayRequest (s.access q) q with | .ok r => r | _ => (0,0); s.safeAsk = 0 ∧
     Admitted s q .replay ∧ checkReplayRequest (s.access q) q = .ok r) := by
  simp only [← admitted_eq, ← ok_eq]
  decide +kernel

/-- States and operands that meet the hypotheses of AbsentUnitsAnswerAbsent, clause by clause. -/
theorem witness_AbsentUnitsAnswerAbsent :
    (let s : State := { wm 2 [] with variant := .sv4x128 }; let q : Req := { rq (key 0x3800 2) [] with port := 0 };
     let c : Instr := (.read q : Instr); let op : Op := (.read : Op); let l : Loc := (locate q.index q.sub).getD noLoc;
     s.safeAsk = 0 ∧ Admitted s q op ∧ ((c = .read q ∧ op = .read) ∨ (c = .readMeta q ∧ op = .readMeta) ∨ (c = .write q ∧
     op = .write) ∨ (c = .rmw q ∧ op = .rmw) ∨ (c = .blockOpen q ∧ op = .blockOpen) ∨ (c = .subscribe q ∧ op = .subscribe ∧
     leAt q.body 0 1 ≠ 1)) ∧ q.sub ≠ 0 ∧ locate q.index q.sub = some l ∧ (s.access q).hasUnit l = false) := by
  simp only [← admitted_eq]
  decide +kernel

/-- States and operands that meet the hypotheses of SubindexZeroNamesTheHighest, clause by clause. -/
theorem witness_SubindexZeroNamesTheHighest :
    (let s : State := w0; let index : Nat := 0x3007; let sub : Nat := 2; let l : Loc := (locate index sub).getD noLoc;
     locate index sub = some l) ∧
    (let s : State := { wm 2 [] with variant := .sv4x128 }; let q : Req := { rq (key 0x3007 0) [] with port := 0 }; s.safeAsk = 0 ∧
     q.sub = 0 ∧ (q.ty = 0 ∨ q.ty = Ty.u8.code) ∧ (let sub : Nat := 2; let l : Loc := (locate q.index sub).getD noLoc;
     locate q.index sub = some l ∧ (s.access q).hasUnit l = true ∧ Admitted s q .read ∧ q.body = [])) ∧
    (let s : State := { wm 2 [] with variant := .sv4x128 }; let q : Req := { rq (key 0x3007 0) [1] with port := 0 }; s.safeAsk = 0 ∧
     q.sub = 0 ∧ (q.ty = 0 ∨ q.ty = Ty.u8.code) ∧ (let sub : Nat := 2; let l : Loc := (locate q.index sub).getD noLoc;
     locate q.index sub = some l ∧ (s.access q).hasUnit l = true ∧ Admitted s q .write)) ∧
    (let s : State := { wm 2 [] with variant := .sv4x128 }; let q : Req := { rq (key 0x3800 0) [] with port := 3 }; s.safeAsk = 0 ∧
     q.sub = 0 ∧ (q.ty = 0 ∨ q.ty = Ty.u8.code) ∧
     ((List.range 256).all (fun sub => (locate q.index sub).all (fun l => !(s.access q).hasUnit l)) = true) ∧
     ((List.range 256).any (fun sub => (locate q.index sub).isSome) = true) ∧ Admitted s q .read) := by
  simp only [← admitted_eq]
  decide +kernel

/-- States and operands that meet the hypotheses of PortsAnswerAndCount, clause by clause. -/
theorem witness_PortsAnswerAndCount :
    (let s : State := wm 3 []; let q : Req := { rq K.deviceMode [] with at_ := 5 * perMs, came := 0, port := 3 }; s.safeAsk = 0 ∧
     portPresent s.variant q.port = true ∧ q.at_ ≤ q.came + 10 * perMs) ∧
    (let s : State := wm 3 []; let q : Req := { rq K.deviceMode [] with at_ := 15 * perMs, came := 4 * perMs, port := 0 };
     s.safeAsk = 0 ∧ portPresent s.variant q.port = true ∧ 10 * perMs < q.at_ - q.came ∧ isQueued q.port = true ∧
     s.answers q.port = true ∧ s.portClosed q.port = false ∧ (s.begin_ q.at_).heldAt q < 16 ∧ s.aheadOf q false < 64 ∧
     s.aheadOf q true < 16) ∧
    (let s : State := wm 3 []; let t : Nat := 5; let p : Nat := 0; let c : Instr := .spiStatus t; Awake s ∧ s.answers p = true ∧
     ((p = 0 ∧ c = .spiStatus t) ∨ (p = 1 ∧ c = .parallelStatusRead t false))) ∧
    (let s : State := { wm 3 [] with ports := [(1,{ PortState.idle with responses := [[1,2],[3]] })] }; Awake s ∧ s.answers 1 = true) ∧
    (let s : State := { wm 3 [] with ports := [(0,{ PortState.idle with responses := [[1,2],[3]], order := [true, false, true], notices := [[5]] })] };
     let t : Nat := 5; let p : Nat := 0; let c : Instr := .spiResponse t; let m : List Byte := (s.portState p).responses.headD [];
     let rest : List (List Byte) := (s.portState p).responses.tail; Awake s ∧ s.answers p = true ∧
     (s.portState p).responses = m :: rest ∧ m ≠ [] ∧ ((p = 0 ∧ c = .spiResponse t) ∨ (p = 1 ∧ c = .parallelResponseRead t))) ∧
    (let s : State := { wm 3 [] with ports := [(0,{ PortState.idle with notices := [[1,2],[3]], order := [false,false] })] };
     let t : Nat := 5; let p : Nat := 0; let c : Instr := .spiNotification t; let m : List Byte := (s.portState p).notices.headD [];
     let rest : List (List Byte) := (s.portState p).notices.tail; Awake s ∧ s.answers p = true ∧ (s.portState p).notices = m :: rest ∧
     ((p = 0 ∧ c = .spiNotification t) ∨ (p = 1 ∧ c = .parallelNotificationRead t))) ∧
    (let s : State := { wm 3 [(K.portsDebugStrap,1)] with ports := [(32,{ PortState.idle with responses := [[1,2],[3]], notices := [[7,8]], order := [true,false,true] })] };
     let response : Bool := (s.portState 32).order.headD true;
     let m : List Byte := (if response then (s.portState 32).responses else (s.portState 32).notices).headD [];
     let rest : List (List Byte) := (if response then (s.portState 32).responses else (s.portState 32).notices).tail; Awake s ∧
     s.answers 32 = true ∧ s.portClosed 32 = false ∧ m ≠ [] ∧ (s.portState 32).order.head? = some response ∧
     ((if response then (s.portState 32).responses else (s.portState 32).notices) = m :: rest)) ∧
    (let s : State := wm 3 []; let t : Nat := 5; let p : Nat := 3; let r : Drop := .responseFlag; Awake s ∧
     portPresent s.variant p = true ∧ s.answers p = true ∧ (let shut := s.portClosed p;
     let full := !shut && isQueued p && !(s.begin_ t).ready p; ((shut = true ∧ p ≠ 32) ∨ full = true ∨ (shut = false ∧ full = false ∧
     (r = .crc ∨ r = .responseFlag ∨ (r = .framing ∧ isQueued p = false)))))) ∧
    (let s : State := wm 3 []; let t : Nat := 5; let p : Nat := 0; let r : Drop := .format;
     let bytes : List Byte := [0x55,0x10,2,0,7,8,9,9]; Awake s ∧ portPresent s.variant p = true ∧ s.answers p = true ∧
     s.portClosed p = false ∧ isQueued p = true ∧ (s.begin_ t).ready p = true ∧ (r = .format ∨ r = .framing) ∧ 6 ≤ bytes.length) := by
  simp only [← awake_eq]
  repeat' apply And.intro
  all_goals decide +kernel

/-- States and operands that meet the hypotheses of RequestsFromLoadAndForLoad, clause by clause. -/
theorem witness_RequestsFromLoadAndForLoad :
    (let s : State := wm mLoad []; let q : Req := rq K.deviceMode [];
     let l : Loc := lw s (onObject (withBody (rq K.deviceMode []) (toLE 1 mPrepare)) K.deviceModeRequest);
     let c : Instr := .modeRequestPrepare q; let m : Nat := mPrepare; s.safeAsk = 0 ∧ s.mode = mLoad ∧ s.trans.motion = .none ∧
     s.rallyState ≠ rExcluded ∧ s.halted = none ∧ ((m = mPrepare ∧ c = .modeRequestPrepare q) ∨ (m = mRun ∧
     c = .modeRequestRun q) ∨ (m = mHold ∧ c = .modeRequestHold q)) ∧ (let w := onObject (withBody q (toLE 1 m)) K.deviceModeRequest;
     Accepts s w l)) ∧
    (let s : State := { wm mLoad [] with trans := { Transition.idle with motion := .drain } }; let q : Req := rq K.deviceMode [];
     let l : Loc := lw s (onObject (withBody (rq K.deviceMode []) (toLE 1 1)) K.deviceModeLoad); s.safeAsk = 0 ∧
     (let w := onObject (withBody q (toLE 1 1)) K.deviceModeLoad; Accepts s w l ∧
     (s.trans.motion = .drain ∨ s.trans.motion = .shutdown ∨ s.trans.motion = .wake))) ∧
    (let s : State := { wm mPrepare [(K.deviceModeStep, 3)] with trans := { Transition.idle with motion := .prepare } };
     let q : Req := rq K.deviceMode []; let l : Loc := lw s (onObject (withBody (rq K.deviceMode []) (toLE 1 1)) K.deviceModeLoad);
     s.safeAsk = 0 ∧ (let w := onObject (withBody q (toLE 1 1)) K.deviceModeLoad; Accepts s w l ∧ s.trans.motion = .prepare ∧
     s.obj K.deviceModeStep ≠ 6 ∧ s.trans.linkWait = false)) := by
  simp only [← accepts_eq]
  decide +kernel

/-- States and operands that meet the hypotheses of RequestsWaitTheirTurn, clause by clause. -/
theorem witness_RequestsWaitTheirTurn :
    (let s : State := { wm mRun [] with trans := { Transition.idle with motion := .drain } }; let q : Req := rq K.deviceMode [];
     let l : Loc := lw s (onObject (withBody (rq K.deviceMode []) (toLE 1 mStandby)) K.deviceModeRequest);
     let c : Instr := .modeRequestStandby q; let m : Nat := mStandby; s.safeAsk = 0 ∧ ((m = mStandby ∧
     c = .modeRequestStandby q) ∨ (m = mPrepare ∧ c = .modeRequestPrepare q) ∨ (m = mRun ∧ c = .modeRequestRun q) ∨ (m = mHold ∧
     c = .modeRequestHold q) ∨ (m = 0 ∧ c = .modeRequestCancel q)) ∧ (let w := onObject (withBody q (toLE 1 m)) K.deviceModeRequest;
     Accepts s w l ∧ m ≠ 0 ∧ (s.trans.motion = .drain ∨ s.trans.motion = .shutdown ∨ s.trans.motion = .wake))) ∧
    (let s : State := { wm mPrepare [(K.deviceModeStep, 3)] with trans := { Transition.idle with motion := .prepare } };
     let q : Req := rq K.deviceMode [];
     let l : Loc := lw s (onObject (withBody (rq K.deviceMode []) (toLE 1 mRun)) K.deviceModeRequest);
     let c : Instr := .modeRequestRun q; let m : Nat := mRun; s.safeAsk = 0 ∧ ((m = mStandby ∧
     c = .modeRequestStandby q) ∨ (m = mPrepare ∧ c = .modeRequestPrepare q) ∨ (m = mRun ∧ c = .modeRequestRun q) ∨ (m = mHold ∧
     c = .modeRequestHold q) ∨ (m = 0 ∧ c = .modeRequestCancel q)) ∧ (let w := onObject (withBody q (toLE 1 m)) K.deviceModeRequest;
     Accepts s w l ∧ s.trans.motion = .prepare ∧ (m = mPrepare ∨ m = mRun ∨ m = mHold))) ∧
    (let s : State := { wm mPrepare [(K.deviceModeStep, 3)] with trans := { Transition.idle with motion := .prepare } };
     let q : Req := rq K.deviceMode [];
     let l : Loc := lw s (onObject (withBody (rq K.deviceMode []) (toLE 1 mStandby)) K.deviceModeRequest);
     let c : Instr := .modeRequestStandby q; let m : Nat := mStandby; s.safeAsk = 0 ∧ ((m = mStandby ∧
     c = .modeRequestStandby q) ∨ (m = mPrepare ∧ c = .modeRequestPrepare q) ∨ (m = mRun ∧ c = .modeRequestRun q) ∨ (m = mHold ∧
     c = .modeRequestHold q) ∨ (m = 0 ∧ c = .modeRequestCancel q)) ∧ (let w := onObject (withBody q (toLE 1 m)) K.deviceModeRequest;
     Accepts s w l ∧ s.trans.motion = .prepare ∧ m = mStandby ∧ s.obj K.deviceModeStep ≠ 6 ∧ s.trans.linkWait = false)) ∧
    (let s : State := { wm mRun [(K.graphNodePitch 3, 2)] with ctxs := [(3, .none_)], plan := .none_ }|> fun s => s.poke (K.ctxState 3) cFlowing;
     let q : Req := rq K.deviceMode [];
     let l : Loc := lw s (onObject (withBody (rq K.deviceMode []) (toLE 1 mHold)) K.deviceModeRequest);
     let c : Instr := .modeRequestHold q; let m : Nat := mHold; s.safeAsk = 0 ∧ ((m = mStandby ∧
     c = .modeRequestStandby q) ∨ (m = mPrepare ∧ c = .modeRequestPrepare q) ∨ (m = mRun ∧ c = .modeRequestRun q) ∨ (m = mHold ∧
     c = .modeRequestHold q) ∨ (m = 0 ∧ c = .modeRequestCancel q)) ∧ (let w := onObject (withBody q (toLE 1 m)) K.deviceModeRequest;
     Accepts s w l ∧ s.trans.motion = .none ∧ s.mode = mRun ∧ s.halted = none ∧ m = mHold ∧ (s.access w).flowingPitches ≠ [])) ∧
    (let s : State := { wm mPrepare [(K.deviceModeStep, 3)] with trans := { Transition.idle with motion := .prepare } };
     let q : Req := rq K.deviceMode []; let l : Loc := lw s (onObject (withBody (rq K.deviceMode []) (toLE 1 0)) K.deviceModeRequest);
     let c : Instr := .modeRequestCancel q; let m : Nat := 0; s.safeAsk = 0 ∧ ((m = mStandby ∧
     c = .modeRequestStandby q) ∨ (m = mPrepare ∧ c = .modeRequestPrepare q) ∨ (m = mRun ∧ c = .modeRequestRun q) ∨ (m = mHold ∧
     c = .modeRequestHold q) ∨ (m = 0 ∧ c = .modeRequestCancel q)) ∧ (let w := onObject (withBody q (toLE 1 m)) K.deviceModeRequest;
     Accepts s w l ∧ m = 0)) := by
  simp only [← accepts_eq]
  repeat' apply And.intro
  all_goals decide +kernel

/-- States and operands that meet the hypotheses of SafeIsEnteredAndFreezes, clause by clause. -/
theorem witness_SafeIsEnteredAndFreezes :
    (let s : State := { wm mSafe [] with ctxs := [(3, .none_)]}|> fun s => s.poke (K.ctxState 3) cFlowing; let c : Nat := 3;
     let x : Ctx := (s.ctxs.headD (0,.none_)).2; Awake s ∧ s.mode = mSafe ∧ s.ctxs = [(c, x)] ∧ c < 1024 ∧ x.cur = none ∧
     x.lossDue = 0) := by
  simp only [← awake_eq]
  decide +kernel

/-- States and operands that meet the hypotheses of CausesLeadToSafeAndClear, clause by clause. -/
theorem witness_CausesLeadToSafeAndClear :
    (let s : State := wm mRun []; let t : Nat := 5; let c : Instr := .safeNLow t; let mask : Nat := 2; Awake s ∧ s.mode ≠ mBoot ∧
     s.mode ≠ mRescue ∧ s.mode ≠ mSafe ∧ (c = .safeNLow t ∧ mask = 2)) ∧
    (let s : State := wm mSafe [(K.deviceSafeCause, 0x13)]; let q : Req := rq K.deviceSafeClear [3,0];
     let l : Loc := lw s (onObject (rq K.deviceSafeClear [3,0]) K.deviceSafeClear); s.safeAsk = 0 ∧ s.obj K.deviceSafeCause < 65536 ∧
     (let w := onObject q K.deviceSafeClear; Accepts s w l)) := by
  simp only [← accepts_eq, ← awake_eq]
  decide +kernel

/-- States and operands that meet the hypotheses of PrepareGoesOn, clause by clause. -/
theorem witness_PrepareGoesOn :
    (let s : State := { wm mPrepare [(K.deviceModeStep, 1)] with trans := { Transition.idle with motion := .prepare } };
     let t : Nat := 5; let k : Nat := 1; s.held = false ∧ s.mode = mPrepare ∧ s.trans.motion = .prepare ∧ s.trans.abortTo = 0xFF ∧
     s.obj K.deviceModeStep = k ∧ s.halted = none ∧ (let check := (s.begin_ t).checkStep1.2; k = 1 ∧ check = none)) ∧
    (let s : State := { wm mPrepare [(K.deviceModeStep, 3)] with trans := { Transition.idle with motion := .prepare } };
     let k : Nat := 3; let f : StepFacts := ⟨true, []⟩; s.held = false ∧ s.mode = mPrepare ∧ s.trans.motion = .prepare ∧
     s.trans.abortTo = 0xFF ∧ s.obj K.deviceModeStep = k ∧ s.halted = none ∧ ((k = 3 ∧ f.ok = true ∧ s.powerUp = true) ∨ (k = 4 ∧
     f.ok = true ∧ s.tilesUp = true) ∨ (k = 6 ∧ s.rallyState = rAligned))) ∧
    (let s : State := { { wm mPrepare [(K.deviceModeStep, 3)] with trans := { Transition.idle with motion := .prepare } } with plan := { Plan.none_ with pieces := [] } };
     let t : Nat := 5; let k : Nat := 3; let f : StepFacts := ⟨false, []⟩; s.held = false ∧ s.mode = mPrepare ∧
     s.trans.motion = .prepare ∧ s.trans.abortTo = 0xFF ∧ s.obj K.deviceModeStep = k ∧ s.halted = none ∧
     (let check := (s.begin_ t).checkStep1.2; let code := aFault; ((k = 1 ∧ check = some code) ∨ (k = 3 ∧ f.ok = false ∧
     code = aFault) ∨ (k = 4 ∧ f.ok = false ∧ code = aConflict)) ∧ s.trans.origin ≠ mStandby)) ∧
    (let s : State := { wm mPrepare [(K.deviceModeStep, 7), (K.deviceModeTarget, mPrepare)] with trans := { Transition.idle with motion := .prepare } };
     Awake s ∧ s.mode = mPrepare ∧ s.trans.motion = .prepare ∧ s.trans.abortTo = 0xFF ∧ s.obj K.deviceModeStep = 7 ∧ s.halted = none ∧
     s.trans.origin ≠ mSafe ∧ s.obj K.deviceModeTarget = mPrepare) ∧
    (let s : State := { wm mPrepare [(K.deviceModeStep, 6)] with trans := { Transition.idle with motion := .prepare } }; Awake s ∧
     s.mode = mPrepare ∧ s.trans.motion = .prepare ∧ s.trans.alignExpired = false ∧ s.rallyState ≠ rAligned ∧
     s.obj K.deviceModeStep = 6 ∧ s.trans.linkWait = false) := by
  simp only [← awake_eq]
  decide +kernel

/-- States and operands that meet the hypotheses of TransitionsEndTheirSteps, clause by clause. -/
theorem witness_TransitionsEndTheirSteps :
    (let s : State := { wm mRun [] with trans := { Transition.idle with motion := .toHold } }; let t : Nat := 10*perUs;
     s.held = false ∧ s.trans.motion = .toHold ∧ s.trans.since + 10 * perUs ≤ t) ∧
    (let s : State := { wm mRun [] with trans := { Transition.idle with motion := .drain } }; s.held = false ∧
     s.trans.motion = .drain ∧ s.obj K.deviceModePending = 0) ∧
    (let s : State := { wm mLoad [(K.deviceModeStep, 3)] with trans := { Transition.idle with motion := .shutdown } };
     let k : Nat := s.obj K.deviceModeStep; s.held = false ∧ s.trans.motion = .shutdown ∧ s.obj K.deviceModeStep = k ∧ 2 ≤ k ∧ k ≤ 4 ∧
     s.halted = none ∧ s.obj K.deviceModePending = 0) ∧
    (let s : State := { wm mLoad [(K.deviceModeStep, 5)] with trans := { Transition.idle with motion := .shutdown } }; Awake s ∧
     s.trans.motion = .shutdown ∧ s.obj K.deviceModeStep = 5 ∧ s.obj K.deviceModePending = 0 ∧ s.mode ≠ mStandby ∧ s.halted = none) ∧
    (let s : State := { wm mStandby [(K.deviceModeStep, 1)] with trans := { Transition.idle with motion := .wake, shadow := true } };
     Awake s ∧ s.trans.motion = .wake ∧ s.obj K.deviceModeStep = 1 ∧ s.trans.shadow = true ∧ s.halted = none) ∧
    (let s : State := { wm mLoad [] with copying := true }; Awake s ∧ s.copying = true ∧ s.obj (K.arbClientState 46) ≠ 1) ∧
    (let s : State := wm mRun [(K.feStatus 3, 1)]; let n : Nat := 3; Awake s ∧ n < engineCount s.variant ∧
     (let b := s.obj (K.feStatus n); (enState b = 1 ∨ enState b = 3))) ∧
    (let s : State := wm mRun [(statusKey (.tile 3), 1)]; let unit : UnitName := (.tile 3 : UnitName); s.held = false ∧
     unitPresent s.variant unit = true ∧ (let b := s.obj (statusKey unit); ((enState b = 1 ∧
     statusKey unit ∉ (List.range 4).map K.timeSynStatus) ∨ (enState b = 3 ∧ s.mayStop unit = true)))) := by
  simp only [← awake_eq]
  decide +kernel

/-- States and operands that meet the hypotheses of ResetsRestart, clause by clause. -/
theorem witness_ResetsRestart :
    (let s : State := wm mRun [(K.deviceSafeCause, 32), (K.calState, 1)]; s.safeAsk = 0) ∧
    (let s : State := wm mRun []; let r : Nat := 0; let mv : Int := 100; s.safeAsk = 0 ∧ railPresent s.variant r = true ∧
     mv < railReset r) ∧
    (let s : State := wm mSafe [(K.deviceSafeCause, 32)]; Awake s ∧ s.mode = mSafe ∧ (s.obj K.deviceSafeCause).testBit 5 = true) ∧
    (let s : State := wm mRun []; let q : Req := { rq (K.deviceReset) [0x5A,0xA5] with port := 0 };
     let l : Loc := lw s (onObject ({ rq (K.deviceReset) [0x5A,0xA5] with port := 0 }) (K.deviceReset)); s.safeAsk = 0 ∧
     (let w := onObject (withBody q (toLE 2 0xA55A)) K.deviceReset; Admitted s w .write ∧ checkWrite (s.access w) w = .ok l)) := by
  simp only [← admitted_eq, ← awake_eq, ← ok_eq]
  decide +kernel

/-- States and operands that meet the hypotheses of BootFollowsItsSteps, clause by clause. -/
theorem witness_BootFollowsItsSteps :
    (let s : State := State.reset; s.safeAsk = 0 ∧ s.porLow = true ∧ s.railsLow = 0) ∧
    (let s : State := { w0 with boot := ⟨.headers, 0, false, 0, false, false, false⟩ }; s.held = false ∧ s.boot.live = false ∧
     s.boot.warm = false) ∧
    (let s : State := { w0 with boot := ⟨.headers, 0, false, 0, false, false, false⟩ }; Awake s ∧ s.boot.trained = false) ∧
    (let s : State := w0; let hz : Nat := 99990000; Awake s ∧ (99990000 ≤ hz ∧ hz ≤ 100010000)) ∧
    (let s : State := w0; let hz : Nat := 156234375; Awake s ∧ (156234375 ≤ hz ∧ hz ≤ 156265625)) ∧
    (let s : State := { w0 with boot := ⟨.headers, 0, false, 0, true, true, false⟩ }; Awake s ∧ s.boot.step = .headers ∧
     (s.bootSlot s.boot.slot).bootable = true ∧ boardDefects (s.force K.boardDefects) = []) ∧
    (let s : State := { w0 with boot := ⟨.image, 0, false, 0, true, true, false⟩ }; Awake s ∧ s.boot.step = .image ∧
     (s.bootSlot s.boot.slot).crcGood = true) ∧
    (let s : State := { w0 with boot := ⟨.image, 1, false, 0, true, true, false⟩ }; let t : Nat := 5;
     let c : Instr := .bootImageRead t false; Awake s ∧ ((s.boot.step = .image ∧
     c = .bootImageRead t false) ∨ (s.boot.step = .confirming ∧ c = .confirmTimeout t)) ∧ s.boot.fallback = false ∧
     (s.bootSlot (1 - s.boot.slot)).bootable = true) ∧
    (let s : State := { w0 with boot := ⟨.image, 1, true, 0, true, true, false⟩ }; let t : Nat := 5;
     let c : Instr := .bootImageRead t false; Awake s ∧ ((s.boot.step = .image ∧
     c = .bootImageRead t false) ∨ (s.boot.step = .confirming ∧ c = .confirmTimeout t)) ∧ s.boot.fallback = true) ∧
    (let s : State := { w0 with boot := ⟨.confirming, 1, true, 0, true, true, false⟩ }; s.held = false ∧ s.boot.step = .confirming ∧
     s.boot.live = true ∧ s.boot.trained = true) := by
  simp only [← awake_eq]
  decide +kernel

/-- States and operands that meet the hypotheses of SuppliesAndTemperaturesShow, clause by clause. -/
theorem witness_SuppliesAndTemperaturesShow :
    (let s : State := wm mRun []; let r : Nat := 0; let mv : Int := 750; Awake s ∧ railPresent s.variant r = true ∧
     railState r mv = 0 ∧ s.railsLow.testBit r = false) ∧
    (let s : State := wm mRun [(K.dacStatus 3, 2)]; let r : Nat := 3; let mv : Int := 100; Awake s ∧ railPresent s.variant r = true ∧
     ((r = 3 ∧ mv < 1500) ∨ ((r = 7 ∨ r = 8) ∧ mv.natAbs < 9000))) ∧
    (let s : State := wm mRun []; Awake s) ∧
    (let s : State := { wm mRun [] with safeLow := true }; Awake s) := by
  simp only [← awake_eq]
  decide +kernel

/-- States and operands that meet the hypotheses of VersionsAreWritten, clause by clause. -/
theorem witness_VersionsAreWritten :
    (let s : State := wm mLoad []; let q : Req := { rq (K.versionsAccept) [1] with port := 0 };
     let l : Loc := lw s (onObject ({ rq (K.versionsAccept) [1] with port := 0 }) (K.versionsAccept)); s.safeAsk = 0 ∧
     (let w := onObject q K.versionsAccept; Accepts s w l)) ∧
    (let s : State := wm mLoad []; let q : Req := { rq (K.versionsAccept) [1] with port := 0 };
     let l : Loc := lw s (onObject ({ rq (K.versionsAccept) [1] with port := 0 }) (K.versionsAccept)); s.safeAsk = 0 ∧
     (let w := onObject q K.versionsAccept; Accepts s w l ∧ ((∀ d ∈ s.dies, s.obj (K.versionsSeqState d) ≠ 2) ∨ ofLE q.body = 0))) ∧
    (let s : State := wm mLoad []; let q : Req := { rq (K.versionsMgmtSelect) [1] with port := 0 };
     let l : Loc := lw s (onObject ({ rq (K.versionsMgmtSelect) [1] with port := 0 }) (K.versionsMgmtSelect)); s.safeAsk = 0 ∧
     (let w := onObject q K.versionsMgmtSelect; Accepts s w l)) ∧
    (let s : State := { wm mLoad [] with transfers := [⟨5,3,0,7,slotWordKey 1,true,64,8,0,[1,2,3,4,5,6,7,8],0,0,true,0⟩] };
     let slot : Nat := 1; let x : Transfer := (s.transfers.find? (fun y => y.waiting && y.obj == slotWordKey slot)).getD noTransfer;
     Awake s ∧ slot < 2 ∧ (s.transfers.find? (fun y => y.waiting && y.obj == slotWordKey slot) = some x) ∧ x.port = 3) := by
  simp only [← accepts_eq, ← awake_eq]
  decide +kernel

/-- States and operands that meet the hypotheses of ReferenceClockIsFollowed, clause by clause. -/
theorem witness_ReferenceClockIsFollowed :
    (let s : State := wm mRun []; s.held = false ∧ s.obj K.timeRefclkState = 0 ∧ s.calTiles = []) ∧
    (let s : State := { wm mRun [(K.timeRefclkState, 1), (K.timeSynStatus 1, 0x12)] with refLost := 3 }; Awake s ∧
     s.obj K.timeRefclkState = 1) ∧
    (let s : State := wm mRun [(K.timeSynStatus 1, 1), (K.timeSynFreq 1, 0x4EE6B280)]; let q : Nat := 1; let phase : Int := 7;
     Awake s ∧ q < quadCount s.variant ∧ enState (s.obj (K.timeSynStatus q)) = 1 ∧ isOn (enEnd (s.obj (K.timeSynStatus q))) = true ∧
     0 ≤ phase ∧ phase < (Frac.div ⟨1000000000000, 1⟩ (fracOfF32 (s.obj (K.timeSynFreq q)))).ceil) := by
  simp only [← awake_eq]
  decide +kernel

/-- States and operands that meet the hypotheses of TimeIsSetAndFollowed, clause by clause. -/
theorem witness_TimeIsSetAndFollowed :
    (let s : State := wm mLoad []; let q : Req := { rq (K.timeSet) [1,0,0,0,2,0,0,0,0,0,0,0] with port := 0 };
     let l : Loc := lw s (onObject ({ rq (K.timeSet) [1,0,0,0,2,0,0,0,0,0,0,0] with port := 0 }) (K.timeSet)); s.safeAsk = 0 ∧
     (let w := onObject q K.timeSet; Accepts s w l)) ∧
    (let s : State := wm mLoad [(K.timePtpEnable, 1), (K.portsMgmtLink, 3)]; let domain : Nat := 0; let master : Nat := 77; Awake s ∧
     s.obj K.timePtpEnable = 1 ∧ s.obj K.portsMgmtLink = 3 ∧ s.timeByRally = false ∧ s.obj K.timeSource = 0 ∧ s.obj K.timeState ≠ 2 ∧
     domain = s.obj K.timePtpDomain ∧ master ≠ s.obj K.timePtpMaster) ∧
    (let s : State := wm mLoad [(K.timePtpEnable, 1), (K.portsMgmtLink, 3), (K.timeSource, 1), (K.timeState, 1)];
     let domain : Nat := s.obj K.timePtpDomain; let offset : Int := -100000000000000; Awake s ∧ s.obj K.timePtpEnable = 1 ∧
     s.obj K.portsMgmtLink = 3 ∧ s.timeByRally = false ∧ s.obj K.timeSource = 1 ∧ s.obj K.timeState = 1 ∧
     domain = s.obj K.timePtpDomain ∧ s.mode = mLoad ∧ offset.natAbs > s.obj K.timeStepLimit * perNs ∧ offset.natAbs > perUs) ∧
    (let s : State := wm mLoad [(K.timePtpEnable, 1), (K.portsMgmtLink, 3), (K.timeSource, 1), (K.timeState, 2)]; s.held = false ∧
     s.obj K.timeSource = 1) := by
  simp only [← accepts_eq, ← awake_eq]
  decide +kernel

/-- States and operands that meet the hypotheses of EncoderEdgesCount, clause by clause. -/
theorem witness_EncoderEdgesCount :
    (let s : State := wm mLoad [(K.encStatus 3, 2)]; let e : Nat := 3; let held : Nat := 1000000; let a : Bool := true;
     let b : Bool := false; Awake s ∧ e < 8 ∧ s.encRuns e = true ∧ s.obj (K.encMode e) = 0 ∧ 5000 * s.obj (K.encGlitch e) ≤ held ∧
     ((((s.enc e).a ≠ a ∧ (s.enc e).b = b) ∨ ((s.enc e).a = a ∧ (s.enc e).b ≠ b)))) ∧
    (let s : State := wm mLoad [(K.encStatus 3, 2)]; let e : Nat := 3; let held : Nat := 1000000; Awake s ∧ e < 8 ∧
     s.encRuns e = true ∧ s.obj (K.encMode e) = 0 ∧ 5000 * s.obj (K.encGlitch e) ≤ held) ∧
    (let s : State := wm mLoad [(K.encStatus 3, 2), (K.encGlitch 3, 3)]; let e : Nat := 3; let held : Nat := 100;
     let a : Bool := true; let b : Bool := false; Awake s ∧ e < 8 ∧ s.encRuns e = true ∧ ((s.enc e).a ≠ a ∨ (s.enc e).b ≠ b) ∧
     held < 5000 * s.obj (K.encGlitch e)) := by
  simp only [← awake_eq]
  decide +kernel

/-- States and operands that meet the hypotheses of EncodersAreWatchedAndWritten, clause by clause. -/
theorem witness_EncodersAreWatchedAndWritten :
    (let s : State := wm mLoad [(K.encStatus 3, 2), (K.encZMode 3, 1), (K.encPosition 3, 77)]; let e : Nat := 3; Awake s ∧ e < 8 ∧
     s.encRuns e = true ∧ (s.enc e).index = false ∧ s.obj (K.encZMode e) = 1) ∧
    (let s : State := wm mLoad [(K.encStatus 3, 2), (K.encZMode 3, 2), (K.encPreset 3, 77)]; let e : Nat := 3; Awake s ∧ e < 8 ∧
     s.encRuns e = true ∧ (s.enc e).index = false ∧ s.obj (K.encZMode e) = 2 ∧ (s.enc e).armed = true) ∧
    (let s : State := wm mLoad [(K.encStatus 3, 2)]; let e : Nat := 3; s.held = false ∧ e < 8 ∧ s.encRuns e = true) ∧
    (let s : State := wm mLoad [(K.encStatus 3, 2)]; let e : Nat := 3; Awake s ∧ e < 8 ∧ s.encRuns e = true ∧ s.mode ≠ mRun) ∧
    (let s : State := wm mLoad [(K.encStatus 3, 2)]; let e : Nat := 3; Awake s ∧ e < 8 ∧ s.encRuns e = true) ∧
    (let s : State := wm mLoad [(K.encStatus 3, 2)]; let q : Req := { rq (K.encPreset 3) [1,0,0,0,2,0] with port := 0 };
     let l : Loc := lw s (onObject ({ rq (K.encPreset 3) [1,0,0,0,2,0] with port := 0 }) (K.encPreset 3)); let e : Nat := 3;
     s.safeAsk = 0 ∧ e < 8 ∧ Accepts s (onObject q (K.encPreset e)) l) ∧
    (let s : State := wm mLoad []; let q : Req := { rq (K.encGlitch 3) [1] with port := 0 };
     let l : Loc := lw s (onObject ({ rq (K.encGlitch 3) [1] with port := 0 }) (K.encGlitch 3)); let e : Nat := 3; s.safeAsk = 0 ∧
     e < 8 ∧ Accepts s (onObject q (K.encGlitch e)) l) ∧
    (let s : State := wm mLoad []; let q : Req := { rq (K.encRateMax 3) [64,66,15,0] with port := 0 };
     let l : Loc := lw s (onObject ({ rq (K.encRateMax 3) [64,66,15,0] with port := 0 }) (K.encRateMax 3)); let e : Nat := 3;
     s.safeAsk = 0 ∧ e < 8 ∧ Accepts s (onObject q (K.encRateMax e)) l) ∧
    (let s : State := wm mLoad []; let q : Req := { rq (K.encEnable 3) [1] with port := 0 };
     let l : Loc := lw s (onObject ({ rq (K.encEnable 3) [1] with port := 0 }) (K.encEnable 3)); let e : Nat := 3; s.safeAsk = 0 ∧
     e < 8 ∧ Accepts s (onObject q (K.encEnable e)) l) := by
  simp only [← accepts_eq, ← awake_eq]
  decide +kernel

/-- States and operands that meet the hypotheses of LineTriggersFire, clause by clause. -/
theorem witness_LineTriggersFire :
    (let s : State := { wm mRun [(K.pitchStatus 3, 2), (K.pitchEncoder 3, 5), (K.encStatus 5, 2)] with pitches := [(3, { Pitch.none_ with up := 65536, aim := some (70, false) })] };
     let t : Nat := 5; let p : Nat := 3; let at_ : Nat := ((s.pitchOf p).aim.getD (0,false)).1;
     let late0 : Bool := ((s.pitchOf p).aim.getD (0,false)).2; let c : Instr := .lineTrigger t p; Awake s ∧ p < 16 ∧
     s.firesLocally p = true ∧ s.followsDue p = false ∧ (s.rallyState ≠ rExcluded ∨ bitsOf (s.obj K.rallyShareSource) p p = 0) ∧
     (s.pitchOf p).aim = some (at_, late0) ∧ s.tooSoon p at_ = false ∧ c = .lineTrigger t p ∧ s.runsWith p = false) ∧
    (let s : State := { wm mPrepare [(K.pitchStatus 3, 2), (K.pitchEncoder 3, 5), (K.encStatus 5, 2), (K.graphNodePitch 9, 3), (K.ctxState 9, cPrimed)] with pitches := [(3, { Pitch.none_ with up := 65536, aim := some (70, false) })], trans := { Transition.idle with motion := .toRun }, ctxs := [(9, .none_)] };
     let t : Nat := 5; let p : Nat := 3; let at_ : Nat := ((s.pitchOf p).aim.getD (0,false)).1;
     let late0 : Bool := ((s.pitchOf p).aim.getD (0,false)).2; let c : Instr := .runEntryTrigger t p; Awake s ∧ p < 16 ∧
     s.firesLocally p = true ∧ s.followsDue p = false ∧ (s.rallyState ≠ rExcluded ∨ bitsOf (s.obj K.rallyShareSource) p p = 0) ∧
     (s.pitchOf p).aim = some (at_, late0) ∧ s.tooSoon p at_ = false ∧ ((c = .lineTrigger t p ∧
     s.runsWith p = true) ∨ (c = .runEntryTrigger t p ∧ s.trans.motion = .toRun ∧ s.placedPitch p = true) ∨ (c = .autoResume t p ∧
     s.mode = mHold ∧ s.runsWith p = true))) ∧
    (let s : State := { wm mRun [(K.pitchStatus 3, 2), (K.pitchEncoder 3, 5), (K.encStatus 5, 2)] with pitches := [(3, { Pitch.none_ with up := 65536, aim := some (70, false) })] };
     let t : Nat := 5; let p : Nat := 3; let at_ : Nat := ((s.pitchOf p).aim.getD (0,false)).1;
     let late0 : Bool := ((s.pitchOf p).aim.getD (0,false)).2; let c : Instr := .lineTrigger t p; Awake s ∧ p < 16 ∧
     s.firesLocally p = true ∧ s.followsDue p = false ∧ (s.rallyState ≠ rExcluded ∨ bitsOf (s.obj K.rallyShareSource) p p = 0) ∧
     (s.pitchOf p).aim = some (at_, late0) ∧ s.tooSoon p at_ = false ∧ c = .lineTrigger t p ∧ s.runsWith p = false ∧
     s.triggeredBy p = [] ∧ s.scannedBy p = []) ∧
    (let s : State := { wm mRun [(K.pitchStatus 3, 2), (K.pitchEncoder 3, 5), (K.encStatus 5, 2), (K.pitchMinPeriod 3, 5000000)] with pitches := [(3, { Pitch.none_ with up := 65536, aim := some (70, false), lastAt := some 65 })] };
     let t : Nat := 5; let p : Nat := 3; let at_ : Nat := ((s.pitchOf p).aim.getD (0,false)).1;
     let late0 : Bool := ((s.pitchOf p).aim.getD (0,false)).2; let c : Instr := .lineTrigger t p; Awake s ∧ p < 16 ∧
     s.firesLocally p = true ∧ s.followsDue p = false ∧ (s.rallyState ≠ rExcluded ∨ bitsOf (s.obj K.rallyShareSource) p p = 0) ∧
     (s.pitchOf p).aim = some (at_, late0) ∧ s.tooSoon p at_ = true ∧ c = .lineTrigger t p) := by
  simp only [← awake_eq]
  decide +kernel

/-- States and operands that meet the hypotheses of BoardFactsAndDefects, clause by clause. -/
theorem witness_BoardFactsAndDefects :
    (let s : State := { wm mLoad [(K.boardSpan, 2)] with inForce := [(K.boardSpan, 0)] };
     let q : Req := { rq (K.boardCommit) [1] with port := 0 };
     let l : Loc := lw s (onObject ({ rq (K.boardCommit) [1] with port := 0 }) (K.boardCommit)); s.safeAsk = 0 ∧
     (let w := onObject (withBody q (toLE 1 1)) K.boardCommit; Accepts s w l)) ∧
    (let s : State := { wm mLoad [(K.boardSpan, 2), (K.boardState, 2)] with inForce := [(K.boardSpan, 0)], boardNext := [(K.boardSpan, 2)] };
     s.held = false ∧ s.obj K.boardState = 2 ∧ (s.boardNext.map (·.1)).Nodup ∧ ((∀ e ∈ s.boardNext, isBoardKey e.1 = true))) ∧
    (let s : State := wm mLoad []; let q : Req := { rq (K.placerDefectAdd) [5,0,4,0] with port := 0 };
     let l : Loc := lw s (onObject ({ rq (K.placerDefectAdd) [5,0,4,0] with port := 0 }) (K.placerDefectAdd)); s.safeAsk = 0 ∧
     (let w := onObject q K.placerDefectAdd; let cls := ofLE q.body / 65536; let unit := ofLE q.body % 65536; Accepts s w l ∧
     (s.defects.any (fun d => d.names cls unit false) = false) ∧ s.defects.length < 512)) ∧
    (let s : State := { wm mLoad [] with defects := [⟨4, 5, 6, 0xFFFF⟩, ⟨4, 6, 7, 0xFFFF⟩] };
     let q : Req := { rq (K.placerDefectClear) [1] with port := 0 };
     let l : Loc := lw s (onObject ({ rq (K.placerDefectClear) [1] with port := 0 }) (K.placerDefectClear)); s.safeAsk = 0 ∧
     (let w := onObject q K.placerDefectClear; Accepts s w l)) := by
  simp only [← accepts_eq]
  decide +kernel

/-- States and operands that meet the hypotheses of GraphsAreCommittedAndTried, clause by clause. -/
theorem witness_GraphsAreCommittedAndTried :
    (let s : State := { wm mLoad [(K.graphNodeSource 3, 2), (K.graphNodeRetention 3, 16)] with inForce := [(K.graphNodeSource 3, 0)] };
     let q : Req := { rq (K.graphCommit) [1] with port := 0 };
     let l : Loc := lw s (onObject ({ rq (K.graphCommit) [1] with port := 0 }) (K.graphCommit)); s.safeAsk = 0 ∧
     (let w := onObject (withBody q (toLE 1 1)) K.graphCommit; Accepts s w l)) ∧
    (let s : State := wm mLoad []; let q : Req := { rq (K.placerTrial) [1] with port := 0 };
     let l : Loc := lw s (onObject ({ rq (K.placerTrial) [1] with port := 0 }) (K.placerTrial)); s.safeAsk = 0 ∧
     (let w := onObject q K.placerTrial; Accepts s w l)) ∧
    (let s : State := { wm mLoad [] with trial := some (3, 77) }; let code : Nat := (s.trial.getD (0,0)).1;
     let digest : Nat := (s.trial.getD (0,0)).2; Awake s ∧ s.trial = some (code, digest)) := by
  simp only [← accepts_eq, ← awake_eq]
  decide +kernel

/-- States and operands that meet the hypotheses of SubstitutionsGoOn, clause by clause. -/
theorem witness_SubstitutionsGoOn :
    (let s : State := { wm mRun [(K.ctxState 9, cDegraded), (K.ctxTile 9, 5), (K.graphNodeSource 9, 1)] with ctxs := [(9, .none_)] };
     let q : Req := { rq (K.ctxRetry 9) [1] with port := 0 };
     let l : Loc := lw s (onObject ({ rq (K.ctxRetry 9) [1] with port := 0 }) (K.ctxRetry 9)); let c : Nat := 9;
     let asked : Nat := 0xFFFF; let i : Instr := .ctxRetry q c; let k : Nat := K.ctxRetry c; s.safeAsk = 0 ∧ c < 1024 ∧
     ((i = .ctxRetry q c ∧ k = K.ctxRetry c ∧ asked = 0xFFFF) ∨ (i = .ctxSwap q c ∧ k = K.ctxSwap c ∧ asked = ofLE q.body)) ∧
     (let w := onObject q k; let old := s.obj (K.ctxTile c); Accepts s w l ∧ ((∀ x ∈ s.swaps, x.step ≠ 0)) ∧
     ((∀ m ∈ s.calMembers old, s.tileTaken m = true)))) ∧
    (let s : State := { wm mRun [(K.ctxState 9, cFlowing), (K.ctxTile 9, 5), (K.graphNodeSource 9, 1)] with ctxs := [(9, .none_)], swaps := [⟨5, 7, 2, 1, 0, 0xFFFF⟩] };
     let old : Nat := 5; let x : Swap := (s.swapOf old).getD ⟨0,0,0,0,0,0⟩; Awake s ∧ old < tileCount s.variant ∧
     s.swapOf old = some x ∧ (x.step = 2 ∨ x.step = 3 ∨ x.step = 5)) ∧
    (let s : State := { wm mRun [(K.ctxState 9, cFlowing), (K.ctxTile 9, 5), (K.graphNodeSource 9, 1)] with ctxs := [(9, .none_)], swaps := [⟨5, 7, 5, 1, 0, 0xFFFF⟩] };
     let old : Nat := 5; let x : Swap := (s.swapOf old).getD ⟨0,0,0,0,0,0⟩; Awake s ∧ old < tileCount s.variant ∧
     s.swapOf old = some x ∧ x.step = 5) ∧
    (let s : State := { wm mRun [(K.ctxState 9, cFlowing), (K.ctxTile 9, 5), (K.graphNodeSource 9, 1)] with ctxs := [(9, .none_)], swaps := [⟨5, 7, 8, 1, 0, 0xFFFF⟩] };
     let old : Nat := 5; let x : Swap := (s.swapOf old).getD ⟨0,0,0,0,0,0⟩; Awake s ∧ old < tileCount s.variant ∧
     s.swapOf old = some x ∧ x.step = 8) ∧
    (let s : State := { wm mRun [(K.ctxState 9, cFlowing), (K.ctxTile 9, 5), (K.graphNodeSource 9, 1)] with ctxs := [(9, .none_)], swaps := [⟨5, 7, 6, 1, 0, 0xFFFF⟩] };
     let t : Nat := 5; let old : Nat := 5; let x : Swap := (s.swapOf old).getD ⟨0,0,0,0,0,0⟩; s.held = false ∧
     old < tileCount s.variant ∧ s.swapOf old = some x ∧ x.step = 6 ∧ s.mode = mRun ∧
     (s.begin_ t).busesContended (s.tileCtxs old) = false) ∧
    (let s : State := wm mRun [(K.ctxSwapState 9, 5)]; let c : Nat := 9; Awake s ∧ c < 1024 ∧ s.obj (K.ctxSwapState c) = 5 ∧
     (s.ctx c).swapped = 0) ∧
    (let s : State := { wm mRun [] with moves := [⟨3, [1], 0, 1, false⟩] }; let j : Nat := 3;
     let m : Move := (s.moves.find? (fun x => x.piece == j)).getD ⟨3,[],0,0,false⟩; Awake s ∧ j < 256 ∧
     (s.moves.find? (fun x => x.piece == j) = some m) ∧ (m.step = 1 ∨ m.step = 2)) ∧
    (let s : State := { wm mRun [] with moves := [⟨3, [1], 0, 3, false⟩] }; let j : Nat := 3;
     let m : Move := (s.moves.find? (fun x => x.piece == j)).getD ⟨3,[],0,0,false⟩; Awake s ∧ j < 256 ∧
     (s.moves.find? (fun x => x.piece == j) = some m) ∧ m.step = 3) := by
  simp only [← accepts_eq, ← awake_eq]
  decide +kernel

/-- States and operands that meet the hypotheses of TilesAndPadsReact, clause by clause. -/
theorem witness_TilesAndPadsReact :
    (let s : State := { wm mRun [(K.tileStatus 3, 2), (K.ctxTile 9, 3), (K.ctxState 9, cFlowing), (K.graphNodeSource 9, 1), (K.graphNodePitch 9, 2), (K.graphNodeInput 9, 3), (K.graphNodeScan 9, 0xFFFF), (K.ctxHalf 9, 0)] with ctxs := [(9, { Ctx.none_ with cur := some ⟨7, 0, 0, 0, 0, 0, false, false, 0, false, false, 0⟩ })] };
     let n : Nat := 3; let half : Nat := 0; let c : Nat := (s.halfCtx n half).getD 0;
     let l : Cur := ((s.ctx c).cur).getD ⟨0,0,0,0,0,0,false,false,0,false,false,0⟩; let codes : List Int := [100]; s.held = false ∧
     n < tileCount s.variant ∧ half < 2 ∧ s.converts n = true ∧ codes.length = s.cores n ∧ s.obj (K.tileScanSlots n) ≤ 1 ∧
     s.formOf n ≠ 3 ∧ s.halfCtx n half = some c ∧ s.triggered c = true ∧ (s.ctx c).cur = some l ∧ l.stale = false ∧ l.empty = false ∧
     (let even := if s.adcMode n = 3 then n / 2 * 2 else n; heldWords (s.tile even).buf < 8192)) ∧
    (let s : State := pk w0 [(K.tileCdsBlackCount 3, 4)]|> fun s => { s with tiles := [(3, { Tile.none_ with blackN := 2, black := 100 })] };
     let n : Nat := 3; Awake s ∧ n < tileCount s.variant ∧ s.force (K.tileCdsBlackCount n) ≠ 0 ∧ (s.tile n).blackN ≠ 0) ∧
    (let s : State := w0; let n : Nat := 3; Awake s ∧ n < tileCount s.variant) ∧
    (let s : State := w0; let n : Nat := 3; s.held = false ∧ n < tileCount s.variant) ∧
    (let s : State := w0; let n : Nat := 3; Awake s ∧ n < tileCount s.variant ∧ s.padCtxs n = [] ∧ (s.tile n).contended = []) ∧
    (let s : State := pk w0 [(K.tilePadBus 3, 3)]; let n : Nat := 3; s.held = false ∧ n < tileCount s.variant ∧
     s.obj (K.tilePadBus n) = 3 ∧ s.padListed n = false) ∧
    (let s : State := w0; let k : Nat := 3; Awake s ∧ 32 * k < tileCount s.variant) ∧
    (let s : State := pk w0 [(K.testBusState 3, 3)]; let k : Nat := 3; Awake s ∧ 32 * k < tileCount s.variant ∧
     s.obj (K.testBusState k) = 3) ∧
    (let s : State := w0; let n : Nat := 3; let half : Nat := 0; let ps : List Nat := [4, 6]; s.held = false ∧
     n < tileCount s.variant ∧ half < 2 ∧ ((∀ p ∈ ps, p < tileCount s.variant))) ∧
    (let s : State := w0; let n : Nat := 3; let half : Nat := 1; let ps : List Nat := [4, 6]; s.held = false ∧
     n < tileCount s.variant ∧ half < 2 ∧ ((∀ p ∈ ps, p < tileCount s.variant))) := by
  simp only [← awake_eq]
  decide +kernel

/-- States and operands that meet the hypotheses of EnginesReadAndPrime, clause by clause. -/
theorem witness_EnginesReadAndPrime :
    (let s : State := { wm mRun [(K.feStatus 3, 2), (K.feSlotState 3 5, 1), (K.feSlotCtx 3 5, 9)] with feTurn := [(3, 2)], ctxs := [(9, { Ctx.none_ with raw := { RingSt.none_ with base := 4096, bytes := 65536, lines := 4, lineBytes := 128, recBase := 0, mask := 4294967295, first := some 1, latest := some 3, begun := true, recs := [⟨2, 5, 0, 0, 0, 128, 0⟩] } })], chains := [(53, { Chain.none_ with line := some 2, restart := false, off := 10 })] }|> fun s => [0, 2].foldl (fun s i => s.putByte (s.recAddr (s.ctx 9).raw 2 0 + (if i = 0 then 0 else 50)) (if i = 0 then 2 else 1)) s;
     let n : Nat := 3; let i : Nat := ((s.turnOrder n).find? s.slotReady).getD 0; s.held = false ∧ n < engineCount s.variant ∧
     isOn (s.obj (K.feStatus n)) = true ∧ s.clientRed (34 + n / 8) = false ∧ (s.turnOrder n).find? s.slotReady = some i) ∧
    (let s : State := { wm mRun [(K.feStatus 3, 2), (K.feSlotState 3 5, 1), (K.feSlotCtx 3 5, 9)] with feTurn := [(3, 2)], ctxs := [(9, { Ctx.none_ with raw := { RingSt.none_ with base := 4096, bytes := 65536, lines := 4, lineBytes := 128, recBase := 0, mask := 4294967295, first := some 1, latest := some 3, begun := true, recs := [⟨2, 5, 0, 0, 0, 128, 0⟩] } })], chains := [(53, { Chain.none_ with line := some 2, restart := false, off := 10 })] }|> fun s => [0, 2].foldl (fun s i => s.putByte (s.recAddr (s.ctx 9).raw 2 0 + (if i = 0 then 0 else 50)) (if i = 0 then 2 else 1)) s;
     let n : Nat := 3; let i : Nat := ((s.turnOrder n).find? s.slotReady).getD 0; s.held = false ∧ n < engineCount s.variant ∧
     isOn (s.obj (K.feStatus n)) = true ∧ s.clientRed (34 + n / 8) = false ∧ (s.turnOrder n).find? s.slotReady = some i ∧
     (let r := (s.ctx (s.slotCtx i)).raw; let x := s.chain i; let k := (x.line).getD 0; x.line = some k ∧ s.holdsLine r k = true ∧
     x.restart = false ∧ x.changeAt = none ∧ x.stepsDue = [] ∧ ((∀ j < 32, s.lineAddr r k (2 * (x.off + j)) % 2 = 0 ∧
     s.poisoned (s.lineAddr r k (2 * (x.off + j))) = false)) ∧ x.off + 32 < (s.recOf r k).length / 2)) ∧
    (let s : State := wm mRun [(K.feSlotState 3 5, 3), (K.feSlotState 3 7, 4), (K.feSlotState 3 9, 4)]; let n : Nat := 3;
     let j : Nat := 5; s.held = false ∧ n < engineCount s.variant ∧ j < 16 ∧ s.slotState (16 * n + j) = 3 ∧
     ((∀ m < 16, m ≠ j → s.slotState (16 * n + m) ≠ 3))) := by
  decide +kernel

/-- States and operands that meet the hypotheses of TileAndEngineObjectsAreWritten, clause by clause. -/
theorem witness_TileAndEngineObjectsAreWritten :
    (let s : State := wm mLoad []; let q : Req := { rq (K.feEnable 3) [1] with port := 0 };
     let l : Loc := lw s (onObject ({ rq (K.feEnable 3) [1] with port := 0 }) (K.feEnable 3)); let n : Nat := 3; s.safeAsk = 0 ∧
     n < 64 ∧ Accepts s (onObject q (K.feEnable n)) l) ∧
    (let s : State := wm mLoad []; let q : Req := rq (K.feSetCoef 9) (toLE 52 (7 + 32768 * 2 ^ 32));
     let l : Loc := lw s (onObject (rq (K.feSetCoef 9) (toLE 52 (7 + 32768 * 2 ^ 32))) (K.feSetCoef 9)); let n : Nat := 9;
     s.safeAsk = 0 ∧ n < 128 ∧ Accepts s (onObject q (K.feSetCoef n)) l) ∧
    (let s : State := wm mLoad []; let q : Req := { rq (K.tilePadTerm 3) [1] with port := 0 };
     let l : Loc := lw s (onObject ({ rq (K.tilePadTerm 3) [1] with port := 0 }) (K.tilePadTerm 3)); let n : Nat := 3; s.safeAsk = 0 ∧
     n < 256 ∧ Accepts s (onObject q (K.tilePadTerm n)) l) ∧
    (let s : State := wm mLoad []; let q : Req := { rq (K.tilePadTest 3) [1] with port := 0 };
     let l : Loc := lw s (onObject ({ rq (K.tilePadTest 3) [1] with port := 0 }) (K.tilePadTest 3)); let n : Nat := 3; s.safeAsk = 0 ∧
     n < 256 ∧ Accepts s (onObject q (K.tilePadTest n)) l) ∧
    (let s : State := wm mRun [(K.tilePadOverload 3, 1)]; let q : Req := { rq (K.tilePadClear 3) [1] with port := 0 };
     let l : Loc := lw s (onObject ({ rq (K.tilePadClear 3) [1] with port := 0 }) (K.tilePadClear 3)); let n : Nat := 3;
     s.safeAsk = 0 ∧ n < 256 ∧ Accepts s (onObject q (K.tilePadClear n)) l) ∧
    (let s : State := wm mRun [(K.tileBufFill 3, 1)]; let q : Req := { rq (K.tileBufPeakClear 3) [1] with port := 0 };
     let l : Loc := lw s (onObject ({ rq (K.tileBufPeakClear 3) [1] with port := 0 }) (K.tileBufPeakClear 3)); let n : Nat := 3;
     s.safeAsk = 0 ∧ n < 256 ∧ Accepts s (onObject q (K.tileBufPeakClear n)) l) := by
  simp only [← accepts_eq]
  decide +kernel

/-- States and operands that meet the hypotheses of StoreMapIsOneToOne, clause by clause. -/
theorem witness_StoreMapIsOneToOne :
    (let s : State := wm mRun []; let q : Req := rq K.storeMapMasks (toLE 36 7);
     let l : Loc := match (s.access q).checkObject q mayWrite true (fun _ => true) with | .ok l => l | _ => noLoc;
     let i : Nat := (badMask (ofLE q.body)).getD 0; s.safeAsk = 0 ∧ q.index = 0x5804 ∧ q.sub = 3 ∧ Admitted s q .write ∧
     ((s.access q).checkObject q mayWrite true (fun _ => true) = .ok l) ∧ q.body.length = 36 ∧ badMask (ofLE q.body) = some i) := by
  simp only [← admitted_eq, ← ok_eq]
  decide +kernel

/-- States and operands that meet the hypotheses of ArbitrationGrants, clause by clause. -/
theorem witness_ArbitrationGrants :
    (let s : State := { wm mRun [(K.arbLiberoN, 8)] with pcs := [(3, { Pc.idle with grants := 3, waits := [(20, 44), (18, 3)] })] };
     let p : Nat := 3; let ws : List Want := [⟨18, 500, .slotRead 3, 0⟩, ⟨20, 700, .laneRead 9, 0⟩, ⟨18, 300, .slotRead 2, 0⟩];
     let w : Want := ((s.choose p ws).getD (false, ⟨0,0,.service,0⟩)).2;
     let libero : Bool := ((s.choose p ws).getD (false, ⟨0,0,.service,0⟩)).1; p < 32 ∧
     ((∀ x ∈ ws, clientPresent s.variant x.client = true)) ∧ s.choose p ws = some (libero, w)) ∧
    (let s : State := wm mRun [(K.arbLiberoN, 1)]; let p : Nat := 3; let ws : List Want := [⟨44, 500, .service, 0⟩];
     let w : Want := ((s.choose p ws).getD (false, ⟨0,0,.service,0⟩)).2;
     let libero : Bool := ((s.choose p ws).getD (false, ⟨0,0,.service,0⟩)).1; p < 32 ∧
     ((∀ x ∈ ws, clientPresent s.variant x.client = true)) ∧ s.choose p ws = some (libero, w) ∧ Awake s ∧
     ((w.access = .service ∨ (∃ c, w.access = .slotRead c ∨ w.access = .laneRead c ∨ w.access = .cellRead c)))) ∧
    (let s : State := { wm mRun [] with ctxs := [(9, { Ctx.none_ with out := { { RingSt.none_ with base := 4096, bytes := 65536, lines := 4, lineBytes := 128, recBase := 0, mask := 4294967295, first := some 1, latest := some 3, begun := true, recs := [⟨2, 5, 0, 0, 0, 128, 0⟩] } with cur := 3, fill := 8 } })], tiles := [(5, { Tile.none_ with buf := (List.range 40).map (fun v => .word 9 false 3 2 v) })] };
     let p : Nat := pcOf s.masks (transferOf (s.lineAddr (s.ring 9 false) 3 8)); let ws : List Want := [⟨0, 500, .ingest 5, 0⟩];
     let w : Want := ((s.choose p ws).getD (false, ⟨0,0,.service,0⟩)).2;
     let libero : Bool := ((s.choose p ws).getD (false, ⟨0,0,.service,0⟩)).1; p < 32 ∧
     ((∀ x ∈ ws, clientPresent s.variant x.client = true)) ∧ s.choose p ws = some (libero, w) ∧ (let n : Nat := 5;
     let c : Nat := (match (s.tile n).buf with | .word c _ _ _ _ :: _ => c | _ => 0);
     let k : Nat := (match (s.tile n).buf with | .word _ _ l _ _ :: _ => l | _ => 0);
     let v : Nat := (match (s.tile n).buf with | .word _ _ _ _ v :: _ => v | _ => 0);
     let raw : Bool := (match (s.tile n).buf with | .word _ r _ _ _ :: _ => r | _ => false);
     let rest : List Item := (s.tile n).buf.tail; s.held = false ∧ w.access = .ingest n ∧ s.ingestWaits n = false ∧
     (s.tile n).buf = .word c raw k 2 v :: rest ∧ (s.ring c raw).begun = true ∧ (s.ring c raw).skip = false ∧ (let r := s.ring c raw;
     let room := 64 - (k % max 1 r.lines * r.lineBytes + r.fill) % 64; let g := gather c raw k room (s.tile n).buf;
     let a := s.lineAddr r k r.fill; g.1.length = room ∧ r.fill + room ≤ r.lineBytes ∧ endsLine c raw g.2 = false ∧
     pcOf s.masks (transferOf a) = p ∧ (s.pc p).wq.length < 64))) ∧
    (let s : State := wm mRun []; let p : Nat := 3;
     let ws : List Want := [⟨18, 500, .slotRead 3, 0⟩, ⟨20, 700, .laneRead 9, 0⟩, ⟨18, 300, .slotRead 2, 0⟩];
     let w : Want := ((s.choose p ws).getD (false, ⟨0,0,.service,0⟩)).2;
     let libero : Bool := ((s.choose p ws).getD (false, ⟨0,0,.service,0⟩)).1; p < 32 ∧
     ((∀ x ∈ ws, clientPresent s.variant x.client = true)) ∧ s.choose p ws = some (libero, w) ∧ Awake s) := by
  simp only [← awake_eq]
  repeat' apply And.intro
  all_goals first | decide +kernel | exact Or.inl (by decide +kernel)

/-- States and operands that meet the hypotheses of StoreObjectsAreWritten, clause by clause. -/
theorem witness_StoreObjectsAreWritten :
    (let s : State := wm mRun [(K.arbClientState 5, 1), (K.arbClientWaitMax 5, 77)];
     let q : Req := { rq (K.arbClientClear 5) [1] with port := 0 };
     let l : Loc := lw s (onObject ({ rq (K.arbClientClear 5) [1] with port := 0 }) (K.arbClientClear 5)); let i : Nat := 5;
     s.safeAsk = 0 ∧ i < 48 ∧ Accepts s (onObject q (K.arbClientClear i)) l) ∧
    (let s : State := wm mRun [(K.arbClientState 5, 1), (K.arbClientState 6, 1)];
     let q : Req := { rq (K.arbClearAll) [1] with port := 0 };
     let l : Loc := lw s (onObject ({ rq (K.arbClearAll) [1] with port := 0 }) (K.arbClearAll)); s.safeAsk = 0 ∧
     Accepts s (onObject q K.arbClearAll) l) ∧
    (let s : State := { wm mRun [] with pcs := [(3, { Pc.idle with grants := 5 })] };
     let q : Req := { rq (K.arbLiberoN) [9] with port := 0 };
     let l : Loc := lw s (onObject ({ rq (K.arbLiberoN) [9] with port := 0 }) (K.arbLiberoN)); s.safeAsk = 0 ∧
     Accepts s (onObject q K.arbLiberoN) l) ∧
    (let s : State := wm mRun [(K.arbSyncSlow, 3)]; let q : Req := { rq (K.arbSyncClear) [1] with port := 0 };
     let l : Loc := lw s (onObject ({ rq (K.arbSyncClear) [1] with port := 0 }) (K.arbSyncClear)); s.safeAsk = 0 ∧
     Accepts s (onObject q K.arbSyncClear) l) ∧
    (let s : State := wm mRun [(K.storePcDebtMax 5, 3)]; let q : Req := { rq (K.storePcClear 5) [1] with port := 0 };
     let l : Loc := lw s (onObject ({ rq (K.storePcClear 5) [1] with port := 0 }) (K.storePcClear 5)); let i : Nat := 5;
     s.safeAsk = 0 ∧ i < 32 ∧ Accepts s (onObject q (K.storePcClear i)) l) ∧
    (let s : State := { wm mRun [(K.ctxRingPolicyState 5, 1), (K.ctxState 5, cFlowing)] with ctxs := [(5, .none_)] };
     let q : Req := { rq (K.ctxRingResume 5) [1] with port := 0 };
     let l : Loc := lw s (onObject ({ rq (K.ctxRingResume 5) [1] with port := 0 }) (K.ctxRingResume 5)); let i : Nat := 5;
     s.safeAsk = 0 ∧ i < 1024 ∧ Accepts s (onObject q (K.ctxRingResume i)) l) ∧
    (let s : State := { wm mRun [] with cadenceBad := [0,1,2,3,4,5,6,7] }; s.held = false) := by
  simp only [← accepts_eq]
  decide +kernel

/-- States and operands that meet the hypotheses of RealTimeWaitsAreShown, clause by clause. -/
theorem witness_RealTimeWaitsAreShown :
    (let s : State := wm mRun []; let p : Nat := 3; Awake s ∧ p < 32) ∧
    (let s : State := wm mRun [(K.storePcRtWaitMax 5, 3)]; let q : Req := { rq (K.storePcClear 5) [1] with port := 0 };
     let l : Loc := lw s (onObject ({ rq (K.storePcClear 5) [1] with port := 0 }) (K.storePcClear 5)); let p : Nat := 5;
     s.safeAsk = 0 ∧ p < 32 ∧ Accepts s (onObject q (K.storePcClear p)) l) := by
  simp only [← accepts_eq, ← awake_eq]
  decide +kernel

/-- States and operands that meet the hypotheses of StoreDrainsAndRefreshes, clause by clause. -/
theorem witness_StoreDrainsAndRefreshes :
    (let s : State := { wm mRun [] with pcs := [(3, { Pc.idle with wq := [⟨9, false, 3, 4096, (List.replicate 64 7), true, 5⟩] })] };
     let p : Nat := 3; Awake s ∧ p < 32 ∧ (s.pc p).drain = .none ∧ (s.pc p).wq ≠ []) ∧
    (let s : State := { wm mRun [] with pcs := [(3, { Pc.idle with drain := .idle, wq := [⟨9, false, 3, 4096, (List.replicate 64 7), true, 5⟩, ⟨9, false, 3, 8192, (List.replicate 64 7), false, 5⟩, ⟨9, false, 3, 4160, (List.replicate 16 8), true, 5⟩] })], ctxs := [(9, { Ctx.none_ with out := { RingSt.none_ with base := 4096, bytes := 65536, lines := 4, lineBytes := 128, recBase := 0, mask := 4294967295, first := some 1, latest := some 3, begun := true, recs := [⟨2, 5, 0, 0, 0, 128, 0⟩] } })] };
     let p : Nat := 3; s.held = false ∧ p < 32) ∧
    (let s : State := { wm mRun [] with pcs := [(3, { Pc.idle with wq := [⟨9, false, 3, 4096, (List.replicate 64 7), true, 5⟩], drain := .idle })], ctxs := [(9, { Ctx.none_ with out := { { RingSt.none_ with base := 4096, bytes := 65536, lines := 4, lineBytes := 128, recBase := 0, mask := 4294967295, first := some 1, latest := some 3, begun := true, recs := [⟨2, 5, 0, 0, 0, 128, 0⟩] } with closing := [⟨3, 8, 0, 0, 2, 64, 0⟩] } })] };
     let p : Nat := 3; let lr : LineRec := ⟨3, 8, 0, 0, 2, 64, 0⟩; let e : WqEntry := (s.pc p).wq.headD ⟨0,false,0,0,[],false,0⟩;
     s.held = false ∧ p < 32 ∧ s.pcs = [(p, s.pc p)] ∧ (s.pc p).wq = [e] ∧ (s.pc p).drain = .idle ∧ e.line = lr.line ∧
     (s.ring e.ctx e.raw).closing = [lr]) ∧
    (let s : State := wm mRun [(K.storeRefreshPostpone, 9)]; let p : Nat := 3; Awake s ∧ p < 32 ∧
     (let debt := (s.pc p).debt + bankCount s.variant; debt < s.obj K.storeRefreshPostpone * bankCount s.variant)) ∧
    (let s : State := { wm mRun [(K.storeRefreshPostpone, 2), (K.storeRefreshAbEvent, 0)] with pcs := [(3, { Pc.idle with debt := 50 })] };
     let p : Nat := 3; Awake s ∧ p < 32 ∧ (let debt := (s.pc p).debt + bankCount s.variant;
     s.obj K.storeRefreshPostpone * bankCount s.variant ≤ debt)) ∧
    (let s : State := wm mRun []; s.held = false) ∧
    (let s : State := { wm mRun [] with ctxs := [(9, .none_)] }; let c : Nat := 9; Awake s ∧ c < 1024) := by
  simp only [← awake_eq]
  decide +kernel

/-- States and operands that meet the hypotheses of StoreErrorsAreHandled, clause by clause. -/
theorem witness_StoreErrorsAreHandled :
    (let s : State := { wm mRun [(K.storeRetiredCount, 0)] with retireQ := [(77, 3), (5, 4)] };
     let region : Nat := (s.retireQ.headD (0,0)).1; let p : Nat := (s.retireQ.headD (0,0)).2;
     let rest : List (Nat × Nat) := s.retireQ.tail; Awake s ∧ p < 32 ∧ s.retireQ = (region, p) :: rest ∧
     s.obj (K.arbClientState 47) ≠ 1) ∧
    (let s : State := wm mRun []; let p : Nat := 3; let ok : Bool := true; Awake s ∧ p < 32 ∧ (ok = true ∨ (s.pc p).retries < 2)) ∧
    (let s : State := { wm mRun [] with pcs := [(3, { Pc.idle with retries := 2 })] }; let p : Nat := 3; s.held = false ∧ p < 32 ∧
     2 ≤ (s.pc p).retries) ∧
    (let s : State := wm mRun []; s.held = false ∧ s.mode ≠ mStandby) ∧
    (let s : State := wm mRun []; Awake s ∧ s.mode ≠ mStandby ∧ s.corrections = [] ∧ s.shadowPoisoned = false) := by
  simp only [← awake_eq]
  decide +kernel

/-- States and operands that meet the hypotheses of CalibrationsRun, clause by clause. -/
theorem witness_CalibrationsRun :
    (let s : State := wm mRun [(K.tileStatus 5, 2)]; let q : Req := { rq K.calCommand [5,0,0,0] with port := 0 };
     let l : Loc := lw s (onObject (withBody ({ rq K.calCommand [5,0,0,0] with port := 0 }) (withKind 1 ({ rq K.calCommand [5,0,0,0] with port := 0 }).body)) K.calCommand);
     let kind : Nat := 1; let i : Instr := .calInternal q; s.safeAsk = 0 ∧ ((i = .calInternal q ∧ kind = 1) ∨ (i = .calDark q ∧
     kind = 2) ∨ (i = .calFlat q ∧ kind = 3)) ∧ (let w := onObject (withBody q (withKind kind q.body)) K.calCommand; Accepts s w l)) ∧
    (let s : State := wm mRun [(K.calState, 1)]; s.held = false ∧ s.obj K.calState = 1) ∧
    (let s : State := wm mRun [(K.calState, 1)]; Awake s ∧ s.obj K.calState = 1 ∧ s.calTiles = []) ∧
    (let s : State := { wm mRun [(K.calState, 1)] with tiles := [(5, { Tile.none_ with cal := { Cal.none_ with kind := 1 } }), (6, { Tile.none_ with cal := { Cal.none_ with kind := 1 } })] };
     s.held = false ∧ s.obj K.calState = 1 ∧ ((∀ n ∈ s.calTiles, n < 256 ∧ (s.tile n).cal.kind = 1 ∧ (s.tile n).cal.step = 0 ∧
     (s.tile n).cal.purpose = 0))) ∧
    (let s : State := { wm mRun [(K.calState, 1)] with tiles := [(5, { Tile.none_ with cal := { Cal.none_ with kind := 1, step := 2 } })] };
     let n : Nat := 5; Awake s ∧ n < tileCount s.variant ∧ s.adcMode n ≠ 3 ∧ (s.tile n).cal.kind = 1 ∧ (s.tile n).cal.step = 2) ∧
    (let s : State := { wm mRun [(K.tileStatus 5, 2), (K.calState, 3), (K.calRunning, 1)] with tiles := [(5, { Tile.none_ with cal := { Cal.none_ with kind := 1, step := 3, first := some (⟨[0,0,0,0,0,0,0,0,0,0], [0,0,0,0,0,0,0,0,0,0], List.replicate 16 0, [0,0], 0, [0, 0], some (0,0,0), [0,0], 0x30000000, 0x20000000⟩) } })] };
     let n : Nat := 5;
     let a : CalRun := ((s.tile n).cal.first).getD (⟨[0,0,0,0,0,0,0,0,0,0], [0,0,0,0,0,0,0,0,0,0], List.replicate 16 0, [0,0], 0, [0, 0], some (0,0,0), [0,0], 0x30000000, 0x20000000⟩);
     s.held = false ∧ n < tileCount s.variant ∧ s.adcMode n ≠ 3 ∧ (s.tile n).cal.kind = 1 ∧ (s.tile n).cal.step = 3 ∧
     (s.tile n).cal.first = some a ∧ (s.tile n).cal.purpose = 0 ∧ s.calTiles = [n] ∧ s.swaps = [] ∧ s.tileCtxs n = []) := by
  simp only [← accepts_eq, ← awake_eq]
  decide +kernel

/-- States and operands that meet the hypotheses of ScenesAreMeasured, clause by clause. -/
theorem witness_ScenesAreMeasured :
    (let s : State := { wm mRun [(K.calSceneReady, 1)] with tiles := [(5, { Tile.none_ with cal := { Cal.none_ with kind := 2, step := 2, run1 := [(0, 6, 2), (1, 8, 2)], sums := [(0, 600, 2), (1, 9, 2)], lines := [(9, 3)] } })] };
     let n : Nat := 5; Awake s ∧ n < tileCount s.variant ∧ s.adcMode n ≠ 3 ∧ 2 ≤ (s.tile n).cal.kind ∧ (s.tile n).cal.step = 2) ∧
    (let s : State := { wm mRun [(K.calSceneReady, 1)] with tiles := [(5, { Tile.none_ with cal := { Cal.none_ with kind := 2, step := 3, run1 := [(0, 6, 2), (1, 8, 2)], sums := [(0, 600, 2), (1, 9, 2)], lines := [(9, 3)] } })] };
     let n : Nat := 5; s.held = false ∧ n < tileCount s.variant ∧ s.adcMode n ≠ 3 ∧ 2 ≤ (s.tile n).cal.kind ∧
     (s.tile n).cal.step = 3 ∧ s.calTiles = [n]) ∧
    (let s : State := wm mRun []; let q : Req := { rq (K.tileSceneEnable 5) [1] with port := 0 };
     let l : Loc := lw s (onObject ({ rq (K.tileSceneEnable 5) [1] with port := 0 }) (K.tileSceneEnable 5)); let n : Nat := 5;
     s.safeAsk = 0 ∧ n < 256 ∧ (let w := onObject q (K.tileSceneEnable n); Accepts s w l)) := by
  simp only [← accepts_eq, ← awake_eq]
  decide +kernel

/-- States and operands that meet the hypotheses of LimitsAndEstimatorsFollow, clause by clause. -/
theorem witness_LimitsAndEstimatorsFollow :
    (let s : State := wm mRun []; let ppm : Int := (s.obj K.calInvarLimit : Int) + 1; Awake s ∧
     (let bad := decide (s.obj K.calInvarLimit < ppm.natAbs); bad = true ∧ s.invarBad < 2)) ∧
    (let s : State := wm mRun []; let ppm : Int := -(s.obj K.calInvarLimit : Int); Awake s ∧
     (let bad := decide (s.obj K.calInvarLimit < ppm.natAbs); bad = false ∧ s.invarGood < 2)) ∧
    (let s : State := { wm mRun [] with invarBad := 2 }; let ppm : Int := (s.obj K.calInvarLimit : Int) + 1; Awake s ∧
     (let bad := decide (s.obj K.calInvarLimit < ppm.natAbs); bad = true ∧ 2 ≤ s.invarBad ∧ s.obj K.calInvarState = 0 ∧
     s.calTiles = [] ∧ s.obj K.calState ≠ 1)) ∧
    (let s : State := { wm mRun [(K.calInvarState, 1)] with invarGood := 2 }; let ppm : Int := -3; Awake s ∧
     (let bad := decide (s.obj K.calInvarLimit < ppm.natAbs); bad = false ∧ 2 ≤ s.invarGood ∧ s.obj K.calInvarState = 1)) ∧
    (let s : State := wm mRun [(K.tileStatus 5, 2)]; let n : Nat := 5; Awake s ∧ n < tileCount s.variant ∧
     [mRun, mHold, mSafe].contains s.mode = true ∧ isOn (s.obj (K.tileStatus n)) = true ∧ (s.tile n).nCal = 0 ∧
     s.locked (quadOf n) = false) ∧
    (let s : State := { wm mRun [(K.tileStatus 5, 2), (K.timeSynStatus 0, 2), (K.tileFeForm 5, 1), (K.tileCdsBlackCount 5, 32)] with tiles := [(5, { Tile.none_ with nCal := 0x30000000, jAp := 0x2F000000, tCal := 300000 })] };
     let n : Nat := 5; s.held = false ∧ n < tileCount s.variant ∧ [mRun, mHold, mSafe].contains s.mode = true ∧
     isOn (s.obj (K.tileStatus n)) = true ∧ (s.tile n).nCal ≠ 0 ∧ (s.tile n).cal.step < 2 ∧ s.locked (quadOf n) = true) ∧
    (let s : State := { wm mRun [(K.tileIlvState 5, 1)] with tiles := [(5, { Tile.none_ with ilvWords := 100, ilvQuiet := 5 })] };
     let n : Nat := 5; let f : IlvFacts := ⟨70000, false, -5, 0x3F800001, 40000⟩; Awake s ∧ n < tileCount s.variant ∧
     (let x := s.tile n; s.obj (K.tileIlvState n) = 1 ∧ x.ilvWords + f.words < 2097152)) ∧
    (let s : State := { wm mRun [(K.tileIlvState 5, 1)] with tiles := [(5, { Tile.none_ with ilvWords := 2097000, ilvQuiet := 5 })] };
     let n : Nat := 5; let f : IlvFacts := ⟨70000, false, -5, 0x3F800001, 40000⟩; Awake s ∧ n < tileCount s.variant ∧
     (let x := s.tile n; s.obj (K.tileIlvState n) = 1 ∧ 2097152 ≤ x.ilvWords + f.words)) ∧
    (let s : State := { wm mRun [(K.tileIlvState 5, 2)] with tiles := [(5, { Tile.none_ with ilvWords := 100, ilvQuiet := 262000 })] };
     let n : Nat := 5; let f : IlvFacts := ⟨70000, true, -5, 0x3F800001, 40000⟩; Awake s ∧ n < tileCount s.variant ∧
     (let x := s.tile n; s.obj (K.tileIlvState n) = 2 ∧ f.quiet = true ∧ 262144 ≤ x.ilvQuiet + f.words)) ∧
    (let s : State := { wm mRun [(K.tileIlvState 5, 2)] with tiles := [(5, { Tile.none_ with ilvWords := 100, ilvQuiet := 5 })] };
     let n : Nat := 5; let f : IlvFacts := ⟨70000, false, -5, 0x3F800001, 40000⟩; Awake s ∧ n < tileCount s.variant ∧
     (let x := s.tile n; s.obj (K.tileIlvState n) = 2 ∧ f.quiet = false ∧ 65536 ≤ x.ilvWords + f.words)) ∧
    (let s : State := { wm mRun [(K.tileIlvState 5, 3)] with tiles := [(5, { Tile.none_ with ilvWords := 100, ilvQuiet := 5 })] };
     let n : Nat := 5; let f : IlvFacts := ⟨70000, false, -5, 0x3F800001, 40000⟩; Awake s ∧ n < tileCount s.variant ∧
     s.obj (K.tileIlvState n) = 3 ∧ f.quiet = false) ∧
    (let s : State := { wm mRun [(K.tileIlvState 5, 0)] with tiles := [(5, { Tile.none_ with ilvCal := (3, 4, -5) })] };
     let q : Req := { rq (K.tileIlvReset 5) [1] with port := 0 };
     let l : Loc := lw s (onObject ({ rq (K.tileIlvReset 5) [1] with port := 0 }) (K.tileIlvReset 5)); let n : Nat := 5;
     s.safeAsk = 0 ∧ n < 256 ∧ Accepts s (onObject q (K.tileIlvReset n)) l) := by
  simp only [← accepts_eq, ← awake_eq]
  decide +kernel

/-- States and operands that meet the hypotheses of MonitorsTripAndTilesFail, clause by clause. -/
theorem witness_MonitorsTripAndTilesFail :
    (let s : State := { wm mRun [(K.tileStatus 5, 2), (K.tileMonEnable 5 1, 1), (K.tileMonState 5 1, 1), (key (0x300C + 81) 8, 0x32)] with mons := [(11, { Mon.none_ with past := [true, false] })] };
     let t : Nat := 5; let n : Nat := 5; let i : Nat := 1; let v : Int × Int := (1000000000, 1000000000); let d : Bool := true;
     Awake s ∧ n < tileCount s.variant ∧ i < 2 ∧ (let a := s.begin_ t; let at_ := a.tickAt n i 0;
     let past := (d :: (s.mon (2 * n + i)).past).take 15; let b := monMajority (a.monValue n i 8 at_) past;
     let st := s.obj (K.tileMonState n i); a.decides n i 0 = true ∧
     monDecision (a.monValue n i 3 at_ == 1) (a.monValue n i 4 at_) (a.monValue n i 5 at_) (a.tapInput n (a.monValue n i 2 at_) v) (s.monNow n i) = some d ∧
     b = some true ∧ st % 4 ≠ 2)) ∧
    (let s : State := { wm mRun [(K.tileStatus 5, 2), (K.tileMonEnable 5 1, 1), (K.tileMonState 5 1, 2), (key (0x300C + 81) 8, 0x32)] with mons := [(11, { Mon.none_ with past := [false, false] })] };
     let t : Nat := 5; let n : Nat := 5; let i : Nat := 1; let v : Int × Int := (-1000000000, -1000000000); let d : Bool := false;
     Awake s ∧ n < tileCount s.variant ∧ i < 2 ∧ (let a := s.begin_ t; let at_ := a.tickAt n i 0;
     let past := (d :: (s.mon (2 * n + i)).past).take 15; let b := monMajority (a.monValue n i 8 at_) past;
     let st := s.obj (K.tileMonState n i); a.decides n i 0 = true ∧
     monDecision (a.monValue n i 3 at_ == 1) (a.monValue n i 4 at_) (a.monValue n i 5 at_) (a.tapInput n (a.monValue n i 2 at_) v) (s.monNow n i) = some d ∧
     b = some false ∧ st % 4 ≠ 1)) ∧
    (let s : State := { wm mRun [(K.tileStatus 5, 2), (K.tileMonEnable 5 1, 1), (K.tileMonState 5 1, 2), (key (0x300C + 81) 8, 0x32)] with mons := [(11, { Mon.none_ with past := [true, false] })] };
     let t : Nat := 5; let n : Nat := 5; let i : Nat := 1; let v : Int × Int := (1000000000, 1000000000); let d : Bool := true;
     Awake s ∧ n < tileCount s.variant ∧ i < 2 ∧ (let a := s.begin_ t; let at_ := a.tickAt n i 0;
     let past := (d :: (s.mon (2 * n + i)).past).take 15; let b := monMajority (a.monValue n i 8 at_) past; a.decides n i 0 = true ∧
     monDecision (a.monValue n i 3 at_ == 1) (a.monValue n i 4 at_) (a.monValue n i 5 at_) (a.tapInput n (a.monValue n i 2 at_) v) (s.monNow n i) = some d ∧
     (b = none ∨ b = s.monNow n i))) ∧
    (let s : State := wm mRun [(K.tileStatus 5, 2), (K.tileMonEnable 5 1, 1)]; let q : Req := rq (key (0x300C + 16 * 5 + 1) 1) [0];
     let l : Loc := lw s (onObject (rq (key (0x300C + 16 * 5 + 1) 1) [0]) (key (0x300C + 16 * 5 + 1) 1)); let n : Nat := 5;
     let i : Nat := 1; let sub : Nat := 1; s.safeAsk = 0 ∧ n < 256 ∧ i < 2 ∧ monitorSub sub = true ∧
     (let k := key (0x300C + 16 * n + i) sub; Accepts s (onObject q k) l)) ∧
    (let s : State := wm mRun [(K.tileStatus 5, 2)]; let n : Nat := 5; let bit : Nat := 3; s.held = false ∧ n < tileCount s.variant ∧
     bit < 8) := by
  simp only [← accepts_eq, ← awake_eq]
  decide +kernel

/-- States and operands that meet the hypotheses of OutputsStartStopAndProtect, clause by clause. -/
theorem witness_OutputsStartStopAndProtect :
    (let s : State := wm mRun []; let q : Req := { rq (K.dacEnable 5) [1] with port := 0 };
     let l : Loc := lw s (onObject ({ rq (K.dacEnable 5) [1] with port := 0 }) (K.dacEnable 5)); let n : Nat := 5; s.safeAsk = 0 ∧
     n < 32 ∧ (let w := onObject q (K.dacEnable n); Accepts s w l)) ∧
    (let s : State := wm mRun []; let q : Req := { rq (K.dacEnable 5) [1] with port := 0 };
     let l : Loc := lw s (onObject ({ rq (K.dacEnable 5) [1] with port := 0 }) (K.dacEnable 5)); let n : Nat := 5; s.safeAsk = 0 ∧
     n < 32 ∧ (let w := onObject q (K.dacEnable n); let v := ofLE q.body; Accepts s w l ∧ ((v ≠ 0 ∨ s.dacOn n = false)))) ∧
    (let s : State := wm mRun [(K.dacStatus 5, 2), (K.dacEnable 5, 1), (K.dacCode 5, 77), (K.dacSafeRamp 5, 9)];
     let q : Req := { rq (K.dacEnable 5) [0] with port := 0 };
     let l : Loc := lw s (onObject ({ rq (K.dacEnable 5) [0] with port := 0 }) (K.dacEnable 5)); let n : Nat := 5; s.safeAsk = 0 ∧
     n < 32 ∧ (let w := onObject q (K.dacEnable n); let v := ofLE q.body; Accepts s w l ∧ v = 0 ∧ s.dacOn n = true ∧
     s.holding n = false ∧ (s.dac n).move = none ∧ (s.dac n).moveWaits = false ∧ (s.dac n).slew = none ∧ s.obj (K.dacSafeRamp n) ≠ 0)) ∧
    (let s : State := { wm mRun [(K.dacStatus 5, 0x43), (K.dacSafeRamp 5, 0), (K.dacSafe 5, 99)] with dacs := [(5, { Dac.none_ with moveWaits := true })] };
     let n : Nat := 5; Awake s ∧ n < dacCount s.variant ∧ s.holding n = true ∧ (s.dac n).moveWaits = true) ∧
    (let s : State := wm mRun [(K.dacStatus 5, 0x42)]; let n : Nat := 5; Awake s ∧ n < dacCount s.variant ∧ s.holding n = true ∧
     (s.dac n).moveWaits = false ∧ (s.dac n).slew = none ∧ (s.dac n).waiting = none) ∧
    (let s : State := { wm mRun [(K.dacStatus 5, 0x42)] with dacs := [(5, { Dac.none_ with waiting := some (-77) })] };
     let n : Nat := 5; Awake s ∧ n < dacCount s.variant ∧ s.holding n = true ∧ (let c := ((s.dac n).waiting).getD 0;
     (s.dac n).moveWaits = false ∧ (s.dac n).slew = none ∧ (s.dac n).waiting = some c)) ∧
    (let s : State := { wm mRun [(K.dacStatus 5, 0x3), (K.dacSafe 5, 99)] with dacs := [(5, { Dac.none_ with move := some (3, 4) })] };
     let n : Nat := 5; Awake s ∧ n < dacCount s.variant ∧ (s.dac n).move.isSome = true) ∧
    (let s : State := wm mRun [(K.dacStatus 5, 2)]; let n : Nat := 5; Awake s ∧ n < dacCount s.variant ∧
     enState (s.obj (K.dacStatus n)) ≠ 0) ∧
    (let s : State := { wm mRun [(K.dacStatus 5, 2), (K.dacEnable 5, 1)] with dacs := [(5, { Dac.none_ with limitAt := some 1 })] };
     let t : Nat := 100000000000000; let n : Nat := 5; s.held = false ∧ n < dacCount s.variant ∧ enState (s.obj (K.dacStatus n)) ≠ 0 ∧
     (s.begin_ t).limitedLong n = true) ∧
    (let s : State := wm mRun [(K.dacStatus 5, 0x92), (K.dacFlags 5, 7)]; let q : Req := { rq (K.dacClear 5) [1] with port := 0 };
     let l : Loc := lw s (onObject ({ rq (K.dacClear 5) [1] with port := 0 }) (K.dacClear 5)); let n : Nat := 5; s.safeAsk = 0 ∧
     n < 32 ∧ Accepts s (onObject q (K.dacClear n)) l) := by
  simp only [← accepts_eq, ← awake_eq]
  decide +kernel

/-- States and operands that meet the hypotheses of StrobesTakeWords, clause by clause. -/
theorem witness_StrobesTakeWords :
    (let s : State := { wm mHold [(K.dacGroupSource 2, 0x1000)] with strobes := [(2, { Strobe.none_ with owed := 2, last := some 100 })] };
     let t : Nat := 500000000; let g : Nat := 2; s.held = false ∧ g < 4 ∧ s.strobesRun = true ∧ (s.begin_ t).strobeDue g = true ∧
     (let timed := strobeKind (s.obj (K.dacGroupSource g)) == 1;
     let near := (s.strobe g).last.any (fun z => decide (max s.clock t < z + 40 * perNs)); (timed = true ∨ near = false))) ∧
    (let s : State := { wm mHold [(K.dacGroupSource 2, 0x1000)] with strobes := [(2, { Strobe.none_ with owed := 3 })] };
     let t : Nat := 5; let g : Nat := 2; s.held = false ∧ g < 4 ∧ s.strobesRun = true ∧ (s.begin_ t).strobeDue g = true ∧
     (let timed := strobeKind (s.obj (K.dacGroupSource g)) == 1;
     let near := (s.strobe g).last.any (fun z => decide (max s.clock t < z + 40 * perNs)); (timed = true ∨ near = false) ∧
     s.safeAsk = 0 ∧ s.mode ≠ mRun ∧ max s.clock t < (s.strobe g).start + perMs)) ∧
    (let s : State := { wm mHold [(K.dacGroupSource 2, 0x2003)] with strobes := [(2, { Strobe.none_ with last := some 3, owed := 1 })] };
     let t : Nat := 5; let g : Nat := 2; s.held = false ∧ g < 4 ∧ s.strobesRun = true ∧ (s.begin_ t).strobeDue g = true ∧
     (let timed := strobeKind (s.obj (K.dacGroupSource g)) == 1;
     let near := (s.strobe g).last.any (fun z => decide (max s.clock t < z + 40 * perNs)); timed = false ∧ near = true ∧
     s.safeAsk = 0)) ∧
    (let s : State := { wm mRun [(K.dacGroupSource 2, 0x1000), (K.dacGroup 5, 2), (K.dacStatus 5, 2), (K.dacCtx 5, 9), (K.graphNodeSource 9, 2)] with strobes := [(2, { Strobe.none_ with owed := 0 })], dacs := [(5, { Dac.none_ with feed := [], fed := true })] };
     let t : Nat := 5; let g : Nat := 2; let n : Nat := 5; s.held = false ∧ g < 4 ∧ n < 32 ∧
     strobeKind (s.obj (K.dacGroupSource g)) = 1 ∧ s.mode = mRun ∧ (s.begin_ t).strobeDue g = true ∧
     (s.allDacs.filter (fun i => s.obj (K.dacGroup i) == g && s.dacOn i) = [n]) ∧ s.feedCtx n ≠ 0xFFFF ∧
     s.isWave (s.feedCtx n) = false ∧ (s.dac n).whole = false ∧ (s.dac n).feed = []) ∧
    (let s : State := { wm mRun [(K.dacGroupSource 2, 0x1000), (K.dacGroup 5, 2), (K.dacStatus 5, 2), (K.dacCtx 5, 9), (K.graphNodeSource 9, 2)] with strobes := [(2, { Strobe.none_ with owed := 0 })], dacs := [(5, { Dac.none_ with feed := [⟨0, false, some 100000⟩, ⟨0, true, some 5⟩], fed := true })] };
     let t : Nat := 5; let g : Nat := 2; let n : Nat := 5; s.held = false ∧ g < 4 ∧ n < 32 ∧
     strobeKind (s.obj (K.dacGroupSource g)) = 1 ∧ s.mode = mRun ∧ (s.begin_ t).strobeDue g = true ∧
     (s.allDacs.filter (fun i => s.obj (K.dacGroup i) == g && s.dacOn i) = [n]) ∧ s.feedCtx n ≠ 0xFFFF ∧
     s.isWave (s.feedCtx n) = false ∧ (s.dac n).whole = false ∧ (let due := (((s.dac n).feed.head?).map (·.due)).getD 0;
     let c := ((((s.dac n).feed.head?).map (·.code)).getD none).getD 0; let ws := (s.dac n).feed.tail;
     (s.dac n).feed = ⟨due, false, some c⟩ :: ws ∧ s.obj (K.dacSlewEnable n) = 0 ∧ s.holding n = false ∧ (s.dac n).slew = none ∧
     (s.dac n).move = none ∧ (s.dac n).moveWaits = false)) := by
  decide +kernel

/-- States and operands that meet the hypotheses of LanesFollowTheirLinks, clause by clause. -/
theorem witness_LanesFollowTheirLinks :
    (let s : State := wm mRun [(K.laneRole 4, 1), (K.laneStatus 4, 2)]; let n : Nat := 4; Awake s ∧ n < laneCount s.variant ∧
     s.ethernet n = true ∧ s.laneOn n = true ∧ s.obj (K.laneResume n) ≠ 1 ∧ s.obj (K.laneLink n) ≠ 3 ∧ (s.lane n).faults = false) ∧
    (let s : State := { wm mRun [(K.laneRole 4, 1), (K.laneStatus 4, 2), (K.laneLink 4, 4)] with lanes := [(4, { Lane.none_ with faults := true })] };
     let n : Nat := 4; Awake s ∧ n < laneCount s.variant ∧ s.ethernet n = true ∧ s.laneOn n = true ∧ s.obj (K.laneResume n) ≠ 1 ∧
     s.obj (K.laneLink n) = 4) ∧
    (let s : State := wm mRun [(K.laneRole 4, 1), (K.laneStatus 4, 2)]; let n : Nat := 4; s.held = false ∧ n < laneCount s.variant ∧
     s.laneOn n = true ∧ s.roleOfLane n ≠ 0 ∧ s.obj (K.laneLink n) ≠ 3) ∧
    (let s : State := wm mRun [(K.laneRole 4, 1), (K.laneStatus 4, 2), (K.laneLink 4, 3)]; let n : Nat := 4; s.held = false ∧
     n < laneCount s.variant ∧ s.obj (K.laneLink n) ≠ 0) ∧
    (let s : State := wm mRun [(K.laneRole 4, 1), (K.laneStatus 4, 2), (K.laneLink 4, 3)]; let n : Nat := 4; s.held = false ∧
     n < laneCount s.variant ∧ s.laneOn n = true ∧ s.ethernet n = true ∧ s.obj (K.laneLink n) ≠ 0) ∧
    (let s : State := wm mRun [(K.laneRole 4, 1), (K.laneStatus 4, 2), (K.laneLink 4, 3)]; let n : Nat := 4; Awake s ∧
     n < laneCount s.variant ∧ s.ethernet n = true ∧ s.laneOn n = true ∧ s.obj (K.laneLink n) = 3 ∧
     ((∀ c ∈ s.exporting n, (s.live_ c).off = 0))) ∧
    (let s : State := wm mRun [(K.laneRole 4, 1), (K.laneStatus 4, 2), (K.laneLink 4, 3)]; let n : Nat := 4; Awake s ∧
     n < laneCount s.variant ∧ s.ethernet n = true ∧ s.laneOn n = true ∧ s.obj (K.laneLink n) = 3 ∧
     ((∀ c ∈ s.exporting n, (s.live_ c).off = 0))) ∧
    (let s : State := wm mRun [(K.laneRole 4, 1), (K.laneStatus 4, 2), (K.laneLink 4, 3)]; let n : Nat := 4; Awake s ∧
     n < laneCount s.variant ∧ s.linkUp n = true) ∧
    (let s : State := wm mRun [(K.laneRole 4, 1), (K.laneStatus 4, 2), (K.laneLink 4, 3)]; let n : Nat := 4; Awake s ∧
     n < laneCount s.variant) ∧
    (let s : State := wm mRun [(K.laneRole 4, 1), (K.laneStatus 4, 2), (K.laneLink 4, 3)]; let n : Nat := 4; let quanta : Nat := 7;
     Awake s ∧ n < laneCount s.variant ∧ s.portUp (16 + n) = true ∧ quanta ≠ 0 ∧ s.obj (K.lanePauseHonour n) ≠ 0) ∧
    (let s : State := wm mRun [(K.laneRole 4, 1), (K.laneStatus 4, 2), (K.laneLink 4, 3), (K.lanePauseHonour 4, 0)]; let n : Nat := 4;
     Awake s ∧ n < laneCount s.variant ∧ s.portUp (16 + n) = true ∧ s.obj (K.lanePauseHonour n) = 0) ∧
    (let s : State := { wm mRun [(K.laneRole 4, 1), (K.laneStatus 4, 2), (K.laneLink 4, 3)] with lanes := [(4, { Lane.none_ with paused := some (3, 100000000) })] };
     let n : Nat := 4; Awake s ∧ n < laneCount s.variant ∧ (let since := (((s.lane n).paused).getD (0,0)).1;
     let till := (((s.lane n).paused).getD (0,0)).2; (s.lane n).paused = some (since, till) ∧ s.portUp (16 + n) = true ∧
     s.obj (K.lanePauseHonour n) ≠ 0)) ∧
    (let s : State := { wm mRun [(K.laneRole 4, 1), (K.laneStatus 4, 2), (K.laneLink 4, 3)] with lanes := [(4, { Lane.none_ with paused := some (3, 300000) })] };
     let t : Nat := 5*perUs; let n : Nat := 4; Awake s ∧ n < laneCount s.variant ∧ (let now := max s.clock t;
     let since := (((s.lane n).paused).getD (0,0)).1; let till := (((s.lane n).paused).getD (0,0)).2;
     (s.lane n).paused = some (since, till) ∧ till ≤ now)) ∧
    (let s : State := { wm mRun [(K.laneRole 4, 1), (K.laneStatus 4, 2), (K.laneHoldCause 4, 1), (K.laneFlowLimit 4, 3)] with lanes := [(4, { Lane.none_ with held := some 3 })] };
     let t : Nat := 5000*perUs; let n : Nat := 4; Awake s ∧ n < laneCount s.variant ∧ s.obj (K.laneHoldCause n) ≠ 0 ∧
     (s.lane n).told = false ∧ s.obj (K.laneFlowLimit n) ≤ (s.begin_ t).heldUs n) ∧
    (let s : State := wm mRun [(K.portsMgmtLink, 3)]; Awake s ∧ s.portUp 3 = true) ∧
    (let s : State := wm mRun [(K.portsMgmtLink, 3)]; Awake s ∧ s.portUp 3 = true) ∧
    (let s : State := wm mRun [(K.laneRole 4, 1), (K.laneStatus 4, 2), (K.laneLink 4, 3)]; let n : Nat := 4; Awake s ∧
     n < laneCount s.variant ∧ s.portUp (16 + n) = true) ∧
    (let s : State := wm mRun [(K.laneRole 4, 1), (K.laneStatus 4, 2), (K.laneLink 4, 3)]; let t : Nat := 5; let n : Nat := 4;
     Awake s ∧ n < laneCount s.variant ∧ s.portUp (16 + n) = true ∧
     ((s.lane n).integrity.all (fun z => decide (z + perMs ≤ max s.clock t)) = true)) ∧
    (let s : State := { wm mRun [(K.laneRole 4, 1), (K.laneStatus 4, 2), (K.laneLink 4, 3)] with lanes := [(4, { Lane.none_ with integrity := some 3 })] };
     let t : Nat := 5; let n : Nat := 4; Awake s ∧ n < laneCount s.variant ∧ s.portUp (16 + n) = true ∧
     ((s.lane n).integrity.any (fun z => decide (max s.clock t < z + perMs)) = true)) ∧
    (let s : State := wm mRun []; let mode : Nat := 1; let speed : Nat := 100; Awake s ∧ ((mode = 1 ∧
     (speed = 10 ∨ speed = 100 ∨ speed = 1000)) ∨ (mode = 2 ∧ speed = 1000)) ∧
     (s.obj K.portsMgmtMode = 0 ∨ s.obj K.portsMgmtMode = mode)) ∧
    (let s : State := wm mRun [(K.portsMgmtLink, 3)]; let mode : Nat := 1; let speed : Nat := 100; Awake s ∧ ((mode = 1 ∧
     (speed = 10 ∨ speed = 100 ∨ speed = 1000)) ∨ (mode = 2 ∧ speed = 1000)) ∧ s.obj K.portsMgmtLink = 3 ∧ s.obj K.timeSource ≠ 1) ∧
    (let s : State := wm mRun [(K.portsMgmtLink, 3), (K.timeSource, 1), (K.timeState, 1)]; let mode : Nat := 1;
     let speed : Nat := 100; Awake s ∧ ((mode = 1 ∧ (speed = 10 ∨ speed = 100 ∨ speed = 1000)) ∨ (mode = 2 ∧ speed = 1000)) ∧
     s.obj K.portsMgmtLink = 3 ∧ s.obj K.timeSource = 1) := by
  simp only [← awake_eq]
  repeat' apply And.intro
  all_goals decide +kernel

/-- States and operands that meet the hypotheses of LanesAnswerAndSend, clause by clause. -/
theorem witness_LanesAnswerAndSend :
    (let s : State := wm mRun [(K.laneRole 4, 1), (K.laneStatus 4, 2), (K.laneLink 4, 3), (K.laneIpv4 4, 0x0A000001)];
     let port : Nat := 20; let target : Nat := 0x0A000001; let v6 : Bool := false; s.held = false ∧ etherPort s.variant port = true ∧
     s.portUp port = true ∧ (let ip := if v6 then target else 0xFFFF * 2 ^ 80 + target % 2 ^ 32 * 2 ^ 96; s.ownAddress port ip = true)) ∧
    (let s : State := wm mRun [(K.laneRole 4, 1), (K.laneStatus 4, 2), (K.laneLink 4, 3)]; let port : Nat := 20;
     let data : List Byte := [1,2,3]; s.held = false ∧ etherPort s.variant port = true ∧ s.portUp port = true ∧ data.length ≤ 1472) ∧
    (let s : State := wm mRun [(K.laneRole 4, 1), (K.laneStatus 4, 2), (K.laneLink 4, 3), (K.laneDstState 4, 1)]; let n : Nat := 4;
     Awake s ∧ n < laneCount s.variant ∧ s.portUp (16 + n) = true ∧ (s.obj (K.laneDstState n) = 1 ∨ s.obj (K.laneDstState n) = 2)) ∧
    (let s : State := wm mRun [(K.laneRole 4, 1), (K.laneStatus 4, 2), (K.laneLink 4, 3), (K.laneDstState 4, 1)]; let n : Nat := 4;
     Awake s ∧ n < laneCount s.variant ∧ s.ethernet n = true ∧ s.linkUp n = true ∧ s.obj (K.laneDstState n) = 1) ∧
    (let s : State := wm mRun [(K.laneRole 4, 1), (K.laneStatus 4, 2), (K.laneLink 4, 3), (K.laneDstState 4, 2), (K.laneDstIp 4, 77)];
     let n : Nat := 4; Awake s ∧ n < laneCount s.variant ∧ s.ethernet n = true ∧ s.linkUp n = true ∧ s.obj (K.laneDstState n) = 2) ∧
    (let s : State := { wm mRun [(K.laneRole 4, 1), (K.laneStatus 4, 2), (K.laneLink 4, 3)] with lanes := [(4, { Lane.none_ with answers := [.frame 20 5 9 [1], .frame 20 5 9 [2]] })] };
     let n : Nat := 4; s.held = false ∧ n < laneCount s.variant ∧ s.laneSends n = true ∧ s.ethernet n = true ∧ s.linkUp n = true ∧
     (s.lane n).paused = none ∧ (let a := (s.lane n).answers.headD (.status 0 0); let rest := (s.lane n).answers.tail;
     (s.lane n).answers = a :: rest)) ∧
    (let s : State := { wm mRun [(K.laneRole 4, 1), (K.laneStatus 4, 2), (K.laneLink 4, 3), (K.laneDstState 4, 2), (K.laneDstIp 4, 0xFFFF * 2 ^ 80 + 0x0500000A * 2 ^ 96), (K.ctxLane 9, 4), (K.graphNodeDest 9, 1), (K.graphNodeSource 9, 1), (K.ctxState 9, cFlowing)] with ctxs := [(9, { Ctx.none_ with out := { { RingSt.none_ with base := 4096, bytes := 65536, lines := 4, lineBytes := 128, recBase := 0, mask := 4294967295, first := some 1, latest := some 3, begun := true, recs := [⟨2, 5, 0, 0, 0, 128, 0⟩] } with readers := [⟨.lane, 4, 2⟩], recs := [⟨2, 5, 0, 0, 0, 128, 0⟩] } })], exports := [] }|> fun s => s.putByte (s.recAddr (s.ctx 9).out 2 0) 2;
     let n : Nat := 4; s.held = false ∧ n < laneCount s.variant ∧ s.laneSends n = true ∧ s.ethernet n = true ∧ s.linkUp n = true ∧
     (s.lane n).paused = none ∧ (let c := (nextInRound (s.lane n).served ((s.exporting n).filter s.liveReady)).getD 0;
     (s.lane n).answers = [] ∧ s.holdCause n = 0 ∧ s.clientRed (18 + n) = false ∧ s.exports_ = true ∧
     nextInRound (s.lane n).served ((s.exporting n).filter s.liveReady) = some c ∧ (s.live_ c).moveAt = none ∧
     (let r := s.ring c false; let k := s.nextLine r (s.exportNext c .lane); let x := s.live_ c;
     let off := if x.line = k then x.off else 0; let lr := s.recOf r k;
     let m := min (payloadLimit (isV4 (s.obj (K.laneDstIp n))) (formatWidth (s.formatOf c))) (lr.length - off);
     s.packetPoisoned r k off m = false))) := by
  simp only [← awake_eq]
  decide +kernel

/-- States and operands that meet the hypotheses of LaneObjectsAreWritten, clause by clause. -/
theorem witness_LaneObjectsAreWritten :
    (let s : State := wm mLoad []; let q : Req := { rq (K.laneEnable 4) [1] with port := 0 };
     let l : Loc := lw s (onObject ({ rq (K.laneEnable 4) [1] with port := 0 }) (K.laneEnable 4)); let n : Nat := 4; s.safeAsk = 0 ∧
     n < 16 ∧ Accepts s (onObject q (K.laneEnable n)) l ∧ s.roleOfLane n = 0) ∧
    (let s : State := wm mRun [(K.laneRole 4, 1), (K.laneStatus 4, 0)]; let q : Req := { rq (K.laneEnable 4) [1] with port := 0 };
     let l : Loc := lw s (onObject ({ rq (K.laneEnable 4) [1] with port := 0 }) (K.laneEnable 4)); let n : Nat := 4; s.safeAsk = 0 ∧
     n < 16 ∧ Accepts s (onObject q (K.laneEnable n)) l ∧ s.roleOfLane n ≠ 0) ∧
    (let s : State := wm mRun [(K.laneRole 4, 1), (K.laneStatus 4, 0)]; let q : Req := { rq (K.laneEnable 4) [1] with port := 0 };
     let l : Loc := lw s (onObject ({ rq (K.laneEnable 4) [1] with port := 0 }) (K.laneEnable 4)); let n : Nat := 4; s.safeAsk = 0 ∧
     n < 16 ∧ Accepts s (onObject q (K.laneEnable n)) l ∧ s.roleOfLane n ≠ 0 ∧
     ((s.laneOn n = false ∨ ofLE q.body = 1 ∨ (s.ethernet n = true ∧ s.exporting n = [] ∧ s.replays = [])))) ∧
    (let s : State := wm mLoad [(K.laneTxFrames 4, 9)]; let q : Req := { rq (K.laneClear 4) [1] with port := 0 };
     let l : Loc := lw s (onObject ({ rq (K.laneClear 4) [1] with port := 0 }) (K.laneClear 4)); let n : Nat := 4; s.safeAsk = 0 ∧
     n < 16 ∧ Accepts s (onObject q (K.laneClear n)) l) ∧
    (let s : State := wm mLoad [(K.portsMgmtTxFrames, 9)]; let q : Req := { rq (K.portsMgmtClear) [1] with port := 0 };
     let l : Loc := lw s (onObject ({ rq (K.portsMgmtClear) [1] with port := 0 }) (K.portsMgmtClear)); s.safeAsk = 0 ∧
     Accepts s (onObject q K.portsMgmtClear) l) := by
  simp only [← accepts_eq]
  decide +kernel

/-- States and operands that meet the hypotheses of BackstopIsLoadedAndClocked, clause by clause. -/
theorem witness_BackstopIsLoadedAndClocked :
    (let s : State := { wm mRun [] with bs := { Array256.reset with live := true, banks := [{ Bank.factory with whistles := [0xFF, 5, 0xFF, 0xFF] }, .factory], rose := 32 } };
     let t : Nat := 20*perUs; let j : Nat := 1; s.held = false ∧ j < 4 ∧ s.bank.whistles.getD j 0xFF ≠ 0xFF ∧
     s.bs.rose.testBit (s.bank.whistles.getD j 0xFF) = true ∧
     (let free := (s.bs.whistled.getD j none).all (fun z => decide (z + 10 * perUs ≤ max s.clock t)); free = true)) ∧
    (let s : State := { wm mRun [] with bs := { Array256.reset with live := true, banks := [{ Bank.factory with whistles := [0xFF, 5, 0xFF, 0xFF] }, .factory], rose := 32 } };
     let t : Nat := 5; let j : Nat := 1; s.held = false ∧ j < 4 ∧ s.bank.whistles.getD j 0xFF ≠ 0xFF ∧
     s.bs.rose.testBit (s.bank.whistles.getD j 0xFF) = true ∧
     (let free := (s.bs.whistled.getD j none).all (fun z => decide (z + 10 * perUs ≤ max s.clock t)); free = true ∧ s.safeAsk = 0 ∧
     s.rallyState = rStandalone)) ∧
    (let s : State := { wm mRun [] with bs := { Array256.reset with live := true, banks := [{ Bank.factory with whistles := [0xFF, 5, 0xFF, 0xFF] }, .factory], rose := 32, whistled := [none, some 3, none, none] } };
     let t : Nat := 5; let j : Nat := 1; s.held = false ∧ j < 4 ∧ s.bank.whistles.getD j 0xFF ≠ 0xFF ∧
     s.bs.rose.testBit (s.bank.whistles.getD j 0xFF) = true ∧
     (let free := (s.bs.whistled.getD j none).all (fun z => decide (z + 10 * perUs ≤ max s.clock t)); free = false ∧ s.safeAsk = 0)) ∧
    (let s : State := { wm mRun [(K.backstopState, 1)] with bs := { Array256.reset with live := true, banks := [{ Bank.factory with whistles := [0xFF, 5, 0xFF, 0xFF] }, .factory] } };
     let ok : Bool := true; s.held = false ∧ s.obj K.backstopState = 1 ∧ s.bs.banks.length = 2 ∧ s.obj K.backstopRunningBank < 2 ∧
     ok = true ∧ s.bs.live = true) ∧
    (let s : State := { wm mRun [(K.backstopState, 1)] with bs := { Array256.reset with live := true, banks := [{ Bank.factory with whistles := [0xFF, 5, 0xFF, 0xFF] }, .factory] } };
     let ok : Bool := true; s.held = false ∧ s.obj K.backstopState = 1 ∧ s.bs.banks.length = 2 ∧ s.obj K.backstopRunningBank < 2 ∧
     ok = true ∧ s.bs.live = true ∧ s.safeAsk = 0 ∧ s.transfers = []) ∧
    (let s : State := { wm mRun [(K.backstopState, 1)] with bs := { Array256.reset with live := true, banks := [{ Bank.factory with whistles := [0xFF, 5, 0xFF, 0xFF] }, .factory] } };
     let ok : Bool := false; s.held = false ∧ s.obj K.backstopState = 1 ∧ s.bs.banks.length = 2 ∧ s.obj K.backstopRunningBank < 2 ∧
     ok = false) ∧
    (let s : State := { wm mRun [(K.backstopState, 1)] with bs := { Array256.reset with live := true, banks := [{ Bank.factory with whistles := [0xFF, 5, 0xFF, 0xFF] }, .factory] } };
     let ok : Bool := false; s.held = false ∧ s.obj K.backstopState = 1 ∧ s.bs.banks.length = 2 ∧ s.obj K.backstopRunningBank < 2 ∧
     ok = false ∧ s.safeAsk = 0 ∧ s.transfers = []) ∧
    (let s : State := { wm mLoad [] with bs := { Array256.reset with live := true, banks := [{ Bank.factory with whistles := [0xFF, 5, 0xFF, 0xFF] }, .factory] } };
     let q : Req := { rq (K.backstopActivate) [1] with port := 0 };
     let l : Loc := lw s (onObject ({ rq (K.backstopActivate) [1] with port := 0 }) (K.backstopActivate)); s.safeAsk = 0 ∧
     Accepts s (onObject q K.backstopActivate) l) ∧
    (let s : State := { wm mRun [] with bs := { Array256.reset with live := false } }; s.held = false ∧ s.bs.live = false ∧
     s.boot.live = true ∧ s.obj K.backstopState = 0 ∧ (let p := s.obj K.backstopBank; let b := s.bs.banks.getD p .erased;
     b.good = true)) ∧
    (let s : State := { wm mRun [] with bs := { Array256.reset with live := false, banks := [.erased, .factory] } }; s.held = false ∧
     s.bs.live = false ∧ s.boot.live = true ∧ s.obj K.backstopState = 0 ∧ (let p := s.obj K.backstopBank;
     let b := s.bs.banks.getD p .erased; let other := s.bs.banks.getD (1 - p) .erased; b.good = false ∧ other.good = true)) ∧
    (let s : State := { wm mRun [] with bs := { Array256.reset with live := false, banks := [.erased, .erased] } }; s.held = false ∧
     s.bs.live = false ∧ s.boot.live = true ∧ s.obj K.backstopState = 0 ∧ (let p := s.obj K.backstopBank;
     let b := s.bs.banks.getD p .erased; let other := s.bs.banks.getD (1 - p) .erased; b.good = false ∧ other.good = false)) ∧
    (let s : State := { wm mRun [] with bs := { Array256.reset with live := true, banks := [{ Bank.factory with whistles := [0xFF, 5, 0xFF, 0xFF] }, .factory] } };
     Awake s ∧ s.bs.live = true) ∧
    (let s : State := { wm mRun [] with bs := { Array256.reset with live := true, banks := [{ Bank.factory with cells := [⟨5, [[⟨0x003, true, false⟩]], 1, false, 0, none, none, none⟩] }, .factory] } }|> fun s => { s with pinLevels := 255 };
     Awake s) := by
  simp only [← accepts_eq, ← awake_eq]
  repeat' apply And.intro
  all_goals decide +kernel

/-- States and operands that meet the hypotheses of FabricAndProbesRun, clause by clause. -/
theorem witness_FabricAndProbesRun :
    (let s : State := w0; let w : Nat := 9; [1, 2, 4, 9, 18, 36, 72].contains w = true) ∧
    (let s : State := w0; let m : Multiplier := { (default : Multiplier) with sumReg := true }; m.sumReg = true ∧ m.inputReg = false ∧
     m.productReg = false ∧ m.cascade = false) ∧
    (let s : State := wm mRun []; let q : Req := { rq (K.probeArm) [1] with port := 0 };
     let l : Loc := lw s (onObject ({ rq (K.probeArm) [1] with port := 0 }) (K.probeArm)); s.safeAsk = 0 ∧
     Accepts s (onObject q K.probeArm) l) ∧
    (let s : State := { wm mRun [(K.probeState, 1)] with samples := [1,2] }; s.safeAsk = 0 ∧ s.held = false ∧ s.obj K.probeState = 1) ∧
    (let s : State := { wm mRun [(K.probeState, 2)] with samples := [] }; s.safeAsk = 0 ∧ s.held = false ∧ s.obj K.probeState = 2 ∧
     s.shareTaken = true) ∧
    (let s : State := { wm mRun [(K.configSectorState 0, 2), (K.graphPiecePorts 3, 2), (K.graphPiecePlacedSector 3, 0), (K.graphNodeSource 9, 2), (K.graphNodeInput 9, 0x0300), (K.ctxPiece 9, 0x300), (K.ctxTile 9, 0xFFFF), (K.ctxEngine 9, 0xFFFF), (K.fabricSectorPortRoles 0, 2 * 2 ^ 80)] with frames := [(3, 0, [5], 10)], plan := { Plan.none_ with pieces := [(3, 0, [5], 10)] }, ctxs := [(9, { Ctx.none_ with cur := some ⟨7, 0, 0, 0, 0, 0, false, false, 0, false, false, 0⟩ })] };
     let q : Nat := 0; let k : Nat := 10;
     let f : Placed := ((s.liveCells.find? (fun e => e.1.2.1 == q && e.2.cell == k)).getD ((3,0,[],0),⟨0,0,0,0,0⟩)).1;
     let x : CellUse := ((s.liveCells.find? (fun e => e.1.2.1 == q && e.2.cell == k)).getD ((3,0,[],0),⟨0,0,0,0,0⟩)).2; Awake s ∧
     q < quadCount s.variant ∧ k < 256 ∧ (s.liveCells.find? (fun e => e.1.2.1 == q && e.2.cell == k) = some (f, x)) ∧
     s.cellMode q k ≠ 1 ∧ s.cellMode q k ≠ 2) ∧
    (let s : State := { wm mRun [(K.configSectorState 0, 2), (K.graphPiecePorts 3, 2), (K.graphPiecePlacedSector 3, 0), (K.graphNodeSource 9, 2), (K.graphNodeInput 9, 0x0300), (K.ctxPiece 9, 0x300), (K.ctxTile 9, 0xFFFF), (K.ctxEngine 9, 0xFFFF), (K.fabricSectorPortRoles 0, 7 * 2 ^ 80), (K.graphPieceInputs 3, 8 + 65536 * (2 ^ 2032 - 1)), (K.graphNodeSource 8, 1), (K.graphNodeChain 8, 0x80 * 2 ^ 64)] with frames := [(3, 0, [5], 10)], plan := { Plan.none_ with pieces := [(3, 0, [5], 10)] }, ctxs := [(9, { Ctx.none_ with cur := some ⟨7, 0, 0, 0, 0, 0, false, false, 0, false, false, 0⟩ })], coarse := [⟨8, 0, 1, 2⟩, ⟨9, 0, 1, 2⟩, ⟨8, 1, 1, 2⟩] };
     let q : Nat := 0; let k : Nat := 10;
     let f : Placed := ((s.liveCells.find? (fun e => e.1.2.1 == q && e.2.cell == k)).getD ((3,0,[],0),⟨0,0,0,0,0⟩)).1;
     let x : CellUse := ((s.liveCells.find? (fun e => e.1.2.1 == q && e.2.cell == k)).getD ((3,0,[],0),⟨0,0,0,0,0⟩)).2; Awake s ∧
     q < quadCount s.variant ∧ k < 256 ∧ (s.liveCells.find? (fun e => e.1.2.1 == q && e.2.cell == k) = some (f, x)) ∧
     (let unit := s.cellUnit f; let v := (s.coarse.find? (fun e => e.ctx == x.ctx)).getD ⟨0,0,0,0⟩; s.cellMode q k = 1 ∧ x.role = 3 ∧
     unit < 256 ∧ (s.coarse.find? (fun e => e.ctx == x.ctx) = some v) ∧ (s.fab unit).iq.contains x.ctx = false)) ∧
    (let s : State := { wm mRun [(K.configSectorState 0, 2), (K.graphPiecePorts 3, 2), (K.graphPiecePlacedSector 3, 0), (K.graphNodeSource 9, 2), (K.graphNodeInput 9, 0x0300), (K.ctxPiece 9, 0x300), (K.ctxTile 9, 0xFFFF), (K.ctxEngine 9, 0xFFFF), (K.fabricSectorPortRoles 0, 7 * 2 ^ 80), (K.graphPieceInputs 3, 8 + 65536 * (2 ^ 2032 - 1)), (K.graphNodeSource 8, 1), (K.graphNodeChain 8, 0x80 * 2 ^ 64)] with frames := [(3, 0, [5], 10)], plan := { Plan.none_ with pieces := [(3, 0, [5], 10)] }, ctxs := [(9, { Ctx.none_ with cur := some ⟨7, 0, 0, 0, 0, 0, false, false, 0, false, false, 0⟩ })], coarse := [⟨8, 0, 1, 2⟩, ⟨9, 0, 1, 2⟩, ⟨8, 1, 1, 2⟩], fabs := [(3, { Fab.none_ with iq := [8] })] };
     let q : Nat := 0; let k : Nat := 10;
     let f : Placed := ((s.liveCells.find? (fun e => e.1.2.1 == q && e.2.cell == k)).getD ((3,0,[],0),⟨0,0,0,0,0⟩)).1;
     let x : CellUse := ((s.liveCells.find? (fun e => e.1.2.1 == q && e.2.cell == k)).getD ((3,0,[],0),⟨0,0,0,0,0⟩)).2; Awake s ∧
     q < quadCount s.variant ∧ k < 256 ∧ (s.liveCells.find? (fun e => e.1.2.1 == q && e.2.cell == k) = some (f, x)) ∧
     (let unit := s.cellUnit f; let v := (s.coarse.find? (fun e => e.ctx == x.ctx)).getD ⟨0,0,0,0⟩; s.cellMode q k = 1 ∧ x.role = 3 ∧
     unit < 256 ∧ (s.coarse.find? (fun e => e.ctx == x.ctx) = some v) ∧ (s.fab unit).iq.contains x.ctx = true)) ∧
    (let s : State := { wm mRun [(K.configSectorState 0, 2), (K.graphPiecePorts 3, 2), (K.graphPiecePlacedSector 3, 0), (K.graphNodeSource 9, 2), (K.graphNodeInput 9, 0x0300), (K.ctxPiece 9, 0x300), (K.ctxTile 9, 0xFFFF), (K.ctxEngine 9, 0xFFFF), (K.fabricSectorPortRoles 0, 5 * 2 ^ 80), (K.graphPieceInputs 3, 8 + 65536 * (2 ^ 2032 - 1))] with frames := [(3, 0, [5], 10)], plan := { Plan.none_ with pieces := [(3, 0, [5], 10)] }, ctxs := [(9, { Ctx.none_ with cur := some ⟨7, 0, 0, 0, 0, 0, false, false, 0, false, false, 0⟩ }), (8, { Ctx.none_ with out := { RingSt.none_ with base := 4096, bytes := 65536, lines := 4, lineBytes := 128, recBase := 0, mask := 4294967295, first := some 1, latest := some 3, begun := true, recs := [⟨2, 5, 0, 0, 0, 128, 0⟩] } })], fabs := [(3, { Fab.none_ with reads := [(8, 2, 12)] })] }|> fun s => s.putByte (s.recAddr (s.ctx 8).out 2 0) 2;
     let q : Nat := 0; let k : Nat := 10;
     let f : Placed := ((s.liveCells.find? (fun e => e.1.2.1 == q && e.2.cell == k)).getD ((3,0,[],0),⟨0,0,0,0,0⟩)).1;
     let x : CellUse := ((s.liveCells.find? (fun e => e.1.2.1 == q && e.2.cell == k)).getD ((3,0,[],0),⟨0,0,0,0,0⟩)).2; Awake s ∧
     q < quadCount s.variant ∧ k < 256 ∧ (s.liveCells.find? (fun e => e.1.2.1 == q && e.2.cell == k) = some (f, x)) ∧
     (let unit := s.cellUnit f; let line := ((s.lineHand unit x.ctx).getD (0,0,0)).2.1;
     let off := ((s.lineHand unit x.ctx).getD (0,0,0)).2.2; s.cellMode q k = 1 ∧ x.role = 1 ∧ s.clientRed (42 + q) = false ∧
     s.lineHand unit x.ctx = some (x.ctx, line, off) ∧ off / 4 % x.run = x.place)) ∧
    (let s : State := { wm mRun [(K.configSectorState 0, 2), (K.graphPiecePorts 3, 2), (K.graphPiecePlacedSector 3, 0), (K.graphNodeSource 9, 2), (K.graphNodeInput 9, 0x0300), (K.ctxPiece 9, 0x300), (K.ctxTile 9, 0xFFFF), (K.ctxEngine 9, 0xFFFF), (K.fabricSectorPortRoles 0, 10 * 2 ^ 80)] with frames := [(3, 0, [5], 10)], plan := { Plan.none_ with pieces := [(3, 0, [5], 10)] }, ctxs := [(9, { Ctx.none_ with cur := some ⟨7, 0, 0, 0, 0, 0, false, false, 0, false, false, 0⟩ })], fabs := [(3, { Fab.none_ with writes := [9] })], nets := [(0, { Net.none_ with cells := [(10, 0)] })] };
     let q : Nat := 0; let k : Nat := 10;
     let f : Placed := ((s.liveCells.find? (fun e => e.1.2.1 == q && e.2.cell == k)).getD ((3,0,[],0),⟨0,0,0,0,0⟩)).1;
     let x : CellUse := ((s.liveCells.find? (fun e => e.1.2.1 == q && e.2.cell == k)).getD ((3,0,[],0),⟨0,0,0,0,0⟩)).2; Awake s ∧
     q < quadCount s.variant ∧ k < 256 ∧ (s.liveCells.find? (fun e => e.1.2.1 == q && e.2.cell == k) = some (f, x)) ∧
     (let unit := s.cellUnit f; let line := ((s.ctx x.ctx).cur).getD ⟨0,0,0,0,0,0,false,false,0,false,false,0⟩; s.cellMode q k = 2 ∧
     x.role = 2 ∧ unit < 256 ∧ (s.fab f.1).writes.contains x.ctx = true ∧ (s.ctx x.ctx).cur = some line ∧ line.empty = false ∧
     s.obj (K.ctxTile x.ctx) = 0xFFFF)) ∧
    (let s : State := { wm mRun [(K.configSectorState 2, 2)] with wires := ⟨0, 0, 0, 0, 0⟩ }; let q : Nat := 2; let i : Nat := 5;
     s.held = false ∧ q < quadCount s.variant ∧ s.sectorRuns q = true ∧ i < 64 ∧ s.safeAsk = 0) ∧
    (let s : State := { wm mRun [(K.configSectorState 2, 2)] with wires := ⟨0, 0, 0, 0, 0⟩ }; let q : Nat := 2; let i : Nat := 5;
     s.held = false ∧ q < quadCount s.variant ∧ s.sectorRuns q = true ∧ i < 16) ∧
    (let s : State := { wm mRun [(K.configSectorState 2, 2)] with wires := ⟨0, 0, 0, 0, 0⟩ }; let q : Nat := 2; let i : Nat := 5;
     s.held = false ∧ q < quadCount s.variant ∧ s.sectorRuns q = true ∧ i < 16) ∧
    (let s : State := { wm mRun [(K.configSectorState 2, 2)] with wires := ⟨0, 0, 0, 0, 0⟩ }; let q : Nat := 2; let i : Nat := 5;
     s.held = false ∧ q < quadCount s.variant ∧ s.sectorRuns q = true ∧ i < 32 ∧ s.safeAsk = 0) ∧
    (let s : State := { wm mRun [(K.configSectorState 2, 2)] with wires := ⟨0, 0, 0, 0, 0⟩ }; let q : Nat := 2; let i : Nat := 5;
     s.held = false ∧ q < quadCount s.variant ∧ s.sectorRuns q = true ∧ i < 32 ∧ s.safeAsk = 0) ∧
    (let s : State := wm mRun [(K.fabricPaceQuadrant 3, 1), (K.timeSynStatus 1, 2), (K.probePace, 3), (K.probeState, 1), (K.probeDepth, 2048), (K.probeNet 0, 5), (K.probeNet 2, 6), (K.probeNet 3, 0xA05), (K.probeNet 5, 0x405)];
     let i : Nat := 3; s.held = false ∧ i < 8 ∧ s.paceOn i = true ∧ s.obj K.probePace = i ∧ s.obj K.probeState = 1) ∧
    (let s : State := wm mRun [(K.fabricPaceQuadrant 3, 1), (K.timeSynStatus 1, 2), (K.probePace, 4)]; let i : Nat := 3;
     s.held = false ∧ i < 8 ∧ s.paceOn i = true ∧ s.obj K.probePace ≠ i) ∧
    (let s : State := wm mRun [(K.fabricPaceQuadrant 3, 1), (K.timeSynStatus 1, 2), (K.probePace, 4)]; let i : Nat := 3;
     s.held = false ∧ i < 8 ∧ s.paceOn i = true ∧ s.obj K.probePace ≠ i ∧ s.logicSectors = [] ∧ s.safeAsk = 0) ∧
    (let s : State := { wm mRun [(K.configSectorState 0, 2), (K.graphPiecePorts 3, 1), (K.graphPiecePlacedSector 3, 0), (K.graphNodeSource 9, 2), (K.graphNodeInput 9, 0x0300), (K.ctxPiece 9, 0x300), (K.ctxTile 9, 0xFFFF), (K.ctxEngine 9, 0xFFFF), (K.fabricSectorPortRoles 0, 0x32 * 2 ^ 80), (K.fabricPaceQuadrant 3, 1), (K.timeSynStatus 1, 2)] with frames := [(3, 0, [5], 10)], plan := { Plan.none_ with pieces := [(3, 0, [5], 10)] }, ctxs := [(9, { Ctx.none_ with cur := some ⟨7, 0, 0, 0, 0, 0, false, false, 0, false, false, 0⟩ })] };
     let i : Nat := 3; s.held = false ∧ i < 8 ∧ s.paceOn i = true ∧ (let f := (s.liveCells.headD ((3,0,[],0),⟨0,0,0,0,0⟩)).1;
     let x := (s.liveCells.headD ((3,0,[],0),⟨0,0,0,0,0⟩)).2; s.liveCells = [(f, x)] ∧ x.role = 2 ∧ s.cellMode f.2.1 x.cell = 0 ∧
     s.cellWire f.2.1 x.cell = i)) := by
  simp only [← accepts_eq, ← awake_eq]
  repeat' apply And.intro
  all_goals decide +kernel

/-- States and operands that meet the hypotheses of SectorsReloadAndFramesAreScrubbed, clause by clause. -/
theorem witness_SectorsReloadAndFramesAreScrubbed :
    (let s : State := wm mRun [(K.configStaged, 1)]; let q : Req := { rq (K.configSectorReload 1) [1] with port := 0 };
     let l : Loc := lw s (onObject ({ rq (K.configSectorReload 1) [1] with port := 0 }) (K.configSectorReload 1)); let k : Nat := 1;
     s.safeAsk = 0 ∧ k < 4 ∧ Accepts s (onObject q (K.configSectorReload k)) l) ∧
    (let s : State := { wm mRun [(K.configSectorState 1, 2), (K.graphNodeSource 9, 2), (K.graphNodeInput 9, 0x0300), (K.ctxPiece 9, 0x300), (K.graphPiecePlacedSector 3, 1)] with frames := [(3, 1, [5], 10)], plan := { Plan.none_ with pieces := [(3, 1, [5], 10)] }, ctxs := [(9, .none_)], reload := some ⟨1, 1⟩ };
     let r : Reload := (s.reload).getD ⟨0,0⟩; s.held = false ∧ s.reload = some r ∧ r.sector < quadCount s.variant ∧ r.step = 1) ∧
    (let s : State := { wm mRun [(K.configSectorState 1, 3)] with reload := some ⟨1, 2⟩ }; let r : Reload := (s.reload).getD ⟨0,0⟩;
     s.held = false ∧ s.reload = some r ∧ r.sector < quadCount s.variant ∧ r.step = 2) ∧
    (let s : State := { wm mRun [(K.configSectorState 1, 3), (K.graphNodeSource 9, 2), (K.graphNodeInput 9, 0x0300), (K.ctxPiece 9, 0x300), (K.graphPiecePlacedSector 3, 1)] with frames := [(3, 1, [5], 10)], plan := { Plan.none_ with pieces := [(3, 1, [5], 10)] }, ctxs := [(9, .none_)], reload := some ⟨1, 3⟩ };
     let r : Reload := (s.reload).getD ⟨0,0⟩; s.held = false ∧ s.reload = some r ∧ r.sector < quadCount s.variant ∧ s.safeAsk = 0 ∧
     r.step = 3) ∧
    (let s : State := { wm mRun [(K.configSectorState 1, 3), (K.graphNodeSource 9, 2), (K.graphNodeInput 9, 0x0300), (K.ctxPiece 9, 0x300), (K.graphPiecePlacedSector 3, 1)] with frames := [(3, 1, [5], 10)], plan := { Plan.none_ with pieces := [(3, 1, [5], 10)] }, ctxs := [(9, .none_)], reload := some ⟨1, 4⟩ };
     let r : Reload := (s.reload).getD ⟨0,0⟩; s.held = false ∧ s.reload = some r ∧ r.sector < quadCount s.variant ∧ s.safeAsk = 0 ∧
     r.step = 4) ∧
    (let s : State := { wm mRun [(K.configSectorState 1, 3), (K.graphNodeSource 9, 2), (K.graphNodeInput 9, 0x0300), (K.ctxPiece 9, 0x300), (K.graphPiecePlacedSector 3, 1)] with frames := [(3, 1, [5], 10)], plan := { Plan.none_ with pieces := [(3, 1, [5], 10)] }, ctxs := [(9, .none_)], reload := some ⟨1, 5⟩ };
     let r : Reload := (s.reload).getD ⟨0,0⟩; s.held = false ∧ s.reload = some r ∧ r.sector < quadCount s.variant ∧ s.safeAsk = 0 ∧
     r.step = 5) ∧
    (let s : State := { wm mRun [(K.configSectorState 1, 3), (K.graphNodeSource 9, 2), (K.graphNodeInput 9, 0x0300), (K.ctxPiece 9, 0x300), (K.graphPiecePlacedSector 3, 1)] with frames := [(3, 1, [5], 10)], plan := { Plan.none_ with pieces := [(3, 1, [5], 10)] }, ctxs := [(9, .none_)], reload := some ⟨1, 4⟩ };
     let r : Reload := (s.reload).getD ⟨0,0⟩; s.held = false ∧ s.reload = some r ∧ r.sector < quadCount s.variant ∧
     (r.step = 4 ∨ r.step = 5)) ∧
    (let s : State := { wm mRun [(K.configSectorState 1, 3), (K.graphNodeSource 9, 2), (K.graphNodeInput 9, 0x0300), (K.ctxPiece 9, 0x300), (K.graphPiecePlacedSector 3, 1)] with frames := [(3, 1, [5], 10)], plan := { Plan.none_ with pieces := [(3, 1, [5], 10)] }, ctxs := [(9, .none_)], reload := some ⟨1, 6⟩ };
     let r : Reload := (s.reload).getD ⟨0,0⟩; s.held = false ∧ s.reload = some r ∧ r.sector < quadCount s.variant ∧ s.safeAsk = 0 ∧
     r.step = 6 ∧ (s.mode = mRun ∨ s.mode = mHold)) ∧
    (let s : State := { wm mSafe [(K.configSectorState 1, 3)] with reload := some ⟨1, 6⟩ }; let r : Reload := (s.reload).getD ⟨0,0⟩;
     s.held = false ∧ s.reload = some r ∧ r.sector < quadCount s.variant ∧ s.safeAsk = 0 ∧ r.step = 6 ∧ s.mode = mSafe) ∧
    (let s : State := { wm mRun [(K.configSectorState 1, 3)] with reload := some ⟨1, 7⟩ }; let r : Reload := (s.reload).getD ⟨0,0⟩;
     s.held = false ∧ s.reload = some r ∧ r.sector < quadCount s.variant ∧ r.step = 7) ∧
    (let s : State := { wm mRun [(K.configSectorState 1, 2), (K.graphNodeSource 9, 2), (K.graphNodeInput 9, 0x0300), (K.ctxPiece 9, 0x300), (K.graphPiecePlacedSector 3, 1)] with frames := [(3, 1, [5], 10)], plan := { Plan.none_ with pieces := [(3, 1, [5], 10)] }, ctxs := [(9, .none_)], reload := some ⟨1, 8⟩ };
     let r : Reload := (s.reload).getD ⟨0,0⟩; s.held = false ∧ s.reload = some r ∧ r.sector < quadCount s.variant ∧ r.step = 8) ∧
    (let s : State := { wm mRun [(K.configSectorState 1, 2), (K.graphNodeSource 9, 2), (K.graphNodeInput 9, 0x0300), (K.ctxPiece 9, 0x300), (K.graphPiecePlacedSector 3, 1)] with frames := [(3, 1, [5], 10)], plan := { Plan.none_ with pieces := [(3, 1, [5], 10)] }, ctxs := [(9, .none_)], reload := some ⟨1, 8⟩ };
     let r : Reload := (s.reload).getD ⟨0,0⟩; s.held = false ∧ s.reload = some r ∧ r.sector < quadCount s.variant ∧ s.safeAsk = 0 ∧
     r.step = 8 ∧ s.swaps = [] ∧ s.copying = false ∧ s.moves = []) ∧
    (let s : State := ({ wm mRun [(K.configSectorState 1, 2), (K.scrubStatus, 2), (K.scrubPosition, clusterFrame 1 3 7)] with time := 100 }).poke K.deviceStandbyShadow 1;
     let f : Finding := ⟨[3], false, false, true, 0, false, false⟩; s.held = false ∧ isOn (s.obj K.scrubStatus) = true ∧
     s.scrubRuns ≠ [] ∧ s.scrubs (s.obj K.scrubPosition) = true ∧ f.onehot = false ∧ f.bits ≠ [] ∧ f.correctable = false ∧
     f.restorable = true ∧ s.obj K.deviceStandbyShadow = 1) ∧
    (let s : State := ({ wm mRun [(K.configSectorState 1, 2), (K.scrubStatus, 2), (K.scrubPosition, clusterFrame 1 3 7)] with time := 100 }).poke K.deviceStandbyShadow 1;
     let f : Finding := ⟨[3], false, false, false, 0, false, false⟩; s.held = false ∧ isOn (s.obj K.scrubStatus) = true ∧
     s.scrubRuns ≠ [] ∧ s.scrubs (s.obj K.scrubPosition) = true ∧ f.onehot = false ∧ f.bits ≠ [] ∧ f.correctable = false ∧
     (f.restorable = false ∨ s.obj K.deviceStandbyShadow ≠ 1)) ∧
    (let s : State := { wm mRun [(K.configSectorState 1, 2), (K.scrubStatus, 2), (K.scrubPosition, clusterFrame 1 3 7)] with time := 100 };
     let b : Nat := (s.frameAfter (s.obj K.scrubPosition)).getD 0; let f : Finding := ⟨[], true, false, true, 0, false, false⟩;
     Awake s ∧ isOn (s.obj K.scrubStatus) = true ∧ s.scrubRuns ≠ [] ∧ (let a := s.obj K.scrubPosition; s.scrubs a = true ∧
     s.frameAfter a = some b ∧ f.onehot = false ∧ f.votes = 0 ∧ f.mapBad = false ∧ f.tableBad = false ∧ f.bits = [])) ∧
    (let s : State := { wm mRun [(K.configSectorState 1, 2), (K.scrubStatus, 2), (K.scrubPosition, clusterFrame 1 3 7)] with time := 100 };
     let b : Nat := (s.frameAfter (s.obj K.scrubPosition)).getD 0; let f : Finding := ⟨[3], true, false, true, 0, false, false⟩;
     Awake s ∧ isOn (s.obj K.scrubStatus) = true ∧ s.scrubRuns ≠ [] ∧ (let a := s.obj K.scrubPosition; s.scrubs a = true ∧
     s.frameAfter a = some b ∧ f.onehot = false ∧ f.votes = 0 ∧ f.mapBad = false ∧ f.tableBad = false ∧ f.bits ≠ [] ∧
     f.correctable = true ∧ s.allEssential a = false ∧ f.bits.any (s.bitEssential a) = false)) ∧
    (let s : State := wm mLoad []; let q : Req := { rq (K.scrubEnable) [1] with port := 0 };
     let l : Loc := lw s (onObject ({ rq (K.scrubEnable) [1] with port := 0 }) (K.scrubEnable)); s.safeAsk = 0 ∧
     Accepts s (onObject q K.scrubEnable) l) ∧
    (let s : State := { wm mRun [(K.scrubStatus, 2)] with scrub := { Scrub.none_ with resets := 0 } }; s.held = false ∧
     isOn (s.obj K.scrubStatus) = true) := by
  simp only [← accepts_eq, ← awake_eq]
  repeat' apply And.intro
  all_goals decide +kernel

/-- States and operands that meet the hypotheses of PinsFollowTheirFunctions, clause by clause. -/
theorem witness_PinsFollowTheirFunctions :
    (let s : State := wm mRun [(K.gpioBankOut 2, 0xF0F2)]; let q : Req := { rq (K.gpioBankWrite 2) [5,0,7,0] with port := 0 };
     let l : Loc := lw s (onObject ({ rq (K.gpioBankWrite 2) [5,0,7,0] with port := 0 }) (K.gpioBankWrite 2)); let b : Nat := 2;
     s.safeAsk = 0 ∧ b < 6 ∧ Accepts s (onObject q (K.gpioBankWrite b)) l) ∧
    (let s : State := wm mRun [(K.gpioBankOut 2, 0xF0F2)]; let q : Req := { rq (K.gpioBankOut 2) [5,9] with port := 0 };
     let l : Loc := lw s (onObject ({ rq (K.gpioBankOut 2) [5,9] with port := 0 }) (K.gpioBankOut 2)); let b : Nat := 2;
     s.safeAsk = 0 ∧ b < 6 ∧ Accepts s (onObject q (K.gpioBankOut b)) l) ∧
    (let s : State := wm mLoad []; let q : Req := { rq (K.gpioPinFunc 5) [1,16] with port := 0 };
     let l : Loc := lw s (onObject ({ rq (K.gpioPinFunc 5) [1,16] with port := 0 }) (K.gpioPinFunc 5)); let k : Nat := 5;
     s.safeAsk = 0 ∧ k < 96 ∧ (let w := onObject q (K.gpioPinFunc k); Accepts s w l ∧ s.pinsReleased = false)) ∧
    (let s : State := wm mRun []; let q : Req := { rq (K.gpioPinFunc 5) [1,16] with port := 0 };
     let l : Loc := lw s (onObject ({ rq (K.gpioPinFunc 5) [1,16] with port := 0 }) (K.gpioPinFunc 5)); let k : Nat := 5;
     s.safeAsk = 0 ∧ k < 96 ∧ (let w := onObject q (K.gpioPinFunc k); Accepts s w l ∧ s.pinsReleased = true ∧ (s.pin k).stage = 0)) ∧
    (let s : State := { wm mRun [(K.gpioPinFunc 5, 0), (K.gpioPinPending 5, 0xFFFF)] with pins := [(5, { Pin.none_ with stage := 1 })] };
     let q : Req := { rq (K.gpioPinFunc 5) [1,16] with port := 0 };
     let l : Loc := lw s (onObject ({ rq (K.gpioPinFunc 5) [1,16] with port := 0 }) (K.gpioPinFunc 5)); let k : Nat := 5;
     s.safeAsk = 0 ∧ k < 96 ∧ (let w := onObject q (K.gpioPinFunc k); Accepts s w l ∧ s.pinsReleased = true ∧ (s.pin k).stage ≠ 0)) ∧
    (let s : State := { wm mRun [(K.gpioPinFunc 5, 1), (K.gpioPinPending 5, 0xFFFF)] with pins := [(5, { Pin.none_ with stage := 1 })] };
     let k : Nat := 5; Awake s ∧ k < 96 ∧ (s.pin k).stage = 1) ∧
    (let s : State := { wm mRun [(K.gpioPinFunc 5, 1), (K.gpioPinPending 5, 0xFFFF)] with pins := [(5, { Pin.none_ with stage := 3 })] };
     let t : Nat := 5; let k : Nat := 5; Awake s ∧ k < 96 ∧ (s.pin k).stage = 3 ∧ (s.begin_ t).agrees k = true ∧
     s.obj (K.gpioPinPending k) = 0xFFFF) ∧
    (let s : State := { wm mRun [(K.gpioPinFunc 5, 1), (K.gpioPinPending 5, 0xFFFF)] with pins := [(5, { Pin.none_ with stage := 2 })] };
     let t : Nat := 5; let k : Nat := 5; Awake s ∧ k < 96 ∧ (s.pin k).stage = 2 ∧ (s.begin_ t).agrees k = true ∧
     s.obj (K.gpioPinPending k) = 0xFFFF) ∧
    (let s : State := { wm mRun [(K.gpioPinFunc 5, 1), (K.gpioPinPending 5, 0)] with pins := [(5, { Pin.none_ with stage := 2 })] };
     let t : Nat := 5; let k : Nat := 5; Awake s ∧ k < 96 ∧ (s.pin k).stage = 2 ∧ (s.begin_ t).agrees k = true ∧
     s.obj (K.gpioPinPending k) ≠ 0xFFFF) ∧
    (let s : State := wm mRun []; let k : Nat := 5; let held : Nat := 0; let level : Bool := true; Awake s ∧ k < 96 ∧
     level ≠ s.pinLevels.testBit k ∧ 5 * s.obj (K.gpioPinFilter k) * 1000 ≤ held) ∧
    (let s : State := wm mRun [(K.gpioPinFilter 5, 3)]; let k : Nat := 5; let held : Nat := 14999; let level : Bool := true; Awake s ∧
     k < 96 ∧ level ≠ s.pinLevels.testBit k ∧ held < 5 * s.obj (K.gpioPinFilter k) * 1000) ∧
    (let s : State := wm mRun []; let b : Nat := 2; let mv : Nat := 1800; s.held = false ∧ b < 6 ∧ nominalOf mv ≠ 0 ∧ s.safeAsk = 0) ∧
    (let s : State := wm mRun []; let b : Nat := 2; let mv : Nat := 1000; s.held = false ∧ b < 6 ∧ nominalOf mv = 0) := by
  simp only [← accepts_eq, ← awake_eq]
  decide +kernel

/-- States and operands that meet the hypotheses of PatternUnitsMatch, clause by clause. -/
theorem witness_PatternUnitsMatch :
    (let s : State := wm mRun []; let q : Req := rq (key (0x6900 + 5) 4) [3];
     let l : Loc := lw s (onObject (rq (key (0x6900 + 5) 4) [3]) (key (0x6900 + 5) 4)); let u : Nat := 5; let sub : Nat := 4;
     s.safeAsk = 0 ∧ u < 16 ∧ 1 ≤ sub ∧ sub ≤ 5 ∧ (let k := key (0x6900 + u) sub; let w := onObject q k; Accepts s w l)) ∧
    (let s : State := { wm mRun [(K.patternMode 5, 1), (K.patternMask 5, 0xF), (K.patternValue 5, 5), (K.patternHold 5, 2)] with pinLevels := 5, pats := [(5, { Pat.none_ with base := false, seen := 0 })] };
     let t : Nat := 100000000; let u : Nat := 5; Awake s ∧ u < 16 ∧ s.obj (K.patternMode u) ≠ 0 ∧ s.mode ≠ mStandby ∧
     (s.pat u).since + 5 * perNs * s.obj (K.patternHold u) ≤ max s.clock t) := by
  simp only [← accepts_eq, ← awake_eq]
  decide +kernel

/-- States and operands that meet the hypotheses of EventSourcesAreWritten, clause by clause. -/
theorem witness_EventSourcesAreWritten :
    (let s : State := wm mRun [(K.eventStatus 767, 1), (K.eventCount 767, 7)];
     let q : Req := { rq (K.eventClear 767) [7,0,0,0] with port := 0 };
     let l : Loc := lw s (onObject ({ rq (K.eventClear 767) [7,0,0,0] with port := 0 }) (K.eventClear 767)); let n : Nat := 767;
     s.safeAsk = 0 ∧ n < 768 ∧ Accepts s (onObject q (K.eventClear n)) l) ∧
    (let s : State := wm mRun [(K.eventStatus 767, 1), (K.eventCount 767, 7)];
     let q : Req := { rq (K.deviceEventsClearNode) [0,0] with port := 0 };
     let l : Loc := lw s (onObject ({ rq (K.deviceEventsClearNode) [0,0] with port := 0 }) (K.deviceEventsClearNode));
     let n : Nat := 767; s.safeAsk = 0 ∧ n < 768 ∧ Accepts s (onObject q K.deviceEventsClearNode) l) ∧
    (let s : State := wm mRun []; let q : Req := { rq (K.deviceEventsTest) [1] with port := 0 };
     let l : Loc := lw s (onObject ({ rq (K.deviceEventsTest) [1] with port := 0 }) (K.deviceEventsTest)); let n : Nat := 767;
     s.safeAsk = 0 ∧ n < 768 ∧ Accepts s (onObject q K.deviceEventsTest) l) ∧
    (let s : State := wm mRun []; let q : Req := { rq (key (0x7000 + 767) 2) [1] with port := 0 };
     let l : Loc := lw s (onObject ({ rq (key (0x7000 + 767) 2) [1] with port := 0 }) (key (0x7000 + 767) 2)); let n : Nat := 767;
     s.safeAsk = 0 ∧ n < 768 ∧ (let sub := 2; ((sub = 2 ∨ sub = 4 ∨ sub = 6)) ∧ (let k := key (0x7000 + n) sub;
     Accepts s (onObject q k) l))) ∧
    (let s : State := wm mRun [(K.eventStatus 767, 1), (K.eventCount 767, 7)];
     let q : Req := { rq (K.eventLatch 767) [0] with port := 0 };
     let l : Loc := lw s (onObject ({ rq (K.eventLatch 767) [0] with port := 0 }) (K.eventLatch 767)); let n : Nat := 767;
     s.safeAsk = 0 ∧ n < 768 ∧ Accepts s (onObject q (K.eventLatch n)) l) := by
  simp only [← accepts_eq]
  decide +kernel

/-- States and operands that meet the hypotheses of MembersSend, clause by clause. -/
theorem witness_MembersSend :
    (let s : State := wm mRun [(K.laneRole 4, 2), (K.laneRole 6, 3), (K.laneRole 7, 4), (K.laneStatus 4, 2), (K.laneStatus 6, 2), (K.rallyLaneState 4, 2), (K.rallyLaneState 6, 2), (K.rallyLaneState 7, 2), (K.rallyState, rAligned), (K.rallyMember, 3)];
     let lane : Nat := 4; Awake s ∧ lane < laneCount s.variant ∧ 2 ≤ s.roleOfLane lane ∧ s.rallyUp lane = true ∧
     s.rallyState ≠ rStandalone ∧ (let x := s.rallyLane lane; x.busy = false)) ∧
    (let s : State := { wm mRun [(K.laneRole 4, 2), (K.laneRole 6, 3), (K.laneRole 7, 4), (K.laneStatus 4, 2), (K.laneStatus 6, 2), (K.rallyLaneState 4, 2), (K.rallyLaneState 6, 2), (K.rallyLaneState 7, 2), (K.rallyState, rAligned), (K.rallyMember, 3)] with rally := { Rally.none_ with lanes := [(4, { RallyLane.none_ with busy := true, waiting := [⟨1, true, true, 1, 5, [1,2,3], none⟩] })], members := [] } };
     let lane : Nat := 4; Awake s ∧ lane < laneCount s.variant ∧ 2 ≤ s.roleOfLane lane ∧ s.rallyUp lane = true ∧
     s.rallyState ≠ rStandalone ∧ (let x := s.rallyLane lane; x.busy = true)) ∧
    (let s : State := { wm mRun [(K.laneRole 4, 2), (K.laneRole 6, 3), (K.laneRole 7, 4), (K.laneStatus 4, 2), (K.laneStatus 6, 2), (K.rallyLaneState 4, 2), (K.rallyLaneState 6, 2), (K.rallyLaneState 7, 2), (K.rallyState, rAligned), (K.rallyMember, 3), (K.rallyShareSource, 0x10), (K.pitchStatus 4, 2), (K.pitchEncoder 4, 5), (K.pitchPitch 4, 655360), (K.pitchWindow 4, 4), (K.rallyTriggerHorizon, 5000)] with rally := { Rally.none_ with lanes := [], members := [⟨6, 77, true, true, false, 0, 0, [3, 9], 3, 5⟩] }, encs := [(5, { Enc.none_ with edges := [(0, 3)], recent := [(3000000000, 30), (2000000000, 20), (1000000000, 10)] })], pitches := [(4, { Pitch.none_ with up := 655360 })] };
     let t : Nat := 4000000000; let p : Nat := 4;
     let target : Int := ((firstFrom (s.enc (s.encOf p)).recent (s.obj (K.pitchWindow p)) (s.pitchOf p).moved (s.targetOf p).1 (if (s.targetOf p).2 then (s.obj (K.pitchPitch p) : Int) else -(s.obj (K.pitchPitch p) : Int)) (max s.clock t + s.obj K.rallyTriggerHorizon * perNs)).getD (0,0,0,0)).1;
     let passed : Nat := ((firstFrom (s.enc (s.encOf p)).recent (s.obj (K.pitchWindow p)) (s.pitchOf p).moved (s.targetOf p).1 (if (s.targetOf p).2 then (s.obj (K.pitchPitch p) : Int) else -(s.obj (K.pitchPitch p) : Int)) (max s.clock t + s.obj K.rallyTriggerHorizon * perNs)).getD (0,0,0,0)).2.1;
     let num : Nat := ((firstFrom (s.enc (s.encOf p)).recent (s.obj (K.pitchWindow p)) (s.pitchOf p).moved (s.targetOf p).1 (if (s.targetOf p).2 then (s.obj (K.pitchPitch p) : Int) else -(s.obj (K.pitchPitch p) : Int)) (max s.clock t + s.obj K.rallyTriggerHorizon * perNs)).getD (0,0,0,0)).2.2.1;
     let den : Nat := ((firstFrom (s.enc (s.encOf p)).recent (s.obj (K.pitchWindow p)) (s.pitchOf p).moved (s.targetOf p).1 (if (s.targetOf p).2 then (s.obj (K.pitchPitch p) : Int) else -(s.obj (K.pitchPitch p) : Int)) (max s.clock t + s.obj K.rallyTriggerHorizon * perNs)).getD (0,0,0,0)).2.2.2;
     s.held = false ∧ p < 16 ∧ s.announces p = true ∧ isOn (s.obj (K.pitchStatus p)) = true ∧ s.obj (K.pitchSource p) = 0 ∧
     s.encOf p < 8 ∧ (let x := s.pitchOf p; let tg := s.targetOf p; let w : Int := s.obj (K.pitchPitch p);
     (firstFrom (s.enc (s.encOf p)).recent (s.obj (K.pitchWindow p)) x.moved tg.1 (if tg.2 then w else -w) (max s.clock t + s.obj K.rallyTriggerHorizon * perNs) = some (target, passed, num, den)))) ∧
    (let s : State := { wm mRun [(K.laneRole 4, 2), (K.laneRole 6, 3), (K.laneRole 7, 4), (K.laneStatus 4, 2), (K.laneStatus 6, 2), (K.rallyLaneState 4, 2), (K.rallyLaneState 6, 2), (K.rallyLaneState 7, 2), (K.rallyState, rAligned), (K.rallyMember, 3), (K.rallyShareSource, 0x10), (K.pitchStatus 4, 2), (K.pitchEncoder 4, 5), (K.pitchPitch 4, 655360), (K.pitchWindow 4, 4)] with rally := { Rally.none_ with lanes := [], members := [] } };
     let p : Nat := 4; Awake s ∧ p < 16 ∧ s.announces p = true ∧ isOn (s.obj (K.pitchStatus p)) = true ∧ (s.pitchOf p).due = []) ∧
    (let s : State := wm mLoad [(K.laneRole 4, 2), (K.laneRole 6, 3), (K.laneRole 7, 4), (K.laneStatus 4, 2), (K.laneStatus 6, 2), (K.rallyLaneState 4, 2), (K.rallyLaneState 6, 2), (K.rallyLaneState 7, 2), (K.rallyState, rAligned), (K.rallyMember, 3), (K.versionsRallyMin, 0x100), (K.versionsRallyMax, 0x300), (K.versionsAccept, 1)];
     let t : Nat := 5;
     let v : Nat := (chooseVersion ((s.begin_ t).updateRoles.ownOffer :: ((s.begin_ t).updateRoles.rally.offers.filter (fun o => o.1 != (s.begin_ t).updateRoles.memberId)).map (·.2))).getD 0;
     s.held = false ∧ (let r := (s.begin_ t).updateRoles; r.obj K.rallyRole = 2 ∧ r.known.any (·.running) = false ∧
     r.rallyState ≠ rStandalone ∧ r.rallyState ≠ rExcluded ∧
     (chooseVersion (r.ownOffer :: (r.rally.offers.filter (fun o => o.1 != r.memberId)).map (·.2)) = some v) ∧
     offers r.ownOffer v = true)) ∧
    (let s : State := { wm mRun [(K.laneRole 4, 2), (K.laneRole 6, 3), (K.laneRole 7, 4), (K.laneStatus 4, 2), (K.laneStatus 6, 2), (K.rallyLaneState 4, 2), (K.rallyLaneState 6, 2), (K.rallyLaneState 7, 2), (K.rallyState, rAligned), (K.rallyMember, 3)] with rally := { Rally.none_ with lanes := [(4, { RallyLane.none_ with busy := true, waiting := [⟨7, true, true, 1, 5, [1,2,3], none⟩, ⟨1, true, true, 1, 5, [1,2,3], none⟩] })], members := [] } };
     let lane : Nat := 4; s.held = false ∧ lane < laneCount s.variant ∧ 2 ≤ s.roleOfLane lane ∧ s.rallyUp lane = true ∧
     s.rallyState ≠ rStandalone ∧ (let x := s.rallyLane lane; let w := (x.next 4).getD ⟨0,true,true,0,0,[],none⟩; x.next 4 = some w ∧
     w.control = none ∧ w.type ≠ 2)) ∧
    (let s : State := { wm mRun [(K.laneRole 4, 2), (K.laneRole 6, 3), (K.laneRole 7, 4), (K.laneStatus 4, 2), (K.laneStatus 6, 2), (K.rallyLaneState 4, 2), (K.rallyLaneState 6, 2), (K.rallyLaneState 7, 2), (K.rallyState, rAligned), (K.rallyMember, 3)] with rally := { Rally.none_ with lanes := [(4, { RallyLane.none_ with busy := true, waiting := [⟨2, true, true, 1, 5, [1,2,3], (some (.version 5))⟩] })], members := [] } };
     let lane : Nat := 4; s.held = false ∧ lane < laneCount s.variant ∧ 2 ≤ s.roleOfLane lane ∧ s.rallyUp lane = true ∧
     s.rallyState ≠ rStandalone ∧ (let x := s.rallyLane lane; let w := (x.next 4).getD ⟨0,true,true,0,0,[],none⟩;
     let c := (((x.next 4).getD ⟨0,true,true,0,0,[],none⟩).control).getD (.version 0); x.next 4 = some w ∧ w.control = some c)) ∧
    (let s : State := { wm mRun [(K.laneRole 4, 2), (K.laneRole 6, 3), (K.laneRole 7, 4), (K.laneStatus 4, 2), (K.laneStatus 6, 2), (K.rallyLaneState 4, 2), (K.rallyLaneState 6, 2), (K.rallyLaneState 7, 2), (K.rallyState, rAligned), (K.rallyMember, 3), (K.rallyShareSource, 0x10), (K.pitchStatus 4, 2), (K.pitchEncoder 4, 5), (K.pitchPitch 4, 655360), (K.pitchWindow 4, 4), (K.encTrackNs 5, 1000), (K.encStatus 5, 2)] with rally := { Rally.none_ with lanes := [(4, { RallyLane.none_ with busy := true, waiting := [⟨7, true, true, 1, 5, [1,2,3], none⟩] })], members := [] }, time := 320000 * 65536, clock := 320000 * 65536, encs := [(5, { Enc.none_ with edges := [(320000 * 65536, 5), (0, 3)], recent := [(3000000000, 30), (2000000000, 20), (1000000000, 10)] })] };
     let t : Nat := 5; let lane : Nat := 4; s.held = false ∧ lane < laneCount s.variant ∧ 2 ≤ s.roleOfLane lane ∧
     s.rallyUp lane = true ∧ s.rallyState ≠ rStandalone ∧ (let x := s.rallyLane lane;
     let b := (s.begin_ t).setRallyLane lane { x with busy := false }; x.next 4 = none ∧ (b.sendTrack lane).isSome = true)) ∧
    (let s : State := { wm mRun [(K.laneRole 4, 2), (K.laneRole 6, 3), (K.laneRole 7, 4), (K.laneStatus 4, 2), (K.laneStatus 6, 2), (K.rallyLaneState 4, 2), (K.rallyLaneState 6, 2), (K.rallyLaneState 7, 2), (K.rallyState, rAligned), (K.rallyMember, 3)] with rally := { Rally.none_ with lanes := [(4, { RallyLane.none_ with busy := true, waiting := [⟨6, true, true, 1, 5, [1,2,3], none⟩] })], members := [] } };
     let t : Nat := 5; let lane : Nat := 4; s.held = false ∧ lane < laneCount s.variant ∧ 2 ≤ s.roleOfLane lane ∧
     s.rallyUp lane = true ∧ s.rallyState ≠ rStandalone ∧ (let x := s.rallyLane lane;
     let b := (s.begin_ t).setRallyLane lane { x with busy := false }; let w := (x.next 6).getD ⟨0,true,true,0,0,[],none⟩;
     x.next 4 = none ∧ b.sendTrack lane = none ∧ x.next 6 = some w ∧ w.control = none ∧ w.type ≠ 2)) ∧
    (let s : State := { wm mRun [(K.laneRole 4, 2), (K.laneRole 6, 3), (K.laneRole 7, 4), (K.laneStatus 4, 2), (K.laneStatus 6, 2), (K.rallyLaneState 4, 2), (K.rallyLaneState 6, 2), (K.rallyLaneState 7, 2), (K.rallyState, rAligned), (K.rallyMember, 3), (K.graphNodeDest 9, 2), (K.graphNodePeer 9, 0x2005), (K.laneEnable 4, 1), (K.boardLanes, 2 * 256 ^ 4), (K.ctxState 9, cFlowing)] with ctxs := [(9, { Ctx.none_ with out := { { RingSt.none_ with base := 4096, bytes := 65536, lines := 4, lineBytes := 128, recBase := 0, mask := 4294967295, first := some 1, latest := some 3, begun := true, recs := [⟨2, 5, 0, 0, 0, 128, 0⟩] } with readers := [⟨.peer, 4, 2⟩], recs := [⟨2, 5, 0, 0, 0, 128, 0⟩] } })] }|> fun s => s.putByte (s.recAddr (s.ctx 9).out 2 0) 2;
     let t : Nat := 5; let lane : Nat := 4; s.held = false ∧ lane < laneCount s.variant ∧ 2 ≤ s.roleOfLane lane ∧
     s.rallyUp lane = true ∧ s.rallyState ≠ rStandalone ∧ (let x := s.rallyLane lane;
     let b := (s.begin_ t).setRallyLane lane { x with busy := false };
     let c := (nextInRound (s.lane lane).served ((s.peerSends lane).filter (fun c => s.holdsLine (s.ring c false) (s.nextLine (s.ring c false) (s.exportNext c .peer))))).getD 0;
     x.next 4 = none ∧ b.sendTrack lane = none ∧ x.next 6 = none ∧ s.exports_ = true ∧ s.mayCarry lane 7 = true ∧
     s.clientRed (18 + lane) = false ∧
     (nextInRound (s.lane lane).served ((s.peerSends lane).filter (fun c => s.holdsLine (s.ring c false) (s.nextLine (s.ring c false) (s.exportNext c .peer)))) = some c) ∧
     (let r := s.ring c false; let k := s.nextLine r (s.exportNext c .peer); let y := s.peer_ c;
     let off := if y.line = k then y.off else 0; let lr := s.recOf r k; ((off ≠ 0 ∨ s.linePoisoned r k lr.length = false))))) := by
  simp only [← awake_eq]
  repeat' apply And.intro
  all_goals decide +kernel

/-- States and operands that meet the hypotheses of MembersReceive, clause by clause. -/
theorem witness_MembersReceive :
    (let s : State := wm mRun [(K.laneRole 4, 2), (K.laneRole 6, 3), (K.laneRole 7, 4), (K.laneStatus 4, 2), (K.laneStatus 6, 2), (K.rallyLaneState 4, 2), (K.rallyLaneState 6, 2), (K.rallyLaneState 7, 2), (K.rallyState, rAligned), (K.rallyMember, 3)];
     let t : Nat := 5; let lane : Nat := 4; let f : Frag := ⟨0x2FFF000000000000, [1,2]⟩; let type : Nat := fTime;
     let i : Instr := .rallyTimeFragment t lane f; Awake s ∧ lane < laneCount s.variant ∧ 2 ≤ s.roleOfLane lane ∧
     s.rallyState ≠ rStandalone ∧ ((i = .rallyTimeFragment t lane f ∧ type = fTime) ∨ (i = .rallyTriggerFragment t lane f ∧
     type = fTrigger) ∨ (i = .rallyTrackFragment t lane f ∧ type = fTrack) ∨ (i = .whistleFragment t lane f ∧ type = fWhistle)) ∧
     fragGood f type = false) ∧
    (let s : State := wm mRun [(K.laneRole 4, 2), (K.laneRole 6, 3), (K.laneRole 7, 4), (K.laneStatus 4, 2), (K.laneStatus 6, 2), (K.rallyLaneState 4, 2), (K.rallyLaneState 6, 2), (K.rallyLaneState 7, 2), (K.rallyState, rAligned), (K.rallyMember, 3)];
     let t : Nat := 5; let lane : Nat := 4; let f : Frag := ⟨0x2FFF000000000000, [1,2]⟩; let type : Nat := fTime;
     let i : Instr := .rallyTimeFragment t lane f; Awake s ∧ lane < laneCount s.variant ∧ 2 ≤ s.roleOfLane lane ∧
     s.rallyState ≠ rStandalone ∧ ((i = .rallyTimeFragment t lane f ∧ type = fTime) ∨ (i = .rallyTriggerFragment t lane f ∧
     type = fTrigger) ∨ (i = .rallyTrackFragment t lane f ∧ type = fTrack) ∨ (i = .whistleFragment t lane f ∧ type = fWhistle))) ∧
    (let s : State := { wm mRun [(K.laneRole 4, 2), (K.laneRole 6, 3), (K.laneRole 7, 4), (K.laneStatus 4, 2), (K.laneStatus 6, 2), (K.rallyLaneState 4, 2), (K.rallyLaneState 6, 2), (K.rallyLaneState 7, 2), (K.rallyState, rAligned), (K.rallyMember, 3)] with time := 5 * 10 ^ 9 * 65536 };
     let lane : Nat := 4;
     let f : Frag := ⟨fragHeader fTime true true 2 0 9 ((toLE 12 (5 * 2 ^ 48 + 1000) ++ toLE 12 7 ++ toLE 12 (5 * 2 ^ 48 + 2000) ++ [2, 1, 0, 9])).length, (toLE 12 (5 * 2 ^ 48 + 1000) ++ toLE 12 7 ++ toLE 12 (5 * 2 ^ 48 + 2000) ++ [2, 1, 0, 9])⟩;
     s.held = false ∧ lane < laneCount s.variant ∧ 2 ≤ s.roleOfLane lane ∧ s.rallyState ≠ rStandalone ∧ s.rallyState ≠ rExcluded ∧
     fragGood f fTime = true) ∧
    (let s : State := { wm mRun [(K.laneRole 4, 2), (K.laneRole 6, 3), (K.laneRole 7, 4), (K.laneStatus 4, 2), (K.laneStatus 6, 2), (K.rallyLaneState 4, 2), (K.rallyLaneState 6, 2), (K.rallyLaneState 7, 2), (K.rallyState, rAligned), (K.rallyMember, 3), (K.pitchSource 4, 1), (K.pitchStatus 4, 2)] with rally := { Rally.none_ with lanes := [], members := [] } };
     let lane : Nat := 4;
     let f : Frag := ⟨fragHeader fTrigger true true 2 4 9 ((toLE 8 77 ++ toLE 6 88 ++ toLE 2 99 ++ toLE 12 (5 * 2 ^ 48) ++ [0])).length, (toLE 8 77 ++ toLE 6 88 ++ toLE 2 99 ++ toLE 12 (5 * 2 ^ 48) ++ [0])⟩;
     Awake s ∧ lane < laneCount s.variant ∧ 2 ≤ s.roleOfLane lane ∧ s.sharing = true ∧ (let p := fragChannel f; p < 16 ∧
     (let x := s.pitchOf p; let line := leAt f.payload 0 8; fragGood f fTrigger = true ∧
     (x.announced.all (fun k => decide (k < line)) = true) ∧ leAt f.payload 28 1 % 2 = 0 ∧ bitsOf (s.obj K.rallyShareSource) p p = 0))) ∧
    (let s : State := { wm mRun [(K.laneRole 4, 2), (K.laneRole 6, 3), (K.laneRole 7, 4), (K.laneStatus 4, 2), (K.laneStatus 6, 2), (K.rallyLaneState 4, 2), (K.rallyLaneState 6, 2), (K.rallyLaneState 7, 2), (K.rallyState, rAligned), (K.rallyMember, 3), (K.pitchSource 4, 1)] with rally := { Rally.none_ with lanes := [], members := [] } };
     let lane : Nat := 4;
     let f : Frag := ⟨fragHeader fTrigger true true 2 4 9 ((toLE 8 77 ++ toLE 6 88 ++ toLE 2 99 ++ toLE 12 (5 * 2 ^ 48) ++ [1])).length, (toLE 8 77 ++ toLE 6 88 ++ toLE 2 99 ++ toLE 12 (5 * 2 ^ 48) ++ [1])⟩;
     Awake s ∧ lane < laneCount s.variant ∧ 2 ≤ s.roleOfLane lane ∧ s.sharing = true ∧ (let p := fragChannel f; p < 16 ∧
     (let x := s.pitchOf p; let at_ := ofTime96 (leAt f.payload 16 12); fragGood f fTrigger = true ∧ x.heard < at_ ∧
     leAt f.payload 28 1 % 2 = 1 ∧ bitsOf (s.obj K.rallyShareSource) p p = 0))) ∧
    (let s : State := { wm mRun [(K.laneRole 4, 2), (K.laneRole 6, 3), (K.laneRole 7, 4), (K.laneStatus 4, 2), (K.laneStatus 6, 2), (K.rallyLaneState 4, 2), (K.rallyLaneState 6, 2), (K.rallyLaneState 7, 2), (K.rallyState, rAligned), (K.rallyMember, 3), (K.pitchSource 4, 1)] with rally := { Rally.none_ with lanes := [], members := [] } };
     let lane : Nat := 4;
     let f : Frag := ⟨fragHeader fTrack true true 2 4 9 ((toLE 12 (5 * 2 ^ 48) ++ List.replicate 256 1)).length, (toLE 12 (5 * 2 ^ 48) ++ List.replicate 256 1)⟩;
     Awake s ∧ lane < laneCount s.variant ∧ 2 ≤ s.roleOfLane lane ∧ s.sharing = true ∧ (let p := fragChannel f; p < 16 ∧
     (let x := s.pitchOf p; fragGood f fTrack = true ∧ (x.replica.any (fun e => ofTime96 (leAt f.payload 0 12) ≤ e.1) = false)))) ∧
    (let s : State := wm mRun [(K.laneRole 4, 2), (K.laneRole 6, 3), (K.laneRole 7, 4), (K.laneStatus 4, 2), (K.laneStatus 6, 2), (K.rallyLaneState 4, 2), (K.rallyLaneState 6, 2), (K.rallyLaneState 7, 2), (K.rallyState, rAligned), (K.rallyMember, 3), (K.rallyLanePeer 4, 6)];
     let lane : Nat := 4; s.held = false ∧ lane < laneCount s.variant ∧ 2 ≤ s.roleOfLane lane ∧ s.rallyState ≠ rStandalone) ∧
    (let s : State := wm mRun [(K.laneRole 4, 2), (K.laneRole 6, 3), (K.laneRole 7, 4), (K.laneStatus 4, 2), (K.laneStatus 6, 2), (K.rallyLaneState 4, 2), (K.rallyLaneState 6, 2), (K.rallyLaneState 7, 2), (K.rallyState, rAligned), (K.rallyMember, 3), (K.rallyLanePeer 4, 0xFF)];
     let lane : Nat := 4; s.held = false ∧ lane < laneCount s.variant ∧ 2 ≤ s.roleOfLane lane ∧ s.rallyState ≠ rStandalone ∧
     (let m := (⟨6, 77, true, true, false, 0, 0, [3, 9], 3, 5⟩ : RallyMember); m.id ≠ s.memberId ∧ m.id ≠ 0xFF ∧
     s.rallyUp lane = true ∧ (s.obj (K.rallyLanePeer lane) = 0xFF ∨ s.obj (K.rallyLanePeer lane) = m.id))) ∧
    (let s : State := wm mRun [(K.laneRole 4, 2), (K.laneRole 6, 3), (K.laneRole 7, 4), (K.laneStatus 4, 2), (K.laneStatus 6, 2), (K.rallyLaneState 4, 2), (K.rallyLaneState 6, 2), (K.rallyLaneState 7, 2), (K.rallyState, rAligned), (K.rallyMember, 3)];
     let lane : Nat := 4; s.held = false ∧ lane < laneCount s.variant ∧ 2 ≤ s.roleOfLane lane ∧ s.rallyState ≠ rStandalone ∧
     (let m := (⟨3, 77, true, true, false, 0, 0, [3, 9], 3, 5⟩ : RallyMember); m.id = s.memberId ∧ m.device ≠ s.identity ∧
     s.rallyState ≠ rExcluded)) ∧
    (let s : State := wm mRun [(K.laneRole 4, 2), (K.laneRole 6, 3), (K.laneRole 7, 4), (K.laneStatus 4, 2), (K.laneStatus 6, 2), (K.rallyLaneState 4, 2), (K.rallyLaneState 6, 2), (K.rallyLaneState 7, 2), (K.rallyState, rAligned), (K.rallyMember, 3), (K.rallyLanePeer 4, 6)];
     let lane : Nat := 4; s.held = false ∧ lane < laneCount s.variant ∧ 2 ≤ s.roleOfLane lane ∧ s.rallyState ≠ rStandalone ∧
     (let m := (⟨6, 77, true, true, false, 0, 0, [3, 9], 3, 5⟩ : RallyMember); m.id ≠ s.memberId ∧ m.id ∈ s.links)) ∧
    (let s : State := { wm mRun [(K.laneRole 4, 2), (K.laneRole 6, 3), (K.laneRole 7, 4), (K.laneStatus 4, 2), (K.laneStatus 6, 2), (K.rallyLaneState 4, 2), (K.rallyLaneState 6, 2), (K.rallyLaneState 7, 2), (K.rallyState, rAligned), (K.rallyMember, 3)] with rally := { Rally.none_ with lanes := [], members := [⟨6, 77, true, true, false, 0, 0, [3, 9], 3, 5⟩, ⟨7, 77, false, true, false, 0, 0, [3, 9], 3, 5⟩] } };
     let lane : Nat := 4; s.held = false ∧ lane < laneCount s.variant ∧ 2 ≤ s.roleOfLane lane ∧ s.rallyState ≠ rStandalone) ∧
    (let s : State := wm mLoad [(K.laneRole 4, 2), (K.laneRole 6, 3), (K.laneRole 7, 4), (K.laneStatus 4, 2), (K.laneStatus 6, 2), (K.rallyLaneState 4, 2), (K.rallyLaneState 6, 2), (K.rallyLaneState 7, 2), (K.rallyState, rAligned), (K.rallyMember, 3), (K.versionsRallyMin, 0x100), (K.versionsRallyMax, 0x300), (K.versionsAccept, 1)];
     let lane : Nat := 4; s.held = false ∧ lane < laneCount s.variant ∧ 2 ≤ s.roleOfLane lane ∧ s.rallyState ≠ rStandalone ∧
     (let v := 0x200; s.rallyState ≠ rExcluded ∧ (v ≠ s.obj K.rallyVersion ∨ s.rally.agreed = false) ∧ offers s.ownOffer v = true)) ∧
    (let s : State := wm mLoad [(K.laneRole 4, 2), (K.laneRole 6, 3), (K.laneRole 7, 4), (K.laneStatus 4, 2), (K.laneStatus 6, 2), (K.rallyLaneState 4, 2), (K.rallyLaneState 6, 2), (K.rallyLaneState 7, 2), (K.rallyState, rAligned), (K.rallyMember, 3), (K.versionsRallyMin, 0x100), (K.versionsRallyMax, 0x300), (K.versionsAccept, 1)];
     let lane : Nat := 4; s.held = false ∧ lane < laneCount s.variant ∧ 2 ≤ s.roleOfLane lane ∧ s.rallyState ≠ rStandalone ∧
     (let v := 0x900; s.rallyState ≠ rExcluded ∧ (v ≠ s.obj K.rallyVersion ∨ s.rally.agreed = false) ∧ offers s.ownOffer v = false)) ∧
    (let s : State := { wm mRun [(K.laneRole 4, 2), (K.laneRole 6, 3), (K.laneRole 7, 4), (K.laneStatus 4, 2), (K.laneStatus 6, 2), (K.rallyLaneState 4, 2), (K.rallyLaneState 6, 2), (K.rallyLaneState 7, 2), (K.rallyState, rAligned), (K.rallyMember, 3), (K.rallyWhistleHops, 8), (K.deviceSafeOnWhistle, 0)] with rally := { Rally.none_ with lanes := [], members := [] } };
     let t : Nat := 5; let lane : Nat := 4;
     let f : Frag := ⟨fragHeader fWhistle true true 2 0 9 (([6, 1, 5, 0] ++ toLE 12 3)).length, ([6, 1, 5, 0] ++ toLE 12 3)⟩;
     s.held = false ∧ lane < laneCount s.variant ∧ 2 ≤ s.roleOfLane lane ∧
     [rAligning, rAligned, rHealing, rIsland].contains s.rallyState = true ∧ fragGood f fWhistle = true ∧
     (let seen := s.rally.seen.filter (fun e => decide (max s.clock t < e.2.2 + 10 * perMs));
     (seen.any (fun e => e.1 == leAt f.payload 0 1 && e.2.1 == leAt f.payload 2 2) = false) ∧ fragHop f < s.obj K.rallyWhistleHops ∧
     s.safeAsk = 0 ∧ s.obj K.deviceSafeOnWhistle ≠ 1)) ∧
    (let s : State := { wm mRun [(K.laneRole 4, 2), (K.laneRole 6, 3), (K.laneRole 7, 4), (K.laneStatus 4, 2), (K.laneStatus 6, 2), (K.rallyLaneState 4, 2), (K.rallyLaneState 6, 2), (K.rallyLaneState 7, 2), (K.rallyState, rAligned), (K.rallyMember, 3), (K.rallyWhistleHops, 8), (K.deviceSafeOnWhistle, 1)] with rally := { Rally.none_ with lanes := [], members := [] } };
     let t : Nat := 5; let lane : Nat := 4;
     let f : Frag := ⟨fragHeader fWhistle true true 2 0 9 (([6, 1, 5, 0] ++ toLE 12 3)).length, ([6, 1, 5, 0] ++ toLE 12 3)⟩;
     s.held = false ∧ lane < laneCount s.variant ∧ 2 ≤ s.roleOfLane lane ∧
     [rAligning, rAligned, rHealing, rIsland].contains s.rallyState = true ∧ fragGood f fWhistle = true ∧
     (let seen := s.rally.seen.filter (fun e => decide (max s.clock t < e.2.2 + 10 * perMs));
     (seen.any (fun e => e.1 == leAt f.payload 0 1 && e.2.1 == leAt f.payload 2 2) = false) ∧ fragHop f < s.obj K.rallyWhistleHops ∧
     s.obj K.deviceSafeOnWhistle = 1)) ∧
    (let s : State := wm mRun [(K.laneRole 4, 2), (K.laneRole 6, 3), (K.laneRole 7, 4), (K.laneStatus 4, 2), (K.laneStatus 6, 2), (K.rallyLaneState 4, 2), (K.rallyLaneState 6, 2), (K.rallyLaneState 7, 2), (K.rallyState, rAligned), (K.rallyMember, 3)];
     let lane : Nat := 4; let hop : Nat := 1; let dest : Nat := 6; let bytes : List Byte := [1,2,3];
     let next : Nat := (s.nextHop lane dest).getD 0; Awake s ∧ lane < laneCount s.variant ∧ 2 ≤ s.roleOfLane lane ∧
     s.rallyState ≠ rStandalone ∧ dest ≠ s.memberId ∧ s.nextHop lane dest = some next ∧ bytes ≠ [] ∧ hop < 15 ∧
     s.mayCarry next 6 = true ∧ (s.rallyLane next).busy = false) ∧
    (let s : State := { wm mRun [(K.laneRole 4, 2), (K.laneRole 6, 3), (K.laneRole 7, 4), (K.laneStatus 4, 2), (K.laneStatus 6, 2), (K.rallyLaneState 4, 2), (K.rallyLaneState 6, 2), (K.rallyLaneState 7, 2), (K.rallyState, rAligned), (K.rallyMember, 3), (K.graphNodeSource 9, 3), (K.graphNodeInput 9, 5), (K.graphNodeInput2 9, 2), (K.ctxTile 9, 0xFFFF), (K.ctxEngine 9, 0xFFFF), (K.ctxState 9, cFlowing)] with ctxs := [(9, { Ctx.none_ with cur := some ⟨7, 0, 0, 0, 0, 0, false, false, 0, false, false, 0⟩ })] };
     let lane : Nat := 4; let stream : Nat := 5; let data : List Byte := [1,2,3];
     let c : Nat := ((s.peerCtxs lane).find? (fun c => s.node (K.graphNodeInput c) == stream)).getD 0;
     let line : Cur := ((s.ctx c).cur).getD ⟨0,0,0,0,0,0,false,false,0,false,false,0⟩; s.held = false ∧ lane < laneCount s.variant ∧
     2 ≤ s.roleOfLane lane ∧ s.rallyState ≠ rStandalone ∧
     ((s.peerCtxs lane).find? (fun c => s.node (K.graphNodeInput c) == stream) = some c) ∧ (s.ctx c).cur = some line ∧
     line.empty = false ∧ data ≠ [] ∧ s.obj (K.ctxTile c) = 0xFFFF) ∧
    (let s : State := wm mRun [(K.laneRole 4, 2), (K.laneRole 6, 3), (K.laneRole 7, 4), (K.laneStatus 4, 2), (K.laneStatus 6, 2), (K.rallyLaneState 4, 2), (K.rallyLaneState 6, 2), (K.rallyLaneState 7, 2), (K.rallyState, rAligned), (K.rallyMember, 3)];
     let lane : Nat := 4; s.held = false ∧ lane < laneCount s.variant ∧ 2 ≤ s.roleOfLane lane ∧ s.rallyUp lane = true) ∧
    (let s : State := wm mRun [(K.laneRole 4, 2), (K.laneRole 6, 3), (K.laneRole 7, 4), (K.laneStatus 4, 2), (K.laneStatus 6, 2), (K.rallyLaneState 4, 2), (K.rallyLaneState 6, 2), (K.rallyLaneState 7, 2), (K.rallyState, rAligned), (K.rallyMember, 3), (K.rallyState, rHealing)];
     s.held = false ∧ s.rallyState = rHealing) ∧
    (let s : State := wm mRun [(K.laneRole 4, 2), (K.laneRole 6, 3), (K.laneRole 7, 4), (K.laneStatus 4, 2), (K.laneStatus 6, 2), (K.rallyLaneState 4, 2), (K.rallyLaneState 6, 2), (K.rallyLaneState 7, 2), (K.rallyState, rAligned), (K.rallyMember, 3), (K.rallyState, rHealing)];
     s.held = false ∧ s.rallyState = rHealing ∧ s.safeAsk = 0 ∧ (s.upLanes ≠ [] ∨ s.obj K.timeSource ≠ 2)) ∧
    (let s : State := { wm mRun [(K.laneRole 4, 2), (K.laneRole 6, 3), (K.laneRole 7, 4), (K.laneStatus 4, 2), (K.laneStatus 6, 2), (K.rallyLaneState 4, 2), (K.rallyLaneState 6, 2), (K.rallyLaneState 7, 2), (K.rallyState, rAligned), (K.rallyMember, 3), (K.pitchSource 4, 1), (K.pitchStatus 4, 2), (K.graphNodePitch 9, 4), (K.ctxState 9, cFlowing)] with ctxs := [(9, .none_)] };
     let p : Nat := 4; Awake s ∧ p < 16 ∧ s.mayStand = true ∧ s.obj (K.pitchSource p) = 1 ∧ isOn (s.obj (K.pitchStatus p)) = true ∧
     s.flowingPitches.contains p = true) := by
  simp only [← awake_eq]
  repeat' apply And.intro
  all_goals decide +kernel


/-- Commands at the front of a queue, and an empty queue. -/
theorem witness_StepTakesTheFrontCommand :
    ({ wm 2 [] with pending := [.refclkLoss 5, .porNLow 7] } : State).pending = .refclkLoss 5 :: [.porNLow 7] ∧ w0.pending = [] :=
  ⟨rfl, rfl⟩

/-- A tile that an SV4-128 has, and one that it lacks. -/
theorem witness_CompletesWherePresent :
    unitsPresent ({ wm 4 [] with variant := .sv4x128 } : State).variant (.tileFault 5 127 0) = true ∧
    unitsPresent ({ wm 4 [] with variant := .sv4x128 } : State).variant (.tileFault 5 128 0) = false := by decide

/-- A command that completes. -/
theorem witness_VariantAndQueueStand : ∃ t, exec (.refclkLoss 5) (wm 4 []) = .next t := ⟨_, rfl⟩

/-- A settled state in RUN that a step leaves. -/
theorem witness_StepKeepsSettled :
    Settled { wm 4 [] with pending := [.refclkLoss 5] } ∧ ∃ t, step { wm 4 [] with pending := [.refclkLoss 5] } = .next t :=
  ⟨⟨by decide +kernel, fun _ => by decide +kernel⟩, _, rfl⟩

/-- Masks, transfers at the top of the range, and a bad mask. -/
theorem witness_StoreMapIsOneToOne_masks :
    (∀ j < 9, u32At (schemeMasks 3 0) (4 * j) < 2 ^ 27) ∧ badMask (schemeMasks 3 0) = none ∧ 2 ^ 27 - 1 < 2 ^ 27 ∧
    badMask (withBits (schemeMasks 1 0) 287 256 0) = some 8 := by decide +kernel

/-! ## Ill-formed commands: one term for each check -/

theorem test_bad_port : wellFormed .sv4x256 (.read { rq K.deviceMode [] with port := 33 }) = false := by decide
theorem test_bad_lane_port : wellFormed .sv4x128 (.read { rq K.deviceMode [] with port := 24 }) = false := by decide
theorem test_bad_unit : wellFormed .sv4x128 (.tileFault 5 128 0) = false := by decide
theorem test_bad_bit : wellFormed .sv4x256 (.tileFault 5 3 8) = false := by decide
theorem test_bad_lane : wellFormed .sv4x128 (.laneLinkUp 5 8) = false := by decide
theorem test_bad_engine : wellFormed .sv4x256 (.primingComplete 5 64 0) = false := by decide
theorem test_bad_dac : wellFormed .sv4x256n (.deglitchHoldEnd 5 0) = false := by decide
theorem test_bad_synth : wellFormed .sv4x128 (.synthLocked 5 2 0) = false := by decide
theorem test_bad_client : wellFormed .sv4x256n (.grantHoldLimit 5 3 16) = false := by decide
theorem test_bad_rail : wellFormed .sv4x256n (.railReturn 5 7 9000) = false := by decide
theorem test_bad_source : wellFormed .sv4x256 (.eventClear (rq 0 [1]) 768) = false := by decide
theorem test_bad_span : wellFormed .sv4x256 (.padClear (rq 0 [1]) 256) = false := by decide
theorem test_bad_bus : wellFormed .sv4x128 (.busContention 5 (.selector 3 0 [5, 130])) = false := by decide
theorem test_bad_wire : wellFormed .sv4x256 (.fabricWireChange 5 (.strobe 1 16)) = false := by decide
theorem test_bad_ether : wellFormed .sv4x256 (.icmpEcho 5 0 1 []) = false := by decide
theorem test_bad_monitor_object : wellFormed .sv4x256 (.monitorWrite (rq 0 [1]) 3 1 7) = false := by decide
theorem test_bad_event_object : wellFormed .sv4x256 (.eventEnableWrite (rq 0 [1]) 3 3) = false := by decide
theorem test_bad_version : wellFormed .sv4x256 (.read { rq K.deviceMode [] with version := 256 }) = false := by decide
theorem test_bad_seq : wellFormed .sv4x256 (.write { rq K.deviceMode [1] with seq := 65536 }) = false := by decide
theorem test_bad_transfer : wellFormed .sv4x256 (.blockClose { rq K.deviceMode [] with transfer := 65536 }) = false := by decide
theorem test_bad_fragment : wellFormed .sv4x256 (.whistleFragment 5 3 ⟨2 ^ 64, []⟩) = false := by decide
theorem test_bad_symbols : wellFormed .sv4x256 (.fecSerCheck 5 3 9 10) = false := by decide
theorem test_bad_quanta : wellFormed .sv4x256 (.pauseFrame 5 3 65536) = false := by decide
theorem test_bad_mac : wellFormed .sv4x256 (.arpReply 5 3 0 (2 ^ 48)) = false := by decide
theorem test_bad_code : wellFormed .sv4x256 (.sampleInstant 5 3 0 [32768] false) = false := by decide
theorem test_well_formed : wellFormed .sv4x256 (.tileFault 5 255 7) = true := by decide

/-! ## The queue -/

theorem test_no_word : decodeTableWord 32 0xFFFFFFFF = none := rfl
theorem test_idle : step State.reset = .next State.reset := rfl
theorem test_front : step { w0 with pending := [.refclkLoss 5, .porNLow 7] } = exec (.refclkLoss 5) { w0 with pending := [.porNLow 7] } :=
  rfl

/-! ## Worked figures of the spec -/

/-- What a command leaves, read by a function; the given answer where it does not complete. -/
def after {α : Type} (c : Instr) (s : State) (no : α) (f : State → α) : α :=
  match exec c s with
  | .next t => f t
  | _ => no

/-- The message that leaves a port of the network first. -/
def sent (t : State) : List Byte :=
  match t.emitted with
  | .message _ _ m :: _ => m
  | _ => []

/-- 03, after R72: a READ of 0x0013:03 by a host on the management port of an SV4-128 is answered with 128 tiles. -/
theorem test_read_tiles :
    after (.read { rq (key 0x0013 3) [] with port := 3, ty := 3 }) { wm 2 [(K.portsMgmtLink, 3)] with variant := .sv4x128 } [] sent =
      [0x55, 0x10, 0x81, 0x01, 0x07, 0x00, 0x02, 0x00, 0x13, 0x00, 0x03, 0x03, 0, 0, 0, 0, 0x80, 0x00] := by decide +kernel

/-- 02, after R30: tile 128 of an SV4-128 is absent. -/
theorem test_absent_tile :
    ((after (.read { rq (key 0x3800 2) [] with port := 3 }) { wm 2 [(K.portsMgmtLink, 3)] with variant := .sv4x128 } [] sent).drop 12).take 2 =
      toLE 2 aAbsent := by decide +kernel

/-- 03, after R61: BENCH selects slot B by SPI, and the response has no body. -/
theorem test_select_slot :
    after (.mgmtSelectWrite { rq K.versionsMgmtSelect [1] with seq := 0x21, ty := 2 }) (wm 2 []) [] (fun t => (t.portState 0).responses) =
      [[0x55, 0x10, 0x82, 0x01, 0x21, 0x00, 0x00, 0x00, 0x00, 0x12, 0x05, 0x02, 0, 0, 0, 0]] := by decide +kernel

/-- 03, after R61: the selection is pending, the value in force stays. -/
theorem test_select_pends :
    after (.mgmtSelectWrite { rq K.versionsMgmtSelect [1] with seq := 0x21, ty := 2 }) (wm 2 []) (9, 9)
      (fun t => (t.obj K.versionsMgmtSelect, t.force K.versionsMgmtSelect)) = (1, 0) := by decide +kernel

/-- 03, after R61: the same write on the management port is refused with DENIED_PORT and the access byte 0xD1. -/
theorem test_select_denied :
    ((after (.mgmtSelectWrite { rq K.versionsMgmtSelect [1] with seq := 0x21, ty := 2, port := 3 }) (wm 2 [(K.portsMgmtLink, 3)]) [] sent).drop 12).take 8 =
      [0x02, 0x01, 0x00, 0x00, 0xD1, 0x00, 0x00, 0x00] := by decide +kernel

/-- 03, after R61: an RMW closes Umzin on lane L05 and answers the old and the new value. -/
theorem test_rmw_ports :
    after (.rmw { rq K.portsEnable (toLE 4 0x00200000 ++ toLE 4 0) with port := 1 }) (wm 2 []) []
      (fun t => (t.portState 1).responses.map (fun m => m.drop 16)) = [toLE 4 0xFFFF0001 ++ toLE 4 0xFFDF0001] := by decide +kernel

/-- 00, after R4: pad 45 is served by tiles 32 to 63 alone. -/
theorem test_preference : ∀ t < 256, (t ∈ preference 45) ↔ (32 ≤ t ∧ t < 64) := by decide +kernel

/-- 04, after R101: an enable written while a unit is STOPPING is pending, and the unit then starts and reads ON. -/
theorem test_enable_pending : enWrite 3 1 = 7 ∧ enEnd 7 = 1 ∧ enEnd 1 = 2 := by decide

/-- The check value of the IEEE 802.3 CRC-32 over "123456789". -/
theorem test_crc32 : crc32 [0x31, 0x32, 0x33, 0x34, 0x35, 0x36, 0x37, 0x38, 0x39] = 0xCBF43926 := by decide +kernel

/-- A byte of the Store that nothing has written, and one that a write changed. -/
theorem test_store_bytes : w0.byte 77 = 0 ∧ (w0.putBytes 76 [5, 6]).byte 77 = 6 ∧ Memory.wf ((w0.putBytes 76 [5, 0]).mem) = true := by
  decide +kernel

/-- R401: POR_N low holds the device, and a message then changes nothing. -/
theorem test_held : after (.porNLow 5) (wm mRun [(K.ctxState 9, cFlowing)]) (9, 9) (fun t => (t.mode, t.obj (K.ctxState 9))) = (mBoot, 0) := by
  decide +kernel

/-- R93: a request for SAFE from RUN enters it with the cause COMMAND. -/
theorem test_safe :
    after (.modeRequestSafe { rq 0 [] with port := 1 }) (wm mRun []) (9, 9) (fun t => (t.mode, t.obj K.deviceSafeCause)) = (mSafe, 1) := by
  decide +kernel

end Sys2Proof.Tests
end

/-! # Refused requests

How a request ends whose operation fails a check: the abort counts at its port and in its response, and nothing else changes. From this,
an access to an object of an absent unit ends with ABSENT (R30). -/

namespace Sys2Proof.Proofs

open Sys2Proof Sys2Proof.Machine Sys2Proof.Laws

/-! ## A request that is refused at the access point -/

/-- What a request leaves that ends with an abort: its counters, its trace record, its place in the cache and its response; the
counterpart of `State.answered`. -/
def refused (t : State) (q : Req) (op : Op) (quiet : Bool) (e : Abort) : State := t.conclude q op (.error e) quiet

/-- An admitted request whose operation fails a check. -/
theorem asks_failed {s : State} {q : Req} {op : Op} {e : Abort} (h : Admitted s q op)
    (hc : carry op q (s.access q) = failed (s.access q) e) :
    s.asks q op = .next (s.finish (refused (s.access q) q op ((s.access q).readsTrace q op) e)) := by
  obtain ⟨hport, hturned, hversion, hrescue⟩ := h
  have hquiet : (((s.begin_ q.at_).showQueue.arrive q).leaveQueue q).readsTrace q op = (s.access q).readsTrace q op := by
    unfold State.access State.readsTrace State.transferNamed
    simp only [tally_transfers]
  simp only [State.asks, State.runOf, hport, if_true, State.run, State.request, hturned, State.serve, hversion, ne_eq, not_true, if_false]
  rw [hquiet]
  unfold State.access at *
  simp only [hrescue, hc, failed, Except.toBool, Bool.false_eq_true, if_false, Bool.and_false]
  rfl

theorem same_set_congr {a b : State} (h : Same a b) (k v : Nat) : Same (a.set k v) (b.set k v) where
  variant := h.variant
  obj i hi := by rw [obj_set, obj_set, h.obj i hi]
  mem := h.mem
  clock := h.clock
  time := h.time
  inForce := h.inForce
  safeAsk := h.safeAsk
  ctxs := h.ctxs
  boot := h.boot
  porLow := h.porLow

/-- Whether a request is traced makes no difference to the objects that its abort counts in. -/
theorem same_tallyAbort_congr {a b : State} (h : Same a b) {p : Nat} (hk : a.obj (K.portsPortAborts p) = b.obj (K.portsPortAborts p))
    (code : Nat) : Same (a.tallyAbort p code) (b.tallyAbort p code) := by
  unfold State.tallyAbort State.tally
  rw [hk]
  split
  · exact h
  · exact same_set_congr (same_set_congr h _ _) _ _

/-- A refusal changes no object but the counters of aborts of its port. -/
theorem same_refused (t : State) (q : Req) (op : Op) (quiet : Bool) (e : Abort) :
    Same (refused t q op quiet e) (t.tallyAbort q.port e.code) := by
  unfold refused State.conclude
  extract_lets code m u
  have hu : Same (u.tallyAbort q.port e.code) (t.tallyAbort q.port e.code) := by
    cases quiet with
    | true => exact Same.refl _
    | false => exact same_tallyAbort_congr (same_traced ..) rfl _
  exact (same_respond ..).trans ((same_remember ..).trans hu)

theorem tallyAbort_obj_ne (t : State) {p k : Nat} (code : Nat) (h : k ∉ [K.portsPortAborts p, K.portsPortLastAbort p]) :
    (t.tallyAbort p code).obj k = t.obj k := by
  simp only [List.mem_cons, List.not_mem_nil, or_false, not_or] at h
  unfold State.tallyAbort
  split
  · rfl
  · rw [obj_set_ne _ _ h.2, obj_tally_ne _ _ _ h.1]

/-- What none of the counters of aborts shows is as it was. -/
theorem tallyAbort_keeps {α : Type} (f : State → α) (hs : ∀ s k v, f (s.set k v) = f s) (ht : ∀ s k w n, f (s.tally k w n) = f s)
    (t : State) (p code : Nat) : f (t.tallyAbort p code) = f t := by
  unfold State.tallyAbort
  split
  · rfl
  · rw [hs, ht]

theorem traced_ports (t : State) (i : Nat) (q : Req) (op : Op) (n : Nat) : (t.traced i q op n).ports = t.ports := by
  unfold State.traced
  rfl

theorem remember_responses (t : State) (q : Req) (op : Op) (b : List Byte) :
    ((t.remember q op b).portState q.port).responses = (t.portState q.port).responses := by
  unfold State.remember
  split
  · rfl
  · rw [portState_setPort_self]

/-- A message that is sent stands behind the responses that waited, or among what leaves. -/
theorem responds_respond (t : State) (q : Req) (m : List Byte) : Responds t (t.respond q.port q.src m) q m := by
  unfold Responds
  split
  · rename_i h
    simp only [State.respond, h, Bool.not_true, Bool.false_eq_true, if_false, portState_setPort_self]
  · rename_i h
    simp only [Bool.not_eq_true] at h
    simp [State.respond, h, State.emit]

/-- `Responds` looks at no more of the state before than the responses that wait at the request's port. -/
theorem responds_of_responses {s s' u : State} {q : Req} {m : List Byte}
    (h : (s.portState q.port).responses = (s'.portState q.port).responses) (r : Responds s u q m) : Responds s' u q m := by
  unfold Responds at *
  rw [← h]
  exact r

/-- A refused request has its response on its port. -/
theorem responds_refused (t : State) (q : Req) (op : Op) (quiet : Bool) (e : Abort) :
    Responds t (refused t q op quiet e) q (t.response q op (.error e)) := by
  unfold refused State.conclude
  extract_lets code m u
  have hu : u.ports = t.ports := by
    cases quiet with
    | true => rfl
    | false => exact traced_ports ..
  have hp : (u.tallyAbort q.port e.code).ports = u.ports := tallyAbort_keeps State.ports set_ports tally_ports ..
  refine responds_of_responses ?_ (responds_respond ..)
  rw [remember_responses]
  simp only [State.portState, code, hp, hu]

/-- A command that is a request whose operation fails a check: it is answered with the abort, and apart from the way to the access
point only the port's aborts count. -/
theorem completes_failed {c : Instr} {s : State} {q : Req} {op : Op} {e : Abort} (he : exec c s = s.asks q op) (hs : s.safeAsk = 0)
    (h : Admitted s q op) (hc : carry op q (s.access q) = failed (s.access q) e) :
    Completes c s (fun u => Responds (s.access q) u q ((s.access q).response q op (.error e)))
      (fun t => RequestFrame s t [K.portsPortAborts q.port, K.portsPortLastAbort q.port]) := by
  have keeps {α : Type} (f : State → α) hset htally := tallyAbort_keeps f hset htally (s.access q) q.port e.code
  have hr := same_refused (s.access q) q op ((s.access q).readsTrace q op) e
  refine completes_same (he.trans (asks_failed h hc)) ?_ ?_ (responds_refused ..) (fun t ht => ?_)
  · rw [hr.variant, keeps State.variant set_variant tally_variant, access_variant]
  · rw [hr.safeAsk, keeps State.safeAsk set_safeAsk tally_safeAsk, access_safeAsk, hs]
  · refine requestFrame_of h.1 ht hr (fun k _ hk _ => tallyAbort_obj_ne _ _ hk) ?_ ?_ ?_
    · rw [keeps State.mem set_mem tally_mem, access_mem]
    · rw [keeps State.ctxs set_ctxs tally_ctxs, access_ctxs]
    · rw [keeps State.inForce set_inForce tally_inForce, access_inForce]

/-! ## An object that is not found

Presence is check 2 of R59: each operation on an object ends with it before rights, type, length and range are looked at. -/

section
variable {s : State} {q : Req} {e : Abort} (h : s.find q.index q.sub = .error e)
include h

theorem checkObject_of_find_error (right : Nat → Nat → Bool) (zeroOk : Bool) (allowed : Row → Bool) :
    s.checkObject q right zeroOk allowed = .error e := by
  simp only [State.checkObject, h, bind, Except.bind]

theorem opRead_of_find_error : opRead q s = failed s e := by
  simp only [opRead, checkRead, checkObject_of_find_error h, bind, Except.bind]

theorem opReadMeta_of_find_error : opReadMeta q s = failed s e := by
  simp only [opReadMeta, checkMeta, checkObject_of_find_error h, bind, Except.bind]

theorem opBlockOpen_of_find_error : opBlockOpen q s = failed s e := by
  simp only [opBlockOpen, checkOpen, checkObject_of_find_error h, bind, Except.bind]

/-- A SUBSCRIBE that does not name an event node names an object. -/
theorem opSubscribe_of_find_error (hk : leAt q.body 0 1 ≠ 1) : opSubscribe q s = failed s e := by
  simp only [opSubscribe, checkSubscribe, hk, if_false, checkObject_of_find_error h, bind, Except.bind]

theorem opWrite_of_find_error (hg : guardQuadrants s q = .ok ()) : opWrite q s = failed s e := by
  simp only [opWrite, checkWrite, hg, checkObject_of_find_error h, bind, Except.bind]

theorem opRmw_of_find_error (hg : guardQuadrants s q = .ok ()) : opRmw q s = failed s e := by
  simp only [opRmw, checkRmw, hg, checkObject_of_find_error h, bind, Except.bind]

end

/-! ## An object of an absent unit -/

theorem find_of_absent {s : State} {index sub : Nat} {l : Loc} (h0 : sub ≠ 0) (hl : locate index sub = some l)
    (hu : s.hasUnit l = false) : s.find index sub = .error ⟨aAbsent, absentDetail l⟩ := by
  simp only [State.find, h0, if_false, hl, hu, Bool.false_eq_true]

/-- The last subindex that a row reaches. -/
def lastSub (r : Row) : Nat := r.sub + r.form.spread.sstride * (r.form.spread.scount - 1)

theorem sub_le_lastSub {r : Row} {index sub : Nat} {p : Nat × Nat} (h : r.place index sub = some p) : sub ≤ lastSub r := by
  unfold Row.place at h
  extract_lets f d e unit inner su sr at h
  have hlast : lastSub r = r.sub + f.sstride * (f.scount - 1) := rfl
  split at h
  · contradiction
  · rename_i hge
    split at h
    · rename_i hin
      simp only [Bool.and_eq_true, decide_eq_true_eq, beq_iff_eq] at hin
      obtain ⟨⟨-, hsu⟩, hsr⟩ := hin
      have he : e = f.sstride * su := by
        by_cases hz : f.sstride = 0
        · simpa only [sr, hz, if_true, Nat.zero_mul] using hsr
        · have := Nat.div_add_mod e f.sstride
          simp only [sr, hz, if_false] at hsr
          simp only [su, hz, if_false]
          omega
      have hle : f.sstride * su ≤ f.sstride * (f.scount - 1) := Nat.mul_le_mul_left _ (by omega)
      have hd : e = sub - r.sub := rfl
      omega
    · contradiction

theorem locateIn_some {rows : List Row} {index sub : Nat} {l : Loc} (h : locateIn index sub rows = some l) :
    l.row ∈ rows ∧ l.row.place index sub = some (l.unit, l.inner) := by
  induction rows with
  | nil => contradiction
  | cons r rs ih =>
    unfold locateIn at h
    split at h
    · rename_i hp
      cases h
      exact ⟨List.mem_cons_self .., hp⟩
    · exact (ih h).imp_left (List.mem_cons_of_mem _)

/-- Every row of the object tables keeps to subindices of one byte (R42). -/
theorem lastSub_lt_of_mem_rowsAt (index : Nat) : ∀ r ∈ rowsAt index, lastSub r < 256 := by
  unfold rowsAt
  repeat' refine iteInduction (motive := fun rows => ∀ r ∈ rows, lastSub r < 256) (fun _ => ?_) (fun _ => ?_)
  all_goals decide +kernel

theorem sub_lt_of_locate {index sub : Nat} {l : Loc} (h : locate index sub = some l) : sub < 256 := by
  obtain ⟨hmem, hplace⟩ := locateIn_some h
  exact (sub_le_lastSub hplace).trans_lt (lastSub_lt_of_mem_rowsAt index _ hmem)

/-- Where an object is found, its key gives its index and subindex back. -/
theorem locateKey_key {index sub : Nat} {l : Loc} (h : locate index sub = some l) : locateKey (key index sub) = some l := by
  have hsub := sub_lt_of_locate h
  have hi : key index sub / 256 = index := by unfold key; omega
  have hs : key index sub % 256 = sub := by unfold key; omega
  rw [locateKey, hi, hs, h]

theorem place_placerQuadrants : place K.placerQuadrants = some (.single, 0, 0, 15) := by decide +kernel

/-- The one object whose writes end before presence is looked at (R101) belongs to no unit that a variant lacks. -/
theorem guardQuadrants_of_absent {s : State} {q : Req} {l : Loc} (hl : locate q.index q.sub = some l) (hu : s.hasUnit l = false) :
    guardQuadrants s q = .ok () := by
  have hk : key q.index q.sub ≠ K.placerQuadrants := by
    intro hk
    have hp : (locateKey (key q.index q.sub)).map (fun l => (l.row.form, l.row.attr, l.unit, l.row.sub)) =
        some (.single, 0, 0, 15) := by
      rw [hk]
      exact place_placerQuadrants
    have hform : l.row.form = .single := by
      rw [locateKey_key hl] at hp
      simp only [Option.map_some, Option.some.injEq, Prod.mk.injEq] at hp
      exact hp.1
    have : s.hasUnit l = true := by simp [State.hasUnit, hform, Form.present]
    simp [this] at hu
  simp [guardQuadrants, need, hk]

/-- Settles O14: presence is looked at first, and an abort changes nothing but what counts it. -/
theorem absentUnitsAnswerAbsent : Obligations.AbsentUnitsAnswerAbsent := by
  unfold Obligations.AbsentUnitsAnswerAbsent
  intro s q c op l hs ha hop h0 hl hu
  have hf := find_of_absent h0 hl hu
  have hg := guardQuadrants_of_absent hl hu
  refine ⟨absentDetail l, fun _ => rfl, ?_⟩
  obtain ⟨rfl, rfl⟩ | ⟨rfl, rfl⟩ | ⟨rfl, rfl⟩ | ⟨rfl, rfl⟩ | ⟨rfl, rfl⟩ | ⟨rfl, rfl, hk⟩ := hop
  · exact completes_failed (exec_read q s) hs ha (opRead_of_find_error hf)
  · exact completes_failed (exec_readMeta q s) hs ha (opReadMeta_of_find_error hf)
  · exact completes_failed (exec_write q s) hs ha (opWrite_of_find_error hf hg)
  · exact completes_failed (exec_rmw q s) hs ha (opRmw_of_find_error hf hg)
  · exact completes_failed (exec_blockOpen q s) hs ha (opBlockOpen_of_find_error hf)
  · exact completes_failed (exec_subscribe q s) hs ha (opSubscribe_of_find_error hf hk)

end Sys2Proof.Proofs

/-! # Subindex 0x00

Subindex 0x00 of an index answers a constant of its own (R42), with the access r/r/r/r and the presence of the first row that the tables
have at the index. That this is the presence of every object there is a fact about the tables: rows that meet at an index start at one
index and spread over units that are present together. -/

namespace Sys2Proof.Proofs

open Sys2Proof Sys2Proof.Machine Sys2Proof.Laws

/-! ## Where a row stands: its indices and its subindices, each by itself -/

/-- The unit that an index names in a row whose units spread along the index. -/
def unitOf (r : Row) (index : Nat) : Nat := (index - r.idx) / r.form.spread.stride

/-- A row spreads to an index. -/
def reachesIndex (r : Row) (index : Nat) : Prop :=
  r.idx ≤ index ∧ unitOf r index < r.form.spread.count ∧ (index - r.idx) % r.form.spread.stride < r.form.spread.icount

/-- A row has a copy at a subindex. -/
def reachesSub (r : Row) (sub : Nat) : Prop :=
  r.sub ≤ sub ∧ (sub - r.sub) / r.form.spread.sstride < r.form.spread.scount ∧ (sub - r.sub) % r.form.spread.sstride = 0

/-- Index and subindex place an address independently; copies at several subindices are the units of a row that has one index. -/
theorem place_eq_some_iff {r : Row} {index sub : Nat} {p : Nat × Nat} :
    r.place index sub = some p ↔ (reachesIndex r index ∧ reachesSub r sub) ∧
      p = if r.form.spread.scount = 1 then (unitOf r index, (index - r.idx) % r.form.spread.stride)
        else if r.form.spread.count = 1 then ((sub - r.sub) / r.form.spread.sstride, 0)
        else (unitOf r index, (sub - r.sub) / r.form.spread.sstride) := by
  have hdiv (n m : Nat) : (if m = 0 then 0 else n / m) = n / m := by split <;> simp_all
  have hmod (n m : Nat) : (if m = 0 then n else n % m) = n % m := by split <;> simp_all
  simp only [Row.place, hdiv, hmod, reachesIndex, reachesSub, unitOf]
  split
  · rename_i hlt
    simp only [Bool.or_eq_true, decide_eq_true_eq] at hlt
    simp only [reduceCtorEq, false_iff]
    omega
  · rename_i hge
    simp only [Bool.or_eq_true, decide_eq_true_eq, not_or, Nat.not_lt] at hge
    simp only [hge, Bool.and_eq_true, decide_eq_true_eq, beq_iff_eq, true_and, and_assoc, ← apply_ite some, Option.ite_none_right_eq_some,
      Option.some.injEq, eq_comm (a := p)]

theorem place_isSome_iff {r : Row} {index sub : Nat} : (r.place index sub).isSome ↔ reachesIndex r index ∧ reachesSub r sub := by
  simp only [Option.isSome_iff_exists, place_eq_some_iff, exists_and_left, exists_eq, and_true]

theorem scount_pos (f : Form) : 0 < f.spread.scount := by cases f <;> decide

theorem reachesSub_first (r : Row) : reachesSub r r.sub := by simp [reachesSub, scount_pos]

theorem reachesSub_last (r : Row) : reachesSub r (lastSub r) := by
  have hpos := scount_pos r.form
  unfold reachesSub lastSub
  rw [Nat.add_sub_cancel_left, Nat.mul_mod_right]
  refine ⟨Nat.le_add_right .., ?_, rfl⟩
  obtain hz | hz := Nat.eq_zero_or_pos r.form.spread.sstride
  · simpa [hz] using hpos
  · rw [Nat.mul_div_cancel_left _ hz]
    omega

/-- At its own subindex a row names the unit of the index. -/
theorem unit_of_place_first {r : Row} {index : Nat} {p : Nat × Nat} (h : r.place index r.sub = some p) : p.1 = unitOf r index := by
  obtain ⟨⟨⟨-, hcount, -⟩, -⟩, rfl⟩ := place_eq_some_iff.1 h
  split
  · rfl
  · split
    · rename_i hone
      simp only [Nat.sub_self, Nat.zero_div]
      omega
    · rfl

/-! ## The object tables -/

/-- The object tables, one for each range of the index range map that has one (R43). -/
def tables : List (List Row) :=
  [rowsLayout, rowsDevice, rowsPorts, rowsVersions, rowsTime, rowsEncoder, rowsPitch, rowsRally, rowsBoard, rowsPlacer, rowsGraph,
    rowsTileA, rowsTileB, rowsContext, rowsEngine, rowsLane, rowsStore, rowsArb, rowsFabric, rowsScrub, rowsBackstop, rowsDac, rowsPins,
    rowsEvents, rowsCal, rowsProbe, []]

theorem rowsAt_mem_tables (index : Nat) : rowsAt index ∈ tables := by
  unfold rowsAt
  repeat' refine iteInduction (motive := fun rows => rows ∈ tables) (fun _ => ?_) (fun _ => ?_)
  all_goals simp only [tables, List.mem_cons, true_or, or_true]

/-- No row of the object tables stands at subindex 0x00 (R42). -/
theorem sub_pos_of_mem_rowsAt (index : Nat) : ∀ r ∈ rowsAt index, 0 < r.sub := by
  have htables : ∀ rows ∈ tables, ∀ r ∈ rows, 0 < r.sub := by decide +kernel
  exact htables _ (rowsAt_mem_tables index)

/-! ## The highest subindex of an index -/

theorem locateIn_isSome {rows : List Row} {r : Row} {index sub : Nat} (hr : r ∈ rows) (h : (r.place index sub).isSome) :
    (locateIn index sub rows).isSome = true := by
  induction rows with
  | nil => contradiction
  | cons r' rs ih =>
    unfold locateIn
    split
    · rfl
    · rename_i hnone
      obtain rfl | hr := List.mem_cons.1 hr
      · simp [hnone] at h
      · exact ih hr

theorem lastSub_le_highestIn {rows : List Row} {r : Row} {index : Nat} (hr : r ∈ rows) (h : reachesIndex r index) :
    lastSub r ≤ highestIn index rows := by
  induction rows with
  | nil => contradiction
  | cons r' rs ih =>
    unfold highestIn
    obtain rfl | hr := List.mem_cons.1 hr
    · simp only [place_isSome_iff.2 ⟨h, reachesSub_first r⟩, if_true]
      exact Nat.le_max_left ..
    · exact (ih hr).trans (Nat.le_max_right ..)

/-- The highest subindex is 0, or the last one of a row at the index. -/
theorem highestIn_cases (index : Nat) (rows : List Row) :
    highestIn index rows = 0 ∨ ∃ r ∈ rows, reachesIndex r index ∧ highestIn index rows = lastSub r := by
  induction rows with
  | nil => exact .inl rfl
  | cons r rs ih =>
    unfold highestIn
    extract_lets p top here
    obtain hle | hlt := le_or_gt here (highestIn index rs)
    · rw [max_eq_right hle]
      exact ih.imp_right fun ⟨r', hr', h⟩ => ⟨r', List.mem_cons_of_mem _ hr', h⟩
    · rw [max_eq_left hlt.le]
      by_cases hplace : (r.place index r.sub).isSome
      · exact .inr ⟨r, List.mem_cons_self .., (place_isSome_iff.1 hplace).1, if_pos hplace⟩
      · exact .inl (if_neg hplace)

theorem locate_reaches {index sub : Nat} {l : Loc} (h : locate index sub = some l) :
    l.row ∈ rowsAt index ∧ reachesIndex l.row index ∧ reachesSub l.row sub := by
  obtain ⟨hmem, hplace⟩ := locateIn_some h
  exact ⟨hmem, (place_eq_some_iff.1 hplace).1⟩

theorem sub_pos_of_locate {index sub : Nat} {l : Loc} (h : locate index sub = some l) : 0 < sub := by
  obtain ⟨hmem, -, hle, -⟩ := locate_reaches h
  exact (sub_pos_of_mem_rowsAt index _ hmem).trans_le hle

theorem le_highestSub {index sub : Nat} {l : Loc} (h : locate index sub = some l) : sub ≤ highestSub index := by
  obtain ⟨hmem, hindex, -⟩ := locate_reaches h
  exact (sub_le_lastSub (locateIn_some h).2).trans (lastSub_le_highestIn hmem hindex)

/-- Where an index has an object, its highest subindex names one. -/
theorem locate_highestSub {index sub : Nat} {l : Loc} (h : locate index sub = some l) :
    (locate index (highestSub index)).isSome = true := by
  obtain hzero | ⟨r, hr, hindex, htop⟩ := highestIn_cases index (rowsAt index)
  · have hpos := (sub_pos_of_locate h).trans_le (le_highestSub h)
    exact absurd hzero hpos.ne'
  · refine locateIn_isSome hr (place_isSome_iff.2 ⟨hindex, ?_⟩)
    rw [highestSub, htop]
    exact reachesSub_last r

/-! ## Rows that meet at an index -/

/-- All that a row's indices rest on: where they start, and the form that spreads them. -/
def base (r : Row) : Nat × Form := (r.idx, r.form)

/-- The last index that rows on a base spread to. -/
def lastIndex (b : Nat × Form) : Nat := b.1 + b.2.spread.stride * (b.2.spread.count - 1) + (b.2.spread.icount - 1)

/-- The remainders of the indices on a base modulo a divisor of its stride. -/
def residues (b : Nat × Form) (m : Nat) : List Nat := (List.range b.2.spread.icount).map (fun i => (b.1 + i) % m)

/-- Two bases have no index in common: one ends before the other starts, or they interleave. -/
def apart (b b' : Nat × Form) : Bool :=
  let m := Nat.gcd b.2.spread.stride b'.2.spread.stride
  lastIndex b < b'.1 || lastIndex b' < b.1 || (residues b m).all (fun x => !(residues b' m).contains x)

theorem index_le_lastIndex {r : Row} {index : Nat} (h : reachesIndex r index) : index ≤ lastIndex (base r) := by
  obtain ⟨hle, hcount, hinner⟩ := h
  have hsplit := Nat.div_add_mod (index - r.idx) r.form.spread.stride
  have hunit := Nat.mul_le_mul_left r.form.spread.stride (Nat.le_sub_one_of_lt hcount)
  unfold unitOf at hunit
  simp only [lastIndex, base]
  omega

theorem index_mod_mem_residues {r : Row} {index m : Nat} (h : reachesIndex r index) (hm : m ∣ r.form.spread.stride) :
    index % m ∈ residues (base r) m := by
  obtain ⟨hle, -, hinner⟩ := h
  refine List.mem_map.2 ⟨_, List.mem_range.2 hinner, ?_⟩
  have hmod : (index - r.idx) % r.form.spread.stride ≡ index - r.idx [MOD m] := (Nat.mod_modEq ..).of_dvd hm
  have hadd := hmod.add_left r.idx
  rwa [Nat.add_sub_cancel' hle] at hadd

theorem not_apart {r r' : Row} {index : Nat} (h : reachesIndex r index) (h' : reachesIndex r' index) :
    apart (base r) (base r') = false := by
  have hlast : index ≤ lastIndex (base r) := index_le_lastIndex h
  have hlast' : index ≤ lastIndex (base r') := index_le_lastIndex h'
  have hres := index_mod_mem_residues (m := Nat.gcd (base r).2.spread.stride (base r').2.spread.stride) h (Nat.gcd_dvd_left ..)
  have hres' := index_mod_mem_residues (m := Nat.gcd (base r).2.spread.stride (base r').2.spread.stride) h' (Nat.gcd_dvd_right ..)
  have hle : (base r).1 ≤ index := h.1
  have hle' : (base r').1 ≤ index := h'.1
  simp only [apart, Bool.or_eq_false_iff, decide_eq_false_iff_not, List.all_eq_false, Bool.not_eq_true', List.contains_eq_mem]
  exact ⟨⟨by omega, by omega⟩, _, hres, by simpa using hres'⟩

/-- Forms whose units are present together where rows of both start at one index. -/
def presentTogether (f g : Form) : Bool :=
  f == g || [f, g].all [Form.single, .tempDie].contains || [f, g].all [Form.tile, .testBus].contains

/-- In every object table, bases that are not apart are one index with forms that are present together. -/
theorem bases_apart_or_together : ∀ rows ∈ tables, ∀ b ∈ (rows.map base).dedup, ∀ b' ∈ (rows.map base).dedup,
    apart b b' = true ∨ b.1 = b'.1 ∧ presentTogether b.2 b'.2 = true := by
  decide +kernel

/-- Rows of the object tables that meet at an index start at one index, in forms that are present together. -/
theorem rows_meet {index : Nat} {r r' : Row} (hr : r ∈ rowsAt index) (hr' : r' ∈ rowsAt index) (h : reachesIndex r index)
    (h' : reachesIndex r' index) : r.idx = r'.idx ∧ presentTogether r.form r'.form = true := by
  have hb : base r ∈ ((rowsAt index).map base).dedup := List.mem_dedup.2 (List.mem_map_of_mem hr)
  have hb' : base r' ∈ ((rowsAt index).map base).dedup := List.mem_dedup.2 (List.mem_map_of_mem hr')
  refine (bases_apart_or_together _ (rowsAt_mem_tables index) _ hb _ hb').resolve_left ?_
  simp [not_apart h h']

/-! ## Presence at an index -/

/-- Presence looks at the form and the unit alone. -/
theorem hasUnit_congr (s : State) (l l' : Loc) (hf : l.row.form = l'.row.form) (hu : l.unit = l'.unit) :
    s.hasUnit l = s.hasUnit l' := by
  simp only [State.hasUnit, hf, hu]

theorem form_of_units_at_subindices {f : Form} : f.spread.scount ≠ 1 → f.spread.count = 1 → f = .seqDie ∨ f = .clockDie ∨ f = .tempDie := by
  cases f <;> decide

/-- Where a die is present, die 0 is. -/
theorem hasUnit_die_zero {s : State} {r : Row} {u i : Nat} (hf : r.form = .seqDie ∨ r.form = .clockDie ∨ r.form = .tempDie)
    (h : s.hasUnit ⟨r, u, i⟩ = true) : s.hasUnit ⟨r, 0, 0⟩ = true := by
  unfold State.hasUnit at *
  obtain hf | hf | hf := hf <;> simp [hf, Form.present] at h ⊢
  · exact h.pos
  · exact ⟨h.1, h.2.pos⟩
  · exact h.pos

/-- A present copy of a row at any subindex has a present unit at the row's own subindex. -/
theorem hasUnit_first {s : State} {r : Row} {index sub : Nat} {p : Nat × Nat} (hp : r.place index sub = some p)
    (h : s.hasUnit ⟨r, p.1, p.2⟩ = true) : s.hasUnit ⟨r, unitOf r index, 0⟩ = true := by
  obtain ⟨⟨⟨-, hcount, -⟩, -⟩, rfl⟩ := place_eq_some_iff.1 hp
  split at h
  · exact h
  · rename_i hscount
    split at h
    · rename_i hone
      have hzero : unitOf r index = 0 := by omega
      rw [hzero]
      exact hasUnit_die_zero (form_of_units_at_subindices hscount hone) h
    · exact h

/-- A test bus is present with the 32 tiles that it serves. -/
theorem present_testBus (v : Variant) (d : Nat) : Form.present v .testBus (d / 512) = Form.present v .tile (d / 16) := by
  have hcount : tileCount v = 128 ∨ tileCount v = 256 := by unfold tileCount; split <;> simp
  simp only [Form.present, decide_eq_decide]
  omega

/-- At one index, the units of forms that are present together are present together. -/
theorem hasUnit_of_presentTogether {s : State} {r r' : Row} {index : Nat} (hi : r.idx = r'.idx)
    (hf : presentTogether r.form r'.form = true) (h : s.hasUnit ⟨r, unitOf r index, 0⟩ = true) :
    s.hasUnit ⟨r', unitOf r' index, 0⟩ = true := by
  have htest := present_testBus s.variant (index - r'.idx)
  have hdie : 0 < dieCount s.variant := by cases s.variant <;> decide
  simp only [presentTogether, Bool.or_eq_true, beq_iff_eq, List.all_cons, List.all_nil, Bool.and_true, Bool.and_eq_true,
    List.contains_eq_mem, List.mem_cons, List.not_mem_nil, or_false, decide_eq_true_eq, or_assoc] at hf
  obtain hf | ⟨-, hf'⟩ | ⟨hf, hf'⟩ := hf
  · rw [← h]
    exact hasUnit_congr s _ _ hf.symm (by simp only [unitOf, hi, hf])
  · obtain hf' | hf' := hf' <;> simp [State.hasUnit, hf', unitOf, Form.spread, Form.present, hdie]
  · obtain hf | hf := hf <;> obtain hf' | hf' := hf' <;>
    simpa [State.hasUnit, hf, hf', hi, unitOf, Form.spread, htest] using h

/-! ## The row that stands for an index -/

/-- Where a row reaches an index, the first one that does is the object at its own subindex. -/
theorem anyRow_of_reaches {rows : List Row} {r : Row} {index : Nat} (hr : r ∈ rows) (h : reachesIndex r index) :
    ∃ l, anyRow index rows = some l ∧ locateIn index l.row.sub rows = some l := by
  induction rows with
  | nil => contradiction
  | cons r' rs ih =>
    unfold anyRow
    split
    · rename_i u i hplace
      exact ⟨_, rfl, by simp only [locateIn, hplace]⟩
    · rename_i hnone
      have hout : ¬ reachesIndex r' index := fun hreach => by
        simpa [hnone] using place_isSome_iff.2 ⟨hreach, reachesSub_first r'⟩
      obtain rfl | hr := List.mem_cons.1 hr
      · exact absurd h hout
      · obtain ⟨l, hany, hl⟩ := ih hr
        refine ⟨l, hany, ?_⟩
        have hskip : r'.place index l.row.sub = none := by
          rw [← Option.not_isSome_iff_eq_none, place_isSome_iff]
          exact fun hreach => hout hreach.1
        simp only [locateIn, hskip, hl]

theorem anyRow_of_locate {index sub : Nat} {l : Loc} (h : locate index sub = some l) :
    ∃ l₀, anyRow index (rowsAt index) = some l₀ ∧ locate index l₀.row.sub = some l₀ := by
  obtain ⟨hmem, hindex, -⟩ := locate_reaches h
  exact anyRow_of_reaches hmem hindex

/-- The row that stands for an index is present where any object of the index is. -/
theorem hasUnit_anyRow {s : State} {index sub : Nat} {l l₀ : Loc} (h : locate index sub = some l) (hu : s.hasUnit l = true)
    (h₀ : locate index l₀.row.sub = some l₀) : s.hasUnit l₀ = true := by
  obtain ⟨hmem, hreach, -⟩ := locate_reaches h
  obtain ⟨hmem₀, hreach₀, -⟩ := locate_reaches h₀
  have hfirst := hasUnit_first (locateIn_some h).2 hu
  have hunit₀ := unit_of_place_first (locateIn_some h₀).2
  obtain ⟨hi, hf⟩ := rows_meet hmem hmem₀ hreach hreach₀
  exact (hasUnit_congr s l₀ ⟨l₀.row, unitOf l₀.row index, 0⟩ rfl hunit₀).trans (hasUnit_of_presentTogether hi hf hfirst)

theorem find_zero_of_present {s : State} {index sub : Nat} {l : Loc} (h : locate index sub = some l) (hu : s.hasUnit l = true) :
    s.find index 0 = .ok ⟨zeroRow index, 0, 0⟩ := by
  obtain ⟨l₀, hany, h₀⟩ := anyRow_of_locate h
  simp only [State.find, if_true, hany, hasUnit_anyRow h hu h₀]

theorem find_zero_of_absent {s : State} {index sub : Nat} {l : Loc} (h : locate index sub = some l)
    (hu : ∀ sub l, locate index sub = some l → s.hasUnit l = false) : ∃ d, s.find index 0 = .error ⟨aAbsent, d⟩ := by
  obtain ⟨l₀, hany, h₀⟩ := anyRow_of_locate h
  refine ⟨absentDetail l₀, ?_⟩
  simp only [State.find, if_true, hany, hu _ _ h₀, Bool.false_eq_true, if_false]

/-! ## Rights at subindex 0x00 -/

/-- A port that answers confers a class. -/
theorem classOf_ne_zero {s : State} {p : Nat} (h : s.answers p = true) : s.classOf p ≠ 0 := by
  by_cases hp : p < 3 ∨ p = 3 ∨ p = 32
  · obtain hp | rfl | rfl := hp
    · simp [State.classOf, hp]
    · simp [State.classOf]
    · simp [State.classOf]
  · simp only [not_or] at hp
    obtain ⟨h1, h2, h3⟩ := hp
    simp only [State.answers, h1, h2, h3, beq_iff_eq, Bool.and_eq_true, Bool.or_eq_true, decide_eq_true_eq, bne_iff_ne, false_or] at h
    obtain ⟨-, -, -, hclass⟩ := h
    exact hclass

theorem classOf_le (s : State) (p : Nat) : s.classOf p ≤ 4 := by
  unfold State.classOf
  split_ifs <;> decide

theorem answers_of_turnedAway {s : State} {q : Req} {op : Op} (h : s.turnedAway q op = none) : s.answers q.port = true := by
  unfold State.turnedAway at h
  split at h
  · contradiction
  · rename_i hpass
    simp only [Bool.or_eq_true, Bool.not_eq_true', not_or, Bool.not_eq_false] at hpass
    exact hpass.1

/-- An admitted request meets the access point with a class. -/
theorem classOf_of_admitted {s : State} {q : Req} {op : Op} (h : Admitted s q op) : (s.access q).classOf q.port ≠ 0 := by
  obtain ⟨hport, hturned, -⟩ := h
  have harrived : Reached ((s.begin_ q.at_).showQueue.arrive q) s :=
    (reached_arrive _ _ (port_lt hport)).trans ((reached_poke _ _ _ (by decide)).trans (reached_begin ..))
  have hclass := classOf_ne_zero (answers_of_turnedAway hturned)
  rw [access_classOf s q hport]
  simpa only [State.classOf, harrived.obj _ (access_role _)] using hclass

/-- r/r/r/r (R45): every class may read. -/
theorem mayRead_constant {c : Nat} (h : c ≠ 0) (hle : c ≤ 4) : mayRead 0x55 c = true := by
  interval_cases c
  · contradiction
  all_goals rfl

/-- r/r/r/r (R45): no class may write. -/
theorem mayWrite_constant {c : Nat} (hle : c ≤ 4) : mayWrite 0x55 c = false := by
  interval_cases c <;> rfl

@[simp] theorem accessOf_zeroRow (index : Nat) : accessOf ⟨zeroRow index, 0, 0⟩ = 0x55 := rfl
@[simp] theorem zeroRow_form (index : Nat) : (zeroRow index).form = .single := rfl
@[simp] theorem zeroRow_ty (index : Nat) : (zeroRow index).ty = .u8 := rfl
@[simp] theorem zeroRow_size (index : Nat) : (zeroRow index).size = 1 := rfl
@[simp] theorem zeroRow_dflt (index : Nat) : (zeroRow index).dflt = highestSub index := rfl

/-! ## Requests on subindex 0x00 -/

/-- A command that is a request whose operation is answered with success and changes nothing: the counterpart of `completes_failed`. -/
theorem completes_unchanged {c : Instr} {s : State} {q : Req} {op : Op} {a : Answer} (he : exec c s = s.asks q op) (hs : s.safeAsk = 0)
    (h : Admitted s q op) (hc : carry op q (s.access q) = (s.access q, some (.ok a))) (hr : (s.access q).resets q op = false) :
    Completes c s (fun u => Responds s u q (okMessage u q op a.body a.ty a.transfer)) (fun t => RequestFrame s t []) :=
  completes_same (he.trans (asks_done _ _ _ _ _ h hc hr)) (by simp) (by simp [hs])
    (responds_congr (access_ports ..) (responds_answered ..))
    (fun _ ht => requestFrame_of h.1 ht (same_answered ..) (fun _ _ _ _ => rfl) (access_mem ..) (access_ctxs ..) (access_inForce ..))

/-- A READ of subindex 0x00 passes its checks and answers the highest subindex. -/
theorem opRead_zero {s : State} {q : Req} (hz : q.sub = 0) (hty : q.ty = 0 ∨ q.ty = Ty.u8.code) (hb : q.body = [])
    (hclass : s.classOf q.port ≠ 0) (hfind : s.find q.index 0 = .ok ⟨zeroRow q.index, 0, 0⟩) :
    opRead q s = done s (toLE 1 (highestSub q.index)) Ty.u8.code 0 := by
  have hright := mayRead_constant hclass (classOf_le s q.port)
  have hobject : s.checkObject q mayRead true (fun _ => true) = .ok ⟨zeroRow q.index, 0, 0⟩ := by
    simp [State.checkObject, hz, hfind, hright, need, hty.symm, bind, Except.bind]
  have hcheck : checkRead s q = .ok ⟨zeroRow q.index, 0, 0⟩ := by
    simp [checkRead, hobject, need, hb, guardRallyLane, bind, Except.bind]
  simp [opRead, hcheck, State.afterRead, State.readBytes, hz]

/-- A WRITE of subindex 0x00 ends with DENIED_PORT, whatever it brings. -/
theorem opWrite_zero {s : State} {q : Req} (hz : q.sub = 0) (hfind : s.find q.index 0 = .ok ⟨zeroRow q.index, 0, 0⟩) :
    opWrite q s = failed s ⟨aDenied, 0x55⟩ := by
  have hright := mayWrite_constant (classOf_le s q.port)
  have hguard : guardQuadrants s q = .ok () := by
    have hkey : key q.index q.sub ≠ K.placerQuadrants := by
      simp only [hz, key, K.placerQuadrants]
      omega
    simp [guardQuadrants, need, hkey]
  simp [opWrite, checkWrite, hguard, State.checkObject, hz, hfind, hright, need, bind, Except.bind]

/-- Settles O15: the tables give an index its highest subindex, and all that stands at one index is present together. -/
theorem subindexZeroNamesTheHighest : Obligations.SubindexZeroNamesTheHighest := by
  unfold Obligations.SubindexZeroNamesTheHighest
  refine ⟨fun _ _ _ hl => ⟨le_highestSub hl, locate_highestSub hl, sub_pos_of_locate hl⟩, fun s q hs hz hty => ⟨?_, ?_⟩⟩
  · intro sub l hl hu
    have hfind := find_zero_of_present hl hu
    refine ⟨fun ha hb => ?_, fun ha => ?_⟩
    · exact completes_unchanged (a := ⟨toLE 1 (highestSub q.index), Ty.u8.code, 0⟩) (exec_read q s) hs ha
        (opRead_zero hz hty hb (classOf_of_admitted ha) hfind) rfl
    · exact completes_failed (exec_write q s) hs ha (opWrite_zero hz hfind)
  · rintro hu ⟨sub, l, hl⟩ ha
    obtain ⟨d, hfind⟩ := find_zero_of_absent hl hu
    rw [← hz] at hfind
    obtain ⟨u, he, hresp, hframe⟩ := completes_failed (exec_read q s) hs ha (opRead_of_find_error hfind)
    exact ⟨u, he, ⟨d, hresp⟩, hframe⟩

end Sys2Proof.Proofs

/-! # What waits on the slave ports

What follows every command puts notices into the queues of the slave ports, never a response: unless it enters SAFE, the responses
that wait there are those that the command itself left. -/

namespace Sys2Proof.Proofs

open Sys2Proof Sys2Proof.Machine Sys2Proof.Laws

/-- What every step of a fold keeps, the fold keeps. -/
theorem foldl_keeps {α β : Type} (g : State → α) (f : State → β → State) (xs : List β) (s : State)
    (h : ∀ s x, g (f s x) = g s) : g (xs.foldl f s) = g s := by
  induction xs generalizing s with
  | nil => rfl
  | cons x xs ih => exact (ih (f s x)).trans (h s x)

/-! ## Units: their hidden state is apart from the ports -/

theorem settleFirst_ports (s : State) : s.settleFirst.ports = s.ports := by
  unfold State.settleFirst
  split <;> rfl

theorem linkReady_ports (s : State) : s.linkReady.ports = s.ports := by
  unfold State.linkReady
  split <;> rfl

theorem watchScene_ports (s : State) : s.watchScene.ports = s.ports := by
  unfold State.watchScene
  split
  · rfl
  · refine foldl_keeps State.ports _ _ _ fun t n => ?_
    split <;> rfl

theorem settleEvents_ports (s : State) : s.settleEvents.ports = s.ports := by
  refine foldl_keeps State.ports _ _ _ fun t n => ?_
  split
  · exact lower_ports ..
  · rfl

theorem showStreams_ports (s : State) : s.showStreams.ports = s.ports := foldl_keeps State.ports _ _ _ fun _ _ => rfl

theorem moveExport_ports (s : State) (c : Nat) : (s.moveExport c).ports = s.ports := by
  unfold State.moveExport
  split
  · split
    · rfl
    · exact showStreams_ports _
  · rfl

theorem showHold_ports (s : State) (n : Nat) : (s.showHold n).ports = s.ports := by
  unfold State.showHold
  extract_lets c t bit
  have ht : t.ports = s.ports := by
    simp only [t]
    split <;> rfl
  split <;> exact ht

theorem settleLanes_ports (s : State) : s.settleLanes.ports = s.ports :=
  (foldl_keeps State.ports _ _ _ fun _ _ => showHold_ports ..).trans (foldl_keeps State.ports _ _ _ fun _ _ => moveExport_ports ..)

theorem takePending_ports (s : State) (k : Nat) : (s.takePending k).ports = s.ports := by
  unfold State.takePending
  extract_lets v
  split <;> rfl

theorem capturePads_ports (s before : State) : (s.capturePads before).ports = s.ports := by
  unfold State.capturePads
  split
  · exact foldl_keeps State.ports _ _ _ fun _ _ => rfl
  · rfl

theorem keepPads_ports (s before : State) : (s.keepPads before).ports = s.ports := by
  unfold State.keepPads
  split
  · refine foldl_keeps State.ports _ _ _ fun t k => ?_
    split <;> rfl
  · rfl

theorem moveSwitches_ports (s before : State) : (s.moveSwitches before).ports = s.ports := by
  unfold State.moveSwitches
  split
  · exact foldl_keeps State.ports _ _ _ fun _ _ => takePending_ports ..
  · split
    · refine foldl_keeps State.ports _ _ _ fun t k => ?_
      split <;> rfl
    · rfl

theorem movePins_ports (s before : State) : (s.movePins before).ports = s.ports :=
  (moveSwitches_ports ..).trans ((keepPads_ports ..).trans (capturePads_ports ..))

theorem bsRounds_ports (p : Nat) (cells : List BsCell) (n : Nat) (s : State) : (State.bsRounds p cells n s).ports = s.ports := by
  induction n generalizing s with
  | zero => rfl
  | succ n ih =>
    unfold State.bsRounds
    extract_lets m next t
    split
    · rfl
    · exact ih t

theorem bsSettle_ports (s : State) (p : Nat) : (s.bsSettle p).ports = s.ports := by
  unfold State.bsSettle
  extract_lets cells
  split
  · rfl
  · exact bsRounds_ports ..

theorem settleBackstop_ports (s before : State) : (s.settleBackstop before).ports = s.ports := by
  unfold State.settleBackstop
  split
  · refine (bsSettle_ports ..).trans ?_
    split
    · rfl
    · exact bsSettle_ports ..
  · rfl

/-! ## Fabric logic -/

theorem passSector_ports (s : State) (q : Nat) : (s.passSector q).ports = s.ports := by
  unfold State.passSector
  extract_lets n level cl sigs outs macs t
  refine (foldl_keeps State.ports _ _ t fun u e => ?_).trans rfl
  split <;> rfl

theorem looseNets_ports (s : State) : s.looseNets.ports = s.ports :=
  foldl_keeps State.ports _ _ _ fun _ _ => foldl_keeps State.ports _ _ _ fun _ _ => rfl

theorem settleNets_ports (n : Nat) (s : State) : (State.settleNets n s).ports = s.ports := by
  induction n generalizing s with
  | zero => exact looseNets_ports s
  | succ n ih =>
    unfold State.settleNets
    extract_lets t
    split
    · rfl
    · exact (ih t).trans (foldl_keeps State.ports _ _ _ fun _ _ => passSector_ports ..)

theorem clockSector_ports (s : State) (q : Nat) (b n : Net) : (s.clockSector q b n).ports = s.ports := by
  refine foldl_keeps State.ports _ _ _ fun t e => ?_
  extract_lets x u r v level next
  have hv : v.ports = t.ports := (count_ports ..).trans rfl
  split <;> exact hv

theorem propagate_ports (n : Nat) (b : List (Nat × Net)) (s : State) : (State.propagate n b s).ports = s.ports := by
  induction n generalizing b s with
  | zero => rfl
  | succ n ih =>
    unfold State.propagate
    extract_lets t u
    have hu : u.ports = s.ports := (foldl_keeps State.ports _ _ t fun _ _ => clockSector_ports ..).trans (settleNets_ports ..)
    split
    · exact hu
    · exact (ih ..).trans hu

theorem modNets_ports (s : State) (qs : List Nat) (f : Nat → Net → Net) :
    (qs.foldl (fun t q => t.modNet q (f q)) s).ports = s.ports :=
  foldl_keeps State.ports _ _ _ fun _ _ => rfl

theorem triggerLines_ports (s : State) (p : Nat) : (s.triggerLines p).ports = s.ports := by
  unfold State.triggerLines State.pulse
  split
  · rfl
  · split
    · rfl
    · exact (propagate_ports ..).trans ((modNets_ports ..).trans ((propagate_ports ..).trans ((propagate_ports ..).trans
        (modNets_ports ..))))

theorem settleLogic_ports (s : State) : s.settleLogic.ports = s.ports := by
  unfold State.settleLogic
  split
  · rfl
  · exact propagate_ports ..

theorem settleUnits_ports (s before : State) : (s.settleUnits before).ports = s.ports := by
  unfold State.settleUnits
  split
  · rfl
  · exact (settleLogic_ports _).trans ((triggerLines_ports ..).trans ((settleBackstop_ports ..).trans ((movePins_ports ..).trans
      ((settleLanes_ports _).trans ((settleEvents_ports _).trans ((watchScene_ports _).trans (linkReady_ports _)))))))

/-! ## What leaves the ports -/

theorem launch_ports (s : State) (lane : Nat) (w : Waiting) : (s.launch lane w).ports = s.ports := by
  unfold State.launch
  extract_lets r t
  split <;> rfl

theorem offerFragment_ports (s : State) (lane : Nat) (w : Waiting) : (s.offerFragment lane w).ports = s.ports := by
  unfold State.offerFragment
  extract_lets x
  split
  · rfl
  · split
    · rfl
    · exact launch_ports ..

theorem sendUmzin_ports (s : State) (lane hop dest : Nat) (bs : List Byte) : (s.sendUmzin lane hop dest bs).ports = s.ports :=
  foldl_keeps State.ports _ _ _ fun _ _ => offerFragment_ports ..

theorem txFrame_ports (s : State) (n b : Nat) : (s.txFrame n b).ports = s.ports := by
  unfold State.txFrame
  extract_lets b x t
  have ht : t.ports = s.ports := (tally_ports ..).trans (tally_ports ..)
  split
  · exact ht
  · exact (set_ports ..).trans ht

theorem route_ports (s : State) (p : Nat) (e : Emission) : (s.route p e).ports = s.ports := by
  unfold State.route
  extract_lets n
  split
  · split <;> rfl
  · split
    · split
      · split
        · split
          · exact sendUmzin_ports ..
          · rfl
        · rfl
      · split
        · rfl
        · split
          · rfl
          · exact txFrame_ports ..
    · rfl

theorem routeAll_ports (s : State) : s.routeAll.ports = s.ports := by
  refine (foldl_keeps State.ports _ _ _ fun t e => ?_).trans rfl
  split
  · exact route_ports ..
  · exact route_ports ..
  · rfl

/-! ## Notices -/

/-- A notice waits among the notices of its port. -/
theorem sendNotice_responses (s : State) (n src : Nat) (b : List Byte) (p : Nat) :
    ((s.sendNotice n src b).portState p).responses = (s.portState p).responses := by
  have hset (x : PortState) (hx : x.responses = (s.portState n).responses) :
      ((s.setPort n x).portState p).responses = (s.portState p).responses := by
    by_cases h : p = n
    · rw [h, portState_setPort_self, hx]
    · rw [portState_setPort_ne s x h]
  unfold State.sendNotice
  extract_lets x
  split
  · rfl
  · split
    · exact hset _ rfl
    · simp only [State.portState, raise_ports]
      exact hset _ rfl

theorem sendEnded_responses (s : State) (p : Nat) : (s.sendEnded.portState p).responses = (s.portState p).responses :=
  foldl_keeps (fun t => (t.portState p).responses) _ _ _ fun _ _ => sendNotice_responses ..

theorem sendDue_responses (s : State) (p : Nat) : (s.sendDue.portState p).responses = (s.portState p).responses :=
  foldl_keeps (fun t => (t.portState p).responses) _ _ _ fun _ _ => sendNotice_responses ..

theorem markLate_ports (s before : State) (n : Nat) : (s.markLate before n).ports = s.ports := by
  unfold State.markLate
  split <;> rfl

theorem notices_responses (s before : State) (p : Nat) : ((s.notices before).portState p).responses = (s.portState p).responses := by
  unfold State.notices
  extract_lets t
  split
  · exact sendEnded_responses s p
  · calc (((t.markAll before).sendDue.markLate before t.changes.length).portState p).responses
        = ((t.markAll before).sendDue.portState p).responses := by simp only [State.portState, markLate_ports]
      _ = ((t.markAll before).portState p).responses := sendDue_responses ..
      _ = (s.portState p).responses := sendEnded_responses s p

/-! ## SAFE entry

Where what follows a command enters SAFE, `device.mode.target` shows it in the next state. -/

theorem same_flood (s : State) (but type hop channel : Nat) (payload : List Byte) : Same (s.flood but type hop channel payload) s :=
  same_foldl _ _ _ fun _ _ _ => same_offerFragment ..

theorem raiseWhistle_target (s : State) (cause : Nat) : (s.raiseWhistle cause).obj K.deviceModeTarget = s.obj K.deviceModeTarget := by
  unfold State.raiseWhistle
  split
  · rfl
  · extract_lets n t u
    rw [(same_flood ..).obj _ (by decide)]
    exact obj_count_ne t _ _ (by decide)

theorem showSafe_target (s : State) (causes bit : Nat) : (s.showSafe causes bit).obj K.deviceModeTarget = mSafe := by
  unfold State.showSafe State.setStep State.showHold_
  extract_lets t u
  rw [obj_count_ne _ _ _ (by decide), obj_set_ne _ _ (by decide), obj_set_ne _ _ (by decide), obj_set_ne _ _ (by decide),
    obj_set_ne _ _ (by decide), obj_set_ne _ _ (by decide), obj_set_ne _ _ (by decide), obj_set_self]

theorem enterSafe_ports_or_target (s : State) (mask : Nat) :
    (s.enterSafe mask).ports = s.ports ∨ (s.enterSafe mask).obj K.deviceModeTarget = mSafe := by
  unfold State.enterSafe
  extract_lets causes units placed undone shown stepped
  split
  · exact .inl rfl
  · right
    have hshown : shown.obj K.deviceModeTarget = mSafe :=
      (obj_raise_ne _ _ _ _ (by unfold eventKey; decide)).trans (showSafe_target ..)
    have hstepped : stepped.obj K.deviceModeTarget = mSafe := by
      simp only [stepped]
      split
      · exact (obj_set_ne _ _ (by decide)).trans hshown
      · exact hshown
    split
    · exact (raiseWhistle_target ..).trans hstepped
    · exact hstepped

theorem answerSafe_ports_or_target (s : State) : s.answerSafe.ports = s.ports ∨ s.answerSafe.obj K.deviceModeTarget = mSafe := by
  unfold State.answerSafe
  split
  · exact .inl rfl
  · extract_lets t
    have ht : t.ports = s.ports ∨ t.obj K.deviceModeTarget = mSafe := by
      simp only [t]
      split
      · exact .inl rfl
      · exact enterSafe_ports_or_target ..
    exact ht

/-! ## The responses after a command -/

/-- The target of the mode has one default in all variants. -/
theorem target_congr {s t : State} (h : s.dict = t.dict) : s.obj K.deviceModeTarget = t.obj K.deviceModeTarget := by
  have hdefault (v : Variant) : defaultOf v K.deviceModeTarget = defaultOf .sv4x128 K.deviceModeTarget := by
    cases v <;> rfl
  simp only [State.obj, Sp.get, h, hdefault]

/-- A command that ends with another target than SAFE leaves the responses on the slave ports as its own effect left them. -/
theorem finish_responses {before s : State} (p : Nat) (h : (before.finish s).obj K.deviceModeTarget ≠ mSafe) :
    ((before.finish s).portState p).responses = (s.portState p).responses := by
  have htarget : (before.finish s).obj K.deviceModeTarget = s.showQueue.settleFirst.answerSafe.obj K.deviceModeTarget :=
    (target_congr (by simp only [State.finish])).trans
      (((same_routeAll _).trans ((same_notices _ before).trans (same_settleUnits _ before))).obj _ (by decide))
  have hports : s.showQueue.settleFirst.answerSafe.ports = s.ports :=
    ((answerSafe_ports_or_target _).resolve_right (htarget ▸ h)).trans (settleFirst_ports _)
  calc ((before.finish s).portState p).responses
      = (((s.showQueue.settleFirst.answerSafe.settleUnits before).notices before).portState p).responses := by
        simp only [State.finish, State.portState, routeAll_ports]
    _ = ((s.showQueue.settleFirst.answerSafe.settleUnits before).portState p).responses := notices_responses ..
    _ = (s.portState p).responses := by simp only [State.portState, settleUnits_ports, hports]

end Sys2Proof.Proofs

/-! # Bad masks by a WRITE without a type

A WRITE names the type of its object: type 0x00 ends with TYPE (check 4 of R59; the table of the header in R51), before the
checks of the value. So a WRITE of type 0x00 that brings bad masks ends with TYPE and not with RANGE. -/

namespace Sys2Proof.Proofs

open Sys2Proof Sys2Proof.Machine Sys2Proof.Laws

/-- Subindices 0x03 and 0x05 of a port are apart from those of the mode. -/
theorem target_not_mem_aborts (p : Nat) : K.deviceModeTarget ∉ [K.portsPortAborts p, K.portsPortLastAbort p] := by
  simp only [List.mem_cons, List.not_mem_nil, or_false, not_or, K.deviceModeTarget, K.portsPortAborts, K.portsPortLastAbort, key]
  omega

/-- What a refused request leaves in a state whose target is not SAFE: its port has the abort's response, and no account of how the
command ends gives it another. -/
theorem response_of_completes_refused {c : Instr} {s : State} {q : Req} {op : Op} {e : Abort} {m : List Byte} {after : State → Prop}
    (he : exec c s = s.asks q op) (hs : s.safeAsk = 0) (ha : Admitted s q op) (hc : carry op q (s.access q) = failed (s.access q) e)
    (hqueued : isQueued q.port = true) (htarget : s.obj K.deviceModeTarget ≠ mSafe)
    (h : Completes c s (fun u => Responds (s.access q) u q m) after) : m = (s.access q).response q op (.error e) := by
  obtain ⟨u, hu, hresp, -⟩ := h
  obtain ⟨v, hv, hresp', hobj, -⟩ := completes_failed he hs ha hc
  simp only [Responds, hqueued, if_true] at hresp hresp'
  have hsame : s.finish v = s.finish u := Host.Outcome.next.inj (hv.symm.trans hu)
  have hv' : (s.finish v).obj K.deviceModeTarget ≠ mSafe := by
    rwa [hobj K.deviceModeTarget (by decide) (by decide) (target_not_mem_aborts _)]
  have hu' : (s.finish u).obj K.deviceModeTarget ≠ mSafe := by rwa [← hsame]
  have hwait : (u.portState q.port).responses = (v.portState q.port).responses := by
    rw [← finish_responses q.port hu', ← finish_responses q.port hv', hsame]
  rw [hresp, hresp'] at hwait
  exact List.singleton_inj.1 (List.append_cancel_left hwait)

/-- The abort code of a response stands in bytes 12 and 13 (R51). -/
theorem response_error_code (s : State) (q : Req) (op : Op) (e : Abort) :
    ((s.response q op (.error e)).drop 12).take 2 = toLE 2 e.code := rfl

/-- A WRITE of type 0x00 on an object that may be written ends with TYPE. -/
theorem opWrite_typeless {s : State} {q : Req} {l : Loc} (hk : key q.index q.sub ≠ K.placerQuadrants) (hty : q.ty = 0)
    (h : s.checkObject q mayWrite true (fun _ => true) = .ok l) : opWrite q s = failed s ⟨aType, l.row.ty.code⟩ := by
  have hcode : l.row.ty.code ≠ 0 := by cases l.row.ty <;> decide
  have hguard : guardQuadrants s q = .ok () := by simp [guardQuadrants, need, hk]
  have hobject : s.checkObject q mayWrite false (fun _ => true) = .error ⟨aType, l.row.ty.code⟩ := by
    unfold State.checkObject at h ⊢
    cases hf : s.find q.index q.sub with
    | error e => simp [hf, bind, Except.bind] at h
    | ok l' =>
      by_cases hr : mayWrite (accessOf l') (s.classOf q.port) = true
      · obtain rfl : l' = l := by simpa [hf, hr, hty, need, bind, Except.bind] using h
        simp [hr, hty, hcode.symm, need, bind, Except.bind]
      · simp [hf, hr, need, bind, Except.bind] at h
  simp only [opWrite, checkWrite, hguard, hobject, bind, Except.bind]

/-- A device that has booted and is in RUN. -/
def bootedInRun : State :=
  { State.reset with porLow := false, boot := ⟨.done, 0, false, 0, true, true, false⟩ }.poke K.deviceMode mRun

/-- A WRITE of `store.map.masks` by SPI with type 0x00, whose masks are all bad. -/
def typelessMasks : Req := ⟨0, 0, 0, 0x10, 7, 0x5804, 3, 0, 0, toLE 36 7, 0, 0⟩

theorem typelessMasks_admitted : Admitted bootedInRun typelessMasks .write :=
  ⟨rfl, by decide +kernel, rfl, by decide +kernel⟩

theorem typelessMasks_passes :
    ∃ l, (bootedInRun.access typelessMasks).checkObject typelessMasks mayWrite true (fun _ => true) = .ok l := ⟨_, rfl⟩

/-- Refutes O38: its clause on bad masks checks the object as operations do that take type 0x00 for the object's own, which a WRITE does
not. In RUN, a WRITE by SPI of type 0x00 with nine bad masks meets that clause's hypotheses and ends with TYPE, not with RANGE. -/
theorem not_storeMapIsOneToOne : ¬ Obligations.StoreMapIsOneToOne := by
  unfold Obligations.StoreMapIsOneToOne
  rintro ⟨-, -, -, hrange⟩
  obtain ⟨l, hl⟩ := typelessMasks_passes
  have hclaimed := hrange bootedInRun typelessMasks l 0 rfl rfl rfl typelessMasks_admitted hl rfl (by decide +kernel)
  have hwrite := opWrite_typeless (by decide : key typelessMasks.index typelessMasks.sub ≠ K.placerQuadrants) rfl hl
  have hresponse := response_of_completes_refused (exec_write ..) rfl typelessMasks_admitted hwrite rfl (by decide) hclaimed
  have hcode : toLE 2 aRange = toLE 2 aType := by
    simpa only [response_error_code] using congrArg (fun m => (m.drop 12).take 2) hresponse
  exact absurd hcode (by decide)

end Sys2Proof.Proofs

section
/-! # Keys

The objects that the closing of a command, or a request's way to the access point, may move, as arithmetic on index and subindex. -/

set_option Elab.async false

namespace Sys2Proof.Proofs

open Sys2Proof Sys2Proof.Machine Sys2Proof.Laws

theorem key_div {i b : Nat} (h : b < 256) : key i b / 256 = i := by unfold key; omega
theorem key_mod {i b : Nat} (h : b < 256) : key i b % 256 = b := by unfold key; omega

/-- A key gives its index and its subindex back. -/
theorem key_inj {i j b c : Nat} (hb : b < 256) (hc : c < 256) : key i b = key j c ↔ i = j ∧ b = c := by
  unfold key
  omega

theorem settledKey_key_iff {i b : Nat} (h : b < 256) : settledKey (key i b) = true ↔
    (i = 0x1001 ∧ b = 2) ∨ (i = 0x1000 ∧ b = 6) ∨ (i = 0x1152 ∧ b = 1) ∨ (i = 0x1100 ∧ b = 5) ∨ (0x4000 ≤ i ∧ i < 0x4400 ∧ b = 6) ∨
    (0x6010 ≤ i ∧ i < 0x6014 ∧ b = 5) ∨
    (0x5000 ≤ i ∧ i < 0x5400 ∧ (i % 64 = 0 ∨ i % 64 = 3 ∨ i % 64 = 4) ∧ (b = 1 ∨ b = 2 ∨ b = 3 ∨ b = 5)) ∨
    (0x6800 ≤ i ∧ i < 0x6860 ∧ (b = 1 ∨ b = 5)) ∨ (0x7000 ≤ i ∧ i < 0x7300 ∧ b = 1) ∨ (i = 0x72FE ∧ (b = 5 ∨ b = 8 ∨ b = 9)) := by
  simp only [settledKey, keyIn, key_div h, key_mod h, K.deviceSafeFirst, K.deviceModeStep, K.portsMgmtTxFrames, K.portsQueue,
    Bool.or_eq_true, Bool.and_eq_true, beq_iff_eq, decide_eq_true_eq, List.contains_eq_mem, List.mem_cons, List.not_mem_nil, or_false,
    key_inj h (show (2 : Nat) < 256 by decide), key_inj h (show (6 : Nat) < 256 by decide), key_inj h (show (1 : Nat) < 256 by decide),
    key_inj h (show (5 : Nat) < 256 by decide)]
  have h766 : 0x72FE ≤ i ∧ i < 0x72FE + 1 ↔ i = 0x72FE := by omega
  simp only [h766, Nat.reduceAdd, or_assoc, and_assoc]

theorem accessKey_key_iff {i b : Nat} (h : b < 256) : accessKey (key i b) = true ↔
    (0x1120 ≤ i ∧ i < 0x1141 ∧ b = 2) ∨ (i = 0x1100 ∧ b = 5) ∨ (i = 0x1152 ∧ b = 2) ∨
    (0x5000 ≤ i ∧ i < 0x5400 ∧ i % 64 = 4 ∧ (b = 3 ∨ b = 4)) := by
  simp only [accessKey, keyIn, key_div h, key_mod h, K.portsMgmtRxFrames, K.portsQueue,
    Bool.or_eq_true, Bool.and_eq_true, beq_iff_eq, decide_eq_true_eq, List.contains_eq_mem, List.mem_cons, List.not_mem_nil, or_false,
    key_inj h (show (2 : Nat) < 256 by decide), key_inj h (show (5 : Nat) < 256 by decide)]
  omega

/-- An object that the closing of a command leaves as the command left it. -/
theorem settledKey_key_false {i b : Nat} (h : b < 256) (hne : ¬((i = 0x1001 ∧ b = 2) ∨ (i = 0x1000 ∧ b = 6) ∨ (i = 0x1152 ∧ b = 1) ∨
    (i = 0x1100 ∧ b = 5) ∨ (0x4000 ≤ i ∧ i < 0x4400 ∧ b = 6) ∨ (0x6010 ≤ i ∧ i < 0x6014 ∧ b = 5) ∨
    (0x5000 ≤ i ∧ i < 0x5400 ∧ (i % 64 = 0 ∨ i % 64 = 3 ∨ i % 64 = 4) ∧ (b = 1 ∨ b = 2 ∨ b = 3 ∨ b = 5)) ∨
    (0x6800 ≤ i ∧ i < 0x6860 ∧ (b = 1 ∨ b = 5)) ∨ (0x7000 ≤ i ∧ i < 0x7300 ∧ b = 1) ∨
    (i = 0x72FE ∧ (b = 5 ∨ b = 8 ∨ b = 9)))) : settledKey (key i b) = false := by
  rw [← Bool.not_eq_true, settledKey_key_iff h]
  exact hne

end Sys2Proof.Proofs
end

section
/-! # How commands end

Every command either completes, with what follows every command, or names a unit that is not there. -/

namespace Sys2Proof.Proofs

open Sys2Proof Sys2Proof.Machine Sys2Proof.Laws

/-- A command completes, with what follows every command, exactly where a condition holds; elsewhere it stops with noUnit. -/
def EndsIf (b : Bool) (s : State) (o : Host.Outcome State Fault Refusal) : Prop :=
  (b = true → ∃ u, o = .next (s.finish u)) ∧ (b = false → o = .fault .noUnit)

section
variable {b : Bool} {s : State} {o : Host.Outcome State Fault Refusal}

theorem runOf_ends {c : Bool} {t : Nat} {f : State → State} (ho : o = s.runOf c t f) (hb : b = c) : EndsIf b s o := by
  rw [ho, hb]
  cases c
  · exact ⟨nofun, fun _ => rfl⟩
  · exact ⟨fun _ => ⟨_, rfl⟩, nofun⟩

theorem run_ends {t : Nat} {f : State → State} (ho : o = s.run t f) (hb : b = true) : EndsIf b s o := runOf_ends (c := true) ho hb

theorem event_ends {t : Nat} {f : State → State} (ho : o = s.event t f) (hb : b = true) : EndsIf b s o := run_ends ho hb

theorem eventOf_ends {c : Bool} {t : Nat} {f : State → State} (ho : o = s.eventOf c t f) (hb : b = c) : EndsIf b s o :=
  runOf_ends ho hb

theorem asks_ends {q : Req} {op : Op} (ho : o = s.asks q op) (hb : b = portPresent s.variant q.port) : EndsIf b s o :=
  runOf_ends ho hb

theorem writesOf_ends {c : Bool} {q : Req} {k : Nat} (ho : o = s.writesOf c q k) (hb : b = (c && portPresent s.variant q.port)) :
    EndsIf b s o := by
  rw [ho, hb]
  cases c
  · exact ⟨nofun, fun _ => rfl⟩
  · exact asks_ends rfl rfl

end

/-- Every command ends with what follows every command, or with noUnit where a unit that it names is not there. -/
theorem exec_ends (c : Instr) (s : State) : EndsIf (unitsPresent s.variant c) s (exec c s) := by
  cases c with
  | read | write | rmw | readMeta | blockOpen | blockSegment | blockClose | blockAbort | subscribe | unsubscribe | replay =>
    exact asks_ends rfl rfl
  | modeRequestStandby | modeRequestPrepare | modeRequestRun | modeRequestHold | modeRequestSafe | modeRequestCancel
  | modeLoad | safeClear | deviceReset | versionsAcceptWrite | mgmtSelectWrite | timeSet | boardCommit | graphCommit
  | placerTrial | defectAdd | defectClear | arbClearAll | arbLiberoWrite | arbSyncClear | probeArm | backstopActivate
  | scrubEnable | calInternal | calDark | calFlat | mgmtClear | clearNode | eventTest =>
    exact asks_ends rfl rfl
  | encPresetWrite | encFilterWrite | encEnable | feEnable | coefSetWrite | ctxRetry | ctxSwap | ctxRingResume
  | arbClientClear | storePcClear | configSectorReload | ilvReset | monitorWrite | sceneEnableWrite | padClear
  | padTermWrite | padTestWrite | bufPeakClear | dacEnable | dacClear | laneEnable | laneClear | gpioBankWrite
  | gpioOutWrite | gpioFuncWrite | patternWrite | eventClear | eventEnableWrite | eventLatchWrite =>
    exact writesOf_ends rfl rfl
  | blockTransferSilence | subscriptionLeaseExpiry | periodicNotice | spiStatus
  | parallelStatusRead | umzinRsp | prepareStepEnd | alignLimitExpiry
  | holdTakesEffect | drainComplete | shutdownStepEnd | wakeStepEnd | safeRingsFreeze | watchdogExpiry | watchdogReset
  | shadowCopyComplete | backstopLive | storeTrainingEnd | refclkDetected | bootHeaderRead | bootImageRead
  | firmwareConfirmed | confirmTimeout | tempSensorRead | refclkLoss | refclkReturn | holdoverLimitExpiry | ptpMessage
  | ptpAnnounceTimeout | healingTimeout | negotiationWindow | boardProgrammed | trialComplete | cadenceRefresh
  | stackTempRead | regionCopyComplete | shadowPatrol | probeTrigger | probeDone | backstopProgrammed | backstopLatchCheck
  | reloadStepEnd | scrubFrame | scrubWatchdog | ladderTraceEnd | invarCheck | backstopOscEdge | macrocellsReloaded
  | mgmtLinkUp | mgmtLinkDown =>
    exact event_ends rfl rfl
  | spiResponse => exact event_ends (exec_spiResponse ..) rfl
  | spiNotification => exact event_ends (exec_spiNotification ..) rfl
  | parallelResponseRead => exact event_ends (exec_parallelResponseRead ..) rfl
  | parallelNotificationRead => exact event_ends (exec_parallelNotificationRead ..) rfl
  | runEntryTrigger | autoResume | firmwareSlotProgrammed | synthLocked | encoderZEdge | encoderWindow | encoderStandstill
  | encoderSignalLoss | lineTrigger | cdsLineEnd | rallyTimeSend | rallyTimeFragment | sharedTriggerAnnounce
  | triggerHeartbeat | rallyTriggerFragment | triggerTimeout | rallyTrackFragment | rallyControlFragment | whistleFragment
  | umzinFragment | streamFragment | rallyLaneLost | backstopWhistle | feBatch | primingComplete | substitutionStepEnd
  | substitutionSwitch | swappedCountExpiry | pieceMoveStepEnd | arbGrant | grantHoldLimit | writeDrainStart | writeDrainEnd
  | refreshInterval | tailFlushTimeout | rtWaitExceeded | parityRetry | calRunEnd | sceneRunEnd | limitRefresh
  | ilvWordCount | tileFault | monitorTrip | busContention | contentionRecovery | padOverload | dacStrobe | deglitchHoldEnd
  | safeMoveEnd | dacCurrentLimit | dacShortTimeout | laneLinkUp | laneLinkDown | fecUncorrectable | fecSerCheck
  | pauseFrame | pauseExpiry | flowLimitExpiry | arpRequest | icmpEcho | arpReply | resolutionRetry | resolutionRefresh
  | streamPacketSend | pinLatchCapture | funcFirstHandshake | bankVioCheck | patternMatch | sampleInstant | portCellWord
  | fabricWireChange | paceWireEdge | enableTransitionEnd | messageDropped | frameDropped | fragmentDropped
  | fragmentBoundary | faultOrderedSets =>
    exact eventOf_ends rfl rfl
  | porNLow | porNRelease | safeNLow | safeNRelease =>
    exact run_ends rfl rfl
  | requestQueueTimeout | railExcursion | railBelowReset | dacSupplyLoss | encoderEdge | pinInputChange | railReturn =>
    exact runOf_ends rfl rfl

/-- Settles O2. -/
theorem completesWherePresent : Obligations.CompletesWherePresent := by
  unfold Obligations.CompletesWherePresent
  intro c s
  obtain ⟨hnext, hfault⟩ := exec_ends c s
  exact ⟨fun h => (hnext h).imp' s.finish fun _ => id, hfault⟩

theorem finish_of_exec {c : Instr} {s t : State} (h : exec c s = .next t) : ∃ u, t = s.finish u := by
  obtain ⟨hnext, hfault⟩ := exec_ends c s
  cases hp : unitsPresent s.variant c with
  | true =>
    obtain ⟨u, hu⟩ := hnext hp
    exact ⟨u, Host.Outcome.next.inj (h.symm.trans hu)⟩
  | false => exact absurd (h.symm.trans (hfault hp)) nofun

/-- Settles O3: the variant, the queue and a SAFE entry owed are what follows every command sets last. -/
theorem variantAndQueueStand : Obligations.VariantAndQueueStand := by
  unfold Obligations.VariantAndQueueStand
  intro c s t h
  obtain ⟨u, rfl⟩ := finish_of_exec h
  exact ⟨finish_variant s u, finish_pending s u, finish_safeAsk s u⟩

/-- Settles O1. -/
theorem stepTakesTheFrontCommand : Obligations.StepTakesTheFrontCommand := by
  unfold Obligations.StepTakesTheFrontCommand
  refine fun s => ⟨fun c rest h => ?_, fun h => ?_⟩ <;> simp only [step, h]

end Sys2Proof.Proofs
end

section
/-! # What every step keeps

Sources that follow an ended condition fall near the end of every command (R405). What comes after that moves no condition and raises no
source but 766, which follows none. -/

set_option Elab.async false

namespace Sys2Proof.Proofs

open Sys2Proof Sys2Proof.Machine Sys2Proof.Laws

/-! ## The statuses of the sources but 766 -/

/-- The statuses of the sources but 766, which alone the closing of a command may raise. -/
def statuses (s : State) : Nat → Nat := fun n => if n < 768 ∧ n ≠ 766 then s.obj (K.eventStatus n) else 0

/-- Whether a key is none of the statuses of sources. -/
abbrev OffStatus (k : Nat) : Prop := k < 0x700000 ∨ 0x730000 ≤ k ∨ k % 256 ≠ 1 ∨ k = K.eventStatus 766

theorem statuses_congr {a b : State} (h : ∀ n < 768, n ≠ 766 → a.obj (K.eventStatus n) = b.obj (K.eventStatus n)) :
    statuses a = statuses b := by
  funext n
  unfold statuses
  split
  · rename_i hn
    exact h n hn.1 hn.2
  · rfl

theorem eventStatus_ne_of_offStatus {n k : Nat} (hn : n < 768) (h766 : n ≠ 766) (hk : OffStatus k) : K.eventStatus n ≠ k := by
  rintro rfl
  simp only [OffStatus, K.eventStatus, key] at hk
  omega

/-- A change of fields that hold no object. -/
theorem statuses_of_dict {a b : State} (hd : a.dict = b.dict) (hv : a.variant = b.variant) : statuses a = statuses b :=
  statuses_congr fun _ _ _ => by simp only [State.obj, hd, hv]

theorem statuses_set (s : State) {k : Nat} (v : Nat) (h : OffStatus k) : statuses (s.set k v) = statuses s :=
  statuses_congr fun _ hn h766 => obj_set_ne s v (eventStatus_ne_of_offStatus hn h766 h)

theorem statuses_poke (s : State) {k : Nat} (v : Nat) (h : OffStatus k) : statuses (s.poke k v) = statuses s :=
  statuses_congr fun _ hn h766 => obj_poke_ne s v (eventStatus_ne_of_offStatus hn h766 h)

theorem statuses_raise766 (s : State) (d : Nat) : statuses (s.raise 766 d) = statuses s := by
  refine statuses_congr fun n hn h766 => obj_raise_ne s 766 d _ ?_
  simp only [eventKey, K.eventStatus, K.eventCount, K.eventTime, K.eventDetail, key]
  omega

/-! ## What comes after the sources have settled -/

theorem statuses_foldl {β : Type} (f : State → β → State) (xs : List β) (s : State)
    (h : ∀ s, ∀ x ∈ xs, statuses (f s x) = statuses s) : statuses (xs.foldl f s) = statuses s := by
  induction xs generalizing s with
  | nil => rfl
  | cons x xs ih =>
    exact (ih (f s x) fun s y hy => h s y (List.mem_cons_of_mem _ hy)).trans (h s x (List.mem_cons_self ..))

theorem statuses_ite {c : Prop} [Decidable c] {a b s : State} (ha : statuses a = statuses s) (hb : statuses b = statuses s) :
    statuses (if c then a else b) = statuses s := by
  split
  · exact ha
  · exact hb

/-- The objects of lanes stand below the event sources. -/
theorem offStatus_lane {n : Nat} (h : n < 16) (i b : Nat) (hi : i < 64) (hb : b < 256) :
    OffStatus (key (0x5000 + i + 64 * n) b) := by
  simp only [OffStatus, key]
  omega

theorem statuses_showHold (s : State) {n : Nat} (h : n < 16) : statuses (s.showHold n) = statuses s := by
  have hcause : OffStatus (K.laneHoldCause n) := offStatus_lane h 3 5 (by decide) (by decide)
  have hstatus : OffStatus (K.laneStatus n) := offStatus_lane h 0 2 (by decide) (by decide)
  unfold State.showHold
  extract_lets c t bit
  have ht : statuses t = statuses s := statuses_ite rfl (statuses_set s _ hcause)
  split
  · exact ht
  · exact (statuses_set t _ hstatus).trans ht

theorem statuses_showStreams (s : State) : statuses s.showStreams = statuses s := by
  refine statuses_foldl _ _ _ fun t n hn => ?_
  have hl := allLanes_lt _ n hn
  exact (statuses_set _ _ (offStatus_lane hl 3 1 (by decide) (by decide))).trans
    (statuses_set _ _ (offStatus_lane hl 3 3 (by decide) (by decide)))

theorem statuses_moveExport (s : State) {c : Nat} (h : c < 1024) : statuses (s.moveExport c) = statuses s := by
  have hk : OffStatus (K.ctxLane c) := by
    simp only [OffStatus, K.ctxLane, key]
    omega
  unfold State.moveExport
  split
  · split
    · rfl
    · exact (statuses_showStreams _).trans ((statuses_set _ _ hk).trans rfl)
  · rfl

theorem statuses_settleLanes (s : State) : statuses s.settleLanes = statuses s := by
  refine (statuses_foldl _ _ _ fun t n hn => statuses_showHold t (allLanes_lt _ n hn)).trans
    (statuses_foldl _ _ _ fun t e he => statuses_moveExport t ?_)
  simp only [List.mem_filter, Bool.and_eq_true, decide_eq_true_eq] at he
  exact he.2.1

theorem statuses_takePending (s : State) {k : Nat} (h : k < 96) : statuses (s.takePending k) = statuses s := by
  have hpending : OffStatus (K.gpioPinPending k) := by
    simp only [OffStatus, K.gpioPinPending, key]
    omega
  have hfunc : OffStatus (K.gpioPinFunc k) := by
    simp only [OffStatus, K.gpioPinFunc, key]
    omega
  unfold State.takePending
  extract_lets v
  split
  · rfl
  · exact (statuses_poke _ _ hfunc).trans (statuses_set _ _ hpending)

theorem statuses_movePins (s before : State) : statuses (s.movePins before) = statuses s := by
  have hcapture : statuses (s.capturePads before) = statuses s :=
    statuses_ite (statuses_foldl _ _ _ fun _ _ _ => rfl) rfl
  have hkeep (t : State) : statuses (t.keepPads before) = statuses t :=
    statuses_ite (statuses_foldl _ _ _ fun _ _ _ => statuses_ite rfl rfl) rfl
  have hswitch (t : State) : statuses (t.moveSwitches before) = statuses t := by
    refine statuses_ite (statuses_foldl _ _ _ fun u e he => ?_)
      (statuses_ite (statuses_foldl _ _ _ fun _ _ _ => statuses_ite rfl rfl) rfl)
    simp only [List.mem_filter, decide_eq_true_eq] at he
    exact (statuses_takePending _ he.2).trans rfl
  exact (hswitch _).trans ((hkeep _).trans hcapture)

theorem statuses_bsSettle (s : State) (p : Nat) : statuses (s.bsSettle p) = statuses s := by
  have hrounds (cells : List BsCell) (n : Nat) (t : State) : statuses (State.bsRounds p cells n t) = statuses t := by
    induction n generalizing t with
    | zero => rfl
    | succ n ih =>
      unfold State.bsRounds
      extract_lets m next u
      exact statuses_ite rfl (ih u)
  unfold State.bsSettle
  extract_lets cells
  exact statuses_ite rfl (hrounds ..)

theorem statuses_settleBackstop (s before : State) : statuses (s.settleBackstop before) = statuses s := by
  unfold State.settleBackstop
  extract_lets p t
  exact statuses_ite ((statuses_bsSettle t 0).trans (statuses_ite rfl (statuses_bsSettle s p))) rfl

theorem statuses_passSector (s : State) (q : Nat) : statuses (s.passSector q) = statuses s := by
  unfold State.passSector
  extract_lets n level cl sigs outs macs u
  have hu : statuses u = statuses s := statuses_of_dict rfl rfl
  refine Eq.trans ?_ hu
  refine statuses_foldl _ _ _ fun t e _ => ?_
  exact statuses_ite (statuses_of_dict rfl rfl) rfl

theorem statuses_settleNets (n : Nat) (s : State) : statuses (State.settleNets n s) = statuses s := by
  induction n generalizing s with
  | zero => exact statuses_foldl _ _ _ fun _ _ _ => statuses_foldl _ _ _ fun _ _ _ => rfl
  | succ n ih =>
    unfold State.settleNets
    extract_lets t
    exact statuses_ite rfl ((ih t).trans (statuses_foldl _ _ _ fun _ _ _ => statuses_passSector ..))

theorem statuses_clockSector (s : State) {q : Nat} (b n : Net) (h : q < 4) : statuses (s.clockSector q b n) = statuses s := by
  have hk : OffStatus (K.fabricSectorBramCollisions q) := by
    simp only [OffStatus, K.fabricSectorBramCollisions, key]
    omega
  refine statuses_foldl _ _ _ fun t e _ => ?_
  extract_lets x u r v level next
  have hv : statuses v = statuses t := (statuses_set _ _ hk).trans rfl
  exact statuses_ite hv hv

theorem statuses_propagate (n : Nat) (b : List (Nat × Net)) (s : State) : statuses (State.propagate n b s) = statuses s := by
  induction n generalizing b s with
  | zero => rfl
  | succ n ih =>
    unfold State.propagate
    extract_lets t u
    have hu : statuses u = statuses s :=
      (statuses_foldl _ _ t fun t q hq => statuses_clockSector t _ _ (sector_lt hq)).trans (statuses_settleNets ..)
    exact statuses_ite hu ((ih ..).trans hu)

theorem statuses_settleFabric (s before : State) : statuses (s.settleFabric before) = statuses s := by
  have hmod (qs : List Nat) (f : Nat → Net → Net) (t : State) : statuses (qs.foldl (fun u q => u.modNet q (f q)) t) = statuses t :=
    statuses_foldl _ _ _ fun _ _ _ => rfl
  have htrigger (p : Nat) : statuses (s.triggerLines p) = statuses s := by
    unfold State.triggerLines State.pulse
    exact statuses_ite rfl (statuses_ite rfl ((statuses_propagate ..).trans ((hmod ..).trans ((statuses_propagate ..).trans
      ((statuses_propagate ..).trans (hmod ..))))))
  exact (statuses_ite rfl (statuses_propagate ..)).trans (htrigger _)

theorem statuses_sendNotice (s : State) (p src : Nat) (b : List Byte) : statuses (s.sendNotice p src b) = statuses s := by
  unfold State.sendNotice
  extract_lets x
  exact statuses_ite rfl (statuses_ite rfl ((statuses_raise766 _ p).trans rfl))

theorem statuses_notices (s before : State) : statuses (s.notices before) = statuses s := by
  have hended : statuses s.sendEnded = statuses s := (statuses_foldl _ _ _ fun _ _ _ => statuses_sendNotice ..).trans rfl
  have hdue (t : State) : statuses t.sendDue = statuses t :=
    statuses_foldl _ _ _ fun _ _ _ => (statuses_sendNotice ..).trans rfl
  have hlate (t : State) (n : Nat) : statuses (t.markLate before n) = statuses t := statuses_ite rfl rfl
  unfold State.notices
  extract_lets t
  exact statuses_ite hended ((hlate ..).trans ((hdue _).trans hended))

theorem statuses_sendUmzin (s : State) (lane hop dest : Nat) (bytes : List Byte) :
    statuses (s.sendUmzin lane hop dest bytes) = statuses s := by
  refine statuses_foldl _ _ _ fun t w _ => statuses_ite rfl (statuses_ite rfl ?_)
  unfold State.launch
  extract_lets r u
  split <;> rfl

theorem statuses_txFrame (s : State) {n : Nat} (h : n < 16) (b : Nat) : statuses (s.txFrame n b) = statuses s := by
  have hframes : OffStatus (K.laneTxFrames n) := offStatus_lane h 4 1 (by decide) (by decide)
  have hbytes : OffStatus (K.laneTxBytes n) := offStatus_lane h 4 2 (by decide) (by decide)
  have hwire : OffStatus (K.laneWire n) := offStatus_lane h 3 2 (by decide) (by decide)
  unfold State.txFrame
  extract_lets b x t
  have ht : statuses t = statuses s := (statuses_set _ _ hbytes).trans (statuses_set _ _ hframes)
  exact statuses_ite ht ((statuses_set _ _ hwire).trans ht)

theorem statuses_route (s : State) (p : Nat) (e : Emission) : statuses (s.route p e) = statuses s := by
  unfold State.route
  extract_lets n
  refine statuses_ite (statuses_ite (statuses_set _ _ (by decide)) rfl) ?_
  split
  · rename_i hp
    simp only [Bool.and_eq_true, decide_eq_true_eq] at hp
    refine statuses_ite ?_ (statuses_ite rfl (statuses_ite rfl (statuses_txFrame _ (by omega) _)))
    split
    · exact statuses_ite (statuses_sendUmzin ..) rfl
    · rfl
  · rfl

theorem statuses_routeAll (s : State) : statuses s.routeAll = statuses s := by
  refine (statuses_foldl _ _ _ fun t e _ => ?_).trans rfl
  split
  · exact statuses_route ..
  · exact statuses_route ..
  · rfl

/-! ## Conditions -/

theorem any_congr_mem {α : Type} {xs : List α} {f g : α → Bool} (h : ∀ x ∈ xs, f x = g x) : xs.any f = xs.any g := by
  rw [Bool.eq_iff_iff, List.any_eq_true, List.any_eq_true]
  exact exists_congr fun x => and_congr_right fun hx => by rw [h x hx]

/-- Whether a key's object stands through a request's way to the access point and the closing of a command, under either variant. -/
abbrev Left (k : Nat) : Prop := settledKey k = false ∧ accessKey k = false ∧ k ≠ K.portsEnable ∧ k ≠ K.storeCapacity ∧ k ≠ K.storeRingSpace

theorem left_key {i b : Nat} (h : b < 256) (hne : ¬((i = 0x1001 ∧ b = 2) ∨ (i = 0x1000 ∧ b = 6) ∨ (i = 0x1152 ∧ b = 1) ∨
    (i = 0x1100 ∧ b = 5) ∨ (0x4000 ≤ i ∧ i < 0x4400 ∧ b = 6) ∨ (0x6010 ≤ i ∧ i < 0x6014 ∧ b = 5) ∨
    (0x5000 ≤ i ∧ i < 0x5400 ∧ (i % 64 = 0 ∨ i % 64 = 3 ∨ i % 64 = 4) ∧ (b = 1 ∨ b = 2 ∨ b = 3 ∨ b = 5)) ∨
    (0x6800 ≤ i ∧ i < 0x6860 ∧ (b = 1 ∨ b = 5)) ∨ (0x7000 ≤ i ∧ i < 0x7300 ∧ b = 1) ∨
    (i = 0x72FE ∧ (b = 5 ∨ b = 8 ∨ b = 9))) ∧ i ≠ 0x1100 ∧ i ≠ 0x5800 ∧ ¬(0x1120 ≤ i ∧ i < 0x1153) ∧ ¬(0x5000 ≤ i ∧ i < 0x5400)) :
    Left (key i b) := by
  refine ⟨settledKey_key_false h hne.1, ?_, ?_, ?_, ?_⟩
  · rw [← Bool.not_eq_true, accessKey_key_iff h]
    omega
  all_goals simp only [K.portsEnable, K.storeCapacity, K.storeRingSpace, key] <;> omega

/-- The objects that a variant gives another default are none of those left. -/
theorem defaultOf_left {k : Nat} (h : Left k) (v w : Variant) : defaultOf v k = defaultOf w k := by
  obtain ⟨-, -, hports, hcapacity, hring⟩ := h
  simp only [defaultOf, if_neg hports, if_neg hcapacity, if_neg hring]

/-- What conditions rest on: an object that stands and is no source's latch. -/
abbrev Steady (k : Nat) : Prop := Left k ∧ (k < 0x700000 ∨ k % 256 ≠ 3)

theorem steady_key {i b : Nat} (h : b < 256) (hleft : Left (key i b)) (hlatch : i < 0x7000 ∨ b ≠ 3) : Steady (key i b) :=
  ⟨hleft, by simp only [key]; omega⟩

theorem railOut_congr {a b : State} (h : ∀ k, Steady k → a.obj k = b.obj k) : a.railOut = b.railOut := by
  have hrail (r : Nat) (hr : r ∈ List.range 10) : (a.obj (K.deviceRailState r) != 0) = (b.obj (K.deviceRailState r) != 0) := by
    rw [List.mem_range] at hr
    rw [h (K.deviceRailState r) (steady_key (by decide) (left_key (by decide) (by omega)) (by omega))]
  have hbank (i : Nat) (hi : i ∈ List.range 6) : (a.obj (K.gpioBankVioFault i) != 0) = (b.obj (K.gpioBankVioFault i) != 0) := by
    rw [List.mem_range] at hi
    rw [h (K.gpioBankVioFault i) (steady_key (by decide) (left_key (by decide) (by omega)) (by omega))]
  unfold State.railOut
  rw [any_congr_mem hrail, any_congr_mem hbank]

/-- Conditions rest on objects alone that the closing of a command leaves, and on no latch. -/
theorem condition_congr {a b : State} (h : ∀ k, Steady k → a.obj k = b.obj k) {n : Nat} (hn : n < 768) :
    a.condition n = b.condition n := by
  have hhot : a.hot = b.hot := by
    simp only [State.hot, h K.deviceTempMax (by decide), h K.deviceSafeTjLimit (by decide)]
  unfold State.condition
  refine ite_congr rfl (fun h1 => ?_) fun h1 => ite_congr rfl (fun h2 => ?_) fun h2 => ite_congr rfl (fun _ => rfl) fun h3 =>
    ite_congr rfl (fun h4 => ?_) fun h4 => ite_congr rfl (fun h5 => ?_) fun h5 => ?_
  · refine congrArg some (any_congr_mem fun i hi => ?_)
    rw [List.mem_range] at hi
    rw [h (K.tileMonState n i) (steady_key (by decide) (left_key (by decide) (by omega)) (by omega))]
  · rw [h (K.tileCalFault (n - 256)) (steady_key (by decide) (left_key (by decide) (by omega)) (by omega)),
      h (K.eventDetail n) (steady_key (by decide) (left_key (by decide) (by omega)) (by omega))]
  · rw [h (K.patternMode (n - 704)) (steady_key (by decide) (left_key (by decide) (by omega)) (by omega)),
      h (K.patternMatch (n - 704)) (steady_key (by decide) (left_key (by decide) (by omega)) (by omega))]
  · rw [h (K.encFlags ((n - 720) / 3)) (steady_key (by decide) (left_key (by decide) (by omega)) (by omega))]
  · rw [State.mode, State.mode, h K.deviceMode (by decide), h K.timeRefclkState (by decide), h K.arbCadenceFlags (by decide), hhot,
      railOut_congr h, h K.storeState (by decide)]

theorem follows_congr {a b : State} (h : ∀ k, Left k → a.obj k = b.obj k) {n : Nat} (hn : n < 768) :
    a.follows n = b.follows n := by
  rw [State.follows, State.follows, condition_congr (fun k hk => h k hk.1) hn,
    h (K.eventLatch n) (left_key (by decide) (by omega))]

/-! ## Sources settle -/

theorem tableDefault_eventStatus {n : Nat} (h : n < 768) : tableDefault (K.eventStatus n) = 0 := by
  have hdiv : K.eventStatus n / 256 = 0x7000 + n := key_div (by decide)
  have hmod : K.eventStatus n % 256 = 1 := key_mod (by decide)
  rw [tableDefault, locateKey, hdiv, hmod, event_place n 1 h]
  rfl

theorem defaultOf_eventStatus (v : Variant) {n : Nat} (h : n < 768) : defaultOf v (K.eventStatus n) = 0 := by
  have hdiv : K.eventStatus n / 256 = 0x7000 + n := key_div (by decide)
  have hmod : K.eventStatus n % 256 = 1 := key_mod (by decide)
  have hsub : ¬ (K.eventStatus n % 256 = 3) ∧ ¬ (K.eventStatus n % 256 = 4) := by omega
  have hports : K.eventStatus n ≠ K.portsEnable := by simp only [K.eventStatus, K.portsEnable, key]; omega
  have hcapacity : K.eventStatus n ≠ K.storeCapacity := by simp only [K.eventStatus, K.storeCapacity, key]; omega
  have hring : K.eventStatus n ≠ K.storeRingSpace := by simp only [K.eventStatus, K.storeRingSpace, key]; omega
  unfold defaultOf
  simp only [hdiv, hmod, tableDefault_eventStatus h, if_neg hports, if_neg hcapacity, if_neg hring]
  simp
  omega

theorem mem_of_find {α : Type} {m : List (Nat × α)} {k : Nat} {x : α} (h : Sp.find m k = some x) : (k, x) ∈ m := by
  induction m with
  | nil => contradiction
  | cons e m ih =>
    unfold Sp.find at h
    split at h
    · rename_i hk
      subst hk
      cases h
      exact List.mem_cons_self ..
    · exact List.mem_cons_of_mem _ (ih h)

/-- A source whose status reads 1 is among those that are raised. -/
theorem mem_raised {s : State} {n : Nat} (hn : n < 768) (h : s.obj (K.eventStatus n) = 1) : n ∈ s.raised := by
  have hfind : Sp.find s.dict (K.eventStatus n) = some 1 := by
    simp only [State.obj, Sp.get, defaultOf_eventStatus _ hn] at h
    cases hf : Sp.find s.dict (K.eventStatus n) <;> simp_all
  have hmem := mem_of_find hfind
  refine List.mem_map.2 ⟨_, List.mem_filter.2 ⟨hmem, ?_⟩, ?_⟩
  · have hlo : 0x700000 ≤ K.eventStatus n := by simp only [K.eventStatus, key]; omega
    have hhi : K.eventStatus n < 0x730000 := by simp only [K.eventStatus, key]; omega
    have hmod : K.eventStatus n % 256 = 1 := key_mod (by decide)
    simp [hlo, hhi, hmod]
  · simp only [K.eventStatus, key]
    omega

/-- A source whose condition has ended, and that follows it. -/
abbrev Ended (s : State) (n : Nat) : Prop := s.follows n = true ∧ s.condition n = some false

theorem ended_congr {a b : State} (h : ∀ k, Left k → a.obj k = b.obj k) {n : Nat} (hn : n < 768) : Ended a n ↔ Ended b n := by
  rw [Ended, Ended, follows_congr h hn, condition_congr (fun k hk => h k hk.1) hn]

theorem not_ended_766 (s : State) : ¬ Ended s 766 := nofun

theorem status_lower_of_ne_one {s : State} {n : Nat} (m : Nat) (h : s.obj (K.eventStatus n) ≠ 1) :
    (s.lower m).obj (K.eventStatus n) ≠ 1 := by
  by_cases hm : K.eventStatus n = K.eventStatus m
  · rw [hm]
    exact lower_status s m
  · rwa [obj_lower_ne s m _ hm]

/-- One source's turn among those that are raised. -/
abbrev settleSource (s : State) (n : Nat) : State := if s.follows n && s.condition n == some false then s.lower n else s

theorem same_settleSource (s : State) {n : Nat} (h : n < 768) : Same (settleSource s n) s := same_ite (same_lower s h) (Same.refl s)

theorem status_settleSource_of_ne_one {s : State} {n : Nat} (m : Nat) (h : s.obj (K.eventStatus n) ≠ 1) :
    (settleSource s m).obj (K.eventStatus n) ≠ 1 := by
  unfold settleSource
  split
  · exact status_lower_of_ne_one m h
  · exact h

theorem status_foldl_of_ne_one {n : Nat} (ms : List Nat) {s : State} (h : s.obj (K.eventStatus n) ≠ 1) :
    (ms.foldl settleSource s).obj (K.eventStatus n) ≠ 1 := by
  induction ms generalizing s with
  | nil => exact h
  | cons m ms ih => exact ih (status_settleSource_of_ne_one m h)

/-- A source with its condition ended falls at its turn, which comes if it was raised. -/
theorem status_foldl_settleSource {n : Nat} (hn : n < 768) (ms : List Nat) (hms : ∀ m ∈ ms, m < 768) {s : State} (he : Ended s n)
    (hmem : n ∈ ms) : (ms.foldl settleSource s).obj (K.eventStatus n) ≠ 1 := by
  induction ms generalizing s with
  | nil => contradiction
  | cons m ms ih =>
    by_cases hmn : n = m
    · subst hmn
      refine status_foldl_of_ne_one ms ?_
      rw [settleSource, if_pos (by simp [he.1, he.2])]
      exact lower_status s n
    · exact ih (fun m h => hms m (List.mem_cons_of_mem _ h))
        ((ended_congr (fun k hk => (same_settleSource s (hms m (List.mem_cons_self ..))).obj k hk.1) hn).2 he)
        ((List.mem_cons.1 hmem).resolve_left hmn)

theorem status_settleEvents {s : State} {n : Nat} (hn : n < 768) (he : Ended s n) : s.settleEvents.obj (K.eventStatus n) ≠ 1 := by
  by_cases h : s.obj (K.eventStatus n) = 1
  · exact status_foldl_settleSource hn _ (fun m hm => raised_lt s m hm) he (mem_raised hn h)
  · exact status_foldl_of_ne_one _ h

/-! ## What every step keeps -/

theorem status_settleUnits {s before : State} (hs : s.held = false) {n : Nat} (hn : n < 768)
    (he : Ended (s.settleUnits before) n) : (s.settleUnits before).obj (K.eventStatus n) ≠ 1 := by
  have h766 : n ≠ 766 := fun h => not_ended_766 _ (h ▸ he)
  have hended : Ended s.linkReady.watchScene n :=
    (ended_congr (fun k hk => ((same_settleUnits s before).obj k hk.1).trans
      (((same_watchScene _).trans (same_linkReady s)).obj k hk.1).symm) hn).1 he
  have hstatuses : statuses (s.settleUnits before) = statuses s.linkReady.watchScene.settleEvents := by
    unfold State.settleUnits
    rw [if_neg (by simp [hs])]
    exact (statuses_settleFabric ..).trans ((statuses_settleBackstop ..).trans ((statuses_movePins ..).trans (statuses_settleLanes _)))
  have hstatus := congrFun hstatuses n
  simp only [statuses, if_pos (And.intro hn h766)] at hstatus
  rw [hstatus]
  exact status_settleEvents hn hended

/-- What a command leaves, once all its units have settled. -/
abbrev State.closed (before s : State) : State :=
  ((s.showQueue.settleFirst.answerSafe.settleUnits before).notices before).routeAll

theorem finish_dict (before s : State) : (before.finish s).dict = (State.closed before s).dict := by
  simp only [State.finish, State.closed]

theorem finish_held (before s : State) : (before.finish s).held = (State.closed before s).held := by
  simp only [State.finish, State.closed, State.held]

theorem same_closed (before s : State) :
    Same (State.closed before s) (s.showQueue.settleFirst.answerSafe.settleUnits before) :=
  (same_routeAll _).trans (same_notices _ before)

theorem statuses_closed (before s : State) :
    statuses (State.closed before s) = statuses (s.showQueue.settleFirst.answerSafe.settleUnits before) :=
  (statuses_routeAll _).trans (statuses_notices _ before)

theorem held_congr {a b : State} (h : Same a b) : a.held = b.held := by rw [State.held, State.held, h.boot]

/-- No condition rests on the variant, which is put back last. -/
theorem ended_finish (before s : State) {n : Nat} (hn : n < 768) : Ended (before.finish s) n ↔ Ended (State.closed before s) n :=
  ended_congr (fun k hk => by
    simp only [State.obj, Sp.get, finish_dict]
    rw [defaultOf_left hk]) hn

theorem status_finish (before s : State) {n : Nat} (hn : n < 768) :
    (before.finish s).obj (K.eventStatus n) = (State.closed before s).obj (K.eventStatus n) := by
  simp only [State.obj, Sp.get, finish_dict, defaultOf_eventStatus _ hn]

theorem settled_finish (before s : State) : Settled (before.finish s) := by
  refine ⟨finish_safeAsk before s, fun hheld n hn hfollows hcondition => ?_⟩
  have he : Ended (s.showQueue.settleFirst.answerSafe.settleUnits before) n :=
    (ended_congr (fun k hk => (same_closed before s).obj k hk.1) hn).1 ((ended_finish before s hn).1 ⟨hfollows, hcondition⟩)
  have hsettling : s.showQueue.settleFirst.answerSafe.held = false := by
    rw [← hheld, finish_held, held_congr (same_closed before s), held_congr (same_settleUnits _ before)]
  have h766 : n ≠ 766 := fun h => not_ended_766 _ (h ▸ he)
  have hstatus := congrFun (statuses_closed before s) n
  simp only [statuses, if_pos (And.intro hn h766)] at hstatus
  rw [status_finish before s hn, hstatus]
  exact status_settleUnits hsettling hn he

/-- Settles O4: sources settle near the end of every command, and nothing after that moves a condition or raises a source that
follows one. -/
theorem stepKeepsSettled : Obligations.StepKeepsSettled := by
  unfold Obligations.StepKeepsSettled
  intro s t hs ht
  cases hp : s.pending with
  | nil =>
    simp only [step, hp] at ht
    exact Host.Outcome.next.inj ht ▸ hs
  | cons c rest =>
    simp only [step, hp] at ht
    obtain ⟨u, rfl⟩ := finish_of_exec ht
    exact settled_finish _ u

/-- Settles O5: a reset holds the device until POR_N rises. -/
theorem resetIsSettled : Obligations.ResetIsSettled := ⟨rfl, fun h => absurd h (by decide)⟩

end Sys2Proof.Proofs
end

section
/-! # Requests that are answered at once

Reads, writes that only store their value, block transfers, subscriptions and replays, from what each operation leaves. -/

set_option Elab.async false

namespace Sys2Proof.Proofs

open Sys2Proof Sys2Proof.Machine Sys2Proof.Laws

/-! ## From an operation to its command -/

section
variable {c : Instr} {s v : State} {q : Req} {op : Op} {body : List Byte} {ty transfer : Nat} {own after : State → Prop}

/-- A request that its operation answers at once with success. -/
theorem completes_done (he : exec c s = s.asks q op) (h : Admitted s q op)
    (hc : carry op q (s.access q) = done v body ty transfer) (hr : (s.access q).resets q op = false) (hv : v.variant = s.variant)
    (ha : v.safeAsk = 0) (hown : own (v.answered q op ((s.access q).readsTrace q op) body ty transfer))
    (hafter : ∀ t, Same t v → after t) : Completes c s own after :=
  completes_same (he.trans (asks_done s v q op ⟨body, ty, transfer⟩ h hc hr)) (by simp [hv]) (by simp [ha]) hown
    fun t ht => hafter t (ht.trans (same_answered ..))

/-- The frame of a request whose operation changes no object. -/
theorem requestFrame_of_same {t : State} (h : Admitted s q op) (ht : Same t v) (hv : Same v (s.access q)) : RequestFrame s t [] :=
  requestFrame_of h.1 (ht.trans hv) (Same.refl _) (fun _ _ _ _ => rfl) (access_mem ..) (access_ctxs ..) (access_inForce ..)

/-- A request that its operation answers at once, leaving every object as it found it. -/
theorem answers_of (he : exec c s = s.asks q op) (h : Admitted s q op) (hsafe : s.safeAsk = 0)
    (hc : carry op q (s.access q) = done v body ty transfer) (hr : (s.access q).resets q op = false) (hv : Same v (s.access q))
    (hown : own (v.answered q op ((s.access q).readsTrace q op) body ty transfer)) :
    Completes c s own (fun t => RequestFrame s t []) :=
  completes_done he h hc hr (hv.variant.trans (access_variant s q)) (hv.safeAsk.trans ((access_safeAsk s q).trans hsafe)) hown
    fun _ ht => requestFrame_of_same h ht hv

theorem responds_of_ports (hports : v.ports = s.ports) (op : Op) (quiet : Bool) (body : List Byte) (ty transfer : Nat) :
    Responds s (v.answered q op quiet body ty transfer) q
      (okMessage (v.answered q op quiet body ty transfer) q op body ty transfer) :=
  responds_congr hports (responds_answered ..)

end

/-! ## READ and READ_META -/

theorem opRead_of_check {s : State} {q : Req} {l : Loc} (h : checkRead s q = .ok l) :
    opRead q s = done (s.afterRead l q.index q.sub) (s.readBytes l q.port q.index q.sub) l.row.ty.code 0 := by
  simp only [opRead, h]

theorem opReadMeta_of_check {s : State} {q : Req} {l : Loc} (h : checkMeta s q = .ok l) :
    opReadMeta q s = done s (s.metadata l q.port q.index q.sub) l.row.ty.code 0 := by
  simp only [opReadMeta, h]

/-- Settles O6. -/
theorem readAnswersWithTheValue : Obligations.ReadAnswersWithTheValue := by
  unfold Obligations.ReadAnswersWithTheValue
  refine ⟨fun s q l hsafe h hl => ?_, fun s q l hsafe h hl => ?_⟩
  · exact answers_of (exec_read q s) h hsafe (opRead_of_check hl) rfl (same_afterRead ..)
      (responds_of_ports ((ports_afterRead ..).trans (access_ports s q)) ..)
  · exact answers_of (exec_readMeta q s) h hsafe (opReadMeta_of_check hl) rfl (Same.refl _)
      (responds_of_ports (access_ports s q) ..)

/-! ## Checks that pass -/

/-- A sequence of checks that passes passes its first and the rest. -/
theorem ok_of_bind {α β : Type} {x : Res α} {f : α → Res β} {b : β} (h : x >>= f = .ok b) : ∃ a, x = .ok a ∧ f a = .ok b := by
  cases x with
  | error e => contradiction
  | ok a => exact ⟨a, rfl, h⟩

theorem true_of_need {b : Bool} {code detail : Nat} {u : Unit} (h : need b code detail = .ok u) : b = true := by
  cases b
  · contradiction
  · rfl

theorem find_of_checkObject {s : State} {q : Req} {right : Nat → Nat → Bool} {zeroOk : Bool} {allowed : Row → Bool} {l : Loc}
    (h : s.checkObject q right zeroOk allowed = .ok l) : s.find q.index q.sub = .ok l := by
  obtain ⟨l', hfind, h⟩ := ok_of_bind h
  obtain ⟨_, -, h⟩ := ok_of_bind h
  obtain ⟨_, -, h⟩ := ok_of_bind h
  exact hfind.trans h

theorem find_of_checkWrite {s : State} {q : Req} {l : Loc} (h : checkWrite s q = .ok l) : s.find q.index q.sub = .ok l := by
  obtain ⟨_, -, h⟩ := ok_of_bind h
  obtain ⟨l', hobject, h⟩ := ok_of_bind h
  obtain ⟨_, -, h⟩ := ok_of_bind h
  have hlast : l' = l := by
    split at h
    · obtain ⟨_, -, h⟩ := ok_of_bind h
      obtain ⟨_, -, h⟩ := ok_of_bind h
      obtain ⟨_, -, h⟩ := ok_of_bind h
      exact Except.ok.inj h
    · obtain ⟨_, -, h⟩ := ok_of_bind h
      obtain ⟨_, -, h⟩ := ok_of_bind h
      obtain ⟨_, -, h⟩ := ok_of_bind h
      exact Except.ok.inj h
  exact hlast ▸ find_of_checkObject hobject

theorem locate_of_find {s : State} {index sub : Nat} {l : Loc} (h0 : sub ≠ 0) (h : s.find index sub = .ok l) : locate index sub = some l := by
  simp only [State.find, h0, if_false] at h
  split at h
  · contradiction
  · rename_i l' hl
    split at h
    · rw [hl, Except.ok.inj h]
    · contradiction

theorem single_of_find_zero {s : State} {index : Nat} {l : Loc} (h : s.find index 0 = .ok l) : l = ⟨zeroRow index, 0, 0⟩ := by
  simp only [State.find, if_true] at h
  split at h
  · contradiction
  · split at h
    · exact (Except.ok.inj h).symm
    · contradiction

/-! ## WRITE and RMW of objects that only store their value -/

theorem plain_of_plainDevice {l : Loc} {k : Nat} (h : plainDevice l k = true) :
    k < 0x140000 ∧ l.row.attr.testBit 0 = false ∧ l.row.attr.testBit 3 = false ∧
      k ∉ [K.deviceModeRequest, K.deviceModeLoad, K.deviceSafeClear, K.deviceSafeTjLimit, K.deviceEventsClearNode, K.deviceEventsTest,
        K.portsMgmtClear, K.versionsMgmtSelect, K.versionsAccept] := by
  simp only [plainDevice, Bool.and_eq_true, decide_eq_true_eq, Bool.not_eq_true', List.contains_eq_mem, decide_eq_false_iff_not] at h
  obtain ⟨⟨⟨hk, hstaged⟩, hcommand⟩, hmem⟩ := h
  exact ⟨hk, hstaged, hcommand, hmem⟩

theorem putValue_plain (s : State) {p : Put} (h0 : p.l.row.attr.testBit 0 = false) (h3 : p.l.row.attr.testBit 3 = false) :
    s.putValue p = s.poke p.key_ p.v := by
  simp only [State.putValue, h0, h3, Bool.false_eq_true, if_false]

theorem putValue_staged (s : State) {p : Put} (h0 : p.l.row.attr.testBit 0 = true) (h3 : p.l.row.attr.testBit 3 = false) :
    s.putValue p = (s.hold p.key_).poke p.key_ p.v := by
  simp only [State.putValue, h0, h3, Bool.false_eq_true, if_false, if_true]

/-- A plain object of the device, the ports or the versions takes the value, and its writer is recorded. -/
theorem put_plain (s : State) {p : Put} (h : plainDevice p.l p.key_ = true) :
    s.put p = (s.poke p.key_ p.v).record p.key_ p.cls p.port := by
  obtain ⟨hk, hstaged, hcommand, hmem⟩ := plain_of_plainDevice h
  have hi : p.index < 0x1400 := by
    simp only [Put.key_, key] at hk
    omega
  simp only [List.mem_cons, List.not_mem_nil, or_false, not_or] at hmem
  simp only [State.put, if_pos hi, putDevice, putValue_plain s hstaged hcommand, hmem, if_false]

theorem same_record (s : State) (k c p : Nat) : Same (s.record k c p) s := same_of _ _ rfl rfl rfl rfl rfl rfl rfl rfl rfl rfl

section
variable {s : State} {q : Req} {l : Loc} {v : Nat}

theorem put_plain_eq (h : plainDevice l (key q.index q.sub) = true) : (s.access q).put ((s.access q).putOf q l v) =
    ((s.access q).poke (key q.index q.sub) v).record (key q.index q.sub) ((s.access q).classOf q.port) q.port := put_plain _ h

/-- What an accepted write of a plain object leaves. -/
theorem after_put_plain {t : State} (hport : portPresent s.variant q.port = true) (h : plainDevice l (key q.index q.sub) = true)
    (hsettled : settledKey (key q.index q.sub) = false) (ht : Same t ((s.access q).put ((s.access q).putOf q l v))) :
    t.obj (key q.index q.sub) = v ∧ RequestFrame s t [key q.index q.sub] := by
  rw [put_plain_eq h] at ht
  have hpoke := ht.trans (same_record ..)
  refine ⟨by rw [hpoke.obj _ hsettled, obj_poke_self], requestFrame_of hport hpoke (Same.refl _) (fun k _ hk _ => ?_) ?_ ?_ ?_⟩
  · exact obj_poke_ne _ _ (by simpa using hk)
  · rw [poke_mem, access_mem]
  · rw [poke_ctxs, access_ctxs]
  · rw [poke_inForce, access_inForce]

theorem opRmw_of_check (h : checkRmw s q = .ok l) :
    opRmw q s = done (s.put (s.putOf q l (s.rmwValues q l).2))
      (toLE l.row.size (s.rmwValues q l).1 ++ toLE l.row.size (s.rmwValues q l).2) l.row.ty.code 0 := by
  simp only [opRmw, h]

end

/-- Settles O8. -/
theorem rmwMergesUnderTheMask : Obligations.RmwMergesUnderTheMask := by
  unfold Obligations.RmwMergesUnderTheMask
  intro s q l hsafe h hl hplain hsettled n old new
  have hput := put_plain_eq (s := s) (v := ((s.access q).rmwValues q l).2) hplain
  refine completes_done (exec_rmw q s) h (opRmw_of_check hl) rfl ?_ ?_ ?_ fun t ht => after_put_plain h.1 hplain hsettled ht
  · rw [hput]
    exact access_variant s q
  · rw [hput]
    exact (access_safeAsk s q).trans hsafe
  · refine responds_of_ports ?_ ..
    rw [hput]
    exact access_ports s q

/-! ## Staged objects of a pitch generator -/

/-- No object of a pitch generator is a command (R176). -/
theorem attr_of_pitch (index : Nat) : ∀ r ∈ rowsAt index, r.form = .pitch → r.attr.testBit 3 = false := by
  unfold rowsAt
  repeat' refine iteInduction (motive := fun rows : List Row => ∀ r ∈ rows, r.form = .pitch → r.attr.testBit 3 = false) (fun _ => ?_) (fun _ => ?_)
  all_goals decide +kernel

/-- A staged object of a pitch generator holds its value in force and takes the new one as pending. -/
theorem put_pitch (s : State) {p : Put} (hform : p.l.row.form = .pitch) (h0 : p.l.row.attr.testBit 0 = true)
    (h3 : p.l.row.attr.testBit 3 = false) (hlo : 0x1580 ≤ p.index) (hhi : p.index < 0x1600) (hsub : p.sub < 256) :
    s.put p = ((s.hold p.key_).poke p.key_ p.v).record p.key_ p.cls p.port := by
  have hne {i b : Nat} (hi : i < 0x1580 ∨ 0x1600 ≤ i) (hb : b < 256) : p.key_ ≠ key i b := by
    simp only [Put.key_, key]
    omega
  have htime : p.key_ ≠ K.timeSet := hne (by decide) (by decide)
  have hptp : p.key_ ≠ K.timePtpEnable := hne (by decide) (by decide)
  have hsource : p.key_ ≠ K.rallyShareSource := hne (by decide) (by decide)
  have hbackup : p.key_ ≠ K.rallyShareBackup := hne (by decide) (by decide)
  have hhorizon : p.key_ ≠ K.rallyTriggerHorizon := hne (by decide) (by decide)
  have hencoder : (p.l.row.form = .encoder && p.index % 16 = 0) = false := by simp [hform]
  have hdevice : ¬ p.index < 0x1400 := by omega
  have htiming : p.index < 0x1800 := by omega
  simp only [State.put, if_neg hdevice, if_pos htiming, putTiming, htime, hptp, hsource, hbackup, hhorizon, hencoder, if_false,
    Bool.false_eq_true, decide_false, Bool.or_self, putValue_staged s h0 h3]

theorem force_access (s : State) (q : Req) (hport : portPresent s.variant q.port = true) {k : Nat} (hk : accessKey k = false) :
    (s.access q).force k = s.force k := by
  simp only [State.force, access_inForce, (reached_access s q hport).obj k hk]

theorem written_pitch {s : State} {q : Req} {l : Loc} (h : Accepts s q l) (hform : l.row.form = .pitch)
    (h0 : l.row.attr.testBit 0 = true) (hlo : 0x1580 ≤ q.index) (hhi : q.index < 0x1600) :
    (s.written q l).obj (key q.index q.sub) = ofLE q.body ∧
      (s.written q l).force (key q.index q.sub) = s.force (key q.index q.sub) ∧
      (s.written q l).isPending (key q.index q.sub) = true := by
  have hfind := find_of_checkWrite h.2.1
  have hsub0 : q.sub ≠ 0 := fun h0 => by
    rw [h0] at hfind
    rw [single_of_find_zero hfind] at hform
    exact absurd hform (by simp [zeroRow])
  have hl := locate_of_find hsub0 hfind
  have hsub := sub_lt_of_locate hl
  have h3 := attr_of_pitch _ _ (locateIn_some hl).1 hform
  have hput : s.written q l = (((s.access q).hold (key q.index q.sub)).poke (key q.index q.sub) (ofLE q.body)).record (key q.index q.sub)
      ((s.access q).classOf q.port) q.port := put_pitch (s.access q) (p := (s.access q).putOf q l (ofLE q.body)) hform h0 h3 hlo hhi hsub
  have hkey : accessKey (key q.index q.sub) = false := by
    rw [← Bool.not_eq_true, accessKey_key_iff hsub]
    omega
  obtain ⟨hobj, hforce, hpending⟩ := hold_poke (s.access q) (key q.index q.sub) (ofLE q.body)
  rw [hput]
  exact ⟨hobj, hforce.trans (force_access s q h.1.1 hkey), hpending⟩

theorem answered_force (t : State) (q : Req) (op : Op) (b : Bool) (m : List Byte) (y r k : Nat) :
    (t.answered q op b m y r).force k = t.force k := by
  simp only [State.force, answered_inForce, answered_obj]

theorem answered_isPending (t : State) (q : Req) (op : Op) (b : Bool) (m : List Byte) (y r k : Nat) :
    (t.answered q op b m y r).isPending k = t.isPending k := by
  simp only [State.isPending, answered_inForce]

/-- Settles O7. -/
theorem writeStoresTheValue : Obligations.WriteStoresTheValue := by
  unfold Obligations.WriteStoresTheValue
  intro s q l hsafe h
  obtain ⟨hcls, hport⟩ := written_writer s q l h.1.1
  refine ⟨_, (exec_write q s).trans (write_done s q l h), ⟨responds_answered .., ?_, ?_, fun hform h0 hlo hhi => ?_⟩, fun hplain hsettled => ?_⟩
  · rw [answered_writer]
    exact hcls
  · rw [answered_writer]
    exact hport
  · rw [answered_obj, answered_force, answered_isPending]
    exact written_pitch h hform h0 hlo hhi
  · refine after_put_plain h.1.1 hplain hsettled ((same_finish s _ ?_ ?_).trans (same_answered ..))
    · rw [answered_variant, State.written, put_plain_eq hplain]
      exact access_variant s q
    · rw [answered_safeAsk, State.written, put_plain_eq hplain]
      exact (access_safeAsk s q).trans hsafe

end Sys2Proof.Proofs
end

section
/-! # Block transfers, subscriptions and replays -/

set_option Elab.async false

namespace Sys2Proof.Proofs

open Sys2Proof Sys2Proof.Machine Sys2Proof.Laws

/-! ## BLOCK_OPEN -/

theorem few_transfers_of_checkOpen {s : State} {q : Req} {l : Loc} (h : checkOpen s q = .ok l) : s.transfers.length < 16 := by
  unfold checkOpen at h
  extract_lets dir seg k at h
  obtain ⟨_, -, h⟩ := ok_of_bind h
  obtain ⟨_, -, h⟩ := ok_of_bind h
  obtain ⟨_, -, h⟩ := ok_of_bind h
  obtain ⟨_, -, h⟩ := ok_of_bind h
  obtain ⟨_, -, h⟩ := ok_of_bind h
  obtain ⟨_, -, h⟩ := ok_of_bind h
  extract_lets last rest at h
  have hrest : rest () = .ok l := by
    split at h
    · obtain ⟨_, -, h⟩ := ok_of_bind h
      obtain ⟨_, -, h⟩ := ok_of_bind h
      exact h
    · exact h
  obtain ⟨_, -, hrest⟩ := ok_of_bind hrest
  obtain ⟨_, hfew, -⟩ := ok_of_bind hrest
  exact of_decide_eq_true (true_of_need hfew)

/-- A new id is none in use, while fewer than 65,535 are. -/
theorem newId_fresh (s : State) {used : List Nat} (h : used.length < 65535) :
    1 ≤ (s.newId used).1 ∧ (s.newId used).1 ≤ 65535 ∧ (s.newId used).1 ∉ used := freshId_spec _ used h

/-- What a new id leaves but the count of free choices. -/
theorem same_newId (s : State) (used : List Nat) : Same (s.newId used).2 s := same_of _ _ rfl rfl rfl rfl rfl rfl rfl rfl rfl rfl

theorem same_setTransfers (s : State) (xs : List Transfer) (ys : List (Nat × Nat × Nat)) :
    Same { s with transfers := xs, silenced := ys } s := same_of _ _ rfl rfl rfl rfl rfl rfl rfl rfl rfl rfl

theorem transfers_afterRead (s : State) (l : Loc) (i b : Nat) : (s.afterRead l i b).transfers = s.transfers := by
  unfold State.afterRead
  split
  · split <;> rfl
  · rfl

/-- The transfer that a BLOCK_OPEN opens under an id (R65). -/
def openedTransfer (s : State) (q : Req) (l : Loc) (id : Nat) : Transfer :=
  let writing := leAt q.body 0 1 == 1
  let data := if writing then [] else s.readBytes l q.port q.index q.sub
  ⟨id, q.port, q.src, q.seq, key q.index q.sub, writing, min (leAt q.body 2 2) (s.segmentLimit q.port),
    if writing then leAt q.body 4 4 else data.length, if writing then leAt q.body 8 4 else crc32 data, data, 0, s.clock, false, 0⟩

/-- What a BLOCK_OPEN leaves. -/
def opened (s : State) (q : Req) (l : Loc) : State :=
  let id := (s.newId (s.transfers.map (·.id))).1
  let t : State := { (s.newId (s.transfers.map (·.id))).2 with
    transfers := s.transfers ++ [openedTransfer s q l id], silenced := s.silenced.filter (fun e => e.1 != id) }
  if leAt q.body 0 1 == 1 then t else t.afterRead l q.index q.sub

theorem opBlockOpen_of_check {s : State} {q : Req} {l : Loc} (h : checkOpen s q = .ok l) :
    opBlockOpen q s = done (opened s q l) (toLE 2 (s.newId (s.transfers.map (·.id))).1 ++
      toLE 2 (openedTransfer s q l 0).segment ++ toLE 4 (openedTransfer s q l 0).total ++
      toLE 4 (if leAt q.body 0 1 == 1 then 0 else (openedTransfer s q l 0).crc)) l.row.ty.code (s.newId (s.transfers.map (·.id))).1 := by
  simp only [opBlockOpen, h]
  rfl

theorem same_opened (s : State) (q : Req) (l : Loc) : Same (opened s q l) s := by
  unfold opened
  extract_lets id fresh t
  have ht : Same t s := (same_setTransfers ..).trans (same_newId ..)
  exact same_ite ht ((same_afterRead ..).trans ht)

theorem transfers_opened (s : State) (q : Req) (l : Loc) :
    (opened s q l).transfers = s.transfers ++ [openedTransfer s q l (s.newId (s.transfers.map (·.id))).1] := by
  unfold opened
  split
  · rfl
  · rw [transfers_afterRead]

theorem ports_opened (s : State) (q : Req) (l : Loc) : (opened s q l).ports = s.ports := by
  unfold opened
  split
  · rfl
  · rw [ports_afterRead]
    rfl

/-- Settles O9. -/
theorem blockOpenStartsATransfer : Obligations.BlockOpenStartsATransfer := by
  unfold Obligations.BlockOpenStartsATransfer
  intro s q l hsafe h hl writing granted data total crc
  have hfew := few_transfers_of_checkOpen hl
  rw [access_transfers] at hfew
  obtain ⟨hlo, hhi, hfresh⟩ := newId_fresh (s.access q) (used := s.transfers.map (·.id)) (by rw [List.length_map]; omega)
  refine ⟨_, hlo, hhi, hfresh, ?_⟩
  rw [← access_transfers s q]
  refine answers_of (exec_blockOpen q s) h hsafe (opBlockOpen_of_check hl) rfl (same_opened ..) ⟨?_, ?_⟩
  · rw [answered_transfers, transfers_opened]
    rfl
  · exact responds_of_ports ((ports_opened ..).trans (access_ports s q)) ..

/-! ## The transfer that a request names -/

theorem transferNamed_access (s : State) (q : Req) : (s.access q).transferNamed q = s.transferNamed q := by
  simp only [State.transferNamed, access_transfers]

theorem same_putTransfer (s : State) (x : Transfer) : Same (s.putTransfer x) s := same_of _ _ rfl rfl rfl rfl rfl rfl rfl rfl rfl rfl

theorem same_endTransfer (s : State) (id : Nat) : Same (s.endTransfer id) s := same_of _ _ rfl rfl rfl rfl rfl rfl rfl rfl rfl rfl

theorem ports_putTransfer (s : State) (x : Transfer) : (s.putTransfer x).ports = s.ports := rfl

theorem ports_endTransfer (s : State) (id : Nat) : (s.endTransfer id).ports = s.ports := rfl

section
variable {s : State} {q : Req} {x : Transfer}

theorem openTransfer_of_named (h : s.transferNamed q = some x) (hw : x.waiting = false) : s.openTransfer q = .ok x := by
  simp [State.openTransfer, h, hw]

theorem blockTarget_of_named (h : s.transferNamed q = some x) (hw : x.waiting = false) (hc : checkTransfer s q x = .ok ())
    {len : Transfer → Res Unit} (hlen : len x = .ok ()) (least : Res Unit) : s.blockTarget q len least = .ok x := by
  simp only [State.blockTarget, h, hc, hlen, bind, Except.bind]
  exact openTransfer_of_named h hw

theorem storeCut_none (h : usesStore x.obj = true → s.obj (K.arbClientState 46) = 0) : s.storeCut x = none := by
  unfold State.storeCut
  split
  · rename_i hstore
    have hred : s.clientRed 46 = false := by simp [State.clientRed, h hstore]
    simp [State.storeAnswers, hred, need]
  · rfl

/-- The management client's state stands while a request makes its way. -/
theorem client_access (hport : portPresent s.variant q.port = true) (h : usesStore x.obj = true → s.obj (K.arbClientState 46) = 0) :
    usesStore x.obj = true → (s.access q).obj (K.arbClientState 46) = 0 := fun hstore => by
  rw [(reached_access s q hport).obj _ (by decide), h hstore]

/-! ## BLOCK_SEGMENT -/

theorem segmentWrite_next (hn : leAt q.body 0 4 = x.next) :
    segmentWrite q x s = done (s.putTransfer { x with last := s.clock, next := leAt q.body 0 4 + 1, data := x.data ++ q.body.drop 4 })
      [] q.ty x.id := by
  have hmap (y z : Transfer) (hy : y.id = x.id) (hz : z.id = x.id) : (s.putTransfer y).putTransfer z = s.putTransfer z := by
    simp only [State.putTransfer, List.map_map]
    congr 1
    refine List.map_congr_left fun t _ => ?_
    by_cases ht : t.id = x.id <;> simp [ht, hy, hz]
  simp only [segmentWrite, hn, ne_eq, not_true, if_false]
  exact congrArg (done · [] q.ty x.id) (hmap _ _ rfl rfl)

theorem segmentRead_within (hn : leAt q.body 0 4 ≤ (x.total - 1) / x.segment) :
    segmentRead q x s = done (s.putTransfer { x with last := s.clock })
      (toLE 4 (leAt q.body 0 4) ++ (x.data.drop (leAt q.body 0 4 * x.segment)).take x.segment) q.ty x.id := by
  simp only [segmentRead, if_neg (Nat.not_lt.2 hn)]

theorem opBlockSegment_of_named (h : s.transferNamed q = some x) (hw : x.waiting = false) (hc : checkTransfer s q x = .ok ())
    (hlen : segmentLength q x = .ok ()) (hs : usesStore x.obj = true → s.obj (K.arbClientState 46) = 0) :
    opBlockSegment q s = if x.writing then segmentWrite q x s else segmentRead q x s := by
  simp only [opBlockSegment, blockTarget_of_named h hw hc hlen, storeCut_none hs]

end

theorem transfers_putTransfer_access (s : State) (q : Req) (y : Transfer) :
    ((s.access q).putTransfer y).transfers = s.transfers.map (fun z => if z.id = y.id then y else z) := by
  rw [← access_transfers s q]
  rfl

/-- Settles O10. -/
theorem blockSegmentsCarryTheBytes : Obligations.BlockSegmentsCarryTheBytes := by
  unfold Obligations.BlockSegmentsCarryTheBytes
  intro s q x hsafe h hx hw hc hs n
  have hnamed := (transferNamed_access s q).trans hx
  have hop (hlen : segmentLength q x = .ok ()) := opBlockSegment_of_named hnamed hw hc hlen (client_access h.1 hs)
  refine ⟨fun hwriting hmin hmax hn => ?_, fun hreading hlen hn => ?_⟩
  · have hseg : segmentLength q x = .ok () := by
      have h4 : q.body.length - 4 ≤ x.segment := by omega
      simp [segmentLength, hwriting, need, hmin, h4, bind, Except.bind]
    have hdone := ((hop hseg).trans (if_pos hwriting)).trans (segmentWrite_next hn)
    refine answers_of (exec_blockSegment q s) h hsafe hdone rfl (same_putTransfer ..) ⟨?_, ?_⟩
    · rw [answered_transfers, transfers_putTransfer_access]
    · exact responds_of_ports ((ports_putTransfer ..).trans (access_ports s q)) ..
  · have hseg : segmentLength q x = .ok () := by simp [segmentLength, hreading, need, hlen]
    have hdone := ((hop hseg).trans (if_neg (by simp [hreading]))).trans (segmentRead_within hn)
    refine answers_of (exec_blockSegment q s) h hsafe hdone rfl (same_putTransfer ..) ⟨?_, ?_⟩
    · rw [answered_transfers, transfers_putTransfer_access]
    · exact responds_of_ports ((ports_putTransfer ..).trans (access_ports s q)) ..

end Sys2Proof.Proofs
end

section
/-! # What an effect leaves alone

Frames of effects: the objects outside a list, the variant, the Store's bytes, the contexts and the values in force. -/

set_option Elab.async false

namespace Sys2Proof.Proofs

open Sys2Proof Sys2Proof.Machine Sys2Proof.Laws

/-- State u is state s but for the objects of a list, those that the closing of a command may move, and what no object shows. -/
structure Leaves (ks : List Nat) (u s : State) : Prop where
  variant : u.variant = s.variant
  safeAsk : u.safeAsk = s.safeAsk
  mem : u.mem = s.mem
  ctxs : u.ctxs = s.ctxs
  inForce : u.inForce = s.inForce
  obj : ∀ k, k ∉ ks → settledKey k = false → u.obj k = s.obj k

section
variable {ks : List Nat} {a b u s : State}

theorem Leaves.refl (ks : List Nat) (s : State) : Leaves ks s s := ⟨rfl, rfl, rfl, rfl, rfl, fun _ _ _ => rfl⟩

theorem Leaves.trans (h : Leaves ks a b) (g : Leaves ks b s) : Leaves ks a s :=
  ⟨h.variant.trans g.variant, h.safeAsk.trans g.safeAsk, h.mem.trans g.mem, h.ctxs.trans g.ctxs, h.inForce.trans g.inForce,
    fun k hk hs => (h.obj k hk hs).trans (g.obj k hk hs)⟩

theorem Leaves.mono {ks' : List Nat} (h : Leaves ks u s) (hks : ∀ k ∈ ks, k ∈ ks') : Leaves ks' u s :=
  ⟨h.variant, h.safeAsk, h.mem, h.ctxs, h.inForce, fun k hk hs => h.obj k (fun hm => hk (hks k hm)) hs⟩

theorem leaves_of_same (h : Same u s) : Leaves ks u s :=
  ⟨h.variant, h.safeAsk, h.mem, h.ctxs, h.inForce, fun k _ hk => h.obj k hk⟩

/-- A change of fields that no object shows. -/
theorem leaves_of_dict (hv : u.variant = s.variant) (hd : u.dict = s.dict) (ha : u.safeAsk = s.safeAsk) (hm : u.mem = s.mem)
    (hc : u.ctxs = s.ctxs) (hi : u.inForce = s.inForce) : Leaves ks u s :=
  ⟨hv, ha, hm, hc, hi, fun _ _ _ => by simp only [State.obj, hv, hd]⟩

theorem leaves_begin (s : State) (t : Nat) : Leaves ks (s.begin_ t) s := leaves_of_dict rfl rfl rfl rfl rfl rfl

theorem leaves_set (s : State) {k : Nat} (v : Nat) (h : k ∈ ks) : Leaves ks (s.set k v) s :=
  ⟨set_variant .., set_safeAsk .., set_mem .., set_ctxs .., set_inForce .., fun _ hi _ => obj_set_ne s v fun e => hi (e ▸ h)⟩

theorem leaves_poke (s : State) {k : Nat} (v : Nat) (h : k ∈ ks) : Leaves ks (s.poke k v) s :=
  ⟨poke_variant .., poke_safeAsk .., poke_mem .., poke_ctxs .., poke_inForce .., fun _ hi _ => obj_poke_ne s v fun e => hi (e ▸ h)⟩

theorem leaves_count (s : State) {k : Nat} (w n : Nat) (h : k ∈ ks) : Leaves ks (s.count k w n) s :=
  ⟨count_variant .., count_safeAsk .., count_mem .., count_ctxs .., count_inForce .., fun _ hi _ => obj_count_ne s w n fun e => hi (e ▸ h)⟩

theorem leaves_tally (s : State) {k : Nat} (w n : Nat) (h : k ∈ ks) : Leaves ks (s.tally k w n) s :=
  ⟨tally_variant .., tally_safeAsk .., tally_mem .., tally_ctxs .., tally_inForce .., fun _ hi _ => obj_tally_ne s w n fun e => hi (e ▸ h)⟩

theorem leaves_record (s : State) (k c p : Nat) : Leaves ks (s.record k c p) s := leaves_of_dict rfl rfl rfl rfl rfl rfl

theorem leaves_emit (s : State) (e : Emission) : Leaves ks (s.emit e) s := leaves_of_dict rfl rfl rfl rfl rfl rfl

/-- A raise moves its source alone, but for its status. -/
theorem leaves_raise (s : State) (n d : Nat) (h : ∀ k ∈ evKeys n, k ∈ ks) : Leaves ks (s.raise n d) s :=
  ⟨raise_variant .., raise_safeAsk .., raise_mem .., raise_ctxs .., raise_inForce .., fun k hk _ => obj_raise_ne s n d k fun he =>
    hk (h k (by simpa only [evKeys, eventKey, List.mem_cons, List.not_mem_nil, or_false] using he))⟩

theorem leaves_lower (s : State) {n : Nat} (h : n < 768) : Leaves ks (s.lower n) s := leaves_of_same (same_lower s h)

theorem leaves_ite {c : Prop} [Decidable c] (h : c → Leaves ks a s) (g : ¬ c → Leaves ks b s) : Leaves ks (if c then a else b) s := by
  split
  · exact h ‹_›
  · exact g ‹_›

theorem leaves_foldl {β : Type} (f : State → β → State) (xs : List β) (s : State) (h : ∀ s, ∀ x ∈ xs, Leaves ks (f s x) s) :
    Leaves ks (xs.foldl f s) s := by
  induction xs generalizing s with
  | nil => exact Leaves.refl ks s
  | cons x xs ih =>
    exact (ih (f s x) fun s y hy => h s y (List.mem_cons_of_mem _ hy)).trans (h s x (List.mem_cons_self ..))

end

/-! ## From an effect to its command -/

section
variable {c : Instr} {s : State} {t : Nat} {f : State → State} {vs : List (Nat × Nat)} {own : State → Prop}

theorem sets_of_leaves {u : State} (he : exec c s = .next (s.finish u)) (hsafe : s.safeAsk = 0) (hl : Leaves (vs.map (·.1)) u s)
    (hv : Holds u vs) (hown : own u) : Sets c s vs own :=
  sets_of he hl.variant (hl.safeAsk.trans hsafe) hv hown hl.obj hl.mem hl.ctxs hl.inForce

/-- An event of a device that is not in reset, from the frame of its effect. -/
theorem sets_event (he : exec c s = s.event t f) (h : Awake s) (hl : Leaves (vs.map (·.1)) (f (s.begin_ t)) (s.begin_ t))
    (hv : Holds (f (s.begin_ t)) vs) (hown : own (f (s.begin_ t))) : Sets c s vs own :=
  sets_of_leaves (he.trans (event_next s t f h.1)) h.2 (hl.trans (leaves_begin s t)) hv hown

theorem sets_eventOf {b : Bool} (he : exec c s = s.eventOf b t f) (hb : b = true) (h : Awake s)
    (hl : Leaves (vs.map (·.1)) (f (s.begin_ t)) (s.begin_ t)) (hv : Holds (f (s.begin_ t)) vs) (hown : own (f (s.begin_ t))) :
    Sets c s vs own :=
  sets_of_leaves (he.trans (eventOf_next s b t f hb h.1)) h.2 (hl.trans (leaves_begin s t)) hv hown

theorem sets_runOf {b : Bool} (he : exec c s = s.runOf b t f) (hb : b = true) (hsafe : s.safeAsk = 0)
    (hl : Leaves (vs.map (·.1)) (f (s.begin_ t)) (s.begin_ t)) (hv : Holds (f (s.begin_ t)) vs) (hown : own (f (s.begin_ t))) :
    Sets c s vs own :=
  sets_of_leaves (he.trans (runOf_next s b t f hb)) hsafe (hl.trans (leaves_begin s t)) hv hown

theorem holds_nil (u : State) : Holds u [] := fun _ h => absurd h List.not_mem_nil

theorem holds_cons {u : State} {e : Nat × Nat} (h : u.obj e.1 = e.2) (hv : Holds u vs) : Holds u (e :: vs) :=
  List.forall_mem_cons.2 ⟨h, hv⟩

end

end Sys2Proof.Proofs
end

section
/-! # Transfers end -/

set_option Elab.async false

namespace Sys2Proof.Proofs

open Sys2Proof Sys2Proof.Machine Sys2Proof.Laws

section
variable {s : State} {q : Req} {x : Transfer}

theorem opBlockAbort_of_named (h : s.transferNamed q = some x) (hw : x.waiting = false) (hc : checkTransfer s q x = .ok ())
    (hbody : q.body = []) : opBlockAbort q s = done (s.endTransfer x.id) [] q.ty x.id := by
  have hlen : need q.body.isEmpty aLength 0 = .ok () := by rw [hbody]; rfl
  simp only [opBlockAbort, blockTarget_of_named h hw hc (len := fun _ => need q.body.isEmpty aLength 0) hlen]

theorem opBlockClose_of_named (h : s.transferNamed q = some x) (hw : x.waiting = false) (hc : checkTransfer s q x = .ok ())
    (hbody : q.body = []) (hs : usesStore x.obj = true → s.obj (K.arbClientState 46) = 0) :
    opBlockClose q s = if x.writing then closeWrite q x s else done (s.endTransfer x.id) [] q.ty x.id := by
  have hlen : need q.body.isEmpty aLength 0 = .ok () := by rw [hbody]; rfl
  simp only [opBlockClose, blockTarget_of_named h hw hc (len := fun _ => need q.body.isEmpty aLength 0) hlen, storeCut_none hs]

theorem find_of_checkTransfer (hc : checkTransfer s q x = .ok ()) : ∃ l, s.find (x.obj / 256) (x.obj % 256) = .ok l := by
  unfold checkTransfer at hc
  split at hc
  · contradiction
  · exact ⟨_, ‹_›⟩

/-- The close of a write of `board.user` in LOAD puts the bytes beside those in force (R66, R220). -/
theorem closeBlock_boardUser (s : State) (l : Loc) (cls port : Nat) (bs : List Byte) (hmode : s.mode = mLoad) :
    s.closeBlock l (K.boardUser / 256) (K.boardUser % 256) cls port bs =
      ((s.setBlob (stagedBlob K.boardUser) bs).record K.boardUser cls port, .ok false) := by
  have hguard : guardBoard s = .ok () := by simp [guardBoard, needMode, need, hmode]
  have hkey : key (K.boardUser / 256) (K.boardUser % 256) = K.boardUser := by decide
  have hslot : slotOfKey K.boardUser = none := by decide
  have hseq : seqOfKey K.boardUser = none := by decide
  have hne : K.boardUser ≠ K.graphProgram ∧ K.boardUser ≠ K.configImage ∧ K.boardUser ≠ K.backstopImage ∧ K.boardUser ≠ K.boardName := by
    decide
  obtain ⟨h1, h2, h3, h4⟩ := hne
  simp only [State.closeBlock, hkey, hslot, hseq, if_neg h1, if_neg h2, if_neg h3, if_neg h4, if_true, hguard]

theorem closeWrite_boardUser (hobj : x.obj = K.boardUser) (hmode : s.mode = mLoad) (hlen : x.data.length = x.total)
    (hcrc : crc32 x.data = x.crc) (hc : checkTransfer s q x = .ok ()) :
    closeWrite q x s = done (((s.endTransfer x.id).setBlob (stagedBlob K.boardUser) x.data).record K.boardUser (s.classOf x.port) x.port)
      [] q.ty x.id := by
  have hbytes : checkBytes x = .ok () := by simp [checkBytes, need, hlen, hcrc, bind, Except.bind]
  obtain ⟨l, hfind⟩ := find_of_checkTransfer hc
  have hfind' : (s.endTransfer x.id).find (x.obj / 256) (x.obj % 256) = .ok l := hfind
  have hmode' : (s.endTransfer x.id).mode = mLoad := hmode
  simp only [closeWrite, hbytes, hfind']
  rw [hobj, closeBlock_boardUser _ _ _ _ _ hmode']

end

theorem mode_access (s : State) (q : Req) (hport : portPresent s.variant q.port = true) : (s.access q).mode = s.mode :=
  (reached_access s q hport).obj K.deviceMode (by decide)

theorem same_setBlob (s : State) (k : Nat) (bs : List Byte) : Same (s.setBlob k bs) s := same_of _ _ rfl rfl rfl rfl rfl rfl rfl rfl rfl rfl

theorem ports_setBlob (s : State) (k : Nat) (bs : List Byte) : (s.setBlob k bs).ports = s.ports := rfl

theorem ports_record (s : State) (k c p : Nat) : (s.record k c p).ports = s.ports := rfl

theorem transfers_endTransfer_access (s : State) (q : Req) (id : Nat) :
    ((s.access q).endTransfer id).transfers = s.transfers.filter (fun y => y.id != id) := by
  rw [← access_transfers s q]
  rfl

/-- A closed write of `board.user` (R66, R220). -/
theorem boardUser_closes {s : State} {q : Req} {x : Transfer} (hsafe : s.safeAsk = 0) (h : Admitted s q .blockClose)
    (hx : s.transferNamed q = some x) (hw : x.waiting = false) (hbody : q.body = []) (hc : checkTransfer (s.access q) q x = .ok ())
    (hwriting : x.writing = true) (hobj : x.obj = K.boardUser) (hmode : s.mode = mLoad) (hlen : x.data.length = x.total)
    (hcrc : crc32 x.data = x.crc) : Completes (.blockClose q) s
      (fun u => u.transfers = s.transfers.filter (fun y => y.id != x.id) ∧ u.blob (stagedBlob K.boardUser) = some x.data ∧
        u.blob K.boardUser = s.blob K.boardUser ∧ (u.writer K.boardUser).cls = s.classOf x.port ∧
        Responds s u q (okMessage u q .blockClose [] q.ty x.id)) (fun t => RequestFrame s t []) := by
  have hnamed := (transferNamed_access s q).trans hx
  have hdone := ((opBlockClose_of_named hnamed hw hc hbody (fun hstore => absurd (hobj ▸ hstore) (by decide))).trans
    (if_pos hwriting)).trans (closeWrite_boardUser hobj ((mode_access s q h.1).trans hmode) hlen hcrc hc)
  have hreset : (s.access q).resets q .blockClose = false := by
    simp only [State.resets, hnamed, hobj, hwriting]
    decide
  refine answers_of (exec_blockClose q s) h hsafe hdone hreset
    ((same_record ..).trans ((same_setBlob ..).trans (same_endTransfer ..))) ⟨?_, ?_, ?_, ?_, ?_⟩
  · rw [answered_transfers]
    exact transfers_endTransfer_access ..
  · rw [State.blob, answered_blobs]
    exact find_insert_self ..
  · rw [State.blob, State.blob, answered_blobs, ← access_blobs s q]
    exact find_insert_ne _ _ (by decide)
  · rw [answered_writer, writer_record_self]
    exact access_classOf s q h.1 x.port
  · exact responds_of_ports ((ports_record ..).trans ((ports_setBlob ..).trans ((ports_endTransfer ..).trans (access_ports s q)))) ..

/-- 2 s without a message end a transfer (R66). -/
theorem silence_ends {s : State} {t id : Nat} {x : Transfer} (h : Awake s)
    (hx : s.transfers.find? (fun y => y.id == id && !y.waiting) = some x) (hlast : x.last + 2 * perS ≤ t) :
    Sets (.blockTransferSilence t id) s []
      (fun u => u.transfers = s.transfers.filter (fun y => y.id != id) ∧ u.silenced = s.silenced ++ [(id, x.port, x.last)]) := by
  have hx' : (s.begin_ t).transfers.find? (fun y => y.id == id && !y.waiting) = some x := hx
  have hdue : ¬ (s.begin_ t).clock < x.last + 2 * perS := Nat.not_lt.2 (hlast.trans (Nat.le_max_right ..))
  have hends : xTransferSilence id (s.begin_ t) =
      { (s.begin_ t).endTransfer id with silenced := s.silenced ++ [(id, x.port, x.last)] } := by
    simp only [xTransferSilence, hx', if_neg hdue, begin_silenced]
  refine sets_event (exec_blockTransferSilence t id s) h ?_ (holds_nil _) ?_ <;> rw [hends]
  · exact leaves_of_dict rfl rfl rfl rfl rfl rfl
  · exact ⟨rfl, rfl⟩

/-- Settles O11. -/
theorem transfersEnd : Obligations.TransfersEnd := by
  unfold Obligations.TransfersEnd
  refine ⟨fun s q x hsafe hx hw hbody hc => ?_, fun s t id x h hx hlast _ => silence_ends h hx hlast⟩
  have hnamed := (transferNamed_access s q).trans hx
  refine ⟨fun h => ?_, fun h hreading hs => ?_, fun h => boardUser_closes hsafe h hx hw hbody hc⟩
  · refine answers_of (exec_blockAbort q s) h hsafe (opBlockAbort_of_named hnamed hw hc hbody) rfl (same_endTransfer ..) ⟨?_, ?_⟩
    · rw [answered_transfers, transfers_endTransfer_access]
    · exact responds_of_ports ((ports_endTransfer ..).trans (access_ports s q)) ..
  · have hdone := (opBlockClose_of_named hnamed hw hc hbody (client_access h.1 hs)).trans (if_neg (by simp [hreading]))
    have hreset : (s.access q).resets q .blockClose = false := by simp [State.resets, hnamed, hreading]
    refine answers_of (exec_blockClose q s) h hsafe hdone hreset (same_endTransfer ..) ⟨?_, ?_⟩
    · rw [answered_transfers, transfers_endTransfer_access]
    · exact responds_of_ports ((ports_endTransfer ..).trans (access_ports s q)) ..

end Sys2Proof.Proofs
end

section
/-! # Subscriptions and replays -/

set_option Elab.async false

namespace Sys2Proof.Proofs

open Sys2Proof Sys2Proof.Machine Sys2Proof.Laws

/-! ## SUBSCRIBE and UNSUBSCRIBE -/

section
variable {s : State} {q : Req} {target : Nat}

theorem sameSub_access (s : State) (q : Req) (target : Nat) : (s.access q).sameSub q target = s.sameSub q target := by
  simp only [State.sameSub, access_subs]

/-- The end of the lease that a SUBSCRIBE asks for: leases hold on UDP alone (R68). -/
def leaseEnd (s : State) (q : Req) : Nat := if isUdp q.port then s.clock + s.leaseOf (leAt q.body 8 2) * perS else 0

/-- The subscription that a SUBSCRIBE begins under an id (R68). -/
def newSubscription (s : State) (q : Req) (target id : Nat) : Subscription :=
  ⟨id, q.port, q.src, leAt q.body 0 1 == 1, target, leAt q.body 1 1 % 2 == 1, 2 ≤ leAt q.body 1 1, leAt q.body 2 2, leAt q.body 8 2,
    leaseEnd s q, 0, 0, false, none, if leAt q.body 0 1 == 1 then 0 else (s.writer target).time, none⟩

/-- What a new subscription leaves. -/
def subscribed (s : State) (q : Req) (target : Nat) : State :=
  { (s.newId (s.subs.map (·.id))).2 with subs := s.subs ++ [newSubscription s q target (s.newId (s.subs.map (·.id))).1] }

theorem opSubscribe_new (h : checkSubscribe s q = .ok target) (hnone : s.sameSub q target = none)
    (hport : (s.subs.filter (fun x => x.port == q.port)).length < 32) (hall : s.subs.length < 256) :
    opSubscribe q s = done (subscribed s q target) (toLE 2 (s.newId (s.subs.map (·.id))).1) q.ty (s.newId (s.subs.map (·.id))).1 := by
  simp only [opSubscribe, h, hnone, if_neg (Nat.not_le.2 hport), if_neg (Nat.not_le.2 hall)]
  rfl

theorem opSubscribe_again (h : checkSubscribe s q = .ok target) {x : Subscription} (hx : s.sameSub q target = some x) :
    opSubscribe q s = done (s.putSub { x with lease := leAt q.body 8 2, leaseEnd := leaseEnd s q }) (toLE 2 x.id) q.ty x.id := by
  simp only [opSubscribe, h, hx]
  rfl

/-- What an ended subscription leaves. -/
def unsubscribed (s : State) (q : Req) : State := { s with subs := s.subs.filter (fun x => x.id != q.transfer) }

theorem opUnsubscribe_of_mem (hbody : q.body = []) (h : ∃ x ∈ s.subs, x.id = q.transfer ∧ x.port = q.port) :
    opUnsubscribe q s = done (unsubscribed s q) [] q.ty q.transfer := by
  have hany : s.subs.any (fun x => x.id == q.transfer && x.port == q.port) = true := by simpa using h
  simp only [opUnsubscribe, hbody, List.isEmpty_nil, Bool.not_true, Bool.false_eq_true, if_false, hany, if_true]
  rfl

theorem same_subscribed (s : State) (q : Req) (target : Nat) : Same (subscribed s q target) s :=
  same_of _ _ rfl rfl rfl rfl rfl rfl rfl rfl rfl rfl

theorem same_setSubs (s : State) (xs : List Subscription) : Same { s with subs := xs } s :=
  same_of _ _ rfl rfl rfl rfl rfl rfl rfl rfl rfl rfl

theorem same_unsubscribed (s : State) (q : Req) : Same (unsubscribed s q) s := same_setSubs ..

theorem ports_unsubscribed (s : State) (q : Req) : (unsubscribed s q).ports = s.ports := rfl

theorem subs_unsubscribed_access (s : State) (q : Req) :
    (unsubscribed (s.access q) q).subs = s.subs.filter (fun x => x.id != q.transfer) := by
  rw [← access_subs s q]
  rfl

theorem ports_subscribed (s : State) (q : Req) (target : Nat) : (subscribed s q target).ports = s.ports := rfl

theorem subs_subscribed (s : State) (q : Req) (target : Nat) :
    (subscribed s q target).subs = s.subs ++ [newSubscription s q target (s.newId (s.subs.map (·.id))).1] := rfl

theorem leaseEnd_access (hport : portPresent s.variant q.port = true) : leaseEnd (s.access q) q =
    if isUdp q.port then (s.access q).clock + (if leAt q.body 8 2 = 0 then s.obj K.portsLeaseDefault else leAt q.body 8 2) * perS else 0 := by
  simp only [leaseEnd, State.leaseOf, (reached_access s q hport).obj K.portsLeaseDefault (by decide)]

/-- A new subscription stands under an id that none has (R68). -/
theorem subscribe_begins (hsafe : s.safeAsk = 0) (h : Admitted s q .subscribe) (hc : checkSubscribe (s.access q) q = .ok target)
    (hnone : s.sameSub q target = none) (hport : (s.subs.filter (fun x => x.port == q.port)).length < 32) (hall : s.subs.length < 256) :
    ∃ id, 1 ≤ id ∧ id ≤ 65535 ∧ id ∉ s.subs.map (·.id) ∧ Completes (.subscribe q) s
      (fun u => u.subs = s.subs ++ [newSubscription (s.access q) q target id] ∧
        Responds s u q (okMessage u q .subscribe (toLE 2 id) q.ty id)) (fun t => RequestFrame s t []) := by
  obtain ⟨hlo, hhi, hfresh⟩ := newId_fresh (s.access q) (used := s.subs.map (·.id)) (by rw [List.length_map]; omega)
  refine ⟨_, hlo, hhi, hfresh, ?_⟩
  have hdone := opSubscribe_new hc ((sameSub_access s q target).trans hnone) (by rwa [access_subs]) (by rwa [access_subs])
  rw [← access_subs s q]
  refine answers_of (exec_subscribe q s) h hsafe hdone rfl (same_subscribed ..) ⟨?_, ?_⟩
  · rw [answered_subs, subs_subscribed]
  · exact responds_of_ports ((ports_subscribed ..).trans (access_ports s q)) ..

end

theorem subs_putSub_access (s : State) (q : Req) (y : Subscription) :
    ((s.access q).putSub y).subs = s.subs.map (fun z => if z.id = y.id then y else z) := by
  rw [← access_subs s q]
  rfl

theorem ports_putSub (s : State) (x : Subscription) : (s.putSub x).ports = s.ports := rfl

theorem same_putSub_access (s : State) (x : Subscription) : Same (s.putSub x) s := same_setSubs s _

/-! ## Periodic notices -/

/-- A field of four bytes keeps what fits it. -/
theorem toLE_four_mod (v : Nat) : toLE 4 (v % 4294967296) = toLE 4 v := by
  simp only [toLE, List.cons.injEq, and_true]
  refine ⟨?_, ?_, ?_, ?_⟩ <;> apply BitVec.eq_of_toNat_eq <;> simp only [BitVec.toNat_ofNat] <;> omega

theorem notice_opcode (s : State) (x : Subscription) (n : Nat) : (s.notice x n).take 3 = toLE 3 0x0B1055 := rfl

theorem notice_seq (s : State) (x : Subscription) (n : Nat) : ((s.notice x n).drop 16).take 4 = toLE 4 x.seq := rfl

/-- What a periodic notice of an event node leaves where its port takes it at once (R68, R69). -/
theorem periodicNotice_node {s : State} {id : Nat} {x : Subscription} (hx : s.subs.find? (fun y => y.id == id && y.periodic) = some x)
    (hnode : x.isNode = true) (hport : isQueued x.port = false) (hbehind : x.behind = none)
    (hdue : ∀ b, x.lastSent = some b → b + max 1 x.interval * perMs ≤ s.clock) :
    xPeriodicNotice id s = ((s.putSub { x with seq := (x.seq + 1) % 4294967296, lastSent := some s.clock }).emit
      (.message x.port x.src (s.notice { x with seq := (x.seq + 1) % 4294967296 } 0))) := by
  have hfree : s.subFree x = true := by simp only [State.subFree, hbehind]
  unfold xPeriodicNotice
  rw [hx]
  cases hb : x.lastSent with
  | none => simp [hb, hfree, hnode, State.sendNotice, hport]
  | some b => simp [hb, hdue b hb, hfree, hnode, State.sendNotice, hport]

theorem periodic_sends {s : State} {t id : Nat} {x : Subscription} (h : Awake s)
    (hx : s.subs.find? (fun y => y.id == id && y.periodic) = some x) (hnode : x.isNode = true) (hport : isQueued x.port = false)
    (hbehind : x.behind = none) (hclock : s.clock ≤ t) (hdue : ∀ b, x.lastSent = some b → b + max 1 x.interval * perMs ≤ t) :
    Sets (.periodicNotice t id) s []
      (fun u => ∃ m, u.emitted = [.message x.port x.src m] ∧ m.take 3 = toLE 3 0x0B1055 ∧ (m.drop 16).take 4 = toLE 4 (x.seq + 1) ∧
        ∀ y ∈ u.subs, y.id = id → y.seq = (x.seq + 1) % 4294967296 ∧ y.lastSent = some t) := by
  have hnow : (s.begin_ t).clock = t := Nat.max_eq_right hclock
  have heffect := periodicNotice_node (s := s.begin_ t) hx hnode hport hbehind (by rwa [hnow])
  have hid : x.id = id := by
    have hfound := List.find?_some hx
    simp only [Bool.and_eq_true, beq_iff_eq] at hfound
    exact hfound.1
  refine sets_event (exec_periodicNotice t id s) h ?_ (holds_nil _) ⟨(s.begin_ t).notice { x with seq := (x.seq + 1) % 4294967296 } 0, ?_⟩ <;>
    rw [heffect]
  · exact leaves_of_dict rfl rfl rfl rfl rfl rfl
  · refine ⟨rfl, notice_opcode .., (notice_seq ..).trans (toLE_four_mod _), fun y hy hyid => ?_⟩
    obtain ⟨z, -, rfl⟩ := List.mem_map.1 hy
    by_cases hz : z.id = x.id
    · simp only [hz, if_true, hnow, and_self]
    · simp only [hz, if_false] at hyid
      exact absurd (hyid.trans hid.symm) hz

/-! ## What is served -/

theorem mem_leaseExpiry (s : State) (id : Nat) (x : Subscription) :
    x ∈ (xLeaseExpiry id s).subs ↔ x ∈ s.subs ∧ ¬(x.id = id ∧ isUdp x.port = true ∧ x.leaseEnd ≤ s.clock) := by
  simp only [xLeaseExpiry, List.mem_filter, Bool.not_eq_true', Bool.and_eq_false_iff, beq_eq_false_iff_ne, decide_eq_false_iff_not,
    not_and_or, Bool.not_eq_true, or_assoc, ne_eq]

/-- Settles O12. -/
theorem subscriptionsAreServed : Obligations.SubscriptionsAreServed := by
  unfold Obligations.SubscriptionsAreServed
  refine ⟨fun s q target hsafe h hc => ?_, fun s q hsafe h hbody hx => ?_, fun s t id h => ?_,
    fun s t id x h hx hnode hport hbehind hclock hdue => periodic_sends h hx hnode hport hbehind hclock hdue⟩
  · intro node flags lease ends
    have hends : ends = leaseEnd (s.access q) q := (leaseEnd_access h.1).symm
    rw [hends]
    refine ⟨fun hnone hport hall => subscribe_begins hsafe h hc hnone hport hall, fun x hx => ?_⟩
    have hdone := opSubscribe_again hc ((sameSub_access s q target).trans hx)
    refine answers_of (exec_subscribe q s) h hsafe hdone rfl (same_putSub_access ..) ⟨?_, ?_⟩
    · rw [answered_subs, subs_putSub_access]
    · exact responds_of_ports ((ports_putSub ..).trans (access_ports s q)) ..
  · have hdone := opUnsubscribe_of_mem (s := s.access q) hbody (by rwa [access_subs])
    refine answers_of (exec_unsubscribe q s) h hsafe hdone rfl (same_unsubscribed ..) ⟨?_, ?_⟩
    · rw [answered_subs, subs_unsubscribed_access]
    · exact responds_of_ports ((ports_unsubscribed ..).trans (access_ports s q)) ..
  · exact sets_event (exec_subscriptionLeaseExpiry t id s) h (leaves_of_same (same_setSubs ..)) (holds_nil _)
      (mem_leaseExpiry (s.begin_ t) id)

/-! ## REPLAY -/

theorem few_replays_of_checkReplay {s : State} {q : Req} {r : Nat × Nat} (h : checkReplayRequest s q = .ok r) : s.replays.length < 64 := by
  obtain ⟨_, -, h⟩ := ok_of_bind h
  obtain ⟨_, -, h⟩ := ok_of_bind h
  obtain ⟨_, hreplay, -⟩ := ok_of_bind h
  unfold checkReplay at hreplay
  obtain ⟨_, -, h⟩ := ok_of_bind hreplay
  obtain ⟨_, -, h⟩ := ok_of_bind h
  obtain ⟨_, -, h⟩ := ok_of_bind h
  obtain ⟨_, -, h⟩ := ok_of_bind h
  obtain ⟨_, -, h⟩ := ok_of_bind h
  obtain ⟨_, -, h⟩ := ok_of_bind h
  obtain ⟨_, hfew, -⟩ := ok_of_bind h
  exact of_decide_eq_true (true_of_need hfew)

/-- What an accepted REPLAY leaves. -/
def replayed (s : State) (q : Req) (r : Nat × Nat) : State :=
  { (s.newId (s.replays.map (·.id))).2 with
    replays := s.replays ++ [⟨(s.newId (s.replays.map (·.id))).1, (replayBody q.body).1,
      s.replayLane (replayBody q.body).1 (replayBody q.body).2.1, r.1, 0, 0, r.2, 0, 0, q.port, q.src⟩] }

theorem opReplay_of_check {s : State} {q : Req} {r : Nat × Nat} (h : checkReplayRequest s q = .ok r) :
    opReplay q s = done (replayed s q r) (toLE 8 r.1 ++ toLE 4 r.2) 0 (s.newId (s.replays.map (·.id))).1 := by
  simp only [opReplay, h]
  rfl

theorem same_replayed (s : State) (q : Req) (r : Nat × Nat) : Same (replayed s q r) s := same_of _ _ rfl rfl rfl rfl rfl rfl rfl rfl rfl rfl

theorem ports_replayed (s : State) (q : Req) (r : Nat × Nat) : (replayed s q r).ports = s.ports := rfl

/-- Settles O13. -/
theorem replayQueuesTheLines : Obligations.ReplayQueuesTheLines := by
  unfold Obligations.ReplayQueuesTheLines
  intro s q r hsafe h hr b
  have hfew := few_replays_of_checkReplay hr
  rw [access_replays] at hfew
  obtain ⟨hlo, hhi, hfresh⟩ := newId_fresh (s.access q) (used := s.replays.map (·.id)) (by rw [List.length_map]; omega)
  refine ⟨_, hlo, hhi, hfresh, ?_⟩
  rw [← access_replays s q]
  refine answers_of (exec_replay q s) h hsafe (opReplay_of_check hr) rfl (same_replayed ..) ⟨?_, ?_⟩
  · rw [answered_replays]
    rfl
  · exact responds_of_ports ((ports_replayed ..).trans (access_ports s q)) ..

end Sys2Proof.Proofs
end

section
/-! # Ports -/

set_option Elab.async false

namespace Sys2Proof.Proofs

open Sys2Proof Sys2Proof.Machine Sys2Proof.Laws

/-! ## Sources that are raised -/

/-- The objects below the event sources are none of theirs. -/
theorem not_mem_evKeys {n k : Nat} (h : k < 0x700000) : k ∉ evKeys n := by
  simp only [evKeys, K.eventStatus, K.eventCount, K.eventTime, K.eventDetail, key, List.mem_cons, List.not_mem_nil, or_false]
  omega

theorem obj_raise_of_lt (s : State) (n d : Nat) {k : Nat} (h : k < 0x700000) : (s.raise n d).obj k = s.obj k :=
  obj_raise_ne s n d k fun he =>
    not_mem_evKeys (n := n) h (by simpa only [evKeys, eventKey, List.mem_cons, List.not_mem_nil, or_false] using he)

theorem map_fst_raisedBy (s : State) (n d : Nat) : (raisedBy s n d).map (·.1) = evKeys n := rfl

/-- A source that the variant has, after its raise (R405, R407). -/
theorem holds_raise {u s : State} {n : Nat} (d : Nat) (hsource : u.hasSource n = true)
    (hcount : u.obj (K.eventCount n) = s.obj (K.eventCount n)) (htime : u.time = s.time) : Holds (u.raise n d) (raisedBy s n d) := by
  obtain ⟨hstatus, hcount', htime', hdetail⟩ := raise_spec u n d hsource
  refine holds_cons hstatus (holds_cons ?_ (holds_cons ?_ (holds_cons hdetail (holds_nil _))))
  · rw [hcount', hcount]
  · rw [htime', State.now, htime, State.now]

/-- A source above those of tiles, lanes and engines belongs to every variant. -/
theorem hasSource_of_ge (s : State) {n : Nat} (hlo : 704 ≤ n) (hhi : n < 768) : s.hasSource n = true := by
  have h1 : ¬ n < 256 := by omega
  have h2 : ¬ n < 512 := by omega
  have h3 : ¬ n < 576 := by omega
  have h4 : ¬ n < 704 := by omega
  simp [State.hasSource, eventPresent, hhi, h1, h2, h3, h4]

theorem holds_raise_of_ge {u s : State} {n : Nat} (d : Nat) (hlo : 704 ≤ n) (hhi : n < 768)
    (hcount : u.obj (K.eventCount n) = s.obj (K.eventCount n)) (htime : u.time = s.time) : Holds (u.raise n d) (raisedBy s n d) :=
  holds_raise d (hasSource_of_ge u hlo hhi) hcount htime

/-! ## Requests that wait too long -/

theorem obj_showQueue (s : State) {k : Nat} (h : k ≠ K.portsQueue) : s.showQueue.obj k = s.obj k := obj_poke_ne s _ h

theorem classOf_showQueue (s : State) (p : Nat) : s.showQueue.classOf p = s.classOf p := by
  have hrole : K.laneRole (p - 16) ≠ K.portsQueue := by
    simp only [K.laneRole, K.portsQueue, key]
    omega
  simp only [State.classOf, obj_showQueue s hrole]

theorem answers_showQueue (s : State) (p : Nat) : s.showQueue.answers p = s.answers p := by
  have hmode : s.showQueue.mode = s.mode := obj_showQueue s (by decide)
  have hboot : s.showQueue.boot = s.boot := poke_boot ..
  have hpor : s.showQueue.porLow = s.porLow := poke_porLow ..
  simp only [State.answers, hmode, hboot, hpor, classOf_showQueue]

theorem portClosed_showQueue (s : State) (p : Nat) : s.showQueue.portClosed p = s.portClosed p := by
  simp only [State.portClosed, obj_showQueue s (show K.portsEnable ≠ K.portsQueue by decide),
    obj_showQueue s (show K.portsDebugStrap ≠ K.portsQueue by decide)]

theorem not_caches_of_isQueued (s : State) {p : Nat} (h : isQueued p = true) : s.caches p = false := by
  simp only [isQueued, Bool.or_eq_true, beq_iff_eq] at h
  obtain (rfl | rfl) | rfl := h <;> rfl

theorem waits_on (s : State) {q : Req} {op : Op} (h : q.at_ ≤ q.came + 10 * perMs) : xQueueTimeout q op s = s := by
  simp only [xQueueTimeout, if_pos h]

/-- The abort of a request that has waited more than 10 ms (R64). -/
def timeoutAbort (q : Req) : Abort := ⟨aTimeout, min ((q.at_ - q.came) / perUs) 4294967295⟩

/-- What a request leaves that has waited more than 10 ms. -/
def timedOut (s : State) (q : Req) (op : Op) : State :=
  (refused s.showQueue q op (s.showQueue.readsTrace q op) (timeoutAbort q)).raise 763 q.port

theorem queueTimeout_ends {q : Req} {op : Op} {s : State} (hlate : 10 * perMs < q.at_ - q.came) (hqueued : isQueued q.port = true)
    (hanswers : s.answers q.port = true) (hopen : s.portClosed q.port = false) (hheld : s.heldAt q < 16) (hahead : s.aheadOf q false < 64)
    (hown : s.aheadOf q true < 16) : xQueueTimeout q op s = timedOut s q op := by
  have hwaited : ¬ q.at_ ≤ q.came + 10 * perMs := by omega
  have hcaches : s.showQueue.caches q.port = false := not_caches_of_isQueued _ hqueued
  have harrive : s.showQueue.arrive q = s.showQueue := by simp [State.arrive, hcaches]
  have hheld' : ¬ 16 ≤ s.showQueue.heldAt q := Nat.not_le.2 hheld
  have hahead' : ¬ 64 ≤ s.showQueue.aheadOf q false := Nat.not_le.2 hahead
  have hown' : ¬ 16 ≤ s.showQueue.aheadOf q true := Nat.not_le.2 hown
  have habort : s.showQueue.queueAbort q = some (timeoutAbort q) := by
    simp only [State.queueAbort, hahead', hown', decide_false, Bool.or_self, Bool.false_eq_true, if_false, if_pos hlate, timeoutAbort]
  have hturned : s.showQueue.turnedAway q op = some (timedOut s q op) := by
    simp only [State.turnedAway, answers_showQueue, hanswers, hcaches, portClosed_showQueue, hopen, hheld', hqueued, State.repeats, habort,
      Bool.not_true, Bool.not_false, Bool.false_and, Bool.or_self, decide_false, Bool.and_false, Bool.false_eq_true, if_false, if_true,
      timedOut, refused]
  simp only [xQueueTimeout, if_neg hwaited, harrive, hturned]

theorem settled_aborts {p : Nat} (h : p < 33) : settledKey (K.portsPortAborts p) = false ∧ settledKey (K.portsPortLastAbort p) = false :=
  ⟨settledKey_key_false (by decide) (by omega), settledKey_key_false (by decide) (by omega)⟩

/-- An abort counts at its port (R73). -/
theorem tallyAbort_counts (s : State) (p : Nat) {code : Nat} (h : code ≠ 0) :
    (s.tallyAbort p code).obj (K.portsPortAborts p) = wrapAdd 64 (s.obj (K.portsPortAborts p)) 1 ∧
      (s.tallyAbort p code).obj (K.portsPortLastAbort p) = code := by
  have hne : K.portsPortAborts p ≠ K.portsPortLastAbort p := by
    simp only [K.portsPortAborts, K.portsPortLastAbort, key]
    omega
  rw [State.tallyAbort, if_neg h]
  exact ⟨(obj_set_ne _ _ hne).trans (obj_tally_self ..), obj_set_self ..⟩

theorem leaves_tallyAbort (s : State) (p code : Nat) {ks : List Nat} (h1 : K.portsPortAborts p ∈ ks) (h2 : K.portsPortLastAbort p ∈ ks) :
    Leaves ks (s.tallyAbort p code) s :=
  leaves_ite (fun _ => Leaves.refl ..) fun _ => (leaves_set _ _ h2).trans (leaves_tally _ _ _ h1)

theorem portsKey_lt {p : Nat} (h : p < 33) {b : Nat} (hb : b < 256) : key (0x1120 + p) b < 0x700000 := by
  simp only [key]
  omega

end Sys2Proof.Proofs
end

section
/-! # Ports answer and count -/

set_option Elab.async false

namespace Sys2Proof.Proofs

open Sys2Proof Sys2Proof.Machine Sys2Proof.Laws

theorem requestFrame_of_leaves {s t u : State} {ks : List Nat} (hl : Leaves ks u s) (ht : Same t u) : RequestFrame s t ks :=
  ⟨fun k hk _ hks => (ht.obj k hk).trans (hl.obj k hks hk), fun a => by simp only [State.byte, ht.mem, hl.mem], ht.ctxs.trans hl.ctxs,
    ht.inForce.trans hl.inForce⟩

theorem evKeys_settled {n : Nat} (hn : n ≠ 766) (hlt : n < 768) {k : Nat} (h : k ∈ evKeys n) (hs : k ≠ K.eventStatus n) :
    settledKey k = false := by
  simp only [evKeys, List.mem_cons, List.not_mem_nil, or_false, hs, false_or] at h
  obtain rfl | rfl | rfl := h <;> exact settledKey_key_false (by decide) (by omega)

/-! ## A request that has waited too long -/

theorem leaves_timedOut (s : State) (q : Req) (op : Op) :
    Leaves ([K.portsPortAborts q.port, K.portsPortLastAbort q.port] ++ evKeys 763) (timedOut s q op) s :=
  (leaves_raise _ _ _ fun _ hk => List.mem_append_right _ hk).trans ((leaves_of_same (same_refused ..)).trans
    ((leaves_tallyAbort _ _ _ (by simp) (by simp)).trans (leaves_of_same (same_showQueue s))))

theorem tallyAbort_time (s : State) (p code : Nat) : (s.tallyAbort p code).time = s.time := tallyAbort_keeps State.time set_time tally_time ..

theorem holds_timedOut (s : State) {q : Req} (op : Op) (hport : q.port < 33) :
    Holds (timedOut s q op) ((K.portsPortAborts q.port, wrapAdd 64 (s.obj (K.portsPortAborts q.port)) 1) ::
      (K.portsPortLastAbort q.port, aTimeout) :: raisedBy s 763 q.port) := by
  have hsame := same_refused s.showQueue q op (s.showQueue.readsTrace q op) (timeoutAbort q)
  obtain ⟨hsettled, hsettled'⟩ := settled_aborts hport
  obtain ⟨haborts, hlast⟩ := tallyAbort_counts s.showQueue q.port (show aTimeout ≠ 0 by decide)
  have hbefore : s.showQueue.obj (K.portsPortAborts q.port) = s.obj (K.portsPortAborts q.port) := (same_showQueue s).obj _ hsettled
  refine holds_cons ?_ (holds_cons ?_ (holds_raise_of_ge _ (by decide) (by decide) ?_ ?_))
  · exact ((obj_raise_of_lt _ _ _ (portsKey_lt hport (by decide))).trans (hsame.obj _ hsettled)).trans (haborts.trans (by rw [hbefore]))
  · exact ((obj_raise_of_lt _ _ _ (portsKey_lt hport (by decide))).trans (hsame.obj _ hsettled')).trans hlast
  · have hcount : K.eventCount 763 ∉ [K.portsPortAborts q.port, K.portsPortLastAbort q.port] := by
      simp only [K.eventCount, K.portsPortAborts, K.portsPortLastAbort, key, List.mem_cons, List.not_mem_nil, or_false]
      omega
    rw [hsame.obj _ (by decide), tallyAbort_obj_ne _ _ hcount, (same_showQueue s).obj _ (by decide)]
  · rw [hsame.time, tallyAbort_time, (same_showQueue s).time]

theorem response_error_detail (s : State) (q : Req) (op : Op) (e : Abort) :
    ((s.response q op (.error e)).drop 16).take 4 = toLE 4 e.detail := rfl

theorem responses_timedOut (s : State) {q : Req} (op : Op) (hqueued : isQueued q.port = true) :
    ((timedOut s q op).portState q.port).responses =
      (s.portState q.port).responses ++ [s.showQueue.response q op (.error (timeoutAbort q))] := by
  have hresponds := responds_refused s.showQueue q op (s.showQueue.readsTrace q op) (timeoutAbort q)
  simp only [Responds, hqueued, if_true, State.portState] at hresponds
  simp only [timedOut, State.portState, raise_ports]
  exact hresponds

/-- A request in the queue of its port (R64). -/
theorem queueTimeout_answered (s : State) (q : Req) (op : Op) (hsafe : s.safeAsk = 0) (hport : portPresent s.variant q.port = true) :
    (q.at_ ≤ q.came + 10 * perMs →
       Completes (.requestQueueTimeout q op) s (fun u => u = s.begin_ q.at_) (fun t => RequestFrame s t [])) ∧
     (10 * perMs < q.at_ - q.came → isQueued q.port = true → s.answers q.port = true → s.portClosed q.port = false →
       (s.begin_ q.at_).heldAt q < 16 → s.aheadOf q false < 64 → s.aheadOf q true < 16 →
       Completes (.requestQueueTimeout q op) s
         (fun u => (∃ m, (u.portState q.port).responses = (s.portState q.port).responses ++ [m] ∧
             (m.drop 12).take 2 = toLE 2 aTimeout ∧ (m.drop 16).take 4 = toLE 4 (min ((q.at_ - q.came) / perUs) 4294967295)) ∧
           Holds u ((K.portsPortAborts q.port, wrapAdd 64 (s.obj (K.portsPortAborts q.port)) 1) ::
             (K.portsPortLastAbort q.port, aTimeout) :: raisedBy (s.begin_ q.at_) 763 q.port))
         (fun t => RequestFrame s t ([K.portsPortAborts q.port, K.portsPortLastAbort q.port] ++ evKeys 763))) := by
  have he := (exec_requestQueueTimeout q op s).trans (runOf_next s _ _ _ hport)
  refine ⟨fun hwait => ?_, fun hlate hqueued hanswers hopen hheld hahead hown => ?_⟩
  · have heffect := waits_on (s.begin_ q.at_) (op := op) hwait
    exact completes_same he (by rw [heffect]; rfl) (by rw [heffect]; exact hsafe) heffect
      fun t ht => requestFrame_of_leaves (by rw [heffect]; exact leaves_begin s q.at_) ht
  · have heffect : xQueueTimeout q op (s.begin_ q.at_) = timedOut (s.begin_ q.at_) q op :=
      queueTimeout_ends hlate hqueued hanswers hopen hheld hahead hown
    have hl := (leaves_timedOut (s.begin_ q.at_) q op).trans (leaves_begin s q.at_)
    refine completes_same he (by rw [heffect, hl.variant]) (by rw [heffect, hl.safeAsk, hsafe])
      ⟨⟨(s.begin_ q.at_).showQueue.response q op (.error (timeoutAbort q)), ?_, response_error_code .., response_error_detail ..⟩, ?_⟩
      fun t ht => requestFrame_of_leaves hl (by rwa [heffect] at ht)
    · rw [heffect]
      exact responses_timedOut (s.begin_ q.at_) op hqueued
    · rw [heffect]
      exact holds_timedOut (s.begin_ q.at_) op (port_lt hport)

/-! ## What hosts read -/

theorem leaves_setPort (s : State) (p : Nat) (x : PortState) {ks : List Nat} : Leaves ks (s.setPort p x) s := leaves_of_same (same_setPort ..)

theorem portState_emit (s : State) (e : Emission) (p : Nat) : (s.emit e).portState p = s.portState p := rfl

section
variable {s : State} {t p : Nat} {c : Instr} {m : List Byte} {rest : List (List Byte)}

theorem statusRead_of_answers (h : s.answers p = true) : xStatusRead p s =
    (s.emit (.status p (s.statusByte p))).setPort p { s.portState p with crcErr := false, ovf := false, reject := false } := by
  simp only [xStatusRead, h, Bool.not_true, Bool.false_eq_true, if_false]
  rfl

theorem status_shows (h : Awake s) (hanswers : s.answers p = true)
    (hc : (p = 0 ∧ c = .spiStatus t) ∨ (p = 1 ∧ c = .parallelStatusRead t false)) :
    Sets c s [] (fun u => u.emitted = [.status p ((s.begin_ t).statusByte p)] ∧
      u.portState p = { s.portState p with crcErr := false, ovf := false, reject := false }) := by
  have he : exec c s = s.event t (xStatusRead p) := by
    obtain ⟨rfl, rfl⟩ | ⟨rfl, rfl⟩ := hc
    · exact exec_spiStatus t s
    · exact exec_parallelStatusRead t false s
  have heffect := statusRead_of_answers (s := s.begin_ t) (p := p) hanswers
  refine sets_event he h ?_ (holds_nil _) ?_ <;> rw [heffect]
  · exact (leaves_setPort ..).trans (leaves_emit ..)
  · exact ⟨rfl, portState_setPort_self ..⟩

theorem levels_show (h : Awake s) (hanswers : s.answers 1 = true) : Sets (.parallelStatusRead t true) s []
    (fun u => u.emitted = [.levels (s.begin_ t).levels] ∧ u.portState 1 = s.portState 1) := by
  have heffect : xParallelRead true (s.begin_ t) = (s.begin_ t).emit (.levels (s.begin_ t).levels) := by
    have h' : (s.begin_ t).answers 1 = true := hanswers
    simp only [xParallelRead, h', Bool.not_true, Bool.false_eq_true, if_false]
  refine sets_event (exec_parallelStatusRead t true s) h ?_ (holds_nil _) ?_ <;> rw [heffect]
  · exact leaves_emit ..
  · exact ⟨rfl, rfl⟩

theorem takeResponse_cons (hr : (s.portState p).responses = m :: rest) (hm : m ≠ []) : s.takeResponse p =
    (m, s.setPort p { s.portState p with
      responses := rest
      order := (s.portState p).order.erase true
      taken := ((s.portState p).taken.filter (fun t => decide (s.clock ≤ t + 10 * perMs))) ++ [s.clock] }) := by
  have hempty : m.isEmpty = false := by simpa using hm
  simp only [State.takeResponse, hr, hempty, Bool.false_eq_true, if_false]

theorem takeNotice_cons (hn : (s.portState p).notices = m :: rest) : s.takeNotice p =
    (m, s.setPort p { s.portState p with notices := rest, order := (s.portState p).order.erase false }) := by
  simp only [State.takeNotice, hn]

/-- The framing of the port on which a message is read. -/
theorem exec_of_frames {n : Nat} {cSpi cParallel : Instr} {take : State → Nat → List Byte × State}
    (hSpi : exec cSpi s = s.event n (fun s => s.handOut 0 spiFrame take))
    (hParallel : exec cParallel s = s.event n (fun s => s.handOut 1 parallelFrame take)) (hc : (p = 0 ∧ c = cSpi) ∨ (p = 1 ∧ c = cParallel)) :
    exec c s = s.event n (fun s => s.handOut p (if p = 0 then spiFrame else parallelFrame) take) := by
  obtain ⟨rfl, rfl⟩ | ⟨rfl, rfl⟩ := hc
  · exact hSpi
  · exact hParallel

theorem handOut_of_answers (h : s.answers p = true) (frame : List Byte → List Byte) (take : State → Nat → List Byte × State) :
    s.handOut p frame take = (take s p).2.emit (.message p 0 (frame (take s p).1)) := by
  simp only [State.handOut, h, Bool.not_true, Bool.false_eq_true, if_false]

theorem frame_apply (p : Nat) (m : List Byte) :
    (if p = 0 then spiFrame else parallelFrame) m = if p = 0 then spiFrame m else parallelFrame m := by split <;> rfl

theorem response_read (h : Awake s) (hanswers : s.answers p = true) (hr : (s.portState p).responses = m :: rest) (hm : m ≠ [])
    (hc : (p = 0 ∧ c = .spiResponse t) ∨ (p = 1 ∧ c = .parallelResponseRead t)) :
    Sets c s [] (fun u => u.emitted = [.message p 0 (if p = 0 then spiFrame m else parallelFrame m)] ∧
      (u.portState p).responses = rest ∧ (u.portState p).notices = (s.portState p).notices ∧
      (u.portState p).order = (s.portState p).order.erase true) := by
  have he := exec_of_frames (exec_spiResponse t s) (exec_parallelResponseRead t s) hc
  have heffect := handOut_of_answers (s := s.begin_ t) (p := p) hanswers (if p = 0 then spiFrame else parallelFrame) State.takeResponse
  rw [takeResponse_cons (s := s.begin_ t) hr hm, frame_apply] at heffect
  refine sets_event he h ?_ (holds_nil _) ?_ <;> rw [heffect]
  · exact (leaves_emit ..).trans (leaves_setPort ..)
  · refine ⟨rfl, ?_⟩
    rw [portState_emit, portState_setPort_self]
    exact ⟨rfl, rfl, rfl⟩

theorem notice_read (h : Awake s) (hanswers : s.answers p = true) (hn : (s.portState p).notices = m :: rest)
    (hc : (p = 0 ∧ c = .spiNotification t) ∨ (p = 1 ∧ c = .parallelNotificationRead t)) :
    Sets c s [] (fun u => u.emitted = [.message p 0 (if p = 0 then spiFrame m else parallelFrame m)] ∧
      u.portState p = { s.portState p with notices := rest, order := (s.portState p).order.erase false }) := by
  have he := exec_of_frames (exec_spiNotification t s) (exec_parallelNotificationRead t s) hc
  have heffect := handOut_of_answers (s := s.begin_ t) (p := p) hanswers (if p = 0 then spiFrame else parallelFrame) State.takeNotice
  rw [takeNotice_cons (s := s.begin_ t) hn, frame_apply] at heffect
  refine sets_event he h ?_ (holds_nil _) ?_ <;> rw [heffect]
  · exact (leaves_emit ..).trans (leaves_setPort ..)
  · exact ⟨rfl, portState_setPort_self ..⟩

end

end Sys2Proof.Proofs
end

section
/-! # JTAG reads and dropped messages -/

set_option Elab.async false

namespace Sys2Proof.Proofs

open Sys2Proof Sys2Proof.Machine Sys2Proof.Laws

theorem erase_of_head? {response : Bool} {xs : List Bool} (h : xs.head? = some response) : xs.erase response = xs.tail := by
  obtain ⟨ys, rfl⟩ := List.head?_eq_some_iff.1 h
  exact List.erase_cons_head ..

section
variable {s : State} {t p : Nat} {m : List Byte} {rest : List (List Byte)} {response : Bool}

/-- The oldest message of the JTAG port, taken from its queue (R56). -/
def jtagTaken (s : State) (response : Bool) : List Byte × State := if response then s.takeResponse 32 else s.takeNotice 32

theorem umzinRsp_of_message (hanswers : s.answers 32 = true) (hopen : s.portClosed 32 = false)
    (hhead : (s.portState 32).order.head? = some response) (hm : (jtagTaken s response).1 ≠ []) :
    xUmzinRsp s = ((jtagTaken s response).2.emit (.message 32 0 (toLE 1 (s.statusByte 32) ++ toLE 2 (jtagTaken s response).1.length ++
      (jtagTaken s response).1))).setPort 32
        { (jtagTaken s response).2.portState 32 with crcErr := false, ovf := false, reject := false } := by
  have hd : (s.portState 32).order.headD true = response := by rw [List.headD_eq_head?_getD, hhead]; rfl
  have hempty : (jtagTaken s response).1.isEmpty = false := by simpa using hm
  unfold jtagTaken at hempty ⊢
  simp only [xUmzinRsp, hanswers, hopen, hd, hempty, Bool.not_true, Bool.or_self, Bool.false_eq_true, if_false, portState_emit]

/-- What the port holds once its oldest message is taken. -/
theorem jtagTaken_cons (hhead : (s.portState 32).order.head? = some response) (hm : m ≠ [])
    (hq : (if response then (s.portState 32).responses else (s.portState 32).notices) = m :: rest) :
    (jtagTaken s response).1 = m ∧ Leaves [] (jtagTaken s response).2 s ∧ (jtagTaken s response).2.emitted = s.emitted ∧
      ((jtagTaken s response).2.portState 32).responses = (if response then rest else (s.portState 32).responses) ∧
      ((jtagTaken s response).2.portState 32).notices = (if response then (s.portState 32).notices else rest) ∧
      ((jtagTaken s response).2.portState 32).order = (s.portState 32).order.tail := by
  cases response with
  | true =>
    simp only [jtagTaken, if_true] at hq ⊢
    rw [takeResponse_cons hq hm, portState_setPort_self, erase_of_head? hhead]
    exact ⟨rfl, leaves_setPort .., rfl, rfl, rfl, rfl⟩
  | false =>
    simp only [jtagTaken, Bool.false_eq_true, if_false] at hq ⊢
    rw [takeNotice_cons hq, portState_setPort_self, erase_of_head? hhead]
    exact ⟨rfl, leaves_setPort .., rfl, rfl, rfl, rfl⟩

theorem umzinRsp_shows (h : Awake s) (hanswers : s.answers 32 = true) (hopen : s.portClosed 32 = false) (hm : m ≠ [])
    (hhead : (s.portState 32).order.head? = some response)
    (hq : (if response then (s.portState 32).responses else (s.portState 32).notices) = m :: rest) :
    Sets (.umzinRsp t) s [] (fun u => u.emitted = [.message 32 0 (toLE 1 ((s.begin_ t).statusByte 32) ++ toLE 2 m.length ++ m)] ∧
      (u.portState 32).responses = (if response then rest else (s.portState 32).responses) ∧
      (u.portState 32).notices = (if response then (s.portState 32).notices else rest) ∧
      (u.portState 32).order = (s.portState 32).order.tail ∧ (u.portState 32).crcErr = false ∧ (u.portState 32).ovf = false ∧
      (u.portState 32).reject = false) := by
  obtain ⟨htaken, hl, hemitted, hresponses, hnotices, horder⟩ := jtagTaken_cons (s := s.begin_ t) hhead hm hq
  have heffect := umzinRsp_of_message (s := s.begin_ t) (response := response) hanswers hopen hhead (by rwa [htaken])
  refine sets_event (exec_umzinRsp t s) h ?_ (holds_nil _) ?_ <;> rw [heffect]
  · exact (leaves_setPort ..).trans ((leaves_emit ..).trans hl)
  · rw [portState_setPort_self, htaken]
    refine ⟨?_, hresponses, hnotices, horder, rfl, rfl, rfl⟩
    exact congrArg (· ++ _) hemitted

/-! ## Dropped messages -/

theorem leaves_dropped (s : State) (p : Nat) : Leaves (K.portsPortDropped p :: evKeys 763) (s.dropped p) s :=
  (leaves_raise _ _ _ fun _ hk => List.mem_cons_of_mem _ hk).trans (leaves_count _ _ _ (List.mem_cons_self ..))

theorem holds_dropped {u s : State} {n : Nat} (hport : p < 33) (hcount : u.obj (K.portsPortDropped p) = n)
    (hevent : u.obj (K.eventCount 763) = s.obj (K.eventCount 763)) (htime : u.time = s.time) :
    Holds (u.dropped p) ((K.portsPortDropped p, satAdd 32 n 1) :: raisedBy s 763 p) := by
  refine holds_cons ?_ (holds_raise_of_ge _ (by decide) (by decide) ?_ ?_)
  · exact (obj_raise_of_lt _ _ _ (portsKey_lt hport (by decide))).trans ((obj_count_self ..).trans (by rw [hcount]))
  · rw [obj_count_ne, hevent]
    simp only [K.eventCount, K.portsPortDropped, key]
    omega
  · rw [count_time, htime]

theorem portState_dropped (s : State) (p i : Nat) : (s.dropped p).portState i = s.portState i := by
  simp only [State.dropped, State.portState, raise_ports, count_ports]

/-- The sticky bits that a dropped message sets on a port that it does not find shut (R55, R57). -/
def marked (s : State) (p : Nat) (r : Drop) : State :=
  if isQueued p && !s.ready p then s.setPort p { s.portState p with reject := true }
  else if isQueued p && r == .crc then s.setPort p { s.portState p with crcErr := true } else s

theorem messageDropped_shut {src : Nat} {r : Drop} {bytes : List Byte} (hanswers : s.answers p = true) (hshut : s.portClosed p = true)
    (hp : p ≠ 32) : xMessageDropped p src r bytes s = s.dropped p := by
  simp only [xMessageDropped, hanswers, hshut, if_neg hp, Bool.not_true, Bool.false_eq_true, if_false, if_true]

theorem messageDropped_marked {src : Nat} {r : Drop} {bytes : List Byte} (hanswers : s.answers p = true) (hopen : s.portClosed p = false)
    (h : isQueued p = true ∧ s.ready p = false ∨ r = .crc ∨ r = .responseFlag ∨ r = .framing ∧ isQueued p = false) :
    xMessageDropped p src r bytes s = (marked s p r).dropped p := by
  simp only [xMessageDropped, marked, hanswers, hopen, Bool.not_true, Bool.false_eq_true, if_false]
  by_cases hfull : isQueued p = true ∧ s.ready p = false
  · simp only [hfull, Bool.not_false, Bool.and_self, if_true, State.reject]
  · have hfull' : (isQueued p && !s.ready p) = false := by
      rw [← Bool.not_eq_true, Bool.and_eq_true, Bool.not_eq_true']
      exact hfull
    simp only [hfull', Bool.false_eq_true, if_false]
    obtain h | rfl | rfl | ⟨rfl, hq⟩ := h
    · exact absurd h hfull
    · cases hq : isQueued p <;> simp
    · simp
    · simp [hq]

theorem leaves_marked (s : State) (p : Nat) (r : Drop) {ks : List Nat} : Leaves ks (marked s p r) s :=
  leaves_ite (fun _ => leaves_setPort ..) fun _ => leaves_ite (fun _ => leaves_setPort ..) fun _ => Leaves.refl ..

theorem portState_marked (s : State) (p : Nat) (r : Drop) : (marked s p r).portState p = { s.portState p with
    crcErr := (s.portState p).crcErr || (!(isQueued p && !s.ready p) && isQueued p && r == .crc)
    reject := (s.portState p).reject || (isQueued p && !s.ready p) } := by
  unfold marked
  cases hfull : isQueued p && !s.ready p
  · cases hcrc : isQueued p && r == .crc
    · simp [hcrc]
    · simp [hcrc, portState_setPort_self]
  · simp [portState_setPort_self]

theorem time_marked (s : State) (p : Nat) (r : Drop) : (marked s p r).time = s.time := by
  unfold marked
  split
  · rfl
  · split <;> rfl

theorem obj_marked (s : State) (p : Nat) (r : Drop) (k : Nat) : (marked s p r).obj k = s.obj k := by
  unfold marked
  split
  · rfl
  · split <;> rfl

theorem message_drops {src : Nat} {r : Drop} {bytes : List Byte} (h : Awake s) (hport : portPresent s.variant p = true)
    (hanswers : s.answers p = true) (hcase : s.portClosed p = true ∧ p ≠ 32 ∨
      (!s.portClosed p && isQueued p && !(s.begin_ t).ready p) = true ∨ s.portClosed p = false ∧
      (!s.portClosed p && isQueued p && !(s.begin_ t).ready p) = false ∧
        (r = .crc ∨ r = .responseFlag ∨ (r = .framing ∧ isQueued p = false))) :
    Sets (.messageDropped t p src r bytes) s
      ((K.portsPortDropped p, satAdd 32 (s.obj (K.portsPortDropped p)) 1) :: raisedBy (s.begin_ t) 763 p)
      (fun u => u.portState p = { s.portState p with
        crcErr := (s.portState p).crcErr || (!s.portClosed p && !(!s.portClosed p && isQueued p && !(s.begin_ t).ready p) && isQueued p &&
          r == .crc)
        reject := (s.portState p).reject || (!s.portClosed p && isQueued p && !(s.begin_ t).ready p) }) := by
  cases hshut : s.portClosed p with
  | true =>
    have hp : p ≠ 32 := by simpa [hshut] using hcase
    have heffect := messageDropped_shut (s := s.begin_ t) (src := src) (r := r) (bytes := bytes) hanswers hshut hp
    refine sets_eventOf (exec_messageDropped t p src r bytes s) hport h ?_ ?_ ?_ <;> rw [heffect]
    · rw [List.map_cons, map_fst_raisedBy]
      exact leaves_dropped (s.begin_ t) p
    · exact holds_dropped (port_lt hport) rfl rfl rfl
    · rw [portState_dropped]
      simp [State.portState]
  | false =>
    have hmarks : isQueued p = true ∧ (s.begin_ t).ready p = false ∨ r = .crc ∨ r = .responseFlag ∨ r = .framing ∧ isQueued p = false := by
      simp only [hshut, Bool.false_eq_true, false_and, false_or, Bool.not_false, Bool.true_and, true_and, Bool.and_eq_true,
        Bool.not_eq_true'] at hcase
      exact hcase.imp_right And.right
    have heffect := messageDropped_marked (s := s.begin_ t) (src := src) (r := r) (bytes := bytes) hanswers hshut hmarks
    refine sets_eventOf (exec_messageDropped t p src r bytes s) hport h ?_ ?_ ?_ <;> rw [heffect]
    · rw [List.map_cons, map_fst_raisedBy]
      exact (leaves_dropped _ p).trans (leaves_marked (s.begin_ t) p r)
    · exact holds_dropped (port_lt hport) (obj_marked ..) (obj_marked ..) (time_marked ..)
    · rw [portState_dropped, portState_marked]
      simp only [Bool.not_false, Bool.true_and]
      rfl

/-! ## Messages that are not well formed -/

/-- The answer to a message that is not well formed. -/
def formatAnswer (s : State) (bytes : List Byte) : List Byte :=
  let a := s.draw 60
  let b := a.2.draw 61
  let body := toLE 4 0x10 ++ abortText aFormat
  header (128 + fieldOr bytes 2 1 a.1 % 128) s.answerFlags (fieldOr bytes 4 2 b.1) body.length
    (fieldOr bytes 8 2 (b.1 / 65536)) (fieldOr bytes 10 1 (b.1 / 4294967296)) (fieldOr bytes 11 1 (b.1 / 1099511627776)) aFormat
    (fieldOr bytes 14 2 (b.1 / 281474976710656)) ++ body

/-- What is left once the two free values of such an answer are drawn. -/
def drawnTwice (s : State) : State := ((s.draw 60).2.draw 61).2

theorem answerFormat_eq (s : State) (p src : Nat) (bytes : List Byte) :
    s.answerFormat p src bytes = ((drawnTwice s).tallyAbort p aFormat).respond p src (formatAnswer s bytes) := rfl

theorem leaves_drawnTwice (s : State) {ks : List Nat} : Leaves ks (drawnTwice s) s := leaves_of_dict rfl rfl rfl rfl rfl rfl

theorem answerFormat_abort (s : State) (bytes : List Byte) : ((formatAnswer s bytes).drop 12).take 2 = toLE 2 aFormat := rfl

theorem leAt_within {bytes : List Byte} {i n : Nat} (h : i + n ≤ bytes.length) : leAt bytes i n = ofLE ((bytes.drop i).take n) := by
  have hlen : ((bytes.drop i).take n).length = n := by
    rw [List.length_take, List.length_drop]
    omega
  simp only [leAt, slice, hlen, Nat.sub_self, List.replicate_zero, List.append_nil]

theorem toLE_ofLE (bytes : List Byte) : toLE bytes.length (ofLE bytes) = bytes := by
  induction bytes with
  | nil => rfl
  | cons b bs ih =>
    have hb := b.isLt
    have hdiv : (b.toNat + 256 * ofLE bs) / 256 = ofLE bs := by omega
    have hbyte : BitVec.ofNat 8 (b.toNat + 256 * ofLE bs) = b := by
      apply BitVec.eq_of_toNat_eq
      rw [BitVec.toNat_ofNat]
      omega
    simp only [ofLE, List.length_cons, toLE, hdiv, hbyte, ih]

theorem answerFormat_seq (s : State) {bytes : List Byte} (h : 6 ≤ bytes.length) :
    ((formatAnswer s bytes).drop 4).take 2 = (bytes.drop 4).take 2 := by
  have hfield (v : Nat) : fieldOr bytes 4 2 v = ofLE ((bytes.drop 4).take 2) := by
    rw [fieldOr, if_pos h, leAt_within h]
  have htaken : ((formatAnswer s bytes).drop 4).take 2 = toLE 2 (fieldOr bytes 4 2 ((s.draw 60).2.draw 61).1) := rfl
  have hlen : ((bytes.drop 4).take 2).length = 2 := by
    rw [List.length_take, List.length_drop]
    omega
  rw [htaken, hfield]
  exact (congrArg (toLE · _) hlen.symm).trans (toLE_ofLE _)

theorem answerFormat_opcode (s : State) {bytes : List Byte} (h : 6 ≤ bytes.length) :
    ((formatAnswer s bytes).drop 2).take 1 = toLE 1 (128 + leAt bytes 2 1 % 128) := by
  have hfield (v : Nat) : fieldOr bytes 2 1 v = leAt bytes 2 1 := by rw [fieldOr, if_pos (by omega)]
  rw [← hfield (s.draw 60).1]
  rfl

theorem responses_respond (s : State) {p : Nat} (src : Nat) (m : List Byte) (h : isQueued p = true) :
    ((s.respond p src m).portState p).responses = (s.portState p).responses ++ [m] := by
  simp only [State.respond, h, Bool.not_true, Bool.false_eq_true, if_false, portState_setPort_self]

theorem tallyAbort_ports (s : State) (p code : Nat) : (s.tallyAbort p code).ports = s.ports :=
  tallyAbort_keeps State.ports set_ports tally_ports ..

theorem message_answers_format {src : Nat} {r : Drop} {bytes : List Byte} (h : Awake s) (hport : portPresent s.variant p = true)
    (hanswers : s.answers p = true) (hopen : s.portClosed p = false) (hqueued : isQueued p = true) (hready : (s.begin_ t).ready p = true)
    (hr : r = .format ∨ r = .framing) (hlen : 6 ≤ bytes.length) :
    Sets (.messageDropped t p src r bytes) s
      [(K.portsPortAborts p, wrapAdd 64 (s.obj (K.portsPortAborts p)) 1), (K.portsPortLastAbort p, aFormat)]
      (fun u => ∃ m, (u.portState p).responses = (s.portState p).responses ++ [m] ∧ (m.drop 12).take 2 = toLE 2 aFormat ∧
        (m.drop 4).take 2 = (bytes.drop 4).take 2 ∧ (m.drop 2).take 1 = toLE 1 (128 + leAt bytes 2 1 % 128)) := by
  have hanswers' : (s.begin_ t).answers p = true := hanswers
  have hopen' : (s.begin_ t).portClosed p = false := hopen
  have heffect : xMessageDropped p src r bytes (s.begin_ t) = (s.begin_ t).answerFormat p src bytes := by
    obtain rfl | rfl := hr <;>
      simp only [xMessageDropped, hanswers', hopen', hqueued, hready, Bool.not_true, Bool.and_false, Bool.false_eq_true, if_false, if_true]
  rw [answerFormat_eq] at heffect
  obtain ⟨haborts, hlast⟩ := tallyAbort_counts (drawnTwice (s.begin_ t)) p (show aFormat ≠ 0 by decide)
  obtain ⟨hsettled, hsettled'⟩ := settled_aborts (port_lt hport)
  have hsame := same_respond ((drawnTwice (s.begin_ t)).tallyAbort p aFormat) p src (formatAnswer (s.begin_ t) bytes)
  refine sets_eventOf (exec_messageDropped t p src r bytes s) hport h ?_ ?_ ?_ <;> rw [heffect]
  · exact (leaves_of_same hsame).trans ((leaves_tallyAbort _ _ _ (by simp) (by simp)).trans (leaves_drawnTwice _))
  · exact holds_cons ((hsame.obj _ hsettled).trans haborts) (holds_cons ((hsame.obj _ hsettled').trans hlast) (holds_nil _))
  · refine ⟨formatAnswer (s.begin_ t) bytes, ?_, answerFormat_abort .., answerFormat_seq _ hlen, answerFormat_opcode _ hlen⟩
    rw [responses_respond _ _ _ hqueued, State.portState, tallyAbort_ports]
    rfl

end

/-- Settles O16. -/
theorem portsAnswerAndCount : Obligations.PortsAnswerAndCount := by
  unfold Obligations.PortsAnswerAndCount
  exact ⟨fun s q op hsafe hport => queueTimeout_answered s q op hsafe hport,
    fun s t p c h hanswers hc => status_shows h hanswers hc, fun s t h hanswers => levels_show h hanswers,
    fun s t p c m rest h hanswers hr hm hc => response_read h hanswers hr hm hc,
    fun s t p c m rest h hanswers hn hc => notice_read h hanswers hn hc,
    fun s t m rest response h hanswers hopen hm hhead hq => umzinRsp_shows h hanswers hopen hm hhead hq,
    fun s t p src r bytes h hport hanswers hcase => message_drops h hport hanswers hcase,
    fun s t p src r bytes h hport hanswers hopen hqueued hready hr hlen =>
      message_answers_format h hport hanswers hopen hqueued hready hr hlen⟩

end Sys2Proof.Proofs
end

section
/-! # Writes of dedicated objects

A write's effect is that of its family, and its frame and values pass to the command. -/

set_option Elab.async false

namespace Sys2Proof.Proofs

open Sys2Proof Sys2Proof.Machine Sys2Proof.Laws

/-- Objects at other indices or subindices are others. -/
theorem key_ne {i j a b : Nat} (ha : a < 256) (hb : b < 256) (h : i ≠ j ∨ a ≠ b) : key i a ≠ key j b := by
  simp only [key]
  omega

theorem access_key_false {i b : Nat} (h : b < 256) (hne : ¬((0x1120 ≤ i ∧ i < 0x1141 ∧ b = 2) ∨ (i = 0x1100 ∧ b = 5) ∨
    (i = 0x1152 ∧ b = 2) ∨ (0x5000 ≤ i ∧ i < 0x5400 ∧ i % 64 = 4 ∧ (b = 3 ∨ b = 4)))) : accessKey (key i b) = false := by
  rw [← Bool.not_eq_true, accessKey_key_iff h]
  exact hne

@[simp] theorem access_clock (s : State) (q : Req) : (s.access q).clock = max s.clock q.at_ := by
  unfold State.access State.arrive State.rxFrame State.showQueue
  split
  · split <;> rfl
  · rfl

section
variable {c : Instr} {s u : State} {q : Req} {k : Nat} {l : Loc} {vs : List (Nat × Nat)} {own : State → Prop}

/-- What a write of a located object of a request asks for. -/
def putAt (s : State) (q : Req) (k : Nat) (l : Loc) : Put := (s.access (onObject q k)).putOf (onObject q k) l (ofLE q.body)

theorem putAt_key (s : State) (q : Req) (k : Nat) (l : Loc) : (putAt s q k l).key_ = k := onObject_key q k

@[simp] theorem putAt_l (s : State) (q : Req) (k : Nat) (l : Loc) : (putAt s q k l).l = l := rfl

@[simp] theorem putAt_v (s : State) (q : Req) (k : Nat) (l : Loc) : (putAt s q k l).v = ofLE q.body := rfl

@[simp] theorem putAt_index (s : State) (q : Req) (k : Nat) (l : Loc) : (putAt s q k l).index = k / 256 := rfl

@[simp] theorem putAt_sub (s : State) (q : Req) (k : Nat) (l : Loc) : (putAt s q k l).sub = k % 256 := rfl

/-- The row of an accepted write of a dedicated object. -/
theorem accepted_row {f : Form} {attr unit sub : Nat} (h : Accepts s (onObject q k) l) (hk : k % 256 ≠ 0)
    (hp : place k = some (f, attr, unit, sub)) : l.row.form = f ∧ l.row.attr = attr ∧ l.unit = unit ∧ l.row.sub = sub := by
  have hplace := accepted_place h hk
  rw [hp] at hplace
  simp only [Option.some.injEq, Prod.mk.injEq] at hplace
  obtain ⟨hform, hattr, hunit, hsub⟩ := hplace
  exact ⟨hform.symm, hattr.symm, hunit.symm, hsub.symm⟩

/-- What a write leaves: what its family does, and the record of its writer. -/
abbrev putBy (f : State → Put → State) (s : State) (q : Req) (k : Nat) (l : Loc) : State :=
  (f (s.access (onObject q k)) (putAt s q k l)).record k ((s.access (onObject q k)).classOf q.port) q.port

/-- A state with the record of a write and its answer. -/
abbrev answeredWrite (u s : State) (q : Req) (k : Nat) (l : Loc) : State :=
  (u.record k ((s.access (onObject q k)).classOf q.port) q.port).answered (onObject q k) .write
    ((s.access (onObject q k)).readsTrace (onObject q k) .write) [] l.row.ty.code 0

/-- A write whose effect is known, from the effect's frame and values. -/
theorem writes_of_put {f : State → Put → State} (he : exec c s = s.asks (onObject q k) .write) (hsafe : s.safeAsk = 0)
    (h : Accepts s (onObject q k) l) (hfamily : s.written (onObject q k) l = putBy f s q k l)
    (hput : f (s.access (onObject q k)) (putAt s q k l) = u)
    (hl : Leaves (vs.map (·.1)) u (s.access (onObject q k))) (hv : Holds u vs)
    (hown : own (answeredWrite u s q k l)) : Writes c s (onObject q k) l vs own := by
  have heffect : s.written (onObject q k) l = u.record k ((s.access (onObject q k)).classOf q.port) q.port := by
    rw [hfamily, putBy, hput]
  refine writes_of he h ?_ ?_ ?_ ?_ (fun i hi hs _ => ?_) ?_ ?_ ?_ <;> rw [heffect]
  · exact hl.variant.trans (access_variant ..)
  · exact hl.safeAsk.trans ((access_safeAsk ..).trans hsafe)
  · exact hv
  · exact hown
  · exact hl.obj i hi hs
  · exact hl.mem.trans (access_mem ..)
  · exact hl.ctxs.trans (access_ctxs ..)
  · exact hl.inForce.trans (access_inForce ..)

theorem obj_answeredWrite (u s : State) (q : Req) (k : Nat) (l : Loc) (i : Nat) : (answeredWrite u s q k l).obj i = u.obj i := by
  rw [answered_obj, obj_record]

theorem obj_access (h : Accepts s (onObject q k) l) {i : Nat} (hi : accessKey i = false) :
    (s.access (onObject q k)).obj i = s.obj i := (reached_access s _ h.1.1).obj i hi

/-! ## The families -/

/-- What a write of an object does beside its record, by the chapter that the object's index falls in. -/
def putFamily (k : Nat) (s : State) (p : Put) : State :=
  if k / 256 < 0x1400 then putDevice s p
  else if k / 256 < 0x1800 then putTiming s p
  else if k / 256 < 0x2800 then putPlan s p
  else if k / 256 < 0x4000 && 0x3000 ≤ k / 256 then putTile s p
  else if k / 256 < 0x5000 then putStream s p
  else if k / 256 < 0x6000 then putFlow s p
  else if k / 256 < 0x6400 then putLogic s p
  else putOutput s p

theorem written_family (s : State) (q : Req) (k : Nat) (l : Loc) : s.written (onObject q k) l = putBy (putFamily k) s q k l := by
  have hrecord : s.written (onObject q k) l = (putFamily k (s.access (onObject q k)) (putAt s q k l)).record (putAt s q k l).key_
      ((s.access (onObject q k)).classOf q.port) q.port := rfl
  rw [hrecord, putAt_key]

theorem written_device (hk : k < 0x140000) : s.written (onObject q k) l = putBy putDevice s q k l := by
  have h : k / 256 < 0x1400 := by omega
  rw [written_family, putBy, putFamily, if_pos h]

theorem written_timing (hlo : 0x140000 ≤ k) (hk : k < 0x180000) : s.written (onObject q k) l = putBy putTiming s q k l := by
  have h1 : ¬ k / 256 < 0x1400 := by omega
  have h : k / 256 < 0x1800 := by omega
  rw [written_family, putBy, putFamily, if_neg h1, if_pos h]

theorem written_plan (hlo : 0x180000 ≤ k) (hk : k < 0x280000) : s.written (onObject q k) l = putBy putPlan s q k l := by
  have h1 : ¬ k / 256 < 0x1400 := by omega
  have h2 : ¬ k / 256 < 0x1800 := by omega
  have h : k / 256 < 0x2800 := by omega
  rw [written_family, putBy, putFamily, if_neg h1, if_neg h2, if_pos h]

theorem written_tile (hlo : 0x300000 ≤ k) (hk : k < 0x400000) : s.written (onObject q k) l = putBy putTile s q k l := by
  have h1 : ¬ k / 256 < 0x1400 := by omega
  have h2 : ¬ k / 256 < 0x1800 := by omega
  have h3 : ¬ k / 256 < 0x2800 := by omega
  have h : (decide (k / 256 < 0x4000) && decide (0x3000 ≤ k / 256)) = true := by simp; omega
  rw [written_family, putBy, putFamily, if_neg h1, if_neg h2, if_neg h3, if_pos h]

/-- From 0x4000 on the families of streams, of lanes and the Store, of logic, and of outputs follow. -/
theorem written_above (hlo : 0x400000 ≤ k) : s.written (onObject q k) l =
    putBy (if k / 256 < 0x5000 then putStream else if k / 256 < 0x6000 then putFlow else if k / 256 < 0x6400 then putLogic
      else putOutput) s q k l := by
  have h1 : ¬ k / 256 < 0x1400 := by omega
  have h2 : ¬ k / 256 < 0x1800 := by omega
  have h3 : ¬ k / 256 < 0x2800 := by omega
  have h4 : ¬ ((decide (k / 256 < 0x4000) && decide (0x3000 ≤ k / 256)) = true) := by simp; omega
  rw [written_family, putBy, putFamily, if_neg h1, if_neg h2, if_neg h3, if_neg h4]
  repeat' split
  all_goals rfl

theorem written_stream (hlo : 0x400000 ≤ k) (hk : k < 0x500000) : s.written (onObject q k) l = putBy putStream s q k l := by
  have h : k / 256 < 0x5000 := by omega
  rw [written_above hlo, if_pos h]

theorem written_flow (hlo : 0x500000 ≤ k) (hk : k < 0x600000) : s.written (onObject q k) l = putBy putFlow s q k l := by
  have h1 : ¬ k / 256 < 0x5000 := by omega
  have h : k / 256 < 0x6000 := by omega
  rw [written_above (by omega), if_neg h1, if_pos h]

theorem written_logic (hlo : 0x600000 ≤ k) (hk : k < 0x640000) : s.written (onObject q k) l = putBy putLogic s q k l := by
  have h1 : ¬ k / 256 < 0x5000 := by omega
  have h2 : ¬ k / 256 < 0x6000 := by omega
  have h : k / 256 < 0x6400 := by omega
  rw [written_above (by omega), if_neg h1, if_neg h2, if_pos h]

theorem written_output (hlo : 0x640000 ≤ k) : s.written (onObject q k) l = putBy putOutput s q k l := by
  have h1 : ¬ k / 256 < 0x5000 := by omega
  have h2 : ¬ k / 256 < 0x6000 := by omega
  have h3 : ¬ k / 256 < 0x6400 := by omega
  rw [written_above (by omega), if_neg h1, if_neg h2, if_neg h3]

end

/-! ## Events of which a statement says only what they leave -/

section
variable {c : Instr} {s : State} {t : Nat} {f : State → State} {own : State → Prop}

theorem completes_event (he : exec c s = s.event t f) (h : s.held = false) (hown : own (f (s.begin_ t))) :
    Completes c s own (fun _ => True) :=
  ⟨_, he.trans (event_next s t f h), hown, trivial⟩

theorem completes_eventOf {b : Bool} (he : exec c s = s.eventOf b t f) (hb : b = true) (h : s.held = false)
    (hown : own (f (s.begin_ t))) : Completes c s own (fun _ => True) :=
  ⟨_, he.trans (eventOf_next s b t f hb h), hown, trivial⟩

/-- An event that does nothing. -/
theorem sets_nothing {b : Bool} (he : exec c s = s.eventOf b t f) (hb : b = true) (h : Awake s) (hf : f (s.begin_ t) = s.begin_ t)
    (hown : own (s.begin_ t)) : Sets c s [] own :=
  sets_eventOf he hb h (by rw [hf]; exact Leaves.refl ..) (holds_nil _) (by rwa [hf])

end

/-! ## The dedicated commands of numbered units -/

theorem asks_of_writesOf {c : Instr} {s : State} {b : Bool} {q : Req} {k : Nat} (he : exec c s = s.writesOf b q k) (hb : b = true) :
    exec c s = s.asks (onObject q k) .write := by
  rw [he, State.writesOf, if_pos hb, State.writes]

/-- An action entry keeps no value. -/
theorem putValue_action (t : State) {p : Put} (h : p.l.row.attr = 8) : t.putValue p = t := by
  have h3 : p.l.row.attr.testBit 3 = true := by rw [h]; decide
  simp only [State.putValue, h3, if_true]

theorem putValue_stored (t : State) {p : Put} (h : p.l.row.attr = 0) : t.putValue p = t.poke p.key_ p.v := by
  simp [State.putValue, h]

end Sys2Proof.Proofs
end

section
/-! # Event sources and pattern units -/

set_option Elab.async false

namespace Sys2Proof.Proofs

open Sys2Proof Sys2Proof.Machine Sys2Proof.Laws

/-! ## Clears (R409) -/

/-- Whether a source may be cleared (R409). -/
abbrev MayClear (s : State) (n : Nat) : Prop := s.follows n = false ∧ s.condition n ≠ some true

theorem clearSource_of_may {s : State} {n : Nat} (h : MayClear s n) : s.clearSource n = s.lower n := by
  simp [State.clearSource, h.1, h.2]

theorem clearSource_of_not_may {s : State} {n : Nat} (h : ¬ MayClear s n) : s.clearSource n = s := by
  simp only [State.clearSource]
  split
  · rfl
  · rename_i hn
    simp only [Bool.or_eq_true, beq_iff_eq, not_or, Bool.not_eq_true] at hn
    exact absurd hn h

theorem leaves_clearSource (s : State) {n : Nat} (h : n < 768) {ks : List Nat} : Leaves ks (s.clearSource n) s :=
  leaves_ite (fun _ => Leaves.refl ..) fun _ => leaves_lower s h

theorem mayClear_congr {a b : State} (h : ∀ k, Left k → a.obj k = b.obj k) {n : Nat} (hn : n < 768) : MayClear a n ↔ MayClear b n := by
  rw [MayClear, MayClear, follows_congr h hn, condition_congr (fun k hk => h k hk.1) hn]

theorem left_of_leaves {a b : State} (h : Leaves [] a b) : ∀ k, Left k → a.obj k = b.obj k :=
  fun k hk => h.obj k List.not_mem_nil hk.1

theorem status_clearSource_ne (s : State) {m n : Nat} (h : n ≠ m) : (s.clearSource m).obj (K.eventStatus n) = s.obj (K.eventStatus n) := by
  have hk : K.eventStatus n ≠ K.eventStatus m := by
    simp only [K.eventStatus, key]
    omega
  simp only [State.clearSource]
  split
  · rfl
  · exact obj_lower_ne s m _ hk

/-- One source's turn among those below a node. -/
abbrev clearBelow (node : Nat) (s : State) (n : Nat) : State := if below node n then s.clearSource n else s

theorem leaves_clearBelow (node : Nat) (s : State) {n : Nat} (h : n < 768) {ks : List Nat} : Leaves ks (clearBelow node s n) s :=
  leaves_ite (fun _ => leaves_clearSource s h) fun _ => Leaves.refl ..

theorem status_clearBelow_keeps (node : Nat) (s : State) {m n : Nat} (h : n = m → ¬(below node n = true ∧ MayClear s n)) :
    (clearBelow node s m).obj (K.eventStatus n) = s.obj (K.eventStatus n) := by
  unfold clearBelow
  split
  · rename_i hb
    by_cases hm : n = m
    · subst hm
      rw [clearSource_of_not_may fun hmay => h rfl ⟨hb, hmay⟩]
    · exact status_clearSource_ne s hm
  · rfl

/-- A source that is not below the node, or may not be cleared, keeps its status. -/
theorem status_foldl_keeps {node n : Nat} (hn : n < 768) (ms : List Nat) (hms : ∀ m ∈ ms, m < 768) {s : State}
    (h : ¬(below node n = true ∧ MayClear s n)) : (ms.foldl (clearBelow node) s).obj (K.eventStatus n) = s.obj (K.eventStatus n) := by
  induction ms generalizing s with
  | nil => rfl
  | cons m ms ih =>
    have hleft := left_of_leaves (leaves_clearBelow node s (hms m (List.mem_cons_self ..)))
    refine (ih (fun m h => hms m (List.mem_cons_of_mem _ h)) ?_).trans (status_clearBelow_keeps node s fun _ => h)
    rwa [mayClear_congr hleft hn]

theorem status_clearSource_of_ne_one {s : State} {n : Nat} (m : Nat) (h : s.obj (K.eventStatus n) ≠ 1) :
    (s.clearSource m).obj (K.eventStatus n) ≠ 1 := by
  unfold State.clearSource
  split
  · exact h
  · exact status_lower_of_ne_one m h

theorem status_clearFold_of_ne_one {node n : Nat} (ms : List Nat) {s : State} (h : s.obj (K.eventStatus n) ≠ 1) :
    (ms.foldl (clearBelow node) s).obj (K.eventStatus n) ≠ 1 := by
  induction ms generalizing s with
  | nil => exact h
  | cons m ms ih =>
    refine ih ?_
    unfold clearBelow
    split
    · exact status_clearSource_of_ne_one m h
    · exact h

/-- A source below the node that may be cleared falls at its turn. -/
theorem status_foldl_clears {node n : Nat} (hn : n < 768) (ms : List Nat) (hms : ∀ m ∈ ms, m < 768) {s : State}
    (hb : below node n = true) (h : MayClear s n) (hmem : n ∈ ms) : (ms.foldl (clearBelow node) s).obj (K.eventStatus n) ≠ 1 := by
  induction ms generalizing s with
  | nil => contradiction
  | cons m ms ih =>
    by_cases hmn : n = m
    · subst hmn
      refine status_clearFold_of_ne_one ms ?_
      rw [clearBelow, if_pos hb, clearSource_of_may h]
      exact lower_status s n
    · have hleft := left_of_leaves (leaves_clearBelow node s (hms m (List.mem_cons_self ..)))
      exact ih (fun m h => hms m (List.mem_cons_of_mem _ h)) ((mayClear_congr hleft hn).2 h) ((List.mem_cons.1 hmem).resolve_left hmn)

theorem status_clearNode (s : State) {node n : Nat} (hn : n < 768) :
    if below node n = true ∧ MayClear s n then (s.clearNode node).obj (K.eventStatus n) ≠ 1
    else (s.clearNode node).obj (K.eventStatus n) = s.obj (K.eventStatus n) := by
  have hms (m : Nat) (hm : m ∈ s.raised) : m < 768 := raised_lt s m hm
  split
  · rename_i h
    by_cases hone : s.obj (K.eventStatus n) = 1
    · exact status_foldl_clears hn _ hms h.1 h.2 (mem_raised hn hone)
    · exact status_clearFold_of_ne_one _ hone
  · rename_i h
    exact status_foldl_keeps hn _ hms h

theorem leaves_clearNode (s : State) (node : Nat) {ks : List Nat} : Leaves ks (s.clearNode node) s :=
  leaves_foldl _ _ _ fun t _ hm => leaves_clearBelow node t (raised_lt s _ hm)

theorem status_clearCount (s : State) (n c : Nat) :
    if (c = s.obj (K.eventCount n) ∨ c = 0xFFFFFFFF) ∧ MayClear s n then (s.clearCount n c).obj (K.eventStatus n) ≠ 1
    else (s.clearCount n c).obj (K.eventStatus n) = s.obj (K.eventStatus n) := by
  unfold State.clearCount
  by_cases hc : c = s.obj (K.eventCount n) ∨ c = 0xFFFFFFFF
  · have hc' : (decide (c = s.obj (K.eventCount n)) || decide (c = 0xFFFFFFFF)) = true := by simpa using hc
    rw [if_pos hc']
    by_cases hm : MayClear s n
    · rw [if_pos ⟨hc, hm⟩, clearSource_of_may hm]
      exact lower_status s n
    · rw [if_neg fun h => hm h.2, clearSource_of_not_may hm]
  · have hc' : ¬ (decide (c = s.obj (K.eventCount n)) || decide (c = 0xFFFFFFFF)) = true := by simpa using hc
    rw [if_neg hc', if_neg fun h => hc h.1]

theorem leaves_clearCount (s : State) {n : Nat} (c : Nat) (h : n < 768) {ks : List Nat} : Leaves ks (s.clearCount n c) s :=
  leaves_ite (fun _ => leaves_clearSource s h) fun _ => Leaves.refl ..

/-! ## Latch and routing (R405, R406) -/

theorem leaves_notify (s : State) (n : Nat) (b : Bool) {ks : List Nat} : Leaves ks (s.notify n b) s := leaves_of_same (same_notify s n b)

theorem leaves_eventRoute (s : State) (n sub v : Nat) : Leaves [key (0x7000 + n) sub] (xEventRoute n sub v s) s := by
  unfold xEventRoute
  extract_lets old raised t u
  have ht : Leaves [key (0x7000 + n) sub] t s := leaves_ite (fun _ => leaves_notify ..) fun _ => Leaves.refl ..
  have hu : Leaves [key (0x7000 + n) sub] u s := (leaves_poke t v (by simp)).trans ht
  exact leaves_ite (fun _ => (leaves_notify ..).trans hu) fun _ => hu

theorem obj_eventRoute (s : State) (n sub v : Nat) : (xEventRoute n sub v s).obj (key (0x7000 + n) sub) = v := by
  unfold xEventRoute
  extract_lets old raised t u
  have hu : u.obj (key (0x7000 + n) sub) = v := obj_poke_self ..
  split
  · rw [notify_obj, hu]
  · exact hu

theorem leaves_eventLatch (s : State) {n : Nat} (hn : n < 768) (v : Nat) : Leaves [K.eventLatch n] (xEventLatch n v s) s := by
  unfold xEventLatch
  extract_lets t
  have ht : Leaves [K.eventLatch n] t s := leaves_poke s v (by simp)
  have hstatus : settledKey (K.eventStatus n) = true := by
    rw [K.eventStatus, settledKey_key_iff (by decide)]
    simp
    omega
  split
  · exact ht
  · split
    · refine leaves_ite (fun _ => ht) fun _ => ?_
      exact ((leaves_notify ..).trans (leaves_of_same (same_set t _ 1 hstatus))).trans ht
    · exact (leaves_lower t hn).trans ht
    · exact ht

/-- The latch of a source stands apart from its status, and holds what is written. -/
theorem obj_eventLatch (s : State) (n v : Nat) : (xEventLatch n v s).obj (K.eventLatch n) = v := by
  have hne : K.eventLatch n ≠ K.eventStatus n := by
    simp only [K.eventLatch, K.eventStatus, key]
    omega
  unfold xEventLatch
  extract_lets t
  have ht : t.obj (K.eventLatch n) = v := obj_poke_self ..
  split
  · exact ht
  · split
    · split
      · exact ht
      · rw [notify_obj, obj_set_ne _ _ hne, ht]
    · rw [obj_lower_ne _ _ _ hne, ht]
    · exact ht

/-- No condition rests on a latch. -/
theorem condition_pokeLatch (s : State) {n : Nat} (hn : n < 768) (v : Nat) : (s.poke (K.eventLatch n) v).condition n = s.condition n := by
  refine condition_congr (fun k hk => obj_poke_ne s v ?_) hn
  have hlatch := hk.2
  rintro rfl
  simp only [K.eventLatch, key] at hlatch
  omega

/-- A write of LEVEL gives a source the status of its condition. -/
theorem eventLatch_level (s : State) {n : Nat} (hn : n < 768) : xEventLatch n 0 s =
    match s.condition n with
    | some true =>
      if (s.poke (K.eventLatch n) 0).obj (K.eventStatus n) = 1 then s.poke (K.eventLatch n) 0
      else ((s.poke (K.eventLatch n) 0).set (K.eventStatus n) 1).notify n false
    | some false => (s.poke (K.eventLatch n) 0).lower n
    | none => s.poke (K.eventLatch n) 0 := by
  rw [← condition_pokeLatch s hn 0]
  rfl

theorem status_eventLatch (s : State) {n : Nat} (hn : n < 768) :
    (s.condition n = some true → (xEventLatch n 0 s).obj (K.eventStatus n) = 1) ∧
      (s.condition n = some false → (xEventLatch n 0 s).obj (K.eventStatus n) ≠ 1) := by
  rw [eventLatch_level s hn]
  generalize s.poke (K.eventLatch n) 0 = t
  refine ⟨fun h => ?_, fun h => ?_⟩
  · simp only [h]
    split
    · assumption
    · rw [notify_obj, obj_set_self]
  · simp only [h]
    exact lower_status t n


/-! ## The commands -/

section
variable {s : State} {q : Req} {l : Loc} {n : Nat}

theorem left_access {k : Nat} (h : Accepts s (onObject q k) l) : ∀ i, Left i → (s.access (onObject q k)).obj i = s.obj i :=
  fun _ hi => obj_access h hi.2.1

theorem eventStatus_access {k : Nat} (h : Accepts s (onObject q k) l) (hn : n < 768) :
    (s.access (onObject q k)).obj (K.eventStatus n) = s.obj (K.eventStatus n) :=
  obj_access h (by rw [K.eventStatus, ← Bool.not_eq_true, accessKey_key_iff (by decide)]; omega)

theorem eventCount_access {k : Nat} (h : Accepts s (onObject q k) l) (hn : n < 768) :
    (s.access (onObject q k)).obj (K.eventCount n) = s.obj (K.eventCount n) :=
  obj_access h (by rw [K.eventCount, ← Bool.not_eq_true, accessKey_key_iff (by decide)]; omega)

theorem put_eventLatch (t : State) {p : Put} (hform : p.l.row.form = .event) (hsub : p.sub = 3) :
    putOutput t p = xEventLatch p.l.unit p.v t := by
  simp only [putOutput, hform, hsub]

theorem put_eventClear (t : State) {p : Put} (hform : p.l.row.form = .event) (hsub : p.sub = 7) :
    putOutput t p = xEventClear p.l.unit p.v (t.putValue p) := by
  simp only [putOutput, hform, hsub]

theorem put_eventRoute (t : State) {p : Put} (hform : p.l.row.form = .event) (h3 : p.sub ≠ 3) (h7 : p.sub ≠ 7) :
    putOutput t p = xEventRoute p.l.unit p.sub p.v t := by
  simp only [putOutput, hform]

theorem eventClear_writes (hsafe : s.safeAsk = 0) (hn : n < 768) (h : Accepts s (onObject q (K.eventClear n)) l) :
    Writes (.eventClear q n) s (onObject q (K.eventClear n)) l []
      (fun u => if (ofLE q.body = s.obj (K.eventCount n) ∨ ofLE q.body = 0xFFFFFFFF) ∧ MayClear s n
        then u.obj (K.eventStatus n) ≠ 1 else u.obj (K.eventStatus n) = s.obj (K.eventStatus n)) := by
  have hmod : K.eventClear n % 256 = 7 := key_mod (by decide)
  obtain ⟨hform, hattr, hunit, -⟩ := accepted_row h (by omega) (place_eventClear n hn)
  have hsub : (putAt s q (K.eventClear n) l).sub = 7 := hmod
  have hput : putOutput (s.access (onObject q (K.eventClear n))) (putAt s q (K.eventClear n) l) =
      (s.access (onObject q (K.eventClear n))).clearCount n (ofLE q.body) := by
    rw [put_eventClear _ hform hsub, putValue_action _ hattr, putAt_l, putAt_v, hunit, xEventClear]
  have he := asks_of_writesOf (exec_eventClear q n s) (by simpa using hn)
  refine writes_of_put he hsafe h (written_output (by simp only [K.eventClear, key]; omega)) hput (leaves_clearCount _ _ hn) (holds_nil _) ?_
  rw [obj_answeredWrite]
  have hstatus := status_clearCount (s.access (onObject q (K.eventClear n))) n (ofLE q.body)
  simpa only [mayClear_congr (left_access h) hn, eventCount_access h hn, eventStatus_access h hn] using hstatus

theorem put_clearNode (t : State) {p : Put} (hkey : p.key_ = K.deviceEventsClearNode) (hattr : p.l.row.attr = 8) :
    putDevice t p = t.clearNode p.v := by
  simp only [putDevice, hkey, putValue_action t hattr]
  rfl

theorem clearNode_writes (hsafe : s.safeAsk = 0) (hn : n < 768) (h : Accepts s (onObject q K.deviceEventsClearNode) l) :
    Writes (.clearNode q) s (onObject q K.deviceEventsClearNode) l []
      (fun u => if below (ofLE q.body) n = true ∧ MayClear s n
        then u.obj (K.eventStatus n) ≠ 1 else u.obj (K.eventStatus n) = s.obj (K.eventStatus n)) := by
  obtain ⟨-, hattr, -, -⟩ := accepted_row h (by decide) place_deviceEventsClearNode
  refine writes_of_put (exec_clearNode q s) hsafe h (written_device (by decide))
    (put_clearNode _ (putAt_key ..) hattr) (leaves_clearNode ..) (holds_nil _) ?_
  rw [obj_answeredWrite]
  have hstatus := status_clearNode (s.access (onObject q K.deviceEventsClearNode)) (node := ofLE q.body) hn
  simpa only [mayClear_congr (left_access h) hn, eventStatus_access h hn, putAt_v] using hstatus

theorem put_eventTest (t : State) {p : Put} (hkey : p.key_ = K.deviceEventsTest) (hattr : p.l.row.attr = 8) :
    putDevice t p = t.raise 767 0 := by
  simp only [putDevice, hkey, putValue_action t hattr]
  rfl

theorem eventTest_writes (hsafe : s.safeAsk = 0) (h : Accepts s (onObject q K.deviceEventsTest) l) :
    Writes (.eventTest q) s (onObject q K.deviceEventsTest) l (raisedBy (s.access (onObject q K.deviceEventsTest)) 767 0)
      (fun _ => True) := by
  obtain ⟨-, hattr, -, -⟩ := accepted_row h (by decide) place_deviceEventsTest
  refine writes_of_put (exec_eventTest q s) hsafe h (written_device (by decide))
    (put_eventTest _ (putAt_key ..) hattr) (leaves_raise _ _ _ fun _ hk => hk) ?_ trivial
  exact holds_raise_of_ge 0 (by decide) (by decide) rfl rfl

theorem place_eventRoute {sub : Nat} (hn : n < 768) (hsub : sub = 2 ∨ sub = 4 ∨ sub = 6) :
    place (key (0x7000 + n) sub) = some (.event, 0, n, sub) := by
  obtain rfl | rfl | rfl := hsub
  · exact place_eventEnable n hn
  · exact place_eventSeverity n hn
  · exact place_eventIrq n hn

theorem eventEnable_writes {sub : Nat} (hsafe : s.safeAsk = 0) (hn : n < 768) (hsub : sub = 2 ∨ sub = 4 ∨ sub = 6)
    (h : Accepts s (onObject q (key (0x7000 + n) sub)) l) :
    Writes (.eventEnableWrite q n sub) s (onObject q (key (0x7000 + n) sub)) l [(key (0x7000 + n) sub, ofLE q.body)] (fun _ => True) := by
  have hmod : key (0x7000 + n) sub % 256 = sub := key_mod (by omega)
  obtain ⟨hform, -, hunit, -⟩ := accepted_row h (by omega) (place_eventRoute hn hsub)
  have hput : putOutput (s.access (onObject q (key (0x7000 + n) sub))) (putAt s q (key (0x7000 + n) sub) l) =
      xEventRoute n sub (ofLE q.body) (s.access (onObject q (key (0x7000 + n) sub))) := by
    have hat : (putAt s q (key (0x7000 + n) sub) l).sub = sub := hmod
    rw [put_eventRoute _ hform (by omega) (by omega), hat, putAt_l, putAt_v, hunit]
  have he := asks_of_writesOf (exec_eventEnableWrite q n sub s) (by simpa using ⟨hn, by omega⟩)
  exact writes_of_put he hsafe h (written_output (by simp only [key]; omega)) hput (leaves_eventRoute ..)
    (holds_cons (obj_eventRoute ..) (holds_nil _)) trivial

theorem eventLatch_writes (hsafe : s.safeAsk = 0) (hn : n < 768) (h : Accepts s (onObject q (K.eventLatch n)) l) :
    Writes (.eventLatchWrite q n) s (onObject q (K.eventLatch n)) l [(K.eventLatch n, ofLE q.body)]
      (fun u => ofLE q.body = 0 → (s.condition n = some true → u.obj (K.eventStatus n) = 1) ∧
        (s.condition n = some false → u.obj (K.eventStatus n) ≠ 1)) := by
  have hmod : K.eventLatch n % 256 = 3 := key_mod (by decide)
  obtain ⟨hform, -, hunit, -⟩ := accepted_row h (by omega) (place_eventLatch n hn)
  have hput : putOutput (s.access (onObject q (K.eventLatch n))) (putAt s q (K.eventLatch n) l) =
      xEventLatch n (ofLE q.body) (s.access (onObject q (K.eventLatch n))) := by
    rw [put_eventLatch _ hform hmod, putAt_l, putAt_v, hunit]
  have he := asks_of_writesOf (exec_eventLatchWrite q n s) (by simpa using hn)
  refine writes_of_put he hsafe h (written_output (by simp only [K.eventLatch, key]; omega)) hput (leaves_eventLatch _ hn _)
    (holds_cons (obj_eventLatch ..) (holds_nil _)) fun hzero => ?_
  have hcondition := condition_congr (fun k hk => left_access h k hk.1) hn
  rw [obj_answeredWrite, hzero, ← hcondition]
  exact status_eventLatch _ hn

/-- Settles O58. -/
theorem eventSourcesAreWritten : Obligations.EventSourcesAreWritten := by
  unfold Obligations.EventSourcesAreWritten
  intro s q l n hsafe hn status may
  exact ⟨eventClear_writes hsafe hn, clearNode_writes hsafe hn, eventTest_writes hsafe, fun _ hsub h => eventEnable_writes hsafe hn hsub h,
    eventLatch_writes hsafe hn⟩

end

end Sys2Proof.Proofs
end

section
/-! # Pattern units -/

set_option Elab.async false

namespace Sys2Proof.Proofs

open Sys2Proof Sys2Proof.Machine Sys2Proof.Laws

theorem pat_setPat_self (s : State) (u : Nat) (x : Pat) : (s.setPat u x).pat u = x := get_put_self ..

theorem leaves_setPat (s : State) (u : Nat) (x : Pat) {ks : List Nat} : Leaves ks (s.setPat u x) s := leaves_of_dict rfl rfl rfl rfl rfl rfl

theorem leaves_patFollows (s before : State) {u : Nat} (hu : u < 16) {ks : List Nat} : Leaves ks (s.patFollows before u) s :=
  leaves_ite (fun _ => leaves_lower s (by omega)) fun _ => Leaves.refl ..

theorem pats_lower (s : State) (n : Nat) : (s.lower n).pats = s.pats := by
  unfold State.lower State.notify
  split
  · split <;> rfl
  · rfl

theorem pat_patFollows (s before : State) (u i : Nat) : (s.patFollows before u).pat i = s.pat i := by
  have hpats : (s.patFollows before u).pats = s.pats := by
    unfold State.patFollows
    split
    · exact pats_lower ..
    · rfl
  rw [State.pat, State.pat, hpats]

/-! ## Writes (R398) -/

/-- The value in force of a pattern unit after a write, and its match where it is OFF. -/
abbrev patternValues (u sub v m : Nat) : List (Nat × Nat) :=
  (key (0x6900 + u) sub, v) :: (if m = 0 then [(K.patternMatch u, 0)] else [])

theorem patternWrite_leaves (s : State) {u sub : Nat} (hu : u < 16) (v : Nat) :
    Leaves ((patternValues u sub v ((s.poke (key (0x6900 + u) sub) v).obj (K.patternMode u))).map (·.1)) (xPatternWrite u sub v s) s := by
  unfold xPatternWrite
  extract_lets t m level w
  refine (leaves_patFollows _ _ hu).trans (Leaves.trans ?_ (leaves_poke s v (List.mem_cons_self ..)))
  refine leaves_ite (fun hm => ?_) fun _ => leaves_setPat ..
  exact (leaves_setPat ..).trans (leaves_set t 0 (by rw [patternValues, if_pos hm]; simp))

theorem obj_patFollows {s before : State} {u k : Nat} (h : k < 0x700000) : (s.patFollows before u).obj k = s.obj k := by
  unfold State.patFollows
  split
  · refine obj_lower_ne s _ _ ?_
    simp only [K.eventStatus, key]
    omega
  · rfl

/-- A pattern unit with a written value, before its source follows. -/
def patWritten (s : State) (u sub v : Nat) : State :=
  let t := s.poke (key (0x6900 + u) sub) v
  if t.obj (K.patternMode u) = 0 then (t.set (K.patternMatch u) 0).setPat u .none_
  else t.setPat u ⟨s.clock + perUs,
    if t.obj (K.patternMode u) = 1 then t.obj (K.patternMode u) == 1 && s.obj (K.patternMode u) == 1 && (s.pat u).base else t.patRaw u, t.patIn u⟩

theorem patternWrite_eq (s : State) (u sub v : Nat) : xPatternWrite u sub v s = (patWritten s u sub v).patFollows s u := rfl

theorem patWritten_off {s : State} {u sub v : Nat} (h : (s.poke (key (0x6900 + u) sub) v).obj (K.patternMode u) = 0) :
    patWritten s u sub v = ((s.poke (key (0x6900 + u) sub) v).set (K.patternMatch u) 0).setPat u .none_ := if_pos h

theorem patWritten_on {s : State} {u sub v : Nat} (h : (s.poke (key (0x6900 + u) sub) v).obj (K.patternMode u) ≠ 0) :
    ∃ x : Pat, x.since = s.clock + perUs ∧ patWritten s u sub v = (s.poke (key (0x6900 + u) sub) v).setPat u x :=
  ⟨_, rfl, if_neg h⟩

theorem obj_setPat (s : State) (u : Nat) (x : Pat) (k : Nat) : (s.setPat u x).obj k = s.obj k := rfl

theorem patternWrite_holds (s : State) {u sub : Nat} (hu : u < 16) (hsub : sub ≤ 5) (v : Nat) :
    Holds (xPatternWrite u sub v s) (patternValues u sub v ((s.poke (key (0x6900 + u) sub) v).obj (K.patternMode u))) := by
  have hne : key (0x6900 + u) sub ≠ K.patternMatch u := key_ne (by omega) (by decide) (by omega)
  have hlow : key (0x6900 + u) sub < 0x700000 := by simp only [key]; omega
  have hmatch : K.patternMatch u < 0x700000 := by simp only [K.patternMatch, key]; omega
  rw [patternWrite_eq]
  by_cases hm : (s.poke (key (0x6900 + u) sub) v).obj (K.patternMode u) = 0
  · rw [patternValues, if_pos hm, patWritten_off hm]
    refine holds_cons ?_ (holds_cons ?_ (holds_nil _))
    · rw [obj_patFollows hlow, obj_setPat, obj_set_ne _ _ hne, obj_poke_self]
    · rw [obj_patFollows hmatch, obj_setPat, obj_set_self]
  · obtain ⟨x, -, hx⟩ := patWritten_on hm
    rw [patternValues, if_neg hm, hx]
    refine holds_cons ?_ (holds_nil _)
    rw [obj_patFollows hlow, obj_setPat, obj_poke_self]

theorem patternWrite_pat (s : State) (u sub v : Nat) :
    if (s.poke (key (0x6900 + u) sub) v).obj (K.patternMode u) = 0 then (xPatternWrite u sub v s).pat u = .none_
    else ((xPatternWrite u sub v s).pat u).since = s.clock + perUs := by
  rw [patternWrite_eq, pat_patFollows]
  split
  · rw [patWritten_off ‹_›, pat_setPat_self]
  · obtain ⟨x, hsince, hx⟩ := patWritten_on ‹_›
    rw [hx, pat_setPat_self, hsince]

theorem pat_answeredWrite (u s : State) (q : Req) (k : Nat) (l : Loc) (i : Nat) : (answeredWrite u s q k l).pat i = u.pat i := by
  rw [State.pat, answered_pats]
  rfl

theorem place_pattern : ∀ u < 16, ∀ sub < 6, 1 ≤ sub →
    ∃ a b, place (key (0x6900 + u) sub) = some (.pattern, a, u, b) := by
  have h : ∀ u < 16, ∀ sub < 6, 1 ≤ sub → (place (key (0x6900 + u) sub)).any (fun x => x.1 == .pattern && x.2.2.1 == u) = true := by
    decide +kernel
  intro u hu sub hsub h1
  have hp := h u hu sub hsub h1
  cases hx : place (key (0x6900 + u) sub) with
  | none => simp [hx] at hp
  | some x =>
    obtain ⟨f, a, v, b⟩ := x
    simp only [hx, Option.any_some, Bool.and_eq_true, beq_iff_eq] at hp
    exact ⟨a, b, by rw [hp.1, hp.2]⟩

theorem put_pattern (t : State) {p : Put} (hform : p.l.row.form = .pattern) : putOutput t p = xPatternWrite p.l.unit p.sub p.v t := by
  simp only [putOutput, hform]

theorem patternWrite_writes {s : State} {q : Req} {l : Loc} {u sub : Nat} (hsafe : s.safeAsk = 0) (hu : u < 16) (h1 : 1 ≤ sub) (h5 : sub ≤ 5)
    (h : Accepts s (onObject q (key (0x6900 + u) sub)) l) :
    let m := if key (0x6900 + u) sub = K.patternMode u then ofLE q.body else s.obj (K.patternMode u)
    Writes (.patternWrite q u sub) s (onObject q (key (0x6900 + u) sub)) l (patternValues u sub (ofLE q.body) m)
      (fun v => if m = 0 then v.pat u = .none_ else (v.pat u).since = max s.clock q.at_ + perUs) := by
  intro m
  have hmod : key (0x6900 + u) sub % 256 = sub := key_mod (by omega)
  obtain ⟨a, b, hplace⟩ := place_pattern u hu sub (by omega) h1
  obtain ⟨hform, -, hunit, -⟩ := accepted_row h (by omega) hplace
  have hput : putOutput (s.access (onObject q (key (0x6900 + u) sub))) (putAt s q (key (0x6900 + u) sub) l) =
      xPatternWrite u sub (ofLE q.body) (s.access (onObject q (key (0x6900 + u) sub))) := by
    rw [put_pattern _ hform, putAt_l, putAt_v, putAt_sub, hunit, hmod]
  have he := asks_of_writesOf (exec_patternWrite q u sub s) (by simpa using ⟨⟨hu, h1⟩, h5⟩)
  have hm : m = ((s.access (onObject q (key (0x6900 + u) sub))).poke (key (0x6900 + u) sub) (ofLE q.body)).obj (K.patternMode u) := by
    have hmode : accessKey (K.patternMode u) = false := access_key_false (by decide) (by omega)
    rw [obj_poke, obj_access h hmode]
    exact if_congr ⟨Eq.symm, Eq.symm⟩ rfl rfl
  refine writes_of_put he hsafe h (written_output (by simp only [key]; omega)) hput ?_ ?_ ?_
  · rw [hm]
    exact patternWrite_leaves _ hu _
  · rw [hm]
    exact patternWrite_holds _ hu h5 _
  · have hpat := patternWrite_pat (s.access (onObject q (key (0x6900 + u) sub))) u sub (ofLE q.body)
    rw [← hm, access_clock] at hpat
    rw [pat_answeredWrite]
    exact hpat

/-! ## Matches (R397) -/

/-- Whether a comparison that has held is an activation of its unit (R397). -/
def patActs (s : State) (u : Nat) : Bool :=
  match s.obj (K.patternMode u) with
  | 1 => s.patRaw u && !(s.pat u).base
  | 2 => s.patRaw u && !(s.pat u).base
  | 3 => !s.patRaw u && (s.pat u).base
  | _ => s.patIn u != (s.pat u).seen

/-- A unit whose comparison is shown. -/
def patShown (s : State) (u : Nat) : State :=
  (s.set (K.patternMatch u) (ofBool (s.patRaw u))).setPat u { s.pat u with base := s.patRaw u, seen := s.patIn u }

theorem patternMatch_held {s : State} {u : Nat} (hmode : s.obj (K.patternMode u) ≠ 0) (hstandby : s.mode ≠ mStandby)
    (hheld : (s.pat u).since + 5 * perNs * s.obj (K.patternHold u) ≤ s.clock) : xPatternMatch u s =
      if patActs s u then (((patShown s u).count (K.patternCount u) 32 1).set (K.patternLastWord u)
          ((patShown s u).bankIn ((patShown s u).obj (K.patternBank u)))).raise (704 + u)
          ((patShown s u).bankIn ((patShown s u).obj (K.patternBank u)))
      else patShown s u := by
  have hgo : ¬ (decide (s.obj (K.patternMode u) = 0) || decide (s.mode = mStandby) ||
      decide (s.clock < (s.pat u).since + 5 * perNs * s.obj (K.patternHold u))) = true := by
    simp only [Bool.or_eq_true, decide_eq_true_eq, not_or]
    exact ⟨⟨hmode, hstandby⟩, Nat.not_lt.2 hheld⟩
  unfold xPatternMatch
  extract_lets m
  rw [if_neg hgo]
  rfl

theorem bankIn_patShown (s : State) (u b : Nat) : (patShown s u).bankIn b = s.bankIn b := by
  have hpad (k : Nat) : (patShown s u).padIn k = s.padIn k := by
    have hobj : (patShown s u).obj (K.gpioBankVioFault (k / 16)) = s.obj (K.gpioBankVioFault (k / 16)) :=
      obj_set_ne s _ (key_ne (by decide) (by decide) (by omega))
    rw [State.padIn, State.padIn, hobj]
    rfl
  simp only [State.bankIn, hpad]

theorem obj_patShown_ne (s : State) {u k : Nat} (h : k ≠ K.patternMatch u) : (patShown s u).obj k = s.obj k := obj_set_ne s _ h

theorem leaves_patShown (s : State) (u : Nat) {ks : List Nat} (h : K.patternMatch u ∈ ks) : Leaves ks (patShown s u) s :=
  (leaves_setPat ..).trans (leaves_set s _ h)

/-- A unit's activation: counted, with its bank's word, and raised. -/
def patActive (s : State) (u word : Nat) : State :=
  (((patShown s u).count (K.patternCount u) 32 1).set (K.patternLastWord u) word).raise (704 + u) word

theorem patActive_holds (s : State) {u : Nat} (hu : u < 16) (word : Nat) : Holds (patActive s u word)
    ((K.patternMatch u, ofBool (s.patRaw u)) :: [(K.patternCount u, satAdd 32 (s.obj (K.patternCount u)) 1), (K.patternLastWord u, word)] ++
      raisedBy s (704 + u) word) := by
  have hsource {i b : Nat} (hi : i < 0x7000) (hb : b < 256) (t : State) : (t.raise (704 + u) word).obj (key i b) = t.obj (key i b) :=
    obj_raise_of_lt _ _ _ (by simp only [key]; omega)
  have hcm : K.patternCount u ≠ K.patternMatch u := key_ne (by decide) (by decide) (by omega)
  have hlm : K.patternMatch u ≠ K.patternLastWord u := key_ne (by decide) (by decide) (by omega)
  have hcl : K.patternCount u ≠ K.patternLastWord u := key_ne (by decide) (by decide) (by omega)
  refine holds_cons ?_ (holds_cons ?_ (holds_cons ?_ ?_))
  · refine (hsource (by omega) (by decide) _).trans ((obj_set_ne _ _ hlm).trans ((obj_count_ne _ _ _ hcm.symm).trans ?_))
    exact obj_set_self ..
  · refine (hsource (by omega) (by decide) _).trans ((obj_set_ne _ _ hcl).trans ((obj_count_self ..).trans ?_))
    rw [obj_patShown_ne s hcm]
  · exact (hsource (by omega) (by decide) _).trans (obj_set_self ..)
  · have hne {i b : Nat} (hi : i < 0x7000) (hb : b < 256) : K.eventCount (704 + u) ≠ key i b := key_ne (by decide) hb (by omega)
    have hcount : (((patShown s u).count (K.patternCount u) 32 1).set (K.patternLastWord u) word).obj (K.eventCount (704 + u)) =
        s.obj (K.eventCount (704 + u)) :=
      (obj_set_ne _ _ (hne (by omega) (by decide))).trans ((obj_count_ne _ _ _ (hne (by omega) (by decide))).trans
        (obj_patShown_ne s (hne (by omega) (by decide))))
    have hraise := holds_raise_of_ge (n := 704 + u) word (by omega) (by omega) hcount (by rw [set_time, count_time]; rfl)
    exact hraise

theorem patternMatch_sets {s : State} {t u : Nat} (h : Awake s) (hu : u < 16) (hmode : s.obj (K.patternMode u) ≠ 0)
    (hstandby : s.mode ≠ mStandby) (hheld : (s.pat u).since + 5 * perNs * s.obj (K.patternHold u) ≤ max s.clock t) :
    Sets (.patternMatch t u) s
      ((K.patternMatch u, ofBool (s.patRaw u)) ::
        (if patActs s u then [(K.patternCount u, satAdd 32 (s.obj (K.patternCount u)) 1),
            (K.patternLastWord u, s.bankIn (s.obj (K.patternBank u)))] ++
          raisedBy (s.begin_ t) (704 + u) (s.bankIn (s.obj (K.patternBank u))) else []))
      (fun v => (v.pat u).base = s.patRaw u ∧ (v.pat u).seen = s.patIn u) := by
  have hbank : K.patternBank u ≠ K.patternMatch u := key_ne (by decide) (by decide) (by omega)
  have heffect : xPatternMatch u (s.begin_ t) = if patActs s u then patActive (s.begin_ t) u (s.bankIn (s.obj (K.patternBank u)))
      else patShown (s.begin_ t) u := by
    rw [patternMatch_held (s := s.begin_ t) hmode hstandby hheld, bankIn_patShown, obj_patShown_ne _ hbank]
    rfl
  have hshown : (patShown (s.begin_ t) u).pat u = { (s.begin_ t).pat u with base := s.patRaw u, seen := s.patIn u } := pat_setPat_self ..
  have hu' : (u < 16 : Bool) = true := by simpa using hu
  by_cases hacts : patActs s u = true
  · rw [if_pos hacts] at heffect ⊢
    refine sets_eventOf (exec_patternMatch t u s) hu' h ?_ ?_ ?_ <;> rw [heffect]
    · refine ((leaves_raise _ _ _ fun k hk => ?_).trans ((leaves_set _ _ ?_).trans (leaves_count _ _ _ ?_))).trans (leaves_patShown _ u ?_)
      · rw [List.map_cons, List.map_append, map_fst_raisedBy]
        exact List.mem_cons_of_mem _ (List.mem_append_right _ hk)
      all_goals simp
    · exact patActive_holds (s.begin_ t) hu _
    · have hpats : (patActive (s.begin_ t) u (s.bankIn (s.obj (K.patternBank u)))).pats = (patShown (s.begin_ t) u).pats := by
        rw [patActive, raise_pats, set_pats, count_pats]
      simp only [State.pat, hpats]
      simp only [State.pat] at hshown
      rw [hshown]
      exact ⟨rfl, rfl⟩
  · rw [if_neg hacts] at heffect ⊢
    refine sets_eventOf (exec_patternMatch t u s) hu' h ?_ ?_ ?_ <;> rw [heffect]
    · exact leaves_patShown _ u (List.mem_cons_self ..)
    · exact holds_cons (obj_set_self ..) (holds_nil _)
    · rw [hshown]
      exact ⟨rfl, rfl⟩

/-- Settles O57. -/
theorem patternUnitsMatch : Obligations.PatternUnitsMatch := by
  unfold Obligations.PatternUnitsMatch
  refine ⟨fun s q l u sub hsafe hu h1 h5 => patternWrite_writes hsafe hu h1 h5, ?_⟩
  intro s t u h hu hmode hstandby hheld raw act word
  have hact : act = patActs s u := rfl
  rw [hact]
  exact patternMatch_sets h hu hmode hstandby hheld

end Sys2Proof.Proofs
end

section
/-! # Pins -/

set_option Elab.async false

namespace Sys2Proof.Proofs

open Sys2Proof Sys2Proof.Machine Sys2Proof.Laws

/-! ## Banks (R392, R393) -/

section
variable {s : State} {q : Req} {l : Loc} {b : Nat}

theorem put_bank (t : State) {p : Put} (hform : p.l.row.form = .bank) :
    putOutput t p = if p.sub = 3 then xBankWrite p.l.unit p.v (t.putValue p) else t.putValue p := by
  simp only [putOutput, hform]

theorem gpioBankWrite_writes (hsafe : s.safeAsk = 0) (hb : b < 6) (h : Accepts s (onObject q (K.gpioBankWrite b)) l) :
    Writes (.gpioBankWrite q b) s (onObject q (K.gpioBankWrite b)) l
      [(K.gpioBankOut b, merged (s.obj (K.gpioBankOut b)) (ofLE q.body))] (fun _ => True) := by
  have hmod : K.gpioBankWrite b % 256 = 3 := key_mod (by decide)
  obtain ⟨hform, hattr, hunit, -⟩ := accepted_row h (by omega) (place_gpioBankWrite b hb)
  have hput : putOutput (s.access (onObject q (K.gpioBankWrite b))) (putAt s q (K.gpioBankWrite b) l) =
      xBankWrite b (ofLE q.body) (s.access (onObject q (K.gpioBankWrite b))) := by
    rw [put_bank _ hform, putAt_sub, if_pos hmod, putValue_action _ hattr, putAt_l, putAt_v, hunit]
  refine writes_of_put (asks_of_writesOf (exec_gpioBankWrite q b s) (by simpa using hb)) hsafe h
    (written_output (by simp only [K.gpioBankWrite, key]; omega)) hput (leaves_set _ _ (List.mem_cons_self ..))
    (holds_cons ?_ (holds_nil _)) trivial
  have hout : accessKey (K.gpioBankOut b) = false := access_key_false (by decide) (by omega)
  exact (obj_set_self ..).trans (by rw [obj_access h hout])

theorem gpioBankOut_writes (hsafe : s.safeAsk = 0) (hb : b < 6) (h : Accepts s (onObject q (K.gpioBankOut b)) l) :
    Writes (.gpioOutWrite q b) s (onObject q (K.gpioBankOut b)) l [(K.gpioBankOut b, ofLE q.body)] (fun _ => True) := by
  have hmod : K.gpioBankOut b % 256 = 2 := key_mod (by decide)
  obtain ⟨hform, hattr, -, -⟩ := accepted_row h (by omega) (place_gpioBankOut b hb)
  have hput : putOutput (s.access (onObject q (K.gpioBankOut b))) (putAt s q (K.gpioBankOut b) l) =
      (s.access (onObject q (K.gpioBankOut b))).poke (K.gpioBankOut b) (ofLE q.body) := by
    rw [put_bank _ hform, putAt_sub, if_neg (by omega), putValue_stored _ hattr, putAt_key, putAt_v]
  exact writes_of_put (asks_of_writesOf (exec_gpioOutWrite q b s) (by simpa using hb)) hsafe h
    (written_output (by simp only [K.gpioBankOut, key]; omega)) hput (leaves_poke _ _ (List.mem_cons_self ..))
    (holds_cons (obj_poke_self ..) (holds_nil _)) trivial

end

/-! ## Function writes (R391, R395) -/

theorem pin_setPin_self (s : State) (k : Nat) (x : Pin) : (s.setPin k x).pin k = x := get_put_self ..

theorem leaves_modPin (s : State) (k : Nat) (f : Pin → Pin) {ks : List Nat} : Leaves ks (s.modPin k f) s :=
  leaves_of_dict rfl rfl rfl rfl rfl rfl

theorem pin_answeredWrite (u s : State) (q : Req) (k : Nat) (l : Loc) (i : Nat) : (answeredWrite u s q k l).pin i = u.pin i := by
  rw [State.pin, answered_pins]
  rfl

theorem pin_poke (s : State) (i v k : Nat) : (s.poke i v).pin k = s.pin k := by rw [State.pin, poke_pins]; rfl

theorem pin_set (s : State) (i v k : Nat) : (s.set i v).pin k = s.pin k := by rw [State.pin, set_pins]; rfl

theorem pin_access (s : State) (q : Req) (k : Nat) : (s.access q).pin k = s.pin k := by rw [State.pin, access_pins]; rfl

section
variable {s : State} {q : Req} {l : Loc} {k : Nat}

theorem pinsReleased_access (h : Accepts s (onObject q k) l) : (s.access (onObject q k)).pinsReleased = s.pinsReleased := by
  simp only [State.pinsReleased, State.prepAt, State.mode, obj_access h (show accessKey K.deviceMode = false by decide),
    obj_access h (show accessKey K.deviceModeStep = false by decide), access_trans]

theorem put_pin (t : State) {p : Put} (hform : p.l.row.form = .pin) (hsub : p.sub = 1) : putOutput t p = xFuncWrite p.l.unit p.v t := by
  simp only [putOutput, hform, hsub, if_true]

/-- A function write acts by what stage its pin is in. -/
theorem gpioFunc_writes {vs : List (Nat × Nat)} {own : State → Prop} (hsafe : s.safeAsk = 0) (hk : k < 96)
    (h : Accepts s (onObject q (K.gpioPinFunc k)) l)
    (hl : Leaves (vs.map (·.1)) (xFuncWrite k (ofLE q.body) (s.access (onObject q (K.gpioPinFunc k)))) (s.access (onObject q (K.gpioPinFunc k))))
    (hv : Holds (xFuncWrite k (ofLE q.body) (s.access (onObject q (K.gpioPinFunc k)))) vs)
    (hown : own (answeredWrite (xFuncWrite k (ofLE q.body) (s.access (onObject q (K.gpioPinFunc k)))) s q (K.gpioPinFunc k) l)) :
    Writes (.gpioFuncWrite q k) s (onObject q (K.gpioPinFunc k)) l vs own := by
  have hmod : K.gpioPinFunc k % 256 = 1 := key_mod (by decide)
  obtain ⟨hform, -, hunit, -⟩ := accepted_row h (by omega) (place_gpioPinFunc k hk)
  have hput : putOutput (s.access (onObject q (K.gpioPinFunc k))) (putAt s q (K.gpioPinFunc k) l) =
      xFuncWrite k (ofLE q.body) (s.access (onObject q (K.gpioPinFunc k))) := by
    rw [put_pin _ hform hmod, putAt_l, putAt_v, hunit]
  exact writes_of_put (asks_of_writesOf (exec_gpioFuncWrite q k s) (by simpa using hk)) hsafe h
    (written_output (by simp only [K.gpioPinFunc, key]; omega)) hput hl hv hown

theorem funcWrite_stored {t : State} {f : Nat} (h : t.pinsReleased = false) : xFuncWrite k f t = t.poke (K.gpioPinFunc k) f := by
  simp [xFuncWrite, h]

theorem funcWrite_waits {t : State} {f : Nat} (h : t.pinsReleased = true) (hstage : (t.pin k).stage ≠ 0) :
    xFuncWrite k f t = t.set (K.gpioPinPending k) f := by
  simp [xFuncWrite, h, hstage]

theorem funcWrite_begins {t : State} {f : Nat} (h : t.pinsReleased = true) (hstage : (t.pin k).stage = 0) :
    xFuncWrite k f t = (t.modPin k (fun x => { x with stage := 1, old := t.obj (K.gpioPinFunc k) })).poke (K.gpioPinFunc k) f := by
  simp [xFuncWrite, h, hstage]

theorem gpioFunc_stored (hsafe : s.safeAsk = 0) (hk : k < 96) (h : Accepts s (onObject q (K.gpioPinFunc k)) l)
    (hreleased : s.pinsReleased = false) :
    Writes (.gpioFuncWrite q k) s (onObject q (K.gpioPinFunc k)) l [(K.gpioPinFunc k, ofLE q.body)] (fun _ => True) := by
  rw [← pinsReleased_access h] at hreleased
  refine gpioFunc_writes hsafe hk h ?_ ?_ trivial <;> rw [funcWrite_stored hreleased]
  · exact leaves_poke _ _ (List.mem_cons_self ..)
  · exact holds_cons (obj_poke_self ..) (holds_nil _)

theorem gpioFunc_begins (hsafe : s.safeAsk = 0) (hk : k < 96) (h : Accepts s (onObject q (K.gpioPinFunc k)) l)
    (hreleased : s.pinsReleased = true) (hstage : (s.pin k).stage = 0) :
    Writes (.gpioFuncWrite q k) s (onObject q (K.gpioPinFunc k)) l [(K.gpioPinFunc k, ofLE q.body)]
      (fun u => (u.pin k).stage = 1 ∧ (u.pin k).old = s.obj (K.gpioPinFunc k)) := by
  have hfunc : accessKey (K.gpioPinFunc k) = false := access_key_false (by decide) (by omega)
  rw [← pinsReleased_access h] at hreleased
  rw [← pin_access s (onObject q (K.gpioPinFunc k))] at hstage
  refine gpioFunc_writes hsafe hk h ?_ ?_ ?_ <;> rw [funcWrite_begins hreleased hstage]
  · exact (leaves_poke _ _ (List.mem_cons_self ..)).trans (leaves_modPin ..)
  · exact holds_cons (obj_poke_self ..) (holds_nil _)
  · rw [pin_answeredWrite, pin_poke, State.modPin, pin_setPin_self, obj_access h hfunc]
    exact ⟨rfl, rfl⟩

theorem gpioFunc_waits (hsafe : s.safeAsk = 0) (hk : k < 96) (h : Accepts s (onObject q (K.gpioPinFunc k)) l)
    (hreleased : s.pinsReleased = true) (hstage : (s.pin k).stage ≠ 0) :
    Writes (.gpioFuncWrite q k) s (onObject q (K.gpioPinFunc k)) l [(K.gpioPinPending k, ofLE q.body)] (fun u => u.pin k = s.pin k) := by
  rw [← pinsReleased_access h] at hreleased
  rw [← pin_access s (onObject q (K.gpioPinFunc k))] at hstage
  refine gpioFunc_writes hsafe hk h ?_ ?_ ?_ <;> rw [funcWrite_waits hreleased hstage]
  · exact leaves_set _ _ (List.mem_cons_self ..)
  · exact holds_cons (obj_set_self ..) (holds_nil _)
  · rw [pin_answeredWrite, pin_set, pin_access]

end

/-! ## Switches (R395, R396) -/

section
variable {s : State} {t k : Nat}

theorem latchCapture_sets (h : Awake s) (hk : k < 96) (hstage : (s.pin k).stage = 1) :
    Sets (.pinLatchCapture t k) s []
      (fun u => (u.pin k).stage = 2 ∧ (u.pin k).latched = (s.begin_ t).latchable ((s.begin_ t).pinDrive k)) := by
  have hcaptured : xLatchCapture k (s.begin_ t) = (s.begin_ t).modPin k
      (fun x => { x with stage := 2, latched := (s.begin_ t).latchable ((s.begin_ t).pinDrive k) }) := if_pos hstage
  refine sets_eventOf (exec_pinLatchCapture t k s) (by simpa using hk) h ?_ (holds_nil _) ?_ <;> rw [hcaptured]
  · exact leaves_modPin ..
  · rw [State.modPin, pin_setPin_self]
    exact ⟨rfl, rfl⟩

/-- The end of a pin's switch: counted where it is a function's, not a release's. -/
def switchCounted (s : State) (k : Nat) : State := if (s.pin k).stage = 2 then s.count (K.gpioPinSwitches k) 32 1 else s

theorem handshake_ends (hstage : 2 ≤ (s.pin k).stage) (hagrees : s.agrees k = true) :
    xHandshake k s =
      if (switchCounted s k).obj (K.gpioPinPending k) = 0xFFFF then (switchCounted s k).modPin k (fun x => { x with stage := 0 })
      else ((switchCounted s k).modPin k
        (fun x => { x with stage := 1, old := (switchCounted s k).obj (K.gpioPinFunc k) })).takePending k := by
  have hlate : ¬ (decide ((s.pin k).stage < 2) || !s.agrees k) = true := by
    simp only [hagrees, Bool.not_true, Bool.or_false, decide_eq_true_eq]
    omega
  unfold xHandshake
  extract_lets x
  rw [if_neg hlate]
  rfl

theorem obj_switchCounted {i : Nat} (h : i ≠ K.gpioPinSwitches k) : (switchCounted s k).obj i = s.obj i := by
  unfold switchCounted
  split
  · exact obj_count_ne _ _ _ h
  · rfl

theorem pending_ne_switches : K.gpioPinPending k ≠ K.gpioPinSwitches k := key_ne (by decide) (by decide) (by omega)

theorem func_ne_switches : K.gpioPinFunc k ≠ K.gpioPinSwitches k := key_ne (by decide) (by decide) (by omega)

theorem released_sets (h : Awake s) (hk : k < 96) (hstage : (s.pin k).stage = 3) (hagrees : (s.begin_ t).agrees k = true)
    (hpending : s.obj (K.gpioPinPending k) = 0xFFFF) : Sets (.funcFirstHandshake t k) s [] (fun u => (u.pin k).stage = 0) := by
  have hstage' : ((s.begin_ t).pin k).stage = 3 := hstage
  have hsame : switchCounted (s.begin_ t) k = s.begin_ t := if_neg (by omega)
  have hends : xHandshake k (s.begin_ t) = (s.begin_ t).modPin k (fun x => { x with stage := 0 }) := by
    rw [handshake_ends (by omega) hagrees, hsame]
    exact if_pos hpending
  refine sets_eventOf (exec_funcFirstHandshake t k s) (by simpa using hk) h ?_ (holds_nil _) ?_ <;> rw [hends]
  · exact leaves_modPin ..
  · rw [State.modPin, pin_setPin_self]

theorem counted_of_switch (hstage : (s.pin k).stage = 2) : switchCounted s k = s.count (K.gpioPinSwitches k) 32 1 := if_pos hstage

theorem switched_sets (h : Awake s) (hk : k < 96) (hstage : (s.pin k).stage = 2) (hagrees : (s.begin_ t).agrees k = true)
    (hpending : s.obj (K.gpioPinPending k) = 0xFFFF) :
    Sets (.funcFirstHandshake t k) s [(K.gpioPinSwitches k, satAdd 32 (s.obj (K.gpioPinSwitches k)) 1)]
      (fun u => (u.pin k).stage = 0) := by
  have hstage' : ((s.begin_ t).pin k).stage = 2 := hstage
  have hends : xHandshake k (s.begin_ t) = (switchCounted (s.begin_ t) k).modPin k (fun x => { x with stage := 0 }) := by
    have hnone : (switchCounted (s.begin_ t) k).obj (K.gpioPinPending k) = 0xFFFF := by
      rw [obj_switchCounted pending_ne_switches]
      exact hpending
    rw [handshake_ends (by omega) hagrees, if_pos hnone]
  refine sets_eventOf (exec_funcFirstHandshake t k s) (by simpa using hk) h ?_ ?_ ?_ <;> rw [hends, counted_of_switch hstage']
  · exact (leaves_modPin ..).trans (leaves_count _ _ _ (List.mem_cons_self ..))
  · exact holds_cons (obj_count_self ..) (holds_nil _)
  · rw [State.modPin, pin_setPin_self]

theorem takePending_of_waiting (h : s.obj (K.gpioPinPending k) ≠ 0xFFFF) :
    s.takePending k = (s.set (K.gpioPinPending k) 0xFFFF).poke (K.gpioPinFunc k) (s.obj (K.gpioPinPending k)) := if_neg h

theorem switchedOn_sets (h : Awake s) (hk : k < 96) (hstage : (s.pin k).stage = 2) (hagrees : (s.begin_ t).agrees k = true)
    (hpending : s.obj (K.gpioPinPending k) ≠ 0xFFFF) :
    Sets (.funcFirstHandshake t k) s
      [(K.gpioPinSwitches k, satAdd 32 (s.obj (K.gpioPinSwitches k)) 1), (K.gpioPinPending k, 0xFFFF),
        (K.gpioPinFunc k, s.obj (K.gpioPinPending k))]
      (fun u => (u.pin k).stage = 1 ∧ (u.pin k).old = s.obj (K.gpioPinFunc k)) := by
  have hstage' : ((s.begin_ t).pin k).stage = 2 := hstage
  have hwaits : (switchCounted (s.begin_ t) k).obj (K.gpioPinPending k) = s.obj (K.gpioPinPending k) :=
    obj_switchCounted pending_ne_switches
  have hfunc : (switchCounted (s.begin_ t) k).obj (K.gpioPinFunc k) = s.obj (K.gpioPinFunc k) := obj_switchCounted func_ne_switches
  have hpf : K.gpioPinPending k ≠ K.gpioPinFunc k := key_ne (by decide) (by decide) (by omega)
  have hmod (g : Pin → Pin) (i : Nat) : ((switchCounted (s.begin_ t) k).modPin k g).obj i = (switchCounted (s.begin_ t) k).obj i := rfl
  have hends : xHandshake k (s.begin_ t) = (((switchCounted (s.begin_ t) k).modPin k
      (fun x => { x with stage := 1, old := s.obj (K.gpioPinFunc k) })).set (K.gpioPinPending k) 0xFFFF).poke (K.gpioPinFunc k)
        (s.obj (K.gpioPinPending k)) := by
    rw [handshake_ends (by omega) hagrees, if_neg (by rwa [hwaits]), takePending_of_waiting (by rwa [hmod, hwaits]), hmod, hwaits, hfunc]
  refine sets_eventOf (exec_funcFirstHandshake t k s) (by simpa using hk) h ?_ ?_ ?_ <;> rw [hends, counted_of_switch hstage']
  · refine (leaves_poke _ _ ?_).trans ((leaves_set _ _ ?_).trans ((leaves_modPin ..).trans (leaves_count _ _ _ ?_))) <;> simp
  · refine holds_cons ?_ (holds_cons ?_ (holds_cons (obj_poke_self ..) (holds_nil _)))
    · refine (obj_poke_ne _ _ func_ne_switches.symm).trans ((obj_set_ne _ _ pending_ne_switches.symm).trans ?_)
      exact obj_count_self ..
    · exact (obj_poke_ne _ _ hpf).trans (obj_set_self ..)
  · rw [pin_poke, pin_set, State.modPin, pin_setPin_self]
    exact ⟨rfl, rfl⟩

end

/-! ## Inputs and supplies (R388, R394) -/

section
variable {s : State} {t : Nat}

theorem leaves_touchPats (s before : State) {ks : List Nat} : Leaves ks (s.touchPats before) s :=
  leaves_foldl _ _ _ fun _ _ _ => leaves_ite (fun _ => leaves_setPat ..) fun _ => Leaves.refl ..

theorem pinLevels_touchPats (s before : State) : (s.touchPats before).pinLevels = s.pinLevels := by
  refine foldl_keeps State.pinLevels _ _ _ fun t u => ?_
  split <;> rfl

theorem pinInput_accepts {k held : Nat} {level : Bool} (h : level ≠ s.pinLevels.testBit k) (hheld : 5000 * s.obj (K.gpioPinFilter k) ≤ held) :
    xPinInput k level held s = ({ s with pinLevels := withBit s.pinLevels k level } : State).touchPats s := by
  rw [xPinInput, if_neg h, if_neg (Nat.not_lt.2 hheld)]

theorem pinInput_rejects {k held : Nat} {level : Bool} (h : level ≠ s.pinLevels.testBit k) (hheld : held < 5000 * s.obj (K.gpioPinFilter k)) :
    xPinInput k level held s = s.count (K.gpioPinGlitches k) 32 1 := by
  rw [xPinInput, if_neg h, if_pos hheld]

theorem pinInput_sets {k held : Nat} {level : Bool} (h : Awake s) (hk : k < 96) (hlevel : level ≠ s.pinLevels.testBit k)
    (hheld : 5 * s.obj (K.gpioPinFilter k) * 1000 ≤ held) :
    Sets (.pinInputChange t k level held) s [] (fun u => u.pinLevels = withBit s.pinLevels k level) := by
  have haccepts := pinInput_accepts (s := s.begin_ t) hlevel (show 5000 * s.obj (K.gpioPinFilter k) ≤ held by omega)
  refine sets_runOf (exec_pinInputChange t k level held s) (by simpa using hk) h.2 ?_ (holds_nil _) ?_ <;> rw [haccepts]
  · exact (leaves_touchPats ..).trans (leaves_of_dict rfl rfl rfl rfl rfl rfl)
  · exact pinLevels_touchPats ..

theorem pinGlitch_sets {k held : Nat} {level : Bool} (h : Awake s) (hk : k < 96) (hlevel : level ≠ s.pinLevels.testBit k)
    (hheld : held < 5 * s.obj (K.gpioPinFilter k) * 1000) :
    Sets (.pinInputChange t k level held) s [(K.gpioPinGlitches k, satAdd 32 (s.obj (K.gpioPinGlitches k)) 1)]
      (fun u => u.pinLevels = s.pinLevels) := by
  have hrejects := pinInput_rejects (s := s.begin_ t) hlevel (show held < 5000 * s.obj (K.gpioPinFilter k) by omega)
  refine sets_runOf (exec_pinInputChange t k level held s) (by simpa using hk) h.2 ?_ ?_ ?_ <;> rw [hrejects]
  · exact leaves_count _ _ _ (List.mem_cons_self ..)
  · exact holds_cons (obj_count_self ..) (holds_nil _)
  · exact count_pinLevels ..

/-- A bank's supply as it shows. -/
def vioShown (s : State) (b mv : Nat) : State :=
  ((s.set (K.gpioBankVio b) (nominalOf mv)).set (K.gpioBankVioFault b) (if nominalOf mv = 0 then 1 else 0)).touchPats s

theorem vioCheck_eq (s : State) (b mv : Nat) : xVioCheck b mv s =
    if nominalOf mv = 0 then (State.riseIf s (vioShown s b mv) 761 (10 + b)).askSafe 4
    else State.riseIf s (vioShown s b mv) 761 (10 + b) := rfl

theorem leaves_vioShown (s : State) (b mv : Nat) : Leaves [K.gpioBankVio b, K.gpioBankVioFault b] (vioShown s b mv) s :=
  (leaves_touchPats ..).trans ((leaves_set _ _ (by simp)).trans (leaves_set _ _ (by simp)))

theorem obj_touchPats (s before : State) (k : Nat) : (s.touchPats before).obj k = s.obj k := by
  refine foldl_keeps (fun u => u.obj k) _ _ _ fun t u => ?_
  split <;> rfl

theorem vioShown_holds (s : State) (b mv : Nat) :
    (vioShown s b mv).obj (K.gpioBankVio b) = nominalOf mv ∧
      (vioShown s b mv).obj (K.gpioBankVioFault b) = if nominalOf mv = 0 then 1 else 0 := by
  have hne : K.gpioBankVio b ≠ K.gpioBankVioFault b := key_ne (by decide) (by decide) (by omega)
  rw [vioShown, obj_touchPats, obj_touchPats, obj_set_ne _ _ hne, obj_set_self, obj_set_self]
  exact ⟨rfl, rfl⟩

/-- No supply comes to lie out of its window where a bank's is back in its own. -/
theorem railOut_of_vioShown {b mv : Nat} (hv : nominalOf mv ≠ 0) (h : (vioShown s b mv).railOut = true) : s.railOut = true := by
  have hobj {i a : Nat} (ha : a < 256) (hne : i ≠ 0x6860 + b ∨ (a ≠ 1 ∧ a ≠ 5)) : (vioShown s b mv).obj (key i a) = s.obj (key i a) := by
    have hvio : key i a ≠ K.gpioBankVio b := key_ne ha (by decide) (by omega)
    have hfault : key i a ≠ K.gpioBankVioFault b := key_ne ha (by decide) (by omega)
    rw [vioShown, obj_touchPats, obj_set_ne _ _ hfault, obj_set_ne _ _ hvio]
  simp only [State.railOut, Bool.or_eq_true, List.any_eq_true, List.mem_range, bne_iff_ne, ne_eq] at h ⊢
  refine h.imp (fun ⟨r, hr, hx⟩ => ⟨r, hr, ?_⟩) fun ⟨i, hi, hx⟩ => ⟨i, hi, ?_⟩
  · rwa [K.deviceRailState, hobj (by decide) (by omega)] at hx
  · by_cases hib : i = b
    · subst hib
      rw [(vioShown_holds s i mv).2, if_neg hv] at hx
      exact absurd rfl hx
    · rwa [K.gpioBankVioFault, hobj (by decide) (by omega)] at hx

theorem condition_rails (s : State) : s.condition 761 = some s.railOut := rfl

theorem rises_not {before after : State} (n d : Nat) (h : after.condition n = some true → before.condition n = some true) :
    State.riseIf before after n d = after := by
  unfold State.riseIf
  rw [if_neg]
  simp only [Bool.and_eq_true, bne_iff_ne, ne_eq, beq_iff_eq]
  exact fun hr => hr.1 (h hr.2)

theorem vioCheck_sets {b mv : Nat} (hheld : s.held = false) (hb : b < 6) (hv : nominalOf mv ≠ 0) (hsafe : s.safeAsk = 0) :
    Sets (.bankVioCheck t b mv) s [(K.gpioBankVio b, nominalOf mv), (K.gpioBankVioFault b, 0)] (fun _ => True) := by
  have hshown : xVioCheck b mv (s.begin_ t) = vioShown (s.begin_ t) b mv := by
    rw [vioCheck_eq, if_neg hv, rises_not 761 (10 + b) fun h => ?_]
    rw [condition_rails, Option.some.injEq] at h ⊢
    exact railOut_of_vioShown hv h
  obtain ⟨hvio, hfault⟩ := vioShown_holds (s.begin_ t) b mv
  refine sets_eventOf (exec_bankVioCheck t b mv s) (by simpa using hb) ⟨hheld, hsafe⟩ ?_ ?_ trivial <;> rw [hshown]
  · exact leaves_vioShown ..
  · exact holds_cons hvio (holds_cons (hfault.trans (if_neg hv)) (holds_nil _))

theorem obj_riseIf_of_lt {before after : State} {n d k : Nat} (h : k < 0x700000) : (State.riseIf before after n d).obj k = after.obj k := by
  unfold State.riseIf
  split
  · exact obj_raise_of_lt _ _ _ h
  · rfl

theorem safeAsk_askSafe (s : State) (bit : Nat) : (s.askSafe bit).safeAsk.testBit bit = true := by
  simp [State.askSafe]

theorem vioDeparture_completes {b mv : Nat} (hheld : s.held = false) (hb : b < 6) (hv : nominalOf mv = 0) :
    Completes (.bankVioCheck t b mv) s
      (fun u => u.obj (K.gpioBankVio b) = 0 ∧ u.obj (K.gpioBankVioFault b) = 1 ∧ u.safeAsk ≠ 0) (fun _ => True) := by
  obtain ⟨hvio, hfault⟩ := vioShown_holds (s.begin_ t) b mv
  have hlow : K.gpioBankVio b < 0x700000 ∧ K.gpioBankVioFault b < 0x700000 := by
    simp only [K.gpioBankVio, K.gpioBankVioFault, key]
    omega
  refine completes_eventOf (exec_bankVioCheck t b mv s) (by simpa using hb) hheld ?_
  rw [vioCheck_eq, if_pos hv]
  refine ⟨(obj_riseIf_of_lt hlow.1).trans (hvio.trans hv), (obj_riseIf_of_lt hlow.2).trans (hfault.trans (if_pos hv)), fun hzero => ?_⟩
  have hbit := safeAsk_askSafe (State.riseIf (s.begin_ t) (vioShown (s.begin_ t) b mv) 761 (10 + b)) 4
  rw [hzero] at hbit
  exact absurd hbit (by decide)

end

/-- Settles O56. -/
theorem pinsFollowTheirFunctions : Obligations.PinsFollowTheirFunctions := by
  unfold Obligations.PinsFollowTheirFunctions
  refine ⟨fun s q l b hsafe hb => ⟨gpioBankWrite_writes hsafe hb, gpioBankOut_writes hsafe hb⟩, fun s q l k hsafe hk => ?_,
    fun s t k h hk => ?_, fun s t k held level h hk hlevel => ?_, fun s t b mv hheld hb => ?_⟩
  · exact ⟨gpioFunc_stored hsafe hk, gpioFunc_begins hsafe hk, gpioFunc_waits hsafe hk⟩
  · exact ⟨latchCapture_sets h hk, released_sets h hk, switched_sets h hk, switchedOn_sets h hk⟩
  · exact ⟨pinInput_sets h hk hlevel, pinGlitch_sets h hk hlevel⟩
  · exact ⟨vioCheck_sets hheld hb, vioDeparture_completes hheld hb⟩

end Sys2Proof.Proofs
end

section
/-! # A version adopted on an island

An announced version makes the member agree; the roles that follow may find the trunk of an island back, and then the member links anew
and settles its version anew. What follows every command leaves alone whether the version is agreed, and the outputs' hidden state, unless it
enters SAFE. -/

set_option Elab.async false

namespace Sys2Proof.Proofs

open Sys2Proof Sys2Proof.Machine Sys2Proof.Laws

/-- Whether a member has agreed to a version, and the hidden state of the outputs. -/
abbrev innards (s : State) : Bool × List (Nat × Dac) := (s.rally.agreed, s.dacs)

theorem set_innards (s : State) (k v : Nat) : innards (s.set k v) = innards s := rfl

theorem count_innards (s : State) (k w n : Nat) : innards (s.count k w n) = innards s := rfl

theorem tally_innards (s : State) (k w n : Nat) : innards (s.tally k w n) = innards s := rfl

theorem raise_innards (s : State) (n d : Nat) : innards (s.raise n d) = innards s :=
  congrArg₂ Prod.mk (congrArg Rally.agreed (raise_rally ..)) (raise_dacs ..)

theorem lower_innards (s : State) (n : Nat) : innards (s.lower n) = innards s :=
  congrArg₂ Prod.mk (congrArg Rally.agreed (lower_rally ..)) (lower_dacs ..)

/-! ## Units: their hidden state is apart from the formation -/

theorem settleFirst_innards (s : State) : innards s.settleFirst = innards s := by
  unfold State.settleFirst
  split <;> rfl

theorem linkReady_innards (s : State) : innards s.linkReady = innards s := by
  unfold State.linkReady
  split <;> rfl

theorem watchScene_innards (s : State) : innards s.watchScene = innards s := by
  unfold State.watchScene
  split
  · rfl
  · refine foldl_keeps innards _ _ _ fun t n => ?_
    split <;> rfl

theorem settleEvents_innards (s : State) : innards s.settleEvents = innards s := by
  refine foldl_keeps innards _ _ _ fun t n => ?_
  split
  · exact lower_innards ..
  · rfl

theorem showStreams_innards (s : State) : innards s.showStreams = innards s := foldl_keeps innards _ _ _ fun _ _ => rfl

theorem moveExport_innards (s : State) (c : Nat) : innards (s.moveExport c) = innards s := by
  unfold State.moveExport
  split
  · split
    · rfl
    · exact showStreams_innards _
  · rfl

theorem showHold_innards (s : State) (n : Nat) : innards (s.showHold n) = innards s := by
  unfold State.showHold
  extract_lets c t bit
  have ht : innards t = innards s := by
    simp only [t]
    split <;> rfl
  split <;> exact ht

theorem settleLanes_innards (s : State) : innards s.settleLanes = innards s :=
  (foldl_keeps innards _ _ _ fun _ _ => showHold_innards ..).trans (foldl_keeps innards _ _ _ fun _ _ => moveExport_innards ..)

theorem takePending_innards (s : State) (k : Nat) : innards (s.takePending k) = innards s := by
  unfold State.takePending
  extract_lets v
  split <;> rfl

theorem capturePads_innards (s before : State) : innards (s.capturePads before) = innards s := by
  unfold State.capturePads
  split
  · exact foldl_keeps innards _ _ _ fun _ _ => rfl
  · rfl

theorem keepPads_innards (s before : State) : innards (s.keepPads before) = innards s := by
  unfold State.keepPads
  split
  · refine foldl_keeps innards _ _ _ fun t k => ?_
    split <;> rfl
  · rfl

theorem moveSwitches_innards (s before : State) : innards (s.moveSwitches before) = innards s := by
  unfold State.moveSwitches
  split
  · exact foldl_keeps innards _ _ _ fun _ _ => takePending_innards ..
  · split
    · refine foldl_keeps innards _ _ _ fun t k => ?_
      split <;> rfl
    · rfl

theorem movePins_innards (s before : State) : innards (s.movePins before) = innards s :=
  (moveSwitches_innards ..).trans ((keepPads_innards ..).trans (capturePads_innards ..))

theorem bsRounds_innards (p : Nat) (cells : List BsCell) (n : Nat) (s : State) : innards (State.bsRounds p cells n s) = innards s := by
  induction n generalizing s with
  | zero => rfl
  | succ n ih =>
    unfold State.bsRounds
    extract_lets m next t
    split
    · rfl
    · exact ih t

theorem bsSettle_innards (s : State) (p : Nat) : innards (s.bsSettle p) = innards s := by
  unfold State.bsSettle
  extract_lets cells
  split
  · rfl
  · exact bsRounds_innards ..

theorem settleBackstop_innards (s before : State) : innards (s.settleBackstop before) = innards s := by
  unfold State.settleBackstop
  split
  · refine (bsSettle_innards ..).trans ?_
    split
    · rfl
    · exact bsSettle_innards ..
  · rfl

/-! ## Fabric logic -/

theorem passSector_innards (s : State) (q : Nat) : innards (s.passSector q) = innards s := by
  unfold State.passSector
  extract_lets n level cl sigs outs macs t
  refine (foldl_keeps innards _ _ t fun u e => ?_).trans rfl
  split <;> rfl

theorem looseNets_innards (s : State) : innards s.looseNets = innards s :=
  foldl_keeps innards _ _ _ fun _ _ => foldl_keeps innards _ _ _ fun _ _ => rfl

theorem settleNets_innards (n : Nat) (s : State) : innards (State.settleNets n s) = innards s := by
  induction n generalizing s with
  | zero => exact looseNets_innards s
  | succ n ih =>
    unfold State.settleNets
    extract_lets t
    split
    · rfl
    · exact (ih t).trans (foldl_keeps innards _ _ _ fun _ _ => passSector_innards ..)

theorem clockSector_innards (s : State) (q : Nat) (b n : Net) : innards (s.clockSector q b n) = innards s := by
  refine foldl_keeps innards _ _ _ fun t e => ?_
  extract_lets x u r v level next
  have hv : innards v = innards t := (count_innards ..).trans rfl
  split <;> exact hv

theorem propagate_innards (n : Nat) (b : List (Nat × Net)) (s : State) : innards (State.propagate n b s) = innards s := by
  induction n generalizing b s with
  | zero => rfl
  | succ n ih =>
    unfold State.propagate
    extract_lets t u
    have hu : innards u = innards s := (foldl_keeps innards _ _ t fun _ _ => clockSector_innards ..).trans (settleNets_innards ..)
    split
    · exact hu
    · exact (ih ..).trans hu

theorem modNets_innards (s : State) (qs : List Nat) (f : Nat → Net → Net) :
    innards (qs.foldl (fun t q => t.modNet q (f q)) s) = innards s :=
  foldl_keeps innards _ _ _ fun _ _ => rfl

theorem triggerLines_innards (s : State) (p : Nat) : innards (s.triggerLines p) = innards s := by
  unfold State.triggerLines State.pulse
  split
  · rfl
  · split
    · rfl
    · exact (propagate_innards ..).trans ((modNets_innards ..).trans ((propagate_innards ..).trans ((propagate_innards ..).trans
        (modNets_innards ..))))

theorem settleLogic_innards (s : State) : innards s.settleLogic = innards s := by
  unfold State.settleLogic
  split
  · rfl
  · exact propagate_innards ..

theorem settleUnits_innards (s before : State) : innards (s.settleUnits before) = innards s := by
  unfold State.settleUnits
  split
  · rfl
  · exact (settleLogic_innards _).trans ((triggerLines_innards ..).trans ((settleBackstop_innards ..).trans ((movePins_innards ..).trans
      ((settleLanes_innards _).trans ((settleEvents_innards _).trans ((watchScene_innards _).trans (linkReady_innards _)))))))

/-! ## What leaves the ports -/

theorem launch_innards (s : State) (lane : Nat) (w : Waiting) : innards (s.launch lane w) = innards s := by
  unfold State.launch
  extract_lets r t
  split <;> rfl

theorem offerFragment_innards (s : State) (lane : Nat) (w : Waiting) : innards (s.offerFragment lane w) = innards s := by
  unfold State.offerFragment
  extract_lets x
  split
  · rfl
  · split
    · rfl
    · exact launch_innards ..

theorem sendUmzin_innards (s : State) (lane hop dest : Nat) (bs : List Byte) : innards (s.sendUmzin lane hop dest bs) = innards s :=
  foldl_keeps innards _ _ _ fun _ _ => offerFragment_innards ..

theorem txFrame_innards (s : State) (n b : Nat) : innards (s.txFrame n b) = innards s := by
  unfold State.txFrame
  extract_lets b x t
  have ht : innards t = innards s := (tally_innards ..).trans (tally_innards ..)
  split
  · exact ht
  · exact (set_innards ..).trans ht

theorem route_innards (s : State) (p : Nat) (e : Emission) : innards (s.route p e) = innards s := by
  unfold State.route
  extract_lets n
  split
  · split <;> rfl
  · split
    · split
      · split
        · split
          · exact sendUmzin_innards ..
          · rfl
        · rfl
      · split
        · rfl
        · split
          · rfl
          · exact txFrame_innards ..
    · rfl

theorem routeAll_innards (s : State) : innards s.routeAll = innards s := by
  refine (foldl_keeps innards _ _ _ fun t e => ?_).trans rfl
  split
  · exact route_innards ..
  · exact route_innards ..
  · rfl

/-! ## Notices and SAFE entry -/

theorem sendNotice_innards (s : State) (n src : Nat) (b : List Byte) : innards (s.sendNotice n src b) = innards s := by
  unfold State.sendNotice
  extract_lets x
  split
  · rfl
  · split
    · rfl
    · exact raise_innards ..

theorem sendEnded_innards (s : State) : innards s.sendEnded = innards s :=
  foldl_keeps innards _ _ _ fun _ _ => sendNotice_innards ..

theorem sendDue_innards (s : State) : innards s.sendDue = innards s :=
  foldl_keeps innards _ _ _ fun _ _ => sendNotice_innards ..

theorem markLate_innards (s before : State) (n : Nat) : innards (s.markLate before n) = innards s := by
  unfold State.markLate
  split <;> rfl

theorem notices_innards (s before : State) : innards (s.notices before) = innards s := by
  unfold State.notices
  extract_lets t
  split
  · exact sendEnded_innards s
  · exact (markLate_innards ..).trans ((sendDue_innards _).trans (sendEnded_innards s))

theorem answerSafe_innards_or_target (s : State) : innards s.answerSafe = innards s ∨ s.answerSafe.obj K.deviceModeTarget = mSafe := by
  unfold State.answerSafe State.enterSafe
  split
  · exact .inl rfl
  · extract_lets causes units placed undone shown stepped t
    have hshown : shown.obj K.deviceModeTarget = mSafe :=
      (obj_raise_ne _ _ _ _ (by unfold eventKey; decide)).trans (showSafe_target ..)
    have hstepped : stepped.obj K.deviceModeTarget = mSafe := by
      simp only [stepped]
      split
      · exact (obj_set_ne _ _ (by decide)).trans hshown
      · exact hshown
    have ht : innards t = innards s ∨ t.obj K.deviceModeTarget = mSafe := by
      simp only [t]
      repeat' split
      · exact .inl rfl
      · exact .inl rfl
      · exact .inr ((raiseWhistle_target ..).trans hstepped)
      · exact .inr hstepped
    exact ht

/-- A command that ends with another target than SAFE leaves these as its own effect left them. -/
theorem finish_innards {before s : State} (h : (before.finish s).obj K.deviceModeTarget ≠ mSafe) :
    innards (before.finish s) = innards s := by
  have htarget : (before.finish s).obj K.deviceModeTarget = s.showQueue.settleFirst.answerSafe.obj K.deviceModeTarget :=
    (target_congr (by simp only [State.finish])).trans
      (((same_routeAll _).trans ((same_notices _ before).trans (same_settleUnits _ before))).obj _ (by decide))
  have hsafe : innards s.showQueue.settleFirst.answerSafe = innards s.showQueue.settleFirst :=
    (answerSafe_innards_or_target _).resolve_right fun e => h (htarget.trans e)
  have hout : innards (before.finish s) = innards ((s.showQueue.settleFirst.answerSafe.settleUnits before).notices before).routeAll := by
    simp only [innards, State.finish]
  exact hout.trans <| (routeAll_innards _).trans <|
    (notices_innards ..).trans ((settleUnits_innards ..).trans (hsafe.trans (settleFirst_innards _)))

/-- Two effects with one outcome, which is not SAFE, leave these alike. -/
theorem innards_of_finish_eq {before s u : State} (hv : s.variant = before.variant) (hq : s.safeAsk = 0)
    (h : s.obj K.deviceModeTarget ≠ mSafe) (hsame : before.finish s = before.finish u) : innards s = innards u := by
  have htarget : (before.finish s).obj K.deviceModeTarget ≠ mSafe := by
    rwa [(same_finish before s hv hq).obj _ (by decide)]
  rw [← finish_innards htarget, hsame, finish_innards (hsame ▸ htarget)]

/-! ## The island -/

/-- A member of the only span, in state ISLAND, with one lane in role LEFT, that offers every version 0.x. -/
def islandMember : State := ((bootedInRun.poke (K.laneRole 0) 2).poke K.rallyState rIsland).poke K.versionsAccept 1

/-- The version 0.0 on the lane of that member. -/
abbrev versionToIsland : Instr := .rallyControlFragment 0 0 0 (.version 0)

/-- What the version leaves, before the account of how the command ends. -/
abbrev islandTold : State := xControl 0 0 (.version 0) (islandMember.begin_ 0)

theorem islandTold_disagrees : islandTold.rally.agreed = false := by decide +kernel

theorem islandTold_target : islandTold.obj K.deviceModeTarget ≠ mSafe := by decide +kernel

theorem islandTold_next : exec versionToIsland islandMember = .next (islandMember.finish islandTold) :=
  (exec_rallyControlFragment ..).trans (eventOf_next _ _ _ _ rfl rfl)

/-- Refutes O60: its clause on an announced version. A member in state ISLAND whose span has its trunk, or is the only one, takes the
version and then links anew, so that the version is no longer agreed. -/
theorem not_membersReceive : ¬ Obligations.MembersReceive := by
  unfold Obligations.MembersReceive
  rintro ⟨-, -, -, hcontrol, -⟩
  obtain ⟨-, -, -, -, -, hversion⟩ := hcontrol islandMember 0 0 0 rfl (by decide) (by decide +kernel) (by decide +kernel)
  obtain ⟨hoffered, -⟩ := hversion 0 (by decide +kernel) (.inr rfl)
  obtain ⟨u, hu, ⟨-, hagreed⟩, -⟩ := hoffered (by decide +kernel)
  have hsame : islandMember.finish islandTold = islandMember.finish u := Host.Outcome.next.inj (islandTold_next.symm.trans hu)
  have hkept : islandTold.rally.agreed = u.rally.agreed :=
    (Prod.mk.inj (innards_of_finish_eq (by decide +kernel) (by decide +kernel) islandTold_target hsame)).1
  exact Bool.noConfusion (islandTold_disagrees.symm.trans (hkept.trans hagreed))

end Sys2Proof.Proofs
end

section
/-! # The SAFE entry

What a SAFE entry shows, whatever its units do, and the commands that bring it about with a cause of their own. -/

set_option Elab.async false

namespace Sys2Proof.Proofs

open Sys2Proof Sys2Proof.Machine Sys2Proof.Laws

/-! ## What the entry shows -/

section
variable (s : State) (mask : Nat)

/-- What a SAFE entry with a mask of causes shows: SAFE as mode and target, nothing pending, no HOLD, the causes old and new. -/
structure EntersSafe (u : State) : Prop where
  mode : u.obj K.deviceMode = mSafe
  target : u.obj K.deviceModeTarget = mSafe
  pending : u.obj K.deviceModePending = 0
  hold : u.obj K.deviceHoldCause = 0
  cause : u.obj K.deviceSafeCause = (s.obj K.deviceSafeCause ||| mask) % 65536
  first : u.obj K.deviceSafeFirst = firstCause mask

variable {s mask}

/-- The objects that show an entry are all that it is about. -/
theorem EntersSafe.of_obj {u v : State} (h : EntersSafe s mask u)
    (hobj : ∀ k ∈ [K.deviceMode, K.deviceModeTarget, K.deviceModePending, K.deviceHoldCause, K.deviceSafeCause, K.deviceSafeFirst],
      v.obj k = u.obj k) : EntersSafe s mask v where
  mode := (hobj _ (by simp)).trans h.mode
  target := (hobj _ (by simp)).trans h.target
  pending := (hobj _ (by simp)).trans h.pending
  hold := (hobj _ (by simp)).trans h.hold
  cause := (hobj _ (by simp)).trans h.cause
  first := (hobj _ (by simp)).trans h.first

/-- The objects that show an entry. -/
abbrev safeKeys : List Nat :=
  [K.deviceMode, K.deviceModeTarget, K.deviceModePending, K.deviceHoldCause, K.deviceSafeCause, K.deviceSafeFirst]

theorem EntersSafe.set {u : State} (h : EntersSafe s mask u) {k v : Nat} (hk : ∀ i ∈ safeKeys, i ≠ k) : EntersSafe s mask (u.set k v) :=
  h.of_obj fun i hi => obj_set_ne u v (hk i hi)

theorem showSafe_enters (t : State) : EntersSafe s mask
    (t.showSafe ((s.obj K.deviceSafeCause ||| mask) % 65536) (firstCause mask)) := by
  unfold State.showSafe State.setStep State.showHold_ State.enterMode
  extract_lets u v
  constructor <;> rw [obj_count_ne _ _ _ (by decide)] <;>
    simp [v, u, obj_set, key, K.deviceMode, K.deviceModeTarget, K.deviceModePending, K.deviceHoldCause, K.deviceSafeCause,
      K.deviceSafeFirst, K.deviceModeStep, K.deviceHoldEncoder, K.deviceModeSince]

/-- A fragment that leaves, or waits, is no object. -/
theorem obj_offerFragment (t : State) (lane : Nat) (w : Waiting) (k : Nat) : (t.offerFragment lane w).obj k = t.obj k := by
  unfold State.offerFragment
  extract_lets x
  split
  · rfl
  · split
    · rfl
    · unfold State.launch
      extract_lets r v
      split <;> rfl

theorem obj_flood (t : State) (but type hop channel : Nat) (payload : List Byte) (k : Nat) :
    (t.flood but type hop channel payload).obj k = t.obj k :=
  foldl_keeps (fun u => u.obj k) _ _ _ fun _ _ => obj_offerFragment ..

theorem obj_floodControl (t : State) (but hop : Nat) (c : Control) (k : Nat) : (t.floodControl but hop c).obj k = t.obj k :=
  foldl_keeps (fun u => u.obj k) _ _ _ fun _ _ => obj_offerFragment ..

theorem obj_raiseWhistle (t : State) (cause : Nat) {k : Nat} (hk : k ≠ K.rallyWhistleSent) :
    (t.raiseWhistle cause).obj k = t.obj k := by
  unfold State.raiseWhistle
  split
  · rfl
  · extract_lets n u v
    exact (obj_flood ..).trans (obj_count_ne u _ _ hk)

/-- Outside BOOT, RESCUE and SAFE itself a cause enters SAFE. -/
theorem enterSafe_enters (hmode : s.mode ≠ mBoot ∧ s.mode ≠ mRescue ∧ s.mode ≠ mSafe) : EntersSafe s mask (s.enterSafe mask) := by
  have hbusy : ¬ ((decide (s.mode = mBoot) || decide (s.mode = mRescue) || decide (s.mode = mSafe)) = true) := by simp [hmode]
  unfold State.enterSafe
  extract_lets causes units placed undone shown stepped
  rw [if_neg hbusy]
  have hshown : EntersSafe s mask shown :=
    (showSafe_enters undone).of_obj fun k hk => obj_raise_ne _ _ _ _ (by revert k; unfold eventKey; decide)
  have hstepped : EntersSafe s mask stepped := by
    simp only [stepped]
    split
    · exact hshown.set (by decide)
    · exact hshown
  split
  · exact hstepped.of_obj fun k hk => obj_raiseWhistle _ _ (by revert k; decide)
  · exact hstepped

/-- In BOOT, RESCUE and SAFE a cause is latched. -/
theorem enterSafe_latches (hmode : s.mode = mBoot ∨ s.mode = mRescue ∨ s.mode = mSafe) :
    s.enterSafe mask = s.set K.deviceSafeCause ((s.obj K.deviceSafeCause ||| mask) % 65536) := by
  have hbusy : (decide (s.mode = mBoot) || decide (s.mode = mRescue) || decide (s.mode = mSafe)) = true := by simpa [or_assoc] using hmode
  unfold State.enterSafe
  extract_lets causes units placed undone shown stepped
  rw [if_pos hbusy]

end

/-! ## The rings freeze -/

/-- The boundary of a context without a loss that waits: one that is FLOWING or DEGRADED rests at PRIMED. -/
theorem primeCtx_state (s : State) {c : Nat} (h : (s.ctx c).lossDue = 0) : (s.primeCtx c).ctxState c =
    if s.ctxState c = cFlowing ∨ s.ctxState c = cDegraded then cPrimed else s.ctxState c := by
  have hlost : K.ctxState c ≠ K.ctxLost c := key_ne (by decide) (by decide) (.inr (by decide))
  have hset : (s.setCtxState c cPrimed).ctxState c = cPrimed := obj_set_self ..
  unfold State.primeCtx
  extract_lets x t u
  have hu : u.ctxState c = cPrimed := (obj_count_ne _ _ _ hlost).trans hset
  split
  next hflowing =>
    simp only [hflowing, true_or, if_true]
    exact hset
  next hflowing =>
    split
    next hdegraded =>
      simp only [hdegraded, or_true, if_true]
      exact hu
    next hdegraded => simp only [hflowing, hdegraded, or_self, if_false]

/-- With one context in the rings, between two lines, the freeze is its boundary. -/
theorem safeFreeze_eq {s : State} {c : Nat} {x : Ctx} (hmode : s.mode = mSafe) (hctxs : s.ctxs = [(c, x)]) (hcur : x.cur = none) :
    xSafeFreeze s = s.primeCtx c := by
  have hctx : s.ctx c = x := by simp [State.ctx, Sp.get, Sp.find, hctxs]
  have hringed : s.ringed = [c] := by simp [State.ringed, hctxs]
  have hkept : (if (s.curOf c).isSome then s.closeLineOf c else s) = s := by simp [State.curOf, hctx, hcur]
  simp only [xSafeFreeze, hmode, ne_eq, not_true_eq_false, if_false, hringed, List.foldl_cons, List.foldl_nil, hkept]

/-- Settles O19: the entry sets what it shows after its units have moved, and the freeze is a boundary of each context of the rings. -/
theorem safeIsEnteredAndFreezes : Obligations.SafeIsEnteredAndFreezes := by
  unfold Obligations.SafeIsEnteredAndFreezes
  refine ⟨fun s mask => ⟨fun hboot hrescue hsafe => ?_, ?_, fun hmode k hk => ?_⟩, fun s t c x hawake hmode hctxs _ hcur hloss => ?_⟩
  · have h := enterSafe_enters (mask := mask) ⟨hboot, hrescue, hsafe⟩
    exact ⟨h.mode, h.target, h.pending, h.hold, h.first⟩
  · by_cases hmode : s.mode = mBoot ∨ s.mode = mRescue ∨ s.mode = mSafe
    · rw [enterSafe_latches hmode, obj_set_self]
    · simp only [not_or] at hmode
      exact (enterSafe_enters hmode).cause
  · rw [enterSafe_latches hmode, obj_set_ne _ _ hk]
  · refine completes_event (exec_safeRingsFreeze t s) hawake.1 ?_
    have hbegun : ((s.begin_ t).ctx c).lossDue = 0 := by simp [State.ctx, Sp.get, Sp.find, hctxs, hloss]
    rw [safeFreeze_eq (s := s.begin_ t) hmode hctxs hcur]
    exact primeCtx_state (s.begin_ t) hbegun

/-! ## Commands that bring the entry about -/

/-- The objects that show an entry have one default in all variants. -/
theorem safeKeys_congr {u v : State} (h : u.dict = v.dict) {k : Nat} (hk : k ∈ safeKeys) : u.obj k = v.obj k := by
  have hdefault (w : Variant) : defaultOf w k = defaultOf .sv4x128 k := by
    revert k
    cases w <;> decide +kernel
  simp only [State.obj, Sp.get, h, hdefault]

/-- Whether a cause is owed is no object. -/
theorem obj_safeAsk (u : State) (n k : Nat) : ({ u with safeAsk := n } : State).obj k = u.obj k := rfl

/-- What an entry shows of mode, target, pending request and causes, the causes being those that an effect's state has latched. -/
structure InSafe (s : State) (mask : Nat) (u : State) : Prop where
  mode : u.mode = mSafe
  target : u.obj K.deviceModeTarget = mSafe
  pending : u.obj K.deviceModePending = 0
  cause : u.obj K.deviceSafeCause = (s.obj K.deviceSafeCause ||| mask) % 65536

theorem answerSafe_eq {s : State} (hask : s.safeAsk ≠ 0) (hheld : s.held = false) :
    s.answerSafe = { s.enterSafe s.safeAsk with safeAsk := 0 } := by
  simp only [State.answerSafe, hask, hheld, Bool.false_eq_true, if_false]

/-- A command whose effect leaves a cause owing in a device that runs ends in SAFE with the cause. -/
theorem finish_inSafe {before u : State} (hheld : u.held = false) (hmode : u.mode ≠ mBoot ∧ u.mode ≠ mRescue ∧ u.mode ≠ mSafe)
    (hask : u.safeAsk ≠ 0) : InSafe u u.safeAsk (before.finish u) := by
  have hsame : Same u.showQueue.settleFirst u := (same_settleFirst _).trans (same_showQueue u)
  have hfirst : u.showQueue.settleFirst.mode = u.mode := hsame.obj _ (by decide)
  have henter : EntersSafe u.showQueue.settleFirst u.safeAsk (u.showQueue.settleFirst.enterSafe u.safeAsk) :=
    enterSafe_enters (by rwa [hfirst])
  have hfalse : u.showQueue.settleFirst.held = false := by rw [State.held, hsame.boot]; exact hheld
  have hask' : u.showQueue.settleFirst.safeAsk ≠ 0 := by rwa [hsame.safeAsk]
  have hanswer := answerSafe_eq hask' hfalse
  rw [hsame.safeAsk] at hanswer
  have hobj {k : Nat} (hk : k ∈ safeKeys) (hsettled : settledKey k = false) :
      (before.finish u).obj k = (u.showQueue.settleFirst.enterSafe u.safeAsk).obj k := by
    have hclosed := (same_routeAll ((u.showQueue.settleFirst.answerSafe.settleUnits before).notices before)).trans
      ((same_notices _ before).trans (same_settleUnits _ before))
    calc (before.finish u).obj k
        = ((u.showQueue.settleFirst.answerSafe.settleUnits before).notices before).routeAll.obj k :=
          safeKeys_congr (by simp only [State.finish]) hk
      _ = u.showQueue.settleFirst.answerSafe.obj k := hclosed.obj k hsettled
      _ = (u.showQueue.settleFirst.enterSafe u.safeAsk).obj k := by rw [hanswer, obj_safeAsk]
  refine ⟨(hobj (by decide) (by decide)).trans henter.mode, (hobj (by decide) (by decide)).trans henter.target,
    (hobj (by decide) (by decide)).trans henter.pending, ((hobj (by decide) (by decide)).trans henter.cause).trans ?_⟩
  rw [hsame.obj _ (by decide)]

end Sys2Proof.Proofs
end

section
/-! # The causes of SAFE

Each command that brings the device into SAFE leaves its cause owing; a clear takes the causes whose condition is gone. -/

set_option Elab.async false

namespace Sys2Proof.Proofs

open Sys2Proof Sys2Proof.Machine Sys2Proof.Laws

/-! ## Commands that bring SAFE -/

section
variable {c : Instr} {s u v : State} {t : Nat} {ks : List Nat}

/-- A command whose effect keeps boot, mode and causes and leaves one cause owing ends in SAFE with that cause. -/
theorem inSafe_of (he : exec c s = .next (s.finish u)) (h : Awake s)
    (hmode : s.mode ≠ mBoot ∧ s.mode ≠ mRescue ∧ s.mode ≠ mSafe) (hboot : u.boot = s.boot) (hkept : u.mode = s.mode)
    (hcause : u.obj K.deviceSafeCause = s.obj K.deviceSafeCause) {bit : Nat} (hask : u.safeAsk = 2 ^ bit) :
    ∃ u, exec c s = .next u ∧ u.mode = mSafe ∧ u.obj K.deviceModeTarget = mSafe ∧ u.obj K.deviceModePending = 0 ∧
      u.obj K.deviceSafeCause = (s.obj K.deviceSafeCause ||| 2 ^ bit) % 65536 := by
  have hheld : u.held = false := by rw [State.held, hboot]; exact h.1
  have hsafe : InSafe u u.safeAsk (s.finish u) :=
    finish_inSafe hheld (by rwa [hkept]) (by rw [hask]; exact (Nat.two_pow_pos bit).ne')
  exact ⟨_, he, hsafe.mode, hsafe.target, hsafe.pending, by rw [hsafe.cause, hcause, hask]⟩

/-- The same for an event that leaves mode and causes alone and then asks for SAFE. -/
theorem inSafe_of_leaves {bit : Nat} (he : exec c s = .next (s.finish (v.askSafe bit))) (h : Awake s)
    (hmode : s.mode ≠ mBoot ∧ s.mode ≠ mRescue ∧ s.mode ≠ mSafe) (hboot : v.boot = s.boot) (hl : Leaves ks v s)
    (hks : ∀ k ∈ ks, k ≠ K.deviceMode ∧ k ≠ K.deviceSafeCause) :
    ∃ u, exec c s = .next u ∧ u.mode = mSafe ∧ u.obj K.deviceModeTarget = mSafe ∧ u.obj K.deviceModePending = 0 ∧
      u.obj K.deviceSafeCause = (s.obj K.deviceSafeCause ||| 2 ^ bit) % 65536 :=
  inSafe_of he h hmode hboot (hl.obj K.deviceMode (fun hm => (hks _ hm).1 rfl) (by decide))
    (hl.obj K.deviceSafeCause (fun hm => (hks _ hm).2 rfl) (by decide))
    (by rw [State.askSafe, hl.safeAsk, h.2, Nat.zero_or])

theorem leaves_riseIf (before after : State) (n d : Nat) (h : ∀ k ∈ evKeys n, k ∈ ks) : Leaves ks (State.riseIf before after n d) after :=
  leaves_ite (fun _ => leaves_raise _ _ _ h) fun _ => Leaves.refl ..

theorem riseIf_boot (before after : State) (n d : Nat) : (State.riseIf before after n d).boot = after.boot := by
  unfold State.riseIf
  split
  · exact raise_boot ..
  · rfl

/-- A rail out of its window as it shows, before SAFE is asked for. -/
def railShown (s : State) (r : Nat) (mv : Int) : State :=
  State.riseIf s ((if s.obj (K.deviceRailState r) = 0 then (s.setVolts r mv).count (K.deviceRailExcursions r) 32 1
    else s.setVolts r mv).set (K.deviceRailState r) (railState r mv)) 761 r

theorem railExcursion_eq {r : Nat} {mv : Int} (h : railState r mv ≠ 0) (s : State) :
    xRailExcursion r mv s = (railShown s r mv).askSafe 4 := if_neg h

/-- The objects that show a rail and the supplies' source. -/
abbrev railKeys (r : Nat) : List Nat := K.deviceRailVolts r :: K.deviceRailState r :: K.deviceRailExcursions r :: evKeys 761

theorem leaves_railShown (s : State) (r : Nat) (mv : Int) : Leaves (railKeys r) (railShown s r mv) s := by
  refine (leaves_riseIf _ _ _ _ fun k hk => by simp [railKeys, hk]).trans ((leaves_set _ _ (by simp)).trans ?_)
  exact leaves_ite (fun _ => (leaves_count _ _ _ (by simp)).trans (leaves_set _ _ (by simp))) fun _ => leaves_set _ _ (by simp)

theorem railShown_boot (s : State) (r : Nat) (mv : Int) : (railShown s r mv).boot = s.boot := by
  refine (riseIf_boot ..).trans ((set_boot ..).trans ?_)
  split
  · exact (count_boot ..).trans (set_boot ..)
  · exact set_boot ..

theorem railKeys_apart {r : Nat} : ∀ k ∈ railKeys r, k ≠ K.deviceMode ∧ k ≠ K.deviceSafeCause := by
  simp [railKeys, evKeys, K.deviceRailVolts, K.deviceRailState, K.deviceRailExcursions, K.deviceMode, K.deviceSafeCause,
    K.eventStatus, K.eventCount, K.eventTime, K.eventDetail, key]
  omega

/-- A bank's supply as it shows after a departure, before SAFE is asked for. -/
theorem vioDeparture_eq {b mv : Nat} (h : nominalOf mv = 0) (s : State) :
    xVioCheck b mv s = (State.riseIf s (vioShown s b mv) 761 (10 + b)).askSafe 4 := if_pos h

theorem touchPats_boot (s before : State) : (s.touchPats before).boot = s.boot := by
  refine foldl_keeps State.boot _ _ _ fun t u => ?_
  split <;> rfl

theorem vioKeys_apart {b : Nat} : ∀ k ∈ evKeys 761 ++ [K.gpioBankVio b, K.gpioBankVioFault b], k ≠ K.deviceMode ∧ k ≠ K.deviceSafeCause := by
  simp [evKeys, K.gpioBankVio, K.gpioBankVioFault, K.deviceMode, K.deviceSafeCause, K.eventStatus, K.eventCount, K.eventTime,
    K.eventDetail, key]
  omega

end

/-! ## The clear of causes -/

/-- Bits that a mask takes away. -/
theorem testBit_sub_and (a b i : Nat) : (a - (a &&& b)).testBit i = (a.testBit i && !b.testBit i) := by
  have hle (x y : Nat) : x &&& y ≤ x := Nat.and_le_left
  have hodd (x y : Nat) : (x &&& y) % 2 = 1 ↔ x % 2 = 1 ∧ y % 2 = 1 := Nat.and_mod_two_eq_one
  induction i generalizing a b with
  | zero =>
    have h := hodd a b
    have hab := hle a b
    rw [Bool.eq_iff_iff]
    simp only [Nat.testBit_zero, decide_eq_true_eq, Bool.and_eq_true, Bool.not_eq_true', decide_eq_false_iff_not]
    omega
  | succ i ih =>
    have hhalf : (a - (a &&& b)) / 2 = a / 2 - (a / 2 &&& b / 2) := by
      have h := hodd a b
      have hab := hle a b
      rw [← Nat.and_div_two]
      omega
    simp only [Nat.testBit_succ, hhalf, ih]

/-- The causes that a clear leaves: those out of the mask, and those whose condition stands. -/
def causesLeft (causes mask standing : Nat) : Nat := causes - (causes &&& mask &&& (0xFFFF - standing % 65536))

theorem testBit_causesLeft (causes mask standing : Nat) {i : Nat} (h : i < 16) :
    (causesLeft causes mask standing).testBit i = (causes.testBit i && (!mask.testBit i || standing.testBit i)) := by
  have hgone : (0xFFFF - standing % 65536).testBit i = !standing.testBit i := by
    have hsub : 0xFFFF - standing % 65536 = 2 ^ 16 - (standing % 2 ^ 16 + 1) := by omega
    rw [hsub, Nat.testBit_two_pow_sub_succ (Nat.mod_lt _ (by decide)), Nat.testBit_mod_two_pow]
    simp [h]
  rw [causesLeft, Nat.land_assoc, testBit_sub_and, Nat.testBit_and, hgone, Bool.not_and, Bool.not_not]

theorem put_safeClear {t : State} {p : Put} (hkey : p.key_ = K.deviceSafeClear) (hattr : p.l.row.attr = 8) :
    putDevice t p = t.set K.deviceSafeCause (causesLeft (t.obj K.deviceSafeCause) p.v (t.standingCauses true)) := by
  simp only [putDevice, hkey, putValue_action t hattr]
  rfl

theorem safeClear_writes {s : State} {q : Req} {l : Loc} (hsafe : s.safeAsk = 0) (h : Accepts s (onObject q K.deviceSafeClear) l) :
    Writes (.safeClear q) s (onObject q K.deviceSafeClear) l
      [(K.deviceSafeCause, causesLeft (s.obj K.deviceSafeCause) (ofLE q.body)
        ((s.access (onObject q K.deviceSafeClear)).standingCauses true))] (fun u => u.trans = s.trans) := by
  obtain ⟨-, hattr, -, -⟩ := accepted_row h (by decide) place_deviceSafeClear
  have hput := put_safeClear (t := s.access (onObject q K.deviceSafeClear)) (putAt_key s q K.deviceSafeClear l) hattr
  rw [putAt_v, obj_access h (by decide)] at hput
  refine writes_of_put (exec_safeClear q s) hsafe h (written_device (by decide)) hput (leaves_set _ _ (by simp))
    (holds_cons (obj_set_self ..) (holds_nil _)) ?_
  simp

/-- The request for SAFE asks for it. -/
theorem put_requestSafe {t : State} {p : Put} (hkey : p.key_ = K.deviceModeRequest) (hattr : p.l.row.attr = 0) (hv : p.v = mSafe) :
    putDevice t p = (t.poke K.deviceModeRequest mSafe).askSafe 0 := by
  simp only [putDevice, putValue_stored t hattr, hkey, hv]
  rfl

theorem requestSafe_inSafe {s : State} {q : Req} {l : Loc} (hawake : Awake s)
    (hmode : s.mode ≠ mBoot ∧ s.mode ≠ mRescue ∧ s.mode ≠ mSafe)
    (h : Accepts s (onObject (withBody q (toLE 1 mSafe)) K.deviceModeRequest) l) :
    ∃ u, exec (.modeRequestSafe q) s = .next u ∧ u.mode = mSafe ∧ u.obj K.deviceModeTarget = mSafe ∧ u.obj K.deviceModePending = 0 ∧
      u.obj K.deviceSafeCause = (s.obj K.deviceSafeCause ||| 2 ^ 0) % 65536 := by
  let w := withBody q (toLE 1 mSafe)
  obtain ⟨-, hattr, -, -⟩ := accepted_row h (by decide) place_deviceModeRequest
  have hput := put_requestSafe (t := s.access (onObject w K.deviceModeRequest)) (putAt_key s w K.deviceModeRequest l) hattr rfl
  have hwritten := written_device (s := s) (q := w) (k := K.deviceModeRequest) (l := l) (by decide)
  rw [putBy, hput] at hwritten
  have hnext := (exec_modeRequestSafe q s).trans (write_done s _ l h)
  rw [hwritten] at hnext
  have hobj {k : Nat} (hk : k ≠ K.deviceModeRequest) (ha : accessKey k = false) :
      ((s.access (onObject w K.deviceModeRequest)).poke K.deviceModeRequest mSafe).obj k = s.obj k :=
    (obj_poke_ne _ _ hk).trans (obj_access h ha)
  refine inSafe_of hnext hawake hmode ?_ ?_ ?_ ?_
  · simp
  · rw [State.mode, answered_obj, obj_record]
    exact hobj (by decide) (by decide)
  · rw [answered_obj, obj_record]
    exact hobj (by decide) (by decide)
  · simp [State.askSafe, hawake.2]

/-- Settles O20: the effect of each command leaves one cause owing, and the account of how a command ends enters SAFE with it; a clear
takes the causes of its mask that no longer stand. -/
theorem causesLeadToSafeAndClear : Obligations.CausesLeadToSafeAndClear := by
  unfold Obligations.CausesLeadToSafeAndClear
  refine ⟨fun s t c mask hawake hboot hrescue hsafe hc => ?_, fun s q l hsafe hcause => ?_⟩
  · have hmode : s.mode ≠ mBoot ∧ s.mode ≠ mRescue ∧ s.mode ≠ mSafe := ⟨hboot, hrescue, hsafe⟩
    have hbegun {ks : List Nat} {v : State} (h : Leaves ks v (s.begin_ t)) : Leaves ks v s := h.trans (leaves_begin s t)
    rcases hc with ⟨q, l, rfl, rfl, h⟩ | ⟨rfl, rfl⟩ | ⟨r, mv, hr, hout, rfl, rfl⟩ | ⟨b, mv, hb, hv, rfl, rfl⟩ | ⟨rfl, rfl⟩ | ⟨hlost, rfl, rfl⟩
    · exact requestSafe_inSafe hawake hmode h
    · exact inSafe_of_leaves (bit := 1) (exec_safeNLow t s) hawake hmode rfl
        (hbegun (ks := []) (leaves_of_dict rfl rfl rfl rfl rfl rfl)) (by simp)
    · have hnext := (exec_railExcursion t r mv s).trans (runOf_next _ _ _ _ hr)
      rw [railExcursion_eq hout] at hnext
      exact inSafe_of_leaves (bit := 4) hnext hawake hmode (railShown_boot ..) (hbegun (leaves_railShown ..)) railKeys_apart
    · have hnext := (exec_bankVioCheck t b mv s).trans (eventOf_next _ _ _ _ (by simpa using hb) hawake.1)
      rw [vioDeparture_eq hv] at hnext
      refine inSafe_of_leaves (bit := 4) hnext hawake hmode ((riseIf_boot ..).trans (touchPats_boot ..)) (hbegun ?_) (vioKeys_apart (b := b))
      exact (leaves_riseIf _ _ _ _ fun k hk => List.mem_append_left _ hk).trans
        ((leaves_vioShown ..).mono fun k hk => List.mem_append_right _ hk)
    · exact inSafe_of_leaves (bit := 5) ((exec_watchdogExpiry t s).trans (event_next _ _ _ hawake.1)) hawake hmode rfl
        (hbegun (ks := []) (leaves_of_dict rfl rfl rfl rfl rfl rfl)) (by simp)
    · have hnext := (exec_holdoverLimitExpiry t s).trans (event_next _ _ _ hawake.1)
      have heffect : xHoldoverLimit (s.begin_ t) = (s.begin_ t).askSafe 7 := if_pos hlost
      rw [heffect] at hnext
      exact inSafe_of_leaves (bit := 7) hnext hawake hmode rfl (hbegun (ks := []) (Leaves.refl ..)) (by simp)
  · intro w h
    refine ⟨_, fun i hi => testBit_causesLeft _ _ _ hi, ?_, safeClear_writes hsafe h⟩
    exact lt_of_le_of_lt (Nat.sub_le ..) hcause

end Sys2Proof.Proofs
end

section
/-! # Mode requests (R76 to R78)

What an accepted request does by the transition that it meets: in drain, shutdown and wake it waits, in PREPARE it takes another target
or stops the step, at rest it is carried out. -/

set_option Elab.async false

namespace Sys2Proof.Proofs

open Sys2Proof Sys2Proof.Machine Sys2Proof.Laws

/-! ## The transition in progress -/

section
variable (u : State) (x : Transition)

/-- A state with another transition in progress. -/
def withTrans : State := { u with trans := x }

@[simp] theorem withTrans_trans : (withTrans u x).trans = x := rfl

@[simp] theorem obj_withTrans (k : Nat) : (withTrans u x).obj k = u.obj k := rfl

theorem leaves_withTrans {ks : List Nat} : Leaves ks (withTrans u x) u := leaves_of_dict rfl rfl rfl rfl rfl rfl

end

/-! ## A request in a state -/

section
variable {b : State} {m : Nat}

/-- A request for a mode other than SAFE, or for LOAD. -/
theorem xRequest_mode (h0 : m ≠ 0) (hsafe : m ≠ mSafe) : xRequest m b =
    if b.waits then b.set K.deviceModePending m else if b.trans.motion == .prepare then b.retarget m else b.carryOut m := by
  rw [xRequest, if_neg h0, if_neg hsafe]

theorem waits_iff : b.waits = true ↔ b.trans.motion = .drain ∨ b.trans.motion = .shutdown ∨ b.trans.motion = .wake := by
  simp [State.waits, or_assoc]

/-- A cancelled request. -/
abbrev cancelled (b : State) : State := withTrans (b.set K.deviceModePending 0)
  (if b.trans.motion == .prepare then { b.trans with abortTo := 0xFF } else b.trans)

theorem xRequest_waiting (h0 : m ≠ 0) (hsafe : m ≠ mSafe) (h : b.waits = true) : xRequest m b = b.set K.deviceModePending m := by
  rw [xRequest_mode h0 hsafe, if_pos h]

theorem xRequest_preparing (h0 : m ≠ 0) (hsafe : m ≠ mSafe) (h : b.trans.motion = .prepare) : xRequest m b = b.retarget m := by
  have hwaits : b.waits = false := by simp [State.waits, h]
  rw [xRequest_mode h0 hsafe, hwaits, h]
  rfl

theorem xRequest_resting (h0 : m ≠ 0) (hsafe : m ≠ mSafe) (h : b.trans.motion = .none) : xRequest m b = b.carryOut m := by
  have hwaits : b.waits = false := by simp [State.waits, h]
  rw [xRequest_mode h0 hsafe, hwaits, h]
  rfl

/-- Another target replaces the one in hand. -/
abbrev retargeted (b : State) (m : Nat) : State :=
  withTrans ((b.set K.deviceModeTarget m).set K.deviceModePending 0) { b.trans with abortTo := 0xFF }

theorem retarget_target (hload : m ≠ mLoad) (hstandby : m ≠ mStandby) : b.retarget m = retargeted b m := by
  have h : ¬ (decide (m = mLoad) || decide (m = mStandby)) = true := by simp [hload, hstandby]
  exact if_neg h

/-- LOAD or STANDBY waits for the end of the step. -/
abbrev stopping (b : State) (m : Nat) : State := withTrans (b.set K.deviceModePending m) { b.trans with abortTo := m }

theorem retarget_stop (hm : m = mLoad ∨ m = mStandby) (hstep : b.obj K.deviceModeStep ≠ 6) (hlink : b.trans.linkWait = false) :
    b.retarget m = stopping b m := by
  have h : (decide (m = mLoad) || decide (m = mStandby)) = true := by simpa using hm
  have hgoes : ¬ (decide (b.obj K.deviceModeStep = 6) || b.trans.linkWait) = true := by simp [hstep, hlink]
  have hstops : b.retarget m = if decide (b.obj K.deviceModeStep = 6) || b.trans.linkWait then (stopping b m).abortPrepare
    else stopping b m := if_pos h
  rw [hstops, if_neg hgoes]

theorem carryOut_idle (hmode : m ≠ b.mode) (hhalted : b.halted = none) : b.carryOut m =
    if m = mStandby then b.beginShutdown
    else if b.mode = mStandby then b.beginWake m
    else if m = mLoad then (if b.mode = mRun || b.mode = mHold then b.beginDrain else b.toLoad)
    else if b.mode = mLoad || b.mode = mSafe then b.beginPrepare b.mode m
    else if b.mode = mPrepare then (b.set K.deviceModeTarget m).endPrepare
    else if b.mode = mRun then b.beginHold 1 0xFF
    else b.enterRun := by
  have hhere : b.endHalted ⟨true, []⟩ = b := by simp only [State.endHalted, hhalted]
  simp only [State.carryOut, hmode, if_false, hhere]

/-- HOLD waits for the generators in use. -/
abbrev holding (b : State) : State := withTrans (b.set K.deviceModeTarget mHold)
  { Transition.idle with motion := .toHold, holdCause := 1, holdEncoder := 0xFF, since := b.clock }

theorem carryOut_hold (hmode : b.mode = mRun) (hhalted : b.halted = none) (hflowing : b.flowingPitches ≠ []) :
    b.carryOut mHold = holding b := by
  have hempty : b.flowingPitches.isEmpty = false := by simpa [List.isEmpty_eq_false_iff] using hflowing
  rw [carryOut_idle (by rw [hmode]; decide) hhalted, hmode]
  have hbegun : b.beginHold 1 0xFF = holding b := by
    rw [State.beginHold, hempty]
    rfl
  exact hbegun

/-- PREPARE begins with its step 1, in a state that has no formation to rejoin. -/
def prepareFrom (s : State) (origin target : Nat) : State :=
  let s := ((s.enterMode mPrepare).set K.deviceModeTarget target).setStep 1
  withTrans (s.showHold_ 0 0xFF) { Transition.idle with motion := .prepare, origin := origin, since := s.clock }

theorem beginPrepare_eq (s : State) (origin target : Nat) : s.beginPrepare origin target =
    prepareFrom (if s.rallyState = rExcluded && !s.upLanes.isEmpty then
      let s := (s.setRally rLinking).updateRoles
      s.floodControl 0xFF 0 (.join s.selfMember s.ownOffer)
    else s) origin target := rfl

theorem beginPrepare_plain (h : b.rallyState ≠ rExcluded) (origin : Nat) : b.beginPrepare origin m = prepareFrom b origin m := by
  rw [beginPrepare_eq]
  simp only [h, decide_false, Bool.false_and, Bool.false_eq_true, if_false]

theorem carryOut_prepare (hm : m = mPrepare ∨ m = mRun ∨ m = mHold) (hmode : b.mode = mLoad) (hhalted : b.halted = none)
    (hrally : b.rallyState ≠ rExcluded) : b.carryOut m = prepareFrom b mLoad m := by
  have hne : m ≠ mLoad ∧ m ≠ mStandby := by
    rcases hm with rfl | rfl | rfl <;> decide
  rw [carryOut_idle (by rw [hmode]; exact hne.1) hhalted, hmode, if_neg hne.2, if_neg (by decide), if_neg hne.1, if_pos (by decide),
    beginPrepare_plain hrally]

/-- The objects that the begin of PREPARE writes. -/
abbrev prepareKeys : List Nat :=
  [K.deviceMode, K.deviceModeSince, K.deviceModeTarget, K.deviceModeStep, K.deviceHoldCause, K.deviceHoldEncoder]

theorem leaves_prepareFrom (s : State) (origin target : Nat) : Leaves prepareKeys (prepareFrom s origin target) s := by
  refine (leaves_withTrans ..).trans ((leaves_set _ _ ?_).trans ((leaves_set _ _ ?_).trans ((leaves_set _ _ ?_).trans
    ((leaves_set _ _ ?_).trans ((leaves_set _ _ ?_).trans (leaves_set _ _ ?_)))))) <;> simp

theorem prepareFrom_trans (s : State) (origin target : Nat) : (prepareFrom s origin target).trans =
    { Transition.idle with motion := .prepare, origin := origin, since := s.clock } := by
  simp only [prepareFrom, withTrans_trans, State.setStep, State.enterMode, set_clock]

theorem poke_now (s : State) (k v : Nat) : (s.poke k v).now = s.now := rfl

theorem prepareFrom_holds (s : State) (origin target : Nat) : Holds (prepareFrom s origin target)
    [(K.deviceMode, mPrepare), (K.deviceModeSince, s.now), (K.deviceModeTarget, target), (K.deviceModeStep, 1), (K.deviceHoldCause, 0),
      (K.deviceHoldEncoder, 0xFF)] := by
  simp only [Holds, List.forall_mem_cons, prepareFrom, obj_withTrans, State.showHold_, State.setStep, State.enterMode]
  simp [obj_set, key, K.deviceMode, K.deviceModeTarget, K.deviceHoldCause, K.deviceModeStep, K.deviceHoldEncoder, K.deviceModeSince]

end

/-! ## The write that brings it -/

/-- The generators in use are those of contexts and of the graph. -/
theorem flowingPitches_poke (s : State) {k : Nat} (v : Nat) (hk : k < 0x140000) : (s.poke k v).flowingPitches = s.flowingPitches := by
  have hnode (c : Nat) : (s.poke k v).node (K.graphNodePitch c) = s.node (K.graphNodePitch c) := by
    simp only [State.node, State.force, poke_inForce]
    rw [obj_poke_ne _ _ (by simp only [K.graphNodePitch, key]; omega)]
  have hctx (c : Nat) : (s.poke k v).ctxState c = s.ctxState c :=
    obj_poke_ne _ _ (by simp only [K.ctxState, key]; omega)
  simp only [State.flowingPitches, State.ringed, poke_ctxs, hnode, hctx]

section
variable {s : State} {q : Req} {l : Loc} {m : Nat} {u : State} {vs : List (Nat × Nat)} {own : State → Prop}

/-- The state in which an accepted request meets the transition. -/
abbrev metBy (s : State) (q : Req) (m : Nat) : State :=
  (s.access (onObject (withBody q (toLE 1 m)) K.deviceModeRequest)).poke K.deviceModeRequest m

theorem met_obj {k : Nat} (h : Accepts s (onObject (withBody q (toLE 1 m)) K.deviceModeRequest) l) (hk : k ≠ K.deviceModeRequest)
    (ha : accessKey k = false) : (metBy s q m).obj k = s.obj k := (obj_poke_ne _ _ hk).trans (obj_access h ha)

/-- The commands that request a mode, and the mode of each. -/
def Requests (c : Instr) (q : Req) (m : Nat) : Prop :=
  (m = mStandby ∧ c = .modeRequestStandby q) ∨ (m = mPrepare ∧ c = .modeRequestPrepare q) ∨ (m = mRun ∧ c = .modeRequestRun q) ∨
    (m = mHold ∧ c = .modeRequestHold q) ∨ (m = 0 ∧ c = .modeRequestCancel q)

theorem exec_requests {c : Instr} (h : Requests c q m) :
    exec c s = s.asks (onObject (withBody q (toLE 1 m)) K.deviceModeRequest) .write ∧ ofLE (toLE 1 m) = m := by
  rcases h with ⟨rfl, rfl⟩ | ⟨rfl, rfl⟩ | ⟨rfl, rfl⟩ | ⟨rfl, rfl⟩ | ⟨rfl, rfl⟩ <;> exact ⟨rfl, rfl⟩

/-- A request whose effect in the state that it meets is known. -/
theorem request_writes {c : Instr} (hc : Requests c q m) (hsafe : s.safeAsk = 0)
    (h : Accepts s (onObject (withBody q (toLE 1 m)) K.deviceModeRequest) l) (hx : xRequest m (metBy s q m) = u)
    (hl : Leaves (K.deviceModeRequest :: vs.map (·.1)) u (metBy s q m)) (hrequest : u.obj K.deviceModeRequest = m) (hv : Holds u vs)
    (hown : own (answeredWrite u s (withBody q (toLE 1 m)) K.deviceModeRequest l)) :
    Writes c s (onObject (withBody q (toLE 1 m)) K.deviceModeRequest) l ((K.deviceModeRequest, m) :: vs) own := by
  obtain ⟨he, hbody⟩ := exec_requests (s := s) hc
  obtain ⟨-, hattr, -, -⟩ := accepted_row h (by decide) place_deviceModeRequest
  have hput : putDevice (s.access (onObject (withBody q (toLE 1 m)) K.deviceModeRequest))
      (putAt s (withBody q (toLE 1 m)) K.deviceModeRequest l) = u := by
    have hvalue : ofLE (withBody q (toLE 1 m)).body = m := hbody
    have hattr' : (putAt s (withBody q (toLE 1 m)) K.deviceModeRequest l).l.row.attr = 0 := hattr
    simp only [putDevice, putAt_key, putAt_v, putValue_stored _ hattr', hvalue, if_true]
    exact hx
  exact writes_of_put he hsafe h (written_device (by decide)) hput (hl.trans (leaves_poke _ _ (by simp)))
    (holds_cons hrequest hv) hown

/-- A request that meets a drain, a shutdown or a wake. -/
theorem request_waits {c : Instr} (hc : Requests c q m) (hsafe : s.safeAsk = 0)
    (h : Accepts s (onObject (withBody q (toLE 1 m)) K.deviceModeRequest) l) (h0 : m ≠ 0)
    (hmotion : s.trans.motion = .drain ∨ s.trans.motion = .shutdown ∨ s.trans.motion = .wake) :
    Writes c s (onObject (withBody q (toLE 1 m)) K.deviceModeRequest) l [(K.deviceModeRequest, m), (K.deviceModePending, m)]
      (fun u => u.trans = s.trans) := by
  have hm : m ≠ mSafe := by
    rcases hc with ⟨rfl, -⟩ | ⟨rfl, -⟩ | ⟨rfl, -⟩ | ⟨rfl, -⟩ | ⟨rfl, -⟩ <;> decide
  have hwaits : (metBy s q m).waits = true := waits_iff.2 (by simpa using hmotion)
  refine request_writes hc hsafe h (xRequest_waiting h0 hm hwaits) (leaves_set _ _ (by simp)) ?_
    (holds_cons (obj_set_self ..) (holds_nil _)) (by simp)
  exact (obj_set_ne _ _ (by decide)).trans (obj_poke_self ..)

/-- A request for another target of PREPARE. -/
theorem request_retargets {c : Instr} (hc : Requests c q m) (hsafe : s.safeAsk = 0)
    (h : Accepts s (onObject (withBody q (toLE 1 m)) K.deviceModeRequest) l) (hmotion : s.trans.motion = .prepare)
    (hm : m = mPrepare ∨ m = mRun ∨ m = mHold) :
    Writes c s (onObject (withBody q (toLE 1 m)) K.deviceModeRequest) l
      [(K.deviceModeRequest, m), (K.deviceModeTarget, m), (K.deviceModePending, 0)]
      (fun u => u.trans = { s.trans with abortTo := 0xFF }) := by
  have hne : m ≠ 0 ∧ m ≠ mSafe ∧ m ≠ mLoad ∧ m ≠ mStandby := by rcases hm with rfl | rfl | rfl <;> decide
  have hx : xRequest m (metBy s q m) = retargeted (metBy s q m) m :=
    (xRequest_preparing hne.1 hne.2.1 (by simpa using hmotion)).trans (retarget_target hne.2.2.1 hne.2.2.2)
  refine request_writes hc hsafe h hx ((leaves_withTrans ..).trans ((leaves_set _ _ (by simp)).trans (leaves_set _ _ (by simp)))) ?_
    (holds_cons ?_ (holds_cons ?_ (holds_nil _))) (by simp)
  · rw [obj_withTrans, obj_set_ne _ _ (by decide), obj_set_ne _ _ (by decide), obj_poke_self]
  · dsimp only
    rw [obj_withTrans, obj_set_ne _ _ (by decide), obj_set_self]
  · rw [obj_withTrans, obj_set_self]

/-- A request for STANDBY during PREPARE. -/
theorem request_stops {c : Instr} (hc : Requests c q m) (hsafe : s.safeAsk = 0)
    (h : Accepts s (onObject (withBody q (toLE 1 m)) K.deviceModeRequest) l) (hmotion : s.trans.motion = .prepare) (hm : m = mStandby)
    (hstep : s.obj K.deviceModeStep ≠ 6) (hlink : s.trans.linkWait = false) :
    Writes c s (onObject (withBody q (toLE 1 m)) K.deviceModeRequest) l [(K.deviceModeRequest, m), (K.deviceModePending, m)]
      (fun u => u.trans = { s.trans with abortTo := m }) := by
  have hne : m ≠ 0 ∧ m ≠ mSafe := by subst hm; decide
  have hx : xRequest m (metBy s q m) = stopping (metBy s q m) m :=
    (xRequest_preparing hne.1 hne.2 (by simpa using hmotion)).trans
      (retarget_stop (.inr hm) (by rwa [met_obj h (by decide) (by decide)]) (by simpa using hlink))
  refine request_writes hc hsafe h hx ((leaves_withTrans ..).trans (leaves_set _ _ (by simp))) ?_ (holds_cons ?_ (holds_nil _)) (by simp)
  · rw [obj_withTrans, obj_set_ne _ _ (by decide), obj_poke_self]
  · rw [obj_withTrans, obj_set_self]

/-- A request for HOLD in RUN with generators in use. -/
theorem request_holds {c : Instr} (hc : Requests c q mHold) (hsafe : s.safeAsk = 0)
    (h : Accepts s (onObject (withBody q (toLE 1 mHold)) K.deviceModeRequest) l) (hmotion : s.trans.motion = .none) (hmode : s.mode = mRun)
    (hhalted : s.halted = none)
    (hflowing : (s.access (onObject (withBody q (toLE 1 mHold)) K.deviceModeRequest)).flowingPitches ≠ []) :
    Writes c s (onObject (withBody q (toLE 1 mHold)) K.deviceModeRequest) l [(K.deviceModeRequest, mHold), (K.deviceModeTarget, mHold)]
      (fun u => u.trans.motion = .toHold ∧ u.trans.holdCause = 1 ∧ u.trans.holdEncoder = 0xFF ∧
        u.trans.since = (s.access (onObject (withBody q (toLE 1 mHold)) K.deviceModeRequest)).clock) := by
  have hx : xRequest mHold (metBy s q mHold) = holding (metBy s q mHold) :=
    (xRequest_resting (by decide) (by decide) (by simpa using hmotion)).trans
      (carryOut_hold ((met_obj h (by decide) (by decide)).trans hmode) (by simpa using hhalted)
        (by rwa [metBy, flowingPitches_poke _ _ (by decide)]))
  refine request_writes hc hsafe h hx ((leaves_withTrans ..).trans (leaves_set _ _ (by simp))) ?_ (holds_cons ?_ (holds_nil _)) (by simp)
  · rw [obj_withTrans, obj_set_ne _ _ (by decide), obj_poke_self]
  · rw [obj_withTrans, obj_set_self]

/-- A cancelled request. -/
theorem request_cancels {c : Instr} (hc : Requests c q 0) (hsafe : s.safeAsk = 0)
    (h : Accepts s (onObject (withBody q (toLE 1 0)) K.deviceModeRequest) l) :
    Writes c s (onObject (withBody q (toLE 1 0)) K.deviceModeRequest) l [(K.deviceModeRequest, 0), (K.deviceModePending, 0)]
      (fun u => u.trans = if s.trans.motion = .prepare then { s.trans with abortTo := 0xFF } else s.trans) := by
  have hx : xRequest 0 (metBy s q 0) = cancelled (metBy s q 0) := rfl
  refine request_writes hc hsafe h hx ((leaves_withTrans ..).trans (leaves_set _ _ (by simp))) ?_ (holds_cons ?_ (holds_nil _)) ?_
  · rw [obj_withTrans, obj_set_ne _ _ (by decide), obj_poke_self]
  · rw [obj_withTrans, obj_set_self]
  · simp

/-- A request in LOAD for what begins with PREPARE. -/
theorem request_prepares {c : Instr} (hc : Requests c q m) (hsafe : s.safeAsk = 0)
    (h : Accepts s (onObject (withBody q (toLE 1 m)) K.deviceModeRequest) l) (hmotion : s.trans.motion = .none) (hmode : s.mode = mLoad)
    (hhalted : s.halted = none) (hrally : s.rallyState ≠ rExcluded) (hm : m = mPrepare ∨ m = mRun ∨ m = mHold) :
    Writes c s (onObject (withBody q (toLE 1 m)) K.deviceModeRequest) l
      [(K.deviceModeRequest, m), (K.deviceMode, mPrepare),
        (K.deviceModeSince, (s.access (onObject (withBody q (toLE 1 m)) K.deviceModeRequest)).now), (K.deviceModeTarget, m),
        (K.deviceModeStep, 1), (K.deviceHoldCause, 0), (K.deviceHoldEncoder, 0xFF)]
      (fun u => u.trans = { Transition.idle with motion := .prepare, origin := mLoad, since :=
        (s.access (onObject (withBody q (toLE 1 m)) K.deviceModeRequest)).clock }) := by
  have hne : m ≠ 0 ∧ m ≠ mSafe := by rcases hm with rfl | rfl | rfl <;> decide
  have hx : xRequest m (metBy s q m) = prepareFrom (metBy s q m) mLoad m :=
    (xRequest_resting hne.1 hne.2 (by simpa using hmotion)).trans
      (carryOut_prepare hm ((met_obj h (by decide) (by decide)).trans hmode) (by simpa using hhalted)
        (by rwa [State.rallyState, met_obj h (by decide) (by decide)]))
  have hl := leaves_prepareFrom (metBy s q m) mLoad m
  have hv := prepareFrom_holds (metBy s q m) mLoad m
  rw [metBy, poke_now] at hv
  refine request_writes hc hsafe h hx (hl.mono fun k hk => List.mem_cons_of_mem _ hk) ?_ hv ?_
  · exact (hl.obj _ (by decide) (by decide)).trans (obj_poke_self ..)
  · rw [answeredWrite, answered_trans, record_trans, prepareFrom_trans, metBy, poke_clock]

end

/-! ## The request for LOAD -/

section
variable {s : State} {q : Req} {l : Loc}

theorem load_writes {u : State} {vs : List (Nat × Nat)} {own : State → Prop} (hsafe : s.safeAsk = 0)
    (h : Accepts s (onObject (withBody q (toLE 1 1)) K.deviceModeLoad) l)
    (hx : xRequest mLoad (s.access (onObject (withBody q (toLE 1 1)) K.deviceModeLoad)) = u)
    (hl : Leaves (vs.map (·.1)) u (s.access (onObject (withBody q (toLE 1 1)) K.deviceModeLoad))) (hv : Holds u vs)
    (hown : own (answeredWrite u s (withBody q (toLE 1 1)) K.deviceModeLoad l)) :
    Writes (.modeLoad q) s (onObject (withBody q (toLE 1 1)) K.deviceModeLoad) l vs own := by
  obtain ⟨-, hattr, -, -⟩ := accepted_row h (by decide) place_deviceModeLoad
  have hput : putDevice (s.access (onObject (withBody q (toLE 1 1)) K.deviceModeLoad))
      (putAt s (withBody q (toLE 1 1)) K.deviceModeLoad l) = u := by
    have hattr' : (putAt s (withBody q (toLE 1 1)) K.deviceModeLoad l).l.row.attr = 8 := hattr
    have hother : K.deviceModeLoad ≠ K.deviceModeRequest := by decide
    simp only [putDevice, putAt_key, putValue_action _ hattr', hother, if_false, if_true]
    exact hx
  exact writes_of_put (exec_modeLoad q s) hsafe h (written_device (by decide)) hput hl hv hown

theorem load_waits (hsafe : s.safeAsk = 0) (h : Accepts s (onObject (withBody q (toLE 1 1)) K.deviceModeLoad) l)
    (hmotion : s.trans.motion = .drain ∨ s.trans.motion = .shutdown ∨ s.trans.motion = .wake) :
    Writes (.modeLoad q) s (onObject (withBody q (toLE 1 1)) K.deviceModeLoad) l [(K.deviceModePending, mLoad)]
      (fun u => u.trans = s.trans) :=
  load_writes hsafe h (xRequest_waiting (by decide) (by decide) (waits_iff.2 (by simpa using hmotion))) (leaves_set _ _ (by simp))
    (holds_cons (obj_set_self ..) (holds_nil _)) (by simp)

theorem load_stops (hsafe : s.safeAsk = 0) (h : Accepts s (onObject (withBody q (toLE 1 1)) K.deviceModeLoad) l)
    (hmotion : s.trans.motion = .prepare) (hstep : s.obj K.deviceModeStep ≠ 6) (hlink : s.trans.linkWait = false) :
    Writes (.modeLoad q) s (onObject (withBody q (toLE 1 1)) K.deviceModeLoad) l [(K.deviceModePending, mLoad)]
      (fun u => u.trans = { s.trans with abortTo := mLoad }) :=
  load_writes hsafe h ((xRequest_preparing (by decide) (by decide) (by simpa using hmotion)).trans
      (retarget_stop (.inl rfl) (by rwa [obj_access h (by decide)]) (by simpa using hlink)))
    ((leaves_withTrans ..).trans (leaves_set _ _ (by simp))) (holds_cons (by rw [obj_withTrans, obj_set_self]) (holds_nil _)) (by simp)

end

/-- Settles O17: in LOAD, at rest, the request is carried out at once; a request for LOAD waits or is kept for the end of the step. -/
theorem requestsFromLoadAndForLoad : Obligations.RequestsFromLoadAndForLoad := by
  unfold Obligations.RequestsFromLoadAndForLoad
  refine ⟨fun s q l c m hsafe hmode hmotion hrally hhalted hc => ?_, fun s q l hsafe => ?_⟩
  · intro w h
    have hrequests : Requests c q m := .inr (by
      rcases hc with hc | hc | hc
      exacts [.inl hc, .inr (.inl hc), .inr (.inr (.inl hc))])
    have hm : m = mPrepare ∨ m = mRun ∨ m = mHold := by
      rcases hc with hc | hc | hc
      exacts [.inl hc.1, .inr (.inl hc.1), .inr (.inr hc.1)]
    exact request_prepares hrequests hsafe h hmotion hmode hhalted hrally hm
  · intro w h
    exact ⟨load_waits hsafe h, load_stops hsafe h⟩

/-- Settles O18: a case for each transition that a request may meet. -/
theorem requestsWaitTheirTurn : Obligations.RequestsWaitTheirTurn := by
  unfold Obligations.RequestsWaitTheirTurn
  intro s q l c m hsafe hc w h
  refine ⟨request_waits hc hsafe h, request_retargets hc hsafe h, request_stops hc hsafe h, ?_, ?_⟩
  · rintro hmotion hmode hhalted rfl hflowing
    exact request_holds hc hsafe h hmotion hmode hhalted hflowing
  · rintro rfl
    exact request_cancels hc hsafe h

end Sys2Proof.Proofs
end

section
/-! # TIME96 (R158 to R160)

The counter is loaded by TIME_SET and stepped by a Sync; a master that comes or goes changes source and state. -/

set_option Elab.async false

namespace Sys2Proof.Proofs

open Sys2Proof Sys2Proof.Machine Sys2Proof.Laws

/-! ## Values, one write after another -/

section
variable {u v : State} {vs ws : List (Nat × Nat)}

theorem holds_mono (h : Holds u vs) (hws : ∀ e ∈ ws, e ∈ vs) : Holds u ws := fun e he => h e (hws e he)

theorem holds_append (h : Holds u vs) (g : Holds u ws) : Holds u (vs ++ ws) := List.forall_mem_append.2 ⟨h, g⟩

/-- What leaves the objects of a list alone keeps their values. -/
theorem holds_keep (h : Holds u vs) (hobj : ∀ k ∈ vs.map (·.1), v.obj k = u.obj k) : Holds v vs := fun e he =>
  (hobj _ (List.mem_map_of_mem he)).trans (h e he)

/-- A value set outside a list joins it. -/
theorem holds_set (h : Holds u vs) (ks : List Nat) (hks : vs.map (·.1) = ks) (k x : Nat) (hk : k ∉ ks) :
    Holds (u.set k x) ((k, x) :: vs) :=
  holds_cons (obj_set_self ..) (holds_keep h fun _ hi => obj_set_ne _ _ fun e => hk (hks ▸ e ▸ hi))

end

/-! ## The counter -/

section
variable (s : State)

/-- The counter loaded with a value. -/
def clockSet (v : Nat) : State := { s with time := v, timeRem := 0 }

/-- No synchronisation in a row. -/
def unlocked : State := { s with lockRuns := 0 }

@[simp] theorem obj_clockSet (v k : Nat) : (clockSet s v).obj k = s.obj k := rfl

@[simp] theorem obj_unlocked (k : Nat) : (unlocked s).obj k = s.obj k := rfl

@[simp] theorem clockSet_time (v : Nat) : (clockSet s v).time = v := rfl

@[simp] theorem clockSet_timeRem (v : Nat) : (clockSet s v).timeRem = 0 := rfl

@[simp] theorem clockSet_lockRuns (v : Nat) : (clockSet s v).lockRuns = s.lockRuns := rfl

@[simp] theorem unlocked_lockRuns : (unlocked s).lockRuns = 0 := rfl

@[simp] theorem unlocked_time : (unlocked s).time = s.time := rfl

variable {ks : List Nat}

theorem leaves_clockSet (v : Nat) : Leaves ks (clockSet s v) s := leaves_of_dict rfl rfl rfl rfl rfl rfl

theorem leaves_unlocked : Leaves ks (unlocked s) s := leaves_of_dict rfl rfl rfl rfl rfl rfl

theorem leaves_draw (n : Nat) : Leaves ks (s.draw n).2 s := leaves_of_dict rfl rfl rfl rfl rfl rfl

theorem obj_draw (n k : Nat) : (s.draw n).2.obj k = s.obj k := rfl

end

/-! ## TIME_SET -/

section
variable {s : State} {q : Req} {l : Loc}

theorem put_timeSet {t : State} {p : Put} (hkey : p.key_ = K.timeSet) (hattr : p.l.row.attr = 8) :
    putTiming t p = clockSet t (ofTime96 p.v) := by
  simp only [putTiming, hkey, putValue_action t hattr]
  rfl

theorem timeSet_writes (hsafe : s.safeAsk = 0) (h : Accepts s (onObject q K.timeSet) l) :
    Writes (.timeSet q) s (onObject q K.timeSet) l [] (fun u => u.time = ofTime96 (ofLE q.body) ∧ u.timeRem = 0) := by
  obtain ⟨-, hattr, -, -⟩ := accepted_row h (by decide) place_timeSet
  have hput := put_timeSet (t := s.access (onObject q K.timeSet)) (putAt_key s q K.timeSet l) hattr
  refine writes_of_put (exec_timeSet q s) hsafe h (written_timing (by decide) (by decide)) hput (leaves_clockSet ..) (holds_nil _) ?_
  simp

end

/-! ## A state of the time -/

section
variable {s : State}

theorem setTimeState_unlocked {v : Nat} (h : s.obj K.timeState ≠ 2) : s.setTimeState v = s.set K.timeState v := by
  simp only [State.setTimeState, h, decide_false, Bool.false_and, Bool.false_eq_true, if_false]

/-- A number of synchronisations in a row. -/
def withRuns (s : State) (runs : Nat) : State := { s with lockRuns := runs }

/-- The counter steps or slews by a Sync. -/
def syncMoves (offset rate : Int) (s : State) : State :=
  if offset.natAbs > s.obj K.timeStepLimit * perNs && s.mayStep then clockSet (s.set K.timeRate 0) ((s.time : Int) - offset).toNat
  else s.set K.timeRate (satSigned 32 rate)

/-- The state of the time after a number of synchronisations in a row. -/
def syncEnds (offset : Int) (runs : Nat) (s : State) : State :=
  if runs ≥ 16 then (if s.obj K.timeState = 2 then s else s.setTimeState 2)
  else if s.obj K.timeState = 2 && decide (offset.natAbs ≤ perUs) then s
  else s.setTimeState 1

theorem synchronise_eq (s : State) (offset rate : Int) : s.synchronise offset rate =
    syncEnds offset (if offset.natAbs ≤ perUs then s.lockRuns + 1 else 0) (syncMoves offset rate
      (withRuns (s.set K.timeOffset (offsetPs offset)) (if offset.natAbs ≤ perUs then s.lockRuns + 1 else 0))) := rfl

/-- Where a Sync steps the counter. -/
theorem synchronise_steps {offset : Int} (rate : Int) (hlimit : offset.natAbs > s.obj K.timeStepLimit * perNs)
    (hfar : offset.natAbs > perUs) (hmode : s.mode = mLoad) (hstate : s.obj K.timeState = 1) : s.synchronise offset rate =
      (clockSet ((unlocked (s.set K.timeOffset (offsetPs offset))).set K.timeRate 0) ((s.time : Int) - offset).toNat).set K.timeState 1 := by
  have hnear : decide (offset.natAbs ≤ perUs) = false := by simpa using hfar
  have hobj {k : Nat} (hk : k ≠ K.timeOffset) : (unlocked (s.set K.timeOffset (offsetPs offset))).obj k = s.obj k :=
    obj_set_ne s _ hk
  have hstep : (unlocked (s.set K.timeOffset (offsetPs offset))).mayStep = true := by
    simp [State.mayStep, State.mode, hobj (k := K.deviceMode) (by decide), show s.obj K.deviceMode = mLoad from hmode]
  have hmoves : syncMoves offset rate (unlocked (s.set K.timeOffset (offsetPs offset))) =
      clockSet ((unlocked (s.set K.timeOffset (offsetPs offset))).set K.timeRate 0) ((s.time : Int) - offset).toNat := by
    have hcond : (decide (offset.natAbs > (unlocked (s.set K.timeOffset (offsetPs offset))).obj K.timeStepLimit * perNs) &&
        (unlocked (s.set K.timeOffset (offsetPs offset))).mayStep) = true := by
      simp [hstep, hobj (k := K.timeStepLimit) (by decide), hlimit]
    rw [syncMoves, if_pos hcond, unlocked_time, set_time]
  have hends : (clockSet ((unlocked (s.set K.timeOffset (offsetPs offset))).set K.timeRate 0) ((s.time : Int) - offset).toNat).obj
      K.timeState = 1 := by
    rw [obj_clockSet, obj_set_ne _ _ (by decide), hobj (by decide), hstate]
  have hruns : (if offset.natAbs ≤ perUs then s.lockRuns + 1 else 0) = 0 := if_neg (Nat.not_le.2 hfar)
  rw [synchronise_eq, hruns]
  have hwith : withRuns (s.set K.timeOffset (offsetPs offset)) 0 = unlocked (s.set K.timeOffset (offsetPs offset)) := rfl
  rw [hwith, hmoves, syncEnds, if_neg (by decide), hends, hnear, if_neg (by decide), setTimeState_unlocked (by rw [hends]; decide)]

end

/-! ## PTP messages -/

section
variable {s : State} {t : Nat}

/-- Whether a PTP message is looked at. -/
theorem ptpMessage_seen (hen : s.obj K.timePtpEnable = 1) (hlink : s.obj K.portsMgmtLink = 3) (hrally : s.timeByRally = false) :
    ¬ (decide (s.obj K.timePtpEnable = 0) || decide (s.obj K.portsMgmtLink ≠ 3) || s.timeByRally) = true := by
  simp [hen, hlink, hrally]

/-- What the Announce of a new master leaves. -/
abbrev newMaster (s : State) (master : Nat) (utc : Int) : State :=
  (((unlocked (((s.set K.timePtpMaster master).set K.timeUtcOffset (satSigned 16 utc)).raise 750 0)).set K.timeSource 1).set
    K.timePtpPortState 8).set K.timeState 1

/-- The objects that it writes. -/
abbrev masterKeys : List Nat :=
  [K.timePtpMaster, K.timeUtcOffset, K.timeSource, K.timePtpPortState, K.timeState] ++ evKeys 750

/-- What the Announce of the best master shows. -/
def masterShown (s : State) (master : Nat) (utc : Int) : State :=
  if s.obj K.timePtpMaster ≠ master then ((s.set K.timePtpMaster master).set K.timeUtcOffset (satSigned 16 utc)).raise 750 0
  else (s.set K.timePtpMaster master).set K.timeUtcOffset (satSigned 16 utc)

/-- The time follows a master. -/
def masterFollowed (s : State) : State := (((unlocked s).set K.timeSource 1).set K.timePtpPortState 8).setTimeState 1

theorem announce_cases (transport domain master : Nat) (selected : Bool) (utc : Int) :
    xPtpMessage (.announce transport domain master selected utc) s =
      if decide (s.obj K.timePtpEnable = 0) || decide (s.obj K.portsMgmtLink ≠ 3) || s.timeByRally then s
      else if decide (transport ≠ s.obj K.timePtpTransport) || decide (domain ≠ s.obj K.timePtpDomain) || !selected then s
      else if decide ((masterShown s master utc).obj K.timeSource = 1) && !decide (s.obj K.timePtpMaster ≠ master) then
        masterShown s master utc
      else masterFollowed (masterShown s master utc) := rfl

theorem announce_eq {domain master : Nat} {utc : Int} (hen : s.obj K.timePtpEnable = 1) (hlink : s.obj K.portsMgmtLink = 3)
    (hrally : s.timeByRally = false) (hstate : s.obj K.timeState ≠ 2)
    (hdomain : domain = s.obj K.timePtpDomain) (hmaster : master ≠ s.obj K.timePtpMaster) :
    xPtpMessage (.announce (s.obj K.timePtpTransport) domain master true utc) s = newMaster s master utc := by
  have hshown : masterShown s master utc = ((s.set K.timePtpMaster master).set K.timeUtcOffset (satSigned 16 utc)).raise 750 0 :=
    if_pos hmaster.symm
  have hstate' : (((unlocked (masterShown s master utc)).set K.timeSource 1).set K.timePtpPortState 8).obj K.timeState ≠ 2 := by
    rwa [obj_set_ne _ _ (by decide), obj_set_ne _ _ (by decide), obj_unlocked, hshown, obj_raise_of_lt _ _ _ (by decide),
      obj_set_ne _ _ (by decide), obj_set_ne _ _ (by decide)]
  rw [announce_cases, if_neg (ptpMessage_seen hen hlink hrally), if_neg (by simp [hdomain]), if_neg (by simp [hmaster.symm]),
    masterFollowed, setTimeState_unlocked hstate', hshown]

theorem leaves_newMaster (master : Nat) (utc : Int) : Leaves masterKeys (newMaster s master utc) s := by
  refine (leaves_set _ _ (by simp)).trans ((leaves_set _ _ (by simp)).trans ((leaves_set _ _ (by simp)).trans ((leaves_unlocked _).trans
    ((leaves_raise _ _ _ fun k hk => List.mem_append_right _ hk).trans ((leaves_set _ _ (by simp)).trans (leaves_set _ _ (by simp)))))))

theorem newMaster_holds (master : Nat) (utc : Int) : Holds (newMaster s master utc)
    ([(K.timePtpMaster, master), (K.timeUtcOffset, satSigned 16 utc), (K.timeSource, 1), (K.timePtpPortState, 8), (K.timeState, 1)] ++
      raisedBy s 750 0) := by
  have hraise : Holds (((s.set K.timePtpMaster master).set K.timeUtcOffset (satSigned 16 utc)).raise 750 0) (raisedBy s 750 0) :=
    holds_raise_of_ge 0 (by decide) (by decide) (by rw [obj_set_ne _ _ (by decide), obj_set_ne _ _ (by decide)])
      (by rw [set_time, set_time])
  have hshown : Holds (((s.set K.timePtpMaster master).set K.timeUtcOffset (satSigned 16 utc)).raise 750 0)
      ((K.timeUtcOffset, satSigned 16 utc) :: (K.timePtpMaster, master) :: raisedBy s 750 0) := by
    refine holds_cons ?_ (holds_cons ?_ hraise)
    · exact (obj_raise_of_lt _ _ _ (show K.timeUtcOffset < _ by decide)).trans (obj_set_self ..)
    · exact (obj_raise_of_lt _ _ _ (show K.timePtpMaster < _ by decide)).trans
        ((obj_set_ne _ _ (by decide)).trans (obj_set_self ..))
  have hfree : Holds (unlocked (((s.set K.timePtpMaster master).set K.timeUtcOffset (satSigned 16 utc)).raise 750 0))
      ((K.timeUtcOffset, satSigned 16 utc) :: (K.timePtpMaster, master) :: raisedBy s 750 0) := hshown
  have hall := holds_set (holds_set (holds_set hfree (K.timeUtcOffset :: K.timePtpMaster :: evKeys 750) rfl K.timeSource 1 (by decide))
    (K.timeSource :: K.timeUtcOffset :: K.timePtpMaster :: evKeys 750) rfl K.timePtpPortState 8 (by decide))
    (K.timePtpPortState :: K.timeSource :: K.timeUtcOffset :: K.timePtpMaster :: evKeys 750) rfl K.timeState 1 (by decide)
  exact holds_mono hall fun e he => by
    simp only [List.cons_append, List.nil_append, List.mem_cons] at he ⊢
    tauto

theorem announce_sets {domain master : Nat} {utc : Int} (h : Awake s) (hen : s.obj K.timePtpEnable = 1)
    (hlink : s.obj K.portsMgmtLink = 3) (hrally : s.timeByRally = false) (hstate : s.obj K.timeState ≠ 2)
    (hdomain : domain = s.obj K.timePtpDomain) (hmaster : master ≠ s.obj K.timePtpMaster) :
    Sets (.ptpMessage t (.announce (s.obj K.timePtpTransport) domain master true utc)) s
      ([(K.timePtpMaster, master), (K.timeUtcOffset, satSigned 16 utc), (K.timeSource, 1), (K.timePtpPortState, 8), (K.timeState, 1)] ++
        raisedBy (s.begin_ t) 750 0) (fun u => u.lockRuns = 0) := by
  have heffect := announce_eq (s := s.begin_ t) (utc := utc) hen hlink hrally hstate hdomain hmaster
  have htransport : (s.begin_ t).obj K.timePtpTransport = s.obj K.timePtpTransport := rfl
  rw [htransport] at heffect
  refine sets_event (exec_ptpMessage t _ s) h ?_ ?_ ?_ <;> rw [heffect]
  · exact leaves_newMaster ..
  · exact newMaster_holds _ _
  · rw [newMaster, set_lockRuns, set_lockRuns, set_lockRuns, unlocked_lockRuns]

/-! ## Sync -/

/-- What a Sync that is followed leaves. -/
def syncFollowed (s : State) (offset delay : Int) (rate : Int) : State :=
  (((s.draw 4).2.set K.timePtpPathDelay (satSigned 32 delay)).synchronise offset rate)

/-- The port's state follows the time's. -/
def portFollows (s : State) : State := s.set K.timePtpPortState (if s.obj K.timeState = 2 then 9 else 8)

theorem sync_cases (transport domain : Nat) (offset delay : Int) : ∃ rate,
    xPtpMessage (.sync transport domain offset delay) s =
      if decide (s.obj K.timePtpEnable = 0) || decide (s.obj K.portsMgmtLink ≠ 3) || s.timeByRally then s
      else if decide (transport ≠ s.obj K.timePtpTransport) || decide (domain ≠ s.obj K.timePtpDomain) ||
        decide (s.obj K.timeSource ≠ 1) then s
      else portFollows (syncFollowed s offset delay rate) := ⟨_, rfl⟩

/-- What a Sync that steps the counter leaves. -/
abbrev syncStepped (s : State) (offset delay : Int) : State :=
  (((clockSet ((unlocked (((s.draw 4).2.set K.timePtpPathDelay (satSigned 32 delay)).set K.timeOffset (offsetPs offset))).set K.timeRate 0)
    ((s.time : Int) - offset).toNat).set K.timeState 1).set K.timePtpPortState 8)

theorem sync_eq {domain : Nat} {offset delay : Int} (hen : s.obj K.timePtpEnable = 1) (hlink : s.obj K.portsMgmtLink = 3)
    (hrally : s.timeByRally = false) (hsource : s.obj K.timeSource = 1) (hstate : s.obj K.timeState = 1)
    (hdomain : domain = s.obj K.timePtpDomain) (hmode : s.mode = mLoad) (hlimit : offset.natAbs > s.obj K.timeStepLimit * perNs)
    (hfar : offset.natAbs > perUs) :
    xPtpMessage (.sync (s.obj K.timePtpTransport) domain offset delay) s = syncStepped s offset delay := by
  obtain ⟨rate, hcases⟩ := sync_cases (s := s) (s.obj K.timePtpTransport) domain offset delay
  have hobj {k : Nat} (hk : k ≠ K.timePtpPathDelay) :
      ((s.draw 4).2.set K.timePtpPathDelay (satSigned 32 delay)).obj k = s.obj k := obj_set_ne _ _ hk
  have hsteps : syncFollowed s offset delay rate = (clockSet ((unlocked (((s.draw 4).2.set K.timePtpPathDelay
      (satSigned 32 delay)).set K.timeOffset (offsetPs offset))).set K.timeRate 0) ((s.time : Int) - offset).toNat).set K.timeState 1 :=
    synchronise_steps rate (by rwa [hobj (by decide)]) hfar ((hobj (by decide)).trans hmode) ((hobj (by decide)).trans hstate)
  rw [hcases, if_neg (ptpMessage_seen hen hlink hrally), if_neg (by simp [hdomain, hsource]), hsteps, portFollows, obj_set_self,
    if_neg (by decide)]

theorem sync_sets {domain : Nat} {offset delay : Int} (h : Awake s) (hen : s.obj K.timePtpEnable = 1)
    (hlink : s.obj K.portsMgmtLink = 3) (hrally : s.timeByRally = false) (hsource : s.obj K.timeSource = 1) (hstate : s.obj K.timeState = 1)
    (hdomain : domain = s.obj K.timePtpDomain) (hmode : s.mode = mLoad) (hlimit : offset.natAbs > s.obj K.timeStepLimit * perNs)
    (hfar : offset.natAbs > perUs) :
    Sets (.ptpMessage t (.sync (s.obj K.timePtpTransport) domain offset delay)) s
      [(K.timePtpPathDelay, satSigned 32 delay), (K.timeOffset, offsetPs offset), (K.timeRate, 0), (K.timeState, 1), (K.timePtpPortState, 8)]
      (fun u => u.time = (((s.begin_ t).time : Int) - offset).toNat ∧ u.lockRuns = 0) := by
  have heffect := sync_eq (s := s.begin_ t) (delay := delay) hen hlink hrally hsource hstate hdomain hmode hlimit hfar
  have htransport : (s.begin_ t).obj K.timePtpTransport = s.obj K.timePtpTransport := rfl
  rw [htransport] at heffect
  refine sets_event (exec_ptpMessage t _ s) h ?_ ?_ ?_ <;> rw [heffect]
  · refine (leaves_set _ _ ?_).trans ((leaves_set _ _ ?_).trans ((leaves_clockSet ..).trans ((leaves_set _ _ ?_).trans
      ((leaves_unlocked _).trans ((leaves_set _ _ ?_).trans ((leaves_set _ _ ?_).trans (leaves_draw ..))))))) <;> simp
  · have hfirst := holds_set (holds_set (holds_nil ((s.begin_ t).draw 4).2) [] rfl K.timePtpPathDelay (satSigned 32 delay) (by decide))
      [K.timePtpPathDelay] rfl K.timeOffset (offsetPs offset) (by decide)
    have hrate : Holds ((unlocked ((((s.begin_ t).draw 4).2.set K.timePtpPathDelay (satSigned 32 delay)).set K.timeOffset
        (offsetPs offset))).set K.timeRate 0) _ :=
      holds_set (holds_keep hfirst fun _ _ => obj_unlocked _ _) [K.timeOffset, K.timePtpPathDelay] rfl K.timeRate 0 (by decide)
    have hall := holds_set (holds_set (holds_keep hrate fun _ _ => obj_clockSet _ (((s.begin_ t).time : Int) - offset).toNat _)
      [K.timeRate, K.timeOffset, K.timePtpPathDelay] rfl K.timeState 1 (by decide))
      [K.timeState, K.timeRate, K.timeOffset, K.timePtpPathDelay] rfl K.timePtpPortState 8 (by decide)
    exact holds_mono hall fun e he => by
      simp only [List.mem_cons] at he ⊢
      tauto
  · rw [syncStepped, set_time, set_time, clockSet_time, set_lockRuns, set_lockRuns, clockSet_lockRuns, set_lockRuns, unlocked_lockRuns]
    exact ⟨rfl, rfl⟩

/-! ## The silence of a master -/

/-- The master is gone. -/
def masterLost (s : State) : State := unlocked (((s.set K.timeSource 0).set K.timePtpMaster 0).set K.timePtpPortState 5)

theorem losePtp_eq (h : s.obj K.timeSource = 1) :
    s.losePtp = (masterLost s).setTimeState (if s.obj K.timeState = 2 then 3 else 0) := by
  have hcases : s.losePtp = if s.obj K.timeSource ≠ 1 then s
    else (masterLost s).setTimeState (if s.obj K.timeState = 2 then 3 else 0) := rfl
  rw [hcases, if_neg (by simp [h])]

theorem obj_setTimeState (u : State) (v : Nat) {k : Nat} (hk : k < 0x700000) (hne : k ≠ K.timeState) :
    (u.setTimeState v).obj k = u.obj k := by
  unfold State.setTimeState
  extract_lets old w
  split
  · exact (obj_raise_of_lt _ _ _ hk).trans (obj_set_ne _ _ hne)
  · exact obj_set_ne _ _ hne

theorem setTimeState_state (u : State) (v : Nat) : (u.setTimeState v).obj K.timeState = v := by
  unfold State.setTimeState
  extract_lets old w
  split
  · exact (obj_raise_of_lt _ _ _ (by decide)).trans (obj_set_self ..)
  · exact obj_set_self ..

theorem announceTimeout_completes (hheld : s.held = false) (hsource : s.obj K.timeSource = 1) :
    Completes (.ptpAnnounceTimeout t) s
      (fun u => u.obj K.timeSource = 0 ∧ u.obj K.timePtpMaster = 0 ∧ u.obj K.timePtpPortState = 5 ∧
        u.obj K.timeState = (if s.obj K.timeState = 2 then 3 else 0) ∧ u.obj (K.eventStatus 750) = 1) (fun _ => True) := by
  have heffect : xPtpAnnounceTimeout (s.begin_ t) = (s.begin_ t).losePtp.raise 750 0 := if_pos hsource
  have hlost := losePtp_eq (s := s.begin_ t) hsource
  have hobj {k : Nat} (hk : k < 0x700000) (hne : k ≠ K.timeState) :
      ((s.begin_ t).losePtp.raise 750 0).obj k = (masterLost (s.begin_ t)).obj k := by
    rw [obj_raise_of_lt _ _ _ hk, hlost, obj_setTimeState _ _ hk hne]
  refine completes_event (exec_ptpAnnounceTimeout t s) hheld ?_
  rw [heffect]
  refine ⟨?_, ?_, ?_, ?_, (raise_spec _ 750 0 (hasSource_of_ge _ (by decide) (by decide))).1⟩
  · rw [hobj (by decide) (by decide), masterLost, obj_unlocked, obj_set_ne _ _ (by decide), obj_set_ne _ _ (by decide), obj_set_self]
  · rw [hobj (by decide) (by decide), masterLost, obj_unlocked, obj_set_ne _ _ (by decide), obj_set_self]
  · rw [hobj (by decide) (by decide), masterLost, obj_unlocked, obj_set_self]
  · rw [obj_raise_of_lt _ _ _ (by decide), hlost, setTimeState_state]
    rfl

end

/-- Settles O28: each message as its effect, which the cases of its function give. -/
theorem timeIsSetAndFollowed : Obligations.TimeIsSetAndFollowed := by
  unfold Obligations.TimeIsSetAndFollowed
  refine ⟨fun s q l hsafe => timeSet_writes hsafe, fun s t domain master utc hawake hen hlink hrally _ hstate hdomain hmaster =>
    announce_sets hawake hen hlink hrally hstate hdomain hmaster, ?_, fun s t hheld hsource => announceTimeout_completes hheld hsource⟩
  intro s t domain offset delay hawake hen hlink hrally hsource hstate hdomain hmode hlimit hfar
  exact sync_sets hawake hen hlink hrally hsource hstate hdomain hmode hlimit hfar

end Sys2Proof.Proofs
end

section
/-! # The edges of an encoder (R161 to R163)

A pair of levels that passes the glitch filter counts up or down, or is illegal; a counted edge moves the generators bound to the encoder. -/

set_option Elab.async false

namespace Sys2Proof.Proofs

open Sys2Proof Sys2Proof.Machine Sys2Proof.Laws

/-! ## From an effect's frame to that of the command -/

theorem completes_leaves {c : Instr} {s u : State} {ks : List Nat} {own after : State → Prop} (he : exec c s = .next (s.finish u))
    (hsafe : s.safeAsk = 0) (hl : Leaves ks u s) (hown : own u) (hafter : ∀ v, Same v u → Frame s v ks → after v) :
    Completes c s own after :=
  completes_same he hl.variant (hl.safeAsk.trans hsafe) hown fun v hv => hafter v hv
    ⟨fun k hk hn => (hv.obj k hk).trans (hl.obj k hn hk), fun a => by simp only [State.byte, hv.mem, hl.mem], hv.ctxs.trans hl.ctxs,
      hv.inForce.trans hl.inForce⟩

/-- What follows every command keeps the values of objects that it does not itself move. -/
theorem holds_same {u v : State} {vs : List (Nat × Nat)} (h : Holds u vs) (hv : Same v u) (hvs : ∀ k ∈ vs.map (·.1), settledKey k = false) :
    Holds v vs := holds_keep h fun k hk => hv.obj k (hvs k hk)

/-! ## The records of encoders and generators -/

section
variable (s : State) (e : Nat)

@[simp] theorem enc_setEnc_self (x : Enc) : (s.setEnc e x).enc e = x := get_put_self ..

@[simp] theorem enc_set (k v : Nat) : (s.set k v).enc e = s.enc e := rfl

@[simp] theorem enc_count (k w n : Nat) : (s.count k w n).enc e = s.enc e := rfl

@[simp] theorem enc_raise (n d : Nat) : (s.raise n d).enc e = s.enc e := by simp only [State.enc, raise_encs]

@[simp] theorem enc_setPitch (p : Nat) (x : Pitch) : (s.setPitch p x).enc e = s.enc e := rfl

@[simp] theorem obj_setEnc (x : Enc) (k : Nat) : (s.setEnc e x).obj k = s.obj k := rfl

@[simp] theorem obj_setPitch (p : Nat) (x : Pitch) (k : Nat) : (s.setPitch p x).obj k = s.obj k := rfl

theorem leaves_setEnc (x : Enc) {ks : List Nat} : Leaves ks (s.setEnc e x) s := leaves_of_dict rfl rfl rfl rfl rfl rfl

theorem leaves_setPitch (p : Nat) (x : Pitch) {ks : List Nat} : Leaves ks (s.setPitch p x) s := leaves_of_dict rfl rfl rfl rfl rfl rfl

@[simp] theorem pitchOf_setPitch_self (p : Nat) (x : Pitch) : (s.setPitch p x).pitchOf p = x := get_put_self ..

theorem pitchOf_setPitch_ne {p p' : Nat} (x : Pitch) (h : p' ≠ p) : (s.setPitch p x).pitchOf p' = s.pitchOf p' := get_put_ne _ _ _ h

@[simp] theorem pitchOf_set (p k v : Nat) : (s.set k v).pitchOf p = s.pitchOf p := rfl

end

/-! ## A counted edge and the generators -/

section
variable {s : State} {t p : Nat} {d : Int} {before : Option Nat}

theorem takeAim_moved : ((s.takeAim p t).pitchOf p).moved = (s.pitchOf p).moved := by
  rw [State.takeAim, pitchOf_setPitch_self]

theorem takeAim_other {p' : Nat} (h : p' ≠ p) : (s.takeAim p t).pitchOf p' = s.pitchOf p' := pitchOf_setPitch_ne s _ h

/-- The squared errors of the triggers whose crossing an edge shows. -/
def crossingErrors (s : State) (p t t0 : Nat) (d : Int) : List Nat :=
  let x := s.pitchOf p
  x.watch.filterMap (fun w => (crossing w.1 t0 x.moved t (x.moved + d * 65536)).map (fun z =>
    (((z : Int) - w.2) * ((z : Int) - w.2)).toNat))

/-- A generator's record after an edge with one before it. -/
def pitchSettled (s : State) (p t t0 : Nat) (d : Int) : Pitch :=
  let x := s.pitchOf p
  { x with moved := x.moved + d * 65536,
           watch := x.watch.filter (fun w => (crossing w.1 t0 x.moved t (x.moved + d * 65536)).isNone),
           errors := (crossingErrors s p t t0 d ++ x.errors).take 1024 }

/-- A counted edge moves a generator, may show the error that it settles, and has it aim anew. -/
theorem movePitch_cases : ∃ u, s.movePitch p t d before = u.takeAim p t ∧
    ∃ x, x.moved = (s.pitchOf p).moved + d * 65536 ∧ (u = s.setPitch p x ∨ ∃ y, u = (s.setPitch p x).set (K.pitchError p) y) := by
  unfold State.movePitch
  cases before with
  | none => exact ⟨_, rfl, _, rfl, .inl rfl⟩
  | some t0 =>
    refine ⟨_, rfl, pitchSettled s p t t0 d, rfl, ?_⟩
    split
    · exact .inl rfl
    · exact .inr ⟨_, rfl⟩

theorem movePitch_moved : ((s.movePitch p t d before).pitchOf p).moved = (s.pitchOf p).moved + d * 65536 := by
  obtain ⟨u, hmove, x, hx, rfl | ⟨y, rfl⟩⟩ := movePitch_cases (s := s) (p := p) (t := t) (d := d) (before := before) <;>
    simp only [hmove, takeAim_moved, pitchOf_set, pitchOf_setPitch_self, hx]

theorem movePitch_other {p' : Nat} (h : p' ≠ p) : (s.movePitch p t d before).pitchOf p' = s.pitchOf p' := by
  obtain ⟨u, hmove, x, hx, rfl | ⟨y, rfl⟩⟩ := movePitch_cases (s := s) (p := p) (t := t) (d := d) (before := before) <;>
    simp only [hmove, takeAim_other h, pitchOf_set, pitchOf_setPitch_ne _ _ h]

theorem leaves_movePitch {ks : List Nat} (h : K.pitchError p ∈ ks) : Leaves ks (s.movePitch p t d before) s := by
  obtain ⟨u, hmove, x, hx, rfl | ⟨y, rfl⟩⟩ := movePitch_cases (s := s) (p := p) (t := t) (d := d) (before := before) <;> rw [hmove]
  · exact (leaves_setPitch ..).trans (leaves_setPitch ..)
  · exact (leaves_setPitch ..).trans ((leaves_set _ _ h).trans (leaves_setPitch ..))

theorem movePitch_enc (e : Nat) : (s.movePitch p t d before).enc e = s.enc e := by
  obtain ⟨u, hmove, x, hx, rfl | ⟨y, rfl⟩⟩ := movePitch_cases (s := s) (p := p) (t := t) (d := d) (before := before) <;> rw [hmove] <;> rfl

theorem movePitches_other {p' : Nat} (ps : List Nat) (s : State) (h : p' ∉ ps) :
    (ps.foldl (fun st p => st.movePitch p t d before) s).pitchOf p' = s.pitchOf p' := by
  induction ps generalizing s with
  | nil => rfl
  | cons p ps ih =>
    rw [List.mem_cons, not_or] at h
    exact (ih _ h.2).trans (movePitch_other h.1)

/-- Every generator bound to the encoder moves once. -/
theorem movePitches_moved (ps : List Nat) (s : State) (hnodup : ps.Nodup) {p' : Nat} (h : p' ∈ ps) :
    ((ps.foldl (fun st p => st.movePitch p t d before) s).pitchOf p').moved = (s.pitchOf p').moved + d * 65536 := by
  induction ps generalizing s with
  | nil => exact absurd h List.not_mem_nil
  | cons p ps ih =>
    obtain ⟨hp, hps⟩ := List.nodup_cons.1 hnodup
    rcases List.mem_cons.1 h with rfl | h
    · exact (congrArg Pitch.moved (movePitches_other ps _ hp)).trans movePitch_moved
    · have hne : p' ≠ p := fun e => hp (e ▸ h)
      exact (ih _ hps h).trans (by rw [movePitch_other hne])

end

/-! ## Edges -/

section
variable {s : State} {t e held : Nat} {a b : Bool} {d : Int}

/-- An encoder's record after a counted edge. -/
def edgeRecord (s : State) (e : Nat) (a b : Bool) (d : Int) : Enc :=
  let x := s.enc e
  let t := s.clock / edgeTick * edgeTick
  let last := match x.jumped with | some p => [(t, p)] | none => []
  let span := 131072 * s.obj (K.encTrackNs e) * perNs
  let older := x.edges.take ((x.edges.takeWhile (fun w => decide (s.clock < w.1 + span + perMs))).length + 1)
  let total := match x.recent with | w :: _ => w.2 + d | [] => d
  { x with a := a, b := b, edges := (t, s.position e + d) :: last ++ older, recent := (t, total) :: x.recent.take 63,
           moved := x.moved + d, jumped := none, stopped := none }

/-- What a counted edge shows of its encoder. -/
def edgeCounted (s : State) (e : Nat) (a b : Bool) (d : Int) : State :=
  (((s.setEnc e (edgeRecord s e a b d)).set (K.encPosition e) (unsigned 48 (s.position e + d))).encFlag e 1 false).encFlag e 4
    (decide (d < 0))

/-- The generators bound to the encoder move with it. -/
def pitchesMoved (s u : State) (e : Nat) (d : Int) : State :=
  (s.pitchesOf e).foldl (fun st p => st.movePitch p (s.clock / edgeTick * edgeTick) d ((s.enc e).recent.head?.map (·.1))) u

/-- Levels that pass the filter, by the counts of their transition. -/
theorem encoderEdge_decoded {d0 : Option Int} (hruns : s.encRuns e = true) (hlevels : ¬ ((s.enc e).a = a ∧ (s.enc e).b = b))
    (hfilter : 5000 * s.obj (K.encGlitch e) ≤ held)
    (hdecode : decodeStep (s.obj (K.encMode e)) (s.enc e).a (s.enc e).b a b = d0) :
    (d0 = none → xEncoderEdge e a b held s =
      ((s.setEnc e { s.enc e with a := a, b := b, signal := true, quiet := 0 }).count (K.encIllegal e) 32 1).encAlarm e 3 0xFF) ∧
    (∀ d, d0 = some d → xEncoderEdge e a b held s =
      if (if s.obj (K.encInvert e) = 1 then -d else d) = 0 then s.setEnc e { s.enc e with a := a, b := b }
      else pitchesMoved s (edgeCounted s e a b (if s.obj (K.encInvert e) = 1 then -d else d)) e
        (if s.obj (K.encInvert e) = 1 then -d else d)) := by
  have hstop : ¬ (!s.encRuns e) = true := by simp [hruns]
  have hsame : ¬ (decide ((s.enc e).a = a) && decide ((s.enc e).b = b)) = true := by simpa using hlevels
  have hpass : ¬ (!s.passesFilter e held) = true := by simpa [State.passesFilter] using hfilter
  constructor
  · rintro rfl
    rw [xEncoderEdge, if_neg hstop, if_neg hsame, if_neg hpass, hdecode]
  · rintro d rfl
    rw [xEncoderEdge, if_neg hstop, if_neg hsame, if_neg hpass, hdecode]
    rfl

/-- A change of one level counts by the phase of A and B. -/
theorem decodeStep_single : ∀ x y a b : Bool, (x ≠ a ∧ y = b) ∨ (x = a ∧ y ≠ b) →
    decodeStep 0 x y a b = some (if (if x ≠ a then a != b else a == b) then 1 else -1) := by decide

theorem decodeStep_double : ∀ x y : Bool, decodeStep 0 x y (!x) (!y) = none := by decide

/-- The count of an edge: up or down, and turned round by inversion. -/
abbrev edgeCount (s : State) (e : Nat) (a b : Bool) : Int :=
  if (if (s.enc e).a ≠ a then a != b else a == b) != (s.obj (K.encInvert e) == 1) then 1 else -1

theorem edgeCount_ne_zero : edgeCount s e a b ≠ 0 := by
  have h : ∀ c : Bool, (if c = true then (1 : Int) else -1) ≠ 0 := by decide
  exact h _

theorem encoderEdge_counts (hruns : s.encRuns e = true) (hmode : s.obj (K.encMode e) = 0) (hfilter : 5000 * s.obj (K.encGlitch e) ≤ held)
    (hsingle : ((s.enc e).a ≠ a ∧ (s.enc e).b = b) ∨ ((s.enc e).a = a ∧ (s.enc e).b ≠ b)) :
    xEncoderEdge e a b held s = pitchesMoved s (edgeCounted s e a b (edgeCount s e a b)) e (edgeCount s e a b) := by
  have hlevels : ¬ ((s.enc e).a = a ∧ (s.enc e).b = b) := by
    rcases hsingle with h | h
    exacts [fun g => h.1 g.1, fun g => h.2 g.2]
  have hdecode := decodeStep_single _ _ _ _ hsingle
  rw [← hmode] at hdecode
  have hcounts := (encoderEdge_decoded hruns hlevels hfilter hdecode).2 _ rfl
  have hcount : (if s.obj (K.encInvert e) = 1 then -(if (if (s.enc e).a ≠ a then a != b else a == b) then (1 : Int) else -1)
      else if (if (s.enc e).a ≠ a then a != b else a == b) then 1 else -1) = edgeCount s e a b := by
    unfold edgeCount
    by_cases hinvert : s.obj (K.encInvert e) = 1 <;> cases (if (s.enc e).a ≠ a then a != b else a == b) <;> simp [hinvert]
  rw [hcount, if_neg edgeCount_ne_zero] at hcounts
  exact hcounts

theorem flags_ne_position : K.encFlags e ≠ K.encPosition e := key_ne (by decide) (by decide) (.inr (by decide))

theorem leaves_encFlag (s : State) (bit : Nat) (v : Bool) {ks : List Nat} (h : K.encFlags e ∈ ks) : Leaves ks (s.encFlag e bit v) s :=
  leaves_set _ _ h

theorem encFlag_self (s : State) (bit : Nat) (v : Bool) :
    (s.encFlag e bit v).obj (K.encFlags e) = withBit (s.obj (K.encFlags e)) bit v := obj_set_self ..

theorem encFlag_ne (s : State) (bit : Nat) (v : Bool) {k : Nat} (h : k ≠ K.encFlags e) : (s.encFlag e bit v).obj k = s.obj k :=
  obj_set_ne _ _ h

theorem leaves_edgeCounted : Leaves [K.encPosition e, K.encFlags e] (edgeCounted s e a b d) s :=
  (leaves_encFlag _ _ _ (by simp)).trans ((leaves_encFlag _ _ _ (by simp)).trans ((leaves_set _ _ (by simp)).trans (leaves_setEnc ..)))

theorem edgeCounted_holds : Holds (edgeCounted s e a b d) [(K.encPosition e, unsigned 48 (s.position e + d)),
    (K.encFlags e, withBit (withBit (s.obj (K.encFlags e)) 1 false) 4 (decide (d < 0)))] := by
  refine holds_cons ?_ (holds_cons ?_ (holds_nil _))
  · exact (encFlag_ne _ _ _ flags_ne_position.symm).trans ((encFlag_ne _ _ _ flags_ne_position.symm).trans (obj_set_self ..))
  · refine (encFlag_self ..).trans ?_
    rw [encFlag_self, obj_set_ne _ _ flags_ne_position, obj_setEnc]

theorem leaves_pitchesMoved (u : State) {ks : List Nat} (h : ∀ p ∈ s.pitchesOf e, K.pitchError p ∈ ks) :
    Leaves ks (pitchesMoved s u e d) u := leaves_foldl _ _ _ fun _ p hp => leaves_movePitch (h p hp)

theorem pitchesMoved_enc (u : State) : (pitchesMoved s u e d).enc e = u.enc e :=
  foldl_keeps (fun v => v.enc e) _ _ _ fun _ _ => movePitch_enc e

theorem encFlag_enc (u : State) (bit : Nat) (v : Bool) : (u.encFlag e bit v).enc e = u.enc e := rfl

theorem edgeCounted_enc : (edgeCounted s e a b d).enc e = edgeRecord s e a b d := by
  rw [edgeCounted, encFlag_enc, encFlag_enc, enc_set, enc_setEnc_self]

theorem pitchError_apart (p : Nat) : K.encPosition e ≠ K.pitchError p ∧ K.encFlags e ≠ K.pitchError p :=
  ⟨key_ne (by decide) (by decide) (.inr (by decide)), key_ne (by decide) (by decide) (.inr (by decide))⟩

theorem encoder_settled (he : e < 8) {b : Nat} (hb : b < 256) (i : Nat) (hi : i < 2) : settledKey (key (0x1500 + i + 16 * e) b) = false :=
  settledKey_key_false hb (by omega)

theorem edge_completes (h : Awake s) (he : e < 8) (hruns : s.encRuns e = true) (hmode : s.obj (K.encMode e) = 0)
    (hfilter : 5000 * s.obj (K.encGlitch e) ≤ held)
    (hsingle : ((s.enc e).a ≠ a ∧ (s.enc e).b = b) ∨ ((s.enc e).a = a ∧ (s.enc e).b ≠ b)) :
    let d := edgeCount s e a b
    let vs := [(K.encPosition e, unsigned 48 (s.position e + d)),
      (K.encFlags e, withBit (withBit (s.obj (K.encFlags e)) 1 false) 4 (decide (d < 0)))]
    Completes (.encoderEdge t e a b held) s
      (fun u => Holds u vs ∧ (u.enc e).a = a ∧ (u.enc e).b = b ∧ (u.enc e).moved = (s.enc e).moved + d ∧
        (u.enc e).edges.head? = some (max s.clock t / edgeTick * edgeTick, s.position e + d) ∧
        (∀ p ∈ s.pitchesOf e, (u.pitchOf p).moved = (s.pitchOf p).moved + d * 65536))
      (fun v => Holds v vs ∧ Frame s v (vs.map (·.1) ++ (s.pitchesOf e).map K.pitchError)) := by
  intro d vs
  have heffect : xEncoderEdge e a b held (s.begin_ t) = pitchesMoved (s.begin_ t) (edgeCounted (s.begin_ t) e a b d) e d :=
    encoderEdge_counts (s := s.begin_ t) hruns hmode hfilter hsingle
  have hpitches : Leaves ((s.pitchesOf e).map K.pitchError)
      (pitchesMoved (s.begin_ t) (edgeCounted (s.begin_ t) e a b d) e d) (edgeCounted (s.begin_ t) e a b d) :=
    leaves_pitchesMoved _ fun p hp => List.mem_map_of_mem hp
  have hcounted : Leaves (vs.map (·.1)) (edgeCounted (s.begin_ t) e a b d) (s.begin_ t) := leaves_edgeCounted
  have hl : Leaves (vs.map (·.1) ++ (s.pitchesOf e).map K.pitchError)
      (pitchesMoved (s.begin_ t) (edgeCounted (s.begin_ t) e a b d) e d) (s.begin_ t) :=
    (hpitches.mono fun _ => List.mem_append_right _).trans (hcounted.mono fun _ => List.mem_append_left _)
  have hv : Holds (pitchesMoved (s.begin_ t) (edgeCounted (s.begin_ t) e a b d) e d) vs := by
    refine holds_keep (edgeCounted_holds (s := s.begin_ t) (a := a) (b := b)) fun k hk => hpitches.obj k ?_ ?_
    · rintro hm
      obtain ⟨p, -, rfl⟩ := List.mem_map.1 hm
      simp only [vs, List.map_cons, List.map_nil, List.mem_cons, List.not_mem_nil, or_false] at hk
      rcases hk with hk | hk
      exacts [(pitchError_apart p).1 hk.symm, (pitchError_apart p).2 hk.symm]
    · simp only [vs, List.map_cons, List.map_nil, List.mem_cons, List.not_mem_nil, or_false] at hk
      rcases hk with rfl | rfl <;> exact encoder_settled he (by decide) 1 (by decide)
  have hsettled : ∀ k ∈ vs.map (·.1), settledKey k = false := by
    intro k hk
    simp only [vs, List.map_cons, List.map_nil, List.mem_cons, List.not_mem_nil, or_false] at hk
    rcases hk with rfl | rfl <;> exact encoder_settled he (by decide) 1 (by decide)
  have hnext := (exec_encoderEdge t e a b held s).trans (runOf_next _ _ _ _ (by simpa using he))
  rw [heffect] at hnext
  refine completes_leaves hnext h.2 (hl.trans (leaves_begin s t)) ⟨hv, ?_⟩ fun v hsame hframe => ⟨holds_same hv hsame hsettled, hframe⟩
  have hrecord : (pitchesMoved (s.begin_ t) (edgeCounted (s.begin_ t) e a b d) e d).enc e = edgeRecord (s.begin_ t) e a b d :=
    (pitchesMoved_enc _).trans edgeCounted_enc
  have hnodup : ((s.begin_ t).pitchesOf e).Nodup := List.nodup_range.filter _
  refine ⟨by rw [hrecord]; rfl, by rw [hrecord]; rfl, by rw [hrecord]; rfl, by rw [hrecord]; rfl, fun p hp => ?_⟩
  exact movePitches_moved _ _ hnodup hp

/-- A double change and an edge too short. -/
theorem illegal_sets (h : Awake s) (he : e < 8) (hruns : s.encRuns e = true) (hmode : s.obj (K.encMode e) = 0)
    (hfilter : 5000 * s.obj (K.encGlitch e) ≤ held) :
    Sets (.encoderEdge t e (!(s.enc e).a) (!(s.enc e).b) held) s
      ([(K.encIllegal e, satAdd 32 (s.obj (K.encIllegal e)) 1), (K.encFlags e, withBit (s.obj (K.encFlags e)) 3 true)] ++
        raisedBy (s.begin_ t) (722 + 3 * e) 0xFF) (fun u => (u.enc e).a = !(s.enc e).a ∧ (u.enc e).b = !(s.enc e).b) := by
  have hdecode := decodeStep_double (s.enc e).a (s.enc e).b
  rw [← hmode] at hdecode
  have hnum : 720 + 3 * e + (3 - 1) = 722 + 3 * e := by omega
  have hlevels : ¬ (((s.begin_ t).enc e).a = !(s.enc e).a ∧ ((s.begin_ t).enc e).b = !(s.enc e).b) := fun hlevel => by
    have hsame : (s.enc e).a = !(s.enc e).a := hlevel.1
    simp at hsame
  have heffect := (encoderEdge_decoded (s := s.begin_ t) hruns hlevels hfilter hdecode).1 rfl
  have hne : K.encFlags e ≠ K.encIllegal e := key_ne (by decide) (by decide) (.inr (by decide))
  rw [State.encAlarm, hnum] at heffect
  have hflow : K.encFlags e < 0x700000 ∧ K.encIllegal e < 0x700000 := by
    simp only [K.encFlags, K.encIllegal, key]
    omega
  have hcount {k : Nat} (hk : 0x700000 ≤ k) : k ≠ K.encFlags e ∧ k ≠ K.encIllegal e := by omega
  refine sets_runOf (exec_encoderEdge t e _ _ held s) (by simpa using he) h.2 ?_ ?_ ?_ <;> rw [heffect]
  · exact (leaves_raise _ _ _ fun k hk => List.mem_cons_of_mem _ (List.mem_cons_of_mem _ hk)).trans ((leaves_encFlag _ _ _ (by simp)).trans
      ((leaves_count _ _ _ (by simp)).trans (leaves_setEnc ..)))
  · refine holds_append (holds_cons ?_ (holds_cons ?_ (holds_nil _))) (holds_raise_of_ge 0xFF (by omega) (by omega) ?_ rfl)
    · exact (obj_raise_of_lt _ _ _ hflow.2).trans ((encFlag_ne _ _ _ hne.symm).trans (obj_count_self ..))
    · refine (obj_raise_of_lt _ _ _ hflow.1).trans ((encFlag_self ..).trans ?_)
      rw [obj_count_ne _ _ _ hne]
      rfl
    · have hkey : 0x700000 ≤ K.eventCount (722 + 3 * e) := by
        simp only [K.eventCount, key]
        omega
      rw [encFlag_ne _ _ _ (hcount hkey).1, obj_count_ne _ _ _ (hcount hkey).2]
      rfl
  · rw [enc_raise, encFlag_enc, enc_count, enc_setEnc_self]
    exact ⟨rfl, rfl⟩

theorem glitch_sets (h : Awake s) (he : e < 8) (hruns : s.encRuns e = true) (hlevels : (s.enc e).a ≠ a ∨ (s.enc e).b ≠ b)
    (hshort : held < 5000 * s.obj (K.encGlitch e)) :
    Sets (.encoderEdge t e a b held) s [(K.encGlitches e, satAdd 32 (s.obj (K.encGlitches e)) 1)]
      (fun u => u.enc e = s.enc e ∧ u.pitches = s.pitches) := by
  have hstop : ¬ (!(s.begin_ t).encRuns e) = true := by simpa using (show (s.begin_ t).encRuns e = true from hruns)
  have hsame : ¬ (decide (((s.begin_ t).enc e).a = a) && decide (((s.begin_ t).enc e).b = b)) = true := by
    simp only [Bool.and_eq_true, decide_eq_true_eq]
    rcases hlevels with hlevel | hlevel
    exacts [fun g => hlevel g.1, fun g => hlevel g.2]
  have hfails : (!(s.begin_ t).passesFilter e held) = true := by
    have hshort' : held < 5000 * (s.begin_ t).obj (K.encGlitch e) := hshort
    simpa [State.passesFilter] using hshort'
  have heffect : xEncoderEdge e a b held (s.begin_ t) = (s.begin_ t).count (K.encGlitches e) 32 1 := by
    rw [xEncoderEdge, if_neg hstop, if_neg hsame, if_pos hfails]
  refine sets_runOf (exec_encoderEdge t e a b held s) (by simpa using he) h.2 ?_ ?_ ?_ <;> rw [heffect]
  · exact leaves_count _ _ _ (List.mem_cons_self ..)
  · exact holds_cons (obj_count_self ..) (holds_nil _)
  · exact ⟨rfl, rfl⟩

end

/-- Settles O29: the filter, then the decoder's cases. -/
theorem encoderEdgesCount : Obligations.EncoderEdgesCount := by
  unfold Obligations.EncoderEdgesCount
  refine ⟨fun s t e held a b hawake he hruns hmode hfilter hsingle => ?_, fun s t e held hawake he hruns hmode hfilter =>
    illegal_sets hawake he hruns hmode hfilter, fun s t e held a b hawake he hruns hlevels hshort =>
    glitch_sets hawake he hruns hlevels hshort⟩
  exact edge_completes hawake he hruns hmode hfilter hsingle

end Sys2Proof.Proofs
end

section
/-! # What else befalls an encoder (R163, R164, R166)

The index mark, the windows, standstill and the loss of the signal, and the writes of an encoder's objects. -/

set_option Elab.async false

namespace Sys2Proof.Proofs

open Sys2Proof Sys2Proof.Machine Sys2Proof.Laws

section
variable {s : State} {t e : Nat}

/-! ## Keys -/

theorem encoder_low {i b : Nat} (he : e < 8) (hb : b < 256) (hi : i < 2) : key (0x1500 + i + 16 * e) b < 0x700000 := by
  simp only [key]
  omega

theorem eventKey_ne_encoder {i b k : Nat} (he : e < 8) (hb : b < 256) (hi : i < 2) (hk : 0x700000 ≤ k) :
    k ≠ key (0x1500 + i + 16 * e) b := by
  have := encoder_low he hb hi
  omega

theorem eventCount_ge (n : Nat) : 0x700000 ≤ K.eventCount n := by
  simp only [K.eventCount, key]
  omega

/-! ## The index mark -/

theorem zEdge_captures (h : Awake s) (he : e < 8) (hruns : s.encRuns e = true) (hindex : (s.enc e).index = false)
    (hmode : s.obj (K.encZMode e) = 1) :
    Sets (.encoderZEdge t e) s [(K.encZPos e, s.obj (K.encPosition e))] (fun _ => True) := by
  have hstop : ¬ (!(s.begin_ t).encRuns e) = true := by simpa using (show (s.begin_ t).encRuns e = true from hruns)
  have hmode' : (s.begin_ t).obj (K.encZMode e) = 1 := hmode
  have hindex' : ((s.begin_ t).enc e).index = false := hindex
  have heffect : xEncoderZ e (s.begin_ t) = (s.begin_ t).set (K.encZPos e) (s.obj (K.encPosition e)) := by
    rw [xEncoderZ, if_neg hstop, hmode', hindex']
    rfl
  refine sets_eventOf (exec_encoderZEdge t e s) (by simpa using he) h ?_ ?_ trivial <;> rw [heffect]
  · exact leaves_set _ _ (List.mem_cons_self ..)
  · exact holds_cons (obj_set_self ..) (holds_nil _)

theorem leaves_loadPosition (u : State) (v : Nat) : Leaves [K.encPosition e, K.encFlags e] (u.loadPosition e v) u :=
  (leaves_encFlag _ _ _ (by simp)).trans ((leaves_set _ _ (by simp)).trans (leaves_setEnc ..))

theorem loadPosition_holds (u : State) (v : Nat) : Holds (u.loadPosition e v)
    [(K.encPosition e, v), (K.encFlags e, withBit (u.obj (K.encFlags e)) 0 true)] := by
  refine holds_cons ?_ (holds_cons ?_ (holds_nil _))
  · exact (encFlag_ne _ _ _ flags_ne_position.symm).trans (obj_set_self ..)
  · refine (encFlag_self ..).trans ?_
    rw [obj_set_ne _ _ flags_ne_position, obj_setEnc]

theorem loadPosition_enc (u : State) (v : Nat) : (u.loadPosition e v).enc e =
    { u.enc e with jumped := some (((u.enc e).jumped).getD (u.position e)) } := by
  rw [State.loadPosition, encFlag_enc, enc_set, enc_setEnc_self]

/-- The encoder's mark is used up. -/
def zTaken (s : State) (e : Nat) : State := s.setEnc e { s.enc e with armed := false, index := false }

theorem zEdge_presets (h : Awake s) (he : e < 8) (hruns : s.encRuns e = true) (hmode : s.obj (K.encZMode e) = 2)
    (harmed : (s.enc e).armed = true) :
    Sets (.encoderZEdge t e) s
      [(K.encPosition e, s.obj (K.encPreset e)), (K.encFlags e, withBit (s.obj (K.encFlags e)) 0 true)]
      (fun u => (u.enc e).armed = false) := by
  have hstop : ¬ (!(s.begin_ t).encRuns e) = true := by simpa using (show (s.begin_ t).encRuns e = true from hruns)
  have hmark : (((s.begin_ t).enc e).index || (decide ((s.begin_ t).obj (K.encZMode e) = 2) && ((s.begin_ t).enc e).armed)) = true := by
    have hmode' : (s.begin_ t).obj (K.encZMode e) = 2 := hmode
    have harmed' : ((s.begin_ t).enc e).armed = true := harmed
    rw [hmode', harmed', decide_eq_true rfl, Bool.and_self, Bool.or_true]
  have heffect : xEncoderZ e (s.begin_ t) = (zTaken (s.begin_ t) e).loadPosition e (s.obj (K.encPreset e)) := by
    rw [xEncoderZ, if_neg hstop, if_pos hmark]
    rfl
  refine sets_eventOf (exec_encoderZEdge t e s) (by simpa using he) h ?_ ?_ ?_ <;> rw [heffect]
  · exact (leaves_loadPosition ..).trans (leaves_setEnc ..)
  · exact loadPosition_holds _ _
  · rw [loadPosition_enc, zTaken, enc_setEnc_self]

/-! ## Windows -/

/-- An encoder's record after a window of 1 ms. -/
def windowRecord (s : State) (e : Nat) : Enc :=
  let x := s.enc e
  let rate := x.moved * 1000
  let accel := if x.rated then (rate - signed 32 (s.obj (K.encRate e))) * 1000 else 0
  let fast := rate.natAbs > s.obj (K.encRateMax e) || accel.natAbs > s.obj (K.encAccelMax e)
  let good := s.obj (K.encRateMin e) ≤ rate.natAbs && !fast
  { x with moved := 0, rated := true, signal := false, calm := if fast then 0 else x.calm + 1,
           quiet := if x.signal then 0 else x.quiet + 1, passing := if good then x.passing + 1 else 0 }

/-- What a window shows: rate and acceleration. -/
def windowShown (s : State) (e : Nat) : State :=
  ((s.set (K.encRate e) (satSigned 32 ((s.enc e).moved * 1000))).set (K.encAccel e) (satSigned 32
    (if (s.enc e).rated then ((s.enc e).moved * 1000 - signed 32 (s.obj (K.encRate e))) * 1000 else 0))).setEnc e (windowRecord s e)

/-- What a window may move besides. -/
structure WindowMoves (e : Nat) (u v : State) : Prop where
  enc : u.enc e = v.enc e
  obj : ∀ k < 0x700000, k ≠ K.encFlags e → k ≠ K.encStatus e → u.obj k = v.obj k

theorem WindowMoves.refl (u : State) : WindowMoves e u u := ⟨rfl, fun _ _ _ _ => rfl⟩

theorem WindowMoves.trans {a b c : State} (h : WindowMoves e a b) (g : WindowMoves e b c) : WindowMoves e a c :=
  ⟨h.enc.trans g.enc, fun k hk hf hs => (h.obj k hk hf hs).trans (g.obj k hk hf hs)⟩

theorem WindowMoves.ite {c : Prop} [Decidable c] {a b u : State} (h : WindowMoves e a u) (g : WindowMoves e b u) :
    WindowMoves e (if c then a else b) u := by
  split
  exacts [h, g]

theorem windowMoves_flag (u : State) (bit : Nat) (v : Bool) : WindowMoves e (u.encFlag e bit v) u :=
  ⟨rfl, fun _ _ hf _ => encFlag_ne _ _ _ hf⟩

theorem windowMoves_alarm (u : State) (bit d : Nat) : WindowMoves e (u.encAlarm e bit d) u :=
  ⟨enc_raise .., fun _ hk hf _ => (obj_raise_of_lt _ _ _ hk).trans (encFlag_ne _ _ _ hf)⟩

theorem windowMoves_status (u : State) (v : Nat) : WindowMoves e (u.set (K.encStatus e) v) u := ⟨rfl, fun _ _ _ hs => obj_set_ne _ _ hs⟩

/-- A window shows rate and acceleration, and may move flags, status and the events of its encoder. -/
theorem window_moves (hruns : s.encRuns e = true) : WindowMoves e (xEncoderWindow e s) (windowShown s e) := by
  have hstop : ¬ (!s.encRuns e) = true := by simp [hruns]
  have hcases : ∃ u v w : State, xEncoderWindow e s = w ∧ WindowMoves e w v ∧ WindowMoves e v u ∧ WindowMoves e u (windowShown s e) := by
    rw [xEncoderWindow, if_neg hstop]
    refine ⟨_, _, _, rfl, (windowMoves_status ..).ite (.refl _), (windowMoves_flag ..).ite (.refl _), ?_⟩
    exact WindowMoves.ite ((windowMoves_alarm ..).ite (.refl _)) ((windowMoves_flag ..).ite (.refl _))
  obtain ⟨u, v, w, rfl, hw, hv, hu⟩ := hcases
  exact hw.trans (hv.trans hu)

theorem window_completes (hheld : s.held = false) (he : e < 8) (hruns : s.encRuns e = true) :
    Completes (.encoderWindow t e) s
      (fun u => u.obj (K.encRate e) = satSigned 32 ((s.enc e).moved * 1000) ∧
        u.obj (K.encAccel e) = satSigned 32 (if (s.enc e).rated then ((s.enc e).moved * 1000 - signed 32 (s.obj (K.encRate e))) * 1000
          else 0) ∧
        (u.enc e).moved = 0 ∧ (u.enc e).rated = true) (fun _ => True) := by
  have hmoves := window_moves (s := s.begin_ t) hruns
  have henc := hmoves.enc.trans (enc_setEnc_self ..)
  have hne : K.encRate e ≠ K.encAccel e := key_ne (by decide) (by decide) (.inr (by decide))
  have hlow {b : Nat} (hb : b < 256) : key (0x1501 + 16 * e) b < 0x700000 := encoder_low (i := 1) he hb (by decide)
  refine completes_eventOf (exec_encoderWindow t e s) (by simpa using he) hheld ⟨?_, ?_, by rw [henc]; rfl, by rw [henc]; rfl⟩
  · refine (hmoves.obj (K.encRate e) (hlow (by decide)) (key_ne (by decide) (by decide) (.inr (by decide)))
      (key_ne (by decide) (by decide) (.inr (by decide)))).trans ?_
    exact (obj_set_ne _ _ hne).trans (obj_set_self ..)
  · refine (hmoves.obj (K.encAccel e) (hlow (by decide)) (key_ne (by decide) (by decide) (.inr (by decide)))
      (key_ne (by decide) (by decide) (.inr (by decide)))).trans ?_
    exact obj_set_self ..

/-! ## Alarms -/

theorem leaves_encAlarm (u : State) (bit d : Nat) :
    Leaves (K.encFlags e :: evKeys (720 + 3 * e + (bit - 1))) (u.encAlarm e bit d) u :=
  (leaves_raise _ _ _ fun _ hk => List.mem_cons_of_mem _ hk).trans (leaves_encFlag _ _ _ (by simp))

/-- An alarm sets its flag and raises its source. -/
theorem encAlarm_holds {u : State} (he : e < 8) {bit n : Nat} (hn : 720 + 3 * e + (bit - 1) = n) (hhi : n < 768) (d : Nat)
    (hcount : u.obj (K.eventCount n) = s.obj (K.eventCount n)) (htime : u.time = s.time) :
    Holds (u.encAlarm e bit d) ((K.encFlags e, withBit (u.obj (K.encFlags e)) bit true) :: raisedBy s n d) := by
  subst hn
  refine holds_cons ?_ (holds_raise_of_ge d (by omega) hhi ?_ htime)
  · exact (obj_raise_of_lt _ _ _ (encoder_low (i := 1) he (by decide) (by decide))).trans (encFlag_self ..)
  · exact (encFlag_ne _ _ _ (eventKey_ne_encoder (i := 1) he (by decide) (by decide) (eventCount_ge _))).trans hcount

/-- A strip that stands, before a HOLD follows. -/
def standing (s : State) (e : Nat) : State :=
  (s.encAlarm e 1 0xFF).setEnc e { (s.encAlarm e 1 0xFF).enc e with stopped := some (s.encAlarm e 1 0xFF).clock }

theorem standstill_cases (hruns : s.encRuns e = true) : xEncoderStandstill e s =
    if (standing s e).mayStand && (standing s e).encDrives e then (standing s e).beginHold 2 e else standing s e := by
  have hstop : ¬ (!s.encRuns e) = true := by simp [hruns]
  rw [xEncoderStandstill, if_neg hstop]
  rfl

theorem standstill_sets (h : Awake s) (he : e < 8) (hruns : s.encRuns e = true) (hmode : s.mode ≠ mRun) :
    Sets (.encoderStandstill t e) s
      ((K.encFlags e, withBit (s.obj (K.encFlags e)) 1 true) :: raisedBy (s.begin_ t) (720 + 3 * e) 0xFF)
      (fun u => (u.enc e).stopped = some (max s.clock t)) := by
  have hstands : (standing (s.begin_ t) e).mode = s.mode := by
    have hbegun : (s.begin_ t).obj K.deviceMode = s.mode := rfl
    rw [State.mode, standing, obj_setEnc, ← hbegun]
    refine (leaves_encAlarm (s.begin_ t) 1 0xFF).obj K.deviceMode ?_ (by decide)
    simp only [evKeys, K.encFlags, K.eventStatus, K.eventCount, K.eventTime, K.eventDetail, K.deviceMode, key, List.mem_cons,
      List.not_mem_nil, or_false]
    omega
  have hrest : ¬ ((standing (s.begin_ t) e).mayStand && (standing (s.begin_ t) e).encDrives e) = true := by
    simp [State.mayStand, hstands, hmode]
  have heffect : xEncoderStandstill e (s.begin_ t) = standing (s.begin_ t) e := by
    rw [standstill_cases (s := s.begin_ t) hruns, if_neg hrest]
  have hnum : 720 + 3 * e + (1 - 1) = 720 + 3 * e := by omega
  refine sets_eventOf (exec_encoderStandstill t e s) (by simpa using he) h ?_ ?_ ?_ <;> rw [heffect]
  · have hl := leaves_encAlarm (e := e) (s.begin_ t) 1 0xFF
    rw [hnum] at hl
    exact (leaves_setEnc ..).trans hl
  · exact encAlarm_holds (s := s.begin_ t) (u := s.begin_ t) he hnum (by omega) 0xFF rfl rfl
  · rw [standing, enc_setEnc_self, State.encAlarm, raise_clock]
    rfl

theorem signalLoss_sets (h : Awake s) (he : e < 8) (hruns : s.encRuns e = true) :
    Sets (.encoderSignalLoss t e) s
      ((K.encFlags e, withBit (s.obj (K.encFlags e)) 3 true) :: raisedBy (s.begin_ t) (722 + 3 * e) 0xFF)
      (fun u => (u.enc e).quiet = 0) := by
  have hstop : ¬ (!(s.begin_ t).encRuns e) = true := by simpa using (show (s.begin_ t).encRuns e = true from hruns)
  have heffect : xEncoderSignalLoss e (s.begin_ t) =
      ((s.begin_ t).setEnc e { (s.begin_ t).enc e with signal := true, quiet := 0 }).encAlarm e 3 0xFF := by
    rw [xEncoderSignalLoss, if_neg hstop]
  have hnum : 720 + 3 * e + (3 - 1) = 722 + 3 * e := by omega
  refine sets_eventOf (exec_encoderSignalLoss t e s) (by simpa using he) h ?_ ?_ ?_ <;> rw [heffect]
  · refine ((leaves_encAlarm ..).mono fun k hk => ?_).trans (leaves_setEnc ..)
    rw [hnum] at hk
    exact hk
  · exact encAlarm_holds (s := s.begin_ t) he hnum (by omega) 0xFF rfl rfl
  · rw [State.encAlarm, enc_raise, encFlag_enc, enc_setEnc_self]

end

/-! ## Writes -/

section
variable {s t : State} {q : Req} {l : Loc} {e : Nat} {p : Put}

/-- Where the objects that are written of an encoder stand. -/
theorem put_encoder (hform : p.l.row.form = .encoder) (hattr : p.l.row.attr = 0) (he : p.l.unit < 8)
    (hindex : p.index = 0x1500 + 16 * p.l.unit) :
    (p.sub = 10 → putTiming t p = (t.poke p.key_ p.v).loadPosition p.l.unit p.v) ∧
    (p.sub = 2 → putTiming t p = xEncEnable p.l.unit p.v (t.poke p.key_ p.v)) ∧
    (p.sub = 3 ∨ p.sub = 5 → putTiming t p = t.poke p.key_ p.v) := by
  have hset : p.key_ ≠ K.timeSet ∧ p.key_ ≠ K.timePtpEnable := by
    simp only [Put.key_, hindex, K.timeSet, K.timePtpEnable, key]
    omega
  have hrow : (decide (p.l.row.form = .encoder) && decide (p.index % 16 = 0)) = true := by
    simp only [hform, decide_true, Bool.true_and, decide_eq_true_eq]
    omega
  refine ⟨fun hsub => ?_, fun hsub => ?_, fun hsub => ?_⟩
  · simp only [putTiming, putValue_stored t hattr, hset, if_false, hrow, if_true, hsub]
    rfl
  · simp only [putTiming, putValue_stored t hattr, hset, if_false, hrow, if_true, hsub]
  · rcases hsub with hsub | hsub <;> simp only [putTiming, putValue_stored t hattr, hset, if_false, hrow, if_true, hsub]

/-- An accepted write of an encoder's object. -/
theorem put_encoder_at {b : Nat} (he : e < 8) (hb : b < 256) (h0 : b ≠ 0)
    (h : Accepts s (onObject q (key (0x1500 + 16 * e) b)) l) (hplace : place (key (0x1500 + 16 * e) b) = some (.encoder, 0, e, b)) :
    (b = 10 → putTiming t (putAt s q (key (0x1500 + 16 * e) b) l) = (t.poke (key (0x1500 + 16 * e) b) (ofLE q.body)).loadPosition e
      (ofLE q.body)) ∧
    (b = 2 → putTiming t (putAt s q (key (0x1500 + 16 * e) b) l) = xEncEnable e (ofLE q.body) (t.poke (key (0x1500 + 16 * e) b)
      (ofLE q.body))) ∧
    (b = 3 ∨ b = 5 → putTiming t (putAt s q (key (0x1500 + 16 * e) b) l) = t.poke (key (0x1500 + 16 * e) b) (ofLE q.body)) := by
  have hdiv : key (0x1500 + 16 * e) b / 256 = 0x1500 + 16 * e := key_div hb
  have hmod : key (0x1500 + 16 * e) b % 256 = b := key_mod hb
  obtain ⟨hform, hattr, hunit, -⟩ := accepted_row h (by omega) hplace
  have hput := put_encoder (t := t) (p := putAt s q (key (0x1500 + 16 * e) b) l) hform hattr (by rwa [putAt_l, hunit])
    (by rw [putAt_index, putAt_l, hunit, hdiv])
  simpa only [putAt_l, putAt_sub, putAt_v, putAt_key, hunit, hmod] using hput

theorem encoder_access {b : Nat} (he : e < 8) (hb : b < 256) (i : Nat) (hi : i < 2) : accessKey (key (0x1500 + i + 16 * e) b) = false :=
  access_key_false hb (by omega)

/-- A write that only stores its value. -/
theorem encStored_writes {c : Instr} {b : Nat} (he : e < 8) (hb : b = 3 ∨ b = 5) (hsafe : s.safeAsk = 0)
    (hc : exec c s = s.asks (onObject q (key (0x1500 + 16 * e) b)) .write)
    (h : Accepts s (onObject q (key (0x1500 + 16 * e) b)) l) (hplace : place (key (0x1500 + 16 * e) b) = some (.encoder, 0, e, b)) :
    Writes c s (onObject q (key (0x1500 + 16 * e) b)) l [(key (0x1500 + 16 * e) b, ofLE q.body)] (fun _ => True) := by
  have hb' : b < 256 ∧ b ≠ 0 := by omega
  have hrange : 0x140000 ≤ key (0x1500 + 16 * e) b ∧ key (0x1500 + 16 * e) b < 0x180000 := by
    simp only [key]
    omega
  exact writes_of_put hc hsafe h (written_timing hrange.1 hrange.2) ((put_encoder_at he hb'.1 hb'.2 h hplace).2.2 hb)
    (leaves_poke _ _ (by simp)) (holds_cons (obj_poke_self ..) (holds_nil _)) trivial

theorem encPreset_writes (he : e < 8) (hsafe : s.safeAsk = 0) (h : Accepts s (onObject q (K.encPreset e)) l) :
    Writes (.encPresetWrite q e) s (onObject q (K.encPreset e)) l
      [(K.encPreset e, ofLE q.body), (K.encPosition e, ofLE q.body), (K.encFlags e, withBit (s.obj (K.encFlags e)) 0 true)]
      (fun _ => True) := by
  have hput := (put_encoder_at (t := s.access (onObject q (K.encPreset e))) he (by decide) (by decide) h (place_encPreset e he)).1 rfl
  have hrange : 0x140000 ≤ K.encPreset e ∧ K.encPreset e < 0x180000 := by
    simp only [K.encPreset, key]
    omega
  have hposition : K.encPreset e ≠ K.encPosition e := key_ne (by decide) (by decide) (.inr (by decide))
  have hflags : K.encPreset e ≠ K.encFlags e := key_ne (by decide) (by decide) (.inr (by decide))
  have hkept : ((s.access (onObject q (K.encPreset e))).poke (K.encPreset e) (ofLE q.body)).obj (K.encFlags e) = s.obj (K.encFlags e) :=
    (obj_poke_ne _ _ hflags.symm).trans (obj_access h (encoder_access he (by decide) 1 (by decide)))
  have hv := loadPosition_holds (e := e) ((s.access (onObject q (K.encPreset e))).poke (K.encPreset e) (ofLE q.body)) (ofLE q.body)
  rw [hkept] at hv
  refine writes_of_put (asks_of_writesOf (exec_encPresetWrite q e s) (by simpa using he)) hsafe h (written_timing hrange.1 hrange.2) hput
    (((leaves_loadPosition ..).mono fun _ hk => List.mem_cons_of_mem _ hk).trans (leaves_poke _ _ (List.mem_cons_self ..))) (holds_cons ?_ hv) trivial
  exact ((leaves_loadPosition (e := e) _ _).obj (K.encPreset e) (by simp [hposition, hflags])
    (encoder_settled he (by decide) 0 (by decide))).trans (obj_poke_self ..)

theorem encEnable_writes (he : e < 8) (hsafe : s.safeAsk = 0) (h : Accepts s (onObject q (K.encEnable e)) l) :
    Writes (.encEnable q e) s (onObject q (K.encEnable e)) l
      [(K.encEnable e, ofLE q.body), (K.encStatus e, enWrite (s.obj (K.encStatus e)) (ofLE q.body))] (fun _ => True) := by
  have hput := (put_encoder_at (t := s.access (onObject q (K.encEnable e))) he (by decide) (by decide) h (place_encEnable e he)).2.1 rfl
  have hrange : 0x140000 ≤ K.encEnable e ∧ K.encEnable e < 0x180000 := by
    simp only [K.encEnable, key]
    omega
  have hstatus : K.encEnable e ≠ K.encStatus e := key_ne (by decide) (by decide) (.inr (by decide))
  have hkept : ((s.access (onObject q (K.encEnable e))).poke (K.encEnable e) (ofLE q.body)).obj (K.encStatus e) = s.obj (K.encStatus e) :=
    (obj_poke_ne _ _ hstatus.symm).trans (obj_access h (encoder_access he (by decide) 1 (by decide)))
  refine writes_of_put (asks_of_writesOf (exec_encEnable q e s) (by simpa using he)) hsafe h (written_timing hrange.1 hrange.2) hput
    ((leaves_set _ _ (by simp)).trans (leaves_poke _ _ (List.mem_cons_self ..))) (holds_cons ?_ (holds_cons ?_ (holds_nil _))) trivial
  · exact (obj_set_ne _ _ hstatus).trans (obj_poke_self ..)
  · refine (obj_set_self ..).trans ?_
    exact congrArg (fun b => enWrite b (ofLE q.body)) hkept

end

/-- Settles O30: each event by the branch that its hypotheses leave, each write by its subindex. -/
theorem encodersAreWatchedAndWritten : Obligations.EncodersAreWatchedAndWritten := by
  unfold Obligations.EncodersAreWatchedAndWritten
  refine ⟨fun s t e h he hruns hindex => ⟨zEdge_captures h he hruns hindex, zEdge_presets h he hruns⟩,
    fun s t e hheld he hruns => window_completes hheld he hruns, fun s t e h he hruns hmode => standstill_sets h he hruns hmode,
    fun s t e h he hruns => signalLoss_sets h he hruns,
    fun s q l e hsafe he => ⟨encPreset_writes he hsafe, fun h => ?_, fun h => ?_, encEnable_writes he hsafe⟩⟩
  · exact encStored_writes he (.inl rfl) hsafe (asks_of_writesOf (exec_encFilterWrite q e false s) (by simpa using he)) h
      (place_encGlitch e he)
  · exact encStored_writes he (.inr rfl) hsafe (asks_of_writesOf (exec_encFilterWrite q e true s) (by simpa using he)) h
      (place_encRateMax e he)

end Sys2Proof.Proofs
end

section
/-! # REFCLK and the synthesisers (R155, R156)

A loss of REFCLK flags every synthesiser and a return clears the flags; a synthesiser that locks ends STARTING and shows its phase. -/

set_option Elab.async false

namespace Sys2Proof.Proofs

open Sys2Proof Sys2Proof.Machine Sys2Proof.Laws

/-! ## Bits of a word -/

theorem withBit_div (v i : Nat) (b : Bool) : withBit v i b / 2 ^ i = v / 2 ^ (i + 1) * 2 + ofBool b := by
  have hb : ofBool b < 2 := by cases b <;> decide
  have hmod : ofBool b % 2 ^ (i + 1 - i) = ofBool b := by
    rw [Nat.add_sub_cancel_left]
    exact Nat.mod_eq_of_lt hb
  have hsum : withBit v i b = v % 2 ^ i + (v / 2 ^ (i + 1) * 2 + ofBool b) * 2 ^ i := by
    rw [withBit, withBits, hmod, Nat.shiftRight_eq_div_pow, Nat.shiftLeft_eq, Nat.shiftLeft_eq]
    ring
  rw [hsum, Nat.add_mul_div_right _ _ (Nat.two_pow_pos i), Nat.div_eq_of_lt (Nat.mod_lt _ (Nat.two_pow_pos i)), Nat.zero_add]

theorem testBit_withBit_self (v i : Nat) (b : Bool) : (withBit v i b).testBit i = b := by
  rw [Nat.testBit_eq_decide_div_mod_eq, withBit_div]
  cases b <;> simp [ofBool]

/-! ## One object of each unit of a list -/

section
variable {f : State → Nat → State} {key : Nat → Nat} {g : Nat → Nat}

/-- Units that each change one object of their own: the object of a unit of the list is changed once. -/
theorem obj_foldl_units (hself : ∀ s n, (f s n).obj (key n) = g (s.obj (key n)))
    (hother : ∀ s n m, n ≠ m → (f s m).obj (key n) = s.obj (key n)) (xs : List Nat) (hnodup : xs.Nodup) (s : State) {n : Nat}
    (hn : n ∈ xs) : (xs.foldl f s).obj (key n) = g (s.obj (key n)) := by
  have hkept (ys : List Nat) (t : State) (h : n ∉ ys) : (ys.foldl f t).obj (key n) = t.obj (key n) := by
    induction ys generalizing t with
    | nil => rfl
    | cons y ys ih =>
      rw [List.mem_cons, not_or] at h
      exact (ih _ h.2).trans (hother _ _ _ h.1)
  induction xs generalizing s with
  | nil => exact absurd hn List.not_mem_nil
  | cons x xs ih =>
    obtain ⟨hx, hxs⟩ := List.nodup_cons.1 hnodup
    by_cases heq : n = x
    · subst heq
      exact (hkept xs _ hx).trans (hself s n)
    · exact (ih hxs _ (List.mem_of_ne_of_mem heq hn)).trans (congrArg g (hother _ _ _ heq))

end

/-! ## The bits HOLDOVER -/

section
variable {s : State} {t q : Nat}

theorem timeSynStatus_inj {p : Nat} (h : p ≠ q) : K.timeSynStatus p ≠ K.timeSynStatus q := key_ne (by decide) (by decide) (by omega)

theorem mem_allQuads {v : Variant} : q ∈ allQuads v ↔ q < quadCount v := List.mem_range

theorem holdoverBits_status (b : Bool) (hq : q < quadCount s.variant) :
    (s.holdoverBits b).obj (K.timeSynStatus q) = withBit (s.obj (K.timeSynStatus q)) 4 b :=
  obj_foldl_units (key := K.timeSynStatus) (g := fun v => withBit v 4 b) (fun _ _ => obj_set_self ..)
    (fun _ _ _ hne => obj_set_ne _ _ (timeSynStatus_inj hne)) _ List.nodup_range s (mem_allQuads.2 hq)

theorem leaves_holdoverBits (b : Bool) : Leaves ((allQuads s.variant).map K.timeSynStatus) (s.holdoverBits b) s :=
  leaves_foldl _ _ _ fun _ _ hq => leaves_set _ _ (List.mem_map_of_mem hq)

/-! ## The loss -/

/-- REFCLK is lost: holdover, the count, the instant. -/
def refclkGone (s : State) : State :=
  let t := (State.riseIf s (s.set K.timeRefclkState 1) 749 0).count K.timeRefclkLosses 32 1
  { t with refLost := t.clock }

theorem refclkLoss_eq (h : s.obj K.timeRefclkState = 0) :
    xRefclkLoss s = (allTiles (refclkGone s).variant).foldl (fun st n => st.unlockTiming n) ((refclkGone s).holdoverBits true) := by
  have hcases : xRefclkLoss s = if s.obj K.timeRefclkState = 1 then s else
    (allTiles (refclkGone s).variant).foldl (fun st n => st.unlockTiming n) ((refclkGone s).holdoverBits true) := rfl
  rw [hcases, if_neg (by rw [h]; decide)]

/-- What the end of the locks and of a calibration that does not run leaves alone. -/
structure KeepsClock (u v : State) : Prop where
  obj : ∀ k < 0x300000, u.obj k = v.obj k
  refLost : u.refLost = v.refLost
  tiles : u.tiles = v.tiles

theorem KeepsClock.refl (u : State) : KeepsClock u u := ⟨fun _ _ => rfl, rfl, rfl⟩

theorem KeepsClock.trans {a b c : State} (h : KeepsClock a b) (g : KeepsClock b c) : KeepsClock a c :=
  ⟨fun k hk => (h.obj k hk).trans (g.obj k hk), h.refLost.trans g.refLost, h.tiles.trans g.tiles⟩

theorem keepsClock_set (u : State) {k v : Nat} (h : 0x300000 ≤ k) : KeepsClock (u.set k v) u :=
  ⟨fun _ hi => obj_set_ne _ _ (by omega), rfl, rfl⟩

theorem keepsClock_unlockTiming (u : State) (n : Nat) : KeepsClock (u.unlockTiming n) u := by
  have h {i b : Nat} (hi : 0x3000 ≤ i) : 0x300000 ≤ key i b := by
    simp only [key]
    omega
  exact (keepsClock_set _ (h (by omega))).trans ((keepsClock_set _ (h (by omega))).trans (keepsClock_set _ (h (by omega))))

theorem keepsClock_foldl {α : Type} (f : State → α → State) (h : ∀ u x, KeepsClock (f u x) u) (xs : List α) (u : State) :
    KeepsClock (xs.foldl f u) u := by
  induction xs generalizing u with
  | nil => exact .refl u
  | cons x xs ih => exact (ih _).trans (h u x)

/-- Where no tile calibrates, an abort of calibrations only shows so. -/
theorem abortCal_empty (p : Nat → Bool) (h : s.calTiles = []) : s.abortCal p = s.showCal := by
  simp only [State.abortCal, State.pumpCal, h, List.filter_nil, List.foldl_nil]
  rfl

theorem abortCal_none (p : Nat → Bool) (h : s.calTiles = []) : KeepsClock (s.abortCal p) s := by
  rw [abortCal_empty p h]
  unfold State.showCal
  extract_lets ns u v
  have hv : KeepsClock v s := (keepsClock_set _ (by decide)).trans (keepsClock_set _ (by decide))
  split
  · exact hv
  · exact (keepsClock_set _ (by decide)).trans hv

theorem synStatus_low (hq : q < quadCount s.variant) : K.timeSynStatus q < 0x300000 := by
  have h4 : quadCount s.variant ≤ 4 := by cases s.variant <;> decide
  simp only [K.timeSynStatus, key]
  omega

theorem refclkGone_shows (k : Nat) :
    (refclkGone s).obj k = ((State.riseIf s (s.set K.timeRefclkState 1) 749 0).count K.timeRefclkLosses 32 1).obj k := rfl

theorem refclkGone_obj {k : Nat} (h1 : k ≠ K.timeRefclkLosses) (h2 : k ≠ K.timeRefclkState) (hk : k < 0x700000) :
    (refclkGone s).obj k = s.obj k := by
  rw [refclkGone_shows, obj_count_ne _ _ _ h1, obj_riseIf_of_lt hk, obj_set_ne _ _ h2]

theorem riseIf_variant (before after : State) (n d : Nat) : (State.riseIf before after n d).variant = after.variant := by
  unfold State.riseIf
  split
  · exact raise_variant ..
  · rfl

theorem refclkGone_variant : (refclkGone s).variant = s.variant := by
  have h : (refclkGone s).variant = (State.riseIf s (s.set K.timeRefclkState 1) 749 0).variant := rfl
  rw [h, riseIf_variant, set_variant]

theorem riseIf_clock (before after : State) (n d : Nat) : (State.riseIf before after n d).clock = after.clock := by
  unfold State.riseIf
  split
  · exact raise_clock ..
  · rfl

theorem riseIf_tiles (before after : State) (n d : Nat) : (State.riseIf before after n d).tiles = after.tiles := by
  unfold State.riseIf
  split
  · exact raise_tiles ..
  · rfl

theorem refclkGone_refLost : (refclkGone s).refLost = s.clock := by
  have h : (refclkGone s).refLost = ((State.riseIf s (s.set K.timeRefclkState 1) 749 0).count K.timeRefclkLosses 32 1).clock := rfl
  rw [h, count_clock, riseIf_clock, set_clock]

theorem refclkGone_tiles : (refclkGone s).tiles = s.tiles := by
  have h : (refclkGone s).tiles = ((State.riseIf s (s.set K.timeRefclkState 1) 749 0).count K.timeRefclkLosses 32 1).tiles := rfl
  rw [h, count_tiles, riseIf_tiles, set_tiles]

theorem holdoverBits_refLost (b : Bool) : (s.holdoverBits b).refLost = s.refLost :=
  foldl_keeps State.refLost _ _ _ fun _ _ => rfl

theorem holdoverBits_tiles (b : Bool) : (s.holdoverBits b).tiles = s.tiles := foldl_keeps State.tiles _ _ _ fun _ _ => rfl

/-- What a loss leaves, but for the tiles' ratios and calibration. -/
theorem lossOfRefclk_keeps (hstate : s.obj K.timeRefclkState = 0) (htiles : s.calTiles = []) :
    KeepsClock (lossOfRefclk s) ((refclkGone s).holdoverBits true) := by
  have hunlock : KeepsClock (xRefclkLoss s) ((refclkGone s).holdoverBits true) := by
    rw [refclkLoss_eq hstate]
    exact keepsClock_foldl _ keepsClock_unlockTiming _ _
  have hnone : (xRefclkLoss s).calTiles = [] := by
    rw [State.calTiles, hunlock.tiles, holdoverBits_tiles, refclkGone_tiles]
    exact htiles
  exact (abortCal_none _ hnone).trans hunlock

theorem holdoverBits_other (b : Bool) {k : Nat} (hk : k < 0x141000) : (s.holdoverBits b).obj k = s.obj k :=
  foldl_keeps (fun u => u.obj k) _ _ _ fun _ q => obj_set_ne _ _ (by simp only [K.timeSynStatus, key]; omega)

theorem refclkLoss_completes (hheld : s.held = false) (hstate : s.obj K.timeRefclkState = 0) (htiles : s.calTiles = []) :
    Completes (.refclkLoss t) s
      (fun u => u.obj K.timeRefclkState = 1 ∧ u.obj K.timeRefclkLosses = satAdd 32 (s.obj K.timeRefclkLosses) 1 ∧
        u.refLost = max s.clock t ∧ ∀ q < quadCount s.variant, (u.obj (K.timeSynStatus q)).testBit 4 = true) (fun _ => True) := by
  have hkeeps := lossOfRefclk_keeps (s := s.begin_ t) hstate htiles
  refine completes_event (exec_refclkLoss t s) hheld ⟨?_, ?_, ?_, fun q hq => ?_⟩
  · rw [hkeeps.obj _ (by decide), holdoverBits_other _ (by decide), refclkGone_shows, obj_count_ne _ _ _ (by decide),
      obj_riseIf_of_lt (by decide), obj_set_self]
  · rw [hkeeps.obj _ (by decide), holdoverBits_other _ (by decide), refclkGone_shows, obj_count_self, obj_riseIf_of_lt (by decide),
      obj_set_ne _ _ (by decide)]
    rfl
  · rw [hkeeps.refLost, holdoverBits_refLost, refclkGone_refLost]
    rfl
  · have hq' : q < quadCount (refclkGone (s.begin_ t)).variant := by
      rw [refclkGone_variant]
      exact hq
    rw [hkeeps.obj _ (synStatus_low hq'), holdoverBits_status _ hq', testBit_withBit_self]

/-! ## The return -/

/-- REFCLK is back. -/
def refclkBack (s : State) : State :=
  (s.set K.timeRefclkState 0).set K.timeRefclkHoldoverMs (((s.set K.timeRefclkState 0).clock - s.refLost) / perMs)

theorem refclkReturn_sets (h : Awake s) (hstate : s.obj K.timeRefclkState = 1) :
    Sets (.refclkReturn t) s
      ([(K.timeRefclkState, 0), (K.timeRefclkHoldoverMs, (max s.clock t - s.refLost) / perMs)] ++
        (allQuads s.variant).map (fun q => (K.timeSynStatus q, withBit (s.obj (K.timeSynStatus q)) 4 false))) (fun _ => True) := by
  have hlost : ¬ (s.begin_ t).obj K.timeRefclkState = 0 := by
    have hbegun : (s.begin_ t).obj K.timeRefclkState = 1 := hstate
    rw [hbegun]
    decide
  have heffect : xRefclkReturn (s.begin_ t) = (refclkBack (s.begin_ t)).holdoverBits false := if_neg hlost
  have hback {k : Nat} (h1 : k ≠ K.timeRefclkHoldoverMs) (h2 : k ≠ K.timeRefclkState) : (refclkBack (s.begin_ t)).obj k = s.obj k :=
    (obj_set_ne _ _ h1).trans (obj_set_ne (s.begin_ t) _ h2)
  refine sets_event (exec_refclkReturn t s) h ?_ ?_ trivial <;> rw [heffect]
  · refine ((leaves_holdoverBits false).mono fun k hk => ?_).trans ((leaves_set _ _ (by simp)).trans (leaves_set _ _ (by simp)))
    rw [List.map_append, List.map_map]
    exact List.mem_append_right _ hk
  · refine holds_append (holds_cons ?_ (holds_cons ?_ (holds_nil _))) (List.forall_mem_map.2 fun q hq => ?_)
    · exact (holdoverBits_other _ (show K.timeRefclkState < _ by decide)).trans ((obj_set_ne _ _ (by decide)).trans (obj_set_self ..))
    · exact (holdoverBits_other _ (show K.timeRefclkHoldoverMs < _ by decide)).trans (obj_set_self ..)
    · have hne {i : Nat} (hi : i < 256) : K.timeSynStatus q ≠ key 0x1402 i := key_ne (by decide) hi (.inl (by omega))
      refine (holdoverBits_status (s := refclkBack (s.begin_ t)) false (mem_allQuads.1 hq)).trans ?_
      rw [hback (hne (by decide)) (hne (by decide))]

/-! ## A lock -/

theorem leaves_measurePace (u : State) (n : Nat) : Leaves ((List.range 8).map K.fabricPaceOffset) (u.measurePace n) u :=
  leaves_foldl _ _ _ fun _ _ hi => leaves_ite (fun _ => (leaves_set _ _ (List.mem_map_of_mem hi)).trans (leaves_draw ..))
    fun _ => Leaves.refl ..

/-- An edge of a quadrant's clock that comes some ps from now. -/
def edgeAfter (u : State) (q ps : Nat) : State :=
  { u with quadEdge := Sp.put (fun _ => 0) u.quadEdge q (u.clock + ps * 65536 / 1000) }

theorem leaves_edgeAfter (u : State) (q ps : Nat) {ks : List Nat} : Leaves ks (edgeAfter u q ps) u :=
  leaves_of_dict rfl rfl rfl rfl rfl rfl

theorem obj_edgeAfter (u : State) (q ps k : Nat) : (edgeAfter u q ps).obj k = u.obj k := rfl

/-- A synthesiser that comes to read ON, with its phase. -/
def lockShown (s : State) (q ps : Nat) : State :=
  ((edgeAfter (s.set (K.timeSynStatus q) (enEnd (s.obj (K.timeSynStatus q)))) q ps).set (K.timeSynPhase q) ps).count (K.timeSynLocks q) 32 1

theorem synthLocked_eq {phase : Int} (hstate : enState (s.obj (K.timeSynStatus q)) = 1)
    (hon : isOn (enEnd (s.obj (K.timeSynStatus q))) = true) (hpos : 0 ≤ phase)
    (hperiod : phase < (Frac.div ⟨1000000000000, 1⟩ (fracOfF32 (s.obj (K.timeSynFreq q)))).ceil) :
    xSynthLocked q phase s = lockShown s q phase.toNat := by
  have hfreq : (s.set (K.timeSynStatus q) (enEnd (s.obj (K.timeSynStatus q)))).obj (K.timeSynFreq q) = s.obj (K.timeSynFreq q) :=
    obj_set_ne _ _ (key_ne (by decide) (by decide) (.inr (by decide)))
  have hps : phase.toNat % max 1 (Frac.div ⟨1000000000000, 1⟩ (fracOfF32 ((s.set (K.timeSynStatus q)
      (enEnd (s.obj (K.timeSynStatus q)))).obj (K.timeSynFreq q)))).ceil = phase.toNat := by
    rw [hfreq]
    exact Nat.mod_eq_of_lt (by omega)
  have hcases : xSynthLocked q phase s = if enState (s.obj (K.timeSynStatus q)) ≠ 1 then s
      else if !isOn (enEnd (s.obj (K.timeSynStatus q))) then s.set (K.timeSynStatus q) (enEnd (s.obj (K.timeSynStatus q)))
      else lockShown s q (phase.toNat % max 1 (Frac.div ⟨1000000000000, 1⟩ (fracOfF32 ((s.set (K.timeSynStatus q)
        (enEnd (s.obj (K.timeSynStatus q)))).obj (K.timeSynFreq q)))).ceil) := rfl
  have hstarts : ¬ enState (s.obj (K.timeSynStatus q)) ≠ 1 := not_not.2 hstate
  have hgoesOn : ¬ (!isOn (enEnd (s.obj (K.timeSynStatus q)))) = true := by simp [hon]
  rw [hcases, if_neg hstarts, if_neg hgoesOn, hps]

theorem leaves_lockShown (ps : Nat) : Leaves [K.timeSynStatus q, K.timeSynPhase q, K.timeSynLocks q] (lockShown s q ps) s :=
  (leaves_count _ _ _ (by simp)).trans ((leaves_set _ _ (by simp)).trans ((leaves_edgeAfter ..).trans (leaves_set _ _ (by simp))))

theorem lockShown_obj (ps : Nat) : (lockShown s q ps).obj (K.timeSynStatus q) = enEnd (s.obj (K.timeSynStatus q)) ∧
    (lockShown s q ps).obj (K.timeSynPhase q) = ps ∧ (lockShown s q ps).obj (K.timeSynLocks q) = satAdd 32 (s.obj (K.timeSynLocks q)) 1 := by
  have h1 : K.timeSynStatus q ≠ K.timeSynLocks q := key_ne (by decide) (by decide) (.inr (by decide))
  have h2 : K.timeSynStatus q ≠ K.timeSynPhase q := key_ne (by decide) (by decide) (.inr (by decide))
  have h3 : K.timeSynPhase q ≠ K.timeSynLocks q := key_ne (by decide) (by decide) (.inr (by decide))
  refine ⟨?_, ?_, ?_⟩
  · exact (obj_count_ne _ _ _ h1).trans ((obj_set_ne _ _ h2).trans ((obj_edgeAfter ..).trans (obj_set_self ..)))
  · exact (obj_count_ne _ _ _ h3).trans (obj_set_self ..)
  · refine (obj_count_self ..).trans ?_
    rw [obj_set_ne _ _ h3.symm, obj_edgeAfter, obj_set_ne _ _ h1.symm]

theorem synthLocked_completes {phase : Int} (h : Awake s) (hq : q < quadCount s.variant)
    (hstate : enState (s.obj (K.timeSynStatus q)) = 1) (hon : isOn (enEnd (s.obj (K.timeSynStatus q))) = true) (hpos : 0 ≤ phase)
    (hperiod : phase < (Frac.div ⟨1000000000000, 1⟩ (fracOfF32 (s.obj (K.timeSynFreq q)))).ceil) :
    Completes (.synthLocked t q phase) s
      (fun u => u.obj (K.timeSynStatus q) = enEnd (s.obj (K.timeSynStatus q)) ∧ u.obj (K.timeSynPhase q) = phase.toNat ∧
        u.obj (K.timeSynLocks q) = satAdd 32 (s.obj (K.timeSynLocks q)) 1)
      (fun v => Frame s v ([K.timeSynStatus q, K.timeSynPhase q, K.timeSynLocks q] ++ (List.range 8).map K.fabricPaceOffset)) := by
  have heffect : synthLocks q phase (s.begin_ t) = (lockShown (s.begin_ t) q phase.toNat).measurePace q := by
    rw [synthLocks, synthLocked_eq (s := s.begin_ t) hstate hon hpos hperiod]
  have hnext := (exec_synthLocked t q phase s).trans (eventOf_next _ _ _ _ (by simpa using hq) h.1)
  rw [heffect] at hnext
  have hpace := leaves_measurePace (lockShown (s.begin_ t) q phase.toNat) q
  have hquad : q < 4 := lt_of_lt_of_le hq (by cases s.variant <;> decide)
  have hobj {b : Nat} (hb : b < 256) :
      ((lockShown (s.begin_ t) q phase.toNat).measurePace q).obj (key (0x1410 + q) b) =
        (lockShown (s.begin_ t) q phase.toNat).obj (key (0x1410 + q) b) := by
    refine hpace.obj _ (fun hm => ?_) (settledKey_key_false hb (by omega))
    obtain ⟨i, -, hi⟩ := List.mem_map.1 hm
    simp only [K.fabricPaceOffset, key] at hi
    omega
  obtain ⟨hstatus, hphase, hlocks⟩ := lockShown_obj (s := s.begin_ t) (q := q) phase.toNat
  refine completes_leaves hnext h.2 ((hpace.mono fun _ => List.mem_append_right _).trans
    ((leaves_lockShown (s := s.begin_ t) _).mono fun _ => List.mem_append_left _) |>.trans (leaves_begin s t)) ⟨?_, ?_, ?_⟩ fun _ _ hf => hf
  · exact (hobj (by decide)).trans hstatus
  · exact (hobj (by decide)).trans hphase
  · exact (hobj (by decide)).trans hlocks

end

/-- Settles O27: the loss and the return go over the synthesisers one by one; a lock's phase lies within one period. -/
theorem referenceClockIsFollowed : Obligations.ReferenceClockIsFollowed := by
  unfold Obligations.ReferenceClockIsFollowed
  refine ⟨fun s t hheld hstate htiles => refclkLoss_completes hheld hstate htiles, fun s t h hstate => refclkReturn_sets h hstate,
    fun s t q phase h hq hstate hon hpos hperiod => synthLocked_completes h hq hstate hon hpos hperiod⟩

end Sys2Proof.Proofs
end

section
/-! # Resets (R80, R95, R102, R401, R412)

A reset builds its dictionary from the objects kept in flash and in the board store, so every other object reads its default. -/

set_option Elab.async false

namespace Sys2Proof.Proofs

open Sys2Proof Sys2Proof.Machine Sys2Proof.Laws

/-! ## What a reset keeps of the dictionary -/

section
variable (s : State) {cause : Nat} {cold : Bool}

/-- The state with the records of its pins replaced. -/
def withPins (s : State) (x : List (Nat × Pin)) : State := { s with pins := x }

theorem latchPins_pins (before : State) : ∃ x, s.latchPins before = withPins s x := by
  unfold State.latchPins
  generalize List.range 96 = ks
  induction ks generalizing s with
  | nil => exact ⟨s.pins, rfl⟩
  | cons k ks ih => exact ih (s.modPin k fun x => { x with latched := before.latchable (before.pinDrive k) })

/-- Keys put one after another leave the other keys as they were. -/
theorem get_foldl_put (d g : Nat → Nat) {k : Nat} (keys : List Nat) (m : List (Nat × Nat)) (h : k ∉ keys) :
    Sp.get d (keys.foldl (fun m j => Sp.put d m j (g j)) m) k = Sp.get d m k := by
  induction keys generalizing m with
  | nil => rfl
  | cons j keys ih =>
    rw [List.mem_cons, not_or] at h
    exact (ih _ h.2).trans (get_put_ne d m _ h.1)

/-- An object that is kept neither in flash nor in the board store reads its default. -/
theorem get_kept {k : Nat} (hselect : k ≠ K.versionsMgmtSelect) (hboard : k ≠ K.boardState)
    (hlost : ∀ l, locateKey k = some l → l.row.attr.testBit 2 = false) :
    Sp.get (defaultOf s.variant) s.kept k = defaultOf s.variant k := by
  unfold State.kept
  extract_lets keys m₀ m old
  refine (get_put_ne _ _ _ hboard).trans ((get_put_ne _ _ _ hselect).trans (get_foldl_put _ _ _ _ fun hk => ?_))
  have hbit := (List.mem_filter.1 hk).2
  split at hbit
  next l hl => exact absurd (hlost l hl) (by simp [hbit])
  next => exact absurd hbit (by decide)

/-- What a reset leaves, before the pins come to their latches. -/
theorem restarted_eq (cause : Nat) (cold : Bool) : ∃ n x, s.restarted cause cold = withPins n x ∧
    n.dict = Sp.put (defaultOf s.variant) s.kept K.deviceResetCause cause ∧ n.variant = s.variant ∧ n.transfers = [] ∧ n.subs = [] ∧
    n.replays = [] ∧ n.trace = [] ∧ n.ctxs = [] ∧ n.inForce = [] ∧ n.trans = .idle ∧ n.boot.step = .held ∧ n.porLow = s.porLow ∧
    n.railsLow = s.railsLow ∧ n.safeAsk = 0 := by
  unfold State.restarted
  extract_lets s' fresh blank idle n n'
  cases cold with
  | true => exact ⟨n', n'.pins, rfl, rfl, rfl, rfl, rfl, rfl, rfl, rfl, rfl, rfl, rfl, rfl, rfl, rfl⟩
  | false =>
    obtain ⟨x, hx⟩ := latchPins_pins n' s'
    exact ⟨n', x, hx, rfl, rfl, rfl, rfl, rfl, rfl, rfl, rfl, rfl, rfl, rfl, rfl, rfl⟩

theorem deviceMode_lost : ∀ l, locateKey K.deviceMode = some l → l.row.attr.testBit 2 = false := by decide +kernel

theorem deviceMode_default (v : Variant) : defaultOf v K.deviceMode = mBoot := by cases v <;> decide +kernel

theorem obj_restarted {k : Nat} (hcause : k ≠ K.deviceResetCause) (hselect : k ≠ K.versionsMgmtSelect) (hboard : k ≠ K.boardState)
    (hlost : ∀ l, locateKey k = some l → l.row.attr.testBit 2 = false) :
    (s.restarted cause cold).obj k = defaultOf s.variant k := by
  obtain ⟨n, x, heq, hdict, hvar, -⟩ := restarted_eq s cause cold
  calc (s.restarted cause cold).obj k = Sp.get (defaultOf n.variant) n.dict k := by rw [heq]; rfl
    _ = Sp.get (defaultOf s.variant) s.kept k := by rw [hvar, hdict, get_put_ne _ _ _ hcause]
    _ = defaultOf s.variant k := get_kept s hselect hboard hlost

/-- Every reset restarts the device with its cause. -/
theorem restarted_restarts : Restarted s (s.restarted cause cold) cause [] := by
  have hmode : (s.restarted cause cold).mode = mBoot :=
    (obj_restarted s (by decide) (by decide) (by decide) deviceMode_lost).trans (deviceMode_default _)
  have hobj : ∀ k, k ∉ [K.deviceResetCause, K.versionsMgmtSelect, K.boardState] ++ [] →
      (∀ l, locateKey k = some l → l.row.attr.testBit 2 = false) → (s.restarted cause cold).obj k = defaultOf s.variant k := by
    intro k hk hlost
    simp only [List.append_nil, List.mem_cons, List.not_mem_nil, or_false, not_or] at hk
    exact obj_restarted s hk.1 hk.2.1 hk.2.2 hlost
  obtain ⟨n, x, heq, hdict, hvar, htransfers, hsubs, hreplays, htrace, hctxs, hforce, htrans, -⟩ := restarted_eq s cause cold
  have hcause : (s.restarted cause cold).obj K.deviceResetCause = cause := by
    calc (s.restarted cause cold).obj K.deviceResetCause = Sp.get (defaultOf n.variant) n.dict K.deviceResetCause := by rw [heq]; rfl
      _ = cause := by rw [hvar, hdict, get_put_self]
  exact ⟨hcause, hmode, by rw [heq]; exact htransfers, by rw [heq]; exact hsubs, by rw [heq]; exact hreplays, by rw [heq]; exact htrace,
    by rw [heq]; exact hctxs, by rw [heq]; exact hforce, by rw [heq]; exact htrans, hobj⟩

theorem restarted_held : (s.restarted cause cold).boot.step = .held := by
  obtain ⟨n, x, heq, -, -, -, -, -, -, -, -, -, hstep, -⟩ := restarted_eq s cause cold
  rw [heq]; exact hstep

theorem restarted_porLow : (s.restarted cause cold).porLow = s.porLow := by
  obtain ⟨n, x, heq, -, -, -, -, -, -, -, -, -, -, hpor, -⟩ := restarted_eq s cause cold
  rw [heq]; exact hpor

theorem restarted_railsLow : (s.restarted cause cold).railsLow = s.railsLow := by
  obtain ⟨n, x, heq, -, -, -, -, -, -, -, -, -, -, -, hrails, -⟩ := restarted_eq s cause cold
  rw [heq]; exact hrails

end

/-- A restarted device is restarted whatever of its boot changes. -/
theorem beginBoot_restarted {s u : State} {cause : Nat} {ks : List Nat} (h : Restarted s u cause ks) : Restarted s u.beginBoot cause ks := h

/-- Only the variant of the state before counts in what a reset leaves. -/
theorem restarted_of_variant {s s' u : State} {cause : Nat} {ks : List Nat} (h : Restarted s' u cause ks)
    (hvariant : s'.variant = s.variant) : Restarted s u cause ks := by
  unfold Restarted at h ⊢
  rwa [hvariant] at h

/-- A reset that starts the boot at once. -/
theorem warmReset_restarts {s v : State} (cause : Nat) (hvariant : v.variant = s.variant) :
    Restarted s (v.warmReset cause) cause [] ∧ (v.warmReset cause).boot.step = .headers :=
  ⟨restarted_of_variant (beginBoot_restarted (restarted_restarts v)) hvariant, rfl⟩

/-- Two objects of a restarted device that are set, neither of which shows the cause or the mode. -/
theorem restarted_set {s u : State} {cause a b x y : Nat} (h : Restarted s u cause [])
    (hcause : a ≠ K.deviceResetCause ∧ b ≠ K.deviceResetCause) (hmode : a ≠ K.deviceMode ∧ b ≠ K.deviceMode) :
    Restarted s ((u.set a x).set b y) cause [a, b] := by
  obtain ⟨hc, hm, htransfers, hsubs, hreplays, htrace, hctxs, hforce, htrans, hobj⟩ := h
  have hset {k : Nat} (ha : k ≠ a) (hb : k ≠ b) : ((u.set a x).set b y).obj k = u.obj k :=
    (obj_set_ne _ _ hb).trans (obj_set_ne _ _ ha)
  refine ⟨(hset hcause.1.symm hcause.2.symm).trans hc, (hset hmode.1.symm hmode.2.symm).trans hm, htransfers, hsubs, hreplays, htrace,
    hctxs, hforce, htrans, fun k hk hlost => ?_⟩
  obtain ⟨hk, hab⟩ := List.mem_append.not.1 hk |> not_or.1
  simp only [List.mem_cons, List.not_mem_nil, or_false, not_or] at hab
  exact (hset hab.1 hab.2).trans (hobj k (by simpa using hk) hlost)

/-! ## A write of `device.reset` -/

theorem key_split (k : Nat) : key (k / 256) (k % 256) = k := by
  unfold key
  omega

/-- An admitted write whose value has the device reset. -/
theorem asks_reset {s v : State} {q : Req} {a : Answer} (h : Admitted s q .write)
    (hc : carry .write q (s.access q) = (v, some (.ok a))) (hr : (s.access q).resets q .write = true) :
    s.asks q .write = .next (s.finish ((v.answered q .write ((s.access q).readsTrace q .write) a.body a.ty a.transfer).warmReset 1)) := by
  obtain ⟨hport, haway, hversion, hbars⟩ := h
  have hquiet : (((s.begin_ q.at_).showQueue.arrive q).leaveQueue q).readsTrace q .write = (s.access q).readsTrace q .write := rfl
  simp only [State.asks, State.runOf, hport, if_true, State.run, State.request, haway, State.serve, hversion, ne_eq, not_true, if_false]
  rw [hquiet]
  unfold State.access at *
  simp only [hbars, hc, hr, Bool.false_eq_true, if_false, Except.toBool, Bool.and_self, if_true]
  rfl

theorem putValue_variant (t : State) (p : Put) : (t.putValue p).variant = t.variant := by
  unfold State.putValue
  split
  · rfl
  · split
    · exact hold_variant t p.key_
    · rfl

theorem index_putOf (t : State) (q : Req) (k : Nat) (l : Loc) (v : Nat) : (t.putOf (onObject q k) l v).index = k / 256 := rfl

theorem key_putOf (t : State) (q : Req) (k : Nat) (l : Loc) (v : Nat) : (t.putOf (onObject q k) l v).key_ = k := key_split k

theorem deviceReset_index : K.deviceReset / 256 < 0x1400 := by
  norm_num [K.deviceReset, key]

theorem putDevice_reset {t : State} {p : Put} (h : p.key_ = K.deviceReset) : putDevice t p = t.putValue p := by
  have hother : K.deviceReset ∉ [K.deviceModeRequest, K.deviceModeLoad, K.deviceSafeClear, K.deviceSafeTjLimit, K.deviceEventsClearNode,
      K.deviceEventsTest, K.portsMgmtClear, K.versionsMgmtSelect, K.versionsAccept] := by decide
  simp only [List.mem_cons, List.not_mem_nil, or_false, not_or] at hother
  simp only [putDevice, h, hother, if_false]

/-- What a write of `device.reset` does before its answer: it keeps the variant. -/
def resetWritten (t : State) (q : Req) (l : Loc) : State :=
  if l.row.ty = .text then (t.setBlob (stagedBlob K.deviceReset) q.body).record K.deviceReset (t.classOf q.port) q.port
  else t.put (t.putOf (onObject q K.deviceReset) l (ofLE q.body))

theorem resetWritten_variant (t : State) (q : Req) (l : Loc) : (resetWritten t q l).variant = t.variant := by
  unfold resetWritten
  split
  · rfl
  · rw [State.put, index_putOf, if_pos deviceReset_index, record_variant, putDevice_reset (key_putOf ..), putValue_variant]

theorem opWrite_reset {t : State} {q : Req} {l : Loc} (h : checkWrite t (onObject q K.deviceReset) = .ok l) :
    carry .write (onObject q K.deviceReset) t = (resetWritten t q l, some (.ok ⟨[], l.row.ty.code, 0⟩)) := by
  simp only [carry, opWrite, h, done]
  rfl

/-! ## The statement -/

theorem porNLow_restarts {s : State} (t : Nat) :
    Completes (.porNLow t) s (fun u => Restarted s u 0 [] ∧ u.porLow = true ∧ u.boot.step = .held) (fun _ => True) :=
  ⟨_, exec_porNLow t s, ⟨restarted_restarts _, restarted_porLow _, restarted_held _⟩, trivial⟩

/-- A rail is below its reset threshold. -/
def railIsLow (s : State) (r : Nat) : State := { s with railsLow := withBit s.railsLow r true }

theorem railBelowReset_restarts {s : State} (t : Nat) {r : Nat} {mv : Int} (hrail : railPresent s.variant r = true) (hlow : mv < railReset r) :
    Completes (.railBelowReset t r mv) s
      (fun u => Restarted s u 3 [K.deviceRailVolts r, K.deviceRailState r] ∧ u.boot.step = .held ∧ u.railsLow.testBit r = true ∧
        u.obj (K.deviceRailState r) = 1) (fun _ => True) := by
  refine ⟨_, (exec_railBelowReset t r mv s).trans (runOf_next s _ t _ hrail), ?_, trivial⟩
  unfold xRailBelowReset
  rw [if_pos hlow]
  have hrails := restarted_railsLow (railIsLow (s.begin_ t) r) (cause := 3) (cold := true)
  refine ⟨restarted_set (restarted_restarts (railIsLow (s.begin_ t) r)) ?_ ?_, restarted_held _, ?_, obj_set_self ..⟩
  · constructor <;> exact key_ne (by decide) (by decide) (by omega)
  · constructor <;> exact key_ne (by decide) (by decide) (by omega)
  · exact (congrArg (·.testBit r) hrails).trans (testBit_withBit_self ..)

theorem watchdogReset_restarts {s : State} (t : Nat) (h : Awake s) (hmode : s.mode = mSafe)
    (hcause : (s.obj K.deviceSafeCause).testBit 5 = true) :
    Completes (.watchdogReset t) s (fun u => Restarted s u 2 [] ∧ u.boot.step = .headers) (fun _ => True) := by
  refine completes_event (exec_watchdogReset t s) h.1 ?_
  have hreset : xWatchdogReset (s.begin_ t) = (s.begin_ t).warmReset 2 := if_pos (Bool.and_eq_true_iff.2 ⟨decide_eq_true hmode, hcause⟩)
  rw [hreset]
  exact warmReset_restarts 2 rfl

/-- Settles O23: the dictionary after a reset is built from the keys that flash and the board store keep. -/
theorem resetsRestart : Obligations.ResetsRestart := by
  unfold Obligations.ResetsRestart
  refine ⟨fun s t _ => porNLow_restarts t, fun s t r mv _ hrail hlow => railBelowReset_restarts t hrail hlow,
    fun s t h hmode hcause => watchdogReset_restarts t h hmode hcause, ?_⟩
  intro s q l _ w hadmitted hcheck
  have hput := opWrite_reset hcheck
  have hkey : (s.access w).resets w .write = true := beq_iff_eq.2 (key_split K.deviceReset)
  exact ⟨_, asks_reset hadmitted hput hkey, warmReset_restarts 1 (by rw [answered_variant, resetWritten_variant, access_variant]), trivial⟩

end Sys2Proof.Proofs
end

section
/-! # What leaves the mode of the device alone

Lanes, the formation and the version checks touch neither the objects of the device (chapters 3 and 4, below 0x1100) nor its boot and
its transition. -/

set_option Elab.async false

namespace Sys2Proof.Proofs

open Sys2Proof Sys2Proof.Machine Sys2Proof.Laws

/-- The device's own objects, its boot, its transition and what it owes are as they were. -/
structure KeepsMode (u s : State) : Prop where
  obj : ∀ k < 0x110000, u.obj k = s.obj k
  boot : u.boot = s.boot
  trans_ : u.trans = s.trans
  variant : u.variant = s.variant
  clock : u.clock = s.clock
  safeAsk : u.safeAsk = s.safeAsk

section
variable {s u v : State}

theorem KeepsMode.refl (s : State) : KeepsMode s s := ⟨fun _ _ => rfl, rfl, rfl, rfl, rfl, rfl⟩

theorem KeepsMode.trans (h : KeepsMode u v) (g : KeepsMode v s) : KeepsMode u s :=
  ⟨fun k hk => (h.obj k hk).trans (g.obj k hk), h.boot.trans g.boot, h.trans_.trans g.trans_, h.variant.trans g.variant,
    h.clock.trans g.clock, h.safeAsk.trans g.safeAsk⟩

theorem KeepsMode.mode (h : KeepsMode u s) : u.mode = s.mode := h.obj K.deviceMode (by decide)

theorem keepsMode_of_dict (hdict : u.dict = s.dict) (hboot : u.boot = s.boot) (htrans : u.trans = s.trans) (hvariant : u.variant = s.variant)
    (hclock : u.clock = s.clock) (hsafe : u.safeAsk = s.safeAsk) : KeepsMode u s :=
  ⟨fun k _ => by simp only [State.obj, hvariant, hdict], hboot, htrans, hvariant, hclock, hsafe⟩

theorem keepsMode_ite {c : Prop} [Decidable c] (h : KeepsMode u s) (g : KeepsMode v s) : KeepsMode (if c then u else v) s := by
  split
  · exact h
  · exact g

theorem keepsMode_foldl {α : Type} (f : State → α → State) (h : ∀ t x, KeepsMode (f t x) t) (xs : List α) (s : State) :
    KeepsMode (xs.foldl f s) s := by
  induction xs generalizing s with
  | nil => exact .refl s
  | cons x xs ih => exact (ih _).trans (h s x)

theorem keepsMode_set (s : State) {k : Nat} (v : Nat) (hk : 0x110000 ≤ k) : KeepsMode (s.set k v) s :=
  ⟨fun _ hi => obj_set_ne _ _ (by omega), set_boot .., set_trans .., set_variant .., set_clock .., set_safeAsk ..⟩

theorem keepsMode_count (s : State) {k : Nat} (w n : Nat) (hk : 0x110000 ≤ k) : KeepsMode (s.count k w n) s :=
  ⟨fun _ hi => obj_count_ne _ _ _ (by omega), count_boot .., count_trans .., count_variant .., count_clock .., count_safeAsk ..⟩

theorem keepsMode_raise (s : State) (n d : Nat) : KeepsMode (s.raise n d) s :=
  ⟨fun k hk => obj_raise_of_lt _ _ _ (by omega), raise_boot .., raise_trans .., raise_variant .., raise_clock .., raise_safeAsk ..⟩

/-- A key of a chapter from 5 on. -/
theorem key_ge {index sub : Nat} (h : 0x1100 ≤ index) : 0x110000 ≤ key index sub := by
  simp only [key]
  omega

end

/-! ## The formation -/

/-- A key outside the chapters of the timebase and the formation and outside the event sources. -/
def aroundFormation (k : Nat) : Bool := k < 0x140000 || (0x170000 ≤ k && k < 0x700000)

/-- What the formation leaves alone: every object outside its own chapter, the timebase and the event sources, and the device, its lanes,
contexts and streams, the Store and the values in force. -/
structure KeepsAround (u s : State) : Prop where
  obj : ∀ k, aroundFormation k = true → u.obj k = s.obj k
  boot : u.boot = s.boot
  trans_ : u.trans = s.trans
  variant : u.variant = s.variant
  clock : u.clock = s.clock
  safeAsk : u.safeAsk = s.safeAsk
  lanes : u.lanes = s.lanes
  ctxs : u.ctxs = s.ctxs
  exports : u.exports = s.exports
  replays : u.replays = s.replays
  mem : u.mem = s.mem
  inForce : u.inForce = s.inForce

section
variable {s u v : State}

theorem KeepsAround.refl (s : State) : KeepsAround s s := ⟨fun _ _ => rfl, rfl, rfl, rfl, rfl, rfl, rfl, rfl, rfl, rfl, rfl, rfl⟩

theorem KeepsAround.of_dict (hdict : u.dict = s.dict) (h_boot : u.boot = s.boot) (h_trans_ : u.trans = s.trans) (h_variant : u.variant = s.variant) (h_clock : u.clock = s.clock) (h_safeAsk : u.safeAsk = s.safeAsk) (h_lanes : u.lanes = s.lanes) (h_ctxs : u.ctxs = s.ctxs) (h_exports : u.exports = s.exports) (h_replays : u.replays = s.replays) (h_mem : u.mem = s.mem) (h_inForce : u.inForce = s.inForce) : KeepsAround u s :=
  ⟨fun k _ => by simp only [State.obj, h_variant, hdict], h_boot, h_trans_, h_variant, h_clock, h_safeAsk, h_lanes, h_ctxs, h_exports, h_replays, h_mem, h_inForce⟩

theorem KeepsAround.trans (h : KeepsAround u v) (g : KeepsAround v s) : KeepsAround u s :=
  ⟨fun k hk => (h.obj k hk).trans (g.obj k hk), h.boot.trans g.boot, h.trans_.trans g.trans_, h.variant.trans g.variant, h.clock.trans g.clock, h.safeAsk.trans g.safeAsk, h.lanes.trans g.lanes, h.ctxs.trans g.ctxs, h.exports.trans g.exports, h.replays.trans g.replays, h.mem.trans g.mem, h.inForce.trans g.inForce⟩

theorem KeepsAround.keepsMode (h : KeepsAround u s) : KeepsMode u s :=
  ⟨fun k hk => h.obj k (by rw [aroundFormation, decide_eq_true (show k < 0x140000 by omega), Bool.true_or]), h.boot, h.trans_, h.variant, h.clock, h.safeAsk⟩

theorem keepsAround_ite {c : Prop} [Decidable c] (h : KeepsAround u s) (g : KeepsAround v s) : KeepsAround (if c then u else v) s := by
  split
  · exact h
  · exact g

theorem keepsAround_foldl {α : Type} (f : State → α → State) (xs : List α) (s : State) (h : ∀ t, ∀ x ∈ xs, KeepsAround (f t x) t) :
    KeepsAround (xs.foldl f s) s := by
  induction xs generalizing s with
  | nil => exact .refl s
  | cons x xs ih => exact (ih _ fun t y hy => h t y (List.mem_cons_of_mem _ hy)).trans (h s x (List.mem_cons_self ..))

theorem keepsAround_set (s : State) {k : Nat} (v : Nat) (hk : aroundFormation k = false) : KeepsAround (s.set k v) s :=
  ⟨fun _ hi => obj_set_ne _ _ (fun he => by simp [he, hk] at hi), set_boot .., set_trans .., set_variant .., set_clock .., set_safeAsk .., set_lanes .., set_ctxs .., set_exports .., set_replays .., set_mem .., set_inForce ..⟩

theorem laneCount_le (v : Variant) : laneCount v ≤ 16 := by cases v <;> decide

/-- The objects of a lane in the formation's chapter. -/
theorem rallyLane_inside {i b : Nat} (hb : b < 256) (hi : i < 16) : aroundFormation (key (0x1610 + i) b) = false := by
  have h1 : ¬ key (0x1610 + i) b < 0x140000 := by simp only [key]; omega
  have h2 : ¬ 0x170000 ≤ key (0x1610 + i) b := by simp only [key]; omega
  simp [aroundFormation, h1, h2]

theorem keepsAround_raise (s : State) (n d : Nat) : KeepsAround (s.raise n d) s :=
  ⟨fun k hk => obj_raise_of_lt _ _ _ (by simp only [aroundFormation, Bool.or_eq_true, Bool.and_eq_true, decide_eq_true_eq] at hk; omega), raise_boot .., raise_trans .., raise_variant .., raise_clock .., raise_safeAsk .., raise_lanes .., raise_ctxs .., raise_exports .., raise_replays .., raise_mem .., raise_inForce ..⟩

end

section
variable {s u v : State}

theorem keepsAround_modRally (s : State) (f : Rally → Rally) : KeepsAround (s.modRally f) s := .of_dict rfl rfl rfl rfl rfl rfl rfl rfl rfl rfl rfl rfl

theorem keepsAround_emit (s : State) (e : Emission) : KeepsAround (s.emit e) s := .of_dict rfl rfl rfl rfl rfl rfl rfl rfl rfl rfl rfl rfl

theorem keepsAround_draw (s : State) (tag : Nat) : KeepsAround (s.draw tag).2 s := .of_dict rfl rfl rfl rfl rfl rfl rfl rfl rfl rfl rfl rfl

theorem keepsAround_launch (s : State) (lane : Nat) (w : Waiting) : KeepsAround (s.launch lane w) s := by
  have hseq : KeepsAround (s.nextSeq lane w.type).2 s := .of_dict rfl rfl rfl rfl rfl rfl rfl rfl rfl rfl rfl rfl
  unfold State.launch
  extract_lets r v
  split
  · exact (keepsAround_emit ..).trans ((keepsAround_draw ..).trans hseq)
  · exact (keepsAround_emit ..).trans hseq

theorem keepsAround_offerFragment (s : State) (lane : Nat) (w : Waiting) : KeepsAround (s.offerFragment lane w) s := by
  unfold State.offerFragment
  extract_lets x
  exact keepsAround_ite (.refl s) (keepsAround_ite (.of_dict rfl rfl rfl rfl rfl rfl rfl rfl rfl rfl rfl rfl) (keepsAround_launch ..))

theorem keepsAround_floodControl (s : State) (but hop : Nat) (c : Control) : KeepsAround (s.floodControl but hop c) s :=
  keepsAround_foldl _ _ _ fun _ _ _ => keepsAround_offerFragment ..

theorem keepsAround_setRally (s : State) (v : Nat) : KeepsAround (s.setRally v) s := by
  unfold State.setRally
  extract_lets t
  have ht : KeepsAround t s := (keepsAround_set _ _ (by decide)).trans (keepsAround_set _ _ (by decide))
  exact keepsAround_ite ((keepsAround_modRally ..).trans ht) ht

theorem keepsAround_setTimeState (s : State) (v : Nat) : KeepsAround (s.setTimeState v) s := by
  unfold State.setTimeState
  extract_lets old t
  have ht : KeepsAround t s := keepsAround_set _ _ (by decide)
  exact keepsAround_ite ((keepsAround_raise ..).trans ht) ht

theorem keepsAround_unlocked (s : State) : KeepsAround (unlocked s) s := .of_dict rfl rfl rfl rfl rfl rfl rfl rfl rfl rfl rfl rfl

theorem keepsAround_loseRally (s : State) : KeepsAround s.loseRally s := by
  have hlost (v : Nat) : KeepsAround ((unlocked (s.set K.timeSource 0)).setTimeState v) s :=
    (keepsAround_setTimeState ..).trans ((keepsAround_unlocked _).trans (keepsAround_set _ _ (by decide)))
  unfold State.loseRally
  exact keepsAround_ite (.refl s) (hlost _)

theorem keepsAround_losePtp (s : State) : KeepsAround s.losePtp s := by
  have hlost (v : Nat) : KeepsAround ((masterLost s).setTimeState v) s :=
    (keepsAround_setTimeState ..).trans ((keepsAround_unlocked _).trans ((keepsAround_set _ _ (by decide)).trans
      ((keepsAround_set _ _ (by decide)).trans (keepsAround_set _ _ (by decide)))))
  unfold State.losePtp
  exact keepsAround_ite (.refl s) (hlost _)

theorem keepsAround_timeOfRole (s : State) : KeepsAround s.timeOfRole s :=
  keepsAround_ite (keepsAround_ite ((keepsAround_set _ _ (by decide)).trans (keepsAround_losePtp s)) (.refl s)) (keepsAround_loseRally s)

theorem keepsAround_showMembers (s : State) : KeepsAround s.showMembers s :=
  (keepsAround_set _ _ (by decide)).trans ((keepsAround_set _ _ (by decide)).trans (keepsAround_set _ _ (by decide)))

theorem keepsAround_pruneMembers (s : State) : KeepsAround s.pruneMembers s :=
  (keepsAround_foldl _ _ _ fun _ _ _ => keepsAround_raise ..).trans (keepsAround_modRally ..)

theorem keepsAround_updateRoles (s : State) : KeepsAround s.updateRoles s := by
  unfold State.updateRoles
  extract_lets pruned captain lead role rises told led relinked island aligned shown
  have htold : KeepsAround told s := (keepsAround_set _ _ (by decide)).trans ((keepsAround_set _ _ (by decide)).trans
    ((keepsAround_set _ _ (by decide)).trans (keepsAround_pruneMembers s)))
  have hled : KeepsAround led s := keepsAround_ite ((keepsAround_set _ _ (by decide)).trans ((keepsAround_set _ _ (by decide)).trans
    ((keepsAround_set _ _ (by decide)).trans htold))) htold
  have hisland : KeepsAround island s := keepsAround_ite ((keepsAround_setRally ..).trans hled)
    (keepsAround_ite ((keepsAround_floodControl ..).trans ((keepsAround_setRally ..).trans hled)) hled)
  have haligned : KeepsAround aligned s := keepsAround_ite ((keepsAround_setRally ..).trans hisland) hisland
  have hshown : KeepsAround shown s := (keepsAround_showMembers _).trans ((keepsAround_timeOfRole _).trans haligned)
  exact keepsAround_ite ((keepsAround_floodControl ..).trans hshown) hshown

theorem keepsAround_rallyFromBoard (s : State) : KeepsAround s.rallyFromBoard s := by
  unfold State.rallyFromBoard
  extract_lets named up down
  have hlane (t r : State) {i : Nat} (v : Nat) (hi : i ∈ List.range (laneCount r.variant)) : KeepsAround (t.set (K.rallyLaneState i) v) t :=
    keepsAround_set _ _ (rallyLane_inside (by decide) (lt_of_lt_of_le (List.mem_range.1 hi) (laneCount_le _)))
  have hup : KeepsAround up s :=
    (keepsAround_foldl _ _ _ fun t i hi => keepsAround_ite (hlane t named 1 (List.mem_of_mem_filter hi)) (.refl t)).trans
      (keepsAround_set _ _ (by decide))
  have hdown : KeepsAround down s :=
    (keepsAround_foldl _ _ _ fun t i hi => keepsAround_ite (.refl t) (hlane t up 0 (List.mem_of_mem_filter hi))).trans hup
  exact keepsAround_ite (keepsAround_ite hdown ((keepsAround_loseRally _).trans ((keepsAround_setRally ..).trans hdown)))
    (keepsAround_ite ((keepsAround_updateRoles _).trans ((keepsAround_setRally ..).trans hdown)) hdown)

end

section
variable {s u v : State}

/-! ## Lanes -/

theorem keepsMode_clearFrames (s : State) (n : Nat) : KeepsMode (s.clearFrames n) s := by
  refine keepsMode_ite (.refl s) ?_
  have hzero (t : State) {k : Nat} (hk : 0x110000 ≤ k) : KeepsMode (if t.obj k = 0 then t else t.set k 0) t :=
    keepsMode_ite (.refl t) (keepsMode_set _ _ hk)
  simp only [List.foldl_cons, List.foldl_nil]
  exact (hzero _ (key_ge (by omega))).trans ((hzero _ (key_ge (by omega))).trans ((hzero _ (key_ge (by omega))).trans
    ((hzero _ (key_ge (by omega))).trans ((hzero _ (key_ge (by omega))).trans ((hzero _ (key_ge (by omega))).trans
      (hzero _ (key_ge (by omega))))))))

theorem keepsMode_laneWake (s : State) (n : Nat) : KeepsMode (s.laneWake n) s :=
  keepsMode_ite (keepsMode_set _ _ (key_ge (by omega))) (.refl s)

theorem keepsMode_modLane (s : State) (n : Nat) (f : Lane → Lane) : KeepsMode (s.modLane n f) s :=
  keepsMode_of_dict rfl rfl rfl rfl rfl rfl

theorem keepsMode_laneHold (s : State) (n : Nat) : KeepsMode (s.showHold n) s := by
  unfold State.showHold
  extract_lets c shown bit flagged
  have hshown : KeepsMode shown s := keepsMode_ite (.refl s) (keepsMode_set _ _ (key_ge (by omega)))
  have hflagged : KeepsMode flagged shown := keepsMode_set _ _ (key_ge (by omega))
  exact keepsMode_ite hshown ((keepsMode_modLane ..).trans (hflagged.trans hshown))

theorem keepsMode_endReplay (s : State) (x : Replay) : KeepsMode (s.endReplay x) s := by
  unfold State.endReplay
  extract_lets t body m v
  have hv : KeepsMode v s := keepsMode_of_dict rfl rfl rfl rfl rfl rfl
  exact keepsMode_ite ((keepsMode_raise ..).trans hv) hv

theorem keepsMode_cutReplays (s : State) (f : Replay → Bool) : KeepsMode (s.cutReplays f) s :=
  keepsMode_foldl _ (fun _ _ => keepsMode_endReplay ..) _ _

theorem keepsMode_takeRole (s : State) (n : Nat) : KeepsMode (s.takeRole n) s := by
  unfold State.takeRole
  extract_lets role b cut
  refine keepsMode_ite (.refl s) (keepsMode_ite ?_ ?_)
  · exact (keepsMode_laneHold ..).trans ((keepsMode_laneWake ..).trans ((keepsMode_clearFrames ..).trans
      (keepsMode_set _ _ (key_ge (by omega)))))
  · exact (keepsMode_set _ _ (key_ge (by omega))).trans (keepsMode_cutReplays ..)

theorem keepsMode_takeRoles (s : State) : KeepsMode s.takeRoles s :=
  (keepsAround_rallyFromBoard _).keepsMode.trans (keepsMode_foldl _ (fun _ _ => keepsMode_takeRole ..) _ _)

theorem keepsMode_wakeUnits (s : State) : KeepsMode s.wakeUnits s := by
  have hlanes : KeepsMode (s.allLanes.foldl (fun st n => st.laneWake n) s) s := keepsMode_foldl _ (fun _ _ => keepsMode_laneWake ..) _ _
  exact keepsMode_ite ((keepsMode_set _ _ (by decide)).trans hlanes) hlanes

/-! ## Versions -/

theorem keepsMode_setUntested (s : State) (bit : Nat) (b : Bool) : KeepsMode (s.setUntested bit b) s := by
  unfold State.setUntested
  extract_lets t r
  have ht : KeepsMode t s := keepsMode_of_dict rfl rfl rfl rfl rfl rfl
  exact keepsMode_ite ht ((keepsMode_raise ..).trans ((keepsMode_set _ _ (by decide)).trans ht))

theorem keepsMode_noteRefusal (s : State) (kind code : Nat) : KeepsMode (s.noteRefusal kind code) s := keepsMode_set _ _ (by decide)

theorem keepsMode_checkDie (s : State) (d : Nat) : KeepsMode (s.checkDie d) s := by
  have hstate (v : Nat) : KeepsMode (s.set (K.versionsSeqState d) v) s := keepsMode_set _ _ (key_ge (by omega))
  have hrefused (v code : Nat) (b : Bool) :
      KeepsMode (((s.set (K.versionsSeqState d) v).noteRefusal 2 code).setUntested (1 + d) b) s :=
    (keepsMode_setUntested ..).trans ((keepsMode_noteRefusal ..).trans (hstate v))
  unfold State.checkDie
  extract_lets w
  split
  · exact (keepsMode_setUntested ..).trans (hstate 0)
  · exact hrefused ..
  · exact keepsMode_ite ((keepsMode_setUntested ..).trans (hstate 1)) (hrefused ..)

end

end Sys2Proof.Proofs
end

section
/-! # The boot (R39, R80, R82, R153) -/

set_option Elab.async false

namespace Sys2Proof.Proofs

open Sys2Proof Sys2Proof.Machine Sys2Proof.Laws

/-! ## Objects set one after another -/

section
variable {s : State} {vs : List (Nat × Nat)}

/-- The state with the objects of a list set to the values of the list. -/
def setAll (s : State) (vs : List (Nat × Nat)) : State := vs.foldl (fun t e => t.set e.1 e.2) s

theorem obj_setAll_ne (s : State) {k : Nat} (h : k ∉ vs.map (·.1)) : (setAll s vs).obj k = s.obj k := by
  induction vs generalizing s with
  | nil => rfl
  | cons e vs ih =>
    rw [List.map_cons, List.mem_cons, not_or] at h
    exact (ih _ h.2).trans (obj_set_ne _ _ h.1)

theorem holds_setAll (s : State) (h : (vs.map (·.1)).Nodup) : Holds (setAll s vs) vs := by
  induction vs generalizing s with
  | nil => exact holds_nil _
  | cons e vs ih =>
    obtain ⟨hfresh, hnodup⟩ := List.nodup_cons.1 h
    exact holds_cons ((obj_setAll_ne _ hfresh).trans (obj_set_self ..)) (ih _ hnodup)

theorem leaves_setAll (s : State) (vs : List (Nat × Nat)) : Leaves (vs.map (·.1)) (setAll s vs) s :=
  leaves_foldl _ _ _ fun _ _ he => leaves_set _ _ (List.mem_map_of_mem he)

/-! ## The steps -/

/-- The state at another point of the boot. -/
def withBoot (s : State) (b : Boot) : State := { s with boot := b }

@[simp] theorem obj_withBoot (b : Boot) (k : Nat) : (withBoot s b).obj k = s.obj k := rfl

@[simp] theorem withBoot_boot (b : Boot) : (withBoot s b).boot = b := rfl

theorem leaves_withBoot (ks : List Nat) (s : State) (b : Boot) : Leaves ks (withBoot s b) s := leaves_of_dict rfl rfl rfl rfl rfl rfl

theorem porNRelease_boots (s : State) (t : Nat) (hlow : s.porLow = true) (hrails : s.railsLow = 0) :
    Completes (.porNRelease t) s (fun u => u.porLow = false ∧ u.boot.step = .headers ∧ u.boot.slot = s.flashSelect ∧
      u.boot.fallback = false) (fun _ => True) := by
  refine ⟨_, exec_porNRelease t s, ?_, trivial⟩
  have hlow' : (s.begin_ t).porLow = true := hlow
  have hrails' : (s.begin_ t).railsLow = 0 := hrails
  simp only [xPorRelease, hlow', hrails', Bool.not_true, Bool.false_eq_true, if_false, if_true]
  exact ⟨rfl, rfl, rfl, rfl⟩

/-! ## The Backstop becomes live -/

/-- What the boot has found, and the clock. -/
def bootFacts (s : State) : Boot × Nat × Bool × Nat := (s.boot, s.time, s.strap, s.obj K.portsDebugStrap)

theorem bootFacts_set (s : State) {k : Nat} (v : Nat) (hk : K.portsDebugStrap ≠ k) : bootFacts (s.set k v) = bootFacts s := by
  simp only [bootFacts, set_boot, set_time, set_strap, obj_set_ne _ _ hk]

theorem bootFacts_raise (s : State) (n d : Nat) : bootFacts (s.raise n d) = bootFacts s := by
  simp only [bootFacts, raise_boot, raise_time, raise_strap, obj_raise_of_lt s n d (show K.portsDebugStrap < 0x700000 by decide)]

theorem bootFacts_setUntested (s : State) (bit : Nat) (b : Bool) : bootFacts (s.setUntested bit b) = bootFacts s := by
  unfold State.setUntested
  extract_lets t r
  have ht : bootFacts t = bootFacts s := rfl
  split
  · exact ht
  · exact (bootFacts_raise ..).trans ((bootFacts_set _ _ (by decide)).trans ht)

theorem bootFacts_loadBackstop (s : State) : bootFacts s.loadBackstop = bootFacts s := by
  unfold State.loadBackstop
  extract_lets p good i b out reset words checked
  split
  · exact (bootFacts_raise ..).trans (bootFacts_set _ _ (by decide))
  · have hwords : bootFacts words = bootFacts s :=
      (bootFacts_set _ _ (by decide)).trans ((bootFacts_set _ _ (by decide)).trans (bootFacts_set _ _ (by decide)))
    have hchecked : bootFacts checked = bootFacts s := (bootFacts_setUntested ..).trans hwords
    split
    · exact (bootFacts_set _ _ (by decide)).trans ((bootFacts_set _ _ (by decide)).trans hchecked)
    · exact (bootFacts_raise ..).trans ((bootFacts_set _ _ (by decide)).trans hchecked)

theorem backstopLive_boots (t bad : Nat) (strap : Bool) (hheld : s.held = false) (hlive : s.boot.live = false) (hwarm : s.boot.warm = false) :
    Completes (.backstopLive t strap bad) s (fun u => u.boot.live = true ∧ u.time = 0 ∧ u.strap = strap ∧
      u.obj K.portsDebugStrap = ofBool strap) (fun _ => True) := by
  refine completes_event (exec_backstopLive t strap bad s) hheld ?_
  have hheld' : (s.begin_ t).held = false := hheld
  unfold xBackstopLive
  rw [if_neg (by simp [hheld', hlive])]
  extract_lets sampled boot woken spoil spoiled
  have hsampled : sampled = strap := if_neg (by simp [hwarm])
  have hfacts := bootFacts_loadBackstop (spoiled.set K.portsDebugStrap (ofBool sampled))
  simp only [bootFacts, Prod.mk.injEq] at hfacts
  obtain ⟨hboot, htime, hstrap, hshown⟩ := hfacts
  exact ⟨congrArg Boot.live hboot, htime, hstrap.trans hsampled, hshown.trans (hsampled ▸ obj_set_self ..)⟩

/-! ## Training, clock and headers -/

/-- The Store has been trained. -/
def trainedState (s : State) : State := withBoot s { s.boot with trained := true }

def trainedFacts (repaired : Nat) : List (Nat × Nat) := [(K.storeRepaired, min repaired 64), (K.storeState, 1)]

theorem storeTraining_boots (t repaired : Nat) (h : Awake s) (hfresh : s.boot.trained = false) :
    Completes (.storeTrainingEnd t true repaired) s
      (fun u => u.obj K.storeRepaired = min repaired 64 ∧ u.obj K.storeState = 1 ∧ u.boot = { s.boot with trained := true })
      (fun v => Frame s v [K.storeRepaired, K.storeState]) := by
  have hheld : (s.begin_ t).held = false := h.1
  have heffect : xTrainingEnd true repaired (s.begin_ t) =
      setAll (trainedState (s.begin_ t)) (trainedFacts repaired) :=
    (if_neg (by simp [hheld, hfresh])).trans (if_pos rfl)
  have hholds : Holds (setAll (trainedState (s.begin_ t)) (trainedFacts repaired))
      (trainedFacts repaired) := holds_setAll _ (by decide : [K.storeRepaired, K.storeState].Nodup)
  refine completes_leaves ((exec_storeTrainingEnd t true repaired s).trans (event_next s t _ h.1)) h.2 ?_ ?_ fun v _ hframe => hframe
  · rw [heffect]
    exact (leaves_setAll _ (trainedFacts repaired)).trans ((leaves_withBoot ..).trans (leaves_begin ..))
  · rw [heffect]
    exact ⟨hholds _ (List.mem_cons_self ..), hholds _ (List.mem_cons_of_mem _ (List.mem_cons_self ..)), rfl⟩

theorem refclk_found (t hz : Nat) (h : Awake s) {f : Nat} (heffect : xRefclkDetected hz (s.begin_ t) = setAll (s.begin_ t) [(K.timeRefclkFreq, f)]) :
    Sets (.refclkDetected t hz) s [(K.timeRefclkFreq, f)] (fun _ => True) := by
  refine sets_event (exec_refclkDetected t hz s) h ?_ ?_ trivial <;> rw [heffect]
  · exact leaves_setAll ..
  · exact holds_setAll _ (List.nodup_singleton _)

theorem refclk_boots (s : State) (t hz : Nat) (h : Awake s) :
    (99990000 ≤ hz ∧ hz ≤ 100010000 → Sets (.refclkDetected t hz) s [(K.timeRefclkFreq, 100000000)] (fun _ => True)) ∧
    (156234375 ≤ hz ∧ hz ≤ 156265625 → Sets (.refclkDetected t hz) s [(K.timeRefclkFreq, 156250000)] (fun _ => True)) := by
  refine ⟨fun hin => refclk_found t hz h (if_pos ?_), fun hin => refclk_found t hz h ((if_neg ?_).trans (if_pos ?_))⟩ <;>
    simp only [Bool.and_eq_true, decide_eq_true_eq] <;> omega

/-- The words that the headers show. -/
def headerWords (s : State) : List (Nat × Nat) :=
  [(K.versionsMgmtWordA, if s.slotA.headerValid then s.slotA.word else 0), (K.versionsMgmtWordB, if s.slotB.headerValid then s.slotB.word else 0)]

/-- The state with a defect list. -/
def withDefects (s : State) (ds : List Defect) : State := { s with defects := ds }

theorem leaves_withDefects (ks : List Nat) (s : State) (ds : List Defect) : Leaves ks (withDefects s ds) s :=
  leaves_of_dict rfl rfl rfl rfl rfl rfl

theorem force_setAll (s : State) {k : Nat} (h : k ∉ vs.map (·.1)) : (setAll s vs).force k = s.force k := by
  have hforce : (setAll s vs).inForce = s.inForce := (leaves_setAll s vs).inForce
  simp only [State.force, hforce, obj_setAll_ne s h]

theorem loadDefects_none {u : State} (h : boardDefects (u.force K.boardDefects) = []) : u.loadDefects = withDefects u [] := by
  simp only [State.loadDefects, h, List.foldl_nil]
  rfl

theorem headerRead_boots (t : Nat) (h : Awake s) (hstep : s.boot.step = .headers) (hboot : (s.bootSlot s.boot.slot).bootable = true)
    (hnone : boardDefects (s.force K.boardDefects) = []) :
    Sets (.bootHeaderRead t true) s (headerWords s) (fun u => u.boot = { s.boot with step := .image } ∧ u.defects = []) := by
  have hforce : (setAll (s.begin_ t) (headerWords s)).force K.boardDefects = s.force K.boardDefects :=
    force_setAll (s.begin_ t) (show K.boardDefects ∉ [K.versionsMgmtWordA, K.versionsMgmtWordB] by decide)
  have hload := loadDefects_none (u := setAll (s.begin_ t) (headerWords s))
    ((congrArg boardDefects hforce).trans hnone)
  have hcases : xHeaderRead true (s.begin_ t) = if s.boot.step != .headers then s.begin_ t else
      if ((setAll (s.begin_ t) (headerWords s)).loadDefects.bootSlot (setAll (s.begin_ t) (headerWords s)).loadDefects.boot.slot).bootable
      then withBoot (setAll (s.begin_ t) (headerWords s)).loadDefects
        { (setAll (s.begin_ t) (headerWords s)).loadDefects.boot with step := .image }
      else (setAll (s.begin_ t) (headerWords s)).loadDefects.failSlot := rfl
  have heffect : xHeaderRead true (s.begin_ t) =
      withBoot (withDefects (setAll (s.begin_ t) (headerWords s)) []) { s.boot with step := .image } := by
    rw [hcases, if_neg (by simp [hstep]), hload]
    exact if_pos hboot
  refine sets_event (exec_bootHeaderRead t true s) h ?_ ?_ ?_ <;> rw [heffect]
  · exact (leaves_withBoot ..).trans ((leaves_withDefects ..).trans (leaves_setAll ..))
  · exact holds_setAll (s.begin_ t) (by decide : [K.versionsMgmtWordA, K.versionsMgmtWordB].Nodup)
  · exact ⟨rfl, rfl⟩

/-! ## The image -/

/-- What the dictionary reads of an image that runs. -/
def imageFacts (slot : Nat) (x : Slot) : List (Nat × Nat) :=
  [(K.versionsMgmtRunning, x.word), (K.versionsMgmtSlot, slot), (K.versionsMajors, x.majors), (K.versionsRallyMin, x.rallyMin),
    (K.versionsRallyMax, x.rallyMax), (K.placerAlgorithm, x.algorithm)]

theorem imageRead_boots (t : Nat) (h : Awake s) (hstep : s.boot.step = .image) (hgood : (s.bootSlot s.boot.slot).crcGood = true) :
    Sets (.bootImageRead t true) s (imageFacts s.boot.slot (s.bootSlot s.boot.slot))
      (fun u => u.boot = { s.boot with step := .confirming }) := by
  have hcases : xImageRead true (s.begin_ t) = if s.boot.step != .image then s.begin_ t else
      if true && (s.bootSlot s.boot.slot).crcGood then
        setAll (withBoot (s.begin_ t) { s.boot with step := .confirming }) (imageFacts s.boot.slot (s.bootSlot s.boot.slot))
      else (s.begin_ t).failSlot := rfl
  have heffect : xImageRead true (s.begin_ t) =
      setAll (withBoot (s.begin_ t) { s.boot with step := .confirming }) (imageFacts s.boot.slot (s.bootSlot s.boot.slot)) := by
    rw [hcases, if_neg (by simp [hstep]), if_pos (by simp [hgood])]
  refine sets_event (exec_bootImageRead t true s) h ?_ ?_ ?_ <;> rw [heffect]
  · exact (leaves_setAll ..).trans (leaves_withBoot ..)
  · exact holds_setAll _ (by decide : [K.versionsMgmtRunning, K.versionsMgmtSlot, K.versionsMajors, K.versionsRallyMin, K.versionsRallyMax,
      K.placerAlgorithm].Nodup)
  · rfl

/-- What RESCUE shows. -/
def rescueFacts (now : Nat) : List (Nat × Nat) := [(K.versionsMgmtBoot, 2), (K.deviceMode, mRescue), (K.deviceModeSince, now)]

/-- An image that cannot be read, or is not confirmed. -/
theorem failSlot_boots {c : Instr} {f : State → State} (t : Nat) (h : Awake s) (he : exec c s = s.event t f)
    (hf : f (s.begin_ t) = (s.begin_ t).failSlot) :
    (s.boot.fallback = false → (s.bootSlot (1 - s.boot.slot)).bootable = true →
      Sets c s [] (fun u => u.boot = { s.boot with step := .image, slot := 1 - s.boot.slot, fallback := true })) ∧
    (s.boot.fallback = true →
      Sets c s (rescueFacts (s.begin_ t).now) (fun u => u.boot = { s.boot with step := .rescue })) := by
  have hcases : (s.begin_ t).failSlot = if s.boot.fallback || !(s.bootSlot (1 - s.boot.slot)).bootable then
      setAll (withBoot (s.begin_ t) { s.boot with step := .rescue }) (rescueFacts (s.begin_ t).now) else
      withBoot (s.begin_ t) { s.boot with step := .image, slot := 1 - s.boot.slot, fallback := true } := rfl
  constructor
  · intro hfirst hboot
    have heffect := (hf.trans hcases).trans (if_neg (by simp [hfirst, hboot]))
    refine sets_event he h ?_ (holds_nil _) ?_ <;> rw [heffect]
    · exact leaves_withBoot ..
    · rfl
  · intro hsecond
    have heffect := (hf.trans hcases).trans (if_pos (by simp [hsecond]))
    refine sets_event he h ?_ ?_ ?_ <;> rw [heffect]
    · exact (leaves_setAll ..).trans (leaves_withBoot ..)
    · exact holds_setAll _ (by decide : [K.versionsMgmtBoot, K.deviceMode, K.deviceModeSince].Nodup)
    · rfl

/-! ## The firmware is confirmed -/

/-- What a confirmed boot shows before the dies are checked. -/
def confirmedFacts (s : State) : List (Nat × Nat) :=
  [(K.deviceBootMs, min ((s.clock - s.boot.start) / perMs) 4294967295), (K.versionsMgmtBoot, ofBool s.boot.fallback)]

/-- The boot is over; a start from the fallback is raised. -/
def confirmedBoot (s : State) : State :=
  let t := setAll (withBoot s { s.boot with step := .done }) (confirmedFacts s)
  if s.boot.fallback then t.raise 747 0 else t

/-- The dies are checked. -/
def confirmedDies (s : State) : State :=
  s.dies.foldl (fun st d => (st.set (K.versionsSeqWord d) (st.seqWords.getD d 0)).checkDie d) s

/-- LOAD, with the units that run in it. -/
def confirmedLoad (s : State) : State := (s.enterMode mLoad).takeRoles.wakeUnits

/-- The state that asks for the SAFE causes that are latched or stand. -/
def confirmedAsk (s : State) : State :=
  { s with safeAsk := s.safeAsk ||| s.obj K.deviceSafeCause ||| (s.standingCauses false &&& 0x7F) |||
                      (if s.obj K.timeRefclkFreq = 0 then 128 else 0) }

theorem xConfirmed_eq (s : State) : xConfirmed s =
    if s.boot.step != .confirming || !s.boot.live || !s.boot.trained then s
    else confirmedAsk (confirmedLoad (confirmedDies (confirmedBoot s))) := rfl

theorem confirmedBoot_boot : (confirmedBoot s).boot = { s.boot with step := .done } := by
  unfold confirmedBoot
  extract_lets point t
  have ht : t.boot = { s.boot with step := .done } := rfl
  split
  · exact (raise_boot ..).trans ht
  · exact ht

theorem confirmedDies_boot : (confirmedDies s).boot = s.boot :=
  foldl_keeps State.boot _ _ _ fun _ d => (keepsMode_checkDie _ d).boot.trans (set_boot ..)

theorem keepsMode_confirmedLoad : KeepsMode (confirmedLoad s) (s.enterMode mLoad) :=
  (keepsMode_wakeUnits _).trans (keepsMode_takeRoles _)

theorem enterMode_mode (s : State) (m : Nat) : (s.enterMode m).mode = m := (obj_set_ne _ _ (by decide)).trans (obj_set_self ..)

theorem enterMode_boot (s : State) (m : Nat) : (s.enterMode m).boot = s.boot := (set_boot ..).trans (set_boot ..)

theorem confirmedAsk_mode : (confirmedAsk s).mode = s.mode := rfl

theorem confirmedAsk_boot : (confirmedAsk s).boot = s.boot := rfl

theorem confirmed_loads (hstep : s.boot.step = .confirming) (hlive : s.boot.live = true) (htrained : s.boot.trained = true) :
    xConfirmed s = confirmedAsk (confirmedLoad (confirmedDies (confirmedBoot s))) :=
  (xConfirmed_eq s).trans (if_neg (by simp [hstep, hlive, htrained]))

theorem confirmedLoad_mode : (confirmedLoad s).mode = mLoad := keepsMode_confirmedLoad.mode.trans (enterMode_mode ..)

theorem confirmedLoad_boot : (confirmedLoad s).boot = s.boot := keepsMode_confirmedLoad.boot.trans (enterMode_boot ..)

theorem confirmed_boots (t : Nat) (hheld : s.held = false) (hstep : s.boot.step = .confirming) (hlive : s.boot.live = true)
    (htrained : s.boot.trained = true) :
    Completes (.firmwareConfirmed t) s (fun u => u.mode = mLoad ∧ u.boot = { s.boot with step := .done }) (fun _ => True) := by
  refine completes_event (exec_firmwareConfirmed t s) hheld ?_
  rw [confirmed_loads (s := s.begin_ t) hstep hlive htrained]
  refine ⟨(confirmedAsk_mode).trans confirmedLoad_mode, ?_⟩
  rw [confirmedAsk_boot, confirmedLoad_boot, confirmedDies_boot, confirmedBoot_boot, begin_boot]

/-- Settles O24: each step of the boot, from what it reads. -/
theorem bootFollowsItsSteps : Obligations.BootFollowsItsSteps := by
  unfold Obligations.BootFollowsItsSteps
  refine ⟨fun s t _ hlow hrails => porNRelease_boots s t hlow hrails, fun s t bad strap hheld hlive hwarm =>
    backstopLive_boots t bad strap hheld hlive hwarm, fun s t repaired h hfresh => storeTraining_boots t repaired h hfresh,
    refclk_boots, fun s t h hstep hboot hnone => headerRead_boots t h hstep hboot hnone,
    fun s t h hstep hgood => imageRead_boots t h hstep hgood, ?_,
    fun s t hheld hstep hlive htrained => confirmed_boots t hheld hstep hlive htrained⟩
  rintro s t c h (⟨hstep, rfl⟩ | ⟨hstep, rfl⟩)
  · exact failSlot_boots t h (exec_bootImageRead t false s) (by simp [xImageRead, hstep])
  · exact failSlot_boots t h (exec_confirmTimeout t s) (by simp [xConfirmTimeout, hstep])

end

end Sys2Proof.Proofs
end

section
/-! # Rails, temperatures and SAFE_N (R400, R412, R416, R425) -/

set_option Elab.async false

namespace Sys2Proof.Proofs

open Sys2Proof Sys2Proof.Machine Sys2Proof.Laws

/-! ## Units that are each brought to a condition -/

/-- A condition of a unit that its own step brings about and the steps of others keep holds of every unit of the list. -/
theorem foldl_establishes {P : Nat → State → Prop} {f : State → Nat → State} (hself : ∀ t n, P n (f t n))
    (hother : ∀ t n m, n ≠ m → P n t → P n (f t m)) (xs : List Nat) (s : State) {n : Nat} (hn : n ∈ xs) : P n (xs.foldl f s) := by
  have hkept (ys : List Nat) (t : State) (h : P n t) : P n (ys.foldl f t) := by
    induction ys generalizing t with
    | nil => exact h
    | cons y ys ih =>
      by_cases heq : n = y
      · exact ih _ (heq ▸ hself t n)
      · exact ih _ (hother t n y heq h)
  induction xs generalizing s with
  | nil => exact absurd hn List.not_mem_nil
  | cons x xs ih =>
    rcases List.mem_cons.1 hn with rfl | hxs
    · exact hkept xs _ (hself s n)
    · exact ih _ hxs

/-! ## Rails -/

section
variable {s : State} {t r n m : Nat} {mv : Int}

/-- What a rail back in its window reads. -/
def railFacts (r : Nat) (mv : Int) : List (Nat × Nat) := [(K.deviceRailVolts r, f32OfIntRat mv 1000), (K.deviceRailState r, 0)]

theorem railReturn_shows (h : Awake s) (hpresent : railPresent s.variant r = true) (hin : railState r mv = 0)
    (hfree : s.railsLow.testBit r = false) :
    Sets (.railReturn t r mv) s (railFacts r mv) (fun u => u.railsLow = s.railsLow) := by
  have heffect : xRailReturn r mv (s.begin_ t) = setAll (s.begin_ t) (railFacts r mv) := by
    have hfree' : (setAll (s.begin_ t) (railFacts r mv)).railsLow.testBit r = false := hfree
    simp only [xRailReturn, hin, if_true]
    exact if_neg (by rw [Bool.and_eq_true]; exact fun hc => absurd (hfree'.symm.trans hc.1) (by decide))
  refine sets_runOf (exec_railReturn t r mv s) hpresent h.2 ?_ ?_ ?_ <;> rw [heffect]
  · exact leaves_setAll ..
  · refine holds_setAll _ ?_
    simp only [railFacts, List.map_cons, List.map_nil, List.nodup_cons, List.mem_singleton, List.not_mem_nil, not_false_eq_true,
      List.nodup_nil, and_true]
    exact key_ne (by decide) (by decide) (by omega)
  · rfl

/-! ## The outputs without their supply -/

theorem withBit_mod (v i : Nat) (b : Bool) : withBit v i b % 2 ^ i = v % 2 ^ i := by
  rw [withBit, withBits, Nat.shiftLeft_eq, Nat.shiftLeft_eq, pow_succ,
    show v >>> (i + 1) * (2 ^ i * 2) + ofBool b % 2 ^ (i + 1 - i) * 2 ^ i + v % 2 ^ i =
      v % 2 ^ i + (v >>> (i + 1) * 2 + ofBool b % 2 ^ (i + 1 - i)) * 2 ^ i by ring, Nat.add_mul_mod_self_right, Nat.mod_mod]

/-- The status byte of an output at its clamp. -/
def clampedByte (b : Nat) : Nat := withBit (enByte b eOff 0) 6 false

theorem clampedByte_off (b : Nat) : enState (clampedByte b) = 0 ∧ enPending (clampedByte b) = 0 ∧ (clampedByte b).testBit 6 = false := by
  have hlow : clampedByte b % 2 ^ 6 = (b / 16 * 16) % 2 ^ 6 := by
    refine (withBit_mod ..).trans ?_
    simp [enByte, withBits, eOff, Nat.shiftLeft_eq, Nat.shiftRight_eq_div_pow, Nat.mod_one]
  refine ⟨?_, ?_, testBit_withBit_self ..⟩
  · simp only [enState, bitsOf, Nat.shiftRight_zero]
    omega
  · simp only [enPending, bitsOf, Nat.shiftRight_eq_div_pow]
    omega

/-- An output is at its clamp, and nothing moves in it. -/
def Clamped (n : Nat) (u : State) : Prop :=
  enState (u.obj (K.dacStatus n)) = 0 ∧ enPending (u.obj (K.dacStatus n)) = 0 ∧
    (u.obj (K.dacStatus n)).testBit 6 = false ∧ (u.dac n).fed = false ∧ (u.dac n).move = none ∧ (u.dac n).slew = none

theorem dacStatus_inj (h : n ≠ m) : K.dacStatus n ≠ K.dacStatus m := key_ne (by decide) (by decide) (by omega)

theorem dacClamp_status (s : State) (n : Nat) : (s.dacClamp n).obj (K.dacStatus n) = clampedByte (s.obj (K.dacStatus n)) := by
  have h : (s.dacClamp n).obj (K.dacStatus n) = ((s.set (K.dacStatus n) (enByte (s.obj (K.dacStatus n)) eOff 0)).dacBit n 6 false).obj
      (K.dacStatus n) := rfl
  rw [h, State.dacBit, obj_set_self, obj_set_self]
  rfl

theorem dacClamp_other (s : State) {k : Nat} (h : k ≠ K.dacStatus n) : (s.dacClamp n).obj k = s.obj k :=
  (obj_set_ne _ _ h).trans (obj_set_ne _ _ h)

theorem dacClamp_dac_other (s : State) (h : n ≠ m) : (s.dacClamp m).dac n = s.dac n := get_put_ne _ _ _ h

theorem clamped_dacClamp (s : State) (n : Nat) : Clamped n (s.dacClamp n) := by
  have hdac : (s.dacClamp n).dac n = { s.dac n with
      fed := false, waiting := none, slew := none, move := none, moveWaits := false, limitAt := none } := get_put_self ..
  obtain ⟨hstate, hpending, hholding⟩ := clampedByte_off (s.obj (K.dacStatus n))
  rw [Clamped, dacClamp_status, hdac]
  exact ⟨hstate, hpending, hholding, rfl, rfl, rfl⟩

theorem clamped_other (s : State) (hne : n ≠ m) (h : Clamped n s) : Clamped n (s.dacClamp m) := by
  unfold Clamped
  rw [dacClamp_other s (dacStatus_inj hne), dacClamp_dac_other s hne]
  exact h

theorem leaves_restDac (ks : List Nat) (s : State) (n : Nat) : Leaves ks (s.restDac n) s := leaves_of_dict rfl rfl rfl rfl rfl rfl

theorem leaves_dacClamp {ks : List Nat} (s : State) (h : K.dacStatus n ∈ ks) : Leaves ks (s.dacClamp n) s :=
  (leaves_restDac ..).trans ((leaves_set _ _ h).trans (leaves_set _ _ h))

theorem dacSupplyLoss_clamps (h : Awake s) (hpresent : railPresent s.variant r = true)
    (hlost : (r = 3 ∧ mv < 1500) ∨ ((r = 7 ∨ r = 8) ∧ mv.natAbs < 9000)) :
    Completes (.dacSupplyLoss t r mv) s
      (fun u => u.obj (K.deviceRailVolts r) = f32OfIntRat mv 1000 ∧ ∀ n < dacCount s.variant, Clamped n u)
      (fun v => Frame s v (K.deviceRailVolts r :: (List.range (dacCount s.variant)).map K.dacStatus)) := by
  have hdown : dacSupplyLost r mv = true := by
    unfold dacSupplyLost
    rcases hlost with ⟨rfl, hmv⟩ | ⟨rfl | rfl, hmv⟩ <;> simp [hmv]
  have heffect : xDacSupplyLoss r mv (s.begin_ t) =
      (List.range (dacCount s.variant)).foldl (fun st n => st.dacClamp n) ((s.begin_ t).setVolts r mv) := if_pos hdown
  have hvolts (u : State) (n : Nat) : (u.dacClamp n).obj (K.deviceRailVolts r) = u.obj (K.deviceRailVolts r) :=
    dacClamp_other u (key_ne (by decide) (by decide) (by omega))
  refine completes_leaves ((exec_dacSupplyLoss t r mv s).trans (runOf_next s _ t _ hpresent)) h.2 ?_ ?_ fun v _ hframe => hframe
  · rw [heffect]
    refine (leaves_foldl _ _ _ fun u n hn => ?_).trans ((leaves_set _ _ (List.mem_cons_self ..)).trans (leaves_begin ..))
    exact leaves_dacClamp u (List.mem_cons_of_mem _ (List.mem_map_of_mem hn))
  · rw [heffect]
    exact ⟨(foldl_keeps (·.obj (K.deviceRailVolts r)) _ _ _ hvolts).trans (obj_set_self ..), fun n hn =>
      foldl_establishes clamped_dacClamp (fun u _ _ hne hc => clamped_other u hne hc) _ _ (List.mem_range.2 hn)⟩

/-! ## Temperatures -/

/-- The objects of sensors, in the order in which they are compared. -/
def sensors (s : State) : List Nat :=
  [s.obj K.deviceTempDigital, s.obj (K.deviceTempAna 0), s.obj K.storeTemp] ++
    (if dieCount s.variant = 2 then [s.obj (K.deviceTempAna 1)] else [])

/-- The highest of temperatures, one of them to start from. -/
def highest (a : Int) (xs : List Nat) : Int := (xs.map (signed 16)).foldl max a

theorem le_highest (a : Int) (xs : List Nat) : a ≤ highest a xs ∧ ∀ x ∈ xs, signed 16 x ≤ highest a xs := by
  induction xs generalizing a with
  | nil => exact ⟨le_refl a, fun x hx => absurd hx List.not_mem_nil⟩
  | cons y ys ih =>
    obtain ⟨hstart, hall⟩ := ih (max a (signed 16 y))
    refine ⟨(le_max_left ..).trans hstart, fun x hx => ?_⟩
    rcases List.mem_cons.1 hx with rfl | hys
    · exact (le_max_right ..).trans hstart
    · exact hall x hys

theorem highest_is (a : Int) (xs : List Nat) : highest a xs = a ∨ ∃ x ∈ xs, highest a xs = signed 16 x := by
  induction xs generalizing a with
  | nil => exact .inl rfl
  | cons y ys ih =>
    rcases ih (max a (signed 16 y)) with h | ⟨x, hx, h⟩
    · rcases max_choice a (signed 16 y) with hmax | hmax
      · exact .inl (h.trans hmax)
      · exact .inr ⟨y, List.mem_cons_self .., h.trans hmax⟩
    · exact .inr ⟨x, List.mem_cons_of_mem _ hx, h⟩

theorem signed_unsigned (x : Nat) : signed 16 (unsigned 16 (signed 16 x)) = signed 16 x := by
  have hmod : x % 65536 < 65536 := Nat.mod_lt _ (by decide)
  simp only [signed, unsigned, show (2 : Nat) ^ 16 = 65536 from rfl, show (2 : Nat) ^ (16 - 1) = 32768 from rfl]
  split
  · have hcode : ((((x % 65536 : Nat) : Int) % ((65536 : Nat) : Int)).toNat) = x % 65536 := by omega
    rw [hcode, if_pos (by omega)]
    omega
  · have hcode : (((((x % 65536 : Nat) : Int) - ((65536 : Nat) : Int)) % ((65536 : Nat) : Int)).toNat) = x % 65536 := by omega
    rw [hcode, if_neg (by omega)]
    omega

/-- The highest temperature is shown, and the highest one ever seen. -/
def shownMax (s : State) (m : Int) : State :=
  let t := s.set K.deviceTempMax (unsigned 16 m)
  if signed 16 (t.obj K.deviceTempMaxSeen) < m then t.set K.deviceTempMaxSeen (unsigned 16 m) else t

/-- The highest temperature, with its source. -/
def warned (s before : State) : State :=
  State.riseIf before (shownMax s (highest (signed 16 (s.obj K.deviceTempDigital)) (sensors s))) 760 0

theorem thermal_eq (s before : State) : s.thermal before =
    if signed 16 ((warned s before).obj K.deviceSafeTjLimit) < highest (signed 16 (s.obj K.deviceTempDigital)) (sensors s)
    then (warned s before).askSafe 3 else warned s before := rfl

theorem shownMax_max (s : State) (m : Int) : (shownMax s m).obj K.deviceTempMax = unsigned 16 m := by
  unfold shownMax
  extract_lets t
  split
  · exact (obj_set_ne _ _ (by decide)).trans (obj_set_self ..)
  · exact obj_set_self ..

theorem leaves_warned (s before : State) : Leaves ([K.deviceTempMax, K.deviceTempMaxSeen] ++ evKeys 760) (warned s before) s := by
  refine (leaves_riseIf _ _ _ _ fun k hk => List.mem_append_right _ hk).trans ?_
  have hmax : Leaves ([K.deviceTempMax, K.deviceTempMaxSeen] ++ evKeys 760) (s.set K.deviceTempMax
    (unsigned 16 (highest (signed 16 (s.obj K.deviceTempDigital)) (sensors s)))) s := leaves_set _ _ (List.mem_cons_self ..)
  exact leaves_ite (fun _ => (leaves_set _ _ (List.mem_cons_of_mem _ (List.mem_cons_self ..))).trans hmax) fun _ => hmax

theorem obj_thermal (s before : State) (k : Nat) : (s.thermal before).obj k = (warned s before).obj k := by
  rw [thermal_eq]
  split <;> rfl

theorem thermal_asks (s before : State) (hsafe : s.safeAsk = 0) : (s.thermal before).safeAsk.testBit 3 = true ↔
    signed 16 (s.obj K.deviceSafeTjLimit) < highest (signed 16 (s.obj K.deviceTempDigital)) (sensors s) := by
  have hleaves := leaves_warned s before
  have hlimit : (warned s before).obj K.deviceSafeTjLimit = s.obj K.deviceSafeTjLimit :=
    hleaves.obj _ (by unfold evKeys; decide) (by decide)
  rw [thermal_eq, hlimit]
  split
  next hhot => exact ⟨fun _ => hhot, fun _ => safeAsk_askSafe ..⟩
  next hcool =>
    rw [hleaves.safeAsk, hsafe]
    exact ⟨fun h => absurd h (by decide), fun h => absurd h hcool⟩

/-- A temperature that drifts from the one of its estimator flags its pair alone. -/
theorem leaves_ilvDrift {ks : List Nat} (s : State) (n : Nat) (hflags : K.tileIlvFlags n ∈ ks) (hev : ∀ k ∈ evKeys (256 + n), k ∈ ks) :
    Leaves ks (s.ilvDrift n) s :=
  leaves_ite (fun _ => (leaves_raise _ _ _ hev).trans (leaves_set _ _ hflags)) fun _ => Leaves.refl ..

theorem ilvDrift_obj (s : State) (n : Nat) {k : Nat} (hk : k < 0x300000) : (s.ilvDrift n).obj k = s.obj k := by
  have hne : k ≠ K.tileIlvFlags n := by
    unfold K.tileIlvFlags key
    omega
  unfold State.ilvDrift
  extract_lets t d
  split
  · exact (obj_raise_of_lt _ _ _ (by omega)).trans (obj_set_ne _ _ hne)
  · rfl

theorem ilvDrift_safeAsk (s : State) (n : Nat) : (s.ilvDrift n).safeAsk = s.safeAsk :=
  (leaves_ilvDrift (ks := K.tileIlvFlags n :: evKeys (256 + n)) s n (List.mem_cons_self ..) fun _ hk => List.mem_cons_of_mem _ hk).safeAsk

/-- The sensors as they were read. -/
def sensed (s : State) (d a0 a1 : Int) : State :=
  let t := (s.set K.deviceTempDigital (satSigned 16 d)).set (K.deviceTempAna 0) (satSigned 16 a0)
  if dieCount s.variant = 2 then t.set (K.deviceTempAna 1) (satSigned 16 a1) else t

theorem tempRead_eq (d a0 a1 : Int) (s : State) :
    xTempRead d a0 a1 s = (allTiles s.variant).foldl (fun st n => st.ilvDrift n) ((sensed s d a0 a1).thermal s) := rfl

theorem sensed_variant (d a0 a1 : Int) : (sensed s d a0 a1).variant = s.variant := by
  unfold sensed
  extract_lets t
  split <;> rfl

/-- What the sensors read and what the stack showed. -/
theorem sensed_reads (d a0 a1 : Int) : (sensed s d a0 a1).obj K.deviceTempDigital = satSigned 16 d ∧
    (sensed s d a0 a1).obj (K.deviceTempAna 0) = satSigned 16 a0 ∧ (sensed s d a0 a1).obj K.storeTemp = s.obj K.storeTemp ∧
    (dieCount s.variant = 2 → (sensed s d a0 a1).obj (K.deviceTempAna 1) = satSigned 16 a1) := by
  unfold sensed
  extract_lets t
  have hdigital : t.obj K.deviceTempDigital = satSigned 16 d := (obj_set_ne _ _ (by decide)).trans (obj_set_self ..)
  have hana : t.obj (K.deviceTempAna 0) = satSigned 16 a0 := obj_set_self ..
  have hstack : t.obj K.storeTemp = s.obj K.storeTemp := (obj_set_ne _ _ (by decide)).trans (obj_set_ne _ _ (by decide))
  split
  · exact ⟨(obj_set_ne _ _ (by decide)).trans hdigital, (obj_set_ne _ _ (by decide)).trans hana,
      (obj_set_ne _ _ (by decide)).trans hstack, fun _ => obj_set_self ..⟩
  next hone => exact ⟨hdigital, hana, hstack, fun htwo => absurd htwo hone⟩

theorem sensors_sensed (d a0 a1 : Int) : sensors (sensed s d a0 a1) =
    [satSigned 16 d, satSigned 16 a0, s.obj K.storeTemp] ++ (if dieCount s.variant = 2 then [satSigned 16 a1] else []) := by
  obtain ⟨hdigital, hana, hstack, hsecond⟩ := sensed_reads (s := s) d a0 a1
  rw [sensors, hdigital, hana, hstack, sensed_variant]
  split
  next htwo => rw [hsecond htwo]
  next => rfl

theorem leaves_sensed (d a0 a1 : Int) :
    Leaves [K.deviceTempDigital, K.deviceTempAna 0, K.deviceTempAna 1] (sensed s d a0 a1) s := by
  unfold sensed
  extract_lets t
  have ht : Leaves [K.deviceTempDigital, K.deviceTempAna 0, K.deviceTempAna 1] t s :=
    (leaves_set _ _ (List.mem_cons_of_mem _ (List.mem_cons_self ..))).trans (leaves_set _ _ (List.mem_cons_self ..))
  exact leaves_ite (fun _ => (leaves_set _ _ (by simp)).trans ht) fun _ => ht

/-- The highest sensor is one of them. -/
theorem highest_mem (u : State) :
    ∃ x ∈ sensors u, highest (signed 16 (u.obj K.deviceTempDigital)) (sensors u) = signed 16 x := by
  rcases highest_is (signed 16 (u.obj K.deviceTempDigital)) (sensors u) with h | h
  · exact ⟨_, List.mem_append_left _ (List.mem_cons_self ..), h⟩
  · exact h

theorem warned_max (u before : State) : signed 16 ((warned u before).obj K.deviceTempMax) =
    highest (signed 16 (u.obj K.deviceTempDigital)) (sensors u) := by
  obtain ⟨x, -, hx⟩ := highest_mem u
  rw [warned, obj_riseIf_of_lt (by decide), shownMax_max, hx, signed_unsigned]

/-- What a read of the temperatures may change. -/
def tempKeys (v : Variant) : List Nat :=
  [K.deviceTempDigital, K.deviceTempAna 0, K.deviceTempAna 1, K.deviceTempMax, K.deviceTempMaxSeen] ++ evKeys 760 ++
    (allTiles v).flatMap (fun n => K.tileIlvFlags n :: evKeys (256 + n))

/-- What the pairs do after the sensors have been compared. -/
theorem leaves_drifts (u : State) (v : Variant) : Leaves (tempKeys v) ((allTiles v).foldl (fun st n => st.ilvDrift n) u) u := by
  refine leaves_foldl _ _ _ fun w n hn => leaves_ilvDrift w n ?_ fun k hk => ?_ <;>
    refine List.mem_append_right _ (List.mem_flatMap.2 ⟨n, hn, ?_⟩)
  · exact List.mem_cons_self ..
  · exact List.mem_cons_of_mem _ hk

theorem leaves_tempRead (d a0 a1 : Int) (u : State)
    (hcool : ¬ signed 16 (u.obj K.deviceSafeTjLimit) < highest (signed 16 ((sensed u d a0 a1).obj K.deviceTempDigital)) (sensors (sensed u d a0 a1))) :
    Leaves (tempKeys u.variant) (xTempRead d a0 a1 u) u := by
  have hsensed := leaves_sensed (s := u) d a0 a1
  have hlimit : (warned (sensed u d a0 a1) u).obj K.deviceSafeTjLimit = u.obj K.deviceSafeTjLimit :=
    ((leaves_warned ..).obj _ (by unfold evKeys; decide) (by decide)).trans (hsensed.obj _ (by decide) (by decide))
  have hthermal : (sensed u d a0 a1).thermal u = warned (sensed u d a0 a1) u := by
    rw [thermal_eq, hlimit, if_neg hcool]
  rw [tempRead_eq, hthermal]
  refine (leaves_drifts ..).trans (((leaves_warned ..).mono fun k hk => ?_).trans (hsensed.mono fun k hk => ?_))
  · simp only [tempKeys, List.cons_append, List.nil_append, List.mem_append, List.mem_cons] at hk ⊢
    tauto
  · simp only [tempKeys, List.cons_append, List.nil_append, List.mem_append, List.mem_cons, List.not_mem_nil, or_false] at hk ⊢
    tauto

/-- What a command's effect leaves alone, the state after it has too. -/
theorem frame_of_leaves {ks : List Nat} {u : State} (hsafe : s.safeAsk = 0) (hl : Leaves ks u s) : Frame s (s.finish u) ks := by
  have hv := same_finish s u hl.variant (hl.safeAsk.trans hsafe)
  exact ⟨fun k hk hn => (hv.obj k hk).trans (hl.obj k hn hk), fun a => by simp only [State.byte, hv.mem, hl.mem],
    hv.ctxs.trans hl.ctxs, hv.inForce.trans hl.inForce⟩

theorem tempRead_shows (d a0 a1 : Int) (h : Awake s) :
    let ts := [satSigned 16 d, satSigned 16 a0, s.obj K.storeTemp] ++ (if dieCount s.variant = 2 then [satSigned 16 a1] else [])
    Completes (.tempSensorRead t d a0 a1) s
      (fun u => u.obj K.deviceTempDigital = satSigned 16 d ∧ u.obj (K.deviceTempAna 0) = satSigned 16 a0 ∧
        (dieCount s.variant = 2 → u.obj (K.deviceTempAna 1) = satSigned 16 a1) ∧
        (∀ x ∈ ts, signed 16 x ≤ signed 16 (u.obj K.deviceTempMax)) ∧ (∃ x ∈ ts, signed 16 (u.obj K.deviceTempMax) = signed 16 x) ∧
        (u.safeAsk.testBit 3 = true ↔ signed 16 (s.obj K.deviceSafeTjLimit) < signed 16 (u.obj K.deviceTempMax)))
      (fun v => (∀ x ∈ ts, signed 16 x ≤ signed 16 (s.obj K.deviceSafeTjLimit)) → Frame s v (tempKeys s.variant)) := by
  intro ts
  have hts : sensors (sensed (s.begin_ t) d a0 a1) = ts := sensors_sensed d a0 a1
  obtain ⟨hdigital, hana, -, hsecond⟩ := sensed_reads (s := s.begin_ t) d a0 a1
  have hlow {k : Nat} (hk : k < 0x300000) :
      (xTempRead d a0 a1 (s.begin_ t)).obj k = (warned (sensed (s.begin_ t) d a0 a1) (s.begin_ t)).obj k :=
    (foldl_keeps (·.obj k) _ _ _ fun u n => ilvDrift_obj u n hk).trans (obj_thermal ..)
  have hread {k : Nat} (hk : k < 0x300000) (hn : k ∉ [K.deviceTempMax, K.deviceTempMaxSeen] ++ evKeys 760) (hs : settledKey k = false) :
      (xTempRead d a0 a1 (s.begin_ t)).obj k = (sensed (s.begin_ t) d a0 a1).obj k :=
    (hlow hk).trans ((leaves_warned ..).obj k hn hs)
  have hasks : (xTempRead d a0 a1 (s.begin_ t)).safeAsk = ((sensed (s.begin_ t) d a0 a1).thermal (s.begin_ t)).safeAsk :=
    foldl_keeps State.safeAsk _ _ _ ilvDrift_safeAsk
  have hlimit : (sensed (s.begin_ t) d a0 a1).obj K.deviceSafeTjLimit = s.obj K.deviceSafeTjLimit :=
    (leaves_sensed ..).obj _ (by decide) (by decide)
  have hmax := warned_max (sensed (s.begin_ t) d a0 a1) (s.begin_ t)
  obtain ⟨x, hx, hxmax⟩ := highest_mem (sensed (s.begin_ t) d a0 a1)
  refine ⟨_, (exec_tempSensorRead t d a0 a1 s).trans (event_next s t _ h.1), ⟨?_, ?_, fun htwo => ?_, ?_, ?_, ?_⟩, fun hcool => ?_⟩
  · exact (hread (by decide) (by unfold evKeys; decide) (by decide)).trans hdigital
  · exact (hread (by decide) (by unfold evKeys; decide) (by decide)).trans hana
  · exact (hread (by decide) (by unfold evKeys; decide) (by decide)).trans (hsecond htwo)
  · rw [hlow (by decide), hmax, ← hts]
    exact (le_highest ..).2
  · rw [hlow (by decide), hmax, ← hts]
    exact ⟨x, hx, hxmax⟩
  · rw [hlow (by decide), hmax, hasks, ← hlimit]
    exact thermal_asks _ _ ((leaves_sensed ..).safeAsk.trans h.2)
  · have hbelow : ¬ signed 16 ((s.begin_ t).obj K.deviceSafeTjLimit) < highest (signed 16 ((sensed (s.begin_ t) d a0 a1).obj
        K.deviceTempDigital)) (sensors (sensed (s.begin_ t) d a0 a1)) := by
      rw [hxmax, not_lt]
      exact hcool x (hts ▸ hx)
    have hleaves := leaves_tempRead d a0 a1 (s.begin_ t) hbelow
    rw [begin_variant] at hleaves
    exact frame_of_leaves h.2 (hleaves.trans (leaves_begin s t))

theorem safeNRelease_shows (h : Awake s) : Sets (.safeNRelease t) s [] (fun u => u.safeLow = false) :=
  sets_of_leaves (exec_safeNRelease t s) h.2 (leaves_of_dict rfl rfl rfl rfl rfl rfl) (holds_nil _) rfl

end

/-- Settles O25: what each reading shows, and what a lost supply clamps. -/
theorem suppliesAndTemperaturesShow : Obligations.SuppliesAndTemperaturesShow := by
  unfold Obligations.SuppliesAndTemperaturesShow
  exact ⟨fun s t r mv h hpresent hin hfree => railReturn_shows h hpresent hin hfree,
    fun s t r mv h hpresent hlost => dacSupplyLoss_clamps h hpresent hlost, fun s t d a0 a1 h => tempRead_shows d a0 a1 h,
    fun s t h => safeNRelease_shows h⟩

end Sys2Proof.Proofs
end

section
/-! # Version objects (R33, R36, R41, R48) -/

set_option Elab.async false

namespace Sys2Proof.Proofs

open Sys2Proof Sys2Proof.Machine Sys2Proof.Laws

/-! ## Accepted writes whose effect is known -/

section
variable {c : Instr} {s u : State} {q : Req} {k : Nat} {l : Loc} {ks : List Nat} {own after : State → Prop}

theorem completes_put {f : State → Put → State} (he : exec c s = s.asks (onObject q k) .write)
    (h : Accepts s (onObject q k) l) (hfamily : s.written (onObject q k) l = putBy f s q k l)
    (hput : f (s.access (onObject q k)) (putAt s q k l) = u) (hvariant : u.variant = s.variant) (hsafe : u.safeAsk = 0)
    (hown : own ((s.written (onObject q k) l).answered (onObject q k) .write ((s.access (onObject q k)).readsTrace (onObject q k) .write) []
      l.row.ty.code 0))
    (hafter : ∀ v, Same v u → after v) : Completes c s own after := by
  have heffect : s.written (onObject q k) l = u.record k ((s.access (onObject q k)).classOf q.port) q.port := by
    rw [hfamily, putBy, hput]
  refine completes_same (he.trans (write_done s _ l h)) ?_ ?_ hown fun v hv => hafter v ?_
  · rw [answered_variant, heffect]
    exact hvariant
  · rw [answered_safeAsk, heffect]
    exact hsafe
  · have hsame := hv.trans (same_answered ..)
    rw [heffect] at hsame
    exact hsame.trans (same_record ..)

/-- The frame of an accepted write, from the frame of its effect. -/
theorem requestFrame_of_put {v : State} (h : Accepts s (onObject q k) l) (hl : Leaves ks u (s.access (onObject q k))) (hv : Same v u) :
    RequestFrame s v ks :=
  requestFrame_of h.1.1 hv (Same.refl u) (fun i _ hi hs => hl.obj i hi hs) (hl.mem.trans (access_mem ..)) (hl.ctxs.trans (access_ctxs ..))
    (hl.inForce.trans (access_inForce ..))

/-! ## The check of a die -/

/-- What the class of a word depends on. -/
def classFacts (s : State) : (Boot × Slot × Slot) × (Nat × Nat) :=
  ((s.boot, s.slotA, s.slotB), (s.obj K.versionsMgmtRunning, s.obj K.versionsMajors))

/-- What the check of a die depends on beside what the die reads. -/
def checkFacts (s : State) : ((Boot × Slot × Slot) × (Nat × Nat)) × (List Nat × Nat) := (classFacts s, (s.seqWords, s.obj K.versionsAccept))

theorem classify_congr (kind w : Nat) (h : classFacts u = classFacts s) : u.classify kind w = s.classify kind w := by
  simp only [classFacts, Prod.mk.injEq] at h
  obtain ⟨⟨hboot, hslotA, hslotB⟩, hrunning, hmajors⟩ := h
  have hcombos : u.currentCombos = s.currentCombos := by
    simp only [State.currentCombos, State.running, State.bootSlot, hboot, hslotA, hslotB, hrunning]
  have hmajor : u.majorOf kind = s.majorOf kind := by rw [State.majorOf, hmajors, ← State.majorOf]
  unfold State.classify
  rw [hcombos, hmajor]

theorem checkFacts_set (s : State) (v : Nat) (h : k ∉ [K.versionsMgmtRunning, K.versionsMajors, K.versionsAccept]) :
    checkFacts (s.set k v) = checkFacts s := by
  simp only [List.mem_cons, List.not_mem_nil, or_false, not_or] at h
  obtain ⟨h1, h2, h3⟩ := h
  simp only [checkFacts, classFacts, set_boot, set_slotA, set_slotB, set_seqWords, obj_set_ne _ _ (Ne.symm h1), obj_set_ne _ _ (Ne.symm h2),
    obj_set_ne _ _ (Ne.symm h3)]

theorem checkFacts_raise (s : State) (n d : Nat) : checkFacts (s.raise n d) = checkFacts s := by
  simp only [checkFacts, classFacts, raise_boot, raise_slotA, raise_slotB, raise_seqWords,
    obj_raise_of_lt s n d (show K.versionsMgmtRunning < 0x700000 by decide),
    obj_raise_of_lt s n d (show K.versionsMajors < 0x700000 by decide), obj_raise_of_lt s n d (show K.versionsAccept < 0x700000 by decide)]

/-- The record of an item that runs untested. -/
def markUntested (s : State) (bit : Nat) (b : Bool) : State := { s with untested := withBit s.untested bit b }

/-- Whether any item runs untested. -/
def restriction (s : State) : Nat := if s.untested = 0 then 0 else 1

theorem setUntested_eq (s : State) (bit : Nat) (b : Bool) : s.setUntested bit b =
    if s.obj K.versionsRestricted = restriction (markUntested s bit b) then markUntested s bit b
    else ((markUntested s bit b).set K.versionsRestricted (restriction (markUntested s bit b))).raise 746 0 := rfl

theorem leaves_markUntested (ks : List Nat) (s : State) (bit : Nat) (b : Bool) : Leaves ks (markUntested s bit b) s :=
  leaves_of_dict rfl rfl rfl rfl rfl rfl

theorem leaves_setUntested (bit : Nat) (b : Bool) (hr : K.versionsRestricted ∈ ks) (hev : ∀ i ∈ evKeys 746, i ∈ ks) :
    Leaves ks (s.setUntested bit b) s := by
  rw [setUntested_eq]
  exact leaves_ite (fun _ => leaves_markUntested ..) fun _ => (leaves_raise _ _ _ hev).trans ((leaves_set _ _ hr).trans (leaves_markUntested ..))

theorem checkFacts_setUntested (bit : Nat) (b : Bool) : checkFacts (s.setUntested bit b) = checkFacts s := by
  have hmark : checkFacts (markUntested s bit b) = checkFacts s := rfl
  rw [setUntested_eq]
  split
  · exact hmark
  · exact (checkFacts_raise ..).trans ((checkFacts_set (k := K.versionsRestricted) _ _ (by decide)).trans hmark)

theorem obj_setUntested (bit : Nat) (b : Bool) {i : Nat} (hi : i < 0x700000) (hne : i ≠ K.versionsRestricted) :
    (s.setUntested bit b).obj i = s.obj i := by
  have hmark : (markUntested s bit b).obj i = s.obj i := rfl
  rw [setUntested_eq]
  split
  · exact hmark
  · exact (obj_raise_of_lt _ _ _ hi).trans ((obj_set_ne _ _ hne).trans hmark)

/-- What a die whose sequencer is checked reads. -/
def dieState (accept : Nat) : Tested → Nat
  | .tested => 0
  | .untested => if accept = 1 then 1 else 2
  | .untestable => 2

/-- The refusal that the check of a die records, where it has one. -/
def dieNoted (s : State) (x : Tested) : State :=
  match x with
  | .tested => s
  | .untested => if s.obj K.versionsAccept = 1 then s else s.noteRefusal 2 aUntested
  | .untestable => s.noteRefusal 2 aStale

section
variable {d e : Nat}

theorem accept_ne_seqState (hd : d < 2) : K.versionsAccept ≠ K.versionsSeqState d := key_ne (by decide) (by omega) (.inl (by decide))

theorem checkDie_eq (hd : d < 2) : ∃ b, s.checkDie d =
    (dieNoted (s.set (K.versionsSeqState d) (dieState (s.obj K.versionsAccept) (s.classify 2 (s.seqWords.getD d 0))))
      (s.classify 2 (s.seqWords.getD d 0))).setUntested (1 + d) b := by
  unfold State.checkDie
  extract_lets w
  cases s.classify 2 w with
  | tested => exact ⟨false, rfl⟩
  | untestable => exact ⟨false, rfl⟩
  | untested =>
    simp only [dieNoted, dieState, obj_set_ne s _ (accept_ne_seqState hd)]
    split
    · exact ⟨true, rfl⟩
    · exact ⟨false, rfl⟩

theorem obj_dieNoted (x : Tested) {i : Nat} (hi : i ≠ K.versionsLastRefusal) : (dieNoted s x).obj i = s.obj i := by
  unfold dieNoted
  split
  · rfl
  · split
    · rfl
    · exact obj_set_ne _ _ hi
  · exact obj_set_ne _ _ hi

theorem leaves_dieNoted (x : Tested) (h : K.versionsLastRefusal ∈ ks) : Leaves ks (dieNoted s x) s := by
  unfold dieNoted
  split
  · exact Leaves.refl ..
  · exact leaves_ite (fun _ => Leaves.refl ..) fun _ => leaves_set _ _ h
  · exact leaves_set _ _ h

theorem checkFacts_dieNoted (x : Tested) : checkFacts (dieNoted s x) = checkFacts s := by
  have hnoted (code : Nat) : checkFacts (s.noteRefusal 2 code) = checkFacts s :=
    checkFacts_set (k := K.versionsLastRefusal) _ _ (by decide)
  unfold dieNoted
  split
  · rfl
  · split
    · rfl
    · exact hnoted ..
  · exact hnoted ..

theorem seqState_free (hd : d < 2) : K.versionsSeqState d ∉ [K.versionsMgmtRunning, K.versionsMajors, K.versionsAccept] := by
  simp only [List.mem_cons, List.not_mem_nil, or_false, not_or]
  exact ⟨key_ne (by omega) (by decide) (.inl (by decide)), key_ne (by omega) (by decide) (.inl (by decide)),
    (accept_ne_seqState hd).symm⟩

theorem seqState_lt (hd : d < 2) : K.versionsSeqState d < 0x700000 ∧ K.versionsSeqState d ≠ K.versionsRestricted ∧
    K.versionsSeqState d ≠ K.versionsLastRefusal := by
  refine ⟨?_, key_ne (by omega) (by decide) (.inl (by decide)), key_ne (by omega) (by decide) (.inl (by decide))⟩
  simp only [K.versionsSeqState, key]
  omega

theorem checkFacts_checkDie (hd : d < 2) : checkFacts (s.checkDie d) = checkFacts s := by
  obtain ⟨b, heq⟩ := checkDie_eq (s := s) hd
  rw [heq, checkFacts_setUntested, checkFacts_dieNoted, checkFacts_set _ _ (seqState_free hd)]

theorem checkDie_self (hd : d < 2) : (s.checkDie d).obj (K.versionsSeqState d) =
    dieState (s.obj K.versionsAccept) (s.classify 2 (s.seqWords.getD d 0)) := by
  obtain ⟨b, heq⟩ := checkDie_eq (s := s) hd
  obtain ⟨hlt, hrestricted, hrefusal⟩ := seqState_lt hd
  rw [heq, obj_setUntested _ _ hlt hrestricted, obj_dieNoted _ hrefusal, obj_set_self]

theorem checkDie_other (hd : d < 2) (he : e < 2) (hne : e ≠ d) : (s.checkDie d).obj (K.versionsSeqState e) = s.obj (K.versionsSeqState e) := by
  obtain ⟨b, heq⟩ := checkDie_eq (s := s) hd
  obtain ⟨hlt, hrestricted, hrefusal⟩ := seqState_lt he
  have hkey : K.versionsSeqState e ≠ K.versionsSeqState d := key_ne (by omega) (by omega) (by omega)
  rw [heq, obj_setUntested _ _ hlt hrestricted, obj_dieNoted _ hrefusal, obj_set_ne _ _ hkey]

/-- What a write of `versions.accept` may change. -/
def acceptKeys : List Nat :=
  [K.versionsAccept, K.versionsRestricted, K.versionsLastRefusal, K.versionsSeqState 0, K.versionsSeqState 1] ++ evKeys 746

theorem leaves_checkDie (hd : d < 2) : Leaves acceptKeys (s.checkDie d) s := by
  obtain ⟨b, heq⟩ := checkDie_eq (s := s) hd
  have hmem : K.versionsSeqState d ∈ acceptKeys := by
    have h : d = 0 ∨ d = 1 := by omega
    rcases h with rfl | rfl <;> simp [acceptKeys]
  rw [heq]
  exact (leaves_setUntested _ _ (by simp) fun i hi => List.mem_append_right _ hi).trans
    ((leaves_dieNoted _ (by simp)).trans (leaves_set _ _ hmem))

/-! ## The dies in FACTORY are checked again -/

/-- A die in FACTORY is checked again. -/
def recheck (s : State) (d : Nat) : State := if s.obj (K.versionsSeqState d) = 2 then s.checkDie d else s

theorem actAccept_eq (old v : Nat) (s : State) : actAccept old v s = if old = 0 && v = 1 then s.dies.foldl recheck s else s := rfl

theorem checkFacts_recheck (hd : d < 2) : checkFacts (recheck s d) = checkFacts s := by
  unfold recheck
  split
  · exact checkFacts_checkDie hd
  · rfl

theorem leaves_recheck (hd : d < 2) : Leaves acceptKeys (recheck s d) s := leaves_ite (fun _ => leaves_checkDie hd) fun _ => Leaves.refl ..

theorem dies_lt (hd : d ∈ s.dies) : d < 2 := by
  have hcount : dieCount s.variant ≤ 2 := by
    unfold dieCount
    split <;> decide
  exact lt_of_lt_of_le (List.mem_range.1 hd) hcount

/-- What a die reads once `versions.accept` is 1. -/
def rechecked (s : State) (d : Nat) : Nat :=
  if s.obj (K.versionsSeqState d) = 2 then dieState (s.obj K.versionsAccept) (s.classify 2 (s.seqWords.getD d 0))
  else s.obj (K.versionsSeqState d)

theorem recheck_self (hd : d < 2) : (recheck s d).obj (K.versionsSeqState d) = rechecked s d := by
  unfold recheck rechecked
  split
  · exact checkDie_self hd
  · rfl

theorem recheck_other (hd : d < 2) (he : e < 2) (hne : e ≠ d) : (recheck s d).obj (K.versionsSeqState e) = s.obj (K.versionsSeqState e) := by
  unfold recheck
  split
  · exact checkDie_other hd he hne
  · rfl

theorem rechecked_congr (hfacts : checkFacts u = checkFacts s) (hstate : u.obj (K.versionsSeqState d) = s.obj (K.versionsSeqState d)) :
    rechecked u d = rechecked s d := by
  obtain ⟨hclass, hrest⟩ := Prod.mk.inj hfacts
  obtain ⟨hwords, haccept⟩ := Prod.mk.inj hrest
  rw [rechecked, rechecked, hstate, hwords, classify_congr 2 _ hclass, haccept]

theorem rechecks_self (hd : d < 2) (xs : List Nat) (hnodup : xs.Nodup) (hxs : ∀ x ∈ xs, x < 2) (s : State) (hmem : d ∈ xs) :
    (xs.foldl recheck s).obj (K.versionsSeqState d) = rechecked s d := by
  have hkept (ys : List Nat) (hys : ∀ y ∈ ys, y < 2) (t : State) (h : d ∉ ys) :
      (ys.foldl recheck t).obj (K.versionsSeqState d) = t.obj (K.versionsSeqState d) := by
    induction ys generalizing t with
    | nil => rfl
    | cons y ys ih =>
      rw [List.mem_cons, not_or] at h
      exact (ih (fun z hz => hys z (List.mem_cons_of_mem _ hz)) _ h.2).trans (recheck_other (hys y (List.mem_cons_self ..)) hd h.1)
  induction xs generalizing s with
  | nil => exact absurd hmem List.not_mem_nil
  | cons x xs ih =>
    obtain ⟨hx, hrest⟩ := List.nodup_cons.1 hnodup
    have hlt := hxs x (List.mem_cons_self ..)
    have hxs' : ∀ y ∈ xs, y < 2 := fun y hy => hxs y (List.mem_cons_of_mem _ hy)
    by_cases heq : d = x
    · subst heq
      exact (hkept xs hxs' _ hx).trans (recheck_self hd)
    · exact (ih hrest hxs' _ (List.mem_of_ne_of_mem heq hmem)).trans
        (rechecked_congr (checkFacts_recheck hlt) (recheck_other hlt hd heq))

theorem leaves_actAccept (old v : Nat) : Leaves acceptKeys (actAccept old v s) s := by
  rw [actAccept_eq]
  exact leaves_ite (fun _ => leaves_foldl _ _ _ fun _ _ hd => leaves_recheck (dies_lt hd)) fun _ => Leaves.refl ..

end

/-! ## The writes -/

theorem putDevice_accept {t : State} {p : Put} (h : p.key_ = K.versionsAccept) :
    putDevice t p = actAccept (t.obj K.versionsAccept) p.v (t.putValue p) := by
  have hother : K.versionsAccept ∉ [K.deviceModeRequest, K.deviceModeLoad, K.deviceSafeClear, K.deviceSafeTjLimit, K.deviceEventsClearNode,
      K.deviceEventsTest, K.portsMgmtClear, K.versionsMgmtSelect] := by decide
  simp only [List.mem_cons, List.not_mem_nil, or_false, not_or] at hother
  simp only [putDevice, h, hother, if_false, if_true]

theorem putDevice_select {t : State} {p : Put} (h : p.key_ = K.versionsMgmtSelect) : putDevice t p = actSelect p.v (t.putValue p) := by
  have hother : K.versionsMgmtSelect ∉ [K.deviceModeRequest, K.deviceModeLoad, K.deviceSafeClear, K.deviceSafeTjLimit,
      K.deviceEventsClearNode, K.deviceEventsTest, K.portsMgmtClear] := by decide
  simp only [List.mem_cons, List.not_mem_nil, or_false, not_or] at hother
  simp only [putDevice, h, hother, if_false, if_true]

/-- The state in which a written `versions.accept` stands. -/
def acceptStored (s : State) (q : Req) : State := (s.access (onObject q K.versionsAccept)).poke K.versionsAccept (ofLE q.body)

theorem accept_put (h : Accepts s (onObject q K.versionsAccept) l) :
    putDevice (s.access (onObject q K.versionsAccept)) (putAt s q K.versionsAccept l) =
      actAccept (s.obj K.versionsAccept) (ofLE q.body) (acceptStored s q) := by
  obtain ⟨-, hattr, -, -⟩ := accepted_row h (by decide) place_versionsAccept
  rw [putDevice_accept (putAt_key ..), putValue_stored _ (by exact hattr), putAt_key, obj_access h (by decide)]
  rfl

theorem leaves_acceptStored (s : State) (q : Req) {vs : List Nat} (hvs : K.versionsAccept ∈ vs) :
    Leaves vs (acceptStored s q) (s.access (onObject q K.versionsAccept)) := leaves_poke _ _ hvs

theorem actAccept_idle {old v : Nat} (h : (∀ d ∈ s.dies, s.obj (K.versionsSeqState d) ≠ 2) ∨ v = 0) : actAccept old v s = s := by
  rw [actAccept_eq]
  split
  next hagain =>
    rcases h with hnone | hzero
    · refine List.foldlRecOn (motive := fun u => u = s) _ _ rfl fun u hu d hd => ?_
      rw [hu, recheck, if_neg (hnone d hd)]
    · simp [hzero] at hagain
  next => rfl

theorem acceptStored_state (h : Accepts s (onObject q K.versionsAccept) l) {d : Nat} (hd : d < 2) :
    (acceptStored s q).obj (K.versionsSeqState d) = s.obj (K.versionsSeqState d) :=
  (obj_poke_ne _ _ (accept_ne_seqState hd).symm).trans (obj_access h (access_key_false (by omega) (by omega)))

theorem acceptStored_class (h : Accepts s (onObject q K.versionsAccept) l) : classFacts (acceptStored s q) = classFacts s := by
  have hobj {k : Nat} (hk : accessKey k = false) (hne : k ≠ K.versionsAccept) : (acceptStored s q).obj k = s.obj k :=
    (obj_poke_ne _ _ hne).trans (obj_access h hk)
  simp only [classFacts, hobj (k := K.versionsMgmtRunning) (by decide) (by decide), hobj (k := K.versionsMajors) (by decide) (by decide)]
  simp only [acceptStored, poke_boot, poke_slotA, poke_slotB, access_boot, access_slotA, access_slotB]

/-- What each die reads after a write of `versions.accept`. -/
theorem accept_dies (h : Accepts s (onObject q K.versionsAccept) l) {d : Nat} (hmem : d ∈ s.dies) :
    (actAccept (s.obj K.versionsAccept) (ofLE q.body) (acceptStored s q)).obj (K.versionsSeqState d) =
      if s.obj K.versionsAccept = 0 ∧ ofLE q.body = 1 ∧ s.obj (K.versionsSeqState d) = 2 then
        dieState 1 (s.classify 2 (s.seqWords.getD d 0))
      else s.obj (K.versionsSeqState d) := by
  have hd := dies_lt hmem
  have hdies : (acceptStored s q).dies = s.dies := congrArg (fun v => List.range (dieCount v)) (access_variant s _)
  have hwords : (acceptStored s q).seqWords = s.seqWords := access_seqWords s _
  rw [actAccept_eq]
  by_cases hagain : s.obj K.versionsAccept = 0 ∧ ofLE q.body = 1
  · have haccept : (acceptStored s q).obj K.versionsAccept = 1 := (obj_poke_self ..).trans hagain.2
    rw [if_pos (by simp [hagain]), hdies, rechecks_self hd s.dies List.nodup_range (fun x hx => dies_lt hx) _ hmem, rechecked,
      acceptStored_state h hd, haccept, hwords, classify_congr 2 _ (acceptStored_class h)]
    simp only [hagain, true_and]
  · rw [if_neg (by simpa using hagain), acceptStored_state h hd, if_neg (fun hc => hagain ⟨hc.1, hc.2.1⟩)]

theorem versionsAccept_writes (hsafe : s.safeAsk = 0) (h : Accepts s (onObject q K.versionsAccept) l) :
    Completes (.versionsAcceptWrite q) s
      (fun u => Responds (s.written (onObject q K.versionsAccept) l) u (onObject q K.versionsAccept)
          (okMessage u (onObject q K.versionsAccept) .write [] l.row.ty.code 0) ∧ u.obj K.versionsAccept = ofLE q.body ∧
        ∀ d ∈ s.dies, u.obj (K.versionsSeqState d) =
          if s.obj K.versionsAccept = 0 ∧ ofLE q.body = 1 ∧ s.obj (K.versionsSeqState d) = 2 then
            dieState 1 (s.classify 2 (s.seqWords.getD d 0))
          else s.obj (K.versionsSeqState d))
      (fun v => RequestFrame s v acceptKeys) := by
  have hput := accept_put h
  have hkept : (actAccept (s.obj K.versionsAccept) (ofLE q.body) (acceptStored s q)).obj K.versionsAccept = ofLE q.body := by
    refine Eq.trans ?_ (obj_poke_self (s.access (onObject q K.versionsAccept)) K.versionsAccept (ofLE q.body))
    rw [actAccept_eq]
    split
    · exact (Prod.mk.inj (Prod.mk.inj (List.foldlRecOn (motive := fun u => checkFacts u = checkFacts (acceptStored s q)) _ _ rfl
        fun u hu d hd => (checkFacts_recheck (dies_lt hd)).trans hu)).2).2
    · rfl
  have hleaves : Leaves acceptKeys (actAccept (s.obj K.versionsAccept) (ofLE q.body) (acceptStored s q))
      (s.access (onObject q K.versionsAccept)) := (leaves_actAccept ..).trans (leaves_acceptStored s q (by simp [acceptKeys]))
  have hobj (k : Nat) : (s.written (onObject q K.versionsAccept) l).obj k =
      (actAccept (s.obj K.versionsAccept) (ofLE q.body) (acceptStored s q)).obj k := by
    rw [written_device (by decide), putBy, hput, obj_record]
  refine completes_put (exec_versionsAcceptWrite q s) h (written_device (by decide)) hput (hleaves.variant.trans (access_variant ..))
    (hleaves.safeAsk.trans ((access_safeAsk ..).trans hsafe)) ⟨responds_answered .., ?_, fun d hmem => ?_⟩
    fun v hv => requestFrame_of_put h hleaves hv
  · rw [answered_obj, hobj, hkept]
  · rw [answered_obj, hobj, accept_dies h hmem]

theorem versionsAccept_idles (hsafe : s.safeAsk = 0) (h : Accepts s (onObject q K.versionsAccept) l)
    (hidle : (∀ d ∈ s.dies, s.obj (K.versionsSeqState d) ≠ 2) ∨ ofLE q.body = 0) :
    Writes (.versionsAcceptWrite q) s (onObject q K.versionsAccept) l [(K.versionsAccept, ofLE q.body)] (fun u => u.untested = s.untested) := by
  have hdies : (acceptStored s q).dies = s.dies := congrArg (fun v => List.range (dieCount v)) (access_variant s _)
  have hput : putDevice (s.access (onObject q K.versionsAccept)) (putAt s q K.versionsAccept l) = acceptStored s q :=
    (accept_put h).trans (actAccept_idle (hidle.imp_left fun hnone d hd => by
      rw [hdies] at hd
      rw [acceptStored_state h (dies_lt hd)]
      exact hnone d hd))
  refine writes_of_put (exec_versionsAcceptWrite q s) hsafe h (written_device (by decide)) hput
    (leaves_acceptStored s q (List.mem_cons_self ..)) (holds_cons (obj_poke_self ..) (holds_nil _)) ?_
  simp only [answeredWrite, answered_untested, record_untested, acceptStored, poke_untested, access_untested]

/-- The state in which a written slot selection waits. -/
def selectHeld (s : State) (q : Req) : State :=
  ((s.access (onObject q K.versionsMgmtSelect)).hold K.versionsMgmtSelect).poke K.versionsMgmtSelect (ofLE q.body)

theorem mgmtSelect_writes (hsafe : s.safeAsk = 0) (h : Accepts s (onObject q K.versionsMgmtSelect) l) :
    Completes (.mgmtSelectWrite q) s
      (fun u => u.flashSelect = ofLE q.body ∧ u.obj K.versionsMgmtSelect = ofLE q.body ∧
        u.force K.versionsMgmtSelect = s.force K.versionsMgmtSelect ∧ u.isPending K.versionsMgmtSelect = true)
      (fun v => ∀ k, settledKey k = false → accessKey k = false → k ≠ K.versionsMgmtSelect → v.obj k = s.obj k) := by
  obtain ⟨-, hattr, -, -⟩ := accepted_row h (by decide) place_versionsMgmtSelect
  have hput : putDevice (s.access (onObject q K.versionsMgmtSelect)) (putAt s q K.versionsMgmtSelect l) =
      actSelect (ofLE q.body) (selectHeld s q) := by
    rw [putDevice_select (putAt_key ..), putValue_staged _ (by rw [putAt_l, hattr]; decide) (by rw [putAt_l, hattr]; decide), putAt_key]
    rfl
  have hwritten : s.written (onObject q K.versionsMgmtSelect) l = (actSelect (ofLE q.body) (selectHeld s q)).record K.versionsMgmtSelect
      ((s.access (onObject q K.versionsMgmtSelect)).classOf q.port) q.port := by
    rw [written_device (by decide), putBy, hput]
  obtain ⟨hobj, hforce, hpending⟩ := hold_poke (s.access (onObject q K.versionsMgmtSelect)) K.versionsMgmtSelect (ofLE q.body)
  have hvariant : (selectHeld s q).variant = s.variant := (poke_variant ..).trans ((hold_variant ..).trans (access_variant ..))
  have hask : (selectHeld s q).safeAsk = 0 := (poke_safeAsk ..).trans ((hold_safeAsk ..).trans ((access_safeAsk ..).trans hsafe))
  refine completes_put (exec_mgmtSelectWrite q s) h (written_device (by decide)) hput hvariant hask ⟨?_, ?_, ?_, ?_⟩
    fun v hv k hk ha hne => ?_
  · rw [answered_flashSelect, hwritten]
    rfl
  · rw [answered_obj, hwritten]
    exact hobj
  · rw [answered_force, hwritten]
    exact hforce.trans (force_access s _ h.1.1 (by decide))
  · rw [answered_isPending, hwritten]
    exact hpending
  · calc v.obj k = (actSelect (ofLE q.body) (selectHeld s q)).obj k := hv.obj k hk
      _ = ((s.access (onObject q K.versionsMgmtSelect)).hold K.versionsMgmtSelect).obj k := obj_poke_ne _ _ hne
      _ = (s.access (onObject q K.versionsMgmtSelect)).obj k := by simp only [State.obj, hold_variant, hold_dict]
      _ = s.obj k := obj_access h ha

end

/-! ## A programmed slot -/

section
variable {s : State} {t slot : Nat} {x : Transfer}

/-- A transfer has ended. -/
def withoutTransfer (s : State) (id : Nat) : State := { s with transfers := s.transfers.filter (fun y => y.id != id) }

/-- A held answer of the management port leaves, and its transfer ends. -/
theorem answerHeld_direct (s : State) {x : Transfer} (hport : isQueued x.port = false) : ∃ m,
    s.answerHeld x (.ok ()) = (((withoutTransfer s x.id).traced x.arrived (x.close s.clock) .blockClose 0).remember (x.close s.clock)
      .blockClose m).respond x.port x.src m := by
  unfold State.answerHeld
  extract_lets q res code m rank ended traced
  rw [if_neg (by simp [hport])]
  exact ⟨m, rfl⟩

theorem leaves_answerHeld (ks : List Nat) (s : State) (hport : isQueued x.port = false) : Leaves ks (s.answerHeld x (.ok ())) s := by
  obtain ⟨m, heq⟩ := answerHeld_direct s hport
  have hended : Leaves ks (withoutTransfer s x.id) s := leaves_of_dict rfl rfl rfl rfl rfl rfl
  rw [heq]
  exact (leaves_of_same ((same_respond ..).trans ((same_remember ..).trans (same_traced ..)))).trans hended

/-- What a held answer leaves of the transfers and of the slots. -/
theorem answerHeld_slots (s : State) (hport : isQueued x.port = false) (n : Nat) :
    (s.answerHeld x (.ok ())).transfers = s.transfers.filter (fun y => y.id != x.id) ∧ (s.answerHeld x (.ok ())).bootSlot n = s.bootSlot n := by
  have hremember (u : State) (q : Req) (m : List Byte) : (u.remember q .blockClose m).transfers = u.transfers ∧
      (u.remember q .blockClose m).slotA = u.slotA ∧ (u.remember q .blockClose m).slotB = u.slotB := by
    unfold State.remember
    split <;> exact ⟨rfl, rfl, rfl⟩
  obtain ⟨m, heq⟩ := answerHeld_direct s hport
  obtain ⟨htransfers, hslotA, hslotB⟩ := hremember ((withoutTransfer s x.id).traced x.arrived (x.close s.clock) .blockClose 0) (x.close s.clock) m
  rw [heq]
  refine ⟨(respond_transfers ..).trans htransfers, ?_⟩
  simp only [State.bootSlot, respond_slotA, respond_slotB, hslotA, hslotB]
  rfl

/-- The header of a programmed slot is written. -/
def slotWritten (s : State) (slot : Nat) (x : Transfer) : State :=
  ((s.setSlot slot (slotOfImage x.data)).set (slotWordKey slot) (imageWord x.data)).record x.obj (s.classOf x.port) x.port

theorem leaves_setSlot (ks : List Nat) (s : State) (n : Nat) (x : Slot) : Leaves ks (s.setSlot n x) s := by
  unfold State.setSlot
  exact leaves_ite (fun _ => leaves_of_dict rfl rfl rfl rfl rfl rfl) fun _ => leaves_of_dict rfl rfl rfl rfl rfl rfl

theorem leaves_slotWritten (s : State) (slot : Nat) (x : Transfer) : Leaves [slotWordKey slot] (slotWritten s slot x) s :=
  (leaves_record ..).trans ((leaves_set _ _ (List.mem_cons_self ..)).trans (leaves_setSlot ..))

theorem slotWritten_slot (s : State) (x : Transfer) : (slotWritten s slot x).bootSlot slot = slotOfImage x.data ∧
    (slotWritten s slot x).transfers = s.transfers := by
  unfold slotWritten State.setSlot State.bootSlot
  by_cases h : slot = 0
  · simp only [h, if_true]
    exact ⟨rfl, rfl⟩
  · simp only [h, if_false]
    exact ⟨rfl, rfl⟩

theorem slotWordKey_settled : settledKey (slotWordKey slot) = false := by
  unfold slotWordKey
  split <;> decide

theorem slotProgrammed_shows (h : Awake s) (hslot : slot < 2)
    (hfind : s.transfers.find? (fun y => y.waiting && y.obj == slotWordKey slot) = some x) (hport : x.port = 3) :
    Sets (.firmwareSlotProgrammed t slot true) s [(slotWordKey slot, imageWord x.data)]
      (fun u => u.bootSlot slot = slotOfImage x.data ∧ u.transfers = s.transfers.filter (fun y => y.id != x.id)) := by
  have hfree : isQueued x.port = false := by
    rw [hport]
    decide
  have hfind' : (s.begin_ t).transfers.find? (fun y => y.waiting && y.obj == slotWordKey slot) = some x := hfind
  have heffect : xSlotProgrammed slot true (s.begin_ t) = (slotWritten (s.begin_ t) slot x).answerHeld x (.ok ()) := by
    simp only [xSlotProgrammed, hfind', State.finishSlot, if_true, slotWritten]
  obtain ⟨htransfers, hboot⟩ := answerHeld_slots (slotWritten (s.begin_ t) slot x) hfree slot
  obtain ⟨hwritten, hkept⟩ := slotWritten_slot (slot := slot) (s.begin_ t) x
  refine sets_eventOf (exec_firmwareSlotProgrammed t slot true s) (by simpa using hslot) h ?_ ?_ ?_ <;> rw [heffect]
  · exact (leaves_answerHeld _ _ hfree).trans (leaves_slotWritten ..)
  · refine holds_cons (((leaves_answerHeld [] _ hfree).obj _ List.not_mem_nil slotWordKey_settled).trans ?_) (holds_nil _)
    exact (obj_record ..).trans (obj_set_self ..)
  · exact ⟨hboot.trans hwritten, htransfers.trans (by rw [hkept]; rfl)⟩

end

/-- Settles O26: an acceptance from 0 to 1 checks again each die in FACTORY, once. -/
theorem versionsAreWritten : Obligations.VersionsAreWritten := by
  unfold Obligations.VersionsAreWritten
  refine ⟨fun s q l hsafe h => ⟨?_, fun hidle => versionsAccept_idles hsafe h hidle⟩,
    fun s q l hsafe h => mgmtSelect_writes hsafe h,
    fun s t slot x h hslot hfind hport => slotProgrammed_shows h hslot hfind hport⟩
  obtain ⟨u, hexec, ⟨hresponds, haccept, hdies⟩, hafter⟩ := versionsAccept_writes hsafe h
  refine ⟨u, hexec, ⟨hresponds, haccept, fun d hd => (hdies d hd).trans ?_⟩, hafter⟩
  split
  · cases s.classify 2 (s.seqWords.getD d 0) <;> rfl
  · rfl

end Sys2Proof.Proofs
end

section
/-! # Writes of the Store and of the arbitration, and the cadence (R249, R250, R255 to R257, R275 to R279) -/

set_option Elab.async false

namespace Sys2Proof.Proofs

open Sys2Proof Sys2Proof.Machine Sys2Proof.Laws

/-! ## What a write in the chapters of the Store does -/

section
variable {t : State} {p : Put}

theorem putFlow_pseudo (hform : p.l.row.form = .pseudo) (hlo : 0x5820 ≤ p.index) (hhi : p.index < 0x5840) (hsub : p.sub = 0x0C)
    (hkey : p.key_ ≠ K.storeMapMasks) : putFlow t p = xStorePcClear p.l.unit (t.putValue p) := by
  simp [putFlow, hform, hlo, hhi, hsub, hkey]

theorem putFlow_client (hform : p.l.row.form = .client) (hsub : p.sub = 7)
    (hkey : p.key_ ∉ [K.storeMapMasks, K.arbLiberoN, K.arbClearAll, K.arbSyncClear]) :
    putFlow t p = xClientClear p.l.unit (t.putValue p) := by
  simp only [List.mem_cons, List.not_mem_nil, or_false, not_or] at hkey
  simp [putFlow, hform, hsub, hkey]

theorem putFlow_single (hform : p.l.row.form = .single) (hkey : p.key_ ≠ K.storeMapMasks) : putFlow t p =
    if p.key_ = K.arbLiberoN then xLiberoWrite p.v t else if p.key_ = K.arbClearAll then xClearAll (t.putValue p)
    else if p.key_ = K.arbSyncClear then xSyncClear (t.putValue p) else t.putValue p := by
  simp [putFlow, hform, hkey]

theorem putStream_context (hform : p.l.row.form = .context) (hsub : p.sub = 0x23) :
    putStream t p = xRingResume p.l.unit (t.putValue p) := by
  simp [putStream, hform, hsub]

end

/-! ## Pseudo-channels -/

section
variable {s : State} {q : Req} {l : Loc} {i p : Nat}

theorem storePc_access (hp : p < 32) {b : Nat} (hb : b < 256) : accessKey (key (0x5820 + p) b) = false := access_key_false hb (by omega)

theorem storePcClear_writes (hp : p < 32) (hsafe : s.safeAsk = 0) (h : Accepts s (onObject q (K.storePcClear p)) l) :
    Writes (.storePcClear q p) s (onObject q (K.storePcClear p)) l [(K.storePcDebtMax p, 0), (K.storePcRtWaitMax p, 0)] (fun _ => True) := by
  have hdiv : K.storePcClear p / 256 = 0x5820 + p := key_div (by decide)
  have hmod : K.storePcClear p % 256 = 12 := key_mod (by decide)
  obtain ⟨hform, hattr, hunit, -⟩ := accepted_row h (by omega) (place_storePcClear p hp)
  have hmasks : K.storePcClear p ≠ K.storeMapMasks := key_ne (by decide) (by decide) (by omega)
  have hput : putFlow (s.access (onObject q (K.storePcClear p))) (putAt s q (K.storePcClear p) l) =
      setAll (s.access (onObject q (K.storePcClear p))) [(K.storePcDebtMax p, 0), (K.storePcRtWaitMax p, 0)] := by
    rw [putFlow_pseudo hform (by rw [putAt_index]; omega) (by rw [putAt_index]; omega) hmod (by rw [putAt_key]; exact hmasks),
      putValue_action _ hattr, putAt_l, hunit]
    rfl
  refine writes_of_put (asks_of_writesOf (exec_storePcClear q p s) (by simpa using hp)) hsafe h
    (written_flow (by omega) (by omega)) hput (leaves_setAll ..) (holds_setAll _ ?_) trivial
  simp only [List.map_cons, List.map_nil, List.nodup_cons, List.mem_singleton, List.not_mem_nil, not_false_eq_true, List.nodup_nil, and_true]
  exact key_ne (by decide) (by decide) (.inr (by decide))

/-- The longest real-time wait shown. -/
def waitShown (s : State) (p wait : Nat) : State :=
  if f32Key (s.obj (K.storePcRtWaitMax p)) < f32Key (f32OfNat wait) then s.set (K.storePcRtWaitMax p) (f32OfNat wait) else s

theorem rtWait_eq (p wait : Nat) (s : State) :
    xRtWait p wait s = if wait > 16000 then (waitShown s p wait).raise (576 + 2 * p) 0 else waitShown s p wait := rfl

theorem waitShown_max : (waitShown s p i).obj (K.storePcRtWaitMax p) =
    if f32Key (s.obj (K.storePcRtWaitMax p)) < f32Key (f32OfNat i) then f32OfNat i else s.obj (K.storePcRtWaitMax p) := by
  unfold waitShown
  split
  · exact obj_set_self ..
  · rfl

theorem leaves_waitShown {ks : List Nat} (h : K.storePcRtWaitMax p ∈ ks) : Leaves ks (waitShown s p i) s :=
  leaves_ite (fun _ => leaves_set _ _ h) fun _ => Leaves.refl ..

theorem waitShown_other {k : Nat} (h : k ≠ K.storePcRtWaitMax p) : (waitShown s p i).obj k = s.obj k := by
  unfold waitShown
  split
  · exact obj_set_ne _ _ h
  · rfl

theorem waitShown_time : (waitShown s p i).time = s.time := by
  unfold waitShown
  split <;> rfl

/-- The sources of a pseudo-channel belong to every variant. -/
theorem hasSource_pseudo (s : State) (hp : p < 32) : s.hasSource (576 + 2 * p) = true := by
  have h1 : ¬ 576 + 2 * p < 256 := by omega
  have h2 : ¬ 576 + 2 * p < 512 := by omega
  have h3 : ¬ 576 + 2 * p < 576 := by omega
  have h4 : ¬ 672 ≤ 576 + 2 * p := by omega
  have h5 : 576 + 2 * p < 768 := by omega
  simp [State.hasSource, eventPresent, h1, h2, h3, h4, h5]

theorem rtWait_sets (t wait : Nat) (h : Awake s) (hp : p < 32) :
    Sets (.rtWaitExceeded t p wait) s
      ((K.storePcRtWaitMax p, if f32Key (s.obj (K.storePcRtWaitMax p)) < f32Key (f32OfNat wait) then f32OfNat wait
          else s.obj (K.storePcRtWaitMax p)) ::
        (if 16000 < wait then raisedBy (s.begin_ t) (576 + 2 * p) 0 else [])) (fun _ => True) := by
  have hcount : K.eventCount (576 + 2 * p) ≠ K.storePcRtWaitMax p := key_ne (by decide) (by decide) (by omega)
  have hlt : K.storePcRtWaitMax p < 0x700000 := by
    simp only [K.storePcRtWaitMax, key]
    omega
  have hmax : (waitShown (s.begin_ t) p wait).obj (K.storePcRtWaitMax p) = _ := waitShown_max
  have hnext := exec_rtWaitExceeded t p wait s
  by_cases hlong : 16000 < wait
  · have heffect := (rtWait_eq p wait (s.begin_ t)).trans (if_pos hlong)
    rw [if_pos hlong]
    refine sets_eventOf hnext (by simpa using hp) h ?_ ?_ trivial <;> rw [heffect]
    · exact (leaves_raise _ _ _ fun k hk => List.mem_cons_of_mem _ hk).trans (leaves_waitShown (List.mem_cons_self ..))
    · exact holds_cons ((obj_raise_of_lt _ _ _ hlt).trans hmax)
        (holds_raise _ (hasSource_pseudo _ hp) (waitShown_other hcount) waitShown_time)
  · have heffect := (rtWait_eq p wait (s.begin_ t)).trans (if_neg hlong)
    rw [if_neg hlong]
    refine sets_eventOf hnext (by simpa using hp) h ?_ ?_ trivial <;> rw [heffect]
    · exact leaves_waitShown (List.mem_cons_self ..)
    · exact holds_cons hmax (holds_nil _)

end

/-- Settles O41: the wait is raised beyond 16 µs, whether or not it is the longest. -/
theorem realTimeWaitsAreShown : Obligations.RealTimeWaitsAreShown := by
  unfold Obligations.RealTimeWaitsAreShown
  refine ⟨fun s t p wait h hp => rtWait_sets t wait h hp, fun s q l p hsafe hp h => ?_⟩
  obtain ⟨u, hexec, ⟨-, -, -, hholds, -⟩, -⟩ := storePcClear_writes hp hsafe h
  exact ⟨u, hexec, hholds _ (List.mem_cons_of_mem _ (List.mem_cons_self ..)), trivial⟩

/-! ## Clients, the Libero slot and the synchronisers -/

section
variable {s : State} {q : Req} {l : Loc} {i : Nat}

theorem clientKey_access (hi : i < 48) {b : Nat} (hb : b < 256) : accessKey (key (0x5910 + i) b) = false := access_key_false hb (by omega)

theorem arbClientClear_writes (hi : i < 48) (hsafe : s.safeAsk = 0) (h : Accepts s (onObject q (K.arbClientClear i)) l) :
    Writes (.arbClientClear q i) s (onObject q (K.arbClientClear i)) l
      (if s.obj (K.arbClientState i) = 1 then [(K.arbClientState i, 0), (K.arbClientWaitMax i, 0)] else []) (fun _ => True) := by
  have hstate : accessKey (K.arbClientState i) = false := clientKey_access hi (by decide)
  have hdiv : K.arbClientClear i / 256 = 0x5910 + i := key_div (by decide)
  have hmod : K.arbClientClear i % 256 = 7 := key_mod (by decide)
  obtain ⟨hform, hattr, hunit, -⟩ := accepted_row h (by omega) (place_arbClientClear i hi)
  have hother : K.arbClientClear i ∉ [K.storeMapMasks, K.arbLiberoN, K.arbClearAll, K.arbSyncClear] := by
    simp only [List.mem_cons, List.not_mem_nil, or_false, not_or]
    exact ⟨key_ne (by decide) (by decide) (by omega), key_ne (by decide) (by decide) (by omega), key_ne (by decide) (by decide) (by omega),
      key_ne (by decide) (by decide) (by omega)⟩
  have hput : putFlow (s.access (onObject q (K.arbClientClear i))) (putAt s q (K.arbClientClear i) l) =
      if s.obj (K.arbClientState i) = 1 then
        setAll (s.access (onObject q (K.arbClientClear i))) [(K.arbClientState i, 0), (K.arbClientWaitMax i, 0)]
      else s.access (onObject q (K.arbClientClear i)) := by
    rw [putFlow_client hform hmod (by rw [putAt_key]; exact hother), putValue_action _ hattr, putAt_l, hunit, xClientClear, obj_access h hstate]
    rfl
  have hwrites {vs : List (Nat × Nat)} {u : State} (heffect : putFlow (s.access (onObject q (K.arbClientClear i)))
      (putAt s q (K.arbClientClear i) l) = u) (hl : Leaves (vs.map (·.1)) u (s.access (onObject q (K.arbClientClear i)))) (hv : Holds u vs) :
      Writes (.arbClientClear q i) s (onObject q (K.arbClientClear i)) l vs (fun _ => True) :=
    writes_of_put (asks_of_writesOf (exec_arbClientClear q i s) (by simpa using hi)) hsafe h (written_flow (by omega) (by omega)) heffect hl hv trivial
  split at hput
  next hcarded =>
    rw [if_pos hcarded]
    refine hwrites hput (leaves_setAll ..) (holds_setAll _ ?_)
    simp only [List.map_cons, List.map_nil, List.nodup_cons, List.mem_singleton, List.not_mem_nil, not_false_eq_true, List.nodup_nil, and_true]
    exact key_ne (by decide) (by decide) (.inr (by decide))
  next hfree =>
    rw [if_neg hfree]
    exact hwrites hput (Leaves.refl ..) (holds_nil _)

/-- A client's state goes to 0. -/
def clientFreed (s : State) (i : Nat) : State := if s.obj (K.arbClientState i) = 0 then s else s.set (K.arbClientState i) 0

theorem clientFreed_self (s : State) (i : Nat) : (clientFreed s i).obj (K.arbClientState i) = 0 := by
  unfold clientFreed
  split
  next hzero => exact hzero
  next => exact obj_set_self ..

theorem clientFreed_other (s : State) {i j : Nat} (h : i ≠ j) : (clientFreed s j).obj (K.arbClientState i) = s.obj (K.arbClientState i) := by
  unfold clientFreed
  split
  · rfl
  · exact obj_set_ne _ _ (key_ne (by decide) (by decide) (by omega))

theorem arbClearAll_writes (hsafe : s.safeAsk = 0) (h : Accepts s (onObject q K.arbClearAll) l) :
    Writes (.arbClearAll q) s (onObject q K.arbClearAll) l ((List.range 48).map (fun j => (K.arbClientState j, 0))) (fun _ => True) := by
  obtain ⟨hform, hattr, -, -⟩ := accepted_row h (by decide) place_arbClearAll
  have hput : putFlow (s.access (onObject q K.arbClearAll)) (putAt s q K.arbClearAll l) =
      (List.range 48).foldl clientFreed (s.access (onObject q K.arbClearAll)) := by
    rw [putFlow_single hform (by rw [putAt_key]; decide), putAt_key, if_neg (by decide), if_pos rfl, putValue_action _ hattr]
    rfl
  refine writes_of_put (exec_arbClearAll q s) hsafe h (written_flow (by decide) (by decide)) hput ?_ ?_ trivial
  · refine leaves_foldl _ _ _ fun u j hj => leaves_ite (fun _ => Leaves.refl ..) fun _ => leaves_set _ _ ?_
    rw [List.map_map]
    exact List.mem_map_of_mem hj
  · intro e he
    obtain ⟨j, hj, rfl⟩ := List.mem_map.1 he
    exact obj_foldl_units (key := K.arbClientState) (g := fun _ => 0) clientFreed_self (fun u _ _ hne => clientFreed_other u hne) _
      List.nodup_range _ hj

/-- The grants that a pseudo-channel has counted toward the Libero slot go to 0. -/
def grantsZeroed (s : State) (p : Nat) : State := s.setPc p { s.pc p with grants := 0 }

theorem get_of_absent {α : Type} (d : Nat → α) (m : List (Nat × α)) {p : Nat} (h : p ∉ m.map (·.1)) : Sp.get d m p = d p := by
  induction m with
  | nil => rfl
  | cons e m ih =>
    rw [List.map_cons, List.mem_cons, not_or] at h
    refine Eq.trans ?_ (ih h.2)
    simp only [Sp.get, Sp.find, if_neg (Ne.symm h.1)]

theorem grantsZeroed_all (s : State) (p : Nat) : (((s.pcs.map (·.1)).foldl grantsZeroed s).pc p).grants = 0 := by
  by_cases hp : p ∈ s.pcs.map (·.1)
  · refine foldl_establishes (P := fun n u => (u.pc n).grants = 0) (fun u n => ?_) (fun u n m hne hzero => ?_) _ _ hp
    · exact congrArg Pc.grants (get_put_self ..)
    · exact (congrArg Pc.grants (get_put_ne _ _ _ hne)).trans hzero
  · have hkept (xs : List Nat) (u : State) (hxs : p ∉ xs) : (xs.foldl grantsZeroed u).pc p = u.pc p := by
      induction xs generalizing u with
      | nil => rfl
      | cons x xs ih =>
        rw [List.mem_cons, not_or] at hxs
        exact (ih _ hxs.2).trans (get_put_ne _ _ _ hxs.1)
    exact congrArg Pc.grants ((hkept _ _ hp).trans (get_of_absent _ _ hp))

theorem leaves_grantsZeroed (ks xs : List Nat) (s : State) : Leaves ks (xs.foldl grantsZeroed s) s :=
  leaves_foldl _ _ _ fun _ _ _ => leaves_of_dict rfl rfl rfl rfl rfl rfl

theorem xLiberoWrite_eq (v : Nat) (s : State) : xLiberoWrite v s = (s.pcs.map (·.1)).foldl grantsZeroed (s.poke K.arbLiberoN v) := by
  rw [List.foldl_map]
  rfl

theorem arbLibero_writes (hsafe : s.safeAsk = 0) (h : Accepts s (onObject q K.arbLiberoN) l) :
    Writes (.arbLiberoWrite q) s (onObject q K.arbLiberoN) l [(K.arbLiberoN, ofLE q.body)] (fun u => ∀ e ∈ u.pcs, (u.pc e.1).grants = 0) := by
  obtain ⟨hform, -, -, -⟩ := accepted_row h (by decide) place_arbLiberoN
  have hput : putFlow (s.access (onObject q K.arbLiberoN)) (putAt s q K.arbLiberoN l) =
      ((s.access (onObject q K.arbLiberoN)).pcs.map (·.1)).foldl grantsZeroed
        ((s.access (onObject q K.arbLiberoN)).poke K.arbLiberoN (ofLE q.body)) := by
    rw [putFlow_single hform (by rw [putAt_key]; decide), putAt_key, if_pos rfl, putAt_v, xLiberoWrite_eq]
  refine writes_of_put (exec_arbLiberoWrite q s) hsafe h (written_flow (by decide) (by decide)) hput ?_ ?_ fun e _ => ?_
  · exact (leaves_grantsZeroed ..).trans (leaves_poke _ _ (List.mem_cons_self ..))
  · refine holds_cons ?_ (holds_nil _)
    exact ((leaves_grantsZeroed [] ..).obj K.arbLiberoN List.not_mem_nil (by decide)).trans (obj_poke_self ..)
  · have hpcs : (answeredWrite (((s.access (onObject q K.arbLiberoN)).pcs.map (·.1)).foldl grantsZeroed
        ((s.access (onObject q K.arbLiberoN)).poke K.arbLiberoN (ofLE q.body))) s q K.arbLiberoN l).pc e.1 = _ :=
      congrArg (fun m => Sp.get (fun _ => Pc.idle) m e.1) (answered_pcs ..)
    rw [hpcs]
    exact grantsZeroed_all ((s.access (onObject q K.arbLiberoN)).poke K.arbLiberoN (ofLE q.body)) e.1

theorem arbSyncClear_writes (hsafe : s.safeAsk = 0) (h : Accepts s (onObject q K.arbSyncClear) l) :
    Writes (.arbSyncClear q) s (onObject q K.arbSyncClear) l [(K.arbSyncSlow, 0)] (fun _ => True) := by
  obtain ⟨hform, hattr, -, -⟩ := accepted_row h (by decide) place_arbSyncClear
  have hput : putFlow (s.access (onObject q K.arbSyncClear)) (putAt s q K.arbSyncClear l) =
      (s.access (onObject q K.arbSyncClear)).set K.arbSyncSlow 0 := by
    rw [putFlow_single hform (by rw [putAt_key]; decide), putAt_key, if_neg (by decide), if_neg (by decide), if_pos rfl,
      putValue_action _ hattr]
    rfl
  exact writes_of_put (exec_arbSyncClear q s) hsafe h (written_flow (by decide) (by decide)) hput (leaves_set _ _ (List.mem_cons_self ..))
    (holds_cons (obj_set_self ..) (holds_nil _)) trivial

theorem ctxRingResume_writes (hi : i < 1024) (hsafe : s.safeAsk = 0) (h : Accepts s (onObject q (K.ctxRingResume i)) l) :
    Writes (.ctxRingResume q i) s (onObject q (K.ctxRingResume i)) l
      (if s.obj (K.ctxRingPolicyState i) = 1 then [(K.ctxRingPolicyState i, 0)] else []) (fun _ => True) := by
  have hdiv : K.ctxRingResume i / 256 = 0x4000 + i := key_div (by decide)
  have hmod : K.ctxRingResume i % 256 = 0x23 := key_mod (by decide)
  have hpolicy : accessKey (K.ctxRingPolicyState i) = false := access_key_false (by decide) (by omega)
  obtain ⟨hform, hattr, hunit, -⟩ := accepted_row h (by omega) (place_ctxRingResume i hi)
  have hput : putStream (s.access (onObject q (K.ctxRingResume i))) (putAt s q (K.ctxRingResume i) l) =
      if s.obj (K.ctxRingPolicyState i) = 1 then (s.access (onObject q (K.ctxRingResume i))).set (K.ctxRingPolicyState i) 0
      else s.access (onObject q (K.ctxRingResume i)) := by
    rw [putStream_context hform hmod, putValue_action _ hattr, putAt_l, hunit, xRingResume, obj_access h hpolicy]
  have hwrites {vs : List (Nat × Nat)} {u : State} (heffect : putStream (s.access (onObject q (K.ctxRingResume i)))
      (putAt s q (K.ctxRingResume i) l) = u) (hl : Leaves (vs.map (·.1)) u (s.access (onObject q (K.ctxRingResume i)))) (hv : Holds u vs) :
      Writes (.ctxRingResume q i) s (onObject q (K.ctxRingResume i)) l vs (fun _ => True) :=
    writes_of_put (asks_of_writesOf (exec_ctxRingResume q i s) (by simpa using hi)) hsafe h (written_stream (by omega) (by omega)) heffect hl hv trivial
  split at hput
  next hstopped =>
    rw [if_pos hstopped]
    exact hwrites hput (leaves_set _ _ (List.mem_cons_self ..)) (holds_cons (obj_set_self ..) (holds_nil _))
  next hruns =>
    rw [if_neg hruns]
    exact hwrites hput (Leaves.refl ..) (holds_nil _)

end

/-! ## The cadence -/

section
variable {s : State} {m : Cadence}

/-- The cadences of engines and ports. -/
def unitCadences (m : Cadence) (s : State) : State :=
  (m.ports.take 32).zipIdx.foldl (fun st e => st.set (K.arbPortCadence e.2) (f32OfRat e.1 1000000))
    ((m.engines.take (engineCount s.variant)).zipIdx.foldl (fun st e => st.set (K.feCadence e.2) (f32OfRat e.1 1000000000)) s)

/-- The cadences of the whole device. -/
def cadenceFacts (m : Cadence) : List (Nat × Nat) :=
  [(K.arbCadenceFactor, f32OfRat (m.ports.take 32).sum (32 * 1600000)), (K.arbCadenceIngest, f32OfRat m.ingest 1000000000),
    (K.arbCadenceLane, f32OfRat m.lane 1000000000), (K.arbCadenceEngines, f32OfRat m.group 1000000000),
    (K.arbCadenceSector, f32OfRat m.sector 1000000000), (K.arbCadenceRecords, f32OfRat m.records 1000000),
    (K.arbCadenceForward, f32OfRat m.forward 1000000)]

/-- The state with the runs of bad cadences. -/
def withBad (s : State) (bad : List Nat) : State := { s with cadenceBad := bad }

/-- How long each cadence has been bad. -/
def badRuns (s : State) (m : Cadence) : List Nat := ((cadenceWorse s.variant m).zip s.cadenceBad).map (fun e => if e.1 then e.2 + 1 else 0)

/-- The cadences are shown and the slow synchronisers counted. -/
def cadenceShown (m : Cadence) (s : State) : State := (setAll (unitCadences m s) (cadenceFacts m)).tally K.arbSyncSlow 64 m.slow

theorem xCadence_eq (m : Cadence) (s : State) : xCadence m s = State.riseIf s
    ((withBad (cadenceShown m s) (badRuns (cadenceShown m s) m)).set K.arbCadenceFlags
      (cadenceFlags ((withBad (cadenceShown m s) (badRuns (cadenceShown m s) m)).obj K.arbCadenceFlags) (badRuns (cadenceShown m s) m))) 754 0 := rfl

/-- An object of the device as a whole is none of a unit's. -/
theorem unitCadences_obj (m : Cadence) (s : State) {i b : Nat} (hi : i < 0x5940) (hb : b < 256 ∧ b ≠ 4) :
    (unitCadences m s).obj (key i b) = s.obj (key i b) :=
  (foldl_keeps (·.obj (key i b)) _ _ _ fun _ _ => obj_set_ne _ _ (key_ne hb.1 (by decide) (.inl (by omega)))).trans
    (foldl_keeps (·.obj (key i b)) _ _ _ fun _ _ => obj_set_ne _ _ (key_ne hb.1 (by decide) (.inr hb.2)))

theorem unitCadences_keeps {α : Type} (g : State → α) (hg : ∀ u k v, g (State.set u k v) = g u) : g (unitCadences m s) = g s :=
  (foldl_keeps g _ _ _ fun _ _ => hg ..).trans (foldl_keeps g _ _ _ fun _ _ => hg ..)

theorem cadenceShown_keeps {α : Type} (g : State → α) (hg : ∀ u k v, g (State.set u k v) = g u) : g (cadenceShown m s) = g s :=
  (hg ..).trans ((foldl_keeps g _ _ _ fun _ _ => hg ..).trans (unitCadences_keeps g hg))

theorem badRuns_shown : badRuns (cadenceShown m s) m = badRuns s m := by
  unfold badRuns
  rw [cadenceShown_keeps State.variant set_variant, cadenceShown_keeps State.cadenceBad set_cadenceBad]

theorem cadenceFacts_keys (m : Cadence) : (cadenceFacts m).map (·.1) = [K.arbCadenceFactor, K.arbCadenceIngest, K.arbCadenceLane,
    K.arbCadenceEngines, K.arbCadenceSector, K.arbCadenceRecords, K.arbCadenceForward] := rfl

theorem cadenceShown_flags : (cadenceShown m s).obj K.arbCadenceFlags = s.obj K.arbCadenceFlags :=
  (obj_tally_ne _ _ _ (by decide)).trans ((obj_setAll_ne _ (by rw [cadenceFacts_keys]; decide)).trans
    (unitCadences_obj _ _ (by decide) (by decide)))

theorem cadenceShown_slow : (cadenceShown m s).obj K.arbSyncSlow = wrapAdd 64 (s.obj K.arbSyncSlow) m.slow := by
  rw [cadenceShown, obj_tally_self, obj_setAll_ne _ (by rw [cadenceFacts_keys]; decide)]
  exact congrArg (fun v => wrapAdd 64 v m.slow) (unitCadences_obj _ _ (by decide) (by decide))

theorem cadenceShown_ingest : (cadenceShown m s).obj K.arbCadenceIngest = f32OfRat m.ingest 1000000000 :=
  (obj_tally_ne _ _ _ (by decide)).trans
    (holds_setAll (unitCadences m s) (vs := cadenceFacts m) (by rw [cadenceFacts_keys]; decide) (K.arbCadenceIngest, _)
      (List.mem_cons_of_mem _ (List.mem_cons_self ..)))

/-- The flags follow from the runs of bad cadences. -/
def flagged (s : State) (bad : List Nat) : State :=
  (withBad s bad).set K.arbCadenceFlags (cadenceFlags ((withBad s bad).obj K.arbCadenceFlags) bad)

theorem riseIf_cadenceBad (before after : State) (n d : Nat) : (State.riseIf before after n d).cadenceBad = after.cadenceBad := by
  unfold State.riseIf
  split
  · exact raise_cadenceBad ..
  · rfl

theorem flagged_bad (s : State) (bad : List Nat) : (flagged s bad).cadenceBad = bad := set_cadenceBad ..

theorem flagged_flags (s : State) (bad : List Nat) :
    (flagged s bad).obj K.arbCadenceFlags = cadenceFlags (s.obj K.arbCadenceFlags) bad := obj_set_self ..

theorem flagged_other (s : State) (bad : List Nat) {k : Nat} (h : k ≠ K.arbCadenceFlags) : (flagged s bad).obj k = s.obj k :=
  obj_set_ne _ _ h

theorem xCadence_shows (m : Cadence) (s : State) : (xCadence m s).cadenceBad = badRuns s m ∧
    (xCadence m s).obj K.arbCadenceFlags = cadenceFlags (s.obj K.arbCadenceFlags) (xCadence m s).cadenceBad ∧
    (xCadence m s).obj K.arbCadenceIngest = f32OfRat m.ingest 1000000000 ∧
    (xCadence m s).obj K.arbSyncSlow = wrapAdd 64 (s.obj K.arbSyncSlow) m.slow := by
  have heffect : xCadence m s = State.riseIf s (flagged (cadenceShown m s) (badRuns s m)) 754 0 := by
    rw [xCadence_eq, badRuns_shown, flagged]
  have hruns : (xCadence m s).cadenceBad = badRuns s m := by rw [heffect, riseIf_cadenceBad, flagged_bad]
  refine ⟨hruns, ?_, ?_, ?_⟩
  · rw [hruns, heffect, obj_riseIf_of_lt (by decide), flagged_flags, cadenceShown_flags]
  · rw [heffect, obj_riseIf_of_lt (by decide), flagged_other _ _ (by decide), cadenceShown_ingest]
  · rw [heffect, obj_riseIf_of_lt (by decide), flagged_other _ _ (by decide), cadenceShown_slow]

theorem cadence_shows (t : Nat) (hheld : s.held = false) : Completes (.cadenceRefresh t m) s
    (fun u => u.cadenceBad = badRuns s m ∧ u.obj K.arbCadenceFlags = cadenceFlags (s.obj K.arbCadenceFlags) u.cadenceBad ∧
      u.obj K.arbCadenceIngest = f32OfRat m.ingest 1000000000 ∧
      u.obj K.arbSyncSlow = wrapAdd 64 (s.obj K.arbSyncSlow) m.slow) (fun _ => True) :=
  completes_event (exec_cadenceRefresh t m s) hheld (xCadence_shows m (s.begin_ t))

end

/-- Settles O40: each write by the form and the key of its object. -/
theorem storeObjectsAreWritten : Obligations.StoreObjectsAreWritten := by
  unfold Obligations.StoreObjectsAreWritten
  exact ⟨fun s q l i hsafe => ⟨fun hi h => arbClientClear_writes hi hsafe h, fun h => arbClearAll_writes hsafe h,
    fun h => arbLibero_writes hsafe h, fun h => arbSyncClear_writes hsafe h, fun hi h => storePcClear_writes hi hsafe h,
    fun hi h => ctxRingResume_writes hi hsafe h⟩, fun s t m hheld => cadence_shows t hheld⟩

end Sys2Proof.Proofs
end

section
/-! # Writes of tile, engine and coefficient-set objects (R99, R120 to R123, R209, R218) -/

set_option Elab.async false

namespace Sys2Proof.Proofs

open Sys2Proof Sys2Proof.Machine Sys2Proof.Laws

section
variable {s t : State} {p : Put} {q : Req} {l : Loc} {n : Nat}

/-! ## What a write in the chapters of tiles and engines does -/

theorem putStream_engine (hform : p.l.row.form = .engine) : putStream t p = xFeEnable p.l.unit p.v (t.putValue p) := by
  simp [putStream, hform]

theorem putStream_coefSet (hform : p.l.row.form = .coefSet) : putStream t p = t.putValue p := by
  simp [putStream, hform]

/-- What a write of a tile's object that is not staged does, by its index within the tile and its subindex. -/
def tileEffect (t : State) (p : Put) (i b : Nat) : State :=
  match i, b with
  | 5, 3 => xBufPeakClear p.l.unit (t.putValue p)
  | 7, 3 => actPadTest p.l.unit (t.putValue p)
  | 7, 8 => xPadClear p.l.unit (t.putValue p)
  | 7, 16 => actTbusSrc (p.l.unit / 32) p.v (t.putValue p)
  | 9, 6 => xIlvReset p.l.unit (t.putValue p)
  | 12, _ => actMonitor p.l.unit 0 p.sub (t.obj p.key_) p.v (t.putValue p)
  | 13, _ => actMonitor p.l.unit 1 p.sub (t.obj p.key_) p.v (t.putValue p)
  | 15, 2 => xSceneEnable p.l.unit p.v t
  | _, _ => t.putValue p

theorem tileEffect_stored : tileEffect t p 7 2 = t.putValue p := rfl

theorem tileEffect_test : tileEffect t p 7 3 = (t.putValue p).showBus p.l.unit := rfl

theorem tileEffect_clear : tileEffect t p 7 8 = (t.putValue p).set (K.tilePadOverload p.l.unit) 0 := rfl

theorem tileEffect_reset : tileEffect t p 9 6 = xIlvReset p.l.unit (t.putValue p) := rfl

theorem tileEffect_peak :
    tileEffect t p 5 3 = (t.putValue p).set (K.tileBufPeak p.l.unit) ((t.putValue p).obj (K.tileBufFill p.l.unit)) := rfl

theorem putTile_unstaged (hattr : p.l.row.attr.testBit 0 = false) : putTile t p = tileEffect t p (p.index % 16) p.sub := by
  have hcases : putTile t p = if p.l.row.attr.testBit 0 then actTileStaged p.l.unit p.index p.sub p.v (t.putValue p)
      else tileEffect t p (p.index % 16) p.sub := rfl
  rw [hcases, if_neg (by simp [hattr])]

end

/-! ## Engines and coefficient sets -/

section
variable {s : State} {q : Req} {l : Loc} {n : Nat}

theorem feEnable_writes (hn : n < 64) (hsafe : s.safeAsk = 0) (h : Accepts s (onObject q (K.feEnable n)) l) :
    Writes (.feEnable q n) s (onObject q (K.feEnable n)) l
      ((K.feEnable n, ofLE q.body) ::
        (if s.powered (n / 16) = true then [(K.feStatus n, enWrite (s.obj (K.feStatus n)) (ofLE q.body))] else []))
      (fun _ => True) := by
  have hdiv : K.feEnable n / 256 = 0x4800 + 2 * n := key_div (by decide)
  have hmod : K.feEnable n % 256 = 1 := key_mod (by decide)
  obtain ⟨hform, hattr, hunit, -⟩ := accepted_row h (by omega) (place_feEnable n hn)
  have hne : K.feStatus n ≠ K.feEnable n := key_ne (by decide) (by decide) (.inr (by decide))
  have hquadrants : K.placerQuadrants ≠ K.feEnable n := key_ne (by decide) (by decide) (by omega)
  have hstatus : accessKey (K.feStatus n) = false := access_key_false (by decide) (by omega)
  have hpower : accessKey K.placerQuadrants = false := by decide
  have hput : putStream (s.access (onObject q (K.feEnable n))) (putAt s q (K.feEnable n) l) =
      if s.powered (n / 16) then ((s.access (onObject q (K.feEnable n))).poke (K.feEnable n) (ofLE q.body)).set (K.feStatus n)
        (enWrite (s.obj (K.feStatus n)) (ofLE q.body))
      else (s.access (onObject q (K.feEnable n))).poke (K.feEnable n) (ofLE q.body) := by
    rw [putStream_engine hform, putValue_stored _ hattr, putAt_key, putAt_v, putAt_l, hunit, xFeEnable, State.powered,
      obj_poke_ne _ _ hquadrants, obj_poke_ne _ _ hne, obj_access h hpower, obj_access h hstatus, ← State.powered]
  have hwrites {vs : List (Nat × Nat)} {u : State} (heffect : putStream (s.access (onObject q (K.feEnable n)))
      (putAt s q (K.feEnable n) l) = u) (hl : Leaves (vs.map (·.1)) u (s.access (onObject q (K.feEnable n)))) (hv : Holds u vs) :
      Writes (.feEnable q n) s (onObject q (K.feEnable n)) l vs (fun _ => True) :=
    writes_of_put (asks_of_writesOf (exec_feEnable q n s) (by simpa using hn)) hsafe h (written_stream (by omega) (by omega)) heffect hl hv trivial
  split at hput
  next hon =>
    rw [if_pos hon]
    exact hwrites hput ((leaves_set _ _ (List.mem_cons_of_mem _ (List.mem_cons_self ..))).trans (leaves_poke _ _ (List.mem_cons_self ..)))
      (holds_cons ((obj_set_ne _ _ hne.symm).trans (obj_poke_self ..)) (holds_cons (obj_set_self ..) (holds_nil _)))
  next hoff =>
    rw [if_neg hoff]
    exact hwrites hput (leaves_poke _ _ (List.mem_cons_self ..)) (holds_cons (obj_poke_self ..) (holds_nil _))

theorem coefSet_writes (hn : n < 128) (hsafe : s.safeAsk = 0) (h : Accepts s (onObject q (K.feSetCoef n)) l) :
    Writes (.coefSetWrite q n) s (onObject q (K.feSetCoef n)) l [(K.feSetCoef n, ofLE q.body)] (fun _ => True) := by
  have hdiv : K.feSetCoef n / 256 = 0x4880 + n := key_div (by decide)
  have hmod : K.feSetCoef n % 256 = 1 := key_mod (by decide)
  obtain ⟨hform, hattr, -, -⟩ := accepted_row h (by omega) (place_feSetCoef n hn)
  have hput : putStream (s.access (onObject q (K.feSetCoef n))) (putAt s q (K.feSetCoef n) l) =
      (s.access (onObject q (K.feSetCoef n))).poke (K.feSetCoef n) (ofLE q.body) := by
    rw [putStream_coefSet hform, putValue_stored _ hattr, putAt_key, putAt_v]
  exact writes_of_put (asks_of_writesOf (exec_coefSetWrite q n s) (by simpa using hn)) hsafe h (written_stream (by omega) (by omega)) hput
    (leaves_poke _ _ (List.mem_cons_self ..)) (holds_cons (obj_poke_self ..) (holds_nil _)) trivial

/-! ## Pads and ingest buffers -/

/-- A write of a tile's object acts by its index within the tile and its subindex. -/
theorem tile_put {i b attr : Nat} (hi : i < 16) (hb : b < 256) (hb0 : b ≠ 0) (hattr : attr.testBit 0 = false)
    (h : Accepts s (onObject q (key (0x3000 + i + 16 * n) b)) l)
    (hplace : place (key (0x3000 + i + 16 * n) b) = some (.tile, attr, n, b)) :
    putTile (s.access (onObject q (key (0x3000 + i + 16 * n) b))) (putAt s q (key (0x3000 + i + 16 * n) b) l) =
      tileEffect (s.access (onObject q (key (0x3000 + i + 16 * n) b))) (putAt s q (key (0x3000 + i + 16 * n) b) l) i b ∧
    l.unit = n ∧ l.row.attr = attr := by
  have hdiv : key (0x3000 + i + 16 * n) b / 256 = 0x3000 + i + 16 * n := key_div hb
  have hmod : key (0x3000 + i + 16 * n) b % 256 = b := key_mod hb
  obtain ⟨-, hrow, hunit, -⟩ := accepted_row h (by omega) hplace
  refine ⟨?_, hunit, hrow⟩
  rw [putTile_unstaged (by rw [putAt_l, hrow]; exact hattr), putAt_index, putAt_sub, hdiv, hmod]
  congr 1
  omega

theorem tileKey_range {i b : Nat} (hi : i < 16) (hb : b < 256) (hn : n < 256) :
    0x300000 ≤ key (0x3000 + i + 16 * n) b ∧ key (0x3000 + i + 16 * n) b < 0x400000 := by
  simp only [key]
  omega

theorem tile_access {i b : Nat} (hi : i < 16) (hb : b < 256) (hn : n < 256) : accessKey (key (0x3000 + i + 16 * n) b) = false :=
  access_key_false hb (by omega)

theorem padTerm_writes (hn : n < 256) (hsafe : s.safeAsk = 0) (h : Accepts s (onObject q (K.tilePadTerm n)) l) :
    Writes (.padTermWrite q n) s (onObject q (K.tilePadTerm n)) l [(K.tilePadTerm n, ofLE q.body)] (fun _ => True) := by
  obtain ⟨hput, -, hattr⟩ := tile_put (i := 7) (b := 2) (by decide) (by decide) (by decide) (by decide) h (place_tilePadTerm n hn)
  obtain ⟨hlo, hhi⟩ := tileKey_range (i := 7) (b := 2) (by decide) (by decide) hn
  have hstored : tileEffect (s.access (onObject q (K.tilePadTerm n))) (putAt s q (K.tilePadTerm n) l) 7 2 =
      (s.access (onObject q (K.tilePadTerm n))).poke (K.tilePadTerm n) (ofLE q.body) := by
    rw [tileEffect_stored, putValue_stored _ hattr, putAt_key, putAt_v]
  exact writes_of_put (asks_of_writesOf (exec_padTermWrite q n s) (by simpa using hn)) hsafe h (written_tile hlo hhi) (hput.trans hstored)
    (leaves_poke _ _ (List.mem_cons_self ..)) (holds_cons (obj_poke_self ..) (holds_nil _)) trivial

theorem padTest_writes (hn : n < 256) (hsafe : s.safeAsk = 0) (h : Accepts s (onObject q (K.tilePadTest n)) l) :
    Writes (.padTestWrite q n) s (onObject q (K.tilePadTest n)) l
      [(K.tilePadTest n, ofLE q.body),
       (K.tilePadBus n, if s.obj (K.tilePadBus n) = 3 then 3 else if s.obj (K.tilePadEntry n) = 1 then 1
         else if ofLE q.body = 1 then 2 else 0)] (fun _ => True) := by
  obtain ⟨hput, hunit, hattr⟩ := tile_put (i := 7) (b := 3) (by decide) (by decide) (by decide) (by decide) h (place_tilePadTest n hn)
  obtain ⟨hlo, hhi⟩ := tileKey_range (i := 7) (b := 3) (by decide) (by decide) hn
  have hbus : K.tilePadBus n ≠ K.tilePadTest n := key_ne (by decide) (by decide) (.inr (by decide))
  have hentry : K.tilePadEntry n ≠ K.tilePadTest n := key_ne (by decide) (by decide) (.inr (by decide))
  have hbusAccess : accessKey (K.tilePadBus n) = false := tile_access (i := 7) (by decide) (by decide) hn
  have hentryAccess : accessKey (K.tilePadEntry n) = false := tile_access (i := 7) (by decide) (by decide) hn
  have hshown : tileEffect (s.access (onObject q (K.tilePadTest n))) (putAt s q (K.tilePadTest n) l) 7 3 =
      if s.obj (K.tilePadBus n) = 3 then (s.access (onObject q (K.tilePadTest n))).poke (K.tilePadTest n) (ofLE q.body)
      else ((s.access (onObject q (K.tilePadTest n))).poke (K.tilePadTest n) (ofLE q.body)).set (K.tilePadBus n)
        (if s.obj (K.tilePadEntry n) = 1 then 1 else if ofLE q.body = 1 then 2 else 0) := by
    rw [tileEffect_test, putValue_stored _ hattr, putAt_key, putAt_v, putAt_l, hunit, State.showBus, State.busState, obj_poke_self,
      obj_poke_ne _ _ hbus, obj_poke_ne _ _ hentry, obj_access h hbusAccess, obj_access h hentryAccess]
  refine writes_of_put (asks_of_writesOf (exec_padTestWrite q n s) (by simpa using hn)) hsafe h (written_tile hlo hhi) (hput.trans hshown)
    ?_ ?_ trivial
  · split
    · exact leaves_poke _ _ (List.mem_cons_self ..)
    · exact (leaves_set _ _ (List.mem_cons_of_mem _ (List.mem_cons_self ..))).trans (leaves_poke _ _ (List.mem_cons_self ..))
  · split
    next hcontended =>
      exact holds_cons (obj_poke_self ..) (holds_cons ((obj_poke_ne _ _ hbus).trans ((obj_access h hbusAccess).trans hcontended)) (holds_nil _))
    next => exact holds_cons ((obj_set_ne _ _ hbus.symm).trans (obj_poke_self ..)) (holds_cons (obj_set_self ..) (holds_nil _))

theorem padClear_writes (hn : n < 256) (hsafe : s.safeAsk = 0) (h : Accepts s (onObject q (K.tilePadClear n)) l) :
    Writes (.padClear q n) s (onObject q (K.tilePadClear n)) l [(K.tilePadOverload n, 0)] (fun _ => True) := by
  obtain ⟨hput, hunit, hattr⟩ := tile_put (i := 7) (b := 8) (by decide) (by decide) (by decide) (by decide) h (place_tilePadClear n hn)
  obtain ⟨hlo, hhi⟩ := tileKey_range (i := 7) (b := 8) (by decide) (by decide) hn
  have hcleared : tileEffect (s.access (onObject q (K.tilePadClear n))) (putAt s q (K.tilePadClear n) l) 7 8 =
      (s.access (onObject q (K.tilePadClear n))).set (K.tilePadOverload n) 0 := by
    rw [tileEffect_clear, putValue_action _ hattr, putAt_l, hunit]
  exact writes_of_put (asks_of_writesOf (exec_padClear q n s) (by simpa using hn)) hsafe h (written_tile hlo hhi) (hput.trans hcleared)
    (leaves_set _ _ (List.mem_cons_self ..)) (holds_cons (obj_set_self ..) (holds_nil _)) trivial

theorem bufPeakClear_writes (hn : n < 256) (hsafe : s.safeAsk = 0) (h : Accepts s (onObject q (K.tileBufPeakClear n)) l) :
    Writes (.bufPeakClear q n) s (onObject q (K.tileBufPeakClear n)) l [(K.tileBufPeak n, s.obj (K.tileBufFill n))] (fun _ => True) := by
  obtain ⟨hput, hunit, hattr⟩ := tile_put (i := 5) (b := 3) (by decide) (by decide) (by decide) (by decide) h (place_tileBufPeakClear n hn)
  obtain ⟨hlo, hhi⟩ := tileKey_range (i := 5) (b := 3) (by decide) (by decide) hn
  have hfill : accessKey (K.tileBufFill n) = false := tile_access (i := 5) (by decide) (by decide) hn
  have hcleared : tileEffect (s.access (onObject q (K.tileBufPeakClear n))) (putAt s q (K.tileBufPeakClear n) l) 5 3 =
      (s.access (onObject q (K.tileBufPeakClear n))).set (K.tileBufPeak n) (s.obj (K.tileBufFill n)) := by
    rw [tileEffect_peak, putValue_action _ hattr, putAt_l, hunit, obj_access h hfill]
  exact writes_of_put (asks_of_writesOf (exec_bufPeakClear q n s) (by simpa using hn)) hsafe h (written_tile hlo hhi) (hput.trans hcleared)
    (leaves_set _ _ (List.mem_cons_self ..)) (holds_cons (obj_set_self ..) (holds_nil _)) trivial

end

/-- Settles O37: each write by the form, the index and the subindex of its object. -/
theorem tileAndEngineObjectsAreWritten : Obligations.TileAndEngineObjectsAreWritten := by
  unfold Obligations.TileAndEngineObjectsAreWritten
  exact fun s q l n hsafe => ⟨fun hn h => feEnable_writes hn hsafe h, fun hn h => coefSet_writes hn hsafe h,
    fun hn h => padTerm_writes hn hsafe h, fun hn h => padTest_writes hn hsafe h, fun hn h => padClear_writes hn hsafe h,
    fun hn h => bufPeakClear_writes hn hsafe h⟩

end Sys2Proof.Proofs
end

section
/-! # The engines' turns (R213, R82): a cause that is owed when a priming ends -/

set_option Elab.async false

namespace Sys2Proof.Proofs

open Sys2Proof Sys2Proof.Machine Sys2Proof.Laws

/-- A device in RUN whose slot 0 of engine 0 primes, with an entry into SAFE owed. -/
def primingOwesSafe : State := { bootedInRun.poke (K.feSlotState 0 0) 3 with safeAsk := 1 }

/-- What the end of the priming leaves, before the account of how the command ends. -/
abbrev primingOver : State := xPrimingComplete 0 0 (primingOwesSafe.begin_ 0)

theorem primingOver_next : exec (.primingComplete 0 0 0) primingOwesSafe = .next (primingOwesSafe.finish primingOver) :=
  (exec_primingComplete ..).trans (eventOf_next _ _ _ _ rfl rfl)

/-- The entry that was owed takes the device into SAFE as the command ends. -/
theorem primingOver_inSafe : InSafe primingOver primingOver.safeAsk (primingOwesSafe.finish primingOver) :=
  finish_inSafe (by decide +kernel) (by decide +kernel) (by decide +kernel)

/-- Refutes O36: its clause on the end of a priming holds of every state that is not in reset, also where an entry into SAFE is owed; the
command then ends in SAFE, and the mode is not among the objects that it may change. -/
theorem not_enginesReadAndPrime : ¬ Obligations.EnginesReadAndPrime := by
  unfold Obligations.EnginesReadAndPrime
  rintro ⟨-, hpriming⟩
  obtain ⟨u, hu, -, hframe⟩ := hpriming primingOwesSafe 0 0 0 (by decide +kernel) (by decide) (by decide) (by decide +kernel) (by decide +kernel)
  have hsame : primingOwesSafe.finish primingOver = primingOwesSafe.finish u := Host.Outcome.next.inj (primingOver_next.symm.trans hu)
  have hmode : (primingOwesSafe.finish u).obj K.deviceMode = primingOwesSafe.obj K.deviceMode := hframe.1 _ (by decide) (by decide)
  have hsafe : (primingOwesSafe.finish u).obj K.deviceMode = mSafe := hsame ▸ primingOver_inSafe.mode
  have hrun : primingOwesSafe.obj K.deviceMode = mRun := by decide +kernel
  exact absurd (hsafe.symm.trans (hmode.trans hrun)) (by decide)

end Sys2Proof.Proofs
end

section
/-! # Lanes (R99, R371 to R374, R385, R386)

What the streams and the formation leave alone of a lane, and the writes of lanes and of the management port. -/

set_option Elab.async false

namespace Sys2Proof.Proofs

open Sys2Proof Sys2Proof.Machine Sys2Proof.Laws

/-! ## What leaves a lane's enable, link and status alone -/

/-- The objects of a lane that say whether it runs. -/
def laneKeys (n : Nat) : List Nat := [K.laneEnable n, K.laneStatus n, K.laneRole n, K.laneLink n]

/-- A lane's enable, role, link and fault are as they were, and its status but for HOLD and FEC_DEGRADED. -/
structure KeepsLane (n : Nat) (u s : State) : Prop where
  enable : u.obj (K.laneEnable n) = s.obj (K.laneEnable n)
  role : u.obj (K.laneRole n) = s.obj (K.laneRole n)
  link : u.obj (K.laneLink n) = s.obj (K.laneLink n)
  status : u.obj (K.laneStatus n) % 32 = s.obj (K.laneStatus n) % 32
  faults : (u.lane n).faults = (s.lane n).faults
  variant : u.variant = s.variant
  safeAsk : u.safeAsk = s.safeAsk

section
variable {n m : Nat} {u v s : State}

theorem KeepsLane.refl (n : Nat) (s : State) : KeepsLane n s s := ⟨rfl, rfl, rfl, rfl, rfl, rfl, rfl⟩

theorem KeepsLane.trans (h : KeepsLane n u v) (g : KeepsLane n v s) : KeepsLane n u s :=
  ⟨h.enable.trans g.enable, h.role.trans g.role, h.link.trans g.link, h.status.trans g.status, h.faults.trans g.faults, h.variant.trans g.variant,
    h.safeAsk.trans g.safeAsk⟩

theorem keepsLane_of_obj (hobj : ∀ k ∈ laneKeys n, u.obj k = s.obj k) (hlanes : u.lanes = s.lanes) (hvariant : u.variant = s.variant)
    (hsafe : u.safeAsk = s.safeAsk) : KeepsLane n u s :=
  ⟨hobj _ (by simp [laneKeys]), hobj _ (by simp [laneKeys]), hobj _ (by simp [laneKeys]), congrArg (· % 32) (hobj _ (by simp [laneKeys])),
    by simp only [State.lane, hlanes], hvariant, hsafe⟩

theorem keepsLane_of_dict (hdict : u.dict = s.dict) (hlanes : u.lanes = s.lanes) (hvariant : u.variant = s.variant)
    (hsafe : u.safeAsk = s.safeAsk) : KeepsLane n u s :=
  keepsLane_of_obj (fun _ _ => by simp only [State.obj, hvariant, hdict]) hlanes hvariant hsafe

theorem keepsLane_ite {c : Prop} [Decidable c] (h : KeepsLane n u s) (g : KeepsLane n v s) : KeepsLane n (if c then u else v) s := by
  split
  · exact h
  · exact g

theorem keepsLane_foldl {α : Type} (f : State → α → State) (h : ∀ t x, KeepsLane n (f t x) t) (xs : List α) (s : State) :
    KeepsLane n (xs.foldl f s) s := by
  induction xs generalizing s with
  | nil => exact .refl n s
  | cons x xs ih => exact (ih _).trans (h s x)

/-- A key is none of these by its subindex. -/
theorem not_laneKey {i b : Nat} (hb : b < 256) (h : b ≠ 1 ∧ b ≠ 2 ∧ b ≠ 3 ∧ b ≠ 4) : key i b ∉ laneKeys n := by
  simp only [laneKeys, K.laneEnable, K.laneStatus, K.laneRole, K.laneLink, key, List.mem_cons, List.not_mem_nil, or_false]
  omega

/-- A key is none of these by its index. -/
theorem not_laneKey_of_mod {i b : Nat} (hb : b < 256) (h : i % 64 ≠ 0) : key i b ∉ laneKeys n := by
  simp only [laneKeys, K.laneEnable, K.laneStatus, K.laneRole, K.laneLink, key, List.mem_cons, List.not_mem_nil, or_false]
  omega

theorem laneKey_range (hn : n < 16) {k : Nat} (hk : k ∈ laneKeys n) : 0x500000 ≤ k ∧ k < 0x540000 := by
  simp only [laneKeys, K.laneEnable, K.laneStatus, K.laneRole, K.laneLink, key, List.mem_cons, List.not_mem_nil, or_false] at hk
  omega

theorem keepsLane_set (s : State) {k : Nat} (x : Nat) (h : k ∉ laneKeys n) : KeepsLane n (s.set k x) s :=
  keepsLane_of_obj (fun _ hi => obj_set_ne _ _ (fun he => h (he ▸ hi))) (set_lanes ..) (set_variant ..) (set_safeAsk ..)

theorem keepsLane_count (s : State) {k : Nat} (w x : Nat) (h : k ∉ laneKeys n) : KeepsLane n (s.count k w x) s :=
  keepsLane_of_obj (fun _ hi => obj_count_ne _ _ _ (fun he => h (he ▸ hi))) (count_lanes ..) (count_variant ..) (count_safeAsk ..)

theorem keepsLane_raise (hn : n < 16) (s : State) (j d : Nat) : KeepsLane n (s.raise j d) s :=
  keepsLane_of_obj (fun k hk => obj_raise_of_lt _ _ _ (by have := laneKey_range hn hk; omega)) (raise_lanes ..) (raise_variant ..)
    (raise_safeAsk ..)

theorem KeepsAround.keepsLane (hn : n < 16) (h : KeepsAround u s) : KeepsLane n u s := by
  refine keepsLane_of_obj (fun k hk => h.obj k ?_) h.lanes h.variant h.safeAsk
  obtain ⟨hlo, hhi⟩ := laneKey_range hn hk
  have h1 : 0x170000 ≤ k := by omega
  have h2 : k < 0x700000 := by omega
  simp [aroundFormation, h1, h2]

/-- A change of a lane's record that leaves its fault alone. -/
theorem keepsLane_modLane (s : State) (f : Lane → Lane) (h : ∀ x, (f x).faults = x.faults) : KeepsLane n (s.modLane m f) s := by
  refine ⟨rfl, rfl, rfl, rfl, ?_, rfl, rfl⟩
  by_cases heq : n = m
  · subst heq
    simp only [State.modLane, State.setLane, State.lane, get_put_self, h]
  · simp only [State.modLane, State.setLane, State.lane, get_put_ne _ _ _ heq]

theorem withBit5_low (x : Nat) (b : Bool) : withBit x 5 b % 32 = x % 32 := withBit_mod x 5 b

theorem laneStatus_inj (h : n ≠ m) : K.laneStatus n ≠ K.laneStatus m := key_ne (by decide) (by decide) (by omega)

/-- The bits above the link's of a lane's status. -/
theorem keepsLane_flag (s : State) {i : Nat} (hi : 5 ≤ i) (b : Bool) :
    KeepsLane n (s.set (K.laneStatus m) (withBit (s.obj (K.laneStatus m)) i b)) s := by
  have hne {b : Nat} (hb : b < 256) (h : b ≠ 2) (x : Nat) :
      (s.set (K.laneStatus m) x).obj (key (0x5000 + 64 * n) b) = s.obj (key (0x5000 + 64 * n) b) :=
    obj_set_ne _ _ (key_ne hb (by decide) (.inr h))
  refine ⟨hne (by decide) (by decide) _, hne (by decide) (by decide) _, hne (by decide) (by decide) _, ?_, rfl, set_variant .., set_safeAsk ..⟩
  by_cases heq : n = m
  · subst heq
    have hdvd : 32 ∣ 2 ^ i := pow_dvd_pow 2 hi
    rw [obj_set_self, ← Nat.mod_mod_of_dvd _ hdvd, withBit_mod, Nat.mod_mod_of_dvd _ hdvd]
  · rw [obj_set_ne _ _ (laneStatus_inj heq)]

theorem keepsLane_showHold (s : State) : KeepsLane n (s.showHold m) s := by
  unfold State.showHold
  extract_lets c shown bit flagged
  have hshown : KeepsLane n shown s := keepsLane_ite (.refl n s) (keepsLane_set _ _ (not_laneKey_of_mod (by decide) (by omega)))
  have hflagged : KeepsLane n flagged shown := keepsLane_flag _ (by decide) _
  have hheld (since : Option Nat) : KeepsLane n (flagged.modLane m fun x => { x with held := since, told := false }) flagged :=
    keepsLane_modLane _ _ fun _ => rfl
  exact keepsLane_ite hshown ((hheld _).trans (hflagged.trans hshown))

theorem keepsLane_integrity (hn : n < 16) (s : State) : KeepsLane n (s.integrity m) s := by
  have hraised : KeepsLane n ((s.modLane m (fun x => { x with integrity := some s.clock })).raise (sIntegrity m) 0) s :=
    (keepsLane_raise hn _ _ _).trans (keepsLane_modLane _ (fun x => { x with integrity := some s.clock }) fun _ => rfl)
  unfold State.integrity
  split
  · exact keepsLane_ite (.refl n s) hraised
  · exact hraised

theorem keepsLane_endReplay (hn : n < 16) (s : State) (x : Replay) : KeepsLane n (s.endReplay x) s := by
  unfold State.endReplay
  extract_lets t body msg w
  have hw : KeepsLane n w s := keepsLane_of_dict rfl rfl rfl rfl
  exact keepsLane_ite ((keepsLane_raise hn _ _ _).trans hw) hw

theorem keepsLane_cutReplays (hn : n < 16) (s : State) (f : Replay → Bool) : KeepsLane n (s.cutReplays f) s :=
  keepsLane_foldl _ (fun _ _ => keepsLane_endReplay hn _ _) _ _

theorem keepsLane_showStreams (s : State) : KeepsLane n s.showStreams s :=
  keepsLane_foldl _ (fun _ _ => (keepsLane_set _ _ (not_laneKey_of_mod (by decide) (by omega))).trans
    (keepsLane_set _ _ (not_laneKey_of_mod (by decide) (by omega)))) _ _

/-- The plan of the lanes that streams go to. -/
def withPlanLanes (s : State) (ls : List (Nat × Nat)) : State := { s with plan := { s.plan with lanes := ls } }

theorem keepsLane_withPlanLanes (s : State) (ls : List (Nat × Nat)) : KeepsLane n (withPlanLanes s ls) s :=
  keepsLane_of_dict rfl rfl rfl rfl

theorem keepsLane_setLive (s : State) (c : Nat) (x : Export) : KeepsLane n (s.setLive c x) s := keepsLane_of_dict rfl rfl rfl rfl

theorem keepsLane_moveExport (s : State) (c : Nat) : KeepsLane n (s.moveExport c) s := by
  have hmoved (t : State) (l : Nat) (ls : List (Nat × Nat)) (x : Export) :
      KeepsLane n (withPlanLanes ((t.setLive c x).set (K.ctxLane c) l) ls).showStreams t :=
    (keepsLane_showStreams _).trans ((keepsLane_withPlanLanes _ _).trans
      ((keepsLane_set _ _ (not_laneKey (by decide) (by decide))).trans (keepsLane_setLive _ _ _)))
  unfold State.moveExport
  split
  · exact keepsLane_ite (.refl n s) (hmoved _ _ _ _)
  · exact .refl n s

/-! ## The formation -/

theorem keepsAround_takeUpstream (s : State) : KeepsAround s.takeUpstream s := by
  have hshown (t : State) (h x : Nat) : KeepsAround ((t.set K.rallyHops h).set K.rallyStatic x) t :=
    (keepsAround_set _ _ (by decide)).trans (keepsAround_set _ _ (by decide))
  unfold State.takeUpstream
  split
  · exact .refl s
  · exact (hshown _ _ _).trans (keepsAround_ite (.refl s) ((keepsAround_modRally ..).trans (keepsAround_set _ _ (by decide))))

theorem keepsAround_setRallyLane (s : State) (i : Nat) (x : RallyLane) : KeepsAround (s.setRallyLane i x) s := keepsAround_modRally ..

theorem keepsLane_modCtx (s : State) (c : Nat) (f : Ctx → Ctx) : KeepsLane n (s.modCtx c f) s := keepsLane_of_dict rfl rfl rfl rfl

theorem keepsLane_loseSource (s : State) (c x : Nat) : KeepsLane n (s.loseSource c x) s := by
  have hcause (t : State) : KeepsLane n (t.set (K.ctxCause c) x) t := keepsLane_set _ _ (not_laneKey (by decide) (by decide))
  unfold State.loseSource
  extract_lets st
  exact keepsLane_ite (keepsLane_modCtx ..) (keepsLane_ite ((hcause _).trans (keepsLane_modCtx ..))
    (keepsLane_ite ((hcause _).trans (keepsLane_modCtx ..)) (.refl n s)))

theorem keepsLane_rallyLaneDown (hn : n < 16) (hm : m < 16) (s : State) (x : Nat) : KeepsLane n (s.rallyLaneDown m x) s := by
  have hlane {b : Nat} (hb : b < 256) (t : State) (y : Nat) : KeepsLane n (t.set (key (0x1610 + m) b) y) t :=
    (keepsAround_set _ _ (rallyLane_inside hb hm)).keepsLane hn
  unfold State.rallyLaneDown
  extract_lets down cleared lost was told led unled late healing risen alone
  have hcleared : KeepsLane n cleared s := ((keepsAround_setRallyLane ..).keepsLane hn).trans ((hlane (by decide) _ _).trans (hlane (by decide) _ _))
  have hlost : KeepsLane n lost s := (keepsLane_foldl _ (fun _ _ => keepsLane_loseSource ..) _ _).trans hcleared
  have hled : KeepsAround led lost := (keepsAround_updateRoles _).trans (keepsAround_floodControl ..)
  have hunled : KeepsAround unled led := (keepsAround_modRally ..).trans (keepsAround_set _ _ (by decide))
  have hlate : KeepsAround late led := (keepsAround_ite (keepsAround_setTimeState ..) (.refl _)).trans hunled
  have hhealing : KeepsAround healing led := (keepsAround_ite (keepsAround_setRally ..) (.refl _)).trans hlate
  have hrisen : KeepsAround risen lost := (keepsAround_ite ((keepsAround_takeUpstream _).trans hhealing) (.refl _)).trans hled
  have halone : KeepsAround alone lost := (keepsAround_ite ((keepsAround_loseRally _).trans (keepsAround_setRally ..)) (.refl _)).trans hrisen
  exact (((keepsAround_showMembers _).trans halone).keepsLane hn).trans hlost

theorem keepsLane_leaveLane (hn : n < 16) (hm : m < 16) (s : State) : KeepsLane n (s.leaveLane m) s :=
  (keepsLane_rallyLaneDown hn hm _ _).trans ((keepsAround_floodControl ..).keepsLane hn)

theorem keepsLane_rallyLaneUp (hn : n < 16) (hm : m < 16) (s : State) : KeepsLane n (s.rallyLaneUp m) s := by
  unfold State.rallyLaneUp
  extract_lets up linked told
  have hup : KeepsAround up s := (keepsAround_setRallyLane ..).trans (keepsAround_set _ _ (rallyLane_inside (by decide) hm))
  have hlinked : KeepsAround linked s := (keepsAround_ite (keepsAround_setRally ..) (.refl _)).trans hup
  have htold : KeepsAround told s := (keepsAround_offerFragment ..).trans ((keepsAround_updateRoles _).trans hlinked)
  exact keepsLane_ite (.refl n s) ((keepsLane_foldl _ (fun _ _ => keepsLane_ite (keepsLane_modCtx ..) (.refl n _)) _ _).trans (htold.keepsLane hn))

theorem keepsLane_rallyLaneLost (hn : n < 16) (hm : m < 16) (s : State) : KeepsLane n (xRallyLaneLost m s) s :=
  keepsLane_ite (.refl n s) (keepsLane_rallyLaneDown hn hm _ _)

end

end Sys2Proof.Proofs
end

section
/-! # Writes of lanes and of the management port (R99, R371, R372, R385, R386) -/

set_option Elab.async false

namespace Sys2Proof.Proofs

open Sys2Proof Sys2Proof.Machine Sys2Proof.Laws

/-! ## Counters cleared -/

section
variable {s : State} {k : Nat}

/-- An object cleared. -/
def zeroed (s : State) (k : Nat) : State := if s.obj k = 0 then s else s.set k 0

theorem zeroed_obj {i : Nat} (h : i = k ∨ s.obj i = 0) : (zeroed s k).obj i = 0 := by
  unfold zeroed
  split
  next hzero => exact h.elim (fun he => he ▸ hzero) id
  next =>
    by_cases he : i = k
    · exact he ▸ obj_set_self ..
    · exact (obj_set_ne _ _ he).trans (h.resolve_left he)

theorem holds_zeroed (ks : List Nat) (s : State) : Holds (ks.foldl zeroed s) (ks.map fun k => (k, 0)) := by
  have hkept (ks : List Nat) (s : State) {i : Nat} (h : i ∈ ks ∨ s.obj i = 0) : (ks.foldl zeroed s).obj i = 0 := by
    induction ks generalizing s with
    | nil => exact h.resolve_left List.not_mem_nil
    | cons k ks ih =>
      rw [List.mem_cons, or_assoc] at h
      exact ih _ (h.elim (fun he => .inr (zeroed_obj (.inl he))) fun h => h.imp id fun hzero => zeroed_obj (.inr hzero))
  rintro e he
  obtain ⟨i, hi, rfl⟩ := List.mem_map.1 he
  exact hkept ks s (.inl hi)

theorem leaves_zeroed (ks : List Nat) (s : State) : Leaves ((ks.map fun k => (k, 0)).map (·.1)) (ks.foldl zeroed s) s :=
  leaves_foldl _ _ _ fun _ k hk => leaves_ite (fun _ => Leaves.refl ..)
    fun _ => leaves_set _ _ (List.mem_map.2 ⟨(k, 0), List.mem_map_of_mem hk, rfl⟩)

end

section
variable {s t : State} {p : Put} {q : Req} {l : Loc} {n : Nat}

/-! ## What a write of a lane's object does -/

theorem putFlow_laneEnable (hform : p.l.row.form = .lane) (hindex : p.index % 64 = 0) (hsub : p.sub = 1) :
    putFlow t p = xLaneEnable p.l.unit p.v (t.putValue p) := by
  simp [putFlow, hform, hindex, hsub]

theorem putFlow_laneClear (hform : p.l.row.form = .lane) (hindex : p.index % 64 = 4) (hsub : p.sub = 15) :
    putFlow t p = xLaneClear p.l.unit (t.putValue p) := by
  simp [putFlow, hform, hindex, hsub]

theorem lane_access {b : Nat} (hb : b < 256) : accessKey (key (0x5000 + 64 * n) b) = false := access_key_false hb (by omega)

theorem laneKey_flow (hn : n < 16) {i b : Nat} (hi : i < 64) (hb : b < 256) :
    0x500000 ≤ key (0x5000 + i + 64 * n) b ∧ key (0x5000 + i + 64 * n) b < 0x600000 := by
  simp only [key]
  omega

/-- The streams of a lane move to their new lanes. -/
def streamsMoved (n : Nat) (s : State) : State :=
  ((s.moveStreams n).getD []).foldl (fun st e =>
    (st.setLive e.1 { st.live_ e.1 with moveAt := some (st.nextNumber e.1, e.2) }).moveExport e.1) s

/-- The status of a lane after its enable. -/
def laneAsked (n v : Nat) (s : State) : State := s.set (K.laneStatus n) (enWrite (s.obj (K.laneStatus n)) v)

theorem laneEnable_cases (n v : Nat) (s : State) : xLaneEnable n v s =
    if s.roleOfLane n = 0 then s
    else if !s.laneOn n || decide (v = 1) then laneAsked n v s
    else if (laneAsked n v s).ethernet n then (streamsMoved n (laneAsked n v s)).cutReplays (fun x => x.lane == n)
    else if (laneAsked n v s).rallyState ≠ rStandalone then (laneAsked n v s).leaveLane n else laneAsked n v s := rfl

theorem keepsLane_streamsMoved (s : State) (m : Nat) : KeepsLane n (streamsMoved m s) s :=
  keepsLane_foldl _ (fun _ _ => (keepsLane_moveExport _ _).trans (keepsLane_setLive ..)) _ _

theorem keepsLane_laneEnable (hn : n < 16) (v : Nat) (s : State) (hrole : s.roleOfLane n ≠ 0) :
    KeepsLane n (xLaneEnable n v s) (laneAsked n v s) := by
  rw [laneEnable_cases, if_neg hrole]
  exact keepsLane_ite (.refl n _) (keepsLane_ite ((keepsLane_cutReplays hn _ _).trans (keepsLane_streamsMoved _ _))
    (keepsLane_ite (keepsLane_leaveLane hn hn _) (.refl n _)))

/-- A lane without streams moves none. -/
theorem moveStreams_none (h : s.exporting n = []) : (s.moveStreams n).getD [] = [] := by
  unfold State.moveStreams
  simp only [h, List.any_nil, Bool.false_eq_true, if_false, List.contains_nil, Bool.not_false, List.filter_true]
  cases hmoved : (List.foldl _ _ _ : Option (List (Nat × Nat))) with
  | none => rfl
  | some ls => simp

/-- The contexts that a lane sends out, by what they are read from. -/
theorem exporting_congr {u : State} (hctxs : u.ctxs = s.ctxs) (hforce : u.inForce = s.inForce)
    (hlane : ∀ c, u.obj (K.ctxLane c) = s.obj (K.ctxLane c)) (hdest : ∀ c, u.obj (K.graphNodeDest c) = s.obj (K.graphNodeDest c)) :
    u.exporting n = s.exporting n := by
  simp only [State.exporting, State.ringed, State.node, State.force, hctxs, hforce, hlane, hdest]

/-! ## The enable -/

/-- The state in which a written enable of a lane stands. -/
def laneStored (s : State) (q : Req) (n : Nat) : State := (s.access (onObject q (K.laneEnable n))).poke (K.laneEnable n) (ofLE q.body)

theorem laneStored_obj (h : Accepts s (onObject q (K.laneEnable n)) l) {k : Nat} (hne : k ≠ K.laneEnable n) (ha : accessKey k = false) :
    (laneStored s q n).obj k = s.obj k := (obj_poke_ne _ _ hne).trans (obj_access h ha)

theorem leaves_laneStored (s : State) (q : Req) (n : Nat) :
    Leaves [K.laneEnable n] (laneStored s q n) (s.access (onObject q (K.laneEnable n))) := leaves_poke _ _ (List.mem_cons_self ..)

theorem laneStored_replays (s : State) (q : Req) (n : Nat) : (laneStored s q n).replays = s.replays :=
  (poke_replays ..).trans (access_replays ..)

theorem leaves_laneAsked (n v : Nat) (s : State) : Leaves [K.laneStatus n] (laneAsked n v s) s := leaves_set _ _ (List.mem_cons_self ..)

theorem laneStored_role (h : Accepts s (onObject q (K.laneEnable n)) l) : (laneStored s q n).roleOfLane n = s.roleOfLane n :=
  laneStored_obj h (key_ne (by decide) (by decide) (.inr (by decide))) (lane_access (by decide))

theorem laneStored_status (h : Accepts s (onObject q (K.laneEnable n)) l) :
    (laneStored s q n).obj (K.laneStatus n) = s.obj (K.laneStatus n) :=
  laneStored_obj h (key_ne (by decide) (by decide) (.inr (by decide))) (lane_access (by decide))

theorem laneEnable_put (hn : n < 16) (h : Accepts s (onObject q (K.laneEnable n)) l) :
    putFlow (s.access (onObject q (K.laneEnable n))) (putAt s q (K.laneEnable n) l) = xLaneEnable n (ofLE q.body) (laneStored s q n) := by
  have hdiv : K.laneEnable n / 256 = 0x5000 + 64 * n := key_div (by decide)
  have hmod : K.laneEnable n % 256 = 1 := key_mod (by decide)
  obtain ⟨hform, hattr, hunit, -⟩ := accepted_row h (by omega) (place_laneEnable n hn)
  rw [putFlow_laneEnable hform (by rw [putAt_index, hdiv]; omega) hmod, putValue_stored _ hattr, putAt_key, putAt_v, putAt_l, hunit, laneStored]

theorem laneAsked_asked (h : Accepts s (onObject q (K.laneEnable n)) l) :
    (laneAsked n (ofLE q.body) (laneStored s q n)).obj (K.laneEnable n) = ofLE q.body ∧
    (laneAsked n (ofLE q.body) (laneStored s q n)).obj (K.laneStatus n) = enWrite (s.obj (K.laneStatus n)) (ofLE q.body) := by
  have hne : K.laneEnable n ≠ K.laneStatus n := key_ne (by decide) (by decide) (.inr (by decide))
  exact ⟨(obj_set_ne _ _ hne).trans (obj_poke_self ..), (obj_set_self ..).trans (by rw [laneStored_status h])⟩

theorem laneEnable_family (hn : n < 16) :
    s.written (onObject q (K.laneEnable n)) l = putBy putFlow s q (K.laneEnable n) l := by
  obtain ⟨hlo, hhi⟩ := laneKey_flow hn (i := 0) (b := 1) (by decide) (by decide)
  exact written_flow hlo hhi

/-- A lane without a role: the write is stored. -/
theorem laneEnable_writes_roleless (hn : n < 16) (hsafe : s.safeAsk = 0) (h : Accepts s (onObject q (K.laneEnable n)) l)
    (hrole : s.roleOfLane n = 0) :
    Writes (.laneEnable q n) s (onObject q (K.laneEnable n)) l [(K.laneEnable n, ofLE q.body)] (fun _ => True) := by
  have hidle : xLaneEnable n (ofLE q.body) (laneStored s q n) = laneStored s q n := by
    rw [laneEnable_cases, if_pos ((laneStored_role h).trans hrole)]
  exact writes_of_put (asks_of_writesOf (exec_laneEnable q n s) (by simpa using hn)) hsafe h (laneEnable_family hn)
    ((laneEnable_put hn h).trans hidle) (leaves_poke _ _ (List.mem_cons_self ..)) (holds_cons (obj_poke_self ..) (holds_nil _)) trivial

/-- A lane with a role: whatever its streams and the formation do, its status moves by the enable rule. -/
theorem laneEnable_completes (hn : n < 16) (hsafe : s.safeAsk = 0) (h : Accepts s (onObject q (K.laneEnable n)) l)
    (hrole : s.roleOfLane n ≠ 0) :
    Completes (.laneEnable q n) s
      (fun u => Responds (s.written (onObject q (K.laneEnable n)) l) u (onObject q (K.laneEnable n))
          (okMessage u (onObject q (K.laneEnable n)) .write [] l.row.ty.code 0) ∧ u.obj (K.laneEnable n) = ofLE q.body ∧
        enState (u.obj (K.laneStatus n)) = enState (enWrite (s.obj (K.laneStatus n)) (ofLE q.body))) (fun _ => True) := by
  have hkept := keepsLane_laneEnable hn (ofLE q.body) (laneStored s q n) (by rwa [laneStored_role h])
  have hleaves : Leaves [K.laneEnable n, K.laneStatus n] (laneAsked n (ofLE q.body) (laneStored s q n))
      (s.access (onObject q (K.laneEnable n))) :=
    ((leaves_laneAsked ..).mono fun _ hk => List.mem_cons_of_mem _ hk).trans ((leaves_laneStored s q n).mono fun _ hk => by simp_all)
  obtain ⟨henable, hstatus⟩ := laneAsked_asked h
  have hwritten : s.written (onObject q (K.laneEnable n)) l = (xLaneEnable n (ofLE q.body) (laneStored s q n)).record (K.laneEnable n)
      ((s.access (onObject q (K.laneEnable n))).classOf q.port) q.port := by rw [laneEnable_family hn, putBy, laneEnable_put hn h]
  refine completes_put (asks_of_writesOf (exec_laneEnable q n s) (by simpa using hn)) h (laneEnable_family hn) (laneEnable_put hn h)
    (hkept.variant.trans (hleaves.variant.trans (access_variant ..)))
    (hkept.safeAsk.trans (hleaves.safeAsk.trans ((access_safeAsk ..).trans hsafe))) ⟨responds_answered .., ?_, ?_⟩
    fun _ _ => trivial
  · rw [answered_obj, hwritten, obj_record, hkept.enable, henable]
  · rw [answered_obj, hwritten, obj_record, ← hstatus]
    have hlow := congrArg (· % 4) hkept.status
    simp only [Nat.mod_mod_of_dvd _ (show 4 ∣ 32 by decide)] at hlow
    exact hlow

/-- A disable of a lane in Ethernet role that exports nothing and has no replay only moves the status. -/
theorem laneEnable_plain (h : Accepts s (onObject q (K.laneEnable n)) l) (hrole : s.roleOfLane n ≠ 0)
    (hplain : s.laneOn n = false ∨ ofLE q.body = 1 ∨ (s.ethernet n = true ∧ s.exporting n = [] ∧ s.replays = [])) :
    xLaneEnable n (ofLE q.body) (laneStored s q n) = laneAsked n (ofLE q.body) (laneStored s q n) := by
  have hon : (laneStored s q n).laneOn n = s.laneOn n := congrArg isOn (laneStored_status h)
  rw [laneEnable_cases, if_neg (by rwa [laneStored_role h]), hon]
  by_cases hoff : (!s.laneOn n || decide (ofLE q.body = 1)) = true
  · rw [if_pos hoff]
  · rw [if_neg hoff]
    simp only [Bool.or_eq_true, Bool.not_eq_true', decide_eq_true_eq, not_or] at hoff
    obtain ⟨hether, hnone, hreplays⟩ := (hplain.resolve_left hoff.1).resolve_left hoff.2
    have hne {i b : Nat} (hb : b < 256) (h2 : b ≠ 2) : key i b ≠ K.laneStatus n := key_ne hb (by decide) (.inr h2)
    have hne' {i b : Nat} (hb : b < 256) (h1 : b ≠ 1) : key i b ≠ K.laneEnable n := key_ne hb (by decide) (.inr h1)
    have hrole' : (laneAsked n (ofLE q.body) (laneStored s q n)).ethernet n = true := by
      have hrole : (laneAsked n (ofLE q.body) (laneStored s q n)).roleOfLane n = s.roleOfLane n :=
        (obj_set_ne _ _ (hne (by decide) (by decide))).trans (laneStored_role h)
      rw [State.ethernet, hrole, ← State.ethernet, hether]
    have hexports : (laneAsked n (ofLE q.body) (laneStored s q n)).exporting n = [] := by
      refine (exporting_congr ((leaves_laneAsked ..).ctxs.trans ((leaves_laneStored s q n).ctxs.trans (access_ctxs ..)))
        ((leaves_laneAsked ..).inForce.trans ((leaves_laneStored s q n).inForce.trans (access_inForce ..))) (fun c => ?_) fun c => ?_).trans hnone
      · exact (obj_set_ne _ _ (hne (by decide) (by decide))).trans
          (laneStored_obj h (hne' (by decide) (by decide)) (access_key_false (by decide) (by omega)))
      · exact (obj_set_ne _ _ (hne (by decide) (by decide))).trans
          (laneStored_obj h (hne' (by decide) (by decide)) (access_key_false (by decide) (by omega)))
    have hmoved : streamsMoved n (laneAsked n (ofLE q.body) (laneStored s q n)) = laneAsked n (ofLE q.body) (laneStored s q n) := by
      rw [streamsMoved, moveStreams_none hexports, List.foldl_nil]
    have hempty : (laneAsked n (ofLE q.body) (laneStored s q n)).replays = [] := (set_replays ..).trans ((laneStored_replays s q n).trans hreplays)
    rw [if_pos hrole', hmoved, State.cutReplays, hempty, List.filter_nil, List.foldl_nil]

theorem laneEnable_writes (hn : n < 16) (hsafe : s.safeAsk = 0) (h : Accepts s (onObject q (K.laneEnable n)) l)
    (hrole : s.roleOfLane n ≠ 0)
    (hplain : s.laneOn n = false ∨ ofLE q.body = 1 ∨ (s.ethernet n = true ∧ s.exporting n = [] ∧ s.replays = [])) :
    Writes (.laneEnable q n) s (onObject q (K.laneEnable n)) l
      [(K.laneEnable n, ofLE q.body), (K.laneStatus n, enWrite (s.obj (K.laneStatus n)) (ofLE q.body))] (fun _ => True) := by
  obtain ⟨henable, hstatus⟩ := laneAsked_asked h
  exact writes_of_put (asks_of_writesOf (exec_laneEnable q n s) (by simpa using hn)) hsafe h (laneEnable_family hn)
    ((laneEnable_put hn h).trans (laneEnable_plain h hrole hplain))
    (((leaves_laneAsked ..).mono fun _ hk => List.mem_cons_of_mem _ hk).trans ((leaves_laneStored s q n).mono fun _ hk => by simp_all))
    (holds_cons henable (holds_cons hstatus (holds_nil _))) trivial

/-! ## The clears -/

theorem laneClear_writes (hn : n < 16) (hsafe : s.safeAsk = 0) (h : Accepts s (onObject q (K.laneClear n)) l) :
    Writes (.laneClear q n) s (onObject q (K.laneClear n)) l
      ([K.laneTxFrames n, K.laneTxBytes n, K.laneRxFrames n, K.laneRxBytes n, K.laneRxFcs n, K.laneRxDropped n, K.lanePauseRx n,
        K.lanePausedUs n, K.laneFecCorrected n, K.laneFecUncorrected n, K.lanePoisoned n, K.laneCutLines n, K.laneLinkDowns n].map
        (fun k => (k, 0))) (fun _ => True) := by
  have hdiv : K.laneClear n / 256 = 0x5004 + 64 * n := key_div (by decide)
  have hmod : K.laneClear n % 256 = 15 := key_mod (by decide)
  obtain ⟨hform, hattr, hunit, -⟩ := accepted_row h (by omega) (place_laneClear n hn)
  obtain ⟨hlo, hhi⟩ := laneKey_flow hn (i := 4) (b := 15) (by decide) (by decide)
  have hput : putFlow (s.access (onObject q (K.laneClear n))) (putAt s q (K.laneClear n) l) =
      xLaneClear n (s.access (onObject q (K.laneClear n))) := by
    rw [putFlow_laneClear hform (by rw [putAt_index, hdiv]; omega) hmod, putValue_action _ hattr, putAt_l, hunit]
  exact writes_of_put (asks_of_writesOf (exec_laneClear q n s) (by simpa using hn)) hsafe h (written_flow hlo hhi) hput
    (leaves_zeroed _ _) (holds_zeroed _ _) trivial

theorem mgmtClear_writes (hsafe : s.safeAsk = 0) (h : Accepts s (onObject q K.portsMgmtClear) l) :
    Writes (.mgmtClear q) s (onObject q K.portsMgmtClear) l
      ([K.portsMgmtTxFrames, K.portsMgmtRxFrames, K.portsMgmtRxFcs, K.portsMgmtRxDropped, K.portsMgmtLinkDowns].map (fun k => (k, 0)))
      (fun _ => True) := by
  obtain ⟨-, hattr, -, -⟩ := accepted_row h (by decide) place_portsMgmtClear
  have hput : putDevice (s.access (onObject q K.portsMgmtClear)) (putAt s q K.portsMgmtClear l) =
      xMgmtClear (s.access (onObject q K.portsMgmtClear)) := by
    have hkey : (putAt s q K.portsMgmtClear l).key_ = K.portsMgmtClear := putAt_key ..
    have hvalue : (s.access (onObject q K.portsMgmtClear)).putValue (putAt s q K.portsMgmtClear l) =
      s.access (onObject q K.portsMgmtClear) := putValue_action _ hattr
    simp only [putDevice, hkey, hvalue]
    rfl
  exact writes_of_put (exec_mgmtClear q s) hsafe h (written_device (by decide)) hput (leaves_zeroed _ _) (holds_zeroed _ _) trivial

end

/-- Settles O52: the enable by the lane's role and by what it exports, and the two clears. -/
theorem laneObjectsAreWritten : Obligations.LaneObjectsAreWritten := by
  unfold Obligations.LaneObjectsAreWritten
  exact fun s q l n hsafe => ⟨fun hn h => ⟨laneEnable_writes_roleless hn hsafe h, laneEnable_completes hn hsafe h,
    laneEnable_writes hn hsafe h⟩, fun hn h => laneClear_writes hn hsafe h, mgmtClear_writes hsafe⟩

end Sys2Proof.Proofs
end

section
/-! # The links of the lanes (R374, R378, R384 to R386) -/

set_option Elab.async false

namespace Sys2Proof.Proofs

open Sys2Proof Sys2Proof.Machine Sys2Proof.Laws

section
variable {s u : State} {t n v : Nat} {ks : List Nat}

/-! ## The hold that a lane shows -/

theorem settled_laneStatus (hn : n < 16) : settledKey (K.laneStatus n) = true := (settledKey_key_iff (by decide)).2 (by omega)

theorem settled_laneHoldCause (hn : n < 16) : settledKey (K.laneHoldCause n) = true := (settledKey_key_iff (by decide)).2 (by omega)

theorem leaves_set_settled (s : State) {k : Nat} (x : Nat) (h : settledKey k = true) : Leaves ks (s.set k x) s :=
  ⟨set_variant .., set_safeAsk .., set_mem .., set_ctxs .., set_inForce .., fun _ _ hs => obj_set_ne s x fun e => by simp [e, h] at hs⟩

theorem leaves_modLane (s : State) (m : Nat) (f : Lane → Lane) : Leaves ks (s.modLane m f) s := leaves_of_dict rfl rfl rfl rfl rfl rfl

/-- A hold shows in the lane's status and hold cause alone. -/
theorem leaves_showHold (hn : n < 16) (s : State) : Leaves ks (s.showHold n) s := by
  unfold State.showHold
  extract_lets c shown bit flagged
  have hshown : Leaves ks shown s := leaves_ite (fun _ => Leaves.refl ..) fun _ => leaves_set_settled _ _ (settled_laneHoldCause hn)
  exact leaves_ite (fun _ => hshown) fun _ => (leaves_modLane ..).trans ((leaves_set_settled _ _ (settled_laneStatus hn)).trans hshown)

theorem obj_showHold (s : State) {k : Nat} (hstatus : k ≠ K.laneStatus n) (hcause : k ≠ K.laneHoldCause n) :
    (s.showHold n).obj k = s.obj k := by
  unfold State.showHold
  extract_lets c shown bit flagged
  have hshown : shown.obj k = s.obj k := by
    unfold shown
    split
    · rfl
    · exact obj_set_ne _ _ hcause
  split
  · exact hshown
  · exact (obj_set_ne _ _ hstatus).trans hshown

theorem lane_modLane (s : State) (f : Lane → Lane) : (s.modLane n f).lane n = f (s.lane n) := by
  simp only [State.modLane, State.setLane, State.lane, get_put_self]

theorem paused_showHold (s : State) : ((s.showHold n).lane n).paused = (s.lane n).paused := by
  unfold State.showHold
  extract_lets c shown bit flagged
  have hlanes : shown.lane n = s.lane n := by
    unfold shown
    split
    · rfl
    · simp only [State.lane, set_lanes]
  split
  · rw [hlanes]
  · have hflagged : flagged.lane n = shown.lane n := rfl
    rw [lane_modLane, hflagged, hlanes]

/-! ## A change of a link -/

theorem foldl_idle {α : Type} {f : State → α → State} {xs : List α} (h : ∀ x ∈ xs, f s x = s) : xs.foldl f s = s := by
  induction xs with
  | nil => rfl
  | cons x xs ih =>
    rw [List.foldl_cons, h x (List.mem_cons_self ..)]
    exact ih fun y hy => h y (List.mem_cons_of_mem _ hy)

theorem restartLines_idle (h : ∀ c ∈ s.exporting n, (s.live_ c).off = 0) : s.restartLines n = s :=
  foldl_idle fun c hc => if_pos (h c hc)

theorem keepsLane_restartLines (hn : n < 16) (s : State) (m : Nat) : KeepsLane n (s.restartLines m) s := by
  refine keepsLane_foldl _ (fun st c => keepsLane_ite (.refl n st) ?_) _ _
  exact (keepsLane_integrity hn _).trans ((keepsLane_count _ _ _ (not_laneKey_of_mod (by decide) (by omega))).trans (keepsLane_setLive ..))

theorem keepsLane_toNewest (s : State) (m : Nat) : KeepsLane n (s.toNewest m) s := by
  refine keepsLane_foldl _ (fun st c => ?_) _ _
  extract_lets r
  split
  · exact keepsLane_ite ((keepsLane_count _ _ _ (not_laneKey (by decide) (by decide))).trans (keepsLane_of_dict rfl rfl rfl rfl)) (.refl n st)
  · exact .refl n st

/-- The link of a lane and the bit LINK of its status. -/
def linkMarked (n v : Nat) (s : State) : State :=
  (s.set (K.laneLink n) v).set (K.laneStatus n) (withBit ((s.set (K.laneLink n) v).obj (K.laneStatus n)) 4 (v == 3))

/-- A link that was up has gone. -/
def linkFallen (n : Nat) (s : State) : State := (s.count (K.laneLinkDowns n) 32 1).restartLines n

/-- The link of a lane in Ethernet role has come up. -/
def linkRisen (n : Nat) (s : State) : State :=
  let t := if s.obj (K.laneResume n) = 1 then s.toNewest n else s
  if t.obj (K.laneDstState n) = 1 || t.obj (K.laneDstState n) = 2 then t.solicit n else t

/-- What a change of a link does before its source is raised. -/
def linkTaken (n v : Nat) (s : State) : State :=
  let t := if s.obj (K.laneLink n) = 3 then linkFallen n (linkMarked n v s) else linkMarked n v s
  if v = 3 && t.ethernet n then linkRisen n t else t

theorem setLink_eq (s : State) (n v : Nat) :
    s.setLink n v = if s.obj (K.laneLink n) = v then s else ((linkTaken n v s).raise (sLink n) v).showHold n := rfl

theorem keepsLane_linkRisen (s : State) (m : Nat) : KeepsLane n (linkRisen m s) s := by
  unfold linkRisen
  extract_lets t
  have ht : KeepsLane n t s := keepsLane_ite (keepsLane_toNewest ..) (.refl n s)
  exact keepsLane_ite ((keepsLane_of_dict rfl rfl rfl rfl : KeepsLane n (t.solicit m) t).trans ht) ht

theorem keepsLane_linkTaken (hn : n < 16) (v : Nat) (s : State) : KeepsLane n (linkTaken n v s) (linkMarked n v s) := by
  unfold linkTaken
  extract_lets t
  have ht : KeepsLane n t (linkMarked n v s) := keepsLane_ite
    ((keepsLane_restartLines hn _ _).trans (keepsLane_count _ _ _ (not_laneKey_of_mod (by decide) (by omega)))) (.refl n _)
  exact keepsLane_ite ((keepsLane_linkRisen ..).trans ht) ht

theorem keepsLane_linkChanged (hn : n < 16) (v : Nat) (s : State) :
    KeepsLane n (((linkTaken n v s).raise (sLink n) v).showHold n) (linkMarked n v s) :=
  (keepsLane_showHold _).trans ((keepsLane_raise hn _ _ _).trans (keepsLane_linkTaken hn v s))

theorem linkMarked_link (n v : Nat) (s : State) : (linkMarked n v s).obj (K.laneLink n) = v :=
  (obj_set_ne _ _ (key_ne (by decide) (by decide) (.inr (by decide)))).trans (obj_set_self ..)

theorem linkMarked_up (n v : Nat) (s : State) : ((linkMarked n v s).obj (K.laneStatus n)).testBit 4 = (v == 3) := by
  rw [linkMarked, obj_set_self, testBit_withBit_self]

theorem KeepsLane.up (h : KeepsLane n u s) : (u.obj (K.laneStatus n)).testBit 4 = (s.obj (K.laneStatus n)).testBit 4 := by
  have hlow := congrArg (fun x => x.testBit 4) h.status
  simpa only [show 32 = 2 ^ 5 from rfl, Nat.testBit_mod_two_pow, show decide (4 < 5) = true from rfl, Bool.true_and] using hlow

/-- After a change of a link the lane shows it. -/
theorem setLink_link (hn : n < 16) (v : Nat) (s : State) : (s.setLink n v).obj (K.laneLink n) = v := by
  rw [setLink_eq]
  split
  next heq => exact heq
  next => exact (keepsLane_linkChanged hn v s).link.trans (linkMarked_link ..)

theorem setLink_up (hn : n < 16) (h : s.obj (K.laneLink n) ≠ v) : ((s.setLink n v).obj (K.laneStatus n)).testBit 4 = (v == 3) := by
  rw [setLink_eq, if_neg h, (keepsLane_linkChanged hn v s).up, linkMarked_up]

theorem setLink_faults (hn : n < 16) (v : Nat) (s : State) : ((s.setLink n v).lane n).faults = (s.lane n).faults := by
  rw [setLink_eq]
  split
  · rfl
  · exact (keepsLane_linkChanged hn v s).faults

/-! ## A change of a link that moves no line -/

theorem leaves_linkMarked (hn : n < 16) (h : K.laneLink n ∈ ks) : Leaves ks (linkMarked n v s) s :=
  (leaves_set_settled _ _ (settled_laneStatus hn)).trans (leaves_set _ _ h)

theorem linkMarked_obj {i b : Nat} (hb : b < 256) (h : b ≠ 2 ∧ b ≠ 4) : (linkMarked n v s).obj (key i b) = s.obj (key i b) :=
  (obj_set_ne _ _ (key_ne hb (by decide) (.inr h.1))).trans (obj_set_ne _ _ (key_ne hb (by decide) (.inr h.2)))

theorem exporting_linkMarked (k w x : Nat) (h : k % 256 ≠ 6 ∧ k % 256 ≠ 16) :
    ((linkMarked n v s).count k w x).exporting n = s.exporting n := by
  have hsub {i b : Nat} (hb : b < 256) (h : k % 256 ≠ b) : key i b ≠ k := fun he => h (he ▸ key_mod hb)
  exact exporting_congr (count_ctxs ..) (count_inForce ..)
    (fun c => (obj_count_ne _ _ _ (hsub (by decide) h.1)).trans (linkMarked_obj (by decide) (by decide)))
    fun c => (obj_count_ne _ _ _ (hsub (by decide) h.2)).trans (linkMarked_obj (by decide) (by decide))

/-- Lines in progress are none: a fall of the link is only counted. -/
theorem linkFallen_counts (h : ∀ c ∈ s.exporting n, (s.live_ c).off = 0) :
    linkFallen n (linkMarked n v s) = (linkMarked n v s).count (K.laneLinkDowns n) 32 1 := by
  have hmod : K.laneLinkDowns n % 256 = 14 := key_mod (by decide)
  refine restartLines_idle fun c hc => ?_
  rw [exporting_linkMarked _ _ _ (by omega)] at hc
  rw [State.live_, count_exports, linkMarked, set_exports, set_exports, ← State.live_]
  exact h c hc

/-- The destination is asked for as the link comes up. -/
theorem leaves_linkRisen (h : s.obj (K.laneResume n) ≠ 1) : Leaves ks (linkRisen n s) s := by
  rw [linkRisen, if_neg h]
  exact leaves_ite (fun _ => leaves_emit ..) fun _ => Leaves.refl ..

theorem linkRisen_obj (h : s.obj (K.laneResume n) ≠ 1) (k : Nat) : (linkRisen n s).obj k = s.obj k := by
  rw [linkRisen, if_neg h]
  split <;> rfl

theorem linkRisen_time (h : s.obj (K.laneResume n) ≠ 1) : (linkRisen n s).time = s.time := by
  rw [linkRisen, if_neg h]
  split <;> rfl

theorem linkMarked_time (n v : Nat) (s : State) : (linkMarked n v s).time = s.time := by rw [linkMarked, set_time, set_time]

/-- The link of a lane that was up goes. -/
theorem linkTaken_down (hv : v ≠ 3) (hlink : s.obj (K.laneLink n) = 3) (h : ∀ c ∈ s.exporting n, (s.live_ c).off = 0) :
    linkTaken n v s = (linkMarked n v s).count (K.laneLinkDowns n) 32 1 := by
  have hdown : (decide (v = 3) && ((linkMarked n v s).count (K.laneLinkDowns n) 32 1).ethernet n) = false := by simp [hv]
  rw [linkTaken, if_pos hlink, linkFallen_counts h, hdown]
  exact if_neg Bool.false_ne_true

/-- The link of a lane in Ethernet role comes up. -/
theorem linkTaken_up (hrole : s.ethernet n = true) (hlink : s.obj (K.laneLink n) ≠ 3) :
    linkTaken n 3 s = linkRisen n (linkMarked n 3 s) := by
  have hrole' : (linkMarked n 3 s).ethernet n = true := by
    have hrole : (linkMarked n 3 s).roleOfLane n = s.roleOfLane n := linkMarked_obj (by decide) (by decide)
    rw [State.ethernet, hrole]
    assumption
  rw [linkTaken, if_neg hlink, hrole']
  exact if_pos rfl

/-- The sources of a lane that the variant has. -/
theorem hasSource_lane {i : Nat} (hi : i < 4) (hn : n < laneCount s.variant) : s.hasSource (512 + i + 4 * n) = true := by
  have h16 := laneCount_le s.variant
  have hlt : 512 + i + 4 * n < 768 := by omega
  have h1 : ¬ 512 + i + 4 * n < 256 := by omega
  have h2 : ¬ 512 + i + 4 * n < 512 := by omega
  have h3 : ¬ 672 ≤ 512 + i + 4 * n := by omega
  simp only [State.hasSource, eventPresent, hlt, h1, h2, h3, decide_true, decide_false, Bool.and_false, Bool.false_and, Bool.or_false,
    Bool.true_and, Bool.or_eq_true, Bool.not_eq_true', Bool.and_eq_false_iff, decide_eq_false_iff_not, Bool.false_or]
  by_cases hv : s.variant = .sv4x128
  · rw [hv] at hn
    exact .inr (.inl (by rw [show laneCount .sv4x128 = 8 from rfl] at hn; omega))
  · exact .inl (bne_iff_ne.2 hv)

theorem eventCount_ne_lane (hn : n < 16) {i b j : Nat} (hi : i < 64) (hb : b < 256) : K.eventCount j ≠ key (0x5000 + i + 64 * n) b :=
  key_ne (by decide) hb (.inl (by omega))

theorem laneKey_lt (hn : n < 16) {i b : Nat} (hi : i < 64) (hb : b < 256) : key (0x5000 + i + 64 * n) b < 0x700000 := by
  simp only [key]
  omega

/-- What a change of a link shows beside its source. -/
theorem setLink_holds {vs : List (Nat × Nat)} (hn : n < laneCount s.variant) (hne : s.obj (K.laneLink n) ≠ v)
    (hvariant : (linkTaken n v s).variant = s.variant) (htime : (linkTaken n v s).time = s.time)
    (hcount : (linkTaken n v s).obj (K.eventCount (512 + 4 * n)) = s.obj (K.eventCount (512 + 4 * n))) (hvs : Holds (linkTaken n v s) vs)
    (hlow : ∀ k ∈ vs.map (·.1), k < 0x700000 ∧ k ≠ K.laneStatus n ∧ k ≠ K.laneHoldCause n) :
    Holds (s.setLink n v) (vs ++ raisedBy s (512 + 4 * n) v) := by
  have h16 := laneCount_le s.variant
  have hevent {i b : Nat} (hi : 0x7000 ≤ i) (hb : b < 256) (u : State) : (u.showHold n).obj (key i b) = u.obj (key i b) :=
    obj_showHold u (key_ne hb (by decide) (.inl (by omega))) (key_ne hb (by decide) (.inl (by omega)))
  have hsource : (linkTaken n v s).hasSource (512 + 0 + 4 * n) = true := hasSource_lane (by decide) (by rwa [hvariant])
  rw [setLink_eq, if_neg hne]
  refine holds_append (holds_keep hvs fun k hk => ?_) (holds_keep (holds_raise v hsource hcount htime) fun k hk => ?_)
  · obtain ⟨hlt, hstatus, hcause⟩ := hlow k hk
    exact (obj_showHold _ hstatus hcause).trans (obj_raise_of_lt _ _ _ hlt)
  · rw [map_fst_raisedBy] at hk
    simp only [evKeys, List.mem_cons, List.not_mem_nil, or_false] at hk
    obtain rfl | rfl | rfl | rfl := hk <;> exact hevent (by omega) (by decide) _

theorem leaves_setLink (hn : n < 16) (hl : Leaves ks (linkTaken n v s) s) (hev : ∀ k ∈ evKeys (512 + 4 * n), k ∈ ks) :
    Leaves ks (s.setLink n v) s := by
  rw [setLink_eq]
  exact leaves_ite (fun _ => Leaves.refl ..) fun _ => (leaves_showHold hn _).trans ((leaves_raise _ _ _ hev).trans hl)

/-- A link that comes up in Ethernet role: it is shown and raised. -/
theorem setLink_rises (hn : n < laneCount s.variant) (hrole : s.ethernet n = true) (hlink : s.obj (K.laneLink n) ≠ 3)
    (hresume : s.obj (K.laneResume n) ≠ 1) :
    Leaves (K.laneLink n :: evKeys (512 + 4 * n)) (s.setLink n 3) s ∧
      Holds (s.setLink n 3) ((K.laneLink n, 3) :: raisedBy s (512 + 4 * n) 3) := by
  have h16 := laneCount_le s.variant
  have htaken := linkTaken_up hrole hlink
  have hresume' : (linkMarked n 3 s).obj (K.laneResume n) ≠ 1 := by
    have hkept : (linkMarked n 3 s).obj (K.laneResume n) = s.obj (K.laneResume n) := linkMarked_obj (by decide) (by decide)
    rwa [hkept]
  have hobj (k : Nat) : (linkTaken n 3 s).obj k = (linkMarked n 3 s).obj k := by rw [htaken, linkRisen_obj hresume']
  have hleaves : Leaves (K.laneLink n :: evKeys (512 + 4 * n)) (linkTaken n 3 s) s := by
    rw [htaken]
    exact (leaves_linkRisen hresume').trans (leaves_linkMarked (by omega) (List.mem_cons_self ..))
  have htime : (linkTaken n 3 s).time = s.time := by rw [htaken, linkRisen_time hresume', linkMarked_time]
  refine ⟨leaves_setLink (by omega) hleaves fun k hk => List.mem_cons_of_mem _ hk,
    setLink_holds (vs := [(K.laneLink n, 3)]) hn hlink hleaves.variant htime ?_
      (holds_cons ((hobj _).trans (linkMarked_link ..)) (holds_nil _)) fun k hk => ?_⟩
  · rw [hobj]
    exact (obj_set_ne _ _ (eventCount_ne_lane (i := 0) (by omega) (by decide) (by decide))).trans
      (obj_set_ne _ _ (eventCount_ne_lane (i := 0) (by omega) (by decide) (by decide)))
  · simp only [List.map_cons, List.map_nil, List.mem_singleton] at hk
    exact hk ▸ ⟨laneKey_lt (i := 0) (by omega) (by decide) (by decide), key_ne (by decide) (by decide) (.inr (by decide)),
      key_ne (by decide) (by decide) (.inr (by decide))⟩

/-- A link that goes while no line is in progress: it is shown, counted and raised. -/
theorem setLink_falls (hn : n < laneCount s.variant) (hv : v ≠ 3) (hlink : s.obj (K.laneLink n) = 3)
    (hidle : ∀ c ∈ s.exporting n, (s.live_ c).off = 0) :
    Leaves (K.laneLink n :: K.laneLinkDowns n :: evKeys (512 + 4 * n)) (s.setLink n v) s ∧
      Holds (s.setLink n v) ((K.laneLink n, v) :: (K.laneLinkDowns n, satAdd 32 (s.obj (K.laneLinkDowns n)) 1) :: raisedBy s (512 + 4 * n) v) := by
  have h16 := laneCount_le s.variant
  have htaken := linkTaken_down hv hlink hidle
  have htaken' : Leaves (K.laneLink n :: K.laneLinkDowns n :: evKeys (512 + 4 * n)) (linkTaken n v s) s := by
    rw [htaken]
    exact (leaves_count _ _ _ (List.mem_cons_of_mem _ (List.mem_cons_self ..))).trans (leaves_linkMarked (by omega) (List.mem_cons_self ..))
  have htime : (linkTaken n v s).time = s.time := by rw [htaken, count_time, linkMarked_time]
  refine ⟨leaves_setLink (by omega) htaken' fun k hk => List.mem_cons_of_mem _ (List.mem_cons_of_mem _ hk),
    setLink_holds (vs := [(K.laneLink n, v), (K.laneLinkDowns n, satAdd 32 (s.obj (K.laneLinkDowns n)) 1)]) hn (by rw [hlink]; exact hv.symm)
      htaken'.variant htime ?_ (holds_cons ?_ (holds_cons ?_ (holds_nil _))) fun k hk => ?_⟩
  · rw [htaken]
    exact (obj_count_ne _ _ _ (eventCount_ne_lane (i := 4) (by omega) (by decide) (by decide))).trans
      ((obj_set_ne _ _ (eventCount_ne_lane (i := 0) (by omega) (by decide) (by decide))).trans
        (obj_set_ne _ _ (eventCount_ne_lane (i := 0) (by omega) (by decide) (by decide))))
  · rw [htaken]
    exact (obj_count_ne _ _ _ (key_ne (by decide) (by decide) (.inr (by decide)))).trans (linkMarked_link ..)
  · rw [htaken]
    exact (obj_count_self ..).trans (by rw [K.laneLinkDowns, linkMarked_obj (by decide) (by decide)])
  · simp only [List.map_cons, List.map_nil, List.mem_cons, List.not_mem_nil, or_false] at hk
    obtain rfl | rfl := hk
    · exact ⟨laneKey_lt (i := 0) (by omega) (by decide) (by decide), key_ne (by decide) (by decide) (.inr (by decide)),
        key_ne (by decide) (by decide) (.inr (by decide))⟩
    · exact ⟨laneKey_lt (i := 4) (by omega) (by decide) (by decide), key_ne (by decide) (by decide) (.inr (by decide)),
        key_ne (by decide) (by decide) (.inr (by decide))⟩

end

end Sys2Proof.Proofs
end

section
/-! # Links, pauses and errors of the lanes and of the management port (R374, R378, R384 to R386) -/

set_option Elab.async false

namespace Sys2Proof.Proofs

open Sys2Proof Sys2Proof.Machine Sys2Proof.Laws

section
variable {s u : State} {t n v : Nat} {ks : List Nat}

/-! ## Commands of a link -/

/-- Whether remote faults arrive on a lane. -/
def withFaults (n : Nat) (on : Bool) (s : State) : State := s.modLane n fun x => { x with faults := on }

@[simp] theorem obj_withFaults (n : Nat) (on : Bool) (s : State) (k : Nat) : (withFaults n on s).obj k = s.obj k := rfl

theorem leaves_withFaults (on : Bool) : Leaves ks (withFaults n on s) s := leaves_modLane ..

theorem faults_withFaults (n : Nat) (on : Bool) (s : State) : ((withFaults n on s).lane n).faults = on := by
  rw [withFaults, lane_modLane]

theorem exports_withFaults (on : Bool) (h : ∀ c ∈ s.exporting n, (s.live_ c).off = 0) :
    ∀ c ∈ (withFaults n on s).exporting n, ((withFaults n on s).live_ c).off = 0 := h

theorem setLink_role (hn : n < 16) (v : Nat) (s : State) : (s.setLink n v).roleOfLane n = s.roleOfLane n := by
  rw [setLink_eq]
  split
  · rfl
  · exact (keepsLane_linkChanged hn v s).role.trans (linkMarked_obj (by decide) (by decide))

theorem linkUp_eq (hon : s.laneOn n = true) (hrole : s.roleOfLane n ≠ 0) (hlink : s.obj (K.laneLink n) ≠ 3) :
    xLinkUp n s = if (s.setLink n (if (s.lane n).faults then 4 else 3)).roleOfLane n ≥ 2 then
        (s.setLink n (if (s.lane n).faults then 4 else 3)).rallyLaneUp n
      else s.setLink n (if (s.lane n).faults then 4 else 3) := by
  have hdown : (!s.laneOn n || decide (s.roleOfLane n = 0) || s.linkUp n) = false := by simp [hon, hrole, State.linkUp, hlink]
  rw [xLinkUp, hdown, if_neg Bool.false_ne_true]

theorem linkUp_ethernet (hn : n < 16) (hon : s.laneOn n = true) (hrole : s.ethernet n = true) (hlink : s.obj (K.laneLink n) ≠ 3)
    (hfaults : (s.lane n).faults = false) : xLinkUp n s = s.setLink n 3 := by
  have hone : s.roleOfLane n = 1 := eq_of_beq hrole
  rw [linkUp_eq hon (by omega) hlink, hfaults, if_neg Bool.false_ne_true, setLink_role hn, hone, if_neg (by omega)]

theorem linkUp_link (hn : n < 16) (hon : s.laneOn n = true) (hrole : s.roleOfLane n ≠ 0) (hlink : s.obj (K.laneLink n) ≠ 3) :
    (xLinkUp n s).obj (K.laneLink n) = if (s.lane n).faults then 4 else 3 := by
  rw [linkUp_eq hon hrole hlink]
  generalize (if (s.lane n).faults then 4 else 3) = v
  split
  · exact (keepsLane_rallyLaneUp hn hn _).link.trans (setLink_link hn ..)
  · exact setLink_link hn ..

theorem linkDown_eq (hlink : s.obj (K.laneLink n) ≠ 0) : xLinkDown n s = xRallyLaneLost n ((withFaults n false s).setLink n 0) :=
  if_neg hlink

theorem linkDown_ethernet (hn : n < 16) (hrole : s.ethernet n = true) (hlink : s.obj (K.laneLink n) ≠ 0) :
    xLinkDown n s = (withFaults n false s).setLink n 0 := by
  have hone : s.roleOfLane n = 1 := eq_of_beq hrole
  have hkept : ((withFaults n false s).setLink n 0).roleOfLane n = 1 := (setLink_role hn ..).trans hone
  rw [linkDown_eq hlink, xRallyLaneLost, hkept]
  exact if_pos rfl

theorem linkDown_shows (hn : n < 16) (hlink : s.obj (K.laneLink n) ≠ 0) :
    (xLinkDown n s).obj (K.laneLink n) = 0 ∧ ((xLinkDown n s).lane n).faults = false ∧
      ((xLinkDown n s).obj (K.laneStatus n)).testBit 4 = false := by
  have hkept := keepsLane_rallyLaneLost hn hn ((withFaults n false s).setLink n 0)
  rw [linkDown_eq hlink]
  exact ⟨hkept.link.trans (setLink_link hn ..), hkept.faults.trans ((setLink_faults hn ..).trans (faults_withFaults ..)),
    hkept.up.trans (setLink_up hn hlink)⟩

theorem faultSets_on (hon : s.laneOn n = true) (hrole : s.ethernet n = true) (hlink : s.obj (K.laneLink n) ≠ 0) :
    xFaultSets n true s = (withFaults n true s).setLink n 4 := by
  have hready : (!s.laneOn n || !s.ethernet n) = false := by simp [hon, hrole]
  rw [xFaultSets, hready, if_neg Bool.false_ne_true]
  exact (if_pos rfl).trans (if_neg hlink)

theorem faultSets_off (hon : s.laneOn n = true) (hrole : s.ethernet n = true) (hlink : s.obj (K.laneLink n) = 4) :
    xFaultSets n false s = (withFaults n false s).setLink n 3 := by
  have hready : (!s.laneOn n || !s.ethernet n) = false := by simp [hon, hrole]
  rw [xFaultSets, hready, if_neg Bool.false_ne_true]
  exact (if_neg Bool.false_ne_true).trans (if_pos hlink)

theorem linkRises_sets (h : Awake s) (hn : n < laneCount s.variant) (hrole : s.ethernet n = true) (hon : s.laneOn n = true)
    (hresume : s.obj (K.laneResume n) ≠ 1) :
    (s.obj (K.laneLink n) ≠ 3 → (s.lane n).faults = false →
      Sets (.laneLinkUp t n) s ((K.laneLink n, 3) :: raisedBy (s.begin_ t) (512 + 4 * n) 3)
        (fun u => (u.obj (K.laneStatus n)).testBit 4 = true)) ∧
    (s.obj (K.laneLink n) = 4 →
      Sets (.faultOrderedSets t n false) s ((K.laneLink n, 3) :: raisedBy (s.begin_ t) (512 + 4 * n) 3)
        (fun u => (u.lane n).faults = false)) := by
  have h16 := laneCount_le s.variant
  refine ⟨fun hlink hfaults => ?_, fun hlink => ?_⟩
  · obtain ⟨hleaves, hholds⟩ := setLink_rises (s := s.begin_ t) hn hrole hlink hresume
    have heffect : xLinkUp n (s.begin_ t) = (s.begin_ t).setLink n 3 := linkUp_ethernet (by omega) hon hrole hlink hfaults
    refine sets_eventOf (exec_laneLinkUp ..) (by simpa using hn) h ?_ ?_ ?_ <;> rw [heffect]
    · exact hleaves
    · exact hholds
    · exact setLink_up (v := 3) (by omega) hlink
  · have hne : (withFaults n false (s.begin_ t)).obj (K.laneLink n) ≠ 3 := fun h3 => absurd (hlink.symm.trans h3) (by decide)
    obtain ⟨hleaves, hholds⟩ := setLink_rises (s := withFaults n false (s.begin_ t)) hn hrole hne hresume
    have heffect : xFaultSets n false (s.begin_ t) = (withFaults n false (s.begin_ t)).setLink n 3 := faultSets_off hon hrole hlink
    refine sets_eventOf (exec_faultOrderedSets ..) (by simpa using hn) h ?_ ?_ ?_ <;> rw [heffect]
    · exact hleaves.trans (leaves_withFaults false)
    · exact hholds
    · exact (setLink_faults (by omega) ..).trans (faults_withFaults ..)

theorem linkFalls_sets (h : Awake s) (hn : n < laneCount s.variant) (hrole : s.ethernet n = true) (hon : s.laneOn n = true)
    (hlink : s.obj (K.laneLink n) = 3) (hidle : ∀ c ∈ s.exporting n, (s.live_ c).off = 0) :
    Sets (.laneLinkDown t n) s
      ((K.laneLink n, 0) :: (K.laneLinkDowns n, satAdd 32 (s.obj (K.laneLinkDowns n)) 1) :: raisedBy (s.begin_ t) (512 + 4 * n) 0)
      (fun u => (u.obj (K.laneStatus n)).testBit 4 = false) ∧
    Sets (.faultOrderedSets t n true) s
      ((K.laneLink n, 4) :: (K.laneLinkDowns n, satAdd 32 (s.obj (K.laneLinkDowns n)) 1) :: raisedBy (s.begin_ t) (512 + 4 * n) 4)
      (fun u => (u.lane n).faults = true) := by
  have h16 := laneCount_le s.variant
  have hnonzero : (s.begin_ t).obj (K.laneLink n) ≠ 0 := fun h0 => absurd (hlink.symm.trans h0) (by decide)
  have hidle' (on : Bool) := exports_withFaults (s := s.begin_ t) on hidle
  refine ⟨?_, ?_⟩
  · obtain ⟨hleaves, hholds⟩ := setLink_falls (v := 0) (s := withFaults n false (s.begin_ t)) hn (by decide) hlink (hidle' false)
    have heffect : xLinkDown n (s.begin_ t) = (withFaults n false (s.begin_ t)).setLink n 0 := linkDown_ethernet (by omega) hrole hnonzero
    refine sets_eventOf (exec_laneLinkDown ..) (by simpa using hn) h ?_ ?_ ?_ <;> rw [heffect]
    · exact hleaves.trans (leaves_withFaults false)
    · exact hholds
    · exact setLink_up (v := 0) (by omega) hnonzero
  · obtain ⟨hleaves, hholds⟩ := setLink_falls (v := 4) (s := withFaults n true (s.begin_ t)) hn (by decide) hlink (hidle' true)
    have heffect : xFaultSets n true (s.begin_ t) = (withFaults n true (s.begin_ t)).setLink n 4 := faultSets_on hon hrole hnonzero
    refine sets_eventOf (exec_faultOrderedSets ..) (by simpa using hn) h ?_ ?_ ?_ <;> rw [heffect]
    · exact hleaves.trans (leaves_withFaults true)
    · exact hholds
    · exact (setLink_faults (by omega) ..).trans (faults_withFaults ..)

theorem links_complete (hheld : s.held = false) (hn : n < laneCount s.variant) :
    (s.laneOn n = true → s.roleOfLane n ≠ 0 → s.obj (K.laneLink n) ≠ 3 →
      Completes (.laneLinkUp t n) s (fun u => u.obj (K.laneLink n) = if (s.lane n).faults then 4 else 3) (fun _ => True)) ∧
    (s.obj (K.laneLink n) ≠ 0 →
      Completes (.laneLinkDown t n) s (fun u => u.obj (K.laneLink n) = 0 ∧ (u.lane n).faults = false ∧
        (u.obj (K.laneStatus n)).testBit 4 = false) (fun _ => True)) ∧
    (s.laneOn n = true → s.ethernet n = true → s.obj (K.laneLink n) ≠ 0 →
      Completes (.faultOrderedSets t n true) s (fun u => u.obj (K.laneLink n) = 4 ∧ (u.lane n).faults = true) (fun _ => True)) := by
  have h16 := laneCount_le s.variant
  refine ⟨fun hon hrole hlink => ?_, fun hlink => ?_, fun hon hrole hlink => ?_⟩
  · exact completes_eventOf (exec_laneLinkUp ..) (by simpa using hn) hheld (linkUp_link (s := s.begin_ t) (by omega) hon hrole hlink)
  · exact completes_eventOf (exec_laneLinkDown ..) (by simpa using hn) hheld (linkDown_shows (s := s.begin_ t) (by omega) hlink)
  · refine completes_eventOf (exec_faultOrderedSets ..) (by simpa using hn) hheld ?_
    rw [faultSets_on (s := s.begin_ t) hon hrole hlink]
    exact ⟨setLink_link (by omega) .., (setLink_faults (by omega) ..).trans (faults_withFaults ..)⟩

/-! ## FEC -/

theorem fecUncorrectable_sets (h : Awake s) (hn : n < laneCount s.variant) (hlink : s.linkUp n = true) :
    Sets (.fecUncorrectable t n) s
      ((K.laneFecUncorrected n, satAdd 32 (s.obj (K.laneFecUncorrected n)) 1) :: raisedBy (s.begin_ t) (513 + 4 * n) 0) (fun _ => True) := by
  have h16 := laneCount_le s.variant
  have heffect : xFecUncorrectable n (s.begin_ t) = ((s.begin_ t).count (K.laneFecUncorrected n) 32 1).raise (513 + 4 * n) 0 := if_pos hlink
  have hsource : ((s.begin_ t).count (K.laneFecUncorrected n) 32 1).hasSource (512 + 1 + 4 * n) = true :=
    hasSource_lane (by decide) (by rw [count_variant]; exact hn)
  refine sets_eventOf (exec_fecUncorrectable ..) (by simpa using hn) h ?_ ?_ trivial <;> rw [heffect]
  · exact (leaves_raise _ _ _ fun k hk => List.mem_cons_of_mem _ hk).trans (leaves_count _ _ _ (List.mem_cons_self ..))
  · exact holds_cons ((obj_raise_of_lt _ _ _ (laneKey_lt (i := 4) (by omega) (by decide) (by decide))).trans (obj_count_self ..))
      (holds_raise _ hsource (obj_count_ne _ _ _ (eventCount_ne_lane (i := 4) (by omega) (by decide) (by decide))) (count_time ..))

/-- The ratio of a second, with FEC_DEGRADED. -/
def fecShown (n symbols errors : Nat) (s : State) : State :=
  let t := ((s.draw 51).2.tally (K.laneFecCorrected n) 64 ((s.draw 51).1 % (errors + 1))).set (K.laneFecSer n) (f32OfRat errors symbols)
  t.set (K.laneStatus n) (withBit (t.obj (K.laneStatus n)) 6 (decide (f32Key (s.obj (K.laneFecLimit n)) < f32Key (f32OfRat errors symbols))))

theorem fecSer_eq (n symbols errors : Nat) (s : State) : xFecSer n symbols errors s =
    if decide (f32Key (s.obj (K.laneFecLimit n)) < f32Key (f32OfRat errors symbols)) && !(s.obj (K.laneStatus n)).testBit 6 then
      (fecShown n symbols errors s).raise (513 + 4 * n) 0
    else fecShown n symbols errors s := rfl

theorem leaves_fecShown (symbols errors : Nat) :
    Leaves [K.laneFecSer n, K.laneStatus n, K.laneFecCorrected n] (fecShown n symbols errors s) s := by
  unfold fecShown
  extract_lets w
  exact (leaves_set _ _ (by simp)).trans ((leaves_set _ _ (by simp)).trans ((leaves_tally _ _ _ (by simp)).trans (leaves_draw s 51)))

theorem fecShown_holds (symbols errors : Nat) : Holds (fecShown n symbols errors s)
    [(K.laneFecSer n, f32OfRat errors symbols),
      (K.laneStatus n, withBit (s.obj (K.laneStatus n)) 6
        (decide (f32Key (s.obj (K.laneFecLimit n)) < f32Key (f32OfRat errors symbols)))),
      (K.laneFecCorrected n, wrapAdd 64 (s.obj (K.laneFecCorrected n)) (Config.free 51 s.freeCount % (errors + 1)))] := by
  have h1 : K.laneFecSer n ≠ K.laneStatus n := key_ne (by decide) (by decide) (.inr (by decide))
  have h2 : K.laneFecCorrected n ≠ K.laneStatus n := key_ne (by decide) (by decide) (.inr (by decide))
  have h3 : K.laneFecCorrected n ≠ K.laneFecSer n := key_ne (by decide) (by decide) (.inr (by decide))
  unfold fecShown
  extract_lets w
  have hstatus : w.obj (K.laneStatus n) = s.obj (K.laneStatus n) := (obj_set_ne _ _ h1.symm).trans (obj_tally_ne _ _ _ h2.symm)
  refine holds_cons ((obj_set_ne _ _ h1).trans (obj_set_self ..)) (holds_cons ((obj_set_self ..).trans (by rw [hstatus])) (holds_cons ?_ (holds_nil _)))
  exact (obj_set_ne _ _ h2).trans ((obj_set_ne _ _ h3).trans (obj_tally_self ..))

theorem fecSer_sets (h : Awake s) (hn : n < laneCount s.variant) (symbols errors : Nat) :
    Sets (.fecSerCheck t n symbols errors) s
      ([(K.laneFecSer n, f32OfRat errors symbols),
        (K.laneStatus n, withBit (s.obj (K.laneStatus n)) 6
          (decide (f32Key (s.obj (K.laneFecLimit n)) < f32Key (f32OfRat errors symbols)))),
        (K.laneFecCorrected n, wrapAdd 64 (s.obj (K.laneFecCorrected n)) (Config.free 51 s.freeCount % (errors + 1)))] ++
        (if decide (f32Key (s.obj (K.laneFecLimit n)) < f32Key (f32OfRat errors symbols)) = true ∧
            (s.obj (K.laneStatus n)).testBit 6 = false then raisedBy (s.begin_ t) (513 + 4 * n) 0 else []))
      (fun _ => True) := by
  have h16 := laneCount_le s.variant
  have hleaves := leaves_fecShown (n := n) (s := s.begin_ t) symbols errors
  have hholds := fecShown_holds (n := n) (s := s.begin_ t) symbols errors
  have hlow : ∀ k ∈ [K.laneFecSer n, K.laneStatus n, K.laneFecCorrected n], k < 0x700000 := by
    simp only [List.mem_cons, List.not_mem_nil, or_false, forall_eq_or_imp, forall_eq]
    exact ⟨laneKey_lt (i := 4) (by omega) (by decide) (by decide), laneKey_lt (i := 0) (by omega) (by decide) (by decide),
      laneKey_lt (i := 4) (by omega) (by decide) (by decide)⟩
  by_cases hrise : decide (f32Key (s.obj (K.laneFecLimit n)) < f32Key (f32OfRat errors symbols)) = true ∧
      (s.obj (K.laneStatus n)).testBit 6 = false
  · have heffect : xFecSer n symbols errors (s.begin_ t) = (fecShown n symbols errors (s.begin_ t)).raise (513 + 4 * n) 0 :=
      (fecSer_eq ..).trans (if_pos (by simpa using hrise))
    have hsource : (fecShown n symbols errors (s.begin_ t)).hasSource (512 + 1 + 4 * n) = true :=
      hasSource_lane (by decide) (by rw [hleaves.variant]; exact hn)
    have hcount : (fecShown n symbols errors (s.begin_ t)).obj (K.eventCount (513 + 4 * n)) = (s.begin_ t).obj (K.eventCount (513 + 4 * n)) :=
      hleaves.obj _ (fun hm => absurd (hlow _ hm) (by simp only [K.eventCount, key]; omega)) (settledKey_key_false (by decide) (by omega))
    rw [if_pos hrise]
    refine sets_eventOf (exec_fecSerCheck ..) (by simpa using hn) h ?_ ?_ trivial <;> rw [heffect]
    · exact (leaves_raise _ _ _ fun k hk => List.mem_append_right [_, _, _] hk).trans
        (hleaves.mono fun k hk => List.mem_append_left (evKeys (513 + 4 * n)) hk)
    · exact holds_append (holds_keep hholds fun k hk => obj_raise_of_lt _ _ _ (hlow k hk)) (holds_raise _ hsource hcount rfl)
  · have heffect : xFecSer n symbols errors (s.begin_ t) = fecShown n symbols errors (s.begin_ t) :=
      (fecSer_eq ..).trans (if_neg (by simpa using hrise))
    rw [if_neg hrise, List.append_nil]
    refine sets_eventOf (exec_fecSerCheck ..) (by simpa using hn) h ?_ ?_ trivial <;> rw [heffect]
    · exact hleaves
    · exact hholds

end

end Sys2Proof.Proofs
end

section
/-! # Pauses and dropped frames of the lanes, and the management port (R375, R378, R386) -/

set_option Elab.async false

namespace Sys2Proof.Proofs

open Sys2Proof Sys2Proof.Machine Sys2Proof.Laws

section
variable {s u : State} {t n v : Nat} {ks : List Nat}

/-! ## PAUSE -/

/-- The pause of a lane. -/
def withPause (n : Nat) (p : Option (Nat × Nat)) (s : State) : State := s.modLane n fun x => { x with paused := p }

@[simp] theorem obj_withPause (n : Nat) (p : Option (Nat × Nat)) (s : State) (k : Nat) : (withPause n p s).obj k = s.obj k := rfl

theorem leaves_withPause (p : Option (Nat × Nat)) : Leaves ks (withPause n p s) s := leaves_modLane ..

theorem paused_withPause (n : Nat) (p : Option (Nat × Nat)) (s : State) : ((withPause n p s).lane n).paused = p := by
  rw [withPause, lane_modLane]

/-- A received PAUSE frame counts. -/
def pauseHeard (n : Nat) (s : State) : State :=
  ((s.tally (K.laneRxFrames n) 64 1).tally (K.laneRxBytes n) 64 64).count (K.lanePauseRx n) 32 1

/-- The values of a received PAUSE frame. -/
abbrev heardValues (n : Nat) (s : State) : List (Nat × Nat) :=
  [(K.laneRxFrames n, wrapAdd 64 (s.obj (K.laneRxFrames n)) 1), (K.laneRxBytes n, wrapAdd 64 (s.obj (K.laneRxBytes n)) 64),
    (K.lanePauseRx n, satAdd 32 (s.obj (K.lanePauseRx n)) 1)]

theorem rxFrame_lane (n bytes : Nat) (s : State) :
    s.rxFrame (16 + n) bytes = (s.tally (K.laneRxFrames n) 64 1).tally (K.laneRxBytes n) 64 bytes := by
  rw [State.rxFrame, if_neg (by omega), Nat.add_sub_cancel_left]

theorem pauseFrame_cases (n quanta : Nat) (s : State) (hup : s.portUp (16 + n) = true) : xPauseFrame n quanta s =
    if (pauseHeard n s).obj (K.lanePauseHonour n) = 0 then pauseHeard n s
    else if quanta = 0 then (pauseHeard n s).endPause n
    else (withPause n (some ((((pauseHeard n s).lane n).paused.map (·.1)).getD (pauseHeard n s).clock,
      (pauseHeard n s).clock + quantaTime quanta)) (pauseHeard n s)).showHold n := by
  have hready : (!s.portUp (16 + n)) = false := by rw [hup]; rfl
  rw [xPauseFrame, hready, if_neg Bool.false_ne_true, rxFrame_lane, ← pauseHeard]
  rfl

theorem pauseHeard_obj {i b : Nat} (hb : b < 256) (h : b ≠ 3 ∧ b ≠ 4 ∧ b ≠ 7) : (pauseHeard n s).obj (key i b) = s.obj (key i b) :=
  (obj_count_ne _ _ _ (key_ne hb (by decide) (.inr h.2.2))).trans ((obj_tally_ne _ _ _ (key_ne hb (by decide) (.inr h.2.1))).trans
    (obj_tally_ne _ _ _ (key_ne hb (by decide) (.inr h.1))))

theorem pauseHeard_lane (s : State) : (pauseHeard n s).lane n = s.lane n := by
  simp only [State.lane, pauseHeard, count_lanes, tally_lanes]

theorem pauseHeard_clock (s : State) : (pauseHeard n s).clock = s.clock := by
  simp only [pauseHeard, count_clock, tally_clock]

theorem leaves_pauseHeard (h : ∀ k ∈ [K.laneRxFrames n, K.laneRxBytes n, K.lanePauseRx n], k ∈ ks) : Leaves ks (pauseHeard n s) s :=
  (leaves_count _ _ _ (h _ (by simp))).trans ((leaves_tally _ _ _ (h _ (by simp))).trans (leaves_tally _ _ _ (h _ (by simp))))

theorem pauseHeard_holds (n : Nat) (s : State) : Holds (pauseHeard n s) (heardValues n s) := by
  have h1 : K.laneRxFrames n ≠ K.laneRxBytes n := key_ne (by decide) (by decide) (.inr (by decide))
  have h2 : K.laneRxFrames n ≠ K.lanePauseRx n := key_ne (by decide) (by decide) (.inr (by decide))
  have h3 : K.laneRxBytes n ≠ K.lanePauseRx n := key_ne (by decide) (by decide) (.inr (by decide))
  refine holds_cons ?_ (holds_cons ?_ (holds_cons ?_ (holds_nil _)))
  · exact (obj_count_ne _ _ _ h2).trans ((obj_tally_ne _ _ _ h1).trans (obj_tally_self ..))
  · exact (obj_count_ne _ _ _ h3).trans ((obj_tally_self ..).trans (by rw [obj_tally_ne _ _ _ h1.symm]))
  · exact (obj_count_self ..).trans (by rw [obj_tally_ne _ _ _ h3.symm, obj_tally_ne _ _ _ h2.symm])

/-- A counter of a lane is no part of the hold that it shows. -/
theorem obj_showHold_counter (s : State) (b : Nat) (hb : b < 256) : (s.showHold n).obj (key (0x5004 + 64 * n) b) =
    s.obj (key (0x5004 + 64 * n) b) :=
  obj_showHold s (key_ne hb (by decide) (.inl (by omega))) (key_ne hb (by decide) (.inl (by omega)))

theorem heardValues_counters : ∀ k ∈ (heardValues n s).map (·.1), ∃ b < 256, k = key (0x5004 + 64 * n) b := by
  simp only [List.map_cons, List.map_nil, List.mem_cons, List.not_mem_nil, or_false, forall_eq_or_imp, forall_eq]
  exact ⟨⟨3, by decide, rfl⟩, ⟨4, by decide, rfl⟩, ⟨7, by decide, rfl⟩⟩

/-- What the end of a pause leaves. -/
theorem endPause_eq {since till : Nat} (hpaused : (s.lane n).paused = some (since, till)) :
    s.endPause n = ((withPause n none s).tally (K.lanePausedUs n) 64 ((s.clock - since) / perUs)).showHold n := by
  rw [State.endPause, hpaused]
  rfl

theorem leaves_endPause (hn : n < 16) {since till : Nat} (hpaused : (s.lane n).paused = some (since, till)) (h : K.lanePausedUs n ∈ ks) :
    Leaves ks (s.endPause n) s := by
  rw [endPause_eq hpaused]
  exact (leaves_showHold hn _).trans ((leaves_tally _ _ _ h).trans (leaves_withPause none))

theorem endPause_counts {since till : Nat} (hpaused : (s.lane n).paused = some (since, till)) :
    (s.endPause n).obj (K.lanePausedUs n) = wrapAdd 64 (s.obj (K.lanePausedUs n)) ((s.clock - since) / perUs) := by
  rw [endPause_eq hpaused]
  exact (obj_showHold_counter _ 8 (by decide)).trans (obj_tally_self ..)

theorem endPause_ends {since till : Nat} (hpaused : (s.lane n).paused = some (since, till)) : ((s.endPause n).lane n).paused = none := by
  rw [endPause_eq hpaused, paused_showHold, State.lane, tally_lanes, ← State.lane, paused_withPause]

theorem endPause_other {since till : Nat} (hpaused : (s.lane n).paused = some (since, till)) {b : Nat} (hb : b < 256) (h : b ≠ 8) :
    (s.endPause n).obj (key (0x5004 + 64 * n) b) = s.obj (key (0x5004 + 64 * n) b) := by
  rw [endPause_eq hpaused, obj_showHold_counter _ _ hb]
  exact obj_tally_ne _ _ _ (key_ne hb (by decide) (.inr h))

theorem pauseFrame_holds (h : Awake s) (hn : n < laneCount s.variant) {quanta : Nat} (hup : s.portUp (16 + n) = true) (hquanta : quanta ≠ 0)
    (hhonour : s.obj (K.lanePauseHonour n) ≠ 0) :
    Sets (.pauseFrame t n quanta) s (heardValues n s) (fun u => (u.lane n).paused =
      some (((s.lane n).paused.map (·.1)).getD (max s.clock t), max s.clock t + quanta * 33554432 / 100)) := by
  have h16 := laneCount_le s.variant
  have hkept : (pauseHeard n (s.begin_ t)).obj (K.lanePauseHonour n) ≠ 0 := fun h0 =>
    hhonour ((pauseHeard_obj (s := s.begin_ t) (by decide) (by decide)).symm.trans h0)
  have heffect := pauseFrame_cases n quanta (s.begin_ t) hup
  rw [if_neg hkept, if_neg hquanta, pauseHeard_lane, pauseHeard_clock] at heffect
  refine sets_eventOf (exec_pauseFrame ..) (by simpa using hn) h ?_ ?_ ?_ <;> rw [heffect]
  · exact (leaves_showHold (by omega) _).trans ((leaves_withPause _).trans (leaves_pauseHeard fun _ hk => hk))
  · refine holds_keep (pauseHeard_holds n (s.begin_ t)) fun k hk => ?_
    obtain ⟨b, hb, rfl⟩ := heardValues_counters k hk
    exact (obj_showHold_counter _ _ hb).trans (obj_withPause ..)
  · rw [paused_showHold, paused_withPause]
    rfl

theorem pauseFrame_ignored (h : Awake s) (hn : n < laneCount s.variant) {quanta : Nat} (hup : s.portUp (16 + n) = true)
    (hhonour : s.obj (K.lanePauseHonour n) = 0) :
    Sets (.pauseFrame t n quanta) s (heardValues n s) (fun u => (u.lane n).paused = (s.lane n).paused) := by
  have hkept : (pauseHeard n (s.begin_ t)).obj (K.lanePauseHonour n) = 0 :=
    (pauseHeard_obj (s := s.begin_ t) (by decide) (by decide)).trans hhonour
  have heffect := pauseFrame_cases n quanta (s.begin_ t) hup
  rw [if_pos hkept] at heffect
  refine sets_eventOf (exec_pauseFrame ..) (by simpa using hn) h ?_ ?_ ?_ <;> rw [heffect]
  · exact leaves_pauseHeard fun _ hk => hk
  · exact pauseHeard_holds n (s.begin_ t)
  · exact congrArg Lane.paused (pauseHeard_lane (s.begin_ t))

theorem pauseFrame_ends (h : Awake s) (hn : n < laneCount s.variant) {since till : Nat} (hpaused : (s.lane n).paused = some (since, till))
    (hup : s.portUp (16 + n) = true) (hhonour : s.obj (K.lanePauseHonour n) ≠ 0) :
    Sets (.pauseFrame t n 0) s
      (heardValues n s ++ [(K.lanePausedUs n, wrapAdd 64 (s.obj (K.lanePausedUs n)) ((max s.clock t - since) / perUs))])
      (fun u => (u.lane n).paused = none) := by
  have h16 := laneCount_le s.variant
  have hkept : (pauseHeard n (s.begin_ t)).obj (K.lanePauseHonour n) ≠ 0 := fun h0 =>
    hhonour ((pauseHeard_obj (s := s.begin_ t) (by decide) (by decide)).symm.trans h0)
  have heffect := pauseFrame_cases n 0 (s.begin_ t) hup
  rw [if_neg hkept, if_pos rfl] at heffect
  have hpaused' : ((pauseHeard n (s.begin_ t)).lane n).paused = some (since, till) := by rw [pauseHeard_lane]; exact hpaused
  refine sets_eventOf (exec_pauseFrame ..) (by simpa using hn) h ?_ ?_ ?_ <;> rw [heffect]
  · exact (leaves_endPause (by omega) hpaused' (by simp)).trans (leaves_pauseHeard fun _ hk => List.mem_append_left _ hk)
  · refine holds_append (holds_keep (pauseHeard_holds n (s.begin_ t)) fun k hk => ?_) (holds_cons ?_ (holds_nil _))
    · simp only [List.map_cons, List.map_nil, List.mem_cons, List.not_mem_nil, or_false] at hk
      obtain rfl | rfl | rfl := hk <;> exact endPause_other hpaused' (by decide) (by decide)
    · refine (endPause_counts hpaused').trans ?_
      rw [pauseHeard_clock, show (pauseHeard n (s.begin_ t)).obj (K.lanePausedUs n) = (s.begin_ t).obj (K.lanePausedUs n) from
        pauseHeard_obj (by decide) (by decide)]
      rfl
  · exact endPause_ends hpaused'

theorem pauseExpiry_sets (h : Awake s) (hn : n < laneCount s.variant) {since till : Nat} (hpaused : (s.lane n).paused = some (since, till))
    (htill : till ≤ max s.clock t) :
    Sets (.pauseExpiry t n) s [(K.lanePausedUs n, wrapAdd 64 (s.obj (K.lanePausedUs n)) ((max s.clock t - since) / perUs))]
      (fun u => (u.lane n).paused = none) := by
  have h16 := laneCount_le s.variant
  have hpaused' : ((s.begin_ t).lane n).paused = some (since, till) := hpaused
  have heffect : xPauseExpiry n (s.begin_ t) = (s.begin_ t).endPause n := by
    rw [xPauseExpiry, hpaused']
    exact if_neg (Nat.not_lt.2 htill)
  refine sets_eventOf (exec_pauseExpiry ..) (by simpa using hn) h ?_ ?_ ?_ <;> rw [heffect]
  · exact leaves_endPause (by omega) hpaused' (List.mem_cons_self ..)
  · exact holds_cons (endPause_counts hpaused') (holds_nil _)
  · exact endPause_ends hpaused'

/-- A hold has been told of. -/
def withTold (n : Nat) (s : State) : State := s.modLane n fun x => { x with told := true }

theorem flowLimit_sets (h : Awake s) (hn : n < laneCount s.variant) (hcause : s.obj (K.laneHoldCause n) ≠ 0) (htold : (s.lane n).told = false)
    (hlimit : s.obj (K.laneFlowLimit n) ≤ (s.begin_ t).heldUs n) :
    Sets (.flowLimitExpiry t n) s (raisedBy (s.begin_ t) (514 + 4 * n) 0) (fun u => (u.lane n).told = true) := by
  have hready : (decide ((s.begin_ t).obj (K.laneHoldCause n) = 0) || ((s.begin_ t).lane n).told ||
      decide ((s.begin_ t).heldUs n < (s.begin_ t).obj (K.laneFlowLimit n))) = false := by
    rw [Bool.or_eq_false_iff, Bool.or_eq_false_iff]
    exact ⟨⟨decide_eq_false hcause, htold⟩, decide_eq_false (Nat.not_lt.2 hlimit)⟩
  have heffect : xFlowLimit n (s.begin_ t) = (withTold n (s.begin_ t)).raise (514 + 4 * n) 0 := by
    rw [xFlowLimit, hready, if_neg Bool.false_ne_true, withTold, sFlow]
  have hsource : (withTold n (s.begin_ t)).hasSource (512 + 2 + 4 * n) = true := hasSource_lane (by decide) hn
  refine sets_eventOf (exec_flowLimitExpiry ..) (by simpa using hn) h ?_ ?_ ?_ <;> rw [heffect]
  · exact (leaves_raise _ _ _ fun _ hk => hk).trans (leaves_modLane ..)
  · exact holds_raise _ hsource rfl rfl
  · rw [State.lane, raise_lanes, ← State.lane, withTold, lane_modLane]

/-! ## Dropped frames -/

theorem frameDropped_port (h : s.portUp 3 = true) (fcs : Bool) :
    xFrameDropped 3 fcs s = s.count (if fcs then K.portsMgmtRxFcs else K.portsMgmtRxDropped) 32 1 := by
  rw [xFrameDropped, h]
  rfl

theorem frameDropped_lane (h : s.portUp (16 + n) = true) (fcs : Bool) : xFrameDropped (16 + n) fcs s =
    if fcs then (s.count (K.laneRxFcs n) 32 1).integrity n else s.count (K.laneRxDropped n) 32 1 := by
  have hready : (!s.portUp (16 + n)) = false := by rw [h]; rfl
  rw [xFrameDropped, hready, if_neg Bool.false_ne_true, if_neg (by omega), Nat.add_sub_cancel_left]

/-- INTEGRITY has been told of. -/
def withIntegrity (n : Nat) (s : State) : State := s.modLane n fun x => { x with integrity := some s.clock }

@[simp] theorem obj_withIntegrity (n : Nat) (s : State) (k : Nat) : (withIntegrity n s).obj k = s.obj k := rfl

theorem withIntegrity_time (n : Nat) (s : State) : (withIntegrity n s).time = s.time := rfl

theorem integrity_raises (h : (s.lane n).integrity.all (fun z => decide (z + perMs ≤ s.clock)) = true) :
    s.integrity n = (withIntegrity n s).raise (515 + 4 * n) 0 := by
  unfold State.integrity
  split
  next z hz =>
    rw [hz, Option.all_some, decide_eq_true_eq] at h
    exact if_neg (Nat.not_lt.2 h)
  next => rfl

theorem integrity_quiet (h : (s.lane n).integrity.any (fun z => decide (s.clock < z + perMs)) = true) : s.integrity n = s := by
  unfold State.integrity
  split
  next z hz =>
    rw [hz, Option.any_some, decide_eq_true_eq] at h
    exact if_pos h
  next hnone =>
    rw [hnone] at h
    exact absurd h Bool.false_ne_true

theorem etherPort_lane {v : Variant} (hn : n < laneCount v) : etherPort v (16 + n) = true := by
  simp [etherPort, hn]

theorem portDrops_sets (h : Awake s) (hup : s.portUp 3 = true) :
    Sets (.frameDropped t 3 true) s [(K.portsMgmtRxFcs, satAdd 32 (s.obj K.portsMgmtRxFcs) 1)] (fun _ => True) ∧
    Sets (.frameDropped t 3 false) s [(K.portsMgmtRxDropped, satAdd 32 (s.obj K.portsMgmtRxDropped) 1)] (fun _ => True) := by
  have heffect := frameDropped_port (s := s.begin_ t) hup
  refine ⟨sets_eventOf (exec_frameDropped ..) rfl h ?_ ?_ trivial, sets_eventOf (exec_frameDropped ..) rfl h ?_ ?_ trivial⟩ <;> rw [heffect]
  · exact leaves_count _ _ _ (List.mem_cons_self ..)
  · exact holds_cons (obj_count_self ..) (holds_nil _)
  · exact leaves_count _ _ _ (List.mem_cons_self ..)
  · exact holds_cons (obj_count_self ..) (holds_nil _)

theorem laneDrops_sets (h : Awake s) (hn : n < laneCount s.variant) (hup : s.portUp (16 + n) = true) :
    Sets (.frameDropped t (16 + n) false) s [(K.laneRxDropped n, satAdd 32 (s.obj (K.laneRxDropped n)) 1)] (fun _ => True) ∧
    ((s.lane n).integrity.all (fun z => decide (z + perMs ≤ max s.clock t)) = true →
      Sets (.frameDropped t (16 + n) true) s
        ((K.laneRxFcs n, satAdd 32 (s.obj (K.laneRxFcs n)) 1) :: raisedBy (s.begin_ t) (515 + 4 * n) 0) (fun _ => True)) ∧
    ((s.lane n).integrity.any (fun z => decide (max s.clock t < z + perMs)) = true →
      Sets (.frameDropped t (16 + n) true) s [(K.laneRxFcs n, satAdd 32 (s.obj (K.laneRxFcs n)) 1)] (fun _ => True)) := by
  have h16 := laneCount_le s.variant
  have heffect := frameDropped_lane (s := s.begin_ t) hup
  have hlane : ((s.begin_ t).count (K.laneRxFcs n) 32 1).lane n = s.lane n := by rw [State.lane, count_lanes]; rfl
  have hclock : ((s.begin_ t).count (K.laneRxFcs n) 32 1).clock = max s.clock t := by rw [count_clock]; rfl
  refine ⟨sets_eventOf (exec_frameDropped ..) (etherPort_lane hn) h ?_ ?_ trivial, fun hall => ?_, fun hany => ?_⟩
  · rw [heffect]
    exact leaves_count _ _ _ (List.mem_cons_self ..)
  · rw [heffect]
    exact holds_cons (obj_count_self ..) (holds_nil _)
  · have hraised := integrity_raises (s := (s.begin_ t).count (K.laneRxFcs n) 32 1) (n := n) (by rw [hlane, hclock]; exact hall)
    have hsource : (withIntegrity n ((s.begin_ t).count (K.laneRxFcs n) 32 1)).hasSource (512 + 3 + 4 * n) = true :=
      hasSource_lane (by decide) (show n < laneCount ((s.begin_ t).count (K.laneRxFcs n) 32 1).variant by rw [count_variant]; exact hn)
    refine sets_eventOf (exec_frameDropped ..) (etherPort_lane hn) h ?_ ?_ trivial <;> rw [heffect, if_pos rfl, hraised]
    · exact (leaves_raise _ _ _ fun _ hk => List.mem_cons_of_mem _ hk).trans ((leaves_modLane ..).trans
        (leaves_count _ _ _ (List.mem_cons_self ..)))
    · exact holds_cons ((obj_raise_of_lt _ _ _ (laneKey_lt (i := 4) (by omega) (by decide) (by decide))).trans
          ((obj_withIntegrity ..).trans (obj_count_self ..)))
        (holds_raise _ hsource ((obj_withIntegrity ..).trans
          (obj_count_ne _ _ _ (eventCount_ne_lane (i := 4) (by omega) (by decide) (by decide)))) ((withIntegrity_time ..).trans (count_time ..)))
  · have hquiet := integrity_quiet (s := (s.begin_ t).count (K.laneRxFcs n) 32 1) (n := n) (by rw [hlane, hclock]; exact hany)
    refine sets_eventOf (exec_frameDropped ..) (etherPort_lane hn) h ?_ ?_ trivial <;> rw [heffect, if_pos rfl, hquiet]
    · exact leaves_count _ _ _ (List.mem_cons_self ..)
    · exact holds_cons (obj_count_self ..) (holds_nil _)

/-! ## The management port -/

theorem mgmtUp_sets (h : Awake s) {mode speed : Nat} (hmode : (mode = 1 ∧ (speed = 10 ∨ speed = 100 ∨ speed = 1000)) ∨ (mode = 2 ∧ speed = 1000))
    (hchosen : s.obj K.portsMgmtMode = 0 ∨ s.obj K.portsMgmtMode = mode) :
    Sets (.mgmtLinkUp t mode speed) s [(K.portsMgmtInForce, mode), (K.portsMgmtLink, 3), (K.portsMgmtSpeed, speed)] (fun _ => True) := by
  have hspeeds : (mode == 1 || mode == 2) = true ∧ (speed == 1000 || (mode == 1 && (speed == 10 || speed == 100))) = true := by
    rcases hmode with ⟨rfl, rfl | rfl | rfl⟩ | ⟨rfl, rfl⟩ <;> decide
  have hfits : (decide ((s.begin_ t).obj K.portsMgmtMode ≠ 0) && decide ((s.begin_ t).obj K.portsMgmtMode ≠ mode)) = false := by
    rw [Bool.and_eq_false_iff]
    exact hchosen.imp (fun h0 => decide_eq_false (not_not.2 h0)) fun h1 => decide_eq_false (not_not.2 h1)
  have heffect : xMgmtUp mode speed (s.begin_ t) =
      setAll (s.begin_ t) [(K.portsMgmtInForce, mode), (K.portsMgmtLink, 3), (K.portsMgmtSpeed, speed)] := by
    rw [xMgmtUp, hspeeds.1, hspeeds.2, hfits]
    rfl
  refine sets_event (exec_mgmtLinkUp ..) h ?_ ?_ trivial <;> rw [heffect]
  · exact leaves_setAll ..
  · exact holds_setAll _ (by decide : [K.portsMgmtInForce, K.portsMgmtLink, K.portsMgmtSpeed].Nodup)

/-- The management port is down, before a master that it led to is lost. -/
def mgmtFallen (s : State) : State :=
  (((s.set K.portsMgmtLink 0).set K.portsMgmtSpeed 0).set K.portsMgmtInForce 0).count K.portsMgmtLinkDowns 32 1

/-- What the management port shows once it is down. -/
abbrev mgmtDownValues (s : State) : List (Nat × Nat) :=
  [(K.portsMgmtInForce, 0), (K.portsMgmtLink, 0), (K.portsMgmtSpeed, 0), (K.portsMgmtLinkDowns, satAdd 32 (s.obj K.portsMgmtLinkDowns) 1)]

theorem mgmtDown_eq (hlink : s.obj K.portsMgmtLink = 3) :
    xMgmtDown s = if (mgmtFallen s).obj K.timeSource = 1 then (mgmtFallen s).losePtp.raise 750 0 else mgmtFallen s :=
  if_neg (not_not.2 hlink)

theorem mgmtFallen_other {k : Nat} (h : k ∉ [K.portsMgmtLink, K.portsMgmtSpeed, K.portsMgmtInForce, K.portsMgmtLinkDowns]) :
    (mgmtFallen s).obj k = s.obj k := by
  simp only [List.mem_cons, List.not_mem_nil, or_false, not_or] at h
  obtain ⟨h1, h2, h3, h4⟩ := h
  exact (obj_count_ne _ _ _ h4).trans ((obj_set_ne _ _ h3).trans ((obj_set_ne _ _ h2).trans (obj_set_ne _ _ h1)))

theorem leaves_mgmtFallen (s : State) :
    Leaves [K.portsMgmtInForce, K.portsMgmtLink, K.portsMgmtSpeed, K.portsMgmtLinkDowns] (mgmtFallen s) s :=
  (leaves_count _ _ _ (by simp)).trans ((leaves_set _ _ (by simp)).trans ((leaves_set _ _ (by simp)).trans (leaves_set _ _ (by simp))))

theorem mgmtFallen_holds (s : State) : Holds (mgmtFallen s) (mgmtDownValues s) := by
  refine holds_cons ?_ (holds_cons ?_ (holds_cons ?_ (holds_cons ?_ (holds_nil _))))
  · exact (obj_count_ne _ _ _ (by decide)).trans (obj_set_self ..)
  · exact (obj_count_ne _ _ _ (by decide)).trans ((obj_set_ne _ _ (by decide)).trans ((obj_set_ne _ _ (by decide)).trans (obj_set_self ..)))
  · exact (obj_count_ne _ _ _ (by decide)).trans ((obj_set_ne _ _ (by decide)).trans (obj_set_self ..))
  · exact (obj_count_self ..).trans (by rw [obj_set_ne _ _ (by decide), obj_set_ne _ _ (by decide), obj_set_ne _ _ (by decide)])

theorem masterLost_other {k : Nat} (h : k ∉ [K.timeSource, K.timePtpMaster, K.timePtpPortState]) : (masterLost s).obj k = s.obj k := by
  simp only [List.mem_cons, List.not_mem_nil, or_false, not_or] at h
  obtain ⟨h1, h2, h3⟩ := h
  rw [masterLost, obj_unlocked, obj_set_ne _ _ h3, obj_set_ne _ _ h2, obj_set_ne _ _ h1]

theorem masterLost_holds (s : State) : Holds (masterLost s) [(K.timeSource, 0), (K.timePtpMaster, 0), (K.timePtpPortState, 5)] := by
  refine holds_cons ?_ (holds_cons ?_ (holds_cons ?_ (holds_nil _))) <;> rw [masterLost, obj_unlocked]
  · exact (obj_set_ne _ _ (by decide)).trans ((obj_set_ne _ _ (by decide)).trans (obj_set_self ..))
  · exact (obj_set_ne _ _ (by decide)).trans (obj_set_self ..)
  · exact obj_set_self ..

/-- The loss of the master as the port goes down. -/
theorem mgmtDown_loses (hsource : s.obj K.timeSource = 1) :
    Holds ((mgmtFallen s).losePtp.raise 750 0) (mgmtDownValues s ++ [(K.timeSource, 0), (K.timePtpMaster, 0), (K.timePtpPortState, 5),
      (K.timeState, if s.obj K.timeState = 2 then 3 else 0)]) := by
  have hsource' : (mgmtFallen s).obj K.timeSource = 1 := (mgmtFallen_other (by decide)).trans hsource
  have hstate : (mgmtFallen s).obj K.timeState = s.obj K.timeState := mgmtFallen_other (by decide)
  rw [losePtp_eq hsource', hstate]
  have hkept {w : State} {k : Nat} (x : Nat) (hk : k < 0x700000) (hne : k ≠ K.timeState) : ((w.setTimeState x).raise 750 0).obj k = w.obj k :=
    (obj_raise_of_lt _ _ _ hk).trans (obj_setTimeState _ _ hk hne)
  have hlost := holds_keep (v := ((masterLost (mgmtFallen s)).setTimeState (if s.obj K.timeState = 2 then 3 else 0)).raise 750 0)
    (masterLost_holds (mgmtFallen s)) (by
      simp only [List.map_cons, List.map_nil, List.mem_cons, List.not_mem_nil, or_false, forall_eq_or_imp, forall_eq]
      exact ⟨hkept _ (by decide) (by decide), hkept _ (by decide) (by decide), hkept _ (by decide) (by decide)⟩)
  refine holds_append (holds_keep (mgmtFallen_holds s) ?_) (holds_append hlost
    (holds_cons ((obj_raise_of_lt _ _ _ (show K.timeState < 0x700000 by decide)).trans (setTimeState_state ..)) (holds_nil _)))
  simp only [List.map_cons, List.map_nil, List.mem_cons, List.not_mem_nil, or_false, forall_eq_or_imp, forall_eq]
  refine ⟨?_, ?_, ?_, ?_⟩ <;> exact (hkept _ (by decide) (by decide)).trans (masterLost_other (by decide))

theorem mgmtDown_sets (h : Awake s) (hlink : s.obj K.portsMgmtLink = 3) :
    (s.obj K.timeSource ≠ 1 → Sets (.mgmtLinkDown t) s (mgmtDownValues s) (fun _ => True)) ∧
    (s.obj K.timeSource = 1 →
      Completes (.mgmtLinkDown t) s
        (fun u => Holds u (mgmtDownValues s ++ [(K.timeSource, 0), (K.timePtpMaster, 0), (K.timePtpPortState, 5),
          (K.timeState, if s.obj K.timeState = 2 then 3 else 0)])) (fun _ => True)) := by
  have heffect := mgmtDown_eq (s := s.begin_ t) hlink
  have hkept : (mgmtFallen (s.begin_ t)).obj K.timeSource = s.obj K.timeSource := mgmtFallen_other (by decide)
  rw [hkept] at heffect
  refine ⟨fun hsource => ?_, fun hsource => ?_⟩
  · rw [if_neg hsource] at heffect
    refine sets_event (exec_mgmtLinkDown ..) h ?_ ?_ trivial <;> rw [heffect]
    · exact leaves_mgmtFallen _
    · exact mgmtFallen_holds (s.begin_ t)
  · rw [if_pos hsource] at heffect
    refine completes_event (exec_mgmtLinkDown ..) h.1 ?_
    rw [heffect]
    exact mgmtDown_loses (s := s.begin_ t) hsource

end

/-- Settles O50: each command of a link, of PAUSE, of FEC and of a dropped frame, and the management port's. -/
theorem lanesFollowTheirLinks : Obligations.LanesFollowTheirLinks := by
  unfold Obligations.LanesFollowTheirLinks
  refine ⟨fun s t n h hn hrole hon hresume => linkRises_sets h hn hrole hon hresume, fun s t n hheld hn => links_complete hheld hn,
    fun s t n h hn hrole hon hlink hidle => linkFalls_sets h hn hrole hon hlink hidle, fun s t n symbols errors h hn => ?_,
    fun s t n quanta h hn => ?_, fun s t n h => ⟨portDrops_sets h, laneDrops_sets h⟩,
    fun s t mode speed h hmode => ⟨mgmtUp_sets h hmode, mgmtDown_sets h⟩⟩
  · exact ⟨fecUncorrectable_sets h hn, fecSer_sets h hn symbols errors⟩
  · exact ⟨fun hup hquanta => pauseFrame_holds h hn hup hquanta, fun hup => pauseFrame_ignored h hn hup,
      fun since till hpaused => ⟨pauseFrame_ends h hn hpaused, pauseExpiry_sets h hn hpaused⟩, flowLimit_sets h hn⟩

end Sys2Proof.Proofs
end

section
/-! # A refused placement has a code (R230)

Every refusal of the passes of a placement carries an abort code, and no code is 0. -/

set_option Elab.async false

namespace Sys2Proof.Proofs

open Sys2Proof Sys2Proof.Machine Sys2Proof.Laws

/-- Where a step of a placement ends with a conflict, the conflict has a code. -/
structure Coded {α : Type} (p : Placing α) : Prop where
  code : ∀ c, p = .error c → c.code ≠ 0

section
variable {α β : Type}

theorem coded_ok (a : α) : Coded (.ok a : Placing α) := ⟨fun _ h => nomatch h⟩

theorem coded_error {c : Conflict} (h : c.code ≠ 0) : Coded (.error c : Placing α) := ⟨fun _ hc => Except.error.inj hc ▸ h⟩

theorem coded_refuse (reason cls unit first second : Nat) : Coded (refuse reason cls unit first second : Placing α) :=
  coded_error (show aConflict ≠ 0 by decide)

theorem coded_absentUnit (cls unit first : Nat) : Coded (absentUnit cls unit first : Placing α) := coded_error (show aAbsent ≠ 0 by decide)

theorem coded_outOfRange (detail first second : Nat) : Coded (outOfRange detail first second : Placing α) :=
  coded_error (show aRange ≠ 0 by decide)

theorem coded_ite {c : Prop} [Decidable c] {p q : Placing α} (hp : Coded p) (hq : Coded q) : Coded (if c then p else q) := by
  split
  · exact hp
  · exact hq

theorem coded_allow {no : Placing Unit} (b : Bool) (h : Coded no) : Coded (allow b no) := coded_ite (coded_ok _) h

theorem coded_bind {p : Placing α} {f : α → Placing β} (hp : Coded p) (hf : ∀ a, Coded (f a)) : Coded (p >>= f) := by
  cases p with
  | error c => exact coded_error (hp.code c rfl)
  | ok a => exact hf a

theorem coded_foldlM {f : α → β → Placing α} (h : ∀ a b, Coded (f a b)) (xs : List β) (a : α) : Coded (xs.foldlM f a) := by
  induction xs generalizing a with
  | nil => exact coded_ok a
  | cons x xs ih => exact coded_bind (h a x) ih

theorem coded_forM {f : β → Placing PUnit} (h : ∀ b, Coded (f b)) (xs : List β) : Coded (xs.forM f) := by
  induction xs with
  | nil => exact coded_ok _
  | cons x xs ih => exact coded_bind (h x) fun _ => ih

end

section
variable (s : State) (ns : List Node) (ts : Taken) (ps : List Piece)

theorem coded_hostLane (c n : Nat) : Coded (hostLane s c n) :=
  coded_ite (coded_ok _) (coded_bind (coded_allow _ (coded_absentUnit ..)) fun _ => coded_allow _ (coded_refuse ..))

theorem coded_fitNode (n : Node) : Coded (fitNode s n) := by
  unfold fitNode
  extract_lets jp
  have hjp (r : PUnit) : Coded (jp r) := coded_bind (coded_allow _ (coded_absentUnit ..)) fun _ =>
    coded_bind (coded_hostLane ..) fun _ => coded_hostLane ..
  refine coded_ite ?_ (coded_bind (coded_ok _) hjp)
  exact coded_bind (coded_allow _ (coded_absentUnit ..)) fun _ => coded_bind (coded_allow _ (coded_refuse ..)) fun _ =>
    coded_bind (coded_allow _ (coded_refuse ..)) hjp

theorem coded_feedNode (n : Node) : Coded (feedNode s ns n) := by
  unfold feedNode
  refine coded_ite (coded_ok _) ?_
  extract_lets src rate jp
  have hjp (r : PUnit) : Coded (jp r) := coded_ite (coded_bind (coded_allow _ (coded_outOfRange ..)) fun _ =>
    coded_allow _ (coded_outOfRange ..)) (coded_ok _)
  split
  · exact coded_bind (coded_refuse ..) hjp
  · exact coded_bind (coded_ok _) hjp

/-! ## Tiles, clocks and slots -/

theorem coded_pinnedTile (g : List Node) (paired : Bool) (first : Node) : Coded (pinnedTile s ts g paired first) := by
  unfold pinnedTile
  extract_lets t c chosen jp
  have hpair : Coded (match ts.uses (t + 1) with
      | some d => (refuse 1 4 (t + 1) d c : Placing Nat)
      | none => .ok t) := by
    split
    · exact coded_refuse ..
    · exact coded_ok _
  have hchosen (r : PUnit) : Coded (chosen r) := coded_bind (coded_allow _ (coded_absentUnit ..)) fun _ =>
    coded_bind (coded_allow _ (coded_refuse ..)) fun _ => coded_bind (coded_allow _ (coded_refuse ..)) fun _ => coded_ite hpair (coded_ok _)
  have hjp (r : PUnit) : Coded (jp r) := by
    unfold jp
    split
    · exact coded_bind (coded_refuse ..) hchosen
    · exact coded_bind (coded_ok _) hchosen
  split
  · exact coded_bind (coded_refuse ..) hjp
  · exact coded_bind (coded_ok _) hjp

theorem coded_placeSubject (g : List Node) : Coded (placeSubject s ts g) := by
  unfold placeSubject
  split
  · exact coded_ok _
  · extract_lets pad paired busy put jp
    have hput (t : Nat) : Coded (put t) := coded_ok _
    have hjp (r : PUnit) : Coded (jp r) := by
      unfold jp
      split
      · exact coded_bind (coded_pinnedTile ..) hput
      · split
        · exact coded_bind (coded_ok _) hput
        · exact coded_bind (coded_refuse ..) hput
    split
    · exact coded_bind (coded_outOfRange ..) hjp
    · exact coded_bind (coded_ok _) hjp

theorem coded_placeHalfB (n : Node) : Coded (placeHalfB s ns ts n) := by
  unfold placeHalfB
  split
  · exact coded_refuse ..
  · split
    · exact coded_refuse ..
    · exact coded_bind (coded_allow _ (coded_outOfRange ..)) fun _ => coded_bind (coded_allow _ (coded_refuse ..)) fun _ =>
        coded_bind (coded_allow _ (coded_refuse ..)) fun _ => coded_bind (coded_allow _ (coded_absentUnit ..)) fun _ => coded_ok _

theorem coded_pass2 : Coded (pass2 s ns) :=
  coded_bind (coded_foldlM (coded_placeSubject s) _ _) fun _ => coded_foldlM (coded_placeHalfB s ns) _ _

theorem coded_quadClock (l : Nat) : Coded (quadClock ns l) := by
  induction ns generalizing l with
  | nil => exact coded_ok _
  | cons n ns ih =>
    unfold quadClock
    extract_lets l'
    split
    · exact ih _
    · exact coded_outOfRange ..

theorem coded_clockOfQuad (q : Nat) : Coded (clockOfQuad ns ts q) := by
  unfold clockOfQuad
  split
  · exact coded_ok _
  · exact coded_bind (coded_quadClock ..) fun _ => coded_ok _

theorem coded_pass3 : Coded (pass3 s ns ts ps) := by
  refine coded_bind (coded_foldlM (fun _ _ => coded_bind (coded_clockOfQuad ..) fun _ => coded_ok _) _ _) fun fs => ?_
  split
  · exact coded_outOfRange ..
  · exact coded_ok _

theorem coded_meetsStrobe (n : Node) : Coded (meetsStrobe s ns n) := by
  unfold meetsStrobe
  split
  · exact coded_ite (coded_allow _ (coded_outOfRange ..)) (coded_ok _)
  · exact coded_ok _

theorem coded_placePinnedChain (sl : List (Nat × Nat)) (n : Node) : Coded (placePinnedChain s ns sl n) :=
  coded_bind (coded_allow _ (coded_absentUnit ..)) fun _ => coded_bind (coded_allow _ (coded_refuse ..)) fun _ =>
    coded_bind (coded_allow _ (coded_refuse ..)) fun _ => coded_ok _

theorem coded_placeChainGroup (sl : List (Nat × Nat)) (g : List Node) : Coded (placeChainGroup s ns ts sl g) := by
  unfold placeChainGroup
  split
  · exact coded_ok _
  · extract_lets powered q0 order pick
    split
    · exact coded_ok _
    · exact coded_refuse ..

theorem coded_pass4 : Coded (pass4 s ns ts) :=
  coded_bind (coded_foldlM (coded_placePinnedChain s ns) _ _) fun _ => coded_foldlM (coded_placeChainGroup s ns ts) _ _

/-! ## Pieces, grids, rings and lanes -/

theorem coded_placePiece (pl : PiecePlaces) (p : Piece) : Coded (placePiece s ns ts ps pl p) := by
  unfold placePiece
  extract_lets node flows order fast try_ jp
  refine coded_bind (coded_allow _ (coded_absentUnit ..)) fun _ => ?_
  have hjp (r : PUnit) : Coded (jp r) := by
    unfold jp
    split
    · exact coded_ok _
    · exact coded_ite (coded_refuse ..) (coded_refuse ..)
  split
  · exact coded_bind (coded_refuse ..) hjp
  · exact coded_bind (coded_ok _) hjp

theorem coded_pass5 : Coded (pass5 s ns ts ps) := coded_foldlM (coded_placePiece s ns ts ps) _ _

theorem coded_gridOf (dv : List (Nat × Nat)) (p : Nat) : Coded (gridOf s ns ps ts dv p) := by
  unfold gridOf
  extract_lets mine tiles e jp
  have hjp (r : PUnit) : Coded (jp r) := by
    unfold jp
    cases tiles with
    | nil => exact coded_ok _
    | cons x xs => exact coded_bind (coded_allow _ (coded_outOfRange ..)) fun _ => coded_ok _
  refine coded_ite ?_ (coded_bind (coded_ok _) hjp)
  split
  · exact coded_bind (coded_outOfRange ..) hjp
  · exact coded_bind (coded_ok _) hjp

theorem coded_pass6 (dv : List (Nat × Nat)) : Coded (pass6 s ns ps ts dv) :=
  coded_foldlM (fun _ _ => coded_bind (coded_gridOf ..) fun _ => coded_ok _) _ _

theorem coded_pass7 (sl : List (Nat × Nat)) : Coded (pass7 s ns ps sl) := by
  unfold pass7
  extract_lets rs placed capture bw recs jp
  refine coded_bind (coded_allow _ (coded_refuse ..)) fun _ => coded_bind (coded_allow _ (coded_refuse ..)) fun _ => ?_
  have hjp (r : PUnit) : Coded (jp r) := coded_bind (coded_allow _ (coded_refuse ..)) fun _ => coded_ok _
  split
  · exact coded_bind (coded_refuse ..) hjp
  · exact coded_bind (coded_ok _) hjp

theorem coded_peerFits (n : Node) (role : Nat) (sent : Bool) : Coded (peerFits s ns ps n role sent) := by
  unfold peerFits
  split
  · exact coded_refuse ..
  · exact coded_allow _ (coded_refuse ..)

theorem coded_pass8 : Coded (pass8 s ns ps) := by
  unfold pass8
  refine coded_bind (coded_forM (fun n => ?_) _) fun _ => ?_
  · extract_lets jp
    have hjp (r : PUnit) : Coded (jp r) := coded_ite (coded_peerFits ..) (coded_ok _)
    exact coded_ite (coded_bind (coded_peerFits ..) hjp) (coded_bind (coded_ok _) hjp)
  · extract_lets pinned
    refine coded_bind (coded_foldlM (fun _ _ => coded_bind (coded_allow _ (coded_refuse ..)) fun _ => coded_ok _) _ _) fun ls =>
      coded_bind (coded_foldlM (fun ls g => ?_) _ _) fun _ => coded_ok _
    split
    · exact coded_ok _
    · exact coded_refuse ..

/-- A placement that is refused has a code, where the refusal of the pins has one. -/
theorem coded_place (pins : Option Conflict) (hpins : ∀ c ∈ pins, c.code ≠ 0) : Coded (s.place pins) := by
  unfold State.place
  extract_lets ns ps jp
  have hjp (r : PUnit) : Coded (jp r) := coded_bind (coded_pass2 ..) fun _ => coded_bind (coded_pass3 ..) fun _ =>
    coded_bind (coded_forM (coded_meetsStrobe s _) _) fun _ => coded_bind (coded_pass4 ..) fun _ => coded_bind (coded_pass5 ..) fun _ =>
      coded_bind (coded_pass6 ..) fun _ => coded_bind (coded_pass7 ..) fun _ => coded_bind (coded_pass8 ..) fun _ => coded_ok _
  refine coded_bind (coded_forM (coded_fitNode s) _) fun _ => coded_bind (coded_forM (coded_feedNode s _) _) fun _ => ?_
  split
  next c => exact coded_bind (coded_error (hpins c rfl)) hjp
  next => exact coded_bind (coded_ok _) hjp

theorem coded_pinConflict : ∀ c ∈ s.pinConflict, c.code ≠ 0 := by
  unfold State.pinConflict
  split
  · rintro c ⟨⟩
    exact show aConflict ≠ 0 by decide
  · exact fun c h => absurd h (Option.not_mem_none c)

end

end Sys2Proof.Proofs
end

section
/-! # The graph and its trials (R223, R238) -/

set_option Elab.async false

namespace Sys2Proof.Proofs

open Sys2Proof Sys2Proof.Machine Sys2Proof.Laws

/-! ## Keys of a map -/

section
variable {α : Type}

theorem mem_keys_insert (m : List (Nat × α)) (q : Nat) (x : α) {k : Nat} :
    k ∈ (Sp.insert m q x).map (·.1) ↔ k = q ∨ k ∈ m.map (·.1) := by
  induction m with
  | nil => simp [Sp.insert]
  | cons e m ih =>
    obtain ⟨i, v⟩ := e
    unfold Sp.insert
    split
    · simp
    · split
      next heq => simp [heq]
      next => simp only [List.map_cons, List.mem_cons, ih, or_left_comm]

theorem mem_keys_of_find {m : List (Nat × α)} {k : Nat} {x : α} (h : Sp.find m k = some x) : k ∈ m.map (·.1) := by
  induction m with
  | nil => exact nomatch h
  | cons e m ih =>
    obtain ⟨i, v⟩ := e
    unfold Sp.find at h
    split at h
    next heq => exact heq ▸ List.mem_cons_self ..
    next => exact List.mem_cons_of_mem _ (ih h)

theorem find_filter_none {f : Nat → Bool} (m : List (Nat × α)) {k : Nat} (h : f k = false) :
    Sp.find (m.filter fun e => f e.1) k = none := by
  induction m with
  | nil => rfl
  | cons e m ih =>
    by_cases hf : f e.1 = true
    · have hne : e.1 ≠ k := fun he => by simp [he, h] at hf
      have hcons : (e :: m).filter (fun e => f e.1) = e :: m.filter (fun e => f e.1) := List.filter_cons_of_pos hf
      rw [hcons]
      exact (if_neg hne).trans ih
    · have hcons : (e :: m).filter (fun e => f e.1) = m.filter (fun e => f e.1) := List.filter_cons_of_neg hf
      rw [hcons]
      exact ih

end

section
variable {s u t : State} {q : Req} {l : Loc}

/-- What is stored or in force in a range of indices. -/
theorem mem_keysAt {lo hi sub k : Nat} : k ∈ s.keysAt lo hi sub ↔
    (k ∈ s.dict.map (·.1) ∨ k ∈ s.inForce.map (·.1)) ∧ lo ≤ k / 256 ∧ k / 256 < hi ∧ k % 256 = sub := by
  have hkept (ks : List Nat) (m : List (Nat × Unit)) :
      k ∈ (ks.foldl (fun m k => Sp.insert m k ()) m).map (·.1) ↔ k ∈ ks ∨ k ∈ m.map (·.1) := by
    induction ks generalizing m with
    | nil => simp
    | cons i ks ih => rw [List.foldl_cons, ih, mem_keys_insert, List.mem_cons, or_assoc, or_left_comm]
  simp only [State.keysAt, hkept, List.map_nil, List.not_mem_nil, or_false, List.mem_append, List.mem_filter, Bool.and_eq_true,
    decide_eq_true_eq, beq_iff_eq, ← or_and_right, and_assoc]

/-- An object that reads another value than its default is stored. -/
theorem mem_dict_of_obj {k : Nat} (h : s.obj k ≠ defaultOf s.variant k) : k ∈ s.dict.map (·.1) := by
  cases hfind : Sp.find s.dict k with
  | none => exact absurd (by simp only [State.obj, Sp.get, hfind, Option.getD_none]) h
  | some x => exact mem_keys_of_find hfind

/-! ## The nodes of a graph -/

theorem graphNode_default : ∀ c < 1024, ∀ v, defaultOf v (K.graphNodeSource c) = 0 := by
  have h : ∀ c < 1024, defaultOf .sv4x256 (K.graphNodeSource c) = 0 ∧ defaultOf .sv4x128 (K.graphNodeSource c) = 0 ∧
    defaultOf .sv4x256n (K.graphNodeSource c) = 0 := by decide +kernel
  intro c hc v
  obtain ⟨h1, h2, h3⟩ := h c hc
  cases v
  · exact h1
  · exact h2
  · exact h3

/-- A node of a graph is one of 1,024 whose source is in force. -/
theorem node_of_graph {n : Node} (h : n ∈ s.graphNodes) : n.ctx < 1024 ∧ s.force (K.graphNodeSource n.ctx) ≠ 0 := by
  simp only [State.graphNodes, State.nodesBy, List.mem_map, List.mem_filter, bne_iff_ne] at h
  obtain ⟨c, ⟨⟨k, hk, rfl⟩, hsource⟩, rfl⟩ := h
  obtain ⟨-, hlo, hhi, -⟩ := mem_keysAt.1 hk
  exact ⟨show k / 256 - 0x2400 < 1024 by omega, hsource⟩

/-- A source that is stored and in force belongs to a node of the graph. -/
theorem graph_has_node {c : Nat} (hc : c < 1024) (hforce : s.force (K.graphNodeSource c) ≠ 0) (hobj : s.obj (K.graphNodeSource c) ≠ 0) :
    nodeBy s.force c ∈ s.graphNodes := by
  have hdiv : K.graphNodeSource c / 256 = 0x2400 + c := key_div (by decide)
  have hmod : K.graphNodeSource c % 256 = 1 := key_mod (by decide)
  have hstored : K.graphNodeSource c ∈ s.dict.map (·.1) := mem_dict_of_obj (by rwa [graphNode_default c hc])
  have hkey : K.graphNodeSource c ∈ s.keysAt 0x2400 0x2800 1 := mem_keysAt.2 ⟨.inl hstored, by omega, by omega, hmod⟩
  refine List.mem_map_of_mem (List.mem_filter.2 ⟨List.mem_map.2 ⟨_, hkey, ?_⟩, bne_iff_ne.2 hforce⟩)
  rw [hdiv, Nat.add_sub_cancel_left]

theorem graphKey_range {k : Nat} (h : isGraphKey k = true) : 0x210007 ≤ k ∧ k < 0x280000 ∧ (k / 256 < 0x2200 → k = K.graphEncoders) := by
  simp only [isGraphKey, Bool.or_eq_true, Bool.and_eq_true, beq_iff_eq, decide_eq_true_eq] at h
  have hkey : K.graphEncoders = 0x210007 := rfl
  omega

/-! ## The commit -/

/-- Every written value of the graph is in force. -/
def graphTaken (s : State) : State := { s with inForce := s.inForce.filter (fun e => !isGraphKey e.1), placeDirty := true }

@[simp] theorem obj_graphTaken (s : State) (k : Nat) : (graphTaken s).obj k = s.obj k := rfl

/-- The contexts of the old graph are FREE, those of the new one DEFINED. -/
def graphContexts (old ns : List Node) (s : State) : State :=
  ns.foldl (fun st n => st.set (K.ctxState n.ctx) cDefined) (old.foldl (fun st n => st.set (K.ctxState n.ctx) cFree) s)

/-- The numbers of contexts and pieces. -/
def graphCounted (ns : List Node) (s : State) : State :=
  (s.set K.graphContexts ns.length).set K.graphPieces s.graphPieces.length

/-- The state and the CRC of the graph, and the copy to the shadow. -/
def graphShown (ns : List Node) (s : State) : State :=
  (s.startCopy.set K.graphState (if ns.isEmpty && s.startCopy.graphPieces.isEmpty then 0 else 1)).set K.graphCrc s.startCopy.graphCrcNow

theorem graphCommit_eq (s : State) : xGraphCommit s =
    graphShown (graphTaken s).graphNodes (graphCounted (graphTaken s).graphNodes
      (graphContexts s.graphNodes (graphTaken s).graphNodes (graphTaken s))) := rfl

/-- What the commit shows of itself leaves the rest alone. -/
structure KeepsGraph (u s : State) : Prop where
  obj : ∀ k, isGraphKey k = true → u.obj k = s.obj k
  inForce : u.inForce = s.inForce
  variant : u.variant = s.variant
  safeAsk : u.safeAsk = s.safeAsk
  placeDirty : u.placeDirty = s.placeDirty

theorem KeepsGraph.refl (s : State) : KeepsGraph s s := ⟨fun _ _ => rfl, rfl, rfl, rfl, rfl⟩

theorem KeepsGraph.trans {v : State} (h : KeepsGraph u v) (g : KeepsGraph v s) : KeepsGraph u s :=
  ⟨fun k hk => (h.obj k hk).trans (g.obj k hk), h.inForce.trans g.inForce, h.variant.trans g.variant, h.safeAsk.trans g.safeAsk,
    h.placeDirty.trans g.placeDirty⟩

theorem keepsGraph_set (s : State) {k : Nat} (v : Nat) (h : isGraphKey k = false) : KeepsGraph (s.set k v) s :=
  ⟨fun _ hi => obj_set_ne _ _ (fun he => by simp [he, h] at hi), set_inForce .., set_variant .., set_safeAsk .., set_placeDirty ..⟩

theorem keepsGraph_foldl {α : Type} (f : State → α → State) (h : ∀ t x, KeepsGraph (f t x) t) (xs : List α) (s : State) :
    KeepsGraph (xs.foldl f s) s := by
  induction xs generalizing s with
  | nil => exact .refl s
  | cons x xs ih => exact (ih _).trans (h s x)

theorem not_graphKey_of_ge {k : Nat} (h : 0x280000 ≤ k) : isGraphKey k = false := by
  rw [Bool.eq_false_iff]
  exact fun hk => absurd (graphKey_range hk).2.1 (Nat.not_lt.2 h)

theorem ctxState_ge (c : Nat) : 0x280000 ≤ K.ctxState c := by
  simp only [K.ctxState, key]
  omega

theorem keepsGraph_contexts (old ns : List Node) (s : State) : KeepsGraph (graphContexts old ns s) s :=
  (keepsGraph_foldl _ (fun _ _ => keepsGraph_set _ _ (not_graphKey_of_ge (ctxState_ge _))) _ _).trans
    (keepsGraph_foldl _ (fun _ _ => keepsGraph_set _ _ (not_graphKey_of_ge (ctxState_ge _))) _ _)

theorem keepsGraph_counted (ns : List Node) (s : State) : KeepsGraph (graphCounted ns s) s :=
  (keepsGraph_set _ _ (by decide)).trans (keepsGraph_set _ _ (by decide))

theorem obj_startCopy (s : State) (k : Nat) : s.startCopy.obj k = (s.set K.deviceStandbyShadow 0).obj k := rfl

theorem keepsGraph_startCopy (s : State) : KeepsGraph s.startCopy s :=
  ⟨fun k hk => (obj_startCopy s k).trans ((keepsGraph_set s 0 (by decide)).obj k hk), rfl, rfl, rfl, rfl⟩

theorem keepsGraph_shown (ns : List Node) (s : State) : KeepsGraph (graphShown ns s) s :=
  (keepsGraph_set _ _ (by decide)).trans ((keepsGraph_set _ _ (by decide)).trans (keepsGraph_startCopy s))

theorem keepsGraph_commit (s : State) : KeepsGraph (xGraphCommit s) (graphTaken s) := by
  rw [graphCommit_eq]
  exact (keepsGraph_shown ..).trans ((keepsGraph_counted ..).trans (keepsGraph_contexts ..))

theorem keepsGraph_dropPieces (s old : State) : KeepsGraph (s.dropPieces old) s := by
  unfold State.dropPieces
  extract_lets changed
  split
  · exact .refl s
  · exact keepsGraph_set _ _ (by decide)

/-- The contexts of the new graph are DEFINED. -/
theorem graphContexts_defined {old ns : List Node} {n : Node} (h : n ∈ ns) : (graphContexts old ns s).obj (K.ctxState n.ctx) = cDefined := by
  have hself (t : State) (m : Node) : (t.set (K.ctxState m.ctx) cDefined).obj (K.ctxState m.ctx) = cDefined := obj_set_self ..
  have hkept (t : State) (m : Node) (h : t.obj (K.ctxState n.ctx) = cDefined) :
      (t.set (K.ctxState m.ctx) cDefined).obj (K.ctxState n.ctx) = cDefined := by
    by_cases heq : K.ctxState n.ctx = K.ctxState m.ctx
    · rw [heq]
      exact hself t m
    · exact (obj_set_ne _ _ heq).trans h
  have hfold (xs : List Node) (t : State) (hn : n ∈ xs ∨ t.obj (K.ctxState n.ctx) = cDefined) :
      (xs.foldl (fun st n => st.set (K.ctxState n.ctx) cDefined) t).obj (K.ctxState n.ctx) = cDefined := by
    induction xs generalizing t with
    | nil => exact hn.resolve_left List.not_mem_nil
    | cons x xs ih =>
      rw [List.mem_cons, or_assoc] at hn
      refine ih _ (hn.elim (fun he => .inr ?_) fun h => h.imp id (hkept _ _))
      subst he
      exact hself t n
  exact hfold ns _ (.inl h)

theorem graphShown_obj (ns : List Node) (s : State) {k : Nat} (h : 0x280000 ≤ k) : (graphShown ns s).obj k = s.obj k := by
  have hne {i : Nat} (hi : i < 0x280000) : k ≠ i := by omega
  exact (obj_set_ne _ _ (hne (by decide))).trans ((obj_set_ne _ _ (hne (by decide))).trans
    ((obj_startCopy ..).trans (obj_set_ne _ _ (hne (by decide)))))

theorem graphCounted_obj (ns : List Node) (s : State) {k : Nat} (h : 0x280000 ≤ k) : (graphCounted ns s).obj k = s.obj k := by
  have hne {i : Nat} (hi : i < 0x280000) : k ≠ i := by omega
  exact (obj_set_ne _ _ (hne (by decide))).trans (obj_set_ne _ _ (hne (by decide)))

theorem graphCommit_defined {n : Node} (h : n ∈ (graphTaken s).graphNodes) : (xGraphCommit s).obj (K.ctxState n.ctx) = cDefined := by
  rw [graphCommit_eq, graphShown_obj _ _ (ctxState_ge _), graphCounted_obj _ _ (ctxState_ge _), graphContexts_defined h]

theorem graphShown_copying (ns : List Node) (s : State) :
    (graphShown ns s).copying = true ∧ (graphShown ns s).obj K.deviceStandbyShadow = 0 := by
  refine ⟨?_, ?_⟩
  · rw [graphShown, set_copying, set_copying]
    rfl
  · exact (obj_set_ne _ _ (by decide)).trans ((obj_set_ne _ _ (by decide)).trans ((obj_startCopy ..).trans (obj_set_self s _ _)))

theorem dropPieces_other (s old : State) {k : Nat} (h : k ≠ K.configPieces) : (s.dropPieces old).obj k = s.obj k := by
  unfold State.dropPieces
  extract_lets changed
  split
  · rfl
  · exact obj_set_ne _ _ h

theorem dropPieces_copying (s old : State) : (s.dropPieces old).copying = s.copying := by
  unfold State.dropPieces
  extract_lets changed
  split
  · rfl
  · exact set_copying ..

theorem graphTaken_force {k : Nat} (h : isGraphKey k = true) : Sp.find (graphTaken s).inForce k = none :=
  find_filter_none (f := fun k => !isGraphKey k) _ (by simp [h])

theorem force_record (s : State) (i c p k : Nat) : (s.record i c p).force k = s.force k := rfl

theorem isPending_record (s : State) (i c p k : Nat) : (s.record i c p).isPending k = s.isPending k := rfl

/-- What the commit leaves in force: every value as it is stored. -/
theorem KeepsGraph.force (h : KeepsGraph u (graphTaken s)) {k : Nat} (hk : isGraphKey k = true) :
    u.force k = s.obj k ∧ u.isPending k = false := by
  have hfind : Sp.find u.inForce k = none := by rw [h.inForce, graphTaken_force hk]
  refine ⟨?_, by rw [State.isPending, hfind]; rfl⟩
  rw [State.force, hfind, Option.getD_none, h.obj k hk, obj_graphTaken]

theorem graphNodeSource_graphKey {c : Nat} (hc : c < 1024) : isGraphKey (K.graphNodeSource c) = true := by
  have hdiv : K.graphNodeSource c / 256 = 0x2400 + c := key_div (by decide)
  have hlo : 0x2400 ≤ K.graphNodeSource c / 256 := by omega
  have hhi : K.graphNodeSource c / 256 < 0x2800 := by omega
  simp [isGraphKey, hlo, hhi]

/-! ## The commands -/

theorem graph_access {k : Nat} (h : isGraphKey k = true) : accessKey k = false := by
  have hkey : K.graphEncoders = 0x210007 := rfl
  obtain ⟨hlo, hhi, hfirst⟩ := graphKey_range h
  rw [← Nat.div_add_mod' k 256]
  exact access_key_false (i := k / 256) (b := k % 256) (Nat.mod_lt _ (by decide)) (by omega)

theorem putPlan_cases (t : State) (p : Put) : putPlan t p =
    if p.key_ = K.boardCommit then xBoardCommit (t.putValue p)
    else if p.key_ = K.placerTrial then xPlacerTrial (t.putValue p).pinConflict (t.putValue p)
    else if p.key_ = K.placerDefectAdd then xDefectAdd p.v (t.putValue p)
    else if p.key_ = K.placerDefectClear then xDefectClearAll (t.putValue p)
    else if p.key_ = K.graphCommit then (xGraphCommit (t.putValue p)).dropPieces t
    else if isGraphKey p.key_ then actGraph ((t.hold p.key_).poke p.key_ p.v) else t.putValue p := rfl

theorem putPlan_commit {p : Put} (h : p.key_ = K.graphCommit) : putPlan t p = (xGraphCommit (t.putValue p)).dropPieces t := by
  rw [putPlan_cases, h, if_neg (by decide), if_neg (by decide), if_neg (by decide), if_neg (by decide), if_pos rfl]

theorem putPlan_trial {p : Put} (h : p.key_ = K.placerTrial) :
    putPlan t p = xPlacerTrial (t.putValue p).pinConflict (t.putValue p) := by
  rw [putPlan_cases, h, if_neg (by decide), if_pos rfl]

theorem graphCommit_put (h : Accepts s (onObject q K.graphCommit) l) :
    putPlan (s.access (onObject q K.graphCommit)) (putAt s q K.graphCommit l) =
      (xGraphCommit (s.access (onObject q K.graphCommit))).dropPieces (s.access (onObject q K.graphCommit)) := by
  obtain ⟨-, hattr, -, -⟩ := accepted_row h (by decide) place_graphCommit
  rw [putPlan_commit (putAt_key ..), putValue_action _ hattr]

theorem graphCommit_completes (hsafe : s.safeAsk = 0) (h : Accepts s (onObject (withBody q (toLE 1 1)) K.graphCommit) l) :
    Completes (.graphCommit q) s
      (fun u => (∀ k, isGraphKey k = true → u.force k = s.obj k ∧ u.isPending k = false) ∧
        (∀ n ∈ u.graphNodes, u.ctxState n.ctx = cDefined) ∧ u.obj K.deviceStandbyShadow = 0 ∧ u.copying = true ∧
        u.placeDirty = true) (fun _ => True) := by
  generalize hw : withBody q (toLE 1 1) = w at h
  generalize ha : s.access (onObject w K.graphCommit) = a
  have hput := graphCommit_put h
  rw [ha] at hput
  have hkept : KeepsGraph ((xGraphCommit a).dropPieces a) (graphTaken a) := (keepsGraph_dropPieces ..).trans (keepsGraph_commit a)
  have hvariant : a.variant = s.variant := ha ▸ access_variant ..
  have hask : a.safeAsk = 0 := ha ▸ (access_safeAsk ..).trans hsafe
  have hobj {k : Nat} (hk : isGraphKey k = true) : a.obj k = s.obj k := ha ▸ obj_access h (graph_access hk)
  have hwritten : s.written (onObject w K.graphCommit) l = ((xGraphCommit a).dropPieces a).record K.graphCommit (a.classOf w.port) w.port := by
    rw [written_plan (by decide) (by decide), putBy, ha, hput]
  refine completes_put (q := w) ((exec_graphCommit q s).trans (by rw [hw]; rfl)) h (written_plan (by decide) (by decide)) (ha.symm ▸ hput)
    (hkept.variant.trans hvariant) (hkept.safeAsk.trans hask) ?_ fun _ _ => trivial
  rw [hwritten]
  generalize hu : (((xGraphCommit a).dropPieces a).record K.graphCommit (a.classOf w.port) w.port).answered (onObject w K.graphCommit) .write
    ((s.access (onObject w K.graphCommit)).readsTrace (onObject w K.graphCommit) .write) [] l.row.ty.code 0 = u
  have huobj (k : Nat) : u.obj k = ((xGraphCommit a).dropPieces a).obj k := by rw [← hu, answered_obj, obj_record]
  have huforce {k : Nat} (hk : isGraphKey k = true) : u.force k = a.obj k ∧ u.isPending k = false := by
    rw [← hu, answered_force, answered_isPending, force_record, isPending_record]
    exact hkept.force hk
  refine ⟨fun k hk => ?_, fun n hn => ?_, ?_, ?_, ?_⟩
  · rw [(huforce hk).1, hobj hk]
    exact ⟨rfl, (huforce hk).2⟩
  · obtain ⟨hc, hsource⟩ := node_of_graph hn
    have hkey := graphNodeSource_graphKey hc
    rw [(huforce hkey).1] at hsource
    have hforce : (graphTaken a).force (K.graphNodeSource n.ctx) ≠ 0 := by
      rw [State.force, graphTaken_force hkey]
      exact hsource
    have hdefined : (xGraphCommit a).obj (K.ctxState n.ctx) = cDefined := 
      graphCommit_defined (n := nodeBy (graphTaken a).force n.ctx) (graph_has_node hc hforce hsource)
    have hne : K.ctxState n.ctx ≠ K.configPieces := key_ne (by decide) (by decide) (.inr (by decide))
    rw [State.ctxState, huobj, dropPieces_other _ _ hne, hdefined]
  · rw [huobj, dropPieces_other _ _ (by decide), graphCommit_eq]
    exact (graphShown_copying ..).2
  · rw [← hu, answered_copying, record_copying, dropPieces_copying, graphCommit_eq]
    exact (graphShown_copying ..).1
  · rw [← hu, answered_placeDirty, record_placeDirty, hkept.placeDirty]
    rfl

/-- A trial that has run. -/
def withTrial (s : State) (r : Option (Nat × Nat)) : State := { s with trial := r }

theorem leaves_withTrial {ks : List Nat} (r : Option (Nat × Nat)) : Leaves ks (withTrial s r) s := leaves_of_dict rfl rfl rfl rfl rfl rfl

/-- What a trial gives: code 0 and the digest of a placement, or the code of its refusal. -/
theorem placerTrial_eq (s : State) : ∃ r : Nat × Nat, xPlacerTrial s.pinConflict s = withTrial s (some r) ∧
    (r.1 = 0 ↔ ∃ p, s.place s.pinConflict = .ok p ∧ r.2 = s.digestOf p) := by
  have hcoded := (coded_place s s.pinConflict (coded_pinConflict s)).code
  cases hplace : s.place s.pinConflict with
  | ok p =>
    refine ⟨(0, s.digestOf p), by rw [xPlacerTrial, hplace]; rfl, iff_of_true rfl ⟨p, rfl, rfl⟩⟩
  | error c =>
    refine ⟨(c.code, 0), by rw [xPlacerTrial, hplace]; rfl, iff_of_false (hcoded c hplace) ?_⟩
    rintro ⟨p, hp, -⟩
    exact nomatch hp

theorem placerTrial_writes (hsafe : s.safeAsk = 0) (h : Accepts s (onObject q K.placerTrial) l) :
    Writes (.placerTrial q) s (onObject q K.placerTrial) l []
      (fun u => u.plan = s.plan ∧ ∃ r, u.trial = some r ∧
        (r.1 = 0 ↔ ∃ p, ((s.access (onObject q K.placerTrial)).place (s.access (onObject q K.placerTrial)).pinConflict) = .ok p ∧
          r.2 = (s.access (onObject q K.placerTrial)).digestOf p)) := by
  obtain ⟨-, hattr, -, -⟩ := accepted_row h (by decide) place_placerTrial
  obtain ⟨r, htrial, hr⟩ := placerTrial_eq (s.access (onObject q K.placerTrial))
  have hput : putPlan (s.access (onObject q K.placerTrial)) (putAt s q K.placerTrial l) =
      withTrial (s.access (onObject q K.placerTrial)) (some r) := by
    rw [putPlan_trial (putAt_key ..), putValue_action _ hattr, htrial]
  refine writes_of_put (exec_placerTrial q s) hsafe h (written_plan (by decide) (by decide)) hput (leaves_withTrial _) (holds_nil _)
    ⟨?_, r, ?_, hr⟩
  · rw [answered_plan, record_plan]
    exact access_plan ..
  · rw [answered_trial, record_trial]
    rfl

theorem trialComplete_sets {t code digest : Nat} (h : Awake s) (htrial : s.trial = some (code, digest)) :
    Sets (.trialComplete t) s [(K.placerTrialResult, code), (K.placerTrialDigest, digest)] (fun u => u.trial = none) := by
  have htrial' : (s.begin_ t).trial = some (code, digest) := htrial
  have heffect : xTrialComplete (s.begin_ t) =
      withTrial (setAll (s.begin_ t) [(K.placerTrialResult, code), (K.placerTrialDigest, digest)]) none := by
    rw [xTrialComplete, htrial']
    rfl
  refine sets_event (exec_trialComplete ..) h ?_ ?_ ?_ <;> rw [heffect]
  · exact (leaves_withTrial none).trans (leaves_setAll ..)
  · exact holds_setAll (s.begin_ t) (vs := [(K.placerTrialResult, code), (K.placerTrialDigest, digest)])
      (by decide : [K.placerTrialResult, K.placerTrialDigest].Nodup)
  · rfl

end

/-- Settles O33: the commit, a trial and its end. -/
theorem graphsAreCommittedAndTried : Obligations.GraphsAreCommittedAndTried := by
  unfold Obligations.GraphsAreCommittedAndTried
  exact ⟨fun s q l hsafe h => graphCommit_completes hsafe h, fun s q l hsafe h => placerTrial_writes hsafe h,
    fun s t code digest h htrial => trialComplete_sets h htrial⟩

end Sys2Proof.Proofs
end

section
/-! # A hold that ends with a limiter behind

At the end of a hold the limiter of an output is brought up to the present before the safe move and once more at its beginning. A limiter
whose step is zero never gets nearer its target, so that its code jumps again and the next hold begins before the safe move does. -/

set_option Elab.async false

namespace Sys2Proof.Proofs

open Sys2Proof Sys2Proof.Machine Sys2Proof.Laws

/-- A limiter at code 1000 that has aimed at 1003 since reset, and a safe move that waits for the hold. -/
def limiterBehind : Dac := { Dac.none_ with slew := some (1000, 0, 1003), moveWaits := true }

/-- Output 0 ON and in a hold, its limiter behind with a step of 0, and its glitch step 0; the device in RUN for 2^30 clock units. -/
def heldOutput : State := { ((bootedInRun.poke (K.dacStatus 0) 66).poke (K.dacSlewStep 0) 0).poke (K.dacGlitchStep 0) 0 with
  clock := 1073741824, dacs := [(0, limiterBehind)] }

/-- What the end of the hold leaves, before the account of how the command ends. -/
abbrev holdEnded : State := xHoldEnd 0 (heldOutput.begin_ 0)

theorem holdEnded_moveWaits : (holdEnded.dac 0).moveWaits = true := by decide +kernel

theorem holdEnded_target : holdEnded.obj K.deviceModeTarget ≠ mSafe := by decide +kernel

theorem holdEnded_next : exec (.deglitchHoldEnd 0 0) heldOutput = .next (heldOutput.finish holdEnded) :=
  (exec_deglitchHoldEnd ..).trans (eventOf_next _ _ _ _ rfl rfl)

/-- Refutes O48: its clause on a safe move that waits for the end of a hold. The limiter of `heldOutput` opens the next hold as the safe move
would begin, and the safe move waits again. -/
theorem not_outputsStartStopAndProtect : ¬ Obligations.OutputsStartStopAndProtect := by
  unfold Obligations.OutputsStartStopAndProtect
  rintro ⟨-, hholdEnd, -⟩
  obtain ⟨hwaits, -, -⟩ := hholdEnd heldOutput 0 0 ⟨by decide +kernel, by decide +kernel⟩ (by decide +kernel) (by decide +kernel)
  obtain ⟨u, hu, ⟨hbegun, -⟩, -⟩ := hwaits (by decide +kernel)
  have hsame : heldOutput.finish holdEnded = heldOutput.finish u := Host.Outcome.next.inj (holdEnded_next.symm.trans hu)
  have hdacs : holdEnded.dacs = u.dacs :=
    (Prod.mk.inj (innards_of_finish_eq (by decide +kernel) (by decide +kernel) holdEnded_target hsame)).2
  have hdac : holdEnded.dac 0 = u.dac 0 := by unfold State.dac; rw [hdacs]
  exact Bool.noConfusion (holdEnded_moveWaits.symm.trans ((congrArg Dac.moveWaits hdac).trans hbegun))

end Sys2Proof.Proofs
end

section
/-! # Strobes

The path of a word from the feed to the pin moves the objects of its own output and the sources of events alone: the strobe groups stand. -/

set_option Elab.async false

namespace Sys2Proof.Proofs

open Sys2Proof Sys2Proof.Machine Sys2Proof.Laws

/-! ## The word that an output takes -/

/-- The feed of an output without the word of strobe k. -/
def fedBy (s : State) (n k : Nat) : State := (s.modDac n (fun x => { x with feed := (s.takeFeed n k).2, fed := true })).showFeed n

/-- An output whose feed was empty, counted. -/
def starved (s : State) (n : Nat) : State := (((s.dacFlag n 2 true).dacBit n 5 true).count (K.dacUnderruns n) 32 1).raise 758 n

/-- An output whose feed had a word. -/
def filled (s : State) (n : Nat) : State := (s.dacFlag n 2 false).dacBit n 5 false

/-- A pending scale takes effect with the first word of a line. -/
def settledBy (s : State) (n : Nat) (w : FeedWord) : State := if w.first then s.settle (K.dacScale n) else s

theorem takeWord_eq (s : State) (n k : Nat) : s.takeWord_ n k =
    if s.feedCtx n = 0xFFFF then s
    else match (s.takeFeed n k).1 with
      | none => starved (fedBy s n k) n
      | some w => match w.code with
        | none => settledBy (filled (fedBy s n k) n) n w
        | some c => (settledBy (filled (fedBy s n k) n) n w).putCode n c := rfl

/-! ## What the outputs leave alone of the strobe groups -/

section
variable {a b s u : State} {n g k : Nat}

/-- The strobe groups, their objects and their hidden state, are as they were. -/
structure KeepsGroups (u s : State) : Prop where
  obj : ∀ k, 0x648000 ≤ k → k < 0x649000 → u.obj k = s.obj k
  strobes : u.strobes = s.strobes

theorem KeepsGroups.refl (s : State) : KeepsGroups s s := ⟨fun _ _ _ => rfl, rfl⟩

theorem KeepsGroups.trans (h : KeepsGroups a b) (g : KeepsGroups b s) : KeepsGroups a s :=
  ⟨fun k lo hi => (h.obj k lo hi).trans (g.obj k lo hi), h.strobes.trans g.strobes⟩

theorem keepsGroups_of_dict (hv : u.variant = s.variant) (hd : u.dict = s.dict) (hs : u.strobes = s.strobes) : KeepsGroups u s :=
  ⟨fun _ _ _ => by simp only [State.obj, hv, hd], hs⟩

theorem keepsGroups_ite {c : Prop} [Decidable c] (h : KeepsGroups a s) (g : KeepsGroups b s) : KeepsGroups (if c then a else b) s := by
  split
  · exact h
  · exact g

theorem keepsGroups_foldl {β : Type} (f : State → β → State) (xs : List β) (s : State)
    (h : ∀ s, ∀ x ∈ xs, KeepsGroups (f s x) s) : KeepsGroups (xs.foldl f s) s := by
  induction xs generalizing s with
  | nil => exact KeepsGroups.refl s
  | cons x xs ih => exact (ih _ fun s y hy => h s y (List.mem_cons_of_mem _ hy)).trans (h s x List.mem_cons_self)

/-- The objects of the outputs, with `j` from 0 to 3, stand before those of the groups. -/
theorem keepsGroups_set (s : State) {k : Nat} (v : Nat) (hk : k < 0x648000) : KeepsGroups (s.set k v) s :=
  ⟨fun _ lo _ => obj_set_ne _ _ (by omega), rfl⟩

theorem keepsGroups_raise (s : State) (n d : Nat) : KeepsGroups (s.raise n d) s :=
  ⟨fun _ _ hi => obj_raise_of_lt _ _ _ (by omega), raise_strobes ..⟩

theorem keepsGroups_modDac (s : State) (n : Nat) (f : Dac → Dac) : KeepsGroups (s.modDac n f) s := keepsGroups_of_dict rfl rfl rfl

theorem groups_after {i a : Nat} (hi : i < 0x6480) (ha : a < 256) : key i a < 0x648000 := by
  unfold key
  omega

theorem keepsGroups_settledBy (s : State) (n : Nat) (w : FeedWord) : KeepsGroups (settledBy s n w) s := by
  unfold settledBy
  exact keepsGroups_ite (keepsGroups_of_dict rfl rfl rfl) (KeepsGroups.refl s)

variable (hn : n < 32)
include hn

theorem keepsGroups_waitCode (s : State) (code : Int) : KeepsGroups (s.waitCode n code) s := by
  have hmerged : KeepsGroups (s.count (K.dacMerged n) 32 1) s := keepsGroups_set _ _ (groups_after (by omega) (by decide))
  unfold State.waitCode
  extract_lets t
  have ht : KeepsGroups t s := keepsGroups_ite hmerged (KeepsGroups.refl s)
  exact (keepsGroups_modDac ..).trans ht

theorem keepsGroups_enterCode (s : State) (code : Int) : KeepsGroups (s.enterCode n code) s := by
  have hcode (v : Nat) : KeepsGroups (s.set (K.dacCode n) v) s := keepsGroups_set _ _ (groups_after (by omega) (by decide))
  refine keepsGroups_ite (keepsGroups_waitCode hn ..) (keepsGroups_ite ?_ (hcode _))
  exact (keepsGroups_set _ _ (groups_after (by omega) (by decide))).trans
    ((keepsGroups_set _ _ (groups_after (by omega) (by decide))).trans (hcode _))

theorem keepsGroups_slewOn (s : State) : KeepsGroups (s.slewOn n) s := by
  unfold State.slewOn
  split
  · exact KeepsGroups.refl s
  · extract_lets step period far m last moved stepped
    have hmoved : KeepsGroups moved s := keepsGroups_modDac ..
    have hstepped : KeepsGroups stepped s := (keepsGroups_enterCode hn ..).trans hmoved
    have hmerged : KeepsGroups (stepped.count (K.dacMerged n) 32 (m - 2)) s :=
      (keepsGroups_set _ _ (groups_after (by omega) (by decide))).trans hstepped
    exact keepsGroups_ite (KeepsGroups.refl s) <| keepsGroups_ite ((keepsGroups_enterCode hn ..).trans hmoved) <|
      keepsGroups_ite hstepped <| (keepsGroups_ite (keepsGroups_waitCode hn ..) (keepsGroups_enterCode hn ..)).trans hmerged

theorem keepsGroups_slewTo (s : State) (target : Int) : KeepsGroups (s.slewTo n target) s := by
  unfold State.slewTo
  extract_lets t from_
  have ht : KeepsGroups t s := keepsGroups_slewOn hn s
  exact keepsGroups_ite ((keepsGroups_enterCode hn ..).trans ((keepsGroups_modDac ..).trans ht))
    ((keepsGroups_slewOn hn _).trans ((keepsGroups_modDac ..).trans ht))

theorem keepsGroups_dacFlag (s : State) (bit : Nat) (v : Bool) : KeepsGroups (s.dacFlag n bit v) s :=
  keepsGroups_set _ _ (groups_after (by omega) (by decide))

theorem keepsGroups_dacBit (s : State) (bit : Nat) (v : Bool) : KeepsGroups (s.dacBit n bit v) s :=
  keepsGroups_set _ _ (groups_after (by omega) (by decide))

theorem keepsGroups_putCode (s : State) (code : Int) : KeepsGroups (s.putCode n code) s :=
  keepsGroups_ite (KeepsGroups.refl s) <| (keepsGroups_slewTo hn ..).trans <|
    keepsGroups_ite (keepsGroups_dacFlag hn ..) (KeepsGroups.refl s)

theorem keepsGroups_takeWord (s : State) (k : Nat) : KeepsGroups (s.takeWord_ n k) s := by
  have hfed : KeepsGroups (fedBy s n k) s := (keepsGroups_set _ _ (groups_after (by omega) (by decide))).trans (keepsGroups_modDac ..)
  rw [takeWord_eq]
  refine keepsGroups_ite (KeepsGroups.refl s) ?_
  split
  · exact (keepsGroups_raise ..).trans <| (keepsGroups_set _ _ (groups_after (by omega) (by decide))).trans <|
      (keepsGroups_dacBit hn ..).trans ((keepsGroups_dacFlag hn ..).trans hfed)
  next w _ =>
    have hfilled : KeepsGroups (filled (fedBy s n k) n) s := (keepsGroups_dacBit hn ..).trans ((keepsGroups_dacFlag hn ..).trans hfed)
    have hsettled : KeepsGroups (settledBy (filled (fedBy s n k) n) n w) s := (keepsGroups_settledBy ..).trans hfilled
    split
    · exact hsettled
    · exact (keepsGroups_putCode hn ..).trans hsettled

end

/-! ## A strobe -/

section
variable {s : State} {t g n : Nat}

/-- One trigger or edge fewer that has had no strobe. -/
def spent (s : State) (g : Nat) : State := s.setStrobe g { s.strobe g with owed := (s.strobe g).owed - 1 }

/-- The effect of a strobe that is counted, before the outputs take their words. -/
def struck (s : State) (g : Nat) : State := (((spent s g).countStrobe g).tally (K.dacGroupStrobes g) 64 1).blankBy 3 g

/-- A strobe comes within 40 ns of the last one. -/
def near (s : State) (g : Nat) : Bool := (s.strobe g).last.any fun z => decide (s.clock < z + 40 * perNs)

/-- The outputs of a group that take their next word. -/
def takers (s : State) (g : Nat) : List Nat := s.allDacs.filter fun n => s.obj (K.dacGroup n) == g && s.dacOn n

theorem match_eq_any (o : Option Nat) (p : Nat → Bool) : (match o with | some t => p t | none => false) = o.any p := by
  cases o <;> rfl

theorem strobe_spent (s : State) (g : Nat) : (spent s g).strobe g = { s.strobe g with owed := (s.strobe g).owed - 1 } := get_put_self ..

theorem xDacStrobe_eq (hg : g < 4) (hrun : s.strobesRun = true) (hdue : s.strobeDue g = true) :
    xDacStrobe g s =
      if !(strobeKind (s.obj (K.dacGroupSource g)) == 1) && near (spent s g) g then (spent s g).count (K.dacGroupMissed g) 32 1
      else if (struck s g).mode = mRun then
        (takers (struck s g) g).foldl (fun st n => st.takeWord_ n (s.obj (K.dacGroupStrobes g))) (struck s g)
      else struck s g := by
  have hrest : (decide (g ≥ 4) || !s.strobesRun || !s.strobeDue g) ≠ true := by simp [hrun, hdue, hg]
  unfold xDacStrobe near
  rw [if_neg hrest, ← match_eq_any]
  rfl

theorem groupKey_lo (i a : Nat) : 0x648000 ≤ key (0x6480 + i) a := by
  unfold key
  omega

theorem strobe_setStrobe (s : State) (g : Nat) (x : Strobe) : (s.setStrobe g x).strobe g = x := get_put_self ..

theorem strobe_set (s : State) (k v g : Nat) : (s.set k v).strobe g = s.strobe g := rfl

theorem dacs_countStrobe (s : State) (g : Nat) : (s.countStrobe g).dacs = s.dacs := by
  unfold State.countStrobe
  extract_lets x
  split
  · rfl
  · exact (set_dacs ..).trans rfl

theorem dacs_blankBy (s : State) (code num : Nat) : (s.blankBy code num).dacs = s.dacs :=
  foldl_keeps State.dacs _ _ _ fun _ _ => rfl

theorem dacs_struck (s : State) (g : Nat) : (struck s g).dacs = s.dacs :=
  (dacs_blankBy ..).trans ((tally_dacs ..).trans ((dacs_countStrobe ..).trans rfl))

theorem leaves_blankBy (s : State) (code num : Nat) : Leaves ks (s.blankBy code num) s :=
  leaves_foldl _ _ _ fun _ _ _ => leaves_of_dict rfl rfl rfl rfl rfl rfl

theorem dict_blankBy (s : State) (code num : Nat) : (s.blankBy code num).dict = s.dict :=
  foldl_keeps State.dict _ _ _ fun _ _ => rfl

theorem strobes_blankBy (s : State) (code num : Nat) : (s.blankBy code num).strobes = s.strobes :=
  foldl_keeps State.strobes _ _ _ fun _ _ => rfl

theorem variant_blankBy (s : State) (code num : Nat) : (s.blankBy code num).variant = s.variant :=
  foldl_keeps State.variant _ _ _ fun _ _ => rfl

theorem obj_blankBy (s : State) (code num k : Nat) : (s.blankBy code num).obj k = s.obj k := by
  simp only [State.obj, dict_blankBy, variant_blankBy]

/-- A strobe is counted in the window of its group's rate, which it may end. -/
theorem obj_countStrobe (s : State) (g : Nat) {k : Nat} (hk : k ≠ K.dacGroupRate g) : (s.countStrobe g).obj k = s.obj k := by
  unfold State.countStrobe
  extract_lets x
  split
  · rfl
  · exact (obj_set_ne _ _ hk).trans rfl

theorem last_countStrobe (s : State) (g : Nat) :
    ((s.countStrobe g).strobe g).last = some s.clock ∧ ((s.countStrobe g).strobe g).owed = (s.strobe g).owed := by
  unfold State.countStrobe
  extract_lets x
  split
  · rw [strobe_setStrobe]
    exact ⟨rfl, rfl⟩
  · rw [strobe_set, strobe_setStrobe]
    exact ⟨rfl, rfl⟩

theorem clock_spent (s : State) (g : Nat) : (spent s g).clock = s.clock := rfl

theorem strobe_blankBy (s : State) (code num g : Nat) : (s.blankBy code num).strobe g = s.strobe g :=
  congrArg (fun m => Sp.get (fun _ => Strobe.none_) m g) (strobes_blankBy ..)

theorem strobe_tally (s : State) (k w n g : Nat) : (s.tally k w n).strobe g = s.strobe g := rfl

theorem strobe_struck (s : State) (g : Nat) :
    ((struck s g).strobe g).last = some s.clock ∧ ((struck s g).strobe g).owed = (s.strobe g).owed - 1 := by
  rw [struck, strobe_blankBy, strobe_tally, (last_countStrobe _ g).1, (last_countStrobe _ g).2, clock_spent, strobe_spent]
  exact ⟨rfl, rfl⟩

theorem obj_struck (s : State) (g : Nat) {k : Nat} (hr : k ≠ K.dacGroupRate g) (hs : k ≠ K.dacGroupStrobes g) :
    (struck s g).obj k = s.obj k :=
  (obj_blankBy ..).trans ((obj_tally_ne _ _ _ hs).trans ((obj_countStrobe _ _ hr).trans rfl))

theorem obj_struck_of_lt (s : State) (g : Nat) {k : Nat} (hk : k < 0x648000) : (struck s g).obj k = s.obj k :=
  obj_struck s g (fun e => absurd (groupKey_lo g 2) (by rw [e] at hk; exact Nat.not_le.2 hk))
    fun e => absurd (groupKey_lo g 4) (by rw [e] at hk; exact Nat.not_le.2 hk)

theorem strobes_struck (s : State) (g : Nat) :
    (struck s g).obj (K.dacGroupStrobes g) = wrapAdd 64 (s.obj (K.dacGroupStrobes g)) 1 := by
  have hne : K.dacGroupStrobes g ≠ K.dacGroupRate g := key_ne (by decide) (by decide) (.inr (by decide))
  rw [struck, obj_blankBy, obj_tally_self, obj_countStrobe _ _ hne]
  rfl

theorem dacCount_le (v : Variant) : dacCount v ≤ 32 := by cases v <;> decide

theorem lt_of_taker (h : n ∈ takers s g) : n < 32 :=
  (List.mem_range.1 (List.mem_of_mem_filter h)).trans_le (dacCount_le _)

theorem keepsGroups_takeWords (s u : State) (g k : Nat) : KeepsGroups ((takers u g).foldl (fun st n => st.takeWord_ n k) s) s :=
  keepsGroups_foldl _ _ _ fun _ _ hn => keepsGroups_takeWord (lt_of_taker hn) ..

/-- A strobe that is counted, with the words that the outputs take of it. -/
theorem keepsGroups_xDacStrobe (hg : g < 4) (hrun : s.strobesRun = true) (hdue : s.strobeDue g = true)
    (hnear : strobeKind (s.obj (K.dacGroupSource g)) = 1 ∨ near (spent s g) g = false) :
    KeepsGroups (xDacStrobe g s) (struck s g) := by
  rw [xDacStrobe_eq hg hrun hdue, if_neg (by rcases hnear with h | h <;> simp [h])]
  exact keepsGroups_ite (keepsGroups_takeWords ..) (KeepsGroups.refl _)

/-! ## The three ends of a strobe -/

theorem near_spent (s : State) (t g : Nat) :
    near (spent (s.begin_ t) g) g = (s.strobe g).last.any fun z => decide (max s.clock t < z + 40 * perNs) := by
  have hclock : (s.begin_ t).clock = max s.clock t := rfl
  have hstrobe : (s.begin_ t).strobe g = s.strobe g := rfl
  rw [near, strobe_spent, clock_spent, hclock, hstrobe]

theorem groupStrobes_range (hg : g < 4) : 0x648000 ≤ K.dacGroupStrobes g ∧ K.dacGroupStrobes g < 0x649000 := by
  unfold K.dacGroupStrobes key
  omega

theorem xDacStrobe_counted (hg : g < 4) (hrun : s.strobesRun = true) (hdue : s.strobeDue g = true)
    (hnear : strobeKind (s.obj (K.dacGroupSource g)) = 1 ∨ near (spent s g) g = false) :
    (xDacStrobe g s).obj (K.dacGroupStrobes g) = wrapAdd 64 (s.obj (K.dacGroupStrobes g)) 1 ∧
      ((xDacStrobe g s).strobe g).last = some s.clock ∧ ((xDacStrobe g s).strobe g).owed = (s.strobe g).owed - 1 := by
  have hkeep := keepsGroups_xDacStrobe hg hrun hdue hnear
  obtain ⟨hlo, hhi⟩ := groupStrobes_range hg
  obtain ⟨hlast, howed⟩ := strobe_struck s g
  have hstrobe : (xDacStrobe g s).strobe g = (struck s g).strobe g :=
    congrArg (fun m => Sp.get (fun _ => Strobe.none_) m g) hkeep.strobes
  exact ⟨(hkeep.obj _ hlo hhi).trans (strobes_struck ..), (congrArg Strobe.last hstrobe).trans hlast,
    (congrArg Strobe.owed hstrobe).trans howed⟩

theorem xDacStrobe_still (hg : g < 4) (hrun : s.strobesRun = true) (hdue : s.strobeDue g = true)
    (hnear : strobeKind (s.obj (K.dacGroupSource g)) = 1 ∨ near (spent s g) g = false) (hmode : s.mode ≠ mRun) :
    xDacStrobe g s = struck s g := by
  have hmode' : (struck s g).mode ≠ mRun := by rwa [State.mode, obj_struck_of_lt _ _ (by decide)]
  rw [xDacStrobe_eq hg hrun hdue, if_neg (by rcases hnear with h | h <;> simp [h]), if_neg hmode']

theorem xDacStrobe_missed (hg : g < 4) (hrun : s.strobesRun = true) (hdue : s.strobeDue g = true)
    (htimed : (strobeKind (s.obj (K.dacGroupSource g)) == 1) = false) (hnear : near (spent s g) g = true) :
    xDacStrobe g s = (spent s g).count (K.dacGroupMissed g) 32 1 := by
  rw [xDacStrobe_eq hg hrun hdue, if_pos (by rw [htimed, hnear]; rfl)]

theorem leaves_spent (s : State) (g : Nat) : Leaves ks (spent s g) s := leaves_of_dict rfl rfl rfl rfl rfl rfl

theorem leaves_setStrobe (s : State) (g : Nat) (x : Strobe) : Leaves ks (s.setStrobe g x) s := leaves_of_dict rfl rfl rfl rfl rfl rfl

theorem countStrobe_early (hearly : s.clock < (s.strobe g).start + perMs) :
    s.countStrobe g = s.setStrobe g { s.strobe g with last := some s.clock, seen := (s.strobe g).seen + 1 } := if_pos hearly

theorem leaves_struck (hearly : s.clock < (s.strobe g).start + perMs) :
    Leaves [K.dacGroupStrobes g] (struck s g) s := by
  have hearly' : (spent s g).clock < ((spent s g).strobe g).start + perMs := by rwa [strobe_spent]
  rw [struck, countStrobe_early hearly']
  exact (leaves_blankBy ..).trans <| (leaves_tally _ _ _ List.mem_cons_self).trans <|
    (leaves_setStrobe ..).trans (leaves_spent s g)

theorem seen_struck (hearly : s.clock < (s.strobe g).start + perMs) :
    ((struck s g).strobe g).seen = (s.strobe g).seen + 1 := by
  have hearly' : (spent s g).clock < ((spent s g).strobe g).start + perMs := by rwa [strobe_spent]
  rw [struck, strobe_blankBy, strobe_tally, countStrobe_early hearly', strobe_setStrobe, strobe_spent]

/-! ## One output -/

theorem dac_fedBy (s : State) (n k : Nat) : (fedBy s n k).dac n = { s.dac n with feed := (s.takeFeed n k).2, fed := true } :=
  get_put_self ..


theorem dacStatus_lt (hn : n < 32) : K.dacStatus n < 0x648000 := groups_after (by omega) (by decide)

theorem dacGroup_lt (hn : n < 32) : K.dacGroup n < 0x648000 := groups_after (by omega) (by decide)

theorem dacCtx_lt (hn : n < 32) : K.dacCtx n < 0x648000 := groups_after (by omega) (by decide)

theorem variant_countStrobe (s : State) (g : Nat) : (s.countStrobe g).variant = s.variant := by
  unfold State.countStrobe
  extract_lets x
  split
  · rfl
  · exact (set_variant ..).trans rfl

theorem variant_struck (s : State) (g : Nat) : (struck s g).variant = s.variant :=
  (variant_blankBy ..).trans ((tally_variant ..).trans ((variant_countStrobe ..).trans rfl))

theorem takers_struck (s : State) (g i : Nat) : takers (struck s g) i = takers s i := by
  unfold takers State.allDacs
  rw [variant_struck]
  refine List.filter_congr fun n hn => ?_
  have hn : n < 32 := (List.mem_range.1 hn).trans_le (dacCount_le _)
  rw [State.dacOn, State.dacOn, obj_struck_of_lt _ _ (dacStatus_lt hn), obj_struck_of_lt _ _ (dacGroup_lt hn)]

variable (hn : n < 32) (hctx : s.feedCtx n ≠ 0xFFFF) (hwave : s.isWave (s.feedCtx n) = false) (hwhole : (s.dac n).whole = false)
include hctx hwave hwhole

theorem takeWord_empty (k : Nat) (hfeed : (s.dac n).feed = []) : s.takeWord_ n k = starved (fedBy s n k) n := by
  have htake : (s.takeFeed n k).1 = none := by
    unfold State.takeFeed
    simp [hwhole, hwave, hfeed]
  rw [takeWord_eq, if_neg hctx, htake]

theorem takeWord_word (k : Nat) {due : Nat} {c : Int} {ws : List FeedWord} (hfeed : (s.dac n).feed = ⟨due, false, some c⟩ :: ws) :
    s.takeWord_ n k = (filled (fedBy s n k) n).putCode n c ∧ ((fedBy s n k).dac n).feed = ws := by
  have htake : s.takeFeed n k = (some ⟨due, false, some c⟩, ws) := by
    unfold State.takeFeed
    simp [hwhole, hwave, hfeed]
  constructor
  · rw [takeWord_eq, if_neg hctx, htake]
    rfl
  · rw [dac_fedBy, htake]

omit hctx hwave hwhole in
theorem obj_fedBy (s : State) (n k : Nat) {i : Nat} (hi : i ≠ K.dacFill n) : (fedBy s n k).obj i = s.obj i :=
  (obj_set_ne _ _ hi).trans rfl

omit hctx hwave hwhole in
theorem dac_subs_ne {i j a b : Nat} (h : a < 256 ∧ b < 256 ∧ a ≠ b) : key i a ≠ key j b := key_ne h.1 h.2.1 (.inr h.2.2)

omit hctx hwave hwhole in
/-- An empty feed repeats the code in force, and is counted. -/
theorem starved_obj (s : State) (hn : n < 32) :
    (starved s n).obj (K.dacUnderruns n) = satAdd 32 (s.obj (K.dacUnderruns n)) 1 ∧
      (starved s n).obj (K.dacCode n) = s.obj (K.dacCode n) ∧
      ((starved s n).obj (K.dacFlags n)).testBit 2 = true := by
  have hraise {k : Nat} (hk : k < 0x648000) :
      (starved s n).obj k = (((s.dacFlag n 2 true).dacBit n 5 true).count (K.dacUnderruns n) 32 1).obj k :=
    obj_raise_of_lt _ _ _ (by omega)
  have hstatus : K.dacFlags n ≠ K.dacStatus n := key_ne (by decide) (by decide) (.inl (by omega))
  have hbit {k : Nat} (hs : k ≠ K.dacStatus n) : ((s.dacFlag n 2 true).dacBit n 5 true).obj k = (s.dacFlag n 2 true).obj k :=
    obj_set_ne _ _ hs
  have hflag {k : Nat} (hf : k ≠ K.dacFlags n) : (s.dacFlag n 2 true).obj k = s.obj k := obj_set_ne _ _ hf
  have hunderruns : K.dacUnderruns n < 0x648000 := groups_after (by omega) (by decide)
  have hcode : K.dacCode n < 0x648000 := groups_after (by omega) (by decide)
  have hflags : K.dacFlags n < 0x648000 := groups_after (by omega) (by decide)
  refine ⟨(hraise hunderruns).trans ((obj_count_self ..).trans (congrArg (satAdd 32 · 1) ?_)),
    (hraise hcode).trans ((obj_count_ne _ _ _ (dac_subs_ne (by decide))).trans ?_), ?_⟩
  · exact (hbit (dac_subs_ne (by decide))).trans (hflag (dac_subs_ne (by decide)))
  · exact (hbit (dac_subs_ne (by decide))).trans (hflag (dac_subs_ne (by decide)))
  · have hset : (starved s n).obj (K.dacFlags n) = (s.dacFlag n 2 true).obj (K.dacFlags n) :=
      (hraise hflags).trans ((obj_count_ne _ _ _ (dac_subs_ne (by decide))).trans (hbit hstatus))
    rw [hset, State.dacFlag, obj_set_self, testBit_withBit_self]

end

/-! ## A word that meets no limiter -/

section
variable {s : State} {n : Nat}

/-- The hold that a jump begins moves no code. -/
theorem jumped_code (s : State) (n : Nat) : ((s.count (K.dacHolds n) 32 1).dacBit n 6 true).obj (K.dacCode n) = s.obj (K.dacCode n) := by
  have hstatus : K.dacCode n ≠ K.dacStatus n := dac_subs_ne (by decide)
  have hholds : K.dacCode n ≠ K.dacHolds n := dac_subs_ne (by decide)
  exact (obj_set_ne _ _ hstatus).trans (obj_count_ne _ _ _ hholds)

theorem jumped_dacs (s : State) (n : Nat) : ((s.count (K.dacHolds n) 32 1).dacBit n 6 true).dacs = s.dacs :=
  (set_dacs ..).trans (count_dacs ..)

/-- A code that meets no hold is the code of its output. -/
theorem enterCode_code (s : State) (n : Nat) (code : Int) (hhold : s.holding n = false) :
    (s.enterCode n code).obj (K.dacCode n) = unsigned 32 code ∧ (s.enterCode n code).dacs = s.dacs := by
  have hcode : (s.set (K.dacCode n) (unsigned 32 code)).obj (K.dacCode n) = unsigned 32 code := obj_set_self ..
  unfold State.enterCode
  rw [if_neg (by simp [hhold])]
  extract_lets jump t
  split
  · exact ⟨(jumped_code t n).trans hcode, (jumped_dacs t n).trans (set_dacs ..)⟩
  · exact ⟨hcode, set_dacs ..⟩

/-- A word that meets neither a safe move nor a limiter nor a hold is the code of its output. -/
theorem putCode_code (c : Int) (hmove : (s.dac n).move = none) (hmw : (s.dac n).moveWaits = false) (hslew : (s.dac n).slew = none)
    (hen : s.obj (K.dacSlewEnable n) = 0) (hhold : s.holding n = false) :
    (s.putCode n c).obj (K.dacCode n) = unsigned 32 (s.scaled n c).1 ∧ ((s.putCode n c).dac n).feed = (s.dac n).feed := by
  have hclear : ((s.dac n).move.isSome || (s.dac n).moveWaits) ≠ true := by simp [hmove, hmw]
  unfold State.putCode
  rw [if_neg hclear]
  extract_lets v t
  have ht : ∀ k ≠ K.dacFlags n, t.obj k = s.obj k := fun k hk => by
    simp only [t]
    split
    · exact obj_set_ne _ _ hk
    · rfl
  have hdacs : t.dacs = s.dacs := by
    simp only [t]
    split <;> rfl
  have hdac : t.dac n = s.dac n := congrArg (fun m => Sp.get (fun _ => Dac.none_) m n) hdacs
  have hidle : t.slewOn n = t := by
    unfold State.slewOn
    rw [hdac, hslew]
  have hen' : t.obj (K.dacSlewEnable n) = 0 := (ht _ (key_ne (by decide) (by decide) (.inr (by decide)))).trans hen
  have hhold' : (t.modDac n fun x => { x with slew := none }).holding n = false := by
    have hstatus : t.obj (K.dacStatus n) = s.obj (K.dacStatus n) := ht _ (key_ne (by decide) (by decide) (.inl (by omega)))
    exact (congrArg (·.testBit 6) hstatus).trans hhold
  unfold State.slewTo
  rw [hidle]
  rw [if_pos hen']
  obtain ⟨hcode, hafter⟩ := enterCode_code (t.modDac n fun x => { x with slew := none }) n v.1 hhold'
  refine ⟨hcode, ?_⟩
  have hmod : (t.modDac n fun x => { x with slew := none }).dac n = { t.dac n with slew := none } := get_put_self ..
  rw [State.dac, hafter, ← State.dac, hmod, hdac]

/-! ## The strobe of one output -/

theorem strobesRun_of_run (h : s.mode = mRun) : s.strobesRun = true := by
  simp [State.strobesRun, h]

theorem xDacStrobe_single (hg : g < 4) (hrun : s.strobesRun = true) (hdue : s.strobeDue g = true)
    (hsource : strobeKind (s.obj (K.dacGroupSource g)) = 1) (hmode : s.mode = mRun) (hone : takers s g = [n]) :
    xDacStrobe g s = (struck s g).takeWord_ n (s.obj (K.dacGroupStrobes g)) := by
  have hmode' : (struck s g).mode = mRun := by rwa [State.mode, obj_struck_of_lt _ _ (by decide)]
  rw [xDacStrobe_eq hg hrun hdue, if_neg (by simp [hsource]), if_pos hmode', takers_struck, hone, List.foldl_cons, List.foldl_nil]

theorem dac_struck (s : State) (g n : Nat) : (struck s g).dac n = s.dac n :=
  congrArg (fun m => Sp.get (fun _ => Dac.none_) m n) (dacs_struck ..)

theorem feedCtx_struck (s : State) (g : Nat) (hn : n < 32) : (struck s g).feedCtx n = s.feedCtx n :=
  obj_struck_of_lt _ _ (dacCtx_lt hn)

theorem inForce_struck (s : State) (g : Nat) : (struck s g).inForce = s.inForce := by
  have hblank (u : State) : (u.blankBy 3 g).inForce = u.inForce := foldl_keeps State.inForce _ _ _ fun _ _ => rfl
  have hcount (u : State) : (u.countStrobe g).inForce = u.inForce := by
    unfold State.countStrobe
    extract_lets x
    split
    · rfl
    · exact (set_inForce ..).trans rfl
  exact (hblank _).trans ((tally_inForce ..).trans ((hcount _).trans rfl))

/-- Subindices 2 and 4, those of `rate` and `strobes`, aside, a strobe leaves every object as it was. -/
theorem obj_struck_sub (s : State) (g : Nat) {i a : Nat} (h : a < 256 ∧ a ≠ 2 ∧ a ≠ 4) :
    (struck s g).obj (key i a) = s.obj (key i a) :=
  obj_struck s g (dac_subs_ne ⟨h.1, by decide, h.2.1⟩) (dac_subs_ne ⟨h.1, by decide, h.2.2⟩)

theorem isWave_struck (s : State) (g c : Nat) : (struck s g).isWave c = s.isWave c := by
  have hobj : (struck s g).obj (K.graphNodeSource c) = s.obj (K.graphNodeSource c) := obj_struck_sub s g (by decide)
  rw [State.isWave, State.isWave, State.node, State.node, State.force, State.force, inForce_struck, hobj]

section
variable (hn : n < 32) (hctx : s.feedCtx n ≠ 0xFFFF) (hwave : s.isWave (s.feedCtx n) = false) (hwhole : (s.dac n).whole = false)
include hn hctx hwave hwhole

theorem struck_empty {k : Nat} (hfeed : (s.dac n).feed = []) :
    ((struck s g).takeWord_ n k).obj (K.dacUnderruns n) = satAdd 32 (s.obj (K.dacUnderruns n)) 1 ∧
      ((struck s g).takeWord_ n k).obj (K.dacCode n) = s.obj (K.dacCode n) ∧
      (((struck s g).takeWord_ n k).obj (K.dacFlags n)).testBit 2 = true := by
  rw [takeWord_empty (by rwa [feedCtx_struck _ _ hn]) (by rwa [feedCtx_struck _ _ hn, isWave_struck]) (by rwa [dac_struck]) k
    (by rwa [dac_struck])]
  obtain ⟨hunderruns, hcode, hflag⟩ := starved_obj (fedBy (struck s g) n k) hn
  refine ⟨hunderruns.trans (congrArg (satAdd 32 · 1) ?_), hcode.trans ?_, hflag⟩
  · exact (obj_fedBy _ _ _ (dac_subs_ne (by decide))).trans (obj_struck_sub _ _ (by decide))
  · exact (obj_fedBy _ _ _ (dac_subs_ne (by decide))).trans (obj_struck_sub _ _ (by decide))

end

theorem testBit_withBit_of_lt (v : Nat) (b : Bool) {i j : Nat} (h : i < j) : (withBit v i b).testBit j = v.testBit j := by
  have hj : withBit v i b / 2 ^ j = v / 2 ^ j := by
    obtain ⟨d, rfl⟩ := Nat.exists_eq_add_of_lt h
    have hbit : (v / 2 ^ (i + 1) * 2 + ofBool b) / 2 = v / 2 ^ (i + 1) := by
      have hb : ofBool b < 2 := by cases b <;> decide
      omega
    calc withBit v i b / 2 ^ (i + d + 1) = withBit v i b / 2 ^ i / 2 / 2 ^ d := by
          rw [Nat.div_div_eq_div_mul, Nat.div_div_eq_div_mul, ← pow_succ', ← pow_add, Nat.add_assoc]
      _ = v / 2 ^ (i + 1) / 2 ^ d := by rw [withBit_div, hbit]
      _ = v / 2 ^ (i + d + 1) := by rw [Nat.div_div_eq_div_mul, ← pow_add, Nat.add_right_comm]
  rw [Nat.testBit_eq_decide_div_mod_eq, Nat.testBit_eq_decide_div_mod_eq, hj]

theorem filled_obj (s : State) {k : Nat} (hf : k ≠ K.dacFlags n) (hs : k ≠ K.dacStatus n) : (filled s n).obj k = s.obj k :=
  (obj_set_ne _ _ hs).trans (obj_set_ne _ _ hf)

theorem dac_filled (s : State) (n m : Nat) : (filled s n).dac m = s.dac m := rfl

theorem inForce_fedBy (s : State) (n k : Nat) : (fedBy s n k).inForce = s.inForce := rfl

theorem inForce_filled (s : State) (n : Nat) : (filled s n).inForce = s.inForce := rfl

theorem holding_filled (s : State) (n : Nat) : (filled s n).holding n = s.holding n := by
  have hne : K.dacStatus n ≠ K.dacFlags n := key_ne (by decide) (by decide) (.inl (by omega))
  have hflag : (s.dacFlag n 2 false).obj (K.dacStatus n) = s.obj (K.dacStatus n) := obj_set_ne _ _ hne
  rw [State.holding, filled, State.dacBit, obj_set_self, hflag, testBit_withBit_of_lt _ _ (by decide)]
  rfl

/-- The scale and the span of an output stand. -/
theorem scaled_congr {u s : State} (n : Nat) (c : Int) (hscale : u.force (K.dacScale n) = s.force (K.dacScale n))
    (hspan : u.obj (K.dacSpan n) = s.obj (K.dacSpan n)) : u.scaled n c = s.scaled n c := by
  rw [State.scaled, State.scaled, hscale, hspan]

theorem obj_struck_filled (s : State) (g n k : Nat) {i a : Nat} (hi : i < 0x6480) (ha : a < 256 ∧ a ≠ 2) :
    (filled (fedBy (struck s g) n k) n).obj (key i a) = s.obj (key i a) :=
  (filled_obj _ (dac_subs_ne ⟨ha.1, by decide, ha.2⟩) (dac_subs_ne ⟨ha.1, by decide, ha.2⟩)).trans
    ((obj_fedBy _ _ _ (dac_subs_ne ⟨ha.1, by decide, ha.2⟩)).trans (obj_struck_of_lt s g (groups_after hi ha.1)))

theorem struck_word {k due : Nat} {c : Int} {ws : List FeedWord} (hn : n < 32) (hctx : s.feedCtx n ≠ 0xFFFF)
    (hwave : s.isWave (s.feedCtx n) = false) (hwhole : (s.dac n).whole = false) (hfeed : (s.dac n).feed = ⟨due, false, some c⟩ :: ws)
    (hen : s.obj (K.dacSlewEnable n) = 0) (hhold : s.holding n = false) (hslew : (s.dac n).slew = none) (hmove : (s.dac n).move = none)
    (hmw : (s.dac n).moveWaits = false) :
    ((struck s g).takeWord_ n k).obj (K.dacCode n) = unsigned 32 (s.scaled n c).1 ∧ (((struck s g).takeWord_ n k).dac n).feed = ws := by
  obtain ⟨htake, hfed⟩ := takeWord_word (s := struck s g) (by rwa [feedCtx_struck _ _ hn])
    (by rwa [feedCtx_struck _ _ hn, isWave_struck]) (by rwa [dac_struck]) k (by rwa [dac_struck])
  have hdac : (filled (fedBy (struck s g) n k) n).dac n = (fedBy (struck s g) n k).dac n := dac_filled ..
  have hold := dac_fedBy (struck s g) n k
  rw [dac_struck] at hold
  have hheld : (filled (fedBy (struck s g) n k) n).holding n = false := by
    rw [holding_filled]
    refine Eq.trans (congrArg (Nat.testBit · 6) ?_) hhold
    exact (obj_fedBy _ _ _ (key_ne (by decide) (by decide) (.inl (by omega)))).trans (obj_struck_of_lt _ _ (dacStatus_lt hn))
  have hscaled : (filled (fedBy (struck s g) n k) n).scaled n c = s.scaled n c := by
    refine scaled_congr n c ?_ (obj_struck_filled s g n k (by omega) (by decide))
    have hobj : (filled (fedBy (struck s g) n k) n).obj (K.dacScale n) = s.obj (K.dacScale n) :=
      obj_struck_filled s g n k (by omega) (by decide)
    have hin : (filled (fedBy (struck s g) n k) n).inForce = s.inForce :=
      (inForce_filled ..).trans ((inForce_fedBy ..).trans (inForce_struck s g))
    rw [State.force, State.force, hobj, hin]
  obtain ⟨hcode, hafter⟩ := putCode_code (s := filled (fedBy (struck s g) n k) n) c (by rw [hdac, hold]; exact hmove)
    (by rw [hdac, hold]; exact hmw) (by rw [hdac, hold]; exact hslew) ((obj_struck_filled s g n k (by omega) (by decide)).trans hen) hheld
  rw [htake, hcode, hscaled, hafter, hdac]
  exact ⟨rfl, hfed⟩

end


/-- Settles O49: a strobe leads on to the outputs' words, and those leave the groups alone. -/
theorem strobesTakeWords : Obligations.StrobesTakeWords := by
  unfold Obligations.StrobesTakeWords
  refine ⟨fun s t g hheld hg hrun hdue => ⟨fun hnear => ?_, fun hnear hsafe hmode hearly => ?_, fun htimed hnear hsafe => ?_⟩, ?_⟩
  · exact completes_eventOf (exec_dacStrobe ..) (by simpa using hg) hheld
      (xDacStrobe_counted (s := s.begin_ t) hg hrun hdue (hnear.imp (by simp) (near_spent s t g).trans))
  · have hstill := xDacStrobe_still (s := s.begin_ t) hg hrun hdue (hnear.imp (by simp) (near_spent s t g).trans) hmode
    exact sets_eventOf (exec_dacStrobe ..) (by simpa using hg) ⟨hheld, hsafe⟩ (hstill ▸ leaves_struck hearly)
      (hstill ▸ holds_cons (strobes_struck ..) (holds_nil _)) (hstill ▸ seen_struck hearly)
  · have hmissed := xDacStrobe_missed (s := s.begin_ t) hg hrun hdue htimed ((near_spent s t g).trans hnear)
    refine sets_eventOf (exec_dacStrobe ..) (by simpa using hg) ⟨hheld, hsafe⟩ (hmissed ▸ ?_) (hmissed ▸ ?_) (hmissed ▸ ?_)
    · exact (leaves_count _ _ _ List.mem_cons_self).trans (leaves_spent ..)
    · exact holds_cons (obj_count_self ..) (holds_nil _)
    · exact congrArg Strobe.owed (strobe_spent ..)
  · intro s t g n hheld hg hn hsource hmode hdue hone hctx hwave hwhole
    have hrun : (s.begin_ t).strobesRun = true := strobesRun_of_run hmode
    have heffect := xDacStrobe_single (s := s.begin_ t) hg hrun hdue hsource hmode hone
    have hcounted := (xDacStrobe_counted (s := s.begin_ t) hg hrun hdue (.inl hsource)).1
    refine ⟨fun hfeed => ?_, fun due c ws hfeed hen hhold hslew hmove hmw => ?_⟩
    · obtain ⟨hunderruns, hcode, hflag⟩ := struck_empty (s := s.begin_ t) hn hctx hwave hwhole hfeed
      exact completes_eventOf (exec_dacStrobe ..) (by simpa using hg) hheld
        ⟨heffect ▸ hunderruns, heffect ▸ hcode, heffect ▸ hflag, hcounted⟩
    · obtain ⟨hcode, hfed⟩ := struck_word (s := s.begin_ t) hn hctx hwave hwhole hfeed hen hhold hslew hmove hmw
      exact completes_eventOf (exec_dacStrobe ..) (by simpa using hg) hheld ⟨heffect ▸ hcode, heffect ▸ hfed, hcounted⟩

end Sys2Proof.Proofs
end

section
/-! # The check reference, the limit ratios and the interleave estimator -/

set_option Elab.async false

namespace Sys2Proof.Proofs

open Sys2Proof Sys2Proof.Machine Sys2Proof.Laws

section
variable {s u : State} {n t : Nat} {f : IlvFacts} {ks : List Nat}

/-! ## The interleave estimator -/

theorem tile_setTile (s : State) (n : Nat) (x : Tile) : (s.setTile n x).tile n = x := get_put_self ..

theorem tile_modTile (s : State) (n : Nat) (f : Tile → Tile) : (s.modTile n f).tile n = f (s.tile n) := get_put_self ..

theorem leaves_setTile (s : State) (n : Nat) (x : Tile) : Leaves ks (s.setTile n x) s := leaves_of_dict rfl rfl rfl rfl rfl rfl

theorem leaves_modTile (s : State) (n : Nat) (f : Tile → Tile) : Leaves ks (s.modTile n f) s := leaves_setTile ..

theorem holds_modTile {vs : List (Nat × Nat)} (h : Holds s vs) (n : Nat) (f : Tile → Tile) : Holds (s.modTile n f) vs := h

theorem tile_set (s : State) (k v n : Nat) : (s.set k v).tile n = s.tile n := rfl

theorem tiles_setAll (s : State) (vs : List (Nat × Nat)) : (setAll s vs).tiles = s.tiles :=
  foldl_keeps State.tiles _ _ _ fun _ _ => rfl

theorem tile_setAll (s : State) (vs : List (Nat × Nat)) (n : Nat) : (setAll s vs).tile n = s.tile n :=
  congrArg (fun m => Sp.get (fun _ => Tile.none_) m n) (tiles_setAll ..)

/-- What a report adds to the words of the estimator and to the quiet ones in a row. -/
def ilvReported (x : Tile) (f : IlvFacts) : Tile :=
  { x with ilvWords := x.ilvWords + f.words, ilvQuiet := if f.quiet then x.ilvQuiet + f.words else 0 }

/-- The corrections of a report, and no drift. -/
def ilvShown (n : Nat) (f : IlvFacts) : List (Nat × Nat) :=
  [(K.tileIlvOffset n, satSigned 16 f.offset), (K.tileIlvGain n, ilvGain f.gain), (K.tileIlvSkew n, satSigned 16 (ilvSkew f.skew)),
    (K.tileIlvFlags n, 0)]

theorem ilvUpdate_eq (s : State) (n : Nat) (f : IlvFacts) : s.ilvUpdate n f =
    (setAll s (ilvShown n f)).modTile n
      (fun x => { x with ilvTemp := signed 16 ((setAll s (ilvShown n f)).obj (K.deviceTempAna (n / 128))) }) := by
  simp only [State.ilvUpdate, State.setIlv, setAll, ilvShown, List.foldl_cons, List.foldl_nil]

theorem xIlvWords_acquiring (h : s.obj (K.tileIlvState n) = 1) : xIlvWords n f s =
    if (s.tile n).ilvWords + f.words ≥ 2097152 then
      (((s.setTile n (ilvReported (s.tile n) f)).modTile n (fun y => { y with ilvWords := 0 })).set (K.tileIlvState n) 2).ilvUpdate n f
    else s.setTile n (ilvReported (s.tile n) f) := by
  unfold xIlvWords
  rw [h]
  rfl

theorem xIlvWords_tracking (h : s.obj (K.tileIlvState n) = 2) : xIlvWords n f s =
    if (ilvReported (s.tile n) f).ilvQuiet ≥ 262144 then
      (s.setTile n { ilvReported (s.tile n) f with ilvWords := 0 }).set (K.tileIlvState n) 3
    else if (s.tile n).ilvWords + f.words ≥ 65536 then
      (s.setTile n { ilvReported (s.tile n) f with ilvWords := ((s.tile n).ilvWords + f.words) % 65536 }).ilvUpdate n f
    else s.setTile n (ilvReported (s.tile n) f) := by
  unfold xIlvWords
  rw [h]
  rfl

theorem xIlvWords_held (h : s.obj (K.tileIlvState n) = 3) (hquiet : f.quiet = false) : xIlvWords n f s =
    (s.setTile n { s.tile n with ilvWords := 0, ilvQuiet := 0 }).set (K.tileIlvState n) 2 := by
  unfold xIlvWords
  rw [h]
  exact if_neg (by simp [hquiet])

theorem ilvUpdate_leaves (s : State) (n : Nat) (f : IlvFacts) : Leaves ((ilvShown n f).map (·.1)) (s.ilvUpdate n f) s := by
  rw [ilvUpdate_eq]
  exact (leaves_modTile ..).trans (leaves_setAll ..)

theorem ilvKeys_nodup (n : Nat) (f : IlvFacts) : ((K.tileIlvState n, 2) :: ilvShown n f).map (·.1) |>.Nodup := by
  simp [ilvShown, K.tileIlvState, K.tileIlvOffset, K.tileIlvGain, K.tileIlvSkew, K.tileIlvFlags, key]

theorem ilvUpdate_holds (s : State) (n : Nat) (f : IlvFacts) : Holds (s.ilvUpdate n f) (ilvShown n f) := by
  rw [ilvUpdate_eq]
  exact holds_modTile (holds_setAll _ (List.nodup_cons.1 (ilvKeys_nodup n f)).2) n _

theorem ilvUpdate_state (s : State) (n : Nat) (f : IlvFacts) : (s.ilvUpdate n f).obj (K.tileIlvState n) = s.obj (K.tileIlvState n) := by
  rw [ilvUpdate_eq]
  exact obj_setAll_ne _ (List.nodup_cons.1 (ilvKeys_nodup n f)).1

theorem tile_ilvUpdate (s : State) (n : Nat) (f : IlvFacts) :
    ((s.ilvUpdate n f).tile n).ilvWords = (s.tile n).ilvWords ∧ ((s.ilvUpdate n f).tile n).ilvQuiet = (s.tile n).ilvQuiet := by
  rw [ilvUpdate_eq, tile_modTile, tile_setAll]
  exact ⟨rfl, rfl⟩

end

section
variable {s : State} {n t : Nat} {f : IlvFacts} (hawake : Awake s) (hn : n < tileCount s.variant)
include hawake hn

/-- An event of the estimator, from the frame of its effect. -/
theorem ilv_sets {vs : List (Nat × Nat)} {own : State → Prop} {u : State} (hu : xIlvWords n f (s.begin_ t) = u)
    (hl : Leaves (vs.map (·.1)) u (s.begin_ t)) (hv : Holds u vs) (hown : own u) : Sets (.ilvWordCount t n f) s vs own := by
  subst hu
  exact sets_eventOf (exec_ilvWordCount ..) (by simpa using hn) hawake hl hv hown

theorem ilv_acquires (h : s.obj (K.tileIlvState n) = 1) (hfew : (s.tile n).ilvWords + f.words < 2097152) :
    Sets (.ilvWordCount t n f) s [] (fun u => (u.tile n).ilvWords = (s.tile n).ilvWords + f.words) := by
  have hu := (xIlvWords_acquiring (s := s.begin_ t) (f := f) h).trans (if_neg (Nat.not_le.2 hfew))
  exact ilv_sets hawake hn hu (leaves_setTile ..) (holds_nil _) (congrArg Tile.ilvWords (tile_setTile ..))

theorem ilv_tracks (h : s.obj (K.tileIlvState n) = 1) (hmany : 2097152 ≤ (s.tile n).ilvWords + f.words) :
    Sets (.ilvWordCount t n f) s ((K.tileIlvState n, 2) :: ilvShown n f) (fun u => (u.tile n).ilvWords = 0) := by
  have hu := (xIlvWords_acquiring (s := s.begin_ t) (f := f) h).trans (if_pos hmany)
  refine ilv_sets hawake hn hu ?_ (holds_cons ((ilvUpdate_state ..).trans (obj_set_self ..)) (ilvUpdate_holds _ n f)) ?_
  · exact ((ilvUpdate_leaves ..).mono fun _ => List.mem_cons_of_mem _).trans <|
      (leaves_set _ _ List.mem_cons_self).trans ((leaves_modTile ..).trans (leaves_setTile ..))
  · exact (tile_ilvUpdate ..).1.trans (congrArg Tile.ilvWords ((tile_set ..).trans (tile_modTile ..)))

theorem ilv_holds_still (h : s.obj (K.tileIlvState n) = 2) (hquiet : f.quiet = true) (hlong : 262144 ≤ (s.tile n).ilvQuiet + f.words) :
    Sets (.ilvWordCount t n f) s [(K.tileIlvState n, 3)] (fun _ => True) := by
  have hlong' : (ilvReported ((s.begin_ t).tile n) f).ilvQuiet ≥ 262144 := by
    simp only [ilvReported, hquiet, if_true]
    exact hlong
  exact ilv_sets hawake hn ((xIlvWords_tracking (s := s.begin_ t) h).trans (if_pos hlong')) ((leaves_set _ _ List.mem_cons_self).trans (leaves_setTile ..))
    (holds_cons (obj_set_self ..) (holds_nil _)) trivial

theorem ilv_updates (h : s.obj (K.tileIlvState n) = 2) (hloud : f.quiet = false) (hmany : 65536 ≤ (s.tile n).ilvWords + f.words) :
    Sets (.ilvWordCount t n f) s (ilvShown n f) (fun u => (u.tile n).ilvQuiet = 0) := by
  have hquiet : (ilvReported ((s.begin_ t).tile n) f).ilvQuiet = 0 := by simp [ilvReported, hloud]
  have hu := ((xIlvWords_tracking (s := s.begin_ t) (f := f) h).trans (if_neg (by rw [hquiet]; decide))).trans (if_pos hmany)
  refine ilv_sets hawake hn hu ((ilvUpdate_leaves ..).trans (leaves_setTile ..)) (ilvUpdate_holds _ n f) ?_
  exact (tile_ilvUpdate ..).2.trans ((congrArg Tile.ilvQuiet (tile_setTile ..)).trans hquiet)

theorem ilv_resumes (h : s.obj (K.tileIlvState n) = 3) (hloud : f.quiet = false) :
    Sets (.ilvWordCount t n f) s [(K.tileIlvState n, 2)] (fun u => (u.tile n).ilvWords = 0) :=
  ilv_sets hawake hn (xIlvWords_held (s := s.begin_ t) h hloud) ((leaves_set _ _ List.mem_cons_self).trans (leaves_setTile ..))
    (holds_cons (obj_set_self ..) (holds_nil _)) (congrArg Tile.ilvWords (tile_setTile ..))

end

/-! ## The reset of the estimator -/

section
variable {s : State} {q : Req} {l : Loc} {n : Nat}

/-- The calibrated corrections of a tile, and its estimator ACQUIRING. -/
def ilvCalibrated (s : State) (n : Nat) : List (Nat × Nat) :=
  [(K.tileIlvOffset n, satSigned 16 (s.tile n).ilvCal.1), (K.tileIlvGain n, ilvGain (s.tile n).ilvCal.2.1),
    (K.tileIlvSkew n, satSigned 16 (ilvSkew (s.tile n).ilvCal.2.2)), (K.tileIlvState n, 1)]

theorem xIlvReset_eq (s : State) (n : Nat) : xIlvReset n s = if s.obj (K.tileIlvState n) = 0 then s
    else setAll (s.modTile n (fun x => { x with ilvWords := 0, ilvQuiet := 0 })) (ilvCalibrated s n) := by
  simp only [xIlvReset, State.setIlv, setAll, ilvCalibrated, List.foldl_cons, List.foldl_nil]

theorem ilvCalibrated_nodup (s : State) (n : Nat) : ((ilvCalibrated s n).map (·.1)).Nodup := by
  simp [ilvCalibrated, K.tileIlvState, K.tileIlvOffset, K.tileIlvGain, K.tileIlvSkew, key]

theorem ilvReset_writes (hn : n < 256) (hsafe : s.safeAsk = 0) (h : Accepts s (onObject q (K.tileIlvReset n)) l) :
    Writes (.ilvReset q n) s (onObject q (K.tileIlvReset n)) l
      (if s.obj (K.tileIlvState n) = 0 then [] else ilvCalibrated s n) (fun _ => True) := by
  obtain ⟨hput, hunit, hattr⟩ := tile_put (i := 9) (b := 6) (by decide) (by decide) (by decide) (by decide) h (place_tileIlvReset n hn)
  obtain ⟨hlo, hhi⟩ := tileKey_range (i := 9) (b := 6) (by decide) (by decide) hn
  have hstate : accessKey (K.tileIlvState n) = false := tile_access (i := 9) (by decide) (by decide) hn
  have htile : (s.access (onObject q (K.tileIlvReset n))).tile n = s.tile n := by rw [State.tile, State.tile, access_tiles]
  have hreset : tileEffect (s.access (onObject q (K.tileIlvReset n))) (putAt s q (K.tileIlvReset n) l) 9 6 =
      xIlvReset n (s.access (onObject q (K.tileIlvReset n))) := by
    rw [tileEffect_reset, putValue_action _ hattr, putAt_l, hunit]
  have hcal : ilvCalibrated (s.access (onObject q (K.tileIlvReset n))) n = ilvCalibrated s n := by
    rw [ilvCalibrated, ilvCalibrated, htile]
  rw [xIlvReset_eq, obj_access h hstate, hcal] at hreset
  have hwrites {vs : List (Nat × Nat)} {u : State} (heffect : tileEffect (s.access (onObject q (K.tileIlvReset n)))
      (putAt s q (K.tileIlvReset n) l) 9 6 = u) (hl : Leaves (vs.map (·.1)) u (s.access (onObject q (K.tileIlvReset n)))) (hv : Holds u vs) :
      Writes (.ilvReset q n) s (onObject q (K.tileIlvReset n)) l vs (fun _ => True) :=
    writes_of_put (asks_of_writesOf (exec_ilvReset q n s) (by simpa using hn)) hsafe h (written_tile hlo hhi) (hput.trans heffect) hl hv trivial
  split at hreset
  next hidle =>
    rw [if_pos hidle]
    exact hwrites hreset (Leaves.refl ..) (holds_nil _)
  next hruns =>
    rw [if_neg hruns]
    exact hwrites hreset ((leaves_setAll ..).trans (leaves_modTile ..)) (holds_setAll _ (ilvCalibrated_nodup s n))

end

/-! ## The check reference -/

section
variable {s : State} {t : Nat} {ppm : Int}

/-- The deviation shown and the check counted. -/
def invarShown (s : State) (ppm : Int) : List (Nat × Nat) :=
  [(K.calInvarDeviation, f32OfIntRat ppm 1), (K.calInvarChecks, satAdd 32 (s.obj K.calInvarChecks) 1)]

theorem invarShown_begin (s : State) (t : Nat) (ppm : Int) : invarShown (s.begin_ t) ppm = invarShown s ppm := by
  rw [invarShown, invarShown, begin_obj]

/-- Rows of checks beyond the limit and within it. -/
def withInvar (s : State) (bad good : Nat) : State := { s with invarBad := bad, invarGood := good }

theorem obj_withInvar (s : State) (bad good k : Nat) : (withInvar s bad good).obj k = s.obj k := rfl

theorem leaves_withInvar (ks : List Nat) (s : State) (bad good : Nat) : Leaves ks (withInvar s bad good) s :=
  leaves_of_dict rfl rfl rfl rfl rfl rfl

/-- The rows of checks after one more. -/
def invarRow (s : State) (bad : Bool) : State :=
  withInvar s (if bad then s.invarBad + 1 else 0) (if bad then 0 else s.invarGood + 1)

/-- What the third check in a row does. -/
def invarJudged (s : State) (bad : Bool) : State :=
  if bad && s.invarBad ≥ 3 && s.obj K.calInvarState = 0 then
    ((s.set K.calInvarState 1).raise 757 0).abortCal (fun n => (s.tile n).cal.kind == 1)
  else if !bad && s.invarGood ≥ 3 && s.obj K.calInvarState = 1 then s.set K.calInvarState 0
  else s

theorem setAll_invarShown (s : State) (ppm : Int) :
    setAll s (invarShown s ppm) = (s.set K.calInvarDeviation (f32OfIntRat ppm 1)).count K.calInvarChecks 32 1 := by
  simp only [setAll, invarShown, List.foldl_cons, List.foldl_nil, State.count, obj_set_ne _ _ (show K.calInvarChecks ≠ K.calInvarDeviation by decide)]

theorem obj_invarShown (s : State) (ppm : Int) {k : Nat} (h : k ≠ K.calInvarDeviation ∧ k ≠ K.calInvarChecks) :
    (setAll s (invarShown s ppm)).obj k = s.obj k := obj_setAll_ne s (by simp [invarShown, h])

theorem xInvarCheck_eq (s : State) (ppm : Int) : xInvarCheck ppm s =
    invarJudged (invarRow (setAll s (invarShown s ppm)) (decide (s.obj K.calInvarLimit < ppm.natAbs)))
      (decide (s.obj K.calInvarLimit < ppm.natAbs)) := by
  rw [← obj_invarShown s ppm (k := K.calInvarLimit) (by decide), setAll_invarShown]
  rfl

theorem invarRow_checked (s : State) (ppm : Int) (bad : Bool) :
    invarRow (setAll s (invarShown s ppm)) bad =
      withInvar (setAll s (invarShown s ppm)) (if bad then s.invarBad + 1 else 0) (if bad then 0 else s.invarGood + 1) := by
  rw [setAll_invarShown]
  rfl

theorem obj_invarRow (s : State) (ppm : Int) (bad : Bool) :
    (invarRow (setAll s (invarShown s ppm)) bad).obj K.calInvarState = s.obj K.calInvarState := obj_invarShown s ppm (by decide)

theorem leaves_invarRow (s : State) (ppm : Int) (bad : Bool) :
    Leaves ((invarShown s ppm).map (·.1)) (invarRow (setAll s (invarShown s ppm)) bad) s :=
  (leaves_withInvar ..).trans (leaves_setAll ..)

theorem holds_invarRow (s : State) (ppm : Int) (bad : Bool) :
    Holds (invarRow (setAll s (invarShown s ppm)) bad) (invarShown s ppm) :=
  holds_setAll s (vs := invarShown s ppm) (show [K.calInvarDeviation, K.calInvarChecks].Nodup by decide)

/-- No calibration runs and none waits. -/
def calIdle : List (Nat × Nat) := [(K.calQueued, 0), (K.calRunning, 0), (K.calState, 0)]

theorem showCal_idle (htiles : s.calTiles = []) (hstate : s.obj K.calState ≠ 1) : s.showCal = setAll s calIdle := by
  have hkept : ((s.set K.calQueued 0).set K.calRunning 0).obj K.calState = s.obj K.calState :=
    (obj_set_ne _ _ (by decide)).trans (obj_set_ne _ _ (by decide))
  unfold State.showCal
  rw [htiles]
  exact if_neg (by rw [← hkept] at hstate; exact hstate)

/-- A check that is not the third of its row. -/
theorem xInvarCheck_counts (bad : Bool) (hbad : decide (s.obj K.calInvarLimit < ppm.natAbs) = bad)
    (hfew : (if bad then s.invarBad else s.invarGood) < 2) :
    xInvarCheck ppm s = invarRow (setAll s (invarShown s ppm)) bad := by
  rw [xInvarCheck_eq, hbad, invarRow_checked, invarJudged]
  cases bad with
  | true =>
    have hfew' : ¬ s.invarBad + 1 ≥ 3 := by
      simp only [if_true] at hfew
      omega
    simp [withInvar, hfew']
  | false =>
    have hfew' : ¬ s.invarGood + 1 ≥ 3 := by
      simp only [Bool.false_eq_true, if_false] at hfew
      omega
    simp [withInvar, hfew']

/-- A check that drifts: the rows, the state and the raise. -/
def invarDrifted (s : State) (ppm : Int) : State :=
  ((invarRow (setAll s (invarShown s ppm)) true).set K.calInvarState 1).raise 757 0

theorem tiles_invarDrifted (s : State) (ppm : Int) : (invarDrifted s ppm).tiles = s.tiles :=
  (raise_tiles ..).trans ((set_tiles ..).trans (tiles_setAll ..))

theorem variant_invarDrifted (s : State) (ppm : Int) : (invarDrifted s ppm).variant = s.variant :=
  (raise_variant ..).trans ((set_variant ..).trans (leaves_invarRow s ppm true).variant)

/-- The objects after the event sources are none of theirs. -/
theorem obj_raise_of_after (s : State) {n : Nat} (d : Nat) {k : Nat} (hn : n < 768) (hk : 0x780000 ≤ k) :
    (s.raise n d).obj k = s.obj k := by
  refine obj_raise_ne s n d k ?_
  simp only [eventKey, K.eventStatus, K.eventCount, K.eventTime, K.eventDetail, key]
  omega

theorem obj_invarDrifted (s : State) (ppm : Int) {k : Nat} (hk : 0x780000 ≤ k) (hne : k ≠ K.calInvarState) :
    (invarDrifted s ppm).obj k = (invarRow (setAll s (invarShown s ppm)) true).obj k :=
  (obj_raise_of_after _ _ (by decide) hk).trans (obj_set_ne _ _ hne)

theorem leaves_invarDrifted (s : State) (ppm : Int) :
    Leaves ([K.calInvarDeviation, K.calInvarChecks, K.calInvarState] ++ evKeys 757) (invarDrifted s ppm) s := by
  have hset : Leaves [K.calInvarDeviation, K.calInvarChecks, K.calInvarState]
      ((invarRow (setAll s (invarShown s ppm)) true).set K.calInvarState 1) s :=
    (leaves_set _ _ (by decide)).trans ((leaves_invarRow s ppm true).mono fun k hk => List.mem_append_left [K.calInvarState] hk)
  exact (leaves_raise _ _ _ fun k hk => List.mem_append_right _ hk).trans (hset.mono fun k hk => List.mem_append_left _ hk)

theorem calState_invarDrifted (s : State) (ppm : Int) : (invarDrifted s ppm).obj K.calState = s.obj K.calState :=
  (obj_invarDrifted s ppm (by decide) (by decide)).trans (obj_invarShown s ppm (by decide))

/-- The third check in a row beyond the limit. -/
theorem xInvarCheck_drifts (hbad : decide (s.obj K.calInvarLimit < ppm.natAbs) = true) (hmany : 2 ≤ s.invarBad)
    (hstate : s.obj K.calInvarState = 0) (htiles : s.calTiles = []) (hcal : s.obj K.calState ≠ 1) :
    xInvarCheck ppm s = setAll (invarDrifted s ppm) calIdle := by
  have hthird : (invarRow (setAll s (invarShown s ppm)) true).invarBad ≥ 3 := by
    rw [invarRow_checked]
    exact Nat.succ_le_succ hmany
  have hidle : (invarDrifted s ppm).calTiles = [] := by rw [State.calTiles, tiles_invarDrifted, ← State.calTiles, htiles]
  rw [xInvarCheck_eq, hbad, invarJudged, if_pos (by simp [hthird, obj_invarRow, hstate])]
  exact (abortCal_empty _ hidle).trans (showCal_idle hidle (by rwa [calState_invarDrifted]))

/-- The third check in a row within the limit. -/
theorem xInvarCheck_clears (hbad : decide (s.obj K.calInvarLimit < ppm.natAbs) = false) (hmany : 2 ≤ s.invarGood)
    (hstate : s.obj K.calInvarState = 1) :
    xInvarCheck ppm s = (invarRow (setAll s (invarShown s ppm)) false).set K.calInvarState 0 := by
  have hthird : (invarRow (setAll s (invarShown s ppm)) false).invarGood ≥ 3 := by
    rw [invarRow_checked]
    exact Nat.succ_le_succ hmany
  rw [xInvarCheck_eq, hbad, invarJudged, if_neg (by simp), if_pos (by simp [hthird, obj_invarRow, hstate])]

variable (hawake : Awake s)
include hawake

theorem invar_sets {vs : List (Nat × Nat)} {own : State → Prop} {u : State} (hu : xInvarCheck ppm (s.begin_ t) = u)
    (hl : Leaves (vs.map (·.1)) u (s.begin_ t)) (hv : Holds u vs) (hown : own u) : Sets (.invarCheck t ppm) s vs own := by
  subst hu
  exact sets_event (exec_invarCheck ..) hawake hl hv hown

theorem invar_counts {own : State → Prop} (bad : Bool) (hbad : decide (s.obj K.calInvarLimit < ppm.natAbs) = bad)
    (hfew : (if bad then s.invarBad else s.invarGood) < 2)
    (hown : ∀ u, u.invarBad = (if bad then s.invarBad + 1 else 0) → u.invarGood = (if bad then 0 else s.invarGood + 1) → own u) :
    Sets (.invarCheck t ppm) s (invarShown s ppm) own :=
  invar_sets hawake (xInvarCheck_counts (s := s.begin_ t) bad hbad hfew) (leaves_invarRow (s.begin_ t) ppm bad)
    (holds_invarRow (s.begin_ t) ppm bad) (by rw [invarRow_checked]; exact hown _ rfl rfl)

theorem invar_drifts (hbad : decide (s.obj K.calInvarLimit < ppm.natAbs) = true) (hmany : 2 ≤ s.invarBad)
    (hstate : s.obj K.calInvarState = 0) (htiles : s.calTiles = []) (hcal : s.obj K.calState ≠ 1) :
    Sets (.invarCheck t ppm) s
      (invarShown s ppm ++ [(K.calInvarState, 1), (K.calQueued, 0), (K.calRunning, 0), (K.calState, 0)] ++ raisedBy (s.begin_ t) 757 0)
      (fun _ => True) := by
  have hidle {k : Nat} (hk : k ∉ [K.calQueued, K.calRunning, K.calState]) :
      (setAll (invarDrifted (s.begin_ t) ppm) calIdle).obj k = (invarDrifted (s.begin_ t) ppm).obj k := obj_setAll_ne _ hk
  have hkeys : (invarShown s ppm ++ [(K.calInvarState, 1), (K.calQueued, 0), (K.calRunning, 0), (K.calState, 0)] ++
      raisedBy (s.begin_ t) 757 0).map Prod.fst = [K.calInvarDeviation, K.calInvarChecks, K.calInvarState] ++
        ([K.calQueued, K.calRunning, K.calState] ++ evKeys 757) := rfl
  have hu : xInvarCheck ppm (s.begin_ t) = setAll (invarDrifted (s.begin_ t) ppm) calIdle :=
    xInvarCheck_drifts hbad hmany hstate htiles hcal
  have hidled : Holds (setAll (invarDrifted (s.begin_ t) ppm) calIdle) calIdle :=
    holds_setAll _ (show [K.calQueued, K.calRunning, K.calState].Nodup by decide)
  have hstated : (setAll (invarDrifted (s.begin_ t) ppm) calIdle).obj K.calInvarState = 1 :=
    (hidle (by decide)).trans ((obj_raise_of_after _ _ (by decide) (by decide)).trans (obj_set_self ..))
  refine invar_sets hawake hu ?_ (holds_append (holds_append ?_ (holds_cons (e := (K.calInvarState, 1)) hstated hidled)) ?_) trivial
  · rw [hkeys]
    exact ((leaves_setAll _ calIdle).mono fun k hk => List.mem_append_right _ (List.mem_append_left _ hk)).trans
      ((leaves_invarDrifted (s.begin_ t) ppm).mono fun k hk =>
        (List.mem_append.1 hk).elim (List.mem_append_left _) fun h => List.mem_append_right _ (List.mem_append_right _ h))
  · rw [← invarShown_begin s t ppm]
    refine holds_keep (holds_invarRow (s.begin_ t) ppm true) fun k hk => ?_
    have hk : k = K.calInvarDeviation ∨ k = K.calInvarChecks := by simpa [invarShown] using hk
    rcases hk with rfl | rfl
    · exact (hidle (by decide)).trans (obj_invarDrifted _ _ (by decide) (by decide))
    · exact (hidle (by decide)).trans (obj_invarDrifted _ _ (by decide) (by decide))
  · have hraised : Holds (invarDrifted (s.begin_ t) ppm) (raisedBy (s.begin_ t) 757 0) :=
      holds_raise_of_ge _ (by decide) (by decide) ((obj_set_ne _ _ (by decide)).trans (obj_invarShown _ _ (by decide)))
        ((set_time ..).trans (foldl_keeps State.time _ _ _ fun _ _ => rfl))
    refine holds_keep hraised fun k hk => hidle fun hk' => ?_
    rw [map_fst_raisedBy] at hk
    revert k
    decide

theorem invar_clears (hbad : decide (s.obj K.calInvarLimit < ppm.natAbs) = false) (hmany : 2 ≤ s.invarGood)
    (hstate : s.obj K.calInvarState = 1) :
    Sets (.invarCheck t ppm) s (invarShown s ppm ++ [(K.calInvarState, 0)]) (fun _ => True) := by
  refine invar_sets hawake (xInvarCheck_clears (s := s.begin_ t) hbad hmany hstate) ?_
    (holds_append ?_ (holds_cons (obj_set_self ..) (holds_nil _))) trivial
  · exact (leaves_set _ _ (List.mem_map_of_mem (f := Prod.fst) (List.mem_append_right _ List.mem_cons_self))).trans
      ((leaves_invarRow (s.begin_ t) ppm false).mono fun k hk => by rw [List.map_append]; exact List.mem_append_left _ hk)
  · rw [← invarShown_begin s t ppm]
    refine holds_keep (holds_invarRow (s.begin_ t) ppm false) fun k hk => obj_set_ne _ _ ?_
    rintro rfl
    simp [invarShown, K.calInvarState, K.calInvarDeviation, K.calInvarChecks, key] at hk

end

end Sys2Proof.Proofs
end

section
/-! # The limit ratios -/

set_option Elab.async false

namespace Sys2Proof.Proofs

open Sys2Proof Sys2Proof.Machine Sys2Proof.Laws

section
variable {s u : State} {n t : Nat} {m : LimitMeas}

theorem xLimitRefresh_eq (hmode : [mRun, mHold, mSafe].contains s.mode = true) (hon : isOn (s.obj (K.tileStatus n)) = true) :
    xLimitRefresh n m s = ((s.refreshNoise n m).refreshTiming n m).set (K.tileLimUpdated n) s.now := by
  unfold xLimitRefresh
  rw [if_pos (by simp only [hmode, hon, Bool.and_self])]

/-! ## Without a lock -/

theorem refreshNoise_uncalibrated (h : (s.tile n).nCal = 0) : s.refreshNoise n m = s := if_pos h

theorem refreshTiming_unlocked (h : s.locked (quadOf n) = false) :
    s.refreshTiming n m = (s.unlockTiming n).modTile n (fun y => { y with jitterBad := 0 }) := by
  unfold State.refreshTiming
  exact if_pos (by rw [h]; rfl)

/-- The figures of a tile without a lock. -/
def unlockedFigures (s : State) (n : Nat) : List (Nat × Nat) :=
  [(K.tileLimTiming n, 0), (K.tileLimJitter n, 0), (K.tileLimFlags n, withBit (s.obj (K.tileLimFlags n)) 1 true)]

theorem unlockTiming_eq (s : State) (n : Nat) : s.unlockTiming n = setAll s (unlockedFigures s n) := by
  have hflags : K.tileLimFlags n ≠ K.tileLimTiming n ∧ K.tileLimFlags n ≠ K.tileLimJitter n :=
    ⟨dac_subs_ne (by decide), dac_subs_ne (by decide)⟩
  simp only [State.unlockTiming, setAll, unlockedFigures, List.foldl_cons, List.foldl_nil, obj_set_ne _ _ hflags.1, obj_set_ne _ _ hflags.2]

theorem limFigures_nodup (s : State) (n : Nat) : ((K.tileLimUpdated n) :: (unlockedFigures s n).map (·.1)).Nodup := by
  simp [unlockedFigures, K.tileLimUpdated, K.tileLimTiming, K.tileLimJitter, K.tileLimFlags, key]
  omega

theorem limitRefresh_unlocked (hawake : Awake s) (hn : n < tileCount s.variant) (hmode : [mRun, mHold, mSafe].contains s.mode = true)
    (hon : isOn (s.obj (K.tileStatus n)) = true) (hcal : (s.tile n).nCal = 0) (hlock : s.locked (quadOf n) = false) :
    Sets (.limitRefresh t n m) s (unlockedFigures s n ++ [(K.tileLimUpdated n, (s.begin_ t).now)]) (fun _ => True) := by
  have hnoise : (s.begin_ t).refreshNoise n m = s.begin_ t := refreshNoise_uncalibrated hcal
  have htiming : (s.begin_ t).refreshTiming n m = ((s.begin_ t).unlockTiming n).modTile n (fun y => { y with jitterBad := 0 }) :=
    refreshTiming_unlocked hlock
  have hu : xLimitRefresh n m (s.begin_ t) = ((setAll (s.begin_ t) (unlockedFigures (s.begin_ t) n)).modTile n
      (fun y => { y with jitterBad := 0 })).set (K.tileLimUpdated n) (s.begin_ t).now := by
    rw [xLimitRefresh_eq (s := s.begin_ t) hmode hon, hnoise, htiming, unlockTiming_eq]
  have hfigures : unlockedFigures (s.begin_ t) n = unlockedFigures s n := by rw [unlockedFigures, unlockedFigures, begin_obj]
  obtain ⟨hfresh, hnodup⟩ := List.nodup_cons.1 (limFigures_nodup s n)
  rw [hfigures] at hu
  refine sets_eventOf (exec_limitRefresh ..) (by simpa using hn) hawake (hu ▸ ?_) (hu ▸ ?_) trivial
  · refine (leaves_set _ _ ?_).trans ((leaves_modTile ..).trans ((leaves_setAll ..).mono fun k hk => ?_))
    · simp
    · rw [List.map_append]
      exact List.mem_append_left _ hk
  · refine holds_append (holds_keep (holds_setAll (s.begin_ t) hnodup) fun k hk => ?_) (holds_cons (obj_set_self ..) (holds_nil _))
    have hne : k ≠ K.tileLimUpdated n := fun e => hfresh (e ▸ hk)
    exact obj_set_ne _ _ hne

/-! ## With a lock -/

/-- The end of a part of a refresh: the ratio's bit of the flags, and a raise at the third ratio in a row above its threshold. -/
def limitJudged (s : State) (n bit cause runs : Nat) (bad : Bool) (g : Tile → Tile) : State :=
  if !bad then (s.modTile n g).set (K.tileLimFlags n) (withBit ((s.modTile n g).obj (K.tileLimFlags n)) bit false)
  else if runs = 3 then
    ((s.modTile n g).set (K.tileLimFlags n) (withBit ((s.modTile n g).obj (K.tileLimFlags n)) bit true)).raiseTile n cause
  else s.modTile n g

theorem obj_limitJudged (s : State) (n bit cause runs : Nat) (bad : Bool) (g : Tile → Tile) {k : Nat} (hk : k < 0x700000)
    (hne : k ≠ K.tileLimFlags n) : (limitJudged s n bit cause runs bad g).obj k = s.obj k := by
  unfold limitJudged
  split
  · exact obj_set_ne _ _ hne
  · split
    · exact (obj_raise_of_lt _ _ _ hk).trans (obj_set_ne _ _ hne)
    · rfl

/-- The square of the measured noise at the junction temperature of the moment. -/
def noiseMeasured (s : State) (n : Nat) : Frac :=
  if s.liveNoise n then (s.blackNoise n).getD ⟨0, 1⟩
  else Frac.mul (Frac.mul (fracOfF32 (s.tile n).nCal) (fracOfF32 (s.tile n).nCal)) ⟨s.kelvin n, max 1 (s.tile n).tCal⟩

/-- The terms of the noise limit ratio. -/
def noiseShown (s : State) (n : Nat) (m : LimitMeas) : List (Nat × Nat) :=
  [(K.tileLimReq n, m.req), (K.tileLimBn n, (s.noiseBandwidth n).f32), (K.tileLimNMeas n, (noiseMeasured s n).sqrtF32),
    (K.tileLimNRef n, (s.noiseRef n m).sqrtF32), (K.tileLimNoise n, (Frac.div (noiseMeasured s n) (s.noiseRef n m)).sqrtF32),
    (K.tileLimSource n, if s.liveNoise n then 2 else 1)]

/-- Refreshes in a row above the threshold of a ratio. -/
def noiseRuns (s u : State) (n : Nat) : Nat :=
  if f32Key (u.obj (K.tileLimNoiseAlarm n)) < f32Key (u.obj (K.tileLimNoise n)) then (s.tile n).noiseBad + 1 else 0

theorem refreshNoise_eq (hcal : (s.tile n).nCal ≠ 0) (hstep : (s.tile n).cal.step < 2) : s.refreshNoise n m =
    limitJudged (setAll s (noiseShown s n m)) n 0 9 (noiseRuns s (setAll s (noiseShown s n m)) n)
      (decide (f32Key ((setAll s (noiseShown s n m)).obj (K.tileLimNoiseAlarm n)) < f32Key ((setAll s (noiseShown s n m)).obj (K.tileLimNoise n))))
      (fun y => { y with noiseBad := noiseRuns s (setAll s (noiseShown s n m)) n }) := by
  unfold State.refreshNoise
  rw [if_neg hcal, if_neg (Nat.not_le.2 hstep)]
  rfl

/-- The square of a tile's jitter: the two shared terms and its own. -/
def jitterSquared (s : State) (n : Nat) (m : LimitMeas) : Frac :=
  Frac.add (Frac.add (Frac.mul (fracOfF32 m.jRef) (fracOfF32 m.jRef)) (Frac.mul (fracOfF32 m.jSyn) (fracOfF32 m.jSyn)))
    (Frac.mul (fracOfF32 (s.tile n).jAp) (fracOfF32 (s.tile n).jAp))

/-- The terms of the timing limit ratio. -/
def jitterShown (s : State) (n : Nat) (m : LimitMeas) : List (Nat × Nat) :=
  [(K.tileLimJAp n, (s.tile n).jAp), (K.tileLimJitter n, (jitterSquared s n m).sqrtF32),
    (K.tileLimTiming n, (Frac.div (jitterSquared s n m) (Frac.mul (fracOfF32 m.jRef) (fracOfF32 m.jRef))).sqrtF32)]

def jitterRuns (s u : State) (n : Nat) : Nat :=
  if f32Key (u.obj (K.tileLimJitterAlarm n)) < f32Key (u.obj (K.tileLimJitter n)) then (s.tile n).jitterBad + 1 else 0

/-- The terms of a tile and of its quadrant. -/
def jitterTerms (s : State) (n : Nat) (m : LimitMeas) : State := setAll (s.shareJitter (quadOf n) m) (jitterShown s n m)

theorem refreshTiming_locked (h : s.locked (quadOf n) = true) : s.refreshTiming n m =
    limitJudged (jitterTerms s n m) n 1 10 (jitterRuns s (jitterTerms s n m) n)
      (decide (f32Key ((jitterTerms s n m).obj (K.tileLimJitterAlarm n)) < f32Key ((jitterTerms s n m).obj (K.tileLimJitter n))))
      (fun y => { y with jitterBad := jitterRuns s (jitterTerms s n m) n }) := by
  unfold State.refreshTiming
  rw [if_neg (by simp [h])]
  extract_lets sq j2 shared terms bad runs u
  have hterms : terms = jitterTerms s n m := by
    simp only [terms, shared, jitterTerms, setAll, jitterShown, jitterSquared, j2, sq, List.foldl_cons, List.foldl_nil]
  simp only [u, runs, bad, ← hterms]
  rfl

theorem obj_shareJitter (s : State) (q : Nat) (m : LimitMeas) {k : Nat}
    (hk : ∀ i, k ≠ K.tileLimJRef i ∧ k ≠ K.tileLimJSyn i) : (s.shareJitter q m).obj k = s.obj k :=
  foldl_keeps (fun u => u.obj k) _ _ _ fun _ _ => (obj_set_ne _ _ (hk _).2).trans (obj_set_ne _ _ (hk _).1)

theorem shareJitter_shows (s : State) (m : LimitMeas) (hon : isOn (s.obj (K.tileStatus n)) = true) :
    (s.shareJitter (quadOf n) m).obj (K.tileLimJRef n) = m.jRef ∧ (s.shareJitter (quadOf n) m).obj (K.tileLimJSyn n) = m.jSyn := by
  have hn : 64 * quadOf n + n % 64 = n := Nat.div_add_mod ..
  have hmem : n % 64 ∈ (List.range 64).filter (fun i => isOn (s.obj (K.tileStatus (64 * quadOf n + i)))) :=
    List.mem_filter.2 ⟨List.mem_range.2 (Nat.mod_lt _ (by decide)), by rw [hn]; exact hon⟩
  have hshown : (s.shareJitter (quadOf n) m).obj (K.tileLimJRef (64 * quadOf n + n % 64)) = m.jRef ∧
      (s.shareJitter (quadOf n) m).obj (K.tileLimJSyn (64 * quadOf n + n % 64)) = m.jSyn :=
    foldl_establishes (P := fun i u => u.obj (K.tileLimJRef (64 * quadOf n + i)) = m.jRef ∧ u.obj (K.tileLimJSyn (64 * quadOf n + i)) = m.jSyn)
      (fun u i => ⟨(obj_set_ne _ _ (dac_subs_ne (by decide))).trans (obj_set_self ..), obj_set_self ..⟩)
      (fun u i j hne h => ?_) _ s hmem
  · rwa [hn] at hshown
  · have hrefs : K.tileLimJRef (64 * quadOf n + i) ≠ K.tileLimJRef (64 * quadOf n + j) := key_ne (by decide) (by decide) (.inl (by omega))
    have hsyns : K.tileLimJSyn (64 * quadOf n + i) ≠ K.tileLimJSyn (64 * quadOf n + j) := key_ne (by decide) (by decide) (.inl (by omega))
    exact ⟨((obj_set_ne _ _ (dac_subs_ne (by decide))).trans (obj_set_ne _ _ hrefs)).trans h.1,
      ((obj_set_ne _ _ hsyns).trans (obj_set_ne _ _ (dac_subs_ne (by decide)))).trans h.2⟩

/-- An object outside the terms of jitter and the flags, through the part of a refresh that follows the noise. -/
theorem obj_refreshTiming (h : s.locked (quadOf n) = true) {i a : Nat} (hi : i % 16 = 10) (hi' : i < 0x7000) (ha : a < 256) (ha' : a ≠ 9) :
    (s.refreshTiming n m).obj (key i a) = s.obj (key i a) := by
  have hlow : key i a < 0x700000 := by
    unfold key
    omega
  have hne {j b : Nat} (hj : j % 16 = 11) (hb : b < 256) : key i a ≠ key j b := key_ne ha hb (.inl (by omega))
  rw [refreshTiming_locked h, obj_limitJudged _ _ _ _ _ _ _ hlow (dac_subs_ne ⟨ha, by decide, ha'⟩), jitterTerms, obj_setAll_ne]
  · exact obj_shareJitter _ _ _ fun j => ⟨hne (by omega) (by decide), hne (by omega) (by decide)⟩
  · simp only [jitterShown, List.map_cons, List.map_nil, List.mem_cons, List.not_mem_nil, or_false, not_or]
    exact ⟨hne (by omega) (by decide), hne (by omega) (by decide), hne (by omega) (by decide)⟩

theorem refreshTiming_shows (h : s.locked (quadOf n) = true) (hon : isOn (s.obj (K.tileStatus n)) = true) (hn : n < 256) :
    (s.refreshTiming n m).obj (K.tileLimJRef n) = m.jRef ∧ (s.refreshTiming n m).obj (K.tileLimJSyn n) = m.jSyn := by
  have hkey {a : Nat} (ha : a = 3 ∨ a = 4) :
      (s.refreshTiming n m).obj (key (0x300B + 16 * n) a) = (s.shareJitter (quadOf n) m).obj (key (0x300B + 16 * n) a) := by
    have hlow : key (0x300B + 16 * n) a < 0x700000 := by
      unfold key
      omega
    rw [refreshTiming_locked h, obj_limitJudged _ _ _ _ _ _ _ hlow (dac_subs_ne (by omega)), jitterTerms, obj_setAll_ne]
    simp only [jitterShown, List.map_cons, List.map_nil, List.mem_cons, List.not_mem_nil, or_false, not_or]
    exact ⟨dac_subs_ne (by omega), dac_subs_ne (by omega), dac_subs_ne (by omega)⟩
  exact ⟨(hkey (.inl rfl)).trans (shareJitter_shows s m hon).1, (hkey (.inr rfl)).trans (shareJitter_shows s m hon).2⟩

theorem noiseShown_nodup (s : State) (n : Nat) (m : LimitMeas) : ((noiseShown s n m).map (·.1)).Nodup := by
  simp [noiseShown, K.tileLimReq, K.tileLimBn, K.tileLimNMeas, K.tileLimNRef, K.tileLimNoise, K.tileLimSource, key]

theorem obj_refreshNoise (hcal : (s.tile n).nCal ≠ 0) (hstep : (s.tile n).cal.step < 2) {k : Nat} (hk : k < 0x700000)
    (hne : k ≠ K.tileLimFlags n) : (s.refreshNoise n m).obj k = (setAll s (noiseShown s n m)).obj k := by
  rw [refreshNoise_eq hcal hstep, obj_limitJudged _ _ _ _ _ _ _ hk hne]

/-- What a refresh shows of a calibrated tile with a lock. -/
theorem xLimitRefresh_locked (hn : n < 256) (hmode : [mRun, mHold, mSafe].contains s.mode = true)
    (hon : isOn (s.obj (K.tileStatus n)) = true) (hcal : (s.tile n).nCal ≠ 0) (hstep : (s.tile n).cal.step < 2)
    (hlock : s.locked (quadOf n) = true) :
    (∀ e ∈ noiseShown s n m, (xLimitRefresh n m s).obj e.1 = e.2) ∧ (xLimitRefresh n m s).obj (K.tileLimJRef n) = m.jRef ∧
      (xLimitRefresh n m s).obj (K.tileLimJSyn n) = m.jSyn ∧ (xLimitRefresh n m s).obj (K.tileLimUpdated n) = s.now := by
  have hnoise {i b : Nat} (hi : i ≠ 0x300A + 16 * n) (hi' : i < 0x7000) (hb : b < 256) :
      (s.refreshNoise n m).obj (key i b) = s.obj (key i b) := by
    have hlow : key i b < 0x700000 := by
      unfold key
      omega
    have hne {c : Nat} (hc : c < 256) : key i b ≠ key (0x300A + 16 * n) c := key_ne hb hc (.inl hi)
    rw [obj_refreshNoise hcal hstep hlow (hne (by decide)), obj_setAll_ne]
    simp only [noiseShown, List.map_cons, List.map_nil, List.mem_cons, List.not_mem_nil, or_false, not_or]
    exact ⟨hne (by decide), hne (by decide), hne (by decide), hne (by decide), hne (by decide), hne (by decide)⟩
  have hquad : quadOf n < 4 := by
    unfold quadOf
    omega
  have hsyn : (s.refreshNoise n m).obj (K.timeSynStatus (quadOf n)) = s.obj (K.timeSynStatus (quadOf n)) :=
    hnoise (by omega) (by omega) (by decide)
  have hlock' : (s.refreshNoise n m).locked (quadOf n) = true := by rw [State.locked, hsyn, ← State.locked, hlock]
  have hstatus : (s.refreshNoise n m).obj (K.tileStatus n) = s.obj (K.tileStatus n) := hnoise (by omega) (by omega) (by decide)
  have hshared := refreshTiming_shows (m := m) hlock' (by rwa [hstatus]) hn
  rw [xLimitRefresh_eq hmode hon]
  refine ⟨fun e he => ?_, ?_, ?_, obj_set_self ..⟩
  · have hkey : ∃ b, e.1 = key (0x300A + 16 * n) b ∧ b < 7 := by
      simp only [noiseShown, List.mem_cons, List.not_mem_nil, or_false] at he
      rcases he with rfl | rfl | rfl | rfl | rfl | rfl <;> exact ⟨_, rfl, by decide⟩
    obtain ⟨b, hb, hlt⟩ := hkey
    have hlow : key (0x300A + 16 * n) b < 0x700000 := by
      unfold key
      omega
    have hupdated : key (0x300A + 16 * n) b ≠ K.tileLimUpdated n := dac_subs_ne (by omega)
    have hflags : key (0x300A + 16 * n) b ≠ K.tileLimFlags n := dac_subs_ne (by omega)
    rw [← holds_setAll s (noiseShown_nodup s n m) e he, hb]
    exact (obj_set_ne _ _ hupdated).trans
      ((obj_refreshTiming hlock' (by omega) (by omega) (by omega) (by omega)).trans (obj_refreshNoise hcal hstep hlow hflags))
  · have hne : K.tileLimJRef n ≠ K.tileLimUpdated n := dac_subs_ne (by decide)
    exact (obj_set_ne _ _ hne).trans hshared.1
  · have hne : K.tileLimJSyn n ≠ K.tileLimUpdated n := dac_subs_ne (by decide)
    exact (obj_set_ne _ _ hne).trans hshared.2

theorem tileCount_le (v : Variant) : tileCount v ≤ 256 := by cases v <;> decide

theorem limitRefresh_locked (hheld : s.held = false) (hn : n < tileCount s.variant) (hmode : [mRun, mHold, mSafe].contains s.mode = true)
    (hon : isOn (s.obj (K.tileStatus n)) = true) (hcal : (s.tile n).nCal ≠ 0) (hstep : (s.tile n).cal.step < 2)
    (hlock : s.locked (quadOf n) = true) :
    Completes (.limitRefresh t n m) s
      (fun u => u.obj (K.tileLimReq n) = m.req ∧ u.obj (K.tileLimBn n) = (s.noiseBandwidth n).f32 ∧ u.obj (K.tileLimJRef n) = m.jRef ∧
        u.obj (K.tileLimJSyn n) = m.jSyn ∧ u.obj (K.tileLimNRef n) = (s.noiseRef n m).sqrtF32 ∧
        u.obj (K.tileLimSource n) = (if s.liveNoise n then 2 else 1) ∧ u.obj (K.tileLimUpdated n) = (s.begin_ t).now)
      (fun _ => True) := by
  obtain ⟨hnoise, href, hsyn, hupdated⟩ := xLimitRefresh_locked (s := s.begin_ t) (m := m) (hn.trans_le (tileCount_le _)) hmode hon hcal
    hstep hlock
  refine completes_eventOf (exec_limitRefresh ..) (by simpa using hn) hheld ⟨?_, ?_, href, hsyn, ?_, ?_, hupdated⟩
  · exact hnoise (K.tileLimReq n, m.req) List.mem_cons_self
  · exact hnoise (K.tileLimBn n, ((s.begin_ t).noiseBandwidth n).f32) (by simp [noiseShown])
  · exact hnoise (K.tileLimNRef n, ((s.begin_ t).noiseRef n m).sqrtF32) (by simp [noiseShown])
  · exact hnoise (K.tileLimSource n, if (s.begin_ t).liveNoise n then 2 else 1) (by simp [noiseShown])

end

/-- Settles O46: the check reference by its rows of checks, the limit ratios by their parts, the estimator by its state. -/
theorem limitsAndEstimatorsFollow : Obligations.LimitsAndEstimatorsFollow := by
  unfold Obligations.LimitsAndEstimatorsFollow
  refine ⟨fun s t ppm hawake => ⟨fun hbad hfew => ?_, fun hbad hfew => ?_, fun hbad hmany hstate htiles hcal => ?_, fun hbad hmany hstate => ?_⟩,
    fun s t n m hawake hn hmode hon hcal hlock => limitRefresh_unlocked hawake hn hmode hon hcal hlock,
    fun s t n m hheld hn hmode hon hcal hstep hlock => limitRefresh_locked hheld hn hmode hon hcal hstep hlock,
    fun s t n f hawake hn => ⟨?_, ?_, ?_, ?_, ?_⟩, fun s q l n hsafe hn h => ilvReset_writes hn hsafe h⟩
  · exact invar_counts hawake true hbad hfew fun u hrow hnone => ⟨hrow, hnone⟩
  · exact invar_counts hawake false hbad hfew fun u hnone hrow => ⟨hrow, hnone⟩
  · exact invar_drifts hawake hbad hmany hstate htiles hcal
  · exact invar_clears hawake hbad hmany hstate
  · exact fun h hfew => ilv_acquires hawake hn h hfew
  · exact fun h hmany => ilv_tracks hawake hn h hmany
  · exact fun h hquiet hlong => ilv_holds_still hawake hn h hquiet hlong
  · exact fun h hloud hmany => ilv_updates hawake hn h hloud hmany
  · exact fun h hloud => ilv_resumes hawake hn h hloud

end Sys2Proof.Proofs
end

section
/-! # A tile beyond the device whose runs begin

A fault of a spare releases it, and the calibrations that wait go on. The hidden state may name a tile beyond the device: its objects are
those of other units, here the count of the very source that the fault raises. -/

set_option Elab.async false

namespace Sys2Proof.Proofs

open Sys2Proof Sys2Proof.Machine Sys2Proof.Laws

/-! ## Objects through what follows every command -/

/-- Where no entry into SAFE comes of it, an owed entry moves the causes alone. -/
theorem obj_answerSafe {s : State} {k : Nat} (hk : k ≠ K.deviceSafeCause) (h : s.answerSafe.obj K.deviceModeTarget ≠ mSafe) :
    s.answerSafe.obj k = s.obj k := by
  by_cases hask : s.safeAsk = 0
  · rw [State.answerSafe, if_pos hask]
  by_cases hheld : s.held = true
  · rw [State.answerSafe, if_neg hask, if_pos hheld]
    rfl
  have hanswer := answerSafe_eq hask (by simpa using hheld)
  rw [hanswer, obj_safeAsk] at h
  rw [hanswer, obj_safeAsk]
  by_cases hmode : s.mode = mBoot ∨ s.mode = mRescue ∨ s.mode = mSafe
  · rw [enterSafe_latches hmode]
    exact obj_set_ne _ _ hk
  · simp only [not_or] at hmode
    exact absurd (enterSafe_enters hmode).target h

/-- A command that ends with another target than SAFE leaves an object, one with the same default in all variants, as its own effect
left it. -/
theorem finish_obj {before s : State} {k : Nat} (hsettled : settledKey k = false) (hcause : k ≠ K.deviceSafeCause)
    (hdefault : ∀ v, defaultOf v k = defaultOf .sv4x128 k) (h : (before.finish s).obj K.deviceModeTarget ≠ mSafe) :
    (before.finish s).obj k = s.obj k := by
  have hclosed := (same_routeAll ((s.showQueue.settleFirst.answerSafe.settleUnits before).notices before)).trans
    ((same_notices _ before).trans (same_settleUnits _ before))
  have hopened : Same s.showQueue.settleFirst s := (same_settleFirst _).trans (same_showQueue s)
  have htarget : (before.finish s).obj K.deviceModeTarget = s.showQueue.settleFirst.answerSafe.obj K.deviceModeTarget :=
    (target_congr (by simp only [State.finish])).trans (hclosed.obj _ (by decide))
  have hdict : (before.finish s).obj k = ((s.showQueue.settleFirst.answerSafe.settleUnits before).notices before).routeAll.obj k := by
    have h : (before.finish s).dict = ((s.showQueue.settleFirst.answerSafe.settleUnits before).notices before).routeAll.dict := by
      simp only [State.finish]
    simp only [State.obj, Sp.get, h, hdefault]
  calc (before.finish s).obj k
      = s.showQueue.settleFirst.answerSafe.obj k := hdict.trans (hclosed.obj k hsettled)
    _ = s.showQueue.settleFirst.obj k := obj_answerSafe hcause (htarget ▸ h)
    _ = s.obj k := hopened.obj k hsettled

/-- Two effects with one outcome, which is not SAFE, leave an object alike. -/
theorem obj_of_finish_eq {before s u : State} {k : Nat} (hsettled : settledKey k = false) (hcause : k ≠ K.deviceSafeCause)
    (hdefault : ∀ v, defaultOf v k = defaultOf .sv4x128 k) (hv : s.variant = before.variant) (hq : s.safeAsk = 0)
    (h : s.obj K.deviceModeTarget ≠ mSafe) (hsame : before.finish s = before.finish u) : s.obj k = u.obj k := by
  have htarget : (before.finish s).obj K.deviceModeTarget ≠ mSafe := by
    rwa [(same_finish before s hv hq).obj _ (by decide)]
  rw [← finish_obj hsettled hcause hdefault htarget, hsame, finish_obj hsettled hcause hdefault (hsame ▸ htarget)]

/-! ## The spare and the tile beyond the device -/

/-- A queued internal calibration. -/
def queuedTile : Tile := { Tile.none_ with cal := { Cal.none_ with kind := 1 } }

/-- Tile 9 is the spare of a substitution whose calibration runs, and the hidden state has a queued tile 1,040. -/
def strayTile : State := { bootedInRun with tiles := [(1040, queuedTile)], swaps := [⟨8, 9, 4, 3, 0, 0xFFFF⟩] }

/-- What the fault of tile 9 leaves, before the account of how the command ends. -/
abbrev strayFault : State := xTileFault 9 0 (strayTile.begin_ 0)

theorem strayFault_count : strayFault.obj (K.eventCount 265) = 0 := by decide +kernel

theorem strayFault_target : strayFault.obj K.deviceModeTarget ≠ mSafe := by decide +kernel

theorem strayFault_next : exec (.tileFault 0 9 0) strayTile = .next (strayTile.finish strayFault) :=
  (exec_tileFault ..).trans (eventOf_next _ _ _ _ rfl rfl)

/-- Refutes O47: its clause on the raise of a fault. The runs of `strayTile`'s tile 1,040 begin, and its interleave flags are the count of
the source of tile 9. -/
theorem not_monitorsTripAndTilesFail : ¬ Obligations.MonitorsTripAndTilesFail := by
  unfold Obligations.MonitorsTripAndTilesFail
  rintro ⟨-, -, hfault⟩
  obtain ⟨u, hu, ⟨-, -, hcount, -⟩, -⟩ := hfault strayTile 0 9 0 (by decide +kernel) (by decide +kernel) (by decide)
  have hsame : strayTile.finish strayFault = strayTile.finish u := Host.Outcome.next.inj (strayFault_next.symm.trans hu)
  have hobj : strayFault.obj (K.eventCount 265) = u.obj (K.eventCount 265) :=
    obj_of_finish_eq (by decide +kernel) (by decide) (fun v => by cases v <;> decide +kernel) (by decide +kernel) (by decide +kernel)
      strayFault_target hsame
  have hone : satAdd 32 (strayTile.obj (K.eventCount (256 + 9))) 1 = 1 := by decide +kernel
  exact absurd (strayFault_count.symm.trans (hobj.trans (hcount.trans hone))) (by decide)

end Sys2Proof.Proofs
end

section
/-! # A selector that serves a pad beyond the device

The dictionary may give a context an input beyond the device: the contention count of that pad is here the count of the source of pad 7. -/

set_option Elab.async false

namespace Sys2Proof.Proofs

open Sys2Proof Sys2Proof.Machine Sys2Proof.Laws

/-- Context 0 is PRIMED on tile 0 and reads pad 1,040. -/
def strayPad : State :=
  { (((bootedInRun.poke (K.ctxState 0) 3).poke (K.ctxTile 0) 0).poke (K.graphNodeScan 0) 0xFFFF).poke (K.graphNodeInput 0) 1040 with
    ctxs := [(0, Ctx.none_)] }

/-- What the contention of the selector, which also joined pad 7, leaves before the account of how the command ends. -/
abbrev strayContention : State := xBusContention (.selector 0 0 [7]) (strayPad.begin_ 0)

theorem strayContention_count : strayContention.obj (K.tilePadContentions 1040) = 2 := by decide +kernel

theorem strayContention_target : strayContention.obj K.deviceModeTarget ≠ mSafe := by decide +kernel

theorem strayContention_next : exec (.busContention 0 (.selector 0 0 [7])) strayPad = .next (strayPad.finish strayContention) :=
  (exec_busContention ..).trans (eventOf_next _ _ _ _ rfl rfl)

/-- Refutes O35: its clause on the pads that a selector serves. The raise of pad 7 counts at pad 1,040 once more. -/
theorem not_tilesAndPadsReact : ¬ Obligations.TilesAndPadsReact := by
  unfold Obligations.TilesAndPadsReact
  rintro ⟨-, -, -, -, -, -, -, hselector⟩
  obtain ⟨⟨u, hu, hpads, -⟩, -⟩ := hselector strayPad 0 0 0 [7] (by decide +kernel) (by decide +kernel) (by decide) (by decide)
  obtain ⟨-, -, hcount⟩ := hpads 1040 (by decide +kernel)
  have hsame : strayPad.finish strayContention = strayPad.finish u := Host.Outcome.next.inj (strayContention_next.symm.trans hu)
  have hobj : strayContention.obj (K.tilePadContentions 1040) = u.obj (K.tilePadContentions 1040) :=
    obj_of_finish_eq (by decide +kernel) (by decide) (fun v => by cases v <;> decide +kernel) (by decide +kernel) (by decide +kernel)
      strayContention_target hsame
  have hone : satAdd 32 (strayPad.obj (K.tilePadContentions 1040)) 1 = 1 := by decide +kernel
  exact absurd (strayContention_count.symm.trans (hobj.trans (hcount.trans hone))) (by decide)

end Sys2Proof.Proofs
end

section
/-! # Errors of the Store (R260, R263, R265) -/

set_option Elab.async false

namespace Sys2Proof.Proofs

open Sys2Proof Sys2Proof.Machine Sys2Proof.Laws

/-! ## A region's copy -/

section
variable (s : State)

/-- The regions that still wait for their copy. -/
def stillRetiring (s : State) (rest : List (Nat × Nat)) : State := { s with retireQ := rest }

@[simp] theorem obj_stillRetiring (rest : List (Nat × Nat)) (k : Nat) : (stillRetiring s rest).obj k = s.obj k := rfl

/-- The map of retired regions has one more. -/
def retiredNext (s : State) (region : Nat) (rest : List (Nat × Nat)) : State :=
  ((stillRetiring s rest).set K.storeRetired
    (withBits (s.obj K.storeRetired) (32 * s.obj K.storeRetiredCount + 31) (32 * s.obj K.storeRetiredCount) region)).set K.storeRetiredCount
      (s.obj K.storeRetiredCount + 1)

theorem regionCopy_eq {region p : Nat} {rest : List (Nat × Nat)} (h : s.retireQ = (region, p) :: rest) (hred : s.clientRed 47 = false) :
    xRegionCopy s = (retiredNext s region rest).raise (577 + 2 * p) region := by
  simp only [xRegionCopy, h, hred]
  rfl

theorem retiredNext_other {region k : Nat} (rest : List (Nat × Nat)) (h : k ∉ [K.storeRetired, K.storeRetiredCount]) :
    (retiredNext s region rest).obj k = s.obj k := by
  simp only [List.mem_cons, List.not_mem_nil, or_false, not_or] at h
  rw [retiredNext, obj_set_ne _ _ h.2, obj_set_ne _ _ h.1, obj_stillRetiring]

end

theorem pcSource_present (s : State) {p : Nat} (hp : p < 32) : s.hasSource (577 + 2 * p) = true := by
  have h1 : ¬ 577 + 2 * p < 256 := by omega
  have h2 : ¬ 577 + 2 * p < 512 := by omega
  have h3 : ¬ 577 + 2 * p < 576 := by omega
  have h4 : ¬ 672 ≤ 577 + 2 * p := by omega
  have h5 : 577 + 2 * p < 768 := by omega
  simp [State.hasSource, eventPresent, h1, h2, h3, h4, h5]

section
variable {s : State} {t p : Nat}

theorem regionCopy_sets {region : Nat} {rest : List (Nat × Nat)} (h : Awake s) (hp : p < 32) (hwait : s.retireQ = (region, p) :: rest)
    (hred : s.obj (K.arbClientState 47) ≠ 1) :
    Sets (.regionCopyComplete t) s
      ([(K.storeRetired, withBits (s.obj K.storeRetired) (32 * s.obj K.storeRetiredCount + 31) (32 * s.obj K.storeRetiredCount) region),
        (K.storeRetiredCount, s.obj K.storeRetiredCount + 1)] ++ raisedBy (s.begin_ t) (577 + 2 * p) region) (fun u => u.retireQ = rest) := by
  have hclient : (s.begin_ t).clientRed 47 = false := by simpa [State.clientRed] using hred
  have heffect := regionCopy_eq (s.begin_ t) hwait hclient
  have hcount : K.eventCount (577 + 2 * p) ∉ [K.storeRetired, K.storeRetiredCount] := by
    simp only [List.mem_cons, List.not_mem_nil, or_false, not_or]
    exact ⟨key_ne (by decide) (by decide) (by omega), key_ne (by decide) (by decide) (by omega)⟩
  have hne : K.storeRetired ≠ K.storeRetiredCount := by decide
  refine sets_event (exec_regionCopyComplete ..) h ?_ ?_ ?_ <;> rw [heffect]
  · refine (leaves_raise _ _ _ fun k hk => by simp [map_fst_raisedBy, hk]).trans
      ((leaves_set _ _ (by simp)).trans ((leaves_set _ _ (by simp)).trans (leaves_of_dict rfl rfl rfl rfl rfl rfl)))
  · refine holds_append (holds_cons ?_ (holds_cons ?_ (holds_nil _))) (holds_raise _ (pcSource_present _ hp)
      (retiredNext_other _ _ hcount) rfl)
    · exact (obj_raise_of_lt _ _ _ (k := K.storeRetired) (by decide)).trans ((obj_set_ne _ _ hne).trans (obj_set_self ..))
    · exact (obj_raise_of_lt _ _ _ (k := K.storeRetiredCount) (by decide)).trans (obj_set_self ..)
  · rw [raise_retireQ]
    rfl

/-! ## Retries of a parity error -/

/-- A retry is counted. -/
def retried (s : State) (p : Nat) : State := s.count (K.storePcParity p) 32 1

/-- A pseudo-channel with a number of retries in a row. -/
def withRetries (s : State) (p n : Nat) : State := s.setPc p { s.pc p with retries := n }

theorem obj_withRetries (s : State) (p n k : Nat) : (withRetries s p n).obj k = s.obj k := rfl

theorem leaves_withRetries {ks : List Nat} (s : State) (p n : Nat) : Leaves ks (withRetries s p n) s := leaves_of_dict rfl rfl rfl rfl rfl rfl

theorem retries_withRetries (s : State) (p n : Nat) : ((withRetries s p n).pc p).retries = n :=
  congrArg Pc.retries (get_put_self ..)

theorem parityRetry_eq (s : State) (p : Nat) (ok : Bool) : xParityRetry p ok s =
    if ok then withRetries (retried s p) p 0
    else if (s.pc p).retries + 1 ≥ 3 then ((withRetries (retried s p) p 0).set (K.storePcState p) 2).storeFatal
    else withRetries (retried s p) p ((s.pc p).retries + 1) := rfl

theorem parityRetry_sets {ok : Bool} (h : Awake s) (hp : p < 32) (hend : ok = true ∨ (s.pc p).retries < 2) :
    Sets (.parityRetry t p ok) s [(K.storePcParity p, satAdd 32 (s.obj (K.storePcParity p)) 1)]
      (fun u => (u.pc p).retries = if ok then 0 else (s.pc p).retries + 1) := by
  have heffect : xParityRetry p ok (s.begin_ t) = withRetries (retried (s.begin_ t) p) p (if ok then 0 else (s.pc p).retries + 1) := by
    by_cases hok : ok = true
    · rw [parityRetry_eq, if_pos hok, if_pos hok]
    · have hfew : ¬ ((s.begin_ t).pc p).retries + 1 ≥ 3 := by
        have hpc : (s.begin_ t).pc p = s.pc p := rfl
        have := hend.resolve_left hok
        rw [hpc]
        omega
      rw [parityRetry_eq, if_neg hok, if_neg hok, if_neg hfew]
      rfl
  refine sets_eventOf (exec_parityRetry ..) (by simpa using hp) h ?_ ?_ ?_ <;> rw [heffect]
  · exact (leaves_withRetries ..).trans (leaves_count _ _ _ (List.mem_singleton_self _))
  · exact holds_cons ((obj_withRetries ..).trans (obj_count_self ..)) (holds_nil _)
  · exact retries_withRetries ..

/-! ## A fatal error -/

/-- A SAFE entry is owed for a cause. -/
theorem obj_askSafe (s : State) (bit k : Nat) : (s.askSafe bit).obj k = s.obj k := rfl

theorem storeFatal_obj (s : State) {k : Nat} (hk : k < 0x700000) : s.storeFatal.obj k = (s.set K.storeState 4).obj k :=
  (obj_askSafe ..).trans (obj_riseIf_of_lt hk)

theorem storeFatal_asks (s : State) : s.storeFatal.safeAsk.testBit 6 = true := by
  refine (Nat.testBit_or ..).trans (Bool.or_eq_true .. |>.mpr (.inr ?_))
  exact Nat.testBit_two_pow_self

theorem parityRetry_fatal (hheld : s.held = false) (hp : p < 32) (hthird : 2 ≤ (s.pc p).retries) :
    Completes (.parityRetry t p false) s
      (fun u => u.obj (K.storePcParity p) = satAdd 32 (s.obj (K.storePcParity p)) 1 ∧ u.obj (K.storePcState p) = 2 ∧
        u.obj K.storeState = 4 ∧ u.safeAsk.testBit 6 = true) (fun _ => True) := by
  have hmany : ((s.begin_ t).pc p).retries + 1 ≥ 3 := by
    have hpc : (s.begin_ t).pc p = s.pc p := rfl
    rw [hpc]
    omega
  have heffect := (parityRetry_eq (s.begin_ t) p false).trans ((if_neg (by decide)).trans (if_pos hmany))
  have hparity : K.storePcParity p < 0x700000 ∧ K.storePcParity p ≠ K.storeState ∧ K.storePcParity p ≠ K.storePcState p := by
    refine ⟨?_, key_ne (by decide) (by decide) (by omega), key_ne (by decide) (by decide) (.inr (by decide))⟩
    simp only [K.storePcParity, key]
    omega
  have hstate : K.storePcState p < 0x700000 ∧ K.storePcState p ≠ K.storeState := by
    refine ⟨?_, key_ne (by decide) (by decide) (by omega)⟩
    simp only [K.storePcState, key]
    omega
  refine ⟨_, (exec_parityRetry ..).trans (eventOf_next _ _ _ _ (by simpa using hp) hheld), ?_, trivial⟩
  rw [heffect]
  refine ⟨?_, ?_, ?_, storeFatal_asks _⟩
  · rw [storeFatal_obj _ hparity.1, obj_set_ne _ _ hparity.2.1, obj_set_ne _ _ hparity.2.2, obj_withRetries]
    exact obj_count_self ..
  · rw [storeFatal_obj _ hstate.1, obj_set_ne _ _ hstate.2, obj_set_self]
  · rw [storeFatal_obj _ (by decide), obj_set_self]

end

/-! ## The patrol -/

/-- State u has every poisoned transfer that s has, the capacity, and the same validity of the shadow. -/
structure KeepsShadow (u s : State) : Prop where
  valid : u.obj K.deviceStandbyShadow = s.obj K.deviceStandbyShadow
  poisoned : ∀ a, s.poisoned a = true → u.poisoned a = true

section
variable {u v s : State}

theorem KeepsShadow.refl (s : State) : KeepsShadow s s := ⟨rfl, fun _ h => h⟩

theorem KeepsShadow.trans (h : KeepsShadow u v) (g : KeepsShadow v s) : KeepsShadow u s :=
  ⟨h.valid.trans g.valid, fun a ha => h.poisoned a (g.poisoned a ha)⟩

theorem keepsShadow_of_poison (hobj : u.obj K.deviceStandbyShadow = s.obj K.deviceStandbyShadow) (hpoison : u.poison = s.poison) :
    KeepsShadow u s := ⟨hobj, fun a h => by rwa [State.poisoned, hpoison]⟩

theorem keepsShadow_set (s : State) {k : Nat} (v : Nat) (h : K.deviceStandbyShadow ≠ k) : KeepsShadow (s.set k v) s :=
  keepsShadow_of_poison (obj_set_ne _ _ h) (set_poison ..)

theorem keepsShadow_count (s : State) {k : Nat} (w n : Nat) (h : K.deviceStandbyShadow ≠ k) : KeepsShadow (s.count k w n) s :=
  keepsShadow_of_poison (obj_count_ne _ _ _ h) (count_poison ..)

theorem keepsShadow_raise (s : State) (n d : Nat) : KeepsShadow (s.raise n d) s :=
  keepsShadow_of_poison (obj_raise_of_lt _ _ _ (by decide)) (raise_poison ..)

theorem keepsShadow_foldl {β : Type} (f : State → β → State) (xs : List β) (s : State) (h : ∀ s x, KeepsShadow (f s x) s) :
    KeepsShadow (xs.foldl f s) s := by
  induction xs generalizing s with
  | nil => exact KeepsShadow.refl s
  | cons x xs ih => exact (ih (f s x)).trans (h s x)

theorem keepsShadow_setPoison (s : State) (a : Nat) : KeepsShadow (s.setPoison a true) s := by
  refine ⟨rfl, fun b hb => ?_⟩
  simp only [State.poisoned, State.setPoison] at hb ⊢
  by_cases hab : b / 64 = a / 64
  · rw [hab, get_put_self]
  · rw [get_put_ne _ _ _ hab, hb]

theorem poisoned_setPoison (s : State) (a : Nat) : (s.setPoison a true).poisoned a = true := by
  rw [State.poisoned, State.setPoison, get_put_self]

theorem keepsShadow_storeFatal (s : State) : KeepsShadow s.storeFatal s := by
  refine ⟨(storeFatal_obj _ (by decide)).trans (obj_set_ne _ _ (by decide)), fun a h => ?_⟩
  have hrise : (State.riseIf s (s.set K.storeState 4) 762 0).poison = s.poison := by
    unfold State.riseIf
    split
    · rw [raise_poison, set_poison]
    · exact set_poison ..
  have hpoison : s.storeFatal.poison = s.poison := hrise
  rwa [State.poisoned, hpoison]

/-- The contexts of an unusable region fail at their next boundary. -/
def failRegion (s : State) (region : Nat) : State :=
  s.ctxs.foldl (fun st e => if e.2.out.includes region || e.2.raw.includes region then
    st.modCtx e.1 (fun x => { x with failDue := 18 }) else st) s

theorem keepsShadow_failRegion (s : State) (region : Nat) : KeepsShadow (failRegion s region) s := by
  refine keepsShadow_foldl _ _ _ fun s e => ?_
  split
  · exact keepsShadow_of_poison rfl rfl
  · exact KeepsShadow.refl s

theorem makeUnusable_eq (s : State) (region p : Nat) : s.makeUnusable region p =
    if s.unusableList.contains region then s
    else if s.obj K.storeUnusableCount ≥ 16 then ((failRegion s region).raise (577 + 2 * p) region).storeFatal
    else (((failRegion s region).set K.storeUnusable (withBits ((failRegion s region).obj K.storeUnusable)
      (32 * s.obj K.storeUnusableCount + 31) (32 * s.obj K.storeUnusableCount) region)).set K.storeUnusableCount
        (s.obj K.storeUnusableCount + 1)).raise (577 + 2 * p) region := rfl

theorem keepsShadow_makeUnusable (s : State) (region p : Nat) : KeepsShadow (s.makeUnusable region p) s := by
  rw [makeUnusable_eq]
  split
  · exact KeepsShadow.refl s
  split
  · exact (keepsShadow_storeFatal _).trans ((keepsShadow_raise ..).trans (keepsShadow_failRegion ..))
  · exact (keepsShadow_raise ..).trans ((keepsShadow_set _ _ (by decide)).trans ((keepsShadow_set _ _ (by decide)).trans
      (keepsShadow_failRegion ..)))

theorem keepsShadow_retireRegion (s : State) (region p : Nat) : KeepsShadow (s.retireRegion region p) s := by
  unfold State.retireRegion
  split
  · exact KeepsShadow.refl s
  split
  · exact keepsShadow_makeUnusable ..
  · exact keepsShadow_of_poison rfl rfl

/-- The errors of the last second, with those of a read. -/
def errorsNow (s : State) (addr n : Nat) : List (Nat × Nat) :=
  s.corrections.filter (fun e => s.clock < e.2 + perS) ++ List.replicate n (addr / regionBytes, s.clock)

/-- The corrected errors of a read, counted and kept. -/
def readCorrected (s : State) (p addr n : Nat) : State :=
  { s.count (K.storePcCorrected p) 32 n with corrections := errorsNow s addr n }

theorem leaves_readCorrected {ks : List Nat} {s : State} {p addr n : Nat} (h : K.storePcCorrected p ∈ ks) :
    Leaves ks (readCorrected s p addr n) s :=
  have hcount : Leaves ks (s.count (K.storePcCorrected p) 32 n) s := leaves_count _ _ _ h
  ⟨hcount.variant, hcount.safeAsk, hcount.mem, hcount.ctxs, hcount.inForce, hcount.obj⟩

theorem corrected_eq (s : State) (p addr n : Nat) : s.corrected p addr n =
    if n = 0 then s
    else if ((errorsNow s addr n).filter (fun e => e.1 == addr / regionBytes)).length ≥ 16 then
      (readCorrected s p addr n).retireRegion (addr / regionBytes) p
    else readCorrected s p addr n := by
  have hcount : (s.count (K.storePcCorrected p) 32 n).corrections = s.corrections ∧ (s.count (K.storePcCorrected p) 32 n).clock = s.clock :=
    ⟨count_corrections .., count_clock ..⟩
  simp only [State.corrected, hcount.1, hcount.2, readCorrected, errorsNow]

theorem keepsShadow_corrected (s : State) (p addr n : Nat) : KeepsShadow (s.corrected p addr n) s := by
  have hne : K.deviceStandbyShadow ≠ K.storePcCorrected p := key_ne (by decide) (by decide) (by omega)
  have hcount : KeepsShadow (readCorrected s p addr n) s := keepsShadow_of_poison (obj_count_ne s 32 n hne) (count_poison s (K.storePcCorrected p) 32 n)
  rw [corrected_eq]
  split
  · exact KeepsShadow.refl s
  split
  · exact (keepsShadow_retireRegion ..).trans hcount
  · exact hcount

theorem keepsShadow_uncorrected (s : State) (p addr : Nat) : KeepsShadow (s.uncorrected p addr) s :=
  (keepsShadow_retireRegion ..).trans ((keepsShadow_count _ _ _ (key_ne (by decide) (by decide) (by omega))).trans
    (keepsShadow_setPoison ..))

theorem uncorrected_poisons (s : State) (p addr : Nat) : (s.uncorrected p addr).poisoned addr = true :=
  ((keepsShadow_retireRegion ..).trans (keepsShadow_count _ _ _ (key_ne (by decide) (by decide) (by omega)))).poisoned _
    (poisoned_setPoison ..)

/-- The transfers that a patrol corrects, and those that it finds beyond correction. -/
def patrolled (addrs bad : List Nat) (s : State) : State :=
  bad.foldl (fun st a => st.uncorrected (pcOf st.masks (transferOf a)) a)
    (addrs.foldl (fun st a => st.corrected (pcOf st.masks (transferOf a)) a 1) s)

theorem shadowPatrol_eq (addrs bad : List Nat) (s : State) (h : s.mode ≠ mStandby) : xShadowPatrol addrs bad s =
    if (patrolled addrs bad s).shadowPoisoned then (patrolled addrs bad s).set K.deviceStandbyShadow 0 else patrolled addrs bad s := if_neg h

theorem patrolled_keeps (addrs bad : List Nat) (s : State) : KeepsShadow (patrolled addrs bad s) s :=
  (keepsShadow_foldl _ _ _ fun _ _ => keepsShadow_uncorrected ..).trans (keepsShadow_foldl _ _ _ fun _ _ => keepsShadow_corrected ..)

theorem foldl_uncorrected_poisons (bad : List Nat) (s : State) {a : Nat} (h : a ∈ bad) :
    (bad.foldl (fun st a => st.uncorrected (pcOf st.masks (transferOf a)) a) s).poisoned a = true := by
  induction bad generalizing s with
  | nil => exact absurd h List.not_mem_nil
  | cons b bad ih =>
    obtain rfl | hmem := List.mem_cons.1 h
    · exact (keepsShadow_foldl _ bad _ fun _ _ => keepsShadow_uncorrected ..).poisoned _ (uncorrected_poisons ..)
    · exact ih _ hmem

theorem shadowPoisoned_set (s : State) {k : Nat} (v : Nat) (h : K.storeCapacity ≠ k) : (s.set k v).shadowPoisoned = s.shadowPoisoned := by
  have hbase : (s.set k v).shadowBase = s.shadowBase := congrArg (· - shadowBytes) (obj_set_ne _ _ h)
  simp only [State.shadowPoisoned, hbase]
  rfl

theorem shadowPatrol_completes {t : Nat} {addrs bad : List Nat} (hheld : s.held = false) (hmode : s.mode ≠ mStandby) :
    Completes (.shadowPatrol t addrs bad) s
      (fun u => (∀ a ∈ bad, u.poisoned a = true) ∧
        u.obj K.deviceStandbyShadow = if u.shadowPoisoned then 0 else s.obj K.deviceStandbyShadow) (fun _ => True) := by
  have heffect := shadowPatrol_eq addrs bad (s.begin_ t) hmode
  have hkeeps := patrolled_keeps addrs bad (s.begin_ t)
  have hbad : ∀ a ∈ bad, (patrolled addrs bad (s.begin_ t)).poisoned a = true := fun a ha => foldl_uncorrected_poisons _ _ ha
  refine ⟨_, (exec_shadowPatrol ..).trans (event_next _ _ _ hheld), ?_, trivial⟩
  rw [heffect]
  split
  next hp =>
    refine ⟨fun a ha => ?_, ?_⟩
    · rw [State.poisoned, set_poison]
      exact hbad a ha
    · rw [obj_set_self, shadowPoisoned_set _ _ (by decide), if_pos hp]
  next hp => exact ⟨hbad, hkeeps.valid⟩

/-- A single correction with none before it is below the limit. -/
theorem corrected_first {p addr : Nat} (h : s.corrections = []) : s.corrected p addr 1 = readCorrected s p addr 1 := by
  have hfew : ¬ ((errorsNow s addr 1).filter (fun e => e.1 == addr / regionBytes)).length ≥ 16 := by
    simp [errorsNow, h]
  rw [corrected_eq, if_neg (by decide), if_neg hfew]

theorem readCorrected_shadowPoisoned (s : State) (p addr n : Nat) : (readCorrected s p addr n).shadowPoisoned = s.shadowPoisoned := by
  have hne : K.storeCapacity ≠ K.storePcCorrected p := key_ne (by decide) (by decide) (by omega)
  have hbase : (readCorrected s p addr n).shadowBase = s.shadowBase := congrArg (· - shadowBytes) (obj_count_ne s 32 n hne)
  have hpoison : (readCorrected s p addr n).poison = s.poison := count_poison s (K.storePcCorrected p) 32 n
  simp only [State.shadowPoisoned, hbase, hpoison]

theorem shadowPatrol_first (s : State) (a : Nat) (hmode : s.mode ≠ mStandby) (hnone : s.corrections = [])
    (hshadow : s.shadowPoisoned = false) : xShadowPatrol [a] [] s = readCorrected s (pcOf s.masks (transferOf a)) a 1 := by
  have hpatrolled : patrolled [a] [] s = readCorrected s (pcOf s.masks (transferOf a)) a 1 := corrected_first hnone
  rw [shadowPatrol_eq _ _ _ hmode, hpatrolled, readCorrected_shadowPoisoned, hshadow]
  rfl

theorem shadowPatrol_sets {t a : Nat} (h : Awake s) (hmode : s.mode ≠ mStandby) (hnone : s.corrections = []) (hshadow : s.shadowPoisoned = false) :
    Sets (.shadowPatrol t [a] []) s
      [(K.storePcCorrected (pcOf s.masks (transferOf a)), satAdd 32 (s.obj (K.storePcCorrected (pcOf s.masks (transferOf a)))) 1)]
      (fun u => u.corrections = [(a / 1048576, max s.clock t)]) := by
  have heffect := shadowPatrol_first (s.begin_ t) a hmode hnone hshadow
  have hmasks : (s.begin_ t).masks = s.masks := rfl
  rw [hmasks] at heffect
  generalize pcOf s.masks (transferOf a) = p at heffect ⊢
  refine sets_event (exec_shadowPatrol ..) h ?_ ?_ ?_ <;> rw [heffect]
  · exact leaves_readCorrected (List.mem_singleton_self _)
  · exact holds_cons (obj_count_self (s.begin_ t) (K.storePcCorrected p) 32 1) (holds_nil _)
  · have herrors : errorsNow (s.begin_ t) a 1 = [(a / 1048576, max s.clock t)] :=
      congrArg (fun e => List.filter _ e ++ [(a / regionBytes, max s.clock t)]) hnone
    exact herrors

end

/-- Settles O43. -/
theorem storeErrorsAreHandled : Obligations.StoreErrorsAreHandled := by
  unfold Obligations.StoreErrorsAreHandled
  exact ⟨fun s t region p rest h hp hwait hred => regionCopy_sets h hp hwait hred, fun s t p ok h hp hend => parityRetry_sets h hp hend,
    fun s t p hheld hp hthird => parityRetry_fatal hheld hp hthird, fun s t addrs bad hheld hmode => shadowPatrol_completes hheld hmode,
    fun s t a h hmode hnone hshadow => shadowPatrol_sets h hmode hnone hshadow⟩

end Sys2Proof.Proofs
end

section
/-! # Answers on the network and stream packets (R375 to R382) -/

set_option Elab.async false

namespace Sys2Proof.Proofs

open Sys2Proof Sys2Proof.Machine Sys2Proof.Laws

/-! ## Requests for an address, and echoes -/

section
variable {s : State} {t : Nat}

theorem emitted_tally (s : State) (k w n : Nat) : (s.tally k w n).emitted = s.emitted := tally_emitted ..

theorem emitted_rxFrame (s : State) (port bytes : Nat) : (s.rxFrame port bytes).emitted = s.emitted := by
  unfold State.rxFrame
  split
  · exact emitted_tally ..
  · exact (emitted_tally ..).trans (emitted_tally ..)

/-- What leaves alone is the frame that a received one is answered with. -/
theorem emitted_answer (port bytes : Nat) (e : Emission) : (((s.begin_ t).rxFrame port bytes).emit e).emitted = [e] := by
  have hnone : ((s.begin_ t).rxFrame port bytes).emitted = [] := emitted_rxFrame ..
  rw [State.emit, hnone]
  rfl

theorem arpRequest_own {port target sender mac : Nat} {v6 : Bool} (hup : s.portUp port = true)
    (hown : s.ownAddress port (if v6 then target else 0xFFFF * 2 ^ 80 + target % 2 ^ 32 * 2 ^ 96) = true) :
    xArpRequest port target v6 sender mac s = (s.rxFrame port 64).emit (.frame port (if v6 then 4 else 3) sender
      (toLE 6 mac ++ toLE 6 (factoryMac (if port = 3 then 16 else port - 16)) ++
        toLE 16 (if v6 then target else 0xFFFF * 2 ^ 80 + target % 2 ^ 32 * 2 ^ 96))) := by
  simp only [xArpRequest, hup, hown, Bool.not_true, Bool.false_eq_true, if_false, if_true]

theorem arpRequest_answered {port target sender mac : Nat} {v6 : Bool} (hheld : s.held = false) (hport : etherPort s.variant port = true)
    (hup : s.portUp port = true) (hown : s.ownAddress port (if v6 then target else 0xFFFF * 2 ^ 80 + target % 2 ^ 32 * 2 ^ 96) = true) :
    Completes (.arpRequest t port target v6 sender mac) s
      (fun u => u.emitted = [.frame port (if v6 then 4 else 3) sender
        (toLE 6 mac ++ toLE 6 (factoryMac (if port = 3 then 16 else port - 16)) ++
          toLE 16 (if v6 then target else 0xFFFF * 2 ^ 80 + target % 2 ^ 32 * 2 ^ 96))]) (fun _ => True) := by
  have heffect := arpRequest_own (s := s.begin_ t) (sender := sender) (mac := mac) hup hown
  exact ⟨_, (exec_arpRequest ..).trans (eventOf_next _ _ _ _ hport hheld), (congrArg State.emitted heffect).trans (emitted_answer ..), trivial⟩

theorem icmpEcho_up {port src : Nat} {data : List Byte} (hup : s.portUp port = true) (hlen : data.length ≤ 1472) :
    xIcmpEcho port src data s = (s.rxFrame port (46 + data.length)).emit (.frame port 5 src data) := by
  simp only [xIcmpEcho, hup, hlen, Bool.not_true, Bool.false_eq_true, if_false, if_true]

theorem icmpEcho_answered {port src : Nat} {data : List Byte} (hheld : s.held = false) (hport : etherPort s.variant port = true)
    (hup : s.portUp port = true) (hlen : data.length ≤ 1472) :
    Completes (.icmpEcho t port src data) s (fun u => u.emitted = [.frame port 5 src data]) (fun _ => True) := by
  have heffect := icmpEcho_up (s := s.begin_ t) (src := src) hup hlen
  exact ⟨_, (exec_icmpEcho ..).trans (eventOf_next _ _ _ _ hport hheld), (congrArg State.emitted heffect).trans (emitted_answer ..), trivial⟩

/-! ## The resolution of a destination -/

section
variable {n : Nat}

/-- A received frame of a lane, counted with its bytes. -/
def laneHeard (s : State) (n bytes : Nat) : State := (s.tally (K.laneRxFrames n) 64 1).tally (K.laneRxBytes n) 64 bytes

theorem rxFrame_heard (s : State) (n bytes : Nat) : s.rxFrame (16 + n) bytes = laneHeard s n bytes := rxFrame_lane n bytes s

/-- The counters of received frames stand in the fifth group of a lane. -/
theorem obj_laneHeard (s : State) (bytes : Nat) {i b : Nat} (hb : b < 256) (hi : i % 64 ≠ 4) :
    (laneHeard s n bytes).obj (key i b) = s.obj (key i b) := by
  have hbytes : key i b ≠ K.laneRxBytes n := key_ne hb (by decide) (by omega)
  have hframes : key i b ≠ K.laneRxFrames n := key_ne hb (by decide) (by omega)
  rw [laneHeard, obj_tally_ne _ _ _ hbytes, obj_tally_ne _ _ _ hframes]

theorem nextHopIp_laneHeard (s : State) (bytes : Nat) : (laneHeard s n bytes).nextHopIp n = s.nextHopIp n := by
  have hdst : (laneHeard s n bytes).obj (K.laneDstIp n) = s.obj (K.laneDstIp n) := obj_laneHeard _ _ (by decide) (by omega)
  have h4 {b : Nat} (hb : b < 256) : (laneHeard s n bytes).obj (key (0x5001 + 64 * n) b) = s.obj (key (0x5001 + 64 * n) b) :=
    obj_laneHeard _ _ hb (by omega)
  simp only [State.nextHopIp, hdst, K.laneIpv4Gateway, K.laneIpv4Prefix, K.laneIpv4, K.laneIpv6Gateway, K.laneIpv6Prefix, K.laneIpv6,
    h4 (show 2 < 256 by decide), h4 (show 3 < 256 by decide), h4 (show 4 < 256 by decide), h4 (show 5 < 256 by decide),
    h4 (show 6 < 256 by decide), h4 (show 7 < 256 by decide)]
  rfl

/-- A resolved destination, as a reply shows it. -/
def resolved (s : State) (n mac : Nat) : State := (s.set (K.laneDstState n) 2).set (K.laneDstResolved n) (mac % 2 ^ 48)

theorem arpReply_resolves {mac : Nat} (hup : s.portUp (16 + n) = true) (hstate : s.obj (K.laneDstState n) = 1 ∨ s.obj (K.laneDstState n) = 2) :
    xArpReply n (s.nextHopIp n) mac s = (resolved (laneHeard s n 64) n mac).showHold n := by
  have hdst : (laneHeard s n 64).obj (K.laneDstState n) = s.obj (K.laneDstState n) := obj_laneHeard _ _ (by decide) (by omega)
  have hopen : (decide (s.obj (K.laneDstState n) = 1) || decide (s.obj (K.laneDstState n) = 2)) = true := by simpa using hstate
  simp only [xArpReply, hup, Bool.not_true, Bool.false_eq_true, if_false, rxFrame_heard, hdst, nextHopIp_laneHeard, hopen, decide_true,
    Bool.and_self, if_true, resolved]

theorem holds_resolved {mac : Nat} : Holds ((resolved (laneHeard s n 64) n mac).showHold n)
    [(K.laneDstState n, 2), (K.laneDstResolved n, mac % 2 ^ 48), (K.laneRxFrames n, wrapAdd 64 (s.obj (K.laneRxFrames n)) 1),
      (K.laneRxBytes n, wrapAdd 64 (s.obj (K.laneRxBytes n)) 64)] := by
  have hshow {i b : Nat} (hb : b < 256) (hi : i % 64 = 2 ∨ i % 64 = 4) (v : State) : (v.showHold n).obj (key i b) = v.obj (key i b) :=
    obj_showHold v (key_ne hb (by decide) (by omega)) (key_ne hb (by decide) (by omega))
  have hset {i b : Nat} (hb : b < 256) (hi : i % 64 = 4) (v : State) : (resolved v n mac).obj (key i b) = v.obj (key i b) := by
    have hresolved : key i b ≠ K.laneDstResolved n := key_ne hb (by decide) (by omega)
    have hstate : key i b ≠ K.laneDstState n := key_ne hb (by decide) (by omega)
    rw [resolved, obj_set_ne _ _ hresolved, obj_set_ne _ _ hstate]
  have hdst : K.laneDstState n ≠ K.laneDstResolved n := key_ne (by decide) (by decide) (.inr (by decide))
  have hrx : K.laneRxFrames n ≠ K.laneRxBytes n := key_ne (by decide) (by decide) (.inr (by decide))
  refine holds_cons ?_ (holds_cons ?_ (holds_cons ?_ (holds_cons ?_ (holds_nil _))))
  · exact (hshow (by decide) (by omega) _).trans ((obj_set_ne _ _ hdst).trans (obj_set_self ..))
  · exact (hshow (by decide) (by omega) _).trans (obj_set_self ..)
  · exact (hshow (by decide) (by omega) _).trans ((hset (by decide) (by omega) _).trans ((obj_tally_ne _ _ _ hrx).trans (obj_tally_self ..)))
  · refine (hshow (by decide) (by omega) _).trans ((hset (by decide) (by omega) _).trans ((obj_tally_self ..).trans ?_))
    rw [obj_tally_ne _ _ _ hrx.symm]

theorem arpReply_sets {mac : Nat} (h : Awake s) (hn : n < laneCount s.variant) (hup : s.portUp (16 + n) = true)
    (hstate : s.obj (K.laneDstState n) = 1 ∨ s.obj (K.laneDstState n) = 2) :
    Sets (.arpReply t n (s.nextHopIp n) mac) s
      [(K.laneDstState n, 2), (K.laneDstResolved n, mac % 2 ^ 48), (K.laneRxFrames n, wrapAdd 64 (s.obj (K.laneRxFrames n)) 1),
       (K.laneRxBytes n, wrapAdd 64 (s.obj (K.laneRxBytes n)) 64)] (fun _ => True) := by
  have hlane : n < 16 := lt_of_lt_of_le hn (laneCount_le _)
  have heffect := arpReply_resolves (s := s.begin_ t) (mac := mac) hup hstate
  have hsame : (s.begin_ t).nextHopIp n = s.nextHopIp n := rfl
  rw [hsame] at heffect
  refine sets_eventOf (exec_arpReply ..) (by simpa using hn) h ?_ ?_ trivial <;> rw [heffect]
  · refine (leaves_showHold hlane _).trans ((leaves_set _ _ (by simp)).trans ((leaves_set _ _ (by simp)).trans
      ((leaves_tally _ _ _ (by simp)).trans (leaves_tally _ _ _ (by simp)))))
  · exact holds_resolved

/-- A lane asks for the address that it resolves. -/
theorem solicit_sets {c : Instr} {f : State → State} (hexec : exec c s = s.eventOf (n < laneCount s.variant) t f) (h : Awake s)
    (hn : n < laneCount s.variant) (hf : f (s.begin_ t) = (s.begin_ t).solicit n) :
    Sets c s [] (fun u => u.emitted = [.frame (16 + n) (if isV4 (s.nextHopIp n) then 1 else 2) (s.nextHopIp n) []]) := by
  refine sets_eventOf hexec (by simpa using hn) h ?_ (holds_nil _) ?_ <;> rw [hf]
  · exact leaves_emit ..
  · rfl

theorem resolutionRetry_asks (hrole : s.ethernet n = true) (hlink : s.linkUp n = true) (hstate : s.obj (K.laneDstState n) = 1) :
    xResolutionRetry n s = s.solicit n := by
  simp only [xResolutionRetry, hrole, hlink, hstate, decide_true, Bool.and_self, if_true]

theorem resolutionRefresh_asks (hrole : s.ethernet n = true) (hlink : s.linkUp n = true) (hstate : s.obj (K.laneDstState n) = 2) :
    xResolutionRefresh n s = s.solicit n := by
  simp only [xResolutionRefresh, hrole, hlink, hstate, decide_true, Bool.and_self, if_true]

/-! ## Frame boundaries -/

theorem streamSend_answer {a : Emission} {rest : List Emission} (hsends : s.laneSends n = true) (hrole : s.ethernet n = true)
    (hlink : s.linkUp n = true) (hpaused : (s.lane n).paused = none) (hwaits : (s.lane n).answers = a :: rest) :
    xStreamSend n s = (s.modLane n (fun x => { x with answers := rest })).emit a := by
  simp only [xStreamSend, hsends, hrole, hlink, hpaused, hwaits, Bool.not_true, Option.isSome_none, Bool.or_self, Bool.false_eq_true, if_false]

theorem streamSend_live {c : Nat} (hsends : s.laneSends n = true) (hrole : s.ethernet n = true) (hlink : s.linkUp n = true)
    (hpaused : (s.lane n).paused = none) (hnone : (s.lane n).answers = []) (hfree : s.holdCause n = 0) (hclient : s.clientRed (18 + n) = false)
    (hexports : s.exports_ = true) (hturn : nextInRound (s.lane n).served ((s.exporting n).filter s.liveReady) = some c) :
    xStreamSend n s = s.sendLive n c := by
  simp only [xStreamSend, hsends, hrole, hlink, hpaused, hnone, hfree, hclient, hexports, hturn, Bool.not_true, Option.isSome_none, Bool.or_self,
    Bool.false_eq_true, if_false, if_true, ne_eq, not_true_eq_false, decide_false]

/-! ## A stream packet -/

theorem live_setLive (s : State) (c : Nat) (x : Export) : (s.setLive c x).live_ c = x := get_put_self ..

/-- The line of which a context sends next on its lane, the first byte of the next packet, its length, and whether it ends the line. -/
def packetLine (s : State) (c : Nat) : Nat := s.nextLine (s.ring c false) (s.exportNext c .lane)
def packetOff (s : State) (c : Nat) : Nat := if (s.live_ c).line = packetLine s c then (s.live_ c).off else 0
def packetRec (s : State) (c : Nat) : LineRec := s.recOf (s.ring c false) (packetLine s c)
def packetBytes (s : State) (n c : Nat) : Nat :=
  min (payloadLimit (isV4 (s.obj (K.laneDstIp n))) (formatWidth (s.formatOf c))) ((packetRec s c).length - packetOff s c)
def packetLast (s : State) (n c : Nat) : Bool := decide ((packetRec s c).length ≤ packetOff s c + packetBytes s n c)

/-- The frame of the next packet. -/
def packetFrame (s : State) (n c : Nat) : List Byte :=
  s.streamFrame n c (s.streamHeader c (4 * ofBool (packetOff s c == 0) + 8 * ofBool (packetLast s n c)) 0 (s.live_ c).seq (packetRec s c)
    (packetLine s c) (packetOff s c) (packetBytes s n c) ++
      (List.range (packetBytes s n c)).map (fun i => s.byte (s.lineAddr (s.ring c false) (packetLine s c) (packetOff s c + i))))

/-- Where a context's line stands after the next packet. -/
def packetAfter (s : State) (n c : Nat) : Export :=
  { s.live_ c with
    seq := ((s.live_ c).seq + 1) % 4294967296
    line := packetLine s c
    off := if packetLast s n c then 0 else packetOff s c + packetBytes s n c }

theorem sendPacket_sent {c : Nat} (hgood : s.packetPoisoned (s.ring c false) (packetLine s c) (packetOff s c) (packetBytes s n c) = false) :
    s.sendPacket n c 0 0 (s.live_ c).seq (packetLine s c) (packetOff s c) =
      ((s.emit (.packet n (packetFrame s n c))).txFrame n (packetFrame s n c).length, packetBytes s n c, packetLast s n c) := by
  simp only [packetBytes, packetRec] at hgood
  simp only [State.sendPacket, hgood, Bool.false_eq_true, if_false, ge_iff_le, Nat.zero_add, packetFrame, packetLast, packetBytes, packetRec]
  rfl

theorem emitted_txFrame (s : State) (n bytes : Nat) : (s.txFrame n bytes).emitted = s.emitted := by
  unfold State.txFrame
  extract_lets b x counted
  have hcounted : counted.emitted = s.emitted := (tally_emitted ..).trans (tally_emitted ..)
  split
  · exact hcounted
  · exact (set_emitted ..).trans hcounted

theorem frames_txFrame (s : State) (n bytes : Nat) : (s.txFrame n bytes).obj (K.laneTxFrames n) = wrapAdd 64 (s.obj (K.laneTxFrames n)) 1 := by
  unfold State.txFrame
  extract_lets b x counted
  have hcounted : counted.obj (K.laneTxFrames n) = wrapAdd 64 (s.obj (K.laneTxFrames n)) 1 :=
    (obj_tally_ne _ _ _ (key_ne (by decide) (by decide) (.inr (by decide)))).trans (obj_tally_self ..)
  split
  · exact hcounted
  · exact (obj_set_ne _ _ (key_ne (by decide) (by decide) (.inr (by decide)))).trans hcounted

/-- A packet has left for a context: where its line stands, and the lane's turn. -/
def packetGone (s : State) (n c : Nat) (x : Export) : State := (s.setLive c x).modLane n (fun y => { y with served := c })

/-- A line of a context has left a lane. -/
def lineGone (s : State) (c k : Nat) : State := (s.exportTo c .lane (k + 1)).moveExport c

theorem moveExport_stays {c : Nat} (h : (s.live_ c).moveAt = none) : s.moveExport c = s := by
  simp only [State.moveExport, h]

theorem lineGone_stays {c : Nat} (k : Nat) (h : (s.live_ c).moveAt = none) : lineGone s c k = s.exportTo c .lane (k + 1) :=
  moveExport_stays h

theorem sendLive_eq (s : State) (n c : Nat) : s.sendLive n c =
    let p := s.sendPacket n c 0 0 (s.live_ c).seq (packetLine s c) (packetOff s c)
    let sent := packetGone p.1 n c { s.live_ c with
      seq := ((s.live_ c).seq + 1) % 4294967296, line := packetLine s c, off := if p.2.2 then 0 else packetOff s c + p.2.1 }
    if p.2.2 then lineGone sent c (packetLine s c) else sent := rfl

theorem sendLive_sent {c : Nat} (hgood : s.packetPoisoned (s.ring c false) (packetLine s c) (packetOff s c) (packetBytes s n c) = false) :
    s.sendLive n c =
      let sent := packetGone ((s.emit (.packet n (packetFrame s n c))).txFrame n (packetFrame s n c).length) n c (packetAfter s n c)
      if packetLast s n c then lineGone sent c (packetLine s c) else sent := by
  rw [sendLive_eq, sendPacket_sent hgood]
  rfl

theorem live_packetGone (v : State) (c : Nat) (x : Export) : (packetGone v n c x).live_ c = x := live_setLive ..

theorem served_packetGone (v : State) (c : Nat) (x : Export) : ((packetGone v n c x).lane n).served = c :=
  congrArg Lane.served (lane_modLane ..)

/-- What leaves the device, where a context's line stands on a lane, that lane's turn and its count of frames. -/
def packetFacts (n c : Nat) (s : State) : List Emission × Export × Nat × Nat :=
  (s.emitted, s.live_ c, (s.lane n).served, s.obj (K.laneTxFrames n))

theorem packetFacts_lineGone {v : State} {c : Nat} (k : Nat) (h : (v.live_ c).moveAt = none) :
    packetFacts n c (lineGone v c k) = packetFacts n c v := by
  rw [lineGone_stays k h]
  rfl

theorem packetFacts_packetGone (v : State) (c : Nat) (x : Export) :
    packetFacts n c (packetGone v n c x) = (v.emitted, x, c, v.obj (K.laneTxFrames n)) := by
  rw [packetFacts, live_packetGone, served_packetGone]
  rfl

/-- What a sent packet leaves: the packet itself, the place of the next, the lane's turn and its count. -/
theorem packetFacts_sendLive {c : Nat} (hempty : s.emitted = []) (hstays : (s.live_ c).moveAt = none)
    (hgood : s.packetPoisoned (s.ring c false) (packetLine s c) (packetOff s c) (packetBytes s n c) = false) :
    packetFacts n c (s.sendLive n c) =
      ([.packet n (packetFrame s n c)], packetAfter s n c, c, wrapAdd 64 (s.obj (K.laneTxFrames n)) 1) := by
  have hsent : packetFacts n c
      (packetGone ((s.emit (.packet n (packetFrame s n c))).txFrame n (packetFrame s n c).length) n c (packetAfter s n c)) =
      ([.packet n (packetFrame s n c)], packetAfter s n c, c, wrapAdd 64 (s.obj (K.laneTxFrames n)) 1) := by
    rw [packetFacts_packetGone, emitted_txFrame, frames_txFrame, State.emit, hempty]
    rfl
  rw [sendLive_sent hgood]
  extract_lets sent
  split
  · rw [packetFacts_lineGone _ (by rw [live_packetGone]; exact hstays), hsent]
  · exact hsent

/-! The beginning of a command moves the clock alone. -/

theorem lineFrom_begin (s : State) (t : Nat) (r : RingSt) (m k : Nat) : (s.begin_ t).lineFrom r m k = s.lineFrom r m k := by
  induction m generalizing k with
  | zero => rfl
  | succ m ih =>
    have hholds : (s.begin_ t).holdsLine r k = s.holdsLine r k := rfl
    simp only [State.lineFrom, hholds, ih]

theorem nextLine_begin (s : State) (t : Nat) (r : RingSt) (k : Nat) : (s.begin_ t).nextLine r k = s.nextLine r k := by
  simp only [State.nextLine, lineFrom_begin]

theorem packetLine_begin (s : State) (t c : Nat) : packetLine (s.begin_ t) c = packetLine s c := nextLine_begin ..

theorem liveReady_begin (s : State) (t : Nat) : (s.begin_ t).liveReady = s.liveReady := by
  funext c
  have hring : (s.begin_ t).ring c false = s.ring c false := rfl
  have hnext : (s.begin_ t).exportNext c .lane = s.exportNext c .lane := rfl
  have hholds (k : Nat) : (s.begin_ t).holdsLine (s.ring c false) k = s.holdsLine (s.ring c false) k := rfl
  simp only [State.liveReady, hring, hnext, nextLine_begin, hholds]

theorem packetOff_begin (s : State) (t c : Nat) : packetOff (s.begin_ t) c = packetOff s c := by
  simp only [packetOff, packetLine_begin]
  rfl

theorem packetRec_begin (s : State) (t c : Nat) : packetRec (s.begin_ t) c = packetRec s c := by
  simp only [packetRec, packetLine_begin]
  rfl

theorem packetBytes_begin (s : State) (t c : Nat) : packetBytes (s.begin_ t) n c = packetBytes s n c := by
  simp only [packetBytes, packetRec_begin, packetOff_begin]
  rfl

theorem packetLast_begin (s : State) (t c : Nat) : packetLast (s.begin_ t) n c = packetLast s n c := by
  simp only [packetLast, packetRec_begin, packetOff_begin, packetBytes_begin]

theorem packetFrame_begin (s : State) (t c : Nat) : packetFrame (s.begin_ t) n c = packetFrame s n c := by
  simp only [packetFrame, packetRec_begin, packetOff_begin, packetBytes_begin, packetLast_begin, packetLine_begin]
  rfl

theorem packetAfter_begin (s : State) (t c : Nat) : packetAfter (s.begin_ t) n c = packetAfter s n c := by
  simp only [packetAfter, packetOff_begin, packetBytes_begin, packetLast_begin, packetLine_begin]
  rfl

theorem streamSend_sends {c : Nat} (hheld : s.held = false) (hn : n < laneCount s.variant) (hsends : s.laneSends n = true)
    (hrole : s.ethernet n = true) (hlink : s.linkUp n = true) (hpaused : (s.lane n).paused = none) (hnone : (s.lane n).answers = [])
    (hfree : s.holdCause n = 0) (hclient : s.clientRed (18 + n) = false) (hexports : s.exports_ = true)
    (hturn : nextInRound (s.lane n).served ((s.exporting n).filter s.liveReady) = some c) (hstays : (s.live_ c).moveAt = none)
    (hgood : s.packetPoisoned (s.ring c false) (packetLine s c) (packetOff s c) (packetBytes s n c) = false) :
    Completes (.streamPacketSend t n) s
      (fun u => packetFacts n c u =
        ([.packet n (packetFrame s n c)], packetAfter s n c, c, wrapAdd 64 (s.obj (K.laneTxFrames n)) 1)) (fun _ => True) := by
  have heffect := streamSend_live (s := s.begin_ t) hsends hrole hlink hpaused hnone hfree hclient hexports
    (by rw [liveReady_begin]; exact hturn)
  have hfacts := packetFacts_sendLive (s := s.begin_ t) (n := n) (c := c) rfl hstays
    (by rw [packetLine_begin, packetOff_begin, packetBytes_begin]; exact hgood)
  rw [packetFrame_begin, packetAfter_begin] at hfacts
  exact ⟨_, (exec_streamPacketSend ..).trans (eventOf_next _ _ _ _ (by simpa using hn) hheld), (congrArg _ heffect).trans hfacts, trivial⟩

theorem streamSend_answers {a : Emission} {rest : List Emission} (hheld : s.held = false) (hn : n < laneCount s.variant)
    (hsends : s.laneSends n = true) (hrole : s.ethernet n = true) (hlink : s.linkUp n = true) (hpaused : (s.lane n).paused = none)
    (hwaits : (s.lane n).answers = a :: rest) :
    Completes (.streamPacketSend t n) s (fun u => u.emitted = [a] ∧ (u.lane n).answers = rest) (fun _ => True) := by
  have heffect := streamSend_answer (s := s.begin_ t) hsends hrole hlink hpaused hwaits
  refine ⟨_, (exec_streamPacketSend ..).trans (eventOf_next _ _ _ _ (by simpa using hn) hheld), ?_, trivial⟩
  rw [heffect]
  refine ⟨rfl, ?_⟩
  exact congrArg Lane.answers (lane_modLane (s.begin_ t) fun x => { x with answers := rest })

end

end

/-- Settles O51: an answer that waited leaves before the next stream packet. -/
theorem lanesAnswerAndSend : Obligations.LanesAnswerAndSend := by
  unfold Obligations.LanesAnswerAndSend
  refine ⟨fun s t port target sender mac src v6 data hheld hport hup => ⟨fun hown => arpRequest_answered hheld hport hup hown,
    fun hlen => icmpEcho_answered hheld hport hup hlen⟩, fun s t n mac h hn hup hstate => arpReply_sets h hn hup hstate,
    fun s t n h hn hrole hlink => ⟨fun hstate => ?_, fun hstate => ?_⟩,
    fun s t n hheld hn hsends hrole hlink hpaused => ⟨fun a rest hwaits => streamSend_answers hheld hn hsends hrole hlink hpaused hwaits,
      fun c hnone hfree hclient hexports hturn hstays hgood => ?_⟩⟩
  · exact solicit_sets (exec_resolutionRetry ..) h hn (resolutionRetry_asks (s := s.begin_ t) hrole hlink hstate)
  · exact solicit_sets (exec_resolutionRefresh ..) h hn (resolutionRefresh_asks (s := s.begin_ t) hrole hlink hstate)
  · obtain ⟨u, hexec, hfacts, -⟩ := streamSend_sends (t := t) hheld hn hsends hrole hlink hpaused hnone hfree hclient hexports hturn hstays hgood
    simp only [packetFacts, Prod.mk.injEq] at hfacts
    obtain ⟨hemitted, hlive, hserved, hframes⟩ := hfacts
    exact ⟨u, hexec, ⟨hemitted, congrArg Export.seq hlive, congrArg Export.off hlive, hserved, hframes⟩, trivial⟩

end Sys2Proof.Proofs
end

section
/-! # The Backstop array (R295 to R303) -/

set_option Elab.async false

namespace Sys2Proof.Proofs

open Sys2Proof Sys2Proof.Machine Sys2Proof.Laws

/-! ## Whistles -/

section
variable {s : State} {t j : Nat}

/-- The macrocell that a whistle output watches. -/
def whistleCell (s : State) (j : Nat) : Nat := s.bank.whistles.getD j 0xFF

/-- Whether a whistle output has rested long enough. -/
def whistleFree (s : State) (j : Nat) : Bool := (s.bs.whistled.getD j none).all (fun z => decide (z + 10 * perUs ≤ s.clock))

/-- The rise of a whistle's macrocell is answered. -/
def riseAnswered (s : State) (j : Nat) : State := s.modBs (fun b => { b with rose := withBit b.rose (whistleCell s j) false })

/-- A whistle output has whistled. -/
def whistleMarked (s : State) (j : Nat) : State :=
  (riseAnswered s j).modBs (fun b => { b with whistled := b.whistled.set j (some s.clock) })

theorem obj_riseAnswered (s : State) (j k : Nat) : (riseAnswered s j).obj k = s.obj k := rfl

theorem obj_whistleMarked (s : State) (j k : Nat) : (whistleMarked s j).obj k = s.obj k := rfl

/-- Whether a whistle output that last whistled at an instant still rests, for a time of rest. -/
def whistleRests (rest : Nat) (last : Option Nat) (clock : Nat) : Bool := match last with | some z => decide (clock < z + rest) | none => false

theorem not_whistleRests (rest : Nat) (last : Option Nat) (clock : Nat) :
    whistleRests rest last clock = !last.all (fun z => decide (z + rest ≤ clock)) := by
  cases last with
  | none => rfl
  | some z =>
    rw [Bool.eq_iff_iff]
    simp only [whistleRests, Option.all_some, Bool.not_eq_true', decide_eq_true_eq, decide_eq_false_iff_not, Nat.not_le]

theorem whistle_cases (s : State) (j : Nat) : xBackstopWhistle j s =
    if (decide (whistleCell s j = 0xFF) || !s.bs.rose.testBit (whistleCell s j)) = true then s
    else if whistleRests (10 * perUs) (s.bs.whistled.getD j none) s.clock = true then (riseAnswered s j).count K.backstopWhistlesIgnored 32 1
    else ((whistleMarked s j).count K.backstopWhistles 32 1).raiseWhistle (0x80 + j) := rfl

theorem whistle_eq (hcell : s.bank.whistles.getD j 0xFF ≠ 0xFF) (hrose : s.bs.rose.testBit (s.bank.whistles.getD j 0xFF) = true) :
    xBackstopWhistle j s = if whistleFree s j then ((whistleMarked s j).count K.backstopWhistles 32 1).raiseWhistle (0x80 + j)
      else (riseAnswered s j).count K.backstopWhistlesIgnored 32 1 := by
  have hstart : (decide (whistleCell s j = 0xFF) || !s.bs.rose.testBit (whistleCell s j)) = false := by
    simp only [whistleCell, hcell, hrose, decide_false, Bool.not_true, Bool.or_self]
  have hrests : whistleRests (10 * perUs) (s.bs.whistled.getD j none) s.clock = !whistleFree s j := not_whistleRests ..
  rw [whistle_cases, hstart, hrests]
  cases whistleFree s j <;> rfl

theorem bs_raiseWhistle (s : State) (cause : Nat) : (s.raiseWhistle cause).bs = s.bs := by
  have hoffer (u : State) (lane : Nat) (w : Waiting) : (u.offerFragment lane w).bs = u.bs := by
    unfold State.offerFragment
    extract_lets x
    split
    · rfl
    split
    · rfl
    · unfold State.launch
      extract_lets r v
      split <;> rfl
  unfold State.raiseWhistle
  split
  · rfl
  · extract_lets n u v
    exact (foldl_keeps State.bs _ _ _ fun _ _ => hoffer ..).trans ((count_bs ..).trans rfl)

theorem raiseWhistle_counts (cause : Nat) (h : s.rallyState ≠ rStandalone) (h' : s.rallyState ≠ rExcluded) :
    (s.raiseWhistle cause).obj K.rallyWhistleSent = satAdd 32 (s.obj K.rallyWhistleSent) 1 := by
  unfold State.raiseWhistle
  rw [if_neg (by simp [h, h'])]
  extract_lets n u v
  exact (obj_flood ..).trans (obj_count_self ..)

theorem raiseWhistle_alone (cause : Nat) (h : s.rallyState = rStandalone) : s.raiseWhistle cause = s := if_pos (by simp [h])

/-- What an answered rise leaves of the whistle outputs. -/
theorem whistleMarked_bs (s : State) (j : Nat) : (whistleMarked s j).bs.rose = withBit s.bs.rose (whistleCell s j) false ∧
    (whistleMarked s j).bs.whistled = s.bs.whistled.set j (some s.clock) := ⟨rfl, rfl⟩

theorem whistle_blows (hheld : s.held = false) (hj : j < 4) (hcell : s.bank.whistles.getD j 0xFF ≠ 0xFF)
    (hrose : s.bs.rose.testBit (s.bank.whistles.getD j 0xFF) = true) (hfree : whistleFree (s.begin_ t) j = true) :
    Completes (.backstopWhistle t j) s
      (fun u => u.obj K.backstopWhistles = satAdd 32 (s.obj K.backstopWhistles) 1 ∧
        (u.bs.rose = withBit s.bs.rose (s.bank.whistles.getD j 0xFF) false ∧ u.bs.whistled = s.bs.whistled.set j (some (max s.clock t))) ∧
        (s.rallyState ≠ rStandalone → s.rallyState ≠ rExcluded →
          u.obj K.rallyWhistleSent = satAdd 32 (s.obj K.rallyWhistleSent) 1)) (fun _ => True) := by
  have heffect := (whistle_eq (s := s.begin_ t) hcell hrose).trans (if_pos hfree)
  have hbs := (bs_raiseWhistle (((whistleMarked (s.begin_ t) j)).count K.backstopWhistles 32 1) (0x80 + j)).trans (count_bs ..)
  refine completes_eventOf (exec_backstopWhistle ..) (by simpa using hj) hheld ?_
  rw [heffect]
  refine ⟨(obj_raiseWhistle _ _ (by decide)).trans (obj_count_self ..), ?_, fun hstate hstate' => ?_⟩
  · rw [hbs]
    exact whistleMarked_bs (s.begin_ t) j
  · have hrally : ((whistleMarked (s.begin_ t) j).count K.backstopWhistles 32 1).rallyState = s.rallyState :=
      obj_count_ne _ _ _ (by decide)
    have hsent : ((whistleMarked (s.begin_ t) j).count K.backstopWhistles 32 1).obj K.rallyWhistleSent = s.obj K.rallyWhistleSent :=
      obj_count_ne _ _ _ (by decide)
    rw [raiseWhistle_counts _ (by rwa [hrally]) (by rwa [hrally]), hsent]

theorem whistle_blows_alone (h : Awake s) (hj : j < 4) (hcell : s.bank.whistles.getD j 0xFF ≠ 0xFF)
    (hrose : s.bs.rose.testBit (s.bank.whistles.getD j 0xFF) = true) (hfree : whistleFree (s.begin_ t) j = true)
    (halone : s.rallyState = rStandalone) :
    Sets (.backstopWhistle t j) s [(K.backstopWhistles, satAdd 32 (s.obj K.backstopWhistles) 1)]
      (fun u => u.bs.rose = withBit s.bs.rose (s.bank.whistles.getD j 0xFF) false ∧
        u.bs.whistled = s.bs.whistled.set j (some (max s.clock t))) := by
  have hrally : ((whistleMarked (s.begin_ t) j).count K.backstopWhistles 32 1).rallyState = rStandalone :=
    (obj_count_ne _ _ _ (by decide)).trans halone
  have heffect := ((whistle_eq (s := s.begin_ t) hcell hrose).trans (if_pos hfree)).trans (raiseWhistle_alone _ hrally)
  refine sets_eventOf (exec_backstopWhistle ..) (by simpa using hj) h ?_ ?_ ?_ <;> rw [heffect]
  · exact (leaves_count _ _ _ (List.mem_singleton_self _)).trans (leaves_of_dict rfl rfl rfl rfl rfl rfl)
  · exact holds_cons (obj_count_self ..) (holds_nil _)
  · rw [count_bs]
    exact whistleMarked_bs (s.begin_ t) j

theorem whistle_ignored (h : Awake s) (hj : j < 4) (hcell : s.bank.whistles.getD j 0xFF ≠ 0xFF)
    (hrose : s.bs.rose.testBit (s.bank.whistles.getD j 0xFF) = true) (hfree : whistleFree (s.begin_ t) j = false) :
    Sets (.backstopWhistle t j) s [(K.backstopWhistlesIgnored, satAdd 32 (s.obj K.backstopWhistlesIgnored) 1)]
      (fun u => u.bs.rose = withBit s.bs.rose (s.bank.whistles.getD j 0xFF) false ∧ u.bs.whistled = s.bs.whistled) := by
  have heffect := (whistle_eq (s := s.begin_ t) hcell hrose).trans (if_neg (by rw [hfree]; decide))
  refine sets_eventOf (exec_backstopWhistle ..) (by simpa using hj) h ?_ ?_ ?_ <;> rw [heffect]
  · exact (leaves_count _ _ _ (List.mem_singleton_self _)).trans (leaves_of_dict rfl rfl rfl rfl rfl rfl)
  · exact holds_cons (obj_count_self ..) (holds_nil _)
  · rw [count_bs]
    exact ⟨rfl, rfl⟩

end

/-! ## Programming -/

section
variable {s : State} {t : Nat} {ok : Bool}

/-- The image that has been programmed, no longer kept. -/
def imageTaken (s : State) : State := { s with blobs := Sp.erase s.blobs (programmedBlob K.backstopImage) }

/-- The bank that has been programmed. -/
def programmedBank (s : State) : Bank :=
  let image := (s.blob (programmedBlob K.backstopImage)).getD []
  decodeBank image (s.classify 4 (imageWord image) != .tested)

/-- A bank of the array is replaced. -/
def withBank (s : State) (i : Nat) (b : Bank) : State := s.modBs (fun x => { x with banks := x.banks.set i b })

/-- The pointer moves to the bank that has been programmed. -/
def bankPending (s : State) : State :=
  ((withBank (imageTaken s) (1 - s.obj K.backstopRunningBank) (programmedBank s)).set K.backstopBank
    (1 - s.obj K.backstopRunningBank)).set K.backstopPending 1

theorem backstopProgrammed_eq (s : State) (ok : Bool) (h : s.obj K.backstopState = 1) : xBackstopProgrammed ok s =
    if ok then (bankPending s).set K.backstopState (bankPending s).bsRest else (imageTaken s).set K.backstopState (imageTaken s).bsRest := by
  unfold xBackstopProgrammed
  rw [if_neg (by rw [h]; decide)]
  cases ok <;> rfl

theorem bankPending_rests (hlive : s.bs.live = true) : (bankPending s).bsRest = 0 := by
  have hpending : (bankPending s).obj K.backstopPending = 1 := obj_set_self ..
  have hbs : (bankPending s).bs.live = true := hlive
  simp only [State.bsRest, hpending, hbs, Bool.not_true, Bool.false_eq_true, if_false, decide_true, Bool.or_true, if_true]

/-- An answered transfer leaves the array alone, and what does not count its abort. -/
theorem answerHeld_array (s : State) (x : Transfer) (r : Res Unit) :
    (s.answerHeld x r).bs = s.bs ∧ ∀ k, settledKey k = false → k % 256 ≠ 3 ∧ k % 256 ≠ 5 ∨ r = .ok () →
      (s.answerHeld x r).obj k = s.obj k := by
  have htally (u : State) (p code : Nat) : (u.tallyAbort p code).bs = u.bs ∧
      ∀ k, k % 256 ≠ 3 ∧ k % 256 ≠ 5 ∨ code = 0 → (u.tallyAbort p code).obj k = u.obj k := by
    unfold State.tallyAbort
    split
    · exact ⟨rfl, fun _ _ => rfl⟩
    next hcode =>
      refine ⟨(set_bs ..).trans (tally_bs ..), fun k hk => ?_⟩
      obtain ⟨h3, h5⟩ := hk.resolve_right hcode
      have haborts : k ≠ K.portsPortAborts p := fun he => h3 (he ▸ key_mod (by decide))
      have hlast : k ≠ K.portsPortLastAbort p := fun he => h5 (he ▸ key_mod (by decide))
      rw [obj_set_ne _ _ hlast, obj_tally_ne _ _ _ haborts]
  unfold State.answerHeld
  extract_lets q res code m rank ended counted y
  have hcounted : counted.bs = s.bs ∧ ∀ k, settledKey k = false → k % 256 ≠ 3 ∧ k % 256 ≠ 5 ∨ r = .ok () → counted.obj k = s.obj k := by
    refine ⟨(htally ..).1, fun k _ hk => (htally ..).2 k (hk.imp_right fun hr => ?_)⟩
    simp only [code, hr]
  split
  · exact hcounted
  · have hkept : Same ((counted.remember q .blockClose m).respond x.port x.src m) counted := (same_respond ..).trans (same_remember ..)
    refine ⟨(respond_bs ..).trans (Eq.trans ?_ hcounted.1), fun k hset hk => (hkept.obj k hset).trans (hcounted.2 k hset hk)⟩
    unfold State.remember
    split <;> rfl

/-- The effect on the array of the end of its programming, and the answer of the transfer that waits for it. -/
theorem arrayProgrammed_facts (s : State) (ok : Bool) : (xArrayProgrammed ok s).bs = (xBackstopProgrammed ok s).bs ∧
    ∀ k, settledKey k = false → k % 256 ≠ 3 ∧ k % 256 ≠ 5 ∨ ok = true → (xArrayProgrammed ok s).obj k = (xBackstopProgrammed ok s).obj k := by
  unfold xArrayProgrammed
  extract_lets u
  split
  · exact ⟨rfl, fun _ _ _ => rfl⟩
  next x _ =>
    refine ⟨(answerHeld_array ..).1, fun k hset hk => (answerHeld_array ..).2 k hset (hk.imp_right fun hok => ?_)⟩
    rw [hok]
    rfl

theorem arrayProgrammed_quiet (s : State) (ok : Bool) (h : (xBackstopProgrammed ok s).transfers = []) :
    xArrayProgrammed ok s = xBackstopProgrammed ok s := by
  simp only [xArrayProgrammed, h, List.find?_nil]

theorem programmedBank_begin (s : State) (t : Nat) : programmedBank (s.begin_ t) = programmedBank s := by
  simp only [programmedBank, classify_congr (u := s.begin_ t) (s := s) _ _ rfl]
  rfl

theorem bankPending_bank (hbanks : s.bs.banks.length = 2) (hrunning : s.obj K.backstopRunningBank < 2) :
    (bankPending s).bs.banks[1 - s.obj K.backstopRunningBank]? = some (programmedBank s) := by
  have hset : (bankPending s).bs.banks = s.bs.banks.set (1 - s.obj K.backstopRunningBank) (programmedBank s) := rfl
  rw [hset, List.getElem?_set_self (by omega)]

theorem holds_bankPending (s : State) : Holds ((bankPending s).set K.backstopState 0)
    [(K.backstopBank, 1 - s.obj K.backstopRunningBank), (K.backstopPending, 1), (K.backstopState, 0)] := by
  have hstate : K.backstopBank ≠ K.backstopState := by decide
  have hpending : K.backstopBank ≠ K.backstopPending := by decide
  refine holds_cons ?_ (holds_cons ?_ (holds_cons (obj_set_self ..) (holds_nil _)))
  · exact (obj_set_ne _ _ hstate).trans ((obj_set_ne _ _ hpending).trans (obj_set_self ..))
  · exact (obj_set_ne (k := K.backstopState) _ _ (by decide)).trans (obj_set_self ..)

theorem backstopProgrammed_pends (hstate : s.obj K.backstopState = 1) (hlive : s.bs.live = true) :
    xBackstopProgrammed true s = (bankPending s).set K.backstopState 0 :=
  (backstopProgrammed_eq s true hstate).trans ((if_pos rfl).trans (by rw [bankPending_rests hlive]))

theorem programmed_completes (hheld : s.held = false) (hstate : s.obj K.backstopState = 1) (hbanks : s.bs.banks.length = 2)
    (hrunning : s.obj K.backstopRunningBank < 2) (hlive : s.bs.live = true) :
    Completes (.backstopProgrammed t true) s
      (fun u => Holds u [(K.backstopBank, 1 - s.obj K.backstopRunningBank), (K.backstopPending, 1), (K.backstopState, 0)] ∧
        u.bs.banks[1 - s.obj K.backstopRunningBank]? = some (programmedBank s)) (fun _ => True) := by
  have heffect := backstopProgrammed_pends (s := s.begin_ t) hstate hlive
  obtain ⟨hbs, hobj⟩ := arrayProgrammed_facts (s.begin_ t) true
  refine completes_event (exec_backstopProgrammed ..) hheld ⟨?_, ?_⟩
  · refine holds_keep (holds_bankPending (s.begin_ t)) fun k hk => ?_
    have hset : settledKey k = false := by
      simp only [List.map_cons, List.map_nil, List.mem_cons, List.not_mem_nil, or_false] at hk
      obtain rfl | rfl | rfl := hk <;> decide
    rw [hobj k hset (.inr rfl), heffect]
  · rw [hbs, heffect, set_bs, ← programmedBank_begin s t]
    exact bankPending_bank (s := s.begin_ t) hbanks hrunning

theorem programmed_sets (h : Awake s) (hstate : s.obj K.backstopState = 1) (hbanks : s.bs.banks.length = 2)
    (hrunning : s.obj K.backstopRunningBank < 2) (hlive : s.bs.live = true) (hnone : s.transfers = []) :
    Sets (.backstopProgrammed t true) s
      [(K.backstopBank, 1 - s.obj K.backstopRunningBank), (K.backstopPending, 1), (K.backstopState, 0)]
      (fun u => u.bs.banks[1 - s.obj K.backstopRunningBank]? = some (programmedBank s)) := by
  have hpends := backstopProgrammed_pends (s := s.begin_ t) hstate hlive
  have hquiet : (xBackstopProgrammed true (s.begin_ t)).transfers = [] := by
    rw [hpends]
    exact hnone
  have heffect := (arrayProgrammed_quiet _ _ hquiet).trans hpends
  refine sets_event (exec_backstopProgrammed ..) h ?_ ?_ ?_ <;> rw [heffect]
  · exact (leaves_set _ _ (by simp)).trans ((leaves_set _ _ (by simp)).trans ((leaves_set _ _ (by simp)).trans
      (leaves_of_dict rfl rfl rfl rfl rfl rfl)))
  · exact holds_bankPending (s.begin_ t)
  · rw [set_bs, ← programmedBank_begin s t]
    exact bankPending_bank (s := s.begin_ t) hbanks hrunning

theorem backstopProgrammed_fails (hstate : s.obj K.backstopState = 1) :
    xBackstopProgrammed false s = (imageTaken s).set K.backstopState s.bsRest :=
  (backstopProgrammed_eq s false hstate).trans (if_neg (by decide))

theorem unprogrammed_completes (hheld : s.held = false) (hstate : s.obj K.backstopState = 1) :
    Completes (.backstopProgrammed t false) s (fun u => u.obj K.backstopState = s.bsRest ∧ u.bs = s.bs) (fun _ => True) := by
  have heffect := backstopProgrammed_fails (s := s.begin_ t) hstate
  obtain ⟨hbs, hobj⟩ := arrayProgrammed_facts (s.begin_ t) false
  refine completes_event (exec_backstopProgrammed ..) hheld ⟨?_, ?_⟩
  · rw [hobj _ (by decide) (.inl (by decide)), heffect, obj_set_self]
    rfl
  · rw [hbs, heffect]
    rfl

theorem unprogrammed_sets (h : Awake s) (hstate : s.obj K.backstopState = 1) (hnone : s.transfers = []) :
    Sets (.backstopProgrammed t false) s [(K.backstopState, s.bsRest)] (fun u => u.bs = s.bs) := by
  have hfails := backstopProgrammed_fails (s := s.begin_ t) hstate
  have hquiet : (xBackstopProgrammed false (s.begin_ t)).transfers = [] := by
    rw [hfails]
    exact hnone
  have heffect := (arrayProgrammed_quiet _ _ hquiet).trans hfails
  refine sets_event (exec_backstopProgrammed ..) h ?_ ?_ ?_ <;> rw [heffect]
  · exact (leaves_set _ _ (by simp)).trans (leaves_of_dict rfl rfl rfl rfl rfl rfl)
  · exact holds_cons (obj_set_self ..) (holds_nil _)
  · rfl

/-! ## Activation -/

theorem putLogic_activate {v : State} {p : Put} (hform : p.l.row.form = .single) (hkey : p.key_ = K.backstopActivate) :
    putLogic v p = xActivate (v.putValue p) := by
  have hscrub : K.backstopActivate ≠ K.scrubEnable := by decide
  simp [putLogic, hform, hkey, hscrub]

theorem answeredWrite_bs (u s : State) (q : Req) (k : Nat) (l : Loc) : (answeredWrite u s q k l).bs = u.bs := by
  simp only [answeredWrite, answered_bs, record_bs]

theorem activate_writes {q : Req} {l : Loc} (hsafe : s.safeAsk = 0) (h : Accepts s (onObject q K.backstopActivate) l) :
    Writes (.backstopActivate q) s (onObject q K.backstopActivate) l [(K.backstopState, 0)] (fun u => u.bs.live = false) := by
  obtain ⟨hform, hattr, -, -⟩ := accepted_row h (by decide) place_backstopActivate
  have hput : putLogic (s.access (onObject q K.backstopActivate)) (putAt s q K.backstopActivate l) =
      xActivate (s.access (onObject q K.backstopActivate)) := by
    rw [putLogic_activate hform (putAt_key ..), putValue_action _ hattr]
  refine writes_of_put (exec_backstopActivate q s) hsafe h (written_logic (by decide) (by decide)) hput ?_
    (holds_cons (obj_set_self ..) (holds_nil _)) ((congrArg Array256.live (answeredWrite_bs ..)).trans rfl)
  exact (leaves_set _ _ (List.mem_singleton_self _)).trans (leaves_of_dict rfl rfl rfl rfl rfl rfl)

/-! ## The reload of the macrocells -/

/-- The array out of service for want of a good bank. -/
def arrayDead (s : State) : State := s.modBs (fun b => { b with live := false, dead := true, out := 0, rose := 0, sync := [], clk := 0 })

/-- The outputs that the macrocells of a bank start from. -/
def startOutputs (b : Bank) : Nat := b.cells.foldl (fun a c => withBit a c.id (c.mode != 0 && c.initial)) 0

/-- The macrocells start from a bank. -/
def arrayStarted (s : State) (b : Bank) : State :=
  s.modBs (fun x => { x with live := true, dead := false, out := startOutputs b, rose := 0, sync := [], clk := 0 })

/-- A bank is in force and shown. -/
def bankShown (s : State) (i : Nat) (b : Bank) : State :=
  ((((arrayStarted s b).set K.backstopRunningBank i).set K.backstopCrc b.crc).set K.versionsBackstop b.word).setUntested 3 b.untested

/-- The bank of a number. -/
def bankOf (s : State) (i : Nat) : Bank := s.bs.banks.getD i .erased

theorem loadBackstop_eq (s : State) : s.loadBackstop =
    if (!(bankOf s (s.obj K.backstopBank)).good && !(bankOf s (1 - s.obj K.backstopBank)).good) = true then
      ((arrayDead s).set K.backstopState 3).raise 748 0
    else
      let i := if (bankOf s (s.obj K.backstopBank)).good = true then s.obj K.backstopBank else 1 - s.obj K.backstopBank
      if (bankOf s (s.obj K.backstopBank)).good = true then ((bankShown s i (bankOf s i)).set K.backstopState 0).set K.backstopPending 0
      else ((bankShown s i (bankOf s i)).set K.backstopState 2).raise 748 0 := rfl

theorem setUntested_bs (s : State) (bit : Nat) (b : Bool) : (s.setUntested bit b).bs = s.bs := by
  rw [setUntested_eq]
  split
  · rfl
  · exact (raise_bs ..).trans rfl

theorem bankShown_live (s : State) (i : Nat) (b : Bank) : (bankShown s i b).bs.live = true := by
  rw [bankShown, setUntested_bs]
  rfl

theorem bankShown_shows (s : State) (i : Nat) (b : Bank) : (bankShown s i b).obj K.backstopRunningBank = i ∧
    (bankShown s i b).obj K.backstopCrc = b.crc ∧ (bankShown s i b).obj K.versionsBackstop = b.word := by
  refine ⟨?_, ?_, ?_⟩ <;> rw [bankShown, obj_setUntested _ _ (by decide) (by decide)]
  · rw [obj_set_ne _ _ (by decide), obj_set_ne _ _ (by decide), obj_set_self]
  · rw [obj_set_ne _ _ (by decide), obj_set_self]
  · rw [obj_set_self]

theorem macrocellsReloaded_loads (hlive : s.bs.live = false) (hboot : s.boot.live = true) (hstate : s.obj K.backstopState = 0) :
    xMacrocellsReloaded s = s.loadBackstop := by
  rw [xMacrocellsReloaded, hlive, hboot, hstate]
  rfl

theorem reload_named (hheld : s.held = false) (hlive : s.bs.live = false) (hboot : s.boot.live = true) (hstate : s.obj K.backstopState = 0)
    (hgood : (bankOf s (s.obj K.backstopBank)).good = true) :
    Completes (.macrocellsReloaded t) s
      (fun u => u.bs.live = true ∧ u.obj K.backstopRunningBank = s.obj K.backstopBank ∧
        u.obj K.backstopCrc = (bankOf s (s.obj K.backstopBank)).crc ∧ u.obj K.versionsBackstop = (bankOf s (s.obj K.backstopBank)).word ∧
        u.obj K.backstopState = 0 ∧ u.obj K.backstopPending = 0) (fun _ => True) := by
  have hgood' : (bankOf (s.begin_ t) ((s.begin_ t).obj K.backstopBank)).good = true := hgood
  have heffect : xMacrocellsReloaded (s.begin_ t) = ((bankShown (s.begin_ t) (s.obj K.backstopBank)
      (bankOf s (s.obj K.backstopBank))).set K.backstopState 0).set K.backstopPending 0 := by
    rw [macrocellsReloaded_loads (s := s.begin_ t) hlive hboot hstate, loadBackstop_eq, if_neg (by rw [hgood']; simp), if_pos hgood',
      if_pos hgood']
    rfl
  obtain ⟨hrunning, hcrc, hword⟩ := bankShown_shows (s.begin_ t) (s.obj K.backstopBank) (bankOf s (s.obj K.backstopBank))
  refine completes_event (exec_macrocellsReloaded ..) hheld ?_
  rw [heffect, set_bs, set_bs, bankShown_live]
  refine ⟨rfl, ?_, ?_, ?_, ?_, obj_set_self ..⟩
  · rw [obj_set_ne _ _ (by decide), obj_set_ne _ _ (by decide), hrunning]
  · rw [obj_set_ne _ _ (by decide), obj_set_ne _ _ (by decide), hcrc]
  · rw [obj_set_ne _ _ (by decide), obj_set_ne _ _ (by decide), hword]
  · rw [obj_set_ne _ _ (by decide), obj_set_self]

theorem reload_other (hheld : s.held = false) (hlive : s.bs.live = false) (hboot : s.boot.live = true) (hstate : s.obj K.backstopState = 0)
    (hbad : (bankOf s (s.obj K.backstopBank)).good = false) (hgood : (bankOf s (1 - s.obj K.backstopBank)).good = true) :
    Completes (.macrocellsReloaded t) s
      (fun u => u.bs.live = true ∧ u.obj K.backstopRunningBank = 1 - s.obj K.backstopBank ∧
        u.obj K.backstopCrc = (bankOf s (1 - s.obj K.backstopBank)).crc ∧
        u.obj K.versionsBackstop = (bankOf s (1 - s.obj K.backstopBank)).word ∧ u.obj K.backstopState = 2) (fun _ => True) := by
  have hbad' : (bankOf (s.begin_ t) ((s.begin_ t).obj K.backstopBank)).good = false := hbad
  have hgood' : (bankOf (s.begin_ t) (1 - (s.begin_ t).obj K.backstopBank)).good = true := hgood
  have hnamed : ¬ (bankOf (s.begin_ t) ((s.begin_ t).obj K.backstopBank)).good = true := by rw [hbad']; decide
  have heffect : xMacrocellsReloaded (s.begin_ t) = ((bankShown (s.begin_ t) (1 - s.obj K.backstopBank)
      (bankOf s (1 - s.obj K.backstopBank))).set K.backstopState 2).raise 748 0 := by
    rw [macrocellsReloaded_loads (s := s.begin_ t) hlive hboot hstate, loadBackstop_eq, if_neg (by rw [hgood']; simp), if_neg hnamed,
      if_neg hnamed]
    rfl
  obtain ⟨hrunning, hcrc, hword⟩ := bankShown_shows (s.begin_ t) (1 - s.obj K.backstopBank) (bankOf s (1 - s.obj K.backstopBank))
  refine completes_event (exec_macrocellsReloaded ..) hheld ?_
  rw [heffect, raise_bs, set_bs, bankShown_live]
  refine ⟨rfl, ?_, ?_, ?_, ?_⟩ <;> rw [obj_raise_of_lt _ _ _ (by decide)]
  · rw [obj_set_ne _ _ (by decide), hrunning]
  · rw [obj_set_ne _ _ (by decide), hcrc]
  · rw [obj_set_ne _ _ (by decide), hword]
  · rw [obj_set_self]

theorem reload_none (hheld : s.held = false) (hlive : s.bs.live = false) (hboot : s.boot.live = true) (hstate : s.obj K.backstopState = 0)
    (hbad : (bankOf s (s.obj K.backstopBank)).good = false) (hbad' : (bankOf s (1 - s.obj K.backstopBank)).good = false) :
    Completes (.macrocellsReloaded t) s (fun u => u.bs.live = false ∧ u.obj K.backstopState = 3) (fun _ => True) := by
  have hnone : (!(bankOf (s.begin_ t) ((s.begin_ t).obj K.backstopBank)).good &&
      !(bankOf (s.begin_ t) (1 - (s.begin_ t).obj K.backstopBank)).good) = true := by
    have hboth : (!(bankOf s (s.obj K.backstopBank)).good && !(bankOf s (1 - s.obj K.backstopBank)).good) = true := by
      rw [hbad, hbad']; decide
    exact hboth
  have heffect : xMacrocellsReloaded (s.begin_ t) = ((arrayDead (s.begin_ t)).set K.backstopState 3).raise 748 0 := by
    rw [macrocellsReloaded_loads (s := s.begin_ t) hlive hboot hstate, loadBackstop_eq, if_pos hnone]
  refine completes_event (exec_macrocellsReloaded ..) hheld ?_
  rw [heffect, raise_bs, obj_raise_of_lt _ _ _ (by decide), obj_set_self]
  exact ⟨rfl, rfl⟩

/-! ## The latch check and the oscillator -/

theorem latchCheck_counts (h : Awake s) (hlive : s.bs.live = true) (upsets : Nat) :
    Sets (.backstopLatchCheck t upsets) s [(K.backstopUpsets, satAdd 32 (s.obj K.backstopUpsets) upsets)] (fun _ => True) := by
  have heffect : xLatchCheck upsets (s.begin_ t) = (s.begin_ t).count K.backstopUpsets 32 upsets := if_pos hlive
  refine sets_event (exec_backstopLatchCheck ..) h ?_ ?_ trivial <;> rw [heffect]
  · exact leaves_count _ _ _ (List.mem_singleton_self _)
  · exact holds_cons (obj_count_self ..) (holds_nil _)

theorem get_insert_self (d : Nat → Nat) (m : List (Nat × Nat)) (k v : Nat) : Sp.get d (Sp.insert m k v) k = v := by
  rw [Sp.get, find_insert_self]
  rfl

theorem get_insert_ne (d : Nat → Nat) (m : List (Nat × Nat)) {j k : Nat} (v : Nat) (h : j ≠ k) :
    Sp.get d (Sp.insert m k v) j = Sp.get d m j := by
  rw [Sp.get, find_insert_ne _ _ h, Sp.get]

/-- Entries that a fold puts under each of its keys, by the key alone. -/
theorem get_foldl_insert (d g : Nat → Nat) (keys : List Nat) (m : List (Nat × Nat)) (k : Nat) (h : k ∈ keys ∨ Sp.get d m k = g k) :
    Sp.get d (keys.foldl (fun m c => Sp.insert m c (g c)) m) k = g k := by
  induction keys generalizing m with
  | nil => exact h.resolve_left (List.not_mem_nil)
  | cons c keys ih =>
    refine ih _ ?_
    by_cases hk : k = c
    · exact .inr (by rw [hk, get_insert_self])
    · refine h.imp (fun hmem => (List.mem_cons.1 hmem).resolve_left hk) fun hget => ?_
      rw [get_insert_ne _ _ _ hk, hget]

/-- What a synchroniser takes at an edge of the oscillator. -/
def syncNext (s : State) (c : Nat) : Nat := ofBool (s.pool s.bs.out 0 c) + 2 * (Sp.get (fun _ => 0) s.bs.sync c % 2)

/-- What a registered macrocell reads after an edge of a clock source. -/
def edgeNext (s : State) (clock : Nat) (a : Nat) (c : BsCell) : Nat :=
  if (c.mode ≠ 0 && c.clock = clock && !(match c.rstTerm with | some t => s.termOn s.bs.out 0 t | none => false)) = true
  then withBit a c.id (clocked c (s.bs.out.testBit c.id) (s.sumOn s.bs.out 0 c)) else a

/-- The synchronisers after an edge of the oscillator. -/
def syncsShifted (s : State) : List (Nat × Nat) := s.bank.syncs.foldl (fun m c => Sp.insert m c (syncNext s c)) s.bs.sync

theorem oscEdge_bs (s : State) : (xOscEdge s).bs.sync = syncsShifted s ∧ (xOscEdge s).bs.out = s.bank.cells.foldl (edgeNext s 0) s.bs.out :=
  ⟨rfl, rfl⟩

theorem oscEdge_sets (h : Awake s) : Sets (.backstopOscEdge t) s [] (fun u =>
    (∀ code ∈ s.bank.syncs, Sp.get (fun _ => 0) u.bs.sync code =
      ofBool ((s.begin_ t).pool s.bs.out 0 code) + 2 * (Sp.get (fun _ => 0) s.bs.sync code % 2)) ∧
    ∀ c, s.bank.cells = [c] → c.mode ≠ 0 → c.clock = 0 → c.rstTerm = none →
      u.bs.out.testBit c.id = clocked c (s.bs.out.testBit c.id) ((s.begin_ t).sumOn s.bs.out 0 c)) := by
  obtain ⟨hsync, hout⟩ := oscEdge_bs (s.begin_ t)
  refine sets_event (exec_backstopOscEdge ..) h (leaves_of_dict rfl rfl rfl rfl rfl rfl) (holds_nil _) ⟨fun code hcode => ?_, ?_⟩
  · rw [hsync]
    exact get_foldl_insert (fun _ => 0) (syncNext (s.begin_ t)) _ _ code (.inl hcode)
  · intro c hcells hmode hclock hrst
    have hcells' : (s.begin_ t).bank.cells = [c] := hcells
    have hedge : edgeNext (s.begin_ t) 0 s.bs.out c = withBit s.bs.out c.id (clocked c (s.bs.out.testBit c.id) ((s.begin_ t).sumOn s.bs.out 0 c)) := by
      refine if_pos ?_
      simp only [hmode, hclock, hrst, ne_eq, not_false_eq_true, decide_true, Bool.not_false, Bool.and_self]
    rw [hout, hcells']
    exact (congrArg (·.testBit c.id) hedge).trans (testBit_withBit_self ..)

end

/-- Settles O53: each command of the array is stated through an equation of its effect; the synchronisers that an edge shifts
are put by their codes alone. -/
theorem backstopIsLoadedAndClocked : Obligations.BackstopIsLoadedAndClocked := by
  unfold Obligations.BackstopIsLoadedAndClocked
  refine ⟨fun s t j hheld hj hcell hrose => ?_, fun s t ok hheld hstate hbanks hrunning => ?_, fun s q l hsafe ha => activate_writes hsafe ha,
    fun s t hheld hlive hboot hstate => ⟨reload_named hheld hlive hboot hstate, reload_other hheld hlive hboot hstate,
      reload_none hheld hlive hboot hstate⟩,
    fun s t upsets h hlive => latchCheck_counts h hlive upsets, fun s t h => oscEdge_sets h⟩
  · refine ⟨fun hfree => ?_, fun hfree hsafe halone => ?_, fun hfree hsafe => ?_⟩
    · simpa only [hfree, if_true] using whistle_blows (t := t) hheld hj hcell hrose hfree
    · simpa only [hfree, if_true] using whistle_blows_alone (t := t) ⟨hheld, hsafe⟩ hj hcell hrose hfree halone
    · simpa only [hfree, Bool.false_eq_true, if_false] using whistle_ignored (t := t) ⟨hheld, hsafe⟩ hj hcell hrose hfree
  · refine ⟨fun hok hlive => ?_, fun hok => ?_⟩ <;> subst hok
    · exact ⟨programmed_completes hheld hstate hbanks hrunning hlive,
        fun hsafe hnone => programmed_sets ⟨hheld, hsafe⟩ hstate hbanks hrunning hlive hnone⟩
    · exact ⟨unprogrammed_completes hheld hstate, fun hsafe hnone => unprogrammed_sets ⟨hheld, hsafe⟩ hstate hnone⟩

end Sys2Proof.Proofs
end

section
/-! # Scene calibration (R343 to R345) -/

set_option Elab.async false

namespace Sys2Proof.Proofs

open Sys2Proof Sys2Proof.Machine Sys2Proof.Laws

/-! ## The tiles that calibrate -/

section
variable {s : State} {n m : Nat}

theorem mem_put_key {d : Nat → Tile} {xs : List (Nat × Tile)} {e : Nat × Tile} {x : Tile} (h : e ∈ Sp.put d xs n x) :
    e.1 = n ∨ e ∈ xs := by
  rw [Sp.put] at h
  split at h
  · exact .inr (mem_erase _ _ _ h)
  · exact (mem_insert _ _ _ _ h).imp (fun he => by rw [he]) id

/-- Only the tile that is changed can join those that calibrate. -/
theorem calTiles_modTile {f : Tile → Tile} (h : m ∈ (s.modTile n f).calTiles) : m = n ∨ m ∈ s.calTiles := by
  obtain ⟨e, he, rfl⟩ := List.mem_map.1 h
  obtain ⟨hmem, hkind⟩ := List.mem_filter.1 he
  exact (mem_put_key (d := fun _ => Tile.none_) (x := f (s.tile n)) hmem).imp id fun hmem => List.mem_map_of_mem (List.mem_filter.2 ⟨hmem, hkind⟩)

/-- A tile that does not calibrate takes no place. -/
theorem fillPlaces_idle (s : State) (ns : List Nat) (h : ∀ n ∈ ns, (s.tile n).cal.kind = 0) : s.fillPlaces ns = s := by
  induction ns with
  | nil => rfl
  | cons n ns ih =>
    rw [State.fillPlaces, h n (List.mem_cons_self ..)]
    exact ih fun m hm => h m (List.mem_cons_of_mem _ hm)

theorem pumpCal_idle (h : ∀ n ∈ s.calTiles, (s.tile n).cal.kind = 0) : s.pumpCal = s.showCal :=
  congrArg State.showCal (fillPlaces_idle _ _ h)

/-- The counts of tiles shown: how many wait and how many calibrate. -/
def calCounts (s : State) (waiting running : Nat) : State := (s.set K.calQueued waiting).set K.calRunning running

theorem showCal_eq (s : State) : ∃ waiting running activity, s.showCal = calCounts s waiting running ∨
    s.showCal = (calCounts s waiting running).set K.calState activity := by
  unfold State.showCal
  extract_lets ns queued counted
  refine ⟨(ns.filter (fun n => (s.tile n).cal.step < 2)).length, (ns.filter (fun n => (queued.tile n).cal.step ≥ 2)).length,
    if ns.isEmpty then 0 else 2, ?_⟩
  split
  · exact .inl rfl
  · exact .inr rfl

theorem calCounts_keeps (s : State) (waiting running : Nat) (k : Nat) (h : k < 0x700000) : (calCounts s waiting running).obj k = s.obj k := by
  have hqueued : k ≠ K.calQueued := by simp only [K.calQueued, key]; omega
  have hrunning : k ≠ K.calRunning := by simp only [K.calRunning, key]; omega
  rw [calCounts, obj_set_ne _ _ hrunning, obj_set_ne _ _ hqueued]

theorem showCal_obj (s : State) {k : Nat} (h : k < 0x700000) : s.showCal.obj k = s.obj k := by
  have hstate : k ≠ K.calState := by simp only [K.calState, key]; omega
  obtain ⟨waiting, running, activity, heq | heq⟩ := showCal_eq s <;> rw [heq]
  · exact calCounts_keeps _ _ _ _ h
  · exact (obj_set_ne _ _ hstate).trans (calCounts_keeps _ _ _ _ h)

theorem showCal_tiles (s : State) : s.showCal.tiles = s.tiles := by
  obtain ⟨waiting, running, activity, heq | heq⟩ := showCal_eq s <;> rw [heq] <;> rfl

theorem showCal_blobs (s : State) : s.showCal.blobs = s.blobs := by
  obtain ⟨waiting, running, activity, heq | heq⟩ := showCal_eq s <;> rw [heq] <;> rfl

theorem tile_of_tiles {u : State} (h : u.tiles = s.tiles) (n : Nat) : u.tile n = s.tile n := congrArg (fun m => Sp.get (fun _ => Tile.none_) m n) h

/-! ## The end of a scene calibration -/

/-- A tile's scene calibration has a result and is over. -/
def sceneOver (s : State) (n result : Nat) : State :=
  ((s.set (K.tileSceneResult n) result).set (K.tileStatus n)
    (withBit ((s.set (K.tileSceneResult n) result).obj (K.tileStatus n)) 5 false)).setCal n .none_

theorem calMembers_single (h : s.adcMode n ≠ 3) : s.calMembers n = [n] := if_neg h

theorem calLeader_single (h : s.adcMode n ≠ 3) : s.calLeader n = n := if_neg h

theorem endCal_scene (result : Nat) (hmode : s.adcMode n ≠ 3) (hkind : 2 ≤ (s.tile n).cal.kind) :
    s.endCal n result = (sceneOver s n result).pumpCal := by
  have hcal : ((s.tile n).cal.kind == 1) = false := by
    rw [beq_eq_false_iff_ne]
    omega
  have hresult : calResultKey (s.tile n).cal.kind n = K.tileSceneResult n := if_neg (by omega)
  simp only [State.endCal, calMembers_single hmode, List.foldl_cons, List.foldl_nil, hcal, hresult, Bool.false_and, Bool.false_eq_true,
    if_false, State.endRuns]
  rfl

theorem sceneOver_calTiles {result : Nat} (h : m ∈ (sceneOver s n result).calTiles) : m = n ∨ m ∈ s.calTiles :=
  calTiles_modTile (f := fun t => { t with cal := .none_ }) h

theorem sceneOver_cal (s : State) (n result : Nat) : ((sceneOver s n result).tile n).cal = .none_ := by
  rw [sceneOver, State.setCal, tile_modTile]

/-- What the end of a scene calibration leaves of a tile that alone calibrates. -/
theorem endCal_scene_facts {result : Nat} (hn : n < 256) (hmode : s.adcMode n ≠ 3) (hkind : 2 ≤ (s.tile n).cal.kind)
    (halone : ∀ m ∈ s.calTiles, m = n) :
    ((s.endCal n result).tile n).cal.kind = 0 ∧ (s.endCal n result).obj (K.tileSceneResult n) = result ∧
      (s.endCal n result).obj (K.tileSceneBad n) = s.obj (K.tileSceneBad n) ∧ (s.endCal n result).blobs = s.blobs := by
  have hidle : ∀ m ∈ (sceneOver s n result).calTiles, ((sceneOver s n result).tile m).cal.kind = 0 := fun m hm => by
    obtain rfl : m = n := (sceneOver_calTiles hm).elim id (halone m)
    rw [sceneOver_cal]
    rfl
  have hresult : K.tileSceneResult n ≠ K.tileStatus n := key_ne (by decide) (by decide) (.inl (by omega))
  have hbad : K.tileSceneBad n ≠ K.tileStatus n := key_ne (by decide) (by decide) (.inr (by decide))
  have hbad' : K.tileSceneBad n ≠ K.tileSceneResult n := key_ne (by decide) (by decide) (.inr (by decide))
  have hlow {b : Nat} (hb : b < 256) : key (0x300F + 16 * n) b < 0x700000 := by simp only [key]; omega
  rw [endCal_scene result hmode hkind, pumpCal_idle hidle, tile_of_tiles (showCal_tiles _), sceneOver_cal]
  refine ⟨rfl, ?_, ?_, showCal_blobs _⟩
  · exact (showCal_obj _ (hlow (by decide))).trans ((obj_set_ne _ _ hresult).trans (obj_set_self ..))
  · exact (showCal_obj _ (hlow (by decide))).trans ((obj_set_ne _ _ hbad).trans (obj_set_ne _ _ hbad'))

end

/-! ## The ends of the runs -/

section
variable {s : State} {t n : Nat} {held : List (Int × Nat)}

/-- Run 2 begins with what run 1 gave. -/
def secondRun (s : State) (n : Nat) (held : List (Int × Nat)) : State :=
  s.modCal n (fun y => { y with step := 3, run1 := (s.tile n).cal.words held, sums := [], lines := [] })

theorem sceneRunEnd_first (hmode : s.adcMode n ≠ 3) (hkind : 2 ≤ (s.tile n).cal.kind) (hstep : (s.tile n).cal.step = 2) :
    xSceneRunEnd n held s = secondRun s n held := by
  have hscene : ¬ (s.tile n).cal.kind < 2 := by omega
  simp only [xSceneRunEnd, calLeader_single hmode, calMembers_single hmode, hscene, hstep, if_false, if_true, List.foldl_cons,
    List.foldl_nil]
  rfl

theorem firstRun_sets (h : Awake s) (hn : n < tileCount s.variant) (hmode : s.adcMode n ≠ 3) (hkind : 2 ≤ (s.tile n).cal.kind)
    (hstep : (s.tile n).cal.step = 2) :
    Sets (.sceneRunEnd t n held) s []
      (fun u => (u.tile n).cal = { (s.tile n).cal with step := 3, run1 := (s.tile n).cal.words held, sums := [], lines := [] }) := by
  have heffect := sceneRunEnd_first (s := s.begin_ t) (held := held) hmode hkind hstep
  refine sets_eventOf (exec_sceneRunEnd ..) (by simpa using hn) h ?_ ?_ ?_ <;> rw [heffect]
  · exact leaves_modTile _ _ (fun x => { x with cal := { x.cal with step := 3, run1 := _, sums := [], lines := [] } })
  · exact holds_nil _
  · rw [secondRun, State.modCal, tile_modTile]
    rfl

/-- The values that two runs give, and how many of them are bad. -/
def runValues (s : State) (n : Nat) (held : List (Int × Nat)) : List (Nat × Option (Int × Int)) :=
  s.sceneValues n (s.tile n).cal.kind (s.tile n).cal.run1 ((s.tile n).cal.words held)

def badValues (s : State) (n : Nat) (held : List (Int × Nat)) : Nat := ((runValues s n held).filter (fun v => v.2.isNone)).length

/-- Whether the two runs pass. -/
def runsPass (s : State) (n : Nat) (held : List (Int × Nat)) : Bool :=
  !(s.tile n).cal.spoiled && decide (badValues s n held ≤ s.obj (K.tileSceneBadMax n))

/-- The number of bad entries is shown. -/
def badShown (s : State) (n : Nat) (held : List (Int × Nat)) : State := s.set (K.tileSceneBad n) (min 16384 (badValues s n held))

/-- The table with the good entries of two runs. -/
def tableMerged (s : State) (n : Nat) (held : List (Int × Nat)) : State :=
  (badShown s n held).putTable n (mergeTable (s.storedTable n) (runValues s n held))

theorem sceneRunEnd_second (hmode : s.adcMode n ≠ 3) (hkind : 2 ≤ (s.tile n).cal.kind) (hstep : (s.tile n).cal.step = 3) :
    xSceneRunEnd n held s = if runsPass s n held then (tableMerged s n held).endScene n true else (badShown s n held).endScene n false := by
  have hscene : ¬ (s.tile n).cal.kind < 2 := by omega
  have hmax : K.tileSceneBadMax n ≠ K.tileSceneBad n := key_ne (by decide) (by decide) (.inr (by decide))
  have hkept : (badShown s n held).obj (K.tileSceneBadMax n) = s.obj (K.tileSceneBadMax n) := obj_set_ne _ _ hmax
  rw [runsPass, ← hkept]
  simp only [xSceneRunEnd, calLeader_single hmode, calMembers_single hmode, hscene, hstep, if_false, if_true, List.foldl_cons,
    List.foldl_nil, show ¬ (3 = 2) by decide]
  rfl

/-- A scene calibration is counted for its command. -/
def sceneCounted (s : State) (n k : Nat) : State :=
  (s.set (K.tileSceneLast n) s.now).set k (min 256 ((s.set (K.tileSceneLast n) s.now).obj k + 1))

/-- A failed scene calibration, raised and counted. -/
def sceneFailed (s : State) (n : Nat) : State :=
  ((s.set (K.tileSceneLast n) s.now).raiseTile n 2).set K.calLastFail
    (min 256 (((s.set (K.tileSceneLast n) s.now).raiseTile n 2).obj K.calLastFail + 1))

theorem endScene_eq (hmode : s.adcMode n ≠ 3) (pass : Bool) : s.endScene n pass =
    if pass then (sceneCounted s n K.calLastPass).endCal n 3
    else (sceneFailed s n).endCal n 4 := by
  simp only [State.endScene, calMembers_single hmode, List.foldl_cons, List.foldl_nil, List.length_singleton]
  rfl

/-- States with the same calibration of a tile, the same objects of the tiles, and no more tiles that calibrate. -/
structure SameCal (n : Nat) (u s : State) : Prop where
  cal : (u.tile n).cal = (s.tile n).cal
  tiles : ∀ m ∈ u.calTiles, m = n ∨ m ∈ s.calTiles
  mode : u.adcMode n = s.adcMode n
  bad : u.obj (K.tileSceneBad n) = s.obj (K.tileSceneBad n)

theorem SameCal.trans {u v : State} (h : SameCal n u v) (h' : SameCal n v s) : SameCal n u s :=
  ⟨h.cal.trans h'.cal, fun m hm => (h.tiles m hm).elim .inl (h'.tiles m), h.mode.trans h'.mode, h.bad.trans h'.bad⟩

theorem sameCal_of_tiles {u : State} (htiles : u.tiles = s.tiles) (hmode : u.adcMode n = s.adcMode n)
    (hbad : u.obj (K.tileSceneBad n) = s.obj (K.tileSceneBad n)) : SameCal n u s := by
  refine ⟨congrArg Tile.cal (tile_of_tiles htiles n), fun m hm => .inr ?_, hmode, hbad⟩
  rwa [State.calTiles, htiles] at hm

theorem putTable_sameCal (s : State) (n : Nat) (bs : List Byte) : SameCal n (s.putTable n bs) s := by
  have hcal (u : State) (old : List Byte) : SameCal n (u.beginSceneRamp n old) u :=
    ⟨by rw [State.beginSceneRamp, tile_modTile], fun m hm => calTiles_modTile
      (f := fun x => { x with sceneOld := some old, sceneRamp := u.newRamp n }) hm, rfl, rfl⟩
  have hblob : SameCal n (s.setBlob (K.tileSceneTable n) bs) s := sameCal_of_tiles rfl rfl rfl
  unfold State.putTable
  extract_lets old u
  split
  · exact (hcal ..).trans hblob
  · exact hblob

theorem putTable_blobs (s : State) (n : Nat) (bs : List Byte) : (s.putTable n bs).blobs = Sp.insert s.blobs (K.tileSceneTable n) bs := by
  unfold State.putTable
  extract_lets old u
  split <;> rfl

theorem tileKey_low {i b : Nat} (hi : i < 16) (hb : b < 256) (hn : n < 256) : key (0x3000 + i + 16 * n) b < 0x700000 :=
  (tileKey_range hi hb hn).2.trans (by decide)

theorem sceneCounted_tiles (s : State) (n k : Nat) : (sceneCounted s n k).tiles = s.tiles := by
  simp only [sceneCounted, set_tiles]

theorem sceneCounted_blobs (s : State) (n k : Nat) : (sceneCounted s n k).blobs = s.blobs := by
  simp only [sceneCounted, set_blobs]

theorem sceneCounted_sameCal (hn : n < 256) {k : Nat} (hk : 0x700000 ≤ k) : SameCal n (sceneCounted s n k) s := by
  have hkey {j b : Nat} (hj : j < 16) (hb : b < 256) : key (0x3000 + j + 16 * n) b ≠ k := by
    have := tileKey_low hj hb hn
    omega
  have hmode : K.tileAdcMode n ≠ K.tileSceneLast n := key_ne (by decide) (by decide) (.inl (by omega))
  have hbad : K.tileSceneBad n ≠ K.tileSceneLast n := key_ne (by decide) (by decide) (.inr (by decide))
  exact sameCal_of_tiles (sceneCounted_tiles ..) ((obj_set_ne _ _ (hkey (j := 8) (by decide) (by decide))).trans (obj_set_ne _ _ hmode))
    ((obj_set_ne _ _ (hkey (j := 15) (by decide) (by decide))).trans (obj_set_ne _ _ hbad))

theorem sceneFailed_sameCal (hn : n < 256) : SameCal n (sceneFailed s n) s := by
  have hkey {j b : Nat} (hj : j < 16) (hb : b < 256) : key (0x3000 + j + 16 * n) b ≠ K.calLastFail := by
    have hlow := tileKey_low hj hb hn
    have hhigh : 0x700000 ≤ K.calLastFail := by decide
    omega
  have hmode : K.tileAdcMode n ≠ K.tileSceneLast n := key_ne (by decide) (by decide) (.inl (by omega))
  have hbad : K.tileSceneBad n ≠ K.tileSceneLast n := key_ne (by decide) (by decide) (.inr (by decide))
  refine sameCal_of_tiles (by simp only [sceneFailed, State.raiseTile, set_tiles, raise_tiles]) ?_ ?_
  · exact (obj_set_ne _ _ (hkey (j := 8) (by decide) (by decide))).trans
      ((obj_raise_of_lt _ _ _ (tileKey_low (i := 8) (by decide) (by decide) hn)).trans (obj_set_ne _ _ hmode))
  · exact (obj_set_ne _ _ (hkey (j := 15) (by decide) (by decide))).trans
      ((obj_raise_of_lt _ _ _ (tileKey_low (i := 15) (by decide) (by decide) hn)).trans (obj_set_ne _ _ hbad))

theorem sceneFailed_blobs (s : State) (n : Nat) : (sceneFailed s n).blobs = s.blobs := by
  simp only [sceneFailed, State.raiseTile, set_blobs, raise_blobs]

/-- What the end of a scene calibration of the one tile that calibrates shows. -/
theorem endScene_facts (hn : n < 256) (hmode : s.adcMode n ≠ 3) (hkind : 2 ≤ (s.tile n).cal.kind) (halone : ∀ m ∈ s.calTiles, m = n)
    (pass : Bool) :
    ((s.endScene n pass).tile n).cal.kind = 0 ∧ (s.endScene n pass).obj (K.tileSceneResult n) = (if pass then 3 else 4) ∧
      (s.endScene n pass).obj (K.tileSceneBad n) = s.obj (K.tileSceneBad n) ∧ (s.endScene n pass).blobs = s.blobs := by
  have hends {u : State} {result : Nat} (h : SameCal n u s) (hblobs : u.blobs = s.blobs) :
      ((u.endCal n result).tile n).cal.kind = 0 ∧ (u.endCal n result).obj (K.tileSceneResult n) = result ∧
        (u.endCal n result).obj (K.tileSceneBad n) = s.obj (K.tileSceneBad n) ∧ (u.endCal n result).blobs = s.blobs := by
    rw [← h.bad, ← hblobs]
    exact endCal_scene_facts hn (by rwa [h.mode]) (by rwa [h.cal]) fun m hm => (h.tiles m hm).elim id (halone m)
  rw [endScene_eq hmode]
  cases pass <;> simp only [Bool.false_eq_true, if_false, if_true]
  · exact hends (sceneFailed_sameCal hn) (sceneFailed_blobs ..)
  · exact hends (sceneCounted_sameCal hn (by decide)) (sceneCounted_blobs ..)

theorem secondRun_completes (hheld : s.held = false) (hn : n < tileCount s.variant) (hmode : s.adcMode n ≠ 3)
    (hkind : 2 ≤ (s.tile n).cal.kind) (hstep : (s.tile n).cal.step = 3) (htiles : s.calTiles = [n]) :
    Completes (.sceneRunEnd t n held) s
      (fun u => (u.tile n).cal.kind = 0 ∧ u.obj (K.tileSceneResult n) = (if runsPass s n held then 3 else 4) ∧
        u.obj (K.tileSceneBad n) = min 16384 (badValues s n held) ∧
        u.blob (K.tileSceneTable n) = if runsPass s n held then some (mergeTable (s.storedTable n) (runValues s n held))
          else s.blob (K.tileSceneTable n)) (fun _ => True) := by
  have hn256 : n < 256 := by
    have hcount : tileCount s.variant ≤ 256 := by cases s.variant <;> decide
    omega
  have hmodeKey : K.tileAdcMode n ≠ K.tileSceneBad n := key_ne (by decide) (by decide) (.inl (by omega))
  have hshown : (badShown (s.begin_ t) n held).obj (K.tileSceneBad n) = min 16384 (badValues s n held) := obj_set_self ..
  have hmode' : (badShown (s.begin_ t) n held).adcMode n ≠ 3 := by
    rw [State.adcMode, badShown, obj_set_ne _ _ hmodeKey]
    exact hmode
  have halone {u : State} (h : ∀ m ∈ u.calTiles, m = n ∨ m ∈ s.calTiles) : ∀ m ∈ u.calTiles, m = n := fun m hm =>
    (h m hm).elim id fun hmem => List.mem_singleton.1 (htiles ▸ hmem)
  have heffect := sceneRunEnd_second (s := s.begin_ t) (held := held) hmode hkind hstep
  refine completes_eventOf (exec_sceneRunEnd ..) (by simpa using hn) hheld ?_
  have hpass : runsPass (s.begin_ t) n held = runsPass s n held := rfl
  rw [heffect, hpass, ← hshown]
  cases runsPass s n held <;> simp only [Bool.false_eq_true, if_false, if_true]
  · obtain ⟨hcal, hresult, hbad, hblobs⟩ := endScene_facts (s := badShown (s.begin_ t) n held) hn256 hmode' hkind
      (halone fun m hm => .inr hm) false
    exact ⟨hcal, hresult, hbad, congrArg (fun m => Sp.find m (K.tileSceneTable n)) hblobs⟩
  · have hsame : SameCal n (tableMerged (s.begin_ t) n held) (badShown (s.begin_ t) n held) := putTable_sameCal ..
    have hmerged : (tableMerged (s.begin_ t) n held).blobs = Sp.insert (badShown (s.begin_ t) n held).blobs (K.tileSceneTable n)
        (mergeTable ((s.begin_ t).storedTable n) (runValues (s.begin_ t) n held)) := putTable_blobs ..
    have hvalues : mergeTable ((s.begin_ t).storedTable n) (runValues (s.begin_ t) n held) =
        mergeTable (s.storedTable n) (runValues s n held) := rfl
    obtain ⟨hcal, hresult, hbad, hblobs⟩ := endScene_facts (s := tableMerged (s.begin_ t) n held) hn256 (by rwa [hsame.mode])
      (by rwa [hsame.cal]) (halone hsame.tiles) true
    refine ⟨hcal, hresult, hbad.trans hsame.bad, ?_⟩
    rw [State.blob, hblobs, hmerged, hvalues]
    exact find_insert_self ..

end

/-! ## The enable -/

section
variable {s : State} {q : Req} {l : Loc} {n v : Nat}

theorem tileEffect_scene (t : State) (p : Put) : tileEffect t p 15 2 = xSceneEnable p.l.unit p.v t := rfl

theorem sceneEnable_same (h : s.obj (K.tileSceneEnable n) = v) : xSceneEnable n v s = s := if_pos h

theorem sceneEnable_ramps (h : s.obj (K.tileSceneEnable n) ≠ v) :
    xSceneEnable n v s = (s.poke (K.tileSceneEnable n) v).beginSceneRamp n (s.tableNow n) := if_neg h

theorem beginSceneRamp_tile (s : State) (n : Nat) (old : List Byte) :
    ((s.beginSceneRamp n old).tile n).sceneRamp.on = true ∧ ((s.beginSceneRamp n old).tile n).sceneOld = some old := by
  rw [State.beginSceneRamp, tile_modTile]
  exact ⟨rfl, rfl⟩

theorem answeredWrite_tile (u s : State) (q : Req) (k : Nat) (l : Loc) (n : Nat) : (answeredWrite u s q k l).tile n = u.tile n := by
  refine tile_of_tiles ?_ n
  simp only [answeredWrite, answered_tiles, record_tiles]

theorem sceneEnable_writes (hn : n < 256) (hsafe : s.safeAsk = 0) (h : Accepts s (onObject q (K.tileSceneEnable n)) l) :
    Writes (.sceneEnableWrite q n) s (onObject q (K.tileSceneEnable n)) l [(K.tileSceneEnable n, ofLE q.body)]
      (fun u => s.obj (K.tileSceneEnable n) ≠ ofLE q.body → (u.tile n).sceneRamp.on = true ∧
        (u.tile n).sceneOld = some ((s.access (onObject q (K.tileSceneEnable n))).tableNow n)) := by
  obtain ⟨hput, hunit, -⟩ := tile_put (i := 15) (b := 2) (by decide) (by decide) (by decide) (by decide) h (place_tileSceneEnable n hn)
  obtain ⟨hlo, hhi⟩ := tileKey_range (i := 15) (b := 2) (by decide) (by decide) hn
  have haccess : (s.access (onObject q (K.tileSceneEnable n))).obj (K.tileSceneEnable n) = s.obj (K.tileSceneEnable n) :=
    obj_access h (tile_access (i := 15) (by decide) (by decide) hn)
  rw [tileEffect_scene, putAt_l, hunit, putAt_v] at hput
  have hwrites {u : State} {own : State → Prop} (heffect : xSceneEnable n (ofLE q.body) (s.access (onObject q (K.tileSceneEnable n))) = u)
      (hl : Leaves [K.tileSceneEnable n] u (s.access (onObject q (K.tileSceneEnable n)))) (hv : u.obj (K.tileSceneEnable n) = ofLE q.body)
      (hown : own (answeredWrite u s q (K.tileSceneEnable n) l)) :
      Writes (.sceneEnableWrite q n) s (onObject q (K.tileSceneEnable n)) l [(K.tileSceneEnable n, ofLE q.body)] own :=
    writes_of_put (asks_of_writesOf (exec_sceneEnableWrite q n s) (by simpa using hn)) hsafe h (written_tile hlo hhi) (hput.trans heffect)
      hl (holds_cons hv (holds_nil _)) hown
  by_cases hsame : s.obj (K.tileSceneEnable n) = ofLE q.body
  · exact hwrites (sceneEnable_same (haccess.trans hsame)) (leaves_of_dict rfl rfl rfl rfl rfl rfl) (haccess.trans hsame)
      fun hne => absurd hsame hne
  · refine hwrites (sceneEnable_ramps (by rwa [haccess])) ((leaves_modTile ..).trans (leaves_poke _ _ (List.mem_singleton_self _)))
      (obj_poke_self ..) fun _ => ?_
    rw [answeredWrite_tile]
    exact beginSceneRamp_tile ..

end

/-- Settles O45: the first run keeps its words; after the second the one tile that calibrates leaves its calibration with its result,
whatever its table took. -/
theorem scenesAreMeasured : Obligations.ScenesAreMeasured :=
  ⟨fun _ _ _ _ h hn hmode hkind hstep => firstRun_sets h hn hmode hkind hstep,
    fun _ _ _ _ hheld hn hmode hkind hstep htiles => secondRun_completes hheld hn hmode hkind hstep htiles,
    fun _ _ _ _ hsafe hn h => sceneEnable_writes hn hsafe h⟩

end Sys2Proof.Proofs
end

section
/-! # The arbitration of the Store switch (R245, R252, R268 to R276) -/

set_option Elab.async false

namespace Sys2Proof.Proofs

open Sys2Proof Sys2Proof.Machine Sys2Proof.Laws

/-! ## Objects put one after another -/

/-- A state that differs from another in the objects of a list, which have the values of the list, and in what no object shows. -/
structure Puts (vs : List (Nat × Nat)) (u s : State) : Prop where
  variant : u.variant = s.variant
  safeAsk : u.safeAsk = s.safeAsk
  mem : u.mem = s.mem
  ctxs : u.ctxs = s.ctxs
  inForce : u.inForce = s.inForce
  obj : ∀ k, k ∉ vs.map (·.1) → u.obj k = s.obj k
  holds : Holds u vs

section
variable {vs ws : List (Nat × Nat)} {u v s : State} {k x : Nat}

theorem Puts.leaves (h : Puts vs u s) : Leaves (vs.map (·.1)) u s :=
  ⟨h.variant, h.safeAsk, h.mem, h.ctxs, h.inForce, fun k hk _ => h.obj k hk⟩

theorem puts_of_dict (hv : u.variant = s.variant) (hd : u.dict = s.dict) (ha : u.safeAsk = s.safeAsk) (hm : u.mem = s.mem)
    (hc : u.ctxs = s.ctxs) (hi : u.inForce = s.inForce) : Puts [] u s :=
  ⟨hv, ha, hm, hc, hi, fun _ _ => by simp only [State.obj, hv, hd], holds_nil _⟩

theorem puts_begin (s : State) (t : Nat) : Puts [] (s.begin_ t) s := puts_of_dict rfl rfl rfl rfl rfl rfl

/-- One more object takes a value. -/
theorem Puts.next (h : Puts vs u s) (hv : Puts [(k, x)] v u) (hk : k ∉ vs.map (·.1)) : Puts ((k, x) :: vs) v s := by
  have hkept {i : Nat} (hi : i ≠ k) : v.obj i = u.obj i := hv.obj i fun hm => hi (List.mem_singleton.1 hm)
  refine ⟨hv.variant.trans h.variant, hv.safeAsk.trans h.safeAsk, hv.mem.trans h.mem, hv.ctxs.trans h.ctxs, hv.inForce.trans h.inForce,
    fun i hi => ?_, holds_cons (hv.holds _ (List.mem_singleton_self _)) (holds_keep h.holds fun i hi => hkept fun e => hk (e ▸ hi))⟩
  obtain ⟨hne, hi⟩ := not_or.1 (mt List.mem_cons.2 hi)
  exact (hkept hne).trans (h.obj i hi)

/-- A change of what no object shows. -/
theorem Puts.same (h : Puts vs u s) (hv : Puts [] v u) : Puts vs v s :=
  ⟨hv.variant.trans h.variant, hv.safeAsk.trans h.safeAsk, hv.mem.trans h.mem, hv.ctxs.trans h.ctxs, hv.inForce.trans h.inForce,
    fun i hi => (hv.obj i List.not_mem_nil).trans (h.obj i hi), holds_keep h.holds fun i _ => hv.obj i List.not_mem_nil⟩

theorem puts_set (s : State) (k x : Nat) : Puts [(k, x)] (s.set k x) s :=
  ⟨set_variant .., set_safeAsk .., set_mem .., set_ctxs .., set_inForce ..,
    fun _ hi => obj_set_ne _ _ fun e => hi (e ▸ List.mem_singleton_self _), holds_cons (obj_set_self ..) (holds_nil _)⟩

theorem Puts.set (h : Puts vs u s) (k x : Nat) (hk : k ∉ vs.map (·.1)) : Puts ((k, x) :: vs) (u.set k x) s := h.next (puts_set ..) hk

theorem Puts.tally (h : Puts vs u s) (k w n : Nat) (hk : k ∉ vs.map (·.1)) :
    Puts ((k, wrapAdd w (s.obj k) n) :: vs) (u.tally k w n) s := by
  rw [← h.obj k hk]
  exact h.set k _ hk

theorem Puts.count (h : Puts vs u s) (k w n : Nat) (hk : k ∉ vs.map (·.1)) :
    Puts ((k, satAdd w (s.obj k) n) :: vs) (u.count k w n) s := by
  rw [← h.obj k hk]
  exact h.set k _ hk

/-- A list of the same values in another order. -/
theorem Puts.reorder (h : Puts vs u s) (hperm : vs.Perm ws) : Puts ws u s :=
  ⟨h.variant, h.safeAsk, h.mem, h.ctxs, h.inForce, fun i hi => h.obj i fun hm => hi ((hperm.map _).mem_iff.1 hm),
    holds_mono h.holds fun _ he => hperm.mem_iff.2 he⟩

theorem sets_puts {c : Instr} {t : Nat} {f : State → State} {b : Bool} {own : State → Prop} (he : exec c s = s.eventOf b t f)
    (hb : b = true) (h : Awake s) (hputs : Puts vs (f (s.begin_ t)) (s.begin_ t)) (hown : own (f (s.begin_ t))) : Sets c s vs own :=
  sets_eventOf he hb h hputs.leaves hputs.holds hown

/-- A raise after objects below the events have been put. -/
theorem Puts.raise (h : Puts vs u s) (n d : Nat) (hsource : u.hasSource n = true) (htime : u.time = s.time)
    (hlow : ∀ k ∈ vs.map (·.1), k < 0x700000) : Puts (vs ++ raisedBy s n d) (u.raise n d) s := by
  have hevent {i b : Nat} (hi : 0x7000 ≤ i) : key i b ∉ vs.map (·.1) := fun hm => by
    have := hlow _ hm
    simp only [key] at this
    omega
  refine ⟨(raise_variant ..).trans h.variant, (raise_safeAsk ..).trans h.safeAsk, (raise_mem ..).trans h.mem,
    (raise_ctxs ..).trans h.ctxs, (raise_inForce ..).trans h.inForce, fun i hi => ?_, ?_⟩
  · rw [List.map_append, List.mem_append, not_or] at hi
    refine (obj_raise_ne _ _ _ _ fun he => hi.2 ?_).trans (h.obj i hi.1)
    simpa only [raisedBy, eventKey, List.map_cons, List.map_nil, List.mem_cons, List.not_mem_nil, or_false] using he
  · exact holds_append (holds_keep h.holds fun i hi => obj_raise_of_lt _ _ _ (hlow i hi))
      (holds_raise d hsource (h.obj _ (hevent (Nat.le_add_right ..))) htime)

/-- What a maximum reads once a value has been seen. -/
def mostF32 (s : State) (k v : Nat) : Nat := if f32Key (s.obj k) < f32Key v then v else s.obj k

theorem Puts.maxF32 (h : Puts vs u s) (k v : Nat) (hk : k ∉ vs.map (·.1)) : Puts ((k, mostF32 s k v) :: vs) (u.maxF32 k v) s := by
  rw [mostF32, ← h.obj k hk, State.maxF32]
  split
  · exact h.set k v hk
  · exact ⟨h.variant, h.safeAsk, h.mem, h.ctxs, h.inForce, fun i hi => h.obj i fun hm => hi (List.mem_cons_of_mem _ hm),
      holds_cons rfl h.holds⟩

end

/-! ## Who is granted (R272, R273) -/

section
variable {s : State} {p n : Nat} {ws : List Want} {w : Want} {libero : Bool}

theorem longest_spec {x : Pc} {ws : List Want} {w : Want} (h : longest x ws = some w) :
    w ∈ ws ∧ ∀ y ∈ ws, x.waited y.client ≤ x.waited w.client := by
  induction ws generalizing w with
  | nil => cases h
  | cons v ws ih =>
    rw [longest] at h
    split at h
    next hnone =>
      cases h
      have hempty : ws = [] := by
        cases ws with
        | nil => rfl
        | cons a ws =>
          rw [longest] at hnone
          split at hnone
          · cases hnone
          · split at hnone <;> cases hnone
      subst hempty
      exact ⟨List.mem_singleton_self _, fun y hy => by rw [List.mem_singleton.1 hy]⟩
    next z hz =>
      obtain ⟨hmem, hmost⟩ := ih hz
      split at h
      next hlonger =>
        cases h
        refine ⟨List.mem_cons_of_mem _ hmem, fun y hy => ?_⟩
        obtain rfl | hy := List.mem_cons.1 hy
        · simp only [gt_iff_lt, Bool.or_eq_true, decide_eq_true_eq, Bool.and_eq_true] at hlonger
          omega
        · exact hmost y hy
      next hshorter =>
        cases h
        simp only [gt_iff_lt, Bool.or_eq_true, decide_eq_true_eq, Bool.and_eq_true, not_or] at hshorter
        refine ⟨List.mem_cons_self .., fun y hy => ?_⟩
        obtain rfl | hy := List.mem_cons.1 hy
        · exact Nat.le_refl _
        · exact (hmost y hy).trans (Nat.not_lt.1 hshorter.1)

theorem nextInTurn_mem {last : Nat} {ws : List Want} {w : Want} (h : nextInTurn last ws = some w) : w ∈ ws := by
  induction ws generalizing w with
  | nil => cases h
  | cons v ws ih =>
    rw [nextInTurn] at h
    split at h
    · cases h
      exact List.mem_cons_self ..
    next z hz =>
      split at h <;> cases h
      · exact List.mem_cons_of_mem _ (ih hz)
      · exact List.mem_cons_self ..

/-- The lowest rank of a list, at most a given one. -/
def lowestRank (ws : List Want) (a : Nat) : Nat := ws.foldl (fun a w => min a (rankOf w.client)) a

theorem lowestRank_le {x : Want} (a : Nat) (h : x ∈ ws) : lowestRank ws a ≤ rankOf x.client := by
  have hstart (ws : List Want) (a : Nat) : lowestRank ws a ≤ a := by
    induction ws generalizing a with
    | nil => exact Nat.le_refl _
    | cons v ws ih => exact (ih _).trans (Nat.min_le_left ..)
  induction ws generalizing a with
  | nil => cases h
  | cons v ws ih =>
    obtain rfl | h := List.mem_cons.1 h
    · exact (hstart ws (min a (rankOf x.client))).trans (Nat.min_le_right ..)
    · exact ih _ h

theorem choose_eq (s : State) (p : Nat) (ws : List Want) : s.choose p ws =
    if ((s.pc p).grants + 1) % s.obj K.arbLiberoN = 0 then
      (longest (s.pc p) (ws.filter (fun w => s.admitted w.client))).map (fun w => (true, w))
    else (nextInTurn ((s.pc p).last.getD (lowestRank (ws.filter (fun w => s.admitted w.client)) 4) 47)
      ((ws.filter (fun w => s.admitted w.client)).filter
        (fun w => rankOf w.client == lowestRank (ws.filter (fun w => s.admitted w.client)) 4))).map (fun w => (false, w)) := rfl

theorem choose_spec (h : s.choose p ws = some (libero, w)) :
    libero = decide (((s.pc p).grants + 1) % s.obj K.arbLiberoN = 0) ∧ w ∈ ws ∧ s.admitted w.client = true ∧
      ∀ x ∈ ws, s.admitted x.client = true → if libero then (s.pc p).waited x.client ≤ (s.pc p).waited w.client
        else rankOf w.client ≤ rankOf x.client := by
  rw [choose_eq] at h
  split at h
  next hturn =>
    obtain ⟨z, hz, heq⟩ := Option.map_eq_some_iff.1 h
    cases heq
    obtain ⟨hmem, hmost⟩ := longest_spec hz
    obtain ⟨hmem, hadmitted⟩ := List.mem_filter.1 hmem
    exact ⟨(decide_eq_true hturn).symm, hmem, hadmitted, fun x hx ha => (if_pos rfl).mpr (hmost x (List.mem_filter.2 ⟨hx, ha⟩))⟩
  next hturn =>
    obtain ⟨z, hz, heq⟩ := Option.map_eq_some_iff.1 h
    cases heq
    obtain ⟨hmem, hrank⟩ := List.mem_filter.1 (nextInTurn_mem hz)
    obtain ⟨hmem, hadmitted⟩ := List.mem_filter.1 hmem
    refine ⟨(decide_eq_false hturn).symm, hmem, hadmitted, fun x hx ha => ?_⟩
    rw [if_neg (by decide), beq_iff_eq.1 hrank]
    exact lowestRank_le 4 (List.mem_filter.2 ⟨hx, ha⟩)

end

/-! ## A granted read -/

section
variable {s u : State} {p held t : Nat} {ws : List Want} {w : Want} {libero : Bool} {vs : List (Nat × Nat)}

/-- The record of a grant at its port. -/
def grantMarked (s : State) (p i : Nat) : State :=
  s.setPc p { s.pc p with grants := (s.pc p).grants + 1, last := (s.pc p).last.set (rankOf i) i }

theorem countGrant_eq (s : State) (p : Nat) (libero : Bool) (i : Nat) : s.countGrant p libero i =
    if libero then (((grantMarked s p i).tally (K.arbPortGrants p) 64 1).tally (K.arbClientGrants i) 64 1).tally (K.arbClientLibero i) 64 1
    else ((grantMarked s p i).tally (K.arbPortGrants p) 64 1).tally (K.arbClientGrants i) 64 1 := rfl

/-- The objects that count a grant. -/
def grantCounts (s : State) (p : Nat) (libero : Bool) (i : Nat) : List (Nat × Nat) :=
  (if libero then [(K.arbClientLibero i, wrapAdd 64 (s.obj (K.arbClientLibero i)) 1)] else []) ++
    [(K.arbClientGrants i, wrapAdd 64 (s.obj (K.arbClientGrants i)) 1), (K.arbPortGrants p, wrapAdd 64 (s.obj (K.arbPortGrants p)) 1)]

theorem arbPort_ne_client {i b b' : Nat} (hi : i < 48) (hb : b < 256) (hb' : b' < 256) :
    key (0x5940 + p) b ≠ key (0x5910 + i) b' := key_ne hb hb' (.inl (by omega))

theorem puts_countGrant (s : State) {i : Nat} (hi : i < 48) : Puts (grantCounts s p libero i) (s.countGrant p libero i) s := by
  have hmarked : Puts [] (grantMarked s p i) s := puts_of_dict rfl rfl rfl rfl rfl rfl
  have hclient : K.arbClientGrants i ≠ K.arbPortGrants p := (arbPort_ne_client hi (by decide) (by decide)).symm
  have hlibero : K.arbClientLibero i ≠ K.arbPortGrants p := (arbPort_ne_client hi (by decide) (by decide)).symm
  have hlibero' : K.arbClientLibero i ≠ K.arbClientGrants i := key_ne (by decide) (by decide) (.inr (by decide))
  have hcounted := (hmarked.tally (K.arbPortGrants p) 64 1 List.not_mem_nil).tally (K.arbClientGrants i) 64 1
    fun hm => hclient (List.mem_singleton.1 hm)
  rw [countGrant_eq]
  cases libero
  · exact hcounted
  · exact hcounted.tally (K.arbClientLibero i) 64 1 fun hm => by
      obtain h | h := List.mem_cons.1 hm
      · exact hlibero' h
      · exact hlibero (List.mem_singleton.1 h)

/-- A grant counted, with the waits of the other clients and the longest wait and grant. -/
def granted (s : State) (p held : Nat) (ws : List Want) (w : Want) (libero : Bool) : State :=
  (((s.countGrant p libero w.client).setPc p (((s.countGrant p libero w.client).pc p).wait ws w.client)).maxF32
    (K.arbClientWaitMax w.client) (f32OfNat w.waitNs)).maxF32 (K.arbPortHoldMax p) (f32OfNat held)

/-- A read counted at its pseudo-channel. -/
def readCounted (s : State) (p : Nat) : State :=
  (s.tally (K.storePcReads p) 64 1).setPc p { (s.tally (K.storePcReads p) 64 1).pc p with
    reads := ((s.tally (K.storePcReads p) 64 1).pc p).reads + 1 }

theorem moveRead_sound (s : State) (p addr : Nat) : s.moveRead p ⟨p, ws, held, false, 0, false⟩ addr = readCounted s p := rfl

theorem arbGrant_reads (hchoose : s.choose p ws = some (libero, w))
    (hread : w.access = .service ∨ (∃ c, w.access = .slotRead c ∨ w.access = .laneRead c ∨ w.access = .cellRead c)) :
    xArbGrant ⟨p, ws, held, false, 0, false⟩ s = readCounted (granted s p held ws w libero) p := by
  unfold xArbGrant
  rw [hchoose, granted]
  obtain ha | ⟨c, ha | ha | ha⟩ := hread <;> simp only [ha, isRead, if_true, Bool.false_eq_true, if_false, moveRead_sound]

/-- The objects that a granted read changes. -/
def readGranted (s : State) (p held : Nat) (w : Want) (libero : Bool) : List (Nat × Nat) :=
  (K.storePcReads p, wrapAdd 64 (s.obj (K.storePcReads p)) 1) :: (K.arbPortHoldMax p, mostF32 s (K.arbPortHoldMax p) (f32OfNat held)) ::
    (K.arbClientWaitMax w.client, mostF32 s (K.arbClientWaitMax w.client) (f32OfNat w.waitNs)) :: grantCounts s p libero w.client

theorem grantCounts_keys (s : State) (p : Nat) (libero : Bool) {i k : Nat} (h : k ∈ (grantCounts s p libero i).map (·.1)) :
    k = K.arbClientLibero i ∨ k = K.arbClientGrants i ∨ k = K.arbPortGrants p := by
  cases libero <;> simp [grantCounts] at h
  · exact .inr h
  · exact h

theorem puts_granted (s : State) (ws : List Want) (hi : w.client < 48) :
    Puts ((K.arbPortHoldMax p, mostF32 s (K.arbPortHoldMax p) (f32OfNat held)) ::
      (K.arbClientWaitMax w.client, mostF32 s (K.arbClientWaitMax w.client) (f32OfNat w.waitNs)) :: grantCounts s p libero w.client)
      (granted s p held ws w libero) s := by
  have hwaits : Puts (grantCounts s p libero w.client)
      ((s.countGrant p libero w.client).setPc p (((s.countGrant p libero w.client).pc p).wait ws w.client)) s :=
    (puts_countGrant s hi).same (puts_of_dict rfl rfl rfl rfl rfl rfl)
  refine (hwaits.maxF32 _ _ fun hm => ?_).maxF32 _ _ fun hm => ?_
  · obtain h | h | h := grantCounts_keys _ _ _ hm
    · exact key_ne (by decide) (by decide) (.inr (by decide)) h
    · exact key_ne (by decide) (by decide) (.inr (by decide)) h
    · exact arbPort_ne_client hi (by decide) (by decide) h.symm
  · obtain h | hm := List.mem_cons.1 hm
    · exact arbPort_ne_client hi (by decide) (by decide) h
    obtain h | h | h := grantCounts_keys _ _ _ hm
    · exact arbPort_ne_client hi (by decide) (by decide) h
    · exact arbPort_ne_client hi (by decide) (by decide) h
    · exact key_ne (by decide) (by decide) (.inr (by decide)) h

theorem puts_readCounted (hp : p < 32) (hi : w.client < 48) :
    Puts (readGranted s p held w libero) (readCounted (granted s p held ws w libero) p) s := by
  have hreads {i b : Nat} (hb : b < 256) (hi : 0x5840 ≤ i) : K.storePcReads p ≠ key i b := key_ne (by decide) hb (.inl (by omega))
  have hnew : K.storePcReads p ∉ List.map (·.1) ((K.arbPortHoldMax p, mostF32 s (K.arbPortHoldMax p) (f32OfNat held)) ::
      (K.arbClientWaitMax w.client, mostF32 s (K.arbClientWaitMax w.client) (f32OfNat w.waitNs)) :: grantCounts s p libero w.client) := fun hm => by
    obtain h | hm := List.mem_cons.1 hm
    · exact hreads (by decide) (by omega) h
    obtain h | hm := List.mem_cons.1 hm
    · exact hreads (by decide) (by omega) h
    obtain h | h | h := grantCounts_keys _ _ _ hm <;> exact hreads (by decide) (by omega) h
  exact ((puts_granted s ws hi).tally (K.storePcReads p) 64 1 hnew).same (puts_of_dict rfl rfl rfl rfl rfl rfl)

end

/-! ## What the port keeps of a grant -/

section
variable {s u : State} {p i held t : Nat} {ws : List Want} {w : Want} {libero : Bool}

theorem pc_setPc (s : State) (p : Nat) (x : Pc) : (s.setPc p x).pc p = x := get_put_self ..

theorem pc_of_pcs (h : u.pcs = s.pcs) (p : Nat) : u.pc p = s.pc p := congrArg (fun m => Sp.get (fun _ => Pc.idle) m p) h

theorem maxF32_pcs (s : State) (k v : Nat) : (s.maxF32 k v).pcs = s.pcs := by
  unfold State.maxF32
  split
  · exact set_pcs ..
  · rfl

theorem countGrant_pc (s : State) (p : Nat) (libero : Bool) (i : Nat) : (s.countGrant p libero i).pc p =
    { s.pc p with grants := (s.pc p).grants + 1, last := (s.pc p).last.set (rankOf i) i } := by
  have hmarked : (s.countGrant p libero i).pcs = (grantMarked s p i).pcs := by
    rw [countGrant_eq]
    cases libero <;> simp only [Bool.false_eq_true, if_true, if_false, tally_pcs]
  rw [pc_of_pcs hmarked, grantMarked, pc_setPc]

theorem granted_pc (s : State) (p held : Nat) (ws : List Want) (w : Want) (libero : Bool) : (granted s p held ws w libero).pc p =
    ((s.countGrant p libero w.client).pc p).wait ws w.client := by
  rw [granted, pc_of_pcs (maxF32_pcs ..), pc_of_pcs (maxF32_pcs ..), pc_setPc]

theorem readCounted_pc (s : State) (p : Nat) : (readCounted s p).pc p = { s.pc p with reads := (s.pc p).reads + 1 } := by
  rw [readCounted, pc_setPc, pc_of_pcs (tally_pcs ..)]

theorem find_foldl_insert {g : Want → Nat} (ws : List Want) (m : List (Nat × Nat)) (h : ∀ w ∈ ws, w.client ≠ i) :
    Sp.find (ws.foldl (fun m w => Sp.insert m w.client (g w)) m) i = Sp.find m i := by
  induction ws generalizing m with
  | nil => rfl
  | cons w ws ih =>
    exact (ih _ fun v hv => h v (List.mem_cons_of_mem _ hv)).trans (find_insert_ne _ _ (h w (List.mem_cons_self ..)).symm)

theorem waited_winner (x : Pc) (ws : List Want) (i : Nat) : (x.wait ws i).waited i = 0 := by
  have hothers : ∀ w ∈ ws.filter (fun w => w.client != i), w.client ≠ i := fun w hw => by
    simpa using (List.mem_filter.1 hw).2
  rw [Pc.waited, Pc.wait, find_foldl_insert _ _ hothers]
  rfl

theorem client_lt (h : clientPresent s.variant i = true) : i < 48 := by
  simp only [clientPresent, Bool.and_eq_true, decide_eq_true_eq] at h
  exact h.1

theorem choose_begin (h : s.choose p ws = some (libero, w)) (t : Nat) : (s.begin_ t).choose p ws = some (libero, w) := h

/-- A grant's port and clients are there. -/
theorem grant_present (hp : p < 32) (hws : ∀ x ∈ ws, clientPresent s.variant x.client = true) :
    (decide (p < 32) && ws.all (fun w => clientPresent s.variant w.client)) = true := by
  rw [decide_eq_true hp, Bool.true_and, List.all_eq_true]
  exact hws

/-- The objects of a granted read, in the order of their list. -/
theorem readGranted_perm (s : State) (p held : Nat) (w : Want) (libero : Bool) : (readGranted s p held w libero).Perm
    ([(K.arbPortGrants p, wrapAdd 64 (s.obj (K.arbPortGrants p)) 1),
      (K.arbClientGrants w.client, wrapAdd 64 (s.obj (K.arbClientGrants w.client)) 1),
      (K.arbClientWaitMax w.client, mostF32 s (K.arbClientWaitMax w.client) (f32OfNat w.waitNs)),
      (K.arbPortHoldMax p, mostF32 s (K.arbPortHoldMax p) (f32OfNat held)),
      (K.storePcReads p, wrapAdd 64 (s.obj (K.storePcReads p)) 1)] ++
      (if libero then [(K.arbClientLibero w.client, wrapAdd 64 (s.obj (K.arbClientLibero w.client)) 1)] else [])) := by
  have hback := (List.reverse_perm (readGranted s p held w libero)).symm
  cases libero
  · exact hback
  · exact hback.trans (List.Perm.append_left
      [(K.arbPortGrants p, wrapAdd 64 (s.obj (K.arbPortGrants p)) 1),
        (K.arbClientGrants w.client, wrapAdd 64 (s.obj (K.arbClientGrants w.client)) 1)]
      (List.perm_append_comm (l₁ := [(K.arbClientLibero w.client, wrapAdd 64 (s.obj (K.arbClientLibero w.client)) 1)])))

theorem readGrant_sets (h : Awake s) (hp : p < 32) (hws : ∀ x ∈ ws, clientPresent s.variant x.client = true)
    (hchoose : s.choose p ws = some (libero, w))
    (hread : w.access = .service ∨ (∃ c, w.access = .slotRead c ∨ w.access = .laneRead c ∨ w.access = .cellRead c)) :
    Sets (.arbGrant t ⟨p, ws, held, false, 0, false⟩) s
      ([(K.arbPortGrants p, wrapAdd 64 (s.obj (K.arbPortGrants p)) 1),
        (K.arbClientGrants w.client, wrapAdd 64 (s.obj (K.arbClientGrants w.client)) 1),
        (K.arbClientWaitMax w.client, mostF32 s (K.arbClientWaitMax w.client) (f32OfNat w.waitNs)),
        (K.arbPortHoldMax p, mostF32 s (K.arbPortHoldMax p) (f32OfNat held)),
        (K.storePcReads p, wrapAdd 64 (s.obj (K.storePcReads p)) 1)] ++
        (if libero then [(K.arbClientLibero w.client, wrapAdd 64 (s.obj (K.arbClientLibero w.client)) 1)] else []))
      (fun u => (u.pc p).grants = (s.pc p).grants + 1 ∧ (u.pc p).reads = (s.pc p).reads + 1 ∧ (u.pc p).waited w.client = 0) := by
  obtain ⟨-, hmem, -, -⟩ := choose_spec hchoose
  have hi := client_lt (hws w hmem)
  have hreads := arbGrant_reads (held := held) (choose_begin hchoose t) hread
  refine sets_puts (exec_arbGrant ..) (grant_present hp hws) h ?_ ?_ <;> rw [hreads]
  · exact (puts_readCounted hp hi).reorder (readGranted_perm ..)
  · rw [readCounted_pc, granted_pc, countGrant_pc]
    exact ⟨rfl, rfl, waited_winner ..⟩

/-! ## A grant cut off at the limit (R275) -/

theorem maxF32_time (s : State) (k v : Nat) : (s.maxF32 k v).time = s.time := by
  unfold State.maxF32
  split
  · exact set_time ..
  · rfl

theorem countGrant_time (s : State) (p : Nat) (libero : Bool) (i : Nat) : (s.countGrant p libero i).time = s.time := by
  rw [countGrant_eq]
  cases libero <;> simp only [Bool.false_eq_true, if_true, if_false, tally_time] <;> rfl

/-- The red card of a client at a port. -/
def carded (s : State) (p i : Nat) : State :=
  ((((s.set (K.arbClientState i) 1).count (K.arbClientCards i) 32 1).count K.arbRedCount 32 1).set K.arbRedLast (i * 256 + p)).raise (577 + 2 * p)
    (i * 256)

theorem grantHoldLimit_eq (h : s.admitted i = true) : xGrantHoldLimit p i s =
    carded ((s.countGrant p false i).maxF32 (K.arbPortHoldMax p) (f32OfNat (s.obj K.arbHoldLimit))) p i := by
  simp only [xGrantHoldLimit, carded, h, Bool.not_true, Bool.false_eq_true, if_false]

/-- The objects that a grant cut off at the limit changes, the events apart. -/
def limitShown (s : State) (p i : Nat) : List (Nat × Nat) :=
  [(K.arbRedLast, i * 256 + p), (K.arbRedCount, satAdd 32 (s.obj K.arbRedCount) 1),
    (K.arbClientCards i, satAdd 32 (s.obj (K.arbClientCards i)) 1), (K.arbClientState i, 1),
    (K.arbPortHoldMax p, mostF32 s (K.arbPortHoldMax p) (f32OfNat (s.obj K.arbHoldLimit)))] ++ grantCounts s p false i

theorem puts_grantHoldLimit (hp : p < 32) (hi : i < 48) (h : s.admitted i = true) :
    Puts (limitShown s p i ++ raisedBy s (577 + 2 * p) (i * 256)) (xGrantHoldLimit p i s) s := by
  rw [grantHoldLimit_eq h, carded]
  have hheld := (puts_countGrant (libero := false) (p := p) s hi).maxF32 (K.arbPortHoldMax p) (f32OfNat (s.obj K.arbHoldLimit)) fun hm => by
    obtain h | h | h := grantCounts_keys _ _ _ hm
    · exact arbPort_ne_client hi (by decide) (by decide) h
    · exact arbPort_ne_client hi (by decide) (by decide) h
    · exact key_ne (by decide) (by decide) (.inr (by decide)) h
  have hcarded := (((hheld.set (K.arbClientState i) 1 ?_).count (K.arbClientCards i) 32 1 ?_).count K.arbRedCount 32 1 ?_).set K.arbRedLast
    (i * 256 + p) ?_
  · refine hcarded.raise _ _ (pcSource_present _ hp) ?_ fun k hk => ?_
    · simp only [set_time, count_time, maxF32_time, countGrant_time]
    · simp [grantCounts, K.arbRedLast, K.arbRedCount, K.arbClientCards, K.arbClientState, K.arbPortHoldMax, K.arbClientGrants, K.arbPortGrants, key] at hk
      omega
  all_goals
    simp [grantCounts, K.arbRedLast, K.arbRedCount, K.arbClientCards, K.arbClientState, K.arbPortHoldMax, K.arbClientGrants, K.arbPortGrants, key]
    try omega

theorem holdLimit_sets (h : Awake s) (hp : p < 32) (hpresent : clientPresent s.variant i = true) (hadmitted : s.admitted i = true) :
    Sets (.grantHoldLimit t p i) s
      ([(K.arbPortGrants p, wrapAdd 64 (s.obj (K.arbPortGrants p)) 1),
        (K.arbClientGrants i, wrapAdd 64 (s.obj (K.arbClientGrants i)) 1),
        (K.arbPortHoldMax p, mostF32 s (K.arbPortHoldMax p) (f32OfNat (s.obj K.arbHoldLimit))),
        (K.arbClientState i, 1), (K.arbClientCards i, satAdd 32 (s.obj (K.arbClientCards i)) 1),
        (K.arbRedCount, satAdd 32 (s.obj K.arbRedCount) 1), (K.arbRedLast, i * 256 + p)] ++
        raisedBy (s.begin_ t) (577 + 2 * p) (i * 256))
      (fun u => u.admitted i = false) := by
  have hputs := (puts_grantHoldLimit (s := s.begin_ t) hp (client_lt hpresent) hadmitted).reorder
    ((List.reverse_perm (limitShown (s.begin_ t) p i)).symm.append_right _)
  have hred : (K.arbClientState i, 1) ∈ (limitShown (s.begin_ t) p i).reverse ++ raisedBy (s.begin_ t) (577 + 2 * p) (i * 256) :=
    List.mem_append_left _ (List.mem_reverse.2 (by simp [limitShown]))
  refine sets_puts (exec_grantHoldLimit ..) (by rw [decide_eq_true hp, Bool.true_and]; exact hpresent) h hputs ?_
  rw [State.admitted, State.clientRed, hputs.holds _ hred]
  simp

end

/-! ## A transfer of tile ingest (R245, R252) -/

section
variable {s u : State} {p n c k x room held t : Nat} {raw : Bool} {rest items : List Item} {ws : List Want} {w : Want} {libero : Bool}

theorem ctx_setCtx (s : State) (c : Nat) (x : Ctx) : (s.setCtx c x).ctx c = x := get_put_self ..

theorem ring_setRing (s : State) (c : Nat) (raw : Bool) (r : RingSt) : (s.setRing c raw r).ring c raw = r := by
  rw [State.setRing, State.modCtx, State.ring, ctx_setCtx]
  cases raw <;> rfl

/-- The next item ends no line of the ring. -/
theorem takeMark_other (s : State) (h : endsLine c raw items = false) : s.takeMark c raw items = (s, items) := by
  cases items with
  | nil => rfl
  | cons i rest =>
    cases i with
    | word => rfl
    | mark c' raw' rec drop owed =>
      refine if_pos ?_
      simp only [endsLine, Bool.and_eq_false_iff, decide_eq_false_iff_not] at h
      simpa only [Bool.or_eq_true, decide_eq_true_eq] using h

/-- A full transfer of a ring's line, in the queue of its pseudo-channel. -/
def transferQueued (s : State) (p c : Nat) (raw : Bool) (k : Nat) (bs : List Byte) : State :=
  (s.enqueue p ⟨c, raw, k, s.lineAddr (s.ring c raw) k (s.ring c raw).fill, bs, true, s.clock⟩).setRing c raw
    { s.ring c raw with fill := (s.ring c raw).fill + bs.length, flush := false }

/-- A transfer of the words at the front of a writer's items, once their line has begun. -/
def moveWords (s : State) (p c : Nat) (raw : Bool) (k : Nat) (items : List Item) : Option (State × List Item) :=
  let r := s.ring c raw
  let room := 64 - (k % max 1 r.lines * r.lineBytes + r.fill) % 64
  let g := gather c raw k room items
  if r.skip || r.lineBytes - r.fill = 0 then some ((s.setRing c raw { r with flush := false }).takeMark c raw g.2)
  else if !(g.1.length ≥ room || endsLine c raw g.2 || r.flush) || pcOf s.masks (transferOf (s.lineAddr r k r.fill)) != p ||
      (s.pc p).wq.length ≥ 64 then none
  else some ((transferQueued s p c raw k (g.1.take (r.lineBytes - r.fill))).takeMark c raw g.2)

theorem moveTransfer_eq (s : State) (p : Nat) : s.moveTransfer p true (.word c raw k 2 x :: rest) =
    moveWords (if (s.ring c raw).begun then s else s.beginLine c raw k) p c raw k (.word c raw k 2 x :: rest) := rfl

theorem moveTransfer_word (s : State) (p : Nat) (hbegun : (s.ring c raw).begun = true) : s.moveTransfer p true (.word c raw k 2 x :: rest) =
    moveWords s p c raw k (.word c raw k 2 x :: rest) := by
  rw [moveTransfer_eq, if_pos hbegun]

theorem moveTransfer_full (hbegun : (s.ring c raw).begun = true) (hskip : (s.ring c raw).skip = false)
    (hroom : 64 - (k % max 1 (s.ring c raw).lines * (s.ring c raw).lineBytes + (s.ring c raw).fill) % 64 = room)
    (hfull : (gather c raw k room (.word c raw k 2 x :: rest)).1.length = room)
    (hfits : (s.ring c raw).fill + room ≤ (s.ring c raw).lineBytes)
    (hends : endsLine c raw (gather c raw k room (.word c raw k 2 x :: rest)).2 = false)
    (hpc : pcOf s.masks (transferOf (s.lineAddr (s.ring c raw) k (s.ring c raw).fill)) = p) (hspace : (s.pc p).wq.length < 64) :
    s.moveTransfer p true (.word c raw k 2 x :: rest) =
      some (transferQueued s p c raw k (gather c raw k room (.word c raw k 2 x :: rest)).1,
        (gather c raw k room (.word c raw k 2 x :: rest)).2) := by
  have hpos : 0 < room := by
    have hlt := Nat.mod_lt (k % max 1 (s.ring c raw).lines * (s.ring c raw).lineBytes + (s.ring c raw).fill) (show 0 < 64 by decide)
    omega
  rw [moveTransfer_word s p hbegun, moveWords]
  simp only [hroom]
  have hstored : ¬ ((s.ring c raw).skip || decide ((s.ring c raw).lineBytes - (s.ring c raw).fill = 0)) = true := by
    rw [hskip, Bool.false_or, decide_eq_true_eq]
    omega
  have hdue : ¬ (!(decide ((gather c raw k room (.word c raw k 2 x :: rest)).1.length ≥ room) ||
      endsLine c raw (gather c raw k room (.word c raw k 2 x :: rest)).2 || (s.ring c raw).flush) ||
      pcOf s.masks (transferOf (s.lineAddr (s.ring c raw) k (s.ring c raw).fill)) != p || decide ((s.pc p).wq.length ≥ 64)) = true := by
    rw [hfull, hpc, decide_eq_true (Nat.le_refl room), decide_eq_false (by omega : ¬ (s.pc p).wq.length ≥ 64)]
    simp
  rw [if_neg hstored, if_neg hdue, List.take_of_length_le (by omega), takeMark_other _ hends]

theorem transferQueued_facts (s : State) (p c : Nat) (raw : Bool) (k : Nat) (bs : List Byte) :
    ((transferQueued s p c raw k bs).pc p).wq =
      (s.pc p).wq ++ [⟨c, raw, k, s.lineAddr (s.ring c raw) k (s.ring c raw).fill, bs, true, s.clock⟩] ∧
    ((transferQueued s p c raw k bs).ring c raw).fill = (s.ring c raw).fill + bs.length := by
  have hqueued (r : RingSt) (e : WqEntry) : (((s.enqueue p e).setRing c raw r).pc p).wq = (s.pc p).wq ++ [e] :=
    congrArg Pc.wq (pc_setPc ..)
  exact ⟨hqueued .., congrArg RingSt.fill (ring_setRing ..)⟩

/-! ### What the objects shown afterwards leave -/

/-- States with the same tiles, contexts and pseudo-channels. -/
structure SameStore (u s : State) : Prop where
  tiles : u.tiles = s.tiles
  ctxs : u.ctxs = s.ctxs
  pcs : u.pcs = s.pcs

theorem SameStore.trans {u v s : State} (h : SameStore u v) (g : SameStore v s) : SameStore u s :=
  ⟨h.tiles.trans g.tiles, h.ctxs.trans g.ctxs, h.pcs.trans g.pcs⟩

theorem sameStore_set (s : State) (k v : Nat) : SameStore (s.set k v) s := ⟨set_tiles .., set_ctxs .., set_pcs ..⟩

theorem sameStore_raise (s : State) (n d : Nat) : SameStore (s.raise n d) s := ⟨raise_tiles .., raise_ctxs .., raise_pcs ..⟩

theorem sameStore_showFill (s : State) (n : Nat) : SameStore (s.showFill n) s := by
  unfold State.showFill
  extract_lets f u
  have hset : SameStore u s := sameStore_set ..
  split
  · exact (sameStore_set ..).trans hset
  · exact hset

theorem sameStore_showLag (s : State) (n : Nat) : SameStore (s.showLag n) s := by
  unfold State.showLag
  extract_lets slots lag far k was u
  have hset : SameStore u s := (sameStore_set ..).trans (sameStore_set ..)
  split
  · exact (sameStore_raise ..).trans hset
  · exact hset

theorem sameStore_showLags (s : State) : SameStore s.showLags s :=
  ⟨foldl_keeps State.tiles _ _ _ fun _ _ => (sameStore_showLag ..).tiles, foldl_keeps State.ctxs _ _ _ fun _ _ => (sameStore_showLag ..).ctxs,
    foldl_keeps State.pcs _ _ _ fun _ _ => (sameStore_showLag ..).pcs⟩

/-- A tile's buffer with the items that a transfer left. -/
def bufferLeft (s : State) (n : Nat) (items : List Item) : State := (s.modTile n (fun y => { y with buf := items })).showFill n

theorem bufferLeft_facts (s : State) (n : Nat) (items : List Item) : ((bufferLeft s n items).tile n).buf = items ∧
    (bufferLeft s n items).ctxs = s.ctxs ∧ (bufferLeft s n items).pcs = s.pcs := by
  have hshown := sameStore_showFill (s.modTile n (fun y => { y with buf := items })) n
  refine ⟨?_, hshown.ctxs, hshown.pcs⟩
  rw [bufferLeft, tile_of_tiles hshown.tiles, tile_modTile]

theorem moveWrite_ingest (hwaits : s.ingestWaits n = false) (h : s.moveTransfer p true (s.tile n).buf = some (u, items)) :
    s.moveWrite p (.ingest n) = bufferLeft u n items := by
  rw [State.moveWrite, hwaits, h]
  rfl

theorem arbGrant_ingests (hchoose : s.choose p ws = some (libero, w)) (haccess : w.access = .ingest n) :
    xArbGrant ⟨p, ws, held, false, 0, false⟩ s = ((granted s p held ws w libero).moveWrite p (.ingest n)).showLags := by
  unfold xArbGrant
  rw [hchoose, granted]
  simp only [haccess, isRead, Bool.false_eq_true, if_false]

/-! ### What a grant leaves of the store -/

/-- The hidden state that a grant leaves alone. -/
structure SameHidden (u s : State) : Prop where
  tiles : u.tiles = s.tiles
  ctxs : u.ctxs = s.ctxs
  swaps : u.swaps = s.swaps
  clock : u.clock = s.clock

theorem SameHidden.trans {u v s : State} (h : SameHidden u v) (g : SameHidden v s) : SameHidden u s :=
  ⟨h.tiles.trans g.tiles, h.ctxs.trans g.ctxs, h.swaps.trans g.swaps, h.clock.trans g.clock⟩

theorem sameHidden_tally (s : State) (k w n : Nat) : SameHidden (s.tally k w n) s :=
  ⟨tally_tiles .., tally_ctxs .., tally_swaps .., tally_clock ..⟩

theorem sameHidden_maxF32 (s : State) (k v : Nat) : SameHidden (s.maxF32 k v) s := by
  unfold State.maxF32
  split
  · exact ⟨set_tiles .., set_ctxs .., set_swaps .., set_clock ..⟩
  · exact ⟨rfl, rfl, rfl, rfl⟩

theorem sameHidden_countGrant (s : State) (p : Nat) (libero : Bool) (i : Nat) : SameHidden (s.countGrant p libero i) s := by
  have hmarked : SameHidden (grantMarked s p i) s := ⟨rfl, rfl, rfl, rfl⟩
  have hcounted := (sameHidden_tally _ (K.arbClientGrants i) 64 1).trans ((sameHidden_tally _ (K.arbPortGrants p) 64 1).trans hmarked)
  rw [countGrant_eq]
  cases libero
  · exact hcounted
  · exact (sameHidden_tally ..).trans hcounted

theorem sameHidden_granted (s : State) (p held : Nat) (ws : List Want) (w : Want) (libero : Bool) :
    SameHidden (granted s p held ws w libero) s := by
  have hwaits : SameHidden ((s.countGrant p libero w.client).setPc p (((s.countGrant p libero w.client).pc p).wait ws w.client))
      (s.countGrant p libero w.client) := ⟨rfl, rfl, rfl, rfl⟩
  exact (sameHidden_maxF32 ..).trans ((sameHidden_maxF32 ..).trans (hwaits.trans (sameHidden_countGrant ..)))

theorem granted_wq (s : State) (p held : Nat) (ws : List Want) (w : Want) (libero : Bool) :
    ((granted s p held ws w libero).pc p).wq = (s.pc p).wq := by
  rw [granted_pc, countGrant_pc]
  rfl

theorem granted_masks (s : State) (held : Nat) (ws : List Want) (libero : Bool) (hp : p < 32) (hi : w.client < 48) :
    (granted s p held ws w libero).masks = s.masks := by
  have hmasks {i b : Nat} (hb : b < 256) (hi : 0x5840 ≤ i) : K.storeMapMasks ≠ key i b := key_ne (by decide) hb (.inl (by omega))
  refine (puts_granted s ws hi).obj _ fun hm => ?_
  obtain h | hm := List.mem_cons.1 hm
  · exact hmasks (by decide) (by omega) h
  obtain h | hm := List.mem_cons.1 hm
  · exact hmasks (by decide) (by omega) h
  obtain h | h | h := grantCounts_keys _ _ _ hm <;> exact hmasks (by decide) (by omega) h

theorem ring_of_ctxs (h : u.ctxs = s.ctxs) (c : Nat) (raw : Bool) : u.ring c raw = s.ring c raw := by
  simp only [State.ring, State.ctx, h]

theorem ingestWaits_congr (hswaps : u.swaps = s.swaps) (htiles : u.tiles = s.tiles) (n : Nat) : u.ingestWaits n = s.ingestWaits n := by
  simp only [State.ingestWaits, State.tile, hswaps, htiles]

theorem lineAddr_congr (h : u.masks = s.masks) (r : RingSt) (k off : Nat) : u.lineAddr r k off = s.lineAddr r k off := by
  rw [State.lineAddr, h, State.lineAddr]

theorem ingest_completes (hp : p < 32) (hws : ∀ y ∈ ws, clientPresent s.variant y.client = true)
    (hchoose : s.choose p ws = some (libero, w)) (hheld : s.held = false) (haccess : w.access = .ingest n)
    (hwaits : s.ingestWaits n = false) (hbuf : (s.tile n).buf = .word c raw k 2 x :: rest)
    (hbegun : (s.ring c raw).begun = true) (hskip : (s.ring c raw).skip = false)
    (hroom : 64 - (k % max 1 (s.ring c raw).lines * (s.ring c raw).lineBytes + (s.ring c raw).fill) % 64 = room)
    (hfull : (gather c raw k room (s.tile n).buf).1.length = room) (hfits : (s.ring c raw).fill + room ≤ (s.ring c raw).lineBytes)
    (hends : endsLine c raw (gather c raw k room (s.tile n).buf).2 = false)
    (hpc : pcOf s.masks (transferOf (s.lineAddr (s.ring c raw) k (s.ring c raw).fill)) = p) (hspace : (s.pc p).wq.length < 64) :
    Completes (.arbGrant t ⟨p, ws, held, false, 0, false⟩) s
      (fun u => (u.tile n).buf = (gather c raw k room (s.tile n).buf).2 ∧
        (u.pc p).wq = (s.pc p).wq ++ [⟨c, raw, k, s.lineAddr (s.ring c raw) k (s.ring c raw).fill,
          (gather c raw k room (s.tile n).buf).1, true, max s.clock t⟩] ∧
        (u.ring c raw).fill = (s.ring c raw).fill + room) (fun _ => True) := by
  obtain ⟨-, hmem, -, -⟩ := choose_spec hchoose
  have hhidden := sameHidden_granted (s.begin_ t) p held ws w libero
  have hring : (granted (s.begin_ t) p held ws w libero).ring c raw = s.ring c raw := ring_of_ctxs hhidden.ctxs c raw
  have htile : (granted (s.begin_ t) p held ws w libero).tile n = s.tile n := tile_of_tiles hhidden.tiles n
  have hmasks : (granted (s.begin_ t) p held ws w libero).masks = s.masks := granted_masks (s.begin_ t) held ws libero hp (client_lt (hws w hmem))
  have hwq : ((granted (s.begin_ t) p held ws w libero).pc p).wq = (s.pc p).wq := granted_wq ..
  have hclock : (granted (s.begin_ t) p held ws w libero).clock = max s.clock t := hhidden.clock
  have haddr : (granted (s.begin_ t) p held ws w libero).lineAddr (s.ring c raw) k (s.ring c raw).fill =
      s.lineAddr (s.ring c raw) k (s.ring c raw).fill := lineAddr_congr hmasks ..
  have hwaits' : (granted (s.begin_ t) p held ws w libero).ingestWaits n = false :=
    (ingestWaits_congr hhidden.swaps hhidden.tiles n).trans hwaits
  rw [hbuf] at hfull hends ⊢
  have hmoved : (granted (s.begin_ t) p held ws w libero).moveTransfer p true ((granted (s.begin_ t) p held ws w libero).tile n).buf = some
      (transferQueued (granted (s.begin_ t) p held ws w libero) p c raw k (gather c raw k room (.word c raw k 2 x :: rest)).1,
        (gather c raw k room (.word c raw k 2 x :: rest)).2) := by
    rw [htile, hbuf]
    exact moveTransfer_full (by rwa [hring]) (by rwa [hring]) (by rwa [hring]) hfull (by rwa [hring]) hends (by rwa [hring, hmasks, haddr])
      (by rwa [hwq])
  have heffect := (arbGrant_ingests (held := held) (choose_begin hchoose t) haccess).trans
    (congrArg State.showLags (moveWrite_ingest hwaits' hmoved))
  obtain ⟨hleft, hctxs, hpcs⟩ := bufferLeft_facts
    (transferQueued (granted (s.begin_ t) p held ws w libero) p c raw k (gather c raw k room (.word c raw k 2 x :: rest)).1) n
    (gather c raw k room (.word c raw k 2 x :: rest)).2
  obtain ⟨hqueue, hfill⟩ := transferQueued_facts (granted (s.begin_ t) p held ws w libero) p c raw k
    (gather c raw k room (.word c raw k 2 x :: rest)).1
  have hshown := sameStore_showLags (bufferLeft
    (transferQueued (granted (s.begin_ t) p held ws w libero) p c raw k (gather c raw k room (.word c raw k 2 x :: rest)).1) n
    (gather c raw k room (.word c raw k 2 x :: rest)).2)
  refine completes_eventOf (exec_arbGrant ..) (grant_present hp hws) hheld ?_
  rw [heffect]
  refine ⟨?_, ?_, ?_⟩
  · rw [tile_of_tiles hshown.tiles]
    exact hleft
  · rw [pc_of_pcs (hshown.pcs.trans hpcs), hqueue, hwq, hring, haddr, hclock]
  · rw [ring_of_ctxs (hshown.ctxs.trans hctxs), hfill, hring, hfull]

end

/-- Settles O39: a grant goes by `choose`; what it counts are objects put one after another, and a full transfer of tile ingest
leaves its buffer for the queue. -/
theorem arbitrationGrants : Obligations.ArbitrationGrants := by
  unfold Obligations.ArbitrationGrants
  intro s t p held ws w libero hp hws hchoose
  obtain ⟨hturn, hmem, hadmitted, hbest⟩ := choose_spec hchoose
  refine ⟨⟨hturn, hmem, hadmitted, hbest⟩, fun h hread => readGrant_sets h hp hws hchoose hread,
    fun n c k v raw rest hheld haccess hwaits hbuf hbegun hskip hfull hfits hends hpc hspace =>
      ingest_completes hp hws hchoose hheld haccess hwaits hbuf hbegun hskip rfl hfull hfits hends hpc hspace,
    fun h => holdLimit_sets h hp (hws w hmem) hadmitted⟩

end Sys2Proof.Proofs
end

section
/-! # Reloading a sector (R315 to R319) -/

set_option Elab.async false

namespace Sys2Proof.Proofs

open Sys2Proof Sys2Proof.Machine Sys2Proof.Laws

/-! ## The objects of the configured sectors -/

/-- The keys of the objects of the sectors' configuration. -/
def SectorKey (k : Nat) : Prop := 0x604800 ≤ k ∧ k < 0x605000 ∧ k % 256 ≤ 6

/-- What keeps the objects of the sectors' configuration and the reload in hand. -/
structure KeepsSectors (u s : State) : Prop where
  obj : ∀ k, SectorKey k → u.obj k = s.obj k
  reload : u.reload = s.reload

section
variable {s u v : State} {k : Nat}

theorem KeepsSectors.refl (s : State) : KeepsSectors s s := ⟨fun _ _ => rfl, rfl⟩

theorem KeepsSectors.trans (h : KeepsSectors u v) (g : KeepsSectors v s) : KeepsSectors u s :=
  ⟨fun k hk => (h.obj k hk).trans (g.obj k hk), h.reload.trans g.reload⟩

theorem sectors_of_dict (hdict : u.dict = s.dict) (hvariant : u.variant = s.variant) (hreload : u.reload = s.reload) : KeepsSectors u s :=
  ⟨fun _ _ => by simp only [State.obj, hvariant, hdict], hreload⟩

theorem sectors_ite {c : Prop} [Decidable c] (h : KeepsSectors u s) (g : KeepsSectors v s) : KeepsSectors (if c then u else v) s := by
  split
  · exact h
  · exact g

theorem sectors_foldl {α : Type} (f : State → α → State) (xs : List α) (h : ∀ t, ∀ x ∈ xs, KeepsSectors (f t x) t) (s : State) :
    KeepsSectors (xs.foldl f s) s := by
  induction xs generalizing s with
  | nil => exact .refl s
  | cons x xs ih => exact (ih (fun t y hy => h t y (List.mem_cons_of_mem _ hy)) _).trans (h s x (List.mem_cons_self ..))

theorem sectors_set (s : State) (v : Nat) (h : ¬ SectorKey k) : KeepsSectors (s.set k v) s :=
  ⟨fun _ hi => obj_set_ne _ _ fun e => h (e ▸ hi), set_reload ..⟩

theorem not_sectorKey_low (h : k < 0x604800) : ¬ SectorKey k := fun hk => by
  obtain ⟨hlo, -, -⟩ := hk
  omega

theorem not_sectorKey_high (h : 0x605000 ≤ k) : ¬ SectorKey k := fun hk => by
  obtain ⟨-, hhi, -⟩ := hk
  omega

/-- The objects of a context that are not its first ones, whatever its number. -/
theorem not_sectorKey_sub {i b : Nat} (hb : b < 256) (h : 6 < b) : ¬ SectorKey (key i b) := fun hk => by
  obtain ⟨-, -, hsub⟩ := hk
  rw [key_mod hb] at hsub
  omega

theorem sectorKey_lt (h : SectorKey k) : k < 0x700000 := h.2.1.trans (by decide)

theorem sectors_raise (s : State) (n d : Nat) : KeepsSectors (s.raise n d) s :=
  ⟨fun _ hk => obj_raise_of_lt _ _ _ (sectorKey_lt hk), raise_reload ..⟩

theorem sectors_modCtx (s : State) (c : Nat) (f : Ctx → Ctx) : KeepsSectors (s.modCtx c f) s := sectors_of_dict rfl rfl rfl

theorem sectors_modTile (s : State) (n : Nat) (f : Tile → Tile) : KeepsSectors (s.modTile n f) s := sectors_of_dict rfl rfl rfl

theorem sectors_modChain (s : State) (i : Nat) (f : Chain → Chain) : KeepsSectors (s.modChain i f) s := sectors_of_dict rfl rfl rfl

theorem sectors_setRing (s : State) (c : Nat) (raw : Bool) (r : RingSt) : KeepsSectors (s.setRing c raw r) s := sectors_of_dict rfl rfl rfl

theorem sectors_putMoves (s : State) (ms : List Move) : KeepsSectors (s.putMoves ms) s := sectors_of_dict rfl rfl rfl

theorem sectors_putSwaps (s : State) (ws : List Swap) : KeepsSectors (s.putSwaps ws) s := sectors_of_dict rfl rfl rfl

theorem sectors_force1 (s : State) (v : Nat) (h : k < 0x604800) : KeepsSectors (s.force1 k v) s :=
  (sectors_set _ v (not_sectorKey_low h)).trans (sectors_of_dict rfl rfl rfl)

/-! ## Moves and substitutions that wait -/

theorem sectors_pumpMovesFrom (s : State) (ms : List Move) : KeepsSectors (s.pumpMovesFrom ms) s := by
  induction ms generalizing s with
  | nil => exact .refl s
  | cons m ms ih =>
    rw [State.pumpMovesFrom]
    split
    · split
      · exact (ih _).trans (sectors_putMoves ..)
      · exact (ih _).trans (sectors_putMoves ..)
    · exact ih s

theorem sectors_pumpMoves (s : State) : KeepsSectors s.pumpMoves s := sectors_pumpMovesFrom ..

theorem sectors_queueMove (s : State) (j : Nat) : KeepsSectors (s.queueMove j) s := (sectors_pumpMoves _).trans (sectors_putMoves ..)

theorem sectors_loseSource (s : State) (c cause : Nat) : KeepsSectors (s.loseSource c cause) s := by
  have hcause (t : State) : KeepsSectors (t.set (K.ctxCause c) cause) t := sectors_set _ _ (not_sectorKey_sub (by decide) (by decide))
  unfold State.loseSource
  extract_lets st
  exact sectors_ite (sectors_modCtx ..) (sectors_ite ((hcause _).trans (sectors_modCtx ..))
    (sectors_ite ((hcause _).trans (sectors_modCtx ..)) (.refl s)))

theorem sectors_setSwapState (s : State) (cs : List Nat) (x : Nat) : KeepsSectors (s.setSwapState cs x) s :=
  sectors_foldl _ _ (fun _ _ _ => sectors_set _ _ (not_sectorKey_sub (by decide) (by decide))) _

end

/-! ## What changes the objects of the tiles alone -/

/-- What changes nothing but the objects of the tiles and their hidden state. -/
structure InTiles (u s : State) : Prop where
  obj : ∀ k, k < 0x300000 ∨ 0x400000 ≤ k → u.obj k = s.obj k
  reload : u.reload = s.reload
  ctxs : u.ctxs = s.ctxs
  swaps : u.swaps = s.swaps
  plan : u.plan = s.plan
  defects : u.defects = s.defects
  variant : u.variant = s.variant
  clock : u.clock = s.clock

section
variable {s u v : State} {k n : Nat}

theorem InTiles.refl (s : State) : InTiles s s := ⟨fun _ _ => rfl, rfl, rfl, rfl, rfl, rfl, rfl, rfl⟩

theorem InTiles.trans (h : InTiles u v) (g : InTiles v s) : InTiles u s :=
  ⟨fun k hk => (h.obj k hk).trans (g.obj k hk), h.reload.trans g.reload, h.ctxs.trans g.ctxs, h.swaps.trans g.swaps, h.plan.trans g.plan,
    h.defects.trans g.defects, h.variant.trans g.variant, h.clock.trans g.clock⟩

theorem InTiles.sectors (h : InTiles u s) : KeepsSectors u s :=
  ⟨fun k hk => h.obj k (.inr ((by decide : 0x400000 ≤ 0x604800).trans hk.1)), h.reload⟩

theorem inTiles_of_dict (hdict : u.dict = s.dict) (hvariant : u.variant = s.variant) (hreload : u.reload = s.reload)
    (hctxs : u.ctxs = s.ctxs) (hswaps : u.swaps = s.swaps) (hplan : u.plan = s.plan) (hdefects : u.defects = s.defects)
    (hclock : u.clock = s.clock) : InTiles u s :=
  ⟨fun _ _ => by simp only [State.obj, hvariant, hdict], hreload, hctxs, hswaps, hplan, hdefects, hvariant, hclock⟩

theorem inTiles_ite {c : Prop} [Decidable c] (h : InTiles u s) (g : InTiles v s) : InTiles (if c then u else v) s := by
  split
  · exact h
  · exact g

theorem inTiles_foldl {α : Type} (f : State → α → State) (xs : List α) (h : ∀ t, ∀ x ∈ xs, InTiles (f t x) t) (s : State) :
    InTiles (xs.foldl f s) s := by
  induction xs generalizing s with
  | nil => exact .refl s
  | cons x xs ih => exact (ih (fun t y hy => h t y (List.mem_cons_of_mem _ hy)) _).trans (h s x (List.mem_cons_self ..))

/-- One more object of a tile takes a value. -/
theorem InTiles.set (h : InTiles u s) (i b x : Nat) (hi : 0x3000 ≤ i ∧ i < 0x4000) (hb : b < 256) : InTiles (u.set (key i b) x) s := by
  have hkey : 0x300000 ≤ key i b ∧ key i b < 0x400000 := by
    simp only [key]
    omega
  refine InTiles.trans ⟨fun k hk => obj_set_ne _ _ fun e => ?_, set_reload .., set_ctxs .., set_swaps .., set_plan .., set_defects ..,
    set_variant .., set_clock ..⟩ h
  omega

theorem InTiles.force1 (h : InTiles u s) (i b x : Nat) (hi : 0x3000 ≤ i ∧ i < 0x4000) (hb : b < 256) : InTiles (u.force1 (key i b) x) s :=
  have hsettled : InTiles (u.settle (key i b)) u := inTiles_of_dict rfl rfl rfl rfl rfl rfl rfl rfl
  (hsettled.trans h).set i b x hi hb

theorem inTiles_draw (s : State) (m : Nat) : InTiles (s.draw m).2 s := inTiles_of_dict rfl rfl rfl rfl rfl rfl rfl rfl

theorem inTiles_modTile (s : State) (m : Nat) (f : Tile → Tile) : InTiles (s.modTile m f) s := inTiles_of_dict rfl rfl rfl rfl rfl rfl rfl rfl

theorem inTiles_reportBiquad (s : State) (hn : n < 256) : InTiles (s.reportBiquad n) s := by
  unfold State.reportBiquad
  extract_lets f r u
  have hdrawn : InTiles r.2 s := inTiles_draw s 2
  have hreal : InTiles u s := hdrawn.set (0x3002 + 16 * n) 0x04 _ (by omega) (by decide)
  exact hreal.set (0x3002 + 16 * n) 0x05 _ (by omega) (by decide)

/-- Values of objects of a tile, each by its index, its subindex and itself, put in force. -/
def forceAll (n : Nat) (s : State) (vs : List (Nat × Nat × Nat)) : State := vs.foldl (fun t e => t.force1 (key (e.1 + 16 * n) e.2.1) e.2.2) s

theorem InTiles.forceAll (h : InTiles u s) (hn : n < 256) (vs : List (Nat × Nat × Nat))
    (hvs : ∀ e ∈ vs, 0x3000 ≤ e.1 ∧ e.1 < 0x3010 ∧ e.2.1 < 256) : InTiles (Proofs.forceAll n u vs) s :=
  (inTiles_foldl _ vs (fun t e he => by
    obtain ⟨hlo, hhi, hb⟩ := hvs e he
    exact (InTiles.refl t).force1 _ _ _ (by omega) hb) u).trans h

/-- The values that a front end's setting gives to a half of a tile. -/
def feHalf (half fe : Nat) : List (Nat × Nat × Nat) :=
  let f := feField fe
  if half = 1 then [(0x3000, 0x0A, f 0 1), (0x3000, 0x0B, f 1 1), (0x3000, 0x0C, f 2 2), (0x3002, 0x06, f 8 4)]
  else [(0x3000, 0x02, f 0 1), (0x3000, 0x03, f 1 1), (0x3000, 0x04, f 2 2), (0x3002, 0x02, f 8 4)]

/-- The values that it gives to both halves. -/
def feBoth (fe : Nat) : List (Nat × Nat × Nat) :=
  let f := feField fe
  [(0x3000, 0x05, f 4 1), (0x3000, 0x06, f 5 1), (0x3002, 0x01, f 6 1), (0x3002, 0x03, f 12 4), (0x3001, 0x01, f 16 2), (0x3001, 0x02, f 18 2),
    (0x3001, 0x03, f 20 2), (0x3001, 0x04, f 22 2), (0x3001, 0x05, f 24 2), (0x3001, 0x06, f 26 1), (0x3001, 0x08, f 27 1),
    (0x3001, 0x07, f 28 2)]

theorem writeFe_eq (s : State) (n half fe : Nat) : s.writeFe n half fe = forceAll n (forceAll n s (feHalf half fe)) (feBoth fe) := by
  unfold State.writeFe feHalf
  split <;> rfl

theorem inTiles_writeFe (s : State) (hn : n < 256) (half fe : Nat) : InTiles (s.writeFe n half fe) s := by
  have hhalf : ∀ e ∈ feHalf half fe, 0x3000 ≤ e.1 ∧ e.1 < 0x3010 ∧ e.2.1 < 256 := by
    unfold feHalf
    split <;> simp
  rw [writeFe_eq]
  exact ((InTiles.refl s).forceAll hn _ hhalf).forceAll hn _ (by simp [feBoth])

theorem inTiles_writeAdc (s : State) (hn : n < 256) (d : Node) (div phase : Nat) : InTiles (s.writeAdc n d div phase) s := by
  unfold State.writeAdc
  extract_lets osr fs valid timed phased
  have hvalid : InTiles valid s := inTiles_ite (.refl s) ((InTiles.refl s).set (0x300E + 16 * n) 0x02 _ (by omega) (by decide))
  have htimed : InTiles timed s := ((hvalid.set (0x3008 + 16 * n) 0x01 _ (by omega) (by decide)).set (0x3008 + 16 * n) 0x02 _ (by omega)
    (by decide)).set (0x3008 + 16 * n) 0x03 _ (by omega) (by decide)
  have hphased : InTiles phased s := ((htimed.set (0x3008 + 16 * n) 0x04 _ (by omega) (by decide)).set (0x3008 + 16 * n) 0x05 _ (by omega)
    (by decide)).force1 (0x3008 + 16 * n) 0x06 _ (by omega) (by decide)
  exact hphased.set (0x3008 + 16 * n) 0x0A _ (by omega) (by decide)

theorem inTiles_writeScan (s : State) (hn : n < 256) (g : List Node) : InTiles (s.writeScan n g) s := by
  unfold State.writeScan
  extract_lets table start cycle
  have htable : InTiles table s := (((InTiles.refl s).set (0x3004 + 16 * n) 0x01 _ (by omega) (by decide)).set (0x3004 + 16 * n) 0x02 _
    (by omega) (by decide)).force1 (0x3004 + 16 * n) 0x05 _ (by omega) (by decide)
  have hcycle : InTiles cycle s := (htable.set (0x3004 + 16 * n) 0x03 _ (by omega) (by decide)).set (0x3004 + 16 * n) 0x04 _ (by omega) (by decide)
  exact hcycle.set (0x3006 + 16 * n) 0x01 _ (by omega) (by decide)

theorem inTiles_writeTile (s : State) (hn : n < 256) (half c div phase : Nat) : InTiles (s.writeTile n half c div phase) s := by
  unfold State.writeTile
  extract_lets d form fe adc report g
  clear_value d
  have hform : InTiles form s := (InTiles.refl s).set (0x3000 + 16 * n) 0x01 _ (by omega) (by decide)
  have hfe : InTiles fe s := (inTiles_writeFe form hn half d.fe).trans hform
  have hadc : InTiles adc s := inTiles_ite hfe ((inTiles_writeAdc fe hn d div phase).trans hfe)
  have hreport : InTiles report s := (inTiles_reportBiquad adc hn).trans hadc
  clear_value report g
  have hpartner (x : Nat) : InTiles (report.set (K.tileRoutePartner n) x) s := hreport.set (0x3003 + 16 * n) 0x03 x (by omega) (by decide)
  exact inTiles_ite (inTiles_ite ((inTiles_writeScan report hn g).trans hreport) hreport) (hpartner _)

theorem inTiles_copyMonitors (s : State) (old : Nat) (hn : n < 256) : InTiles (s.copyMonitors old n) s := by
  unfold State.copyMonitors
  extract_lets move copied tabled
  have hmove (t : State) (a i b : Nat) (hi : 0x3000 ≤ i ∧ i < 0x4000) (hb : b < 256) : InTiles (move t a (key i b)) t :=
    (InTiles.refl t).set i b _ hi hb
  have hcopied : InTiles copied s := by
    refine inTiles_foldl _ _ (fun t i hi => ?_) s
    have hi : i < 2 := List.mem_range.1 hi
    refine inTiles_foldl _ _ (fun v b hb => hmove _ _ _ _ (by omega) ?_) t
    simp only [List.mem_cons, List.not_mem_nil, or_false] at hb
    omega
  clear_value copied
  have htabled : InTiles tabled s := by
    refine InTiles.trans ?_ hcopied
    unfold tabled
    split <;> exact inTiles_of_dict rfl rfl rfl rfl rfl rfl rfl rfl
  exact (hmove _ _ (0x300F + 16 * n) 0x02 (by omega) (by decide)).trans htabled

end

/-! ## Substitutions that wait -/

section
variable {s u v : State} {k n : Nat}

theorem eligible_lt {taken : Nat → Bool} {b : Bool} {t : Nat} (h : s.eligible taken b t = true) : t < 256 := by
  simp only [State.eligible, Bool.and_eq_true, decide_eq_true_eq] at h
  have hcount := tileCount_le s.variant
  omega

theorem eligiblePair_lt {taken : Nat → Bool} {b : Bool} {t : Nat} (h : s.eligiblePair taken b t = true) : t + 1 < 256 := by
  rw [State.eligiblePair, Bool.and_eq_true] at h
  exact eligible_lt h.2

theorem spareFits_lt {pad t : Nat} {paired : Bool} (h : s.spareFits pad t paired = true) : t < 256 ∧ (paired = true → t + 1 < 256) := by
  cases paired <;> simp only [State.spareFits, Bool.and_eq_true, if_true, Bool.false_eq_true, if_false] at h
  · exact ⟨eligible_lt h.2, fun hp => absurd hp (by decide)⟩
  · have hlt := eligiblePair_lt h.2.2
    exact ⟨by omega, fun _ => hlt⟩

theorem chooseSpare_lt {pad t : Nat} {paired : Bool} (h : s.chooseSpare pad paired = some t) : t < 256 ∧ (paired = true → t + 1 < 256) := by
  unfold State.chooseSpare at h
  split at h
  · have hlt := eligiblePair_lt (List.find?_some h)
    exact ⟨by omega, fun _ => hlt⟩
  next hpaired => exact ⟨eligible_lt (List.find?_some h), fun hp => absurd hp hpaired⟩

/-- The spare that a substitution would take. -/
def pickSpare (s : State) (w : Swap) : Option Nat :=
  let pad := (s.tileCtxs w.old).foldl (fun a c => min a (s.padOf c)) 255
  if w.asked ≠ 0xFFFF && w.tries = 0 then (if s.spareFits pad w.asked (s.adcMode w.old == 3) then some w.asked else none)
  else s.chooseSpare pad (s.adcMode w.old == 3)

theorem pickSpare_lt {w : Swap} {t : Nat} (h : pickSpare s w = some t) : t < 256 ∧ ((s.adcMode w.old == 3) = true → t + 1 < 256) := by
  unfold pickSpare at h
  extract_lets pad at h
  split at h
  · split at h
    next hfits =>
      cases h
      exact spareFits_lt hfits
    · cases h
  · exact chooseSpare_lt h

/-- A substitution's record takes its spare. -/
def spareNoted (s : State) (w : Swap) (t : Nat) : State := s.setSwap w.old (fun x => { x with spare := t, step := 2, tries := w.tries + 1 })

/-- The contexts of a substitution show the spare. -/
def spareShown (s : State) (w : Swap) (t : Nat) : State :=
  ((s.tileCtxs w.old).foldl (fun st c => st.set (K.ctxSwapTile c) t) (spareNoted s w t)).setSwapState (s.tileCtxs w.old) 1

/-- A substitution has its spare. -/
def spareTaken (s : State) (w : Swap) (t : Nat) : State := (spareShown s w t).writeSpare w.old t

/-- A substitution has found no spare. -/
def spareless (s : State) (w : Swap) : State :=
  let cs := s.tileCtxs w.old
  (cs.foldl (fun st c => st.loseSource c (if w.tries = 0 then 1 else 2)) ((s.dropSwap w.old).setSwapState cs 6)).raise 759 (cs.headD 0)

theorem reserveSpare_eq (s : State) (w : Swap) : s.reserveSpare w = (pickSpare s w).elim (spareless s w) (fun t =>
    (if s.adcMode w.old == 3 then [(w.old, t), (w.old + 1, t + 1)] else [(w.old, t)]).foldl (fun st m => st.copyMonitors m.1 m.2)
      (spareTaken s w t)) := by
  unfold State.reserveSpare
  extract_lets cs pad paired pick
  have hpick : pick = pickSpare s w := rfl
  rw [hpick]
  cases pickSpare s w <;> rfl

theorem inTiles_writeSpare (s : State) (old : Nat) {t : Nat} (ht : t < 256) (hpair : (s.adcMode old == 3) = true → t + 1 < 256) :
    InTiles (s.writeSpare old t) s := by
  unfold State.writeSpare
  extract_lets cs div paired
  refine inTiles_foldl _ _ (fun st c _ => ?_) s
  extract_lets ph written
  have hwritten : InTiles written st := inTiles_writeTile st ht ..
  clear_value written
  split
  next hp => exact (inTiles_writeTile written (hpair hp) ..).trans hwritten
  · exact hwritten

theorem sectors_spareNoted (s : State) (w : Swap) (t : Nat) : KeepsSectors (spareNoted s w t) s := sectors_of_dict rfl rfl rfl

theorem sectors_spareless (s : State) (w : Swap) : KeepsSectors (spareless s w) s := by
  have hshown : KeepsSectors (s.dropSwap w.old) s :=
    (sectors_set _ _ (not_sectorKey_low (by decide : K.placerSwapsActive < _))).trans (sectors_putSwaps ..)
  exact (sectors_raise ..).trans ((sectors_foldl _ _ (fun _ _ _ => sectors_loseSource ..) _).trans ((sectors_setSwapState ..).trans hshown))

theorem spareShown_adcMode (s : State) (w : Swap) (t n : Nat) : (spareShown s w t).adcMode n = s.adcMode n := by
  have hne {c b : Nat} (hb : b < 256) (hsub : b ≠ 1) : K.tileAdcMode n ≠ key (0x4000 + c) b := key_ne (by decide) hb (.inr hsub.symm)
  have hswap (u : State) (cs : List Nat) : (cs.foldl (fun st c => st.set (K.ctxSwapTile c) t) u).obj (K.tileAdcMode n) = u.obj (K.tileAdcMode n) :=
    foldl_keeps (·.obj (K.tileAdcMode n)) _ _ _ fun _ _ => obj_set_ne _ _ (hne (by decide) (by decide))
  have hstate (u : State) (cs : List Nat) : (u.setSwapState cs 1).obj (K.tileAdcMode n) = u.obj (K.tileAdcMode n) :=
    foldl_keeps (·.obj (K.tileAdcMode n)) _ _ _ fun _ _ => obj_set_ne _ _ (hne (by decide) (by decide))
  exact (hstate ..).trans (hswap ..)

theorem sectors_spareShown (s : State) (w : Swap) (t : Nat) : KeepsSectors (spareShown s w t) s :=
  (sectors_setSwapState ..).trans ((sectors_foldl _ _ (fun _ _ _ => sectors_set _ _ (not_sectorKey_sub (by decide) (by decide))) _).trans
    (sectors_spareNoted ..))

/-- A spare that has been found is written as the tile that it replaces. -/
theorem inTiles_spareWritten (s : State) (w : Swap) {t : Nat} (ht : t < 256) (hpair : (s.adcMode w.old == 3) = true → t + 1 < 256) :
    InTiles ((if s.adcMode w.old == 3 then [(w.old, t), (w.old + 1, t + 1)] else [(w.old, t)]).foldl (fun st m => st.copyMonitors m.1 m.2)
      (spareTaken s w t)) (spareShown s w t) := by
  have htaken : InTiles (spareTaken s w t) (spareShown s w t) := inTiles_writeSpare _ _ ht (by rwa [spareShown_adcMode])
  refine (inTiles_foldl _ _ (fun v m hm => inTiles_copyMonitors v m.1 ?_) _).trans htaken
  split at hm
  next hp =>
    obtain rfl | rfl := List.mem_pair.1 hm
    · exact ht
    · exact hpair hp
  · rw [List.mem_singleton.1 hm]
    exact ht

theorem sectors_reserveSpare (s : State) (w : Swap) : KeepsSectors (s.reserveSpare w) s := by
  rw [reserveSpare_eq]
  cases hpick : pickSpare s w with
  | none => exact sectors_spareless ..
  | some t =>
    obtain ⟨ht, hpair⟩ := pickSpare_lt hpick
    exact (inTiles_spareWritten s w ht hpair).sectors.trans (sectors_spareShown ..)

theorem sectors_pumpSwapsFrom (s : State) (ws : List Swap) : KeepsSectors (s.pumpSwapsFrom ws) s := by
  induction ws generalizing s with
  | nil => exact .refl s
  | cons w ws ih =>
    rw [State.pumpSwapsFrom]
    split
    · exact (ih _).trans (sectors_reserveSpare ..)
    · exact ih s

theorem sectors_pumpSwaps (s : State) : KeepsSectors s.pumpSwaps s := sectors_pumpSwapsFrom ..

end

end Sys2Proof.Proofs
end

section
/-! # The steps of a reload (R315 to R319) -/

set_option Elab.async false

namespace Sys2Proof.Proofs

open Sys2Proof Sys2Proof.Machine Sys2Proof.Laws

section
variable {s u v : State} {q k n t : Nat}

/-! ## What the freeze and the release leave of the sectors' objects -/

theorem sectors_leaveRings (s : State) (j x : Nat) : KeepsSectors (s.leaveRings j x) s :=
  sectors_foldl _ _ (fun _ _ _ => sectors_setRing ..) _

theorem sectors_joinRings (s : State) (j x : Nat) : KeepsSectors (s.joinRings j x) s :=
  (sectors_foldl _ _ (fun _ _ _ => sectors_setRing ..) _).trans (sectors_leaveRings ..)

theorem sectors_setCellReaders (s : State) (q : Nat) (live : Bool) : KeepsSectors (s.setCellReaders q live) s :=
  sectors_foldl _ _ (fun _ _ _ => sectors_ite (sectors_joinRings ..) (sectors_leaveRings ..)) _

theorem inTiles_setSel (s : State) (hn : n < 256) (half bus : Nat) : InTiles (s.setSel n half bus) s := by
  unfold State.setSel
  split
  · exact (InTiles.refl s).set (0x3003 + 16 * n) 0x02 _ (by omega) (by decide)
  · exact (InTiles.refl s).set (0x3003 + 16 * n) 0x01 _ (by omega) (by decide)

theorem inTiles_showBus (s : State) (hn : n < 256) : InTiles (s.showBus n) s :=
  inTiles_ite (.refl s) ((InTiles.refl s).set (0x3007 + 16 * n) 0x04 _ (by omega) (by decide))

theorem inTiles_setEntry (s : State) (hn : n < 256) (x : Nat) : InTiles (s.setEntry n x) s :=
  (inTiles_showBus _ hn).trans ((InTiles.refl s).set (0x3007 + 16 * n) 0x01 _ (by omega) (by decide))

/-- A tile of a sector that freezes is cut off. -/
def isolated (s : State) (n : Nat) : State :=
  (((s.setSel n 0 0xFF).setSel n 1 0xFF).setEntry n 0).modTile n (fun x => { x with isolated := withBit x.isolated 2 true })

theorem inTiles_isolated (s : State) (hn : n < 256) : InTiles (isolated s n) s :=
  (inTiles_modTile ..).trans ((inTiles_setEntry _ hn _).trans ((inTiles_setSel _ hn ..).trans (inTiles_setSel _ hn ..)))

theorem isolate_eq (s : State) (q : Nat) : s.isolate q = (List.range 64).foldl (fun st i => isolated st (64 * q + i)) s := rfl

theorem inTiles_isolate (s : State) (hq : q < 4) : InTiles (s.isolate q) s := by
  rw [isolate_eq]
  exact inTiles_foldl _ _ (fun t i hi => inTiles_isolated t (by have := List.mem_range.1 hi; omega)) s

/-- A tile that is cut off. -/
def CutOff (s : State) (n : Nat) : Prop := s.obj (K.tileRouteSel n) = 0xFF ∧ s.obj (K.tilePadEntry n) = 0

theorem obj_showBus (s : State) (n : Nat) {i : Nat} (h : i ≠ K.tilePadBus n) : (s.showBus n).obj i = s.obj i := by
  unfold State.showBus
  split
  · rfl
  · exact obj_set_ne _ _ h

theorem obj_isolated (s : State) (n k : Nat) (h : k ≠ K.tilePadBus n) : (isolated s n).obj k =
    (((s.set (K.tileRouteSel n) 0xFF).set (K.tileRouteSelB n) 0xFF).set (K.tilePadEntry n) 0).obj k := obj_showBus _ _ h

theorem isolated_cutOff (s : State) (n : Nat) : CutOff (isolated s n) n := by
  have hsel : K.tileRouteSel n ≠ K.tilePadBus n := key_ne (by decide) (by decide) (.inr (by decide))
  have hsel' : K.tileRouteSel n ≠ K.tilePadEntry n := key_ne (by decide) (by decide) (.inl (by omega))
  have hselB : K.tileRouteSel n ≠ K.tileRouteSelB n := key_ne (by decide) (by decide) (.inr (by decide))
  have hentry : K.tilePadEntry n ≠ K.tilePadBus n := key_ne (by decide) (by decide) (.inr (by decide))
  refine ⟨?_, (obj_isolated _ _ _ hentry).trans (obj_set_self ..)⟩
  rw [obj_isolated _ _ _ hsel, obj_set_ne _ _ hsel', obj_set_ne _ _ hselB, obj_set_self]

theorem isolated_other (s : State) {m : Nat} (hne : n ≠ m) (h : CutOff s n) : CutOff (isolated s m) n := by
  have hkey {i j b b' : Nat} (hb : b < 256) (hb' : b' < 256) (hi : i < 16) (hj : j < 16) : key (0x3000 + i + 16 * n) b ≠ key (0x3000 + j + 16 * m) b' :=
    key_ne hb hb' (.inl (by omega))
  have hkept {i b : Nat} (hi : i < 16) (hb : b < 256) : (isolated s m).obj (key (0x3000 + i + 16 * n) b) = s.obj (key (0x3000 + i + 16 * n) b) :=
    (obj_isolated _ _ _ (hkey (j := 7) hb (by decide) hi (by decide))).trans ((obj_set_ne _ _ (hkey (j := 7) hb (by decide) hi (by decide))).trans
      ((obj_set_ne _ _ (hkey (j := 3) hb (by decide) hi (by decide))).trans (obj_set_ne _ _ (hkey (j := 3) hb (by decide) hi (by decide)))))
  exact ⟨(hkept (i := 3) (by decide) (by decide)).trans h.1, (hkept (i := 7) (by decide) (by decide)).trans h.2⟩

theorem isolate_cutOff (s : State) (q : Nat) {i : Nat} (hi : i < 64) : CutOff (s.isolate q) (64 * q + i) := by
  rw [isolate_eq]
  exact foldl_establishes (P := fun i u => CutOff u (64 * q + i)) (fun t n => isolated_cutOff t (64 * q + n))
    (fun t n m hne h => isolated_other (n := 64 * q + n) (m := 64 * q + m) t (by omega) h) _ s (List.mem_range.2 hi)

/-! ### The slots of a sector -/

/-- What changes nothing but the objects of the engines and their hidden state. -/
structure InEngines (u s : State) : Prop where
  obj : ∀ k, k < 0x480000 ∨ 0x490000 ≤ k → u.obj k = s.obj k
  reload : u.reload = s.reload

theorem InEngines.refl (s : State) : InEngines s s := ⟨fun _ _ => rfl, rfl⟩

theorem InEngines.trans (h : InEngines u v) (g : InEngines v s) : InEngines u s :=
  ⟨fun k hk => (h.obj k hk).trans (g.obj k hk), h.reload.trans g.reload⟩

theorem InEngines.sectors (h : InEngines u s) : KeepsSectors u s :=
  ⟨fun k hk => h.obj k (.inr ((by decide : 0x490000 ≤ 0x604800).trans hk.1)), h.reload⟩

theorem inEngines_set (s : State) (i b x : Nat) (hi : 0x4800 ≤ i ∧ i < 0x4900) (hb : b < 256) : InEngines (s.set (key i b) x) s := by
  have hkey : 0x480000 ≤ key i b ∧ key i b < 0x490000 := by
    simp only [key]
    omega
  exact ⟨fun k hk => obj_set_ne _ _ fun e => by omega, set_reload ..⟩

theorem inEngines_count (s : State) (i b w x : Nat) (hi : 0x4800 ≤ i ∧ i < 0x4900) (hb : b < 256) : InEngines (s.count (key i b) w x) s :=
  inEngines_set s i b _ hi hb

theorem inEngines_modChain (s : State) (i : Nat) (f : Chain → Chain) : InEngines (s.modChain i f) s :=
  ⟨fun _ _ => rfl, rfl⟩

theorem inEngines_showPriming (s : State) (hn : n < 64) : InEngines (s.showPriming n) s :=
  inEngines_set s (0x4800 + 2 * n) 0x02 _ (by omega) (by decide)

theorem inEngines_primeNext (s : State) (hn : n < 64) : InEngines (s.primeNext n) s := by
  unfold State.primeNext
  split
  · exact .refl s
  split
  next j hj =>
    have hlt : j < 16 := List.mem_range.1 (List.mem_of_find?_eq_some hj)
    have hprimes (u : State) : InEngines (u.count (K.fePrimes n) 32 1) u := inEngines_count u (0x4800 + 2 * n) 0x08 32 1 (by omega) (by decide)
    have hstate : InEngines (s.set (K.feSlotState n j) 3) s := inEngines_set s (0x4801 + 2 * n) (0x11 + 8 * j) 3 (by omega) (by omega)
    exact (inEngines_showPriming _ hn).trans ((hprimes _).trans hstate)
  · exact inEngines_showPriming _ hn

theorem inEngines_slotState (s : State) {i : Nat} (hi : i < 1024) (x : Nat) : InEngines (s.set (slotKey K.feSlotState i) x) s :=
  inEngines_set s (0x4801 + 2 * (i / 16)) (0x11 + 8 * (i % 16)) x (by omega) (by omega)

theorem inEngines_holdSlot (s : State) {i : Nat} (hi : i < 1024) : InEngines (s.holdSlot i) s :=
  (inEngines_primeNext _ (by omega)).trans ((inEngines_modChain ..).trans (inEngines_slotState s hi 5))

theorem inEngines_foldl {α : Type} (f : State → α → State) (xs : List α) (h : ∀ t, ∀ x ∈ xs, InEngines (f t x) t) (s : State) :
    InEngines (xs.foldl f s) s := by
  induction xs generalizing s with
  | nil => exact .refl s
  | cons x xs ih => exact (ih (fun t y hy => h t y (List.mem_cons_of_mem _ hy)) _).trans (h s x (List.mem_cons_self ..))

/-- The slots of a sector that contexts use are held. -/
def slotsHeld (s : State) (q : Nat) (cs : List Nat) : State :=
  cs.foldl (fun st c => match st.slotOf c with
    | some i => if i / 256 = q then st.holdSlot i else st
    | none => st) s

theorem inEngines_slotsHeld (s : State) (hq : q < 4) (cs : List Nat) : InEngines (slotsHeld s q cs) s := by
  refine inEngines_foldl _ _ (fun t c _ => ?_) s
  split
  next i _ =>
    split
    next hi => exact inEngines_holdSlot t (by omega)
    · exact .refl t
  · exact .refl t

/-! ### The freeze -/

/-- The lines that the freeze meets are cut. -/
def linesCut (s : State) (q : Nat) : State :=
  (s.affected q).foldl (fun st c => (st.cutLine c).modCtx c (fun x => { x with freeze := true })) s

/-- A sector reads FROZEN from now. -/
def frozenShown (s : State) (q : Nat) : State := (s.set (K.configSectorState q) 3).set (K.configSectorFrozenFrom q) s.now

theorem freezeSector_eq (s : State) (q : Nat) : s.freezeSector q =
    slotsHeld (((frozenShown (linesCut s q) q).setCellReaders q false).isolate q) q (s.affected q) := by
  unfold State.freezeSector slotsHeld
  rfl

theorem sectorKey_config {b : Nat} (hq : q < 4) (hb : b ≤ 6) : SectorKey (key (0x6048 + q) b) := by
  refine ⟨?_, ?_, ?_⟩ <;> simp only [key] <;> omega

theorem freezeSector_shows (hq : q < 4) : (s.freezeSector q).obj (K.configSectorState q) = 3 ∧
    (s.freezeSector q).obj (K.configSectorFrozenFrom q) = (linesCut s q).now ∧ ∀ i < 64, CutOff (s.freezeSector q) (64 * q + i) := by
  have hheld := inEngines_slotsHeld (((frozenShown (linesCut s q) q).setCellReaders q false).isolate q) hq (s.affected q)
  have hkeeps : KeepsSectors (s.freezeSector q) (frozenShown (linesCut s q) q) := by
    rw [freezeSector_eq]
    exact hheld.sectors.trans ((inTiles_isolate _ hq).sectors.trans (sectors_setCellReaders ..))
  have hne : K.configSectorState q ≠ K.configSectorFrozenFrom q := key_ne (by decide) (by decide) (.inr (by decide))
  refine ⟨?_, ?_, fun i hi => ?_⟩
  · exact (hkeeps.obj _ (sectorKey_config hq (by decide))).trans ((obj_set_ne _ _ hne).trans (obj_set_self ..))
  · exact (hkeeps.obj _ (sectorKey_config hq (by decide))).trans (obj_set_self ..)
  · obtain ⟨hsel, hentry⟩ := isolate_cutOff ((frozenShown (linesCut s q) q).setCellReaders q false) q hi
    have hlow {j b : Nat} (hj : j < 16) (hb : b < 256) : key (0x3000 + j + 16 * (64 * q + i)) b < 0x480000 := by
      simp only [key]
      omega
    rw [freezeSector_eq]
    exact ⟨(hheld.obj _ (.inl (hlow (j := 3) (by decide) (by decide)))).trans hsel,
      (hheld.obj _ (.inl (hlow (j := 7) (by decide) (by decide)))).trans hentry⟩

/-! ### The clock stands still in a step -/

theorem sceneLine_time (s : State) (c : Nat) : (s.sceneLine c).time = s.time := by
  unfold State.sceneLine
  extract_lets l
  split <;> rfl

theorem toOut_time (s : State) (c : Nat) (items : List Item) : (s.toOut c items).time = s.time := by
  unfold State.toOut
  extract_lets n
  split <;> rfl

theorem rampLine_time (s : State) (n c : Nat) : (s.rampLine n c).time = s.time := by
  unfold State.rampLine
  extract_lets x a u
  have hu : u.time = s.time := by
    unfold u
    split
    · exact set_time ..
    · rfl
  exact hu

theorem noPlace_time (s : State) (p : Nat) : (s.noPlace p).2.time = s.time := by
  unfold State.noPlace
  dsimp only
  split
  · exact count_time ..
  · rfl

theorem stampRec_time (s : State) (c t : Nat) (rec : LineRec) : (s.stampRec c t rec).2.time = s.time := by
  unfold State.stampRec State.stamped
  split
  · rfl
  · exact noPlace_time ..
  · rfl

/-- A line that is closed with a record reaches its ring or its tile. -/
theorem lineClosed_time (s : State) (n c : Nat) (l : Cur) (x : Ctx) (rec : LineRec × Option (Nat × Nat)) :
    (if n = 0xFFFF then s.toOut c [.mark c (s.chained c) rec.1 l.lossy none]
      else if l.stale then
        let s := s.sceneLine c
        let words := if s.chained c then [] else x.lastGood.map (fun b => Item.word c false l.line 1 b.toNat)
        s.toOut c (words ++ [.mark c (s.chained c) rec.1 l.lossy rec.2])
      else
        let s := if s.chained c then s
          else s.modCtx c (fun y => { y with filling := [], lastGood := if l.lossy then y.lastGood else y.filling.reverse })
        let s := s.pushMark n c (s.chained c) rec l.lossy
        if l.lossy then s else (s.tilesOf c).foldl (fun st m => st.rampLine m c) s).time = s.time := by
  split
  · exact toOut_time ..
  split
  · exact (toOut_time ..).trans (sceneLine_time ..)
  extract_lets kept marked
  have hkept : kept.time = s.time := by
    unfold kept
    split <;> rfl
  split
  · exact hkept
  · exact (foldl_keeps State.time _ _ _ fun _ _ => rampLine_time ..).trans hkept

theorem closeLineOf_time (s : State) (c : Nat) : (s.closeLineOf c).time = s.time := by
  unfold State.closeLineOf
  extract_lets x
  split
  · rfl
  next l _ =>
  extract_lets u n flags plain pos v rec_ w words y z
  have hu : u.time = s.time := rfl
  clear_value x u
  split
  · exact hu
  have hv : v.time = u.time := by
    unfold v pos
    split
    · rfl
    · exact stampRec_time ..
  exact (lineClosed_time v n c l x rec_).trans (hv.trans hu)

theorem cutLine_time (s : State) (c : Nat) : (s.cutLine c).time = s.time := by
  unfold State.cutLine
  split
  · rfl
  split
  · rfl
  · exact (count_time ..).trans ((closeLineOf_time ..).trans rfl)

theorem linesCut_now (s : State) (q : Nat) : (linesCut s q).now = s.now :=
  congrArg time96 (foldl_keeps State.time _ _ _ fun t c => cutLine_time t c)

end

end Sys2Proof.Proofs
end

section
/-! # The release of a sector and the end of a reload (R317 to R319, R328) -/

set_option Elab.async false

namespace Sys2Proof.Proofs

open Sys2Proof Sys2Proof.Machine Sys2Proof.Laws

section
variable {s u v : State} {q k n t : Nat}

/-! ## A sector that is lost -/

/-- A sector reads LOST. -/
def lostShown (s : State) (q : Nat) : State := (s.set (K.configSectorState q) 4).set (K.configSectorClustersLeft q) 0

theorem sectors_loseSector (s : State) (q : Nat) : KeepsSectors (s.loseSector q) (lostShown s q) := by
  unfold State.loseSector
  extract_lets shown moved
  have hmoved : KeepsSectors moved shown := by
    refine sectors_foldl _ _ (fun st e _ => sectors_ite (sectors_queueMove ..) ?_) _
    exact sectors_foldl _ _ (fun _ _ _ => sectors_modCtx ..) _
  exact (sectors_raise ..).trans hmoved

theorem loseSector_state (s : State) (hq : q < 4) : (s.loseSector q).obj (K.configSectorState q) = 4 := by
  have hne : K.configSectorState q ≠ K.configSectorClustersLeft q := key_ne (by decide) (by decide) (.inr (by decide))
  exact ((sectors_loseSector s q).obj _ (sectorKey_config hq (by decide))).trans ((obj_set_ne _ _ hne).trans (obj_set_self ..))

/-- A reload is over. -/
def reloadOver (s : State) : State := { s with reload := none }

theorem endReload_keeps (s : State) : KeepsSectors s.endReload (reloadOver s) := (sectors_pumpSwaps _).trans (sectors_pumpMoves _)

theorem endReload_obj (s : State) (hk : SectorKey k) : s.endReload.obj k = s.obj k := (endReload_keeps s).obj k hk

theorem endReload_reload (s : State) : s.endReload.reload = none := (endReload_keeps s).reload

/-! ## The release -/

theorem sectors_syncEntries (s : State) : KeepsSectors s.syncEntries s := by
  unfold State.syncEntries
  extract_lets used
  refine sectors_foldl _ _ (fun t n hn => ?_) s
  have hlt : n < 256 := by
    have := List.mem_range.1 hn
    have := tileCount_le s.variant
    omega
  extract_lets x
  exact sectors_ite (.refl t) (inTiles_setEntry t hlt x).sectors

theorem sectors_joinSel (s : State) (hn : n < 256) (half bus : Nat) : KeepsSectors (s.joinSel n half bus) s :=
  sectors_ite (.refl s) (inTiles_setSel s hn half bus).sectors

theorem sectors_inUse (s : State) (x : Nat) (h : k < 0x604800) : KeepsSectors (s.inUse k x) s :=
  sectors_ite (sectors_of_dict rfl rfl rfl) (sectors_ite (.refl s) (sectors_set s x (not_sectorKey_low h)))

theorem tileKey_config {i b : Nat} (hi : i < 16) (hb : b < 256) (hn : n < 256) : key (0x3000 + i + 16 * n) b < 0x604800 :=
  (tileKey_range hi hb hn).2.trans (by decide)

theorem sectors_enterSlot (s : State) (hn : n < 256) (slot : Nat) : KeepsSectors (s.enterSlot n slot) s := by
  unfold State.enterSlot
  split
  · exact .refl s
  extract_lets table gain rf
  have hgain : KeepsSectors gain s := sectors_inUse s _ (tileKey_config (i := 0) (by decide) (by decide) hn)
  have hrf : KeepsSectors rf s := sectors_ite ((sectors_inUse gain _ (tileKey_config (i := 0) (by decide) (by decide) hn)).trans hgain) hgain
  exact (sectors_joinSel _ hn ..).trans hrf

theorem sectors_joinBuses (s : State) (hn : n < 256) (cs : List Nat) : KeepsSectors (s.joinBuses n cs) s :=
  sectors_foldl _ _ (fun t _ _ => sectors_ite (sectors_ite (.refl t) (sectors_ite (sectors_enterSlot t hn _) (sectors_joinSel t hn ..)))
    (sectors_joinSel t hn ..)) s

theorem sectors_rejoin (s : State) (hq : q < 4) : KeepsSectors (s.rejoin q) s := by
  refine (sectors_syncEntries _).trans (sectors_foldl _ _ (fun t i hi => ?_) s)
  have hlt : 64 * q + i < 256 := by
    have := List.mem_range.1 hi
    omega
  exact (sectors_joinBuses _ hlt _).trans (sectors_modTile ..)

theorem sectors_restartAt (s : State) (c line : Nat) (h : ∀ i, s.slotOf c = some i → i < 1024) : KeepsSectors (s.restartAt c line) s := by
  unfold State.restartAt
  split
  next i hi =>
    have hreleased : KeepsSectors (s.releaseSlot i) s := sectors_ite (inEngines_slotState s (h i hi) 1).sectors (.refl s)
    exact (sectors_modChain ..).trans hreleased
  · exact .refl s

theorem sectors_stepSlot (s : State) (i k off words : Nat) : KeepsSectors (s.stepSlot i k off words) s :=
  sectors_ite (.refl s) (sectors_modChain ..)

/-- A sector reads CONFIGURED again from now. -/
def releaseShown (s : State) (q : Nat) : State := (s.set (K.configSectorState q) 2).set (K.configSectorReleased q) s.now

theorem sectors_setFab (s : State) (j : Nat) (x : Fab) : KeepsSectors (s.setFab j x) s := sectors_of_dict rfl rfl rfl

theorem sectors_releaseSector (s : State) (hq : q < 4) : KeepsSectors (s.releaseSector q) (releaseShown s q) := by
  unfold State.releaseSector
  extract_lets cs shown rejoined restarted
  have hrejoined : KeepsSectors rejoined shown := (sectors_rejoin _ hq).trans (sectors_setCellReaders ..)
  clear_value rejoined
  have hrestarted : KeepsSectors restarted rejoined := by
    refine sectors_foldl _ _ (fun t c _ => ?_) rejoined
    extract_lets thawed m
    have hthawed : KeepsSectors thawed t := sectors_modCtx ..
    clear_value thawed
    split
    next i hi =>
      split
      next hsector =>
        refine (sectors_restartAt _ _ _ fun j hj => ?_).trans hthawed
        rw [hi] at hj
        cases hj
        omega
      · exact sectors_ite hthawed ((sectors_stepSlot ..).trans hthawed)
    · exact hthawed
  clear_value restarted
  have hcleared (u : State) : KeepsSectors ((u.placedIn q).foldl (fun st e => st.setFab e.1 .none_) u) u :=
    sectors_foldl _ _ (fun t e _ => sectors_setFab t e.1 .none_) u
  exact (hcleared restarted).trans (hrestarted.trans hrejoined)

theorem releaseSector_shows (s : State) (hq : q < 4) : (s.releaseSector q).obj (K.configSectorState q) = 2 ∧
    (s.releaseSector q).obj (K.configSectorReleased q) = s.now := by
  have hkeeps := sectors_releaseSector s hq
  have hne : K.configSectorState q ≠ K.configSectorReleased q := key_ne (by decide) (by decide) (.inr (by decide))
  exact ⟨(hkeeps.obj _ (sectorKey_config hq (by decide))).trans ((obj_set_ne _ _ hne).trans (obj_set_self ..)),
    (hkeeps.obj _ (sectorKey_config hq (by decide))).trans (obj_set_self ..)⟩

/-! ## The staged image is committed -/

theorem sectors_count (s : State) (w x : Nat) (h : ¬ SectorKey k) : KeepsSectors (s.count k w x) s := sectors_set s _ h

theorem sectors_setUntested (s : State) (bit : Nat) (b : Bool) : KeepsSectors (s.setUntested bit b) s := by
  rw [setUntested_eq]
  have hmarked : KeepsSectors (markUntested s bit b) s := sectors_of_dict rfl rfl rfl
  exact sectors_ite hmarked ((sectors_raise ..).trans ((sectors_set _ _ (not_sectorKey_low (by decide : K.versionsRestricted < _))).trans hmarked))

theorem sectors_startCopy (s : State) : KeepsSectors s.startCopy s :=
  ⟨(sectors_set s 0 (not_sectorKey_low (by decide : K.deviceStandbyShadow < _))).obj, rfl⟩

theorem dropStaged_obj (s : State) (k : Nat) : s.dropStaged.obj k = (s.set K.configStaged 0xFF).obj k := rfl

theorem sectors_dropStaged (s : State) : KeepsSectors s.dropStaged s :=
  ⟨fun k hk => (dropStaged_obj s k).trans ((sectors_set s 0xFF (not_sectorKey_low (by decide : K.configStaged < _))).obj k hk), rfl⟩

theorem sectors_commitImage (s : State) (bs : List Byte) : KeepsSectors (s.commitImage bs) s := by
  unfold State.commitImage
  extract_lets crc word pieces copied scrub u
  have hcrc : KeepsSectors crc s := (sectors_set _ _ (not_sectorKey_low (by decide : K.configCrc < _))).trans (sectors_of_dict rfl rfl rfl)
  have hword : KeepsSectors word s := (sectors_set _ _ (not_sectorKey_low (by decide : K.configWord < _))).trans hcrc
  have hpieces : KeepsSectors pieces s := (sectors_set _ _ (not_sectorKey_low (by decide : K.configPieces < _))).trans hword
  clear_value pieces
  have hcopied : KeepsSectors copied s := (sectors_startCopy _).trans ((sectors_count _ 32 1 (not_sectorKey_low (by decide : K.configCommits < _))).trans hpieces)
  clear_value copied
  have hscrub : KeepsSectors u copied := sectors_of_dict rfl rfl rfl
  have hu : KeepsSectors u s := hscrub.trans hcopied
  clear_value u
  exact (sectors_set _ _ (not_sectorKey_high (by decide : 0x605000 ≤ K.scrubStatus))).trans hu

/-- The staged image committed, still listed as staged. -/
def stagedCommitted (s : State) : State :=
  (s.commitImage (mergeImage s.committed s.stagedImage)).setUntested 5 (s.classify 3 (imageWord s.stagedImage) != .tested)

theorem commitStaged_eq (s : State) : s.commitStaged = (stagedCommitted s).dropStaged := rfl

theorem sectors_commitStaged (s : State) : KeepsSectors s.commitStaged s := by
  rw [commitStaged_eq]
  exact (sectors_dropStaged _).trans ((sectors_setUntested ..).trans (sectors_commitImage ..))

theorem commitStaged_staged (s : State) : s.commitStaged.obj K.configStaged = 0xFF := by
  rw [commitStaged_eq, dropStaged_obj]
  exact obj_set_self ..

/-! ## The logic of the new frames -/

/-- What keeps the frames, the images and the variant: all that the logic of a placed piece comes from. -/
structure SameFrames (u s : State) : Prop where
  frames : u.frames = s.frames
  blobs : u.blobs = s.blobs

theorem SameFrames.trans (h : SameFrames u v) (g : SameFrames v s) : SameFrames u s := ⟨h.frames.trans g.frames, h.blobs.trans g.blobs⟩

theorem placeCluster_congr (h : SameFrames u s) (f : Placed) (r : Nat) : u.placeCluster f r = s.placeCluster f r := by
  have hbase : u.clockBase f = s.clockBase f := by
    simp only [State.clockBase, State.framesIn, State.descriptor, State.pieceRec, State.committed, State.blob, h.frames, h.blobs]
  have hplace (k : Nat) : u.place_ f k = s.place_ f k := by simp only [State.place_, hbase]
  have hpin (p : ClockPin) : u.placePin f p = s.placePin f p := by
    cases p <;> simp only [State.placePin, hbase]
  have hlogic : u.clusterLogic f.1 r = s.clusterLogic f.1 r := by
    simp only [State.clusterLogic, State.pieceRec, State.committed, State.blob, h.blobs]
  simp only [State.placeCluster, hlogic, hpin, funext hplace]

theorem sameFrames_modNet (s : State) (q : Nat) (f : Net → Net) : SameFrames (s.modNet q f) s := ⟨rfl, rfl⟩

theorem net_modNet (s : State) (q : Nat) (f : Net → Net) : (s.modNet q f).net q = f (s.net q) := get_put_self ..

/-- What a fold over a list brings about where an invariant holds and no step undoes another. -/
theorem foldl_reaches {I : State → Prop} {P : Nat → State → Prop} {f : State → Nat → State} (xs : List Nat) (hkeep : ∀ t x, I t → I (f t x))
    (hself : ∀ t x, I t → P x (f t x)) (hother : ∀ t, ∀ x ∈ xs, ∀ y ∈ xs, x ≠ y → P x t → P x (f t y)) (hs : I s) {n : Nat} (hn : n ∈ xs) :
    P n (xs.foldl f s) := by
  have hkept (ys : List Nat) (hys : ∀ y ∈ ys, y ∈ xs) (t : State) (ht : I t) (h : P n t) : P n (ys.foldl f t) := by
    induction ys generalizing t with
    | nil => exact h
    | cons y ys ih =>
      refine ih (fun z hz => hys z (List.mem_cons_of_mem _ hz)) _ (hkeep t y ht) ?_
      by_cases heq : n = y
      · exact heq ▸ hself t n ht
      · exact hother t n hn y (hys y (List.mem_cons_self ..)) heq h
  have hreached (ys : List Nat) (hys : ∀ y ∈ ys, y ∈ xs) (t : State) (ht : I t) (hmem : n ∈ ys) : P n (ys.foldl f t) := by
    induction ys generalizing t with
    | nil => exact absurd hmem List.not_mem_nil
    | cons y ys ih =>
      obtain rfl | hmem := List.mem_cons.1 hmem
      · exact hkept ys (fun z hz => hys z (List.mem_cons_of_mem _ hz)) _ (hkeep t n ht) (hself t n ht)
      · exact ih (fun z hz => hys z (List.mem_cons_of_mem _ hz)) _ (hkeep t y ht) hmem
  exact hreached xs (fun _ hx => hx) s hs hn

/-- The record of the nets of a sector once a cluster of a piece has started. -/
def clusterStarted (f : Placed) (ports r : Nat) (st : State) : State :=
  let x := f.2.2.1.getD r 0
  st.modNet f.2.1 (fun n => { n with
    ffs := Sp.put (fun _ => 0) n.ffs x (initialFlops (st.placeCluster f r))
    sigs := Sp.erase n.sigs x
    outs := withBits n.outs (32 * x + 31) (32 * x) 0
    reads := n.reads.filter (fun e => e.1 / 2 != x)
    wrote := n.wrote.filter (fun e => e.1 / 2 != x)
    macs := if x % 2 = 0 then Sp.erase n.macs (x / 2) else n.macs
    cells := n.cells.filter (fun e => !(f.2.2.2 ≤ e.1 && e.1 < f.2.2.2 + ports)) })

theorem startLogic_eq (s : State) (f : Placed) : s.startLogic f =
    (List.range f.2.2.1.length).foldl (fun st r => clusterStarted f (s.force (K.graphPiecePorts f.1)) r st) s := rfl

theorem clusterStarted_flops (f : Placed) (ports r : Nat) (st : State) :
    ((clusterStarted f ports r st).net f.2.1).ffs = Sp.put (fun _ => 0) (st.net f.2.1).ffs (f.2.2.1.getD r 0) (initialFlops (st.placeCluster f r)) :=
  congrArg Net.ffs (net_modNet ..)

theorem sameFrames_clusterStarted (f : Placed) (ports r : Nat) (st : State) : SameFrames (clusterStarted f ports r st) st := by
  unfold clusterStarted
  extract_lets x
  exact sameFrames_modNet ..

theorem startLogic_flops (s : State) (f : Placed) (hnodup : f.2.2.1.Nodup) {n x : Nat} (hx : f.2.2.1[n]? = some x) :
    ((s.startLogic f).net f.2.1).flops x = initialFlops (s.placeCluster f n) := by
  obtain ⟨hn, hget⟩ := List.getElem?_eq_some_iff.1 hx
  have hgetD {r : Nat} (hr : r < f.2.2.1.length) : f.2.2.1.getD r 0 = f.2.2.1[r] := by
    rw [List.getD_eq_getElem?_getD, List.getElem?_eq_getElem hr]
    rfl
  have hreached := foldl_reaches (s := s) (I := fun t => SameFrames t s)
    (P := fun r t => (t.net f.2.1).flops (f.2.2.1.getD r 0) = initialFlops (s.placeCluster f r))
    (f := fun st r => clusterStarted f (s.force (K.graphPiecePorts f.1)) r st) (List.range f.2.2.1.length)
    (fun t r ht => (sameFrames_clusterStarted ..).trans ht)
    (fun t r ht => by
      rw [Net.flops, clusterStarted_flops, get_put_self, placeCluster_congr ht])
    (fun t r hr r' hr' hne h => by
      have hr := List.mem_range.1 hr
      have hr' := List.mem_range.1 hr'
      have hdiff : f.2.2.1.getD r 0 ≠ f.2.2.1.getD r' 0 := by
        rw [hgetD hr, hgetD hr']
        exact fun e => hne ((List.Nodup.getElem_inj_iff hnodup).1 e)
      rw [Net.flops, clusterStarted_flops, get_put_ne _ _ _ hdiff]
      exact h)
    ⟨rfl, rfl⟩ (List.mem_range.2 hn)
  rw [startLogic_eq, ← hget, ← hgetD hn]
  exact hreached

end

end Sys2Proof.Proofs
end

section
/-! # The reload of a sector, step by step (R315 to R319) -/

set_option Elab.async false

namespace Sys2Proof.Proofs

open Sys2Proof Sys2Proof.Machine Sys2Proof.Laws

section
variable {s u v : State} {q k n t : Nat} {r : Reload} {ok : Bool}

/-! ## The logic starts again -/

theorem sectors_showFrames (s : State) (hq : q < 4) : KeepsSectors (s.showFrames q) s :=
  (sectors_set _ _ (not_sectorKey_low (show K.fabricSectorPortRoles q < _ by simp only [K.fabricSectorPortRoles, key]; omega))).trans
    (sectors_set _ _ (not_sectorKey_low (show K.fabricSectorClockSrc q < _ by simp only [K.fabricSectorClockSrc, key]; omega)))

/-- What changes nothing but the nets of the sectors. -/
structure NetsOnly (u s : State) : Prop where
  obj : ∀ k, u.obj k = s.obj k
  reload : u.reload = s.reload
  frames : u.frames = s.frames
  blobs : u.blobs = s.blobs

theorem NetsOnly.refl (s : State) : NetsOnly s s := ⟨fun _ => rfl, rfl, rfl, rfl⟩

theorem NetsOnly.trans (h : NetsOnly u v) (g : NetsOnly v s) : NetsOnly u s :=
  ⟨fun k => (h.obj k).trans (g.obj k), h.reload.trans g.reload, h.frames.trans g.frames, h.blobs.trans g.blobs⟩

theorem NetsOnly.sectors (h : NetsOnly u s) : KeepsSectors u s := ⟨fun k _ => h.obj k, h.reload⟩

theorem netsOnly_modNet (s : State) (q : Nat) (f : Net → Net) : NetsOnly (s.modNet q f) s := ⟨fun _ => rfl, rfl, rfl, rfl⟩

theorem netsOnly_foldl {α : Type} (f : State → α → State) (h : ∀ t x, NetsOnly (f t x) t) (xs : List α) (s : State) :
    NetsOnly (xs.foldl f s) s := by
  induction xs generalizing s with
  | nil => exact .refl s
  | cons x xs ih => exact (ih _).trans (h s x)

theorem netsOnly_loadMemories (s : State) (f : Placed) : NetsOnly (s.loadMemories f) s :=
  netsOnly_foldl _ (fun _ _ => netsOnly_modNet ..) _ s

theorem netsOnly_clusterStarted (f : Placed) (ports r : Nat) (s : State) : NetsOnly (clusterStarted f ports r s) s := by
  unfold clusterStarted
  extract_lets x
  exact netsOnly_modNet ..

theorem netsOnly_startLogic (s : State) (f : Placed) : NetsOnly (s.startLogic f) s := by
  rw [startLogic_eq]
  exact netsOnly_foldl _ (fun _ _ => netsOnly_clusterStarted ..) _ s

/-- A state with the shadow's CRC shown alone: the frames of the shadow written, and what they change of the dictionary. -/
structure ShadowOnly (u s : State) : Prop where
  obj : ∀ k, k ≠ K.deviceStandbyShadowCrc → u.obj k = s.obj k
  reload : u.reload = s.reload
  nets : u.nets = s.nets
  frames : u.frames = s.frames
  blobs : u.blobs = s.blobs

theorem ShadowOnly.trans (h : ShadowOnly u v) (g : ShadowOnly v s) : ShadowOnly u s :=
  ⟨fun k hk => (h.obj k hk).trans (g.obj k hk), h.reload.trans g.reload, h.nets.trans g.nets, h.frames.trans g.frames, h.blobs.trans g.blobs⟩

theorem shadowOnly_showShadow (s : State) : ShadowOnly s.showShadow s := by
  unfold State.showShadow
  split
  · exact ⟨fun k hk => obj_set_ne _ _ hk, rfl, rfl, rfl, rfl⟩
  · exact ⟨fun _ _ => rfl, rfl, rfl, rfl, rfl⟩

theorem shadowOnly_fillShadow (s : State) (off size : Nat) (bs : List Byte) : ShadowOnly (s.fillShadow off size bs) s :=
  ⟨fun _ _ => rfl, rfl, rfl, rfl, rfl⟩

theorem shadowOnly_recordFrames (s : State) : ShadowOnly s.recordFrames s := by
  unfold State.recordFrames
  extract_lets table entry map_
  exact (shadowOnly_showShadow _).trans ((shadowOnly_fillShadow ..).trans (shadowOnly_fillShadow ..))

theorem ShadowOnly.sectors (h : ShadowOnly u s) : KeepsSectors u s :=
  ⟨fun k hk => h.obj k fun e => not_sectorKey_low (by decide : K.deviceStandbyShadowCrc < _) (e ▸ hk), h.reload⟩

/-- The logic of a sector's frames, started. -/
def logicStarted (s : State) (q : Nat) : State := (s.framesIn q).foldl (fun st f => (st.loadMemories f).startLogic f) (s.showFrames q)

theorem restartLogic_eq (s : State) (q : Nat) : s.restartLogic q = (logicStarted s q).recordFrames := rfl

theorem logicStarted_nets (s : State) (q : Nat) : NetsOnly (logicStarted s q) (s.showFrames q) :=
  netsOnly_foldl _ (fun _ _ => (netsOnly_startLogic ..).trans (netsOnly_loadMemories ..)) _ _

theorem sectors_restartLogic (s : State) (hq : q < 4) : KeepsSectors (s.restartLogic q) s :=
  (shadowOnly_recordFrames _).sectors.trans ((logicStarted_nets s q).sectors.trans (sectors_showFrames s hq))

theorem restartLogic_staged (s : State) (hq : q < 4) : (s.restartLogic q).obj K.configStaged = s.obj K.configStaged := by
  have hsrc : K.configStaged ≠ K.fabricSectorClockSrc q := key_ne (by decide) (by decide) (.inl (by omega))
  have hroles : K.configStaged ≠ K.fabricSectorPortRoles q := key_ne (by decide) (by decide) (.inl (by omega))
  exact ((shadowOnly_recordFrames _).obj _ (by decide)).trans (((logicStarted_nets s q).obj _).trans
    ((obj_set_ne _ _ hroles).trans (obj_set_ne _ _ hsrc)))

theorem NetsOnly.same (h : NetsOnly u s) : SameFrames u s := ⟨h.frames, h.blobs⟩

theorem sameFrames_showFrames (s : State) (q : Nat) : SameFrames (s.showFrames q) s :=
  ⟨(set_frames ..).trans (set_frames ..), (set_blobs ..).trans (set_blobs ..)⟩

theorem sameFrames_logicStarted (s : State) (q : Nat) : SameFrames (logicStarted s q) s :=
  (logicStarted_nets s q).same.trans (sameFrames_showFrames s q)

/-- The flip-flops of a sector's only piece after its logic has started. -/
theorem restartLogic_flops (s : State) (q : Nat) (f : Placed) (hframes : (s.restartLogic q).framesIn q = [f]) (hnodup : f.2.2.1.Nodup)
    {n x : Nat} (hx : f.2.2.1[n]? = some x) :
    ((s.restartLogic q).net q).flops x = initialFlops ((s.restartLogic q).placeCluster f n) := by
  have hrecord := shadowOnly_recordFrames (logicStarted s q)
  have hstarted := sameFrames_logicStarted s q
  have hsame : SameFrames (s.restartLogic q) s := ⟨hrecord.frames.trans hstarted.frames, hrecord.blobs.trans hstarted.blobs⟩
  have hin : s.framesIn q = [f] := by
    rw [← hframes, State.framesIn, State.framesIn, hsame.frames]
  have hsector : f.2.1 = q := by
    have hmem : f ∈ s.framesIn q := hin ▸ List.mem_singleton_self f
    simpa using (List.mem_filter.1 hmem).2
  have hnet : (s.restartLogic q).net q = ((((s.showFrames q).loadMemories f).startLogic f)).net q := by
    have hnets : (s.restartLogic q).nets = (logicStarted s q).nets := hrecord.nets
    rw [State.net, hnets, logicStarted, hin]
    rfl
  have hload : SameFrames ((s.showFrames q).loadMemories f) s := (netsOnly_loadMemories ..).same.trans (sameFrames_showFrames s q)
  have hflops := startLogic_flops ((s.showFrames q).loadMemories f) f hnodup hx
  rw [hnet, placeCluster_congr hsame, ← placeCluster_congr hload, ← hflops, hsector]

/-! ## The steps -/

/-- A reload stands at a step. -/
def reloadAt (s : State) (q k : Nat) : State := { s with reload := some ⟨q, k⟩ }

/-- The contexts that a reload affects freeze at their next boundary. -/
def freezeDue (s : State) (q : Nat) : State := (s.affected q).foldl (fun st c => st.modCtx c (fun x => { x with freeze := true })) s

/-- How many clusters a reload has to write. -/
def clustersLeft (s : State) : Nat := min 128 (((imageRecords s.stagedImage).map (·.clusters)).foldl (· + ·) 0)

theorem reloadStep_eq (h : s.reload = some r) : xReloadStep ok s =
    match r.step with
    | 1 => reloadAt (freezeDue s r.sector) r.sector 2
    | 2 => reloadAt (s.freezeSector r.sector) r.sector 3
    | 3 => reloadAt (s.set (K.configSectorClustersLeft r.sector) (clustersLeft s)) r.sector 4
    | 4 => if ok then reloadAt (s.set (K.configSectorClustersLeft r.sector) 0) r.sector 5 else (s.loseSector r.sector).endReload
    | 5 => if ok then reloadAt s r.sector 6 else (s.loseSector r.sector).endReload
    | 6 => if s.mode = mRun || s.mode = mHold then reloadAt s r.sector 7 else s
    | 7 => reloadAt (((s.releaseSector r.sector).commitStaged).restartLogic r.sector) r.sector 8
    | _ => ((s.count (K.configSectorReloads r.sector) 32 1).endCopy).endReload := by
  unfold xReloadStep
  rw [h]
  rfl

theorem quadCount_le (v : Variant) : quadCount v ≤ 4 := by cases v <;> decide

theorem reloadAt_obj (s : State) (q m k : Nat) : (reloadAt s q m).obj k = s.obj k := rfl

theorem leaves_reloadAt (s : State) (q m : Nat) {ks : List Nat} : Leaves ks (reloadAt s q m) s := leaves_of_dict rfl rfl rfl rfl rfl rfl

theorem freezeDue_freezes (s : State) (q : Nat) {c : Nat} (hc : c ∈ s.affected q) : ((freezeDue s q).ctx c).freeze = true := by
  refine foldl_establishes (P := fun c u => (u.ctx c).freeze = true) (fun t n => ?_) (fun t n m hne h => ?_) _ s hc
  · exact congrArg Ctx.freeze (ctx_setCtx ..)
  · exact (congrArg Ctx.freeze (get_put_ne (fun _ => Ctx.none_) t.ctxs _ hne)).trans h

theorem puts_refl (s : State) : Puts [] s s := puts_of_dict rfl rfl rfl rfl rfl rfl

/-- A step that moves on from a state that keeps the dictionary, but for a list. -/
theorem step_sets (hheld : s.held = false) {vs : List (Nat × Nat)} {m : Nat} {v : State} (hsafe : s.safeAsk = 0)
    (heffect : xReloadStep ok (s.begin_ t) = reloadAt v q m) (hputs : Puts vs v (s.begin_ t)) :
    Sets (.reloadStepEnd t ok) s vs (fun u => u.reload = some ⟨q, m⟩) := by
  refine sets_event (exec_reloadStepEnd ..) ⟨hheld, hsafe⟩ ?_ ?_ ?_ <;> rw [heffect]
  · exact (leaves_reloadAt ..).trans hputs.leaves
  · exact hputs.holds
  · rfl

theorem leaves_reloadOver (s : State) {ks : List Nat} : Leaves ks (reloadOver s) s := leaves_of_dict rfl rfl rfl rfl rfl rfl

theorem sectors_copyShadow (s : State) : KeepsSectors s.copyShadow s := by
  have hput (t : State) (a b : Nat) (bs : List Byte) : KeepsSectors (t.fillShadow a b bs) t := sectors_of_dict rfl rfl rfl
  unfold State.copyShadow
  extract_lets put
  exact (sectors_foldl _ _ (fun _ _ _ => hput ..) _).trans ((hput ..).trans (hput ..))

/-- The copy is over. -/
def copyOver (s : State) : State := { s with copying := false }

theorem endCopy_eq (s : State) : s.endCopy =
    if s.copying && !s.clientRed 46 then ((copyOver s).copyShadow.set K.deviceStandbyShadow 1).showShadow else s := rfl

theorem sectors_endCopy (s : State) : KeepsSectors s.endCopy s := by
  have hover : KeepsSectors (copyOver s) s := sectors_of_dict rfl rfl rfl
  rw [endCopy_eq]
  exact sectors_ite ((shadowOnly_showShadow _).sectors.trans ((sectors_set _ 1 (not_sectorKey_low (by decide : K.deviceStandbyShadow < _))).trans
    ((sectors_copyShadow _).trans hover))) (.refl s)

section
variable (hheld : s.held = false) (hr : s.reload = some r) (hq : r.sector < quadCount s.variant)
include hheld hr

theorem step1_completes (hstep : r.step = 1) : Completes (.reloadStepEnd t ok) s
    (fun u => u.reload = some ⟨r.sector, 2⟩ ∧ ∀ c ∈ s.affected r.sector, (u.ctx c).freeze = true) (fun _ => True) := by
  have heffect := reloadStep_eq (s := s.begin_ t) (ok := ok) hr
  rw [hstep] at heffect
  refine completes_event (exec_reloadStepEnd ..) hheld ?_
  rw [heffect]
  exact ⟨rfl, fun c hc => freezeDue_freezes (s.begin_ t) r.sector hc⟩

theorem step3_sets (hsafe : s.safeAsk = 0) (hstep : r.step = 3) :
    Sets (.reloadStepEnd t ok) s [(K.configSectorClustersLeft r.sector, clustersLeft s)] (fun u => u.reload = some ⟨r.sector, 4⟩) := by
  have heffect := reloadStep_eq (s := s.begin_ t) (ok := ok) hr
  rw [hstep] at heffect
  exact step_sets hheld hsafe heffect (puts_set ..)

theorem step4_sets (hsafe : s.safeAsk = 0) (hstep : r.step = 4) :
    Sets (.reloadStepEnd t true) s [(K.configSectorClustersLeft r.sector, 0)] (fun u => u.reload = some ⟨r.sector, 5⟩) := by
  have heffect := reloadStep_eq (s := s.begin_ t) (ok := true) hr
  rw [hstep] at heffect
  exact step_sets hheld hsafe (heffect.trans (if_pos rfl)) (puts_set ..)

theorem step5_sets (hsafe : s.safeAsk = 0) (hstep : r.step = 5) :
    Sets (.reloadStepEnd t true) s [] (fun u => u.reload = some ⟨r.sector, 6⟩) := by
  have heffect := reloadStep_eq (s := s.begin_ t) (ok := true) hr
  rw [hstep] at heffect
  exact step_sets hheld hsafe (heffect.trans (if_pos rfl)) (puts_refl _)

theorem step6_sets (hsafe : s.safeAsk = 0) (hstep : r.step = 6) (hmode : s.mode = mRun ∨ s.mode = mHold) :
    Sets (.reloadStepEnd t ok) s [] (fun u => u.reload = some ⟨r.sector, 7⟩) := by
  have heffect := reloadStep_eq (s := s.begin_ t) (ok := ok) hr
  have hmode' : (decide ((s.begin_ t).mode = mRun) || decide ((s.begin_ t).mode = mHold)) = true := by
    have hmode : (s.begin_ t).mode = mRun ∨ (s.begin_ t).mode = mHold := hmode
    simpa only [Bool.or_eq_true, decide_eq_true_eq] using hmode
  rw [hstep] at heffect
  exact step_sets hheld hsafe (heffect.trans (if_pos hmode')) (puts_refl _)

theorem step6_waits (hsafe : s.safeAsk = 0) (hstep : r.step = 6) (hmode : s.mode = mSafe) :
    Sets (.reloadStepEnd t ok) s [] (fun u => u.reload = some r) := by
  have heffect := reloadStep_eq (s := s.begin_ t) (ok := ok) hr
  have hmode' : ¬ (decide ((s.begin_ t).mode = mRun) || decide ((s.begin_ t).mode = mHold)) = true := by
    have hsafe : (s.begin_ t).mode = mSafe := hmode
    rw [hsafe]
    decide
  rw [hstep] at heffect
  have hwaits := heffect.trans (if_neg hmode')
  refine sets_event (exec_reloadStepEnd ..) ⟨hheld, hsafe⟩ ?_ ?_ ?_ <;> rw [hwaits]
  · exact .refl _ _
  · exact holds_nil _
  · exact hr

/-- A frame that failed its readback twice loses the sector. -/
theorem stepFails_completes (hq : r.sector < quadCount s.variant) (hstep : r.step = 4 ∨ r.step = 5) : Completes (.reloadStepEnd t false) s
    (fun u => u.reload = none ∧ u.obj (K.configSectorState r.sector) = 4) (fun _ => True) := by
  have hq4 := hq.trans_le (quadCount_le s.variant)
  have heffect : xReloadStep false (s.begin_ t) = ((s.begin_ t).loseSector r.sector).endReload := by
    have heffect := reloadStep_eq (s := s.begin_ t) (ok := false) hr
    obtain h | h := hstep <;> · rw [h] at heffect; exact heffect.trans (if_neg (by decide))
  refine completes_event (exec_reloadStepEnd ..) hheld ?_
  rw [heffect]
  exact ⟨endReload_reload _, (endReload_obj _ (sectorKey_config hq4 (by decide))).trans (loseSector_state _ hq4)⟩

theorem step2_completes (hq : r.sector < quadCount s.variant) (hstep : r.step = 2) : Completes (.reloadStepEnd t ok) s
    (fun u => u.reload = some ⟨r.sector, 3⟩ ∧ u.obj (K.configSectorState r.sector) = 3 ∧
      u.obj (K.configSectorFrozenFrom r.sector) = (s.begin_ t).now ∧
      ∀ i < 64, u.obj (K.tileRouteSel (64 * r.sector + i)) = 0xFF ∧ u.obj (K.tilePadEntry (64 * r.sector + i)) = 0) (fun _ => True) := by
  have hq4 := hq.trans_le (quadCount_le s.variant)
  have heffect := reloadStep_eq (s := s.begin_ t) (ok := ok) hr
  rw [hstep] at heffect
  obtain ⟨hstate, hfrom, hcut⟩ := freezeSector_shows (s := s.begin_ t) hq4
  refine completes_event (exec_reloadStepEnd ..) hheld ?_
  rw [heffect]
  exact ⟨rfl, hstate, hfrom.trans (linesCut_now ..), hcut⟩

theorem step7_completes (hq : r.sector < quadCount s.variant) (hstep : r.step = 7) : Completes (.reloadStepEnd t ok) s
    (fun u => u.reload = some ⟨r.sector, 8⟩ ∧ u.obj (K.configSectorState r.sector) = 2 ∧
      u.obj (K.configSectorReleased r.sector) = (s.begin_ t).now ∧ u.obj K.configStaged = 0xFF ∧
      ∀ f, u.framesIn r.sector = [f] → f.2.2.1.Nodup →
        ∀ n x, f.2.2.1[n]? = some x → (u.net r.sector).flops x = initialFlops (u.placeCluster f n)) (fun _ => True) := by
  have hq4 := hq.trans_le (quadCount_le s.variant)
  have heffect := reloadStep_eq (s := s.begin_ t) (ok := ok) hr
  rw [hstep] at heffect
  obtain ⟨hstate, hreleased⟩ := releaseSector_shows (s.begin_ t) hq4
  have hkeeps := (sectors_restartLogic ((s.begin_ t).releaseSector r.sector).commitStaged hq4).trans (sectors_commitStaged _)
  have hstate' := (hkeeps.obj _ (sectorKey_config hq4 (by decide))).trans hstate
  have hreleased' := (hkeeps.obj _ (sectorKey_config hq4 (by decide))).trans hreleased
  have hstaged := (restartLogic_staged ((s.begin_ t).releaseSector r.sector).commitStaged hq4).trans (commitStaged_staged _)
  have hflops := fun f hframes hnodup n x hx =>
    restartLogic_flops ((s.begin_ t).releaseSector r.sector).commitStaged r.sector f hframes hnodup (n := n) (x := x) hx
  refine completes_event (exec_reloadStepEnd ..) hheld ?_
  rw [heffect]
  generalize (((s.begin_ t).releaseSector r.sector).commitStaged).restartLogic r.sector = w at hstate' hreleased' hstaged hflops ⊢
  exact ⟨rfl, hstate', hreleased', hstaged, hflops⟩

theorem step8_completes (hq : r.sector < quadCount s.variant) (hstep : r.step = 8) : Completes (.reloadStepEnd t ok) s
    (fun u => u.reload = none ∧ u.obj (K.configSectorReloads r.sector) = satAdd 32 (s.obj (K.configSectorReloads r.sector)) 1)
    (fun _ => True) := by
  have hq4 := hq.trans_le (quadCount_le s.variant)
  have heffect := reloadStep_eq (s := s.begin_ t) (ok := ok) hr
  rw [hstep] at heffect
  refine completes_event (exec_reloadStepEnd ..) hheld ?_
  rw [heffect]
  exact ⟨endReload_reload _, (endReload_obj _ (sectorKey_config hq4 (by decide))).trans
    (((sectors_endCopy _).obj _ (sectorKey_config hq4 (by decide))).trans (obj_count_self ..))⟩

theorem step8_sets (hsafe : s.safeAsk = 0) (hstep : r.step = 8) (hswaps : s.swaps = []) (hcopying : s.copying = false) (hmoves : s.moves = []) :
    Sets (.reloadStepEnd t ok) s [(K.configSectorReloads r.sector, satAdd 32 (s.obj (K.configSectorReloads r.sector)) 1)]
      (fun u => u.reload = none) := by
  have heffect := reloadStep_eq (s := s.begin_ t) (ok := ok) hr
  rw [hstep] at heffect
  have hcopy : ((s.begin_ t).count (K.configSectorReloads r.sector) 32 1).endCopy = (s.begin_ t).count (K.configSectorReloads r.sector) 32 1 := by
    rw [endCopy_eq, count_copying, begin_copying, hcopying]
    exact if_neg (by simp)
  have hend (u : State) (hm : u.moves = []) (hs : u.swaps = []) : u.endReload = reloadOver u := by
    have hpumped : (reloadOver u).pumpMoves = reloadOver u := by
      have hm' : (reloadOver u).moves = [] := hm
      rw [State.pumpMoves, hm']
      rfl
    have hs' : (reloadOver u).swaps = [] := hs
    have hends : u.endReload = (reloadOver u).pumpMoves.pumpSwaps := rfl
    rw [hends, hpumped, State.pumpSwaps, hs']
    rfl
  have hover : xReloadStep ok (s.begin_ t) = reloadOver ((s.begin_ t).count (K.configSectorReloads r.sector) 32 1) := by
    rw [heffect]
    exact (congrArg State.endReload hcopy).trans (hend _ ((count_moves ..).trans hmoves) ((count_swaps ..).trans hswaps))
  have hputs := (puts_refl (s.begin_ t)).count (K.configSectorReloads r.sector) 32 1 List.not_mem_nil
  refine sets_event (exec_reloadStepEnd ..) ⟨hheld, hsafe⟩ ?_ ?_ ?_ <;> rw [hover]
  · exact (leaves_reloadOver _).trans hputs.leaves
  · exact hputs.holds
  · rfl

end

end

end Sys2Proof.Proofs
end

section
/-! # Scrubbing (R320 to R328) -/

set_option Elab.async false

namespace Sys2Proof.Proofs

open Sys2Proof Sys2Proof.Machine Sys2Proof.Laws

section
variable {s u v : State} {a b k n t : Nat} {f : Finding}

/-! ## What the scrubber shows of its pass -/

/-- The objects that show the pass and the faults of the map. -/
def passKeys : List Nat :=
  [K.scrubVoteFixes, K.scrubStatus, K.scrubFlags, K.scrubMapBad, K.scrubPosition, K.scrubPasses, K.scrubPassMs]

theorem obj_showAll (s : State) (h : k ∉ passKeys) : s.showAll.obj k = s.obj k :=
  obj_set_ne _ _ fun e => h (e ▸ (by decide : K.scrubStatus ∈ passKeys))

theorem obj_set_pass (s : State) (x : Nat) {i : Nat} (hi : i ∈ passKeys) (h : k ∉ passKeys) : (s.set i x).obj k = s.obj k :=
  obj_set_ne _ _ fun e => h (e ▸ hi)

theorem obj_count_pass (s : State) (w x : Nat) {i : Nat} (hi : i ∈ passKeys) (h : k ∉ passKeys) : (s.count i w x).obj k = s.obj k :=
  obj_set_pass s _ hi h

theorem obj_endPass (s : State) (h : k ∉ passKeys) : s.endPass.obj k = s.obj k := by
  unfold State.endPass
  extract_lets ms timed u
  have htimed : timed.obj k = s.obj k :=
    (obj_set_pass _ _ (by decide : K.scrubPassMs ∈ passKeys) h).trans (obj_set_pass _ _ (by decide : K.scrubPasses ∈ passKeys) h)
  have hu : u.obj k = timed.obj k := rfl
  exact (obj_showAll _ h).trans ((obj_set_pass _ _ (by decide : K.scrubStatus ∈ passKeys) h).trans (hu.trans htimed))

theorem obj_nextFrame (s : State) (a : Nat) (h : k ∉ passKeys) : (s.nextFrame a).obj k = s.obj k := by
  unfold State.nextFrame
  split
  · exact obj_set_pass _ _ (by decide) h
  · exact (obj_set_pass _ _ (by decide) h).trans (obj_endPass s h)

theorem obj_voteFix (s : State) (x : Nat) (h : k ∉ passKeys) : (s.voteFix x).obj k = s.obj k := by
  unfold State.voteFix
  split
  · rfl
  · exact (obj_set_pass _ _ (by decide) h).trans (obj_count_pass _ _ _ (by decide) h)

theorem obj_mapFaults (s : State) (a : Nat) (f : Finding) (h : k ∉ passKeys) (hk : k < 0x700000) : (s.mapFaults a f).obj k = s.obj k := by
  unfold State.mapFaults
  extract_lets seg newSeg newTab marked counted
  split
  · have hmarked : marked.obj k = s.obj k := rfl
    exact (obj_raise_of_lt _ _ _ hk).trans ((obj_showAll _ h).trans ((obj_count_pass _ _ _ (by decide) h).trans
      ((obj_set_pass _ _ (by decide) h).trans hmarked)))
  · rfl

/-! ## A frame read -/

/-- What is done about a frame: the votes and the map first. -/
def frameJudged (s : State) (f : Finding) : State := (s.voteFix f.votes).mapFaults (s.obj K.scrubPosition) f

theorem scrubFrame_eq (hon : isOn (s.obj K.scrubStatus) = true) (hruns : s.scrubRuns ≠ []) (hscrubs : s.scrubs (s.obj K.scrubPosition) = true) :
    xScrubFrame f s = (if f.bits.isEmpty && !f.onehot then frameJudged s f else (frameJudged s f).actOn (s.obj K.scrubPosition) f).nextFrame
      (s.obj K.scrubPosition) := by
  have hskip : (!isOn (s.obj K.scrubStatus) || s.scrubRuns.isEmpty) = false := by
    rw [hon, List.isEmpty_eq_false_iff.2 hruns]
    rfl
  unfold xScrubFrame
  rw [hskip]
  simp only [hscrubs, if_true, Bool.false_eq_true, if_false]
  rfl

/-- The log takes a finding. -/
theorem obj_logFinding (s : State) (a kind : Nat) (map all : Bool) (k : Nat) : (s.logFinding a kind map all).obj k = s.obj k := rfl

/-- The keys of the scrubber's counters. -/
def ScrubKey (k : Nat) : Prop := 0x608100 ≤ k ∧ k < 0x608200 ∧ k % 256 ≤ 5

theorem ScrubKey.lt (h : ScrubKey k) : k < 0x700000 := h.2.1.trans (by decide)

theorem obj_pumpMoves (s : State) (k : Nat) : s.pumpMoves.obj k = s.obj k := by
  have hpump (ms : List Move) (t : State) : (t.pumpMovesFrom ms).obj k = t.obj k := by
    induction ms generalizing t with
    | nil => rfl
    | cons m ms ih =>
      rw [State.pumpMovesFrom]
      split
      · split
        · exact (ih _).trans rfl
        · exact (ih _).trans rfl
      · exact ih t
  exact hpump _ s

theorem obj_queueMove (s : State) (j k : Nat) : (s.queueMove j).obj k = s.obj k := obj_pumpMoves _ k

theorem obj_modCtx (s : State) (c : Nat) (f : Ctx → Ctx) (k : Nat) : (s.modCtx c f).obj k = s.obj k := rfl

theorem obj_dropCopy (s : State) (m : Move) (k : Nat) : (s.dropCopy m).obj k = s.obj k := by
  have hrings : (s.leaveRings m.piece (256 + m.piece)).obj k = s.obj k :=
    foldl_keeps (·.obj k) _ _ _ fun _ _ => rfl
  unfold State.dropCopy
  split
  · rfl
  · exact hrings

theorem obj_addDefect (s : State) (unit cause : Nat) (hlow : 0x300000 ≤ k) (hk : k < 0x700000) : (s.addDefect 6 unit cause).obj k = s.obj k := by
  have hstate : k ≠ K.placerState := by
    have : K.placerState < 0x300000 := by decide
    omega
  have hcount : k ≠ K.placerDefectCount := by
    have : K.placerDefectCount < 0x300000 := by decide
    omega
  unfold State.addDefect
  extract_lets pad listed
  split
  · rfl
  split
  · exact obj_set_ne _ _ hstate
  · have hlisted : listed.obj k = s.obj k := rfl
    have hshown : (listed.showDefects 6 unit).obj k = listed.obj k := by
      unfold State.showDefects
      exact obj_set_ne _ _ hcount
    exact (obj_raise_of_lt _ _ _ hk).trans (hshown.trans hlisted)

theorem obj_essentialUpset (s : State) (q x : Nat) (h : ScrubKey k) : (s.essentialUpset q x).obj k = s.obj k := by
  obtain ⟨hlo, hhi, hsub⟩ := h
  have hupset (c : Nat) : k ≠ K.ctxUpsetLine c := fun e => by
    rw [e, K.ctxUpsetLine, key_mod (by decide)] at hsub
    exact absurd hsub (by decide)
  unfold State.essentialUpset
  extract_lets listed
  have hlisted : listed.obj k = s.obj k := obj_addDefect s _ _ (by omega) (by omega)
  clear_value listed
  split
  · split
    · exact hlisted
    next m _ =>
      extract_lets dropped
      have hdropped : dropped.obj k = listed.obj k := obj_dropCopy ..
      clear_value dropped
      split <;> exact (obj_pumpMoves _ k).trans (Eq.trans rfl (hdropped.trans hlisted))
  next e _ =>
    extract_lets j marked
    have hmarked : marked.obj k = listed.obj k := foldl_keeps (·.obj k) _ _ _ fun _ c => obj_set_ne _ _ (hupset c)
    clear_value marked
    split
    · exact (obj_queueMove ..).trans (hmarked.trans hlisted)
    · exact hmarked.trans hlisted

theorem obj_tellPlacer (s : State) (a : Nat) (h : ScrubKey k) : (s.tellPlacer a).obj k = s.obj k := by
  unfold State.tellPlacer
  split
  · rfl
  · exact obj_essentialUpset s _ _ h

/-! ## A frame beyond correction -/

/-- An error that the shadow mends, counted and logged. -/
def restoredCounted (s : State) (a : Nat) : State :=
  (((s.count K.scrubRestored 32 1).count K.scrubEssential 32 1).logFinding a 3
    (isSectorFrame a || (s.frameOwner (frameSector a) (frameCluster a)).isSome) (s.allEssential a)).raise 755 a

/-- An error beyond repair, counted and logged. -/
def lostCounted (s : State) (a : Nat) : State :=
  (s.count K.scrubLost 32 1).logFinding a 5 (isSectorFrame a || (s.frameOwner (frameSector a) (frameCluster a)).isSome) (s.allEssential a)

theorem actOn_beyond (s : State) (a : Nat) (honehot : f.onehot = false) (hcorrect : f.correctable = false) : s.actOn a f =
    if f.restorable && s.obj K.deviceStandbyShadow = 1 then (restoredCounted s a).tellPlacer a
    else (lostCounted s a).loseSector (frameSector a) := by
  unfold State.actOn
  simp only [honehot, hcorrect, Bool.false_eq_true, if_false]
  rfl

theorem lostCounted_lost (s : State) (a : Nat) : (lostCounted s a).obj K.scrubLost = satAdd 32 (s.obj K.scrubLost) 1 := by
  rw [lostCounted, obj_logFinding, obj_count_self]

theorem obj_loseSector (s : State) (q : Nat) (hk : k < 0x700000) (hstate : k ≠ K.configSectorState q) (hleft : k ≠ K.configSectorClustersLeft q) :
    (s.loseSector q).obj k = s.obj k := by
  unfold State.loseSector
  extract_lets shown moved
  have hshown : shown.obj k = s.obj k := (obj_set_ne _ _ hleft).trans (obj_set_ne _ _ hstate)
  have hmoved : moved.obj k = shown.obj k := by
    refine foldl_keeps (·.obj k) _ _ _ fun st e => ?_
    split
    · exact obj_queueMove ..
    · exact foldl_keeps (·.obj k) _ _ _ fun _ _ => rfl
  exact (obj_raise_of_lt _ _ _ hk).trans (hmoved.trans hshown)

theorem frameSector_lt (a : Nat) : frameSector a < 4 := Nat.mod_lt _ (by decide)

theorem scrubKey_passKeys (h : ScrubKey k) : k ∉ passKeys := fun hm => by
  obtain ⟨hlo, hhi, hsub⟩ := h
  simp only [passKeys, List.mem_cons, List.not_mem_nil, or_false] at hm
  obtain rfl | rfl | rfl | rfl | rfl | rfl | rfl := hm <;> revert hlo hsub <;> decide

theorem obj_frameJudged (s : State) (f : Finding) (h : k ∉ passKeys) (hk : k < 0x700000) : (frameJudged s f).obj k = s.obj k :=
  (obj_mapFaults _ _ f h hk).trans (obj_voteFix s _ h)

theorem counterKey (h : k ∈ [K.scrubEssential, K.scrubRestored, K.scrubLost]) : ScrubKey k := by
  simp only [List.mem_cons, List.not_mem_nil, or_false] at h
  obtain rfl | rfl | rfl := h <;> exact ⟨by decide, by decide, by decide⟩

theorem bits_found (hbits : f.bits ≠ []) : ¬ (f.bits.isEmpty && !f.onehot) = true := by
  rw [List.isEmpty_eq_false_iff.2 hbits, Bool.false_and]
  decide

section
variable (hheld : s.held = false) (hon : isOn (s.obj K.scrubStatus) = true) (hruns : s.scrubRuns ≠ [])
  (hscrubs : s.scrubs (s.obj K.scrubPosition) = true) (hbits : f.bits ≠ []) (honehot : f.onehot = false)
include hheld hon hruns hscrubs hbits honehot

theorem restored_completes (hcorrect : f.correctable = false) (hrestorable : f.restorable = true) (hshadow : s.obj K.deviceStandbyShadow = 1) :
    Completes (.scrubFrame t f) s
      (fun u => u.obj K.scrubRestored = satAdd 32 (s.obj K.scrubRestored) 1 ∧
        u.obj K.scrubEssential = satAdd 32 (s.obj K.scrubEssential) 1) (fun _ => True) := by
  have heffect := scrubFrame_eq (s := s.begin_ t) (f := f) hon hruns hscrubs
  have hshadow' : (frameJudged (s.begin_ t) f).obj K.deviceStandbyShadow = 1 := (obj_frameJudged _ _ (by decide) (by decide)).trans hshadow
  have hmends : (f.restorable && decide ((frameJudged (s.begin_ t) f).obj K.deviceStandbyShadow = 1)) = true := by
    rw [hrestorable, hshadow']
    rfl
  rw [if_neg (bits_found hbits), actOn_beyond _ _ honehot hcorrect, if_pos hmends] at heffect
  have hkept {k : Nat} (hk : ScrubKey k) : (xScrubFrame f (s.begin_ t)).obj k =
      (((frameJudged (s.begin_ t) f).count K.scrubRestored 32 1).count K.scrubEssential 32 1).obj k := by
    rw [heffect]
    exact (obj_nextFrame _ _ (scrubKey_passKeys hk)).trans ((obj_tellPlacer _ _ hk).trans (obj_raise_of_lt _ _ _ hk.lt))
  have hjudged {k : Nat} (hk : ScrubKey k) : (frameJudged (s.begin_ t) f).obj k = s.obj k := obj_frameJudged _ _ (scrubKey_passKeys hk) hk.lt
  have hrestored : ScrubKey K.scrubRestored := counterKey (by simp)
  have hessential : ScrubKey K.scrubEssential := counterKey (by simp)
  refine completes_event (exec_scrubFrame ..) hheld ⟨?_, ?_⟩
  · rw [hkept hrestored, obj_count_ne _ _ _ (by decide), obj_count_self, hjudged hrestored]
  · rw [hkept hessential, obj_count_self, obj_count_ne _ _ _ (by decide), hjudged hessential]

theorem lost_completes (hcorrect : f.correctable = false) (hbeyond : f.restorable = false ∨ s.obj K.deviceStandbyShadow ≠ 1) :
    Completes (.scrubFrame t f) s
      (fun u => u.obj K.scrubLost = satAdd 32 (s.obj K.scrubLost) 1 ∧
        u.obj (K.configSectorState (frameSector (s.obj K.scrubPosition))) = 4) (fun _ => True) := by
  have heffect := scrubFrame_eq (s := s.begin_ t) (f := f) hon hruns hscrubs
  have hshadow : (frameJudged (s.begin_ t) f).obj K.deviceStandbyShadow = s.obj K.deviceStandbyShadow :=
    obj_frameJudged _ _ (by decide) (by decide)
  have hmends : ¬ (f.restorable && decide ((frameJudged (s.begin_ t) f).obj K.deviceStandbyShadow = 1)) = true := by
    rw [hshadow, Bool.and_eq_true, decide_eq_true_eq]
    exact fun h => hbeyond.elim (fun hno => absurd h.1 (by rw [hno]; decide)) fun hno => hno h.2
  rw [if_neg (bits_found hbits), actOn_beyond _ _ honehot hcorrect, if_neg hmends] at heffect
  have hlost : ScrubKey K.scrubLost := counterKey (by simp)
  have hq := frameSector_lt (s.obj K.scrubPosition)
  have hne {b : Nat} (hb : b < 256) : K.scrubLost ≠ key (0x6048 + frameSector (s.obj K.scrubPosition)) b :=
    key_ne (by decide) hb (.inl (by omega))
  have hpass : K.configSectorState (frameSector (s.obj K.scrubPosition)) ∉ passKeys := fun hm => by
    obtain ⟨hlo, hhi, -⟩ := sectorKey_config (b := 1) hq (by decide)
    have hall : ∀ k ∈ passKeys, 0x605000 ≤ k := by decide
    exact absurd hhi (Nat.not_lt.2 (hall _ hm))
  have hcount : (frameJudged (s.begin_ t) f).obj K.scrubLost = s.obj K.scrubLost :=
    obj_frameJudged _ _ (scrubKey_passKeys hlost) hlost.lt
  have hposition : (s.begin_ t).obj K.scrubPosition = s.obj K.scrubPosition := rfl
  rw [hposition] at heffect
  generalize frameJudged (s.begin_ t) f = v at heffect hcount
  refine completes_event (exec_scrubFrame ..) hheld ?_
  rw [heffect, obj_nextFrame _ _ hpass, obj_nextFrame _ _ (scrubKey_passKeys hlost)]
  refine ⟨?_, loseSector_state _ hq⟩
  rw [obj_loseSector _ _ hlost.lt (hne (by decide)) (hne (by decide)), lostCounted_lost, hcount]

end

/-! ## A frame in order, and a corrected one -/

theorem frameJudged_quiet (hvotes : f.votes = 0) (hmap : f.mapBad = false) (htable : f.tableBad = false) : frameJudged s f = s := by
  unfold frameJudged State.voteFix State.mapFaults
  simp only [hvotes, hmap, htable, if_true, Bool.false_and, Bool.or_self, Bool.false_eq_true, if_false]

theorem nextFrame_goesOn (h : s.frameAfter a = some b) : s.nextFrame a = s.set K.scrubPosition b := by
  rw [State.nextFrame, h]

theorem orderly_sets (h : Awake s) (hon : isOn (s.obj K.scrubStatus) = true) (hruns : s.scrubRuns ≠ [])
    (hscrubs : s.scrubs (s.obj K.scrubPosition) = true) (hafter : s.frameAfter (s.obj K.scrubPosition) = some b) (honehot : f.onehot = false)
    (hvotes : f.votes = 0) (hmap : f.mapBad = false) (htable : f.tableBad = false) (hbits : f.bits = []) :
    Sets (.scrubFrame t f) s [(K.scrubPosition, b)] (fun u => u.scrub = s.scrub) := by
  have heffect := scrubFrame_eq (s := s.begin_ t) (f := f) hon hruns hscrubs
  have hafter' : (s.begin_ t).frameAfter ((s.begin_ t).obj K.scrubPosition) = some b := hafter
  have hquiet : (f.bits.isEmpty && !f.onehot) = true := by
    rw [hbits, honehot]
    rfl
  rw [if_pos hquiet, frameJudged_quiet hvotes hmap htable, nextFrame_goesOn hafter'] at heffect
  refine sets_event (exec_scrubFrame ..) h ?_ ?_ ?_ <;> rw [heffect]
  · exact (puts_set ..).leaves
  · exact (puts_set ..).holds
  · exact set_scrub ..

/-- A corrected error, counted and logged. -/
def correctedCounted (s : State) (a : Nat) : State :=
  (s.count K.scrubCorrected 32 1).logFinding a 1 (isSectorFrame a || (s.frameOwner (frameSector a) (frameCluster a)).isSome) (s.allEssential a)

theorem actOn_corrected (s : State) (a : Nat) (honehot : f.onehot = false) (hcorrect : f.correctable = true) (hall : s.allEssential a = false)
    (hnone : f.bits.any (s.bitEssential a) = false) : s.actOn a f = correctedCounted s a := by
  unfold State.actOn correctedCounted
  simp only [honehot, hcorrect, hall, hnone, Bool.false_eq_true, if_false, if_true, Bool.or_self]

theorem frameAfter_congr (hobj : ∀ k, k ≠ K.scrubCorrected → u.obj k = s.obj k) (hvariant : u.variant = s.variant) (hmoves : u.moves = s.moves)
    (a : Nat) : u.frameAfter a = s.frameAfter a := by
  have hstate (q : Nat) (hq : q < 4) : u.obj (K.configSectorState q) = s.obj (K.configSectorState q) :=
    hobj _ (key_ne (by decide) (by decide) (.inl (by omega)))
  have hsector (j : Nat) : u.sectorOf j = s.sectorOf j := hobj _ (key_ne (by decide) (by decide) (.inr (by decide)))
  have hmoving (q x : Nat) : u.clusterMoving q x = s.clusterMoving q x := by simp only [State.clusterMoving, hmoves, hsector]
  have hscrubs : u.scrubs a = s.scrubs a := by simp only [State.scrubs, hstate _ (frameSector_lt a), hmoving]
  have hruns : u.scrubRuns = s.scrubRuns := by
    have hquads : (allQuads u.variant).filter (fun q => u.obj (K.configSectorState q) == 2) =
        (allQuads s.variant).filter (fun q => s.obj (K.configSectorState q) == 2) := by
      rw [hvariant]
      refine List.filter_congr fun q hq => ?_
      rw [hstate q ((mem_allQuads.1 hq).trans_le (quadCount_le _))]
    simp only [State.scrubRuns, hquads, hmoving]
  simp only [State.frameAfter, hscrubs, hruns]

theorem toLE_length (n v : Nat) : (toLE n v).length = n := by
  induction n generalizing v with
  | zero => rfl
  | succ n ih => exact congrArg (· + 1) (ih _)

theorem corrected_sets (h : Awake s) (hon : isOn (s.obj K.scrubStatus) = true) (hruns : s.scrubRuns ≠ [])
    (hscrubs : s.scrubs (s.obj K.scrubPosition) = true) (hafter : s.frameAfter (s.obj K.scrubPosition) = some b) (honehot : f.onehot = false)
    (hvotes : f.votes = 0) (hmap : f.mapBad = false) (htable : f.tableBad = false) (hbits : f.bits ≠ []) (hcorrect : f.correctable = true)
    (hall : s.allEssential (s.obj K.scrubPosition) = false) (hnone : f.bits.any (s.bitEssential (s.obj K.scrubPosition)) = false) :
    Sets (.scrubFrame t f) s [(K.scrubCorrected, satAdd 32 (s.obj K.scrubCorrected) 1), (K.scrubPosition, b)]
      (fun u => ∃ r, u.scrub.log.head? = some r ∧ r.take 15 = toLE 12 (s.begin_ t).now ++ toLE 3 (s.obj K.scrubPosition)) := by
  have heffect := scrubFrame_eq (s := s.begin_ t) (f := f) hon hruns hscrubs
  have hafter' : (correctedCounted (s.begin_ t) (s.obj K.scrubPosition)).frameAfter (s.obj K.scrubPosition) = some b :=
    (frameAfter_congr (s := s.begin_ t) (fun k hk => obj_count_ne _ _ _ hk) rfl rfl _).trans hafter
  have hacted : (s.begin_ t).actOn (s.obj K.scrubPosition) f = correctedCounted (s.begin_ t) (s.obj K.scrubPosition) :=
    actOn_corrected _ _ honehot hcorrect hall hnone
  have hdone : xScrubFrame f (s.begin_ t) = (correctedCounted (s.begin_ t) (s.obj K.scrubPosition)).set K.scrubPosition b := by
    rw [heffect, if_neg (bits_found hbits), frameJudged_quiet hvotes hmap htable]
    exact (congrArg (·.nextFrame (s.obj K.scrubPosition)) hacted).trans (nextFrame_goesOn hafter')
  have hputs : Puts [(K.scrubPosition, b), (K.scrubCorrected, satAdd 32 (s.obj K.scrubCorrected) 1)]
      ((correctedCounted (s.begin_ t) (s.obj K.scrubPosition)).set K.scrubPosition b) (s.begin_ t) := by
    have hcounted := (puts_refl (s.begin_ t)).count K.scrubCorrected 32 1 List.not_mem_nil
    have hlogged : Puts [] (correctedCounted (s.begin_ t) (s.obj K.scrubPosition)) ((s.begin_ t).count K.scrubCorrected 32 1) :=
      puts_of_dict rfl rfl rfl rfl rfl rfl
    have hne : K.scrubPosition ≠ K.scrubCorrected := by decide
    exact (hcounted.same hlogged).set K.scrubPosition b fun hm => hne (List.mem_singleton.1 hm)
  have hordered := hputs.reorder (List.Perm.swap ..)
  refine sets_event (exec_scrubFrame ..) h ?_ ?_ ?_ <;> rw [hdone]
  · exact hordered.leaves
  · exact hordered.holds
  · refine ⟨_, rfl, List.take_left' ?_⟩
    rw [List.length_append, toLE_length, toLE_length]

/-! ## The watchdog -/

/-- The sequencer's resets, noted. -/
def resetNoted (s : State) : State :=
  s.modScrub (fun x => { x with resets := x.resets + 1, forced := x.forced || decide (1 ≤ x.resets) })

/-- The flags after the watchdog has acted. -/
def watchdogFlags (again : Prop) [Decidable again] (flags : Nat) : Nat := if again then withBit (withBit flags 2 true) 1 true else withBit flags 2 true

/-- A restart is counted and shown. -/
def restartShown (s : State) : State :=
  let u := (resetNoted s).count K.scrubRestarts 32 1
  u.set K.scrubFlags (watchdogFlags (1 ≤ s.scrub.resets) (u.obj K.scrubFlags))

theorem scrubWatchdog_eq (hon : isOn (s.obj K.scrubStatus) = true) : xScrubWatchdog s =
    ((restartShown s).showAll.raise 755 ((restartShown s).showAll.obj K.scrubPosition)).nextFrame ((restartShown s).showAll.obj K.scrubPosition) := by
  have hstart : ¬ (!isOn (s.obj K.scrubStatus)) = true := by
    rw [hon]
    decide
  unfold xScrubWatchdog
  rw [if_neg hstart]
  rfl

theorem watchdogFlags_bits (again : Prop) [Decidable again] (flags : Nat) : (watchdogFlags again flags).testBit 2 = true ∧
    (again → (watchdogFlags again flags).testBit 1 = true) := by
  unfold watchdogFlags
  split
  · exact ⟨(testBit_withBit_of_lt _ _ (by decide)).trans (testBit_withBit_self ..), fun _ => testBit_withBit_self ..⟩
  next hno => exact ⟨testBit_withBit_self .., fun h => absurd h hno⟩

/-- Moving on changes neither the flags nor the restarts nor the events. -/
theorem obj_nextFrame_shown (s : State) (a : Nat) (h : k ∉ [K.scrubStatus, K.scrubPosition, K.scrubPasses, K.scrubPassMs]) :
    (s.nextFrame a).obj k = s.obj k := by
  have hset (t : State) (x : Nat) {i : Nat} (hi : i ∈ [K.scrubStatus, K.scrubPosition, K.scrubPasses, K.scrubPassMs]) :
      (t.set i x).obj k = t.obj k := obj_set_ne _ _ fun e => h (e ▸ hi)
  have hend : s.endPass.obj k = s.obj k := by
    unfold State.endPass
    extract_lets ms timed u
    have htimed : timed.obj k = s.obj k := (hset _ _ (by simp)).trans (hset _ _ (by simp))
    have hu : u.obj k = timed.obj k := rfl
    exact (hset _ _ (by simp)).trans ((hset _ _ (by simp)).trans (hu.trans htimed))
  unfold State.nextFrame
  split
  · exact hset _ _ (by simp)
  · exact (hset _ _ (by simp)).trans hend

theorem watchdog_completes (hheld : s.held = false) (hon : isOn (s.obj K.scrubStatus) = true) :
    Completes (.scrubWatchdog t) s
      (fun u => u.obj K.scrubRestarts = satAdd 32 (s.obj K.scrubRestarts) 1 ∧ (u.obj K.scrubFlags).testBit 2 = true ∧
        (1 ≤ s.scrub.resets → (u.obj K.scrubFlags).testBit 1 = true) ∧
        u.obj (K.eventCount 755) = satAdd 32 (s.obj (K.eventCount 755)) 1) (fun _ => True) := by
  have heffect := scrubWatchdog_eq (s := s.begin_ t) hon
  have hrestarts : (restartShown (s.begin_ t)).obj K.scrubRestarts = satAdd 32 (s.obj K.scrubRestarts) 1 :=
    (obj_set_ne _ _ (by decide : K.scrubRestarts ≠ K.scrubFlags)).trans (obj_count_self ..)
  have hflags : (restartShown (s.begin_ t)).obj K.scrubFlags = watchdogFlags (1 ≤ s.scrub.resets) (s.obj K.scrubFlags) := by
    rw [restartShown, obj_set_self, obj_count_ne _ _ _ (by decide)]
    rfl
  have hevent : (restartShown (s.begin_ t)).showAll.obj (K.eventCount 755) = s.obj (K.eventCount 755) :=
    (obj_set_ne _ _ (by decide : K.eventCount 755 ≠ K.scrubStatus)).trans ((obj_set_ne _ _ (by decide : K.eventCount 755 ≠ K.scrubFlags)).trans
      (obj_count_ne _ _ _ (by decide)))
  obtain ⟨hbit2, hbit1⟩ := watchdogFlags_bits (1 ≤ s.scrub.resets) (s.obj K.scrubFlags)
  generalize restartShown (s.begin_ t) = v at heffect hrestarts hflags hevent
  have hkept {k : Nat} (h : k ∉ [K.scrubStatus, K.scrubPosition, K.scrubPasses, K.scrubPassMs]) (hk : k < 0x700000) :
      (xScrubWatchdog (s.begin_ t)).obj k = v.obj k := by
    rw [heffect, obj_nextFrame_shown _ _ h, obj_raise_of_lt _ _ _ hk]
    exact obj_set_ne _ _ fun e => h (e ▸ List.mem_cons_self ..)
  refine completes_event (exec_scrubWatchdog ..) hheld ⟨?_, ?_, fun hagain => ?_, ?_⟩
  · rw [hkept (by decide) (by decide), hrestarts]
  · rw [hkept (by decide) (by decide), hflags, hbit2]
  · rw [hkept (by decide) (by decide), hflags, hbit1 hagain]
  · obtain ⟨-, hcount, -, -⟩ := raise_spec v.showAll 755 (v.showAll.obj K.scrubPosition) (hasSource_of_ge _ (by decide) (by decide))
    rw [heffect, obj_nextFrame_shown _ _ (by decide), hcount, hevent]

end

/-! ## Writes -/

section
variable {s : State} {q : Req} {l : Loc} {k : Nat}

theorem putLogic_reload {v : State} {p : Put} (hform : p.l.row.form = .sector) (hsub : p.sub = 2) :
    putLogic v p = xSectorReload p.l.unit (v.putValue p) := by
  simp only [putLogic, hform, hsub, decide_true, Bool.and_self, if_true]

theorem reload_writes (hsafe : s.safeAsk = 0) (hk : k < 4) (h : Accepts s (onObject q (K.configSectorReload k)) l) :
    Writes (.configSectorReload q k) s (onObject q (K.configSectorReload k)) l [] (fun u => u.reload = some ⟨k, 1⟩) := by
  have hmod : K.configSectorReload k % 256 = 2 := key_mod (by decide)
  have hdiv : K.configSectorReload k / 256 = 0x6048 + k := key_div (by decide)
  obtain ⟨hform, hattr, hunit, -⟩ := accepted_row h (by omega) (place_configSectorReload k hk)
  have hput : putLogic (s.access (onObject q (K.configSectorReload k))) (putAt s q (K.configSectorReload k) l) =
      reloadAt (s.access (onObject q (K.configSectorReload k))) k 1 := by
    rw [putLogic_reload hform (by rw [putAt_sub, hmod]), putValue_action _ hattr, putAt_l, hunit]
    rfl
  refine writes_of_put (asks_of_writesOf (exec_configSectorReload q k s) (by simpa using hk)) hsafe h (written_logic (by omega) (by omega)) hput
    (leaves_reloadAt ..) (holds_nil _) ?_
  simp only [answeredWrite, answered_reload, record_reload]
  rfl

theorem putLogic_scrub {v : State} {p : Put} (hform : p.l.row.form = .single) (hkey : p.key_ = K.scrubEnable) :
    putLogic v p = xScrubEnable p.v (v.putValue p) := by
  simp [putLogic, hform, hkey]

theorem scrubEnable_writes (hsafe : s.safeAsk = 0) (h : Accepts s (onObject q K.scrubEnable) l) :
    Writes (.scrubEnable q) s (onObject q K.scrubEnable) l
      [(K.scrubEnable, ofLE q.body), (K.scrubStatus, enWrite (s.obj K.scrubStatus) (ofLE q.body))] (fun _ => True) := by
  obtain ⟨hform, hattr, -, -⟩ := accepted_row h (by decide) place_scrubEnable
  have hne : K.scrubStatus ≠ K.scrubEnable := by decide
  have hput : putLogic (s.access (onObject q K.scrubEnable)) (putAt s q K.scrubEnable l) =
      ((s.access (onObject q K.scrubEnable)).poke K.scrubEnable (ofLE q.body)).set K.scrubStatus
        (enWrite (s.obj K.scrubStatus) (ofLE q.body)) := by
    rw [putLogic_scrub hform (putAt_key ..), putValue_stored _ hattr, putAt_key, putAt_v, xScrubEnable, obj_poke_ne _ _ hne,
      obj_access h (by decide)]
  exact writes_of_put (exec_scrubEnable q s) hsafe h (written_logic (by decide) (by decide)) hput
    ((leaves_set _ _ (List.mem_cons_of_mem _ (List.mem_cons_self ..))).trans (leaves_poke _ _ (List.mem_cons_self ..)))
    (holds_cons ((obj_set_ne _ _ hne.symm).trans (obj_poke_self ..)) (holds_cons (obj_set_self ..) (holds_nil _))) trivial

end

/-- Settles O55: each step of a reload keeps the objects of the sectors but its own, and the scrubber moves on after what it does about
a frame. -/
theorem sectorsReloadAndFramesAreScrubbed : Obligations.SectorsReloadAndFramesAreScrubbed := by
  unfold Obligations.SectorsReloadAndFramesAreScrubbed
  refine ⟨fun s q l k hsafe hk h => reload_writes hsafe hk h, fun s t r hheld hr hq => ?_, ?_, ?_,
    fun s q l hsafe h => scrubEnable_writes hsafe h, fun s t hheld hon => watchdog_completes hheld hon⟩
  · exact ⟨step1_completes hheld hr, step2_completes hheld hr hq, step3_sets hheld hr, step4_sets hheld hr, step5_sets hheld hr,
      stepFails_completes hheld hr hq, step6_sets hheld hr, step6_waits hheld hr, step7_completes hheld hr hq,
      step8_completes hheld hr hq, step8_sets hheld hr⟩
  · intro s t f hheld hon hruns hscrubs honehot hbits hcorrect
    exact ⟨fun hrestorable hshadow => restored_completes hheld hon hruns hscrubs hbits honehot hcorrect hrestorable hshadow,
      fun hbeyond => lost_completes hheld hon hruns hscrubs hbits honehot hcorrect hbeyond⟩
  · intro s t b f h hon hruns a hscrubs hafter honehot hvotes hmap htable
    exact ⟨fun hbits => orderly_sets h hon hruns hscrubs hafter honehot hvotes hmap htable hbits,
      fun hbits hcorrect hall hnone => corrected_sets h hon hruns hscrubs hafter honehot hvotes hmap htable hbits hcorrect hall hnone⟩

end Sys2Proof.Proofs
end

section
/-! # What the shadow of STANDBY holds after a copy (R91, R311) -/

set_option Elab.async false

namespace Sys2Proof.Proofs

open Sys2Proof Sys2Proof.Machine Sys2Proof.Laws

/-! ## Reading a map in which a range has been replaced -/

section
variable {α : Type} {d : Nat → α} {m n : List (Nat × α)} {q : Nat}

theorem find_filter_self {p : Nat → Bool} (h : p q = true) : Sp.find (m.filter (fun e => p e.1)) q = Sp.find m q := by
  induction m with
  | nil => rfl
  | cons e m ih =>
    obtain ⟨k, v⟩ := e
    by_cases hk : k = q
    · subst hk
      simp [Sp.find, h]
    · by_cases hp : p k = true <;> simp [Sp.find, hk, hp, ih]

theorem find_none_of_keys (h : ∀ e ∈ m, e.1 ≠ q) : Sp.find m q = none := by
  induction m with
  | nil => rfl
  | cons e m ih =>
    obtain ⟨k, v⟩ := e
    rw [Sp.find, if_neg (h _ (List.mem_cons_self ..)), ih fun e he => h e (List.mem_cons_of_mem _ he)]

theorem find_append_none (h : Sp.find m q = none) : Sp.find (m ++ n) q = Sp.find n q := by
  induction m with
  | nil => rfl
  | cons e m ih =>
    obtain ⟨k, v⟩ := e
    by_cases hk : k = q
    · simp [Sp.find, hk] at h
    · simp only [Sp.find, hk, if_false] at h
      simp only [List.cons_append, Sp.find, hk, if_false, ih h]

theorem find_append_right_none (h : Sp.find n q = none) : Sp.find (m ++ n) q = Sp.find m q := by
  induction m with
  | nil => exact h
  | cons e m ih => obtain ⟨k, v⟩ := e; simp only [List.cons_append, Sp.find, ih]

/-- The entries of a range: those equal to the default read so without being listed. -/
theorem get_zip [DecidableEq α] (a : Nat) (xs : List α) (i : Nat) (b : Nat) :
    Sp.get d ((((List.range' b xs.length).map (a + ·)).zip xs).filter (fun e => decide (e.2 ≠ d e.1))) (a + (b + i)) =
      xs.getD i (d (a + (b + i))) := by
  induction xs generalizing i b with
  | nil => rfl
  | cons x xs ih =>
    rw [List.length_cons, List.range'_succ, List.map_cons, List.zip_cons_cons]
    cases i with
    | zero =>
      by_cases hx : x = d (a + b)
      · have hnone : Sp.find ((((List.range' (b + 1) xs.length).map (a + ·)).zip xs).filter (fun e => decide (e.2 ≠ d e.1))) (a + b) = none :=
          find_none_of_keys fun e he => by
            have hmem := (List.of_mem_zip (List.mem_filter.1 he).1).1
            simp only [List.mem_map, List.mem_range'] at hmem
            omega
        rw [List.filter_cons_of_neg (by simp [hx])]
        simp only [Nat.add_zero, Sp.get, hnone, List.getD_cons_zero, hx, Option.getD_none]
      · rw [List.filter_cons_of_pos (by simp [hx])]
        simp only [Nat.add_zero, Sp.get, Sp.find, if_true, List.getD_cons_zero, Option.getD_some]
    | succ i =>
      have hshift : a + (b + (i + 1)) = a + (b + 1 + i) := by omega
      have hne : a + b ≠ a + (b + 1 + i) := by omega
      rw [hshift, List.getD_cons_succ, ← ih i (b + 1)]
      by_cases hx : x = d (a + b)
      · rw [List.filter_cons_of_neg (by simp [hx])]
      · rw [List.filter_cons_of_pos (by simp [hx])]
        simp only [Sp.get, Sp.find, hne, if_false]

theorem get_splice_outside [DecidableEq α] (a c : Nat) (xs : List α) (h : q < a ∨ a + c ≤ q) :
    Sp.get d (Sp.splice d m a c xs) q = Sp.get d m q := by
  have hmiddle : Sp.find ((((List.range (xs.take c).length).map (a + ·)).zip (xs.take c)).filter (fun e => decide (e.2 ≠ d e.1))) q = none :=
    find_none_of_keys fun e he => by
      have hkey := zip_key a _ e (List.mem_filter.1 he).1
      have hlen : (xs.take c).length ≤ c := List.length_take_le ..
      omega
  unfold Sp.splice Sp.get
  rcases h with h | h
  · rw [find_append_right_none (find_none_of_keys fun e he => by simp at he; omega), find_append_right_none hmiddle,
      find_filter_self (p := fun k => decide (k < a)) (decide_eq_true h)]
  · rw [List.append_assoc, find_append_none (find_none_of_keys fun e he => by simp at he; omega), find_append_none hmiddle,
      find_filter_self (p := fun k => decide (a + c ≤ k)) (decide_eq_true h)]

theorem get_splice_inside [DecidableEq α] (a c : Nat) (xs : List α) {i : Nat} (h : i < c) :
    Sp.get d (Sp.splice d m a c xs) (a + i) = xs.getD i (d (a + i)) := by
  have hmiddle := get_zip (d := d) a (xs.take c) i 0
  rw [Nat.zero_add, ← List.range_eq_range', List.getD_eq_getElem?_getD, List.getElem?_take_of_lt h, ← List.getD_eq_getElem?_getD] at hmiddle
  rw [← hmiddle]
  unfold Sp.splice Sp.get
  rw [List.append_assoc, find_append_none (find_none_of_keys fun e he => by simp at he; omega),
    find_append_right_none (find_none_of_keys fun e he => by simp at he; omega)]

end

/-! ## The areas of the shadow -/

section
variable (s : State) {a i : Nat}

theorem fillShadow_obj (off size : Nat) (bs : List Byte) (k : Nat) : (s.fillShadow off size bs).obj k = s.obj k := rfl

theorem fillShadow_outside (off size : Nat) (bs : List Byte) (h : a < s.shadowBase + off ∨ s.shadowBase + off + size ≤ a) :
    (s.fillShadow off size bs).byte a = s.byte a := get_splice_outside _ _ _ h

theorem fillShadow_inside (off size : Nat) (bs : List Byte) (h : i < size) :
    (s.fillShadow off size bs).byte (s.shadowBase + off + i) = bs.getD i 0 := get_splice_inside _ _ _ h

/-- A waveform's bytes stand in its area of the shadow. -/
def waveCopied (s : State) (w : Nat) : State := s.fillShadow (areaWave w).1 (areaWave w).2 ((s.blob (K.dacWaveData w)).getD [])

def programCopied (s : State) : State := s.fillShadow areaProgram.1 areaProgram.2 ((s.blob K.graphProgram).getD [])

def imageCopied (s : State) : State := s.fillShadow areaImage.1 areaImage.2 ((s.blob K.configImage).getD [])

theorem copyShadow_eq : s.copyShadow = (List.range 16).foldl waveCopied (imageCopied (programCopied s)) := rfl

/-- What copies of waveforms leave alone: every object, and the bytes below the first waveform's area. -/
theorem wavesCopied_keep (ws : List Nat) (h : a < s.shadowBase + 0x2800000) :
    (ws.foldl waveCopied s).byte a = s.byte a ∧ ∀ k, (ws.foldl waveCopied s).obj k = s.obj k := by
  induction ws generalizing s with
  | nil => exact ⟨rfl, fun _ => rfl⟩
  | cons w ws ih =>
    obtain ⟨hbyte, hobj⟩ := ih (waveCopied s w) h
    exact ⟨hbyte.trans (fillShadow_outside _ _ _ _ (.inl (by simp only [areaWave]; omega))), fun k => (hobj k).trans (fillShadow_obj ..)⟩

/-- Where every area of the shadow begins, for a state and its copies. -/
theorem programCopied_base : (programCopied s).shadowBase = s.shadowBase := rfl

theorem imageCopied_base : (imageCopied (programCopied s)).shadowBase = s.shadowBase := rfl

theorem copyShadow_waves (h : a < s.shadowBase + 0x2800000) : s.copyShadow.byte a = (imageCopied (programCopied s)).byte a := by
  rw [copyShadow_eq]
  exact (wavesCopied_keep _ _ ((imageCopied_base s).symm ▸ h)).1

theorem imageCopied_outside (h : a < s.shadowBase + 0x400000) : (imageCopied s).byte a = s.byte a :=
  fillShadow_outside s areaImage.1 areaImage.2 _ (.inl h)

theorem copyShadow_below (h : a < s.shadowBase) : s.copyShadow.byte a = s.byte a := by
  rw [copyShadow_waves s (by omega), imageCopied_outside (programCopied s) (Nat.lt_of_lt_of_le h (Nat.le_add_right ..))]
  exact fillShadow_outside s areaProgram.1 areaProgram.2 _ (.inl (Nat.lt_of_lt_of_le h (Nat.le_add_right ..)))

theorem copyShadow_program (h : i < 0x400000) : s.copyShadow.byte (s.shadowBase + i) = ((s.blob K.graphProgram).getD []).getD i 0 := by
  have hbelow : s.shadowBase + i < (programCopied s).shadowBase + 0x400000 := by rw [programCopied_base]; omega
  rw [copyShadow_waves s (by omega), imageCopied_outside (programCopied s) hbelow]
  have hfill := fillShadow_inside s areaProgram.1 areaProgram.2 ((s.blob K.graphProgram).getD []) h
  rwa [show s.shadowBase + areaProgram.1 = s.shadowBase from Nat.add_zero _] at hfill

theorem copyShadow_image (h : i < 0x1A00000) :
    s.copyShadow.byte (s.shadowBase + 0x400000 + i) = ((s.blob K.configImage).getD []).getD i 0 := by
  rw [copyShadow_waves s (by omega)]
  exact fillShadow_inside (programCopied s) areaImage.1 areaImage.2 _ h

theorem copyShadow_obj (k : Nat) : s.copyShadow.obj k = s.obj k := by
  rw [copyShadow_eq]
  have hlow : s.shadowBase < (imageCopied (programCopied s)).shadowBase + 0x2800000 := by rw [imageCopied_base]; omega
  exact (wavesCopied_keep _ _ hlow).2 k

/-- What every fill of an area keeps, a copy keeps. -/
theorem copyShadow_keeps {P : State → Prop} (hfill : ∀ t off size bs, P t → P (t.fillShadow off size bs)) (h : P s) : P s.copyShadow := by
  have hwaves (ws : List Nat) (u : State) (hu : P u) : P (ws.foldl waveCopied u) := by
    induction ws generalizing u with
    | nil => exact hu
    | cons w ws ih => exact ih _ (hfill _ _ _ _ hu)
  exact hwaves _ _ (hfill _ _ _ _ (hfill _ _ _ _ h))

end

/-! ## The copy ends -/

theorem showShadow_valid (s : State) (h : s.obj K.deviceStandbyShadow = 1) : s.showShadow = s.set K.deviceStandbyShadowCrc s.shadowCrc :=
  if_pos h

theorem byte_set (s : State) (k v a : Nat) : (s.set k v).byte a = s.byte a := congrArg (fun m => Sp.get blankByte m a) (set_mem ..)

def shadowShown (s : State) : State := s.copyShadow.set K.deviceStandbyShadow 1

theorem endCopy_due (s : State) (hcopying : s.copying = true) (hred : s.obj (K.arbClientState 46) ≠ 1) :
    s.endCopy = (shadowShown (copyOver s)).set K.deviceStandbyShadowCrc (shadowShown (copyOver s)).shadowCrc := by
  have hclient : s.clientRed 46 = false := beq_eq_false_iff_ne.2 hred
  rw [endCopy_eq, if_pos (by rw [hcopying, hclient]; rfl)]
  exact showShadow_valid _ (obj_set_self ..)

theorem same_byte {v u : State} (h : Same v u) (a : Nat) : v.byte a = u.byte a := by simp only [State.byte, h.mem]

theorem shadowCopy_completes (s : State) (t : Nat) (h : Awake s) (hcopying : s.copying = true) (hred : s.obj (K.arbClientState 46) ≠ 1) :
    Completes (.shadowCopyComplete t) s (fun u => u.obj K.deviceStandbyShadow = 1 ∧ u.copying = false)
      (fun v => (∀ k, settledKey k = false → k ∉ [K.deviceStandbyShadow, K.deviceStandbyShadowCrc] → v.obj k = s.obj k) ∧
        (∀ a < s.shadowBase, v.byte a = s.byte a) ∧
        (∀ i < 0x400000, v.byte (s.shadowBase + i) = ((s.blob K.graphProgram).getD []).getD i 0) ∧
        ∀ i < 0x1A00000, v.byte (s.shadowBase + 0x400000 + i) = ((s.blob K.configImage).getD []).getD i 0) := by
  have hstep := endCopy_due (s.begin_ t) hcopying hred
  have hcrc : K.deviceStandbyShadow ≠ K.deviceStandbyShadowCrc := by decide
  have hover : (copyOver (s.begin_ t)).copyShadow.copying = false ∧ (copyOver (s.begin_ t)).copyShadow.variant = s.variant ∧
      (copyOver (s.begin_ t)).copyShadow.safeAsk = s.safeAsk :=
    copyShadow_keeps (P := fun u => u.copying = false ∧ u.variant = s.variant ∧ u.safeAsk = s.safeAsk) _
      (fun _ _ _ _ hu => hu) ⟨rfl, rfl, rfl⟩
  obtain ⟨hdone, hvariant, hsafe⟩ := hover
  have hnext := event_next s t xShadowCopy h.1
  rw [show xShadowCopy (s.begin_ t) = _ from hstep] at hnext
  generalize hw : (shadowShown (copyOver (s.begin_ t))).shadowCrc = crc at hnext
  have hbyte (a : Nat) : ((shadowShown (copyOver (s.begin_ t))).set K.deviceStandbyShadowCrc crc).byte a =
      (copyOver (s.begin_ t)).copyShadow.byte a := (byte_set ..).trans (byte_set ..)
  refine completes_same ((exec_shadowCopyComplete t s).trans hnext) ?_ ?_ ⟨?_, ?_⟩ fun v hv => ⟨fun k hk hn => ?_, fun a ha => ?_, fun i hi => ?_, fun i hi => ?_⟩
  · exact (set_variant ..).trans ((set_variant ..).trans hvariant)
  · exact (set_safeAsk ..).trans ((set_safeAsk ..).trans (hsafe.trans h.2))
  · exact (obj_set_ne _ _ hcrc).trans (obj_set_self ..)
  · exact (set_copying ..).trans ((set_copying ..).trans hdone)
  · obtain ⟨h1, h2⟩ := not_or.1 (mt List.mem_cons.2 hn)
    exact (hv.obj k hk).trans ((obj_set_ne _ _ fun e => h2 (List.mem_singleton.2 e)).trans ((obj_set_ne _ _ h1).trans (copyShadow_obj ..)))
  · exact (same_byte hv a).trans ((hbyte a).trans (copyShadow_below (copyOver (s.begin_ t)) ha))
  · exact (same_byte hv _).trans ((hbyte _).trans (copyShadow_program (copyOver (s.begin_ t)) hi))
  · exact (same_byte hv _).trans ((hbyte _).trans (copyShadow_image (copyOver (s.begin_ t)) hi))

end Sys2Proof.Proofs
end

section
/-! # The ends of unit enables (R98, R99, R101) -/

set_option Elab.async false

namespace Sys2Proof.Proofs

open Sys2Proof Sys2Proof.Machine Sys2Proof.Laws

/-! ## The status byte at the end of a start or a stop -/

/-- State and pending after the end of a transition, as the low four bits of the byte. -/
def endedNibble (b : Nat) : Nat :=
  if enState b = 1 then (if enPending b = 2 then 3 else 2) else if enPending b = 1 then 1 else 0

theorem enByte_eq (b : Nat) {st pend : Nat} (h : st + 4 * pend < 16) : enByte b st pend = b - b % 16 + (st + 4 * pend) := by
  simp only [enByte, withBits, Nat.shiftLeft_eq, Nat.shiftRight_eq_div_pow, pow_zero, Nat.mod_one]
  omega

theorem enEnd_eq {b : Nat} (h : enState b = 1 ∨ enState b = 3) : enEnd b = b - b % 16 + endedNibble b := by
  rcases h with h | h
  · simp only [enEnd, endedNibble, h, if_true]
    split <;> exact enByte_eq b (by decide)
  · simp only [enEnd, endedNibble, h, show ¬ 3 = 1 by decide, if_false]
    split <;> exact enByte_eq b (by decide)

theorem enState_congr {a b : Nat} (h : a % 16 = b % 16) : enState a = enState b := by
  simp only [enState, bitsOf, Nat.shiftRight_zero]
  omega

theorem enState_enEnd {b : Nat} (h : enState b = 1 ∨ enState b = 3) : enState (enEnd b) = endedNibble b := by
  have hsmall : endedNibble b < 4 := by unfold endedNibble; split <;> split <;> decide
  rw [enEnd_eq h]
  simp only [enState, bitsOf, Nat.shiftRight_zero]
  omega

/-! ## Effects that keep an object's low bits -/

/-- The state and the pending state that an object shows are as they were. -/
def KeepsNibble (k : Nat) (u s : State) : Prop := u.obj k % 16 = s.obj k % 16

section
variable {k : Nat} {u v s : State}

theorem KeepsNibble.refl (k : Nat) (s : State) : KeepsNibble k s s := rfl

theorem KeepsNibble.trans (h : KeepsNibble k u v) (g : KeepsNibble k v s) : KeepsNibble k u s := Eq.trans h g

theorem keepsNibble_of_obj (h : u.obj k = s.obj k) : KeepsNibble k u s := congrArg (· % 16) h

theorem keepsNibble_set (s : State) {i : Nat} (x : Nat) (h : k ≠ i) : KeepsNibble k (s.set i x) s := keepsNibble_of_obj (obj_set_ne _ _ h)

theorem keepsNibble_ite {c : Prop} [Decidable c] (h : KeepsNibble k u s) (g : KeepsNibble k v s) : KeepsNibble k (if c then u else v) s := by
  split
  · exact h
  · exact g

theorem keepsNibble_foldl {α : Type} (f : State → α → State) (h : ∀ t x, KeepsNibble k (f t x) t) (xs : List α) (s : State) :
    KeepsNibble k (xs.foldl f s) s := by
  induction xs generalizing s with
  | nil => exact .refl k s
  | cons x xs ih => exact (ih _).trans (h s x)

end

/-! ## Tiles -/

section
variable (s : State) (n : Nat)

/-- A tile's status against another of its objects. -/
theorem tileStatus_ne {i b : Nat} (hb : b < 256) (h : i ≠ 6 ∨ b ≠ 1) : K.tileStatus n ≠ key (0x3000 + i + 16 * n) b :=
  key_ne (by decide) hb (by omega)

theorem keepsNibble_monitorsOf (on : Bool) : KeepsNibble (K.tileStatus n) (s.monitorsOf n on) s := by
  refine keepsNibble_foldl _ (fun t i => ?_) _ _
  have hstate (x : Nat) : KeepsNibble (K.tileStatus n) (t.set (K.tileMonState n i) x) t :=
    keepsNibble_set _ _ (key_ne (by decide) (by decide) (.inr (by decide)))
  exact hstate _

theorem keepsNibble_showFill : KeepsNibble (K.tileStatus n) (s.showFill n) s := by
  have hfill (t : State) (x : Nat) : KeepsNibble (K.tileStatus n) (t.set (K.tileBufFill n) x) t :=
    keepsNibble_set _ _ (tileStatus_ne n (i := 5) (by decide) (.inl (by decide)))
  have hpeak (t : State) (x : Nat) : KeepsNibble (K.tileStatus n) (t.set (K.tileBufPeak n) x) t :=
    keepsNibble_set _ _ (tileStatus_ne n (i := 5) (by decide) (.inl (by decide)))
  exact keepsNibble_ite ((hpeak _ _).trans (hfill _ _)) (hfill _ _)

theorem keepsNibble_ilv {b : Nat} (hb : b < 256) (x : Nat) : KeepsNibble (K.tileStatus n) (s.set (key (0x3009 + 16 * n) b) x) s :=
  keepsNibble_set _ _ (tileStatus_ne n (i := 9) hb (.inl (by decide)))

theorem keepsNibble_acquire : KeepsNibble (K.tileStatus n) (s.acquire n) s :=
  keepsNibble_ite (keepsNibble_ilv _ n (by decide) _) (.refl _ s)

theorem keepsNibble_tileOn : KeepsNibble (K.tileStatus n) (s.tileOn n) s := by
  unfold State.tileOn
  extract_lets watched filled c held
  have hfilled : KeepsNibble (K.tileStatus n) filled s :=
    (keepsNibble_showFill ..).trans ((keepsNibble_of_obj rfl : KeepsNibble _ _ watched).trans (keepsNibble_monitorsOf ..))
  have hilv (t : State) : KeepsNibble (K.tileStatus n) (t.setIlv n c.1 c.2.1 c.2.2) t :=
    (keepsNibble_ilv _ n (by decide) _).trans ((keepsNibble_ilv _ n (by decide) _).trans (keepsNibble_ilv _ n (by decide) _))
  exact keepsNibble_ite ((keepsNibble_acquire ..).trans ((hilv _).trans hfilled)) hfilled

theorem keepsNibble_force1 {k i : Nat} (x : Nat) (h : k ≠ i) : KeepsNibble k (s.force1 i x) s :=
  (keepsNibble_set _ x h).trans (keepsNibble_of_obj rfl)

theorem keepsNibble_clearHalfB : KeepsNibble (K.tileStatus n) (s.clearHalfB n) s := by
  have hfe {i b : Nat} (hb : b < 256) (hi : i < 6) (t : State) (x : Nat) :
      KeepsNibble (K.tileStatus n) (t.force1 (key (0x3000 + i + 16 * n) b) x) t :=
    keepsNibble_force1 _ _ (tileStatus_ne n hb (.inl (by omega)))
  simp only [State.clearHalfB, List.foldl_cons, List.foldl_nil]
  exact (hfe (i := 2) (by decide) (by decide) _ _).trans ((hfe (i := 0) (by decide) (by decide) _ _).trans
    ((hfe (i := 0) (by decide) (by decide) _ _).trans (hfe (i := 0) (by decide) (by decide) _ _)))

/-- The flags of a tile that go with its stop stand above the nibble. -/
theorem keepsNibble_flagsCleared : KeepsNibble (K.tileStatus n) (s.set (K.tileStatus n) (withBits (s.obj (K.tileStatus n)) 7 5 0)) s := by
  unfold KeepsNibble
  rw [obj_set_self]
  simp only [withBits, Nat.shiftLeft_eq, Nat.shiftRight_eq_div_pow, Nat.zero_mod, Nat.zero_mul]
  omega

theorem keepsNibble_tileOff : KeepsNibble (K.tileStatus n) (s.tileOff n) s := by
  have hset {i b : Nat} (hb : b < 256) (hi : i ≠ 6) (t : State) (x : Nat) :
      KeepsNibble (K.tileStatus n) (t.set (key (0x3000 + i + 16 * n) b) x) t :=
    keepsNibble_set _ _ (tileStatus_ne n hb (.inl hi))
  unfold State.tileOff
  extract_lets formless routed unscanned b
  have hformless : KeepsNibble (K.tileStatus n) formless s :=
    (hset (i := 0) (by decide) (by decide) _ _).trans ((hset (i := 3) (by decide) (by decide) _ _).trans
      ((hset (i := 3) (by decide) (by decide) _ _).trans (keepsNibble_monitorsOf ..)))
  have hrouted : KeepsNibble (K.tileStatus n) routed formless :=
    (hset (i := 3) (by decide) (by decide) _ _).trans ((hset (i := 3) (by decide) (by decide) _ _).trans
      (hset (i := 8) (by decide) (by decide) _ _))
  have hunscanned : KeepsNibble (K.tileStatus n) unscanned routed :=
    (hset (i := 9) (by decide) (by decide) _ _).trans ((hset (i := 4) (by decide) (by decide) _ _).trans
      (hset (i := 4) (by decide) (by decide) _ _))
  exact (keepsNibble_clearHalfB ..).trans ((keepsNibble_flagsCleared ..).trans (hunscanned.trans (hrouted.trans hformless)))

end

/-! ## Outputs -/

/-- What codes that move at an output leave alone: the low bits of its status, the contexts, the chains. -/
structure OutputMoves (n : Nat) (u s : State) : Prop where
  status : u.obj (K.dacStatus n) % 64 = s.obj (K.dacStatus n) % 64
  ctxs : u.ctxs = s.ctxs
  chains : u.chains = s.chains

section
variable {n : Nat} {u v s : State}

theorem OutputMoves.refl (n : Nat) (s : State) : OutputMoves n s s := ⟨rfl, rfl, rfl⟩

theorem OutputMoves.trans (h : OutputMoves n u v) (g : OutputMoves n v s) : OutputMoves n u s :=
  ⟨h.status.trans g.status, h.ctxs.trans g.ctxs, h.chains.trans g.chains⟩

theorem OutputMoves.nibble (h : OutputMoves n u s) : KeepsNibble (K.dacStatus n) u s := by
  have hlow := h.status
  unfold KeepsNibble
  omega

theorem outputMoves_ite {c : Prop} [Decidable c] (h : OutputMoves n u s) (g : OutputMoves n v s) : OutputMoves n (if c then u else v) s := by
  split
  · exact h
  · exact g

theorem outputMoves_set (s : State) {k : Nat} (x : Nat) (h : K.dacStatus n ≠ k) : OutputMoves n (s.set k x) s :=
  ⟨congrArg (· % 64) (obj_set_ne _ _ h), set_ctxs .., set_chains ..⟩

theorem outputMoves_dacBit (s : State) (b : Bool) : OutputMoves n (s.dacBit n 6 b) s :=
  ⟨(congrArg (· % 64) (obj_set_self ..)).trans (withBit_mod _ 6 b), set_ctxs .., set_chains ..⟩

theorem outputMoves_modDac (s : State) (f : Dac → Dac) : OutputMoves n (s.modDac n f) s := ⟨rfl, rfl, rfl⟩

theorem outputMoves_shown (s : State) {b : Nat} (hb : b < 256) (x : Nat) : OutputMoves n (s.set (key (0x6402 + 4 * n) b) x) s :=
  outputMoves_set _ _ (key_ne (by decide) hb (.inl (by omega)))

theorem outputMoves_waitCode (s : State) (code : Int) : OutputMoves n (s.waitCode n code) s := by
  have hmerged : OutputMoves n (s.count (K.dacMerged n) 32 1) s := outputMoves_shown _ (by decide) _
  unfold State.waitCode
  extract_lets t
  have ht : OutputMoves n t s := outputMoves_ite hmerged (.refl n s)
  exact (outputMoves_modDac ..).trans ht

theorem outputMoves_enterCode (s : State) (code : Int) : OutputMoves n (s.enterCode n code) s := by
  have hcode (v : Nat) : OutputMoves n (s.set (K.dacCode n) v) s := outputMoves_shown _ (by decide) _
  have hholds (t : State) : OutputMoves n (t.count (K.dacHolds n) 32 1) t := outputMoves_shown _ (by decide) _
  exact outputMoves_ite (outputMoves_waitCode ..) (outputMoves_ite ((outputMoves_dacBit ..).trans ((hholds _).trans (hcode _))) (hcode _))

theorem outputMoves_slewOn (s : State) : OutputMoves n (s.slewOn n) s := by
  unfold State.slewOn
  split
  · exact .refl n s
  · extract_lets step period far m last moved stepped
    have hmoved : OutputMoves n moved s := outputMoves_modDac ..
    have hstepped : OutputMoves n stepped s := (outputMoves_enterCode ..).trans hmoved
    have hmerged : OutputMoves n (stepped.count (K.dacMerged n) 32 (m - 2)) s := (outputMoves_shown _ (by decide) _).trans hstepped
    exact outputMoves_ite (.refl n s) <| outputMoves_ite ((outputMoves_enterCode ..).trans hmoved) <|
      outputMoves_ite hstepped <| (outputMoves_ite (outputMoves_waitCode ..) (outputMoves_enterCode ..)).trans hmerged

theorem outputMoves_dacFlag (s : State) (i : Nat) (b : Bool) : OutputMoves n (s.dacFlag n i b) s := outputMoves_shown _ (by decide) _

theorem outputMoves_restDac (s : State) : OutputMoves n (s.restDac n) s := outputMoves_modDac ..

theorem outputMoves_safeMove (s : State) : OutputMoves n (s.safeMove n) s := by
  unfold State.safeMove
  extract_lets slewed v flagged
  have hslewed : OutputMoves n slewed s := (outputMoves_modDac ..).trans (outputMoves_slewOn s)
  have hflagged : OutputMoves n flagged s := (outputMoves_ite (outputMoves_dacFlag ..) (.refl n _)).trans hslewed
  exact outputMoves_ite (.refl n s) <| outputMoves_ite ((outputMoves_modDac ..).trans hslewed) <|
    outputMoves_ite ((outputMoves_enterCode ..).trans hflagged) ((outputMoves_modDac ..).trans hflagged)

theorem outputMoves_dacStart (s : State) : OutputMoves n (s.dacStart n) s := by
  unfold State.dacStart
  extract_lets v
  have hcode (t : State) (x : Nat) : OutputMoves n (t.set (K.dacCode n) x) t := outputMoves_shown _ (by decide) _
  exact (outputMoves_restDac _).trans ((hcode _ _).trans (outputMoves_ite (outputMoves_dacFlag ..) (.refl n s)))

theorem outputMoves_dacStop (s : State) : OutputMoves n (s.dacStop n) s := (outputMoves_restDac _).trans (outputMoves_dacBit ..)

end

/-! ## Lanes -/

section
variable {n : Nat} {u s : State}

theorem KeepsLane.nibble (h : KeepsLane n u s) : KeepsNibble (K.laneStatus n) u s := by
  have hlow := h.status
  unfold KeepsNibble
  omega

theorem keepsNibble_linkMarked (s : State) (n v : Nat) : KeepsNibble (K.laneStatus n) (linkMarked n v s) s := by
  have hbit (b : Nat) (x : Bool) : withBit b 4 x % 16 = b % 16 := withBit_mod b 4 x
  have hkept : (s.set (K.laneLink n) v).obj (K.laneStatus n) = s.obj (K.laneStatus n) :=
    obj_set_ne _ _ (key_ne (by decide) (by decide) (.inr (by decide)))
  unfold linkMarked KeepsNibble
  rw [obj_set_self, hbit, hkept]

theorem keepsNibble_setLink (hn : n < 16) (s : State) (v : Nat) : KeepsNibble (K.laneStatus n) (s.setLink n v) s := by
  rw [setLink_eq]
  exact keepsNibble_ite (.refl _ s) ((keepsLane_linkChanged hn v s).nibble.trans (keepsNibble_linkMarked s n v))

theorem keepsNibble_laneStart (hn : n < 16) (s : State) : KeepsNibble (K.laneStatus n) (s.laneStart n) s := by
  have hstate (t : State) (x : Nat) : KeepsNibble (K.laneStatus n) (t.set (K.rallyLaneState n) x) t :=
    keepsNibble_set _ _ (key_ne (by decide) (by decide) (.inl (by omega)))
  exact keepsNibble_ite (keepsNibble_setLink hn ..) ((hstate _ _).trans (keepsNibble_setLink hn ..))

theorem keepsNibble_clearFrames (s : State) (n : Nat) : KeepsNibble (K.laneStatus n) (s.clearFrames n) s := by
  have hall (ks : List Nat) (h : ∀ k ∈ ks, K.laneStatus n ≠ k) (t : State) :
      KeepsNibble (K.laneStatus n) (ks.foldl (fun st k => if st.obj k = 0 then st else st.set k 0) t) t := by
    induction ks generalizing t with
    | nil => exact .refl _ t
    | cons k ks ih =>
      exact (ih (fun k hk => h k (List.mem_cons_of_mem _ hk)) _).trans
        (keepsNibble_ite (.refl _ t) (keepsNibble_set _ _ (h k (List.mem_cons_self ..))))
  refine keepsNibble_ite (.refl _ s) (hall _ (fun k hk => ?_) s)
  simp only [List.mem_cons, List.not_mem_nil, or_false] at hk
  rcases hk with rfl | rfl | rfl | rfl | rfl | rfl | rfl <;> exact key_ne (by decide) (by decide) (.inl (by omega))

theorem keepsNibble_laneStop (hn : n < 16) (s : State) : KeepsNibble (K.laneStatus n) (s.laneStop n) s := by
  unfold State.laneStop
  extract_lets cut gone
  have hgone : KeepsNibble (K.laneStatus n) gone s :=
    (keepsNibble_ite (keepsLane_rallyLaneDown hn hn _ _).nibble (.refl _ _)).trans (keepsNibble_setLink hn s 0)
  have hrole (x : Nat) : KeepsNibble (K.laneStatus n) ((gone.setLane n .none_).set (K.laneRole n) x) gone :=
    (keepsNibble_set _ _ (key_ne (by decide) (by decide) (.inr (by decide)))).trans (keepsNibble_of_obj rfl)
  exact ((keepsAround_rallyFromBoard _).keepsLane hn).nibble.trans ((keepsNibble_clearFrames ..).trans ((hrole _).trans hgone))

end

/-! ## Every kind of unit -/

section
variable (s : State) {unit : UnitName}

theorem unitOn_nibble (h : unitPresent s.variant unit = true) (t : State) : KeepsNibble (statusKey unit) (t.unitOn unit) t := by
  cases unit with
  | tile n => exact keepsNibble_tileOn t n
  | enc e => exact .refl _ t
  | pitch p => exact .refl _ t
  | dac n => exact (outputMoves_dacStart t).nibble
  | lane n => exact keepsNibble_laneStart (Nat.lt_of_lt_of_le (of_decide_eq_true h) (laneCount_le _)) t
  | dacClock d =>
    have hd : d < 2 := Nat.lt_of_lt_of_le (of_decide_eq_true h) (by cases s.variant <;> decide)
    exact (keepsNibble_set _ _ (key_ne (by omega) (by omega) (.inr (by omega)))).trans (keepsNibble_of_obj rfl)
  | scrub => exact (keepsNibble_set _ _ (by decide)).trans (keepsNibble_of_obj rfl)
  | synth q => exact .refl _ t
  | engine n => exact .refl _ t

theorem unitAbort_nibble (t : State) : KeepsNibble (statusKey unit) (t.unitAbort unit) t := by
  cases unit with
  | dac n => exact (outputMoves_safeMove t).nibble
  | tile n | synth n | enc n | pitch n | engine n | lane n | dacClock n | scrub => exact .refl _ t

theorem unitOff_nibble (h : unitPresent s.variant unit = true) (t : State) : KeepsNibble (statusKey unit) (t.unitOff unit) t := by
  cases unit with
  | tile n => exact keepsNibble_tileOff t n
  | synth q => exact keepsNibble_ite (.refl _ t) (keepsNibble_set _ _ (key_ne (by decide) (by decide) (by omega)))
  | dac n => exact (outputMoves_dacStop t).nibble
  | lane n => exact keepsNibble_laneStop (Nat.lt_of_lt_of_le (of_decide_eq_true h) (laneCount_le _)) t
  | enc n | pitch n | engine n | dacClock n | scrub => exact .refl _ t

/-- A transition of a unit that may end. -/
def MayEnd (s : State) (unit : UnitName) : Prop :=
  (enState (s.obj (statusKey unit)) = 1 ∧ statusKey unit ∉ (List.range 4).map K.timeSynStatus) ∨
    (enState (s.obj (statusKey unit)) = 3 ∧ s.mayStop unit = true)

/-- What the end of a unit's transition brings about apart from its status byte. -/
def unitFollows (s : State) (unit : UnitName) (b : Nat) : State :=
  if enState b = 1 then (if enState (enEnd b) = 2 then s.unitOn unit else s.unitAbort unit) else s.unitOff unit

theorem unitFollows_nibble (h : unitPresent s.variant unit = true) (t : State) (b : Nat) :
    KeepsNibble (statusKey unit) (unitFollows t unit b) t :=
  keepsNibble_ite (keepsNibble_ite (unitOn_nibble s h t) (unitAbort_nibble t)) (unitOff_nibble s h t)

/-- A synthesiser's start ends with its lock, not with the end of a transition. -/
def locksFirst : UnitName → Nat → Bool
  | .synth _, b => enState b == 1
  | _, _ => false

theorem xEnableEnd_eq (s : State) (unit : UnitName) : xEnableEnd unit s =
    if locksFirst unit (s.obj (statusKey unit)) || (enState (s.obj (statusKey unit)) ≠ 1 && enState (s.obj (statusKey unit)) ≠ 3) ||
        (enState (s.obj (statusKey unit)) = 3 && !s.mayStop unit) then s
    else unitFollows (s.set (statusKey unit) (enEnd (s.obj (statusKey unit)))) unit (s.obj (statusKey unit)) := by
  cases unit <;> rfl

theorem locksFirst_free (h : unitPresent s.variant unit = true) (hend : MayEnd s unit) : locksFirst unit (s.obj (statusKey unit)) = false := by
  cases unit with
  | synth q =>
    rcases hend with ⟨_, hkey⟩ | ⟨hb, _⟩
    · exact absurd (List.mem_map_of_mem (List.mem_range.2 (Nat.lt_of_lt_of_le (of_decide_eq_true h) (quadCount_le _)))) hkey
    · exact beq_eq_false_iff_ne.2 (by rw [hb]; decide)
  | tile n | enc n | pitch n | dac n | engine n | lane n | dacClock n | scrub => rfl

theorem xEnableEnd_ends (h : unitPresent s.variant unit = true) (hend : MayEnd s unit) :
    xEnableEnd unit s = unitFollows (s.set (statusKey unit) (enEnd (s.obj (statusKey unit)))) unit (s.obj (statusKey unit)) := by
  rw [xEnableEnd_eq, locksFirst_free s h hend]
  rcases hend with ⟨hb, _⟩ | ⟨hb, hstop⟩
  · exact if_neg (by simp [hb])
  · exact if_neg (by simp [hb, hstop])

theorem enableEnd_completes (t : Nat) (hheld : s.held = false) (h : unitPresent s.variant unit = true) (hend : MayEnd s unit) :
    Completes (.enableTransitionEnd t unit) s (fun u => enState (u.obj (statusKey unit)) = endedNibble (s.obj (statusKey unit)))
      (fun _ => True) := by
  have hstop : (s.begin_ t).mayStop unit = s.mayStop unit := by cases unit <;> rfl
  have hend' : MayEnd (s.begin_ t) unit := by
    unfold MayEnd
    rw [hstop]
    exact hend
  refine completes_eventOf (exec_enableTransitionEnd t unit s) h hheld ?_
  rw [xEnableEnd_ends (s.begin_ t) h hend', enState_congr (unitFollows_nibble s h _ _), obj_set_self]
  exact enState_enEnd (hend.imp And.left And.left)

theorem engineEnd_sets {t n : Nat} (h : Awake s) (hn : n < engineCount s.variant)
    (hend : enState (s.obj (K.feStatus n)) = 1 ∨ enState (s.obj (K.feStatus n)) = 3) :
    Sets (.enableTransitionEnd t (.engine n)) s [(K.feStatus n, s.obj (K.feStatus n) - s.obj (K.feStatus n) % 16 + endedNibble (s.obj (K.feStatus n)))]
      (fun _ => True) := by
  have hkey : statusKey (.engine n) ∉ (List.range 4).map K.timeSynStatus := fun hm => by
    obtain ⟨q, hq, he⟩ := List.mem_map.1 hm
    have hlt := List.mem_range.1 hq
    simp only [K.timeSynStatus, statusKey, K.feStatus, key] at he
    omega
  have hstate : MayEnd (s.begin_ t) (.engine n) := hend.imp (fun h1 => ⟨h1, hkey⟩) (fun h3 => ⟨h3, rfl⟩)
  have heffect : xEnableEnd (.engine n) (s.begin_ t) = (s.begin_ t).set (K.feStatus n) (enEnd (s.obj (K.feStatus n))) :=
    (xEnableEnd_ends (s.begin_ t) (unit := .engine n) (decide_eq_true hn) hstate).trans (by unfold unitFollows; split <;> [split <;> rfl; rfl])
  refine sets_puts (exec_enableTransitionEnd t (.engine n) s) (decide_eq_true hn) h ?_ trivial
  rw [heffect, enEnd_eq hend]
  exact puts_set ..

end

end Sys2Proof.Proofs
end

section
/-! # The ends of HOLD, drain, shutdown and wake (R87 to R92) -/

set_option Elab.async false

namespace Sys2Proof.Proofs

open Sys2Proof Sys2Proof.Machine Sys2Proof.Laws

/-! ## What the end of a transition shows -/

/-- A mode is in force with no transition: it is its own target, and no step runs. -/
structure Rests (m : Nat) (u : State) : Prop where
  mode : u.mode = m
  target : u.obj K.deviceModeTarget = m
  step : u.obj K.deviceModeStep = 0
  trans : u.trans = .idle

section
variable {s u v : State} {m cause enc : Nat}

/-- What remains to be set once the mode is in force. -/
def settledIn (s : State) (m cause enc : Nat) : State :=
  { ((s.set K.deviceModeTarget m).set K.deviceModeStep 0).showHold_ cause enc with trans := .idle }

theorem settledIn_obj (s : State) (m cause enc k : Nat) : (settledIn s m cause enc).obj k =
    ((((s.set K.deviceModeTarget m).set K.deviceModeStep 0).set K.deviceHoldCause cause).set K.deviceHoldEncoder enc).obj k := rfl

theorem settledIn_rests (h : s.mode = m) : Rests m (settledIn s m cause enc) := by
  have hset (x : Nat) (t : State) {k i : Nat} (hne : k ≠ i) : (t.set i x).obj k = t.obj k := obj_set_ne _ _ hne
  refine ⟨?_, ?_, ?_, rfl⟩
  · exact (settledIn_obj ..).trans ((hset _ _ (by decide)).trans ((hset _ _ (by decide)).trans ((hset _ _ (by decide)).trans
      ((hset _ _ (by decide)).trans h))))
  · exact (settledIn_obj ..).trans ((hset _ _ (by decide)).trans ((hset _ _ (by decide)).trans ((hset _ _ (by decide)).trans (obj_set_self ..))))
  · exact (settledIn_obj ..).trans ((hset _ _ (by decide)).trans ((hset _ _ (by decide)).trans (obj_set_self ..)))

theorem settledIn_hold : (settledIn s m cause enc).obj K.deviceHoldCause = cause ∧ (settledIn s m cause enc).obj K.deviceHoldEncoder = enc :=
  ⟨(obj_set_ne (k := K.deviceHoldEncoder) _ _ (by decide)).trans (obj_set_self ..), obj_set_self ..⟩

/-- The device in a mode, entered now where it is another. -/
def inMode (s : State) (m : Nat) : State := if s.mode = m then s else s.enterMode m

theorem inMode_mode (s : State) (m : Nat) : (inMode s m).mode = m := by
  unfold inMode
  split
  · assumption
  · exact enterMode_mode s m

theorem rest_eq (s : State) (m : Nat) : s.rest m = settledIn (inMode s m) m 0 0xFF := rfl

theorem rest_rests (s : State) (m : Nat) : Rests m (s.rest m) := settledIn_rests (inMode_mode s m)

/-! ## HOLD takes effect -/

def linesPrimed (s : State) : State := s.endLines.ringed.foldl (fun st c => st.primeCtx c) s.endLines

theorem enterHold_eq (s : State) (cause enc : Nat) : s.enterHold cause enc = settledIn ((linesPrimed s).enterMode mHold) mHold cause enc := rfl

theorem holdTakesEffect_completes {t : Nat} (hheld : s.held = false) (hmotion : s.trans.motion = .toHold)
    (hdue : s.trans.since + 10 * perUs ≤ t) :
    Completes (.holdTakesEffect t) s (fun u => u.mode = mHold ∧ u.obj K.deviceModeTarget = mHold ∧ u.obj K.deviceModeStep = 0 ∧
      u.obj K.deviceHoldCause = s.trans.holdCause ∧ u.obj K.deviceHoldEncoder = s.trans.holdEncoder ∧ u.trans = .idle) (fun _ => True) := by
  have hnow : (s.begin_ t).clock ≥ (s.begin_ t).trans.since + 10 * perUs := hdue.trans (Nat.le_max_right ..)
  have hmotion' : (s.begin_ t).trans.motion = .toHold := hmotion
  have heffect : xHoldTakesEffect (s.begin_ t) = (s.begin_ t).enterHold s.trans.holdCause s.trans.holdEncoder := by
    unfold xHoldTakesEffect
    rw [if_neg (by rw [hmotion']; decide), if_pos (by rw [decide_eq_true hnow]; rfl)]
    rfl
  refine completes_event (exec_holdTakesEffect t s) hheld ?_
  rw [heffect, enterHold_eq]
  obtain ⟨hmode, htarget, hstep, htrans⟩ :=
    settledIn_rests (cause := s.trans.holdCause) (enc := s.trans.holdEncoder) (enterMode_mode (linesPrimed (s.begin_ t)) mHold)
  exact ⟨hmode, htarget, hstep, settledIn_hold.1, settledIn_hold.2, htrans⟩

/-! ## The drain ends -/

/-- The rings and the chains of a state are those of another. -/
structure KeepsRings (u s : State) : Prop where
  ctxs : u.ctxs = s.ctxs
  chains : u.chains = s.chains

theorem KeepsRings.refl (s : State) : KeepsRings s s := ⟨rfl, rfl⟩

theorem KeepsRings.trans (h : KeepsRings u v) (g : KeepsRings v s) : KeepsRings u s := ⟨h.ctxs.trans g.ctxs, h.chains.trans g.chains⟩

theorem keepsRings_set (s : State) (k x : Nat) : KeepsRings (s.set k x) s := ⟨set_ctxs .., set_chains ..⟩

theorem keepsRings_ite {c : Prop} [Decidable c] (h : KeepsRings u s) (g : KeepsRings v s) : KeepsRings (if c then u else v) s := by
  split
  · exact h
  · exact g

theorem keepsRings_foldl {α : Type} (f : State → α → State) (h : ∀ t x, KeepsRings (f t x) t) (xs : List α) (s : State) :
    KeepsRings (xs.foldl f s) s := by
  induction xs generalizing s with
  | nil => exact .refl s
  | cons x xs ih => exact (ih _).trans (h s x)

theorem OutputMoves.rings {n : Nat} (h : OutputMoves n u s) : KeepsRings u s := ⟨h.ctxs, h.chains⟩

theorem keepsRings_enDrive (s : State) (k v : Nat) : KeepsRings (s.enDrive k v) s := keepsRings_ite (.refl s) (keepsRings_set ..)

theorem keepsRings_enCut (s : State) (k : Nat) : KeepsRings (s.enCut k) s := keepsRings_ite (.refl s) (keepsRings_set ..)

theorem keepsRings_gateQuads (s : State) (p : Nat → Bool) : KeepsRings (s.gateQuads p) s := by
  unfold State.gateQuads
  extract_lets gated
  have hgated : KeepsRings gated s := keepsRings_foldl _ (fun _ _ => (keepsRings_foldl _ (fun _ _ =>
    (keepsRings_set ..).trans (keepsRings_enCut ..)) _ _).trans (keepsRings_enDrive ..)) _ _
  exact (keepsRings_set ..).trans hgated

theorem keepsRings_gateDacClocks (s : State) : KeepsRings s.gateDacClocks s := keepsRings_foldl _ (fun _ _ => keepsRings_enCut ..) _ _

theorem keepsRings_placerIdle (s : State) : KeepsRings s.placerIdle s := keepsRings_ite (.refl s) (keepsRings_set ..)

theorem keepsRings_safeMoves (s : State) : KeepsRings s.safeMoves s :=
  keepsRings_foldl _ (fun _ _ => ((outputMoves_modDac ..).trans (outputMoves_safeMove _)).rings) _ _

theorem keepsRings_rest (s : State) (m : Nat) : KeepsRings (s.rest m) s := by
  have hmode : KeepsRings (inMode s m) s := keepsRings_ite (.refl s) ((keepsRings_set ..).trans (keepsRings_set ..))
  have hshown (t : State) (a b : Nat) : KeepsRings (settledIn t m a b) t := by
    have hidle (u : State) : KeepsRings { u with trans := .idle } u := ⟨rfl, rfl⟩
    exact (hidle _).trans ((keepsRings_set ..).trans ((keepsRings_set ..).trans ((keepsRings_set ..).trans (keepsRings_set ..))))
  exact (hshown _ _ _).trans hmode

theorem resetWhere_chains (s : State) (p : Nat → Bool) : (s.resetWhere p).chains = s.chains := by
  unfold State.resetWhere
  exact foldl_keeps (·.chains) _ _ _ fun _ _ => set_chains ..

theorem releaseRings_ctxs (s : State) : s.releaseRings.ctxs = [] := rfl

theorem releaseRings_chains (s : State) : s.releaseRings.chains = s.chains := resetWhere_chains s isRingKey

theorem unplaceUnits_chains (s : State) : s.unplaceUnits.chains = [] := rfl

/-- What a placement held is free, apart from the power of the quadrants. -/
def unitsFreed (s : State) : State := (s.unplaceUnits.resetWhere isTileReset).releaseRings

theorem unitsFreed_empty (s : State) : (unitsFreed s).ctxs = [] ∧ (unitsFreed s).chains = [] :=
  ⟨releaseRings_ctxs _, (releaseRings_chains _).trans ((resetWhere_chains _ isTileReset).trans (unplaceUnits_chains s))⟩

def planless (s : State) : State := { s with plan := .none_ }

theorem unplaceAll_eq (s : State) : s.unplaceAll = planless (((unitsFreed s.dropWork.undoContexts).gateQuads (fun _ => true)).gateDacClocks).placerIdle := rfl

theorem toLoad_empty (s : State) : s.toLoad.ctxs = [] ∧ s.toLoad.chains = [] := by
  have hplanless (t : State) : KeepsRings (planless t) t := ⟨rfl, rfl⟩
  have hkeeps : KeepsRings s.toLoad (unitsFreed s.dropWork.undoContexts) := by
    unfold State.toLoad
    rw [unplaceAll_eq]
    exact (keepsRings_rest ..).trans ((keepsRings_safeMoves _).trans ((hplanless _).trans ((keepsRings_placerIdle _).trans
      ((keepsRings_gateDacClocks _).trans (keepsRings_gateQuads ..)))))
  obtain ⟨hctxs, hchains⟩ := unitsFreed_empty s.dropWork.undoContexts
  exact ⟨hkeeps.ctxs.trans hctxs, hkeeps.chains.trans hchains⟩

theorem carryCode_none (s : State) : s.carryCode 0 = s := if_pos rfl

theorem drainComplete_completes {t : Nat} (hheld : s.held = false) (hmotion : s.trans.motion = .drain) (hpending : s.obj K.deviceModePending = 0) :
    Completes (.drainComplete t) s (fun u => u.mode = mLoad ∧ u.obj K.deviceModeTarget = mLoad ∧ u.obj K.deviceModeStep = 0 ∧
      u.ctxs = [] ∧ u.chains = [] ∧ u.trans = .idle) (fun _ => True) := by
  have hmotion' : (s.begin_ t).trans.motion = .drain := hmotion
  have hpending' : (s.begin_ t).obj K.deviceModePending = 0 := hpending
  have heffect : xDrainComplete (s.begin_ t) = (s.begin_ t).toLoad := by
    unfold xDrainComplete
    rw [if_pos (by rw [hmotion']; rfl), hpending', carryCode_none]
  refine completes_event (exec_drainComplete t s) hheld ?_
  rw [heffect]
  obtain ⟨hmode, htarget, hstep, htrans⟩ := rest_rests ((s.begin_ t).unplaceAll).safeMoves mLoad
  obtain ⟨hctxs, hchains⟩ := toLoad_empty (s.begin_ t)
  exact ⟨hmode, htarget, hstep, hctxs, hchains, htrans⟩

/-! ## The shutdown -/

/-- With no step that SAFE entry has stopped and no request that waits, the end of a step is that of the shutdown alone. -/
theorem xShutdownStepEnd_eq (hmotion : s.trans.motion = .shutdown) (hhalted : s.halted = none) (hpending : s.obj K.deviceModePending = 0) :
    xShutdownStepEnd s = s.shutdownEnd := by
  have hfree : s.haltedIn .shutdown = false := by unfold State.haltedIn; rw [hhalted]
  unfold xShutdownStepEnd
  rw [if_neg (by rw [hfree]; decide), if_neg (by rw [hmotion]; decide), hpending]
  simp only [carryCode_none, ite_self]

theorem shutdownEnd_step {k : Nat} (hstep : s.obj K.deviceModeStep = k) (hlo : 2 ≤ k) (hhi : k ≤ 4) :
    s.shutdownEnd.obj K.deviceModeStep = k + 1 := by
  have hcases : k = 2 ∨ k = 3 ∨ k = 4 := by omega
  unfold State.shutdownEnd
  rcases hcases with rfl | rfl | rfl <;> rw [hstep] <;> exact obj_set_self ..

theorem shutdownStep_completes {t k : Nat} (hheld : s.held = false) (hmotion : s.trans.motion = .shutdown) (hstep : s.obj K.deviceModeStep = k)
    (hlo : 2 ≤ k) (hhi : k ≤ 4) (hhalted : s.halted = none) (hpending : s.obj K.deviceModePending = 0) :
    Completes (.shutdownStepEnd t) s (fun u => u.obj K.deviceModeStep = k + 1) (fun _ => True) := by
  refine completes_event (exec_shutdownStepEnd t s) hheld ?_
  rw [xShutdownStepEnd_eq (s := s.begin_ t) hmotion hhalted hpending]
  exact shutdownEnd_step (s := s.begin_ t) hstep hlo hhi

/-! ## The pseudo-channels sleep and wake -/

/-- The states of the pseudo-channels once those with one state have taken another. -/
def pcsMoved (s : State) (a b : Nat) : List (Nat × Nat) :=
  (List.range 32).map (fun p => (K.storePcState p, if s.obj (K.storePcState p) = a then b else s.obj (K.storePcState p)))

theorem storePcState_inj {p q : Nat} (h : p ≠ q) : K.storePcState p ≠ K.storePcState q := key_ne (by decide) (by decide) (by omega)

/-- One pseudo-channel's part. -/
def pcMoved (a b : Nat) (s : State) (p : Nat) : State := if s.obj (K.storePcState p) = a then s.set (K.storePcState p) b else s

theorem movePcs_eq (s : State) (a b : Nat) : s.movePcs a b = (List.range 32).foldl (pcMoved a b) s := rfl

theorem pcMoved_self (a b : Nat) (s : State) (p : Nat) :
    (pcMoved a b s p).obj (K.storePcState p) = if s.obj (K.storePcState p) = a then b else s.obj (K.storePcState p) := by
  unfold pcMoved
  split
  · exact obj_set_self ..
  · rfl

theorem puts_pcMoved (a b : Nat) (s : State) (p : Nat) :
    Puts [(K.storePcState p, if s.obj (K.storePcState p) = a then b else s.obj (K.storePcState p))] (pcMoved a b s p) s := by
  unfold pcMoved
  split
  · exact puts_set ..
  · exact ⟨rfl, rfl, rfl, rfl, rfl, fun _ _ => rfl, holds_cons rfl (holds_nil _)⟩

/-- Objects put after others that are none of them. -/
theorem Puts.append {vs ws : List (Nat × Nat)} (h : Puts vs u s) (g : Puts ws v u) (hdisjoint : ∀ k ∈ vs.map (·.1), k ∉ ws.map (·.1)) :
    Puts (vs ++ ws) v s := by
  refine ⟨g.variant.trans h.variant, g.safeAsk.trans h.safeAsk, g.mem.trans h.mem, g.ctxs.trans h.ctxs, g.inForce.trans h.inForce,
    fun k hk => ?_, holds_append (holds_keep h.holds fun k hk => g.obj k (hdisjoint k hk)) g.holds⟩
  rw [List.map_append, List.mem_append, not_or] at hk
  exact (g.obj k hk.2).trans (h.obj k hk.1)

theorem puts_foldl_pcs (a b : Nat) (ps : List Nat) (hnodup : ps.Nodup) (s : State) :
    Puts (ps.map fun p => (K.storePcState p, if s.obj (K.storePcState p) = a then b else s.obj (K.storePcState p))) (ps.foldl (pcMoved a b) s) s := by
  induction ps generalizing s with
  | nil => exact puts_refl s
  | cons p ps ih =>
    obtain ⟨hp, hps⟩ := List.nodup_cons.1 hnodup
    have hrest := ih hps (pcMoved a b s p)
    have hsame : (ps.map fun q => (K.storePcState q, if (pcMoved a b s p).obj (K.storePcState q) = a then b else (pcMoved a b s p).obj (K.storePcState q))) =
        ps.map fun q => (K.storePcState q, if s.obj (K.storePcState q) = a then b else s.obj (K.storePcState q)) :=
      List.map_congr_left fun q hq => by
        rw [(puts_pcMoved a b s p).obj _ fun hm => storePcState_inj (p := q) (q := p) (fun e => hp (e ▸ hq)) (List.mem_singleton.1 hm)]
    rw [hsame] at hrest
    refine (puts_pcMoved a b s p).append hrest fun k hk hm => ?_
    obtain ⟨e, he, rfl⟩ := List.mem_map.1 hm
    obtain ⟨q, hq, rfl⟩ := List.mem_map.1 he
    exact storePcState_inj (p := q) (q := p) (fun e => hp (e ▸ hq)) (List.mem_singleton.1 hk)

theorem puts_movePcs (s : State) (a b : Nat) : Puts (pcsMoved s a b) (s.movePcs a b) s := puts_foldl_pcs a b _ List.nodup_range s

theorem pcsMoved_key {a b k : Nat} (h : k ∈ (pcsMoved s a b).map (·.1)) : 0x582000 ≤ k ∧ k < 0x584000 := by
  obtain ⟨e, he, rfl⟩ := List.mem_map.1 h
  obtain ⟨p, hp, rfl⟩ := List.mem_map.1 he
  have hlt := List.mem_range.1 hp
  simp only [K.storePcState, key]
  omega

/-- The Store's state and the states of the pseudo-channels that go with it. -/
theorem puts_storeMoved (s : State) (x a b : Nat) :
    Puts ((K.storeState, x) :: pcsMoved s a b) ((s.set K.storeState x).movePcs a b) s := by
  have hmoved := puts_movePcs (s.set K.storeState x) a b
  have hkept (p : Nat) : (s.set K.storeState x).obj (K.storePcState p) = s.obj (K.storePcState p) :=
    obj_set_ne _ _ (key_ne (by decide) (by decide) (.inl (by omega)))
  have hsame : pcsMoved (s.set K.storeState x) a b = pcsMoved s a b := List.map_congr_left fun p _ => by rw [hkept]
  rw [hsame] at hmoved
  refine (puts_set s K.storeState x).append hmoved fun k hk hm => ?_
  have hlow : K.storeState < 0x582000 := by decide
  rw [List.mem_singleton.1 hk] at hm
  exact absurd (pcsMoved_key hm).1 (by show ¬ 0x582000 ≤ K.storeState; omega)

theorem movePcs_trans (s : State) (a b : Nat) : (s.movePcs a b).trans = s.trans ∧ (s.movePcs a b).time = s.time ∧
    (s.movePcs a b).mode = s.mode := by
  have hmode (t : State) (p x : Nat) : (t.set (K.storePcState p) x).mode = t.mode := obj_set_ne _ _ (key_ne (by decide) (by decide) (.inl (by omega)))
  have hone (t : State) (p : Nat) : (pcMoved a b t p).trans = t.trans ∧ (pcMoved a b t p).time = t.time ∧ (pcMoved a b t p).mode = t.mode := by
    unfold pcMoved
    split
    · exact ⟨set_trans .., set_time .., hmode ..⟩
    · exact ⟨rfl, rfl, rfl⟩
  rw [movePcs_eq]
  exact ⟨foldl_keeps (·.trans) _ _ _ fun t p => (hone t p).1, foldl_keeps (·.time) _ _ _ fun t p => (hone t p).2.1,
    foldl_keeps (·.mode) _ _ _ fun t p => (hone t p).2.2⟩

/-! ## Into STANDBY, and out of self-refresh -/

/-- The values of STANDBY in force from an instant. -/
def standbyShown (now : Nat) : List (Nat × Nat) :=
  [(K.deviceMode, mStandby), (K.deviceModeSince, now), (K.deviceModeTarget, mStandby), (K.deviceModeStep, 0), (K.deviceHoldCause, 0),
    (K.deviceHoldEncoder, 0xFF)]

theorem setAll_puts (s : State) (vs : List (Nat × Nat)) (h : (vs.map (·.1)).Nodup) : Puts vs (setAll s vs) s := by
  induction vs generalizing s with
  | nil => exact puts_refl s
  | cons e vs ih =>
    obtain ⟨he, hvs⟩ := List.nodup_cons.1 h
    exact (puts_set s e.1 e.2).append (ih _ hvs) fun k hk => (List.mem_singleton.1 hk) ▸ he

def settledTrans (s : State) (x : Transition) : State := { s with trans := x }

theorem rest_standby (h : s.mode ≠ mStandby) : s.rest mStandby = settledTrans (setAll s (standbyShown s.now)) .idle := by
  rw [rest_eq, inMode, if_neg h]
  rfl

theorem sleepStore_now (s : State) : s.sleepStore.now = s.now := by
  have htime := (movePcs_trans (s.set K.storeState 2) 0 1).2.1
  exact congrArg time96 (htime.trans (set_time ..))

/-- No transition, and whether the shadow was valid as STANDBY was reached. -/
def asleep (valid : Bool) : Transition := { Transition.idle with shadow := valid }

/-- STANDBY in force after a state, from the facts of its shadow. -/
def standbyAfter (s : State) : State := settledTrans s (asleep (s.obj K.deviceStandbyShadow == 1))

theorem shutdownEnd_last (hstep : s.obj K.deviceModeStep = 5) (h : s.mode ≠ mStandby) :
    s.shutdownEnd = standbyAfter (settledTrans (setAll s.sleepStore (standbyShown s.now)) .idle) := by
  have hmode : s.sleepStore.mode ≠ mStandby := by
    unfold State.sleepStore
    rw [(movePcs_trans ..).2.2]
    exact fun e => h ((obj_set_ne _ _ (by decide)).symm.trans e)
  have hlast : s.shutdownEnd = standbyAfter (s.sleepStore.rest mStandby) := by
    unfold State.shutdownEnd
    rw [hstep]
    rfl
  rw [hlast, rest_standby hmode, sleepStore_now]

theorem settledTrans_puts (s : State) (x : Transition) : Puts [] (settledTrans s x) s := puts_of_dict rfl rfl rfl rfl rfl rfl

theorem standbyShown_key {now k : Nat} (h : k ∈ (standbyShown now).map (·.1)) : k < 0x110000 := by
  simp only [standbyShown, List.map_cons, List.map_nil, List.mem_cons, List.not_mem_nil, or_false] at h
  rcases h with rfl | rfl | rfl | rfl | rfl | rfl <;> decide

theorem puts_sleepStore (s : State) : Puts ((K.storeState, 2) :: pcsMoved s 0 1) s.sleepStore s := puts_storeMoved s 2 0 1

theorem puts_standby (s : State) (now : Nat) :
    Puts (((K.storeState, 2) :: pcsMoved s 0 1) ++ standbyShown now) (setAll s.sleepStore (standbyShown now)) s := by
  have hnodup : ((standbyShown now).map (·.1)).Nodup := by
    show [K.deviceMode, K.deviceModeSince, K.deviceModeTarget, K.deviceModeStep, K.deviceHoldCause, K.deviceHoldEncoder].Nodup
    decide
  refine (puts_sleepStore s).append (setAll_puts _ _ hnodup) fun k hk hm => ?_
  have hlow := standbyShown_key hm
  rw [List.map_cons, List.mem_cons] at hk
  rcases hk with rfl | hk
  · have hstore : 0x110000 ≤ K.storeState := by decide
    exact absurd hlow (by show ¬ K.storeState < 0x110000; omega)
  · have := (pcsMoved_key hk).1
    omega

theorem shadow_untouched (s : State) (now : Nat) :
    K.deviceStandbyShadow ∉ (((K.storeState, 2) :: pcsMoved s 0 1) ++ standbyShown now).map (·.1) := by
  have hlow : K.deviceStandbyShadow < 0x582000 := by decide
  have hmodes : K.deviceStandbyShadow ∉
      [K.deviceMode, K.deviceModeSince, K.deviceModeTarget, K.deviceModeStep, K.deviceHoldCause, K.deviceHoldEncoder] := by decide
  rw [List.map_append, List.mem_append, List.map_cons, List.mem_cons]
  rintro ((hk | hk) | hk)
  · exact absurd hk (by decide)
  · have := (pcsMoved_key hk).1
    omega
  · exact hmodes hk

theorem pcsMoved_begin (s : State) (t a b : Nat) : pcsMoved (s.begin_ t) a b = pcsMoved s a b := rfl

theorem puts_standbyAfter (s : State) (now : Nat) :
    Puts ((K.storeState, 2) :: standbyShown now ++ pcsMoved s 0 1)
      (standbyAfter (settledTrans (setAll s.sleepStore (standbyShown now)) .idle)) s := by
  have hshown := puts_standby s now
  generalize setAll s.sleepStore (standbyShown now) = u at hshown ⊢
  have hrested : Puts ((K.storeState, 2) :: pcsMoved s 0 1 ++ standbyShown now) (standbyAfter (settledTrans u .idle)) s :=
    (hshown.same (settledTrans_puts u .idle)).same (settledTrans_puts _ _)
  exact hrested.reorder (List.perm_append_comm.cons _)

theorem standbyAfter_shadow (s : State) : (standbyAfter (settledTrans s .idle)).trans = asleep (s.obj K.deviceStandbyShadow == 1) := rfl

theorem standbyAfter_trans (s : State) (now : Nat) :
    (standbyAfter (settledTrans (setAll s.sleepStore (standbyShown now)) .idle)).trans = asleep (s.obj K.deviceStandbyShadow == 1) := by
  rw [standbyAfter_shadow, (puts_standby s now).obj _ (shadow_untouched s now)]

theorem shutdownLast_sets {t : Nat} (h : Awake s) (hmotion : s.trans.motion = .shutdown) (hstep : s.obj K.deviceModeStep = 5)
    (hpending : s.obj K.deviceModePending = 0) (hmode : s.mode ≠ mStandby) (hhalted : s.halted = none) :
    Sets (.shutdownStepEnd t) s ((K.storeState, 2) :: standbyShown (s.begin_ t).now ++ pcsMoved s 0 1)
      (fun u => u.trans.motion = .none ∧ u.trans.shadow = (s.obj K.deviceStandbyShadow == 1)) := by
  have heffect := (xShutdownStepEnd_eq (s := s.begin_ t) hmotion hhalted hpending).trans (shutdownEnd_last (s := s.begin_ t) hstep hmode)
  have hputs := puts_standbyAfter (s.begin_ t) (s.begin_ t).now
  have htrans := standbyAfter_trans (s.begin_ t) (s.begin_ t).now
  rw [← heffect] at hputs htrans
  rw [pcsMoved_begin] at hputs
  refine sets_event (exec_shutdownStepEnd t s) h hputs.leaves hputs.holds ?_
  rw [htrans]
  exact ⟨rfl, rfl⟩

/-! ## The wake -/

theorem wakeStore_trans (s : State) : s.wakeStore.trans = s.trans := (movePcs_trans (s.set K.storeState 1) 1 0).1.trans (set_trans ..)

/-- The first step of a wake whose shadow was valid ends in the second. -/
theorem wakeEnd_first (hstep : s.obj K.deviceModeStep = 1) (hshadow : s.trans.shadow = true) : s.wakeEnd true = s.wakeStore.setStep 2 := by
  unfold State.wakeEnd
  rw [if_pos hstep, if_neg (by decide), if_pos (by rw [wakeStore_trans, hshadow])]

theorem xWakeStepEnd_first (hmotion : s.trans.motion = .wake) (hstep : s.obj K.deviceModeStep = 1) (hshadow : s.trans.shadow = true)
    (hhalted : s.halted = none) : xWakeStepEnd true s = s.wakeStore.setStep 2 := by
  have hfree : s.haltedIn .wake = false := by unfold State.haltedIn; rw [hhalted]
  have htrans : (s.wakeStore.setStep 2).trans = s.trans := (set_trans ..).trans (wakeStore_trans s)
  have hwaits : (s.wakeStore.setStep 2).waits = true := by
    unfold State.waits
    rw [htrans, hmotion]
    rfl
  unfold xWakeStepEnd
  rw [if_neg (by rw [hfree]; decide), if_neg (by rw [hmotion]; decide), wakeEnd_first hstep hshadow]
  extract_lets code woken
  rw [if_neg (by rw [htrans, hmotion]; decide)]
  exact if_pos (by rw [hwaits, Bool.or_true, Bool.true_or])

theorem puts_wakeFirst (s : State) : Puts ([(K.storeState, 1), (K.deviceModeStep, 2)] ++ pcsMoved s 1 0) (s.wakeStore.setStep 2) s := by
  have hlow : K.deviceModeStep < 0x582000 := by decide
  have hstore : K.deviceModeStep ≠ K.storeState := by decide
  have hfresh : K.deviceModeStep ∉ ((K.storeState, 1) :: pcsMoved s 1 0).map (·.1) := by
    rw [List.map_cons, List.mem_cons]
    rintro (hk | hk)
    · exact hstore hk
    · have := (pcsMoved_key hk).1
      omega
  exact ((puts_storeMoved s 1 1 0).set K.deviceModeStep 2 hfresh).reorder (List.Perm.swap ..)

theorem wakeFirst_sets {t : Nat} (h : Awake s) (hmotion : s.trans.motion = .wake) (hstep : s.obj K.deviceModeStep = 1)
    (hshadow : s.trans.shadow = true) (hhalted : s.halted = none) :
    Sets (.wakeStepEnd t true) s ([(K.storeState, 1), (K.deviceModeStep, 2)] ++ pcsMoved s 1 0) (fun u => u.trans = s.trans) := by
  have heffect := xWakeStepEnd_first (s := s.begin_ t) hmotion hstep hshadow hhalted
  have hputs := puts_wakeFirst (s.begin_ t)
  rw [pcsMoved_begin] at hputs
  refine sets_event (exec_wakeStepEnd t true s) h ?_ ?_ ?_
  all_goals rw [heffect]
  · exact hputs.leaves
  · exact hputs.holds
  · exact (set_trans ..).trans (wakeStore_trans (s.begin_ t))

end

/-- Settles O22: each transition ends in what it shows last; the copy's areas are read back range by range, and a unit's own effects keep the
low bits of its status byte. -/
theorem transitionsEndTheirSteps : Obligations.TransitionsEndTheirSteps :=
  ⟨fun _ _ hheld hmotion hdue => holdTakesEffect_completes hheld hmotion hdue,
    fun _ _ hheld hmotion hpending => drainComplete_completes hheld hmotion hpending,
    fun _ _ _ hheld hmotion hstep hlo hhi hhalted hpending => shutdownStep_completes hheld hmotion hstep hlo hhi hhalted hpending,
    fun _ _ h hmotion hstep hpending hmode hhalted => shutdownLast_sets h hmotion hstep hpending hmode hhalted,
    fun _ _ h hmotion hstep hshadow hhalted => wakeFirst_sets h hmotion hstep hshadow hhalted,
    fun s t h hcopying hred => shadowCopy_completes s t h hcopying hred,
    fun s _ _ h hn hend => engineEnd_sets s h hn hend,
    fun s t _ hheld hpresent hend => enableEnd_completes s t hheld hpresent hend⟩

end Sys2Proof.Proofs
end

section
/-! # Board facts come into force (R220) -/

set_option Elab.async false

namespace Sys2Proof.Proofs

open Sys2Proof Sys2Proof.Machine Sys2Proof.Laws

/-! ## What the roles of the lanes leave alone of the board facts -/

/-- A board fact, the state and the count of their commits, or the count of the source that a commit raises. -/
def factKey (k : Nat) : Bool := isBoardKey k || k == K.boardState || k == K.boardCommits || k == K.eventCount 764

/-- The board facts, with their values in force and their commits, are as they were. -/
structure KeepsFacts (u s : State) : Prop where
  obj : ∀ k, factKey k = true → u.obj k = s.obj k
  inForce : u.inForce = s.inForce
  boardNext : u.boardNext = s.boardNext

section
variable {u v s : State}

theorem KeepsFacts.refl (s : State) : KeepsFacts s s := ⟨fun _ _ => rfl, rfl, rfl⟩

theorem KeepsFacts.trans (h : KeepsFacts u v) (g : KeepsFacts v s) : KeepsFacts u s :=
  ⟨fun k hk => (h.obj k hk).trans (g.obj k hk), h.inForce.trans g.inForce, h.boardNext.trans g.boardNext⟩

theorem keepsFacts_of_dict (hv : u.variant = s.variant) (hd : u.dict = s.dict) (hi : u.inForce = s.inForce) (hb : u.boardNext = s.boardNext) :
    KeepsFacts u s := ⟨fun _ _ => by simp only [State.obj, hv, hd], hi, hb⟩

theorem keepsFacts_ite {c : Prop} [Decidable c] (h : KeepsFacts u s) (g : KeepsFacts v s) : KeepsFacts (if c then u else v) s := by
  split
  · exact h
  · exact g

theorem keepsFacts_foldl {α : Type} (f : State → α → State) (xs : List α) (s : State) (h : ∀ t, ∀ x ∈ xs, KeepsFacts (f t x) t) :
    KeepsFacts (xs.foldl f s) s := by
  induction xs generalizing s with
  | nil => exact .refl s
  | cons x xs ih => exact (ih _ fun t y hy => h t y (List.mem_cons_of_mem _ hy)).trans (h s x (List.mem_cons_self ..))

theorem keepsFacts_set (s : State) {k : Nat} (x : Nat) (hk : factKey k = false) : KeepsFacts (s.set k x) s :=
  ⟨fun _ hi => obj_set_ne _ _ fun he => by rw [he, hk] at hi; exact absurd hi (by decide), set_inForce .., set_boardNext ..⟩

/-- The facts stand between two chapters, but for the map of R351 and the count of the source. -/
theorem factKey_range {k : Nat} (h : factKey k = true) :
    (0x180000 ≤ k ∧ k < 0x180700) ∨ k = 0x780101 ∨ k = 0x72FC05 := by
  have hmap : K.calUnresolvedMap = 0x780101 := rfl
  have hstate : K.boardState = 0x180005 := rfl
  have hcommits : K.boardCommits = 0x180007 := rfl
  have hcount : K.eventCount 764 = 0x72FC05 := rfl
  simp only [factKey, isBoardKey, hmap, hstate, hcommits, hcount, Bool.or_eq_true, Bool.and_eq_true, decide_eq_true_eq, beq_iff_eq] at h
  omega

theorem not_fact {k : Nat} (h : k < 0x180000 ∨ (0x180700 ≤ k ∧ k < 0x700000)) : factKey k = false :=
  Bool.eq_false_iff.2 fun hk => by have := factKey_range hk; omega

theorem keepsFacts_raise (s : State) {n : Nat} (d : Nat) (hn : n ≠ 764) (hlt : n < 768) : KeepsFacts (s.raise n d) s := by
  refine ⟨fun k hk => obj_raise_ne _ _ _ _ fun he => ?_, raise_inForce .., raise_boardNext ..⟩
  have hrange := factKey_range hk
  simp only [eventKey, K.eventStatus, K.eventCount, K.eventTime, K.eventDetail, key] at he
  omega

/-! ## The formation -/

theorem keepsFacts_modRally (s : State) (f : Rally → Rally) : KeepsFacts (s.modRally f) s := keepsFacts_of_dict rfl rfl rfl rfl

theorem keepsFacts_launch (s : State) (lane : Nat) (w : Waiting) : KeepsFacts (s.launch lane w) s := by
  have hseq : KeepsFacts (s.nextSeq lane w.type).2 s := keepsFacts_of_dict rfl rfl rfl rfl
  have hemit (t : State) (e : Emission) : KeepsFacts (t.emit e) t := keepsFacts_of_dict rfl rfl rfl rfl
  have hdraw (t : State) (tag : Nat) : KeepsFacts (t.draw tag).2 t := keepsFacts_of_dict rfl rfl rfl rfl
  unfold State.launch
  extract_lets r v
  split
  · exact (hemit ..).trans ((hdraw ..).trans hseq)
  · exact (hemit ..).trans hseq

theorem keepsFacts_floodControl (s : State) (but hop : Nat) (c : Control) : KeepsFacts (s.floodControl but hop c) s := by
  refine keepsFacts_foldl _ _ _ fun t i _ => ?_
  show KeepsFacts (t.offerFragment i _) t
  unfold State.offerFragment
  extract_lets x
  exact keepsFacts_ite (.refl t) (keepsFacts_ite (keepsFacts_of_dict rfl rfl rfl rfl) (keepsFacts_launch ..))

theorem keepsFacts_setRally (s : State) (v : Nat) : KeepsFacts (s.setRally v) s := by
  unfold State.setRally
  extract_lets t
  have ht : KeepsFacts t s := (keepsFacts_set _ _ (by decide)).trans (keepsFacts_set _ _ (by decide))
  exact keepsFacts_ite ((keepsFacts_modRally ..).trans ht) ht

theorem keepsFacts_setTimeState (s : State) (v : Nat) : KeepsFacts (s.setTimeState v) s := by
  unfold State.setTimeState
  extract_lets old t
  have ht : KeepsFacts t s := keepsFacts_set _ _ (by decide)
  exact keepsFacts_ite ((keepsFacts_raise _ _ (by decide) (by decide)).trans ht) ht

theorem keepsFacts_unlocked (s : State) : KeepsFacts (unlocked s) s := keepsFacts_of_dict rfl rfl rfl rfl

theorem keepsFacts_loseRally (s : State) : KeepsFacts s.loseRally s := by
  have hlost (v : Nat) : KeepsFacts ((unlocked (s.set K.timeSource 0)).setTimeState v) s :=
    (keepsFacts_setTimeState ..).trans ((keepsFacts_unlocked _).trans (keepsFacts_set _ _ (by decide)))
  unfold State.loseRally
  exact keepsFacts_ite (.refl s) (hlost _)

theorem keepsFacts_losePtp (s : State) : KeepsFacts s.losePtp s := by
  have hlost (v : Nat) : KeepsFacts ((masterLost s).setTimeState v) s :=
    (keepsFacts_setTimeState ..).trans ((keepsFacts_unlocked _).trans ((keepsFacts_set _ _ (by decide)).trans
      ((keepsFacts_set _ _ (by decide)).trans (keepsFacts_set _ _ (by decide)))))
  unfold State.losePtp
  exact keepsFacts_ite (.refl s) (hlost _)

theorem keepsFacts_timeOfRole (s : State) : KeepsFacts s.timeOfRole s :=
  keepsFacts_ite (keepsFacts_ite ((keepsFacts_set _ _ (by decide)).trans (keepsFacts_losePtp s)) (.refl s)) (keepsFacts_loseRally s)

theorem keepsFacts_showMembers (s : State) : KeepsFacts s.showMembers s :=
  (keepsFacts_set _ _ (by decide)).trans ((keepsFacts_set _ _ (by decide)).trans (keepsFacts_set _ _ (by decide)))

theorem keepsFacts_pruneMembers (s : State) : KeepsFacts s.pruneMembers s :=
  (keepsFacts_foldl _ _ _ fun _ _ _ => keepsFacts_raise _ _ (by decide) (by decide)).trans (keepsFacts_modRally ..)

theorem keepsFacts_updateRoles (s : State) : KeepsFacts s.updateRoles s := by
  unfold State.updateRoles
  extract_lets pruned captain lead role rises told led relinked island aligned shown
  have htold : KeepsFacts told s := (keepsFacts_set _ _ (by decide)).trans ((keepsFacts_set _ _ (by decide)).trans
    ((keepsFacts_set _ _ (by decide)).trans (keepsFacts_pruneMembers s)))
  have hled : KeepsFacts led s := keepsFacts_ite ((keepsFacts_set _ _ (by decide)).trans ((keepsFacts_set _ _ (by decide)).trans
    ((keepsFacts_set _ _ (by decide)).trans htold))) htold
  have hisland : KeepsFacts island s := keepsFacts_ite ((keepsFacts_setRally ..).trans hled)
    (keepsFacts_ite ((keepsFacts_floodControl ..).trans ((keepsFacts_setRally ..).trans hled)) hled)
  have haligned : KeepsFacts aligned s := keepsFacts_ite ((keepsFacts_setRally ..).trans hisland) hisland
  have hshown : KeepsFacts shown s := (keepsFacts_showMembers _).trans ((keepsFacts_timeOfRole _).trans haligned)
  exact keepsFacts_ite ((keepsFacts_floodControl ..).trans hshown) hshown

theorem keepsFacts_rallyFromBoard (s : State) : KeepsFacts s.rallyFromBoard s := by
  unfold State.rallyFromBoard
  extract_lets named up down
  have hlane (t r : State) {i : Nat} (v : Nat) (hi : i ∈ List.range (laneCount r.variant)) : KeepsFacts (t.set (K.rallyLaneState i) v) t :=
    keepsFacts_set _ _ (not_fact (.inl (by
      have := laneCount_le r.variant
      have := List.mem_range.1 hi
      simp only [K.rallyLaneState, key]
      omega)))
  have hup : KeepsFacts up s :=
    (keepsFacts_foldl _ _ _ fun t i hi => keepsFacts_ite (hlane t named 1 (List.mem_of_mem_filter hi)) (.refl t)).trans
      (keepsFacts_set _ _ (by decide))
  have hdown : KeepsFacts down s :=
    (keepsFacts_foldl _ _ _ fun t i hi => keepsFacts_ite (.refl t) (hlane t up 0 (List.mem_of_mem_filter hi))).trans hup
  exact keepsFacts_ite (keepsFacts_ite hdown ((keepsFacts_loseRally _).trans ((keepsFacts_setRally ..).trans hdown)))
    (keepsFacts_ite ((keepsFacts_updateRoles _).trans ((keepsFacts_setRally ..).trans hdown)) hdown)

/-! ## The lanes -/

theorem laneKey_not_fact {i b n : Nat} (hn : n < 16) (hi : i < 64) (hb : b < 256) : factKey (key (0x5000 + i + 64 * n) b) = false :=
  not_fact (.inr (by simp only [key]; omega))

theorem keepsFacts_lane {i b n : Nat} (hn : n < 16) (hi : i < 64) (hb : b < 256) (s : State) (x : Nat) :
    KeepsFacts (s.set (key (0x5000 + i + 64 * n) b) x) s := keepsFacts_set _ _ (laneKey_not_fact hn hi hb)

theorem keepsFacts_status {n : Nat} (hn : n < 16) (s : State) (x : Nat) : KeepsFacts (s.set (K.laneStatus n) x) s :=
  keepsFacts_lane (i := 0) hn (by decide) (by decide) s x

theorem keepsFacts_clearFrames {n : Nat} (hn : n < 16) (s : State) : KeepsFacts (s.clearFrames n) s := by
  refine keepsFacts_ite (.refl s) (keepsFacts_foldl _ _ _ fun t k hk => keepsFacts_ite (.refl t) (keepsFacts_set _ _ ?_))
  simp only [List.mem_cons, List.not_mem_nil, or_false] at hk
  rcases hk with rfl | rfl | rfl | rfl | rfl | rfl | rfl <;> exact laneKey_not_fact (i := 4) hn (by decide) (by decide)

theorem keepsFacts_showHold {n : Nat} (hn : n < 16) (s : State) : KeepsFacts (s.showHold n) s := by
  unfold State.showHold
  extract_lets c shown bit flagged
  have hshown : KeepsFacts shown s := keepsFacts_ite (.refl s) (keepsFacts_lane (i := 3) hn (by decide) (by decide) _ _)
  have hflagged : KeepsFacts flagged shown := keepsFacts_status hn _ _
  have hheld (since : Option Nat) : KeepsFacts (flagged.modLane n fun x => { x with held := since, told := false }) flagged :=
    keepsFacts_of_dict rfl rfl rfl rfl
  exact keepsFacts_ite hshown ((hheld _).trans (hflagged.trans hshown))

theorem keepsFacts_endReplay (s : State) (x : Replay) : KeepsFacts (s.endReplay x) s := by
  unfold State.endReplay
  extract_lets t body msg w
  have hw : KeepsFacts w s := keepsFacts_of_dict rfl rfl rfl rfl
  exact keepsFacts_ite ((keepsFacts_raise _ _ (by decide) (by decide)).trans hw) hw

theorem keepsFacts_takeRole {n : Nat} (hn : n < 16) (s : State) : KeepsFacts (s.takeRole n) s := by
  unfold State.takeRole
  extract_lets role b cut
  have hrole : KeepsFacts (s.set (K.laneRole n) role) s := keepsFacts_lane (i := 0) hn (by decide) (by decide) s role
  have hwake (t : State) : KeepsFacts (t.laneWake n) t := keepsFacts_ite (keepsFacts_status hn _ _) (.refl t)
  have hcut : KeepsFacts cut s := keepsFacts_foldl _ _ _ fun _ _ _ => keepsFacts_endReplay ..
  exact keepsFacts_ite (.refl s) (keepsFacts_ite
    ((keepsFacts_showHold hn _).trans ((hwake _).trans ((keepsFacts_clearFrames hn _).trans hrole)))
    ((keepsFacts_status hn _ _).trans hcut))

theorem keepsFacts_takeRoles (s : State) : KeepsFacts s.takeRoles s :=
  (keepsFacts_rallyFromBoard _).trans (keepsFacts_foldl _ _ _ fun _ _ hn =>
    keepsFacts_takeRole (lt_of_lt_of_le (List.mem_range.1 hn) (laneCount_le _)) _)

end

end Sys2Proof.Proofs
end

section
/-! # Board facts and the defect list (R220, R226) -/

set_option Elab.async false

namespace Sys2Proof.Proofs

open Sys2Proof Sys2Proof.Machine Sys2Proof.Laws

/-! ## BOARD_COMMIT -/

section
variable {s a : State} {q : Req} {l : Loc}

/-- The facts that wait, with their values, go to the copy not in force. -/
def factsTaken (s : State) (bs : List (Nat × List Byte)) : State :=
  { s with boardNext := ((s.inForce.map (·.1)).filter isBoardKey).map (fun k => (k, s.obj k)), boardWas := s.obj K.boardState, blobs := bs }

theorem boardCommit_eq (s : State) : ∃ bs, xBoardCommit s = (factsTaken s bs).set K.boardState 2 := ⟨_, rfl⟩

theorem mem_factsTaken (s : State) (bs : List (Nat × List Byte)) (k v : Nat) :
    (k, v) ∈ (factsTaken s bs).boardNext ↔ k ∈ s.inForce.map (·.1) ∧ isBoardKey k = true ∧ v = s.obj k := by
  show (k, v) ∈ ((s.inForce.map (·.1)).filter isBoardKey).map (fun k => (k, s.obj k)) ↔ _
  simp only [List.mem_map (f := fun k => (k, s.obj k)), List.mem_filter, Prod.mk.injEq]
  constructor
  · rintro ⟨i, ⟨hi, hkey⟩, rfl, rfl⟩
    exact ⟨hi, hkey, rfl⟩
  · rintro ⟨hk, hkey, rfl⟩
    exact ⟨k, ⟨hk, hkey⟩, rfl, rfl⟩

theorem putPlan_board {t : State} {p : Put} (h : p.key_ = K.boardCommit) : putPlan t p = xBoardCommit (t.putValue p) := by
  rw [putPlan_cases, if_pos h]

theorem boardKey_access {k : Nat} (h : isBoardKey k = true) : accessKey k = false := by
  have hrange := factKey_range (k := k) (by rw [factKey, h]; rfl)
  rw [← Nat.div_add_mod' k 256]
  exact access_key_false (i := k / 256) (b := k % 256) (Nat.mod_lt _ (by decide)) (by omega)

theorem boardCommit_writes (hsafe : s.safeAsk = 0) (h : Accepts s (onObject (withBody q (toLE 1 1)) K.boardCommit) l) :
    Writes (.boardCommit q) s (onObject (withBody q (toLE 1 1)) K.boardCommit) l [(K.boardState, 2)]
      (fun u => ∀ k v, (k, v) ∈ u.boardNext ↔ k ∈ s.inForce.map (·.1) ∧ isBoardKey k = true ∧ v = s.obj k) := by
  generalize hw : withBody q (toLE 1 1) = w at h ⊢
  obtain ⟨-, hattr, -, -⟩ := accepted_row h (by decide) place_boardCommit
  obtain ⟨bs, heffect⟩ := boardCommit_eq (s.access (onObject w K.boardCommit))
  have hput : putPlan (s.access (onObject w K.boardCommit)) (putAt s w K.boardCommit l) =
      (factsTaken (s.access (onObject w K.boardCommit)) bs).set K.boardState 2 := by
    rw [putPlan_board (putAt_key ..), putValue_action _ hattr, heffect]
  have htaken : Leaves [K.boardState] (factsTaken (s.access (onObject w K.boardCommit)) bs) (s.access (onObject w K.boardCommit)) :=
    leaves_of_dict rfl rfl rfl rfl rfl rfl
  refine writes_of_put ((exec_boardCommit q s).trans (by rw [hw]; rfl)) hsafe h (written_plan (by decide) (by decide)) hput
    ((leaves_set _ _ (List.mem_singleton_self _)).trans htaken) (holds_cons (obj_set_self ..) (holds_nil _)) fun k v => ?_
  rw [answered_boardNext, record_boardNext, set_boardNext, mem_factsTaken, access_inForce]
  exact and_congr_right fun _ => and_congr_right fun hkey => by rw [obj_access h (boardKey_access hkey)]

end

/-! ## The programmed copy comes into force -/

section
variable {s u : State} {k v : Nat}

theorem settleTo_obj (s : State) (k v i : Nat) : (s.settleTo k v).obj i = s.obj i := by
  unfold State.settleTo
  split <;> rfl

theorem settleTo_self (s : State) (k v : Nat) : (s.settleTo k v).force k = v := by
  unfold State.settleTo
  split
  next h =>
    show (Sp.find (Sp.erase s.inForce k) k).getD (s.obj k) = v
    rw [find_erase_self, Option.getD_none, h]
  next h =>
    show (Sp.find (Sp.insert s.inForce k v) k).getD (s.obj k) = v
    rw [find_insert_self, Option.getD_some]

theorem settleTo_other (s : State) {i : Nat} (h : i ≠ k) : (s.settleTo k v).force i = s.force i := by
  unfold State.settleTo
  split
  · show (Sp.find (Sp.erase s.inForce k) i).getD (s.obj i) = _
    rw [find_erase_ne _ h]
    rfl
  · show (Sp.find (Sp.insert s.inForce k v) i).getD (s.obj i) = _
    rw [find_insert_ne _ _ h]
    rfl

/-- Values that come into force one after another, each of an object of its own. -/
theorem settledAll_force (vs : List (Nat × Nat)) (hnodup : (vs.map (·.1)).Nodup) (s : State) :
    (∀ e ∈ vs, (vs.foldl (fun st e => st.settleTo e.1 e.2) s).force e.1 = e.2) ∧
      (∀ i, i ∉ vs.map (·.1) → (vs.foldl (fun st e => st.settleTo e.1 e.2) s).force i = s.force i) := by
  induction vs generalizing s with
  | nil => exact ⟨fun _ h => absurd h List.not_mem_nil, fun _ _ => rfl⟩
  | cons e vs ih =>
    obtain ⟨he, hvs⟩ := List.nodup_cons.1 hnodup
    obtain ⟨hin, hout⟩ := ih hvs (s.settleTo e.1 e.2)
    refine ⟨fun x hx => ?_, fun i hi => ?_⟩
    · rcases List.mem_cons.1 hx with rfl | hx
      · exact (hout _ he).trans (settleTo_self ..)
      · exact hin x hx
    · rw [List.map_cons, List.mem_cons, not_or] at hi
      exact (hout i hi.2).trans (settleTo_other s hi.1)

theorem settledAll_obj (vs : List (Nat × Nat)) (s : State) (i : Nat) :
    (vs.foldl (fun st e => st.settleTo e.1 e.2) s).obj i = s.obj i :=
  foldl_keeps (·.obj i) _ _ _ fun t e => settleTo_obj t e.1 e.2 i

/-- Every value that a copy was programmed with is in force. -/
def valuesInForce (s : State) : State := s.boardNext.foldl (fun st e => st.settleTo e.1 e.2) s

/-- The bytes too, and no fact waits for its programming. -/
def copyInForce (s : State) : State :=
  { ((valuesInForce s).commitBlob K.boardName).commitBlob K.boardUser with boardNext := [], placeDirty := true }

theorem boardProgrammed_eq (h : s.obj K.boardState = 2) : boardProgrammed s =
    (((((copyInForce s).set K.boardState 1).set K.boardCrc (copyInForce s).boardCrc).count K.boardCommits 32 1).raise 764 0).takeRoles :=
  congrArg State.takeRoles (if_neg (not_not.2 h))

theorem commitBlob_keeps (s : State) (b : Nat) : (∀ i, (s.commitBlob b).obj i = s.obj i) ∧ (s.commitBlob b).inForce = s.inForce := by
  unfold State.commitBlob
  split <;> exact ⟨fun _ => rfl, rfl⟩

theorem force_congr (hobj : ∀ i, u.obj i = s.obj i) (hforce : u.inForce = s.inForce) : u.force k = s.force k := by
  simp only [State.force, hobj, hforce]

theorem copyInForce_force (s : State) (k : Nat) : (copyInForce s).force k = (valuesInForce s).force k := by
  obtain ⟨hname, hnameForce⟩ := commitBlob_keeps (valuesInForce s) K.boardName
  obtain ⟨huser, huserForce⟩ := commitBlob_keeps ((valuesInForce s).commitBlob K.boardName) K.boardUser
  exact force_congr (fun i => (huser i).trans (hname i)) (huserForce.trans hnameForce)

theorem copyInForce_obj (s : State) (k : Nat) : (copyInForce s).obj k = s.obj k := by
  obtain ⟨hname, -⟩ := commitBlob_keeps (valuesInForce s) K.boardName
  obtain ⟨huser, -⟩ := commitBlob_keeps ((valuesInForce s).commitBlob K.boardName) K.boardUser
  exact (huser k).trans ((hname k).trans (settledAll_obj ..))

/-- The commit is shown, counted and raised. -/
def commitShown (s : State) (crc : Nat) : State := (((s.set K.boardState 1).set K.boardCrc crc).count K.boardCommits 32 1).raise 764 0

theorem boardKey_ne {i : Nat} (hk : isBoardKey k = true) (hi : isBoardKey i = false) : k ≠ i := fun he => by
  rw [he, hi] at hk
  exact absurd hk (by decide)

theorem eventKey_not_board (hk : isBoardKey k = true) : ¬ eventKey 764 k := by
  rintro (h | h | h | h) <;> exact boardKey_ne hk (by decide) h

theorem commitShown_force (s : State) (crc : Nat) (hk : isBoardKey k = true) : (commitShown s crc).force k = s.force k := by
  have hobj : (commitShown s crc).obj k = s.obj k :=
    (obj_raise_ne _ _ _ _ (eventKey_not_board hk)).trans ((obj_count_ne _ _ _ (boardKey_ne hk (by decide))).trans
      ((obj_set_ne _ _ (boardKey_ne hk (by decide))).trans (obj_set_ne _ _ (boardKey_ne hk (by decide)))))
  have hforce : (commitShown s crc).inForce = s.inForce :=
    (raise_inForce ..).trans ((count_inForce ..).trans ((set_inForce ..).trans (set_inForce ..)))
  simp only [State.force, hobj, hforce]

theorem commitShown_shows (s : State) (crc : Nat) : (commitShown s crc).obj K.boardState = 1 ∧
    (commitShown s crc).obj K.boardCommits = satAdd 32 (s.obj K.boardCommits) 1 ∧
    (commitShown s crc).obj (K.eventCount 764) = satAdd 32 (s.obj (K.eventCount 764)) 1 := by
  have hkept {i : Nat} (h1 : i ≠ K.boardState) (h2 : i ≠ K.boardCrc) : ((s.set K.boardState 1).set K.boardCrc crc).obj i = s.obj i :=
    (obj_set_ne _ _ h2).trans (obj_set_ne _ _ h1)
  obtain ⟨-, hcount, -, -⟩ := raise_spec (((s.set K.boardState 1).set K.boardCrc crc).count K.boardCommits 32 1) 764 0
    (hasSource_of_ge _ (by decide) (by decide))
  refine ⟨?_, ?_, hcount.trans ?_⟩
  · exact (obj_raise_ne _ _ _ _ (by unfold eventKey; decide)).trans ((obj_count_ne _ _ _ (by decide)).trans
      ((obj_set_ne _ _ (by decide)).trans (obj_set_self ..)))
  · refine (obj_raise_ne _ _ _ _ (by unfold eventKey; decide)).trans ?_
    rw [obj_count_self, hkept (by decide) (by decide)]
  · rw [obj_count_ne _ _ _ (by decide), hkept (by decide) (by decide)]

theorem commitShown_boardNext (s : State) (crc : Nat) : (commitShown s crc).boardNext = s.boardNext :=
  (raise_boardNext ..).trans ((count_boardNext ..).trans ((set_boardNext ..).trans (set_boardNext ..)))

theorem KeepsFacts.force (h : KeepsFacts u s) (hk : isBoardKey k = true) : u.force k = s.force k := by
  simp only [State.force, h.obj k (by rw [factKey, hk]; rfl), h.inForce]

theorem boardProgrammed_completes {t : Nat} (hheld : s.held = false) (hstate : s.obj K.boardState = 2) (hnodup : (s.boardNext.map (·.1)).Nodup)
    (hkeys : ∀ e ∈ s.boardNext, isBoardKey e.1 = true) :
    Completes (.boardProgrammed t) s
      (fun u => (∀ e ∈ s.boardNext, u.force e.1 = e.2) ∧ u.obj K.boardState = 1 ∧ u.obj K.boardCommits = satAdd 32 (s.obj K.boardCommits) 1 ∧
        u.boardNext = [] ∧ u.obj (K.eventCount 764) = satAdd 32 (s.obj (K.eventCount 764)) 1) (fun _ => True) := by
  have heffect := boardProgrammed_eq (s := s.begin_ t) hstate
  generalize hcrc : (copyInForce (s.begin_ t)).boardCrc = crc at heffect
  have hroles : KeepsFacts (boardProgrammed (s.begin_ t)) (commitShown (copyInForce (s.begin_ t)) crc) := heffect ▸ keepsFacts_takeRoles _
  obtain ⟨hshown, hcommits, hraised⟩ := commitShown_shows (copyInForce (s.begin_ t)) crc
  have hcopied := copyInForce_obj (s.begin_ t)
  refine completes_event (exec_boardProgrammed t s) hheld ⟨fun e he => ?_, ?_, ?_, ?_, ?_⟩
  · rw [hroles.force (hkeys e he), commitShown_force _ _ (hkeys e he), copyInForce_force]
    exact (settledAll_force s.boardNext hnodup (s.begin_ t)).1 e he
  · exact (hroles.obj _ (by decide)).trans hshown
  · exact (hroles.obj _ (by decide)).trans (hcommits.trans (by rw [hcopied]; rfl))
  · exact hroles.boardNext.trans (commitShown_boardNext ..)
  · exact (hroles.obj _ (by decide)).trans (hraised.trans (by rw [hcopied]; rfl))

end

/-! ## The defect list -/

section
variable {s u : State} {q : Req} {l : Loc} {cls unit : Nat}

/-- One more entry, and a placement to be made anew. -/
def defectListed (s : State) (cls unit cause : Nat) : State :=
  { s with defects := s.defects ++ [(⟨cls, unit, cause, 0xFFFF⟩ : Defect)], placeDirty := true }

theorem addDefect_new (hnew : s.defects.any (fun d => d.names cls unit false) = false) (hroom : s.defects.length < 512) :
    s.addDefect cls unit 6 = ((defectListed s cls unit 6).showDefects cls unit).raise 759 unit := by
  have hnone : ¬ s.defects.any (fun d => d.names cls unit (6 == 3)) = true := by
    rw [show (6 == 3) = false from rfl, hnew]
    decide
  exact (if_neg hnone).trans (if_neg (by omega))

/-- What the list shows of a unit. -/
def defectShown (s : State) (cls unit : Nat) : List (Nat × Nat) :=
  [(K.placerDefectCount, s.defects.length)] ++
    (if cls = 4 ∧ unit < tileCount s.variant then [(K.tileStatus unit, withBit (s.obj (K.tileStatus unit)) 4 (s.defective 4 unit))] else [])

theorem showDefects_eq (s : State) (cls unit : Nat) : s.showDefects cls unit =
    if cls = 4 ∧ unit < tileCount s.variant then
      (s.set K.placerDefectCount s.defects.length).set (K.tileStatus unit)
        (withBit ((s.set K.placerDefectCount s.defects.length).obj (K.tileStatus unit)) 4 (s.defective 4 unit))
    else s.set K.placerDefectCount s.defects.length := by
  unfold State.showDefects
  extract_lets counted
  have hvariant : counted.variant = s.variant := set_variant ..
  by_cases htile : cls = 4 ∧ unit < tileCount s.variant
  · have hcond : (decide (cls = 4) && decide (unit < tileCount counted.variant)) = true := by simpa [hvariant] using htile
    exact (if_pos hcond).trans (if_pos htile).symm
  · have hcond : ¬ (decide (cls = 4) && decide (unit < tileCount counted.variant)) = true := by simpa [hvariant] using htile
    exact (if_neg hcond).trans (if_neg htile).symm

theorem puts_showDefects (s : State) (cls unit : Nat) : Puts (defectShown s cls unit) (s.showDefects cls unit) s := by
  have hcount : Puts [(K.placerDefectCount, s.defects.length)] (s.set K.placerDefectCount s.defects.length) s := puts_set ..
  have hstatus : (s.set K.placerDefectCount s.defects.length).obj (K.tileStatus unit) = s.obj (K.tileStatus unit) :=
    obj_set_ne _ _ (key_ne (by decide) (by decide) (.inl (by omega)))
  have hne : K.tileStatus unit ∉ [(K.placerDefectCount, s.defects.length)].map (·.1) := fun hm =>
    key_ne (by decide) (by decide) (.inl (by omega)) (List.mem_singleton.1 hm)
  have hmarked := hcount.set (K.tileStatus unit) (withBit (s.obj (K.tileStatus unit)) 4 (s.defective 4 unit)) hne
  rw [showDefects_eq, hstatus]
  unfold defectShown
  split
  · exact hmarked.reorder (List.Perm.swap _ _ [])
  · exact hcount

theorem defectShown_low {k : Nat} (h : k ∈ (defectShown s cls unit).map (·.1)) : k < 0x700000 := by
  have hcount : K.placerDefectCount < 0x700000 := by decide
  unfold defectShown at h
  split at h
  next htile =>
    have := tileCount_le s.variant
    simp only [List.cons_append, List.nil_append, List.map_cons, List.map_nil, List.mem_cons, List.not_mem_nil, or_false] at h
    rcases h with rfl | rfl
    · exact hcount
    · simp only [K.tileStatus, key]
      omega
  next => exact (List.mem_singleton.1 h) ▸ hcount

theorem putPlan_defectAdd {t : State} {p : Put} (h : p.key_ = K.placerDefectAdd) : putPlan t p = xDefectAdd p.v (t.putValue p) := by
  rw [putPlan_cases, h, if_neg (by decide), if_neg (by decide), if_pos rfl]

theorem putPlan_defectClear {t : State} {p : Put} (h : p.key_ = K.placerDefectClear) : putPlan t p = xDefectClearAll (t.putValue p) := by
  rw [putPlan_cases, h, if_neg (by decide), if_neg (by decide), if_neg (by decide), if_pos rfl]

theorem defectListed_defective (s : State) (unit : Nat) : (defectListed s 4 unit 6).defective 4 unit = true := by
  show (s.defects ++ [_]).any _ = true
  rw [List.any_append]
  simp [Defect.names]

theorem showDefects_time (s : State) (cls unit : Nat) : (s.showDefects cls unit).time = s.time ∧ (s.showDefects cls unit).defects = s.defects := by
  rw [showDefects_eq]
  split
  · exact ⟨(set_time ..).trans (set_time ..), (set_defects ..).trans (set_defects ..)⟩
  · exact ⟨set_time .., set_defects ..⟩

theorem addDefect_puts (hnew : s.defects.any (fun d => d.names cls unit false) = false) (hroom : s.defects.length < 512) :
    Puts ([(K.placerDefectCount, s.defects.length + 1)] ++
        (if cls = 4 ∧ unit < tileCount s.variant then [(K.tileStatus unit, withBit (s.obj (K.tileStatus unit)) 4 true)] else []) ++
        raisedBy s 759 unit) (s.addDefect cls unit 6) s := by
  have hlisted : Puts [] (defectListed s cls unit 6) s := puts_of_dict rfl rfl rfl rfl rfl rfl
  have hshown := puts_showDefects (defectListed s cls unit 6) cls unit
  have hvalues : defectShown (defectListed s cls unit 6) cls unit = [(K.placerDefectCount, s.defects.length + 1)] ++
      (if cls = 4 ∧ unit < tileCount s.variant then [(K.tileStatus unit, withBit (s.obj (K.tileStatus unit)) 4 true)] else []) := by
    have hlength : (defectListed s cls unit 6).defects.length = s.defects.length + 1 := List.length_append
    have hvariant : (defectListed s cls unit 6).variant = s.variant := rfl
    have hobj : (defectListed s cls unit 6).obj (K.tileStatus unit) = s.obj (K.tileStatus unit) := rfl
    unfold defectShown
    rw [hlength, hvariant, hobj]
    by_cases htile : cls = 4 ∧ unit < tileCount s.variant
    · rw [if_pos htile, if_pos htile, htile.1, defectListed_defective]
    · rw [if_neg htile, if_neg htile]
  rw [hvalues] at hshown
  rw [addDefect_new hnew hroom]
  have hlow (k : Nat) (hk : k ∈ ([(K.placerDefectCount, s.defects.length + 1)] ++
      (if cls = 4 ∧ unit < tileCount s.variant then [(K.tileStatus unit, withBit (s.obj (K.tileStatus unit)) 4 true)] else [])).map (·.1)) :
      k < 0x700000 := defectShown_low (s := defectListed s cls unit 6) (hvalues ▸ hk)
  exact (((hlisted.append hshown fun _ h => absurd h List.not_mem_nil)).raise 759 unit (hasSource_of_ge _ (by decide) (by decide))
    (showDefects_time ..).1 hlow)

theorem addDefect_defects (hnew : s.defects.any (fun d => d.names cls unit false) = false) (hroom : s.defects.length < 512) :
    (s.addDefect cls unit 6).defects = s.defects ++ [⟨cls, unit, 6, 0xFFFF⟩] := by
  rw [addDefect_new hnew hroom, raise_defects, (showDefects_time ..).2]
  rfl

theorem defectAdd_writes (hsafe : s.safeAsk = 0) (h : Accepts s (onObject q K.placerDefectAdd) l)
    (hnew : s.defects.any (fun d => d.names (ofLE q.body / 65536) (ofLE q.body % 65536) false) = false) (hroom : s.defects.length < 512) :
    Writes (.defectAdd q) s (onObject q K.placerDefectAdd) l
      ([(K.placerDefectCount, s.defects.length + 1)] ++
        (if ofLE q.body / 65536 = 4 ∧ ofLE q.body % 65536 < tileCount s.variant then
          [(K.tileStatus (ofLE q.body % 65536), withBit (s.obj (K.tileStatus (ofLE q.body % 65536))) 4 true)] else []) ++
        raisedBy (s.access (onObject q K.placerDefectAdd)) 759 (ofLE q.body % 65536))
      (fun u => u.defects = s.defects ++ [⟨ofLE q.body / 65536, ofLE q.body % 65536, 6, 0xFFFF⟩]) := by
  obtain ⟨-, hattr, -, -⟩ := accepted_row h (by decide) place_placerDefectAdd
  generalize ha : s.access (onObject q K.placerDefectAdd) = a
  have hdefects : a.defects = s.defects := ha ▸ access_defects ..
  have hvariant : a.variant = s.variant := ha ▸ access_variant ..
  have htile (unit : Nat) : a.obj (K.tileStatus unit) = s.obj (K.tileStatus unit) :=
    ha ▸ obj_access h (access_key_false (by decide) (by omega))
  have hput : putPlan a (putAt s q K.placerDefectAdd l) = a.addDefect (ofLE q.body / 65536) (ofLE q.body % 65536) 6 := by
    rw [putPlan_defectAdd (putAt_key ..), putValue_action _ hattr, putAt_v]
    rfl
  have hputs := addDefect_puts (s := a) (by rw [hdefects]; exact hnew) (by rw [hdefects]; exact hroom)
  rw [hdefects, hvariant, htile] at hputs
  refine writes_of_put (exec_defectAdd q s) hsafe h (written_plan (by decide) (by decide)) (ha.symm ▸ hput) ?_ hputs.holds ?_
  · exact ha.symm ▸ hputs.leaves
  · rw [answered_defects, record_defects, addDefect_defects (by rw [hdefects]; exact hnew) (by rw [hdefects]; exact hroom), hdefects]

/-- The list as it is after a clear, and its count. -/
structure ListCleared (ds : List Defect) (u s : State) : Prop where
  defects : u.defects = ds
  count : u.obj K.placerDefectCount = ds.length
  variant : u.variant = s.variant
  safeAsk : u.safeAsk = s.safeAsk

theorem ListCleared.show_ {ds : List Defect} (h : ListCleared ds u s) (cls unit : Nat) : ListCleared ds (u.showDefects cls unit) s := by
  have hputs := puts_showDefects u cls unit
  have hcount := hputs.holds (K.placerDefectCount, u.defects.length) (List.mem_append_left _ (List.mem_singleton_self _))
  refine ⟨(showDefects_time ..).2.trans h.defects, hcount.trans (congrArg List.length h.defects), hputs.variant.trans h.variant,
    hputs.safeAsk.trans h.safeAsk⟩

/-- The entries of cause BOARD alone. -/
def onlyBoard (s : State) : State :=
  { s with defects := s.defects.filter (fun d => d.cause == 7)
           placeDirty := s.placeDirty || !(s.defects.filter (fun d => d.cause != 7)).isEmpty }

theorem defectClear_eq (s : State) : xDefectClear s = (s.defects.filter (fun d => d.cause != 7)).foldl (fun st d => st.showDefects d.cls d.unit)
    ((onlyBoard s).set K.placerDefectCount (onlyBoard s).defects.length) := rfl

theorem xDefectClear_clears (s : State) : ListCleared (s.defects.filter (fun d => d.cause == 7)) (xDefectClear s) s := by
  have hshow (ds : List Defect) (u : State) (h : ListCleared (s.defects.filter (fun d => d.cause == 7)) u s) :
      ListCleared (s.defects.filter (fun d => d.cause == 7)) (ds.foldl (fun st d => st.showDefects d.cls d.unit) u) s := by
    induction ds generalizing u with
    | nil => exact h
    | cons d ds ih => exact ih _ (h.show_ d.cls d.unit)
  rw [defectClear_eq]
  exact hshow _ _ ⟨set_defects .., obj_set_self .., set_variant .., set_safeAsk ..⟩

/-- The latched faults of the tiles whose entries go. -/
def faultsCleared (s : State) : State :=
  (s.defects.filter (fun d => d.cls == 4 && d.cause != 7 && d.cause != 3)).foldl (fun st d => st.set (K.tileCalFault d.unit) 0) s

theorem xDefectClearAll_clears (s : State) : ListCleared (s.defects.filter (fun d => d.cause == 7)) (xDefectClearAll s) s := by
  have hdefects : (faultsCleared s).defects = s.defects := foldl_keeps (·.defects) _ _ _ fun _ _ => set_defects ..
  have hvariant : (faultsCleared s).variant = s.variant := foldl_keeps (·.variant) _ _ _ fun _ _ => set_variant ..
  have hsafe : (faultsCleared s).safeAsk = s.safeAsk := foldl_keeps (·.safeAsk) _ _ _ fun _ _ => set_safeAsk ..
  have hcleared := xDefectClear_clears (faultsCleared s)
  rw [hdefects] at hcleared
  exact ⟨hcleared.defects, hcleared.count, hcleared.variant.trans hvariant, hcleared.safeAsk.trans hsafe⟩

theorem defectClear_completes (hsafe : s.safeAsk = 0) (h : Accepts s (onObject q K.placerDefectClear) l) :
    Completes (.defectClear q) s
      (fun u => u.defects = s.defects.filter (fun d => d.cause == 7) ∧ u.obj K.placerDefectCount = u.defects.length) (fun _ => True) := by
  obtain ⟨-, hattr, -, -⟩ := accepted_row h (by decide) place_placerDefectClear
  generalize ha : s.access (onObject q K.placerDefectClear) = a
  have hdefects : a.defects = s.defects := ha ▸ access_defects ..
  have hvariant : a.variant = s.variant := ha ▸ access_variant ..
  have hask : a.safeAsk = 0 := ha ▸ (access_safeAsk ..).trans hsafe
  have hput : putPlan a (putAt s q K.placerDefectClear l) = xDefectClearAll a := by
    rw [putPlan_defectClear (putAt_key ..), putValue_action _ hattr]
  have hcleared := xDefectClearAll_clears a
  rw [hdefects] at hcleared
  have hwritten : s.written (onObject q K.placerDefectClear) l =
      (xDefectClearAll a).record K.placerDefectClear (a.classOf q.port) q.port := by
    rw [written_plan (by decide) (by decide), putBy, ha, hput]
  refine completes_put (exec_defectClear q s) h (written_plan (by decide) (by decide)) (ha.symm ▸ hput)
    (hcleared.variant.trans hvariant) (hcleared.safeAsk.trans hask) ?_ fun _ _ => trivial
  rw [hwritten, answered_defects, record_defects, answered_obj, obj_record, hcleared.defects, hcleared.count]
  exact ⟨rfl, rfl⟩

end

/-- Settles O32: the values that a copy was programmed with come into force one by one, and nothing of the lanes' new roles moves them; the
list shows its length and the bit of a tile. -/
theorem boardFactsAndDefects : Obligations.BoardFactsAndDefects :=
  ⟨fun _ _ _ hsafe h => boardCommit_writes hsafe h,
    fun _ _ hheld hstate hnodup hkeys => boardProgrammed_completes hheld hstate hnodup hkeys,
    fun _ _ _ hsafe h hnew hroom => defectAdd_writes hsafe h hnew hroom,
    fun _ _ _ hsafe h => defectClear_completes hsafe h⟩

end Sys2Proof.Proofs
end

section
/-! # Filling the places of calibration (R336) -/

set_option Elab.async false

namespace Sys2Proof.Proofs

open Sys2Proof Sys2Proof.Machine Sys2Proof.Laws

/-! ## Objects that the filling of places leaves alone -/

/-- Keys that no filling of a place writes, whatever the numbers of tiles and slots: those of even rows that are not a tile's status, monitors
or results, but for the subindices of an engine's status and primings. -/
def calKept (k : Nat) : Bool :=
  k / 256 % 2 == 0 && !([6, 12, 14].contains (k / 256 % 16)) && k % 256 != 2 && k % 256 != 8 && k != K.calQueued && k != K.calRunning

/-- Those keys keep their values, and a state of calibration that is not TRACE does not become it. -/
structure CalKeeps (u s : State) : Prop where
  obj : ∀ k, calKept k = true → u.obj k = s.obj k
  even : s.obj K.calState % 2 = 0 → u.obj K.calState % 2 = 0

section
variable {u v s : State} {n m : Nat}

theorem CalKeeps.refl (s : State) : CalKeeps s s := ⟨fun _ _ => rfl, id⟩

theorem CalKeeps.trans (h : CalKeeps u v) (g : CalKeeps v s) : CalKeeps u s :=
  ⟨fun k hk => (h.obj k hk).trans (g.obj k hk), fun he => h.even (g.even he)⟩

theorem calKeeps_of_dict (hv : u.variant = s.variant) (hd : u.dict = s.dict) : CalKeeps u s :=
  have hobj (k : Nat) : u.obj k = s.obj k := by simp only [State.obj, hv, hd]
  ⟨fun k _ => hobj k, fun he => by rw [hobj]; exact he⟩

theorem calKeeps_ite {c : Prop} [Decidable c] (h : CalKeeps u s) (g : CalKeeps v s) : CalKeeps (if c then u else v) s := by
  split
  · exact h
  · exact g

theorem calKeeps_foldl {α : Type} (f : State → α → State) (h : ∀ t x, CalKeeps (f t x) t) (xs : List α) (s : State) :
    CalKeeps (xs.foldl f s) s := by
  induction xs generalizing s with
  | nil => exact .refl s
  | cons x xs ih => exact (ih _).trans (h s x)

theorem calKeeps_set (s : State) {k : Nat} (x : Nat) (hk : calKept k = false) (hne : K.calState ≠ k) : CalKeeps (s.set k x) s :=
  ⟨fun _ hi => obj_set_ne _ _ fun he => by rw [he, hk] at hi; exact absurd hi (by decide), fun he => by rwa [obj_set_ne _ _ hne]⟩

theorem calKept_key {i b : Nat} (hb : b < 256) (h : calKept (key i b) = true) :
    i % 2 = 0 ∧ i % 16 ≠ 6 ∧ i % 16 ≠ 12 ∧ i % 16 ≠ 14 ∧ b ≠ 2 ∧ b ≠ 8 := by
  have hdiv : key i b / 256 = i := key_div hb
  have hmod : key i b % 256 = b := key_mod hb
  simp only [calKept, hdiv, hmod, List.contains_cons, List.contains_nil, Bool.and_eq_true, Bool.not_eq_true', Bool.or_eq_false_iff,
    beq_eq_false_iff_ne, bne_iff_ne, beq_iff_eq] at h
  obtain ⟨⟨⟨⟨⟨heven, h6, h12, h14, -⟩, h2⟩, h8⟩, -⟩, -⟩ := h
  exact ⟨heven, h6, h12, h14, h2, h8⟩

/-- An object in a row of a tile that the filling writes. -/
theorem calKeeps_tile (s : State) {j b : Nat} (x : Nat) (hb : b < 256) (hj : j = 3 ∨ j = 6 ∨ j = 9 ∨ j = 12 ∨ j = 13 ∨ j = 14 ∨ j = 15) :
    CalKeeps (s.set (key (0x3000 + j + 16 * n) b) x) s :=
  calKeeps_set _ _ (Bool.eq_false_iff.2 fun h => by have := calKept_key hb h; omega) (key_ne (by decide) hb (.inl (by omega)))

theorem calKeeps_engine (s : State) {b : Nat} (x : Nat) (hb : b < 256) : CalKeeps (s.set (key (0x4801 + 2 * n) b) x) s :=
  calKeeps_set _ _ (Bool.eq_false_iff.2 fun h => by have := calKept_key hb h; omega) (key_ne (by decide) hb (.inl (by omega)))

theorem calKeeps_modTile (s : State) (n : Nat) (f : Tile → Tile) : CalKeeps (s.modTile n f) s := calKeeps_of_dict rfl rfl

/-! ## Engines -/

/-- An engine's status may be at the place of the calibration's state where its number is none of the device: it is marked above bit 0. -/
theorem calKeeps_showPriming (s : State) (n : Nat) : CalKeeps (s.showPriming n) s := by
  have hkept (k : Nat) (hk : calKept k = true) : k ≠ K.feStatus n := fun he => by
    rw [he] at hk
    have := calKept_key (b := 2) (by decide) hk
    omega
  refine ⟨fun k hk => obj_set_ne _ _ (hkept k hk), fun he => ?_⟩
  by_cases hne : K.calState = K.feStatus n
  · have hlow (b : Bool) : withBit (s.obj (K.feStatus n)) 5 b % 32 = s.obj (K.feStatus n) % 32 := withBit_mod _ 5 b
    unfold State.showPriming
    rw [← hne] at hlow ⊢
    rw [obj_set_self]
    have := hlow ((List.range 16).any (fun j => s.slotState (16 * n + j) == 3))
    omega
  · exact (congrArg (· % 2) (obj_set_ne _ _ hne)).trans he

theorem slot_lt_of_find {p : Nat → Bool} {j : Nat} (h : (List.range 16).find? p = some j) : j < 16 := List.mem_range.1 (List.mem_of_find?_eq_some h)

theorem calKeeps_primeNext (s : State) (n : Nat) : CalKeeps (s.primeNext n) s := by
  have hprimes (t : State) : CalKeeps (t.count (K.fePrimes n) 32 1) t :=
    calKeeps_set _ _ (Bool.eq_false_iff.2 fun h => by have := calKept_key (b := 8) (by decide) h; omega)
      (key_ne (by decide) (by decide) (.inr (by decide)))
  unfold State.primeNext
  split
  · exact .refl s
  · split
    next j hj =>
      have := slot_lt_of_find hj
      exact (calKeeps_showPriming ..).trans ((hprimes _).trans (calKeeps_engine _ _ (by omega)))
    next => exact calKeeps_showPriming ..

theorem calKeeps_holdSlot (s : State) (i : Nat) : CalKeeps (s.holdSlot i) s := by
  have hstate : CalKeeps (s.set (slotKey K.feSlotState i) 5) s := by
    have := Nat.mod_lt i (show 0 < 16 by decide)
    exact calKeeps_engine _ _ (by omega)
  have hchain (t : State) (f : Chain → Chain) : CalKeeps (t.modChain i f) t := calKeeps_of_dict rfl rfl
  exact (calKeeps_primeNext ..).trans ((hchain _ _).trans hstate)

/-! ## Tiles -/

theorem calKeeps_resultKey (s : State) (kind n x : Nat) : CalKeeps (s.set (calResultKey kind n) x) s := by
  unfold calResultKey
  split
  · exact calKeeps_tile (j := 14) _ _ (by decide) (by decide)
  · exact calKeeps_tile (j := 15) _ _ (by decide) (by decide)

theorem calKeeps_setSel (s : State) (n half bus : Nat) : CalKeeps (s.setSel n half bus) s := by
  unfold State.setSel
  split
  · exact calKeeps_tile (j := 3) _ _ (by decide) (by decide)
  · exact calKeeps_tile (j := 3) _ _ (by decide) (by decide)

theorem calKeeps_holdMonitors (s : State) (n : Nat) (b : Bool) : CalKeeps (s.holdMonitors n b) s := by
  have hone (t : State) (i : Nat) (hi : i < 2) (x : Nat) : CalKeeps (t.set (K.tileMonState n i) x) t := by
    have hcases : i = 0 ∨ i = 1 := by omega
    have hindex : 0x300C + 16 * n + i = 0x3000 + (12 + i) + 16 * n := by omega
    rw [K.tileMonState, hindex]
    exact calKeeps_tile _ _ (by decide) (by omega)
  simp only [State.holdMonitors, List.range_succ, List.range_zero, List.nil_append, List.foldl_append, List.foldl_cons, List.foldl_nil]
  exact (hone _ 1 (by decide) _).trans (hone _ 0 (by decide) _)

/-- The first marks of a run: its result, the status bit and its step. -/
def runMarked (s : State) (n : Nat) : State :=
  ((s.set (calResultKey (s.tile n).cal.kind n) 2).set (K.tileStatus n)
    (withBit ((s.set (calResultKey (s.tile n).cal.kind n) 2).obj (K.tileStatus n)) 5 true)).modCal n (fun x => { x with step := 2 })

/-- The selectors of a tile that calibrates internally. -/
def selectorsIn (s : State) (n : Nat) : State :=
  let t := if (s.tile n).isolated.testBit 0 then s else s.setSel n 0 0xFE
  if t.adcMode n = 2 && !(t.tile n).isolated.testBit 1 then t.setSel n 1 0xFE else t

theorem beginRuns_eq (s : State) (n : Nat) : s.beginRuns n =
    if (s.tile n).cal.kind ≠ 1 then runMarked s n
    else (((selectorsIn (runMarked s n) n).holdMonitors n true).set (K.tileIlvState n) 0).set (K.tileIlvFlags n) 0 := rfl

theorem calKeeps_runMarked (s : State) (n : Nat) : CalKeeps (runMarked s n) s :=
  have hstatus (t : State) (x : Nat) : CalKeeps (t.set (K.tileStatus n) x) t := calKeeps_tile (j := 6) _ _ (by decide) (by decide)
  have hstep (t : State) : CalKeeps (t.modCal n (fun x => { x with step := 2 })) t := calKeeps_modTile ..
  (hstep _).trans ((hstatus _ _).trans (calKeeps_resultKey ..))

theorem calKeeps_selectorsIn (s : State) (n : Nat) : CalKeeps (selectorsIn s n) s := by
  unfold selectorsIn
  extract_lets t
  have ht : CalKeeps t s := calKeeps_ite (.refl s) (calKeeps_setSel ..)
  exact calKeeps_ite ((calKeeps_setSel ..).trans ht) ht

theorem calKeeps_beginRuns (s : State) (n : Nat) : CalKeeps (s.beginRuns n) s := by
  rw [beginRuns_eq]
  exact calKeeps_ite (calKeeps_runMarked s n) ((calKeeps_tile (j := 9) _ _ (by decide) (by decide)).trans
    ((calKeeps_tile (j := 9) _ _ (by decide) (by decide)).trans ((calKeeps_holdMonitors ..).trans
      ((calKeeps_selectorsIn ..).trans (calKeeps_runMarked s n)))))

/-- How many tiles wait and run, with the activity in force. -/
theorem calKeeps_showCal (s : State) : CalKeeps s.showCal s := by
  unfold State.showCal
  extract_lets ns queued running
  have hrunning : CalKeeps running s := (calKeeps_set _ _ (by decide) (by decide)).trans (calKeeps_set _ _ (by decide) (by decide))
  refine calKeeps_ite hrunning ⟨fun k hk => (obj_set_ne _ _ fun he => ?_).trans (hrunning.obj k hk), fun _ => ?_⟩
  · exact absurd (he ▸ hk) (by decide)
  · rw [obj_set_self]
    split <;> rfl

/-! ## Places -/

/-- Step 1 of the tiles that calibrate with one. -/
def placesMarked (s : State) (n : Nat) : State := (s.calMembers n).foldl (fun st m => st.modCal m (fun x => { x with step := 1 })) s

theorem takePlace_eq (s : State) (n : Nat) : s.takePlace n = (placesMarked s n).tryBegin n := rfl

theorem calKeeps_placesMarked (s : State) (n : Nat) : CalKeeps (placesMarked s n) s :=
  calKeeps_foldl _ (fun t m => calKeeps_modTile t m (fun x => { x with cal := { x.cal with step := 1 } })) _ _

/-- The slot of a context is HELD where it has one. -/
def slotHeldOf (s : State) (c : Nat) : State := match s.slotOf c with | some i => s.holdSlot i | none => s

theorem calKeeps_slotHeldOf (s : State) (c : Nat) : CalKeeps (slotHeldOf s c) s := by
  unfold slotHeldOf
  split
  · exact calKeeps_holdSlot ..
  · exact .refl s

/-- The runs of a tile and of those with it, the slots of its contexts, and what is shown of them. -/
def runsBegun (s : State) (n : Nat) : State :=
  ((s.tileCtxs (s.calLeader n)).foldl slotHeldOf ((s.calMembers (s.calLeader n)).foldl (fun st m => st.beginRuns m) s)).showCal

theorem tryBegin_eq (s : State) (n : Nat) : s.tryBegin n =
    if (s.tile (s.calLeader n)).cal.step = 1 && (s.tileCtxs (s.calLeader n)).all (fun c => s.ctxState c != cFlowing || (s.ctx c).stale) then
      runsBegun s n else s := rfl

theorem calKeeps_tryBegin (s : State) (n : Nat) : CalKeeps (s.tryBegin n) s := by
  rw [tryBegin_eq]
  exact calKeeps_ite ((calKeeps_showCal _).trans ((calKeeps_foldl _ calKeeps_slotHeldOf _ _).trans
    (calKeeps_foldl _ calKeeps_beginRuns _ _))) (.refl s)

theorem calKeeps_takePlace (s : State) (n : Nat) : CalKeeps (s.takePlace n) s :=
  (calKeeps_tryBegin ..).trans (calKeeps_placesMarked ..)

/-- Whether a queued tile takes its place. -/
def placeFree (s : State) (n : Nat) : Bool :=
  (s.tile n).cal.kind ≠ 0 && (s.tile n).cal.step = 0 && s.calLeader n = n &&
    !(s.obj K.calState = 1 && (s.tile n).cal.purpose = 0 && (s.tile n).cal.kind = 1) && s.placesTaken (n / 64) + (s.calMembers n).length ≤ 16

theorem fillPlaces_cons (s : State) (n : Nat) (ns : List Nat) :
    s.fillPlaces (n :: ns) = if placeFree s n then (s.takePlace n).fillPlaces ns else s.fillPlaces ns := rfl

theorem calKeeps_fillPlaces (ns : List Nat) (s : State) : CalKeeps (s.fillPlaces ns) s := by
  induction ns generalizing s with
  | nil => exact .refl s
  | cons n ns ih =>
    rw [fillPlaces_cons]
    exact calKeeps_ite ((ih _).trans (calKeeps_takePlace ..)) (ih s)

theorem calKeeps_pumpCal (s : State) : CalKeeps s.pumpCal s := (calKeeps_showCal _).trans (calKeeps_fillPlaces ..)

end

/-! ## What a tile outside pairs shows -/

/-- A tile is in no pair. -/
def Alone (s : State) (n : Nat) : Prop := s.adcMode (n / 2 * 2) ≠ 3 ∧ s.adcMode (n / 2 * 2 + 1) ≠ 3

/-- A calibration keeps its kind, and its result is as it was or RUNNING. -/
structure CalGoesOn (n : Nat) (u s : State) : Prop where
  kind : (u.tile n).cal.kind = (s.tile n).cal.kind
  result : ∀ kind, u.obj (calResultKey kind n) = s.obj (calResultKey kind n) ∨
    ((s.tile n).cal.kind ≠ 0 ∧ calResultKey kind n = calResultKey (s.tile n).cal.kind n ∧ u.obj (calResultKey kind n) = 2)

section
variable {u v s : State} {n m : Nat}

theorem CalGoesOn.refl (n : Nat) (s : State) : CalGoesOn n s s := ⟨rfl, fun _ => .inl rfl⟩

theorem CalGoesOn.trans (h : CalGoesOn n u v) (g : CalGoesOn n v s) : CalGoesOn n u s := by
  refine ⟨h.kind.trans g.kind, fun kind => ?_⟩
  rcases h.result kind with he | ⟨hrun, hkey, hval⟩
  · rw [he]
    exact g.result kind
  · rw [g.kind] at hrun hkey
    exact .inr ⟨hrun, hkey, hval⟩

theorem calGoesOn_of (htiles : u.tiles = s.tiles) (hobj : ∀ kind, u.obj (calResultKey kind n) = s.obj (calResultKey kind n)) : CalGoesOn n u s :=
  ⟨by rw [tile_of_tiles htiles], fun kind => .inl (hobj kind)⟩

theorem calGoesOn_ite {c : Prop} [Decidable c] (h : c → CalGoesOn n u s) (g : CalGoesOn n v s) : CalGoesOn n (if c then u else v) s := by
  split
  · exact h ‹_›
  · exact g

theorem calGoesOn_foldl {α : Type} (f : State → α → State) (xs : List α) (h : ∀ t, ∀ x ∈ xs, CalGoesOn n (f t x) t) (s : State) :
    CalGoesOn n (xs.foldl f s) s := by
  induction xs generalizing s with
  | nil => exact .refl n s
  | cons x xs ih => exact (ih (fun t y hy => h t y (List.mem_cons_of_mem _ hy)) _).trans (h s x (List.mem_cons_self ..))

/-- The rows of a tile's results. -/
theorem calResultKey_eq (kind n : Nat) : ∃ j, (j = 14 ∨ j = 15) ∧ calResultKey kind n = key (0x3000 + j + 16 * n) 1 := by
  unfold calResultKey
  split
  · exact ⟨14, .inl rfl, rfl⟩
  · exact ⟨15, .inr rfl, rfl⟩

theorem resultKey_ne (kind n : Nat) {i b : Nat} (hb : b < 256) (h : ∀ j, j = 14 ∨ j = 15 → i ≠ 0x3000 + j + 16 * n ∨ b ≠ 1) :
    calResultKey kind n ≠ key i b := by
  obtain ⟨j, hj, he⟩ := calResultKey_eq kind n
  rw [he]
  exact key_ne (by decide) hb ((h j hj).imp Ne.symm Ne.symm)

theorem calGoesOn_set (s : State) {i b : Nat} (x : Nat) (hb : b < 256) (h : ∀ j, j = 14 ∨ j = 15 → i ≠ 0x3000 + j + 16 * n ∨ b ≠ 1) :
    CalGoesOn n (s.set (key i b) x) s := calGoesOn_of (set_tiles ..) fun kind => obj_set_ne _ _ (resultKey_ne kind n hb h)

/-- An object of a row other than those of the results. -/
theorem calGoesOn_tile (s : State) {j b : Nat} (x : Nat) (hb : b < 256) (hj : j < 14) :
    CalGoesOn n (s.set (key (0x3000 + j + 16 * m) b) x) s := calGoesOn_set _ _ hb fun _ _ => .inl (by omega)

theorem calGoesOn_modCal (s : State) (m : Nat) (f : Cal → Cal) (h : ∀ x, (f x).kind = x.kind) : CalGoesOn n (s.modCal m f) s := by
  refine ⟨?_, fun _ => .inl rfl⟩
  by_cases heq : n = m
  · subst heq
    rw [State.modCal, tile_modTile]
    exact h _
  · exact congrArg (fun x : Tile => x.cal.kind) (get_put_ne _ _ _ heq)

theorem calGoesOn_high (hn : n < 256) (s : State) {i b : Nat} (x : Nat) (hb : b < 256) (hi : 0x4000 ≤ i) :
    CalGoesOn n (s.set (key i b) x) s := calGoesOn_set _ _ hb fun _ _ => .inl (by omega)

theorem calGoesOn_holdSlot (hn : n < 256) (s : State) (i : Nat) : CalGoesOn n (s.holdSlot i) s := by
  have hshow (t : State) (e : Nat) : CalGoesOn n (t.showPriming e) t := calGoesOn_high hn _ _ (by decide) (by omega)
  have hslot (t : State) (e j x : Nat) (hj : j < 16) : CalGoesOn n (t.set (K.feSlotState e j) x) t :=
    calGoesOn_high hn _ _ (by omega) (by omega)
  have hprimes (t : State) (e : Nat) : CalGoesOn n (t.count (K.fePrimes e) 32 1) t := calGoesOn_high hn _ _ (by decide) (by omega)
  have hnext (t : State) (e : Nat) : CalGoesOn n (t.primeNext e) t := by
    unfold State.primeNext
    split
    · exact .refl n t
    · split
      next j hj => exact (hshow ..).trans ((hprimes ..).trans (hslot _ _ _ _ (slot_lt_of_find hj)))
      next => exact hshow ..
  have hchain (t : State) (f : Chain → Chain) : CalGoesOn n (t.modChain i f) t := calGoesOn_of rfl fun _ => rfl
  exact (hnext ..).trans ((hchain _ _).trans (hslot _ _ _ _ (Nat.mod_lt _ (by decide))))

theorem calGoesOn_slotHeldOf (hn : n < 256) (s : State) (c : Nat) : CalGoesOn n (slotHeldOf s c) s := by
  unfold slotHeldOf
  split
  · exact calGoesOn_holdSlot hn ..
  · exact .refl n s

theorem calGoesOn_showCal (hn : n < 256) (s : State) : CalGoesOn n s.showCal s := by
  have hset (t : State) (b x : Nat) (hb : b < 256) : CalGoesOn n (t.set (key 0x7800 b) x) t := calGoesOn_high hn _ _ hb (by decide)
  unfold State.showCal
  extract_lets ns queued running
  have hrunning : CalGoesOn n running s := (hset _ _ _ (by decide)).trans (hset _ _ _ (by decide))
  exact calGoesOn_ite (fun _ => hrunning) ((hset _ _ _ (by decide)).trans hrunning)

/-- The results of another tile. -/
theorem calGoesOn_otherResult (s : State) (kind x : Nat) (h : n ≠ m) : CalGoesOn n (s.set (calResultKey kind m) x) s := by
  obtain ⟨j, hj, he⟩ := calResultKey_eq kind m
  rw [he]
  exact calGoesOn_set _ _ (by decide) fun _ _ => .inl (by omega)

/-- A run marks the tile's own result alone. -/
theorem calGoesOn_runMarked (s : State) (h : n = m → (s.tile n).cal.kind ≠ 0) : CalGoesOn n (runMarked s m) s := by
  have hstatus (t : State) (x : Nat) : CalGoesOn n (t.set (K.tileStatus m) x) t := calGoesOn_tile (j := 6) _ _ (by decide) (by decide)
  have hmarked : CalGoesOn n (s.set (calResultKey (s.tile m).cal.kind m) 2) s := by
    by_cases heq : n = m
    · subst heq
      refine ⟨by rw [tile_of_tiles (set_tiles ..)], fun kind => ?_⟩
      by_cases hkey : calResultKey kind n = calResultKey (s.tile n).cal.kind n
      · exact .inr ⟨h rfl, hkey, by rw [hkey, obj_set_self]⟩
      · exact .inl (obj_set_ne _ _ hkey)
    · exact calGoesOn_otherResult s _ _ heq
  exact (calGoesOn_modCal _ m (fun x => { x with step := 2 }) fun _ => rfl).trans ((hstatus _ _).trans hmarked)

theorem calGoesOn_selectorsIn (s : State) : CalGoesOn n (selectorsIn s m) s := by
  have hsel (t : State) (half bus : Nat) : CalGoesOn n (t.setSel m half bus) t := by
    unfold State.setSel
    split
    · exact calGoesOn_tile (j := 3) _ _ (by decide) (by decide)
    · exact calGoesOn_tile (j := 3) _ _ (by decide) (by decide)
  unfold selectorsIn
  extract_lets t
  have ht : CalGoesOn n t s := calGoesOn_ite (fun _ => .refl n s) (hsel ..)
  exact calGoesOn_ite (fun _ => (hsel ..).trans ht) ht

theorem calGoesOn_holdMonitors (s : State) (b : Bool) : CalGoesOn n (s.holdMonitors m b) s := by
  have hone (t : State) (i : Nat) (hi : i < 2) (x : Nat) : CalGoesOn n (t.set (K.tileMonState m i) x) t := by
    have hindex : 0x300C + 16 * m + i = 0x3000 + (12 + i) + 16 * m := by omega
    rw [K.tileMonState, hindex]
    exact calGoesOn_tile _ _ (by decide) (by omega)
  simp only [State.holdMonitors, List.range_succ, List.range_zero, List.nil_append, List.foldl_append, List.foldl_cons, List.foldl_nil]
  exact (hone _ 1 (by decide) _).trans (hone _ 0 (by decide) _)

theorem calGoesOn_beginRuns (s : State) (h : n = m → (s.tile n).cal.kind ≠ 0) : CalGoesOn n (s.beginRuns m) s := by
  rw [beginRuns_eq]
  exact calGoesOn_ite (fun _ => calGoesOn_runMarked s h) ((calGoesOn_tile (j := 9) _ _ (by decide) (by decide)).trans
    ((calGoesOn_tile (j := 9) _ _ (by decide) (by decide)).trans ((calGoesOn_holdMonitors ..).trans
      ((calGoesOn_selectorsIn ..).trans (calGoesOn_runMarked s h)))))

/-- The tiles that calibrate with another one than a tile outside pairs. -/
theorem not_member (halone : Alone s n) (h : n ≠ m) : n ∉ s.calMembers m := by
  obtain ⟨heven, hodd⟩ := halone
  unfold State.calMembers
  split
  next hpair =>
    intro hn
    have hcases : m = n / 2 * 2 ∨ m = n / 2 * 2 + 1 := by
      simp only [List.mem_cons, List.not_mem_nil, or_false] at hn
      omega
    rcases hcases with rfl | rfl
    · exact heven hpair
    · exact hodd hpair
  next => exact fun hn => h (List.mem_singleton.1 hn)

theorem Alone.mode (h : Alone s n) : s.adcMode n ≠ 3 := by
  obtain ⟨heven, hodd⟩ := h
  have hcases : n = n / 2 * 2 ∨ n = n / 2 * 2 + 1 := by omega
  rcases hcases with he | he
  · exact fun hm => heven ((congrArg s.adcMode he).symm.trans hm)
  · exact fun hm => hodd ((congrArg s.adcMode he).symm.trans hm)

theorem CalKeeps.mode (h : CalKeeps u s) (m : Nat) : u.adcMode m = s.adcMode m := by
  have hdiv : K.tileAdcMode m / 256 = 0x3008 + 16 * m := key_div (b := 1) (by decide)
  have hmod : K.tileAdcMode m % 256 = 1 := key_mod (i := 0x3008 + 16 * m) (by decide)
  have hqueued : K.tileAdcMode m ≠ K.calQueued := key_ne (by decide) (by decide) (.inr (by decide))
  have hrunning : K.tileAdcMode m ≠ K.calRunning := key_ne (by decide) (by decide) (.inr (by decide))
  have heven : (0x3008 + 16 * m) % 2 = 0 := by omega
  have hrow : (0x3008 + 16 * m) % 16 = 8 := by omega
  refine h.obj _ ?_
  simp only [calKept, hdiv, hmod, heven, hrow, bne_iff_ne.2 hqueued, bne_iff_ne.2 hrunning]
  rfl

theorem CalKeeps.alone (h : CalKeeps u s) (halone : Alone s n) : Alone u n :=
  ⟨by rw [h.mode]; exact halone.1, by rw [h.mode]; exact halone.2⟩

theorem calGoesOn_runs (ms : List Nat) (s : State) (h : n ∈ ms → (s.tile n).cal.kind ≠ 0) :
    CalGoesOn n (ms.foldl (fun st m => st.beginRuns m) s) s := by
  induction ms generalizing s with
  | nil => exact .refl n s
  | cons m ms ih =>
    have hfirst : CalGoesOn n (s.beginRuns m) s := calGoesOn_beginRuns s fun he => h (he ▸ List.mem_cons_self ..)
    exact (ih _ fun hm => by rw [hfirst.kind]; exact h (List.mem_cons_of_mem _ hm)).trans hfirst

theorem calGoesOn_takePlace (hn : n < 256) (s : State) (halone : Alone s n) (hkind : (s.tile m).cal.kind ≠ 0) (hlead : s.calLeader m = m) :
    CalGoesOn n (s.takePlace m) s := by
  have hmarked : CalGoesOn n (placesMarked s m) s :=
    calGoesOn_foldl _ _ (fun t i _ => calGoesOn_modCal t i (fun x => { x with step := 1 }) fun _ => rfl) s
  have hkept := calKeeps_placesMarked s m
  have halone' := hkept.alone halone
  have hmode : (placesMarked s m).adcMode = s.adcMode := funext fun i => hkept.mode i
  have hleader : (placesMarked s m).calLeader m = m := by rw [State.calLeader, hmode]; exact hlead
  have hmember (hi : n ∈ (placesMarked s m).calMembers m) : ((placesMarked s m).tile n).cal.kind ≠ 0 := by
    rw [hmarked.kind]
    by_cases heq : n = m
    · rwa [heq]
    · exact absurd hi (not_member halone' heq)
  rw [takePlace_eq, tryBegin_eq, hleader]
  refine (calGoesOn_ite (fun _ => ?_) (.refl n _)).trans hmarked
  rw [runsBegun, hleader]
  exact (calGoesOn_showCal hn _).trans ((calGoesOn_foldl _ _ (fun t c _ => calGoesOn_slotHeldOf hn t c) _).trans (calGoesOn_runs _ _ hmember))

theorem placeFree_queued (h : placeFree s m = true) : (s.tile m).cal.kind ≠ 0 ∧ s.calLeader m = m := by
  simp only [placeFree, Bool.and_eq_true, decide_eq_true_eq] at h
  exact ⟨h.1.1.1.1, h.1.1.2⟩

theorem calGoesOn_fillPlaces (hn : n < 256) (ms : List Nat) (s : State) (halone : Alone s n) : CalGoesOn n (s.fillPlaces ms) s := by
  induction ms generalizing s with
  | nil => exact .refl n s
  | cons m ms ih =>
    rw [fillPlaces_cons]
    refine calGoesOn_ite (fun hfree => ?_) (ih s halone)
    obtain ⟨hkind, hlead⟩ := placeFree_queued hfree
    exact (ih _ ((calKeeps_takePlace s m).alone halone)).trans (calGoesOn_takePlace hn s halone hkind hlead)

theorem calGoesOn_pumpCal (hn : n < 256) (s : State) (halone : Alone s n) : CalGoesOn n s.pumpCal s :=
  (calGoesOn_showCal hn _).trans (calGoesOn_fillPlaces hn _ s halone)

end

end Sys2Proof.Proofs
end

section
/-! # Calibration commands (R333) and the runs of internal calibration (R332, R334, R336) -/

set_option Elab.async false

namespace Sys2Proof.Proofs

open Sys2Proof Sys2Proof.Machine Sys2Proof.Laws

/-! ## What the checks of a command grant -/

section
variable {s : State} {q : Req} {l : Loc} {kind : Nat}

theorem bind_ok {α β : Type} {x : Res α} {f : α → Res β} {b : β} (h : (x >>= f) = .ok b) : ∃ a, x = .ok a ∧ f a = .ok b := by
  cases x with
  | error e => cases h
  | ok a => exact ⟨a, rfl, h⟩

theorem need_ok {b : Bool} {code detail : Nat} {x : Unit} (h : need b code detail = .ok x) : b = true := by
  cases b
  · cases h
  · rfl

/-- An accepted write has passed the object's own checks. -/
theorem accepted_guard (h : Accepts s q l) : (s.access q).guardPut ((s.access q).putOf q l (ofLE q.body)) = .ok () := by
  obtain ⟨-, hcheck, htext, -⟩ := h
  obtain ⟨-, -, hcheck⟩ := bind_ok hcheck
  obtain ⟨located, -, hcheck⟩ := bind_ok hcheck
  obtain ⟨-, -, hcheck⟩ := bind_ok hcheck
  have hend {x : Unit} (hx : (do (s.access q).noWriter (key q.index q.sub); Except.ok located : Res Loc) = .ok l) : located = l := by
    obtain ⟨-, -, hx⟩ := bind_ok hx
    exact Except.ok.inj hx
  simp only at hcheck
  split at hcheck
  next htext' =>
    obtain ⟨-, -, hcheck⟩ := bind_ok hcheck
    obtain ⟨-, -, hcheck⟩ := bind_ok hcheck
    exact absurd htext' (hend (x := ()) hcheck ▸ htext)
  next =>
    obtain ⟨-, -, hcheck⟩ := bind_ok hcheck
    obtain ⟨_, hguard, hcheck⟩ := bind_ok hcheck
    exact hend (x := ()) hcheck ▸ hguard

/-- An object above the fabric has the checks of the outputs' family. -/
theorem guardPut_output {p : Put} (hlo : 0x6400 ≤ p.index) (h : s.guardPut p = .ok ()) : guardOutput s p = .ok () := by
  obtain ⟨-, -, h⟩ := bind_ok h
  have h1 : ¬ p.index < 0x1400 := by omega
  have h2 : ¬ p.index < 0x1800 := by omega
  have h3 : ¬ p.index < 0x2800 := by omega
  have h4 : ¬ (decide (p.index < 0x4000) && decide (0x3000 ≤ p.index)) = true := by
    rw [Bool.and_eq_true, decide_eq_true_eq]
    omega
  have h5 : ¬ p.index < 0x5000 := by omega
  have h6 : ¬ p.index < 0x6000 := by omega
  have h7 : ¬ p.index < 0x6400 := by omega
  rwa [if_neg h1, if_neg h2, if_neg h3, if_neg h4, if_neg h5, if_neg h6, if_neg h7] at h

theorem guardOutput_calCommand {p : Put} (hform : p.l.row.form = .single) (hkey : p.key_ = K.calCommand) :
    guardOutput s p = guardCal s p.v := by
  simp only [guardOutput, hform, hkey]
  rfl

/-- The checks of a calibration command stand where its write is accepted. -/
theorem accepted_calCommand (h : Accepts s (onObject q K.calCommand) l) : guardCal (s.access (onObject q K.calCommand)) (ofLE (onObject q K.calCommand).body) =
    .ok () := by
  obtain ⟨hform, -, -, -⟩ := accepted_row h (by decide) place_calCommand
  have hguard : (s.access (onObject q K.calCommand)).guardPut (putAt s q K.calCommand l) = .ok () := accepted_guard h
  have hlow : 0x6400 ≤ K.calCommand / 256 := by decide
  exact (guardOutput_calCommand (p := putAt s q K.calCommand l) hform (putAt_key ..)).symm.trans (guardPut_output hlow hguard)

theorem guardCal_grants {v : Nat} (h : guardCal s v = .ok ()) :
    calFields v = true ∧ (∀ n ∈ s.calTargets v, n < tileCount s.variant) ∧ ∀ n ∈ (s.calTargets v).flatMap s.calMembers, (s.tile n).cal.kind = 0 := by
  obtain ⟨_, hfields, h⟩ := bind_ok h
  obtain ⟨_, htargets, h⟩ := bind_ok h
  obtain ⟨-, -, h⟩ := bind_ok h
  obtain ⟨_, hfree, -⟩ := bind_ok h
  refine ⟨need_ok hfields, fun n hn => of_decide_eq_true (List.all_eq_true.1 (need_ok htargets) n hn), fun n hn => ?_⟩
  have hfree := need_ok hfree
  simp only [Bool.not_eq_true', List.any_eq_false, Bool.or_eq_true, not_or, bne_iff_ne, ne_eq, not_not] at hfree
  exact (hfree n hn).1.1

theorem ofLE_toLE (n v : Nat) : ofLE (toLE n v) = v % 256 ^ n := by
  induction n generalizing v with
  | zero => rw [Nat.pow_zero, Nat.mod_one]; rfl
  | succ n ih =>
    have hsplit : v % (256 * 256 ^ n) = v % 256 + 256 * (v / 256 % 256 ^ n) := Nat.mod_mul
    rw [toLE, ofLE, ih, BitVec.toNat_ofNat, Nat.pow_succ' (m := 256), hsplit]

theorem withBits_kind (v : Nat) (hkind : kind < 16) : withBits v 31 28 kind / 2 ^ 28 % 16 = kind := by
  simp only [withBits, Nat.shiftRight_eq_div_pow, Nat.shiftLeft_eq]
  omega

/-- The kind that a command's own row puts into its value. -/
theorem calKind_withKind (bs : List Byte) (hkind : kind < 16) (h : 1 ≤ calKind (ofLE (withKind kind bs))) :
    calKind (ofLE (withKind kind bs)) = kind := by
  have hvalue := withBits_kind (ofLE bs) hkind
  simp only [calKind, bitsOf, withKind, ofLE_toLE, Nat.shiftRight_eq_div_pow] at h ⊢
  by_cases hlen : bs.length < 4
  · have hpow : 256 ^ bs.length ≤ 256 ^ 3 := Nat.pow_le_pow_right (by decide) (by omega)
    have hsmall : withBits (ofLE bs) 31 28 kind % 256 ^ bs.length < 256 ^ 3 := (Nat.mod_lt _ (Nat.pow_pos (by decide))).trans_le hpow
    omega
  · obtain ⟨m, hm⟩ : ∃ m, bs.length = 4 + m := ⟨bs.length - 4, by omega⟩
    rw [hm, Nat.pow_add, Nat.mod_mul]
    omega

end

/-! ## The tiles of a command -/

/-- The same of what decides which tiles take part. -/
structure SameParts (u s : State) : Prop where
  mode : ∀ n, u.obj (K.tileAdcMode n) = s.obj (K.tileAdcMode n)
  status : ∀ n, u.obj (K.tileStatus n) = s.obj (K.tileStatus n)
  state : ∀ c, u.obj (K.ctxState c) = s.obj (K.ctxState c)
  tile : ∀ c, u.obj (K.ctxTile c) = s.obj (K.ctxTile c)
  ctxs : u.ctxs = s.ctxs

section
variable {s u v a : State} {q : Req} {l : Loc} {kind n m : Nat}

theorem SameParts.trans (h : SameParts u v) (g : SameParts v s) : SameParts u s :=
  ⟨fun n => (h.mode n).trans (g.mode n), fun n => (h.status n).trans (g.status n), fun c => (h.state c).trans (g.state c),
    fun c => (h.tile c).trans (g.tile c), h.ctxs.trans g.ctxs⟩

theorem SameParts.takesPart (h : SameParts u s) (kind n : Nat) : u.calTakesPart kind n = s.calTakesPart kind n := by
  have hlead : u.calLeader n = s.calLeader n := by
    unfold State.calLeader State.adcMode
    rw [h.mode]
  have hon (i : Nat) : u.onTile i = s.onTile i := funext fun c => by
    unfold State.onTile State.ctxState
    rw [h.tile, h.state]
  have hctxs (i : Nat) : u.tileCtxs i = s.tileCtxs i := by
    unfold State.tileCtxs State.ringed
    rw [h.ctxs, hon]
  simp only [State.calTakesPart, h.status, hlead, hctxs, State.ctxState, h.state]

theorem SameParts.alone (h : SameParts u s) (halone : Alone s n) : Alone u n :=
  ⟨fun hm => halone.1 ((h.mode _).symm.trans hm), fun hm => halone.2 ((h.mode _).symm.trans hm)⟩

theorem sameParts_of (hctxs : u.ctxs = s.ctxs)
    (hobj : ∀ i b, b = 1 ∨ (b = 2 ∧ 0x4000 ≤ i) → (i % 16 ≠ 14 ∧ i % 16 ≠ 15) ∨ 0x4000 ≤ i → u.obj (key i b) = s.obj (key i b)) : SameParts u s :=
  ⟨fun _ => hobj _ _ (.inl rfl) (.inl (by omega)), fun _ => hobj _ _ (.inl rfl) (.inl (by omega)),
    fun _ => hobj _ _ (.inl rfl) (.inr (by omega)), fun _ => hobj _ _ (.inr ⟨rfl, by omega⟩) (.inr (by omega)), hctxs⟩

theorem sameParts_result (s : State) (kind x : Nat) (hm : m < 256) : SameParts (s.set (calResultKey kind m) x) s := by
  obtain ⟨j, hj, he⟩ := calResultKey_eq kind m
  rw [he]
  exact sameParts_of (set_ctxs ..) fun i b hb hi => obj_set_ne _ _ (key_ne (by omega) (by decide) (.inl (by omega)))

theorem sameParts_single (s : State) {b : Nat} (x : Nat) (hb : 2 < b) (hlt : b < 256) : SameParts (s.set (key 0x7800 b) x) s :=
  sameParts_of (set_ctxs ..) fun i c hc _ => obj_set_ne _ _ (key_ne (by omega) hlt (.inr (by omega)))

theorem sameParts_access (h : Accepts s (onObject q K.calCommand) l) : SameParts (s.access (onObject q K.calCommand)) s :=
  sameParts_of (access_ctxs ..) fun i b hb hi => obj_access h (access_key_false (by omega) (by omega))

/-- What a command asks of one tile: it joins the queue, or reads SKIPPED. -/
def calAsked (kind : Nat) (s : State) (n : Nat) : State :=
  if s.calTakesPart kind n then (if (s.tile n).cal.kind = 0 then s.queueCal n kind 0 else s) else s.set (calResultKey kind n) 5

/-- A tile that takes part has joined the queue, and another reads SKIPPED. -/
def Told (s : State) (kind n : Nat) (u : State) : Prop :=
  if s.calTakesPart kind n = true then (u.tile n).cal.kind = kind ∧ u.obj (calResultKey kind n) = 1
  else (u.tile n).cal.kind = 0 ∧ u.obj (calResultKey kind n) = 5

theorem calAsked_parts (kind : Nat) (s : State) (hm : m < 256) : SameParts (calAsked kind s m) s := by
  unfold calAsked
  split
  · split
    · exact (sameParts_result _ _ _ hm).trans ⟨fun _ => rfl, fun _ => rfl, fun _ => rfl, fun _ => rfl, rfl⟩
    · exact ⟨fun _ => rfl, fun _ => rfl, fun _ => rfl, fun _ => rfl, rfl⟩
  · exact sameParts_result _ _ _ hm

theorem calAsked_self (hparts : SameParts u s) (h : (u.tile n).cal.kind = 0 ∨ Told s kind n u) : Told s kind n (calAsked kind u n) := by
  unfold calAsked
  rw [hparts.takesPart]
  unfold Told at h ⊢
  split
  next htakes =>
    rw [if_pos htakes] at h
    split
    next hzero =>
      refine ⟨?_, obj_set_self ..⟩
      have hcal : ((u.queueCal n kind 0).tile n).cal = { Cal.none_ with kind := kind, purpose := 0 } := by
        rw [State.queueCal, tile_of_tiles (set_tiles ..), State.setCal, tile_modTile]
      rw [hcal]
    next hbusy => exact h.resolve_left hbusy
  next htakes =>
    rw [if_neg htakes] at h
    have hkind : (u.tile n).cal.kind = 0 := h.elim id And.left
    exact ⟨(congrArg (fun x : Tile => x.cal.kind) (tile_of_tiles (set_tiles ..) n)).trans hkind, obj_set_self ..⟩

theorem calAsked_other (kind : Nat) (u : State) (h : n ≠ m) : ((calAsked kind u m).tile n).cal = (u.tile n).cal ∧
    (calAsked kind u m).obj (calResultKey kind n) = u.obj (calResultKey kind n) := by
  have hset (t : State) (x : Nat) : (t.set (calResultKey kind m) x).obj (calResultKey kind n) = t.obj (calResultKey kind n) := by
    obtain ⟨j, hj, he⟩ := calResultKey_eq kind m
    rw [he]
    exact obj_set_ne _ _ (resultKey_ne kind n (by decide) fun _ _ => .inl (by omega))
  unfold calAsked
  split
  · split
    · refine ⟨?_, hset _ _⟩
      rw [State.queueCal, tile_of_tiles (set_tiles ..)]
      exact congrArg Tile.cal (get_put_ne _ _ _ h)
    · exact ⟨rfl, rfl⟩
  · exact ⟨congrArg Tile.cal (tile_of_tiles (set_tiles ..) n), hset _ _⟩

theorem told_other (kind : Nat) (u : State) (h : n ≠ m) (hn : Told s kind n u) : Told s kind n (calAsked kind u m) := by
  obtain ⟨hcal, hresult⟩ := calAsked_other kind u h
  rw [Told, hcal, hresult]
  exact hn

/-- Every tile of a command is told, however often its scope names it. -/
theorem told_all (ns : List Nat) (hns : ∀ m ∈ ns, m < 256) (hparts : SameParts u s)
    (h : ∀ m, m ∈ ns → (u.tile m).cal.kind = 0 ∨ Told s kind m u) (hn : n ∈ ns ∨ Told s kind n u) :
    Told s kind n (ns.foldl (calAsked kind) u) ∧ SameParts (ns.foldl (calAsked kind) u) s := by
  induction ns generalizing u with
  | nil => exact ⟨hn.resolve_left (List.not_mem_nil ), hparts⟩
  | cons m ms ih =>
    have hself : Told s kind m (calAsked kind u m) := calAsked_self hparts (h m (List.mem_cons_self ..))
    refine ih (fun i hi => hns i (List.mem_cons_of_mem _ hi)) ((calAsked_parts kind u (hns m (List.mem_cons_self ..))).trans hparts)
      (fun i hi => ?_) ?_
    · by_cases heq : i = m
      · rw [heq]
        exact .inr hself
      · refine (h i (List.mem_cons_of_mem _ hi)).imp (fun hkind => ?_) (told_other kind u heq)
        rw [(calAsked_other kind u heq).1]
        exact hkind
    · by_cases heq : n = m
      · rw [heq]
        exact .inr hself
      · exact hn.imp (fun hmem => (List.mem_cons.1 hmem).resolve_left heq) (told_other kind u heq)

end

/-! ## The command -/

section
variable {s u a : State} {q : Req} {l : Loc} {kind v n : Nat}

/-- The command is recorded, with its counts at 0. -/
def commandShown (s : State) (v : Nat) : State := ((s.set K.calLastCommand v).set K.calLastPass 0).set K.calLastFail 0

/-- Every tile in the scope is told; a command of all tiles begins with a ladder trace (R332). -/
def commandTold (s : State) (v : Nat) : State :=
  let t := ((s.calTargets v).flatMap s.calMembers).foldl (calAsked (calKind v)) (commandShown s v)
  if calKind v = 1 && calScope v = 3 then t.set K.calState 1 else t

theorem xCalCommand_eq (s : State) (v : Nat) : xCalCommand v s = (commandTold s v).pumpCal := rfl

theorem commandShown_parts (s : State) (v : Nat) : SameParts (commandShown s v) s :=
  (sameParts_single (b := 7) _ 0 (by decide) (by decide)).trans ((sameParts_single (b := 6) _ 0 (by decide) (by decide)).trans
    (sameParts_single (b := 5) s v (by decide) (by decide)))

theorem calKeeps_asked (kind : Nat) (s : State) (m : Nat) : CalKeeps (calAsked kind s m) s := by
  unfold calAsked
  split
  · split
    · exact (calKeeps_resultKey ..).trans (calKeeps_modTile s m (fun t => { t with cal := { Cal.none_ with kind := kind, purpose := 0 } }))
    · exact .refl s
  · exact calKeeps_resultKey ..

theorem xCalCommand_shown (s : State) (v : Nat) : (xCalCommand v s).obj K.calLastCommand = v ∧ (xCalCommand v s).obj K.calLastPass = 0 ∧
    (xCalCommand v s).obj K.calLastFail = 0 := by
  have hkept (k : Nat) (hk : calKept k = true) (hne : k ≠ K.calState) : (xCalCommand v s).obj k = (commandShown s v).obj k := by
    have hfold := calKeeps_foldl (calAsked (calKind v)) (calKeeps_asked _) ((s.calTargets v).flatMap s.calMembers) (commandShown s v)
    rw [xCalCommand_eq, (calKeeps_pumpCal _).obj k hk, ← hfold.obj k hk]
    unfold commandTold
    split
    · exact obj_set_ne _ _ hne
    · rfl
  refine ⟨(hkept _ (by decide) (by decide)).trans ?_, (hkept _ (by decide) (by decide)).trans ?_,
    (hkept _ (by decide) (by decide)).trans (obj_set_self ..)⟩
  · exact (obj_set_ne _ _ (by decide)).trans ((obj_set_ne _ _ (by decide)).trans (obj_set_self ..))
  · exact (obj_set_ne _ _ (by decide)).trans (obj_set_self ..)

theorem putOutput_calCommand {p : Put} (hform : p.l.row.form = .single) (hkey : p.key_ = K.calCommand) :
    putOutput s p = xCalCommand p.v (s.putValue p) := by
  simp only [putOutput, hform, hkey]
  rfl

theorem mem_members (h : s.adcMode n ≠ 3) (hn : n ∈ s.calTargets v) : n ∈ (s.calTargets v).flatMap s.calMembers :=
  List.mem_flatMap.2 ⟨n, hn, by rw [calMembers_single h]; exact List.mem_singleton_self _⟩

theorem members_lt (h : ∀ m ∈ s.calTargets v, m < 256) : ∀ m ∈ (s.calTargets v).flatMap s.calMembers, m < 256 := by
  intro m hm
  obtain ⟨i, hi, hmem⟩ := List.mem_flatMap.1 hm
  have hlt := h i hi
  unfold State.calMembers at hmem
  split at hmem
  · simp only [List.mem_cons, List.not_mem_nil, or_false] at hmem
    omega
  · exact List.mem_singleton.1 hmem ▸ hlt

theorem calGoesOn_state (n x : Nat) (hn : n < 256) (s : State) : CalGoesOn n (s.set K.calState x) s :=
  calGoesOn_high hn (i := 0x7800) (b := 2) _ _ (by decide) (by decide)

/-- What a tile outside pairs shows after the command that names it. -/
theorem xCalCommand_tile (hparts : SameParts a s) (hlt : ∀ m ∈ a.calTargets v, m < 256)
    (hfree : ∀ m ∈ (a.calTargets v).flatMap a.calMembers, (a.tile m).cal.kind = 0) (hn : n ∈ a.calTargets v) (halone : Alone s n) :
    if s.calTakesPart (calKind v) n = true then ((xCalCommand v a).tile n).cal.kind = calKind v ∧
        ((xCalCommand v a).obj (calResultKey (calKind v) n) = 1 ∨ (xCalCommand v a).obj (calResultKey (calKind v) n) = 2)
    else (xCalCommand v a).obj (calResultKey (calKind v) n) = 5 := by
  have hn256 := hlt n hn
  have hparts' := (commandShown_parts a v).trans hparts
  have hmem : n ∈ (a.calTargets v).flatMap a.calMembers := mem_members (hparts.alone halone).mode hn
  obtain ⟨htold, hfolded⟩ := told_all (kind := calKind v) (n := n) _ (members_lt hlt) hparts'
    (fun m hm => .inl (by rw [tile_of_tiles (s := a) (by simp only [commandShown, set_tiles])]; exact hfree m hm)) (.inl hmem)
  have hon : CalGoesOn n (commandTold a v) (((a.calTargets v).flatMap a.calMembers).foldl (calAsked (calKind v)) (commandShown a v)) :=
    calGoesOn_ite (fun _ => calGoesOn_state n 1 hn256 _) (.refl n _)
  have hmode (m : Nat) : (commandTold a v).adcMode m = s.adcMode m := by
    refine Eq.trans ?_ (hfolded.mode m)
    unfold commandTold
    split
    · exact obj_set_ne _ _ (key_ne (by decide) (by decide) (.inr (by decide)))
    · rfl
  have hall := (calGoesOn_pumpCal hn256 (commandTold a v) ⟨by rw [hmode]; exact halone.1, by rw [hmode]; exact halone.2⟩).trans hon
  rw [← xCalCommand_eq] at hall
  obtain ⟨hkept, hresult⟩ := hall
  unfold Told at htold
  split at htold
  next htakes =>
    obtain ⟨hk, hr⟩ := htold
    rw [if_pos htakes, hkept]
    exact ⟨hk, (hresult _).imp (fun he => he.trans hr) fun h => h.2.2⟩
  next htakes =>
    obtain ⟨hk, hr⟩ := htold
    rw [if_neg htakes]
    exact (hresult _).elim (fun he => he.trans hr) fun h => absurd hk h.1

/-- What an accepted command leaves, whatever its way in. -/
theorem calCommand_completes {c : Instr} {w : Req} (hq : w = onObject (withBody q (withKind kind q.body)) K.calCommand)
    (he : exec c s = s.asks w .write) (hkind : kind < 16) (h : Accepts s w l) :
    Completes c s
      (fun u => Responds (s.written w l) u w (okMessage u w .write [] l.row.ty.code 0) ∧ u.obj K.calLastCommand = ofLE w.body ∧
        u.obj K.calLastPass = 0 ∧ u.obj K.calLastFail = 0 ∧
        ∀ n ∈ s.calTargets (ofLE w.body), s.adcMode (n / 2 * 2) ≠ 3 → s.adcMode (n / 2 * 2 + 1) ≠ 3 →
          if s.calTakesPart kind n = true then
            (u.tile n).cal.kind = kind ∧ (u.obj (calResultKey kind n) = 1 ∨ u.obj (calResultKey kind n) = 2)
          else u.obj (calResultKey kind n) = 5) (fun _ => True) := by
  subst hq
  obtain ⟨hform, hattr, -, -⟩ := accepted_row h (by decide) place_calCommand
  obtain ⟨hfields, htargets, hfree⟩ := guardCal_grants (accepted_calCommand h)
  have hparts := sameParts_access h
  generalize ha : s.access (onObject (withBody q (withKind kind q.body)) K.calCommand) = a at hfields htargets hfree hparts
  generalize hv : ofLE (onObject (withBody q (withKind kind q.body)) K.calCommand).body = v at hfields htargets hfree
  have hcommand : calKind v = kind := by
    rw [← hv]
    refine calKind_withKind q.body hkind ?_
    have hfields : calFields (ofLE (withKind kind q.body)) = true := hv ▸ hfields
    simp only [calFields, Bool.and_eq_true, decide_eq_true_eq] at hfields
    exact hfields.1.1.1.1
  have hput : putOutput a (putAt s (withBody q (withKind kind q.body)) K.calCommand l) = xCalCommand v a := by
    rw [putOutput_calCommand hform (putAt_key ..), putValue_action _ hattr]
    exact congrArg (xCalCommand · a) hv
  have hwritten : s.written (onObject (withBody q (withKind kind q.body)) K.calCommand) l =
      (xCalCommand v a).record K.calCommand (a.classOf q.port) q.port := by
    rw [written_output (by decide), putBy, ha, hput]
    rfl
  have hlt : ∀ m ∈ a.calTargets v, m < 256 := fun m hm => (htargets m hm).trans_le (tileCount_le _)
  have htargets' : a.calTargets v = s.calTargets v := by
    unfold State.calTargets
    rw [← ha, access_variant]
  obtain ⟨hlast, hpass, hfail⟩ := xCalCommand_shown a v
  refine ⟨_, he.trans (write_done s _ l h), ⟨responds_answered .., ?_⟩, trivial⟩
  rw [hwritten]
  simp only [answered_obj, obj_record]
  refine ⟨hlast, hpass, hfail, fun n hn heven hodd => ?_⟩
  have htile : ((((xCalCommand v a).record K.calCommand (a.classOf q.port) q.port).answered
      (onObject (withBody q (withKind kind q.body)) K.calCommand) .write
      (a.readsTrace (onObject (withBody q (withKind kind q.body)) K.calCommand) .write) [] l.row.ty.code 0).tile n) =
      (xCalCommand v a).tile n := tile_of_tiles (by rw [answered_tiles, record_tiles]) n
  rw [ha, htile, ← hcommand]
  exact xCalCommand_tile hparts hlt hfree (htargets' ▸ hn) ⟨heven, hodd⟩

end

end Sys2Proof.Proofs
end

section
/-! # The ladder trace (R332) -/

set_option Elab.async false

namespace Sys2Proof.Proofs

open Sys2Proof Sys2Proof.Machine Sys2Proof.Laws

/-- A raise after objects above the events have been put. -/
theorem Puts.raiseBelow {vs : List (Nat × Nat)} {u s : State} (h : Puts vs u s) {n : Nat} (d : Nat) (hlo : 704 ≤ n) (hhi : n < 768)
    (htime : u.time = s.time) (hhigh : ∀ k ∈ vs.map (·.1), 0x780000 ≤ k) : Puts (vs ++ raisedBy s n d) (u.raise n d) s := by
  have hcount : u.obj (K.eventCount n) = s.obj (K.eventCount n) := h.obj _ fun hm => by
    have := hhigh _ hm
    simp only [K.eventCount, key] at this
    omega
  refine ⟨(raise_variant ..).trans h.variant, (raise_safeAsk ..).trans h.safeAsk, (raise_mem ..).trans h.mem,
    (raise_ctxs ..).trans h.ctxs, (raise_inForce ..).trans h.inForce, fun i hi => ?_, ?_⟩
  · rw [List.map_append, List.mem_append, not_or, map_fst_raisedBy] at hi
    refine (obj_raise_ne _ _ _ _ fun he => hi.2 ?_).trans (h.obj i hi.1)
    simpa only [evKeys, eventKey, List.mem_cons, List.not_mem_nil, or_false] using he
  · exact holds_append (holds_keep h.holds fun k hk => obj_raise_of_after _ _ hhi (hhigh k hk)) (holds_raise_of_ge d hlo hhi hcount htime)

/-- An object that takes again the value that it has. -/
theorem Puts.again {vs : List (Nat × Nat)} {u s : State} {k x : Nat} (h : Puts vs u s) (hmem : (k, x) ∈ vs) : Puts vs (u.set k x) s := by
  have hval : u.obj k = x := h.holds _ hmem
  have hkept (i : Nat) : (u.set k x).obj i = u.obj i := by
    by_cases he : i = k
    · rw [he, obj_set_self, hval]
    · exact obj_set_ne _ _ he
  exact ⟨(set_variant ..).trans h.variant, (set_safeAsk ..).trans h.safeAsk, (set_mem ..).trans h.mem, (set_ctxs ..).trans h.ctxs,
    (set_inForce ..).trans h.inForce, fun i hi => (hkept i).trans (h.obj i hi), holds_keep h.holds fun i _ => hkept i⟩

section
variable {s u v : State} {t n : Nat} {ok : Bool}

/-- The trace shows its result, and the calibrations that waited for it may go on. -/
def ladderTraced (ok : Bool) (s : State) : State := ((s.set K.calLadder (if ok then 1 else 2)).set K.calLadderLast s.now).set K.calState 0

/-- A calibration that waited for the trace reads SKIPPED. -/
def runDropped (s : State) (n : Nat) : State := (s.setCal n .none_).set (K.tileCalResult n) 5

/-- The tiles that wait for the trace. -/
def ladderWaits (s : State) : List Nat :=
  s.calTiles.filter (fun n => (s.tile n).cal.kind == 1 && (s.tile n).cal.step == 0 && (s.tile n).cal.purpose == 0)

/-- A failed trace drops what waited for it. -/
def ladderDropped (s : State) : State := (ladderWaits s).foldl runDropped s

theorem xLadderEnd_eq (h : s.obj K.calState = 1) : xLadderEnd ok s =
    if ok then (ladderTraced ok s).pumpCal else ((ladderDropped (ladderTraced ok s)).raise 757 0).pumpCal :=
  if_neg (not_not.2 h)

theorem ladderTraced_shows (ok : Bool) (s : State) : (ladderTraced ok s).obj K.calLadder = (if ok then 1 else 2) ∧
    (ladderTraced ok s).obj K.calLadderLast = s.now ∧ (ladderTraced ok s).obj K.calState = 0 :=
  ⟨(obj_set_ne _ _ (by decide)).trans ((obj_set_ne _ _ (by decide)).trans (obj_set_self ..)),
    (obj_set_ne _ _ (by decide)).trans (obj_set_self ..), obj_set_self ..⟩

theorem calKeeps_runDropped (s : State) (n : Nat) : CalKeeps (runDropped s n) s :=
  (calKeeps_tile (j := 14) _ _ (by decide) (by decide)).trans (calKeeps_modTile s n (fun t => { t with cal := .none_ }))

theorem ladderDropped_keeps (s : State) : CalKeeps (ladderDropped s) s := calKeeps_foldl _ calKeeps_runDropped _ _

/-- What the trace shows is not touched by what goes on after it. -/
theorem xLadderEnd_shows (h : s.obj K.calState = 1) (ok : Bool) : (xLadderEnd ok s).obj K.calLadder = (if ok then 1 else 2) ∧
    (xLadderEnd ok s).obj K.calLadderLast = s.now ∧ (xLadderEnd ok s).obj K.calState ≠ 1 := by
  obtain ⟨hladder, hlast, hstate⟩ := ladderTraced_shows ok s
  have hfrom {v : State} (hv : CalKeeps (xLadderEnd ok s) v) (hl : v.obj K.calLadder = (ladderTraced ok s).obj K.calLadder)
      (ht : v.obj K.calLadderLast = (ladderTraced ok s).obj K.calLadderLast) (hs : v.obj K.calState % 2 = 0) :
      (xLadderEnd ok s).obj K.calLadder = (if ok then 1 else 2) ∧ (xLadderEnd ok s).obj K.calLadderLast = s.now ∧
        (xLadderEnd ok s).obj K.calState ≠ 1 := by
    have heven := hv.even hs
    exact ⟨(hv.obj _ (by decide)).trans (hl.trans hladder), (hv.obj _ (by decide)).trans (ht.trans hlast), fun he => by omega⟩
  cases ok
  · have hdropped := ladderDropped_keeps (ladderTraced false s)
    refine hfrom (v := (ladderDropped (ladderTraced false s)).raise 757 0) ?_ ?_ ?_ ?_
    · rw [xLadderEnd_eq h, if_neg Bool.false_ne_true]
      exact calKeeps_pumpCal _
    · exact (obj_raise_of_after _ _ (by decide) (by decide)).trans (hdropped.obj _ (by decide))
    · exact (obj_raise_of_after _ _ (by decide) (by decide)).trans (hdropped.obj _ (by decide))
    · rw [obj_raise_of_after _ _ (by decide) (by decide)]
      exact hdropped.even (by rw [hstate])
  · refine hfrom (v := ladderTraced true s) ?_ rfl rfl (by rw [hstate])
    rw [xLadderEnd_eq h, if_pos rfl]
    exact calKeeps_pumpCal _

theorem ladder_completes (hheld : s.held = false) (h : s.obj K.calState = 1) :
    Completes (.ladderTraceEnd t ok) s (fun u => u.obj K.calLadder = (if ok then 1 else 2) ∧ u.obj K.calLadderLast = (s.begin_ t).now ∧
      u.obj K.calState ≠ 1) (fun _ => True) :=
  completes_event (exec_ladderTraceEnd ..) hheld (xLadderEnd_shows (s := s.begin_ t) h ok)

/-! ## A trace that no tile waits for -/

/-- The objects that the trace writes. -/
def ladderShown (s : State) (ok : Bool) : List (Nat × Nat) := [(K.calState, 0), (K.calLadderLast, s.now), (K.calLadder, if ok then 1 else 2)]

theorem ladderTraced_puts (s : State) (ok : Bool) : Puts (ladderShown s ok) (ladderTraced ok s) s :=
  (((puts_set s K.calLadder (if ok then 1 else 2)).set K.calLadderLast s.now (by
    simp only [List.map_cons, List.map_nil]
    decide)).set K.calState 0 (by
    simp only [List.map_cons, List.map_nil]
    decide))

theorem setAll_calIdle (s : State) : setAll s calIdle = ((s.set K.calQueued 0).set K.calRunning 0).set K.calState 0 := by
  simp only [setAll, calIdle, List.foldl_cons, List.foldl_nil]

theorem calRunning_ne_calQueued : K.calRunning ≠ K.calQueued := by decide

theorem pumpCal_allOver (htiles : u.calTiles = []) (hstate : u.obj K.calState = 0) : u.pumpCal = setAll u calIdle :=
  (pumpCal_idle (by simp [htiles])).trans (showCal_idle htiles (by rw [hstate]; decide))

/-- The counts of the tiles that wait and run read 0. -/
theorem Puts.calCounts {vs : List (Nat × Nat)} (h : Puts vs u s) (hqueued : K.calQueued ∉ vs.map (·.1)) (hrunning : K.calRunning ∉ vs.map (·.1)) :
    Puts ((K.calRunning, 0) :: (K.calQueued, 0) :: vs) (calCounts u 0 0) s :=
  (h.set K.calQueued 0 hqueued).set K.calRunning 0 fun hm => (List.mem_cons.1 hm).elim calRunning_ne_calQueued hrunning

/-- Without a tile that calibrates, the counts and the activity read 0. -/
theorem Puts.idle {vs : List (Nat × Nat)} (h : Puts vs u s) (htiles : u.calTiles = []) (hstate : (K.calState, 0) ∈ vs)
    (hqueued : K.calQueued ∉ vs.map (·.1)) (hrunning : K.calRunning ∉ vs.map (·.1)) :
    Puts ((K.calRunning, 0) :: (K.calQueued, 0) :: vs) u.pumpCal s := by
  have hval : u.obj K.calState = 0 := h.holds _ hstate
  rw [pumpCal_allOver htiles hval, setAll_calIdle]
  exact (h.calCounts hqueued hrunning).again (List.mem_cons_of_mem _ (List.mem_cons_of_mem _ hstate))

theorem ladderTraced_tiles (ok : Bool) (s : State) : (ladderTraced ok s).tiles = s.tiles := by
  simp only [ladderTraced, set_tiles]

theorem ladderTraced_time (ok : Bool) (s : State) : (ladderTraced ok s).time = s.time := by
  simp only [ladderTraced, set_time]

theorem ladderShown_keys (s : State) (ok : Bool) : (ladderShown s ok).map (·.1) = [K.calState, K.calLadderLast, K.calLadder] := rfl

theorem idleLadder_puts (h : s.obj K.calState = 1) (htiles : s.calTiles = []) (ok : Bool) :
    Puts ((K.calRunning, 0) :: (K.calQueued, 0) :: (ladderShown s ok ++ if ok then [] else raisedBy s 757 0)) (xLadderEnd ok s) s := by
  have htraced : (ladderTraced ok s).calTiles = [] := by rw [State.calTiles, ladderTraced_tiles, ← State.calTiles, htiles]
  have hdropped : ladderDropped (ladderTraced ok s) = ladderTraced ok s := by
    rw [ladderDropped, ladderWaits, htraced]
    rfl
  have hputs := ladderTraced_puts s ok
  have htime := ladderTraced_time ok s
  have hstate : (K.calState, 0) ∈ ladderShown s ok := List.mem_cons_self ..
  have hkeys := ladderShown_keys s ok
  rw [xLadderEnd_eq h, hdropped]
  generalize ladderTraced ok s = u at htraced hputs htime
  generalize ladderShown s ok = vs at hputs hstate hkeys
  cases ok
  · rw [if_neg Bool.false_ne_true, if_neg Bool.false_ne_true]
    have hraised : (u.raise 757 0).calTiles = [] := by rw [State.calTiles, raise_tiles, ← State.calTiles, htraced]
    refine Puts.idle (hputs.raiseBelow 0 (by decide) (by decide) htime ?_) hraised (List.mem_append_left _ hstate) ?_ ?_
    · rw [hkeys]
      decide
    · rw [List.map_append, map_fst_raisedBy, hkeys]
      decide
    · rw [List.map_append, map_fst_raisedBy, hkeys]
      decide
  · rw [if_pos rfl, if_pos rfl, List.append_nil]
    refine Puts.idle hputs htraced hstate ?_ ?_ <;>
    · rw [hkeys]
      decide

theorem Puts.sameMembers {vs ws : List (Nat × Nat)} (h : Puts vs u s) (hsame : ∀ e, e ∈ vs ↔ e ∈ ws) : Puts ws u s :=
  ⟨h.variant, h.safeAsk, h.mem, h.ctxs, h.inForce, fun i hi => h.obj i fun hm => by
    obtain ⟨e, he, rfl⟩ := List.mem_map.1 hm
    exact hi (List.mem_map_of_mem ((hsame e).1 he)), holds_mono h.holds fun e he => (hsame e).2 he⟩

theorem idleLadder_sets (h : Awake s) (hstate : s.obj K.calState = 1) (htiles : s.calTiles = []) :
    Sets (.ladderTraceEnd t ok) s
      ([(K.calLadder, if ok then 1 else 2), (K.calLadderLast, (s.begin_ t).now), (K.calState, 0), (K.calQueued, 0), (K.calRunning, 0)] ++
        (if ok then [] else raisedBy (s.begin_ t) 757 0)) (fun _ => True) := by
  have hputs := (idleLadder_puts (s := s.begin_ t) hstate htiles ok).sameMembers
    (ws := [(K.calLadder, if ok then 1 else 2), (K.calLadderLast, (s.begin_ t).now), (K.calState, 0), (K.calQueued, 0), (K.calRunning, 0)] ++
      (if ok then [] else raisedBy (s.begin_ t) 757 0)) fun e => by
    simp only [ladderShown, List.mem_cons, List.mem_append, List.not_mem_nil, or_false]
    tauto
  exact sets_event (exec_ladderTraceEnd ..) h hputs.leaves hputs.holds trivial

/-! ## A failed trace that tiles wait for -/

theorem runDropped_self (s : State) (n : Nat) : ((runDropped s n).tile n).cal = .none_ ∧ (runDropped s n).obj (K.tileCalResult n) = 5 := by
  refine ⟨?_, obj_set_self ..⟩
  rw [runDropped, tile_of_tiles (set_tiles ..), State.setCal, tile_modTile]

theorem runDropped_other {m : Nat} (hne : n ≠ m) : ((runDropped s m).tile n).cal = (s.tile n).cal ∧
    (runDropped s m).obj (K.tileCalResult n) = s.obj (K.tileCalResult n) := by
  refine ⟨?_, obj_set_ne _ _ (key_ne (by decide) (by decide) (.inl (by omega)))⟩
  rw [runDropped, tile_of_tiles (set_tiles ..)]
  exact congrArg Tile.cal (get_put_ne _ _ _ hne)

/-- A calibration is dropped. -/
def Dropped (n : Nat) (u : State) : Prop := (u.tile n).cal = .none_ ∧ u.obj (K.tileCalResult n) = 5

theorem dropped_all (ns : List Nat) (s : State) (hn : n ∈ ns) : Dropped n (ns.foldl runDropped s) :=
  foldl_reaches (I := fun _ => True) (P := Dropped) ns (fun _ _ _ => trivial) (fun u m _ => runDropped_self u m)
    (fun u i _ j _ hne h => by
      obtain ⟨hcal, hresult⟩ := runDropped_other (s := u) (n := i) (m := j) hne
      exact ⟨hcal.trans h.1, hresult.trans h.2⟩) trivial hn

theorem calTiles_dropped (ns : List Nat) (s : State) {m : Nat} (h : m ∈ (ns.foldl runDropped s).calTiles) : m ∈ ns ∨ m ∈ s.calTiles := by
  induction ns generalizing s with
  | nil => exact .inr h
  | cons n ns ih =>
    rcases ih _ h with hm | hm
    · exact .inl (List.mem_cons_of_mem _ hm)
    · exact (calTiles_modTile (f := fun t => { t with cal := .none_ }) hm).imp (fun he => by rw [he]; exact List.mem_cons_self ..) id

theorem dropped_completes (hheld : s.held = false) (hstate : s.obj K.calState = 1)
    (hwait : ∀ n ∈ s.calTiles, n < 256 ∧ (s.tile n).cal.kind = 1 ∧ (s.tile n).cal.step = 0 ∧ (s.tile n).cal.purpose = 0) :
    Completes (.ladderTraceEnd t false) s (fun u => u.obj K.calLadder = 2 ∧ u.obj K.calState ≠ 1 ∧
      ∀ n ∈ s.calTiles, (u.tile n).cal.kind = 0 ∧ u.obj (K.tileCalResult n) = 5) (fun _ => True) := by
  obtain ⟨hladder, -, hnot⟩ := xLadderEnd_shows (s := s.begin_ t) hstate false
  refine completes_event (exec_ladderTraceEnd ..) hheld ⟨hladder, hnot, fun n hn => ?_⟩
  have hwaits : ladderWaits (ladderTraced false (s.begin_ t)) = s.calTiles := List.filter_eq_self.2 fun m hm => by
    obtain ⟨-, hkind, hstep, hpurpose⟩ := hwait m hm
    have htile : (ladderTraced false (s.begin_ t)).tile m = s.tile m := rfl
    rw [htile, hkind, hstep, hpurpose]
    rfl
  have hdropped : ∀ m ∈ s.calTiles, Dropped m (ladderDropped (ladderTraced false (s.begin_ t))) := fun m hm =>
    dropped_all _ _ (hwaits.symm ▸ hm)
  have htiles : ((ladderDropped (ladderTraced false (s.begin_ t))).raise 757 0).tiles = (ladderDropped (ladderTraced false (s.begin_ t))).tiles :=
    raise_tiles ..
  have hidle : ∀ m ∈ ((ladderDropped (ladderTraced false (s.begin_ t))).raise 757 0).calTiles,
      (((ladderDropped (ladderTraced false (s.begin_ t))).raise 757 0).tile m).cal.kind = 0 := fun m hm => by
    rw [State.calTiles, htiles] at hm
    have hmem : m ∈ s.calTiles := (calTiles_dropped _ _ hm).elim (fun h => hwaits ▸ h) id
    rw [tile_of_tiles htiles, (hdropped m hmem).1]
    rfl
  obtain ⟨hcal, hresult⟩ := hdropped n hn
  have hlow : K.tileCalResult n < 0x700000 := tileKey_low (i := 14) (by decide) (by decide) (hwait n hn).1
  rw [xLadderEnd_eq (s := s.begin_ t) hstate]
  simp only [Bool.false_eq_true, if_false]
  rw [pumpCal_idle hidle, tile_of_tiles ((showCal_tiles _).trans htiles), hcal, showCal_obj _ hlow, obj_raise_of_lt _ _ _ hlow]
  exact ⟨rfl, hresult⟩

end

end Sys2Proof.Proofs
end

section
/-! # The runs of an internal calibration (R334, R336) -/

set_option Elab.async false

namespace Sys2Proof.Proofs

open Sys2Proof Sys2Proof.Machine Sys2Proof.Laws

section
variable {s u v : State} {t n : Nat} {a b : CalRun}

/-! ## The end of run 1 -/

/-- Run 2 begins with the corrections of run 1. -/
def runRepeated (s : State) (n : Nat) (r : CalRun) : State := s.modCal n (fun y => { y with step := 3, first := some r })

theorem calRunEnd_first (hmode : s.adcMode n ≠ 3) (hkind : (s.tile n).cal.kind = 1) (hstep : (s.tile n).cal.step = 2) :
    xCalRunEnd n a s = runRepeated s n a := by
  simp only [xCalRunEnd, calLeader_single hmode, calMembers_single hmode, hkind, hstep, ne_eq, not_true_eq_false, if_false, if_true,
    List.foldl_cons, List.foldl_nil]
  rfl

theorem calRunFirst_sets (h : Awake s) (hn : n < tileCount s.variant) (hmode : s.adcMode n ≠ 3) (hkind : (s.tile n).cal.kind = 1)
    (hstep : (s.tile n).cal.step = 2) :
    Sets (.calRunEnd t n a) s [] (fun u => (u.tile n).cal = { (s.tile n).cal with step := 3, first := some a }) := by
  have heffect := calRunEnd_first (s := s.begin_ t) (a := a) hmode hkind hstep
  refine sets_eventOf (exec_calRunEnd ..) (by simpa using hn) h ?_ ?_ ?_ <;> rw [heffect]
  · exact leaves_modTile _ _ (fun x => { x with cal := { x.cal with step := 3, first := some a } })
  · exact holds_nil _
  · rw [runRepeated, State.modCal, tile_modTile]
    rfl

/-! ## What a judgement leaves of the tile's calibration and of its contexts -/

/-- The tile's calibration, its mode, its contexts and what else calibrates are as they were, but for a context that is no longer placed. -/
structure Judging (n : Nat) (u s : State) : Prop where
  cal : (u.tile n).cal = (s.tile n).cal
  tiles : ∀ m ∈ u.calTiles, m = n ∨ m ∈ s.calTiles
  mode : u.adcMode n = s.adcMode n
  swaps : u.swaps = s.swaps
  ctxs : u.ctxs = s.ctxs
  placed : ∀ c, u.onTile n c = true → s.onTile n c = true

theorem Judging.trans (h : Judging n u v) (g : Judging n v s) : Judging n u s :=
  ⟨h.cal.trans g.cal, fun m hm => (h.tiles m hm).elim .inl (g.tiles m), h.mode.trans g.mode, h.swaps.trans g.swaps, h.ctxs.trans g.ctxs,
    fun c hc => g.placed c (h.placed c hc)⟩

theorem Judging.refl (n : Nat) (s : State) : Judging n s s := ⟨rfl, fun _ => .inr, rfl, rfl, rfl, fun _ => id⟩

theorem judging_set (s : State) {i k : Nat} (x : Nat) (hk : k < 256) (hmode : i ≠ 0x3008 + 16 * n ∨ k ≠ 1) (hctx : i < 0x4000 ∨ 2 < k) :
    Judging n (s.set (key i k) x) s := by
  have hobj (c j : Nat) (hj : j = 1 ∨ j = 2) : (s.set (key i k) x).obj (key (0x4000 + c) j) = s.obj (key (0x4000 + c) j) :=
    obj_set_ne _ _ (key_ne (by omega) hk (by omega))
  have hon (c : Nat) : (s.set (key i k) x).onTile n c = s.onTile n c := by
    have hstate : (s.set (key i k) x).obj (K.ctxState c) = s.obj (K.ctxState c) := hobj c 1 (.inl rfl)
    have htile : (s.set (key i k) x).obj (K.ctxTile c) = s.obj (K.ctxTile c) := hobj c 2 (.inr rfl)
    unfold State.onTile State.ctxState
    rw [hstate, htile]
  refine ⟨congrArg Tile.cal (tile_of_tiles (set_tiles ..) n), fun m hm => .inr ?_, obj_set_ne _ _ (key_ne (by decide) hk (by omega)),
    set_swaps .., set_ctxs .., fun c hc => hon c ▸ hc⟩
  rwa [State.calTiles, set_tiles] at hm

theorem judging_modTile (s : State) (f : Tile → Tile) (hf : ∀ x, (f x).cal = x.cal) : Judging n (s.modTile n f) s :=
  ⟨by rw [tile_modTile, hf], fun _ hm => calTiles_modTile hm, rfl, rfl, rfl, fun _ => id⟩

/-- A raise of the tile's source may be at the place of a context's state: it is then no longer placed. -/
theorem judging_raise (hn : n < 256) (s : State) (i d : Nat) : Judging n (s.raise i d) s := by
  have htile (c : Nat) : (s.raise i d).obj (K.ctxTile c) = s.obj (K.ctxTile c) := by
    refine obj_raise_ne _ _ _ _ fun he => ?_
    simp only [eventKey, K.ctxTile, K.eventStatus, K.eventCount, K.eventTime, K.eventDetail, key] at he
    omega
  have hstate (c : Nat) : (s.raise i d).obj (K.ctxState c) = s.obj (K.ctxState c) ∨ (s.raise i d).obj (K.ctxState c) = 1 := by
    by_cases he : eventKey i (K.ctxState c)
    · have hstatus : K.ctxState c = K.eventStatus i := by
        refine he.resolve_right fun h => ?_
        simp only [K.ctxState, K.eventCount, K.eventTime, K.eventDetail, key] at h
        omega
      by_cases hsource : s.hasSource i = true
      · rw [hstatus]
        exact .inr (raise_spec s i d hsource).1
      · exact .inl (by rw [State.raise, if_neg hsource])
    · exact .inl (obj_raise_ne _ _ _ _ he)
  refine ⟨congrArg Tile.cal (tile_of_tiles (raise_tiles ..) n), fun m hm => .inr ?_,
    obj_raise_of_lt _ _ _ (tileKey_low (i := 8) (by decide) (by decide) hn), raise_swaps .., raise_ctxs .., fun c hc => ?_⟩
  · rwa [State.calTiles, raise_tiles] at hm
  · simp only [State.onTile, State.ctxState, Bool.and_eq_true] at hc ⊢
    rw [htile] at hc
    have hplaced : cPlaced ≤ (s.raise i d).obj (K.ctxState c) := of_decide_eq_true hc.2
    refine ⟨hc.1, decide_eq_true ?_⟩
    rcases hstate c with h | h
    · exact h ▸ hplaced
    · rw [h] at hplaced
      exact absurd hplaced (by decide)

theorem Judging.tileCtxs (h : Judging n u s) (hnone : s.tileCtxs n = []) : u.tileCtxs n = [] := by
  rw [State.tileCtxs, List.filter_eq_nil_iff] at hnone ⊢
  intro c hc hon
  rw [State.ringed, h.ctxs] at hc
  exact hnone c hc (h.placed c hon)

/-! ## The end of a calibration -/

/-- A tile's calibration has a result and is over, and its monitors resume. -/
def runOver (s : State) (n result : Nat) : State :=
  (((s.set (K.tileCalResult n) result).set (K.tileStatus n)
    (withBit ((s.set (K.tileCalResult n) result).obj (K.tileStatus n)) 5 false)).setCal n .none_).holdMonitors n false

theorem runOver_obj (s : State) (result : Nat) {i k : Nat} (hk : k < 256) (hresult : i ≠ 0x300E + 16 * n ∨ k ≠ 1) (hstatus : i ≠ 0x3006 + 16 * n)
    (hmons : i ≠ 0x300C + 16 * n ∧ i ≠ 0x300D + 16 * n) : (runOver s n result).obj (key i k) = s.obj (key i k) := by
  have hmon (t : State) (j x : Nat) (hj : j < 2) : (t.set (K.tileMonState n j) x).obj (key i k) = t.obj (key i k) :=
    obj_set_ne _ _ (key_ne hk (by decide) (.inl (by omega)))
  simp only [runOver, State.holdMonitors, List.range_succ, List.range_zero, List.nil_append, List.foldl_append, List.foldl_cons,
    List.foldl_nil]
  rw [hmon _ 1 _ (by decide), hmon _ 0 _ (by decide)]
  exact (obj_set_ne _ _ (key_ne hk (by decide) (.inl hstatus))).trans (obj_set_ne _ _ (key_ne hk (by decide) hresult))

theorem runOver_result (s : State) (n result : Nat) : (runOver s n result).obj (K.tileCalResult n) = result := by
  have hmon (t : State) (j x : Nat) (hj : j < 2) : (t.set (K.tileMonState n j) x).obj (K.tileCalResult n) = t.obj (K.tileCalResult n) :=
    obj_set_ne _ _ (key_ne (by decide) (by decide) (.inl (by omega)))
  simp only [runOver, State.holdMonitors, List.range_succ, List.range_zero, List.nil_append, List.foldl_append, List.foldl_cons,
    List.foldl_nil]
  rw [hmon _ 1 _ (by decide), hmon _ 0 _ (by decide)]
  exact (obj_set_ne _ _ (key_ne (by decide) (by decide) (.inl (by omega)))).trans (obj_set_self ..)

theorem showCal_swaps (s : State) : s.showCal.swaps = s.swaps := by
  obtain ⟨waiting, running, activity, heq | heq⟩ := showCal_eq s <;> rw [heq] <;> rfl

theorem holdMonitors_tiles (s : State) (b : Bool) : (s.holdMonitors n b).tiles = s.tiles := foldl_keeps State.tiles _ _ _ fun _ _ => set_tiles ..

theorem holdMonitors_swaps (s : State) (b : Bool) : (s.holdMonitors n b).swaps = s.swaps := foldl_keeps State.swaps _ _ _ fun _ _ => set_swaps ..

theorem runOver_swaps (s : State) (n result : Nat) : (runOver s n result).swaps = s.swaps := (holdMonitors_swaps ..).trans rfl

theorem runOver_tile (s : State) (n result : Nat) : (runOver s n result).tile n = { s.tile n with cal := .none_ } := by
  rw [runOver, tile_of_tiles (holdMonitors_tiles ..), State.setCal, tile_modTile]
  rfl

theorem runOver_calTiles {m result : Nat} (h : m ∈ (runOver s n result).calTiles) : m = n ∨ m ∈ s.calTiles := by
  rw [State.calTiles, runOver, holdMonitors_tiles] at h
  exact calTiles_modTile (f := fun t => { t with cal := .none_ }) h

theorem endCal_run (result : Nat) (hmode : s.adcMode n ≠ 3) (hkind : (s.tile n).cal.kind = 1) (hctxs : s.calCtxs n = []) :
    s.endCal n result = (runOver s n result).pumpCal := by
  have hresult : calResultKey 1 n = K.tileCalResult n := if_pos rfl
  have hmode' : (runOver s n result).adcMode n ≠ 3 := by
    rw [State.adcMode, K.tileAdcMode, runOver_obj s result (by decide) (.inl (by omega)) (by omega) (by omega)]
    exact hmode
  have hacquire : (runOver s n result).acquire n = runOver s n result := by
    rw [State.acquire]
    exact if_neg (by simp [hmode'])
  have hjoin (t : State) : t.joinBuses n [] = t := rfl
  simp only [State.endCal, calMembers_single hmode, hctxs, hkind, hresult, State.busesContended, List.any_nil, Bool.and_false, List.foldl_cons,
    List.foldl_nil, Bool.false_eq_true, if_false, State.endRuns, beq_self_eq_true, if_true, hjoin]
  exact congrArg State.pumpCal hacquire

/-- Once the one tile that calibrates has its result, no tile calibrates. -/
structure RunEnded (n result : Nat) (u s : State) : Prop where
  tile : u.tile n = { s.tile n with cal := .none_ }
  result : u.obj (K.tileCalResult n) = result
  swaps : u.swaps = s.swaps
  row : ∀ k, k < 256 → k ≠ 1 → u.obj (key (0x300E + 16 * n) k) = s.obj (key (0x300E + 16 * n) k)
  count : u.obj (K.eventCount (256 + n)) = s.obj (K.eventCount (256 + n))
  pass : u.obj K.calLastPass = s.obj K.calLastPass
  fail : u.obj K.calLastFail = s.obj K.calLastFail

theorem endCal_ends (result : Nat) (hn : n < 256) (hmode : s.adcMode n ≠ 3) (hkind : (s.tile n).cal.kind = 1) (hctxs : s.calCtxs n = [])
    (halone : ∀ m ∈ s.calTiles, m = n) : RunEnded n result (s.endCal n result) s := by
  have hidle : ∀ m ∈ (runOver s n result).calTiles, ((runOver s n result).tile m).cal.kind = 0 := fun m hm => by
    obtain rfl : m = n := (runOver_calTiles hm).elim id (halone m)
    rw [runOver_tile]
    rfl
  have hshow {k : Nat} (hk : k ≠ K.calQueued) (hk' : k ≠ K.calRunning) (hs : k ≠ K.calState) :
      (runOver s n result).showCal.obj k = (runOver s n result).obj k := by
    obtain ⟨waiting, running, activity, heq | heq⟩ := showCal_eq (runOver s n result) <;> rw [heq]
    · exact (obj_set_ne _ _ hk').trans (obj_set_ne _ _ hk)
    · exact (obj_set_ne _ _ hs).trans ((obj_set_ne _ _ hk').trans (obj_set_ne _ _ hk))
  rw [endCal_run result hmode hkind hctxs, pumpCal_idle hidle]
  refine ⟨(tile_of_tiles (showCal_tiles _) n).trans (runOver_tile ..), ?_, ?_, fun k hk hne => ?_, ?_, ?_, ?_⟩
  · exact (showCal_obj _ (tileKey_low (i := 14) (by decide) (by decide) hn)).trans (runOver_result ..)
  · exact (showCal_swaps _).trans (runOver_swaps s n result)
  · exact (showCal_obj _ (tileKey_low (i := 14) (by decide) hk hn)).trans
      (runOver_obj s result hk (.inr hne) (by omega) (by omega))
  · have hcount : (runOver s n result).obj (K.eventCount (256 + n)) = s.obj (K.eventCount (256 + n)) :=
      runOver_obj s result (i := 0x7000 + (256 + n)) (k := 5) (by decide) (.inr (by decide)) (by omega) (by omega)
    have hne {j : Nat} (hj : j < 256) (h : 5 ≠ j) : K.eventCount (256 + n) ≠ key 0x7800 j := key_ne (by decide) hj (.inr h)
    exact (hshow (hne (by decide) (by decide)) (hne (by decide) (by decide)) (hne (by decide) (by decide))).trans hcount
  · have hpass : (runOver s n result).obj K.calLastPass = s.obj K.calLastPass :=
      runOver_obj s result (i := 0x7800) (k := 6) (by decide) (.inr (by decide)) (by omega) (by omega)
    exact (hshow (by decide) (by decide) (by decide)).trans hpass
  · have hfail : (runOver s n result).obj K.calLastFail = s.obj K.calLastFail :=
      runOver_obj s result (i := 0x7800) (k := 7) (by decide) (.inr (by decide)) (by omega) (by omega)
    exact (hshow (by decide) (by decide) (by decide)).trans hfail

end

end Sys2Proof.Proofs
end

section
/-! # The judgement of an internal calibration (R334) -/

set_option Elab.async false

namespace Sys2Proof.Proofs

open Sys2Proof Sys2Proof.Machine Sys2Proof.Laws

/-! ## What a substitution leaves alone -/

/-- The objects that show a tile's result, and the counts of failures, apart from the validity of its corrections. -/
def JudgedKey (k : Nat) : Prop :=
  (0x300000 ≤ k ∧ k < 0x400000 ∧ k / 256 % 16 = 14 ∧ (k % 256 = 1 ∨ k % 256 = 3 ∨ k % 256 = 5)) ∨
    (0x710000 ≤ k ∧ k < 0x720000 ∧ k % 256 = 5) ∨ k = K.calLastFail

/-- Those objects stay, and every tile keeps its calibration. -/
structure KeepsJudged (u s : State) : Prop where
  obj : ∀ k, JudgedKey k → u.obj k = s.obj k
  cal : ∀ n, (u.tile n).cal = (s.tile n).cal

section
variable {s u v : State} {n : Nat}

theorem KeepsJudged.refl (s : State) : KeepsJudged s s := ⟨fun _ _ => rfl, fun _ => rfl⟩

theorem KeepsJudged.trans (h : KeepsJudged u v) (g : KeepsJudged v s) : KeepsJudged u s :=
  ⟨fun k hk => (h.obj k hk).trans (g.obj k hk), fun n => (h.cal n).trans (g.cal n)⟩

theorem judged_of_dict (hdict : u.dict = s.dict) (hvariant : u.variant = s.variant) (htiles : u.tiles = s.tiles) : KeepsJudged u s :=
  ⟨fun _ _ => by simp only [State.obj, hvariant, hdict], fun n => congrArg Tile.cal (tile_of_tiles htiles n)⟩

theorem judged_ite {c : Prop} [Decidable c] (h : KeepsJudged u s) (g : KeepsJudged v s) : KeepsJudged (if c then u else v) s := by
  split
  · exact h
  · exact g

theorem judged_foldl {α : Type} (f : State → α → State) (xs : List α) (h : ∀ t, ∀ x ∈ xs, KeepsJudged (f t x) t) (s : State) :
    KeepsJudged (xs.foldl f s) s := by
  induction xs generalizing s with
  | nil => exact .refl s
  | cons x xs ih => exact (ih (fun t y hy => h t y (List.mem_cons_of_mem _ hy)) _).trans (h s x (List.mem_cons_self ..))

theorem judged_set (s : State) {i k : Nat} (x : Nat) (hk : k < 256)
    (h : ((i < 0x3000 ∨ 0x4000 ≤ i ∨ i % 16 ≠ 14) ∧ i < 0x7000) ∨ k = 2 ∨ 7 < k) : KeepsJudged (s.set (key i k) x) s := by
  refine ⟨fun j hj => obj_set_ne _ _ fun he => ?_, fun n => congrArg Tile.cal (tile_of_tiles (set_tiles ..) n)⟩
  have hfail : K.calLastFail = 0x780007 := rfl
  simp only [JudgedKey, hfail] at hj
  simp only [key] at he
  omega

/-- An object of a row of a tile other than that of its results. -/
theorem judged_tile (s : State) {i k : Nat} (m x : Nat) (hk : k < 256) (hm : m < 256) (hi : 0x3000 ≤ i ∧ i < 0x3010 ∧ i ≠ 0x300E) :
    KeepsJudged (s.set (key (i + 16 * m) k) x) s := judged_set s x hk (.inl ⟨.inr (.inr (by omega)), by omega⟩)

theorem judged_settle (s : State) (k : Nat) : KeepsJudged (s.settle k) s := judged_of_dict rfl rfl rfl

theorem judged_force1 (s : State) {i k : Nat} (m x : Nat) (hk : k < 256) (hm : m < 256) (hi : 0x3000 ≤ i ∧ i < 0x3010 ∧ i ≠ 0x300E) :
    KeepsJudged (s.force1 (key (i + 16 * m) k) x) s := (judged_tile _ m x hk hm hi).trans (judged_settle ..)

theorem judged_modTile (s : State) (m : Nat) (f : Tile → Tile) (hf : ∀ x, (f x).cal = x.cal) : KeepsJudged (s.modTile m f) s := by
  refine ⟨fun _ _ => rfl, fun n => ?_⟩
  by_cases heq : n = m
  · rw [heq, tile_modTile, hf]
  · exact congrArg Tile.cal (get_put_ne _ _ _ heq)

theorem judged_forceAll (s : State) (hn : n < 256) (vs : List (Nat × Nat × Nat))
    (hvs : ∀ e ∈ vs, (0x3000 ≤ e.1 ∧ e.1 < 0x3010 ∧ e.1 ≠ 0x300E) ∧ e.2.1 < 256) : KeepsJudged (forceAll n s vs) s :=
  judged_foldl _ vs (fun t e he => judged_force1 t n _ (hvs e he).2 hn (hvs e he).1) s

theorem judged_writeFe (s : State) (hn : n < 256) (half fe : Nat) : KeepsJudged (s.writeFe n half fe) s := by
  have hhalf : ∀ e ∈ feHalf half fe, (0x3000 ≤ e.1 ∧ e.1 < 0x3010 ∧ e.1 ≠ 0x300E) ∧ e.2.1 < 256 := by
    unfold feHalf
    split <;> simp
  rw [writeFe_eq]
  exact (judged_forceAll _ hn _ (by simp [feBoth])).trans (judged_forceAll s hn _ hhalf)

theorem judged_writeAdc (s : State) (hn : n < 256) (d : Node) (div phase : Nat) : KeepsJudged (s.writeAdc n d div phase) s := by
  unfold State.writeAdc
  extract_lets osr fs valid timed phased
  have hset (t : State) (k x : Nat) (hk : k < 256) : KeepsJudged (t.set (key (0x3008 + 16 * n) k) x) t :=
    judged_tile t n x hk hn (by decide)
  have hvalid : KeepsJudged valid s := judged_ite (.refl s) (judged_set s _ (by decide) (.inr (.inl rfl)))
  have htimed : KeepsJudged timed s := (hset _ 3 _ (by decide)).trans ((hset _ 2 _ (by decide)).trans ((hset _ 1 _ (by decide)).trans hvalid))
  have hphased : KeepsJudged phased s := (judged_force1 (i := 0x3008) (k := 6) _ n _ (by decide) hn (by decide)).trans
    ((hset _ 5 _ (by decide)).trans ((hset _ 4 _ (by decide)).trans htimed))
  exact (hset _ 10 _ (by decide)).trans hphased

theorem judged_reportBiquad (s : State) (hn : n < 256) : KeepsJudged (s.reportBiquad n) s := by
  unfold State.reportBiquad
  extract_lets f r u
  have hdrawn : KeepsJudged r.2 s := judged_of_dict rfl rfl rfl
  have hreal : KeepsJudged u s := (judged_tile (i := 0x3002) (k := 4) _ n _ (by decide) hn (by decide)).trans hdrawn
  exact (judged_tile (i := 0x3002) (k := 5) _ n _ (by decide) hn (by decide)).trans hreal

theorem judged_writeScan (s : State) (hn : n < 256) (g : List Node) : KeepsJudged (s.writeScan n g) s := by
  have hset (t : State) (k x : Nat) (hk : k < 256) : KeepsJudged (t.set (key (0x3004 + 16 * n) k) x) t :=
    judged_tile t n x hk hn (by decide)
  unfold State.writeScan
  extract_lets table start cycle
  have htable : KeepsJudged table s := (judged_force1 (i := 0x3004) (k := 5) _ n _ (by decide) hn (by decide)).trans
    ((hset _ 2 _ (by decide)).trans (hset _ 1 _ (by decide)))
  have hcycle : KeepsJudged cycle s := (hset _ 4 _ (by decide)).trans ((hset _ 3 _ (by decide)).trans htable)
  exact (judged_tile (i := 0x3006) (k := 1) _ n _ (by decide) hn (by decide)).trans hcycle

theorem judged_writeTile (s : State) (hn : n < 256) (half c div phase : Nat) : KeepsJudged (s.writeTile n half c div phase) s := by
  unfold State.writeTile
  extract_lets d form fe adc report g
  clear_value d
  have hform : KeepsJudged form s := judged_tile (i := 0x3000) (k := 1) s n _ (by decide) hn (by decide)
  have hfe : KeepsJudged fe s := (judged_writeFe form hn half d.fe).trans hform
  have hadc : KeepsJudged adc s := judged_ite hfe ((judged_writeAdc fe hn d div phase).trans hfe)
  have hreport : KeepsJudged report s := (judged_reportBiquad adc hn).trans hadc
  clear_value report g
  have hpartner (x : Nat) : KeepsJudged (report.set (K.tileRoutePartner n) x) s :=
    (judged_tile (i := 0x3003) (k := 3) report n x (by decide) hn (by decide)).trans hreport
  exact judged_ite (judged_ite ((judged_writeScan report hn g).trans hreport) hreport) (hpartner _)

theorem judged_copyMonitors (s : State) (old : Nat) (hn : n < 256) : KeepsJudged (s.copyMonitors old n) s := by
  unfold State.copyMonitors
  extract_lets move copied tabled
  have hmove (t : State) (a i b : Nat) (hi : i % 16 ≠ 14 ∧ i < 0x4000) (hb : b < 256) : KeepsJudged (move t a (key i b)) t :=
    judged_set t _ hb (.inl ⟨.inr (.inr hi.1), by omega⟩)
  have hcopied : KeepsJudged copied s := by
    refine judged_foldl _ _ (fun t i hi => ?_) s
    have hi : i < 2 := List.mem_range.1 hi
    refine judged_foldl _ _ (fun v b hb => hmove _ _ _ _ (by omega) ?_) t
    simp only [List.mem_cons, List.not_mem_nil, or_false] at hb
    omega
  clear_value copied
  have htabled : KeepsJudged tabled s := by
    refine KeepsJudged.trans ?_ hcopied
    unfold tabled
    split <;> exact judged_of_dict rfl rfl rfl
  exact (hmove _ _ (0x300F + 16 * n) 0x02 (by omega) (by decide)).trans htabled

theorem judged_writeSpare (s : State) (old : Nat) {t : Nat} (ht : t < 256) (hpair : (s.adcMode old == 3) = true → t + 1 < 256) :
    KeepsJudged (s.writeSpare old t) s := by
  unfold State.writeSpare
  extract_lets cs div paired
  refine judged_foldl _ _ (fun st c _ => ?_) s
  extract_lets ph written
  have hwritten : KeepsJudged written st := judged_writeTile st ht ..
  clear_value written
  split
  next hp => exact (judged_writeTile written (hpair hp) ..).trans hwritten
  · exact hwritten

/-- An object of a context that is not one of its first ones, whatever its number. -/
theorem judged_ctx (s : State) (c x : Nat) {k : Nat} (hk : k < 256) (h : 7 < k) : KeepsJudged (s.set (key (0x4000 + c) k) x) s :=
  judged_set s x hk (.inr (.inr h))

theorem judged_setSwapState (s : State) (cs : List Nat) (x : Nat) : KeepsJudged (s.setSwapState cs x) s :=
  judged_foldl _ _ (fun t c _ => judged_ctx t c x (by decide) (by decide)) _

theorem judged_loseSource (s : State) (c cause : Nat) : KeepsJudged (s.loseSource c cause) s := by
  have hcause (t : State) : KeepsJudged (t.set (K.ctxCause c) cause) t := judged_ctx t c cause (by decide) (by decide)
  have hmod (f : Ctx → Ctx) : KeepsJudged (s.modCtx c f) s := judged_of_dict rfl rfl rfl
  unfold State.loseSource
  extract_lets st
  exact judged_ite (hmod _) (judged_ite ((hcause _).trans (hmod _)) (judged_ite ((hcause _).trans (hmod _)) (.refl s)))

theorem judged_raise759 (s : State) (d : Nat) : KeepsJudged (s.raise 759 d) s := by
  refine ⟨fun k hk => obj_raise_ne _ _ _ _ fun he => ?_, fun n => congrArg Tile.cal (tile_of_tiles (raise_tiles ..) n)⟩
  have hfail : K.calLastFail = 0x780007 := rfl
  simp only [JudgedKey, hfail] at hk
  simp only [eventKey, K.eventStatus, K.eventCount, K.eventTime, K.eventDetail, key] at he
  omega

theorem judged_showSwaps (s : State) : KeepsJudged s.showSwaps s := judged_set (i := 0x2000) s _ (by decide) (.inl ⟨.inl (by decide), by decide⟩)

theorem judged_putSwaps (s : State) (ws : List Swap) : KeepsJudged (s.putSwaps ws) s := judged_of_dict rfl rfl rfl

theorem judged_spareless (s : State) (w : Swap) : KeepsJudged (spareless s w) s :=
  (judged_raise759 ..).trans ((judged_foldl _ _ (fun _ _ _ => judged_loseSource ..) _).trans ((judged_setSwapState ..).trans
    ((judged_showSwaps _).trans (judged_putSwaps ..))))

theorem judged_spareShown (s : State) (w : Swap) (t : Nat) : KeepsJudged (spareShown s w t) s :=
  have hnoted : KeepsJudged (spareNoted s w t) s := judged_of_dict rfl rfl rfl
  (judged_setSwapState ..).trans ((judged_foldl _ _ (fun v c _ => judged_ctx v c t (by decide) (by decide)) _).trans hnoted)

theorem judged_spareWritten (s : State) (w : Swap) {t : Nat} (ht : t < 256) (hpair : (s.adcMode w.old == 3) = true → t + 1 < 256) :
    KeepsJudged ((if s.adcMode w.old == 3 then [(w.old, t), (w.old + 1, t + 1)] else [(w.old, t)]).foldl (fun st m => st.copyMonitors m.1 m.2)
      (spareTaken s w t)) (spareShown s w t) := by
  have htaken : KeepsJudged (spareTaken s w t) (spareShown s w t) := judged_writeSpare _ _ ht (by rwa [spareShown_adcMode])
  refine (judged_foldl _ _ (fun v m hm => judged_copyMonitors v m.1 ?_) _).trans htaken
  split at hm
  next hp =>
    obtain rfl | rfl := List.mem_pair.1 hm
    · exact ht
    · exact hpair hp
  · rw [List.mem_singleton.1 hm]
    exact ht

theorem judged_reserveSpare (s : State) (w : Swap) : KeepsJudged (s.reserveSpare w) s := by
  rw [reserveSpare_eq]
  cases hpick : pickSpare s w with
  | none => exact judged_spareless ..
  | some t =>
    obtain ⟨ht, hpair⟩ := pickSpare_lt hpick
    exact (judged_spareWritten s w ht hpair).trans (judged_spareShown ..)

theorem judged_pumpSwapsFrom (s : State) (ws : List Swap) : KeepsJudged (s.pumpSwapsFrom ws) s := by
  induction ws generalizing s with
  | nil => exact .refl s
  | cons w ws ih =>
    rw [State.pumpSwapsFrom]
    split
    · exact (ih _).trans (judged_reserveSpare ..)
    · exact ih s

theorem judged_beginSwap (s : State) (old asked : Nat) : KeepsJudged (s.beginSwap old asked) s := by
  unfold State.beginSwap
  extract_lets cs put from_
  have hput : KeepsJudged put s := judged_putSwaps ..
  have hfrom : KeepsJudged from_ s := (judged_foldl _ _ (fun t c _ => judged_ctx t c _ (by decide) (by decide)) _).trans hput
  exact (judged_pumpSwapsFrom ..).trans ((judged_showSwaps _).trans ((judged_setSwapState ..).trans hfrom))

theorem judged_substitute (s : State) (l : Nat) : KeepsJudged (s.substitute l) s := by
  have hlose (cs : List Nat) (cause : Nat) : KeepsJudged (cs.foldl (fun st c => st.loseSource c cause) s) s :=
    judged_foldl _ _ (fun t c _ => judged_loseSource t c cause) s
  unfold State.substitute
  extract_lets cs
  exact judged_ite (.refl s) (judged_ite (hlose ..) (judged_ite (hlose ..) (judged_ite (hlose ..) (judged_beginSwap ..))))

theorem judged_showDefects (s : State) (cls unit : Nat) : KeepsJudged (s.showDefects cls unit) s := by
  unfold State.showDefects
  extract_lets counted
  have hcounted : KeepsJudged counted s := judged_set (i := 0x2001) s _ (by decide) (.inl ⟨.inl (by decide), by decide⟩)
  split
  next h =>
    have hunit : unit < 256 := by
      simp only [Bool.and_eq_true, decide_eq_true_eq] at h
      exact h.2.trans_le (tileCount_le _)
    exact (judged_tile (i := 0x3006) (k := 1) _ unit _ (by decide) hunit (by decide)).trans hcounted
  next => exact hcounted

theorem judged_addDefect (s : State) (cls unit cause : Nat) : KeepsJudged (s.addDefect cls unit cause) s := by
  have hlisted (ds : List Defect) (dirty : Bool) : KeepsJudged { s with defects := ds, placeDirty := dirty } s := judged_of_dict rfl rfl rfl
  have hcaused (ds : List Defect) : KeepsJudged { s with defects := ds } s := judged_of_dict rfl rfl rfl
  unfold State.addDefect
  extract_lets pad listed
  exact judged_ite (hcaused _) (judged_ite (judged_set (i := 0x2000) s _ (by decide) (.inl ⟨.inl (by decide), by decide⟩))
    ((judged_raise759 ..).trans ((judged_showDefects ..).trans (hlisted _ _))))

theorem judged_calFails (s : State) (l : Nat) : KeepsJudged (s.calFails l) s :=
  (judged_substitute ..).trans (judged_foldl _ _ (fun t m _ => judged_addDefect t 4 m 1) s)

end

end Sys2Proof.Proofs
end

section
/-! # After run 2 (R334, R336) -/

set_option Elab.async false

namespace Sys2Proof.Proofs

open Sys2Proof Sys2Proof.Machine Sys2Proof.Laws

section
variable {s u v : State} {t n : Nat} {a b : CalRun}

/-- Whether two runs pass. -/
def runsHold (s : State) (n : Nat) (a b : CalRun) : Bool :=
  !(s.tile n).cal.spoiled && s.runHolds n a && s.runHolds n b && s.runsAgree a b

/-- A calibration is counted for its command. -/
def commandCounted (s : State) (k : Nat) : State := s.set k (min 256 (s.obj k + 1))

/-- The instant of the last calibration. -/
def lastShown (s : State) (n : Nat) : State := s.set (K.tileCalLast n) s.now

/-- A PASS, before the calibration ends. -/
def runPassed (s : State) (n : Nat) (a b : CalRun) : State :=
  commandCounted (((lastShown s n).passTile n a b).passPair n a b) K.calLastPass

/-- A FAIL, before the calibration ends. -/
def runFailed (s : State) (n : Nat) : State :=
  commandCounted (((lastShown s n).count (K.tileCalFails n) 32 1).raiseTile n 1) K.calLastFail

/-- After the end of the calibration a substitution that waits for it goes on. -/
def passEnded (s : State) (n : Nat) : State :=
  match s.swaps.find? (fun w => w.spare == n && w.step == 4) with
  | some w => (s.setSwap w.old (fun y => { y with step := 5 })).setSwapState (s.tileCtxs w.old) 3
  | none => s

def failEnded (s : State) (n : Nat) : State :=
  match s.swaps.find? (fun w => w.spare == n && w.step == 4) with
  | some w => s.spareFails w
  | none => s.calFails n

theorem judgeCal_eq (hmode : s.adcMode n ≠ 3) (hpurpose : (s.tile n).cal.purpose = 0) :
    s.judgeCal n a b =
      if runsHold s n a b then passEnded ((runPassed s n a b).endCal n 3) n else failEnded ((runFailed s n).endCal n 4) n := by
  simp only [State.judgeCal, calMembers_single hmode, hpurpose, List.foldl_cons, List.foldl_nil, List.any_cons, List.any_nil, Bool.or_false,
    List.length_singleton, if_true, show ¬ (0 = 1) by decide, if_false]
  unfold runPassed runFailed commandCounted lastShown runsHold
  generalize State.endCal _ n 3 = passed
  generalize State.endCal _ n 4 = failed
  rfl

theorem passEnded_idle (h : s.swaps = []) : passEnded s n = s := by
  rw [passEnded, h]
  rfl

theorem failEnded_idle (h : s.swaps = []) : failEnded s n = s.calFails n := by
  rw [failEnded, h]
  rfl

/-! ## Before the end -/

theorem judging_row (s : State) {k : Nat} (x : Nat) (hk : k < 256) (hn : n < 256) : Judging n (s.set (key (0x300E + 16 * n) k) x) s :=
  judging_set s x hk (.inl (by omega)) (.inl (by omega))

theorem judging_lastShown (hn : n < 256) (s : State) : Judging n (lastShown s n) s := judging_row s _ (by decide) hn

theorem judging_counted (s : State) {k : Nat} (hk : k < 256) (h : 2 < k) : Judging n (commandCounted s (key 0x7800 k)) s :=
  judging_set s _ hk (.inl (by omega)) (.inr h)

theorem judging_passTile (hn : n < 256) (s : State) : Judging n (s.passTile n a b) s := by
  unfold State.passTile
  extract_lets x g ramp new old corrected
  have hcorrected : Judging n corrected s := judging_modTile s _ fun _ => rfl
  clear_value corrected
  exact (judging_row (k := 4) _ _ (by decide) hn).trans ((judging_row (k := 2) _ _ (by decide) hn).trans
    ((judging_row (k := 8) _ _ (by decide) hn).trans hcorrected))

theorem judging_passPair (hn : n < 256) (s : State) : Judging n (s.passPair n a b) s := by
  have hset (t : State) (k x : Nat) (hk : k < 256) : Judging n (t.set (key (0x3009 + 16 * n) k) x) t :=
    judging_set t x hk (.inl (by omega)) (.inl (by omega))
  unfold State.passPair
  split
  next x y _ _ =>
    extract_lets w
    have htile : Judging n (s.modTile n (fun t => { t with ilvWords := 0, ilvQuiet := 0, ilvCal := w })) s := judging_modTile s _ fun _ => rfl
    exact (hset _ 1 _ (by decide)).trans ((hset _ 4 _ (by decide)).trans ((hset _ 3 _ (by decide)).trans ((hset _ 2 _ (by decide)).trans htile)))
  next => exact .refl n s

theorem judging_runPassed (hn : n < 256) (s : State) : Judging n (runPassed s n a b) s :=
  (judging_counted _ (by decide) (by decide)).trans ((judging_passPair hn _).trans ((judging_passTile hn _).trans (judging_lastShown hn s)))

theorem judging_runFailed (hn : n < 256) (s : State) : Judging n (runFailed s n) s :=
  (judging_counted _ (by decide) (by decide)).trans ((judging_raise hn ..).trans ((judging_row _ _ (by decide) hn).trans (judging_lastShown hn s)))

/-- The end of the calibration of the one tile that calibrates, outside pairs and with no context. -/
theorem judged_ends (h : Judging n u s) (result : Nat) (hn : n < 256) (hmode : s.adcMode n ≠ 3) (hkind : (s.tile n).cal.kind = 1)
    (hswaps : s.swaps = []) (hctxs : s.tileCtxs n = []) (htiles : s.calTiles = [n]) : RunEnded n result (u.endCal n result) u := by
  refine endCal_ends result hn (by rwa [h.mode]) (by rwa [h.cal]) ?_ fun m hm => (h.tiles m hm).elim id fun hm => List.mem_singleton.1 (htiles ▸ hm)
  rw [State.calCtxs, h.swaps, hswaps]
  exact h.tileCtxs hctxs

/-! ## What it shows -/

theorem obj_passPair (s : State) {k i : Nat} (hk : k < 256) (h : i ≠ 0x3009 + 16 * n) : (s.passPair n a b).obj (key i k) = s.obj (key i k) := by
  have hset (t : State) (j x : Nat) (hj : j < 256) : (t.set (key (0x3009 + 16 * n) j) x).obj (key i k) = t.obj (key i k) :=
    obj_set_ne _ _ (key_ne hk hj (.inl h))
  unfold State.passPair
  split
  next x y _ _ =>
    extract_lets w
    exact (hset _ 1 _ (by decide)).trans ((hset _ 4 _ (by decide)).trans ((hset _ 3 _ (by decide)).trans (hset _ 2 _ (by decide))))
  next => rfl

theorem passPair_tile (s : State) : ((s.passPair n a b).tile n).danaNew = (s.tile n).danaNew := by
  unfold State.passPair
  split
  next x y _ _ =>
    extract_lets w
    have htiles (t : State) (o : Int) (g : Nat) (k : Int) (i : Nat) : ((t.setIlv n o g k).set (K.tileIlvState n) i).tiles = t.tiles := by
      simp only [State.setIlv, set_tiles]
    rw [tile_of_tiles (htiles ..), tile_modTile]
  next => rfl

theorem passTile_shows (s : State) : (s.passTile n a b).obj (K.tileCalValid n) = 1 ∧
    (s.passTile n a b).obj (K.tileCalPasses n) = satAdd 32 (s.obj (K.tileCalPasses n)) 1 ∧
    (s.passTile n a b).obj (K.tileCalLast n) = s.obj (K.tileCalLast n) ∧ (s.passTile n a b).obj K.calLastPass = s.obj K.calLastPass ∧
    ((s.passTile n a b).tile n).danaNew = meanDana a.dana b.dana := by
  unfold State.passTile
  extract_lets x g ramp new old corrected
  have hobj (k : Nat) : corrected.obj k = s.obj k := rfl
  have hdana : (corrected.tile n).danaNew = meanDana a.dana b.dana := by
    unfold corrected
    rw [tile_modTile]
  clear_value corrected
  have hrow (t : State) {i j : Nat} (y : Nat) (hi : i < 256) (hj : j < 256) (hne : i ≠ j) :
      (t.set (key (0x300E + 16 * n) j) y).obj (key (0x300E + 16 * n) i) = t.obj (key (0x300E + 16 * n) i) :=
    obj_set_ne _ _ (key_ne hi hj (.inr hne))
  have hpass (t : State) {j : Nat} (y : Nat) (hj : j < 256) (hne : 6 ≠ j) : (t.set (key (0x300E + 16 * n) j) y).obj K.calLastPass = t.obj K.calLastPass :=
    obj_set_ne _ _ (key_ne (by decide) hj (.inr hne))
  have hkept : ((corrected.set (K.tileCalRampLeft n) (if ramp then g else 0)).set (K.tileCalValid n) 1).obj (K.tileCalPasses n) =
      corrected.obj (K.tileCalPasses n) := (hrow _ _ (by decide) (by decide) (by decide)).trans (hrow _ _ (by decide) (by decide) (by decide))
  refine ⟨?_, ?_, ?_, ?_, ?_⟩
  · exact (hrow _ _ (by decide) (by decide) (by decide)).trans (obj_set_self ..)
  · rw [obj_count_self, hkept, hobj]
  · exact (hrow _ _ (by decide) (by decide) (by decide)).trans ((hrow _ _ (by decide) (by decide) (by decide)).trans
      ((hrow _ _ (by decide) (by decide) (by decide)).trans (hobj _)))
  · exact (hpass _ _ (by decide) (by decide)).trans ((hpass _ _ (by decide) (by decide)).trans ((hpass _ _ (by decide) (by decide)).trans (hobj _)))
  · rw [tile_of_tiles (s := corrected) (by simp only [count_tiles, set_tiles]), hdana]

/-- A PASS shows its instant, its count and the corrections in force. -/
theorem runPassed_shows (hn : n < 256) (s : State) : (runPassed s n a b).obj (K.tileCalLast n) = s.now ∧
    (runPassed s n a b).obj (K.tileCalValid n) = 1 ∧ (runPassed s n a b).obj (K.tileCalPasses n) = satAdd 32 (s.obj (K.tileCalPasses n)) 1 ∧
    (runPassed s n a b).obj K.calLastPass = min 256 (s.obj K.calLastPass + 1) ∧
    ((runPassed s n a b).tile n).danaNew = meanDana a.dana b.dana := by
  obtain ⟨hvalid, hpasses, hlast, hpass, hdana⟩ := passTile_shows (n := n) (a := a) (b := b) (lastShown s n)
  have hcounted (t : State) {k : Nat} (hk : k < 256) (x : Nat) : (t.set K.calLastPass x).obj (key (0x300E + 16 * n) k) = t.obj (key (0x300E + 16 * n) k) :=
    obj_set_ne _ _ (key_ne hk (by decide) (.inl (by omega)))
  have hrow {k : Nat} (hk : k < 256) : (runPassed s n a b).obj (key (0x300E + 16 * n) k) =
      ((lastShown s n).passTile n a b).obj (key (0x300E + 16 * n) k) := (hcounted _ hk _).trans (obj_passPair _ hk (by omega))
  have hshown : (lastShown s n).obj (K.tileCalPasses n) = s.obj (K.tileCalPasses n) := obj_set_ne _ _ (key_ne (by decide) (by decide) (.inr (by decide)))
  have hcount : (((lastShown s n).passTile n a b).passPair n a b).obj K.calLastPass = s.obj K.calLastPass :=
    (obj_passPair _ (by decide) (by omega)).trans (hpass.trans (obj_set_ne _ _ (key_ne (by decide) (by decide) (.inr (by decide)))))
  refine ⟨(hrow (by decide)).trans (hlast.trans (obj_set_self ..)), (hrow (by decide)).trans hvalid,
    (hrow (by decide)).trans (hpasses.trans (congrArg (satAdd 32 · 1) hshown)), ?_, ?_⟩
  · rw [runPassed, commandCounted, obj_set_self, hcount]
  · rw [runPassed, commandCounted, tile_of_tiles (set_tiles ..), passPair_tile, hdana]

theorem hasSource_tile (h : n < tileCount s.variant) : s.hasSource (256 + n) = true := by
  simp only [State.hasSource, eventPresent, tileCount, Bool.and_eq_true, decide_eq_true_eq, Bool.or_eq_true, bne_iff_ne, Bool.not_eq_true',
    Bool.or_eq_false_iff, Bool.and_eq_false_iff, decide_eq_false_iff_not] at h ⊢
  split at h
  · exact ⟨by omega, .inr (by omega)⟩
  next hv => exact ⟨by omega, .inl hv⟩

/-- A FAIL shows its instant and its counts. -/
theorem runFailed_shows (hn : n < tileCount s.variant) : (runFailed s n).obj (K.tileCalLast n) = s.now ∧
    (runFailed s n).obj (K.tileCalFails n) = satAdd 32 (s.obj (K.tileCalFails n)) 1 ∧
    (runFailed s n).obj (K.eventCount (256 + n)) = satAdd 32 (s.obj (K.eventCount (256 + n))) 1 ∧
    (runFailed s n).obj K.calLastFail = min 256 (s.obj K.calLastFail + 1) := by
  have hn256 : n < 256 := hn.trans_le (tileCount_le _)
  generalize hcounted : (lastShown s n).count (K.tileCalFails n) 32 1 = c
  have hsource : c.hasSource (256 + n) = true := by
    refine hasSource_tile ?_
    rw [← hcounted, count_variant, lastShown, set_variant]
    exact hn
  have hfails : c.obj (K.tileCalFails n) = satAdd 32 (s.obj (K.tileCalFails n)) 1 := by
    have hshown : (lastShown s n).obj (K.tileCalFails n) = s.obj (K.tileCalFails n) := obj_set_ne _ _ (key_ne (by decide) (by decide) (.inr (by decide)))
    rw [← hcounted, obj_count_self, hshown]
  have hother {k : Nat} (h : k ≠ K.tileCalFails n) (h' : k ≠ K.tileCalLast n) : c.obj k = s.obj k := by
    rw [← hcounted]
    exact (obj_count_ne _ _ _ h).trans (obj_set_ne _ _ h')
  have hlast : c.obj (K.tileCalLast n) = s.now := by
    rw [← hcounted]
    exact (obj_count_ne _ _ _ (key_ne (by decide) (by decide) (.inr (by decide)))).trans (obj_set_self ..)
  have hcount : c.obj (K.eventCount (256 + n)) = s.obj (K.eventCount (256 + n)) :=
    hother (key_ne (by decide) (by decide) (.inl (by omega))) (key_ne (by decide) (by decide) (.inr (by decide)))
  have hfail : c.obj K.calLastFail = s.obj K.calLastFail :=
    hother (key_ne (by decide) (by decide) (.inr (by decide))) (key_ne (by decide) (by decide) (.inr (by decide)))
  have hraised : (c.raiseTile n 1).obj K.calLastFail = c.obj K.calLastFail := obj_raise_of_after _ _ (by omega) (by decide)
  have hrow {k : Nat} (hk : k < 256) : (runFailed s n).obj (key (0x300E + 16 * n) k) = c.obj (key (0x300E + 16 * n) k) := by
    rw [runFailed, hcounted]
    exact (obj_set_ne _ _ (key_ne hk (by decide) (.inl (by omega)))).trans
      (obj_raise_of_lt _ _ _ (tileKey_low (i := 14) (by decide) hk hn256))
  refine ⟨(hrow (by decide)).trans hlast, (hrow (by decide)).trans hfails, ?_, ?_⟩
  · rw [runFailed, hcounted, ← hcount]
    exact (obj_set_ne _ _ (key_ne (by decide) (by decide) (.inr (by decide)))).trans (raise_spec c (256 + n) _ hsource).2.1
  · rw [runFailed, hcounted, commandCounted, obj_set_self, hraised, hfail]

/-- What the end of run 2 shows of the one tile that calibrates. -/
theorem judgeCal_shows (hn : n < tileCount s.variant) (hmode : s.adcMode n ≠ 3) (hkind : (s.tile n).cal.kind = 1)
    (hpurpose : (s.tile n).cal.purpose = 0) (htiles : s.calTiles = [n]) (hswaps : s.swaps = []) (hctxs : s.tileCtxs n = []) (hu : u = s.judgeCal n a b) :
    (u.tile n).cal.kind = 0 ∧ u.obj (K.tileCalResult n) = (if runsHold s n a b then 3 else 4) ∧ u.obj (K.tileCalLast n) = s.now ∧
      (if runsHold s n a b then u.obj (K.tileCalValid n) = 1 ∧ u.obj (K.tileCalPasses n) = satAdd 32 (s.obj (K.tileCalPasses n)) 1 ∧
          (u.tile n).danaNew = meanDana a.dana b.dana ∧ u.obj K.calLastPass = min 256 (s.obj K.calLastPass + 1)
        else u.obj (K.tileCalFails n) = satAdd 32 (s.obj (K.tileCalFails n)) 1 ∧
          u.obj (K.eventCount (256 + n)) = satAdd 32 (s.obj (K.eventCount (256 + n))) 1 ∧
          u.obj K.calLastFail = min 256 (s.obj K.calLastFail + 1)) := by
  have hn256 : n < 256 := hn.trans_le (tileCount_le _)
  rw [judgeCal_eq hmode hpurpose] at hu
  subst hu
  split
  · have hjudging := judging_runPassed (a := a) (b := b) hn256 s
    have hended := judged_ends hjudging 3 hn256 hmode hkind hswaps hctxs htiles
    obtain ⟨hlast, hvalid, hpasses, hpass, hdana⟩ := runPassed_shows (a := a) (b := b) hn256 s
    rw [passEnded_idle (hended.swaps.trans (hjudging.swaps.trans hswaps)), hended.tile]
    exact ⟨rfl, hended.result, (hended.row 3 (by decide) (by decide)).trans hlast, (hended.row 2 (by decide) (by decide)).trans hvalid,
      (hended.row 4 (by decide) (by decide)).trans hpasses, hdana, hended.pass.trans hpass⟩
  · have hjudging := judging_runFailed hn256 s
    have hended := judged_ends hjudging 4 hn256 hmode hkind hswaps hctxs htiles
    obtain ⟨hlast, hfails, hcount, hfail⟩ := runFailed_shows hn
    have hkept := judged_calFails ((runFailed s n).endCal n 4) n
    have hrow {k : Nat} (hk : k = 1 ∨ k = 3 ∨ k = 5) : JudgedKey (key (0x300E + 16 * n) k) := by
      refine .inl ?_
      simp only [key]
      omega
    have hevent : JudgedKey (K.eventCount (256 + n)) := by
      refine .inr (.inl ?_)
      simp only [K.eventCount, key]
      omega
    rw [failEnded_idle (hended.swaps.trans (hjudging.swaps.trans hswaps)), hkept.cal, hended.tile]
    exact ⟨rfl, (hkept.obj _ (hrow (.inl rfl))).trans hended.result,
      (hkept.obj _ (hrow (.inr (.inl rfl)))).trans ((hended.row 3 (by decide) (by decide)).trans hlast),
      (hkept.obj _ (hrow (.inr (.inr rfl)))).trans ((hended.row 5 (by decide) (by decide)).trans hfails),
      (hkept.obj _ hevent).trans (hended.count.trans hcount), (hkept.obj _ (.inr (.inr rfl))).trans (hended.fail.trans hfail)⟩

theorem calRunEnd_second (hmode : s.adcMode n ≠ 3) (hkind : (s.tile n).cal.kind = 1) (hstep : (s.tile n).cal.step = 3)
    (hfirst : (s.tile n).cal.first = some a) : xCalRunEnd n b s = s.judgeCal n a b := by
  simp only [xCalRunEnd, calLeader_single hmode, hkind, hstep, hfirst, ne_eq, not_true_eq_false, if_false, if_true, show ¬ (3 = 2) by decide]

theorem calRunSecond_completes (hheld : s.held = false) (hn : n < tileCount s.variant) (hmode : s.adcMode n ≠ 3)
    (hkind : (s.tile n).cal.kind = 1) (hstep : (s.tile n).cal.step = 3) (hfirst : (s.tile n).cal.first = some a)
    (hpurpose : (s.tile n).cal.purpose = 0) (htiles : s.calTiles = [n]) (hswaps : s.swaps = []) (hctxs : s.tileCtxs n = []) :
    Completes (.calRunEnd t n b) s
      (fun u => (u.tile n).cal.kind = 0 ∧ u.obj (K.tileCalResult n) = (if runsHold s n a b then 3 else 4) ∧ u.obj (K.tileCalLast n) = (s.begin_ t).now ∧
        (if runsHold s n a b then u.obj (K.tileCalValid n) = 1 ∧ u.obj (K.tileCalPasses n) = satAdd 32 (s.obj (K.tileCalPasses n)) 1 ∧
            (u.tile n).danaNew = meanDana a.dana b.dana ∧ u.obj K.calLastPass = min 256 (s.obj K.calLastPass + 1)
          else u.obj (K.tileCalFails n) = satAdd 32 (s.obj (K.tileCalFails n)) 1 ∧
            u.obj (K.eventCount (256 + n)) = satAdd 32 (s.obj (K.eventCount (256 + n))) 1 ∧
            u.obj K.calLastFail = min 256 (s.obj K.calLastFail + 1)))
      (fun _ => True) :=
  completes_eventOf (exec_calRunEnd ..) (by simpa using hn) hheld
    (judgeCal_shows (s := s.begin_ t) hn hmode hkind hpurpose htiles hswaps hctxs (calRunEnd_second (s := s.begin_ t) hmode hkind hstep hfirst))

end

/-- Settles O44: a command tells every tile in its scope, and the filling of places only moves what is queued to RUNNING; the trace and the two
runs end in what they show. -/
theorem calibrationsRun : Obligations.CalibrationsRun := by
  refine ⟨fun s q l kind i _ hi h => ?_, fun _ _ _ hheld h => ladder_completes hheld h, fun _ _ _ h hstate htiles => idleLadder_sets h hstate htiles,
    fun _ _ hheld hstate hwait => dropped_completes hheld hstate hwait, fun _ _ _ _ h hn hmode hkind hstep => calRunFirst_sets h hn hmode hkind hstep,
    fun _ _ _ _ _ hheld hn hmode hkind hstep hfirst hpurpose htiles hswaps hctxs =>
      calRunSecond_completes hheld hn hmode hkind hstep hfirst hpurpose htiles hswaps hctxs⟩
  rcases hi with ⟨rfl, rfl⟩ | ⟨rfl, rfl⟩ | ⟨rfl, rfl⟩
  · exact calCommand_completes rfl (exec_calInternal q s) (by decide) h
  · exact calCommand_completes rfl (exec_calDark q s) (by decide) h
  · exact calCommand_completes rfl (exec_calFlat q s) (by decide) h

end Sys2Proof.Proofs
end

section
/-! # A line trigger while a written pitch waits (R48, R169)

The trigger takes the pitch that waits into force, at its boundary: a value in force of a staged object moves with the target. -/

set_option Elab.async false

namespace Sys2Proof.Proofs

open Sys2Proof Sys2Proof.Machine Sys2Proof.Laws

/-- A generator that aims at an instant. -/
def aimingPitch : Pitch := { Pitch.none_ with up := 65536000, down := -65536000, aim := some (0, false) }

/-- A device in RUN without a context, whose generator 0 is ON at an encoder that counts, while a pitch written after the one in force waits. -/
def pitchWaits : State := { ((bootedInRun.poke (K.encStatus 0) 2).poke (K.pitchStatus 0) 2).poke (K.pitchEncoder 0) 0 with
  pitches := [(0, aimingPitch)], inForce := [(K.pitchPitch 0, 65536000)] }

/-- What the trigger leaves, before the account of how the command ends. -/
abbrev lineFired : State := xLineTriggerAll 0 (pitchWaits.begin_ 0)

theorem lineFired_next : exec (.lineTrigger 0 0) pitchWaits = .next (pitchWaits.finish lineFired) :=
  (exec_lineTrigger ..).trans (eventOf_next _ _ _ _ rfl rfl)

theorem lineFired_inForce : (pitchWaits.finish lineFired).inForce = [] := by
  have hend : lineFired.inForce = [] := by decide +kernel
  exact (same_finish _ _ (by decide +kernel) (by decide +kernel)).inForce.trans hend

/-- Refutes O31: its clause on a trigger that bounds no line and restarts no tile has every value in force stand, and the trigger of `pitchWaits`
takes the pitch that waits into force. -/
theorem not_lineTriggersFire : ¬ Obligations.LineTriggersFire := by
  unfold Obligations.LineTriggersFire
  intro hfires
  obtain ⟨hclauses, -⟩ := hfires pitchWaits 0 0 0 false (.lineTrigger 0 0) ⟨by decide +kernel, by decide +kernel⟩ (by decide)
    (by decide +kernel) (by decide +kernel) (.inl (by decide +kernel)) (by decide +kernel)
  obtain ⟨-, -, hquiet⟩ := hclauses (by decide +kernel)
  obtain ⟨u, hu, -, -, hframe⟩ := hquiet rfl (by decide +kernel) (by decide +kernel) (by decide +kernel)
  obtain ⟨-, -, -, hforce⟩ := hframe
  have hsame : pitchWaits.finish lineFired = pitchWaits.finish u := Host.Outcome.next.inj (lineFired_next.symm.trans hu)
  have hempty : (pitchWaits.finish u).inForce = [] := by rw [← hsame, lineFired_inForce]
  exact absurd (hforce.symm.trans hempty) (by decide)

end Sys2Proof.Proofs
end

section
/-! # Fragments that leave and wait (R180, R181)

What the launch of a fragment sends and leaves of its lane, and what an offer to some lanes sends on each. -/

set_option Elab.async false

namespace Sys2Proof.Proofs

open Sys2Proof Sys2Proof.Machine Sys2Proof.Laws

variable {s u : State} {lane i j : Nat} {w : Waiting}

/-! ## Lanes -/

@[simp] theorem rallyLane_setRallyLane_self (s : State) (lane : Nat) (x : RallyLane) : (s.setRallyLane lane x).rallyLane lane = x :=
  get_put_self ..

theorem rallyLane_setRallyLane_ne (s : State) (x : RallyLane) (h : i ≠ lane) : (s.setRallyLane lane x).rallyLane i = s.rallyLane i :=
  get_put_ne _ _ x h

theorem roleOfLane_congr (h : u.obj (K.laneRole i) = s.obj (K.laneRole i)) : u.roleOfLane i = s.roleOfLane i := h

theorem mayCarry_congr (hobj : ∀ k, u.obj k = s.obj k) (lane type : Nat) : u.mayCarry lane type = s.mayCarry lane type := by
  simp only [State.mayCarry, State.standby, State.roleOfLane, State.mode, hobj]

theorem upLanes_congr (hvariant : u.variant = s.variant) (hobj : ∀ k, u.obj k = s.obj k) : u.upLanes = s.upLanes := by
  have hup : u.rallyUp = s.rallyUp := by
    funext i
    simp only [State.rallyUp, hobj]
  have hrole : u.roleOfLane = s.roleOfLane := by
    funext i
    simp only [State.roleOfLane, hobj]
  rw [State.upLanes, State.rallyLanes, hvariant, hup, hrole, State.upLanes, State.rallyLanes]

theorem upLanes_nodup (s : State) : s.upLanes.Nodup := (List.nodup_range.filter _).filter _

/-! ## One lane -/

/-- What leaves the device for a fragment other than TIME: its CONTROL message, or its payload. -/
def message (lane h : Nat) (w : Waiting) : Emission :=
  match w.control with
  | some c => .control lane h c
  | none => .fragment lane h w.payload

/-- A lane once a fragment of a type has left on it. -/
def inFlight (x : RallyLane) (type : Nat) : RallyLane :=
  { x with seqs := x.seqs.set (type - 1) ((x.seqs.getD (type - 1) 0 + 1) % 65536), busy := true }

/-- The header of a fragment that leaves with a payload. -/
def headerOf (x : RallyLane) (w : Waiting) (length : Nat) : Nat :=
  fragHeader w.type w.first w.last w.hop w.channel (x.seqs.getD (w.type - 1) 0) length

theorem launch_adds (s : State) (lane : Nat) (w : Waiting) : ∃ e, (s.launch lane w).emitted = s.emitted ++ [e] := by
  unfold State.launch
  extract_lets r v d payload
  cases w.control with
  | some c => exact ⟨_, rfl⟩
  | none => exact ⟨_, rfl⟩

theorem launch_control {c : Control} (s : State) (lane : Nat) (hc : w.control = some c) :
    ∃ h, (s.launch lane w).emitted = s.emitted ++ [.control lane h c] := by
  unfold State.launch
  rw [hc]
  exact ⟨_, rfl⟩

/-- What a fragment without a CONTROL message carries as it leaves. -/
def carried (s : State) (w : Waiting) : List Byte := if w.type = fTime then toLE 12 s.now ++ w.payload.drop 12 else w.payload

theorem launch_carried (s : State) (lane : Nat) (hc : w.control = none) :
    (s.launch lane w).emitted = s.emitted ++ [.fragment lane (headerOf (s.rallyLane lane) w (carried s w).length) (carried s w)] := by
  unfold State.launch
  rw [hc]
  rfl

theorem launch_fragment (s : State) (lane : Nat) (hc : w.control = none) (ht : w.type ≠ 2) :
    (s.launch lane w).emitted = s.emitted ++ [.fragment lane (headerOf (s.rallyLane lane) w w.payload.length) w.payload] := by
  have hcarried : carried s w = w.payload := if_neg ht
  rw [launch_carried s lane hc, hcarried]

theorem launch_message (s : State) (lane : Nat) (ht : w.type ≠ 2) : ∃ h, (s.launch lane w).emitted = s.emitted ++ [message lane h w] := by
  unfold message
  cases hc : w.control with
  | some c => exact launch_control s lane hc
  | none => exact ⟨_, launch_fragment s lane hc ht⟩

theorem nextSeq_state (s : State) (lane type : Nat) : (s.nextSeq lane type).2 = s.setRallyLane lane (inFlight (s.rallyLane lane) type) := rfl

theorem launch_rally (s : State) (lane : Nat) (w : Waiting) :
    (s.launch lane w).rally = (s.setRallyLane lane (inFlight (s.rallyLane lane) w.type)).rally := by
  unfold State.launch
  extract_lets r v
  have hv : v = s.setRallyLane lane (inFlight (s.rallyLane lane) w.type) := nextSeq_state ..
  rw [← hv]
  clear_value v
  cases w.control with
  | some c => rfl
  | none => rfl

@[simp] theorem launch_rallyLane_self (s : State) (lane : Nat) (w : Waiting) :
    (s.launch lane w).rallyLane lane = inFlight (s.rallyLane lane) w.type := by
  simp only [State.rallyLane, launch_rally]
  exact rallyLane_setRallyLane_self ..

theorem launch_rallyLane_ne (s : State) (w : Waiting) (h : i ≠ lane) : (s.launch lane w).rallyLane i = s.rallyLane i := by
  simp only [State.rallyLane, launch_rally]
  exact rallyLane_setRallyLane_ne _ _ h

theorem puts_launch (s : State) (lane : Nat) (w : Waiting) : Puts [] (s.launch lane w) s := by
  unfold State.launch
  extract_lets r v
  have hv : Puts [] v s := puts_of_dict rfl rfl rfl rfl rfl rfl
  clear_value v
  cases w.control with
  | some c => exact hv.same (puts_of_dict rfl rfl rfl rfl rfl rfl)
  | none => exact hv.same (puts_of_dict rfl rfl rfl rfl rfl rfl)

theorem launch_pitches (s : State) (lane : Nat) (w : Waiting) : (s.launch lane w).pitches = s.pitches := by
  unfold State.launch
  extract_lets r v d payload
  split <;> rfl

/-! ## An offer -/

section
variable (s : State) (lane : Nat) (w : Waiting)

theorem offer_leaves (hcarry : s.mayCarry lane w.type = true) (hidle : (s.rallyLane lane).busy = false) :
    s.offerFragment lane w = s.launch lane w := by
  unfold State.offerFragment
  simp only [hcarry, hidle, Bool.not_true, Bool.false_eq_true, if_false]

theorem offer_waits (hcarry : s.mayCarry lane w.type = true) (hbusy : (s.rallyLane lane).busy = true) :
    s.offerFragment lane w = s.setRallyLane lane { s.rallyLane lane with waiting := (s.rallyLane lane).waiting ++ [w] } := by
  unfold State.offerFragment
  simp only [hcarry, hbusy, Bool.not_true, Bool.false_eq_true, if_false, if_true]

/-- What an offer may do. -/
theorem offer_cases : s.offerFragment lane w = s ∨ s.offerFragment lane w = s.launch lane w ∨
    s.offerFragment lane w = s.setRallyLane lane { s.rallyLane lane with waiting := (s.rallyLane lane).waiting ++ [w] } := by
  cases hcarry : s.mayCarry lane w.type with
  | false =>
    left
    unfold State.offerFragment
    simp only [hcarry, Bool.not_false, if_true]
  | true =>
    cases hbusy : (s.rallyLane lane).busy with
    | false => exact .inr (.inl (offer_leaves s lane w hcarry hbusy))
    | true => exact .inr (.inr (offer_waits s lane w hcarry hbusy))

theorem puts_offer : Puts [] (s.offerFragment lane w) s := by
  obtain h | h | h := offer_cases s lane w
  · rw [h]
    exact puts_of_dict rfl rfl rfl rfl rfl rfl
  · rw [h]
    exact puts_launch ..
  · rw [h]
    exact puts_of_dict rfl rfl rfl rfl rfl rfl

theorem offer_pitches : (s.offerFragment lane w).pitches = s.pitches := by
  obtain h | h | h := offer_cases s lane w
  · rw [h]
  · rw [h, launch_pitches]
  · rw [h]
    rfl

theorem offer_rallyLane_ne (h : i ≠ lane) : (s.offerFragment lane w).rallyLane i = s.rallyLane i := by
  obtain he | he | he := offer_cases s lane w
  · rw [he]
  · rw [he, launch_rallyLane_ne s w h]
  · rw [he, rallyLane_setRallyLane_ne s _ h]

theorem offer_emitted {e : Emission} (h : e ∈ s.emitted) : e ∈ (s.offerFragment lane w).emitted := by
  obtain he | he | he := offer_cases s lane w
  · rwa [he]
  · obtain ⟨_, hl⟩ := launch_adds s lane w
    rw [he, hl]
    exact List.mem_append_left _ h
  · rwa [he]

end

/-! ## Several lanes -/

/-- A fragment is offered to some lanes. -/
def offerAll (w : Waiting) (ls : List Nat) (s : State) : State := ls.foldl (fun st i => st.offerFragment i w) s

theorem puts_offerAll (w : Waiting) (ls : List Nat) (s : State) : Puts [] (offerAll w ls s) s := by
  induction ls generalizing s with
  | nil => exact puts_of_dict rfl rfl rfl rfl rfl rfl
  | cons j ls ih => exact (puts_offer s j w).same (ih (s.offerFragment j w))

theorem obj_of_puts (h : Puts [] u s) (k : Nat) : u.obj k = s.obj k := h.obj k List.not_mem_nil

theorem offerAll_pitches (w : Waiting) (ls : List Nat) (s : State) : (offerAll w ls s).pitches = s.pitches := by
  induction ls generalizing s with
  | nil => rfl
  | cons j ls ih => exact (ih (s.offerFragment j w)).trans (offer_pitches s j w)

theorem offerAll_emitted {ls : List Nat} {e : Emission} (h : e ∈ s.emitted) : e ∈ (offerAll w ls s).emitted := by
  induction ls generalizing s with
  | nil => exact h
  | cons j ls ih => exact ih (offer_emitted s j w h)

/-- A lane among them that is idle sends the fragment. -/
theorem offerAll_sends {ls : List Nat} (hi : i ∈ ls) (hcarry : s.mayCarry i w.type = true) (hidle : (s.rallyLane i).busy = false)
    (ht : w.type ≠ 2) : ∃ h, message i h w ∈ (offerAll w ls s).emitted := by
  induction ls generalizing s with
  | nil => exact absurd hi List.not_mem_nil
  | cons j ls ih =>
    by_cases hij : i = j
    · subst hij
      obtain ⟨h, hl⟩ := launch_message s i ht
      have hsent : (s.offerFragment i w).emitted = s.emitted ++ [message i h w] := by rw [offer_leaves s i w hcarry hidle, hl]
      exact ⟨h, offerAll_emitted (ls := ls) (hsent ▸ List.mem_append_right _ (List.mem_singleton_self _))⟩
    · exact ih (s := s.offerFragment j w) ((List.mem_cons.1 hi).resolve_left hij)
        ((mayCarry_congr (obj_of_puts (puts_offer s j w)) i _).trans hcarry) (by rw [offer_rallyLane_ne s j w hij, hidle])

theorem offerAll_rallyLane_ne {ls : List Nat} (hi : i ∉ ls) : (offerAll w ls s).rallyLane i = s.rallyLane i := by
  induction ls generalizing s with
  | nil => rfl
  | cons j ls ih =>
    have hij : i ≠ j := fun h => hi (h ▸ List.mem_cons_self ..)
    exact (ih fun h => hi (List.mem_cons_of_mem _ h)).trans (offer_rallyLane_ne s j w hij)

/-- One of them with a fragment in flight has it wait. -/
theorem offerAll_waits {ls : List Nat} (hnodup : ls.Nodup) (hi : i ∈ ls) (hcarry : s.mayCarry i w.type = true)
    (hbusy : (s.rallyLane i).busy = true) : ((offerAll w ls s).rallyLane i).waiting = (s.rallyLane i).waiting ++ [w] := by
  induction ls generalizing s with
  | nil => exact absurd hi List.not_mem_nil
  | cons j ls ih =>
    obtain ⟨hj, hls⟩ := List.nodup_cons.1 hnodup
    by_cases hij : i = j
    · subst hij
      have hrest : (offerAll w (i :: ls) s).rallyLane i = (s.offerFragment i w).rallyLane i :=
        offerAll_rallyLane_ne (s := s.offerFragment i w) hj
      rw [hrest, offer_waits s i w hcarry hbusy, rallyLane_setRallyLane_self]
    · have h := ih (s := s.offerFragment j w) hls ((List.mem_cons.1 hi).resolve_left hij)
        ((mayCarry_congr (obj_of_puts (puts_offer s j w)) i _).trans hcarry) (by rw [offer_rallyLane_ne s j w hij, hbusy])
      rwa [offer_rallyLane_ne s j w hij] at h

theorem flood_eq (s : State) (but type hop channel : Nat) (payload : List Byte) : s.flood but type hop channel payload =
    offerAll ⟨type, true, true, hop, channel, payload, none⟩ (s.upLanes.filter (fun i => i != but)) s := rfl

theorem floodControl_eq (s : State) (but hop : Nat) (c : Control) : s.floodControl but hop c =
    offerAll ⟨fControl, true, true, hop, 0, [], some c⟩ (s.upLanes.filter (fun i => i != but)) s := rfl

end Sys2Proof.Proofs
end

section
/-! # What the roles of a formation change (R179, R186, R194)

A change of roles keeps the members left, adds to what leaves, and writes a few objects; a member that is an island stays one. -/

set_option Elab.async false

namespace Sys2Proof.Proofs

open Sys2Proof Sys2Proof.Machine Sys2Proof.Laws

variable {ks ls : List Nat} {s u v : State}

/-! ## Steps of a change of roles -/

/-- State u is state s but for objects of a list, for what has left since, and for what no role rests on. -/
structure RoleStep (ks : List Nat) (u s : State) : Prop where
  variant : u.variant = s.variant
  inForce : u.inForce = s.inForce
  members : u.rally.members = s.rally.members
  agreed : u.rally.agreed = s.rally.agreed
  emitted : ∀ e ∈ s.emitted, e ∈ u.emitted
  obj : ∀ k, k ∉ ks → u.obj k = s.obj k

theorem RoleStep.refl (ks : List Nat) (s : State) : RoleStep ks s s := ⟨rfl, rfl, rfl, rfl, fun _ h => h, fun _ _ => rfl⟩

theorem RoleStep.trans (h : RoleStep ks u v) (g : RoleStep ks v s) : RoleStep ks u s :=
  ⟨h.variant.trans g.variant, h.inForce.trans g.inForce, h.members.trans g.members, h.agreed.trans g.agreed,
    fun e he => h.emitted e (g.emitted e he),
    fun k hk => (h.obj k hk).trans (g.obj k hk)⟩

theorem RoleStep.mono (h : RoleStep ks u s) (hks : ∀ k ∈ ks, k ∈ ls) : RoleStep ls u s :=
  ⟨h.variant, h.inForce, h.members, h.agreed, h.emitted, fun k hk => h.obj k fun hm => hk (hks k hm)⟩

theorem RoleStep.ite {c : Prop} [Decidable c] (h : RoleStep ks u s) (g : RoleStep ks v s) : RoleStep ks (if c then u else v) s := by
  split
  · exact h
  · exact g

theorem roleStep_of_dict (hv : u.variant = s.variant) (hd : u.dict = s.dict) (hi : u.inForce = s.inForce)
    (hr : u.rally = s.rally) (he : u.emitted = s.emitted) : RoleStep ks u s :=
  ⟨hv, hi, by rw [hr], by rw [hr], fun _ h => he ▸ h, fun _ _ => by simp only [State.obj, hv, hd]⟩

theorem roleStep_set (s : State) {k : Nat} (x : Nat) (hk : k ∈ ks) : RoleStep ks (s.set k x) s :=
  ⟨set_variant .., set_inForce .., by rw [set_rally], by rw [set_rally], fun _ h => by rwa [set_emitted], fun _ hi => obj_set_ne _ _ fun e => hi (e ▸ hk)⟩

theorem roleStep_raise (s : State) (n d : Nat) (hn : ∀ k ∈ evKeys n, k ∈ ks) : RoleStep ks (s.raise n d) s :=
  ⟨raise_variant .., raise_inForce .., by rw [raise_rally], by rw [raise_rally], fun _ h => by rwa [raise_emitted], (fun k hk => obj_raise_ne s n d k fun he =>
    hk (hn k (by simpa only [evKeys, eventKey, List.mem_cons, List.not_mem_nil, or_false] using he)))⟩

theorem launch_members (s : State) (lane : Nat) (w : Waiting) : (s.launch lane w).rally.members = s.rally.members := by
  rw [launch_rally]
  rfl

theorem launch_agreed (s : State) (lane : Nat) (w : Waiting) : (s.launch lane w).rally.agreed = s.rally.agreed := by
  rw [launch_rally]
  rfl

theorem roleStep_offer (s : State) (lane : Nat) (w : Waiting) : RoleStep ks (s.offerFragment lane w) s := by
  have h := puts_offer s lane w
  have hrally : (s.offerFragment lane w).rally.members = s.rally.members ∧ (s.offerFragment lane w).rally.agreed = s.rally.agreed := by
    obtain he | he | he := offer_cases s lane w
    · rw [he]
      exact ⟨rfl, rfl⟩
    · rw [he]
      exact ⟨launch_members .., launch_agreed ..⟩
    · rw [he]
      exact ⟨rfl, rfl⟩
  exact ⟨h.variant, h.inForce, hrally.1, hrally.2, fun e => offer_emitted s lane w, fun k _ => obj_of_puts h k⟩

theorem roleStep_offerAll (w : Waiting) (is : List Nat) (s : State) : RoleStep ks (offerAll w is s) s := by
  induction is generalizing s with
  | nil => exact .refl ks s
  | cons i is ih => exact (ih _).trans (roleStep_offer s i w)

theorem roleStep_floodControl (s : State) (but hop : Nat) (c : Control) : RoleStep ks (s.floodControl but hop c) s := by
  rw [floodControl_eq]
  exact roleStep_offerAll ..

/-- The objects that a change of the member's state writes. -/
def stateKeys : List Nat := [K.rallyState, K.rallyFlags]

/-- The objects that follow from a change of role: the members shown, the flags and the source of time. -/
def shownKeys : List Nat := [K.rallyFlags, K.rallyMembers, K.rallyDMax, K.timeSource, K.timeState, K.timePtpMaster, K.timePtpPortState] ++ evKeys 750

/-- The objects that show a member's place, and those of the event of a member that is lost. -/
def placeKeys : List Nat := [K.rallyCaptain, K.rallyLead, K.rallyRole, K.rallyUpstream, K.rallyHops, K.rallyStatic] ++ evKeys 752

/-- The objects that a change of roles writes. -/
def roleKeys : List Nat := placeKeys ++ stateKeys ++ shownKeys

/-- A change of state but to LINKING. -/
theorem roleStep_setRally (s : State) {x : Nat} (hx : x ≠ rLinking) (hk : ∀ k ∈ stateKeys, k ∈ ks) : RoleStep ks (s.setRally x) s := by
  unfold State.setRally
  rw [if_neg hx]
  exact (roleStep_set _ _ (hk _ (by decide))).trans (roleStep_set _ _ (hk _ (by decide)))

theorem setRally_state (s : State) (x : Nat) : (s.setRally x).rallyState = x := by
  have hset : ((s.set K.rallyState x).set K.rallyFlags (withBit (s.obj K.rallyFlags) 3 (x == rIsland))).obj K.rallyState = x := by
    rw [obj_set_ne _ _ (by decide), obj_set_self]
  unfold State.setRally State.rallyState
  split
  · exact hset
  · exact hset

theorem roleStep_showMembers (s : State) (hk : ∀ k ∈ shownKeys, k ∈ ks) : RoleStep ks s.showMembers s :=
  (roleStep_set _ _ (hk _ (by decide))).trans ((roleStep_set _ _ (hk _ (by decide))).trans (roleStep_set _ _ (hk _ (by decide))))

theorem roleStep_setTimeState (s : State) (x : Nat) (hk : ∀ k ∈ shownKeys, k ∈ ks) : RoleStep ks (s.setTimeState x) s := by
  unfold State.setTimeState
  extract_lets old t
  have ht : RoleStep ks t s := roleStep_set _ _ (hk _ (by decide))
  exact .ite ((roleStep_raise _ _ _ fun k hm => hk k (List.mem_append_right _ hm)).trans ht) ht

theorem roleStep_unlocked (s : State) : RoleStep ks (unlocked s) s := roleStep_of_dict rfl rfl rfl rfl rfl

theorem roleStep_loseRally (s : State) (hk : ∀ k ∈ shownKeys, k ∈ ks) : RoleStep ks s.loseRally s := by
  have hlost (x : Nat) : RoleStep ks ((unlocked (s.set K.timeSource 0)).setTimeState x) s :=
    (roleStep_setTimeState _ _ hk).trans ((roleStep_unlocked _).trans (roleStep_set _ _ (hk _ (by decide))))
  unfold State.loseRally
  exact .ite (.refl ks s) (hlost _)

theorem roleStep_losePtp (s : State) (hk : ∀ k ∈ shownKeys, k ∈ ks) : RoleStep ks s.losePtp s := by
  have hlost (x : Nat) : RoleStep ks ((masterLost s).setTimeState x) s :=
    (roleStep_setTimeState _ _ hk).trans ((roleStep_unlocked _).trans ((roleStep_set _ _ (hk _ (by decide))).trans
      ((roleStep_set _ _ (hk _ (by decide))).trans (roleStep_set _ _ (hk _ (by decide))))))
  unfold State.losePtp
  exact .ite (.refl ks s) (hlost _)

theorem roleStep_timeOfRole (s : State) (hk : ∀ k ∈ shownKeys, k ∈ ks) : RoleStep ks s.timeOfRole s :=
  .ite (.ite ((roleStep_set _ _ (hk _ (by decide))).trans (roleStep_losePtp s hk)) (.refl ks s)) (roleStep_loseRally s hk)

/-! ## The parts of a change of roles -/

section
variable (s : State) (cap lead role : Nat) (rises : Bool)

/-- The roles as they are shown. -/
def rolesShown : State :=
  let t := ((s.set K.rallyCaptain cap).set K.rallyLead lead).set K.rallyRole role
  if role = 2 then ((t.set K.rallyUpstream 0xFF).set K.rallyHops 0).set K.rallyStatic 0 else t

/-- A member's span becomes an island, or has its trunk again. -/
def islandStep : State :=
  if s.isIsland && [rAligning, rAligned, rHealing].contains s.rallyState then s.setRally rIsland
  else if !s.isIsland && s.rallyState = rIsland then (s.setRally rLinking).floodControl 0xFF 0 (.join (s.setRally rLinking).selfMember (s.setRally rLinking).ownOffer)
  else s

/-- The lead captain is aligned, unless its span is an island. -/
def alignedStep : State := if role = 2 && !s.isIsland && (s.rallyState = rAligning || s.rallyState = rHealing) then s.setRally rAligned else s

/-- What is told and shown of the roles. -/
def toldRoles : State :=
  let t := s.timeOfRole.showMembers
  if rises && t.rallyState ≠ rStandalone then t.floodControl 0xFF 0 (.captain t.memberId (role == 2)) else t

end

/-- The role that the captain and the lead give a member. -/
def roleFor (id cap lead : Nat) : Nat := if lead = id then 2 else if cap = id then 1 else 0

theorem updateRoles_eq (s : State) : s.updateRoles =
    let t := s.pruneMembers
    let role := roleFor t.memberId t.captainNow (t.leadNow t.captainNow)
    toldRoles (alignedStep (islandStep (rolesShown t t.captainNow (t.leadNow t.captainNow) role)) role) role (decide (t.obj K.rallyRole < role)) := rfl

/-! ## What an island rests on -/

/-- The objects that the adoption of a version writes. -/
def adoptKeys : List Nat := roleKeys ++ [K.rallyVersion, K.versionsRestricted] ++ evKeys 746

theorem roleKeys_adopt {k : Nat} (h : k ∈ roleKeys) : k ∈ adoptKeys := List.mem_append_left _ (List.mem_append_left _ h)

/-- A key between those of the formation's own objects and those of the events is none of these. -/
theorem not_adoptKey {k : Nat} (hlow : 0x160300 ≤ k) (hhigh : k < 0x700000) : k ∉ adoptKeys := by
  have hrange : ∀ k ∈ adoptKeys, k < 0x160300 ∨ 0x700000 ≤ k := by decide
  intro hm
  have := hrange k hm
  omega

section
variable (h : RoleStep adoptKeys u s)
include h

theorem RoleStep.laneRole {i : Nat} (hi : i < laneCount s.variant) : u.roleOfLane i = s.roleOfLane i :=
  h.obj _ (not_adoptKey (by simp only [K.laneRole, key]; omega) (by have := laneCount_le s.variant; simp only [K.laneRole, key]; omega))

theorem RoleStep.rallyUp {i : Nat} (hi : i < laneCount s.variant) : u.rallyUp i = s.rallyUp i := by
  have hkey : u.obj (K.rallyLaneState i) = s.obj (K.rallyLaneState i) :=
    h.obj _ (not_adoptKey (by simp only [K.rallyLaneState, key]; omega) (by have := laneCount_le s.variant; simp only [K.rallyLaneState, key]; omega))
  rw [State.rallyUp, hkey, State.rallyUp]

theorem RoleStep.upLanes : u.upLanes = s.upLanes := by
  unfold State.upLanes State.rallyLanes
  rw [h.variant]
  have hroles : (List.range (laneCount s.variant)).filter (fun i => u.roleOfLane i ≥ 2) =
      (List.range (laneCount s.variant)).filter (fun i => s.roleOfLane i ≥ 2) :=
    List.filter_congr fun i hi => by rw [h.laneRole (List.mem_range.1 hi)]
  rw [hroles]
  exact List.filter_congr fun i hi => h.rallyUp (List.mem_range.1 (List.mem_of_mem_filter hi))

theorem RoleStep.memberId : u.memberId = s.memberId := h.obj _ (by decide)

theorem RoleStep.spans : u.force K.boardSpans = s.force K.boardSpans := by
  rw [State.force, h.inForce, h.obj _ (by decide), State.force]

omit h in
theorem lane_of_upLanes {i : Nat} (hi : i ∈ s.upLanes) : i < laneCount s.variant :=
  List.mem_range.1 (List.mem_of_mem_filter (List.mem_of_mem_filter hi))

theorem RoleStep.links : u.links = s.links := by
  have hpeer : u.upLanes.map (fun i => u.obj (K.rallyLanePeer i)) = s.upLanes.map (fun i => s.obj (K.rallyLanePeer i)) := by
    rw [h.upLanes]
    refine List.map_congr_left fun i hi => h.obj _ (not_adoptKey ?_ ?_)
    · simp only [K.rallyLanePeer, key]
      omega
    · have := laneCount_le s.variant
      have := lane_of_upLanes hi
      simp only [K.rallyLanePeer, key]
      omega
  rw [State.links, hpeer, State.links]

theorem RoleStep.trunk : u.selfMember.trunk = s.selfMember.trunk := by
  show (u.upLanes.any fun i => u.roleOfLane i == 4) = s.upLanes.any fun i => s.roleOfLane i == 4
  rw [h.upLanes]
  refine Bool.eq_iff_iff.2 ?_
  simp only [List.any_eq_true]
  exact exists_congr fun i => and_congr_right fun hi => by rw [h.laneRole (lane_of_upLanes hi)]

end

/-- The ids reached over links. -/
def reachedIds (s : State) : List Nat :=
  let others := s.rally.members.filter (fun m => m.id != s.memberId)
  if others.isEmpty then [] else reach others others.length s.links

theorem mem_known {m : RallyMember} : m ∈ s.known ↔
    m = s.selfMember ∨ (m ∈ s.rally.members ∧ m.id ≠ s.memberId ∧ m.id ∈ reachedIds s) := by
  have hknown : s.known = s.selfMember :: (s.rally.members.filter (fun m => m.id != s.memberId)).filter (fun m => (reachedIds s).contains m.id) := rfl
  rw [hknown, List.mem_cons, List.mem_filter, List.mem_filter, and_assoc, List.contains_iff_mem, bne_iff_ne]

theorem isIsland_iff : s.isIsland = true ↔
    1 < s.force K.boardSpans ∧ ∀ m ∈ s.known, m.id / 8 = s.memberId / 8 → m.trunk = false := by
  unfold State.isIsland State.candidates
  rw [Bool.and_eq_true, decide_eq_true_eq, List.isEmpty_iff, List.filter_eq_nil_iff]
  refine and_congr_right fun hspans => ?_
  have hnot : ¬ s.force K.boardSpans ≤ 1 := by omega
  simp only [List.mem_filter, beq_iff_eq, hnot, decide_false, Bool.false_or, Bool.not_eq_true, and_imp]

theorem selfMember_id (s : State) : s.selfMember.id = s.memberId := rfl

/-- A state with no more members than one that is an island is an island. -/
theorem isIsland_of_fewer (hself : u.selfMember.trunk = s.selfMember.trunk) (hid : u.memberId = s.memberId)
    (hspans : u.force K.boardSpans = s.force K.boardSpans)
    (hknown : ∀ m ∈ u.known, m ≠ u.selfMember → m ∈ s.known) (h : s.isIsland = true) : u.isIsland = true := by
  obtain ⟨hs, hall⟩ := isIsland_iff.1 h
  refine isIsland_iff.2 ⟨hspans ▸ hs, fun m hm hspan => ?_⟩
  by_cases hm' : m = u.selfMember
  · subst hm'
    rw [hself]
    exact hall _ (mem_known.2 (.inl rfl)) rfl
  · exact hall m (hknown m hm hm') (hid ▸ hspan)

theorem RoleStep.reachedIds (h : RoleStep adoptKeys u s) : reachedIds u = reachedIds s := by
  simp only [Proofs.reachedIds, h.members, h.memberId, h.links]

theorem RoleStep.mem_known {m : RallyMember} (h : RoleStep adoptKeys u s) (hself : m ≠ u.selfMember) (hm : m ∈ u.known) : m ∈ s.known := by
  obtain ⟨hin, hid, hids⟩ := (Proofs.mem_known.1 hm).resolve_left hself
  rw [h.members] at hin
  rw [h.memberId] at hid
  rw [h.reachedIds] at hids
  exact Proofs.mem_known.2 (.inr ⟨hin, hid, hids⟩)

/-- Writing the roles leaves an island an island. -/
theorem RoleStep.isIsland (h : RoleStep adoptKeys u s) (hs : s.isIsland = true) : u.isIsland = true :=
  isIsland_of_fewer h.trunk h.memberId h.spans (fun _ hm hself => h.mem_known hself hm) hs

/-- The members and the offers that are still reached. -/
def pruned (s : State) : State :=
  s.modRally (fun r => { r with members := r.members.filter (fun m => (s.known.map (·.id)).contains m.id),
                                offers := r.offers.filter (fun o => (s.known.map (·.id)).contains o.1) })

theorem pruneMembers_step (s : State) : RoleStep placeKeys s.pruneMembers (pruned s) := by
  suffices h : ∀ (gone : List RallyMember) (t : State), RoleStep placeKeys (gone.foldl (fun st m => st.raise 752 m.id) t) t from
    h _ (pruned s)
  intro gone
  induction gone with
  | nil => exact .refl _
  | cons m gone ih => exact fun t => (ih _).trans (roleStep_raise t 752 m.id fun k hk => List.mem_append_right _ hk)

theorem known_pruned {m : RallyMember} (hm : m ∈ (pruned s).known) (hself : m ≠ (pruned s).selfMember) : m ∈ s.known := by
  obtain ⟨hin, hid, -⟩ := (mem_known.1 hm).resolve_left hself
  have hin : m ∈ s.rally.members.filter (fun m => (s.known.map (·.id)).contains m.id) := hin
  have hid : m.id ≠ s.memberId := hid
  obtain ⟨hold, hknown⟩ := List.mem_filter.1 hin
  obtain ⟨m', hm', he⟩ := List.mem_map.1 (List.contains_iff_mem.1 hknown)
  obtain ⟨-, -, hids⟩ := (mem_known.1 hm').resolve_left fun h => hid (by rw [← he, h, selfMember_id])
  exact mem_known.2 (.inr ⟨hold, hid, he ▸ hids⟩)

theorem placeKeys_role : ∀ k ∈ placeKeys, k ∈ roleKeys := by decide

theorem placeKeys_adopt : ∀ k ∈ placeKeys, k ∈ adoptKeys := by decide

/-- Members that are lost leave an island an island. -/
theorem pruneMembers_isIsland (h : s.isIsland = true) : s.pruneMembers.isIsland = true :=
  ((pruneMembers_step s).mono placeKeys_adopt).isIsland
    (isIsland_of_fewer (u := pruned s) (s := s) rfl rfl rfl (fun _ hm hself => known_pruned hm hself) h)

/-! ## The parts, once each -/

theorem rolesShown_step (s : State) (cap lead role : Nat) : RoleStep placeKeys (rolesShown s cap lead role) s := by
  have hset : RoleStep placeKeys (((s.set K.rallyCaptain cap).set K.rallyLead lead).set K.rallyRole role) s :=
    (roleStep_set _ _ (by decide)).trans ((roleStep_set _ _ (by decide)).trans (roleStep_set _ _ (by decide)))
  exact .ite ((roleStep_set _ _ (by decide)).trans ((roleStep_set _ _ (by decide)).trans ((roleStep_set _ _ (by decide)).trans hset))) hset

theorem stateKeys_role : ∀ k ∈ stateKeys, k ∈ roleKeys := by decide

theorem shownKeys_role : ∀ k ∈ shownKeys, k ∈ roleKeys := by decide

theorem obj_floodControl_state (s : State) (but hop : Nat) (c : Control) : (s.floodControl but hop c).rallyState = s.rallyState :=
  obj_floodControl ..

/-- A member's span is or becomes an island, or it links anew. -/
theorem islandStep_cases (s : State) :
    (RoleStep roleKeys (islandStep s) s ∧ ((islandStep s).rallyState = rIsland → s.isIsland = true)) ∨
      (s.isIsland = false ∧ s.rallyState = rIsland ∧ (islandStep s).rallyState = rLinking) := by
  unfold islandStep
  split
  case isTrue h => exact .inl ⟨roleStep_setRally s (by decide) stateKeys_role, fun _ => (Bool.and_eq_true _ _ ▸ h).1⟩
  case isFalse =>
    split
    case isTrue h =>
      rw [Bool.and_eq_true, Bool.not_eq_true', decide_eq_true_eq] at h
      exact .inr ⟨h.1, h.2, (obj_floodControl_state ..).trans (setRally_state ..)⟩
    case isFalse h =>
      rw [Bool.and_eq_true, Bool.not_eq_true', decide_eq_true_eq] at h
      exact .inl ⟨.refl _ s, fun hstate => Bool.not_eq_false _ ▸ fun hi => h ⟨hi, hstate⟩⟩

theorem alignedStep_step (s : State) (role : Nat) : RoleStep roleKeys (alignedStep s role) s :=
  .ite (roleStep_setRally s (by decide) stateKeys_role) (.refl _ s)

theorem alignedStep_state (s : State) (role : Nat) (h : (alignedStep s role).rallyState = rIsland) : s.rallyState = rIsland := by
  unfold alignedStep at h
  split at h
  · rw [setRally_state] at h
    exact absurd h (by decide)
  · exact h

theorem toldRoles_step (s : State) (role : Nat) (rises : Bool) : RoleStep shownKeys (toldRoles s role rises) s := by
  have hshown : RoleStep shownKeys s.timeOfRole.showMembers s :=
    (roleStep_showMembers _ fun _ h => h).trans (roleStep_timeOfRole s fun _ h => h)
  exact .ite ((roleStep_floodControl ..).trans hshown) hshown

theorem toldRoles_state (s : State) (role : Nat) (rises : Bool) : (toldRoles s role rises).rallyState = s.rallyState :=
  (toldRoles_step s role rises).obj _ (by decide)

/-! ## The whole -/

/-- The state in which an update of the roles judges islands. -/
def rolesJudged (s : State) : State :=
  let t := s.pruneMembers
  rolesShown t t.captainNow (t.leadNow t.captainNow) (roleFor t.memberId t.captainNow (t.leadNow t.captainNow))

theorem updateRoles_parts (s : State) :
    ∃ role rises, s.updateRoles = toldRoles (alignedStep (islandStep (rolesJudged s)) role) role rises := ⟨_, _, updateRoles_eq s⟩

theorem rolesJudged_step (s : State) : RoleStep placeKeys (rolesJudged s) (pruned s) :=
  (rolesShown_step ..).trans (pruneMembers_step s)

theorem rolesJudged_state (s : State) : (rolesJudged s).rallyState = s.rallyState := (rolesJudged_step s).obj _ (by decide)

/-- After an update of the roles a member that is in ISLAND is one. -/
theorem updateRoles_isIsland (h : s.updateRoles.rallyState = rIsland) : s.updateRoles.isIsland = true := by
  obtain ⟨role, rises, he⟩ := updateRoles_parts s
  rw [he] at h ⊢
  rw [toldRoles_state] at h
  have hstate := alignedStep_state _ _ h
  obtain ⟨hstep, hisland⟩ | ⟨-, -, hlinking⟩ := islandStep_cases (rolesJudged s)
  · have hall := ((toldRoles_step _ role rises).mono shownKeys_role).trans ((alignedStep_step _ role).trans hstep)
    exact (hall.mono fun _ => roleKeys_adopt).isIsland (hisland hstate)
  · exact absurd (hlinking.symm.trans hstate) (by decide)

/-- Where the member is no island that has its trunk again, an update of the roles writes their objects and no others. -/
theorem updateRoles_step (h : s.rallyState = rIsland → s.isIsland = true) : RoleStep roleKeys s.updateRoles (pruned s) := by
  obtain ⟨role, rises, he⟩ := updateRoles_parts s
  rw [he]
  have hjudged := (rolesJudged_step s).mono placeKeys_role
  obtain ⟨hstep, -⟩ | ⟨hno, hstate, -⟩ := islandStep_cases (rolesJudged s)
  · exact ((toldRoles_step _ role rises).mono shownKeys_role).trans ((alignedStep_step _ role).trans (hstep.trans hjudged))
  · have hisland : (rolesJudged s).isIsland = true :=
      ((rolesShown_step ..).mono placeKeys_adopt).isIsland (pruneMembers_isIsland (h (rolesJudged_state s ▸ hstate)))
    exact absurd (hno.symm.trans hisland) Bool.false_ne_true

end Sys2Proof.Proofs
end

section
/-! # What a member of a formation sends -/

set_option Elab.async false

namespace Sys2Proof.Proofs

open Sys2Proof Sys2Proof.Machine Sys2Proof.Laws

variable {s u v : State} {t lane p i : Nat} {w : Waiting}

/-! ## TIME (R182) -/

/-- The hops that a member tells. -/
def toldHops (s : State) : Nat := if s.obj K.rallyRole = 2 then 0 else if s.obj K.rallyUpstream = 0xFF then 15 else s.obj K.rallyHops

/-- The TIME fragment of a lane. -/
def timeTold (s : State) (lane : Nat) : List Byte :=
  toLE 12 s.now ++ toLE 12 (time96 (s.rallyLane lane).peerTx) ++ toLE 12 (time96 (s.rallyLane lane).arrival) ++ toLE 1 (toldHops s) ++
    toLE 1 (s.obj K.rallyLead) ++ toLE 1 (s.obj K.timeSource) ++ toLE 1 (Config.free 30 s.freeCount % 256)

/-- The TIME fragment as it is offered. -/
def timeWaiting (s : State) (lane : Nat) : Waiting := ⟨2, true, true, 0, 0, timeTold s lane, none⟩

theorem timeTold_length (s : State) (lane : Nat) : (timeTold s lane).length = 40 := by
  simp only [timeTold, List.length_append, toLE_length]

theorem drop_append_length {α : Type} {xs ys : List α} {n : Nat} (h : xs.length = n) : (xs ++ ys).drop n = ys := by
  rw [← h, List.drop_left]

theorem timeTold_carried (s : State) (lane : Nat) : toLE 12 s.now ++ (timeTold s lane).drop 12 = timeTold s lane := by
  unfold timeTold
  simp only [List.append_assoc]
  rw [drop_append_length (toLE_length 12 s.now)]

/-- A free value is taken. -/
def drawn (s : State) : State := { s with freeCount := s.freeCount + 1 }

theorem puts_drawn (s : State) : Puts [] (drawn s) s := puts_of_dict rfl rfl rfl rfl rfl rfl

theorem timeSend_eq (hrole : 2 ≤ s.roleOfLane lane) (hup : s.rallyUp lane = true) (hstate : s.rallyState ≠ rStandalone) :
    xTimeSend lane s = (drawn s).offerFragment lane (timeWaiting s lane) := by
  have hno : (decide (s.roleOfLane lane < 2) || !s.rallyUp lane || decide (s.rallyState = rStandalone)) = false := by
    have : ¬ s.roleOfLane lane < 2 := by omega
    simp only [this, hup, hstate, decide_false, Bool.not_true, Bool.or_false]
  unfold xTimeSend
  rw [hno, if_neg Bool.false_ne_true]
  rfl

theorem mayCarry_low (s : State) (lane : Nat) {type : Nat} (h : type < 3) : s.mayCarry lane type = true := by
  simp only [State.mayCarry, h, decide_true, Bool.true_or]

theorem timeSend_leaves (hidle : (s.rallyLane lane).busy = false) :
    ((drawn s).offerFragment lane (timeWaiting s lane)).emitted = s.emitted ++
      [.fragment lane (fragHeader 2 true true 0 0 ((s.rallyLane lane).seqs.getD 1 0) 40) (timeTold s lane)] := by
  have hcarried : carried (drawn s) (timeWaiting s lane) = timeTold s lane := (if_pos rfl).trans (timeTold_carried s lane)
  rw [offer_leaves (drawn s) lane _ (mayCarry_low _ _ (Nat.lt_succ_self 2)) hidle, launch_carried (drawn s) lane rfl, hcarried, timeTold_length]
  rfl

/-! ## Announcements (R187, R188, R190) -/

/-- The objects that an announcement writes. -/
def announceKeys : List Nat :=
  [K.rallyMembers, K.rallyDMax, K.rallyFlags, K.rallyTakeovers, K.rallyTakeoverLines] ++ evKeys 751 ++ evKeys 752

/-- State u is state s but for these objects, and what no announcement rests on. -/
structure Announcing (u s : State) : Prop where
  clock : u.clock = s.clock
  time : u.time = s.time
  variant : u.variant = s.variant
  pitches : u.pitches = s.pitches
  encs : u.encs = s.encs
  quadEdge : u.quadEdge = s.quadEdge
  rally : u.rally = s.rally
  obj : ∀ k, k ∉ announceKeys → u.obj k = s.obj k

theorem Announcing.refl (s : State) : Announcing s s := ⟨rfl, rfl, rfl, rfl, rfl, rfl, rfl, fun _ _ => rfl⟩

theorem Announcing.trans (h : Announcing u v) (g : Announcing v s) : Announcing u s :=
  ⟨h.clock.trans g.clock, h.time.trans g.time, h.variant.trans g.variant, h.pitches.trans g.pitches, h.encs.trans g.encs,
    h.quadEdge.trans g.quadEdge, h.rally.trans g.rally, fun k hk => (h.obj k hk).trans (g.obj k hk)⟩

theorem announcing_set (s : State) {k : Nat} (x : Nat) (hk : k ∈ announceKeys) : Announcing (s.set k x) s :=
  ⟨set_clock .., set_time .., set_variant .., set_pitches .., set_encs .., set_quadEdge .., set_rally ..,
    fun _ hi => obj_set_ne _ _ fun e => hi (e ▸ hk)⟩

theorem announcing_raise (s : State) (n d : Nat) (hn : ∀ k ∈ evKeys n, k ∈ announceKeys) : Announcing (s.raise n d) s :=
  ⟨raise_clock .., raise_time .., raise_variant .., raise_pitches .., raise_encs .., raise_quadEdge .., raise_rally .., fun k hk =>
    obj_raise_ne s n d k fun he => hk (hn k (by simpa only [evKeys, eventKey, List.mem_cons, List.not_mem_nil, or_false] using he))⟩

theorem announcing_ite {c : Prop} [Decidable c] (h : Announcing u s) (g : Announcing v s) : Announcing (if c then u else v) s := by
  split
  · exact h
  · exact g

theorem announcing_checkHorizon (s : State) : Announcing s.checkHorizon s := by
  have hshown : Announcing s.showMembers s :=
    (announcing_set _ _ (by decide)).trans ((announcing_set _ _ (by decide)).trans (announcing_set _ _ (by decide)))
  unfold State.checkHorizon
  extract_lets x short was y
  have hy : Announcing y s := (announcing_set _ _ (by decide)).trans hshown
  exact announcing_ite ((announcing_raise _ _ _ (by decide)).trans hy) hy

theorem low_not_announceKey {k : Nat} (h : k < 0x160000) : k ∉ announceKeys := by
  have hrange : ∀ k ∈ announceKeys, 0x160000 ≤ k := by decide
  exact fun hm => absurd (hrange k hm) (by omega)

theorem sub_not_announceKey {i : Nat} : key i 2 ∉ announceKeys := by
  have hsub : ∀ k ∈ announceKeys, k % 256 ≠ 2 := by decide
  exact fun hm => hsub _ hm (by simp only [key]; omega)

section
variable (h : Announcing u s)
include h

theorem Announcing.pitchOf (p : Nat) : u.pitchOf p = s.pitchOf p := by rw [State.pitchOf, h.pitches, State.pitchOf]

theorem Announcing.low {k : Nat} (hk : k < 0x160000) : u.obj k = s.obj k := h.obj k (low_not_announceKey hk)

theorem Announcing.pitchKey (hp : p < 16) {i b : Nat} (hi : i < 8) (hb : b < 256) :
    u.obj (key (0x1580 + i + 8 * p) b) = s.obj (key (0x1580 + i + 8 * p) b) :=
  h.low (by simp only [key]; omega)

theorem Announcing.encOf (hp : p < 16) : u.encOf p = s.encOf p := h.pitchKey (i := 0) hp (by decide) (by decide)

theorem Announcing.targetOf (hp : p < 16) (he : s.encOf p < 8) : u.targetOf p = s.targetOf p := by
  have hdirection : u.obj (K.pitchDirection p) = s.obj (K.pitchDirection p) := h.pitchKey (i := 0) hp (by decide) (by decide)
  have hencoder : u.obj (K.pitchEncoder p) = s.obj (K.pitchEncoder p) := h.encOf hp
  have hflags : u.obj (K.encFlags (s.obj (K.pitchEncoder p))) = s.obj (K.encFlags (s.obj (K.pitchEncoder p))) := by
    have he : s.obj (K.pitchEncoder p) < 8 := he
    exact h.low (by simp only [K.encFlags, key]; omega)
  unfold State.targetOf
  rw [h.pitchOf, hdirection, hencoder, hflags]

theorem Announcing.onGrid (hp : p < 16) (num den : Nat) : u.onGrid p num den = s.onGrid p num den := by
  have hq : u.obj (K.pitchGridQ p) = s.obj (K.pitchGridQ p) := h.pitchKey (i := 1) hp (by decide) (by decide)
  have hdiv : u.obj (K.pitchGridDiv p) = s.obj (K.pitchGridDiv p) := h.pitchKey (i := 1) hp (by decide) (by decide)
  have hfreq (q : Nat) : u.obj (K.timeSynFreq q) = s.obj (K.timeSynFreq q) := h.obj _ sub_not_announceKey
  simp only [State.onGrid, hq, hdiv, hfreq, h.quadEdge]

theorem Announcing.nextAnnounced (hp : p < 16) : u.nextAnnounced p = s.nextAnnounced p := by
  have hline : u.obj (K.pitchLine p) = s.obj (K.pitchLine p) := h.pitchKey (i := 2) hp (by decide) (by decide)
  have hstart : u.obj (K.pitchLineStart p) = s.obj (K.pitchLineStart p) := h.pitchKey (i := 2) hp (by decide) (by decide)
  simp only [State.nextAnnounced, State.nextTriggerLine, h.pitchOf, hline, hstart]

theorem Announcing.timeAt (at_ : Nat) : u.timeAt at_ = s.timeAt at_ := by
  simp only [State.timeAt, h.clock, h.time, h.obj K.timeRate (by decide)]

end

/-- A backup that announces its first line takes the generator over. -/
def takesOver (s : State) (p : Nat) : Bool := bitsOf (s.obj K.rallyShareSource) p p == 0 && !(s.pitchOf p).took

/-- The takeover as it is counted and raised, with the targets that passed. -/
def takenOver (s : State) (p passed : Nat) : State :=
  if takesOver s p then ((s.count K.rallyTakeovers 32 1).count K.rallyTakeoverLines 32 passed).raise 752 s.memberId else s

theorem announcing_takenOver (s : State) (p passed : Nat) : Announcing (takenOver s p passed) s :=
  announcing_ite ((announcing_raise _ _ _ (by decide)).trans ((announcing_set _ _ (by decide)).trans (announcing_set _ _ (by decide)))) (.refl s)

/-- The search for the first target that a member announces (R187). -/
def firstTarget (s : State) (p : Nat) : Option (Int × Nat × Nat × Nat) :=
  firstFrom (s.enc (s.encOf p)).recent (s.obj (K.pitchWindow p)) (s.pitchOf p).moved (s.targetOf p).1
    (if (s.targetOf p).2 then (s.obj (K.pitchPitch p) : Int) else -(s.obj (K.pitchPitch p) : Int)) (s.clock + s.obj K.rallyTriggerHorizon * perNs)

theorem Announcing.firstTarget (h : Announcing u s) (hp : p < 16) (he : s.encOf p < 8) : firstTarget u p = firstTarget s p := by
  have hwindow : u.obj (K.pitchWindow p) = s.obj (K.pitchWindow p) := h.pitchKey (i := 0) hp (by decide) (by decide)
  have hpitch : u.obj (K.pitchPitch p) = s.obj (K.pitchPitch p) := h.pitchKey (i := 0) hp (by decide) (by decide)
  have henc (e : Nat) : u.enc e = s.enc e := by rw [State.enc, h.encs, State.enc]
  simp only [Proofs.firstTarget, henc, h.encOf hp, hwindow, h.pitchOf, h.targetOf hp he, hpitch, h.clock, h.obj K.rallyTriggerHorizon (by decide)]

/-- The line that a generator announces at an instant, once the pitch in force has been taken up. -/
def announcedDue (v : State) (p : Nat) (x : Pitch) (target : Int) (instant : Nat) : Due :=
  let pos := v.stampedPosition (v.encOf p) * 65536 + target - x.moved
  ⟨v.nextAnnounced p, (posWords pos).1, (posWords pos).2, instant, false⟩

/-- What a generator keeps of it. -/
def announcedPitch (v : State) (p : Nat) (x : Pitch) (up backup : Bool) (target : Int) (instant : Nat) : Pitch :=
  let nx := nextTargets (v.obj (K.pitchDirection p)) up target (v.obj (K.pitchPitch p)) x
  { x with up := nx.1, down := nx.2, due := x.due ++ [announcedDue v p x target instant], announced := some (v.nextAnnounced p),
           took := x.took || backup }

/-- A line announced: where its generator keeps it, and what is sent of it. -/
theorem sharedAnnounce_parts {target : Int} {passed num den : Nat} (hannounces : s.announces p = true)
    (hon : isOn (s.obj (K.pitchStatus p)) = true) (hsource : s.obj (K.pitchSource p) = 0) (henc : s.encOf p < 8)
    (hfirst : firstTarget s.checkHorizon p = some (target, passed, num, den)) :
    let a := takenOver s.checkHorizon p passed
    let v := a.settle (K.pitchPitch p)
    ∃ (y : Pitch) (d : Due), d.line = v.nextAnnounced p ∧ d.at_ = a.onGrid p num den ∧ d.late = false ∧
      y.due = (s.checkHorizon.pitchOf p).due ++ [d] ∧ y.announced = some (v.nextAnnounced p) ∧
      xSharedAnnounce p s = (v.setPitch p y).flood 0xFF fTrigger 0 p (triggerPayload d.line d.target d.fraction ((v.setPitch p y).timeAt d.at_) 0) := by
  have hno : (!s.announces p || !isOn (s.obj (K.pitchStatus p)) || decide (s.obj (K.pitchSource p) ≠ 0) || decide (s.encOf p ≥ 8)) = false := by
    have : ¬ s.encOf p ≥ 8 := by omega
    simp only [hannounces, hon, hsource, this, ne_eq, not_true_eq_false, decide_false, Bool.not_true, Bool.or_false]
  intro a v
  refine ⟨announcedPitch v p (s.checkHorizon.pitchOf p) (s.checkHorizon.targetOf p).2 (bitsOf (s.checkHorizon.obj K.rallyShareSource) p p == 0)
    target (a.onGrid p num den), announcedDue v p (s.checkHorizon.pitchOf p) target (a.onGrid p num den), rfl, rfl, rfl, rfl, rfl, ?_⟩
  unfold xSharedAnnounce
  rw [hno, if_neg Bool.false_ne_true]
  extract_lets z x tg w w' backup
  rw [show firstFrom (z.enc (z.encOf p)).recent (z.obj (K.pitchWindow p)) x.moved tg.1 w' (z.clock + z.obj K.rallyTriggerHorizon * perNs) =
    some (target, passed, num, den) from hfirst]
  rfl

/-- A lane that is up: its keys are none that an announcement writes. -/
theorem Announcing.laneKey (h : Announcing u s) (hi : i < laneCount s.variant) :
    u.obj (K.laneRole i) = s.obj (K.laneRole i) ∧ u.obj (K.rallyLaneState i) = s.obj (K.rallyLaneState i) := by
  have hrange : ∀ k ∈ announceKeys, k < 0x160300 ∨ 0x700000 ≤ k := by decide
  have hle := laneCount_le s.variant
  refine ⟨h.obj _ fun hm => ?_, h.obj _ fun hm => ?_⟩
  · have := hrange _ hm
    simp only [K.laneRole, key] at this
    omega
  · have := hrange _ hm
    simp only [K.rallyLaneState, key] at this
    omega

theorem Announcing.upLane (h : Announcing u s) (hi : i ∈ s.upLanes) : i ∈ u.upLanes := by
  have hlt := lane_of_upLanes hi
  obtain ⟨hrole, hstate⟩ := h.laneKey hlt
  have hin := List.mem_filter.1 hi
  have hrally := List.mem_filter.1 hin.1
  refine List.mem_filter.2 ⟨List.mem_filter.2 ⟨?_, ?_⟩, ?_⟩
  · rw [h.variant]
    exact hrally.1
  · rw [show u.roleOfLane i = s.roleOfLane i from hrole]
    exact hrally.2
  · simpa only [State.rallyUp, hstate] using hin.2

theorem Announcing.mayCarry (h : Announcing u s) (hi : i < laneCount s.variant) (type : Nat) : u.mayCarry i type = s.mayCarry i type := by
  simp only [State.mayCarry, State.standby, State.roleOfLane, State.mode, (h.laneKey hi).1, h.obj K.rallyRole (by decide),
    h.obj K.deviceMode (by decide)]

theorem raisedLow (s : State) (n d : Nat) {k : Nat} (hk : k < 0x700000) : (s.raise n d).obj k = s.obj k := obj_raise_of_lt _ _ _ hk

theorem obj_checkHorizon (s : State) {k : Nat} (hlow : k < 0x700000) (hk : k ∉ [K.rallyMembers, K.rallyDMax, K.rallyFlags]) :
    s.checkHorizon.obj k = s.obj k := by
  simp only [List.mem_cons, List.not_mem_nil, or_false, not_or] at hk
  obtain ⟨hmembers, hmax, hflags⟩ := hk
  have hshown : s.showMembers.obj k = s.obj k :=
    (obj_set_ne _ _ hflags).trans ((obj_set_ne _ _ hmax).trans (obj_set_ne _ _ hmembers))
  unfold State.checkHorizon
  extract_lets x short was y
  have hy : y.obj k = s.obj k := (obj_set_ne _ _ hflags).trans hshown
  split
  · exact (raisedLow _ _ _ hlow).trans hy
  · exact hy

/-- What a takeover shows. -/
theorem takenOver_counts (s : State) (p passed : Nat) :
    (takenOver s p passed).obj K.rallyTakeovers = (if takesOver s p then satAdd 32 (s.obj K.rallyTakeovers) 1 else s.obj K.rallyTakeovers) ∧
      (takenOver s p passed).obj K.rallyTakeoverLines =
        (if takesOver s p then satAdd 32 (s.obj K.rallyTakeoverLines) passed else s.obj K.rallyTakeoverLines) := by
  unfold takenOver
  split
  · constructor
    · rw [raisedLow _ _ _ (by decide), obj_count_ne _ _ _ (by decide), obj_count_self]
    · rw [raisedLow _ _ _ (by decide), obj_count_self, obj_count_ne _ _ _ (by decide)]
  · exact ⟨rfl, rfl⟩

theorem flood_pitchOf (s : State) (but type hop channel : Nat) (payload : List Byte) (q : Nat) :
    (s.flood but type hop channel payload).pitchOf q = s.pitchOf q := by
  rw [State.pitchOf, flood_eq, offerAll_pitches, State.pitchOf]

/-- A lane that is up and idle sends what is flooded. -/
theorem flood_sends {type hop channel but : Nat} {payload : List Byte} (hi : i ∈ s.upLanes) (hbut : i ≠ but)
    (hcarry : s.mayCarry i type = true) (hidle : (s.rallyLane i).busy = false) (ht : type ≠ 2) :
    ∃ h, .fragment i h payload ∈ (s.flood but type hop channel payload).emitted := by
  rw [flood_eq]
  exact offerAll_sends (List.mem_filter.2 ⟨hi, bne_iff_ne.2 hbut⟩) hcarry hidle ht

/-- One with a fragment in flight has it wait. -/
theorem flood_waits {type hop channel but : Nat} {payload : List Byte} (hi : i ∈ s.upLanes) (hbut : i ≠ but)
    (hcarry : s.mayCarry i type = true) (hbusy : (s.rallyLane i).busy = true) :
    ((s.flood but type hop channel payload).rallyLane i).waiting =
      (s.rallyLane i).waiting ++ [⟨type, true, true, hop, channel, payload, none⟩] := by
  rw [flood_eq]
  exact offerAll_waits ((upLanes_nodup s).filter _) (List.mem_filter.2 ⟨hi, bne_iff_ne.2 hbut⟩) hcarry hbusy

/-- SHARED_TRIGGER_ANNOUNCE. -/
theorem sharedAnnounce_sends {target : Int} {passed num den : Nat} (hp : p < 16) (hannounces : s.announces p = true)
    (hon : isOn (s.obj (K.pitchStatus p)) = true) (hsource : s.obj (K.pitchSource p) = 0) (henc : s.encOf p < 8)
    (hfirst : firstTarget s p = some (target, passed, num, den)) :
    (∃ d, ((xSharedAnnounce p s).pitchOf p).due = (s.pitchOf p).due ++ [d] ∧ d.line = s.nextAnnounced p ∧ d.at_ = s.onGrid p num den ∧
        d.late = false ∧ ∀ i ∈ s.upLanes, i ≠ 0xFF → s.mayCarry i 3 = true → (s.rallyLane i).busy = false →
          ∃ h, .fragment i h (triggerPayload d.line d.target d.fraction (s.timeAt d.at_) 0) ∈ (xSharedAnnounce p s).emitted) ∧
      ((xSharedAnnounce p s).pitchOf p).announced = some (s.nextAnnounced p) ∧
      (xSharedAnnounce p s).obj K.rallyTakeovers =
        (if takesOver s p then satAdd 32 (s.obj K.rallyTakeovers) 1 else s.obj K.rallyTakeovers) ∧
      (xSharedAnnounce p s).obj K.rallyTakeoverLines =
        (if takesOver s p then satAdd 32 (s.obj K.rallyTakeoverLines) passed else s.obj K.rallyTakeoverLines) := by
  have hz := announcing_checkHorizon s
  have ha := (announcing_takenOver s.checkHorizon p passed).trans hz
  obtain ⟨y, d, hline, hat, hlate, hdue, hannounced, heq⟩ := sharedAnnounce_parts hannounces hon hsource henc
    ((hz.firstTarget hp henc).trans hfirst)
  have hcounts := takenOver_counts s.checkHorizon p passed
  have htakes : takesOver s.checkHorizon p = takesOver s p := by
    rw [takesOver, hz.obj K.rallyShareSource (by decide), hz.pitchOf, takesOver]
  have hflood (k : Nat) := obj_flood (((takenOver s.checkHorizon p passed).settle (K.pitchPitch p)).setPitch p y) 0xFF fTrigger 0 p
    (triggerPayload d.line d.target d.fraction ((((takenOver s.checkHorizon p passed).settle (K.pitchPitch p)).setPitch p y).timeAt d.at_) 0) k
  generalize takenOver s.checkHorizon p passed = a at *
  have hnext : (a.settle (K.pitchPitch p)).nextAnnounced p = s.nextAnnounced p := ha.nextAnnounced hp
  have hobj (k : Nat) : ((a.settle (K.pitchPitch p)).setPitch p y).obj k = a.obj k := rfl
  have hnow (x : Nat) : ((a.settle (K.pitchPitch p)).setPitch p y).timeAt x = s.timeAt x := ha.timeAt x
  rw [hnext] at hline hannounced
  rw [heq]
  refine ⟨⟨d, ?_, hline, hat.trans (ha.onGrid hp ..), hlate, fun i hi hbut hcarry hidle => ?_⟩, ?_, ?_, ?_⟩
  · rw [flood_pitchOf, pitchOf_setPitch_self, hdue, hz.pitchOf]
  · rw [← hnow]
    refine flood_sends (s := (a.settle (K.pitchPitch p)).setPitch p y) ?_ hbut ?_ ?_ (by decide)
    · rw [upLanes_congr (u := (a.settle (K.pitchPitch p)).setPitch p y) (s := a) rfl hobj]
      exact ha.upLane hi
    · rw [mayCarry_congr hobj, ha.mayCarry (lane_of_upLanes hi)]
      exact hcarry
    · rw [show ((a.settle (K.pitchPitch p)).setPitch p y).rallyLane i = s.rallyLane i from congrArg (fun r : Rally => Sp.get _ r.lanes i) ha.rally]
      exact hidle
  · rw [flood_pitchOf, pitchOf_setPitch_self, hannounced]
  · rw [hflood, hobj, hcounts.1, htakes, obj_checkHorizon _ (by decide) (by decide)]
  · rw [hflood, hobj, hcounts.2, htakes, obj_checkHorizon _ (by decide) (by decide)]

/-! ## Heartbeats (R187) -/

/-- The heartbeat of a generator. -/
def beatTold (s : State) (p : Nat) : List Byte := triggerPayload (s.obj (K.pitchLine p)) (s.obj (K.pitchLastPos p)) 0 s.time 1

/-- A generator that has heard a heartbeat now. -/
def beaten (s : State) (p : Nat) : State := s.setPitch p { s.pitchOf p with heard := max (s.pitchOf p).heard s.time }

theorem heartbeat_eq (hannounces : s.announces p = true) (hon : isOn (s.obj (K.pitchStatus p)) = true) (hdue : (s.pitchOf p).due = []) :
    xHeartbeat p s = (beaten s p).flood 0xFF fTrigger 0 p (beatTold s p) := by
  unfold xHeartbeat
  rw [hannounces, hon, hdue]
  rfl

theorem puts_beaten (s : State) (p : Nat) : Puts [] (beaten s p) s := puts_of_dict rfl rfl rfl rfl rfl rfl

theorem puts_heartbeat (hannounces : s.announces p = true) (hon : isOn (s.obj (K.pitchStatus p)) = true) (hdue : (s.pitchOf p).due = []) :
    Puts [] (xHeartbeat p s) s := by
  rw [heartbeat_eq hannounces hon hdue, flood_eq]
  exact (puts_beaten s p).same (puts_offerAll ..)

/-- TRIGGER_HEARTBEAT. -/
theorem heartbeat_sends (hannounces : s.announces p = true) (hon : isOn (s.obj (K.pitchStatus p)) = true) (hdue : (s.pitchOf p).due = []) :
    ((xHeartbeat p s).pitchOf p).heard = max (s.pitchOf p).heard s.time ∧ ∀ i ∈ s.upLanes, i ≠ 0xFF → s.mayCarry i 3 = true →
      ((s.rallyLane i).busy = false → ∃ h, .fragment i h (beatTold s p) ∈ (xHeartbeat p s).emitted) ∧
      ((s.rallyLane i).busy = true →
        ((xHeartbeat p s).rallyLane i).waiting = (s.rallyLane i).waiting ++ [⟨3, true, true, 0, p, beatTold s p, none⟩]) := by
  rw [heartbeat_eq hannounces hon hdue]
  refine ⟨?_, fun i hi hbut hcarry => ⟨fun hidle => flood_sends (s := beaten s p) hi hbut hcarry hidle (by decide),
    fun hbusy => flood_waits (s := beaten s p) hi hbut hcarry hbusy⟩⟩
  rw [flood_pitchOf, beaten, pitchOf_setPitch_self]

/-! ## The version (R193) -/

/-- The version is announced and agreed. -/
def agreedState (s : State) (x : Nat) : State := ((s.set K.rallyVersion x).inForceWord 4 5 x).modRally (fun r => { r with agreed := true })

theorem roleStep_setUntested (s : State) (bit : Nat) (b : Bool) : RoleStep adoptKeys (s.setUntested bit b) s := by
  unfold State.setUntested
  extract_lets y r
  have hy : RoleStep adoptKeys y s := roleStep_of_dict rfl rfl rfl rfl rfl
  exact .ite hy ((roleStep_raise _ _ _ (by decide)).trans ((roleStep_set _ _ (by decide)).trans hy))

theorem roleStep_inForceWord (s : State) (x : Nat) : RoleStep adoptKeys ((s.set K.rallyVersion x).inForceWord 4 5 x) s :=
  (roleStep_setUntested ..).trans (roleStep_set _ _ (by decide))

theorem agreedState_isIsland (x : Nat) (h : s.isIsland = true) : (agreedState s x).isIsland = true :=
  isIsland_of_fewer (u := agreedState s x) (s := (s.set K.rallyVersion x).inForceWord 4 5 x) rfl rfl rfl (fun _ hm _ => hm)
    ((roleStep_inForceWord s x).isIsland h)

/-- A member that negotiates aligns. -/
def aligning (s : State) : State := if s.rallyState = rNegotiating then s.setRally rAligning else s

theorem aligning_step (s : State) : RoleStep stateKeys (aligning s) s := .ite (roleStep_setRally s (by decide) fun _ h => h) (.refl _ s)

theorem aligning_state (h : (aligning s).rallyState = rIsland) : s.rallyState = rIsland := by
  unfold aligning at h
  split at h
  · rw [setRally_state] at h
    exact absurd h (by decide)
  · exact h

theorem adoptVersion_eq {x : Nat} (hexcluded : s.rallyState ≠ rExcluded) (halone : s.rallyState ≠ rStandalone)
    (hoffers : offers s.ownOffer x = true) : s.adoptVersion x = (aligning (agreedState s x)).updateRoles := by
  unfold State.adoptVersion
  rw [if_neg (by simp [hexcluded, halone]), if_pos hoffers]
  rfl

theorem obj_setUntested_low (s : State) (bit : Nat) (b : Bool) {k : Nat} (hlow : k < 0x700000) (hk : k ≠ K.versionsRestricted) :
    (s.setUntested bit b).obj k = s.obj k := by
  unfold State.setUntested
  extract_lets y r
  split
  · rfl
  · exact (raisedLow _ _ _ hlow).trans (obj_set_ne _ _ hk)

theorem agreedState_version (s : State) (x : Nat) : (agreedState s x).obj K.rallyVersion = x :=
  (obj_setUntested_low (s.set K.rallyVersion x) 4 _ (by decide) (by decide)).trans (obj_set_self ..)

theorem agreedState_state (s : State) (x : Nat) : (agreedState s x).rallyState = s.rallyState :=
  (obj_setUntested_low (s.set K.rallyVersion x) 4 _ (by decide) (by decide)).trans (obj_set_ne _ _ (by decide))

/-- A version that this member offers is adopted, and what has left before stands. -/
theorem adoptVersion_adopts {x : Nat} (hisland : s.rallyState = rIsland → s.isIsland = true) (hexcluded : s.rallyState ≠ rExcluded)
    (halone : s.rallyState ≠ rStandalone) (hoffers : offers s.ownOffer x = true) :
    (s.adoptVersion x).obj K.rallyVersion = x ∧ (s.adoptVersion x).rally.agreed = true ∧
      ∀ e ∈ s.emitted, e ∈ (s.adoptVersion x).emitted := by
  rw [adoptVersion_eq hexcluded halone hoffers]
  have hword := roleStep_inForceWord s x
  have halign := aligning_step (agreedState s x)
  have hstate (h : (aligning (agreedState s x)).rallyState = rIsland) : (aligning (agreedState s x)).isIsland = true := by
    have hin : s.rallyState = rIsland := (agreedState_state s x).symm.trans (aligning_state h)
    exact (halign.mono (by decide)).isIsland (agreedState_isIsland x (hisland hin))
  have hroles := updateRoles_step hstate
  refine ⟨?_, ?_, fun e he => hroles.emitted e (halign.emitted e (hword.emitted e he))⟩
  · rw [hroles.obj _ (by decide)]
    exact (halign.obj _ (by decide)).trans (agreedState_version s x)
  · exact hroles.agreed.trans halign.agreed

/-- What a flood of a CONTROL message changes is not what the version offered rests on. -/
theorem offerFragment_running (s : State) (lane : Nat) (w : Waiting) : (s.offerFragment lane w).running = s.running := by
  obtain he | he | he := offer_cases s lane w
  · rw [he]
  · rw [he]
    unfold State.launch
    extract_lets r v
    have hv : v.running = s.running := rfl
    clear_value v
    split
    · exact hv
    · exact hv
  · rw [he]
    rfl

theorem floodControl_running (s : State) (but hop : Nat) (c : Control) : (s.floodControl but hop c).running = s.running :=
  foldl_keeps State.running _ _ _ fun _ _ => offerFragment_running ..

theorem ownOffer_floodControl (s : State) (but hop : Nat) (c : Control) : (s.floodControl but hop c).ownOffer = s.ownOffer := by
  simp only [State.ownOffer, State.currentCombos, obj_floodControl, floodControl_running]

/-- The choice of a version among the offers. -/
def versionChosen (s : State) : Option Nat :=
  chooseVersion (s.ownOffer :: (s.rally.offers.filter (fun o => o.1 != s.memberId)).map (·.2))

theorem negotiationWindow_eq {x : Nat} (hrole : s.updateRoles.obj K.rallyRole = 2) (hrunning : s.updateRoles.known.any (·.running) = false)
    (halone : s.updateRoles.rallyState ≠ rStandalone) (hexcluded : s.updateRoles.rallyState ≠ rExcluded)
    (hchosen : versionChosen s.updateRoles = some x) :
    xNegotiationWindow s = (s.updateRoles.floodControl 0xFF 0 (.version x)).adoptVersion x := by
  unfold xNegotiationWindow
  generalize s.updateRoles = r at *
  have hno : (decide (r.obj K.rallyRole ≠ 2) || r.known.any (·.running) || decide (r.rallyState = rStandalone) ||
      decide (r.rallyState = rExcluded)) = false := by
    simp only [hrole, hrunning, halone, hexcluded, ne_eq, not_true_eq_false, decide_false, Bool.or_false]
  unfold versionChosen at hchosen
  simp only [hno, Bool.false_eq_true, if_false, hchosen]

/-- NEGOTIATION_WINDOW. -/
theorem negotiationWindow_sends {x : Nat} (hrole : s.updateRoles.obj K.rallyRole = 2) (hrunning : s.updateRoles.known.any (·.running) = false)
    (halone : s.updateRoles.rallyState ≠ rStandalone) (hexcluded : s.updateRoles.rallyState ≠ rExcluded)
    (hchosen : versionChosen s.updateRoles = some x) (hoffers : offers s.updateRoles.ownOffer x = true) :
    (xNegotiationWindow s).obj K.rallyVersion = x ∧ (xNegotiationWindow s).rally.agreed = true ∧
      ∀ i ∈ s.updateRoles.upLanes, i ≠ 0xFF → (s.updateRoles.rallyLane i).busy = false →
        ∃ h, .control i h (.version x) ∈ (xNegotiationWindow s).emitted := by
  have hstate := updateRoles_isIsland (s := s)
  rw [negotiationWindow_eq hrole hrunning halone hexcluded hchosen]
  generalize s.updateRoles = r at *
  have hflooded : (r.floodControl 0xFF 0 (.version x)).rallyState = r.rallyState := obj_floodControl_state ..
  obtain ⟨hversion, hagreed, hkept⟩ := adoptVersion_adopts (s := r.floodControl 0xFF 0 (.version x)) (x := x)
    (fun h => (roleStep_floodControl ..).isIsland (hstate (hflooded ▸ h))) (by rwa [hflooded]) (by rwa [hflooded])
    (by rwa [ownOffer_floodControl])
  refine ⟨hversion, hagreed, fun i hi hbut hidle => ?_⟩
  obtain ⟨h, hsent⟩ := offerAll_sends (s := r) (w := ⟨fControl, true, true, 0, 0, [], some (.version x)⟩)
    (ls := r.upLanes.filter (fun j => j != 0xFF)) (List.mem_filter.2 ⟨hi, bne_iff_ne.2 hbut⟩) (by simp [State.mayCarry]) hidle
    (show fControl ≠ 2 by decide)
  exact ⟨h, hkept _ hsent⟩

/-! ## Fragment boundaries (R181) -/

/-- A lane whose fragment in flight has ended. -/
def laneFree (s : State) (lane : Nat) : State := s.setRallyLane lane { s.rallyLane lane with busy := false }

/-- What leaves at a boundary of a lane, once it is free. -/
def boundaryLeaves (lane : Nat) (s : State) : State :=
  match (s.rallyLane lane).next fTrack, s.sendTrack lane, (s.rallyLane lane).next fUmzin with
  | some w, _, _ => s.launchWaiting lane w
  | none, some t, _ => t
  | none, none, some w => s.launchWaiting lane w
  | none, none, none =>
    if !s.exports_ || !s.mayCarry lane fStream || s.clientRed (18 + lane) then s
    else
      let ready := (s.peerSends lane).filter (fun c => let r := s.ring c false; s.holdsLine r (s.nextLine r (s.exportNext c .peer)))
      match nextInRound (s.lane lane).served ready with
      | some c => (s.sendPeer lane c).modLane lane (fun x => { x with served := c })
      | none => s

theorem fragmentBoundary_eq (hrole : 2 ≤ s.roleOfLane lane) (hup : s.rallyUp lane = true) (hstate : s.rallyState ≠ rStandalone) :
    xFragmentBoundary lane s = boundaryLeaves lane (laneFree s lane) := by
  have hno : (decide (s.roleOfLane lane < 2) || !s.rallyUp lane || decide (s.rallyState = rStandalone)) = false := by
    have : ¬ s.roleOfLane lane < 2 := by omega
    simp only [this, hup, hstate, decide_false, Bool.not_true, Bool.or_false]
  unfold xFragmentBoundary
  rw [hno, if_neg Bool.false_ne_true]
  rfl

theorem laneFree_rallyLane (s : State) (lane : Nat) : (laneFree s lane).rallyLane lane = { s.rallyLane lane with busy := false } :=
  rallyLane_setRallyLane_self ..

/-- A waiting fragment is taken from its lane. -/
def taken (s : State) (lane : Nat) (w : Waiting) : State :=
  s.setRallyLane lane { s.rallyLane lane with waiting := (s.rallyLane lane).waiting.erase w }

theorem taken_rallyLane (s : State) (lane : Nat) (w : Waiting) :
    (taken s lane w).rallyLane lane = { s.rallyLane lane with waiting := (s.rallyLane lane).waiting.erase w } :=
  rallyLane_setRallyLane_self ..

theorem launchWaiting_eq (s : State) (lane : Nat) (w : Waiting) : s.launchWaiting lane w = (taken s lane w).launch lane w := rfl

theorem launchWaiting_rallyLane (s : State) (lane : Nat) (w : Waiting) :
    ((s.launchWaiting lane w).rallyLane lane).waiting = (s.rallyLane lane).waiting.erase w ∧
      ((s.launchWaiting lane w).rallyLane lane).busy = true := by
  rw [launchWaiting_eq, launch_rallyLane_self, taken_rallyLane]
  exact ⟨rfl, rfl⟩

theorem launchWaiting_fragment (s : State) (lane : Nat) (hc : w.control = none) (ht : w.type ≠ 2) :
    (s.launchWaiting lane w).emitted = s.emitted ++ [.fragment lane (headerOf (s.rallyLane lane) w w.payload.length) w.payload] := by
  rw [launchWaiting_eq, launch_fragment (taken s lane w) lane hc ht, taken_rallyLane]
  rfl

/-- The first waiting fragment of the priorities before UMZIN leaves. -/
theorem boundary_first (h : (s.rallyLane lane).next 4 = some w) : boundaryLeaves lane s = s.launchWaiting lane w := by
  have h : (s.rallyLane lane).next fTrack = some w := h
  unfold boundaryLeaves
  rw [h]

theorem boundary_track (h : (s.rallyLane lane).next 4 = none) (ht : s.sendTrack lane = some u) : boundaryLeaves lane s = u := by
  have h : (s.rallyLane lane).next fTrack = none := h
  unfold boundaryLeaves
  rw [h, ht]

theorem boundary_second (h : (s.rallyLane lane).next 4 = none) (ht : s.sendTrack lane = none) (hw : (s.rallyLane lane).next 6 = some w) :
    boundaryLeaves lane s = s.launchWaiting lane w := by
  have h : (s.rallyLane lane).next fTrack = none := h
  have hw : (s.rallyLane lane).next fUmzin = some w := hw
  unfold boundaryLeaves
  rw [h, ht, hw]

/-- The contexts whose next line a lane can send. -/
def peersReady (s : State) (lane : Nat) : List Nat :=
  (s.peerSends lane).filter (fun c => s.holdsLine (s.ring c false) (s.nextLine (s.ring c false) (s.exportNext c .peer)))

theorem boundary_stream {c : Nat} (h : (s.rallyLane lane).next 4 = none) (ht : s.sendTrack lane = none) (hw : (s.rallyLane lane).next 6 = none)
    (hexports : s.exports_ = true) (hcarry : s.mayCarry lane 7 = true) (hred : s.clientRed (18 + lane) = false)
    (hready : nextInRound (s.lane lane).served (peersReady s lane) = some c) :
    boundaryLeaves lane s = (s.sendPeer lane c).modLane lane (fun x => { x with served := c }) := by
  have h : (s.rallyLane lane).next fTrack = none := h
  have hw : (s.rallyLane lane).next fUmzin = none := hw
  have hcarry : s.mayCarry lane fStream = true := hcarry
  unfold peersReady at hready
  unfold boundaryLeaves
  rw [h, ht, hw, hexports, hcarry, hred]
  simp only [Bool.not_true, Bool.or_false, Bool.false_eq_true, if_false, hready]

theorem sendFragment_leaves {type hop channel : Nat} {payload : List Byte} (hcarry : s.mayCarry lane type = true)
    (hidle : (s.rallyLane lane).busy = false) (ht : type ≠ 2) :
    ∃ h, (s.sendFragment lane type hop channel payload).emitted = s.emitted ++ [.fragment lane h payload] := by
  rw [State.sendFragment, offer_leaves s lane ⟨type, true, true, hop, channel, payload, none⟩ hcarry hidle]
  exact ⟨_, launch_fragment s lane rfl ht⟩

/-- A TRACK run leaves on a lane that is idle. -/
theorem sendTrack_sends (hidle : (s.rallyLane lane).busy = false) (h : s.sendTrack lane = some u) :
    ∃ k bs, u.emitted = s.emitted ++ [.fragment lane k bs] := by
  unfold State.sendTrack at h
  extract_lets x at h
  obtain ⟨q, -, hq⟩ := List.exists_of_findSome?_eq_some h
  extract_lets e step newest k at hq
  split at hq
  case isTrue => exact absurd hq (by simp)
  case isFalse hno =>
    have hcarry : s.mayCarry lane fTrack = true := by
      by_contra hn
      exact hno (by simp [hn])
    split at hq
    case h_2 => exact absurd hq (by simp)
    case h_1 bs _ =>
      obtain rfl := Option.some.inj hq
      generalize hs : s.setRallyLane lane _ = v
      have hv : v.rallyLane lane = { x with tracks := (q, max (k + 1) newest) :: x.tracks.filter (fun t => t.1 != q) } := by
        rw [← hs, rallyLane_setRallyLane_self]
      have hobj (k : Nat) : v.obj k = s.obj k := by rw [← hs]; rfl
      have hemitted : v.emitted = s.emitted := by rw [← hs]; rfl
      obtain ⟨n, hsent⟩ := sendFragment_leaves (channel := q) (payload := bs) (hop := 0) ((mayCarry_congr hobj lane fTrack).trans hcarry)
        (by rw [hv]; exact hidle) (by decide)
      exact ⟨n, bs, hemitted ▸ hsent⟩

/-! ## Peer streams (R196) -/

/-- The line that a peer context sends next, and where it is in it. -/
def peerLine (s : State) (c : Nat) : Nat := s.nextLine (s.ring c false) (s.exportNext c .peer)

def peerOff (s : State) (c : Nat) : Nat := if (s.peer_ c).line = peerLine s c then (s.peer_ c).off else 0

/-- The record of that line. -/
def peerRec (s : State) (c : Nat) : LineRec := s.recOf (s.ring c false) (peerLine s c)

/-- How many bytes the next fragment has, and whether it is the last. -/
def peerBytes (s : State) (c : Nat) : Nat := min 512 ((peerRec s c).length - peerOff s c)

def peerLast (s : State) (c : Nat) : Bool := decide ((peerRec s c).length ≤ peerOff s c + peerBytes s c)

/-- The fragment. -/
def peerFragment (s : State) (c : Nat) : Peer :=
  ⟨s.node (K.graphNodePeer c) % 4096,
    if peerOff s c = 0 then
      some ⟨peerLine s c, (peerRec s c).stamp, (peerRec s c).position, (peerRec s c).fraction, (peerRec s c).flags, (peerRec s c).gap⟩ else none,
    (List.range (peerBytes s c)).map (fun i => s.byte (s.lineAddr (s.ring c false) (peerLine s c) (peerOff s c + i))), peerLast s c⟩

theorem sendPeer_sends {c : Nat} (h : peerOff s c ≠ 0 ∨ s.linePoisoned (s.ring c false) (peerLine s c) (peerRec s c).length = false) :
    (∃ n, (s.sendPeer lane c).emitted = s.emitted ++ [.stream lane n (peerFragment s c)]) ∧
      ((s.sendPeer lane c).peer_ c).off = if peerLast s c then 0 else peerOff s c + peerBytes s c := by
  unfold State.sendPeer
  extract_lets r k x off lr m last head data n d length id sent kept
  have hno : (decide (off = 0) && s.linePoisoned r k lr.length) = false := by
    rcases h with h | h
    · have h : off ≠ 0 := h
      simp only [h, decide_false, Bool.false_and]
    · have h : s.linePoisoned r k lr.length = false := h
      rw [h, Bool.and_false]
  rw [hno, if_neg Bool.false_ne_true]
  have hkept : kept.emitted = s.emitted ++ [.stream lane (fragHeader fStream (off == 0) last 0 id n.1 length) (peerFragment s c)] := rfl
  have hpeer : (kept.peer_ c).off = if peerLast s c then 0 else peerOff s c + peerBytes s c := by
    rw [show kept.peer_ c = { x with line := k, off := if last then 0 else off + m } from get_put_self ..]
    simp only [peerLast, decide_eq_true_eq]
    rfl
  split
  · exact ⟨⟨_, hkept⟩, hpeer⟩
  · exact ⟨⟨_, hkept⟩, hpeer⟩

end Sys2Proof.Proofs
end

section
/-! # The member's statement -/

set_option Elab.async false

namespace Sys2Proof.Proofs

open Sys2Proof Sys2Proof.Machine Sys2Proof.Laws

variable {s : State} {t lane : Nat} {w : Waiting}

/-- A lane in Rally role that is up. -/
structure RallyOpen (s : State) (lane : Nat) : Prop where
  held : s.held = false
  isLane : lane < laneCount s.variant
  role : 2 ≤ s.roleOfLane lane
  up : s.rallyUp lane = true
  state : s.rallyState ≠ rStandalone

/-- What a boundary of such a lane does. -/
theorem RallyOpen.boundary (h : RallyOpen s lane) {own : State → Prop} (hown : own (boundaryLeaves lane (laneFree (s.begin_ t) lane))) :
    Completes (.fragmentBoundary t lane) s own (fun _ => True) :=
  completes_eventOf (exec_fragmentBoundary t lane s) (decide_eq_true h.isLane) h.held
    (by rwa [fragmentBoundary_eq (s := s.begin_ t) h.role h.up h.state])

/-- A waiting fragment that leaves at a boundary. -/
theorem leaves_boundary (hc : w.control = none) (ht : w.type ≠ 2) :
    let u := (laneFree (s.begin_ t) lane).launchWaiting lane w
    u.emitted = [.fragment lane (headerOf (s.rallyLane lane) w w.payload.length) w.payload] ∧
      (u.rallyLane lane).waiting = (s.rallyLane lane).waiting.erase w ∧ (u.rallyLane lane).busy = true := by
  obtain ⟨hwaiting, hbusy⟩ := launchWaiting_rallyLane (laneFree (s.begin_ t) lane) lane w
  rw [laneFree_rallyLane] at hwaiting
  refine ⟨?_, hwaiting, hbusy⟩
  rw [launchWaiting_fragment _ lane hc ht, laneFree_rallyLane]
  rfl

/-! ## A peer stream at the start of a command -/

theorem lineFrom_congr {u s : State} (r : RingSt) (h : ∀ k, u.holdsLine r k = s.holdsLine r k) (n k : Nat) :
    u.lineFrom r n k = s.lineFrom r n k := by
  induction n generalizing k with
  | zero => rfl
  | succ n ih => simp only [State.lineFrom, h, ih]

theorem nextLine_congr {u s : State} (r : RingSt) (h : ∀ k, u.holdsLine r k = s.holdsLine r k) (k : Nat) : u.nextLine r k = s.nextLine r k := by
  simp only [State.nextLine, lineFrom_congr r h]

section
variable (s : State) (t lane : Nat)

theorem nextLine_free (r : RingSt) (k : Nat) : (laneFree (s.begin_ t) lane).nextLine r k = s.nextLine r k := 
  nextLine_congr (u := laneFree (s.begin_ t) lane) (s := s) r (fun _ => rfl) k

theorem peerLine_free (c : Nat) : peerLine (laneFree (s.begin_ t) lane) c = peerLine s c := nextLine_free ..

theorem peerOff_free (c : Nat) : peerOff (laneFree (s.begin_ t) lane) c = peerOff s c := by
  simp only [peerOff, peerLine_free]
  rfl

theorem peerRec_free (c : Nat) : peerRec (laneFree (s.begin_ t) lane) c = peerRec s c := by
  simp only [peerRec, peerLine_free]
  rfl

theorem peerBytes_free (c : Nat) : peerBytes (laneFree (s.begin_ t) lane) c = peerBytes s c := by
  simp only [peerBytes, peerRec_free, peerOff_free]

theorem peerLast_free (c : Nat) : peerLast (laneFree (s.begin_ t) lane) c = peerLast s c := by
  simp only [peerLast, peerRec_free, peerOff_free, peerBytes_free]

theorem peerFragment_free (c : Nat) : peerFragment (laneFree (s.begin_ t) lane) c = peerFragment s c := by
  simp only [peerFragment, peerLine_free, peerRec_free, peerOff_free, peerBytes_free, peerLast_free]
  rfl

theorem peersReady_free : peersReady (laneFree (s.begin_ t) lane) lane = peersReady s lane := by
  simp only [peersReady, nextLine_free]
  rfl

end

/-- Settles O59: what is sent goes through `State.launch`, whose header, sequence number and payload are stated once; an offer to several
lanes sends on each that is idle and waits on each that has a fragment in flight; the announcement of a line is the next trigger line that
the horizon allows; a version is adopted by the member that announced it since an update of the roles leaves an island an island. -/
theorem membersSend : Obligations.MembersSend := by
  unfold Obligations.MembersSend
  refine ⟨fun s t lane hawake hlane hrole hup hstate => ⟨fun hidle => ?_, fun hbusy => ?_⟩,
    fun s t p target passed num den hheld hp hannounces hon hsource henc hfirst => ?_,
    fun s t p hawake hp hannounces hon hdue => ?_, fun s t v hheld hrole hrunning halone hexcluded hchosen hoffers => ?_,
    fun s t lane hheld hlane hrole hup hstate => ?_⟩
  · have heq := timeSend_eq (s := s.begin_ t) hrole hup hstate
    refine sets_puts (exec_rallyTimeSend t lane s) (decide_eq_true hlane) hawake ?_ ?_
    · rw [heq]
      exact (puts_drawn _).same (puts_offer ..)
    · rw [heq]
      refine ⟨timeSend_leaves hidle, ?_⟩
      rw [offer_leaves (drawn (s.begin_ t)) lane _ (mayCarry_low _ _ (Nat.lt_succ_self 2)) hidle, launch_rallyLane_self]
      exact ⟨rfl, rfl⟩
  · have heq := timeSend_eq (s := s.begin_ t) hrole hup hstate
    refine sets_puts (exec_rallyTimeSend t lane s) (decide_eq_true hlane) hawake ?_ ?_
    · rw [heq]
      exact (puts_drawn _).same (puts_offer ..)
    · rw [heq, offer_waits (drawn (s.begin_ t)) lane _ (mayCarry_low _ _ (Nat.lt_succ_self 2)) hbusy, rallyLane_setRallyLane_self]
      exact ⟨rfl, rfl⟩
  · have hfirst : firstTarget (s.begin_ t) p = some (target, passed, num, den) := hfirst
    have hsent := sharedAnnounce_sends (s := s.begin_ t) hp hannounces hon hsource henc hfirst
    exact completes_eventOf (exec_sharedTriggerAnnounce t p s) (decide_eq_true hp) hheld hsent
  · exact sets_puts (exec_triggerHeartbeat t p s) (decide_eq_true hp) hawake (puts_heartbeat (s := s.begin_ t) hannounces hon hdue)
      (heartbeat_sends (s := s.begin_ t) hannounces hon hdue)
  · exact completes_event (exec_negotiationWindow t s) hheld
      (negotiationWindow_sends (s := s.begin_ t) hrole hrunning halone hexcluded hchosen hoffers)
  · have h : RallyOpen s lane := ⟨hheld, hlane, hrole, hup, hstate⟩
    have hfree := laneFree_rallyLane (s.begin_ t) lane
    have hnext (n : Nat) : ((laneFree (s.begin_ t) lane).rallyLane lane).next n = (s.rallyLane lane).next n := by
      rw [hfree]
      rfl
    refine ⟨fun w hw hc ht => ?_, fun w c hw hc => ?_, fun hw htrack => ?_, fun w hw htrack hlast hc ht => ?_,
      fun c hw htrack hlast hexports hcarry hred hready hwhole => ?_⟩
    · refine h.boundary ?_
      rw [boundary_first ((hnext 4).trans hw)]
      exact leaves_boundary hc ht
    · refine h.boundary ?_
      rw [boundary_first ((hnext 4).trans hw)]
      obtain ⟨n, hsent⟩ := launch_control (taken (laneFree (s.begin_ t) lane) lane w) lane hc
      obtain ⟨hwaiting, -⟩ := launchWaiting_rallyLane (laneFree (s.begin_ t) lane) lane w
      rw [hfree] at hwaiting
      exact ⟨⟨n, hsent⟩, hwaiting⟩
    · refine h.boundary ?_
      obtain ⟨u, hu⟩ := Option.isSome_iff_exists.1 htrack
      rw [boundary_track ((hnext 4).trans hw) hu]
      exact sendTrack_sends (s := laneFree (s.begin_ t) lane) (by rw [hfree]) hu
    · refine h.boundary ?_
      rw [boundary_second ((hnext 4).trans hw) htrack ((hnext 6).trans hlast)]
      exact leaves_boundary hc ht
    · refine h.boundary ?_
      have hready : nextInRound ((laneFree (s.begin_ t) lane).lane lane).served (peersReady (laneFree (s.begin_ t) lane) lane) = some c := by
        rw [peersReady_free]
        exact hready
      rw [boundary_stream ((hnext 4).trans hw) htrack ((hnext 6).trans hlast) hexports hcarry hred hready]
      have hwhole : peerOff s c ≠ 0 ∨ s.linePoisoned (s.ring c false) (peerLine s c) (peerRec s c).length = false := hwhole
      obtain ⟨⟨n, hsent⟩, hoff⟩ := sendPeer_sends (s := laneFree (s.begin_ t) lane) (lane := lane) (c := c)
        (by rw [peerOff_free, peerLine_free, peerRec_free]; exact hwhole)
      rw [peerFragment_free] at hsent
      rw [peerLast_free, peerOff_free, peerBytes_free] at hoff
      exact ⟨⟨n, hsent⟩, hoff, by rw [lane_modLane]⟩

end Sys2Proof.Proofs
end

section
/-! # PREPARE beside a full defect list (R84, R226)

`placer.state` shows in bit 7 that the defect list has overflowed. Step 1 of PREPARE ends with the Placer at work, and that bit stands. -/

set_option Elab.async false

namespace Sys2Proof.Proofs

open Sys2Proof Sys2Proof.Machine Sys2Proof.Laws

/-- A device in step 1 of PREPARE, with nothing to check, whose defect list has overflowed. -/
def overflowPrepares : State :=
  { ((((bootedInRun.poke K.deviceMode mPrepare).poke K.deviceModeTarget mPrepare).poke K.deviceModeStep 1).poke K.placerState 128) with
    trans := { Transition.idle with motion := .prepare, origin := mLoad } }

/-- What the end of step 1 leaves, before the account of how the command ends. -/
abbrev stepEnded : State := xPrepareStepEnd ⟨true, []⟩ (overflowPrepares.begin_ 0)

theorem stepEnded_next : exec (.prepareStepEnd 0 ⟨true, []⟩) overflowPrepares = .next (overflowPrepares.finish stepEnded) :=
  (exec_prepareStepEnd ..).trans (event_next _ _ _ rfl)

theorem stepEnded_placer : stepEnded.obj K.placerState = 129 := by decide +kernel

/-- Refutes O21: its clause on the end of step 1 has `placer.state` read 1, and that of `overflowPrepares` reads 129, as the overflow of the
defect list stays shown. -/
theorem not_prepareGoesOn : ¬ Obligations.PrepareGoesOn := by
  unfold Obligations.PrepareGoesOn
  rintro ⟨hsteps, -, -⟩
  obtain ⟨hfirst, -, -⟩ := hsteps overflowPrepares 0 1 ⟨true, []⟩ (by decide +kernel) (by decide +kernel) (by decide +kernel)
    (by decide +kernel) (by decide +kernel) (by decide +kernel)
  obtain ⟨u, hu, ⟨-, -, hplacer, -⟩, -⟩ := hfirst rfl (by decide +kernel)
  have hsame : overflowPrepares.finish stepEnded = overflowPrepares.finish u := Host.Outcome.next.inj (stepEnded_next.symm.trans hu)
  have hobj : stepEnded.obj K.placerState = u.obj K.placerState :=
    obj_of_finish_eq (by decide +kernel) (by decide) (fun v => by cases v <;> decide +kernel) (by decide +kernel) (by decide +kernel)
      (by decide +kernel) hsame
  exact absurd (stepEnded_placer.symm.trans (hobj.trans hplacer)) (by decide)

end Sys2Proof.Proofs
end

section
/-! # Steps of a substitution (R233)

What a step of a substitution does to the substitutions and to an object that each context has. -/

set_option Elab.async false

namespace Sys2Proof.Proofs

open Sys2Proof Sys2Proof.Machine Sys2Proof.Laws

variable {s u v : State} {old c : Nat} {cs : List Nat}

/-! ## What leaves the substitutions and their states alone -/

/-- State u has the substitutions of state s, and every object of the subindex of `ctx[c].swap_state`, which no object of a tile has. -/
structure KeepsSwaps (u s : State) : Prop where
  swaps : u.swaps = s.swaps
  obj : ∀ i, u.obj (key i 0x15) = s.obj (key i 0x15)

theorem KeepsSwaps.refl (s : State) : KeepsSwaps s s := ⟨rfl, fun _ => rfl⟩

theorem KeepsSwaps.trans (h : KeepsSwaps u v) (g : KeepsSwaps v s) : KeepsSwaps u s := ⟨h.swaps.trans g.swaps, fun i => (h.obj i).trans (g.obj i)⟩

theorem KeepsSwaps.ite {p : Prop} [Decidable p] (h : KeepsSwaps u s) (g : KeepsSwaps v s) : KeepsSwaps (if p then u else v) s := by
  split
  · exact h
  · exact g

theorem keepsSwaps_foldl {β : Type} (f : State → β → State) (xs : List β) (s : State) (h : ∀ t x, KeepsSwaps (f t x) t) :
    KeepsSwaps (xs.foldl f s) s := by
  induction xs generalizing s with
  | nil => exact .refl s
  | cons x xs ih => exact (ih (f s x)).trans (h s x)

theorem keepsSwaps_of_dict (hv : u.variant = s.variant) (hd : u.dict = s.dict) (hs : u.swaps = s.swaps) : KeepsSwaps u s :=
  ⟨hs, fun _ => by simp only [State.obj, hv, hd]⟩

theorem keepsSwaps_set (s : State) {i j : Nat} (x : Nat) (h : 0x15 ≠ j) (hj : j < 256) : KeepsSwaps (s.set (key i j) x) s :=
  ⟨set_swaps .., fun _ => obj_set_ne _ _ (key_ne (by decide) hj (.inr h))⟩

theorem keepsSwaps_modTile (s : State) (n : Nat) (f : Tile → Tile) : KeepsSwaps (s.modTile n f) s := keepsSwaps_of_dict rfl rfl rfl

theorem keepsSwaps_setSel (s : State) (n half bus : Nat) : KeepsSwaps (s.setSel n half bus) s := by
  unfold State.setSel
  split
  · exact keepsSwaps_set _ _ (by decide) (by decide)
  · exact keepsSwaps_set _ _ (by decide) (by decide)

theorem keepsSwaps_joinSel (s : State) (n half bus : Nat) : KeepsSwaps (s.joinSel n half bus) s :=
  .ite (.refl s) (keepsSwaps_setSel s n half bus)

theorem keepsSwaps_inUse (s : State) {i j : Nat} (x : Nat) (h : 0x15 ≠ j) (hj : j < 256) : KeepsSwaps (s.inUse (key i j) x) s :=
  .ite (keepsSwaps_of_dict rfl rfl rfl) (.ite (.refl s) (keepsSwaps_set s x h hj))

theorem keepsSwaps_enterSlot (s : State) (n slot : Nat) : KeepsSwaps (s.enterSlot n slot) s := by
  unfold State.enterSlot
  split
  · exact .refl s
  · extract_lets t gained lit
    have hgained : KeepsSwaps gained s := keepsSwaps_inUse _ _ (by decide) (by decide)
    have hlit : KeepsSwaps lit gained := .ite (keepsSwaps_inUse _ _ (by decide) (by decide)) (.refl _)
    exact (keepsSwaps_joinSel _ _ _ _).trans (hlit.trans hgained)

theorem keepsSwaps_joinBuses (s : State) (n : Nat) (cs : List Nat) : KeepsSwaps (s.joinBuses n cs) s :=
  keepsSwaps_foldl _ _ _ fun t _ => .ite (.ite (.refl t) (.ite (keepsSwaps_enterSlot t n _) (keepsSwaps_joinSel t n _ _)))
    (keepsSwaps_joinSel t n _ _)

theorem keepsSwaps_setMon (s : State) (m : Nat) (x : Mon) : KeepsSwaps (s.setMon m x) s := keepsSwaps_of_dict rfl rfl rfl

theorem keepsSwaps_monitorsOf (s : State) (n : Nat) (on : Bool) : KeepsSwaps (s.monitorsOf n on) s :=
  keepsSwaps_foldl _ _ _ fun _ _ => (keepsSwaps_setMon ..).trans (keepsSwaps_set _ _ (by decide) (by decide))

theorem keepsSwaps_showFill (s : State) (n : Nat) : KeepsSwaps (s.showFill n) s := by
  unfold State.showFill
  extract_lets f t
  have ht : KeepsSwaps t s := keepsSwaps_set _ _ (by decide) (by decide)
  exact .ite ((keepsSwaps_set _ _ (by decide) (by decide)).trans ht) ht

theorem keepsSwaps_acquire (s : State) (n : Nat) : KeepsSwaps (s.acquire n) s :=
  .ite ((keepsSwaps_set _ _ (by decide) (by decide)).trans (keepsSwaps_modTile ..)) (.refl s)

theorem keepsSwaps_setIlv (s : State) (n : Nat) (o : Int) (g : Nat) (k : Int) : KeepsSwaps (s.setIlv n o g k) s :=
  (keepsSwaps_set _ _ (by decide) (by decide)).trans ((keepsSwaps_set _ _ (by decide) (by decide)).trans
    (keepsSwaps_set _ _ (by decide) (by decide)))

theorem keepsSwaps_tileOn (s : State) (n : Nat) : KeepsSwaps (s.tileOn n) s := by
  unfold State.tileOn
  extract_lets watched shown c held
  have hshown : KeepsSwaps shown s := (keepsSwaps_showFill _ _).trans ((keepsSwaps_modTile ..).trans (keepsSwaps_monitorsOf s n true))
  exact .ite ((keepsSwaps_acquire _ _).trans ((keepsSwaps_setIlv _ _ _ _ _).trans hshown)) hshown

theorem keepsSwaps_holdMonitors (s : State) (n : Nat) (on : Bool) : KeepsSwaps (s.holdMonitors n on) s := by
  exact keepsSwaps_foldl _ _ _ fun t i => keepsSwaps_set _ _ (by decide) (by decide)

theorem calResultKey_eq' (kind n : Nat) : ∃ i j, calResultKey kind n = key i j ∧ j < 16 := by
  unfold calResultKey
  split
  · exact ⟨_, _, rfl, by decide⟩
  · exact ⟨_, _, rfl, by decide⟩

theorem keepsSwaps_result (s : State) (kind n x : Nat) : KeepsSwaps (s.set (calResultKey kind n) x) s := by
  obtain ⟨i, j, h, hj⟩ := calResultKey_eq' kind n
  rw [h]
  exact keepsSwaps_set _ _ (by omega) (by omega)

theorem keepsSwaps_beginRuns (s : State) (n : Nat) : KeepsSwaps (s.beginRuns n) s := by
  unfold State.beginRuns
  extract_lets k shown lit running joined held
  have hrunning : KeepsSwaps running s := (keepsSwaps_modTile ..).trans ((keepsSwaps_set _ _ (by decide) (by decide)).trans (keepsSwaps_result s k n 2))
  have hjoined : KeepsSwaps joined s := (KeepsSwaps.ite (.refl running) (keepsSwaps_setSel _ _ _ _)).trans hrunning
  have hheld : KeepsSwaps held s := (keepsSwaps_holdMonitors _ _ _).trans ((KeepsSwaps.ite (keepsSwaps_setSel _ _ _ _) (.refl joined)).trans hjoined)
  exact .ite hrunning ((keepsSwaps_set _ _ (by decide) (by decide)).trans ((keepsSwaps_set _ _ (by decide) (by decide)).trans hheld))

theorem keepsSwaps_showCal (s : State) : KeepsSwaps s.showCal s := by
  unfold State.showCal
  extract_lets ns queued running
  have h : KeepsSwaps running s := (keepsSwaps_set _ _ (by decide) (by decide)).trans (keepsSwaps_set _ _ (by decide) (by decide))
  exact .ite h ((keepsSwaps_set _ _ (by decide) (by decide)).trans h)

theorem keepsSwaps_calibrateSpare (s : State) (n : Nat) : KeepsSwaps (s.calibrateSpare n) s :=
  (keepsSwaps_showCal _).trans (keepsSwaps_foldl _ _ _ fun _ _ =>
    (keepsSwaps_beginRuns _ _).trans ((keepsSwaps_result _ _ _ _).trans (keepsSwaps_modTile ..)))

theorem keepsSwaps_startTile (s : State) (n : Nat) : KeepsSwaps (s.startTile n) s :=
  keepsSwaps_set _ _ (by decide) (by decide)

/-! ## The substitution of a tile, and what its contexts show -/

/-- A substitution at a step. -/
def atStep (k : Nat) (w : Swap) : Swap := { w with step := k }

theorem swapOf_congr (h : u.swaps = s.swaps) (old : Nat) : u.swapOf old = s.swapOf old := by rw [State.swapOf, h, State.swapOf]

theorem find_map_old {f : Swap → Swap} (hf : ∀ w, (f w).old = w.old) (ws : List Swap) (old : Nat) :
    (ws.map (fun w => if w.old = old then f w else w)).find? (fun w => w.old == old) = (ws.find? (fun w => w.old == old)).map f := by
  induction ws with
  | nil => rfl
  | cons w ws ih =>
    by_cases h : w.old = old
    · simp [h, hf]
    · simp [h, ih]

theorem swapOf_setSwap {f : Swap → Swap} (hf : ∀ w, (f w).old = w.old) (s : State) (old : Nat) :
    (s.setSwap old f).swapOf old = (s.swapOf old).map f := find_map_old hf s.swaps old

theorem obj_setSwap (s : State) (old : Nat) (f : Swap → Swap) (k : Nat) : (s.setSwap old f).obj k = s.obj k := rfl

theorem setSwapState_swaps (s : State) (cs : List Nat) (x : Nat) : (s.setSwapState cs x).swaps = s.swaps :=
  foldl_keeps State.swaps _ _ _ fun _ _ => set_swaps ..

theorem ctxSwapState_injective {c d : Nat} (h : K.ctxSwapState c = K.ctxSwapState d) : c = d := by
  simp only [K.ctxSwapState, key] at h
  omega

theorem setSwapState_obj_of (s : State) (cs : List Nat) (x : Nat) (h : c ∈ cs ∨ s.obj (K.ctxSwapState c) = x) :
    (s.setSwapState cs x).obj (K.ctxSwapState c) = x := by
  induction cs generalizing s with
  | nil => exact h.resolve_left List.not_mem_nil
  | cons d cs ih =>
    refine ih (s.set (K.ctxSwapState d) x) ?_
    by_cases hd : c = d
    · exact .inr (hd ▸ obj_set_self ..)
    · rcases h with h | h
      · exact .inl ((List.mem_cons.1 h).resolve_left hd)
      · exact .inr ((obj_set_ne _ _ fun he => hd (ctxSwapState_injective he)).trans h)

theorem setSwapState_obj (s : State) (x : Nat) (hc : c ∈ cs) : (s.setSwapState cs x).obj (K.ctxSwapState c) = x :=
  setSwapState_obj_of s cs x (.inl hc)

/-! ## The steps -/

/-- The end of step 2: the spare starts. -/
theorem substStep_two {x : Swap} (h : s.swapOf old = some x) (hx : x.step = 2) :
    xSubstStep old true s = ((s.calMembers x.spare).foldl (fun st m => st.startTile m) s).setSwap old (atStep 3) := by
  unfold xSubstStep
  simp only [h, hx, Nat.reduceEqDiff, decide_false, Bool.or_false, Bool.false_eq_true, if_false, Bool.not_true, Bool.false_and]
  rfl

/-- The spare is on and reads the buses of the contexts. -/
def spareOn (s : State) (spare : Nat) (cs : List Nat) : State :=
  (s.calMembers spare).foldl (fun st m => ((st.set (K.tileStatus m) (enEnd (st.obj (K.tileStatus m)))).tileOn m).joinBuses m cs) s

/-- The end of step 3: the spare is on and calibrates. -/
theorem substStep_three {x : Swap} (h : s.swapOf old = some x) (hx : x.step = 3) :
    xSubstStep old true s = (((spareOn s x.spare (s.tileCtxs old)).setSwapState (s.tileCtxs old) 2).setSwap old (atStep 4)).calibrateSpare x.spare := by
  unfold xSubstStep
  simp only [h, hx, Nat.reduceEqDiff, decide_false, Bool.or_false, Bool.false_eq_true, if_false, Bool.not_true, Bool.false_and]
  rfl

/-- The end of step 5. -/
theorem substStep_five {x : Swap} (h : s.swapOf old = some x) (hx : x.step = 5) :
    xSubstStep old true s = (s.setSwapState (s.tileCtxs old) 4).setSwap old (atStep 6) := by
  unfold xSubstStep
  simp only [h, hx, Nat.reduceEqDiff, decide_false, Bool.or_false, Bool.false_eq_true, if_false, Bool.not_true, Bool.false_and]
  rfl

/-- The tiles that the old one of a substitution stands for at its end. -/
def oldMembers (s : State) (old spare : Nat) : List Nat := if s.adcMode spare = 3 then [old, old + 1] else [old]

/-- The old tiles are off. -/
def oldOff (s : State) (ms : List Nat) : State := ms.foldl (fun st m => (st.set (K.tileStatus m) (enByte (st.obj (K.tileStatus m)) eOff 0)).tileOff m) s

/-- The end of step 8. -/
theorem substStep_eight {x : Swap} (h : s.swapOf old = some x) (hx : x.step = 8) :
    xSubstStep old true s = ((oldOff s (oldMembers s old x.spare)).dropSwap old).pumpSwaps := by
  unfold xSubstStep
  simp only [h, hx, Nat.reduceEqDiff, decide_false, Bool.or_false, Bool.false_eq_true, if_false, Bool.not_true, Bool.false_and]
  rfl

end Sys2Proof.Proofs
end

section
/-! # The enable nibble of a tile, through the work of a substitution on any tile -/

set_option Elab.async false

namespace Sys2Proof.Proofs

open Sys2Proof Sys2Proof.Machine Sys2Proof.Laws

variable {s u v : State} {old m : Nat}

/-! ## Writes of tiles -/

/-- A tile's status against an object of any tile in another row, or with another subindex. -/
theorem tileStatus_ne_row {i b : Nat} (hb : b < 256) (h : i % 16 ≠ 6 ∨ b ≠ 1) : K.tileStatus old ≠ key (i + 16 * m) b :=
  key_ne (by decide) hb (by omega)

theorem nibble_tile (s : State) {i b : Nat} (x : Nat) (hb : b < 256) (h : i % 16 ≠ 6 ∨ b ≠ 1) :
    KeepsNibble (K.tileStatus old) (s.set (key (i + 16 * m) b) x) s :=
  keepsNibble_set _ _ (tileStatus_ne_row hb h)

theorem nibble_force1 (s : State) {i b : Nat} (x : Nat) (hb : b < 256) (h : i % 16 ≠ 6 ∨ b ≠ 1) :
    KeepsNibble (K.tileStatus old) (s.force1 (key (i + 16 * m) b) x) s :=
  keepsNibble_force1 s x (tileStatus_ne_row hb h)

/-- Flags of a status byte above its nibble. -/
theorem nibble_statusBits (s : State) (m x : Nat) (h : x % 16 = s.obj (K.tileStatus m) % 16) :
    KeepsNibble (K.tileStatus old) (s.set (K.tileStatus m) x) s := by
  by_cases hm : old = m
  · subst hm
    exact (congrArg (· % 16) (obj_set_self s _ x)).trans h
  · exact keepsNibble_set _ _ (key_ne (by decide) (by decide) (.inl (by omega)))

theorem nibble_foldl {k : Nat} {β : Type} (f : State → β → State) (xs : List β) (h : ∀ t, ∀ x ∈ xs, KeepsNibble k (f t x) t) (s : State) :
    KeepsNibble k (xs.foldl f s) s := by
  induction xs generalizing s with
  | nil => exact .refl k s
  | cons x xs ih => exact (ih (fun t y hy => h t y (List.mem_cons_of_mem _ hy)) _).trans (h s x (List.mem_cons_self ..))

theorem nibble_forceAll (s : State) (vs : List (Nat × Nat × Nat)) (hvs : ∀ e ∈ vs, e.1 % 16 ≠ 6 ∧ e.2.1 < 256) :
    KeepsNibble (K.tileStatus old) (forceAll m s vs) s := by
  induction vs generalizing s with
  | nil => exact .refl _ s
  | cons e vs ih =>
    obtain ⟨hrow, hsub⟩ := hvs e (List.mem_cons_self ..)
    exact (ih _ fun d hd => hvs d (List.mem_cons_of_mem _ hd)).trans (nibble_force1 s _ hsub (.inl hrow))

theorem nibble_writeFe (s : State) (half fe : Nat) : KeepsNibble (K.tileStatus old) (s.writeFe m half fe) s := by
  have hhalf : ∀ e ∈ feHalf half fe, e.1 % 16 ≠ 6 ∧ e.2.1 < 256 := by
    unfold feHalf
    split <;> simp
  rw [writeFe_eq]
  exact (nibble_forceAll _ _ (by simp [feBoth])).trans (nibble_forceAll s _ hhalf)

theorem nibble_writeAdc (s : State) (d : Node) (div phase : Nat) : KeepsNibble (K.tileStatus old) (s.writeAdc m d div phase) s := by
  unfold State.writeAdc
  extract_lets osr fs valid timed phased
  have hset (t : State) (k x : Nat) (hk : k < 256) : KeepsNibble (K.tileStatus old) (t.set (key (0x3008 + 16 * m) k) x) t :=
    nibble_tile t x hk (.inl (by decide))
  have hvalid : KeepsNibble (K.tileStatus old) valid s := keepsNibble_ite (.refl _ s) (nibble_tile (i := 0x300E) s _ (by decide) (.inl (by decide)))
  have htimed : KeepsNibble (K.tileStatus old) timed s :=
    (hset _ 3 _ (by decide)).trans ((hset _ 2 _ (by decide)).trans ((hset _ 1 _ (by decide)).trans hvalid))
  have hphased : KeepsNibble (K.tileStatus old) phased s := (nibble_force1 (i := 0x3008) (b := 6) _ _ (by decide) (.inl (by decide))).trans
    ((hset _ 5 _ (by decide)).trans ((hset _ 4 _ (by decide)).trans htimed))
  exact (hset _ 10 _ (by decide)).trans hphased

theorem nibble_reportBiquad (s : State) : KeepsNibble (K.tileStatus old) (s.reportBiquad m) s := by
  unfold State.reportBiquad
  extract_lets f r u
  have hdrawn : KeepsNibble (K.tileStatus old) r.2 s := keepsNibble_of_obj rfl
  have hreal : KeepsNibble (K.tileStatus old) u s := (nibble_tile (i := 0x3002) (b := 4) _ _ (by decide) (.inl (by decide))).trans hdrawn
  exact (nibble_tile (i := 0x3002) (b := 5) _ _ (by decide) (.inl (by decide))).trans hreal

theorem withBit_six_nibble (v : Nat) (b : Bool) : withBit v 6 b % 16 = v % 16 := by
  rw [← Nat.mod_mod_of_dvd (withBit v 6 b) (by decide : 16 ∣ 2 ^ 6), withBit_mod, Nat.mod_mod_of_dvd v (by decide : 16 ∣ 2 ^ 6)]

theorem nibble_writeScan (s : State) (g : List Node) : KeepsNibble (K.tileStatus old) (s.writeScan m g) s := by
  have hset (t : State) (k x : Nat) (hk : k < 256) : KeepsNibble (K.tileStatus old) (t.set (key (0x3004 + 16 * m) k) x) t :=
    nibble_tile t x hk (.inl (by decide))
  unfold State.writeScan
  extract_lets table start cycle
  have htable : KeepsNibble (K.tileStatus old) table s := (nibble_force1 (i := 0x3004) (b := 5) _ _ (by decide) (.inl (by decide))).trans
    ((hset _ 2 _ (by decide)).trans (hset _ 1 _ (by decide)))
  have hcycle : KeepsNibble (K.tileStatus old) cycle s := (hset _ 4 _ (by decide)).trans ((hset _ 3 _ (by decide)).trans htable)
  exact (nibble_statusBits _ m _ (withBit_six_nibble ..)).trans hcycle

theorem nibble_writeTile (s : State) (half c div phase : Nat) : KeepsNibble (K.tileStatus old) (s.writeTile m half c div phase) s := by
  unfold State.writeTile
  extract_lets d form fe adc report g
  clear_value d
  have hform : KeepsNibble (K.tileStatus old) form s := nibble_tile (i := 0x3000) s _ (by decide) (.inl (by decide))
  have hfe : KeepsNibble (K.tileStatus old) fe s := (nibble_writeFe form half d.fe).trans hform
  have hadc : KeepsNibble (K.tileStatus old) adc s := keepsNibble_ite hfe ((nibble_writeAdc fe d div phase).trans hfe)
  have hreport : KeepsNibble (K.tileStatus old) report s := (nibble_reportBiquad adc).trans hadc
  clear_value report g
  have hpartner (x : Nat) : KeepsNibble (K.tileStatus old) (report.set (K.tileRoutePartner m) x) s :=
    (nibble_tile (i := 0x3003) (b := 3) report x (by decide) (.inl (by decide))).trans hreport
  exact keepsNibble_ite (keepsNibble_ite ((nibble_writeScan report g).trans hreport) hreport) (hpartner _)

theorem nibble_copyMonitors (s : State) (a n : Nat) : KeepsNibble (K.tileStatus old) (s.copyMonitors a n) s := by
  unfold State.copyMonitors
  extract_lets move copied tabled
  have hcopied : KeepsNibble (K.tileStatus old) copied s := by
    refine nibble_foldl _ _ (fun t i hi => ?_) s
    have hi : i < 2 := List.mem_range.1 hi
    refine nibble_foldl _ _ (fun v b hb => keepsNibble_set _ _ (key_ne (by decide) ?_ (.inl (by omega)))) t
    simp only [List.mem_cons, List.not_mem_nil, or_false] at hb
    omega
  clear_value copied
  have htabled : KeepsNibble (K.tileStatus old) tabled s := by
    refine KeepsNibble.trans ?_ hcopied
    unfold tabled
    split <;> exact keepsNibble_of_obj rfl
  exact (nibble_tile (i := 0x300F) (b := 2) _ _ (by decide) (.inl (by decide))).trans htabled

theorem nibble_writeSpare (s : State) (a n : Nat) : KeepsNibble (K.tileStatus old) (s.writeSpare a n) s := by
  unfold State.writeSpare
  extract_lets cs div paired
  refine keepsNibble_foldl _ (fun st c => ?_) cs s
  extract_lets ph written
  have hwritten : KeepsNibble (K.tileStatus old) written st := nibble_writeTile st ..
  clear_value written
  exact keepsNibble_ite ((nibble_writeTile written ..).trans hwritten) hwritten

/-! ## A tile that is off -/

theorem nibble_mon (s : State) {i b : Nat} (x : Nat) (hb : b < 256) (h : b ≠ 1) : KeepsNibble (K.tileStatus old) (s.set (key i b) x) s :=
  keepsNibble_set _ _ (key_ne (by decide) hb (.inr h.symm))

theorem nibble_monitorsOf (s : State) (n : Nat) (on : Bool) : KeepsNibble (K.tileStatus old) (s.monitorsOf n on) s :=
  keepsNibble_foldl _ (fun t i => by
    have hstate (x : Nat) : KeepsNibble (K.tileStatus old) (t.set (K.tileMonState n i) x) t := nibble_mon t x (by decide) (by decide)
    exact hstate _) _ _

theorem nibble_clearHalfB (s : State) (n : Nat) : KeepsNibble (K.tileStatus old) (s.clearHalfB n) s := by
  have hfe (t : State) {i b : Nat} (x : Nat) (hb : b < 256) (h : i % 16 ≠ 6) : KeepsNibble (K.tileStatus old) (t.force1 (key (i + 16 * n) b) x) t :=
    nibble_force1 t x hb (.inl h)
  simp only [State.clearHalfB, List.foldl_cons, List.foldl_nil]
  exact (hfe (i := 0x3002) _ _ (by decide) (by decide)).trans ((hfe (i := 0x3000) _ _ (by decide) (by decide)).trans
    ((hfe (i := 0x3000) _ _ (by decide) (by decide)).trans (hfe (i := 0x3000) _ _ (by decide) (by decide))))

theorem nibble_tileOff (s : State) (n : Nat) : KeepsNibble (K.tileStatus old) (s.tileOff n) s := by
  have hset (t : State) {i b : Nat} (x : Nat) (hb : b < 256) (h : i % 16 ≠ 6) : KeepsNibble (K.tileStatus old) (t.set (key (i + 16 * n) b) x) t :=
    nibble_tile t x hb (.inl h)
  unfold State.tileOff
  extract_lets formless routed unscanned b
  have hformless : KeepsNibble (K.tileStatus old) formless s :=
    (hset (i := 0x3000) _ _ (by decide) (by decide)).trans ((hset (i := 0x3003) _ _ (by decide) (by decide)).trans
      ((hset (i := 0x3003) _ _ (by decide) (by decide)).trans (nibble_monitorsOf ..)))
  have hrouted : KeepsNibble (K.tileStatus old) routed formless :=
    (hset (i := 0x3003) _ _ (by decide) (by decide)).trans ((hset (i := 0x3003) _ _ (by decide) (by decide)).trans
      (hset (i := 0x3008) _ _ (by decide) (by decide)))
  have hunscanned : KeepsNibble (K.tileStatus old) unscanned routed :=
    (hset (i := 0x3009) _ _ (by decide) (by decide)).trans ((hset (i := 0x3004) _ _ (by decide) (by decide)).trans
      (hset (i := 0x3004) _ _ (by decide) (by decide)))
  clear_value unscanned routed formless
  have hcleared : KeepsNibble (K.tileStatus old) (unscanned.set (K.tileStatus n) (withBits b 7 5 0)) unscanned :=
    nibble_statusBits unscanned n _ (by
      have h := keepsNibble_flagsCleared unscanned n
      unfold KeepsNibble at h
      rwa [obj_set_self] at h)
  exact (nibble_clearHalfB ..).trans (hcleared.trans (hunscanned.trans (hrouted.trans hformless)))

end Sys2Proof.Proofs
end

section
/-! # The end of a substitution (R233 step 8) -/

set_option Elab.async false

namespace Sys2Proof.Proofs

open Sys2Proof Sys2Proof.Machine Sys2Proof.Laws

variable {s u v : State} {old : Nat}

/-! ## What lets a substitution stay ended -/

/-- Where no substitution of a tile runs, none begins; and the tile's enable nibble stays. -/
structure KeepsEnded (old : Nat) (u s : State) : Prop where
  nibble : KeepsNibble (K.tileStatus old) u s
  ended : (∀ w ∈ s.swaps, w.old ≠ old) → ∀ w ∈ u.swaps, w.old ≠ old

theorem KeepsEnded.refl (old : Nat) (s : State) : KeepsEnded old s s := ⟨.refl _ s, id⟩

theorem KeepsEnded.trans (h : KeepsEnded old u v) (g : KeepsEnded old v s) : KeepsEnded old u s := ⟨h.nibble.trans g.nibble, h.ended ∘ g.ended⟩

theorem keepsEnded_foldl {β : Type} (f : State → β → State) (xs : List β) (h : ∀ t, ∀ x ∈ xs, KeepsEnded old (f t x) t) (s : State) :
    KeepsEnded old (xs.foldl f s) s := by
  induction xs generalizing s with
  | nil => exact .refl old s
  | cons x xs ih => exact (ih (fun t y hy => h t y (List.mem_cons_of_mem _ hy)) _).trans (h s x (List.mem_cons_self ..))

theorem keepsEnded_of_swaps (hnibble : KeepsNibble (K.tileStatus old) u s) (hswaps : u.swaps = s.swaps) : KeepsEnded old u s :=
  ⟨hnibble, fun h w hw => h w (hswaps ▸ hw)⟩

theorem keepsEnded_set (s : State) {i b : Nat} (x : Nat) (hb : b < 256) (h : b ≠ 1) : KeepsEnded old (s.set (key i b) x) s :=
  keepsEnded_of_swaps (nibble_mon s x hb h) (set_swaps ..)

theorem keepsEnded_setSwapState (s : State) (cs : List Nat) (x : Nat) : KeepsEnded old (s.setSwapState cs x) s :=
  keepsEnded_foldl _ _ (fun t _ _ => keepsEnded_set t _ (by decide) (by decide)) _

theorem keepsEnded_loseSource (s : State) (c cause : Nat) : KeepsEnded old (s.loseSource c cause) s := by
  have hcause (t : State) : KeepsEnded old (t.set (K.ctxCause c) cause) t := keepsEnded_set t _ (by decide) (by decide)
  have hmod (f : Ctx → Ctx) : KeepsEnded old (s.modCtx c f) s := keepsEnded_of_swaps (keepsNibble_of_obj rfl) rfl
  unfold State.loseSource
  extract_lets st
  split
  · exact hmod _
  · split
    · exact (hcause _).trans (hmod _)
    · split
      · exact (hcause _).trans (hmod _)
      · exact .refl old s

theorem tileStatus_low (hold : old < 256) : K.tileStatus old < 0x700000 := by
  simp only [K.tileStatus, key]
  omega

theorem keepsEnded_raise (hold : old < 256) (s : State) (n d : Nat) : KeepsEnded old (s.raise n d) s :=
  keepsEnded_of_swaps (keepsNibble_of_obj (obj_raise_of_lt _ _ _ (tileStatus_low hold))) (raise_swaps ..)

theorem nibble_dropSwap (s : State) (a : Nat) : KeepsNibble (K.tileStatus old) (s.dropSwap a) s :=
  (keepsNibble_set _ _ (key_ne (by decide) (by decide) (.inl (by omega)))).trans (keepsNibble_of_obj rfl)

theorem keepsEnded_dropSwap (s : State) (a : Nat) : KeepsEnded old (s.dropSwap a) s := by
  refine ⟨nibble_dropSwap s a, fun h w hw => h w ?_⟩
  exact List.mem_of_mem_filter (hw : w ∈ s.swaps.filter _)

theorem keepsEnded_spareless (hold : old < 256) (s : State) (w : Swap) : KeepsEnded old (spareless s w) s :=
  (keepsEnded_raise hold ..).trans ((keepsEnded_foldl _ _ (fun _ _ _ => keepsEnded_loseSource ..) _).trans
    ((keepsEnded_setSwapState ..).trans (keepsEnded_dropSwap ..)))

theorem keepsEnded_spareNoted (s : State) (w : Swap) (t : Nat) : KeepsEnded old (spareNoted s w t) s := by
  refine ⟨keepsNibble_of_obj rfl, fun h x hx => ?_⟩
  obtain ⟨y, hy, rfl⟩ := List.mem_map.1 hx
  have hold := h y hy
  split
  · exact hold
  · exact hold

theorem keepsEnded_spareShown (s : State) (w : Swap) (t : Nat) : KeepsEnded old (spareShown s w t) s :=
  (keepsEnded_setSwapState ..).trans ((keepsEnded_foldl _ _ (fun v _ _ => keepsEnded_set v _ (by decide) (by decide)) _).trans
    (keepsEnded_spareNoted s w t))

theorem nibble_spareWritten (s : State) (w : Swap) (t : Nat) (ms : List (Nat × Nat)) :
    KeepsNibble (K.tileStatus old) (ms.foldl (fun st m => st.copyMonitors m.1 m.2) (spareTaken s w t)) (spareShown s w t) :=
  (keepsNibble_foldl (fun (st : State) (m : Nat × Nat) => st.copyMonitors m.1 m.2) (fun v m => nibble_copyMonitors v m.1 m.2) ms _).trans
    (nibble_writeSpare ..)

theorem keepsEnded_reserveSpare (hold : old < 256) (s : State) (w : Swap) : KeepsEnded old (s.reserveSpare w) s := by
  rw [reserveSpare_eq]
  cases hpick : pickSpare s w with
  | none => exact keepsEnded_spareless hold s w
  | some t =>
    obtain ⟨ht, hpair⟩ := pickSpare_lt hpick
    exact (keepsEnded_of_swaps (nibble_spareWritten s w t _) (inTiles_spareWritten s w ht hpair).swaps).trans (keepsEnded_spareShown s w t)

theorem keepsEnded_pumpSwapsFrom (hold : old < 256) (s : State) (ws : List Swap) : KeepsEnded old (s.pumpSwapsFrom ws) s := by
  induction ws generalizing s with
  | nil => exact .refl old s
  | cons w ws ih =>
    rw [State.pumpSwapsFrom]
    split
    · exact (ih _).trans (keepsEnded_reserveSpare hold s w)
    · exact ih s

/-! ## The old tile is off -/

/-- A tile that the end of a substitution turns off. -/
def tileEnded (s : State) (n : Nat) : State := (s.set (K.tileStatus n) (enByte (s.obj (K.tileStatus n)) eOff 0)).tileOff n

theorem oldOff_eq (s : State) (ms : List Nat) : oldOff s ms = ms.foldl tileEnded s := rfl

theorem enByte_off (b : Nat) : enByte b eOff 0 % 16 = 0 := by
  rw [enByte_eq b (by decide)]
  simp only [eOff]
  omega

theorem KeepsNibble.eq {k x : Nat} (h : KeepsNibble k u s) (hx : s.obj k % 16 = x) : u.obj k % 16 = x := Eq.trans h hx

theorem tileEnded_self (s : State) : (tileEnded s old).obj (K.tileStatus old) % 16 = 0 := by
  refine (nibble_tileOff (s.set (K.tileStatus old) (enByte (s.obj (K.tileStatus old)) eOff 0)) old).eq ?_
  rw [obj_set_self]
  exact enByte_off _

theorem nibble_tileEnded (s : State) {n : Nat} (h : old ≠ n) : KeepsNibble (K.tileStatus old) (tileEnded s n) s :=
  (nibble_tileOff _ n).trans (keepsNibble_set _ _ (key_ne (by decide) (by decide) (.inl (by omega))))

theorem oldOff_state (s : State) (old spare : Nat) : (oldOff s (oldMembers s old spare)).obj (K.tileStatus old) % 16 = 0 := by
  have hself := tileEnded_self (old := old) s
  rw [oldOff_eq]
  unfold oldMembers
  split
  · have hnext : KeepsNibble (K.tileStatus old) (tileEnded (tileEnded s old) (old + 1)) (tileEnded s old) :=
      nibble_tileEnded _ (Nat.ne_of_lt (Nat.lt_succ_self old))
    rw [List.foldl_cons, List.foldl_cons, List.foldl_nil]
    generalize tileEnded (tileEnded s old) (old + 1) = u at hnext ⊢
    exact hnext.eq hself
  · rw [List.foldl_cons, List.foldl_nil]
    exact hself

theorem keepsEnded_pumpSwaps (hold : old < 256) (s : State) : KeepsEnded old s.pumpSwaps s := keepsEnded_pumpSwapsFrom hold s _

theorem swapOf_none (h : ∀ w ∈ s.swaps, w.old ≠ old) : s.swapOf old = none :=
  List.find?_eq_none.2 fun w hw he => h w hw (by simpa using he)

theorem dropSwap_none (s : State) (old : Nat) : ∀ w ∈ (s.dropSwap old).swaps, w.old ≠ old := fun w hw he => by
  have hkept := (List.mem_filter.1 (hw : w ∈ s.swaps.filter (fun w => w.old != old))).2
  rw [he, bne_self_eq_false] at hkept
  exact Bool.false_ne_true hkept

theorem substStep_ends {x : Swap} (hold : old < 256) (h : s.swapOf old = some x) (hx : x.step = 8) :
    (xSubstStep old true s).swapOf old = none ∧ enState ((xSubstStep old true s).obj (K.tileStatus old)) = 0 := by
  rw [substStep_eight h hx]
  obtain ⟨hnibble, hended⟩ := keepsEnded_pumpSwaps hold ((oldOff s (oldMembers s old x.spare)).dropSwap old)
  have hoff := hnibble.eq ((nibble_dropSwap _ old).eq (oldOff_state s old x.spare))
  exact ⟨swapOf_none (hended (dropSwap_none _ old)), enState_congr (b := 0) hoff⟩

end Sys2Proof.Proofs
end

section
/-! # The ends of the steps of a substitution (R233) -/

set_option Elab.async false

namespace Sys2Proof.Proofs

open Sys2Proof Sys2Proof.Machine Sys2Proof.Laws

variable {s u v : State} {old t : Nat} {x : Swap}

/-- What a step shows of a context's substitution. -/
def swapStateAfter (s : State) (step c : Nat) : Nat := if step = 3 then 2 else if step = 5 then 4 else s.obj (K.ctxSwapState c)

/-- A step leads to the next one. -/
def LeadsOn (s u : State) (old : Nat) (x : Swap) : Prop :=
  u.swapOf old = some (atStep (x.step + 1) x) ∧ ∀ c ∈ s.tileCtxs old, u.obj (K.ctxSwapState c) = swapStateAfter s x.step c

theorem swapOf_next (hswaps : u.swaps = s.swaps) (h : s.swapOf old = some x) (k : Nat) : (u.setSwap old (atStep k)).swapOf old = some (atStep k x) := by
  rw [swapOf_setSwap (f := atStep k) (fun _ => rfl), swapOf_congr hswaps, h, Option.map_some]

theorem keepsSwaps_spareOn (s : State) (spare : Nat) (cs : List Nat) : KeepsSwaps (spareOn s spare cs) s :=
  keepsSwaps_foldl _ _ _ fun _ m => (keepsSwaps_joinBuses _ m cs).trans ((keepsSwaps_tileOn _ m).trans (keepsSwaps_set _ _ (by decide) (by decide)))

theorem stepTwo_leads (h : s.swapOf old = some x) (hx : x.step = 2) : LeadsOn s (xSubstStep old true s) old x := by
  have hkeeps : KeepsSwaps ((s.calMembers x.spare).foldl (fun st m => st.startTile m) s) s := keepsSwaps_foldl _ _ _ keepsSwaps_startTile
  rw [substStep_two h hx, LeadsOn, hx]
  exact ⟨swapOf_next hkeeps.swaps h 3, fun c _ => hkeeps.obj _⟩

theorem stepThree_leads (h : s.swapOf old = some x) (hx : x.step = 3) : LeadsOn s (xSubstStep old true s) old x := by
  rw [substStep_three h hx, LeadsOn, hx]
  have hon := keepsSwaps_spareOn s x.spare (s.tileCtxs old)
  generalize spareOn s x.spare (s.tileCtxs old) = on at hon
  have hcal := keepsSwaps_calibrateSpare ((on.setSwapState (s.tileCtxs old) 2).setSwap old (atStep 4)) x.spare
  generalize State.calibrateSpare _ x.spare = u at hcal
  refine ⟨(swapOf_congr hcal.swaps old).trans (swapOf_next ((setSwapState_swaps ..).trans hon.swaps) h 4), fun c hc => ?_⟩
  exact (hcal.obj _).trans (setSwapState_obj on 2 hc)

theorem stepFive_leads (h : s.swapOf old = some x) (hx : x.step = 5) : LeadsOn s (xSubstStep old true s) old x := by
  rw [substStep_five h hx, LeadsOn, hx]
  exact ⟨swapOf_next (setSwapState_swaps ..) h 6, fun c hc => setSwapState_obj s 4 hc⟩

theorem substStep_leads (h : s.swapOf old = some x) (hx : x.step = 2 ∨ x.step = 3 ∨ x.step = 5) : LeadsOn s (xSubstStep old true s) old x := by
  rcases hx with hx | hx | hx
  · exact stepTwo_leads h hx
  · exact stepThree_leads h hx
  · exact stepFive_leads h hx

/-- What every context of a substitution shows. -/
def swapShown (cs : List Nat) (x : Nat) : List (Nat × Nat) := cs.map (fun c => (K.ctxSwapState c, x))

theorem leaves_setSwapState (s : State) {ks : List Nat} (cs : List Nat) (x : Nat) (h : ∀ c ∈ cs, K.ctxSwapState c ∈ ks) :
    Leaves ks (s.setSwapState cs x) s :=
  leaves_foldl _ _ _ fun t c hc => leaves_set t x (h c hc)

theorem stepFive_sets (h : Awake s) (hold : old < tileCount s.variant) (hswap : s.swapOf old = some x) (hx : x.step = 5) :
    Sets (.substitutionStepEnd t old true) s (swapShown (s.tileCtxs old) 4) (fun u => u.swapOf old = some (atStep 6 x)) := by
  have hswap' : (s.begin_ t).swapOf old = some x := hswap
  have hstep := substStep_five hswap' hx
  have hctxs : (s.begin_ t).tileCtxs old = s.tileCtxs old := rfl
  rw [hctxs] at hstep
  refine sets_eventOf (exec_substitutionStepEnd t old true s) (decide_eq_true hold) h ?_ ?_ ?_
  · rw [hstep]
    have hnext (u : State) (ks : List Nat) : Leaves ks (u.setSwap old (atStep 6)) u := leaves_of_dict rfl rfl rfl rfl rfl rfl
    refine (hnext ..).trans (leaves_setSwapState _ _ _ fun c hc => ?_)
    exact List.mem_map.2 ⟨_, List.mem_map.2 ⟨c, hc, rfl⟩, rfl⟩
  · rw [hstep]
    intro e he
    obtain ⟨c, hc, rfl⟩ := List.mem_map.1 he
    exact setSwapState_obj _ 4 hc
  · rw [hstep]
    exact swapOf_next (setSwapState_swaps ..) hswap' 6

theorem substSteps_end (h : Awake s) (hold : old < tileCount s.variant) (hswap : s.swapOf old = some x) :
    (x.step = 2 ∨ x.step = 3 ∨ x.step = 5 →
      Completes (.substitutionStepEnd t old true) s
        (fun u => u.swapOf old = some { x with step := x.step + 1 } ∧ ∀ c ∈ s.tileCtxs old, u.obj (K.ctxSwapState c) =
          if x.step = 3 then 2 else if x.step = 5 then 4 else s.obj (K.ctxSwapState c)) (fun _ => True)) ∧
    (x.step = 5 → Sets (.substitutionStepEnd t old true) s ((s.tileCtxs old).map (fun c => (K.ctxSwapState c, 4)))
      (fun u => u.swapOf old = some { x with step := 6 })) ∧
    (x.step = 8 → Completes (.substitutionStepEnd t old true) s
      (fun u => u.swapOf old = none ∧ enState (u.obj (K.tileStatus old)) = 0) (fun _ => True)) := by
  have he := exec_substitutionStepEnd t old true s
  have hswap' : (s.begin_ t).swapOf old = some x := hswap
  have hlt : old < 256 := hold.trans_le (tileCount_le s.variant)
  refine ⟨fun hx => completes_eventOf he (decide_eq_true hold) h.1 (substStep_leads hswap' hx), fun hx => stepFive_sets h hold hswap hx, fun hx => ?_⟩
  exact completes_eventOf he (decide_eq_true hold) h.1 (substStep_ends hlt hswap' hx)

/-! ## The count of SWAPPED lines is over -/

theorem swappedCount_expires {c : Nat} (h : Awake s) (hc : c < 1024) (hstate : s.obj (K.ctxSwapState c) = 5) (hcount : (s.ctx c).swapped = 0) :
    Sets (.swappedCountExpiry t c) s
      ([(K.ctxSwapState c, 0), (K.ctxSwaps c, satAdd 32 (s.obj (K.ctxSwaps c)) 1)] ++ raisedBy (s.begin_ t) 759 c) (fun _ => True) := by
  have heffect : xSwappedExpiry c (s.begin_ t) = (((s.begin_ t).set (K.ctxSwapState c) 0).count (K.ctxSwaps c) 32 1).raise 759 c := by
    refine if_pos ?_
    have hstate' : (s.begin_ t).obj (K.ctxSwapState c) = 5 := hstate
    have hcount' : ((s.begin_ t).ctx c).swapped = 0 := hcount
    rw [hstate', hcount']
    rfl
  have hput : Puts [(K.ctxSwaps c, satAdd 32 (s.obj (K.ctxSwaps c)) 1), (K.ctxSwapState c, 0)]
      (((s.begin_ t).set (K.ctxSwapState c) 0).count (K.ctxSwaps c) 32 1) (s.begin_ t) :=
    (puts_set (s.begin_ t) (K.ctxSwapState c) 0).count (K.ctxSwaps c) 32 1 (by
      simp only [List.map_cons, List.map_nil, List.mem_singleton]
      exact key_ne (by decide) (by decide) (.inr (by decide)))
  have hlow (b : Nat) (hb : b < 256) : key (0x4000 + c) b < 0x700000 := by
    simp only [key]
    omega
  refine sets_puts (exec_swappedCountExpiry t c s) (decide_eq_true hc) h ?_ trivial
  rw [heffect]
  refine (((hput.reorder (List.Perm.swap ..)).raise 759 c ?_ ?_ ?_))
  · exact hasSource_of_ge _ (by decide) (by decide)
  · rfl
  · intro k hk
    simp only [List.map_cons, List.map_nil, List.mem_cons, List.not_mem_nil, or_false] at hk
    rcases hk with rfl | rfl
    · exact hlow _ (by decide)
    · exact hlow _ (by decide)

end Sys2Proof.Proofs
end

section
/-! # The switch of a substitution (R233 step 7) -/

set_option Elab.async false

namespace Sys2Proof.Proofs

open Sys2Proof Sys2Proof.Machine Sys2Proof.Laws

/-! ## The substitutions stand while a line ends -/

section
variable (s : State) (c : Nat)

theorem toOut_swaps (items : List Item) : (s.toOut c items).swaps = s.swaps := by
  unfold State.toOut
  extract_lets n
  split <;> rfl

theorem sceneLine_swaps : (s.sceneLine c).swaps = s.swaps := by
  unfold State.sceneLine
  extract_lets l
  split <;> rfl

theorem rampLine_swaps (n : Nat) : (s.rampLine n c).swaps = s.swaps := by
  unfold State.rampLine
  extract_lets x a u
  have hu : u.swaps = s.swaps := by
    unfold u
    split
    · exact set_swaps ..
    · rfl
  exact hu

theorem noPlace_swaps (p : Nat) : (s.noPlace p).2.swaps = s.swaps := by
  unfold State.noPlace
  dsimp only
  split
  · exact count_swaps ..
  · rfl

theorem stampRec_swaps (t : Nat) (rec : LineRec) : (s.stampRec c t rec).2.swaps = s.swaps := by
  unfold State.stampRec State.stamped
  split
  · rfl
  · exact noPlace_swaps ..
  · rfl

/-- The samples of a line that has ended are delivered with its record. -/
def lineDelivered (s : State) (n c : Nat) (l : Cur) (x : Ctx) (rec : LineRec × Option (Nat × Nat)) : State :=
  if n = 0xFFFF then s.toOut c [.mark c (s.chained c) rec.1 l.lossy none]
  else if l.stale then
    let s := s.sceneLine c
    let words := if s.chained c then [] else x.lastGood.map (fun b => Item.word c false l.line 1 b.toNat)
    s.toOut c (words ++ [.mark c (s.chained c) rec.1 l.lossy rec.2])
  else
    let s := if s.chained c then s
      else s.modCtx c (fun y => { y with filling := [], lastGood := if l.lossy then y.lastGood else y.filling.reverse })
    let s := s.pushMark n c (s.chained c) rec l.lossy
    if l.lossy then s else (s.tilesOf c).foldl (fun st m => st.rampLine m c) s

theorem lineDelivered_swaps (n : Nat) (l : Cur) (x : Ctx) (rec : LineRec × Option (Nat × Nat)) :
    (lineDelivered s n c l x rec).swaps = s.swaps := by
  unfold lineDelivered
  split
  · exact toOut_swaps ..
  split
  · exact (toOut_swaps ..).trans (sceneLine_swaps ..)
  extract_lets kept marked
  have hkept : kept.swaps = s.swaps := by
    unfold kept
    split <;> rfl
  split
  · exact hkept
  · exact (foldl_keeps State.swaps _ _ _ fun _ _ => rampLine_swaps ..).trans hkept

theorem closeLineOf_swaps : (s.closeLineOf c).swaps = s.swaps := by
  unfold State.closeLineOf
  extract_lets x
  split
  · rfl
  next l _ =>
  extract_lets u n flags plain pos v rec_ w words y z
  have hu : u.swaps = s.swaps := rfl
  clear_value x u
  split
  · exact hu
  have hv : v.swaps = u.swaps := by
    unfold v pos
    split
    · rfl
    · exact stampRec_swaps ..
  exact (lineDelivered_swaps v c n l x rec_).trans (hv.trans hu)

theorem showPriming_swaps (n : Nat) : (s.showPriming n).swaps = s.swaps := set_swaps ..

theorem primeNext_swaps (n : Nat) : (s.primeNext n).swaps = s.swaps := by
  unfold State.primeNext
  split
  · rfl
  · split
    · exact (showPriming_swaps ..).trans ((count_swaps ..).trans (set_swaps ..))
    · exact showPriming_swaps ..

theorem modChain_swaps (i : Nat) (f : Chain → Chain) : (s.modChain i f).swaps = s.swaps := rfl

theorem holdSlot_swaps (i : Nat) : (s.holdSlot i).swaps = s.swaps :=
  (primeNext_swaps ..).trans ((modChain_swaps ..).trans (set_swaps ..))

theorem emptyLine_swaps (line stamp start gap : Nat) : (s.emptyLine c line stamp start gap).swaps = s.swaps :=
  (toOut_swaps ..).trans (stampRec_swaps ..)

theorem degrade_swaps (line : Nat) (lossy : Option Cur) : (s.degrade c line lossy).swaps = s.swaps := by
  unfold State.degrade
  extract_lets x named held first shown closed
  have hheld : held.swaps = s.swaps := by
    unfold held
    split
    · exact (holdSlot_swaps ..).trans rfl
    · rfl
  have hclosed : closed.swaps = held.swaps := by
    unfold closed
    split
    · exact (emptyLine_swaps ..).trans rfl
    · rfl
  exact (raise_swaps ..).trans (hclosed.trans hheld)

/-! ## The switch -/

/-- A context's line ends at the switch; one that was lost counts as the first empty one. -/
def lineSwitched (s : State) (c : Nat) : State :=
  let before := (s.ctx c).cur
  let st := s.closeLineOf c
  match before with
  | some l => if l.lossy && (st.ctx c).lossDue ≠ 0 && st.ctxState c = cFlowing then st.degrade c l.line (some l) else st
  | none => st

theorem lineSwitched_swaps : (lineSwitched s c).swaps = s.swaps := by
  unfold lineSwitched
  extract_lets before st
  have hst : st.swaps = s.swaps := closeLineOf_swaps ..
  clear_value st before
  split
  · split
    · exact (degrade_swaps ..).trans hst
    · exact hst
  · exact hst

end

section
variable {s u v : State} {old new : Nat}

/-- What a monitor of a substitute takes over from the old one. -/
def poolExchanged (old new : Nat) (s : State) (i : Nat) : State :=
  let a := s.obj (K.tileMonPool old i)
  let b := s.obj (K.tileMonPool new i)
  let o := s.obj (K.tileMonState old i) % 4
  let kept := if o = 0 then (s.mon (2 * old + i)).kept else some (o == 2)
  let st := (s.set (K.tileMonPool old i) b).set (K.tileMonPool new i) a
  st.setMon (2 * new + i) { st.mon (2 * new + i) with kept := kept }

theorem exchangePools_eq (s : State) (old new : Nat) : s.exchangePools old new = (List.range 2).foldl (poolExchanged old new) s := rfl

theorem exchangePools_swaps (s : State) (old new : Nat) : (s.exchangePools old new).swaps = s.swaps := by
  rw [exchangePools_eq]
  exact foldl_keeps State.swaps _ _ _ fun _ _ => rfl

/-- The old tile of a pair of tiles leaves its buses and stops; the new one serves its contexts. -/
def tilesExchanged (s : State) (m : Nat × Nat) : State :=
  let st := ((s.setSel m.1 0 0xFF).setSel m.1 1 0xFF).stopTile m.1
  let st := st.set (K.tileStatus m.2) (withBit (st.obj (K.tileStatus m.2)) 7 true)
  (st.modTile m.2 (fun x => { x with wrote := true })).set (K.tileRouteContexts m.2) (st.obj (K.tileRouteContexts m.1))

theorem setSel_swaps (s : State) (n half bus : Nat) : (s.setSel n half bus).swaps = s.swaps := (keepsSwaps_setSel s n half bus).swaps

theorem stopTile_swaps (s : State) (n : Nat) : (s.stopTile n).swaps = s.swaps := set_swaps ..

theorem modTile_swaps (s : State) (n : Nat) (f : Tile → Tile) : (s.modTile n f).swaps = s.swaps := rfl

theorem tilesExchanged_swaps (s : State) (m : Nat × Nat) : (tilesExchanged s m).swaps = s.swaps := by
  unfold tilesExchanged
  extract_lets stopped marked
  have hstopped : stopped.swaps = s.swaps := (stopTile_swaps ..).trans ((setSel_swaps ..).trans (setSel_swaps ..))
  clear_value stopped
  exact (set_swaps ..).trans ((modTile_swaps ..).trans ((set_swaps ..).trans hstopped))

/-- A context takes its words from the substitute, since an instant. -/
def ctxSwitched (old new ms : Nat) (s : State) (c : Nat) : State :=
  let st := ((s.set (K.ctxTile c) new).set (K.ctxSwapLine c) (s.nextNumber c)).set (K.ctxSwapMs c) ms
  let st := st.set (K.ctxSwapState c) 5
  let st := st.modCtx c (fun x =>
    { x with swapped := st.obj K.placerSwapLines, served := x.served ++ [(st.nextNumber c, old)] })
  if st.ctxState c = cDegraded || (st.ctx c).lossDue ≠ 0 || (st.ctx c).lostSrc ≠ 0 then st.returnSource c else st

theorem ctxSwitched_swaps (ms : Nat) (s : State) (c : Nat) : (ctxSwitched old new ms s c).swaps = s.swaps := by
  unfold ctxSwitched
  extract_lets st shown counted
  have hst : st.swaps = s.swaps := (set_swaps ..).trans ((set_swaps ..).trans (set_swaps ..))
  have hcounted : counted.swaps = s.swaps := (set_swaps st (K.ctxSwapState c) 5).trans hst
  clear_value counted
  split
  · exact hcounted
  · exact hcounted

theorem ctxTile_injective {c d : Nat} (h : K.ctxTile c = K.ctxTile d) : c = d := by
  simp only [K.ctxTile, key] at h
  omega

theorem ctxSwitched_obj (ms : Nat) (s : State) (c d : Nat) : (ctxSwitched old new ms s c).obj (K.ctxTile d) =
    (s.set (K.ctxTile c) new).obj (K.ctxTile d) := by
  have hother (t : State) {b : Nat} (x : Nat) (hb : b < 256) (h : 2 ≠ b) : (t.set (key (0x4000 + c) b) x).obj (K.ctxTile d) = t.obj (K.ctxTile d) :=
    obj_set_ne _ _ (key_ne (by decide) hb (.inr h))
  unfold ctxSwitched
  extract_lets st shown counted
  have hst : st.obj (K.ctxTile d) = (s.set (K.ctxTile c) new).obj (K.ctxTile d) :=
    (hother _ _ (by decide) (by decide)).trans (hother _ _ (by decide) (by decide))
  have hcounted : counted.obj (K.ctxTile d) = st.obj (K.ctxTile d) := hother st 5 (by decide) (by decide)
  clear_value counted
  split
  · exact hcounted.trans hst
  · exact hcounted.trans hst

theorem ctxsSwitched_tile (ms : Nat) (s : State) {cs : List Nat} {d : Nat} (h : d ∈ cs ∨ s.obj (K.ctxTile d) = new) :
    (cs.foldl (ctxSwitched old new ms) s).obj (K.ctxTile d) = new := by
  induction cs generalizing s with
  | nil => exact h.resolve_left List.not_mem_nil
  | cons c cs ih =>
    refine ih _ ?_
    rw [ctxSwitched_obj]
    by_cases hd : d = c
    · exact .inr (hd ▸ obj_set_self ..)
    · rcases h with h | h
      · exact .inl ((List.mem_cons.1 h).resolve_left hd)
      · exact .inr ((obj_set_ne _ _ fun he => hd (ctxTile_injective he)).trans h)

/-- The pairs of an old tile and its substitute. -/
def switchPairs (s : State) (old new : Nat) : List (Nat × Nat) :=
  if s.adcMode old == 3 then [(old, new), (old + 1, new + 1)] else [(old, new)]

/-- The tiles of a substitution have changed places. -/
def switchTiles (s u : State) (old new : Nat) : State :=
  let ms := switchPairs s old new
  ms.foldl tilesExchanged (ms.foldl (fun st m => (st.exchangePools m.1 m.2).setSuccessor 4 m.1 m.2) (u.writeSpare old new))

/-- How long a substitution has run. -/
def switchMs (s : State) (w : Swap) : Nat := (Frac.div ⟨s.clock - w.start, 1⟩ ⟨perMs, 1⟩).f32

/-- The placement has the substitute in place of the old tile. -/
def planSwitched (s : State) (cs : List Nat) (new : Nat) : State :=
  { s with plan := { s.plan with tiles := s.plan.tiles.map (fun e => if cs.contains e.1 then (e.1, new, e.2.2) else e) } }

/-- A substitution has switched. -/
def switched (s : State) (old : Nat) (w : Swap) : State :=
  let cs := s.tileCtxs old
  let u := switchTiles s (cs.foldl lineSwitched s) old w.spare
  (planSwitched (cs.foldl (ctxSwitched old w.spare (switchMs u w)) u) cs w.spare).setSwap old (atStep 8)

theorem xSubstSwitch_eq (s : State) (old : Nat) : xSubstSwitch old s =
    match s.swapOf old with
    | none => s
    | some w => if w.step ≠ 6 || s.mode ≠ mRun || s.busesContended (s.tileCtxs old) then s else switched s old w := rfl

theorem xSubstSwitch_switched {x : Swap} (h : s.swapOf old = some x) (hstep : x.step = 6) (hrun : s.mode = mRun)
    (hbus : s.busesContended (s.tileCtxs old) = false) : xSubstSwitch old s = switched s old x := by
  rw [xSubstSwitch_eq, h]
  exact if_neg (by simp [hstep, hrun, hbus])

theorem setSuccessor_swaps (s : State) (cls n succ : Nat) : (s.setSuccessor cls n succ).swaps = s.swaps := rfl

theorem writeFe_swaps (s : State) (n half fe : Nat) : (s.writeFe n half fe).swaps = s.swaps := by
  have hforce (t : State) (vs : List (Nat × Nat × Nat)) : (forceAll n t vs).swaps = t.swaps := foldl_keeps State.swaps _ _ _ fun _ _ => rfl
  rw [writeFe_eq, hforce, hforce]

theorem force1_swaps (s : State) (k x : Nat) : (s.force1 k x).swaps = s.swaps := rfl

theorem writeAdc_swaps (s : State) (n : Nat) (d : Node) (div phase : Nat) : (s.writeAdc n d div phase).swaps = s.swaps := by
  simp only [State.writeAdc, set_swaps, force1_swaps, apply_ite State.swaps, ite_self]

theorem realise_swaps (s : State) (x : Nat) : (s.realise x).2.swaps = s.swaps := rfl

theorem reportBiquad_swaps (s : State) (n : Nat) : (s.reportBiquad n).swaps = s.swaps := by
  simp only [State.reportBiquad, set_swaps, realise_swaps]

theorem writeScan_swaps (s : State) (n : Nat) (g : List Node) : (s.writeScan n g).swaps = s.swaps := by
  simp only [State.writeScan, set_swaps, force1_swaps]

theorem writeTile_swaps (s : State) (n half c div phase : Nat) : (s.writeTile n half c div phase).swaps = s.swaps := by
  unfold State.writeTile
  extract_lets d form fe adc report g
  clear_value d
  have hform : form.swaps = s.swaps := set_swaps ..
  have hfe : fe.swaps = s.swaps := (writeFe_swaps ..).trans hform
  have hadc : adc.swaps = s.swaps := by
    unfold adc
    split
    · exact hfe
    · exact (writeAdc_swaps ..).trans hfe
  have hreport : report.swaps = s.swaps := (reportBiquad_swaps ..).trans hadc
  clear_value report g
  split
  · split
    · exact (writeScan_swaps ..).trans hreport
    · exact hreport
  · exact (set_swaps ..).trans hreport

theorem writeSpare_swaps (s : State) (a n : Nat) : (s.writeSpare a n).swaps = s.swaps := by
  unfold State.writeSpare
  extract_lets cs div paired
  refine foldl_keeps State.swaps _ _ _ fun st c => ?_
  extract_lets ph written
  have hwritten : written.swaps = st.swaps := writeTile_swaps ..
  clear_value written
  split
  · exact (writeTile_swaps ..).trans hwritten
  · exact hwritten

theorem switchTiles_swaps (s u : State) (old new : Nat) : (switchTiles s u old new).swaps = u.swaps := by
  unfold switchTiles
  extract_lets ms
  exact (foldl_keeps State.swaps _ _ _ fun t m => tilesExchanged_swaps t m).trans
    ((foldl_keeps State.swaps _ _ _ fun t (m : Nat × Nat) => (setSuccessor_swaps ..).trans (exchangePools_swaps t m.1 m.2)).trans
      (writeSpare_swaps ..))

theorem switched_spec {x : Swap} (h : s.swapOf old = some x) :
    (switched s old x).swapOf old = some (atStep 8 x) ∧ ∀ c ∈ s.tileCtxs old, (switched s old x).obj (K.ctxTile c) = x.spare := by
  unfold switched
  extract_lets cs u
  have hu : u.swaps = s.swaps := (switchTiles_swaps ..).trans (foldl_keeps State.swaps _ _ _ fun t c => lineSwitched_swaps t c)
  clear_value u
  have hmoved : (cs.foldl (ctxSwitched old x.spare (switchMs u x)) u).swaps = s.swaps :=
    (foldl_keeps State.swaps _ _ _ fun t c => ctxSwitched_swaps _ t c).trans hu
  have htile (c : Nat) (hc : c ∈ cs) : (cs.foldl (ctxSwitched old x.spare (switchMs u x)) u).obj (K.ctxTile c) = x.spare :=
    ctxsSwitched_tile _ u (.inl hc)
  generalize cs.foldl (ctxSwitched old x.spare (switchMs u x)) u = moved at hmoved htile
  exact ⟨swapOf_next hmoved h 8, htile⟩

theorem substitution_switches {t : Nat} {x : Swap} (hheld : s.held = false) (hold : old < tileCount s.variant) (h : s.swapOf old = some x)
    (hstep : x.step = 6) (hrun : s.mode = mRun) (hbus : (s.begin_ t).busesContended (s.tileCtxs old) = false) :
    Completes (.substitutionSwitch t old) s
      (fun u => (∃ y, u.swapOf old = some y ∧ y.step = 8 ∧ y.spare = x.spare) ∧
        ∀ c ∈ s.tileCtxs old, u.obj (K.ctxTile c) = x.spare) (fun _ => True) := by
  have h' : (s.begin_ t).swapOf old = some x := h
  have hrun' : (s.begin_ t).mode = mRun := hrun
  refine completes_eventOf (exec_substitutionSwitch t old s) (decide_eq_true hold) hheld ?_
  rw [xSubstSwitch_switched h' hstep hrun' hbus]
  obtain ⟨hswap, htile⟩ := switched_spec h'
  exact ⟨⟨_, hswap, rfl, rfl⟩, htile⟩

end

end Sys2Proof.Proofs
end

section
/-! # Moves of a piece (R235) -/

set_option Elab.async false

namespace Sys2Proof.Proofs

open Sys2Proof Sys2Proof.Machine Sys2Proof.Laws

variable {s u v : State} {j t k : Nat} {m : Move}

/-! ## What leaves the moves alone -/

theorem loadMemories_moves (s : State) (f : Placed) : (s.loadMemories f).moves = s.moves := foldl_keeps State.moves _ _ _ fun _ _ => rfl

theorem startLogic_moves (s : State) (f : Placed) : (s.startLogic f).moves = s.moves := by
  rw [startLogic_eq]
  exact foldl_keeps State.moves _ _ _ fun _ _ => rfl

theorem showFrames_moves (s : State) (q : Nat) : (s.showFrames q).moves = s.moves := (set_moves ..).trans (set_moves ..)

theorem showShadow_moves (s : State) : s.showShadow.moves = s.moves := by
  unfold State.showShadow
  split
  · exact set_moves ..
  · rfl

theorem fillShadow_moves (s : State) (off size : Nat) (bs : List Byte) : (s.fillShadow off size bs).moves = s.moves := rfl

theorem recordFrames_moves (s : State) : s.recordFrames.moves = s.moves := by
  unfold State.recordFrames
  extract_lets table entry map_
  exact (showShadow_moves _).trans ((fillShadow_moves ..).trans (fillShadow_moves ..))

/-- A unit that reads a piece's inputs has left them, and joins them or not: rings alone change. -/
structure InRings (u s : State) : Prop where
  obj : ∀ k, u.obj k = s.obj k
  moves : u.moves = s.moves
  frames : u.frames = s.frames

theorem InRings.trans (h : InRings u v) (g : InRings v s) : InRings u s :=
  ⟨fun k => (h.obj k).trans (g.obj k), h.moves.trans g.moves, h.frames.trans g.frames⟩

theorem inRings_setRing (s : State) (c : Nat) (raw : Bool) (r : RingSt) : InRings (s.setRing c raw r) s := ⟨fun _ => rfl, rfl, rfl⟩

theorem inRings_foldl {α : Type} (f : State → α → State) (h : ∀ t x, InRings (f t x) t) (xs : List α) (s : State) : InRings (xs.foldl f s) s :=
  ⟨fun k => foldl_keeps (·.obj k) _ _ _ fun t x => (h t x).obj k, foldl_keeps State.moves _ _ _ fun t x => (h t x).moves,
    foldl_keeps State.frames _ _ _ fun t x => (h t x).frames⟩

theorem inRings_leaveRings (s : State) (j n : Nat) : InRings (s.leaveRings j n) s := inRings_foldl _ (fun t _ => inRings_setRing t _ _ _) _ _

theorem inRings_joinRings (s : State) (j n : Nat) : InRings (s.joinRings j n) s :=
  (inRings_foldl _ (fun t _ => inRings_setRing t _ _ _) _ _).trans (inRings_leaveRings s j n)

/-! ## The first two steps -/

/-- The move of a piece at a step. -/
def moveAt (j k : Nat) (x : Move) : Move := if x.piece = j then { x with step := k } else x

def movesAt (s : State) (j k : Nat) : State := s.putMoves (s.moves.map (moveAt j k))

/-- The frames of a piece's copy. -/
def copyFrames (s : State) (m : Move) (j : Nat) : Placed := (j, s.sectorOf j, m.clusters, m.ports)

def framesPut (s : State) (fs : List Placed) : State := { s with frames := fs }

theorem pieceMove_one (h : s.moves.find? (fun x => x.piece == j) = some m) (hstep : m.step = 1) : xPieceMoveStep j s =
    movesAt ((((framesPut s (s.frames ++ [copyFrames s m j])).loadMemories (copyFrames s m j)).showFrames (s.sectorOf j)).recordFrames) j 2 := by
  unfold xPieceMoveStep
  simp only [h, hstep]
  rfl

theorem pieceMove_two (h : s.moves.find? (fun x => x.piece == j) = some m) (hstep : m.step = 2) : xPieceMoveStep j s =
    movesAt ((s.startLogic (copyFrames s m j)).joinRings j (256 + j)) j 3 := by
  unfold xPieceMoveStep
  simp only [h, hstep]
  rfl

theorem pieceMove_begins (h : s.moves.find? (fun x => x.piece == j) = some m) (hstep : m.step = 1) :
    (xPieceMoveStep j s).moves = s.moves.map (moveAt j 2) ∧ (xPieceMoveStep j s).frames = s.frames ++ [copyFrames s m j] := by
  rw [pieceMove_one h hstep]
  generalize copyFrames s m j = f
  have hmoves := (recordFrames_moves _).trans ((showFrames_moves ((framesPut s (s.frames ++ [f])).loadMemories f) (s.sectorOf j)).trans
    (loadMemories_moves ..))
  have hframes := (shadowOnly_recordFrames _).frames.trans
    ((sameFrames_showFrames ((framesPut s (s.frames ++ [f])).loadMemories f) (s.sectorOf j)).frames.trans (netsOnly_loadMemories ..).frames)
  generalize State.recordFrames _ = u at hmoves hframes
  exact ⟨congrArg (List.map (moveAt j 2)) hmoves, hframes⟩

theorem pieceMove_released (h : s.moves.find? (fun x => x.piece == j) = some m) (hstep : m.step = 2) :
    (xPieceMoveStep j s).moves = s.moves.map (moveAt j 3) ∧ (xPieceMoveStep j s).frames = s.frames := by
  rw [pieceMove_two h hstep]
  generalize copyFrames s m j = f
  have hrings := inRings_joinRings (s.startLogic f) j (256 + j)
  generalize State.joinRings _ _ _ = u at hrings
  exact ⟨congrArg (List.map (moveAt j 3)) (hrings.moves.trans (startLogic_moves ..)), hrings.frames.trans (netsOnly_startLogic ..).frames⟩

/-! ## The last step -/

/-- No move of a piece is under way. -/
def Moveless (j : Nat) (ms : List Move) : Prop := ∀ x ∈ ms, x.piece ≠ j

theorem find_moveless {ms : List Move} (h : Moveless j ms) : ms.find? (fun x => x.piece == j) = none :=
  List.find?_eq_none.2 fun x hx he => h x hx (by simpa using he)

theorem moveless_filter (ms : List Move) (j : Nat) : Moveless j (ms.filter (fun x => x.piece != j)) := fun x hx he => by
  have hkept := (List.mem_filter.1 hx).2
  rw [he, bne_self_eq_false] at hkept
  exact Bool.false_ne_true hkept

theorem moveless_sub {ms ns : List Move} (h : Moveless j ms) (hsub : ∀ x ∈ ns, x ∈ ms) : Moveless j ns := fun x hx => h x (hsub x hx)

theorem moveless_pumpMovesFrom (s : State) (ms : List Move) (h : Moveless j s.moves) : Moveless j (s.pumpMovesFrom ms).moves := by
  induction ms generalizing s with
  | nil => exact h
  | cons m ms ih =>
    rw [State.pumpMovesFrom]
    split
    · split
      · refine ih _ fun x hx => ?_
        obtain ⟨y, hy, rfl⟩ := List.mem_map.1 hx
        have hne := h y hy
        split
        · exact hne
        · exact hne
      · exact ih _ (moveless_sub h fun x hx => List.mem_of_mem_filter hx)
    · exact ih s h

/-- The copy of a piece has taken its place, before its objects and frames show so. -/
theorem takeCopy_eq (s : State) (m : Move) : ∃ (u : State) (x : Nat), (∀ k, u.obj k = s.obj k) ∧
    s.takeCopy m = (((u.set (K.graphPiecePlacedClusters m.piece) x).set (K.graphPiecePlacedPorts m.piece) m.ports).showFrames
      (s.sectorOf m.piece)).recordFrames := by
  unfold State.takeCopy
  extract_lets j q copy new left joined r moved kept places placed shown
  have hleft (k : Nat) : left.obj k = s.obj k := (inRings_leaveRings s j j).obj k
  clear_value left
  have hjoined (k : Nat) : joined.obj k = s.obj k :=
    ((inRings_foldl _ (fun t _ => inRings_setRing t _ _ _) (left.pieceInputs j) left).obj k).trans (hleft k)
  clear_value joined
  exact ⟨placed, _, fun k => (rfl : placed.obj k = joined.obj k).trans (hjoined k), rfl⟩

/-- A piece's objects but for what its frames show. -/
theorem shownFrames_obj (s : State) (q : Nat) {i b : Nat} (hi : 0x2000 ≤ i ∧ i < 0x6010) (hb : b < 256) :
    (s.showFrames q).recordFrames.obj (key i b) = s.obj (key i b) := by
  have hsrc : key i b ≠ K.fabricSectorClockSrc q := key_ne hb (by decide) (.inl (by omega))
  have hroles : key i b ≠ K.fabricSectorPortRoles q := key_ne hb (by decide) (.inl (by omega))
  have hcrc : key i b ≠ K.deviceStandbyShadowCrc := key_ne hb (by decide) (.inl (by omega))
  exact ((shadowOnly_recordFrames _).obj _ hcrc).trans ((obj_set_ne _ _ hroles).trans (obj_set_ne _ _ hsrc))

theorem takeCopy_moves_obj (s : State) (m : Move) (hj : m.piece < 256) :
    (s.takeCopy m).obj (K.graphPieceMoves m.piece) = s.obj (K.graphPieceMoves m.piece) := by
  obtain ⟨u, x, hu, htake⟩ := takeCopy_eq s m
  rw [htake]
  refine (shownFrames_obj _ _ (i := 0x2200 + m.piece) (b := 0x0A) (by omega) (by decide)).trans ?_
  exact (obj_set_ne _ _ (key_ne (by decide) (by decide) (.inr (by decide)))).trans
    ((obj_set_ne _ _ (key_ne (by decide) (by decide) (.inr (by decide)))).trans (hu _))

theorem takeCopy_ports_obj (s : State) (m : Move) (hj : m.piece < 256) : (s.takeCopy m).obj (K.graphPiecePlacedPorts m.piece) = m.ports := by
  obtain ⟨u, x, hu, htake⟩ := takeCopy_eq s m
  rw [htake]
  exact (shownFrames_obj _ _ (i := 0x2200 + m.piece) (b := 0x09) (by omega) (by decide)).trans (obj_set_self ..)

/-- The copy of a piece is in place; its move is over. -/
def moveOver (s : State) (m : Move) (j : Nat) : State := (s.takeCopy m).putMoves (s.moves.filter (fun x => x.piece != j))

/-- A piece has moved, and what counts it. -/
def pieceMoved (s : State) (m : Move) (j : Nat) : State :=
  let old := ((s.plan.pieces.find? (fun e => e.1 == j)).map (fun e => e.2.2.1)).getD []
  let s := (moveOver s m j).count (K.graphPieceMoves j) 32 1
  let s := (s.pieceOutputs j).foldl (fun st c => st.count (K.ctxMoves c) 32 1) s
  old.foldl (fun st x => st.setSuccessor 6 (128 * s.sectorOf j + x) (128 * s.sectorOf j + m.clusters.headD 0)) s

theorem pieceMove_three (h : s.moves.find? (fun x => x.piece == j) = some m) (hstep : m.step = 3) :
    xPieceMoveStep j s = ((pieceMoved s m j).raise 759 j).pumpMoves := by
  unfold xPieceMoveStep
  simp only [h, hstep]
  rfl

theorem setSuccessor_moves (s : State) (cls n succ : Nat) : (s.setSuccessor cls n succ).moves = s.moves := rfl

theorem setSuccessor_obj (s : State) (cls n succ k : Nat) : (s.setSuccessor cls n succ).obj k = s.obj k := rfl

theorem putMoves_obj (s : State) (ms : List Move) (k : Nat) : (s.putMoves ms).obj k = s.obj k := rfl

theorem moveOver_obj (s : State) (m : Move) (j k : Nat) : (moveOver s m j).obj k = (s.takeCopy m).obj k := by
  unfold moveOver
  exact putMoves_obj ..

theorem count_moves (s : State) (k w n : Nat) : (s.count k w n).moves = s.moves := set_moves ..

theorem pieceMoved_moves (s : State) (m : Move) (j : Nat) : (pieceMoved s m j).moves = s.moves.filter (fun x => x.piece != j) := by
  unfold pieceMoved
  extract_lets old counted told
  have hcounted : counted.moves = s.moves.filter (fun x => x.piece != j) := count_moves ..
  clear_value counted
  have htold : told.moves = counted.moves := foldl_keeps State.moves _ _ _ fun _ _ => count_moves ..
  clear_value told
  exact (foldl_keeps State.moves _ _ _ fun t _ => setSuccessor_moves t ..).trans (htold.trans hcounted)

theorem pieceMoved_obj (s : State) (m : Move) {j b : Nat} (hj : j < 256) (hb : b < 256) : (pieceMoved s m j).obj (key (0x2200 + j) b) =
    ((moveOver s m j).count (K.graphPieceMoves j) 32 1).obj (key (0x2200 + j) b) := by
  unfold pieceMoved
  generalize moveOver s m j = moved
  extract_lets old counted told
  have hcounted : counted.obj (key (0x2200 + j) b) = (moved.count (K.graphPieceMoves j) 32 1).obj (key (0x2200 + j) b) := rfl
  clear_value counted
  have htold : told.obj (key (0x2200 + j) b) = counted.obj (key (0x2200 + j) b) :=
    foldl_keeps (·.obj (key (0x2200 + j) b)) _ _ _ fun _ c => obj_set_ne _ _ (key_ne hb (by decide) (.inl (by omega)))
  clear_value told
  exact (foldl_keeps (·.obj (key (0x2200 + j) b)) _ _ _ fun t _ => setSuccessor_obj t _ _ _ _).trans (htold.trans hcounted)

theorem pieceMove_ends (hj : j < 256) (h : s.moves.find? (fun x => x.piece == j) = some m) (hstep : m.step = 3) :
    (xPieceMoveStep j s).moves.find? (fun x => x.piece == j) = none ∧
      (xPieceMoveStep j s).obj (K.graphPieceMoves j) = satAdd 32 (s.obj (K.graphPieceMoves j)) 1 ∧
      (xPieceMoveStep j s).obj (K.graphPiecePlacedPorts j) = m.ports ∧ (xPieceMoveStep j s).obj (K.eventStatus 759) = 1 := by
  have hpiece : m.piece = j := by simpa using List.find?_some h
  have hlow (b : Nat) (hb : b < 256) : key (0x2200 + j) b < 0x700000 := by
    simp only [key]
    omega
  have hcount := (obj_raise_of_lt _ 759 j (hlow 0x0A (by decide))).trans ((pieceMoved_obj s m hj (by decide)).trans (obj_set_self ..))
  have hports := (obj_raise_of_lt _ 759 j (hlow 0x09 (by decide))).trans ((pieceMoved_obj s m hj (by decide)).trans
    (obj_set_ne _ _ (key_ne (by decide) (by decide) (.inr (by decide)))))
  have hmoves := takeCopy_moves_obj s m (hpiece ▸ hj)
  have hplaced := takeCopy_ports_obj s m (hpiece ▸ hj)
  rw [hpiece, ← moveOver_obj s m j] at hmoves hplaced
  have hkept := (raise_moves (pieceMoved s m j) 759 j).trans (pieceMoved_moves s m j)
  have hraised := raise_spec (pieceMoved s m j) 759 j (hasSource_of_ge _ (by decide) (by decide))
  rw [pieceMove_three h hstep]
  generalize (pieceMoved s m j).raise 759 j = u at hcount hports hkept hraised ⊢
  refine ⟨find_moveless (moveless_pumpMovesFrom u _ (hkept ▸ moveless_filter _ _)), ?_, ?_, ?_⟩
  · exact (obj_pumpMoves ..).trans (hcount.trans (congrArg (satAdd 32 · 1) hmoves))
  · exact (obj_pumpMoves ..).trans (hports.trans hplaced)
  · exact (obj_pumpMoves ..).trans hraised.1

theorem pieceMove_goesOn (hheld : s.held = false) (hj : j < 256) (h : s.moves.find? (fun x => x.piece == j) = some m) :
    (m.step = 1 ∨ m.step = 2 →
      Completes (.pieceMoveStepEnd t j) s
        (fun u => u.moves = s.moves.map (fun x => if x.piece = j then { x with step := m.step + 1 } else x) ∧
          u.frames = if m.step = 1 then s.frames ++ [(j, s.sectorOf j, m.clusters, m.ports)] else s.frames) (fun _ => True)) ∧
    (m.step = 3 →
      Completes (.pieceMoveStepEnd t j) s
        (fun u => u.moves.find? (fun x => x.piece == j) = none ∧ u.obj (K.graphPieceMoves j) = satAdd 32 (s.obj (K.graphPieceMoves j)) 1 ∧
          u.obj (K.graphPiecePlacedPorts j) = m.ports ∧ u.obj (K.eventStatus 759) = 1) (fun _ => True)) := by
  have he := exec_pieceMoveStepEnd t j s
  have h' : (s.begin_ t).moves.find? (fun x => x.piece == j) = some m := h
  refine ⟨fun hstep => completes_eventOf he (decide_eq_true hj) hheld ?_, fun hstep =>
    completes_eventOf he (decide_eq_true hj) hheld (pieceMove_ends hj h' hstep)⟩
  rcases hstep with hstep | hstep
  · obtain ⟨hmoves, hframes⟩ := pieceMove_begins h' hstep
    rw [hmoves, hframes, hstep]
    exact ⟨rfl, rfl⟩
  · obtain ⟨hmoves, hframes⟩ := pieceMove_released h' hstep
    rw [hmoves, hframes, hstep]
    exact ⟨rfl, rfl⟩

end Sys2Proof.Proofs
end

section
/-! # What a substitution that begins leaves of the tiles' use -/

set_option Elab.async false

namespace Sys2Proof.Proofs

open Sys2Proof Sys2Proof.Machine Sys2Proof.Laws

variable {s u v : State} {old c t : Nat}

/-! ## What the use of tiles rests on -/

/-- Two states with the same contexts on the same tiles. -/
structure Alike (u s : State) : Prop where
  status : ∀ i, u.obj (key i 1) = s.obj (key i 1)
  tile : ∀ c, u.obj (K.ctxTile c) = s.obj (K.ctxTile c)
  mode : ∀ c, u.obj (K.graphNodeAdcMode c) = s.obj (K.graphNodeAdcMode c)
  inForce : u.inForce = s.inForce
  ctxs : u.ctxs = s.ctxs
  reload : u.reload = s.reload

theorem Alike.trans (h : Alike u v) (g : Alike v s) : Alike u s :=
  ⟨fun i => (h.status i).trans (g.status i), fun c => (h.tile c).trans (g.tile c), fun c => (h.mode c).trans (g.mode c),
    h.inForce.trans g.inForce, h.ctxs.trans g.ctxs, h.reload.trans g.reload⟩

theorem Alike.ctxState (h : Alike u s) (c : Nat) : u.ctxState c = s.ctxState c := h.status _

theorem Alike.adcMode (h : Alike u s) (n : Nat) : u.adcMode n = s.adcMode n := h.status _

theorem Alike.calMembers (h : Alike u s) (n : Nat) : u.calMembers n = s.calMembers n := by rw [State.calMembers, h.adcMode, State.calMembers]

theorem Alike.ringed (h : Alike u s) : u.ringed = s.ringed := by rw [State.ringed, h.ctxs, State.ringed]

theorem force_of_obj {k : Nat} (hinForce : u.inForce = s.inForce) (h : u.obj k = s.obj k) : u.force k = s.force k := by
  rw [State.force, hinForce, h, State.force]

theorem Alike.tilesOf (h : Alike u s) (c : Nat) : u.tilesOf c = s.tilesOf c := by
  have hmode : u.node (K.graphNodeAdcMode c) = s.node (K.graphNodeAdcMode c) := force_of_obj h.inForce (h.mode c)
  rw [State.tilesOf, State.tilesOf, h.tile, hmode]

theorem Alike.onTile (h : Alike u s) (n : Nat) : u.onTile n = s.onTile n := funext fun c => by
  rw [State.onTile, h.tile, h.ctxState, State.onTile]

theorem Alike.tileCtxs (h : Alike u s) (n : Nat) : u.tileCtxs n = s.tileCtxs n := by
  rw [State.tileCtxs, h.ringed, h.onTile, State.tileCtxs]

/-- Whether a tile holds a context, stops, or is taken by one of some substitutions. -/
def takenBy (ws : List Swap) (s : State) (t : Nat) : Bool :=
  s.ringed.any (fun c => s.ctxState c ≥ cPlaced && (s.tilesOf c).contains t) ||
    ws.any (fun w => (s.calMembers w.old).contains t || (w.spare != 0xFFFF && (s.calMembers w.spare).contains t)) ||
    enState (s.obj (K.tileStatus t)) == 3

theorem tileTaken_eq (s : State) (t : Nat) : s.tileTaken t = takenBy s.swaps s t := rfl

theorem Alike.takenBy (h : Alike u s) (ws : List Swap) (t : Nat) : takenBy ws u t = takenBy ws s t := by
  have hstatus : u.obj (K.tileStatus t) = s.obj (K.tileStatus t) := h.status _
  simp only [Proofs.takenBy, h.ringed, h.ctxState, h.tilesOf, h.calMembers, hstatus]

theorem takenBy_append (s : State) (ws : List Swap) (w : Swap) (t : Nat) (h : w.spare = 0xFFFF)
    (hmembers : ∀ m ∈ s.calMembers w.old, takenBy ws s m = true) : takenBy (ws ++ [w]) s t = takenBy ws s t := by
  by_cases ht : t ∈ s.calMembers w.old
  · rw [hmembers t ht]
    simp [takenBy, ht]
  · simp [takenBy, ht, h]

/-! ## A request's way to the access point -/

theorem alike_access {q : Req} {k : Nat} {l : Loc} (h : Accepts s (onObject q k) l) : Alike (s.access (onObject q k)) s := by
  refine ⟨fun i => obj_access h (access_key_false (by decide) (by omega)), fun c => obj_access h (access_key_false (by decide) (by omega)),
    fun c => obj_access h (access_key_false (by decide) (by omega)), access_inForce .., access_ctxs .., access_reload ..⟩

/-! ## A substitution is entered -/

/-- The objects that a substitution's beginning moves. -/
def SwapKey (k : Nat) : Prop := k = K.placerSwapsActive ∨ ∃ c, k = K.ctxSwapFrom c ∨ k = K.ctxSwapState c

/-- What leaves everything but the substitutions and their objects. -/
structure InSwaps (u s : State) : Prop where
  obj : ∀ k, ¬ SwapKey k → u.obj k = s.obj k
  variant : u.variant = s.variant
  inForce : u.inForce = s.inForce
  ctxs : u.ctxs = s.ctxs
  reload : u.reload = s.reload
  defects : u.defects = s.defects
  pitches : u.pitches = s.pitches
  clock : u.clock = s.clock

theorem InSwaps.refl (s : State) : InSwaps s s := ⟨fun _ _ => rfl, rfl, rfl, rfl, rfl, rfl, rfl, rfl⟩

theorem InSwaps.trans (h : InSwaps u v) (g : InSwaps v s) : InSwaps u s :=
  ⟨fun k hk => (h.obj k hk).trans (g.obj k hk), h.variant.trans g.variant, h.inForce.trans g.inForce, h.ctxs.trans g.ctxs,
    h.reload.trans g.reload, h.defects.trans g.defects, h.pitches.trans g.pitches, h.clock.trans g.clock⟩

theorem inSwaps_putSwaps (s : State) (ws : List Swap) : InSwaps (s.putSwaps ws) s := ⟨fun _ _ => rfl, rfl, rfl, rfl, rfl, rfl, rfl, rfl⟩

theorem inSwaps_set (s : State) {k : Nat} (x : Nat) (h : SwapKey k) : InSwaps (s.set k x) s :=
  ⟨fun _ hi => obj_set_ne _ _ fun e => hi (e ▸ h), set_variant .., set_inForce .., set_ctxs .., set_reload .., set_defects .., set_pitches ..,
    set_clock ..⟩

theorem inSwaps_foldl {α : Type} (f : State → α → State) (xs : List α) (h : ∀ t x, InSwaps (f t x) t) (s : State) : InSwaps (xs.foldl f s) s := by
  induction xs generalizing s with
  | nil => exact .refl s
  | cons x xs ih => exact (ih (f s x)).trans (h s x)

/-- Objects with a subindex that no object of a substitution has. -/
theorem not_swapKey {i b : Nat} (hb : b < 256) (h : b ≠ 0x10 ∧ b ≠ 0x15 ∧ b ≠ 0x17) : ¬ SwapKey (key i b) := by
  obtain ⟨h10, h15, h17⟩ := h
  rintro (he | ⟨c, he | he⟩)
  · exact key_ne hb (by decide) (.inr h10) he
  · exact key_ne hb (by decide) (.inr h17) he
  · exact key_ne hb (by decide) (.inr h15) he

theorem InSwaps.sub (h : InSwaps u s) {i b : Nat} (hb : b < 256) (hsub : b ≠ 0x10 ∧ b ≠ 0x15 ∧ b ≠ 0x17) : u.obj (key i b) = s.obj (key i b) :=
  h.obj _ (not_swapKey hb hsub)

theorem InSwaps.alike (h : InSwaps u s) : Alike u s :=
  ⟨fun _ => h.sub (by decide) (by decide), fun _ => h.sub (by decide) (by decide), fun _ => h.sub (by decide) (by decide), h.inForce, h.ctxs,
    h.reload⟩

theorem InSwaps.padOf (h : InSwaps u s) (c : Nat) : u.padOf c = s.padOf c := force_of_obj h.inForce (h.sub (by decide) (by decide))

theorem InSwaps.nextNumber (h : InSwaps u s) (c : Nat) : u.nextNumber c = s.nextNumber c := by
  have hpitch : u.node (K.graphNodePitch c) = s.node (K.graphNodePitch c) := force_of_obj h.inForce (h.sub (by decide) (by decide))
  have hscan : u.node (K.graphNodeScan c) = s.node (K.graphNodeScan c) := force_of_obj h.inForce (h.sub (by decide) (by decide))
  have htriggered : u.triggered c = s.triggered c := by rw [State.triggered, State.scans, hpitch, hscan, State.triggered, State.scans]
  have hline (p : Nat) : u.obj (K.pitchLine p) = s.obj (K.pitchLine p) := h.sub (by decide) (by decide)
  have hstart (p : Nat) : u.obj (K.pitchLineStart p) = s.obj (K.pitchLineStart p) := h.sub (by decide) (by decide)
  have hgen (p : Nat) : u.pitchOf p = s.pitchOf p := by rw [State.pitchOf, h.pitches, State.pitchOf]
  have hctx : u.ctx c = s.ctx c := by rw [State.ctx, h.ctxs, State.ctx]
  have hnext (p : Nat) : u.nextTriggerLine p = s.nextTriggerLine p := by
    rw [State.nextTriggerLine, hgen, hline, hstart, State.nextTriggerLine]
  rw [State.nextNumber, htriggered, hpitch, hnext, hctx, State.nextNumber]

theorem InSwaps.eligible (h : InSwaps u s) (taken : Nat → Bool) (b : Bool) (t : Nat) : u.eligible taken b t = s.eligible taken b t := by
  by_cases ht : t < tileCount s.variant
  · have hcount := tileCount_le s.variant
    have hdie : u.factoryDie (t / 128) = s.factoryDie (t / 128) := by
      rw [State.factoryDie, State.factoryDie, K.versionsSeqState, h.sub (by omega) (by omega)]
    have hdefective : u.defective 4 t = s.defective 4 t := by rw [State.defective, h.defects, State.defective]
    rw [State.eligible, State.eligible, h.variant, hdie, hdefective]
  · simp only [State.eligible, h.variant, decide_eq_false ht, Bool.false_and]

theorem InSwaps.eligiblePair (h : InSwaps u s) (taken : Nat → Bool) (b : Bool) (t : Nat) :
    u.eligiblePair taken b t = s.eligiblePair taken b t := by
  rw [State.eligiblePair, State.eligiblePair, h.eligible, h.eligible]

theorem InSwaps.successors (h : InSwaps u s) (n t : Nat) : successors u n t = successors s n t := by
  have hnext (t : Nat) : u.successor 4 t = s.successor 4 t := by rw [State.successor, h.defects, State.successor]
  induction n generalizing t with
  | zero => rfl
  | succ n ih => simp only [Machine.successors, hnext, ih]

theorem InSwaps.chooseSpare (h : InSwaps u s) (htaken : u.tileTaken = s.tileTaken) (pad : Nat) (paired : Bool) :
    u.chooseSpare pad paired = s.chooseSpare pad paired := by
  have hsingle : u.eligible s.tileTaken true = s.eligible s.tileTaken true := funext fun t => h.eligible _ _ t
  have hpair : u.eligiblePair s.tileTaken true = s.eligiblePair s.tileTaken true := funext fun t => h.eligiblePair _ _ t
  simp only [State.chooseSpare, htaken, h.successors, hsingle, hpair]

theorem InSwaps.spareFits (h : InSwaps u s) (htaken : u.tileTaken = s.tileTaken) (pad t : Nat) (paired : Bool) :
    u.spareFits pad t paired = s.spareFits pad t paired := by
  simp only [State.spareFits, htaken, h.eligible, h.eligiblePair]

end Sys2Proof.Proofs
end

section
/-! # A substitution begins (R233 step 1, R236) -/

set_option Elab.async false

namespace Sys2Proof.Proofs

open Sys2Proof Sys2Proof.Machine Sys2Proof.Laws

variable {s u v : State} {old asked c d t : Nat}

/-! ## It is entered -/

/-- The record of a substitution that begins. -/
def freshSwap (s : State) (old asked : Nat) : Swap := ⟨old, 0xFFFF, 0, 0, s.clock, asked⟩

/-- The contexts of a tile show from which line on they wait for a substitute. -/
def swapsFrom (s : State) (cs : List Nat) : State := cs.foldl (fun st c => st.set (K.ctxSwapFrom c) (st.nextNumber c)) s

/-- A substitution is entered among those that run. -/
def swapEntered (s : State) (old asked : Nat) : State :=
  ((swapsFrom (s.putSwaps (s.swaps ++ [freshSwap s old asked])) (s.tileCtxs old)).setSwapState (s.tileCtxs old) 1).showSwaps

theorem beginSwap_eq (s : State) (old asked : Nat) : s.beginSwap old asked = (swapEntered s old asked).pumpSwaps := rfl

theorem inSwaps_swapsFrom (s : State) (cs : List Nat) : InSwaps (swapsFrom s cs) s :=
  inSwaps_foldl _ _ (fun t c => inSwaps_set t _ (.inr ⟨c, .inl rfl⟩)) _

theorem inSwaps_setSwapState (s : State) (cs : List Nat) (x : Nat) : InSwaps (s.setSwapState cs x) s :=
  inSwaps_foldl _ _ (fun t c => inSwaps_set t _ (.inr ⟨c, .inr rfl⟩)) _

theorem inSwaps_showSwaps (s : State) : InSwaps s.showSwaps s := inSwaps_set s _ (.inl rfl)

theorem inSwaps_entered (s : State) (old asked : Nat) : InSwaps (swapEntered s old asked) s :=
  (inSwaps_showSwaps _).trans ((inSwaps_setSwapState ..).trans ((inSwaps_swapsFrom ..).trans (inSwaps_putSwaps ..)))

theorem swapsFrom_swaps (s : State) (cs : List Nat) : (swapsFrom s cs).swaps = s.swaps := foldl_keeps State.swaps _ _ _ fun _ _ => set_swaps ..

theorem showSwaps_swaps (s : State) : s.showSwaps.swaps = s.swaps := set_swaps ..

theorem entered_swaps (s : State) (old asked : Nat) : (swapEntered s old asked).swaps = s.swaps ++ [freshSwap s old asked] :=
  (showSwaps_swaps _).trans ((setSwapState_swaps ..).trans (swapsFrom_swaps ..))

theorem ctxSwapFrom_injective {c d : Nat} (h : K.ctxSwapFrom c = K.ctxSwapFrom d) : c = d := by
  simp only [K.ctxSwapFrom, key] at h
  omega

theorem swapsFrom_obj {cs : List Nat} (h : InSwaps v s) (hd : d ∈ cs ∨ v.obj (K.ctxSwapFrom d) = s.nextNumber d) :
    (swapsFrom v cs).obj (K.ctxSwapFrom d) = s.nextNumber d := by
  induction cs generalizing v with
  | nil => exact hd.resolve_left List.not_mem_nil
  | cons c cs ih =>
    refine ih ((inSwaps_set v _ (.inr ⟨c, .inl rfl⟩)).trans h) ?_
    by_cases hc : d = c
    · exact .inr (hc ▸ (obj_set_self ..).trans (h.nextNumber d))
    · rcases hd with hd | hd
      · exact .inl ((List.mem_cons.1 hd).resolve_left hc)
      · exact .inr ((obj_set_ne _ _ fun he => hc (ctxSwapFrom_injective he)).trans hd)

theorem setSwapState_other (s : State) (cs : List Nat) (x : Nat) {i b : Nat} (hb : b < 256) (h : b ≠ 0x15) :
    (s.setSwapState cs x).obj (key i b) = s.obj (key i b) :=
  foldl_keeps (·.obj (key i b)) _ _ _ fun _ _ => obj_set_ne _ _ (key_ne hb (by decide) (.inr h))

theorem showSwaps_other (s : State) {i b : Nat} (hb : b < 256) (h : b ≠ 0x10) : s.showSwaps.obj (key i b) = s.obj (key i b) :=
  obj_set_ne _ _ (key_ne hb (by decide) (.inr h))

/-- What the contexts of a tile and the count of substitutions show of one that has begun. -/
structure SwapShows (s u : State) (old : Nat) : Prop where
  state : ∀ d ∈ s.tileCtxs old, u.obj (K.ctxSwapState d) = 1
  from_ : ∀ d ∈ s.tileCtxs old, u.obj (K.ctxSwapFrom d) = s.nextNumber d
  active : u.obj K.placerSwapsActive = min 64 (s.swaps.length + 1)

theorem entered_shows (s : State) (old asked : Nat) : SwapShows s (swapEntered s old asked) old := by
  refine ⟨fun d hd => ?_, fun d hd => ?_, ?_⟩
  · exact (showSwaps_other _ (by decide) (by decide)).trans (setSwapState_obj _ 1 hd)
  · exact (showSwaps_other _ (by decide) (by decide)).trans ((setSwapState_other _ _ _ (by decide) (by decide)).trans
      (swapsFrom_obj (inSwaps_putSwaps ..) (.inl hd)))
  · have hlength : ((swapsFrom (s.putSwaps (s.swaps ++ [freshSwap s old asked])) (s.tileCtxs old)).setSwapState (s.tileCtxs old) 1).swaps =
        s.swaps ++ [freshSwap s old asked] := (setSwapState_swaps ..).trans (swapsFrom_swaps ..)
    refine (obj_set_self ..).trans ?_
    rw [hlength, List.length_append]
    rfl

/-! ## It takes its spare, or waits -/

theorem pumpSwapsFrom_skips (s : State) (ws vs : List Swap) (h : ∀ w ∈ ws, w.step ≠ 0) : s.pumpSwapsFrom (ws ++ vs) = s.pumpSwapsFrom vs := by
  induction ws with
  | nil => rfl
  | cons w ws ih =>
    have hw : ¬ (decide (w.step = 0) && !s.swapWaits w.old) = true := by simp [h w (List.mem_cons_self ..)]
    rw [List.cons_append, State.pumpSwapsFrom, if_neg hw]
    exact ih fun x hx => h x (List.mem_cons_of_mem _ hx)

theorem entered_waits (s : State) (old asked : Nat) : (swapEntered s old asked).swapWaits old = s.swapWaits old := by
  rw [State.swapWaits, entered_swaps, State.reloading, (inSwaps_entered s old asked).reload, List.filter_append]
  simp [freshSwap, State.swapWaits, State.reloading]

theorem beginSwap_cases (hsteps : ∀ w ∈ s.swaps, w.step ≠ 0) : s.beginSwap old asked =
    if s.swapWaits old then swapEntered s old asked else (swapEntered s old asked).reserveSpare (freshSwap s old asked) := by
  rw [beginSwap_eq, State.pumpSwaps, entered_swaps, pumpSwapsFrom_skips _ _ _ hsteps, State.pumpSwapsFrom]
  have hold : (freshSwap s old asked).old = old := rfl
  have hstep : (freshSwap s old asked).step = 0 := rfl
  rw [hold, hstep, entered_waits]
  cases s.swapWaits old <;> rfl

/-- The pad of a tile's contexts that a spare has to be near. -/
def padNear (s : State) (old : Nat) : Nat := (s.tileCtxs old).foldl (fun a d => min a (s.padOf d)) 255

theorem entered_padNear (s : State) (old asked : Nat) : padNear (swapEntered s old asked) old = padNear s old := by
  have h := inSwaps_entered s old asked
  have hpad : (swapEntered s old asked).padOf = s.padOf := funext h.padOf
  rw [padNear, h.alike.tileCtxs, hpad, padNear]

theorem entered_taken (hmembers : ∀ m ∈ s.calMembers old, s.tileTaken m = true) : (swapEntered s old asked).tileTaken = s.tileTaken := by
  funext t
  rw [tileTaken_eq, entered_swaps, (inSwaps_entered s old asked).alike.takenBy, tileTaken_eq]
  exact takenBy_append s s.swaps _ t rfl hmembers

/-- What the check of a substitution grants of its spare. -/
def SpareGranted (s : State) (old asked : Nat) : Prop :=
  if asked = 0xFFFF then (s.chooseSpare (padNear s old) (s.adcMode old == 3)).isSome = true
  else s.spareFits (padNear s old) asked (s.adcMode old == 3) = true

/-- The spare that a substitution takes as it begins. -/
def SpareOf (s : State) (old asked t : Nat) : Prop :=
  (asked ≠ 0xFFFF → t = asked) ∧ (asked = 0xFFFF → s.chooseSpare (padNear s old) (s.adcMode old == 3) = some t)

theorem pickSpare_entered (hmembers : ∀ m ∈ s.calMembers old, s.tileTaken m = true) (h : SpareGranted s old asked) :
    ∃ t, pickSpare (swapEntered s old asked) (freshSwap s old asked) = some t ∧ SpareOf s old asked t := by
  have hkeeps := inSwaps_entered s old asked
  have htaken := entered_taken (asked := asked) hmembers
  have hpick : pickSpare (swapEntered s old asked) (freshSwap s old asked) =
      if asked ≠ 0xFFFF then (if s.spareFits (padNear s old) asked (s.adcMode old == 3) then some asked else none)
      else s.chooseSpare (padNear s old) (s.adcMode old == 3) := by
    have heq : pickSpare (swapEntered s old asked) (freshSwap s old asked) =
        if asked ≠ 0xFFFF && (0 : Nat) = 0 then (if (swapEntered s old asked).spareFits (padNear (swapEntered s old asked) old) asked
          ((swapEntered s old asked).adcMode old == 3) then some asked else none)
        else (swapEntered s old asked).chooseSpare (padNear (swapEntered s old asked) old) ((swapEntered s old asked).adcMode old == 3) := rfl
    rw [heq, hkeeps.spareFits htaken, hkeeps.chooseSpare htaken, entered_padNear, hkeeps.alike.adcMode]
    simp
  rw [hpick]
  unfold SpareGranted at h
  split at h
  next ha =>
    obtain ⟨t, ht⟩ := Option.isSome_iff_exists.1 h
    exact ⟨t, by rw [if_neg (not_not.2 ha), ht], fun hne => absurd ha hne, fun _ => ht⟩
  next ha => exact ⟨asked, by rw [if_pos ha, if_pos h], fun _ => rfl, fun he => absurd he ha⟩

/-! ## The spare is shown -/

theorem ctxSwapTile_injective {c d : Nat} (h : K.ctxSwapTile c = K.ctxSwapTile d) : c = d := by
  simp only [K.ctxSwapTile, key] at h
  omega

/-- The contexts of a tile show a substitute. -/
def swapTiles (s : State) (cs : List Nat) (t : Nat) : State := cs.foldl (fun st c => st.set (K.ctxSwapTile c) t) s

theorem swapTiles_obj (s : State) {cs : List Nat} (hd : d ∈ cs ∨ s.obj (K.ctxSwapTile d) = t) : (swapTiles s cs t).obj (K.ctxSwapTile d) = t := by
  induction cs generalizing s with
  | nil => exact hd.resolve_left List.not_mem_nil
  | cons c cs ih =>
    refine ih _ ?_
    by_cases hc : d = c
    · exact .inr (hc ▸ obj_set_self ..)
    · rcases hd with hd | hd
      · exact .inl ((List.mem_cons.1 hd).resolve_left hc)
      · exact .inr ((obj_set_ne _ _ fun he => hc (ctxSwapTile_injective he)).trans hd)

theorem swapTiles_other (s : State) (cs : List Nat) (t : Nat) {i b : Nat} (hb : b < 256) (h : b ≠ 0x16) :
    (swapTiles s cs t).obj (key i b) = s.obj (key i b) :=
  foldl_keeps (·.obj (key i b)) _ _ _ fun _ _ => obj_set_ne _ _ (key_ne hb (by decide) (.inr h))

theorem swapTiles_swaps (s : State) (cs : List Nat) (t : Nat) : (swapTiles s cs t).swaps = s.swaps :=
  foldl_keeps State.swaps _ _ _ fun _ _ => set_swaps ..

theorem spareShown_eq (s : State) (w : Swap) (t : Nat) :
    spareShown s w t = (swapTiles (spareNoted s w t) (s.tileCtxs w.old) t).setSwapState (s.tileCtxs w.old) 1 := rfl

theorem spareNoted_obj (s : State) (w : Swap) (t k : Nat) : (spareNoted s w t).obj k = s.obj k := rfl

/-- The record of a substitution that has its first spare. -/
def sparedSwap (s : State) (old asked t : Nat) : Swap := ⟨old, t, 2, 1, s.clock, asked⟩

theorem spareNoted_swaps (hnone : ∀ w ∈ s.swaps, w.old ≠ old) (h : u.swaps = s.swaps ++ [freshSwap s old asked]) :
    (spareNoted u (freshSwap s old asked) t).swaps = s.swaps ++ [sparedSwap s old asked t] := by
  have hmap : (spareNoted u (freshSwap s old asked) t).swaps =
      u.swaps.map (fun w => if w.old = old then { w with spare := t, step := 2, tries := 1 } else w) := rfl
  rw [hmap, h, List.map_append]
  congr 1
  · exact (List.map_congr_left fun w hw => if_neg (hnone w hw)).trans (List.map_id _)
  · simp [freshSwap, sparedSwap]

/-- A spare that has been chosen is written as the tile that it replaces. -/
theorem reserveSpare_takes {w : Swap} (h : pickSpare s w = some t) : InTiles (s.reserveSpare w) (spareShown s w t) := by
  obtain ⟨ht, hpair⟩ := pickSpare_lt h
  rw [reserveSpare_eq, h]
  exact inTiles_spareWritten s w ht hpair

/-- What a substitution that has begun with a spare shows. -/
theorem reserved_shows (hnone : ∀ w ∈ s.swaps, w.old ≠ old) {w : Swap} (hw : w = freshSwap s old asked)
    (hpick : pickSpare (swapEntered s old asked) w = some t) :
    SwapShows s ((swapEntered s old asked).reserveSpare w) old ∧
      ((swapEntered s old asked).reserveSpare w).swaps = s.swaps ++ [sparedSwap s old asked t] ∧
      ∀ d ∈ s.tileCtxs old, ((swapEntered s old asked).reserveSpare w).obj (K.ctxSwapTile d) = t := by
  obtain ⟨hstate, hfrom, hactive⟩ := entered_shows s old asked
  have hswaps := entered_swaps s old asked
  have hctxs := (inSwaps_entered s old asked).alike.tileCtxs old
  have htiles := reserveSpare_takes hpick
  generalize swapEntered s old asked = e at hstate hfrom hactive hswaps hctxs htiles
  have hold : w.old = old := by rw [hw]; rfl
  have hhigh (d b : Nat) : key (0x4000 + d) b < 0x300000 ∨ 0x400000 ≤ key (0x4000 + d) b := by
    simp only [key]
    omega
  have hshown (i b : Nat) (hb : b < 256) (h16 : b ≠ 0x16) (h15 : b ≠ 0x15) : (spareShown e w t).obj (key i b) = e.obj (key i b) :=
    (setSwapState_other _ _ _ hb h15).trans (swapTiles_other _ _ _ hb h16)
  have hnoted : (spareShown e w t).swaps = s.swaps ++ [sparedSwap s old asked t] := by
    refine (setSwapState_swaps ..).trans ((swapTiles_swaps ..).trans ?_)
    rw [hw]
    exact spareNoted_swaps hnone hswaps
  have hstates (d : Nat) (hd : d ∈ s.tileCtxs old) : (spareShown e w t).obj (K.ctxSwapState d) = 1 := by
    rw [spareShown_eq, hold, hctxs]
    exact setSwapState_obj _ 1 hd
  have htilesShown (d : Nat) (hd : d ∈ s.tileCtxs old) : (spareShown e w t).obj (K.ctxSwapTile d) = t := by
    rw [spareShown_eq, hold, hctxs]
    exact (setSwapState_other _ _ _ (by decide) (by decide)).trans (swapTiles_obj _ (.inl hd))
  generalize e.reserveSpare w = r at htiles
  refine ⟨⟨fun d hd => (htiles.obj _ (hhigh ..)).trans (hstates d hd), fun d hd => ?_, ?_⟩, htiles.swaps.trans hnoted,
    fun d hd => (htiles.obj _ (hhigh ..)).trans (htilesShown d hd)⟩
  · exact (htiles.obj _ (hhigh ..)).trans ((hshown _ _ (by decide) (by decide) (by decide)).trans (hfrom d hd))
  · exact (htiles.obj _ (.inl (by decide))).trans ((hshown _ _ (by decide) (by decide) (by decide)).trans hactive)

end Sys2Proof.Proofs
end

section
/-! # Substitutions go on (O34) -/

set_option Elab.async false

namespace Sys2Proof.Proofs

open Sys2Proof Sys2Proof.Machine Sys2Proof.Laws

variable {s u : State} {q : Req} {l : Loc} {c k asked : Nat}

/-! ## What the check of a substitution grants -/

theorem guardSwap_fits {t : Nat} (h : guardSwap s c (some t) = .ok ()) : (s.swapOf (s.obj (K.ctxTile c))).isNone = true ∧
    s.spareFits (padNear s (s.obj (K.ctxTile c))) t (s.adcMode (s.obj (K.ctxTile c)) == 3) = true := by
  obtain ⟨_, -, h⟩ := bind_ok h
  obtain ⟨_, -, h⟩ := bind_ok h
  obtain ⟨_, -, h⟩ := bind_ok h
  obtain ⟨_, hnone, h⟩ := bind_ok h
  exact ⟨need_ok hnone, need_ok h⟩

theorem guardSwap_chooses (h : guardSwap s c none = .ok ()) : (s.swapOf (s.obj (K.ctxTile c))).isNone = true ∧
    (s.chooseSpare (padNear s (s.obj (K.ctxTile c))) (s.adcMode (s.obj (K.ctxTile c)) == 3)).isSome = true := by
  obtain ⟨_, -, h⟩ := bind_ok h
  obtain ⟨_, -, h⟩ := bind_ok h
  obtain ⟨_, -, h⟩ := bind_ok h
  obtain ⟨_, hnone, h⟩ := bind_ok h
  exact ⟨need_ok hnone, need_ok h⟩

theorem spareFits_named {pad t : Nat} {paired : Bool} (h : s.spareFits pad t paired = true) : t ≠ 0xFFFF := fun ht => by
  have hlt := (spareFits_lt h).1
  omega

/-! ## A write begins a substitution -/

theorem place_ctxAction {b : Nat} (hc : c < 1024) (hb : b = 0x1E ∨ b = 0x1F) : place (key (0x4000 + c) b) = some (.context, 8, c, b) := by
  have hdiv : key (0x4000 + c) b / 256 = 0x4000 + c := key_div (by omega)
  have hmod : key (0x4000 + c) b % 256 = b := key_mod (by omega)
  simp only [place, hdiv, hmod, context_place c _ hc]
  rcases hb with rfl | rfl
  · rfl
  · rfl

theorem putStream_swap {p : Put} (hform : p.l.row.form = .context) (hsub : p.sub = 0x1E) : putStream s p = xCtxSwap p.l.unit p.v (s.putValue p) := by
  simp [putStream, hform, hsub]

theorem putStream_retry {p : Put} (hform : p.l.row.form = .context) (hsub : p.sub = 0x1F) :
    putStream s p = xCtxSwap p.l.unit 0xFFFF (s.putValue p) := by
  simp [putStream, hform, hsub]

/-- An object of a context has the checks of the streams' family. -/
theorem guardPut_stream {p : Put} (hlo : 0x4000 ≤ p.index) (hhi : p.index < 0x5000) (hsub : p.sub ≠ 0x23) (h : s.guardPut p = .ok ()) :
    guardStream s p = .ok () := by
  obtain ⟨-, -, h⟩ := bind_ok h
  have h1 : ¬ p.index < 0x1400 := by omega
  have h2 : ¬ p.index < 0x1800 := by omega
  have h3 : ¬ p.index < 0x2800 := by omega
  have h4 : ¬ (decide (p.index < 0x4000) && decide (0x3000 ≤ p.index)) = true := by
    rw [Bool.and_eq_true, decide_eq_true_eq]
    omega
  have h5 : ¬ (p.l.row.form = .context && p.sub = 0x23 : Bool) = true := by simp [hsub]
  rw [if_neg h1, if_neg h2, if_neg h3, if_neg h4, if_pos hhi] at h
  exact (if_neg h5).symm.trans h

theorem guardStream_swap {p : Put} (hform : p.l.row.form = .context) (hsub : p.sub = 0x1E) :
    guardStream s p = guardSwap s p.l.unit (some p.v) := by
  simp [guardStream, hform, hsub]

theorem guardStream_retry {p : Put} (hform : p.l.row.form = .context) (hsub : p.sub = 0x1F) :
    guardStream s p = guardSwap s p.l.unit none := by
  simp [guardStream, hform, hsub]

/-- A write of a context has begun a substitution of its tile. -/
structure Begun (s : State) (q : Req) (l : Loc) (k c asked : Nat) : Prop where
  written : ∃ cls port, s.written (onObject q k) l =
    ((s.access (onObject q k)).beginSwap ((s.access (onObject q k)).obj (K.ctxTile c)) asked).record k cls port
  none_ : ((s.access (onObject q k)).swapOf ((s.access (onObject q k)).obj (K.ctxTile c))).isNone = true
  granted : SpareGranted (s.access (onObject q k)) ((s.access (onObject q k)).obj (K.ctxTile c)) asked

theorem ctxKey_range {b : Nat} (hc : c < 1024) (hb : b < 256) : 0x400000 ≤ key (0x4000 + c) b ∧ key (0x4000 + c) b < 0x500000 := by
  simp only [key]
  omega

theorem ctxSwap_begun (hc : c < 1024) (h : Accepts s (onObject q (K.ctxSwap c)) l) : Begun s q l (K.ctxSwap c) c (ofLE q.body) := by
  have hdiv : K.ctxSwap c / 256 = 0x4000 + c := key_div (by decide)
  have hmod : K.ctxSwap c % 256 = 0x1E := key_mod (by decide)
  obtain ⟨hlo, hhi⟩ := ctxKey_range hc (b := 0x1E) (by decide)
  obtain ⟨hform, hattr, hunit, -⟩ := accepted_row h (by omega) (place_ctxAction hc (.inl rfl))
  have hguard : (s.access (onObject q (K.ctxSwap c))).guardPut (putAt s q (K.ctxSwap c) l) = .ok () := accepted_guard h
  have hstream := guardPut_stream (by rw [putAt_index]; omega) (by rw [putAt_index]; omega) (by rw [putAt_sub]; omega) hguard
  rw [guardStream_swap (p := putAt s q (K.ctxSwap c) l) hform hmod, putAt_l, putAt_v, hunit] at hstream
  obtain ⟨hnone, hfits⟩ := guardSwap_fits hstream
  refine ⟨⟨(s.access (onObject q (K.ctxSwap c))).classOf q.port, q.port, ?_⟩, hnone, ?_⟩
  · rw [written_stream (k := K.ctxSwap c) hlo hhi, putBy, putStream_swap (p := putAt s q (K.ctxSwap c) l) hform hmod, putValue_action _ hattr, putAt_l, putAt_v,
      hunit, xCtxSwap]
  · rw [SpareGranted, if_neg (spareFits_named hfits)]
    exact hfits

theorem ctxRetry_begun (hc : c < 1024) (h : Accepts s (onObject q (K.ctxRetry c)) l) : Begun s q l (K.ctxRetry c) c 0xFFFF := by
  have hdiv : K.ctxRetry c / 256 = 0x4000 + c := key_div (by decide)
  have hmod : K.ctxRetry c % 256 = 0x1F := key_mod (by decide)
  obtain ⟨hlo, hhi⟩ := ctxKey_range hc (b := 0x1F) (by decide)
  obtain ⟨hform, hattr, hunit, -⟩ := accepted_row h (by omega) (place_ctxAction hc (.inr rfl))
  have hguard : (s.access (onObject q (K.ctxRetry c))).guardPut (putAt s q (K.ctxRetry c) l) = .ok () := accepted_guard h
  have hstream := guardPut_stream (by rw [putAt_index]; omega) (by rw [putAt_index]; omega) (by rw [putAt_sub]; omega) hguard
  rw [guardStream_retry (p := putAt s q (K.ctxRetry c) l) hform hmod, putAt_l, hunit] at hstream
  obtain ⟨hnone, hchosen⟩ := guardSwap_chooses hstream
  refine ⟨⟨(s.access (onObject q (K.ctxRetry c))).classOf q.port, q.port, ?_⟩, hnone, ?_⟩
  · rw [written_stream (k := K.ctxRetry c) hlo hhi, putBy, putStream_retry (p := putAt s q (K.ctxRetry c) l) hform hmod, putValue_action _ hattr, putAt_l,
      hunit, xCtxSwap]
  · rw [SpareGranted, if_pos rfl]
    exact hchosen

/-- What a substitution that has begun shows, whether it waits or has its spare. -/
theorem beginSwap_shows {old : Nat} (hsteps : ∀ w ∈ s.swaps, w.step ≠ 0) (hmembers : ∀ m ∈ s.calMembers old, s.tileTaken m = true)
    (hnone : (s.swapOf old).isNone = true) (hgranted : SpareGranted s old asked) :
    SwapShows s (s.beginSwap old asked) old ∧
      (s.swapWaits old = true → (s.beginSwap old asked).swaps = s.swaps ++ [⟨old, 0xFFFF, 0, 0, s.clock, asked⟩]) ∧
      (s.swapWaits old = false → ∃ t, (s.beginSwap old asked).swaps = s.swaps ++ [⟨old, t, 2, 1, s.clock, asked⟩] ∧ SpareOf s old asked t ∧
        ∀ d ∈ s.tileCtxs old, (s.beginSwap old asked).obj (K.ctxSwapTile d) = t) := by
  have hothers : ∀ w ∈ s.swaps, w.old ≠ old := fun w hw he =>
    List.find?_eq_none.1 (Option.isNone_iff_eq_none.1 hnone) w hw (by simpa using he)
  rw [beginSwap_cases hsteps]
  cases hwaits : s.swapWaits old with
  | true => exact ⟨entered_shows .., fun _ => entered_swaps .., fun he => absurd he.symm Bool.false_ne_true⟩
  | false =>
    obtain ⟨t, hpick, hspare⟩ := pickSpare_entered hmembers hgranted
    obtain ⟨hshows, hswaps, htiles⟩ := reserved_shows hothers rfl hpick
    exact ⟨hshows, fun he => absurd he Bool.false_ne_true, fun _ => ⟨t, hswaps, hspare, htiles⟩⟩

theorem Alike.tileTaken (h : Alike u s) (hswaps : u.swaps = s.swaps) (t : Nat) : u.tileTaken t = s.tileTaken t := by
  rw [tileTaken_eq, hswaps, h.takenBy, tileTaken_eq]

theorem Alike.swapWaits (h : Alike u s) (hswaps : u.swaps = s.swaps) (old : Nat) : u.swapWaits old = s.swapWaits old := by
  rw [State.swapWaits, hswaps, State.reloading, h.reload, State.swapWaits, State.reloading]

/-- CTX_RETRY and CTX_SWAP. -/
theorem substitution_begins {i : Instr} (hi : (i = .ctxRetry q c ∧ k = K.ctxRetry c ∧ asked = 0xFFFF) ∨ (i = .ctxSwap q c ∧ k = K.ctxSwap c ∧
    asked = ofLE q.body)) (hc : c < 1024) (h : Accepts s (onObject q k) l) (hsteps : ∀ x ∈ s.swaps, x.step ≠ 0)
    (hmembers : ∀ m ∈ s.calMembers (s.obj (K.ctxTile c)), s.tileTaken m = true) :
    let w := onObject q k
    let a := s.access w
    let old := s.obj (K.ctxTile c)
    let cs := a.tileCtxs old
    Completes i s
      (fun u => Responds (s.written w l) u w (okMessage u w .write [] l.row.ty.code 0) ∧
        (∀ d ∈ cs, u.obj (K.ctxSwapState d) = 1 ∧ u.obj (K.ctxSwapFrom d) = a.nextNumber d) ∧
        u.obj K.placerSwapsActive = min 64 (s.swaps.length + 1) ∧
        (s.swapWaits old = true → u.swaps = s.swaps ++ [⟨old, 0xFFFF, 0, 0, a.clock, asked⟩]) ∧
        (s.swapWaits old = false → ∃ t, u.swaps = s.swaps ++ [⟨old, t, 2, 1, a.clock, asked⟩] ∧ (asked ≠ 0xFFFF → t = asked) ∧
          (asked = 0xFFFF → a.chooseSpare (cs.foldl (fun b d => min b (a.padOf d)) 255) (a.adcMode old == 3) = some t) ∧
          ∀ d ∈ cs, u.obj (K.ctxSwapTile d) = t)) (fun _ => True) := by
  intro w a old cs
  have hbegun : Begun s q l k c asked := by
    obtain ⟨-, rfl, rfl⟩ | ⟨-, rfl, rfl⟩ := hi
    · exact ctxRetry_begun hc h
    · exact ctxSwap_begun hc h
  have hexec : exec i s = s.asks w .write := by
    obtain ⟨rfl, rfl, -⟩ | ⟨rfl, rfl, -⟩ := hi
    · exact asks_of_writesOf (exec_ctxRetry q c s) (decide_eq_true hc)
    · exact asks_of_writesOf (exec_ctxSwap q c s) (decide_eq_true hc)
  have halike : Alike a s := alike_access h
  have hswaps : a.swaps = s.swaps := access_swaps s w
  have htile : a.obj (K.ctxTile c) = old := halike.tile c
  obtain ⟨⟨cls, port, hwritten⟩, hnone, hgranted⟩ := hbegun
  change s.written w l = (a.beginSwap (a.obj (K.ctxTile c)) asked).record k cls port at hwritten
  change (a.swapOf (a.obj (K.ctxTile c))).isNone = true at hnone
  change SpareGranted a (a.obj (K.ctxTile c)) asked at hgranted
  rw [htile] at hwritten hnone hgranted
  have hmembers' : ∀ m ∈ a.calMembers old, a.tileTaken m = true := fun m hm => by
    rw [halike.calMembers] at hm
    rw [halike.tileTaken hswaps]
    exact hmembers m hm
  obtain ⟨⟨hstate, hfrom, hactive⟩, hwait, htake⟩ := beginSwap_shows (hswaps ▸ hsteps) hmembers' hnone hgranted
  rw [halike.swapWaits hswaps, hswaps] at hwait htake
  rw [hswaps] at hactive
  have hobj (op : Op) (quiet : Bool) (body : List Byte) (ty tr k : Nat) :
      ((s.written w l).answered w op quiet body ty tr).obj k = (a.beginSwap old asked).obj k := by
    rw [answered_obj, hwritten, obj_record]
  have hlist (op : Op) (quiet : Bool) (body : List Byte) (ty tr : Nat) :
      ((s.written w l).answered w op quiet body ty tr).swaps = (a.beginSwap old asked).swaps := by
    rw [answered_swaps, hwritten, record_swaps]
  clear_value a old
  refine ⟨_, hexec.trans (write_done s _ l h), ⟨responds_answered .., fun d hd => ⟨(hobj ..).trans (hstate d hd), (hobj ..).trans (hfrom d hd)⟩,
    (hobj ..).trans hactive, fun hw => (hlist ..).trans (hwait hw), fun hw => ?_⟩, trivial⟩
  obtain ⟨t, htaken, ⟨hnamed, hchosen⟩, htiles⟩ := htake hw
  exact ⟨t, (hlist ..).trans htaken, hnamed, hchosen, fun d hd => (hobj ..).trans (htiles d hd)⟩

/-- Settles O34. -/
theorem substitutionsGoOn : Obligations.SubstitutionsGoOn := by
  unfold Obligations.SubstitutionsGoOn
  refine ⟨fun s q l c asked i k _ hc hi => ?_, fun s t old x h hold hswap => substSteps_end h hold hswap,
    fun s t old x hheld hold hswap hstep hrun hbus => substitution_switches hheld hold hswap hstep hrun hbus,
    fun s t c h hc hstate hcount => swappedCount_expires h hc hstate hcount, fun s t j m h hj hmove => pieceMove_goesOn h.1 hj hmove⟩
  intro w a old cs h hsteps hmembers
  exact substitution_begins hi hc h hsteps hmembers

end Sys2Proof.Proofs
end

section
/-! # What the logic of the fabric leaves as it runs (R281 to R289) -/

set_option Elab.async false

namespace Sys2Proof.Proofs

open Sys2Proof Sys2Proof.Machine Sys2Proof.Laws

variable {s u v : State} {q : Nat}

/-- Logic has run: of the nets the signals of the port cells stand, and what port cells and probes hold. -/
structure NetsRun (u s : State) : Prop where
  cells : ∀ q, (u.net q).cells = (s.net q).cells
  fabs : u.fabs = s.fabs
  coarse : u.coarse = s.coarse
  samples : u.samples = s.samples

theorem NetsRun.refl (s : State) : NetsRun s s := ⟨fun _ => rfl, rfl, rfl, rfl⟩

theorem NetsRun.trans (h : NetsRun u v) (g : NetsRun v s) : NetsRun u s :=
  ⟨fun q => (h.cells q).trans (g.cells q), h.fabs.trans g.fabs, h.coarse.trans g.coarse, h.samples.trans g.samples⟩

theorem NetsRun.cell (h : NetsRun u s) (q k : Nat) : (u.net q).cell k = (s.net q).cell k := congrArg (fun c => Sp.get (fun _ => 0) c k) (h.cells q)

theorem NetsRun.fab (h : NetsRun u s) (j : Nat) : u.fab j = s.fab j := congrArg (fun m => Sp.get (fun _ => Fab.none_) m j) h.fabs

theorem netsRun_foldl {α : Type} (f : State → α → State) (h : ∀ t x, NetsRun (f t x) t) (xs : List α) (s : State) : NetsRun (xs.foldl f s) s := by
  induction xs generalizing s with
  | nil => exact .refl s
  | cons x xs ih => exact (ih (f s x)).trans (h s x)

theorem netsRun_ite {p : Prop} [Decidable p] (h : NetsRun u s) (g : NetsRun v s) : NetsRun (if p then u else v) s := by
  split
  · exact h
  · exact g

/-! ## Nets -/

theorem net_setNet_self (s : State) (q : Nat) (x : Net) : (s.setNet q x).net q = x := get_put_self ..

theorem net_setNet_ne (s : State) {q r : Nat} (x : Net) (h : r ≠ q) : (s.setNet q x).net r = s.net r := get_put_ne _ _ _ h

theorem netsRun_setNet (s : State) (q : Nat) (x : Net) (h : x.cells = (s.net q).cells) : NetsRun (s.setNet q x) s := by
  refine ⟨fun r => ?_, rfl, rfl, rfl⟩
  by_cases hr : r = q
  · rw [hr, net_setNet_self, h]
  · rw [net_setNet_ne _ _ hr]

theorem netsRun_modNet (s : State) (q : Nat) (f : Net → Net) (h : ∀ n, (f n).cells = n.cells) : NetsRun (s.modNet q f) s :=
  netsRun_setNet s q _ (h _)

theorem netsRun_count (s : State) (k w n : Nat) : NetsRun (s.count k w n) s :=
  ⟨fun q => congrArg (fun m => (Sp.get (fun _ => Net.none_) m q).cells) (count_nets s k w n), count_fabs .., count_coarse .., count_samples ..⟩

theorem netsRun_draw (s : State) (k : Nat) : NetsRun (s.draw k).2 s := ⟨fun _ => rfl, rfl, rfl, rfl⟩

/-! ## Levels settle -/

theorem netsRun_passSector (s : State) (q : Nat) : NetsRun (s.passSector q) s := by
  unfold State.passSector
  extract_lets n level cl sigs outs macs t
  have ht : NetsRun t s := netsRun_setNet s q _ rfl
  clear_value t
  refine NetsRun.trans (netsRun_foldl _ (fun u e => ?_) _ t) ht
  split
  · exact netsRun_modNet u _ _ fun _ => rfl
  · exact .refl u

theorem netsRun_looseNets (s : State) : NetsRun s.looseNets s := by
  refine netsRun_foldl _ (fun t q => netsRun_foldl _ (fun u e => ?_) _ t) _ s
  have hdrawn := netsRun_draw u 74
  generalize u.draw 74 = d at hdrawn
  exact NetsRun.trans (netsRun_modNet d.2 q _ fun _ => rfl) hdrawn

theorem netsRun_settleNets (n : Nat) (s : State) : NetsRun (State.settleNets n s) s := by
  induction n generalizing s with
  | zero => exact netsRun_looseNets s
  | succ n ih =>
    unfold State.settleNets
    extract_lets t
    have ht : NetsRun t s := netsRun_foldl _ netsRun_passSector _ s
    exact netsRun_ite (.refl s) ((ih t).trans ht)

/-! ## Clocks act -/

theorem portEdge_cells (now : Nat) (level : Nat → Bool) (old x side : Nat) (ecc : Bool) (p : MemoryPort) (n : Net) :
    (portEdge now level old x side ecc p n).1.cells = n.cells := by
  unfold portEdge
  extract_lets places other met mine
  split
  · rfl
  · split <;> rfl

theorem memoryAfter_cells (now : Nat) (b n : Net) (x : Nat) (c : ClusterLogic) (m : Net) : (memoryAfter now b n x c m).1.cells = m.cells := by
  unfold memoryAfter
  extract_lets level edge
  have hedge (side : Nat) (p : MemoryPort) (r : Net × Nat) : (edge side p r).1.cells = r.1.cells := by
    unfold edge
    split
    · exact portEdge_cells ..
    · rfl
  exact (hedge ..).trans (hedge ..)

theorem netsRun_clockSector (s : State) (q : Nat) (b n : Net) : NetsRun (s.clockSector q b n) s := by
  refine netsRun_foldl _ (fun t e => ?_) _ s
  extract_lets x flopped r counted level after
  have hflopped : NetsRun flopped t := netsRun_modNet t q _ fun _ => rfl
  clear_value flopped
  have hcounted : NetsRun counted t := (netsRun_count ..).trans ((netsRun_setNet flopped q r.1 (memoryAfter_cells ..)).trans hflopped)
  clear_value counted
  split
  · exact NetsRun.trans (netsRun_modNet counted q _ fun _ => rfl) hcounted
  · exact hcounted

theorem netsRun_propagate (n : Nat) (b : List (Nat × Net)) (s : State) : NetsRun (State.propagate n b s) s := by
  induction n generalizing b s with
  | zero => exact .refl s
  | succ n ih =>
    unfold State.propagate
    extract_lets t u
    have hu : NetsRun u s := (netsRun_foldl _ (fun v q => netsRun_clockSector v q _ _) _ t).trans (netsRun_settleNets ..)
    exact netsRun_ite hu ((ih _ u).trans hu)

theorem netsRun_settleLogic (s : State) : NetsRun s.settleLogic s := netsRun_ite (.refl s) (netsRun_propagate ..)

theorem netsRun_modNets (s : State) (qs : List Nat) (f : Nat → Net → Net) (h : ∀ q n, (f q n).cells = n.cells) :
    NetsRun (qs.foldl (fun st q => st.modNet q (f q)) s) s :=
  netsRun_foldl _ (fun t q => netsRun_modNet t q (f q) (h q)) _ s

/-- A pulse of clock lines is what it does besides, with logic running before and after. -/
theorem pulse_runs (s : State) (src : Nat → Nat → Bool) (f : State → State) :
    ∃ v, (NetsRun v s ∧ Same v s) ∧ NetsRun (s.pulse src f) (f v) ∧ Same (s.pulse src f) (f v) := by
  unfold State.pulse
  split
  · exact ⟨s, ⟨.refl s, Same.refl s⟩, .refl _, Same.refl _⟩
  · extract_lets lines up before after down
    have hup : NetsRun up s ∧ Same up s := ⟨netsRun_modNets s _ _ fun _ _ => rfl, same_modNets ..⟩
    have hbefore : NetsRun before s ∧ Same before s :=
      ⟨(netsRun_propagate ..).trans hup.1, (same_propagate ..).trans hup.2⟩
    have hafter : NetsRun after (f before) ∧ Same after (f before) := ⟨netsRun_propagate .., same_propagate ..⟩
    clear_value before after
    have hdown : NetsRun down after ∧ Same down after := ⟨netsRun_modNets after _ _ fun _ _ => rfl, same_modNets ..⟩
    clear_value down
    exact ⟨before, hbefore, (netsRun_propagate ..).trans (hdown.1.trans hafter.1), (same_propagate ..).trans (hdown.2.trans hafter.2)⟩

end Sys2Proof.Proofs
end

section
/-! # Block memories and multiply-accumulate blocks (R282, R283) -/

set_option Elab.async false

namespace Sys2Proof.Proofs

open Sys2Proof Sys2Proof.Machine Sys2Proof.Laws

/-! ## Words among bits -/

theorem testBit_withBit (v i j : Nat) (b : Bool) : (withBit v i b).testBit j = if j = i then b else v.testBit j := by
  split
  next h => rw [h, testBit_withBit_self]
  next h =>
    rcases Nat.lt_or_gt_of_ne h with hlt | hgt
    · have hlow := congrArg (·.testBit j) (withBit_mod v i b)
      simpa [Nat.testBit_mod_two_pow, hlt] using hlow
    · exact testBit_withBit_of_lt v b hgt

section
variable {m v k p : Nat} {ps : List Nat}

theorem memoryWrite_cons (m v p k : Nat) (es : List (Nat × Nat)) :
    memoryWrite m v ((p, k) :: es) = memoryWrite (withBit m p (v.testBit k)) v es := rfl

theorem memoryWrite_other (m v : Nat) (es : List (Nat × Nat)) (h : p ∉ es.map (·.1)) : (memoryWrite m v es).testBit p = m.testBit p := by
  induction es generalizing m with
  | nil => rfl
  | cons e es ih =>
    obtain ⟨hne, hes⟩ := not_or.1 (fun hm => h (List.mem_cons.2 hm))
    rw [memoryWrite_cons, ih _ hes, testBit_withBit, if_neg hne]

theorem memoryRead_cons (m p : Nat) (ps : List Nat) : memoryRead m (p :: ps) = ofBool (m.testBit p) + 2 * memoryRead m ps := rfl

theorem memoryRead_congr {n : Nat} (ps : List Nat) (h : ∀ p ∈ ps, m.testBit p = n.testBit p) : memoryRead m ps = memoryRead n ps := by
  induction ps with
  | nil => rfl
  | cons p ps ih =>
    rw [memoryRead_cons, memoryRead_cons, h p (List.mem_cons_self ..), ih fun q hq => h q (List.mem_cons_of_mem _ hq)]

theorem shiftRight_bits (v k n : Nat) : (v >>> k) % 2 ^ (n + 1) = ofBool (v.testBit k) + 2 * ((v >>> (k + 1)) % 2 ^ n) := by
  rw [Nat.pow_succ', Nat.mod_mul, Nat.shiftRight_succ]
  congr 1
  rw [Nat.testBit_eq_decide_div_mod_eq, Nat.shiftRight_eq_div_pow]
  rcases Nat.mod_two_eq_zero_or_one (v / 2 ^ k) with h | h <;> simp [h, ofBool]

theorem zipIdx_fst (ps : List Nat) (k : Nat) : (ps.zipIdx k).map (·.1) = ps := by
  simp

/-- A word at distinct places is read back. -/
theorem memoryRead_write (m v : Nat) (h : ps.Nodup) (k : Nat) : memoryRead (memoryWrite m v (ps.zipIdx k)) ps = (v >>> k) % 2 ^ ps.length := by
  induction ps generalizing m k with
  | nil => simp [memoryRead, Nat.mod_one]
  | cons p ps ih =>
    obtain ⟨hp, hps⟩ := List.nodup_cons.1 h
    rw [List.zipIdx_cons, memoryWrite_cons, memoryRead_cons, ih _ hps, List.length_cons, shiftRight_bits, memoryWrite_other _ _ _ (by simpa using hp),
      testBit_withBit, if_pos rfl]

/-- Bits at other places stay. -/
theorem memoryRead_other {qs : List Nat} (m v : Nat) (h : ∀ p ∈ qs, p ∉ ps) : memoryRead (memoryWrite m v ps.zipIdx) qs = memoryRead m qs :=
  memoryRead_congr qs fun p hp => memoryWrite_other m v _ (by rw [zipIdx_fst]; exact h p hp)

end

/-! ## The places of words -/

/-- The place of data bit d, counted without the parity bits. -/
def dataPlace (d : Nat) : Nat := 72 * (d / 64) + d % 64

/-- The places of the eight data bits of a byte. -/
def bytePlaces (b : Nat) : List Nat := (List.range 8).map (fun i => 72 * (b / 8) + 8 * (b % 8) + i)

/-- The place of a byte's parity bit. -/
def parityPlace (b : Nat) : Nat := 72 * (b / 8) + 64 + b % 8

theorem memoryBits_narrow {w : Nat} (h : w < 9) (a : Nat) : memoryBits w a = (List.range w).map (fun i => dataPlace ((a * w + i) % 32768)) := by
  rw [memoryBits, if_pos h]
  rfl

/-- The bytes of a word that has some. -/
def wordBytes (r a : Nat) : List Nat := (List.range r).map (fun i => (a * r + i) % 4096)

theorem memoryBits_wide {w : Nat} (h : ¬ w < 9) (a : Nat) :
    memoryBits w a = (wordBytes (w / 9) a).flatMap bytePlaces ++ (wordBytes (w / 9) a).map parityPlace := by
  rw [memoryBits, if_neg h]
  rfl

theorem dataPlace_injective {d e : Nat} (h : dataPlace d = dataPlace e) : d = e := by
  simp only [dataPlace] at h
  omega

theorem mem_bytePlaces {p b : Nat} : p ∈ bytePlaces b ↔ ∃ i < 8, p = 72 * (b / 8) + 8 * (b % 8) + i := by
  simp [bytePlaces, eq_comm]

theorem bytePlaces_disjoint {b c p : Nat} (h : b ≠ c) (hp : p ∈ bytePlaces b) : p ∉ bytePlaces c := fun hc => by
  obtain ⟨i, hi, rfl⟩ := mem_bytePlaces.1 hp
  obtain ⟨j, hj, he⟩ := mem_bytePlaces.1 hc
  omega

theorem parityPlace_injective {b c : Nat} (h : parityPlace b = parityPlace c) : b = c := by
  simp only [parityPlace] at h
  omega

theorem parityPlace_data {b c : Nat} : parityPlace b ∉ bytePlaces c := fun hc => by
  obtain ⟨i, hi, he⟩ := mem_bytePlaces.1 hc
  simp only [parityPlace] at he
  omega

theorem mem_wide {bs : List Nat} {p : Nat} (h : p ∈ bs.flatMap bytePlaces ++ bs.map parityPlace) : ∃ b ∈ bs, p ∈ bytePlaces b ∨ p = parityPlace b := by
  rcases List.mem_append.1 h with h | h
  · obtain ⟨b, hb, hp⟩ := List.mem_flatMap.1 h
    exact ⟨b, hb, .inl hp⟩
  · obtain ⟨b, hb, rfl⟩ := List.mem_map.1 h
    exact ⟨b, hb, .inr rfl⟩

theorem byteBits_apart {b c p : Nat} (h : b ≠ c) (hp : p ∈ bytePlaces b ∨ p = parityPlace b) : ¬ (p ∈ bytePlaces c ∨ p = parityPlace c) := by
  rcases hp with hp | rfl
  · rintro (hc | rfl)
    · exact bytePlaces_disjoint h hp hc
    · exact parityPlace_data hp
  · rintro (hc | he)
    · exact parityPlace_data hc
    · exact h (parityPlace_injective he)

theorem bytePlaces_nodup (b : Nat) : (bytePlaces b).Nodup := List.Nodup.map (fun i j h => by simpa using h) List.nodup_range

theorem wide_nodup {bs : List Nat} (h : bs.Nodup) : (bs.flatMap bytePlaces ++ bs.map parityPlace).Nodup := by
  refine List.nodup_append.2 ⟨List.nodup_flatMap.2 ⟨fun b _ => bytePlaces_nodup b, ?_⟩, h.map fun b c => parityPlace_injective, fun p hp q hq => ?_⟩
  · exact h.imp fun hne p hp hq => bytePlaces_disjoint hne hp hq
  · obtain ⟨b, -, hp⟩ := List.mem_flatMap.1 hp
    obtain ⟨c, -, rfl⟩ := List.mem_map.1 hq
    rintro rfl
    exact parityPlace_data hp

theorem wide_length (bs : List Nat) : (bs.flatMap bytePlaces ++ bs.map parityPlace).length = 9 * bs.length := by
  induction bs with
  | nil => rfl
  | cons b bs ih =>
    have hb : (bytePlaces b).length = 8 := rfl
    simp only [List.flatMap_cons, List.map_cons, List.length_append, List.length_cons, List.length_map, hb] at ih ⊢
    omega

/-- The shapes of a block memory. -/
theorem shape_cases {w : Nat} (h : [1, 2, 4, 9, 18, 36, 72].contains w = true) : (w = 1 ∨ w = 2 ∨ w = 4) ∨ (w = 9 ∨ w = 18 ∨ w = 36 ∨ w = 72) := by
  simp only [List.contains_eq_mem, List.mem_cons, List.not_mem_nil, or_false, decide_eq_true_eq] at h
  omega

theorem memoryBits_length {w : Nat} (h : [1, 2, 4, 9, 18, 36, 72].contains w = true) (a : Nat) : (memoryBits w a).length = w := by
  rcases shape_cases h with h | h
  · rw [memoryBits_narrow (by omega), List.length_map, List.length_range]
  · rw [memoryBits_wide (by omega), wide_length, wordBytes, List.length_map, List.length_range]
    omega

theorem memoryBits_nodup {w : Nat} (h : [1, 2, 4, 9, 18, 36, 72].contains w = true) (a : Nat) : (memoryBits w a).Nodup := by
  rcases shape_cases h with h | h
  · rw [memoryBits_narrow (by omega)]
    refine List.Nodup.map_on (fun i hi j hj he => ?_) List.nodup_range
    have hi := List.mem_range.1 hi
    have hj := List.mem_range.1 hj
    have hbits := dataPlace_injective he
    generalize a * w = x at hbits
    omega
  · rw [memoryBits_wide (by omega)]
    refine wide_nodup (List.Nodup.map_on (fun i hi j hj he => ?_) List.nodup_range)
    have hi := List.mem_range.1 hi
    have hj := List.mem_range.1 hj
    generalize a * (w / 9) = x at he
    omega

/-- How many words a block memory holds in a shape. -/
def memoryDepth (w : Nat) : Nat := if w < 9 then 32768 / w else 36864 / w

theorem memoryBits_apart {w a b : Nat} (h : [1, 2, 4, 9, 18, 36, 72].contains w = true) (hne : b % memoryDepth w ≠ a % memoryDepth w) :
    ∀ p ∈ memoryBits w b, p ∉ memoryBits w a := fun p hp ha => by
  rcases shape_cases h with h | h
  · rw [memoryBits_narrow (by omega)] at hp ha
    obtain ⟨i, hi, rfl⟩ := List.mem_map.1 hp
    obtain ⟨j, hj, he⟩ := List.mem_map.1 ha
    have hi := List.mem_range.1 hi
    have hj := List.mem_range.1 hj
    have hbits := dataPlace_injective he
    rcases h with rfl | rfl | rfl
    · simp only [memoryDepth, Nat.reduceLT, if_true, Nat.reduceDiv] at hne
      omega
    · simp only [memoryDepth, Nat.reduceLT, if_true, Nat.reduceDiv] at hne
      omega
    · simp only [memoryDepth, Nat.reduceLT, if_true, Nat.reduceDiv] at hne
      omega
  · rw [memoryBits_wide (by omega)] at hp ha
    obtain ⟨x, hx, hpx⟩ := mem_wide hp
    obtain ⟨y, hy, hpy⟩ := mem_wide ha
    have hxy : x = y := by
      by_contra hxy
      exact byteBits_apart hxy hpx hpy
    obtain ⟨i, hi, rfl⟩ := List.mem_map.1 hx
    obtain ⟨j, hj, he⟩ := List.mem_map.1 hy
    have hi := List.mem_range.1 hi
    have hj := List.mem_range.1 hj
    rcases h with rfl | rfl | rfl | rfl
    · simp only [memoryDepth, Nat.reduceLT, if_false, Nat.reduceDiv] at hne hi hj hxy he
      omega
    · simp only [memoryDepth, Nat.reduceLT, if_false, Nat.reduceDiv] at hne hi hj hxy he
      omega
    · simp only [memoryDepth, Nat.reduceLT, if_false, Nat.reduceDiv] at hne hi hj hxy he
      omega
    · simp only [memoryDepth, Nat.reduceLT, if_false, Nat.reduceDiv] at hne hi hj hxy he
      omega

theorem memory_readsBack {w : Nat} (m v a b : Nat) (h : [1, 2, 4, 9, 18, 36, 72].contains w = true) :
    let depth := if w < 9 then 32768 / w else 36864 / w
    let m' := memoryWrite m v (memoryBits w a).zipIdx
    memoryRead m' (memoryBits w a) = v % 2 ^ w ∧
      (b % depth ≠ a % depth → memoryRead m' (memoryBits w b) = memoryRead m (memoryBits w b)) := by
  have hread := memoryRead_write m v (memoryBits_nodup h a) 0
  rw [memoryBits_length h, Nat.shiftRight_zero] at hread
  exact ⟨hread, fun hne => memoryRead_other m v (memoryBits_apart h hne)⟩

/-! ## Sums of products -/

theorem signed_unsigned_bmod (x : Int) : signed 48 (unsigned 48 x) = x.bmod (2 ^ 48) := by
  simp only [signed, unsigned, Int.bmod_def]
  omega

/-- A block that accumulates its products. -/
def Accumulates (m : Multiplier) : Prop := m.sumReg = true ∧ m.inputReg = false ∧ m.productReg = false ∧ m.cascade = false

theorem macEdge_acc {m : Multiplier} (h : Accumulates m) (r : MacState) (a b : Int) :
    (macEdge m r a b 0).acc = signed 48 (unsigned 48 (a * b + r.acc)) := by
  obtain ⟨hsum, hinput, hproduct, hcascade⟩ := h
  simp [macEdge, macSum, macProduct, hsum, hinput, hproduct, hcascade]

theorem foldl_macEdge_acc {m : Multiplier} (h : Accumulates m) (xs : List (Int × Int)) (r : MacState) (y : Int) (hr : r.acc = y.bmod (2 ^ 48)) :
    (xs.foldl (fun r e => macEdge m r e.1 e.2 0) r).acc = ((xs.map (fun e => e.1 * e.2)).foldl (· + ·) y).bmod (2 ^ 48) := by
  induction xs generalizing r y with
  | nil => exact hr
  | cons x xs ih =>
    refine ih _ _ ?_
    rw [macEdge_acc h, signed_unsigned_bmod, hr, Int.add_bmod_bmod, Int.add_comm]

theorem mac_accumulates (m : Multiplier) (xs : List (Int × Int)) (h : Accumulates m) : (xs.foldl (fun r e => macEdge m r e.1 e.2 0) .none_).acc =
    signed 48 (unsigned 48 ((xs.map (fun e => e.1 * e.2)).foldl (· + ·) 0)) := by
  rw [signed_unsigned_bmod]
  exact foldl_macEdge_acc h xs .none_ 0 rfl

end Sys2Proof.Proofs
end

section
/-! # Probes and the wires out of the fabric (R293 to R295) -/

set_option Elab.async false

namespace Sys2Proof.Proofs

open Sys2Proof Sys2Proof.Machine Sys2Proof.Laws

variable {s u v : State} {q : Req} {l : Loc} {t : Nat}

/-! ## Probes -/

theorem probeArm_put (h : Accepts s (onObject q K.probeArm) l) : putOutput (s.access (onObject q K.probeArm)) (putAt s q K.probeArm l) =
    xProbeArm (s.access (onObject q K.probeArm)) := by
  obtain ⟨hform, hattr, -, -⟩ := accepted_row h (by decide) place_probeArm
  have hput (p : Put) (hf : p.l.row.form = .single) (hk : p.key_ = K.probeArm) (u : State) : putOutput u p = xProbeArm (u.putValue p) := by
    simp only [putOutput, hf, hk, if_true]
  rw [hput (putAt s q K.probeArm l) hform (putAt_key ..), putValue_action _ hattr]

theorem answered_samples (t : State) (q : Req) (op : Op) (b : Bool) (m : List Byte) (y r : Nat) : (t.answered q op b m y r).samples = t.samples := by
  simp

theorem probeArm_writes (hsafe : s.safeAsk = 0) (h : Accepts s (onObject q K.probeArm) l) :
    Writes (.probeArm q) s (onObject q K.probeArm) l [(K.probeState, 1)] (fun u => u.samples = []) := by
  have hempty (u : State) : Leaves [K.probeState] (xProbeArm u) (u.set K.probeState 1) := leaves_of_dict rfl rfl rfl rfl rfl rfl
  have hleaves (u : State) : Leaves [K.probeState] (xProbeArm u) u := (hempty u).trans (leaves_set u 1 (List.mem_cons_self ..))
  have hstored (u : State) : (xProbeArm u).obj K.probeState = (u.set K.probeState 1).obj K.probeState := rfl
  have hobj (u : State) : (xProbeArm u).obj K.probeState = 1 := (hstored u).trans (obj_set_self ..)
  refine writes_of_put (exec_probeArm q s) hsafe h (written_output (by decide)) (probeArm_put h) (hleaves _) (holds_cons (hobj _) (holds_nil _)) ?_
  generalize s.access (onObject q K.probeArm) = a
  exact answered_samples ..

theorem probe_triggers (h : Awake s) (harmed : s.obj K.probeState = 1) :
    Sets (.probeTrigger t) s [(K.probeState, 2), (K.probeTriggerTime, (s.begin_ t).now), (K.probeTriggerIndex, s.samples.length)]
      (fun _ => True) := by
  have heffect : xProbeTrigger (s.begin_ t) =
      setAll (s.begin_ t) [(K.probeState, 2), (K.probeTriggerTime, (s.begin_ t).now), (K.probeTriggerIndex, s.samples.length)] :=
    if_neg (not_not.2 harmed)
  have hputs := setAll_puts (s.begin_ t) [(K.probeState, 2), (K.probeTriggerTime, (s.begin_ t).now), (K.probeTriggerIndex, s.samples.length)]
    (by simp only [List.map_cons, List.map_nil]; decide)
  rw [← heffect] at hputs
  exact sets_event (exec_probeTrigger t s) h hputs.leaves hputs.holds trivial

theorem probe_done (h : Awake s) (htriggered : s.obj K.probeState = 2) (htaken : s.shareTaken = true) :
    Sets (.probeDone t) s [(K.probeState, 3)] (fun _ => True) := by
  have heffect : xProbeDone (s.begin_ t) = (s.begin_ t).set K.probeState 3 := by
    have hstate : (s.begin_ t).obj K.probeState = 2 := htriggered
    have hshare : (s.begin_ t).shareTaken = true := htaken
    refine if_pos ?_
    rw [hstate, hshare]
    rfl
  have hputs := puts_set (s.begin_ t) K.probeState 3
  rw [← heffect] at hputs
  exact sets_event (exec_probeDone t s) h hputs.leaves hputs.holds trivial

/-! ## Wires -/

/-- The wires out of the fabric at some levels. -/
def withWires (s : State) (w : Wires) : State := { s with wires := w }

theorem wireStrobes_wires (s : State) (q i : Nat) : (s.wireStrobes q i).wires = s.wires := foldl_keeps State.wires _ _ _ fun _ _ => rfl

theorem blankWire_wires (s : State) (q i : Nat) : (s.blankWire q i).wires = s.wires := foldl_keeps State.wires _ _ _ fun _ _ => rfl

section
variable {q i : Nat}

theorem begin_sectorRuns (s : State) (t q : Nat) : (s.begin_ t).sectorRuns q = s.sectorRuns q := rfl

/-- A wire that asks for nothing else takes its level. -/
theorem wire_sets {w : FabricWire} {ws : Wires} {own : State → Prop} (h : Awake s) (hpresent : wirePresent s.variant w = true)
    (heffect : xFabricWire w (s.begin_ t) = withWires (s.begin_ t) ws) (hown : own (withWires (s.begin_ t) ws)) :
    Sets (.fabricWireChange t w) s [] own := by
  refine sets_eventOf (exec_fabricWireChange t w s) hpresent h ?_ (holds_nil _) (heffect ▸ hown)
  rw [heffect]
  exact leaves_of_dict rfl rfl rfl rfl rfl rfl

theorem plainWires_set (h : Awake s) (hq : q < quadCount s.variant) (hruns : s.sectorRuns q = true) :
    (i < 64 → Sets (.fabricWireChange t (.backstop q i)) s [] (fun u => u.wires.backstop.testBit (64 * q + i) = (s.begin_ t).borderLevel q i)) ∧
    (i < 32 → Sets (.fabricWireChange t (.pin q i)) s [] (fun u => u.wires.pin.testBit (32 * q + i) = (s.begin_ t).borderLevel q (96 + i)) ∧
      Sets (.fabricWireChange t (.pinEnable q i)) s []
        (fun u => u.wires.enable.testBit (32 * q + i) = (s.begin_ t).borderLevel q (128 + i))) := by
  have hguard {n : Nat} (hi : i < n) : ((s.begin_ t).sectorRuns q && decide (i < n)) = true := by rw [begin_sectorRuns, hruns, decide_eq_true hi]; rfl
  refine ⟨fun hi => ?_, fun hi => ⟨?_, ?_⟩⟩
  · exact wire_sets h (by simp [wirePresent, hq, hi])
      (ws := { s.wires with backstop := withBit s.wires.backstop (64 * q + i) ((s.begin_ t).borderLevel q i) })
      (if_pos (hguard hi)) (testBit_withBit_self ..)
  · exact wire_sets h (by simp [wirePresent, hq, hi])
      (ws := { s.wires with pin := withBit s.wires.pin (32 * q + i) ((s.begin_ t).borderLevel q (96 + i)) })
      (if_pos (hguard hi)) (testBit_withBit_self ..)
  · exact wire_sets h (by simp [wirePresent, hq, hi])
      (ws := { s.wires with enable := withBit s.wires.enable (32 * q + i) ((s.begin_ t).borderLevel q (128 + i)) })
      (if_pos (hguard hi)) (testBit_withBit_self ..)

theorem strobeWire_completes (hheld : s.held = false) (hq : q < quadCount s.variant) (hruns : s.sectorRuns q = true) (hi : i < 16) :
    Completes (.fabricWireChange t (.strobe q i)) s (fun u => u.wires.strobe.testBit (16 * q + i) = (s.begin_ t).borderLevel q (64 + i))
      (fun _ => True) := by
  have hbit : (xFabricWire (.strobe q i) (s.begin_ t)).wires.strobe = withBit s.wires.strobe (16 * q + i) ((s.begin_ t).borderLevel q (64 + i)) := by
    unfold xFabricWire
    dsimp only
    rw [if_pos (by rw [begin_sectorRuns, hruns, decide_eq_true hi]; rfl)]
    split
    · rw [wireStrobes_wires]
      rfl
    · rfl
  refine completes_eventOf (exec_fabricWireChange t (.strobe q i) s) (by simp [wirePresent, hq, hi]) hheld ?_
  rw [hbit]
  exact testBit_withBit_self ..

theorem blankWire_completes (hheld : s.held = false) (hq : q < quadCount s.variant) (hruns : s.sectorRuns q = true) (hi : i < 16) :
    Completes (.fabricWireChange t (.blank q i)) s (fun u => u.wires.blank.testBit (16 * q + i) = (s.begin_ t).borderLevel q (80 + i))
      (fun _ => True) := by
  have hbit : (xFabricWire (.blank q i) (s.begin_ t)).wires.blank = withBit s.wires.blank (16 * q + i) ((s.begin_ t).borderLevel q (80 + i)) := by
    unfold xFabricWire
    dsimp only
    rw [if_pos (by rw [begin_sectorRuns, hruns, decide_eq_true hi]; rfl)]
    split
    · rw [blankWire_wires]
      rfl
    · rfl
  refine completes_eventOf (exec_fabricWireChange t (.blank q i) s) (by simp [wirePresent, hq, hi]) hheld ?_
  rw [hbit]
  exact testBit_withBit_self ..

end

end Sys2Proof.Proofs
end

section
/-! # Port cells of the fabric (R290 to R292) -/

set_option Elab.async false

namespace Sys2Proof.Proofs

open Sys2Proof Sys2Proof.Machine Sys2Proof.Laws

variable {s u v : State} {q k t : Nat} {f : Placed} {x : CellUse}

/-! ## A strobe -/

/-- What port cells hold beside their signals stands, and every object but those that settle. -/
structure CellsKept (u s : State) : Prop where
  fabs : u.fabs = s.fabs
  coarse : u.coarse = s.coarse
  same : Same u s

theorem CellsKept.refl (s : State) : CellsKept s s := ⟨rfl, rfl, Same.refl s⟩

theorem CellsKept.trans (h : CellsKept u v) (g : CellsKept v s) : CellsKept u s :=
  ⟨h.fabs.trans g.fabs, h.coarse.trans g.coarse, h.same.trans g.same⟩

theorem cellsKept_showCell (s : State) (q k v : Nat) : CellsKept (s.showCell q k v) s := ⟨rfl, rfl, same_modNet ..⟩

theorem cellsKept_settleLogic (s : State) : CellsKept s.settleLogic s :=
  ⟨(netsRun_settleLogic s).fabs, (netsRun_settleLogic s).coarse, same_settleLogic s⟩

theorem cellsKept_pulse (s : State) (src : Nat → Nat → Bool) : CellsKept (s.pulse src id) s := by
  obtain ⟨v, ⟨hbefore, hsame⟩, hafter, hsame'⟩ := pulse_runs s src id
  exact ⟨hafter.fabs.trans hbefore.fabs, hafter.coarse.trans hbefore.coarse, hsame'.trans hsame⟩

theorem strobeCell_kept (s : State) (f : Placed) (x : CellUse) : CellsKept (s.strobeCell f x) (s.nextWord f x).2 := by
  unfold State.strobeCell
  extract_lets q w shown struck
  split
  · exact .refl _
  · have hshown : CellsKept shown w.2 := (cellsKept_settleLogic _).trans (cellsKept_showCell ..)
    clear_value shown
    have hstruck : CellsKept struck shown := (cellsKept_pulse ..).trans (cellsKept_showCell ..)
    clear_value struck
    exact (cellsKept_showCell ..).trans (hstruck.trans hshown)

theorem fab_of_fabs (h : u.fabs = s.fabs) (j : Nat) : u.fab j = s.fab j := congrArg (fun m => Sp.get (fun _ => Fab.none_) m j) h

theorem fab_modFab (s : State) (j : Nat) (g : Fab → Fab) : (s.modFab j g).fab j = g (s.fab j) := get_put_self ..

/-! ## Coarse values -/

/-- A unit's COARSE cells have given the I of a value. -/
def iGiven (c : Nat) (g : Fab) : Fab := { g with iq := c :: g.iq }

/-- A unit's COARSE cells have given the Q of a value. -/
def qGiven (c : Nat) (g : Fab) : Fab := { g with iq := g.iq.filter (fun e => e != c) }

def coarseLeft (s : State) (v : Coarse) : State := { s with coarse := s.coarse.erase v }

theorem coarseWord_first {unit c : Nat} {v : Coarse} (h : s.coarse.find? (fun e => e.ctx == c) = some v)
    (hi : (s.fab unit).iq.contains c = false) : (s.coarseWord unit c).2 = s.modFab unit (iGiven c) := by
  unfold State.coarseWord
  simp only [h, hi, Bool.false_eq_true, if_false]
  rfl

theorem coarseWord_second {unit c : Nat} {v : Coarse} (h : s.coarse.find? (fun e => e.ctx == c) = some v)
    (hi : (s.fab unit).iq.contains c = true) : (s.coarseWord unit c).2 = (coarseLeft s v).modFab unit (qGiven c) := by
  unfold State.coarseWord
  simp only [h, hi, if_true]
  rfl

theorem nextWord_coarse (hrole : x.role = 3) (hunit : s.cellUnit f < 256) : s.nextWord f x = s.coarseWord (s.cellUnit f) x.ctx := by
  simp [State.nextWord, hrole, hunit]

/-! ## The command -/

theorem begin_liveCells (s : State) (t : Nat) : (s.begin_ t).liveCells = s.liveCells := rfl

theorem xPortCell_eq (h : s.liveCells.find? (fun e => e.1.2.1 == q && e.2.cell == k) = some (f, x)) : xPortCell q k s =
    match s.cellMode q k with
    | 1 => s.strobeCell f x
    | 2 => s.shakeCell f x
    | _ => s := by
  rw [xPortCell, h] <;> rfl

theorem found_place (h : s.liveCells.find? (fun e => e.1.2.1 == q && e.2.cell == k) = some (f, x)) : f.2.1 = q ∧ x.cell = k := by
  simpa using List.find?_some h

theorem portCell_paced (h : Awake s) (hq : q < quadCount s.variant) (hk : k < 256)
    (hcell : s.liveCells.find? (fun e => e.1.2.1 == q && e.2.cell == k) = some (f, x)) (h1 : s.cellMode q k ≠ 1) (h2 : s.cellMode q k ≠ 2) :
    Sets (.portCellWord t q k) s [] (fun u => u.nets = s.nets ∧ u.coarse = s.coarse ∧ u.fabs = s.fabs) := by
  have hmode : (s.begin_ t).cellMode q k = s.cellMode q k := rfl
  refine sets_nothing (exec_portCellWord t q k s) (by simp [hq, hk]) h ?_ ⟨rfl, rfl, rfl⟩
  rw [xPortCell_eq (s := s.begin_ t) hcell, hmode]
  split
  · exact absurd ‹_› h1
  · exact absurd ‹_› h2
  · rfl

theorem xPortCell_strobe (h : s.liveCells.find? (fun e => e.1.2.1 == q && e.2.cell == k) = some (f, x)) (hmode : s.cellMode q k = 1) :
    CellsKept (xPortCell q k s) (s.nextWord f x).2 := by
  rw [xPortCell_eq h, hmode]
  exact strobeCell_kept ..

theorem portCell_coarse (h : Awake s) (hq : q < quadCount s.variant) (hk : k < 256)
    (hcell : s.liveCells.find? (fun e => e.1.2.1 == q && e.2.cell == k) = some (f, x)) {v : Coarse} (hmode : s.cellMode q k = 1) (hrole : x.role = 3)
    (hunit : s.cellUnit f < 256) (hv : s.coarse.find? (fun e => e.ctx == x.ctx) = some v) :
    ((s.fab (s.cellUnit f)).iq.contains x.ctx = false →
      Sets (.portCellWord t q k) s [] (fun u => u.coarse = s.coarse ∧ (u.fab (s.cellUnit f)).iq = x.ctx :: (s.fab (s.cellUnit f)).iq)) ∧
    ((s.fab (s.cellUnit f)).iq.contains x.ctx = true →
      Sets (.portCellWord t q k) s [] (fun u => u.coarse = s.coarse.erase v ∧ (u.fab (s.cellUnit f)).iq.contains x.ctx = false)) := by
  have hpresent : (decide (q < quadCount s.variant) && decide (k < 256)) = true := by simp [hq, hk]
  have hkept := xPortCell_strobe (s := s.begin_ t) hcell hmode
  rw [nextWord_coarse (s := s.begin_ t) hrole hunit] at hkept
  have hleaves {w : State} (hk : CellsKept (xPortCell q k (s.begin_ t)) w) (hw : Leaves [] w (s.begin_ t)) :
      Leaves [] (xPortCell q k (s.begin_ t)) (s.begin_ t) := (leaves_of_same hk.same).trans hw
  have hunit' : (s.begin_ t).cellUnit f = s.cellUnit f := rfl
  rw [hunit'] at hkept
  refine ⟨fun hi => ?_, fun hi => ?_⟩
  · rw [coarseWord_first (s := s.begin_ t) hv hi] at hkept
    refine sets_eventOf (exec_portCellWord t q k s) hpresent h (hleaves hkept (leaves_of_dict rfl rfl rfl rfl rfl rfl)) (holds_nil _)
      ⟨hkept.coarse, ?_⟩
    exact (congrArg Fab.iq (fab_of_fabs hkept.fabs _)).trans (congrArg Fab.iq (fab_modFab ..))
  · rw [coarseWord_second (s := s.begin_ t) hv hi] at hkept
    refine sets_eventOf (exec_portCellWord t q k s) hpresent h (hleaves hkept (leaves_of_dict rfl rfl rfl rfl rfl rfl)) (holds_nil _)
      ⟨hkept.coarse, ?_⟩
    have hiq := (congrArg Fab.iq (fab_of_fabs hkept.fabs (s.cellUnit f))).trans (congrArg Fab.iq (fab_modFab ..))
    rw [hiq]
    simp [qGiven]

/-! ## Words of a line -/

theorem takeLine_inHand {unit c : Nat} (n : Nat) (h : (s.lineHand unit c).isSome = true) : s.takeLine unit c n = s := by
  cases n with
  | zero => rfl
  | succ n => rw [State.takeLine, if_pos h]

/-- The places of a unit's reader after a word of a line. -/
theorem wordTaken_reads (s : State) (unit c line off length : Nat) : ((s.wordTaken unit c line off length).fab unit).reads =
    if off + 4 < length then (c, line, off + 4) :: (s.fab unit).reads.filter (fun e => e.1 != c)
    else (s.fab unit).reads.filter (fun e => e.1 != c) := by
  have hmove (t : State) (c : Nat) (kind : ReaderKind) (j n i : Nat) : (t.moveReader c kind j n).fab i = t.fab i := rfl
  unfold State.wordTaken
  split
  next h =>
    rw [if_neg (by omega), hmove, fab_modFab]
  next h =>
    rw [if_pos (by omega), fab_modFab]

theorem readWord_reads {unit line off : Nat} (h : s.lineHand unit x.ctx = some (x.ctx, line, off)) (hturn : off / 4 % x.run = x.place) :
    ((s.readWord unit x).2.fab unit).reads = if off + 4 < (s.recOf (s.ring x.ctx false) line).length
      then (x.ctx, line, off + 4) :: (s.fab unit).reads.filter (fun e => e.1 != x.ctx)
      else (s.fab unit).reads.filter (fun e => e.1 != x.ctx) := by
  have htake : (if x.place = 0 then s.takeLine unit x.ctx 1025 else s) = s := by
    split
    · exact takeLine_inHand _ (by rw [h]; rfl)
    · rfl
  have hread : (s.readWord unit x).2 = s.wordTaken unit x.ctx line off (s.recOf (s.ring x.ctx false) line).length := by
    unfold State.readWord
    simp only [htake, h, hturn, ne_eq, not_true_eq_false, if_false]
  rw [hread, wordTaken_reads]

theorem nextWord_read (hrole : x.role = 1) (hred : s.clientRed (42 + f.2.1) = false) : s.nextWord f x = s.readWord (s.cellUnit f) x := by
  simp [State.nextWord, hrole, hred]

theorem portCell_reads (hheld : s.held = false) (hq : q < quadCount s.variant) (hk : k < 256)
    (hcell : s.liveCells.find? (fun e => e.1.2.1 == q && e.2.cell == k) = some (f, x)) {line off : Nat} (hmode : s.cellMode q k = 1)
    (hrole : x.role = 1) (hred : s.clientRed (42 + q) = false) (hhand : s.lineHand (s.cellUnit f) x.ctx = some (x.ctx, line, off))
    (hturn : off / 4 % x.run = x.place) :
    Completes (.portCellWord t q k) s
      (fun u => if off + 4 < (s.recOf (s.ring x.ctx false) line).length then (u.fab (s.cellUnit f)).reads.head? = some (x.ctx, line, off + 4)
        else (u.fab (s.cellUnit f)).reads = (s.fab (s.cellUnit f)).reads.filter (fun e => e.1 != x.ctx)) (fun _ => True) := by
  have hpresent : (decide (q < quadCount s.variant) && decide (k < 256)) = true := by simp [hq, hk]
  have hkept := xPortCell_strobe (s := s.begin_ t) hcell hmode
  have hred' : (s.begin_ t).clientRed (42 + f.2.1) = false := (found_place hcell).1 ▸ hred
  rw [nextWord_read hrole hred'] at hkept
  have hreads := (congrArg Fab.reads (fab_of_fabs hkept.fabs (s.cellUnit f))).trans (readWord_reads (s := s.begin_ t) hhand hturn)
  refine completes_eventOf (exec_portCellWord t q k s) hpresent hheld ?_
  generalize xPortCell q k (s.begin_ t) = u at hreads
  split at hreads
  next hlt =>
    have hlt' : off + 4 < (s.recOf (s.ring x.ctx false) line).length := hlt
    rw [if_pos hlt', hreads]
    rfl
  next hge =>
    have hge' : ¬ off + 4 < (s.recOf (s.ring x.ctx false) line).length := hge
    rw [if_neg hge', hreads]
    rfl

end Sys2Proof.Proofs
end

section
/-! # WRITE cells that shake hands (R267, R291, R292) -/

set_option Elab.async false

namespace Sys2Proof.Proofs

open Sys2Proof Sys2Proof.Machine Sys2Proof.Laws

variable {s u v : State} {q k t : Nat} {f : Placed} {x : CellUse} {o : Offer} {line : Cur}

theorem showCell_cell (s : State) (q k v : Nat) : ((s.showCell q k v).net q).cell k = v := by
  have hnet : (s.showCell q k v).net q = { s.net q with cells := Sp.put (fun _ => 0) (s.net q).cells k v } := get_put_self ..
  rw [hnet]
  exact get_put_self ..

/-- Whether a WRITE cell takes the word that logic offers. -/
def takesWord (s : State) (q k : Nat) (o : Offer) : Bool := !((s.net q).cell k).testBit 88 && o.req

/-- A WRITE cell's signals after the next phase of its handshake. -/
def cellAfter (s : State) (q k : Nat) (o : Offer) : Nat :=
  if takesWord s q k o then 2 ^ 88 else if ((s.net q).cell k).testBit 88 && !o.req then 0 else (s.net q).cell k

theorem shakeCell_writes (hrole : x.role = 2) : s.shakeCell f x =
    if takesWord s f.2.1 x.cell (s.pinsAt f x.cell) then (s.acceptOffer f x (s.pinsAt f x.cell)).showCell f.2.1 x.cell (2 ^ 88)
    else if ((s.net f.2.1).cell x.cell).testBit 88 && !(s.pinsAt f x.cell).req then s.showCell f.2.1 x.cell 0 else s := by
  simp only [State.shakeCell, hrole, if_true]
  rfl

theorem shakeCell_cell (hrole : x.role = 2) :
    ((s.shakeCell f x).net f.2.1).cell x.cell = cellAfter s f.2.1 x.cell (s.pinsAt f x.cell) := by
  rw [shakeCell_writes hrole]
  unfold cellAfter
  split
  · exact showCell_cell ..
  · split
    · exact showCell_cell ..
    · rfl

/-- A word is counted in the line in progress. -/
def wordCounted (line : Cur) (y : Ctx) : Ctx := { y with cur := some { line with words := line.words + 1 } }

/-- Items enter what a context hands to its ring. -/
def itemsOut (items : List Item) (y : Ctx) : Ctx := { y with outQ := y.outQ ++ items }

theorem toOut_untiled (s : State) {c : Nat} (items : List Item) (h : s.obj (K.ctxTile c) = 0xFFFF) : s.toOut c items = s.modCtx c (itemsOut items) := by
  unfold State.toOut
  extract_lets n
  exact if_pos h

theorem offerWord_eq {j c word own : Nat} (hwrites : (s.fab j).writes.contains c = true) (hcur : (s.ctx c).cur = some line)
    (hempty : line.empty = false) (htile : s.obj (K.ctxTile c) = 0xFFFF) :
    s.offerWord j c word false own = (s.modCtx c (wordCounted line)).modCtx c (itemsOut [.word c (s.chained c) line.line 4 word]) := by
  have hcounted := toOut_untiled (s.modCtx c (wordCounted line)) [.word c (s.chained c) line.line 4 word] htile
  unfold State.offerWord
  simp only [hwrites, if_true, hcur, Bool.false_eq_true, if_false]
  exact (if_neg (Bool.eq_false_iff.1 hempty)).trans hcounted

theorem ctx_modCtx (s : State) (c : Nat) (g : Ctx → Ctx) : (s.modCtx c g).ctx c = g (s.ctx c) := ctx_setCtx ..

theorem acceptOffer_eq (hunit : s.cellUnit f < 256) : s.acceptOffer f x o = s.offerWord f.1 x.ctx o.word o.eol o.own := if_pos hunit

/-- A word that a WRITE cell takes amid a line goes to the context's ring. -/
theorem takenWord_ctx (hunit : s.cellUnit f < 256) (hwrites : (s.fab f.1).writes.contains x.ctx = true) (hcur : (s.ctx x.ctx).cur = some line)
    (hempty : line.empty = false) (htile : s.obj (K.ctxTile x.ctx) = 0xFFFF) (heol : o.eol = false) :
    ((s.acceptOffer f x o).ctx x.ctx).outQ = (s.ctx x.ctx).outQ ++ [.word x.ctx (s.chained x.ctx) line.line 4 o.word] ∧
      ((s.acceptOffer f x o).ctx x.ctx).cur = some { line with words := line.words + 1 } := by
  rw [acceptOffer_eq hunit, heol, offerWord_eq hwrites hcur hempty htile, ctx_modCtx, ctx_modCtx]
  exact ⟨rfl, rfl⟩

/-- What stands beside the contexts and the nets. -/
structure BesideCtxs (u s : State) : Prop where
  obj : ∀ k, u.obj k = s.obj k
  variant : u.variant = s.variant
  safeAsk : u.safeAsk = s.safeAsk

theorem BesideCtxs.trans (h : BesideCtxs u v) (g : BesideCtxs v s) : BesideCtxs u s :=
  ⟨fun k => (h.obj k).trans (g.obj k), h.variant.trans g.variant, h.safeAsk.trans g.safeAsk⟩

theorem besideCtxs_modCtx (s : State) (c : Nat) (g : Ctx → Ctx) : BesideCtxs (s.modCtx c g) s := ⟨fun _ => rfl, rfl, rfl⟩

theorem besideCtxs_showCell (s : State) (q k v : Nat) : BesideCtxs (s.showCell q k v) s := ⟨fun _ => rfl, rfl, rfl⟩

theorem takenWord_beside (hunit : s.cellUnit f < 256) (hwrites : (s.fab f.1).writes.contains x.ctx = true) (hcur : (s.ctx x.ctx).cur = some line)
    (hempty : line.empty = false) (htile : s.obj (K.ctxTile x.ctx) = 0xFFFF) (heol : o.eol = false) : BesideCtxs (s.acceptOffer f x o) s := by
  rw [acceptOffer_eq hunit, heol, offerWord_eq hwrites hcur hempty htile]
  exact (besideCtxs_modCtx ..).trans (besideCtxs_modCtx ..)

theorem xPortCell_shake (h : s.liveCells.find? (fun e => e.1.2.1 == q && e.2.cell == k) = some (f, x)) (hmode : s.cellMode q k = 2) :
    xPortCell q k s = s.shakeCell f x := by
  rw [xPortCell_eq h, hmode]
  rfl

/-- The signals that a handshake without a word leaves are those of a net alone. -/
theorem shakeCell_quiet (hrole : x.role = 2) (htakes : takesWord s f.2.1 x.cell (s.pinsAt f x.cell) = false) : Same (s.shakeCell f x) s := by
  rw [shakeCell_writes hrole, if_neg (Bool.eq_false_iff.1 htakes)]
  exact same_ite (same_modNet ..) (Same.refl s)

theorem ctx_showCell (s : State) (q k v c : Nat) : (s.showCell q k v).ctx c = s.ctx c := rfl

/-- What a WRITE cell does in a handshake, before what follows every command. -/
theorem shakeCell_takes (hrole : x.role = 2) (hunit : s.cellUnit f < 256) (hwrites : (s.fab f.1).writes.contains x.ctx = true)
    (hcur : (s.ctx x.ctx).cur = some line) (hempty : line.empty = false) (htile : s.obj (K.ctxTile x.ctx) = 0xFFFF)
    (htakes : takesWord s f.2.1 x.cell (s.pinsAt f x.cell) = true) (heol : (s.pinsAt f x.cell).eol = false) :
    BesideCtxs (s.shakeCell f x) s ∧
      ((s.shakeCell f x).ctx x.ctx).outQ = (s.ctx x.ctx).outQ ++ [.word x.ctx (s.chained x.ctx) line.line 4 (s.pinsAt f x.cell).word] ∧
      ((s.shakeCell f x).ctx x.ctx).cur = some { line with words := line.words + 1 } := by
  have hbeside := takenWord_beside hunit hwrites hcur hempty htile heol
  have hctx := takenWord_ctx hunit hwrites hcur hempty htile heol
  rw [shakeCell_writes hrole, if_pos htakes, ctx_showCell]
  exact ⟨(besideCtxs_showCell ..).trans hbeside, hctx⟩

theorem portCell_shakes (h : Awake s) (hq : q < quadCount s.variant) (hk : k < 256)
    (hcell : s.liveCells.find? (fun e => e.1.2.1 == q && e.2.cell == k) = some (f, x)) (hmode : s.cellMode q k = 2) (hrole : x.role = 2)
    (hunit : s.cellUnit f < 256) (hwrites : (s.fab f.1).writes.contains x.ctx = true) (hcur : (s.ctx x.ctx).cur = some line)
    (hempty : line.empty = false) (htile : s.obj (K.ctxTile x.ctx) = 0xFFFF) :
    Completes (.portCellWord t q k) s
      (fun u => (u.net q).cell k = cellAfter s q k (s.pinsAt f k) ∧
        (takesWord s q k (s.pinsAt f k) = true → (s.pinsAt f k).eol = false →
          (u.ctx x.ctx).outQ = (s.ctx x.ctx).outQ ++ [.word x.ctx (s.chained x.ctx) line.line 4 (s.pinsAt f k).word] ∧
          (u.ctx x.ctx).cur = some { line with words := line.words + 1 }))
      (fun v => (takesWord s q k (s.pinsAt f k) = false → Frame s v []) ∧
        ((s.pinsAt f k).eol = false → ∀ k, settledKey k = false → v.obj k = s.obj k)) := by
  obtain ⟨rfl, rfl⟩ := found_place hcell
  have heffect : xPortCell f.2.1 x.cell (s.begin_ t) = (s.begin_ t).shakeCell f x := xPortCell_shake (s := s.begin_ t) hcell hmode
  have hexec := eventOf_next s _ t (xPortCell f.2.1 x.cell) (by simp [hq, hk] : (decide (f.2.1 < quadCount s.variant) && decide (x.cell < 256)) = true) h.1
  rw [heffect] at hexec
  have hshown : (((s.begin_ t).shakeCell f x).net f.2.1).cell x.cell = cellAfter s f.2.1 x.cell (s.pinsAt f x.cell) :=
    shakeCell_cell (s := s.begin_ t) hrole
  have hquiet (ht : takesWord s f.2.1 x.cell (s.pinsAt f x.cell) = false) : Frame s (s.finish ((s.begin_ t).shakeCell f x)) [] :=
    frame_of_leaves h.2 ((leaves_of_same (shakeCell_quiet (s := s.begin_ t) hrole ht)).trans (leaves_begin s t))
  have htaken (ht : takesWord s f.2.1 x.cell (s.pinsAt f x.cell) = true) (heol : (s.pinsAt f x.cell).eol = false) :=
    shakeCell_takes (s := s.begin_ t) hrole hunit hwrites hcur hempty htile ht heol
  refine ⟨_, (exec_portCellWord t f.2.1 x.cell s).trans hexec, ⟨hshown, fun ht heol => (htaken ht heol).2⟩, hquiet, fun heol k hk => ?_⟩
  cases ht : takesWord s f.2.1 x.cell (s.pinsAt f x.cell) with
  | false => exact (hquiet ht).1 k hk List.not_mem_nil
  | true =>
    obtain ⟨hbeside, -⟩ := htaken ht heol
    exact ((same_finish s _ hbeside.variant (hbeside.safeAsk.trans h.2)).obj k hk).trans (hbeside.obj k)

end Sys2Proof.Proofs
end

section
/-! # What a line's boundary leaves of the fabric (R225, R236, R292)

The nets, the samples of the probes and the count of dropped words stand while lines of a context end and begin. -/

set_option Elab.async false

namespace Sys2Proof.Proofs

open Sys2Proof Sys2Proof.Machine Sys2Proof.Laws

variable {s u v : State} {c n : Nat}

/-- The nets, the samples and the counts of dropped words stand. -/
structure KeepsNets (u s : State) : Prop where
  nets : u.nets = s.nets
  samples : u.samples = s.samples
  dropped : ∀ q < 4, u.obj (K.fabricSectorDropped q) = s.obj (K.fabricSectorDropped q)

namespace KeepsNets

theorem refl (s : State) : KeepsNets s s := ⟨rfl, rfl, fun _ _ => rfl⟩

theorem trans (h : KeepsNets u v) (g : KeepsNets v s) : KeepsNets u s :=
  ⟨h.nets.trans g.nets, h.samples.trans g.samples, fun q hq => (h.dropped q hq).trans (g.dropped q hq)⟩

theorem ite {p : Prop} [Decidable p] (h : KeepsNets u s) (g : KeepsNets v s) : KeepsNets (if p then u else v) s := by
  split
  · exact h
  · exact g

theorem foldl {α : Type} (f : State → α → State) (h : ∀ t x, KeepsNets (f t x) t) (xs : List α) (s : State) : KeepsNets (xs.foldl f s) s := by
  induction xs generalizing s with
  | nil => exact refl s
  | cons x xs ih => exact (ih (f s x)).trans (h s x)

theorem of_dict (hv : u.variant = s.variant) (hd : u.dict = s.dict) (hn : u.nets = s.nets) (hs : u.samples = s.samples) : KeepsNets u s :=
  ⟨hn, hs, fun _ _ => by simp only [State.obj, hv, hd]⟩

/-- An object with another subindex. -/
theorem set (s : State) {i b : Nat} (x : Nat) (hb : b < 256) (h : 6 ≠ b) : KeepsNets (s.set (key i b) x) s :=
  ⟨set_nets .., set_samples .., fun _ _ => obj_set_ne _ _ (key_ne (by decide) hb (.inr h))⟩

theorem count (s : State) {i b : Nat} (w x : Nat) (hb : b < 256) (h : 6 ≠ b) : KeepsNets (s.count (key i b) w x) s := set s _ hb h

theorem raise (s : State) (n d : Nat) : KeepsNets (s.raise n d) s :=
  ⟨raise_nets .., raise_samples .., fun q hq => obj_raise_of_lt _ _ _ (by
    simp only [K.fabricSectorDropped, key]
    omega)⟩

theorem setCtx (s : State) (c : Nat) (x : Ctx) : KeepsNets (s.setCtx c x) s := of_dict rfl rfl rfl rfl

theorem modCtx (s : State) (c : Nat) (f : Ctx → Ctx) : KeepsNets (s.modCtx c f) s := of_dict rfl rfl rfl rfl

theorem modTile (s : State) (n : Nat) (f : Tile → Tile) : KeepsNets (s.modTile n f) s := of_dict rfl rfl rfl rfl

theorem modChain (s : State) (i : Nat) (f : Chain → Chain) : KeepsNets (s.modChain i f) s := of_dict rfl rfl rfl rfl

theorem settle (s : State) (k : Nat) : KeepsNets (s.settle k) s := of_dict rfl rfl rfl rfl

end KeepsNets

/-! ## A line ends -/

theorem keepsNets_toOut (s : State) (c : Nat) (items : List Item) : KeepsNets (s.toOut c items) s := by
  unfold State.toOut
  extract_lets n
  exact .ite (.modCtx ..) (.modTile ..)

theorem keepsNets_sceneLine (s : State) (c : Nat) : KeepsNets (s.sceneLine c) s := by
  unfold State.sceneLine
  extract_lets l
  exact .ite (.modTile ..) (.refl s)

theorem keepsNets_rampLine (s : State) (n c : Nat) : KeepsNets (s.rampLine n c) s := by
  unfold State.rampLine
  extract_lets x a u
  have hu : KeepsNets u s := .ite (.set s _ (by decide) (by decide)) (.refl s)
  clear_value u
  exact (KeepsNets.modTile u ..).trans hu

theorem keepsNets_stampRec (s : State) (c t : Nat) (rec : LineRec) : KeepsNets (s.stampRec c t rec).2 s := by
  have hstale (p : Nat) : KeepsNets (s.noPlace p).2 s := by
    unfold State.noPlace
    dsimp only
    exact .ite (.count s _ _ (by decide) (by decide)) (.refl s)
  unfold State.stampRec State.stamped
  split
  · exact .refl s
  · exact hstale _
  · exact .refl s

theorem keepsNets_lineDelivered (s : State) (n c : Nat) (l : Cur) (x : Ctx) (rec : LineRec × Option (Nat × Nat)) :
    KeepsNets (lineDelivered s n c l x rec) s := by
  unfold lineDelivered
  split
  · exact keepsNets_toOut ..
  split
  · exact (keepsNets_toOut ..).trans (keepsNets_sceneLine ..)
  extract_lets kept marked
  have hkept : KeepsNets kept s := .ite (.refl s) (.modCtx ..)
  clear_value kept
  have hmarked : KeepsNets marked s := (KeepsNets.modTile kept ..).trans hkept
  clear_value marked
  exact .ite hmarked ((KeepsNets.foldl _ (fun t m => keepsNets_rampLine t m c) _ marked).trans hmarked)

theorem keepsNets_closeLineOf (s : State) (c : Nat) : KeepsNets (s.closeLineOf c) s := by
  unfold State.closeLineOf
  extract_lets x
  split
  · exact .refl s
  next l _ =>
  extract_lets u n flags plain pos v rec_ w words y z
  have hu : KeepsNets u s := .setCtx ..
  clear_value x u
  split
  · exact hu
  have hv : KeepsNets v u := by
    unfold v pos
    split
    · exact .refl u
    · exact keepsNets_stampRec ..
  exact (keepsNets_lineDelivered v n c l x rec_).trans (hv.trans hu)

/-! ## Slots -/

theorem keepsNets_slot (s : State) (f : Nat → Nat → Nat) {r j : Nat} (hf : ∀ n k, f n k = key (0x4801 + 2 * n) (r + 8 * k)) (hr : 6 < r ∧ r < 0x18)
    (i : Nat) (x : Nat) (hj : i % 16 = j) : KeepsNets (s.set (slotKey f i) x) s := by
  rw [slotKey, hf]
  exact .set s x (by omega) (by omega)

theorem keepsNets_slotState (s : State) (i x : Nat) : KeepsNets (s.set (slotKey K.feSlotState i) x) s :=
  keepsNets_slot s _ (r := 0x11) (fun _ _ => rfl) (by decide) i x rfl

theorem keepsNets_showPriming (s : State) (n : Nat) : KeepsNets (s.showPriming n) s := .set s _ (by decide) (by decide)

theorem keepsNets_primeNext (s : State) (n : Nat) : KeepsNets (s.primeNext n) s := by
  have hprimes (t : State) : KeepsNets (t.count (K.fePrimes n) 32 1) t := .count t _ _ (by decide) (by decide)
  unfold State.primeNext
  split
  · exact .refl s
  · split
    next j hj =>
      have hlt : j < 16 := List.mem_range.1 (List.mem_of_find?_eq_some hj)
      have hstate : KeepsNets (s.set (K.feSlotState n j) 3) s := .set s 3 (by omega) (by omega)
      exact (keepsNets_showPriming ..).trans ((hprimes _).trans hstate)
    · exact keepsNets_showPriming s n

theorem keepsNets_holdSlot (s : State) (i : Nat) : KeepsNets (s.holdSlot i) s :=
  (keepsNets_primeNext ..).trans ((KeepsNets.modChain ..).trans (keepsNets_slotState s i 5))

theorem keepsNets_slotHeldOf (s : State) (c : Nat) : KeepsNets (slotHeldOf s c) s := by
  unfold slotHeldOf
  split
  · exact keepsNets_holdSlot ..
  · exact .refl s

theorem keepsNets_restartAt (s : State) (c line : Nat) : KeepsNets (s.restartAt c line) s := by
  unfold State.restartAt
  split
  next i _ =>
    have hrelease : KeepsNets (s.releaseSlot i) s := .ite (keepsNets_slotState s i 1) (.refl s)
    exact (KeepsNets.modChain ..).trans hrelease
  · exact .refl s

theorem keepsNets_captureStaged (s : State) (i k : Nat) : KeepsNets (s.captureStaged i k) s := by
  refine .foldl _ (fun t key => ?_) _ s
  extract_lets last
  exact .ite (.modChain ..) (.refl t)

theorem keepsNets_settleTo (s : State) (k x : Nat) : KeepsNets (s.settleTo k x) s := .ite (.settle ..) (.of_dict rfl rfl rfl rfl)

theorem keepsNets_loadChange (s : State) (i k : Nat) : KeepsNets (s.loadChange i k) s := by
  have hloads : KeepsNets (s.applyLoads i k) s := by
    unfold State.applyLoads
    extract_lets loaded left
    have hloaded : KeepsNets loaded s := .foldl _ (fun t l => keepsNets_settleTo t _ _) _ s
    clear_value loaded
    have hleft : KeepsNets left s := (KeepsNets.modChain loaded ..).trans hloaded
    clear_value left
    exact (keepsNets_slot left K.feSlotDelay (r := 0x17) (fun _ _ => rfl) (by decide) i _ rfl).trans hleft
  exact (keepsNets_primeNext ..).trans ((keepsNets_slotState ..).trans ((KeepsNets.modChain ..).trans hloads))

theorem keepsNets_slotBoundary (s : State) (i k : Nat) : KeepsNets (s.slotBoundary i k) s := by
  have hcapture (j : Nat) : KeepsNets (s.captureStaged i j) s := keepsNets_captureStaged s i j
  unfold State.slotBoundary
  extract_lets st x changed
  have hchanged : KeepsNets changed s := (KeepsNets.modChain ..).trans ((keepsNets_slotState ..).trans (hcapture k))
  clear_value changed
  exact .ite (.refl s) (.ite (hcapture k) (.ite (hcapture 0) (.ite (hcapture k)
    (.ite ((keepsNets_loadChange ..).trans hchanged) hchanged))))

theorem keepsNets_stepSlot (s : State) (i k off words : Nat) : KeepsNets (s.stepSlot i k off words) s := .ite (.refl s) (.modChain ..)

theorem keepsNets_stepChange (s : State) (d : Nat) (a : FrontEnd) (own : Option Nat) : KeepsNets (s.stepChange d a own) s := by
  unfold State.stepChange
  split
  · exact .refl s
  · extract_lets n half ts w
    split
    · exact .refl s
    · split
      · exact keepsNets_stepSlot ..
      · exact keepsNets_stepSlot ..
      · exact keepsNets_stepSlot ..

/-! ## Tiles -/

theorem keepsNets_reportBiquad (s : State) (n : Nat) : KeepsNets (s.reportBiquad n) s := by
  unfold State.reportBiquad
  extract_lets f r u
  have hdrawn : KeepsNets r.2 s := .of_dict rfl rfl rfl rfl
  clear_value r
  have hreal : KeepsNets u s := (KeepsNets.set r.2 _ (by decide) (by decide)).trans hdrawn
  clear_value u
  exact (KeepsNets.set u _ (by decide) (by decide)).trans hreal

theorem keepsNets_scanFollows (s : State) (n : Nat) (ks : List Nat) : KeepsNets (s.scanFollows n ks) s := by
  have htable (t : State) (x : Nat) : KeepsNets (t.set (K.tileScanTable n) x) t := .set t x (by decide) (by decide)
  have hgain (t : State) (x : Nat) : KeepsNets (t.set (K.tileScanGain n) x) t := .set t x (by decide) (by decide)
  unfold State.scanFollows
  extract_lets m g tabled gained
  have hgained : KeepsNets gained s := .ite (.ite (htable ..) ((hgain ..).trans (htable ..))) (.refl s)
  clear_value gained
  exact .ite (.refl s) (.ite ((htable ..).trans hgained) hgained)

theorem keepsNets_settleTile (s : State) (n half : Nat) : KeepsNets (s.settleTile n half) s := by
  unfold State.settleTile
  extract_lets ks
  have hsettled : KeepsNets (ks.foldl (fun st k => st.settle k) s) s := .foldl _ (fun t k => .settle t k) _ s
  exact .ite (.refl s) ((keepsNets_reportBiquad ..).trans ((keepsNets_scanFollows ..).trans hsettled))

theorem keepsNets_settleAt (s : State) (c line : Nat) : KeepsNets (s.settleAt c line) s := by
  unfold State.settleAt
  extract_lets n before stepped settled
  split
  · exact .refl s
  have hsettled : KeepsNets settled s := by
    refine .ite (.refl s) (KeepsNets.trans (.foldl _ (fun t d => keepsNets_stepChange t _ _ _) _ stepped) ?_)
    exact .foldl _ (fun t m => keepsNets_settleTile t m _) _ s
  clear_value settled
  split
  · exact (keepsNets_slotBoundary ..).trans hsettled
  · exact hsettled

end Sys2Proof.Proofs
end

section
/-! # A boundary of a context, and the words that logic writes, leave the nets (R225, R236, R290, R292) -/

set_option Elab.async false

namespace Sys2Proof.Proofs

open Sys2Proof Sys2Proof.Machine Sys2Proof.Laws

variable {s u v : State} {c n : Nat}

/-! ## A context changes its state -/

theorem keepsNets_setCtxState (s : State) (c x : Nat) : KeepsNets (s.setCtxState c x) s := .set s x (by decide) (by decide)

theorem keepsNets_setCause (s : State) (c x : Nat) : KeepsNets (s.set (K.ctxCause c) x) s := .set s x (by decide) (by decide)

theorem keepsNets_setDegradedLine (s : State) (c x : Nat) : KeepsNets (s.set (K.ctxDegradedLine c) x) s := .set s x (by decide) (by decide)

theorem keepsNets_countLost (s : State) (c x : Nat) : KeepsNets (s.count (K.ctxLost c) 64 x) s := .count s 64 x (by decide) (by decide)

theorem keepsNets_countUnwritten (s : State) (c : Nat) : KeepsNets (s.count (K.ctxRingUnwritten c) 64 1) s :=
  .count s 64 1 (by decide) (by decide)

theorem keepsNets_failCtx (s : State) (c cause : Nat) : KeepsNets (s.failCtx c cause) s := by
  have hcause : KeepsNets ((s.setCtxState c cFailed).set (K.ctxCause c) cause) s := (keepsNets_setCause ..).trans (keepsNets_setCtxState ..)
  exact (KeepsNets.raise ..).trans ((KeepsNets.modCtx ..).trans ((keepsNets_slotHeldOf _ c).trans hcause))

theorem keepsNets_primeCtx (s : State) (c : Nat) : KeepsNets (s.primeCtx c) s := by
  unfold State.primeCtx
  extract_lets x primed counted
  have hprimed : KeepsNets primed s := (KeepsNets.setCtx ..).trans (keepsNets_setCtxState ..)
  have hcounted : KeepsNets counted s := (keepsNets_countLost ..).trans (keepsNets_setCtxState ..)
  clear_value primed counted
  exact .ite (.ite hprimed ((keepsNets_setCause ..).trans hprimed)) (.ite ((KeepsNets.setCtx counted c _).trans hcounted) (.refl s))

theorem keepsNets_frozenLine (s : State) (c line stamp start : Nat) : KeepsNets (s.frozenLine c line stamp start) s := by
  unfold State.frozenLine
  extract_lets counted shown
  have hcounted : KeepsNets counted s := keepsNets_countUnwritten s c
  clear_value counted
  have hshown : KeepsNets shown counted := .ite (keepsNets_setCtxState ..) (.refl counted)
  clear_value shown
  exact (KeepsNets.modCtx ..).trans (hshown.trans hcounted)

theorem keepsNets_emptyLine (s : State) (c line stamp start gap : Nat) : KeepsNets (s.emptyLine c line stamp start gap) s :=
  (keepsNets_toOut ..).trans (keepsNets_stampRec ..)

theorem keepsNets_recoverCtx (s : State) (c line : Nat) : KeepsNets (s.recoverCtx c line) s := by
  have hcounted : KeepsNets ((s.setCtxState c cFlowing).count (K.ctxLost c) 64 (s.ctx c).empties) s :=
    (keepsNets_countLost ..).trans (keepsNets_setCtxState ..)
  exact (keepsNets_restartAt ..).trans ((KeepsNets.setCtx ..).trans hcounted)

theorem keepsNets_degrade (s : State) (c line : Nat) (lossy : Option Cur) : KeepsNets (s.degrade c line lossy) s := by
  unfold State.degrade
  extract_lets x shown kept first emptied ended
  have hshown : KeepsNets shown s := (keepsNets_setCause ..).trans (keepsNets_setCtxState ..)
  clear_value shown
  have hkept : KeepsNets kept shown := keepsNets_slotHeldOf shown c
  clear_value kept
  have hemptied : KeepsNets emptied kept := (keepsNets_setDegradedLine ..).trans (KeepsNets.setCtx ..)
  clear_value emptied
  have hended : KeepsNets ended emptied := by
    unfold ended
    split
    · exact keepsNets_emptyLine ..
    · exact .refl emptied
  clear_value ended
  exact (KeepsNets.raise ..).trans (hended.trans (hemptied.trans (hkept.trans hshown)))

theorem keepsNets_openLine (s : State) (c line stamp start : Nat) : KeepsNets (s.openLine c line stamp start) s := by
  unfold State.openLine
  extract_lets lost flowing shown kept opened x cur n
  have hflowing : KeepsNets flowing s := keepsNets_setCtxState ..
  have hshown : KeepsNets shown s :=
    (keepsNets_setDegradedLine ..).trans ((keepsNets_setCause ..).trans (keepsNets_setCtxState ..))
  clear_value flowing shown
  have hkept : KeepsNets kept s := (keepsNets_slotHeldOf shown c).trans hshown
  clear_value kept
  have hopened : KeepsNets opened s :=
    .ite (.ite (.ite hflowing ((keepsNets_restartAt ..).trans hflowing)) ((KeepsNets.raise ..).trans ((KeepsNets.modCtx ..).trans hkept))) (.refl s)
  clear_value opened
  exact .ite (((keepsNets_emptyLine ..).trans (KeepsNets.setCtx ..)).trans hopened)
    (.ite ((KeepsNets.setCtx opened c _).trans hopened) hopened)

/-! ## Calibrations begin and end -/

theorem keepsNets_staleFrom (s : State) (c : Nat) : KeepsNets (s.staleFrom c) s := (keepsNets_slotHeldOf _ c).trans (KeepsNets.modCtx ..)

theorem keepsNets_staleEnds (s : State) (c line : Nat) : KeepsNets (s.staleEnds c line) s := (keepsNets_restartAt ..).trans (KeepsNets.modCtx ..)

theorem keepsNets_setSel (s : State) (n half bus : Nat) : KeepsNets (s.setSel n half bus) s := by
  unfold State.setSel
  split
  · exact .set s bus (by decide) (by decide)
  · exact .set s bus (by decide) (by decide)

theorem keepsNets_holdMonitors (s : State) (n : Nat) (b : Bool) : KeepsNets (s.holdMonitors n b) s :=
  .foldl _ (fun t _ => .set t _ (by decide) (by decide)) _ s

theorem keepsNets_beginRuns (s : State) (n : Nat) : KeepsNets (s.beginRuns n) s := by
  have hresult (t : State) (k x : Nat) : KeepsNets (t.set (calResultKey k n) x) t := by
    unfold calResultKey
    split
    · exact .set t x (by decide) (by decide)
    · exact .set t x (by decide) (by decide)
  have hstatus (t : State) (x : Nat) : KeepsNets (t.set (K.tileStatus n) x) t := .set t x (by decide) (by decide)
  have hstopped (t : State) : KeepsNets ((t.set (K.tileIlvState n) 0).set (K.tileIlvFlags n) 0) t :=
    (KeepsNets.set _ 0 (by decide) (by decide)).trans (.set t 0 (by decide) (by decide))
  unfold State.beginRuns
  extract_lets k shown flagged begun first both
  have hbegun : KeepsNets begun s := (KeepsNets.modTile ..).trans ((hstatus ..).trans (hresult ..))
  clear_value begun
  have hfirst : KeepsNets first begun := .ite (.refl begun) (keepsNets_setSel ..)
  clear_value first
  have hboth : KeepsNets both first := (keepsNets_holdMonitors ..).trans (.ite (keepsNets_setSel ..) (.refl first))
  clear_value both
  exact .ite hbegun ((hstopped both).trans (hboth.trans (hfirst.trans hbegun)))

theorem keepsNets_showCal (s : State) : KeepsNets s.showCal s := by
  unfold State.showCal
  extract_lets ns queued running
  have hqueued : KeepsNets queued s := .set s _ (by decide) (by decide)
  clear_value queued
  have hrunning : KeepsNets running queued := .set queued _ (by decide) (by decide)
  clear_value running
  exact .ite (hrunning.trans hqueued) ((KeepsNets.set running _ (by decide) (by decide)).trans (hrunning.trans hqueued))

theorem keepsNets_tryBegin (s : State) (n : Nat) : KeepsNets (s.tryBegin n) s := by
  unfold State.tryBegin
  extract_lets l cs begun
  have hbegun : KeepsNets begun s := .foldl _ (fun t m => keepsNets_beginRuns t m) _ s
  clear_value begun
  exact .ite ((keepsNets_showCal _).trans ((KeepsNets.foldl _ (fun t c => keepsNets_slotHeldOf t c) cs begun).trans hbegun)) (.refl s)

theorem keepsNets_staleAt (s : State) (c line : Nat) : KeepsNets (s.staleAt c line) s := by
  unfold State.staleAt
  extract_lets n k
  exact .ite (.refl s) (.ite (.ite (keepsNets_staleEnds ..) (.refl s))
    (.ite (.refl s) ((keepsNets_tryBegin ..).trans (keepsNets_staleFrom ..))))

/-! ## The boundary -/

theorem keepsNets_boundary1 (s : State) (c line stamp start : Nat) : KeepsNets (s.boundary1 c line stamp start) s := by
  unfold State.boundary1
  extract_lets before closed lossy degraded recovered settled
  have hclosed : KeepsNets closed s := keepsNets_closeLineOf s c
  clear_value closed
  have hdegraded : KeepsNets degraded closed := .ite (keepsNets_degrade ..) (.refl closed)
  clear_value degraded
  have hrecovered : KeepsNets recovered degraded := .ite (keepsNets_recoverCtx ..) (.refl degraded)
  clear_value recovered
  have hsettled : KeepsNets settled recovered := (keepsNets_staleAt ..).trans (keepsNets_settleAt ..)
  clear_value settled
  have hopened := (keepsNets_openLine settled c line stamp start).trans (hsettled.trans (hrecovered.trans hdegraded))
  exact KeepsNets.trans (.ite (.ite (keepsNets_primeCtx ..) (.refl closed))
    (.ite (keepsNets_failCtx ..) (.ite (keepsNets_frozenLine ..) hopened))) hclosed

theorem keepsNets_boundaryHeld (s : State) (line stamp start : Nat) (os : List Nat) : KeepsNets (s.boundaryHeld line stamp start os) s := by
  induction os generalizing s with
  | nil => exact .refl s
  | cons o os ih => exact (ih _).trans (.ite (keepsNets_boundary1 ..) (.refl s))

theorem keepsNets_boundary (s : State) (c line stamp start : Nat) : KeepsNets (s.boundary c line stamp start) s :=
  (keepsNets_boundaryHeld ..).trans (keepsNets_boundary1 ..)

/-! ## Words that logic writes -/

theorem KeepsNets.modFab (s : State) (j : Nat) (g : Fab → Fab) : KeepsNets (s.modFab j g) s := .of_dict rfl rfl rfl rfl

theorem keepsNets_openWrite (s : State) (j c : Nat) : KeepsNets (s.openWrite j c) s := by
  unfold State.openWrite
  extract_lets f d stamp at_ r stamped p opened moved
  have hp : KeepsNets p.2 s := by
    unfold p stamped
    split
    · exact .refl s
    · exact keepsNets_stampRec ..
  clear_value p
  have hopened : KeepsNets opened p.2 := keepsNets_boundary ..
  clear_value opened
  exact (KeepsNets.modFab moved j _).trans ((KeepsNets.modCtx opened c _).trans (hopened.trans hp))

theorem keepsNets_endWrite (s : State) (j c : Nat) : KeepsNets (s.endWrite j c) s := by
  unfold State.endWrite
  extract_lets counted
  have hcounted : KeepsNets counted s := .ite ((keepsNets_countUnwritten ..).trans (KeepsNets.modCtx ..)) (.refl s)
  clear_value counted
  exact (KeepsNets.modFab ..).trans ((keepsNets_closeLineOf ..).trans hcounted)

theorem keepsNets_offerWord (s : State) (j c word : Nat) (eol : Bool) (own : Nat) : KeepsNets (s.offerWord j c word eol own) s := by
  unfold State.offerWord
  extract_lets opened written
  have hopened : KeepsNets opened s := .ite (.refl s) (keepsNets_openWrite ..)
  clear_value opened
  have hwritten : KeepsNets written opened := by
    unfold written
    split
    · exact .refl opened
    · exact .ite (.refl opened) ((keepsNets_toOut ..).trans (KeepsNets.modCtx ..))
  clear_value written
  exact .ite ((keepsNets_endWrite ..).trans (hwritten.trans hopened)) (hwritten.trans hopened)

theorem keepsNets_acceptOffer (s : State) (f : Placed) (x : CellUse) (o : Offer) : KeepsNets (s.acceptOffer f x o) s :=
  .ite (keepsNets_offerWord ..) (.refl s)

end Sys2Proof.Proofs
end

section
/-! # The trigger's place in the capture ring is no part of the fabric (R227, R231, R290, R294)

What the port cells serve rests on the graph, the coefficient sets and the rates, and on none of the probes' objects. -/

set_option Elab.async false

namespace Sys2Proof.Proofs

open Sys2Proof Sys2Proof.Machine Sys2Proof.Laws

/-- The snapshot's trigger has a place in the ring. -/
def indexMoved (s : State) (v : Nat) : State := s.set K.probeTriggerIndex v

variable {s : State} {v : Nat}

theorem obj_indexMoved {k : Nat} (h : k ≠ K.probeTriggerIndex) : (indexMoved s v).obj k = s.obj k := obj_set_ne _ _ h

/-- An object with another subindex. -/
theorem obj_indexMoved_sub {i b : Nat} (hb : b < 256) (h : b ≠ 8) : (indexMoved s v).obj (key i b) = s.obj (key i b) :=
  obj_indexMoved (key_ne hb (by decide) (.inr h))

theorem force_indexMoved {k : Nat} (h : k ≠ K.probeTriggerIndex) : (indexMoved s v).force k = s.force k :=
  congrArg ((Sp.find s.inForce k).getD ·) (obj_indexMoved h)

theorem force_indexMoved_sub {i b : Nat} (hb : b < 256) (h : b ≠ 8) : (indexMoved s v).force (key i b) = s.force (key i b) :=
  force_indexMoved (key_ne hb (by decide) (.inr h))

/-! ## The graph -/

theorem filter_keys_insert {f : Nat → Bool} (m : List (Nat × Nat)) {k : Nat} (x : Nat) (h : f k = false) :
    ((Sp.insert m k x).map (·.1)).filter f = (m.map (·.1)).filter f := by
  induction m with
  | nil => simp [Sp.insert, h]
  | cons e m ih =>
    unfold Sp.insert
    split
    · simp [h]
    · split
      next hk =>
        have he : f e.1 = false := hk ▸ h
        simp [h, he]
      · rw [List.map_cons, List.map_cons, List.filter_cons, List.filter_cons, ih]

theorem filter_keys_erase {f : Nat → Bool} (m : List (Nat × Nat)) {k : Nat} (h : f k = false) :
    ((Sp.erase m k).map (·.1)).filter f = (m.map (·.1)).filter f := by
  induction m with
  | nil => rfl
  | cons e m ih =>
    unfold Sp.erase
    split
    next hk =>
      have he : f e.1 = false := hk ▸ h
      simp [he, ih]
    · rw [List.map_cons, List.map_cons, List.filter_cons, List.filter_cons, ih]

/-- The stored objects of a range of indices. -/
theorem filter_keys_put {f : Nat → Bool} (d : Nat → Nat) (m : List (Nat × Nat)) {k : Nat} (x : Nat) (h : f k = false) :
    ((Sp.put d m k x).map (·.1)).filter f = (m.map (·.1)).filter f := by
  unfold Sp.put
  split
  · exact filter_keys_erase m h
  · exact filter_keys_insert m x h

/-- Whether a key stands in a range of indices with a subindex. -/
def inRange (lo hi sub k : Nat) : Bool := decide (lo ≤ k / 256) && decide (k / 256 < hi) && k % 256 == sub

theorem keysAt_indexMoved {lo hi sub : Nat} (h : sub ≠ 8) : (indexMoved s v).keysAt lo hi sub = s.keysAt lo hi sub := by
  have hout : inRange lo hi sub K.probeTriggerIndex = false := by
    simp [inRange, K.probeTriggerIndex, key, Ne.symm h]
  have hkept := filter_keys_put (defaultOf s.variant) s.dict v hout
  exact congrArg (fun ks => ((ks ++ (s.inForce.map (·.1)).filter (inRange lo hi sub)).foldl (fun m k => Sp.insert m k ()) []).map (·.1)) hkept

/-- A context's node reads as before, but for its coefficient set's place where the number is none of a context's. -/
theorem nodeOf_indexMoved (c : Nat) : (indexMoved s v).nodeOf c = { s.nodeOf c with cs := (indexMoved s v).force (K.graphNodeCs c) } := by
  simp (disch := decide) only [State.nodeOf, nodeBy, K.graphNodeSource, K.graphNodeInput, K.graphNodeInput2, K.graphNodeScan,
    K.graphNodeForm, K.graphNodeFe, K.graphNodeAdcMode, K.graphNodeCs, K.graphNodeRate, K.graphNodePhase, K.graphNodeChain,
    K.graphNodePitch, K.graphNodeBlock, K.graphNodeRetention, K.graphNodePolicy, K.graphNodeDest, K.graphNodeGroup, K.graphNodePeer,
    K.graphNodeDac, K.graphNodeReplayLane, K.graphNodeOutRate, K.graphNodeLineBytes, K.graphNodePins, K.graphNodeRawRetention,
    K.graphNodeDwell, K.graphNodeBlank, force_indexMoved_sub]

theorem nodeOf_context_indexMoved {c : Nat} (h : c < 1024) : (indexMoved s v).nodeOf c = s.nodeOf c := by
  have hcs : (indexMoved s v).force (K.graphNodeCs c) = s.force (K.graphNodeCs c) :=
    force_indexMoved (key_ne (by decide) (by decide) (.inl (by omega)))
  rw [nodeOf_indexMoved, hcs]
  rfl

theorem graphNodes_indexMoved : (indexMoved s v).graphNodes = s.graphNodes := by
  have hnodes : ∀ c ∈ (s.keysAt 0x2400 0x2800 1).map (fun k => k / 256 - 0x2400), c < 1024 := by
    simp only [List.mem_map, mem_keysAt]
    omega
  have hsource (c : Nat) : (indexMoved s v).force (K.graphNodeSource c) = s.force (K.graphNodeSource c) := force_indexMoved_sub (by decide) (by decide)
  unfold State.graphNodes State.nodesBy
  simp only [keysAt_indexMoved (s := s) (v := v) (sub := 1) (by decide), hsource]
  exact List.map_congr_left fun c hc => nodeOf_context_indexMoved (hnodes c (List.mem_filter.1 hc).1)

theorem graphPieces_indexMoved : (indexMoved s v).graphPieces = s.graphPieces := by
  have hpieces : pieceBy (indexMoved s v).force = pieceBy s.force := by
    funext j
    simp (disch := decide) only [pieceBy, K.graphPieceClusters, K.graphPiecePorts, K.graphPieceSector, K.graphPieceDelay,
      K.graphPieceWarmup, K.graphPieceInputs, force_indexMoved_sub]
  have hclusters (j : Nat) : (indexMoved s v).force (K.graphPieceClusters j) = s.force (K.graphPieceClusters j) :=
    force_indexMoved_sub (by decide) (by decide)
  unfold State.graphPieces State.piecesBy
  simp only [keysAt_indexMoved (s := s) (v := v) (sub := 1) (by decide), hpieces, hclusters]

/-! ## Rates -/

theorem triggerRate_indexMoved (p : Nat) : (indexMoved s v).triggerRate p = s.triggerRate p := by
  have hencoders : (indexMoved s v).force K.graphEncoders = s.force K.graphEncoders := force_indexMoved_sub (by decide) (by decide)
  have hmax (e : Nat) : (indexMoved s v).obj (K.encRateMax e) = s.obj (K.encRateMax e) := obj_indexMoved_sub (by decide) (by decide)
  have hpitch : (indexMoved s v).force (K.pitchPitch p) = s.force (K.pitchPitch p) := force_indexMoved_sub (by decide) (by decide)
  unfold State.triggerRate
  dsimp only
  rw [hencoders, hmax, hpitch]

theorem lineRate_indexMoved (ns : List Node) (ps : List Piece) (fuel : Nat) (n : Node) :
    lineRate (indexMoved s v) ns ps fuel n = lineRate s ns ps fuel n := by
  induction fuel generalizing n with
  | zero => rfl
  | succ fuel ih => simp only [lineRate, triggerRate_indexMoved, ih]

theorem span_indexMoved (sets : List Nat) : (indexMoved s v).span sets = s.span sets := by
  have htaps : (indexMoved s v).taps = s.taps := by
    funext c
    simp (disch := decide) only [State.taps, State.coef, K.versionsMgmtRunning, K.feSetCoef, obj_indexMoved_sub]
  rw [State.span, State.span, htaps]

theorem rawLineBytes_indexMoved (n : Node) : rawLineBytes (indexMoved s v) n = rawLineBytes s n := by
  have hlength : (indexMoved s v).obj (K.dacWaveLength n.input) = s.obj (K.dacWaveLength n.input) := obj_indexMoved_sub (by decide) (by decide)
  have hformat : (indexMoved s v).obj (K.dacWaveFormat n.input) = s.obj (K.dacWaveFormat n.input) := obj_indexMoved_sub (by decide) (by decide)
  unfold rawLineBytes
  rw [hlength, hformat, triggerRate_indexMoved]

theorem lineBytesOf_indexMoved (n : Node) : lineBytesOf (indexMoved s v) n = lineBytesOf s n := by
  rw [lineBytesOf, lineBytesOf, span_indexMoved, rawLineBytes_indexMoved]

theorem declaredRate_indexMoved (ns : List Node) (ps : List Piece) (n : Node) :
    declaredRate (indexMoved s v) ns ps n = declaredRate s ns ps n := by
  simp only [declaredRate, lineRate_indexMoved, lineBytesOf_indexMoved]

/-- No rate rests on where a node's coefficients are. -/
theorem declaredRate_cs (s : State) (ns : List Node) (ps : List Piece) (n : Node) (x : Nat) :
    declaredRate s ns ps { n with cs := x } = declaredRate s ns ps n := rfl

theorem portRate_indexMoved (c : Nat) : (indexMoved s v).portRate c = s.portRate c := by
  have hsource : (indexMoved s v).node (K.graphNodeSource c) = s.node (K.graphNodeSource c) := force_indexMoved_sub (by decide) (by decide)
  have hout : (indexMoved s v).node (K.graphNodeOutRate c) = s.node (K.graphNodeOutRate c) := force_indexMoved_sub (by decide) (by decide)
  unfold State.portRate
  rw [hsource, hout, graphNodes_indexMoved, graphPieces_indexMoved, declaredRate_indexMoved, nodeOf_indexMoved, declaredRate_cs]

/-! ## What the port cells serve -/

theorem runs_indexMoved (cs : List Nat) : (indexMoved s v).runs cs = s.runs cs := by
  have hrun : (indexMoved s v).runLength = s.runLength := by
    funext c
    rw [State.runLength, State.runLength, portRate_indexMoved]
  rw [State.runs, State.runs, hrun]

theorem pieceInputs_indexMoved (j : Nat) : (indexMoved s v).pieceInputs j = s.pieceInputs j := by
  simp (disch := decide) only [State.pieceInputs, K.graphPieceInputs, force_indexMoved_sub]

theorem outputsInOrder_indexMoved (j : Nat) : (indexMoved s v).outputsInOrder j = s.outputsInOrder j := by
  have hringed : (indexMoved s v).ringed = s.ringed := rfl
  simp (disch := decide) only [State.outputsInOrder, State.pieceOutputs, hringed, State.node, K.graphNodeSource, K.graphNodeInput, K.ctxPiece,
    force_indexMoved_sub, obj_indexMoved_sub]

theorem cellByte_indexMoved (q k : Nat) : (indexMoved s v).cellByte q k = s.cellByte q k := by
  simp (disch := decide) only [State.cellByte, K.fabricSectorPortRoles, obj_indexMoved_sub]

theorem nodeMode_indexMoved (c : Nat) : ((indexMoved s v).nodeOf c).mode = (s.nodeOf c).mode := by rw [nodeOf_indexMoved]; rfl

theorem cellsOf_indexMoved (f : Placed) : (indexMoved s v).cellsOf f = s.cellsOf f := by
  have hports : (indexMoved s v).force (K.graphPiecePorts f.1) = s.force (K.graphPiecePorts f.1) := force_indexMoved_sub (by decide) (by decide)
  simp only [State.cellsOf, hports, State.cellRole, cellByte_indexMoved, runs_indexMoved, pieceInputs_indexMoved, outputsInOrder_indexMoved,
    nodeMode_indexMoved]

theorem sectorRuns_indexMoved (q : Nat) : (indexMoved s v).sectorRuns q = s.sectorRuns q := by
  have hmode : (indexMoved s v).mode = s.mode := obj_indexMoved_sub (by decide) (by decide)
  have hstep : (indexMoved s v).obj K.deviceModeStep = s.obj K.deviceModeStep := obj_indexMoved_sub (by decide) (by decide)
  have hsector : (indexMoved s v).obj (K.configSectorState q) = s.obj (K.configSectorState q) := obj_indexMoved_sub (by decide) (by decide)
  unfold State.sectorRuns State.prepAt
  rw [hmode, hstep, hsector]
  rfl

theorem logicSectors_indexMoved : (indexMoved s v).logicSectors = s.logicSectors := by
  have hframes : (indexMoved s v).frames = s.frames := rfl
  have hin (q : Nat) : (indexMoved s v).framesIn q = s.framesIn q := rfl
  have hvariant : (indexMoved s v).variant = s.variant := rfl
  unfold State.logicSectors
  rw [hframes, hvariant]
  simp only [sectorRuns_indexMoved, hin]

theorem liveCells_indexMoved : (indexMoved s v).liveCells = s.liveCells := by
  have hframes (q : Nat) : (indexMoved s v).framesIn q = s.framesIn q := rfl
  simp only [State.liveCells, logicSectors_indexMoved, hframes, cellsOf_indexMoved]

end Sys2Proof.Proofs
end

section
/-! # Edges of a pace wire (R288, R291, R292, R294, R296) -/

set_option Elab.async false

namespace Sys2Proof.Proofs

open Sys2Proof Sys2Proof.Machine Sys2Proof.Laws

variable {s u v : State} {i t taps : Nat} {full : List (Nat × Nat)} {f : Placed} {x : CellUse}

/-! ## The next word of a cell -/

theorem keepsNets_moveReader (s : State) (c : Nat) (kind : ReaderKind) (j next : Nat) : KeepsNets (s.moveReader c kind j next) s :=
  .of_dict rfl rfl rfl rfl

theorem keepsNets_openRead (s : State) (j c : Nat) (rec : LineRec) : KeepsNets (s.openRead j c rec) s := by
  unfold State.openRead
  extract_lets inherited
  have hinherited : KeepsNets inherited s := .foldl _ (fun t o => .modCtx t o _) _ s
  clear_value inherited
  exact (KeepsNets.modFab ..).trans hinherited

theorem keepsNets_takeLine (s : State) (j c n : Nat) : KeepsNets (s.takeLine j c n) s := by
  induction n generalizing s with
  | zero => exact .refl s
  | succ n ih =>
    unfold State.takeLine
    extract_lets r k lr opened
    have hopened : KeepsNets opened s := (KeepsNets.modFab ..).trans (keepsNets_openRead ..)
    clear_value opened
    exact .ite (.refl s) (.ite (.refl s) (.ite ((ih _).trans ((keepsNets_moveReader ..).trans hopened)) ((KeepsNets.modFab opened j _).trans hopened)))

theorem keepsNets_wordTaken (s : State) (j c k off length : Nat) : KeepsNets (s.wordTaken j c k off length) s :=
  .ite ((keepsNets_moveReader ..).trans (.modFab s j _)) (.modFab s j _)

theorem keepsNets_readWord (s : State) (j : Nat) (x : CellUse) : KeepsNets (s.readWord j x).2 s := by
  unfold State.readWord
  extract_lets taken
  have htaken : KeepsNets taken s := .ite (keepsNets_takeLine ..) (.refl s)
  clear_value taken
  split
  · exact htaken
  · split
    · exact htaken
    · exact (keepsNets_wordTaken ..).trans htaken

theorem keepsNets_coarseWord (s : State) (j c : Nat) : KeepsNets (s.coarseWord j c).2 s := by
  unfold State.coarseWord
  split
  · exact .refl s
  · split
    · exact .of_dict rfl rfl rfl rfl
    · exact .of_dict rfl rfl rfl rfl

theorem keepsNets_nextWord (s : State) (f : Placed) (x : CellUse) : KeepsNets (s.nextWord f x).2 s := by
  unfold State.nextWord
  extract_lets j
  split
  · split
    · exact .refl s
    · exact keepsNets_readWord ..
  · split
    · split
      · exact keepsNets_coarseWord ..
      · exact .refl s
    · exact .refl s

/-! ## The samples stand while the fabric is clocked -/

theorem stepPaced_samples (s : State) (full : List (Nat × Nat)) (f : Placed) (x : CellUse) : (s.stepPaced full f x).samples = s.samples := by
  unfold State.stepPaced
  split
  · rfl
  · exact (keepsNets_nextWord s f x).samples

/-- The PACED cells in use on a pace wire. -/
def pacedCells (s : State) (i : Nat) : List (Placed × CellUse) :=
  s.liveCells.filter (fun e => s.cellMode e.1.2.1 e.2.cell == 0 && s.cellWire e.1.2.1 e.2.cell == i)

/-- What logic offers at a cell, and whether its READY is high. -/
def offerAt (s : State) (e : Placed × CellUse) : (Placed × CellUse) × Offer × Bool :=
  (e, s.pinsAt e.1 e.2.cell, ((s.net e.1.2.1).cell e.2.cell).testBit 33)

/-- The words that logic offers at the WRITE cells of a pace wire. -/
def pacedOffers (s : State) (i : Nat) : List ((Placed × CellUse) × Offer × Bool) :=
  ((pacedCells s i).filter (fun e => e.2.role == 2 && (s.pinsAt e.1 e.2.cell).valid)).map (offerAt s)

/-- The cells of a pace wire change. -/
def pacedStep (full : List (Nat × Nat)) (cells : List (Placed × CellUse)) (st : State) : State :=
  cells.foldl (fun u e => u.stepPaced full e.1 e.2) st

/-- A word offered is taken, or dropped where READY was low. -/
def offerMet (st : State) (e : (Placed × CellUse) × Offer × Bool) : State :=
  if e.2.2 then st.acceptOffer e.1.1 e.1.2 e.2.1 else st.count (K.fabricSectorDropped e.1.1.2.1) 32 1

/-- The clock lines that a pace wire drives. -/
def paceSource (i : Nat) (_ w : Nat) : Bool := w == 0x1000 + i

theorem paceLogic_eq (s : State) (i : Nat) (full : List (Nat × Nat)) :
    s.paceLogic i full = (pacedOffers s i).foldl offerMet (s.pulse (paceSource i) (pacedStep full (pacedCells s i))) := rfl

theorem pacedStep_samples (cells : List (Placed × CellUse)) (s : State) : (pacedStep full cells s).samples = s.samples := by
  induction cells generalizing s with
  | nil => rfl
  | cons e cells ih => exact (ih _).trans (stepPaced_samples ..)

theorem offerMet_samples (s : State) (e : (Placed × CellUse) × Offer × Bool) : (offerMet s e).samples = s.samples := by
  unfold offerMet
  split
  · exact (keepsNets_acceptOffer ..).samples
  · exact count_samples ..

theorem offersMet_samples (es : List ((Placed × CellUse) × Offer × Bool)) (s : State) : (es.foldl offerMet s).samples = s.samples := by
  induction es generalizing s with
  | nil => rfl
  | cons e es ih => exact (ih _).trans (offerMet_samples s e)

theorem paceLogic_samples (s : State) (i : Nat) (full : List (Nat × Nat)) : (s.paceLogic i full).samples = s.samples := by
  obtain ⟨v, ⟨hbefore, -⟩, hafter, -⟩ := pulse_runs s (paceSource i) (pacedStep full (pacedCells s i))
  calc (s.paceLogic i full).samples
      = (s.pulse (paceSource i) (pacedStep full (pacedCells s i))).samples := offersMet_samples ..
    _ = (pacedStep full (pacedCells s i) v).samples := hafter.samples
    _ = v.samples := pacedStep_samples ..
    _ = s.samples := hbefore.samples

/-! ## The command -/

/-- The capture's part of an edge: a sample where it runs and its wire is the one. -/
def sampledAt (s : State) (i taps : Nat) : State := if s.obj K.probePace = i && s.captures then s.sampleProbes taps else s

/-- PACE_WIRE_EDGE of a wire that runs: the probes are sampled, then fabric and Backstop clocked. -/
theorem xPaceEdge_runs (hi : i < 8) (hon : s.paceOn i = true) :
    xPaceEdge i ⟨taps, full⟩ s = ((sampledAt s i taps).paceLogic i full).bsPace i := by
  have hruns : ¬ (decide (i ≥ 8) || !s.paceOn i) = true := by simp [hi, hon]
  exact if_neg hruns

theorem bsPace_samples (s : State) (i : Nat) : (s.bsPace i).samples = s.samples := rfl

theorem bsPace_nets (s : State) (i : Nat) : (s.bsPace i).nets = s.nets := rfl

theorem bsPace_obj (s : State) (i k : Nat) : (s.bsPace i).obj k = s.obj k := rfl

theorem begin_paceOn (s : State) (t i : Nat) : (s.begin_ t).paceOn i = s.paceOn i := rfl

theorem xPaceEdge_samples (hi : i < 8) (hon : s.paceOn i = true) :
    (xPaceEdge i ⟨taps, full⟩ s).samples = (sampledAt s i taps).samples := by
  rw [xPaceEdge_runs hi hon, bsPace_samples, paceLogic_samples]

/-! ## The capture takes a sample -/

/-- The sum of the powers of two at which a predicate holds has those bits. -/
theorem testBit_sumOfPowers (p : Nat → Bool) (n : Nat) :
    (List.range n).foldl (fun a m => if p m then a + 2 ^ m else a) 0 < 2 ^ n ∧
      ∀ m < n, ((List.range n).foldl (fun a m => if p m then a + 2 ^ m else a) 0).testBit m = p m := by
  induction n with
  | zero => simp
  | succ n ih =>
    obtain ⟨hlt, hbit⟩ := ih
    rw [List.range_succ, List.foldl_append]
    generalize (List.range n).foldl (fun a m => if p m then a + 2 ^ m else a) 0 = a at hlt hbit
    refine ⟨?_, fun m hm => ?_⟩
    · simp only [List.foldl_cons, List.foldl_nil]
      split <;> omega
    · simp only [List.foldl_cons, List.foldl_nil]
      rcases Nat.lt_succ_iff_lt_or_eq.1 hm with hm | rfl
      · split
        · rw [Nat.add_comm, Nat.testBit_two_pow_add_gt hm, hbit m hm]
        · exact hbit m hm
      · split
        next hp => rw [Nat.add_comm, Nat.testBit_two_pow_add_eq, Nat.testBit_lt_two_pow hlt, hp, Bool.not_false]
        next hp => rw [Nat.testBit_lt_two_pow hlt, Bool.eq_false_iff.2 hp]

/-- One sample of all probes. -/
def probeSample (s : State) (taps : Nat) : Nat := (List.range 16).foldl (fun a m => if s.probeLevel taps m then a + 2 ^ m else a) 0

theorem sampleProbes_samples (s : State) (taps : Nat) :
    (s.sampleProbes taps).samples = (probeSample s taps :: s.samples).take s.ringSamples := by
  unfold State.sampleProbes
  extract_lets v full kept
  split
  · exact set_samples ..
  · rfl

theorem probeLevel_tap {m : Nat} (h : s.obj (K.probeNet m) < 0x400) : s.probeLevel taps m = s.tapLevel (s.obj (K.probeNet m)) := if_pos h

theorem probeLevel_macro {m : Nat} (hlo : 0x400 ≤ s.obj (K.probeNet m)) (hhi : s.obj (K.probeNet m) < 0x500) :
    s.probeLevel taps m = s.macroOut.testBit (s.obj (K.probeNet m) - 0x400) := by
  unfold State.probeLevel
  dsimp only
  rw [if_neg (by omega), if_pos hhi]

theorem probeLevel_brought {m : Nat} (h : (0xA00 ≤ s.obj (K.probeNet m) ∧ s.obj (K.probeNet m) < 0xA48) ∨
    (0xB00 ≤ s.obj (K.probeNet m) ∧ s.obj (K.probeNet m) < 0xB20)) : s.probeLevel taps m = taps.testBit m := by
  unfold State.probeLevel
  dsimp only
  generalize s.obj (K.probeNet m) = net at h
  rw [if_neg (by omega), if_neg (by omega), if_neg (by omega)]
  rcases h with ⟨hlo, hhi⟩ | ⟨hlo, hhi⟩
  · rw [if_pos (by simp [hlo, hhi])]
  · rw [if_neg (by simp; omega), if_pos (by simp [hlo, hhi])]

theorem paceEdge_captures (hheld : s.held = false) (hi : i < 8) (hon : s.paceOn i = true) (hpace : s.obj K.probePace = i)
    (harmed : s.obj K.probeState = 1) :
    Completes (.paceWireEdge t i ⟨taps, full⟩) s
      (fun u => u.samples.length = min (s.samples.length + 1) s.ringSamples ∧
        ∀ v, u.samples.head? = some v → ∀ m < 16,
          (s.obj (K.probeNet m) < 0x400 → v.testBit m = (s.begin_ t).tapLevel (s.obj (K.probeNet m))) ∧
          (0x400 ≤ s.obj (K.probeNet m) → s.obj (K.probeNet m) < 0x500 →
            v.testBit m = (s.begin_ t).macroOut.testBit (s.obj (K.probeNet m) - 0x400)) ∧
          ((0xA00 ≤ s.obj (K.probeNet m) ∧ s.obj (K.probeNet m) < 0xA48) ∨
            (0xB00 ≤ s.obj (K.probeNet m) ∧ s.obj (K.probeNet m) < 0xB20) → v.testBit m = taps.testBit m))
      (fun _ => True) := by
  have hsampled : sampledAt (s.begin_ t) i taps = (s.begin_ t).sampleProbes taps := by
    have hpace' : (s.begin_ t).obj K.probePace = i := hpace
    have harmed' : (s.begin_ t).obj K.probeState = 1 := harmed
    exact if_pos (by simp [State.captures, hpace', harmed'])
  have hsamples : (xPaceEdge i ⟨taps, full⟩ (s.begin_ t)).samples =
      (probeSample (s.begin_ t) taps :: s.samples).take s.ringSamples := by
    rw [xPaceEdge_samples (s := s.begin_ t) hi hon, hsampled, sampleProbes_samples]
    rfl
  refine completes_eventOf (exec_paceWireEdge t i ⟨taps, full⟩ s) (by simp [hi]) hheld ?_
  rw [hsamples]
  refine ⟨by rw [List.length_take, List.length_cons, Nat.min_comm], fun w hw m hm => ?_⟩
  have hw' : w = probeSample (s.begin_ t) taps := by
    cases hring : s.ringSamples with
    | zero => simp [hring] at hw
    | succ n => simpa [hring] using hw.symm
  have hbit : w.testBit m = (s.begin_ t).probeLevel taps m := hw' ▸ (testBit_sumOfPowers ((s.begin_ t).probeLevel taps) 16).2 m hm
  rw [hbit]
  exact ⟨probeLevel_tap (s := s.begin_ t), probeLevel_macro (s := s.begin_ t), probeLevel_brought (s := s.begin_ t)⟩

/-! ## Another wire's edge -/

theorem sampledAt_other (h : s.obj K.probePace ≠ i) : sampledAt s i taps = s := if_neg (by simp [h])

theorem liveCells_still (h : s.logicSectors = []) : s.liveCells = [] := by rw [State.liveCells, h]; rfl

theorem paceLogic_still (h : s.logicSectors = []) : s.paceLogic i full = s := by
  have hcells : pacedCells s i = [] := by rw [pacedCells, liveCells_still h]; rfl
  have hoffers : pacedOffers s i = [] := by rw [pacedOffers, hcells]; rfl
  have hempty : s.logicSectors.isEmpty = true := by rw [h]; rfl
  rw [paceLogic_eq, hoffers, hcells]
  exact if_pos hempty

theorem paceEdge_other (hheld : s.held = false) (hi : i < 8) (hon : s.paceOn i = true) (hpace : s.obj K.probePace ≠ i) :
    Completes (.paceWireEdge t i ⟨taps, full⟩) s (fun u => u.samples = s.samples) (fun _ => True) ∧
    (s.logicSectors = [] → s.safeAsk = 0 → Sets (.paceWireEdge t i ⟨taps, full⟩) s [] (fun u => u.nets = s.nets)) := by
  have hsampled : sampledAt (s.begin_ t) i taps = s.begin_ t := sampledAt_other (s := s.begin_ t) hpace
  refine ⟨?_, fun hstill hsafe => ?_⟩
  · refine completes_eventOf (exec_paceWireEdge t i ⟨taps, full⟩ s) (by simp [hi]) hheld ?_
    rw [xPaceEdge_samples (s := s.begin_ t) hi hon, hsampled]
    rfl
  · have heffect : xPaceEdge i ⟨taps, full⟩ (s.begin_ t) = (s.begin_ t).bsPace i := by
      rw [xPaceEdge_runs (s := s.begin_ t) hi hon, hsampled, paceLogic_still (s := s.begin_ t) hstill]
    refine sets_eventOf (exec_paceWireEdge t i ⟨taps, full⟩ s) (by simp [hi]) ⟨hheld, hsafe⟩ ?_ (holds_nil _) ?_
    · rw [heffect]
      exact leaves_of_dict rfl rfl rfl rfl rfl rfl
    · rw [heffect]
      rfl

/-! ## A PACED cell of logic's words -/

/-- What an edge does with the fabric's cells is as before the capture's sample. -/
structure SameCells (u s : State) : Prop where
  live : u.liveCells = s.liveCells
  mode : ∀ q k, u.cellMode q k = s.cellMode q k
  wire : ∀ q k, u.cellWire q k = s.cellWire q k
  pins : ∀ f k, u.pinsAt f k = s.pinsAt f k
  nets : u.nets = s.nets
  dropped : ∀ q, u.obj (K.fabricSectorDropped q) = s.obj (K.fabricSectorDropped q)

theorem SameCells.refl (s : State) : SameCells s s := ⟨rfl, fun _ _ => rfl, fun _ _ => rfl, fun _ _ => rfl, rfl, fun _ => rfl⟩

theorem SameCells.trans (h : SameCells u v) (g : SameCells v s) : SameCells u s :=
  ⟨h.live.trans g.live, fun q k => (h.mode q k).trans (g.mode q k), fun q k => (h.wire q k).trans (g.wire q k),
    fun f k => (h.pins f k).trans (g.pins f k), h.nets.trans g.nets, fun q => (h.dropped q).trans (g.dropped q)⟩

/-- The capture ring holds other samples. -/
def resampled (s : State) (vs : List Nat) : State := { s with samples := vs }

theorem sameCells_resampled (s : State) (vs : List Nat) : SameCells (resampled s vs) s :=
  ⟨rfl, fun _ _ => rfl, fun _ _ => rfl, fun _ _ => rfl, rfl, fun _ => rfl⟩

theorem sameCells_indexMoved (s : State) (n : Nat) : SameCells (indexMoved s n) s where
  live := liveCells_indexMoved
  mode q k := by rw [State.cellMode, State.cellMode, cellByte_indexMoved]
  wire q k := by rw [State.cellWire, State.cellWire, cellByte_indexMoved]
  pins _ _ := rfl
  nets := rfl
  dropped _ := obj_indexMoved_sub (by decide) (by decide)

theorem sameCells_sampledAt (s : State) (i taps : Nat) : SameCells (sampledAt s i taps) s := by
  have hsample : SameCells (s.sampleProbes taps) s := by
    unfold State.sampleProbes
    extract_lets v full kept
    have hkept : SameCells kept s := sameCells_resampled ..
    clear_value kept
    split
    · exact (sameCells_indexMoved ..).trans hkept
    · exact hkept
  unfold sampledAt
  split
  · exact hsample
  · exact .refl s

theorem pacedCells_single (hlive : s.liveCells = [(f, x)]) (hmode : s.cellMode f.2.1 x.cell = 0) (hwire : s.cellWire f.2.1 x.cell = i) :
    pacedCells s i = [(f, x)] := by simp [pacedCells, hlive, hmode, hwire]

theorem liveCell_sector (hlive : s.liveCells = [(f, x)]) : f.2.1 < 4 := by
  have hmem : (f, x) ∈ s.liveCells := by simp [hlive]
  simp only [State.liveCells, State.framesIn, List.mem_flatMap, List.mem_map, List.mem_filter, Prod.mk.injEq, beq_iff_eq] at hmem
  obtain ⟨q, hq, g, ⟨-, hsector⟩, y, -, rfl, -⟩ := hmem
  exact hsector ▸ sector_lt hq

/-- A word that logic offered while READY was low is lost. -/
def wordLost (s : State) (f : Placed) (x : CellUse) : Bool := (s.pinsAt f x.cell).valid && !((s.net f.2.1).cell x.cell).testBit 33

/-- What a WRITE cell shows after an edge. -/
def readyShown (full : List (Nat × Nat)) (f : Placed) (x : CellUse) : Nat := if full.contains (f.2.1, x.cell) then 0 else 2 ^ 33

theorem settledKey_dropped {q : Nat} (h : q < 4) : settledKey (K.fabricSectorDropped q) = false := by
  have hq : q = 0 ∨ q = 1 ∨ q = 2 ∨ q = 3 := by omega
  rcases hq with rfl | rfl | rfl | rfl <;> decide

theorem pacedStep_single (s : State) (hrole : x.role = 2) :
    pacedStep full [(f, x)] s = s.showCell f.2.1 x.cell (readyShown full f x) := if_pos hrole

theorem pulse_paced (s : State) (hrole : x.role = 2) (hsector : f.2.1 < 4) :
    ((s.pulse (paceSource i) (pacedStep full [(f, x)])).net f.2.1).cell x.cell = readyShown full f x ∧
      (s.pulse (paceSource i) (pacedStep full [(f, x)])).obj (K.fabricSectorDropped f.2.1) = s.obj (K.fabricSectorDropped f.2.1) := by
  obtain ⟨v, ⟨-, hsame⟩, hafter, hsame'⟩ := pulse_runs s (paceSource i) (pacedStep full [(f, x)])
  rw [hafter.cell, hsame'.obj _ (settledKey_dropped hsector), pacedStep_single v hrole]
  exact ⟨showCell_cell .., hsame.obj _ (settledKey_dropped hsector)⟩

theorem pacedOffers_single (hcells : pacedCells s i = [(f, x)]) (hrole : x.role = 2) :
    pacedOffers s i = if (s.pinsAt f x.cell).valid then [offerAt s (f, x)] else [] := by
  cases hvalid : (s.pinsAt f x.cell).valid <;> simp [pacedOffers, hcells, hrole, hvalid]

theorem paceLogic_single (hlive : s.liveCells = [(f, x)]) (hrole : x.role = 2) (hmode : s.cellMode f.2.1 x.cell = 0)
    (hwire : s.cellWire f.2.1 x.cell = i) :
    ((s.paceLogic i full).net f.2.1).cell x.cell = readyShown full f x ∧
      (s.paceLogic i full).obj (K.fabricSectorDropped f.2.1) =
        if wordLost s f x then satAdd 32 (s.obj (K.fabricSectorDropped f.2.1)) 1 else s.obj (K.fabricSectorDropped f.2.1) := by
  have hcells := pacedCells_single hlive hmode hwire
  have hsector := liveCell_sector hlive
  obtain ⟨hshown, hdropped⟩ := pulse_paced (i := i) (full := full) s hrole hsector
  rw [paceLogic_eq, pacedOffers_single hcells hrole, hcells]
  generalize s.pulse (paceSource i) (pacedStep full [(f, x)]) = u at hshown hdropped
  unfold wordLost
  cases (s.pinsAt f x.cell).valid with
  | false => exact ⟨hshown, hdropped⟩
  | true =>
    have hmet : [offerAt s (f, x)].foldl offerMet u =
        if ((s.net f.2.1).cell x.cell).testBit 33 then u.acceptOffer f x (s.pinsAt f x.cell) else u.count (K.fabricSectorDropped f.2.1) 32 1 := rfl
    rw [if_pos rfl, hmet]
    cases ((s.net f.2.1).cell x.cell).testBit 33 with
    | false =>
      refine ⟨hshown, ?_⟩
      rw [← hdropped]
      exact obj_count_self ..
    | true =>
      have hkept := keepsNets_acceptOffer u f x (s.pinsAt f x.cell)
      have hnet : (u.acceptOffer f x (s.pinsAt f x.cell)).net f.2.1 = u.net f.2.1 :=
        congrArg (fun m => Sp.get (fun _ => Net.none_) m f.2.1) hkept.nets
      exact ⟨(congrArg (Net.cell · x.cell) hnet).trans hshown, (hkept.dropped _ hsector).trans hdropped⟩

theorem paceEdge_writes (hheld : s.held = false) (hi : i < 8) (hon : s.paceOn i = true) (hlive : s.liveCells = [(f, x)]) (hrole : x.role = 2)
    (hmode : s.cellMode f.2.1 x.cell = 0) (hwire : s.cellWire f.2.1 x.cell = i) :
    Completes (.paceWireEdge t i ⟨taps, full⟩) s
      (fun u => (u.net f.2.1).cell x.cell = readyShown full f x ∧
        u.obj (K.fabricSectorDropped f.2.1) =
          if wordLost s f x then satAdd 32 (s.obj (K.fabricSectorDropped f.2.1)) 1 else s.obj (K.fabricSectorDropped f.2.1))
      (fun _ => True) := by
  have hsame := sameCells_sampledAt (s.begin_ t) i taps
  have hedge := xPaceEdge_runs (s := s.begin_ t) (taps := taps) (full := full) hi hon
  generalize sampledAt (s.begin_ t) i taps = u at hsame hedge
  have hlogic := paceLogic_single (full := full) (hsame.live.trans hlive) hrole ((hsame.mode ..).trans hmode) ((hsame.wire ..).trans hwire)
  have hnet : u.net f.2.1 = s.net f.2.1 := congrArg (fun m => Sp.get (fun _ => Net.none_) m f.2.1) hsame.nets
  have hpins : u.pinsAt f x.cell = s.pinsAt f x.cell := hsame.pins f x.cell
  have hlost : wordLost u f x = wordLost s f x := by rw [wordLost, wordLost, hnet, hpins]
  have hcount : u.obj (K.fabricSectorDropped f.2.1) = s.obj (K.fabricSectorDropped f.2.1) := hsame.dropped _
  rw [hlost, hcount] at hlogic
  refine completes_eventOf (exec_paceWireEdge t i ⟨taps, full⟩ s) (by simp [hi]) hheld ?_
  rw [hedge]
  exact hlogic

end Sys2Proof.Proofs
end

section
/-! # The fabric and the probes (O54) -/

set_option Elab.async false

namespace Sys2Proof.Proofs

open Sys2Proof Sys2Proof.Machine Sys2Proof.Laws

/-- Settles O54: a word written to a memory is the one read at its places, a product is added at every edge, and of an edge or a pulse the
logic that runs leaves all but its nets, so that what port cells, wires and probes do is seen through it. -/
theorem fabricAndProbesRun : Obligations.FabricAndProbesRun := by
  unfold Obligations.FabricAndProbesRun
  refine ⟨fun m v w a b hw => memory_readsBack m v a b hw, fun m xs hsum hin hproduct hcascade => mac_accumulates m xs ⟨hsum, hin, hproduct, hcascade⟩,
    fun s q l t hsafe => ⟨fun h => probeArm_writes hsafe h, fun hheld harmed => probe_triggers ⟨hheld, hsafe⟩ harmed,
      fun hheld htriggered htaken => probe_done ⟨hheld, hsafe⟩ htriggered htaken⟩,
    fun s t q k f x h hq hk hcell => ⟨portCell_paced h hq hk hcell, fun v hmode hrole hunit hv => portCell_coarse h hq hk hcell hmode hrole hunit hv,
      fun line off hmode hrole hred hhand hturn => portCell_reads h.1 hq hk hcell hmode hrole hred hhand hturn,
      fun line hmode hrole hunit hwrites hcur hempty htile => portCell_shakes h hq hk hcell hmode hrole hunit hwrites hcur hempty htile⟩,
    fun s t q i hheld hq hruns => ?_,
    fun s t i taps full hheld hi hon => ⟨fun hpace harmed => paceEdge_captures hheld hi hon hpace harmed, paceEdge_other hheld hi hon,
      fun f x hlive hrole hmode hwire => paceEdge_writes hheld hi hon hlive hrole hmode hwire⟩⟩
  refine ⟨fun hi hsafe => (plainWires_set ⟨hheld, hsafe⟩ hq hruns).1 hi,
    fun hi => ⟨strobeWire_completes hheld hq hruns hi, blankWire_completes hheld hq hruns hi⟩,
    fun hi hsafe => (plainWires_set ⟨hheld, hsafe⟩ hq hruns).2 hi⟩

end Sys2Proof.Proofs
end
